-- ==== Sys2Proof/Word.lean ====
section
/-!
DEFINITION. Words, bytes and the plain data that commands carry (00_scope, Register conventions; R200, R328).
-/

namespace Sys2Proof

/-- A register word, 32 bits, little-endian in memory (00_scope, Register conventions). -/
abbrev Word := BitVec 32

/-- An instruction word or a lane block payload, 64 bits (R57, R328). -/
abbrev Word64 := BitVec 64

/-- The smallest addressable unit of memory. -/
abbrev Byte := BitVec 8

/-- The access source of a register access (R5, R14): the host, one of the four management cores, Hoop remote access. -/
inductive Source where
  | host
  | core (k : Fin 4)
  | hoop
  deriving DecidableEq, Repr

/-- The part's variants (R2). -/
inductive Variant where
  | t32f | t32s | t16 | t08
  deriving DecidableEq, Repr

/-- A Hoop packet (R200): its header fields and its payload bytes in address order; LEN and the CRC follow from them. -/
structure Packet where
  cls : Nat
  bcast : Bool
  hops : Nat
  dst : Nat
  src : Nat
  seq : Nat
  tag : Nat
  payload : List Byte
  deriving DecidableEq, Repr

/-- A 66-bit lane block (R328): the sync header, whose bit 0 goes first on the wire, and the payload before scrambling. -/
structure Block where
  hdr : BitVec 2
  payload : Word64
  deriving DecidableEq, Repr

/-- A camera port's inputs at one edge of its pixel clock (R282, R283): the edge falls, data, and the levels of HS, VS and DE. -/
structure CamEdge where
  falling : Bool
  d : Nat
  hs : Bool
  vs : Bool
  de : Bool
  deriving DecidableEq, Repr

/-- What the outside presents to one unit of many: the unit's number, and levels, bits, blocks or a reading at it. -/
structure Seen (α : Type) where
  unit : Nat
  it : α
  deriving DecidableEq, Repr

/-- When byte 0 of a TIME packet crossed the ball (R214): so many ticks before the command, at a phase of that tick in 1/8000 ns. -/
structure Crossing where
  ago : Nat
  phase : Nat
  deriving DecidableEq, Repr

/-- What the PCS of an Ethernet port reports (R361): it is locked, and its negotiation is complete. -/
structure PcsState where
  locked : Bool
  negotiated : Bool
  deriving DecidableEq, Repr

/-- The outcome of a read on a bus: data, or the error that R368 and R385 name. -/
inductive ReadResult where
  | data (bytes : List Byte)
  | error
  deriving DecidableEq, Repr

/-- What a scrub read finds in a word (R396, R397). -/
inductive ScrubFinding where
  | clean | corrected | uncorrectable
  deriving DecidableEq, Repr

/-- Readings of one housekeeping round (R433): 40 sensors in 1/16 degree (none: the reference check failed),
24 supply monitors and 8 analog inputs in mV. -/
structure HkReadings where
  temps : List (Option Int)
  supplies : List Nat
  ains : List Nat
  deriving DecidableEq, Repr

/-- A machine-time or calendar stamp (R17): seconds, nanoseconds, fraction in 2^-16 ns. -/
structure Stamp where
  sec : Nat
  ns : Nat
  frac : Nat
  deriving DecidableEq, Repr

end Sys2Proof
end

