-- ==== Sys2Proof/Syntax.lean ====
section
/-!
DEFINITION. The commands of the block, one constructor for each row of spec/opcode_table.json, in the table's order.
The operands are what the row's rule lets the outside give: an access source, an index, a written value, a received packet,
frame, line or level. A command that names an instant has no time operand: the instant is State's own time.
-/

namespace Sys2Proof

/-- A command to the block (spec/opcode_table.json). -/
inductive Instr where
  /-- ABSENT_UNIT_ACCESS (R5). -/
  | absentUnitAccess (src : Source) (addr : Nat) (write : Bool)
  /-- ABSENT_ACCESS_CLEAR (R11). -/
  | absentAccessClear (v : Word)
  /-- WIDE_READ_LOW (R14). -/
  | wideReadLow (src : Source) (addr : Nat)
  /-- WIDE_READ_UPPER (R14). -/
  | wideReadUpper (src : Source) (addr : Nat)
  /-- WIDE_WRITE_UPPER (R14). -/
  | wideWriteUpper (src : Source) (addr : Nat) (v : Word)
  /-- WIDE_WRITE_LOW (R14). -/
  | wideWriteLow (src : Source) (addr : Nat) (v : Word)
  /-- REGISTER_WRITE (R12). -/
  | registerWrite (src : Source) (addr : Nat) (v : Word)
  /-- ARM (R29). -/
  | arm
  /-- ARMING_CHECK_DONE (R128). -/
  | armingCheckDone
  /-- WAKE_ALARM (R31). -/
  | wakeAlarm
  /-- CHANNEL_READY (R32). -/
  | channelReady (ch : Nat)
  /-- START_VOTE (R33). -/
  | startVote
  /-- START_VOTE_RECEIVED (R210). -/
  | startVoteReceived (port : Nat) (pk : Packet)
  /-- START_DECISION (R33). -/
  | startDecision
  /-- LAYER_START (R33). -/
  | layerStart
  /-- YIELD_SEAL (R36). -/
  | yieldSeal
  /-- YIELD_VOTE_RECEIVED (R36). -/
  | yieldVoteReceived (port : Nat) (pk : Packet)
  /-- YIELD_VOTE_DEADLINE (R36). -/
  | yieldVoteDeadline
  /-- YIELD_DECISION (R36). -/
  | yieldDecision
  /-- YIELD_POINT (R36). -/
  | yieldPoint
  /-- HOLD_CAUSE_CLEAR (R37). -/
  | holdCauseClear
  /-- HOLD_EVENT_REPEAT (R37). -/
  | holdEventRepeat
  /-- HOLD_EVENT_RECEIVED (R39). -/
  | holdEventReceived (port : Nat) (pk : Packet)
  /-- RELEASE_EVENT_RECEIVED (R38). -/
  | releaseEventReceived (port : Nat) (pk : Packet)
  /-- HOLD_RESTART (R38). -/
  | holdRestart
  /-- ABORT (R43). -/
  | abort
  /-- GROUP_ABORT_RECEIVED (R43). -/
  | groupAbortReceived (port : Nat) (pk : Packet)
  /-- NOP (R69). -/
  | nop (ch : Nat)
  /-- UNDEFINED_OPCODE (R58). -/
  | undefinedOpcode (ch : Nat)
  /-- HALT (R69). -/
  | halt (ch : Nat)
  /-- WAIT (R70). -/
  | wait (ch : Nat)
  /-- WAITR (R71). -/
  | waitr (ch : Nat)
  /-- GYIELD (R72). -/
  | gyield (ch : Nat)
  /-- SYNC (R73). -/
  | sync (ch : Nat)
  /-- SYNC_DEADLINE (R73). -/
  | syncDeadline (ch : Nat)
  /-- SIG (R74). -/
  | sig (ch : Nat)
  /-- SIG_EMIT (R74). -/
  | sigEmit (ch : Nat)
  /-- EVT (R75). -/
  | evt (ch : Nat)
  /-- EVT_ACTION (R75). -/
  | evtAction (ch : Nat)
  /-- CALL (R76). -/
  | call (ch : Nat)
  /-- RET (R76). -/
  | ret (ch : Nat)
  /-- REP (R77). -/
  | rep (ch : Nat)
  /-- ENDR (R77). -/
  | endr (ch : Nat)
  /-- LDK (R78). -/
  | ldk (ch : Nat)
  /-- ADDK (R78). -/
  | addk (ch : Nat)
  /-- FENCE (R79). -/
  | fence (ch : Nat)
  /-- JUMP (R82). -/
  | jump (ch : Nat)
  /-- LINE (R81). -/
  | line (ch : Nat)
  /-- CUBIC (R83). -/
  | cubic (ch : Nat)
  /-- DWELL (R84). -/
  | dwell (ch : Nat)
  /-- FOCUS (R85). -/
  | focus (ch : Nat)
  /-- PERIOD (R86). -/
  | period (ch : Nat)
  /-- LEARN (R87). -/
  | learn (ch : Nat)
  /-- GSEL (R88). -/
  | gsel (ch : Nat)
  /-- PSET (R89). -/
  | pset (ch : Nat)
  /-- PRAMP (R90). -/
  | pramp (ch : Nat)
  /-- PULSE (R91). -/
  | pulse (ch : Nat)
  /-- ENV (R92). -/
  | env (ch : Nat)
  /-- MPL (R93). -/
  | mpl (ch : Nat)
  /-- LON (R94). -/
  | lon (ch : Nat)
  /-- LOFF (R94). -/
  | loff (ch : Nat)
  /-- HAND (R95). -/
  | hand (ch : Nat)
  /-- TRIG (R97). -/
  | trig (ch : Nat)
  /-- MOVE (R98). -/
  | move (ch : Nat)
  /-- FAULT_TIME (R67). -/
  | faultTime (ch : Nat)
  /-- LATE (R64). -/
  | late (ch : Nat)
  /-- GATE_EDGE (R94). -/
  | gateEdge (ch : Nat)
  /-- EVALUATION_INSTANT (R62). -/
  | evaluationInstant (ch : Nat)
  /-- POWER_INSTANT (R180). -/
  | powerInstant (ch : Nat) (rawA rawB : Nat)
  /-- SEQ_RING_TAIL (R101). -/
  | seqRingTail (ch : Nat) (v : Word)
  /-- DESCRIPTOR_READ (R102). -/
  | descriptorRead (ch : Nat)
  /-- OWN_RETRY (R102). -/
  | ownRetry (ch : Nat)
  /-- WALKER_FETCH (R107). -/
  | walkerFetch (ch : Nat)
  /-- FEED_LINE_ARRIVAL (R108). -/
  | feedLineArrival (ch : Nat) (slot : Nat) (flip : List Byte)
  /-- LIBRARY_LOAD (R111). -/
  | libraryLoad (ch : Nat)
  /-- LIBRARY_LOAD_DONE (R111). -/
  | libraryLoadDone (ch : Nat)
  /-- LIBRARY_UNLOAD (R112). -/
  | libraryUnload (ch : Nat)
  /-- CHANNEL_DISABLE (R116). -/
  | channelDisable (ch : Nat)
  /-- CHANNEL_ENABLE (R115). -/
  | channelEnable (ch : Nat)
  /-- SEQ_BLOCK_RESET (R120). -/
  | seqBlockReset
  /-- SEQ_EVT_CTL_WRITE (R123). -/
  | seqEvtCtlWrite (v : Word)
  /-- SEQ_EVT_BASE_WRITE (R123). -/
  | seqEvtBaseWrite (v : Word)
  /-- SEQ_EVT_RD_WRITE (R123). -/
  | seqEvtRdWrite (v : Word)
  /-- SERVO_PERIOD_BOUNDARY (R132). -/
  | servoPeriodBoundary
  /-- AXIS_ARITH_OFF (R161). -/
  | axisArithOff (a : Nat)
  /-- STALE_TRIP (R155). -/
  | staleTrip (ch : Nat)
  /-- SRV_AX_MODE_WRITE (R146). -/
  | srvAxModeWrite (a : Nat) (v : Word)
  /-- IDENTIFICATION_ARM (R159). -/
  | identificationArm (v : Word)
  /-- IDENTIFICATION_DONE (R159). -/
  | identificationDone
  /-- REPETITIVE_TABLE_WRITE (R151). -/
  | repetitiveTableWrite (addr : Nat) (v : Word)
  /-- ACTIVE_GAIN_SET_WRITE (R164). -/
  | activeGainSetWrite (addr : Nat) (v : Word)
  /-- SRV_BLOCK_RESET (R163). -/
  | srvBlockReset
  /-- EMSTOP_N_FALL (R170). -/
  | emstopNFall
  /-- EMISSION_STOP_CLEAR (R171). -/
  | emissionStopClear (src : Source)
  /-- MANUAL_DRIVE_WRITE (R193). -/
  | manualDriveWrite (ch : Nat) (v : Word)
  /-- LFLT_N_QUALIFIED (R173). -/
  | lfltNQualified (ch : Nat) (high : Bool)
  /-- LRDY_QUALIFIED (R173). -/
  | lrdyQualified (ch : Nat) (high : Bool)
  /-- FREE_CADENCE_SAMPLE (R177). -/
  | freeCadenceSample (ch : Nat) (rawA rawB : Nat)
  /-- LSR_LOG_CTL_WRITE (R189). -/
  | lsrLogCtlWrite (ch : Nat) (v : Word)
  /-- MELT_POOL_GAIN_SET_WRITE (R195). -/
  | meltPoolGainSetWrite (addr : Nat) (v : Word)
  /-- LSR_ACTIVE_SET_WRITE (R196). -/
  | lsrActiveSetWrite (addr : Nat) (v : Word)
  /-- LSR_BLOCK_RESET (R194). -/
  | lsrBlockReset
  /-- HOOP_ID_WRITE (R198). -/
  | hoopIdWrite (v : Word)
  /-- HOOP_PORT_ENABLE (R199). -/
  | hoopPortEnable (p : Nat) (v : Word)
  /-- HOOP_PORT_DISABLE (R208). -/
  | hoopPortDisable (p : Nat) (v : Word)
  /-- HOOP_PORT_TEARDOWN (R208). -/
  | hoopPortTeardown (p : Nat)
  /-- PACKET_TRANSMIT (R206). -/
  | packetTransmit (p : Nat)
  /-- BAD_PACKET_RECEIVED (R201). -/
  | badPacketReceived (p : Nat) (first : Block) (rest : List Block)
  /-- BROADCAST_REPEAT (R204). -/
  | broadcastRepeat
  /-- DUPLICATE_ENTRY_EXPIRY (R203). -/
  | duplicateEntryExpiry
  /-- CREDIT_RECEIVED (R205). -/
  | creditReceived (p : Nat) (pk : Packet)
  /-- CREDIT_SEND (R205). -/
  | creditSend (p : Nat)
  /-- EVENT_RECEIVED (R209). -/
  | eventReceived (p : Nat) (pk : Packet)
  /-- REMOTE_ACCESS_GO (R211). -/
  | remoteAccessGo (v : Word)
  /-- RREQ_RECEIVED (R211). -/
  | rreqReceived (p : Nat) (pk : Packet)
  /-- RRSP_RECEIVED (R211). -/
  | rrspReceived (p : Nat) (pk : Packet)
  /-- REMOTE_ACCESS_TIMEOUT (R211). -/
  | remoteAccessTimeout
  /-- BULK_GO (R212). -/
  | bulkGo (c : Nat)
  /-- BULK_RECEIVED (R212). -/
  | bulkReceived (p : Nat) (pk : Packet)
  /-- BULK_ACK_RECEIVED (R212). -/
  | bulkAckReceived (p : Nat) (pk : Packet)
  /-- BULK_TIMEOUT (R212). -/
  | bulkTimeout (c : Nat)
  /-- TIME_EXCHANGE_START (R215). -/
  | timeExchangeStart (p : Nat) (xid : Nat)
  /-- TIME_REQUEST_RECEIVED (R215). -/
  | timeRequestReceived (p : Nat) (pk : Packet) (ago phase : Nat)
  /-- TIME_RESPONSE_RECEIVED (R216). -/
  | timeResponseReceived (p : Nat) (pk : Packet) (x : Crossing)
  /-- TIME_EXCHANGE_TIMEOUT (R215). -/
  | timeExchangeTimeout (p : Nat)
  /-- HOLDOVER_ENTRY (R219). -/
  | holdoverEntry (d : Nat)
  /-- TIM_SEL_WRITE (R220). -/
  | timSelWrite (v : Word)
  /-- DOMAIN_SWITCH (R220). -/
  | domainSwitch
  /-- CALENDAR_ADJ (R222). -/
  | calendarAdj
  /-- CALENDAR_SET (R222). -/
  | calendarSet
  /-- PPS_OUT_EDGE (R223). -/
  | ppsOutEdge
  /-- PPS_IN_EDGE (R224). -/
  | ppsInEdge
  /-- HOOP_BLOCK_RESET (R225). -/
  | hoopBlockReset
  /-- HAND_TOKEN_RECEIVED (R238). -/
  | handTokenReceived (origin : Option Nat) (pk : Packet)
  /-- TOKEN_EXPIRY (R239). -/
  | tokenExpiry (ch : Nat)
  /-- COMMIT (R240). -/
  | commit (ch : Nat)
  /-- COMMITMENT_CLOSE (R240). -/
  | commitmentClose (ch : Nat)
  /-- HAND_DECISION (R240). -/
  | handDecision (ch : Nat)
  /-- HAND_END (R246). -/
  | handEnd (ch : Nat)
  /-- HAND_RECORD_TIMEOUT (R249). -/
  | handRecordTimeout (ch : Nat)
  /-- FIELD_TABLE_WRITE (R233). -/
  | fieldTableWrite (addr : Nat) (v : Word)
  /-- STI_BLOCK_RESET (R250). -/
  | stiBlockReset
  /-- GENERATOR_INSTANT (R257). -/
  | generatorInstant
  /-- MOT_GO (R254). -/
  | motGo (a : Nat) (v : Word)
  /-- MOT_HOME (R267). -/
  | motHome (a : Nat) (v : Word)
  /-- AXIS_DISABLE (R269). -/
  | axisDisable (a : Nat) (v : Word)
  /-- AXIS_ENABLE (R269). -/
  | axisEnable (a : Nat) (v : Word)
  /-- MOT_AX_POS_WRITE (R280). -/
  | motAxPosWrite (a : Nat) (v : Word)
  /-- PWM_PERIOD (R259). -/
  | pwmPeriod (a : Nat) (bitsA bitsB : List Bool)
  /-- STALL (R262). -/
  | stall (a : Nat)
  /-- BRIDGE_FAULT (R265). -/
  | bridgeFault (a : Seen Nat)
  /-- OVERCURRENT (R265). -/
  | overcurrent (a : Nat)
  /-- SDLOSS (R265). -/
  | sdloss (a : Seen (List Bool))
  /-- STANDSTILL (R263). -/
  | standstill (a : Nat)
  /-- LIMIT_QUALIFIED (R275). -/
  | limitQualified (i : Nat) (positive level : Bool)
  /-- HOME_EDGE_QUALIFIED (R275). -/
  | homeEdgeQualified (i : Nat) (home limp limn : Bool)
  /-- FEEDBACK_EDGE (R270). -/
  | feedbackEdge (i : Nat) (levelA levelB : Bool)
  /-- INDEX_EDGE (R274). -/
  | indexEdge (i : Seen Bool)
  /-- FBK_COUNT_WRITE (R272). -/
  | fbkCountWrite (i : Nat) (v : Word)
  /-- FBK_CMPPOS_WRITE (R277). -/
  | fbkCmpposWrite (i : Nat) (v : Word)
  /-- MOT_BLOCK_RESET (R279). -/
  | motBlockReset
  /-- FBK_BLOCK_RESET (R279). -/
  | fbkBlockReset
  /-- CAMERA_PORT_ENABLE (R285). -/
  | cameraPortEnable (p : Nat) (v : Word)
  /-- CAMERA_PORT_DISABLE (R308). -/
  | cameraPortDisable (p : Nat) (v : Word)
  /-- FRAME_START (R286). -/
  | frameStart (p : Seen Bool)
  /-- CAMERA_LINE (R283). -/
  | cameraLine (p : Nat) (edges : List CamEdge)
  /-- FRAME_END_AT_PORT (R284). -/
  | frameEndAtPort (p : Seen Bool)
  /-- PIPELINE_PORT_SELECT (R296). -/
  | pipelinePortSelect
  /-- STRIPE_END (R297). -/
  | stripeEnd (flip : List Byte)
  /-- PIPELINE_FRAME_END (R304). -/
  | pipelineFrameEnd
  /-- HOST_TRIGGER (R287). -/
  | hostTrigger (p : Nat) (v : Word)
  /-- TRIG_PULSE (R97). -/
  | trigPulse (ch : Nat)
  /-- I2C_GO (R289). -/
  | i2cGo (p : Nat) (v : Word)
  /-- I2C_DONE (R289). -/
  | i2cDone (p : Nat) (code : Nat) (data : Word)
  /-- EXPOSURE_COMMIT (R290). -/
  | exposureCommit (p : Nat) (v : Word)
  /-- CAMERA_TABLE_WRITE (R310). -/
  | cameraTableWrite (addr : Nat) (v : Word)
  /-- CAM_BLOCK_RESET (R309). -/
  | camBlockReset
  /-- LGT_ENABLE (R319). -/
  | lgtEnable (v : Word)
  /-- SHORT_TEST_DONE (R319). -/
  | shortTestDone (shorted : List Nat)
  /-- LGT_DISABLE (R324). -/
  | lgtDisable (v : Word)
  /-- SINK_WRITE (R314). -/
  | sinkWrite (addr : Nat) (v : Word)
  /-- MATRIX_LINE (R316). -/
  | matrixLine (shorted : List Nat)
  /-- SWAP (R317). -/
  | swap
  /-- LSYNC_EDGE (R318). -/
  | lsyncEdge
  /-- LSYNC_FRAME_START (R318). -/
  | lsyncFrameStart
  /-- LGT_TEST_RUN (R319). -/
  | lgtTestRun
  /-- SHORT_CLEAR (R319). -/
  | shortClear (high : Bool) (v : Word)
  /-- STROBE_ENABLE (R320). -/
  | strobeEnable (s : Nat) (v : Word)
  /-- STROBE_PULSE (R321). -/
  | strobePulse (s : Nat) (v : Word)
  /-- STROBE_CUT (R321). -/
  | strobeCut (s : Nat)
  /-- STROBE_OVERCURRENT (R322). -/
  | strobeOvercurrent (s : Seen Nat)
  /-- STROBE_NORISE (R322). -/
  | strobeNorise (s : Seen Nat)
  /-- LGT_BLOCK_RESET (R324). -/
  | lgtBlockReset
  /-- HEAD_LANE_ENABLE (R330). -/
  | headLaneEnable (n : Nat) (v : Word)
  /-- HEAD_LANE_DISABLE (R349). -/
  | headLaneDisable (n : Nat) (v : Word)
  /-- TERMINATION_PROBE (R330). -/
  | terminationProbe (l : Nat) (found : Bool)
  /-- BLOCK_LOCK (R331). -/
  | blockLock (l : Seen (List (BitVec 2)))
  /-- LOCK_LOSS (R331). -/
  | lockLoss (l : Seen (List (BitVec 2)))
  /-- TRAIN_TIMER (R330). -/
  | trainTimer (l : Nat)
  /-- TRAINFAIL (R330). -/
  | trainfail (l : Nat)
  /-- CAP_RECEIVED (R332). -/
  | capReceived (l : Nat) (block : Block)
  /-- CAPEX_TIMEOUT (R330). -/
  | capexTimeout (l : Nat)
  /-- TRAIN_BLOCK_RECEIVED (R330). -/
  | trainBlockReceived (l : Seen Block)
  /-- ALIGN_RECEIVED (R335). -/
  | alignReceived (l : Nat) (block : Block)
  /-- LANE_TXEQ_WRITE (R333). -/
  | laneTxeqWrite (l : Nat) (v : Word)
  /-- EYE_MEASURE (R334). -/
  | eyeMeasure (l : Nat) (width : Nat)
  /-- LANE_PM_REQUEST (R337). -/
  | lanePmRequest (l : Nat) (v : Word)
  /-- PM_REQUEST_RECEIVED (R336). -/
  | pmRequestReceived (l : Nat) (block : Block)
  /-- PM_ANSWER_RECEIVED (R336). -/
  | pmAnswerReceived (l : Nat) (block : Block)
  /-- PM_TIMEOUT (R336). -/
  | pmTimeout (l : Nat)
  /-- LANE_WAKE (R336). -/
  | laneWake (l : Nat)
  /-- LANE_WAKE_DONE (R336). -/
  | laneWakeDone (l : Nat)
  /-- LANE_TEST_MODE_WRITE (R338). -/
  | laneTestModeWrite (l : Nat) (v : Word)
  /-- CHECKER_START (R339). -/
  | checkerStart (l : Nat) (v : Word)
  /-- CHECKER_SYNC (R339). -/
  | checkerSync (l : Nat) (received : List Bool) (n : Nat)
  /-- INJ1 (R339). -/
  | inj1 (l : Nat)
  /-- DOWNLINK_FRAME (R340). -/
  | downlinkFrame (n : Nat)
  /-- UPLINK_FRAME (R344). -/
  | uplinkFrame (n : Nat) (blocks : List Block)
  /-- AUX_GO (R347). -/
  | auxGo (n : Nat) (v : Word)
  /-- AUX_TIMEOUT (R347). -/
  | auxTimeout (n : Nat)
  /-- HEAD_CONFIG_RETRY (R348). -/
  | headConfigRetry (n : Nat)
  /-- LANE_BLOCK_RESET (R349). -/
  | laneBlockReset
  /-- HL_BLOCK_RESET (R349). -/
  | hlBlockReset
  /-- BAR2_READ (R354). -/
  | bar2Read (off len : Nat)
  /-- BAR2_WRITE (R354). -/
  | bar2Write (off : Nat) (bytes : List Byte) (poisoned : Bool)
  /-- MSIX_UNMASK (R357). -/
  | msixUnmask (vector : Option Nat)
  /-- FWIRQ_SET (R358). -/
  | fwirqSet (v : Word)
  /-- FWIRQ_CLEAR (R358). -/
  | fwirqClear (v : Word)
  /-- FUNCTION_LEVEL_RESET (R352). -/
  | functionLevelReset
  /-- LINK_DOWN (R368). -/
  | linkDown
  /-- BUS_MASTER_DISABLE (R368). -/
  | busMasterDisable
  /-- PERST_N_ASSERT (R462). -/
  | perstNAssert
  /-- ETH_PORT_ENABLE (R359). -/
  | ethPortEnable (e : Nat) (v : Word)
  /-- ETH_TX_DOORBELL (R361). -/
  | ethTxDoorbell (e : Nat) (v : Word)
  /-- ETH_RX_DOORBELL (R361). -/
  | ethRxDoorbell (e : Nat) (v : Word)
  /-- ETH_FRAME_SENT (R361). -/
  | ethFrameSent (e : Nat)
  /-- ETH_FRAME_RECEIVED (R362). -/
  | ethFrameReceived (e : Nat) (bytes : List Byte) (check : Word)
  /-- PAUSE_RECEIVED (R359). -/
  | pauseReceived (e : Nat) (quanta : Nat)
  /-- ETH_LINK_CHANGE (R375). -/
  | ethLinkChange (e : Nat) (pcs : PcsState)
  /-- ETH_I2C_GO (R360). -/
  | ethI2cGo (e : Nat) (v : Word)
  /-- ETH_I2C_DONE (R360). -/
  | ethI2cDone (e : Nat) (code : Nat) (data : Word)
  /-- DMA_DOORBELL (R364). -/
  | dmaDoorbell (n : Nat) (v : Word)
  /-- DMA_DESCRIPTOR_FETCH (R365). -/
  | dmaDescriptorFetch (n : Nat) (host : ReadResult)
  /-- DMA_READ_COMPLETION (R367). -/
  | dmaReadCompletion (n : Nat) (host : ReadResult)
  /-- COMPLETION_TIMEOUT (R368). -/
  | completionTimeout (n : Nat)
  /-- DMA_SEGMENT_WRITE (R367). -/
  | dmaSegmentWrite (n : Nat)
  /-- DMA_ENABLE (R369). -/
  | dmaEnable (n : Nat) (v : Word)
  /-- DMA_DISABLE (R369). -/
  | dmaDisable (n : Nat) (v : Word)
  /-- DMA_RESTART (R368). -/
  | dmaRestart (n : Nat)
  /-- DMA_BLOCK_RESET (R372). -/
  | dmaBlockReset
  /-- ETH_BLOCK_RESET (R372). -/
  | ethBlockReset
  /-- DDR_CFG_WRITE (R378). -/
  | ddrCfgWrite (v : Word)
  /-- DDR_INIT (R378). -/
  | ddrInit
  /-- DDR_INIT_DONE (R378). -/
  | ddrInitDone (steps : List (List (List Nat)))
  /-- DRAM_REQUEST (R382). -/
  | dramRequest (sub : Nat)
  /-- DRAM_READ_RETURN (R385). -/
  | dramReadReturn (line : Seen Bool) (corrected : Nat)
  /-- REFRESH (R383). -/
  | refresh (sub : Nat)
  /-- PERIODIC_TRAINING (R387). -/
  | periodicTraining (k : Nat)
  /-- DDR_BLOCK_RESET (R388). -/
  | ddrBlockReset
  /-- SCRUB_PASS (R395). -/
  | scrubPass
  /-- SCRUB_READ (R396). -/
  | scrubRead (cls index : Nat) (finding : ScrubFinding)
  /-- REMAP_FREE (R399). -/
  | remapFree (cls e : Nat) (v : Word)
  /-- BIST (R400). -/
  | bist
  /-- BIST_DONE (R400). -/
  | bistDone (failed : Nat)
  /-- SPLIT_WRITE_ARM (R401). -/
  | splitWriteArm (v : Word)
  /-- SPLIT_RESIDUE (R401). -/
  | splitResidue (v : Word)
  /-- INTG_BLOCK_RESET (R403). -/
  | intgBlockReset
  /-- CAL_OPEN (R407). -/
  | calOpen (g : Nat)
  /-- CAL_REPEAT (R407). -/
  | calRepeat (g : Nat)
  /-- CAL_ABORT (R407). -/
  | calAbort (g : Nat)
  /-- CAL_RESTORE (R411). -/
  | calRestore (g : Nat)
  /-- CAL_APPLY (R409). -/
  | calApply (g : Nat)
  /-- CAL_APPLY_EFFECT (R405). -/
  | calApplyEffect (g : Nat)
  /-- PENDING_SET_WRITE (R408). -/
  | pendingSetWrite (addr : Nat) (v : Word)
  /-- SKEW_QUALITY_WRITE (R413). -/
  | skewQualityWrite (ch last : Nat)
  /-- CAL_BLOCK_RESET (R414). -/
  | calBlockReset
  /-- STATE_REQUEST (R423). -/
  | stateRequest (src : Source) (v : Word)
  /-- FWVOTE_WRITE (R417). -/
  | fwvoteWrite (src : Source) (v : Word)
  /-- HOSTVOTE_WRITE (R417). -/
  | hostvoteWrite (src : Source) (v : Word)
  /-- CLIENT_VOTE (R417). -/
  | clientVote (client d : Nat)
  /-- PWR_FORCE_WRITE (R420). -/
  | pwrForceWrite (src : Source) (v : Word)
  /-- DOMAIN_RAISE (R418). -/
  | domainRaise (d : Nat)
  /-- DOMAIN_UP (R418). -/
  | domainUp (d : Seen Nat)
  /-- PGOOD_TIMEOUT (R419). -/
  | pgoodTimeout (d : Nat)
  /-- PGOOD_LOSS (R419). -/
  | pgoodLoss (d : Seen Nat)
  /-- DOMAIN_DROP (R418). -/
  | domainDrop (d : Nat)
  /-- HOLD_TIMEOUT (R424). -/
  | holdTimeout
  /-- WAKE_BALL (R425). -/
  | wakeBall
  /-- PWR_ALARM_EXPIRY (R425). -/
  | pwrAlarmExpiry
  /-- BUDGET_GRANT (R428). -/
  | budgetGrant (b : Nat)
  /-- THERMAL_REQUEST (R431). -/
  | thermalRequest
  /-- PWR_PAUSE_WRITE (R431). -/
  | pwrPauseWrite (v : Word)
  /-- HOUSEKEEPING_ROUND (R433). -/
  | housekeepingRound (r : HkReadings)
  /-- SHUTDOWN_DOMAIN_DROP (R435). -/
  | shutdownDomainDrop
  /-- PWR_BLOCK_RESET (R437). -/
  | pwrBlockReset (src : Source)
  /-- HK_BLOCK_RESET (R439). -/
  | hkBlockReset
  /-- CAVE_RECORD_WRITE (R446). -/
  | caveRecordWrite
  /-- CAVE_SCAN_DONE (R448). -/
  | caveScanDone
  /-- CAVE_POST (R445). -/
  | cavePost (src : Source) (v : Word)
  /-- CAVE_FREEZE (R449). -/
  | caveFreeze
  /-- CAVE_UNFREEZE (R450). -/
  | caveUnfreeze
  /-- CAVE_READ_FETCH (R449). -/
  | caveReadFetch (v : Word)
  /-- CAVE_FETCH_DONE (R449). -/
  | caveFetchDone
  /-- CAVE_PROVISION (R451). -/
  | caveProvision
  /-- CHALLENGE (R452). -/
  | challenge
  /-- CHALLENGE_EXPIRY (R452). -/
  | challengeExpiry
  /-- CLEAR (R452). -/
  | clear (src : Source)
  /-- CAVE_CLEAR_DONE (R453). -/
  | caveClearDone
  /-- CAVE_BLOCK_RESET (R454). -/
  | caveBlockReset
  /-- PORN (R456). -/
  | porn
  /-- SYSRST_N (R462). -/
  | sysrstN
  /-- SOFTWARE_WARM_RESET (R463). -/
  | softwareWarmReset (v : Word)
  /-- XTAL32_SWITCH (R456). -/
  | xtal32Switch
  /-- BOOT (R459). -/
  | boot (slotA slotB : Option (List Byte))
  /-- STAGING_WRITE (R460). -/
  | stagingWrite (addr : Nat) (v : Word)
  /-- BOOT_GO (R460). -/
  | bootGo
  /-- BOOT_PROVISION (R461). -/
  | bootProvision
  /-- KICK (R465). -/
  | kick (src : Source) (v : Word)
  /-- HEARTBEAT_WINDOW_END (R466). -/
  | heartbeatWindowEnd
  /-- SAFE_ENTER (R466). -/
  | safeEnter (src : Source)
  /-- XTAL_LOSS (R466). -/
  | xtalLoss
  /-- SAFE_N_TOGGLE (R467). -/
  | safeNToggle
  /-- EXTEST (R480). -/
  | extest
  /-- VDD_AON_LOSS (R447). -/
  | vddAonLoss
  /-- PERST_N_RELEASE (R425). -/
  | perstNRelease
  /-- PCIE_LINK_ACTIVITY (R425). -/
  | pcieLinkActivity
  /-- PME_TURN_OFF (R372). -/
  | pmeTurnOff
  /-- TIM_D_CFG_WRITE (R217). -/
  | timDCfgWrite (d : Nat) (v : Word)
  /-- FEEDBACK_INTERFACE_ENABLE (R270). -/
  | feedbackInterfaceEnable (i : Nat) (v : Word)
  /-- STB_ISN_CROSSING (R320). -/
  | stbIsnCrossing (s : Nat) (v : Nat)
  deriving DecidableEq, Repr

end Sys2Proof
end

