-- ==== Sys2Proof/Machine/Regs.lean ====
section
/-!
DEFINITION. The register map: every register of the spec with its BAR0 offset, its fields and their places,
access types and reset values, from the register tables of the section files (R11, R127, R128, R166, R197, R226, R227,
R251, R280, R281, R311, R326, R350, R351, R373, R374, R375, R389, R404, R415, R438, R439, R455, R469).
R.<NAME> is a register's offset, F.<NAME>_<FIELD> the place of a field. n counts windows, k the registers of an array.
-/

namespace Sys2Proof.Machine

/-- The place of a field in a register: its lowest bit and its width. -/
structure Field where
  lo : Nat
  width : Nat
  deriving DecidableEq, Repr

/-- The access types (R12). -/
inductive Access where
  | rw | ro | w1c | wo | rws
  deriving DecidableEq, Repr

/-- A field with its access type and reset value. -/
structure FieldDef where
  place : Field
  access : Access
  reset : Nat
  deriving DecidableEq, Repr

/-- A register or an array of registers: windows of stride wst, in each an array of stride st. -/
structure RegDef where
  name : String
  base : Nat
  wst : Nat
  wcnt : Nat
  st : Nat
  cnt : Nat
  fields : List FieldDef
  deriving DecidableEq, Repr

/-- GLB_CAPS (R11, 00_scope.md). -/
def R.GLB_CAPS : Nat := 0x0
def F.GLB_CAPS_CHANNELS : Field := ⟨0, 6⟩
def F.GLB_CAPS_CAMPORTS : Field := ⟨6, 3⟩
def F.GLB_CAPS_LIGHT : Field := ⟨9, 1⟩
def F.GLB_CAPS_HOOPLANES : Field := ⟨10, 4⟩
def F.GLB_CAPS_AXES : Field := ⟨14, 4⟩
def F.GLB_CAPS_ETHPORTS : Field := ⟨18, 2⟩
def F.GLB_CAPS_DDRCH : Field := ⟨20, 3⟩
def F.GLB_CAPS_SPLITWR : Field := ⟨23, 1⟩
def F.GLB_CAPS_CHKBIST : Field := ⟨24, 1⟩
def F.GLB_CAPS_VARIANT : Field := ⟨25, 3⟩
/-- GLB_STAT (R11, 00_scope.md). -/
def R.GLB_STAT : Nat := 0x4
def F.GLB_STAT_ABSENT_ACCESS : Field := ⟨0, 1⟩
/-- GLB_ABSENT_ADDR (R11, 00_scope.md). -/
def R.GLB_ABSENT_ADDR : Nat := 0x8
def F.GLB_ABSENT_ADDR_OFFSET : Field := ⟨0, 26⟩
def F.GLB_ABSENT_ADDR_WRITE : Field := ⟨29, 1⟩
def F.GLB_ABSENT_ADDR_SRC : Field := ⟨30, 2⟩
/-- PWR_STATE (R438, 16_power_and_thermal.md). -/
def R.PWR_STATE : Nat := 0x10000
def F.PWR_STATE_REQ : Field := ⟨0, 3⟩
def F.PWR_STATE_CUR : Field := ⟨4, 3⟩
def F.PWR_STATE_BUSY : Field := ⟨7, 1⟩
def F.PWR_STATE_PEND : Field := ⟨8, 3⟩
def F.PWR_STATE_HELD : Field := ⟨11, 1⟩
/-- PWR_ISR (R438, 16_power_and_thermal.md). -/
def R.PWR_ISR : Nat := 0x10004
def F.PWR_ISR_DONE : Field := ⟨0, 1⟩
def F.PWR_ISR_HOLD : Field := ⟨1, 1⟩
def F.PWR_ISR_PGERR : Field := ⟨2, 1⟩
def F.PWR_ISR_BUDGET : Field := ⟨3, 1⟩
def F.PWR_ISR_OVER : Field := ⟨4, 1⟩
def F.PWR_ISR_REJ : Field := ⟨5, 1⟩
/-- PWR_IER (R438, 16_power_and_thermal.md). -/
def R.PWR_IER : Nat := 0x10008
def F.PWR_IER_EN : Field := ⟨0, 6⟩
/-- PWR_DOM (R438, 16_power_and_thermal.md). -/
def R.PWR_DOM : Nat := 0x1000C
def F.PWR_DOM_UP : Field := ⟨0, 11⟩
def F.PWR_DOM_VOTED : Field := ⟨16, 11⟩
/-- PWR_FORCE (R438, 16_power_and_thermal.md). -/
def R.PWR_FORCE : Nat := 0x10010
def F.PWR_FORCE_DOM : Field := ⟨0, 11⟩
/-- PWR_FWVOTE (R438, 16_power_and_thermal.md). -/
def R.PWR_FWVOTE : Nat := 0x10014
def F.PWR_FWVOTE_DOM : Field := ⟨0, 11⟩
/-- PWR_HOSTVOTE (R438, 16_power_and_thermal.md). -/
def R.PWR_HOSTVOTE : Nat := 0x10018
def F.PWR_HOSTVOTE_DOM : Field := ⟨0, 11⟩
/-- PWR_HOLD_TO (R438, 16_power_and_thermal.md). -/
def R.PWR_HOLD_TO : Nat := 0x1001C
def F.PWR_HOLD_TO_MS : Field := ⟨0, 16⟩
/-- PWR_HOLDER (R438, 16_power_and_thermal.md). -/
def R.PWR_HOLDER : Nat := 0x10020
def F.PWR_HOLDER_CLIENT : Field := ⟨0, 14⟩
def F.PWR_HOLDER_DOM : Field := ⟨16, 11⟩
/-- PWR_PGERR (R438, 16_power_and_thermal.md). -/
def R.PWR_PGERR : Nat := 0x10024
def F.PWR_PGERR_FAIL : Field := ⟨0, 12⟩
/-- PWR_PGOOD_TO (R438, 16_power_and_thermal.md). -/
def R.PWR_PGOOD_TO : Nat := 0x10028
def F.PWR_PGOOD_TO_US : Field := ⟨0, 16⟩
/-- PWR_WAKESRC (R438, 16_power_and_thermal.md). -/
def R.PWR_WAKESRC : Nat := 0x1002C
def F.PWR_WAKESRC_SRC : Field := ⟨0, 4⟩
def F.PWR_WAKESRC_COUNT : Field := ⟨16, 16⟩
/-- PWR_ALARM (R438, 16_power_and_thermal.md). -/
def R.PWR_ALARM : Nat := 0x10030
def F.PWR_ALARM_MS : Field := ⟨0, 32⟩
/-- PWR_PAUSE (R438, 16_power_and_thermal.md). -/
def R.PWR_PAUSE : Nat := 0x10034
def F.PWR_PAUSE_DUTY : Field := ⟨0, 8⟩
def F.PWR_PAUSE_MINHOLD : Field := ⟨8, 16⟩
/-- PWR_PAUSE_DEBT (R438, 16_power_and_thermal.md). -/
def R.PWR_PAUSE_DEBT : Nat := 0x10038
def F.PWR_PAUSE_DEBT_D : Field := ⟨0, 32⟩
/-- PWR_THERM (R438, 16_power_and_thermal.md). -/
def R.PWR_THERM : Nat := 0x1003C
def F.PWR_THERM_SINKSHUT : Field := ⟨0, 1⟩
def F.PWR_THERM_BANKS : Field := ⟨1, 4⟩
/-- PWR_CTL (R438, 16_power_and_thermal.md). -/
def R.PWR_CTL : Nat := 0x10040
def F.PWR_CTL_BRST : Field := ⟨31, 1⟩
/-- PWR_BUD_LIM (R438, 16_power_and_thermal.md). -/
def R.PWR_BUD_LIM (n : Nat) : Nat := 0x10100 + 0x10 * n
def F.PWR_BUD_LIM_LIM : Field := ⟨0, 16⟩
def F.PWR_BUD_LIM_HYST : Field := ⟨16, 16⟩
/-- PWR_BUD_USE (R438, 16_power_and_thermal.md). -/
def R.PWR_BUD_USE (n : Nat) : Nat := 0x10104 + 0x10 * n
def F.PWR_BUD_USE_GRANT : Field := ⟨0, 16⟩
def F.PWR_BUD_USE_WAIT : Field := ⟨16, 16⟩
/-- PWR_BUD_STAT (R438, 16_power_and_thermal.md). -/
def R.PWR_BUD_STAT (n : Nat) : Nat := 0x10108 + 0x10 * n
def F.PWR_BUD_STAT_MAXWAIT : Field := ⟨0, 16⟩
def F.PWR_BUD_STAT_OVER : Field := ⟨16, 1⟩
def F.PWR_BUD_STAT_CAUSE : Field := ⟨17, 1⟩
/-- PWR_DOM_BUD (R438, 16_power_and_thermal.md). -/
def R.PWR_DOM_BUD (k : Nat) : Nat := 0x10200 + 4 * k
def F.PWR_DOM_BUD_CORE : Field := ⟨0, 16⟩
def F.PWR_DOM_BUD_PKG : Field := ⟨16, 16⟩
/-- HK_CTL (R439, 16_power_and_thermal.md). -/
def R.HK_CTL : Nat := 0x20000
def F.HK_CTL_BRST : Field := ⟨31, 1⟩
/-- HK_ISR (R439, 16_power_and_thermal.md). -/
def R.HK_ISR : Nat := 0x20004
def F.HK_ISR_ROUND : Field := ⟨0, 1⟩
def F.HK_ISR_TWARN : Field := ⟨1, 1⟩
def F.HK_ISR_SUPPLY : Field := ⟨2, 1⟩
def F.HK_ISR_SENSOR : Field := ⟨3, 1⟩
/-- HK_IER (R439, 16_power_and_thermal.md). -/
def R.HK_IER : Nat := 0x20008
def F.HK_IER_EN : Field := ⟨0, 4⟩
/-- HK_TMAX (R439, 16_power_and_thermal.md). -/
def R.HK_TMAX : Nat := 0x2000C
def F.HK_TMAX_T : Field := ⟨0, 16⟩
def F.HK_TMAX_SENSOR : Field := ⟨16, 6⟩
/-- HK_TWARN (R439, 16_power_and_thermal.md). -/
def R.HK_TWARN : Nat := 0x20010
def F.HK_TWARN_T : Field := ⟨0, 16⟩
/-- HK_TPEAK (R439, 16_power_and_thermal.md). -/
def R.HK_TPEAK : Nat := 0x20014
def F.HK_TPEAK_T : Field := ⟨0, 16⟩
def F.HK_TPEAK_SENSOR : Field := ⟨16, 6⟩
/-- HK_FAIL_LO (R439, 16_power_and_thermal.md). -/
def R.HK_FAIL_LO : Nat := 0x20018
def F.HK_FAIL_LO_SENSOR : Field := ⟨0, 32⟩
/-- HK_FAIL_HI (R439, 16_power_and_thermal.md). -/
def R.HK_FAIL_HI : Nat := 0x2001C
def F.HK_FAIL_HI_SENSOR : Field := ⟨0, 8⟩
/-- HK_ROUND (R439, 16_power_and_thermal.md). -/
def R.HK_ROUND : Nat := 0x20020
def F.HK_ROUND_COUNT : Field := ⟨0, 32⟩
/-- HK_SUPST (R439, 16_power_and_thermal.md). -/
def R.HK_SUPST : Nat := 0x20024
def F.HK_SUPST_OUT : Field := ⟨0, 24⟩
/-- HK_TEMP (R439, 16_power_and_thermal.md). -/
def R.HK_TEMP (k : Nat) : Nat := 0x20100 + 4 * k
def F.HK_TEMP_T : Field := ⟨0, 16⟩
def F.HK_TEMP_VALID : Field := ⟨16, 1⟩
/-- HK_SUP (R439, 16_power_and_thermal.md). -/
def R.HK_SUP (k : Nat) : Nat := 0x20200 + 4 * k
def F.HK_SUP_MV : Field := ⟨0, 16⟩
/-- HK_SUPLIM (R439, 16_power_and_thermal.md). -/
def R.HK_SUPLIM (k : Nat) : Nat := 0x20280 + 4 * k
def F.HK_SUPLIM_LO : Field := ⟨0, 16⟩
def F.HK_SUPLIM_HI : Field := ⟨16, 16⟩
/-- HK_AIN (R439, 16_power_and_thermal.md). -/
def R.HK_AIN (k : Nat) : Nat := 0x20300 + 4 * k
def F.HK_AIN_MV : Field := ⟨0, 16⟩
/-- CAVE_CTL (R455, 17_cave_recorder.md). -/
def R.CAVE_CTL : Nat := 0x30000
def F.CAVE_CTL_FREEZE : Field := ⟨0, 1⟩
def F.CAVE_CTL_BRST : Field := ⟨31, 1⟩
/-- CAVE_ISR (R455, 17_cave_recorder.md). -/
def R.CAVE_ISR : Nat := 0x30004
def F.CAVE_ISR_CRIT : Field := ⟨0, 1⟩
def F.CAVE_ISR_LOST : Field := ⟨1, 1⟩
def F.CAVE_ISR_CLEARED : Field := ⟨2, 1⟩
def F.CAVE_ISR_CLEARFAIL : Field := ⟨3, 1⟩
def F.CAVE_ISR_REJ : Field := ⟨4, 1⟩
def F.CAVE_ISR_READY : Field := ⟨5, 1⟩
/-- CAVE_IER (R455, 17_cave_recorder.md). -/
def R.CAVE_IER : Nat := 0x30008
def F.CAVE_IER_EN : Field := ⟨0, 6⟩
/-- CAVE_STAT (R455, 17_cave_recorder.md). -/
def R.CAVE_STAT : Nat := 0x3000C
def F.CAVE_STAT_READY : Field := ⟨0, 1⟩
def F.CAVE_STAT_FROZEN : Field := ⟨1, 1⟩
def F.CAVE_STAT_CLEARING : Field := ⟨2, 1⟩
def F.CAVE_STAT_KEYSET : Field := ⟨3, 1⟩
def F.CAVE_STAT_QUEUE : Field := ⟨8, 7⟩
def F.CAVE_STAT_EPOCH : Field := ⟨16, 16⟩
/-- CAVE_HEAD_LO (R455, 17_cave_recorder.md). -/
def R.CAVE_HEAD_LO : Nat := 0x30010
def F.CAVE_HEAD_LO_SEQ : Field := ⟨0, 32⟩
/-- CAVE_HEAD_HI (R455, 17_cave_recorder.md). -/
def R.CAVE_HEAD_HI : Nat := 0x30014
def F.CAVE_HEAD_HI_SEQ : Field := ⟨0, 16⟩
/-- CAVE_LOST (R455, 17_cave_recorder.md). -/
def R.CAVE_LOST : Nat := 0x30018
def F.CAVE_LOST_COUNT : Field := ⟨0, 32⟩
/-- CAVE_FRZ (R455, 17_cave_recorder.md). -/
def R.CAVE_FRZ : Nat := 0x3001C
def F.CAVE_FRZ_COUNT : Field := ⟨0, 15⟩
def F.CAVE_FRZ_CRIT : Field := ⟨16, 16⟩
/-- CAVE_RD_AGE (R455, 17_cave_recorder.md). -/
def R.CAVE_RD_AGE : Nat := 0x30020
def F.CAVE_RD_AGE_AGE : Field := ⟨0, 14⟩
/-- CAVE_RD_STAT (R455, 17_cave_recorder.md). -/
def R.CAVE_RD_STAT : Nat := 0x30024
def F.CAVE_RD_STAT_BUSY : Field := ⟨0, 1⟩
def F.CAVE_RD_STAT_VALID : Field := ⟨1, 1⟩
def F.CAVE_RD_STAT_OVERWR : Field := ⟨2, 1⟩
/-- CAVE_SUPP (R455, 17_cave_recorder.md). -/
def R.CAVE_SUPP : Nat := 0x30028
def F.CAVE_SUPP_COUNT : Field := ⟨0, 32⟩
/-- CAVE_RD_DATA (R455, 17_cave_recorder.md). -/
def R.CAVE_RD_DATA (k : Nat) : Nat := 0x30040 + 4 * k
def F.CAVE_RD_DATA_DATA : Field := ⟨0, 32⟩
/-- CAVE_WR_CODE (R455, 17_cave_recorder.md). -/
def R.CAVE_WR_CODE : Nat := 0x30080
def F.CAVE_WR_CODE_CODE : Field := ⟨0, 16⟩
def F.CAVE_WR_CODE_POST : Field := ⟨31, 1⟩
/-- CAVE_WR_PAY (R455, 17_cave_recorder.md). -/
def R.CAVE_WR_PAY (k : Nat) : Nat := 0x30084 + 4 * k
def F.CAVE_WR_PAY_DATA : Field := ⟨0, 32⟩
/-- CAVE_CMD (R455, 17_cave_recorder.md). -/
def R.CAVE_CMD : Nat := 0x300A0
def F.CAVE_CMD_CHALLENGE : Field := ⟨0, 1⟩
def F.CAVE_CMD_CLEAR : Field := ⟨1, 1⟩
def F.CAVE_CMD_PROVISION : Field := ⟨2, 1⟩
/-- CAVE_CLR_STAT (R455, 17_cave_recorder.md). -/
def R.CAVE_CLR_STAT : Nat := 0x300A4
def F.CAVE_CLR_STAT_CODE : Field := ⟨0, 3⟩
def F.CAVE_CLR_STAT_FAILS : Field := ⟨16, 16⟩
/-- CAVE_CHAL (R455, 17_cave_recorder.md). -/
def R.CAVE_CHAL (k : Nat) : Nat := 0x300C0 + 4 * k
def F.CAVE_CHAL_DATA : Field := ⟨0, 32⟩
/-- CAVE_RESP (R455, 17_cave_recorder.md). -/
def R.CAVE_RESP (k : Nat) : Nat := 0x300E0 + 4 * k
def F.CAVE_RESP_DATA : Field := ⟨0, 32⟩
/-- CAVE_KEY (R455, 17_cave_recorder.md). -/
def R.CAVE_KEY (k : Nat) : Nat := 0x30100 + 4 * k
def F.CAVE_KEY_DATA : Field := ⟨0, 32⟩
/-- CAL_CTL (R415, 15_calibration.md). -/
def R.CAL_CTL : Nat := 0x40000
def F.CAL_CTL_BRST : Field := ⟨31, 1⟩
/-- CAL_ISR (R415, 15_calibration.md). -/
def R.CAL_ISR : Nat := 0x40004
def F.CAL_ISR_DONE : Field := ⟨0, 1⟩
def F.CAL_ISR_DISAGREE : Field := ⟨1, 1⟩
def F.CAL_ISR_REJ : Field := ⟨2, 1⟩
/-- CAL_IER (R415, 15_calibration.md). -/
def R.CAL_IER : Nat := 0x40008
def F.CAL_IER_EN : Field := ⟨0, 3⟩
/-- CAL_CMD (R415, 15_calibration.md). -/
def R.CAL_CMD : Nat := 0x40010
def F.CAL_CMD_GROUP : Field := ⟨0, 3⟩
def F.CAL_CMD_OPEN : Field := ⟨8, 1⟩
def F.CAL_CMD_REPEAT : Field := ⟨9, 1⟩
def F.CAL_CMD_ABORT : Field := ⟨10, 1⟩
def F.CAL_CMD_RESTORE : Field := ⟨11, 1⟩
/-- CAL_APPLY (R415, 15_calibration.md). -/
def R.CAL_APPLY : Nat := 0x40014
def F.CAL_APPLY_GROUP : Field := ⟨0, 3⟩
def F.CAL_APPLY_GO : Field := ⟨31, 1⟩
/-- CAL_G_STAT (R415, 15_calibration.md). -/
def R.CAL_G_STAT (n : Nat) : Nat := 0x40100 + 0x20 * n
def F.CAL_G_STAT_STATE : Field := ⟨0, 2⟩
def F.CAL_G_STAT_RESULT : Field := ⟨2, 3⟩
/-- CAL_G_TOL (R415, 15_calibration.md). -/
def R.CAL_G_TOL (n : Nat) : Nat := 0x40104 + 0x20 * n
def F.CAL_G_TOL_ABS : Field := ⟨0, 16⟩
def F.CAL_G_TOL_REL : Field := ⟨16, 16⟩
/-- CAL_G_WORDS (R415, 15_calibration.md). -/
def R.CAL_G_WORDS (n : Nat) : Nat := 0x40108 + 0x20 * n
def F.CAL_G_WORDS_COUNT : Field := ⟨0, 32⟩
/-- CAL_G_CMPW (R415, 15_calibration.md). -/
def R.CAL_G_CMPW (n : Nat) : Nat := 0x4010C + 0x20 * n
def F.CAL_G_CMPW_COUNT : Field := ⟨0, 32⟩
/-- CAL_G_NDIS (R415, 15_calibration.md). -/
def R.CAL_G_NDIS (n : Nat) : Nat := 0x40110 + 0x20 * n
def F.CAL_G_NDIS_COUNT : Field := ⟨0, 32⟩
/-- CAL_G_DIFF (R415, 15_calibration.md). -/
def R.CAL_G_DIFF (n : Nat) : Nat := 0x40114 + 0x20 * n
def F.CAL_G_DIFF_DIFF : Field := ⟨0, 32⟩
/-- INTG_CTL (R404, 14_data_integrity.md). -/
def R.INTG_CTL : Nat := 0x50000
def F.INTG_CTL_SCRUB : Field := ⟨0, 1⟩
def F.INTG_CTL_BIST : Field := ⟨1, 1⟩
def F.INTG_CTL_BRST : Field := ⟨31, 1⟩
/-- INTG_ISR (R404, 14_data_integrity.md). -/
def R.INTG_ISR : Nat := 0x50004
def F.INTG_ISR_CE : Field := ⟨0, 1⟩
def F.INTG_ISR_UE : Field := ⟨1, 1⟩
def F.INTG_ISR_RESIDUE : Field := ⟨2, 1⟩
def F.INTG_ISR_PROMOTE : Field := ⟨3, 1⟩
def F.INTG_ISR_REMAPFULL : Field := ⟨4, 1⟩
def F.INTG_ISR_CRC : Field := ⟨5, 1⟩
def F.INTG_ISR_BISTFAIL : Field := ⟨6, 1⟩
def F.INTG_ISR_REJ : Field := ⟨7, 1⟩
/-- INTG_IER (R404, 14_data_integrity.md). -/
def R.INTG_IER : Nat := 0x50008
def F.INTG_IER_EN : Field := ⟨0, 8⟩
/-- INTG_STAT (R404, 14_data_integrity.md). -/
def R.INTG_STAT : Nat := 0x5000C
def F.INTG_STAT_BISTBUSY : Field := ⟨0, 1⟩
/-- INTG_PASS (R404, 14_data_integrity.md). -/
def R.INTG_PASS : Nat := 0x50010
def F.INTG_PASS_COUNT : Field := ⟨0, 32⟩
/-- INTG_CE (R404, 14_data_integrity.md). -/
def R.INTG_CE : Nat := 0x50014
def F.INTG_CE_COUNT : Field := ⟨0, 32⟩
/-- INTG_UE (R404, 14_data_integrity.md). -/
def R.INTG_UE : Nat := 0x50018
def F.INTG_UE_COUNT : Field := ⟨0, 32⟩
/-- INTG_RES (R404, 14_data_integrity.md). -/
def R.INTG_RES : Nat := 0x5001C
def F.INTG_RES_COUNT : Field := ⟨0, 32⟩
/-- INTG_LAST (R404, 14_data_integrity.md). -/
def R.INTG_LAST : Nat := 0x50020
def F.INTG_LAST_KIND : Field := ⟨0, 4⟩
def F.INTG_LAST_CLASS : Field := ⟨4, 4⟩
def F.INTG_LAST_INDEX : Field := ⟨8, 24⟩
/-- INTG_CRC (R404, 14_data_integrity.md). -/
def R.INTG_CRC : Nat := 0x50024
def F.INTG_CRC_COUNT : Field := ⟨0, 32⟩
/-- INTG_BIST (R404, 14_data_integrity.md). -/
def R.INTG_BIST : Nat := 0x50028
def F.INTG_BIST_CLASS : Field := ⟨0, 11⟩
def F.INTG_BIST_UNIT : Field := ⟨11, 4⟩
def F.INTG_BIST_CRC : Field := ⟨15, 1⟩
/-- INTG_TRKOVF (R404, 14_data_integrity.md). -/
def R.INTG_TRKOVF : Nat := 0x5002C
def F.INTG_TRKOVF_COUNT : Field := ⟨0, 32⟩
/-- INTG_RECDROP (R404, 14_data_integrity.md). -/
def R.INTG_RECDROP : Nat := 0x50030
def F.INTG_RECDROP_COUNT : Field := ⟨0, 32⟩
/-- INTG_REMAP (R404, 14_data_integrity.md). -/
def R.INTG_REMAP (n k : Nat) : Nat := 0x50100 + 0x40 * n + 4 * k
def F.INTG_REMAP_INDEX : Field := ⟨0, 24⟩
def F.INTG_REMAP_VALID : Field := ⟨31, 1⟩
/-- INTG_SPLIT_CTL (R404, 14_data_integrity.md). -/
def R.INTG_SPLIT_CTL : Nat := 0x50400
def F.INTG_SPLIT_CTL_EN : Field := ⟨0, 1⟩
def F.INTG_SPLIT_CTL_XOR : Field := ⟨8, 7⟩
/-- INTG_SPLIT_REF (R404, 14_data_integrity.md). -/
def R.INTG_SPLIT_REF : Nat := 0x50404
def F.INTG_SPLIT_REF_REF : Field := ⟨0, 32⟩
/-- INTG_SPLIT_RES (R404, 14_data_integrity.md). -/
def R.INTG_SPLIT_RES : Nat := 0x50408
def F.INTG_SPLIT_RES_CH : Field := ⟨0, 5⟩
def F.INTG_SPLIT_RES_AXIS : Field := ⟨5, 2⟩
def F.INTG_SPLIT_RES_UNIT : Field := ⟨8, 2⟩
def F.INTG_SPLIT_RES_GO : Field := ⟨31, 1⟩
/-- BOOT_CTL (R469, 18_startup_reset_and_recovery.md). -/
def R.BOOT_CTL : Nat := 0x60000
def F.BOOT_CTL_PERST_CORE : Field := ⟨0, 1⟩
/-- BOOT_ISR (R469, 18_startup_reset_and_recovery.md). -/
def R.BOOT_ISR : Nat := 0x60004
def F.BOOT_ISR_BOOTED : Field := ⟨0, 1⟩
def F.BOOT_ISR_BOOTFAIL : Field := ⟨1, 1⟩
def F.BOOT_ISR_SAFE : Field := ⟨2, 1⟩
def F.BOOT_ISR_BADKICK : Field := ⟨3, 1⟩
def F.BOOT_ISR_REJ : Field := ⟨4, 1⟩
/-- BOOT_IER (R469, 18_startup_reset_and_recovery.md). -/
def R.BOOT_IER : Nat := 0x60008
def F.BOOT_IER_EN : Field := ⟨0, 5⟩
/-- BOOT_STAT (R469, 18_startup_reset_and_recovery.md). -/
def R.BOOT_STAT : Nat := 0x6000C
def F.BOOT_STAT_STAGE : Field := ⟨0, 2⟩
def F.BOOT_STAT_SLOT : Field := ⟨2, 2⟩
def F.BOOT_STAT_UNSIGNED : Field := ⟨4, 1⟩
def F.BOOT_STAT_KEYSET : Field := ⟨5, 1⟩
def F.BOOT_STAT_SSC : Field := ⟨6, 2⟩
def F.BOOT_STAT_CAUSE : Field := ⟨8, 3⟩
def F.BOOT_STAT_FAILA : Field := ⟨12, 3⟩
def F.BOOT_STAT_FAILB : Field := ⟨16, 3⟩
def F.BOOT_STAT_FAILH : Field := ⟨20, 3⟩
/-- BOOT_HB (R469, 18_startup_reset_and_recovery.md). -/
def R.BOOT_HB : Nat := 0x60010
def F.BOOT_HB_VAL : Field := ⟨0, 8⟩
def F.BOOT_HB_BAD : Field := ⟨8, 8⟩
/-- BOOT_SAFE (R469, 18_startup_reset_and_recovery.md). -/
def R.BOOT_SAFE : Nat := 0x60014
def F.BOOT_SAFE_ENTER : Field := ⟨0, 1⟩
/-- BOOT_RST (R469, 18_startup_reset_and_recovery.md). -/
def R.BOOT_RST : Nat := 0x60018
def F.BOOT_RST_CMD : Field := ⟨0, 8⟩
/-- BOOT_RSTCAUSE (R469, 18_startup_reset_and_recovery.md). -/
def R.BOOT_RSTCAUSE : Nat := 0x6001C
def F.BOOT_RSTCAUSE_KIND : Field := ⟨0, 2⟩
/-- BOOT_CMD (R469, 18_startup_reset_and_recovery.md). -/
def R.BOOT_CMD : Nat := 0x60020
def F.BOOT_CMD_GO : Field := ⟨0, 1⟩
def F.BOOT_CMD_PROVISION : Field := ⟨1, 1⟩
/-- BOOT_RECID (R469, 18_startup_reset_and_recovery.md). -/
def R.BOOT_RECID : Nat := 0x60024
def F.BOOT_RECID_VENDOR : Field := ⟨0, 16⟩
def F.BOOT_RECID_DEVICE : Field := ⟨16, 16⟩
/-- BOOT_PK (R469, 18_startup_reset_and_recovery.md). -/
def R.BOOT_PK (k : Nat) : Nat := 0x60040 + 4 * k
def F.BOOT_PK_DATA : Field := ⟨0, 32⟩
/-- SEQ_CTL (R127, 03_sequencers_and_feed.md). -/
def R.SEQ_CTL (n : Nat) : Nat := 0x100000 + 0x1000 * n
def F.SEQ_CTL_EN : Field := ⟨0, 1⟩
/-- SEQ_STAT (R127, 03_sequencers_and_feed.md). -/
def R.SEQ_STAT (n : Nat) : Nat := 0x100004 + 0x1000 * n
def F.SEQ_STAT_STATE : Field := ⟨0, 4⟩
def F.SEQ_STAT_OWNWAIT : Field := ⟨4, 1⟩
def F.SEQ_STAT_INLAYER_OFF : Field := ⟨5, 1⟩
def F.SEQ_STAT_LEVEL : Field := ⟨8, 9⟩
def F.SEQ_STAT_NOTOWN : Field := ⟨17, 15⟩
/-- SEQ_FAULT (R127, 03_sequencers_and_feed.md). -/
def R.SEQ_FAULT (n : Nat) : Nat := 0x100008 + 0x1000 * n
def F.SEQ_FAULT_CODE : Field := ⟨0, 8⟩
def F.SEQ_FAULT_WORD : Field := ⟨8, 17⟩
def F.SEQ_FAULT_LIB : Field := ⟨25, 1⟩
/-- SEQ_FAULT_SEQNO (R127, 03_sequencers_and_feed.md). -/
def R.SEQ_FAULT_SEQNO (n : Nat) : Nat := 0x10000C + 0x1000 * n
def F.SEQ_FAULT_SEQNO_SEQNO : Field := ⟨0, 32⟩
/-- SEQ_FAULT_S_LO (R127, 03_sequencers_and_feed.md). -/
def R.SEQ_FAULT_S_LO (n : Nat) : Nat := 0x100010 + 0x1000 * n
def F.SEQ_FAULT_S_LO_S : Field := ⟨0, 32⟩
/-- SEQ_FAULT_S_HI (R127, 03_sequencers_and_feed.md). -/
def R.SEQ_FAULT_S_HI (n : Nat) : Nat := 0x100014 + 0x1000 * n
def F.SEQ_FAULT_S_HI_S : Field := ⟨0, 16⟩
/-- SEQ_YDONE (R127, 03_sequencers_and_feed.md). -/
def R.SEQ_YDONE (n : Nat) : Nat := 0x100018 + 0x1000 * n
def F.SEQ_YDONE_YIELD : Field := ⟨0, 16⟩
/-- SEQ_RING_BASE (R127, 03_sequencers_and_feed.md). -/
def R.SEQ_RING_BASE (n : Nat) : Nat := 0x100020 + 0x1000 * n
def F.SEQ_RING_BASE_LINE : Field := ⟨0, 32⟩
/-- SEQ_RING_SIZE (R127, 03_sequencers_and_feed.md). -/
def R.SEQ_RING_SIZE (n : Nat) : Nat := 0x100024 + 0x1000 * n
def F.SEQ_RING_SIZE_LOG2 : Field := ⟨0, 4⟩
/-- SEQ_RING_TAIL (R127, 03_sequencers_and_feed.md). -/
def R.SEQ_RING_TAIL (n : Nat) : Nat := 0x100028 + 0x1000 * n
def F.SEQ_RING_TAIL_INDEX : Field := ⟨0, 12⟩
/-- SEQ_RING_HEAD (R127, 03_sequencers_and_feed.md). -/
def R.SEQ_RING_HEAD (n : Nat) : Nat := 0x10002C + 0x1000 * n
def F.SEQ_RING_HEAD_INDEX : Field := ⟨0, 12⟩
/-- SEQ_FEED_CFG (R127, 03_sequencers_and_feed.md). -/
def R.SEQ_FEED_CFG (n : Nat) : Nat := 0x100030 + 0x1000 * n
def F.SEQ_FEED_CFG_PANIC : Field := ⟨0, 8⟩
/-- SEQ_FEED_REFETCH (R127, 03_sequencers_and_feed.md). -/
def R.SEQ_FEED_REFETCH (n : Nat) : Nat := 0x100034 + 0x1000 * n
def F.SEQ_FEED_REFETCH_COUNT : Field := ⟨0, 32⟩
/-- SEQ_DISCARD (R127, 03_sequencers_and_feed.md). -/
def R.SEQ_DISCARD (n : Nat) : Nat := 0x100038 + 0x1000 * n
def F.SEQ_DISCARD_LINES : Field := ⟨0, 16⟩
def F.SEQ_DISCARD_CURDS : Field := ⟨16, 16⟩
/-- SEQ_LIB_BASE (R127, 03_sequencers_and_feed.md). -/
def R.SEQ_LIB_BASE (n : Nat) : Nat := 0x100040 + 0x1000 * n
def F.SEQ_LIB_BASE_LINE : Field := ⟨0, 32⟩
/-- SEQ_LIB_CMD (R127, 03_sequencers_and_feed.md). -/
def R.SEQ_LIB_CMD (n : Nat) : Nat := 0x100044 + 0x1000 * n
def F.SEQ_LIB_CMD_LOAD : Field := ⟨0, 1⟩
def F.SEQ_LIB_CMD_UNLOAD : Field := ⟨1, 1⟩
/-- SEQ_LIB_STAT (R127, 03_sequencers_and_feed.md). -/
def R.SEQ_LIB_STAT (n : Nat) : Nat := 0x100048 + 0x1000 * n
def F.SEQ_LIB_STAT_BUSY : Field := ⟨0, 1⟩
def F.SEQ_LIB_STAT_VALID : Field := ⟨1, 1⟩
def F.SEQ_LIB_STAT_REJ : Field := ⟨2, 1⟩
def F.SEQ_LIB_STAT_CODE : Field := ⟨8, 8⟩
/-- SEQ_K (R127, 03_sequencers_and_feed.md). -/
def R.SEQ_K (n k : Nat) : Nat := 0x100100 + 0x1000 * n + 4 * k
def F.SEQ_K_VALUE : Field := ⟨0, 32⟩
/-- SEQ_GRP_CMD (R128, 03_sequencers_and_feed.md). -/
def R.SEQ_GRP_CMD : Nat := 0x120000
def F.SEQ_GRP_CMD_ARM : Field := ⟨0, 1⟩
def F.SEQ_GRP_CMD_ABORT : Field := ⟨1, 1⟩
def F.SEQ_GRP_CMD_BRST : Field := ⟨31, 1⟩
/-- SEQ_GRP_CTL (R128, 03_sequencers_and_feed.md). -/
def R.SEQ_GRP_CTL : Nat := 0x120004
def F.SEQ_GRP_CTL_HOLD_REQ : Field := ⟨0, 1⟩
def F.SEQ_GRP_CTL_KEEP_SEQ : Field := ⟨1, 1⟩
/-- SEQ_GRP_STAT (R128, 03_sequencers_and_feed.md). -/
def R.SEQ_GRP_STAT : Nat := 0x120008
def F.SEQ_GRP_STAT_STATE : Field := ⟨0, 3⟩
def F.SEQ_GRP_STAT_CHECKING : Field := ⟨3, 1⟩
def F.SEQ_GRP_STAT_ARMSTAT : Field := ⟨4, 3⟩
def F.SEQ_GRP_STAT_RESET_ABORT : Field := ⟨7, 1⟩
def F.SEQ_GRP_STAT_HOLDSRC : Field := ⟨8, 3⟩
def F.SEQ_GRP_STAT_MISSING : Field := ⟨16, 16⟩
/-- SEQ_GRP_CFG (R128, 03_sequencers_and_feed.md). -/
def R.SEQ_GRP_CFG : Nat := 0x12000C
def F.SEQ_GRP_CFG_SELF : Field := ⟨0, 4⟩
def F.SEQ_GRP_CFG_MEMBERS : Field := ⟨16, 16⟩
/-- SEQ_GRP_LAYER (R128, 03_sequencers_and_feed.md). -/
def R.SEQ_GRP_LAYER : Nat := 0x120010
def F.SEQ_GRP_LAYER_LAYER : Field := ⟨0, 32⟩
/-- SEQ_GRP_PMASK (R128, 03_sequencers_and_feed.md). -/
def R.SEQ_GRP_PMASK : Nat := 0x120014
def F.SEQ_GRP_PMASK_MASK : Field := ⟨0, 32⟩
/-- SEQ_GRP_YBASE (R128, 03_sequencers_and_feed.md). -/
def R.SEQ_GRP_YBASE : Nat := 0x120018
def F.SEQ_GRP_YBASE_LINE : Field := ⟨0, 32⟩
/-- SEQ_GRP_YCOUNT (R128, 03_sequencers_and_feed.md). -/
def R.SEQ_GRP_YCOUNT : Nat := 0x12001C
def F.SEQ_GRP_YCOUNT_N : Field := ⟨0, 17⟩
/-- SEQ_GRP_RESUME (R128, 03_sequencers_and_feed.md). -/
def R.SEQ_GRP_RESUME : Nat := 0x120020
def F.SEQ_GRP_RESUME_INDEX : Field := ⟨0, 16⟩
/-- SEQ_GRP_MSTART_FRAC (R128, 03_sequencers_and_feed.md). -/
def R.SEQ_GRP_MSTART_FRAC : Nat := 0x120024
def F.SEQ_GRP_MSTART_FRAC_FRAC : Field := ⟨0, 16⟩
/-- SEQ_GRP_MSTART_NS (R128, 03_sequencers_and_feed.md). -/
def R.SEQ_GRP_MSTART_NS : Nat := 0x120028
def F.SEQ_GRP_MSTART_NS_NS : Field := ⟨0, 30⟩
/-- SEQ_GRP_MSTART_SEC_LO (R128, 03_sequencers_and_feed.md). -/
def R.SEQ_GRP_MSTART_SEC_LO : Nat := 0x12002C
def F.SEQ_GRP_MSTART_SEC_LO_SEC : Field := ⟨0, 32⟩
/-- SEQ_GRP_MSTART_SEC_HI (R128, 03_sequencers_and_feed.md). -/
def R.SEQ_GRP_MSTART_SEC_HI : Nat := 0x120030
def F.SEQ_GRP_MSTART_SEC_HI_SEC : Field := ⟨0, 32⟩
/-- SEQ_GRP_S_LO (R128, 03_sequencers_and_feed.md). -/
def R.SEQ_GRP_S_LO : Nat := 0x120034
def F.SEQ_GRP_S_LO_S : Field := ⟨0, 32⟩
/-- SEQ_GRP_S_HI (R128, 03_sequencers_and_feed.md). -/
def R.SEQ_GRP_S_HI : Nat := 0x120038
def F.SEQ_GRP_S_HI_S : Field := ⟨0, 16⟩
/-- SEQ_GRP_HOLDS (R128, 03_sequencers_and_feed.md). -/
def R.SEQ_GRP_HOLDS : Nat := 0x120040
def F.SEQ_GRP_HOLDS_COUNT : Field := ⟨0, 32⟩
/-- SEQ_GRP_P_LO (R128, 03_sequencers_and_feed.md). -/
def R.SEQ_GRP_P_LO : Nat := 0x120044
def F.SEQ_GRP_P_LO_P : Field := ⟨0, 32⟩
/-- SEQ_GRP_P_HI (R128, 03_sequencers_and_feed.md). -/
def R.SEQ_GRP_P_HI : Nat := 0x120048
def F.SEQ_GRP_P_HI_P : Field := ⟨0, 16⟩
/-- SEQ_GRP_LASTHOLD (R128, 03_sequencers_and_feed.md). -/
def R.SEQ_GRP_LASTHOLD : Nat := 0x12004C
def F.SEQ_GRP_LASTHOLD_INDEX : Field := ⟨0, 16⟩
def F.SEQ_GRP_LASTHOLD_CAUSE : Field := ⟨16, 3⟩
/-- SEQ_GRP_LASTHOLD_LEN_LO (R128, 03_sequencers_and_feed.md). -/
def R.SEQ_GRP_LASTHOLD_LEN_LO : Nat := 0x120050
def F.SEQ_GRP_LASTHOLD_LEN_LO_LEN : Field := ⟨0, 32⟩
/-- SEQ_GRP_LASTHOLD_LEN_HI (R128, 03_sequencers_and_feed.md). -/
def R.SEQ_GRP_LASTHOLD_LEN_HI : Nat := 0x120054
def F.SEQ_GRP_LASTHOLD_LEN_HI_LEN : Field := ⟨0, 16⟩
/-- SEQ_GRP_ISR (R128, 03_sequencers_and_feed.md). -/
def R.SEQ_GRP_ISR : Nat := 0x120058
def F.SEQ_GRP_ISR_ACCEPT : Field := ⟨0, 1⟩
def F.SEQ_GRP_ISR_REJECT : Field := ⟨1, 1⟩
def F.SEQ_GRP_ISR_START : Field := ⟨2, 1⟩
def F.SEQ_GRP_ISR_REFUSE : Field := ⟨3, 1⟩
def F.SEQ_GRP_ISR_HOLD : Field := ⟨4, 1⟩
def F.SEQ_GRP_ISR_RESTART : Field := ⟨5, 1⟩
def F.SEQ_GRP_ISR_COMPLETE : Field := ⟨6, 1⟩
def F.SEQ_GRP_ISR_ABORT : Field := ⟨7, 1⟩
def F.SEQ_GRP_ISR_EVT : Field := ⟨8, 1⟩
def F.SEQ_GRP_ISR_DESC : Field := ⟨9, 1⟩
def F.SEQ_GRP_ISR_FAULT : Field := ⟨10, 1⟩
/-- SEQ_GRP_IER (R128, 03_sequencers_and_feed.md). -/
def R.SEQ_GRP_IER : Nat := 0x12005C
def F.SEQ_GRP_IER_EN : Field := ⟨0, 11⟩
/-- SEQ_GRP_DESC (R128, 03_sequencers_and_feed.md). -/
def R.SEQ_GRP_DESC : Nat := 0x120060
def F.SEQ_GRP_DESC_CH : Field := ⟨0, 32⟩
/-- SEQ_GRP_FAULTCH (R128, 03_sequencers_and_feed.md). -/
def R.SEQ_GRP_FAULTCH : Nat := 0x120064
def F.SEQ_GRP_FAULTCH_CH : Field := ⟨0, 32⟩
/-- SEQ_EVT_BASE (R128, 03_sequencers_and_feed.md). -/
def R.SEQ_EVT_BASE : Nat := 0x120070
def F.SEQ_EVT_BASE_LINE : Field := ⟨0, 32⟩
/-- SEQ_EVT_CTL (R128, 03_sequencers_and_feed.md). -/
def R.SEQ_EVT_CTL : Nat := 0x120074
def F.SEQ_EVT_CTL_EN : Field := ⟨0, 1⟩
def F.SEQ_EVT_CTL_LOG2 : Field := ⟨4, 5⟩
def F.SEQ_EVT_CTL_RDERR : Field := ⟨9, 1⟩
/-- SEQ_EVT_WR (R128, 03_sequencers_and_feed.md). -/
def R.SEQ_EVT_WR : Nat := 0x120078
def F.SEQ_EVT_WR_INDEX : Field := ⟨0, 16⟩
/-- SEQ_EVT_RD (R128, 03_sequencers_and_feed.md). -/
def R.SEQ_EVT_RD : Nat := 0x12007C
def F.SEQ_EVT_RD_INDEX : Field := ⟨0, 16⟩
/-- SEQ_EVT_DROP (R128, 03_sequencers_and_feed.md). -/
def R.SEQ_EVT_DROP : Nat := 0x120080
def F.SEQ_EVT_DROP_COUNT : Field := ⟨0, 32⟩
/-- SEQ_EVT_THRESH (R128, 03_sequencers_and_feed.md). -/
def R.SEQ_EVT_THRESH : Nat := 0x120084
def F.SEQ_EVT_THRESH_LEVEL : Field := ⟨0, 16⟩
/-- SEQ_GRP_MID (R128, 03_sequencers_and_feed.md). -/
def R.SEQ_GRP_MID (k : Nat) : Nat := 0x1200C0 + 4 * k
def F.SEQ_GRP_MID_DEVID : Field := ⟨0, 16⟩
/-- SRV_CTL (R166, 04_scanner_servo.md). -/
def R.SRV_CTL : Nat := 0x140000
def F.SRV_CTL_FREEZE_ALL : Field := ⟨0, 1⟩
def F.SRV_CTL_BRST : Field := ⟨31, 1⟩
/-- SRV_ISR (R166, 04_scanner_servo.md). -/
def R.SRV_ISR : Nat := 0x140004
def F.SRV_ISR_TRIP : Field := ⟨0, 1⟩
def F.SRV_ISR_STALE : Field := ⟨1, 1⟩
def F.SRV_ISR_ARITH : Field := ⟨2, 1⟩
def F.SRV_ISR_REJ : Field := ⟨3, 1⟩
def F.SRV_ISR_MBOX : Field := ⟨4, 1⟩
def F.SRV_ISR_IDDONE : Field := ⟨5, 1⟩
/-- SRV_IER (R166, 04_scanner_servo.md). -/
def R.SRV_IER : Nat := 0x140008
def F.SRV_IER_EN : Field := ⟨0, 6⟩
/-- SRV_ISUM (R166, 04_scanner_servo.md). -/
def R.SRV_ISUM : Nat := 0x140010
def F.SRV_ISUM_MA : Field := ⟨0, 24⟩
/-- SRV_ID_CTL (R166, 04_scanner_servo.md). -/
def R.SRV_ID_CTL : Nat := 0x140020
def F.SRV_ID_CTL_ARM : Field := ⟨0, 1⟩
def F.SRV_ID_CTL_ORDER : Field := ⟨1, 1⟩
def F.SRV_ID_CTL_DIV : Field := ⟨2, 4⟩
def F.SRV_ID_CTL_AXIS : Field := ⟨8, 7⟩
/-- SRV_ID_AMP (R166, 04_scanner_servo.md). -/
def R.SRV_ID_AMP : Nat := 0x140024
def F.SRV_ID_AMP_AMP : Field := ⟨0, 20⟩
/-- SRV_ID_STAT (R166, 04_scanner_servo.md). -/
def R.SRV_ID_STAT : Nat := 0x140028
def F.SRV_ID_STAT_BUSY : Field := ⟨0, 1⟩
def F.SRV_ID_STAT_DONE : Field := ⟨1, 1⟩
def F.SRV_ID_STAT_COUNT : Field := ⟨16, 13⟩
/-- SRV_MB_SEQ (R166, 04_scanner_servo.md). -/
def R.SRV_MB_SEQ (k : Nat) : Nat := 0x140100 + 32 * k
def F.SRV_MB_SEQ_SEQ : Field := ⟨0, 16⟩
def F.SRV_MB_SEQ_OVR : Field := ⟨16, 8⟩
def F.SRV_MB_SEQ_NEW : Field := ⟨31, 1⟩
/-- SRV_MB_AREA (R166, 04_scanner_servo.md). -/
def R.SRV_MB_AREA (k : Nat) : Nat := 0x140104 + 32 * k
def F.SRV_MB_AREA_AREA : Field := ⟨0, 32⟩
/-- SRV_MB_CENT (R166, 04_scanner_servo.md). -/
def R.SRV_MB_CENT (k : Nat) : Nat := 0x140108 + 32 * k
def F.SRV_MB_CENT_CX : Field := ⟨0, 16⟩
def F.SRV_MB_CENT_CY : Field := ⟨16, 16⟩
/-- SRV_MB_PEAK (R166, 04_scanner_servo.md). -/
def R.SRV_MB_PEAK (k : Nat) : Nat := 0x14010C + 32 * k
def F.SRV_MB_PEAK_PEAK : Field := ⟨0, 16⟩
/-- SRV_MB_TEND_NS (R166, 04_scanner_servo.md). -/
def R.SRV_MB_TEND_NS (k : Nat) : Nat := 0x140110 + 32 * k
def F.SRV_MB_TEND_NS_NS : Field := ⟨0, 30⟩
/-- SRV_MB_TEND_S (R166, 04_scanner_servo.md). -/
def R.SRV_MB_TEND_S (k : Nat) : Nat := 0x140114 + 32 * k
def F.SRV_MB_TEND_S_SEC : Field := ⟨0, 32⟩
/-- SRV_AX_MODE (R166, 04_scanner_servo.md). -/
def R.SRV_AX_MODE (n : Nat) : Nat := 0x141000 + 0x40 * n
def F.SRV_AX_MODE_MODE : Field := ⟨0, 2⟩
def F.SRV_AX_MODE_BLEND : Field := ⟨2, 4⟩
def F.SRV_AX_MODE_REJ : Field := ⟨6, 1⟩
/-- SRV_AX_STAT (R166, 04_scanner_servo.md). -/
def R.SRV_AX_STAT (n : Nat) : Nat := 0x141004 + 0x40 * n
def F.SRV_AX_STAT_MODE : Field := ⟨0, 2⟩
def F.SRV_AX_STAT_REGION : Field := ⟨2, 3⟩
def F.SRV_AX_STAT_FORCED : Field := ⟨5, 1⟩
def F.SRV_AX_STAT_LRN : Field := ⟨6, 2⟩
def F.SRV_AX_STAT_SAT : Field := ⟨8, 1⟩
def F.SRV_AX_STAT_IHOLD : Field := ⟨9, 1⟩
def F.SRV_AX_STAT_BLENDING : Field := ⟨10, 1⟩
def F.SRV_AX_STAT_ARITH : Field := ⟨11, 1⟩
def F.SRV_AX_STAT_STALE : Field := ⟨12, 1⟩
/-- SRV_AX_HREF (R166, 04_scanner_servo.md). -/
def R.SRV_AX_HREF (n : Nat) : Nat := 0x141008 + 0x40 * n
def F.SRV_AX_HREF_POS : Field := ⟨0, 24⟩
/-- SRV_AX_ICMD (R166, 04_scanner_servo.md). -/
def R.SRV_AX_ICMD (n : Nat) : Nat := 0x14100C + 0x40 * n
def F.SRV_AX_ICMD_CUR : Field := ⟨0, 20⟩
/-- SRV_AX_CFG (R166, 04_scanner_servo.md). -/
def R.SRV_AX_CFG (n : Nat) : Nat := 0x141010 + 0x40 * n
def F.SRV_AX_CFG_LEAD : Field := ⟨0, 11⟩
def F.SRV_AX_CFG_QSH : Field := ⟨11, 3⟩
def F.SRV_AX_CFG_IFS : Field := ⟨16, 16⟩
/-- SRV_AX_TEG (R166, 04_scanner_servo.md). -/
def R.SRV_AX_TEG (n : Nat) : Nat := 0x141014 + 0x40 * n
def F.SRV_AX_TEG_SCALE : Field := ⟨0, 16⟩
/-- SRV_AX_GAMMA (R166, 04_scanner_servo.md). -/
def R.SRV_AX_GAMMA (n : Nat) : Nat := 0x141018 + 0x40 * n
def F.SRV_AX_GAMMA_GAMMA : Field := ⟨0, 24⟩
/-- SRV_AX_LRN (R166, 04_scanner_servo.md). -/
def R.SRV_AX_LRN (n : Nat) : Nat := 0x14101C + 0x40 * n
def F.SRV_AX_LRN_LEAK : Field := ⟨0, 16⟩
def F.SRV_AX_LRN_PLEAD : Field := ⟨16, 6⟩
/-- SRV_AX_QMAX (R166, 04_scanner_servo.md). -/
def R.SRV_AX_QMAX (n : Nat) : Nat := 0x141020 + 0x40 * n
def F.SRV_AX_QMAX_QMAX : Field := ⟨0, 15⟩
/-- SRV_AX_MEAS (R166, 04_scanner_servo.md). -/
def R.SRV_AX_MEAS (n : Nat) : Nat := 0x141024 + 0x40 * n
def F.SRV_AX_MEAS_Y : Field := ⟨0, 24⟩
/-- SRV_AX_ERR (R166, 04_scanner_servo.md). -/
def R.SRV_AX_ERR (n : Nat) : Nat := 0x141028 + 0x40 * n
def F.SRV_AX_ERR_E : Field := ⟨0, 24⟩
/-- SRV_AX_CMD (R166, 04_scanner_servo.md). -/
def R.SRV_AX_CMD (n : Nat) : Nat := 0x14102C + 0x40 * n
def F.SRV_AX_CMD_U : Field := ⟨0, 20⟩
/-- SRV_AX_LINK (R166, 04_scanner_servo.md). -/
def R.SRV_AX_LINK (n : Nat) : Nat := 0x141030 + 0x40 * n
def F.SRV_AX_LINK_ARRPH : Field := ⟨0, 12⟩
def F.SRV_AX_LINK_DOUBLES : Field := ⟨12, 4⟩
def F.SRV_AX_LINK_STALES : Field := ⟨16, 16⟩
/-- SRV_AX_TRIPS (R166, 04_scanner_servo.md). -/
def R.SRV_AX_TRIPS (n : Nat) : Nat := 0x141034 + 0x40 * n
def F.SRV_AX_TRIPS_COUNT : Field := ⟨0, 32⟩
/-- SRV_CH_CFG (R166, 04_scanner_servo.md). -/
def R.SRV_CH_CFG (n : Nat) : Nat := 0x143000 + 0x10 * n
def F.SRV_CH_CFG_DELAY : Field := ⟨0, 13⟩
def F.SRV_CH_CFG_STALEMAX : Field := ⟨13, 3⟩
def F.SRV_CH_CFG_LATCH : Field := ⟨16, 1⟩
def F.SRV_CH_CFG_MPHOLD : Field := ⟨24, 8⟩
/-- SRV_CH_STAT (R166, 04_scanner_servo.md). -/
def R.SRV_CH_STAT (n : Nat) : Nat := 0x143004 + 0x10 * n
def F.SRV_CH_STAT_TRIPPED : Field := ⟨0, 1⟩
def F.SRV_CH_STAT_MPBOUND : Field := ⟨1, 1⟩
/-- LSR_CTL (R197, 05_laser_and_melt_pool.md). -/
def R.LSR_CTL : Nat := 0x180000
def F.LSR_CTL_BRST : Field := ⟨31, 1⟩
/-- LSR_ISR (R197, 05_laser_and_melt_pool.md). -/
def R.LSR_ISR : Nat := 0x180004
def F.LSR_ISR_LASER : Field := ⟨0, 1⟩
def F.LSR_ISR_EMS : Field := ⟨1, 1⟩
def F.LSR_ISR_LOGDROP : Field := ⟨2, 1⟩
def F.LSR_ISR_REJ : Field := ⟨3, 1⟩
/-- LSR_IER (R197, 05_laser_and_melt_pool.md). -/
def R.LSR_IER : Nat := 0x180008
def F.LSR_IER_EN : Field := ⟨0, 4⟩
/-- LSR_EMS (R197, 05_laser_and_melt_pool.md). -/
def R.LSR_EMS : Nat := 0x180010
def F.LSR_EMS_LATCHED : Field := ⟨0, 1⟩
def F.LSR_EMS_LEVEL : Field := ⟨1, 1⟩
def F.LSR_EMS_CAUSE : Field := ⟨4, 4⟩
def F.LSR_EMS_CLEAR : Field := ⟨31, 1⟩
/-- LSR_EMS_CNT (R197, 05_laser_and_melt_pool.md). -/
def R.LSR_EMS_CNT : Nat := 0x180014
def F.LSR_EMS_CNT_COUNT : Field := ⟨0, 32⟩
/-- LSR_GATE (R197, 05_laser_and_melt_pool.md). -/
def R.LSR_GATE : Nat := 0x180020
def F.LSR_GATE_CH : Field := ⟨0, 32⟩
/-- LSR_RDY (R197, 05_laser_and_melt_pool.md). -/
def R.LSR_RDY : Nat := 0x180024
def F.LSR_RDY_CH : Field := ⟨0, 32⟩
/-- LSR_FLT (R197, 05_laser_and_melt_pool.md). -/
def R.LSR_FLT : Nat := 0x180028
def F.LSR_FLT_CH : Field := ⟨0, 32⟩
/-- LSR_CH_CFG (R197, 05_laser_and_melt_pool.md). -/
def R.LSR_CH_CFG (n : Nat) : Nat := 0x181000 + 0x80 * n
def F.LSR_CH_CFG_RDYIGN : Field := ⟨0, 1⟩
def F.LSR_CH_CFG_FLTFILT : Field := ⟨8, 8⟩
/-- LSR_CH_STAT (R197, 05_laser_and_melt_pool.md). -/
def R.LSR_CH_STAT (n : Nat) : Nat := 0x181004 + 0x80 * n
def F.LSR_CH_STAT_GATE : Field := ⟨0, 1⟩
def F.LSR_CH_STAT_RDY : Field := ⟨1, 1⟩
def F.LSR_CH_STAT_FLT : Field := ⟨2, 1⟩
def F.LSR_CH_STAT_MPMODE : Field := ⟨3, 2⟩
def F.LSR_CH_STAT_GSET : Field := ⟨5, 4⟩
def F.LSR_CH_STAT_BOUND : Field := ⟨9, 1⟩
def F.LSR_CH_STAT_IHOLD : Field := ⟨10, 1⟩
def F.LSR_CH_STAT_BLANK : Field := ⟨11, 1⟩
def F.LSR_CH_STAT_LASERFLT : Field := ⟨12, 1⟩
def F.LSR_CH_STAT_MAN : Field := ⟨13, 1⟩
/-- LSR_CH_MAN (R197, 05_laser_and_melt_pool.md). -/
def R.LSR_CH_MAN (n : Nat) : Nat := 0x181008 + 0x80 * n
def F.LSR_CH_MAN_EN : Field := ⟨0, 1⟩
def F.LSR_CH_MAN_GATE : Field := ⟨1, 1⟩
def F.LSR_CH_MAN_CODE : Field := ⟨16, 16⟩
/-- LSR_CH_OUT (R197, 05_laser_and_melt_pool.md). -/
def R.LSR_CH_OUT (n : Nat) : Nat := 0x18100C + 0x80 * n
def F.LSR_CH_OUT_POUT : Field := ⟨0, 16⟩
def F.LSR_CH_OUT_DAC : Field := ⟨16, 16⟩
/-- LSR_CH_CORR (R197, 05_laser_and_melt_pool.md). -/
def R.LSR_CH_CORR (n : Nat) : Nat := 0x181010 + 0x80 * n
def F.LSR_CH_CORR_CORR : Field := ⟨0, 16⟩
def F.LSR_CH_CORR_PSET : Field := ⟨16, 16⟩
/-- LSR_CH_PD (R197, 05_laser_and_melt_pool.md). -/
def R.LSR_CH_PD (n : Nat) : Nat := 0x181014 + 0x80 * n
def F.LSR_CH_PD_A : Field := ⟨0, 14⟩
def F.LSR_CH_PD_ASAT : Field := ⟨14, 1⟩
def F.LSR_CH_PD_B : Field := ⟨16, 14⟩
def F.LSR_CH_PD_BSAT : Field := ⟨30, 1⟩
/-- LSR_CH_ENV (R197, 05_laser_and_melt_pool.md). -/
def R.LSR_CH_ENV (n : Nat) : Nat := 0x181018 + 0x80 * n
def F.LSR_CH_ENV_LO : Field := ⟨0, 16⟩
def F.LSR_CH_ENV_HI : Field := ⟨16, 16⟩
/-- LSR_CH_PLIM (R197, 05_laser_and_melt_pool.md). -/
def R.LSR_CH_PLIM (n : Nat) : Nat := 0x18101C + 0x80 * n
def F.LSR_CH_PLIM_PMIN : Field := ⟨0, 16⟩
def F.LSR_CH_PLIM_PMAX : Field := ⟨16, 16⟩
/-- LSR_CH_TGT (R197, 05_laser_and_melt_pool.md). -/
def R.LSR_CH_TGT (n : Nat) : Nat := 0x181020 + 0x80 * n
def F.LSR_CH_TGT_SUM : Field := ⟨0, 16⟩
def F.LSR_CH_TGT_RATIO : Field := ⟨16, 16⟩
/-- LSR_CH_BOUNDS (R197, 05_laser_and_melt_pool.md). -/
def R.LSR_CH_BOUNDS (n : Nat) : Nat := 0x181024 + 0x80 * n
def F.LSR_CH_BOUNDS_COUNT : Field := ⟨0, 32⟩
/-- LSR_CH_EVENTS (R197, 05_laser_and_melt_pool.md). -/
def R.LSR_CH_EVENTS (n : Nat) : Nat := 0x181028 + 0x80 * n
def F.LSR_CH_EVENTS_PDSAT : Field := ⟨0, 16⟩
def F.LSR_CH_EVENTS_FLTCNT : Field := ⟨16, 8⟩
def F.LSR_CH_EVENTS_RDYCNT : Field := ⟨24, 8⟩
/-- LSR_CH_EVENTS2 (R197, 05_laser_and_melt_pool.md). -/
def R.LSR_CH_EVENTS2 (n : Nat) : Nat := 0x18102C + 0x80 * n
def F.LSR_CH_EVENTS2_LATCNT : Field := ⟨0, 8⟩
def F.LSR_CH_EVENTS2_AFECNT : Field := ⟨8, 8⟩
/-- LSR_LOG_BASE (R197, 05_laser_and_melt_pool.md). -/
def R.LSR_LOG_BASE (n : Nat) : Nat := 0x181040 + 0x80 * n
def F.LSR_LOG_BASE_LINE : Field := ⟨0, 32⟩
/-- LSR_LOG_CTL (R197, 05_laser_and_melt_pool.md). -/
def R.LSR_LOG_CTL (n : Nat) : Nat := 0x181044 + 0x80 * n
def F.LSR_LOG_CTL_MODE : Field := ⟨0, 2⟩
def F.LSR_LOG_CTL_DEC : Field := ⟨2, 3⟩
def F.LSR_LOG_CTL_LOG2 : Field := ⟨5, 5⟩
def F.LSR_LOG_CTL_PANIC : Field := ⟨16, 4⟩
/-- LSR_LOG_WR (R197, 05_laser_and_melt_pool.md). -/
def R.LSR_LOG_WR (n : Nat) : Nat := 0x181048 + 0x80 * n
def F.LSR_LOG_WR_INDEX : Field := ⟨0, 20⟩
/-- LSR_LOG_RD (R197, 05_laser_and_melt_pool.md). -/
def R.LSR_LOG_RD (n : Nat) : Nat := 0x18104C + 0x80 * n
def F.LSR_LOG_RD_INDEX : Field := ⟨0, 20⟩
/-- LSR_LOG_DROP (R197, 05_laser_and_melt_pool.md). -/
def R.LSR_LOG_DROP (n : Nat) : Nat := 0x181050 + 0x80 * n
def F.LSR_LOG_DROP_COUNT : Field := ⟨0, 32⟩
/-- STI_CTL (R251, 07_stitching_and_fields.md). -/
def R.STI_CTL : Nat := 0x1C0000
def F.STI_CTL_HLOG : Field := ⟨0, 1⟩
def F.STI_CTL_BRST : Field := ⟨31, 1⟩
/-- STI_ISR (R251, 07_stitching_and_fields.md). -/
def R.STI_ISR : Nat := 0x1C0004
def F.STI_ISR_FALLBACK : Field := ⟨0, 1⟩
def F.STI_ISR_MISMATCH : Field := ⟨1, 1⟩
def F.STI_ISR_TOKDROP : Field := ⟨2, 1⟩
def F.STI_ISR_CLAMP : Field := ⟨3, 1⟩
def F.STI_ISR_REJ : Field := ⟨4, 1⟩
/-- STI_IER (R251, 07_stitching_and_fields.md). -/
def R.STI_IER : Nat := 0x1C0008
def F.STI_IER_EN : Field := ⟨0, 5⟩
/-- STI_AGREE_MAX (R251, 07_stitching_and_fields.md). -/
def R.STI_AGREE_MAX : Nat := 0x1C000C
def F.STI_AGREE_MAX_MAX : Field := ⟨0, 16⟩
/-- STI_TOKDROP (R251, 07_stitching_and_fields.md). -/
def R.STI_TOKDROP : Nat := 0x1C0010
def F.STI_TOKDROP_NOCH : Field := ⟨0, 16⟩
def F.STI_TOKDROP_PORT : Field := ⟨16, 16⟩
/-- STI_PT_AGREE (R251, 07_stitching_and_fields.md). -/
def R.STI_PT_AGREE (k : Nat) : Nat := 0x1C0020 + 4 * k
def F.STI_PT_AGREE_THETA : Field := ⟨0, 16⟩
def F.STI_PT_AGREE_FRESH : Field := ⟨16, 1⟩
def F.STI_PT_AGREE_PASS : Field := ⟨17, 1⟩
/-- STI_CH_STAT (R251, 07_stitching_and_fields.md). -/
def R.STI_CH_STAT (n : Nat) : Nat := 0x1C1000 + 0x40 * n
def F.STI_CH_STAT_OUTST : Field := ⟨0, 3⟩
def F.STI_CH_STAT_STORED : Field := ⟨8, 4⟩
def F.STI_CH_STAT_CLAMPED : Field := ⟨16, 1⟩
/-- STI_CH_HANDS (R251, 07_stitching_and_fields.md). -/
def R.STI_CH_HANDS (n : Nat) : Nat := 0x1C1004 + 0x40 * n
def F.STI_CH_HANDS_COUNT : Field := ⟨0, 32⟩
/-- STI_CH_FB (R251, 07_stitching_and_fields.md). -/
def R.STI_CH_FB (n : Nat) : Nat := 0x1C1008 + 0x40 * n
def F.STI_CH_FB_OWN : Field := ⟨0, 16⟩
def F.STI_CH_FB_NOTICE : Field := ⟨16, 16⟩
/-- STI_CH_TOKERR (R251, 07_stitching_and_fields.md). -/
def R.STI_CH_TOKERR (n : Nat) : Nat := 0x1C100C + 0x40 * n
def F.STI_CH_TOKERR_FULL : Field := ⟨0, 8⟩
def F.STI_CH_TOKERR_STALE : Field := ⟨8, 8⟩
def F.STI_CH_TOKERR_MISMATCH : Field := ⟨16, 8⟩
/-- STI_CH_CLAMP (R251, 07_stitching_and_fields.md). -/
def R.STI_CH_CLAMP (n : Nat) : Nat := 0x1C1010 + 0x40 * n
def F.STI_CH_CLAMP_COUNT : Field := ⟨0, 32⟩
/-- STI_CH_LASTFB (R251, 07_stitching_and_fields.md). -/
def R.STI_CH_LASTFB (n : Nat) : Nat := 0x1C1014 + 0x40 * n
def F.STI_CH_LASTFB_HID : Field := ⟨0, 16⟩
def F.STI_CH_LASTFB_CAUSE : Field := ⟨16, 3⟩
def F.STI_CH_LASTFB_ROLE : Field := ⟨19, 1⟩
/-- HOOP_CTL (R226, 06_hoop_and_machine_time.md). -/
def R.HOOP_CTL : Nat := 0x200000
def F.HOOP_CTL_HOPS : Field := ⟨0, 4⟩
def F.HOOP_CTL_RRA_RD : Field := ⟨4, 1⟩
def F.HOOP_CTL_RRA_WR : Field := ⟨5, 1⟩
def F.HOOP_CTL_BRST : Field := ⟨31, 1⟩
/-- HOOP_ID (R226, 06_hoop_and_machine_time.md). -/
def R.HOOP_ID : Nat := 0x200004
def F.HOOP_ID_DEVID : Field := ⟨0, 16⟩
/-- HOOP_ISR (R226, 06_hoop_and_machine_time.md). -/
def R.HOOP_ISR : Nat := 0x200008
def F.HOOP_ISR_LINK : Field := ⟨0, 1⟩
def F.HOOP_ISR_DUPID : Field := ⟨1, 1⟩
def F.HOOP_ISR_NOROUTE : Field := ⟨2, 1⟩
def F.HOOP_ISR_RRA : Field := ⟨3, 1⟩
def F.HOOP_ISR_BULK : Field := ⟨4, 1⟩
def F.HOOP_ISR_REJ : Field := ⟨5, 1⟩
/-- HOOP_IER (R226, 06_hoop_and_machine_time.md). -/
def R.HOOP_IER : Nat := 0x20000C
def F.HOOP_IER_EN : Field := ⟨0, 6⟩
/-- HOOP_RRA_CMD (R226, 06_hoop_and_machine_time.md). -/
def R.HOOP_RRA_CMD : Nat := 0x200014
def F.HOOP_RRA_CMD_DEVID : Field := ⟨0, 16⟩
def F.HOOP_RRA_CMD_WRITE : Field := ⟨16, 1⟩
def F.HOOP_RRA_CMD_BUSY : Field := ⟨17, 1⟩
def F.HOOP_RRA_CMD_CODE : Field := ⟨18, 3⟩
def F.HOOP_RRA_CMD_GO : Field := ⟨31, 1⟩
/-- HOOP_RRA_ADDR (R226, 06_hoop_and_machine_time.md). -/
def R.HOOP_RRA_ADDR : Nat := 0x200018
def F.HOOP_RRA_ADDR_OFFSET : Field := ⟨0, 26⟩
/-- HOOP_RRA_DATA (R226, 06_hoop_and_machine_time.md). -/
def R.HOOP_RRA_DATA : Nat := 0x20001C
def F.HOOP_RRA_DATA_DATA : Field := ⟨0, 32⟩
/-- HOOP_BULK_WIN_BASE (R226, 06_hoop_and_machine_time.md). -/
def R.HOOP_BULK_WIN_BASE : Nat := 0x200030
def F.HOOP_BULK_WIN_BASE_LINE : Field := ⟨0, 32⟩
/-- HOOP_BULK_WIN_SIZE (R226, 06_hoop_and_machine_time.md). -/
def R.HOOP_BULK_WIN_SIZE : Nat := 0x200034
def F.HOOP_BULK_WIN_SIZE_LINES : Field := ⟨0, 32⟩
/-- HOOP_DROP (R226, 06_hoop_and_machine_time.md). -/
def R.HOOP_DROP : Nat := 0x200040
def F.HOOP_DROP_NOROUTE : Field := ⟨0, 16⟩
def F.HOOP_DROP_HOPS : Field := ⟨16, 16⟩
/-- HOOP_ROUTE (R226, 06_hoop_and_machine_time.md). -/
def R.HOOP_ROUTE (k : Nat) : Nat := 0x200100 + 4 * k
def F.HOOP_ROUTE_BASE : Field := ⟨0, 16⟩
def F.HOOP_ROUTE_PLEN : Field := ⟨16, 5⟩
def F.HOOP_ROUTE_PRI : Field := ⟨21, 3⟩
def F.HOOP_ROUTE_ALT : Field := ⟨24, 3⟩
def F.HOOP_ROUTE_ALTEN : Field := ⟨27, 1⟩
def F.HOOP_ROUTE_VALID : Field := ⟨31, 1⟩
/-- HOOP_ROUTE_DEF (R226, 06_hoop_and_machine_time.md). -/
def R.HOOP_ROUTE_DEF : Nat := 0x200200
def F.HOOP_ROUTE_DEF_PORT : Field := ⟨0, 3⟩
def F.HOOP_ROUTE_DEF_VALID : Field := ⟨31, 1⟩
/-- HOOP_BK_LOC (R226, 06_hoop_and_machine_time.md). -/
def R.HOOP_BK_LOC (n : Nat) : Nat := 0x200800 + 0x20 * n
def F.HOOP_BK_LOC_LINE : Field := ⟨0, 32⟩
/-- HOOP_BK_REM (R226, 06_hoop_and_machine_time.md). -/
def R.HOOP_BK_REM (n : Nat) : Nat := 0x200804 + 0x20 * n
def F.HOOP_BK_REM_LINE : Field := ⟨0, 32⟩
/-- HOOP_BK_LEN (R226, 06_hoop_and_machine_time.md). -/
def R.HOOP_BK_LEN (n : Nat) : Nat := 0x200808 + 0x20 * n
def F.HOOP_BK_LEN_LINES : Field := ⟨0, 16⟩
def F.HOOP_BK_LEN_DEVID : Field := ⟨16, 16⟩
/-- HOOP_BK_CTL (R226, 06_hoop_and_machine_time.md). -/
def R.HOOP_BK_CTL (n : Nat) : Nat := 0x20080C + 0x20 * n
def F.HOOP_BK_CTL_GO : Field := ⟨0, 1⟩
def F.HOOP_BK_CTL_BUSY : Field := ⟨1, 1⟩
def F.HOOP_BK_CTL_CODE : Field := ⟨2, 3⟩
/-- HOOP_PT_CFG (R226, 06_hoop_and_machine_time.md). -/
def R.HOOP_PT_CFG (n : Nat) : Nat := 0x201000 + 0x40 * n
def F.HOOP_PT_CFG_EN : Field := ⟨0, 1⟩
def F.HOOP_PT_CFG_WIDTH : Field := ⟨1, 2⟩
def F.HOOP_PT_CFG_RATE : Field := ⟨3, 2⟩
def F.HOOP_PT_CFG_NOBC : Field := ⟨5, 1⟩
/-- HOOP_PT_STAT (R226, 06_hoop_and_machine_time.md). -/
def R.HOOP_PT_STAT (n : Nat) : Nat := 0x201004 + 0x40 * n
def F.HOOP_PT_STAT_STATE : Field := ⟨0, 2⟩
def F.HOOP_PT_STAT_DUPID : Field := ⟨2, 1⟩
def F.HOOP_PT_STAT_PEER : Field := ⟨16, 16⟩
/-- HOOP_PT_ASYM (R226, 06_hoop_and_machine_time.md). -/
def R.HOOP_PT_ASYM (n : Nat) : Nat := 0x201008 + 0x40 * n
def F.HOOP_PT_ASYM_ASYM : Field := ⟨0, 16⟩
/-- HOOP_PT_DELAY (R226, 06_hoop_and_machine_time.md). -/
def R.HOOP_PT_DELAY (n : Nat) : Nat := 0x20100C + 0x40 * n
def F.HOOP_PT_DELAY_D : Field := ⟨0, 24⟩
/-- HOOP_PT_ERR (R226, 06_hoop_and_machine_time.md). -/
def R.HOOP_PT_ERR (n : Nat) : Nat := 0x201010 + 0x40 * n
def F.HOOP_PT_ERR_CRC : Field := ⟨0, 16⟩
def F.HOOP_PT_ERR_DROP : Field := ⟨16, 16⟩
/-- TIM_MT_FRAC (R227, 06_hoop_and_machine_time.md). -/
def R.TIM_MT_FRAC : Nat := 0x210000
def F.TIM_MT_FRAC_FRAC : Field := ⟨0, 16⟩
/-- TIM_MT_NS (R227, 06_hoop_and_machine_time.md). -/
def R.TIM_MT_NS : Nat := 0x210004
def F.TIM_MT_NS_NS : Field := ⟨0, 30⟩
/-- TIM_MT_SEC_LO (R227, 06_hoop_and_machine_time.md). -/
def R.TIM_MT_SEC_LO : Nat := 0x210008
def F.TIM_MT_SEC_LO_SEC : Field := ⟨0, 32⟩
/-- TIM_MT_SEC_HI (R227, 06_hoop_and_machine_time.md). -/
def R.TIM_MT_SEC_HI : Nat := 0x21000C
def F.TIM_MT_SEC_HI_SEC : Field := ⟨0, 32⟩
/-- TIM_SEL (R227, 06_hoop_and_machine_time.md). -/
def R.TIM_SEL : Nat := 0x210010
def F.TIM_SEL_REQ : Field := ⟨0, 1⟩
def F.TIM_SEL_AUTO : Field := ⟨1, 1⟩
def F.TIM_SEL_ACTIVE : Field := ⟨8, 1⟩
def F.TIM_SEL_PENDING : Field := ⟨9, 1⟩
def F.TIM_SEL_SLEW : Field := ⟨16, 16⟩
/-- TIM_ISR (R227, 06_hoop_and_machine_time.md). -/
def R.TIM_ISR : Nat := 0x210014
def F.TIM_ISR_LOCK : Field := ⟨0, 1⟩
def F.TIM_ISR_HOLDOVER : Field := ⟨1, 1⟩
def F.TIM_ISR_SWITCH : Field := ⟨2, 1⟩
def F.TIM_ISR_STEP : Field := ⟨3, 1⟩
def F.TIM_ISR_CLAMP : Field := ⟨4, 1⟩
def F.TIM_ISR_PPSIN : Field := ⟨5, 1⟩
def F.TIM_ISR_NOTICE : Field := ⟨6, 1⟩
/-- TIM_IER (R227, 06_hoop_and_machine_time.md). -/
def R.TIM_IER : Nat := 0x210018
def F.TIM_IER_EN : Field := ⟨0, 7⟩
/-- TIM_D_CFG (R227, 06_hoop_and_machine_time.md). -/
def R.TIM_D_CFG (n : Nat) : Nat := 0x210100 + 0x40 * n
def F.TIM_D_CFG_SRC : Field := ⟨0, 2⟩
def F.TIM_D_CFG_PORT : Field := ⟨2, 3⟩
def F.TIM_D_CFG_STEPEN : Field := ⟨5, 1⟩
/-- TIM_D_GAIN (R227, 06_hoop_and_machine_time.md). -/
def R.TIM_D_GAIN (n : Nat) : Nat := 0x210104 + 0x40 * n
def F.TIM_D_GAIN_KP : Field := ⟨0, 16⟩
def F.TIM_D_GAIN_KI : Field := ⟨16, 16⟩
/-- TIM_D_ILIM (R227, 06_hoop_and_machine_time.md). -/
def R.TIM_D_ILIM (n : Nat) : Nat := 0x210108 + 0x40 * n
def F.TIM_D_ILIM_ILIM : Field := ⟨0, 32⟩
/-- TIM_D_THR (R227, 06_hoop_and_machine_time.md). -/
def R.TIM_D_THR (n : Nat) : Nat := 0x21010C + 0x40 * n
def F.TIM_D_THR_LOCK : Field := ⟨0, 16⟩
def F.TIM_D_THR_STEP : Field := ⟨16, 16⟩
/-- TIM_D_STAT (R227, 06_hoop_and_machine_time.md). -/
def R.TIM_D_STAT (n : Nat) : Nat := 0x210110 + 0x40 * n
def F.TIM_D_STAT_STATE : Field := ⟨0, 2⟩
/-- TIM_D_THETA (R227, 06_hoop_and_machine_time.md). -/
def R.TIM_D_THETA (n : Nat) : Nat := 0x210114 + 0x40 * n
def F.TIM_D_THETA_THETA : Field := ⟨0, 32⟩
/-- TIM_D_RATE (R227, 06_hoop_and_machine_time.md). -/
def R.TIM_D_RATE (n : Nat) : Nat := 0x210118 + 0x40 * n
def F.TIM_D_RATE_Y : Field := ⟨0, 32⟩
/-- TIM_D_DELTA (R227, 06_hoop_and_machine_time.md). -/
def R.TIM_D_DELTA (n : Nat) : Nat := 0x21011C + 0x40 * n
def F.TIM_D_DELTA_DELTA : Field := ⟨0, 32⟩
/-- TIM_CAL_FRAC (R227, 06_hoop_and_machine_time.md). -/
def R.TIM_CAL_FRAC : Nat := 0x210200
def F.TIM_CAL_FRAC_FRAC : Field := ⟨0, 16⟩
/-- TIM_CAL_NS (R227, 06_hoop_and_machine_time.md). -/
def R.TIM_CAL_NS : Nat := 0x210204
def F.TIM_CAL_NS_NS : Field := ⟨0, 30⟩
/-- TIM_CAL_SEC_LO (R227, 06_hoop_and_machine_time.md). -/
def R.TIM_CAL_SEC_LO : Nat := 0x210208
def F.TIM_CAL_SEC_LO_SEC : Field := ⟨0, 32⟩
/-- TIM_CAL_SEC_HI (R227, 06_hoop_and_machine_time.md). -/
def R.TIM_CAL_SEC_HI : Nat := 0x21020C
def F.TIM_CAL_SEC_HI_SEC : Field := ⟨0, 32⟩
/-- TIM_CAL_INC (R227, 06_hoop_and_machine_time.md). -/
def R.TIM_CAL_INC : Nat := 0x210210
def F.TIM_CAL_INC_INC : Field := ⟨0, 32⟩
/-- TIM_CAL_ADJ (R227, 06_hoop_and_machine_time.md). -/
def R.TIM_CAL_ADJ : Nat := 0x210214
def F.TIM_CAL_ADJ_ADJ : Field := ⟨0, 32⟩
/-- TIM_CAL_SET_NS (R227, 06_hoop_and_machine_time.md). -/
def R.TIM_CAL_SET_NS : Nat := 0x210218
def F.TIM_CAL_SET_NS_NS : Field := ⟨0, 30⟩
/-- TIM_CAL_SET_SEC (R227, 06_hoop_and_machine_time.md). -/
def R.TIM_CAL_SET_SEC : Nat := 0x21021C
def F.TIM_CAL_SET_SEC_SEC : Field := ⟨0, 32⟩
/-- TIM_CAL_CMD (R227, 06_hoop_and_machine_time.md). -/
def R.TIM_CAL_CMD : Nat := 0x210220
def F.TIM_CAL_CMD_ADJ : Field := ⟨0, 1⟩
def F.TIM_CAL_CMD_SET : Field := ⟨1, 1⟩
def F.TIM_CAL_CMD_VALID : Field := ⟨8, 1⟩
def F.TIM_CAL_CMD_COARSE : Field := ⟨9, 1⟩
/-- TIM_PPS_CFG (R227, 06_hoop_and_machine_time.md). -/
def R.TIM_PPS_CFG : Nat := 0x210300
def F.TIM_PPS_CFG_OUTEN : Field := ⟨0, 1⟩
def F.TIM_PPS_CFG_OUTSRC : Field := ⟨1, 1⟩
def F.TIM_PPS_CFG_INEN : Field := ⟨2, 1⟩
def F.TIM_PPS_CFG_WIDTH : Field := ⟨3, 19⟩
def F.TIM_PPS_CFG_INDLY : Field := ⟨24, 8⟩
/-- TIM_PPSIN_MT (R227, 06_hoop_and_machine_time.md). -/
def R.TIM_PPSIN_MT : Nat := 0x210304
def F.TIM_PPSIN_MT_NS : Field := ⟨0, 30⟩
/-- TIM_PPSIN_CAL (R227, 06_hoop_and_machine_time.md). -/
def R.TIM_PPSIN_CAL : Nat := 0x210308
def F.TIM_PPSIN_CAL_NS : Field := ⟨0, 30⟩
/-- LANE_CTL (R350, 11_serial_lanes_and_head_link.md). -/
def R.LANE_CTL : Nat := 0x240000
def F.LANE_CTL_BRST : Field := ⟨31, 1⟩
/-- LANE_ISR (R350, 11_serial_lanes_and_head_link.md). -/
def R.LANE_ISR : Nat := 0x240004
def F.LANE_ISR_LOCKLOSS : Field := ⟨0, 1⟩
def F.LANE_ISR_TRAINFAIL : Field := ⟨1, 1⟩
def F.LANE_ISR_CAPERR : Field := ⟨2, 1⟩
def F.LANE_ISR_REJ : Field := ⟨3, 1⟩
/-- LANE_IER (R350, 11_serial_lanes_and_head_link.md). -/
def R.LANE_IER : Nat := 0x240008
def F.LANE_IER_EN : Field := ⟨0, 4⟩
/-- LANE_STAT (R350, 11_serial_lanes_and_head_link.md). -/
def R.LANE_STAT (n : Nat) : Nat := 0x241000 + 0x40 * n
def F.LANE_STAT_STATE : Field := ⟨0, 4⟩
def F.LANE_STAT_LOCK : Field := ⟨4, 1⟩
def F.LANE_STAT_CAPERR : Field := ⟨5, 1⟩
def F.LANE_STAT_EYEW : Field := ⟨8, 7⟩
/-- LANE_TXEQ (R350, 11_serial_lanes_and_head_link.md). -/
def R.LANE_TXEQ (n : Nat) : Nat := 0x241004 + 0x40 * n
def F.LANE_TXEQ_PRE : Field := ⟨0, 6⟩
def F.LANE_TXEQ_MAIN : Field := ⟨8, 6⟩
def F.LANE_TXEQ_POST : Field := ⟨16, 6⟩
/-- LANE_RXEQ (R350, 11_serial_lanes_and_head_link.md). -/
def R.LANE_RXEQ (n : Nat) : Nat := 0x241008 + 0x40 * n
def F.LANE_RXEQ_ADAPT : Field := ⟨0, 1⟩
def F.LANE_RXEQ_CTLE : Field := ⟨8, 4⟩
def F.LANE_RXEQ_H1 : Field := ⟨16, 8⟩
/-- LANE_PM (R350, 11_serial_lanes_and_head_link.md). -/
def R.LANE_PM (n : Nat) : Nat := 0x24100C + 0x40 * n
def F.LANE_PM_REQ : Field := ⟨0, 2⟩
/-- LANE_TRAIN (R350, 11_serial_lanes_and_head_link.md). -/
def R.LANE_TRAIN (n : Nat) : Nat := 0x241010 + 0x40 * n
def F.LANE_TRAIN_TT : Field := ⟨0, 8⟩
def F.LANE_TRAIN_TTS : Field := ⟨8, 8⟩
/-- LANE_ERR (R350, 11_serial_lanes_and_head_link.md). -/
def R.LANE_ERR (n : Nat) : Nat := 0x241014 + 0x40 * n
def F.LANE_ERR_SYNC : Field := ⟨0, 16⟩
def F.LANE_ERR_LOCKLOSS : Field := ⟨16, 8⟩
def F.LANE_ERR_TRAINFAIL : Field := ⟨24, 8⟩
/-- LANE_TEST (R350, 11_serial_lanes_and_head_link.md). -/
def R.LANE_TEST (n : Nat) : Nat := 0x241018 + 0x40 * n
def F.LANE_TEST_MODE : Field := ⟨0, 3⟩
def F.LANE_TEST_CHK : Field := ⟨3, 1⟩
def F.LANE_TEST_LOOP : Field := ⟨4, 1⟩
def F.LANE_TEST_RATE : Field := ⟨5, 2⟩
def F.LANE_TEST_INJRATE : Field := ⟨8, 4⟩
def F.LANE_TEST_SYNC : Field := ⟨12, 1⟩
def F.LANE_TEST_INJ1 : Field := ⟨31, 1⟩
/-- LANE_TEST_WORD (R350, 11_serial_lanes_and_head_link.md). -/
def R.LANE_TEST_WORD (n : Nat) : Nat := 0x24101C + 0x40 * n
def F.LANE_TEST_WORD_WORD : Field := ⟨0, 32⟩
/-- LANE_TEST_ERRS (R350, 11_serial_lanes_and_head_link.md). -/
def R.LANE_TEST_ERRS (n : Nat) : Nat := 0x241020 + 0x40 * n
def F.LANE_TEST_ERRS_COUNT : Field := ⟨0, 32⟩
/-- LANE_TEST_BITS_LO (R350, 11_serial_lanes_and_head_link.md). -/
def R.LANE_TEST_BITS_LO (n : Nat) : Nat := 0x241024 + 0x40 * n
def F.LANE_TEST_BITS_LO_BITS : Field := ⟨0, 32⟩
/-- LANE_TEST_BITS_HI (R350, 11_serial_lanes_and_head_link.md). -/
def R.LANE_TEST_BITS_HI (n : Nat) : Nat := 0x241028 + 0x40 * n
def F.LANE_TEST_BITS_HI_BITS : Field := ⟨0, 16⟩
/-- HL_CTL (R351, 11_serial_lanes_and_head_link.md). -/
def R.HL_CTL : Nat := 0x250000
def F.HL_CTL_BRST : Field := ⟨31, 1⟩
/-- HL_ISR (R351, 11_serial_lanes_and_head_link.md). -/
def R.HL_ISR : Nat := 0x250004
def F.HL_ISR_LINK : Field := ⟨0, 1⟩
def F.HL_ISR_HEAD : Field := ⟨1, 1⟩
def F.HL_ISR_AUX : Field := ⟨2, 1⟩
def F.HL_ISR_CFGERR : Field := ⟨3, 1⟩
def F.HL_ISR_REJ : Field := ⟨4, 1⟩
/-- HL_IER (R351, 11_serial_lanes_and_head_link.md). -/
def R.HL_IER : Nat := 0x250008
def F.HL_IER_EN : Field := ⟨0, 5⟩
/-- HL_CH_CFG (R351, 11_serial_lanes_and_head_link.md). -/
def R.HL_CH_CFG (n : Nat) : Nat := 0x251000 + 0x40 * n
def F.HL_CH_CFG_EN : Field := ⟨0, 1⟩
def F.HL_CH_CFG_ZERO : Field := ⟨1, 1⟩
/-- HL_CH_STAT (R351, 11_serial_lanes_and_head_link.md). -/
def R.HL_CH_STAT (n : Nat) : Nat := 0x251004 + 0x40 * n
def F.HL_CH_STAT_DRV : Field := ⟨0, 1⟩
def F.HL_CH_STAT_CFGERR : Field := ⟨1, 1⟩
def F.HL_CH_STAT_AUXDEV : Field := ⟨2, 1⟩
def F.HL_CH_STAT_HSTAT : Field := ⟨16, 16⟩
/-- HL_CH_CAP (R351, 11_serial_lanes_and_head_link.md). -/
def R.HL_CH_CAP (n : Nat) : Nat := 0x251008 + 0x40 * n
def F.HL_CH_CAP_HID : Field := ⟨0, 16⟩
def F.HL_CH_CAP_AXES : Field := ⟨16, 3⟩
def F.HL_CH_CAP_VER : Field := ⟨24, 8⟩
/-- HL_CH_AUX (R351, 11_serial_lanes_and_head_link.md). -/
def R.HL_CH_AUX (n : Nat) : Nat := 0x25100C + 0x40 * n
def F.HL_CH_AUX_ADDR : Field := ⟨0, 8⟩
def F.HL_CH_AUX_WRITE : Field := ⟨8, 1⟩
def F.HL_CH_AUX_BUSY : Field := ⟨9, 1⟩
def F.HL_CH_AUX_CODE : Field := ⟨10, 2⟩
def F.HL_CH_AUX_GO : Field := ⟨31, 1⟩
/-- HL_CH_AUXDATA (R351, 11_serial_lanes_and_head_link.md). -/
def R.HL_CH_AUXDATA (n : Nat) : Nat := 0x251010 + 0x40 * n
def F.HL_CH_AUXDATA_DATA : Field := ⟨0, 16⟩
/-- HL_CH_ERR (R351, 11_serial_lanes_and_head_link.md). -/
def R.HL_CH_ERR (n : Nat) : Nat := 0x251014 + 0x40 * n
def F.HL_CH_ERR_CRC : Field := ⟨0, 16⟩
def F.HL_CH_ERR_GAP : Field := ⟨16, 16⟩
/-- HL_CH_TEMP (R351, 11_serial_lanes_and_head_link.md). -/
def R.HL_CH_TEMP (n : Nat) : Nat := 0x251018 + 0x40 * n
def F.HL_CH_TEMP_TEMP : Field := ⟨0, 16⟩
def F.HL_CH_TEMP_ECHO : Field := ⟨16, 8⟩
def F.HL_CH_TEMP_SEQ : Field := ⟨24, 8⟩
/-- HL_CH_CUR0 (R351, 11_serial_lanes_and_head_link.md). -/
def R.HL_CH_CUR0 (n : Nat) : Nat := 0x25101C + 0x40 * n
def F.HL_CH_CUR0_CX : Field := ⟨0, 16⟩
def F.HL_CH_CUR0_CY : Field := ⟨16, 16⟩
/-- HL_CH_CUR1 (R351, 11_serial_lanes_and_head_link.md). -/
def R.HL_CH_CUR1 (n : Nat) : Nat := 0x251020 + 0x40 * n
def F.HL_CH_CUR1_CZ : Field := ⟨0, 16⟩
/-- PCI_STAT (R373, 12_host_interfaces_and_dma.md). -/
def R.PCI_STAT : Nat := 0x280004
def F.PCI_STAT_SPEED : Field := ⟨0, 4⟩
def F.PCI_STAT_WIDTH : Field := ⟨4, 4⟩
def F.PCI_STAT_LTSSM : Field := ⟨8, 6⟩
def F.PCI_STAT_BME : Field := ⟨14, 1⟩
/-- PCI_ISR (R373, 12_host_interfaces_and_dma.md). -/
def R.PCI_ISR : Nat := 0x280008
def F.PCI_ISR_BAR2ERR : Field := ⟨0, 1⟩
def F.PCI_ISR_POISON : Field := ⟨1, 1⟩
def F.PCI_ISR_LINKDOWN : Field := ⟨2, 1⟩
def F.PCI_ISR_FLR : Field := ⟨3, 1⟩
/-- PCI_IER (R373, 12_host_interfaces_and_dma.md). -/
def R.PCI_IER : Nat := 0x28000C
def F.PCI_IER_EN : Field := ⟨0, 4⟩
/-- PCI_BAR2_WIN (R373, 12_host_interfaces_and_dma.md). -/
def R.PCI_BAR2_WIN : Nat := 0x280010
def F.PCI_BAR2_WIN_SEL : Field := ⟨0, 2⟩
/-- PCI_FWIRQ (R373, 12_host_interfaces_and_dma.md). -/
def R.PCI_FWIRQ : Nat := 0x280014
def F.PCI_FWIRQ_IRQ : Field := ⟨0, 26⟩
/-- PCI_BAR2ERR_ADDR (R373, 12_host_interfaces_and_dma.md). -/
def R.PCI_BAR2ERR_ADDR : Nat := 0x280018
def F.PCI_BAR2ERR_ADDR_LINE : Field := ⟨0, 32⟩
/-- ETH_CTL (R375, 12_host_interfaces_and_dma.md). -/
def R.ETH_CTL : Nat := 0x290000
def F.ETH_CTL_BRST : Field := ⟨31, 1⟩
/-- ETH_ISR (R375, 12_host_interfaces_and_dma.md). -/
def R.ETH_ISR : Nat := 0x290004
def F.ETH_ISR_TXDONE0 : Field := ⟨0, 1⟩
def F.ETH_ISR_TXDONE1 : Field := ⟨8, 1⟩
def F.ETH_ISR_RXDONE0 : Field := ⟨1, 1⟩
def F.ETH_ISR_RXDONE1 : Field := ⟨9, 1⟩
def F.ETH_ISR_LINK0 : Field := ⟨2, 1⟩
def F.ETH_ISR_LINK1 : Field := ⟨10, 1⟩
def F.ETH_ISR_DROP0 : Field := ⟨3, 1⟩
def F.ETH_ISR_DROP1 : Field := ⟨11, 1⟩
def F.ETH_ISR_REJ0 : Field := ⟨4, 1⟩
def F.ETH_ISR_REJ1 : Field := ⟨12, 1⟩
/-- ETH_IER (R375, 12_host_interfaces_and_dma.md). -/
def R.ETH_IER : Nat := 0x290008
def F.ETH_IER_TXDONE0 : Field := ⟨0, 1⟩
def F.ETH_IER_TXDONE1 : Field := ⟨8, 1⟩
def F.ETH_IER_RXDONE0 : Field := ⟨1, 1⟩
def F.ETH_IER_RXDONE1 : Field := ⟨9, 1⟩
def F.ETH_IER_LINK0 : Field := ⟨2, 1⟩
def F.ETH_IER_LINK1 : Field := ⟨10, 1⟩
def F.ETH_IER_DROP0 : Field := ⟨3, 1⟩
def F.ETH_IER_DROP1 : Field := ⟨11, 1⟩
def F.ETH_IER_REJ0 : Field := ⟨4, 1⟩
def F.ETH_IER_REJ1 : Field := ⟨12, 1⟩
/-- ETH_PT_CFG (R375, 12_host_interfaces_and_dma.md). -/
def R.ETH_PT_CFG (n : Nat) : Nat := 0x291000 + 0x100 * n
def F.ETH_PT_CFG_EN : Field := ⟨0, 1⟩
def F.ETH_PT_CFG_MODE : Field := ⟨1, 2⟩
def F.ETH_PT_CFG_FEC : Field := ⟨3, 1⟩
def F.ETH_PT_CFG_AN : Field := ⟨4, 1⟩
def F.ETH_PT_CFG_RXPAUSE : Field := ⟨5, 1⟩
def F.ETH_PT_CFG_ALLMC : Field := ⟨6, 1⟩
def F.ETH_PT_CFG_PROMISC : Field := ⟨7, 1⟩
/-- ETH_PT_STAT (R375, 12_host_interfaces_and_dma.md). -/
def R.ETH_PT_STAT (n : Nat) : Nat := 0x291004 + 0x100 * n
def F.ETH_PT_STAT_LINK : Field := ⟨0, 1⟩
def F.ETH_PT_STAT_MODABS : Field := ⟨1, 1⟩
def F.ETH_PT_STAT_LOS : Field := ⟨2, 1⟩
def F.ETH_PT_STAT_TXFLT : Field := ⟨3, 1⟩
/-- ETH_PT_MAC_LO (R375, 12_host_interfaces_and_dma.md). -/
def R.ETH_PT_MAC_LO (n : Nat) : Nat := 0x291008 + 0x100 * n
def F.ETH_PT_MAC_LO_MAC : Field := ⟨0, 32⟩
/-- ETH_PT_MAC_HI (R375, 12_host_interfaces_and_dma.md). -/
def R.ETH_PT_MAC_HI (n : Nat) : Nat := 0x29100C + 0x100 * n
def F.ETH_PT_MAC_HI_MAC : Field := ⟨0, 16⟩
/-- ETH_PT_TXBASE (R375, 12_host_interfaces_and_dma.md). -/
def R.ETH_PT_TXBASE (n : Nat) : Nat := 0x291010 + 0x100 * n
def F.ETH_PT_TXBASE_LINE : Field := ⟨0, 32⟩
/-- ETH_PT_RXBASE (R375, 12_host_interfaces_and_dma.md). -/
def R.ETH_PT_RXBASE (n : Nat) : Nat := 0x291014 + 0x100 * n
def F.ETH_PT_RXBASE_LINE : Field := ⟨0, 32⟩
/-- ETH_PT_RSIZE (R375, 12_host_interfaces_and_dma.md). -/
def R.ETH_PT_RSIZE (n : Nat) : Nat := 0x291018 + 0x100 * n
def F.ETH_PT_RSIZE_TXLOG2 : Field := ⟨0, 4⟩
def F.ETH_PT_RSIZE_RXLOG2 : Field := ⟨4, 4⟩
/-- ETH_PT_TXTAIL (R375, 12_host_interfaces_and_dma.md). -/
def R.ETH_PT_TXTAIL (n : Nat) : Nat := 0x29101C + 0x100 * n
def F.ETH_PT_TXTAIL_INDEX : Field := ⟨0, 12⟩
/-- ETH_PT_TXHEAD (R375, 12_host_interfaces_and_dma.md). -/
def R.ETH_PT_TXHEAD (n : Nat) : Nat := 0x291020 + 0x100 * n
def F.ETH_PT_TXHEAD_INDEX : Field := ⟨0, 12⟩
/-- ETH_PT_RXTAIL (R375, 12_host_interfaces_and_dma.md). -/
def R.ETH_PT_RXTAIL (n : Nat) : Nat := 0x291024 + 0x100 * n
def F.ETH_PT_RXTAIL_INDEX : Field := ⟨0, 12⟩
/-- ETH_PT_RXHEAD (R375, 12_host_interfaces_and_dma.md). -/
def R.ETH_PT_RXHEAD (n : Nat) : Nat := 0x291028 + 0x100 * n
def F.ETH_PT_RXHEAD_INDEX : Field := ⟨0, 12⟩
/-- ETH_PT_TSLAT (R375, 12_host_interfaces_and_dma.md). -/
def R.ETH_PT_TSLAT (n : Nat) : Nat := 0x29102C + 0x100 * n
def F.ETH_PT_TSLAT_RX : Field := ⟨0, 16⟩
def F.ETH_PT_TSLAT_TX : Field := ⟨16, 16⟩
/-- ETH_PT_DROP (R375, 12_host_interfaces_and_dma.md). -/
def R.ETH_PT_DROP (n : Nat) : Nat := 0x291030 + 0x100 * n
def F.ETH_PT_DROP_FCS : Field := ⟨0, 16⟩
def F.ETH_PT_DROP_NOBUF : Field := ⟨16, 16⟩
/-- ETH_PT_I2CCFG (R375, 12_host_interfaces_and_dma.md). -/
def R.ETH_PT_I2CCFG (n : Nat) : Nat := 0x291040 + 0x100 * n
def F.ETH_PT_I2CCFG_ADDR : Field := ⟨0, 7⟩
def F.ETH_PT_I2CCFG_SPEED : Field := ⟨7, 2⟩
def F.ETH_PT_I2CCFG_REG16 : Field := ⟨9, 1⟩
/-- ETH_PT_I2CCMD (R375, 12_host_interfaces_and_dma.md). -/
def R.ETH_PT_I2CCMD (n : Nat) : Nat := 0x291044 + 0x100 * n
def F.ETH_PT_I2CCMD_REG : Field := ⟨0, 16⟩
def F.ETH_PT_I2CCMD_N : Field := ⟨16, 2⟩
def F.ETH_PT_I2CCMD_WRITE : Field := ⟨18, 1⟩
def F.ETH_PT_I2CCMD_BUSY : Field := ⟨19, 1⟩
def F.ETH_PT_I2CCMD_CODE : Field := ⟨20, 3⟩
def F.ETH_PT_I2CCMD_GO : Field := ⟨31, 1⟩
/-- ETH_PT_I2CDATA (R375, 12_host_interfaces_and_dma.md). -/
def R.ETH_PT_I2CDATA (n : Nat) : Nat := 0x291048 + 0x100 * n
def F.ETH_PT_I2CDATA_DATA : Field := ⟨0, 32⟩
/-- DMA_CTL (R374, 12_host_interfaces_and_dma.md). -/
def R.DMA_CTL : Nat := 0x2C0000
def F.DMA_CTL_BRST : Field := ⟨31, 1⟩
/-- DMA_ISR (R374, 12_host_interfaces_and_dma.md). -/
def R.DMA_ISR : Nat := 0x2C0004
def F.DMA_ISR_DONE : Field := ⟨0, 16⟩
def F.DMA_ISR_ERR : Field := ⟨16, 16⟩
/-- DMA_IER (R374, 12_host_interfaces_and_dma.md). -/
def R.DMA_IER : Nat := 0x2C0008
def F.DMA_IER_DONE : Field := ⟨0, 16⟩
def F.DMA_IER_ERR : Field := ⟨16, 16⟩
/-- DMA_CH_CFG (R374, 12_host_interfaces_and_dma.md). -/
def R.DMA_CH_CFG (n : Nat) : Nat := 0x2C1000 + 0x40 * n
def F.DMA_CH_CFG_EN : Field := ⟨0, 1⟩
def F.DMA_CH_CFG_PRIO : Field := ⟨1, 1⟩
def F.DMA_CH_CFG_SPACE : Field := ⟨2, 1⟩
def F.DMA_CH_CFG_LOG2 : Field := ⟨4, 4⟩
def F.DMA_CH_CFG_QUOTA : Field := ⟨8, 8⟩
/-- DMA_CH_STAT (R374, 12_host_interfaces_and_dma.md). -/
def R.DMA_CH_STAT (n : Nat) : Nat := 0x2C1004 + 0x40 * n
def F.DMA_CH_STAT_STATE : Field := ⟨0, 3⟩
def F.DMA_CH_STAT_CODE : Field := ⟨8, 8⟩
/-- DMA_CH_CMD (R374, 12_host_interfaces_and_dma.md). -/
def R.DMA_CH_CMD (n : Nat) : Nat := 0x2C1008 + 0x40 * n
def F.DMA_CH_CMD_RESTART : Field := ⟨0, 1⟩
/-- DMA_CH_RING_LO (R374, 12_host_interfaces_and_dma.md). -/
def R.DMA_CH_RING_LO (n : Nat) : Nat := 0x2C100C + 0x40 * n
def F.DMA_CH_RING_LO_ADDR : Field := ⟨0, 32⟩
/-- DMA_CH_RING_HI (R374, 12_host_interfaces_and_dma.md). -/
def R.DMA_CH_RING_HI (n : Nat) : Nat := 0x2C1010 + 0x40 * n
def F.DMA_CH_RING_HI_ADDR : Field := ⟨0, 32⟩
/-- DMA_CH_TAIL (R374, 12_host_interfaces_and_dma.md). -/
def R.DMA_CH_TAIL (n : Nat) : Nat := 0x2C1014 + 0x40 * n
def F.DMA_CH_TAIL_INDEX : Field := ⟨0, 12⟩
/-- DMA_CH_HEAD (R374, 12_host_interfaces_and_dma.md). -/
def R.DMA_CH_HEAD (n : Nat) : Nat := 0x2C1018 + 0x40 * n
def F.DMA_CH_HEAD_INDEX : Field := ⟨0, 12⟩
/-- DDR_CTL (R389, 13_dram_controller.md). -/
def R.DDR_CTL : Nat := 0x300000
def F.DDR_CTL_INIT : Field := ⟨0, 1⟩
def F.DDR_CTL_KEEP : Field := ⟨1, 1⟩
def F.DDR_CTL_BRST : Field := ⟨31, 1⟩
/-- DDR_CFG (R389, 13_dram_controller.md). -/
def R.DDR_CFG : Nat := 0x300004
def F.DDR_CFG_RATE : Field := ⟨0, 2⟩
def F.DDR_CFG_DENSITY : Field := ⟨2, 2⟩
def F.DDR_CFG_RANKS : Field := ⟨4, 1⟩
/-- DDR_STAT (R389, 13_dram_controller.md). -/
def R.DDR_STAT : Nat := 0x300008
def F.DDR_STAT_READY : Field := ⟨0, 1⟩
def F.DDR_STAT_BUSY : Field := ⟨1, 1⟩
def F.DDR_STAT_REJ : Field := ⟨2, 1⟩
def F.DDR_STAT_SR : Field := ⟨3, 1⟩
def F.DDR_STAT_TRAINING : Field := ⟨4, 4⟩
def F.DDR_STAT_SIZE : Field := ⟨16, 9⟩
/-- DDR_ECC_CFG (R389, 13_dram_controller.md). -/
def R.DDR_ECC_CFG : Nat := 0x300010
def F.DDR_ECC_CFG_WBACK : Field := ⟨0, 1⟩
/-- DDR_ECC_CE (R389, 13_dram_controller.md). -/
def R.DDR_ECC_CE : Nat := 0x300014
def F.DDR_ECC_CE_COUNT : Field := ⟨0, 32⟩
/-- DDR_ECC_UE (R389, 13_dram_controller.md). -/
def R.DDR_ECC_UE : Nat := 0x300018
def F.DDR_ECC_UE_COUNT : Field := ⟨0, 16⟩
/-- DDR_ECC_ADDR (R389, 13_dram_controller.md). -/
def R.DDR_ECC_ADDR : Nat := 0x30001C
def F.DDR_ECC_ADDR_LINE : Field := ⟨0, 32⟩
/-- DDR_PANIC (R389, 13_dram_controller.md). -/
def R.DDR_PANIC : Nat := 0x300020
def F.DDR_PANIC_NOW : Field := ⟨0, 3⟩
def F.DDR_PANIC_TIME : Field := ⟨8, 24⟩
/-- DDR_TRAIN (R389, 13_dram_controller.md). -/
def R.DDR_TRAIN : Nat := 0x300024
def F.DDR_TRAIN_LAST : Field := ⟨0, 11⟩
def F.DDR_TRAIN_DEFER : Field := ⟨16, 16⟩
/-- DDR_QUAL (R389, 13_dram_controller.md). -/
def R.DDR_QUAL (k : Nat) : Nat := 0x300030 + 4 * k
def F.DDR_QUAL_READ : Field := ⟨0, 8⟩
def F.DDR_QUAL_WRITE : Field := ⟨8, 8⟩
/-- CAM_CTL (R311, 09_cameras_and_image_pipeline.md). -/
def R.CAM_CTL : Nat := 0x340000
def F.CAM_CTL_SHARE : Field := ⟨0, 1⟩
def F.CAM_CTL_PANIC : Field := ⟨8, 8⟩
def F.CAM_CTL_BRST : Field := ⟨31, 1⟩
/-- CAM_ISR (R311, 09_cameras_and_image_pipeline.md). -/
def R.CAM_ISR : Nat := 0x340004
def F.CAM_ISR_FRAME : Field := ⟨0, 1⟩
def F.CAM_ISR_DROP : Field := ⟨1, 1⟩
def F.CAM_ISR_I2C : Field := ⟨2, 1⟩
def F.CAM_ISR_REJ : Field := ⟨3, 1⟩
def F.CAM_ISR_TRIGCNF : Field := ⟨4, 1⟩
/-- CAM_IER (R311, 09_cameras_and_image_pipeline.md). -/
def R.CAM_IER : Nat := 0x340008
def F.CAM_IER_EN : Field := ⟨0, 5⟩
/-- CAM_PT_CFG (R311, 09_cameras_and_image_pipeline.md). -/
def R.CAM_PT_CFG (n : Nat) : Nat := 0x341000 + 0x100 * n
def F.CAM_PT_CFG_EN : Field := ⟨0, 1⟩
def F.CAM_PT_CFG_BITS : Field := ⟨1, 4⟩
def F.CAM_PT_CFG_BAYER : Field := ⟨5, 3⟩
def F.CAM_PT_CFG_PCLKEDGE : Field := ⟨8, 1⟩
def F.CAM_PT_CFG_VSPOL : Field := ⟨9, 1⟩
def F.CAM_PT_CFG_HSPOL : Field := ⟨10, 1⟩
def F.CAM_PT_CFG_DEPOL : Field := ⟨11, 1⟩
def F.CAM_PT_CFG_DEMODE : Field := ⟨12, 1⟩
def F.CAM_PT_CFG_LAT : Field := ⟨13, 2⟩
def F.CAM_PT_CFG_PRIO : Field := ⟨15, 2⟩
def F.CAM_PT_CFG_TRIGPOL : Field := ⟨17, 1⟩
def F.CAM_PT_CFG_OUTEN : Field := ⟨18, 4⟩
def F.CAM_PT_CFG_DS : Field := ⟨22, 2⟩
def F.CAM_PT_CFG_CODEFMT : Field := ⟨24, 1⟩
/-- CAM_PT_GEOM (R311, 09_cameras_and_image_pipeline.md). -/
def R.CAM_PT_GEOM (n : Nat) : Nat := 0x341004 + 0x100 * n
def F.CAM_PT_GEOM_WIDTH : Field := ⟨0, 16⟩
def F.CAM_PT_GEOM_HEIGHT : Field := ⟨16, 16⟩
/-- CAM_PT_HSKIP (R311, 09_cameras_and_image_pipeline.md). -/
def R.CAM_PT_HSKIP (n : Nat) : Nat := 0x341008 + 0x100 * n
def F.CAM_PT_HSKIP_HSKIP : Field := ⟨0, 16⟩
/-- CAM_PT_STAT (R311, 09_cameras_and_image_pipeline.md). -/
def R.CAM_PT_STAT (n : Nat) : Nat := 0x34100C + 0x100 * n
def F.CAM_PT_STAT_STATE : Field := ⟨0, 2⟩
def F.CAM_PT_STAT_LEVEL : Field := ⟨8, 9⟩
/-- CAM_PT_FRAMES (R311, 09_cameras_and_image_pipeline.md). -/
def R.CAM_PT_FRAMES (n : Nat) : Nat := 0x341010 + 0x100 * n
def F.CAM_PT_FRAMES_DELIV : Field := ⟨0, 16⟩
def F.CAM_PT_FRAMES_NUM : Field := ⟨16, 16⟩
/-- CAM_PT_DROPC (R311, 09_cameras_and_image_pipeline.md). -/
def R.CAM_PT_DROPC (n : Nat) : Nat := 0x341014 + 0x100 * n
def F.CAM_PT_DROPC_OVF : Field := ⟨0, 8⟩
def F.CAM_PT_DROPC_GEOM : Field := ⟨8, 8⟩
def F.CAM_PT_DROPC_RING : Field := ⟨16, 8⟩
def F.CAM_PT_DROPC_OTHER : Field := ⟨24, 8⟩
/-- CAM_PT_RBASE (R311, 09_cameras_and_image_pipeline.md). -/
def R.CAM_PT_RBASE (n : Nat) : Nat := 0x341020 + 0x100 * n
def F.CAM_PT_RBASE_LINE : Field := ⟨0, 32⟩
/-- CAM_PT_RCTL (R311, 09_cameras_and_image_pipeline.md). -/
def R.CAM_PT_RCTL (n : Nat) : Nat := 0x341024 + 0x100 * n
def F.CAM_PT_RCTL_LOG2 : Field := ⟨0, 4⟩
/-- CAM_PT_RWR (R311, 09_cameras_and_image_pipeline.md). -/
def R.CAM_PT_RWR (n : Nat) : Nat := 0x341028 + 0x100 * n
def F.CAM_PT_RWR_INDEX : Field := ⟨0, 10⟩
/-- CAM_PT_RRD (R311, 09_cameras_and_image_pipeline.md). -/
def R.CAM_PT_RRD (n : Nat) : Nat := 0x34102C + 0x100 * n
def F.CAM_PT_RRD_INDEX : Field := ⟨0, 10⟩
/-- CAM_PT_OBASE (R311, 09_cameras_and_image_pipeline.md). -/
def R.CAM_PT_OBASE (n k : Nat) : Nat := 0x341030 + 0x100 * n + 8 * k
def F.CAM_PT_OBASE_LINE : Field := ⟨0, 32⟩
/-- CAM_PT_OSLOT (R311, 09_cameras_and_image_pipeline.md). -/
def R.CAM_PT_OSLOT (n k : Nat) : Nat := 0x341034 + 0x100 * n + 8 * k
def F.CAM_PT_OSLOT_LINES : Field := ⟨0, 32⟩
/-- CAM_PT_EXPCMD (R311, 09_cameras_and_image_pipeline.md). -/
def R.CAM_PT_EXPCMD (n : Nat) : Nat := 0x341050 + 0x100 * n
def F.CAM_PT_EXPCMD_SEQ : Field := ⟨0, 16⟩
def F.CAM_PT_EXPCMD_BANK : Field := ⟨16, 1⟩
def F.CAM_PT_EXPCMD_COUNT : Field := ⟨17, 5⟩
def F.CAM_PT_EXPCMD_COMMIT : Field := ⟨31, 1⟩
/-- CAM_PT_EXPSTAT (R311, 09_cameras_and_image_pipeline.md). -/
def R.CAM_PT_EXPSTAT (n : Nat) : Nat := 0x341054 + 0x100 * n
def F.CAM_PT_EXPSTAT_CURSEQ : Field := ⟨0, 16⟩
def F.CAM_PT_EXPSTAT_STATE : Field := ⟨16, 2⟩
def F.CAM_PT_EXPSTAT_ERR : Field := ⟨18, 1⟩
def F.CAM_PT_EXPSTAT_REPL : Field := ⟨20, 8⟩
/-- CAM_PT_I2CCFG (R311, 09_cameras_and_image_pipeline.md). -/
def R.CAM_PT_I2CCFG (n : Nat) : Nat := 0x341060 + 0x100 * n
def F.CAM_PT_I2CCFG_ADDR : Field := ⟨0, 7⟩
def F.CAM_PT_I2CCFG_SPEED : Field := ⟨7, 2⟩
def F.CAM_PT_I2CCFG_REG16 : Field := ⟨9, 1⟩
/-- CAM_PT_I2CCMD (R311, 09_cameras_and_image_pipeline.md). -/
def R.CAM_PT_I2CCMD (n : Nat) : Nat := 0x341064 + 0x100 * n
def F.CAM_PT_I2CCMD_REG : Field := ⟨0, 16⟩
def F.CAM_PT_I2CCMD_N : Field := ⟨16, 2⟩
def F.CAM_PT_I2CCMD_WRITE : Field := ⟨18, 1⟩
def F.CAM_PT_I2CCMD_BUSY : Field := ⟨19, 1⟩
def F.CAM_PT_I2CCMD_CODE : Field := ⟨20, 3⟩
def F.CAM_PT_I2CCMD_GO : Field := ⟨31, 1⟩
/-- CAM_PT_I2CDATA (R311, 09_cameras_and_image_pipeline.md). -/
def R.CAM_PT_I2CDATA (n : Nat) : Nat := 0x341068 + 0x100 * n
def F.CAM_PT_I2CDATA_DATA : Field := ⟨0, 32⟩
/-- CAM_PT_TRIG (R311, 09_cameras_and_image_pipeline.md). -/
def R.CAM_PT_TRIG (n : Nat) : Nat := 0x341070 + 0x100 * n
def F.CAM_PT_TRIG_WIDTH : Field := ⟨0, 16⟩
def F.CAM_PT_TRIG_CNF : Field := ⟨16, 15⟩
def F.CAM_PT_TRIG_TRIG : Field := ⟨31, 1⟩
/-- LGT_CTL (R326, 10_illumination.md). -/
def R.LGT_CTL : Nat := 0x380000
def F.LGT_CTL_EN : Field := ⟨0, 1⟩
def F.LGT_CTL_MATRIX : Field := ⟨1, 1⟩
def F.LGT_CTL_SYNC : Field := ⟨2, 1⟩
def F.LGT_CTL_SYNCPOL : Field := ⟨3, 1⟩
def F.LGT_CTL_BRST : Field := ⟨31, 1⟩
/-- LGT_SCALE (R326, 10_illumination.md). -/
def R.LGT_SCALE : Nat := 0x380004
def F.LGT_SCALE_G : Field := ⟨0, 6⟩
/-- LGT_ISR (R326, 10_illumination.md). -/
def R.LGT_ISR : Nat := 0x380008
def F.LGT_ISR_SHORT : Field := ⟨0, 1⟩
def F.LGT_ISR_STROBE : Field := ⟨1, 1⟩
def F.LGT_ISR_REJ : Field := ⟨2, 1⟩
/-- LGT_IER (R326, 10_illumination.md). -/
def R.LGT_IER : Nat := 0x38000C
def F.LGT_IER_EN : Field := ⟨0, 3⟩
/-- LGT_SINKEN_LO (R326, 10_illumination.md). -/
def R.LGT_SINKEN_LO : Nat := 0x380010
def F.LGT_SINKEN_LO_EN : Field := ⟨0, 32⟩
/-- LGT_SINKEN_HI (R326, 10_illumination.md). -/
def R.LGT_SINKEN_HI : Nat := 0x380014
def F.LGT_SINKEN_HI_EN : Field := ⟨0, 16⟩
/-- LGT_SHORT_LO (R326, 10_illumination.md). -/
def R.LGT_SHORT_LO : Nat := 0x380018
def F.LGT_SHORT_LO_PAIR : Field := ⟨0, 32⟩
/-- LGT_SHORT_HI (R326, 10_illumination.md). -/
def R.LGT_SHORT_HI : Nat := 0x38001C
def F.LGT_SHORT_HI_PAIR : Field := ⟨0, 15⟩
/-- LGT_STAT (R326, 10_illumination.md). -/
def R.LGT_STAT : Nat := 0x380020
def F.LGT_STAT_WAITGRANT : Field := ⟨0, 1⟩
def F.LGT_STAT_EARLY : Field := ⟨16, 16⟩
/-- LGT_TEST (R326, 10_illumination.md). -/
def R.LGT_TEST : Nat := 0x380024
def F.LGT_TEST_RUN : Field := ⟨0, 1⟩
def F.LGT_TEST_BUSY : Field := ⟨1, 1⟩
def F.LGT_TEST_NOBLANK : Field := ⟨2, 1⟩
/-- LGT_MTX_CFG (R326, 10_illumination.md). -/
def R.LGT_MTX_CFG : Nat := 0x380030
def F.LGT_MTX_CFG_LINES : Field := ⟨0, 3⟩
def F.LGT_MTX_CFG_LINE_T : Field := ⟨4, 21⟩
/-- LGT_MTX_BLANK (R326, 10_illumination.md). -/
def R.LGT_MTX_BLANK : Nat := 0x380034
def F.LGT_MTX_BLANK_BLANK : Field := ⟨0, 17⟩
/-- LGT_MTX_CTL (R326, 10_illumination.md). -/
def R.LGT_MTX_CTL : Nat := 0x380038
def F.LGT_MTX_CTL_SWAP : Field := ⟨0, 1⟩
def F.LGT_MTX_CTL_ACTIVE : Field := ⟨1, 1⟩
def F.LGT_MTX_CTL_PENDING : Field := ⟨2, 1⟩
/-- LGT_LSYNC_DLY (R326, 10_illumination.md). -/
def R.LGT_LSYNC_DLY : Nat := 0x38003C
def F.LGT_LSYNC_DLY_DLY : Field := ⟨0, 24⟩
/-- LGT_STB_CFG (R326, 10_illumination.md). -/
def R.LGT_STB_CFG (n : Nat) : Nat := 0x380100 + 0x10 * n
def F.LGT_STB_CFG_EN : Field := ⟨0, 1⟩
def F.LGT_STB_CFG_H : Field := ⟨1, 2⟩
def F.LGT_STB_CFG_ISET : Field := ⟨3, 13⟩
def F.LGT_STB_CFG_RSH : Field := ⟨16, 8⟩
def F.LGT_STB_CFG_MAXON : Field := ⟨24, 8⟩
/-- LGT_STB_CMD (R326, 10_illumination.md). -/
def R.LGT_STB_CMD (n : Nat) : Nat := 0x380104 + 0x10 * n
def F.LGT_STB_CMD_HWIDTH : Field := ⟨0, 16⟩
def F.LGT_STB_CMD_PULSE : Field := ⟨31, 1⟩
/-- LGT_STB_STAT (R326, 10_illumination.md). -/
def R.LGT_STB_STAT (n : Nat) : Nat := 0x380108 + 0x10 * n
def F.LGT_STB_STAT_READY : Field := ⟨0, 1⟩
def F.LGT_STB_STAT_CAUSE : Field := ⟨1, 2⟩
def F.LGT_STB_STAT_MISS : Field := ⟨16, 8⟩
def F.LGT_STB_STAT_CUT : Field := ⟨24, 8⟩
/-- MOT_CTL (R280, 08_recoat_motion_and_feedback.md). -/
def R.MOT_CTL : Nat := 0x3C0000
def F.MOT_CTL_BRST : Field := ⟨31, 1⟩
/-- MOT_ISR (R280, 08_recoat_motion_and_feedback.md). -/
def R.MOT_ISR : Nat := 0x3C0004
def F.MOT_ISR_FAULT : Field := ⟨0, 1⟩
def F.MOT_ISR_LIMIT : Field := ⟨1, 1⟩
def F.MOT_ISR_HOME : Field := ⟨2, 1⟩
def F.MOT_ISR_OVERSHOOT : Field := ⟨3, 1⟩
def F.MOT_ISR_REJ : Field := ⟨4, 1⟩
/-- MOT_IER (R280, 08_recoat_motion_and_feedback.md). -/
def R.MOT_IER : Nat := 0x3C0008
def F.MOT_IER_EN : Field := ⟨0, 5⟩
/-- MOT_AX_CFG (R280, 08_recoat_motion_and_feedback.md). -/
def R.MOT_AX_CFG (n : Nat) : Nat := 0x3C1000 + 0x80 * n
def F.MOT_AX_CFG_EN : Field := ⟨0, 1⟩
def F.MOT_AX_CFG_IMMEDIATE : Field := ⟨1, 1⟩
def F.MOT_AX_CFG_MODE : Field := ⟨2, 1⟩
def F.MOT_AX_CFG_SSMODE : Field := ⟨3, 1⟩
def F.MOT_AX_CFG_LASRC : Field := ⟨4, 2⟩
def F.MOT_AX_CFG_DIRINV : Field := ⟨6, 1⟩
def F.MOT_AX_CFG_FBK : Field := ⟨8, 3⟩
def F.MOT_AX_CFG_SSDLY : Field := ⟨16, 8⟩
/-- MOT_AX_CMD (R280, 08_recoat_motion_and_feedback.md). -/
def R.MOT_AX_CMD (n : Nat) : Nat := 0x3C1004 + 0x80 * n
def F.MOT_AX_CMD_GO : Field := ⟨0, 1⟩
def F.MOT_AX_CMD_HOME : Field := ⟨1, 1⟩
def F.MOT_AX_CMD_PSLOT : Field := ⟨2, 2⟩
/-- MOT_AX_TARGET (R280, 08_recoat_motion_and_feedback.md). -/
def R.MOT_AX_TARGET (n : Nat) : Nat := 0x3C1008 + 0x80 * n
def F.MOT_AX_TARGET_TARGET : Field := ⟨0, 32⟩
/-- MOT_AX_STAT (R280, 08_recoat_motion_and_feedback.md). -/
def R.MOT_AX_STAT (n : Nat) : Nat := 0x3C100C + 0x80 * n
def F.MOT_AX_STAT_STATE : Field := ⟨0, 3⟩
def F.MOT_AX_STAT_PSLOT : Field := ⟨3, 2⟩
def F.MOT_AX_STAT_HOMED : Field := ⟨5, 1⟩
def F.MOT_AX_STAT_OVERSHOOT : Field := ⟨6, 1⟩
def F.MOT_AX_STAT_LIMSTOP : Field := ⟨7, 1⟩
def F.MOT_AX_STAT_STANDSTILL : Field := ⟨8, 1⟩
def F.MOT_AX_STAT_FCAUSE : Field := ⟨9, 3⟩
def F.MOT_AX_STAT_HCAUSE : Field := ⟨12, 3⟩
/-- MOT_AX_POS (R280, 08_recoat_motion_and_feedback.md). -/
def R.MOT_AX_POS (n : Nat) : Nat := 0x3C1010 + 0x80 * n
def F.MOT_AX_POS_POS : Field := ⟨0, 32⟩
/-- MOT_AX_VEL (R280, 08_recoat_motion_and_feedback.md). -/
def R.MOT_AX_VEL (n : Nat) : Nat := 0x3C1014 + 0x80 * n
def F.MOT_AX_VEL_V : Field := ⟨0, 32⟩
/-- MOT_AX_CUR (R280, 08_recoat_motion_and_feedback.md). -/
def R.MOT_AX_CUR (n : Nat) : Nat := 0x3C1018 + 0x80 * n
def F.MOT_AX_CUR_IBASE : Field := ⟨0, 16⟩
def F.MOT_AX_CUR_IMAX : Field := ⟨16, 16⟩
/-- MOT_AX_LA (R280, 08_recoat_motion_and_feedback.md). -/
def R.MOT_AX_LA (n : Nat) : Nat := 0x3C101C + 0x80 * n
def F.MOT_AX_LA_D0 : Field := ⟨0, 8⟩
def F.MOT_AX_LA_D1 : Field := ⟨8, 8⟩
def F.MOT_AX_LA_STALLN : Field := ⟨16, 8⟩
/-- MOT_AX_LAEST (R280, 08_recoat_motion_and_feedback.md). -/
def R.MOT_AX_LAEST (n : Nat) : Nat := 0x3C1020 + 0x80 * n
def F.MOT_AX_LAEST_ECYC : Field := ⟨0, 16⟩
def F.MOT_AX_LAEST_VMIN : Field := ⟨16, 16⟩
/-- MOT_AX_DRV (R280, 08_recoat_motion_and_feedback.md). -/
def R.MOT_AX_DRV (n : Nat) : Nat := 0x3C1024 + 0x80 * n
def F.MOT_AX_DRV_PWMPER : Field := ⟨0, 16⟩
def F.MOT_AX_DRV_DEAD : Field := ⟨16, 8⟩
def F.MOT_AX_DRV_STEPW : Field := ⟨24, 8⟩
/-- MOT_AX_SENSE (R280, 08_recoat_motion_and_feedback.md). -/
def R.MOT_AX_SENSE (n : Nat) : Nat := 0x3C1028 + 0x80 * n
def F.MOT_AX_SENSE_ISCALE : Field := ⟨0, 16⟩
/-- MOT_AX_CPI (R280, 08_recoat_motion_and_feedback.md). -/
def R.MOT_AX_CPI (n : Nat) : Nat := 0x3C102C + 0x80 * n
def F.MOT_AX_CPI_KP : Field := ⟨0, 16⟩
def F.MOT_AX_CPI_KI : Field := ⟨16, 16⟩
/-- MOT_AX_DLIM (R280, 08_recoat_motion_and_feedback.md). -/
def R.MOT_AX_DLIM (n : Nat) : Nat := 0x3C1030 + 0x80 * n
def F.MOT_AX_DLIM_DLIM : Field := ⟨0, 32⟩
/-- MOT_AX_HOME (R280, 08_recoat_motion_and_feedback.md). -/
def R.MOT_AX_HOME (n : Nat) : Nat := 0x3C1034 + 0x80 * n
def F.MOT_AX_HOME_HSLOT : Field := ⟨0, 2⟩
def F.MOT_AX_HOME_HDIR : Field := ⟨2, 1⟩
/-- MOT_AX_HPOS (R280, 08_recoat_motion_and_feedback.md). -/
def R.MOT_AX_HPOS (n : Nat) : Nat := 0x3C1038 + 0x80 * n
def F.MOT_AX_HPOS_HPOS : Field := ⟨0, 32⟩
/-- MOT_AX_HMAX (R280, 08_recoat_motion_and_feedback.md). -/
def R.MOT_AX_HMAX (n : Nat) : Nat := 0x3C103C + 0x80 * n
def F.MOT_AX_HMAX_HMAX : Field := ⟨0, 32⟩
/-- MOT_AX_HLATCH (R280, 08_recoat_motion_and_feedback.md). -/
def R.MOT_AX_HLATCH (n : Nat) : Nat := 0x3C1040 + 0x80 * n
def F.MOT_AX_HLATCH_POS : Field := ⟨0, 32⟩
/-- MOT_AX_MEAS (R280, 08_recoat_motion_and_feedback.md). -/
def R.MOT_AX_MEAS (n : Nat) : Nat := 0x3C1044 + 0x80 * n
def F.MOT_AX_MEAS_DELTA : Field := ⟨0, 8⟩
def F.MOT_AX_MEAS_I : Field := ⟨16, 16⟩
/-- FBK_CTL (R281, 08_recoat_motion_and_feedback.md). -/
def R.FBK_CTL : Nat := 0x3D0000
def F.FBK_CTL_BRST : Field := ⟨31, 1⟩
/-- FBK_ISR (R281, 08_recoat_motion_and_feedback.md). -/
def R.FBK_ISR : Nat := 0x3D0004
def F.FBK_ISR_QERR : Field := ⟨0, 1⟩
def F.FBK_ISR_IDX : Field := ⟨1, 1⟩
def F.FBK_ISR_CMP : Field := ⟨2, 1⟩
def F.FBK_ISR_BEHIND : Field := ⟨3, 1⟩
def F.FBK_ISR_REJ : Field := ⟨4, 1⟩
/-- FBK_IER (R281, 08_recoat_motion_and_feedback.md). -/
def R.FBK_IER : Nat := 0x3D0008
def F.FBK_IER_EN : Field := ⟨0, 5⟩
/-- FBK_CFG (R281, 08_recoat_motion_and_feedback.md). -/
def R.FBK_CFG (n : Nat) : Nat := 0x3D1000 + 0x40 * n
def F.FBK_CFG_EN : Field := ⟨0, 1⟩
def F.FBK_CFG_MODE : Field := ⟨1, 2⟩
def F.FBK_CFG_PASS : Field := ⟨3, 1⟩
def F.FBK_CFG_FILT : Field := ⟨4, 3⟩
def F.FBK_CFG_ZPOL : Field := ⟨7, 1⟩
def F.FBK_CFG_HPOL : Field := ⟨8, 1⟩
def F.FBK_CFG_LPOL : Field := ⟨9, 1⟩
def F.FBK_CFG_INV : Field := ⟨10, 1⟩
def F.FBK_CFG_DEB : Field := ⟨16, 8⟩
/-- FBK_STAT (R281, 08_recoat_motion_and_feedback.md). -/
def R.FBK_STAT (n : Nat) : Nat := 0x3D1004 + 0x40 * n
def F.FBK_STAT_QERR : Field := ⟨0, 1⟩
def F.FBK_STAT_IDXERR : Field := ⟨1, 1⟩
def F.FBK_STAT_HOME : Field := ⟨2, 1⟩
def F.FBK_STAT_LIMP : Field := ⟨3, 1⟩
def F.FBK_STAT_LIMN : Field := ⟨4, 1⟩
def F.FBK_STAT_CMP_BEHIND : Field := ⟨5, 1⟩
def F.FBK_STAT_ARMED : Field := ⟨6, 1⟩
def F.FBK_STAT_ZSEEN : Field := ⟨7, 1⟩
/-- FBK_COUNT (R281, 08_recoat_motion_and_feedback.md). -/
def R.FBK_COUNT (n : Nat) : Nat := 0x3D1008 + 0x40 * n
def F.FBK_COUNT_COUNT : Field := ⟨0, 32⟩
/-- FBK_SPEED (R281, 08_recoat_motion_and_feedback.md). -/
def R.FBK_SPEED (n : Nat) : Nat := 0x3D100C + 0x40 * n
def F.FBK_SPEED_SPEED : Field := ⟨0, 32⟩
/-- FBK_SPDF (R281, 08_recoat_motion_and_feedback.md). -/
def R.FBK_SPDF (n : Nat) : Nat := 0x3D1010 + 0x40 * n
def F.FBK_SPDF_ALPHA : Field := ⟨0, 16⟩
/-- FBK_LINES (R281, 08_recoat_motion_and_feedback.md). -/
def R.FBK_LINES (n : Nat) : Nat := 0x3D1014 + 0x40 * n
def F.FBK_LINES_LINES : Field := ⟨0, 24⟩
def F.FBK_LINES_TOL : Field := ⟨24, 8⟩
/-- FBK_ZLATCH (R281, 08_recoat_motion_and_feedback.md). -/
def R.FBK_ZLATCH (n : Nat) : Nat := 0x3D1018 + 0x40 * n
def F.FBK_ZLATCH_COUNT : Field := ⟨0, 32⟩
/-- FBK_HLATCH (R281, 08_recoat_motion_and_feedback.md). -/
def R.FBK_HLATCH (n : Nat) : Nat := 0x3D101C + 0x40 * n
def F.FBK_HLATCH_COUNT : Field := ⟨0, 32⟩
/-- FBK_ERR (R281, 08_recoat_motion_and_feedback.md). -/
def R.FBK_ERR (n : Nat) : Nat := 0x3D1020 + 0x40 * n
def F.FBK_ERR_QERR : Field := ⟨0, 16⟩
def F.FBK_ERR_CHAT : Field := ⟨16, 16⟩
/-- FBK_CMPPOS (R281, 08_recoat_motion_and_feedback.md). -/
def R.FBK_CMPPOS (n : Nat) : Nat := 0x3D1024 + 0x40 * n
def F.FBK_CMPPOS_POS : Field := ⟨0, 32⟩
/-- FBK_CMPCFG (R281, 08_recoat_motion_and_feedback.md). -/
def R.FBK_CMPCFG (n : Nat) : Nat := 0x3D1028 + 0x40 * n
def F.FBK_CMPCFG_EN : Field := ⟨0, 1⟩
def F.FBK_CMPCFG_DIR : Field := ⟨1, 2⟩
def F.FBK_CMPCFG_FIRE_NOW : Field := ⟨3, 1⟩
def F.FBK_CMPCFG_POL : Field := ⟨4, 1⟩
def F.FBK_CMPCFG_WIDTH : Field := ⟨16, 16⟩

/-- Registers of the GLB block, part 0. -/
def regsGLB0 : List RegDef := [
  ⟨"GLB_CAPS", 0x0, 0x0, 1, 0, 1, [⟨⟨0, 6⟩, .ro, 0x0⟩, ⟨⟨6, 3⟩, .ro, 0x0⟩, ⟨⟨9, 1⟩, .ro, 0x0⟩, ⟨⟨10, 4⟩, .ro, 0x0⟩, ⟨⟨14, 4⟩, .ro, 0x0⟩, ⟨⟨18, 2⟩, .ro, 0x0⟩, ⟨⟨20, 3⟩, .ro, 0x0⟩, ⟨⟨23, 1⟩, .ro, 0x0⟩, ⟨⟨24, 1⟩, .ro, 0x0⟩, ⟨⟨25, 3⟩, .ro, 0x0⟩]⟩,
  ⟨"GLB_STAT", 0x4, 0x0, 1, 0, 1, [⟨⟨0, 1⟩, .w1c, 0x0⟩]⟩,
  ⟨"GLB_ABSENT_ADDR", 0x8, 0x0, 1, 0, 1, [⟨⟨0, 26⟩, .ro, 0x0⟩, ⟨⟨29, 1⟩, .ro, 0x0⟩, ⟨⟨30, 2⟩, .ro, 0x0⟩]⟩]

/-- The GLB block (offsets 0x0 to 0xFFFF). -/
def regsGLB : List RegDef := regsGLB0

/-- Registers of the PWR block, part 0. -/
def regsPWR0 : List RegDef := [
  ⟨"PWR_STATE", 0x10000, 0x0, 1, 0, 1, [⟨⟨0, 3⟩, .rw, 0x0⟩, ⟨⟨4, 3⟩, .ro, 0x0⟩, ⟨⟨7, 1⟩, .ro, 0x0⟩, ⟨⟨8, 3⟩, .ro, 0x0⟩, ⟨⟨11, 1⟩, .ro, 0x0⟩]⟩,
  ⟨"PWR_ISR", 0x10004, 0x0, 1, 0, 1, [⟨⟨0, 1⟩, .w1c, 0x0⟩, ⟨⟨1, 1⟩, .w1c, 0x0⟩, ⟨⟨2, 1⟩, .w1c, 0x0⟩, ⟨⟨3, 1⟩, .w1c, 0x0⟩, ⟨⟨4, 1⟩, .w1c, 0x0⟩, ⟨⟨5, 1⟩, .w1c, 0x0⟩]⟩,
  ⟨"PWR_IER", 0x10008, 0x0, 1, 0, 1, [⟨⟨0, 6⟩, .rw, 0x0⟩]⟩,
  ⟨"PWR_DOM", 0x1000C, 0x0, 1, 0, 1, [⟨⟨0, 11⟩, .ro, 0x0⟩, ⟨⟨16, 11⟩, .ro, 0x0⟩]⟩,
  ⟨"PWR_FORCE", 0x10010, 0x0, 1, 0, 1, [⟨⟨0, 11⟩, .rw, 0x0⟩]⟩,
  ⟨"PWR_FWVOTE", 0x10014, 0x0, 1, 0, 1, [⟨⟨0, 11⟩, .rw, 0x1⟩]⟩,
  ⟨"PWR_HOSTVOTE", 0x10018, 0x0, 1, 0, 1, [⟨⟨0, 11⟩, .rw, 0x0⟩]⟩,
  ⟨"PWR_HOLD_TO", 0x1001C, 0x0, 1, 0, 1, [⟨⟨0, 16⟩, .rw, 0x64⟩]⟩,
  ⟨"PWR_HOLDER", 0x10020, 0x0, 1, 0, 1, [⟨⟨0, 14⟩, .ro, 0x0⟩, ⟨⟨16, 11⟩, .ro, 0x0⟩]⟩,
  ⟨"PWR_PGERR", 0x10024, 0x0, 1, 0, 1, [⟨⟨0, 12⟩, .w1c, 0x0⟩]⟩,
  ⟨"PWR_PGOOD_TO", 0x10028, 0x0, 1, 0, 1, [⟨⟨0, 16⟩, .rw, 0x2710⟩]⟩,
  ⟨"PWR_WAKESRC", 0x1002C, 0x0, 1, 0, 1, [⟨⟨0, 4⟩, .rws, 0x0⟩, ⟨⟨16, 16⟩, .rws, 0x0⟩]⟩,
  ⟨"PWR_ALARM", 0x10030, 0x0, 1, 0, 1, [⟨⟨0, 32⟩, .rw, 0x0⟩]⟩,
  ⟨"PWR_PAUSE", 0x10034, 0x0, 1, 0, 1, [⟨⟨0, 8⟩, .rw, 0x0⟩, ⟨⟨8, 16⟩, .rw, 0x64⟩]⟩,
  ⟨"PWR_PAUSE_DEBT", 0x10038, 0x0, 1, 0, 1, [⟨⟨0, 32⟩, .ro, 0x0⟩]⟩,
  ⟨"PWR_THERM", 0x1003C, 0x0, 1, 0, 1, [⟨⟨0, 1⟩, .ro, 0x0⟩, ⟨⟨1, 4⟩, .ro, 0x0⟩]⟩,
  ⟨"PWR_CTL", 0x10040, 0x0, 1, 0, 1, [⟨⟨31, 1⟩, .wo, 0x0⟩]⟩,
  ⟨"PWR_DOM_BUD", 0x10200, 0x0, 1, 4, 11, [⟨⟨0, 16⟩, .rw, 0x0⟩, ⟨⟨16, 16⟩, .rw, 0x0⟩]⟩,
  ⟨"PWR_BUD_LIM", 0x10100, 0x10, 4, 0, 1, [⟨⟨0, 16⟩, .rw, 0xFFFF⟩, ⟨⟨16, 16⟩, .rw, 0x0⟩]⟩,
  ⟨"PWR_BUD_USE", 0x10104, 0x10, 4, 0, 1, [⟨⟨0, 16⟩, .ro, 0x0⟩, ⟨⟨16, 16⟩, .ro, 0x0⟩]⟩]

/-- Registers of the PWR block, part 1. -/
def regsPWR1 : List RegDef := [
  ⟨"PWR_BUD_STAT", 0x10108, 0x10, 4, 0, 1, [⟨⟨0, 16⟩, .rw, 0x0⟩, ⟨⟨16, 1⟩, .ro, 0x0⟩, ⟨⟨17, 1⟩, .ro, 0x0⟩]⟩]

/-- The PWR block (offsets 0x10000 to 0x1FFFF). -/
def regsPWR : List RegDef := regsPWR0 ++ regsPWR1

/-- Registers of the HK block, part 0. -/
def regsHK0 : List RegDef := [
  ⟨"HK_CTL", 0x20000, 0x0, 1, 0, 1, [⟨⟨31, 1⟩, .wo, 0x0⟩]⟩,
  ⟨"HK_ISR", 0x20004, 0x0, 1, 0, 1, [⟨⟨0, 1⟩, .w1c, 0x0⟩, ⟨⟨1, 1⟩, .w1c, 0x0⟩, ⟨⟨2, 1⟩, .w1c, 0x0⟩, ⟨⟨3, 1⟩, .w1c, 0x0⟩]⟩,
  ⟨"HK_IER", 0x20008, 0x0, 1, 0, 1, [⟨⟨0, 4⟩, .rw, 0x0⟩]⟩,
  ⟨"HK_TMAX", 0x2000C, 0x0, 1, 0, 1, [⟨⟨0, 16⟩, .ro, 0x0⟩, ⟨⟨16, 6⟩, .ro, 0x0⟩]⟩,
  ⟨"HK_TWARN", 0x20010, 0x0, 1, 0, 1, [⟨⟨0, 16⟩, .rw, 0x5A0⟩]⟩,
  ⟨"HK_TPEAK", 0x20014, 0x0, 1, 0, 1, [⟨⟨0, 16⟩, .rws, 0x0⟩, ⟨⟨16, 6⟩, .rws, 0x0⟩]⟩,
  ⟨"HK_FAIL_LO", 0x20018, 0x0, 1, 0, 1, [⟨⟨0, 32⟩, .ro, 0x0⟩]⟩,
  ⟨"HK_FAIL_HI", 0x2001C, 0x0, 1, 0, 1, [⟨⟨0, 8⟩, .ro, 0x0⟩]⟩,
  ⟨"HK_ROUND", 0x20020, 0x0, 1, 0, 1, [⟨⟨0, 32⟩, .ro, 0x0⟩]⟩,
  ⟨"HK_SUPST", 0x20024, 0x0, 1, 0, 1, [⟨⟨0, 24⟩, .w1c, 0x0⟩]⟩,
  ⟨"HK_TEMP", 0x20100, 0x0, 1, 4, 40, [⟨⟨0, 16⟩, .ro, 0x0⟩, ⟨⟨16, 1⟩, .ro, 0x0⟩]⟩,
  ⟨"HK_SUP", 0x20200, 0x0, 1, 4, 24, [⟨⟨0, 16⟩, .ro, 0x0⟩]⟩,
  ⟨"HK_SUPLIM", 0x20280, 0x0, 1, 4, 24, [⟨⟨0, 16⟩, .rw, 0x0⟩, ⟨⟨16, 16⟩, .rw, 0xFFFF⟩]⟩,
  ⟨"HK_AIN", 0x20300, 0x0, 1, 4, 8, [⟨⟨0, 16⟩, .ro, 0x0⟩]⟩]

/-- The HK block (offsets 0x20000 to 0x2FFFF). -/
def regsHK : List RegDef := regsHK0

/-- Registers of the CAVE block, part 0. -/
def regsCAVE0 : List RegDef := [
  ⟨"CAVE_CTL", 0x30000, 0x0, 1, 0, 1, [⟨⟨0, 1⟩, .rw, 0x0⟩, ⟨⟨31, 1⟩, .wo, 0x0⟩]⟩,
  ⟨"CAVE_ISR", 0x30004, 0x0, 1, 0, 1, [⟨⟨0, 1⟩, .w1c, 0x0⟩, ⟨⟨1, 1⟩, .w1c, 0x0⟩, ⟨⟨2, 1⟩, .w1c, 0x0⟩, ⟨⟨3, 1⟩, .w1c, 0x0⟩, ⟨⟨4, 1⟩, .w1c, 0x0⟩, ⟨⟨5, 1⟩, .w1c, 0x0⟩]⟩,
  ⟨"CAVE_IER", 0x30008, 0x0, 1, 0, 1, [⟨⟨0, 6⟩, .rw, 0x0⟩]⟩,
  ⟨"CAVE_STAT", 0x3000C, 0x0, 1, 0, 1, [⟨⟨0, 1⟩, .ro, 0x0⟩, ⟨⟨1, 1⟩, .ro, 0x0⟩, ⟨⟨2, 1⟩, .ro, 0x0⟩, ⟨⟨3, 1⟩, .ro, 0x0⟩, ⟨⟨8, 7⟩, .ro, 0x0⟩, ⟨⟨16, 16⟩, .ro, 0x0⟩]⟩,
  ⟨"CAVE_HEAD_LO", 0x30010, 0x0, 1, 0, 1, [⟨⟨0, 32⟩, .ro, 0x0⟩]⟩,
  ⟨"CAVE_HEAD_HI", 0x30014, 0x0, 1, 0, 1, [⟨⟨0, 16⟩, .ro, 0x0⟩]⟩,
  ⟨"CAVE_LOST", 0x30018, 0x0, 1, 0, 1, [⟨⟨0, 32⟩, .rws, 0x0⟩]⟩,
  ⟨"CAVE_FRZ", 0x3001C, 0x0, 1, 0, 1, [⟨⟨0, 15⟩, .ro, 0x0⟩, ⟨⟨16, 16⟩, .ro, 0x0⟩]⟩,
  ⟨"CAVE_RD_AGE", 0x30020, 0x0, 1, 0, 1, [⟨⟨0, 14⟩, .rw, 0x0⟩]⟩,
  ⟨"CAVE_RD_STAT", 0x30024, 0x0, 1, 0, 1, [⟨⟨0, 1⟩, .ro, 0x0⟩, ⟨⟨1, 1⟩, .ro, 0x0⟩, ⟨⟨2, 1⟩, .ro, 0x0⟩]⟩,
  ⟨"CAVE_SUPP", 0x30028, 0x0, 1, 0, 1, [⟨⟨0, 32⟩, .rws, 0x0⟩]⟩,
  ⟨"CAVE_RD_DATA", 0x30040, 0x0, 1, 4, 16, [⟨⟨0, 32⟩, .ro, 0x0⟩]⟩,
  ⟨"CAVE_WR_CODE", 0x30080, 0x0, 1, 0, 1, [⟨⟨0, 16⟩, .rw, 0x8000⟩, ⟨⟨31, 1⟩, .wo, 0x0⟩]⟩,
  ⟨"CAVE_WR_PAY", 0x30084, 0x0, 1, 4, 7, [⟨⟨0, 32⟩, .rw, 0x0⟩]⟩,
  ⟨"CAVE_CMD", 0x300A0, 0x0, 1, 0, 1, [⟨⟨0, 1⟩, .wo, 0x0⟩, ⟨⟨1, 1⟩, .wo, 0x0⟩, ⟨⟨2, 1⟩, .wo, 0x0⟩]⟩,
  ⟨"CAVE_CLR_STAT", 0x300A4, 0x0, 1, 0, 1, [⟨⟨0, 3⟩, .ro, 0x0⟩, ⟨⟨16, 16⟩, .rws, 0x0⟩]⟩,
  ⟨"CAVE_CHAL", 0x300C0, 0x0, 1, 4, 8, [⟨⟨0, 32⟩, .ro, 0x0⟩]⟩,
  ⟨"CAVE_RESP", 0x300E0, 0x0, 1, 4, 4, [⟨⟨0, 32⟩, .rw, 0x0⟩]⟩,
  ⟨"CAVE_KEY", 0x30100, 0x0, 1, 4, 8, [⟨⟨0, 32⟩, .wo, 0x0⟩]⟩]

/-- The CAVE block (offsets 0x30000 to 0x3FFFF). -/
def regsCAVE : List RegDef := regsCAVE0

/-- Registers of the CAL block, part 0. -/
def regsCAL0 : List RegDef := [
  ⟨"CAL_CTL", 0x40000, 0x0, 1, 0, 1, [⟨⟨31, 1⟩, .wo, 0x0⟩]⟩,
  ⟨"CAL_ISR", 0x40004, 0x0, 1, 0, 1, [⟨⟨0, 1⟩, .w1c, 0x0⟩, ⟨⟨1, 1⟩, .w1c, 0x0⟩, ⟨⟨2, 1⟩, .w1c, 0x0⟩]⟩,
  ⟨"CAL_IER", 0x40008, 0x0, 1, 0, 1, [⟨⟨0, 3⟩, .rw, 0x0⟩]⟩,
  ⟨"CAL_CMD", 0x40010, 0x0, 1, 0, 1, [⟨⟨0, 3⟩, .wo, 0x0⟩, ⟨⟨8, 1⟩, .wo, 0x0⟩, ⟨⟨9, 1⟩, .wo, 0x0⟩, ⟨⟨10, 1⟩, .wo, 0x0⟩, ⟨⟨11, 1⟩, .wo, 0x0⟩]⟩,
  ⟨"CAL_APPLY", 0x40014, 0x0, 1, 0, 1, [⟨⟨0, 3⟩, .wo, 0x0⟩, ⟨⟨31, 1⟩, .wo, 0x0⟩]⟩,
  ⟨"CAL_G_STAT", 0x40100, 0x20, 8, 0, 1, [⟨⟨0, 2⟩, .ro, 0x0⟩, ⟨⟨2, 3⟩, .ro, 0x0⟩]⟩,
  ⟨"CAL_G_TOL", 0x40104, 0x20, 8, 0, 1, [⟨⟨0, 16⟩, .rws, 0x1⟩, ⟨⟨16, 16⟩, .rws, 0x0⟩]⟩,
  ⟨"CAL_G_WORDS", 0x40108, 0x20, 8, 0, 1, [⟨⟨0, 32⟩, .ro, 0x0⟩]⟩,
  ⟨"CAL_G_CMPW", 0x4010C, 0x20, 8, 0, 1, [⟨⟨0, 32⟩, .ro, 0x0⟩]⟩,
  ⟨"CAL_G_NDIS", 0x40110, 0x20, 8, 0, 1, [⟨⟨0, 32⟩, .ro, 0x0⟩]⟩,
  ⟨"CAL_G_DIFF", 0x40114, 0x20, 8, 0, 1, [⟨⟨0, 32⟩, .ro, 0x0⟩]⟩]

/-- The CAL block (offsets 0x40000 to 0x4FFFF). -/
def regsCAL : List RegDef := regsCAL0

/-- Registers of the INTG block, part 0. -/
def regsINTG0 : List RegDef := [
  ⟨"INTG_CTL", 0x50000, 0x0, 1, 0, 1, [⟨⟨0, 1⟩, .rw, 0x1⟩, ⟨⟨1, 1⟩, .wo, 0x0⟩, ⟨⟨31, 1⟩, .wo, 0x0⟩]⟩,
  ⟨"INTG_ISR", 0x50004, 0x0, 1, 0, 1, [⟨⟨0, 1⟩, .w1c, 0x0⟩, ⟨⟨1, 1⟩, .w1c, 0x0⟩, ⟨⟨2, 1⟩, .w1c, 0x0⟩, ⟨⟨3, 1⟩, .w1c, 0x0⟩, ⟨⟨4, 1⟩, .w1c, 0x0⟩, ⟨⟨5, 1⟩, .w1c, 0x0⟩, ⟨⟨6, 1⟩, .w1c, 0x0⟩, ⟨⟨7, 1⟩, .w1c, 0x0⟩]⟩,
  ⟨"INTG_IER", 0x50008, 0x0, 1, 0, 1, [⟨⟨0, 8⟩, .rw, 0x0⟩]⟩,
  ⟨"INTG_STAT", 0x5000C, 0x0, 1, 0, 1, [⟨⟨0, 1⟩, .ro, 0x0⟩]⟩,
  ⟨"INTG_PASS", 0x50010, 0x0, 1, 0, 1, [⟨⟨0, 32⟩, .ro, 0x0⟩]⟩,
  ⟨"INTG_CE", 0x50014, 0x0, 1, 0, 1, [⟨⟨0, 32⟩, .rws, 0x0⟩]⟩,
  ⟨"INTG_UE", 0x50018, 0x0, 1, 0, 1, [⟨⟨0, 32⟩, .rws, 0x0⟩]⟩,
  ⟨"INTG_RES", 0x5001C, 0x0, 1, 0, 1, [⟨⟨0, 32⟩, .rws, 0x0⟩]⟩,
  ⟨"INTG_LAST", 0x50020, 0x0, 1, 0, 1, [⟨⟨0, 4⟩, .rws, 0x0⟩, ⟨⟨4, 4⟩, .rws, 0x0⟩, ⟨⟨8, 24⟩, .rws, 0x0⟩]⟩,
  ⟨"INTG_CRC", 0x50024, 0x0, 1, 0, 1, [⟨⟨0, 32⟩, .rws, 0x0⟩]⟩,
  ⟨"INTG_BIST", 0x50028, 0x0, 1, 0, 1, [⟨⟨0, 11⟩, .ro, 0x0⟩, ⟨⟨11, 4⟩, .ro, 0x0⟩, ⟨⟨15, 1⟩, .ro, 0x0⟩]⟩,
  ⟨"INTG_TRKOVF", 0x5002C, 0x0, 1, 0, 1, [⟨⟨0, 32⟩, .ro, 0x0⟩]⟩,
  ⟨"INTG_RECDROP", 0x50030, 0x0, 1, 0, 1, [⟨⟨0, 32⟩, .ro, 0x0⟩]⟩,
  ⟨"INTG_SPLIT_CTL", 0x50400, 0x0, 1, 0, 1, [⟨⟨0, 1⟩, .rw, 0x0⟩, ⟨⟨8, 7⟩, .rw, 0x0⟩]⟩,
  ⟨"INTG_SPLIT_REF", 0x50404, 0x0, 1, 0, 1, [⟨⟨0, 32⟩, .rw, 0x0⟩]⟩,
  ⟨"INTG_SPLIT_RES", 0x50408, 0x0, 1, 0, 1, [⟨⟨0, 5⟩, .rw, 0x0⟩, ⟨⟨5, 2⟩, .rw, 0x0⟩, ⟨⟨8, 2⟩, .rw, 0x0⟩, ⟨⟨31, 1⟩, .wo, 0x0⟩]⟩,
  ⟨"INTG_REMAP", 0x50100, 0x40, 11, 4, 16, [⟨⟨0, 24⟩, .rws, 0x0⟩, ⟨⟨31, 1⟩, .rws, 0x0⟩]⟩]

/-- The INTG block (offsets 0x50000 to 0x5FFFF). -/
def regsINTG : List RegDef := regsINTG0

/-- Registers of the BOOT block, part 0. -/
def regsBOOT0 : List RegDef := [
  ⟨"BOOT_CTL", 0x60000, 0x0, 1, 0, 1, [⟨⟨0, 1⟩, .rws, 0x0⟩]⟩,
  ⟨"BOOT_ISR", 0x60004, 0x0, 1, 0, 1, [⟨⟨0, 1⟩, .w1c, 0x0⟩, ⟨⟨1, 1⟩, .w1c, 0x0⟩, ⟨⟨2, 1⟩, .w1c, 0x0⟩, ⟨⟨3, 1⟩, .w1c, 0x0⟩, ⟨⟨4, 1⟩, .w1c, 0x0⟩]⟩,
  ⟨"BOOT_IER", 0x60008, 0x0, 1, 0, 1, [⟨⟨0, 5⟩, .rw, 0x0⟩]⟩,
  ⟨"BOOT_STAT", 0x6000C, 0x0, 1, 0, 1, [⟨⟨0, 2⟩, .ro, 0x0⟩, ⟨⟨2, 2⟩, .ro, 0x0⟩, ⟨⟨4, 1⟩, .ro, 0x0⟩, ⟨⟨5, 1⟩, .ro, 0x0⟩, ⟨⟨6, 2⟩, .ro, 0x0⟩, ⟨⟨8, 3⟩, .rws, 0x0⟩, ⟨⟨12, 3⟩, .ro, 0x0⟩, ⟨⟨16, 3⟩, .ro, 0x0⟩, ⟨⟨20, 3⟩, .ro, 0x0⟩]⟩,
  ⟨"BOOT_HB", 0x60010, 0x0, 1, 0, 1, [⟨⟨0, 8⟩, .rw, 0x0⟩, ⟨⟨8, 8⟩, .ro, 0x0⟩]⟩,
  ⟨"BOOT_SAFE", 0x60014, 0x0, 1, 0, 1, [⟨⟨0, 1⟩, .wo, 0x0⟩]⟩,
  ⟨"BOOT_RST", 0x60018, 0x0, 1, 0, 1, [⟨⟨0, 8⟩, .wo, 0x0⟩]⟩,
  ⟨"BOOT_RSTCAUSE", 0x6001C, 0x0, 1, 0, 1, [⟨⟨0, 2⟩, .rws, 0x0⟩]⟩,
  ⟨"BOOT_CMD", 0x60020, 0x0, 1, 0, 1, [⟨⟨0, 1⟩, .wo, 0x0⟩, ⟨⟨1, 1⟩, .wo, 0x0⟩]⟩,
  ⟨"BOOT_RECID", 0x60024, 0x0, 1, 0, 1, [⟨⟨0, 16⟩, .ro, 0x0⟩, ⟨⟨16, 16⟩, .ro, 0x0⟩]⟩,
  ⟨"BOOT_PK", 0x60040, 0x0, 1, 4, 8, [⟨⟨0, 32⟩, .rw, 0x0⟩]⟩]

/-- The BOOT block (offsets 0x60000 to 0x6FFFF). -/
def regsBOOT : List RegDef := regsBOOT0

/-- Registers of the SEQ block, part 0. -/
def regsSEQ0 : List RegDef := [
  ⟨"SEQ_CTL", 0x100000, 0x1000, 32, 0, 1, [⟨⟨0, 1⟩, .rw, 0x0⟩]⟩,
  ⟨"SEQ_STAT", 0x100004, 0x1000, 32, 0, 1, [⟨⟨0, 4⟩, .ro, 0x0⟩, ⟨⟨4, 1⟩, .ro, 0x0⟩, ⟨⟨5, 1⟩, .ro, 0x0⟩, ⟨⟨8, 9⟩, .ro, 0x0⟩, ⟨⟨17, 15⟩, .ro, 0x0⟩]⟩,
  ⟨"SEQ_FAULT", 0x100008, 0x1000, 32, 0, 1, [⟨⟨0, 8⟩, .rws, 0x0⟩, ⟨⟨8, 17⟩, .rws, 0x0⟩, ⟨⟨25, 1⟩, .rws, 0x0⟩]⟩,
  ⟨"SEQ_FAULT_SEQNO", 0x10000C, 0x1000, 32, 0, 1, [⟨⟨0, 32⟩, .rws, 0x0⟩]⟩,
  ⟨"SEQ_FAULT_S_LO", 0x100010, 0x1000, 32, 0, 1, [⟨⟨0, 32⟩, .rws, 0x0⟩]⟩,
  ⟨"SEQ_FAULT_S_HI", 0x100014, 0x1000, 32, 0, 1, [⟨⟨0, 16⟩, .rws, 0x0⟩]⟩,
  ⟨"SEQ_YDONE", 0x100018, 0x1000, 32, 0, 1, [⟨⟨0, 16⟩, .rws, 0xFFFF⟩]⟩,
  ⟨"SEQ_RING_BASE", 0x100020, 0x1000, 32, 0, 1, [⟨⟨0, 32⟩, .rw, 0x0⟩]⟩,
  ⟨"SEQ_RING_SIZE", 0x100024, 0x1000, 32, 0, 1, [⟨⟨0, 4⟩, .rw, 0x4⟩]⟩,
  ⟨"SEQ_RING_TAIL", 0x100028, 0x1000, 32, 0, 1, [⟨⟨0, 12⟩, .rw, 0x0⟩]⟩,
  ⟨"SEQ_RING_HEAD", 0x10002C, 0x1000, 32, 0, 1, [⟨⟨0, 12⟩, .rw, 0x0⟩]⟩,
  ⟨"SEQ_FEED_CFG", 0x100030, 0x1000, 32, 0, 1, [⟨⟨0, 8⟩, .rw, 0x20⟩]⟩,
  ⟨"SEQ_FEED_REFETCH", 0x100034, 0x1000, 32, 0, 1, [⟨⟨0, 32⟩, .ro, 0x0⟩]⟩,
  ⟨"SEQ_DISCARD", 0x100038, 0x1000, 32, 0, 1, [⟨⟨0, 16⟩, .ro, 0x0⟩, ⟨⟨16, 16⟩, .ro, 0x0⟩]⟩,
  ⟨"SEQ_LIB_BASE", 0x100040, 0x1000, 32, 0, 1, [⟨⟨0, 32⟩, .rw, 0x0⟩]⟩,
  ⟨"SEQ_LIB_CMD", 0x100044, 0x1000, 32, 0, 1, [⟨⟨0, 1⟩, .wo, 0x0⟩, ⟨⟨1, 1⟩, .wo, 0x0⟩]⟩,
  ⟨"SEQ_LIB_STAT", 0x100048, 0x1000, 32, 0, 1, [⟨⟨0, 1⟩, .ro, 0x0⟩, ⟨⟨1, 1⟩, .ro, 0x0⟩, ⟨⟨2, 1⟩, .w1c, 0x0⟩, ⟨⟨8, 8⟩, .ro, 0x0⟩]⟩,
  ⟨"SEQ_K", 0x100100, 0x1000, 32, 4, 16, [⟨⟨0, 32⟩, .ro, 0x0⟩]⟩]

/-- The SEQ block (offsets 0x100000 to 0x11FFFF). -/
def regsSEQ : List RegDef := regsSEQ0

/-- Registers of the GRP block, part 0. -/
def regsGRP0 : List RegDef := [
  ⟨"SEQ_GRP_CMD", 0x120000, 0x0, 1, 0, 1, [⟨⟨0, 1⟩, .wo, 0x0⟩, ⟨⟨1, 1⟩, .wo, 0x0⟩, ⟨⟨31, 1⟩, .wo, 0x0⟩]⟩,
  ⟨"SEQ_GRP_CTL", 0x120004, 0x0, 1, 0, 1, [⟨⟨0, 1⟩, .rw, 0x0⟩, ⟨⟨1, 1⟩, .rw, 0x0⟩]⟩,
  ⟨"SEQ_GRP_STAT", 0x120008, 0x0, 1, 0, 1, [⟨⟨0, 3⟩, .ro, 0x0⟩, ⟨⟨3, 1⟩, .ro, 0x0⟩, ⟨⟨4, 3⟩, .ro, 0x0⟩, ⟨⟨7, 1⟩, .rws, 0x0⟩, ⟨⟨8, 3⟩, .ro, 0x0⟩, ⟨⟨16, 16⟩, .ro, 0x0⟩]⟩,
  ⟨"SEQ_GRP_CFG", 0x12000C, 0x0, 1, 0, 1, [⟨⟨0, 4⟩, .rw, 0x0⟩, ⟨⟨16, 16⟩, .rw, 0x1⟩]⟩,
  ⟨"SEQ_GRP_LAYER", 0x120010, 0x0, 1, 0, 1, [⟨⟨0, 32⟩, .rws, 0x0⟩]⟩,
  ⟨"SEQ_GRP_PMASK", 0x120014, 0x0, 1, 0, 1, [⟨⟨0, 32⟩, .rw, 0x0⟩]⟩,
  ⟨"SEQ_GRP_YBASE", 0x120018, 0x0, 1, 0, 1, [⟨⟨0, 32⟩, .rw, 0x0⟩]⟩,
  ⟨"SEQ_GRP_YCOUNT", 0x12001C, 0x0, 1, 0, 1, [⟨⟨0, 17⟩, .rw, 0x1⟩]⟩,
  ⟨"SEQ_GRP_RESUME", 0x120020, 0x0, 1, 0, 1, [⟨⟨0, 16⟩, .rw, 0x0⟩]⟩,
  ⟨"SEQ_GRP_MSTART_FRAC", 0x120024, 0x0, 1, 0, 1, [⟨⟨0, 16⟩, .rw, 0x0⟩]⟩,
  ⟨"SEQ_GRP_MSTART_NS", 0x120028, 0x0, 1, 0, 1, [⟨⟨0, 30⟩, .rw, 0x0⟩]⟩,
  ⟨"SEQ_GRP_MSTART_SEC_LO", 0x12002C, 0x0, 1, 0, 1, [⟨⟨0, 32⟩, .rw, 0x0⟩]⟩,
  ⟨"SEQ_GRP_MSTART_SEC_HI", 0x120030, 0x0, 1, 0, 1, [⟨⟨0, 32⟩, .rw, 0x0⟩]⟩,
  ⟨"SEQ_GRP_S_LO", 0x120034, 0x0, 1, 0, 1, [⟨⟨0, 32⟩, .ro, 0x0⟩]⟩,
  ⟨"SEQ_GRP_S_HI", 0x120038, 0x0, 1, 0, 1, [⟨⟨0, 16⟩, .ro, 0x0⟩]⟩,
  ⟨"SEQ_GRP_HOLDS", 0x120040, 0x0, 1, 0, 1, [⟨⟨0, 32⟩, .ro, 0x0⟩]⟩,
  ⟨"SEQ_GRP_P_LO", 0x120044, 0x0, 1, 0, 1, [⟨⟨0, 32⟩, .ro, 0x0⟩]⟩,
  ⟨"SEQ_GRP_P_HI", 0x120048, 0x0, 1, 0, 1, [⟨⟨0, 16⟩, .ro, 0x0⟩]⟩,
  ⟨"SEQ_GRP_LASTHOLD", 0x12004C, 0x0, 1, 0, 1, [⟨⟨0, 16⟩, .ro, 0x0⟩, ⟨⟨16, 3⟩, .ro, 0x0⟩]⟩,
  ⟨"SEQ_GRP_LASTHOLD_LEN_LO", 0x120050, 0x0, 1, 0, 1, [⟨⟨0, 32⟩, .ro, 0x0⟩]⟩]

/-- Registers of the GRP block, part 1. -/
def regsGRP1 : List RegDef := [
  ⟨"SEQ_GRP_LASTHOLD_LEN_HI", 0x120054, 0x0, 1, 0, 1, [⟨⟨0, 16⟩, .ro, 0x0⟩]⟩,
  ⟨"SEQ_GRP_ISR", 0x120058, 0x0, 1, 0, 1, [⟨⟨0, 1⟩, .w1c, 0x0⟩, ⟨⟨1, 1⟩, .w1c, 0x0⟩, ⟨⟨2, 1⟩, .w1c, 0x0⟩, ⟨⟨3, 1⟩, .w1c, 0x0⟩, ⟨⟨4, 1⟩, .w1c, 0x0⟩, ⟨⟨5, 1⟩, .w1c, 0x0⟩, ⟨⟨6, 1⟩, .w1c, 0x0⟩, ⟨⟨7, 1⟩, .w1c, 0x0⟩, ⟨⟨8, 1⟩, .w1c, 0x0⟩, ⟨⟨9, 1⟩, .w1c, 0x0⟩, ⟨⟨10, 1⟩, .w1c, 0x0⟩]⟩,
  ⟨"SEQ_GRP_IER", 0x12005C, 0x0, 1, 0, 1, [⟨⟨0, 11⟩, .rw, 0x0⟩]⟩,
  ⟨"SEQ_GRP_DESC", 0x120060, 0x0, 1, 0, 1, [⟨⟨0, 32⟩, .w1c, 0x0⟩]⟩,
  ⟨"SEQ_GRP_FAULTCH", 0x120064, 0x0, 1, 0, 1, [⟨⟨0, 32⟩, .ro, 0x0⟩]⟩,
  ⟨"SEQ_EVT_BASE", 0x120070, 0x0, 1, 0, 1, [⟨⟨0, 32⟩, .rw, 0x0⟩]⟩,
  ⟨"SEQ_EVT_CTL", 0x120074, 0x0, 1, 0, 1, [⟨⟨0, 1⟩, .rw, 0x0⟩, ⟨⟨4, 5⟩, .rw, 0x6⟩, ⟨⟨9, 1⟩, .w1c, 0x0⟩]⟩,
  ⟨"SEQ_EVT_WR", 0x120078, 0x0, 1, 0, 1, [⟨⟨0, 16⟩, .ro, 0x0⟩]⟩,
  ⟨"SEQ_EVT_RD", 0x12007C, 0x0, 1, 0, 1, [⟨⟨0, 16⟩, .rw, 0x0⟩]⟩,
  ⟨"SEQ_EVT_DROP", 0x120080, 0x0, 1, 0, 1, [⟨⟨0, 32⟩, .ro, 0x0⟩]⟩,
  ⟨"SEQ_EVT_THRESH", 0x120084, 0x0, 1, 0, 1, [⟨⟨0, 16⟩, .rw, 0x1⟩]⟩,
  ⟨"SEQ_GRP_MID", 0x1200C0, 0x0, 1, 4, 16, [⟨⟨0, 16⟩, .rw, 0x0⟩]⟩]

/-- The GRP block (offsets 0x120000 to 0x12FFFF). -/
def regsGRP : List RegDef := regsGRP0 ++ regsGRP1

/-- Registers of the SRV block, part 0. -/
def regsSRV0 : List RegDef := [
  ⟨"SRV_CTL", 0x140000, 0x0, 1, 0, 1, [⟨⟨0, 1⟩, .rw, 0x0⟩, ⟨⟨31, 1⟩, .wo, 0x0⟩]⟩,
  ⟨"SRV_ISR", 0x140004, 0x0, 1, 0, 1, [⟨⟨0, 1⟩, .w1c, 0x0⟩, ⟨⟨1, 1⟩, .w1c, 0x0⟩, ⟨⟨2, 1⟩, .w1c, 0x0⟩, ⟨⟨3, 1⟩, .w1c, 0x0⟩, ⟨⟨4, 1⟩, .w1c, 0x0⟩, ⟨⟨5, 1⟩, .w1c, 0x0⟩]⟩,
  ⟨"SRV_IER", 0x140008, 0x0, 1, 0, 1, [⟨⟨0, 6⟩, .rw, 0x0⟩]⟩,
  ⟨"SRV_ISUM", 0x140010, 0x0, 1, 0, 1, [⟨⟨0, 24⟩, .ro, 0x0⟩]⟩,
  ⟨"SRV_ID_CTL", 0x140020, 0x0, 1, 0, 1, [⟨⟨0, 1⟩, .rw, 0x0⟩, ⟨⟨1, 1⟩, .rw, 0x0⟩, ⟨⟨2, 4⟩, .rw, 0x0⟩, ⟨⟨8, 7⟩, .rw, 0x0⟩]⟩,
  ⟨"SRV_ID_AMP", 0x140024, 0x0, 1, 0, 1, [⟨⟨0, 20⟩, .rw, 0x0⟩]⟩,
  ⟨"SRV_ID_STAT", 0x140028, 0x0, 1, 0, 1, [⟨⟨0, 1⟩, .ro, 0x0⟩, ⟨⟨1, 1⟩, .w1c, 0x0⟩, ⟨⟨16, 13⟩, .ro, 0x0⟩]⟩,
  ⟨"SRV_MB_SEQ", 0x140100, 0x0, 1, 32, 4, [⟨⟨0, 16⟩, .ro, 0x0⟩, ⟨⟨16, 8⟩, .ro, 0x0⟩, ⟨⟨31, 1⟩, .w1c, 0x0⟩]⟩,
  ⟨"SRV_MB_AREA", 0x140104, 0x0, 1, 32, 4, [⟨⟨0, 32⟩, .ro, 0x0⟩]⟩,
  ⟨"SRV_MB_CENT", 0x140108, 0x0, 1, 32, 4, [⟨⟨0, 16⟩, .ro, 0x0⟩, ⟨⟨16, 16⟩, .ro, 0x0⟩]⟩,
  ⟨"SRV_MB_PEAK", 0x14010C, 0x0, 1, 32, 4, [⟨⟨0, 16⟩, .ro, 0x0⟩]⟩,
  ⟨"SRV_MB_TEND_NS", 0x140110, 0x0, 1, 32, 4, [⟨⟨0, 30⟩, .ro, 0x0⟩]⟩,
  ⟨"SRV_MB_TEND_S", 0x140114, 0x0, 1, 32, 4, [⟨⟨0, 32⟩, .ro, 0x0⟩]⟩,
  ⟨"SRV_AX_MODE", 0x141000, 0x40, 96, 0, 1, [⟨⟨0, 2⟩, .rw, 0x0⟩, ⟨⟨2, 4⟩, .rw, 0x0⟩, ⟨⟨6, 1⟩, .w1c, 0x0⟩]⟩,
  ⟨"SRV_AX_STAT", 0x141004, 0x40, 96, 0, 1, [⟨⟨0, 2⟩, .ro, 0x0⟩, ⟨⟨2, 3⟩, .ro, 0x0⟩, ⟨⟨5, 1⟩, .ro, 0x0⟩, ⟨⟨6, 2⟩, .ro, 0x0⟩, ⟨⟨8, 1⟩, .ro, 0x0⟩, ⟨⟨9, 1⟩, .ro, 0x0⟩, ⟨⟨10, 1⟩, .ro, 0x0⟩, ⟨⟨11, 1⟩, .rws, 0x0⟩, ⟨⟨12, 1⟩, .ro, 0x0⟩]⟩,
  ⟨"SRV_AX_HREF", 0x141008, 0x40, 96, 0, 1, [⟨⟨0, 24⟩, .rw, 0x0⟩]⟩,
  ⟨"SRV_AX_ICMD", 0x14100C, 0x40, 96, 0, 1, [⟨⟨0, 20⟩, .rw, 0x0⟩]⟩,
  ⟨"SRV_AX_CFG", 0x141010, 0x40, 96, 0, 1, [⟨⟨0, 11⟩, .rw, 0x0⟩, ⟨⟨11, 3⟩, .rw, 0x0⟩, ⟨⟨16, 16⟩, .rw, 0x0⟩]⟩,
  ⟨"SRV_AX_TEG", 0x141014, 0x40, 96, 0, 1, [⟨⟨0, 16⟩, .rw, 0x0⟩]⟩,
  ⟨"SRV_AX_GAMMA", 0x141018, 0x40, 96, 0, 1, [⟨⟨0, 24⟩, .rw, 0x0⟩]⟩]

/-- Registers of the SRV block, part 1. -/
def regsSRV1 : List RegDef := [
  ⟨"SRV_AX_LRN", 0x14101C, 0x40, 96, 0, 1, [⟨⟨0, 16⟩, .rw, 0x0⟩, ⟨⟨16, 6⟩, .rw, 0x0⟩]⟩,
  ⟨"SRV_AX_QMAX", 0x141020, 0x40, 96, 0, 1, [⟨⟨0, 15⟩, .rw, 0x7FFF⟩]⟩,
  ⟨"SRV_AX_MEAS", 0x141024, 0x40, 96, 0, 1, [⟨⟨0, 24⟩, .ro, 0x0⟩]⟩,
  ⟨"SRV_AX_ERR", 0x141028, 0x40, 96, 0, 1, [⟨⟨0, 24⟩, .ro, 0x0⟩]⟩,
  ⟨"SRV_AX_CMD", 0x14102C, 0x40, 96, 0, 1, [⟨⟨0, 20⟩, .ro, 0x0⟩]⟩,
  ⟨"SRV_AX_LINK", 0x141030, 0x40, 96, 0, 1, [⟨⟨0, 12⟩, .ro, 0x0⟩, ⟨⟨12, 4⟩, .ro, 0x0⟩, ⟨⟨16, 16⟩, .ro, 0x0⟩]⟩,
  ⟨"SRV_AX_TRIPS", 0x141034, 0x40, 96, 0, 1, [⟨⟨0, 32⟩, .ro, 0x0⟩]⟩,
  ⟨"SRV_CH_CFG", 0x143000, 0x10, 32, 0, 1, [⟨⟨0, 13⟩, .rw, 0x0⟩, ⟨⟨13, 3⟩, .rw, 0x0⟩, ⟨⟨16, 1⟩, .rw, 0x0⟩, ⟨⟨24, 8⟩, .rw, 0x0⟩]⟩,
  ⟨"SRV_CH_STAT", 0x143004, 0x10, 32, 0, 1, [⟨⟨0, 1⟩, .ro, 0x0⟩, ⟨⟨1, 1⟩, .ro, 0x0⟩]⟩]

/-- The SRV block (offsets 0x140000 to 0x17FFFF). -/
def regsSRV : List RegDef := regsSRV0 ++ regsSRV1

/-- Registers of the LSR block, part 0. -/
def regsLSR0 : List RegDef := [
  ⟨"LSR_CTL", 0x180000, 0x0, 1, 0, 1, [⟨⟨31, 1⟩, .wo, 0x0⟩]⟩,
  ⟨"LSR_ISR", 0x180004, 0x0, 1, 0, 1, [⟨⟨0, 1⟩, .w1c, 0x0⟩, ⟨⟨1, 1⟩, .w1c, 0x0⟩, ⟨⟨2, 1⟩, .w1c, 0x0⟩, ⟨⟨3, 1⟩, .w1c, 0x0⟩]⟩,
  ⟨"LSR_IER", 0x180008, 0x0, 1, 0, 1, [⟨⟨0, 4⟩, .rw, 0x0⟩]⟩,
  ⟨"LSR_EMS", 0x180010, 0x0, 1, 0, 1, [⟨⟨0, 1⟩, .ro, 0x1⟩, ⟨⟨1, 1⟩, .ro, 0x0⟩, ⟨⟨4, 4⟩, .ro, 0x2⟩, ⟨⟨31, 1⟩, .wo, 0x0⟩]⟩,
  ⟨"LSR_EMS_CNT", 0x180014, 0x0, 1, 0, 1, [⟨⟨0, 32⟩, .rws, 0x0⟩]⟩,
  ⟨"LSR_GATE", 0x180020, 0x0, 1, 0, 1, [⟨⟨0, 32⟩, .ro, 0x0⟩]⟩,
  ⟨"LSR_RDY", 0x180024, 0x0, 1, 0, 1, [⟨⟨0, 32⟩, .ro, 0x0⟩]⟩,
  ⟨"LSR_FLT", 0x180028, 0x0, 1, 0, 1, [⟨⟨0, 32⟩, .ro, 0x0⟩]⟩,
  ⟨"LSR_CH_CFG", 0x181000, 0x80, 32, 0, 1, [⟨⟨0, 1⟩, .rw, 0x0⟩, ⟨⟨8, 8⟩, .rw, 0x4⟩]⟩,
  ⟨"LSR_CH_STAT", 0x181004, 0x80, 32, 0, 1, [⟨⟨0, 1⟩, .ro, 0x0⟩, ⟨⟨1, 1⟩, .ro, 0x0⟩, ⟨⟨2, 1⟩, .ro, 0x0⟩, ⟨⟨3, 2⟩, .ro, 0x0⟩, ⟨⟨5, 4⟩, .ro, 0x0⟩, ⟨⟨9, 1⟩, .ro, 0x0⟩, ⟨⟨10, 1⟩, .ro, 0x0⟩, ⟨⟨11, 1⟩, .ro, 0x0⟩, ⟨⟨12, 1⟩, .w1c, 0x0⟩, ⟨⟨13, 1⟩, .ro, 0x0⟩]⟩,
  ⟨"LSR_CH_MAN", 0x181008, 0x80, 32, 0, 1, [⟨⟨0, 1⟩, .rw, 0x0⟩, ⟨⟨1, 1⟩, .rw, 0x0⟩, ⟨⟨16, 16⟩, .rw, 0x0⟩]⟩,
  ⟨"LSR_CH_OUT", 0x18100C, 0x80, 32, 0, 1, [⟨⟨0, 16⟩, .ro, 0x0⟩, ⟨⟨16, 16⟩, .ro, 0x0⟩]⟩,
  ⟨"LSR_CH_CORR", 0x181010, 0x80, 32, 0, 1, [⟨⟨0, 16⟩, .ro, 0x0⟩, ⟨⟨16, 16⟩, .ro, 0x0⟩]⟩,
  ⟨"LSR_CH_PD", 0x181014, 0x80, 32, 0, 1, [⟨⟨0, 14⟩, .ro, 0x0⟩, ⟨⟨14, 1⟩, .ro, 0x0⟩, ⟨⟨16, 14⟩, .ro, 0x0⟩, ⟨⟨30, 1⟩, .ro, 0x0⟩]⟩,
  ⟨"LSR_CH_ENV", 0x181018, 0x80, 32, 0, 1, [⟨⟨0, 16⟩, .ro, 0x0⟩, ⟨⟨16, 16⟩, .ro, 0x0⟩]⟩,
  ⟨"LSR_CH_PLIM", 0x18101C, 0x80, 32, 0, 1, [⟨⟨0, 16⟩, .ro, 0x0⟩, ⟨⟨16, 16⟩, .ro, 0xFFFF⟩]⟩,
  ⟨"LSR_CH_TGT", 0x181020, 0x80, 32, 0, 1, [⟨⟨0, 16⟩, .ro, 0x0⟩, ⟨⟨16, 16⟩, .ro, 0x0⟩]⟩,
  ⟨"LSR_CH_BOUNDS", 0x181024, 0x80, 32, 0, 1, [⟨⟨0, 32⟩, .ro, 0x0⟩]⟩,
  ⟨"LSR_CH_EVENTS", 0x181028, 0x80, 32, 0, 1, [⟨⟨0, 16⟩, .ro, 0x0⟩, ⟨⟨16, 8⟩, .ro, 0x0⟩, ⟨⟨24, 8⟩, .ro, 0x0⟩]⟩,
  ⟨"LSR_CH_EVENTS2", 0x18102C, 0x80, 32, 0, 1, [⟨⟨0, 8⟩, .ro, 0x0⟩, ⟨⟨8, 8⟩, .ro, 0x0⟩]⟩]

/-- Registers of the LSR block, part 1. -/
def regsLSR1 : List RegDef := [
  ⟨"LSR_LOG_BASE", 0x181040, 0x80, 32, 0, 1, [⟨⟨0, 32⟩, .rw, 0x0⟩]⟩,
  ⟨"LSR_LOG_CTL", 0x181044, 0x80, 32, 0, 1, [⟨⟨0, 2⟩, .rw, 0x0⟩, ⟨⟨2, 3⟩, .rw, 0x0⟩, ⟨⟨5, 5⟩, .rw, 0x4⟩, ⟨⟨16, 4⟩, .rw, 0x8⟩]⟩,
  ⟨"LSR_LOG_WR", 0x181048, 0x80, 32, 0, 1, [⟨⟨0, 20⟩, .ro, 0x0⟩]⟩,
  ⟨"LSR_LOG_RD", 0x18104C, 0x80, 32, 0, 1, [⟨⟨0, 20⟩, .rw, 0x0⟩]⟩,
  ⟨"LSR_LOG_DROP", 0x181050, 0x80, 32, 0, 1, [⟨⟨0, 32⟩, .ro, 0x0⟩]⟩]

/-- The LSR block (offsets 0x180000 to 0x1BFFFF). -/
def regsLSR : List RegDef := regsLSR0 ++ regsLSR1

/-- Registers of the STI block, part 0. -/
def regsSTI0 : List RegDef := [
  ⟨"STI_CTL", 0x1C0000, 0x0, 1, 0, 1, [⟨⟨0, 1⟩, .rw, 0x0⟩, ⟨⟨31, 1⟩, .wo, 0x0⟩]⟩,
  ⟨"STI_ISR", 0x1C0004, 0x0, 1, 0, 1, [⟨⟨0, 1⟩, .w1c, 0x0⟩, ⟨⟨1, 1⟩, .w1c, 0x0⟩, ⟨⟨2, 1⟩, .w1c, 0x0⟩, ⟨⟨3, 1⟩, .w1c, 0x0⟩, ⟨⟨4, 1⟩, .w1c, 0x0⟩]⟩,
  ⟨"STI_IER", 0x1C0008, 0x0, 1, 0, 1, [⟨⟨0, 5⟩, .rw, 0x0⟩]⟩,
  ⟨"STI_AGREE_MAX", 0x1C000C, 0x0, 1, 0, 1, [⟨⟨0, 16⟩, .rws, 0x64⟩]⟩,
  ⟨"STI_TOKDROP", 0x1C0010, 0x0, 1, 0, 1, [⟨⟨0, 16⟩, .ro, 0x0⟩, ⟨⟨16, 16⟩, .ro, 0x0⟩]⟩,
  ⟨"STI_PT_AGREE", 0x1C0020, 0x0, 1, 4, 8, [⟨⟨0, 16⟩, .ro, 0x0⟩, ⟨⟨16, 1⟩, .ro, 0x0⟩, ⟨⟨17, 1⟩, .ro, 0x0⟩]⟩,
  ⟨"STI_CH_STAT", 0x1C1000, 0x40, 32, 0, 1, [⟨⟨0, 3⟩, .ro, 0x0⟩, ⟨⟨8, 4⟩, .ro, 0x0⟩, ⟨⟨16, 1⟩, .ro, 0x0⟩]⟩,
  ⟨"STI_CH_HANDS", 0x1C1004, 0x40, 32, 0, 1, [⟨⟨0, 32⟩, .ro, 0x0⟩]⟩,
  ⟨"STI_CH_FB", 0x1C1008, 0x40, 32, 0, 1, [⟨⟨0, 16⟩, .ro, 0x0⟩, ⟨⟨16, 16⟩, .ro, 0x0⟩]⟩,
  ⟨"STI_CH_TOKERR", 0x1C100C, 0x40, 32, 0, 1, [⟨⟨0, 8⟩, .ro, 0x0⟩, ⟨⟨8, 8⟩, .ro, 0x0⟩, ⟨⟨16, 8⟩, .ro, 0x0⟩]⟩,
  ⟨"STI_CH_CLAMP", 0x1C1010, 0x40, 32, 0, 1, [⟨⟨0, 32⟩, .ro, 0x0⟩]⟩,
  ⟨"STI_CH_LASTFB", 0x1C1014, 0x40, 32, 0, 1, [⟨⟨0, 16⟩, .ro, 0x0⟩, ⟨⟨16, 3⟩, .ro, 0x0⟩, ⟨⟨19, 1⟩, .ro, 0x0⟩]⟩]

/-- The STI block (offsets 0x1C0000 to 0x1FFFFF). -/
def regsSTI : List RegDef := regsSTI0

/-- Registers of the HOOP block, part 0. -/
def regsHOOP0 : List RegDef := [
  ⟨"HOOP_CTL", 0x200000, 0x0, 1, 0, 1, [⟨⟨0, 4⟩, .rw, 0xF⟩, ⟨⟨4, 1⟩, .rw, 0x0⟩, ⟨⟨5, 1⟩, .rw, 0x0⟩, ⟨⟨31, 1⟩, .wo, 0x0⟩]⟩,
  ⟨"HOOP_ID", 0x200004, 0x0, 1, 0, 1, [⟨⟨0, 16⟩, .rws, 0x0⟩]⟩,
  ⟨"HOOP_ISR", 0x200008, 0x0, 1, 0, 1, [⟨⟨0, 1⟩, .w1c, 0x0⟩, ⟨⟨1, 1⟩, .w1c, 0x0⟩, ⟨⟨2, 1⟩, .w1c, 0x0⟩, ⟨⟨3, 1⟩, .w1c, 0x0⟩, ⟨⟨4, 1⟩, .w1c, 0x0⟩, ⟨⟨5, 1⟩, .w1c, 0x0⟩]⟩,
  ⟨"HOOP_IER", 0x20000C, 0x0, 1, 0, 1, [⟨⟨0, 6⟩, .rw, 0x0⟩]⟩,
  ⟨"HOOP_RRA_CMD", 0x200014, 0x0, 1, 0, 1, [⟨⟨0, 16⟩, .rw, 0x0⟩, ⟨⟨16, 1⟩, .rw, 0x0⟩, ⟨⟨17, 1⟩, .ro, 0x0⟩, ⟨⟨18, 3⟩, .ro, 0x0⟩, ⟨⟨31, 1⟩, .wo, 0x0⟩]⟩,
  ⟨"HOOP_RRA_ADDR", 0x200018, 0x0, 1, 0, 1, [⟨⟨0, 26⟩, .rw, 0x0⟩]⟩,
  ⟨"HOOP_RRA_DATA", 0x20001C, 0x0, 1, 0, 1, [⟨⟨0, 32⟩, .rw, 0x0⟩]⟩,
  ⟨"HOOP_BULK_WIN_BASE", 0x200030, 0x0, 1, 0, 1, [⟨⟨0, 32⟩, .rw, 0x0⟩]⟩,
  ⟨"HOOP_BULK_WIN_SIZE", 0x200034, 0x0, 1, 0, 1, [⟨⟨0, 32⟩, .rw, 0x0⟩]⟩,
  ⟨"HOOP_DROP", 0x200040, 0x0, 1, 0, 1, [⟨⟨0, 16⟩, .ro, 0x0⟩, ⟨⟨16, 16⟩, .ro, 0x0⟩]⟩,
  ⟨"HOOP_ROUTE", 0x200100, 0x0, 1, 4, 64, [⟨⟨0, 16⟩, .rws, 0x0⟩, ⟨⟨16, 5⟩, .rws, 0x0⟩, ⟨⟨21, 3⟩, .rws, 0x0⟩, ⟨⟨24, 3⟩, .rws, 0x0⟩, ⟨⟨27, 1⟩, .rws, 0x0⟩, ⟨⟨31, 1⟩, .rws, 0x0⟩]⟩,
  ⟨"HOOP_ROUTE_DEF", 0x200200, 0x0, 1, 0, 1, [⟨⟨0, 3⟩, .rws, 0x0⟩, ⟨⟨31, 1⟩, .rws, 0x0⟩]⟩,
  ⟨"HOOP_BK_LOC", 0x200800, 0x20, 4, 0, 1, [⟨⟨0, 32⟩, .rw, 0x0⟩]⟩,
  ⟨"HOOP_BK_REM", 0x200804, 0x20, 4, 0, 1, [⟨⟨0, 32⟩, .rw, 0x0⟩]⟩,
  ⟨"HOOP_BK_LEN", 0x200808, 0x20, 4, 0, 1, [⟨⟨0, 16⟩, .rw, 0x0⟩, ⟨⟨16, 16⟩, .rw, 0x0⟩]⟩,
  ⟨"HOOP_BK_CTL", 0x20080C, 0x20, 4, 0, 1, [⟨⟨0, 1⟩, .wo, 0x0⟩, ⟨⟨1, 1⟩, .ro, 0x0⟩, ⟨⟨2, 3⟩, .ro, 0x0⟩]⟩,
  ⟨"HOOP_PT_CFG", 0x201000, 0x40, 8, 0, 1, [⟨⟨0, 1⟩, .rw, 0x0⟩, ⟨⟨1, 2⟩, .rw, 0x0⟩, ⟨⟨3, 2⟩, .rw, 0x0⟩, ⟨⟨5, 1⟩, .rw, 0x0⟩]⟩,
  ⟨"HOOP_PT_STAT", 0x201004, 0x40, 8, 0, 1, [⟨⟨0, 2⟩, .ro, 0x0⟩, ⟨⟨2, 1⟩, .ro, 0x0⟩, ⟨⟨16, 16⟩, .ro, 0x0⟩]⟩,
  ⟨"HOOP_PT_ASYM", 0x201008, 0x40, 8, 0, 1, [⟨⟨0, 16⟩, .rws, 0x0⟩]⟩,
  ⟨"HOOP_PT_DELAY", 0x20100C, 0x40, 8, 0, 1, [⟨⟨0, 24⟩, .ro, 0x0⟩]⟩]

/-- Registers of the HOOP block, part 1. -/
def regsHOOP1 : List RegDef := [
  ⟨"HOOP_PT_ERR", 0x201010, 0x40, 8, 0, 1, [⟨⟨0, 16⟩, .ro, 0x0⟩, ⟨⟨16, 16⟩, .ro, 0x0⟩]⟩]

/-- The HOOP block (offsets 0x200000 to 0x20FFFF). -/
def regsHOOP : List RegDef := regsHOOP0 ++ regsHOOP1

/-- Registers of the TIM block, part 0. -/
def regsTIM0 : List RegDef := [
  ⟨"TIM_MT_FRAC", 0x210000, 0x0, 1, 0, 1, [⟨⟨0, 16⟩, .ro, 0x0⟩]⟩,
  ⟨"TIM_MT_NS", 0x210004, 0x0, 1, 0, 1, [⟨⟨0, 30⟩, .ro, 0x0⟩]⟩,
  ⟨"TIM_MT_SEC_LO", 0x210008, 0x0, 1, 0, 1, [⟨⟨0, 32⟩, .ro, 0x0⟩]⟩,
  ⟨"TIM_MT_SEC_HI", 0x21000C, 0x0, 1, 0, 1, [⟨⟨0, 32⟩, .ro, 0x0⟩]⟩,
  ⟨"TIM_SEL", 0x210010, 0x0, 1, 0, 1, [⟨⟨0, 1⟩, .rws, 0x0⟩, ⟨⟨1, 1⟩, .rws, 0x1⟩, ⟨⟨8, 1⟩, .ro, 0x0⟩, ⟨⟨9, 1⟩, .ro, 0x0⟩, ⟨⟨16, 16⟩, .rws, 0x64⟩]⟩,
  ⟨"TIM_ISR", 0x210014, 0x0, 1, 0, 1, [⟨⟨0, 1⟩, .w1c, 0x0⟩, ⟨⟨1, 1⟩, .w1c, 0x0⟩, ⟨⟨2, 1⟩, .w1c, 0x0⟩, ⟨⟨3, 1⟩, .w1c, 0x0⟩, ⟨⟨4, 1⟩, .w1c, 0x0⟩, ⟨⟨5, 1⟩, .w1c, 0x0⟩, ⟨⟨6, 1⟩, .w1c, 0x0⟩]⟩,
  ⟨"TIM_IER", 0x210018, 0x0, 1, 0, 1, [⟨⟨0, 7⟩, .rw, 0x0⟩]⟩,
  ⟨"TIM_CAL_FRAC", 0x210200, 0x0, 1, 0, 1, [⟨⟨0, 16⟩, .ro, 0x0⟩]⟩,
  ⟨"TIM_CAL_NS", 0x210204, 0x0, 1, 0, 1, [⟨⟨0, 30⟩, .ro, 0x0⟩]⟩,
  ⟨"TIM_CAL_SEC_LO", 0x210208, 0x0, 1, 0, 1, [⟨⟨0, 32⟩, .ro, 0x0⟩]⟩,
  ⟨"TIM_CAL_SEC_HI", 0x21020C, 0x0, 1, 0, 1, [⟨⟨0, 32⟩, .ro, 0x0⟩]⟩,
  ⟨"TIM_CAL_INC", 0x210210, 0x0, 1, 0, 1, [⟨⟨0, 32⟩, .rws, 0xCCCCCCCD⟩]⟩,
  ⟨"TIM_CAL_ADJ", 0x210214, 0x0, 1, 0, 1, [⟨⟨0, 32⟩, .rw, 0x0⟩]⟩,
  ⟨"TIM_CAL_SET_NS", 0x210218, 0x0, 1, 0, 1, [⟨⟨0, 30⟩, .rw, 0x0⟩]⟩,
  ⟨"TIM_CAL_SET_SEC", 0x21021C, 0x0, 1, 0, 1, [⟨⟨0, 32⟩, .rw, 0x0⟩]⟩,
  ⟨"TIM_CAL_CMD", 0x210220, 0x0, 1, 0, 1, [⟨⟨0, 1⟩, .wo, 0x0⟩, ⟨⟨1, 1⟩, .wo, 0x0⟩, ⟨⟨8, 1⟩, .ro, 0x0⟩, ⟨⟨9, 1⟩, .ro, 0x0⟩]⟩,
  ⟨"TIM_PPS_CFG", 0x210300, 0x0, 1, 0, 1, [⟨⟨0, 1⟩, .rw, 0x0⟩, ⟨⟨1, 1⟩, .rw, 0x0⟩, ⟨⟨2, 1⟩, .rw, 0x0⟩, ⟨⟨3, 19⟩, .rw, 0x186A0⟩, ⟨⟨24, 8⟩, .rw, 0x0⟩]⟩,
  ⟨"TIM_PPSIN_MT", 0x210304, 0x0, 1, 0, 1, [⟨⟨0, 30⟩, .ro, 0x0⟩]⟩,
  ⟨"TIM_PPSIN_CAL", 0x210308, 0x0, 1, 0, 1, [⟨⟨0, 30⟩, .ro, 0x0⟩]⟩,
  ⟨"TIM_D_CFG", 0x210100, 0x40, 2, 0, 1, [⟨⟨0, 2⟩, .rws, 0x0⟩, ⟨⟨2, 3⟩, .rws, 0x0⟩, ⟨⟨5, 1⟩, .rws, 0x1⟩]⟩]

/-- Registers of the TIM block, part 1. -/
def regsTIM1 : List RegDef := [
  ⟨"TIM_D_GAIN", 0x210104, 0x40, 2, 0, 1, [⟨⟨0, 16⟩, .rws, 0x800⟩, ⟨⟨16, 16⟩, .rws, 0xCD⟩]⟩,
  ⟨"TIM_D_ILIM", 0x210108, 0x40, 2, 0, 1, [⟨⟨0, 32⟩, .rws, 0x30D4000⟩]⟩,
  ⟨"TIM_D_THR", 0x21010C, 0x40, 2, 0, 1, [⟨⟨0, 16⟩, .rws, 0x64⟩, ⟨⟨16, 16⟩, .rws, 0x3E8⟩]⟩,
  ⟨"TIM_D_STAT", 0x210110, 0x40, 2, 0, 1, [⟨⟨0, 2⟩, .ro, 0x0⟩]⟩,
  ⟨"TIM_D_THETA", 0x210114, 0x40, 2, 0, 1, [⟨⟨0, 32⟩, .ro, 0x0⟩]⟩,
  ⟨"TIM_D_RATE", 0x210118, 0x40, 2, 0, 1, [⟨⟨0, 32⟩, .ro, 0x0⟩]⟩,
  ⟨"TIM_D_DELTA", 0x21011C, 0x40, 2, 0, 1, [⟨⟨0, 32⟩, .ro, 0x0⟩]⟩]

/-- The TIM block (offsets 0x210000 to 0x21FFFF). -/
def regsTIM : List RegDef := regsTIM0 ++ regsTIM1

/-- Registers of the LANE block, part 0. -/
def regsLANE0 : List RegDef := [
  ⟨"LANE_CTL", 0x240000, 0x0, 1, 0, 1, [⟨⟨31, 1⟩, .wo, 0x0⟩]⟩,
  ⟨"LANE_ISR", 0x240004, 0x0, 1, 0, 1, [⟨⟨0, 1⟩, .w1c, 0x0⟩, ⟨⟨1, 1⟩, .w1c, 0x0⟩, ⟨⟨2, 1⟩, .w1c, 0x0⟩, ⟨⟨3, 1⟩, .w1c, 0x0⟩]⟩,
  ⟨"LANE_IER", 0x240008, 0x0, 1, 0, 1, [⟨⟨0, 4⟩, .rw, 0x0⟩]⟩,
  ⟨"LANE_STAT", 0x241000, 0x40, 40, 0, 1, [⟨⟨0, 4⟩, .ro, 0x0⟩, ⟨⟨4, 1⟩, .ro, 0x0⟩, ⟨⟨5, 1⟩, .ro, 0x0⟩, ⟨⟨8, 7⟩, .ro, 0x0⟩]⟩,
  ⟨"LANE_TXEQ", 0x241004, 0x40, 40, 0, 1, [⟨⟨0, 6⟩, .rws, 0x0⟩, ⟨⟨8, 6⟩, .rws, 0x30⟩, ⟨⟨16, 6⟩, .rws, 0x8⟩]⟩,
  ⟨"LANE_RXEQ", 0x241008, 0x40, 40, 0, 1, [⟨⟨0, 1⟩, .rw, 0x1⟩, ⟨⟨8, 4⟩, .ro, 0x0⟩, ⟨⟨16, 8⟩, .ro, 0x0⟩]⟩,
  ⟨"LANE_PM", 0x24100C, 0x40, 40, 0, 1, [⟨⟨0, 2⟩, .rw, 0x0⟩]⟩,
  ⟨"LANE_TRAIN", 0x241010, 0x40, 40, 0, 1, [⟨⟨0, 8⟩, .rw, 0x64⟩, ⟨⟨8, 8⟩, .rw, 0x14⟩]⟩,
  ⟨"LANE_ERR", 0x241014, 0x40, 40, 0, 1, [⟨⟨0, 16⟩, .ro, 0x0⟩, ⟨⟨16, 8⟩, .ro, 0x0⟩, ⟨⟨24, 8⟩, .ro, 0x0⟩]⟩,
  ⟨"LANE_TEST", 0x241018, 0x40, 40, 0, 1, [⟨⟨0, 3⟩, .rw, 0x0⟩, ⟨⟨3, 1⟩, .rw, 0x0⟩, ⟨⟨4, 1⟩, .rw, 0x0⟩, ⟨⟨5, 2⟩, .rw, 0x0⟩, ⟨⟨8, 4⟩, .rw, 0x0⟩, ⟨⟨12, 1⟩, .ro, 0x0⟩, ⟨⟨31, 1⟩, .wo, 0x0⟩]⟩,
  ⟨"LANE_TEST_WORD", 0x24101C, 0x40, 40, 0, 1, [⟨⟨0, 32⟩, .rw, 0x0⟩]⟩,
  ⟨"LANE_TEST_ERRS", 0x241020, 0x40, 40, 0, 1, [⟨⟨0, 32⟩, .ro, 0x0⟩]⟩,
  ⟨"LANE_TEST_BITS_LO", 0x241024, 0x40, 40, 0, 1, [⟨⟨0, 32⟩, .ro, 0x0⟩]⟩,
  ⟨"LANE_TEST_BITS_HI", 0x241028, 0x40, 40, 0, 1, [⟨⟨0, 16⟩, .ro, 0x0⟩]⟩]

/-- The LANE block (offsets 0x240000 to 0x24FFFF). -/
def regsLANE : List RegDef := regsLANE0

/-- Registers of the HL block, part 0. -/
def regsHL0 : List RegDef := [
  ⟨"HL_CTL", 0x250000, 0x0, 1, 0, 1, [⟨⟨31, 1⟩, .wo, 0x0⟩]⟩,
  ⟨"HL_ISR", 0x250004, 0x0, 1, 0, 1, [⟨⟨0, 1⟩, .w1c, 0x0⟩, ⟨⟨1, 1⟩, .w1c, 0x0⟩, ⟨⟨2, 1⟩, .w1c, 0x0⟩, ⟨⟨3, 1⟩, .w1c, 0x0⟩, ⟨⟨4, 1⟩, .w1c, 0x0⟩]⟩,
  ⟨"HL_IER", 0x250008, 0x0, 1, 0, 1, [⟨⟨0, 5⟩, .rw, 0x0⟩]⟩,
  ⟨"HL_CH_CFG", 0x251000, 0x40, 32, 0, 1, [⟨⟨0, 1⟩, .rws, 0x1⟩, ⟨⟨1, 1⟩, .rws, 0x0⟩]⟩,
  ⟨"HL_CH_STAT", 0x251004, 0x40, 32, 0, 1, [⟨⟨0, 1⟩, .ro, 0x0⟩, ⟨⟨1, 1⟩, .ro, 0x0⟩, ⟨⟨2, 1⟩, .ro, 0x0⟩, ⟨⟨16, 16⟩, .ro, 0x0⟩]⟩,
  ⟨"HL_CH_CAP", 0x251008, 0x40, 32, 0, 1, [⟨⟨0, 16⟩, .ro, 0x0⟩, ⟨⟨16, 3⟩, .ro, 0x0⟩, ⟨⟨24, 8⟩, .ro, 0x0⟩]⟩,
  ⟨"HL_CH_AUX", 0x25100C, 0x40, 32, 0, 1, [⟨⟨0, 8⟩, .rw, 0x0⟩, ⟨⟨8, 1⟩, .rw, 0x0⟩, ⟨⟨9, 1⟩, .ro, 0x0⟩, ⟨⟨10, 2⟩, .ro, 0x0⟩, ⟨⟨31, 1⟩, .wo, 0x0⟩]⟩,
  ⟨"HL_CH_AUXDATA", 0x251010, 0x40, 32, 0, 1, [⟨⟨0, 16⟩, .rw, 0x0⟩]⟩,
  ⟨"HL_CH_ERR", 0x251014, 0x40, 32, 0, 1, [⟨⟨0, 16⟩, .ro, 0x0⟩, ⟨⟨16, 16⟩, .ro, 0x0⟩]⟩,
  ⟨"HL_CH_TEMP", 0x251018, 0x40, 32, 0, 1, [⟨⟨0, 16⟩, .ro, 0x0⟩, ⟨⟨16, 8⟩, .ro, 0x0⟩, ⟨⟨24, 8⟩, .ro, 0x0⟩]⟩,
  ⟨"HL_CH_CUR0", 0x25101C, 0x40, 32, 0, 1, [⟨⟨0, 16⟩, .ro, 0x0⟩, ⟨⟨16, 16⟩, .ro, 0x0⟩]⟩,
  ⟨"HL_CH_CUR1", 0x251020, 0x40, 32, 0, 1, [⟨⟨0, 16⟩, .ro, 0x0⟩]⟩]

/-- The HL block (offsets 0x250000 to 0x25FFFF). -/
def regsHL : List RegDef := regsHL0

/-- Registers of the PCI block, part 0. -/
def regsPCI0 : List RegDef := [
  ⟨"PCI_STAT", 0x280004, 0x0, 1, 0, 1, [⟨⟨0, 4⟩, .ro, 0x0⟩, ⟨⟨4, 4⟩, .ro, 0x0⟩, ⟨⟨8, 6⟩, .ro, 0x0⟩, ⟨⟨14, 1⟩, .ro, 0x0⟩]⟩,
  ⟨"PCI_ISR", 0x280008, 0x0, 1, 0, 1, [⟨⟨0, 1⟩, .w1c, 0x0⟩, ⟨⟨1, 1⟩, .w1c, 0x0⟩, ⟨⟨2, 1⟩, .w1c, 0x0⟩, ⟨⟨3, 1⟩, .w1c, 0x0⟩]⟩,
  ⟨"PCI_IER", 0x28000C, 0x0, 1, 0, 1, [⟨⟨0, 4⟩, .rw, 0x0⟩]⟩,
  ⟨"PCI_BAR2_WIN", 0x280010, 0x0, 1, 0, 1, [⟨⟨0, 2⟩, .rw, 0x0⟩]⟩,
  ⟨"PCI_FWIRQ", 0x280014, 0x0, 1, 0, 1, [⟨⟨0, 26⟩, .w1c, 0x0⟩]⟩,
  ⟨"PCI_BAR2ERR_ADDR", 0x280018, 0x0, 1, 0, 1, [⟨⟨0, 32⟩, .ro, 0x0⟩]⟩]

/-- The PCI block (offsets 0x280000 to 0x28FFFF). -/
def regsPCI : List RegDef := regsPCI0

/-- Registers of the ETH block, part 0. -/
def regsETH0 : List RegDef := [
  ⟨"ETH_CTL", 0x290000, 0x0, 1, 0, 1, [⟨⟨31, 1⟩, .wo, 0x0⟩]⟩,
  ⟨"ETH_ISR", 0x290004, 0x0, 1, 0, 1, [⟨⟨0, 1⟩, .w1c, 0x0⟩, ⟨⟨8, 1⟩, .w1c, 0x0⟩, ⟨⟨1, 1⟩, .w1c, 0x0⟩, ⟨⟨9, 1⟩, .w1c, 0x0⟩, ⟨⟨2, 1⟩, .w1c, 0x0⟩, ⟨⟨10, 1⟩, .w1c, 0x0⟩, ⟨⟨3, 1⟩, .w1c, 0x0⟩, ⟨⟨11, 1⟩, .w1c, 0x0⟩, ⟨⟨4, 1⟩, .w1c, 0x0⟩, ⟨⟨12, 1⟩, .w1c, 0x0⟩]⟩,
  ⟨"ETH_IER", 0x290008, 0x0, 1, 0, 1, [⟨⟨0, 1⟩, .rw, 0x0⟩, ⟨⟨8, 1⟩, .rw, 0x0⟩, ⟨⟨1, 1⟩, .rw, 0x0⟩, ⟨⟨9, 1⟩, .rw, 0x0⟩, ⟨⟨2, 1⟩, .rw, 0x0⟩, ⟨⟨10, 1⟩, .rw, 0x0⟩, ⟨⟨3, 1⟩, .rw, 0x0⟩, ⟨⟨11, 1⟩, .rw, 0x0⟩, ⟨⟨4, 1⟩, .rw, 0x0⟩, ⟨⟨12, 1⟩, .rw, 0x0⟩]⟩,
  ⟨"ETH_PT_CFG", 0x291000, 0x100, 2, 0, 1, [⟨⟨0, 1⟩, .rw, 0x0⟩, ⟨⟨1, 2⟩, .rw, 0x0⟩, ⟨⟨3, 1⟩, .rw, 0x0⟩, ⟨⟨4, 1⟩, .rw, 0x1⟩, ⟨⟨5, 1⟩, .rw, 0x1⟩, ⟨⟨6, 1⟩, .rw, 0x0⟩, ⟨⟨7, 1⟩, .rw, 0x0⟩]⟩,
  ⟨"ETH_PT_STAT", 0x291004, 0x100, 2, 0, 1, [⟨⟨0, 1⟩, .ro, 0x0⟩, ⟨⟨1, 1⟩, .ro, 0x0⟩, ⟨⟨2, 1⟩, .ro, 0x0⟩, ⟨⟨3, 1⟩, .ro, 0x0⟩]⟩,
  ⟨"ETH_PT_MAC_LO", 0x291008, 0x100, 2, 0, 1, [⟨⟨0, 32⟩, .rws, 0x0⟩]⟩,
  ⟨"ETH_PT_MAC_HI", 0x29100C, 0x100, 2, 0, 1, [⟨⟨0, 16⟩, .rws, 0x0⟩]⟩,
  ⟨"ETH_PT_TXBASE", 0x291010, 0x100, 2, 0, 1, [⟨⟨0, 32⟩, .rw, 0x0⟩]⟩,
  ⟨"ETH_PT_RXBASE", 0x291014, 0x100, 2, 0, 1, [⟨⟨0, 32⟩, .rw, 0x0⟩]⟩,
  ⟨"ETH_PT_RSIZE", 0x291018, 0x100, 2, 0, 1, [⟨⟨0, 4⟩, .rw, 0x4⟩, ⟨⟨4, 4⟩, .rw, 0x4⟩]⟩,
  ⟨"ETH_PT_TXTAIL", 0x29101C, 0x100, 2, 0, 1, [⟨⟨0, 12⟩, .rw, 0x0⟩]⟩,
  ⟨"ETH_PT_TXHEAD", 0x291020, 0x100, 2, 0, 1, [⟨⟨0, 12⟩, .rw, 0x0⟩]⟩,
  ⟨"ETH_PT_RXTAIL", 0x291024, 0x100, 2, 0, 1, [⟨⟨0, 12⟩, .rw, 0x0⟩]⟩,
  ⟨"ETH_PT_RXHEAD", 0x291028, 0x100, 2, 0, 1, [⟨⟨0, 12⟩, .rw, 0x0⟩]⟩,
  ⟨"ETH_PT_TSLAT", 0x29102C, 0x100, 2, 0, 1, [⟨⟨0, 16⟩, .rws, 0x0⟩, ⟨⟨16, 16⟩, .rws, 0x0⟩]⟩,
  ⟨"ETH_PT_DROP", 0x291030, 0x100, 2, 0, 1, [⟨⟨0, 16⟩, .ro, 0x0⟩, ⟨⟨16, 16⟩, .ro, 0x0⟩]⟩,
  ⟨"ETH_PT_I2CCFG", 0x291040, 0x100, 2, 0, 1, [⟨⟨0, 7⟩, .rw, 0x0⟩, ⟨⟨7, 2⟩, .rw, 0x0⟩, ⟨⟨9, 1⟩, .rw, 0x1⟩]⟩,
  ⟨"ETH_PT_I2CCMD", 0x291044, 0x100, 2, 0, 1, [⟨⟨0, 16⟩, .rw, 0x0⟩, ⟨⟨16, 2⟩, .rw, 0x0⟩, ⟨⟨18, 1⟩, .rw, 0x0⟩, ⟨⟨19, 1⟩, .ro, 0x0⟩, ⟨⟨20, 3⟩, .ro, 0x0⟩, ⟨⟨31, 1⟩, .wo, 0x0⟩]⟩,
  ⟨"ETH_PT_I2CDATA", 0x291048, 0x100, 2, 0, 1, [⟨⟨0, 32⟩, .rw, 0x0⟩]⟩]

/-- The ETH block (offsets 0x290000 to 0x29FFFF). -/
def regsETH : List RegDef := regsETH0

/-- Registers of the DMA block, part 0. -/
def regsDMA0 : List RegDef := [
  ⟨"DMA_CTL", 0x2C0000, 0x0, 1, 0, 1, [⟨⟨31, 1⟩, .wo, 0x0⟩]⟩,
  ⟨"DMA_ISR", 0x2C0004, 0x0, 1, 0, 1, [⟨⟨0, 16⟩, .w1c, 0x0⟩, ⟨⟨16, 16⟩, .w1c, 0x0⟩]⟩,
  ⟨"DMA_IER", 0x2C0008, 0x0, 1, 0, 1, [⟨⟨0, 16⟩, .rw, 0x0⟩, ⟨⟨16, 16⟩, .rw, 0x0⟩]⟩,
  ⟨"DMA_CH_CFG", 0x2C1000, 0x40, 16, 0, 1, [⟨⟨0, 1⟩, .rw, 0x0⟩, ⟨⟨1, 1⟩, .rw, 0x0⟩, ⟨⟨2, 1⟩, .rw, 0x0⟩, ⟨⟨4, 4⟩, .rw, 0x4⟩, ⟨⟨8, 8⟩, .rw, 0x10⟩]⟩,
  ⟨"DMA_CH_STAT", 0x2C1004, 0x40, 16, 0, 1, [⟨⟨0, 3⟩, .ro, 0x0⟩, ⟨⟨8, 8⟩, .ro, 0x0⟩]⟩,
  ⟨"DMA_CH_CMD", 0x2C1008, 0x40, 16, 0, 1, [⟨⟨0, 1⟩, .wo, 0x0⟩]⟩,
  ⟨"DMA_CH_RING_LO", 0x2C100C, 0x40, 16, 0, 1, [⟨⟨0, 32⟩, .rw, 0x0⟩]⟩,
  ⟨"DMA_CH_RING_HI", 0x2C1010, 0x40, 16, 0, 1, [⟨⟨0, 32⟩, .rw, 0x0⟩]⟩,
  ⟨"DMA_CH_TAIL", 0x2C1014, 0x40, 16, 0, 1, [⟨⟨0, 12⟩, .rw, 0x0⟩]⟩,
  ⟨"DMA_CH_HEAD", 0x2C1018, 0x40, 16, 0, 1, [⟨⟨0, 12⟩, .rw, 0x0⟩]⟩]

/-- The DMA block (offsets 0x2C0000 to 0x2FFFFF). -/
def regsDMA : List RegDef := regsDMA0

/-- Registers of the DDR block, part 0. -/
def regsDDR0 : List RegDef := [
  ⟨"DDR_CTL", 0x300000, 0x0, 1, 0, 1, [⟨⟨0, 1⟩, .wo, 0x0⟩, ⟨⟨1, 1⟩, .rw, 0x0⟩, ⟨⟨31, 1⟩, .wo, 0x0⟩]⟩,
  ⟨"DDR_CFG", 0x300004, 0x0, 1, 0, 1, [⟨⟨0, 2⟩, .rws, 0x2⟩, ⟨⟨2, 2⟩, .rws, 0x2⟩, ⟨⟨4, 1⟩, .rws, 0x0⟩]⟩,
  ⟨"DDR_STAT", 0x300008, 0x0, 1, 0, 1, [⟨⟨0, 1⟩, .ro, 0x0⟩, ⟨⟨1, 1⟩, .ro, 0x0⟩, ⟨⟨2, 1⟩, .w1c, 0x0⟩, ⟨⟨3, 1⟩, .ro, 0x0⟩, ⟨⟨4, 4⟩, .ro, 0x0⟩, ⟨⟨16, 9⟩, .ro, 0x0⟩]⟩,
  ⟨"DDR_ECC_CFG", 0x300010, 0x0, 1, 0, 1, [⟨⟨0, 1⟩, .rw, 0x1⟩]⟩,
  ⟨"DDR_ECC_CE", 0x300014, 0x0, 1, 0, 1, [⟨⟨0, 32⟩, .rws, 0x0⟩]⟩,
  ⟨"DDR_ECC_UE", 0x300018, 0x0, 1, 0, 1, [⟨⟨0, 16⟩, .rws, 0x0⟩]⟩,
  ⟨"DDR_ECC_ADDR", 0x30001C, 0x0, 1, 0, 1, [⟨⟨0, 32⟩, .rws, 0x0⟩]⟩,
  ⟨"DDR_PANIC", 0x300020, 0x0, 1, 0, 1, [⟨⟨0, 3⟩, .ro, 0x0⟩, ⟨⟨8, 24⟩, .ro, 0x0⟩]⟩,
  ⟨"DDR_TRAIN", 0x300024, 0x0, 1, 0, 1, [⟨⟨0, 11⟩, .ro, 0x0⟩, ⟨⟨16, 16⟩, .ro, 0x0⟩]⟩,
  ⟨"DDR_QUAL", 0x300030, 0x0, 1, 4, 4, [⟨⟨0, 8⟩, .ro, 0x0⟩, ⟨⟨8, 8⟩, .ro, 0x0⟩]⟩]

/-- The DDR block (offsets 0x300000 to 0x33FFFF). -/
def regsDDR : List RegDef := regsDDR0

/-- Registers of the CAM block, part 0. -/
def regsCAM0 : List RegDef := [
  ⟨"CAM_CTL", 0x340000, 0x0, 1, 0, 1, [⟨⟨0, 1⟩, .rw, 0x1⟩, ⟨⟨8, 8⟩, .rw, 0x20⟩, ⟨⟨31, 1⟩, .wo, 0x0⟩]⟩,
  ⟨"CAM_ISR", 0x340004, 0x0, 1, 0, 1, [⟨⟨0, 1⟩, .w1c, 0x0⟩, ⟨⟨1, 1⟩, .w1c, 0x0⟩, ⟨⟨2, 1⟩, .w1c, 0x0⟩, ⟨⟨3, 1⟩, .w1c, 0x0⟩, ⟨⟨4, 1⟩, .w1c, 0x0⟩]⟩,
  ⟨"CAM_IER", 0x340008, 0x0, 1, 0, 1, [⟨⟨0, 5⟩, .rw, 0x0⟩]⟩,
  ⟨"CAM_PT_CFG", 0x341000, 0x100, 4, 0, 1, [⟨⟨0, 1⟩, .rw, 0x0⟩, ⟨⟨1, 4⟩, .rw, 0x0⟩, ⟨⟨5, 3⟩, .rw, 0x0⟩, ⟨⟨8, 1⟩, .rw, 0x0⟩, ⟨⟨9, 1⟩, .rw, 0x0⟩, ⟨⟨10, 1⟩, .rw, 0x0⟩, ⟨⟨11, 1⟩, .rw, 0x0⟩, ⟨⟨12, 1⟩, .rw, 0x0⟩, ⟨⟨13, 2⟩, .rw, 0x1⟩, ⟨⟨15, 2⟩, .rw, 0x0⟩, ⟨⟨17, 1⟩, .rw, 0x0⟩, ⟨⟨18, 4⟩, .rw, 0x0⟩, ⟨⟨22, 2⟩, .rw, 0x0⟩, ⟨⟨24, 1⟩, .rw, 0x0⟩]⟩,
  ⟨"CAM_PT_GEOM", 0x341004, 0x100, 4, 0, 1, [⟨⟨0, 16⟩, .rw, 0x0⟩, ⟨⟨16, 16⟩, .rw, 0x0⟩]⟩,
  ⟨"CAM_PT_HSKIP", 0x341008, 0x100, 4, 0, 1, [⟨⟨0, 16⟩, .rw, 0x0⟩]⟩,
  ⟨"CAM_PT_STAT", 0x34100C, 0x100, 4, 0, 1, [⟨⟨0, 2⟩, .ro, 0x0⟩, ⟨⟨8, 9⟩, .ro, 0x0⟩]⟩,
  ⟨"CAM_PT_FRAMES", 0x341010, 0x100, 4, 0, 1, [⟨⟨0, 16⟩, .ro, 0x0⟩, ⟨⟨16, 16⟩, .ro, 0x0⟩]⟩,
  ⟨"CAM_PT_DROPC", 0x341014, 0x100, 4, 0, 1, [⟨⟨0, 8⟩, .ro, 0x0⟩, ⟨⟨8, 8⟩, .ro, 0x0⟩, ⟨⟨16, 8⟩, .ro, 0x0⟩, ⟨⟨24, 8⟩, .ro, 0x0⟩]⟩,
  ⟨"CAM_PT_RBASE", 0x341020, 0x100, 4, 0, 1, [⟨⟨0, 32⟩, .rw, 0x0⟩]⟩,
  ⟨"CAM_PT_RCTL", 0x341024, 0x100, 4, 0, 1, [⟨⟨0, 4⟩, .rw, 0x2⟩]⟩,
  ⟨"CAM_PT_RWR", 0x341028, 0x100, 4, 0, 1, [⟨⟨0, 10⟩, .ro, 0x0⟩]⟩,
  ⟨"CAM_PT_RRD", 0x34102C, 0x100, 4, 0, 1, [⟨⟨0, 10⟩, .rw, 0x0⟩]⟩,
  ⟨"CAM_PT_OBASE", 0x341030, 0x100, 4, 8, 4, [⟨⟨0, 32⟩, .rw, 0x0⟩]⟩,
  ⟨"CAM_PT_OSLOT", 0x341034, 0x100, 4, 8, 4, [⟨⟨0, 32⟩, .rw, 0x0⟩]⟩,
  ⟨"CAM_PT_EXPCMD", 0x341050, 0x100, 4, 0, 1, [⟨⟨0, 16⟩, .rw, 0x0⟩, ⟨⟨16, 1⟩, .rw, 0x0⟩, ⟨⟨17, 5⟩, .rw, 0x0⟩, ⟨⟨31, 1⟩, .wo, 0x0⟩]⟩,
  ⟨"CAM_PT_EXPSTAT", 0x341054, 0x100, 4, 0, 1, [⟨⟨0, 16⟩, .ro, 0x0⟩, ⟨⟨16, 2⟩, .ro, 0x0⟩, ⟨⟨18, 1⟩, .w1c, 0x0⟩, ⟨⟨20, 8⟩, .ro, 0x0⟩]⟩,
  ⟨"CAM_PT_I2CCFG", 0x341060, 0x100, 4, 0, 1, [⟨⟨0, 7⟩, .rw, 0x0⟩, ⟨⟨7, 2⟩, .rw, 0x0⟩, ⟨⟨9, 1⟩, .rw, 0x1⟩]⟩,
  ⟨"CAM_PT_I2CCMD", 0x341064, 0x100, 4, 0, 1, [⟨⟨0, 16⟩, .rw, 0x0⟩, ⟨⟨16, 2⟩, .rw, 0x0⟩, ⟨⟨18, 1⟩, .rw, 0x0⟩, ⟨⟨19, 1⟩, .ro, 0x0⟩, ⟨⟨20, 3⟩, .ro, 0x0⟩, ⟨⟨31, 1⟩, .wo, 0x0⟩]⟩,
  ⟨"CAM_PT_I2CDATA", 0x341068, 0x100, 4, 0, 1, [⟨⟨0, 32⟩, .rw, 0x0⟩]⟩]

/-- Registers of the CAM block, part 1. -/
def regsCAM1 : List RegDef := [
  ⟨"CAM_PT_TRIG", 0x341070, 0x100, 4, 0, 1, [⟨⟨0, 16⟩, .rw, 0x1⟩, ⟨⟨16, 15⟩, .ro, 0x0⟩, ⟨⟨31, 1⟩, .wo, 0x0⟩]⟩]

/-- The CAM block (offsets 0x340000 to 0x37FFFF). -/
def regsCAM : List RegDef := regsCAM0 ++ regsCAM1

/-- Registers of the LGT block, part 0. -/
def regsLGT0 : List RegDef := [
  ⟨"LGT_CTL", 0x380000, 0x0, 1, 0, 1, [⟨⟨0, 1⟩, .rw, 0x0⟩, ⟨⟨1, 1⟩, .rw, 0x0⟩, ⟨⟨2, 1⟩, .rw, 0x0⟩, ⟨⟨3, 1⟩, .rw, 0x0⟩, ⟨⟨31, 1⟩, .wo, 0x0⟩]⟩,
  ⟨"LGT_SCALE", 0x380004, 0x0, 1, 0, 1, [⟨⟨0, 6⟩, .rw, 0x0⟩]⟩,
  ⟨"LGT_ISR", 0x380008, 0x0, 1, 0, 1, [⟨⟨0, 1⟩, .w1c, 0x0⟩, ⟨⟨1, 1⟩, .w1c, 0x0⟩, ⟨⟨2, 1⟩, .w1c, 0x0⟩]⟩,
  ⟨"LGT_IER", 0x38000C, 0x0, 1, 0, 1, [⟨⟨0, 3⟩, .rw, 0x0⟩]⟩,
  ⟨"LGT_SINKEN_LO", 0x380010, 0x0, 1, 0, 1, [⟨⟨0, 32⟩, .rw, 0x0⟩]⟩,
  ⟨"LGT_SINKEN_HI", 0x380014, 0x0, 1, 0, 1, [⟨⟨0, 16⟩, .rw, 0x0⟩]⟩,
  ⟨"LGT_SHORT_LO", 0x380018, 0x0, 1, 0, 1, [⟨⟨0, 32⟩, .w1c, 0x0⟩]⟩,
  ⟨"LGT_SHORT_HI", 0x38001C, 0x0, 1, 0, 1, [⟨⟨0, 15⟩, .w1c, 0x0⟩]⟩,
  ⟨"LGT_STAT", 0x380020, 0x0, 1, 0, 1, [⟨⟨0, 1⟩, .ro, 0x0⟩, ⟨⟨16, 16⟩, .ro, 0x0⟩]⟩,
  ⟨"LGT_TEST", 0x380024, 0x0, 1, 0, 1, [⟨⟨0, 1⟩, .wo, 0x0⟩, ⟨⟨1, 1⟩, .ro, 0x0⟩, ⟨⟨2, 1⟩, .ro, 0x0⟩]⟩,
  ⟨"LGT_MTX_CFG", 0x380030, 0x0, 1, 0, 1, [⟨⟨0, 3⟩, .rw, 0x0⟩, ⟨⟨4, 21⟩, .rw, 0x4E2⟩]⟩,
  ⟨"LGT_MTX_BLANK", 0x380034, 0x0, 1, 0, 1, [⟨⟨0, 17⟩, .rw, 0x4E2⟩]⟩,
  ⟨"LGT_MTX_CTL", 0x380038, 0x0, 1, 0, 1, [⟨⟨0, 1⟩, .wo, 0x0⟩, ⟨⟨1, 1⟩, .ro, 0x0⟩, ⟨⟨2, 1⟩, .ro, 0x0⟩]⟩,
  ⟨"LGT_LSYNC_DLY", 0x38003C, 0x0, 1, 0, 1, [⟨⟨0, 24⟩, .rw, 0x0⟩]⟩,
  ⟨"LGT_STB_CFG", 0x380100, 0x10, 4, 0, 1, [⟨⟨0, 1⟩, .rw, 0x0⟩, ⟨⟨1, 2⟩, .rw, 0x1⟩, ⟨⟨3, 13⟩, .rw, 0x0⟩, ⟨⟨16, 8⟩, .rw, 0x14⟩, ⟨⟨24, 8⟩, .rw, 0x64⟩]⟩,
  ⟨"LGT_STB_CMD", 0x380104, 0x10, 4, 0, 1, [⟨⟨0, 16⟩, .rw, 0x1⟩, ⟨⟨31, 1⟩, .wo, 0x0⟩]⟩,
  ⟨"LGT_STB_STAT", 0x380108, 0x10, 4, 0, 1, [⟨⟨0, 1⟩, .ro, 0x0⟩, ⟨⟨1, 2⟩, .ro, 0x0⟩, ⟨⟨16, 8⟩, .ro, 0x0⟩, ⟨⟨24, 8⟩, .ro, 0x0⟩]⟩]

/-- The LGT block (offsets 0x380000 to 0x3BFFFF). -/
def regsLGT : List RegDef := regsLGT0

/-- Registers of the MOT block, part 0. -/
def regsMOT0 : List RegDef := [
  ⟨"MOT_CTL", 0x3C0000, 0x0, 1, 0, 1, [⟨⟨31, 1⟩, .wo, 0x0⟩]⟩,
  ⟨"MOT_ISR", 0x3C0004, 0x0, 1, 0, 1, [⟨⟨0, 1⟩, .w1c, 0x0⟩, ⟨⟨1, 1⟩, .w1c, 0x0⟩, ⟨⟨2, 1⟩, .w1c, 0x0⟩, ⟨⟨3, 1⟩, .w1c, 0x0⟩, ⟨⟨4, 1⟩, .w1c, 0x0⟩]⟩,
  ⟨"MOT_IER", 0x3C0008, 0x0, 1, 0, 1, [⟨⟨0, 5⟩, .rw, 0x0⟩]⟩,
  ⟨"MOT_AX_CFG", 0x3C1000, 0x80, 8, 0, 1, [⟨⟨0, 1⟩, .rw, 0x0⟩, ⟨⟨1, 1⟩, .rw, 0x0⟩, ⟨⟨2, 1⟩, .rw, 0x0⟩, ⟨⟨3, 1⟩, .rw, 0x0⟩, ⟨⟨4, 2⟩, .rw, 0x0⟩, ⟨⟨6, 1⟩, .rw, 0x0⟩, ⟨⟨8, 3⟩, .rw, 0x0⟩, ⟨⟨16, 8⟩, .rw, 0x64⟩]⟩,
  ⟨"MOT_AX_CMD", 0x3C1004, 0x80, 8, 0, 1, [⟨⟨0, 1⟩, .wo, 0x0⟩, ⟨⟨1, 1⟩, .wo, 0x0⟩, ⟨⟨2, 2⟩, .wo, 0x0⟩]⟩,
  ⟨"MOT_AX_TARGET", 0x3C1008, 0x80, 8, 0, 1, [⟨⟨0, 32⟩, .rw, 0x0⟩]⟩,
  ⟨"MOT_AX_STAT", 0x3C100C, 0x80, 8, 0, 1, [⟨⟨0, 3⟩, .ro, 0x0⟩, ⟨⟨3, 2⟩, .ro, 0x0⟩, ⟨⟨5, 1⟩, .ro, 0x0⟩, ⟨⟨6, 1⟩, .w1c, 0x0⟩, ⟨⟨7, 1⟩, .ro, 0x0⟩, ⟨⟨8, 1⟩, .ro, 0x0⟩, ⟨⟨9, 3⟩, .ro, 0x0⟩, ⟨⟨12, 3⟩, .ro, 0x0⟩]⟩,
  ⟨"MOT_AX_POS", 0x3C1010, 0x80, 8, 0, 1, [⟨⟨0, 32⟩, .rw, 0x0⟩]⟩,
  ⟨"MOT_AX_VEL", 0x3C1014, 0x80, 8, 0, 1, [⟨⟨0, 32⟩, .ro, 0x0⟩]⟩,
  ⟨"MOT_AX_CUR", 0x3C1018, 0x80, 8, 0, 1, [⟨⟨0, 16⟩, .rw, 0x0⟩, ⟨⟨16, 16⟩, .rw, 0x0⟩]⟩,
  ⟨"MOT_AX_LA", 0x3C101C, 0x80, 8, 0, 1, [⟨⟨0, 8⟩, .rw, 0x10⟩, ⟨⟨8, 8⟩, .rw, 0x40⟩, ⟨⟨16, 8⟩, .rw, 0x8⟩]⟩,
  ⟨"MOT_AX_LAEST", 0x3C1020, 0x80, 8, 0, 1, [⟨⟨0, 16⟩, .rw, 0x0⟩, ⟨⟨16, 16⟩, .rw, 0x0⟩]⟩,
  ⟨"MOT_AX_DRV", 0x3C1024, 0x80, 8, 0, 1, [⟨⟨0, 16⟩, .rw, 0x61A8⟩, ⟨⟨16, 8⟩, .rw, 0x19⟩, ⟨⟨24, 8⟩, .rw, 0x7D⟩]⟩,
  ⟨"MOT_AX_SENSE", 0x3C1028, 0x80, 8, 0, 1, [⟨⟨0, 16⟩, .rw, 0x0⟩]⟩,
  ⟨"MOT_AX_CPI", 0x3C102C, 0x80, 8, 0, 1, [⟨⟨0, 16⟩, .rw, 0x0⟩, ⟨⟨16, 16⟩, .rw, 0x0⟩]⟩,
  ⟨"MOT_AX_DLIM", 0x3C1030, 0x80, 8, 0, 1, [⟨⟨0, 32⟩, .rw, 0x0⟩]⟩,
  ⟨"MOT_AX_HOME", 0x3C1034, 0x80, 8, 0, 1, [⟨⟨0, 2⟩, .rw, 0x0⟩, ⟨⟨2, 1⟩, .rw, 0x0⟩]⟩,
  ⟨"MOT_AX_HPOS", 0x3C1038, 0x80, 8, 0, 1, [⟨⟨0, 32⟩, .rw, 0x0⟩]⟩,
  ⟨"MOT_AX_HMAX", 0x3C103C, 0x80, 8, 0, 1, [⟨⟨0, 32⟩, .rw, 0x0⟩]⟩,
  ⟨"MOT_AX_HLATCH", 0x3C1040, 0x80, 8, 0, 1, [⟨⟨0, 32⟩, .ro, 0x0⟩]⟩]

/-- Registers of the MOT block, part 1. -/
def regsMOT1 : List RegDef := [
  ⟨"MOT_AX_MEAS", 0x3C1044, 0x80, 8, 0, 1, [⟨⟨0, 8⟩, .ro, 0x0⟩, ⟨⟨16, 16⟩, .ro, 0x0⟩]⟩]

/-- The MOT block (offsets 0x3C0000 to 0x3CFFFF). -/
def regsMOT : List RegDef := regsMOT0 ++ regsMOT1

/-- Registers of the FBK block, part 0. -/
def regsFBK0 : List RegDef := [
  ⟨"FBK_CTL", 0x3D0000, 0x0, 1, 0, 1, [⟨⟨31, 1⟩, .wo, 0x0⟩]⟩,
  ⟨"FBK_ISR", 0x3D0004, 0x0, 1, 0, 1, [⟨⟨0, 1⟩, .w1c, 0x0⟩, ⟨⟨1, 1⟩, .w1c, 0x0⟩, ⟨⟨2, 1⟩, .w1c, 0x0⟩, ⟨⟨3, 1⟩, .w1c, 0x0⟩, ⟨⟨4, 1⟩, .w1c, 0x0⟩]⟩,
  ⟨"FBK_IER", 0x3D0008, 0x0, 1, 0, 1, [⟨⟨0, 5⟩, .rw, 0x0⟩]⟩,
  ⟨"FBK_CFG", 0x3D1000, 0x40, 8, 0, 1, [⟨⟨0, 1⟩, .rw, 0x0⟩, ⟨⟨1, 2⟩, .rw, 0x0⟩, ⟨⟨3, 1⟩, .rw, 0x0⟩, ⟨⟨4, 3⟩, .rw, 0x0⟩, ⟨⟨7, 1⟩, .rw, 0x0⟩, ⟨⟨8, 1⟩, .rw, 0x0⟩, ⟨⟨9, 1⟩, .rw, 0x0⟩, ⟨⟨10, 1⟩, .rw, 0x0⟩, ⟨⟨16, 8⟩, .rw, 0x8⟩]⟩,
  ⟨"FBK_STAT", 0x3D1004, 0x40, 8, 0, 1, [⟨⟨0, 1⟩, .w1c, 0x0⟩, ⟨⟨1, 1⟩, .w1c, 0x0⟩, ⟨⟨2, 1⟩, .ro, 0x0⟩, ⟨⟨3, 1⟩, .ro, 0x0⟩, ⟨⟨4, 1⟩, .ro, 0x0⟩, ⟨⟨5, 1⟩, .w1c, 0x0⟩, ⟨⟨6, 1⟩, .ro, 0x0⟩, ⟨⟨7, 1⟩, .ro, 0x0⟩]⟩,
  ⟨"FBK_COUNT", 0x3D1008, 0x40, 8, 0, 1, [⟨⟨0, 32⟩, .rw, 0x0⟩]⟩,
  ⟨"FBK_SPEED", 0x3D100C, 0x40, 8, 0, 1, [⟨⟨0, 32⟩, .ro, 0x0⟩]⟩,
  ⟨"FBK_SPDF", 0x3D1010, 0x40, 8, 0, 1, [⟨⟨0, 16⟩, .rw, 0x1000⟩]⟩,
  ⟨"FBK_LINES", 0x3D1014, 0x40, 8, 0, 1, [⟨⟨0, 24⟩, .rw, 0x0⟩, ⟨⟨24, 8⟩, .rw, 0x4⟩]⟩,
  ⟨"FBK_ZLATCH", 0x3D1018, 0x40, 8, 0, 1, [⟨⟨0, 32⟩, .ro, 0x0⟩]⟩,
  ⟨"FBK_HLATCH", 0x3D101C, 0x40, 8, 0, 1, [⟨⟨0, 32⟩, .ro, 0x0⟩]⟩,
  ⟨"FBK_ERR", 0x3D1020, 0x40, 8, 0, 1, [⟨⟨0, 16⟩, .ro, 0x0⟩, ⟨⟨16, 16⟩, .ro, 0x0⟩]⟩,
  ⟨"FBK_CMPPOS", 0x3D1024, 0x40, 8, 0, 1, [⟨⟨0, 32⟩, .rw, 0x0⟩]⟩,
  ⟨"FBK_CMPCFG", 0x3D1028, 0x40, 8, 0, 1, [⟨⟨0, 1⟩, .rw, 0x0⟩, ⟨⟨1, 2⟩, .rw, 0x0⟩, ⟨⟨3, 1⟩, .rw, 0x0⟩, ⟨⟨4, 1⟩, .rw, 0x0⟩, ⟨⟨16, 16⟩, .rw, 0x1⟩]⟩]

/-- The FBK block (offsets 0x3D0000 to 0x3DFFFF). -/
def regsFBK : List RegDef := regsFBK0

/-- The register definitions of the block that an offset lies in; none for an offset outside every block. -/
def blockRegs (a : Nat) : List RegDef :=
  if 0x0 ≤ a ∧ a < 0x10000 then regsGLB
  else if 0x10000 ≤ a ∧ a < 0x20000 then regsPWR
  else if 0x20000 ≤ a ∧ a < 0x30000 then regsHK
  else if 0x30000 ≤ a ∧ a < 0x40000 then regsCAVE
  else if 0x40000 ≤ a ∧ a < 0x50000 then regsCAL
  else if 0x50000 ≤ a ∧ a < 0x60000 then regsINTG
  else if 0x60000 ≤ a ∧ a < 0x70000 then regsBOOT
  else if 0x100000 ≤ a ∧ a < 0x120000 then regsSEQ
  else if 0x120000 ≤ a ∧ a < 0x130000 then regsGRP
  else if 0x140000 ≤ a ∧ a < 0x180000 then regsSRV
  else if 0x180000 ≤ a ∧ a < 0x1C0000 then regsLSR
  else if 0x1C0000 ≤ a ∧ a < 0x200000 then regsSTI
  else if 0x200000 ≤ a ∧ a < 0x210000 then regsHOOP
  else if 0x210000 ≤ a ∧ a < 0x220000 then regsTIM
  else if 0x240000 ≤ a ∧ a < 0x250000 then regsLANE
  else if 0x250000 ≤ a ∧ a < 0x260000 then regsHL
  else if 0x280000 ≤ a ∧ a < 0x290000 then regsPCI
  else if 0x290000 ≤ a ∧ a < 0x2A0000 then regsETH
  else if 0x2C0000 ≤ a ∧ a < 0x300000 then regsDMA
  else if 0x300000 ≤ a ∧ a < 0x340000 then regsDDR
  else if 0x340000 ≤ a ∧ a < 0x380000 then regsCAM
  else if 0x380000 ≤ a ∧ a < 0x3C0000 then regsLGT
  else if 0x3C0000 ≤ a ∧ a < 0x3D0000 then regsMOT
  else if 0x3D0000 ≤ a ∧ a < 0x3E0000 then regsFBK
  else []

/-- The window and array index at which an offset names a register of a definition. -/
def RegDef.locate (d : RegDef) (a : Nat) : Option (Nat × Nat) :=
  if a < d.base then none
  else
    let off := a - d.base
    let w := if d.wst = 0 then 0 else off / d.wst
    let r := if d.wst = 0 then off else off % d.wst
    let k := if d.st = 0 then 0 else r / d.st
    let z := if d.st = 0 then r else r % d.st
    if w < d.wcnt ∧ k < d.cnt ∧ z = 0 then some (w, k) else none

/-- A register's definition with its window and array index. -/
structure RegHit where
  reg : RegDef
  win : Nat
  idx : Nat
  deriving DecidableEq, Repr

/-- Search a list of definitions for the register at an offset. -/
def findReg (a : Nat) : List RegDef → Option RegHit
  | [] => none
  | d :: ds =>
    match d.locate a with
    | some (w, k) => some ⟨d, w, k⟩
    | none => findReg a ds

/-- The register at an offset (R13: none for a reserved offset). -/
def regAt (a : Nat) : Option RegHit := findReg a (blockRegs a)

/-- Registers whose reset value is not zero: base, window stride and count, array stride and count, value. -/
def nonzeroResets : List (Nat × Nat × Nat × Nat × Nat × Nat) := [
  (0x10014, 0x0, 1, 0, 1, 0x1),
  (0x1001C, 0x0, 1, 0, 1, 0x64),
  (0x10028, 0x0, 1, 0, 1, 0x2710),
  (0x10034, 0x0, 1, 0, 1, 0x6400),
  (0x10100, 0x10, 4, 0, 1, 0xFFFF),
  (0x20010, 0x0, 1, 0, 1, 0x5A0),
  (0x20280, 0x0, 1, 4, 24, 0xFFFF0000),
  (0x30080, 0x0, 1, 0, 1, 0x8000),
  (0x40104, 0x20, 8, 0, 1, 0x1),
  (0x50000, 0x0, 1, 0, 1, 0x1),
  (0x100018, 0x1000, 32, 0, 1, 0xFFFF),
  (0x100024, 0x1000, 32, 0, 1, 0x4),
  (0x100030, 0x1000, 32, 0, 1, 0x20),
  (0x12000C, 0x0, 1, 0, 1, 0x10000),
  (0x12001C, 0x0, 1, 0, 1, 0x1),
  (0x120074, 0x0, 1, 0, 1, 0x60),
  (0x120084, 0x0, 1, 0, 1, 0x1),
  (0x141020, 0x40, 96, 0, 1, 0x7FFF),
  (0x180010, 0x0, 1, 0, 1, 0x21),
  (0x181000, 0x80, 32, 0, 1, 0x400),
  (0x18101C, 0x80, 32, 0, 1, 0xFFFF0000),
  (0x181044, 0x80, 32, 0, 1, 0x80080),
  (0x1C000C, 0x0, 1, 0, 1, 0x64),
  (0x200000, 0x0, 1, 0, 1, 0xF),
  (0x210010, 0x0, 1, 0, 1, 0x640002),
  (0x210100, 0x40, 2, 0, 1, 0x20),
  (0x210104, 0x40, 2, 0, 1, 0xCD0800),
  (0x210108, 0x40, 2, 0, 1, 0x30D4000),
  (0x21010C, 0x40, 2, 0, 1, 0x3E80064),
  (0x210210, 0x0, 1, 0, 1, 0xCCCCCCCD),
  (0x210300, 0x0, 1, 0, 1, 0xC3500),
  (0x241004, 0x40, 40, 0, 1, 0x83000),
  (0x241008, 0x40, 40, 0, 1, 0x1),
  (0x241010, 0x40, 40, 0, 1, 0x1464),
  (0x251000, 0x40, 32, 0, 1, 0x1),
  (0x291000, 0x100, 2, 0, 1, 0x30),
  (0x291018, 0x100, 2, 0, 1, 0x44),
  (0x291040, 0x100, 2, 0, 1, 0x200),
  (0x2C1000, 0x40, 16, 0, 1, 0x1040),
  (0x300004, 0x0, 1, 0, 1, 0xA),
  (0x300010, 0x0, 1, 0, 1, 0x1),
  (0x340000, 0x0, 1, 0, 1, 0x2001),
  (0x341000, 0x100, 4, 0, 1, 0x2000),
  (0x341024, 0x100, 4, 0, 1, 0x2),
  (0x341060, 0x100, 4, 0, 1, 0x200),
  (0x341070, 0x100, 4, 0, 1, 0x1),
  (0x380030, 0x0, 1, 0, 1, 0x4E20),
  (0x380034, 0x0, 1, 0, 1, 0x4E2),
  (0x380100, 0x10, 4, 0, 1, 0x64140002),
  (0x380104, 0x10, 4, 0, 1, 0x1),
  (0x3C1000, 0x80, 8, 0, 1, 0x640000),
  (0x3C101C, 0x80, 8, 0, 1, 0x84010),
  (0x3C1024, 0x80, 8, 0, 1, 0x7D1961A8),
  (0x3D1000, 0x40, 8, 0, 1, 0x80000),
  (0x3D1010, 0x40, 8, 0, 1, 0x1000),
  (0x3D1014, 0x40, 8, 0, 1, 0x4000000),
  (0x3D1028, 0x40, 8, 0, 1, 0x10000),
  (0x28800C, 0x0, 1, 0x10, 64, 1)]

/-- Search the reset list; a word that is in none of its registers resets to zero (R12, R13). -/
def findReset (a : Nat) : List (Nat × Nat × Nat × Nat × Nat × Nat) → Word
  | [] => 0
  | (b, ws, wc, st, c, v) :: rest =>
    match (RegDef.mk "" b ws wc st c []).locate a with
    | some _ => BitVec.ofNat 32 v
    | none => findReset a rest

/-- What a register or table word that nothing has written reads as: its reset value, zero for a table word
(R12; R163, R194, R250, R279, R309, R324: zero after PORN). The mask bits of the MSI-X table at 0x28_8000 reset to 1
(PRESUMED from the PCI Express Base Specification that R352 names; log entry 12). -/
def resetWord (a : Nat) : Word :=
  if a < 0x1000000 then findReset a nonzeroResets else 0

end Sys2Proof.Machine
end

