-- ==== Sys2Proof/Config.lean ====
section
/-!
DEFINITION. What an implementation fixes and what the spec leaves open: constants without a body.
Each is named in an assumption log row.
-/

namespace Sys2Proof.Config

/-- Random challenge bytes of R452, one fresh value for each draw number and byte index. -/
opaque challengeByte : Nat → Nat → BitVec 8

/-- What a slot holds after VDD_AON interrupted its write (R447), beyond being invalid: draw, byte. -/
opaque tornByte : Nat → Nat → BitVec 8

/-- BOOT_RECID as burnt into OTP at manufacture (R469). -/
opaque otpRecid : BitVec 32

/-- Ed25519 verification (R458, RFC 8032): key, message, signature. -/
opaque ed25519Verify : List (BitVec 8) → List (BitVec 8) → List (BitVec 8) → Bool

/-- The load angle of DUTY where a vector is zero and has no angle (R261): angle, duties. -/
opaque zeroAngle : Nat → Int → Int → Int

/-- How a leg switches over a PWM period (R259), of which the spec gives the duty alone: duty, period, phase in ticks, leg; true for the
high side. -/
opaque legHigh : Int → Nat → Nat → Nat → Bool

/-- Which whole neighbour an inexact quotient takes where the spec states no rounding (R260, R261, R273), or which one a tie takes where
it says only that the value is rounded: true for the upper one. Arguments: the place, numerator, denominator. -/
opaque roundUp : Nat → Int → Nat → Bool

/-- The direction of R270's quadrature decoding, which the spec does not give: true when a rising A with B low counts up. -/
opaque quadUp : Bool

/-- The start state of the excitation sequence of R159, which the spec does not give: draw number. -/
opaque idSeed : Nat → Nat

/-- Which bit of that sequence adds +AMP, which the spec does not say. -/
opaque idPlus : Bool

/-- How a word three or more bits away from its check bits reads (R393, R401): data, REF, XOR; 0 sound, 1 corrected,
2 uncorrectable. The code is not published. -/
opaque secdedState : BitVec 32 → BitVec 32 → Nat → Nat

/-- The unit whose operations use a word of a class that stands outside the table SRAM window, by class and word index (R393): the
manual does not publish the numbering. Channels for classes 0, 1 and 6, axes for class 4, camera ports for class 7; for class 9 DMA
channels from 0 on, Hoop ports from 16 on, Ethernet ports from 32 on. -/
opaque wordHome : Nat → Nat → Nat

/-- The data that such a word reads as. -/
opaque secdedWord : BitVec 32 → BitVec 32 → Nat → BitVec 32

/-- What the slots of a dropped frame hold (R306), per draw, output and byte. -/
opaque droppedSlotByte : Nat → Nat → Nat → BitVec 8

/-- Minimum, maximum and blob peak of a region without a pixel (R301), for which the spec states no value: draw, which one. -/
opaque emptyRegion : Nat → Nat → Nat

/-- The pattern, 0 to 3, that a BAYER code above 4 acts as (R300); the spec gives those codes no meaning. -/
opaque bayerAs : Nat → Nat

/-- Speed code, width code and LTSSM code that link training ends with (R373), which depend on the host: draw, which one. -/
opaque pciTrained : Nat → Nat → Nat

/-- The PHY's measurement of the phase at which a TIME packet leaves within its tick (R214): draw number. -/
opaque wirePhase : Nat → Nat

/-- The start state of a lane's pattern generator in TEST (R338): draw number. -/
opaque prbsStart : Nat → Nat

/-- The start state of the PRBS31 payload of TRAIN (R330): lane, time of its entry. -/
opaque trainStart : Nat → Nat → Nat

/-- The level of an input ball that no command changes (R375): draw, port, ball. -/
opaque ballLevel : Nat → Nat → Nat → Bool

/-- What DRAM training finds and how long a training pause takes (R386, R387), what a lane's receiver adapts to (R334):
draw, which value. -/
opaque trained : Nat → Nat → Nat

/-- CLASS and word index under which an uncorrectable DRAM line is reported (R385, R402), which R393 does not list: line, which one. -/
opaque dramReport : Nat → Nat → Nat

/-- What a read returns for which the spec gives no value: an uncorrectable table word (R393, which = 0), or an upper word that the
last read of a lowest word did not latch (R14, which = the word's position). Arguments: draw, which. -/
opaque openWord : Nat → Nat → BitVec 32

/-- The version in bits 31:28 of the IDCODE (R480). -/
opaque idVersion : BitVec 4

end Sys2Proof.Config
end

