-- ==== Sys2Proof/Machine/State.lean ====
section
/-!
DEFINITION. The machine's state as plain data, the reasons a step can stop, and the state after reset.
Every register of the map lives in State.regs under its BAR0 offset (Regs.lean names them); what the spec gives the
machine beside registers stands in the structures below, one for each unit.
Times are machine times in units of 1/8000 ns (one FCLK tick is 6,400 units), schedule times are ticks.
-/

namespace Sys2Proof.Machine

/-- A sparse table from numbers to values: keys strictly rising, no entry equal to the table's default at its key. -/
abbrev Tab (α : Type) := List (Nat × α)

/-- A triple for the axes X, Y, Z. -/
structure V3 where
  x : Int
  y : Int
  z : Int
  deriving DecidableEq, Repr

/-- The zero triple. -/
def V3.zero : V3 := ⟨0, 0, 0⟩

/-! ### Curd sequencer (02, 03) -/

/-- A place in the instruction flow: a body word of the curd being decoded, or of the pattern library (R76). -/
structure Loc where
  lib : Bool
  word : Nat
  deriving DecidableEq, Repr

/-- An open loop (R77): the first body word, iterations left, the call depth at its REP. -/
structure Loop where
  start : Loc
  left : Nat
  depth : Nat
  deriving DecidableEq, Repr

/-- An accepted curd descriptor, not yet released (R100 to R103), with what its header gave when it entered the feed (R52, R54). -/
structure Curd where
  index : Nat
  line : Nat
  irq : Bool
  hdr : Bool
  seqno : Nat
  words : Nat
  last : Bool
  stime : Nat
  /-- A fetch fault that waits for its fault time, with its place (R67). -/
  fault : Option (Nat × Loc)
  /-- BCRC of the header (R54). -/
  bcrc : Nat
  deriving DecidableEq, Repr

/-- Segment instructions (R80 to R85). -/
inductive SegKind where
  | jump | line | cubic | dwell | focus
  deriving DecidableEq, Repr

/-- A queued segment: [start, start + dur), end points in 1/256 FU, start velocity as numerators over one denominator in 1/256 FU
per microsecond, end velocity of a cubic in s24.8, profile bit (R80 to R85). -/
structure Segment where
  kind : SegKind
  start : Nat
  dur : Nat
  p0 : V3
  pe : V3
  v0 : V3
  v0den : Nat
  ve : V3
  prof : Nat
  deriving DecidableEq, Repr

/-- What a timed action does (R74, R75, R79, R86 to R94, R97, R98). -/
inductive Act where
  | sig (event : Nat)
  | evt (code : Nat) (data : Nat)
  | fence
  | period (axmask tab len : Nat)
  | learn (axmask mode : Nat)
  | gsel (axmask : Nat) (auto : Bool) (region : Nat)
  | pset (power : Nat)
  | pramp (pend dur : Nat)
  | env (hi lo : Int) (pmax pmin : Nat)
  | mpl (gset mode ratio sum : Nat)
  | gateOn (fine win : Nat)
  | gateOff (fine : Nat)
  | pulse (power per wid count win : Nat)
  | trig (width kind unit : Nat)
  | move (axis pslot : Nat) (target : Int)
  deriving DecidableEq, Repr

/-- An action in the action queue with its action time (R63, R64). -/
structure Action where
  time : Nat
  act : Act
  deriving DecidableEq, Repr

/-- How a part of a handoff comes out (R240): open, normal, or fallback with a cause of R245. -/
inductive HandOutcome where
  | undecided
  | normal
  | fallback (cause : Nat)
  deriving DecidableEq, Repr

/-- An outstanding HAND (R95, R240, R246). -/
structure Hand where
  take : Bool
  fb : Bool
  pdev : Nat
  pch : Nat
  xf : Nat
  hid : Nat
  anchor : Nat
  nlen : Nat
  alen : Nat
  bdur : Nat
  block : Loc
  readySent : Bool
  token : Option Nat
  commitRx : Option Nat
  partnerFb : Option Nat
  committed : Bool
  outcome : HandOutcome
  decided : Bool
  frameErr : Option V3
  theta : Int
  deriving DecidableEq, Repr

/-- A HAND block being decoded after its decision (R96): one past its last word, where the flow goes on, the cursor it must
reach, and the call depth at its HAND. -/
structure HandBlock where
  stop : Nat
  resume : Nat
  cursor : Nat
  depth : Nat
  deriving DecidableEq, Repr

/-- A hand token as received or sent (R237). -/
structure Token where
  kind : Nat
  fromDev : Nat
  fromCh : Nat
  take : Bool
  toCh : Nat
  cause : Nat
  hid : Nat
  xf : Nat
  anchor : Nat
  layer : Nat
  gridA : Nat
  deriving DecidableEq, Repr

/-- One feed entry (R106): the DRAM line, whether its read is outstanding or done, its words and their CRC-32C once they have
arrived, whether the decoder has checked them (R108), fetches again so far, and the words that the visit serves, each with the block
choices on the way to it (R107): a HAND, and true for its alternative block. A curd's header line has head = true; curd is the
descriptor index of the walker's curd. -/
structure FeedEntry where
  line : Nat
  asked : Bool
  arrived : Bool
  words : List Word64
  crc : Nat
  checked : Bool
  refetch : Nat
  reads : List (List (Nat × Bool) × Nat)
  head : Bool
  curd : Nat
  deriving DecidableEq, Repr

/-- The walker's or the decoder's place: flow position, curd ordinal among the accepted curds, K registers, stacks (R60, R76, R77, R107). -/
structure Flow where
  loc : Loc
  curd : Nat
  k : List Nat
  calls : List Loc
  loops : List Loop
  deriving DecidableEq, Repr

/-- The times that the order rules compare, along the walker's way (R107): the cursor, the last action time and gate edge, the last
gate-on edge, the gate-on edges placed (first time, period, count), the last GYIELD and the latest end of a HAND. -/
structure Pace where
  cursor : Nat
  lastAct : Nat
  lastEdge : Option (Nat × Nat)
  lastOn : Option Nat
  ons : List (Nat × Nat × Nat)
  lastYield : Option (Nat × Nat)
  handEnd : Nat
  deriving DecidableEq, Repr

/-- The walker inside the two blocks of a HAND with FB = 1 (R107): the first and one-past-last words, the cursor that each block must
reach (R96), the state it found the HAND in, the state after the normal block (none where that block holds a fault), and the decision
once it has fallen: true for the alternative block. The times go with the states. -/
structure WalkFork where
  id : Nat
  start : Nat
  alt : Bool
  choice : Option Bool
  normalEnd : Nat
  altEnd : Nat
  goal : Nat
  saved : Flow
  savedPace : Pace
  afterNormal : Option (Flow × Pace)
  deriving DecidableEq, Repr

/-- A fault that waits for its fault time (R67): status code, fault time, place and SEQNO (R118). -/
structure PendingFault where
  code : Nat
  time : Nat
  word : Nat
  lib : Bool
  seqno : Nat
  deriving DecidableEq, Repr

/-- A SYNC awaiting its deadline (R73): event, deadline, and its place for R118. -/
structure SyncWait where
  event : Nat
  time : Nat
  word : Nat
  seqno : Nat
  deriving DecidableEq, Repr

/-- A pulse train in progress (R91). -/
structure Train where
  t0 : Nat
  per : Nat
  wid : Nat
  count : Nat
  next : Nat
  win : Nat
  deriving DecidableEq, Repr

/-- A power ramp in progress (R90): start value, end value, first and last power instant. -/
structure Ramp where
  from_ : Nat
  pend : Nat
  t0 : Nat
  t1 : Nat
  deriving DecidableEq, Repr

/-- What a channel's sequencer holds beside its registers. -/
structure Chan where
  /-- The decoder's position and stacks (R60, R76, R77). -/
  dec : Flow
  /-- The cursor C (R61). -/
  cursor : Nat
  /-- C at the end of the previous curd, or the first curd's STIME (R67). -/
  prevEnd : Nat
  /-- The decoder has begun the body of its current curd, with its implicit WAIT (R55). -/
  begun : Bool
  /-- Accepted curds in ring order; the decoder's curd is at index dec.curd (R102, R103). -/
  curds : List Curd
  /-- SEQNO expected in the next header (R54). -/
  nextSeqno : Nat
  /-- A curd with LAST = 1 has been accepted (R54, R105). -/
  lastSeen : Bool
  /-- HEAD at the arm command (R105). -/
  headAtArm : Nat
  /-- Time of the last descriptor read that found OWN = 0 (R102). -/
  ownReadAt : Nat
  /-- The walker's position, its fork and whether it has stopped (R107). -/
  walk : Flow
  fork : List WalkFork
  walkStopped : Bool
  /-- Extension words to pass before the walker's next instruction, and whether it stops after them. -/
  walkExt : Nat
  walkEnd : Bool
  /-- The times along the walker's way (R107). -/
  walkPace : Pace
  /-- Feed entries in decode order (R106, R107). -/
  feed : List FeedEntry
  /-- A curd of the channel failed BCRC before the start decision (R32). -/
  bcrcFailed : Bool
  /-- Queued segments, oldest first (R65). -/
  segs : List Segment
  /-- Queued actions in stream order (R65). -/
  acts : List Action
  /-- Outstanding HANDs, oldest first (R95, R246). -/
  hands : List Hand
  /-- Normal parts past their crossfade whose record waits for a frame (R249). -/
  handLogs : List Hand
  /-- The chosen blocks of HANDs in decode, innermost first (R96). -/
  handBlock : List HandBlock
  /-- Stored tokens, oldest first (R239). -/
  tokens : List Token
  /-- Last action time and last gate edge in stream order (R63). -/
  lastAct : Nat
  lastEdge : Option (Nat × Nat)
  /-- Time of the last gate-on edge in stream order, pulses included (R72). -/
  lastOn : Option Nat
  /-- End position of the last queued segment in 1/256 FU, and its end velocity as numerators over a denominator (R61, R80). -/
  endPos : V3
  endVel : V3
  endVelDen : Nat
  /-- The last GYIELD decoded: its index and S_g (R72, R95). -/
  lastYield : Option (Nat × Nat)
  /-- Yield indices decoded and not yet left, in stream order (R27, R28). -/
  yields : List Nat
  /-- HALT has been decoded (R69). -/
  haltDecoded : Bool
  /-- The decoder has taken a fault and stopped (R67). -/
  decStopped : Bool
  /-- SYNC deadlines awaiting their check (R73). -/
  syncs : List SyncWait
  /-- A fault waiting for its fault time (R67). -/
  pending : Option PendingFault
  /-- The layer's participant, from the mask taken at the arm command (R29, R35). -/
  part : Bool
  /-- A pulse train in progress (R91). -/
  train : Option Train
  /-- The position that the evaluator last delivered, s32.8 FU (R61, R66). -/
  lastEval : V3
  /-- After a FIELD fault: the position held to the end of the segment, with that end (R83). -/
  fieldHold : Option (Nat × V3)
  /-- Line address and descriptor words of a library load in progress (R111). -/
  libWords : Nat
  libLine : Nat
  deriving DecidableEq, Repr

/-! ### Group unit (01, 03) -/

/-- The life of a layer (01, Arming and starting a layer). -/
structure Group where
  /-- Layer number and participation mask that the arm command took (R29, R128). -/
  layer : Nat
  pmask : Nat
  /-- Line of the yield table, its entries N, resume index r and M_start, as the arm command took them (R29, R128). -/
  yline : Nat
  n : Nat
  resume : Nat
  mstart : Nat
  /-- Machine time of the arm command (R30, R128). -/
  armedAt : Nat
  /-- Wake alarm of R31, in machine time. -/
  wakeAlarm : Option Nat
  /-- The wake alarm's vote for SEQ stands (R121). -/
  wakeVote : Bool
  /-- START has been decided, M_start not yet reached (R33). -/
  started : Bool
  /-- REFUSE has been decided (R33). -/
  refused : Bool
  /-- Schedule time S and ticks held P (R20); S advances while run is true. -/
  s : Nat
  p : Nat
  run : Bool
  /-- Machine time of the grid origin G (R19, R48), and of the stop of S in a hold. -/
  origin : Int
  holdAt : Nat
  /-- Start votes by member: true READY (R33). -/
  startVotes : List (Nat × Bool)
  /-- The own start vote was sent (R33). -/
  voted : Bool
  /-- Next undecided yield, next yield to pass (R36, R41). -/
  nextYield : Nat
  /-- Sealed for the next undecided yield: own request causes (R36). -/
  sealed : Option Nat
  /-- Yield votes for the next undecided yield: member, S_g, hold, causes, abort, P (R36, R41). -/
  votes : List (Nat × Nat × Bool × Nat × Bool × Nat)
  /-- The arrival window for yield votes has closed (R36). -/
  closed : Bool
  /-- Decision for the next yield: 0 none, 1 PASS, 2 HOLD, 3 ABORT (R36). -/
  decision : Nat
  /-- Cause of a decided ABORT (R125). -/
  abortCause : Nat
  /-- Members for the 0xFF06 record of a decided ABORT (R125). -/
  abortMask : Nat
  /-- The HOLD votes of the decided yield: member and causes (R36, R37). -/
  held : List (Nat × Nat)
  /-- The member had a request cause at the decision (R37). -/
  ownHold : Bool
  /-- The member's abort flag (R43). -/
  abortFlag : Bool
  /-- GROUP_ABORT received for the armed layer (R36, R43). -/
  groupAbort : Bool
  /-- Latest hold event by member: stamp and true for HOLD (R37). -/
  holders : List (Nat × Nat × Bool)
  /-- All causes and all holding members of the present hold (R125, 0xFF01). -/
  holdCauses : Nat
  holdMembers : Nat
  /-- The own latest HOLD or RELEASE event: HOLD, its stamp, when it was last sent, its cause bits (R37). -/
  ownEvent : Option (Bool × Nat × Nat × Nat)
  /-- The computed restart in machine time (R38). -/
  restart : Option Nat
  /-- Late HOLD requests carried to the next yield (R39). -/
  lateHold : Bool
  /-- Received flags of fabric events, the set event numbers (R73). -/
  events : Tab Bool
  /-- Records lost since the last 0xFF07 record (R126). -/
  lostSince : Nat
  /-- Thermal pause debt D in 1/256 ticks (R431). -/
  debt : Nat
  deriving DecidableEq, Repr

/-! ### Servo engine (04) -/

/-- A setpoint (R130): instant, machine time of its delivery to the engine, the evaluator's position in s32.8 FU (R66), position,
velocity and acceleration in s32.8 HC, jump tag. -/
structure Setpoint where
  s : Nat
  at_ : Nat
  fu : V3
  p : V3
  v : V3
  a : V3
  jump : Bool
  deriving DecidableEq, Repr

/-- The state of one loop (R138): integrator, derivative, last error, input and output histories of both notches, in s40.12; the
recorded sign of the swap hold, 0 for none (R144). -/
structure LoopSt where
  hold : Int
  i : Int
  d : Int
  e1 : Int
  w1 : Int
  w2 : Int
  m1 : Int
  m2 : Int
  x1 : Int
  x2 : Int
  deriving DecidableEq, Repr

/-- A period of the repetitive controller (R86, R147): table, length, phase. -/
structure Period where
  tab : Nat
  len : Nat
  k : Nat
  deriving DecidableEq, Repr

/-- A mode handover in progress (R145): the outgoing mode with its loop, B, j. -/
structure Blend where
  from_ : Nat
  out : LoopSt
  b : Nat
  j : Nat
  deriving DecidableEq, Repr

/-- What the engine holds for one axis beside its registers. -/
structure Axis where
  loop : LoopSt
  /-- z of the last period (R138), in s40.12. -/
  z1 : Int
  /-- Last reference position r, s32.8 HC (R136). -/
  r1 : Int
  /-- Ladder index c and the previous tag (R142). -/
  c : Nat
  tag1 : Bool
  /-- A handover in progress; the first period of the incoming mode is still to come; a waiting request (R145, R146). -/
  blend : Option Blend
  first : Bool
  request : Option Nat
  /-- Forced region (R143). -/
  forced : Option Nat
  /-- The ladder restarts after GSEL AUTO (R143). -/
  restartC : Bool
  /-- Active period (R147). -/
  period : Option Period
  /-- Requested learning mode: 0 OFF, 1 ON, 2 FROZEN (R87). -/
  learnReq : Nat
  /-- The learning update of the last period: table, entry, error (R148). -/
  upd : Option (Nat × Nat × Int)
  /-- Consecutive periods with a failing residue (R161). -/
  fails : Nat
  deriving DecidableEq, Repr

/-- What the engine holds for one channel. -/
structure ServoCh where
  /-- The 16 newest setpoints, newest first (R130). -/
  hist : List Setpoint
  /-- The newest valid frame of the sample window and how many came (R133). -/
  frame : Option V3
  frames : Nat
  /-- The last latched sample (R133). -/
  y : V3
  /-- Consecutive sample windows without a valid frame, with the gate on (R155). -/
  staleRun : Nat
  /-- The tracking window of the gate-on edge in force (R94, R152). -/
  win : Nat
  /-- A trip is in force (R153, R154): the first schedule time whose gate-on edge releases it. -/
  trip : Option Nat
  /-- Trips in the layer (R153). -/
  trips : Nat
  /-- Learning frozen by a melt-pool bound for this many more updates (R149). -/
  mpFreeze : Nat
  /-- A bound bit came after the learning update of the present period (R149). -/
  mpLate : Bool
  deriving DecidableEq, Repr

/-- Identification and drive-current state of the engine (R159, R160, R430). -/
structure Servo where
  /-- The excitation in progress: the last bits of its sequence, newest lowest; periods captured (R159). -/
  idBits : Nat
  idCount : Nat
  idRun : Bool
  /-- Sums of the last periods in mA, newest first, at most 400 (R430). -/
  sums : List Nat
  /-- Last servo period boundary executed, machine time (R131), and whether that period's learning updates are made (R132). -/
  lastBoundary : Option Nat
  learned : Bool
  /-- A reset in a layer sets every axis OFF at the next boundary (R346). -/
  zeroDue : Bool
  deriving DecidableEq, Repr

/-! ### Laser block (05) and handoff overrides (07) -/

/-- An interval in which the handoff unit holds the gate low (R244): from a tick until the first gate-on edge after it, or until
the first gate-off edge at or after it. -/
inductive GateHold where
  | untilOn (from_ : Nat)
  | untilOff (from_ : Nat)
  deriving DecidableEq, Repr

/-- The power weighting of a normal handoff part (R242, R243): anchor, crossfade, role. -/
structure Fade where
  anchor : Nat
  xf : Nat
  take : Bool
  deriving DecidableEq, Repr

/-- One mode of the melt-pool loop with its own state (R180, R184): mode 0 OFF, 1 HOLD, 2 RUN; gain set and targets; integrator and
correction in s32.8; its first instant is still to come. -/
structure Melt where
  mode : Nat
  gset : Nat
  ratio : Nat
  sum : Nat
  i : Int
  c : Int
  first : Bool
  deriving DecidableEq, Repr

/-- The mode that an MPL handover blends out (R184): the mode, j and B of R145. -/
structure MeltBlend where
  out : Melt
  j : Nat
  b : Nat
  deriving DecidableEq, Repr

/-- One photodiode log entry (R190), 16 bytes. -/
structure LogEntry where
  bytes : List Byte
  deriving DecidableEq, Repr

/-- A staged log line (R191, R192): its number among the channel's lines, its DRAM line, its four entries. -/
structure LogLine where
  no : Nat
  line : Nat
  entries : List LogEntry
  deriving DecidableEq, Repr

/-- An EVT record held back by a FENCE (R79): the number of the first log line that it need not wait for, code, schedule time,
calendar stamp, data. -/
structure HeldRec where
  until_ : Nat
  code : Nat
  time : Nat
  cal : Stamp
  data : Nat
  deriving DecidableEq, Repr

/-- What the laser block holds for one channel beside its registers. -/
structure Laser where
  /-- The stream gate as the edges have set it (R94), and whether LGATE has followed it since its gate-on edge: a condition that was
  missing at the edge, or has lapsed since, leaves it low until the next one (R168). -/
  streamGate : Bool
  follows : Bool
  /-- The manual path is armed (R168). -/
  manArmed : Bool
  /-- The handoff overrides and weightings in force or placed ahead (R242, R244). -/
  holds : List GateHold
  fades : List Fade
  /-- Changes of the gate's level, newest first, in 1/32 ticks of S, for the sample instants of R176. -/
  lit : List (Nat × Bool)
  /-- A gate-off edge with GOFFZ whose clearing of the integrator is due, in 1/32 ticks of S (R185). -/
  goff : Option Nat
  /-- Power setpoint and ramp (R89, R90). -/
  pset : Nat
  ramp : Option Ramp
  /-- Filters af and bf in u22.8 (R180, R181). -/
  af : Nat
  bf : Nat
  /-- The loop's mode, the mode blended out, and c of the previous instant (R180, R184). -/
  mp : Melt
  blend : Option MeltBlend
  c : Int
  /-- Envelope hold: due at the next computation; the recorded sign of e (R183). -/
  envDue : Bool
  envSign : Option Int
  /-- Direction of the last valid instant when it was bound, else 0 (R183). -/
  bound : Int
  /-- Instants since the last gate-on edge whose sample found the gate high (R182). -/
  onCount : Nat
  /-- Machine time of the last photodiode sample, on either cadence (R177). -/
  sampleAt : Nat
  /-- Log staging: entries of the open line and its number, staged lines, flags for the next entries (R189 to R192). -/
  logOpen : List LogEntry
  logNo : Nat
  logLines : List LogLine
  logGap : Bool
  logDrop : Bool
  /-- The last FENCE: the number of the first log line after it, and the records that wait for earlier lines (R79). -/
  fence : Nat
  fenceRecs : List HeldRec
  deriving DecidableEq, Repr

/-! ### Hoop and time (06) -/

/-- A received broadcast identity with its time of storing (R203). -/
structure DupEntry where
  src : Nat
  cls : Nat
  seq : Nat
  at_ : Nat
  deriving DecidableEq, Repr

/-- What a Hoop port holds beside its registers. -/
structure HoopPort where
  link : List Packet
  urgent : List Packet
  fwd : List Packet
  loc : List Packet
  /-- The next normal packet comes from the local queue (R206). -/
  localTurn : Bool
  /-- Credits held for sending, and owed to the peer: shared and reserved (R205). -/
  shared : Nat
  reserved : Nat
  owedShared : Nat
  owedReserved : Nat
  /-- When draining began (R208). -/
  drainAt : Nat
  /-- Lanes that the port took at its enable (R199); the last ALIGN on its lanes, with their machine times (R335). -/
  lanes : Nat
  aligned : List (Nat × Nat)
  /-- Time exchange in progress: XID and, once the request has left, t1 in 2^-16 ns; start of the last one; the last exchange's offset o in 1/16,384 ps, its end
  time, the peer's deltas in ps (R215, R216, R247). -/
  xid : Nat
  t1 : Option Int
  lastStart : Option Nat
  o : Int
  endedAt : Option Nat
  peerDelta : Int × Int
  deriving DecidableEq, Repr

/-- A bulk transfer by this device (R212): it is in progress; machine time of its GO or of its last packet's sending. -/
structure BulkTx where
  active : Bool
  lastAt : Nat
  deriving DecidableEq, Repr

/-- A bulk transfer received (R212): source, channel, next packet index. -/
structure BulkRx where
  src : Nat
  ch : Nat
  next : Nat
  deriving DecidableEq, Repr

/-- What the Hoop unit holds (06). -/
structure Hoop where
  /-- Per-class SEQ counters (R200). -/
  seq : Tab Nat
  dups : List DupEntry
  /-- Broadcasts whose second copy is due: packet and time (R204). -/
  repeats : List (Packet × Nat)
  /-- The outstanding remote access: tag, target, write, time (R211). -/
  rra : Option (Nat × Nat × Bool × Nat)
  tag : Nat
  bulkRx : List BulkRx
  deriving DecidableEq, Repr

/-- A time domain's servo beside its registers (R217 to R220). -/
structure Domain where
  /-- Offset Δ_d in 1/320,000,000 ps, which is what one ppb / 256 adds in a tick; integrator and output in s32.8 ppb (R217, R218). -/
  delta : Int
  i : Int
  y : Int
  /-- Consecutive samples within the lock threshold (R219). -/
  good : Nat
  lastSample : Nat
  noticeSent : Bool
  deriving DecidableEq, Repr

/-- The time unit (R213 to R224). -/
structure TimeUnit where
  /-- Machine time in 1/8000 ns; calendar time in 2^-32 ns (R17, R222). -/
  mt : Nat
  cal : Nat
  /-- Level of PPS_OUT and the machine time at which it falls (R223). -/
  ppsOut : Bool
  ppsFall : Nat
  /-- What the last REFCLK cycles left of machine time, in 1/3,200,000 of its unit, and of calendar time, in halves of its unit
  (R213, R222). -/
  mtRest : Nat
  calRest : Nat
  /-- The whole seconds of machine and calendar time at the tick before this one (R223). -/
  secMt : Nat
  secCal : Nat
  deriving DecidableEq, Repr

/-! ### Motion and feedback (08) -/

/-- A motion axis beside its registers and tables. -/
structure Motor where
  /-- Position in s32.16 counts, target in counts (R257). -/
  pos : Int
  target : Int
  /-- Host GO waiting for the next generator instant: profile set and target (R254). -/
  go : Option (Nat × Int)
  /-- Homing: the home edge has been latched; distance travelled in s32.16 (R267, R268). -/
  homeEdge : Bool
  homeDist : Int
  homeFail : Nat
  /-- Time at rest on the target (R263). -/
  restAt : Nat
  /-- Consecutive generator instants that count towards a stall (R262). -/
  stallRun : Nat
  /-- PI integrals of the two phases and the duties, in 1/dutyOne (R259); the electrical angle and the current commanded in the last PWM
  period, its machine time, and periods in a row with a phase current above 1.5 IMAX (R260, R261, R265). -/
  intA : Int
  intB : Int
  dutyA : Int
  dutyB : Int
  theta : Nat
  cmdI : Nat
  pwmAt : Option Nat
  overA : Nat
  overB : Nat
  /-- Feedback count at the axis enable (R261). -/
  c0 : Int
  /-- STEP and DIR (R264): steps of the interval that began at stepsAt, whether the interval before it ended in a pulse, direction
  positive. -/
  steps : Nat
  stepsAt : Nat
  stepsEnd : Bool
  dirPos : Bool
  deriving DecidableEq, Repr

/-- The debouncer of a home or limit input (R275): samples in a row that differ from the qualified level; the count and the output
position of each axis at the first of them (R267); machine time of the last sample. -/
structure Debounce where
  run : Nat
  count : Int
  outs : List Int
  at_ : Option Nat
  deriving DecidableEq, Repr

/-- A feedback interface beside its registers. -/
structure Feedback where
  /-- The synchronised inputs FB_A, FB_B, FB_Z (R276), samples in a row at each level, and the machine times of the last samples (R270). -/
  rawA : Bool
  rawB : Bool
  rawZ : Bool
  runA : Nat
  runB : Nat
  runZ : Nat
  abAt : Option Nat
  zAt : Option Nat
  /-- The levels taken after FILT (R270). -/
  a : Bool
  b : Bool
  z : Bool
  /-- Home and limit inputs (R275). -/
  home : Debounce
  limp : Debounce
  limn : Debounce
  /-- Count at the last generator instant and at the one before (R273, R277). -/
  count1 : Int
  moved : Int
  /-- Machine time of the last edge, and of the last edge before this interval (R273). -/
  edgeAt : Nat
  edge1 : Nat
  /-- Direction of the last count, direction at the last index, a reversal since (R274). -/
  dirUp : Bool
  idxDir : Option Bool
  reversed : Bool
  /-- Compare output driven until this machine time (R277). -/
  cmpUntil : Option Nat
  deriving DecidableEq, Repr

/-! ### Cameras (09) -/

/-- A frame that a port has started and whose record is not yet written (R286, R291, R301, R304 to R306): number, SEQ, record index,
stamps and layer at its start, lines received, lines in the FIFO, vision rows already formed, the words latched at the pipeline's
start (ROIs, phase gains, BTHR), flags, VS inactive, and the cause of its drop. -/
structure Frame where
  num : Nat
  seq : Nat
  index : Nat
  start : Stamp
  s : Nat
  layer : Nat
  received : Nat
  lines : List (List Nat)
  vis : List (List Nat)
  latched : Option (List Word)
  expLate : Bool
  expErr : Bool
  complete : Bool
  drop : Option Nat
  deriving DecidableEq, Repr

/-- Whose I2C transaction runs (R289, R290, R308): the host's, the exposure set's that is sending, or a set's that has been stopped. -/
inductive I2cOwner where
  | host | set | stopped
  deriving DecidableEq, Repr

/-- What a controller puts on an I2C bus (R288): START or repeated START, a byte written, a byte read with its ACK or NACK, STOP. -/
inductive I2cItem where
  | start
  | write (b : Byte)
  | read (ack : Bool)
  | stop
  deriving DecidableEq, Repr

/-- An I2C transaction in progress (R289, R290): whose it is, write, register, bytes. -/
structure I2c where
  owner : I2cOwner
  write : Bool
  reg : Nat
  n : Nat
  deriving DecidableEq, Repr

/-- An exposure set being sent (R290, R293): bank, entries, SEQ, next entry, frame starts since frame k, the number of the first frame
that carries its SEQ once that has started. -/
structure ExpSend where
  bank : Nat
  count : Nat
  seq : Nat
  next : Nat
  since : Nat
  first : Option Nat
  deriving DecidableEq, Repr

/-- A SEQ to be carried (R291, R293): frame starts until then, SEQ, EXPLATE, EXPERR. -/
structure ExpCarry where
  left : Nat
  seq : Nat
  late : Bool
  err : Bool
  deriving DecidableEq, Repr

/-- A camera port beside its registers. -/
structure CamPort where
  /-- Frames started whose records are not yet written, oldest first (R304). -/
  frames : List Frame
  /-- The frame at the port is being discarded until the next frame start (R306). -/
  discard : Bool
  /-- Pending exposure set: bank, entries, SEQ; the set being sent; SEQs to be carried (R290 to R293). -/
  pendSet : Option (Nat × Nat × Nat)
  sendSet : Option ExpSend
  seqs : List ExpCarry
  /-- The I2C transaction in progress (R289). -/
  i2c : Option I2c
  /-- Machine time until which a trigger pulse is active (R97, R287). -/
  trigUntil : Nat
  /-- The level of VS at the last edge seen (R283). -/
  vs : Bool
  deriving DecidableEq, Repr

/-- The shared pipeline (R295 to R297): the port being served, the lines of the stripe in progress (0: none), the port last served. -/
structure Pipeline where
  serving : Option Nat
  stripe : Nat
  last : Nat
  deriving DecidableEq, Repr

/-! ### Illumination (10) -/

/-- A strobe beside its registers: machine time at which its pulse ends and began, level of STB_G while it is on (R320, R321), the
pulse's rise has been judged (R322), and the conflict counter of its output, to which the spec gives no register (R97). -/
structure Strobe where
  until_ : Nat
  since : Nat
  gate : Bool
  judged : Bool
  conflicts : Nat
  deriving DecidableEq, Repr

/-- A strobe without a pulse. -/
def Strobe.reset : Strobe := ⟨0, 0, false, false, 0⟩

/-- The illumination block beside its registers and tables. -/
structure Light where
  /-- Direct codes, scale and sink enables in force (R313, R314): a change that raises the demand waits for its grant. -/
  codes : Tab Nat
  scale : Nat
  enabled : Nat
  /-- Next line of the frame, end of the line in progress, next pair to test, a frame is running, a pending frame start, the frame
  ends after the line in progress (R316 to R319). -/
  line : Nat
  lineEnd : Nat
  pair : Nat
  frame : Bool
  startAt : Option Nat
  endEarly : Bool
  /-- The line last started and the end of its LINE_T in machine time (R316). -/
  lit : Option (Nat × Nat)
  /-- A full test in progress: 1 at the enable, 2 on RUN (R319). -/
  test : Nat
  deriving DecidableEq, Repr

/-! ### Lanes and head link (11) -/

/-- A serial lane beside its registers. -/
structure Lane where
  /-- When the present state was entered, in machine time. -/
  since : Nat
  /-- Last probe for a termination or last eye measurement in this state (R330, R334). -/
  probed : Option Nat
  /-- Validity of the last 64 sync headers, newest first (R331). -/
  headers : List Bool
  /-- The last CAP payload and how many identical came, ACK sent (R332). -/
  cap : Nat
  caps : Nat
  ack : Bool
  /-- Power-state request in progress with its time; PM blocks received in a row, their payload; exit in progress (R336). -/
  pm : Option (Nat × Nat)
  pmGot : Nat × Nat
  waking : Bool
  /-- Next transmitted bit is inverted (R339). -/
  inj : Bool
  /-- Seed of the pseudo-random pattern sent, bits sent since the test began (R338). -/
  seed : Nat
  sent : Nat
  /-- The checker (R339): the last bits received, newest lowest, bits since its start, error-free bits in a row, and the ages in bits of
  the last errors, below 1,024. -/
  chk : Nat
  seen : Nat
  clean : Nat
  errors : List Nat
  deriving DecidableEq, Repr

/-- A head link beside its registers. -/
structure Head where
  seq : Nat
  rxSeq : Option Nat
  /-- Outstanding request: device's own, write, address, data, sent, since (R347, R348). -/
  aux : Option (Bool × Bool × Nat × Nat × Bool × Nat)
  /-- The device's own write is due; configuration done; retry time (R348). -/
  cfgDue : Bool
  cfgDone : Bool
  retryAt : Option Nat
  /-- DRV = 0 after a reset in a layer until the host writes a mode (R346). -/
  zeroed : Bool
  /-- Arrivals of the last 4,096 servo periods, machine time and phase, newest first; when the skew figure is due (R344, R413). -/
  arrivals : List (Nat × Nat)
  skewDue : Option Nat
  deriving DecidableEq, Repr

/-! ### Host interfaces (12) -/

/-- A DMA descriptor that the channel has read with OWN = 1 (R364, R365): its fields, its index in the ring, its status once it is
known (RDERR and ABORT end the one in progress), bytes asked for from the source and bytes written to the destination. -/
structure DmaDesc where
  src : Nat
  dst : Nat
  len : Nat
  ctrl : Nat
  index : Nat
  status : Nat
  read : Nat
  written : Nat
  deriving DecidableEq, Repr

/-- A DMA channel beside its registers: the descriptor in progress, those read ahead, reads asked for and not yet answered (address
and length), and segments read and not yet written, each oldest first (R364, R367). -/
structure DmaCh where
  cur : Option DmaDesc
  ahead : List DmaDesc
  asked : List (Nat × Nat)
  segs : List (List Byte)
  deriving DecidableEq, Repr

/-- A DMA channel with nothing in progress. -/
def DmaCh.reset : DmaCh := ⟨none, [], [], []⟩

/-- The channels that the DMA engines served last: the read engine in each priority, and the write engine (R367). -/
structure DmaEngine where
  high : Nat
  low : Nat
  write : Nat
  deriving DecidableEq, Repr

/-- The PCI Express endpoint beside its registers (R352, R357). -/
structure Pci where
  linkUp : Bool
  l2 : Bool
  perstN : Bool
  bme : Bool
  /-- Function mask of the MSI-X capability, pending bits (R357). -/
  funcMask : Bool
  pba : Nat
  /-- Maximum read request size in bytes, which the host configures (R352, R367). -/
  mrrs : Nat
  /-- Release writes of aborted descriptors that wait until their host ring is reachable (R368). -/
  owed : List (Nat × List Byte)
  /-- Identification loaded by the boot ROM: vendor, device, subsystem vendor, subsystem (R459, R460). -/
  ids : List Nat
  deriving DecidableEq, Repr

/-- An Ethernet port beside its registers: transmission is stopped until a machine time (R359); the sideband transaction in
progress (R360). -/
structure EthPort where
  pauseUntil : Nat
  i2c : Option I2c
  deriving DecidableEq, Repr

/-! ### DRAM controller, integrity, calibration (13, 14, 15) -/

/-- A request in a DRAM queue (R382): the port (0 feed, 1 camera, 2 log, others normal), its unit, the line. -/
structure DramReq where
  port : Nat
  unit : Nat
  line : Nat
  write : Bool
  deriving DecidableEq, Repr

/-- The DRAM controller beside its registers (R381 to R388): requests waiting and issued, the port served last by the round robin,
next refresh of each subchannel and how many are postponed, a training that waits since a machine time and the end of a pause by
channel (offset by 1; 0 for none), uncorrectable lines, ticks with a port in panic, and initial training due at a return. -/
structure Dram where
  queue : List DramReq
  issued : List DramReq
  rr : Nat
  refreshDue : Tab Nat
  postponed : Tab Nat
  trainWait : Tab Nat
  trainEnd : Tab Nat
  poisoned : Tab Bool
  panicTicks : Nat
  retrain : Bool
  deriving DecidableEq, Repr

/-- A tracker entry of the scrubber (R397): word index, older and newer pass. -/
structure Track where
  index : Nat
  older : Option Nat
  newer : Nat
  deriving DecidableEq, Repr

/-- The integrity block beside its registers. -/
structure Integ where
  trackers : Tab (List Track)
  /-- Machine time of the last 0xFF10 record by kind and channel or class (R402). -/
  lastRec : List (Nat × Nat × Nat)
  /-- Forced residues armed by R401, as unit, channel, axis. -/
  forced : List (Nat × Nat × Nat)
  /-- Planted check bits of R401: word address and XOR, until the word is written again. -/
  planted : Tab Nat
  /-- Words outside the table SRAM window that a scrub read found uncorrectable, by class and word index (R393, R396). -/
  hidden : List (Nat × Nat)
  /-- Machine time of the last pass's start, offset by 1; 0 before the first (R395). -/
  scrubAt : Nat
  deriving DecidableEq, Repr

/-- A calibration group beside its registers (R407 to R413). -/
structure CalGroup where
  restore : Bool
  effectAt : Nat
  deriving DecidableEq, Repr

/-! ### Power, housekeeping (16) -/

/-- A request waiting at the budget arbiter (R428): requester (client 12 for the sinks, 16 + s for strobe s, 32 + d for the raise of
domain d), credits, machine time of its arrival, set aside. -/
structure BudReq where
  who : Nat
  amount : Nat
  at_ : Nat
  aside : Bool
  deriving DecidableEq, Repr

/-- The power controller beside its registers. -/
structure Power where
  /-- Votes of clients 2 to 13, one bit for each domain (R416, R417). -/
  votes : Tab Nat
  /-- Domains being raised: 1 waiting for credits, 2 waiting for PGOOD; with the time PWREN went high (R418, R419). -/
  raising : Tab (Nat × Nat)
  /-- Waiting requests of the four budgets, oldest first; credits granted, by 64 x budget + requester (R428). -/
  waits : Tab (List BudReq)
  grants : Tab Nat
  /-- Levels of PWREN and PGOOD (R416). -/
  pwren : Nat
  pgood : Nat
  /-- A transition is in progress: target, began and whether its time-out has passed (R423, R424). -/
  target : Option Nat
  began : Nat
  timedOut : Bool
  /-- Alarm expiry in machine time (R425). -/
  alarmAt : Option Nat
  /-- WAKE level (R425). -/
  wake : Bool
  /-- Thermal request presented (R431). -/
  thermal : Bool
  /-- PLLs running: bit 0 core, 1 DDR, 2 head, 3 Hoop, 4 host (R486). -/
  plls : Nat
  deriving DecidableEq, Repr

/-- Housekeeping beside its registers (R433 to R435). -/
structure House where
  /-- Sensors at or above the shutdown level in the last round, one bit each (R435). -/
  above : Nat
  /-- Machine time of the last round, offset by 1; 0 before the first (R433). -/
  roundAt : Nat
  /-- Start of a thermal shutdown (R435). -/
  shutAt : Option Nat
  deriving DecidableEq, Repr

/-! ### Cave (17) and start-up (18) -/

/-- A Cave record waiting to be written (R440, R446): the fields known at posting. -/
structure CaveRec where
  code : Nat
  crit : Bool
  coarse : Bool
  queued : Bool
  part : Nat
  src : Nat
  channel : Nat
  layer : Nat
  cal : Stamp
  payload : List Byte
  deriving DecidableEq, Repr

/-- The recorder beside its registers (R443 to R454). -/
structure Cave where
  /-- The ferroelectric die, byte addressed; an unlisted byte is zero. -/
  die : List (Nat × BitVec 8)
  /-- The critical stage and the queue, oldest first (R446). -/
  crit : List CaveRec
  queue : List CaveRec
  /-- Slot of SEQ 0 of the epoch, next SEQ (R447). -/
  base : Nat
  nextSeq : Nat
  /-- Next SEQ at the freeze, and a fetch in progress with its AGE (R449). -/
  frzSeq : Nat
  fetch : Option Nat
  /-- Layer shadow: layer, mask, S, yield of each channel (R443). -/
  shLayer : Nat
  shMask : Nat
  shS : Nat
  shYield : List Nat
  /-- Key in OTP, challenge time, time of the last refusal (R451, R452). -/
  key : List Byte
  chalAt : Option Nat
  refusedAt : Option Nat
  /-- The clear record of an accepted clear, until its write commits the clear (R453). -/
  clearRec : Option CaveRec
  /-- Integrity records posted: channel (0xFF for the device) and time (R444). -/
  intgAt : List (Nat × Nat)
  deriving DecidableEq, Repr

/-- Boot ROM, reset and safe-state controller beside their registers (18). -/
structure Boot where
  /-- Level of the reset balls and of the software reset: true asserted (R462). -/
  porn : Bool
  sysrst : Bool
  warmUntil : Option Nat
  /-- EXTEST is loaded (R480). -/
  extest : Bool
  /-- Running from XTAL32 (R456). -/
  xtal : Bool
  /-- Consecutive bad kicks, end of the supervision window, suspended (R421, R465, R466). -/
  badRun : Nat
  windowAt : Option Nat
  suspended : Bool
  /-- Levels of SAFE_N and FAULT_N, last edge of SAFE_N (R467). -/
  safeN : Bool
  faultN : Bool
  safeEdgeAt : Nat
  /-- The public key in OTP (R461). -/
  pk : List Byte
  deriving DecidableEq, Repr

/-- Level of the balls that the outside drives and no other structure holds. -/
structure Pins where
  emstopN : Bool
  /-- The level of LSYNC at the last edge seen (R318). -/
  lsync : Bool
  deriving DecidableEq, Repr

/-! ### What leaves the device -/

/-- A message that has left the device. -/
inductive Out where
  | msix (vector : Nat)
  /-- A Hoop packet, with the blocks that each lane of its port carries (R335). -/
  | packet (port : Nat) (p : Packet) (lanes : List (Nat × List Block))
  /-- Contiguous blocks on a lane, the first at a machine time (R328). -/
  | blocks (lane at_ : Nat) (bs : List Block)
  | headAux (lane : Nat) (write : Bool) (addr data : Nat)
  /-- A write to host memory, and a read request to it (R367). -/
  | hostWrite (addr : Nat) (bytes : List Byte)
  | hostRead (addr len : Nat)
  | ethFrame (port : Nat) (bytes : List Byte)
  /-- The items of an I2C transaction at a clock in kHz (R288). -/
  | i2c (bus khz : Nat) (items : List I2cItem)
  | bar2 (data : List Byte) (poisoned : Bool)
  /-- An access of a DRAM subchannel: it opens the row, moves one line and closes the row (R379, R380); all-bank refreshes (R383). -/
  | dramAccess (sub rank group bank row col : Nat) (write : Bool)
  | dramRefresh (sub count : Nat)
  | ppsOut (high : Bool)
  deriving DecidableEq, Repr

/-- What the arm command changed and a rejected arming gives back (R30): the group unit's state, registers, channels, and for each
channel and axis the servo's forced regions and trips. -/
structure ArmUndo where
  grp : Group
  regs : List (Nat × Word)
  chan : Tab Chan
  forced : List (Nat × Option Nat × Bool)
  trips : List (Nat × Option Nat × Nat)
  deriving DecidableEq, Repr

/-- The state of the block. -/
structure State where
  /-- Commands waiting, first in, first out. -/
  pending : List Instr
  /-- The variant of the part (R2); no command changes it. -/
  variant : Variant
  /-- Every register and table word by its BAR0 offset (00_scope, Register conventions). -/
  regs : Tab Word
  /-- Device DRAM by byte offset (R376 to R388). -/
  dram : List (Nat × BitVec 8)
  /-- Staging window bytes and management L2 as loaded by the boot ROM (R459, R460). -/
  l2 : List Byte
  /-- Shadows and staged upper words by source and word position (R14). -/
  shadow : Tab Word
  staged : Tab Word
  /-- Data of the last completed register read. -/
  readData : Word
  grp : Group
  /-- While arming checks run: what a rejection restores (R30). -/
  armUndo : Option ArmUndo
  chan : Tab Chan
  srvAx : Tab Axis
  srvCh : Tab ServoCh
  srv : Servo
  lsr : Tab Laser
  hoop : Hoop
  port : Tab HoopPort
  bulk : Tab BulkTx
  dom : Tab Domain
  time : TimeUnit
  mot : Tab Motor
  fbk : Tab Feedback
  cam : Tab CamPort
  pipe : Pipeline
  lgt : Light
  strobe : Tab Strobe
  lane : Tab Lane
  head : Tab Head
  dma : Tab DmaCh
  dmaEng : DmaEngine
  pci : Pci
  eth : Tab EthPort
  ddr : Dram
  intg : Integ
  cal : Tab CalGroup
  pwr : Power
  hk : House
  cave : Cave
  boot : Boot
  pins : Pins
  /-- Hand tokens on the on-chip crossbar, oldest first (R238). -/
  xbar : List Token
  /-- Draws of free values so far (the model's own counter). -/
  free : Nat
  /-- What has left the device, newest first (the model's own log). -/
  out : List Out
  deriving DecidableEq, Repr

/-! ### Values after reset -/

/-- A flow at the first body word with K0 to K15 zero and empty stacks. -/
def Flow.reset : Flow := ⟨⟨false, 0⟩, 0, List.replicate 16 0, [], []⟩

/-- No time passed yet. -/
def Pace.reset : Pace := ⟨0, 0, none, none, [], none, 0⟩

/-- A channel after reset: empty feed, queues and stacks, K registers zero, no library (R120). -/
def Chan.reset : Chan where
  dec := Flow.reset
  cursor := 0
  prevEnd := 0
  begun := false
  curds := []
  nextSeqno := 0
  lastSeen := false
  headAtArm := 0
  ownReadAt := 0
  walk := Flow.reset
  fork := []
  walkStopped := false
  walkExt := 0
  walkEnd := false
  walkPace := Pace.reset
  feed := []
  bcrcFailed := false
  segs := []
  acts := []
  hands := []
  handLogs := []
  handBlock := []
  tokens := []
  lastAct := 0
  lastEdge := none
  lastOn := none
  endPos := V3.zero
  endVel := V3.zero
  endVelDen := 1
  lastYield := none
  yields := []
  haltDecoded := false
  decStopped := false
  syncs := []
  pending := none
  part := false
  train := none
  lastEval := V3.zero
  fieldHold := none
  libWords := 0
  libLine := 0

/-- The group unit after reset: Idle, no layer armed (R120). -/
def Group.reset : Group where
  layer := 0
  pmask := 0
  yline := 0
  n := 0
  resume := 0
  mstart := 0
  armedAt := 0
  wakeAlarm := none
  wakeVote := false
  started := false
  refused := false
  s := 0
  p := 0
  run := false
  origin := 0
  holdAt := 0
  startVotes := []
  voted := false
  nextYield := 0
  sealed := none
  votes := []
  closed := false
  decision := 0
  abortCause := 0
  abortMask := 0
  held := []
  ownHold := false
  abortFlag := false
  groupAbort := false
  holders := []
  holdCauses := 0
  holdMembers := 0
  ownEvent := none
  restart := none
  lateHold := false
  events := []
  lostSince := 0
  debt := 0

/-- A loop's state of zeros (R163). -/
def LoopSt.reset : LoopSt := ⟨0, 0, 0, 0, 0, 0, 0, 0, 0, 0⟩

/-- An axis after reset (R163). -/
def Axis.reset : Axis where
  loop := LoopSt.reset
  z1 := 0
  r1 := 0
  c := 0
  tag1 := false
  blend := none
  first := false
  request := none
  forced := none
  restartC := false
  period := none
  learnReq := 0
  upd := none
  fails := 0

/-- A servo channel after reset (R163). -/
def ServoCh.reset : ServoCh where
  hist := []
  frame := none
  frames := 0
  y := V3.zero
  staleRun := 0
  win := 0
  trip := none
  trips := 0
  mpFreeze := 0
  mpLate := false

/-- The melt-pool loop OFF with gain set 0 (R66). -/
def Melt.reset : Melt := ⟨0, 0, 0, 0, 0, 0, false⟩

/-- A laser channel after reset: gate low, power zero (R194). -/
def Laser.reset : Laser where
  streamGate := false
  follows := false
  manArmed := false
  holds := []
  fades := []
  lit := []
  goff := none
  pset := 0
  ramp := none
  af := 0
  bf := 0
  mp := Melt.reset
  blend := none
  c := 0
  envDue := false
  envSign := none
  bound := 0
  onCount := 0
  sampleAt := 0
  logOpen := []
  logNo := 0
  logLines := []
  logGap := false
  logDrop := false
  fence := 0
  fenceRecs := []

/-- A Hoop port after reset: down, no credits (R225). -/
def HoopPort.reset : HoopPort where
  link := []
  urgent := []
  fwd := []
  loc := []
  localTurn := false
  shared := 0
  reserved := 0
  owedShared := 0
  owedReserved := 0
  drainAt := 0
  lanes := 1
  aligned := []
  xid := 0
  t1 := none
  lastStart := none
  o := 0
  endedAt := none
  peerDelta := (0, 0)

/-- A time domain after reset: NONE (R225). -/
def Domain.reset : Domain := ⟨0, 0, 0, 0, 0, false⟩

/-- A motion axis after reset (R279). -/
def Motor.reset : Motor where
  pos := 0
  target := 0
  go := none
  homeEdge := false
  homeDist := 0
  homeFail := 0
  restAt := 0
  stallRun := 0
  intA := 0
  intB := 0
  dutyA := 0
  dutyB := 0
  theta := 0
  cmdI := 0
  pwmAt := none
  overA := 0
  overB := 0
  c0 := 0
  steps := 0
  stepsAt := 0
  stepsEnd := false
  dirPos := false

/-- No change is being qualified. -/
def Debounce.reset : Debounce := ⟨0, 0, [], none⟩

/-- A feedback interface after reset (R279); its inputs are low. -/
def Feedback.reset : Feedback where
  rawA := false
  rawB := false
  rawZ := false
  runA := 0
  runB := 0
  runZ := 0
  abAt := none
  zAt := none
  a := false
  b := false
  z := false
  home := Debounce.reset
  limp := Debounce.reset
  limn := Debounce.reset
  count1 := 0
  moved := 0
  edgeAt := 0
  edge1 := 0
  dirUp := false
  idxDir := none
  reversed := false
  cmpUntil := none

/-- A camera port after reset: disabled, no frame, VS low (R309; the level is a DESIGN CHOICE, log entry 108). -/
def CamPort.reset : CamPort := ⟨[], false, none, none, [], none, 0, false⟩

/-- The illumination block after reset (R324): everything off. -/
def Light.reset : Light := ⟨[], 0, 0, 0, 0, 0, false, none, false, none, 0⟩

/-- A lane after reset (R349). -/
def Lane.reset : Lane where
  since := 0
  probed := none
  headers := []
  cap := 0
  caps := 0
  ack := false
  pm := none
  pmGot := (0, 0)
  waking := false
  inj := false
  seed := 0
  sent := 0
  chk := 0
  seen := 0
  clean := 0
  errors := []

/-- A head link after reset (R349). -/
def Head.reset : Head := ⟨0, none, none, false, false, none, false, [], none⟩

/-- The state right after PORN has been released (R456, R462): every register at its reset value, the counters at zero,
SAFE_N and FAULT_N low, the Cave scan pending. -/
def State.reset : State where
  pending := []
  variant := .t32f
  regs := []
  dram := []
  l2 := []
  shadow := []
  staged := []
  readData := 0
  grp := Group.reset
  armUndo := none
  chan := []
  srvAx := []
  srvCh := []
  srv := ⟨0, 0, false, [], none, true, false⟩
  lsr := []
  hoop := ⟨[], [], [], none, 0, []⟩
  port := []
  bulk := []
  dom := []
  time := ⟨0, 0, false, 0, 0, 0, 0, 0⟩
  mot := []
  fbk := []
  cam := []
  pipe := ⟨none, 0, 0⟩
  lgt := Light.reset
  strobe := []
  lane := []
  head := []
  dma := []
  dmaEng := ⟨15, 15, 15⟩
  pci := ⟨false, false, true, false, false, 0, 512, [], [0, 0, 0, 0]⟩
  eth := []
  ddr := ⟨[], [], 0, [], [], [], [], [], 0, false⟩
  intg := ⟨[], [], [], [], [], 0⟩
  cal := []
  pwr := ⟨[], [], [], [], 2048, 0, none, 0, false, none, false, false, 1⟩
  hk := ⟨0, 0, none⟩
  cave := ⟨[], [], [], 0, 0, 0, none, 0, 0, 0, [], [], none, none, none, []⟩
  boot := ⟨false, false, none, false, false, 0, none, false, false, false, 0, []⟩
  pins := ⟨true, false⟩
  xbar := []
  free := 0
  out := []

/-! ### Outcomes that stop a step -/

/-- A step that the block cannot take, because its command names something the spec says does not exist. -/
inductive Fault where
  /-- Raised by every meaning of a command on a numbered unit when the number is beyond the units that any variant has (R2, R3):
  channels, axes, ports, lanes, domains, vectors, calibration groups, classes and their entries.
  Safe: the machine stops where no hardware has such a unit. -/
  | noSuchUnit
  /-- Raised by the register and table access commands when the address is no multiple of 4 or lies outside BAR0's 64 MiB, by the
  BAR2 commands beyond its window, and by STAGING_WRITE outside the staging window (R353, R460).
  Safe: the machine stops where the spec gives no register or memory. -/
  | noSuchAddress
  deriving DecidableEq, Repr

/-- A command without a meaning in this model. -/
inductive Refusal where
  /-- Raised by the arm of a command that the model does not reach yet; safe, since the machine stops. -/
  | notModelled (mnemonic : String)
  deriving DecidableEq, Repr

end Sys2Proof.Machine
end

