-- ==== Sys2Proof/Machine/Operands.lean ====
section
/-!
DEFINITION. Operand forms: fields of words, signed values, little-endian bytes, exact fixed-point arithmetic with one
rounding (ties toward plus infinity), saturation, and the two CRCs (00_scope, Numbers; R53, R181, R343).
-/

namespace Sys2Proof.Machine

/-- The value of a field of a word. -/
def field (f : Field) (w : Word) : Nat := (w.toNat >>> f.lo) % 2 ^ f.width

/-- The mask of a field. -/
def fieldMask (f : Field) : Nat := (2 ^ f.width - 1) <<< f.lo

/-- A word with one field replaced by the low bits of a value. -/
def withField (f : Field) (w : Word) (v : Nat) : Word :=
  BitVec.ofNat 32 ((w.toNat - (field f w) <<< f.lo) + (v % 2 ^ f.width) <<< f.lo)

/-- Bits [lo, lo + n) of a number. -/
def bits (x lo n : Nat) : Nat := (x >>> lo) % 2 ^ n

/-- Bit lo of a number. -/
def bitAt (x lo : Nat) : Bool := decide ((x >>> lo) % 2 = 1)

/-- A number with one bit set or cleared. -/
def putBit (x lo : Nat) (b : Bool) : Nat :=
  let y := if bitAt x lo then x - 2 ^ lo else x
  if b then y + 2 ^ lo else y

/-- The signed value of the low n bits of a number. -/
def signed (n x : Nat) : Int :=
  let y := x % 2 ^ n
  if y < 2 ^ (n - 1) then (y : Int) else (y : Int) - (2 ^ n : Nat)

/-- The two's complement code of a signed value in n bits. -/
def unsigned (n : Nat) (i : Int) : Nat := (i % ((2 ^ n : Nat) : Int)).toNat

/-- Clamp to a range; the lower limit wins where the range is empty. -/
def clampI (x lo hi : Int) : Int := max lo (min x hi)

/-- Saturate to a signed format of n bits. -/
def satS (n : Nat) (x : Int) : Int := clampI x (-((2 ^ (n - 1) : Nat) : Int)) (((2 ^ (n - 1) : Nat) : Int) - 1)

/-- Saturate to an unsigned format of n bits. -/
def satU (n : Nat) (x : Int) : Int := clampI x 0 (((2 ^ n : Nat) : Int) - 1)

/-- The nearest integer to a / b with ties toward plus infinity (R181, R218). -/
def roundDiv (a : Int) (b : Nat) : Int := if b = 0 then 0 else (2 * a + (b : Int)) / (2 * (b : Int))

/-- A quotient whose rounding the spec does not state: exact, or a neighbour that Config leaves open; place names the rule. -/
def openQuot (place : Nat) (a : Int) (b : Nat) : Int :=
  if a % (b : Int) = 0 then a / (b : Int) else a / (b : Int) + if Config.roundUp place a b then 1 else 0

/-- A quotient that the spec says is rounded, without its ties: the nearest integer, a tie as Config leaves it open. -/
def openNearest (place : Nat) (a : Int) (b : Nat) : Int :=
  if 2 * (a % (b : Int)) = (b : Int) then a / (b : Int) + (if Config.roundUp place a b then 1 else 0) else roundDiv a b

/-- The rounding of a value with k fraction bits to an integer. -/
def roundBits (a : Int) (k : Nat) : Int := roundDiv a (2 ^ k)

/-- The least multiple count n with n * b at or above a. -/
def ceilDiv (a b : Nat) : Nat := if b = 0 then 0 else (a + b - 1) / b

/-- The little-endian bytes of a number. -/
def leBytes : Nat → Nat → List Byte
  | _, 0 => []
  | x, n + 1 => BitVec.ofNat 8 x :: leBytes (x / 256) n

/-- The number that little-endian bytes spell. -/
def leNat : List Byte → Nat
  | [] => 0
  | b :: bs => b.toNat + 256 * leNat bs

/-- The number in n bytes at an offset of a byte list; missing bytes count as zero. -/
def leAt (bs : List Byte) (off n : Nat) : Nat := leNat ((bs.drop off).take n)

/-- The 64-bit words of a byte list, eight bytes each. -/
def words64 : List Byte → List Word64
  | b0 :: b1 :: b2 :: b3 :: b4 :: b5 :: b6 :: b7 :: rest =>
    BitVec.ofNat 64 (leNat [b0, b1, b2, b3, b4, b5, b6, b7]) :: words64 rest
  | _ => []

/-- n zero bytes. -/
def zeros (n : Nat) : List Byte := List.replicate n 0

/-- A byte list cut or padded with zeros to n bytes. -/
def padTo (n : Nat) (bs : List Byte) : List Byte := (bs ++ zeros (n - bs.length)).take n

/-- One bit of the reflected CRC-32C register. -/
def crc32cBit (c : Nat) : Nat := if c % 2 = 1 then (c / 2) ^^^ 0x82F63B78 else c / 2

/-- One byte of the CRC-32C register. -/
def crc32cByte (c : Nat) (b : Byte) : Nat :=
  crc32cBit (crc32cBit (crc32cBit (crc32cBit (crc32cBit (crc32cBit (crc32cBit (crc32cBit (c ^^^ b.toNat))))))))

/-- CRC-32C over bytes in ascending order (R53). -/
def crc32c (bs : List Byte) : Nat := (bs.foldl crc32cByte 0xFFFFFFFF) ^^^ 0xFFFFFFFF

/-- One bit of the CRC-16 register, polynomial 0x1021, no reflection. -/
def crc16Bit (c : Nat) : Nat := if 0x8000 ≤ c then ((2 * c) % 65536) ^^^ 0x1021 else 2 * c

/-- One byte of the CRC-16 register. -/
def crc16Byte (c : Nat) (b : Byte) : Nat :=
  crc16Bit (crc16Bit (crc16Bit (crc16Bit (crc16Bit (crc16Bit (crc16Bit (crc16Bit (c ^^^ (b.toNat * 256)))))))))

/-- The CRC-16 of the head link (R343). -/
def crc16 (bs : List Byte) : Nat := bs.foldl crc16Byte 0xFFFF

/-- The sign of a number: 1, 0 or -1. -/
def sgn (x : Int) : Int := if 0 < x then 1 else if x < 0 then -1 else 0

/-- A triple with one component per axis index 0, 1, 2. -/
def V3.get (v : V3) (k : Nat) : Int := if k = 0 then v.x else if k = 1 then v.y else v.z

/-- A triple with the component of one axis replaced. -/
def V3.set (v : V3) (k : Nat) (i : Int) : V3 :=
  if k = 0 then { v with x := i } else if k = 1 then { v with y := i } else { v with z := i }

/-- A triple from its components. -/
def V3.of (f : Nat → Int) : V3 := ⟨f 0, f 1, f 2⟩

/-- The element of a list at an index, or a default. -/
def nth {α : Type} (l : List α) (i : Nat) (d : α) : α := (l[i]?).getD d

/-- The list with the element at an index replaced. -/
def setNth {α : Type} (l : List α) (i : Nat) (v : α) : List α := l.set i v

end Sys2Proof.Machine
end

