-- ==== Sys2Proof/Machine/Tab.lean ====
section
/-!
DEFINITION. Sparse tables in canonical form: reading, writing, and the predicate that says the form holds.
Registers, table words, DRAM bytes, the Cave die and the per-unit states are all such tables.
-/

namespace Sys2Proof.Machine

/-- The value at a key: the listed one, or the default at that key. -/
def tabGet {α : Type} (d : Nat → α) : Tab α → Nat → α
  | [], k => d k
  | (j, v) :: t, k => if j = k then v else tabGet d t k

/-- The table without entries for a key. -/
def tabDrop {α : Type} (k : Nat) : Tab α → Tab α
  | [] => []
  | e :: t => if e.1 = k then tabDrop k t else e :: tabDrop k t

/-- The table with an entry put before the first one of a higher key. -/
def tabPut {α : Type} (k : Nat) (v : α) : Tab α → Tab α
  | [] => [(k, v)]
  | e :: t => if k < e.1 then (k, v) :: e :: t else e :: tabPut k v t

/-- The table with one key's value replaced, kept canonical: writing the default value removes the entry. -/
def tabSet {α : Type} [DecidableEq α] (d : Nat → α) (t : Tab α) (k : Nat) (v : α) : Tab α :=
  if v = d k then tabDrop k t else tabPut k v (tabDrop k t)

/-- Every key of a table is above a bound. -/
def tabAbove {α : Type} (b : Nat) (t : Tab α) : Bool := t.all fun e => decide (b < e.1)

/-- Canonical form: keys strictly rising, no entry equal to the default. -/
def tabWf {α : Type} [DecidableEq α] (d : Nat → α) : Tab α → Bool
  | [] => true
  | (k, v) :: t => decide (v ≠ d k) && tabAbove k t && tabWf d t

end Sys2Proof.Machine
end

