-- ==== Sys2Proof/Machine/Ops.lean ====
section
/-!
DEFINITION. The shared operations: registers, units, DRAM, clocks, interrupts, and the shapes of a command's outcome.
-/

namespace Sys2Proof.Machine

/-! ### Registers (R12, R13) -/

/-- The word at a BAR0 offset. -/
def State.reg (s : State) (a : Nat) : Word := tabGet resetWord s.regs a

/-- The state with the word at a BAR0 offset replaced. -/
def State.setReg (s : State) (a : Nat) (v : Word) : State := { s with regs := tabSet resetWord s.regs a v }

/-- A field of a register. -/
def State.fld (s : State) (a : Nat) (f : Field) : Nat := field f (s.reg a)

/-- A field of a register read as a signed number. -/
def State.sfld (s : State) (a : Nat) (f : Field) : Int := signed f.width (s.fld a f)

/-- A one-bit field, or any field, as a condition: not zero. -/
def State.flag (s : State) (a : Nat) (f : Field) : Bool := decide (s.fld a f ≠ 0)

/-- Replace a field of a register. -/
def State.setFld (s : State) (a : Nat) (f : Field) (v : Nat) : State := s.setReg a (withField f (s.reg a) v)

/-- Replace a field of a register by a signed number. -/
def State.setSfld (s : State) (a : Nat) (f : Field) (v : Int) : State := s.setFld a f (unsigned f.width v)

/-- Set or clear a flag. -/
def State.setFlag (s : State) (a : Nat) (f : Field) (b : Bool) : State := s.setFld a f b.toNat

/-- Add to a saturating counter. -/
def State.satAdd (s : State) (a : Nat) (f : Field) (n : Nat) : State :=
  s.setFld a f (min (s.fld a f + n) (2 ^ f.width - 1))

/-- Set one bit of a register. -/
def State.setBit (s : State) (a : Nat) (b : Nat) (v : Bool) : State :=
  s.setReg a (BitVec.ofNat 32 (putBit (s.reg a).toNat b v))

/-- One bit of a register. -/
def State.bit (s : State) (a : Nat) (b : Nat) : Bool := bitAt (s.reg a).toNat b

/-- A word as a reset leaves it: fields of the kept access types stay, every other field takes its reset value (R12). A table
word is no register and stays. -/
def resetKeep (a : Nat) (w : Word) (keep : Access → Bool) : Word :=
  match regAt a with
  | some h => h.reg.fields.foldl (fun v f => if keep f.access then v else withField f.place v (field f.place (resetWord a))) w
  | none => w

/-- Reset the registers at offsets from lo to hi - 1, but for fields of the kept access types. -/
def State.resetRegs (s : State) (lo hi : Nat) (keep : Access → Bool) : State :=
  { s with regs := s.regs.foldl (fun t e =>
      if lo ≤ e.1 ∧ e.1 < hi then tabSet resetWord t e.1 (resetKeep e.1 e.2 keep) else t) s.regs }

/-- Clear the table words at offsets from lo to hi - 1. -/
def State.clearWords (s : State) (lo hi : Nat) : State :=
  { s with regs := s.regs.filter fun e => !(decide (lo ≤ e.1) && decide (e.1 < hi)) }

/-! ### Units -/

def State.ch (s : State) (n : Nat) : Chan := tabGet (fun _ => Chan.reset) s.chan n
def State.modCh (s : State) (n : Nat) (f : Chan → Chan) : State :=
  { s with chan := tabSet (fun _ => Chan.reset) s.chan n (f (s.ch n)) }
def State.ax (s : State) (n : Nat) : Axis := tabGet (fun _ => Axis.reset) s.srvAx n
def State.modAx (s : State) (n : Nat) (f : Axis → Axis) : State :=
  { s with srvAx := tabSet (fun _ => Axis.reset) s.srvAx n (f (s.ax n)) }
def State.sc (s : State) (n : Nat) : ServoCh := tabGet (fun _ => ServoCh.reset) s.srvCh n
def State.modSc (s : State) (n : Nat) (f : ServoCh → ServoCh) : State :=
  { s with srvCh := tabSet (fun _ => ServoCh.reset) s.srvCh n (f (s.sc n)) }
def State.ls (s : State) (n : Nat) : Laser := tabGet (fun _ => Laser.reset) s.lsr n
def State.modLs (s : State) (n : Nat) (f : Laser → Laser) : State :=
  { s with lsr := tabSet (fun _ => Laser.reset) s.lsr n (f (s.ls n)) }
def State.pt (s : State) (n : Nat) : HoopPort := tabGet (fun _ => HoopPort.reset) s.port n
def State.modPt (s : State) (n : Nat) (f : HoopPort → HoopPort) : State :=
  { s with port := tabSet (fun _ => HoopPort.reset) s.port n (f (s.pt n)) }
def State.bk (s : State) (n : Nat) : BulkTx := tabGet (fun _ => ⟨false, 0⟩) s.bulk n
def State.modBk (s : State) (n : Nat) (f : BulkTx → BulkTx) : State :=
  { s with bulk := tabSet (fun _ => ⟨false, 0⟩) s.bulk n (f (s.bk n)) }
def State.dm (s : State) (n : Nat) : Domain := tabGet (fun _ => Domain.reset) s.dom n
def State.modDm (s : State) (n : Nat) (f : Domain → Domain) : State :=
  { s with dom := tabSet (fun _ => Domain.reset) s.dom n (f (s.dm n)) }
def State.mo (s : State) (n : Nat) : Motor := tabGet (fun _ => Motor.reset) s.mot n
def State.modMo (s : State) (n : Nat) (f : Motor → Motor) : State :=
  { s with mot := tabSet (fun _ => Motor.reset) s.mot n (f (s.mo n)) }
def State.fb (s : State) (n : Nat) : Feedback := tabGet (fun _ => Feedback.reset) s.fbk n
def State.modFb (s : State) (n : Nat) (f : Feedback → Feedback) : State :=
  { s with fbk := tabSet (fun _ => Feedback.reset) s.fbk n (f (s.fb n)) }
def State.cm (s : State) (n : Nat) : CamPort := tabGet (fun _ => CamPort.reset) s.cam n
def State.modCm (s : State) (n : Nat) (f : CamPort → CamPort) : State :=
  { s with cam := tabSet (fun _ => CamPort.reset) s.cam n (f (s.cm n)) }
def State.sb (s : State) (n : Nat) : Strobe := tabGet (fun _ => Strobe.reset) s.strobe n
def State.modSb (s : State) (n : Nat) (f : Strobe → Strobe) : State :=
  { s with strobe := tabSet (fun _ => Strobe.reset) s.strobe n (f (s.sb n)) }
def State.ln (s : State) (n : Nat) : Lane := tabGet (fun _ => Lane.reset) s.lane n
def State.modLn (s : State) (n : Nat) (f : Lane → Lane) : State :=
  { s with lane := tabSet (fun _ => Lane.reset) s.lane n (f (s.ln n)) }
def State.hd (s : State) (n : Nat) : Head := tabGet (fun _ => Head.reset) s.head n
def State.modHd (s : State) (n : Nat) (f : Head → Head) : State :=
  { s with head := tabSet (fun _ => Head.reset) s.head n (f (s.hd n)) }
def State.dc (s : State) (n : Nat) : DmaCh := tabGet (fun _ => DmaCh.reset) s.dma n
def State.modDc (s : State) (n : Nat) (f : DmaCh → DmaCh) : State :=
  { s with dma := tabSet (fun _ => DmaCh.reset) s.dma n (f (s.dc n)) }
def State.et (s : State) (n : Nat) : EthPort := tabGet (fun _ => ⟨0, none⟩) s.eth n
def State.modEt (s : State) (n : Nat) (f : EthPort → EthPort) : State :=
  { s with eth := tabSet (fun _ => ⟨0, none⟩) s.eth n (f (s.et n)) }
def State.cg (s : State) (n : Nat) : CalGroup := tabGet (fun _ => ⟨false, 0⟩) s.cal n
def State.modCg (s : State) (n : Nat) (f : CalGroup → CalGroup) : State :=
  { s with cal := tabSet (fun _ => ⟨false, 0⟩) s.cal n (f (s.cg n)) }
def State.modGrp (s : State) (f : Group → Group) : State := { s with grp := f s.grp }

/-- A draw of the free-value counter: the number, and the state with the counter advanced. -/
def State.draw (s : State) : Nat × State := (s.free, { s with free := s.free + 1 })

/-- Record what leaves the device. -/
def State.emit (s : State) (o : Out) : State := { s with out := o :: s.out }

/-- Apply a state change for every number of a list, in order. -/
def State.each (s : State) (l : List Nat) (f : Nat → State → State) : State := l.foldl (fun t n => f n t) s

/-! ### Variants (R2, R3) -/

/-- Laser channels; head lanes and scan heads equal them. -/
def State.channels (s : State) : Nat :=
  match s.variant with | .t32f => 32 | .t32s => 32 | .t16 => 16 | .t08 => 8
def State.camPorts (s : State) : Nat :=
  match s.variant with | .t32f => 4 | .t32s => 0 | .t16 => 2 | .t08 => 1
def State.hasLight (s : State) : Bool :=
  match s.variant with | .t32f => true | .t32s => false | .t16 => true | .t08 => false
def State.hoopLanes (s : State) : Nat :=
  match s.variant with | .t32f => 8 | .t32s => 8 | .t16 => 4 | .t08 => 2
/-- Motion axes; feedback interfaces equal them. -/
def State.axes (s : State) : Nat :=
  match s.variant with | .t32f => 8 | .t32s => 8 | .t16 => 4 | .t08 => 4
def State.ethPorts (s : State) : Nat :=
  match s.variant with | .t32f => 2 | .t32s => 2 | .t16 => 2 | .t08 => 1
def State.ddrChannels (s : State) : Nat :=
  match s.variant with | .t32f => 4 | .t32s => 4 | .t16 => 2 | .t08 => 2
/-- Split-write mode is present; else the start-up self-test is (R10). -/
def State.splitWrite (s : State) : Bool :=
  match s.variant with | .t32f => false | .t32s => false | .t16 => true | .t08 => true
/-- GLB_CAPS of the variant (R11). -/
def State.caps (s : State) : Word :=
  match s.variant with
  | .t32f => 0x014A2320 | .t32s => 0x034A2020 | .t16 => 0x04A91290 | .t08 => 0x06A50848

/-- Channel indices of the device. -/
def State.chs (s : State) : List Nat := List.range s.channels

/-! ### Clocks (R17, R213, R222) -/

/-- One FCLK tick in units of machine time. -/
def tickU : Nat := 6400

/-- Nanoseconds in units of machine time. -/
def nsU (n : Nat) : Nat := 8000 * n

/-- Ticks in units of machine time. -/
def ticksU (n : Nat) : Nat := tickU * n

/-- One second of calendar time in its unit. -/
def calSecU : Nat := 1000000000 * 2 ^ 32

/-- Units of a domain's offset in one ps: one tick at a rate of 1/256 ppb is one unit (R217, R218). -/
def psU : Nat := 320000000

/-- A machine time as a stamp: SEC and NS exact, FRAC rounded to 2^-16 ns (R17). -/
def mtStamp (mt : Nat) : Stamp :=
  let ns := mt / 8000
  ⟨ns / 1000000000, ns % 1000000000, ((mt % 8000) * 65536 * 2 + 8000) / 16000⟩

/-- A calendar time in 2^-32 ns as a stamp: FRAC rounded with carry into NS and SEC (R17). -/
def calStampOf (c : Nat) : Stamp :=
  let r := (c + 32768) / 65536
  let ns := r / 65536
  ⟨ns / 1000000000, ns % 1000000000, r % 65536⟩

def State.stamp (s : State) : Stamp := mtStamp s.time.mt
def State.calStamp (s : State) : Stamp := calStampOf s.time.cal

/-- A machine time in the unit that holds both the exact clock and received stamps: 1/8192000 ns. -/
def fineOfMt (mt : Nat) : Nat := 1024 * mt

/-- A received stamp in the same unit. -/
def fineOfStamp (t : Stamp) : Nat := 125 * ((t.sec * 1000000000 + t.ns) * 65536 + t.frac)

/-- One tick in that unit. -/
def tickFine : Nat := 6553600

/-- The sixteen stamp bytes of a GROUP packet: SEC, NS, FRAC, two zero (R210). -/
def stampBytes (t : Stamp) : List Byte := leBytes t.sec 8 ++ leBytes t.ns 4 ++ leBytes t.frac 2 ++ [0, 0]

/-- A stamp from sixteen bytes in that order. -/
def stampAt (bs : List Byte) (off : Nat) : Stamp := ⟨leAt bs off 8, leAt bs (off + 8) 4, leAt bs (off + 12) 2⟩

/-! ### Domains (R416) -/

def dMGMT : Nat := 0
def dSEQ : Nat := 1
def dSRV : Nat := 2
def dHEAD : Nat := 3
def dHOOP : Nat := 4
def dHOST : Nat := 5
def dDDR : Nat := 6
def dCAM : Nat := 7
def dAFE : Nat := 8
def dLGT : Nat := 9
def dMOT : Nat := 10

/-- Domain d is up. -/
def State.up (s : State) (d : Nat) : Bool := bitAt (s.fld R.PWR_DOM F.PWR_DOM_UP) d

/-! ### Device DRAM (R376 to R388) -/

/-- Populated size in GiB from DDR_CFG (R377). -/
def State.dramGiB (s : State) : Nat :=
  let dens := s.fld R.DDR_CFG F.DDR_CFG_DENSITY
  let d := if dens = 1 then 12 else if dens = 2 then 16 else 8
  s.ddrChannels * 2 * (if s.flag R.DDR_CFG F.DDR_CFG_RANKS then 2 else 1) * d

/-- DRAM takes accesses: READY, and not in self-refresh (R378, R388). -/
def State.dramUp (s : State) : Bool :=
  s.flag R.DDR_STAT F.DDR_STAT_READY && !s.flag R.DDR_STAT F.DDR_STAT_SR

/-- n bytes at an offset are reachable: not beyond the populated DRAM (R377, R378). -/
def State.dramOk (s : State) (off n : Nat) : Bool :=
  s.dramUp && decide (off + n ≤ s.dramGiB * 2 ^ 30)

/-- One byte of DRAM; a byte that nothing has written is zero, as INIT leaves it (R378). -/
def State.dramByte (s : State) (a : Nat) : Byte := tabGet (fun _ => 0) s.dram a

/-- n bytes of DRAM from an offset. -/
def State.readDram (s : State) (off n : Nat) : List Byte := (List.range n).map fun i => s.dramByte (off + i)

/-- Bytes stored from an offset on. -/
def storeBytes (m : Tab Byte) (off : Nat) : List Byte → Tab Byte
  | [] => m
  | b :: bs => storeBytes (tabSet (fun _ => 0) m off b) (off + 1) bs

/-- A DRAM line reads as uncorrectable (R385). -/
def State.poisoned (s : State) (line : Nat) : Bool := tabGet (fun _ => false) s.ddr.poisoned line

/-- Some line of a range reads as uncorrectable. -/
def State.rangePoisoned (s : State) (off n : Nat) : Bool :=
  s.ddr.poisoned.any fun e => e.2 && decide (off / 64 ≤ e.1) && decide (e.1 * 64 < off + n)

/-- The marks of n lines from a line on cleared. -/
def soundLines (m : Tab Bool) (line n : Nat) : Tab Bool :=
  (List.range n).foldl (fun t i => tabSet (fun _ => false) t (line + i) false) m

/-- Bytes stored from an offset on, but for those of an uncorrectable line. -/
def storeSound (bad : Tab Bool) (m : Tab Byte) (off : Nat) : List Byte → Tab Byte
  | [] => m
  | b :: bs => storeSound bad (if tabGet (fun _ => false) bad (off / 64) then m else tabSet (fun _ => 0) m off b) (off + 1) bs

/-- Write bytes to DRAM. Nothing is written beyond the populated DRAM. A line written whole is sound again; the merge into an
uncorrectable line that is written in part is not performed (R380, R385). -/
def State.writeDram (s : State) (off : Nat) (bs : List Byte) : State :=
  if s.dramOk off bs.length then
    let first := (off + 63) / 64
    let bad := soundLines s.ddr.poisoned first ((off + bs.length) / 64 - first)
    { s with dram := storeSound bad s.dram off bs, ddr := { s.ddr with poisoned := bad } }
  else s

/-! ### MSI-X (R356 to R358) -/

/-- One vector's condition: a status register, its enable register (none: always enabled), the bits that count. -/
structure IrqRow where
  isr : Nat
  ier : Option Nat
  vec : Nat
  mask : Nat
  deriving DecidableEq, Repr

/-- The sources of R356. Vector 37 is never sent. -/
def irqRows : List IrqRow :=
  (List.range 16).map (fun n => ⟨R.DMA_ISR, some R.DMA_IER, n, 2 ^ n + 2 ^ (16 + n)⟩) ++
  [⟨R.SEQ_GRP_ISR, some R.SEQ_GRP_IER, 16, 0xFFFFFFFF⟩, ⟨R.SRV_ISR, some R.SRV_IER, 17, 0xFFFFFFFF⟩,
   ⟨R.LSR_ISR, some R.LSR_IER, 18, 0xFFFFFFFF⟩, ⟨R.STI_ISR, some R.STI_IER, 19, 0xFFFFFFFF⟩,
   ⟨R.HOOP_ISR, some R.HOOP_IER, 20, 0xFFFFFFFF⟩, ⟨R.TIM_ISR, some R.TIM_IER, 21, 0xFFFFFFFF⟩,
   ⟨R.LANE_ISR, some R.LANE_IER, 22, 0xFFFFFFFF⟩, ⟨R.HL_ISR, some R.HL_IER, 23, 0xFFFFFFFF⟩,
   ⟨R.CAM_ISR, some R.CAM_IER, 24, 0xFFFFFFFF⟩, ⟨R.LGT_ISR, some R.LGT_IER, 25, 0xFFFFFFFF⟩,
   ⟨R.MOT_ISR, some R.MOT_IER, 26, 0xFFFFFFFF⟩, ⟨R.FBK_ISR, some R.FBK_IER, 27, 0xFFFFFFFF⟩,
   ⟨R.ETH_ISR, some R.ETH_IER, 28, 0xFF⟩, ⟨R.ETH_ISR, some R.ETH_IER, 29, 0xFF00⟩,
   ⟨R.PCI_ISR, some R.PCI_IER, 30, 0xFFFFFFFF⟩, ⟨R.PWR_ISR, some R.PWR_IER, 31, 0xFFFFFFFF⟩,
   ⟨R.HK_ISR, some R.HK_IER, 32, 0xFFFFFFFF⟩, ⟨R.CAVE_ISR, some R.CAVE_IER, 33, 0xFFFFFFFF⟩,
   ⟨R.CAL_ISR, some R.CAL_IER, 34, 0xFFFFFFFF⟩, ⟨R.INTG_ISR, some R.INTG_IER, 35, 0xFFFFFFFF⟩,
   ⟨R.BOOT_ISR, some R.BOOT_IER, 36, 0xFFFFFFFF⟩] ++
  (List.range 26).map (fun b => ⟨R.PCI_FWIRQ, none, 38 + b, 2 ^ b⟩)

/-- A source's condition: a status bit is set together with its enable bit (R357). -/
def State.irqCond (s : State) (r : IrqRow) : Bool :=
  let e := match r.ier with | some a => (s.reg a).toNat | none => 0xFFFFFFFF
  decide (((s.reg r.isr).toNat &&& e) &&& r.mask ≠ 0)

/-- A vector's control word in the MSI-X table (R353). -/
def msixCtl (v : Nat) : Nat := 0x28800C + 16 * v

/-- The vector or the function is masked. -/
def State.vecMasked (s : State) (v : Nat) : Bool := s.pci.funcMask || s.bit (msixCtl v) 0

/-- Send a vector's message, or set its pending bit while it is masked (R357). -/
def State.sendVec (s : State) (v : Nat) : State :=
  if s.vecMasked v then { s with pci := { s.pci with pba := putBit s.pci.pba v true } }
  else s.emit (.msix v)

/-- Clear a vector's pending bit (R357). -/
def State.clearVec (s : State) (v : Nat) : State := { s with pci := { s.pci with pba := putBit s.pci.pba v false } }

/-- After a change of a status register: a condition that became true sends, one that became false clears its pending bit. -/
def irqChanged (old : State) : List IrqRow → State → State
  | [], s => s
  | r :: rs, s =>
    irqChanged old rs
      (if s.irqCond r then (if old.irqCond r then s else s.sendVec r.vec) else s.clearVec r.vec)

/-- After a host or firmware write to a status or enable register: every condition left true sends again (R357). -/
def irqWritten : List IrqRow → State → State
  | [], s => s
  | r :: rs, s => irqWritten rs (if s.irqCond r then s.sendVec r.vec else s.clearVec r.vec)

/-- The rows that a status register drives. -/
def isrRows (a : Nat) : List IrqRow := irqRows.filter fun r => decide (r.isr = a)

/-- The rows that a written status or enable register belongs to. -/
def irqRowsOf (a : Nat) : List IrqRow := irqRows.filter fun r => decide (r.isr = a ∨ r.ier = some a)

/-- Set a flag of a status register and raise its vector. -/
def State.raise (s : State) (a : Nat) (f : Field) : State :=
  irqChanged s (isrRows a) (s.setReg a (s.reg a ||| BitVec.ofNat 32 (fieldMask f)))

/-- Set one bit of a status register and raise its vector. -/
def State.raiseBit (s : State) (a b : Nat) : State := s.raise a ⟨b, 1⟩

/-! ### Shapes of an outcome -/

/-- The outcome of a meaning. -/
abbrev Res := Host.Outcome State Fault Refusal

/-- An event that takes place only under its condition; where the condition does not hold, the command is no occurrence. -/
def occurs (c : Bool) (s : State) (f : State → State) : Res := .next (if c then f s else s)

/-- A command on unit n: the largest variant has limit units, this device has present ones. A number no variant has is a fault;
a unit absent on this device does nothing (R4). -/
def onUnit (n present limit : Nat) (s : State) (f : State → State) : Res :=
  if n < limit then .next (if n < present then f s else s) else .fault .noSuchUnit

/-- Capture an access to an absent unit (R5, R6). -/
def State.absent (s : State) (src : Source) (addr : Nat) (write : Bool) : State :=
  if s.flag R.GLB_STAT F.GLB_STAT_ABSENT_ACCESS then s
  else
    let k := match src with | .host => 0 | .core _ => 1 | .hoop => 2
    let s := s.setFlag R.GLB_STAT F.GLB_STAT_ABSENT_ACCESS true
    s.setReg R.GLB_ABSENT_ADDR
      (withField F.GLB_ABSENT_ADDR_SRC
        (withField F.GLB_ABSENT_ADDR_WRITE (withField F.GLB_ABSENT_ADDR_OFFSET 0 addr) write.toNat) k)

/-- A host register write on unit n at an offset: an absent unit's window ignores it and captures the access (R4, R5). -/
def onUnitWrite (n present limit addr : Nat) (s : State) (f : State → State) : Res :=
  if n < limit then .next (if n < present then f s else s.absent .host addr true) else .fault .noSuchUnit

/-- A register access at an address outside BAR0 or off a word boundary is a fault. -/
def onAddr (a : Nat) (s : State) (f : State → State) : Res :=
  if a < 0x4000000 ∧ a % 4 = 0 then .next (f s) else .fault .noSuchAddress

end Sys2Proof.Machine
end

