-- ==== Sys2Proof/Machine/Records.lean ====
section
/-!
DEFINITION. Event records (R123 to R126), Cave records as posted (R440 to R446), integrity detections (R392, R394, R402).
-/

namespace Sys2Proof.Machine

/-! ### Event ring -/

/-- The 64 bytes of a record (R124). -/
def recordBytes (code chn layer stime : Nat) (cal : Stamp) (d1 d2 : Nat) : List Byte :=
  leBytes code 2 ++ leBytes chn 1 ++ [0] ++ leBytes layer 4 ++ leBytes (stime % 2 ^ 48) 8 ++
  leBytes cal.sec 8 ++ leBytes cal.ns 4 ++ leBytes cal.frac 2 ++ [0, 0] ++
  leBytes (d1 % 2 ^ 64) 8 ++ leBytes (d2 % 2 ^ 64) 8 ++ zeros 16

/-- Records that the ring holds. -/
def State.evtSize (s : State) : Nat := 2 ^ s.fld R.SEQ_EVT_CTL F.SEQ_EVT_CTL_LOG2

/-- Records written and not yet read, modulo the ring size. -/
def State.evtFill (s : State) : Nat :=
  (s.fld R.SEQ_EVT_WR F.SEQ_EVT_WR_INDEX + s.evtSize - s.fld R.SEQ_EVT_RD F.SEQ_EVT_RD_INDEX) % s.evtSize

/-- The ring is full (R123). -/
def State.evtFull (s : State) : Bool := decide (s.evtFill + 1 = s.evtSize)

/-- DRAM offset of the record that SEQ_EVT_WR names. -/
def State.evtAddr (s : State) : Nat :=
  s.fld R.SEQ_EVT_BASE F.SEQ_EVT_BASE_LINE * 64 + 64 * s.fld R.SEQ_EVT_WR F.SEQ_EVT_WR_INDEX

/-- Write one record, advance SEQ_EVT_WR, and raise EVT at the threshold (R126). -/
def State.evtWrite (s : State) (code chn stime : Nat) (cal : Stamp) (d1 d2 : Nat) : State :=
  let s := s.writeDram s.evtAddr (recordBytes code chn s.grp.layer stime cal d1 d2)
  let s := s.setFld R.SEQ_EVT_WR F.SEQ_EVT_WR_INDEX ((s.fld R.SEQ_EVT_WR F.SEQ_EVT_WR_INDEX + 1) % s.evtSize)
  if s.fld R.SEQ_EVT_THRESH F.SEQ_EVT_THRESH_LEVEL ≤ s.evtFill then s.raise R.SEQ_GRP_ISR F.SEQ_GRP_ISR_EVT else s

/-- Count a dropped record (R126). -/
def State.evtLose (s : State) : State :=
  (s.satAdd R.SEQ_EVT_DROP F.SEQ_EVT_DROP_COUNT 1).modGrp fun g => { g with lostSince := g.lostSince + 1 }

/-- Post a record with a schedule time and a calendar stamp of its own: dropped while the ring is off, full or unreachable; after
a loss the first record with space is 0xFF07 with the count (R123, R126, R427). The 0xFF07 record is written when the next record is
posted; where it fills the ring, that record is dropped (DESIGN CHOICE, log entry 93). -/
def State.postFull (s : State) (code chn stime : Nat) (cal : Stamp) (d1 d2 : Nat) : State :=
  if !s.flag R.SEQ_EVT_CTL F.SEQ_EVT_CTL_EN || !s.dramOk s.evtAddr 64 || s.evtFull then s.evtLose
  else if s.grp.lostSince = 0 then s.evtWrite code chn stime cal d1 d2
  else
    let s := (s.evtWrite 0xFF07 0xFF s.grp.s s.calStamp s.grp.lostSince 0).modGrp fun g => { g with lostSince := 0 }
    if s.evtFull then s.evtLose else s.evtWrite code chn stime cal d1 d2

/-- Post a record with a schedule time of its own. -/
def State.postAt (s : State) (code chn stime d1 d2 : Nat) : State := s.postFull code chn stime s.calStamp d1 d2

/-- Post a record at the present schedule time, or the last one while no layer runs (R125). -/
def State.post (s : State) (code chn d1 d2 : Nat) : State := s.postAt code chn s.grp.s d1 d2

/-! ### Cave posting -/

/-- Calendar time has not been set since PORN, or is coarse (R222, R225). -/
def State.coarse (s : State) : Bool :=
  !s.flag R.TIM_CAL_CMD F.TIM_CAL_CMD_VALID || s.flag R.TIM_CAL_CMD F.TIM_CAL_CMD_COARSE

/-- Normal records are held back in the queue: the ring is frozen, a clear runs, or the scan has not completed (R446). -/
def State.caveHeld (s : State) : Bool :=
  s.flag R.CAVE_STAT F.CAVE_STAT_FROZEN || s.flag R.CAVE_STAT F.CAVE_STAT_CLEARING || !s.flag R.CAVE_STAT F.CAVE_STAT_READY

/-- A record as posted now (R440, R441). Sources: 0 host, 1 firmware, 2 Hoop, 3 device. -/
def State.caveRec (s : State) (code : Nat) (crit : Bool) (part src chn : Nat) (payload : List Byte) : CaveRec :=
  { code := code, crit := crit, coarse := s.coarse
    queued := if crit then !s.flag R.CAVE_STAT F.CAVE_STAT_READY else s.caveHeld
    part := part, src := src, channel := chn, layer := s.cave.shLayer, cal := s.calStamp, payload := padTo 28 payload }

/-- Post a record: a critical one to the critical stage; a normal one to the queue of 64, or dropped and counted when full (R446). -/
def State.cavePost (s : State) (code : Nat) (crit : Bool) (part src chn : Nat) (payload : List Byte) : State :=
  let r := s.caveRec code crit part src chn payload
  if crit then { s with cave := { s.cave with crit := s.cave.crit ++ [r] } }
  else if s.cave.queue.length < 64 then { s with cave := { s.cave with queue := s.cave.queue ++ [r] } }
  else (s.satAdd R.CAVE_LOST F.CAVE_LOST_COUNT 1).raise R.CAVE_ISR F.CAVE_ISR_LOST

/-- Bring the layer shadow up to the group unit's present state (R443). -/
def State.syncShadow (s : State) : State :=
  let ys := s.chs.map fun n => s.fld (R.SEQ_YDONE n) F.SEQ_YDONE_YIELD
  { s with cave := { s.cave with shLayer := s.grp.layer, shMask := s.grp.pmask, shS := s.grp.s, shYield := ys } }

/-- The yield index of R46 for a channel from the shadow: 0xFFFF for one that does not take part. -/
def State.shadowYield (s : State) (n : Nat) : Nat :=
  if bitAt s.cave.shMask n then nth s.cave.shYield n 0xFFFF else 0xFFFF

/-- Yield indices of channels from a to b - 1 as bytes. -/
def State.yieldBytes (s : State) (a b : Nat) : List Byte :=
  (List.range (b - a)).flatMap fun i => leBytes (s.shadowYield (a + i)) 2

/-- The abort group of R442: three records with consecutive SEQ, from the shadow. -/
def State.caveAbort (s : State) (cause kind : Nat) : State :=
  let s := s.syncShadow
  let p0 := leBytes cause 1 ++ leBytes kind 1 ++ leBytes s.cave.shS 6 ++ leBytes s.cave.shMask 4 ++ s.yieldBytes 0 8
  let s := s.cavePost 0x0003 true 0 3 0xFF p0
  let s := s.cavePost 0x0004 true 1 3 0xFF (s.yieldBytes 8 22)
  s.cavePost 0x0004 true 2 3 0xFF (s.yieldBytes 22 32)

/-! ### Integrity detections -/

/-- The group is Armed, Running or Holding. -/
def State.layerArmed (s : State) : Bool :=
  let g := s.fld R.SEQ_GRP_STAT F.SEQ_GRP_STAT_STATE
  decide (g = 1 ∨ g = 2 ∨ g = 3)

/-- At most one integrity record for each channel in an armed layer, at most one each second outside (R444). -/
def State.caveIntegrity (s : State) (chn : Nat) (d1 : Nat) : State :=
  let last := s.cave.intgAt.find? fun e => decide (e.1 = chn)
  let again :=
    match last with
    | some e => if s.layerArmed then decide (s.grp.armedAt ≤ e.2) else decide (s.time.mt < e.2 + ticksU 1250000000)
    | none => false
  if again then s.satAdd R.CAVE_SUPP F.CAVE_SUPP_COUNT 1
  else
    let pay := leBytes d1 8 ++ leBytes (s.fld R.INTG_PASS F.INTG_PASS_COUNT) 4
    let s := s.cavePost 0x0008 true 0 3 chn pay
    let rest := s.cave.intgAt.filter fun e => decide (e.1 ≠ chn)
    { s with cave := { s.cave with intgAt := (chn, s.time.mt) :: rest } }

/-- Post the 0xFF10 record of a detection, at most one of each KIND for each channel or class in 1,250,000 ticks (R402). -/
def State.intgRecord (s : State) (kind chn d1 : Nat) (cls : Nat) : State :=
  let key := if chn = 0xFF then 256 + cls else chn
  let recent := s.intg.lastRec.any fun e =>
    decide (e.1 = kind) && decide (e.2.1 = key) && decide (s.time.mt < e.2.2 + ticksU 1250000)
  if recent then s.satAdd R.INTG_RECDROP F.INTG_RECDROP_COUNT 1
  else
    let rest := s.intg.lastRec.filter fun e => !(decide (e.1 = kind) && decide (e.2.1 = key))
    let s := { s with intg := { s.intg with lastRec := (kind, key, s.time.mt) :: rest } }
    s.post 0xFF10 chn d1 (s.fld R.INTG_PASS F.INTG_PASS_COUNT)

/-- DATA of a 0xFF10 record (R402). -/
def intgData (kind cls axis index : Nat) : Nat := kind + cls * 16 + axis * 256 + index * 65536

/-- DATA of the 0xFF10 record of the last uncorrectable word, as INTG_LAST names it; the Cave record carries the same (R392, R402, R442). -/
def State.lastUe (s : State) : Nat :=
  intgData (s.fld R.INTG_LAST F.INTG_LAST_KIND) (s.fld R.INTG_LAST F.INTG_LAST_CLASS) 0 (s.fld R.INTG_LAST F.INTG_LAST_INDEX)

/-- DATA of the report of an uncorrectable DRAM line, whose class and index are free (R385; log entry 54). -/
def lineData (line : Nat) : Nat := intgData 2 (Config.dramReport line 0 % 16) 0 (Config.dramReport line 1 % 2 ^ 24)

/-- INTG_LAST takes a detection: CLASS or UNIT, and the word index, or the channel for KIND 1 (R404). -/
def State.intgLast (s : State) (kind cls index : Nat) : State :=
  s.setReg R.INTG_LAST (withField F.INTG_LAST_INDEX (withField F.INTG_LAST_CLASS (withField F.INTG_LAST_KIND 0 kind) cls) index)

/-- A residue mismatch (R392): counter, INTG_LAST, flag, record. -/
def State.detectResidue (s : State) (unit chn axis : Nat) : State :=
  let s := s.satAdd R.INTG_RES F.INTG_RES_COUNT 1
  let s := s.intgLast 1 unit (chn % 32)
  let s := s.raise R.INTG_ISR F.INTG_ISR_RESIDUE
  s.intgRecord 1 chn (intgData 1 unit axis 0) unit

/-- A stream CRC failure (R394): counter, flag, record. -/
def State.detectCrc (s : State) (cls chn : Nat) : State :=
  let s := s.satAdd R.INTG_CRC F.INTG_CRC_COUNT 1
  let s := s.intgLast 6 cls 0
  let s := s.raise R.INTG_ISR F.INTG_ISR_CRC
  s.intgRecord 6 chn (intgData 6 cls 0 0) cls

/-- An uncorrectable word met at a read (KIND 2) or by the scrubber (KIND 3) (R392, R396). -/
def State.detectUe (s : State) (kind cls chn index : Nat) : State :=
  let s := s.satAdd R.INTG_UE F.INTG_UE_COUNT 1
  let s := s.intgLast kind cls index
  let s := s.raise R.INTG_ISR F.INTG_ISR_UE
  s.intgRecord kind chn (intgData kind cls 0 index) cls

/-! ### SECDED words (R393, R397 to R401) -/

/-- The class of a word of the table SRAM window, with the lowest address of its class there (R393). -/
def classOf (a : Nat) : Option (Nat × Nat) :=
  if 0x2000000 ≤ a ∧ a < 0x3000000 then some (2, 0x2000000)
  else if 0x1080000 ≤ a ∧ a < 0x1100000 then some (3, 0x1080000)
  else if 0x1100000 ≤ a ∧ a < 0x1800000 then some (5, 0x1100000)
  else if 0x1800000 ≤ a ∧ a < 0x1900000 then some (6, 0x1800000)
  else if 0x1A00000 ≤ a ∧ a < 0x1B00000 then some (7, 0x1A00000)
  else if 0x1900000 ≤ a ∧ a < 0x2000000 then some (8, 0x1900000)
  else none

/-- The check state of a stored word: 0 sound, 1 a single-bit error, 2 uncorrectable. -/
def State.wordState (s : State) (a : Nat) : Nat := tabGet (fun _ => 0) s.intg.planted a

/-- Words in a list of address ranges (first address, bytes) that are not sound, with their check state. -/
def State.unsound (s : State) (ranges : List (Nat × Nat)) : List (Nat × Nat) :=
  s.intg.planted.filter fun e => ranges.any fun r => decide (r.1 ≤ e.1) && decide (e.1 < r.1 + r.2)

/-- A functional read of words: single-bit errors are corrected in flight and counted; the first uncorrectable word is reported
with its class and index (R393). -/
def State.readWords (s : State) (chn : Nat) (ranges : List (Nat × Nat)) : Bool × State :=
  let bad := s.unsound ranges
  let ce := (bad.filter fun e => decide (e.2 = 1)).length
  let s := if ce = 0 then s else (s.satAdd R.INTG_CE F.INTG_CE_COUNT ce).raise R.INTG_ISR F.INTG_ISR_CE
  match bad.find? fun e => decide (2 ≤ e.2) with
  | some e =>
    match classOf e.1 with
    | some (c, lo) => (true, s.detectUe 2 c chn ((e.1 - lo) / 4))
    | none => (true, s)
  | none => (false, s)

/-- Bits set in a number below 2^40. -/
def popcount (n : Nat) : Nat := (List.range 40).foldl (fun c i => if bitAt n i then c + 1 else c) 0

/-- The bits of a word and of its check bits that differ from a code word (R401). -/
def splitDistance (ref v : Word) (x : Nat) : Nat := popcount (ref ^^^ v).toNat + popcount x

/-- Store a word that the host writes into the table SRAM window. With split write armed the word takes the check bits of REF,
XORed with XOR (R401): one bit from a code word it reads corrected, two bits away it is uncorrectable, further away its reading is
free. A word written otherwise is sound. -/
def State.tableStore (s : State) (a mask : Nat) (v : Word) : State :=
  let w : Word := BitVec.ofNat 32 (v.toNat &&& mask)
  let set (s : State) (k : Nat) (w : Word) : State :=
    { s.setReg a w with intg := { s.intg with planted := tabSet (fun _ => 0) s.intg.planted a k } }
  if s.splitWrite && s.flag R.INTG_SPLIT_CTL F.INTG_SPLIT_CTL_EN then
    let ref := s.reg R.INTG_SPLIT_REF
    let x := s.fld R.INTG_SPLIT_CTL F.INTG_SPLIT_CTL_XOR
    let s := s.setFlag R.INTG_SPLIT_CTL F.INTG_SPLIT_CTL_EN false
    let d := splitDistance ref w x
    if d = 0 then set s 0 w
    else if d = 1 then set s 1 ref
    else if d = 2 then set s 2 w
    else set s (Config.secdedState w ref x) (Config.secdedWord w ref x)
  else set s 0 w

/-- The device itself writes a table word: it is sound again (R157, R393). -/
def State.wordStore (s : State) (a : Nat) (w : Word) : State :=
  { s.setReg a w with intg := { s.intg with planted := tabSet (fun _ => 0) s.intg.planted a 0 } }

/-- A forced residue of R401 for a unit, channel and axis fires once: true, and no longer armed. -/
def State.takeForced (s : State) (unit chn axis : Nat) : Bool × State :=
  let hit := s.intg.forced.any fun f => decide (f = (unit, chn, axis))
  let left := s.intg.forced.filter fun f => decide (f ≠ (unit, chn, axis))
  (hit, if hit then { s with intg := { s.intg with forced := left } } else s)

/-- A unit's operation meets an uncorrectable word of a class outside the table SRAM window: true, the word reported, and written anew.
Which operation reads the word is not published: DESIGN CHOICE, the unit's next one (log 112). -/
def State.hiddenUe (s : State) (cls unit chn : Nat) : Bool × State :=
  match s.intg.hidden.find? fun e => decide (e.1 = cls) && decide (Config.wordHome cls e.2 = unit) with
  | some e =>
    let left := s.intg.hidden.filter fun x => decide (x ≠ e)
    (true, ({ s with intg := { s.intg with hidden := left } } : State).detectUe 2 cls chn e.2)
  | none => (false, s)

end Sys2Proof.Machine
end

