-- ==== Sys2Proof/Machine/Sha.lean ====
section
/-!
DEFINITION. SHA-256 (FIPS 180-4) and HMAC-SHA-256 (FIPS 198-1), as the clear of the Cave uses them (R452).
-/

namespace Sys2Proof.Machine

/-- The round constants: the first 32 bits of the fractional parts of the cube roots of the first 64 primes. -/
def shaK : List Word :=
  [0x428A2F98, 0x71374491, 0xB5C0FBCF, 0xE9B5DBA5, 0x3956C25B, 0x59F111F1, 0x923F82A4, 0xAB1C5ED5] ++
  [0xD807AA98, 0x12835B01, 0x243185BE, 0x550C7DC3, 0x72BE5D74, 0x80DEB1FE, 0x9BDC06A7, 0xC19BF174] ++
  [0xE49B69C1, 0xEFBE4786, 0x0FC19DC6, 0x240CA1CC, 0x2DE92C6F, 0x4A7484AA, 0x5CB0A9DC, 0x76F988DA] ++
  [0x983E5152, 0xA831C66D, 0xB00327C8, 0xBF597FC7, 0xC6E00BF3, 0xD5A79147, 0x06CA6351, 0x14292967] ++
  [0x27B70A85, 0x2E1B2138, 0x4D2C6DFC, 0x53380D13, 0x650A7354, 0x766A0ABB, 0x81C2C92E, 0x92722C85] ++
  [0xA2BFE8A1, 0xA81A664B, 0xC24B8B70, 0xC76C51A3, 0xD192E819, 0xD6990624, 0xF40E3585, 0x106AA070] ++
  [0x19A4C116, 0x1E376C08, 0x2748774C, 0x34B0BCB5, 0x391C0CB3, 0x4ED8AA4A, 0x5B9CCA4F, 0x682E6FF3] ++
  [0x748F82EE, 0x78A5636F, 0x84C87814, 0x8CC70208, 0x90BEFFFA, 0xA4506CEB, 0xBEF9A3F7, 0xC67178F2]

/-- The initial hash value: the first 32 bits of the fractional parts of the square roots of the first 8 primes. -/
def shaH : List Word := [0x6A09E667, 0xBB67AE85, 0x3C6EF372, 0xA54FF53A, 0x510E527F, 0x9B05688C, 0x1F83D9AB, 0x5BE0CD19]

/-- The eight working variables. -/
structure ShaState where
  a : Word
  b : Word
  c : Word
  d : Word
  e : Word
  f : Word
  g : Word
  h : Word
  deriving DecidableEq, Repr

/-- One round with its constant plus schedule word. -/
def shaRound (s : ShaState) (kw : Word) : ShaState :=
  let s1 := s.e.rotateRight 6 ^^^ s.e.rotateRight 11 ^^^ s.e.rotateRight 25
  let ch := (s.e &&& s.f) ^^^ (~~~s.e &&& s.g)
  let t1 := s.h + s1 + ch + kw
  let s0 := s.a.rotateRight 2 ^^^ s.a.rotateRight 13 ^^^ s.a.rotateRight 22
  let maj := (s.a &&& s.b) ^^^ (s.a &&& s.c) ^^^ (s.b &&& s.c)
  ⟨t1 + s0 + maj, s.a, s.b, s.c, s.d + t1, s.e, s.f, s.g⟩

/-- The next schedule word from the last sixteen, newest first. -/
def shaNext (w : List Word) : Word :=
  let x (i : Nat) : Word := nth w (i - 1) 0
  let a := x 15
  let b := x 2
  (b.rotateRight 17 ^^^ b.rotateRight 19 ^^^ (b >>> 10)) + x 7 + (a.rotateRight 7 ^^^ a.rotateRight 18 ^^^ (a >>> 3)) + x 16

/-- The schedule, newest first, extended by n words. -/
def shaExtend : Nat → List Word → List Word
  | 0, w => w
  | n + 1, w => shaExtend n (shaNext w :: w)

/-- The sixteen big-endian words of a block. -/
def shaWords : List Byte → List Word
  | b0 :: b1 :: b2 :: b3 :: rest => BitVec.ofNat 32 (leNat [b3, b2, b1, b0]) :: shaWords rest
  | _ => []

/-- Compress one block into the hash value. -/
def shaBlock (h : List Word) (block : List Byte) : List Word :=
  let w := (shaExtend 48 (shaWords block).reverse).reverse
  let x (i : Nat) : Word := nth h i 0
  let s := (List.zipWith (· + ·) shaK w).foldl shaRound ⟨x 0, x 1, x 2, x 3, x 4, x 5, x 6, x 7⟩
  List.zipWith (· + ·) h [s.a, s.b, s.c, s.d, s.e, s.f, s.g, s.h]

/-- A byte list in blocks of 64, at most n of them. -/
def shaBlocks : Nat → List Byte → List (List Byte)
  | 0, _ => []
  | n + 1, bs => if bs = [] then [] else bs.take 64 :: shaBlocks n (bs.drop 64)

/-- The padded message: 0x80, zeros, the bit length in eight big-endian bytes. -/
def shaPad (bs : List Byte) : List Byte :=
  let n := bs.length
  bs ++ [0x80] ++ zeros ((119 - n % 64) % 64) ++ (leBytes (8 * n) 8).reverse

/-- SHA-256. -/
def sha256 (bs : List Byte) : List Byte :=
  let p := shaPad bs
  ((shaBlocks (p.length / 64) p).foldl shaBlock shaH).flatMap fun w => (leBytes w.toNat 4).reverse

/-- HMAC-SHA-256 with a key of at most 64 bytes. -/
def hmacSha256 (key msg : List Byte) : List Byte :=
  let k := padTo 64 key
  sha256 (k.map (· ^^^ 0x5C) ++ sha256 (k.map (· ^^^ 0x36) ++ msg))

end Sys2Proof.Machine
end

