-- ==== Sys2Proof/Machine/Cave.lean ====
section
/-!
DEFINITION. The Cave event recorder: the ring on the die, the stages, freeze and reading, the authorised clear (R440 to R455).
What posts a record is in Records.lean.
-/

namespace Sys2Proof.Machine

/-! ### The die (R440, R441, R447) -/

/-- Slots of the ring. -/
def slots : Nat := 16384

/-- The 64 bytes of a slot. -/
def State.slotBytes (s : State) (k : Nat) : List Byte := (List.range 64).map fun i => tabGet (fun _ => 0) s.cave.die (64 * k + i)

/-- A slot written. -/
def State.setSlot (s : State) (k : Nat) (bs : List Byte) : State :=
  { s with cave := { s.cave with die := storeBytes s.cave.die (64 * k) bs } }

/-- CRC, EPOCH, SEQ and CODE of a record. -/
def recCrcOk (b : List Byte) : Bool := decide (crc32c (b.take 0x3C) = leAt b 0x3C 4)
def recEpoch (b : List Byte) : Nat := leAt b 4 2
def recSeq (b : List Byte) : Nat := leAt b 6 6
def recCode (b : List Byte) : Nat := leAt b 0 2

/-- The current epoch. -/
def State.epoch (s : State) : Nat := s.fld R.CAVE_STAT F.CAVE_STAT_EPOCH

/-- A slot holds a valid record (R441). -/
def State.slotValid (s : State) (k : Nat) : Bool :=
  let b := s.slotBytes k
  recCrcOk b && decide (recEpoch b = s.epoch)

/-- The slot of a SEQ. -/
def State.slotOf (s : State) (seq : Nat) : Nat := (s.cave.base + seq) % slots

/-- The bytes of a record with its EPOCH and SEQ (R440). -/
def CaveRec.bytes (r : CaveRec) (epoch seq : Nat) : List Byte :=
  let flags := r.crit.toNat + 2 * r.coarse.toNat + 4 * r.queued.toNat + 8 * (r.part % 4) + 32 * (r.src % 4)
  let b := leBytes r.code 2 ++ leBytes flags 1 ++ leBytes r.channel 1 ++ leBytes epoch 2 ++ leBytes seq 6 ++ leBytes r.layer 4 ++
    leBytes r.cal.sec 8 ++ leBytes r.cal.ns 4 ++ leBytes r.cal.frac 2 ++ [0, 0] ++ padTo 28 r.payload
  b ++ leBytes (crc32c b) 4

/-- A record gets the next SEQ and its slot (R441, R447, R449). -/
def State.caveWrite (s : State) (r : CaveRec) : State :=
  let q := s.cave.nextSeq
  let s := s.setSlot (s.slotOf q) (r.bytes s.epoch q)
  let s := { s with cave := { s.cave with nextSeq := q + 1 } }
  let s := (s.setReg R.CAVE_HEAD_LO (BitVec.ofNat 32 q)).setFld R.CAVE_HEAD_HI F.CAVE_HEAD_HI_SEQ (q / 2 ^ 32)
  if r.crit then
    let s := s.raise R.CAVE_ISR F.CAVE_ISR_CRIT
    if s.flag R.CAVE_STAT F.CAVE_STAT_FROZEN then s.satAdd R.CAVE_FRZ F.CAVE_FRZ_CRIT 1 else s
  else s

/-! ### Writing (R446, R453) -/

/-- Behind the queue, once it has room, comes the record that counts the lost ones. -/
def State.caveLost (s : State) : State :=
  let n := s.fld R.CAVE_LOST F.CAVE_LOST_COUNT
  if n ≠ 0 ∧ s.cave.queue.length < 64 then (s.cavePost 0x000C false 0 3 0xFF (leBytes n 4)).setReg R.CAVE_LOST 0 else s

/-- The clear's commit (R453): the clear record with SEQ 0 of the next epoch in the slot after the head. -/
def State.caveCommit (s : State) (r : CaveRec) : State :=
  let b := s.slotOf s.cave.nextSeq
  let e := s.epoch + 1
  let s := { s with cave := { s.cave with base := b, nextSeq := 0, clearRec := none } }
  (s.setFld R.CAVE_STAT F.CAVE_STAT_EPOCH e).caveWrite r

/-- CAVE_RECORD_WRITE (R446, R453): the recorder writes the next record: the commit of a clear, the critical stage, then the queue
unless it is held. -/
def execCaveRecordWrite (s : State) : Res :=
  occurs (s.flag R.CAVE_STAT F.CAVE_STAT_READY) s fun s =>
    match s.cave.clearRec with
    | some r => s.caveCommit r
    | none =>
      match s.cave.crit with
      | r :: rest => ({ s with cave := { s.cave with crit := rest } } : State).caveWrite r
      | [] =>
        if s.caveHeld then s
        else
          match s.cave.queue with
          | r :: rest => (({ s with cave := { s.cave with queue := rest } } : State).caveWrite r).caveLost
          | [] => s

/-! ### The scan at power-up (R448) -/

/-- Slots that hold a byte other than zero. -/
def State.usedSlots (s : State) : List Nat :=
  s.cave.die.foldl (fun l e => match l with | k :: _ => if k = e.1 / 64 then l else e.1 / 64 :: l | [] => [e.1 / 64]) []

/-- The record with the highest SEQ among some with a condition. -/
def newest (p : List Byte → Bool) : List (Nat × List Byte) → Option (Nat × List Byte)
  | [] => none
  | x :: xs =>
    match newest p xs with
    | some y => if p x.2 && decide (recSeq y.2 < recSeq x.2) then some x else some y
    | none => if p x.2 then some x else none

/-- The payload of the power-up record (R442): OPEN, the layer of the newest layer-start record, and the wake source. -/
def powerUpPayload (l : List (Nat × List Byte)) (wake : Nat) : List Byte :=
  match newest (fun b => decide (recCode b = 0x000A)) l with
  | some x =>
    let done := l.any fun y => decide (recCode y.2 = 0x000B ∨ recCode y.2 = 0x0003) && decide (recSeq x.2 < recSeq y.2)
    leBytes (if done then 0 else 1) 4 ++ leBytes (leAt x.2 0xC 4) 4 ++ leBytes wake 4
  | none => leBytes 0 8 ++ leBytes wake 4

/-- CAVE_SCAN_DONE (R448, R454): epoch, head and B from the records on the die; older ones are erased; READY, then the power-up record
before any other. -/
def execCaveScanDone (s : State) : Res :=
  occurs (!s.flag R.CAVE_STAT F.CAVE_STAT_READY) s fun s =>
    let all := (s.usedSlots.map fun k => (k, s.slotBytes k)).filter fun x => recCrcOk x.2
    let e := all.foldl (fun m x => max m (recEpoch x.2)) 0
    let live := all.filter fun x => decide (recEpoch x.2 = e)
    let s := (all.filter fun x => decide (recEpoch x.2 ≠ e)).foldl (fun t x => t.setSlot x.1 (zeros 64)) s
    let s := s.setFld R.CAVE_STAT F.CAVE_STAT_EPOCH e
    let s :=
      match newest (fun _ => true) live with
      | some x =>
        let q := recSeq x.2
        let s := { s with cave := { s.cave with base := (x.1 + slots - q % slots) % slots, nextSeq := q + 1 } }
        (s.setReg R.CAVE_HEAD_LO (BitVec.ofNat 32 q)).setFld R.CAVE_HEAD_HI F.CAVE_HEAD_HI_SEQ (q / 2 ^ 32)
      | none => { s with cave := { s.cave with base := 0, nextSeq := 0 } }
    let fails := match newest (fun b => decide (recCode b = 0x000E)) live with | some x => leAt x.2 0x24 4 | none => 0
    let s := s.setFld R.CAVE_CLR_STAT F.CAVE_CLR_STAT_FAILS (min fails 65535)
    let s := (s.setFlag R.CAVE_STAT F.CAVE_STAT_READY true).raise R.CAVE_ISR F.CAVE_ISR_READY
    s.caveWrite { s.caveRec 0x0001 false 0 3 0xFF (powerUpPayload live (s.fld R.PWR_WAKESRC F.PWR_WAKESRC_SRC)) with queued := false }

/-! ### Posting by the host or firmware (R445) -/

/-- SRC of a source (R440). -/
def srcCode : Source → Nat
  | .host => 0
  | .core _ => 1
  | .hoop => 2

/-- A write or command is ignored. -/
def State.caveRej (s : State) : State := s.raise R.CAVE_ISR F.CAVE_ISR_REJ

/-- The bytes of n registers from one on. -/
def State.regBytes (s : State) (a n : Nat) : List Byte := (List.range n).flatMap fun w => leBytes (s.reg (a + 4 * w)).toNat 4

/-- CAVE_POST (R445): a write of CAVE_WR_CODE. -/
def execCavePost (src : Source) (v : Word) (s : State) : Res :=
  let c := field F.CAVE_WR_CODE_CODE v
  .next (if c < 0x8000 then s.caveRej
    else
      let s := s.setReg R.CAVE_WR_CODE (BitVec.ofNat 32 c)
      if field F.CAVE_WR_CODE_POST v = 1 then s.cavePost c false 0 (srcCode src) 0xFF (s.regBytes (R.CAVE_WR_PAY 0) 7) else s)

/-! ### Freeze and reading (R449, R450) -/

/-- The normal records that wait are held back from now on: they carry QUEUED (R440). -/
def State.holdQueue (s : State) : State :=
  { s with cave := { s.cave with queue := s.cave.queue.map fun r => { r with queued := true } } }

/-- Valid records of the epoch. -/
def State.validCount (s : State) : Nat :=
  let n := min s.cave.nextSeq slots
  ((List.range n).filter fun i => s.slotValid (s.slotOf (s.cave.nextSeq - 1 - i))).length

/-- CAVE_FREEZE (R449): CAVE_CTL.FREEZE = 1. -/
def execCaveFreeze (s : State) : Res :=
  .next (if s.flag R.CAVE_STAT F.CAVE_STAT_FROZEN then s
    else
      let q := s.cave.nextSeq
      let s := s.setReg R.CAVE_FRZ (BitVec.ofNat 32 s.validCount)
      let s := (s.setFlag R.CAVE_STAT F.CAVE_STAT_FROZEN true).setFlag R.CAVE_CTL F.CAVE_CTL_FREEZE true
      ({ s with cave := { s.cave with frzSeq := q } } : State).holdQueue)

/-- The freeze is lifted, and a fetch with it. -/
def State.unfreeze (s : State) : State :=
  let s := (s.setFlag R.CAVE_STAT F.CAVE_STAT_FROZEN false).setFlag R.CAVE_CTL F.CAVE_CTL_FREEZE false
  ({ s with cave := { s.cave with fetch := none } } : State).setFlag R.CAVE_RD_STAT F.CAVE_RD_STAT_BUSY false

/-- CAVE_UNFREEZE (R450): CAVE_CTL.FREEZE = 0; the queued records are written from then on. -/
def execCaveUnfreeze (s : State) : Res := .next s.unfreeze

/-- CAVE_READ_FETCH (R449): a write of CAVE_RD_AGE. -/
def execCaveReadFetch (v : Word) (s : State) : Res :=
  .next (if !s.flag R.CAVE_STAT F.CAVE_STAT_FROZEN then s.caveRej
    else
      let age := field F.CAVE_RD_AGE_AGE v
      let s := (s.setFld R.CAVE_RD_AGE F.CAVE_RD_AGE_AGE age).setFlag R.CAVE_RD_STAT F.CAVE_RD_STAT_BUSY true
      { s with cave := { s.cave with fetch := some age } })

/-- The words of bytes in registers from one on. -/
def State.setWords (s : State) (a : Nat) (bs : List Byte) : State :=
  s.each (List.range (bs.length / 4)) fun w t => t.setReg (a + 4 * w) (BitVec.ofNat 32 (leAt bs (4 * w) 4))

/-- CAVE_FETCH_DONE (R449): the record AGE places older than the newest at the freeze. -/
def execCaveFetchDone (s : State) : Res :=
  .next (match s.cave.fetch with
    | none => s
    | some age =>
      let k := (s.cave.base + s.cave.frzSeq + 2 * slots - 1 - age) % slots
      let b := s.slotBytes k
      let overwritten := decide (slots ≤ age + (s.cave.nextSeq - s.cave.frzSeq))
      let valid := s.slotValid k
      let s := s.setWords (R.CAVE_RD_DATA 0) b
      let s := { s with cave := { s.cave with fetch := none } }
      let s := s.setFlag R.CAVE_RD_STAT F.CAVE_RD_STAT_BUSY false
      (s.setFlag R.CAVE_RD_STAT F.CAVE_RD_STAT_VALID valid).setFlag R.CAVE_RD_STAT F.CAVE_RD_STAT_OVERWR overwritten)

/-! ### Clearing (R451 to R453) -/

/-- CAVE_PROVISION (R451): the key goes to OTP once. -/
def execCaveProvision (s : State) : Res :=
  let k := s.regBytes (R.CAVE_KEY 0) 8
  .next (if s.flag R.CAVE_STAT F.CAVE_STAT_KEYSET || decide (k = zeros 32) then s.caveRej
    else
      let s := { s with cave := { s.cave with key := k } }
      (s.setWords (R.CAVE_KEY 0) (zeros 32)).setFlag R.CAVE_STAT F.CAVE_STAT_KEYSET true)

/-- CHALLENGE (R452): 32 random bytes. -/
def execChallenge (s : State) : Res :=
  let now := s.time.mt
  let (k, s) := s.draw
  let s := s.setWords (R.CAVE_CHAL 0) ((List.range 32).map (Config.challengeByte k))
  .next { s with cave := { s.cave with chalAt := some now } }

/-- How long a challenge is valid, and how long a refusal locks out. -/
def challengeU : Nat := ticksU 12500000000
def lockoutU : Nat := ticksU 1250000000

/-- CHALLENGE_EXPIRY (R452). -/
def execChallengeExpiry (s : State) : Res :=
  let due := match s.cave.chalAt with | some t => decide (t + challengeU ≤ s.time.mt) | none => false
  occurs due s fun s => { s with cave := { s.cave with chalAt := none } }

/-- The message that the response signs: challenge, device ID, epoch, head. -/
def State.clearMessage (s : State) : List Byte :=
  s.regBytes (R.CAVE_CHAL 0) 8 ++ leBytes (s.fld R.HOOP_ID F.HOOP_ID_DEVID) 2 ++ leBytes s.epoch 2 ++
    leBytes ((s.reg R.CAVE_HEAD_LO).toNat + s.fld R.CAVE_HEAD_HI F.CAVE_HEAD_HI_SEQ * 2 ^ 32) 8

/-- The first code that refuses a clear, or 0 (R452). -/
def State.clearCode (s : State) : Nat :=
  let now := s.time.mt
  let chal := match s.cave.chalAt with | some t => decide (now < t + challengeU) | none => false
  let lock := match s.cave.refusedAt with | some t => decide (now < t + lockoutU) | none => false
  if !s.flag R.CAVE_STAT F.CAVE_STAT_KEYSET then 7
  else if !chal then 3
  else if lock then 6
  else if s.flag R.CAVE_STAT F.CAVE_STAT_FROZEN || s.flag R.CAVE_STAT F.CAVE_STAT_CLEARING || s.layerArmed then 4
  else if s.epoch = 0xFFFF then 5
  else if (hmacSha256 s.cave.key s.clearMessage).take 16 = s.regBytes (R.CAVE_RESP 0) 4 then 0
  else 2

/-- A clear is refused (R452). -/
def State.clearRefuse (s : State) (src code : Nat) : State :=
  let now := s.time.mt
  let s := { s with cave := { s.cave with refusedAt := some now } }
  let s := (s.setFld R.CAVE_CLR_STAT F.CAVE_CLR_STAT_CODE code).satAdd R.CAVE_CLR_STAT F.CAVE_CLR_STAT_FAILS 1
  let pay := leBytes code 1 ++ leBytes src 1 ++ [0, 0] ++ leBytes (s.fld R.CAVE_CLR_STAT F.CAVE_CLR_STAT_FAILS) 4
  (s.cavePost 0x000E false 0 3 0xFF pay).raise R.CAVE_ISR F.CAVE_ISR_CLEARFAIL

/-- A clear is accepted (R453): CLEARING; the clear record waits for its write, which commits. -/
def State.clearAccept (s : State) (src : Nat) : State :=
  let pay := leBytes s.epoch 2 ++ leBytes (s.cave.nextSeq - 1) 6 ++ leBytes src 1 ++ [0, 0, 0] ++ s.regBytes (R.CAVE_CHAL 0) 4
  let r := s.caveRec 0x000D true 0 3 0xFF pay
  let s := s.setFld R.CAVE_CLR_STAT F.CAVE_CLR_STAT_CODE 1
  let s := s.setFlag R.CAVE_STAT F.CAVE_STAT_CLEARING true
  ({ s with cave := { s.cave with clearRec := some r } } : State).holdQueue

/-- CLEAR (R452): CAVE_CMD.CLEAR = 1 consumes the challenge, whatever comes of it. -/
def execClear (src : Source) (s : State) : Res :=
  let c := s.clearCode
  let s := { s with cave := { s.cave with chalAt := none } }
  .next (if c = 0 then s.clearAccept (srcCode src) else s.clearRefuse (srcCode src) c)

/-- Records that a clear leaves: those of the present epoch. -/
def State.erasable (s : State) (k : Nat) : Bool := !s.slotValid k

/-- CAVE_CLEAR_DONE (R453): after the commit every slot of an older epoch is zero. -/
def execCaveClearDone (s : State) : Res :=
  occurs (s.flag R.CAVE_STAT F.CAVE_STAT_CLEARING && s.cave.clearRec.isNone) s fun s =>
    let s := (s.usedSlots.filter s.erasable).foldl (fun t k => t.setSlot k (zeros 64)) s
    (s.setFlag R.CAVE_STAT F.CAVE_STAT_CLEARING false).raise R.CAVE_ISR F.CAVE_ISR_CLEARED

/-! ### Resets (R453, R454) -/

/-- A reset or a loss of power before the commit leaves the old log. -/
def State.clearLost (s : State) : State :=
  if s.cave.clearRec.isSome then
    ({ s with cave := { s.cave with clearRec := none } } : State).setFlag R.CAVE_STAT F.CAVE_STAT_CLEARING false
  else s

/-- The CAVE block after SYSRST_N or BRST: freeze lifted; ring, stages, shadow, READY, KEYSET and EPOCH stay; a challenge is over, as
its registers are zero again (DESIGN CHOICE, log entry 114). -/
def State.resetCave (s : State) (keep : Access → Bool) : State :=
  let s := s.clearLost.unfreeze
  let s := { s with cave := { s.cave with chalAt := none } }
  let st := s.reg R.CAVE_STAT
  let lo := s.reg R.CAVE_HEAD_LO
  let hi := s.reg R.CAVE_HEAD_HI
  let s := s.resetRegs 0x30000 0x40000 keep
  ((s.setReg R.CAVE_STAT st).setReg R.CAVE_HEAD_LO lo).setReg R.CAVE_HEAD_HI hi

/-- CAVE_BLOCK_RESET (R454): CAVE_CTL.BRST. -/
def execCaveBlockReset (s : State) : Res := .next (s.resetCave keepRwsCave)
  where keepRwsCave (a : Access) : Bool := decide (a = .rws)

end Sys2Proof.Machine
end

