-- ==== Sys2Proof/Machine/Packets.lean ====
section
/-!
DEFINITION. Packets that the device originates: routing, broadcast and unicast sending, GROUP payloads, EVENT payloads
and hand tokens (R200 to R210, R237, R238).
-/

namespace Sys2Proof.Machine

/-- The device's own ID. -/
def State.devid (s : State) : Nat := s.fld R.HOOP_ID F.HOOP_ID_DEVID

/-- A Hoop port is Active. -/
def State.active (s : State) (p : Nat) : Bool := decide (s.fld (R.HOOP_PT_STAT p) F.HOOP_PT_STAT_STATE = 2)

/-- A Hoop port has its link: Active, or draining under R208, when it still receives, returns credits and takes them. -/
def State.carries (s : State) (p : Nat) : Bool :=
  decide (s.fld (R.HOOP_PT_STAT p) F.HOOP_PT_STAT_STATE = 2) || decide (s.fld (R.HOOP_PT_STAT p) F.HOOP_PT_STAT_STATE = 3)

/-- A packet waits in its class's queue of a port: link, urgent, or normal of local origin (R201, R206). -/
def State.enqueue (s : State) (p : Nat) (fwd : Bool) (k : Packet) : State :=
  s.modPt p fun q =>
    if k.cls < 0x10 then { q with link := q.link ++ [k] }
    else if k.cls < 0x20 then { q with urgent := q.urgent ++ [k] }
    else if fwd then { q with fwd := q.fwd ++ [k] }
    else { q with loc := q.loc ++ [k] }

/-- Draw the next SEQ of a class (R200). -/
def State.nextSeq (s : State) (cls : Nat) : Nat × State :=
  let n := tabGet (fun _ => 0) s.hoop.seq cls
  (n, { s with hoop := { s.hoop with seq := tabSet (fun _ => 0) s.hoop.seq cls ((n + 1) % 65536) } })

/-- Put a broadcast into the queue of every Active port without NOBC, but for the port it came from (R203). -/
def State.flood (s : State) (from_ : Option Nat) (k : Packet) : State :=
  s.each (List.range s.hoopLanes) fun p t =>
    if t.active p && !t.flag (R.HOOP_PT_CFG p) F.HOOP_PT_CFG_NOBC && decide (from_ ≠ some p) then t.enqueue p from_.isSome k
    else t

/-- Originate a broadcast: one SEQ, the first copy now, the second 250 ticks later (R203, R204). -/
def State.broadcast (s : State) (cls : Nat) (payload : List Byte) : State :=
  let (n, s) := s.nextSeq cls
  let k : Packet := ⟨cls, true, s.fld R.HOOP_CTL F.HOOP_CTL_HOPS, 0, s.devid, n, 0, payload⟩
  let s := s.flood none k
  { s with hoop := { s.hoop with repeats := s.hoop.repeats ++ [(k, s.time.mt + ticksU 250)] } }

/-- A route entry matches a device ID: valid, PLEN at most 16, and the top PLEN bits equal (R202, R226). -/
def State.routeHits (s : State) (e dst : Nat) : Bool :=
  let a := R.HOOP_ROUTE e
  let n := s.fld a F.HOOP_ROUTE_PLEN
  s.flag a F.HOOP_ROUTE_VALID && decide (n ≤ 16) &&
    decide (s.fld a F.HOOP_ROUTE_BASE / 2 ^ (16 - n) = dst / 2 ^ (16 - n))

/-- The port that a unicast packet leaves by: the first matching entry's PRI, or ALT; without an entry, the default port;
none when none is Active (R202). -/
def State.route (s : State) (dst : Nat) : Option Nat :=
  match (List.range 64).find? fun e => s.routeHits e dst with
  | some e =>
    let a := R.HOOP_ROUTE e
    let p := s.fld a F.HOOP_ROUTE_PRI
    let q := s.fld a F.HOOP_ROUTE_ALT
    if s.active p then some p
    else if s.flag a F.HOOP_ROUTE_ALTEN && s.active q then some q
    else none
  | none =>
    let p := s.fld R.HOOP_ROUTE_DEF F.HOOP_ROUTE_DEF_PORT
    if s.flag R.HOOP_ROUTE_DEF F.HOOP_ROUTE_DEF_VALID && s.active p then some p else none

/-- Count a unicast packet that found no Active port (R202). -/
def State.noRoute (s : State) : State :=
  (s.satAdd R.HOOP_DROP F.HOOP_DROP_NOROUTE 1).raise R.HOOP_ISR F.HOOP_ISR_NOROUTE

/-- Originate a unicast packet; false when it cannot leave. -/
def State.unicast (s : State) (cls dst tag : Nat) (payload : List Byte) : Bool × State :=
  match s.route dst with
  | some p =>
    let (n, s) := s.nextSeq cls
    (true, s.enqueue p false ⟨cls, false, s.fld R.HOOP_CTL F.HOOP_CTL_HOPS, dst, s.devid, n, tag, payload⟩)
  | none => (false, s.noRoute)

/-- The member index of this device. -/
def State.self (s : State) : Nat := s.fld R.SEQ_GRP_CFG F.SEQ_GRP_CFG_SELF

/-- The mask of member indices of the bed group. -/
def State.members (s : State) : Nat := s.fld R.SEQ_GRP_CFG F.SEQ_GRP_CFG_MEMBERS

/-- Member indices other than this device's own. -/
def State.others (s : State) : List Nat :=
  (List.range 16).filter fun m => bitAt s.members m && decide (m ≠ s.self)

/-- The payload of a GROUP packet (R210): kind, flag byte, yield index, S_g, stamp, P. -/
def State.groupPayload (s : State) (kind flags g sg : Nat) (t : Stamp) (p : Nat) : List Byte :=
  leBytes kind 1 ++ leBytes s.self 1 ++ leBytes flags 1 ++ [0] ++ leBytes s.grp.layer 4 ++
  leBytes (g % 65536 + 65536 * (sg % 2 ^ 48)) 8 ++ stampBytes t ++ leBytes (p % 2 ^ 48) 8

/-- Send a GROUP packet with the present stamp; a group of one device exchanges none (R34). -/
def State.sendGroup (s : State) (kind flags g sg p : Nat) : State :=
  if s.others = [] then s else s.broadcast 0x12 (s.groupPayload kind flags g sg s.stamp p)

/-- The parts of a received GROUP payload (R210). -/
structure GroupMsg where
  kind : Nat
  member : Nat
  flags : Nat
  layer : Nat
  g : Nat
  sg : Nat
  stamp : Stamp
  p : Nat
  deriving DecidableEq, Repr

/-- Read a GROUP payload. -/
def groupMsg (b : List Byte) : GroupMsg :=
  ⟨leAt b 0 1, leAt b 1 1, leAt b 2 1, leAt b 4 4, leAt b 8 2, leAt b 10 6, stampAt b 16, leAt b 32 6⟩

/-- The device acts on a GROUP packet: a member in MEMBERS, its device ID equal to SRC, its layer the armed one (R210). -/
def State.groupOk (s : State) (k : Packet) (kind : Nat) : Bool :=
  let m := groupMsg k.payload
  decide (k.cls = 0x12) && decide (m.kind = kind) && decide (m.member < 16) && bitAt s.members m.member &&
    decide (s.fld (R.SEQ_GRP_MID m.member) F.SEQ_GRP_MID_DEVID = k.src) && decide (m.layer = s.grp.layer) && s.layerArmed

/-- The payload of an EVENT packet (R209). -/
def eventPayload (event : Nat) (t : Stamp) : List Byte :=
  leBytes event 2 ++ leBytes t.frac 2 ++ leBytes t.ns 4 ++ leBytes t.sec 8

/-- The port of R238: Active, with PEER equal to the partner's device ID. -/
def State.peerPort (s : State) (dev : Nat) : Option Nat :=
  (List.range s.hoopLanes).find? fun p =>
    s.active p && decide (s.fld (R.HOOP_PT_STAT p) F.HOOP_PT_STAT_PEER = dev)

/-- The payload of a hand token (R237). -/
def tokenPayload (t : Token) : List Byte :=
  leBytes t.kind 1 ++ leBytes (t.fromCh % 32 + if t.take then 32 else 0) 1 ++ leBytes t.toCh 1 ++ leBytes t.cause 1 ++
  leBytes t.hid 2 ++ leBytes t.xf 2 ++ leBytes t.anchor 8 ++ leBytes t.layer 4 ++ leBytes t.gridA 6 ++ [0, 0]

/-- Read a hand token's payload, from a device. -/
def tokenAt (from_ : Nat) (b : List Byte) : Token :=
  { kind := leAt b 0 1, fromDev := from_, fromCh := leAt b 1 1 % 32, take := bitAt (leAt b 1 1) 5, toCh := leAt b 2 1 % 32
    cause := leAt b 3 1, hid := leAt b 4 2, xf := leAt b 6 2, anchor := leAt b 8 6, layer := leAt b 16 4
    gridA := leAt b 20 6 }

/-- Send a hand token: to the crossbar for a partner on this device, else as a HAND packet on the port of R238; nothing is
sent where there is no such port (R238). -/
def State.sendToken (s : State) (dev : Nat) (t : Token) : State :=
  if dev = s.devid then { s with xbar := s.xbar ++ [t] }
  else
    match s.peerPort dev with
    | some p =>
      let (n, s) := s.nextSeq 0x11
      s.enqueue p false ⟨0x11, false, s.fld R.HOOP_CTL F.HOOP_CTL_HOPS, dev, s.devid, n, 0, tokenPayload t⟩
    | none => s

/-! ### Receiving (R202, R203, R205) -/

/-- Bytes of a packet in total: header, payload, CRC (R200). -/
def packetBytes (k : Packet) : Nat := 20 + k.payload.length

/-- Credits that a packet needs (R205). -/
def packetCredits (k : Packet) : Nat := ceilDiv (packetBytes k) 64

/-- The receiver owes the credits of a packet that has left its buffer: reserved ones first for an urgent packet (R205). -/
def State.owe (s : State) (p : Nat) (k : Packet) : State :=
  if k.cls < 0x10 then s
  else
    s.modPt p fun q =>
      let r := if k.cls < 0x20 then min (packetCredits k) (8 - q.owedReserved) else 0
      { q with owedReserved := q.owedReserved + r, owedShared := q.owedShared + (packetCredits k - r) }

/-- Count a packet that arrived with HOPS = 0 and cannot be forwarded (R202, R203). -/
def State.hopsOut (s : State) : State := s.satAdd R.HOOP_DROP F.HOOP_DROP_HOPS 1

/-- Forward a unicast packet under R202. -/
def State.forward (s : State) (k : Packet) : State :=
  if k.hops = 0 then s.hopsOut.raise R.HOOP_ISR F.HOOP_ISR_NOROUTE
  else
    match s.route k.dst with
    | some q => s.enqueue q true { k with hops := k.hops - 1 }
    | none => s.noRoute

/-- A broadcast arrives (R203): true when the device consumes it. A duplicate is dropped; any other is stored among
the 256 newest, an own one then dropped, and another device's forwarded while HOPS last. -/
def State.rxBroadcast (s : State) (p : Nat) (k : Packet) : Bool × State :=
  let s := s.owe p k
  let dup := s.hoop.dups.any fun d => decide (d.src = k.src ∧ d.cls = k.cls ∧ d.seq = k.seq)
  if dup then (false, s)
  else
    let ds := ((⟨k.src, k.cls, k.seq, s.time.mt⟩ : DupEntry) :: s.hoop.dups).take 256
    let own := decide (k.src = s.devid)
    let s := { s with hoop := { s.hoop with dups := ds } }
    if own then (false, s) else (true, if k.hops = 0 then s else s.flood (some p) { k with hops := k.hops - 1 })

/-- A packet arrives on a port of the device that has its link: it is consumed by the given effect when it is for this device, and
forwarded otherwise; a broadcast may be both (R202, R203). -/
def State.receive (s : State) (p : Nat) (k : Packet) (f : State → State) : State :=
  if !(decide (p < s.hoopLanes) && s.carries p) then s
  else if k.bcast then
    let (mine, s) := s.rxBroadcast p k
    if mine then f s else s
  else if k.dst = s.devid then f (s.owe p k)
  else (s.owe p k).forward k

end Sys2Proof.Machine
end

