-- ==== Sys2Proof/Machine/Stop.lean ====
section
/-!
DEFINITION. What several units share when something stops: the emission gate (R168), the emission stop latch (R170, R171),
log lines (R191, R192), descriptor release (R103), stopping a channel (R116), faults (R67, R118) and aborts (R43 to R46).
-/

namespace Sys2Proof.Machine

/-! ### The gate (R168) -/

/-- State of a channel's sequencer (R114): 0 DISABLED, 1 IDLE, 2 PRIMING, 3 READY, 4 RUN, 5 YIELD, 6 HALTED, 7 FAULT,
8 STOPPED, 9 NOTPART. -/
def State.chState (s : State) (n : Nat) : Nat := s.fld (R.SEQ_STAT n) F.SEQ_STAT_STATE

/-- The emission stop latch is set. -/
def State.latched (s : State) : Bool := s.flag R.LSR_EMS F.LSR_EMS_LATCHED

/-- SEQ and AFE are up. -/
def State.gateDomains (s : State) : Bool := s.up dSEQ && s.up dAFE

/-- Qualified LRDY counts as ready: high, or RDYIGN = 1 (R172). -/
def State.ready (s : State) (n : Nat) : Bool :=
  s.flag (R.LSR_CH_STAT n) F.LSR_CH_STAT_RDY || s.flag (R.LSR_CH_CFG n) F.LSR_CH_CFG_RDYIGN

/-- Qualified LFLT_N is low. -/
def State.laserFault (s : State) (n : Nat) : Bool := s.flag (R.LSR_CH_STAT n) F.LSR_CH_STAT_FLT

/-- A hold of R244 is in force at a tick. -/
def GateHold.active (h : GateHold) (now : Nat) : Bool :=
  match h with
  | .untilOn a => decide (a ≤ now)
  | .untilOff a => decide (a ≤ now)

/-- The handoff unit holds the gate low now (R244). -/
def State.handHeld (s : State) (n : Nat) : Bool := (s.ls n).holds.any fun h => h.active s.grp.s

/-- A JUMP is in force now (R80). -/
def State.jumping (s : State) (n : Nat) : Bool :=
  (s.ch n).segs.any fun g => decide (g.kind = .jump) && decide (g.start ≤ s.grp.s) && decide (s.grp.s < g.start + g.dur)

/-- The conditions of the stream path beside the edges, the JUMPs and the handoff unit (R168). -/
def State.streamConds (s : State) (n : Nat) : Bool :=
  decide (s.chState n = 4) && decide ((s.sc n).trip = none) && s.ready n && !s.laserFault n

/-- The stream path asserts the gate (R80, R168). -/
def State.streamPath (s : State) (n : Nat) : Bool :=
  (s.ls n).streamGate && (s.ls n).follows && s.streamConds n && !s.handHeld n && !s.jumping n

/-- All conditions of the manual path hold (R168). -/
def State.manualConds (s : State) (n : Nat) : Bool :=
  s.flag (R.LSR_CH_MAN n) F.LSR_CH_MAN_EN && s.flag (R.LSR_CH_MAN n) F.LSR_CH_MAN_GATE && decide (s.chState n ≤ 1) &&
    s.ready n && !s.laserFault n

/-- LGATE of a channel is high (R168). A channel absent on the device holds it low (R8). -/
def State.gate (s : State) (n : Nat) : Bool :=
  decide (n < s.channels) && !s.latched && s.gateDomains && (s.streamPath n || ((s.ls n).manArmed && s.manualConds n))

/-- The mask of channels whose LGATE is high. -/
def State.gates (s : State) : Nat := s.chs.foldl (fun m n => if s.gate n then m + 2 ^ n else m) 0

/-- Note a change of the gate's level for the sample instants of R176, at a time in 1/32 ticks of S. -/
def State.noteGate (s : State) (n t : Nat) : State :=
  let g := s.gate n
  let last := match (s.ls n).lit with | e :: _ => e.2 | [] => false
  if g = last then s else s.modLs n fun l => { l with lit := ((t, g) :: l.lit).take 16 }

/-- The gate ends a hold of a take part that lasts to the next yield (R244). -/
def GateHold.survives (now : Nat) : GateHold → Bool
  | .untilOn _ => true
  | .untilOff a => decide (now < a)

/-- A lapsed condition ends a path until its next rising event: the gate rises only at an edge or at an arming (R168). -/
def State.lapse (s : State) (n : Nat) : State :=
  let l := s.ls n
  let run := decide (s.chState n = 4)
  let on := l.streamGate && run && !s.latched && s.gateDomains
  let follows := l.follows && s.streamConds n
  let man := l.manArmed && s.manualConds n && !s.latched && s.gateDomains
  let now := s.grp.s
  let holds := if run then l.holds else l.holds.filter fun h => h.survives now
  (s.modLs n fun l => { l with streamGate := on, follows := follows, manArmed := man, holds := holds }).noteGate n (32 * now)

/-- Lapse every channel. -/
def State.lapseAll (s : State) : State := s.each s.chs fun n t => t.lapse n

/-- Arm the manual path where its conditions hold (R168). -/
def State.armManual (s : State) (n : Nat) : State :=
  if s.manualConds n && !s.latched && s.gateDomains then s.modLs n fun l => { l with manArmed := true } else s

/-! ### Photodiode log (R189 to R192) -/

/-- Lines in the ring of a channel. -/
def State.logSize (s : State) (n : Nat) : Nat := 2 ^ s.fld (R.LSR_LOG_CTL n) F.LSR_LOG_CTL_LOG2

/-- The log ring is full: WR + 1, past the lines staged, equals RD modulo its size. -/
def State.logFull (s : State) (n : Nat) : Bool :=
  decide ((s.fld (R.LSR_LOG_WR n) F.LSR_LOG_WR_INDEX + (s.ls n).logLines.length + 1) % s.logSize n =
    s.fld (R.LSR_LOG_RD n) F.LSR_LOG_RD_INDEX % s.logSize n)

/-- A log line numbered below a bound is not yet in memory: the open line, or a staged one (R79). -/
def Laser.waitsBelow (l : Laser) (b : Nat) : Bool :=
  (decide (l.logOpen ≠ []) && decide (l.logNo < b)) || l.logLines.any fun x => decide (x.no < b)

/-- The held records whose log lines have all reached memory, or are lost, are posted in their order (R79). -/
def State.fenceRelease (s : State) (n : Nat) : State :=
  let l := s.ls n
  let go := l.fenceRecs.takeWhile fun r => !l.waitsBelow r.until_
  let s := s.modLs n fun l => { l with fenceRecs := l.fenceRecs.drop go.length }
  go.foldl (fun t r => t.postFull r.code n r.time r.cal r.data 0) s

/-- A log line is dropped whole (R192). -/
def State.logLose (s : State) (n : Nat) : State :=
  let s := s.satAdd (R.LSR_LOG_DROP n) F.LSR_LOG_DROP_COUNT 1
  let s := (s.modLs n fun l => { l with logDrop := true }).raise R.LSR_ISR F.LSR_ISR_LOGDROP
  s.fenceRelease n

/-- The entry with its DROP bit set (R190). -/
def LogEntry.markDrop (e : LogEntry) : LogEntry := ⟨e.bytes.modify 14 (fun b => b ||| 0x40)⟩

/-- Stage a full line, at most 16; the DRAM port takes it from there (R192, R382). -/
def State.logStage (s : State) (n : Nat) (line : List LogEntry) : State :=
  let l := s.ls n
  let s := s.modLs n fun l => { l with logNo := l.logNo + 1 }
  if 16 ≤ l.logLines.length || s.logFull n then s.logLose n
  else
    let line := if l.logDrop then (match line with | e :: es => e.markDrop :: es | [] => []) else line
    let no := l.logNo
    let wr := s.fld (R.LSR_LOG_WR n) F.LSR_LOG_WR_INDEX
    let a := s.fld (R.LSR_LOG_BASE n) F.LSR_LOG_BASE_LINE + (wr + l.logLines.length) % s.logSize n
    let s := s.modLs n fun l => { l with logLines := l.logLines ++ [⟨no, a, line⟩], logDrop := false }
    { s with ddr := { s.ddr with queue := s.ddr.queue ++ [⟨2, n, a, true⟩] } }

/-- A padding entry (R191): PAD = 1, all other bytes zero. -/
def padEntry : LogEntry := ⟨zeros 14 ++ [0x80, 0]⟩

/-- Close a partly filled line with padding (R191). -/
def State.logClose (s : State) (n : Nat) : State :=
  let l := s.ls n
  if l.logOpen = [] then s
  else
    let line := l.logOpen ++ List.replicate (4 - l.logOpen.length) padEntry
    (s.modLs n fun l => { l with logOpen := [] }).logStage n line

/-- Add one entry; four make a line (R191). -/
def State.logAdd (s : State) (n : Nat) (e : LogEntry) : State :=
  let o := (s.ls n).logOpen ++ [e]
  if o.length < 4 then s.modLs n fun l => { l with logOpen := o }
  else (s.modLs n fun l => { l with logOpen := [] }).logStage n o

/-! ### Channel states, descriptors, hands -/

/-- A cause of R149 comes up within a period: its learning update is not made, and the effective mode is FROZEN. -/
def State.freezeAxis (s : State) (a : Nat) : State :=
  let s := s.modAx a fun x => { x with upd := none }
  if s.fld (R.SRV_AX_STAT a) F.SRV_AX_STAT_LRN = 1 then s.setFld (R.SRV_AX_STAT a) F.SRV_AX_STAT_LRN 2 else s

/-- The same for the axes of a channel. -/
def State.freezeChan (s : State) (n : Nat) : State := s.each [3 * n, 3 * n + 1, 3 * n + 2] fun a t => t.freezeAxis a

/-- Enter a channel state; entering YIELD, HALTED or FAULT closes the open log line (R191); a stream gate ends outside RUN, and so does
learning (R149). -/
def State.enter (s : State) (n st : Nat) : State :=
  let s := if st = 4 then s else s.freezeChan n
  let s := (s.setFld (R.SEQ_STAT n) F.SEQ_STAT_STATE st).lapse n
  if st = 5 || st = 6 || st = 7 then s.logClose n else s

/-- DRAM offset of a descriptor of a channel's ring (R99). -/
def State.descAddr (s : State) (n i : Nat) : Nat := s.fld (R.SEQ_RING_BASE n) F.SEQ_RING_BASE_LINE * 64 + 32 * i

/-- Release a descriptor (R103): one write of bytes 0x08 to 0x17, and the channel's DESC bit when IRQ = 1. -/
def State.releaseDesc (s : State) (n : Nat) (c : Curd) (status : Nat) : State :=
  let ctrl := if c.irq then 2 else 0
  let bs := leBytes ctrl 2 ++ leBytes status 2 ++ zeros 4 ++ leBytes (s.grp.s % 2 ^ 48) 8
  let s := s.writeDram (s.descAddr n c.index + 8) bs
  if c.irq then (s.setBit R.SEQ_GRP_DESC n true).raise R.SEQ_GRP_ISR F.SEQ_GRP_ISR_DESC else s

/-- The STATUS of a curd that is discarded: the channel's first fault when it was raised in this curd, else 0x00FF (R104). -/
def State.discardStatus (s : State) (n : Nat) (c : Curd) : Nat :=
  let code := s.fld (R.SEQ_FAULT n) F.SEQ_FAULT_CODE
  if code ≠ 0 ∧ s.fld (R.SEQ_FAULT_SEQNO n) F.SEQ_FAULT_SEQNO_SEQNO = c.seqno % 2 ^ 32 then code else 0x00FF

/-- Release the accepted descriptors of a stopped channel (R104, R116). -/
def State.releaseAll (s : State) (n : Nat) : List Curd → State
  | [] => s
  | c :: cs => (s.releaseDesc n c (s.discardStatus n c)).releaseAll n cs

/-- A hand token of a part (R237): GRIDA is zero unless the sender is in RUN and not waiting at a yield. -/
def State.handToken (s : State) (n : Nat) (h : Hand) (kind cause : Nat) : Token :=
  { kind := kind, fromDev := s.devid, fromCh := n, take := h.take, toCh := h.pch, cause := cause, hid := h.hid, xf := h.xf
    anchor := h.anchor, layer := s.grp.layer, gridA := if s.chState n = 4 then (h.anchor + s.grp.p) % 2 ^ 48 else 0 }

/-- DRAM offset of a yield table entry (R24). -/
def State.yieldAddr (s : State) (g : Nat) : Nat := s.grp.yline * 64 + 8 * g

/-- S_g from the armed yield table (R24). -/
def State.yieldTime (s : State) (g : Nat) : Nat := leNat (s.readDram (s.yieldAddr g) 6)

/-- A part may send its READY or COMMIT (R240): the channel is in RUN, waits at no yield, and has left every yield before the
anchor. -/
def State.handFree (s : State) (n : Nat) (h : Hand) : Bool :=
  decide (s.chState n = 4) && (match (s.ch n).yields with | g :: _ => decide (h.anchor ≤ s.yieldTime g) | [] => true)

/-- READY of a take part goes out at its decode when the part may send, else with sendReadies (R240). -/
def State.sendReady (s : State) (n : Nat) (h : Hand) : State := s.sendToken h.pdev (s.handToken n h 1 0)

/-- READY of the take parts that were decoded ahead of M_start or of the leaving of a yield, and may send now (R240). -/
def State.sendReadies (s : State) (n : Nat) : State :=
  let due := (s.ch n).hands.filter fun h => h.take && !h.readySent && s.handFree n h
  let s := due.foldl (fun t h => t.sendReady n h) s
  s.modCh n fun c => { c with hands := c.hands.map fun h => if h ∈ due then { h with readySent := true } else h }

/-- FALLBACK with cause STOP for every outstanding HAND whose anchor + XF has not passed (R241). -/
def State.stopHands (s : State) (n : Nat) : List Hand → State
  | [] => s
  | h :: hs =>
    let t := if s.grp.s ≤ h.anchor + h.xf then s.sendToken h.pdev (s.handToken n h 3 7) else s
    t.stopHands n hs

/-- What a stopped channel's sequencer keeps: no feed, queues, hands, train, or pending fault (R116); the records of normal parts that
have ended still wait for their frame (R249). -/
def Chan.stopped (c : Chan) : Chan :=
  { c with curds := [], feed := [], fork := [], walkStopped := true, segs := [], acts := [], hands := [], handBlock := []
           syncs := [], pending := none, train := none, decStopped := true, lastOn := none, fieldHold := none }

/-- Requested learning of the channel's three axes becomes FROZEN (R116). -/
def State.freezeLearning (s : State) (n : Nat) : State :=
  s.each [3 * n, 3 * n + 1, 3 * n + 2] fun a t => t.modAx a fun x => { x with learnReq := 2, period := none }

/-- The actions of R116 but for the gating, which the state left brings: queues, feed and undelivered setpoints discarded,
descriptors released, partners told, learning frozen, active periods ended (R150), the open log line written. LINES counts every entry
allocated, filled or not (DEDUCED, log entry 92). The channel waits on no descriptor any more (R102, R127). -/
def State.stopChan (s : State) (n : Nat) : State :=
  let c := s.ch n
  let s := s.setReg (R.SEQ_DISCARD n)
    (withField F.SEQ_DISCARD_CURDS (withField F.SEQ_DISCARD_LINES 0 c.feed.length) c.curds.length)
  let s := s.setFlag (R.SEQ_STAT n) F.SEQ_STAT_OWNWAIT false
  let s := s.releaseAll n c.curds
  let s := s.stopHands n c.hands
  let s := s.modCh n Chan.stopped
  let s := s.modLs n fun l => { l with holds := [], fades := [], ramp := none }
  let mt := s.time.mt
  let s := s.modSc n fun c => { c with hist := c.hist.filter fun p => decide (p.at_ ≤ mt) }
  let s := s.freezeLearning n
  (s.logClose n).lapse n

/-- Record the channel's first fault in the layer (R118): code, place, SEQNO, fault time, and the 0xFF05 record. -/
def State.firstFault (s : State) (n code time word : Nat) (lib : Bool) (seqno : Nat) : State :=
  if s.flag (R.SEQ_FAULT n) F.SEQ_FAULT_CODE then s
  else
    let w := withField F.SEQ_FAULT_LIB (withField F.SEQ_FAULT_WORD (withField F.SEQ_FAULT_CODE 0 code) word) lib.toNat
    let s := s.setReg (R.SEQ_FAULT n) w
    let s := s.setFld (R.SEQ_FAULT_SEQNO n) F.SEQ_FAULT_SEQNO_SEQNO seqno
    let s := s.setFld (R.SEQ_FAULT_S_LO n) F.SEQ_FAULT_S_LO_S (time % 2 ^ 32)
    let s := s.setFld (R.SEQ_FAULT_S_HI n) F.SEQ_FAULT_S_HI_S (time / 2 ^ 32)
    let s := s.postAt 0xFF05 n time code (seqno % 2 ^ 32 + word % 2 ^ 17 * 2 ^ 32 + if lib then 2 ^ 49 else 0)
    s.raise R.SEQ_GRP_ISR F.SEQ_GRP_ISR_FAULT

/-- A fault of a channel takes effect: in RUN, YIELD or HALTED the channel enters FAULT with the actions of R116, and the
member's abort flag is set for its next yield vote (R43, R67, R115). Elsewhere there is no such fault. -/
def State.fault (s : State) (n code time word : Nat) (lib : Bool) (seqno : Nat) : State :=
  let st := s.chState n
  if st = 4 || st = 5 || st = 6 then
    let s := s.firstFault n code time word lib seqno
    let s := (s.enter n 7).stopChan n
    s.modGrp fun g => { g with abortFlag := true }
  else s

/-- A run-time fault at the present tick, placed at the decoder (R67, R118); SEQNO 0 when no curd is left (DESIGN CHOICE, log entry
91). -/
def State.runFault (s : State) (n code : Nat) : State :=
  let c := s.ch n
  let seq := match c.curds with | d :: _ => d.seqno | [] => 0
  s.fault n code s.grp.s c.dec.loc.word c.dec.loc.lib seq

/-! ### Aborting a layer (R43 to R46) -/

/-- The group state (R128): 0 Idle, 1 Armed, 2 Running, 3 Holding, 4 Complete, 5 Aborted. -/
def State.grpState (s : State) : Nat := s.fld R.SEQ_GRP_STAT F.SEQ_GRP_STAT_STATE

/-- Set the group state; the SEQ vote of R121 is present in Armed, Running and Holding. -/
def State.setGrpState (s : State) (v : Nat) : State := s.setFld R.SEQ_GRP_STAT F.SEQ_GRP_STAT_STATE v

/-- A channel at an abort: the states of R115 go to IDLE with the actions of R116. -/
def State.abortChan (s : State) (n : Nat) : State :=
  let st := s.chState n
  if st = 3 || st = 4 || st = 5 || st = 6 || st = 7 || st = 8 || st = 9 then (s.enter n 1).stopChan n else s

/-- The layer is aborted on this member (R44, R46): records from the state at the abort, sequencers and S stop, the group is
Aborted. The yield index and the member mask go into the 0xFF06 record; kind is the reset kind of R442. -/
def State.abortLayer (s : State) (cause kind yieldIdx mask : Nat) : State :=
  let s := s.caveAbort cause kind
  let s := s.post 0xFF06 0xFF cause (yieldIdx % 65536 + mask % 65536 * 2 ^ 32)
  let s := s.setGrpState 5
  let s := s.modGrp fun g => { g with run := false, started := false, restart := none, decision := 0, sealed := none }
  let s := s.each s.chs fun n t => t.abortChan n
  s.raise R.SEQ_GRP_ISR F.SEQ_GRP_ISR_ABORT

/-- A layer has started and not ended: Running or Holding, or Armed after the start decision START (R45). -/
def State.layerLive (s : State) : Bool :=
  let g := s.grpState
  decide (g = 2) || decide (g = 3) || (decide (g = 1) && s.grp.started)

/-- The yield index of an abort between yields: the held yield, or the next undecided one. -/
def State.abortIndex (s : State) : Nat :=
  if s.grpState = 3 then s.grp.nextYield - 1 else s.grp.nextYield

/-- Send GROUP_ABORT for a yield index, with its S_g; 0xFFFF, of an armed layer, has none (R43, R45, R210). -/
def State.sendAbort (s : State) (y : Nat) : State := s.sendGroup 5 0 y (if y < s.grp.n then s.yieldTime y else 0) 0

/-- Abort at once and tell the other members (R41, R43); this member is the aborting one (R125). -/
def State.abortNow (s : State) (cause kind : Nat) : State :=
  let y := s.abortIndex
  (s.sendAbort y).abortLayer cause kind y (2 ^ s.self)

/-! ### The emission gate path (R170, R171) -/

/-- A cause of R170 sets the emission stop latch and its cause bit: 0 EMSTOP_N, 1 reset, 2 safe state, 3 thermal shutdown.
Every gate falls, and no path survives it. The record of R175 and the Cave record of R442 name EMSTOP_N and safe state. -/
def State.emissionStop (s : State) (cause : Nat) : State :=
  let lit := s.gates
  let s := s.setFlag R.LSR_EMS F.LSR_EMS_LATCHED true
  let s := s.setFld R.LSR_EMS F.LSR_EMS_CAUSE (putBit (s.fld R.LSR_EMS F.LSR_EMS_CAUSE) cause true)
  let s := s.lapseAll.raise R.LSR_ISR F.LSR_ISR_EMS
  if cause = 0 || cause = 2 then
    let d := if cause = 0 then 1 else 2
    (s.post 0xFF09 0xFF d lit).cavePost 0x0009 false 0 3 0xFF (leBytes d 4 ++ leBytes lit 4)
  else s

/-- A cause of R170 ends a live layer on this member at once (R43, R47). -/
def State.stopLayer (s : State) (kind : Nat) : State := if s.layerLive then s.abortNow 5 kind else s

/-! ### Resets that R170 names -/

/-- A reset in a layer: DRV = 0 on every head until the host writes a mode, and every axis OFF at the next boundary (R346). -/
def State.zeroHeads (s : State) : State :=
  let s := s.each s.chs fun n t => t.modHd n fun h => { h with zeroed := true }
  { s with srv := { s.srv with zeroDue := true } }

/-- A reset that R170 names takes effect (R43, R47, R171, R250, R346): the latch is set, a live layer is aborted. A member whose
group unit is itself reset sends neither GROUP_ABORT nor hand tokens, and RESET_ABORT shows that it was in a layer (R120). -/
def State.namedReset (s : State) (kind : Nat) (grpReset : Bool) : State :=
  let s := s.emissionStop 1
  let s := if grpReset && s.layerArmed then s.setFlag R.SEQ_GRP_STAT F.SEQ_GRP_STAT_RESET_ABORT true else s
  let s := if s.layerArmed then s.zeroHeads else s
  if !s.layerLive then s
  else if grpReset then
    let s := s.each s.chs fun n t => t.modCh n fun c => { c with hands := [] }
    s.abortLayer 5 kind s.abortIndex (2 ^ s.self)
  else s.abortNow 5 kind

/-- Access types that a reset other than PORN leaves: RWS alone (R12). -/
def keepRws (a : Access) : Bool := decide (a = .rws)

/-- The SEQ block after a reset that reaches it (R120): registers, channels and the group unit. -/
def State.resetSeq (s : State) (keep : Access → Bool) : State :=
  let s := s.resetRegs 0x100000 0x130000 keep
  let s := { s with chan := [], grp := Group.reset, armUndo := none }
  s.each s.chs fun n t => t.lapse n

/-! ### Pause duty (R431) -/

/-- The thermal request stands: D is at or above MINHOLD x 1,250 ticks, or above 0 during a hold. -/
def State.thermalDue (s : State) : Bool :=
  let m := max 1 (s.fld R.PWR_PAUSE F.PWR_PAUSE_MINHOLD)
  decide (m * 1250 * 256 ≤ s.grp.debt) || (decide (s.grpState = 3) && decide (0 < s.grp.debt))

/-- The thermal request follows the debt. -/
def State.thermalSync (s : State) : State :=
  let r := s.thermalDue
  { s with pwr := { s.pwr with thermal := r } }

/-! ### Time domains -/

/-- Domains with a source enter HOLDOVER, their servo state kept (R219, R225). -/
def State.holdDomains (s : State) : State :=
  s.each [0, 1] fun d t =>
    let st := t.fld (R.TIM_D_STAT d) F.TIM_D_STAT_STATE
    if t.fld (R.TIM_D_CFG d) F.TIM_D_CFG_SRC = 0 ∨ st = 3 then t
    else
      let t := if st = 2 then t.raise R.TIM_ISR F.TIM_ISR_LOCK else t
      ((t.setFld (R.TIM_D_STAT d) F.TIM_D_STAT_STATE 3).modDm d fun q => { q with good := 0 }).raise R.TIM_ISR F.TIM_ISR_HOLDOVER

end Sys2Proof.Machine
end

