-- ==== Sys2Proof/Machine/Votes.lean ====
section
/-!
DEFINITION. Votes for power domains and device states: who votes for which domain, when a domain is wanted, wakes, and the end
of a transition (R9, R121, R163, R194, R225, R279, R309, R324, R349, R372, R388, R416, R417, R422 to R425).
-/

namespace Sys2Proof.Machine

/-- State of a motion axis (R280): 0 DISABLED, 1 IDLE, 2 MOVING, 3 HOMING, 4 STOPPING, 5 FAULT. -/
def State.axisState (s : State) (a : Nat) : Nat := s.fld (R.MOT_AX_STAT a) F.MOT_AX_STAT_STATE

/-- The device's domains whose contents are present (R9). -/
def State.domainPresent (s : State) (d : Nat) : Bool :=
  if d = dCAM then decide (s.camPorts ≠ 0) else if d = dLGT then s.hasLight else decide (d < 11)

/-- Firmware's and the host's votes have no effect: a transition to Sleep, Deep Sleep or Off runs, or such a state is reached
(R424). -/
def State.votesMuted (s : State) : Bool :=
  match s.pwr.target with
  | some t => decide (2 ≤ t)
  | none => decide (2 ≤ s.fld R.PWR_STATE F.PWR_STATE_CUR)

/-- The domains that a client votes for, one bit each (R416). -/
def State.votesOf (s : State) (client : Nat) : Nat := tabGet (fun _ => 0) s.pwr.votes client

/-- Clients that vote for a domain: firmware 0, host 1, blocks 2 to 13 (R416, R417, R424). -/
def State.voters (s : State) (d : Nat) : List Nat :=
  (List.range 14).filter fun c =>
    if c = 0 then !s.votesMuted && bitAt (s.fld R.PWR_FWVOTE F.PWR_FWVOTE_DOM) d
    else if c = 1 then !s.votesMuted && bitAt (s.fld R.PWR_HOSTVOTE F.PWR_HOSTVOTE_DOM) d
    else bitAt (s.votesOf c) d

/-- At least one client votes for a domain. -/
def State.voted (s : State) (d : Nat) : Bool := decide (s.voters d ≠ [])

/-- Domains with a DRAM client (R382, R388): MGMT, SEQ, HOOP, HOST, CAM, AFE. -/
def dramClients : List Nat := [dMGMT, dSEQ, dHOOP, dHOST, dCAM, dAFE]

/-- The condition under which a block client votes for its domain. -/
def State.clientWants (s : State) (client : Nat) : Bool :=
  match client with
  | 2 => s.layerArmed || s.grp.wakeVote || s.flag R.SEQ_GRP_CTL F.SEQ_GRP_CTL_KEEP_SEQ
  | 3 =>
    s.flag R.SRV_ID_CTL F.SRV_ID_CTL_ARM ||
      (List.range (3 * s.channels)).any fun a => decide (s.fld (R.SRV_AX_STAT a) F.SRV_AX_STAT_MODE ≠ 0)
  | 4 =>
    s.chs.any fun n =>
      s.flag (R.SEQ_CTL n) F.SEQ_CTL_EN || s.flag (R.LSR_CH_MAN n) F.LSR_CH_MAN_EN ||
        decide (s.fld (R.LSR_LOG_CTL n) F.LSR_LOG_CTL_MODE ≠ 0)
  | 5 => s.chs.any fun n => s.flag (R.HL_CH_CFG n) F.HL_CH_CFG_EN
  | 6 =>
    (List.range s.hoopLanes).any (fun p => s.flag (R.HOOP_PT_CFG p) F.HOOP_PT_CFG_EN) ||
      (List.range 2).any fun d => decide (s.fld (R.TIM_D_CFG d) F.TIM_D_CFG_SRC ≠ 0)
  | 7 => s.pci.perstN && !s.pci.l2
  | 8 => (List.range s.ethPorts).any fun e => s.flag (R.ETH_PT_CFG e) F.ETH_PT_CFG_EN
  | 9 => (List.range 16).any fun n => s.flag (R.DMA_CH_CFG n) F.DMA_CH_CFG_EN
  | 10 => s.flag R.DDR_CTL F.DDR_CTL_KEEP || dramClients.any fun d => s.voted d
  | 11 => (List.range s.camPorts).any fun p => s.flag (R.CAM_PT_CFG p) F.CAM_PT_CFG_EN
  | 12 => s.flag R.LGT_CTL F.LGT_CTL_EN || (List.range 4).any fun k => s.flag (R.LGT_STB_CFG k) F.LGT_STB_CFG_EN
  | 13 =>
    (List.range s.axes).any fun a =>
      s.flag (R.MOT_AX_CFG a) F.MOT_AX_CFG_EN || decide (s.axisState a ≠ 0) || s.flag (R.FBK_CFG a) F.FBK_CFG_EN
  | _ => false

/-- The domain that a block client votes for (R416). -/
def clientDomain (client : Nat) : Nat :=
  match client with
  | 2 => dSEQ | 3 => dSRV | 4 => dAFE | 5 => dHEAD | 6 => dHOOP | 7 => dHOST | 8 => dHOST | 9 => dHOST
  | 10 => dDDR | 11 => dCAM | 12 => dLGT | _ => dMOT

/-- A domain is to be up (R9, R417, R419, R420, R435, R436). -/
def State.wanted (s : State) (d : Nat) : Bool :=
  s.domainPresent d && s.voted d && !bitAt (s.fld R.PWR_FORCE F.PWR_FORCE_DOM) d &&
    !bitAt (s.fld R.PWR_PGERR F.PWR_PGERR_FAIL) d &&
    !(decide (d = dDDR) && bitAt (s.fld R.PWR_PGERR F.PWR_PGERR_FAIL) 11) &&
    !(decide (d = dLGT) && s.flag R.PWR_THERM F.PWR_THERM_SINKSHUT) && decide (s.hk.shutAt = none)

/-! ### Device states (R422 to R425) -/

/-- The mask of domains for which a condition holds. -/
def domainMask (p : Nat → Bool) : Nat := (List.range 11).foldl (fun m d => if p d then m + 2 ^ d else m) 0

/-- Post a 0xFF12 record (R427): kind, state reached, domains concerned with bit 11 for the DRAM supply, holding clients. -/
def State.powerRecord (s : State) (kind state doms clients : Nat) : State :=
  s.post 0xFF12 0xFF (kind + state * 16 + doms * 65536) clients

/-- The domains stand as a target state asks: in Run and Idle each one as it is wanted; in the others every one off, but for those
held after the time-out (R422, R424). -/
def State.settledFor (s : State) (t : Nat) : Bool :=
  (List.range 11).all fun d =>
    if t ≤ 1 then decide (s.up d = s.wanted d) else !s.up d || (s.pwr.timedOut && s.voted d)

/-- What Deep Sleep and Off take from the DRAM: its supply goes, with the contents (R388, R416, R422). -/
def State.dramSupplyOff (s : State) : State :=
  let s := { s with dram := [], ddr := { s.ddr with poisoned := [], queue := [], issued := [], retrain := true } }
  ((s.setFlag R.DDR_STAT F.DDR_STAT_READY false).setFlag R.DDR_STAT F.DDR_STAT_SR false).setFlag R.DDR_STAT F.DDR_STAT_BUSY false

/-- No pattern library is valid any more (R112, R122). -/
def State.libsGone (s : State) : State :=
  s.each s.chs fun n t => t.setFlag (R.SEQ_LIB_STAT n) F.SEQ_LIB_STAT_VALID false

/-- PLLs that the domains up use: bit 0 core, 1 DDR, 2 head, 3 Hoop, 4 host (R486). -/
def State.pllsUsed (s : State) : Nat :=
  let on (d b : Nat) : Nat := if s.up d then 2 ^ b else 0
  let any := (List.range 11).any fun d => s.up d
  let core := if s.fld R.PWR_STATE F.PWR_STATE_CUR ≤ 1 ∨ any then 1 else 0
  core + on dDDR 1 + on dHEAD 2 + on dHOOP 3 + on dHOST 4

/-- The target is reached (R423, R424). -/
def State.reach (s : State) (t : Nat) : State :=
  let held := domainMask s.up
  let s := { s with pwr := { s.pwr with target := none, timedOut := false } }
  let s := s.setFld R.PWR_STATE F.PWR_STATE_CUR t
  let s := (s.setFlag R.PWR_STATE F.PWR_STATE_BUSY false).setFld R.PWR_STATE F.PWR_STATE_PEND 0
  let s := s.setFlag R.PWR_STATE F.PWR_STATE_HELD (decide (2 ≤ t) && decide (held ≠ 0))
  let s := { s with pwr := { s.pwr with plls := s.pllsUsed } }
  let s := if 3 ≤ t then { s.dramSupplyOff.libsGone with pwr := { s.pwr with pwren := s.pwr.pwren % 2 ^ 11 } } else s
  (s.powerRecord 1 t 0 0).raise R.PWR_ISR F.PWR_ISR_DONE

/-- End the transition in progress when its target's domains stand. -/
def State.settlePower (s : State) : State :=
  match s.pwr.target with
  | some t => if s.settledFor t then s.reach t else s
  | none => s

/-- PWREN[11] goes high, unless it is or the DRAM supply is latched off; the time-out of its PGOOD starts (R416, R419). -/
def State.supplyOn (s : State) : State :=
  if bitAt s.pwr.pwren 11 || bitAt (s.fld R.PWR_PGERR F.PWR_PGERR_FAIL) 11 then s
  else
    let now := s.time.mt
    { s with pwr := { s.pwr with pwren := s.pwr.pwren ||| 2 ^ 11, raising := tabSet (fun _ => (0, 0)) s.pwr.raising 11 (0, now) } }

/-- A request for a device state starts a transition, or replaces the target of the one in progress (R423). -/
def State.request (s : State) (t : Nat) : State :=
  let now := s.time.mt
  let s := { s with pwr := { s.pwr with target := some t, began := now, timedOut := false } }
  let s := (s.setFlag R.PWR_STATE F.PWR_STATE_BUSY true).setFld R.PWR_STATE F.PWR_STATE_PEND t
  let s := if t ≤ 1 then { s with pwr := { s.pwr with plls := s.pwr.plls ||| 1 } } else s
  (if t ≤ 2 then s.supplyOn else s).settlePower

/-- A wake source acts in the states of its list, or while a transition to one of them runs (R425). -/
def State.wakes (s : State) (states : List Nat) : Bool :=
  match s.pwr.target with
  | some t => decide (t ∈ states)
  | none => decide (s.fld R.PWR_STATE F.PWR_STATE_CUR ∈ states)

/-- Record a wake and its source (R425). -/
def State.noteWake (s : State) (src : Nat) : State :=
  (s.setFld R.PWR_WAKESRC F.PWR_WAKESRC_SRC src).satAdd R.PWR_WAKESRC F.PWR_WAKESRC_COUNT 1

/-- After Deep Sleep the calendar is coarse and each domain of time with a source is in HOLDOVER (R225). -/
def State.afterDeepSleep (s : State) : State :=
  if s.fld R.PWR_STATE F.PWR_STATE_CUR = 3 then
    let s := s.setFlag R.TIM_CAL_CMD F.TIM_CAL_CMD_COARSE true
    s.holdDomains
  else s

/-- A wake to Run from a source (R425). -/
def State.wakeRun (s : State) (src : Nat) (states : List Nat) : State :=
  if s.wakes states then ((s.noteWake src).afterDeepSleep).request 0 else s

/-- A block client's vote follows its condition; a rising vote is a wake source (R416, R424, R425). -/
def State.revote (s : State) (client : Nat) : State :=
  let d := clientDomain client
  let old := s.votesOf client
  let now := if s.clientWants client then 2 ^ d else 0
  if old = now then s
  else
    let s := { s with pwr := { s.pwr with votes := tabSet (fun _ => 0) s.pwr.votes client now } }
    if now ≠ 0 then (s.wakeRun 2 [1, 2, 3]).settlePower else s.settlePower

end Sys2Proof.Machine
end

