-- ==== Sys2Proof/Machine/Pci.lean ====
section
/-!
DEFINITION. The PCI Express endpoint (R352 to R358, R372, R373): BAR2, MSI-X masking, FWIRQ, and what happens to the link.
The DMA channels' part of these events is in Dma.lean. Commands take effect in the order of arrival (R355, R370, R371).
-/

namespace Sys2Proof.Machine

/-! ### BAR2 (R353, R354) -/

/-- The DRAM offset of a BAR2 offset. -/
def State.bar2Dram (s : State) (off : Nat) : Nat := 2 ^ 36 * s.fld R.PCI_BAR2_WIN F.PCI_BAR2_WIN_SEL + off

/-- An access beyond the populated DRAM (R354). -/
def State.bar2Miss (s : State) (a : Nat) : State :=
  (s.setFld R.PCI_BAR2ERR_ADDR F.PCI_BAR2ERR_ADDR_LINE (a / 64)).raise R.PCI_ISR F.PCI_ISR_BAR2ERR

/-- BAR2 is 64 GiB long; an access outside it is no access of this device. -/
def onBar2 (off n : Nat) (s : State) (f : State → State) : Res :=
  if off + n ≤ 2 ^ 36 then .next (f s) else .fault .noSuchAddress

/-- BAR2_READ (R354): all ones beyond the populated DRAM; a completion with EP set where a line is uncorrectable. -/
def execBar2Read (off len : Nat) (s : State) : Res :=
  onBar2 off len s fun s =>
    let a := s.bar2Dram off
    if !s.dramOk a len then (s.bar2Miss a).emit (.bar2 (List.replicate len 0xFF) false)
    else if s.rangePoisoned a len then (s.raise R.PCI_ISR F.PCI_ISR_POISON).emit (.bar2 (s.readDram a len) true)
    else s.emit (.bar2 (s.readDram a len) false)

/-- BAR2_WRITE (R354): dropped beyond the populated DRAM, and when it is poisoned. -/
def execBar2Write (off : Nat) (bytes : List Byte) (poisoned : Bool) (s : State) : Res :=
  onBar2 off bytes.length s fun s =>
    let a := s.bar2Dram off
    if !s.dramOk a bytes.length then s.bar2Miss a
    else if poisoned then s.raise R.PCI_ISR F.PCI_ISR_POISON
    else s.writeDram a bytes

/-! ### MSI-X (R357, R358) -/

/-- A vector whose message was held back is sent when the mask has gone and the condition still holds. -/
def State.unmaskRow (s : State) (r : IrqRow) : State :=
  if bitAt s.pci.pba r.vec && !s.vecMasked r.vec && s.irqCond r then (s.clearVec r.vec).emit (.msix r.vec) else s

/-- MSIX_UNMASK (R357): the mask bit of one vector, or the function mask, clears. -/
def execMsixUnmask (vector : Option Nat) (s : State) : Res :=
  match vector with
  | some v =>
    if v < 64 then
      .next ((irqRows.filter fun r => decide (r.vec = v)).foldl State.unmaskRow (s.setBit (msixCtl v) 0 false))
    else .fault .noSuchUnit
  | none => .next (irqRows.foldl State.unmaskRow { s with pci := { s.pci with funcMask := false } })

/-- FWIRQ_SET (R358): firmware writes 1 to set bits. -/
def execFwirqSet (v : Word) (s : State) : Res :=
  .next (irqWritten (irqRowsOf R.PCI_FWIRQ) (s.setReg R.PCI_FWIRQ (s.reg R.PCI_FWIRQ ||| (v &&& 0x3FFFFFF))))

/-- FWIRQ_CLEAR (R358): the host writes 1 to clear bits. -/
def execFwirqClear (v : Word) (s : State) : Res :=
  .next (irqWritten (irqRowsOf R.PCI_FWIRQ) (s.setReg R.PCI_FWIRQ (s.reg R.PCI_FWIRQ &&& ~~~v)))

/-! ### Link -/

/-- The link is down: PCI_STAT shows it (R373). -/
def State.linkLost (s : State) : State :=
  let s := { s with pci := { s.pci with linkUp := false, bme := false } }
  ((s.setReg R.PCI_STAT 0).setFld R.PCI_STAT F.PCI_STAT_LTSSM (Config.pciTrained s.free 2)).draw.2

/-- Host memory can be reached: the link is up, not in L2, and Bus Master Enable is set. -/
def State.hostReachable (s : State) : Bool := s.pci.linkUp && s.pci.bme && !s.pci.l2

/-- Release writes that waited for their host ring are made (R368). -/
def State.flushOwed (s : State) : State :=
  let l := s.pci.owed
  let s := { s with pci := { s.pci with owed := [] } }
  l.foldl (fun t e => t.emit (.hostWrite e.1 e.2)) s

/-- The host sets Bus Master Enable. -/
def State.bmeSet (s : State) : State :=
  { s with pci := { s.pci with bme := true } }.setFlag R.PCI_STAT F.PCI_STAT_BME true

/-- The link has trained and the host has set Bus Master Enable: its rate and width are the outcome of training, the maximum read
request size is what the host configures, 128 to 4,096 bytes (R352, R373). -/
def State.linkTrained (s : State) : State :=
  let (k, s) := s.draw
  let s := s.setFld R.PCI_STAT F.PCI_STAT_SPEED (3 + Config.pciTrained k 0 % 3)
  let s := s.setFld R.PCI_STAT F.PCI_STAT_WIDTH (2 ^ (Config.pciTrained k 1 % 4))
  let s := s.setFld R.PCI_STAT F.PCI_STAT_LTSSM (Config.pciTrained k 2)
  { s with pci := { s.pci with linkUp := true, l2 := false, mrrs := 128 * 2 ^ (Config.pciTrained k 3 % 6) } }.bmeSet

/-- PCI registers and MSI-X structures take their reset values but for kept fields (R372). -/
def State.resetPci (s : State) (keep : Access → Bool) : State :=
  let stat := s.reg R.PCI_STAT
  let s := (s.resetRegs 0x280000 0x288000 keep).clearWords 0x288000 0x290000
  { s with pci := { s.pci with funcMask := false, pba := 0 } }.setReg R.PCI_STAT stat

/-- Bus Master Enable is clear. -/
def State.bmeClear (s : State) : State :=
  { s with pci := { s.pci with bme := false } }.setFlag R.PCI_STAT F.PCI_STAT_BME false

/-- PME_TURN_OFF (R372): the link goes to L2/L3 Ready and the PCI block withdraws its vote. -/
def execPmeTurnOff (s : State) : Res :=
  let s := { s with pci := { s.pci with l2 := true } }
  .next (s.revote 7)

/-- PERST_N_RELEASE (R372, R425): the fundamental reset ends, the link may retrain, the vote returns, and the device wakes from Idle
or Sleep. -/
def execPerstNRelease (s : State) : Res :=
  .next (if s.pci.perstN then s
    else
      let s := { s with pci := { s.pci with perstN := true, l2 := false } }
      (s.wakeRun 4 [1, 2]).revote 7)

end Sys2Proof.Machine
end

