-- ==== Sys2Proof/Machine/Dma.lean ====
section
/-!
DEFINITION. The DMA channels (R364 to R369, R374), and the events of the PCI Express link and the host domain, which stop them
(R352, R368, R372).
-/

namespace Sys2Proof.Machine

/-! ### Descriptors (R364, R365) -/

def DmaDesc.irq (d : DmaDesc) : Bool := bitAt d.ctrl 1
def DmaDesc.move (d : DmaDesc) : Bool := bitAt d.ctrl 2
def DmaDesc.srcDev (d : DmaDesc) : Bool := bitAt d.ctrl 3
def DmaDesc.dstDev (d : DmaDesc) : Bool := bitAt d.ctrl 4

/-- Source and destination share at least one byte of device DRAM. -/
def DmaDesc.overlap (d : DmaDesc) : Bool :=
  d.srcDev && d.dstDev && decide (d.src < d.dst + d.len) && decide (d.dst < d.src + d.len)

/-- A copy from the highest address down (R366). -/
def DmaDesc.down (d : DmaDesc) : Bool := d.move && d.overlap && decide (d.src < d.dst)

/-- The checks at fetch, in the order of R365; 0 when all pass. -/
def State.dmaCheck (s : State) (d : DmaDesc) : Nat :=
  if 32 ≤ d.ctrl then 4
  else if !d.srcDev && !d.dstDev then 3
  else if d.len = 0 || (d.srcDev && !s.dramOk d.src d.len) || (d.dstDev && !s.dramOk d.dst d.len) then 2
  else if d.overlap && !d.move then 1
  else 0

/-- State of a channel (R374): 0 STOPPED, 1 RUN, 2 OWNWAIT, 3 STOPPING, 4 ERROR. -/
def State.dmaState (s : State) (n : Nat) : Nat := s.fld (R.DMA_CH_STAT n) F.DMA_CH_STAT_STATE
def State.setDmaState (s : State) (n st : Nat) : State := s.setFld (R.DMA_CH_STAT n) F.DMA_CH_STAT_STATE st

def State.dmaSize (s : State) (n : Nat) : Nat := 2 ^ s.fld (R.DMA_CH_CFG n) F.DMA_CH_CFG_LOG2
def State.dmaHead (s : State) (n : Nat) : Nat := s.fld (R.DMA_CH_HEAD n) F.DMA_CH_HEAD_INDEX

/-- The ring lies in device DRAM. -/
def State.ringDev (s : State) (n : Nat) : Bool := s.flag (R.DMA_CH_CFG n) F.DMA_CH_CFG_SPACE

/-- Address of a descriptor. -/
def State.dmaSlot (s : State) (n i : Nat) : Nat :=
  (s.reg (R.DMA_CH_RING_LO n)).toNat + (s.reg (R.DMA_CH_RING_HI n)).toNat * 2 ^ 32 + 32 * i

/-- Bytes 0x14 to 0x1B of a released descriptor (R364). -/
def DmaDesc.release (d : DmaDesc) : List Byte := leBytes (d.ctrl / 2 * 2) 2 ++ leBytes d.status 2 ++ leBytes d.written 4

/-- Release a descriptor; the interrupt follows the release write (R367). -/
def State.dmaRelease (s : State) (n : Nat) (d : DmaDesc) : State :=
  let a := s.dmaSlot n d.index + 0x14
  let s := if s.ringDev n then s.writeDram a d.release else s.emit (.hostWrite a d.release)
  if d.irq then s.raiseBit R.DMA_ISR n else s

/-- Enter ERROR with a code (R368). -/
def State.dmaError (s : State) (n code : Nat) : State :=
  let s := s.modDc n fun _ => DmaCh.reset
  ((s.setDmaState n 4).setFld (R.DMA_CH_STAT n) F.DMA_CH_STAT_CODE code).raiseBit R.DMA_ISR (16 + n)

/-- Go on with the descriptors read ahead: those that failed a check are released in ring order, a failed read is an error at its
turn, the first sound one starts. HEAD passes a descriptor when it starts or is released. -/
def State.dmaNext (n : Nat) : List DmaDesc → State → State
  | [], s => s.modDc n fun _ => DmaCh.reset
  | d :: ds, s =>
    if d.status = 7 then s.dmaError n 7
    else
      let s := s.setFld (R.DMA_CH_HEAD n) F.DMA_CH_HEAD_INDEX ((d.index + 1) % s.dmaSize n)
      if d.status = 0 then s.modDc n fun _ => ⟨some d, ds, [], []⟩ else State.dmaNext n ds (s.dmaRelease n d)

/-- The descriptor in progress ends with its status (R367 to R369). -/
def State.dmaFinish (s : State) (n : Nat) (d : DmaDesc) : State :=
  let s := s.dmaRelease n d
  if d.status ≠ 0 then s.dmaError n d.status
  else if s.dmaState n = 3 then (s.modDc n fun _ => DmaCh.reset).setDmaState n 0
  else State.dmaNext n (s.dc n).ahead s

/-- The descriptor that bytes spell, with its check. -/
def State.dmaParse (s : State) (i : Nat) (b : List Byte) : DmaDesc :=
  let d : DmaDesc := ⟨leAt b 0 8, leAt b 8 8, leAt b 0x10 4, leAt b 0x14 2, i, 0, 0, 0⟩
  { d with status := s.dmaCheck d }

/-- A descriptor as read from the ring; none when the read fails. -/
def State.dmaRead (s : State) (n i : Nat) (host : ReadResult) : Option (List Byte) :=
  if s.ringDev n then
    let a := s.dmaSlot n i
    if !s.dramOk a 32 || s.rangePoisoned a 32 then none else some (s.readDram a 32)
  else
    match host with
    | .data b => some b
    | .error => none

/-- Take what a descriptor read gave into the read-ahead list, and start it if nothing is in progress. -/
def State.dmaTake (s : State) (n : Nat) (d : DmaDesc) : State :=
  let l := (s.dc n).ahead ++ [d]
  if (s.dc n).cur.isSome then s.modDc n fun c => { c with ahead := l } else State.dmaNext n l s

/-! ### Engines (R366 to R368) -/

/-- Segments of the shared buffer that a channel holds: a read asked for has its segment already. -/
def DmaCh.held (c : DmaCh) : Nat := c.asked.length + c.segs.length

/-- Segments that all channels hold of the buffer's 128. -/
def State.dmaHeld (s : State) : Nat := (List.range 16).foldl (fun k n => k + (s.dc n).held) 0

/-- The channel has a descriptor in progress with bytes still to read, and a free segment within its quota (R366, R367). -/
def State.dmaWants (s : State) (n : Nat) : Bool :=
  match (s.dc n).cur with
  | none => false
  | some d =>
    let quota := if d.move && d.overlap then 1 else s.fld (R.DMA_CH_CFG n) F.DMA_CH_CFG_QUOTA
    decide (d.status = 0) && decide (d.read < d.len) && decide ((s.dc n).held < quota)

/-- Round robin over the channels: the first after the last one served that asks for service. -/
def roundRobin (last : Nat) (asks : Nat → Bool) : Option Nat :=
  ((List.range 16).map fun i => (last + 1 + i) % 16).find? asks

def State.dmaHigh (s : State) (n : Nat) : Bool := s.flag (R.DMA_CH_CFG n) F.DMA_CH_CFG_PRIO

/-- The channel that the read engine serves next: PRIO = 1 first, round robin within each priority (R367). -/
def State.readNext (s : State) : Option Nat :=
  match roundRobin s.dmaEng.high (fun n => s.dmaHigh n && s.dmaWants n) with
  | some n => some n
  | none => roundRobin s.dmaEng.low (fun n => !s.dmaHigh n && s.dmaWants n)

/-- Address and length of the next read: at most a segment, and within a host page of 4 KiB. -/
def DmaDesc.piece (d : DmaDesc) : Nat × Nat :=
  let rest := d.len - d.read
  if d.down then let n := min 512 rest; (d.src + rest - n, n)
  else
    let a := d.src + d.read
    (a, if d.srcDev then min 512 rest else min (min 512 rest) (4096 - a % 4096))

/-- Read requests to the host for a piece, each within the maximum read request size (R367). -/
def hostReads (mrrs a k : Nat) : List Out :=
  (List.range (ceilDiv k mrrs)).map fun i => .hostRead (a + mrrs * i) (min mrrs (k - mrrs * i))

/-- The read engine asks for a channel's next piece. -/
def State.readServe (s : State) (n : Nat) : State :=
  match (s.dc n).cur with
  | none => s
  | some d =>
    let (a, k) := d.piece
    let s := s.modDc n fun c => { c with cur := some { d with read := d.read + k }, asked := c.asked ++ [(a, k)] }
    let s := if s.dmaHigh n then { s with dmaEng := { s.dmaEng with high := n } } else { s with dmaEng := { s.dmaEng with low := n } }
    if d.srcDev then s else (hostReads s.pci.mrrs a k).foldl State.emit s

/-- The read engine serves the channels while one asks and the buffer has a free segment. -/
def State.readEngine : Nat → State → State
  | 0, s => s
  | fuel + 1, s =>
    if 128 ≤ s.dmaHeld then s
    else match s.readNext with
      | some n => State.readEngine fuel (s.readServe n)
      | none => s

/-- An event of a DMA channel, after which the read engine goes on. -/
def onDma (n : Nat) (s : State) (f : State → State) : Res := onUnit n 16 16 s fun s => (f s).readEngine 128

/-- A host write to a DMA channel, likewise. -/
def onDmaWrite (n addr : Nat) (s : State) (f : State → State) : Res :=
  onUnitWrite n 16 16 addr s fun s => (f s).readEngine 128

/-! ### Descriptors: fetch and doorbell (R364, R365) -/

/-- DMA_DESCRIPTOR_FETCH (R364, R365, R368): the next descriptor within four ahead is read. OWN = 0 is waited for; a failed read
is an error at its turn. -/
def execDmaDescriptorFetch (n : Nat) (host : ReadResult) (s : State) : Res :=
  onDma n s fun s =>
    let c := s.dc n
    let i := (s.dmaHead n + c.ahead.length) % s.dmaSize n
    let sound := match c.cur with | some d => decide (d.status = 0) | none => true
    if s.dmaState n ≠ 1 || 4 ≤ c.ahead.length || c.ahead.any (fun d => decide (d.status = 7)) || !sound ||
        decide (i = s.fld (R.DMA_CH_TAIL n) F.DMA_CH_TAIL_INDEX % s.dmaSize n) then s
    else
      match s.dmaRead n i host with
      | none => s.dmaTake n ⟨0, 0, 0, 0, i, 7, 0, 0⟩
      | some b => if leAt b 0x14 2 % 2 = 0 then s.setDmaState n 2 else s.dmaTake n (s.dmaParse i b)

/-- DMA_DOORBELL (R364): DMA_CH_TAIL takes the index, bits at or above LOG2 ignored; a descriptor found not owned is read again. -/
def execDmaDoorbell (n : Nat) (v : Word) (s : State) : Res :=
  onDmaWrite n (R.DMA_CH_TAIL n) s fun s =>
    let s := s.setFld (R.DMA_CH_TAIL n) F.DMA_CH_TAIL_INDEX (v.toNat % s.dmaSize n)
    if s.dmaState n = 2 then s.setDmaState n 1 else s

/-! ### Transfers (R366 to R368) -/

/-- Everything is written (R367): with a destination in host memory and a ring in device DRAM the last address written is read back
first; the release follows. -/
def State.dmaWritten (s : State) (n : Nat) (d : DmaDesc) : State :=
  if !d.dstDev && s.ringDev n && decide (0 < d.written) then
    let a := d.dst + d.written - 1
    (s.modDc n fun c => { c with cur := some d, asked := [(a, 1)], segs := [] }).emit (.hostRead a 1)
  else s.dmaFinish n d

/-- A read failed (R368): no further reads; the segments held are still written. DONE counts the contiguous bytes written. -/
def State.dmaRdErr (s : State) (n : Nat) (d : DmaDesc) : State :=
  let segs := (s.dc n).segs
  let d := { d with status := 5, read := d.written + segs.flatten.length }
  if segs = [] then s.dmaWritten n d else s.modDc n fun c => { c with cur := some d, asked := [] }

/-- The read asked for is the read-back of the last address written. -/
def State.readsBack (s : State) (n : Nat) (d : DmaDesc) : Bool := decide ((s.dc n).segs = []) && decide (d.read = d.written)

/-- A read back has failed, or any other read has. -/
def State.readFailed (s : State) (n : Nat) (d : DmaDesc) : State :=
  if s.readsBack n d then s.dmaFinish n { d with status := 5 } else s.dmaRdErr n d

/-- What a read brings: from device DRAM its bytes unless one is uncorrectable, from the host what its root delivers (R368, R371). -/
def State.readGot (s : State) (device : Bool) (a k : Nat) (host : ReadResult) : Option (List Byte) :=
  if device then (if !s.dramOk a k || s.rangePoisoned a k then none else some (s.readDram a k))
  else match host with | .data b => some ((b ++ zeros k).take k) | .error => none

/-- DMA_READ_COMPLETION (R367, R368): the oldest read of the channel returns its data into its segment, or fails; a read-back that
returns lets the descriptor be released. -/
def execDmaReadCompletion (n : Nat) (host : ReadResult) (s : State) : Res :=
  onDma n s fun s =>
    match (s.dc n).cur, (s.dc n).asked with
    | some d, (a, k) :: rest =>
      let back := s.readsBack n d
      match s.readGot (d.srcDev && !back) a k host with
      | none => s.readFailed n d
      | some b =>
        if back then s.dmaFinish n d
        else s.modDc n fun c => { c with asked := rest, segs := c.segs ++ [b] }
    | _, _ => s

/-- COMPLETION_TIMEOUT (R368): a host read that no completion answers. -/
def execCompletionTimeout (n : Nat) (s : State) : Res :=
  onDma n s fun s =>
    match (s.dc n).cur, (s.dc n).asked with
    | some d, _ :: _ => if d.srcDev && !s.readsBack n d then s else s.readFailed n d
    | _, _ => s

/-- The channel has a segment to write. -/
def State.dmaFilled (s : State) (n : Nat) : Bool :=
  match (s.dc n).cur with
  | some d => decide (d.status ≠ 6) && decide ((s.dc n).segs ≠ [])
  | none => false

/-- DMA_SEGMENT_WRITE (R366, R367): the channel's oldest segment goes to its destination, when round robin has come to it; after the
last one the descriptor ends. A segment with an uncorrectable word is a read error (R393): it and what follows are not written. -/
def execDmaSegmentWrite (n : Nat) (s : State) : Res :=
  onDma n s fun s =>
    if roundRobin s.dmaEng.write s.dmaFilled ≠ some n then s
    else
      match (s.dc n).cur, (s.dc n).segs with
      | some d, b :: rest =>
        let (ue, s) := s.hiddenUe 9 n 0xFF
        if ue then (s.modDc n fun c => { c with segs := [] }).dmaRdErr n d
        else
        let a := if d.down then d.dst + d.len - d.written - b.length else d.dst + d.written
        let s := if d.dstDev then s.writeDram a b else s.emit (.hostWrite a b)
        let d := { d with written := d.written + b.length }
        let s := { s.modDc n fun c => { c with cur := some d, segs := rest } with dmaEng := { s.dmaEng with write := n } }
        if rest = [] && (s.dc n).asked = [] && (decide (d.len ≤ d.read) || decide (d.status = 5)) then s.dmaWritten n d else s
      | _, _ => s

/-! ### Enable, disable, restart (R368, R369, R374) -/

/-- DMA_CH_CFG takes a write: SPACE and LOG2 only while EN = 0, LOG2 from 4 to 12, QUOTA from 1 to 128; other values are ignored. -/
def State.storeDmaCfg (s : State) (n : Nat) (v : Word) : State :=
  let w := R.DMA_CH_CFG n
  let free := !s.flag w F.DMA_CH_CFG_EN
  let l := field F.DMA_CH_CFG_LOG2 v
  let q := field F.DMA_CH_CFG_QUOTA v
  let s := (s.setFld w F.DMA_CH_CFG_EN (field F.DMA_CH_CFG_EN v)).setFld w F.DMA_CH_CFG_PRIO (field F.DMA_CH_CFG_PRIO v)
  let s := if free then s.setFld w F.DMA_CH_CFG_SPACE (field F.DMA_CH_CFG_SPACE v) else s
  let s := if free && decide (4 ≤ l) && decide (l ≤ 12) then s.setFld w F.DMA_CH_CFG_LOG2 l else s
  if 1 ≤ q ∧ q ≤ 128 then s.setFld w F.DMA_CH_CFG_QUOTA q else s

/-- DMA_ENABLE (R369): a write of DMA_CH_CFG with EN = 1 runs the channel from HEAD; ERROR is left only by RESTART. -/
def execDmaEnable (n : Nat) (v : Word) (s : State) : Res :=
  onDmaWrite n (R.DMA_CH_CFG n) s fun s =>
    let s := s.storeDmaCfg n (v ||| 1)
    if s.dmaState n = 0 || s.dmaState n = 3 then s.setDmaState n 1 else s

/-- DMA_DISABLE (R369): a write with EN = 0 stops the channel after the descriptor in progress; descriptors read ahead stay owned. -/
def execDmaDisable (n : Nat) (v : Word) (s : State) : Res :=
  onDmaWrite n (R.DMA_CH_CFG n) s fun s =>
    let s := (s.storeDmaCfg n (v &&& 0xFFFFFFFE)).modDc n fun c => { c with ahead := [] }
    if s.dmaState n = 4 then s
    else if (s.dc n).cur.isSome then s.setDmaState n 3
    else s.setDmaState n 0

/-- DMA_RESTART (R368): RESTART = 1 in ERROR resumes at HEAD. -/
def execDmaRestart (n : Nat) (s : State) : Res :=
  onDmaWrite n (R.DMA_CH_CMD n) s fun s =>
    if s.dmaState n = 4 then s.setDmaState n (if s.flag (R.DMA_CH_CFG n) F.DMA_CH_CFG_EN then 1 else 0) else s

/-! ### Aborts and resets (R368, R372) -/

/-- The descriptor in progress, or the ring, has a host address. -/
def State.dmaHost (s : State) (n : Nat) (d : DmaDesc) : Bool := !s.ringDev n || !d.srcDev || !d.dstDev

/-- The ring takes a release: it lies in device DRAM, or host memory can be reached. -/
def State.ringReachable (s : State) (n : Nat) : Bool := s.ringDev n || s.hostReachable

/-- Release the descriptor in progress with ABORT once its ring is reachable (R368). -/
def State.dmaAbort (s : State) (n : Nat) : State :=
  match (s.dc n).cur with
  | none => s
  | some d =>
    if !s.dmaHost n d then s
    else
      let d := { d with status := 6 }
      if s.ringReachable n then s.dmaFinish n d
      else s.modDc n fun _ => { DmaCh.reset with cur := some d }

/-- Abort every channel with a host address. -/
def State.dmaAbortAll (s : State) : State := s.each (List.range 16) fun n t => t.dmaAbort n

/-- Release writes of aborted descriptors still to be made are owed to the host. -/
def State.dmaOwe (s : State) : State :=
  s.each (List.range 16) fun n t =>
    match (t.dc n).cur with
    | some d =>
      if d.status = 6 then
        let e := (t.dmaSlot n d.index + 0x14, d.release)
        { t with pci := { t.pci with owed := t.pci.owed ++ [e] } }
      else t
    | none => t

/-- The DMA block's units after ABORT under R368: disabled, with reset values (R372). -/
def State.resetDma (s : State) (keep : Access → Bool) : State :=
  let s := s.dmaAbortAll.dmaOwe
  { s.resetRegs 0x2C0000 0x300000 keep with dma := [], dmaEng := ⟨15, 15, 15⟩ }

/-- The DMA block under a reset of the core: channels stopped, rings untouched (R372). -/
def State.stopDma (s : State) (keep : Access → Bool) : State :=
  { s.resetRegs 0x2C0000 0x300000 keep with dma := [], dmaEng := ⟨15, 15, 15⟩ }

/-- DMA_BLOCK_RESET (R372): DMA_CTL.BRST. -/
def execDmaBlockReset (s : State) : Res := .next (s.resetDma keepRws)

/-- BUS_MASTER_DISABLE (R368). -/
def execBusMasterDisable (s : State) : Res := .next (s.bmeClear.dmaAbortAll.readEngine 128)

/-- LINK_DOWN (R368, R373): the link leaves L0. -/
def execLinkDown (s : State) : Res :=
  .next ((s.linkLost.dmaAbortAll.readEngine 128).raise R.PCI_ISR F.PCI_ISR_LINKDOWN)

/-- FUNCTION_LEVEL_RESET (R352, R372): the PCI and DMA blocks alone. -/
def execFunctionLevelReset (s : State) : Res :=
  .next (((s.bmeClear.resetDma keepRws).resetPci keepRws).raise R.PCI_ISR F.PCI_ISR_FLR)

/-- A fundamental reset of the link that leaves the core (R372): PERST_N with PERST_CORE = 0, and the PCI and DMA side of a drop of
HOST. -/
def State.pciFundamental (s : State) : State := (s.linkLost.resetDma keepRws).resetPci keepRws

/-- PCIE_LINK_ACTIVITY (R372, R425): wakes the device from Idle or Sleep; with HOST up and PERST_N high the link comes up, and the
host enables its accesses. Aborted descriptors whose ring is reachable again are released (R368). -/
def execPcieLinkActivity (s : State) : Res :=
  let s := s.wakeRun 4 [1, 2]
  if !s.pci.perstN then .next s
  else
    let s := ({ s with pci := { s.pci with l2 := false } } : State).revote 7
    if s.hostReachable || !s.up dHOST then .next s
    else
      let s := if s.pci.linkUp then s.bmeSet else s.linkTrained
      .next (s.flushOwed.each (List.range 16) fun n t =>
      match (t.dc n).cur with
      | some d => if d.status = 6 then t.dmaFinish n d else t
      | none => t)

end Sys2Proof.Machine
end

