-- ==== Sys2Proof/Machine/Blocks.lean ====
section
/-!
DEFINITION. What a lane carries: packet bytes and their CRC, 66-bit blocks, the scrambler, packets on blocks, the pseudo-random patterns
(R200, R328, R329, R335, R338).
-/

namespace Sys2Proof.Machine

/-! ### Packet bytes (R200) -/

/-- The bytes that a packet's CRC covers: the 16-byte header and the payload (R200). -/
def packetBody (k : Packet) : List Byte :=
  leBytes k.cls 1 ++ leBytes (k.bcast.toNat + 16 * k.hops) 1 ++ leBytes (if k.bcast then 0 else k.dst) 2 ++ leBytes k.src 2 ++
  leBytes k.seq 2 ++ leBytes k.payload.length 2 ++ leBytes k.tag 2 ++ zeros 4 ++ k.payload

/-- A packet as it leaves: its bytes and their CRC-32C (R200). -/
def packetWire (k : Packet) : List Byte := packetBody k ++ leBytes (crc32c (packetBody k)) 4

/-- The packet that bytes spell: none where LEN does not fit them or the CRC fails (R200, R201). -/
def packetOf (bs : List Byte) : Option Packet :=
  let n := leAt bs 8 2
  if bs.length = 20 + n ∧ crc32c (bs.take (16 + n)) = leAt bs (16 + n) 4 then
    some { cls := leAt bs 0 1, bcast := bitAt (leAt bs 1 1) 0, hops := leAt bs 1 1 / 16, dst := leAt bs 2 2, src := leAt bs 4 2
           seq := leAt bs 6 2, tag := leAt bs 10 2, payload := (bs.drop 16).take n }
  else none

/-! ### Blocks (R328, R329) -/

/-- A data block: header bits 0 then 1. -/
def dataBlock (x : Nat) : Block := ⟨2, BitVec.ofNat 64 x⟩

/-- A control block: header bits 1 then 0. -/
def ctlBlock (x : Nat) : Block := ⟨1, BitVec.ofNat 64 x⟩

/-- The header is 01 or 10. -/
def validHeader (h : BitVec 2) : Bool := decide (h = 1 ∨ h = 2)

/-- A control block of a type. -/
def isCtl (b : Block) (type : Nat) : Bool := decide (b.hdr = 1) && decide (b.payload.toNat % 256 = type)

/-- The control block types of R329. -/
def blockTypes : List Nat := [0x11, 0x2D, 0x3C, 0x5A, 0x96, 0xA5, 0xD1, 0xE2]

/-- A control block of another type: counted, and taken as IDLE (R329). -/
def strayBlock (b : Block) : Bool := decide (b.hdr = 1) && !blockTypes.contains (b.payload.toNat % 256)

/-- IDLE. -/
def idleBlock : Block := ctlBlock 0x11

/-- TRAIN with the training time remaining in us, saturating. -/
def trainBlock (us : Nat) : Block := ctlBlock (0x2D + 256 * min us 255)

/-- PM: level 1 L1 or 2 L2, a request or an answer. -/
def pmBlock (level : Nat) (answer : Bool) : Block := ctlBlock (0x5A + level * 256 + answer.toNat * 65536)

/-- ALIGN with the lane index within the port. -/
def alignBlock (i : Nat) : Block := ctlBlock (0xA5 + 256 * i)

/-! ### The scrambler (R328) -/

/-- One payload bit through the scrambler x^58 + x^39 + 1, whose register holds the last 58 bits sent, newest lowest. -/
def scrambleBit (r : Nat) (b : Bool) : Bool × Nat :=
  let o := (b != bitAt r 38) != bitAt r 57
  (o, (2 * r + o.toNat) % 2 ^ 58)

/-- One received bit back: the register holds the last 58 bits received. -/
def descrambleBit (r : Nat) (b : Bool) : Bool × Nat :=
  ((b != bitAt r 38) != bitAt r 57, (2 * r + b.toNat) % 2 ^ 58)

/-- A run of bits through a step with a register. -/
def throughBits (f : Nat → Bool → Bool × Nat) : Nat → List Bool → List Bool × Nat
  | r, [] => ([], r)
  | r, b :: bs =>
    let (o, r) := f r b
    let (os, r) := throughBits f r bs
    (o :: os, r)

/-- The low n bits of a number, bit 0 first. -/
def bitsOf (x n : Nat) : List Bool := (List.range n).map fun i => bitAt x i

/-- The number that bits spell, bit 0 first. -/
def natOf : List Bool → Nat
  | [] => 0
  | b :: bs => b.toNat + 2 * natOf bs

/-- A block on the wire: the header, then the scrambled payload, bit 0 first; and the scrambler's register after it (R328). -/
def wireBlock (r : Nat) (b : Block) : List Bool × Nat :=
  let (p, r) := throughBits scrambleBit r (bitsOf b.payload.toNat 64)
  (bitsOf b.hdr.toNat 2 ++ p, r)

/-! ### Packets on blocks (R335) -/

/-- Bytes in data blocks of eight; bytes after the last are zero. -/
def dataBlocks : Nat → List Byte → List Block
  | 0, _ => []
  | n + 1, bs => dataBlock (leAt bs 0 8) :: dataBlocks n (bs.drop 8)

/-- The blocks of a packet: SOP with bytes 0 to 6, then data blocks (R335). -/
def packetBlocks (k : Packet) : List Block :=
  let bs := packetWire k
  ctlBlock (0x96 + 256 * leAt bs 0 7) :: dataBlocks (ceilDiv (bs.length - 7) 8) (bs.drop 7)

/-- The bytes that a run of blocks carries after its SOP's type. -/
def blockBytes (l : List Block) : List Byte := (l.flatMap fun b => leBytes b.payload.toNat 8).drop 1

/-- The packet that received blocks carry, in packet order: none where the first is no SOP, another block stands among them, their
number does not fit LEN, or the CRC fails (R201, R335). -/
def packetOfBlocks (l : List Block) : Option Packet :=
  match l with
  | [] => none
  | b :: rest =>
    let bs := blockBytes l
    let n := leAt bs 8 2
    if isCtl b 0x96 ∧ (rest.all fun d => decide (d.hdr = 2)) ∧ rest.length = ceilDiv (13 + n) 8 then packetOf (bs.take (20 + n))
    else none

/-- Block i of a packet goes on lane i mod w of the port, in order (R335). -/
def stripe (w : Nat) (l : List Block) (i : Nat) : List Block :=
  (List.range (ceilDiv l.length w)).filterMap fun k => l[w * k + i]?

/-! ### Patterns (R330, R338) -/

/-- The next state of the generator x^n + x^m + 1, its newest bit lowest. -/
def prbs (n m r : Nat) : Nat := (2 * r + (bitAt r (n - 1) != bitAt r (m - 1)).toNat) % 2 ^ n

/-- A start state: any but zero, which the sequence never leaves. -/
def prbsSeed (n seed : Nat) : Nat := seed % (2 ^ n - 1) + 1

/-- The state after k more bits. -/
def prbsAfter (n m : Nat) : Nat → Nat → Nat
  | 0, r => r
  | k + 1, r => prbsAfter n m k (prbs n m r)

/-! ### I2C (R288) -/

/-- A transaction on the bus (R288): the register address goes most significant byte first, data bits 7:0 first; a read repeats START and
ends with NACK. A target that does not acknowledge ends it with STOP where it fails. -/
def i2cItems (addr : Nat) (wide : Bool) (t : I2c) (data : Word) : List I2cItem :=
  let byte (x : Nat) : I2cItem := .write (BitVec.ofNat 8 x)
  let head := [.start, byte (2 * addr)] ++ (if wide then [byte (t.reg / 256)] else []) ++ [byte t.reg]
  if t.write then head ++ ((List.range t.n).map fun i => byte (data.toNat / 256 ^ i)) ++ [.stop]
  else head ++ [.start, byte (2 * addr + 1)] ++ ((List.range t.n).map fun i => .read (decide (i + 1 ≠ t.n))) ++ [.stop]

/-- The clock of a SPEED code in kHz; 3 acts as 0 (R288, R311). -/
def i2cKhz (code : Nat) : Nat := if code = 1 then 400 else if code = 2 then 1000 else 100

end Sys2Proof.Machine
end

