-- ==== Sys2Proof/Machine/Group.lean ====
section
/-!
DEFINITION. The group unit: arming, start, yields, holds, aborts (01_layers_and_schedule_time; 03, R115 to R121, R128).
One S serves every channel of the device (R21); a resume runs as a fresh layer (R49, R50).
-/

namespace Sys2Proof.Machine

/-! ### What the group unit reads -/

/-- M_start in units of machine time, from the group layer registers (R128). -/
def State.mstartReg (s : State) : Nat :=
  let sec := s.fld R.SEQ_GRP_MSTART_SEC_LO F.SEQ_GRP_MSTART_SEC_LO_SEC +
    s.fld R.SEQ_GRP_MSTART_SEC_HI F.SEQ_GRP_MSTART_SEC_HI_SEC * 2 ^ 32
  nsU (sec * 1000000000 + s.fld R.SEQ_GRP_MSTART_NS F.SEQ_GRP_MSTART_NS_NS)

/-- M_start is a whole multiple of 4 ns: NS divisible by 4, FRAC zero (R19). -/
def State.mstartOnGrid (s : State) : Bool :=
  decide (s.fld R.SEQ_GRP_MSTART_NS F.SEQ_GRP_MSTART_NS_NS % 4 = 0) &&
    decide (s.fld R.SEQ_GRP_MSTART_FRAC F.SEQ_GRP_MSTART_FRAC_FRAC = 0)

/-- Machine time stands a number of ticks before M_start: at that instant, or at the first tick after it when a domain switch has
stepped machine time over it, at most 1 ns (R23; DESIGN CHOICE, log entry 83). -/
def State.beforeStart (s : State) (ticks : Nat) : Bool :=
  decide (s.grp.mstart ≤ s.time.mt + ticksU ticks) && decide (s.time.mt + ticksU ticks < s.grp.mstart + ticksU 2)

/-- A yield table entry can be read and its reserved bits are zero (R25, R385). -/
def State.yieldEntryOk (s : State) (g : Nat) : Bool :=
  s.dramOk (s.yieldAddr g) 8 && !s.rangePoisoned (s.yieldAddr g) 8 && decide (leNat (s.readDram (s.yieldAddr g + 6) 2) = 0)

/-- Entries from index g on keep the spacing of R25. -/
def State.yieldSpacing (s : State) : Nat → Nat → Nat → Bool
  | _, _, 0 => true
  | g, low, k + 1 =>
    s.yieldEntryOk g && decide (low ≤ s.yieldTime g) && s.yieldSpacing (g + 1) (s.yieldTime g + 50000) k

/-- The armed table passes R25, N lies in 1 to 65,536 and the resume index is below N (R128). -/
def State.tableOk (s : State) : Bool :=
  decide (1 ≤ s.grp.n) && decide (s.grp.n ≤ 65536) && decide (s.grp.resume < s.grp.n) && s.yieldSpacing 0 50000 s.grp.n

/-- Request causes of the member now: bit 0 thermal, bit 1 budget, bit 2 host (R432). -/
def State.holdCausesNow (s : State) : Nat :=
  (if s.pwr.thermal then 1 else 0) + (if s.flag (R.PWR_BUD_STAT 2) F.PWR_BUD_STAT_CAUSE then 2 else 0) +
    (if s.flag R.SEQ_GRP_CTL F.SEQ_GRP_CTL_HOLD_REQ then 4 else 0)

/-- Channels that take part in the layer. -/
def State.participants (s : State) : List Nat := s.chs.filter fun n => bitAt s.grp.pmask n

/-! ### Arming -/

/-- The position from which a channel's first segment starts (R66): that of the last setpoint that reached the engine; without one,
the evaluator's last position, 0 FU since its reset (DESIGN CHOICE, log entry 84). -/
def State.heldAt (s : State) (n : Nat) : V3 :=
  match (s.sc n).hist with
  | p :: _ => p.fu
  | [] => (s.ch n).lastEval

/-- A channel at the arm command: its layer state starts afresh, HEAD is kept for a rewind, the first-fault registers and
counters are cleared (R29, R60, R66, R117 to R119, R127). -/
def State.armChan (s : State) (n : Nat) : State :=
  let s := s.setReg (R.SEQ_FAULT n) 0
  let s := s.setReg (R.SEQ_FAULT_SEQNO n) 0
  let s := (s.setReg (R.SEQ_FAULT_S_LO n) 0).setReg (R.SEQ_FAULT_S_HI n) 0
  let s := s.setFld (R.SEQ_YDONE n) F.SEQ_YDONE_YIELD 0xFFFF
  let s := s.setReg (R.SEQ_FEED_REFETCH n) 0
  let s := s.setFld (R.SEQ_STAT n) F.SEQ_STAT_NOTOWN 0
  let s := s.setFlag (R.SEQ_STAT n) F.SEQ_STAT_INLAYER_OFF false
  let s := s.setFlag (R.SEQ_STAT n) F.SEQ_STAT_OWNWAIT false
  let c := s.ch n
  let part := bitAt s.grp.pmask n
  let head := s.fld (R.SEQ_RING_HEAD n) F.SEQ_RING_HEAD_INDEX
  let p := s.heldAt n
  let s := s.modCh n fun _ =>
    { Chan.reset with headAtArm := head, part := part, endPos := p, lastEval := p, libWords := c.libWords, libLine := c.libLine }
  if s.chState n = 1 then s.enter n (if part then 2 else 9) else s

/-- The laser, handoff and servo counters and requests that the arm command clears (R143, R153, R186, R193, R197, R246, R251).
A trip still in force ends at the new layer's first gate-on edge (R154). -/
def State.armUnits (s : State) (n : Nat) : State :=
  let s := s.setFlag (R.LSR_CH_MAN n) F.LSR_CH_MAN_EN false
  let s := s.setReg (R.LSR_CH_BOUNDS n) 0
  let s := (s.setReg (R.LSR_CH_EVENTS n) 0).setReg (R.LSR_CH_EVENTS2 n) 0
  let s := ((s.setReg (R.STI_CH_HANDS n) 0).setReg (R.STI_CH_FB n) 0).setReg (R.STI_CH_CLAMP n) 0
  let s := s.setReg (R.STI_CH_TOKERR n) 0
  let s := s.modSc n fun c => { c with trips := 0, trip := c.trip.map fun _ => 0 }
  let s := s.each [3 * n, 3 * n + 1, 3 * n + 2] fun a t =>
    (t.modAx a fun x => { x with forced := none, restartC := x.forced.isSome || x.restartC }).setFlag
      (R.SRV_AX_STAT a) F.SRV_AX_STAT_FORCED false
  s.lapse n

/-- Reject an arming: status and flag only (R30). -/
def State.rejectArm (s : State) (status : Nat) : State :=
  (s.setFld R.SEQ_GRP_STAT F.SEQ_GRP_STAT_ARMSTAT status).raise R.SEQ_GRP_ISR F.SEQ_GRP_ISR_REJECT

/-- The registers of a channel that the arm command clears, but for SEQ_STAT (R30). -/
def armRegs (n : Nat) : List Nat :=
  [R.SEQ_FAULT n, R.SEQ_FAULT_SEQNO n, R.SEQ_FAULT_S_LO n, R.SEQ_FAULT_S_HI n, R.SEQ_YDONE n, R.SEQ_FEED_REFETCH n, R.LSR_CH_MAN n,
   R.LSR_CH_BOUNDS n, R.LSR_CH_EVENTS n, R.LSR_CH_EVENTS2 n, R.STI_CH_HANDS n, R.STI_CH_FB n, R.STI_CH_CLAMP n, R.STI_CH_TOKERR n]

/-- What a rejected arming gives back (R30). -/
def State.armSaved (s : State) : ArmUndo where
  grp := s.grp
  regs := ([R.SEQ_GRP_STAT, R.SEQ_GRP_HOLDS, R.PWR_PAUSE_DEBT] ++ s.chs.flatMap fun n => R.SEQ_STAT n :: armRegs n).map fun a => (a, s.reg a)
  chan := s.chan
  forced := (List.range (3 * s.channels)).map fun a => (a, (s.ax a).forced, (s.ax a).restartC)
  trips := s.chs.map fun n => (n, (s.sc n).trip, (s.sc n).trips)

/-- Accept the arm command for checking (R29, R31, R128, R431). -/
def State.takeArm (s : State) : State :=
  let s := { s with armUndo := some s.armSaved }
  let old := s.grp
  let seqUp := s.up dSEQ
  let m := s.mstartReg
  let mask := s.fld R.SEQ_GRP_PMASK F.SEQ_GRP_PMASK_MASK % 2 ^ s.channels
  let alarm := if seqUp then none else some (m - ticksU 2500000)
  let g : Group :=
    { Group.reset with
      layer := s.fld R.SEQ_GRP_LAYER F.SEQ_GRP_LAYER_LAYER, pmask := mask
      yline := s.fld R.SEQ_GRP_YBASE F.SEQ_GRP_YBASE_LINE, n := s.fld R.SEQ_GRP_YCOUNT F.SEQ_GRP_YCOUNT_N
      resume := s.fld R.SEQ_GRP_RESUME F.SEQ_GRP_RESUME_INDEX, mstart := m, armedAt := s.time.mt
      wakeAlarm := alarm, s := old.s, lostSince := old.lostSince }
  let s := { s with grp := g }
  let s := s.setGrpState 1
  let s := s.setFlag R.SEQ_GRP_STAT F.SEQ_GRP_STAT_CHECKING true
  let s := s.setFld R.SEQ_GRP_STAT F.SEQ_GRP_STAT_ARMSTAT 0
  let s := s.setReg R.SEQ_GRP_HOLDS 0
  let s := s.setReg R.PWR_PAUSE_DEBT 0
  let s := s.each s.chs fun n t => (t.armChan n).armUnits n
  s.thermalSync.syncShadow

/-- ARM (R29, R30): rejected with BUSY in Armed, Running or Holding, with LEAD when M_start is too near, with GRID when it
is off the 4 ns grid; else the group is Armed and the checks run. -/
def execArm (s : State) : Res :=
  let lead := ticksU (if s.up dSEQ then 250000 else 2750000)
  .next
    (if s.layerArmed then s.rejectArm 4
     else if s.mstartReg < s.time.mt + lead then s.rejectArm 3
     else if !s.mstartOnGrid then s.rejectArm 6
     else s.takeArm)

/-- A channel whose arming ends without a start: HEAD back to its value at the arm command, feed empty, IDLE (R45, R105, R115). -/
def State.unarmChan (s : State) (n : Nat) : State :=
  let st := s.chState n
  if st = 2 || st = 3 || st = 8 || st = 9 then
    let s := s.setFld (R.SEQ_RING_HEAD n) F.SEQ_RING_HEAD_INDEX (s.ch n).headAtArm
    let s := s.setFlag (R.SEQ_STAT n) F.SEQ_STAT_OWNWAIT false
    (s.modCh n Chan.stopped).enter n 1
  else s

/-- Give a channel back what the arm command changed in it: its state of before, but for a library loaded since, and the flags and
count of SEQ_STAT (R30). -/
def State.restoreChan (s : State) (u : ArmUndo) (n : Nat) : State :=
  let old := tabGet (fun _ => Chan.reset) u.chan n
  let s := s.modCh n fun c => { old with libWords := c.libWords, libLine := c.libLine }
  match u.regs.find? fun e => decide (e.1 = R.SEQ_STAT n) with
  | some e => s.setReg (R.SEQ_STAT n) (withField F.SEQ_STAT_STATE e.2 (s.chState n))
  | none => s

/-- A rejected arming changes nothing (R30): what the arm command changed is as before. The manual gate that the arm command has
ended stays low until the host's next write (DESIGN CHOICE, log entry 85). -/
def State.undoArm (s : State) : State :=
  match s.armUndo with
  | none => s
  | some u =>
    let s := s.each s.chs fun n t => (t.unarmChan n).restoreChan u n
    let keep := s.chs.map R.SEQ_STAT
    let s := u.regs.foldl (fun t e => if e.1 ∈ keep then t else t.setReg e.1 e.2) s
    let s := u.forced.foldl (fun t e =>
      (t.modAx e.1 fun x => { x with forced := e.2.1, restartC := e.2.2 }).setFlag (R.SRV_AX_STAT e.1) F.SRV_AX_STAT_FORCED e.2.1.isSome) s
    let s := u.trips.foldl (fun t e => t.modSc e.1 fun c => { c with trip := e.2.1, trips := e.2.2 }) s
    ({ s with grp := { u.grp with lostSince := s.grp.lostSince }, armUndo := none } : State).thermalSync

/-- ARMING_CHECK_DONE (R25, R30, R128): the arming is accepted, or rejected with YTABLE and everything is as before. -/
def execArmingCheckDone (s : State) : Res :=
  occurs (s.flag R.SEQ_GRP_STAT F.SEQ_GRP_STAT_CHECKING && decide (s.grpState = 1)) s fun s =>
    if s.tableOk then
      let s := { s with armUndo := none }
      let s := s.setFlag R.SEQ_GRP_STAT F.SEQ_GRP_STAT_CHECKING false
      (s.setFld R.SEQ_GRP_STAT F.SEQ_GRP_STAT_ARMSTAT 1).raise R.SEQ_GRP_ISR F.SEQ_GRP_ISR_ACCEPT
    else s.undoArm.syncShadow.rejectArm 2

/-! ### Start -/

/-- The first word of the first curd is GYIELD r with STIME = S_r (R48). -/
def State.resumeFits (s : State) (c : Chan) (d : Curd) : Bool :=
  decide (d.stime = s.yieldTime s.grp.resume) &&
    (match c.feed.find? (fun e => e.line = d.line + 1) with
     | some e => decide ((e.words.headD 0).toNat = 0x0400000000000000 + s.grp.resume)
     | none => false)

/-- A channel is ready under R32: its first header has passed, the feed holds every line of that curd, or 16 KiB, or all that the
walker has asked for when it has stopped or waits; no curd failed BCRC; a resume starts with GYIELD r. -/
def State.isReady (s : State) (n : Nat) : Bool :=
  let c := s.ch n
  match c.curds with
  | d :: _ =>
    let mine := c.feed.filter fun e => e.arrived && decide (e.curd = d.index) && decide (d.line ≤ e.line) &&
      decide (e.line < d.line + ceilDiv (64 + 8 * d.words) 64)
    let need := ceilDiv (64 + 8 * d.words) 64
    let full := decide (256 ≤ c.feed.length) && c.feed.all (·.arrived)
    let held := decide (need ≤ (mine.map (·.line)).dedup.length) || full || (c.walkStopped && c.feed.all (·.arrived))
    d.hdr && held && !c.bcrcFailed && (decide (s.grp.resume = 0) || s.resumeFits c d)
  | [] => false

/-- CHANNEL_READY (R32): PRIMING becomes READY in the tick in which R32 is satisfied. -/
def execChannelReady (ch : Nat) (s : State) : Res :=
  onUnit ch s.channels 32 s fun s => if decide (s.chState ch = 2) && s.isReady ch then s.enter ch 3 else s

/-- Every participating channel is READY. -/
def State.allReady (s : State) : Bool := s.participants.all fun n => decide (s.chState n = 3)

/-- START_VOTE (R33): at M_start - 125,000 ticks the member votes READY or NOT_READY. -/
def execStartVote (s : State) : Res :=
  occurs (decide (s.grpState = 1) && !s.grp.voted && s.beforeStart 125000) s fun s =>
    let r := s.allReady
    let s := s.modGrp fun g => { g with voted := true, startVotes := (s.self, r) :: g.startVotes }
    s.sendGroup 1 r.toNat 0 0 0

/-- START_VOTE_RECEIVED (R33, R210): the vote of a valid member for the armed layer is recorded. -/
def execStartVoteReceived (port : Nat) (pk : Packet) (s : State) : Res :=
  onUnit port s.hoopLanes 8 s fun s => s.receive port pk fun s =>
    if s.groupOk pk 1 then
      let m := groupMsg pk.payload
      s.modGrp fun g => { g with startVotes := (m.member, bitAt m.flags 0) :: g.startVotes.filter (fun v => decide (v.1 ≠ m.member)) }
    else s

/-- Members whose start vote is missing or NOT_READY. -/
def State.notReadyMask (s : State) : Nat :=
  (List.range 16).foldl (fun m i =>
    if bitAt s.members i && !(s.grp.startVotes.any fun v => decide (v.1 = i) && v.2) then m + 2 ^ i else m) 0

/-- The state in which a channel begins to decode (R66): cursor at the first STIME, power, envelope, loop and axes as stated. -/
def State.beginDecode (s : State) (n : Nat) : State :=
  if s.chState n = 3 then
    let c := s.ch n
    let st := match c.curds with | d :: _ => d.stime | [] => 0
    let s := s.modCh n fun c => { c with cursor := st, prevEnd := st, lastAct := 0, endVel := V3.zero, endVelDen := 1 }
    let s := s.modLs n fun l =>
      { l with streamGate := false, pset := 0, ramp := none, mp := Melt.reset, blend := none, holds := [], fades := [], goff := none
               lit := [], envDue := false, envSign := none, bound := 0, c := 0 }
    let s := (s.setReg (R.LSR_CH_ENV n) 0).setReg (R.LSR_CH_PLIM n) 0xFFFF0000
    let s := s.setReg (R.LSR_CH_TGT n) 0
    let s := s.setFld (R.LSR_CH_STAT n) F.LSR_CH_STAT_MPMODE 0
    let s := s.setFld (R.LSR_CH_STAT n) F.LSR_CH_STAT_GSET 0
    s.each [3 * n, 3 * n + 1, 3 * n + 2] fun a t => t.modAx a fun x => { x with learnReq := 0, period := none, forced := none }
  else s

/-- The converters return to the cadence of the power instants: the next log entry of every channel carries GAP (R177). -/
def State.logGaps (s : State) : State := s.each s.chs fun n t => t.modLs n fun l => { l with logGap := true }

/-- START_DECISION (R33): at M_start - 62,500 ticks START with a READY vote of every member, its own included; then channels
begin to decode ahead and the Cave takes the layer-start record. Otherwise REFUSE, with MISSING. The wake vote ends. -/
def execStartDecision (s : State) : Res :=
  occurs (decide (s.grpState = 1) && !s.grp.started && !s.grp.refused && s.beforeStart 62500) s fun s =>
    let s := s.modGrp fun g => { g with wakeVote := false }
    let miss := s.notReadyMask
    if miss = 0 then
      let t := mtStamp s.grp.mstart
      let st := if s.grp.resume = 0 then 0 else s.yieldTime s.grp.resume
      let s := s.modGrp fun g => { g with started := true, s := st, p := 0 }
      let pay := leBytes s.grp.resume 4 ++ leBytes s.grp.pmask 4 ++ leBytes t.sec 8 ++ leBytes t.ns 4
      let s := s.cavePost 0x000A false 0 3 0xFF pay
      s.logGaps.each s.participants fun n u => u.beginDecode n
    else (s.setFld R.SEQ_GRP_STAT F.SEQ_GRP_STAT_MISSING miss).modGrp fun g => { g with refused := true }

/-- LAYER_START (R20, R33, R48): at M_start after START, S takes its start value and READY channels enter RUN; GYIELD r of a
resume passes without a vote. After REFUSE the group is Idle with NOT_READY and the channels are rewound. -/
def execLayerStart (s : State) : Res :=
  occurs (decide (s.grpState = 1) && s.beforeStart 0) s fun s =>
    if s.grp.started then
      let r := s.grp.resume
      let s := s.modGrp fun g =>
        { g with run := true, origin := (g.mstart : Int) - (ticksU g.s : Nat), nextYield := if r = 0 then 0 else r + 1
                 decision := if r = 0 then 0 else 1, votes := [], sealed := none, closed := false }
      let s := s.setGrpState 2
      let s := s.each s.participants fun n t => if t.chState n = 3 then (t.enter n 4).sendReadies n else t
      s.syncShadow.raise R.SEQ_GRP_ISR F.SEQ_GRP_ISR_START
    else
      let s := s.each s.chs fun n t => t.unarmChan n
      let s := (s.setGrpState 0).setFld R.SEQ_GRP_STAT F.SEQ_GRP_STAT_ARMSTAT 5
      s.raise R.SEQ_GRP_ISR F.SEQ_GRP_ISR_REFUSE

/-! ### Yields -/

/-- The group runs, no decision is pending, and S stands a number of ticks before S_g of the next undecided yield. -/
def State.beforeYield (s : State) (ticks : Nat) : Bool :=
  decide (s.grpState = 2) && decide (s.grp.nextYield < s.grp.n) && decide (s.grp.s + ticks = s.yieldTime s.grp.nextYield)

/-- The members whose vote carries another P than the member's own vote for the yield (R41). -/
def splitP (votes : List (Nat × Nat × Bool × Nat × Bool × Nat)) (self : Nat) : Nat :=
  match votes.find? (fun v => decide (v.1 = self)) with
  | some own => votes.foldl (fun m v => if v.2.2.2.2.2 ≠ own.2.2.2.2.2 ∧ !bitAt m v.1 then m + 2 ^ v.1 else m) 0
  | none => 0

/-- A split (R41): the member aborts at once with cause 2. -/
def State.split (s : State) (mask : Nat) : State :=
  let y := s.abortIndex
  (s.sendAbort y).abortLayer 2 0 y mask

/-- YIELD_SEAL (R36): at S_g - 25,000 the member's request and its abort flag go into its yield vote, with P. -/
def execYieldSeal (s : State) : Res :=
  occurs (s.beforeYield 25000 && decide (s.grp.sealed = none)) s fun s =>
    let g := s.grp.nextYield
    let causes := s.holdCausesNow
    let hold := decide (causes ≠ 0) || s.grp.lateHold
    let sg := s.yieldTime g
    let v := (s.self, sg, hold, causes, s.grp.abortFlag, s.grp.p)
    let flags := hold.toNat + 2 * causes + 16 * s.grp.abortFlag.toNat
    let s := s.modGrp fun u => { u with sealed := some causes, lateHold := false, votes := v :: u.votes }
    let s := s.sendGroup 2 flags g sg s.grp.p
    let m := splitP s.grp.votes s.self
    if m ≠ 0 then s.split m else s

/-- YIELD_VOTE_RECEIVED (R36, R41): a vote of a valid member before the deadline is recorded, in a hold too; a vote for another
yield than the next undecided one, or with another P than the own vote, is a split. A vote after the deadline counts as missing, yet
its P is compared (DEDUCED, log entry 86). -/
def execYieldVoteReceived (port : Nat) (pk : Packet) (s : State) : Res :=
  onUnit port s.hoopLanes 8 s fun s => s.receive port pk fun s =>
    if s.groupOk pk 2 && (decide (s.grpState = 2) || decide (s.grpState = 3)) then
      let m := groupMsg pk.payload
      let v := (m.member, m.sg, bitAt m.flags 0, bits m.flags 1 3, bitAt m.flags 4, m.p)
      let votes := v :: s.grp.votes.filter (fun w => decide (w.1 ≠ m.member))
      if m.g ≠ s.grp.nextYield then s.split (2 ^ m.member)
      else if splitP votes s.self ≠ 0 then s.split (splitP votes s.self)
      else if s.grp.closed then s
      else s.modGrp fun u => { u with votes := votes }
    else s

/-- YIELD_VOTE_DEADLINE (R36): at S_g - 12,500 the arrival window closes. -/
def execYieldVoteDeadline (s : State) : Res :=
  occurs (s.beforeYield 12500) s fun s => s.modGrp fun g => { g with closed := true }

/-- Members whose vote for the yield is missing or carries another S_g. -/
def State.missingVotes (s : State) (sg : Nat) : Nat :=
  (List.range 16).foldl (fun m i =>
    if bitAt s.members i && !(s.grp.votes.any fun v => decide (v.1 = i) && decide (v.2.1 = sg)) then m + 2 ^ i else m) 0

/-- Members whose vote carries the abort flag. -/
def State.abortVotes (s : State) : Nat :=
  s.grp.votes.foldl (fun m v => if v.2.2.2.2.1 && !bitAt m v.1 then m + 2 ^ v.1 else m) 0

/-- YIELD_DECISION (R36): at S_g - 6,250 ABORT, HOLD or PASS. With several reasons the cause is GROUP_ABORT, then the abort
flag, then the missing vote (DEDUCED, log entry 21). -/
def execYieldDecision (s : State) : Res :=
  occurs (s.beforeYield 6250) s fun s =>
    let sg := s.yieldTime s.grp.nextYield
    let miss := s.missingVotes sg
    let abt := s.abortVotes
    let cause := if s.grp.groupAbort then 4 else if abt ≠ 0 then 1 else if miss ≠ 0 then 2 else 0
    let holds := s.grp.votes.filter fun v => v.2.2.1
    let own := decide (s.holdCausesNow ≠ 0)
    let s := if cause = 0 then s else s.setFld R.SEQ_GRP_STAT F.SEQ_GRP_STAT_MISSING miss
    s.modGrp fun g =>
      { g with decision := if cause ≠ 0 then 3 else if holds = [] then 1 else 2, abortCause := cause
               abortMask := g.abortMask ||| miss ||| abt, held := holds.map (fun v => (v.1, v.2.2.2.1)), ownHold := own, votes := []
               nextYield := g.nextYield + 1, sealed := none, closed := false }

/-- The channel waits at yield g at S = S_g: in RUN with GYIELD g the oldest yield it has decoded and not left (R27). -/
def State.waitsAt (s : State) (n g : Nat) : Bool :=
  decide (s.chState n = 4) && decide ((s.ch n).yields.head? = some g)

/-- A channel reaches S_g (R27, R28, R46, R72, R117): one that waits at GYIELD g completes it, ends its periods and stands at
YIELD or HALTED; another participating one takes YIELD_MISS, a disabled one with SEQNO and word 0 (DESIGN CHOICE, log entry 91). -/
def State.reachYield (s : State) (g n : Nat) : State :=
  if s.waitsAt n g then
    let s := s.setFld (R.SEQ_YDONE n) F.SEQ_YDONE_YIELD g
    let s := s.each [3 * n, 3 * n + 1, 3 * n + 2] fun a t => t.modAx a fun x => { x with period := none }
    s.enter n (if g + 1 = s.grp.n ∧ (s.ch n).haltDecoded then 6 else 5)
  else if s.flag (R.SEQ_STAT n) F.SEQ_STAT_INLAYER_OFF then
    (s.firstFault n 0x22 s.grp.s 0 false 0 |>.modGrp fun u => { u with abortFlag := true })
  else s.runFault n 0x22

/-- A trip that LATCH holds ends as the channel leaves a yield (R154). -/
def State.releaseLatched (s : State) (n : Nat) : State :=
  if s.flag (R.SRV_CH_CFG n) F.SRV_CH_CFG_LATCH then
    (s.modSc n fun c => { c with trip := none, staleRun := 0 }).setFlag (R.SRV_CH_STAT n) F.SRV_CH_STAT_TRIPPED false
  else s

/-- A channel leaves yield g (R27, R115, R154): RUN again, the oldest decoded yield dropped, a latched trip released. -/
def State.leaveYield (s : State) (n : Nat) : State :=
  if s.chState n = 5 || s.chState n = 6 then
    let s := s.modCh n fun c => { c with yields := c.yields.drop 1 }
    let s := s.releaseLatched n
    (s.enter n 4).sendReadies n
  else s

/-- The layer is Complete (R42, R115, R442): S stops, records are written, waiting channels leave the end yield for IDLE. -/
def State.complete (s : State) : State :=
  let s := s.modGrp fun g => { g with run := false, started := false, decision := 0 }
  let s := s.setGrpState 4
  let holds := s.fld R.SEQ_GRP_HOLDS F.SEQ_GRP_HOLDS_COUNT
  let s := s.syncShadow.post 0xFF00 0xFF s.grp.p holds
  let s := s.cavePost 0x000B false 0 3 0xFF (leBytes s.grp.p 6 ++ [0, 0] ++ leBytes holds 4)
  let s := s.each s.chs fun n t =>
    let st := t.chState n
    if st = 5 || st = 6 then (t.releaseLatched n).enter n 1 else if st = 8 || st = 9 then t.enter n 1 else t
  s.raise R.SEQ_GRP_ISR F.SEQ_GRP_ISR_COMPLETE

/-- Every waiting channel leaves the yield; after the end yield the layer is Complete (R36, R42). A fault that came too late for the
vote of the end yield, YIELD_MISS included, has no later vote to carry it: the member aborts the layer there (R43, R117; DEDUCED, log
entry 87). -/
def State.passYield (s : State) (g : Nat) : State :=
  let s := s.modGrp fun u => { u with decision := 0 }
  if g + 1 = s.grp.n then (if s.grp.abortFlag then s.abortLayer 1 0 g (2 ^ s.self) else s.complete)
  else s.each s.participants fun n t => t.leaveYield n

/-- Send the own HOLD or RELEASE event with the present stamp, and enter it among the holders (R37). -/
def State.sendHoldEvent (s : State) (hold : Bool) : State :=
  let g := s.grp.nextYield - 1
  let c := s.holdCausesNow
  let s := s.sendGroup (if hold then 3 else 4) (2 * c) g (s.yieldTime g) 0
  let mt := s.time.mt
  let me := s.self
  s.modGrp fun u =>
    { u with ownEvent := some (hold, mt, mt, c)
             holders := (me, fineOfMt mt, hold) :: u.holders.filter (fun h => decide (h.1 ≠ me))
             holdCauses := if hold then u.holdCauses ||| c else u.holdCauses
             holdMembers := if hold ∧ !bitAt u.holdMembers me then u.holdMembers + 2 ^ me else u.holdMembers }

/-- S stops at S_g (R36, R37, R40): the holders are the members that voted HOLD. A member that had a cause at the decision sends its
HOLD event, whatever it sealed (DEDUCED, log entry 88). -/
def State.beginHold (s : State) : State :=
  let hs := s.grp.held
  let mask := hs.foldl (fun m v => if bitAt m v.1 then m else m + 2 ^ v.1) 0
  let causes := hs.foldl (fun c v => c ||| v.2) 0
  let own := s.grp.ownHold
  let mt := s.time.mt
  let s := s.modGrp fun g =>
    { g with run := false, holdAt := mt, holders := hs.map (fun v => (v.1, 0, true)), holdCauses := causes
             holdMembers := mask, ownEvent := none, restart := none, decision := 0 }
  let s := (s.setGrpState 3).satAdd R.SEQ_GRP_HOLDS F.SEQ_GRP_HOLDS_COUNT 1
  let s := if own then s.sendHoldEvent true else s
  s.raise R.SEQ_GRP_ISR F.SEQ_GRP_ISR_HOLD

/-- YIELD_POINT (R28, R36, R42, R46): at S = S_g of the decided yield, the channels are checked; then the group passes, stops
S for a hold, or aborts. -/
def execYieldPoint (s : State) : Res :=
  let g := s.grp.nextYield - 1
  occurs (decide (s.grpState = 2) && decide (s.grp.decision ≠ 0) && decide (s.grp.s = s.yieldTime g)) s fun s =>
    let s := s.each s.participants fun n t => t.reachYield g n
    if s.grp.decision = 1 then s.passYield g
    else if s.grp.decision = 2 then s.beginHold
    else s.abortLayer s.grp.abortCause 0 g s.grp.abortMask

/-! ### Holds -/

/-- The latest holder entries say RELEASE everywhere: the holder set is empty (R37). -/
def State.holdersEmpty (s : State) : Bool := s.grp.holders.all fun h => !h.2.2

/-- The latest RELEASE stamp. -/
def State.lastRelease (s : State) : Nat := s.grp.holders.foldl (fun m h => max m h.2.1) 0

/-- With an empty holder set, the restart is the first grid point at or after the last RELEASE stamp plus 25,000 ticks (R38). -/
def State.computeRestart (s : State) : State :=
  if decide (s.grpState = 3) && s.holdersEmpty && decide (s.grp.restart = none) then
    let t : Int := (s.lastRelease + 25000 * tickFine : Nat) - s.grp.origin * 1024
    let k := -((-t) / (tickFine : Int))
    (s.modGrp fun g => { g with restart := some (g.origin + k * (tickU : Nat)).toNat }).logGaps
  else s

/-- A cause that stands while this member's latest event is not HOLD sends a HOLD event (R37), which cancels a computed restart; within
12,500 ticks of the restart it is the request for the next yield that R39 says, and no event goes out (DESIGN CHOICE, log entry 89). -/
def State.holdRise (s : State) : State :=
  let owns := s.grp.holders.any fun h => decide (h.1 = s.self) && h.2.2
  if decide (s.grpState = 3) && decide (s.holdCausesNow ≠ 0) && !owns then
    match s.grp.restart with
    | some t =>
      if s.time.mt + ticksU 12500 ≤ t then (s.modGrp fun g => { g with restart := none }).sendHoldEvent true
      else s.modGrp fun g => { g with lateHold := true }
    | none => s.sendHoldEvent true
  else s

/-- HOLD_CAUSE_CLEAR (R37): when the last cause of a holding member has cleared, it sends RELEASE with its stamp. -/
def execHoldCauseClear (s : State) : Res :=
  let owns := s.grp.holders.any fun h => decide (h.1 = s.self) && h.2.2
  occurs (decide (s.grpState = 3) && owns && decide (s.holdCausesNow = 0)) s fun s =>
    (s.sendHoldEvent false).computeRestart

/-- HOLD_EVENT_REPEAT (R37): every 12,500 ticks the member's latest event goes out again, with its original stamp and a new SEQ. -/
def execHoldEventRepeat (s : State) : Res :=
  match s.grp.ownEvent with
  | some (hold, stamp, last, c) =>
    occurs (decide (s.grpState = 3) && decide (last + ticksU 12500 ≤ s.time.mt)) s fun s =>
      let g := s.grp.nextYield - 1
      let pay := s.groupPayload (if hold then 3 else 4) (2 * c) g (s.yieldTime g) (mtStamp stamp) 0
      let s := if s.others = [] then s else s.broadcast 0x12 pay
      let mt := s.time.mt
      (s.modGrp fun u => { u with ownEvent := some (hold, stamp, mt, c) }).holdRise
  | none => occurs true s State.holdRise

/-- Enter a received HOLD or RELEASE event: the latest by stamp stands for its member (R37). -/
def State.holderEvent (s : State) (m : GroupMsg) (hold : Bool) : State :=
  let t := fineOfStamp m.stamp
  if s.grp.holders.any fun h => decide (h.1 = m.member) && decide (t < h.2.1) then s
  else
    s.modGrp fun g =>
      { g with holders := (m.member, t, hold) :: g.holders.filter (fun h => decide (h.1 ≠ m.member))
               holdCauses := if hold then g.holdCauses ||| bits m.flags 1 3 else g.holdCauses
               holdMembers := if hold ∧ !bitAt g.holdMembers m.member then g.holdMembers + 2 ^ m.member else g.holdMembers }

/-- HOLD_EVENT_RECEIVED (R37, R39): the member joins the holders; an event stamped at least 12,500 ticks before a computed
restart cancels it, a later one is ignored for this hold. -/
def execHoldEventReceived (port : Nat) (pk : Packet) (s : State) : Res :=
  onUnit port s.hoopLanes 8 s fun s => s.receive port pk fun s =>
    if s.groupOk pk 3 && decide (s.grpState = 3) then
      let m := groupMsg pk.payload
      match s.grp.restart with
      | some t =>
        if fineOfStamp m.stamp + 12500 * tickFine ≤ fineOfMt t then
          (s.holderEvent m true).modGrp fun g => { g with restart := if g.holders.all (fun h => !h.2.2) then g.restart else none }
        else s
      | none => (s.holderEvent m true).holdRise
    else s

/-- RELEASE_EVENT_RECEIVED (R37, R38): the member leaves the holders; an empty set gives the restart. -/
def execReleaseEventReceived (port : Nat) (pk : Packet) (s : State) : Res :=
  onUnit port s.hoopLanes 8 s fun s => s.receive port pk fun s =>
    if s.groupOk pk 4 && decide (s.grpState = 3) then (s.holderEvent (groupMsg pk.payload) false).holdRise.computeRestart
    else s

/-- HOLD_RESTART (R38, R40, R42): at the computed restart S resumes, P grows by the hold's length, the record is posted and
every waiting channel leaves; at the end yield the layer completes. -/
def execHoldRestart (s : State) : Res :=
  let due := match s.grp.restart with | some t => decide (t ≤ s.time.mt) | none => false
  occurs (decide (s.grpState = 3) && due) s fun s =>
    let g := s.grp.nextYield - 1
    let len := (s.time.mt - s.grp.holdAt) / tickU
    let causes := s.grp.holdCauses % 8
    let s := s.modGrp fun u => { u with run := true, p := u.p + len, restart := none, ownEvent := none, holders := [] }
    let s := s.setGrpState 2
    let s := s.setReg R.SEQ_GRP_LASTHOLD
      (withField F.SEQ_GRP_LASTHOLD_CAUSE (withField F.SEQ_GRP_LASTHOLD_INDEX 0 g) causes)
    let s := s.setFld R.SEQ_GRP_LASTHOLD_LEN_LO F.SEQ_GRP_LASTHOLD_LEN_LO_LEN (len % 2 ^ 32)
    let s := s.setFld R.SEQ_GRP_LASTHOLD_LEN_HI F.SEQ_GRP_LASTHOLD_LEN_HI_LEN (len / 2 ^ 32)
    let s := s.post 0xFF01 0xFF len (g % 65536 + causes * 65536 + s.grp.holdMembers % 65536 * 2 ^ 32)
    let s := s.raise R.SEQ_GRP_ISR F.SEQ_GRP_ISR_RESTART
    s.passYield g

/-! ### Aborts -/

/-- Cancel an armed layer before it starts (R45): channels rewound and IDLE, Aborted with CANCELLED, 0xFF06 with yield 0xFFFF and the
aborting member, no Cave record. -/
def State.cancelArmed (s : State) (cause member : Nat) : State :=
  let s := s.each s.chs fun n t => t.unarmChan n
  let s := (s.setGrpState 5).setFld R.SEQ_GRP_STAT F.SEQ_GRP_STAT_ARMSTAT 7
  let s := s.setFlag R.SEQ_GRP_STAT F.SEQ_GRP_STAT_CHECKING false
  let s := s.modGrp fun g => { g with wakeAlarm := none, wakeVote := false, started := false }
  let s := { s with armUndo := none }
  (s.post 0xFF06 0xFF cause (0xFFFF + 2 ^ member % 65536 * 2 ^ 32)).raise R.SEQ_GRP_ISR F.SEQ_GRP_ISR_ABORT

/-- ABORT (R43, R45): a live layer is aborted at once with cause 3, GROUP_ABORT sent; an armed one is cancelled; otherwise the
command is ignored. -/
def execAbort (s : State) : Res :=
  .next
    (if s.layerLive then (s.sendAbort s.abortIndex).abortLayer 3 0 s.abortIndex (2 ^ s.self)
     else if s.grpState = 1 then (s.sendAbort 0xFFFF).cancelArmed 3 s.self
     else s)

/-- GROUP_ABORT_RECEIVED (R36, R43, R45): during a hold the layer aborts at once; while it runs, at the next decision; an
armed layer is cancelled with cause 4. The member that cancels so sends no GROUP_ABORT of its own (DEDUCED, log entry 90). -/
def execGroupAbortReceived (port : Nat) (pk : Packet) (s : State) : Res :=
  onUnit port s.hoopLanes 8 s fun s => s.receive port pk fun s =>
    if s.groupOk pk 5 then
      let m := (groupMsg pk.payload).member
      if s.grpState = 3 then s.abortLayer 4 0 s.abortIndex (2 ^ m)
      else if s.layerLive then s.modGrp fun g => { g with groupAbort := true, abortMask := g.abortMask ||| 2 ^ m }
      else s.cancelArmed 4 m
    else s

end Sys2Proof.Machine
end

