-- ==== Sys2Proof/Machine/Curd.lean ====
section
/-!
DEFINITION. The decoder: instruction words, their layouts and limits, the instruction flow, and one decode command for each
instruction (02_curd_instructions, R55 to R98). Fault codes are the status codes of R68; ABSENT (0x05) covers units of the executing
device (R7). Nothing measured reorders, inserts or retimes an instruction (R18).
-/

namespace Sys2Proof.Machine

/-! ### Words and layouts (R57 to R59) -/

/-- An instruction's opcode and, for each of its words, the bits that are fields; the count of masks less one is EXT. -/
structure OpRow where
  op : Nat
  masks : List Nat
  deriving DecidableEq, Repr

/-- The bits from hi down to lo. -/
def span (hi lo : Nat) : Nat := (2 ^ (hi + 1 - lo) - 1) * 2 ^ lo

/-- The OFFSET field of a point instruction. -/
def spanOffset : Nat := span 53 30

/-- The instruction set with the field bits of every word (R59, R69 to R98). -/
def opRows : List OpRow :=
  [⟨0x00, [0]⟩, ⟨0x01, [0]⟩, ⟨0x02, [span 53 49 + span 47 0]⟩, ⟨0x03, [span 53 49 + span 31 0]⟩, ⟨0x04, [span 15 0]⟩,
   ⟨0x05, [span 15 0, span 47 0]⟩, ⟨0x06, [spanOffset + span 15 0]⟩, ⟨0x07, [spanOffset + span 15 0, span 63 0]⟩,
   ⟨0x08, [span 23 0]⟩, ⟨0x09, [0]⟩, ⟨0x0A, [span 53 49 + span 15 0]⟩, ⟨0x0B, [0]⟩, ⟨0x0C, [span 52 49 + span 31 0]⟩,
   ⟨0x0D, [span 53 45 + span 31 0]⟩, ⟨0x0E, [spanOffset]⟩, ⟨0x10, [span 48 0, span 63 8]⟩, ⟨0x11, [span 47 0, span 63 8]⟩,
   ⟨0x12, [span 47 0, span 63 8, span 63 16, span 63 40]⟩, ⟨0x13, [span 53 49 + span 31 0]⟩, ⟨0x14, [span 48 0]⟩,
   ⟨0x18, [spanOffset + span 29 25 + span 19 17 + span 14 0]⟩, ⟨0x19, [spanOffset + span 6 4 + span 1 0]⟩,
   ⟨0x1A, [spanOffset + span 6 0]⟩, ⟨0x30, [spanOffset + span 15 0]⟩, ⟨0x31, [spanOffset + span 15 0, span 31 0]⟩,
   ⟨0x32, [spanOffset + span 15 0, span 63 0, span 15 0]⟩, ⟨0x33, [spanOffset, span 63 0]⟩,
   ⟨0x34, [spanOffset + span 7 4 + span 1 0, span 63 32]⟩, ⟨0x35, [spanOffset + span 23 8 + span 4 0]⟩,
   ⟨0x36, [spanOffset + span 4 0]⟩, ⟨0x40, [span 53 52 + span 47 27 + span 15 0, span 63 0, span 63 0]⟩,
   ⟨0x41, [spanOffset + span 29 14 + span 5 4 + span 1 0]⟩, ⟨0x42, [spanOffset + span 9 8 + span 2 0, span 31 0]⟩]

/-- The row of an opcode; none for an undefined one (R59). -/
def opRow (op : Nat) : Option OpRow := opRows.find? fun r => decide (r.op = op)

/-- Opcode and EXT of a first word (R57). -/
def opOf (w : Nat) : Nat := bits w 56 8
def extOf (w : Nat) : Nat := bits w 54 2

/-- Field bits of a first word: opcode and EXT are no operands. -/
def operandBits (i w : Nat) : Nat := if i = 0 then w % 2 ^ 54 else w

/-- Every operand bit outside the layout's fields is zero (R58). -/
def reservedZero (ms ws : List Nat) : Bool :=
  (ms.zip ws).zipIdx.all fun e => decide (operandBits e.2 e.1.2 &&& e.1.1 = operandBits e.2 e.1.2)

/-- Word i of an instruction. -/
def wd (ws : List Nat) (i : Nat) : Nat := nth ws i 0

/-- A K register. -/
def kReg (k : List Nat) (i : Nat) : Nat := nth k i 0

/-- K[KN] as a signed time offset when KT = 1 (R60, R70, R71, R84). -/
def kTime (k : List Nat) (w : Nat) : Int := if bitAt w 53 then signed 32 (kReg k (bits w 49 4)) else 0

/-- The count of REP (R77). -/
def repCount (k : List Nat) (w : Nat) : Nat := if bitAt w 53 then kReg k (bits w 49 4) else bits w 0 16

/-- The table number of PERIOD (R86). -/
def periodTab (k : List Nat) (w : Nat) : Nat := if bitAt w 29 then kReg k (bits w 25 4) else bits w 13 2

/-- The duration of DWELL (R84). -/
def dwellDur (k : List Nat) (w : Nat) : Int := (bits w 0 32 : Int) + kTime k w

/-- End positions of LINE, JUMP and CUBIC, and of FOCUS (R81, R85). -/
def endX (ws : List Nat) : Int := signed 24 (bits (wd ws 0) 24 24)
def endY (ws : List Nat) : Int := signed 24 (bits (wd ws 0) 0 24)
def endZ (ws : List Nat) : Int := signed 24 (bits (wd ws 1) 40 24)

/-- The reserved position code of R15. -/
def badPos (p : Int) : Bool := decide (p = -8388608)

/-- The field values of an instruction lie in their ranges (R15, R58, and each instruction's limits). -/
def rangeOk (k : List Nat) (op : Nat) (ws : List Nat) : Bool :=
  let w := wd ws 0
  let e := wd ws 1
  if op = 0x03 then decide (0 ≤ (bits w 0 32 : Int) + kTime k w)
  else if op = 0x05 || op = 0x06 then decide (bits w 0 16 < 0xF000)
  else if op = 0x07 then decide (bits w 0 16 < 0xFF00)
  else if op = 0x0A then decide (repCount k w ≠ 0) && (!bitAt w 53 || decide (bits w 0 16 = 0))
  else if op = 0x0D then bitAt w 53 || decide (bits w 45 4 = 0)
  else if op = 0x10 || op = 0x11 || op = 0x12 then
    !badPos (endX ws) && !badPos (endY ws) && !badPos (endZ ws) && decide (625 ≤ bits e 8 32)
  else if op = 0x13 then decide (625 ≤ dwellDur k w) && decide (dwellDur k w < (2 ^ 32 : Nat))
  else if op = 0x14 then !badPos (signed 24 (bits w 24 24)) && decide (625 ≤ bits w 0 24)
  else if op = 0x18 then
    let len := bits w 0 13
    decide (len ≠ 1) && decide (len ≤ 4096) && decide (bits w 17 3 ≠ 0) && decide (periodTab k w ≤ 3) &&
      (!bitAt w 29 || decide (bits w 13 2 = 0))
  else if op = 0x19 then decide (bits w 0 2 ≠ 3) && decide (bits w 4 3 ≠ 0)
  else if op = 0x1A then decide (bits w 4 3 ≠ 0) && (!bitAt w 3 || decide (bits w 0 3 = 0))
  else if op = 0x31 then decide (125 ≤ bits e 0 32)
  else if op = 0x32 then
    let per := bits e 40 24
    let wid := bits e 16 24
    decide (8 ≤ per) && decide (4 ≤ wid) && decide (wid + 4 ≤ per) && decide (bits e 0 16 ≠ 0) &&
      decide (bits (wd ws 2) 0 16 ≠ 0)
  else if op = 0x33 then
    decide (0 ≤ signed 16 (bits e 48 16)) && decide (signed 16 (bits e 32 16) ≤ 0) && decide (bits e 0 16 ≤ bits e 16 16)
  else if op = 0x34 then decide (bits w 0 2 ≠ 3)
  else if op = 0x35 then decide (bits w 8 16 ≠ 0)
  else if op = 0x40 then
    let n := bits (wd ws 2) 48 16
    let a := bits (wd ws 2) 32 16
    if bitAt w 52 then decide (n ≤ 1024) && decide (a ≤ 1024) else decide (wd ws 2 = 0)
  else if op = 0x41 then decide (bits w 14 16 ≠ 0) && decide (bits w 4 2 < 2)
  else true

/-! ### The feed's front -/

/-- DRAM line of a place in the flow: the decoder's curd, or the library. -/
def Chan.lineOf (c : Chan) (l : Loc) : Nat :=
  if l.lib then c.libLine + 1 + l.word / 8
  else (match c.curds with | d :: _ => d.line | [] => 0) + 1 + l.word / 8

/-- One past the last word of the block that a place lies in. -/
def Chan.endOf (c : Chan) (lib : Bool) : Nat :=
  if lib then c.libWords else match c.curds with | d :: _ => d.words | [] => 0

/-- Front entries that hold no word to decode: the header line of a curd not yet begun. -/
def Chan.skip (c : Chan) : Nat := if c.begun then 0 else 1

/-- The k-th word from the decoder's place on, when its entry is filled. -/
def Chan.wordAt (c : Chan) (k : Nat) : Option Nat :=
  let l := c.dec.loc
  let w := l.word + k
  match c.feed[c.skip + (w / 8 - l.word / 8)]? with
  | some e =>
    if e.arrived && decide (e.line = c.lineOf ⟨l.lib, w⟩) then some (nth e.words (w % 8) 0).toNat else none
  | none => none

/-- The first m words of the instruction at the decoder's place; none while one is missing. -/
def Chan.wordsAt (c : Chan) (m : Nat) : Option (List Nat) := (List.range m).mapM c.wordAt

/-! ### Decode faults (R67) -/

/-- SEQNO of the decoder's curd. -/
def Chan.seqno (c : Chan) : Nat := match c.curds with | d :: _ => d.seqno | [] => c.nextSeqno

/-- The layer has started: the group is Running, or Holding with S stopped. -/
def State.layerOn (s : State) : Bool := decide (s.grpState = 2) || decide (s.grpState = 3)

/-- A decode fault at a word: the decoder stops; the fault time is C; a time already passed takes effect at once (R67). -/
def State.decodeFaultAt (s : State) (n code : Nat) (l : Loc) : State :=
  let c := s.ch n
  let s := s.modCh n fun c => { c with decStopped := true, pending := some ⟨code, c.cursor, l.word, l.lib, c.seqno⟩ }
  if s.layerOn && decide (c.cursor < s.grp.s) then
    (s.modCh n fun c => { c with pending := none }).fault n code c.cursor l.word l.lib c.seqno
  else s

/-- A decode fault at the instruction in decode. -/
def State.decodeFault (s : State) (n code : Nat) : State := s.decodeFaultAt n code (s.ch n).dec.loc

/-- A fetch fault of the decoder's curd takes effect when its fault time, C at the end of the previous curd, has come, in a hold as
well (R67). -/
def State.fetchDue (s : State) (n : Nat) : State :=
  let c := s.ch n
  match c.curds with
  | d :: _ =>
    match d.fault with
    | some (code, l) =>
      if s.layerOn && decide (c.prevEnd ≤ s.grp.s) then s.fault n code c.prevEnd l.word l.lib d.seqno else s
    | none => s
  | [] => s

/-- A run-time fault at the instruction in decode: it takes effect at once, or at M_start while the channel decodes ahead
(R33, R67). -/
def State.faultNow (s : State) (n code : Nat) (l : Loc) : State :=
  let c := s.ch n
  if s.chState n = 3 then
    s.modCh n fun c => { c with decStopped := true, pending := some ⟨code, s.grp.s, l.word, l.lib, c.seqno⟩ }
  else s.fault n code s.grp.s l.word l.lib c.seqno

/-! ### Line checks and fetches again (R106, R108, R109) -/

/-- Replace the accepted curd with a descriptor index. -/
def Chan.modCurd (c : Chan) (index : Nat) (f : Curd → Curd) : Chan :=
  { c with curds := c.curds.map fun d => if d.index = index then f d else d }

/-- A curd's fetch fault waits for its fault time; one already passed takes effect (R67). -/
def State.curdFault (s : State) (n index code : Nat) (l : Loc) : State :=
  (s.modCh n fun c => c.modCurd index fun d => if d.fault.isSome then d else { d with fault := some (code, l) }).fetchDue n

/-- An entry's read is outstanding (R107). -/
def FeedEntry.reading (e : FeedEntry) : Bool := e.asked && !e.arrived

/-- Line reads outstanding. -/
def Chan.outstanding (c : Chan) : Nat := (c.feed.filter FeedEntry.reading).length

/-- Request a line for the feed at its DRAM port (R108, R382). -/
def State.feedRequest (s : State) (n line : Nat) : State :=
  { s with ddr := { s.ddr with queue := s.ddr.queue ++ [⟨0, n, line, false⟩] } }

/-- Request an entry's line, unless 64 reads are outstanding: it then waits for WALKER_FETCH (R107). -/
def State.feedAsk (s : State) (n slot : Nat) (e : FeedEntry) : State :=
  let free := decide ((s.ch n).outstanding < 64)
  let s := s.modCh n fun c => { c with feed := setNth c.feed slot { e with asked := free } }
  if free then s.feedRequest n e.line else s

/-- The first word index that an entry's visit serves, and whether it is in the library. -/
def FeedEntry.place (e : FeedEntry) (libLine libWords : Nat) : Loc :=
  ⟨decide (libLine < e.line) && decide (e.line ≤ libLine + (libWords + 7) / 8), match e.reads with | r :: _ => r.2 | [] => 0⟩

/-- A check of an entry failed (R109): fetch again, three times at most, then LINE_CRC. -/
def State.refetch (s : State) (n slot : Nat) (e : FeedEntry) : State :=
  let gone : FeedEntry := { e with asked := false, arrived := false }
  let s := s.modCh n fun c => { c with feed := setNth c.feed slot gone }
  if e.refetch < 3 then
    (s.satAdd (R.SEQ_FEED_REFETCH n) F.SEQ_FEED_REFETCH_COUNT 1).feedAsk n slot { gone with refetch := e.refetch + 1 }
  else
    let c := s.ch n
    (s.detectCrc 0 n).curdFault n e.curd 0x17 (e.place c.libLine c.libWords)

/-- The words of an entry agree with the CRC-32C that the DRAM controller formed over the line (R108). -/
def FeedEntry.sound (e : FeedEntry) : Bool := decide (crc32c (e.words.flatMap fun w => leBytes w.toNat 8) = e.crc)

/-- The decoder comes to entries: each is checked at its first reading, where a word of it may read uncorrectable (R108, R393). False where one fails, and its line is fetched again. -/
def State.feedCheck (s : State) (n : Nat) : List Nat → Bool × State
  | [] => (true, s)
  | i :: is =>
    match (s.ch n).feed[i]? with
    | some e =>
      if !e.arrived || e.checked then s.feedCheck n is
      else
        let (ue, s) := s.hiddenUe 0 n n
        if !ue && e.sound then
          (s.modCh n fun c => { c with feed := setNth c.feed i { e with checked := true } }).feedCheck n is
        else (false, s.refetch n i e)
    | none => s.feedCheck n is

/-- The entries that hold the first m words of the instruction at the decoder's place. -/
def Chan.slotsOf (c : Chan) (m : Nat) : List Nat :=
  let w := c.dec.loc.word
  (List.range ((w + m - 1) / 8 - w / 8 + 1)).map fun i => c.skip + i

/-! ### The flow (R55, R76, R77, R96, R103) -/

/-- Leave the feed's front entry. -/
def Chan.dropFront (c : Chan) (k : Nat) : Chan := { c with feed := c.feed.drop k }

/-- The decoder moves to a place. -/
def Chan.at_ (c : Chan) (l : Loc) : Chan := { c with dec := { c.dec with loc := l } }

/-- The curd has been decoded to its end: its descriptor is released with status 0, and the next curd's header line comes
next (R103, R104). A loop still open crosses the curd's end: CONTEXT (R77). The LAST curd ends in HALT: ORDER (R55). -/
def State.endCurd (s : State) (n : Nat) : State :=
  let c := s.ch n
  match c.curds with
  | [] => s
  | d :: ds =>
    if c.dec.loops ≠ [] then s.decodeFault n 0x08
    else if d.last && !c.haltDecoded then s.decodeFault n 0x06
    else
      let s := s.releaseDesc n d 0
      let s := s.modCh n fun c =>
        { c with curds := ds, dec := { c.dec with loc := ⟨false, 0⟩ }, begun := false, prevEnd := c.cursor
                 walk := { c.walk with curd := c.walk.curd - 1 } }
      s.fetchDue n

/-- Go on from a block to its resume place, in the same entry when the visit serves that word, else from the next. -/
def Chan.blockJump (c : Chan) (w : Nat) (inUse : Bool) : Bool × Chan :=
  let keep := inUse && (match c.feed with | e :: _ => e.reads.any (fun r => decide (r = ([], w))) | [] => false)
  (keep, (if inUse && !keep then c.dropFront 1 else c).at_ ⟨false, w⟩)

/-- After the flow has moved: the ends of HAND blocks with their check of C, the library's end, the curd's end. The last word
decoded is at last; inUse says that the front entry still holds the decoder's line. A wrong advance of a block is found when its last
word has been decoded, and its fault time is C with that word's effect (DEDUCED, log entry 95). -/
def State.settle (s : State) (n : Nat) (last : Loc) : Bool → Nat → State
  | _, 0 => s
  | inUse, fuel + 1 =>
    let c := s.ch n
    let l := c.dec.loc
    match c.handBlock with
    | b :: bs =>
      if !l.lib && decide (b.stop ≤ l.word) && decide (c.dec.calls.length = b.depth) then
        if c.cursor ≠ b.cursor then s.decodeFaultAt n 0x06 last
        else
          let (keep, c) := c.blockJump b.resume inUse
          (s.modCh n fun _ => { c with handBlock := bs }).settle n last keep fuel
      else if l.lib && decide (c.libWords ≤ l.word) then s.decodeFault n 0x09
      else s
    | [] =>
      if l.lib && decide (c.libWords ≤ l.word) then s.decodeFault n 0x09
      else if !l.lib && decide (c.endOf false ≤ l.word) then s.endCurd n
      else s

/-- Move past an instruction of k words, leaving each line that the flow leaves (R107). -/
def Chan.past (c : Chan) (k : Nat) : Chan :=
  let l := c.dec.loc
  let w := l.word + k
  let lines := if c.endOf l.lib ≤ w then (w + 7) / 8 - l.word / 8 else w / 8 - l.word / 8
  (c.dropFront lines).at_ ⟨l.lib, w⟩

/-- The decoder's place lies inside its front entry's line. -/
def Chan.inLine (c : Chan) : Bool := decide (c.dec.loc.word % 8 ≠ 0) && decide (c.dec.loc.word < c.endOf c.dec.loc.lib)

/-- Go on with the word after an instruction of k words. -/
def State.next (s : State) (n k : Nat) : State :=
  let last := (s.ch n).dec.loc
  let s := s.modCh n fun c => c.past k
  s.settle n last (s.ch n).inLine ((s.ch n).handBlock.length + 1)

/-- Go on at another place, in a new visit (R76, R77, R107). -/
def State.jumpTo (s : State) (n : Nat) (l : Loc) : State :=
  let last := (s.ch n).dec.loc
  let s := s.modCh n fun c => (c.dropFront 1).at_ l
  s.settle n last false ((s.ch n).handBlock.length + 1)

/-! ### Decoding one instruction -/

/-- The decoder may decode: RUN, YIELD, or READY after START (R33, R114); nothing stops or stalls it (R65, R96). -/
def State.decoding (s : State) (n : Nat) : Bool :=
  let c := s.ch n
  let st := s.chState n
  (decide (st = 4) || decide (st = 5) || (decide (st = 3) && s.grp.started)) && !c.decStopped && decide (c.pending = none) &&
    !c.haltDecoded && decide (c.segs.length < 16) && decide (c.acts.length < 64) && decide (c.hands.length < 4) &&
    !(c.hands.any fun h => h.fb && !h.decided) &&
    (match c.curds with | d :: _ => d.hdr | [] => false)

/-- Begin a curd (R55): leave its header line, wait implicitly to its STIME; a STIME below C is ORDER. -/
def State.openCurd (s : State) (n : Nat) : State :=
  let c := s.ch n
  if c.begun then s
  else
    match c.curds with
    | d :: _ =>
      let s := s.modCh n fun c => { c.dropFront 1 with begun := true }
      if d.stime < c.cursor then s.decodeFault n 0x06 else s.modCh n fun c => { c with cursor := d.stime }
    | [] => s

/-- GYIELD N - 1 has just been decoded: only HALT may follow (R69). -/
def State.afterLastYield (s : State) (n : Nat) : Bool :=
  match (s.ch n).lastYield with | some (g, _) => decide (g + 1 = s.grp.n) | none => false

/-- The last schedule time at which an instruction may still be decoded: 250 ticks before a point's action time, 625 before a
segment's start, 5,000 before a HAND's anchor (R64). Words that are missing count as the cursor's own time. -/
def Chan.deadline (c : Chan) (ws : List Nat) : Option Int :=
  let op := opOf (wd ws 0)
  let off := bits (wd ws 0) 30 24
  if 0x10 ≤ op ∧ op ≤ 0x14 then some ((c.cursor : Int) - 625)
  else if op = 0x40 then some ((if 2 ≤ ws.length then bits (wd ws 1) 0 48 else c.cursor : Int) - 5000)
  else if op = 0x06 ∨ op = 0x07 ∨ op = 0x0E ∨ (0x18 ≤ op ∧ op ≤ 0x42) then some ((c.cursor + off : Nat) - 250)
  else none

/-- The check of R64 is suspended: HALT decoded, or a GYIELD decoded whose S_g has not passed. -/
def State.lateOff (s : State) (n : Nat) : Bool :=
  let c := s.ch n
  c.haltDecoded || (match c.lastYield with | some (_, sg) => decide (s.grp.s ≤ sg) | none => false)

/-- An instruction's deadline has passed while the layer runs (R64). -/
def State.isLate (s : State) (n : Nat) (dl : Option Int) : Bool :=
  match dl with
  | some t => s.grp.run && !s.lateOff n && decide (t < (s.grp.s : Int))
  | none => false

/-- The words that an instruction's decoding uses: as many as its row and the block's end allow, or the first alone when EXT is not
the row's (R58). -/
def Chan.usedWords (c : Chan) (w0 : Nat) (row : OpRow) : Nat :=
  let m := row.masks.length
  if extOf w0 + 1 = m then min m (c.endOf c.dec.loc.lib - c.dec.loc.word) else 1

/-- Decode words that the decoder has read and checked. Checks in order: EXTCOUNT, RESERVED, TRUNC, RANGE, LATE, then the
instruction's own (R58; the order is DEDUCED, log entry 22). -/
def State.decodeWords (s : State) (n : Nat) (row : OpRow) (w0 : Nat) (ws : List Nat) (f : List Nat → State → State) : State :=
  let c := s.ch n
  let m := row.masks.length
  let have_ := min m (c.endOf c.dec.loc.lib - c.dec.loc.word)
  let s := s.openCurd n
  if (s.ch n).decStopped then s
  else if s.afterLastYield n && decide (row.op ≠ 0x01) then s.decodeFault n 0x06
  else if extOf w0 + 1 ≠ m then s.decodeFault n 0x02
  else if !reservedZero row.masks ws then s.decodeFault n 0x03
  else if have_ < m then s.decodeFault n 0x09
  else if !rangeOk (s.ch n).dec.k row.op ws then s.decodeFault n 0x04
  else if s.isLate n ((s.ch n).deadline ws) then s.faultNow n 0x20 (s.ch n).dec.loc
  else f ws s

/-- Decode the instruction at the decoder's place, when its opcode is the one meant. An entry is checked before a word of it is used,
and a failed check sends its line for again (R108, R109). A word not yet in the feed stalls the decoder. -/
def State.decodeWith (s : State) (n : Nat) (row : OpRow) (f : List Nat → State → State) : State :=
  if !s.decoding n then s
  else
    let first := s.feedCheck n ((s.ch n).slotsOf 1)
    match first.1, (first.2.ch n).wordAt 0 with
    | true, some w0 =>
      if opOf w0 ≠ row.op then first.2
      else
        let m := (first.2.ch n).usedWords w0 row
        let all := first.2.feedCheck n ((first.2.ch n).slotsOf m)
        match all.1, (all.2.ch n).wordsAt m with
        | true, some ws => all.2.decodeWords n row w0 ws f
        | _, _ => all.2
    | _, _ => first.2

/-- A decode command of one opcode on a channel. -/
def decodeOn (n op : Nat) (s : State) (f : List Nat → State → State) : Res :=
  onUnit n s.channels 32 s fun s =>
    match opRow op with
    | some row => s.decodeWith n row f
    | none => s

/-- The decoder stands in the pattern library. -/
def State.inLib (s : State) (n : Nat) : Bool := (s.ch n).dec.loc.lib

/-- UNDEFINED_OPCODE (R58): an opcode that R59 does not list is the decode fault OPCODE. -/
def execUndefinedOpcode (ch : Nat) (s : State) : Res :=
  onUnit ch s.channels 32 s fun s =>
    if !s.decoding ch then s
    else
      let first := s.feedCheck ch ((s.ch ch).slotsOf 1)
      let s := first.2
      match first.1, (s.ch ch).wordAt 0 with
      | true, some w0 =>
        if opRow (opOf w0) = none then
          let s := s.openCurd ch
          if (s.ch ch).decStopped then s
          else if s.afterLastYield ch then s.decodeFault ch 0x06
          else s.decodeFault ch 0x01
        else s
      | _, _ => s

/-! ### Flow and time instructions -/

/-- NOP (R69). -/
def execNop (ch : Nat) (s : State) : Res := decodeOn ch 0x00 s fun _ s => s.next ch 1

/-- HALT (R69): the last word of the LAST curd, directly after GYIELD N - 1; elsewhere CONTEXT. The curd is released; a channel
that waits at the end yield becomes HALTED (R115). -/
def execHalt (ch : Nat) (s : State) : Res :=
  decodeOn ch 0x01 s fun _ s =>
    let c := s.ch ch
    let lastWord := !c.dec.loc.lib && decide (c.dec.loc.word + 1 = c.endOf false) &&
      (match c.curds with | d :: _ => d.last | [] => false)
    if lastWord && s.afterLastYield ch && decide (c.handBlock = []) then
      let s := s.modCh ch fun c => { c with haltDecoded := true }
      let s := s.next ch 1
      if decide (s.chState ch = 5) && decide ((s.ch ch).yields.head? = some (s.grp.n - 1)) then s.enter ch 6 else s
    else s.decodeFault ch 0x08

/-- Set the cursor, then go on. -/
def State.cursorTo (s : State) (n t k : Nat) : State := (s.modCh n fun c => { c with cursor := t }).next n k

/-- WAIT (R70): C := TIME, plus K[KN] when KT = 1; a C below the present one or outside 48 bits is ORDER. -/
def execWait (ch : Nat) (s : State) : Res :=
  decodeOn ch 0x02 s fun ws s =>
    let c := s.ch ch
    let t : Int := (bits (wd ws 0) 0 48 : Int) + kTime c.dec.k (wd ws 0)
    if t < c.cursor ∨ (2 ^ 48 : Nat) ≤ t then s.decodeFault ch 0x06 else s.cursorTo ch t.toNat 1

/-- WAITR (R71): C := C + TICKS, plus K[KN] when KT = 1; a negative advance is RANGE. The spec states no limit for the new C here or
after a segment: past 48 bits it goes on growing without a fault (DESIGN CHOICE, log entry 94). -/
def execWaitr (ch : Nat) (s : State) : Res :=
  decodeOn ch 0x03 s fun ws s =>
    let c := s.ch ch
    let a : Int := (bits (wd ws 0) 0 32 : Int) + kTime c.dec.k (wd ws 0)
    s.cursorTo ch (c.cursor + a.toNat) 1

/-- GYIELD (R26, R28, R72): C := S_g; the checks of R72 in their order, then YIELD_LATE when S has passed S_g. A table entry
that cannot be read is INTEGRITY (R385), with its critical Cave record where the line is uncorrectable (R392). -/
def execGyield (ch : Nat) (s : State) : Res :=
  decodeOn ch 0x04 s fun ws s =>
    let c := s.ch ch
    let g := bits (wd ws 0) 0 16
    let loc := c.dec.loc
    if s.grp.n ≤ g then s.decodeFault ch 0x04
    else if loc.lib then s.decodeFault ch 0x08
    else if s.rangePoisoned (s.yieldAddr g) 8 then
      (s.caveIntegrity ch (lineData (s.yieldAddr g / 64))).faultNow ch 0x28 loc
    else if !s.dramOk (s.yieldAddr g) 8 then s.faultNow ch 0x28 loc
    else
      let sg := s.yieldTime g
      let onLate := match c.lastOn with | some t => decide (sg ≤ t) | none => false
      if decide (sg < c.cursor) || decide (sg < c.lastAct) || onLate || c.hands.any (fun h => decide (sg < h.anchor + h.xf)) then
        s.decodeFault ch 0x06
      else
        let s := s.modCh ch fun c => { c with lastYield := some (g, sg), yields := c.yields ++ [g] }
        let s := s.cursorTo ch sg 1
        if s.grp.run && decide (sg < s.grp.s) then s.faultNow ch 0x23 loc else s

/-- SYNC (R73): C := DEADLINE; the event's flag is checked there. -/
def execSync (ch : Nat) (s : State) : Res :=
  decodeOn ch 0x05 s fun ws s =>
    let c := s.ch ch
    let t := bits (wd ws 1) 0 48
    if c.dec.loc.lib then s.decodeFault ch 0x08
    else if t < c.cursor then s.decodeFault ch 0x06
    else
      let w : SyncWait := ⟨bits (wd ws 0) 0 16, t, c.dec.loc.word, c.seqno⟩
      (s.modCh ch fun c => { c with syncs := c.syncs ++ [w] }).cursorTo ch t 2

/-- The action time of a point instruction: C + OFFSET (R61). -/
def Chan.actTime (c : Chan) (ws : List Nat) : Nat := c.cursor + bits (wd ws 0) 30 24

/-- Queue a timed action of an instruction of k words; an action time below the last one is ORDER (R63, R65). -/
def State.point (s : State) (n k : Nat) (ws : List Nat) (a : Act) : State :=
  let c := s.ch n
  let t := c.actTime ws
  if t < c.lastAct then s.decodeFault n 0x06
  else (s.modCh n fun c => { c with acts := c.acts ++ [⟨t, a⟩], lastAct := t }).next n k

/-- SIG (R74). -/
def execSig (ch : Nat) (s : State) : Res :=
  decodeOn ch 0x06 s fun ws s => s.point ch 1 ws (.sig (bits (wd ws 0) 0 16))

/-- EVT (R75). -/
def execEvt (ch : Nat) (s : State) : Res :=
  decodeOn ch 0x07 s fun ws s => s.point ch 2 ws (.evt (bits (wd ws 0) 0 16) (wd ws 1))

/-- CALL (R76): the word after it is pushed; beyond the library body, or with none loaded, RANGE; a ninth push is NEST. -/
def execCall (ch : Nat) (s : State) : Res :=
  decodeOn ch 0x08 s fun ws s =>
    let c := s.ch ch
    let t := bits (wd ws 0) 0 24
    if !s.flag (R.SEQ_LIB_STAT ch) F.SEQ_LIB_STAT_VALID || decide (c.libWords ≤ t) then s.decodeFault ch 0x04
    else if 8 ≤ c.dec.calls.length then s.decodeFault ch 0x07
    else
      let back : Loc := { c.dec.loc with word := c.dec.loc.word + 1 }
      let s := s.modCh ch fun c => { c with dec := { c.dec with calls := back :: c.dec.calls } }
      s.jumpTo ch ⟨true, t⟩

/-- RET (R76, R77): continue at the popped word; an empty stack, or a loop left open inside the subroutine, is NEST. -/
def execRet (ch : Nat) (s : State) : Res :=
  decodeOn ch 0x09 s fun _ s =>
    let c := s.ch ch
    match c.dec.calls with
    | [] => s.decodeFault ch 0x07
    | l :: ls =>
      if c.dec.loops.any (fun p => decide (p.depth = c.dec.calls.length)) then s.decodeFault ch 0x07
      else (s.modCh ch fun c => { c with dec := { c.dec with calls := ls } }).jumpTo ch l

/-- REP (R77): open a loop of count iterations; a fifth open loop is NEST. -/
def execRep (ch : Nat) (s : State) : Res :=
  decodeOn ch 0x0A s fun ws s =>
    let c := s.ch ch
    if 4 ≤ c.dec.loops.length then s.decodeFault ch 0x07
    else
      let p : Loop := ⟨{ c.dec.loc with word := c.dec.loc.word + 1 }, repCount c.dec.k (wd ws 0), c.dec.calls.length⟩
      (s.modCh ch fun c => { c with dec := { c.dec with loops := p :: c.dec.loops } }).next ch 1

/-- ENDR (R77): loop back, or go on after the last iteration. No open loop is NEST; a body in another block or subroutine is
CONTEXT; one longer than 1,024 words is RANGE. -/
def execEndr (ch : Nat) (s : State) : Res :=
  decodeOn ch 0x0B s fun _ s =>
    let c := s.ch ch
    match c.dec.loops with
    | [] => s.decodeFault ch 0x07
    | p :: ps =>
      if p.start.lib ≠ c.dec.loc.lib ∨ p.depth ≠ c.dec.calls.length then s.decodeFault ch 0x08
      else if p.start.word + 1024 < c.dec.loc.word then s.decodeFault ch 0x04
      else if 1 < p.left then
        let q : Loop := { p with left := p.left - 1 }
        (s.modCh ch fun c => { c with dec := { c.dec with loops := q :: ps } }).jumpTo ch p.start
      else (s.modCh ch fun c => { c with dec := { c.dec with loops := ps } }).next ch 1

/-- Write a K register: the decoder's copy, and SEQ_K (R60, R127). -/
def State.writeK (s : State) (n i v : Nat) : State :=
  (s.modCh n fun c => { c with dec := { c.dec with k := setNth c.dec.k i v } }).next n 1

/-- The value that ADDK writes (R78). -/
def addkValue (k : List Nat) (w : Nat) : Nat :=
  (kReg k (bits w 49 4) + bits w 0 32 + if bitAt w 53 then kReg k (bits w 45 4) else 0) % 2 ^ 32

/-- LDK (R78). -/
def execLdk (ch : Nat) (s : State) : Res :=
  decodeOn ch 0x0C s fun ws s => s.writeK ch (bits (wd ws 0) 49 4) (bits (wd ws 0) 0 32)

/-- ADDK (R78). -/
def execAddk (ch : Nat) (s : State) : Res :=
  decodeOn ch 0x0D s fun ws s => s.writeK ch (bits (wd ws 0) 49 4) (addkValue (s.ch ch).dec.k (wd ws 0))

/-- FENCE (R79). -/
def execFence (ch : Nat) (s : State) : Res := decodeOn ch 0x0E s fun ws s => s.point ch 1 ws .fence

/-! ### Motion instructions -/

/-- Queue a segment of D ticks from C on, and move C past it; its end velocity is numerators over a denominator (R61, R80). -/
def State.segment (s : State) (n k : Nat) (kind : SegKind) (d prof : Nat) (pe ve vn : V3) (vden : Nat) : State :=
  let c := s.ch n
  let g : Segment := ⟨kind, c.cursor, d, c.endPos, pe, c.endVel, c.endVelDen, ve, prof⟩
  (s.modCh n fun c =>
    { c with segs := c.segs ++ [g], cursor := c.cursor + d, endPos := pe, endVel := vn, endVelDen := vden }).next n k

/-- A position in FU as 1/256 FU. -/
def fine (p : V3) : V3 := ⟨256 * p.x, 256 * p.y, 256 * p.z⟩

/-- Constant velocity from one point to another in D ticks, times D (R81). -/
def lineVel (p q : V3) : V3 := ⟨(q.x - p.x) * 1250, (q.y - p.y) * 1250, (q.z - p.z) * 1250⟩

/-- A gate-on edge of a queued action, or of the train in progress, lies in [a, b) (R80, R91). -/
def Chan.edgeIn (c : Chan) (a b : Nat) : Bool :=
  let rises (t0 per count : Nat) : Bool :=
    let i := ceilDiv (a - t0) per
    decide (i < count) && decide (t0 + i * per < b)
  c.acts.any (fun x =>
    match x.act with
    | .gateOn _ _ => decide (a ≤ x.time) && decide (x.time < b)
    | .pulse _ per _ count _ => rises x.time per count
    | _ => false) ||
  (match c.train with | some t => rises t.t0 t.per t.count | none => false)

/-- JUMP (R80, R82): a gate-on edge inside it is ORDER. It ends at zero velocity. -/
def execJump (ch : Nat) (s : State) : Res :=
  decodeOn ch 0x10 s fun ws s =>
    let c := s.ch ch
    let d := bits (wd ws 1) 8 32
    if c.edgeIn c.cursor (c.cursor + d) then s.decodeFault ch 0x06
    else s.segment ch 2 .jump d (bits (wd ws 0) 48 1) (fine ⟨endX ws, endY ws, endZ ws⟩) V3.zero V3.zero 1

/-- LINE (R81). -/
def execLine (ch : Nat) (s : State) : Res :=
  decodeOn ch 0x11 s fun ws s =>
    let pe := fine ⟨endX ws, endY ws, endZ ws⟩
    let d := bits (wd ws 1) 8 32
    s.segment ch 2 .line d 0 pe V3.zero (lineVel (s.ch ch).endPos pe) d

/-- CUBIC (R83): it ends with the velocities that it carries. -/
def execCubic (ch : Nat) (s : State) : Res :=
  decodeOn ch 0x12 s fun ws s =>
    let v : V3 := ⟨signed 24 (bits (wd ws 2) 40 24), signed 24 (bits (wd ws 2) 16 24), signed 24 (bits (wd ws 3) 40 24)⟩
    s.segment ch 4 .cubic (bits (wd ws 1) 8 32) 0 (fine ⟨endX ws, endY ws, endZ ws⟩) v v 1

/-- DWELL (R84). -/
def execDwell (ch : Nat) (s : State) : Res :=
  decodeOn ch 0x13 s fun ws s =>
    let c := s.ch ch
    s.segment ch 1 .dwell (dwellDur c.dec.k (wd ws 0)).toNat 0 c.endPos V3.zero V3.zero 1

/-- FOCUS (R85): Z alone moves, linear or quintic. -/
def execFocus (ch : Nat) (s : State) : Res :=
  decodeOn ch 0x14 s fun ws s =>
    let p := (s.ch ch).endPos
    let pe : V3 := { p with z := 256 * signed 24 (bits (wd ws 0) 24 24) }
    let d := bits (wd ws 0) 0 24
    let prof := bits (wd ws 0) 48 1
    s.segment ch 1 .focus d prof pe V3.zero (if prof = 0 then lineVel p pe else V3.zero) (if prof = 0 then d else 1)

/-- PERIOD (R86). -/
def execPeriod (ch : Nat) (s : State) : Res :=
  decodeOn ch 0x18 s fun ws s =>
    let w := wd ws 0
    s.point ch 1 ws (.period (bits w 17 3) (periodTab (s.ch ch).dec.k w) (bits w 0 13))

/-- LEARN (R87). -/
def execLearn (ch : Nat) (s : State) : Res :=
  decodeOn ch 0x19 s fun ws s => s.point ch 1 ws (.learn (bits (wd ws 0) 4 3) (bits (wd ws 0) 0 2))

/-- GSEL (R88). -/
def execGsel (ch : Nat) (s : State) : Res :=
  decodeOn ch 0x1A s fun ws s =>
    let w := wd ws 0
    s.point ch 1 ws (.gsel (bits w 4 3) (bitAt w 3) (bits w 0 3))

/-! ### Power and gate instructions -/

/-- PSET (R89). -/
def execPset (ch : Nat) (s : State) : Res :=
  decodeOn ch 0x30 s fun ws s => s.point ch 1 ws (.pset (bits (wd ws 0) 0 16))

/-- PRAMP (R90). -/
def execPramp (ch : Nat) (s : State) : Res :=
  decodeOn ch 0x31 s fun ws s => s.point ch 2 ws (.pramp (bits (wd ws 0) 0 16) (bits (wd ws 1) 0 32))

/-- Two edges in strictly rising order of tick and FINE (R63). -/
def edgeAfter (e : Option (Nat × Nat)) (t fine : Nat) : Bool :=
  match e with
  | some (t0, f0) => decide (t0 < t) || (decide (t0 = t) && decide (f0 < fine))
  | none => true

/-- Queue an action with gate edges: the first edge follows every earlier one strictly, else ORDER (R63, R91). -/
def State.gatePoint (s : State) (n k : Nat) (ws : List Nat) (a : Act) (fine : Nat) (last : Nat × Nat) (on : Option Nat) : State :=
  let c := s.ch n
  if !edgeAfter c.lastEdge (c.actTime ws) fine || decide (c.actTime ws < c.lastAct) then s.decodeFault n 0x06
  else (s.modCh n fun c => { c with lastEdge := some last, lastOn := if on.isSome then on else c.lastOn }).point n k ws a

/-- PULSE (R91): COUNT rising edges PER apart, each followed by its falling edge. -/
def execPulse (ch : Nat) (s : State) : Res :=
  decodeOn ch 0x32 s fun ws s =>
    let e := wd ws 1
    let per := bits e 40 24
    let wid := bits e 16 24
    let count := bits e 0 16
    let rise := (s.ch ch).actTime ws + (count - 1) * per
    s.gatePoint ch 3 ws (.pulse (bits (wd ws 0) 0 16) per wid count (bits (wd ws 2) 0 16)) 0 (rise + wid, 0) (some rise)

/-- ENV (R92). -/
def execEnv (ch : Nat) (s : State) : Res :=
  decodeOn ch 0x33 s fun ws s =>
    let e := wd ws 1
    s.point ch 2 ws (.env (signed 16 (bits e 48 16)) (signed 16 (bits e 32 16)) (bits e 16 16) (bits e 0 16))

/-- MPL (R93). -/
def execMpl (ch : Nat) (s : State) : Res :=
  decodeOn ch 0x34 s fun ws s =>
    let w := wd ws 0
    let e := wd ws 1
    s.point ch 2 ws (.mpl (bits w 4 4) (bits w 0 2) (bits e 48 16) (bits e 32 16))

/-- LON (R94). -/
def execLon (ch : Nat) (s : State) : Res :=
  decodeOn ch 0x35 s fun ws s =>
    let w := wd ws 0
    let t := (s.ch ch).actTime ws
    s.gatePoint ch 1 ws (.gateOn (bits w 0 5) (bits w 8 16)) (bits w 0 5) (t, bits w 0 5) (some t)

/-- LOFF (R94). -/
def execLoff (ch : Nat) (s : State) : Res :=
  decodeOn ch 0x36 s fun ws s =>
    let w := wd ws 0
    s.gatePoint ch 1 ws (.gateOff (bits w 0 5)) (bits w 0 5) ((s.ch ch).actTime ws, bits w 0 5) none

/-! ### Cooperation instructions -/

/-- A remote partner is a member of the bed group other than this device (R235). -/
def State.partnerOk (s : State) (dev : Nat) : Bool :=
  s.others.any fun m => decide (s.fld (R.SEQ_GRP_MID m) F.SEQ_GRP_MID_DEVID = dev)

/-- A stored token matches a HAND (R239). -/
def tokenFor (h : Hand) (t : Token) : Bool :=
  decide (t.fromDev = h.pdev) && decide (t.fromCh = h.pch) && decide (t.hid = h.hid)

/-- A matching token agrees with its HAND in ANCHOR and XF, and comes from the other role (R239). -/
def tokenFits (h : Hand) (t : Token) : Bool :=
  decide (t.anchor = h.anchor) && decide (t.xf = h.xf) && decide (t.take ≠ h.take)

/-- A HAND takes a matching token: READY, COMMIT, or FALLBACK with its cause (R240, R241). -/
def Hand.takes (h : Hand) (t : Token) : Hand :=
  if t.kind = 1 then { h with token := some t.gridA }
  else if t.kind = 2 then { h with commitRx := some t.gridA }
  else { h with partnerFb := some t.cause }

/-- Mismatching tokens (R239): each counted, flagged, and the run-time fault PARTNER. -/
def State.tokenMismatch (s : State) (n k : Nat) : State :=
  let s := s.satAdd (R.STI_CH_TOKERR n) F.STI_CH_TOKERR_MISMATCH k
  (s.raise R.STI_ISR F.STI_ISR_MISMATCH).faultNow n 0x2A (s.ch n).dec.loc

/-- The HAND that the words spell, with nothing received (R95). -/
def handOf (ws : List Nat) (block : Loc) : Hand :=
  let w := wd ws 0
  let e1 := wd ws 1
  let e2 := wd ws 2
  { take := bitAt w 53, fb := bitAt w 52, pdev := bits w 32 16, pch := bits w 27 5, xf := bits w 0 16, hid := bits e1 48 16
    anchor := bits e1 0 48, nlen := bits e2 48 16, alen := bits e2 32 16, bdur := bits e2 0 32, block := block, readySent := false
    token := none, commitRx := none, partnerFb := none, committed := false, outcome := .undecided, decided := false
    frameErr := none, theta := 0 }

/-- The earliest anchor that R95 admits after a GYIELD: 6,250 ticks after its S_g, or after the layer's start where there is none. -/
def State.floorAfter (s : State) (y : Option (Nat × Nat)) : Nat :=
  match y with
  | some (_, sg) => sg + 6250
  | none => (if s.grp.resume = 0 then 0 else s.yieldTime s.grp.resume) + 6250

/-- The earliest anchor of the channel's next HAND. -/
def State.anchorFloor (s : State) (n : Nat) : Nat := s.floorAfter (s.ch n).lastYield

/-- A HAND names this channel itself, or a channel of this device that it lacks (R95). -/
def State.handSelf (s : State) (n : Nat) (h : Hand) : Bool := decide (h.pdev = s.devid) && decide (h.pch = n)
def State.handAbsent (s : State) (h : Hand) : Bool := decide (h.pdev = s.devid) && decide (s.channels ≤ h.pch)

/-- A TRIG or a MOVE names a unit that the device does not have (R7, R97, R98). -/
def State.trigAbsent (s : State) (w : Nat) : Bool :=
  (decide (bits w 4 2 = 0) && decide (s.camPorts ≤ bits w 0 2)) || (decide (bits w 4 2 = 1) && !s.hasLight)
def State.moveAbsent (s : State) (w : Nat) : Bool := decide (s.axes ≤ bits w 0 3)

/-- HAND (R95, R96, R235, R239, R240). -/
def execHand (ch : Nat) (s : State) : Res :=
  decodeOn ch 0x40 s fun ws s =>
    let c := s.ch ch
    let h := handOf ws { c.dec.loc with word := c.dec.loc.word + 3 }
    if s.handSelf ch h then s.decodeFault ch 0x04
    else if s.handAbsent h then s.decodeFault ch 0x05
    else if c.dec.loc.lib then s.decodeFault ch 0x08
    else if h.fb && decide (c.endOf false < h.block.word + h.nlen + h.alen) then s.decodeFault ch 0x08
    else if decide (h.anchor < c.cursor) || (h.fb && decide (h.anchor ≠ c.cursor)) || decide (h.anchor < s.anchorFloor ch) ||
        decide (h.anchor < c.lastAct) then s.decodeFault ch 0x06
    else if decide (h.pdev ≠ s.devid) && !s.partnerOk h.pdev then s.faultNow ch 0x2A c.dec.loc
    else
      let mine := c.tokens.filter (tokenFor h)
      let bad := (mine.filter fun t => !tokenFits h t).length
      let h := (mine.filter fun t => tokenFits h t).foldl Hand.takes h
      let send := h.take && s.handFree ch h
      let h := { h with readySent := send }
      let s := s.modCh ch fun c =>
        { c with hands := c.hands ++ [h], lastAct := h.anchor, tokens := c.tokens.filter fun t => !tokenFor h t }
      let s := if send then s.sendReady ch h else s
      let s := if h.fb then s.modCh ch fun c => c.past 3 else s.next ch 3
      if bad = 0 then s else s.tokenMismatch ch bad

/-- TRIG (R97): a camera trigger or a strobe that the device does not have is ABSENT. -/
def execTrig (ch : Nat) (s : State) : Res :=
  decodeOn ch 0x41 s fun ws s =>
    let w := wd ws 0
    let kind := bits w 4 2
    let unit := bits w 0 2
    if s.trigAbsent w then s.decodeFault ch 0x05
    else s.point ch 1 ws (.trig (bits w 14 16) kind unit)

/-- MOVE (R98): an axis that the device does not have is ABSENT. -/
def execMove (ch : Nat) (s : State) : Res :=
  decodeOn ch 0x42 s fun ws s =>
    let w := wd ws 0
    if s.moveAbsent w then s.decodeFault ch 0x05
    else s.point ch 2 ws (.move (bits w 0 3) (bits w 8 2) (signed 32 (bits (wd ws 1) 0 32)))

end Sys2Proof.Machine
end

