-- ==== Sys2Proof/Machine/Feed.lean ====
section
/-!
DEFINITION. Curd rings, the fetch walker and the feed buffer, the pattern library, channel enables, the SEQ block reset and
the event ring's registers (03_sequencers_and_feed).
-/

namespace Sys2Proof.Machine

/-! ### Descriptors (R99 to R105) -/

/-- Descriptors in a channel's ring. -/
def State.ringSize (s : State) (n : Nat) : Nat := 2 ^ s.fld (R.SEQ_RING_SIZE n) F.SEQ_RING_SIZE_LOG2

/-- The channel reads curds for its layer: PRIMING, READY, RUN or YIELD, with SEQ up. -/
def State.fetching (s : State) (n : Nat) : Bool :=
  let st := s.chState n
  s.up dSEQ && (decide (st = 2) || decide (st = 3) || decide (st = 4) || decide (st = 5))

/-- The ring is not empty (R101). -/
def State.offered (s : State) (n : Nat) : Bool :=
  decide (s.fld (R.SEQ_RING_HEAD n) F.SEQ_RING_HEAD_INDEX ≠ s.fld (R.SEQ_RING_TAIL n) F.SEQ_RING_TAIL_INDEX % s.ringSize n)

/-- The channel reads the descriptor at HEAD: the walker is past the last accepted curd, and none with LAST has come (R102, R107). -/
def State.wantsDesc (s : State) (n : Nat) : Bool :=
  let c := s.ch n
  s.fetching n && s.offered n && !c.lastSeen && !c.walkStopped && decide (c.walk.curd = c.curds.length)

/-- Read the descriptor at HEAD (R102): OWN = 0 is counted and waited for; OWN = 1 accepts it. A descriptor in an uncorrectable line,
or beyond the populated DRAM, reads as the bytes stored, zero where there are none (DESIGN CHOICE, log entry 96). -/
def State.readDesc (s : State) (n : Nat) : State :=
  let head := s.fld (R.SEQ_RING_HEAD n) F.SEQ_RING_HEAD_INDEX
  let d := s.readDram (s.descAddr n head) 32
  let ctrl := leAt d 8 2
  if bitAt ctrl 0 then
    let cd : Curd :=
      { index := head, line := leAt d 0 4, irq := bitAt ctrl 1, hdr := false, seqno := (s.ch n).nextSeqno, words := 0
        last := false, stime := 0, fault := none, bcrc := 0 }
    let s := s.setFld (R.SEQ_RING_HEAD n) F.SEQ_RING_HEAD_INDEX ((head + 1) % s.ringSize n)
    let s := s.setFlag (R.SEQ_STAT n) F.SEQ_STAT_OWNWAIT false
    s.modCh n fun c => { c with curds := c.curds ++ [cd] }
  else
    let s := s.satAdd (R.SEQ_STAT n) F.SEQ_STAT_NOTOWN 1
    let s := s.setFlag (R.SEQ_STAT n) F.SEQ_STAT_OWNWAIT true
    let mt := s.time.mt
    s.modCh n fun c => { c with ownReadAt := mt }

/-- SEQ_RING_TAIL (R101, R102): the doorbell; bits at or above LOG2 are ignored. A channel that waits on OWN reads again. -/
def execSeqRingTail (ch : Nat) (v : Word) (s : State) : Res :=
  onUnitWrite ch s.channels 32 (R.SEQ_RING_TAIL ch) s fun s =>
    let s := s.setFld (R.SEQ_RING_TAIL ch) F.SEQ_RING_TAIL_INDEX (field F.SEQ_RING_TAIL_INDEX v % s.ringSize ch)
    if s.flag (R.SEQ_STAT ch) F.SEQ_STAT_OWNWAIT && s.wantsDesc ch then s.readDesc ch else s

/-- DESCRIPTOR_READ (R102). -/
def execDescriptorRead (ch : Nat) (s : State) : Res :=
  onUnit ch s.channels 32 s fun s =>
    if s.wantsDesc ch && !s.flag (R.SEQ_STAT ch) F.SEQ_STAT_OWNWAIT then s.readDesc ch else s

/-- OWN_RETRY (R102): 1,250 ticks after the last read that found OWN = 0. -/
def execOwnRetry (ch : Nat) (s : State) : Res :=
  onUnit ch s.channels 32 s fun s =>
    if s.flag (R.SEQ_STAT ch) F.SEQ_STAT_OWNWAIT && s.wantsDesc ch &&
        decide ((s.ch ch).ownReadAt + ticksU 1250 ≤ s.time.mt) then s.readDesc ch
    else s

/-! ### The fetch walker (R107) -/

/-- The curd that the walker is in. -/
def Chan.walkCurd (c : Chan) : Option Curd := c.curds[c.walk.curd]?

/-- DRAM line of the walker's place. -/
def Chan.walkLine (c : Chan) : Nat :=
  if c.walk.loc.lib then c.libLine + 1 + c.walk.loc.word / 8
  else (match c.walkCurd with | some d => d.line | none => 0) + 1 + c.walk.loc.word / 8

/-- One past the last word of the block that the walker is in. -/
def Chan.walkLimit (c : Chan) : Nat :=
  if c.walk.loc.lib then c.libWords else match c.walkCurd with | some d => d.words | none => 0

/-- The word k places on from the walker's. -/
def State.walkWord (s : State) (c : Chan) (k : Nat) : Nat :=
  leNat (s.readDram ((c.walkLine - c.walk.loc.word / 8) * 64 + 8 * (c.walk.loc.word + k)) 8)

/-- The undecided block choices on the way to the walker's place. -/
def Chan.walkPath (c : Chan) : List (Nat × Bool) :=
  (c.fork.filter fun f => decide (f.choice = none) && (c.walk.loc.lib || decide (f.start ≤ c.walk.loc.word))).map
    fun f => (f.id, f.alt)

/-- Two flow states leave the same K registers and stacks (R107). -/
def Flow.same (a b : Flow) : Bool := decide (a.k = b.k) && decide (a.calls = b.calls) && decide (a.loops = b.loops)

/-- The walker at another place of its curd. -/
def Chan.walkAt (c : Chan) (w : Nat) : Chan := { c with walk := { c.walk with loc := ⟨false, w⟩ } }

/-! #### Times along the way: the order rules as the decoder will apply them (R55, R63, R70 to R73, R80, R91, R95) -/

/-- A point at an action time; none for ORDER. -/
def Pace.point (p : Pace) (t : Nat) : Option Pace := if t < p.lastAct then none else some { p with lastAct := t }

/-- Gate edges, the first at a tick and FINE, the last given; with on, the gate-on edges (first time, period, count). -/
def Pace.gate (p : Pace) (t fine : Nat) (last : Nat × Nat) (on : Option (Nat × Nat × Nat)) : Option Pace :=
  if !edgeAfter p.lastEdge t fine then none
  else
    let ons := p.ons.filter fun o => decide (p.cursor ≤ o.1 + (o.2.2 - 1) * o.2.1)
    match on with
    | some o => { p with lastEdge := some last, lastOn := some (o.1 + (o.2.2 - 1) * o.2.1), ons := ons ++ [o] }.point t
    | none => { p with lastEdge := some last }.point t

/-- A gate-on edge lies in [a, b). -/
def Pace.onIn (p : Pace) (a b : Nat) : Bool :=
  p.ons.any fun o =>
    let i := ceilDiv (a - o.1) o.2.1
    decide (i < o.2.2) && decide (o.1 + i * o.2.1 < b)

/-- A segment of D ticks. -/
def Pace.segment (p : Pace) (d : Nat) : Pace := { p with cursor := p.cursor + d }

/-- GYIELD g of a channel whose S_g is given. -/
def Pace.yield (p : Pace) (g sg : Nat) : Option Pace :=
  let onLate := match p.lastOn with | some t => decide (sg ≤ t) | none => false
  if decide (sg < p.cursor) || decide (sg < p.lastAct) || onLate || decide (sg < p.handEnd) then none
  else some { p with cursor := sg, lastYield := some (g, sg) }

/-- A HAND. -/
def Pace.hand (p : Pace) (h : Hand) (floor : Nat) : Option Pace :=
  if h.anchor < p.cursor ∨ (h.fb ∧ h.anchor ≠ p.cursor) ∨ h.anchor < floor ∨ h.anchor < p.lastAct then none
  else some { p with lastAct := h.anchor, handEnd := max p.handEnd (h.anchor + h.xf) }

/-- The times after an instruction that the walker passes; none where the decoder will take ORDER, ABSENT, CONTEXT or, at a GYIELD or
a HAND, RANGE. -/
def State.paceStep (s : State) (n : Nat) (l : Loc) (limit : Nat) (k : List Nat) (p : Pace) (op : Nat) (ws : List Nat) : Option Pace :=
  let w := wd ws 0
  let e := wd ws 1
  let t := p.cursor + bits w 30 24
  if (match p.lastYield with | some (g, _) => decide (g + 1 = s.grp.n) | none => false) && decide (op ≠ 0x01) then none
  else if op = 0x02 then
    let c : Int := (bits w 0 48 : Int) + kTime k w
    if c < p.cursor ∨ (2 ^ 48 : Nat) ≤ c then none else some { p with cursor := c.toNat }
  else if op = 0x03 then some (p.segment ((bits w 0 32 : Int) + kTime k w).toNat)
  else if op = 0x04 then
    let g := bits w 0 16
    if s.grp.n ≤ g then none else p.yield g (s.yieldTime g)
  else if op = 0x05 then
    let d := bits e 0 48
    if d < p.cursor then none else some { p with cursor := d }
  else if op = 0x10 then
    let d := bits e 8 32
    if p.onIn p.cursor (p.cursor + d) then none else some (p.segment d)
  else if op = 0x11 ∨ op = 0x12 then some (p.segment (bits e 8 32))
  else if op = 0x13 then some (p.segment (dwellDur k w).toNat)
  else if op = 0x14 then some (p.segment (bits w 0 24))
  else if op = 0x32 then
    let per := bits e 40 24
    let count := bits e 0 16
    p.gate t 0 (t + (count - 1) * per + bits e 16 24, 0) (some (t, per, count))
  else if op = 0x35 then p.gate t (bits w 0 5) (t, bits w 0 5) (some (t, 1, 1))
  else if op = 0x36 then p.gate t (bits w 0 5) (t, bits w 0 5) none
  else if op = 0x40 then
    let h := handOf ws { l with word := l.word + 3 }
    if s.handSelf n h || s.handAbsent h || (h.fb && decide (limit < l.word + 3 + h.nlen + h.alen)) then none
    else p.hand h (s.floorAfter p.lastYield)
  else if op = 0x41 then (if s.trigAbsent w then none else p.point t)
  else if op = 0x42 then (if s.moveAbsent w then none else p.point t)
  else if op = 0x06 ∨ op = 0x07 ∨ op = 0x0E ∨ (0x18 ≤ op ∧ op ≤ 0x34) then p.point t
  else some p

/-- The times past both blocks of a HAND while the decision is open: what holds whichever block runs (DESIGN CHOICE, log entry 98). -/
def Pace.merge (a b : Pace) (goal : Nat) : Pace where
  cursor := goal
  lastAct := min a.lastAct b.lastAct
  lastEdge := match a.lastEdge, b.lastEdge with | some x, some y => some (if edgeAfter (some x) y.1 y.2 then x else y) | _, _ => none
  lastOn := match a.lastOn, b.lastOn with | some x, some y => some (min x y) | _, _ => none
  ons := a.ons.filter fun o => decide (o ∈ b.ons)
  lastYield := if a.lastYield = b.lastYield then a.lastYield else none
  handEnd := min a.handEnd b.handEnd

/-! #### The walker's moves -/

/-- The walker meets a fault, or HALT: it stops. In the normal block of an undecided HAND the alternative block may yet be the one that
runs, so it goes on there (DESIGN CHOICE, log entry 98). -/
def Chan.walkHalt (c : Chan) : Chan :=
  match c.fork with
  | f :: fs =>
    if f.alt || f.choice.isSome then { c with walkStopped := true }
    else
      let g : WalkFork := { f with alt := true, afterNormal := none }
      { c with fork := g :: fs, walk := f.saved, walkPace := f.savedPace, walkExt := 0, walkEnd := false }.walkAt f.normalEnd
  | [] => { c with walkStopped := true }

/-- The walker after a move: ends of HAND blocks, of the curd, and of the library (R107). -/
def Chan.walkSettle (c : Chan) : Nat → Chan
  | 0 => c
  | fuel + 1 =>
    let l := c.walk.loc
    let base : Chan :=
      if l.lib then (if c.libWords ≤ l.word then c.walkHalt else c)
      else if c.walkLimit ≤ l.word then
        match c.walkCurd with
        | some d =>
          if !d.hdr then c
          else if d.last || decide (c.walk.loops ≠ []) then { c with walkStopped := true }
          else { c with walk := { c.walk with curd := c.walk.curd + 1, loc := ⟨false, 0⟩ } }
        | none => c
      else c
    if decide (0 < c.walkExt) || c.walkStopped then c
    else
      match c.fork with
      | [] => base
      | f :: fs =>
        if l.lib || decide (c.walk.calls.length ≠ f.saved.calls.length) then base
        else if !f.alt then
          if l.word < f.normalEnd then base
          else if f.choice = some false then
            if c.walkPace.cursor ≠ f.goal then { c with walkStopped := true }
            else ({ c with fork := fs }.walkAt f.altEnd).walkSettle fuel
          else
            let g : WalkFork := { f with alt := true, afterNormal := some (c.walk, c.walkPace) }
            ({ c with fork := g :: fs, walk := f.saved, walkPace := f.savedPace }.walkAt f.normalEnd).walkSettle fuel
        else if l.word < f.altEnd then base
        else if f.choice.isSome then
          if c.walkPace.cursor ≠ f.goal then { c with walkStopped := true }
          else ({ c with fork := fs }.walkAt f.altEnd).walkSettle fuel
        else
          match f.afterNormal with
          | some (a, p) =>
            if a.same c.walk then
              ({ c with fork := fs, walkPace := p.merge c.walkPace f.goal }.walkAt f.altEnd).walkSettle fuel
            else { c with walkStopped := true }
          | none => { c with walkStopped := true }

/-- The walker goes on to the next word; k extension words follow, after which it stops when stop is true. -/
def Chan.walkOn (c : Chan) (k : Nat) (stop : Bool) : Chan :=
  let c := { c with walk := { c.walk with loc := { c.walk.loc with word := c.walk.loc.word + 1 } }, walkExt := k, walkEnd := stop }
  if k = 0 && stop then c.walkHalt else c

/-- A CALL at the walker's place: true for a new visit. -/
def Chan.walkCall (c : Chan) (valid : Bool) (t : Nat) : Bool × Chan :=
  if !valid || decide (c.libWords ≤ t) || decide (8 ≤ c.walk.calls.length) then (false, c.walkHalt)
  else
    let back : Loc := { c.walk.loc with word := c.walk.loc.word + 1 }
    (true, { c with walk := { c.walk with loc := ⟨true, t⟩, calls := back :: c.walk.calls } })

/-- A RET at the walker's place. -/
def Chan.walkRet (c : Chan) : Bool × Chan :=
  match c.walk.calls with
  | [] => (false, c.walkHalt)
  | l :: ls =>
    if c.walk.loops.any (fun p => decide (p.depth = c.walk.calls.length)) then (false, c.walkHalt)
    else (true, { c with walk := { c.walk with loc := l, calls := ls } })

/-- An ENDR at the walker's place. -/
def Chan.walkEndr (c : Chan) : Bool × Chan :=
  match c.walk.loops with
  | [] => (false, c.walkHalt)
  | p :: ps =>
    if p.start.lib ≠ c.walk.loc.lib ∨ p.depth ≠ c.walk.calls.length ∨ p.start.word + 1024 < c.walk.loc.word then
      (false, c.walkHalt)
    else if 1 < p.left then
      (true, { c with walk := { c.walk with loc := p.start, loops := { p with left := p.left - 1 } :: ps } })
    else (false, { c with walk := { c.walk with loops := ps } }.walkOn 0 false)

/-- A HAND with FB = 1 at the walker's place: fork into its two blocks. -/
def Chan.walkHand (c : Chan) (h : Hand) : Chan :=
  let start := c.walk.loc.word + 3
  let seq := match c.walkCurd with | some d => d.seqno | none => 0
  let f : WalkFork :=
    ⟨seq * 2 ^ 17 + start, start, false, none, start + h.nlen, start + h.nlen + h.alen, h.anchor + h.bdur, c.walk, c.walkPace, none⟩
  { c with fork := f :: c.fork }.walkOn 2 false

/-- At the first word of a curd the walker's cursor takes its STIME; none where that is ORDER (R55). -/
def Chan.walkOpen (c : Chan) : Option Chan :=
  match c.walkCurd with
  | some d =>
    if c.walk.loc = ⟨false, 0⟩ then
      (if d.stime < c.walkPace.cursor then none else some { c with walkPace := { c.walkPace with cursor := d.stime } })
    else some c
  | none => some c

/-- The flow effect of an instruction without a fault: true when the next word is in a new visit. -/
def State.walkFlow (s : State) (n : Nat) (c : Chan) (op : Nat) (ws : List Nat) : Bool × Chan :=
  let w0 := wd ws 0
  let k := c.walk.k
  if op = 0x01 then (false, c.walkHalt)
  else if op = 0x08 then c.walkCall (s.flag (R.SEQ_LIB_STAT n) F.SEQ_LIB_STAT_VALID) (bits w0 0 24)
  else if op = 0x09 then c.walkRet
  else if op = 0x0A then
    if 4 ≤ c.walk.loops.length then (false, c.walkHalt)
    else
      let p : Loop := ⟨{ c.walk.loc with word := c.walk.loc.word + 1 }, repCount k w0, c.walk.calls.length⟩
      (false, { c with walk := { c.walk with loops := p :: c.walk.loops } }.walkOn 0 false)
  else if op = 0x0B then c.walkEndr
  else if op = 0x0C then
    (false, { c with walk := { c.walk with k := setNth k (bits w0 49 4) (bits w0 0 32) } }.walkOn 0 false)
  else if op = 0x0D then
    (false, { c with walk := { c.walk with k := setNth k (bits w0 49 4) (addkValue k w0) } }.walkOn 0 false)
  else if op = 0x40 && bitAt w0 52 then (false, c.walkHand (handOf ws { c.walk.loc with word := c.walk.loc.word + 3 }))
  else (false, c.walkOn (ws.length - 1) false)

/-- One word of the walker's way: true when the next word is in a new visit. It stops at a word at which the decoder will take a decode
fault, past that instruction's extension words, which the decoder's checks read (R107). -/
def State.walkStep (s : State) (n : Nat) (c : Chan) : Bool × Chan :=
  if 0 < c.walkExt then (false, c.walkOn (c.walkExt - 1) c.walkEnd)
  else
    match c.walkOpen with
    | none => (false, c.walkHalt)
    | some c =>
      let w0 := s.walkWord c 0
      match opRow (opOf w0) with
      | none => (false, c.walkHalt)
      | some row =>
        let m := row.masks.length
        let h := min m (c.walkLimit - c.walk.loc.word)
        if extOf w0 + 1 ≠ m then (false, c.walkHalt)
        else
          let ws := (List.range h).map (s.walkWord c)
          let barred := c.walk.loc.lib && (row.op = 0x01 || row.op = 0x04 || row.op = 0x05 || row.op = 0x40)
          if h < m || !reservedZero row.masks ws || !rangeOk c.walk.k row.op ws || barred then (false, c.walkOn (h - 1) true)
          else
            match s.paceStep n c.walk.loc c.walkLimit c.walk.k c.walkPace row.op ws with
            | none => (false, c.walkOn (h - 1) true)
            | some p => s.walkFlow n { c with walkPace := p } row.op ws

/-- Walk the words of one visit to a line, collecting them with their paths. -/
def State.walkVisit (s : State) (n line curd : Nat) : Nat → Chan → List (List (Nat × Bool) × Nat) →
    Chan × List (List (Nat × Bool) × Nat)
  | 0, c, r => (c, r)
  | fuel + 1, c, r =>
    let r := r ++ [(c.walkPath, c.walk.loc.word)]
    let (fresh, c) := s.walkStep n c
    let c := c.walkSettle (c.fork.length + 1)
    if fresh || c.walkStopped || decide (c.walkLine ≠ line) || decide (c.walk.curd ≠ curd) then (c, r)
    else s.walkVisit n line curd fuel c r

/-- An entry just allocated: its read is requested at once. -/
def newEntry (line : Nat) (reads : List (List (Nat × Bool) × Nat)) (head : Bool) (curd : Nat) : FeedEntry :=
  ⟨line, true, false, [], 0, false, 0, reads, head, curd⟩

/-- Allocate an entry and request its line. -/
def State.allocate (s : State) (n : Nat) (e : FeedEntry) : State :=
  (s.modCh n fun c => { c with feed := c.feed ++ [e] }).feedRequest n e.line

/-- WALKER_FETCH (R107): an entry whose line must be fetched again and is not yet requested goes first; else one entry for the walker's
next visit, and its line's request. A curd's header line comes first, and the body waits until it has passed. At most 256 entries, at
most 64 reads outstanding. -/
def execWalkerFetch (ch : Nat) (s : State) : Res :=
  onUnit ch s.channels 32 s fun s =>
    let c := s.ch ch
    let waits := c.feed.findIdx fun e => !e.asked && !e.arrived && !c.curds.any fun d => decide (d.index = e.curd) && d.fault.isSome
    if !(s.fetching ch && decide (c.outstanding < 64)) then s
    else
      match c.feed[waits]? with
      | some e => s.feedAsk ch waits e
      | none =>
        if c.walkStopped || decide (256 ≤ c.feed.length) then s
        else
          match c.walkCurd with
          | none => s
          | some d =>
            if d.fault.isSome then s
            else if !d.hdr then
              if c.feed.any (fun e => e.head && decide (e.curd = d.index)) then s
              else s.allocate ch (newEntry d.line [] true d.index)
            else
              let c1 := c.walkSettle (c.fork.length + 1)
              if c1.walkStopped || decide (c1.walk.curd ≠ c.walk.curd) then s.modCh ch fun _ => c1
              else
                let line := c1.walkLine
                let (c2, r) := s.walkVisit ch line c1.walk.curd 32 c1 []
                (s.modCh ch fun _ => { c2 with feed := c.feed }).allocate ch (newEntry line r false d.index)

/-! ### Lines arriving (R54, R108, R109) -/

/-- The reserved header fields are zero (R52). -/
def headerZero (b : List Byte) : Bool :=
  decide (leAt b 6 2 / 4 = 0) && decide (leAt b 0x14 4 = 0) && decide (leAt b 0x1E 2 = 0) && decide (leAt b 0x20 24 = 0)

/-- LENGTH obeys R51, or the library's limit (R56). -/
def lengthOk (n limit : Nat) : Bool := decide (n % 8 = 0) && decide (72 ≤ n) && decide (n ≤ limit)

/-- The first four checks of R54 on a header; 0 when they pass. -/
def headerCommon (b : List Byte) (ch : Nat) : Nat :=
  if leAt b 0 4 ≠ 0x44525543 then 0x10
  else if leAt b 4 1 ≠ 1 then 0x11
  else if crc32c (b.take 0x3C) ≠ leAt b 0x3C 4 then 0x12
  else if leAt b 5 1 ≠ ch ∨ !headerZero b then 0x13
  else 0

/-- The status of a curd header's checks, in their order (R54); 0 when all pass. -/
def State.headerCheck (s : State) (n : Nat) (b : List Byte) : Nat :=
  let e := headerCommon b n
  if e ≠ 0 then e
  else if leAt b 8 4 ≠ s.grp.layer ∨ bitAt (leAt b 6 2) 1 then 0x14
  else if leAt b 0xC 4 ≠ (s.ch n).nextSeqno then 0x15
  else if !lengthOk (leAt b 0x10 4) 65536 || (s.ch n).lastSeen then 0x16
  else 0

/-- A curd's header has entered the feed: its checks, then what it says of the curd (R54). -/
def State.takeHeader (s : State) (n index : Nat) (b : List Byte) : State :=
  let e := s.headerCheck n b
  if e ≠ 0 then s.curdFault n index e ⟨false, 0⟩
  else
    let last := bitAt (leAt b 6 2) 0
    let seq := leAt b 0xC 4
    s.modCh n fun c =>
      { (c.modCurd index fun d =>
          { d with hdr := true, seqno := seq, words := (leAt b 0x10 4 - 64) / 8, last := last, stime := leAt b 0x18 6
                   bcrc := leAt b 0x38 4 }) with nextSeqno := seq + 1, lastSeen := last }

/-- The member's own READY vote, already sent, no longer holds: its decision counts it as NOT_READY (R32, R33). -/
def State.ownNotReady (s : State) : State :=
  let self := s.self
  s.modGrp fun g => { g with startVotes := g.startVotes.map fun v => if v.1 = self then (self, false) else v }

/-- BCRC fails (R32, R54): before the start decision the channel is recorded and stays in PRIMING with its walker stopped, and the
member decides REFUSE; after it, the run-time fault BCRC. -/
def State.bcrcFail (s : State) (n : Nat) (d : Curd) : State :=
  let st := s.chState n
  if (st = 2 ∨ st = 3) ∧ !s.grp.started then
    let s := s.modCh n fun c => { c with bcrcFailed := true, walkStopped := true }
    (s.firstFault n 0x27 s.grp.s 0 false d.seqno).ownNotReady.enter n 2
  else if st = 3 then
    s.modCh n fun c => { c with decStopped := true, pending := some ⟨0x27, s.grp.s, 0, false, d.seqno⟩ }
  else s.fault n 0x27 s.grp.s 0 false d.seqno

/-- Check BCRC when the last body line of a curd has entered the feed (R54). -/
def State.bodyCheck (s : State) (n index line : Nat) : State :=
  match (s.ch n).curds.find? fun d => decide (d.index = index) with
  | some d =>
    if d.hdr && decide (line = d.line + 1 + (d.words - 1) / 8) then
      if crc32c (s.readDram ((d.line + 1) * 64) (8 * d.words)) = d.bcrc then s else s.bcrcFail n d
    else s
  | none => s

/-- Requests for a feed line of a channel that DRAM has not yet answered (R380, R385). -/
def State.feedPending (s : State) (n line : Nat) : Nat :=
  ((s.ddr.queue ++ s.ddr.issued).filter fun r => decide (r = ⟨0, n, line, false⟩)).length

/-- A line of the feed has returned from DRAM: fewer reads of it wait there than entries wait for it. -/
def State.feedReturned (s : State) (n line : Nat) : Bool :=
  decide (s.feedPending n line < ((s.ch n).feed.filter fun e => e.reading && decide (e.line = line)).length)

/-- Change bits of a line: byte by byte, where a change is given. -/
def flipBytes : List Byte → List Byte → List Byte
  | b :: bs, x :: xs => (b ^^^ x) :: flipBytes bs xs
  | bs, _ => bs

/-- The line of an entry enters the feed: the bytes that come in are checked against the CRC-32C that the DRAM controller formed
(R108). A line that DRAM cannot give counts as a failed check. -/
def State.feedFill (s : State) (n slot : Nat) (e : FeedEntry) (flip : List Byte) : State :=
  let b := s.readDram (64 * e.line) 64
  let got := flipBytes b flip
  let e1 : FeedEntry := { e with arrived := true, words := words64 got, crc := crc32c b, checked := false }
  if s.dramOk (64 * e.line) 64 && !s.poisoned e.line && e1.sound then
    let s := s.modCh n fun c => { c with feed := setNth c.feed slot e1 }
    if e.head then s.takeHeader n e.curd got else s.bodyCheck n e.curd e.line
  else s.refetch n slot e

/-- FEED_LINE_ARRIVAL (R108, R109): the line of an entry whose read has returned enters the feed and is checked, with the bits that
changed on its way. On a filled entry the command says which bits of the buffered copy have changed; the decoder's check finds them
(DESIGN CHOICE, log entry 97). -/
def execFeedLineArrival (ch slot : Nat) (flip : List Byte) (s : State) : Res :=
  onUnit ch s.channels 32 s fun s =>
    let c := s.ch ch
    match c.feed[slot]? with
    | none => s
    | some e =>
      if !s.fetching ch || c.curds.any (fun d => decide (d.index = e.curd) && d.fault.isSome) then s
      else if e.arrived then
        let bs := flipBytes (e.words.flatMap fun w => leBytes w.toNat 8) flip
        s.modCh ch fun c => { c with feed := setNth c.feed slot { e with words := words64 bs } }
      else if e.asked && s.feedReturned ch e.line then s.feedFill ch slot e flip
      else s

/-! ### Pattern library (R56, R111, R112) -/

/-- A library command is admitted: IDLE or DISABLED, and no load in progress. -/
def State.libFree (s : State) (n : Nat) : Bool := decide (s.chState n ≤ 1) && !s.flag (R.SEQ_LIB_STAT n) F.SEQ_LIB_STAT_BUSY

/-- A library command is ignored (R111). -/
def State.libReject (s : State) (n : Nat) : State := s.setFlag (R.SEQ_LIB_STAT n) F.SEQ_LIB_STAT_REJ true

/-- LIBRARY_LOAD (R111): the host writes LOAD = 1. -/
def execLibraryLoad (ch : Nat) (s : State) : Res :=
  onUnitWrite ch s.channels 32 (R.SEQ_LIB_CMD ch) s fun s =>
    if s.libFree ch then
      let s := s.setFlag (R.SEQ_LIB_STAT ch) F.SEQ_LIB_STAT_VALID false
      let s := s.setFlag (R.SEQ_LIB_STAT ch) F.SEQ_LIB_STAT_BUSY true
      let line := s.fld (R.SEQ_LIB_BASE ch) F.SEQ_LIB_BASE_LINE
      s.modCh ch fun c => { c with libLine := line }
    else s.libReject ch

/-- The status of a library's checks (R54, R56): 0 when it is good. A line that DRAM cannot give is LINE_CRC. -/
def State.libraryCheck (s : State) (n line : Nat) : Nat :=
  let bad (off len : Nat) : Bool := !s.dramOk off len || s.rangePoisoned off len
  let b := s.readDram (64 * line) 64
  let len := leAt b 0x10 4
  if bad (64 * line) 64 then 0x17
  else
    let e := headerCommon b n
    if e ≠ 0 then e
    else if leAt b 6 2 ≠ 2 ∨ leAt b 8 4 ≠ 0xFFFFFFFF ∨ leAt b 0x18 6 ≠ 0 then 0x14
    else if leAt b 0xC 4 ≠ 0 then 0x15
    else if !lengthOk len 1048576 then 0x16
    else if bad (64 * (line + 1)) (len - 64) then 0x17
    else if crc32c (s.readDram (64 * (line + 1)) (len - 64)) ≠ leAt b 0x38 4 then 0x27
    else 0

/-- LIBRARY_LOAD_DONE (R111). -/
def execLibraryLoadDone (ch : Nat) (s : State) : Res :=
  onUnit ch s.channels 32 s fun s =>
    if s.flag (R.SEQ_LIB_STAT ch) F.SEQ_LIB_STAT_BUSY then
      let line := (s.ch ch).libLine
      let e := s.libraryCheck ch line
      let s := s.setFlag (R.SEQ_LIB_STAT ch) F.SEQ_LIB_STAT_BUSY false
      let s := s.setFlag (R.SEQ_LIB_STAT ch) F.SEQ_LIB_STAT_VALID (decide (e = 0))
      let s := s.setFld (R.SEQ_LIB_STAT ch) F.SEQ_LIB_STAT_CODE e
      let words := (leAt (s.readDram (64 * line) 64) 0x10 4 - 64) / 8
      s.modCh ch fun c => { c with libWords := if e = 0 then words else 0 }
    else s

/-- LIBRARY_UNLOAD (R112). -/
def execLibraryUnload (ch : Nat) (s : State) : Res :=
  onUnitWrite ch s.channels 32 (R.SEQ_LIB_CMD ch) s fun s =>
    if s.libFree ch then
      (s.setFlag (R.SEQ_LIB_STAT ch) F.SEQ_LIB_STAT_VALID false).modCh ch fun c => { c with libWords := 0 }
    else s.libReject ch

/-! ### Enables and resets -/

/-- CHANNEL_DISABLE (R115 to R117): EN is written 0; a participating channel disabled during a layer sets INLAYER_OFF. -/
def execChannelDisable (ch : Nat) (s : State) : Res :=
  onUnitWrite ch s.channels 32 (R.SEQ_CTL ch) s fun s =>
    let st := s.chState ch
    let s := s.setFlag (R.SEQ_CTL ch) F.SEQ_CTL_EN false
    if st = 0 then s
    else
      let inLayer := s.layerArmed && bitAt s.grp.pmask ch && decide (2 ≤ st) && decide (st ≤ 7)
      let s := if inLayer then s.setFlag (R.SEQ_STAT ch) F.SEQ_STAT_INLAYER_OFF true else s
      let s := s.setFlag (R.SEQ_STAT ch) F.SEQ_STAT_OWNWAIT false
      (s.enter ch 0).stopChan ch

/-- CHANNEL_ENABLE (R115): EN is written 1: IDLE, or STOPPED during a layer. -/
def execChannelEnable (ch : Nat) (s : State) : Res :=
  onUnitWrite ch s.channels 32 (R.SEQ_CTL ch) s fun s =>
    let s := s.setFlag (R.SEQ_CTL ch) F.SEQ_CTL_EN true
    if s.chState ch = 0 then s.enter ch (if s.layerArmed then 8 else 1) else s

/-- SEQ_BLOCK_RESET (R120): SEQ_GRP_CMD.BRST; the emission gate path acts, and a layer is aborted. -/
def execSeqBlockReset (s : State) : Res := .next ((s.namedReset 3 true).resetSeq keepRws)

/-! ### Event ring registers (R123) -/

/-- A write of the event ring's registers was ignored. -/
def State.evtReject (s : State) : State := s.setFlag R.SEQ_EVT_CTL F.SEQ_EVT_CTL_RDERR true

/-- SEQ_EVT_CTL_WRITE (R123): EN before the write decides whether LOG2 may change; writing 1 to RDERR clears it; EN from 0 to 1
empties the ring. -/
def execSeqEvtCtlWrite (v : Word) (s : State) : Res :=
  let en := s.flag R.SEQ_EVT_CTL F.SEQ_EVT_CTL_EN
  let new := field F.SEQ_EVT_CTL_LOG2 v
  let on := decide (field F.SEQ_EVT_CTL_EN v = 1)
  let s := if field F.SEQ_EVT_CTL_RDERR v = 1 then s.setFlag R.SEQ_EVT_CTL F.SEQ_EVT_CTL_RDERR false else s
  let s :=
    if en then (if new = s.fld R.SEQ_EVT_CTL F.SEQ_EVT_CTL_LOG2 then s else s.evtReject)
    else if 6 ≤ new ∧ new ≤ 16 then s.setFld R.SEQ_EVT_CTL F.SEQ_EVT_CTL_LOG2 new
    else s
  let s := s.setFlag R.SEQ_EVT_CTL F.SEQ_EVT_CTL_EN on
  .next (if !en && on then (s.setReg R.SEQ_EVT_WR 0).setReg R.SEQ_EVT_RD 0 else s)

/-- SEQ_EVT_BASE_WRITE (R123): ignored with RDERR while EN = 1. -/
def execSeqEvtBaseWrite (v : Word) (s : State) : Res :=
  .next (if s.flag R.SEQ_EVT_CTL F.SEQ_EVT_CTL_EN then s.evtReject else s.setReg R.SEQ_EVT_BASE v)

/-- SEQ_EVT_RD_WRITE (R123): while EN = 1, a value from RD to WR modulo the ring size with no bit at or above LOG2 is taken, any
other is ignored with RDERR; while EN = 0 the write is ignored. -/
def execSeqEvtRdWrite (v : Word) (s : State) : Res :=
  .next
    (if !s.flag R.SEQ_EVT_CTL F.SEQ_EVT_CTL_EN then s
     else
       let i := field F.SEQ_EVT_RD_INDEX v
       let rd := s.fld R.SEQ_EVT_RD F.SEQ_EVT_RD_INDEX
       if i < s.evtSize ∧ (i + s.evtSize - rd) % s.evtSize ≤ s.evtFill then s.setFld R.SEQ_EVT_RD F.SEQ_EVT_RD_INDEX i
       else s.evtReject)

end Sys2Proof.Machine
end

