-- ==== Sys2Proof/Machine/Eval.lean ====
section
/-!
DEFINITION. Timed effects of the sequencer: events, records, deadlines, faults, and the setpoints of the evaluation instants with
their field correction (R62, R64, R67, R73 to R75, R79 to R85, R228 to R234, R391).
-/

namespace Sys2Proof.Machine

/-- A channel's timed actions take effect: RUN, YIELD or HALTED, from M_start on (R33, R61). -/
def State.acting (s : State) (n : Nat) : Bool :=
  let st := s.chState n
  (decide (s.grpState = 2) || decide (s.grpState = 3)) && (decide (st = 4) || decide (st = 5) || decide (st = 6))

/-- The first queued action of some kinds, when its action time has come, and the queue without it. -/
def dueAct (p : Act → Bool) (now : Nat) : List Action → Option (Action × List Action)
  | [] => none
  | a :: as =>
    if p a.act then (if a.time ≤ now then some (a, as) else none)
    else match dueAct p now as with
      | some (b, bs) => some (b, a :: bs)
      | none => none

/-- The machine time of a tick at which S has a value while the layer runs (R19, R20). -/
def State.tickTime (s : State) (t : Nat) : Nat := (s.grp.origin + (ticksU (t + s.grp.p) : Nat)).toNat

/-- Take the first due action of some kinds from a channel's queue. -/
def State.takeAct (s : State) (n : Nat) (p : Act → Bool) (f : Action → State → State) : State :=
  if s.acting n then
    match dueAct p s.grp.s (s.ch n).acts with
    | some (a, rest) => f a (s.modCh n fun c => { c with acts := rest })
    | none => s
  else s

/-- Set an event's received flag (R73). -/
def State.setEvent (s : State) (e : Nat) : State :=
  s.modGrp fun g => { g with events := tabSet (fun _ => false) g.events e true }

/-- SIG_EMIT (R74): the event goes out over Hoop with the machine time of its tick, and its flag is set here. -/
def execSigEmit (ch : Nat) (s : State) : Res :=
  onUnit ch s.channels 32 s fun s =>
    s.takeAct ch (fun a => match a with | .sig _ => true | _ => false) fun a s =>
      match a.act with
      | .sig e => (s.broadcast 0x10 (eventPayload e (mtStamp (s.tickTime a.time)))).setEvent e
      | _ => s

/-- Schedule time of a log entry (R190). -/
def LogEntry.time (e : LogEntry) : Nat := leAt e.bytes 8 6

/-- A FENCE takes effect at its action time: the open log line is closed at the last entry before it, so that no line holds entries from
both sides, and later records wait for every line so far (R79; DEDUCED, log entry 99). -/
def State.fence (s : State) (n t : Nat) : State :=
  let o := (s.ls n).logOpen
  let s := (s.modLs n fun l => { l with logOpen := o.filter fun e => decide (e.time < t) }).logClose n
  s.modLs n fun l => { l with logOpen := o.filter fun e => decide (t ≤ e.time), fence := l.logNo }

/-- EVT_ACTION (R75, R79): the record is built at its tick, and posted unless a FENCE holds it, or an earlier record, back. FENCE acts
here too. -/
def execEvtAction (ch : Nat) (s : State) : Res :=
  onUnit ch s.channels 32 s fun s =>
    s.takeAct ch (fun a => match a with | .evt _ _ => true | .fence => true | _ => false) fun a s =>
      match a.act with
      | .evt code data =>
        let l := s.ls ch
        if !l.waitsBelow l.fence && decide (l.fenceRecs = []) then s.postAt code ch a.time data 0
        else
          let r : HeldRec := ⟨l.fence, code, a.time, s.calStamp, data⟩
          s.modLs ch fun l => { l with fenceRecs := l.fenceRecs ++ [r] }
      | .fence => s.fence ch a.time
      | _ => s

/-- SYNC_DEADLINE (R73): at S = DEADLINE an event that has not come is the run-time fault SYNC_TIMEOUT, placed at the SYNC. -/
def execSyncDeadline (ch : Nat) (s : State) : Res :=
  onUnit ch s.channels 32 s fun s =>
    let c := s.ch ch
    match c.syncs with
    | w :: ws =>
      if s.acting ch && decide (w.time ≤ s.grp.s) then
        let s := s.modCh ch fun c => { c with syncs := ws }
        if tabGet (fun _ => false) s.grp.events w.event then s
        else s.fault ch 0x24 s.grp.s w.word false w.seqno
      else s
    | [] => s

/-- FAULT_TIME (R67): the fault time of a decode or fetch fault, or of a fault found while decoding ahead, has come. -/
def execFaultTime (ch : Nat) (s : State) : Res :=
  onUnit ch s.channels 32 s fun s =>
    if !s.acting ch then s
    else
      match (s.ch ch).pending with
      | some f =>
        if f.time ≤ s.grp.s then
          (s.modCh ch fun c => { c with pending := none }).fault ch f.code f.time f.word f.lib f.seqno
        else s
      | none => s.fetchDue ch

/-- The words of the instruction at the decoder's place that the feed holds. -/
def Chan.wordsHeld (c : Chan) : List Nat :=
  match c.wordAt 0 with
  | none => []
  | some w0 =>
    let m := min (extOf w0 + 1) (c.endOf c.dec.loc.lib - c.dec.loc.word)
    match c.wordsAt m with
    | some ws => ws
    | none => [w0]

/-- The cursor as the next curd's implicit WAIT will leave it (R55). -/
def Chan.nextCursor (c : Chan) : Nat :=
  match c.curds with
  | d :: _ => if !c.begun && d.hdr then max c.cursor d.stime else c.cursor
  | [] => c.cursor

/-- The decoder's curd has a fetch fault, which takes effect at its own time (R67). -/
def Chan.fetchFault (c : Chan) : Bool := match c.curds with | d :: _ => d.fault.isSome | [] => false

/-- LATE (R64): a deadline has passed and the instruction has not been decoded; UNDERRUN where its next word has not arrived.
A word not yet there counts as an action at C (DEDUCED, log entry 23). -/
def execLate (ch : Nat) (s : State) : Res :=
  onUnit ch s.channels 32 s fun s =>
    let c := s.ch ch
    let c := { c with cursor := c.nextCursor }
    let ws := c.wordsHeld
    let held := c.decStopped || c.hands.any (fun h => h.fb && !h.decided) || c.fetchFault
    let st := s.chState ch
    if !(s.acting ch && decide (st ≠ 6)) || held then s
    else
      match ws with
      | [] => if s.isLate ch (some ((c.cursor : Int) - 250)) then s.runFault ch 0x21 else s
      | w0 :: _ =>
        if s.isLate ch (c.deadline ws) then
          s.runFault ch (if ws.length < min (extOf w0 + 1) (c.endOf c.dec.loc.lib - c.dec.loc.word) then 0x21 else 0x20)
        else s

/-! ### Segment evaluation (R80 to R85) -/

/-- A value with its denominator, before its one rounding. -/
structure Ratio where
  num : Int
  den : Nat
  deriving DecidableEq, Repr

/-- Position, velocity and acceleration of one axis at k ticks into a segment, exact, in 1/256 FU and per microsecond. -/
structure AxisEval where
  p : Ratio
  v : Ratio
  a : Ratio
  deriving DecidableEq, Repr

/-- An axis at rest at a position. -/
def AxisEval.still (p : Int) : AxisEval := ⟨⟨p, 1⟩, ⟨0, 1⟩, ⟨0, 1⟩⟩

/-- Constant velocity (R81). -/
def evalLine (p0 pe : Int) (d k : Nat) : AxisEval :=
  ⟨⟨p0 * d + (pe - p0) * k, d⟩, ⟨(pe - p0) * 1250, d⟩, ⟨0, 1⟩⟩

/-- The cubic profile of R82. -/
def evalJump3 (p0 pe : Int) (d k : Nat) : AxisEval :=
  let e := pe - p0
  let d3 := d ^ 3
  let ki : Int := k
  ⟨⟨p0 * d3 + e * (3 * ki ^ 2 * d - 2 * ki ^ 3), d3⟩,
   ⟨e * (6 * ki * d - 6 * ki ^ 2) * 1250, d3⟩,
   ⟨e * (6 * d - 12 * ki) * 1562500, d3⟩⟩

/-- The quintic profile of R82. -/
def evalJump5 (p0 pe : Int) (d k : Nat) : AxisEval :=
  let e := pe - p0
  let d5 := d ^ 5
  let ki : Int := k
  let di : Int := d
  ⟨⟨p0 * d5 + e * (10 * ki ^ 3 * di ^ 2 - 15 * ki ^ 4 * di + 6 * ki ^ 5), d5⟩,
   ⟨e * (30 * ki ^ 2 * di ^ 2 - 60 * ki ^ 3 * di + 30 * ki ^ 4) * 1250, d5⟩,
   ⟨e * (60 * ki * di ^ 2 - 180 * ki ^ 2 * di + 120 * ki ^ 3) * 1562500, d5⟩⟩

/-- The Hermite polynomial of R83: v0 over its denominator and vE in 1/256 FU per microsecond. -/
def evalCubic (p0 pe v0 : Int) (v0den : Nat) (ve : Int) (d k : Nat) : AxisEval :=
  let ki : Int := k
  let di : Int := d
  let q : Int := v0den
  let d3 := d ^ 3
  let p := ((2 * ki ^ 3 - 3 * ki ^ 2 * di + di ^ 3) * p0 + (3 * ki ^ 2 * di - 2 * ki ^ 3) * pe) * 1250 * q +
    (ki ^ 3 - 2 * ki ^ 2 * di + ki * di ^ 2) * v0 * di + (ki ^ 3 - ki ^ 2 * di) * ve * di * q
  let v := (6 * ki ^ 2 - 6 * ki * di) * (p0 - pe) * 1250 * q + (3 * ki ^ 2 - 4 * ki * di + di ^ 2) * di * v0 +
    (3 * ki ^ 2 - 2 * ki * di) * di * ve * q
  let a := (12 * ki - 6 * di) * (p0 - pe) * 1562500 * q + (6 * ki - 4 * di) * 1250 * di * v0 +
    (6 * ki - 2 * di) * 1250 * di * ve * q
  ⟨⟨p, d3 * 1250 * v0den⟩, ⟨v, d3 * v0den⟩, ⟨a, d3 * v0den⟩⟩

/-- One axis of a segment at schedule time t. -/
def Segment.axis (g : Segment) (ax t : Nat) : AxisEval :=
  let p0 := g.p0.get ax
  let pe := g.pe.get ax
  let k := t - g.start
  match g.kind with
  | .line => evalLine p0 pe g.dur k
  | .jump => if g.prof = 0 then evalJump3 p0 pe g.dur k else evalJump5 p0 pe g.dur k
  | .cubic => evalCubic p0 pe (g.v0.get ax) g.v0den (g.ve.get ax) g.dur k
  | .dwell => .still p0
  | .focus => if ax ≠ 2 then .still p0 else if g.prof = 0 then evalLine p0 pe g.dur k else evalJump5 p0 pe g.dur k

/-- A segment moves the beam off the field at an instant: a position outside ±8,388,607 FU (R83). -/
def Segment.offField (g : Segment) (t : Nat) : Bool :=
  [0, 1, 2].any fun ax =>
    let r := (g.axis ax t).p
    decide ((8388607 * 256 * r.den : Nat) < r.num) || decide (r.num < -((8388607 * 256 * r.den : Nat) : Int))

/-- The evaluator's output: s32.8 triples, velocity and acceleration saturated (R80). -/
structure EvalOut where
  p : V3
  v : V3
  a : V3
  jump : Bool
  deriving DecidableEq, Repr

/-- Round to s32.8 and saturate. -/
def Ratio.sat (r : Ratio) : Int := satS 32 (roundDiv r.num r.den)

/-- A segment's output at an instant. -/
def Segment.out (g : Segment) (t : Nat) : EvalOut :=
  { p := V3.of fun ax => let r := (g.axis ax t).p; roundDiv r.num r.den
    v := V3.of fun ax => (g.axis ax t).v.sat
    a := V3.of fun ax => (g.axis ax t).a.sat
    jump := decide (g.kind = .jump) }

/-! ### Field correction (R228 to R232) -/

/-- Address of word q of node (i, j) of a channel's active table (R229, R233). -/
def fieldAddr (n q i j : Nat) : Nat := 0x2800000 + 0x40000 * n + 12 * (129 * j + i) + 4 * q

/-- A stored node value in s32.8 HC. -/
def State.fieldNode (s : State) (n q : Nat) (i j : Nat) : Int := (s.reg (fieldAddr n q i j)).toInt

/-- A node with the extrapolation along one direction; index m + 1 stands for m from -1 to 129 (R230). -/
def extrap (f : Nat → Int) (m : Nat) : Int :=
  if m = 0 then 2 * f 0 - f 1 else if m = 130 then 2 * f 128 - f 127 else f (m - 1)

/-- A node, extrapolated along i first, then along j. -/
def State.fieldAt (s : State) (n q i j : Nat) : Int :=
  extrap (fun jj => extrap (fun ii => s.fieldNode n q ii jj) i) j

/-- Fraction bits of the position within a cell: t is a numerator over this. -/
def cellM : Int := 2 ^ 25

/-- The weights of R230 for the derivative of order o, over 2 * cellM^3. -/
def weight (o b : Nat) (t : Int) : Int :=
  let m := cellM
  if o = 0 then
    (if b = 0 then -t ^ 3 + 2 * t ^ 2 * m - t * m ^ 2
     else if b = 1 then 3 * t ^ 3 - 5 * t ^ 2 * m + 2 * m ^ 3
     else if b = 2 then -3 * t ^ 3 + 4 * t ^ 2 * m + t * m ^ 2
     else t ^ 3 - t ^ 2 * m)
  else if o = 1 then
    (if b = 0 then -3 * t ^ 2 * m + 4 * t * m ^ 2 - m ^ 3
     else if b = 1 then 9 * t ^ 2 * m - 10 * t * m ^ 2
     else if b = 2 then -9 * t ^ 2 * m + 8 * t * m ^ 2 + m ^ 3
     else 3 * t ^ 2 * m - 2 * t * m ^ 2)
  else
    (if b = 0 then -6 * t * m ^ 2 + 4 * m ^ 3
     else if b = 1 then 18 * t * m ^ 2 - 10 * m ^ 3
     else if b = 2 then -18 * t * m ^ 2 + 8 * m ^ 3
     else 6 * t * m ^ 2 - 2 * m ^ 3)

/-- The 16 nodes around a cell, row by row along j (R230). -/
def State.cellNodes (s : State) (n q i j : Nat) : List (List Int) :=
  (List.range 4).map fun b => (List.range 4).map fun a => s.fieldAt n q (i + a) (j + b)

/-- The bicubic's derivative of orders ox, oy over 4 * cellM^6, each order in t. -/
def bicubic (nodes : List (List Int)) (ox oy : Nat) (tx ty : Int) : Int :=
  (nodes.zipIdx.map fun r =>
    weight oy r.2 ty * ((r.1.zipIdx.map fun c => weight ox c.2 tx * c.1).sum)).sum

/-- The bicubic's common denominator. -/
def bicubicDen : Nat := 2 ^ 152

/-- Position, velocity and acceleration of one table Q in s32.8 HC, exact over one denominator each (R231). -/
def State.fieldQ (s : State) (n q : Nat) (e : EvalOut) : AxisEval :=
  let ux := (e.p.x + 2 ^ 31).toNat
  let uy := (e.p.y + 2 ^ 31).toNat
  let tx : Int := (ux % 2 ^ 25 : Nat)
  let ty : Int := (uy % 2 ^ 25 : Nat)
  let nodes := s.cellNodes n q (ux / 2 ^ 25) (uy / 2 ^ 25)
  let d := fun ox oy => bicubic nodes ox oy tx ty
  let v := d 1 0 * e.v.x + d 0 1 * e.v.y
  let a := (d 1 0 * e.a.x + d 0 1 * e.a.y) * 2 ^ 25 +
    (d 2 0 * e.v.x ^ 2 + 2 * d 1 1 * e.v.x * e.v.y + d 0 2 * e.v.y ^ 2)
  ⟨⟨d 0 0, bicubicDen⟩, ⟨v, bicubicDen * 2 ^ 25⟩, ⟨a, bicubicDen * 2 ^ 50⟩⟩

/-- ZGAIN of a channel's active table, s24.16 (R229, R233). -/
def State.zgain (s : State) (n : Nat) : Int := signed 24 (s.reg (0x2800000 + 0x40000 * n + 0x31000)).toNat

/-- Add ZGAIN times an s32.8 value to an exact value. -/
def Ratio.addZ (r : Ratio) (g z : Int) : Ratio := ⟨r.num * 2 ^ 16 + g * z * r.den, r.den * 2 ^ 16⟩

/-- The corrected outputs of the three axes (R231). -/
def State.fieldOut (s : State) (n : Nat) (e : EvalOut) (ax : Nat) : AxisEval :=
  let q := s.fieldQ n ax e
  if ax = 2 then
    let g := s.zgain n
    ⟨q.p.addZ g e.p.z, q.v.addZ g e.v.z, q.a.addZ g e.a.z⟩
  else q

/-- A position output, rounded once, lies beyond ±8,388,607 HC (R232). -/
def Ratio.beyondHc (r : Ratio) : Bool :=
  let p := roundDiv r.num r.den
  decide (8388607 * 256 < p) || decide (p < -(8388607 * 256))

/-- A position output rounded once and held to the limits of R232. -/
def Ratio.hc (r : Ratio) : Int := clampI (roundDiv r.num r.den) (-(8388607 * 256)) (8388607 * 256)

/-- The stored nodes along one direction that a cell uses: from the one before it to the second after it, within the grid; an
extrapolated node comes from two of them (R230). -/
def cellSpan (i : Nat) : Nat × Nat := (i - 1, min (i + 2) 128)

/-- Byte ranges of the nodes and ZGAIN that a position uses (R234). -/
def fieldRanges (n : Nat) (p : V3) : List (Nat × Nat) :=
  let (i0, i1) := cellSpan ((p.x + 2 ^ 31).toNat / 2 ^ 25)
  let (j0, j1) := cellSpan ((p.y + 2 ^ 31).toNat / 2 ^ 25)
  (0x2800000 + 0x40000 * n + 0x31000, 4) :: (List.range (j1 + 1 - j0)).map fun b => (fieldAddr n 0 i0 (j0 + b), 12 * (i1 + 1 - i0))

/-- Deliver a setpoint towards the servo engine, which it reaches 250 ticks after its instant; the engine keeps the 16 newest that have
reached it (R130). -/
def State.deliver (s : State) (n : Nat) (p : Setpoint) : State :=
  let mt := s.time.mt
  s.modSc n fun c =>
    { c with hist := p :: (c.hist.filter (fun q => decide (mt < q.at_)) ++ (c.hist.filter fun q => decide (q.at_ ≤ mt)).take 16) }

/-- The interpolator passes an evaluator output on (R228, R231, R232). -/
def State.correct (s : State) (n : Nat) (t : Nat) (e : EvalOut) : State :=
  let o := s.fieldOut n e
  let k := ([0, 1, 2].filter fun ax => (o ax).p.beyondHc).length
  let s := s.setFlag (R.STI_CH_STAT n) F.STI_CH_STAT_CLAMPED (decide (0 < k))
  let s := if k = 0 then s else (s.satAdd (R.STI_CH_CLAMP n) F.STI_CH_CLAMP_COUNT k).raise R.STI_ISR F.STI_ISR_CLAMP
  let p : Setpoint :=
    { s := t, at_ := s.time.mt + ticksU 250, fu := e.p, p := V3.of fun ax => (o ax).p.hc, v := V3.of fun ax => (o ax).v.sat
      a := V3.of fun ax => (o ax).a.sat, jump := e.jump }
  s.deliver n p

/-- The channel's laser is gated in this tick on whichever path (R158, R169): the stream gate by the state that a fault leaves, a manual
gate until it is armed again (R168). -/
def State.gateOff (s : State) (n : Nat) : State := (s.modLs n fun l => { l with manArmed := false }).lapse n

/-- An integrity fault of a channel's data path (R158, R169, R188, R234, R391, R392): its laser is gated, and in RUN, YIELD or HALTED it
is the run-time fault INTEGRITY with its critical Cave record. -/
def State.integrityFault (s : State) (n d1 : Nat) : State :=
  let st := s.chState n
  let s := s.gateOff n
  if st = 4 || st = 5 || st = 6 then (s.caveIntegrity n d1).runFault n 0x28 else s

/-- The previous setpoint again, with zero velocity and acceleration (R234, R391). -/
def State.repeatSetpoint (s : State) (n t : Nat) : State :=
  match (s.sc n).hist with
  | p :: _ => s.deliver n { p with s := t, at_ := s.time.mt + ticksU 250, v := V3.zero, a := V3.zero }
  | [] => s

/-- Drop the segments that have ended; the axes stand at the last one's end (R61). -/
def State.retire (s : State) (n : Nat) : State :=
  let now := s.grp.s
  let done := (s.ch n).segs.takeWhile fun g => decide (g.start + g.dur ≤ now)
  match done.getLast? with
  | some g => s.modCh n fun c => { c with segs := c.segs.drop done.length, lastEval := g.pe }
  | none => s

/-- The evaluator's output now: the segment in force, or the last end position at rest (R61, R62). -/
def State.evaluate (s : State) (n : Nat) : EvalOut :=
  match (s.ch n).segs with
  | g :: _ => if g.start ≤ s.grp.s then g.out s.grp.s else ⟨(s.ch n).lastEval, V3.zero, V3.zero, false⟩
  | [] => ⟨(s.ch n).lastEval, V3.zero, V3.zero, false⟩

/-- A JUMP in force has turned the stream gate off (R80). -/
def State.jumpGate (s : State) (n : Nat) : State :=
  if s.jumping n then s.modLs n fun l => { l with streamGate := false } else s

/-- A position within the field, each axis at the limit that it lies beyond (R83). -/
def V3.onField (p : V3) : V3 := V3.of fun ax => clampI (p.get ax) (-(8388607 * 256)) (8388607 * 256)

/-- FIELD (R83): the run-time fault, and the evaluator goes on with the axes held where they are, at the limit where one lies beyond it,
until the segment's end (DEDUCED, log entry 100). -/
def State.fieldFault (s : State) (n t : Nat) (g : Segment) : State :=
  let p := (g.out t).p.onField
  let s := s.runFault n 0x26
  (s.modCh n fun c => { c with lastEval := p, fieldHold := some (g.start + g.dur, p) }).correct n t ⟨p, V3.zero, V3.zero, false⟩

/-- The setpoint of an evaluation instant: a residue mismatch of units 0 and 1, or an uncorrectable word of the queues or node, is an
integrity fault and repeats the previous one; otherwise the corrected setpoint goes to the engine. -/
def State.setpointAt (s : State) (ch t : Nat) : State :=
  let (bad, s) := s.takeForced 0 ch 0
  let (ue, s) := s.hiddenUe 1 ch ch
  if bad then ((s.detectResidue 0 ch 0).repeatSetpoint ch t).integrityFault ch (intgData 1 0 0 0)
  else if ue then (s.repeatSetpoint ch t).integrityFault ch s.lastUe
  else
    let e := s.evaluate ch
    let s := s.modCh ch fun c => { c with lastEval := e.p }
    let (bx, s) := s.takeForced 1 ch 0
    let (by_, s) := s.takeForced 1 ch 1
    let (bz, s) := s.takeForced 1 ch 2
    let (ue, s) := s.readWords ch (fieldRanges ch e.p)
    if bx || by_ || bz then
      let ax := if bx then 0 else if by_ then 1 else 2
      ((s.detectResidue 1 ch ax).repeatSetpoint ch t).integrityFault ch (intgData 1 1 ax 0)
    else if ue then (s.repeatSetpoint ch t).integrityFault ch s.lastUe
    else s.correct ch t e

/-- EVALUATION_INSTANT (R62, R80 to R85, R113, R228 to R234, R391): at S ≡ 0 (mod 625) while S advances. A cubic off the field is the
fault FIELD. -/
def execEvaluationInstant (ch : Nat) (s : State) : Res :=
  onUnit ch s.channels 32 s fun s =>
    let t := s.grp.s
    if !(decide (s.grpState = 2) && s.grp.run && decide (t % 625 = 0)) then s
    else
      match (s.ch ch).fieldHold with
      | some (stop, p) =>
        if stop ≤ t then s.modCh ch fun c => { c with fieldHold := none }
        else s.correct ch t ⟨p, V3.zero, V3.zero, false⟩
      | none =>
        if !s.acting ch then s
        else
          let s := (s.retire ch).jumpGate ch
          match (s.ch ch).segs with
          | g :: _ =>
            if decide (g.start ≤ t) && decide (g.kind = .cubic) && g.offField t then s.fieldFault ch t g else s.setpointAt ch t
          | [] => s.setpointAt ch t

end Sys2Proof.Machine
end

