-- ==== Sys2Proof/Machine/Servo.lean ====
section
/-!
DEFINITION. The scanner servo engine: the servo period, reference resampling, loops, learning, the tracking-error gate, identification
(04_scanner_servo). Positions are head counts and commands current units (R129); each axis has eight gain regions (R140); no mode
changes by itself but under R161 (R156).
-/

namespace Sys2Proof.Machine

/-- Servo period in units of machine time: 2,500 ns (R131). -/
def servoU : Nat := nsU 2500

/-- Axes of the device. -/
def State.axisList (s : State) : List Nat := List.range (3 * s.channels)

/-! ### Tables (R164, R165) -/

/-- First address of a region's active gain words. -/
def gainAddr (a g : Nat) : Nat := 0x10C0000 + 0x800 * a + 0x80 * g

/-- First address of an axis's active selection block. -/
def selAddr (a : Nat) : Nat := 0x10C0000 + 0x800 * a + 0x400

/-- The bits of a gain-table word, by its offset in the axis block; 0 for a reserved word (R164). -/
def gainMask (off : Nat) : Nat :=
  if off < 0x400 then
    let o := off % 0x80
    if o < 0x0C then 0xFFFFFF else if o = 0x0C then 0xFFFF else if o = 0x10 then 0xFFFFFF
    else if o = 0x14 then 0xFFFFFFFF else if o < 0x20 then 0xFFFFF else if o < 0x48 then 0xFFFFFFFF else 0
  else if off < 0x41C then 0xFFFFFF else 0

/-- One region's gain set. -/
structure Gains where
  kp : Int
  ki : Int
  kd : Int
  ad : Int
  kv : Int
  ka : Int
  umax : Int
  ilim : Int
  n1 : List Int
  n2 : List Int
  deriving DecidableEq, Repr

/-- The active gain set of an axis's region (R164). -/
def State.gains (s : State) (a g : Nat) : Gains :=
  let u := fun k => ((s.reg (gainAddr a g + 4 * k)).toNat : Int)
  let c := fun k => (s.reg (gainAddr a g + 4 * k)).toInt
  ⟨u 0, u 1, u 2, u 3, u 4, u 5, u 6, u 7, (List.range 5).map fun k => c (8 + k), (List.range 5).map fun k => c (13 + k)⟩

/-- The word of a repetitive table that holds an entry (R165). -/
def repAddr (a t k : Nat) : Nat := 0x1100000 + 0x8000 * a + 0x2000 * t + 4 * (k / 2)

/-- An entry of a repetitive table, s16. -/
def State.repEntry (s : State) (a t k : Nat) : Int :=
  signed 16 (bits (s.reg (repAddr a t k)).toNat (16 * (k % 2)) 16)

/-- Write an entry of a repetitive table. -/
def State.setRepEntry (s : State) (a t k : Nat) (v : Int) : State :=
  let w := (s.reg (repAddr a t k)).toNat
  let old := bits w (16 * (k % 2)) 16
  s.wordStore (repAddr a t k) (BitVec.ofNat 32 (w - old * 2 ^ (16 * (k % 2)) + unsigned 16 v * 2 ^ (16 * (k % 2))))

/-! ### Reference resampling (R135, R136) -/

/-- A reference of one axis: position, velocity, acceleration in s32.8, and the tag. -/
structure Ref where
  p : Int
  v : Int
  a : Int
  jump : Bool
  deriving DecidableEq, Repr

/-- Δ ticks in microseconds as u32.20 (R135). -/
def deltaUs (ticks : Nat) : Int := roundDiv ((ticks : Int) * 8388608) 10000

/-- A setpoint carried forward by Δ (R135). -/
def Setpoint.ahead (p : Setpoint) (ax : Nat) (d : Int) : Ref :=
  let v := p.v.get ax
  let a := p.a.get ax
  ⟨satS 32 (p.p.get ax + roundBits (v * d) 20 + roundBits (a * d * d) 41), satS 32 (v + roundBits (a * d) 20), a, p.jump⟩

/-- The setpoints that the engine keeps: the 16 newest that have reached it, newest first (R130). -/
def State.setpoints (s : State) (n : Nat) : List Setpoint :=
  ((s.sc n).hist.filter fun p => decide (p.at_ ≤ s.time.mt)).take 16

/-- The reference of an axis for a target schedule time; none while the channel has no setpoint (R135). -/
def State.reference (s : State) (n ax : Nat) (t : Int) : Option Ref :=
  let held := s.setpoints n
  match held.find? fun p => decide ((p.s : Int) ≤ t) with
  | some p => some (p.ahead ax (deltaUs (t - p.s).toNat))
  | none => match held.getLast? with
    | some p => some ⟨p.p.get ax, p.v.get ax, p.a.get ax, p.jump⟩
    | none => none

/-- A setpoint has reached the channel since the previous phase 0 (R136). -/
def State.refreshed (s : State) (n : Nat) : Bool :=
  let last := match s.srv.lastBoundary with | some b => b | none => 0
  (s.setpoints n).any fun p => decide (last < p.at_)

/-! ### Loop arithmetic (R138, R139) -/

/-- A product rounded to fewer fraction bits. -/
def mulR (a b : Int) (drop : Nat) : Int := roundBits (a * b) drop

/-- A notch: coefficients b0, b1, b2, a1, a2, the input with its history, the output history (R138). -/
def notch (c : List Int) (x x1 x2 y1 y2 : Int) : Int :=
  satS 40 (mulR (nth c 0 0) x 30 + mulR (nth c 1 0) x1 30 + mulR (nth c 2 0) x2 30 - mulR (nth c 3 0) y1 30 - mulR (nth c 4 0) y2 30)

/-- A quotient rounded to nearest, ties toward plus infinity; the divisor is not zero. -/
def roundQuot (a b : Int) : Int := if 0 < b then roundDiv a b.toNat else roundDiv (-a) (-b).toNat

/-- The loop state that gives x = u_last in the steady state (R145): u in s40.12, pfq the other terms of w. -/
def presetLoop (g : Gains) (u pfq e : Int) : LoopSt :=
  let s1 := nth g.n1 0 0 + nth g.n1 1 0 + nth g.n1 2 0
  let s2 := nth g.n2 0 0 + nth g.n2 1 0 + nth g.n2 2 0
  let d1 := 2 ^ 30 + nth g.n1 3 0 + nth g.n1 4 0
  let d2 := 2 ^ 30 + nth g.n2 3 0 + nth g.n2 4 0
  if s1 ≠ 0 ∧ s2 ≠ 0 ∧ d1 ≠ 0 ∧ d2 ≠ 0 then
    let w := roundQuot (u * d1 * d2) (s1 * s2)
    let m := roundQuot (u * d2) s2
    ⟨0, satS 40 (w - pfq), 0, e, satS 40 w, satS 40 w, satS 40 m, satS 40 m, u, u⟩
  else
    let p := nth g.n1 0 0 * nth g.n2 0 0
    ⟨0, if p = 0 then 0 else satS 40 (roundQuot (u * 2 ^ 60) p - pfq), 0, e, 0, 0, 0, 0, 0, 0⟩

/-- One period of a loop: the new state and x (R138, R141, R144, R145). First is the first period of an incoming mode. -/
def stepLoop (g : Gains) (l : LoopSt) (first : Bool) (r v a y q z1 u : Int) : LoopSt × Int × Int :=
  let e := satS 32 (r - 256 * y)
  let p := satS 40 (mulR g.kp e 8)
  let f := satS 40 (mulR g.kv v 8 + mulR g.ka a 4)
  let l := if first then presetLoop g u (p + f + q) e else l
  let d := satS 40 (mulR g.ad l.d 16 + mulR g.kd (e - l.e1) 8)
  let lim := 4096 * g.ilim
  let ic := clampI l.i (-lim) lim
  let hold := if ic ≠ l.i then sgn e else if sgn e = l.hold then l.hold else 0
  let held := first || decide (hold ≠ 0) || (decide (4096 * g.umax < |z1|) && decide (sgn e = sgn z1) && decide (e ≠ 0))
  let i := if held then ic else clampI (satS 40 (ic + mulR g.ki e 16)) (-lim) lim
  let w := satS 40 (p + i + d + f + q)
  let m := notch g.n1 w l.w1 l.w2 l.m1 l.m2
  let x := notch g.n2 m l.m1 l.m2 l.x1 l.x2
  (⟨hold, i, d, e, w, l.w1, m, l.m1, x, l.x1⟩, x, e)

/-! ### Gain regions (R142, R143) -/

/-- How many of three thresholds a speed reaches, each lowered by h. -/
def State.reached (s : State) (base : Nat) (v h : Int) : Nat :=
  ((List.range 3).filter fun k => decide (((s.reg (base + 4 * k)).toNat : Int) - h ≤ v)).length

/-- Select the region of an axis for this period: region, ladder index (R142, R143). -/
def State.region (s : State) (a : Nat) (jump : Bool) (v : Int) : Nat × Nat :=
  let x := s.ax a
  match x.forced with
  | some r => (r, x.c)
  | none =>
    let base := selAddr a + if jump then 0xC else 0
    let m := s.reached base |v| 0
    let c :=
      if x.restartC || decide (jump ≠ x.tag1) then m
      else if x.c < m then m
      else if m < x.c then min x.c (s.reached base |v| (s.reg (selAddr a + 0x18)).toNat)
      else x.c
    ((if jump then 4 else 0) + c, c)

/-! ### What takes effect at phase 0 (R132) -/

/-- Due servo actions of a channel, in stream order, and the queue without them. -/
def servoActs (now : Nat) : List Action → List Action × List Action
  | [] => ([], [])
  | x :: xs =>
    let (d, k) := servoActs now xs
    let mine := match x.act with | .period _ _ _ => true | .learn _ _ => true | .gsel _ _ _ => true | _ => false
    if mine && decide (x.time ≤ now) then (x :: d, k) else (d, x :: k)

/-- Change the axes of a channel that a mask selects. -/
def State.modMask (s : State) (n mask : Nat) (f : Axis → Axis) : State :=
  s.each ((List.range 3).filter fun k => bitAt mask k) fun k t => t.modAx (3 * n + k) f

/-- GSEL at its boundary (R88, R143). -/
def State.applyGsel (s : State) (n : Nat) (x : Action) : State :=
  match x.act with
  | .gsel m auto r =>
    s.modMask n m fun a => { a with forced := if auto then none else some r, restartC := auto || a.restartC }
  | _ => s

/-- LEARN at its boundary (R87). -/
def State.applyLearn (s : State) (n : Nat) (x : Action) : State :=
  match x.act with
  | .learn m mode => s.modMask n m fun a => { a with learnReq := mode }
  | _ => s

/-- PERIOD at its boundary (R86, R150): phase 0 falls here. -/
def State.applyPeriod (s : State) (n : Nat) (x : Action) : State :=
  match x.act with
  | .period m tab len => s.modMask n m fun a => { a with period := if len = 0 then none else some ⟨tab, len, 0⟩ }
  | _ => s

/-- The waiting mode request of an axis begins its handover, unless a blend is in progress (R145, R146). -/
def State.applyMode (s : State) (a : Nat) : State :=
  let x := s.ax a
  let cur := s.fld (R.SRV_AX_STAT a) F.SRV_AX_STAT_MODE
  match x.request, x.blend with
  | some m, none =>
    let s := s.modAx a fun x => { x with request := none }
    if m = cur then s
    else
      let b := s.fld (R.SRV_AX_MODE a) F.SRV_AX_MODE_BLEND
      let s := s.modAx a fun x => { x with blend := some ⟨cur, x.loop, b, 0⟩, first := true, loop := LoopSt.reset }
      s.setFld (R.SRV_AX_STAT a) F.SRV_AX_STAT_MODE m
  | _, _ => s

/-- Everything that the phase table applies at phase 0, in its order (R132). -/
def State.applyPending (s : State) (n : Nat) : State :=
  let s := s.each [3 * n, 3 * n + 1, 3 * n + 2] fun a t => t.applyMode a
  if s.acting n && s.grp.run then
    let (due, keep) := servoActs s.grp.s (s.ch n).acts
    let s := s.modCh n fun c => { c with acts := keep }
    let s := due.foldl (fun t x => t.applyGsel n x) s
    let s := due.foldl (fun t x => t.applyLearn n x) s
    due.foldl (fun t x => t.applyPeriod n x) s
  else s

/-! ### Learning (R147 to R150) -/

/-- The entry after its update (R148). -/
def learnEntry (old leak gamma e qmax : Int) : Int :=
  clampI (old - roundBits (leak * old) 16 + roundBits (gamma * e) 24) (-qmax) qmax

/-- The learning update of an axis for the present period, unless a cause of R149 has come up in it (R148, R149, R157). -/
def State.learnAxis (s : State) (n a : Nat) : State :=
  match (s.ax a).upd with
  | none => s
  | some (t, k, e) =>
    if (s.sc n).mpFreeze ≠ 0 || s.flag R.SRV_CTL F.SRV_CTL_FREEZE_ALL || decide ((s.ax a).period = none) then s.freezeAxis a
    else
      let s := s.modAx a fun x => { x with upd := none }
      let (ue, s) := s.readWords n [(repAddr a t k, 4)]
      if ue then (s.wordStore (repAddr a t k) 0).integrityFault n s.lastUe
      else
        let leak : Int := s.fld (R.SRV_AX_LRN a) F.SRV_AX_LRN_LEAK
        let gamma : Int := s.fld (R.SRV_AX_GAMMA a) F.SRV_AX_GAMMA_GAMMA
        let qmax : Int := s.fld (R.SRV_AX_QMAX a) F.SRV_AX_QMAX_QMAX
        s.setRepEntry a t k (learnEntry (s.repEntry a t k) leak gamma e qmax)

/-- The learning updates of the period, made once, at phase 2,400 (R132, R149). -/
def State.learnNow (s : State) : State :=
  if s.srv.learned then s
  else
    let s := s.each s.chs fun n t => t.each [3 * n, 3 * n + 1, 3 * n + 2] fun a u => u.learnAxis n a
    { s with srv := { s.srv with learned := true } }

/-- The clock has reached phase 2,400 of the period. -/
def State.learnTick (s : State) : State :=
  match s.srv.lastBoundary with
  | some b => if s.up dSRV && decide (b + ticksU 2400 ≤ s.time.mt) then s.learnNow else s
  | none => s

/-- A new period begins: a melt-pool bound that came after the last update freezes from here, an earlier one counts down (R149). -/
def State.learnPeriod (s : State) (n : Nat) : State :=
  let hold := s.fld (R.SRV_CH_CFG n) F.SRV_CH_CFG_MPHOLD
  let s := s.modSc n fun c => { c with mpFreeze := if c.mpLate then hold + 1 else c.mpFreeze - 1, mpLate := false }
  s.setFlag (R.SRV_CH_STAT n) F.SRV_CH_STAT_MPBOUND (decide ((s.sc n).mpFreeze ≠ 0))

/-- The bound bit of the present power instant reaches the engine 95 ticks after it (R149, R176, R186): it freezes the present update,
or from the next period on when it comes after phase 2,400. -/
def State.meltBound (s : State) (n : Nat) : State :=
  let late := match s.srv.lastBoundary with | some b => decide (b + ticksU 2400 < s.time.mt + ticksU 95) | none => false
  if late then s.modSc n fun c => { c with mpLate := true }
  else
    let hold := s.fld (R.SRV_CH_CFG n) F.SRV_CH_CFG_MPHOLD
    let s := s.modSc n fun c => { c with mpFreeze := hold + 1 }
    (s.setFlag (R.SRV_CH_STAT n) F.SRV_CH_STAT_MPBOUND true).freezeChan n

/-! ### The sample (R133, R134, R155) -/

/-- A channel's stream gate is on, the gate has followed it, and no trip, JUMP or hold of R244 keeps it off: its frames are checked
(R80, R152, R154). -/
def State.checked (s : State) (n : Nat) : Bool := s.streamPath n

/-- Latch the newest frame of the sample window, or repeat the sample as stale. -/
def State.latchSample (s : State) (n : Nat) : State :=
  let c := s.sc n
  let axes := [3 * n, 3 * n + 1, 3 * n + 2]
  match c.frame with
  | some y =>
    let s := s.modSc n fun c => { c with y := y, frame := none, frames := 0, staleRun := 0 }
    s.each axes fun a t =>
      let t := t.setSfld (R.SRV_AX_MEAS a) F.SRV_AX_MEAS_Y (y.get (a % 3))
      (t.satAdd (R.SRV_AX_LINK a) F.SRV_AX_LINK_DOUBLES (c.frames - 1)).setFlag (R.SRV_AX_STAT a) F.SRV_AX_STAT_STALE false
  | none =>
    let s := s.modSc n fun c => { c with staleRun := if s.checked n then c.staleRun + 1 else 0 }
    let s := s.each axes fun a t =>
      (t.satAdd (R.SRV_AX_LINK a) F.SRV_AX_LINK_STALES 1).setFlag (R.SRV_AX_STAT a) F.SRV_AX_STAT_STALE true
    s.raise R.SRV_ISR F.SRV_ISR_STALE

/-! ### One axis in one period -/

/-- The repetitive correction q of this period (R147, R157): an uncorrectable entry reads as zero, raises an integrity fault, and is
rewritten as zero where learning is ON. -/
def State.repTerm (s : State) (n a : Nat) (on : Bool) : Int × State :=
  let x := s.ax a
  match x.period with
  | some p =>
    if x.learnReq = 0 then (0, s)
    else
      let k := (p.k + s.fld (R.SRV_AX_LRN a) F.SRV_AX_LRN_PLEAD) % p.len
      let (ue, s) := s.readWords n [(repAddr a p.tab k, 4)]
      if ue then
        let s := if on then s.wordStore (repAddr a p.tab k) 0 else s
        (0, s.integrityFault n s.lastUe)
      else (s.repEntry a p.tab k * 2 ^ s.fld (R.SRV_AX_CFG a) F.SRV_AX_CFG_QSH * 4096, s)
  | none => (0, s)

/-- Learning causes of R149 that hold at phase 0, but for the output's saturation. -/
def State.learnBarred (s : State) (n a : Nat) : Bool :=
  let x := s.ax a
  decide (x.period = none) || decide (s.fld (R.SRV_AX_STAT a) F.SRV_AX_STAT_MODE ≠ 3) || x.blend.isSome ||
    s.flag (R.SRV_AX_STAT a) F.SRV_AX_STAT_STALE || decide ((s.sc n).trip ≠ none) || decide (s.chState n ≠ 4) ||
    s.flag R.SRV_CTL F.SRV_CTL_FREEZE_ALL

/-- Output of a mode before saturation: its loop state, z, x, and the error where it has one (R137, R138). -/
def State.modeOut (s : State) (a mode : Nat) (g : Gains) (l : LoopSt) (first : Bool) (rf : Ref) (q : Int) :
    LoopSt × Int × Option Int :=
  let x := s.ax a
  let y := (s.sc (a / 3)).y.get (a % 3)
  let u := 4096 * s.sfld (R.SRV_AX_CMD a) F.SRV_AX_CMD_U
  if mode = 0 then (l, 0, none)
  else if mode = 1 then (l, 4096 * s.sfld (R.SRV_AX_ICMD a) F.SRV_AX_ICMD_CUR, none)
  else
    let rf := if mode = 2 then ⟨256 * s.sfld (R.SRV_AX_HREF a) F.SRV_AX_HREF_POS, 0, 0, false⟩ else rf
    let (l, z, e) := stepLoop g l first rf.p rf.v rf.a y q x.z1 u
    (l, z, some e)

/-- The excitation of this period in s40.12 (R159). -/
def State.excitation (s : State) (a : Nat) : Int :=
  if s.srv.idRun && decide (s.fld R.SRV_ID_CTL F.SRV_ID_CTL_AXIS = a) &&
      decide (s.fld (R.SRV_AX_STAT a) F.SRV_AX_STAT_MODE ≠ 0) then
    let amp : Int := 4096 * s.fld R.SRV_ID_AMP F.SRV_ID_AMP_AMP
    if bitAt s.srv.idBits 0 = Config.idPlus then amp else -amp
  else 0

/-- The next bit of the excitation's sequence: PRBS7 or PRBS15 (R159, R338). -/
def prbsNext (order bs : Nat) : Nat := if order = 0 then prbs 7 6 bs else prbs 15 14 bs

/-- Its start state, which the spec leaves open. -/
def prbsStart (order seed : Nat) : Nat := prbsSeed (if order = 0 then 7 else 15) seed

/-- The reference of an axis in this period (R136). -/
def State.periodRef (s : State) (n a : Nat) (fresh : Bool) : Ref :=
  let r := if fresh then s.reference n (a % 3) ((s.grp.s + s.fld (R.SRV_AX_CFG a) F.SRV_AX_CFG_LEAD : Nat) : Int) else none
  match r with
  | some r => r
  | none => ⟨(s.ax a).r1, 0, 0, false⟩

/-- A period whose residue failed, or whose gain words or states are uncorrectable (R157, R161): the results are discarded. -/
def State.failAxis (s : State) (n a d1 : Nat) : State :=
  let s := (s.freezeAxis a).modAx a fun x => { x with fails := x.fails + 1 }
  s.integrityFault n d1

/-- The learning mode in effect, from the request and the causes of R149. -/
def learnMode (req : Nat) (barred : Bool) : Nat := if req = 0 then 0 else if req = 2 ∨ barred then 2 else 1

/-- The words that a period reads: the selection block for a region that is not forced, and the gain words that its modes use. -/
def State.gainRanges (s : State) (a mode from_ reg : Nat) : List (Nat × Nat) :=
  let sel := if (s.ax a).forced.isSome then [] else [(selAddr a, 0x1C)]
  if 2 ≤ mode ∨ 2 ≤ from_ then (gainAddr a reg, 0x48) :: sel
  else if mode = 1 ∨ from_ = 1 then (gainAddr a reg + 0x18, 4) :: sel
  else sel

/-- The blend of a handover: each product rounded once, the sum exact (R139, R145). -/
def blendOut (zin zo : Int) (j b : Nat) : Int := roundDiv (zin * (j + 1 : Nat)) (b + 1) + roundDiv (zo * (b - j : Nat)) (b + 1)

/-- One axis in one period, after what phase 0 applies (R132, R138, R145, R147 to R149). A region is selected whatever the mode; it
follows the incoming mode's reference, or that of an outgoing POS mode that still computes (R132, R142, R145; DEDUCED, log entry 29). -/
def State.runAxis (s : State) (n a : Nat) (fresh : Bool) : State :=
  let rf := s.periodRef n a fresh
  let mode := s.fld (R.SRV_AX_STAT a) F.SRV_AX_STAT_MODE
  let from_ := match (s.ax a).blend with | some b => b.from_ | none => mode
  let lead := if 2 ≤ mode then mode else from_
  let host := decide (lead = 2)
  let (reg, c) := s.region a (!host && rf.jump) (if host then 0 else rf.v)
  let (bad, s) := s.takeForced 2 n (a % 3)
  let (ue, s) := s.readWords n (s.gainRanges a mode from_ reg)
  let (lost, s) := s.hiddenUe 4 a n
  if bad then (s.detectResidue 2 n (a % 3)).failAxis n a (intgData 1 2 (a % 3) 0)
  else if ue then s.failAxis n a s.lastUe
  else if lost then s.failAxis n a s.lastUe
  else
    let barred := s.learnBarred n a || decide ((s.sc n).mpFreeze ≠ 0)
    let (q, s) := s.repTerm n a (decide (learnMode (s.ax a).learnReq barred = 1))
    let x := s.ax a
    let g := s.gains a reg
    let (l, zin, e) := s.modeOut a mode g x.loop x.first rf q
    let (blend, z0, e) :=
      match x.blend with
      | none => ((none : Option Blend), zin, e)
      | some b =>
        let (lo, zo, eo) := s.modeOut a b.from_ g b.out false rf q
        let z := blendOut zin zo b.j b.b
        let e := match e with | some e => some e | none => eo
        (if b.b ≤ b.j then none else some { b with out := lo, j := b.j + 1 }, z, e)
    let z := satS 40 (z0 + s.excitation a)
    let lim := 4096 * g.umax
    let u := clampI (roundBits (clampI z (-lim) lim) 12) (-524287) 524287
    let sat := decide (lim < |z|)
    let lrn := learnMode x.learnReq (barred || decide (lim < |zin|))
    let err := match e with | some e => e | none => 0
    let upd := if lrn = 1 then (match x.period with | some p => some (p.tab, p.k, err) | none => none) else none
    let s := s.modAx a fun x =>
      { x with loop := l, z1 := z, r1 := rf.p, c := c, tag1 := !host && rf.jump, blend := blend
               first := false, restartC := x.forced.isSome && x.restartC, upd := upd, fails := 0 }
    let s := s.setFld (R.SRV_AX_STAT a) F.SRV_AX_STAT_REGION reg
    let s := s.setFlag (R.SRV_AX_STAT a) F.SRV_AX_STAT_FORCED x.forced.isSome
    let s := s.setFld (R.SRV_AX_STAT a) F.SRV_AX_STAT_LRN lrn
    let s := s.setFlag (R.SRV_AX_STAT a) F.SRV_AX_STAT_SAT sat
    let s := s.setFlag (R.SRV_AX_STAT a) F.SRV_AX_STAT_IHOLD (decide (l.hold ≠ 0))
    let s := s.setFlag (R.SRV_AX_STAT a) F.SRV_AX_STAT_BLENDING blend.isSome
    let s := s.setSfld (R.SRV_AX_CMD a) F.SRV_AX_CMD_U u
    if e.isSome then s.setSfld (R.SRV_AX_ERR a) F.SRV_AX_ERR_E (satS 24 (roundBits err 8)) else s

/-- Active periods go on by one servo period (R147). -/
def State.advancePeriod (s : State) (a : Nat) : State :=
  s.modAx a fun x =>
    match x.period with
    | some p => { x with period := some { p with k := (p.k + 1) % p.len } }
    | none => x

/-- Every axis OFF without a blend (R161, R346). -/
def State.axisOff (s : State) (a : Nat) : State :=
  let s := s.modAx a fun x =>
    { x with blend := none, first := false, request := none, loop := LoopSt.reset, z1 := 0, upd := none, fails := 0 }
  let s := (s.setFld (R.SRV_AX_STAT a) F.SRV_AX_STAT_MODE 0).setFlag (R.SRV_AX_STAT a) F.SRV_AX_STAT_BLENDING false
  s.setReg (R.SRV_AX_CMD a) 0

/-! ### Identification (R159) and the drive-current sum (R160) -/

/-- Excitation and capture start at the first boundary with ARM = 1. -/
def State.idStart (s : State) : State :=
  if s.flag R.SRV_ID_CTL F.SRV_ID_CTL_ARM && !s.srv.idRun && decide (s.srv.idCount = 0) then
    let (k, s) := s.draw
    let seed := prbsStart (s.fld R.SRV_ID_CTL F.SRV_ID_CTL_ORDER) (Config.idSeed k)
    let s := { s with srv := { s.srv with idRun := true, idBits := seed } }
    (s.setFlag R.SRV_ID_STAT F.SRV_ID_STAT_BUSY true).setFld R.SRV_ID_STAT F.SRV_ID_STAT_COUNT 0
  else s

/-- Capture y, u and the stale flag of the axis for this period (R159, R165). -/
def State.idCapture (s : State) : State :=
  if s.srv.idRun && decide (s.srv.idCount < 4096) then
    let a := s.fld R.SRV_ID_CTL F.SRV_ID_CTL_AXIS
    let k := s.srv.idCount
    let y := unsigned 24 ((s.sc (a / 3)).y.get (a % 3))
    let stale := (s.flag (R.SRV_AX_STAT a) F.SRV_AX_STAT_STALE).toNat
    let s := s.setReg (0x1400000 + 8 * k) (BitVec.ofNat 32 (y + 2 ^ 24 * stale))
    let s := s.setReg (0x1400004 + 8 * k) (BitVec.ofNat 32 (s.fld (R.SRV_AX_CMD a) F.SRV_AX_CMD_U))
    let step := decide ((k + 1) % 2 ^ s.fld R.SRV_ID_CTL F.SRV_ID_CTL_DIV = 0)
    let order := s.fld R.SRV_ID_CTL F.SRV_ID_CTL_ORDER
    let s := { s with srv := { s.srv with idCount := k + 1, idBits := if step then prbsNext order s.srv.idBits else s.srv.idBits } }
    s.setFld R.SRV_ID_STAT F.SRV_ID_STAT_COUNT (k + 1)
  else s

/-- The budget cause (R37, R430): raised when the mean of the last 400 sums exceeds the GALVO limit, cleared below the limit minus HYST.
PWR_BUD_USE shows the mean in credits of 50 mA, rounded up (R438). -/
def State.budgetCause (s : State) : State :=
  let sum := s.srv.sums.foldl (fun n x => n + x) 0
  let w := R.PWR_BUD_LIM 2
  let lim := s.fld w F.PWR_BUD_LIM_LIM
  let low := (lim : Int) - s.fld w F.PWR_BUD_LIM_HYST
  let s := s.setFld (R.PWR_BUD_USE 2) F.PWR_BUD_USE_GRANT (min (ceilDiv sum 20000) 65535)
  let st := R.PWR_BUD_STAT 2
  if 20000 * lim < sum ∧ !s.flag st F.PWR_BUD_STAT_CAUSE then
    ((s.setFlag st F.PWR_BUD_STAT_CAUSE true).raise R.PWR_ISR F.PWR_ISR_BUDGET).holdRise
  else if (sum : Int) < 20000 * low then s.setFlag st F.PWR_BUD_STAT_CAUSE false
  else s

/-- A period's sum goes to the arbiter, which keeps the newest 400 (R430). -/
def State.addSum (s : State) (ma : Nat) : State :=
  ({ s with srv := { s.srv with sums := (ma :: s.srv.sums).take 400 } } : State).budgetCause

/-- The drive-current sum of the period in mA (R160). -/
def State.driveSum (s : State) : State :=
  let t := s.axisList.foldl (fun t a =>
    t + (s.sfld (R.SRV_AX_CMD a) F.SRV_AX_CMD_U).natAbs * s.fld (R.SRV_AX_CFG a) F.SRV_AX_CFG_IFS) 0
  let ma := min (roundDiv (t : Int) 524287).toNat (2 ^ 24 - 1)
  (s.setFld R.SRV_ISUM F.SRV_ISUM_MA ma).addSum ma

/-- One channel in one period. -/
def State.runChannel (s : State) (n : Nat) : State :=
  let fresh := s.refreshed n
  let s := s.latchSample n
  let s := s.each [3 * n, 3 * n + 1, 3 * n + 2] fun a t => t.advancePeriod a
  let s := s.applyPending n
  s.each [3 * n, 3 * n + 1, 3 * n + 2] fun a t => t.runAxis n a fresh

/-- One servo period of the engine: the learning updates of the period before are complete, then each channel's period, the capture,
and the drive-current sum. -/
def State.servoPeriod (s : State) : State :=
  let mt := s.time.mt
  let s := (s.learnNow).each s.chs fun n t => t.learnPeriod n
  let s := if s.srv.zeroDue then s.each s.axisList fun a t => t.axisOff a else s
  let s := { s with srv := { s.srv with zeroDue := false } }
  let s := s.idStart
  let s := s.each s.chs fun n t => t.runChannel n
  let s := s.idCapture.driveSum
  { s with srv := { s.srv with lastBoundary := some mt, learned := false } }

/-- SERVO_PERIOD_BOUNDARY (R131, R132, R430): at machine times that are multiples of 2,500 ns. While SRV is off the arbiter's sum is
zero. -/
def execServoPeriodBoundary (s : State) : Res :=
  occurs (decide (s.time.mt % servoU = 0)) s fun s => if s.up dSRV then s.servoPeriod else s.addSum 0

/-- AXIS_ARITH_OFF (R161): after three consecutive failing periods the axis is set to OFF without a blend. -/
def execAxisArithOff (a : Nat) (s : State) : Res :=
  onUnit a (3 * s.channels) 96 s fun s =>
    if 3 ≤ (s.ax a).fails then
      ((s.axisOff a).setFlag (R.SRV_AX_STAT a) F.SRV_AX_STAT_ARITH true).raise R.SRV_ISR F.SRV_ISR_ARITH
    else s

/-! ### The tracking-error gate (R152 to R155) -/

/-- The window of an axis in HC (R152). -/
def State.tegWindow (s : State) (n k : Nat) : Int :=
  roundBits (((s.sc n).win * s.fld (R.SRV_AX_TEG (3 * n + k)) F.SRV_AX_TEG_SCALE : Nat) : Int) 12

/-- The errors of a frame against the reference at S - DELAY, s32.8 HC; none without a setpoint (R152). -/
def State.tegErrors (s : State) (n : Nat) (y : V3) : Option V3 :=
  let t := (s.grp.s : Int) - s.fld (R.SRV_CH_CFG n) F.SRV_CH_CFG_DELAY
  match s.reference n 0 t, s.reference n 1 t, s.reference n 2 t with
  | some rx, some ry, some rz => some ⟨rx.p - 256 * y.x, ry.p - 256 * y.y, rz.p - 256 * y.z⟩
  | _, _, _ => none

/-- An error as the s24 HC field of a record. -/
def errField (e : Int) : Nat := unsigned 24 (satS 24 (roundBits e 8))

/-- A trip takes hold (R153, R155): the gate's release, the record, the counts. -/
def State.trip (s : State) (n : Nat) (e : V3) (viol : Nat) (stale : Bool) : State :=
  let now := s.grp.s
  let s := s.modSc n fun c => { c with trip := some (now + 1), trips := min (c.trips + 1) 65535, staleRun := 0 }
  let s := (s.lapse n).freezeChan n
  let s := s.setFlag (R.SRV_CH_STAT n) F.SRV_CH_STAT_TRIPPED true
  let s := s.each ((List.range 3).filter fun k => bitAt viol k) fun k t =>
    t.satAdd (R.SRV_AX_TRIPS (3 * n + k)) F.SRV_AX_TRIPS_COUNT 1
  let first := (List.range 3).find? fun k =>
    if stale then decide (s.fld (R.SRV_AX_TEG (3 * n + k)) F.SRV_AX_TEG_SCALE ≠ 0) else bitAt viol k
  let w := match first with | some k => (min (s.tegWindow n k) 65535).toNat | none => 0
  let latch := (s.flag (R.SRV_CH_CFG n) F.SRV_CH_CFG_LATCH).toNat
  let d1 := errField e.x + errField e.y * 2 ^ 24 + w * 2 ^ 48
  let d2 := errField e.z + viol * 2 ^ 24 + stale.toNat * 2 ^ 27 + latch * 2 ^ 28 + (s.sc n).trips * 2 ^ 32
  (s.post 0xFF03 n d1 d2).raise R.SRV_ISR F.SRV_ISR_TRIP

/-- A valid uplink frame at the tracking-error gate (R152). -/
def State.tegFrame (s : State) (n : Nat) (y : V3) : State :=
  if s.checked n then
    match s.tegErrors n y with
    | some e =>
      let viol := (List.range 3).foldl (fun m k =>
        if decide (s.fld (R.SRV_AX_TEG (3 * n + k)) F.SRV_AX_TEG_SCALE ≠ 0) && decide (256 * s.tegWindow n k < |e.get k|) then
          m + 2 ^ k else m) 0
      if viol = 0 then s else s.trip n e viol false
    | none => s
  else s

/-- STALE_TRIP (R155): STALEMAX + 1 windows in a row without a valid frame, with the stream gate on. -/
def execStaleTrip (ch : Nat) (s : State) : Res :=
  onUnit ch s.channels 32 s fun s =>
    if s.checked ch && decide (s.fld (R.SRV_CH_CFG ch) F.SRV_CH_CFG_STALEMAX < (s.sc ch).staleRun) then
      s.trip ch V3.zero 0 true
    else s

/-- A valid uplink frame in the sample window is kept for the next phase 0 (R132, R133); its arrival phase is reported. With SRV off
the engine takes none. -/
def State.sampleFrame (s : State) (n : Nat) (y : V3) : State :=
  if !s.up dSRV then s
  else
    let phase := s.time.mt % servoU / tickU
    let s := s.each [3 * n, 3 * n + 1, 3 * n + 2] fun a t => t.setFld (R.SRV_AX_LINK a) F.SRV_AX_LINK_ARRPH phase
    if 2500 ≤ phase then s.modSc n fun c => { c with frame := some y, frames := c.frames + 1 } else s

/-! ### Host commands -/

/-- SRV_AX_MODE_WRITE (R145, R146, R346): rejected while the channel is in PRIMING, READY, RUN, YIELD or HALTED; a mode equal to the
one in force, or incoming, withdraws a waiting request; BLEND takes the written value in every case; REJ clears by writing 1. -/
def execSrvAxModeWrite (a : Nat) (v : Word) (s : State) : Res :=
  onUnitWrite a (3 * s.channels) 96 (R.SRV_AX_MODE a) s fun s =>
    let st := s.chState (a / 3)
    let s := if field F.SRV_AX_MODE_REJ v = 1 then s.setFlag (R.SRV_AX_MODE a) F.SRV_AX_MODE_REJ false else s
    let s := s.setFld (R.SRV_AX_MODE a) F.SRV_AX_MODE_BLEND (field F.SRV_AX_MODE_BLEND v)
    if 2 ≤ st ∧ st ≤ 6 then (s.setFlag (R.SRV_AX_MODE a) F.SRV_AX_MODE_REJ true).raise R.SRV_ISR F.SRV_ISR_REJ
    else
      let m := field F.SRV_AX_MODE_MODE v
      let s := s.setFld (R.SRV_AX_MODE a) F.SRV_AX_MODE_MODE m
      let s := s.modHd (a / 3) fun h => { h with zeroed := false }
      let cur := s.fld (R.SRV_AX_STAT a) F.SRV_AX_STAT_MODE
      s.modAx a fun x => { x with request := if m = cur then none else some m }

/-- IDENTIFICATION_ARM (R159): the write of SRV_ID_CTL; ARM = 1 starts at the next boundary, ARM = 0 stops it. -/
def execIdentificationArm (v : Word) (s : State) : Res :=
  let on := decide (field F.SRV_ID_CTL_ARM v = 1)
  let m := fieldMask F.SRV_ID_CTL_ARM ||| fieldMask F.SRV_ID_CTL_ORDER ||| fieldMask F.SRV_ID_CTL_DIV ||| fieldMask F.SRV_ID_CTL_AXIS
  let s := s.setReg R.SRV_ID_CTL (v &&& BitVec.ofNat 32 m)
  .next
    (if on then s
     else ({ s with srv := { s.srv with idRun := false, idCount := 0 } }).setFlag R.SRV_ID_STAT F.SRV_ID_STAT_BUSY false)

/-- IDENTIFICATION_DONE (R159): after 4,096 captured periods. -/
def execIdentificationDone (s : State) : Res :=
  occurs (s.srv.idRun && decide (4096 ≤ s.srv.idCount)) s fun s =>
    let s := { s with srv := { s.srv with idRun := false, idCount := 0 } }
    let s := s.setFlag R.SRV_ID_CTL F.SRV_ID_CTL_ARM false
    let s := (s.setFlag R.SRV_ID_STAT F.SRV_ID_STAT_BUSY false).setFlag R.SRV_ID_STAT F.SRV_ID_STAT_DONE true
    s.raise R.SRV_ISR F.SRV_ISR_IDDONE

/-- A host write to the table window of unit n of those present: ignored and captured for an absent one (R4), else as given. -/
def onTable (n present limit addr : Nat) (s : State) (f : State → State) : Res :=
  onAddr addr s fun s => if n < limit then (if n < present then f s else s.absent .host addr true) else s

/-- REPETITIVE_TABLE_WRITE (R151, R165): ignored with REJ while an active period of the axis uses the table. -/
def execRepetitiveTableWrite (addr : Nat) (v : Word) (s : State) : Res :=
  if addr < 0x1100000 ∨ 0x1400000 ≤ addr then onAddr addr s id
  else
    let a := (addr - 0x1100000) / 0x8000
    onTable a (3 * s.channels) 96 addr s fun s =>
      let t := (addr - 0x1100000) % 0x8000 / 0x2000
      let used := match (s.ax a).period with | some p => decide (p.tab = t) | none => false
      if used then s.raise R.SRV_ISR F.SRV_ISR_REJ else s.tableStore addr 0xFFFFFFFF v

/-- ACTIVE_GAIN_SET_WRITE (R164): ignored with REJ unless the axis is OFF. -/
def execActiveGainSetWrite (addr : Nat) (v : Word) (s : State) : Res :=
  if addr < 0x10C0000 ∨ 0x1100000 ≤ addr then onAddr addr s id
  else
    let a := (addr - 0x10C0000) / 0x800
    onTable a (3 * s.channels) 96 addr s fun s =>
      let off := (addr - 0x10C0000) % 0x800
      if s.fld (R.SRV_AX_STAT a) F.SRV_AX_STAT_MODE ≠ 0 ∨ (s.ax a).blend.isSome then s.raise R.SRV_ISR F.SRV_ISR_REJ
      else if gainMask off = 0 then s
      else s.tableStore addr (gainMask off) v

/-- The SRV block after a reset that reaches it (R163): modes OFF, loop states zero, tables kept. -/
def State.resetSrv (s : State) (keep : Access → Bool) : State :=
  let s := s.resetRegs 0x140000 0x180000 keep
  { s with srvAx := [], srvCh := [], srv := { s.srv with idRun := false, idCount := 0, lastBoundary := none, learned := true, zeroDue := false } }

/-- SRV_BLOCK_RESET (R163, R170). -/
def execSrvBlockReset (s : State) : Res := .next ((s.namedReset 0 false).resetSrv keepRws)

end Sys2Proof.Machine
end

