-- ==== Sys2Proof/Machine/Laser.lean ====
section
/-!
DEFINITION. The laser block: gate edges, status inputs, the emission stop latch, the melt-pool loop, power map and DAC, photodiode
log, manual drive, tables and reset (05_laser_and_melt_pool; R242 to R244). Power codes are those of R16; the balls of R167 show as
LSR_GATE, LSR_RDY, LSR_FLT and the DAC codes, and the bounds of R169 are latencies.
-/

namespace Sys2Proof.Machine

/-! ### LASER conditions (R173 to R175) -/

/-- A LASER condition: flag, count, record (R173, R175). rdy tells that LRDY raised it. -/
def State.laserCond (s : State) (n cause : Nat) (rdy : Bool) : State :=
  let s := s.setFlag (R.LSR_CH_STAT n) F.LSR_CH_STAT_LASERFLT true
  let s :=
    if cause = 4 then s.satAdd (R.LSR_CH_EVENTS2 n) F.LSR_CH_EVENTS2_LATCNT 1
    else if cause = 5 then s.satAdd (R.LSR_CH_EVENTS2 n) F.LSR_CH_EVENTS2_AFECNT 1
    else if rdy then s.satAdd (R.LSR_CH_EVENTS n) F.LSR_CH_EVENTS_RDYCNT 1
    else s.satAdd (R.LSR_CH_EVENTS n) F.LSR_CH_EVENTS_FLTCNT 1
  let r := (s.flag (R.LSR_CH_STAT n) F.LSR_CH_STAT_RDY).toNat
  let f := (s.flag (R.LSR_CH_STAT n) F.LSR_CH_STAT_FLT).toNat
  (s.post 0xFF08 n (cause + r * 256 + f * 512) 0).raise R.LSR_ISR F.LSR_ISR_LASER

/-- The channel is in RUN, YIELD or HALTED. -/
def State.inLayer (s : State) (n : Nat) : Bool := decide (s.chState n = 4 ∨ s.chState n = 5 ∨ s.chState n = 6)

/-- Manual drive ends by a status input (R173). -/
def State.manualEnd (s : State) (n : Nat) : State := (s.setFlag (R.LSR_CH_MAN n) F.LSR_CH_MAN_EN false).lapse n

/-! ### Gate edges (R91, R94, R154, R174, R185, R244) -/

/-- Holds that a gate-on edge at a tick leaves (R244). -/
def GateHold.afterOn (t : Nat) : GateHold → Bool
  | .untilOn a => decide (t ≤ a)
  | .untilOff _ => true

/-- A trip is released by a gate-on edge at a later tick, unless LATCH holds it to the next yield (R154). -/
def State.releaseTrip (s : State) (n t : Nat) : State :=
  match (s.sc n).trip with
  | some a =>
    if a ≤ t ∧ !s.flag (R.SRV_CH_CFG n) F.SRV_CH_CFG_LATCH then
      (s.modSc n fun c => { c with trip := none, staleRun := 0 }).setFlag (R.SRV_CH_STAT n) F.SRV_CH_STAT_TRIPPED false
    else s
  | none => s

/-- A stream gate-on edge (R94): none while the gate is on; suppressed without fault inside a hold of R244; a LASER condition and
fault with the latch set or LRDY low (R173, R174). The gate follows it when nothing else keeps it low, and is then checked (R154, R168). -/
def State.gateOnEdge (s : State) (n t fine win : Nat) : State :=
  let s := s.noteGate n (32 * t)
  if (s.ls n).streamGate then s
  else
    let s := s.modLs n fun l =>
      { l with holds := l.holds.filter fun h => h.afterOn t, fades := l.fades.filter fun f => f.take || decide (t ≤ f.anchor + f.xf) }
    let s := s.releaseTrip n t
    let held := (s.ls n).holds.any fun h => h.active t
    let low := !s.ready n
    if !held && (low || s.latched) then
      let set := s.latched
      let s := if low then s.laserCond n 3 true else s
      let s := if set then s.laserCond n 4 false else s
      s.runFault n 0x29
    else
      let go := !held && s.streamConds n
      let s := s.modLs n fun l => { l with streamGate := true, follows := go, onCount := 0 }
      let s := s.modSc n fun c => { c with win := win }
      s.noteGate n (32 * t + fine)

/-- A stream gate-off edge (R94): none while the gate is off. -/
def State.gateOffEdge (s : State) (n t fine : Nat) : State :=
  let s := s.noteGate n (32 * t)
  if (s.ls n).streamGate then
    let z := bitAt (s.reg (0x1800018 + 0x200 * n + 0x20 * (s.ls n).mp.gset)).toNat 12
    let s := s.modLs n fun l =>
      { l with streamGate := false, follows := false, holds := l.holds.filter fun h => h.survives t
               goff := if z then some (32 * t + fine) else l.goff }
    s.noteGate n (32 * t + fine)
  else s

/-- Time of the next edge of a train. -/
def Train.edge (r : Train) : Nat := r.t0 + r.next / 2 * r.per + r.next % 2 * r.wid

/-- The next edge of the train in progress (R91). -/
def State.trainEdge (s : State) (n : Nat) (r : Train) : State :=
  let s := s.modCh n fun c => { c with train := if r.next + 1 < 2 * r.count then some { r with next := r.next + 1 } else none }
  if r.next % 2 = 0 then s.gateOnEdge n r.edge 0 r.win else s.gateOffEdge n r.edge 0

/-- The first due gate edge of the queue takes place. A PULSE starts its train; its power part stays queued as a setpoint. -/
def State.queueEdge (s : State) (n : Nat) : State :=
  let p : Act → Bool := fun a => match a with | .gateOn _ _ => true | .gateOff _ => true | .pulse _ _ _ _ _ => true | _ => false
  match dueAct p s.grp.s (s.ch n).acts with
  | none => s
  | some (a, rest) =>
    match a.act with
    | .gateOn fine win => (s.modCh n fun c => { c with acts := rest }).gateOnEdge n a.time fine win
    | .gateOff fine => (s.modCh n fun c => { c with acts := rest }).gateOffEdge n a.time fine
    | .pulse power per wid count win =>
      let acts := (s.ch n).acts.map fun x => if x = a then { x with act := .pset power } else x
      let r : Train := ⟨a.time, per, wid, count, 0, win⟩
      (s.modCh n fun c => { c with acts := acts }).trainEdge n r
    | _ => s

/-- GATE_EDGE (R91, R94): the next edge whose tick has come, from the train in progress or from the queue. -/
def execGateEdge (ch : Nat) (s : State) : Res :=
  onUnit ch s.channels 32 s fun s =>
    if s.acting ch then
      match (s.ch ch).train with
      | some r => if r.edge ≤ s.grp.s then s.trainEdge ch r else s
      | none => s.queueEdge ch
    else s

/-! ### Photodiode inputs (R179) -/

/-- A sample corrected with the active offset and gain (R179, R196), and whether it is saturated. -/
def State.pdCorrect (s : State) (n input raw : Nat) : Nat × Bool :=
  let w := (s.reg (0x1831000 + 0x10 * n + 4 * input)).toNat
  let x := clampI (roundBits (((raw : Int) - signed 16 w) * (w / 65536 : Nat)) 14) 0 16383
  (x.toNat, decide (raw = 16383 ∨ raw = 0))

/-- A pair of samples is taken: LSR_CH_PD and the count of saturated ones. -/
def State.pdTake (s : State) (n : Nat) (a b : Nat × Bool) : State :=
  let w := a.1 + a.2.toNat * 2 ^ 14 + b.1 * 2 ^ 16 + b.2.toNat * 2 ^ 30
  (s.setReg (R.LSR_CH_PD n) (BitVec.ofNat 32 w)).satAdd (R.LSR_CH_EVENTS n) F.LSR_CH_EVENTS_PDSAT (a.2.toNat + b.2.toNat)

/-! ### Power actions (R89 to R93, R184) -/

/-- The setpoint of a ramp at a power instant, rounded to nearest (R90, R181). -/
def Ramp.at_ (r : Ramp) (p : Nat) : Nat :=
  if r.t1 ≤ p then r.pend
  else if p ≤ r.t0 then r.from_
  else ((r.from_ : Int) + roundDiv (((r.pend : Int) - r.from_) * ((p : Int) - r.t0)) (r.t1 - r.t0)).toNat

/-- The setpoint at a time, in force since the last power instant (R90). -/
def Laser.setpoint (l : Laser) (t : Nat) : Nat :=
  match l.ramp with | some r => r.at_ (125 * (t / 125)) | none => l.pset

/-- Integrator of a mode clamped to a new envelope (R183). -/
def Melt.bounded (m : Melt) (lo hi : Int) : Melt := { m with i := clampI m.i (256 * lo) (256 * hi) }

/-- One power action at power instant p, in stream order. -/
def State.powerAct (s : State) (n p : Nat) (x : Action) : State :=
  match x.act with
  | .pset power => s.modLs n fun l => { l with pset := power, ramp := none }
  | .pulse power per wid count win =>
    let s := s.modLs n fun l => { l with pset := power, ramp := none }
    s.modCh n fun c => { c with train := some ⟨x.time, per, wid, count, 0, win⟩ }
  | .pramp pend dur =>
    s.modLs n fun l => { l with ramp := some ⟨l.setpoint x.time, pend, p, 125 * ceilDiv (x.time + dur) 125⟩ }
  | .env hi lo pmax pmin =>
    let s := s.setReg (R.LSR_CH_ENV n) (BitVec.ofNat 32 (unsigned 16 lo + unsigned 16 hi * 65536))
    let s := s.setReg (R.LSR_CH_PLIM n) (BitVec.ofNat 32 (pmin + pmax * 65536))
    s.modLs n fun l =>
      let out := decide ((l.mp.bounded lo hi).i ≠ l.mp.i)
      { l with mp := l.mp.bounded lo hi, blend := l.blend.map (fun b => { b with out := b.out.bounded lo hi })
               envDue := l.envDue || out }
  | .mpl gset mode ratio sum =>
    let s := s.setReg (R.LSR_CH_TGT n) (BitVec.ofNat 32 (sum + ratio * 65536))
    let s := s.setFld (R.LSR_CH_STAT n) F.LSR_CH_STAT_MPMODE mode
    let s := s.setFld (R.LSR_CH_STAT n) F.LSR_CH_STAT_GSET gset
    let b := bits (s.reg (0x1800018 + 0x200 * n + 0x20 * gset)).toNat 8 4
    s.modLs n fun l => { l with mp := ⟨mode, gset, ratio, sum, l.mp.i, l.mp.c, true⟩, blend := some ⟨l.mp, 0, b⟩ }
  | _ => s

/-- Power actions among the queue's actions. -/
def isPowerAct (a : Act) : Bool :=
  match a with | .pset _ => true | .pramp _ _ => true | .env _ _ _ _ => true | .mpl _ _ _ _ => true | .pulse _ _ _ _ _ => true | _ => false

/-- The power actions whose time has come, and the queue without them. -/
def powerDue (now : Nat) : List Action → List Action × List Action
  | [] => ([], [])
  | a :: as =>
    let (d, k) := powerDue now as
    if isPowerAct a.act && decide (a.time ≤ now) then (a :: d, k) else (d, a :: k)

/-! ### The melt-pool loop (R180 to R186) -/

/-- A gain set (R195). -/
structure MeltGains where
  kp : Int
  ki : Int
  wr : Int
  ws : Int
  alpha : Nat
  smin : Nat
  blank : Nat
  deriving DecidableEq, Repr

/-- Gain set g of a channel; alpha above 1.0 acts as 1.0. -/
def State.meltGains (s : State) (n g : Nat) : MeltGains :=
  let w (k : Nat) : Nat := (s.reg (0x1800000 + 0x200 * n + 0x20 * g + 4 * k)).toNat
  ⟨(w 0 % 65536 : Nat), (w 1 % 65536 : Nat), signed 24 (w 2), signed 16 (w 3), min (w 4 % 65536) 0x8000, w 5 % 65536, w 6 % 256⟩

/-- Low-pass filter of a colour in u22.8 (R180). -/
def meltFilter (f alpha x : Nat) : Nat :=
  (satU 22 ((f : Int) + roundBits ((alpha : Int) * (256 * (x : Int) - f)) 15)).toNat

/-- The colour ratio (R180, R181): 0xFFFF when bf is zero. -/
def meltRatio (af bf : Nat) : Nat := if bf = 0 then 0xFFFF else (satU 16 (roundDiv (32768 * (af : Int)) bf)).toNat

/-- The colour sum in ADC codes. -/
def meltSum (af bf : Nat) : Nat := (satU 16 (roundBits ((af : Int) + bf) 8)).toNat

/-- The error of a mode in s32.8. -/
def Melt.err (m : Melt) (g : MeltGains) (rho sig : Nat) : Int :=
  satS 32 (satS 32 (roundBits (g.wr * ((m.ratio : Int) - rho)) 15) + satS 32 (roundBits (g.ws * ((m.sum : Int) - sig)) 4))

/-- One instant of a mode (R180, R184): its state, craw and c. In the first instant the preset integrator stands for that instant. -/
def Melt.step (m : Melt) (g : MeltGains) (e last lo hi : Int) (valid held : Bool) : Melt × Int × Int :=
  let kpe := satS 32 (roundBits (g.kp * e) 12)
  let i :=
    if m.first && decide (m.mode = 2) then clampI (if valid then satS 32 (last - kpe) else last) lo hi
    else if decide (m.mode = 2) && valid && !held then clampI (satS 32 (m.i + satS 32 (roundBits (g.ki * e) 16))) lo hi
    else m.i
  let keep := if m.first && decide (m.mode = 1) then last else m.c
  let craw := if m.mode = 2 then (if valid then satS 32 (i + kpe) else i) else if m.mode = 1 then keep else 0
  let c := clampI craw lo hi
  ({ m with i := i, c := c, first := false }, craw, c)

/-- A clearing of the integrators by GOFFZ (R185). -/
def Laser.zeroI (l : Laser) : Laser :=
  { l with mp := { l.mp with i := 0 }, blend := l.blend.map (fun b => { b with out := { b.out with i := 0 } }), goff := none }

/-- The clearing takes place when the gate-off edge lies at or before a time in 1/32 ticks. -/
def Laser.clearBy (l : Laser) (t : Nat) : Laser :=
  match l.goff with | some g => if g ≤ t then l.zeroI else l | none => l

/-- The gate's level at a time in 1/32 ticks of S: the noted changes, the holds of R244 and JUMPs (R176, R182). -/
def State.litAt (s : State) (n t : Nat) : Bool :=
  let l := s.ls n
  let lit := match l.lit.find? fun e => decide (e.1 ≤ t) with | some e => e.2 | none => false
  let held := l.holds.any fun h => h.active (t / 32)
  let jump := (s.ch n).segs.any fun g => decide (g.kind = .jump) && decide (32 * g.start ≤ t) && decide (t < 32 * (g.start + g.dur))
  lit && !held && !jump

/-! ### Power map and DAC (R178, R187, R242) -/

/-- Entry k of the active power map (R196). -/
def State.mapEntry (s : State) (n k : Nat) : Int :=
  (bits (s.reg (0x1820000 + 0x400 * n + 4 * (k / 2))).toNat (16 * (k % 2)) 16 : Nat)

/-- Index into the map for a power, and the fraction (R187). -/
def mapIndex (pout : Nat) : Nat × Nat :=
  let x := pout + pout / 32768
  (x / 256, x % 256)

/-- The DAC code for a power (R187). -/
def State.powerMap (s : State) (n pout : Nat) : Nat :=
  let (k, f) := mapIndex pout
  if k = 256 then (s.mapEntry n 256).toNat
  else (s.mapEntry n k + ((s.mapEntry n (k + 1) - s.mapEntry n k) * f + 128) / 256).toNat

/-- The weight of a part at a power instant (R242): before the anchor the take weight is zero. -/
def Fade.weight (f : Fade) (p : Nat) : Nat :=
  let k := p - f.anchor
  let w := if p < f.anchor then 0 else if f.xf = 0 ∨ f.xf ≤ k then 65536 else 65536 * k / f.xf
  if f.take then w else 65536 - w

/-- P_out with the weights of the parts whose decision was normal, from that decision on (R242). -/
def fadePower (fs : List Fade) (p pout : Nat) : Nat := fs.foldl (fun x f => (x * f.weight p + 32768) / 65536) pout

/-- The DAC code that a conversion takes in the channel's state (R178): the given code in RUN, YIELD and HALTED, CODE under manual
drive, else zero; no current while AFE or SEQ is off (R194). -/
def State.dacCode (s : State) (n code : Nat) : Nat :=
  if !s.gateDomains then 0
  else if s.inLayer n then code
  else if s.chState n ≤ 1 ∧ s.flag (R.LSR_CH_MAN n) F.LSR_CH_MAN_EN then s.fld (R.LSR_CH_MAN n) F.LSR_CH_MAN_CODE
  else 0

/-- A conversion. -/
def State.convert (s : State) (n code : Nat) : State := s.setFld (R.LSR_CH_OUT n) F.LSR_CH_OUT_DAC (s.dacCode n code)

/-- A failed instant (R188): the gate falls, the DAC goes to zero, and a running channel takes INTEGRITY. -/
def State.loopFault (s : State) (n d1 : Nat) : State :=
  let s := s.modLs n fun l => { l with streamGate := false }
  (s.setFld (R.LSR_CH_OUT n) F.LSR_CH_OUT_DAC 0).integrityFault n d1

/-! ### The log (R189, R190) -/

/-- Log a power instant where MODE and DEC select it. The first entry after a change of cadence carries GAP. -/
def State.logInstant (s : State) (n p : Nat) (a b : Nat × Bool) (pout : Nat) (c : Int) (lit valid bound : Bool) : State :=
  let mode := s.fld (R.LSR_LOG_CTL n) F.LSR_LOG_CTL_MODE
  let dec := s.fld (R.LSR_LOG_CTL n) F.LSR_LOG_CTL_DEC
  let sel := (decide (mode = 1) || (decide (mode = 2) && lit)) && decide (p / 125 % 2 ^ dec = 0)
  if sel then
    let l := s.ls n
    let flags := lit.toNat + valid.toNat * 2 + bound.toNat * 4 + l.mp.mode * 8 + l.logGap.toNat * 32
    let e : LogEntry := ⟨leBytes (a.1 + a.2.toNat * 16384) 2 ++ leBytes (b.1 + b.2.toNat * 16384) 2 ++ leBytes pout 2 ++
      leBytes (unsigned 16 (satS 16 (roundBits c 8))) 2 ++ leBytes (p % 2 ^ 48) 6 ++ leBytes flags 1 ++ leBytes l.mp.gset 1⟩
    (s.modLs n fun l => { l with logGap := false }).logAdd n e
  else s

/-! ### The power instant -/

/-- What the loop computes at an instant. -/
structure MeltOut where
  pout : Nat
  valid : Bool
  bound : Bool
  deriving DecidableEq, Repr

/-- Direction of the limit that bound an instant: up 1, down -1, none 0 (R183). -/
def boundDir (craw c q pout : Int) : Int :=
  if c < craw ∨ (c = craw ∧ pout < q) then 1 else if craw < c ∨ (c = craw ∧ q < pout) then -1 else 0

/-- The loop at power instant p with corrected samples (R180 to R186, R243). -/
def State.meltInstant (s : State) (n p : Nat) (a b : Nat × Bool) (lit : Bool) : State × MeltOut :=
  let sample := 32 * p - 1200
  let s := s.modLs n fun l => l.clearBy sample
  let l := s.ls n
  let g := s.meltGains n l.mp.gset
  let af := meltFilter l.af g.alpha a.1
  let bf := meltFilter l.bf g.alpha b.1
  let sig := meltSum af bf
  let rho := meltRatio af bf
  let blanked := lit && decide (l.onCount < g.blank)
  let fading := l.fades.any fun f => decide (f.anchor ≤ p) && decide (p < f.anchor + f.xf)
  let valid := lit && !blanked && decide (g.smin ≤ sig) && !a.2 && !b.2 && !fading
  let lo := 256 * s.sfld (R.LSR_CH_ENV n) F.LSR_CH_ENV_LO
  let hi := 256 * s.sfld (R.LSR_CH_ENV n) F.LSR_CH_ENV_HI
  let e := l.mp.err g rho sig
  let env := if l.envDue then some (sgn e) else l.envSign
  let env := if valid && (match env with | some d => decide (sgn e = 0 ∨ sgn e ≠ d) | none => false) then none else env
  let held (e : Int) : Bool := env.isSome || (decide (l.bound ≠ 0) && decide (sgn e = l.bound))
  let (mp, craw, cin) := l.mp.step g e l.c lo hi valid (held e)
  let (blend, c) :=
    match l.blend with
    | none => ((none : Option MeltBlend), cin)
    | some k =>
      let go := s.meltGains n k.out.gset
      let eo := k.out.err go rho sig
      let (out, _, co) := k.out.step go eo l.c lo hi valid (held eo)
      let c := roundDiv (cin * (k.j + 1 : Nat) + co * (k.b - k.j : Nat)) (k.b + 1)
      (if k.b ≤ k.j then none else some { k with out := out, j := k.j + 1 }, c)
  let q := roundBits (satS 32 (256 * (l.pset : Int) + c)) 8
  let pout := (clampI q (s.fld (R.LSR_CH_PLIM n) F.LSR_CH_PLIM_PMIN) (s.fld (R.LSR_CH_PLIM n) F.LSR_CH_PLIM_PMAX)).toNat
  let dir := boundDir craw cin q pout
  let bound := valid && decide (l.mp.mode = 2) && decide (dir ≠ 0)
  let s := s.modLs n fun l =>
    { l with af := af, bf := bf, mp := mp, blend := blend, c := c, envDue := false, envSign := env
             bound := if valid then (if bound then dir else 0) else l.bound, onCount := if lit then l.onCount + 1 else l.onCount }
  let s := s.modLs n fun l => l.clearBy (32 * p + 31)
  let s := s.setFld (R.LSR_CH_OUT n) F.LSR_CH_OUT_POUT pout
  let s := s.setSfld (R.LSR_CH_CORR n) F.LSR_CH_CORR_CORR (satS 16 (roundBits c 8))
  let s := s.setFld (R.LSR_CH_CORR n) F.LSR_CH_CORR_PSET l.pset
  let s := s.setFlag (R.LSR_CH_STAT n) F.LSR_CH_STAT_BOUND bound
  let s := s.setFlag (R.LSR_CH_STAT n) F.LSR_CH_STAT_IHOLD (held e)
  let s := s.setFlag (R.LSR_CH_STAT n) F.LSR_CH_STAT_BLANK blanked
  (s, ⟨pout, valid, bound⟩)

/-- The words of the power map that a power reads: the entries k and k + 1 (R187, R196). -/
def mapRanges (n pout : Nat) : List (Nat × Nat) :=
  let k := (mapIndex pout).1
  [(0x1820000 + 0x400 * n + 4 * (k / 2), if k % 2 = 1 then 8 else 4)]

/-- Words that an instant reads beside the map: both gain sets and the photodiode corrections. -/
def State.loopRanges (s : State) (n : Nat) : List (Nat × Nat) :=
  let l := s.ls n
  let g (k : Nat) : Nat × Nat := (0x1800000 + 0x200 * n + 0x20 * k, 0x1C)
  let out := match l.blend with | some b => [g b.out.gset] | none => []
  (0x1831000 + 0x10 * n, 8) :: g l.mp.gset :: out

/-- The actions due at a power instant take effect in their order, and a ramp advances (R89, R90, R92, R93). -/
def State.powerActs (s : State) (ch : Nat) : State :=
  let p := s.grp.s
  let (due, keep) := if s.acting ch then powerDue p (s.ch ch).acts else ([], (s.ch ch).acts)
  let at_ := s.time.mt - tickU * 75 / 2
  let s := (s.modCh ch fun c => { c with acts := keep }).modLs ch fun l => { l with sampleAt := at_ }
  let s := due.foldl (fun t x => t.powerAct ch p x) s
  s.modLs ch fun l =>
    match l.ramp with
    | some r => { l with pset := r.at_ p, ramp := if r.t1 ≤ p then none else some r }
    | none => l

/-- The samples of a power instant, its loop step, its log entry and its conversion (R179 to R188, R242); an uncorrectable word of the
power map is the integrity fault, and nothing of the instant remains. -/
def State.powerLoop (s : State) (ch rawA rawB : Nat) : State :=
  let p := s.grp.s
  let a := s.pdCorrect ch 0 (rawA % 16384)
  let b := s.pdCorrect ch 1 (rawB % 16384)
  let s := s.pdTake ch a b
  let lit := s.litAt ch (32 * p - 1200)
  let w := fadePower (s.ls ch).fades p (s.meltInstant ch p a b lit).2.pout
  let (ue, s) := s.readWords ch (mapRanges ch w)
  if ue then s.loopFault ch s.lastUe
  else
    let (s, o) := s.meltInstant ch p a b lit
    let s := if o.bound then (s.satAdd (R.LSR_CH_BOUNDS ch) F.LSR_CH_BOUNDS_COUNT 1).meltBound ch else s
    let s := s.logInstant ch p a b o.pout (s.ls ch).c lit o.valid o.bound
    let s := s.modLs ch fun l => { l with fades := l.fades.filter fun f => !(f.take && decide (f.anchor + f.xf ≤ p)) }
    s.convert ch (s.powerMap ch w)

/-- POWER_INSTANT (R62, R89 to R93, R176, R179 to R188, R242): at S ≡ 0 (mod 125) while S advances, with the raw codes of the two
photodiodes. The fixed latencies of R176 are not resolved: the code of p is the DAC's code when the command ends. -/
def execPowerInstant (ch : Nat) (rawA rawB : Nat) (s : State) : Res :=
  onUnit ch s.channels 32 s fun s =>
    if !(s.grp.run && decide (s.grpState = 2) && decide (s.grp.s % 125 = 0) && s.gateDomains) then s
    else if s.chState ch ≤ 1 ∧ s.flag (R.LSR_CH_MAN ch) F.LSR_CH_MAN_EN then s
    else
      let s := s.powerActs ch
      let (bad, s) := s.takeForced 3 ch 0
      let (ue, s) := s.readWords ch (s.loopRanges ch)
      let (lost, s) := s.hiddenUe 6 ch ch
      if bad then (s.detectResidue 3 ch 0).loopFault ch (intgData 1 3 0 0)
      else if ue || lost then s.loopFault ch s.lastUe
      else s.powerLoop ch rawA rawB

/-- The machine time of the first power instant of a start that is decided, or of a hold restart that is computed (R177). -/
def State.firstInstant (s : State) : Option Nat :=
  let k := ticksU ((125 - s.grp.s % 125) % 125)
  if s.grpState = 1 ∧ s.grp.started then some (s.grp.mstart + k)
  else match s.grp.restart with | some t => some (t + k) | none => none

/-- A free sample may be taken now: 125 ticks after the last sample, and no less than 62.5 ticks before the first instant's sample, which
lies 37.5 ticks before that instant (R176, R177). -/
def State.freeSample (s : State) (n : Nat) : Bool :=
  let l := s.ls n
  (decide (l.sampleAt = 0) || decide (l.sampleAt + ticksU 125 ≤ s.time.mt)) &&
    (match s.firstInstant with | some t => decide (s.time.mt + ticksU 100 ≤ t) | none => true)

/-- FREE_CADENCE_SAMPLE (R177 to R179): while the group does not run, in a hold, and on a channel under manual drive (R193), the
inputs are sampled every 125 ticks and the conversion repeats the code of the channel's state. -/
def execFreeCadenceSample (ch : Nat) (rawA rawB : Nat) (s : State) : Res :=
  onUnit ch s.channels 32 s fun s =>
    let man := decide (s.chState ch ≤ 1) && s.flag (R.LSR_CH_MAN ch) F.LSR_CH_MAN_EN
    if (s.grp.run && !man) || !s.up dAFE || !s.freeSample ch then s
    else
      let mt := s.time.mt
      let s := s.modLs ch fun l => { l with sampleAt := mt }
      let (ue, s) := s.readWords ch [(0x1831000 + 0x10 * ch, 8)]
      if ue then s.loopFault ch s.lastUe
      else
        let a := s.pdCorrect ch 0 (rawA % 16384)
        let b := s.pdCorrect ch 1 (rawB % 16384)
        (s.pdTake ch a b).convert ch (s.fld (R.LSR_CH_OUT ch) F.LSR_CH_OUT_DAC)

/-! ### Emission stop latch, manual drive, status inputs -/

/-- EMSTOP_N_FALL (R43, R170, R171, R197): the ball is low until the next clock period. -/
def execEmstopNFall (s : State) : Res :=
  let s := { s with pins := { s.pins with emstopN := false } }
  let s := s.satAdd R.LSR_EMS_CNT F.LSR_EMS_CNT_COUNT 1
  .next ((s.emissionStop 0).stopLayer 6)

/-- A reset is asserted (R171). -/
def State.resetOn (s : State) : Bool :=
  s.boot.porn || s.boot.sysrst || s.boot.warmUntil.isSome || (!s.pci.perstN && s.flag R.BOOT_CTL F.BOOT_CTL_PERST_CORE)

/-- EMISSION_STOP_CLEAR (R168, R171): the host's write of CLEAR = 1 clears the latch and CAUSE while EMSTOP_N is high, no reset is
asserted, the device is not in safe state and EXTEST is not loaded (R480), and arms every manual path whose conditions hold; else it is ignored with REJ. -/
def execEmissionStopClear (src : Source) (s : State) : Res :=
  let ok := decide (src = .host) && s.pins.emstopN && !s.resetOn && !s.boot.extest && decide (s.fld R.BOOT_STAT F.BOOT_STAT_SSC ≠ 2)
  .next
    (if ok then
      let s := s.setFlag R.LSR_EMS F.LSR_EMS_LATCHED false
      let s := s.setFld R.LSR_EMS F.LSR_EMS_CAUSE 0
      s.each s.chs fun n t => t.armManual n
    else s.raise R.LSR_ISR F.LSR_ISR_REJ)

/-- MANUAL_DRIVE_WRITE (R168, R193). -/
def execManualDriveWrite (ch : Nat) (v : Word) (s : State) : Res :=
  onUnitWrite ch s.channels 32 (R.LSR_CH_MAN ch) s fun s =>
    if 1 < s.chState ch ∨ s.latched then s.raise R.LSR_ISR F.LSR_ISR_REJ
    else ((s.setReg (R.LSR_CH_MAN ch) (v &&& 0xFFFF0003)).lapse ch).armManual ch

/-- LFLT_N_QUALIFIED (R172, R173). -/
def execLfltNQualified (ch : Nat) (high : Bool) (s : State) : Res :=
  onUnit ch s.channels 32 s fun s =>
    if s.laserFault ch = !high then s
    else
      let s := s.setFlag (R.LSR_CH_STAT ch) F.LSR_CH_STAT_FLT (!high)
      if high then s.lapse ch
      else if s.inLayer ch then (s.laserCond ch 1 false).runFault ch 0x29
      else
        let cause := if s.flag (R.LSR_CH_MAN ch) F.LSR_CH_MAN_EN then 6 else 1
        (s.laserCond ch cause false).manualEnd ch

/-- LRDY counts as low from now on (R173): a LASER condition while the stream gate, or the manual gate, is on. -/
def State.rdyLow (s : State) (n : Nat) (man : Bool) : State :=
  if s.inLayer n then (if (s.ls n).streamGate then (s.laserCond n 2 true).runFault n 0x29 else s)
  else if man then (s.laserCond n 6 true).manualEnd n
  else s

/-- LRDY_QUALIFIED (R172, R173). -/
def execLrdyQualified (ch : Nat) (high : Bool) (s : State) : Res :=
  onUnit ch s.channels 32 s fun s =>
    if s.flag (R.LSR_CH_STAT ch) F.LSR_CH_STAT_RDY = high then s
    else
      let man := (s.ls ch).manArmed && s.gate ch
      let s := s.setFlag (R.LSR_CH_STAT ch) F.LSR_CH_STAT_RDY high
      if high || s.flag (R.LSR_CH_CFG ch) F.LSR_CH_CFG_RDYIGN then s else s.rdyLow ch man

/-- A write of LSR_CH_CFG: with RDYIGN back at 0 a low LRDY counts again, as if it had fallen then (R172, R173; DEDUCED, log entry
101). -/
def State.storeLsrCfg (s : State) (n : Nat) (v : Word) : State :=
  let was := s.ready n
  let man := (s.ls n).manArmed && s.gate n
  let s := s.setReg (R.LSR_CH_CFG n) (v &&& 0xFF01)
  (if was && !s.ready n then s.rdyLow n man else s).lapse n

/-! ### Host writes and reset -/

/-- LSR_LOG_CTL_WRITE (R191, R197): a MODE of 3, a LOG2 outside 4 to 20 or written while MODE is not 0, and a PANIC of 0 are
ignored, field by field; MODE 0 writes the open line. -/
def execLsrLogCtlWrite (ch : Nat) (v : Word) (s : State) : Res :=
  onUnitWrite ch s.channels 32 (R.LSR_LOG_CTL ch) s fun s =>
    let a := R.LSR_LOG_CTL ch
    let idle := decide (s.fld a F.LSR_LOG_CTL_MODE = 0)
    let m := field F.LSR_LOG_CTL_MODE v
    let lg := field F.LSR_LOG_CTL_LOG2 v
    let pn := field F.LSR_LOG_CTL_PANIC v
    let s := if idle ∧ 4 ≤ lg ∧ lg ≤ 20 then s.setFld a F.LSR_LOG_CTL_LOG2 lg else s
    let s := if pn = 0 then s else s.setFld a F.LSR_LOG_CTL_PANIC pn
    let s := s.setFld a F.LSR_LOG_CTL_DEC (field F.LSR_LOG_CTL_DEC v)
    let s := if m = 3 then s else s.setFld a F.LSR_LOG_CTL_MODE m
    if m = 0 then s.logClose ch else s

/-- Bits of a gain-set word by its offset in the set (R195). -/
def meltMask (off : Nat) : Nat :=
  match off / 4 with
  | 0 => 0xFFFF | 1 => 0xFFFF | 2 => 0xFFFFFF | 3 => 0xFFFF | 4 => 0xFFFF | 5 => 0xFFFF | 6 => 0x1FFF | _ => 0

/-- MELT_POOL_GAIN_SET_WRITE (R195). -/
def execMeltPoolGainSetWrite (addr : Nat) (v : Word) (s : State) : Res :=
  if addr < 0x1800000 ∨ 0x1804000 ≤ addr then onAddr addr s id
  else
    let n := (addr - 0x1800000) / 0x200
    onTable n s.channels 32 addr s fun s =>
      let m := meltMask (addr % 0x20)
      if 1 < s.chState n then s.raise R.LSR_ISR F.LSR_ISR_REJ
      else if m = 0 then s
      else s.tableStore addr m v

/-- The active set that an address lies in: its channel and the bits of its word; none for other addresses (R196). -/
def lsrActive (addr : Nat) : Option (Nat × Nat) :=
  if 0x1820000 ≤ addr ∧ addr < 0x1828000 then
    let off := addr % 0x400
    some ((addr - 0x1820000) / 0x400, if off < 0x200 then 0xFFFFFFFF else if off = 0x200 then 0xFFFF else 0)
  else if 0x1831000 ≤ addr ∧ addr < 0x1831200 then
    some ((addr - 0x1831000) / 0x10, if addr % 0x10 < 8 then 0xFFFFFFFF else 0)
  else if 0x1833000 ≤ addr ∧ addr < 0x1833080 then some ((addr - 0x1833000) / 4, 0xFFFFFFFF)
  else none

/-- LSR_ACTIVE_SET_WRITE (R196). -/
def execLsrActiveSetWrite (addr : Nat) (v : Word) (s : State) : Res :=
  match lsrActive addr with
  | none => onAddr addr s id
  | some (n, m) =>
    onTable n s.channels 32 addr s fun s =>
      if 1 < s.chState n ∨ s.flag (R.LSR_CH_MAN n) F.LSR_CH_MAN_EN then s.raise R.LSR_ISR F.LSR_ISR_REJ
      else if m = 0 then s
      else s.tableStore addr m v

/-- Staged log lines are lost, with the requests that would have written them (R194). -/
def State.logRequestsGone (s : State) : State :=
  let q := s.ddr.queue.filter fun r => decide (r.port ≠ 2)
  { s with ddr := { s.ddr with queue := q } }

/-- Loop state and log staging are lost (R194). -/
def State.loopsLost (s : State) : State := { s.logRequestsGone with lsr := [] }

/-- The LSR block after a reset that reaches it (R194): loop state and log staging zero, qualified levels inactive; the latch, CAUSE
and the tables stay. -/
def State.resetLsr (s : State) (keep : Access → Bool) : State :=
  let ems := s.reg R.LSR_EMS
  ((s.resetRegs 0x180000 0x1C0000 keep).setReg R.LSR_EMS ems).loopsLost

/-- LSR_BLOCK_RESET (R170, R171, R194). -/
def execLsrBlockReset (s : State) : Res := .next ((s.namedReset 0 false).resetLsr keepRws)

end Sys2Proof.Machine
end

