-- ==== Sys2Proof/Machine/Stitch.lean ====
section
/-!
DEFINITION. Handoff and field tables: hand tokens, commitment, decision, crossfade and records, the field table writes, the STI
block reset (07_stitching_and_fields).
-/

namespace Sys2Proof.Machine

/-! ### Time agreement (R247) -/

/-- The active time domain (R220). -/
def State.activeDom (s : State) : Nat := s.fld R.TIM_SEL F.TIM_SEL_ACTIVE

/-- The offset to a port's peer in a domain, in ps, rounded once (R216, R217, R247). -/
def State.portTheta (s : State) (p d : Nat) : Int :=
  let q := s.pt p
  let peer := if d = 0 then q.peerDelta.1 else q.peerDelta.2
  satS 32 (roundDiv (78125 * q.o + 4 * ((psU : Int) * peer - (s.dm d).delta)) (4 * psU))

/-- The last exchange that this device started on a port ended no more than 2,048,000 ns ago. -/
def State.portFresh (s : State) (p : Nat) : Bool :=
  match (s.pt p).endedAt with | some t => decide (s.time.mt ≤ t + nsU 2048000) | none => false

/-- The port conditions of R247 hold now. -/
def State.portAgrees (s : State) (p : Nat) : Bool :=
  let d := s.activeDom
  decide (s.fld (R.TIM_D_STAT d) F.TIM_D_STAT_STATE = 2) && s.active p && s.portFresh p &&
    decide (|s.portTheta p d| ≤ (s.fld R.STI_AGREE_MAX F.STI_AGREE_MAX_MAX : Nat))

/-- A HAND names a partner on another device (R235). -/
def State.remote (s : State) (h : Hand) : Bool := decide (h.pdev ≠ s.devid)

/-- A remote partner without a port of R238. -/
def State.noLink (s : State) (h : Hand) : Bool := s.remote h && decide (s.peerPort h.pdev = none)

/-- The channel's own GRIDA for a HAND's anchor (R237). -/
def State.ownGrid (s : State) (h : Hand) : Nat := (h.anchor + s.grp.p) % 2 ^ 48

/-- The agreement check (R247), with the GRIDA of the token that it rests on, if one is held. A local HAND always passes. -/
def State.agrees (s : State) (h : Hand) (grid : Option Nat) : Bool :=
  if s.remote h then
    match s.peerPort h.pdev with
    | some p => s.portAgrees p && (match grid with | some g => decide (g ≠ 0) && decide (g = s.ownGrid h) | none => true)
    | none => false
  else true

/-- The offset to the partner that a record carries: zero for a local partner (R249). -/
def State.handTheta (s : State) (h : Hand) : Int :=
  if s.remote h then (match s.peerPort h.pdev with | some p => s.portTheta p s.activeDom | none => 0) else 0

/-! ### Hands and records -/

/-- The first hand with a property, replaced by the given effect on the state and itself. -/
def State.withHand (s : State) (n : Nat) (p : Hand → Bool) (f : Hand → State → State) : State :=
  match (s.ch n).hands.find? p with | some h => f h s | none => s

/-- Replace a hand. -/
def State.putHand (s : State) (n : Nat) (old new : Hand) : State :=
  s.modCh n fun c => { c with hands := c.hands.map fun h => if h = old then new else h }

/-- The 0xFF04 record (R245). -/
def State.handRecord (s : State) (n : Nat) (h : Hand) (cause pcause stime : Nat) : State :=
  let d1 := h.hid + h.take.toNat * 2 ^ 16 + h.fb.toNat * 2 ^ 17 + cause * 2 ^ 18 + pcause % 8 * 2 ^ 21 + h.pdev * 2 ^ 24 + h.pch * 2 ^ 40
  let s := s.postAt 0xFF04 n stime d1 h.anchor
  let s := if cause = 6 then s.satAdd (R.STI_CH_FB n) F.STI_CH_FB_NOTICE 1 else s.satAdd (R.STI_CH_FB n) F.STI_CH_FB_OWN 1
  let s := s.setReg (R.STI_CH_LASTFB n) (BitVec.ofNat 32 (h.hid + cause * 2 ^ 16 + h.take.toNat * 2 ^ 19))
  s.raise R.STI_ISR F.STI_ISR_FALLBACK

/-- A part's outcome becomes fallback: FALLBACK to the partner and the record (R241, R245). -/
def State.fallBack (s : State) (n : Nat) (h : Hand) (cause stime : Nat) : State :=
  let pc := if cause = 5 then h.partnerFb.getD 0 else 0
  let s := s.sendToken h.pdev (s.handToken n h 3 cause)
  s.handRecord n h cause pc stime

/-- The 0xFF0B record (R249), with the errors of the first frame at or after the anchor. -/
def State.handLog (s : State) (n : Nat) (h : Hand) : State :=
  let e := h.frameErr.getD V3.zero
  let d1 := errField e.x + errField e.y * 2 ^ 24 + h.hid * 2 ^ 48
  let d2 := unsigned 32 (satS 32 h.theta) + h.take.toNat * 2 ^ 32 + h.frameErr.isNone.toNat * 2 ^ 33 + h.pch * 2 ^ 40 + h.pdev * 2 ^ 48
  s.post 0xFF0B n d1 d2

/-- A valid uplink frame gives the errors of normal parts at or past their anchor; records that waited for it are posted (R249). -/
def State.handFrame (s : State) (n : Nat) (y : V3) : State :=
  match s.tegErrors n y with
  | none => s
  | some e =>
    let now := s.grp.s
    let due := (s.ch n).handLogs
    let s := s.modCh n fun c =>
      { c with hands := c.hands.map fun h => if h.outcome = .normal ∧ h.anchor ≤ now ∧ h.frameErr.isNone then { h with frameErr := some e } else h
               handLogs := [] }
    due.foldl (fun t h => t.handLog n { h with frameErr := some e }) s

/-! ### Tokens (R237 to R239, R241) -/

/-- A token drop (R238). -/
def State.tokenDrop (s : State) (port : Bool) : State :=
  let s := if port then s.satAdd R.STI_TOKDROP F.STI_TOKDROP_PORT 1 else s.satAdd R.STI_TOKDROP F.STI_TOKDROP_NOCH 1
  s.raise R.STI_ISR F.STI_ISR_TOKDROP

/-- A matching token reaches its HAND. A FALLBACK after a normal decision is recorded as NOTICE; after an own fallback it changes
nothing (R241). -/
def State.handToken_ (s : State) (n : Nat) (h : Hand) (t : Token) : State :=
  if !tokenFits h t then s.tokenMismatch n 1
  else if t.kind = 3 then
    match h.outcome with
    | .undecided => s.putHand n h { h with partnerFb := some t.cause }
    | .normal => if s.grp.s ≤ h.anchor + h.xf then s.handRecord n h 6 t.cause s.grp.s else s
    | .fallback _ => s
  else s.putHand n h (h.takes t)

/-- A token that names a channel of this device (R238, R239). -/
def State.takeToken (s : State) (t : Token) : State :=
  let n := t.toCh
  if !(decide (n < s.channels) && bitAt s.grp.pmask n && s.inLayer n && decide (t.layer = s.grp.layer)) then s.tokenDrop false
  else
    match (s.ch n).hands.find? fun h => tokenFor h t with
    | some h => s.handToken_ n h t
    | none =>
      if t.anchor < s.grp.s then s.satAdd (R.STI_CH_TOKERR n) F.STI_CH_TOKERR_STALE 1
      else if 8 ≤ (s.ch n).tokens.length then
        (s.satAdd (R.STI_CH_TOKERR n) F.STI_CH_TOKERR_FULL 1).raise R.STI_ISR F.STI_ISR_TOKDROP
      else s.modCh n fun c => { c with tokens := c.tokens ++ [t] }

/-- HAND_TOKEN_RECEIVED (R238, R239): a HAND packet on a port, or the oldest token on the crossbar. -/
def execHandTokenReceived (origin : Option Nat) (pk : Packet) (s : State) : Res :=
  match origin with
  | none =>
    match s.xbar with
    | t :: ts => .next ({ s with xbar := ts }.takeToken t)
    | [] => .next s
  | some p =>
    onUnit p s.hoopLanes 8 s fun s =>
      if pk.cls = 0x11 then
        s.receive p pk fun s =>
          if s.fld (R.HOOP_PT_STAT p) F.HOOP_PT_STAT_PEER ≠ pk.src then s.tokenDrop true
          else s.takeToken (tokenAt pk.src pk.payload)
      else s

/-- TOKEN_EXPIRY (R239): stored tokens whose anchor has passed are discarded. -/
def execTokenExpiry (ch : Nat) (s : State) : Res :=
  onUnit ch s.channels 32 s fun s =>
    let old := (s.ch ch).tokens.filter fun t => decide (t.anchor < s.grp.s)
    if old = [] then s
    else
      let s := s.modCh ch fun c => { c with tokens := c.tokens.filter fun t => decide (s.grp.s ≤ t.anchor) }
      s.satAdd (R.STI_CH_TOKERR ch) F.STI_CH_TOKERR_STALE old.length

/-! ### The protocol (R240, R241) -/

/-- A give part that may commit now. -/
def State.mayCommit (s : State) (n : Nat) (h : Hand) : Bool :=
  !h.take && !h.committed && decide (h.outcome = .undecided) && decide (s.grp.s + 3751 ≤ h.anchor) && s.handFree n h &&
    h.token.isSome && h.partnerFb.isNone && s.agrees h h.token

/-- COMMIT (R240): until A - 3,751, in RUN and past every yield before A, with READY and the agreement check. -/
def execCommit (ch : Nat) (s : State) : Res :=
  onUnit ch s.channels 32 s fun s =>
    s.withHand ch (s.mayCommit ch) fun h s =>
      (s.putHand ch h { h with committed := true }).sendToken h.pdev (s.handToken ch h 2 0)

/-- Cause of an uncommitted giver's fallback, the first of R240's order. -/
def State.closeCause (s : State) (h : Hand) : Nat :=
  if s.noLink h then 3
  else if h.token.isSome && !s.agrees h h.token then 4
  else if h.partnerFb.isSome then 5
  else 1

/-- COMMITMENT_CLOSE (R240, R241): at A - 3,750 an uncommitted giver's outcome is fixed as fallback. -/
def execCommitmentClose (ch : Nat) (s : State) : Res :=
  onUnit ch s.channels 32 s fun s =>
    if s.acting ch then
      s.withHand ch (fun h => !h.take && !h.committed && decide (h.outcome = .undecided) && decide (h.anchor ≤ s.grp.s + 3750)) fun h s =>
        let c := s.closeCause h
        (s.putHand ch h { h with outcome := .fallback c }).fallBack ch h c (h.anchor - 3750)
    else s

/-- The outcome at A - 2,500: a fixed one stands; a committed giver is normal unless its partner fell back; a taker needs COMMIT, the
agreement check and no FALLBACK (R240, R241). -/
def State.decideHand (s : State) (h : Hand) : HandOutcome :=
  match h.outcome with
  | .fallback c => .fallback c
  | _ =>
    if h.take then
      if s.noLink h then .fallback 3
      else if !s.agrees h h.commitRx then .fallback 4
      else if h.partnerFb.isSome then .fallback 5
      else if h.commitRx.isNone then .fallback 2
      else .normal
    else if h.partnerFb.isSome then .fallback 5
    else if h.committed then .normal
    else .fallback (s.closeCause h)

/-- The gate holds and weights that follow from an outcome (R242, R244). -/
def Laser.applyHand (l : Laser) (h : Hand) (o : HandOutcome) : Laser :=
  match o with
  | .normal =>
    let l := { l with fades := l.fades ++ [⟨h.anchor, h.xf, h.take⟩] }
    if h.take then l else { l with holds := l.holds ++ [.untilOn (h.anchor + h.xf)] }
  | .fallback _ =>
    if h.fb then l
    else if h.take then { l with holds := l.holds ++ [.untilOff h.anchor] }
    else { l with holds := l.holds ++ [.untilOn h.anchor] }
  | .undecided => l

/-! ### Block decision (R96, R107) -/

/-- Feed entries after a decision: the words of the skipped block are no longer read; an entry left without words is freed. -/
def decideFeed (id : Nat) (alt : Bool) (es : List FeedEntry) : List FeedEntry :=
  let es := es.map fun e =>
    { e with reads := e.reads.filterMap fun r =>
        if r.1.any (fun x => decide (x = (id, !alt))) then none
        else some (r.1.filter (fun x => decide (x ≠ (id, alt))), r.2) }
  es.filter fun e => e.head || decide (e.reads ≠ [])

/-- The walker after a decision (R107): inside the skipped block it goes on with the chosen one or past both; waiting for the
decision it goes on with the state of the chosen block. -/
def Chan.decideWalk (c : Chan) (id : Nat) (alt : Bool) : Chan :=
  match c.fork.dropWhile fun f => decide (f.id ≠ id) with
  | [] => c
  | f :: outer =>
    let inner := c.fork.takeWhile fun f => decide (f.id ≠ id)
    let go (c : Chan) : Chan := { c with walkExt := 0, walkEnd := false, walkStopped := false }
    if !f.alt then
      if !alt then { c with fork := inner ++ { f with choice := some false } :: outer }
      else
        let g : WalkFork := { f with alt := true, choice := some true }
        (go ({ c with fork := g :: outer, walk := f.saved, walkPace := f.savedPace }.walkAt f.normalEnd)).walkSettle 64
    else if alt then
      if c.walkStopped && decide (inner = []) && decide (c.walk.loc = ⟨false, f.altEnd⟩) && decide (c.walkPace.cursor = f.goal) then
        (go ({ c with fork := outer }.walkAt f.altEnd)).walkSettle 64
      else { c with fork := inner ++ { f with choice := some true } :: outer }
    else
      match f.afterNormal with
      | some (w, p) =>
        if p.cursor ≠ f.goal then { c with fork := outer, walkStopped := true }
        else (go ({ c with fork := outer, walk := w, walkPace := p }.walkAt f.altEnd)).walkSettle 64
      | none => { c with fork := outer, walkStopped := true }

/-- The decoder takes the chosen block of a HAND with FB = 1 (R96). -/
def State.chooseBlock (s : State) (n : Nat) (h : Hand) (alt : Bool) : State :=
  let c := s.ch n
  let seq := c.seqno
  let id := seq * 2 ^ 17 + h.block.word
  let first := if alt then h.block.word + h.nlen else h.block.word
  let stop := if alt then first + h.alen else first + h.nlen
  let b : HandBlock := ⟨stop, h.block.word + h.nlen + h.alen, h.anchor + h.bdur, c.dec.calls.length⟩
  let last : Loc := ⟨false, h.block.word - 1⟩
  let c := { (c.decideWalk id alt) with feed := decideFeed id alt c.feed, handBlock := b :: c.handBlock }
  let (keep, c) := c.blockJump first c.inLine
  (s.modCh n fun _ => c).settle n last keep (c.handBlock.length + 1)

/-- HAND_DECISION (R96, R240, R241): the readiness decision at A - 2,500. -/
def execHandDecision (ch : Nat) (s : State) : Res :=
  onUnit ch s.channels 32 s fun s =>
    if s.acting ch then
      s.withHand ch (fun h => !h.decided && decide (h.anchor ≤ s.grp.s + 2500)) fun h s =>
        let o := s.decideHand h
        let s := s.putHand ch h { h with outcome := o, decided := true, theta := s.handTheta h }
        let s :=
          match h.outcome, o with
          | .undecided, .fallback c => s.fallBack ch h c (h.anchor - 2500)
          | _, _ => s
        let s := s.modLs ch fun l => l.applyHand h o
        if h.fb then s.chooseBlock ch h (decide (o ≠ .normal)) else s
    else s

/-- HAND_END (R246, R249): at A + XF the HAND is no longer outstanding; a normal part counts, and its record is posted when a frame
has come, else waits for one. -/
def execHandEnd (ch : Nat) (s : State) : Res :=
  onUnit ch s.channels 32 s fun s =>
    if s.acting ch then
      s.withHand ch (fun h => h.decided && decide (h.anchor + h.xf ≤ s.grp.s)) fun h s =>
        let s := s.modCh ch fun c => { c with hands := c.hands.filter fun x => decide (x ≠ h) }
        if h.outcome = .normal then
          let s := s.satAdd (R.STI_CH_HANDS ch) F.STI_CH_HANDS_COUNT 1
          if s.flag R.STI_CTL F.STI_CTL_HLOG then
            (if h.frameErr.isSome then s.handLog ch h else s.modCh ch fun c => { c with handLogs := c.handLogs ++ [h] })
          else s
        else s
    else s

/-- A schedule time has come; once the layer has ended and S stands, by the machine time that it would have had (R20, R249; DEDUCED,
log entry 102). -/
def State.pastS (s : State) (t : Nat) : Bool :=
  decide (t ≤ s.grp.s) || (!s.layerOn && decide (s.tickTime t ≤ s.time.mt))

/-- HAND_RECORD_TIMEOUT (R249): 6,250 ticks after A + XF without a frame the record is posted with NOFRAME. -/
def execHandRecordTimeout (ch : Nat) (s : State) : Res :=
  onUnit ch s.channels 32 s fun s =>
    match (s.ch ch).handLogs.find? fun h => s.pastS (h.anchor + h.xf + 6250) with
    | some h => (s.modCh ch fun c => { c with handLogs := c.handLogs.filter fun x => decide (x ≠ h) }).handLog ch h
    | none => s

/-! ### Field tables and reset (R233, R250) -/

/-- Bits of a word of a field table by its offset (R233). -/
def fieldMaskAt (off : Nat) : Nat := if off < 199692 then 0xFFFFFFFF else if off = 0x31000 then 0xFFFFFF else 0

/-- FIELD_TABLE_WRITE (R233): an active table, written only while its channel is DISABLED or IDLE. -/
def execFieldTableWrite (addr : Nat) (v : Word) (s : State) : Res :=
  if addr < 0x2800000 ∨ 0x3000000 ≤ addr then onAddr addr s id
  else
    let n := (addr - 0x2800000) / 0x40000
    onTable n s.channels 32 addr s fun s =>
      let m := fieldMaskAt ((addr - 0x2800000) % 0x40000)
      if 1 < s.chState n then s.raise R.STI_ISR F.STI_ISR_REJ
      else if m = 0 then s
      else s.tableStore addr m v

/-- The STI block after a reset that reaches it (R250): token stores and outstanding HANDs empty. -/
def State.resetSti (s : State) (keep : Access → Bool) : State :=
  let s := s.resetRegs 0x1C0000 0x200000 keep
  let s := s.each s.chs fun n t => t.modCh n fun c => { c with hands := [], handLogs := [], tokens := [] }
  { s with xbar := [] }

/-- STI_BLOCK_RESET (R250): ignored with REJ while the group is Armed, Running or Holding. -/
def execStiBlockReset (s : State) : Res :=
  .next (if s.layerArmed then s.raise R.STI_ISR F.STI_ISR_REJ else s.resetSti keepRws)

end Sys2Proof.Machine
end

