-- ==== Sys2Proof/Machine/Hoop.lean ====
section
/-!
DEFINITION. The Hoop fabric: lane states as ports use them, ports, packet transmission, credits, broadcasts, events, remote access by
the issuer, bulk transfers, the HOOP block reset (R198 to R212, R225, R330, R335).
-/

namespace Sys2Proof.Machine

/-! ### Lanes (R327, R330) -/

/-- Lane L is present: head lanes 0 to 31, Hoop lanes 32 to 39 (R327). -/
def State.lanePresent (s : State) (l : Nat) : Bool :=
  if l < 32 then decide (l < s.channels) else decide (l < 32 + s.hoopLanes)

/-- State of a lane (R330): 0 DOWN, 1 DETECT, 2 TRAIN, 4 CAPEX, 5 ACTIVE, 6 L1, 7 L2, 8 TEST. -/
def State.laneState (s : State) (l : Nat) : Nat := s.fld (R.LANE_STAT l) F.LANE_STAT_STATE

/-- Enter a lane state now. -/
def State.setLane (s : State) (l st : Nat) : State :=
  let mt := s.time.mt
  (s.setFld (R.LANE_STAT l) F.LANE_STAT_STATE st).modLn l fun q =>
    { q with since := mt, probed := none, cap := 0, caps := 0, ack := false, pm := none, pmGot := (0, 0), waking := false }

/-- The domain that a lane runs in: HEAD or HOOP (R225, R349). -/
def laneDomain (l : Nat) : Nat := if l < 32 then dHEAD else dHOOP

/-- Bring-up starts at DETECT while the lane's domain is up (R330). -/
def State.startLane (s : State) (l : Nat) : State :=
  if s.up (laneDomain l) && decide (s.laneState l = 0) then
    (s.setFlag (R.LANE_STAT l) F.LANE_STAT_CAPERR false).setLane l 1
  else s

/-- A head lane that leaves ACTIVE ends its link: HL_ISR.LINK, requests end, DRV falls (R346, R347, R351). -/
def State.headLost (s : State) (n : Nat) : State :=
  let s := s.modHd n fun h => { h with aux := none, cfgDue := false, cfgDone := false, retryAt := none, rxSeq := none }
  let s := s.setFlag (R.HL_CH_AUX n) F.HL_CH_AUX_BUSY false
  let s := (s.setFlag (R.HL_CH_STAT n) F.HL_CH_STAT_DRV false).setFlag (R.HL_CH_STAT n) F.HL_CH_STAT_AUXDEV false
  s.raise R.HL_ISR F.HL_ISR_LINK

/-- A lane leaves the states in which it carries traffic. -/
def State.laneLeft (s : State) (l : Nat) : State :=
  if l < 32 ∧ s.laneState l = 5 then s.headLost l else s

/-- A lane goes DOWN: electrical idle, lock lost. -/
def State.laneDown (s : State) (l : Nat) : State :=
  let s := s.laneLeft l
  ((s.setFlag (R.LANE_STAT l) F.LANE_STAT_LOCK false).setLane l 0).modLn l fun q => { q with headers := [] }

/-! ### Ports (R199, R206, R208, R335) -/

/-- Lanes of a width code. -/
def widthOf (code : Nat) : Nat := if code = 0 then 1 else if code = 1 then 2 else 4

/-- Lanes that a port took at its enable, as lane indices (R199). -/
def State.portLanes (s : State) (p : Nat) : List Nat := (List.range (s.pt p).lanes).map fun i => 32 + p + i

/-- A port is enabled, or not yet torn down after its disable (R199, R208). -/
def State.portBusy (s : State) (p : Nat) : Bool :=
  s.flag (R.HOOP_PT_CFG p) F.HOOP_PT_CFG_EN || decide (s.fld (R.HOOP_PT_STAT p) F.HOOP_PT_STAT_STATE ≠ 0)

/-- Packets queued at a port. -/
def HoopPort.queued (q : HoopPort) : Nat := q.link.length + q.urgent.length + q.fwd.length + q.loc.length

/-- Drop and count what a port still holds (R208). -/
def State.dropQueue (s : State) (p : Nat) : State :=
  let k := (s.pt p).queued
  let s := s.satAdd (R.HOOP_PT_ERR p) F.HOOP_PT_ERR_DROP k
  s.modPt p fun q => { q with link := [], urgent := [], fwd := [], loc := [], owedShared := 0, owedReserved := 0, t1 := none }

/-- A port leaves Active at once, what it has queued dropped and counted; a draining one is down with its lanes (R208). -/
def State.portLost (s : State) (p : Nat) : State :=
  let st := s.fld (R.HOOP_PT_STAT p) F.HOOP_PT_STAT_STATE
  if st = 2 ∨ st = 3 then
    let s := (((s.dropQueue p).modPt p fun q => { q with aligned := [] }).setFld (R.HOOP_PT_STAT p) F.HOOP_PT_STAT_STATE
      (if st = 3 then 0 else 1)).raise R.HOOP_ISR F.HOOP_ISR_LINK
    if st = 3 then s.each (s.portLanes p) fun l t => t.laneDown l else s
  else s

/-- A port is down, its lanes DOWN (R208). -/
def State.portDown (s : State) (p : Nat) : State :=
  let s := (s.portLost p).setFld (R.HOOP_PT_STAT p) F.HOOP_PT_STAT_STATE 0
  s.each (s.portLanes p) fun l t => t.laneDown l

/-- A rate code's block time as blocks in units of 1/8000 ns: 66 bits at 10.3125, 25.78125 or 28.125 Gb/s (R328). -/
def blockRate (code : Nat) : Nat × Nat := if code = 0 then (1, 51200) else if code = 1 then (1, 20480) else (3, 56320)

/-- Block slots in a stretch of machine time at a rate code. -/
def slotsIn (code t : Nat) : Nat := t * (blockRate code).1 / (blockRate code).2

/-- The lanes of a port are aligned: each has sent its ALIGN block, and their arrivals lie within 64 block slots (R335). -/
def State.portAligned (s : State) (p : Nat) : Bool :=
  let ls := s.portLanes p
  let at_ := (s.pt p).aligned
  let code := s.fld (R.HOOP_PT_CFG p) F.HOOP_PT_CFG_RATE
  (ls.all fun l => at_.any fun e => decide (e.1 = l)) &&
    at_.all fun e => at_.all fun f => decide (slotsIn code (e.2 - f.2) ≤ 64)

/-- A port becomes Active when all its lanes are ACTIVE and aligned, with the credits of an empty receive buffer (R205, R335). -/
def State.portUp (s : State) (p : Nat) : State :=
  let ls := s.portLanes p
  let ok := (ls.all fun l => decide (s.laneState l = 5)) && (decide (ls.length = 1) || s.portAligned p)
  if ok && decide (s.fld (R.HOOP_PT_STAT p) F.HOOP_PT_STAT_STATE = 1) then
    (s.modPt p fun q => { q with shared := 64 * ls.length - 8, reserved := 8, owedShared := 0, owedReserved := 0, localTurn := false }).setFld
      (R.HOOP_PT_STAT p) F.HOOP_PT_STAT_STATE 2
  else s

/-- Ports overlap in lanes. -/
def overlaps (p w q v : Nat) : Bool := decide (p < q + v) && decide (q < p + w)

/-- An enable of R199 is accepted. A port that still drains counts as enabled (DEDUCED, log entry 103). -/
def State.portOk (s : State) (p : Nat) (v : Word) : Bool :=
  let code := field F.HOOP_PT_CFG_WIDTH v
  let w := widthOf code
  decide (code ≠ 3) && decide (p % w = 0) && decide (p + w ≤ s.hoopLanes) &&
    (List.range s.hoopLanes).all fun q =>
      decide (q = p) || !s.portBusy q || !overlaps p w q (s.pt q).lanes

/-- The RW fields of HOOP_PT_CFG as written. -/
def ptCfg (v : Word) : Word := v &&& 0x3F

/-- HOOP_PORT_ENABLE (R199, R208): a write of HOOP_PT_CFG with EN = 1. Every such write meets the checks of R199. On a port already
enabled it stores the fields, the port keeping the lanes it took; a port that still drains is torn down first (log entry 103). -/
def execHoopPortEnable (p : Nat) (v : Word) (s : State) : Res :=
  onUnitWrite p s.hoopLanes 8 (R.HOOP_PT_CFG p) s fun s =>
    let v := v ||| 1
    if !s.portOk p v then s.raise R.HOOP_ISR F.HOOP_ISR_REJ
    else if s.flag (R.HOOP_PT_CFG p) F.HOOP_PT_CFG_EN then s.setReg (R.HOOP_PT_CFG p) (ptCfg v)
    else
      let s := s.portLost p
      let s := s.setReg (R.HOOP_PT_CFG p) (ptCfg v)
      let s := s.setReg (R.HOOP_PT_STAT p) 1
      let w := widthOf (field F.HOOP_PT_CFG_WIDTH v)
      let s := s.modPt p fun q => { HoopPort.reset with xid := q.xid, lastStart := q.lastStart, lanes := w }
      s.each (s.portLanes p) fun l t => t.startLane l

/-- HOOP_PORT_DISABLE (R208): a write with EN = 0, its other fields stored. An Active port drains; one that is not goes down. -/
def execHoopPortDisable (p : Nat) (v : Word) (s : State) : Res :=
  onUnitWrite p s.hoopLanes 8 (R.HOOP_PT_CFG p) s fun s =>
    let st := s.fld (R.HOOP_PT_STAT p) F.HOOP_PT_STAT_STATE
    let v := v &&& 0xFFFFFFFE
    if !s.flag (R.HOOP_PT_CFG p) F.HOOP_PT_CFG_EN then s.setReg (R.HOOP_PT_CFG p) (ptCfg v)
    else if st = 2 then
      let mt := s.time.mt
      let s := (s.setReg (R.HOOP_PT_CFG p) (ptCfg v)).modPt p fun q => { q with drainAt := mt }
      s.setFld (R.HOOP_PT_STAT p) F.HOOP_PT_STAT_STATE 3
    else (s.portDown p).setReg (R.HOOP_PT_CFG p) (ptCfg v)

/-- HOOP_PORT_TEARDOWN (R208): when the drain is done, or 12,500 ticks after it began. -/
def execHoopPortTeardown (p : Nat) (s : State) : Res :=
  onUnit p s.hoopLanes 8 s fun s =>
    let q := s.pt p
    if s.fld (R.HOOP_PT_STAT p) F.HOOP_PT_STAT_STATE = 3 ∧ (q.queued = 0 ∨ q.drainAt + ticksU 12500 ≤ s.time.mt) then s.portDown p
    else s

/-- HOOP_ID_WRITE (R198): only while every port is disabled. -/
def execHoopIdWrite (v : Word) (s : State) : Res :=
  .next
    (if (List.range s.hoopLanes).any s.portBusy
     then s.raise R.HOOP_ISR F.HOOP_ISR_REJ
     else s.setFld R.HOOP_ID F.HOOP_ID_DEVID (field F.HOOP_ID_DEVID v))

/-! ### Transmission and credits (R205, R206) -/

/-- Credits cover a packet: an urgent one draws reserved credits first, a normal one shared credits only (R205). -/
def HoopPort.pays (q : HoopPort) (k : Packet) : Option HoopPort :=
  let c := packetCredits k
  if k.cls < 0x10 then some q
  else if k.cls < 0x20 then
    let r := min c q.reserved
    if c - r ≤ q.shared then some { q with reserved := q.reserved - r, shared := q.shared - (c - r) } else none
  else if c ≤ q.shared then some { q with shared := q.shared - c }
  else none

/-- Send the front of the forwarding or the local queue (R206). -/
def HoopPort.sendNormal (q : HoopPort) (local_ : Bool) : Option (Packet × HoopPort) :=
  match (if local_ then q.loc else q.fwd) with
  | [] => none
  | k :: ks =>
    match q.pays k with
    | some q => some (k, if local_ then { q with loc := ks, localTurn := false } else { q with fwd := ks, localTurn := true })
    | none => none

/-- The next packet of a port (R206). -/
def HoopPort.pick (q : HoopPort) : Option (Packet × HoopPort) :=
  match q.link with
  | k :: ks => some (k, { q with link := ks })
  | [] =>
    let urgent := match q.urgent with
      | k :: ks => (match q.pays k with | some q => some (k, { q with urgent := ks }) | none => none)
      | [] => none
    match urgent with
    | some r => some r
    | none =>
      match q.sendNormal q.localTurn with
      | some r => some r
      | none => q.sendNormal (!q.localTurn)

/-- A stamp in 2^-16 ns from its parts. -/
def stampFine (t : Stamp) : Int := (((t.sec * 1000000000 + t.ns) * 65536 + t.frac : Nat) : Int)

/-- The parts of a stamp in 2^-16 ns. -/
def fineStamp (x : Int) : Stamp :=
  let n := x.toNat
  let ns := n / 65536
  ⟨ns / 1000000000, ns % 1000000000, n % 65536⟩

/-- A Hoop timestamp in 2^-16 ns (R17, R214, R406): the machine time of the tick some ticks ago and of the PHY's phase within it, in
1/8000 ns, rounded, less the active latency of the packet's direction, transmit or receive (DEDUCED, log entry 104). -/
def State.hoopStamp (s : State) (p ago phase : Nat) (transmit : Bool) : Int :=
  roundDiv (((s.time.mt - ticksU ago + phase) * 65536 : Nat) : Int) 8000 -
    (s.reg (0x1C10100 + 8 * p + if transmit then 0 else 4)).toNat

/-- A TIME packet is stamped as it leaves: t1 of a request is kept, t3 goes into a response (R214, R215). The crossing's phase within
the tick is a free value. -/
def State.stampOut (s : State) (p : Nat) (k : Packet) : Packet × State :=
  if k.cls = 0x01 then
    let (n, s) := s.draw
    let t := s.hoopStamp p 0 (Config.wirePhase n % tickU) true
    if leAt k.payload 0 1 = 1 then (k, s.modPt p fun q => { q with t1 := some t })
    else ({ k with payload := k.payload.take 24 ++ stampBytes (fineStamp t) ++ k.payload.drop 40 }, s)
  else (k, s)

/-- The time of a bulk transfer's last packet moves with each data packet that leaves (R212). -/
def State.bulkSent (s : State) (k : Packet) : State :=
  let fl := leAt k.payload 7 1
  let mt := s.time.mt
  if k.cls = 0x30 ∧ k.src = s.devid ∧ !bitAt fl 3 then s.modBk (fl % 4) fun b => { b with lastAt := mt } else s

/-- The exit sequence starts (R336). -/
def State.wakeLane (s : State) (l : Nat) : State :=
  let now := s.time.mt
  if s.laneState l = 6 ∨ s.laneState l = 7 then s.modLn l fun q => { q with waking := true, since := now } else s

/-- This side wakes a lane: out of L1 it sends 8 IDLE blocks (R336). -/
def State.wakeSend (s : State) (l : Nat) : State :=
  let s := if s.laneState l = 6 ∧ !(s.ln l).waking then s.emit (.blocks l s.time.mt (List.replicate 8 idleBlock)) else s
  if (s.ln l).waking then s else s.wakeLane l

/-- A packet as each lane of its port carries it (R335). -/
def State.onLanes (s : State) (p : Nat) (k : Packet) : List (Nat × List Block) :=
  let ls := s.portLanes p
  ls.map fun l => (l, stripe ls.length (packetBlocks k) (l - 32 - p))

/-- PACKET_TRANSMIT (R205, R206, R208, R214, R335, R337): the next packet that credits allow; a queued packet wakes a port in L1. -/
def execPacketTransmit (p : Nat) (s : State) : Res :=
  onUnit p s.hoopLanes 8 s fun s =>
    let st := s.fld (R.HOOP_PT_STAT p) F.HOOP_PT_STAT_STATE
    if st ≠ 2 ∧ st ≠ 3 then s
    else if (s.portLanes p).any fun l => decide (s.laneState l = 6) then
      (if (s.pt p).queued = 0 then s else s.each (s.portLanes p) fun l t => t.wakeSend l)
    else
      match (s.pt p).pick with
      | some (k, q) =>
        let (k, s) := (s.modPt p fun _ => q).stampOut p k
        (s.bulkSent k).emit (.packet p k (s.onLanes p k))
      | none => s

/-- CREDIT_RECEIVED (R205). -/
def execCreditReceived (p : Nat) (pk : Packet) (s : State) : Res :=
  onUnit p s.hoopLanes 8 s fun s =>
    if pk.cls = 0x02 ∧ s.carries p then
      s.modPt p fun q => { q with shared := q.shared + leAt pk.payload 0 2, reserved := q.reserved + leAt pk.payload 2 1 }
    else s

/-- CREDIT_SEND (R205): the owed credits go out in one CREDIT packet. -/
def execCreditSend (p : Nat) (s : State) : Res :=
  onUnit p s.hoopLanes 8 s fun s =>
    let q := s.pt p
    if s.carries p && decide (0 < q.owedShared + q.owedReserved) then
      let (n, s) := s.nextSeq 0x02
      let k : Packet := ⟨0x02, false, s.fld R.HOOP_CTL F.HOOP_CTL_HOPS, s.fld (R.HOOP_PT_STAT p) F.HOOP_PT_STAT_PEER, s.devid, n, 0,
        leBytes q.owedShared 2 ++ leBytes q.owedReserved 1 ++ [0]⟩
      (s.modPt p fun q => { q with owedShared := 0, owedReserved := 0 }).enqueue p false k
    else s

/-- The classes of R201. -/
def knownClass (c : Nat) : Bool := [0x01, 0x02, 0x10, 0x11, 0x12, 0x20, 0x21, 0x30].contains c

/-- Control blocks of an unknown type are counted on a lane (R329). -/
def State.countStray (s : State) (l : Nat) (bs : List Block) : State :=
  let n := (bs.filter strayBlock).length
  if n = 0 then s else s.satAdd (R.LANE_ERR l) F.LANE_ERR_SYNC n

/-- The packet that a dropped one's blocks show, for the credits that it held: its class and its length. -/
def badPacket (bs : List Block) : Packet :=
  let b := blockBytes bs
  ⟨leAt b 0 1, false, 0, 0, 0, 0, 0, zeros (b.length - 20)⟩

/-- BAD_PACKET_RECEIVED (R201, R329, R335), as the blocks of a packet in packet order: it is dropped and counted where another block
stands among them, its CRC fails, its class is unknown, or its receive buffer has an uncorrectable word (R393). Block i came on the port's lane i mod w. -/
def execBadPacketReceived (p : Nat) (first : Block) (rest : List Block) (s : State) : Res :=
  onUnit p s.hoopLanes 8 s fun s =>
    let blocks := first :: rest
    let bad := match packetOfBlocks blocks with | some k => !knownClass k.cls | none => true
    let (lost, s) := if s.carries p then s.hiddenUe 9 (16 + p) 0xFF else (false, s)
    if s.carries p && (bad || lost) then
      let ls := s.portLanes p
      let s := s.each ls fun l t => t.countStray l (stripe ls.length blocks (l - 32 - p))
      (s.satAdd (R.HOOP_PT_ERR p) F.HOOP_PT_ERR_CRC 1).owe p (badPacket blocks)
    else s

/-- BROADCAST_REPEAT (R204): the second copies that are due, oldest first. -/
def execBroadcastRepeat (s : State) : Res :=
  let due := s.hoop.repeats.filter fun r => decide (r.2 ≤ s.time.mt)
  let left := s.hoop.repeats.filter fun r => decide (s.time.mt < r.2)
  let s := { s with hoop := { s.hoop with repeats := left } }
  .next (due.foldl (fun t r => t.flood none r.1) s)

/-- DUPLICATE_ENTRY_EXPIRY (R203): entries stored 12,500,000 ticks ago are gone. -/
def execDuplicateEntryExpiry (s : State) : Res :=
  let ds := s.hoop.dups.filter fun d => decide (s.time.mt < d.at_ + ticksU 12500000)
  .next { s with hoop := { s.hoop with dups := ds } }

/-! ### Events (R209, R219) -/

/-- An event is consumed: a fabric event sets its flag; a holdover notice is recorded (R209, R219). -/
def State.takeEvent (s : State) (e src : Nat) : State :=
  if e < 0xF000 then s.setEvent e
  else if e = 0xF0A0 ∨ e = 0xF0A1 then (s.post 0xFF0A 0xFF (src + (e - 0xF0A0) * 65536) 0).raise R.TIM_ISR F.TIM_ISR_NOTICE
  else s

/-- EVENT_RECEIVED (R203, R209). -/
def execEventReceived (p : Nat) (pk : Packet) (s : State) : Res :=
  onUnit p s.hoopLanes 8 s fun s =>
    if pk.cls = 0x10 then s.receive p pk fun s => s.takeEvent (leAt pk.payload 0 2) pk.src else s

/-! ### Remote access, the issuer's side (R211) -/

/-- The end of a remote access at its issuer. -/
def State.rraEnd (s : State) (code : Nat) : State :=
  let s := { s with hoop := { s.hoop with rra := none } }
  let s := (s.setFlag R.HOOP_RRA_CMD F.HOOP_RRA_CMD_BUSY false).setFld R.HOOP_RRA_CMD F.HOOP_RRA_CMD_CODE code
  s.raise R.HOOP_ISR F.HOOP_ISR_RRA

/-- REMOTE_ACCESS_GO (R211): the write of HOOP_RRA_CMD. -/
def execRemoteAccessGo (v : Word) (s : State) : Res :=
  let go := decide (field F.HOOP_RRA_CMD_GO v = 1)
  .next
    (if go && s.flag R.HOOP_RRA_CMD F.HOOP_RRA_CMD_BUSY then s.raise R.HOOP_ISR F.HOOP_ISR_REJ
     else
      let dst := field F.HOOP_RRA_CMD_DEVID v
      let wr := decide (field F.HOOP_RRA_CMD_WRITE v = 1)
      let s := (s.setFld R.HOOP_RRA_CMD F.HOOP_RRA_CMD_DEVID dst).setFlag R.HOOP_RRA_CMD F.HOOP_RRA_CMD_WRITE wr
      if !go then s
      else
        let tag := (s.hoop.tag + 1) % 65536
        let s := { s with hoop := { s.hoop with tag := tag } }
        let a := s.fld R.HOOP_RRA_ADDR F.HOOP_RRA_ADDR_OFFSET + if wr then 2 ^ 31 else 0
        let d := if wr then (s.reg R.HOOP_RRA_DATA).toNat else 0
        let (sent, s) := s.unicast 0x20 dst tag (leBytes a 4 ++ leBytes d 4)
        if sent then
          let mt := s.time.mt
          let s := { s with hoop := { s.hoop with rra := some (tag, dst, wr, mt) } }
          s.setFlag R.HOOP_RRA_CMD F.HOOP_RRA_CMD_BUSY true
        else s.rraEnd 3)

/-- RRSP_RECEIVED (R211): the response with the outstanding request's tag and source. -/
def execRrspReceived (p : Nat) (pk : Packet) (s : State) : Res :=
  onUnit p s.hoopLanes 8 s fun s =>
    if pk.cls = 0x21 then
      s.receive p pk fun s =>
        match s.hoop.rra with
        | some (tag, dst, wr, _) =>
          if tag = pk.tag ∧ dst = pk.src then
            let code := leAt pk.payload 0 4 % 8
            let s := if !wr && decide (code = 0) then s.setReg R.HOOP_RRA_DATA (BitVec.ofNat 32 (leAt pk.payload 4 4)) else s
            s.rraEnd code
          else s
        | none => s
    else s

/-- REMOTE_ACCESS_TIMEOUT (R211). -/
def execRemoteAccessTimeout (s : State) : Res :=
  .next
    (match s.hoop.rra with
     | some (_, _, _, t) => if t + ticksU 125000 ≤ s.time.mt then s.rraEnd 2 else s
     | none => s)

/-! ### Bulk data (R212, R385) -/

/-- The prefix of a BULK payload. -/
def bulkPrefix (line index flags : Nat) : List Byte := leBytes line 4 ++ leBytes index 3 ++ leBytes flags 1

/-- The end of a bulk transfer at its issuer. -/
def State.bulkEnd (s : State) (c code : Nat) : State :=
  let s := s.modBk c fun _ => ⟨false, 0⟩
  let s := (s.setFlag (R.HOOP_BK_CTL c) F.HOOP_BK_CTL_BUSY false).setFld (R.HOOP_BK_CTL c) F.HOOP_BK_CTL_CODE code
  s.raise R.HOOP_ISR F.HOOP_ISR_BULK

/-- The packets of a transfer from index i on, four lines each; a packet with an unreadable line is not sent; one that cannot leave
ends the transfer with NOROUTE. -/
def State.bulkSend (s : State) (c loc rem dst : Nat) : Nat → Nat → Nat → State
  | _, _, 0 => s
  | i, left, fuel + 1 =>
    let m := min 4 left
    let off := (loc + 4 * i) * 64
    let flags := c + if left ≤ 4 then 4 else 0
    if !s.dramOk off (64 * m) || s.rangePoisoned off (64 * m) then s.bulkSend c loc rem dst (i + 1) (left - m) fuel
    else
      let (sent, t) := s.unicast 0x30 dst 0 (bulkPrefix (rem + 4 * i) i flags ++ s.readDram off (64 * m))
      if sent then t.bulkSend c loc rem dst (i + 1) (left - m) fuel else t.bulkEnd c 4

/-- BULK_GO (R212). -/
def execBulkGo (c : Nat) (s : State) : Res :=
  onUnit c 4 4 s fun s =>
    if s.flag (R.HOOP_BK_CTL c) F.HOOP_BK_CTL_BUSY then s.raise R.HOOP_ISR F.HOOP_ISR_REJ
    else
      let n := s.fld (R.HOOP_BK_LEN c) F.HOOP_BK_LEN_LINES
      if n = 0 then s.bulkEnd c 0
      else
        let mt := s.time.mt
        let s := (s.setFlag (R.HOOP_BK_CTL c) F.HOOP_BK_CTL_BUSY true).modBk c fun _ => ⟨true, mt⟩
        s.bulkSend c (s.reg (R.HOOP_BK_LOC c)).toNat (s.reg (R.HOOP_BK_REM c)).toNat
          (s.fld (R.HOOP_BK_LEN c) F.HOOP_BK_LEN_DEVID) 0 n (ceilDiv n 4)

/-- Packet index after which a transfer is answered: the rest of it is ignored. -/
def bulkDead : Nat := 2 ^ 24

/-- The next packet expected from a source's channel. -/
def State.bulkNext (s : State) (src c : Nat) : Nat :=
  match s.hoop.bulkRx.find? fun b => decide (b.src = src ∧ b.ch = c) with | some b => b.next | none => 0

/-- Expect another packet of a transfer. -/
def State.bulkExpect (s : State) (src c next : Nat) : State :=
  let rest := s.hoop.bulkRx.filter fun b => !decide (b.src = src ∧ b.ch = c)
  { s with hoop := { s.hoop with bulkRx := ⟨src, c, next⟩ :: rest } }

/-- Answer a transfer. -/
def State.bulkAck (s : State) (dst line index c code : Nat) : State :=
  (s.unicast 0x30 dst 0 (bulkPrefix line index (c + 8 + code * 16))).2

/-- A data packet of a bulk transfer at its target. -/
def State.bulkTake (s : State) (pk : Packet) : State :=
  let line := leAt pk.payload 0 4
  let i := leAt pk.payload 4 3
  let fl := leAt pk.payload 7 1
  let c := fl % 4
  let m := (pk.payload.length - 8) / 64
  let want := if i = 0 then 0 else s.bulkNext pk.src c
  let base := (s.reg R.HOOP_BULK_WIN_BASE).toNat
  let size := (s.reg R.HOOP_BULK_WIN_SIZE).toNat
  if want = bulkDead then s
  else if i ≠ want then (s.bulkExpect pk.src c bulkDead).bulkAck pk.src line i c 2
  else if line < base ∨ base + size < line + m ∨ size = 0 then (s.bulkExpect pk.src c bulkDead).bulkAck pk.src line i c 1
  else
    let bs := (pk.payload.drop 8).take (64 * m)
    let seen := s.dramOk (line * 64) (64 * m)
    let s := (s.writeDram (line * 64) bs).bulkExpect pk.src c (if bitAt fl 2 then bulkDead else i + 1)
    if bitAt fl 2 && seen then s.bulkAck pk.src line i c 0 else s

/-- BULK_RECEIVED (R212). -/
def execBulkReceived (p : Nat) (pk : Packet) (s : State) : Res :=
  onUnit p s.hoopLanes 8 s fun s =>
    if pk.cls = 0x30 ∧ !bitAt (leAt pk.payload 7 1) 3 then s.receive p pk fun s => s.bulkTake pk else s

/-- BULK_ACK_RECEIVED (R212): the first ACK of the transfer's target. -/
def execBulkAckReceived (p : Nat) (pk : Packet) (s : State) : Res :=
  onUnit p s.hoopLanes 8 s fun s =>
    let fl := leAt pk.payload 7 1
    if pk.cls = 0x30 ∧ bitAt fl 3 then
      s.receive p pk fun s =>
        let c := fl % 4
        if (s.bk c).active && decide (s.fld (R.HOOP_BK_LEN c) F.HOOP_BK_LEN_DEVID = pk.src) then s.bulkEnd c (fl / 16 % 4) else s
    else s

/-- A data packet of the transfer still waits in a port's queue (R212). -/
def State.bulkQueued (s : State) (c : Nat) : Bool :=
  (List.range s.hoopLanes).any fun p => (s.pt p).loc.any fun k =>
    decide (k.cls = 0x30) && decide (k.src = s.devid) && !bitAt (leAt k.payload 7 1) 3 && decide (leAt k.payload 7 1 % 4 = c)

/-- BULK_TIMEOUT (R212): 1,250,000 ticks after the last packet has left. -/
def execBulkTimeout (c : Nat) (s : State) : Res :=
  onUnit c 4 4 s fun s =>
    if (s.bk c).active && !s.bulkQueued c && decide ((s.bk c).lastAt + ticksU 1250000 ≤ s.time.mt) then s.bulkEnd c 3 else s

/-! ### Reset (R225) -/

/-- Every port down, queued packets lost, every Hoop lane DOWN (R225). -/
def State.portsDown (s : State) : State :=
  let s := s.each (List.range s.hoopLanes) fun p t =>
    (t.modPt p fun _ => HoopPort.reset).setReg (R.HOOP_PT_STAT p) 0
  s.each ((List.range s.hoopLanes).map (· + 32)) fun l t => t.laneDown l

/-- What the Hoop unit keeps over a reset: the SEQ counters (R200, R225). -/
def Hoop.cleared (h : Hoop) : Hoop := { h with dups := [], repeats := [], rra := none, bulkRx := [] }

/-- Time registers that report what the reset keeps: servo states and active domain, calendar flags (R220, R222, R225). -/
def timeKept : List Nat :=
  [R.TIM_SEL, R.TIM_D_STAT 0, R.TIM_D_STAT 1, R.TIM_D_THETA 0, R.TIM_D_THETA 1, R.TIM_D_RATE 0, R.TIM_D_RATE 1, R.TIM_CAL_CMD]

/-- Registers put back to earlier values. -/
def State.restore (s old : State) (l : List Nat) : State := l.foldl (fun t a => t.setReg a (old.reg a)) s

/-- The HOOP and TIM blocks after a reset that reaches them (R225). -/
def State.resetHoop (s : State) (keep : Access → Bool) : State :=
  let old := s
  let s := (s.portsDown.resetRegs 0x200000 0x220000 keep).restore old timeKept
  let s := { s with hoop := s.hoop.cleared, bulk := [], port := [], time := { s.time with ppsOut := false } }
  s.holdDomains

/-- HOOP_BLOCK_RESET (R225). -/
def execHoopBlockReset (s : State) : Res := .next (s.resetHoop keepRws)

end Sys2Proof.Machine
end

