-- ==== Sys2Proof/Machine/Time.lean ====
section
/-!
DEFINITION. Machine time and its domains, the time exchange, calendar time and the pulse per second (R213 to R224).
Calendar time changes stamps only (R22).
-/

namespace Sys2Proof.Machine

/-! ### Stamps of the exchange (R214, R215) -/

/-- Δ_d as s32 ps, saturating (R215, R227). -/
def State.deltaPs (s : State) (d : Nat) : Int := satS 32 (roundDiv (s.dm d).delta psU)

/-- A domain is valid at this device (R215). -/
def State.domainValid (s : State) (d : Nat) : Bool :=
  let src := s.fld (R.TIM_D_CFG d) F.TIM_D_CFG_SRC
  decide (s.fld (R.TIM_D_STAT d) F.TIM_D_STAT_STATE = 2) || decide (src = 2) || decide (src = 3)

/-! ### Steps and samples (R213, R218, R219) -/

/-- Machine time moves by a step in 1/8000 ns. FCLK shifts with it, so the present edge is the next whole multiple of 0.8 ns
(R17, R19, R213). -/
def State.stepTime (s : State) (u : Int) : State :=
  let t := ((s.time.mt : Int) + u).toNat
  { s with time := { s.time with mt := tickU * ceilDiv t tickU } }

/-- Enter a domain state; entering or leaving LOCKED sets LOCK (R219, R227). -/
def State.setDomain (s : State) (d st : Nat) : State :=
  let old := s.fld (R.TIM_D_STAT d) F.TIM_D_STAT_STATE
  let s := s.setFld (R.TIM_D_STAT d) F.TIM_D_STAT_STATE st
  if old ≠ st ∧ (old = 2 ∨ st = 2) then s.raise R.TIM_ISR F.TIM_ISR_LOCK else s

/-- The state after a sample (R219): LOCKING after HOLDOVER or a large offset, LOCKED after 16 samples within the threshold. -/
def State.lockSample (s : State) (d : Nat) (theta : Int) : State :=
  let lock : Int := s.fld (R.TIM_D_THR d) F.TIM_D_THR_LOCK
  let good := if |theta| ≤ lock then (s.dm d).good + 1 else 0
  let st := s.fld (R.TIM_D_STAT d) F.TIM_D_STAT_STATE
  let s := s.modDm d fun q => { q with good := min good 16 }
  if 16 ≤ good then s.setDomain d 2
  else if st = 3 ∨ (st = 2 ∧ 4 * lock < |theta|) then s.setDomain d 1
  else s

/-- A sample of a domain in ps (R218, R219): a step where the step rule applies, else the servo. -/
def State.sample (s : State) (d : Nat) (theta : Int) : State :=
  let theta := satS 32 theta
  let mt := s.time.mt
  let s := s.setSfld (R.TIM_D_THETA d) F.TIM_D_THETA_THETA theta
  let s := s.modDm d fun q => { q with lastSample := mt, noticeSent := false }
  let large := s.flag (R.TIM_D_CFG d) F.TIM_D_CFG_STEPEN && decide ((1000 * s.fld (R.TIM_D_THR d) F.TIM_D_THR_STEP : Nat) < |theta|)
  if large && !s.layerArmed then
    let s := if s.activeDom = d then s.stepTime (8 * theta)
      else s.modDm d fun q => { q with delta := q.delta + (psU : Int) * theta }
    ((s.modDm d fun q => { q with good := 0 }).setDomain d 1).raise R.TIM_ISR F.TIM_ISR_STEP
  else
    let s := if large then s.raise R.TIM_ISR F.TIM_ISR_CLAMP else s
    let lim : Int := (s.reg (R.TIM_D_ILIM d)).toNat
    let ki : Int := s.fld (R.TIM_D_GAIN d) F.TIM_D_GAIN_KI
    let kp : Int := s.fld (R.TIM_D_GAIN d) F.TIM_D_GAIN_KP
    let i := clampI ((s.dm d).i + roundBits (ki * theta) 4) (-lim) lim
    let y := clampI (roundBits (kp * theta) 4 + i) (-lim) lim
    let s := (s.modDm d fun q => { q with i := i, y := y }).setSfld (R.TIM_D_RATE d) F.TIM_D_RATE_Y y
    s.lockSample d theta

/-! ### The exchange (R215, R216) -/

/-- Machine time in one exchange interval. -/
def exchangeU : Nat := nsU 1024000

/-- A link packet to the peer of a port. -/
def State.linkPacket (s : State) (p cls : Nat) (payload : List Byte) : State :=
  let (n, s) := s.nextSeq cls
  s.enqueue p false ⟨cls, false, s.fld R.HOOP_CTL F.HOOP_CTL_HOPS, s.fld (R.HOOP_PT_STAT p) F.HOOP_PT_STAT_PEER, s.devid, n, 0, payload⟩

/-- TIME_EXCHANGE_START (R215): one in every 1,024,000 ns interval on an Active port, with an XID of which the spec says no more
(DESIGN CHOICE, log entry 126); t1 is taken as the request leaves. -/
def execTimeExchangeStart (p xid : Nat) (s : State) : Res :=
  onUnit p s.hoopLanes 8 s fun s =>
    let mt := s.time.mt
    let fresh := match (s.pt p).lastStart with | some t => decide (t / exchangeU < mt / exchangeU) | none => true
    if s.active p && fresh then
      let x := xid % 65536
      let s := s.modPt p fun q => { q with xid := x, t1 := none, lastStart := some mt }
      s.linkPacket p 0x01 ([1, 0] ++ leBytes x 2)
    else s

/-- TIME_REQUEST_RECEIVED (R214, R215): the response, with the arrival stamp t2, from the tick in which the packet's byte 0 has crossed
the ball, some ticks ago, and the crossing's phase in it; t3 is put in as the response leaves. -/
def execTimeRequestReceived (p : Nat) (pk : Packet) (ago phase : Nat) (s : State) : Res :=
  onUnit p s.hoopLanes 8 s fun s =>
    if pk.cls = 0x01 ∧ leAt pk.payload 0 1 = 1 ∧ s.active p then
      let valid := (s.domainValid 0).toNat + 2 * (s.domainValid 1).toNat
      s.linkPacket p 0x01 ([2] ++ leBytes valid 1 ++ leBytes (leAt pk.payload 2 2) 2 ++ zeros 4 ++ stampBytes (fineStamp (s.hoopStamp p ago phase false)) ++
        zeros 16 ++ leBytes (unsigned 32 (s.deltaPs 0)) 4 ++ leBytes (unsigned 32 (s.deltaPs 1)) 4)
    else s

/-- The parts of an exchange: mean delay in ps, and the peer's offset in 1/16,384 ps (R216). -/
def exchange (t1 t2 t3 t4 asym : Int) : Int × Int :=
  (roundDiv (((t4 - t1) - (t3 - t2)) * 1000) 131072, ((t2 - t1) - (t4 - t3)) * 125 - 16384 * asym)

/-- TIME_RESPONSE_RECEIVED (R214, R216, R217): t4 is the arrival stamp, from the tick of the crossing, some ticks ago, and the phase in
it; each domain that follows the port takes its sample while the peer reports it valid. -/
def execTimeResponseReceived (p : Nat) (pk : Packet) (x : Crossing) (s : State) : Res :=
  onUnit p s.hoopLanes 8 s fun s =>
    match (s.pt p).t1, (s.pt p).lastStart with
    | some t1, some st =>
      if pk.cls = 0x01 ∧ leAt pk.payload 0 1 = 2 ∧ leAt pk.payload 2 2 = (s.pt p).xid ∧ s.active p ∧ s.time.mt ≤ st + ticksU 2500 then
        let t2 := stampFine (stampAt pk.payload 8)
        let t3 := stampFine (stampAt pk.payload 24)
        let (d, o) := exchange t1 t2 t3 (s.hoopStamp p x.ago x.phase false) (s.sfld (R.HOOP_PT_ASYM p) F.HOOP_PT_ASYM_ASYM)
        let mt := s.time.mt
        let pd := (signed 32 (leAt pk.payload 40 4), signed 32 (leAt pk.payload 44 4))
        let s := s.setFld (R.HOOP_PT_DELAY p) F.HOOP_PT_DELAY_D (satU 24 d).toNat
        let s := s.modPt p fun q => { q with t1 := none, o := o, endedAt := some mt, peerDelta := pd }
        let valid := leAt pk.payload 1 1
        s.each [0, 1] fun d t =>
          if t.fld (R.TIM_D_CFG d) F.TIM_D_CFG_SRC = 1 ∧ t.fld (R.TIM_D_CFG d) F.TIM_D_CFG_PORT = p ∧ bitAt valid d then
            t.sample d (t.portTheta p d)
          else t
      else s
    | _, _ => s

/-- TIME_EXCHANGE_TIMEOUT (R215). -/
def execTimeExchangeTimeout (p : Nat) (s : State) : Res :=
  onUnit p s.hoopLanes 8 s fun s =>
    let q := s.pt p
    let due := match q.lastStart with | some t => decide (t + ticksU 2500 < s.time.mt) | none => false
    if q.t1.isSome && due then s.modPt p fun q => { q with t1 := none } else s

/-! ### Domains (R217, R219, R220) -/

/-- HOLDOVER_ENTRY (R219): no valid sample for 3,072,000 ns, or 3 s under GM_PPS; the notice goes out once when the source port has
left Active. -/
def execHoldoverEntry (d : Nat) (s : State) : Res :=
  onUnit d 2 2 s fun s =>
    let src := s.fld (R.TIM_D_CFG d) F.TIM_D_CFG_SRC
    let st := s.fld (R.TIM_D_STAT d) F.TIM_D_STAT_STATE
    let wait := if src = 1 then nsU 3072000 else nsU 3000000000
    if (src = 1 ∨ src = 3) ∧ (st = 1 ∨ st = 2) ∧ (s.dm d).lastSample + wait ≤ s.time.mt then
      let s := ((s.setDomain d 3).modDm d fun q => { q with good := 0 }).raise R.TIM_ISR F.TIM_ISR_HOLDOVER
      if src = 1 ∧ !s.active (s.fld (R.TIM_D_CFG d) F.TIM_D_CFG_PORT) ∧ !(s.dm d).noticeSent then
        (s.broadcast 0x10 (eventPayload (0xF0A0 + d) s.stamp)).modDm d fun q => { q with noticeSent := true }
      else s
    else s

/-- TIM_D_CFG_WRITE (R217, R219): NONE without a source, LOCKED as a free grandmaster; a new source awaits its samples in LOCKING. -/
def execTimDCfgWrite (d : Nat) (v : Word) (s : State) : Res :=
  onUnitWrite d 2 2 (R.TIM_D_CFG d) s fun s =>
    let old := s.fld (R.TIM_D_CFG d) F.TIM_D_CFG_SRC
    let oldPort := s.fld (R.TIM_D_CFG d) F.TIM_D_CFG_PORT
    let s := s.setReg (R.TIM_D_CFG d) (v &&& 0x3F)
    let src := s.fld (R.TIM_D_CFG d) F.TIM_D_CFG_SRC
    let mt := s.time.mt
    let s :=
      if src = 0 then s.setDomain d 0
      else if src = 2 then s.setDomain d 2
      else if src = old ∧ (src = 3 ∨ s.fld (R.TIM_D_CFG d) F.TIM_D_CFG_PORT = oldPort) then s
      else (s.setDomain d 1).modDm d fun q => { q with good := 0, lastSample := mt, noticeSent := false }
    s.revote 6

/-- TIM_SEL_WRITE (R220): REQ, AUTO and SLEW; a request for the inactive domain waits. -/
def execTimSelWrite (v : Word) (s : State) : Res :=
  let s := s.setFld R.TIM_SEL F.TIM_SEL_REQ (field F.TIM_SEL_REQ v)
  let s := s.setFld R.TIM_SEL F.TIM_SEL_AUTO (field F.TIM_SEL_AUTO v)
  let s := s.setFld R.TIM_SEL F.TIM_SEL_SLEW (field F.TIM_SEL_SLEW v)
  .next (s.setFlag R.TIM_SEL F.TIM_SEL_PENDING (decide (field F.TIM_SEL_REQ v ≠ s.activeDom)))

/-- A domain's state. -/
def State.domainState (s : State) (d : Nat) : Nat := s.fld (R.TIM_D_STAT d) F.TIM_D_STAT_STATE

/-- The active domain has been lost and the other is LOCKED (R220). -/
def State.switchLoss (s : State) : Bool :=
  s.flag R.TIM_SEL F.TIM_SEL_AUTO && decide (s.domainState s.activeDom = 3) && decide (s.domainState (1 - s.activeDom) = 2)

/-- A requested switch may take place: the domain is LOCKED and no layer runs; a hold admits it (R23, R220). -/
def State.switchRequest (s : State) : Bool :=
  s.flag R.TIM_SEL F.TIM_SEL_PENDING && decide (s.domainState (1 - s.activeDom) = 2) && decide (s.grpState ≠ 2)

/-- The step of L at a switch, in 1/8000 ns (R220). -/
def switchStep (delta : Int) : Int := clampI (delta / 40000000) (-8000) 8000

/-- The switch to domain n (R23, R220). -/
def State.switch (s : State) (n : Nat) (loss : Bool) : State :=
  let u := switchStep (s.dm n).delta
  let rest := (s.dm n).delta - 40000000 * u
  let s := (s.modDm (1 - n) fun q => { q with delta := -(40000000 * u) }).modDm n fun q => { q with delta := rest }
  let s := (s.setFld R.TIM_SEL F.TIM_SEL_ACTIVE n).setFlag R.TIM_SEL F.TIM_SEL_PENDING (decide (s.fld R.TIM_SEL F.TIM_SEL_REQ ≠ n))
  let s := s.stepTime u
  let d1 := n + loss.toNat * 2 + unsigned 32 (roundDiv (u * 65536) 8000) * 2 ^ 32
  let d2 := unsigned 48 (roundDiv (rest * 65536) (1000 * psU))
  (s.post 0xFF02 0xFF d1 d2).raise R.TIM_ISR F.TIM_ISR_SWITCH

/-- DOMAIN_SWITCH (R23, R220). -/
def execDomainSwitch (s : State) : Res :=
  .next (if s.switchLoss then s.switch (1 - s.activeDom) true else if s.switchRequest then s.switch (1 - s.activeDom) false else s)

/-! ### Calendar and pulse per second (R222 to R224) -/

/-- CALENDAR_ADJ (R222): TIM_CAL_ADJ in 1/256 ns. -/
def execCalendarAdj (s : State) : Res :=
  let c := ((s.time.cal : Int) + s.sfld R.TIM_CAL_ADJ F.TIM_CAL_ADJ_ADJ * 16777216).toNat
  .next ({ s with time := { s.time with cal := c } }.setFlag R.TIM_CAL_CMD F.TIM_CAL_CMD_COARSE false)

/-- CALENDAR_SET (R222). -/
def execCalendarSet (s : State) : Res :=
  let c := ((s.reg R.TIM_CAL_SET_SEC).toNat * 1000000000 + s.fld R.TIM_CAL_SET_NS F.TIM_CAL_SET_NS_NS) * 2 ^ 32
  let s := { s with time := { s.time with cal := c } }
  .next ((s.setFlag R.TIM_CAL_CMD F.TIM_CAL_CMD_VALID true).setFlag R.TIM_CAL_CMD F.TIM_CAL_CMD_COARSE false)

/-- The chosen time stands at the first tick at or after a whole second: one has passed since the tick before, by the clock's advance
or by a step or an adjustment (R223). -/
def State.atSecond (s : State) : Bool :=
  if s.flag R.TIM_PPS_CFG F.TIM_PPS_CFG_OUTSRC then decide (s.time.secCal < s.time.cal / calSecU)
  else decide (s.time.secMt < s.time.mt / nsU 1000000000)

/-- PPS_OUT_EDGE (R223): the fall after WIDTH, or the rise at a whole second. -/
def execPpsOutEdge (s : State) : Res :=
  let w := nsU (1000 * s.fld R.TIM_PPS_CFG F.TIM_PPS_CFG_WIDTH)
  let on := s.flag R.TIM_PPS_CFG F.TIM_PPS_CFG_OUTEN
  .next
    (if s.time.ppsOut && (!on || decide (s.time.ppsFall ≤ s.time.mt)) then
      { s with time := { s.time with ppsOut := false } }.emit (.ppsOut false)
     else if !s.time.ppsOut && on && s.atSecond then
      let t := s.time.mt + w
      { s with time := { s.time with ppsOut := true, ppsFall := t } }.emit (.ppsOut true)
     else s)

/-- PPS_IN_EDGE (R217, R224, R225): the edge is taken while the HOOP domain is up. -/
def execPpsInEdge (s : State) : Res :=
  occurs (s.flag R.TIM_PPS_CFG F.TIM_PPS_CFG_INEN && s.up dHOOP) s fun s =>
    let dly := s.fld R.TIM_PPS_CFG F.TIM_PPS_CFG_INDLY
    let m := s.time.mt - ticksU dly
    let c := s.time.cal - dly * (s.reg R.TIM_CAL_INC).toNat
    let s := s.setFld R.TIM_PPSIN_MT F.TIM_PPSIN_MT_NS (m / 8000 % 1000000000)
    let s := s.setFld R.TIM_PPSIN_CAL F.TIM_PPSIN_CAL_NS (c / 2 ^ 32 % 1000000000)
    let s := s.raise R.TIM_ISR F.TIM_ISR_PPSIN
    let sec := nsU 1000000000
    let near := (2 * m + sec) / (2 * sec) * sec
    let theta := roundDiv ((near : Int) - m) 8
    s.each [0, 1] fun d t => if t.fld (R.TIM_D_CFG d) F.TIM_D_CFG_SRC = 3 then t.sample d theta else t

end Sys2Proof.Machine
end

