-- ==== Sys2Proof/Machine/Lane.lean ====
section
/-!
DEFINITION. Serial lanes: bring-up, capability exchange, equalisation, power states and the pattern test (R327 to R339, R349, R350).
-/

namespace Sys2Proof.Machine

/-- A lane event acts on a present lane whose domain is up. -/
def onLane (l : Nat) (s : State) (f : State → State) : Res :=
  if l < 40 then .next (if s.lanePresent l && s.up (laneDomain l) then f s else s) else .fault .noSuchUnit

/-- A host write in a lane's window. -/
def onLaneWrite (l addr : Nat) (s : State) (f : State → State) : Res :=
  if l < 40 then .next (if s.lanePresent l then f s else s.absent .host addr true) else .fault .noSuchUnit

/-- The Hoop port that uses a lane: enabled, or not yet down. -/
def State.laneUser (s : State) (l : Nat) : Option Nat :=
  (List.range s.hoopLanes).find? fun p => s.portBusy p && decide (l ∈ s.portLanes p)

/-- The lane is enabled by its user (R330, R338). -/
def State.laneEnabled (s : State) (l : Nat) : Bool :=
  if l < 32 then s.flag (R.HL_CH_CFG l) F.HL_CH_CFG_EN else (s.laneUser l).isSome

/-- A lane leaves ACTIVE: a head link is lost, a Hoop port is not Active any more (R331, R335). -/
def State.leaveActive (s : State) (l : Nat) : State :=
  if l < 32 then s.laneLeft l
  else match s.laneUser l with | some p => s.portLost p | none => s

/-- A lane that leaves ACTIVE trains again, or stays DOWN where its port was draining (R208, R330, R331). -/
def State.retrain (s : State) (l : Nat) : State :=
  let s := s.leaveActive l
  if s.laneEnabled l then s.setLane l 2 else s

/-- A received control block of an unknown type is counted and acts as IDLE; else the effect of the block (R329). -/
def State.onBlock (s : State) (l : Nat) (b : Block) (f : State → State) : State :=
  if strayBlock b then s.countStray l [b] else f s

/-- Machine time since the lane entered its state. -/
def State.laneFor (s : State) (l : Nat) : Nat := s.time.mt - (s.ln l).since

/-- Training times in us (R350). -/
def State.laneTT (s : State) (l : Nat) : Nat := s.fld (R.LANE_TRAIN l) F.LANE_TRAIN_TT
def State.laneTTS (s : State) (l : Nat) : Nat := s.fld (R.LANE_TRAIN l) F.LANE_TRAIN_TTS

/-! ### Bring-up (R330, R331) -/

/-- A probe or a measurement that takes place once per 1,250,000 ticks is due (R330, R334). -/
def State.probeDue (s : State) (l : Nat) : Bool :=
  match (s.ln l).probed with | some t => decide (t + ticksU 1250000 ≤ s.time.mt) | none => true

/-- Note the time of a probe or a measurement. -/
def State.probe (s : State) (l : Nat) : State :=
  let mt := s.time.mt
  s.modLn l fun q => { q with probed := some mt }

/-- TERMINATION_PROBE (R330): in DETECT, once per 1,250,000 ticks; a termination found leads to TRAIN. -/
def execTerminationProbe (l : Nat) (found : Bool) (s : State) : Res :=
  onLane l s fun s =>
    if s.laneState l = 1 ∧ s.probeDue l then (if found then s.setLane l 2 else s.probe l) else s

/-- Entries of a list, from the front, that are true without a break. -/
def leadTrue : List Bool → Nat
  | true :: bs => leadTrue bs + 1
  | _ => 0

/-- Block lock is lost: it is counted, and an ACTIVE lane trains again (R330, R331). -/
def State.lostLock (s : State) (l : Nat) : State :=
  let s := (s.setFlag (R.LANE_STAT l) F.LANE_STAT_LOCK false).satAdd (R.LANE_ERR l) F.LANE_ERR_LOCKLOSS 1
  let s := (s.raise R.LANE_ISR F.LANE_ISR_LOCKLOSS).modLn l fun q => { q with headers := [] }
  if s.laneState l = 5 then s.retrain l else s

/-- The receiver hears blocks: in TRAIN, CAPEX and ACTIVE, and while it wakes from L2 (R330, R336). -/
def State.hears (s : State) (l : Nat) : Bool :=
  let st := s.laneState l
  decide (st = 2) || decide (st = 4) || decide (st = 5) || (decide (st = 7) && (s.ln l).waking)

/-- One sync header (R331): an invalid one is counted; 64 valid ones in a row give block lock; 16 invalid ones among the last 64 lose it. -/
def State.takeSync (s : State) (l : Nat) (h : BitVec 2) : State :=
  if !s.hears l then s
  else
    let ok := validHeader h
    let s := if ok then s else s.satAdd (R.LANE_ERR l) F.LANE_ERR_SYNC 1
    let hs := (ok :: (s.ln l).headers).take 64
    let s := s.modLn l fun q => { q with headers := hs }
    if s.flag (R.LANE_STAT l) F.LANE_STAT_LOCK then
      (if 16 ≤ (hs.filter fun b => !b).length then s.lostLock l else s)
    else if leadTrue hs = 64 then s.setFlag (R.LANE_STAT l) F.LANE_STAT_LOCK true
    else s

/-- Sync headers in the order in which they came. -/
def State.takeSyncs (s : State) (l : Nat) (hs : List (BitVec 2)) : State := hs.foldl (fun t h => t.takeSync l h) s

/-- BLOCK_LOCK (R331): the headers that the receiver tests while it hunts, up to the lock. -/
def execBlockLock (l : Seen (List (BitVec 2))) (s : State) : Res :=
  onLane l.unit s fun s => s.takeSyncs l.unit l.it

/-- LOCK_LOSS (R330, R331): the headers that the receiver tests under lock, up to a loss. -/
def execLockLoss (l : Seen (List (BitVec 2))) (s : State) : Res :=
  onLane l.unit s fun s => s.takeSyncs l.unit l.it

/-- The receiver adapts: in TRAIN, and in ACTIVE while ADAPT = 1 (R334). -/
def State.adapting (s : State) (l : Nat) : Bool :=
  decide (s.laneState l = 2) || (decide (s.laneState l = 5) && s.flag (R.LANE_RXEQ l) F.LANE_RXEQ_ADAPT)

/-- The equaliser step and first tap that adaptation has reached; the spec gives no figure (R334, R350). -/
def State.adapt (s : State) (l : Nat) : State :=
  if s.adapting l then
    let (k, s) := s.draw
    let s := s.setFld (R.LANE_RXEQ l) F.LANE_RXEQ_CTLE (Config.trained k 3)
    s.setFld (R.LANE_RXEQ l) F.LANE_RXEQ_H1 (Config.trained k 4)
  else s

/-- TRAIN_TIMER (R330): TT has passed with block lock held. -/
def execTrainTimer (l : Nat) (s : State) : Res :=
  onLane l s fun s =>
    if s.laneState l = 2 ∧ s.flag (R.LANE_STAT l) F.LANE_STAT_LOCK ∧ nsU (1000 * s.laneTT l) ≤ s.laneFor l then
      (s.adapt l).setLane l 4
    else s

/-- TRAINFAIL (R330): no block lock at 10 x TT. -/
def execTrainfail (l : Nat) (s : State) : Res :=
  onLane l s fun s =>
    if s.laneState l = 2 ∧ !s.flag (R.LANE_STAT l) F.LANE_STAT_LOCK ∧ nsU (10000 * s.laneTT l) ≤ s.laneFor l then
      ((s.setLane l 1).satAdd (R.LANE_ERR l) F.LANE_ERR_TRAINFAIL 1).raise R.LANE_ISR F.LANE_ISR_TRAINFAIL
    else s

/-! ### Capability exchange (R199, R332, R348) -/

/-- The device's own write of UDELAY is sent as soon as the auxiliary channel is free (R347, R348). -/
def State.launchCfg (s : State) (n : Nat) : State :=
  let h := s.hd n
  if h.cfgDue && h.aux.isNone && decide (s.laneState n = 5) then
    let v := (s.reg (0x1C00100 + 4 * n)).toNat % 1024
    let now := s.time.mt
    let s := s.modHd n fun h => { h with aux := some (true, true, 2, v, false, now), cfgDue := false }
    (s.setFlag (R.HL_CH_AUX n) F.HL_CH_AUX_BUSY true).setFlag (R.HL_CH_STAT n) F.HL_CH_STAT_AUXDEV true
  else s

/-- A lane enters ACTIVE: a head link's configuration write falls due, a Hoop port may become Active (R335, R348). -/
def State.enterActive (s : State) (l : Nat) : State :=
  let s := s.setLane l 5
  if l < 32 then
    (s.modHd l fun h => { h with cfgDue := true, cfgDone := false, retryAt := none, rxSeq := none }).launchCfg l
  else match s.laneUser l with | some p => s.portUp p | none => s

/-- The checks of R332 on a CAP payload; the second value is true for a peer with the device's own ID (R199). -/
def State.capOk (s : State) (l w : Nat) : Bool × Bool :=
  let kind := bits w 8 8
  let ver := bits w 16 8
  if l < 32 then (decide (kind = 2) && decide (ver = 1), false)
  else
    match s.laneUser l with
    | none => (false, false)
    | some p =>
      let dup := decide (bits w 32 16 = s.devid)
      let same := decide (bits w 48 2 = s.fld (R.HOOP_PT_CFG p) F.HOOP_PT_CFG_WIDTH) &&
        decide (bits w 50 2 = s.fld (R.HOOP_PT_CFG p) F.HOOP_PT_CFG_RATE) && decide (bits w 52 2 = l - 32 - p)
      (decide (kind = 3) && same && !dup, decide (kind = 3) && dup)

/-- The checks have passed: what the peer said is kept, and ACK is sent from now on. -/
def State.capTake (s : State) (l w : Nat) : State :=
  let s := s.modLn l fun q => { q with ack := true }
  if l < 32 then
    s.setReg (R.HL_CH_CAP l)
      (withField F.HL_CH_CAP_VER (withField F.HL_CH_CAP_AXES (withField F.HL_CH_CAP_HID 0 (bits w 32 16)) (bits w 48 3)) (bits w 16 8))
  else match s.laneUser l with
    | some p => s.setFld (R.HOOP_PT_STAT p) F.HOOP_PT_STAT_PEER (bits w 32 16)
    | none => s

/-- The checks have failed: the lane stays in CAPEX until it is disabled and enabled again. -/
def State.capFail (s : State) (l : Nat) (dup : Bool) : State :=
  let s := (s.setFlag (R.LANE_STAT l) F.LANE_STAT_CAPERR true).raise R.LANE_ISR F.LANE_ISR_CAPERR
  match s.laneUser l with
  | some p =>
    if dup then (s.setFlag (R.HOOP_PT_STAT p) F.HOOP_PT_STAT_DUPID true).raise R.HOOP_ISR F.HOOP_ISR_DUPID else s
  | none => s

/-- CAP_RECEIVED (R329, R332): three identical blocks are checked; a CAP with ACK = 1 that arrives while ACK is being sent leads to
ACTIVE. -/
def execCapReceived (l : Nat) (block : Block) (s : State) : Res :=
  onLane l s fun s => s.onBlock l block fun s =>
    let w := block.payload.toNat
    if s.laneState l ≠ 4 ∨ !isCtl block 0x3C ∨ s.flag (R.LANE_STAT l) F.LANE_STAT_CAPERR then s
    else if (s.ln l).ack && bitAt w 24 then s.enterActive l
    else
      let q := s.ln l
      let n := if q.caps ≠ 0 ∧ q.cap = w then min 3 (q.caps + 1) else 1
      let s := s.modLn l fun q => { q with cap := w, caps := n }
      if n < 3 ∨ q.ack then s
      else
        let (ok, dup) := s.capOk l w
        if ok then s.capTake l w else s.capFail l dup

/-- CAPEX_TIMEOUT (R330, R332). -/
def execCapexTimeout (l : Nat) (s : State) : Res :=
  onLane l s fun s =>
    if s.laneState l = 4 ∧ !s.flag (R.LANE_STAT l) F.LANE_STAT_CAPERR ∧ ticksU 1250000 ≤ s.laneFor l then s.setLane l 1 else s

/-- TRAIN_BLOCK_RECEIVED (R329, R330): in ACTIVE it takes the lane back to TRAIN. -/
def execTrainBlockReceived (l : Seen Block) (s : State) : Res :=
  onLane l.unit s fun s => s.onBlock l.unit l.it fun s =>
    if s.laneState l.unit = 5 ∧ isCtl l.it 0x2D then s.retrain l.unit else s

/-- ALIGN_RECEIVED (R329, R335): the block of the expected lane index, with its time; a port whose lanes are ACTIVE and whose ALIGN
blocks came within 64 block slots of each other is Active. -/
def execAlignReceived (l : Nat) (block : Block) (s : State) : Res :=
  onLane l s fun s => s.onBlock l block fun s =>
    match s.laneUser l with
    | some p =>
      if 32 ≤ l ∧ s.laneState l = 5 ∧ isCtl block 0xA5 ∧ bits block.payload.toNat 8 2 = l - 32 - p then
        let mt := s.time.mt
        (s.modPt p fun q => { q with aligned := (l, mt) :: q.aligned.filter fun e => decide (e.1 ≠ l) }).portUp p
      else s
    | none => s

/-! ### Equalisation (R333, R334) -/

/-- LANE_TXEQ_WRITE (R333). -/
def execLaneTxeqWrite (l : Nat) (v : Word) (s : State) : Res :=
  onLaneWrite l (R.LANE_TXEQ l) s fun s =>
    let pre := field F.LANE_TXEQ_PRE v
    let main := field F.LANE_TXEQ_MAIN v
    let post := field F.LANE_TXEQ_POST v
    if pre + main + post ≤ 63 ∧ pre + post + 8 ≤ main then s.setReg (R.LANE_TXEQ l) (v &&& 0x3F3F3F)
    else s.raise R.LANE_ISR F.LANE_ISR_REJ

/-- EYE_MEASURE (R334): once per 1,250,000 ticks in ACTIVE. -/
def execEyeMeasure (l : Nat) (width : Nat) (s : State) : Res :=
  onLane l s fun s =>
    if s.laneState l = 5 ∧ s.probeDue l then (s.probe l).setFld (R.LANE_STAT l) F.LANE_STAT_EYEW width else s

/-! ### Lane power states (R336, R337) -/

/-- A head lane takes a power-state request only while its channel is DISABLED or IDLE and its axes are OFF (R337). -/
def State.pmAllowed (s : State) (l : Nat) : Bool :=
  32 ≤ l || (decide (s.chState l ≤ 1) &&
    [3 * l, 3 * l + 1, 3 * l + 2].all fun a => decide (s.fld (R.SRV_AX_STAT a) F.SRV_AX_STAT_MODE = 0))

/-- The lane enters L1 or L2 (R336, R337): a head link is lost; a Hoop port stays Active in L1 and not in L2. -/
def State.enterPm (s : State) (l level : Nat) : State :=
  let s := if l < 32 ∨ level = 2 then s.leaveActive l else s
  let s := s.setLane l (if level = 1 then 6 else 7)
  if level = 2 then s.setFlag (R.LANE_STAT l) F.LANE_STAT_LOCK false else s

/-- The time of a head lane's next block boundary, a multiple of 8 ticks (R328, R340); a Hoop lane's blocks start at once. -/
def State.blockTime (s : State) (l : Nat) : Nat :=
  if l < 32 then ticksU 8 * ceilDiv s.time.mt (ticksU 8) else s.time.mt

/-- Blocks leave on a lane. -/
def State.sendBlocks (s : State) (l : Nat) (bs : List Block) : State := s.emit (.blocks l (s.blockTime l) bs)

/-- PM blocks received in a row: true at the fourth with the same payload (R336). -/
def State.countPm (s : State) (l w : Nat) : Bool × State :=
  let (p, n) := (s.ln l).pmGot
  let n := if p = w then n + 1 else 1
  (decide (4 ≤ n), s.modLn l fun q => { q with pmGot := if 4 ≤ n then (0, 0) else (w, n) })

/-- LANE_PM_REQUEST (R336, R337): a write of LANE_PM. L1 and L2 are asked for with four PM blocks; L0 wakes the lane. -/
def execLanePmRequest (l : Nat) (v : Word) (s : State) : Res :=
  onLaneWrite l (R.LANE_PM l) s fun s =>
    let r := field F.LANE_PM_REQ v
    if r = 3 then s
    else if r = 0 then (s.setReg (R.LANE_PM l) 0).wakeSend l
    else if s.laneState l ≠ 5 ∨ !s.pmAllowed l then s.raise R.LANE_ISR F.LANE_ISR_REJ
    else
      let now := s.time.mt
      let s := (s.setFld (R.LANE_PM l) F.LANE_PM_REQ r).modLn l fun q => { q with pm := some (r, now), pmGot := (0, 0) }
      s.sendBlocks l (List.replicate 4 (pmBlock r false))

/-- PM_REQUEST_RECEIVED (R329, R336, R337), one PM block: the fourth request is answered with four PM blocks, then electrical idle; a
head's request outside the channel's and axes' rest is ignored with REJ. -/
def execPmRequestReceived (l : Nat) (block : Block) (s : State) : Res :=
  onLane l s fun s => s.onBlock l block fun s =>
    let w := block.payload.toNat
    let level := bits w 8 8
    if s.laneState l = 5 ∧ isCtl block 0x5A ∧ !bitAt w 16 ∧ (level = 1 ∨ level = 2) then
      let (all, s) := s.countPm l w
      if !all then s
      else if s.pmAllowed l then (s.sendBlocks l (List.replicate 4 (pmBlock level true))).enterPm l level
      else s.raise R.LANE_ISR F.LANE_ISR_REJ
    else s

/-- PM_ANSWER_RECEIVED (R329, R336), one PM block: the lane enters the state at the fourth answer within 1,250 ticks of the request. -/
def execPmAnswerReceived (l : Nat) (block : Block) (s : State) : Res :=
  onLane l s fun s => s.onBlock l block fun s =>
    let w := block.payload.toNat
    match (s.ln l).pm with
    | some (level, t) =>
      if s.laneState l = 5 ∧ isCtl block 0x5A ∧ bitAt w 16 ∧ bits w 8 8 = level ∧ s.time.mt ≤ t + ticksU 1250 then
        let (all, s) := s.countPm l w
        if all then s.enterPm l level else s
      else s
    | none => s

/-- PM_TIMEOUT (R336): no answer within 1,250 ticks. -/
def execPmTimeout (l : Nat) (s : State) : Res :=
  onLane l s fun s =>
    match (s.ln l).pm with
    | some (_, t) =>
      if t + ticksU 1250 < s.time.mt then (s.modLn l fun q => { q with pm := none, pmGot := (0, 0) }).raise R.LANE_ISR F.LANE_ISR_REJ else s
    | none => s

/-- LANE_WAKE (R336): the peer wakes the lane. -/
def execLaneWake (l : Nat) (s : State) : Res := onLane l s fun s => s.wakeLane l

/-- LANE_WAKE_DONE (R336): from L2 after the short training. -/
def execLaneWakeDone (l : Nat) (s : State) : Res :=
  onLane l s fun s =>
    let st := s.laneState l
    if !(s.ln l).waking then s
    else if st = 6 then (if l < 32 then s.enterActive l else s.setLane l 5)
    else if st = 7 ∧ nsU (1000 * s.laneTTS l) ≤ s.laneFor l then
      (s.setFlag (R.LANE_STAT l) F.LANE_STAT_LOCK true).enterActive l
    else s

/-! ### Pattern test (R338, R339) -/

/-- The checker starts: its counters clear (R339). -/
def State.checkerStart (s : State) (l : Nat) : State :=
  let s := (s.setReg (R.LANE_TEST_ERRS l) 0).setReg (R.LANE_TEST_BITS_LO l) 0
  let s := (s.setReg (R.LANE_TEST_BITS_HI l) 0).setFlag (R.LANE_TEST l) F.LANE_TEST_SYNC false
  s.modLn l fun q => { q with chk := 0, seen := 0, clean := 0, errors := [] }

/-- Order and second tap of a pattern's generator: PRBS7, PRBS15, PRBS31 (R338). -/
def testPoly (mode : Nat) : Nat × Nat := if mode = 1 then (7, 6) else if mode = 2 then (15, 14) else (31, 28)

/-- Bit k of the pattern since the test began, before errors are injected: a pseudo-random sequence from the lane's seed, or
LANE_TEST_WORD repeated, bit 0 first (R338). -/
def State.patternBit (s : State) (l k : Nat) : Bool :=
  let m := s.fld (R.LANE_TEST l) F.LANE_TEST_MODE
  if m = 4 then s.bit (R.LANE_TEST_WORD l) (k % 32)
  else
    let (n, t) := testPoly m
    bitAt (prbsAfter n t k (prbsSeed n (s.ln l).seed)) 0

/-- The bit that the lane sends k bits after the test began: with INJRATE = r > 0 one bit in every 2^(r + 9) is inverted, and with INJ1
the next one (R338, R339). -/
def State.testBit (s : State) (l k : Nat) : Bool :=
  let r := s.fld (R.LANE_TEST l) F.LANE_TEST_INJRATE
  let flip := (decide (r ≠ 0) && decide ((k + 1) % 2 ^ (r + 9) = 0)) != ((s.ln l).inj && decide (k = (s.ln l).sent))
  s.patternBit l k != flip

/-- Bits that the checker takes to seed itself: the order of the generator, or a rotation of the word (R339). -/
def seedBits (mode : Nat) : Nat := if mode = 4 then 32 else (testPoly mode).1

/-- A rotation of the word fits the bits taken so far; FIXED locks on it (R339). -/
def State.rotationFits (s : State) (l r : Nat) : Bool :=
  (List.range 32).any fun i => (List.range 32).all fun b => decide (bitAt r b = s.bit (R.LANE_TEST_WORD l) ((i + 31 - b) % 32))

/-- The bit that the checker expects next: from its own generator, or 32 bits before it in the word's rotation (R339). -/
def expectedBit (mode r : Nat) : Bool :=
  if mode = 4 then bitAt r 31
  else
    let (n, m) := testPoly mode
    bitAt r (n - 1) != bitAt r (m - 1)

/-- Count one checked bit, and whether it was in error (R339). -/
def State.countBit (s : State) (l : Nat) (bad : Bool) : State :=
  let n := (s.reg (R.LANE_TEST_BITS_LO l)).toNat + 2 ^ 32 * s.fld (R.LANE_TEST_BITS_HI l) F.LANE_TEST_BITS_HI_BITS + 1
  let s := (s.setReg (R.LANE_TEST_BITS_LO l) (BitVec.ofNat 32 n)).setFld (R.LANE_TEST_BITS_HI l) F.LANE_TEST_BITS_HI_BITS (n / 2 ^ 32)
  if bad then s.satAdd (R.LANE_TEST_ERRS l) F.LANE_TEST_ERRS_COUNT 1 else s

/-- One received bit at the checker (R339). Until it is seeded it takes the bit; without SYNC an error makes it take the bits for a new
seed, and 64 error-free bits set SYNC; with SYNC bits and errors are counted, and 32 errors within 1,024 bits drop it. -/
def State.checkBit (s : State) (l : Nat) (b : Bool) : State :=
  let w := R.LANE_TEST l
  let m := s.fld w F.LANE_TEST_MODE
  let q := s.ln l
  let want := expectedBit m q.chk
  let width := 2 ^ seedBits m
  if q.seen < seedBits m then
    let r := (2 * q.chk + b.toNat) % width
    let full := decide (q.seen + 1 = seedBits m) && decide (m = 4) && !s.rotationFits l r
    s.modLn l fun q => { q with chk := r, seen := if full then q.seen else q.seen + 1 }
  else if !s.flag w F.LANE_TEST_SYNC then
    let n := if b = want then q.clean + 1 else 0
    let s := s.modLn l fun q => { q with chk := (2 * q.chk + b.toNat) % width, clean := n, seen := if b = want then q.seen else 1 }
    if 64 ≤ n then s.setFlag w F.LANE_TEST_SYNC true else s
  else
    let es := (q.errors.map (· + 1)).filter fun k => decide (k < 1024)
    let es := if b = want then es else 0 :: es
    let s := (s.modLn l fun q => { q with chk := (2 * q.chk + want.toNat) % width, errors := es }).countBit l (b != want)
    if 32 ≤ es.length then
      (s.setFlag w F.LANE_TEST_SYNC false).modLn l fun q => { q with seen := 0, clean := 0, errors := [] }
    else s

/-- The lane enters TEST, or starts another pattern there; the start state of its generator is open (R338). -/
def State.testStart (s : State) (l : Nat) : State :=
  let (k, s) := s.draw
  let s := if s.laneState l = 8 then s else s.setLane l 8
  s.modLn l fun q => { q with seed := Config.prbsStart k, sent := 0 }

/-- A write of LANE_TEST (R338, R339): MODE enters TEST while the lane's user has it disabled, and leaves it when 0; a mode that
cannot be entered makes the write ignored with REJ; codes 5 to 7 leave MODE. CHK = 1 starts the checker. -/
def State.writeLaneTest (s : State) (l : Nat) (v : Word) : State :=
  let w := R.LANE_TEST l
  let old := s.fld w F.LANE_TEST_MODE
  let m := field F.LANE_TEST_MODE v
  let m := if 5 ≤ m then old else m
  if m ≠ 0 ∧ (s.laneEnabled l ∨ (s.laneState l ≠ 0 ∧ s.laneState l ≠ 8)) then s.raise R.LANE_ISR F.LANE_ISR_REJ
  else
    let sync := s.flag w F.LANE_TEST_SYNC
    let s := s.setReg w (withField F.LANE_TEST_MODE (v &&& 0xF7F) m)
    let s := s.setFlag w F.LANE_TEST_SYNC sync
    let s := if field F.LANE_TEST_CHK v = 1 then s.checkerStart l else s.setFlag w F.LANE_TEST_SYNC false
    let s := if m ≠ 0 then (if s.laneState l = 8 ∧ m = old then s else s.testStart l)
      else if s.laneState l = 8 then (let s := s.setLane l 0; if s.laneEnabled l then s.startLane l else s) else s
    if field F.LANE_TEST_INJ1 v = 1 then s.modLn l fun q => { q with inj := true } else s

/-- LANE_TEST_MODE_WRITE (R338). -/
def execLaneTestModeWrite (l : Nat) (v : Word) (s : State) : Res := onLaneWrite l (R.LANE_TEST l) s fun s => s.writeLaneTest l v

/-- CHECKER_START (R339): a write of LANE_TEST with CHK = 1. -/
def execCheckerStart (l : Nat) (v : Word) (s : State) : Res := onLaneWrite l (R.LANE_TEST l) s fun s => s.writeLaneTest l (v ||| 8)

/-- CHECKER_SYNC (R338, R339): a run of bits at the lane's receiver while it sends n; with LOOP = 1 the receiver is fed by the lane's own
transmitter in place of the balls. -/
def execCheckerSync (l : Nat) (received : List Bool) (n : Nat) (s : State) : Res :=
  onLane l s fun s =>
    let w := R.LANE_TEST l
    if s.laneState l ≠ 8 then s
    else
      let k := (s.ln l).sent
      let bits := if s.flag w F.LANE_TEST_LOOP then (List.range n).map fun i => s.testBit l (k + i) else received
      let s := s.modLn l fun q => { q with sent := k + n, inj := q.inj && decide (n = 0) }
      if s.flag w F.LANE_TEST_CHK then bits.foldl (fun t b => t.checkBit l b) s else s

/-- INJ1 (R339): the next transmitted bit is inverted. -/
def execInj1 (l : Nat) (s : State) : Res := onLaneWrite l (R.LANE_TEST l) s fun s => s.modLn l fun q => { q with inj := true }

/-! ### The transmitter (R330, R332, R335) -/

/-- The lane's rate code: a head lane runs at 10.3125 Gb/s, a Hoop lane at its port's RATE (R327). -/
def State.laneRate (s : State) (l : Nat) : Nat :=
  match (if l < 32 then none else s.laneUser l) with
  | some p => s.fld (R.HOOP_PT_CFG p) F.HOOP_PT_CFG_RATE
  | none => 0

/-- The present block slot, counted from the lane's entry into its state. -/
def State.laneSlot (s : State) (l : Nat) : Nat := slotsIn (s.laneRate l) (s.laneFor l)

/-- The device's own CAP block (R332). -/
def State.capBlock (s : State) (l : Nat) : Block :=
  let common := 0x3C + 2 ^ 16 + (s.ln l).ack.toNat * 2 ^ 24
  match (if l < 32 then none else s.laneUser l) with
  | some p =>
    ctlBlock (common + 3 * 256 + s.devid * 2 ^ 32 + s.fld (R.HOOP_PT_CFG p) F.HOOP_PT_CFG_WIDTH * 2 ^ 48 +
      s.fld (R.HOOP_PT_CFG p) F.HOOP_PT_CFG_RATE * 2 ^ 50 + (l - 32 - p) * 2 ^ 52)
  | none => ctlBlock (common + 256)

/-- Data block k of TRAIN: 64 bits of PRBS31, bit 0 first, from a start state that the spec leaves open (R330). -/
def State.trainData (s : State) (l k : Nat) : Block :=
  let r := prbsAfter 31 28 (64 * k) (prbsSeed 31 (Config.trainStart l (s.ln l).since))
  dataBlock (natOf ((List.range 64).map fun i => bitAt (prbsAfter 31 28 i r) 0))

/-- What the transmitter of a lane sends in its present block slot outside frames and packets (R330): none is electrical idle, or the raw
pattern of TEST. In ACTIVE a lane of a Hoop port sends ALIGN every 16,384 slots (R335). -/
def State.laneBlock (s : State) (l : Nat) : Option Block :=
  let st := s.laneState l
  let k := s.laneSlot l
  if st = 2 then
    some (if k % 16 = 0 then trainBlock (s.laneTT l - s.laneFor l / nsU 1000) else s.trainData l (k - k / 16 - 1))
  else if st = 4 then some (if k % 16 = 0 then s.capBlock l else idleBlock)
  else if st = 5 then
    match (if l < 32 then none else s.laneUser l) with
    | some p => some (if k % 16384 = 0 then alignBlock (l - 32 - p) else idleBlock)
    | none => some idleBlock
  else none

/-! ### Head lanes, resets (R330, R349) -/

/-- HEAD_LANE_ENABLE (R330): a write of HL_CH_CFG with EN = 1. -/
def execHeadLaneEnable (n : Nat) (v : Word) (s : State) : Res :=
  onUnitWrite n s.channels 32 (R.HL_CH_CFG n) s fun s => (s.setReg (R.HL_CH_CFG n) ((v &&& 3) ||| 1)).startLane n

/-- HEAD_LANE_DISABLE (R330, R349): a write of HL_CH_CFG with EN = 0; while the channel is in PRIMING to FAULT, EN stays, with REJ. -/
def execHeadLaneDisable (n : Nat) (v : Word) (s : State) : Res :=
  onUnitWrite n s.channels 32 (R.HL_CH_CFG n) s fun s =>
    let st := s.chState n
    if 2 ≤ st ∧ st ≤ 7 ∧ s.flag (R.HL_CH_CFG n) F.HL_CH_CFG_EN then
      (s.setFlag (R.HL_CH_CFG n) F.HL_CH_CFG_ZERO (decide (field F.HL_CH_CFG_ZERO v = 1))).raise R.HL_ISR F.HL_ISR_REJ
    else
      let s := s.setReg (R.HL_CH_CFG n) (v &&& 2)
      if s.laneState n = 8 then s else s.laneDown n

/-- Head lanes are down during a reset or while HEAD is off. -/
def State.headLanesDown (s : State) : State := s.each (List.range 32) fun l t => t.laneDown l

/-- Enabled lanes of a domain start again (R330, R349). -/
def State.lanesStart (s : State) (d : Nat) : State :=
  s.each ((List.range 40).filter fun l => s.lanePresent l && decide (laneDomain l = d) && s.laneEnabled l) fun l t => t.startLane l

/-- The lane block after a reset that reaches it (R349): every lane DOWN, RWS registers kept; bring-up follows. -/
def State.resetLane (s : State) (keep : Access → Bool) : State :=
  let s := s.each (List.range s.hoopLanes) fun p t => t.portLost p
  let s := s.headLanesDown
  { s.resetRegs 0x240000 0x250000 keep with lane := [] }

/-- The head link block after a reset that reaches it (R346, R349). DRV = 0 stands where a reset in a layer has asked for it. -/
def State.resetHl (s : State) (keep : Access → Bool) : State :=
  let s := s.headLanesDown
  let z := (s.head.filter fun e => e.2.zeroed).map fun e => (e.1, { Head.reset with zeroed := true })
  { s.resetRegs 0x250000 0x260000 keep with head := z }

/-- LANE_BLOCK_RESET (R170, R349). -/
def execLaneBlockReset (s : State) : Res :=
  .next ((((s.namedReset 0 false).resetLane keepRws).lanesStart dHEAD).lanesStart dHOOP)

/-- HL_BLOCK_RESET (R170, R349). -/
def execHlBlockReset (s : State) : Res := .next (((s.namedReset 0 false).resetHl keepRws).lanesStart dHEAD)

end Sys2Proof.Machine
end

