-- ==== Sys2Proof/Machine/Calib.lean ====
section
/-!
DEFINITION. Calibration: pending and active sets, two-run acceptance, apply, restore and quality figures (R405 to R415).
-/

namespace Sys2Proof.Machine

/-- State of a group (R415): 0 IDLE, 1 RUN1, 2 RUN2, 3 WAIT. -/
def State.calState (s : State) (g : Nat) : Nat := s.fld (R.CAL_G_STAT g) F.CAL_G_STAT_STATE
def State.setCalState (s : State) (g st : Nat) : State := s.setFld (R.CAL_G_STAT g) F.CAL_G_STAT_STATE st

/-- A command or write is ignored. -/
def State.calRej (s : State) : State := s.raise R.CAL_ISR F.CAL_ISR_REJ

/-! ### Where the sets lie (R164, R196, R233, R348, R405, R406) -/

/-- Base of a group's pending sets, base of its active sets, stride of a unit, bytes of the table that a unit has. -/
def calLayout (g : Nat) : Nat × Nat × Nat :=
  match g with
  | 0 => (0x1080000, 0x10C0000, 0x800)
  | 1 => (0x2000000, 0x2800000, 0x40000)
  | 2 => (0x1810000, 0x1820000, 0x400)
  | 3 => (0x1830000, 0x1831000, 0x10)
  | 4 => (0x1832000, 0x1833000, 4)
  | 5 => (0x1C00000, 0x1C00100, 4)
  | _ => (0x1C10000, 0x1C10100, 8)

/-- Units of a group that a map can have, and that the device has. -/
def calUnits (g : Nat) : Nat := if g = 0 then 96 else if g = 6 then 8 else 32
def State.calPresent (s : State) (g : Nat) : Nat :=
  if g = 0 then 3 * s.channels else if g = 6 then s.hoopLanes else s.channels

/-- The fields of a word of a group's set at an offset in its unit: lowest bit, width, signed. None for a reserved word. -/
def calFields (g off : Nat) : List (Nat × Nat × Bool) :=
  match g with
  | 0 =>
    let m := gainMask off
    if m = 0 then []
    else if m = 0xFFFF then [(0, 16, false)]
    else if m = 0xFFFFF then [(0, 20, false)]
    else if m = 0xFFFFFF then [(0, 24, false)]
    else [(0, 32, decide (off % 0x80 ≠ 0x14))]
  | 1 => if off < 199692 then [(0, 32, true)] else if off = 0x31000 then [(0, 24, true)] else []
  | 2 => if off < 0x200 then [(0, 16, false), (16, 16, false)] else if off = 0x200 then [(0, 16, false)] else []
  | 3 => if off < 8 then [(0, 16, true), (16, 16, false)] else []
  | 4 => [(0, 16, true), (16, 16, true)]
  | 5 => [(0, 10, false)]
  | _ => [(0, 32, false)]

/-- The bits of a word that its fields cover. -/
def calMask (fs : List (Nat × Nat × Bool)) : Nat := fs.foldl (fun m f => m + (2 ^ f.2.1 - 1) * 2 ^ f.1) 0

/-- The group, unit and offset of an address in a pending set. -/
def calPlace (a : Nat) : Option (Nat × Nat × Nat) :=
  (List.range 7).findSome? fun g =>
    let (p, _, st) := calLayout g
    if p ≤ a ∧ a < p + st * calUnits g then some (g, (a - p) / st, (a - p) % st) else none

/-- A group's quality tables: pending and active (R413). -/
def qualPending (g : Nat) : Nat := 0x1C20000 + 0x400 * g
def qualActive (g : Nat) : Nat := 0x1C30000 + 0x400 * g

/-- Words in a table's window replaced by those of an equally long window; the words written are sound. -/
def State.copyWords (s : State) (src dst n : Nat) : State :=
  let keep := s.regs.filter fun e => !(decide (dst ≤ e.1) && decide (e.1 < dst + n))
  let from_ := s.regs.filter fun e => decide (src ≤ e.1) && decide (e.1 < src + n)
  let good := s.intg.planted.filter fun e => !(decide (dst ≤ e.1) && decide (e.1 < dst + n))
  { s with regs := from_.foldl (fun t e => tabSet resetWord t (e.1 - src + dst) e.2) keep
           intg := { s.intg with planted := good } }

/-- The copy behind an apply: the sets of every unit, and the quality table (R405, R413). -/
def State.calCopy (s : State) (g : Nat) : State :=
  let (p, a, st) := calLayout g
  let n := st * calUnits g
  let s := (s.readWords 0xFF [(p, n)]).2
  (s.copyWords p a n).copyWords (qualPending g) (qualActive g) 0x400

/-! ### Results (R412) -/

/-- A result of a group, without a record: IDLE, and the flag. -/
def State.calEnd (s : State) (g r : Nat) : State :=
  let s := (s.setCalState g 0).setFld (R.CAL_G_STAT g) F.CAL_G_STAT_RESULT r
  s.raise R.CAL_ISR (if r = 2 then F.CAL_ISR_DISAGREE else F.CAL_ISR_DONE)

/-- Post the 0xFF11 record of a group with its result. -/
def State.calRecord (s : State) (g r : Nat) : State :=
  let w := (s.reg (R.CAL_G_WORDS g)).toNat
  let d2 := (s.reg (R.CAL_G_NDIS g)).toNat + (s.reg (R.CAL_G_DIFF g)).toNat * 2 ^ 32
  s.post 0xFF11 0xFF (g + r * 8 + w * 2 ^ 32) d2

/-- An apply, restore or refusal ends with a result: 1 APPLIED, 2 DISAGREE, 3 RESTORED. -/
def State.calResult (s : State) (g r : Nat) : State := (s.calEnd g r).calRecord g r

/-! ### Commands (R407, R409, R411) -/

/-- A command on group g: the field has three bits; group 7 takes no command (R407). -/
def onGroup (g : Nat) (s : State) (f : State → State) : Res :=
  if g < 7 then .next (f s) else if g = 7 then .next s.calRej else .fault .noSuchUnit

/-- CAL_OPEN (R407): run 1, counters clear. -/
def execCalOpen (g : Nat) (s : State) : Res :=
  onGroup g s fun s =>
    if s.calState g ≠ 0 then s.calRej
    else
      let s := ((s.setReg (R.CAL_G_WORDS g) 0).setReg (R.CAL_G_CMPW g) 0).setReg (R.CAL_G_NDIS g) 0
      (s.setReg (R.CAL_G_DIFF g) 0).setCalState g 1

/-- CAL_REPEAT (R407): run 2. -/
def execCalRepeat (g : Nat) (s : State) : Res :=
  onGroup g s fun s => if s.calState g ≠ 1 then s.calRej else s.setCalState g 2

/-- CAL_ABORT (R407): back to IDLE with result ABORTED. -/
def execCalAbort (g : Nat) (s : State) : Res :=
  onGroup g s fun s => if s.calState g = 0 then s.calRej else s.calEnd g 4

/-- The group waits for its boundary. -/
def State.calWait (s : State) (g : Nat) (restore : Bool) : State :=
  let now := s.time.mt
  (s.modCg g fun c => { c with restore := restore, effectAt := now }).setCalState g 3

/-- CAL_RESTORE (R411): an apply without comparison, while the layer group is Idle, Complete or Aborted. -/
def execCalRestore (g : Nat) (s : State) : Res :=
  onGroup g s fun s => if s.calState g ≠ 0 ∨ s.layerArmed then s.calRej else s.calWait g true

/-- Run 2 has reproduced run 1 (R409). -/
def State.calAgreed (s : State) (g : Nat) : Bool :=
  decide (s.reg (R.CAL_G_CMPW g) = s.reg (R.CAL_G_WORDS g)) && decide (s.reg (R.CAL_G_NDIS g) = 0) &&
    decide (s.reg (R.CAL_G_WORDS g) ≠ 0)

/-- CAL_APPLY (R409): in RUN2 the group is accepted or refused. -/
def execCalApply (g : Nat) (s : State) : Res :=
  onGroup g s fun s =>
    if s.calState g ≠ 2 then s.calRej
    else if s.calAgreed g then s.calWait g false
    else s.calResult g 2

/-- After an apply of head-link skew sets every active head takes its new value (R348, R405). -/
def State.skewApplied (s : State) : State :=
  let at_ := s.time.mt + ticksU 5000000
  s.each s.chs fun n t =>
    let t := t.modHd n fun h => { h with skewDue := some at_ }
    if t.laneState n = 5 then (t.modHd n fun h => { h with cfgDue := true }).launchCfg n else t

/-- CAL_APPLY_EFFECT (R233, R405, R406): at a servo period boundary after GO, for groups 1 and 6 not while a layer is armed or runs,
the active sets change together. -/
def execCalApplyEffect (g : Nat) (s : State) : Res :=
  onGroup g s fun s =>
    let late := decide ((s.cg g).effectAt < s.time.mt) && decide (s.time.mt % servoU = 0)
    if s.calState g ≠ 3 || !late || (decide (g = 1 ∨ g = 6) && s.layerArmed) then s
    else
      let s := (s.calCopy g).calResult g (if (s.cg g).restore then 3 else 1)
      if g = 5 then s.skewApplied else s

/-! ### Writes to pending sets (R407, R408) -/

/-- The value of a field of a word. -/
def calValue (f : Nat × Nat × Bool) (w : Word) : Int :=
  let x := bits w.toNat f.1 f.2.1
  if f.2.2 then signed f.2.1 x else (x : Int)

/-- The difference of a field between two words, without sign. -/
def calDiff (f : Nat × Nat × Bool) (old new : Word) : Nat := (calValue f new - calValue f old).natAbs

/-- A field agrees under the group's tolerances (R408). -/
def State.calAgrees (s : State) (g : Nat) (f : Nat × Nat × Bool) (old new : Word) : Bool :=
  let d := calDiff f old new
  let t := R.CAL_G_TOL g
  decide (d ≤ s.fld t F.CAL_G_TOL_ABS) || decide (d * 65536 ≤ s.fld t F.CAL_G_TOL_REL * (calValue f old).natAbs)

/-- A write in RUN2 is compared with the stored word (R408). -/
def State.calCompare (s : State) (g : Nat) (fs : List (Nat × Nat × Bool)) (old new : Word) : State :=
  let s := s.satAdd (R.CAL_G_CMPW g) F.CAL_G_CMPW_COUNT 1
  let s := if fs.all (fun f => s.calAgrees g f old new) then s else s.satAdd (R.CAL_G_NDIS g) F.CAL_G_NDIS_COUNT 1
  let d := fs.foldl (fun m f => max m (calDiff f old new)) (s.fld (R.CAL_G_DIFF g) F.CAL_G_DIFF_DIFF)
  s.setFld (R.CAL_G_DIFF g) F.CAL_G_DIFF_DIFF (min d 0xFFFFFFFF)

/-- PENDING_SET_WRITE (R407, R408, R413): stored in IDLE and RUN1, compared in RUN2, ignored with REJ in WAIT. A write to a pending
quality table is stored. -/
def execPendingSetWrite (addr : Nat) (v : Word) (s : State) : Res :=
  match calPlace addr with
  | some (g, u, off) =>
    onTable u (s.calPresent g) (calUnits g) addr s fun s =>
      let fs := calFields g off
      let st := s.calState g
      if fs = [] then s
      else if st = 3 then s.calRej
      else if st = 2 then s.calCompare g fs (s.reg addr) v
      else
        let s := s.tableStore addr (calMask fs) v
        if st = 1 then s.satAdd (R.CAL_G_WORDS g) F.CAL_G_WORDS_COUNT 1 else s
  | none =>
    let g := (addr - 0x1C20000) / 0x400
    let i := (addr - 0x1C20000) % 0x400 / 4
    let per := if g = 3 then 2 else 1
    if 0x1C20000 ≤ addr ∧ addr < 0x1C21C00 then
      onTable i (per * s.calPresent g) (per * calUnits g) addr s fun s => s.tableStore addr 0x8000FFFF v
    else onAddr addr s id

/-- The largest and the smallest of a list lie this far apart. -/
def spread : List Nat → Nat
  | [] => 0
  | x :: xs => xs.foldl max x - xs.foldl min x

/-- The active figure of a channel, where it is due: the peak-to-peak arrival phase over the last 4,096 servo periods (R413). -/
def State.skewFigure (s : State) (ch : Nat) : State :=
  match (s.hd ch).skewDue with
  | some t =>
    if t ≤ s.time.mt then
      let p := spread (((s.hd ch).arrivals.filter fun x => decide (s.time.mt < x.1 + 4096 * servoU)).map (·.2))
      let s := s.modHd ch fun h => { h with skewDue := none }
      s.setReg (qualActive 5 + 4 * ch) (BitVec.ofNat 32 (p % 65536 + 2 ^ 31))
    else s
  | none => s

/-- SKEW_QUALITY_WRITE (R413): 5,000,000 ticks after an apply of group 5 the device writes the active figures, here those of the
channels from one to another. -/
def execSkewQualityWrite (ch last : Nat) (s : State) : Res :=
  onUnit ch s.channels 32 s fun s =>
    s.each ((List.range s.channels).filter fun n => decide (ch ≤ n) && decide (n ≤ last)) fun n t => t.skewFigure n

/-! ### Resets (R414) -/

/-- The domain that holds a group's sets. -/
def calDomain (g : Nat) : Nat :=
  match g with
  | 0 => dSRV | 1 => dSEQ | 5 => dHEAD | 6 => dHOOP | 7 => dDDR | _ => dAFE

/-- A domain drops: its groups in RUN1, RUN2 or WAIT return to IDLE with result ABORTED. -/
def State.calDropped (s : State) (d : Nat) : State :=
  s.each (List.range 7) fun g t => if calDomain g = d ∧ t.calState g ≠ 0 then t.calEnd g 4 else t

/-- The CAL block after a reset. -/
def State.resetCal (s : State) (keep : Access → Bool) : State := { s.resetRegs 0x40000 0x50000 keep with cal := [] }

/-- CAL_BLOCK_RESET (R414): CAL_CTL.BRST. -/
def execCalBlockReset (s : State) : Res := .next (s.resetCal keepRws)

end Sys2Proof.Machine
end

