-- ==== Sys2Proof/Machine/Camera.lean ====
section
/-!
DEFINITION. Camera ports and the image pipeline (R282 to R311): frames, FIFO, exposure sets, sensor I2C, processing, statistics,
outputs and records in DRAM. The layer's state changes nothing here (R307).
-/

namespace Sys2Proof.Machine

/-! ### Configuration of a port -/

def State.camWidth (s : State) (p : Nat) : Nat := s.fld (R.CAM_PT_GEOM p) F.CAM_PT_GEOM_WIDTH
def State.camHeight (s : State) (p : Nat) : Nat := s.fld (R.CAM_PT_GEOM p) F.CAM_PT_GEOM_HEIGHT
/-- Bits of a pixel. -/
def State.camBits (s : State) (p : Nat) : Nat := 8 + s.fld (R.CAM_PT_CFG p) F.CAM_PT_CFG_BITS
/-- Bytes of a pixel in the FIFO (R294). -/
def State.camPixel (s : State) (p : Nat) : Nat := if s.camBits p = 8 then 1 else 2
def State.camBayer (s : State) (p : Nat) : Bool := s.flag (R.CAM_PT_CFG p) F.CAM_PT_CFG_BAYER
/-- Size of the cell image (R300). -/
def State.cellW (s : State) (p : Nat) : Nat := if s.camBayer p then s.camWidth p / 2 else s.camWidth p
def State.cellH (s : State) (p : Nat) : Nat := if s.camBayer p then s.camHeight p / 2 else s.camHeight p
/-- Size of the display image (R300). -/
def State.dispW (s : State) (p : Nat) : Nat := s.cellW p / 2 ^ s.fld (R.CAM_PT_CFG p) F.CAM_PT_CFG_DS
def State.dispH (s : State) (p : Nat) : Nat := s.cellH p / 2 ^ s.fld (R.CAM_PT_CFG p) F.CAM_PT_CFG_DS
/-- Bytes of a coding tile (R303). -/
def State.tileBytes (s : State) (p : Nat) : Nat := if s.flag (R.CAM_PT_CFG p) F.CAM_PT_CFG_CODEFMT then 384 else 256

/-- Bytes that output k needs in its slot (R303). -/
def State.outBytes (s : State) (p k : Nat) : Nat :=
  match k with
  | 0 => 64 * ceilDiv (s.dispW p) 64 * s.dispH p
  | 1 => ceilDiv (s.cellW p) 16 * ceilDiv (s.cellH p) 16 * s.tileBytes p
  | 2 => 64 * ceilDiv (2 * s.camWidth p) 64 * s.camHeight p
  | _ => 2048

/-- Output k is enabled. -/
def State.outOn (s : State) (p k : Nat) : Bool := bitAt (s.fld (R.CAM_PT_CFG p) F.CAM_PT_CFG_OUTEN) k

/-- STRIPE mode (R296). -/
def State.striped (s : State) : Bool := s.flag R.CAM_CTL F.CAM_CTL_SHARE

/-- The port can be enabled as it is configured (R285). -/
def State.camOk (s : State) (p : Nat) : Bool :=
  let w := s.camWidth p
  let h := s.camHeight p
  decide (s.camBits p ≤ 16) && decide (1 ≤ w) && decide (w ≤ 8192) && decide (1 ≤ h) && decide (h ≤ 8192) &&
    !(s.camBayer p && (decide (w % 2 = 1) || decide (h % 2 = 1))) &&
    !(s.striped && decide (262144 < min 64 h * w * s.camPixel p)) &&
    (List.range 4).all fun k =>
      !s.outOn p k || decide (s.outBytes p k ≤ 64 * s.fld (R.CAM_PT_OSLOT p k) F.CAM_PT_OSLOT_LINES)

/-! ### FIFO -/

/-- Bytes that a port's FIFO holds (R294). -/
def State.camFill (s : State) (p : Nat) : Nat :=
  (s.cm p).frames.foldl (fun n f => n + f.lines.length) 0 * s.camWidth p * s.camPixel p

/-- LEVEL follows the fill; the spec does not state its rounding to KiB. -/
def State.camLevel (s : State) (p : Nat) : State :=
  s.setFld (R.CAM_PT_STAT p) F.CAM_PT_STAT_LEVEL (openQuot 4 (s.camFill p) 1024).toNat

/-- The camera write port is in panic (R298). -/
def State.camPanic (s : State) : Bool :=
  (List.range s.camPorts).any fun p =>
    s.flag (R.CAM_PT_CFG p) F.CAM_PT_CFG_EN && decide (4096 * s.fld R.CAM_CTL F.CAM_CTL_PANIC ≤ s.camFill p)

/-- The frame that is arriving at the port. -/
def CamPort.arriving (c : CamPort) : Option Frame :=
  match c.frames.getLast? with
  | some f => if f.complete || f.drop.isSome || c.discard then none else some f
  | none => none

/-- Replace the newest frame. -/
def State.modLastFrame (s : State) (p : Nat) (g : Frame → Frame) : State :=
  s.modCm p fun c =>
    match c.frames.getLast? with
    | some f => { c with frames := c.frames.dropLast ++ [g f] }
    | none => c

/-! ### Records (R303 to R306) -/

def State.camRing (s : State) (p : Nat) : Nat := 2 ^ s.fld (R.CAM_PT_RCTL p) F.CAM_PT_RCTL_LOG2

/-- The 64 bytes of a record (R305): outputs written, and the frame end of a delivered frame. -/
def State.camRecord (s : State) (p : Nat) (f : Frame) (outs : Nat) (fin : Option Stamp) : List Byte :=
  let flags := match f.drop with | some c => 1 + 2 * c | none => 0
  let flags := flags + f.expLate.toNat * 16 + f.expErr.toNat * 32 + outs * 64
  let e := fin.getD ⟨0, 0, 0⟩
  leBytes f.num 2 ++ leBytes f.seq 2 ++ leBytes flags 2 ++ leBytes f.received 2 ++
  leBytes f.start.sec 8 ++ leBytes f.start.ns 4 ++ leBytes f.start.frac 2 ++ [0, 0] ++
  leBytes (f.s % 2 ^ 48) 8 ++ leBytes f.layer 4 ++ leBytes e.ns 4 ++ leBytes e.sec 8 ++
  leBytes (s.camWidth p) 2 ++ leBytes (s.camHeight p) 2 ++ zeros 12

/-- Write a frame's record and advance RWR (R304). -/
def State.putRecord (s : State) (p : Nat) (f : Frame) (outs : Nat) (fin : Option Stamp) : State :=
  let a := 64 * (s.fld (R.CAM_PT_RBASE p) F.CAM_PT_RBASE_LINE + f.index)
  let s := s.writeDram a (s.camRecord p f outs fin)
  let s := s.setFld (R.CAM_PT_RWR p) F.CAM_PT_RWR_INDEX ((f.index + 1) % s.camRing p)
  s.raise R.CAM_ISR F.CAM_ISR_FRAME

/-- Records of dropped frames that stand at the front are written: frame order per port (R304, R306). -/
def State.flushDrops (s : State) (p : Nat) : List Frame → State
  | [] => s.modCm p fun c => { c with frames := [] }
  | f :: fs =>
    if f.drop.isSome then (s.putRecord p f 0 none).flushDrops p fs
    else s.modCm p fun c => { c with frames := f :: fs }

/-- DRAM offset of slot j of output k. -/
def State.slotAddr (s : State) (p k j : Nat) : Nat :=
  64 * (s.fld (R.CAM_PT_OBASE p k) F.CAM_PT_OBASE_LINE + j * s.fld (R.CAM_PT_OSLOT p k) F.CAM_PT_OSLOT_LINES)

/-- The slots of a dropped frame hold undefined data (R306). -/
def State.spoilSlots (s : State) (p : Nat) (f : Frame) : State :=
  s.each ((List.range 4).filter fun k => s.outOn p k) fun k t =>
    let (d, t) := t.draw
    let n := 64 * t.fld (R.CAM_PT_OSLOT p k) F.CAM_PT_OSLOT_LINES
    t.writeDram (t.slotAddr p k f.index) ((List.range n).map fun i => Config.droppedSlotByte d k i)

/-- Count a drop (R306, R311): 1 OVERFLOW, 2 GEOM, 3 DISABLE, 4 INTEGRITY, 5 POWER, 0 RING. -/
def State.countDrop (s : State) (p cause : Nat) : State :=
  let f := if cause = 1 then F.CAM_PT_DROPC_OVF else if cause = 2 then F.CAM_PT_DROPC_GEOM
    else if cause = 0 then F.CAM_PT_DROPC_RING else F.CAM_PT_DROPC_OTHER
  (s.satAdd (R.CAM_PT_DROPC p) f 1).raise R.CAM_ISR F.CAM_ISR_DROP

/-- Drop the frame with a record index, whole (R306): the port discards the rest of it, the pipeline its context. -/
def State.dropFrame (s : State) (p j cause : Nat) : State :=
  match (s.cm p).frames.find? fun f => decide (f.index = j) && f.drop.isNone with
  | none => s
  | some f =>
    let s := s.countDrop p cause
    let s := s.spoilSlots p f
    let served := decide (s.pipe.serving = some p) && f.latched.isSome
    let s := if served then { s with pipe := { serving := none, stripe := 0, last := p } } else s
    let s := s.modCm p fun c =>
      { c with discard := c.discard || !f.complete
               frames := c.frames.map fun g => if g.index = j then { g with drop := some cause, lines := [], vis := [] } else g }
    (s.flushDrops p (s.cm p).frames).camLevel p

/-- Drop every frame of a port. -/
def State.dropAll (s : State) (p cause : Nat) : State :=
  (s.cm p).frames.foldl (fun t f => t.dropFrame p f.index cause) s

/-! ### Exposure sets and sensor control (R288 to R293) -/

/-- EXPSTAT.STATE and I2CCMD.BUSY follow the sets and the transaction. -/
def State.camSync (s : State) (p : Nat) : State :=
  let c := s.cm p
  let st := match c.sendSet, c.pendSet with
    | none, none => 0 | none, some _ => 1 | some _, none => 2 | some _, some _ => 3
  (s.setFld (R.CAM_PT_EXPSTAT p) F.CAM_PT_EXPSTAT_STATE st).setFlag (R.CAM_PT_I2CCMD p) F.CAM_PT_I2CCMD_BUSY c.i2c.isSome

/-- Start an I2C transaction. -/
def State.i2cStart (s : State) (p : Nat) (t : I2c) (data : Word) : State :=
  let w := R.CAM_PT_I2CCFG p
  let s := s.emit (.i2c p (i2cKhz (s.fld w F.CAM_PT_I2CCFG_SPEED))
    (i2cItems (s.fld w F.CAM_PT_I2CCFG_ADDR) (s.flag w F.CAM_PT_I2CCFG_REG16) t data))
  (s.modCm p fun c => { c with i2c := some t }).camSync p

/-- Send the next entry of the set in progress, once no transaction runs (R290). -/
def State.sendNext (s : State) (p : Nat) : State :=
  match (s.cm p).sendSet, (s.cm p).i2c with
  | some e, none =>
    let a := 0x1A06100 + 0x10000 * p + 0x80 * e.bank + 8 * e.next
    let w := (s.reg a).toNat
    let s := s.modCm p fun c => { c with sendSet := some { e with next := e.next + 1 } }
    s.i2cStart p ⟨.set, true, bits w 0 16, bits w 16 2 + 1⟩ (s.reg (a + 4))
  | _, _ => s

/-- Mark the SEQ of the set in progress, while no frame carries it yet (R293). -/
def CamPort.mark (c : CamPort) (g : ExpCarry → ExpCarry) (lat since : Nat) : CamPort :=
  if since < lat then
    match c.seqs.getLast? with
    | some e => { c with seqs := c.seqs.dropLast ++ [g e] }
    | none => c
  else c

/-- A set has failed (R293): the first frame that carries its SEQ, started or still to start, has EXPERR set. -/
def CamPort.markErr (c : CamPort) (e : ExpSend) (lat : Nat) : CamPort :=
  let c := c.mark (fun x => { x with err := true }) lat e.since
  { c with frames := c.frames.map fun f => if e.first = some f.num then { f with expErr := true } else f }

/-- Latency in frames (R291). -/
def State.camLat (s : State) (p : Nat) : Nat := max 1 (s.fld (R.CAM_PT_CFG p) F.CAM_PT_CFG_LAT)

/-- A frame start moves the sets on (R290 to R293): lateness of the set in progress, the SEQ that the frame carries, the start of a
pending set. The frame's SEQ, EXPLATE and EXPERR. -/
def State.frameSeq (s : State) (p : Nat) : (Nat × Bool × Bool) × State :=
  let lat := s.camLat p
  let s := s.modCm p fun c =>
    match c.sendSet with
    | some e =>
      let c := if e.since = 0 then c.mark (fun x => { x with late := true }) lat 0 else c
      let num := s.fld (R.CAM_PT_FRAMES p) F.CAM_PT_FRAMES_NUM
      { c with sendSet := some { e with since := e.since + 1, first := if e.since + 1 = lat then some num else e.first } }
    | none => c
  let l := (s.cm p).seqs.map fun e => { e with left := e.left - 1 }
  let due := l.find? fun e => decide (e.left = 0)
  let s := s.modCm p fun c => { c with seqs := l.filter fun e => decide (e.left ≠ 0) }
  let s := match due with
    | some e => s.setFld (R.CAM_PT_EXPSTAT p) F.CAM_PT_EXPSTAT_CURSEQ e.seq
    | none => s
  let cur := s.fld (R.CAM_PT_EXPSTAT p) F.CAM_PT_EXPSTAT_CURSEQ
  let fl := match due with | some e => (cur, e.late, e.err) | none => (cur, false, false)
  let s := match (s.cm p).sendSet, (s.cm p).pendSet with
    | none, some (b, n, q) =>
      s.modCm p fun c =>
        { c with pendSet := none, sendSet := some (⟨b, n, q, 0, 0, none⟩ : ExpSend), seqs := c.seqs ++ [(⟨lat, q, false, false⟩ : ExpCarry)] }
    | _, _ => s
  (fl, (s.camSync p).sendNext p)

/-- I2C_GO (R289): a write of CAM_PT_I2CCMD with GO = 1 starts a transaction; while one runs or a set is sending it is ignored
with REJ. -/
def execI2cGo (p : Nat) (v : Word) (s : State) : Res :=
  onUnitWrite p s.camPorts 4 (R.CAM_PT_I2CCMD p) s fun s =>
    let w := R.CAM_PT_I2CCMD p
    let s := s.setReg w ((s.reg w &&& 0xFFF80000) ||| (v &&& 0x7FFFF))
    if field F.CAM_PT_I2CCMD_GO v = 0 then s
    else if (s.cm p).i2c.isSome || (s.cm p).sendSet.isSome then s.raise R.CAM_ISR F.CAM_ISR_REJ
    else
      let t : I2c := ⟨.host, s.flag w F.CAM_PT_I2CCMD_WRITE, s.fld w F.CAM_PT_I2CCMD_REG, s.fld w F.CAM_PT_I2CCMD_N + 1⟩
      s.i2cStart p t (s.reg (R.CAM_PT_I2CDATA p))

/-- I2C_DONE (R289, R290, R293): the transaction in progress ends with a code and, for a read, data. A failed entry ends its set. -/
def execI2cDone (p : Nat) (code : Nat) (data : Word) (s : State) : Res :=
  onUnit p s.camPorts 4 s fun s =>
    match (s.cm p).i2c with
    | none => s
    | some t =>
      let s := s.modCm p fun c => { c with i2c := none }
      let s :=
        match t.owner with
        | .stopped => s
        | .host =>
          let s := s.setFld (R.CAM_PT_I2CCMD p) F.CAM_PT_I2CCMD_CODE code
          if !t.write && decide (code = 0) then s.setReg (R.CAM_PT_I2CDATA p) data else s
        | .set =>
          match (s.cm p).sendSet with
          | none => s
          | some e =>
            if code ≠ 0 then
              let lat := s.camLat p
              let s := s.modCm p fun c => { c.markErr e lat with sendSet := none }
              (s.setFlag (R.CAM_PT_EXPSTAT p) F.CAM_PT_EXPSTAT_ERR true).raise R.CAM_ISR F.CAM_ISR_I2C
            else if e.count ≤ e.next then s.modCm p fun c => { c with sendSet := none }
            else s
      (s.camSync p).sendNext p

/-- EXPOSURE_COMMIT (R290, R292). -/
def execExposureCommit (p : Nat) (v : Word) (s : State) : Res :=
  onUnitWrite p s.camPorts 4 (R.CAM_PT_EXPCMD p) s fun s =>
    let w := R.CAM_PT_EXPCMD p
    let s := s.setReg w (v &&& 0x3FFFFF)
    let n := s.fld w F.CAM_PT_EXPCMD_COUNT
    if field F.CAM_PT_EXPCMD_COMMIT v = 0 then s
    else if n = 0 ∨ 16 < n then s.raise R.CAM_ISR F.CAM_ISR_REJ
    else
      let s := if (s.cm p).pendSet.isSome then s.satAdd (R.CAM_PT_EXPSTAT p) F.CAM_PT_EXPSTAT_REPL 1 else s
      let set := (s.fld w F.CAM_PT_EXPCMD_BANK, n, s.fld w F.CAM_PT_EXPCMD_SEQ)
      (s.modCm p fun c => { c with pendSet := some set }).camSync p

/-! ### Enable and disable (R285, R308) -/

/-- CAMERA_PORT_ENABLE (R285): a write of CAM_PT_CFG with EN = 1. -/
def execCameraPortEnable (p : Nat) (v : Word) (s : State) : Res :=
  onUnitWrite p s.camPorts 4 (R.CAM_PT_CFG p) s fun s =>
    let w := R.CAM_PT_CFG p
    let v : Word := (v &&& 0x1FFFFFF) ||| 1
    let old := s.reg w
    if s.flag w F.CAM_PT_CFG_EN then (if v = old then s else s.raise R.CAM_ISR F.CAM_ISR_REJ)
    else
      let t := s.setReg w v
      if !t.camOk p then s.raise R.CAM_ISR F.CAM_ISR_REJ
      else
        let t := t.setFld (R.CAM_PT_STAT p) F.CAM_PT_STAT_STATE 1
        let t := t.setFld (R.CAM_PT_EXPSTAT p) F.CAM_PT_EXPSTAT_CURSEQ 0
        t.modCm p fun c => { c with seqs := [], discard := false }

/-- The port stops: pending and sending sets go, a transaction in progress ends by itself, without effect on a later set (R308). -/
def State.camOff (s : State) (p : Nat) : State :=
  let stop (t : I2c) : I2c := if t.owner = .set then { t with owner := .stopped } else t
  let s := s.modCm p fun c => { c with pendSet := none, sendSet := none, seqs := [], discard := false, i2c := c.i2c.map stop }
  let s := s.setFlag (R.CAM_PT_CFG p) F.CAM_PT_CFG_EN false
  (s.setFld (R.CAM_PT_STAT p) F.CAM_PT_STAT_STATE 0).camSync p

/-- CAMERA_PORT_DISABLE (R285, R308): a write of CAM_PT_CFG with EN = 0. Other fields are written only while EN = 0. -/
def execCameraPortDisable (p : Nat) (v : Word) (s : State) : Res :=
  onUnitWrite p s.camPorts 4 (R.CAM_PT_CFG p) s fun s =>
    let w := R.CAM_PT_CFG p
    let v : Word := v &&& 0x1FFFFFE
    let old := s.reg w
    if s.flag w F.CAM_PT_CFG_EN then
      let s := if v = old &&& 0x1FFFFFE then s else s.raise R.CAM_ISR F.CAM_ISR_REJ
      (s.dropAll p 3).camOff p
    else s.setReg w v

/-! ### A frame at the port (R283 to R286, R304, R306) -/

/-- VS is active at a level (R283). -/
def State.vsActive (s : State) (p : Nat) (level : Bool) : Bool := level != s.flag (R.CAM_PT_CFG p) F.CAM_PT_CFG_VSPOL

/-- The level of VS at an edge, and whether it becomes the wanted one, active or inactive, there (R283). -/
def State.takeVs (s : State) (p : Nat) (level want : Bool) : Bool × State :=
  let turn := decide (s.vsActive p level = want) && decide (s.vsActive p (s.cm p).vs ≠ want)
  (turn, s.modCm p fun c => { c with vs := level })

/-- FRAME_START (R283, R285, R286, R290 to R293, R304): the level of VS at an edge; a frame starts where VS becomes active. -/
def execFrameStart (x : Seen Bool) (s : State) : Res :=
  let p := x.unit
  onUnit p s.camPorts 4 s fun s =>
    let (turn, s) := s.takeVs p x.it true
    if !turn || !s.flag (R.CAM_PT_CFG p) F.CAM_PT_CFG_EN || !s.up dCAM || (s.cm p).arriving.isSome then s
    else
      let num := (s.fld (R.CAM_PT_FRAMES p) F.CAM_PT_FRAMES_NUM + 1) % 65536
      let s := s.setFld (R.CAM_PT_FRAMES p) F.CAM_PT_FRAMES_NUM num
      let ((q, late, err), s) := s.frameSeq p
      let s := s.setFld (R.CAM_PT_STAT p) F.CAM_PT_STAT_STATE 2
      let s := s.modCm p fun c => { c with discard := false }
      let n := s.camRing p
      let j := (s.fld (R.CAM_PT_RWR p) F.CAM_PT_RWR_INDEX + (s.cm p).frames.length) % n
      if (j + 1) % n = s.fld (R.CAM_PT_RRD p) F.CAM_PT_RRD_INDEX % n then
        (s.countDrop p 0).modCm p fun c => { c with discard := true }
      else
        let st := if s.grp.run then s.grp.s - 4 else s.grp.s
        let f : Frame :=
          { num := num, seq := q, index := j, start := mtStamp (s.time.mt - ticksU 4), s := st, layer := s.grp.layer, received := 0
            lines := [], vis := [], latched := none, expLate := late, expErr := err, complete := false, drop := none }
        s.modCm p fun c => { c with frames := c.frames ++ [f] }

/-- The edges that the port samples: those of PCLKEDGE (R283). -/
def State.camEdges (s : State) (p : Nat) (l : List CamEdge) : List CamEdge :=
  l.filter fun e => e.falling == s.flag (R.CAM_PT_CFG p) F.CAM_PT_CFG_PCLKEDGE

/-- The pixels of one line in a run of sampled edges (R283): with DEMODE = 0 the first unbroken run of active DE, while VS is active; with
DEMODE = 1 WIDTH pixels from HSKIP edges after HS becomes active. -/
def State.linePixels (s : State) (p : Nat) (l : List CamEdge) : List Nat :=
  let w := R.CAM_PT_CFG p
  let l := s.camEdges p l
  if s.flag w F.CAM_PT_CFG_DEMODE then
    let hs (e : CamEdge) : Bool := e.hs != s.flag w F.CAM_PT_CFG_HSPOL
    let tail := (l.dropWhile hs).dropWhile fun e => !hs e
    ((tail.drop (s.fld (R.CAM_PT_HSKIP p) F.CAM_PT_HSKIP_HSKIP)).take (s.camWidth p)).map (·.d)
  else
    let on (e : CamEdge) : Bool := (e.de != s.flag w F.CAM_PT_CFG_DEPOL) && s.vsActive p e.vs
    ((l.dropWhile fun e => !on e).takeWhile on).map (·.d)

/-- CAMERA_LINE (R283, R284, R294, R306): the edges of one line of the arriving frame. The pixel that finds the FIFO full, or that breaks
the geometry, drops the frame; whichever comes first is the cause. -/
def execCameraLine (p : Nat) (edges : List CamEdge) (s : State) : Res :=
  onUnit p s.camPorts 4 s fun s =>
    let pixels := s.linePixels p edges
    match (s.cm p).arriving with
    | none => s
    | some f =>
      let w := s.camWidth p
      let extra := decide (f.received = s.camHeight p)
      let n := if extra then 0 else min pixels.length w
      let b := 2 ^ s.camBits p
      if 262144 < s.camFill p + n * s.camPixel p then s.dropFrame p f.index 1
      else if extra || decide (pixels.length ≠ w) then s.dropFrame p f.index 2
      else
        let line := pixels.map fun a => a % b
        (s.modLastFrame p fun f => { f with received := f.received + 1, lines := f.lines ++ [line] }).camLevel p

/-- FRAME_END_AT_PORT (R283, R284): the level of VS at an edge; the frame ends at the port where VS becomes inactive. -/
def execFrameEndAtPort (x : Seen Bool) (s : State) : Res :=
  let p := x.unit
  onUnit p s.camPorts 4 s fun s =>
    let (turn, s) := s.takeVs p x.it false
    if !turn || decide (s.fld (R.CAM_PT_STAT p) F.CAM_PT_STAT_STATE ≠ 2) then s
    else
      let s := s.setFld (R.CAM_PT_STAT p) F.CAM_PT_STAT_STATE 3
      match (s.cm p).arriving with
      | none => s
      | some f =>
        if f.received ≠ s.camHeight p then s.dropFrame p f.index 2
        else s.modLastFrame p fun f => { f with complete := true }

/-! ### Sharing (R295 to R297, R301) -/

/-- The frame of a port that the pipeline would work on: the oldest that is not dropped and not wholly processed. -/
def State.nextFrame (s : State) (p : Nat) : Option Frame :=
  (s.cm p).frames.find? fun f => f.drop.isNone && decide (f.vis.length < s.camHeight p)

/-- Lines of the stripe that a port offers (R296): 64, or the last ones of a frame whose VS has become inactive; 0 for none. -/
def State.stripeOf (s : State) (p : Nat) : Nat :=
  match s.nextFrame p with
  | some f => if 64 ≤ f.lines.length then 64 else if f.complete then f.lines.length else 0
  | none => 0

/-- Ports in order from the one after the port last served. -/
def State.camOrder (s : State) : List Nat :=
  (List.range s.camPorts).map fun i => (s.pipe.last + 1 + i) % s.camPorts

/-- The choice of R296 among the ports for which a condition holds: highest PRIO, then port order. -/
def State.choosePort (s : State) (ok : Nat → Bool) : Option Nat :=
  let prio (p : Nat) : Nat := s.fld (R.CAM_PT_CFG p) F.CAM_PT_CFG_PRIO
  (s.camOrder.filter ok).foldl (fun b p =>
    match b with | some q => if prio q < prio p then some p else b | none => some p) none

/-- Words that the pipeline latches when it starts a frame (R301): 16 ROI words, 4 phase gains, the word with BTHR. -/
def State.latchWords (s : State) (p : Nat) : List Word :=
  let t := 0x1A00000 + 0x10000 * p
  (List.range 16).map (fun i => s.reg (t + 0x6000 + 4 * i)) ++ (List.range 4).map (fun q => s.reg (t + 0x6040 + 4 * q)) ++
    [s.reg (t + 0x6050)]

/-- Replace a port's frame with a record index. -/
def State.modFrame (s : State) (p j : Nat) (g : Frame → Frame) : State :=
  s.modCm p fun c => { c with frames := c.frames.map fun f => if f.index = j then g f else f }

/-- PIPELINE_PORT_SELECT (R295, R296, R301): with no stripe, or no frame in FRAME mode, in progress, the next port is chosen. -/
def execPipelinePortSelect (s : State) : Res :=
  .next
    (if s.pipe.serving.isSome || !s.up dCAM then s
     else
      let pick := if s.striped then s.choosePort fun p => decide (s.stripeOf p ≠ 0) else s.choosePort fun p => (s.nextFrame p).isSome
      match pick with
      | none => s
      | some p =>
        let n := if s.striped then s.stripeOf p else 0
        let s := { s with pipe := { s.pipe with serving := some p, stripe := n } }
        match s.nextFrame p with
        | some f =>
          if f.latched.isSome then s
          else
            let l := s.latchWords p
            s.modFrame p f.index fun f => { f with latched := some l }
        | none => s)

/-! ### Processing (R299, R300) -/

/-- A gain of the flat-field grid, numerator of R299's bilinear interpolation over (W - 1)(H - 1) 2^14 (W - 1, H - 1 at least 1). -/
def State.flatGain (s : State) (p x y : Nat) : Nat :=
  let w := max 1 (s.camWidth p - 1)
  let h := max 1 (s.camHeight p - 1)
  let i := min (64 * x / w) 63
  let j := min (64 * y / h) 63
  let fx := 64 * x - i * w
  let fy := 64 * y - j * h
  let g (i j : Nat) : Nat := (s.reg (0x1A00000 + 0x10000 * p + 4 * (65 * j + i))).toNat % 65536
  (g i j * (w - fx) + g (i + 1) j * fx) * (h - fy) + (g i (j + 1) * (w - fx) + g (i + 1) (j + 1) * fx) * fy

/-- The vision value of a raw pixel (R299). -/
def State.visionValue (s : State) (p : Nat) (l : List Word) (x y a : Nat) : Nat :=
  let black := (s.reg (0x1A06050 + 0x10000 * p)).toNat % 65536
  let q := if s.camBayer p then x % 2 + 2 * (y % 2) else 0
  let k := (nth l (16 + q) 0).toNat % 65536
  let w := max 1 (s.camWidth p - 1)
  let h := max 1 (s.camHeight p - 1)
  let num : Int := ((a * 2 ^ (16 - s.camBits p) : Nat) - (black : Int)) * (s.flatGain p x y : Int) * (k : Int)
  (clampI (roundDiv num (w * h * 2 ^ 28)) 0 65535).toNat

/-- The vision row of a raw line. -/
def State.visionRow (s : State) (p : Nat) (l : List Word) (y : Nat) (line : List Nat) : List Nat :=
  line.zipIdx.map fun e => s.visionValue p l e.2 y e.1

/-- The vision value at a pixel of a processed frame. -/
def visAt (f : Frame) (x y : Nat) : Nat := nth (nth f.vis y []) x 0

/-- An entry of the tone table (R300, R310). -/
def State.tone (s : State) (p t : Nat) : Nat :=
  bits (s.reg (0x1A05000 + 0x10000 * p + 4 * (t / 4))).toNat (8 * (t % 4)) 8

/-- Phase of the red pixel in a cell (R299, R300): RGGB, GRBG, GBRG, BGGR; blue is opposite, the two others are green. -/
def State.redPhase (s : State) (p : Nat) : Nat :=
  let b := s.fld (R.CAM_PT_CFG p) F.CAM_PT_CFG_BAYER
  if b ≤ 4 then b - 1 else Config.bayerAs b % 4

/-- R, G, B of a cell after the tone table, for a Bayer port. -/
def State.cellRgb (s : State) (p : Nat) (f : Frame) (x y : Nat) : Int × Int × Int :=
  let r := s.redPhase p
  let v (q : Nat) : Nat := visAt f (2 * x + q % 2) (2 * y + q / 2)
  let g := if r = 0 ∨ r = 3 then (v 1 + v 2 + 1) / 2 else (v 0 + v 3 + 1) / 2
  (s.tone p (v r / 16), s.tone p (g / 16), s.tone p (v (3 - r) / 16))

/-- Y of a cell (R300). -/
def State.cellY (s : State) (p : Nat) (f : Frame) (x y : Nat) : Nat :=
  if s.camBayer p then
    let (r, g, b) := s.cellRgb p f x y
    ((77 * r + 150 * g + 29 * b + 128) / 256).toNat
  else s.tone p (visAt f x y / 16)

/-- Cb (blue = true) or Cr of a cell (R300). -/
def State.cellC (s : State) (p : Nat) (f : Frame) (blue : Bool) (x y : Nat) : Nat :=
  if s.camBayer p then
    let (r, g, b) := s.cellRgb p f x y
    if blue then ((-43 * r - 85 * g + 128 * b + 128) / 256 + 128).toNat
    else ((128 * r - 107 * g - 21 * b + 128) / 256 + 128).toNat
  else 0x80

/-- A row of the display image (R300). -/
def State.dispRow (s : State) (p : Nat) (f : Frame) (y : Nat) : List Byte :=
  let ds := s.fld (R.CAM_PT_CFG p) F.CAM_PT_CFG_DS
  let n := 2 ^ ds
  (List.range (s.dispW p)).map fun x =>
    if ds = 0 then BitVec.ofNat 8 (s.cellY p f x y)
    else
      let sum := (List.range (n * n)).foldl (fun a i => a + s.cellY p f (n * x + i % n) (n * y + i / n)) 0
      BitVec.ofNat 8 ((sum + 2 ^ (2 * ds - 1)) / 2 ^ (2 * ds))

/-- A coding tile (R300, R303): Y, then Cb and Cr with CODEFMT = 1; beyond the edge the last column and row repeat. -/
def State.codeTile (s : State) (p : Nat) (f : Frame) (tx ty : Nat) : List Byte :=
  let cx (x : Nat) : Nat := min x (s.cellW p - 1)
  let cy (y : Nat) : Nat := min y (s.cellH p - 1)
  let luma := (List.range 256).map fun i => BitVec.ofNat 8 (s.cellY p f (cx (16 * tx + i % 16)) (cy (16 * ty + i / 16)))
  let chroma (blue : Bool) : List Byte := (List.range 64).map fun i =>
    let x := 16 * tx + 2 * (i % 8)
    let y := 16 * ty + 2 * (i / 8)
    let c (dx dy : Nat) : Nat := s.cellC p f blue (cx (x + dx)) (cy (y + dy))
    BitVec.ofNat 8 ((c 0 0 + c 1 0 + c 0 1 + c 1 1 + 2) / 4)
  if s.flag (R.CAM_PT_CFG p) F.CAM_PT_CFG_CODEFMT then luma ++ chroma true ++ chroma false else luma

/-! ### Statistics (R301, R305) -/

/-- Every pixel of a processed frame as x, y, v. -/
def framePixels (f : Frame) : List (Nat × Nat × Nat) :=
  f.vis.zipIdx.flatMap fun r => r.1.zipIdx.map fun e => (e.2, r.2, e.1)

/-- Pixels inside ROI r, as the latched words give it. -/
def roiPixels (f : Frame) (r : Nat) : List (Nat × Nat × Nat) :=
  let l := f.latched.getD []
  let a := (nth l (2 * r) 0).toNat
  let b := (nth l (2 * r + 1) 0).toNat
  (framePixels f).filter fun e =>
    decide (a % 65536 ≤ e.1) && decide (e.1 ≤ b % 65536) && decide (a / 65536 ≤ e.2.1) && decide (e.2.1 ≤ b / 65536)

/-- The largest value of a list, or a default for an empty one. -/
def maxOr (d : Nat) (l : List Nat) : Nat := match l with | [] => d | x :: xs => xs.foldl max x
/-- The smallest value of a list, or a default. -/
def minOr (d : Nat) (l : List Nat) : Nat := match l with | [] => d | x :: xs => xs.foldl min x

/-- The blob of ROI 0: AREA, CX, CY in u24.8, PEAK (R301). The draw names the values of a region without a pixel. -/
structure Blob where
  area : Nat
  cx : Nat
  cy : Nat
  peak : Nat
  deriving DecidableEq, Repr

def blobOf (f : Frame) (draw : Nat) : Blob :=
  let thr := (nth (f.latched.getD []) 20 0).toNat / 65536
  let px := roiPixels f 0
  let on := px.filter fun e => decide (thr ≤ e.2.2)
  let n := on.length
  let c (g : Nat × Nat × Nat → Nat) : Nat :=
    if n = 0 then 0xFFFFFF else (roundDiv (256 * (on.foldl (fun a e => a + g e) 0 : Nat)) n).toNat % 2 ^ 24
  ⟨n, c (·.1), c (·.2.1), maxOr (Config.emptyRegion draw 16 % 65536) (px.map (·.2.2))⟩

/-- The statistics slot (R305). -/
def statBytes (f : Frame) (b : Blob) (draw : Nat) : List Byte :=
  let vs := f.vis.flatten
  let hist := (List.range 256).flatMap fun n => leBytes (vs.filter fun v => decide (v / 256 = n)).length 4
  let roi (r : Nat) : List Byte :=
    let l := (roiPixels f r).map (·.2.2)
    leBytes l.length 4 ++ leBytes (minOr (Config.emptyRegion draw (2 * r) % 65536) l) 2 ++
      leBytes (maxOr (Config.emptyRegion draw (2 * r + 1) % 65536) l) 2 ++
      leBytes (l.foldl (· + ·) 0) 8 ++ leBytes (l.foldl (fun a v => a + v * v) 0) 8 ++ zeros 8
  let blob := leBytes b.area 4 ++ leBytes b.cx 4 ++ leBytes b.cy 4 ++ leBytes b.peak 2 ++ zeros 2
  padTo 2048 (hist ++ ((List.range 8).flatMap roi) ++ blob ++ leBytes f.seq 2 ++ leBytes f.num 2)

/-! ### Stripe end, frame end (R294, R297, R302, R304) -/

/-- Bytes of lines in the FIFO: one for a pixel of 8 bits, else two, left-aligned (R294, R299). -/
def State.fifoBytes (s : State) (p : Nat) (lines : List (List Nat)) : List Byte :=
  lines.flatMap fun l => l.flatMap fun a => leBytes (if s.camPixel p = 1 then a else a * 2 ^ (16 - s.camBits p)) (s.camPixel p)

/-- Lines of pixels from FIFO bytes. -/
def State.fifoLines (s : State) (p n : Nat) (bs : List Byte) : List (List Nat) :=
  let z := s.camPixel p
  (List.range n).map fun y => (List.range (s.camWidth p)).map fun x =>
    let v := leAt bs (z * (s.camWidth p * y + x)) z
    if z = 1 then v else v / 2 ^ (16 - s.camBits p)

/-- Every 64-byte FIFO line as read has the CRC-32C that the port formed over it as written (R294). -/
def fifoSound (n : Nat) (a b : List Byte) : Bool :=
  (List.range (ceilDiv n 64)).all fun i => decide (crc32c ((a.drop (64 * i)).take 64) = crc32c ((b.drop (64 * i)).take 64))

/-- STRIPE_END (R294, R297, R299): the stripe in progress, or in FRAME mode the lines that have arrived, are processed. The operand gives
the bits that the FIFO has flipped since they were written, from the first byte on. A FIFO line that fails its CRC, or an uncorrectable
table word, drops the frame with cause INTEGRITY (R393, R394). -/
def execStripeEnd (flip : List Byte) (s : State) : Res :=
  .next
    (match s.pipe.serving with
    | none => s
    | some p =>
      match s.nextFrame p with
      | none => s
      | some f =>
        let n := if s.striped then s.pipe.stripe else f.lines.length
        if n = 0 then s
        else
          let t := 0x1A00000 + 0x10000 * p
          let (ue, s) := s.readWords 0xFF [(t, 16900), (t + 0x5000, 4096), (t + 0x6000, 0x54)]
          let (lost, s) := s.hiddenUe 7 p 0xFF
          let s := if s.striped then { s with pipe := { serving := none, stripe := 0, last := p } } else s
          let clean := flip.all (· == 0)
          let wrote := if clean then [] else s.fifoBytes p (f.lines.take n)
          let read := flipBytes wrote flip
          if !clean && !fifoSound wrote.length wrote read then ((s.detectCrc 7 0xFF).modFrame p f.index fun f => { f with lines := [] }).dropFrame p f.index 4
          else if ue || lost then s.dropFrame p f.index 4
          else
            let l := f.latched.getD []
            let got := if clean then f.lines.take n else s.fifoLines p (f.lines.take n).length read
            let rows := got.zipIdx.map fun e => s.visionRow p l (f.vis.length + e.2) e.1
            (s.modFrame p f.index fun f => { f with lines := f.lines.drop n, vis := f.vis ++ rows }).camLevel p)

/-- Write rows of bytes at a pitch. -/
def State.putRows (s : State) (a pitch : Nat) (rows : List (List Byte)) : State :=
  rows.zipIdx.foldl (fun t e => t.writeDram (a + pitch * e.2) e.1) s

/-- Write an enabled output of a processed frame into its slot (R303). -/
def State.putOutput (s : State) (p k : Nat) (f : Frame) (b : Blob) (draw : Nat) : State :=
  let a := s.slotAddr p k f.index
  match k with
  | 0 => s.putRows a (64 * ceilDiv (s.dispW p) 64) ((List.range (s.dispH p)).map fun y => s.dispRow p f y)
  | 1 =>
    let w := ceilDiv (s.cellW p) 16
    s.putRows a (s.tileBytes p) ((List.range (w * ceilDiv (s.cellH p) 16)).map fun i => s.codeTile p f (i % w) (i / w))
  | 2 => s.putRows a (64 * ceilDiv (2 * s.camWidth p) 64) (f.vis.map fun r => r.flatMap fun v => leBytes v 2)
  | _ => s.writeDram a (statBytes f b draw)

/-- The mailbox takes a delivered frame's blob (R162, R302). -/
def State.mailbox (s : State) (p : Nat) (f : Frame) (b : Blob) : State :=
  let r (c : Nat) : Nat := if b.area = 0 then 0xFFFF else (c + 128) / 256
  let w := R.SRV_MB_SEQ p
  let s := if s.flag w F.SRV_MB_SEQ_NEW then s.satAdd w F.SRV_MB_SEQ_OVR 1 else s
  let s := (s.setFld w F.SRV_MB_SEQ_SEQ f.seq).setFlag w F.SRV_MB_SEQ_NEW true
  let s := s.setFld (R.SRV_MB_AREA p) F.SRV_MB_AREA_AREA (min b.area (2 ^ 32 - 1))
  let s := (s.setFld (R.SRV_MB_CENT p) F.SRV_MB_CENT_CX (r b.cx)).setFld (R.SRV_MB_CENT p) F.SRV_MB_CENT_CY (r b.cy)
  let s := s.setFld (R.SRV_MB_PEAK p) F.SRV_MB_PEAK_PEAK b.peak
  let s := s.setFld (R.SRV_MB_TEND_NS p) F.SRV_MB_TEND_NS_NS s.stamp.ns
  let s := s.setFld (R.SRV_MB_TEND_S p) F.SRV_MB_TEND_S_SEC s.stamp.sec
  s.raise R.SRV_ISR F.SRV_ISR_MBOX

/-- Deliver a port's oldest frame: its outputs, its record, the mailbox (R302, R304). -/
def State.deliverFrame (s : State) (p : Nat) (f : Frame) : State :=
  let (d, s) := s.draw
  let b := blobOf f d
  let outs := s.fld (R.CAM_PT_CFG p) F.CAM_PT_CFG_OUTEN
  let s := s.each ((List.range 4).filter fun k => s.outOn p k) fun k t => t.putOutput p k f b d
  let s := s.putRecord p f outs (some s.stamp)
  let s := s.setFld (R.CAM_PT_FRAMES p) F.CAM_PT_FRAMES_DELIV (s.fld (R.CAM_PT_FRAMES p) F.CAM_PT_FRAMES_DELIV + 1)
  let s := s.flushDrops p ((s.cm p).frames.drop 1)
  let s := if !s.striped && decide (s.pipe.serving = some p) then { s with pipe := { serving := none, stripe := 0, last := p } } else s
  s.mailbox p f b

/-- A port's oldest frame is wholly received and processed. -/
def State.finished (s : State) (p : Nat) : Option Frame :=
  match (s.cm p).frames with
  | f :: _ => if f.complete && f.drop.isNone && decide (f.vis.length = s.camHeight p) then some f else none
  | [] => none

/-- PIPELINE_FRAME_END (R301, R302, R304). -/
def execPipelineFrameEnd (s : State) : Res :=
  .next
    (match (s.pipe.last :: List.range s.camPorts).find? fun p => (s.finished p).isSome with
    | none => s
    | some p =>
      match s.finished p with
      | some f => s.deliverFrame p f
      | none => s)

/-! ### Triggers, tables, reset -/

/-- A trigger pulse of some ticks starts now (R97, R287): pulses are ORed, an overlap is counted. -/
def State.trigger (s : State) (p width : Nat) : State :=
  let t := s.time.mt + ticksU (80 * width)
  let clash := decide (s.time.mt < (s.cm p).trigUntil)
  let s := if clash then (s.satAdd (R.CAM_PT_TRIG p) F.CAM_PT_TRIG_CNF 1).raise R.CAM_ISR F.CAM_ISR_TRIGCNF else s
  s.modCm p fun c => { c with trigUntil := max c.trigUntil t }

/-- Level of CAM_TRIG[p]: active during a pulse, low when active with TRIGPOL = 1 (R287). -/
def State.camTrig (s : State) (p : Nat) : Bool :=
  decide (s.time.mt < (s.cm p).trigUntil) != s.flag (R.CAM_PT_CFG p) F.CAM_PT_CFG_TRIGPOL

/-- HOST_TRIGGER (R287): a write of CAM_PT_TRIG with TRIG = 1; WIDTH 0 acts as 1. -/
def execHostTrigger (p : Nat) (v : Word) (s : State) : Res :=
  onUnitWrite p s.camPorts 4 (R.CAM_PT_TRIG p) s fun s =>
    let s := s.setFld (R.CAM_PT_TRIG p) F.CAM_PT_TRIG_WIDTH (field F.CAM_PT_TRIG_WIDTH v)
    if field F.CAM_PT_TRIG_TRIG v = 1 then s.trigger p (max 1 (s.fld (R.CAM_PT_TRIG p) F.CAM_PT_TRIG_WIDTH)) else s

/-- Writable bits of a word of a camera table block (R310); 0 outside its entries. -/
def camMask (off : Nat) : Nat :=
  if off < 16900 then 0xFFFF
  else if 0x5000 ≤ off ∧ off < 0x6000 then 0xFFFFFFFF
  else if 0x6000 ≤ off ∧ off < 0x6040 then 0xFFFFFFFF
  else if 0x6040 ≤ off ∧ off < 0x6050 then 0xFFFF
  else if off = 0x6050 then 0xFFFFFFFF
  else if 0x6100 ≤ off ∧ off < 0x6200 then (if off % 8 = 0 then 0x3FFFF else 0xFFFFFFFF)
  else 0

/-- CAMERA_TABLE_WRITE (R290, R310): the grid and the tone table only while EN = 0, a bank only while it is neither pending nor
sending; else ignored with REJ. -/
def execCameraTableWrite (addr : Nat) (v : Word) (s : State) : Res :=
  if addr < 0x1A00000 ∨ 0x1A40000 ≤ addr then onAddr addr s id
  else
    let p := (addr - 0x1A00000) / 0x10000
    onTable p s.camPorts 4 addr s fun s =>
      let off := (addr - 0x1A00000) % 0x10000
      let c := s.cm p
      let bank := (off - 0x6100) / 0x80
      let inUse := (match c.pendSet with | some b => decide (b.1 = bank) | none => false) ||
        (match c.sendSet with | some e => decide (e.bank = bank) | none => false)
      if camMask off = 0 then s
      else if (off < 0x6000 ∧ s.flag (R.CAM_PT_CFG p) F.CAM_PT_CFG_EN) ∨ (0x6100 ≤ off ∧ inUse) then
        s.raise R.CAM_ISR F.CAM_ISR_REJ
      else s.tableStore addr (camMask off) v

/-- The levels of CAM_VS, which the outside holds. -/
def heldVs (t : Tab CamPort) : Tab CamPort :=
  (t.map fun e => (e.1, { CamPort.reset with vs := e.2.vs })).filter fun e => decide (e.2 ≠ CamPort.reset)

/-- The ports without their frames, sets and transactions; the level of VS stays. -/
def State.camCleared (s : State) : State :=
  { s with cam := heldVs s.cam, pipe := ⟨none, 0, 0⟩ }

/-- The camera block after a reset that reaches it (R309): ports disabled, frames lost unrecorded, tables kept. -/
def State.resetCam (s : State) (keep : Access → Bool) : State := (s.resetRegs 0x340000 0x380000 keep).camCleared

/-- CAM_BLOCK_RESET (R309). T32S has no camera block (R4). -/
def execCamBlockReset (s : State) : Res :=
  .next (if s.camPorts = 0 then s.absent .host R.CAM_CTL true else s.resetCam keepRws)

end Sys2Proof.Machine
end

