-- ==== Sys2Proof/Machine/Dram.lean ====
section
/-!
DEFINITION. The DRAM controller: initialisation, scheduling, refresh, training, read errors, self-refresh (R376 to R389).
The real-time ports put their requests into the queue; a request of any other port is carried out within its own command.
-/

namespace Sys2Proof.Machine

/-! ### Panic (R382, R383) -/

/-- The feed is in panic (R110). -/
def State.feedPanic (s : State) : Bool :=
  s.chs.any fun n =>
    let c := s.ch n
    s.fetching n && !c.walkStopped && c.walkCurd.isSome &&
      decide ((c.feed.filter (·.arrived)).length < s.fld (R.SEQ_FEED_CFG n) F.SEQ_FEED_CFG_PANIC)

/-- The log port is in panic (R192). -/
def State.logPanic (s : State) : Bool :=
  s.chs.any fun n =>
    let k := (s.ls n).logLines.length
    decide (0 < k) && decide (s.fld (R.LSR_LOG_CTL n) F.LSR_LOG_CTL_PANIC ≤ k)

/-- Ports in panic: bit 0 feed, bit 1 camera, bit 2 log (R389). -/
def State.panics (s : State) : Nat := s.feedPanic.toNat + 2 * s.camPanic.toNat + 4 * s.logPanic.toNat

/-! ### Scheduling (R379 to R382) -/

/-- Subchannels of the device; the subchannel of a line: its channel and its SUB bit (R379). -/
def State.subs (s : State) : Nat := 2 * s.ddrChannels
def State.subOf (s : State) (line : Nat) : Nat := line % s.subs

/-- The access that a line is (R379): R = A >> (c + 1) splits into bank group, bank, column, rank and row. -/
def State.dramAccess (s : State) (line : Nat) (write : Bool) : Out :=
  let r := line / s.subs
  let two := s.fld R.DDR_CFG F.DDR_CFG_RANKS
  .dramAccess (s.subOf line) (bits r 11 two) (bits r 0 3) (bits r 3 2) (r / 2 ^ (11 + two)) (bits r 5 6) write

/-- A port of a request: 0 feed, 1 camera, 2 log, 3 all others. -/
def DramReq.group (r : DramReq) : Nat := min r.port 3

/-- A request may be served: a channel's log lines go to memory in their order (R79, R191, R192). -/
def State.inOrder (s : State) (r : DramReq) : Bool :=
  r.port != 2 || (match (s.ls r.unit).logLines with | l :: _ => decide (l.line = r.line) | [] => true)

/-- The request that a subchannel serves next: ports in panic first, in the order feed, camera, log; then one per port in turn,
starting after the port served last. -/
def State.nextReq (s : State) (sub : Nat) : Option DramReq :=
  let q := s.ddr.queue.filter fun r => decide (s.subOf r.line = sub) && s.inOrder r
  let of_ (p : Nat) : Option DramReq := q.find? fun r => decide (r.group = p)
  match ([0, 1, 2].filter fun p => bitAt s.panics p).findSome? of_ with
  | some r => some r
  | none => [1, 2, 3, 4].findSome? fun k => of_ ((s.ddr.rr + k) % 4)

/-- The oldest staged log line of a channel goes to the ring (R191, R192). -/
def State.logWrite (s : State) (n line : Nat) : State :=
  match (s.ls n).logLines with
  | [] => s
  | l :: rest =>
    if l.line ≠ line then s
    else
      let s := s.writeDram (64 * line) (padTo 64 (l.entries.flatMap fun e => e.bytes))
      let s := s.modLs n fun x => { x with logLines := rest }
      let w := R.LSR_LOG_WR n
      (s.setFld w F.LSR_LOG_WR_INDEX ((s.fld w F.LSR_LOG_WR_INDEX + 1) % s.logSize n)).fenceRelease n

/-- The list without the first request equal to one. -/
def dropReq (r : DramReq) : List DramReq → List DramReq
  | [] => []
  | x :: xs => if x = r then xs else x :: dropReq r xs

/-- A channel is in a training pause (R387). -/
def State.training (s : State) (k : Nat) : Bool := bitAt (s.fld R.DDR_STAT F.DDR_STAT_TRAINING) k

/-- DRAM_REQUEST (R379 to R382): subchannel sub issues one request as one line access, unless its channel pauses or the ranks are in
self-refresh. A write is carried out; a read goes to those whose data will return. -/
def execDramRequest (sub : Nat) (s : State) : Res :=
  onUnit sub s.subs 8 s fun s =>
    if s.training (sub / 2) || s.flag R.DDR_STAT F.DDR_STAT_SR then s
    else
      match s.nextReq sub with
      | none => s
      | some r =>
        let d := { s.ddr with queue := dropReq r s.ddr.queue, rr := r.group }
        let s : State := { s with ddr := d }.emit (s.dramAccess r.line r.write)
        if r.write then (if r.port = 2 then s.logWrite r.unit r.line else s)
        else { s with ddr := { s.ddr with issued := s.ddr.issued ++ [r] } }

/-! ### Read errors (R384, R385) -/

/-- An uncorrectable line: counted, captured, marked, and reported under Data integrity, which gives it no class. -/
def State.lineUe (s : State) (line : Nat) : State :=
  let s := s.satAdd R.DDR_ECC_UE F.DDR_ECC_UE_COUNT 1
  let s := s.setReg R.DDR_ECC_ADDR (BitVec.ofNat 32 line)
  let s := { s with ddr := { s.ddr with poisoned := tabSet (fun _ => false) s.ddr.poisoned line true } }
  s.detectUe 2 (Config.dramReport line 0 % 16) 0xFF (Config.dramReport line 1 % 2 ^ 24)

/-- What a line read from DRAM leaves (R384, R385): corrected beats count, and with WBACK = 1 the line is written back as a normal
request; an uncorrectable line is poisoned. -/
def State.lineRead (s : State) (line : Nat) (ue : Bool) (corrected : Nat) : State :=
  let s := s.satAdd R.DDR_ECC_CE F.DDR_ECC_CE_COUNT corrected
  if ue || s.poisoned line then s.lineUe line
  else if corrected ≠ 0 ∧ s.flag R.DDR_ECC_CFG F.DDR_ECC_CFG_WBACK then
    { s with ddr := { s.ddr with queue := s.ddr.queue ++ [⟨3, 0, line, true⟩] } }
  else s

/-- DRAM_READ_RETURN (R385): the read of a line returns: the oldest issued one of it, or that of a port whose request is carried out
within its own command, which follows. Log 111. -/
def execDramReadReturn (x : Seen Bool) (corrected : Nat) (s : State) : Res :=
  let line := x.unit
  let ue := x.it
  .next (match s.ddr.issued.find? fun r => decide (r.line = line) with
    | some r => ({ s with ddr := { s.ddr with issued := dropReq r s.ddr.issued } } : State).lineRead line ue corrected
    | none => if s.dramOk (64 * line) 64 then s.lineRead line ue corrected else s)

/-! ### Refresh and periodic training (R383, R387) -/

/-- tREFI of 3.9 us in units of machine time. -/
def refreshU : Nat := 31200000

/-- REFRESH (R383): a refresh of a subchannel that is due is issued, or postponed while a port is in panic, up to four; postponed
ones follow as soon as panic has ended, or when a fifth falls due. -/
def execRefresh (sub : Nat) (s : State) : Res :=
  onUnit sub s.subs 8 s fun s =>
    let due := tabGet (fun _ => 0) s.ddr.refreshDue sub
    let held := tabGet (fun _ => 0) s.ddr.postponed sub
    let isDue := decide (due ≤ s.time.mt)
    if !s.dramUp || (!isDue && (decide (held = 0) || decide (s.panics ≠ 0))) then s
    else
      let next := if isDue then (if due = 0 then s.time.mt else due) + refreshU else due
      let wait := s.panics ≠ 0 ∧ held < 4
      let d := { s.ddr with refreshDue := tabSet (fun _ => 0) s.ddr.refreshDue sub next
                            postponed := tabSet (fun _ => 0) s.ddr.postponed sub (if wait then held + 1 else 0) }
      let s : State := { s with ddr := d }
      if wait then s else s.emit (.dramRefresh sub (held + isDue.toNat))

/-- A channel's eye margins, as its training finds them (R386, R413). -/
def State.quality (s : State) (k : Nat) : State :=
  let (n, s) := s.draw
  let s := s.setFld (R.DDR_QUAL k) F.DDR_QUAL_READ (Config.trained n 0)
  s.setFld (R.DDR_QUAL k) F.DDR_QUAL_WRITE (Config.trained n 1)

/-- One periodic training pause of a channel, of at most 1,250 ticks (R387). -/
def State.trainPause (s : State) (k : Nat) : State :=
  let (n, s) := s.draw
  let len := Config.trained n 2 % 1251
  let s := s.setFld R.DDR_TRAIN F.DDR_TRAIN_LAST len
  let s := s.setFld R.DDR_STAT F.DDR_STAT_TRAINING (putBit (s.fld R.DDR_STAT F.DDR_STAT_TRAINING) k true)
  let d := { s.ddr with trainWait := tabSet (fun _ => 0) s.ddr.trainWait k 0
                        trainEnd := tabSet (fun _ => 0) s.ddr.trainEnd k (s.time.mt + ticksU len + 1) }
  { s with ddr := d }.quality k

/-- The machine time is the channel's training instant (R387). -/
def State.trainInstant (s : State) (k : Nat) : Bool := decide (s.time.mt % nsU 100000000 = nsU (25000000 * k))

/-- PERIODIC_TRAINING (R387): at its instant the pause runs, or waits for the end of panic, for at most 12,500,000 ticks. -/
def execPeriodicTraining (k : Nat) (s : State) : Res :=
  onUnit k s.ddrChannels 4 s fun s =>
    let since := tabGet (fun _ => 0) s.ddr.trainWait k
    if !s.dramUp || s.training k then s
    else if since ≠ 0 then
      if s.panics = 0 ∨ since - 1 + ticksU 12500000 ≤ s.time.mt then s.trainPause k else s
    else if !s.trainInstant k then s
    else if s.panics = 0 then s.trainPause k
    else
      let now := s.time.mt
      let s := s.satAdd R.DDR_TRAIN F.DDR_TRAIN_DEFER 1
      { s with ddr := { s.ddr with trainWait := tabSet (fun _ => 0) s.ddr.trainWait k (now + 1) } }

/-- Training pauses whose length has passed end. -/
def State.trainTick (s : State) : State :=
  s.each (List.range 4) fun k t =>
    let e := tabGet (fun _ => 0) t.ddr.trainEnd k
    if e ≠ 0 ∧ e ≤ t.time.mt + 1 then
      let t := t.setFld R.DDR_STAT F.DDR_STAT_TRAINING (putBit (t.fld R.DDR_STAT F.DDR_STAT_TRAINING) k false)
      { t with ddr := { t.ddr with trainEnd := tabSet (fun _ => 0) t.ddr.trainEnd k 0 } }
    else t

/-! ### Initialisation (R378, R386, R410) -/

/-- DDR_CFG_WRITE (R378): ignored with REJ while READY or BUSY. -/
def execDdrCfgWrite (v : Word) (s : State) : Res :=
  .next (if s.flag R.DDR_STAT F.DDR_STAT_READY || s.flag R.DDR_STAT F.DDR_STAT_BUSY then
      s.setFlag R.DDR_STAT F.DDR_STAT_REJ true
    else s.setReg R.DDR_CFG (v &&& 0x1F))

/-- Initialisation is in progress. -/
def State.initStart (s : State) : State :=
  (s.setFlag R.DDR_STAT F.DDR_STAT_READY false).setFlag R.DDR_STAT F.DDR_STAT_BUSY true

/-- DDR_INIT (R378): DDR_CTL.INIT = 1. -/
def execDdrInit (s : State) : Res := .next s.initStart

/-- Two runs of a training step agree: each trained delay within ABS of group 7, in 1/64 UI (R410). -/
def runsAgree (tol : Nat) (a b : List Nat) : Bool :=
  decide (a.length = b.length) && (a.zip b).all fun x => decide (x.1 ≤ x.2 + tol) && decide (x.2 ≤ x.1 + tol)

/-- A training step is accepted when two consecutive runs of its first four agree (R410). -/
def stepTrained (tol : Nat) (runs : List (List Nat)) : Bool :=
  let r := runs.take 4
  (r.zip (r.drop 1)).any fun x => runsAgree tol x.1 x.2

/-- DDR_INIT_DONE (R378, R386, R410), with the trained delays of each run of each training step: every line zero, READY, margins reported and group 7 applied; or training that never agreed:
READY stays 0, and group 7 is refused. -/
def execDdrInitDone (steps : List (List (List Nat))) (s : State) : Res :=
  occurs (s.flag R.DDR_STAT F.DDR_STAT_BUSY) s fun s =>
    let agreed := steps.all (stepTrained (s.fld (R.CAL_G_TOL 7) F.CAL_G_TOL_ABS))
    let s := s.setFlag R.DDR_STAT F.DDR_STAT_BUSY false
    if agreed then
      let d := { s.ddr with poisoned := [], retrain := false }
      let s := { s with dram := [], ddr := d }
      let s := (s.setFlag R.DDR_STAT F.DDR_STAT_READY true).setFld R.DDR_STAT F.DDR_STAT_SIZE s.dramGiB
      (s.each (List.range s.ddrChannels) fun k t => t.quality k).calResult 7 1
    else s.calResult 7 2

/-! ### Power and reset (R388) -/

/-- The DDR domain drops: accepted writes are done, the ranks go to self-refresh, and feed reads not yet accepted end as
uncorrectable. -/
def State.ddrDown (s : State) : State :=
  let s := s.ddr.queue.foldl (fun t r => if r.port = 2 then t.logWrite r.unit r.line else t) s
  let s := { s with ddr := { s.ddr with queue := [], issued := [], trainWait := [], trainEnd := [] } }
  let s := (s.setFld R.DDR_STAT F.DDR_STAT_TRAINING 0).setFlag R.DDR_STAT F.DDR_STAT_BUSY false
  if s.flag R.DDR_STAT F.DDR_STAT_READY then s.setFlag R.DDR_STAT F.DDR_STAT_SR true else s

/-- The DDR domain is up again: out of self-refresh with one training pause, or initial training after the contents are lost. -/
def State.ddrBack (s : State) : State :=
  if s.ddr.retrain then s.initStart
  else if s.flag R.DDR_STAT F.DDR_STAT_SR then
    (s.setFlag R.DDR_STAT F.DDR_STAT_SR false).each (List.range s.ddrChannels) fun k t => t.trainPause k
  else s

/-- The DDR block after a reset: contents undefined, INIT needed. -/
def State.resetDdr (s : State) (keep : Access → Bool) : State :=
  let s := s.resetRegs 0x300000 0x340000 keep
  let q := s.ddr.queue
  { s with dram := [], ddr := ⟨q, [], 0, [], [], [], [], [], 0, false⟩ }

/-- DDR_BLOCK_RESET (R388): DDR_CTL.BRST. -/
def execDdrBlockReset (s : State) : Res := .next (s.resetDdr keepRws)

end Sys2Proof.Machine
end

