-- ==== Sys2Proof/Machine/Eth.lean ====
section
/-!
DEFINITION. The Ethernet ports (R359 to R363, R372, R375).
-/

namespace Sys2Proof.Machine

/-- Bit of port e in ETH_ISR: 0 TXDONE, 1 RXDONE, 2 LINK, 3 DROP, 4 REJ. -/
def State.ethFlag (s : State) (e b : Nat) : State := s.raiseBit R.ETH_ISR (8 * e + b)

def State.ethOn (s : State) (e : Nat) : Bool := s.flag (R.ETH_PT_CFG e) F.ETH_PT_CFG_EN
def State.ethLink (s : State) (e : Nat) : Bool := s.flag (R.ETH_PT_STAT e) F.ETH_PT_STAT_LINK

/-- One bit of the Ethernet CRC-32 register, reflected. -/
def fcsBit (c : Nat) : Nat := if c % 2 = 1 then (c / 2) ^^^ 0xEDB88320 else c / 2

/-- One byte of the Ethernet CRC-32 register. -/
def fcsByte (c : Nat) (b : Byte) : Nat := fcsBit (fcsBit (fcsBit (fcsBit (fcsBit (fcsBit (fcsBit (fcsBit (c ^^^ b.toNat))))))))

/-- The frame check sequence of IEEE 802.3. -/
def fcs (bs : List Byte) : Nat := (bs.foldl fcsByte 0xFFFFFFFF) ^^^ 0xFFFFFFFF

/-- A frame as transmitted: padded to 64 bytes with its FCS (R361). -/
def ethWire (bs : List Byte) : List Byte := let p := bs ++ zeros (60 - bs.length); p ++ leBytes (fcs p) 4

/-! ### Rings (R361) -/

/-- Descriptor address, descriptors in the ring. -/
def State.txDesc (s : State) (e i : Nat) : Nat := s.fld (R.ETH_PT_TXBASE e) F.ETH_PT_TXBASE_LINE * 64 + 32 * i
def State.rxDesc (s : State) (e i : Nat) : Nat := s.fld (R.ETH_PT_RXBASE e) F.ETH_PT_RXBASE_LINE * 64 + 32 * i
def State.txSize (s : State) (e : Nat) : Nat := 2 ^ s.fld (R.ETH_PT_RSIZE e) F.ETH_PT_RSIZE_TXLOG2
def State.rxSize (s : State) (e : Nat) : Nat := 2 ^ s.fld (R.ETH_PT_RSIZE e) F.ETH_PT_RSIZE_RXLOG2
def State.txHead (s : State) (e : Nat) : Nat := s.fld (R.ETH_PT_TXHEAD e) F.ETH_PT_TXHEAD_INDEX
def State.rxHead (s : State) (e : Nat) : Nat := s.fld (R.ETH_PT_RXHEAD e) F.ETH_PT_RXHEAD_INDEX

/-- The descriptor at an address when it can be read and the device owns it. -/
def State.ownedDesc (s : State) (a : Nat) : Option (List Byte) :=
  if s.dramOk a 32 && !s.rangePoisoned a 32 && decide (leAt (s.readDram a 32) 6 2 % 2 = 1) then some (s.readDram a 32) else none

/-- The descriptor at the head of the transmit ring, when the ring holds one that the device owns. -/
def State.txOwned (s : State) (e : Nat) : Option (List Byte) :=
  if s.txHead e = s.fld (R.ETH_PT_TXTAIL e) F.ETH_PT_TXTAIL_INDEX then none else s.ownedDesc (s.txDesc e (s.txHead e))

/-- The descriptor at the head of the receive ring, when the ring holds one that the device owns. -/
def State.rxOwned (s : State) (e : Nat) : Option (List Byte) :=
  if s.rxHead e = s.fld (R.ETH_PT_RXTAIL e) F.ETH_PT_RXTAIL_INDEX then none else s.ownedDesc (s.rxDesc e (s.rxHead e))

/-- Bytes 0x06 to 0x1F of a released descriptor: OWN = 0, status, length, timestamp (R361). -/
def ethRelease (ctrl status flen : Nat) (t : Stamp) : List Byte :=
  leBytes (ctrl / 2 * 2) 2 ++ leBytes status 2 ++ leBytes flen 2 ++ leBytes t.frac 2 ++ [0, 0] ++ leBytes t.ns 4 ++ zeros 4 ++
    leBytes t.sec 8

/-- No timestamp. -/
def noStamp : Stamp := ⟨0, 0, 0⟩

/-- Release the transmit descriptor at HEAD. -/
def State.txRelease (s : State) (e : Nat) (d : List Byte) (status : Nat) (t : Stamp) : State :=
  let ctrl := leAt d 6 2
  let s := s.writeDram (s.txDesc e (s.txHead e) + 6) (ethRelease ctrl status 0 t)
  let s := s.setFld (R.ETH_PT_TXHEAD e) F.ETH_PT_TXHEAD_INDEX ((s.txHead e + 1) % s.txSize e)
  if bitAt ctrl 1 then s.ethFlag e 0 else s

/-- Why the frame of a descriptor cannot be sent (R361): 1 LENGTH, 2 LINKDOWN, 0 neither. -/
def State.txBad (s : State) (e : Nat) (d : List Byte) : Nat :=
  let n := leAt d 4 2
  if n < 14 ∨ 9212 < n then 1 else if s.ethLink e then 0 else 2

/-- Release owned transmit descriptors from HEAD on whose frames are not sent. -/
def State.txSkip (e : Nat) : Nat → State → State
  | 0, s => s
  | fuel + 1, s =>
    if !s.ethOn e then s
    else
      match s.txOwned e with
      | some d => if s.txBad e d = 0 then s else State.txSkip e fuel (s.txRelease e d (s.txBad e d) noStamp)
      | none => s

/-- Transmit descriptors offered. -/
def State.txOffered (s : State) (e : Nat) : Nat :=
  (s.fld (R.ETH_PT_TXTAIL e) F.ETH_PT_TXTAIL_INDEX + s.txSize e - s.txHead e) % s.txSize e

/-- Release what cannot be sent. -/
def State.txClean (s : State) (e : Nat) : State := State.txSkip e (s.txOffered e) s

/-! ### Timestamps (R222, R363) -/

/-- Calendar time shifted by sixteenths of a ns. -/
def State.calShifted (s : State) (k : Int) : Stamp := calStampOf (((s.time.cal : Int) + k * 268435456).toNat)

def State.txStamp (s : State) (e : Nat) : Stamp := s.calShifted (s.fld (R.ETH_PT_TSLAT e) F.ETH_PT_TSLAT_TX)
def State.rxStamp (s : State) (e : Nat) : Stamp := s.calShifted (-(s.fld (R.ETH_PT_TSLAT e) F.ETH_PT_TSLAT_RX : Int))

/-! ### Commands -/

/-- ETH_PT_CFG takes a write: MODE only while EN = 0 and not 3, else it stays with REJ (R375). -/
def State.storeEthCfg (s : State) (e : Nat) (v : Word) : State :=
  let w := R.ETH_PT_CFG e
  let old := s.fld w F.ETH_PT_CFG_MODE
  let m := field F.ETH_PT_CFG_MODE v
  let v : Word := v &&& 0xFF
  if m ≠ old ∧ (s.ethOn e ∨ m = 3) then (s.setReg w (withField F.ETH_PT_CFG_MODE v old)).ethFlag e 4 else s.setReg w v

/-- A port's link state. -/
def State.setLink (s : State) (e : Nat) (up : Bool) : State :=
  if s.ethLink e = up then s else (s.setFlag (R.ETH_PT_STAT e) F.ETH_PT_STAT_LINK up).ethFlag e 2

/-- A port is disabled: no link, no pause, no transaction. -/
def State.ethOff (s : State) (e : Nat) : State :=
  let s := s.setFlag (R.ETH_PT_CFG e) F.ETH_PT_CFG_EN false
  let s := s.setFlag (R.ETH_PT_I2CCMD e) F.ETH_PT_I2CCMD_BUSY false
  (s.modEt e fun _ => ⟨0, none⟩).setLink e false

/-- ETH_PORT_ENABLE (R359, R360, R375): a write of ETH_PT_CFG. -/
def execEthPortEnable (e : Nat) (v : Word) (s : State) : Res :=
  onUnitWrite e s.ethPorts 2 (R.ETH_PT_CFG e) s fun s =>
    let s := s.storeEthCfg e v
    if s.ethOn e then s else (s.modEt e fun p => { p with pauseUntil := 0 }).setLink e false

/-- ETH_TX_DOORBELL (R361): ETH_PT_TXTAIL takes the index, bits at or above TXLOG2 ignored. -/
def execEthTxDoorbell (e : Nat) (v : Word) (s : State) : Res :=
  onUnitWrite e s.ethPorts 2 (R.ETH_PT_TXTAIL e) s fun s =>
    (s.setFld (R.ETH_PT_TXTAIL e) F.ETH_PT_TXTAIL_INDEX (v.toNat % s.txSize e)).txClean e

/-- ETH_RX_DOORBELL (R361): ETH_PT_RXTAIL takes the index, bits at or above RXLOG2 ignored. -/
def execEthRxDoorbell (e : Nat) (v : Word) (s : State) : Res :=
  onUnitWrite e s.ethPorts 2 (R.ETH_PT_RXTAIL e) s fun s =>
    s.setFld (R.ETH_PT_RXTAIL e) F.ETH_PT_RXTAIL_INDEX (v.toNat % s.rxSize e)

/-- ETH_FRAME_SENT (R359, R361, R363): the frame of the descriptor at HEAD goes out, unless a PAUSE holds transmission, and the
descriptor is released. The command stands at the instant at which the frame's timestamp point crosses the ball: DESIGN CHOICE
(log 110). -/
def execEthFrameSent (e : Nat) (s : State) : Res :=
  onUnit e s.ethPorts 2 s fun s =>
    let s := s.txClean e
    if !s.ethOn e || decide (s.time.mt < (s.et e).pauseUntil) then s
    else
      match s.txOwned e with
      | none => s
      | some d =>
        let frame := s.readDram (64 * leAt d 0 4) (leAt d 4 2)
        let s := s.emit (.ethFrame e (ethWire frame))
        let t := if bitAt (leAt d 6 2) 2 then s.txStamp e else noStamp
        (s.txRelease e d 0 t).txClean e

/-- The station address, first octet lowest. -/
def State.ethMac (s : State) (e : Nat) : Nat :=
  s.fld (R.ETH_PT_MAC_LO e) F.ETH_PT_MAC_LO_MAC + s.fld (R.ETH_PT_MAC_HI e) F.ETH_PT_MAC_HI_MAC * 2 ^ 32

/-- The port accepts a frame's destination address (R362). -/
def State.ethAccepts (s : State) (e : Nat) (bs : List Byte) : Bool :=
  let da := leAt bs 0 6
  s.flag (R.ETH_PT_CFG e) F.ETH_PT_CFG_PROMISC || decide (da = s.ethMac e) || decide (da = 2 ^ 48 - 1) ||
    (bitAt da 0 && s.flag (R.ETH_PT_CFG e) F.ETH_PT_CFG_ALLMC)

/-- Count a dropped frame (R362). -/
def State.ethDrop (s : State) (e : Nat) (f : Field) : State := (s.satAdd (R.ETH_PT_DROP e) f 1).ethFlag e 3

/-- ETH_FRAME_RECEIVED (R359, R361 to R363): a frame and the FCS at its end: it is filtered, dropped and counted, or stored without
the FCS and stamped. A frame below 64 bytes is none of R359. The command stands at the instant at which the frame's timestamp point crosses the
ball: DESIGN CHOICE (log 110). An uncorrectable word of its buffer drops it (R393), counted as an FCS failure: DESIGN CHOICE (log 112). -/
def execEthFrameReceived (e : Nat) (bytes : List Byte) (check : Word) (s : State) : Res :=
  onUnit e s.ethPorts 2 s fun s =>
    if !s.ethOn e || decide (bytes.length < 60) || !s.ethAccepts e bytes then s
    else if check.toNat ≠ fcs bytes then s.ethDrop e F.ETH_PT_DROP_FCS
    else
      let (ue, s) := s.hiddenUe 9 (32 + e) 0xFF
      if ue then s.ethDrop e F.ETH_PT_DROP_FCS
      else
      match s.rxOwned e with
      | none => s.ethDrop e F.ETH_PT_DROP_NOBUF
      | some d =>
        if leAt d 4 2 < bytes.length ∨ 9212 < bytes.length then s.ethDrop e F.ETH_PT_DROP_NOBUF
        else
          let ctrl := leAt d 6 2
          let t := s.rxStamp e
          let s := s.writeDram (64 * leAt d 0 4) bytes
          let s := s.writeDram (s.rxDesc e (s.rxHead e) + 6) (ethRelease ctrl 0 bytes.length t)
          let s := s.setFld (R.ETH_PT_RXHEAD e) F.ETH_PT_RXHEAD_INDEX ((s.rxHead e + 1) % s.rxSize e)
          if bitAt ctrl 1 then s.ethFlag e 1 else s

/-- 512 bit times in units of machine time at the port's rate. -/
def State.quantumU (s : State) (e : Nat) : Nat :=
  let m := s.fld (R.ETH_PT_CFG e) F.ETH_PT_CFG_MODE
  if m = 0 then 4096000 else if m = 1 then 409600 else 163840

/-- PAUSE_RECEIVED (R359): with RXPAUSE = 1 transmission stops for the quanta given. -/
def execPauseReceived (e : Nat) (quanta : Nat) (s : State) : Res :=
  onUnit e s.ethPorts 2 s fun s =>
    if s.ethOn e && s.flag (R.ETH_PT_CFG e) F.ETH_PT_CFG_RXPAUSE then
      let until_ := s.time.mt + s.quantumU e * (quanta % 65536)
      s.modEt e fun p => { p with pauseUntil := until_ }
    else s

/-- ETH_LINK_CHANGE (R359, R361, R375): the link is up when the PCS is locked and, in 1000BASE-X with AN, negotiation is complete. -/
def execEthLinkChange (e : Nat) (pcs : PcsState) (s : State) : Res :=
  onUnit e s.ethPorts 2 s fun s =>
    let an := s.flag (R.ETH_PT_CFG e) F.ETH_PT_CFG_AN && decide (s.fld (R.ETH_PT_CFG e) F.ETH_PT_CFG_MODE = 0)
    if s.ethOn e then (s.setLink e (pcs.locked && (pcs.negotiated || !an))).txClean e else s

/-- Level of ETH_TXDIS[e]: high while EN = 0 (R360). -/
def State.ethTxdis (s : State) (e : Nat) : Bool := !s.ethOn e

/-- ETH_I2C_GO (R360): a write of ETH_PT_I2CCMD with GO = 1 starts a transaction; while one runs it is ignored with REJ. Register
addresses have one byte. A SPEED of 2 acts as 1 (R375). -/
def execEthI2cGo (e : Nat) (v : Word) (s : State) : Res :=
  onUnitWrite e s.ethPorts 2 (R.ETH_PT_I2CCMD e) s fun s =>
    let w := R.ETH_PT_I2CCMD e
    let s := s.setReg w ((s.reg w &&& 0xFFF80000) ||| (v &&& 0x7FFFF))
    if field F.ETH_PT_I2CCMD_GO v = 0 then s
    else if (s.et e).i2c.isSome then s.ethFlag e 4
    else
      let t : I2c :=
        ⟨.host, s.flag w F.ETH_PT_I2CCMD_WRITE, s.fld w F.ETH_PT_I2CCMD_REG % 256, s.fld w F.ETH_PT_I2CCMD_N + 1⟩
      let g := R.ETH_PT_I2CCFG e
      let s := s.emit (.i2c (16 + e) (min 400 (i2cKhz (s.fld g F.ETH_PT_I2CCFG_SPEED)))
        (i2cItems (s.fld g F.ETH_PT_I2CCFG_ADDR) false t (s.reg (R.ETH_PT_I2CDATA e))))
      (s.modEt e fun p => { p with i2c := some t }).setFlag w F.ETH_PT_I2CCMD_BUSY true

/-- ETH_I2C_DONE (R289, R360): the transaction in progress ends with a code and, for a read that succeeded, data. -/
def execEthI2cDone (e : Nat) (code : Nat) (data : Word) (s : State) : Res :=
  onUnit e s.ethPorts 2 s fun s =>
    match (s.et e).i2c with
    | none => s
    | some t =>
      let w := R.ETH_PT_I2CCMD e
      let s := (s.modEt e fun p => { p with i2c := none }).setFlag w F.ETH_PT_I2CCMD_BUSY false
      let s := s.setFld w F.ETH_PT_I2CCMD_CODE code
      if !t.write && decide (code = 0) then s.setReg (R.ETH_PT_I2CDATA e) data else s

/-! ### Resets (R372) -/

/-- Every port is disabled; registers stay (a drop of HOST). -/
def State.ethDropped (s : State) : State := s.each (List.range s.ethPorts) fun e t => t.ethOff e

/-- The ETH block with its reset values. -/
def State.resetEth (s : State) (keep : Access → Bool) : State := { s.resetRegs 0x290000 0x2C0000 keep with eth := [] }

/-- ETH_BLOCK_RESET (R372): ETH_CTL.BRST. -/
def execEthBlockReset (s : State) : Res := .next (s.resetEth keepRws)

end Sys2Proof.Machine
end

