-- ==== Sys2Proof/Machine/Sine.lean ====
section
/-!
DEFINITION. The quarter wave that R260's cosine and sine read: sin(2 pi k / 1024) in units of 2^-48, k = 0 to 256, each to the nearest unit.
The error stays below 2^-49, and no product with a current of 16 bits comes so near a whole mA that its floor could differ.
-/

namespace Sys2Proof.Machine

/-- Entries 0 to 63. -/
def quarter0 : List Nat := [
  0, 1727097988720, 3454130953177, 5181033871556, 6907741726938, 8634189509748,
  10360312220203, 12086044870759, 13811322488556, 15536080117868, 17260252822544, 18983775688458,
  20706583825946, 22428612372257, 24149796493988, 25870071389531, 27589372291508, 29307634469212,
  31024793231043, 32740783926944, 34455541950835, 36169002743046, 37881101792747, 39591774640376,
  41300956880066, 43008584162074, 44714592195197, 46418916749196, 48121493657216, 49822258818197,
  51521148199294, 53218097838282, 54913043845964, 56605922408583, 58296669790217, 59985222335182,
  61671516470431, 63355488707941, 65037075647110, 66716213977140, 68392840479422, 70066892029916,
  71738305601527, 73407018266478, 75072967198682, 76736089676102, 78396323083117, 80053604912878,
  81707872769660, 83359064371214, 85007117551109, 86651970261075, 88293560573336, 89931826682945,
  91566706910110, 93198139702513, 94826063637631, 96450417425050, 98071139908767, 99688170069496,
  101301447026966, 102910910042212, 104516498519860, 106118152010411]

/-- Entries 64 to 127. -/
def quarter1 : List Nat := [
  107715810212518, 109309412975251, 110898900300367, 112484212344568, 114065289421750, 115642072005256,
  117214500730111, 118782516395264, 120346059965811, 121905072575220, 123459495527548, 125009270299648,
  126554338543377, 128094642087789, 129630122941326, 131160723294001, 132686385519577, 134207052177732,
  135722666016227, 137233169973058, 138738507178603, 140238620957768, 141733454832118, 143222952522001,
  144707057948671, 146185715236399, 147658868714572, 149126462919796, 150588442597977, 152044752706407,
  153495338415834, 154940145112526, 156379118400326, 157812204102705, 159239348264795, 160660497155425,
  162075597269143, 163484595328229, 164887438284703, 166284073322321, 167674447858562, 169058509546611,
  170436206277328, 171807486181209, 173172297630342, 174530589240346, 175882309872311, 177227408634718,
  178565834885359, 179897538233242, 181222468540490, 182540575924224, 183851810758447, 185156123675909,
  186453465569965, 187743787596426, 189027041175397, 190303177993107, 191572150003724, 192833909431172,
  194088408770919, 195335600791775, 196575438537666, 197807875329401]

/-- Entries 128 to 191. -/
def quarter2 : List Nat := [
  199032864766430, 200250360728596, 201460317377861, 202662689160044, 203857430806525, 205044497335956,
  206223844055955, 207395426564783, 208559200753021, 209715122805230, 210863149201596, 212003236719574,
  213135342435515, 214259423726278, 215375438270838, 216483344051877, 217583099357370, 218674662782150,
  219757993229472, 220833049912557, 221899792356128, 222958180397935, 224008174190266, 225049734201449,
  226082821217338, 227107396342791, 228123421003133, 229130856945610, 230129666240828, 231119811284182,
  232101254797271, 233073959829301, 234037889758477, 234993008293383, 235939279474345, 236876667674788,
  237805137602576, 238724654301342, 239635183151801, 240536689873056, 241429140523890, 242312501504039,
  243186739555463, 244051821763591, 244907715558569, 245754388716479, 246591809360554, 247419945962381,
  248238767343086, 249048242674504, 249848341480349, 250639033637352, 251420289376400, 252192079283656,
  252954374301667, 253707145730456, 254450365228604, 255184004814317, 255908036866479, 256622434125693,
  257327169695306, 258022217042422, 258707549998900, 259383142762344]

/-- Entries 192 to 255. -/
def quarter3 : List Nat := [
  260048969897066, 260705006335052, 261351227376901, 261987608692755, 262614126323218, 263230756680255,
  263837476548081, 264434263084037, 265021093819447, 265597946660465, 266164799888908, 266721632163072,
  267268422518537, 267805150368954, 268331795506824, 268848338104256, 269354758713711, 269851038268740,
  270337158084700, 270813099859452, 271278845674059, 271734377993454, 272179679667102, 272614733929647,
  273039524401543, 273454035089667, 273858250387927, 274252155077845, 274635734329132, 275008973700247,
  275371859138937, 275724376982772, 276066513959654, 276398257188318, 276719594178820, 277030512833003,
  277331001444957, 277621048701455, 277900643682381, 278169775861142, 278428435105065, 278676611675774,
  278914296229562, 279141479817740, 279358153886975, 279564310279609, 279759941233972, 279945039384668,
  280119597762857, 280283609796515, 280437069310680, 280579970527690, 280712308067394, 280834076947358,
  280945272583053, 281045890788027, 281135927774060, 281215380151311, 281284244928443, 281342519512736,
  281390201710184, 281427289725581, 281453782162583, 281469678023765]

/-- Entries 256 to 256. -/
def quarter4 : List Nat := [
  281474976710656]

/-- The quarter wave. -/
def quarterWave : List Nat := quarter0 ++ quarter1 ++ quarter2 ++ quarter3 ++ quarter4

/-- sin(2 pi k / 1024) in 2^-48. -/
def sine48 (k : Nat) : Int :=
  let k := k % 1024
  if k ≤ 256 then (nth quarterWave k 0 : Nat)
  else if k ≤ 512 then (nth quarterWave (512 - k) 0 : Nat)
  else if k ≤ 768 then -((nth quarterWave (k - 512) 0 : Nat) : Int)
  else -((nth quarterWave (1024 - k) 0 : Nat) : Int)

/-- cos(2 pi k / 1024) in 2^-48. -/
def cosine48 (k : Nat) : Int := sine48 (k + 256)

/-- The step k of 1/1024 cycle whose sector, from k to k + 1, holds the direction (x, y), and whether it lies on k itself (R261). -/
def sectorOf (x y : Int) : Nat × Bool :=
  let side (k : Nat) : Int := cosine48 k * y - sine48 k * x
  let ahead (k : Nat) : Bool := decide (0 ≤ side k) && decide (side (k + 1) < 0)
  match (List.range 1024).find? ahead with
  | some k => (k, decide (side k = 0))
  | none => (0, false)

end Sys2Proof.Machine
end

