-- ==== Sys2Proof/Machine/Motion.lean ====
section
/-!
DEFINITION. Motion axes: the profile generator, homing, limits, the chopper drive, axis faults and the host's commands
(R98, R252 to R269, R278 to R280), with the speed estimate of the feedback interfaces at each generator instant (R273).
-/

namespace Sys2Proof.Machine

/-! ### Profile sets (R255) -/

/-- Address of word w of profile set k of an axis. -/
def profileAddr (a k w : Nat) : Nat := 0x1900000 + 0x100 * a + 0x20 * k + 4 * w

/-- A word of a profile set: 0 VSTART, 1 VSTOP, 2 VB, 3 VMAX, 4 A1, 5 A2, 6 D2, 7 D1. -/
def State.profile (s : State) (a k w : Nat) : Nat := (s.reg (profileAddr a k w)).toNat

/-- A profile set is valid for the axis's mode (R255); 0.8 ns is 1/1,250,000,000 s. -/
def State.setValid (s : State) (a k : Nat) : Bool :=
  let p := s.profile a k
  decide (p 0 ≤ p 2) && decide (p 1 ≤ p 2) && decide (p 2 ≤ p 3) && decide (p 3 ≤ 5000000) &&
    decide (p 4 ≠ 0) && decide (p 5 ≠ 0) && decide (p 6 ≠ 0) && decide (p 7 ≠ 0) &&
    (!s.flag (R.MOT_AX_CFG a) F.MOT_AX_CFG_MODE ||
      decide (p 3 * 2 * s.fld (R.MOT_AX_DRV a) F.MOT_AX_DRV_STEPW ≤ 1250000000))

/-- Velocity of an axis in counts/s. -/
def State.vel (s : State) (a : Nat) : Int := s.sfld (R.MOT_AX_VEL a) F.MOT_AX_VEL_V

def State.setVel (s : State) (a : Nat) (v : Int) : State := s.setSfld (R.MOT_AX_VEL a) F.MOT_AX_VEL_V v

def State.setAxisState (s : State) (a st : Nat) : State := s.setFld (R.MOT_AX_STAT a) F.MOT_AX_STAT_STATE st

/-- The axis is in step/dir mode (R264). -/
def State.stepDir (s : State) (a : Nat) : Bool := s.flag (R.MOT_AX_CFG a) F.MOT_AX_CFG_MODE

/-- The interface that an axis takes home, limits and the encoder count from. -/
def State.axisFbk (s : State) (a : Nat) : Nat := s.fld (R.MOT_AX_CFG a) F.MOT_AX_CFG_FBK

/-- The integer part of a position, rounded toward minus infinity (R257). -/
def Motor.counts (m : Motor) : Int := m.pos / 65536

/-- Post an axis record (R278). -/
def State.axisRecord (s : State) (a kind cause : Nat) : State :=
  let m := s.mo a
  s.post 0xFF0C 0xFF (a + kind * 16 + cause * 256 + unsigned 32 m.counts * 2 ^ 32) (unsigned 32 m.target)

/-- Homing ends with a cause, or well with cause 0 (R267, R268). -/
def State.homingEnd (s : State) (a cause : Nat) : State :=
  let s := s.setFld (R.MOT_AX_STAT a) F.MOT_AX_STAT_HCAUSE cause
  let s := s.setFlag (R.MOT_AX_STAT a) F.MOT_AX_STAT_HOMED (decide (cause = 0))
  (s.raise R.MOT_ISR F.MOT_ISR_HOME).axisRecord a (if cause = 0 then 3 else 4) cause

/-- The drive of an axis stops: no GO, no steps, duties zero (R265, R269). The gates follow from the axis's state (State.mdrv). -/
def State.driveOff (s : State) (a : Nat) : State :=
  s.modMo a fun m =>
    { m with go := none, steps := 0, stepsEnd := false, stallRun := 0, intA := 0, intB := 0, dutyA := 0, dutyB := 0, pwmAt := none
             overA := 0, overB := 0 }

/-- An axis fault (R265), which an enabled axis takes: v = 0, the gates low, HOMED cleared, FAULT. Homing ends with CANCEL. -/
def State.axisFault (s : State) (a cause : Nat) : State :=
  let st := s.axisState a
  if st = 0 ∨ st = 5 then s
  else
    let s := s.setVel a 0
    let s := if st = 3 then s.homingEnd a 4 else s
    let s := s.setFlag (R.MOT_AX_STAT a) F.MOT_AX_STAT_HOMED false
    let s := (s.setAxisState a 5).setFld (R.MOT_AX_STAT a) F.MOT_AX_STAT_FCAUSE cause
    let s := s.setFlag (R.MOT_AX_STAT a) F.MOT_AX_STAT_STANDSTILL false
    (s.driveOff a).raise R.MOT_ISR F.MOT_ISR_FAULT |>.axisRecord a 1 cause

/-- An axis whose load angle comes from a faulted interface takes the fault FEEDBACK (R265, R274). -/
def State.feedbackFault (s : State) (a : Nat) : State :=
  if !s.stepDir a && decide (s.fld (R.MOT_AX_CFG a) F.MOT_AX_CFG_LASRC = 1) &&
      s.flag (R.FBK_STAT (s.axisFbk a)) F.FBK_STAT_IDXERR then s.axisFault a 5
  else s

/-! ### The generator (R257) -/

/-- v T in s32.16 counts, T = 10 us, rounded once. -/
def vT (v : Int) : Int := roundDiv (v * 65536) 100000

/-- A rate times T in whole counts/s, rounded once. -/
def rT (r : Nat) : Int := roundDiv r 100000

/-- stopdist(x) + x T >= dist, with the distance in s32.16 counts; the stopping distance is exact. -/
def mustBrake (x : Int) (vstop vb d2 d1 : Int) (dist : Int) : Bool :=
  let num := if vb < x then (x * x - vb * vb) * d1 + (vb * vb - vstop * vstop) * d2
    else if vstop < x then (x * x - vstop * vstop) * d2 else 0
  let den := 2 * d1 * d2
  decide (dist * den ≤ num * 65536 + vT x * den)

/-- One braking interval with the set's D2 and D1. -/
def brake (v : Int) (vstop vb : Int) (d2 d1 : Nat) : Int :=
  let m := |v| - rT (if vb < |v| then d2 else d1)
  if m ≤ vstop then 0 else sgn v * m

/-- The new velocity for a distance to go (R257), from the set in use. -/
def State.plan (s : State) (a k : Nat) (v dist : Int) : Int :=
  let p := s.profile a k
  let vstop : Int := p 1
  let vb : Int := p 2
  let vmax : Int := p 3
  let sg := sgn dist
  if sg = 0 ∧ v = 0 then 0
  else if v = 0 then sg * (p 0 : Nat)
  else if sg ≠ sgn v || mustBrake |v| vstop vb (p 6) (p 7) |dist| then brake v vstop vb (p 6) (p 7)
  else if |v| < vmax then sgn v * min vmax (|v| + rT (if vb ≤ |v| then p 5 else p 4))
  else if vmax < |v| then sgn v * max vmax (|v| - rT (if vb < |v| then p 6 else p 7))
  else v

/-- Braking at MOT_AX_DLIM (R266); 0 stops in one instant. -/
def State.limitBrake (s : State) (a : Nat) (v : Int) : Int :=
  let d := s.fld (R.MOT_AX_DLIM a) F.MOT_AX_DLIM_DLIM
  if d = 0 then 0 else sgn v * max 0 (|v| - rT d)

/-- The limit stop of R266: the velocity after it, and whether a limit stops or holds the axis. -/
def State.limited (s : State) (a : Nat) (v vn : Int) : Int × Bool :=
  let st := R.FBK_STAT (s.axisFbk a)
  let pos := s.flag st F.FBK_STAT_LIMP
  let neg := s.flag st F.FBK_STAT_LIMN
  if pos && decide (0 < v) then (s.limitBrake a v, true)
  else if neg && decide (v < 0) then (s.limitBrake a v, true)
  else if pos && decide (0 < vn) then (0, true)
  else if neg && decide (vn < 0) then (0, true)
  else (vn, false)

/-- LIMSTOP follows the limit stop; its start is reported (R266). -/
def State.noteLimit (s : State) (a : Nat) (lim : Bool) : State :=
  let was := s.flag (R.MOT_AX_STAT a) F.MOT_AX_STAT_LIMSTOP
  let s := s.setFlag (R.MOT_AX_STAT a) F.MOT_AX_STAT_LIMSTOP lim
  if lim && !was then (s.raise R.MOT_ISR F.MOT_ISR_LIMIT).axisRecord a 2 0 else s

/-- Move to a position with a velocity: step pulses for the next interval in step/dir mode (R264). -/
def State.moveTo (s : State) (a : Nat) (pos v : Int) : State :=
  let step := s.stepDir a
  let now := s.time.mt
  let s := s.modMo a fun m =>
    let d := pos / 65536 - m.pos / 65536
    { m with pos := pos, stepsEnd := decide (m.steps ≠ 0), steps := if step then d.natAbs else 0, stepsAt := now
             dirPos := if step ∧ d ≠ 0 then decide (0 < d) else m.dirPos }
  s.setVel a v

/-- The axis has passed its target in the direction of its velocity (R258). -/
def passed (p0 p1 target : Int) : Bool :=
  (decide (p0 ≤ target) && decide (target < p1)) || (decide (target ≤ p0) && decide (p1 < target))

/-- Report a passed target (R258). -/
def State.overshoot (s : State) (a : Nat) : State :=
  let s := s.setFlag (R.MOT_AX_STAT a) F.MOT_AX_STAT_OVERSHOOT true
  (s.raise R.MOT_ISR F.MOT_ISR_OVERSHOOT).axisRecord a 5 0

/-- One instant of an axis in IDLE or MOVING (R257, R258, R266). -/
def State.runMotor (s : State) (a : Nat) : State :=
  let k := s.fld (R.MOT_AX_STAT a) F.MOT_AX_STAT_PSLOT
  let m := s.mo a
  let v := s.vel a
  let dist := m.target * 65536 - m.pos
  let (v1, lim) := s.limited a v (s.plan a k v dist)
  let vstop : Int := s.profile a k 1
  let land := decide (v1 ≠ 0) && decide (sgn v1 = sgn dist) && decide (|dist| ≤ vT |v1|) && decide (|v1| ≤ vstop)
  let pos := if land then m.target * 65536 else m.pos + vT v1
  let s := s.moveTo a pos (if land then 0 else v1)
  let s := s.noteLimit a lim
  let s := if !land && passed m.pos pos (m.target * 65536) then s.overshoot a else s
  let rest := decide (s.vel a = 0) && decide (pos = m.target * 65536)
  let now := s.time.mt
  let s := if rest && s.axisState a = 2 then s.modMo a fun m => { m with restAt := now } else s
  s.setAxisState a (if rest then 1 else 2)

/-- One instant of homing (R263, R267, R268), which leaves standstill: toward HDIR without an end until the edge; then braking with the set, or at DLIM after a
limit; at rest the position is redefined, or the failure stands. -/
def State.homeAxis (s : State) (a : Nat) : State :=
  let k := s.fld (R.MOT_AX_STAT a) F.MOT_AX_STAT_PSLOT
  let p := s.profile a k
  let m := s.mo a
  let v := s.vel a
  let dir : Int := if s.flag (R.MOT_AX_HOME a) F.MOT_AX_HOME_HDIR then 1 else -1
  let stopping := m.homeEdge || decide (m.homeFail ≠ 0)
  let vn := if m.homeFail = 1 then s.limitBrake a v
    else if stopping then brake v (p 1) (p 2) (p 6) (p 7)
    else if v = 0 then dir * (p 0 : Nat)
    else if |v| < (p 3 : Nat) then sgn v * min (p 3 : Int) (|v| + rT (if ((p 2 : Nat) : Int) ≤ |v| then p 5 else p 4))
    else sgn v * max (p 3 : Int) (|v| - rT (if ((p 2 : Nat) : Int) < |v| then p 6 else p 7))
  let (v1, lim) := s.limited a v vn
  let s := s.moveTo a (m.pos + vT v1) v1
  let s := s.noteLimit a lim
  let s := s.setFlag (R.MOT_AX_STAT a) F.MOT_AX_STAT_STANDSTILL false
  let s := s.modMo a fun m => { m with homeDist := m.homeDist + |vT v1| }
  let hmax := s.fld (R.MOT_AX_HMAX a) F.MOT_AX_HMAX_HMAX
  let far := decide (hmax ≠ 0) && !stopping && decide ((hmax : Int) * 65536 ≤ (s.mo a).homeDist)
  let s := if far then s.modMo a fun m => { m with homeFail := 2 } else s
  if stopping && decide (v1 = 0) then
    let now := s.time.mt
    let shift := s.sfld (R.MOT_AX_HPOS a) F.MOT_AX_HPOS_HPOS - s.sfld (R.MOT_AX_HLATCH a) F.MOT_AX_HLATCH_POS
    let s := s.modMo a fun m =>
      let pos := if m.homeFail = 0 then m.pos + shift * 65536 else m.pos
      { m with pos := pos, target := pos / 65536, restAt := now }
    let s := s.modMo a fun m => { m with pos := m.target * 65536 }
    (s.setAxisState a 1).homingEnd a m.homeFail
  else s

/-- One instant of an axis that is being disabled (R269): braking at D1 from any speed, a limit stop before that. -/
def State.stopAxis (s : State) (a : Nat) : State :=
  let k := s.fld (R.MOT_AX_STAT a) F.MOT_AX_STAT_PSLOT
  let m := s.mo a
  let v := s.vel a
  let vn := sgn v * max 0 (|v| - rT (s.profile a k 7))
  let (v1, lim) := s.limited a v vn
  let pos := m.pos + vT v1
  let s := (s.moveTo a pos v1).noteLimit a lim
  let s := if passed m.pos pos (m.target * 65536) then s.overshoot a else s
  if v1 = 0 then s.setAxisState a 0 else s

/-! ### Load angle (R260 to R262) -/

/-- The electrical angle (R260). -/
def State.thetaE (s : State) (a : Nat) : Nat :=
  let t := (s.mo a).counts % 1024
  (if s.flag (R.MOT_AX_CFG a) F.MOT_AX_CFG_DIRINV then (-t) % 1024 else t).toNat

/-- The angle of the duty vector minus the angle of (iA, iB) of the last PWM period, in 1/256 cycle, reduced to half a cycle either way;
its rounding is open, and so is the angle of a vector of zero (R261, DUTY). -/
def dutyAngle (m : Motor) : Int :=
  if m.cmdI = 0 ∨ (m.dutyA = 0 ∧ m.dutyB = 0) then satS 8 (Config.zeroAngle m.theta m.dutyA m.dutyB)
  else
    let (k, on) := sectorOf m.dutyA m.dutyB
    let n := ((k : Int) - m.theta + 512) % 1024 - 512
    let exact := on && decide (n % 4 = 0)
    clampI (n / 4 + if !exact && Config.roundUp 12 n 4 then 1 else 0) (-128) 127

/-- The load angle, or none where it is not formed (R261). -/
def State.loadAngle (s : State) (a : Nat) : Option Int :=
  let la := R.MOT_AX_LA a
  let src := s.fld (R.MOT_AX_CFG a) F.MOT_AX_CFG_LASRC
  if s.stepDir a || decide (s.fld la F.MOT_AX_LA_D1 ≤ s.fld la F.MOT_AX_LA_D0) then none
  else if src = 1 then
    let ecyc := s.fld (R.MOT_AX_LAEST a) F.MOT_AX_LAEST_ECYC
    if ecyc = 0 then none
    else
      let count := (s.reg (R.FBK_COUNT (s.axisFbk a))).toInt
      let n := signed 32 (unsigned 32 (count - (s.mo a).c0))
      let x := (s.thetaE a : Int) * ecyc - n * 1024
      let w := (x + 512 * ecyc) % (1024 * (ecyc : Int)) - 512 * ecyc
      some (clampI (openQuot 0 w (4 * ecyc)) (-128) 127)
  else if src = 2 then
    if |s.vel a| < 64 * (s.fld (R.MOT_AX_LAEST a) F.MOT_AX_LAEST_VMIN : Int) then some 0
    else
      some (dutyAngle (s.mo a))
  else none

/-- The current of the load-angle law in mA (R261). -/
def State.lawCurrent (s : State) (a : Nat) (delta : Option Int) : Nat :=
  let base : Int := s.fld (R.MOT_AX_CUR a) F.MOT_AX_CUR_IBASE
  let top : Int := s.fld (R.MOT_AX_CUR a) F.MOT_AX_CUR_IMAX
  let d0 := s.fld (R.MOT_AX_LA a) F.MOT_AX_LA_D0
  let d1 := s.fld (R.MOT_AX_LA a) F.MOT_AX_LA_D1
  match delta with
  | none => top.toNat
  | some d =>
    if |d| ≤ d0 then base.toNat
    else if (d1 : Int) ≤ |d| then top.toNat
    else (base + openNearest 1 ((top - base) * (|d| - d0)) (d1 - d0)).toNat

/-- The load-angle law at an instant: IBASE at rest on the target until standstill (R263), else the law; the stall count (R262). -/
def State.driveAxis (s : State) (a : Nat) : State :=
  if s.flag (R.MOT_AX_STAT a) F.MOT_AX_STAT_STANDSTILL || s.stepDir a then s
  else
    let d := s.loadAngle a
    let rest := decide (s.axisState a = 1)
    let i := if rest then s.fld (R.MOT_AX_CUR a) F.MOT_AX_CUR_IBASE else s.lawCurrent a d
    let delta := d.getD 0
    let stall := d.isSome && decide (i = s.fld (R.MOT_AX_CUR a) F.MOT_AX_CUR_IMAX) && decide (64 < |delta|)
    let s := s.setReg (R.MOT_AX_MEAS a)
      (withField F.MOT_AX_MEAS_I (withField F.MOT_AX_MEAS_DELTA 0 (unsigned 8 delta)) i)
    s.modMo a fun m => { m with stallRun := if stall then min (m.stallRun + 1) 255 else 0 }

/-! ### The generator instant (R98, R254, R256) -/

/-- The axis takes a new target with a set (R257); the next move leaves standstill. -/
def State.retarget (s : State) (a k : Nat) (target : Int) : State :=
  let s := s.modMo a fun m => { m with target := target }
  let s := s.setFld (R.MOT_AX_STAT a) F.MOT_AX_STAT_PSLOT k
  let s := s.setAxisState a 2
  s.setFlag (R.MOT_AX_STAT a) F.MOT_AX_STAT_STANDSTILL false

/-- A MOVE takes effect: it retargets an IDLE or MOVING axis with a valid set; else the channel takes AXIS_STATE (R98, R256). -/
def State.moveAct (s : State) (ch : Nat) (x : Act) : State :=
  match x with
  | .move a k target =>
    if (s.axisState a = 1 ∨ s.axisState a = 2) ∧ s.setValid a k then s.retarget a k target else s.runFault ch 0x25
  | _ => s

/-- The due moves of a queue, in stream order, and the queue without them. -/
def dueMoves (now : Nat) : List Action → List Act × List Action
  | [] => ([], [])
  | x :: xs =>
    let (d, k) := dueMoves now xs
    match x.act with
    | .move _ _ _ => if x.time ≤ now then (x.act :: d, k) else (d, x :: k)
    | _ => (d, x :: k)

/-- A channel's due moves apply in stream order while the group runs; in a hold they wait (R98, R254; DEDUCED, log entry 105). -/
def State.channelMoves (s : State) (ch : Nat) : State :=
  if s.grp.run && s.acting ch then
    let (d, k) := dueMoves s.grp.s (s.ch ch).acts
    let s := s.modCh ch fun c => { c with acts := k }
    d.foldl (fun t x => t.moveAct ch x) s
  else s

/-- A pending host GO applies (R254, R256). -/
def State.applyGo (s : State) (a : Nat) : State :=
  match (s.mo a).go with
  | some (k, target) =>
    let s := s.modMo a fun m => { m with go := none }
    if (s.axisState a = 1 ∨ s.axisState a = 2) ∧ s.setValid a k then s.retarget a k target else s.raise R.MOT_ISR F.MOT_ISR_REJ
  | none => s

/-- One axis at an instant. -/
def State.axisInstant (s : State) (a : Nat) : State :=
  let s := (s.applyGo a).feedbackFault a
  let st := s.axisState a
  let k := s.fld (R.MOT_AX_STAT a) F.MOT_AX_STAT_PSLOT
  let s := if 1 ≤ st ∧ st ≤ 4 then (s.readWords 0xFF [(profileAddr a k 0, 32)]).2 else s
  let s := if st = 1 ∨ st = 2 then s.runMotor a else if st = 3 then s.homeAxis a else if st = 4 then s.stopAxis a else s
  if s.axisState a = 0 ∨ s.axisState a = 5 then s else s.driveAxis a

/-- The speed estimate of an interface (R273). N / tau is counts over machine time in units of 1/8000 ns. -/
def State.speed (s : State) (i : Nat) : State :=
  let f := s.fb i
  let count := (s.reg (R.FBK_COUNT i)).toInt
  let n := signed 32 (unsigned 32 (count - f.count1))
  let raw := if n = 0 then 0 else openQuot 2 (n * 8000000000000) (max 1 (f.edgeAt - f.edge1))
  let alpha := min 0x8000 (s.fld (R.FBK_SPDF i) F.FBK_SPDF_ALPHA)
  let old := s.sfld (R.FBK_SPEED i) F.FBK_SPEED_SPEED
  let s := s.setSfld (R.FBK_SPEED i) F.FBK_SPEED_SPEED (satS 32 (old + openQuot 3 (alpha * (raw - old)) 32768))
  s.modFb i fun f => { f with count1 := count, moved := n, edge1 := f.edgeAt }

/-- GENERATOR_INSTANT (R98, R254 to R258, R261, R266 to R269, R273): at a machine time whose nanosecond field is a multiple of
10,000 with a zero fraction, moves apply in ascending channel order, host targets after them, and every axis takes one step. -/
def execGeneratorInstant (s : State) : Res :=
  occurs (decide (s.time.mt % nsU 10000 = 0)) s fun s =>
    let s := s.each s.chs fun ch t => t.channelMoves ch
    if s.up dMOT then
      let s := s.each (List.range s.axes) fun a t => t.axisInstant a
      s.each (List.range s.axes) fun i t => t.speed i
    else s

/-! ### Host commands -/

/-- MOT_GO (R254, R256, R268): a write of MOT_AX_CMD with GO = 1 takes effect at the next generator instant; with an invalid set,
or on an axis that is neither IDLE nor MOVING, it is ignored with REJ. -/
def execMotGo (a : Nat) (v : Word) (s : State) : Res :=
  onUnitWrite a s.axes 8 (R.MOT_AX_CMD a) s fun s =>
    let k := field F.MOT_AX_CMD_PSLOT v
    let t := s.sfld (R.MOT_AX_TARGET a) F.MOT_AX_TARGET_TARGET
    if field F.MOT_AX_CMD_GO v = 0 then s
    else if (s.axisState a = 1 ∨ s.axisState a = 2) ∧ s.setValid a k then s.modMo a fun m => { m with go := some (k, t) }
    else s.raise R.MOT_ISR F.MOT_ISR_REJ

/-- MOT_HOME (R256, R267, R268): a write of MOT_AX_CMD with HOME = 1 on an IDLE axis starts homing, unless the home input is
active; with an invalid set or in another state it is ignored with REJ. -/
def execMotHome (a : Nat) (v : Word) (s : State) : Res :=
  onUnitWrite a s.axes 8 (R.MOT_AX_CMD a) s fun s =>
    let k := s.fld (R.MOT_AX_HOME a) F.MOT_AX_HOME_HSLOT
    if field F.MOT_AX_CMD_HOME v = 0 then s
    else if s.axisState a ≠ 1 ∨ !s.setValid a k then s.raise R.MOT_ISR F.MOT_ISR_REJ
    else if s.flag (R.FBK_STAT (s.axisFbk a)) F.FBK_STAT_HOME then s.homingEnd a 3
    else
      let s := s.modMo a fun m => { m with homeEdge := false, homeDist := 0, homeFail := 0, go := none }
      let s := s.setFlag (R.MOT_AX_STAT a) F.MOT_AX_STAT_HOMED false
      (s.setFld (R.MOT_AX_STAT a) F.MOT_AX_STAT_PSLOT k).setAxisState a 3

/-- Store MOT_AX_CFG; a change of MODE while EN = 1 is ignored with REJ (R253). -/
def State.storeAxisCfg (s : State) (a : Nat) (v : Word) : State :=
  let w := R.MOT_AX_CFG a
  let old := s.fld w F.MOT_AX_CFG_MODE
  let bad := s.flag w F.MOT_AX_CFG_EN && decide (field F.MOT_AX_CFG_MODE v ≠ old)
  let v : Word := v &&& 0x00FF077F
  if bad then (s.setReg w (withField F.MOT_AX_CFG_MODE v old)).raise R.MOT_ISR F.MOT_ISR_REJ else s.setReg w v

/-- The axis is DISABLED: gates low at once (R252, R269). -/
def State.axisOffNow (s : State) (a : Nat) : State :=
  let s := (s.setVel a 0).setAxisState a 0
  let s := s.setFlag (R.MOT_AX_STAT a) F.MOT_AX_STAT_STANDSTILL false
  (s.setFlag (R.MOT_AX_STAT a) F.MOT_AX_STAT_LIMSTOP false).driveOff a

/-- AXIS_DISABLE (R265, R268, R269): a write of MOT_AX_CFG with EN = 0. A moving axis stops first, or is cut off with IMMEDIATE. -/
def execAxisDisable (a : Nat) (v : Word) (s : State) : Res :=
  onUnitWrite a s.axes 8 (R.MOT_AX_CFG a) s fun s =>
    let st := s.axisState a
    let s := s.storeAxisCfg a (v &&& 0xFFFFFFFE)
    let s := if st = 3 then s.homingEnd a 4 else s
    if st = 0 then s
    else if s.vel a = 0 then s.axisOffNow a
    else if s.flag (R.MOT_AX_CFG a) F.MOT_AX_CFG_IMMEDIATE then
      (s.axisOffNow a).setFlag (R.MOT_AX_STAT a) F.MOT_AX_STAT_HOMED false
    else (s.modMo a fun m => { m with go := none }).setAxisState a 4

/-- AXIS_ENABLE (R261, R269): a write of MOT_AX_CFG with EN = 1. A DISABLED axis enters IDLE with its target at its position, and
the encoder count of this moment is c0. -/
def execAxisEnable (a : Nat) (v : Word) (s : State) : Res :=
  onUnitWrite a s.axes 8 (R.MOT_AX_CFG a) s fun s =>
    let s := s.storeAxisCfg a (v ||| 1)
    if s.axisState a ≠ 0 then s
    else
      let now := s.time.mt
      let c := (s.reg (R.FBK_COUNT (s.axisFbk a))).toInt
      let s := s.modMo a fun m =>
        { m with pos := m.counts * 65536, target := m.counts, c0 := c, restAt := now, stallRun := 0 }
      s.setAxisState a 1

/-- MOT_AX_POS_WRITE (R280): in IDLE or DISABLED it sets position and target; else it is ignored with REJ. -/
def execMotAxPosWrite (a : Nat) (v : Word) (s : State) : Res :=
  onUnitWrite a s.axes 8 (R.MOT_AX_POS a) s fun s =>
    if s.axisState a ≤ 1 then s.modMo a fun m => { m with pos := v.toInt * 65536, target := v.toInt }
    else s.raise R.MOT_ISR F.MOT_ISR_REJ

/-! ### The chopper drive (R259, R260, R263) -/

/-- n choose 2 of a number's successor's successor, for a Nat shifted down by k; 0 below k. -/
def tri (i k : Nat) : Nat := if i < k then 0 else (i - k + 2) * (i - k + 1) / 2

/-- Tap i of the sinc3 filter whose 64 taps are three moving sums of 22 (R259). -/
def sincTap (i : Nat) : Nat := tri i 0 - 3 * tri i 22 + 3 * tri i 44

/-- Sum of the taps: 22 cubed. -/
def sincGain : Nat := 10648

/-- The density of the last 64 modulator bits, newest first, in 1/10,648: a one counts +1, a zero -1 (R259; DEDUCED, log entry 106). -/
def density (l : List Bool) : Int :=
  ((List.range 64).map fun i => if nth l i false then (sincTap i : Int) else -(sincTap i : Int)).sum

/-- The duty 1 in the exact unit of the PI: KP and KI in 1/4096 per A, currents in mA / 10,648 (R259). -/
def dutyOne : Int := 43614208000

/-- One period of a phase's PI for an error in mA / 10,648: the integral, clamped so that the duty stays within 1, and the duty (R259). -/
def piStep (kp ki : Nat) (err int : Int) : Int × Int :=
  let i := clampI (int + ki * err) (-dutyOne - kp * err) (dutyOne - kp * err)
  (i, i + kp * err)

/-- The commanded currents iA and iB in mA, whose rounding is open (R260). -/
def phaseCurrents (i t : Nat) : Int × Int := (openQuot 10 (i * cosine48 t) (2 ^ 48), openQuot 11 (i * sine48 t) (2 ^ 48))

/-- Periods in a row with a phase current above 1.5 IMAX (R265). -/
def State.overRun (s : State) (a n : Nat) (current : Int) : Nat :=
  if (3 * sincGain * s.fld (R.MOT_AX_CUR a) F.MOT_AX_CUR_IMAX : Nat) < 2 * |current| then min (n + 1) 2 else 0

/-- The axis drives its coils by PWM: chopper mode, enabled, not at standstill, MOT up. -/
def State.chopping (s : State) (a : Nat) : Bool :=
  !s.stepDir a && decide (s.axisState a ≠ 0) && decide (s.axisState a ≠ 5) &&
    !s.flag (R.MOT_AX_STAT a) F.MOT_AX_STAT_STANDSTILL && s.up dMOT

/-- PWM_PERIOD (R259, R260, R265): in chopper mode, once in PWMPER ticks, the last 64 modulator bits of each phase, newest first, give
the phase currents, and a PI on each the duty of the next period. -/
def execPwmPeriod (a : Nat) (bitsA bitsB : List Bool) (s : State) : Res :=
  onUnit a s.axes 8 s fun s =>
    let per := ticksU (s.fld (R.MOT_AX_DRV a) F.MOT_AX_DRV_PWMPER)
    let due := match (s.mo a).pwmAt with | some t => decide (t + per ≤ s.time.mt) | none => true
    if !s.chopping a || !due then s
    else
      let scale : Int := s.fld (R.MOT_AX_SENSE a) F.MOT_AX_SENSE_ISCALE
      let kp := s.fld (R.MOT_AX_CPI a) F.MOT_AX_CPI_KP
      let ki := s.fld (R.MOT_AX_CPI a) F.MOT_AX_CPI_KI
      let i := s.fld (R.MOT_AX_MEAS a) F.MOT_AX_MEAS_I
      let t := s.thetaE a
      let m := s.mo a
      let ma := density bitsA * scale
      let mb := density bitsB * scale
      let (ca, cb) := phaseCurrents i t
      let (ia, da) := piStep kp ki (ca * sincGain - ma) m.intA
      let (ib, db) := piStep kp ki (cb * sincGain - mb) m.intB
      let now := s.time.mt
      let oa := s.overRun a m.overA ma
      let ob := s.overRun a m.overB mb
      s.modMo a fun m =>
        { m with intA := ia, intB := ib, dutyA := da, dutyB := db, theta := t, cmdI := i, pwmAt := some now, overA := oa, overB := ob }

/-! ### The axis balls (R252, R263, R264) -/

/-- Machine time of STEP pulse k of the present interval: the pulses are spaced evenly, the last at the interval's end, so that the
first comes at least 250 ticks after DIR has changed (R264; DESIGN CHOICE, log entry 107). -/
def Motor.stepTime (m : Motor) (k : Nat) : Nat := m.stepsAt + nsU 10000 * (k + 1) / m.steps

/-- Level of STEP: a pulse of STEPW ticks after each step (R264). -/
def State.stepLevel (s : State) (a : Nat) : Bool :=
  let m := s.mo a
  let w := ticksU (s.fld (R.MOT_AX_DRV a) F.MOT_AX_DRV_STEPW)
  let now := s.time.mt
  let on (t : Nat) : Bool := decide (t ≤ now) && decide (now < t + w)
  (m.stepsEnd && on m.stepsAt) || (List.range m.steps).any fun k => on (m.stepTime k)

/-- The output position of an axis (R267): the microstep commanded, or in step/dir mode the steps emitted. -/
def State.outputPos (s : State) (a : Nat) : Int :=
  let m := s.mo a
  let left := ((List.range m.steps).filter fun k => decide (s.time.mt < m.stepTime k)).length
  if s.stepDir a then m.counts - (if m.dirPos then (left : Int) else -(left : Int)) else m.counts

/-- The switching command of a leg at a phase of the PWM period: true for its high side. The spec gives the duty and not the legs'
pattern (R259). -/
def State.legCmd (s : State) (a leg ph : Nat) : Bool :=
  let m := s.mo a
  Config.legHigh (if leg < 2 then m.dutyA else m.dutyB) (s.fld (R.MOT_AX_DRV a) F.MOT_AX_DRV_PWMPER) ph leg

/-- Ticks since the last PWM period began. -/
def State.pwmPhase (s : State) (a : Nat) : Nat :=
  match (s.mo a).pwmAt with | some t => (s.time.mt - t) / tickU | none => 0

/-- Level of MDRVb (R252, R263, R264). All are low while the axis is DISABLED or FAULT or MOT is off. In step/dir mode: STEP, DIR, ENABLE.
In chopper mode: the high side (even) and the low side (odd) of four legs, each turned on DEAD ticks after the leg's command has turned
to it; at standstill OFF drives all low and SHORT turns the low sides on. -/
def State.mdrv (s : State) (a b : Nat) : Bool :=
  let st := s.axisState a
  let short := s.flag (R.MOT_AX_CFG a) F.MOT_AX_CFG_SSMODE
  let still := s.flag (R.MOT_AX_STAT a) F.MOT_AX_STAT_STANDSTILL
  if st = 0 || st = 5 || !s.up dMOT then false
  else if s.stepDir a then
    if b = 0 then s.stepLevel a
    else if b = 1 then (s.mo a).dirPos
    else decide (b = 2) && (!still || short)
  else if still then short && decide (b % 2 = 1)
  else
    let per := s.fld (R.MOT_AX_DRV a) F.MOT_AX_DRV_PWMPER
    let ph := s.pwmPhase a
    (List.range (s.fld (R.MOT_AX_DRV a) F.MOT_AX_DRV_DEAD + 1)).all fun j =>
      s.legCmd a (b / 2) ((ph + per - j) % per) == decide (b % 2 = 0)

/-- MSD_CLK runs at 20 MHz in chopper mode while MOT is up, and is low otherwise (R252); its phase is not given (log entry 107). -/
def State.msdClk (s : State) (a : Nat) : Bool := !s.stepDir a && s.up dMOT && decide (s.time.mt / nsU 25 % 2 = 1)

/-! ### Axis faults and standstill -/

/-- STALL (R262): STALLN consecutive instants at IMAX with a load angle beyond 64. -/
def execStall (a : Nat) (s : State) : Res :=
  onUnit a s.axes 8 s fun s =>
    let n := s.fld (R.MOT_AX_LA a) F.MOT_AX_LA_STALLN
    if n ≠ 0 ∧ n ≤ (s.mo a).stallRun then s.axisFault a 1 else s

/-- BRIDGE_FAULT (R265): MFLT_N has been low for some ticks; 2 us are 2,500. -/
def execBridgeFault (a : Seen Nat) (s : State) : Res :=
  onUnit a.unit s.axes 8 s fun s => if 2500 ≤ a.it ∧ s.up dMOT then s.axisFault a.unit 2 else s

/-- OVERCURRENT (R265), in chopper mode: a phase current above 1.5 IMAX in two consecutive PWM periods. -/
def execOvercurrent (a : Nat) (s : State) : Res :=
  onUnit a s.axes 8 s fun s =>
    if !s.stepDir a ∧ (2 ≤ (s.mo a).overA ∨ 2 ≤ (s.mo a).overB) then s.axisFault a 3 else s

/-- A bitstream has kept its level for 256 modulator clocks (R265). -/
def stuckBits (l : List Bool) : Bool := decide (256 ≤ l.length) && ((l.take 256).all (· == true) || (l.take 256).all (· == false))

/-- SDLOSS (R265), in chopper mode: the last bits of a phase's bitstream, newest first. -/
def execSdloss (a : Seen (List Bool)) (s : State) : Res :=
  onUnit a.unit s.axes 8 s fun s => if !s.stepDir a.unit ∧ stuckBits a.it ∧ s.up dMOT then s.axisFault a.unit 4 else s

/-- STANDSTILL (R263): SSDLY ms at rest on the target. -/
def execStandstill (a : Nat) (s : State) : Res :=
  onUnit a s.axes 8 s fun s =>
    let ms := s.fld (R.MOT_AX_CFG a) F.MOT_AX_CFG_SSDLY
    if s.axisState a = 1 ∧ (s.mo a).restAt + nsU (1000000 * ms) ≤ s.time.mt then
      s.setFlag (R.MOT_AX_STAT a) F.MOT_AX_STAT_STANDSTILL true
    else s

/-! ### Reset (R279) -/

/-- The motion block after a reset that reaches it: axes DISABLED at position 0, profile sets kept. -/
def State.resetMot (s : State) (keep : Access → Bool) : State := { s.resetRegs 0x3C0000 0x3D0000 keep with mot := [] }

/-- MOT_BLOCK_RESET (R279). -/
def execMotBlockReset (s : State) : Res := .next (s.resetMot keepRws)

end Sys2Proof.Machine
end

