-- ==== Sys2Proof/Machine/Feedback.lean ====
section
/-!
DEFINITION. Feedback interfaces: counting, index checks, home and limit inputs, compare outputs (R270 to R279, R281).
-/

namespace Sys2Proof.Machine

/-- The signed 32-bit difference of two counts (R272). -/
def countDiff (x y : Int) : Int := signed 32 (unsigned 32 (x - y))

/-- The count of an interface, signed. -/
def State.count (s : State) (i : Nat) : Int := (s.reg (R.FBK_COUNT i)).toInt

/-- The compare fires (R277): FB_CMP is active for WIDTH x 80 ticks, CMP is set, the compare is disarmed. -/
def State.fireCompare (s : State) (i : Nat) : State :=
  let t := s.time.mt + ticksU (80 * s.fld (R.FBK_CMPCFG i) F.FBK_CMPCFG_WIDTH)
  let s := s.modFb i fun f => { f with cmpUntil := some t }
  let s := s.setFlag (R.FBK_STAT i) F.FBK_STAT_ARMED false
  s.raise R.FBK_ISR F.FBK_ISR_CMP

/-- An armed compare fires on a crossing in its direction (R277). -/
def State.compare (s : State) (i : Nat) (old new : Int) : State :=
  let pos := (s.reg (R.FBK_CMPPOS i)).toInt
  let dir := s.fld (R.FBK_CMPCFG i) F.FBK_CMPCFG_DIR
  let upX := decide (countDiff old pos < 0) && decide (0 ≤ countDiff new pos)
  let dnX := decide (0 < countDiff old pos) && decide (countDiff new pos ≤ 0)
  if s.flag (R.FBK_STAT i) F.FBK_STAT_ARMED && s.flag (R.FBK_CMPCFG i) F.FBK_CMPCFG_EN &&
      ((upX && decide (dir ≠ 2)) || (dnX && decide (dir ≠ 1))) then s.fireCompare i
  else s

/-- The count moves by one, wrapping (R270, R272). -/
def State.countBy (s : State) (i : Nat) (d : Int) : State :=
  let d := if s.flag (R.FBK_CFG i) F.FBK_CFG_INV then -d else d
  if d = 0 then s
  else
    let old := s.count i
    let now := s.time.mt
    let s := s.setSfld (R.FBK_COUNT i) F.FBK_COUNT_COUNT (old + d)
    let s := s.modFb i fun f =>
      { f with edgeAt := now, dirUp := decide (0 < d), reversed := f.reversed || f.dirUp != decide (0 < d) }
    s.compare i old (s.count i)

/-- The change of the count for a sample in QUAD mode (R270): the spec does not give which order of A and B counts up. -/
def quadStep (a0 a1 b1 : Bool) : Int :=
  let forward := if a0 != a1 then a1 != b1 else a1 == b1
  if forward == Config.quadUp then 1 else -1

/-- A sample is due after an interval (R270, R275). -/
def State.sampleDue (s : State) (at_ : Option Nat) (ticks : Nat) : Bool :=
  match at_ with | some t => decide (t + ticksU ticks ≤ s.time.mt) | none => true

/-- Samples in a row at a level, after one more. -/
def runAfter (old new : Bool) (run : Nat) : Nat := if old = new then min (run + 1) 8 else 1

/-- A level is taken when it has held for FILT + 1 samples (R270). -/
def State.filtered (s : State) (i : Nat) (raw old : Bool) (run : Nat) : Bool :=
  if s.fld (R.FBK_CFG i) F.FBK_CFG_FILT + 1 ≤ run then raw else old

/-- FEEDBACK_EDGE (R270, R271, R276, R277): one sample of FB_A and FB_B, 5 ticks or more after the last; the levels that FILT takes move
the count. -/
def execFeedbackEdge (i : Nat) (levelA levelB : Bool) (s : State) : Res :=
  onUnit i s.axes 8 s fun s =>
    let f := s.fb i
    if !s.sampleDue f.abAt 5 then s
    else
      let ra := runAfter f.rawA levelA f.runA
      let rb := runAfter f.rawB levelB f.runB
      let a1 := s.filtered i levelA f.a ra
      let b1 := s.filtered i levelB f.b rb
      let now := s.time.mt
      let s := s.modFb i fun f =>
        { f with rawA := levelA, rawB := levelB, runA := ra, runB := rb, a := a1, b := b1, abAt := some now }
      let ca := f.a != a1
      let cb := f.b != b1
      if !s.flag (R.FBK_CFG i) F.FBK_CFG_EN || !s.up dMOT || (!ca && !cb) then s
      else
        match s.fld (R.FBK_CFG i) F.FBK_CFG_MODE with
        | 0 =>
          if ca && cb then
            let s := s.satAdd (R.FBK_ERR i) F.FBK_ERR_QERR 1
            (s.setFlag (R.FBK_STAT i) F.FBK_STAT_QERR true).raise R.FBK_ISR F.FBK_ISR_QERR
          else s.countBy i (quadStep f.a a1 b1)
        | 1 => if ca && a1 then s.countBy i (if b1 then 1 else -1) else s
        | _ =>
          let u := ca && a1
          let d := cb && b1
          s.countBy i (if u && !d then 1 else if d && !u then -1 else 0)

/-- Levels of FBO_A, FBO_B and FBO_Z (R276): the synchronised inputs with PASS = 1, else low. -/
def State.fboLevels (s : State) (i : Nat) : Bool × Bool × Bool :=
  let f := s.fb i
  if s.flag (R.FBK_CFG i) F.FBK_CFG_PASS && s.up dMOT then (f.rawA, f.rawB, f.rawZ) else (false, false, false)

/-- Level of FB_CMP: active for the pulse of a fired compare, low when active with POL = 1 (R277, R281). -/
def State.cmpLevel (s : State) (i : Nat) : Bool :=
  let on := match (s.fb i).cmpUntil with | some t => decide (s.time.mt < t) | none => false
  on != s.flag (R.FBK_CMPCFG i) F.FBK_CMPCFG_POL

/-- INDEX_EDGE (R270, R274, R278): one sample of FB_Z, 5 ticks or more after the last. Where the level that FILT takes turns to the one
that ZPOL selects, the count is latched, and the pair checked against 4 x LINES within TOL. -/
def execIndexEdge (x : Seen Bool) (s : State) : Res :=
  let i := x.unit
  let level := x.it
  onUnit i s.axes 8 s fun s =>
    let f := s.fb i
    let due := s.sampleDue f.zAt 5
    let rz := runAfter f.rawZ level f.runZ
    let z1 := s.filtered i level f.z rz
    let now := s.time.mt
    let s := if due then s.modFb i fun f => { f with rawZ := level, runZ := rz, z := z1, zAt := some now } else s
    let edge := due && f.z != z1 && (z1 != s.flag (R.FBK_CFG i) F.FBK_CFG_ZPOL)
    if !s.flag (R.FBK_CFG i) F.FBK_CFG_EN || !s.up dMOT || !edge then s
    else
      let n := s.count i
      let diff := countDiff n (s.reg (R.FBK_ZLATCH i)).toInt
      let lines := s.fld (R.FBK_LINES i) F.FBK_LINES_LINES
      let tol : Int := s.fld (R.FBK_LINES i) F.FBK_LINES_TOL
      let check := decide (lines ≠ 0) && decide (f.idxDir = some f.dirUp) && !f.reversed
      let s := s.setSfld (R.FBK_ZLATCH i) F.FBK_ZLATCH_COUNT n
      let s := s.setFlag (R.FBK_STAT i) F.FBK_STAT_ZSEEN true
      let s := s.modFb i fun f => { f with idxDir := some f.dirUp, reversed := false }
      if check && decide (tol < |(|diff|) - 4 * (lines : Int)|) then
        let s := (s.setFlag (R.FBK_STAT i) F.FBK_STAT_IDXERR true).raise R.FBK_ISR F.FBK_ISR_IDX
        let s := s.post 0xFF0D 0xFF (i + unsigned 32 diff * 2 ^ 32) (4 * lines)
        s.each ((List.range s.axes).filter fun a => decide (s.axisFbk a = i)) fun a t => t.feedbackFault a
      else s

/-- FBK_COUNT_WRITE (R272): stored while EN = 0, else ignored with REJ. -/
def execFbkCountWrite (i : Nat) (v : Word) (s : State) : Res :=
  onUnitWrite i s.axes 8 (R.FBK_COUNT i) s fun s =>
    if s.flag (R.FBK_CFG i) F.FBK_CFG_EN then s.raise R.FBK_ISR F.FBK_ISR_REJ
    else (s.setReg (R.FBK_COUNT i) v).modFb i fun f => { f with count1 := v.toInt }

/-- FBK_CMPPOS_WRITE (R277): arms the compare. It is behind when the interface counted in the last interval and the position lies at
or beyond the count against that motion; a behind write fires at once with FIRE_NOW. -/
def execFbkCmpposWrite (i : Nat) (v : Word) (s : State) : Res :=
  onUnitWrite i s.axes 8 (R.FBK_CMPPOS i) s fun s =>
    let s := (s.setReg (R.FBK_CMPPOS i) v).setFlag (R.FBK_STAT i) F.FBK_STAT_ARMED true
    let ahead := countDiff v.toInt (s.count i)
    let moved := (s.fb i).moved
    let behind := (decide (0 < moved) && decide (ahead ≤ 0)) || (decide (moved < 0) && decide (0 ≤ ahead))
    if behind then
      let s := (s.setFlag (R.FBK_STAT i) F.FBK_STAT_CMP_BEHIND true).raise R.FBK_ISR F.FBK_ISR_BEHIND
      if s.flag (R.FBK_CMPCFG i) F.FBK_CMPCFG_FIRE_NOW && s.flag (R.FBK_CMPCFG i) F.FBK_CMPCFG_EN then s.fireCompare i else s
    else s

/-- One sample of a home or limit input (R275): a level other than the qualified one, with the count and the axes' output positions at
the first such sample, qualifies after DEB in a row; one that reverts before counts in CHAT. True when the change qualifies. -/
def State.debounce (s : State) (i : Nat) (d : Debounce) (qualified active : Bool) : Bool × Debounce × State :=
  let now := s.time.mt
  if active = qualified then
    (false, { d with run := 0, at_ := some now }, if d.run = 0 then s else s.satAdd (R.FBK_ERR i) F.FBK_ERR_CHAT 1)
  else
    let d := if d.run = 0 then { d with count := s.count i, outs := (List.range s.axes).map s.outputPos } else d
    let n := d.run + 1
    let full := decide (s.fld (R.FBK_CFG i) F.FBK_CFG_DEB ≤ n)
    (full, { d with run := if full then 0 else n, at_ := some now }, s)

/-- One sample of FB_LIMP or FB_LIMN, 1,250 ticks or more after the last, whatever EN is (R266, R268, R275). When an active level
qualifies, homing axes on the interface fail with LIMIT. -/
def State.limitSample (s : State) (i : Nat) (positive level : Bool) : State :=
  let f := if positive then F.FBK_STAT_LIMP else F.FBK_STAT_LIMN
  let d := if positive then (s.fb i).limp else (s.fb i).limn
  if !s.up dMOT || !s.sampleDue d.at_ 1250 then s
  else
    let active := level != s.flag (R.FBK_CFG i) F.FBK_CFG_LPOL
    let (full, d, s) := s.debounce i d (s.flag (R.FBK_STAT i) f) active
    let s := s.modFb i fun q => if positive then { q with limp := d } else { q with limn := d }
    if !full then s
    else
      let s := s.setFlag (R.FBK_STAT i) f active
      if active then
        s.each ((List.range s.axes).filter fun a => decide (s.axisFbk a = i) && decide (s.axisState a = 3)) fun a t =>
          t.modMo a fun m => { m with homeFail := 1 }
      else s

/-- One sample of FB_HOME, 1,250 ticks or more after the last, whatever EN is (R267, R275). A qualified active edge latches the count,
and for a homing axis its output position, at the sample that began the qualifying run. -/
def State.homeSample (s : State) (i : Nat) (level : Bool) : State :=
  let d := (s.fb i).home
  if !s.up dMOT || !s.sampleDue d.at_ 1250 then s
  else
    let active := level != s.flag (R.FBK_CFG i) F.FBK_CFG_HPOL
    let (full, d, s) := s.debounce i d (s.flag (R.FBK_STAT i) F.FBK_STAT_HOME) active
    let s := s.modFb i fun q => { q with home := d }
    if !full then s
    else
      let s := s.setFlag (R.FBK_STAT i) F.FBK_STAT_HOME active
      if active then
        let s := s.setSfld (R.FBK_HLATCH i) F.FBK_HLATCH_COUNT d.count
        s.each ((List.range s.axes).filter fun a => decide (s.axisFbk a = i) && decide (s.axisState a = 3)) fun a t =>
          if (t.mo a).homeEdge || decide ((t.mo a).homeFail ≠ 0) then t
          else (t.setSfld (R.MOT_AX_HLATCH a) F.MOT_AX_HLATCH_POS (nth d.outs a 0)).modMo a fun m => { m with homeEdge := true }
      else s

/-- LIMIT_QUALIFIED (R266, R268, R275): a sample of one limit input. -/
def execLimitQualified (i : Nat) (positive level : Bool) (s : State) : Res :=
  onUnit i s.axes 8 s fun s => s.limitSample i positive level

/-- HOME_EDGE_QUALIFIED (R267, R275): a sample of an interface's home input, which is taken with those of its limit inputs. -/
def execHomeEdgeQualified (i : Nat) (home limp limn : Bool) (s : State) : Res :=
  onUnit i s.axes 8 s fun s => ((s.homeSample i home).limitSample i true limp).limitSample i false limn

/-- FEEDBACK_INTERFACE_ENABLE (R270, R274, R279): a write of FBK_CFG. A change of MODE while EN = 1, and MODE 3, leave MODE; DEB 0
leaves DEB. Enabling restarts the index check. The MOT vote follows. -/
def execFeedbackInterfaceEnable (i : Nat) (v : Word) (s : State) : Res :=
  onUnitWrite i s.axes 8 (R.FBK_CFG i) s fun s =>
    let w := R.FBK_CFG i
    let on := s.flag w F.FBK_CFG_EN
    let mode := s.fld w F.FBK_CFG_MODE
    let deb := s.fld w F.FBK_CFG_DEB
    let bad := on && decide (field F.FBK_CFG_MODE v ≠ mode)
    let x : Word := v &&& 0x00FF07FF
    let x := if bad || decide (field F.FBK_CFG_MODE v = 3) then withField F.FBK_CFG_MODE x mode else x
    let x := if field F.FBK_CFG_DEB v = 0 then withField F.FBK_CFG_DEB x deb else x
    let s := s.setReg w x
    let s := if bad then s.raise R.FBK_ISR F.FBK_ISR_REJ else s
    let s := if !on && s.flag w F.FBK_CFG_EN then
        (s.setFlag (R.FBK_STAT i) F.FBK_STAT_ZSEEN false).modFb i fun f => { f with idxDir := none, reversed := false }
      else s
    s.revote 13

/-- An interface after a reset, but for the levels of its inputs, which the outside holds. -/
def heldLevels (f : Feedback) : Feedback :=
  { Feedback.reset with a := f.a, b := f.b, z := f.z, rawA := f.rawA, rawB := f.rawB, rawZ := f.rawZ }

/-- The interfaces with the levels of their inputs alone. -/
def heldInputs (t : Tab Feedback) : Tab Feedback :=
  (t.map fun e => (e.1, heldLevels e.2)).filter fun e => decide (e.2 ≠ Feedback.reset)

/-- The feedback block after a reset that reaches it (R279). The levels of the inputs stay. -/
def State.resetFbk (s : State) (keep : Access → Bool) : State :=
  let s := s.resetRegs 0x3D0000 0x3E0000 keep
  { s with fbk := heldInputs s.fbk }

/-- FBK_BLOCK_RESET (R279). -/
def execFbkBlockReset (s : State) : Res := .next (s.resetFbk keepRws)

end Sys2Proof.Machine
end

