-- ==== Sys2Proof/Machine/HeadLink.lean ====
section
/-!
DEFINITION. The scan head link: downlink and uplink frames, the auxiliary channel and the device's configuration write
(R340 to R348, R351).
-/

namespace Sys2Proof.Machine

/-! ### Downlink (R340, R341, R346) -/

/-- The safe-state controller is in SAFE or SHUTDOWN (R346, R464). -/
def State.unsafeHeads (s : State) : Bool := decide (2 ≤ s.fld R.BOOT_STAT F.BOOT_STAT_SSC)

/-- Frames of a channel carry valid commands (R346). -/
def State.driveOn (s : State) (n : Nat) : Bool :=
  s.up dSRV && !s.unsafeHeads && !s.flag (R.HL_CH_CFG n) F.HL_CH_CFG_ZERO && !(s.hd n).zeroed && (s.hd n).cfgDone

/-- The two blocks of a downlink frame (R341, R343). -/
def downBlocks (seq : Nat) (ix iy iz : Nat) (drv sync : Bool) (auxt auxa auxd : Nat) : List Block :=
  let b0 := 0xD1 + seq * 2 ^ 8 + ix * 2 ^ 16 + iy * 2 ^ 36 + drv.toNat * 2 ^ 56 + sync.toNat * 2 ^ 57
  let b1 := iz + auxt * 2 ^ 20 + auxa * 2 ^ 24 + auxd * 2 ^ 32
  let crc := crc16 (leBytes b0 8 ++ leBytes b1 6)
  [ctlBlock b0, dataBlock (b1 + crc * 2 ^ 48)]

/-- Phase of the servo period in ticks (R132). -/
def State.servoPhase (s : State) : Nat := s.time.mt % servoU / tickU

/-- DOWNLINK_FRAME (R132, R340, R341, R346, R347): at phases 600, 1,225, 1,850, 2,475 and 3,100, on an ACTIVE lane. An outstanding
auxiliary request that has not been sent goes with it, once. The first block leaves at the next block boundary (R328). -/
def execDownlinkFrame (n : Nat) (s : State) : Res :=
  onUnit n s.channels 32 s fun s =>
    let ph := s.servoPhase
    if s.laneState n ≠ 5 ∨ !s.up dHEAD ∨ ph ∉ [600, 1225, 1850, 2475, 3100] then s
    else
      let h := s.hd n
      let drv := s.driveOn n
      let u (k : Nat) : Nat := if drv then s.fld (R.SRV_AX_CMD (3 * n + k)) F.SRV_AX_CMD_U else 0
      let (t, a, d) := match h.aux with
        | some (_, wr, a, d, false, _) => ((if wr then 1 else 2), a, (if wr then d else 0))
        | _ => (0, 0, 0)
      let s := s.modHd n fun h =>
        { h with seq := (h.seq + 1) % 256
                 aux := match h.aux with | some (o, wr, a, d, _, since) => some (o, wr, a, d, true, since) | none => none }
      let s := s.setFlag (R.HL_CH_STAT n) F.HL_CH_STAT_DRV drv
      s.sendBlocks n (downBlocks h.seq (u 0) (u 1) (u 2) drv (decide (ph = 600)) t a d)

/-! ### Auxiliary channel (R347, R348) -/

/-- The outstanding request is over; a due configuration write follows. -/
def State.auxOver (s : State) (n : Nat) : State :=
  let s := s.modHd n fun h => { h with aux := none }
  let s := (s.setFlag (R.HL_CH_AUX n) F.HL_CH_AUX_BUSY false).setFlag (R.HL_CH_STAT n) F.HL_CH_STAT_AUXDEV false
  s.launchCfg n

/-- The configuration write has failed: CFGERR, and a retry after 1,250,000 ticks (R348). -/
def State.cfgFail (s : State) (n : Nat) : State :=
  let t := s.time.mt + ticksU 1250000
  let s := s.modHd n fun h => { h with retryAt := some t }
  (s.setFlag (R.HL_CH_STAT n) F.HL_CH_STAT_CFGERR true).raise R.HL_ISR F.HL_ISR_CFGERR

/-- A host request ends with a code (R347). -/
def State.auxEnd (s : State) (n code : Nat) : State :=
  (s.setFld (R.HL_CH_AUX n) F.HL_CH_AUX_CODE code).raise R.HL_ISR F.HL_ISR_AUX

/-- An uplink frame's auxiliary answer (R347, R348): type, address, data. -/
def State.auxAnswer (s : State) (n t a d : Nat) : State :=
  match (s.hd n).aux with
  | some (own, wr, addr, _, true, _) =>
    if t = 0 ∨ a ≠ addr then s
    else
      let s :=
        if own then
          if t = 1 then
            (s.modHd n fun h => { h with cfgDone := true, retryAt := none }).setFlag (R.HL_CH_STAT n) F.HL_CH_STAT_CFGERR false
          else s.cfgFail n
        else
          let s := if !wr && decide (t = 2) then s.setFld (R.HL_CH_AUXDATA n) F.HL_CH_AUXDATA_DATA d else s
          s.auxEnd n (if t = 3 then 1 else 0)
      s.auxOver n
  | _ => s

/-- AUX_GO (R347): a write of HL_CH_AUX with GO = 1 makes a host request; while one is outstanding it is ignored with REJ. -/
def execAuxGo (n : Nat) (v : Word) (s : State) : Res :=
  onUnitWrite n s.channels 32 (R.HL_CH_AUX n) s fun s =>
    let w := R.HL_CH_AUX n
    let busy := s.flag w F.HL_CH_AUX_BUSY
    if busy && decide (field F.HL_CH_AUX_GO v = 1) then s.raise R.HL_ISR F.HL_ISR_REJ
    else
      let s := (s.setFld w F.HL_CH_AUX_ADDR (field F.HL_CH_AUX_ADDR v)).setFld w F.HL_CH_AUX_WRITE (field F.HL_CH_AUX_WRITE v)
      if field F.HL_CH_AUX_GO v = 0 then s
      else
        let now := s.time.mt
        let d := s.fld (R.HL_CH_AUXDATA n) F.HL_CH_AUXDATA_DATA
        let r := (false, decide (field F.HL_CH_AUX_WRITE v = 1), field F.HL_CH_AUX_ADDR v, d, false, now)
        (s.modHd n fun h => { h with aux := some r }).setFlag w F.HL_CH_AUX_BUSY true

/-- AUX_TIMEOUT (R347, R348): no matching answer within 5,000 ticks of the request. -/
def execAuxTimeout (n : Nat) (s : State) : Res :=
  onUnit n s.channels 32 s fun s =>
    match (s.hd n).aux with
    | some (own, _, _, _, _, since) =>
      if since + ticksU 5000 ≤ s.time.mt then (if own then s.cfgFail n else s.auxEnd n 2).auxOver n else s
    | none => s

/-- HEAD_CONFIG_RETRY (R348). -/
def execHeadConfigRetry (n : Nat) (s : State) : Res :=
  onUnit n s.channels 32 s fun s =>
    match (s.hd n).retryAt with
    | some t => if t ≤ s.time.mt then (s.modHd n fun h => { h with cfgDue := true, retryAt := none }).launchCfg n else s
    | none => s

/-! ### Uplink (R342 to R344, R348) -/

/-- A position code as the device takes it (R344). -/
def posCode (x : Nat) : Int := max (-8388607) (signed 24 x)

/-- The frame passes R344: four blocks, the type and the CRC. -/
def uplinkOk (b0 b1 b2 b3 : Nat) : Bool :=
  decide (b0 % 256 = 0xE2) && decide (crc16 (leBytes b0 8 ++ leBytes b1 8 ++ leBytes b2 8 ++ leBytes b3 6) = bits b3 48 16)

/-- What an accepted frame reports: head status, temperature, ECHO, SEQ, measured currents (R342, R348, R351). -/
def State.headReport (s : State) (n b0 b1 b2 : Nat) : State :=
  let st := bits b2 32 16
  let old := s.fld (R.HL_CH_STAT n) F.HL_CH_STAT_HSTAT
  let s := s.setFld (R.HL_CH_STAT n) F.HL_CH_STAT_HSTAT st
  let rose (b : Nat) : Bool := bitAt st b && !bitAt old b
  let s := if rose 1 || rose 2 then s.raise R.HL_ISR F.HL_ISR_HEAD else s
  let w := R.HL_CH_TEMP n
  let s := ((s.setFld w F.HL_CH_TEMP_TEMP (bits b2 16 16)).setFld w F.HL_CH_TEMP_ECHO (bits b1 56 8)).setFld w F.HL_CH_TEMP_SEQ (bits b0 8 8)
  let s := (s.setFld (R.HL_CH_CUR0 n) F.HL_CH_CUR0_CX (bits b1 24 16)).setFld (R.HL_CH_CUR0 n) F.HL_CH_CUR0_CY (bits b1 40 16)
  s.setFld (R.HL_CH_CUR1 n) F.HL_CH_CUR1_CZ (bits b2 0 16)

/-- The first block is a control block, the others data blocks: nothing else stands in the frame (R329, R342, R344). -/
def frameShape : List Block → Bool
  | b :: bs => decide (b.hdr = 1) && bs.all fun d => decide (d.hdr = 2)
  | [] => false

/-- The arrival of an accepted frame is kept for 4,096 servo periods (R344, R413). -/
def State.noteArrival (s : State) (n : Nat) : State :=
  let now := s.time.mt
  let phase := s.fld (R.SRV_AX_LINK (3 * n)) F.SRV_AX_LINK_ARRPH
  s.modHd n fun h => { h with arrivals := (now, phase) :: h.arrivals.filter fun x => decide (now < x.1 + 4096 * servoU) }

/-- UPLINK_FRAME (R133, R152, R249, R329, R342 to R344, R347, R348): at its arrival, four contiguous blocks. -/
def execUplinkFrame (n : Nat) (blocks : List Block) (s : State) : Res :=
  onUnit n s.channels 32 s fun s =>
    if s.laneState n ≠ 5 ∨ !s.up dHEAD then s
    else
      let s := s.countStray n blocks
      match blocks.map (·.payload.toNat) with
      | [b0, b1, b2, b3] =>
        if frameShape blocks && uplinkOk b0 b1 b2 b3 then
          let q := bits b0 8 8
          let gap := match (s.hd n).rxSeq with | some r => decide (q ≠ (r + 1) % 256) | none => false
          let s := if gap then s.satAdd (R.HL_CH_ERR n) F.HL_CH_ERR_GAP 1 else s
          let s := s.modHd n fun h => { h with rxSeq := some q }
          let y : V3 := ⟨posCode (bits b0 16 24), posCode (bits b0 40 24), posCode (bits b1 0 24)⟩
          let s := ((s.headReport n b0 b1 b2).sampleFrame n y).noteArrival n
          let s := (s.tegFrame n y).handFrame n y
          s.auxAnswer n (bits b3 0 4) (bits b3 8 8) (bits b2 48 16)
        else s.satAdd (R.HL_CH_ERR n) F.HL_CH_ERR_CRC 1
      | _ => s.satAdd (R.HL_CH_ERR n) F.HL_CH_ERR_CRC 1

end Sys2Proof.Machine
end

