-- ==== Sys2Proof/Machine/Integrity.lean ====
section
/-!
DEFINITION. Data integrity: scrubbing, trackers and the remap table, self-test, split writes (R393 to R404).
The detections that the data paths make are in Records.lean.
-/

namespace Sys2Proof.Machine

/-! ### Scrubbing (R395, R396) -/

/-- Passes of the scrubber, one every 80,000,000 ticks. -/
def scrubU : Nat := ticksU 80000000

/-- SCRUB_PASS (R395). -/
def execScrubPass (s : State) : Res :=
  let at_ := s.intg.scrubAt
  let due := decide (at_ = 0) || decide (at_ - 1 + scrubU ≤ s.time.mt)
  occurs (s.flag R.INTG_CTL F.INTG_CTL_SCRUB && due) s fun s =>
    let now := s.time.mt
    let s := { s with intg := { s.intg with scrubAt := now + 1 } }
    s.setReg R.INTG_PASS (s.reg R.INTG_PASS + 1)

/-- The window words of a class: lowest address and one past the highest; none for a class without a window (R393). -/
def classWindow (c : Nat) : Option (Nat × Nat) :=
  match c with
  | 2 => some (0x2000000, 0x3000000)
  | 3 => some (0x1080000, 0x1100000)
  | 5 => some (0x1100000, 0x1800000)
  | 6 => some (0x1800000, 0x1900000)
  | 7 => some (0x1A00000, 0x1B00000)
  | 8 => some (0x1900000, 0x2000000)
  | _ => none

/-- The address of a word of a class that the window shows. -/
def classAddr (c i : Nat) : Option Nat :=
  match classWindow c with
  | some (lo, hi) => if lo + 4 * i < hi then some (lo + 4 * i) else none
  | none => none

/-- The domain that holds a word of a class (R393, R395). -/
def classDomain (c i : Nat) : Nat :=
  match c with
  | 0 => dSEQ | 1 => dSEQ | 2 => dSEQ | 3 => dSRV | 4 => dSRV | 5 => dSRV | 6 => dAFE | 7 => dCAM
  | 8 =>
    match classAddr 8 i with
    | some a => if a < 0x1A00000 then dMOT else if a < 0x1C00000 then dLGT else dHEAD
    | none => dMOT
  | 9 => dHOST
  | _ => dMGMT

/-- The channel whose table of class 6 a word belongs to: melt-pool gain sets, power maps, photodiode and DAC sets (R195, R196). -/
def laserWordChannel (o : Nat) : Nat :=
  if o < 0x4000 then o / 0x200
  else if 0x10000 ≤ o ∧ o < 0x18000 then (o - 0x10000) / 0x400
  else if 0x20000 ≤ o ∧ o < 0x28000 then (o - 0x20000) / 0x400
  else if 0x30000 ≤ o ∧ o < 0x32000 then o % 0x1000 / 0x10
  else if 0x32000 ≤ o ∧ o < 0x34000 then o % 0x1000 / 4
  else 0xFF

/-- The channel whose table a word belongs to, or 0xFF (R402). -/
def wordChannel (c i : Nat) : Nat :=
  if (classAddr c i).isNone then (if c = 0 ∨ c = 1 ∨ c = 6 then Config.wordHome c i else if c = 4 then Config.wordHome c i / 3 else 0xFF)
  else match c with
  | 6 => laserWordChannel (4 * i)
  | 8 => let a := 0x1900000 + 4 * i; if 0x1C00000 ≤ a ∧ a < 0x1C00200 then a % 0x100 / 4 else 0xFF
  | 2 => 4 * i % 0x800000 / 0x40000
  | 3 => 4 * i % 0x40000 / 0x800 / 3
  | 5 => if 4 * i < 0x300000 then 4 * i / 0x8000 / 3 else 0xFF
  | _ => 0xFF

/-- A scrub read finds a word as the outside says, or as a split write or an earlier scrub read left it. -/
def State.scrubFinds (s : State) (cls index : Nat) (f : ScrubFinding) : Nat :=
  let k := match f with | .clean => 0 | .corrected => 1 | .uncorrectable => 2
  match classAddr cls index with
  | some a => max k (min 2 (s.wordState a))
  | none => if decide ((cls, index) ∈ s.intg.hidden) then 2 else k

/-- The check state of a word: of one outside the window only that it is uncorrectable is kept. -/
def State.setWord (s : State) (cls index k : Nat) : State :=
  match classAddr cls index with
  | some a => { s with intg := { s.intg with planted := tabSet (fun _ => 0) s.intg.planted a k } }
  | none =>
    let rest := s.intg.hidden.filter fun x => decide (x ≠ (cls, index))
    { s with intg := { s.intg with hidden := if k = 2 then (cls, index) :: rest else rest } }

/-! ### Trackers and promotion (R397, R398) -/

def State.trackers (s : State) (c : Nat) : List Track := tabGet (fun _ => []) s.intg.trackers c
def State.setTrackers (s : State) (c : Nat) (l : List Track) : State :=
  { s with intg := { s.intg with trackers := tabSet (fun _ => []) s.intg.trackers c l } }

/-- A remap entry is in use. -/
def State.remapped (s : State) (c e : Nat) : Bool := s.flag (R.INTG_REMAP c e) F.INTG_REMAP_VALID

/-- A remap entry serves a word. -/
def State.serves (s : State) (c index e : Nat) : Bool :=
  s.remapped c e && decide (s.fld (R.INTG_REMAP c e) F.INTG_REMAP_INDEX = index)

/-- A word is served by the remap table. -/
def State.isRemapped (s : State) (c index : Nat) : Bool := (List.range 16).any (s.serves c index)

/-- Promote a word into the lowest free entry and free its tracker entry; with no free entry the tracker entry stays. -/
def State.promote (s : State) (c index : Nat) : State :=
  match (List.range 16).find? fun e => !s.remapped c e with
  | some e =>
    let s := s.setReg (R.INTG_REMAP c e)
      (withField F.INTG_REMAP_VALID (withField F.INTG_REMAP_INDEX 0 index) 1)
    let s := s.setTrackers c ((s.trackers c).filter fun t => decide (t.index ≠ index))
    (s.raise R.INTG_ISR F.INTG_ISR_PROMOTE).intgRecord 4 (wordChannel c index) (intgData 4 c 0 index) c
  | none => (s.raise R.INTG_ISR F.INTG_ISR_REMAPFULL).intgRecord 5 (wordChannel c index) (intgData 5 c 0 index) c

/-- Replace the first entry with the oldest newer pass. -/
def evictOldest (t : Track) : List Track → List Track
  | [] => []
  | x :: xs => if xs.all (fun y => decide (x.newer ≤ y.newer)) then t :: xs else x :: evictOldest t xs

/-- A scrub correction at a word in the present pass (R397). -/
def State.track (s : State) (c index : Nat) : State :=
  let p := s.fld R.INTG_PASS F.INTG_PASS_COUNT
  let l := s.trackers c
  match l.find? fun t => decide (t.index = index) with
  | some t =>
    let third := match t.older with | some q => decide (p ≤ q + 15) | none => false
    if third then s.promote c index
    else s.setTrackers c (l.map fun x => if x.index = index then ⟨index, some t.newer, p⟩ else x)
  | none =>
    if l.length < 8 then s.setTrackers c (l ++ [⟨index, none, p⟩])
    else (s.setTrackers c (evictOldest ⟨index, none, p⟩ l)).satAdd R.INTG_TRKOVF F.INTG_TRKOVF_COUNT 1

/-- SCRUB_READ (R396 to R398): a correction is written back, counted and tracked; an uncorrectable word stays and is reported. Words of
a domain that is off are skipped. -/
def execScrubRead (cls index : Nat) (finding : ScrubFinding) (s : State) : Res :=
  if 11 ≤ cls then .fault .noSuchUnit
  else occurs (s.flag R.INTG_CTL F.INTG_CTL_SCRUB && s.up (classDomain cls index)) s fun s =>
    let k := s.scrubFinds cls index finding
    if k = 0 then s
    else if k = 1 then
      let s := ((s.setWord cls index 0).satAdd R.INTG_CE F.INTG_CE_COUNT 1).raise R.INTG_ISR F.INTG_ISR_CE
      if s.isRemapped cls index then s else s.track cls index
    else (s.setWord cls index 2).detectUe 3 cls (wordChannel cls index) index

/-- REMAP_FREE (R399): writing 0 returns the word to the SRAM, sound; any other write is ignored with REJ. -/
def execRemapFree (cls e : Nat) (v : Word) (s : State) : Res :=
  if cls < 11 ∧ e < 16 then
    .next (if v ≠ 0 then s.raise R.INTG_ISR F.INTG_ISR_REJ
      else
        let i := s.fld (R.INTG_REMAP cls e) F.INTG_REMAP_INDEX
        let s := if s.remapped cls e then s.setWord cls i 0 else s
        s.setReg (R.INTG_REMAP cls e) 0)
  else .fault .noSuchUnit

/-! ### Checker test (R10, R400, R401) -/

/-- BIST (R400): a write of INTG_CTL.BIST = 1, ignored with REJ in a layer; T16 and T08 have no self-test. -/
def execBist (s : State) : Res :=
  .next (if s.splitWrite then s
    else if s.layerArmed then s.raise R.INTG_ISR F.INTG_ISR_REJ
    else s.setFlag R.INTG_STAT F.INTG_STAT_BISTBUSY true)

/-- A failing checker's record (R402); bits 0 to 10 are the classes. -/
def State.bistFail (s : State) (b : Nat) : State := s.intgRecord 7 0xFF (intgData 7 b 0 0) b

/-- Checkers that a domain holds (R390, R393, R400; DEDUCED, log 113): bits 0 to 10 the classes, 11 to 14 the residue units, 15 CRC. -/
def domainCheckers (d : Nat) : List Nat :=
  if d = dMGMT then [10] else if d = dSEQ then [0, 1, 2, 11, 12, 15] else if d = dSRV then [3, 4, 5, 13]
  else if d = dAFE then [6, 14] else if d = dCAM then [7, 15] else if d = dHOST then [9] else if d = dHOOP then [9, 15]
  else if d = dMOT ∨ d = dLGT ∨ d = dHEAD then [8] else []

/-- The verdicts of a self-test (R400, R402, R444): failing checkers set their bits, with a record each and one Cave record. -/
def State.bistResult (s : State) (bad : List Nat) : State :=
  match bad with
  | [] => s
  | b :: _ =>
    let s := s.setReg R.INTG_BIST (bad.foldl (fun w k => w ||| BitVec.ofNat 32 (2 ^ k)) (s.reg R.INTG_BIST))
    let s := s.raise R.INTG_ISR F.INTG_ISR_BISTFAIL
    (s.each bad fun b t => t.bistFail b).caveIntegrity 0xFF (intgData 7 b 0 0)

/-- The failing checkers of a list. -/
def failing (checkers : List Nat) (failed : Nat) : List Nat := (List.range 16).filter fun b => checkers.contains b && bitAt failed b

/-- BIST_DONE (R400, R444): the test of every domain that is up ends with the failing checkers. -/
def execBistDone (failed : Nat) (s : State) : Res :=
  occurs (s.flag R.INTG_STAT F.INTG_STAT_BISTBUSY) s fun s =>
    let s := s.setFlag R.INTG_STAT F.INTG_STAT_BISTBUSY false
    s.bistResult (failing (((List.range 11).filter s.up).flatMap domainCheckers) failed)

/-- SPLIT_WRITE_ARM (R401): a write of INTG_SPLIT_CTL; ignored on T32F and T32S, and with REJ in a layer. -/
def execSplitWriteArm (v : Word) (s : State) : Res :=
  .next (if !s.splitWrite then s
    else if s.layerArmed then s.raise R.INTG_ISR F.INTG_ISR_REJ
    else s.setReg R.INTG_SPLIT_CTL (v &&& 0x7F01))

/-- SPLIT_RESIDUE (R401): a write of INTG_SPLIT_RES; with GO = 1 the next operation of the unit, channel and axis has an inverted
residue. -/
def execSplitResidue (v : Word) (s : State) : Res :=
  .next (if !s.splitWrite then s
    else if s.layerArmed then s.raise R.INTG_ISR F.INTG_ISR_REJ
    else
      let s := s.setReg R.INTG_SPLIT_RES (v &&& 0x37F)
      if field F.INTG_SPLIT_RES_GO v = 0 then s
      else
        let u := field F.INTG_SPLIT_RES_UNIT v
        let x := field F.INTG_SPLIT_RES_AXIS v
        let f := (u, field F.INTG_SPLIT_RES_CH v, if u = 0 ∨ u = 3 ∨ x = 3 then 0 else x)
        { s with intg := { s.intg with forced := f :: s.intg.forced.filter (fun g => decide (g ≠ f)) } })

/-! ### Reset and domains (R403) -/

/-- The INTG block after SYSRST_N or BRST: INTG_BIST, remap tables and trackers stay. -/
def State.resetIntg (s : State) (keep : Access → Bool) : State :=
  let b := s.reg R.INTG_BIST
  let s := (s.resetRegs 0x50000 0x60000 keep).setReg R.INTG_BIST b
  { s with intg := { s.intg with forced := [] } }

/-- INTG_BLOCK_RESET (R403): INTG_CTL.BRST. -/
def execIntgBlockReset (s : State) : Res := .next (s.resetIntg keepRws)

/-- A domain powers up: on T32F and T32S its checkers are tested before it reports up (R400). -/
def State.bistAtPowerUp (s : State) (d failed : Nat) : State :=
  if s.splitWrite then s else s.bistResult (failing (domainCheckers d) failed)

/-- Remap entries and trackers of the classes whose contents a domain loses are cleared: those without retention (R403). -/
def State.intgLost (s : State) (classes : List Nat) : State :=
  let h := s.intg.hidden.filter fun e => !classes.contains e.1
  ({ s with intg := { s.intg with hidden := h } } : State).each classes fun c t => (t.setTrackers c []).each (List.range 16) fun e u => u.setReg (R.INTG_REMAP c e) 0

end Sys2Proof.Machine
end

