-- ==== Sys2Proof/Machine/Budget.lean ====
section
/-!
DEFINITION. The budget arbiter's requests, grants and releases (R428, R429).
-/

namespace Sys2Proof.Machine

/-- Key of a requester's credits of a budget. -/
def budKey (b who : Nat) : Nat := 64 * b + who

/-- Credits granted to a requester. -/
def State.granted (s : State) (b who : Nat) : Nat := tabGet (fun _ => 0) s.pwr.grants (budKey b who)

/-- Credits granted of a budget. -/
def State.grantedSum (s : State) (b : Nat) : Nat :=
  s.pwr.grants.foldl (fun n e => if e.1 / 64 = b then n + e.2 else n) 0

/-- Requests that wait at a budget, oldest first. -/
def State.waiting (s : State) (b : Nat) : List BudReq := tabGet (fun _ => []) s.pwr.waits b

/-- Replace the waiting requests of a budget. -/
def State.setWaiting (s : State) (b : Nat) (l : List BudReq) : State :=
  { s with pwr := { s.pwr with waits := tabSet (fun _ => []) s.pwr.waits b l } }

/-- Replace a requester's credits. -/
def State.setGranted (s : State) (b who n : Nat) : State :=
  { s with pwr := { s.pwr with grants := tabSet (fun _ => 0) s.pwr.grants (budKey b who) n } }

/-- Whether a requester waits. -/
def State.waits (s : State) (b who : Nat) : Bool := (s.waiting b).any fun r => decide (r.who = who)

/-- The registers of a budget follow its grants and requests (R438). Only the illumination block asks for LED supply, budget 3: its
WAITGRANT is 1 while a request of it is outstanding, of its sinks or of a strobe (R315, R320). -/
def State.budSync (s : State) (b : Nat) : State :=
  let wait := (s.waiting b).foldl (fun n r => n + r.amount) 0
  let w := R.PWR_BUD_USE b
  let s := (s.setFld w F.PWR_BUD_USE_GRANT (min (s.grantedSum b) 65535)).setFld w F.PWR_BUD_USE_WAIT (min wait 65535)
  let s := s.setFlag (R.PWR_BUD_STAT b) F.PWR_BUD_STAT_OVER ((s.waiting b).any (·.aside))
  if b = 3 then s.setFlag R.LGT_STAT F.LGT_STAT_WAITGRANT (!(s.waiting b).isEmpty) else s

/-- Insert a request: arrival order, requests of one tick by ascending requester (R428). -/
def insertReq (r : BudReq) : List BudReq → List BudReq
  | [] => [r]
  | x :: xs => if r.at_ < x.at_ ∨ (r.at_ = x.at_ ∧ r.who < x.who) then r :: x :: xs else x :: insertReq r xs

/-- The limit of a budget. -/
def State.budLimit (s : State) (b : Nat) : Nat := s.fld (R.PWR_BUD_LIM b) F.PWR_BUD_LIM_LIM

/-- Request credits; nothing is requested where none is needed. A request beyond the whole limit is set aside (R428). -/
def State.budRequest (s : State) (b who amount : Nat) : State :=
  if amount = 0 then s
  else
    let aside := decide (s.budLimit b < amount)
    let s := (s.setWaiting b (insertReq ⟨who, amount, s.time.mt, aside⟩ (s.waiting b))).budSync b
    if aside then s.raise R.PWR_ISR F.PWR_ISR_OVER else s

/-- Withdraw a requester's waiting request. -/
def State.budWithdraw (s : State) (b who : Nat) : State :=
  if s.waits b who then (s.setWaiting b ((s.waiting b).filter fun r => decide (r.who ≠ who))).budSync b else s

/-- Set a requester's credits: a release returns them at once (R428). -/
def State.budHold (s : State) (b who n : Nat) : State :=
  if s.granted b who = n then s else (s.setGranted b who n).budSync b

/-- A requester gives up all it holds and asks for. -/
def State.budFree (s : State) (b who : Nat) : State := (s.budWithdraw b who).budHold b who 0

/-- The request that the arbiter considers: the first that is not set aside. -/
def nextBudReq : List BudReq → Option (BudReq × List BudReq)
  | [] => none
  | r :: rs =>
    if r.aside then
      match nextBudReq rs with
      | some (x, l) => some (x, r :: l)
      | none => none
    else some (r, rs)

/-- Grant the next request of a budget where it fits; the requester, or none. A request that is now larger than the whole limit is
set aside (R428). The wait goes into MAXWAIT in us, whose rounding the spec does not state. -/
def State.grantNext (s : State) (b : Nat) : Option Nat × State :=
  match nextBudReq (s.waiting b) with
  | none => (none, s)
  | some (r, rest) =>
    if s.budLimit b < r.amount then
      let l := (s.waiting b).map fun x => if x = r then { x with aside := true } else x
      (none, ((s.setWaiting b l).budSync b).raise R.PWR_ISR F.PWR_ISR_OVER)
    else if s.grantedSum b + r.amount ≤ s.budLimit b then
      let us := (openQuot 5 (s.time.mt - r.at_ : Nat) 8000000).toNat
      let w := R.PWR_BUD_STAT b
      let s := s.setFld w F.PWR_BUD_STAT_MAXWAIT (min 65535 (max us (s.fld w F.PWR_BUD_STAT_MAXWAIT)))
      let s := (s.setWaiting b rest).setGranted b r.who (s.granted b r.who + r.amount)
      (some r.who, s.budSync b)
    else (none, s)

end Sys2Proof.Machine
end

