-- ==== Sys2Proof/Machine/Light.lean ====
section
/-!
DEFINITION. Illumination: sinks, matrix, neighbour-short test, strobes, and the pulses of TRIG (R97, R312 to R326).
-/

namespace Sys2Proof.Machine

/-! ### Demand (R313 to R315) -/

/-- Requester of the sinks and of a strobe at the LED budget. -/
def sinkReq : Nat := 12
def strobeReq (k : Nat) : Nat := 16 + k

/-- A byte of the table SRAM. -/
def State.tableByte (s : State) (a : Nat) : Nat := bits (s.reg (a / 4 * 4)).toNat (8 * (a % 4)) 8

/-- The direct code of a sink; the code of a sink in a line of a bank (R325). -/
def State.directCode (s : State) (k : Nat) : Nat := s.tableByte (0x1B00000 + k)
def State.bankCode (s : State) (b l k : Nat) : Nat := s.tableByte (0x1B00100 + 0x200 * b + 0x40 * l + k)

/-- The 48 sink enables. -/
def State.sinkEn (s : State) : Nat :=
  s.fld R.LGT_SINKEN_LO F.LGT_SINKEN_LO_EN + s.fld R.LGT_SINKEN_HI F.LGT_SINKEN_HI_EN * 2 ^ 32

/-- Credits for the enabled sinks' codes at a scale: R313 summed exactly, rounded up to whole 50 mA. -/
def sinkCredits (en scale : Nat) (code : Nat → Nat) : Nat :=
  let sum := (List.range 48).foldl (fun n k => if bitAt en k then n + code k else n) 0
  ceilDiv (100 * (21 + scale) * sum) (84 * 255 * 50)

def State.matrix (s : State) : Bool := s.flag R.LGT_CTL F.LGT_CTL_MATRIX

/-- Lines of a frame. -/
def State.mtxLines (s : State) : Nat := s.fld R.LGT_MTX_CFG F.LGT_MTX_CFG_LINES + 1

/-- Banks whose lines count: the one in use, and the other while a swap is pending. -/
def State.banksUsed (s : State) : List Nat :=
  let a := s.fld R.LGT_MTX_CTL F.LGT_MTX_CTL_ACTIVE
  if s.flag R.LGT_MTX_CTL F.LGT_MTX_CTL_PENDING then [a, 1 - a] else [a]

/-- The sink demand of the values written (R315). -/
def State.sinkDemand (s : State) : Nat :=
  let g := s.fld R.LGT_SCALE F.LGT_SCALE_G
  if !s.flag R.LGT_CTL F.LGT_CTL_EN then 0
  else if s.matrix then
    s.banksUsed.foldl (fun n b =>
      (List.range s.mtxLines).foldl (fun n l => max n (sinkCredits s.sinkEn g (s.bankCode b l))) n) 0
  else sinkCredits s.sinkEn g s.directCode

/-- The written values come into force. -/
def State.lightApply (s : State) : State :=
  let codes := (List.range 48).foldl (fun t k => tabSet (fun _ => 0) t k (s.directCode k)) []
  let g := s.fld R.LGT_SCALE F.LGT_SCALE_G
  let en := s.sinkEn
  { s with lgt := { s.lgt with codes := codes, scale := g, enabled := en } }

/-- What lowers the demand comes into force at once, whatever waits for a grant (R314, R324). -/
def State.lightLower (s : State) : State :=
  let codes := (List.range 48).foldl (fun t k => tabSet (fun _ => 0) t k (min (tabGet (fun _ => 0) t k) (s.directCode k))) s.lgt.codes
  let g := min s.lgt.scale (s.fld R.LGT_SCALE F.LGT_SCALE_G)
  let en := s.lgt.enabled &&& s.sinkEn
  { s with lgt := { s.lgt with codes := codes, scale := g, enabled := en } }

/-- The demand is taken to the arbiter (R314, R315): a demand that the held credits cover comes into force and returns the rest; a
higher one asks for the difference. -/
def State.lightSync (s : State) : State :=
  let d := s.sinkDemand
  let held := s.granted 3 sinkReq
  if d ≤ held then
    ((s.budWithdraw 3 sinkReq).budHold 3 sinkReq d).lightApply
  else
    let s := s.lightLower
    let same := (s.waiting 3).any fun r => decide (r.who = sinkReq) && decide (r.amount = d - held)
    if same then s else (s.budWithdraw 3 sinkReq).budRequest 3 sinkReq (d - held)

/-! ### Neighbour-short test (R319, R323) -/

/-- The pairs found short. -/
def State.shorts (s : State) : Nat :=
  s.fld R.LGT_SHORT_LO F.LGT_SHORT_LO_PAIR + s.fld R.LGT_SHORT_HI F.LGT_SHORT_HI_PAIR * 2 ^ 32

/-- A pair found short turns off, and is recorded with its occasion: 0 enable, 1 RUN, 2 blanking. -/
def State.shortFound (s : State) (occasion k : Nat) : State :=
  if k < 47 ∧ bitAt s.sinkEn k ∧ bitAt s.sinkEn (k + 1) then
    let s := if k < 32 then s.setBit R.LGT_SHORT_LO k true else s.setBit R.LGT_SHORT_HI (k - 32) true
    (s.raise R.LGT_ISR F.LGT_ISR_SHORT).post 0xFF0E 0xFF s.shorts occasion
  else s

/-- The matrix line that is lit: the one last started, until its LINE_T ends. In blanking and after the last line none is (R316). -/
def State.litLine (s : State) : Option Nat :=
  match s.lgt.lit with
  | some (l, t) => if s.time.mt < t then some l else none
  | none => none

/-- The sinks and lines are driven: enabled, with the domain up (R324). -/
def State.lightDriven (s : State) : Bool := s.hasLight && s.flag R.LGT_CTL F.LGT_CTL_EN && s.up dLGT

/-- A sink may be on: enabled in force, in no shorted pair, no full test running, and in matrix mode only while a line is lit (R314,
R316, R319). -/
def State.sinkMayBeOn (s : State) (k : Nat) : Bool :=
  s.lightDriven && decide (s.lgt.test = 0) && bitAt s.lgt.enabled k &&
    !bitAt s.shorts k && !(decide (0 < k) && bitAt s.shorts (k - 1)) && (!s.matrix || s.litLine.isSome)

/-- The code that a sink follows: in matrix mode that of the lit line in the bank in use, else its direct code in force (R314, R316). -/
def State.sinkCode (s : State) (k : Nat) : Nat :=
  if s.matrix then
    match s.litLine with
    | some l => s.bankCode (s.fld R.LGT_MTX_CTL F.LGT_MTX_CTL_ACTIVE) l k
    | none => 0
  else tabGet (fun _ => 0) s.lgt.codes k

/-- The current drawn at LED_K[k], in mA over 84 x 255: 100 mA x (21 + G)/84 x CODE/255 exactly (R312, R313). -/
def State.sinkCurrent (s : State) (k : Nat) : Nat :=
  if s.sinkMayBeOn k then 100 * (21 + s.lgt.scale) * s.sinkCode k else 0

/-- Level of LED_LN[l]: high in the line's LINE_T, low in blanking and outside matrix mode (R312, R316). -/
def State.ledLn (s : State) (l : Nat) : Bool := s.lightDriven && s.matrix && decide (s.litLine = some l)

/-- SHORT_TEST_DONE (R319): a full test ends with the pairs found short. -/
def execShortTestDone (shorted : List Nat) (s : State) : Res :=
  occurs (decide (s.lgt.test ≠ 0)) s fun s =>
    let o := if s.lgt.test = 1 then 0 else 1
    let s := s.each shorted fun k t => t.shortFound o k
    { s with lgt := { s.lgt with test := 0 } }.setFlag R.LGT_TEST F.LGT_TEST_BUSY false

/-- A full test starts. -/
def State.shortTestStart (s : State) (why : Nat) : State :=
  { s with lgt := { s.lgt with test := why } }.setFlag R.LGT_TEST F.LGT_TEST_BUSY true

/-- The block exists on this device; a host write to an absent one is captured (R4). -/
def onLight (addr : Nat) (s : State) (f : State → State) : Res :=
  .next (if s.hasLight then f s else s.absent .host addr true)

/-- LGT_TEST_RUN (R319). -/
def execLgtTestRun (s : State) : Res :=
  onLight R.LGT_TEST s fun s => if s.lgt.test = 0 then s.shortTestStart 2 else s

/-- SHORT_CLEAR (R319): writing 1 to bits of LGT_SHORT_LO, or _HI. -/
def execShortClear (high : Bool) (v : Word) (s : State) : Res :=
  onLight (if high then R.LGT_SHORT_HI else R.LGT_SHORT_LO) s fun s =>
    if high then s.setReg R.LGT_SHORT_HI (s.reg R.LGT_SHORT_HI &&& ~~~v) else s.setReg R.LGT_SHORT_LO (s.reg R.LGT_SHORT_LO &&& ~~~v)

/-! ### Enable and disable (R316, R319, R324) -/

/-- LGT_CTL takes a write: MATRIX only while EN = 0, else ignored with REJ (R316). -/
def State.storeLgtCtl (s : State) (v : Word) : State :=
  let old := s.fld R.LGT_CTL F.LGT_CTL_MATRIX
  let bad := s.flag R.LGT_CTL F.LGT_CTL_EN && decide (field F.LGT_CTL_MATRIX v ≠ old)
  let v : Word := v &&& 0xF
  if bad then (s.setReg R.LGT_CTL (withField F.LGT_CTL_MATRIX v old)).raise R.LGT_ISR F.LGT_ISR_REJ else s.setReg R.LGT_CTL v

/-- LGT_ENABLE (R315, R319): a write of LGT_CTL with EN = 1. -/
def execLgtEnable (v : Word) (s : State) : Res :=
  onLight R.LGT_CTL s fun s =>
    let was := s.flag R.LGT_CTL F.LGT_CTL_EN
    let s := s.storeLgtCtl (v ||| 1)
    if was then s.lightSync
    else
      let s := { s with lgt := { s.lgt with line := 0, lineEnd := 0, frame := false, startAt := none, endEarly := false, lit := none } }
      (s.shortTestStart 1).lightSync

/-- A strobe's pulse ends: STB_G is low. -/
def Strobe.stop (b : Strobe) : Strobe := { Strobe.reset with conflicts := b.conflicts }

/-- A strobe is off and its credits are back (R320, R324). -/
def State.strobeOff (s : State) (k : Nat) : State :=
  let s := s.modSb k Strobe.stop
  (s.budFree 3 (strobeReq k)).setFlag (R.LGT_STB_STAT k) F.LGT_STB_STAT_READY false

/-- Every sink, line and strobe is off and all credits are back (R324). -/
def State.lightOff (s : State) : State :=
  let s := s.setFlag R.LGT_CTL F.LGT_CTL_EN false
  let s := s.setFlag R.LGT_TEST F.LGT_TEST_BUSY false
  let p := s.lgt.pair
  let s := { s with lgt := { Light.reset with pair := p } }
  (s.budFree 3 sinkReq).each [0, 1, 2, 3] fun k t => t.strobeOff k

/-- LGT_DISABLE (R324): a write of LGT_CTL with EN = 0. -/
def execLgtDisable (v : Word) (s : State) : Res :=
  onLight R.LGT_CTL s fun s => (s.storeLgtCtl (v &&& 0xFFFFFFFE)).lightOff

/-! ### Codes, scale, enables and banks (R314, R317, R325) -/

/-- The bank and line of a bank word, where the address is one. -/
def bankOf (addr : Nat) : Option Nat :=
  let o := addr - 0x1B00100
  if 0x1B00100 ≤ addr ∧ addr < 0x1B00500 ∧ o % 0x40 < 48 then some (o / 0x200) else none

/-- A bank may be written: not the active one, nor the other while a swap is pending (R317). -/
def State.bankFree (s : State) (b : Nat) : Bool :=
  decide (b ≠ s.fld R.LGT_MTX_CTL F.LGT_MTX_CTL_ACTIVE) && !s.flag R.LGT_MTX_CTL F.LGT_MTX_CTL_PENDING

/-- SINK_WRITE (R314, R315, R317): a write of LGT_SCALE, LGT_SINKEN or a code. -/
def execSinkWrite (addr : Nat) (v : Word) (s : State) : Res :=
  onAddr addr s fun s =>
    let light := decide (addr = R.LGT_SCALE) || decide (addr = R.LGT_SINKEN_LO) || decide (addr = R.LGT_SINKEN_HI) ||
      (decide (0x1B00000 ≤ addr) && decide (addr < 0x1C00000))
    if !light then s
    else if !s.hasLight then s.absent .host addr true
    else if addr = R.LGT_SCALE then (s.setReg addr (v &&& 0x3F)).lightSync
    else if addr = R.LGT_SINKEN_LO then (s.setReg addr v).lightSync
    else if addr = R.LGT_SINKEN_HI then (s.setReg addr (v &&& 0xFFFF)).lightSync
    else if addr < 0x1B00030 then (s.tableStore addr 0xFFFFFFFF v).lightSync
    else
      match bankOf addr with
      | none => s
      | some b => if s.bankFree b then s.tableStore addr 0xFFFFFFFF v else s.raise R.LGT_ISR F.LGT_ISR_REJ

/-! ### Matrix (R316 to R319) -/

/-- The credits held cover the other bank at the scale and the enables in force: a swap's own raise is granted (R314, R315). -/
def State.swapGranted (s : State) : Bool :=
  let b := 1 - s.fld R.LGT_MTX_CTL F.LGT_MTX_CTL_ACTIVE
  (List.range s.mtxLines).all fun l =>
    decide (sinkCredits s.lgt.enabled s.lgt.scale (s.bankCode b l) ≤ s.granted 3 sinkReq)

/-- The other bank becomes active at a frame start, once its demand is granted; a raise of another kind that waits does not hold it
back (R314, R317). -/
def State.swapBanks (s : State) : State :=
  if s.flag R.LGT_MTX_CTL F.LGT_MTX_CTL_PENDING && s.swapGranted then
    let a := s.fld R.LGT_MTX_CTL F.LGT_MTX_CTL_ACTIVE
    ((s.setFld R.LGT_MTX_CTL F.LGT_MTX_CTL_ACTIVE (1 - a)).setFlag R.LGT_MTX_CTL F.LGT_MTX_CTL_PENDING false).lightSync
  else s

/-- SWAP (R317). -/
def execSwap (s : State) : Res :=
  onLight R.LGT_MTX_CTL s fun s => (s.setFlag R.LGT_MTX_CTL F.LGT_MTX_CTL_PENDING true).lightSync

/-- Matrix frames can run. -/
def State.matrixOn (s : State) : Bool :=
  s.hasLight && s.up dLGT && s.flag R.LGT_CTL F.LGT_CTL_EN && s.matrix && decide (s.lgt.test = 0)

/-- The pairs of the next test in a blanking: four, round robin. -/
def State.nextPairs (s : State) : List Nat := (List.range 4).map fun i => (s.lgt.pair + i) % 47

/-- MATRIX_LINE (R316, R317, R319): a line starts, at a frame start with SYNC = 0 after a swap; its codes light it for LINE_T; its
blanking tests the next four pairs, where it is long enough. DESIGN CHOICE (log 109): the shorts of that blanking are recorded with
the line's command. -/
def execMatrixLine (shorted : List Nat) (s : State) : Res :=
  let sync := s.flag R.LGT_CTL F.LGT_CTL_SYNC
  occurs (s.matrixOn && decide (s.lgt.lineEnd ≤ s.time.mt) && (s.lgt.frame || !sync)) s fun s =>
    let s := if !sync && decide (s.lgt.line = 0) then s.swapBanks else s
    let a := s.fld R.LGT_MTX_CTL F.LGT_MTX_CTL_ACTIVE
    let s := (s.readWords 0xFF [(0x1B00100 + 0x200 * a + 0x40 * s.lgt.line, 48)]).2
    let blank := s.fld R.LGT_MTX_BLANK F.LGT_MTX_BLANK_BLANK
    let dark := s.time.mt + ticksU (s.fld R.LGT_MTX_CFG F.LGT_MTX_CFG_LINE_T)
    let stop := dark + ticksU blank
    let lit := s.lgt.line
    let s := s.setFlag R.LGT_TEST F.LGT_TEST_NOBLANK (decide (blank < 1250))
    let pairs := s.nextPairs
    let s := if blank < 1250 then s
      else
        let s := s.each (pairs.filter fun k => decide (k ∈ shorted)) fun k t => t.shortFound 2 k
        { s with lgt := { s.lgt with pair := (s.lgt.pair + 4) % 47 } }
    let last := decide (s.mtxLines ≤ s.lgt.line + 1) || s.lgt.endEarly
    let n := if last then 0 else s.lgt.line + 1
    { s with lgt := { s.lgt with line := n, lineEnd := stop, frame := !last && sync, endEarly := false, lit := some (lit, dark) } }

/-- LSYNC_EDGE (R318): LSYNC has changed its level and held the new one for 4 ticks. An edge of the polarity of SYNCPOL places a frame
start, replacing one that has not come; a frame in progress ends after the line in progress, and is counted. -/
def execLsyncEdge (s : State) : Res :=
  let level := !s.pins.lsync
  let s := { s with pins := { s.pins with lsync := level } }
  let chosen := level != s.flag R.LGT_CTL F.LGT_CTL_SYNCPOL
  occurs (chosen && s.matrixOn && s.flag R.LGT_CTL F.LGT_CTL_SYNC) s fun s =>
    let t := s.time.mt + ticksU (s.fld R.LGT_LSYNC_DLY F.LGT_LSYNC_DLY_DLY)
    let early := s.lgt.frame || decide (s.time.mt < s.lgt.lineEnd)
    let fresh := s.lgt.frame && decide (s.lgt.line = 0)
    let s := { s with lgt := { s.lgt with startAt := some t, endEarly := fresh, frame := fresh, line := 0 } }
    if early then s.satAdd R.LGT_STAT F.LGT_STAT_EARLY 1 else s

/-- LSYNC_FRAME_START (R317, R318). -/
def execLsyncFrameStart (s : State) : Res :=
  let due := match s.lgt.startAt with | some t => decide (t ≤ s.time.mt) | none => false
  occurs (due && s.matrixOn && s.flag R.LGT_CTL F.LGT_CTL_SYNC) s fun s =>
    { s with lgt := { s.lgt with startAt := none, frame := true, line := 0, endEarly := false } }.swapBanks

/-! ### Strobes (R320 to R323) -/

/-- A host write to strobe k of the block. -/
def onStrobe (k addr : Nat) (s : State) (f : State → State) : Res :=
  onUnitWrite k (if s.hasLight then 4 else 0) 4 addr s f

/-- An event of strobe k. -/
def onStrobeEvent (k : Nat) (s : State) (f : State → State) : Res := onUnit k (if s.hasLight then 4 else 0) 4 s f

/-- STROBE_ENABLE (R320): a write of LGT_STB_CFG. ISET, RSH and H only while EN = 0, else ignored with REJ. EN = 1 asks for the
credits of ISET; EN = 0 returns them. -/
def execStrobeEnable (k : Nat) (v : Word) (s : State) : Res :=
  onStrobe k (R.LGT_STB_CFG k) s fun s =>
    let w := R.LGT_STB_CFG k
    let was := s.flag w F.LGT_STB_CFG_EN
    let bad := was && decide (s.reg w &&& 0x00FFFFFE ≠ v &&& 0x00FFFFFE)
    let s := s.setReg w (if was then (s.reg w &&& 0x00FFFFFE) ||| (v &&& 0xFF000001) else v)
    let s := if bad then s.raise R.LGT_ISR F.LGT_ISR_REJ else s
    if !s.flag w F.LGT_STB_CFG_EN then s.strobeOff k
    else if s.flag (R.LGT_STB_STAT k) F.LGT_STB_STAT_READY || s.waits 3 (strobeReq k) then s
    else
      let n := ceilDiv (s.fld w F.LGT_STB_CFG_ISET) 50
      if n = 0 then s.setFlag (R.LGT_STB_STAT k) F.LGT_STB_STAT_READY true else s.budRequest 3 (strobeReq k) n

/-- A pulse on a strobe (R97, R321): on a strobe that is not ready it drives nothing and counts in MISS. Pulses are ORed, and an
overlap counts in the output's conflict counter: the spec gives a strobe no register for it, DESIGN CHOICE (log 46). -/
def State.strobePulse (s : State) (k width : Nat) : State :=
  if !s.flag (R.LGT_STB_STAT k) F.LGT_STB_STAT_READY || !s.up dLGT then s.satAdd (R.LGT_STB_STAT k) F.LGT_STB_STAT_MISS 1
  else
    let now := s.time.mt
    let t := now + ticksU (80 * width)
    s.modSb k fun b =>
      if now < b.until_ then { b with until_ := max b.until_ t, conflicts := b.conflicts + 1 }
      else { b with until_ := t, since := now, gate := true, judged := false }

/-- A strobe is on. -/
def State.strobeOn (s : State) (k : Nat) : Bool := decide (s.time.mt < (s.sb k).until_)

/-- Level of STB_G[k]: that of the hysteretic control while the strobe is on (R320, R321). -/
def State.stbG (s : State) (k : Nat) : Bool := s.strobeOn k && (s.sb k).gate

/-- STROBE_PULSE (R321): a write of LGT_STB_CMD; HWIDTH 0 acts as 1. -/
def execStrobePulse (k : Nat) (v : Word) (s : State) : Res :=
  onStrobe k (R.LGT_STB_CMD k) s fun s =>
    let s := s.setReg (R.LGT_STB_CMD k) (v &&& 0xFFFF)
    if field F.LGT_STB_CMD_PULSE v = 1 then s.strobePulse k (max 1 (field F.LGT_STB_CMD_HWIDTH v)) else s

/-- TRIG_PULSE (R97): a camera trigger or a strobe pulse at its action time. -/
def execTrigPulse (ch : Nat) (s : State) : Res :=
  onUnit ch s.channels 32 s fun s =>
    s.takeAct ch (fun a => match a with | .trig _ _ _ => true | _ => false) fun a s =>
      match a.act with
      | .trig width kind unit => if kind = 0 then s.trigger unit width else s.strobePulse unit width
      | _ => s

/-- STROBE_CUT (R321): a pulse is cut at MAXON x 1,250 ticks. -/
def execStrobeCut (k : Nat) (s : State) : Res :=
  onStrobeEvent k s fun s =>
    let stop := (s.sb k).since + ticksU (1250 * s.fld (R.LGT_STB_CFG k) F.LGT_STB_CFG_MAXON)
    if s.strobeOn k && decide (stop ≤ s.time.mt) then
      (s.modSb k Strobe.stop).satAdd (R.LGT_STB_STAT k) F.LGT_STB_STAT_CUT 1
    else s

/-- A strobe fault (R322). -/
def State.strobeFault (s : State) (k cause : Nat) : State :=
  if !s.flag (R.LGT_STB_CFG k) F.LGT_STB_CFG_EN then s
  else
    let s := (s.setFlag (R.LGT_STB_CFG k) F.LGT_STB_CFG_EN false).strobeOff k
    let s := s.setFld (R.LGT_STB_STAT k) F.LGT_STB_STAT_CAUSE cause
    (s.raise R.LGT_ISR F.LGT_ISR_STROBE).post 0xFF0F 0xFF (k + cause * 256) 0

/-- A part of the set shunt voltage ISET x RSH, percent of it, in steps of 10 nV (R320, R322). -/
def State.shuntLevel (s : State) (k percent : Nat) : Nat :=
  s.fld (R.LGT_STB_CFG k) F.LGT_STB_CFG_ISET * s.fld (R.LGT_STB_CFG k) F.LGT_STB_CFG_RSH * percent

/-- The hysteresis H in percent: 5, 10, 15 or 20. -/
def State.hysteresis (s : State) (k : Nat) : Nat := 5 * (s.fld (R.LGT_STB_CFG k) F.LGT_STB_CFG_H + 1)

/-- STROBE_OVERCURRENT (R322): STB_ISN stands at so many steps of 10 nV, a fault above ISET x RSH x 1.5. -/
def execStrobeOvercurrent (k : Seen Nat) (s : State) : Res :=
  onStrobeEvent k.unit s fun s => if s.shuntLevel k.unit 150 < k.it then s.strobeFault k.unit 1 else s

/-- STROBE_NORISE (R322): STB_ISN stands at so many steps of 10 nV 2,500 ticks into a pulse, a fault below ISET x RSH x 0.5. -/
def execStrobeNorise (k : Seen Nat) (s : State) : Res :=
  onStrobeEvent k.unit s fun s =>
    if s.strobeOn k.unit && !(s.sb k.unit).judged && decide ((s.sb k.unit).since + ticksU 2500 ≤ s.time.mt) then
      let s := s.modSb k.unit fun b => { b with judged := true }
      if k.it < s.shuntLevel k.unit 50 then s.strobeFault k.unit 2 else s
    else s

/-- STB_ISN_CROSSING (R320): STB_ISN stands at v steps of 10 nV. STB_G turns on below ISET x RSH x (1 - H), off above
ISET x RSH x (1 + H), and stays as it is between them. -/
def execStbIsnCrossing (k v : Nat) (s : State) : Res :=
  onStrobeEvent k s fun s =>
    let h := s.hysteresis k
    if !s.strobeOn k then s
    else if v < s.shuntLevel k (100 - h) then s.modSb k fun b => { b with gate := true }
    else if s.shuntLevel k (100 + h) < v then s.modSb k fun b => { b with gate := false }
    else s

/-! ### Reset (R324) -/

/-- The illumination block after a reset that reaches it: everything off, codes and banks kept. -/
def State.resetLgt (s : State) (keep : Access → Bool) : State :=
  let s := s.lightOff
  { s.resetRegs 0x380000 0x3C0000 keep with lgt := Light.reset, strobe := [] }

/-- LGT_BLOCK_RESET (R324). -/
def execLgtBlockReset (s : State) : Res := onLight R.LGT_CTL s fun s => s.resetLgt keepRws

end Sys2Proof.Machine
end

