-- ==== Sys2Proof/Machine/Power.lean ====
section
/-!
DEFINITION. Power: domains, device states, wake sources, the arbiter, the pause duty and thermal shutdown's drop (R416 to R438).
-/

namespace Sys2Proof.Machine

/-! ### What a drop takes from the clients of its domain (R416) -/

/-- A channel's library beside its registers: kept over a drop of SEQ by its votes (R112). -/
def Chan.libOnly (c : Chan) : Chan := { Chan.reset with libLine := c.libLine, libWords := c.libWords }

/-- SEQ (R112, R122, R194, R250): in a layer the drop acts as a SEQ block reset. Feed, queues, K registers and walker go; a forced drop
also takes event flags, the libraries, tokens, HANDs and the loop states. Registers stay. -/
def State.seqLost (s : State) (forced : Bool) : State :=
  let s := if s.layerArmed then (s.namedReset 3 true).resetSeq keepRws else s
  if forced then
    let s := s.libsGone.modGrp fun g => { g with events := [] }
    { s.loopsLost with chan := [], xbar := [] }
  else
    let lib := (s.chan.map fun e => (e.1, e.2.libOnly)).filter fun e => decide (e.2 ≠ Chan.reset)
    { s with chan := lib }

/-- SRV (R163): modes OFF, loop states lost. -/
def State.srvLost (s : State) : State :=
  let s := s.each (List.range (3 * s.channels)) fun a t => t.axisOff a
  let s := s.setFlag R.SRV_ID_STAT F.SRV_ID_STAT_BUSY false
  { s with srvAx := [], srvCh := [], srv := { s.srv with idRun := false, idCount := 0, lastBoundary := none, learned := true } }

/-- CAM (R309): frames are dropped with cause POWER where their record can still be written, else lost unrecorded; every port is
disabled, and sets and transactions are gone. -/
def State.camLost (s : State) : State :=
  let s := s.each (List.range s.camPorts) fun p t =>
    let t := if t.dramOk (64 * t.fld (R.CAM_PT_RBASE p) F.CAM_PT_RBASE_LINE) 64 then t.dropAll p 5 else t
    ((t.modCm p fun c => { c with i2c := none, frames := [] }).camOff p).camSync p
  s.camCleared

/-- AFE (R173, R175, R194): the condition of cause 5 and LASER in every channel of a layer; converter, filter and integrator state
lost. -/
def State.afeLost (s : State) : State :=
  let s := s.each s.chs fun n t => if t.inLayer n then (t.laserCond n 5 false).runFault n 0x29 else t
  s.loopsLost

/-- LGT (R324): everything off, EN bits cleared. -/
def State.lgtLost (s : State) : State :=
  s.lightOff.each [0, 1, 2, 3] fun k t => t.setFlag (R.LGT_STB_CFG k) F.LGT_STB_CFG_EN false

/-- MOT (R279): coils off, axes DISABLED and not homed, counters and latches lost. -/
def State.motLost (s : State) : State :=
  let s := s.each (List.range s.axes) fun a t =>
    (((t.axisOffNow a).setFlag (R.MOT_AX_STAT a) F.MOT_AX_STAT_HOMED false).setReg (R.MOT_AX_HLATCH a) 0).setReg (R.MOT_AX_POS a) 0
  let s := ({ s with mot := [] } : State).resetFbk fun a => decide (a = .rw ∨ a = .rws)
  s.each (List.range s.axes) fun i t => t.setReg (R.FBK_COUNT i) 0

/-- HEAD (R349): every head lane is DOWN, and its receiver's adaptation is lost. -/
def State.headDropped (s : State) : State :=
  s.headLanesDown.each s.chs fun l t =>
    (t.setFld (R.LANE_RXEQ l) F.LANE_RXEQ_CTLE 0).setFld (R.LANE_RXEQ l) F.LANE_RXEQ_H1 0

/-- What domain d loses; a drop is forced or follows its votes. -/
def State.contentsLost (s : State) (d : Nat) (forced : Bool) : State :=
  match d with
  | 0 =>
    let s := { s with l2 := [], boot := { s.boot with suspended := true, windowAt := none } }
    s.setFld R.BOOT_STAT F.BOOT_STAT_STAGE 0
  | 1 => s.seqLost forced
  | 2 => s.srvLost
  | 3 => s.headDropped
  | 4 => s.portsDown.holdDomains
  | 5 => s.pciFundamental.ethDropped
  | 6 => s.ddrDown
  | 7 => s.camLost
  | 8 => s.afeLost
  | 9 => s.lgtLost
  | _ => s.motLost

/-- Classes of words that a domain does not retain (R393, R403). -/
def classesLost (d : Nat) : List Nat :=
  match d with
  | 0 => [10] | 1 => [0, 1] | 2 => [4] | 5 => [9] | _ => []

/-! ### Drops and raises (R418 to R420, R486) -/

/-- Requester of a domain's raise at the CORE and PKG budgets (R429). -/
def raiseReq (d : Nat) : Nat := 32 + d

/-- A domain's raise: 0 not begun, 1 waiting for credits, 2 waiting for PGOOD; with the time PWREN went high. -/
def State.raising (s : State) (d : Nat) : Nat × Nat := tabGet (fun _ => (0, 0)) s.pwr.raising d
def State.setRaising (s : State) (d : Nat) (v : Nat × Nat) : State :=
  { s with pwr := { s.pwr with raising := tabSet (fun _ => (0, 0)) s.pwr.raising d v } }

/-- Levels of a domain's PWREN and PGOOD. -/
def State.setPwren (s : State) (d : Nat) (v : Bool) : State := { s with pwr := { s.pwr with pwren := putBit s.pwr.pwren d v } }
def State.setPgood (s : State) (d : Nat) (v : Bool) : State := { s with pwr := { s.pwr with pgood := putBit s.pwr.pgood d v } }

/-- The order of drops, and of raises. -/
def dropOrder : List Nat := [dMOT, dLGT, dCAM, dAFE, dSRV, dHEAD, dSEQ, dHOOP, dHOST, dMGMT, dDDR]
def raiseOrder : List Nat := [dDDR, dMGMT, dHOST, dHOOP, dSEQ, dHEAD, dSRV, dAFE, dCAM, dLGT, dMOT]

/-- The domains before d in an order. -/
def before (d : Nat) (l : List Nat) : List Nat := l.takeWhile fun x => decide (x ≠ d)

/-- A drop is due; a raise is due and has not begun. -/
def State.dropDue (s : State) (d : Nat) : Bool := s.up d && !s.wanted d
def State.raiseDue (s : State) (d : Nat) : Bool := s.wanted d && !s.up d && decide ((s.raising d).1 = 0)

/-- Stop what no domain uses, in the clock stop step (R486). -/
def State.clockStop (s : State) : State :=
  let used := s.pllsUsed
  { s with pwr := { s.pwr with plls := s.pwr.plls &&& used } }

/-- A domain's enable is low and its credits are back. -/
def State.supplyOff (s : State) (d : Nat) : State :=
  let s := ((s.setPwren d false).setPgood d false).setRaising d (0, 0)
  (s.budFree 0 (raiseReq d)).budFree 1 (raiseReq d)

/-- A domain is off: its clients' state goes, its enable is low, its credits are back. -/
def State.dropNow (s : State) (d : Nat) (forced : Bool) : State :=
  let s := (s.contentsLost d forced).calDropped d
  let s := s.intgLost (classesLost d)
  let s := s.setFld R.PWR_DOM F.PWR_DOM_UP (putBit (s.fld R.PWR_DOM F.PWR_DOM_UP) d false)
  let s := s.supplyOff d
  (s.clockStop.lapseAll).settlePower

/-- DOMAIN_DROP (R417, R418, R420, R427): a domain that is no longer wanted drops, after those before it in the order; a forced drop posts
its record. A raise that still waits for credits is given up. -/
def execDomainDrop (d : Nat) (s : State) : Res :=
  onUnit d 11 11 s fun s =>
    if s.dropDue d then
      if (before d dropOrder).any s.dropDue then s
      else
        let forced := bitAt (s.fld R.PWR_FORCE F.PWR_FORCE_DOM) d
        let s := s.dropNow d forced
        if forced then s.powerRecord 4 (s.fld R.PWR_STATE F.PWR_STATE_CUR) (2 ^ d) 0 else s
    else if !s.wanted d && decide ((s.raising d).1 = 1) then
      ((s.setRaising d (0, 0)).budFree 0 (raiseReq d)).budFree 1 (raiseReq d)
    else s

/-- The PLL of a domain: none for a domain on the core PLL alone (R486). -/
def domainPll (d : Nat) : Nat :=
  if d = dDDR then 2 else if d = dHEAD then 4 else if d = dHOOP then 8 else if d = dHOST then 16 else 0

/-- The raise step of a domain with its credits: clock start, PWREN high. -/
def State.raiseStep (s : State) (d : Nat) : State :=
  let now := s.time.mt
  let s := { s with pwr := { s.pwr with plls := s.pwr.plls ||| 1 ||| domainPll d } }
  (s.setPwren d true).setRaising d (2, now)

/-- DOMAIN_RAISE (R418, R429): a wanted domain asks for its CORE and PKG credits, after every drop and every raise before it in the
order; with both granted its PLL starts and PWREN goes high. -/
def execDomainRaise (d : Nat) (s : State) : Res :=
  onUnit d 11 11 s fun s =>
    if !s.wanted d || s.up d then s
    else
      let st := (s.raising d).1
      if st = 2 then s
      else if st = 1 then (if s.waits 0 (raiseReq d) || s.waits 1 (raiseReq d) then s else s.raiseStep d)
      else if (List.range 11).any s.dropDue || (before d raiseOrder).any s.raiseDue then s
      else
        let w := R.PWR_DOM_BUD d
        let s := s.setRaising d (1, 0)
        let s := (s.budRequest 0 (raiseReq d) (s.fld w F.PWR_DOM_BUD_CORE)).budRequest 1 (raiseReq d) (s.fld w F.PWR_DOM_BUD_PKG)
        if s.waits 0 (raiseReq d) || s.waits 1 (raiseReq d) then s else s.raiseStep d

/-- What returns when a domain is up (R330, R349, R388, R421). -/
def State.contentsBack (s : State) (d : Nat) : State :=
  match d with
  | 0 =>
    let end_ := s.time.mt + ticksU 1250000000
    { s with boot := { s.boot with windowAt := some end_ } }
  | 3 => s.lanesStart dHEAD
  | 4 => s.lanesStart dHOOP
  | 6 => s.ddrBack
  | _ => s

/-- DOMAIN_UP (R400, R418): PGOOD rises, the self-test runs with the checkers that fail it, and the domain is up. d = 11 is the DRAM
supply. -/
def execDomainUp (x : Seen Nat) (s : State) : Res :=
  let d := x.unit
  onUnit d 12 12 s fun s =>
    if d = 11 then (if bitAt s.pwr.pwren 11 then s.setPgood 11 true else s)
    else if (s.raising d).1 ≠ 2 then s
    else
      let s := ((s.setPgood d true).setRaising d (0, 0)).bistAtPowerUp d x.it
      let s := s.setFld R.PWR_DOM F.PWR_DOM_UP (putBit (s.fld R.PWR_DOM F.PWR_DOM_UP) d true)
      (s.contentsBack d).settlePower

/-- A supply has failed (R419, R427): the bit, the flag, the record, and a forced drop; PWREN stays low. -/
def State.pgFail (s : State) (d : Nat) : State :=
  let s := s.setFld R.PWR_PGERR F.PWR_PGERR_FAIL (putBit (s.fld R.PWR_PGERR F.PWR_PGERR_FAIL) d true)
  let s := s.powerRecord 3 (s.fld R.PWR_STATE F.PWR_STATE_CUR) (2 ^ d) 0
  let s := s.raise R.PWR_ISR F.PWR_ISR_PGERR
  if d = 11 then
    let s := (s.setPwren 11 false).setPgood 11 false
    if s.up dDDR then s.dropNow dDDR true else s
  else if s.up d then s.dropNow d true
  else (s.supplyOff d).clockStop.settlePower

/-- The PGOOD time-out; 0 acts as 1 us. -/
def State.pgoodTo (s : State) : Nat := nsU (1000 * max 1 (s.fld R.PWR_PGOOD_TO F.PWR_PGOOD_TO_US))

/-- PGOOD_TIMEOUT (R419). -/
def execPgoodTimeout (d : Nat) (s : State) : Res :=
  onUnit d 12 12 s fun s =>
    let waitsGood := if d = 11 then bitAt s.pwr.pwren 11 && !bitAt s.pwr.pgood 11 else decide ((s.raising d).1 = 2)
    if waitsGood && decide ((s.raising d).2 + s.pgoodTo ≤ s.time.mt) then s.pgFail d else s

/-- PGOOD_LOSS (R419): PGOOD has been low for so many ns while the domain is up; a loss from 2 us on. -/
def execPgoodLoss (x : Seen Nat) (s : State) : Res :=
  let d := x.unit
  onUnit d 12 12 s fun s =>
    if decide (2000 ≤ x.it) && (if d = 11 then bitAt s.pwr.pgood 11 else s.up d) then s.pgFail d else s

/-! ### Votes and forced drops (R417, R420, R424) -/

/-- A write is ignored. -/
def State.pwrRej (s : State) : State := s.raise R.PWR_ISR F.PWR_ISR_REJ

/-- A vote register takes a write; a vote raised in Idle is a wake (R425). -/
def State.voteWrite (s : State) (a : Nat) (v : Word) : State :=
  let new : Word := v &&& 0x7FF
  let up := decide (new &&& ~~~(s.reg a) ≠ 0)
  let s := s.setReg a new
  (if up then s.wakeRun 2 [1] else s).settlePower

/-- FWVOTE_WRITE (R417). -/
def execFwvoteWrite (src : Source) (v : Word) (s : State) : Res :=
  .next (match src with
    | .core _ => s.voteWrite R.PWR_FWVOTE v
    | _ => s.pwrRej)

/-- HOSTVOTE_WRITE (R417). -/
def execHostvoteWrite (src : Source) (v : Word) (s : State) : Res :=
  .next (if src = .host then s.voteWrite R.PWR_HOSTVOTE v else s.pwrRej)

/-- PWR_FORCE_WRITE (R417, R420). -/
def execPwrForceWrite (src : Source) (v : Word) (s : State) : Res :=
  .next (if src = .host then (s.setReg R.PWR_FORCE (v &&& 0x7FF)).settlePower else s.pwrRej)

/-- CLIENT_VOTE (R416, R417): a block client's vote for its domain follows its condition. -/
def execClientVote (client d : Nat) (s : State) : Res :=
  if client < 14 ∧ d < 11 then .next (if 2 ≤ client ∧ d = clientDomain client then s.revote client else s)
  else .fault .noSuchUnit

/-! ### Device states (R422 to R425) -/

/-- STATE_REQUEST (R423, R425): a value of 5 to 7 is ignored with REJ; a write in Idle is a wake. -/
def execStateRequest (_src : Source) (v : Word) (s : State) : Res :=
  let t := field F.PWR_STATE_REQ v
  .next (if 5 ≤ t then s.pwrRej
    else
      let s := if s.pwr.target = none ∧ s.fld R.PWR_STATE F.PWR_STATE_CUR = 1 then s.noteWake 5 else s
      (s.setFld R.PWR_STATE F.PWR_STATE_REQ t).request t)

/-- Time allowed for votes to go; 0 acts as 1 ms (R424). -/
def State.holdTo (s : State) : Nat := nsU (1000000 * max 1 (s.fld R.PWR_HOLD_TO F.PWR_HOLD_TO_MS))

/-- HOLD_TIMEOUT (R424, R427): the holders are reported, and the transition ends with their domains up. -/
def execHoldTimeout (s : State) : Res :=
  let due := match s.pwr.target with
    | some t => decide (2 ≤ t) && !s.pwr.timedOut && decide (s.pwr.began + s.holdTo ≤ s.time.mt)
    | none => false
  occurs due s fun s =>
    let doms := domainMask s.voted
    let clients := (List.range 14).foldl (fun m c => if (List.range 11).any (fun d => decide (c ∈ s.voters d)) then m + 2 ^ c else m) 0
    let s := (s.setFld R.PWR_HOLDER F.PWR_HOLDER_CLIENT clients).setFld R.PWR_HOLDER F.PWR_HOLDER_DOM doms
    let s := s.raise R.PWR_ISR F.PWR_ISR_HOLD
    let s := s.powerRecord 2 (s.fld R.PWR_STATE F.PWR_STATE_CUR) doms clients
    ({ s with pwr := { s.pwr with timedOut := true } } : State).settlePower

/-- PWR_ALARM_EXPIRY (R425, R438). -/
def execPwrAlarmExpiry (s : State) : Res :=
  let due := match s.pwr.alarmAt with | some t => decide (t ≤ s.time.mt) | none => false
  occurs due s fun s =>
    let s := ({ s with pwr := { s.pwr with alarmAt := none } } : State).setReg R.PWR_ALARM 0
    s.wakeRun 3 [1, 2, 3]

/-- WAKE_ALARM (R31, R121, R425): the alarm votes SEQ up until the start decision, and is a wake source. -/
def execWakeAlarm (s : State) : Res :=
  let due := match s.grp.wakeAlarm with | some t => decide (t ≤ s.time.mt) | none => false
  occurs due s fun s =>
    let s := s.modGrp fun g => { g with wakeAlarm := none, wakeVote := true }
    (s.wakeRun 2 [1, 2, 3]).revote 2

/-! ### Arbiter (R428, R429) -/

/-- A granted requester goes on: the sinks' values come into force, a strobe is ready (R315, R320). -/
def State.grantee (s : State) (who : Nat) : State :=
  if who = sinkReq then s.lightSync
  else if 16 ≤ who ∧ who < 20 then s.setFlag (R.LGT_STB_STAT (who - 16)) F.LGT_STB_STAT_READY true
  else s

/-- BUDGET_GRANT (R428): the arbiter grants the oldest waiting request of a budget when it fits. Budget 2 has no requesters. -/
def execBudgetGrant (b : Nat) (s : State) : Res :=
  onUnit b 4 4 s fun s =>
    if b = 2 then s
    else
      match s.grantNext b with
      | (some who, t) => t.grantee who
      | (none, t) => t

/-! ### Pause duty (R431) -/

/-- THERMAL_REQUEST (R37, R431): the request is presented or cleared; one that rises in a hold is a cause of the member's own. -/
def execThermalRequest (s : State) : Res := .next s.thermalSync.holdRise

/-- PWR_PAUSE_WRITE (R431): a DUTY of 0 clears the debt. -/
def execPwrPauseWrite (v : Word) (s : State) : Res :=
  let s := s.setReg R.PWR_PAUSE (v &&& 0xFFFFFF)
  let s := if field F.PWR_PAUSE_DUTY v = 0 then s.modGrp fun g => { g with debt := 0 } else s
  .next s.thermalSync.holdRise

/-! ### Thermal shutdown's drop (R435) and reset (R437) -/

/-- SHUTDOWN_DOMAIN_DROP (R435): 25,000 ticks into thermal shutdown every switched domain drops at once; no credit returns. -/
def execShutdownDomainDrop (s : State) : Res :=
  let due := match s.hk.shutAt with
    | some t => decide (t + ticksU 25000 ≤ s.time.mt) && decide (s.pwr.pwren ≠ 0)
    | none => false
  occurs due s fun s =>
    let ups := (List.range 11).filter fun d => s.up d
    let s := s.each ups fun d t => ((t.contentsLost d true).calDropped d).intgLost (classesLost d)
    let s := s.setFld R.PWR_DOM F.PWR_DOM_UP 0
    let s := { s with pwr := { s.pwr with pwren := 0, pgood := 0, raising := [], target := none, timedOut := false } }
    (s.setFlag R.PWR_STATE F.PWR_STATE_BUSY false).dramSupplyOff.lapseAll

/-- The PWR block after a reset that leaves the domains (R437): state Run, credits of the up domains and of the sinks that are on. -/
def State.resetPwr (s : State) (keep : Access → Bool) : State :=
  let dom := s.reg R.PWR_DOM
  let therm := s.reg R.PWR_THERM
  let s := ((s.resetRegs 0x10000 0x20000 keep).setReg R.PWR_DOM dom).setReg R.PWR_THERM therm
  let g := s.pwr.grants.filter fun e => e.1 % 64 < 32 || s.up (e.1 % 64 - 32)
  let s := { s with pwr := { s.pwr with grants := g, target := none, timedOut := false, alarmAt := none, thermal := false } }
  (s.modGrp fun g => { g with debt := 0 }).each [0, 1, 3] fun b t => t.budSync b

/-- PWR_BLOCK_RESET (R437, R438): PWR_CTL.BRST, from the host alone. -/
def execPwrBlockReset (src : Source) (s : State) : Res :=
  .next (if src = .host then s.resetPwr keepRws else s.pwrRej)

end Sys2Proof.Machine
end

