-- ==== Sys2Proof/Machine/House.lean ====
section
/-!
DEFINITION. Housekeeping: the round, failed sensors, warnings, thermal shutdown and sink-bank shutdown (R433 to R436, R439).
-/

namespace Sys2Proof.Machine

/-- The 40 failed-sensor bits. -/
def State.sensorFailed (s : State) (i : Nat) : Bool :=
  if i < 32 then s.bit R.HK_FAIL_LO i else s.bit R.HK_FAIL_HI (i - 32)

/-- A sensor fails (R434). -/
def State.failSensor (s : State) (i : Nat) : State :=
  (if i < 32 then s.setBit R.HK_FAIL_LO i true else s.setBit R.HK_FAIL_HI (i - 32) true).raise R.HK_ISR F.HK_ISR_SENSOR

/-- A reading that is in range and passed its reference check. -/
def soundReading (r : Option Int) : Bool := match r with | some t => decide (-640 ≤ t) && decide (t ≤ 2400) | none => false

/-- One sensor of a round: its reading is shown; a bad one makes it failed. -/
def State.readSensor (s : State) (i : Nat) (r : Option Int) : State :=
  let s := if soundReading r || s.sensorFailed i then s else s.failSensor i
  let s := match r with | some t => s.setSfld (R.HK_TEMP i) F.HK_TEMP_T t | none => s
  s.setFlag (R.HK_TEMP i) F.HK_TEMP_VALID (!s.sensorFailed i)

/-- The valid readings of a round: sensor and reading, lowest sensor first. -/
def State.validReadings (s : State) (r : HkReadings) : List (Nat × Int) :=
  (List.range 40).filterMap fun i =>
    if s.sensorFailed i then none else match nth r.temps i none with | some t => some (i, t) | none => none

/-- The largest reading of a list, the first among equals. -/
def hottest : List (Nat × Int) → Option (Nat × Int)
  | [] => none
  | x :: xs => match hottest xs with | some y => if x.2 < y.2 then some y else some x | none => some x

/-- HK_TMAX, HK_TPEAK and TWARN at the end of a round (R434). -/
def State.tempEnd (s : State) (l : List (Nat × Int)) : State :=
  match hottest l with
  | none => s
  | some (i, t) =>
    let s := (s.setSfld R.HK_TMAX F.HK_TMAX_T t).setFld R.HK_TMAX F.HK_TMAX_SENSOR i
    let s := if s.sfld R.HK_TPEAK F.HK_TPEAK_T < t then
        (s.setSfld R.HK_TPEAK F.HK_TPEAK_T t).setFld R.HK_TPEAK F.HK_TPEAK_SENSOR i else s
    if s.sfld R.HK_TWARN F.HK_TWARN_T ≤ t then s.raise R.HK_ISR F.HK_ISR_TWARN else s

/-- The domain whose island a supply monitor watches; none for a rail that is not switched (R470, R472). -/
def railDomain (m : Nat) : Option Nat :=
  match m with
  | 0 => some dMGMT | 1 => some dSEQ | 2 => some dSRV | 3 => some dHOOP | 4 => some dHOST | 5 => some dDDR | 6 => some dCAM
  | 7 => some dMOT | 8 => some dMGMT | 9 => some dSEQ | 11 => some dDDR | 12 => some dHEAD | 13 => some dHOOP | 14 => some dHOST
  | 15 => some dHEAD | 16 => some dHOOP | 17 => some dHOST | 18 => some dAFE | 19 => some dLGT | 22 => some 11 | _ => none

/-- A monitor's rail is supplied: its PWREN ball is high (R470). -/
def State.railOn (s : State) (m : Nat) : Bool := match railDomain m with | some d => bitAt s.pwr.pwren d | none => true

/-- One supply monitor of a round (R434); one whose island is off reads 0 mV (R472). -/
def State.readSupply (s : State) (m reading : Nat) : State :=
  let mv := if s.railOn m then reading else 0
  let s := s.setFld (R.HK_SUP m) F.HK_SUP_MV mv
  let w := R.HK_SUPLIM m
  if mv < s.fld w F.HK_SUPLIM_LO ∨ s.fld w F.HK_SUPLIM_HI < mv then
    (s.setBit R.HK_SUPST m true).raise R.HK_ISR F.HK_ISR_SUPPLY
  else s

/-- A safe-state record that still waits when shutdown begins is not written (R466; DEDUCED, log entry 115). -/
def State.safeForgotten (s : State) : State :=
  { s with cave := { s.cave with crit := s.cave.crit.filter fun r => decide (r.code ≠ 0x0005) } }

/-- Thermal shutdown begins (R435): the gates fall, the safe-state controller enters SHUTDOWN, the Cave record precedes the abort. -/
def State.thermalShutdown (s : State) (x : Nat × Int) : State :=
  let now := s.time.mt
  let s := s.emissionStop 3
  let s := s.setFld R.BOOT_STAT F.BOOT_STAT_SSC 3
  let s := { s with boot := { s.boot with safeN := false, faultN := false }, hk := { s.hk with shutAt := some now } }
  let pay := leBytes x.1 2 ++ leBytes (unsigned 16 x.2) 2 ++ leBytes (s.fld R.HK_TMAX F.HK_TMAX_T) 2 ++
    leBytes (s.fld R.HK_TMAX F.HK_TMAX_SENSOR) 2
  ((s.safeForgotten).cavePost 0x0006 true 0 3 0xFF pay).stopLayer 5

/-- Sink-bank shutdown (R427, R436): LGT is latched off; its record and its Cave record are posted once. -/
def State.sinkShutdown (s : State) (banks : Nat) : State :=
  let first := !s.flag R.PWR_THERM F.PWR_THERM_SINKSHUT
  let s := s.setFlag R.PWR_THERM F.PWR_THERM_SINKSHUT true
  let s := s.setFld R.PWR_THERM F.PWR_THERM_BANKS (s.fld R.PWR_THERM F.PWR_THERM_BANKS ||| banks)
  if first then
    let s := s.cavePost 0x0007 true 0 3 0xFF (leBytes (s.fld R.PWR_THERM F.PWR_THERM_BANKS) 4)
    (s.powerRecord 5 (s.fld R.PWR_STATE F.PWR_STATE_CUR) (2 ^ dLGT) 0).settlePower
  else s

/-- Sensors at or above 125 degrees C twice in a row (R435). -/
def State.exceedEnd (s : State) (l : List (Nat × Int)) : State :=
  let hot := l.filter fun x => decide (2000 ≤ x.2)
  let twice := hot.filter fun x => bitAt s.hk.above x.1
  let now := hot.foldl (fun m x => m + 2 ^ x.1) 0
  let s := { s with hk := { s.hk with above := now } }
  if s.hk.shutAt.isSome then s
  else if twice.any fun x => decide (x.1 < 36) then
    match hottest twice with | some x => s.thermalShutdown x | none => s
  else
    let banks := twice.foldl (fun m x => m + 2 ^ (x.1 - 36)) 0
    if banks = 0 then s else s.sinkShutdown banks

/-- HOUSEKEEPING_ROUND (R433 to R436): once per 1,024,000 ns of machine time, in every state except Off. -/
def execHousekeepingRound (r : HkReadings) (s : State) : Res :=
  let at_ := s.hk.roundAt
  occurs (decide (s.fld R.PWR_STATE F.PWR_STATE_CUR ≠ 4) && (decide (at_ = 0) || decide (at_ - 1 + nsU 1024000 ≤ s.time.mt))) s fun s =>
    let now := s.time.mt
    let s := { s with hk := { s.hk with roundAt := now + 1 } }
    let s := s.each (List.range 40) fun i t => t.readSensor i (nth r.temps i none)
    let s := s.each (List.range (min 24 r.supplies.length)) fun m t => t.readSupply m (nth r.supplies m 0)
    let s := s.each (List.range (min 8 r.ains.length)) fun g t => t.setFld (R.HK_AIN g) F.HK_AIN_MV (nth r.ains g 0)
    let l := s.validReadings r
    let s := s.tempEnd l
    let s := (s.setReg R.HK_ROUND (s.reg R.HK_ROUND + 1)).raise R.HK_ISR F.HK_ISR_ROUND
    s.exceedEnd l

/-- The HK block after a reset: failed sensors are evaluated afresh; the round and R435 continue. -/
def State.resetHk (s : State) (keep : Access → Bool) : State := s.resetRegs 0x20000 0x30000 keep

/-- HK_BLOCK_RESET (R437, R439): HK_CTL.BRST. -/
def execHkBlockReset (s : State) : Res := .next (s.resetHk keepRws)

end Sys2Proof.Machine
end

