-- ==== Sys2Proof/Machine/Boot.lean ====
section
/-!
DEFINITION. Start-up, resets of the device, the boot ROM and the safe-state controller (R456 to R469, R480).
-/

namespace Sys2Proof.Machine

/-! ### Resets that reach the core (R462, R463) -/

/-- What the safe-state controller and the boot ROM keep (R462, R464): a shutdown stays, the window opens anew, KEYSET stands. -/
def State.resetBoot (s : State) : State :=
  let shut := decide (s.fld R.BOOT_STAT F.BOOT_STAT_SSC = 3)
  let key := s.flag R.BOOT_STAT F.BOOT_STAT_KEYSET
  let s := s.resetRegs 0x60000 0x70000 keepRws
  let s := (s.setFlag R.BOOT_STAT F.BOOT_STAT_KEYSET key).setFld R.BOOT_STAT F.BOOT_STAT_SSC (if shut then 3 else 0)
  let end_ := s.time.mt + ticksU 1250000000
  let b := { s.boot with badRun := 0, windowAt := some end_, suspended := false, safeN := false, faultN := false }
  { s with boot := b, l2 := [] }

/-- Every switched domain's block after a reset of the core, each as its own chapter states. -/
def State.resetBlocks (s : State) : State :=
  let s := ((s.resetSeq keepRws).resetSrv keepRws).resetLsr keepRws
  let s := ((s.resetSti keepRws).resetHoop keepRws).resetLane keepRws
  let s := ((s.resetHl keepRws).resetCam keepRws).resetLgt keepRws
  let s := ((s.resetMot keepRws).resetFbk keepRws).resetDdr keepRws
  let s := ((s.stopDma keepRws).resetEth keepRws).linkLost
  let s := { s with pci := { s.pci with owed := [], l2 := false } }
  s.resetPci keepRws

/-- The blocks in AON after a reset of the core. -/
def State.resetAon (s : State) : State :=
  let s := ((s.resetRegs 0 0x10000 keepRws).resetPwr keepRws).resetHk keepRws
  ((s.resetCave keepRws).resetCal keepRws).resetIntg keepRws

/-- A reset of the core (R462): the emission gate path acts, a layer aborts with the reset kind of R442, and a reset outside a layer
leaves a warm-reset record; then every block is reset, votes follow their conditions, and head lanes come up again. The last
argument is BOOT_RSTCAUSE.KIND. -/
def State.coreReset (s : State) (kind why : Nat) : State :=
  let live := s.layerLive
  let s := s.namedReset kind true
  let s := if live then s else s.cavePost 0x0002 false 0 3 0xFF (leBytes kind 1)
  let s := (s.resetBlocks.resetAon).resetBoot
  let s := s.setFld R.BOOT_RSTCAUSE F.BOOT_RSTCAUSE_KIND why
  let s := { s with shadow := [], staged := [] }
  let s := s.each (List.range 12) fun i t => t.revote (i + 2)
  if s.up dHEAD then s.lanesStart dHEAD else s

/-- SYSRST_N (R170, R462, R463): the ball is low until the next clock period. Asserted while a software warm reset runs, it lengthens
that reset. -/
def execSysrstN (s : State) : Res :=
  let why := if s.boot.warmUntil.isSome then 2 else 1
  let s := { s with boot := { s.boot with sysrst := true, warmUntil := none } }
  .next (s.coreReset 1 why)

/-- A write or command of the BOOT block is ignored (R469). -/
def State.bootRej (s : State) : State := s.raise R.BOOT_ISR F.BOOT_ISR_REJ

/-- SOFTWARE_WARM_RESET (R463): the reset is asserted for 1,250 ticks from the write. -/
def execSoftwareWarmReset (v : Word) (s : State) : Res :=
  .next (if field F.BOOT_RST_CMD v ≠ 0xA5 then s.bootRej
    else
      let end_ := s.time.mt + ticksU 1250
      (({ s with boot := { s.boot with warmUntil := some end_ } } : State).coreReset 1 2))

/-- PERST_N_ASSERT (R372, R462): a reset of the core with PERST_CORE = 1, else of the link, PCI and DMA alone. -/
def execPerstNAssert (s : State) : Res :=
  .next (if !s.pci.perstN then s
    else
      let core := s.flag R.BOOT_CTL F.BOOT_CTL_PERST_CORE
      let s := { s with pci := { s.pci with perstN := false } }
      if core then s.coreReset 2 3 else s.pciFundamental.revote 7)

/-! ### Power-up (R456, R462) -/

/-- Everything in AON and in the switched domains as PORN leaves it (R456, R462): the reset state of this part, with the Cave's die,
the keys in OTP and the levels of its inputs. -/
def State.powerUp (s : State) : State :=
  let c := State.reset.cave
  let b := State.reset.boot
  let p := State.reset.pci
  let w := State.reset.pwr
  let t := { State.reset with
    variant := s.variant
    pending := s.pending
    free := s.free
    out := s.out
    fbk := heldInputs s.fbk
    cam := heldVs s.cam
    cave := { c with die := s.cave.die, key := s.cave.key }
    boot := { b with pk := s.boot.pk }
    pci := { p with perstN := s.pci.perstN }
    pwr := { w with wake := s.pwr.wake }
    pins := s.pins }
  let t := t.setFlag R.BOOT_STAT F.BOOT_STAT_KEYSET (decide (s.boot.pk ≠ []))
  t.setFlag R.CAVE_STAT F.CAVE_STAT_KEYSET (decide (s.cave.key ≠ []))

/-- PORN (R456, R462): a complete low pulse, with its release. A Cave write in progress completes before the reset reaches the
recorder (R447), so a waiting record is lost or on the die, and no slot is torn. -/
def execPorn (s : State) : Res := .next s.powerUp

/-- A record waits that the recorder may write now (R446, R453). -/
def State.caveWriting (s : State) : Bool :=
  s.flag R.CAVE_STAT F.CAVE_STAT_READY &&
    (s.cave.clearRec.isSome || decide (s.cave.crit ≠ []) || (!s.caveHeld && decide (s.cave.queue ≠ [])))

/-- A slot whose write was interrupted: free bytes whose CRC does not match (R447). -/
def tornSlot (k : Nat) : List Byte :=
  let b := (List.range 60).map (Config.tornByte k)
  let x := (Config.tornByte k 60).toNat
  b ++ leBytes (crc32c b + 1 + x) 4

/-- VDD_AON_LOSS (R443, R447, R453): a write in progress leaves its slot invalid; the loss records nothing. The supply's return finds
PORN low, as the board holds it. -/
def execVddAonLoss (s : State) : Res :=
  let s :=
    if s.caveWriting then
      let (k, s) := s.draw
      s.setSlot (s.slotOf s.cave.nextSeq) (tornSlot k)
    else s
  let t := s.powerUp
  .next { t with boot := { t.boot with porn := true } }

/-- WAKE_BALL (R425): a rising WAKE wakes the device to Run, or powers it up from Off with wake source 1. -/
def execWakeBall (s : State) : Res :=
  let s := { s with pwr := { s.pwr with wake := true } }
  .next (if s.pwr.target = none ∧ s.fld R.PWR_STATE F.PWR_STATE_CUR = 4 then
      s.powerUp.setFld R.PWR_WAKESRC F.PWR_WAKESRC_SRC 1
    else s.wakeRun 1 [1, 2, 3, 4])

/-- XTAL32_SWITCH (R456): the crystal has run for 1,024 cycles. -/
def execXtal32Switch (s : State) : Res := .next { s with boot := { s.boot with xtal := true } }

/-! ### Boot ROM (R457 to R461) -/

/-- An image's field: n bytes at an offset, little-endian. -/
def imageField (img : Nat → Nat → List Byte) (off n : Nat) : Nat := leNat (img off n)

/-- MAGIC and VERSION (R458). -/
def imageMagic (img : Nat → Nat → List Byte) : Bool :=
  decide (imageField img 0 4 = 0x544F4F42) && decide (imageField img 4 2 = 1)

/-- LENGTH and ENTRY within their ranges, reserved fields zero (R458, R459). -/
def imageLength (img : Nat → Nat → List Byte) : Bool :=
  let n := imageField img 8 4
  decide (imageField img 6 2 < 2) && decide (n % 64 = 0) && decide (64 ≤ n) && decide (n ≤ 786432) &&
    decide (imageField img 0xC 4 < n) && decide (img 0x1C 36 = zeros 36)

/-- The signature over bytes 0x00 to 0x3F and the body (R458). -/
def imageSigned (pk : List Byte) (img : Nat → Nat → List Byte) : Bool :=
  Config.ed25519Verify pk (img 0 64 ++ img 0x80 (imageField img 8 4)) (img 0x40 64)

/-- The failure code of an image, or 0 (R459). -/
def State.imageCode (s : State) (img : Nat → Nat → List Byte) : Nat :=
  if !imageMagic img then 1
  else if !imageLength img then 2
  else if s.flag R.BOOT_STAT F.BOOT_STAT_KEYSET && !imageSigned s.boot.pk img then 3
  else 0

/-- The failure code of a flash slot, or 0: 4 where the flash did not answer or its header reads all ones. -/
def State.slotCode (s : State) (slot : Option (List Byte)) : Nat :=
  match slot with
  | none => 4
  | some b => if b.take 128 = List.replicate 128 0xFF then 4 else s.imageCode fun off n => padTo n (b.drop off)

/-- HOST is raised through PWR_FWVOTE. -/
def State.voteHost (s : State) : State := s.voteWrite R.PWR_FWVOTE (s.reg R.PWR_FWVOTE ||| BitVec.ofNat 32 (2 ^ dHOST))

/-- An accepted image runs (R459): its body is in the management L2, the endpoint has its identification, HOST is raised. -/
def State.runImage (s : State) (slot : Nat) (img : Nat → Nat → List Byte) : State :=
  let vendor := imageField img 0x16 2
  let sub := imageField img 0x12 2
  let ids := [vendor, imageField img 0x10 2, if sub = 0 then vendor else sub, imageField img 0x14 2]
  let s := { s with l2 := img 0x80 (imageField img 8 4), pci := { s.pci with ids := ids } }
  let unsigned := !s.flag R.BOOT_STAT F.BOOT_STAT_KEYSET
  let s := (s.voteHost.setFld R.BOOT_STAT F.BOOT_STAT_STAGE 2).setFld R.BOOT_STAT F.BOOT_STAT_SLOT slot
  (s.setFlag R.BOOT_STAT F.BOOT_STAT_UNSIGNED unsigned).raise R.BOOT_ISR F.BOOT_ISR_BOOTED

/-- HOSTLOAD (R460): the endpoint has the recovery identification. -/
def State.hostload (s : State) : State :=
  let r := Config.otpRecid
  let vendor := field F.BOOT_RECID_VENDOR r
  let s := { s with pci := { s.pci with ids := [vendor, field F.BOOT_RECID_DEVICE r, vendor, 0xFFFF] } }
  (s.voteHost.setFld R.BOOT_STAT F.BOOT_STAT_STAGE 3).raise R.BOOT_ISR F.BOOT_ISR_BOOTFAIL

/-- BOOT (R457 to R460): in the ROM stage with MGMT up, slot A and then slot B of the flash are checked; the first sound one runs, else
the ROM waits in HOSTLOAD. -/
def execBoot (slotA slotB : Option (List Byte)) (s : State) : Res :=
  occurs (decide (s.fld R.BOOT_STAT F.BOOT_STAT_STAGE = 0) && s.up dMGMT) s fun s =>
    let a := s.slotCode slotA
    if a = 0 then s.runImage 0 fun off n => padTo n ((slotA.getD []).drop off)
    else
      let s := s.setFld R.BOOT_STAT F.BOOT_STAT_FAILA a
      let b := s.slotCode slotB
      if b = 0 then s.runImage 1 fun off n => padTo n ((slotB.getD []).drop off)
      else (s.setFld R.BOOT_STAT F.BOOT_STAT_FAILB b).hostload

/-- First offset and length of the staging window (R460). -/
def stagingBase : Nat := 0x1E00000
def stagingSize : Nat := 0x100000

/-- STAGING_WRITE (R460): image bytes in HOSTLOAD; in every other stage ignored with REJ. -/
def execStagingWrite (addr : Nat) (v : Word) (s : State) : Res :=
  if stagingBase ≤ addr ∧ addr < stagingBase + stagingSize ∧ addr % 4 = 0 then
    .next (if s.fld R.BOOT_STAT F.BOOT_STAT_STAGE = 3 then s.setReg addr v else s.bootRej)
  else .fault .noSuchAddress

/-- n bytes of the staged image at a word offset. -/
def State.stagedBytes (s : State) (off n : Nat) : List Byte :=
  ((s.regBytes (stagingBase + off / 4 * 4) ((off % 4 + n + 3) / 4)).drop (off % 4)).take n

/-- BOOT_GO (R460): the staged image is checked as slot 2 and runs, or its failure code goes to FAILH. -/
def execBootGo (s : State) : Res :=
  .next (if s.fld R.BOOT_STAT F.BOOT_STAT_STAGE ≠ 3 then s.bootRej
    else
      let c := s.imageCode s.stagedBytes
      if c = 0 then s.runImage 2 s.stagedBytes else s.setFld R.BOOT_STAT F.BOOT_STAT_FAILH c)

/-- BOOT_PROVISION (R461): the public key goes to OTP once. -/
def execBootProvision (s : State) : Res :=
  let k := s.regBytes (R.BOOT_PK 0) 8
  .next (if s.flag R.BOOT_STAT F.BOOT_STAT_KEYSET || decide (k = zeros 32) then s.bootRej
    else
      let s := { s with boot := { s.boot with pk := k } }
      s.setFlag R.BOOT_STAT F.BOOT_STAT_KEYSET true)

/-! ### Safe-state controller (R464 to R468) -/

/-- State of the controller: 0 START, 1 SUPERVISE, 2 SAFE, 3 SHUTDOWN. -/
def State.ssc (s : State) : Nat := s.fld R.BOOT_STAT F.BOOT_STAT_SSC

/-- SAFE is entered (R468): the gates fall, FAULT_N and SAFE_N are low; the safe-state record precedes the abort records. -/
def State.enterSafe (s : State) (cause : Nat) : State :=
  let lit := s.gates
  let s := (s.setFld R.BOOT_STAT F.BOOT_STAT_SSC 2).emissionStop 2
  let s := { s with boot := { s.boot with safeN := false, faultN := false } }
  (s.cavePost 0x0005 true 0 3 0xFF (leBytes cause 4 ++ leBytes lit 4)).stopLayer 4

/-- A cause of R466: ignored in SAFE and SHUTDOWN; in START it is recorded, and XTAL alone enters SAFE. -/
def State.safeCause (s : State) (cause : Nat) : State :=
  if 2 ≤ s.ssc then s
  else
    let s := (s.setFld R.BOOT_STAT F.BOOT_STAT_CAUSE cause).raise R.BOOT_ISR F.BOOT_ISR_SAFE
    if s.ssc = 1 ∨ cause = 5 then s.enterSafe cause else s

/-- One XTAL32 cycle of 30,517.578125 ns in units of machine time. -/
def xtalU : Nat := 244140625

/-- The supervision window: 1,049 XTAL32 cycles. -/
def windowU : Nat := 1049 * xtalU

/-- A good kick (R464, R465): a new window; the first one after START begins supervision. -/
def State.goodKick (s : State) : State :=
  let now := s.time.mt
  let s := { s with boot := { s.boot with badRun := 0, windowAt := some (now + windowU), suspended := false } }
  if s.ssc = 0 then
    let s := s.setFld R.BOOT_STAT F.BOOT_STAT_SSC 1
    { s with boot := { s.boot with safeN := false, faultN := true, safeEdgeAt := now } }
  else s

/-- A bad kick (R465, R466): the eighth in a row is a cause. -/
def State.badKick (s : State) : State :=
  let s := (s.satAdd R.BOOT_HB F.BOOT_HB_BAD 1).raise R.BOOT_ISR F.BOOT_ISR_BADKICK
  let n := s.boot.badRun + 1
  if n = 8 then ({ s with boot := { s.boot with badRun := 0 } } : State).safeCause 6
  else { s with boot := { s.boot with badRun := n } }

/-- KICK (R465): a write of BOOT_HB.VAL, from firmware alone. -/
def execKick (src : Source) (v : Word) (s : State) : Res :=
  .next (match src with
    | .core _ =>
      let x := field F.BOOT_HB_VAL v
      let good := decide (x = (s.fld R.BOOT_HB F.BOOT_HB_VAL + 1) % 256)
      let s := s.setFld R.BOOT_HB F.BOOT_HB_VAL x
      if good then s.goodKick else s.badKick
    | _ => s.bootRej)

/-- HEARTBEAT_WINDOW_END (R421, R465, R466): a window ends without a good kick. -/
def execHeartbeatWindowEnd (s : State) : Res :=
  let due := match s.boot.windowAt with | some t => decide (t ≤ s.time.mt) | none => false
  occurs due s fun s => ({ s with boot := { s.boot with windowAt := none, suspended := false } } : State).safeCause 1

/-- SAFE_ENTER (R466): BOOT_SAFE.ENTER = 1, by source. -/
def execSafeEnter (src : Source) (s : State) : Res :=
  .next (s.safeCause (match src with | .host => 2 | .core _ => 3 | .hoop => 4))

/-- XTAL_LOSS (R466): no XTAL32 edge in 64 cycles of the RC oscillator, on which the controller continues. -/
def execXtalLoss (s : State) : Res := .next (({ s with boot := { s.boot with xtal := false } } : State).safeCause 5)

/-- SAFE_N_TOGGLE (R467): 16 XTAL32 cycles after the last edge. -/
def execSafeNToggle (s : State) : Res :=
  let now := s.time.mt
  occurs (decide (s.ssc = 1) && !s.resetOn && decide (s.boot.safeEdgeAt + 16 * xtalU ≤ now)) s fun s =>
    { s with boot := { s.boot with safeN := !s.boot.safeN, safeEdgeAt := s.boot.safeEdgeAt + 16 * xtalU } }

/-! ### Boundary scan (R480) -/

/-- The IDCODE: version, part number 0x7320, manufacturer field 0x2B7; the layout and the closing 1 are IEEE 1149.1's (PRESUMED, log
entry 116). -/
def idcode : Word := Config.idVersion ++ (0x7320 : BitVec 16) ++ (0x2B7 : BitVec 11) ++ (1 : BitVec 1)

/-- EXTEST: the latch is set with the reset cause while the instruction is loaded. -/
def execExtest (s : State) : Res := .next (({ s with boot := { s.boot with extest := true } } : State).emissionStop 1)

end Sys2Proof.Machine
end

