-- ==== Sys2Proof/Machine/Clock.lean ====
section
/-!
DEFINITION. One period of the clock that runs: what time alone does to the block (R17, R20, R213, R217, R220, R222, R225, R389,
R422, R431). It is the model's step when no command waits (DESIGN CHOICE, log entry 1).
-/

namespace Sys2Proof.Machine

/-- The AON supply is down or the device is Off: only the WAKE comparator runs (R422, R471). -/
def State.clockless (s : State) : Bool :=
  s.boot.porn || (decide (s.fld R.PWR_STATE F.PWR_STATE_CUR = 4) && decide (s.pwr.target = none))

/-- FCLK runs: the core PLL is on (R422, R486). -/
def State.fclk (s : State) : Bool := bitAt s.pwr.plls 0

/-- A residual offset after one period in which n units of it are slewed away (R220). -/
def slewed (delta : Int) (n : Nat) : Int :=
  if delta < 0 then min 0 (delta + n) else max 0 (delta - n)

/-- The domains over k half ticks: the inactive one advances at rate y, the active one's residual shrinks by SLEW (R217, R220). -/
def State.driftDomains (s : State) (k : Nat) : State :=
  let act := s.activeDom
  let slew := 128 * k * s.fld R.TIM_SEL F.TIM_SEL_SLEW
  let s := s.modDm act fun q => { q with delta := slewed q.delta slew }
  s.modDm (1 - act) fun q => { q with delta := q.delta + q.y * k / 2 }

/-- The active domain's steering in 1/256 ppb, with the slew of a residual (R217, R220). -/
def State.steering (s : State) : Int :=
  let q := s.dm s.activeDom
  let slew : Int := 256 * s.fld R.TIM_SEL F.TIM_SEL_SLEW
  if q.delta = 0 then q.y else if q.delta < 0 then q.y - slew else q.y + slew

/-- The whole seconds that both times have reached are kept over the advance (R223). -/
def TimeUnit.seconds (t : TimeUnit) : TimeUnit := { t with secMt := t.mt / nsU 1000000000, secCal := t.cal / calSecU }

/-- One FCLK tick of machine and calendar time. Edges lie at whole multiples of 0.8 ns (R17, R19, R213, R222). -/
def State.fclkTime (s : State) : State :=
  let t := s.time
  let inc := (s.reg R.TIM_CAL_INC).toNat
  { s with time := { t.seconds with mt := tickU * (t.mt / tickU + 1), cal := t.cal + inc, mtRest := 0 } }

/-- One REFCLK cycle: 10 ns, scaled by the steering (R213, R222). -/
def State.refTime (s : State) : State :=
  let t := s.time
  let m := (256000000000 + (t.mtRest : Int) + s.steering).toNat
  let c := t.calRest + 25 * (s.reg R.TIM_CAL_INC).toNat
  { s with time := { t.seconds with mt := t.mt + m / 3200000, mtRest := m % 3200000, cal := t.cal + c / 2, calRest := c % 2 } }

/-- One XTAL32 cycle: 30,517.578125 ns without steering (R225). -/
def State.xtalTime (s : State) : State :=
  let t := s.time
  { s with time := { t.seconds with mt := t.mt + xtalU, cal := t.cal + 131072000000000 } }

/-- A layer over one tick: S advances while the group runs (R20); the pause debt grows with the duty, and shrinks in a hold, and the
thermal request follows it (R431). -/
def State.tickLayer (s : State) : State :=
  let d := s.fld R.PWR_PAUSE F.PWR_PAUSE_DUTY
  if s.grp.run then (s.modGrp fun g => { g with s := g.s + 1, debt := g.debt + d }).thermalSync
  else if s.grpState = 3 then (s.modGrp fun g => { g with debt := g.debt - (256 - d) }).thermalSync
  else s

/-- A DRAM port in panic is counted, a training pause ends at its length (R387, R389); an inverted bit has been sent (R339). -/
def State.tickUnits (s : State) : State :=
  let s := s.trainTick
  let s := if s.panics = 0 then s else { s with ddr := { s.ddr with panicTicks := s.ddr.panicTicks + 1 } }
  if s.lane.any fun e => e.2.inj then
    s.each (List.range 40) fun l t => if (t.ln l).inj then t.modLn l fun q => { q with inj := false } else t
  else s

/-- The pulses on EMSTOP_N and SYSRST_N end, and a software warm reset at its time (R463). -/
def State.tickPins (s : State) : State :=
  let w := match s.boot.warmUntil with | some t => if t ≤ s.time.mt then none else some t | none => none
  { s with pins := { s.pins with emstopN := true }, boot := { s.boot with sysrst := false, warmUntil := w } }

/-- One period of the clock that machine time counts. -/
def State.tick (s : State) : State :=
  if s.clockless then s
  else if s.fclk then ((((s.fclkTime.driftDomains 2).tickLayer).learnTick).tickUnits).tickPins
  else if s.fld R.PWR_STATE F.PWR_STATE_CUR = 3 then s.xtalTime.tickPins
  else (s.refTime.driftDomains 25).tickPins

end Sys2Proof.Machine
end

