-- ==== Sys2Proof/Machine/Access.lean ====
section
/-!
DEFINITION. Windows of absent units and the GLB block (R4, R5, R11).
-/

namespace Sys2Proof.Machine

/-- An offset lies at or beyond unit k of a run of windows: base, stride, how many the map has, how many are present. -/
def beyond (a base stride total present : Nat) : Bool :=
  decide (base + stride * present ≤ a) && decide (a < base + stride * total)

/-- An offset names the quality word of an item that this device does not have: group 0 has an item for each axis, groups 1, 2, 4 and
5 for each channel, group 3 two for each channel, group 6 one for each Hoop port (R4, R413). -/
def State.absentQuality (s : State) (a : Nat) : Bool :=
  let c := s.channels
  [(0, 96, 3 * c), (1, 32, c), (2, 32, c), (3, 64, 2 * c), (4, 32, c), (5, 32, c), (6, 8, s.hoopLanes)].any fun g =>
    beyond a (0x1C20000 + 0x400 * g.1) 4 g.2.1 g.2.2 || beyond a (0x1C30000 + 0x400 * g.1) 4 g.2.1 g.2.2

/-- An offset lies in a register or table window of a unit that this device does not have (R4). -/
def State.absentAt (s : State) (a : Nat) : Bool :=
  let c := s.channels
  beyond a 0x100000 0x1000 32 c || beyond a 0x141000 0x40 96 (3 * c) || beyond a 0x143000 0x10 32 c ||
  beyond a 0x181000 0x80 32 c || beyond a 0x1C1000 0x40 32 c || beyond a 0x251000 0x40 32 c ||
  beyond a 0x201000 0x40 8 s.hoopLanes || beyond a 0x241000 0x40 32 c || beyond a 0x241800 0x40 8 s.hoopLanes ||
  beyond a 0x291000 0x100 2 s.ethPorts || beyond a 0x3C1000 0x80 8 s.axes || beyond a 0x3D1000 0x40 8 s.axes ||
  beyond a 0x341000 0x100 4 s.camPorts || (decide (s.camPorts = 0) && decide (0x340000 ≤ a) && decide (a < 0x380000)) ||
  (!s.hasLight && decide (0x380000 ≤ a) && decide (a < 0x3C0000)) ||
  beyond a 0x1080000 0x800 96 (3 * c) || beyond a 0x10C0000 0x800 96 (3 * c) || beyond a 0x1100000 0x8000 96 (3 * c) ||
  beyond a 0x1800000 0x200 32 c || beyond a 0x1810000 0x400 32 c || beyond a 0x1820000 0x400 32 c ||
  beyond a 0x1830000 0x10 32 c || beyond a 0x1831000 0x10 32 c || beyond a 0x1832000 4 32 c || beyond a 0x1833000 4 32 c ||
  beyond a 0x1900000 0x100 8 s.axes || beyond a 0x1A00000 0x10000 4 s.camPorts ||
  (!s.hasLight && decide (0x1B00000 ≤ a) && decide (a < 0x1C00000)) ||
  beyond a 0x1C00000 4 32 c || beyond a 0x1C00100 4 32 c || beyond a 0x1C10000 8 8 s.hoopLanes ||
  beyond a 0x1C10100 8 8 s.hoopLanes || beyond a 0x2000000 0x40000 32 c || beyond a 0x2800000 0x40000 32 c ||
  beyond a (R.SRV_MB_SEQ 0) 0x20 4 s.camPorts || beyond a (R.STI_PT_AGREE 0) 4 8 s.hoopLanes ||
  beyond a (R.DDR_QUAL 0) 4 4 s.ddrChannels || s.absentQuality a

/-- ABSENT_UNIT_ACCESS (R4, R5): an access to an absent unit's window reads zero, writes nothing, and is captured unless an
earlier one still is. An address in no absent unit's window is no such access. -/
def execAbsentUnitAccess (src : Source) (addr : Nat) (write : Bool) (s : State) : Res :=
  onAddr addr s fun s =>
    if s.absentAt addr then
      let s := s.absent src addr write
      if write then s else { s with readData := 0 }
    else s

/-- ABSENT_ACCESS_CLEAR (R11): writing 1 clears ABSENT_ACCESS, which re-arms the capture. -/
def execAbsentAccessClear (v : Word) (s : State) : Res :=
  .next (if field F.GLB_STAT_ABSENT_ACCESS v = 1 then s.setFlag R.GLB_STAT F.GLB_STAT_ABSENT_ACCESS false else s)

end Sys2Proof.Machine
end

