-- ==== Sys2Proof/Machine/Bus.lean ====
section
/-!
DEFINITION. The register fabric: reads and writes of the register map and the table windows from the host, the cores and Hoop
remote access, with shadows and staged words for wide values (R4, R5, R12 to R14, R211).
-/

namespace Sys2Proof.Machine

/-! ### Reads (R12, R13) -/

/-- Bits set in a mask of units for which a condition holds. -/
def unitMask (l : List Nat) (p : Nat → Bool) : Nat := l.foldl (fun m n => if p n then m + 2 ^ n else m) 0

/-- A 32-bit word from a number. -/
def word (n : Nat) : Word := BitVec.ofNat 32 n

/-- Milliseconds until the wake alarm, begun ones counted whole; 0 without one (R438). -/
def State.alarmLeft (s : State) : Nat :=
  match s.pwr.alarmAt with
  | some t => ceilDiv (t - s.time.mt) (nsU 1000000)
  | none => 0

/-- Registers that show state held elsewhere than in the register: the group unit, machine and calendar time, pins and counters. -/
def State.liveGroup (s : State) (b w k : Nat) (v : Word) : Word :=
  if b = R.SEQ_STAT 0 then withField F.SEQ_STAT_LEVEL v ((s.ch w).feed.filter fun e => e.arrived).length
  else if b = R.SEQ_K 0 0 then BitVec.ofNat 32 ((s.ch w).dec.k.getD k 0)
  else if b = R.SEQ_GRP_STAT then withField F.SEQ_GRP_STAT_HOLDSRC v s.holdCausesNow
  else if b = R.SEQ_GRP_S_LO then word (s.grp.s % 2 ^ 32)
  else if b = R.SEQ_GRP_S_HI then word (s.grp.s / 2 ^ 32 % 65536)
  else if b = R.SEQ_GRP_P_LO then word (s.grp.p % 2 ^ 32)
  else if b = R.SEQ_GRP_P_HI then word (s.grp.p / 2 ^ 32 % 65536)
  else if b = R.SEQ_GRP_FAULTCH then word (unitMask s.chs fun n => s.flag (R.SEQ_FAULT n) F.SEQ_FAULT_CODE)
  else if b = R.STI_PT_AGREE 0 then
    let theta := match (s.pt k).endedAt with | some _ => satS 16 (s.portTheta k s.activeDom) | none => 0
    let v := withField F.STI_PT_AGREE_THETA v (unsigned 16 theta)
    let v := withField F.STI_PT_AGREE_FRESH v (s.portFresh k).toNat
    withField F.STI_PT_AGREE_PASS v (s.portAgrees k).toNat
  else if b = R.STI_CH_STAT 0 then
    withField F.STI_CH_STAT_STORED (withField F.STI_CH_STAT_OUTST v (s.ch w).hands.length) (s.ch w).tokens.length
  else v

/-- The same for the laser block, the time unit, motion and the host interfaces. -/
def State.liveUnit (s : State) (b w : Nat) (v : Word) : Word :=
  if b = R.GLB_CAPS then s.caps
  else if b = R.LSR_EMS then withField F.LSR_EMS_LEVEL v (!s.pins.emstopN).toNat
  else if b = R.LSR_GATE then word s.gates
  else if b = R.LSR_RDY then word (unitMask s.chs fun n => s.flag (R.LSR_CH_STAT n) F.LSR_CH_STAT_RDY)
  else if b = R.LSR_FLT then word (unitMask s.chs fun n => s.laserFault n)
  else if b = R.LSR_CH_STAT 0 then
    withField F.LSR_CH_STAT_MAN (withField F.LSR_CH_STAT_GATE v (s.gate w).toNat) (s.flag (R.LSR_CH_MAN w) F.LSR_CH_MAN_EN && decide (s.chState w ≤ 1)).toNat
  else if b = R.TIM_MT_FRAC then word s.stamp.frac
  else if b = R.TIM_MT_NS then word s.stamp.ns
  else if b = R.TIM_MT_SEC_LO then word s.stamp.sec
  else if b = R.TIM_MT_SEC_HI then word (s.stamp.sec / 2 ^ 32)
  else if b = R.TIM_CAL_FRAC then word s.calStamp.frac
  else if b = R.TIM_CAL_NS then word s.calStamp.ns
  else if b = R.TIM_CAL_SEC_LO then word s.calStamp.sec
  else if b = R.TIM_CAL_SEC_HI then word (s.calStamp.sec / 2 ^ 32)
  else if b = R.TIM_D_DELTA 0 then word (unsigned 32 (s.deltaPs w))
  else if b = R.MOT_AX_POS 0 then word (unsigned 32 (s.mo w).counts)
  else v

/-- The same for the AON blocks and the DRAM controller. -/
def State.liveAon (s : State) (b k : Nat) (v : Word) : Word :=
  if b = R.PWR_DOM then withField F.PWR_DOM_VOTED v (domainMask s.voted)
  else if b = R.PWR_ALARM then word s.alarmLeft
  else if b = R.PWR_PAUSE_DEBT then word (min (s.grp.debt / 256) (2 ^ 32 - 1))
  else if b = R.CAVE_STAT then withField F.CAVE_STAT_QUEUE v s.cave.queue.length
  else if b = R.DDR_PANIC then
    withField F.DDR_PANIC_TIME (withField F.DDR_PANIC_NOW v s.panics) (min (s.ddr.panicTicks / 1250) (2 ^ 24 - 1))
  else if b = R.BOOT_RECID then Config.otpRecid
  else if b = R.BOOT_PK 0 then (if s.flag R.BOOT_STAT F.BOOT_STAT_KEYSET then word (leAt s.boot.pk (4 * k) 4) else v)
  else v

/-- What a field shows to a read: WO fields read zero (R12), and RO fields of the SEQ block do while SEQ is off (R121). -/
def State.shown (s : State) (a : Nat) (f : FieldDef) (v : Word) : Word :=
  match f.access with
  | .wo => withField f.place v 0
  | .ro => if 0x100000 ≤ a ∧ a < 0x130000 ∧ !s.up dSEQ then withField f.place v 0 else v
  | .rw => v
  | .w1c => v
  | .rws => v

/-- Before the read of a register whose value the spec leaves to the outside: pins that no command moves (R375), and what an adapting
receiver has reached (R334). -/
def State.sensed (s : State) (b w : Nat) : State :=
  if b = R.ETH_PT_STAT 0 then
    let (k, s) := s.draw
    let r := R.ETH_PT_STAT w
    let s := s.setFlag r F.ETH_PT_STAT_MODABS (Config.ballLevel k w 0)
    let s := s.setFlag r F.ETH_PT_STAT_LOS (Config.ballLevel k w 1)
    s.setFlag r F.ETH_PT_STAT_TXFLT (Config.ballLevel k w 2)
  else if b = R.LANE_RXEQ 0 then s.adapt w
  else s

/-- A register read (R12). -/
def State.readReg (s : State) (a : Nat) (h : RegHit) : Word × State :=
  let s := s.sensed h.reg.base h.win
  let v := s.liveAon h.reg.base h.idx (s.liveUnit h.reg.base h.win (s.liveGroup h.reg.base h.win h.idx (s.reg a)))
  (h.reg.fields.foldl (fun v f => s.shown a f v) v, s)

/-- A read of a table word: a single-bit error is corrected, an uncorrectable word reads as the spec leaves open (R393). -/
def State.readTable (s : State) (a : Nat) : Word × State :=
  let (bad, s) := s.readWords 0xFF [(a, 4)]
  if bad then
    let (k, s) := s.draw
    (Config.openWord k 0, s)
  else (s.reg a, s)

/-- A read of one word of a present unit: a register, a table word, the MSI-X table and its pending bits; reserved offsets read zero. -/
def State.readWord (s : State) (a : Nat) : Word × State :=
  match regAt a with
  | some h => s.readReg a h
  | none =>
    if a = 0x289000 then (word s.pci.pba, s)
    else if a = 0x289004 then (word (s.pci.pba / 2 ^ 32), s)
    else if (classOf a).isSome then s.readTable a
    else (s.reg a, s)

/-! ### Wide values (R14) -/

/-- The values wider than 32 bits: lowest word, window stride and count, words. -/
def wideRegs : List (Nat × Nat × Nat × Nat) := [
  (R.SEQ_FAULT_S_LO 0, 0x1000, 32, 2), (R.SEQ_GRP_MSTART_FRAC, 0, 1, 4), (R.SEQ_GRP_S_LO, 0, 1, 2), (R.SEQ_GRP_P_LO, 0, 1, 2),
  (R.SEQ_GRP_LASTHOLD_LEN_LO, 0, 1, 2), (R.TIM_MT_FRAC, 0, 1, 4), (R.TIM_CAL_FRAC, 0, 1, 4),
  (R.LANE_TEST_BITS_LO 0, 0x40, 40, 2), (R.CAVE_HEAD_LO, 0, 1, 2), (R.DMA_CH_RING_LO 0, 0x40, 16, 2),
  (R.ETH_PT_MAC_LO 0, 0x100, 2, 2), (R.HK_FAIL_LO, 0, 1, 2), (R.LGT_SINKEN_LO, 0, 1, 2), (R.LGT_SHORT_LO, 0, 1, 2),
  (R.SRV_MB_TEND_NS 0, 0x20, 4, 2)]

/-- The words of the wide value that an offset belongs to and the offset's position in it, 0 for the lowest word. -/
def wideAt (a : Nat) : Option (Nat × Nat) :=
  (wideRegs.find? fun r => ((RegDef.mk "" r.1 r.2.1 r.2.2.1 4 r.2.2.2 []).locate a).isSome).bind fun r =>
    ((RegDef.mk "" r.1 r.2.1 r.2.2.1 4 r.2.2.2 []).locate a).map fun p => (r.2.2.2, p.2)

/-- Place of a source's shadow, or staged word, of a position. -/
def srcKey (src : Source) (pos : Nat) : Nat :=
  4 * (match src with | .host => 0 | .core k => 1 + k.val | .hoop => 5) + pos

/-- Latch the upper words of the wide value of n words at an offset; positions that the value does not have are left open. -/
def State.latchUpper (s : State) (src : Source) (a n : Nat) : State :=
  let (k, s) := s.draw
  s.each [1, 2, 3] fun p t =>
    let v := if p < n then (t.readWord (a + 4 * p)).1 else Config.openWord k p
    { t with shadow := tabSet (fun _ => 0) t.shadow (srcKey src p) v }

/-- A read by a source: an absent unit's window reads zero and is captured (R4, R5); the lowest word of a wide value latches its upper
words; an upper word reads the source's shadow (R14). -/
def State.busRead (s : State) (src : Source) (a : Nat) : Word × State :=
  if s.absentAt a then (0, s.absent src a false)
  else
    match wideAt a with
    | some (n, 0) => (s.latchUpper src a n).readWord a
    | some (_, p + 1) => (tabGet (fun _ => 0) s.shadow (srcKey src (p + 1)), s)
    | none => s.readWord a

/-! ### Writes (R12) -/

/-- The state that a meaning answers; a stop changes nothing. -/
def State.after (s : State) (r : Res) : State := match r with | .next t => t | .fault _ => s | .refused _ => s

/-- One field takes a write by its access type. -/
def takeField (old v w : Word) (f : FieldDef) : Word :=
  match f.access with
  | .rw => withField f.place w (field f.place v)
  | .rws => withField f.place w (field f.place v)
  | .w1c => w &&& ~~~(old &&& v &&& word (fieldMask f.place))
  | .ro => w
  | .wo => w

/-- A register takes a write, field by field; a write of a status or enable register sends again what it leaves true (R357). -/
def State.plainWrite (s : State) (a : Nat) (v : Word) : State :=
  match regAt a with
  | some h => irqWritten (irqRowsOf a) (s.setReg a (h.reg.fields.foldl (takeField (s.reg a) v) (s.reg a)))
  | none => s

/-- A value with one field as the register holds it: the write leaves that field. -/
def State.keepFld (s : State) (a : Nat) (f : Field) (v : Word) : Word := withField f v (s.fld a f)

/-- A value for a field that only a write of 0 changes. -/
def State.zeroOnly (s : State) (a : Nat) (f : Field) (v : Word) : Word := if field f v = 0 then v else s.keepFld a f v

/-- A value for a field that takes numbers from lo to hi only. -/
def State.ranged (s : State) (a : Nat) (f : Field) (lo hi : Nat) (v : Word) : Word :=
  if lo ≤ field f v ∧ field f v ≤ hi then v else s.keepFld a f v

/-- A control register: its fields take the write; with bit 31 the block reset follows. -/
def State.ctlWrite (s : State) (a : Nat) (v : Word) (f : State → Res) : State :=
  let s := s.plainWrite a v
  if bitAt v.toNat 31 then s.after (f s) else s

/-- A command bit of a written value. -/
def State.cmdBit (s : State) (v : Word) (b : Nat) (f : State → Res) : State := if bitAt v.toNat b then s.after (f s) else s

/-- Writes of the PWR block (R417 to R438). -/
def State.busPwr (s : State) (src : Source) (b w a : Nat) (v : Word) : State :=
  if b = R.PWR_STATE then s.after (execStateRequest src v s)
  else if b = R.PWR_FORCE then s.after (execPwrForceWrite src v s)
  else if b = R.PWR_FWVOTE then s.after (execFwvoteWrite src v s)
  else if b = R.PWR_HOSTVOTE then s.after (execHostvoteWrite src v s)
  else if b = R.PWR_PAUSE then s.after (execPwrPauseWrite v s)
  else if b = R.PWR_CTL then (if src = .host then s.ctlWrite a v (execPwrBlockReset src) else s.pwrRej)
  else if b = R.PWR_ALARM then
    let at_ := if v = 0 then none else some (s.time.mt + nsU (1000000 * v.toNat))
    ({ s with pwr := { s.pwr with alarmAt := at_ } } : State).setReg a v
  else if b = R.PWR_PGERR then
    let s := s.plainWrite a v
    (if s.fld R.PWR_STATE F.PWR_STATE_CUR ≤ 2 then s.supplyOn else s).settlePower
  else if b = R.PWR_BUD_LIM 0 then s.plainWrite a (if w = 2 then v else s.keepFld a F.PWR_BUD_LIM_HYST v)
  else if b = R.PWR_BUD_STAT 0 then s.plainWrite a (s.zeroOnly a F.PWR_BUD_STAT_MAXWAIT v)
  else if b = R.PWR_WAKESRC then s.plainWrite a (s.zeroOnly a F.PWR_WAKESRC_COUNT v)
  else s.plainWrite a v

/-- Writes of the HK block (R439). -/
def State.busHk (s : State) (b a : Nat) (v : Word) : State :=
  if b = R.HK_CTL then s.ctlWrite a v execHkBlockReset
  else if b = R.HK_TPEAK then s.plainWrite a (s.zeroOnly a F.HK_TPEAK_SENSOR (s.zeroOnly a F.HK_TPEAK_T v))
  else s.plainWrite a v

/-- Writes of the Cave recorder (R445, R449 to R452, R455). -/
def State.busCave (s : State) (src : Source) (b a : Nat) (v : Word) : State :=
  if b = R.CAVE_CTL then
    let s := s.after (if field F.CAVE_CTL_FREEZE v = 1 then execCaveFreeze s else execCaveUnfreeze s)
    s.cmdBit v 31 execCaveBlockReset
  else if b = R.CAVE_RD_AGE then s.after (execCaveReadFetch v s)
  else if b = R.CAVE_WR_CODE then s.after (execCavePost src v s)
  else if b = R.CAVE_CMD then ((s.cmdBit v 0 execChallenge).cmdBit v 1 (execClear src)).cmdBit v 2 execCaveProvision
  else if b = R.CAVE_KEY 0 then s.setReg a v
  else if b = R.CAVE_LOST then (s.plainWrite a v).caveLost
  else s.plainWrite a v

/-- Writes of the CAL block (R407 to R415). -/
def State.busCal (s : State) (b a : Nat) (v : Word) : State :=
  let g := v.toNat % 8
  if b = R.CAL_CTL then s.ctlWrite a v execCalBlockReset
  else if b = R.CAL_CMD then
    (((s.cmdBit v 8 (execCalOpen g)).cmdBit v 9 (execCalRepeat g)).cmdBit v 10 (execCalAbort g)).cmdBit v 11 (execCalRestore g)
  else if b = R.CAL_APPLY then s.cmdBit v 31 (execCalApply g)
  else s.plainWrite a v

/-- Writes of the INTG block (R399 to R404). -/
def State.busIntg (s : State) (b w k a : Nat) (v : Word) : State :=
  if b = R.INTG_CTL then ((s.plainWrite a v).cmdBit v 1 execBist).cmdBit v 31 execIntgBlockReset
  else if b = R.INTG_CE then s.plainWrite a (s.zeroOnly a F.INTG_CE_COUNT v)
  else if b = R.INTG_UE then s.plainWrite a (s.zeroOnly a F.INTG_UE_COUNT v)
  else if b = R.INTG_RES then s.plainWrite a (s.zeroOnly a F.INTG_RES_COUNT v)
  else if b = R.INTG_CRC then s.plainWrite a (s.zeroOnly a F.INTG_CRC_COUNT v)
  else if b = R.INTG_REMAP 0 0 then s.after (execRemapFree w k v s)
  else if b = R.INTG_SPLIT_CTL then s.after (execSplitWriteArm v s)
  else if b = R.INTG_SPLIT_RES then s.after (execSplitResidue v s)
  else if b = R.INTG_SPLIT_REF then (if s.splitWrite then s.setReg a v else s)
  else s.plainWrite a v

/-- Writes of the BOOT block (R460 to R469). -/
def State.busBoot (s : State) (src : Source) (b a : Nat) (v : Word) : State :=
  if b = R.BOOT_HB then s.after (execKick src v s)
  else if b = R.BOOT_SAFE then s.cmdBit v 0 (execSafeEnter src)
  else if b = R.BOOT_RST then s.after (execSoftwareWarmReset v s)
  else if b = R.BOOT_CMD then (s.cmdBit v 0 execBootGo).cmdBit v 1 execBootProvision
  else if b = R.BOOT_PK 0 then (if s.flag R.BOOT_STAT F.BOOT_STAT_KEYSET then s.bootRej else s.plainWrite a v)
  else if b = R.BOOT_STAT then s.plainWrite a (s.zeroOnly a F.BOOT_STAT_CAUSE v)
  else s.plainWrite a v

/-- Writes of a channel's SEQ window (R101, R105, R110 to R117). -/
def State.busSeq (s : State) (b n a : Nat) (v : Word) : State :=
  let free := decide (s.chState n ≤ 1)
  if b = R.SEQ_CTL 0 then s.after (if field F.SEQ_CTL_EN v = 1 then execChannelEnable n s else execChannelDisable n s)
  else if b = R.SEQ_RING_BASE 0 ∨ b = R.SEQ_RING_HEAD 0 then (if free then s.plainWrite a v else s)
  else if b = R.SEQ_RING_SIZE 0 then (if free then s.plainWrite a (s.ranged a F.SEQ_RING_SIZE_LOG2 4 12 v) else s)
  else if b = R.SEQ_RING_TAIL 0 then s.after (execSeqRingTail n v s)
  else if b = R.SEQ_FEED_CFG 0 then s.plainWrite a (s.ranged a F.SEQ_FEED_CFG_PANIC 1 255 v)
  else if b = R.SEQ_LIB_CMD 0 then
    if bitAt v.toNat 0 && bitAt v.toNat 1 then s.libReject n
    else (s.cmdBit v 0 (execLibraryLoad n)).cmdBit v 1 (execLibraryUnload n)
  else s.plainWrite a v

/-- Writes of the group unit (R29, R43, R120, R123, R128). -/
def State.busGrp (s : State) (b a : Nat) (v : Word) : State :=
  if b = R.SEQ_GRP_CMD then ((s.cmdBit v 0 execArm).cmdBit v 1 execAbort).cmdBit v 31 execSeqBlockReset
  else if b = R.SEQ_GRP_CTL then (s.plainWrite a v).holdRise
  else if b = R.SEQ_GRP_STAT then s.plainWrite a (s.zeroOnly a F.SEQ_GRP_STAT_RESET_ABORT v)
  else if b = R.SEQ_EVT_CTL then s.after (execSeqEvtCtlWrite v s)
  else if b = R.SEQ_EVT_BASE then s.after (execSeqEvtBaseWrite v s)
  else if b = R.SEQ_EVT_RD then s.after (execSeqEvtRdWrite v s)
  else s.plainWrite a v

/-- Writes of the SRV block (R145, R159, R161, R162, R166). -/
def State.busSrv (s : State) (b w a : Nat) (v : Word) : State :=
  if b = R.SRV_CTL then s.ctlWrite a v execSrvBlockReset
  else if b = R.SRV_ID_CTL then s.after (execIdentificationArm v s)
  else if b = R.SRV_MB_SEQ 0 then
    let s := s.plainWrite a v
    if field F.SRV_MB_SEQ_NEW v = 1 then s.setFld a F.SRV_MB_SEQ_OVR 0 else s
  else if b = R.SRV_AX_MODE 0 then s.after (execSrvAxModeWrite w v s)
  else if b = R.SRV_AX_STAT 0 then s.plainWrite a (s.zeroOnly a F.SRV_AX_STAT_ARITH v)
  else if b = R.SRV_AX_CFG 0 then
    s.plainWrite a (s.ranged a F.SRV_AX_CFG_QSH 0 4 (s.ranged a F.SRV_AX_CFG_LEAD 0 1250 v))
  else if b = R.SRV_CH_CFG 0 then s.plainWrite a (s.ranged a F.SRV_CH_CFG_DELAY 0 6250 v)
  else s.plainWrite a v

/-- Writes of the LSR block (R168, R171, R172, R191, R193, R197). -/
def State.busLsr (s : State) (src : Source) (b n a : Nat) (v : Word) : State :=
  if b = R.LSR_CTL then s.ctlWrite a v execLsrBlockReset
  else if b = R.LSR_EMS then s.cmdBit v 31 (execEmissionStopClear src)
  else if b = R.LSR_CH_CFG 0 then s.storeLsrCfg n v
  else if b = R.LSR_CH_MAN 0 then s.after (execManualDriveWrite n v s)
  else if b = R.LSR_LOG_BASE 0 then (if s.fld (R.LSR_LOG_CTL n) F.LSR_LOG_CTL_MODE = 0 then s.plainWrite a v else s)
  else if b = R.LSR_LOG_CTL 0 then s.after (execLsrLogCtlWrite n v s)
  else s.plainWrite a v

/-- Writes of the HOOP and TIM blocks (R198, R199, R208, R211, R212, R217, R220, R222). -/
def State.busHoop (s : State) (b w a : Nat) (v : Word) : State :=
  if b = R.HOOP_CTL then s.ctlWrite a v execHoopBlockReset
  else if b = R.HOOP_ID then s.after (execHoopIdWrite v s)
  else if b = R.HOOP_RRA_CMD then s.after (execRemoteAccessGo v s)
  else if b = R.HOOP_BK_CTL 0 then s.cmdBit v 0 (execBulkGo w)
  else if b = R.HOOP_PT_CFG 0 then s.after (if field F.HOOP_PT_CFG_EN v = 1 then execHoopPortEnable w v s else execHoopPortDisable w v s)
  else if b = R.TIM_SEL then s.after (execTimSelWrite v s)
  else if b = R.TIM_D_CFG 0 then s.after (execTimDCfgWrite w v s)
  else if b = R.TIM_CAL_CMD then (s.cmdBit v 0 execCalendarAdj).cmdBit v 1 execCalendarSet
  else s.plainWrite a v

/-- Writes of the LANE and HL blocks (R330, R333, R334, R336 to R339, R347). -/
def State.busLane (s : State) (b w a : Nat) (v : Word) : State :=
  if b = R.LANE_CTL then s.ctlWrite a v execLaneBlockReset
  else if b = R.LANE_TXEQ 0 then s.after (execLaneTxeqWrite w v s)
  else if b = R.LANE_RXEQ 0 then (s.adapt w).plainWrite a v
  else if b = R.LANE_PM 0 then s.after (execLanePmRequest w v s)
  else if b = R.LANE_TRAIN 0 then
    s.plainWrite a (s.ranged a F.LANE_TRAIN_TT 10 255 (s.ranged a F.LANE_TRAIN_TTS 10 50 v))
  else if b = R.LANE_TEST 0 then s.after (execLaneTestModeWrite w v s)
  else if b = R.HL_CTL then s.ctlWrite a v execHlBlockReset
  else if b = R.HL_CH_CFG 0 then s.after (if field F.HL_CH_CFG_EN v = 1 then execHeadLaneEnable w v s else execHeadLaneDisable w v s)
  else if b = R.HL_CH_AUX 0 then s.after (execAuxGo w v s)
  else s.plainWrite a v

/-- Writes of the PCI, DMA and DDR blocks (R358, R364, R368, R369, R374, R378, R385). -/
def State.busHost (s : State) (src : Source) (b n a : Nat) (v : Word) : State :=
  let off := !s.flag (R.DMA_CH_CFG n) F.DMA_CH_CFG_EN
  if b = R.PCI_FWIRQ then
    s.after (match src with | .core _ => execFwirqSet v s | .host => execFwirqClear v s | .hoop => execFwirqClear v s)
  else if b = R.DMA_CTL then s.ctlWrite a v execDmaBlockReset
  else if b = R.DMA_CH_CFG 0 then s.after (if field F.DMA_CH_CFG_EN v = 1 then execDmaEnable n v s else execDmaDisable n v s)
  else if b = R.DMA_CH_CMD 0 then s.cmdBit v 0 (execDmaRestart n)
  else if b = R.DMA_CH_RING_LO 0 ∨ b = R.DMA_CH_RING_HI 0 ∨ b = R.DMA_CH_HEAD 0 then (if off then s.plainWrite a v else s)
  else if b = R.DMA_CH_TAIL 0 then s.after (execDmaDoorbell n v s)
  else if b = R.DDR_CTL then ((s.plainWrite a v).cmdBit v 0 execDdrInit).cmdBit v 31 execDdrBlockReset
  else if b = R.DDR_CFG then s.after (execDdrCfgWrite v s)
  else if b = R.DDR_ECC_CE then s.plainWrite a (s.zeroOnly a F.DDR_ECC_CE_COUNT v)
  else if b = R.DDR_ECC_UE then s.plainWrite a (s.zeroOnly a F.DDR_ECC_UE_COUNT v)
  else s.plainWrite a v

/-- Writes of the ETH block (R359 to R361, R375). -/
def State.busEth (s : State) (b e a : Nat) (v : Word) : State :=
  if b = R.ETH_CTL then s.ctlWrite a v execEthBlockReset
  else if b = R.ETH_PT_CFG 0 then s.after (execEthPortEnable e v s)
  else if b = R.ETH_PT_TXBASE 0 ∨ b = R.ETH_PT_RXBASE 0 ∨ b = R.ETH_PT_TXHEAD 0 ∨ b = R.ETH_PT_RXHEAD 0 then
    (if s.ethOn e then s.ethFlag e 4 else s.plainWrite a v)
  else if b = R.ETH_PT_RSIZE 0 then
    (if s.ethOn e then s.ethFlag e 4
     else s.plainWrite a (s.ranged a F.ETH_PT_RSIZE_TXLOG2 4 12 (s.ranged a F.ETH_PT_RSIZE_RXLOG2 4 12 v)))
  else if b = R.ETH_PT_TXTAIL 0 then s.after (execEthTxDoorbell e v s)
  else if b = R.ETH_PT_RXTAIL 0 then s.after (execEthRxDoorbell e v s)
  else if b = R.ETH_PT_I2CCMD 0 then s.after (execEthI2cGo e v s)
  else s.plainWrite a v

/-- A camera register that is written only while the port is disabled (R285). -/
def camSetup (b : Nat) : Bool :=
  decide (b = R.CAM_PT_GEOM 0) || decide (b = R.CAM_PT_HSKIP 0) || decide (b = R.CAM_PT_RBASE 0) ||
    decide (b = R.CAM_PT_OBASE 0 0) || decide (b = R.CAM_PT_OSLOT 0 0)

/-- Writes of the CAM block (R285 to R292, R295, R296, R311). A write of CAM_CTL that would change SHARE while a port is enabled leaves
SHARE and is rejected; its other fields take their values (DEDUCED, log entry 117). -/
def State.busCam (s : State) (b p a : Nat) (v : Word) : State :=
  let on := s.flag (R.CAM_PT_CFG p) F.CAM_PT_CFG_EN
  let rej := s.raise R.CAM_ISR F.CAM_ISR_REJ
  if b = R.CAM_CTL then
    let moves := decide (field F.CAM_CTL_SHARE v ≠ s.fld a F.CAM_CTL_SHARE) &&
      (List.range s.camPorts).any fun p => s.flag (R.CAM_PT_CFG p) F.CAM_PT_CFG_EN
    (if moves then rej else s).ctlWrite a (if moves then s.keepFld a F.CAM_CTL_SHARE v else v) execCamBlockReset
  else if b = R.CAM_PT_CFG 0 then s.after (if field F.CAM_PT_CFG_EN v = 1 then execCameraPortEnable p v s else execCameraPortDisable p v s)
  else if camSetup b then (if on then rej else s.plainWrite a v)
  else if b = R.CAM_PT_RCTL 0 then (if on then rej else s.plainWrite a (s.ranged a F.CAM_PT_RCTL_LOG2 2 10 v))
  else if b = R.CAM_PT_EXPCMD 0 then s.after (execExposureCommit p v s)
  else if b = R.CAM_PT_I2CCMD 0 then s.after (execI2cGo p v s)
  else if b = R.CAM_PT_TRIG 0 then s.after (execHostTrigger p v s)
  else s.plainWrite a v

/-- Writes of the LGT block (R314 to R321, R326). -/
def State.busLgt (s : State) (b k a : Nat) (v : Word) : State :=
  let on := s.flag R.LGT_CTL F.LGT_CTL_EN
  let rej := s.raise R.LGT_ISR F.LGT_ISR_REJ
  if b = R.LGT_CTL then
    let s := s.after (if field F.LGT_CTL_EN v = 1 then execLgtEnable v s else execLgtDisable v s)
    s.cmdBit v 31 execLgtBlockReset
  else if b = R.LGT_SCALE ∨ b = R.LGT_SINKEN_LO ∨ b = R.LGT_SINKEN_HI then s.after (execSinkWrite a v s)
  else if b = R.LGT_SHORT_LO then s.after (execShortClear false v s)
  else if b = R.LGT_SHORT_HI then s.after (execShortClear true v s)
  else if b = R.LGT_TEST then s.cmdBit v 0 execLgtTestRun
  else if b = R.LGT_MTX_CFG then (if on then rej else s.plainWrite a (s.ranged a F.LGT_MTX_CFG_LINE_T 1250 1250000 v))
  else if b = R.LGT_MTX_BLANK then (if on then rej else s.plainWrite a (s.ranged a F.LGT_MTX_BLANK_BLANK 125 125000 v))
  else if b = R.LGT_MTX_CTL then s.cmdBit v 0 execSwap
  else if b = R.LGT_STB_CFG 0 then s.after (execStrobeEnable k v s)
  else if b = R.LGT_STB_CMD 0 then s.after (execStrobePulse k v s)
  else s.plainWrite a v

/-- Writes of the MOT and FBK blocks (R253, R254, R267, R270, R272, R277, R280, R281). -/
def State.busMot (s : State) (b n a : Nat) (v : Word) : State :=
  if b = R.MOT_CTL then s.ctlWrite a v execMotBlockReset
  else if b = R.MOT_AX_CFG 0 then s.after (if field F.MOT_AX_CFG_EN v = 1 then execAxisEnable n v s else execAxisDisable n v s)
  else if b = R.MOT_AX_CMD 0 then
    let s := if field F.MOT_AX_CMD_GO v = 1 then s.after (execMotGo n v s) else s
    if field F.MOT_AX_CMD_HOME v = 1 then s.after (execMotHome n v s) else s
  else if b = R.MOT_AX_POS 0 then s.after (execMotAxPosWrite n v s)
  else if b = R.MOT_AX_DRV 0 then
    s.plainWrite a (s.ranged a F.MOT_AX_DRV_STEPW 1 255 (s.ranged a F.MOT_AX_DRV_PWMPER 12500 62500 v))
  else if b = R.FBK_CMPCFG 0 then s.plainWrite a (s.ranged a F.FBK_CMPCFG_WIDTH 1 65535 v)
  else if b = R.FBK_CTL then s.ctlWrite a v execFbkBlockReset
  else if b = R.FBK_CFG 0 then s.after (execFeedbackInterfaceEnable n v s)
  else if b = R.FBK_COUNT 0 then s.after (execFbkCountWrite n v s)
  else if b = R.FBK_CMPPOS 0 then s.after (execFbkCmpposWrite n v s)
  else s.plainWrite a v

/-- A write of one register word, by block. -/
def State.writeReg (s : State) (src : Source) (a : Nat) (h : RegHit) (v : Word) : State :=
  let b := h.reg.base
  if a < 0x10000 then s.plainWrite a v
  else if a < 0x20000 then s.busPwr src b h.win a v
  else if a < 0x30000 then s.busHk b a v
  else if a < 0x40000 then s.busCave src b a v
  else if a < 0x50000 then s.busCal b a v
  else if a < 0x60000 then s.busIntg b h.win h.idx a v
  else if a < 0x100000 then s.busBoot src b a v
  else if a < 0x120000 then s.busSeq b h.win a v
  else if a < 0x140000 then s.busGrp b a v
  else if a < 0x180000 then s.busSrv b h.win a v
  else if a < 0x1C0000 then s.busLsr src b h.win a v
  else if a < 0x200000 then (if b = R.STI_CTL then s.ctlWrite a v execStiBlockReset else s.plainWrite a v)
  else if a < 0x240000 then s.busHoop b h.win a v
  else if a < 0x280000 then s.busLane b h.win a v
  else if 0x290000 ≤ a ∧ a < 0x2C0000 then s.busEth b h.win a v
  else if a < 0x340000 then s.busHost src b h.win a v
  else if a < 0x380000 then s.busCam b h.win a v
  else if a < 0x3C0000 then s.busLgt b h.win a v
  else s.busMot b h.win a v

/-- A write of the MSI-X table: a control word's mask bit masks or unmasks its vector (R353, R357). -/
def State.writeMsix (s : State) (a : Nat) (v : Word) : State :=
  let n := (a - 0x288000) / 16
  if a % 16 ≠ 12 then s.setReg a v
  else if bitAt v.toNat 0 then s.setBit a 0 true
  else s.after (execMsixUnmask (some n) s)

/-- A write of the table SRAM windows, by owner (R151, R164, R165, R195, R196, R233, R255, R310, R325, R348, R411). -/
def State.writeTable (s : State) (a : Nat) (v : Word) : State :=
  if (calPlace a).isSome ∨ (0x1C20000 ≤ a ∧ a < 0x1C30000) then s.after (execPendingSetWrite a v s)
  else if 0x10C0000 ≤ a ∧ a < 0x1100000 then s.after (execActiveGainSetWrite a v s)
  else if 0x1100000 ≤ a ∧ a < 0x1400000 then s.after (execRepetitiveTableWrite a v s)
  else if 0x1800000 ≤ a ∧ a < 0x1804000 then s.after (execMeltPoolGainSetWrite a v s)
  else if (lsrActive a).isSome then s.after (execLsrActiveSetWrite a v s)
  else if 0x1900000 ≤ a ∧ a < 0x1900800 then (if a % 0x100 < 0x80 then s.tableStore a 0xFFFFFFFF v else s)
  else if 0x1A00000 ≤ a ∧ a < 0x1A40000 then s.after (execCameraTableWrite a v s)
  else if 0x1B00000 ≤ a ∧ a < 0x1C00000 then s.after (execSinkWrite a v s)
  else if stagingBase ≤ a ∧ a < stagingBase + stagingSize then s.after (execStagingWrite a v s)
  else if 0x2800000 ≤ a ∧ a < 0x3000000 then s.after (execFieldTableWrite a v s)
  else s

/-- A write of one word of a present unit; reserved offsets ignore it (R13). -/
def State.writeWord (s : State) (src : Source) (a : Nat) (v : Word) : State :=
  if a % 4 ≠ 0 then s
  else
    match regAt a with
    | some h => s.writeReg src a h v
    | none =>
      if 0x288000 ≤ a ∧ a < 0x288400 then s.writeMsix a v
      else if 0x1000000 ≤ a then s.writeTable a v
      else s

/-- The staged word of a source at a position (R14). -/
def State.stagedWord (s : State) (src : Source) (p : Nat) : Word := tabGet (fun _ => 0) s.staged (srcKey src p)

/-- A write by a source: an absent unit's window ignores and captures it (R4, R5); an upper word of a wide value is staged; the lowest
word commits itself and every staged upper word (R14). -/
def State.busWrite (s : State) (src : Source) (a : Nat) (v : Word) : State :=
  if s.absentAt a then s.absent src a true
  else
    match wideAt a with
    | some (n, 0) =>
      (s.writeWord src a v).each ((List.range n).drop 1) fun p t => t.writeWord src (a + 4 * p) (t.stagedWord src p)
    | some (_, p + 1) => { s with staged := tabSet (fun _ => 0) s.staged (srcKey src (p + 1)) v }
    | none => s.writeWord src a v

/-! ### Commands -/

/-- WIDE_READ_LOW (R14): a register read; at the lowest word of a wide value it latches the upper words. -/
def execWideReadLow (src : Source) (addr : Nat) (s : State) : Res :=
  onAddr addr s fun s =>
    let (v, t) := s.busRead src addr
    { t with readData := v }

/-- WIDE_READ_UPPER (R14): a register read; an upper word of a wide value reads the source's shadow. -/
def execWideReadUpper (src : Source) (addr : Nat) (s : State) : Res :=
  onAddr addr s fun s =>
    let (v, t) := s.busRead src addr
    { t with readData := v }

/-- WIDE_WRITE_UPPER (R14): an upper word of a wide value is staged for the source. -/
def execWideWriteUpper (src : Source) (addr : Nat) (v : Word) (s : State) : Res :=
  onAddr addr s fun s => s.busWrite src addr v

/-- WIDE_WRITE_LOW (R14): the lowest word of a wide value commits with the source's staged upper words. -/
def execWideWriteLow (src : Source) (addr : Nat) (v : Word) (s : State) : Res :=
  onAddr addr s fun s => s.busWrite src addr v

/-- REGISTER_WRITE (R12): by each field's access type and the rules of its register. -/
def execRegisterWrite (src : Source) (addr : Nat) (v : Word) (s : State) : Res :=
  onAddr addr s fun s => s.busWrite src addr v

/-- The access of a remote request at its target: the code and the data of the answer (R211). -/
def State.remoteAccess (s : State) (off : Nat) (write : Bool) (v : Word) : Nat × Word × State :=
  if write then
    (if s.flag R.HOOP_CTL F.HOOP_CTL_RRA_WR then (0, 0, s.busWrite .hoop off v) else (1, 0, s))
  else if s.flag R.HOOP_CTL F.HOOP_CTL_RRA_RD then
    let (w, s) := s.busRead .hoop off
    (0, w, s)
  else (1, 0, s)

/-- RREQ_RECEIVED (R211): the access of a remote device, answered with RRSP under the request's tag. -/
def execRreqReceived (p : Nat) (pk : Packet) (s : State) : Res :=
  onUnit p s.hoopLanes 8 s fun s =>
    if pk.cls = 0x20 then
      s.receive p pk fun s =>
        let h := leAt pk.payload 0 4
        let (code, w, s) := s.remoteAccess (h % 2 ^ 26) (bitAt h 31) (word (leAt pk.payload 4 4))
        (s.unicast 0x21 pk.src pk.tag (leBytes code 4 ++ leBytes w.toNat 4)).2
    else s

end Sys2Proof.Machine
end

