-- ==== Sys2Proof/Machine/Dispatch.lean ====
section
/-!
DEFINITION. One arm per command: its meaning, or a refusal by name.
-/

namespace Sys2Proof.Machine

/-- The effect of a command on everything but the queue. -/
def exec (i : Instr) (s : State) : Host.Outcome State Fault Refusal :=
  match i with
  | .absentUnitAccess src addr write => Sys2Proof.Machine.execAbsentUnitAccess src addr write s
  | .absentAccessClear v => Sys2Proof.Machine.execAbsentAccessClear v s
  | .wideReadLow src addr => Sys2Proof.Machine.execWideReadLow src addr s
  | .wideReadUpper src addr => Sys2Proof.Machine.execWideReadUpper src addr s
  | .wideWriteUpper src addr v => Sys2Proof.Machine.execWideWriteUpper src addr v s
  | .wideWriteLow src addr v => Sys2Proof.Machine.execWideWriteLow src addr v s
  | .registerWrite src addr v => Sys2Proof.Machine.execRegisterWrite src addr v s
  | .arm => Sys2Proof.Machine.execArm s
  | .armingCheckDone => Sys2Proof.Machine.execArmingCheckDone s
  | .wakeAlarm => Sys2Proof.Machine.execWakeAlarm s
  | .channelReady ch => Sys2Proof.Machine.execChannelReady ch s
  | .startVote => Sys2Proof.Machine.execStartVote s
  | .startVoteReceived port pk => Sys2Proof.Machine.execStartVoteReceived port pk s
  | .startDecision => Sys2Proof.Machine.execStartDecision s
  | .layerStart => Sys2Proof.Machine.execLayerStart s
  | .yieldSeal => Sys2Proof.Machine.execYieldSeal s
  | .yieldVoteReceived port pk => Sys2Proof.Machine.execYieldVoteReceived port pk s
  | .yieldVoteDeadline => Sys2Proof.Machine.execYieldVoteDeadline s
  | .yieldDecision => Sys2Proof.Machine.execYieldDecision s
  | .yieldPoint => Sys2Proof.Machine.execYieldPoint s
  | .holdCauseClear => Sys2Proof.Machine.execHoldCauseClear s
  | .holdEventRepeat => Sys2Proof.Machine.execHoldEventRepeat s
  | .holdEventReceived port pk => Sys2Proof.Machine.execHoldEventReceived port pk s
  | .releaseEventReceived port pk => Sys2Proof.Machine.execReleaseEventReceived port pk s
  | .holdRestart => Sys2Proof.Machine.execHoldRestart s
  | .abort => Sys2Proof.Machine.execAbort s
  | .groupAbortReceived port pk => Sys2Proof.Machine.execGroupAbortReceived port pk s
  | .nop ch => Sys2Proof.Machine.execNop ch s
  | .undefinedOpcode ch => Sys2Proof.Machine.execUndefinedOpcode ch s
  | .halt ch => Sys2Proof.Machine.execHalt ch s
  | .wait ch => Sys2Proof.Machine.execWait ch s
  | .waitr ch => Sys2Proof.Machine.execWaitr ch s
  | .gyield ch => Sys2Proof.Machine.execGyield ch s
  | .sync ch => Sys2Proof.Machine.execSync ch s
  | .syncDeadline ch => Sys2Proof.Machine.execSyncDeadline ch s
  | .sig ch => Sys2Proof.Machine.execSig ch s
  | .sigEmit ch => Sys2Proof.Machine.execSigEmit ch s
  | .evt ch => Sys2Proof.Machine.execEvt ch s
  | .evtAction ch => Sys2Proof.Machine.execEvtAction ch s
  | .call ch => Sys2Proof.Machine.execCall ch s
  | .ret ch => Sys2Proof.Machine.execRet ch s
  | .rep ch => Sys2Proof.Machine.execRep ch s
  | .endr ch => Sys2Proof.Machine.execEndr ch s
  | .ldk ch => Sys2Proof.Machine.execLdk ch s
  | .addk ch => Sys2Proof.Machine.execAddk ch s
  | .fence ch => Sys2Proof.Machine.execFence ch s
  | .jump ch => Sys2Proof.Machine.execJump ch s
  | .line ch => Sys2Proof.Machine.execLine ch s
  | .cubic ch => Sys2Proof.Machine.execCubic ch s
  | .dwell ch => Sys2Proof.Machine.execDwell ch s
  | .focus ch => Sys2Proof.Machine.execFocus ch s
  | .period ch => Sys2Proof.Machine.execPeriod ch s
  | .learn ch => Sys2Proof.Machine.execLearn ch s
  | .gsel ch => Sys2Proof.Machine.execGsel ch s
  | .pset ch => Sys2Proof.Machine.execPset ch s
  | .pramp ch => Sys2Proof.Machine.execPramp ch s
  | .pulse ch => Sys2Proof.Machine.execPulse ch s
  | .env ch => Sys2Proof.Machine.execEnv ch s
  | .mpl ch => Sys2Proof.Machine.execMpl ch s
  | .lon ch => Sys2Proof.Machine.execLon ch s
  | .loff ch => Sys2Proof.Machine.execLoff ch s
  | .hand ch => Sys2Proof.Machine.execHand ch s
  | .trig ch => Sys2Proof.Machine.execTrig ch s
  | .move ch => Sys2Proof.Machine.execMove ch s
  | .faultTime ch => Sys2Proof.Machine.execFaultTime ch s
  | .late ch => Sys2Proof.Machine.execLate ch s
  | .gateEdge ch => Sys2Proof.Machine.execGateEdge ch s
  | .evaluationInstant ch => Sys2Proof.Machine.execEvaluationInstant ch s
  | .powerInstant ch rawA rawB => Sys2Proof.Machine.execPowerInstant ch rawA rawB s
  | .seqRingTail ch v => Sys2Proof.Machine.execSeqRingTail ch v s
  | .descriptorRead ch => Sys2Proof.Machine.execDescriptorRead ch s
  | .ownRetry ch => Sys2Proof.Machine.execOwnRetry ch s
  | .walkerFetch ch => Sys2Proof.Machine.execWalkerFetch ch s
  | .feedLineArrival ch slot flip => Sys2Proof.Machine.execFeedLineArrival ch slot flip s
  | .libraryLoad ch => Sys2Proof.Machine.execLibraryLoad ch s
  | .libraryLoadDone ch => Sys2Proof.Machine.execLibraryLoadDone ch s
  | .libraryUnload ch => Sys2Proof.Machine.execLibraryUnload ch s
  | .channelDisable ch => Sys2Proof.Machine.execChannelDisable ch s
  | .channelEnable ch => Sys2Proof.Machine.execChannelEnable ch s
  | .seqBlockReset => Sys2Proof.Machine.execSeqBlockReset s
  | .seqEvtCtlWrite v => Sys2Proof.Machine.execSeqEvtCtlWrite v s
  | .seqEvtBaseWrite v => Sys2Proof.Machine.execSeqEvtBaseWrite v s
  | .seqEvtRdWrite v => Sys2Proof.Machine.execSeqEvtRdWrite v s
  | .servoPeriodBoundary => Sys2Proof.Machine.execServoPeriodBoundary s
  | .axisArithOff a => Sys2Proof.Machine.execAxisArithOff a s
  | .staleTrip ch => Sys2Proof.Machine.execStaleTrip ch s
  | .srvAxModeWrite a v => Sys2Proof.Machine.execSrvAxModeWrite a v s
  | .identificationArm v => Sys2Proof.Machine.execIdentificationArm v s
  | .identificationDone => Sys2Proof.Machine.execIdentificationDone s
  | .repetitiveTableWrite addr v => Sys2Proof.Machine.execRepetitiveTableWrite addr v s
  | .activeGainSetWrite addr v => Sys2Proof.Machine.execActiveGainSetWrite addr v s
  | .srvBlockReset => Sys2Proof.Machine.execSrvBlockReset s
  | .emstopNFall => Sys2Proof.Machine.execEmstopNFall s
  | .emissionStopClear src => Sys2Proof.Machine.execEmissionStopClear src s
  | .manualDriveWrite ch v => Sys2Proof.Machine.execManualDriveWrite ch v s
  | .lfltNQualified ch high => Sys2Proof.Machine.execLfltNQualified ch high s
  | .lrdyQualified ch high => Sys2Proof.Machine.execLrdyQualified ch high s
  | .freeCadenceSample ch rawA rawB => Sys2Proof.Machine.execFreeCadenceSample ch rawA rawB s
  | .lsrLogCtlWrite ch v => Sys2Proof.Machine.execLsrLogCtlWrite ch v s
  | .meltPoolGainSetWrite addr v => Sys2Proof.Machine.execMeltPoolGainSetWrite addr v s
  | .lsrActiveSetWrite addr v => Sys2Proof.Machine.execLsrActiveSetWrite addr v s
  | .lsrBlockReset => Sys2Proof.Machine.execLsrBlockReset s
  | .hoopIdWrite v => Sys2Proof.Machine.execHoopIdWrite v s
  | .hoopPortEnable p v => Sys2Proof.Machine.execHoopPortEnable p v s
  | .hoopPortDisable p v => Sys2Proof.Machine.execHoopPortDisable p v s
  | .hoopPortTeardown p => Sys2Proof.Machine.execHoopPortTeardown p s
  | .packetTransmit p => Sys2Proof.Machine.execPacketTransmit p s
  | .badPacketReceived p first rest => Sys2Proof.Machine.execBadPacketReceived p first rest s
  | .broadcastRepeat => Sys2Proof.Machine.execBroadcastRepeat s
  | .duplicateEntryExpiry => Sys2Proof.Machine.execDuplicateEntryExpiry s
  | .creditReceived p pk => Sys2Proof.Machine.execCreditReceived p pk s
  | .creditSend p => Sys2Proof.Machine.execCreditSend p s
  | .eventReceived p pk => Sys2Proof.Machine.execEventReceived p pk s
  | .remoteAccessGo v => Sys2Proof.Machine.execRemoteAccessGo v s
  | .rreqReceived p pk => Sys2Proof.Machine.execRreqReceived p pk s
  | .rrspReceived p pk => Sys2Proof.Machine.execRrspReceived p pk s
  | .remoteAccessTimeout => Sys2Proof.Machine.execRemoteAccessTimeout s
  | .bulkGo c => Sys2Proof.Machine.execBulkGo c s
  | .bulkReceived p pk => Sys2Proof.Machine.execBulkReceived p pk s
  | .bulkAckReceived p pk => Sys2Proof.Machine.execBulkAckReceived p pk s
  | .bulkTimeout c => Sys2Proof.Machine.execBulkTimeout c s
  | .timeExchangeStart p xid => Sys2Proof.Machine.execTimeExchangeStart p xid s
  | .timeRequestReceived p pk ago phase => Sys2Proof.Machine.execTimeRequestReceived p pk ago phase s
  | .timeResponseReceived p pk x => Sys2Proof.Machine.execTimeResponseReceived p pk x s
  | .timeExchangeTimeout p => Sys2Proof.Machine.execTimeExchangeTimeout p s
  | .holdoverEntry d => Sys2Proof.Machine.execHoldoverEntry d s
  | .timSelWrite v => Sys2Proof.Machine.execTimSelWrite v s
  | .domainSwitch => Sys2Proof.Machine.execDomainSwitch s
  | .calendarAdj => Sys2Proof.Machine.execCalendarAdj s
  | .calendarSet => Sys2Proof.Machine.execCalendarSet s
  | .ppsOutEdge => Sys2Proof.Machine.execPpsOutEdge s
  | .ppsInEdge => Sys2Proof.Machine.execPpsInEdge s
  | .hoopBlockReset => Sys2Proof.Machine.execHoopBlockReset s
  | .handTokenReceived origin pk => Sys2Proof.Machine.execHandTokenReceived origin pk s
  | .tokenExpiry ch => Sys2Proof.Machine.execTokenExpiry ch s
  | .commit ch => Sys2Proof.Machine.execCommit ch s
  | .commitmentClose ch => Sys2Proof.Machine.execCommitmentClose ch s
  | .handDecision ch => Sys2Proof.Machine.execHandDecision ch s
  | .handEnd ch => Sys2Proof.Machine.execHandEnd ch s
  | .handRecordTimeout ch => Sys2Proof.Machine.execHandRecordTimeout ch s
  | .fieldTableWrite addr v => Sys2Proof.Machine.execFieldTableWrite addr v s
  | .stiBlockReset => Sys2Proof.Machine.execStiBlockReset s
  | .generatorInstant => Sys2Proof.Machine.execGeneratorInstant s
  | .motGo a v => Sys2Proof.Machine.execMotGo a v s
  | .motHome a v => Sys2Proof.Machine.execMotHome a v s
  | .axisDisable a v => Sys2Proof.Machine.execAxisDisable a v s
  | .axisEnable a v => Sys2Proof.Machine.execAxisEnable a v s
  | .motAxPosWrite a v => Sys2Proof.Machine.execMotAxPosWrite a v s
  | .pwmPeriod a bitsA bitsB => Sys2Proof.Machine.execPwmPeriod a bitsA bitsB s
  | .stall a => Sys2Proof.Machine.execStall a s
  | .bridgeFault a => Sys2Proof.Machine.execBridgeFault a s
  | .overcurrent a => Sys2Proof.Machine.execOvercurrent a s
  | .sdloss a => Sys2Proof.Machine.execSdloss a s
  | .standstill a => Sys2Proof.Machine.execStandstill a s
  | .limitQualified f positive level => Sys2Proof.Machine.execLimitQualified f positive level s
  | .homeEdgeQualified f home limp limn => Sys2Proof.Machine.execHomeEdgeQualified f home limp limn s
  | .feedbackEdge f levelA levelB => Sys2Proof.Machine.execFeedbackEdge f levelA levelB s
  | .indexEdge f => Sys2Proof.Machine.execIndexEdge f s
  | .fbkCountWrite f v => Sys2Proof.Machine.execFbkCountWrite f v s
  | .fbkCmpposWrite f v => Sys2Proof.Machine.execFbkCmpposWrite f v s
  | .motBlockReset => Sys2Proof.Machine.execMotBlockReset s
  | .fbkBlockReset => Sys2Proof.Machine.execFbkBlockReset s
  | .cameraPortEnable p v => Sys2Proof.Machine.execCameraPortEnable p v s
  | .cameraPortDisable p v => Sys2Proof.Machine.execCameraPortDisable p v s
  | .frameStart p => Sys2Proof.Machine.execFrameStart p s
  | .cameraLine p edges => Sys2Proof.Machine.execCameraLine p edges s
  | .frameEndAtPort p => Sys2Proof.Machine.execFrameEndAtPort p s
  | .pipelinePortSelect => Sys2Proof.Machine.execPipelinePortSelect s
  | .stripeEnd flip => Sys2Proof.Machine.execStripeEnd flip s
  | .pipelineFrameEnd => Sys2Proof.Machine.execPipelineFrameEnd s
  | .hostTrigger p v => Sys2Proof.Machine.execHostTrigger p v s
  | .trigPulse ch => Sys2Proof.Machine.execTrigPulse ch s
  | .i2cGo p v => Sys2Proof.Machine.execI2cGo p v s
  | .i2cDone p code data => Sys2Proof.Machine.execI2cDone p code data s
  | .exposureCommit p v => Sys2Proof.Machine.execExposureCommit p v s
  | .cameraTableWrite addr v => Sys2Proof.Machine.execCameraTableWrite addr v s
  | .camBlockReset => Sys2Proof.Machine.execCamBlockReset s
  | .lgtEnable v => Sys2Proof.Machine.execLgtEnable v s
  | .shortTestDone shorted => Sys2Proof.Machine.execShortTestDone shorted s
  | .lgtDisable v => Sys2Proof.Machine.execLgtDisable v s
  | .sinkWrite addr v => Sys2Proof.Machine.execSinkWrite addr v s
  | .matrixLine shorted => Sys2Proof.Machine.execMatrixLine shorted s
  | .swap => Sys2Proof.Machine.execSwap s
  | .lsyncEdge => Sys2Proof.Machine.execLsyncEdge s
  | .lsyncFrameStart => Sys2Proof.Machine.execLsyncFrameStart s
  | .lgtTestRun => Sys2Proof.Machine.execLgtTestRun s
  | .shortClear high v => Sys2Proof.Machine.execShortClear high v s
  | .strobeEnable k v => Sys2Proof.Machine.execStrobeEnable k v s
  | .strobePulse k v => Sys2Proof.Machine.execStrobePulse k v s
  | .strobeCut k => Sys2Proof.Machine.execStrobeCut k s
  | .strobeOvercurrent k => Sys2Proof.Machine.execStrobeOvercurrent k s
  | .strobeNorise k => Sys2Proof.Machine.execStrobeNorise k s
  | .lgtBlockReset => Sys2Proof.Machine.execLgtBlockReset s
  | .headLaneEnable n v => Sys2Proof.Machine.execHeadLaneEnable n v s
  | .headLaneDisable n v => Sys2Proof.Machine.execHeadLaneDisable n v s
  | .terminationProbe l found => Sys2Proof.Machine.execTerminationProbe l found s
  | .blockLock l => Sys2Proof.Machine.execBlockLock l s
  | .lockLoss l => Sys2Proof.Machine.execLockLoss l s
  | .trainTimer l => Sys2Proof.Machine.execTrainTimer l s
  | .trainfail l => Sys2Proof.Machine.execTrainfail l s
  | .capReceived l block => Sys2Proof.Machine.execCapReceived l block s
  | .capexTimeout l => Sys2Proof.Machine.execCapexTimeout l s
  | .trainBlockReceived l => Sys2Proof.Machine.execTrainBlockReceived l s
  | .alignReceived l block => Sys2Proof.Machine.execAlignReceived l block s
  | .laneTxeqWrite l v => Sys2Proof.Machine.execLaneTxeqWrite l v s
  | .eyeMeasure l width => Sys2Proof.Machine.execEyeMeasure l width s
  | .lanePmRequest l v => Sys2Proof.Machine.execLanePmRequest l v s
  | .pmRequestReceived l block => Sys2Proof.Machine.execPmRequestReceived l block s
  | .pmAnswerReceived l block => Sys2Proof.Machine.execPmAnswerReceived l block s
  | .pmTimeout l => Sys2Proof.Machine.execPmTimeout l s
  | .laneWake l => Sys2Proof.Machine.execLaneWake l s
  | .laneWakeDone l => Sys2Proof.Machine.execLaneWakeDone l s
  | .laneTestModeWrite l v => Sys2Proof.Machine.execLaneTestModeWrite l v s
  | .checkerStart l v => Sys2Proof.Machine.execCheckerStart l v s
  | .checkerSync l received n => Sys2Proof.Machine.execCheckerSync l received n s
  | .inj1 l => Sys2Proof.Machine.execInj1 l s
  | .downlinkFrame n => Sys2Proof.Machine.execDownlinkFrame n s
  | .uplinkFrame n blocks => Sys2Proof.Machine.execUplinkFrame n blocks s
  | .auxGo n v => Sys2Proof.Machine.execAuxGo n v s
  | .auxTimeout n => Sys2Proof.Machine.execAuxTimeout n s
  | .headConfigRetry n => Sys2Proof.Machine.execHeadConfigRetry n s
  | .laneBlockReset => Sys2Proof.Machine.execLaneBlockReset s
  | .hlBlockReset => Sys2Proof.Machine.execHlBlockReset s
  | .bar2Read off len => Sys2Proof.Machine.execBar2Read off len s
  | .bar2Write off bytes poisoned => Sys2Proof.Machine.execBar2Write off bytes poisoned s
  | .msixUnmask vector => Sys2Proof.Machine.execMsixUnmask vector s
  | .fwirqSet v => Sys2Proof.Machine.execFwirqSet v s
  | .fwirqClear v => Sys2Proof.Machine.execFwirqClear v s
  | .functionLevelReset => Sys2Proof.Machine.execFunctionLevelReset s
  | .linkDown => Sys2Proof.Machine.execLinkDown s
  | .busMasterDisable => Sys2Proof.Machine.execBusMasterDisable s
  | .perstNAssert => Sys2Proof.Machine.execPerstNAssert s
  | .ethPortEnable e v => Sys2Proof.Machine.execEthPortEnable e v s
  | .ethTxDoorbell e v => Sys2Proof.Machine.execEthTxDoorbell e v s
  | .ethRxDoorbell e v => Sys2Proof.Machine.execEthRxDoorbell e v s
  | .ethFrameSent e => Sys2Proof.Machine.execEthFrameSent e s
  | .ethFrameReceived e bytes check => Sys2Proof.Machine.execEthFrameReceived e bytes check s
  | .pauseReceived e quanta => Sys2Proof.Machine.execPauseReceived e quanta s
  | .ethLinkChange e pcs => Sys2Proof.Machine.execEthLinkChange e pcs s
  | .ethI2cGo e v => Sys2Proof.Machine.execEthI2cGo e v s
  | .ethI2cDone e code data => Sys2Proof.Machine.execEthI2cDone e code data s
  | .dmaDoorbell n v => Sys2Proof.Machine.execDmaDoorbell n v s
  | .dmaDescriptorFetch n host => Sys2Proof.Machine.execDmaDescriptorFetch n host s
  | .dmaReadCompletion n host => Sys2Proof.Machine.execDmaReadCompletion n host s
  | .completionTimeout n => Sys2Proof.Machine.execCompletionTimeout n s
  | .dmaSegmentWrite n => Sys2Proof.Machine.execDmaSegmentWrite n s
  | .dmaEnable n v => Sys2Proof.Machine.execDmaEnable n v s
  | .dmaDisable n v => Sys2Proof.Machine.execDmaDisable n v s
  | .dmaRestart n => Sys2Proof.Machine.execDmaRestart n s
  | .dmaBlockReset => Sys2Proof.Machine.execDmaBlockReset s
  | .ethBlockReset => Sys2Proof.Machine.execEthBlockReset s
  | .ddrCfgWrite v => Sys2Proof.Machine.execDdrCfgWrite v s
  | .ddrInit => Sys2Proof.Machine.execDdrInit s
  | .ddrInitDone steps => Sys2Proof.Machine.execDdrInitDone steps s
  | .dramRequest sub => Sys2Proof.Machine.execDramRequest sub s
  | .dramReadReturn line corrected => Sys2Proof.Machine.execDramReadReturn line corrected s
  | .refresh sub => Sys2Proof.Machine.execRefresh sub s
  | .periodicTraining k => Sys2Proof.Machine.execPeriodicTraining k s
  | .ddrBlockReset => Sys2Proof.Machine.execDdrBlockReset s
  | .scrubPass => Sys2Proof.Machine.execScrubPass s
  | .scrubRead cls index finding => Sys2Proof.Machine.execScrubRead cls index finding s
  | .remapFree cls e v => Sys2Proof.Machine.execRemapFree cls e v s
  | .bist => Sys2Proof.Machine.execBist s
  | .bistDone failed => Sys2Proof.Machine.execBistDone failed s
  | .splitWriteArm v => Sys2Proof.Machine.execSplitWriteArm v s
  | .splitResidue v => Sys2Proof.Machine.execSplitResidue v s
  | .intgBlockReset => Sys2Proof.Machine.execIntgBlockReset s
  | .calOpen g => Sys2Proof.Machine.execCalOpen g s
  | .calRepeat g => Sys2Proof.Machine.execCalRepeat g s
  | .calAbort g => Sys2Proof.Machine.execCalAbort g s
  | .calRestore g => Sys2Proof.Machine.execCalRestore g s
  | .calApply g => Sys2Proof.Machine.execCalApply g s
  | .calApplyEffect g => Sys2Proof.Machine.execCalApplyEffect g s
  | .pendingSetWrite addr v => Sys2Proof.Machine.execPendingSetWrite addr v s
  | .skewQualityWrite ch last => Sys2Proof.Machine.execSkewQualityWrite ch last s
  | .calBlockReset => Sys2Proof.Machine.execCalBlockReset s
  | .stateRequest src v => Sys2Proof.Machine.execStateRequest src v s
  | .fwvoteWrite src v => Sys2Proof.Machine.execFwvoteWrite src v s
  | .hostvoteWrite src v => Sys2Proof.Machine.execHostvoteWrite src v s
  | .clientVote client d => Sys2Proof.Machine.execClientVote client d s
  | .pwrForceWrite src v => Sys2Proof.Machine.execPwrForceWrite src v s
  | .domainRaise d => Sys2Proof.Machine.execDomainRaise d s
  | .domainUp d => Sys2Proof.Machine.execDomainUp d s
  | .pgoodTimeout d => Sys2Proof.Machine.execPgoodTimeout d s
  | .pgoodLoss d => Sys2Proof.Machine.execPgoodLoss d s
  | .domainDrop d => Sys2Proof.Machine.execDomainDrop d s
  | .holdTimeout => Sys2Proof.Machine.execHoldTimeout s
  | .wakeBall => Sys2Proof.Machine.execWakeBall s
  | .pwrAlarmExpiry => Sys2Proof.Machine.execPwrAlarmExpiry s
  | .budgetGrant b => Sys2Proof.Machine.execBudgetGrant b s
  | .thermalRequest => Sys2Proof.Machine.execThermalRequest s
  | .pwrPauseWrite v => Sys2Proof.Machine.execPwrPauseWrite v s
  | .housekeepingRound r => Sys2Proof.Machine.execHousekeepingRound r s
  | .shutdownDomainDrop => Sys2Proof.Machine.execShutdownDomainDrop s
  | .pwrBlockReset src => Sys2Proof.Machine.execPwrBlockReset src s
  | .hkBlockReset => Sys2Proof.Machine.execHkBlockReset s
  | .caveRecordWrite => Sys2Proof.Machine.execCaveRecordWrite s
  | .caveScanDone => Sys2Proof.Machine.execCaveScanDone s
  | .cavePost src v => Sys2Proof.Machine.execCavePost src v s
  | .caveFreeze => Sys2Proof.Machine.execCaveFreeze s
  | .caveUnfreeze => Sys2Proof.Machine.execCaveUnfreeze s
  | .caveReadFetch v => Sys2Proof.Machine.execCaveReadFetch v s
  | .caveFetchDone => Sys2Proof.Machine.execCaveFetchDone s
  | .caveProvision => Sys2Proof.Machine.execCaveProvision s
  | .challenge => Sys2Proof.Machine.execChallenge s
  | .challengeExpiry => Sys2Proof.Machine.execChallengeExpiry s
  | .clear src => Sys2Proof.Machine.execClear src s
  | .caveClearDone => Sys2Proof.Machine.execCaveClearDone s
  | .caveBlockReset => Sys2Proof.Machine.execCaveBlockReset s
  | .porn => Sys2Proof.Machine.execPorn s
  | .sysrstN => Sys2Proof.Machine.execSysrstN s
  | .softwareWarmReset v => Sys2Proof.Machine.execSoftwareWarmReset v s
  | .xtal32Switch => Sys2Proof.Machine.execXtal32Switch s
  | .boot slotA slotB => Sys2Proof.Machine.execBoot slotA slotB s
  | .stagingWrite addr v => Sys2Proof.Machine.execStagingWrite addr v s
  | .bootGo => Sys2Proof.Machine.execBootGo s
  | .bootProvision => Sys2Proof.Machine.execBootProvision s
  | .kick src v => Sys2Proof.Machine.execKick src v s
  | .heartbeatWindowEnd => Sys2Proof.Machine.execHeartbeatWindowEnd s
  | .safeEnter src => Sys2Proof.Machine.execSafeEnter src s
  | .xtalLoss => Sys2Proof.Machine.execXtalLoss s
  | .safeNToggle => Sys2Proof.Machine.execSafeNToggle s
  | .extest => Sys2Proof.Machine.execExtest s
  | .vddAonLoss => Sys2Proof.Machine.execVddAonLoss s
  | .perstNRelease => Sys2Proof.Machine.execPerstNRelease s
  | .pcieLinkActivity => Sys2Proof.Machine.execPcieLinkActivity s
  | .pmeTurnOff => Sys2Proof.Machine.execPmeTurnOff s
  | .timDCfgWrite d v => Sys2Proof.Machine.execTimDCfgWrite d v s
  | .feedbackInterfaceEnable f v => Sys2Proof.Machine.execFeedbackInterfaceEnable f v s
  | .stbIsnCrossing k v => Sys2Proof.Machine.execStbIsnCrossing k v s

end Sys2Proof.Machine
end

