-- ==== Sys2Proof/Safety.lean ====
section
/-!
DEFINITION. The terms of the statements: what a command leaves unchanged, and the canonical form of the state's tables.
-/

namespace Sys2Proof.Machine

/-! ### Frames -/

/-- The parts of the state, one for each field of State. -/
inductive Part where
  | pending | variant | regs | dram | l2 | shadow | staged | readData | grp | armUndo | chan | srvAx
  | srvCh | srv | lsr | hoop | port | bulk | dom | time | mot | fbk | cam | pipe
  | lgt | strobe | lane | head | dma | dmaEng | pci | eth | ddr | intg | cal | pwr
  | hk | cave | boot | pins | xbar | free | out
  deriving DecidableEq, Repr

/-- A part has the same value in two states. -/
def Same (p : Part) (s t : State) : Prop :=
  match p with
  | .pending => t.pending = s.pending
  | .variant => t.variant = s.variant
  | .regs => t.regs = s.regs
  | .dram => t.dram = s.dram
  | .l2 => t.l2 = s.l2
  | .shadow => t.shadow = s.shadow
  | .staged => t.staged = s.staged
  | .readData => t.readData = s.readData
  | .grp => t.grp = s.grp
  | .armUndo => t.armUndo = s.armUndo
  | .chan => t.chan = s.chan
  | .srvAx => t.srvAx = s.srvAx
  | .srvCh => t.srvCh = s.srvCh
  | .srv => t.srv = s.srv
  | .lsr => t.lsr = s.lsr
  | .hoop => t.hoop = s.hoop
  | .port => t.port = s.port
  | .bulk => t.bulk = s.bulk
  | .dom => t.dom = s.dom
  | .time => t.time = s.time
  | .mot => t.mot = s.mot
  | .fbk => t.fbk = s.fbk
  | .cam => t.cam = s.cam
  | .pipe => t.pipe = s.pipe
  | .lgt => t.lgt = s.lgt
  | .strobe => t.strobe = s.strobe
  | .lane => t.lane = s.lane
  | .head => t.head = s.head
  | .dma => t.dma = s.dma
  | .dmaEng => t.dmaEng = s.dmaEng
  | .pci => t.pci = s.pci
  | .eth => t.eth = s.eth
  | .ddr => t.ddr = s.ddr
  | .intg => t.intg = s.intg
  | .cal => t.cal = s.cal
  | .pwr => t.pwr = s.pwr
  | .hk => t.hk = s.hk
  | .cave => t.cave = s.cave
  | .boot => t.boot = s.boot
  | .pins => t.pins = s.pins
  | .xbar => t.xbar = s.xbar
  | .free => t.free = s.free
  | .out => t.out = s.out

/-- Nothing but the listed parts of the state differs. -/
def Only (l : List Part) (s t : State) : Prop := ∀ p, p ∉ l → Same p s t

/-- Every register and table word but those at the listed BAR0 offsets keeps its value. -/
def RegsBut (l : List Nat) (s t : State) : Prop := ∀ a, a ∉ l → t.reg a = s.reg a

/-- Every register and table word outside BAR0 offsets lo to hi - 1 keeps its value. -/
def RegsIn (lo hi : Nat) (s t : State) : Prop := ∀ a, (a < lo ∨ hi ≤ a) → t.reg a = s.reg a

/-- Every byte of device DRAM reads as before. -/
def SameDram (s t : State) : Prop := ∀ a, t.dramByte a = s.dramByte a

/-- Every byte of device DRAM outside n bytes from an offset reads as before. -/
def SameDramBut (off n : Nat) (s t : State) : Prop := ∀ a, (a < off ∨ off + n ≤ a) → t.dramByte a = s.dramByte a

/-- The parts that raising an interrupt touches: registers, messages sent, MSI-X pending bits (R357). -/
def irqParts : List Part := [.regs, .out, .pci]

/-- Every unit of one kind but unit n is unchanged. -/
def UnitsBut {α : Type} (get : State → Nat → α) (n : Nat) (s t : State) : Prop := ∀ m, m ≠ n → get t m = get s m

/-! ### The decoder (R58, R67, R96) -/

/-- The entries that hold the m words at the decoder's place have been checked, or pass their check now (R108). -/
def State.feedSound (s : State) (n m : Nat) : Bool :=
  let c := s.ch n
  (c.slotsOf m).all (fun i => match c.feed[i]? with | some e => e.arrived && (e.checked || e.sound) | none => false) &&
    s.intg.hidden.all fun e => !(decide (e.1 = 0) && decide (Config.wordHome 0 e.2 = n))

/-- The channel with those entries noted as checked. -/
def Chan.marked (c : Chan) (m : Nat) : Chan :=
  { c with feed := (c.slotsOf m).foldl (fun l i => match l[i]? with | some e => setNth l i { e with checked := true } | none => l) c.feed }

/-- A complete instruction of opcode op stands at the decoder's place of channel n: the channel decodes, inside a curd already
begun; its words are in the feed and sound. -/
def State.canRead (s : State) (n op : Nat) (ws : List Nat) : Bool :=
  let c := s.ch n
  decide (n < s.channels) && s.decoding n && c.begun && decide (0 < ws.length) &&
    decide (c.dec.loc.word + ws.length ≤ c.endOf c.dec.loc.lib) &&
    decide (c.wordsAt ws.length = some ws) && s.feedSound n ws.length && decide (opOf (wd ws 0) = op)

/-- Another word follows that instruction in its curd or in the library, and no HAND block may end there. -/
def State.hasNext (s : State) (n : Nat) (ws : List Nat) : Bool :=
  let c := s.ch n
  decide (c.handBlock = []) && decide (c.dec.loc.word + ws.length < c.endOf c.dec.loc.lib)

/-- That instruction is legal (R58), is no second one after the layer's last GYIELD (R69), and is not late (R64). -/
def State.canDecode (s : State) (n op : Nat) (ws : List Nat) : Bool :=
  let c := s.ch n
  s.canRead n op ws && !s.afterLastYield n && !s.isLate n (c.deadline ws) &&
    (match opRow op with
     | some r => decide (extOf (wd ws 0) + 1 = ws.length) && decide (r.masks.length = ws.length) && reservedZero r.masks ws &&
        rangeOk c.dec.k op ws
     | none => false)

/-- The decoder reads the lines that hold an instruction of m words at its place, each checked at its first reading (R108): whether all
are sound, and the state then. -/
def State.readied (s : State) (n m : Nat) : Bool × State :=
  let first := s.feedCheck n ((s.ch n).slotsOf 1)
  let all := first.2.feedCheck n ((first.2.ch n).slotsOf m)
  (first.1 && all.1, all.2)

/-- The state in which an instruction of m words takes its effect: its lines read, its curd begun (R55). -/
def State.opened (s : State) (n m : Nat) : State := (s.readied n m).2.openCurd n

/-- An instruction of opcode op stands complete and sound at the decoder's place, wherever that is: at a curd's first or last word, in
a HAND block, in the library; its curd begins in time (R55, R58). -/
def State.mayRead (s : State) (n op : Nat) (ws : List Nat) : Bool :=
  let c := (s.readied n ws.length).2.ch n
  decide (n < s.channels) && s.decoding n && (s.readied n ws.length).1 && decide (0 < ws.length) &&
    decide (c.wordsAt ws.length = some ws) && decide (c.dec.loc.word + ws.length ≤ c.endOf c.dec.loc.lib) &&
    decide (opOf (wd ws 0) = op) && !((s.opened n ws.length).ch n).decStopped

/-- That instruction is legal, is no second one after the layer's last GYIELD, and is not late (R58, R64, R69). -/
def State.mayDecode (s : State) (n op : Nat) (ws : List Nat) : Bool :=
  let u := s.opened n ws.length
  s.mayRead n op ws && !u.afterLastYield n && !u.isLate n ((u.ch n).deadline ws) &&
    (match opRow op with
     | some r => decide (extOf (wd ws 0) + 1 = ws.length) && decide (r.masks.length = ws.length) && reservedZero r.masks ws &&
        rangeOk (u.ch n).dec.k op ws
     | none => false)

/-! ### Packets for this device -/

/-- A packet arrives on a port with its link and this device consumes it: a unicast packet to its ID, or a broadcast of another device
that is no duplicate (R202, R203). -/
def State.consumes (s : State) (port : Nat) (k : Packet) : Bool :=
  decide (port < s.hoopLanes) && s.carries port &&
    (if k.bcast then decide (k.src ≠ s.devid) && !(s.hoop.dups.any fun d => decide (d.src = k.src ∧ d.cls = k.cls ∧ d.seq = k.seq))
     else decide (k.dst = s.devid))

/-- The state in which the device acts on a packet that it consumes: the broadcast noted and sent on, or the credits owed. -/
def State.taken (s : State) (port : Nat) (k : Packet) : State := if k.bcast then (s.rxBroadcast port k).2 else s.owe port k

/-! ### Canonical form -/

/-- A memory of bytes that reads zero where nothing is listed: addresses strictly rising, no listed byte zero. -/
def Memory.wf (m : List Host.Cell) : Bool := tabWf (fun _ => (0 : Byte)) m

/-- The register words, device DRAM and the Cave's die are in canonical form. -/
def State.memCanon (s : State) : Bool := tabWf resetWord s.regs && Memory.wf s.dram && Memory.wf s.cave.die

/-- Every table of the state that holds a word, a byte or a unit under a number is in canonical form. -/
def State.canon (s : State) : Bool :=
  s.memCanon && tabWf (fun _ => (0 : Word)) s.shadow && tabWf (fun _ => (0 : Word)) s.staged &&
  tabWf (fun _ => Chan.reset) s.chan && tabWf (fun _ => Axis.reset) s.srvAx && tabWf (fun _ => ServoCh.reset) s.srvCh &&
  tabWf (fun _ => Laser.reset) s.lsr && tabWf (fun _ => HoopPort.reset) s.port && tabWf (fun _ => (⟨false, 0⟩ : BulkTx)) s.bulk &&
  tabWf (fun _ => Domain.reset) s.dom && tabWf (fun _ => Motor.reset) s.mot && tabWf (fun _ => Feedback.reset) s.fbk &&
  tabWf (fun _ => CamPort.reset) s.cam && tabWf (fun _ => Strobe.reset) s.strobe &&
  tabWf (fun _ => Lane.reset) s.lane && tabWf (fun _ => Head.reset) s.head && tabWf (fun _ => DmaCh.reset) s.dma &&
  tabWf (fun _ => (⟨0, none⟩ : EthPort)) s.eth && tabWf (fun _ => (⟨false, 0⟩ : CalGroup)) s.cal

end Sys2Proof.Machine
end

