-- ==== Sys2Proof/WellFormed.lean ====
section
/-!
DEFINITION. Which commands are well formed: unit numbers within the largest variant (R2, R3), addresses within BAR0
and aligned to a word (R353, 00_scope, Register conventions), packets as R200 and R201 lay them out.
-/

namespace Sys2Proof

/-- A word address in BAR0: a multiple of 4 below 64 MiB (R353). -/
def addrOk (a : Nat) : Bool := decide (a < 0x4000000) && decide (a % 4 = 0)

/-- The payload sizes of a class (R201). -/
def payloadOk (cls n : Nat) : Bool :=
  if cls = 0x01 then decide (n = 4) || decide (n = 48)
  else if cls = 0x02 then decide (n = 4)
  else if cls = 0x10 then decide (n = 16)
  else if cls = 0x11 then decide (n ≤ 44) && decide (n % 4 = 0)
  else if cls = 0x12 then decide (n = 40)
  else if cls = 0x20 || cls = 0x21 then decide (n = 8)
  else if cls = 0x30 then decide (8 ≤ n) && decide (n ≤ 264) && decide ((n - 8) % 64 = 0)
  else false

/-- A packet of R200 and R201: a class of R201 with a payload of its size, fields that fit their places. -/
def packetOk (k : Packet) : Bool :=
  payloadOk k.cls k.payload.length && decide (k.hops < 16) && decide (k.dst < 65536) && decide (k.src < 65536) &&
    decide (k.seq < 65536) && decide (k.tag < 65536)

/-- Every operand lies in the range that the register map and the variants give it. -/
def wellFormed (c : Instr) : Bool :=
  match c with
  | .absentUnitAccess _ addr _ => addrOk addr
  | .absentAccessClear _ => true
  | .wideReadLow _ addr => addrOk addr
  | .wideReadUpper _ addr => addrOk addr
  | .wideWriteUpper _ addr _ => addrOk addr
  | .wideWriteLow _ addr _ => addrOk addr
  | .registerWrite _ addr _ => addrOk addr
  | .arm => true
  | .armingCheckDone => true
  | .wakeAlarm => true
  | .channelReady ch => decide (ch < 32)
  | .startVote => true
  | .startVoteReceived port pk => decide (port < 8) && packetOk pk
  | .startDecision => true
  | .layerStart => true
  | .yieldSeal => true
  | .yieldVoteReceived port pk => decide (port < 8) && packetOk pk
  | .yieldVoteDeadline => true
  | .yieldDecision => true
  | .yieldPoint => true
  | .holdCauseClear => true
  | .holdEventRepeat => true
  | .holdEventReceived port pk => decide (port < 8) && packetOk pk
  | .releaseEventReceived port pk => decide (port < 8) && packetOk pk
  | .holdRestart => true
  | .abort => true
  | .groupAbortReceived port pk => decide (port < 8) && packetOk pk
  | .nop ch => decide (ch < 32)
  | .undefinedOpcode ch => decide (ch < 32)
  | .halt ch => decide (ch < 32)
  | .wait ch => decide (ch < 32)
  | .waitr ch => decide (ch < 32)
  | .gyield ch => decide (ch < 32)
  | .sync ch => decide (ch < 32)
  | .syncDeadline ch => decide (ch < 32)
  | .sig ch => decide (ch < 32)
  | .sigEmit ch => decide (ch < 32)
  | .evt ch => decide (ch < 32)
  | .evtAction ch => decide (ch < 32)
  | .call ch => decide (ch < 32)
  | .ret ch => decide (ch < 32)
  | .rep ch => decide (ch < 32)
  | .endr ch => decide (ch < 32)
  | .ldk ch => decide (ch < 32)
  | .addk ch => decide (ch < 32)
  | .fence ch => decide (ch < 32)
  | .jump ch => decide (ch < 32)
  | .line ch => decide (ch < 32)
  | .cubic ch => decide (ch < 32)
  | .dwell ch => decide (ch < 32)
  | .focus ch => decide (ch < 32)
  | .period ch => decide (ch < 32)
  | .learn ch => decide (ch < 32)
  | .gsel ch => decide (ch < 32)
  | .pset ch => decide (ch < 32)
  | .pramp ch => decide (ch < 32)
  | .pulse ch => decide (ch < 32)
  | .env ch => decide (ch < 32)
  | .mpl ch => decide (ch < 32)
  | .lon ch => decide (ch < 32)
  | .loff ch => decide (ch < 32)
  | .hand ch => decide (ch < 32)
  | .trig ch => decide (ch < 32)
  | .move ch => decide (ch < 32)
  | .faultTime ch => decide (ch < 32)
  | .late ch => decide (ch < 32)
  | .gateEdge ch => decide (ch < 32)
  | .evaluationInstant ch => decide (ch < 32)
  | .powerInstant ch _ _ => decide (ch < 32)
  | .seqRingTail ch _ => decide (ch < 32)
  | .descriptorRead ch => decide (ch < 32)
  | .ownRetry ch => decide (ch < 32)
  | .walkerFetch ch => decide (ch < 32)
  | .feedLineArrival ch slot _ => decide (ch < 32) && decide (slot < 256)
  | .libraryLoad ch => decide (ch < 32)
  | .libraryLoadDone ch => decide (ch < 32)
  | .libraryUnload ch => decide (ch < 32)
  | .channelDisable ch => decide (ch < 32)
  | .channelEnable ch => decide (ch < 32)
  | .seqBlockReset => true
  | .seqEvtCtlWrite _ => true
  | .seqEvtBaseWrite _ => true
  | .seqEvtRdWrite _ => true
  | .servoPeriodBoundary => true
  | .axisArithOff a => decide (a < 96)
  | .staleTrip ch => decide (ch < 32)
  | .srvAxModeWrite a _ => decide (a < 96)
  | .identificationArm _ => true
  | .identificationDone => true
  | .repetitiveTableWrite addr _ => addrOk addr
  | .activeGainSetWrite addr _ => addrOk addr
  | .srvBlockReset => true
  | .emstopNFall => true
  | .emissionStopClear _ => true
  | .manualDriveWrite ch _ => decide (ch < 32)
  | .lfltNQualified ch _ => decide (ch < 32)
  | .lrdyQualified ch _ => decide (ch < 32)
  | .freeCadenceSample ch _ _ => decide (ch < 32)
  | .lsrLogCtlWrite ch _ => decide (ch < 32)
  | .meltPoolGainSetWrite addr _ => addrOk addr
  | .lsrActiveSetWrite addr _ => addrOk addr
  | .lsrBlockReset => true
  | .hoopIdWrite _ => true
  | .hoopPortEnable p _ => decide (p < 8)
  | .hoopPortDisable p _ => decide (p < 8)
  | .hoopPortTeardown p => decide (p < 8)
  | .packetTransmit p => decide (p < 8)
  | .badPacketReceived p _ _ => decide (p < 8)
  | .broadcastRepeat => true
  | .duplicateEntryExpiry => true
  | .creditReceived p pk => decide (p < 8) && packetOk pk
  | .creditSend p => decide (p < 8)
  | .eventReceived p pk => decide (p < 8) && packetOk pk
  | .remoteAccessGo _ => true
  | .rreqReceived p pk => decide (p < 8) && packetOk pk
  | .rrspReceived p pk => decide (p < 8) && packetOk pk
  | .remoteAccessTimeout => true
  | .bulkGo c => decide (c < 4)
  | .bulkReceived p pk => decide (p < 8) && packetOk pk
  | .bulkAckReceived p pk => decide (p < 8) && packetOk pk
  | .bulkTimeout c => decide (c < 4)
  | .timeExchangeStart p _ => decide (p < 8)
  | .timeRequestReceived p pk _ phase => decide (p < 8) && packetOk pk && decide (phase < 6400)
  | .timeResponseReceived p pk x => decide (p < 8) && packetOk pk && decide (x.phase < 6400)
  | .timeExchangeTimeout p => decide (p < 8)
  | .holdoverEntry d => decide (d < 2)
  | .timSelWrite _ => true
  | .domainSwitch => true
  | .calendarAdj => true
  | .calendarSet => true
  | .ppsOutEdge => true
  | .ppsInEdge => true
  | .hoopBlockReset => true
  | .handTokenReceived _ pk => packetOk pk
  | .tokenExpiry ch => decide (ch < 32)
  | .commit ch => decide (ch < 32)
  | .commitmentClose ch => decide (ch < 32)
  | .handDecision ch => decide (ch < 32)
  | .handEnd ch => decide (ch < 32)
  | .handRecordTimeout ch => decide (ch < 32)
  | .fieldTableWrite addr _ => addrOk addr
  | .stiBlockReset => true
  | .generatorInstant => true
  | .motGo a _ => decide (a < 8)
  | .motHome a _ => decide (a < 8)
  | .axisDisable a _ => decide (a < 8)
  | .axisEnable a _ => decide (a < 8)
  | .motAxPosWrite a _ => decide (a < 8)
  | .pwmPeriod a _ _ => decide (a < 8)
  | .stall a => decide (a < 8)
  | .bridgeFault a => decide (a.unit < 8)
  | .overcurrent a => decide (a < 8)
  | .sdloss a => decide (a.unit < 8)
  | .standstill a => decide (a < 8)
  | .limitQualified i _ _ => decide (i < 8)
  | .homeEdgeQualified i _ _ _ => decide (i < 8)
  | .feedbackEdge i _ _ => decide (i < 8)
  | .indexEdge i => decide (i.unit < 8)
  | .fbkCountWrite i _ => decide (i < 8)
  | .fbkCmpposWrite i _ => decide (i < 8)
  | .motBlockReset => true
  | .fbkBlockReset => true
  | .cameraPortEnable p _ => decide (p < 4)
  | .cameraPortDisable p _ => decide (p < 4)
  | .frameStart p => decide (p.unit < 4)
  | .cameraLine p _ => decide (p < 4)
  | .frameEndAtPort p => decide (p.unit < 4)
  | .pipelinePortSelect => true
  | .stripeEnd _ => true
  | .pipelineFrameEnd => true
  | .hostTrigger p _ => decide (p < 4)
  | .trigPulse ch => decide (ch < 32)
  | .i2cGo p _ => decide (p < 4)
  | .i2cDone p _ _ => decide (p < 4)
  | .exposureCommit p _ => decide (p < 4)
  | .cameraTableWrite addr _ => addrOk addr
  | .camBlockReset => true
  | .lgtEnable _ => true
  | .shortTestDone _ => true
  | .lgtDisable _ => true
  | .sinkWrite addr _ => addrOk addr
  | .matrixLine _ => true
  | .swap => true
  | .lsyncEdge => true
  | .lsyncFrameStart => true
  | .lgtTestRun => true
  | .shortClear _ _ => true
  | .strobeEnable s _ => decide (s < 4)
  | .strobePulse s _ => decide (s < 4)
  | .strobeCut s => decide (s < 4)
  | .strobeOvercurrent s => decide (s.unit < 4)
  | .strobeNorise s => decide (s.unit < 4)
  | .lgtBlockReset => true
  | .headLaneEnable n _ => decide (n < 32)
  | .headLaneDisable n _ => decide (n < 32)
  | .terminationProbe l _ => decide (l < 40)
  | .blockLock l => decide (l.unit < 40)
  | .lockLoss l => decide (l.unit < 40)
  | .trainTimer l => decide (l < 40)
  | .trainfail l => decide (l < 40)
  | .capReceived l _ => decide (l < 40)
  | .capexTimeout l => decide (l < 40)
  | .trainBlockReceived l => decide (l.unit < 40)
  | .alignReceived l _ => decide (l < 40)
  | .laneTxeqWrite l _ => decide (l < 40)
  | .eyeMeasure l _ => decide (l < 40)
  | .lanePmRequest l _ => decide (l < 40)
  | .pmRequestReceived l _ => decide (l < 40)
  | .pmAnswerReceived l _ => decide (l < 40)
  | .pmTimeout l => decide (l < 40)
  | .laneWake l => decide (l < 40)
  | .laneWakeDone l => decide (l < 40)
  | .laneTestModeWrite l _ => decide (l < 40)
  | .checkerStart l _ => decide (l < 40)
  | .checkerSync l _ _ => decide (l < 40)
  | .inj1 l => decide (l < 40)
  | .downlinkFrame n => decide (n < 32)
  | .uplinkFrame n _ => decide (n < 32)
  | .auxGo n _ => decide (n < 32)
  | .auxTimeout n => decide (n < 32)
  | .headConfigRetry n => decide (n < 32)
  | .laneBlockReset => true
  | .hlBlockReset => true
  | .bar2Read _ _ => true
  | .bar2Write _ _ _ => true
  | .msixUnmask _ => true
  | .fwirqSet _ => true
  | .fwirqClear _ => true
  | .functionLevelReset => true
  | .linkDown => true
  | .busMasterDisable => true
  | .perstNAssert => true
  | .ethPortEnable e _ => decide (e < 2)
  | .ethTxDoorbell e _ => decide (e < 2)
  | .ethRxDoorbell e _ => decide (e < 2)
  | .ethFrameSent e => decide (e < 2)
  | .ethFrameReceived e _ _ => decide (e < 2)
  | .pauseReceived e _ => decide (e < 2)
  | .ethLinkChange e _ => decide (e < 2)
  | .ethI2cGo e _ => decide (e < 2)
  | .ethI2cDone e _ _ => decide (e < 2)
  | .dmaDoorbell n _ => decide (n < 16)
  | .dmaDescriptorFetch n _ => decide (n < 16)
  | .dmaReadCompletion n _ => decide (n < 16)
  | .completionTimeout n => decide (n < 16)
  | .dmaSegmentWrite n => decide (n < 16)
  | .dmaEnable n _ => decide (n < 16)
  | .dmaDisable n _ => decide (n < 16)
  | .dmaRestart n => decide (n < 16)
  | .dmaBlockReset => true
  | .ethBlockReset => true
  | .ddrCfgWrite _ => true
  | .ddrInit => true
  | .ddrInitDone _ => true
  | .dramRequest sub => decide (sub < 8)
  | .dramReadReturn _ _ => true
  | .refresh sub => decide (sub < 8)
  | .periodicTraining k => decide (k < 4)
  | .ddrBlockReset => true
  | .scrubPass => true
  | .scrubRead _ _ _ => true
  | .remapFree _ e _ => decide (e < 256)
  | .bist => true
  | .bistDone _ => true
  | .splitWriteArm _ => true
  | .splitResidue _ => true
  | .intgBlockReset => true
  | .calOpen g => decide (g < 8)
  | .calRepeat g => decide (g < 8)
  | .calAbort g => decide (g < 8)
  | .calRestore g => decide (g < 8)
  | .calApply g => decide (g < 8)
  | .calApplyEffect g => decide (g < 8)
  | .pendingSetWrite addr _ => addrOk addr
  | .skewQualityWrite ch last => decide (ch < 32) && decide (last < 32)
  | .calBlockReset => true
  | .stateRequest _ _ => true
  | .fwvoteWrite _ _ => true
  | .hostvoteWrite _ _ => true
  | .clientVote client d => decide (client < 14) && decide (d < 11)
  | .pwrForceWrite _ _ => true
  | .domainRaise d => decide (d < 11)
  | .domainUp d => decide (d.unit < 11)
  | .pgoodTimeout d => decide (d < 11)
  | .pgoodLoss d => decide (d.unit < 11)
  | .domainDrop d => decide (d < 11)
  | .holdTimeout => true
  | .wakeBall => true
  | .pwrAlarmExpiry => true
  | .budgetGrant b => decide (b < 4)
  | .thermalRequest => true
  | .pwrPauseWrite _ => true
  | .housekeepingRound _ => true
  | .shutdownDomainDrop => true
  | .pwrBlockReset _ => true
  | .hkBlockReset => true
  | .caveRecordWrite => true
  | .caveScanDone => true
  | .cavePost _ _ => true
  | .caveFreeze => true
  | .caveUnfreeze => true
  | .caveReadFetch _ => true
  | .caveFetchDone => true
  | .caveProvision => true
  | .challenge => true
  | .challengeExpiry => true
  | .clear _ => true
  | .caveClearDone => true
  | .caveBlockReset => true
  | .porn => true
  | .sysrstN => true
  | .softwareWarmReset _ => true
  | .xtal32Switch => true
  | .boot _ _ => true
  | .stagingWrite addr _ => addrOk addr
  | .bootGo => true
  | .bootProvision => true
  | .kick _ _ => true
  | .heartbeatWindowEnd => true
  | .safeEnter _ => true
  | .xtalLoss => true
  | .safeNToggle => true
  | .extest => true
  | .vddAonLoss => true
  | .perstNRelease => true
  | .pcieLinkActivity => true
  | .pmeTurnOff => true
  | .timDCfgWrite d _ => decide (d < 2)
  | .feedbackInterfaceEnable i _ => decide (i < 8)
  | .stbIsnCrossing s _ => decide (s < 4)

end Sys2Proof
end

