-- ==== Sys2Proof/Certificates/Slice0/Obligations.lean ====
section
/-!
DEFINITION. The statements for the provers. Each clause names one command, the conditions on the state and the operands under which
it completes, the parts of the state it may change (Only), and what the next state holds.
-/

open Sys2Proof Sys2Proof.Machine

/-- (R6) For every state whose queue begins with a command, a step is exec of that command on the state with the rest of the
queue. The queue is the model's own; the spec's fabric serialises what it takes. -/
def Obligations.StepRunsFrontCommand : Prop :=
  ∀ (s : State) (c : Instr) (rest : List Instr), s.pending = c :: rest → step s = exec c { s with pending := rest }

/-- (R17, R20, R132, R213, R222, R389, R422, R431) On an empty queue a step answers a next state. With FCLK running: machine time
moves to the next tick, calendar time by its increment and the short pulses on EMSTOP_N and SYSRST_N end. Where the servo
engine's learning update of the period is already made: schedule time advances by one while the group runs and not otherwise,
the pause debt grows by DUTY while it runs, no register but DDR_STAT changes (a training pause ends), and no other unit
changes. With no clock nothing changes. That time passes when no command waits is the model's choice (log entry 1, DESIGN
CHOICE); what a tick does is the spec's. -/
def Obligations.IdleStepIsOneClockPeriod : Prop :=
  (∀ s : State, s.pending = [] → s.clockless = false → s.fclk = true →
    ∃ t, step s = .next t ∧ t.time.mt = tickU * (s.time.mt / tickU + 1) ∧
      t.time.cal = s.time.cal + (s.reg R.TIM_CAL_INC).toNat ∧ t.pins.emstopN = true ∧ t.boot.sysrst = false) ∧
  (∀ s : State, s.pending = [] → s.clockless = false → s.fclk = true → s.srv.learned = true →
    ∃ t, step s = .next t ∧ Only [.regs, .grp, .time, .dom, .ddr, .lane, .pins, .boot, .pwr] s t ∧ RegsBut [R.DDR_STAT] s t ∧
      t.grp.s = (if s.grp.run then s.grp.s + 1 else s.grp.s) ∧ t.grp.p = s.grp.p ∧ t.grp.run = s.grp.run ∧
      (s.grp.run = true → t.grp.debt = s.grp.debt + s.fld R.PWR_PAUSE F.PWR_PAUSE_DUTY)) ∧
  (∀ s : State, s.pending = [] → s.clockless = true → step s = .next s)

/-- (R1, R2) For every state and every command, whatever it does to registers, memories and units, including every reset and PORN:
when a step answers a next state, the queue is the old queue without its front command, and the variant is unchanged. -/
def Obligations.StepTakesOneCommandOnly : Prop :=
  ∀ s t : State, step s = .next t → t.pending = s.pending.tail ∧ t.variant = s.variant

/-- (R12, R376, R440) For every state in which the register words, device DRAM, the Cave's die and every table of units are in
canonical form (numbers strictly rising, no entry equal to what an unlisted one reads as), and every command or idle step:
when the step answers a next state, all of them are in canonical form there. -/
def Obligations.StepKeepsCanonicalForm : Prop :=
  ∀ s t : State, s.canon = true → step s = .next t → t.canon = true

/-- (R120, R170, R448, R456, R462, R464) State.reset is in canonical form with an empty queue and no draw of a free value. As the
spec gives it, the emission stop latch is set, every gate is low, the group is Idle, every channel is DISABLED, the safe-state
controller is in START with SAFE_N and FAULT_N low, and the Cave has not been scanned. -/
def Obligations.ResetState : Prop :=
  State.reset.canon = true ∧ State.reset.pending = [] ∧ State.reset.latched = true ∧ State.reset.gates = 0 ∧
  State.reset.grpState = 0 ∧ (∀ n ∈ State.reset.chs, State.reset.chState n = 0) ∧ State.reset.ssc = 0 ∧
  State.reset.boot.safeN = false ∧ State.reset.boot.faultN = false ∧
  State.reset.flag R.CAVE_STAT F.CAVE_STAT_READY = false ∧ State.reset.dram = []

/-- (R30) ARM in a state other than Armed, Running and Holding, with M_start far enough ahead and on the 4 ns grid, takes layer,
mask, table, resume index and M_start, and the group is Armed and checking with ARMSTAT 0. With M_start too near (by whether
SEQ is up), off the grid, or in another state, it is rejected with LEAD, GRID or BUSY: only ARMSTAT and SEQ_GRP_ISR.REJECT
change among the registers, and the group unit keeps its layer. -/
def Obligations.ArmTakesLayerOrRejects : Prop :=
  (∀ (s : State), s.layerArmed = false → (s.time.mt + ticksU (if s.up dSEQ then 250000 else 2750000) ≤ s.mstartReg) → s.mstartOnGrid = true → 
    ∃ t, exec (.arm) s = .next t ∧ Only [.regs, .dram, .grp, .armUndo, .chan, .srvAx, .srvCh, .lsr, .pci, .ddr, .pwr, .cave, .out] s t ∧
      t.grpState = 1 ∧
      t.grp.layer = s.fld R.SEQ_GRP_LAYER F.SEQ_GRP_LAYER_LAYER ∧
      t.grp.pmask = s.fld R.SEQ_GRP_PMASK F.SEQ_GRP_PMASK_MASK % 2 ^ s.channels ∧
      t.grp.yline = s.fld R.SEQ_GRP_YBASE F.SEQ_GRP_YBASE_LINE ∧
      t.grp.n = s.fld R.SEQ_GRP_YCOUNT F.SEQ_GRP_YCOUNT_N ∧
      t.grp.resume = s.fld R.SEQ_GRP_RESUME F.SEQ_GRP_RESUME_INDEX ∧
      t.grp.mstart = s.mstartReg ∧
      t.grp.armedAt = s.time.mt ∧
      t.grp.started = false ∧
      t.flag R.SEQ_GRP_STAT F.SEQ_GRP_STAT_CHECKING = true ∧
      t.fld R.SEQ_GRP_STAT F.SEQ_GRP_STAT_ARMSTAT = 0) ∧
  (∀ (s : State) (status : Nat), ((status = 4 ∧ s.layerArmed = true) ∨ (status = 3 ∧ s.layerArmed = false ∧ s.mstartReg < s.time.mt + ticksU (if s.up dSEQ then 250000 else 2750000)) ∨
    (status = 6 ∧ s.layerArmed = false ∧ s.time.mt + ticksU (if s.up dSEQ then 250000 else 2750000) ≤ s.mstartReg ∧ s.mstartOnGrid = false)) → 
    ∃ t, exec (.arm) s = .next t ∧ Only irqParts s t ∧
      t.fld R.SEQ_GRP_STAT F.SEQ_GRP_STAT_ARMSTAT = status ∧
      t.flag R.SEQ_GRP_ISR F.SEQ_GRP_ISR_REJECT = true ∧
      t.grpState = s.grpState ∧
      RegsBut [R.SEQ_GRP_STAT, R.SEQ_GRP_ISR] s t)

/-- (R25, R31, R32, R115, R128) ARMING_CHECK_DONE with a table that passes ends CHECKING with ARMSTAT ACCEPTED and
SEQ_GRP_ISR.ACCEPT, the group still Armed; with a bad table the group is back in the state of the member that took the arming,
with ARMSTAT YTABLE. WAKE_ALARM at its time turns the alarm into a vote for SEQ and the wake run of source 2. CHANNEL_READY
moves a PRIMING channel whose R32 condition holds to READY and changes no other register. -/
def Obligations.ArmingChecksEnd : Prop :=
  (∀ (s : State), s.flag R.SEQ_GRP_STAT F.SEQ_GRP_STAT_CHECKING = true → s.grpState = 1 → s.tableOk = true → 
    ∃ t, exec (.armingCheckDone) s = .next t ∧ Only irqParts s t ∧
      t.flag R.SEQ_GRP_STAT F.SEQ_GRP_STAT_CHECKING = false ∧
      t.fld R.SEQ_GRP_STAT F.SEQ_GRP_STAT_ARMSTAT = 1 ∧
      t.grpState = 1 ∧
      t.flag R.SEQ_GRP_ISR F.SEQ_GRP_ISR_ACCEPT = true ∧
      RegsBut [R.SEQ_GRP_STAT, R.SEQ_GRP_ISR] s t) ∧
  (∀ (s : State) (r : State), s.flag R.SEQ_GRP_STAT F.SEQ_GRP_STAT_CHECKING = true → s.grpState = 1 → s.tableOk = false → s.armUndo = some r.armSaved → 
    ∃ t, exec (.armingCheckDone) s = .next t ∧ Only [.regs, .dram, .grp, .armUndo, .chan, .srvAx, .srvCh, .lsr, .pci, .ddr, .pwr, .cave, .out] s t ∧
      t = s.undoArm.syncShadow.rejectArm 2 ∧
      t.grp = { r.grp with lostSince := s.grp.lostSince } ∧
      t.grpState = r.grpState ∧
      t.flag R.SEQ_GRP_STAT F.SEQ_GRP_STAT_CHECKING = r.flag R.SEQ_GRP_STAT F.SEQ_GRP_STAT_CHECKING ∧
      t.fld R.SEQ_GRP_STAT F.SEQ_GRP_STAT_ARMSTAT = 2 ∧
      t.flag R.SEQ_GRP_ISR F.SEQ_GRP_ISR_REJECT = true ∧
      t.armUndo = none) ∧
  (∀ (s : State) (k : Nat), s.grp.wakeAlarm = some k → k ≤ s.time.mt → 
    ∃ t, exec (.wakeAlarm) s = .next t ∧ Only [.regs, .dram, .grp, .dom, .pci, .ddr, .pwr, .out] s t ∧
      (t = ((s.modGrp fun g => { g with wakeAlarm := none, wakeVote := true }).wakeRun 2 [1, 2, 3]).revote 2) ∧
      t.grp = { s.grp with wakeAlarm := none, wakeVote := true }) ∧
  (∀ (s : State) (ch : Nat), ch < s.channels → s.chState ch = 2 → s.isReady ch = true → 
    ∃ t, exec (.channelReady ch) s = .next t ∧ Only [.regs, .dram, .grp, .srvAx, .lsr, .pci, .ddr, .out] s t ∧
      t.chState ch = 3 ∧
      RegsBut [R.SEQ_STAT ch] s t)

/-- (R33, R34, R210, R20, R48) START_VOTE at M_start - 125,000 ticks enters the own vote, READY exactly when every participant is
READY. START_VOTE_RECEIVED records the vote of a member for the armed layer. START_DECISION at M_start - 62,500 starts the
layer when no READY vote is missing, with S at 0 or at S_r, and otherwise puts the missing members into MISSING and does not
start it. LAYER_START at M_start after START runs S from its start value and the group is Running; after REFUSE the group is
Idle. -/
def Obligations.LayerStartTimeline : Prop :=
  (∀ (s : State), s.grpState = 1 → s.grp.voted = false → s.beforeStart 125000 = true → 
    ∃ t, exec (.startVote) s = .next t ∧ Only [.grp, .hoop, .port] s t ∧
      t.grp = { s.grp with voted := true, startVotes := (s.self, s.allReady) :: s.grp.startVotes }) ∧
  (∀ (s : State) (port : Nat) (pk : Packet), s.consumes port pk = true → s.groupOk pk 1 = true → 
    ∃ t, exec (.startVoteReceived port pk) s = .next t ∧ Only [.regs, .grp, .hoop, .port, .pci, .out] s t ∧
      (t.grp = { s.grp with startVotes := ((groupMsg pk.payload).member, bitAt (groupMsg pk.payload).flags 0) :: s.grp.startVotes.filter (fun v => decide (v.1 ≠ (groupMsg pk.payload).member)) })) ∧
  (∀ (s : State), s.grpState = 1 → s.grp.started = false → s.grp.refused = false → s.beforeStart 62500 = true → s.notReadyMask = 0 → 
    ∃ t, exec (.startDecision) s = .next t ∧ Only [.regs, .grp, .chan, .srvAx, .lsr, .pci, .cave, .out] s t ∧
      t.grp.started = true ∧
      (t.grp.s = (if s.grp.resume = 0 then 0 else s.yieldTime s.grp.resume)) ∧
      t.grp.p = 0 ∧
      t.grp.wakeVote = false) ∧
  (∀ (s : State), s.grpState = 1 → s.grp.started = false → s.grp.refused = false → s.beforeStart 62500 = true → s.notReadyMask ≠ 0 → s.notReadyMask < 65536 → 
    ∃ t, exec (.startDecision) s = .next t ∧ Only [.regs, .grp] s t ∧
      t.grp = { s.grp with wakeVote := false, refused := true } ∧
      t.fld R.SEQ_GRP_STAT F.SEQ_GRP_STAT_MISSING = s.notReadyMask ∧
      t.grpState = 1 ∧
      RegsBut [R.SEQ_GRP_STAT] s t) ∧
  (∀ (s : State), s.grpState = 1 → s.beforeStart 0 = true → s.grp.started = true → 
    ∃ t, exec (.layerStart) s = .next t ∧ Only [.regs, .dram, .grp, .chan, .srvAx, .lsr, .hoop, .port, .pci, .ddr, .cave, .xbar, .out] s t ∧
      t.grp.run = true ∧
      t.grp.s = s.grp.s ∧
      t.grp.origin = (s.grp.mstart : Int) - (ticksU s.grp.s : Nat) ∧
      (t.grp.nextYield = (if s.grp.resume = 0 then 0 else s.grp.resume + 1)) ∧
      t.grpState = 2) ∧
  (∀ (s : State), s.grpState = 1 → s.beforeStart 0 = true → s.grp.started = false → 
    ∃ t, exec (.layerStart) s = .next t ∧ Only [.regs, .dram, .grp, .chan, .srvAx, .lsr, .hoop, .port, .pci, .ddr, .cave, .xbar, .out] s t ∧
      t.grpState = 0 ∧
      t.fld R.SEQ_GRP_STAT F.SEQ_GRP_STAT_ARMSTAT = 5 ∧
      t.grp.run = s.grp.run ∧
      t.flag R.SEQ_GRP_ISR F.SEQ_GRP_ISR_REFUSE = true)

/-- (R36, R41, R210) YIELD_SEAL at S_g - 25,000 with no vote of another P enters the own vote with S_g, the request, its causes,
the abort flag and P. YIELD_SEAL against a vote with another P, and a vote received for another yield or with another P than
the own one, split the group: it is Aborted. YIELD_VOTE_RECEIVED before the deadline, Running or Holding, otherwise records
the vote of a member for the next undecided yield. YIELD_VOTE_DEADLINE at S_g - 12,500 closes the window. YIELD_DECISION at
S_g - 6,250 decides ABORT when GROUP_ABORT came, a vote carries the abort flag or a vote is missing, else HOLD when a vote
asks for it, else PASS, and goes on to the next yield. -/
def Obligations.YieldVoteAndDecision : Prop :=
  (∀ (s : State), s.beforeYield 25000 = true → s.grp.sealed = none → s.grp.votes = [] → 
    ∃ t, exec (.yieldSeal) s = .next t ∧ Only [.regs, .dram, .grp, .chan, .srvAx, .srvCh, .lsr, .hoop, .port, .pci, .ddr, .cave, .xbar, .out] s t ∧
      t.grp.sealed = some s.holdCausesNow ∧
      t.grp.lateHold = false ∧
      t.grp.votes = [(s.self, s.yieldTime s.grp.nextYield, (decide (s.holdCausesNow ≠ 0) || s.grp.lateHold), s.holdCausesNow, s.grp.abortFlag, s.grp.p)] ∧
      t.grpState = s.grpState) ∧
  (∀ (s : State) (port : Nat) (pk : Packet), s.consumes port pk = true → s.groupOk pk 2 = true → s.grp.run = true → (groupMsg pk.payload).g = s.grp.nextYield → s.grp.closed = false → s.grp.votes = [] → 
    ∃ t, exec (.yieldVoteReceived port pk) s = .next t ∧ Only [.regs, .dram, .grp, .chan, .srvAx, .srvCh, .lsr, .hoop, .port, .pci, .ddr, .cave, .xbar, .out] s t ∧
      t.grp = { s.grp with votes := [((groupMsg pk.payload).member, (groupMsg pk.payload).sg, bitAt (groupMsg pk.payload).flags 0, bits (groupMsg pk.payload).flags 1 3, bitAt (groupMsg pk.payload).flags 4, (groupMsg pk.payload).p)] }) ∧
  (∀ (s : State), s.beforeYield 25000 = true → s.grp.sealed = none → splitP ((s.self, s.yieldTime s.grp.nextYield, (decide (s.holdCausesNow ≠ 0) || s.grp.lateHold), s.holdCausesNow, s.grp.abortFlag, s.grp.p) :: s.grp.votes) s.self = 0 → 
    ∃ t, exec (.yieldSeal) s = .next t ∧ Only [.regs, .dram, .grp, .chan, .srvAx, .srvCh, .lsr, .hoop, .port, .pci, .ddr, .cave, .xbar, .out] s t ∧
      (t = ((s.modGrp fun g => { g with sealed := some s.holdCausesNow, lateHold := false, votes := (s.self, s.yieldTime s.grp.nextYield, (decide (s.holdCausesNow ≠ 0) || s.grp.lateHold), s.holdCausesNow, s.grp.abortFlag, s.grp.p) :: g.votes }).sendGroup 2 ((decide (s.holdCausesNow ≠ 0) || s.grp.lateHold).toNat + 2 * s.holdCausesNow + 16 * s.grp.abortFlag.toNat) s.grp.nextYield (s.yieldTime s.grp.nextYield) s.grp.p)) ∧
      t.grp = { s.grp with sealed := some s.holdCausesNow, lateHold := false, votes := (s.self, s.yieldTime s.grp.nextYield, (decide (s.holdCausesNow ≠ 0) || s.grp.lateHold), s.holdCausesNow, s.grp.abortFlag, s.grp.p) :: s.grp.votes }) ∧
  (∀ (s : State), s.beforeYield 25000 = true → s.grp.sealed = none → splitP ((s.self, s.yieldTime s.grp.nextYield, (decide (s.holdCausesNow ≠ 0) || s.grp.lateHold), s.holdCausesNow, s.grp.abortFlag, s.grp.p) :: s.grp.votes) s.self ≠ 0 → 
    ∃ t, exec (.yieldSeal) s = .next t ∧ Only [.regs, .dram, .grp, .chan, .srvAx, .srvCh, .lsr, .hoop, .port, .pci, .ddr, .cave, .xbar, .out] s t ∧
      (t = ((s.modGrp fun g => { g with sealed := some s.holdCausesNow, lateHold := false, votes := (s.self, s.yieldTime s.grp.nextYield, (decide (s.holdCausesNow ≠ 0) || s.grp.lateHold), s.holdCausesNow, s.grp.abortFlag, s.grp.p) :: g.votes }).sendGroup 2 ((decide (s.holdCausesNow ≠ 0) || s.grp.lateHold).toNat + 2 * s.holdCausesNow + 16 * s.grp.abortFlag.toNat) s.grp.nextYield (s.yieldTime s.grp.nextYield) s.grp.p).split (splitP ((s.self, s.yieldTime s.grp.nextYield, (decide (s.holdCausesNow ≠ 0) || s.grp.lateHold), s.holdCausesNow, s.grp.abortFlag, s.grp.p) :: s.grp.votes) s.self)) ∧
      t.grpState = 5 ∧
      t.grp.run = false) ∧
  (∀ (s : State) (port : Nat) (pk : Packet), s.consumes port pk = true → s.groupOk pk 2 = true → (s.grpState = 2 ∨ s.grpState = 3) → (groupMsg pk.payload).g = s.grp.nextYield → s.grp.closed = false → (splitP (((groupMsg pk.payload).member, (groupMsg pk.payload).sg, bitAt (groupMsg pk.payload).flags 0, bits (groupMsg pk.payload).flags 1 3, bitAt (groupMsg pk.payload).flags 4, (groupMsg pk.payload).p) :: s.grp.votes.filter fun w => decide (w.1 ≠ (groupMsg pk.payload).member)) s.self = 0) → 
    ∃ t, exec (.yieldVoteReceived port pk) s = .next t ∧ Only [.regs, .dram, .grp, .chan, .srvAx, .srvCh, .lsr, .hoop, .port, .pci, .ddr, .cave, .xbar, .out] s t ∧
      (t = (s.taken port pk).modGrp fun g => { g with votes := (((groupMsg pk.payload).member, (groupMsg pk.payload).sg, bitAt (groupMsg pk.payload).flags 0, bits (groupMsg pk.payload).flags 1 3, bitAt (groupMsg pk.payload).flags 4, (groupMsg pk.payload).p) :: s.grp.votes.filter fun w => decide (w.1 ≠ (groupMsg pk.payload).member)) }) ∧
      (t.grp = { s.grp with votes := (((groupMsg pk.payload).member, (groupMsg pk.payload).sg, bitAt (groupMsg pk.payload).flags 0, bits (groupMsg pk.payload).flags 1 3, bitAt (groupMsg pk.payload).flags 4, (groupMsg pk.payload).p) :: s.grp.votes.filter fun w => decide (w.1 ≠ (groupMsg pk.payload).member)) })) ∧
  (∀ (s : State) (port : Nat) (pk : Packet), s.consumes port pk = true → s.groupOk pk 2 = true → (s.grpState = 2 ∨ s.grpState = 3) → (groupMsg pk.payload).g ≠ s.grp.nextYield → 
    ∃ t, exec (.yieldVoteReceived port pk) s = .next t ∧ Only [.regs, .dram, .grp, .chan, .srvAx, .srvCh, .lsr, .hoop, .port, .pci, .ddr, .cave, .xbar, .out] s t ∧
      t = (s.taken port pk).split (2 ^ (groupMsg pk.payload).member) ∧
      t.grpState = 5 ∧
      t.grp.run = false) ∧
  (∀ (s : State) (port : Nat) (pk : Packet), s.consumes port pk = true → s.groupOk pk 2 = true → (s.grpState = 2 ∨ s.grpState = 3) → (groupMsg pk.payload).g = s.grp.nextYield → (splitP (((groupMsg pk.payload).member, (groupMsg pk.payload).sg, bitAt (groupMsg pk.payload).flags 0, bits (groupMsg pk.payload).flags 1 3, bitAt (groupMsg pk.payload).flags 4, (groupMsg pk.payload).p) :: s.grp.votes.filter fun w => decide (w.1 ≠ (groupMsg pk.payload).member)) s.self ≠ 0) → 
    ∃ t, exec (.yieldVoteReceived port pk) s = .next t ∧ Only [.regs, .dram, .grp, .chan, .srvAx, .srvCh, .lsr, .hoop, .port, .pci, .ddr, .cave, .xbar, .out] s t ∧
      (t = (s.taken port pk).split (splitP (((groupMsg pk.payload).member, (groupMsg pk.payload).sg, bitAt (groupMsg pk.payload).flags 0, bits (groupMsg pk.payload).flags 1 3, bitAt (groupMsg pk.payload).flags 4, (groupMsg pk.payload).p) :: s.grp.votes.filter fun w => decide (w.1 ≠ (groupMsg pk.payload).member)) s.self)) ∧
      t.grpState = 5 ∧
      t.grp.run = false) ∧
  (∀ (s : State), s.beforeYield 12500 = true → 
    ∃ t, exec (.yieldVoteDeadline) s = .next t ∧ Only [.grp] s t ∧
      t.grp = { s.grp with closed := true }) ∧
  (∀ (s : State), s.beforeYield 6250 = true → 
    ∃ t, exec (.yieldDecision) s = .next t ∧ Only [.regs, .grp] s t ∧
      (t.grp.decision = (if s.grp.groupAbort ∨ s.abortVotes ≠ 0 ∨ s.missingVotes (s.yieldTime s.grp.nextYield) ≠ 0 then 3 else if s.grp.votes.any (fun v => v.2.2.1) then 2 else 1)) ∧
      t.grp.nextYield = s.grp.nextYield + 1 ∧
      t.grp.sealed = none ∧
      t.grp.closed = false ∧
      t.grp.votes = [] ∧
      (t.grp.held = (s.grp.votes.filter (fun v => v.2.2.1)).map (fun v => (v.1, v.2.2.2.1))) ∧
      t.grp.ownHold = decide (s.holdCausesNow ≠ 0) ∧
      RegsBut [R.SEQ_GRP_STAT] s t)

/-- (R36, R37, R40, R42, R44, R125) At S = S_g of a decided yield: PASS before the last yield leaves S running and the group
Running; PASS at the last one, with no abort flag and every participant waiting there, makes the layer Complete with S
stopped; HOLD stops S, the group is Holding, with the voters for HOLD as its holders; ABORT stops S and the group is Aborted.
In every state the participants are first checked at the yield, then the decision is carried out. -/
def Obligations.YieldPointPassHoldAbort : Prop :=
  (∀ (s : State), s.grpState = 2 → s.grp.decision = 1 → s.grp.s = s.yieldTime (s.grp.nextYield - 1) → s.grp.nextYield - 1 + 1 < s.grp.n → 
    ∃ t, exec (.yieldPoint) s = .next t ∧ Only [.regs, .dram, .grp, .chan, .srvAx, .srvCh, .lsr, .hoop, .port, .pci, .ddr, .cave, .xbar, .out] s t ∧
      t.grp.decision = 0 ∧
      t.grp.votes = s.grp.votes ∧
      t.grp.run = s.grp.run ∧
      t.grpState = 2) ∧
  (∀ (s : State), s.grpState = 2 → s.grp.decision = 1 → s.grp.s = s.yieldTime (s.grp.nextYield - 1) → s.grp.nextYield - 1 + 1 = s.grp.n → s.grp.abortFlag = false → (∀ n ∈ s.participants, s.waitsAt n (s.grp.nextYield - 1) = true) → 
    ∃ t, exec (.yieldPoint) s = .next t ∧ Only [.regs, .dram, .grp, .chan, .srvAx, .srvCh, .lsr, .hoop, .port, .pci, .ddr, .cave, .xbar, .out] s t ∧
      t.grp.run = false ∧
      t.grpState = 4 ∧
      t.flag R.SEQ_GRP_ISR F.SEQ_GRP_ISR_COMPLETE = true) ∧
  (∀ (s : State), s.grpState = 2 → s.grp.decision = 2 → s.grp.s = s.yieldTime (s.grp.nextYield - 1) → s.grp.ownHold = false → 
    ∃ t, exec (.yieldPoint) s = .next t ∧ Only [.regs, .dram, .grp, .chan, .srvAx, .srvCh, .lsr, .hoop, .port, .pci, .ddr, .cave, .xbar, .out] s t ∧
      t.grp.run = false ∧
      t.grpState = 3 ∧
      t.grp.holdAt = s.time.mt ∧
      (t.grp.holders = s.grp.held.map (fun v => (v.1, 0, true))) ∧
      t.flag R.SEQ_GRP_ISR F.SEQ_GRP_ISR_HOLD = true) ∧
  (∀ (s : State), s.grpState = 2 → s.grp.decision = 3 → s.grp.s = s.yieldTime (s.grp.nextYield - 1) → 
    ∃ t, exec (.yieldPoint) s = .next t ∧ Only [.regs, .dram, .grp, .chan, .srvAx, .srvCh, .lsr, .hoop, .port, .pci, .ddr, .cave, .xbar, .out] s t ∧
      t.grp.run = false ∧
      t.grpState = 5 ∧
      t.grp.decision = 0 ∧
      t.flag R.SEQ_GRP_ISR F.SEQ_GRP_ISR_ABORT = true) ∧
  (∀ (s : State), s.grpState = 2 → s.grp.decision = 1 → s.grp.s = s.yieldTime (s.grp.nextYield - 1) → 
    ∃ t, exec (.yieldPoint) s = .next t ∧ Only [.regs, .dram, .grp, .chan, .srvAx, .srvCh, .lsr, .hoop, .port, .pci, .ddr, .cave, .xbar, .out] s t ∧
      (t = (s.each s.participants fun n u => u.reachYield (s.grp.nextYield - 1) n).passYield (s.grp.nextYield - 1))) ∧
  (∀ (s : State), s.grpState = 2 → s.grp.decision = 2 → s.grp.s = s.yieldTime (s.grp.nextYield - 1) → 
    ∃ t, exec (.yieldPoint) s = .next t ∧ Only [.regs, .dram, .grp, .chan, .srvAx, .srvCh, .lsr, .hoop, .port, .pci, .ddr, .cave, .xbar, .out] s t ∧
      (t = (s.each s.participants fun n u => u.reachYield (s.grp.nextYield - 1) n).beginHold)) ∧
  (∀ (s : State), s.grpState = 2 → s.grp.decision = 3 → s.grp.s = s.yieldTime (s.grp.nextYield - 1) → 
    ∃ t, exec (.yieldPoint) s = .next t ∧ Only [.regs, .dram, .grp, .chan, .srvAx, .srvCh, .lsr, .hoop, .port, .pci, .ddr, .cave, .xbar, .out] s t ∧
      (t = (s.each s.participants fun n u => u.reachYield (s.grp.nextYield - 1) n).abortLayer s.grp.abortCause 0 (s.grp.nextYield - 1) s.grp.abortMask) ∧
      t.grpState = 5)

/-- (R37, R38, R39, R40, R125) HOLD_CAUSE_CLEAR sends RELEASE when the last cause of a holding member is gone. HOLD_EVENT_REPEAT
after 12,500 ticks sends the latest event again with its stamp. HOLD_EVENT_RECEIVED enters the sender by the latest stamp
among the holders, and cancels a computed restart that lies 12,500 ticks or more after its stamp; RELEASE_EVENT_RECEIVED of
the last holder computes the restart, the first grid point at or after its stamp plus 25,000 ticks; a cause that stands
meanwhile rises anew. HOLD_RESTART at the restart runs S again, P grows by the hold length, the group is Running and LASTHOLD
names yield and causes; at the end yield the layer is Complete. -/
def Obligations.HoldEventsAndRestart : Prop :=
  (∀ (s : State) (stamp : Nat), s.grpState = 3 → s.grp.holders = [(s.self, stamp, true)] → s.holdCausesNow = 0 → 
    ∃ t, exec (.holdCauseClear) s = .next t ∧ Only [.grp, .lsr, .hoop, .port] s t ∧
      t.grp.holders = [(s.self, fineOfMt s.time.mt, false)] ∧
      t.grp.ownEvent = some (false, s.time.mt, s.time.mt, 0) ∧
      t.grp.run = s.grp.run ∧
      t.grpState = 3) ∧
  (∀ (s : State) (hold : Bool) (stamp last c : Nat), s.grpState = 3 → s.grp.ownEvent = some (hold, stamp, last, c) → last + ticksU 12500 ≤ s.time.mt → s.holdCausesNow = 0 → 
    ∃ t, exec (.holdEventRepeat) s = .next t ∧ Only [.grp, .hoop, .port] s t ∧
      t.grp = { s.grp with ownEvent := some (hold, stamp, s.time.mt, c) }) ∧
  (∀ (s : State) (port : Nat) (pk : Packet), s.consumes port pk = true → s.groupOk pk 3 = true → s.grpState = 3 → s.grp.restart = none → s.grp.holders = [] → s.holdCausesNow = 0 → 
    ∃ t, exec (.holdEventReceived port pk) s = .next t ∧ Only [.regs, .grp, .hoop, .port, .pci, .out] s t ∧
      t.grp.holders = [((groupMsg pk.payload).member, fineOfStamp (groupMsg pk.payload).stamp, true)] ∧
      t.grp.restart = none) ∧
  (∀ (s : State) (port : Nat) (pk : Packet), s.consumes port pk = true → s.groupOk pk 4 = true → s.grpState = 3 → s.grp.restart = none → s.grp.holders = [] → s.holdCausesNow = 0 → 
    ∃ t, exec (.releaseEventReceived port pk) s = .next t ∧ Only [.regs, .grp, .lsr, .hoop, .port, .pci, .out] s t ∧
      t.grp.holders = [((groupMsg pk.payload).member, fineOfStamp (groupMsg pk.payload).stamp, false)] ∧
      t.grp.restart = some (s.grp.origin + -((-((fineOfStamp (groupMsg pk.payload).stamp + 25000 * tickFine : Nat) - s.grp.origin * 1024 : Int)) / (tickFine : Int)) * (tickU : Nat)).toNat) ∧
  (∀ (s : State), s.grpState = 3 → ((s.grp.holders.any fun h => decide (h.1 = s.self) && h.2.2) = true) → s.holdCausesNow = 0 → 
    ∃ t, exec (.holdCauseClear) s = .next t ∧ Only [.grp, .lsr, .hoop, .port] s t ∧
      t = (s.sendHoldEvent false).computeRestart ∧
      t.grp.ownEvent = some (false, s.time.mt, s.time.mt, 0)) ∧
  (∀ (s : State) (hold : Bool) (stamp last c : Nat), s.grpState = 3 → s.grp.ownEvent = some (hold, stamp, last, c) → last + ticksU 12500 ≤ s.time.mt → 
    ∃ t, exec (.holdEventRepeat) s = .next t ∧ Only [.grp, .hoop, .port] s t ∧
      (t = ((if s.others = [] then s else s.broadcast 0x12 (s.groupPayload (if hold then 3 else 4) (2 * c) (s.grp.nextYield - 1) (s.yieldTime (s.grp.nextYield - 1)) (mtStamp stamp) 0)).modGrp fun g => { g with ownEvent := some (hold, stamp, s.time.mt, c) }).holdRise)) ∧
  (∀ (s : State) (port : Nat) (pk : Packet), s.consumes port pk = true → s.groupOk pk 3 = true → s.grpState = 3 → s.grp.restart = none → 
    ∃ t, exec (.holdEventReceived port pk) s = .next t ∧ Only [.regs, .grp, .hoop, .port, .pci, .out] s t ∧
      t = ((s.taken port pk).holderEvent (groupMsg pk.payload) true).holdRise) ∧
  (∀ (s : State) (port : Nat) (pk : Packet) (at_ : Nat), s.consumes port pk = true → s.groupOk pk 3 = true → s.grpState = 3 → s.grp.restart = some at_ → fineOfStamp (groupMsg pk.payload).stamp + 12500 * tickFine ≤ fineOfMt at_ → 
    ∃ t, exec (.holdEventReceived port pk) s = .next t ∧ Only [.regs, .grp, .hoop, .port, .pci, .out] s t ∧
      (t = ((s.taken port pk).holderEvent (groupMsg pk.payload) true).modGrp fun g => { g with restart := if g.holders.all (fun h => !h.2.2) then g.restart else none })) ∧
  (∀ (s : State) (port : Nat) (pk : Packet), s.consumes port pk = true → s.groupOk pk 4 = true → s.grpState = 3 → 
    ∃ t, exec (.releaseEventReceived port pk) s = .next t ∧ Only [.regs, .grp, .lsr, .hoop, .port, .pci, .out] s t ∧
      t = ((s.taken port pk).holderEvent (groupMsg pk.payload) false).holdRise.computeRestart) ∧
  (∀ (s : State) (at_ : Nat), s.grpState = 3 → s.grp.restart = some at_ → at_ ≤ s.time.mt → s.grp.nextYield - 1 + 1 < s.grp.n → 
    ∃ t, exec (.holdRestart) s = .next t ∧ Only [.regs, .dram, .grp, .chan, .srvAx, .srvCh, .lsr, .hoop, .port, .pci, .ddr, .cave, .xbar, .out] s t ∧
      t.grp.run = true ∧
      t.grp.p = s.grp.p + (s.time.mt - s.grp.holdAt) / tickU ∧
      t.grp.s = s.grp.s ∧
      t.grp.restart = none ∧
      t.grpState = 2 ∧
      t.fld R.SEQ_GRP_LASTHOLD F.SEQ_GRP_LASTHOLD_CAUSE = s.grp.holdCauses % 8 ∧
      t.flag R.SEQ_GRP_ISR F.SEQ_GRP_ISR_RESTART = true) ∧
  (∀ (s : State) (at_ : Nat), s.grpState = 3 → s.grp.restart = some at_ → at_ ≤ s.time.mt → s.grp.nextYield - 1 + 1 = s.grp.n → s.grp.abortFlag = false → 
    ∃ t, exec (.holdRestart) s = .next t ∧ Only [.regs, .dram, .grp, .chan, .srvAx, .srvCh, .lsr, .hoop, .port, .pci, .ddr, .cave, .xbar, .out] s t ∧
      t.grpState = 4 ∧
      t.grp.run = false ∧
      t.grp.p = s.grp.p + (s.time.mt - s.grp.holdAt) / tickU ∧
      t.flag R.SEQ_GRP_ISR F.SEQ_GRP_ISR_COMPLETE = true)

/-- (R43, R44, R45, R36) ABORT on a live layer stops S and leaves the group Aborted at once; on an armed layer it cancels it with
ARMSTAT CANCELLED and leaves it Aborted. GROUP_ABORT_RECEIVED aborts at once during a hold, marks a running layer for its next
decision without stopping S, and cancels an armed layer. -/
def Obligations.AbortsOfLayers : Prop :=
  (∀ (s : State), s.layerLive = true → 
    ∃ t, exec (.abort) s = .next t ∧ Only [.regs, .dram, .grp, .armUndo, .chan, .srvAx, .srvCh, .lsr, .hoop, .port, .pci, .ddr, .cave, .xbar, .out] s t ∧
      t.grpState = 5 ∧
      t.grp.run = false ∧
      t.grp.started = false ∧
      t.flag R.SEQ_GRP_ISR F.SEQ_GRP_ISR_ABORT = true) ∧
  (∀ (s : State), s.layerLive = false → s.grpState = 1 → 
    ∃ t, exec (.abort) s = .next t ∧ Only [.regs, .dram, .grp, .armUndo, .chan, .srvAx, .srvCh, .lsr, .hoop, .port, .pci, .ddr, .cave, .xbar, .out] s t ∧
      t.grpState = 5 ∧
      t.fld R.SEQ_GRP_STAT F.SEQ_GRP_STAT_ARMSTAT = 7 ∧
      t.grp.started = false ∧
      t.flag R.SEQ_GRP_ISR F.SEQ_GRP_ISR_ABORT = true) ∧
  (∀ (s : State), s.layerLive = true → 
    ∃ t, exec (.abort) s = .next t ∧ Only [.regs, .dram, .grp, .armUndo, .chan, .srvAx, .srvCh, .lsr, .hoop, .port, .pci, .ddr, .cave, .xbar, .out] s t ∧
      t = (s.sendAbort s.abortIndex).abortLayer 3 0 s.abortIndex (2 ^ s.self)) ∧
  (∀ (s : State), s.layerLive = false → s.grpState = 1 → 
    ∃ t, exec (.abort) s = .next t ∧ Only [.regs, .dram, .grp, .armUndo, .chan, .srvAx, .srvCh, .lsr, .hoop, .port, .pci, .ddr, .cave, .xbar, .out] s t ∧
      t = (s.sendAbort 0xFFFF).cancelArmed 3 s.self) ∧
  (∀ (s : State) (port : Nat) (pk : Packet), s.consumes port pk = true → s.groupOk pk 5 = true → s.grpState = 3 → 
    ∃ t, exec (.groupAbortReceived port pk) s = .next t ∧ Only [.regs, .dram, .grp, .armUndo, .chan, .srvAx, .srvCh, .lsr, .hoop, .port, .pci, .ddr, .cave, .xbar, .out] s t ∧
      t = (s.taken port pk).abortLayer 4 0 s.abortIndex (2 ^ (groupMsg pk.payload).member)) ∧
  (∀ (s : State) (port : Nat) (pk : Packet), s.consumes port pk = true → s.groupOk pk 5 = true → s.layerLive = true → s.grpState ≠ 3 → 
    ∃ t, exec (.groupAbortReceived port pk) s = .next t ∧ Only [.regs, .dram, .grp, .armUndo, .chan, .srvAx, .srvCh, .lsr, .hoop, .port, .pci, .ddr, .cave, .xbar, .out] s t ∧
      (t = (s.taken port pk).modGrp fun g => { g with groupAbort := true, abortMask := g.abortMask ||| 2 ^ (groupMsg pk.payload).member })) ∧
  (∀ (s : State) (port : Nat) (pk : Packet), s.consumes port pk = true → s.groupOk pk 5 = true → s.layerLive = false → 
    ∃ t, exec (.groupAbortReceived port pk) s = .next t ∧ Only [.regs, .dram, .grp, .armUndo, .chan, .srvAx, .srvCh, .lsr, .hoop, .port, .pci, .ddr, .cave, .xbar, .out] s t ∧
      t = (s.taken port pk).cancelArmed 4 (groupMsg pk.payload).member) ∧
  (∀ (s : State) (port : Nat) (pk : Packet), s.consumes port pk = true → s.groupOk pk 5 = true → s.grpState = 3 → 
    ∃ t, exec (.groupAbortReceived port pk) s = .next t ∧ Only [.regs, .dram, .grp, .armUndo, .chan, .srvAx, .srvCh, .lsr, .hoop, .port, .pci, .ddr, .cave, .xbar, .out] s t ∧
      t.grpState = 5 ∧
      t.grp.run = false ∧
      t.flag R.SEQ_GRP_ISR F.SEQ_GRP_ISR_ABORT = true) ∧
  (∀ (s : State) (port : Nat) (pk : Packet), s.consumes port pk = true → s.groupOk pk 5 = true → s.grpState = 2 → 
    ∃ t, exec (.groupAbortReceived port pk) s = .next t ∧ Only [.hoop, .port, .grp] s t ∧
      t.grp = { s.grp with groupAbort := true, abortMask := s.grp.abortMask ||| 2 ^ (groupMsg pk.payload).member } ∧
      t.grpState = 2 ∧
      RegsBut [] s t) ∧
  (∀ (s : State) (port : Nat) (pk : Packet), s.consumes port pk = true → s.groupOk pk 5 = true → s.grpState = 1 → s.grp.started = false → 
    ∃ t, exec (.groupAbortReceived port pk) s = .next t ∧ Only [.regs, .dram, .grp, .armUndo, .chan, .srvAx, .srvCh, .lsr, .hoop, .port, .pci, .ddr, .cave, .xbar, .out] s t ∧
      t.grpState = 5 ∧
      t.fld R.SEQ_GRP_STAT F.SEQ_GRP_STAT_ARMSTAT = 7)

/-- (R61, R69, R70, R71, R72, R73, R58) For each legal instruction that stands complete at the decoder, and is followed by another
word: NOP only goes on; WAIT sets C to TIME plus K[KN] when KT = 1; WAITR adds TICKS plus K[KN]; GYIELD sets C to S_g and
notes the yield; SYNC sets C to DEADLINE and queues the check of its event there. Each consumes exactly its words, and only
this channel changes. HALT, last word of the LAST curd directly after GYIELD N - 1, marks the end and HALTs a channel that
waits at that yield. UNDEFINED_OPCODE stops the decoder with a pending OPCODE fault at C. -/
def Obligations.CursorInstructions : Prop :=
  (∀ (s : State) (ch : Nat) (ws : List Nat), s.canDecode ch 0x00 ws = true → s.hasNext ch ws = true → 
    ∃ t, exec (.nop ch) s = .next t ∧ Only [.chan] s t ∧
      t.ch ch = ((s.ch ch).marked ws.length).past 1 ∧
      UnitsBut State.ch ch s t) ∧
  (∀ (s : State) (ch : Nat) (ws : List Nat), s.mayDecode ch 0x00 ws = true → 
    ∃ t, exec (.nop ch) s = .next t ∧ Only [.regs, .dram, .grp, .chan, .srvAx, .srvCh, .lsr, .hoop, .port, .pci, .ddr, .intg, .xbar, .out] s t ∧
      t = (s.opened ch ws.length).next ch 1) ∧
  (∀ (s : State) (ch : Nat) (ws : List Nat), s.mayDecode ch 0x02 ws = true → (((s.opened ch ws.length).ch ch).cursor : Int) ≤ (bits (wd ws 0) 0 48 : Int) + kTime ((s.opened ch ws.length).ch ch).dec.k (wd ws 0) → (bits (wd ws 0) 0 48 : Int) + kTime ((s.opened ch ws.length).ch ch).dec.k (wd ws 0) < (2 ^ 48 : Nat) → 
    ∃ t, exec (.wait ch) s = .next t ∧ Only [.regs, .dram, .grp, .chan, .srvAx, .srvCh, .lsr, .hoop, .port, .pci, .ddr, .intg, .xbar, .out] s t ∧
      (t = ((s.opened ch ws.length).modCh ch fun c => { c with cursor := ((bits (wd ws 0) 0 48 : Int) + kTime ((s.opened ch ws.length).ch ch).dec.k (wd ws 0)).toNat }).next ch 1)) ∧
  (∀ (s : State) (ch : Nat) (ws : List Nat), s.mayDecode ch 0x03 ws = true → 
    ∃ t, exec (.waitr ch) s = .next t ∧ Only [.regs, .dram, .grp, .chan, .srvAx, .srvCh, .lsr, .hoop, .port, .pci, .ddr, .intg, .xbar, .out] s t ∧
      (t = ((s.opened ch ws.length).modCh ch fun c => { c with cursor := ((s.opened ch ws.length).ch ch).cursor + ((bits (wd ws 0) 0 32 : Int) + kTime ((s.opened ch ws.length).ch ch).dec.k (wd ws 0)).toNat }).next ch 1)) ∧
  (∀ (s : State) (ch : Nat) (ws : List Nat), s.mayDecode ch 0x04 ws = true → bits (wd ws 0) 0 16 < (s.opened ch ws.length).grp.n → ((s.opened ch ws.length).ch ch).dec.loc.lib = false → (s.opened ch ws.length).rangePoisoned ((s.opened ch ws.length).yieldAddr (bits (wd ws 0) 0 16)) 8 = false → (s.opened ch ws.length).dramOk ((s.opened ch ws.length).yieldAddr (bits (wd ws 0) 0 16)) 8 = true → ((s.opened ch ws.length).ch ch).cursor ≤ (s.opened ch ws.length).yieldTime (bits (wd ws 0) 0 16) → ((s.opened ch ws.length).ch ch).lastAct ≤ (s.opened ch ws.length).yieldTime (bits (wd ws 0) 0 16) → (∀ x ∈ ((s.opened ch ws.length).ch ch).lastOn, x < (s.opened ch ws.length).yieldTime (bits (wd ws 0) 0 16)) → (∀ h ∈ ((s.opened ch ws.length).ch ch).hands, h.anchor + h.xf ≤ (s.opened ch ws.length).yieldTime (bits (wd ws 0) 0 16)) → ((s.opened ch ws.length).grp.run = true → (s.opened ch ws.length).grp.s ≤ (s.opened ch ws.length).yieldTime (bits (wd ws 0) 0 16)) → 
    ∃ t, exec (.gyield ch) s = .next t ∧ Only [.regs, .dram, .grp, .chan, .srvAx, .srvCh, .lsr, .hoop, .port, .pci, .ddr, .intg, .cave, .xbar, .out] s t ∧
      (t = (((s.opened ch ws.length).modCh ch fun c => { c with lastYield := some (bits (wd ws 0) 0 16, ((s.opened ch ws.length).yieldTime (bits (wd ws 0) 0 16))), yields := c.yields ++ [bits (wd ws 0) 0 16] }).modCh ch fun c => { c with cursor := ((s.opened ch ws.length).yieldTime (bits (wd ws 0) 0 16)) }).next ch 1)) ∧
  (∀ (s : State) (ch : Nat) (ws : List Nat), s.mayDecode ch 0x05 ws = true → ((s.opened ch ws.length).inLib ch) = false → ((s.opened ch ws.length).ch ch).cursor ≤ bits (wd ws 1) 0 48 → 
    ∃ t, exec (.sync ch) s = .next t ∧ Only [.regs, .dram, .grp, .chan, .srvAx, .srvCh, .lsr, .hoop, .port, .pci, .ddr, .intg, .xbar, .out] s t ∧
      (t = (((s.opened ch ws.length).modCh ch fun c => { c with syncs := c.syncs ++ [⟨bits (wd ws 0) 0 16, bits (wd ws 1) 0 48, ((s.opened ch ws.length).ch ch).dec.loc.word, ((s.opened ch ws.length).ch ch).seqno⟩] }).modCh ch fun c => { c with cursor := bits (wd ws 1) 0 48 }).next ch 2)) ∧
  (∀ (s : State) (ch : Nat) (ws : List Nat), s.canDecode ch 0x02 ws = true → s.hasNext ch ws = true → ((s.ch ch).cursor : Int) ≤ (bits (wd ws 0) 0 48 : Int) + kTime (s.ch ch).dec.k (wd ws 0) → (bits (wd ws 0) 0 48 : Int) + kTime (s.ch ch).dec.k (wd ws 0) < (2 ^ 48 : Nat) → 
    ∃ t, exec (.wait ch) s = .next t ∧ Only [.chan] s t ∧
      t.ch ch = { ((s.ch ch).marked ws.length).past 1 with cursor := ((bits (wd ws 0) 0 48 : Int) + kTime ((s.ch ch).marked ws.length).dec.k (wd ws 0)).toNat } ∧
      UnitsBut State.ch ch s t) ∧
  (∀ (s : State) (ch : Nat) (ws : List Nat), s.canDecode ch 0x03 ws = true → s.hasNext ch ws = true → 
    ∃ t, exec (.waitr ch) s = .next t ∧ Only [.chan] s t ∧
      t.ch ch = { ((s.ch ch).marked ws.length).past 1 with cursor := ((s.ch ch).marked ws.length).cursor + ((bits (wd ws 0) 0 32 : Int) + kTime ((s.ch ch).marked ws.length).dec.k (wd ws 0)).toNat } ∧
      UnitsBut State.ch ch s t) ∧
  (∀ (s : State) (ch : Nat) (ws : List Nat), s.canDecode ch 0x04 ws = true → s.hasNext ch ws = true → bits (wd ws 0) 0 16 < s.grp.n → s.inLib ch = false → s.rangePoisoned (s.yieldAddr (bits (wd ws 0) 0 16)) 8 = false → s.dramOk (s.yieldAddr (bits (wd ws 0) 0 16)) 8 = true → s.grp.run = false → (s.ch ch).cursor ≤ s.yieldTime (bits (wd ws 0) 0 16) → (s.ch ch).lastAct ≤ s.yieldTime (bits (wd ws 0) 0 16) → (s.ch ch).lastOn = none → (s.ch ch).hands = [] → 
    ∃ t, exec (.gyield ch) s = .next t ∧ Only [.chan] s t ∧
      t.ch ch = { ((s.ch ch).marked ws.length).past 1 with cursor := s.yieldTime (bits (wd ws 0) 0 16), lastYield := some (bits (wd ws 0) 0 16, s.yieldTime (bits (wd ws 0) 0 16)), yields := (s.ch ch).yields ++ [bits (wd ws 0) 0 16] } ∧
      UnitsBut State.ch ch s t) ∧
  (∀ (s : State) (ch : Nat) (ws : List Nat), s.canDecode ch 0x05 ws = true → s.hasNext ch ws = true → s.inLib ch = false → (s.ch ch).cursor ≤ bits (wd ws 1) 0 48 → 
    ∃ t, exec (.sync ch) s = .next t ∧ Only [.chan] s t ∧
      t.ch ch = { ((s.ch ch).marked ws.length).past 2 with cursor := bits (wd ws 1) 0 48, syncs := ((s.ch ch).marked ws.length).syncs ++ [⟨bits (wd ws 0) 0 16, bits (wd ws 1) 0 48, ((s.ch ch).marked ws.length).dec.loc.word, ((s.ch ch).marked ws.length).seqno⟩] } ∧
      UnitsBut State.ch ch s t) ∧
  (∀ (s : State) (ch : Nat) (ws : List Nat) (d : Curd), s.canRead ch 0x01 ws = true → ws = [0x01 * 2 ^ 56] → s.afterLastYield ch = true → (s.ch ch).handBlock = [] → (s.ch ch).curds = [d] → d.last = true → (s.ch ch).dec.loc = ⟨false, d.words - 1⟩ → 0 < d.words → (s.ch ch).dec.loops = [] → s.chState ch = 5 → (s.ch ch).yields.head? = some (s.grp.n - 1) → 
    ∃ t, exec (.halt ch) s = .next t ∧ Only [.regs, .dram, .grp, .chan, .srvAx, .srvCh, .lsr, .hoop, .port, .pci, .ddr, .intg, .xbar, .out] s t ∧
      (t.ch ch).haltDecoded = true ∧
      (t.ch ch).curds = [] ∧
      t.chState ch = 6) ∧
  (∀ (s : State) (ch w0 : Nat), s.canRead ch (opOf w0) [w0] = true → opRow (opOf w0) = none → s.afterLastYield ch = false → s.grp.run = false → 
    ∃ t, exec (.undefinedOpcode ch) s = .next t ∧ Only [.chan] s t ∧
      t.ch ch = { (s.ch ch).marked 1 with decStopped := true, pending := some ⟨1, (s.ch ch).cursor, (s.ch ch).dec.loc.word, (s.ch ch).dec.loc.lib, (s.ch ch).seqno⟩ } ∧
      UnitsBut State.ch ch s t) ∧
  (∀ (s : State) (ch : Nat) (ws : List Nat) (d : Curd), s.mayRead ch 0x01 ws = true → ws = [0x01 * 2 ^ 56] → s.afterLastYield ch = true → ((s.opened ch ws.length).ch ch).handBlock = [] → ((s.opened ch ws.length).ch ch).curds = [d] → d.last = true → ((s.opened ch ws.length).ch ch).dec.loc = ⟨false, d.words - 1⟩ → 0 < d.words → ((s.opened ch ws.length).ch ch).dec.loops = [] → s.chState ch = 5 ∧ (s.ch ch).yields.head? = some (s.grp.n - 1) → 
    ∃ t, exec (.halt ch) s = .next t ∧ Only [.regs, .dram, .grp, .chan, .srvAx, .srvCh, .lsr, .hoop, .port, .pci, .ddr, .intg, .xbar, .out] s t ∧
      (t.ch ch).haltDecoded = true ∧
      (t.ch ch).curds = [] ∧
      t.chState ch = 6) ∧
  (∀ (s : State) (ch : Nat) (ws : List Nat) (d : Curd), s.mayRead ch 0x01 ws = true → ws = [0x01 * 2 ^ 56] → s.afterLastYield ch = true → ((s.opened ch ws.length).ch ch).handBlock = [] → ((s.opened ch ws.length).ch ch).curds = [d] → d.last = true → ((s.opened ch ws.length).ch ch).dec.loc = ⟨false, d.words - 1⟩ → 0 < d.words → ((s.opened ch ws.length).ch ch).dec.loops = [] → ¬(s.chState ch = 5 ∧ (s.ch ch).yields.head? = some (s.grp.n - 1)) → 
    ∃ t, exec (.halt ch) s = .next t ∧ Only [.regs, .dram, .grp, .chan, .srvAx, .srvCh, .lsr, .hoop, .port, .pci, .ddr, .intg, .xbar, .out] s t ∧
      (t.ch ch).haltDecoded = true ∧
      (t.ch ch).curds = [] ∧
      t.chState ch = s.chState ch) ∧
  (∀ (s : State) (ch w0 : Nat), s.mayRead ch (opOf w0) [w0] = true → opRow (opOf w0) = none → (s.opened ch 1).afterLastYield ch = false → 
    ∃ t, exec (.undefinedOpcode ch) s = .next t ∧ Only [.regs, .dram, .grp, .chan, .srvAx, .srvCh, .lsr, .hoop, .port, .pci, .ddr, .intg, .xbar, .out] s t ∧
      t = (s.opened ch 1).decodeFault ch 0x01)

/-- (R60, R76, R77, R78, R107) CALL into a loaded library pushes the word after it and goes on at the target; RET pops it; REP
opens a loop of COUNT (or K[KN]) iterations starting at the next word; ENDR goes back while iterations are left and otherwise
closes the loop and goes on; LDK and ADDK write one K register with wrapping 32-bit arithmetic. Only this channel changes. -/
def Obligations.CallsLoopsAndRegisters : Prop :=
  (∀ (s : State) (ch : Nat) (ws : List Nat), s.canDecode ch 0x08 ws = true → (s.ch ch).handBlock = [] → s.flag (R.SEQ_LIB_STAT ch) F.SEQ_LIB_STAT_VALID = true → bits (wd ws 0) 0 24 < (s.ch ch).libWords → (s.ch ch).dec.calls.length < 8 → 
    ∃ t, exec (.call ch) s = .next t ∧ Only [.chan] s t ∧
      t.ch ch = { (((s.ch ch).marked ws.length).dropFront 1) with dec := { ((s.ch ch).marked ws.length).dec with loc := ⟨true, bits (wd ws 0) 0 24⟩, calls := { ((s.ch ch).marked ws.length).dec.loc with word := ((s.ch ch).marked ws.length).dec.loc.word + 1 } :: ((s.ch ch).marked ws.length).dec.calls } } ∧
      UnitsBut State.ch ch s t) ∧
  (∀ (s : State) (ch : Nat) (ws : List Nat) (l : Loc) (ls : List Loc), s.canDecode ch 0x09 ws = true → (s.ch ch).handBlock = [] → (s.ch ch).dec.calls = l :: ls → (s.ch ch).dec.loops = [] → l.word < (s.ch ch).endOf l.lib → 
    ∃ t, exec (.ret ch) s = .next t ∧ Only [.chan] s t ∧
      t.ch ch = { (((s.ch ch).marked ws.length).dropFront 1) with dec := { ((s.ch ch).marked ws.length).dec with loc := l, calls := ls } } ∧
      UnitsBut State.ch ch s t) ∧
  (∀ (s : State) (ch : Nat) (ws : List Nat), s.canDecode ch 0x0A ws = true → s.hasNext ch ws = true → (s.ch ch).dec.loops.length < 4 → 
    ∃ t, exec (.rep ch) s = .next t ∧ Only [.chan] s t ∧
      t.ch ch = { (((s.ch ch).marked ws.length).past 1) with dec := { (((s.ch ch).marked ws.length).past 1).dec with loops := ⟨{ ((s.ch ch).marked ws.length).dec.loc with word := ((s.ch ch).marked ws.length).dec.loc.word + 1 }, repCount ((s.ch ch).marked ws.length).dec.k (wd ws 0), ((s.ch ch).marked ws.length).dec.calls.length⟩ :: ((s.ch ch).marked ws.length).dec.loops } } ∧
      UnitsBut State.ch ch s t) ∧
  (∀ (s : State) (ch : Nat) (ws : List Nat) (p : Loop) (ps : List Loop), s.canDecode ch 0x0B ws = true → (s.ch ch).handBlock = [] → (s.ch ch).dec.loops = p :: ps → p.start.lib = (s.ch ch).dec.loc.lib → p.depth = (s.ch ch).dec.calls.length → (s.ch ch).dec.loc.word ≤ p.start.word + 1024 → 1 < p.left → p.start.word < (s.ch ch).endOf p.start.lib → 
    ∃ t, exec (.endr ch) s = .next t ∧ Only [.chan] s t ∧
      t.ch ch = { (((s.ch ch).marked ws.length).dropFront 1) with dec := { ((s.ch ch).marked ws.length).dec with loc := p.start, loops := { p with left := p.left - 1 } :: ps } } ∧
      UnitsBut State.ch ch s t) ∧
  (∀ (s : State) (ch : Nat) (ws : List Nat) (p : Loop) (ps : List Loop), s.canDecode ch 0x0B ws = true → s.hasNext ch ws = true → (s.ch ch).dec.loops = p :: ps → p.start.lib = (s.ch ch).dec.loc.lib → p.depth = (s.ch ch).dec.calls.length → (s.ch ch).dec.loc.word ≤ p.start.word + 1024 → p.left ≤ 1 → 
    ∃ t, exec (.endr ch) s = .next t ∧ Only [.chan] s t ∧
      t.ch ch = { (((s.ch ch).marked ws.length).past 1) with dec := { (((s.ch ch).marked ws.length).past 1).dec with loops := ps } } ∧
      UnitsBut State.ch ch s t) ∧
  (∀ (s : State) (ch : Nat) (ws : List Nat), s.canDecode ch 0x0C ws = true → s.hasNext ch ws = true → 
    ∃ t, exec (.ldk ch) s = .next t ∧ Only [.chan] s t ∧
      t.ch ch = { (((s.ch ch).marked ws.length).past 1) with dec := { (((s.ch ch).marked ws.length).past 1).dec with k := setNth ((s.ch ch).marked ws.length).dec.k (bits (wd ws 0) 49 4) (bits (wd ws 0) 0 32) } } ∧
      UnitsBut State.ch ch s t) ∧
  (∀ (s : State) (ch : Nat) (ws : List Nat), s.canDecode ch 0x0D ws = true → s.hasNext ch ws = true → 
    ∃ t, exec (.addk ch) s = .next t ∧ Only [.chan] s t ∧
      (t.ch ch = { (((s.ch ch).marked ws.length).past 1) with dec := { (((s.ch ch).marked ws.length).past 1).dec with k := setNth ((s.ch ch).marked ws.length).dec.k (bits (wd ws 0) 49 4) ((kReg ((s.ch ch).marked ws.length).dec.k (bits (wd ws 0) 49 4) + bits (wd ws 0) 0 32 + if bitAt (wd ws 0) 53 then kReg ((s.ch ch).marked ws.length).dec.k (bits (wd ws 0) 45 4) else 0) % 2 ^ 32) } }) ∧
      UnitsBut State.ch ch s t) ∧
  (∀ (s : State) (ch : Nat) (ws : List Nat), s.mayDecode ch 0x08 ws = true → (s.opened ch ws.length).flag (R.SEQ_LIB_STAT ch) F.SEQ_LIB_STAT_VALID = true → bits (wd ws 0) 0 24 < ((s.opened ch ws.length).ch ch).libWords → ((s.opened ch ws.length).ch ch).dec.calls.length < 8 → 
    ∃ t, exec (.call ch) s = .next t ∧ Only [.regs, .dram, .grp, .chan, .srvAx, .srvCh, .lsr, .hoop, .port, .pci, .ddr, .intg, .xbar, .out] s t ∧
      (t = ((s.opened ch ws.length).modCh ch fun c => { c with dec := { c.dec with calls := { ((s.opened ch ws.length).ch ch).dec.loc with word := ((s.opened ch ws.length).ch ch).dec.loc.word + 1 } :: c.dec.calls } }).jumpTo ch ⟨true, bits (wd ws 0) 0 24⟩)) ∧
  (∀ (s : State) (ch : Nat) (ws : List Nat) (l : Loc) (ls : List Loc), s.mayDecode ch 0x09 ws = true → ((s.opened ch ws.length).ch ch).dec.calls = l :: ls → (∀ p ∈ ((s.opened ch ws.length).ch ch).dec.loops, p.depth ≠ ((s.opened ch ws.length).ch ch).dec.calls.length) → 
    ∃ t, exec (.ret ch) s = .next t ∧ Only [.regs, .dram, .grp, .chan, .srvAx, .srvCh, .lsr, .hoop, .port, .pci, .ddr, .intg, .xbar, .out] s t ∧
      (t = ((s.opened ch ws.length).modCh ch fun c => { c with dec := { c.dec with calls := ls } }).jumpTo ch l)) ∧
  (∀ (s : State) (ch : Nat) (ws : List Nat), s.mayDecode ch 0x0A ws = true → ((s.opened ch ws.length).ch ch).dec.loops.length < 4 → 
    ∃ t, exec (.rep ch) s = .next t ∧ Only [.regs, .dram, .grp, .chan, .srvAx, .srvCh, .lsr, .hoop, .port, .pci, .ddr, .intg, .xbar, .out] s t ∧
      (t = ((s.opened ch ws.length).modCh ch fun c => { c with dec := { c.dec with loops := ⟨{ ((s.opened ch ws.length).ch ch).dec.loc with word := ((s.opened ch ws.length).ch ch).dec.loc.word + 1 }, repCount ((s.opened ch ws.length).ch ch).dec.k (wd ws 0), ((s.opened ch ws.length).ch ch).dec.calls.length⟩ :: c.dec.loops } }).next ch 1)) ∧
  (∀ (s : State) (ch : Nat) (ws : List Nat) (p : Loop) (ps : List Loop), s.mayDecode ch 0x0B ws = true → ((s.opened ch ws.length).ch ch).dec.loops = p :: ps → p.start.lib = ((s.opened ch ws.length).ch ch).dec.loc.lib → p.depth = ((s.opened ch ws.length).ch ch).dec.calls.length → ((s.opened ch ws.length).ch ch).dec.loc.word ≤ p.start.word + 1024 → 1 < p.left → 
    ∃ t, exec (.endr ch) s = .next t ∧ Only [.regs, .dram, .grp, .chan, .srvAx, .srvCh, .lsr, .hoop, .port, .pci, .ddr, .intg, .xbar, .out] s t ∧
      (t = ((s.opened ch ws.length).modCh ch fun c => { c with dec := { c.dec with loops := { p with left := p.left - 1 } :: ps } }).jumpTo ch p.start)) ∧
  (∀ (s : State) (ch : Nat) (ws : List Nat) (p : Loop) (ps : List Loop), s.mayDecode ch 0x0B ws = true → ((s.opened ch ws.length).ch ch).dec.loops = p :: ps → p.start.lib = ((s.opened ch ws.length).ch ch).dec.loc.lib → p.depth = ((s.opened ch ws.length).ch ch).dec.calls.length → ((s.opened ch ws.length).ch ch).dec.loc.word ≤ p.start.word + 1024 → p.left ≤ 1 → 
    ∃ t, exec (.endr ch) s = .next t ∧ Only [.regs, .dram, .grp, .chan, .srvAx, .srvCh, .lsr, .hoop, .port, .pci, .ddr, .intg, .xbar, .out] s t ∧
      (t = ((s.opened ch ws.length).modCh ch fun c => { c with dec := { c.dec with loops := ps } }).next ch 1)) ∧
  (∀ (s : State) (ch : Nat) (ws : List Nat), s.mayDecode ch 0x0C ws = true → 
    ∃ t, exec (.ldk ch) s = .next t ∧ Only [.regs, .dram, .grp, .chan, .srvAx, .srvCh, .lsr, .hoop, .port, .pci, .ddr, .intg, .xbar, .out] s t ∧
      (t = ((s.opened ch ws.length).modCh ch fun c => { c with dec := { c.dec with k := setNth c.dec.k (bits (wd ws 0) 49 4) (bits (wd ws 0) 0 32) } }).next ch 1)) ∧
  (∀ (s : State) (ch : Nat) (ws : List Nat), s.mayDecode ch 0x0D ws = true → 
    ∃ t, exec (.addk ch) s = .next t ∧ Only [.regs, .dram, .grp, .chan, .srvAx, .srvCh, .lsr, .hoop, .port, .pci, .ddr, .intg, .xbar, .out] s t ∧
      (t = ((s.opened ch ws.length).modCh ch fun c => { c with dec := { c.dec with k := setNth c.dec.k (bits (wd ws 0) 49 4) (addkValue ((s.opened ch ws.length).ch ch).dec.k (wd ws 0)) } }).next ch 1))

/-- (R61, R80, R81, R82, R83, R84, R85) Each motion instruction queues one segment [C, C + D) from the end of the last one, with
the end position and end velocity that the instruction gives, sets C to C + D and goes on past its words. The end velocity is
that of constant speed for LINE and linear FOCUS, the carried one for CUBIC, and zero for JUMP, DWELL and quintic FOCUS. Only
this channel changes. -/
def Obligations.MotionSegments : Prop :=
  (∀ (s : State) (ch : Nat) (ws : List Nat), s.canDecode ch 0x11 ws = true → s.hasNext ch ws = true → 
    ∃ t, exec (.line ch) s = .next t ∧ Only [.chan] s t ∧
      t.ch ch = { ((s.ch ch).marked ws.length).past 2 with segs := ((s.ch ch).marked ws.length).segs ++ [⟨.line, ((s.ch ch).marked ws.length).cursor, bits (wd ws 1) 8 32, ((s.ch ch).marked ws.length).endPos, ⟨256 * endX ws, 256 * endY ws, 256 * endZ ws⟩, ((s.ch ch).marked ws.length).endVel, ((s.ch ch).marked ws.length).endVelDen, V3.zero, 0⟩], cursor := ((s.ch ch).marked ws.length).cursor + bits (wd ws 1) 8 32, endPos := ⟨256 * endX ws, 256 * endY ws, 256 * endZ ws⟩, endVel := (lineVel ((s.ch ch).marked ws.length).endPos ⟨256 * endX ws, 256 * endY ws, 256 * endZ ws⟩), endVelDen := bits (wd ws 1) 8 32 } ∧
      UnitsBut State.ch ch s t) ∧
  (∀ (s : State) (ch : Nat) (ws : List Nat), s.canDecode ch 0x10 ws = true → s.hasNext ch ws = true → (s.ch ch).edgeIn (s.ch ch).cursor ((s.ch ch).cursor + bits (wd ws 1) 8 32) = false → 
    ∃ t, exec (.jump ch) s = .next t ∧ Only [.chan] s t ∧
      t.ch ch = { ((s.ch ch).marked ws.length).past 2 with segs := ((s.ch ch).marked ws.length).segs ++ [⟨.jump, ((s.ch ch).marked ws.length).cursor, bits (wd ws 1) 8 32, ((s.ch ch).marked ws.length).endPos, ⟨256 * endX ws, 256 * endY ws, 256 * endZ ws⟩, ((s.ch ch).marked ws.length).endVel, ((s.ch ch).marked ws.length).endVelDen, V3.zero, bits (wd ws 0) 48 1⟩], cursor := ((s.ch ch).marked ws.length).cursor + bits (wd ws 1) 8 32, endPos := ⟨256 * endX ws, 256 * endY ws, 256 * endZ ws⟩, endVel := V3.zero, endVelDen := 1 } ∧
      UnitsBut State.ch ch s t) ∧
  (∀ (s : State) (ch : Nat) (ws : List Nat), s.canDecode ch 0x12 ws = true → s.hasNext ch ws = true → 
    ∃ t, exec (.cubic ch) s = .next t ∧ Only [.chan] s t ∧
      t.ch ch = { ((s.ch ch).marked ws.length).past 4 with segs := ((s.ch ch).marked ws.length).segs ++ [⟨.cubic, ((s.ch ch).marked ws.length).cursor, bits (wd ws 1) 8 32, ((s.ch ch).marked ws.length).endPos, ⟨256 * endX ws, 256 * endY ws, 256 * endZ ws⟩, ((s.ch ch).marked ws.length).endVel, ((s.ch ch).marked ws.length).endVelDen, ⟨signed 24 (bits (wd ws 2) 40 24), signed 24 (bits (wd ws 2) 16 24), signed 24 (bits (wd ws 3) 40 24)⟩, 0⟩], cursor := ((s.ch ch).marked ws.length).cursor + bits (wd ws 1) 8 32, endPos := ⟨256 * endX ws, 256 * endY ws, 256 * endZ ws⟩, endVel := ⟨signed 24 (bits (wd ws 2) 40 24), signed 24 (bits (wd ws 2) 16 24), signed 24 (bits (wd ws 3) 40 24)⟩, endVelDen := 1 } ∧
      UnitsBut State.ch ch s t) ∧
  (∀ (s : State) (ch : Nat) (ws : List Nat), s.canDecode ch 0x13 ws = true → s.hasNext ch ws = true → 
    ∃ t, exec (.dwell ch) s = .next t ∧ Only [.chan] s t ∧
      t.ch ch = { ((s.ch ch).marked ws.length).past 1 with segs := ((s.ch ch).marked ws.length).segs ++ [⟨.dwell, ((s.ch ch).marked ws.length).cursor, (dwellDur ((s.ch ch).marked ws.length).dec.k (wd ws 0)).toNat, ((s.ch ch).marked ws.length).endPos, ((s.ch ch).marked ws.length).endPos, ((s.ch ch).marked ws.length).endVel, ((s.ch ch).marked ws.length).endVelDen, V3.zero, 0⟩], cursor := ((s.ch ch).marked ws.length).cursor + (dwellDur ((s.ch ch).marked ws.length).dec.k (wd ws 0)).toNat, endPos := ((s.ch ch).marked ws.length).endPos, endVel := V3.zero, endVelDen := 1 } ∧
      UnitsBut State.ch ch s t) ∧
  (∀ (s : State) (ch : Nat) (ws : List Nat), s.canDecode ch 0x14 ws = true → s.hasNext ch ws = true → 
    ∃ t, exec (.focus ch) s = .next t ∧ Only [.chan] s t ∧
      (t.ch ch = { ((s.ch ch).marked ws.length).past 1 with segs := ((s.ch ch).marked ws.length).segs ++ [⟨.focus, ((s.ch ch).marked ws.length).cursor, bits (wd ws 0) 0 24, ((s.ch ch).marked ws.length).endPos, { ((s.ch ch).marked ws.length).endPos with z := 256 * signed 24 (bits (wd ws 0) 24 24) }, ((s.ch ch).marked ws.length).endVel, ((s.ch ch).marked ws.length).endVelDen, V3.zero, bits (wd ws 0) 48 1⟩], cursor := ((s.ch ch).marked ws.length).cursor + bits (wd ws 0) 0 24, endPos := { ((s.ch ch).marked ws.length).endPos with z := 256 * signed 24 (bits (wd ws 0) 24 24) }, endVel := (if bits (wd ws 0) 48 1 = 0 then lineVel ((s.ch ch).marked ws.length).endPos { ((s.ch ch).marked ws.length).endPos with z := 256 * signed 24 (bits (wd ws 0) 24 24) } else V3.zero), endVelDen := (if bits (wd ws 0) 48 1 = 0 then bits (wd ws 0) 0 24 else 1) }) ∧
      UnitsBut State.ch ch s t) ∧
  (∀ (s : State) (ch : Nat) (ws : List Nat), s.mayDecode ch 0x11 ws = true → 
    ∃ t, exec (.line ch) s = .next t ∧ Only [.regs, .dram, .grp, .chan, .srvAx, .srvCh, .lsr, .hoop, .port, .pci, .ddr, .intg, .xbar, .out] s t ∧
      (t = ((s.opened ch ws.length).modCh ch fun c => { c with segs := c.segs ++ [⟨.line, c.cursor, bits (wd ws 1) 8 32, c.endPos, ⟨256 * endX ws, 256 * endY ws, 256 * endZ ws⟩, c.endVel, c.endVelDen, V3.zero, 0⟩], cursor := c.cursor + bits (wd ws 1) 8 32, endPos := ⟨256 * endX ws, 256 * endY ws, 256 * endZ ws⟩, endVel := (lineVel ((s.opened ch ws.length).ch ch).endPos ⟨256 * endX ws, 256 * endY ws, 256 * endZ ws⟩), endVelDen := bits (wd ws 1) 8 32 }).next ch 2)) ∧
  (∀ (s : State) (ch : Nat) (ws : List Nat), s.mayDecode ch 0x10 ws = true → ((s.opened ch ws.length).ch ch).edgeIn ((s.opened ch ws.length).ch ch).cursor (((s.opened ch ws.length).ch ch).cursor + bits (wd ws 1) 8 32) = false → 
    ∃ t, exec (.jump ch) s = .next t ∧ Only [.regs, .dram, .grp, .chan, .srvAx, .srvCh, .lsr, .hoop, .port, .pci, .ddr, .intg, .xbar, .out] s t ∧
      (t = ((s.opened ch ws.length).modCh ch fun c => { c with segs := c.segs ++ [⟨.jump, c.cursor, bits (wd ws 1) 8 32, c.endPos, ⟨256 * endX ws, 256 * endY ws, 256 * endZ ws⟩, c.endVel, c.endVelDen, V3.zero, bits (wd ws 0) 48 1⟩], cursor := c.cursor + bits (wd ws 1) 8 32, endPos := ⟨256 * endX ws, 256 * endY ws, 256 * endZ ws⟩, endVel := V3.zero, endVelDen := 1 }).next ch 2)) ∧
  (∀ (s : State) (ch : Nat) (ws : List Nat), s.mayDecode ch 0x12 ws = true → 
    ∃ t, exec (.cubic ch) s = .next t ∧ Only [.regs, .dram, .grp, .chan, .srvAx, .srvCh, .lsr, .hoop, .port, .pci, .ddr, .intg, .xbar, .out] s t ∧
      (t = ((s.opened ch ws.length).modCh ch fun c => { c with segs := c.segs ++ [⟨.cubic, c.cursor, bits (wd ws 1) 8 32, c.endPos, ⟨256 * endX ws, 256 * endY ws, 256 * endZ ws⟩, c.endVel, c.endVelDen, ⟨signed 24 (bits (wd ws 2) 40 24), signed 24 (bits (wd ws 2) 16 24), signed 24 (bits (wd ws 3) 40 24)⟩, 0⟩], cursor := c.cursor + bits (wd ws 1) 8 32, endPos := ⟨256 * endX ws, 256 * endY ws, 256 * endZ ws⟩, endVel := ⟨signed 24 (bits (wd ws 2) 40 24), signed 24 (bits (wd ws 2) 16 24), signed 24 (bits (wd ws 3) 40 24)⟩, endVelDen := 1 }).next ch 4)) ∧
  (∀ (s : State) (ch : Nat) (ws : List Nat), s.mayDecode ch 0x13 ws = true → 
    ∃ t, exec (.dwell ch) s = .next t ∧ Only [.regs, .dram, .grp, .chan, .srvAx, .srvCh, .lsr, .hoop, .port, .pci, .ddr, .intg, .xbar, .out] s t ∧
      (t = ((s.opened ch ws.length).modCh ch fun c => { c with segs := c.segs ++ [⟨.dwell, c.cursor, (dwellDur ((s.opened ch ws.length).ch ch).dec.k (wd ws 0)).toNat, c.endPos, ((s.opened ch ws.length).ch ch).endPos, c.endVel, c.endVelDen, V3.zero, 0⟩], cursor := c.cursor + (dwellDur ((s.opened ch ws.length).ch ch).dec.k (wd ws 0)).toNat, endPos := ((s.opened ch ws.length).ch ch).endPos, endVel := V3.zero, endVelDen := 1 }).next ch 1)) ∧
  (∀ (s : State) (ch : Nat) (ws : List Nat), s.mayDecode ch 0x14 ws = true → 
    ∃ t, exec (.focus ch) s = .next t ∧ Only [.regs, .dram, .grp, .chan, .srvAx, .srvCh, .lsr, .hoop, .port, .pci, .ddr, .intg, .xbar, .out] s t ∧
      (t = ((s.opened ch ws.length).modCh ch fun c => { c with segs := c.segs ++ [⟨.focus, c.cursor, bits (wd ws 0) 0 24, c.endPos, { ((s.opened ch ws.length).ch ch).endPos with z := 256 * signed 24 (bits (wd ws 0) 24 24) }, c.endVel, c.endVelDen, V3.zero, bits (wd ws 0) 48 1⟩], cursor := c.cursor + bits (wd ws 0) 0 24, endPos := { ((s.opened ch ws.length).ch ch).endPos with z := 256 * signed 24 (bits (wd ws 0) 24 24) }, endVel := (if bits (wd ws 0) 48 1 = 0 then lineVel ((s.opened ch ws.length).ch ch).endPos { ((s.opened ch ws.length).ch ch).endPos with z := 256 * signed 24 (bits (wd ws 0) 24 24) } else V3.zero), endVelDen := (if bits (wd ws 0) 48 1 = 0 then bits (wd ws 0) 0 24 else 1) }).next ch 1))

/-- (R61, R63, R74, R75, R79, R86, R87, R88, R97, R98) Each of these instructions, with an action time C + OFFSET not before the
last one, queues exactly its action at that time, leaves C where it is and goes on past its words; only this channel changes.
TRIG needs the camera port or the strobes to be present, MOVE its axis. -/
def Obligations.PointInstructions : Prop :=
  (∀ (s : State) (ch : Nat) (ws : List Nat), s.canDecode ch 0x06 ws = true → s.hasNext ch ws = true → (s.ch ch).lastAct ≤ (s.ch ch).actTime ws → 
    ∃ t, exec (.sig ch) s = .next t ∧ Only [.chan] s t ∧
      t.ch ch = { ((s.ch ch).marked ws.length).past 1 with acts := ((s.ch ch).marked ws.length).acts ++ [⟨((s.ch ch).marked ws.length).actTime ws, .sig (bits (wd ws 0) 0 16)⟩], lastAct := ((s.ch ch).marked ws.length).actTime ws } ∧
      UnitsBut State.ch ch s t) ∧
  (∀ (s : State) (ch : Nat) (ws : List Nat), s.canDecode ch 0x07 ws = true → s.hasNext ch ws = true → (s.ch ch).lastAct ≤ (s.ch ch).actTime ws → 
    ∃ t, exec (.evt ch) s = .next t ∧ Only [.chan] s t ∧
      t.ch ch = { ((s.ch ch).marked ws.length).past 2 with acts := ((s.ch ch).marked ws.length).acts ++ [⟨((s.ch ch).marked ws.length).actTime ws, .evt (bits (wd ws 0) 0 16) (wd ws 1)⟩], lastAct := ((s.ch ch).marked ws.length).actTime ws } ∧
      UnitsBut State.ch ch s t) ∧
  (∀ (s : State) (ch : Nat) (ws : List Nat), s.canDecode ch 0x0E ws = true → s.hasNext ch ws = true → (s.ch ch).lastAct ≤ (s.ch ch).actTime ws → 
    ∃ t, exec (.fence ch) s = .next t ∧ Only [.chan] s t ∧
      t.ch ch = { ((s.ch ch).marked ws.length).past 1 with acts := ((s.ch ch).marked ws.length).acts ++ [⟨((s.ch ch).marked ws.length).actTime ws, .fence⟩], lastAct := ((s.ch ch).marked ws.length).actTime ws } ∧
      UnitsBut State.ch ch s t) ∧
  (∀ (s : State) (ch : Nat) (ws : List Nat), s.canDecode ch 0x18 ws = true → s.hasNext ch ws = true → (s.ch ch).lastAct ≤ (s.ch ch).actTime ws → 
    ∃ t, exec (.period ch) s = .next t ∧ Only [.chan] s t ∧
      t.ch ch = { ((s.ch ch).marked ws.length).past 1 with acts := ((s.ch ch).marked ws.length).acts ++ [⟨((s.ch ch).marked ws.length).actTime ws, .period (bits (wd ws 0) 17 3) (periodTab ((s.ch ch).marked ws.length).dec.k (wd ws 0)) (bits (wd ws 0) 0 13)⟩], lastAct := ((s.ch ch).marked ws.length).actTime ws } ∧
      UnitsBut State.ch ch s t) ∧
  (∀ (s : State) (ch : Nat) (ws : List Nat), s.canDecode ch 0x19 ws = true → s.hasNext ch ws = true → (s.ch ch).lastAct ≤ (s.ch ch).actTime ws → 
    ∃ t, exec (.learn ch) s = .next t ∧ Only [.chan] s t ∧
      t.ch ch = { ((s.ch ch).marked ws.length).past 1 with acts := ((s.ch ch).marked ws.length).acts ++ [⟨((s.ch ch).marked ws.length).actTime ws, .learn (bits (wd ws 0) 4 3) (bits (wd ws 0) 0 2)⟩], lastAct := ((s.ch ch).marked ws.length).actTime ws } ∧
      UnitsBut State.ch ch s t) ∧
  (∀ (s : State) (ch : Nat) (ws : List Nat), s.canDecode ch 0x1A ws = true → s.hasNext ch ws = true → (s.ch ch).lastAct ≤ (s.ch ch).actTime ws → 
    ∃ t, exec (.gsel ch) s = .next t ∧ Only [.chan] s t ∧
      t.ch ch = { ((s.ch ch).marked ws.length).past 1 with acts := ((s.ch ch).marked ws.length).acts ++ [⟨((s.ch ch).marked ws.length).actTime ws, .gsel (bits (wd ws 0) 4 3) (bitAt (wd ws 0) 3) (bits (wd ws 0) 0 3)⟩], lastAct := ((s.ch ch).marked ws.length).actTime ws } ∧
      UnitsBut State.ch ch s t) ∧
  (∀ (s : State) (ch : Nat) (ws : List Nat), s.canDecode ch 0x41 ws = true → s.hasNext ch ws = true → (s.ch ch).lastAct ≤ (s.ch ch).actTime ws → ((bits (wd ws 0) 4 2 = 0 ∧ bits (wd ws 0) 0 2 < s.camPorts) ∨ (bits (wd ws 0) 4 2 = 1 ∧ s.hasLight = true)) → 
    ∃ t, exec (.trig ch) s = .next t ∧ Only [.chan] s t ∧
      t.ch ch = { ((s.ch ch).marked ws.length).past 1 with acts := ((s.ch ch).marked ws.length).acts ++ [⟨((s.ch ch).marked ws.length).actTime ws, .trig (bits (wd ws 0) 14 16) (bits (wd ws 0) 4 2) (bits (wd ws 0) 0 2)⟩], lastAct := ((s.ch ch).marked ws.length).actTime ws } ∧
      UnitsBut State.ch ch s t) ∧
  (∀ (s : State) (ch : Nat) (ws : List Nat), s.canDecode ch 0x42 ws = true → s.hasNext ch ws = true → (s.ch ch).lastAct ≤ (s.ch ch).actTime ws → bits (wd ws 0) 0 3 < s.axes → 
    ∃ t, exec (.move ch) s = .next t ∧ Only [.chan] s t ∧
      t.ch ch = { ((s.ch ch).marked ws.length).past 2 with acts := ((s.ch ch).marked ws.length).acts ++ [⟨((s.ch ch).marked ws.length).actTime ws, .move (bits (wd ws 0) 0 3) (bits (wd ws 0) 8 2) (signed 32 (bits (wd ws 1) 0 32))⟩], lastAct := ((s.ch ch).marked ws.length).actTime ws } ∧
      UnitsBut State.ch ch s t) ∧
  (∀ (s : State) (ch : Nat) (ws : List Nat), s.mayDecode ch 0x06 ws = true → ((s.opened ch ws.length).ch ch).lastAct ≤ ((s.opened ch ws.length).ch ch).actTime ws → 
    ∃ t, exec (.sig ch) s = .next t ∧ Only [.regs, .dram, .grp, .chan, .srvAx, .srvCh, .lsr, .hoop, .port, .pci, .ddr, .intg, .xbar, .out] s t ∧
      (t = ((s.opened ch ws.length).modCh ch fun c => { c with acts := c.acts ++ [⟨c.actTime ws, .sig (bits (wd ws 0) 0 16)⟩], lastAct := c.actTime ws }).next ch 1)) ∧
  (∀ (s : State) (ch : Nat) (ws : List Nat), s.mayDecode ch 0x07 ws = true → ((s.opened ch ws.length).ch ch).lastAct ≤ ((s.opened ch ws.length).ch ch).actTime ws → 
    ∃ t, exec (.evt ch) s = .next t ∧ Only [.regs, .dram, .grp, .chan, .srvAx, .srvCh, .lsr, .hoop, .port, .pci, .ddr, .intg, .xbar, .out] s t ∧
      (t = ((s.opened ch ws.length).modCh ch fun c => { c with acts := c.acts ++ [⟨c.actTime ws, .evt (bits (wd ws 0) 0 16) (wd ws 1)⟩], lastAct := c.actTime ws }).next ch 2)) ∧
  (∀ (s : State) (ch : Nat) (ws : List Nat), s.mayDecode ch 0x0E ws = true → ((s.opened ch ws.length).ch ch).lastAct ≤ ((s.opened ch ws.length).ch ch).actTime ws → 
    ∃ t, exec (.fence ch) s = .next t ∧ Only [.regs, .dram, .grp, .chan, .srvAx, .srvCh, .lsr, .hoop, .port, .pci, .ddr, .intg, .xbar, .out] s t ∧
      (t = ((s.opened ch ws.length).modCh ch fun c => { c with acts := c.acts ++ [⟨c.actTime ws, .fence⟩], lastAct := c.actTime ws }).next ch 1)) ∧
  (∀ (s : State) (ch : Nat) (ws : List Nat), s.mayDecode ch 0x18 ws = true → ((s.opened ch ws.length).ch ch).lastAct ≤ ((s.opened ch ws.length).ch ch).actTime ws → 
    ∃ t, exec (.period ch) s = .next t ∧ Only [.regs, .dram, .grp, .chan, .srvAx, .srvCh, .lsr, .hoop, .port, .pci, .ddr, .intg, .xbar, .out] s t ∧
      (t = ((s.opened ch ws.length).modCh ch fun c => { c with acts := c.acts ++ [⟨c.actTime ws, .period (bits (wd ws 0) 17 3) (periodTab c.dec.k (wd ws 0)) (bits (wd ws 0) 0 13)⟩], lastAct := c.actTime ws }).next ch 1)) ∧
  (∀ (s : State) (ch : Nat) (ws : List Nat), s.mayDecode ch 0x19 ws = true → ((s.opened ch ws.length).ch ch).lastAct ≤ ((s.opened ch ws.length).ch ch).actTime ws → 
    ∃ t, exec (.learn ch) s = .next t ∧ Only [.regs, .dram, .grp, .chan, .srvAx, .srvCh, .lsr, .hoop, .port, .pci, .ddr, .intg, .xbar, .out] s t ∧
      (t = ((s.opened ch ws.length).modCh ch fun c => { c with acts := c.acts ++ [⟨c.actTime ws, .learn (bits (wd ws 0) 4 3) (bits (wd ws 0) 0 2)⟩], lastAct := c.actTime ws }).next ch 1)) ∧
  (∀ (s : State) (ch : Nat) (ws : List Nat), s.mayDecode ch 0x1A ws = true → ((s.opened ch ws.length).ch ch).lastAct ≤ ((s.opened ch ws.length).ch ch).actTime ws → 
    ∃ t, exec (.gsel ch) s = .next t ∧ Only [.regs, .dram, .grp, .chan, .srvAx, .srvCh, .lsr, .hoop, .port, .pci, .ddr, .intg, .xbar, .out] s t ∧
      (t = ((s.opened ch ws.length).modCh ch fun c => { c with acts := c.acts ++ [⟨c.actTime ws, .gsel (bits (wd ws 0) 4 3) (bitAt (wd ws 0) 3) (bits (wd ws 0) 0 3)⟩], lastAct := c.actTime ws }).next ch 1)) ∧
  (∀ (s : State) (ch : Nat) (ws : List Nat), s.mayDecode ch 0x41 ws = true → ((s.opened ch ws.length).ch ch).lastAct ≤ ((s.opened ch ws.length).ch ch).actTime ws → ((bits (wd ws 0) 4 2 = 0 ∧ bits (wd ws 0) 0 2 < (s.opened ch ws.length).camPorts) ∨ (bits (wd ws 0) 4 2 = 1 ∧ (s.opened ch ws.length).hasLight = true)) → 
    ∃ t, exec (.trig ch) s = .next t ∧ Only [.regs, .dram, .grp, .chan, .srvAx, .srvCh, .lsr, .hoop, .port, .pci, .ddr, .intg, .xbar, .out] s t ∧
      (t = ((s.opened ch ws.length).modCh ch fun c => { c with acts := c.acts ++ [⟨c.actTime ws, .trig (bits (wd ws 0) 14 16) (bits (wd ws 0) 4 2) (bits (wd ws 0) 0 2)⟩], lastAct := c.actTime ws }).next ch 1)) ∧
  (∀ (s : State) (ch : Nat) (ws : List Nat), s.mayDecode ch 0x42 ws = true → ((s.opened ch ws.length).ch ch).lastAct ≤ ((s.opened ch ws.length).ch ch).actTime ws → bits (wd ws 0) 0 3 < (s.opened ch ws.length).axes → 
    ∃ t, exec (.move ch) s = .next t ∧ Only [.regs, .dram, .grp, .chan, .srvAx, .srvCh, .lsr, .hoop, .port, .pci, .ddr, .intg, .xbar, .out] s t ∧
      (t = ((s.opened ch ws.length).modCh ch fun c => { c with acts := c.acts ++ [⟨c.actTime ws, .move (bits (wd ws 0) 0 3) (bits (wd ws 0) 8 2) (signed 32 (bits (wd ws 1) 0 32))⟩], lastAct := c.actTime ws }).next ch 2))

/-- (R63, R89, R90, R91, R92, R93, R94) Each queues exactly its action at C + OFFSET, which is not before the last action; PULSE,
LON and LOFF need their first edge strictly after the last edge in tick and FINE, and leave their own last edge as the new
bound; PULSE and LON also note their last gate-on edge. C stays; only this channel changes. -/
def Obligations.PowerAndGateInstructions : Prop :=
  (∀ (s : State) (ch : Nat) (ws : List Nat), s.canDecode ch 0x30 ws = true → s.hasNext ch ws = true → (s.ch ch).lastAct ≤ (s.ch ch).actTime ws → 
    ∃ t, exec (.pset ch) s = .next t ∧ Only [.chan] s t ∧
      t.ch ch = { ((s.ch ch).marked ws.length).past 1 with acts := ((s.ch ch).marked ws.length).acts ++ [⟨((s.ch ch).marked ws.length).actTime ws, .pset (bits (wd ws 0) 0 16)⟩], lastAct := ((s.ch ch).marked ws.length).actTime ws } ∧
      UnitsBut State.ch ch s t) ∧
  (∀ (s : State) (ch : Nat) (ws : List Nat), s.canDecode ch 0x31 ws = true → s.hasNext ch ws = true → (s.ch ch).lastAct ≤ (s.ch ch).actTime ws → 
    ∃ t, exec (.pramp ch) s = .next t ∧ Only [.chan] s t ∧
      t.ch ch = { ((s.ch ch).marked ws.length).past 2 with acts := ((s.ch ch).marked ws.length).acts ++ [⟨((s.ch ch).marked ws.length).actTime ws, .pramp (bits (wd ws 0) 0 16) (bits (wd ws 1) 0 32)⟩], lastAct := ((s.ch ch).marked ws.length).actTime ws } ∧
      UnitsBut State.ch ch s t) ∧
  (∀ (s : State) (ch : Nat) (ws : List Nat), s.canDecode ch 0x32 ws = true → s.hasNext ch ws = true → (s.ch ch).lastAct ≤ (s.ch ch).actTime ws → edgeAfter (s.ch ch).lastEdge ((s.ch ch).actTime ws) 0 = true → 
    ∃ t, exec (.pulse ch) s = .next t ∧ Only [.chan] s t ∧
      t.ch ch = { ((s.ch ch).marked ws.length).past 3 with acts := ((s.ch ch).marked ws.length).acts ++ [⟨((s.ch ch).marked ws.length).actTime ws, .pulse (bits (wd ws 0) 0 16) (bits (wd ws 1) 40 24) (bits (wd ws 1) 16 24) (bits (wd ws 1) 0 16) (bits (wd ws 2) 0 16)⟩], lastAct := ((s.ch ch).marked ws.length).actTime ws, lastEdge := some (((s.ch ch).marked ws.length).actTime ws + (bits (wd ws 1) 0 16 - 1) * bits (wd ws 1) 40 24 + bits (wd ws 1) 16 24, 0), lastOn := some (((s.ch ch).marked ws.length).actTime ws + (bits (wd ws 1) 0 16 - 1) * bits (wd ws 1) 40 24) } ∧
      UnitsBut State.ch ch s t) ∧
  (∀ (s : State) (ch : Nat) (ws : List Nat), s.canDecode ch 0x33 ws = true → s.hasNext ch ws = true → (s.ch ch).lastAct ≤ (s.ch ch).actTime ws → 
    ∃ t, exec (.env ch) s = .next t ∧ Only [.chan] s t ∧
      t.ch ch = { ((s.ch ch).marked ws.length).past 2 with acts := ((s.ch ch).marked ws.length).acts ++ [⟨((s.ch ch).marked ws.length).actTime ws, .env (signed 16 (bits (wd ws 1) 48 16)) (signed 16 (bits (wd ws 1) 32 16)) (bits (wd ws 1) 16 16) (bits (wd ws 1) 0 16)⟩], lastAct := ((s.ch ch).marked ws.length).actTime ws } ∧
      UnitsBut State.ch ch s t) ∧
  (∀ (s : State) (ch : Nat) (ws : List Nat), s.canDecode ch 0x34 ws = true → s.hasNext ch ws = true → (s.ch ch).lastAct ≤ (s.ch ch).actTime ws → 
    ∃ t, exec (.mpl ch) s = .next t ∧ Only [.chan] s t ∧
      t.ch ch = { ((s.ch ch).marked ws.length).past 2 with acts := ((s.ch ch).marked ws.length).acts ++ [⟨((s.ch ch).marked ws.length).actTime ws, .mpl (bits (wd ws 0) 4 4) (bits (wd ws 0) 0 2) (bits (wd ws 1) 48 16) (bits (wd ws 1) 32 16)⟩], lastAct := ((s.ch ch).marked ws.length).actTime ws } ∧
      UnitsBut State.ch ch s t) ∧
  (∀ (s : State) (ch : Nat) (ws : List Nat), s.canDecode ch 0x35 ws = true → s.hasNext ch ws = true → (s.ch ch).lastAct ≤ (s.ch ch).actTime ws → edgeAfter (s.ch ch).lastEdge ((s.ch ch).actTime ws) (bits (wd ws 0) 0 5) = true → 
    ∃ t, exec (.lon ch) s = .next t ∧ Only [.chan] s t ∧
      t.ch ch = { ((s.ch ch).marked ws.length).past 1 with acts := ((s.ch ch).marked ws.length).acts ++ [⟨((s.ch ch).marked ws.length).actTime ws, .gateOn (bits (wd ws 0) 0 5) (bits (wd ws 0) 8 16)⟩], lastAct := ((s.ch ch).marked ws.length).actTime ws, lastEdge := some (((s.ch ch).marked ws.length).actTime ws, bits (wd ws 0) 0 5), lastOn := some (((s.ch ch).marked ws.length).actTime ws) } ∧
      UnitsBut State.ch ch s t) ∧
  (∀ (s : State) (ch : Nat) (ws : List Nat), s.canDecode ch 0x36 ws = true → s.hasNext ch ws = true → (s.ch ch).lastAct ≤ (s.ch ch).actTime ws → edgeAfter (s.ch ch).lastEdge ((s.ch ch).actTime ws) (bits (wd ws 0) 0 5) = true → 
    ∃ t, exec (.loff ch) s = .next t ∧ Only [.chan] s t ∧
      t.ch ch = { ((s.ch ch).marked ws.length).past 1 with acts := ((s.ch ch).marked ws.length).acts ++ [⟨((s.ch ch).marked ws.length).actTime ws, .gateOff (bits (wd ws 0) 0 5)⟩], lastAct := ((s.ch ch).marked ws.length).actTime ws, lastEdge := some (((s.ch ch).marked ws.length).actTime ws, bits (wd ws 0) 0 5) } ∧
      UnitsBut State.ch ch s t) ∧
  (∀ (s : State) (ch : Nat) (ws : List Nat), s.mayDecode ch 0x30 ws = true → ((s.opened ch ws.length).ch ch).lastAct ≤ ((s.opened ch ws.length).ch ch).actTime ws → 
    ∃ t, exec (.pset ch) s = .next t ∧ Only [.regs, .dram, .grp, .chan, .srvAx, .srvCh, .lsr, .hoop, .port, .pci, .ddr, .intg, .xbar, .out] s t ∧
      (t = ((s.opened ch ws.length).modCh ch fun c => { c with acts := c.acts ++ [⟨c.actTime ws, .pset (bits (wd ws 0) 0 16)⟩], lastAct := c.actTime ws }).next ch 1)) ∧
  (∀ (s : State) (ch : Nat) (ws : List Nat), s.mayDecode ch 0x31 ws = true → ((s.opened ch ws.length).ch ch).lastAct ≤ ((s.opened ch ws.length).ch ch).actTime ws → 
    ∃ t, exec (.pramp ch) s = .next t ∧ Only [.regs, .dram, .grp, .chan, .srvAx, .srvCh, .lsr, .hoop, .port, .pci, .ddr, .intg, .xbar, .out] s t ∧
      (t = ((s.opened ch ws.length).modCh ch fun c => { c with acts := c.acts ++ [⟨c.actTime ws, .pramp (bits (wd ws 0) 0 16) (bits (wd ws 1) 0 32)⟩], lastAct := c.actTime ws }).next ch 2)) ∧
  (∀ (s : State) (ch : Nat) (ws : List Nat), s.mayDecode ch 0x32 ws = true → ((s.opened ch ws.length).ch ch).lastAct ≤ ((s.opened ch ws.length).ch ch).actTime ws → edgeAfter ((s.opened ch ws.length).ch ch).lastEdge (((s.opened ch ws.length).ch ch).actTime ws) 0 = true → 
    ∃ t, exec (.pulse ch) s = .next t ∧ Only [.regs, .dram, .grp, .chan, .srvAx, .srvCh, .lsr, .hoop, .port, .pci, .ddr, .intg, .xbar, .out] s t ∧
      (t = (((s.opened ch ws.length).modCh ch fun c => { c with lastEdge := some (((s.opened ch ws.length).ch ch).actTime ws + (bits (wd ws 1) 0 16 - 1) * bits (wd ws 1) 40 24 + bits (wd ws 1) 16 24, 0), lastOn := some (((s.opened ch ws.length).ch ch).actTime ws + (bits (wd ws 1) 0 16 - 1) * bits (wd ws 1) 40 24) }).modCh ch fun c => { c with acts := c.acts ++ [⟨c.actTime ws, .pulse (bits (wd ws 0) 0 16) (bits (wd ws 1) 40 24) (bits (wd ws 1) 16 24) (bits (wd ws 1) 0 16) (bits (wd ws 2) 0 16)⟩], lastAct := c.actTime ws }).next ch 3)) ∧
  (∀ (s : State) (ch : Nat) (ws : List Nat), s.mayDecode ch 0x33 ws = true → ((s.opened ch ws.length).ch ch).lastAct ≤ ((s.opened ch ws.length).ch ch).actTime ws → 
    ∃ t, exec (.env ch) s = .next t ∧ Only [.regs, .dram, .grp, .chan, .srvAx, .srvCh, .lsr, .hoop, .port, .pci, .ddr, .intg, .xbar, .out] s t ∧
      (t = ((s.opened ch ws.length).modCh ch fun c => { c with acts := c.acts ++ [⟨c.actTime ws, .env (signed 16 (bits (wd ws 1) 48 16)) (signed 16 (bits (wd ws 1) 32 16)) (bits (wd ws 1) 16 16) (bits (wd ws 1) 0 16)⟩], lastAct := c.actTime ws }).next ch 2)) ∧
  (∀ (s : State) (ch : Nat) (ws : List Nat), s.mayDecode ch 0x34 ws = true → ((s.opened ch ws.length).ch ch).lastAct ≤ ((s.opened ch ws.length).ch ch).actTime ws → 
    ∃ t, exec (.mpl ch) s = .next t ∧ Only [.regs, .dram, .grp, .chan, .srvAx, .srvCh, .lsr, .hoop, .port, .pci, .ddr, .intg, .xbar, .out] s t ∧
      (t = ((s.opened ch ws.length).modCh ch fun c => { c with acts := c.acts ++ [⟨c.actTime ws, .mpl (bits (wd ws 0) 4 4) (bits (wd ws 0) 0 2) (bits (wd ws 1) 48 16) (bits (wd ws 1) 32 16)⟩], lastAct := c.actTime ws }).next ch 2)) ∧
  (∀ (s : State) (ch : Nat) (ws : List Nat), s.mayDecode ch 0x35 ws = true → ((s.opened ch ws.length).ch ch).lastAct ≤ ((s.opened ch ws.length).ch ch).actTime ws → edgeAfter ((s.opened ch ws.length).ch ch).lastEdge (((s.opened ch ws.length).ch ch).actTime ws) (bits (wd ws 0) 0 5) = true → 
    ∃ t, exec (.lon ch) s = .next t ∧ Only [.regs, .dram, .grp, .chan, .srvAx, .srvCh, .lsr, .hoop, .port, .pci, .ddr, .intg, .xbar, .out] s t ∧
      (t = (((s.opened ch ws.length).modCh ch fun c => { c with lastEdge := some (((s.opened ch ws.length).ch ch).actTime ws, bits (wd ws 0) 0 5), lastOn := some (((s.opened ch ws.length).ch ch).actTime ws) }).modCh ch fun c => { c with acts := c.acts ++ [⟨c.actTime ws, .gateOn (bits (wd ws 0) 0 5) (bits (wd ws 0) 8 16)⟩], lastAct := c.actTime ws }).next ch 1)) ∧
  (∀ (s : State) (ch : Nat) (ws : List Nat), s.mayDecode ch 0x36 ws = true → ((s.opened ch ws.length).ch ch).lastAct ≤ ((s.opened ch ws.length).ch ch).actTime ws → edgeAfter ((s.opened ch ws.length).ch ch).lastEdge (((s.opened ch ws.length).ch ch).actTime ws) (bits (wd ws 0) 0 5) = true → 
    ∃ t, exec (.loff ch) s = .next t ∧ Only [.regs, .dram, .grp, .chan, .srvAx, .srvCh, .lsr, .hoop, .port, .pci, .ddr, .intg, .xbar, .out] s t ∧
      (t = (((s.opened ch ws.length).modCh ch fun c => { c with lastEdge := some (((s.opened ch ws.length).ch ch).actTime ws, bits (wd ws 0) 0 5) }).modCh ch fun c => { c with acts := c.acts ++ [⟨c.actTime ws, .gateOff (bits (wd ws 0) 0 5)⟩], lastAct := c.actTime ws }).next ch 1))

/-- (R55, R95, R103, R239) A legal HAND with TAKE = 0 and FB = 0 for a remote partner in the bed group, outside the library, with
an anchor that R95 admits and no stored token that matches it, queues exactly the handoff that its words spell and goes on
after its three words. The first instruction of a curd is decoded with C at the STIME of the curd, its header line left. After
the last word of a curd that is not LAST, with no loop open, the next curd is at the front of the decoder, not yet begun. -/
def Obligations.HandAndCurdBoundaries : Prop :=
  (∀ (s : State) (ch : Nat) (ws : List Nat), s.canDecode ch 0x40 ws = true → s.hasNext ch ws = true → bitAt (wd ws 0) 52 = false → bitAt (wd ws 0) 53 = false → s.inLib ch = false → s.partnerOk (bits (wd ws 0) 32 16) = true → bits (wd ws 0) 32 16 ≠ s.devid → (s.ch ch).cursor ≤ bits (wd ws 1) 0 48 → s.anchorFloor ch ≤ bits (wd ws 1) 0 48 → (s.ch ch).lastAct ≤ bits (wd ws 1) 0 48 → (s.ch ch).tokens = [] → 
    ∃ t, exec (.hand ch) s = .next t ∧ Only [.chan] s t ∧
      t.ch ch = { ((s.ch ch).marked ws.length).past 3 with hands := ((s.ch ch).marked ws.length).hands ++ [handOf ws { ((s.ch ch).marked ws.length).dec.loc with word := ((s.ch ch).marked ws.length).dec.loc.word + 3 }], lastAct := bits (wd ws 1) 0 48 } ∧
      UnitsBut State.ch ch s t) ∧
  (∀ (s : State) (ch : Nat) (d : Curd) (ds : List Curd), ch < s.channels → s.decoding ch = true → (s.ch ch).begun = false → (s.ch ch).curds = d :: ds → (s.ch ch).dec.loc = ⟨false, 0⟩ → (s.ch ch).handBlock = [] → 1 < d.words → (s.ch ch).cursor ≤ d.stime → (s.ch ch).wordsAt 1 = some [0] → s.feedSound ch 1 = true → s.afterLastYield ch = false → 
    ∃ t, exec (.nop ch) s = .next t ∧ Only [.chan] s t ∧
      t.ch ch = { ((s.ch ch).marked 1).dropFront 1 with begun := true, cursor := d.stime }.past 1 ∧
      UnitsBut State.ch ch s t) ∧
  (∀ (s : State) (ch : Nat) (d e : Curd) (ds : List Curd), s.canDecode ch 0x00 [0] = true → (s.ch ch).handBlock = [] → (s.ch ch).curds = d :: e :: ds → (s.ch ch).dec.loc = ⟨false, d.words - 1⟩ → 0 < d.words → (s.ch ch).dec.loops = [] → d.last = false → e.fault = none → 
    ∃ t, exec (.nop ch) s = .next t ∧ Only [.regs, .dram, .grp, .chan, .srvAx, .srvCh, .lsr, .hoop, .port, .pci, .ddr, .intg, .xbar, .out] s t ∧
      (t.ch ch).curds = e :: ds ∧
      (t.ch ch).begun = false ∧
      (t.ch ch).dec.loc = ⟨false, 0⟩ ∧
      (t.ch ch).cursor = (s.ch ch).cursor ∧
      UnitsBut State.ch ch s t) ∧
  (∀ (s : State) (ch : Nat) (ws : List Nat), s.mayDecode ch 0x40 ws = true → bitAt (wd ws 0) 52 = false → (s.opened ch ws.length).handSelf ch (handOf ws { ((s.opened ch ws.length).ch ch).dec.loc with word := ((s.opened ch ws.length).ch ch).dec.loc.word + 3 }) = false → (s.opened ch ws.length).handAbsent (handOf ws { ((s.opened ch ws.length).ch ch).dec.loc with word := ((s.opened ch ws.length).ch ch).dec.loc.word + 3 }) = false → ((s.opened ch ws.length).ch ch).dec.loc.lib = false → (bitAt (wd ws 0) 52 = true → (handOf ws { ((s.opened ch ws.length).ch ch).dec.loc with word := ((s.opened ch ws.length).ch ch).dec.loc.word + 3 }).block.word + (handOf ws { ((s.opened ch ws.length).ch ch).dec.loc with word := ((s.opened ch ws.length).ch ch).dec.loc.word + 3 }).nlen + (handOf ws { ((s.opened ch ws.length).ch ch).dec.loc with word := ((s.opened ch ws.length).ch ch).dec.loc.word + 3 }).alen ≤ ((s.opened ch ws.length).ch ch).endOf false ∧ (handOf ws { ((s.opened ch ws.length).ch ch).dec.loc with word := ((s.opened ch ws.length).ch ch).dec.loc.word + 3 }).anchor = ((s.opened ch ws.length).ch ch).cursor) → ((s.opened ch ws.length).ch ch).cursor ≤ (handOf ws { ((s.opened ch ws.length).ch ch).dec.loc with word := ((s.opened ch ws.length).ch ch).dec.loc.word + 3 }).anchor → (s.opened ch ws.length).anchorFloor ch ≤ (handOf ws { ((s.opened ch ws.length).ch ch).dec.loc with word := ((s.opened ch ws.length).ch ch).dec.loc.word + 3 }).anchor → ((s.opened ch ws.length).ch ch).lastAct ≤ (handOf ws { ((s.opened ch ws.length).ch ch).dec.loc with word := ((s.opened ch ws.length).ch ch).dec.loc.word + 3 }).anchor → ((handOf ws { ((s.opened ch ws.length).ch ch).dec.loc with word := ((s.opened ch ws.length).ch ch).dec.loc.word + 3 }).pdev ≠ s.devid → (s.opened ch ws.length).partnerOk (handOf ws { ((s.opened ch ws.length).ch ch).dec.loc with word := ((s.opened ch ws.length).ch ch).dec.loc.word + 3 }).pdev = true) → (∀ x ∈ ((s.opened ch ws.length).ch ch).tokens, tokenFor (handOf ws { ((s.opened ch ws.length).ch ch).dec.loc with word := ((s.opened ch ws.length).ch ch).dec.loc.word + 3 }) x = true → tokenFits (handOf ws { ((s.opened ch ws.length).ch ch).dec.loc with word := ((s.opened ch ws.length).ch ch).dec.loc.word + 3 }) x = true) → 
    ∃ t, exec (.hand ch) s = .next t ∧ Only [.regs, .dram, .grp, .chan, .srvAx, .srvCh, .lsr, .hoop, .port, .pci, .ddr, .intg, .xbar, .out] s t ∧
      (let u := (s.opened ch ws.length); let h := (((u.ch ch).tokens.filter (tokenFor (handOf ws { ((s.opened ch ws.length).ch ch).dec.loc with word := ((s.opened ch ws.length).ch ch).dec.loc.word + 3 }))).filter fun x => tokenFits (handOf ws { ((s.opened ch ws.length).ch ch).dec.loc with word := ((s.opened ch ws.length).ch ch).dec.loc.word + 3 }) x).foldl Hand.takes (handOf ws { ((s.opened ch ws.length).ch ch).dec.loc with word := ((s.opened ch ws.length).ch ch).dec.loc.word + 3 }); let send := h.take && u.handFree ch h; let h := { h with readySent := send }; let v := u.modCh ch fun c => { c with hands := c.hands ++ [h], lastAct := h.anchor, tokens := c.tokens.filter fun x => !tokenFor h x }; t = (if send then v.sendReady ch h else v).next ch 3)) ∧
  (∀ (s : State) (ch : Nat) (ws : List Nat), s.mayDecode ch 0x40 ws = true → bitAt (wd ws 0) 52 = true → (s.opened ch ws.length).handSelf ch (handOf ws { ((s.opened ch ws.length).ch ch).dec.loc with word := ((s.opened ch ws.length).ch ch).dec.loc.word + 3 }) = false → (s.opened ch ws.length).handAbsent (handOf ws { ((s.opened ch ws.length).ch ch).dec.loc with word := ((s.opened ch ws.length).ch ch).dec.loc.word + 3 }) = false → ((s.opened ch ws.length).ch ch).dec.loc.lib = false → (bitAt (wd ws 0) 52 = true → (handOf ws { ((s.opened ch ws.length).ch ch).dec.loc with word := ((s.opened ch ws.length).ch ch).dec.loc.word + 3 }).block.word + (handOf ws { ((s.opened ch ws.length).ch ch).dec.loc with word := ((s.opened ch ws.length).ch ch).dec.loc.word + 3 }).nlen + (handOf ws { ((s.opened ch ws.length).ch ch).dec.loc with word := ((s.opened ch ws.length).ch ch).dec.loc.word + 3 }).alen ≤ ((s.opened ch ws.length).ch ch).endOf false ∧ (handOf ws { ((s.opened ch ws.length).ch ch).dec.loc with word := ((s.opened ch ws.length).ch ch).dec.loc.word + 3 }).anchor = ((s.opened ch ws.length).ch ch).cursor) → ((s.opened ch ws.length).ch ch).cursor ≤ (handOf ws { ((s.opened ch ws.length).ch ch).dec.loc with word := ((s.opened ch ws.length).ch ch).dec.loc.word + 3 }).anchor → (s.opened ch ws.length).anchorFloor ch ≤ (handOf ws { ((s.opened ch ws.length).ch ch).dec.loc with word := ((s.opened ch ws.length).ch ch).dec.loc.word + 3 }).anchor → ((s.opened ch ws.length).ch ch).lastAct ≤ (handOf ws { ((s.opened ch ws.length).ch ch).dec.loc with word := ((s.opened ch ws.length).ch ch).dec.loc.word + 3 }).anchor → ((handOf ws { ((s.opened ch ws.length).ch ch).dec.loc with word := ((s.opened ch ws.length).ch ch).dec.loc.word + 3 }).pdev ≠ s.devid → (s.opened ch ws.length).partnerOk (handOf ws { ((s.opened ch ws.length).ch ch).dec.loc with word := ((s.opened ch ws.length).ch ch).dec.loc.word + 3 }).pdev = true) → (∀ x ∈ ((s.opened ch ws.length).ch ch).tokens, tokenFor (handOf ws { ((s.opened ch ws.length).ch ch).dec.loc with word := ((s.opened ch ws.length).ch ch).dec.loc.word + 3 }) x = true → tokenFits (handOf ws { ((s.opened ch ws.length).ch ch).dec.loc with word := ((s.opened ch ws.length).ch ch).dec.loc.word + 3 }) x = true) → 
    ∃ t, exec (.hand ch) s = .next t ∧ Only [.regs, .dram, .grp, .chan, .srvAx, .srvCh, .lsr, .hoop, .port, .pci, .ddr, .intg, .xbar, .out] s t ∧
      (let u := (s.opened ch ws.length); let h := (((u.ch ch).tokens.filter (tokenFor (handOf ws { ((s.opened ch ws.length).ch ch).dec.loc with word := ((s.opened ch ws.length).ch ch).dec.loc.word + 3 }))).filter fun x => tokenFits (handOf ws { ((s.opened ch ws.length).ch ch).dec.loc with word := ((s.opened ch ws.length).ch ch).dec.loc.word + 3 }) x).foldl Hand.takes (handOf ws { ((s.opened ch ws.length).ch ch).dec.loc with word := ((s.opened ch ws.length).ch ch).dec.loc.word + 3 }); let send := h.take && u.handFree ch h; let h := { h with readySent := send }; let v := u.modCh ch fun c => { c with hands := c.hands ++ [h], lastAct := h.anchor, tokens := c.tokens.filter fun x => !tokenFor h x }; t = (if send then v.sendReady ch h else v).modCh ch fun c => c.past 3))

/-- (R62, R64, R67, R73, R74, R75, R80, R118, R123, R124) In an acting channel: SIG_EMIT takes the due SIG from the queue, sets
the flag of the event here and broadcasts an EVENT packet with the machine time of its tick. EVT_ACTION writes the record of
64 bytes at the place that SEQ_EVT_WR names in the event ring and advances the index. SYNC_DEADLINE drops a SYNC whose event
has come, and otherwise is SYNC_TIMEOUT. FAULT_TIME makes a pending fault effective, and LATE is UNDERRUN when no word has
come: the channel is in FAULT, its first fault recorded, the abort flag set. EVALUATION_INSTANT passes the field-corrected
output of the segment in force to the servo engine, 250 ticks later. -/
def Obligations.TimedEffectsOfTheLayer : Prop :=
  (∀ (s : State) (ch : Nat) (tt e : Nat) (as : List Action), ch < s.channels → s.acting ch = true → (s.ch ch).acts = ⟨tt, .sig e⟩ :: as → tt ≤ s.grp.s → 
    ∃ t, exec (.sigEmit ch) s = .next t ∧ Only [.grp, .chan, .hoop, .port] s t ∧
      (t.ch ch).acts = as ∧
      (tabGet (fun _ => false) t.grp.events e = true) ∧
      UnitsBut State.ch ch s t ∧
      t.hoop.repeats = s.hoop.repeats ++ [(⟨0x10, true, s.fld R.HOOP_CTL F.HOOP_CTL_HOPS, 0, s.devid, (s.nextSeq 0x10).1, 0, eventPayload e (mtStamp (s.tickTime tt))⟩, s.time.mt + ticksU 250)]) ∧
  (∀ (s : State) (ch : Nat) (tt code data : Nat) (as : List Action), ch < s.channels → s.acting ch = true → (s.ch ch).acts = ⟨tt, .evt code data⟩ :: as → tt ≤ s.grp.s → (s.ls ch).fenceRecs = [] → (s.ls ch).waitsBelow (s.ls ch).fence = false → s.flag R.SEQ_EVT_CTL F.SEQ_EVT_CTL_EN = true → s.fld R.SEQ_EVT_CTL F.SEQ_EVT_CTL_LOG2 ≤ 16 → s.dramOk s.evtAddr 64 = true → s.evtFull = false → s.grp.lostSince = 0 → 
    ∃ t, exec (.evtAction ch) s = .next t ∧ Only [.regs, .dram, .grp, .chan, .lsr, .pci, .ddr, .out] s t ∧
      (t.ch ch).acts = as ∧
      t.readDram s.evtAddr 64 = recordBytes code ch s.grp.layer tt s.calStamp data 0 ∧
      SameDramBut s.evtAddr 64 s t ∧
      t.fld R.SEQ_EVT_WR F.SEQ_EVT_WR_INDEX = (s.fld R.SEQ_EVT_WR F.SEQ_EVT_WR_INDEX + 1) % s.evtSize) ∧
  (∀ (s : State) (ch : Nat) (w : SyncWait) (ws : List SyncWait), ch < s.channels → s.acting ch = true → (s.ch ch).syncs = w :: ws → w.time ≤ s.grp.s → (tabGet (fun _ => false) s.grp.events w.event = true) → 
    ∃ t, exec (.syncDeadline ch) s = .next t ∧ Only [.chan] s t ∧
      t.ch ch = { s.ch ch with syncs := ws } ∧
      UnitsBut State.ch ch s t) ∧
  (∀ (s : State) (ch : Nat) (w : SyncWait) (ws : List SyncWait), ch < s.channels → s.acting ch = true → (s.ch ch).syncs = w :: ws → w.time ≤ s.grp.s → (tabGet (fun _ => false) s.grp.events w.event = false) → s.fld (R.SEQ_FAULT ch) F.SEQ_FAULT_CODE = 0 → 
    ∃ t, exec (.syncDeadline ch) s = .next t ∧ Only [.regs, .dram, .grp, .chan, .srvAx, .srvCh, .lsr, .hoop, .port, .pci, .ddr, .xbar, .out] s t ∧
      t.chState ch = 7 ∧
      t.fld (R.SEQ_FAULT ch) F.SEQ_FAULT_CODE = 0x24 ∧
      t.grp.abortFlag = true) ∧
  (∀ (s : State) (ch : Nat) (f : PendingFault), ch < s.channels → s.acting ch = true → (s.ch ch).pending = some f → f.time ≤ s.grp.s → s.fld (R.SEQ_FAULT ch) F.SEQ_FAULT_CODE = 0 → f.code < 256 → f.seqno < 2 ^ 32 → 
    ∃ t, exec (.faultTime ch) s = .next t ∧ Only [.regs, .dram, .grp, .chan, .srvAx, .srvCh, .lsr, .hoop, .port, .pci, .ddr, .xbar, .out] s t ∧
      t.chState ch = 7 ∧
      t.fld (R.SEQ_FAULT ch) F.SEQ_FAULT_CODE = f.code ∧
      t.fld (R.SEQ_FAULT_SEQNO ch) F.SEQ_FAULT_SEQNO_SEQNO = f.seqno ∧
      t.fld (R.SEQ_FAULT_S_LO ch) F.SEQ_FAULT_S_LO_S = f.time % 2 ^ 32 ∧
      t.grp.abortFlag = true ∧
      (t.ch ch).acts = [] ∧
      (t.ch ch).segs = []) ∧
  (∀ (s : State) (ch : Nat), ch < s.channels → s.acting ch = true → s.chState ch ≠ 6 → (s.ch ch).decStopped = false → (s.ch ch).hands = [] → (s.ch ch).feed = [] → (s.ch ch).haltDecoded = false → (s.ch ch).lastYield = none → s.grp.run = true → (s.ch ch).nextCursor < s.grp.s + 250 → s.fld (R.SEQ_FAULT ch) F.SEQ_FAULT_CODE = 0 → 
    ∃ t, exec (.late ch) s = .next t ∧ Only [.regs, .dram, .grp, .chan, .srvAx, .srvCh, .lsr, .hoop, .port, .pci, .ddr, .xbar, .out] s t ∧
      t.chState ch = 7 ∧
      t.fld (R.SEQ_FAULT ch) F.SEQ_FAULT_CODE = 0x21 ∧
      t.grp.abortFlag = true) ∧
  (∀ (s : State) (ch : Nat) (g : Segment) (gs : List Segment), ch < s.channels → s.acting ch = true → s.grpState = 2 → s.grp.run = true → s.grp.s % 625 = 0 → (s.ch ch).fieldHold = none → s.intg.hidden = [] → (s.ch ch).segs = g :: gs → g.start ≤ s.grp.s → s.grp.s < g.start + g.dur → (g.kind ≠ .cubic ∨ g.offField s.grp.s = false) → s.intg.forced = [] → s.unsound (fieldRanges ch (g.out s.grp.s).p) = [] → 
    ∃ t, exec (.evaluationInstant ch) s = .next t ∧ Only [.regs, .dram, .grp, .chan, .srvAx, .srvCh, .lsr, .hoop, .port, .pci, .ddr, .intg, .cave, .xbar, .out] s t ∧
      (t.ch ch).lastEval = (g.out s.grp.s).p ∧
      (t.ch ch).segs = g :: gs ∧
      ((t.sc ch).hist = ⟨s.grp.s, s.time.mt + ticksU 250, (g.out s.grp.s).p, V3.of fun ax => (s.fieldOut ch (g.out s.grp.s) ax).p.hc, V3.of fun ax => (s.fieldOut ch (g.out s.grp.s) ax).v.sat, V3.of fun ax => (s.fieldOut ch (g.out s.grp.s) ax).a.sat, (g.out s.grp.s).jump⟩ :: ((s.sc ch).hist.filter (fun q => decide (s.time.mt < q.at_)) ++ ((s.sc ch).hist.filter fun q => decide (q.at_ ≤ s.time.mt)).take 16))) ∧
  (∀ (s : State) (ch : Nat) (tt e : Nat) (as : List Action), ch < s.channels → s.acting ch = true → (dueAct (fun a => match a with | .sig _ => true | _ => false) s.grp.s (s.ch ch).acts = some (⟨tt, .sig e⟩, as)) → 
    ∃ t, exec (.sigEmit ch) s = .next t ∧ Only [.grp, .chan, .hoop, .port] s t ∧
      (t = ((s.modCh ch fun c => { c with acts := as }).broadcast 0x10 (eventPayload e (mtStamp (s.tickTime tt)))).setEvent e) ∧
      (t.ch ch).acts = as) ∧
  (∀ (s : State) (ch : Nat) (tt code data : Nat) (as : List Action), ch < s.channels → s.acting ch = true → (dueAct (fun a => match a with | .evt _ _ => true | .fence => true | _ => false) s.grp.s (s.ch ch).acts = some (⟨tt, .evt code data⟩, as)) → (s.ls ch).waitsBelow (s.ls ch).fence = false → (s.ls ch).fenceRecs = [] → 
    ∃ t, exec (.evtAction ch) s = .next t ∧ Only [.regs, .dram, .grp, .chan, .lsr, .pci, .ddr, .out] s t ∧
      (t = (s.modCh ch fun c => { c with acts := as }).postAt code ch tt data 0)) ∧
  (∀ (s : State) (ch : Nat) (tt code data : Nat) (as : List Action), ch < s.channels → s.acting ch = true → (dueAct (fun a => match a with | .evt _ _ => true | .fence => true | _ => false) s.grp.s (s.ch ch).acts = some (⟨tt, .evt code data⟩, as)) → ((s.ls ch).waitsBelow (s.ls ch).fence = true ∨ (s.ls ch).fenceRecs ≠ []) → 
    ∃ t, exec (.evtAction ch) s = .next t ∧ Only [.chan, .lsr] s t ∧
      (t.ch ch).acts = as ∧
      (t.ls ch).fenceRecs = (s.ls ch).fenceRecs ++ [⟨(s.ls ch).fence, code, tt, s.calStamp, data⟩] ∧
      UnitsBut State.ch ch s t ∧
      UnitsBut State.ls ch s t) ∧
  (∀ (s : State) (ch : Nat) (tt : Nat) (as : List Action), ch < s.channels → s.acting ch = true → (dueAct (fun a => match a with | .evt _ _ => true | .fence => true | _ => false) s.grp.s (s.ch ch).acts = some (⟨tt, .fence⟩, as)) → 
    ∃ t, exec (.evtAction ch) s = .next t ∧ Only [.regs, .dram, .grp, .chan, .lsr, .pci, .ddr, .out] s t ∧
      (t = (s.modCh ch fun c => { c with acts := as }).fence ch tt)) ∧
  (∀ (s : State) (ch : Nat) (w : SyncWait) (ws : List SyncWait), ch < s.channels → s.acting ch = true → (s.ch ch).syncs = w :: ws → w.time ≤ s.grp.s → (tabGet (fun _ => false) s.grp.events w.event = false) → 
    ∃ t, exec (.syncDeadline ch) s = .next t ∧ Only [.regs, .dram, .grp, .chan, .srvAx, .srvCh, .lsr, .hoop, .port, .pci, .ddr, .xbar, .out] s t ∧
      (t = (s.modCh ch fun c => { c with syncs := ws }).fault ch 0x24 s.grp.s w.word false w.seqno) ∧
      t.chState ch = 7) ∧
  (∀ (s : State) (ch : Nat) (f : PendingFault), ch < s.channels → s.acting ch = true → (s.ch ch).pending = some f → f.time ≤ s.grp.s → 
    ∃ t, exec (.faultTime ch) s = .next t ∧ Only [.regs, .dram, .grp, .chan, .srvAx, .srvCh, .lsr, .hoop, .port, .pci, .ddr, .xbar, .out] s t ∧
      (t = (s.modCh ch fun c => { c with pending := none }).fault ch f.code f.time f.word f.lib f.seqno) ∧
      t.chState ch = 7 ∧
      t.grp.abortFlag = true ∧
      (t.ch ch).pending = none ∧
      (t.ch ch).acts = [] ∧
      (t.ch ch).segs = []) ∧
  (∀ (s : State) (ch : Nat), ch < s.channels → s.acting ch = true → (s.ch ch).pending = none → 
    ∃ t, exec (.faultTime ch) s = .next t ∧ Only [.regs, .dram, .grp, .chan, .srvAx, .srvCh, .lsr, .hoop, .port, .pci, .ddr, .xbar, .out] s t ∧
      t = s.fetchDue ch) ∧
  (∀ (s : State) (ch : Nat), ch < s.channels → s.grpState = 2 → s.grp.run = true → s.grp.s % 625 = 0 → s.acting ch = true → (s.ch ch).fieldHold = none → (∀ g ∈ (((s.retire ch).jumpGate ch).ch ch).segs.head?, g.start ≤ s.grp.s ∧ g.kind = .cubic → g.offField s.grp.s = false) → 
    ∃ t, exec (.evaluationInstant ch) s = .next t ∧ Only [.regs, .dram, .grp, .chan, .srvAx, .srvCh, .lsr, .hoop, .port, .pci, .ddr, .intg, .cave, .xbar, .out] s t ∧
      t = ((s.retire ch).jumpGate ch).setpointAt ch s.grp.s) ∧
  (∀ (s : State) (ch : Nat) (g : Segment) (gs : List Segment), ch < s.channels → s.grpState = 2 → s.grp.run = true → s.grp.s % 625 = 0 → s.acting ch = true → (s.ch ch).fieldHold = none → (((s.retire ch).jumpGate ch).ch ch).segs = g :: gs → g.start ≤ s.grp.s → g.kind = .cubic → g.offField s.grp.s = true → 
    ∃ t, exec (.evaluationInstant ch) s = .next t ∧ Only [.regs, .dram, .grp, .chan, .srvAx, .srvCh, .lsr, .hoop, .port, .pci, .ddr, .intg, .cave, .xbar, .out] s t ∧
      (t.ch ch).lastEval = (g.out s.grp.s).p.onField ∧
      (t.ch ch).fieldHold = some (g.start + g.dur, (g.out s.grp.s).p.onField) ∧
      t.chState ch = 7 ∧
      t.grp.abortFlag = true) ∧
  (∀ (s : State) (ch : Nat) (stop : Nat) (p : V3), ch < s.channels → s.grpState = 2 → s.grp.run = true → s.grp.s % 625 = 0 → (s.ch ch).fieldHold = some (stop, p) → s.grp.s < stop → 
    ∃ t, exec (.evaluationInstant ch) s = .next t ∧ Only [.regs, .dram, .grp, .chan, .srvAx, .srvCh, .lsr, .hoop, .port, .pci, .ddr, .intg, .cave, .xbar, .out] s t ∧
      t = s.correct ch s.grp.s ⟨p, V3.zero, V3.zero, false⟩) ∧
  (∀ (s : State) (ch : Nat), ch < s.channels → s.acting ch = true → s.chState ch ≠ 6 → (s.ch ch).decStopped = false → ((s.ch ch).hands.any (fun h => h.fb && !h.decided) = false) → (s.ch ch).fetchFault = false → ({ s.ch ch with cursor := (s.ch ch).nextCursor } : Chan).wordsHeld = [] → s.isLate ch (some ((({ s.ch ch with cursor := (s.ch ch).nextCursor } : Chan).cursor : Int) - 250)) = true → 
    ∃ t, exec (.late ch) s = .next t ∧ Only [.regs, .dram, .grp, .chan, .srvAx, .srvCh, .lsr, .hoop, .port, .pci, .ddr, .xbar, .out] s t ∧
      t = s.runFault ch 0x21 ∧
      t.chState ch = 7) ∧
  (∀ (s : State) (ch : Nat) (w0 : Nat) (ws : List Nat), ch < s.channels → s.acting ch = true → s.chState ch ≠ 6 → (s.ch ch).decStopped = false → ((s.ch ch).hands.any (fun h => h.fb && !h.decided) = false) → (s.ch ch).fetchFault = false → ({ s.ch ch with cursor := (s.ch ch).nextCursor } : Chan).wordsHeld = w0 :: ws → s.isLate ch (({ s.ch ch with cursor := (s.ch ch).nextCursor } : Chan).deadline (w0 :: ws)) = true → 
    ∃ t, exec (.late ch) s = .next t ∧ Only [.regs, .dram, .grp, .chan, .srvAx, .srvCh, .lsr, .hoop, .port, .pci, .ddr, .xbar, .out] s t ∧
      (t = s.runFault ch (if (w0 :: ws).length < min (extOf w0 + 1) (({ s.ch ch with cursor := (s.ch ch).nextCursor } : Chan).endOf ({ s.ch ch with cursor := (s.ch ch).nextCursor } : Chan).dec.loc.lib - ({ s.ch ch with cursor := (s.ch ch).nextCursor } : Chan).dec.loc.word) then 0x21 else 0x20)) ∧
      t.chState ch = 7)

/-- (R99, R101, R102, R107, R108, R109) SEQ_RING_TAIL stores its index modulo the ring size. DESCRIPTOR_READ, and OWN_RETRY 1,250
ticks after a failed read, accept the descriptor at HEAD when OWN = 1: the curd joins the channel and HEAD moves on; with OWN
= 0 the channel waits and counts. WALKER_FETCH asks for the header line of a curd whose header has not been read. It asks
again first for an entry whose line must be fetched again, and otherwise walks one visit and asks for its line.
FEED_LINE_ARRIVAL puts the bytes of the returned line, with the bits that changed on the way, into its entry with the CRC-32C
of the line, or fetches it again and counts that when a check fails; on a filled entry it changes the buffered words. -/
def Obligations.FeedOfAChannel : Prop :=
  (∀ (s : State) (ch : Nat) (v : Word), ch < s.channels → s.flag (R.SEQ_STAT ch) F.SEQ_STAT_OWNWAIT = false → 
    ∃ t, exec (.seqRingTail ch v) s = .next t ∧ Only [.regs] s t ∧
      t.fld (R.SEQ_RING_TAIL ch) F.SEQ_RING_TAIL_INDEX = field F.SEQ_RING_TAIL_INDEX v % s.ringSize ch ∧
      RegsBut [R.SEQ_RING_TAIL ch] s t) ∧
  (∀ (s : State) (ch : Nat), ch < s.channels → s.wantsDesc ch = true → s.flag (R.SEQ_STAT ch) F.SEQ_STAT_OWNWAIT = false → bitAt (leAt (s.readDram (s.descAddr ch (s.fld (R.SEQ_RING_HEAD ch) F.SEQ_RING_HEAD_INDEX)) 32) 8 2) 0 = true → s.fld (R.SEQ_RING_SIZE ch) F.SEQ_RING_SIZE_LOG2 ≤ 16 → 
    ∃ t, exec (.descriptorRead ch) s = .next t ∧ Only [.regs, .chan] s t ∧
      t.fld (R.SEQ_RING_HEAD ch) F.SEQ_RING_HEAD_INDEX = (s.fld (R.SEQ_RING_HEAD ch) F.SEQ_RING_HEAD_INDEX + 1) % s.ringSize ch ∧
      t.ch ch = { s.ch ch with curds := (s.ch ch).curds ++ [⟨s.fld (R.SEQ_RING_HEAD ch) F.SEQ_RING_HEAD_INDEX, leAt (s.readDram (s.descAddr ch (s.fld (R.SEQ_RING_HEAD ch) F.SEQ_RING_HEAD_INDEX)) 32) 0 4, bitAt (leAt (s.readDram (s.descAddr ch (s.fld (R.SEQ_RING_HEAD ch) F.SEQ_RING_HEAD_INDEX)) 32) 8 2) 1, false, (s.ch ch).nextSeqno, 0, false, 0, none, 0⟩] } ∧
      UnitsBut State.ch ch s t) ∧
  (∀ (s : State) (ch : Nat), ch < s.channels → s.wantsDesc ch = true → s.flag (R.SEQ_STAT ch) F.SEQ_STAT_OWNWAIT = false → bitAt (leAt (s.readDram (s.descAddr ch (s.fld (R.SEQ_RING_HEAD ch) F.SEQ_RING_HEAD_INDEX)) 32) 8 2) 0 = false → 
    ∃ t, exec (.descriptorRead ch) s = .next t ∧ Only [.regs, .chan] s t ∧
      t.flag (R.SEQ_STAT ch) F.SEQ_STAT_OWNWAIT = true ∧
      t.ch ch = { s.ch ch with ownReadAt := s.time.mt } ∧
      RegsBut [R.SEQ_STAT ch] s t) ∧
  (∀ (s : State) (ch : Nat), ch < s.channels → s.wantsDesc ch = true → s.flag (R.SEQ_STAT ch) F.SEQ_STAT_OWNWAIT = true → (s.ch ch).ownReadAt + ticksU 1250 ≤ s.time.mt → bitAt (leAt (s.readDram (s.descAddr ch (s.fld (R.SEQ_RING_HEAD ch) F.SEQ_RING_HEAD_INDEX)) 32) 8 2) 0 = true → 
    ∃ t, exec (.ownRetry ch) s = .next t ∧ Only [.regs, .chan] s t ∧
      t.flag (R.SEQ_STAT ch) F.SEQ_STAT_OWNWAIT = false ∧
      (t.ch ch).curds.length = (s.ch ch).curds.length + 1 ∧
      UnitsBut State.ch ch s t) ∧
  (∀ (s : State) (ch : Nat) (d : Curd), ch < s.channels → s.fetching ch = true → (s.ch ch).feed.length < 256 → (s.ch ch).walkStopped = false → (s.ch ch).outstanding < 64 → (∀ e ∈ (s.ch ch).feed, e.asked = true ∨ e.arrived = true) → (s.ch ch).walkCurd = some d → d.fault = none → d.hdr = false → ((s.ch ch).feed.any (fun e => e.head && decide (e.curd = d.index)) = false) → 
    ∃ t, exec (.walkerFetch ch) s = .next t ∧ Only [.chan, .ddr] s t ∧
      t.ch ch = { s.ch ch with feed := (s.ch ch).feed ++ [newEntry d.line [] true d.index] } ∧
      t.ddr = { s.ddr with queue := s.ddr.queue ++ [⟨0, ch, d.line, false⟩] } ∧
      UnitsBut State.ch ch s t) ∧
  (∀ (s : State) (ch : Nat) (slot : Nat) (e : FeedEntry), ch < s.channels → s.fetching ch = true → (s.ch ch).outstanding < 64 → (s.ch ch).feed[slot]? = some e → ((s.ch ch).feed.findIdx (fun x => !x.asked && !x.arrived && !(s.ch ch).curds.any fun d => decide (d.index = x.curd) && d.fault.isSome) = slot) → 
    ∃ t, exec (.walkerFetch ch) s = .next t ∧ Only [.chan, .ddr] s t ∧
      t.ddr = { s.ddr with queue := s.ddr.queue ++ [⟨0, ch, e.line, false⟩] } ∧
      t.ch ch = { s.ch ch with feed := setNth (s.ch ch).feed slot { e with asked := true } } ∧
      UnitsBut State.ch ch s t) ∧
  (∀ (s : State) (ch : Nat) (d : Curd), ch < s.channels → s.fetching ch = true → (s.ch ch).outstanding < 64 → (∀ e ∈ (s.ch ch).feed, e.asked = true ∨ e.arrived = true) → (s.ch ch).walkStopped = false → (s.ch ch).feed.length < 256 → (s.ch ch).walkCurd = some d → d.fault = none → d.hdr = true → ((s.ch ch).walkSettle ((s.ch ch).fork.length + 1)).walkStopped = false → ((s.ch ch).walkSettle ((s.ch ch).fork.length + 1)).walk.curd = (s.ch ch).walk.curd → 
    ∃ t, exec (.walkerFetch ch) s = .next t ∧ Only [.chan, .ddr] s t ∧
      (t = (s.modCh ch fun _ => { (s.walkVisit ch ((s.ch ch).walkSettle ((s.ch ch).fork.length + 1)).walkLine ((s.ch ch).walkSettle ((s.ch ch).fork.length + 1)).walk.curd 32 ((s.ch ch).walkSettle ((s.ch ch).fork.length + 1)) []).1 with feed := (s.ch ch).feed }).allocate ch (newEntry ((s.ch ch).walkSettle ((s.ch ch).fork.length + 1)).walkLine (s.walkVisit ch ((s.ch ch).walkSettle ((s.ch ch).fork.length + 1)).walkLine ((s.ch ch).walkSettle ((s.ch ch).fork.length + 1)).walk.curd 32 ((s.ch ch).walkSettle ((s.ch ch).fork.length + 1)) []).2 false d.index)) ∧
      t.ddr = { s.ddr with queue := s.ddr.queue ++ [⟨0, ch, ((s.ch ch).walkSettle ((s.ch ch).fork.length + 1)).walkLine, false⟩] }) ∧
  (∀ (s : State) (ch : Nat) (slot : Nat) (flip : List Byte) (e : FeedEntry), ch < s.channels → s.fetching ch = true → (s.ch ch).feed[slot]? = some e → ((s.ch ch).curds.any (fun d => decide (d.index = e.curd) && d.fault.isSome) = false) → e.arrived = false → e.asked = true → s.feedReturned ch e.line = true → 
    ∃ t, exec (.feedLineArrival ch slot flip) s = .next t ∧ Only [.regs, .dram, .grp, .chan, .srvAx, .srvCh, .lsr, .hoop, .port, .pci, .ddr, .intg, .xbar, .out] s t ∧
      t = s.feedFill ch slot e flip) ∧
  (∀ (s : State) (ch : Nat) (slot : Nat) (flip : List Byte) (e : FeedEntry), ch < s.channels → s.fetching ch = true → (s.ch ch).feed[slot]? = some e → ((s.ch ch).curds.any (fun d => decide (d.index = e.curd) && d.fault.isSome) = false) → e.arrived = false → e.asked = true → s.feedReturned ch e.line = true → s.dramOk (64 * e.line) 64 = true → s.poisoned e.line = false → ({ e with arrived := true, words := words64 (flipBytes (s.readDram (64 * e.line) 64) flip), crc := crc32c (s.readDram (64 * e.line) 64), checked := false } : FeedEntry).sound = true → e.head = false → (∀ d ∈ (s.ch ch).curds, d.index = e.curd → d.hdr = true → e.line ≠ d.line + 1 + (d.words - 1) / 8) → 
    ∃ t, exec (.feedLineArrival ch slot flip) s = .next t ∧ Only [.chan] s t ∧
      t.ch ch = { s.ch ch with feed := setNth (s.ch ch).feed slot ({ e with arrived := true, words := words64 (flipBytes (s.readDram (64 * e.line) 64) flip), crc := crc32c (s.readDram (64 * e.line) 64), checked := false } : FeedEntry) } ∧
      UnitsBut State.ch ch s t) ∧
  (∀ (s : State) (ch : Nat) (slot : Nat) (flip : List Byte) (e : FeedEntry), ch < s.channels → s.fetching ch = true → (s.ch ch).feed[slot]? = some e → ((s.ch ch).curds.any (fun d => decide (d.index = e.curd) && d.fault.isSome) = false) → e.arrived = false → e.asked = true → s.feedReturned ch e.line = true → (s.dramOk (64 * e.line) 64 = false ∨ s.poisoned e.line = true ∨ ({ e with arrived := true, words := words64 (flipBytes (s.readDram (64 * e.line) 64) flip), crc := crc32c (s.readDram (64 * e.line) 64), checked := false } : FeedEntry).sound = false) → e.refetch < 3 → 
    ∃ t, exec (.feedLineArrival ch slot flip) s = .next t ∧ Only [.regs, .dram, .grp, .chan, .srvAx, .srvCh, .lsr, .hoop, .port, .pci, .ddr, .intg, .xbar, .out] s t ∧
      t = s.refetch ch slot e ∧
      t.fld (R.SEQ_FEED_REFETCH ch) F.SEQ_FEED_REFETCH_COUNT = min (s.fld (R.SEQ_FEED_REFETCH ch) F.SEQ_FEED_REFETCH_COUNT + 1) (2 ^ F.SEQ_FEED_REFETCH_COUNT.width - 1)) ∧
  (∀ (s : State) (ch : Nat) (slot : Nat) (flip : List Byte) (e : FeedEntry), ch < s.channels → s.fetching ch = true → (s.ch ch).feed[slot]? = some e → ((s.ch ch).curds.any (fun d => decide (d.index = e.curd) && d.fault.isSome) = false) → e.arrived = true → 
    ∃ t, exec (.feedLineArrival ch slot flip) s = .next t ∧ Only [.chan] s t ∧
      (t.ch ch = { s.ch ch with feed := setNth (s.ch ch).feed slot { e with words := words64 (flipBytes (e.words.flatMap fun w => leBytes w.toNat 8) flip) } }) ∧
      UnitsBut State.ch ch s t)

/-- (R111, R112, R115, R116, R117, R120, R123) LIBRARY_LOAD in IDLE or DISABLED starts a load, LIBRARY_LOAD_DONE ends it with
VALID and CODE by the checks, LIBRARY_UNLOAD drops the library; in another state, or during a load, the command sets REJ.
CHANNEL_DISABLE leaves the channel DISABLED with its queues empty, CHANNEL_ENABLE leaves it IDLE, or STOPPED in a layer.
SEQ_BLOCK_RESET leaves the group unit and every channel at reset and sets the emission stop latch. The event ring registers
follow R123. -/
def Obligations.LibraryEnablesAndRing : Prop :=
  (∀ (s : State) (ch : Nat), ch < s.channels → s.libFree ch = true → 
    ∃ t, exec (.libraryLoad ch) s = .next t ∧ Only [.regs, .chan] s t ∧
      t.flag (R.SEQ_LIB_STAT ch) F.SEQ_LIB_STAT_BUSY = true ∧
      t.flag (R.SEQ_LIB_STAT ch) F.SEQ_LIB_STAT_VALID = false ∧
      t.ch ch = { s.ch ch with libLine := ((s.fld (R.SEQ_LIB_BASE ch) F.SEQ_LIB_BASE_LINE)) } ∧
      RegsBut [R.SEQ_LIB_STAT ch] s t) ∧
  (∀ (s : State) (ch : Nat), ch < s.channels → s.libFree ch = false → 
    ∃ t, exec (.libraryLoad ch) s = .next t ∧ Only [.regs] s t ∧
      t.flag (R.SEQ_LIB_STAT ch) F.SEQ_LIB_STAT_REJ = true ∧
      RegsBut [R.SEQ_LIB_STAT ch] s t) ∧
  (∀ (s : State) (ch : Nat), ch < s.channels → s.flag (R.SEQ_LIB_STAT ch) F.SEQ_LIB_STAT_BUSY = true → 
    ∃ t, exec (.libraryLoadDone ch) s = .next t ∧ Only [.regs, .chan] s t ∧
      t.flag (R.SEQ_LIB_STAT ch) F.SEQ_LIB_STAT_BUSY = false ∧
      t.flag (R.SEQ_LIB_STAT ch) F.SEQ_LIB_STAT_VALID = decide (s.libraryCheck ch (s.ch ch).libLine = 0) ∧
      t.fld (R.SEQ_LIB_STAT ch) F.SEQ_LIB_STAT_CODE = s.libraryCheck ch (s.ch ch).libLine ∧
      RegsBut [R.SEQ_LIB_STAT ch] s t) ∧
  (∀ (s : State) (ch : Nat), ch < s.channels → s.libFree ch = true → 
    ∃ t, exec (.libraryUnload ch) s = .next t ∧ Only [.regs, .chan] s t ∧
      t.flag (R.SEQ_LIB_STAT ch) F.SEQ_LIB_STAT_VALID = false ∧
      (t.ch ch).libWords = 0 ∧
      UnitsBut State.ch ch s t ∧
      RegsBut [R.SEQ_LIB_STAT ch] s t) ∧
  (∀ (s : State) (ch : Nat), ch < s.channels → s.chState ch ≠ 0 → 
    ∃ t, exec (.channelDisable ch) s = .next t ∧ Only [.regs, .dram, .grp, .chan, .srvAx, .srvCh, .lsr, .hoop, .port, .pci, .ddr, .xbar, .out] s t ∧
      t.chState ch = 0 ∧
      t.flag (R.SEQ_CTL ch) F.SEQ_CTL_EN = false ∧
      (t.ch ch).acts = [] ∧
      (t.ch ch).segs = [] ∧
      (t.ch ch).feed = [] ∧
      (t.ch ch).curds = [] ∧
      UnitsBut State.ch ch s t) ∧
  (∀ (s : State) (ch : Nat), ch < s.channels → s.chState ch = 0 → 
    ∃ t, exec (.channelEnable ch) s = .next t ∧ Only [.regs, .dram, .grp, .srvAx, .lsr, .pci, .ddr, .out] s t ∧
      (t.chState ch = (if s.layerArmed then 8 else 1)) ∧
      t.flag (R.SEQ_CTL ch) F.SEQ_CTL_EN = true) ∧
  (∀ (s : State), 
    ∃ t, exec (.seqBlockReset) s = .next t ∧ Only [.regs, .dram, .grp, .armUndo, .chan, .srvAx, .srvCh, .srv, .lsr, .hoop, .port, .head, .pci, .ddr, .cave, .xbar, .out] s t ∧
      t.grp = Group.reset ∧
      t.chan = [] ∧
      t.latched = true ∧
      ((List.range 32).all (fun ch => decide (t.chState ch = 0)) = true)) ∧
  (∀ (s : State) (v : Word), s.flag R.SEQ_EVT_CTL F.SEQ_EVT_CTL_EN = false → field F.SEQ_EVT_CTL_EN v = 1 → 6 ≤ field F.SEQ_EVT_CTL_LOG2 v → field F.SEQ_EVT_CTL_LOG2 v ≤ 16 → 
    ∃ t, exec (.seqEvtCtlWrite v) s = .next t ∧ Only [.regs] s t ∧
      t.flag R.SEQ_EVT_CTL F.SEQ_EVT_CTL_EN = true ∧
      t.fld R.SEQ_EVT_CTL F.SEQ_EVT_CTL_LOG2 = field F.SEQ_EVT_CTL_LOG2 v ∧
      t.reg R.SEQ_EVT_WR = 0 ∧
      t.reg R.SEQ_EVT_RD = 0 ∧
      RegsBut [R.SEQ_EVT_CTL, R.SEQ_EVT_WR, R.SEQ_EVT_RD] s t) ∧
  (∀ (s : State) (v : Word), s.flag R.SEQ_EVT_CTL F.SEQ_EVT_CTL_EN = false → 
    ∃ t, exec (.seqEvtBaseWrite v) s = .next t ∧ Only [.regs] s t ∧
      t.reg R.SEQ_EVT_BASE = v ∧
      RegsBut [R.SEQ_EVT_BASE] s t) ∧
  (∀ (s : State) (v : Word), s.flag R.SEQ_EVT_CTL F.SEQ_EVT_CTL_EN = true → 
    ∃ t, exec (.seqEvtBaseWrite v) s = .next t ∧ Only [.regs] s t ∧
      t.flag R.SEQ_EVT_CTL F.SEQ_EVT_CTL_RDERR = true ∧
      RegsBut [R.SEQ_EVT_CTL] s t) ∧
  (∀ (s : State) (v : Word), s.flag R.SEQ_EVT_CTL F.SEQ_EVT_CTL_EN = true → field F.SEQ_EVT_RD_INDEX v < s.evtSize → (field F.SEQ_EVT_RD_INDEX v + s.evtSize - s.fld R.SEQ_EVT_RD F.SEQ_EVT_RD_INDEX) % s.evtSize ≤ s.evtFill → 
    ∃ t, exec (.seqEvtRdWrite v) s = .next t ∧ Only [.regs] s t ∧
      t.fld R.SEQ_EVT_RD F.SEQ_EVT_RD_INDEX = field F.SEQ_EVT_RD_INDEX v ∧
      RegsBut [R.SEQ_EVT_RD] s t)

/-- (R131, R132, R137, R145, R146, R161, R152, R153, R155) SERVO_PERIOD_BOUNDARY at a multiple of 2,500 ns with SRV up runs one
period: an axis in current mode, without handover, excitation or integrity event, gets its commanded current limited by UMAX
of its region. SRV_AX_MODE_WRITE leaves the mode as a request, or sets REJ while the channel is in PRIMING to HALTED.
AXIS_ARITH_OFF after three failing periods sets the axis OFF with command zero. STALE_TRIP trips the gate after more than
STALEMAX windows without a frame. -/
def Obligations.ServoPeriodAndAxes : Prop :=
  (∀ (s : State) (a : Nat), s.time.mt % servoU = 0 → s.up dSRV = true → a < 3 * s.channels → s.fld (R.SRV_AX_STAT a) F.SRV_AX_STAT_MODE = 1 → (s.ax a).blend = none → (s.ax a).request = none → s.srv.zeroDue = false → s.srv.idRun = false → s.flag R.SRV_ID_CTL F.SRV_ID_CTL_ARM = false → s.intg.forced = [] → s.intg.planted = [] → 
    ∃ t, exec (.servoPeriodBoundary) s = .next t ∧ Only [.regs, .dram, .grp, .chan, .srvAx, .srvCh, .srv, .lsr, .hoop, .port, .pci, .ddr, .intg, .cave, .xbar, .free, .out] s t ∧
      t.sfld (R.SRV_AX_CMD a) F.SRV_AX_CMD_U = clampI (clampI (s.sfld (R.SRV_AX_ICMD a) F.SRV_AX_ICMD_CUR) (-(s.gains a (t.fld (R.SRV_AX_STAT a) F.SRV_AX_STAT_REGION)).umax) (s.gains a (t.fld (R.SRV_AX_STAT a) F.SRV_AX_STAT_REGION)).umax) (-524287) 524287 ∧
      t.srv.lastBoundary = some s.time.mt ∧
      t.fld (R.SRV_AX_STAT a) F.SRV_AX_STAT_MODE = 1) ∧
  (∀ (s : State) (a : Nat) (v : Word), a < 3 * s.channels → (s.chState (a / 3) < 2 ∨ 6 < s.chState (a / 3)) → 
    ∃ t, exec (.srvAxModeWrite a v) s = .next t ∧ Only [.regs, .srvAx, .head] s t ∧
      ((t.ax a).request = (if field F.SRV_AX_MODE_MODE v = s.fld (R.SRV_AX_STAT a) F.SRV_AX_STAT_MODE then none else some (field F.SRV_AX_MODE_MODE v))) ∧
      t.fld (R.SRV_AX_MODE a) F.SRV_AX_MODE_MODE = field F.SRV_AX_MODE_MODE v ∧
      t.fld (R.SRV_AX_MODE a) F.SRV_AX_MODE_BLEND = field F.SRV_AX_MODE_BLEND v ∧
      UnitsBut State.ax a s t ∧
      RegsBut [R.SRV_AX_MODE a] s t) ∧
  (∀ (s : State) (a : Nat) (v : Word), a < 3 * s.channels → 2 ≤ s.chState (a / 3) → s.chState (a / 3) ≤ 6 → 
    ∃ t, exec (.srvAxModeWrite a v) s = .next t ∧ Only [.regs, .srvAx, .head, .pci, .out] s t ∧
      t.ax a = s.ax a ∧
      t.flag (R.SRV_AX_MODE a) F.SRV_AX_MODE_REJ = true ∧
      t.flag R.SRV_ISR F.SRV_ISR_REJ = true ∧
      RegsBut [R.SRV_AX_MODE a, R.SRV_ISR] s t) ∧
  (∀ (s : State) (a : Nat), a < 3 * s.channels → 3 ≤ (s.ax a).fails → 
    ∃ t, exec (.axisArithOff a) s = .next t ∧ Only [.regs, .srvAx, .pci, .out] s t ∧
      t.fld (R.SRV_AX_STAT a) F.SRV_AX_STAT_MODE = 0 ∧
      t.reg (R.SRV_AX_CMD a) = 0 ∧
      (t.ax a).blend = none ∧
      (t.ax a).fails = 0 ∧
      t.flag (R.SRV_AX_STAT a) F.SRV_AX_STAT_ARITH = true ∧
      UnitsBut State.ax a s t ∧
      RegsBut [R.SRV_AX_STAT a, R.SRV_AX_CMD a, R.SRV_ISR] s t) ∧
  (∀ (s : State) (ch : Nat), ch < s.channels → s.checked ch = true → s.fld (R.SRV_CH_CFG ch) F.SRV_CH_CFG_STALEMAX < (s.sc ch).staleRun → 
    ∃ t, exec (.staleTrip ch) s = .next t ∧ Only [.regs, .dram, .grp, .srvAx, .srvCh, .lsr, .pci, .ddr, .out] s t ∧
      (t.sc ch).trip = some (s.grp.s + 1) ∧
      (t.sc ch).trips = min ((s.sc ch).trips + 1) 65535 ∧
      t.flag (R.SRV_CH_STAT ch) F.SRV_CH_STAT_TRIPPED = true ∧
      t.flag R.SRV_ISR F.SRV_ISR_TRIP = true ∧
      (t.gate ch = false ∨ (s.ls ch).manArmed = true)) ∧
  (∀ (s : State), s.time.mt % servoU = 0 → s.up dSRV = true → 
    ∃ t, exec (.servoPeriodBoundary) s = .next t ∧ Only [.regs, .dram, .grp, .chan, .srvAx, .srvCh, .srv, .lsr, .hoop, .port, .pci, .ddr, .intg, .cave, .xbar, .free, .out] s t ∧
      t = s.servoPeriod ∧
      t.srv.lastBoundary = some s.time.mt) ∧
  (∀ (s : State), s.time.mt % servoU = 0 → s.up dSRV = false → 
    ∃ t, exec (.servoPeriodBoundary) s = .next t ∧ Only [.regs, .dram, .grp, .chan, .srvAx, .srvCh, .srv, .lsr, .hoop, .port, .pci, .ddr, .intg, .cave, .xbar, .free, .out] s t ∧
      t = s.addSum 0) ∧
  (∀ (s : State) (ch : Nat), ch < s.channels → s.checked ch = true → s.fld (R.SRV_CH_CFG ch) F.SRV_CH_CFG_STALEMAX < (s.sc ch).staleRun → 
    ∃ t, exec (.staleTrip ch) s = .next t ∧ Only [.regs, .dram, .grp, .srvAx, .srvCh, .lsr, .pci, .ddr, .out] s t ∧
      t = s.trip ch V3.zero 0 true)

/-- (R151, R159, R163, R164, R165, R170) REPETITIVE_TABLE_WRITE stores the word unless an active period uses that table,
ACTIVE_GAIN_SET_WRITE stores the word masked to its fields while the axis is OFF, and each otherwise changes no table and
raises SRV_ISR.REJ. IDENTIFICATION_ARM stores the control word, and with ARM = 0 ends a capture; IDENTIFICATION_DONE after
4,096 periods clears ARM and BUSY and sets DONE. SRV_BLOCK_RESET leaves every axis and channel of the engine at reset and sets
the emission stop latch. -/
def Obligations.ServoTablesAndIdentification : Prop :=
  (∀ (s : State) (addr : Nat) (v : Word), 0x1100000 ≤ addr → addr < 0x1400000 → addr % 4 = 0 → (addr - 0x1100000) / 0x8000 < 3 * s.channels → (s.ax ((addr - 0x1100000) / 0x8000)).period = none → s.splitWrite = false → 
    ∃ t, exec (.repetitiveTableWrite addr v) s = .next t ∧ Only [.regs, .intg] s t ∧
      t.reg addr = v ∧
      RegsBut [addr] s t) ∧
  (∀ (s : State) (addr : Nat) (v : Word) (p : Period), 0x1100000 ≤ addr → addr < 0x1400000 → addr % 4 = 0 → (addr - 0x1100000) / 0x8000 < 3 * s.channels → (s.ax ((addr - 0x1100000) / 0x8000)).period = some p → p.tab = (addr - 0x1100000) % 0x8000 / 0x2000 → 
    ∃ t, exec (.repetitiveTableWrite addr v) s = .next t ∧ Only irqParts s t ∧
      t.flag R.SRV_ISR F.SRV_ISR_REJ = true ∧
      RegsBut [R.SRV_ISR] s t) ∧
  (∀ (s : State) (addr : Nat) (v : Word), 0x10C0000 ≤ addr → addr < 0x1100000 → addr % 4 = 0 → (addr - 0x10C0000) / 0x800 < 3 * s.channels → s.fld (R.SRV_AX_STAT ((addr - 0x10C0000) / 0x800)) F.SRV_AX_STAT_MODE = 0 → (s.ax ((addr - 0x10C0000) / 0x800)).blend = none → s.splitWrite = false → 
    ∃ t, exec (.activeGainSetWrite addr v) s = .next t ∧ Only [.regs, .intg] s t ∧
      (t.reg addr = v &&& BitVec.ofNat 32 (gainMask ((addr - 0x10C0000) % 0x800)) ∨ gainMask ((addr - 0x10C0000) % 0x800) = 0) ∧
      RegsBut [addr] s t) ∧
  (∀ (s : State) (addr : Nat) (v : Word), 0x10C0000 ≤ addr → addr < 0x1100000 → addr % 4 = 0 → (addr - 0x10C0000) / 0x800 < 3 * s.channels → s.fld (R.SRV_AX_STAT ((addr - 0x10C0000) / 0x800)) F.SRV_AX_STAT_MODE ≠ 0 → 
    ∃ t, exec (.activeGainSetWrite addr v) s = .next t ∧ Only irqParts s t ∧
      t.flag R.SRV_ISR F.SRV_ISR_REJ = true ∧
      RegsBut [R.SRV_ISR] s t) ∧
  (∀ (s : State) (v : Word), field F.SRV_ID_CTL_ARM v = 1 → 
    ∃ t, exec (.identificationArm v) s = .next t ∧ Only [.regs] s t ∧
      t.fld R.SRV_ID_CTL F.SRV_ID_CTL_AXIS = field F.SRV_ID_CTL_AXIS v ∧
      t.flag R.SRV_ID_CTL F.SRV_ID_CTL_ARM = true ∧
      RegsBut [R.SRV_ID_CTL] s t) ∧
  (∀ (s : State) (v : Word), field F.SRV_ID_CTL_ARM v = 0 → 
    ∃ t, exec (.identificationArm v) s = .next t ∧ Only [.regs, .srv] s t ∧
      t.srv.idRun = false ∧
      t.srv.idCount = 0 ∧
      t.flag R.SRV_ID_STAT F.SRV_ID_STAT_BUSY = false ∧
      RegsBut [R.SRV_ID_CTL, R.SRV_ID_STAT] s t) ∧
  (∀ (s : State), s.srv.idRun = true → 4096 ≤ s.srv.idCount → 
    ∃ t, exec (.identificationDone) s = .next t ∧ Only [.regs, .srv, .pci, .out] s t ∧
      t.srv.idRun = false ∧
      t.flag R.SRV_ID_CTL F.SRV_ID_CTL_ARM = false ∧
      t.flag R.SRV_ID_STAT F.SRV_ID_STAT_BUSY = false ∧
      t.flag R.SRV_ID_STAT F.SRV_ID_STAT_DONE = true ∧
      t.flag R.SRV_ISR F.SRV_ISR_IDDONE = true ∧
      RegsBut [R.SRV_ID_CTL, R.SRV_ID_STAT, R.SRV_ISR] s t) ∧
  (∀ (s : State), 
    ∃ t, exec (.srvBlockReset) s = .next t ∧ Only [.regs, .dram, .grp, .chan, .srvAx, .srvCh, .srv, .lsr, .hoop, .port, .head, .pci, .ddr, .cave, .xbar, .out] s t ∧
      t.srvAx = [] ∧
      t.srvCh = [] ∧
      t.srv.idRun = false ∧
      t.latched = true) ∧
  (∀ (s : State) (addr : Nat) (v : Word), 0x1100000 ≤ addr → addr < 0x1400000 → addr % 4 = 0 → (addr - 0x1100000) / 0x8000 < 3 * s.channels → (((s.ax ((addr - 0x1100000) / 0x8000)).period.all fun p => decide (p.tab ≠ (addr - 0x1100000) % 0x8000 / 0x2000)) = true) → 
    ∃ t, exec (.repetitiveTableWrite addr v) s = .next t ∧ Only [.regs, .pci, .intg, .out] s t ∧
      t = s.tableStore addr 0xFFFFFFFF v) ∧
  (∀ (s : State) (addr : Nat) (v : Word), 0x10C0000 ≤ addr → addr < 0x1100000 → addr % 4 = 0 → (addr - 0x10C0000) / 0x800 < 3 * s.channels → s.fld (R.SRV_AX_STAT ((addr - 0x10C0000) / 0x800)) F.SRV_AX_STAT_MODE = 0 → (s.ax ((addr - 0x10C0000) / 0x800)).blend = none → gainMask ((addr - 0x10C0000) % 0x800) ≠ 0 → 
    ∃ t, exec (.activeGainSetWrite addr v) s = .next t ∧ Only [.regs, .pci, .intg, .out] s t ∧
      t = s.tableStore addr (gainMask ((addr - 0x10C0000) % 0x800)) v)

/-- (R91, R94, R154, R168, R173, R174, R178, R179, R180, R187) GATE_EDGE takes the due LON from the queue and opens the stream
gate with its window, or, with the latch set, is the LASER fault; a due LOFF closes it. POWER_INSTANT with a due PSET and the
loop off leaves PSET in force, shows it clamped to PMIN and PMAX, and converts its power-mapped code. FREE_CADENCE_SAMPLE
while the group does not run shows the two corrected photodiode codes. -/
def Obligations.GateEdgesAndPowerInstants : Prop :=
  (∀ (s : State) (ch : Nat) (tt fine win : Nat) (as : List Action), ch < s.channels → s.acting ch = true → s.chState ch = 4 → (s.ch ch).train = none → (s.ch ch).acts = ⟨tt, .gateOn fine win⟩ :: as → tt ≤ s.grp.s → s.ready ch = true → s.latched = false → (s.ls ch).streamGate = false → (s.ls ch).holds = [] → 
    ∃ t, exec (.gateEdge ch) s = .next t ∧ Only [.regs, .dram, .grp, .chan, .srvAx, .srvCh, .lsr, .hoop, .port, .pci, .ddr, .xbar, .out] s t ∧
      (t.ls ch).streamGate = true ∧
      (t.sc ch).win = win ∧
      (t.ch ch).acts = as ∧
      UnitsBut State.ls ch s t ∧
      UnitsBut State.ch ch s t) ∧
  (∀ (s : State) (ch : Nat) (tt fine win : Nat) (as : List Action), ch < s.channels → s.acting ch = true → s.chState ch = 4 → (s.ch ch).train = none → (s.ch ch).acts = ⟨tt, .gateOn fine win⟩ :: as → tt ≤ s.grp.s → s.ready ch = true → s.latched = true → (s.ls ch).streamGate = false → (s.ls ch).holds = [] → s.fld (R.SEQ_FAULT ch) F.SEQ_FAULT_CODE = 0 → 
    ∃ t, exec (.gateEdge ch) s = .next t ∧ Only [.regs, .dram, .grp, .chan, .srvAx, .srvCh, .lsr, .hoop, .port, .pci, .ddr, .xbar, .out] s t ∧
      (t.ls ch).streamGate = false ∧
      t.chState ch = 7 ∧
      t.fld (R.SEQ_FAULT ch) F.SEQ_FAULT_CODE = 0x29 ∧
      t.flag (R.LSR_CH_STAT ch) F.LSR_CH_STAT_LASERFLT = true) ∧
  (∀ (s : State) (ch : Nat) (tt fine : Nat) (as : List Action), ch < s.channels → s.acting ch = true → s.chState ch = 4 → (s.ch ch).train = none → (s.ch ch).acts = ⟨tt, .gateOff fine⟩ :: as → tt ≤ s.grp.s → (s.ls ch).streamGate = true → 
    ∃ t, exec (.gateEdge ch) s = .next t ∧ Only [.regs, .dram, .grp, .chan, .srvAx, .srvCh, .lsr, .hoop, .port, .pci, .ddr, .xbar, .out] s t ∧
      (t.ls ch).streamGate = false ∧
      (t.ch ch).acts = as ∧
      t.streamPath ch = false ∧
      UnitsBut State.ls ch s t ∧
      UnitsBut State.ch ch s t) ∧
  (∀ (s : State) (ch : Nat) (rawA rawB tt pw : Nat), ch < s.channels → s.acting ch = true → s.chState ch = 4 → s.grpState = 2 → s.grp.run = true → s.grp.s % 125 = 0 → s.gateDomains = true → (s.ch ch).acts = [⟨tt, .pset pw⟩] → tt ≤ s.grp.s → pw < 65536 → (s.ls ch).mp.mode = 0 → (s.ls ch).blend = none → (s.ls ch).fades = [] → s.intg.forced = [] → s.intg.planted = [] → s.sfld (R.LSR_CH_ENV ch) F.LSR_CH_ENV_LO ≤ 0 → 0 ≤ s.sfld (R.LSR_CH_ENV ch) F.LSR_CH_ENV_HI → s.fld (R.LSR_CH_PLIM ch) F.LSR_CH_PLIM_PMIN ≤ s.fld (R.LSR_CH_PLIM ch) F.LSR_CH_PLIM_PMAX → 
    ∃ t, exec (.powerInstant ch rawA rawB) s = .next t ∧ Only [.regs, .dram, .grp, .chan, .srvAx, .srvCh, .lsr, .hoop, .port, .pci, .ddr, .intg, .cave, .xbar, .out] s t ∧
      (t.ls ch).pset = pw ∧
      (t.ls ch).ramp = none ∧
      (t.ch ch).acts = [] ∧
      t.fld (R.LSR_CH_OUT ch) F.LSR_CH_OUT_POUT = max (s.fld (R.LSR_CH_PLIM ch) F.LSR_CH_PLIM_PMIN) (min pw (s.fld (R.LSR_CH_PLIM ch) F.LSR_CH_PLIM_PMAX)) ∧
      t.fld (R.LSR_CH_OUT ch) F.LSR_CH_OUT_DAC = s.powerMap ch (max (s.fld (R.LSR_CH_PLIM ch) F.LSR_CH_PLIM_PMIN) (min pw (s.fld (R.LSR_CH_PLIM ch) F.LSR_CH_PLIM_PMAX))) % 65536 ∧
      UnitsBut State.ls ch s t) ∧
  (∀ (s : State) (ch : Nat) (rawA rawB : Nat), ch < s.channels → s.grp.run = false → s.up dAFE = true → s.intg.planted = [] → rawA < 16384 → rawB < 16384 → 
    ∃ t, exec (.freeCadenceSample ch rawA rawB) s = .next t ∧ Only [.regs, .dram, .grp, .chan, .srvAx, .srvCh, .lsr, .hoop, .port, .pci, .ddr, .intg, .cave, .xbar, .out] s t ∧
      t.reg (R.LSR_CH_PD ch) = BitVec.ofNat 32 ((s.pdCorrect ch 0 rawA).1 + (s.pdCorrect ch 0 rawA).2.toNat * 2 ^ 14 + (s.pdCorrect ch 1 rawB).1 * 2 ^ 16 + (s.pdCorrect ch 1 rawB).2.toNat * 2 ^ 30) ∧
      RegsBut [R.LSR_CH_PD ch, R.LSR_CH_EVENTS ch, R.LSR_CH_OUT ch] s t ∧
      UnitsBut State.ls ch s t) ∧
  (∀ (s : State) (ch : Nat) (r : Train), ch < s.channels → s.acting ch = true → (s.ch ch).train = some r → r.edge ≤ s.grp.s → 
    ∃ t, exec (.gateEdge ch) s = .next t ∧ Only [.regs, .dram, .grp, .chan, .srvAx, .srvCh, .lsr, .hoop, .port, .pci, .ddr, .xbar, .out] s t ∧
      t = s.trainEdge ch r) ∧
  (∀ (s : State) (ch : Nat), ch < s.channels → s.acting ch = true → (s.ch ch).train = none → 
    ∃ t, exec (.gateEdge ch) s = .next t ∧ Only [.regs, .dram, .grp, .chan, .srvAx, .srvCh, .lsr, .hoop, .port, .pci, .ddr, .xbar, .out] s t ∧
      t = s.queueEdge ch) ∧
  (∀ (s : State) (ch : Nat) (rawA rawB : Nat), ch < s.channels → s.grp.run = true → s.grpState = 2 → s.grp.s % 125 = 0 → s.gateDomains = true → (1 < s.chState ch ∨ s.flag (R.LSR_CH_MAN ch) F.LSR_CH_MAN_EN = false) → s.intg.forced = [] → s.intg.hidden = [] → (s.powerActs ch).unsound ((s.powerActs ch).loopRanges ch) = [] → 
    ∃ t, exec (.powerInstant ch rawA rawB) s = .next t ∧ Only [.regs, .dram, .grp, .chan, .srvAx, .srvCh, .lsr, .hoop, .port, .pci, .ddr, .intg, .cave, .xbar, .out] s t ∧
      t = (s.powerActs ch).powerLoop ch rawA rawB) ∧
  (∀ (s : State) (ch : Nat) (rawA rawB : Nat), ch < s.channels → s.grp.run = true → s.grpState = 2 → s.grp.s % 125 = 0 → s.gateDomains = true → (1 < s.chState ch ∨ s.flag (R.LSR_CH_MAN ch) F.LSR_CH_MAN_EN = false) → s.intg.forced = [] → s.intg.hidden = [] → s.intg.planted = [] → 
    ∃ t, exec (.powerInstant ch rawA rawB) s = .next t ∧ Only [.regs, .dram, .grp, .chan, .srvAx, .srvCh, .lsr, .hoop, .port, .pci, .ddr, .intg, .cave, .xbar, .out] s t ∧
      ((t.ch ch).acts = (if s.acting ch then (powerDue s.grp.s (s.ch ch).acts).2 else (s.ch ch).acts)) ∧
      (t.ls ch).sampleAt = s.time.mt - tickU * 75 / 2 ∧
      t.chState ch = s.chState ch ∧
      t.reg (R.LSR_CH_PD ch) = BitVec.ofNat 32 ((s.pdCorrect ch 0 (rawA % 16384)).1 + (s.pdCorrect ch 0 (rawA % 16384)).2.toNat * 2 ^ 14 + (s.pdCorrect ch 1 (rawB % 16384)).1 * 2 ^ 16 + (s.pdCorrect ch 1 (rawB % 16384)).2.toNat * 2 ^ 30)) ∧
  (∀ (s : State) (ch : Nat) (rawA rawB : Nat), ch < s.channels → (s.grp.run = false ∨ (s.chState ch ≤ 1 ∧ s.flag (R.LSR_CH_MAN ch) F.LSR_CH_MAN_EN = true)) → s.up dAFE = true → s.freeSample ch = true → s.unsound [(0x1831000 + 0x10 * ch, 8)] = [] → 
    ∃ t, exec (.freeCadenceSample ch rawA rawB) s = .next t ∧ Only [.regs, .dram, .grp, .chan, .srvAx, .srvCh, .lsr, .hoop, .port, .pci, .ddr, .intg, .cave, .xbar, .out] s t ∧
      (t = ((s.modLs ch fun l => { l with sampleAt := s.time.mt }).pdTake ch (s.pdCorrect ch 0 (rawA % 16384)) (s.pdCorrect ch 1 (rawB % 16384))).convert ch (s.fld (R.LSR_CH_OUT ch) F.LSR_CH_OUT_DAC)))

/-- (R168, R170, R171, R172, R173, R193) EMSTOP_N_FALL sets the latch with cause bit 0, counts itself and leaves every gate low.
EMISSION_STOP_CLEAR from the host clears latch and cause when EMSTOP_N is high, no reset is asserted, EXTEST is not loaded and
the device is not in safe state, and is otherwise rejected. MANUAL_DRIVE_WRITE stores EN, GATE and CODE in IDLE or DISABLED
without latch. LFLT_N going low, and LRDY, update the qualified levels; in a layer a laser fault is the channel fault LASER. -/
def Obligations.EmissionStopAndManualDrive : Prop :=
  (∀ (s : State), 
    ∃ t, exec (.emstopNFall) s = .next t ∧ Only [.regs, .dram, .grp, .chan, .srvAx, .srvCh, .lsr, .hoop, .port, .pci, .ddr, .cave, .pins, .xbar, .out] s t ∧
      t.latched = true ∧
      bitAt (t.fld R.LSR_EMS F.LSR_EMS_CAUSE) 0 = true ∧
      t.fld R.LSR_EMS_CNT F.LSR_EMS_CNT_COUNT = min (s.fld R.LSR_EMS_CNT F.LSR_EMS_CNT_COUNT + 1) (2 ^ F.LSR_EMS_CNT_COUNT.width - 1) ∧
      t.gates = 0 ∧
      t.layerLive = false) ∧
  (∀ (s : State), s.pins.emstopN = true → s.resetOn = false → s.boot.extest = false → s.fld R.BOOT_STAT F.BOOT_STAT_SSC ≠ 2 → 
    ∃ t, exec (.emissionStopClear .host) s = .next t ∧ Only [.regs, .lsr] s t ∧
      t.latched = false ∧
      t.fld R.LSR_EMS F.LSR_EMS_CAUSE = 0 ∧
      RegsBut [R.LSR_EMS] s t) ∧
  (∀ (s : State) (src : Source), (src ≠ .host ∨ s.pins.emstopN = false ∨ s.resetOn = true ∨ s.boot.extest = true ∨ s.fld R.BOOT_STAT F.BOOT_STAT_SSC = 2) → 
    ∃ t, exec (.emissionStopClear src) s = .next t ∧ Only irqParts s t ∧
      t.flag R.LSR_ISR F.LSR_ISR_REJ = true ∧
      RegsBut [R.LSR_ISR] s t) ∧
  (∀ (s : State) (ch : Nat) (v : Word), ch < s.channels → s.chState ch ≤ 1 → s.latched = false → 
    ∃ t, exec (.manualDriveWrite ch v) s = .next t ∧ Only [.regs, .lsr] s t ∧
      t.reg (R.LSR_CH_MAN ch) = v &&& 0xFFFF0003 ∧
      RegsBut [R.LSR_CH_MAN ch] s t ∧
      UnitsBut State.ls ch s t) ∧
  (∀ (s : State) (ch : Nat) (v : Word), ch < s.channels → (1 < s.chState ch ∨ s.latched = true) → 
    ∃ t, exec (.manualDriveWrite ch v) s = .next t ∧ Only irqParts s t ∧
      t.flag R.LSR_ISR F.LSR_ISR_REJ = true ∧
      RegsBut [R.LSR_ISR] s t) ∧
  (∀ (s : State) (ch : Nat), ch < s.channels → s.laserFault ch = false → s.inLayer ch = true → s.fld (R.SEQ_FAULT ch) F.SEQ_FAULT_CODE = 0 → 
    ∃ t, exec (.lfltNQualified ch false) s = .next t ∧ Only [.regs, .dram, .grp, .chan, .srvAx, .srvCh, .lsr, .hoop, .port, .pci, .ddr, .xbar, .out] s t ∧
      t.laserFault ch = true ∧
      t.chState ch = 7 ∧
      t.fld (R.SEQ_FAULT ch) F.SEQ_FAULT_CODE = 0x29 ∧
      t.flag (R.LSR_CH_STAT ch) F.LSR_CH_STAT_LASERFLT = true ∧
      t.gate ch = false) ∧
  (∀ (s : State) (ch : Nat), ch < s.channels → s.laserFault ch = true → 
    ∃ t, exec (.lfltNQualified ch true) s = .next t ∧ Only [.regs] s t ∧
      t.laserFault ch = false ∧
      RegsBut [R.LSR_CH_STAT ch] s t) ∧
  (∀ (s : State) (ch : Nat), ch < s.channels → s.flag (R.LSR_CH_STAT ch) F.LSR_CH_STAT_RDY = false → 
    ∃ t, exec (.lrdyQualified ch true) s = .next t ∧ Only [.regs] s t ∧
      t.flag (R.LSR_CH_STAT ch) F.LSR_CH_STAT_RDY = true ∧
      RegsBut [R.LSR_CH_STAT ch] s t) ∧
  (∀ (s : State) (ch : Nat), ch < s.channels → s.flag (R.LSR_CH_STAT ch) F.LSR_CH_STAT_RDY = true → s.flag (R.LSR_CH_CFG ch) F.LSR_CH_CFG_RDYIGN = false → s.inLayer ch = true → (s.ls ch).streamGate = true → s.fld (R.SEQ_FAULT ch) F.SEQ_FAULT_CODE = 0 → 
    ∃ t, exec (.lrdyQualified ch false) s = .next t ∧ Only [.regs, .dram, .grp, .chan, .srvAx, .srvCh, .lsr, .hoop, .port, .pci, .ddr, .xbar, .out] s t ∧
      t.flag (R.LSR_CH_STAT ch) F.LSR_CH_STAT_RDY = false ∧
      t.chState ch = 7 ∧
      t.fld (R.SEQ_FAULT ch) F.SEQ_FAULT_CODE = 0x29) ∧
  (∀ (s : State), 
    ∃ t, exec (.emstopNFall) s = .next t ∧ Only [.regs, .dram, .grp, .chan, .srvAx, .srvCh, .lsr, .hoop, .port, .pci, .ddr, .cave, .pins, .xbar, .out] s t ∧
      t = ((({ s with pins := { s.pins with emstopN := false } } : State).satAdd R.LSR_EMS_CNT F.LSR_EMS_CNT_COUNT 1).emissionStop 0).stopLayer 6 ∧
      t.pins.emstopN = false) ∧
  (∀ (s : State) (ch : Nat) (v : Word), ch < s.channels → s.chState ch ≤ 1 → s.latched = false → 
    ∃ t, exec (.manualDriveWrite ch v) s = .next t ∧ Only [.regs, .lsr, .pci, .out] s t ∧
      t = ((s.setReg (R.LSR_CH_MAN ch) (v &&& 0xFFFF0003)).lapse ch).armManual ch) ∧
  (∀ (s : State) (ch : Nat) (high : Bool), ch < s.channels → s.laserFault ch = high → 
    ∃ t, exec (.lfltNQualified ch high) s = .next t ∧ Only [.regs, .dram, .grp, .chan, .srvAx, .srvCh, .lsr, .hoop, .port, .pci, .ddr, .xbar, .out] s t ∧
      t.laserFault ch = !high ∧
      (high = true → t = (s.setFlag (R.LSR_CH_STAT ch) F.LSR_CH_STAT_FLT false).lapse ch) ∧
      (high = false → t.flag (R.LSR_CH_STAT ch) F.LSR_CH_STAT_LASERFLT = true ∧ t.gate ch = false)) ∧
  (∀ (s : State) (ch : Nat) (high : Bool), ch < s.channels → s.laserFault ch = high → high = false → s.inLayer ch = false → 
    ∃ t, exec (.lfltNQualified ch high) s = .next t ∧ Only [.regs, .dram, .grp, .chan, .srvAx, .srvCh, .lsr, .hoop, .port, .pci, .ddr, .xbar, .out] s t ∧
      (t = ((s.setFlag (R.LSR_CH_STAT ch) F.LSR_CH_STAT_FLT true).laserCond ch (if s.flag (R.LSR_CH_MAN ch) F.LSR_CH_MAN_EN then 6 else 1) false).manualEnd ch)) ∧
  (∀ (s : State) (ch : Nat) (high : Bool), ch < s.channels → s.flag (R.LSR_CH_STAT ch) F.LSR_CH_STAT_RDY = !high → 
    ∃ t, exec (.lrdyQualified ch high) s = .next t ∧ Only [.regs, .dram, .grp, .chan, .srvAx, .srvCh, .lsr, .hoop, .port, .pci, .ddr, .xbar, .out] s t ∧
      t.flag (R.LSR_CH_STAT ch) F.LSR_CH_STAT_RDY = high ∧
      (high = true ∨ s.flag (R.LSR_CH_CFG ch) F.LSR_CH_CFG_RDYIGN = true → RegsBut [R.LSR_CH_STAT ch] s t)) ∧
  (∀ (s : State) (ch : Nat) (high : Bool), ch < s.channels → s.flag (R.LSR_CH_STAT ch) F.LSR_CH_STAT_RDY = true → high = false → s.flag (R.LSR_CH_CFG ch) F.LSR_CH_CFG_RDYIGN = false → 
    ∃ t, exec (.lrdyQualified ch high) s = .next t ∧ Only [.regs, .dram, .grp, .chan, .srvAx, .srvCh, .lsr, .hoop, .port, .pci, .ddr, .xbar, .out] s t ∧
      t = (s.setFlag (R.LSR_CH_STAT ch) F.LSR_CH_STAT_RDY false).rdyLow ch ((s.ls ch).manArmed && s.gate ch))

/-- (R191, R194, R195, R196, R197, R170) LSR_LOG_CTL_WRITE stores MODE, DEC, LOG2 and PANIC when each is admitted.
MELT_POOL_GAIN_SET_WRITE and LSR_ACTIVE_SET_WRITE store a word masked to its fields while the channel is IDLE or DISABLED (the
active set: and not under manual drive), else they raise LSR_ISR.REJ and store nothing. LSR_BLOCK_RESET leaves every laser
channel at reset and the latch set. -/
def Obligations.LaserWritesAndReset : Prop :=
  (∀ (s : State) (ch : Nat) (v : Word), ch < s.channels → s.fld (R.LSR_LOG_CTL ch) F.LSR_LOG_CTL_MODE = 0 → 4 ≤ field F.LSR_LOG_CTL_LOG2 v → field F.LSR_LOG_CTL_LOG2 v ≤ 20 → field F.LSR_LOG_CTL_PANIC v ≠ 0 → (field F.LSR_LOG_CTL_MODE v = 1 ∨ field F.LSR_LOG_CTL_MODE v = 2) → 
    ∃ t, exec (.lsrLogCtlWrite ch v) s = .next t ∧ Only [.regs] s t ∧
      t.fld (R.LSR_LOG_CTL ch) F.LSR_LOG_CTL_MODE = field F.LSR_LOG_CTL_MODE v ∧
      t.fld (R.LSR_LOG_CTL ch) F.LSR_LOG_CTL_LOG2 = field F.LSR_LOG_CTL_LOG2 v ∧
      t.fld (R.LSR_LOG_CTL ch) F.LSR_LOG_CTL_DEC = field F.LSR_LOG_CTL_DEC v ∧
      t.fld (R.LSR_LOG_CTL ch) F.LSR_LOG_CTL_PANIC = field F.LSR_LOG_CTL_PANIC v ∧
      RegsBut [R.LSR_LOG_CTL ch] s t) ∧
  (∀ (s : State) (addr : Nat) (v : Word), 0x1800000 ≤ addr → addr < 0x1804000 → addr % 4 = 0 → ((addr - 0x1800000) / 0x200) < s.channels → s.chState ((addr - 0x1800000) / 0x200) ≤ 1 → meltMask (addr % 0x20) ≠ 0 → s.splitWrite = false → 
    ∃ t, exec (.meltPoolGainSetWrite addr v) s = .next t ∧ Only [.regs, .intg] s t ∧
      t.reg addr = v &&& BitVec.ofNat 32 (meltMask (addr % 0x20)) ∧
      RegsBut [addr] s t) ∧
  (∀ (s : State) (addr : Nat) (v : Word), 0x1800000 ≤ addr → addr < 0x1804000 → addr % 4 = 0 → ((addr - 0x1800000) / 0x200) < s.channels → 1 < s.chState ((addr - 0x1800000) / 0x200) → 
    ∃ t, exec (.meltPoolGainSetWrite addr v) s = .next t ∧ Only irqParts s t ∧
      t.flag R.LSR_ISR F.LSR_ISR_REJ = true ∧
      RegsBut [R.LSR_ISR] s t) ∧
  (∀ (s : State) (addr n m : Nat) (v : Word), addr % 4 = 0 → lsrActive addr = some (n, m) → n < s.channels → s.chState n ≤ 1 → s.flag (R.LSR_CH_MAN n) F.LSR_CH_MAN_EN = false → m ≠ 0 → s.splitWrite = false → 
    ∃ t, exec (.lsrActiveSetWrite addr v) s = .next t ∧ Only [.regs, .intg] s t ∧
      t.reg addr = v &&& BitVec.ofNat 32 m ∧
      RegsBut [addr] s t) ∧
  (∀ (s : State) (addr n m : Nat) (v : Word), addr % 4 = 0 → lsrActive addr = some (n, m) → n < s.channels → (1 < s.chState n ∨ s.flag (R.LSR_CH_MAN n) F.LSR_CH_MAN_EN = true) → 
    ∃ t, exec (.lsrActiveSetWrite addr v) s = .next t ∧ Only irqParts s t ∧
      t.flag R.LSR_ISR F.LSR_ISR_REJ = true ∧
      RegsBut [R.LSR_ISR] s t) ∧
  (∀ (s : State), 
    ∃ t, exec (.lsrBlockReset) s = .next t ∧ Only [.regs, .dram, .grp, .chan, .srvAx, .srvCh, .srv, .lsr, .hoop, .port, .head, .pci, .ddr, .cave, .xbar, .out] s t ∧
      t.lsr = [] ∧
      t.latched = true ∧
      t.gates = 0) ∧
  (∀ (s : State) (ch : Nat) (v : Word), ch < s.channels → field F.LSR_LOG_CTL_MODE v ≠ 3 → 
    ∃ t, exec (.lsrLogCtlWrite ch v) s = .next t ∧ Only [.regs, .dram, .grp, .lsr, .pci, .ddr, .out] s t ∧
      t.fld (R.LSR_LOG_CTL ch) F.LSR_LOG_CTL_MODE = field F.LSR_LOG_CTL_MODE v ∧
      t.fld (R.LSR_LOG_CTL ch) F.LSR_LOG_CTL_DEC = field F.LSR_LOG_CTL_DEC v ∧
      (t.fld (R.LSR_LOG_CTL ch) F.LSR_LOG_CTL_LOG2 = (if s.fld (R.LSR_LOG_CTL ch) F.LSR_LOG_CTL_MODE = 0 ∧ 4 ≤ field F.LSR_LOG_CTL_LOG2 v ∧ field F.LSR_LOG_CTL_LOG2 v ≤ 20 then field F.LSR_LOG_CTL_LOG2 v else s.fld (R.LSR_LOG_CTL ch) F.LSR_LOG_CTL_LOG2)) ∧
      (t.fld (R.LSR_LOG_CTL ch) F.LSR_LOG_CTL_PANIC = (if field F.LSR_LOG_CTL_PANIC v = 0 then s.fld (R.LSR_LOG_CTL ch) F.LSR_LOG_CTL_PANIC else field F.LSR_LOG_CTL_PANIC v))) ∧
  (∀ (s : State) (addr : Nat) (v : Word), 0x1800000 ≤ addr → addr < 0x1804000 → addr % 4 = 0 → ((addr - 0x1800000) / 0x200) < s.channels → s.chState ((addr - 0x1800000) / 0x200) ≤ 1 → meltMask (addr % 0x20) ≠ 0 → 
    ∃ t, exec (.meltPoolGainSetWrite addr v) s = .next t ∧ Only [.regs, .pci, .intg, .out] s t ∧
      t = s.tableStore addr (meltMask (addr % 0x20)) v) ∧
  (∀ (s : State) (addr n m : Nat) (v : Word), addr % 4 = 0 → lsrActive addr = some (n, m) → n < s.channels → s.chState n ≤ 1 → s.flag (R.LSR_CH_MAN n) F.LSR_CH_MAN_EN = false → m ≠ 0 → 
    ∃ t, exec (.lsrActiveSetWrite addr v) s = .next t ∧ Only [.regs, .pci, .intg, .out] s t ∧
      t = s.tableStore addr m v)

/-- (R237, R238, R239, R240, R241, R245, R246, R249) HAND_TOKEN_RECEIVED stores a token for a channel in the layer that has no
matching HAND, from the crossbar or from the peer of the port; TOKEN_EXPIRY drops stored tokens whose anchor has passed.
COMMIT marks a giver that may commit and sends COMMIT. COMMITMENT_CLOSE makes the outcome of an uncommitted giver fallback
with the first cause that holds; HAND_DECISION fixes the outcome; HAND_END ends the HAND and counts a normal part;
HAND_RECORD_TIMEOUT posts the record that still waits for a frame. Whatever else waits, each of them acts on the first HAND to
which its time and its conditions apply, and a token goes to the channel that it names. -/
def Obligations.HandoffProtocol : Prop :=
  (∀ (s : State) (pk : Packet) (tk : Token) (ts : List Token), s.xbar = tk :: ts → tk.toCh < s.channels → bitAt s.grp.pmask tk.toCh = true → s.inLayer tk.toCh = true → tk.layer = s.grp.layer → (s.ch tk.toCh).hands = [] → s.grp.s ≤ tk.anchor → (s.ch tk.toCh).tokens.length < 8 → 
    ∃ t, exec (.handTokenReceived none pk) s = .next t ∧ Only [.regs, .dram, .grp, .chan, .srvAx, .srvCh, .lsr, .hoop, .port, .pci, .ddr, .xbar, .out] s t ∧
      t.xbar = ts ∧
      t.ch tk.toCh = { s.ch tk.toCh with tokens := (s.ch tk.toCh).tokens ++ [tk] } ∧
      UnitsBut State.ch tk.toCh s t ∧
      RegsBut [] s t) ∧
  (∀ (s : State) (port : Nat) (pk : Packet) (tk : Token), s.consumes port pk = true → port < 8 → pk.cls = 0x11 → s.fld (R.HOOP_PT_STAT port) F.HOOP_PT_STAT_PEER = pk.src → tk = tokenAt pk.src pk.payload → tk.toCh < s.channels → bitAt s.grp.pmask tk.toCh = true → s.inLayer tk.toCh = true → tk.layer = s.grp.layer → (s.ch tk.toCh).hands = [] → s.grp.s ≤ tk.anchor → (s.ch tk.toCh).tokens.length < 8 → 
    ∃ t, exec (.handTokenReceived (some port) pk) s = .next t ∧ Only [.regs, .dram, .grp, .chan, .srvAx, .srvCh, .lsr, .hoop, .port, .pci, .ddr, .xbar, .out] s t ∧
      t.ch tk.toCh = { s.ch tk.toCh with tokens := (s.ch tk.toCh).tokens ++ [tk] } ∧
      UnitsBut State.ch tk.toCh s t ∧
      RegsBut [] s t) ∧
  (∀ (s : State) (ch : Nat), ch < s.channels → 
    ∃ t, exec (.tokenExpiry ch) s = .next t ∧ Only [.regs, .chan] s t ∧
      ((t.ch ch).tokens = (s.ch ch).tokens.filter fun k => decide (s.grp.s ≤ k.anchor)) ∧
      UnitsBut State.ch ch s t ∧
      RegsBut [R.STI_CH_TOKERR ch] s t) ∧
  (∀ (s : State) (ch : Nat) (h : Hand), ch < s.channels → (s.ch ch).hands = [h] → s.mayCommit ch h = true → h.pdev = s.devid → 
    ∃ t, exec (.commit ch) s = .next t ∧ Only [.chan, .hoop, .port, .xbar] s t ∧
      t.ch ch = { s.ch ch with hands := [{ h with committed := true }] } ∧
      t.xbar = s.xbar ++ [s.handToken ch h 2 0] ∧
      UnitsBut State.ch ch s t ∧
      RegsBut [] s t) ∧
  (∀ (s : State) (ch : Nat) (h : Hand), ch < s.channels → s.acting ch = true → (s.ch ch).hands = [h] → h.take = false → h.committed = false → h.outcome = .undecided → h.anchor ≤ s.grp.s + 3750 → 
    ∃ t, exec (.commitmentClose ch) s = .next t ∧ Only [.regs, .dram, .grp, .chan, .hoop, .port, .pci, .ddr, .xbar, .out] s t ∧
      t.ch ch = { s.ch ch with hands := [{ h with outcome := .fallback (s.closeCause h) }] } ∧
      t.fld (R.STI_CH_FB ch) F.STI_CH_FB_OWN = min (s.fld (R.STI_CH_FB ch) F.STI_CH_FB_OWN + 1) (2 ^ F.STI_CH_FB_OWN.width - 1) ∧
      t.flag R.STI_ISR F.STI_ISR_FALLBACK = true ∧
      UnitsBut State.ch ch s t) ∧
  (∀ (s : State) (ch : Nat) (h : Hand), ch < s.channels → s.acting ch = true → (s.ch ch).hands = [h] → h.decided = false → h.fb = false → h.anchor ≤ s.grp.s + 2500 → 
    ∃ t, exec (.handDecision ch) s = .next t ∧ Only [.regs, .dram, .grp, .chan, .srvAx, .srvCh, .lsr, .hoop, .port, .pci, .ddr, .xbar, .out] s t ∧
      t.ch ch = { s.ch ch with hands := [{ h with outcome := s.decideHand h, decided := true, theta := s.handTheta h }] } ∧
      ((t.ls ch).fades = (s.ls ch).fades ++ (if s.decideHand h = .normal then [⟨h.anchor, h.xf, h.take⟩] else [])) ∧
      UnitsBut State.ch ch s t) ∧
  (∀ (s : State) (ch : Nat) (h : Hand), ch < s.channels → s.acting ch = true → (s.ch ch).hands = [h] → h.decided = true → h.anchor + h.xf ≤ s.grp.s → h.outcome = .normal → s.flag R.STI_CTL F.STI_CTL_HLOG = false → 
    ∃ t, exec (.handEnd ch) s = .next t ∧ Only [.chan, .regs] s t ∧
      t.ch ch = { s.ch ch with hands := [] } ∧
      t.fld (R.STI_CH_HANDS ch) F.STI_CH_HANDS_COUNT = min (s.fld (R.STI_CH_HANDS ch) F.STI_CH_HANDS_COUNT + 1) (2 ^ F.STI_CH_HANDS_COUNT.width - 1) ∧
      UnitsBut State.ch ch s t ∧
      RegsBut [R.STI_CH_HANDS ch] s t) ∧
  (∀ (s : State) (ch : Nat) (h : Hand), ch < s.channels → (s.ch ch).handLogs = [h] → h.anchor + h.xf + 6250 ≤ s.grp.s → s.flag R.SEQ_EVT_CTL F.SEQ_EVT_CTL_EN = true → s.fld R.SEQ_EVT_CTL F.SEQ_EVT_CTL_LOG2 ≤ 16 → s.dramOk s.evtAddr 64 = true → s.evtFull = false → s.grp.lostSince = 0 → 
    ∃ t, exec (.handRecordTimeout ch) s = .next t ∧ Only [.regs, .dram, .grp, .chan, .pci, .ddr, .out] s t ∧
      t.ch ch = { s.ch ch with handLogs := [] } ∧
      leAt (t.readDram s.evtAddr 64) 0 2 = 0xFF0B ∧
      leAt (t.readDram s.evtAddr 64) 2 1 = ch ∧
      SameDramBut s.evtAddr 64 s t ∧
      UnitsBut State.ch ch s t) ∧
  (∀ (s : State) (origin : Option Nat) (pk : Packet) (tk : Token) (ts : List Token), origin = none → s.xbar = tk :: ts → 
    ∃ t, exec (.handTokenReceived origin pk) s = .next t ∧ Only [.regs, .dram, .grp, .chan, .srvAx, .srvCh, .lsr, .hoop, .port, .pci, .ddr, .xbar, .out] s t ∧
      t = ({ s with xbar := ts } : State).takeToken tk) ∧
  (∀ (s : State) (origin : Option Nat) (pk : Packet) (port : Nat), origin = some port → s.consumes port pk = true → pk.cls = 0x11 → s.fld (R.HOOP_PT_STAT port) F.HOOP_PT_STAT_PEER = pk.src → 
    ∃ t, exec (.handTokenReceived origin pk) s = .next t ∧ Only [.regs, .dram, .grp, .chan, .srvAx, .srvCh, .lsr, .hoop, .port, .pci, .ddr, .xbar, .out] s t ∧
      t = (s.taken port pk).takeToken (tokenAt pk.src pk.payload)) ∧
  (∀ (s : State) (ch : Nat) (h : Hand), ch < s.channels → (s.ch ch).hands.find? (s.mayCommit ch) = some h → 
    ∃ t, exec (.commit ch) s = .next t ∧ Only [.chan, .hoop, .port, .xbar] s t ∧
      t = (s.putHand ch h { h with committed := true }).sendToken h.pdev (s.handToken ch h 2 0)) ∧
  (∀ (s : State) (ch : Nat) (h : Hand), ch < s.channels → s.acting ch = true → ((s.ch ch).hands.find? (fun h => !h.take && !h.committed && decide (h.outcome = .undecided) && decide (h.anchor ≤ s.grp.s + 3750)) = some h) → 
    ∃ t, exec (.commitmentClose ch) s = .next t ∧ Only [.regs, .dram, .grp, .chan, .hoop, .port, .pci, .ddr, .xbar, .out] s t ∧
      t = (s.putHand ch h { h with outcome := .fallback (s.closeCause h) }).fallBack ch h (s.closeCause h) (h.anchor - 3750)) ∧
  (∀ (s : State) (ch : Nat) (h : Hand), ch < s.channels → s.acting ch = true → ((s.ch ch).hands.find? (fun h => !h.decided && decide (h.anchor ≤ s.grp.s + 2500)) = some h) → 
    ∃ t, exec (.handDecision ch) s = .next t ∧ Only [.regs, .dram, .grp, .chan, .srvAx, .srvCh, .lsr, .hoop, .port, .pci, .ddr, .xbar, .out] s t ∧
      (t = (let o := s.decideHand h; let u := s.putHand ch h { h with outcome := o, decided := true, theta := s.handTheta h }; let v := (match h.outcome, o with | .undecided, .fallback c => u.fallBack ch h c (h.anchor - 2500) | _, _ => u); let w := v.modLs ch fun l => l.applyHand h o; if h.fb then w.chooseBlock ch h (decide (o ≠ .normal)) else w))) ∧
  (∀ (s : State) (ch : Nat) (h : Hand), ch < s.channels → s.acting ch = true → ((s.ch ch).hands.find? (fun h => h.decided && decide (h.anchor + h.xf ≤ s.grp.s)) = some h) → 
    ∃ t, exec (.handEnd ch) s = .next t ∧ Only [.regs, .dram, .grp, .chan, .pci, .ddr, .out] s t ∧
      ((t.ch ch).hands = (s.ch ch).hands.filter fun x => decide (x ≠ h)) ∧
      ((t.ch ch).handLogs = (s.ch ch).handLogs ++ (if h.outcome = .normal ∧ s.flag R.STI_CTL F.STI_CTL_HLOG = true ∧ h.frameErr = none then [h] else [])) ∧
      (t.fld (R.STI_CH_HANDS ch) F.STI_CH_HANDS_COUNT = (if h.outcome = .normal then min (s.fld (R.STI_CH_HANDS ch) F.STI_CH_HANDS_COUNT + 1) (2 ^ F.STI_CH_HANDS_COUNT.width - 1) else s.fld (R.STI_CH_HANDS ch) F.STI_CH_HANDS_COUNT)) ∧
      UnitsBut State.ch ch s t) ∧
  (∀ (s : State) (ch : Nat) (h : Hand), ch < s.channels → ((s.ch ch).handLogs.find? (fun h => s.pastS (h.anchor + h.xf + 6250)) = some h) → 
    ∃ t, exec (.handRecordTimeout ch) s = .next t ∧ Only [.regs, .dram, .grp, .chan, .pci, .ddr, .out] s t ∧
      (t = (s.modCh ch fun c => { c with handLogs := c.handLogs.filter fun x => decide (x ≠ h) }).handLog ch h))

/-- (R198, R199, R201, R205, R206, R208) HOOP_ID_WRITE is taken only while every port is disabled. HOOP_PORT_ENABLE of an admitted
port stores its fields and leaves it in bring-up; a port that R199 does not admit is rejected. HOOP_PORT_DISABLE of an Active
port makes it drain, and HOOP_PORT_TEARDOWN takes a drained port down. PACKET_TRANSMIT sends the packet that R206 picks and
draws its credits. BAD_PACKET_RECEIVED counts. CREDIT_RECEIVED adds the returned credits, CREDIT_SEND queues the owed ones as
a CREDIT packet. A write on an enabled port stores its fields; a disable of a port that is not Active, and the end of a drain,
take it down with its lanes; a packet queued at a port in L1 wakes its lanes. -/
def Obligations.HoopPortsAndCredits : Prop :=
  (∀ (s : State) (v : Word), ((List.range s.hoopLanes).any (fun p => s.flag (R.HOOP_PT_CFG p) F.HOOP_PT_CFG_EN || decide (s.fld (R.HOOP_PT_STAT p) F.HOOP_PT_STAT_STATE ≠ 0)) = false) → 
    ∃ t, exec (.hoopIdWrite v) s = .next t ∧ Only [.regs] s t ∧
      t.devid = field F.HOOP_ID_DEVID v ∧
      RegsBut [R.HOOP_ID] s t) ∧
  (∀ (s : State) (v : Word), ((List.range s.hoopLanes).any (fun p => s.flag (R.HOOP_PT_CFG p) F.HOOP_PT_CFG_EN || decide (s.fld (R.HOOP_PT_STAT p) F.HOOP_PT_STAT_STATE ≠ 0)) = true) → 
    ∃ t, exec (.hoopIdWrite v) s = .next t ∧ Only irqParts s t ∧
      t.flag R.HOOP_ISR F.HOOP_ISR_REJ = true ∧
      RegsBut [R.HOOP_ISR] s t) ∧
  (∀ (s : State) (p : Nat) (v : Word), p < s.hoopLanes → s.flag (R.HOOP_PT_CFG p) F.HOOP_PT_CFG_EN = false → s.portOk p (v ||| 1) = true → 
    ∃ t, exec (.hoopPortEnable p v) s = .next t ∧ Only [.regs, .port, .lane, .head, .pci, .out] s t ∧
      t.reg (R.HOOP_PT_CFG p) = (v ||| 1) &&& 0x3F ∧
      t.fld (R.HOOP_PT_STAT p) F.HOOP_PT_STAT_STATE = 1 ∧
      (t.pt p).queued = 0 ∧
      (t.pt p).xid = (s.pt p).xid ∧
      UnitsBut State.pt p s t) ∧
  (∀ (s : State) (p : Nat) (v : Word), p < s.hoopLanes → s.flag (R.HOOP_PT_CFG p) F.HOOP_PT_CFG_EN = false → s.portOk p (v ||| 1) = false → 
    ∃ t, exec (.hoopPortEnable p v) s = .next t ∧ Only irqParts s t ∧
      t.flag R.HOOP_ISR F.HOOP_ISR_REJ = true ∧
      RegsBut [R.HOOP_ISR] s t) ∧
  (∀ (s : State) (p : Nat) (v : Word), p < s.hoopLanes → s.flag (R.HOOP_PT_CFG p) F.HOOP_PT_CFG_EN = true → s.fld (R.HOOP_PT_STAT p) F.HOOP_PT_STAT_STATE = 2 → 
    ∃ t, exec (.hoopPortDisable p v) s = .next t ∧ Only [.regs, .port] s t ∧
      t.fld (R.HOOP_PT_STAT p) F.HOOP_PT_STAT_STATE = 3 ∧
      t.flag (R.HOOP_PT_CFG p) F.HOOP_PT_CFG_EN = false ∧
      (t.pt p).drainAt = s.time.mt ∧
      RegsBut [R.HOOP_PT_CFG p, R.HOOP_PT_STAT p] s t ∧
      UnitsBut State.pt p s t) ∧
  (∀ (s : State) (p : Nat), p < s.hoopLanes → s.fld (R.HOOP_PT_STAT p) F.HOOP_PT_STAT_STATE = 3 → ((s.pt p).queued = 0 ∨ (s.pt p).drainAt + ticksU 12500 ≤ s.time.mt) → 
    ∃ t, exec (.hoopPortTeardown p) s = .next t ∧ Only [.regs, .port, .lane, .head, .pci, .out] s t ∧
      t.fld (R.HOOP_PT_STAT p) F.HOOP_PT_STAT_STATE = 0 ∧
      (t.pt p).queued = 0 ∧
      t.flag R.HOOP_ISR F.HOOP_ISR_LINK = true ∧
      UnitsBut State.pt p s t) ∧
  (∀ (s : State) (p : Nat) (k : Packet) (q : HoopPort), p < s.hoopLanes → s.active p = true → ((s.portLanes p).any (fun l => decide (s.laneState l = 6)) = false) → (s.pt p).pick = some (k, q) → k.cls ≠ 0x01 → (k.cls ≠ 0x30 ∨ k.src ≠ s.devid) → 
    ∃ t, exec (.packetTransmit p) s = .next t ∧ Only [.port, .out] s t ∧
      t.pt p = q ∧
      (t.out = s.out ++ [.packet p k (s.onLanes p k)] ∨ t.out = .packet p k (s.onLanes p k) :: s.out) ∧
      UnitsBut State.pt p s t) ∧
  (∀ (s : State) (p : Nat) (first : Block) (rest : List Block), p < s.hoopLanes → s.carries p = true → (((packetOfBlocks (first :: rest)).all fun k => !knownClass k.cls) = true) → 
    ∃ t, exec (.badPacketReceived p first rest) s = .next t ∧ Only [.regs, .dram, .grp, .port, .pci, .ddr, .intg, .out] s t ∧
      t.fld (R.HOOP_PT_ERR p) F.HOOP_PT_ERR_CRC = min (s.fld (R.HOOP_PT_ERR p) F.HOOP_PT_ERR_CRC + 1) (2 ^ F.HOOP_PT_ERR_CRC.width - 1) ∧
      t.pt p = (s.owe p (badPacket (first :: rest))).pt p ∧
      UnitsBut State.pt p s t) ∧
  (∀ (s : State) (p : Nat) (pk : Packet), p < s.hoopLanes → p < 8 → pk.cls = 0x02 → s.carries p = true → 
    ∃ t, exec (.creditReceived p pk) s = .next t ∧ Only [.port] s t ∧
      t.pt p = { s.pt p with shared := (s.pt p).shared + leAt pk.payload 0 2, reserved := (s.pt p).reserved + leAt pk.payload 2 1 } ∧
      UnitsBut State.pt p s t) ∧
  (∀ (s : State) (p : Nat), p < s.hoopLanes → s.carries p = true → 0 < (s.pt p).owedShared + (s.pt p).owedReserved → 
    ∃ t, exec (.creditSend p) s = .next t ∧ Only [.hoop, .port] s t ∧
      t.pt p = { s.pt p with owedShared := 0, owedReserved := 0, link := (s.pt p).link ++ [⟨0x02, false, s.fld R.HOOP_CTL F.HOOP_CTL_HOPS, s.fld (R.HOOP_PT_STAT p) F.HOOP_PT_STAT_PEER, s.devid, (s.nextSeq 0x02).1, 0, leBytes (s.pt p).owedShared 2 ++ leBytes (s.pt p).owedReserved 1 ++ [0]⟩] } ∧
      UnitsBut State.pt p s t) ∧
  (∀ (s : State) (p : Nat) (v : Word), p < s.hoopLanes → s.flag (R.HOOP_PT_CFG p) F.HOOP_PT_CFG_EN = true → s.portOk p (v ||| 1) = true → 
    ∃ t, exec (.hoopPortEnable p v) s = .next t ∧ Only [.regs, .port, .lane, .head, .pci, .out] s t ∧
      t = s.setReg (R.HOOP_PT_CFG p) (ptCfg (v ||| 1))) ∧
  (∀ (s : State) (p : Nat) (v : Word), p < s.hoopLanes → s.flag (R.HOOP_PT_CFG p) F.HOOP_PT_CFG_EN = true → s.fld (R.HOOP_PT_STAT p) F.HOOP_PT_STAT_STATE ≠ 2 → 
    ∃ t, exec (.hoopPortDisable p v) s = .next t ∧ Only [.regs, .port, .lane, .head, .pci, .out] s t ∧
      t = (s.portDown p).setReg (R.HOOP_PT_CFG p) (ptCfg (v &&& 0xFFFFFFFE))) ∧
  (∀ (s : State) (p : Nat), p < s.hoopLanes → s.fld (R.HOOP_PT_STAT p) F.HOOP_PT_STAT_STATE = 3 → ((s.pt p).queued = 0 ∨ (s.pt p).drainAt + ticksU 12500 ≤ s.time.mt) → 
    ∃ t, exec (.hoopPortTeardown p) s = .next t ∧ Only [.regs, .port, .lane, .head, .pci, .out] s t ∧
      t = s.portDown p) ∧
  (∀ (s : State) (p : Nat) (k : Packet) (q : HoopPort), p < s.hoopLanes → (s.fld (R.HOOP_PT_STAT p) F.HOOP_PT_STAT_STATE = 2 ∨ s.fld (R.HOOP_PT_STAT p) F.HOOP_PT_STAT_STATE = 3) → ((s.portLanes p).any (fun l => decide (s.laneState l = 6)) = false) → (s.pt p).pick = some (k, q) → 
    ∃ t, exec (.packetTransmit p) s = .next t ∧ Only [.port, .bulk, .lane, .free, .out] s t ∧
      (t = (let r := (s.modPt p fun _ => q).stampOut p k; (r.2.bulkSent r.1).emit (.packet p r.1 (r.2.onLanes p r.1))))) ∧
  (∀ (s : State) (p : Nat), p < s.hoopLanes → (s.fld (R.HOOP_PT_STAT p) F.HOOP_PT_STAT_STATE = 2 ∨ s.fld (R.HOOP_PT_STAT p) F.HOOP_PT_STAT_STATE = 3) → ((s.portLanes p).any (fun l => decide (s.laneState l = 6)) = true) → (s.pt p).queued ≠ 0 → 
    ∃ t, exec (.packetTransmit p) s = .next t ∧ Only [.port, .bulk, .lane, .free, .out] s t ∧
      (t = s.each (s.portLanes p) fun l u => u.wakeSend l)) ∧
  (∀ (s : State) (p : Nat) (first : Block) (rest : List Block), p < s.hoopLanes → s.carries p = true → (((packetOfBlocks (first :: rest)).all fun k => !knownClass k.cls) = true) → s.intg.hidden = [] → 
    ∃ t, exec (.badPacketReceived p first rest) s = .next t ∧ Only [.regs, .dram, .grp, .port, .pci, .ddr, .intg, .out] s t ∧
      (t = ((s.each (s.portLanes p) fun l u => u.countStray l (stripe (s.portLanes p).length (first :: rest) (l - 32 - p))).satAdd (R.HOOP_PT_ERR p) F.HOOP_PT_ERR_CRC 1).owe p (badPacket (first :: rest))))

/-- (R203, R204, R209, R211) BROADCAST_REPEAT takes the second copies that are due out of the waiting list, DUPLICATE_ENTRY_EXPIRY
forgets entries after 12,500,000 ticks. EVENT_RECEIVED of a fabric event sets its flag. REMOTE_ACCESS_GO queues an RREQ packet
with a fresh tag and sets BUSY, or ends with NOROUTE. RRSP_RECEIVED with the outstanding tag and source ends it with the code
and, for a read that succeeded, the data; REMOTE_ACCESS_TIMEOUT after 125,000 ticks ends it with its code. A write request is
queued and ended in the same way. -/
def Obligations.HoopEventsAndRemoteAccess : Prop :=
  (∀ (s : State), 
    ∃ t, exec (.broadcastRepeat) s = .next t ∧ Only [.hoop, .port] s t ∧
      (t.hoop = { s.hoop with repeats := s.hoop.repeats.filter fun r => decide (s.time.mt < r.2) })) ∧
  (∀ (s : State), 
    ∃ t, exec (.duplicateEntryExpiry) s = .next t ∧ Only [.hoop] s t ∧
      (t.hoop = { s.hoop with dups := s.hoop.dups.filter fun d => decide (s.time.mt < d.at_ + ticksU 12500000) })) ∧
  (∀ (s : State) (p : Nat) (pk : Packet), s.consumes p pk = true → p < 8 → pk.cls = 0x10 → leAt pk.payload 0 2 < 0xF000 → 
    ∃ t, exec (.eventReceived p pk) s = .next t ∧ Only [.regs, .dram, .grp, .hoop, .port, .pci, .ddr, .out] s t ∧
      (tabGet (fun _ => false) t.grp.events (leAt pk.payload 0 2) = true) ∧
      RegsBut [] s t) ∧
  (∀ (s : State) (v : Word) (port : Nat), field F.HOOP_RRA_CMD_GO v = 1 → field F.HOOP_RRA_CMD_WRITE v = 0 → s.flag R.HOOP_RRA_CMD F.HOOP_RRA_CMD_BUSY = false → s.route (field F.HOOP_RRA_CMD_DEVID v) = some port → port < s.hoopLanes → 
    ∃ t, exec (.remoteAccessGo v) s = .next t ∧ Only [.regs, .hoop, .port, .pci, .out] s t ∧
      t.flag R.HOOP_RRA_CMD F.HOOP_RRA_CMD_BUSY = true ∧
      t.hoop.rra = some ((s.hoop.tag + 1) % 65536, field F.HOOP_RRA_CMD_DEVID v, false, s.time.mt) ∧
      (t.pt port).loc = (s.pt port).loc ++ [⟨0x20, false, s.fld R.HOOP_CTL F.HOOP_CTL_HOPS, field F.HOOP_RRA_CMD_DEVID v, s.devid, (s.nextSeq 0x20).1, (s.hoop.tag + 1) % 65536, leBytes (s.fld R.HOOP_RRA_ADDR F.HOOP_RRA_ADDR_OFFSET) 4 ++ leBytes 0 4⟩] ∧
      UnitsBut State.pt port s t ∧
      RegsBut [R.HOOP_RRA_CMD] s t) ∧
  (∀ (s : State) (v : Word), field F.HOOP_RRA_CMD_GO v = 1 → s.flag R.HOOP_RRA_CMD F.HOOP_RRA_CMD_BUSY = false → s.route (field F.HOOP_RRA_CMD_DEVID v) = none → 
    ∃ t, exec (.remoteAccessGo v) s = .next t ∧ Only [.regs, .hoop, .port, .pci, .out] s t ∧
      t.flag R.HOOP_RRA_CMD F.HOOP_RRA_CMD_BUSY = false ∧
      t.fld R.HOOP_RRA_CMD F.HOOP_RRA_CMD_CODE = 3 ∧
      t.flag R.HOOP_ISR F.HOOP_ISR_RRA = true ∧
      t.hoop.rra = none) ∧
  (∀ (s : State) (p : Nat) (pk : Packet) (at_ : Nat), s.consumes p pk = true → p < 8 → pk.cls = 0x21 → s.hoop.rra = some (pk.tag, pk.src, false, at_) → leAt pk.payload 0 4 % 8 = 0 → 
    ∃ t, exec (.rrspReceived p pk) s = .next t ∧ Only [.regs, .hoop, .port, .pci, .out] s t ∧
      t.hoop.rra = none ∧
      t.reg R.HOOP_RRA_DATA = BitVec.ofNat 32 (leAt pk.payload 4 4) ∧
      t.flag R.HOOP_RRA_CMD F.HOOP_RRA_CMD_BUSY = false ∧
      t.fld R.HOOP_RRA_CMD F.HOOP_RRA_CMD_CODE = 0 ∧
      t.flag R.HOOP_ISR F.HOOP_ISR_RRA = true ∧
      RegsBut [R.HOOP_RRA_CMD, R.HOOP_RRA_DATA, R.HOOP_ISR] s t) ∧
  (∀ (s : State) (tag dst at_ : Nat) (wr : Bool), s.hoop.rra = some (tag, dst, wr, at_) → at_ + ticksU 125000 ≤ s.time.mt → 
    ∃ t, exec (.remoteAccessTimeout) s = .next t ∧ Only [.regs, .hoop, .pci, .out] s t ∧
      t.hoop.rra = none ∧
      t.flag R.HOOP_RRA_CMD F.HOOP_RRA_CMD_BUSY = false ∧
      t.fld R.HOOP_RRA_CMD F.HOOP_RRA_CMD_CODE = 2 ∧
      RegsBut [R.HOOP_RRA_CMD, R.HOOP_ISR] s t) ∧
  (∀ (s : State), 
    ∃ t, exec (.broadcastRepeat) s = .next t ∧ Only [.hoop, .port] s t ∧
      (t = (s.hoop.repeats.filter fun r => decide (r.2 ≤ s.time.mt)).foldl (fun u r => u.flood none r.1) { s with hoop := { s.hoop with repeats := s.hoop.repeats.filter fun r => decide (s.time.mt < r.2) } })) ∧
  (∀ (s : State) (port : Nat) (pk : Packet), s.consumes port pk = true → pk.cls = 0x10 → 
    ∃ t, exec (.eventReceived port pk) s = .next t ∧ Only [.regs, .dram, .grp, .hoop, .port, .pci, .ddr, .out] s t ∧
      t = (s.taken port pk).takeEvent (leAt pk.payload 0 2) pk.src) ∧
  (∀ (s : State) (v : Word) (port : Nat), field F.HOOP_RRA_CMD_GO v = 1 → s.flag R.HOOP_RRA_CMD F.HOOP_RRA_CMD_BUSY = false → s.route (field F.HOOP_RRA_CMD_DEVID v) = some port → port < s.hoopLanes → 
    ∃ t, exec (.remoteAccessGo v) s = .next t ∧ Only [.regs, .hoop, .port, .pci, .out] s t ∧
      t.flag R.HOOP_RRA_CMD F.HOOP_RRA_CMD_BUSY = true ∧
      t.hoop.rra = some ((s.hoop.tag + 1) % 65536, field F.HOOP_RRA_CMD_DEVID v, decide (field F.HOOP_RRA_CMD_WRITE v = 1), s.time.mt) ∧
      t.hoop.tag = (s.hoop.tag + 1) % 65536 ∧
      (t.pt port).loc.length = (s.pt port).loc.length + 1 ∧
      UnitsBut State.pt port s t ∧
      RegsBut [R.HOOP_RRA_CMD] s t) ∧
  (∀ (s : State) (port : Nat) (pk : Packet) (wr : Bool) (at_ : Nat), s.consumes port pk = true → pk.cls = 0x21 → s.hoop.rra = some (pk.tag, pk.src, wr, at_) → 
    ∃ t, exec (.rrspReceived port pk) s = .next t ∧ Only [.regs, .hoop, .port, .pci, .out] s t ∧
      (t = (if wr = false ∧ leAt pk.payload 0 4 % 8 = 0 then (s.taken port pk).setReg R.HOOP_RRA_DATA (BitVec.ofNat 32 (leAt pk.payload 4 4)) else (s.taken port pk)).rraEnd (leAt pk.payload 0 4 % 8))) ∧
  (∀ (s : State) (tag dst at_ : Nat) (wr : Bool), s.hoop.rra = some (tag, dst, wr, at_) → at_ + ticksU 125000 ≤ s.time.mt → 
    ∃ t, exec (.remoteAccessTimeout) s = .next t ∧ Only [.regs, .hoop, .pci, .out] s t ∧
      t = s.rraEnd 2)

/-- (R212) BULK_GO of a transfer of 1 to 4 readable lines queues one BULK packet with the lines and is BUSY; of length 0 it is
done at once. BULK_RECEIVED of the first packet of a transfer, not the last one, whose lines lie in the window writes exactly
those bytes of DRAM. BULK_ACK_RECEIVED from the target ends the transfer with the acknowledged code, BULK_TIMEOUT 1,250,000
ticks after the last packet with code 3. A transfer of any length sends its lines four to a packet, and a data packet at its
target is taken by the rules of the window and the order. -/
def Obligations.HoopBulkData : Prop :=
  (∀ (s : State) (c port n : Nat), c < 4 → s.flag (R.HOOP_BK_CTL c) F.HOOP_BK_CTL_BUSY = false → s.fld (R.HOOP_BK_LEN c) F.HOOP_BK_LEN_LINES = n → 0 < n → n ≤ 4 → s.dramOk ((s.reg (R.HOOP_BK_LOC c)).toNat * 64) (64 * n) = true → s.rangePoisoned ((s.reg (R.HOOP_BK_LOC c)).toNat * 64) (64 * n) = false → s.route (s.fld (R.HOOP_BK_LEN c) F.HOOP_BK_LEN_DEVID) = some port → 
    ∃ t, exec (.bulkGo c) s = .next t ∧ Only [.regs, .hoop, .port, .bulk, .pci, .out] s t ∧
      t.flag (R.HOOP_BK_CTL c) F.HOOP_BK_CTL_BUSY = true ∧
      t.bk c = ⟨true, s.time.mt⟩ ∧
      (t.pt port).loc = (s.pt port).loc ++ [⟨0x30, false, s.fld R.HOOP_CTL F.HOOP_CTL_HOPS, s.fld (R.HOOP_BK_LEN c) F.HOOP_BK_LEN_DEVID, s.devid, (s.nextSeq 0x30).1, 0, bulkPrefix (s.reg (R.HOOP_BK_REM c)).toNat 0 (c + 4) ++ s.readDram ((s.reg (R.HOOP_BK_LOC c)).toNat * 64) (64 * n)⟩] ∧
      RegsBut [R.HOOP_BK_CTL c] s t) ∧
  (∀ (s : State) (c : Nat), c < 4 → s.flag (R.HOOP_BK_CTL c) F.HOOP_BK_CTL_BUSY = false → s.fld (R.HOOP_BK_LEN c) F.HOOP_BK_LEN_LINES = 0 → 
    ∃ t, exec (.bulkGo c) s = .next t ∧ Only [.regs, .hoop, .port, .bulk, .pci, .out] s t ∧
      t.flag (R.HOOP_BK_CTL c) F.HOOP_BK_CTL_BUSY = false ∧
      t.fld (R.HOOP_BK_CTL c) F.HOOP_BK_CTL_CODE = 0 ∧
      t.flag R.HOOP_ISR F.HOOP_ISR_BULK = true ∧
      RegsBut [R.HOOP_BK_CTL c, R.HOOP_ISR] s t) ∧
  (∀ (s : State) (p : Nat) (pk : Packet), s.consumes p pk = true → p < 8 → pk.cls = 0x30 → bitAt (leAt pk.payload 7 1) 3 = false → bitAt (leAt pk.payload 7 1) 2 = false → leAt pk.payload 4 3 = 0 → pk.payload.length = 72 → s.dramOk (leAt pk.payload 0 4 * 64) 64 = true → (s.reg R.HOOP_BULK_WIN_BASE).toNat ≤ leAt pk.payload 0 4 → leAt pk.payload 0 4 + (pk.payload.length - 8) / 64 ≤ (s.reg R.HOOP_BULK_WIN_BASE).toNat + (s.reg R.HOOP_BULK_WIN_SIZE).toNat → (s.reg R.HOOP_BULK_WIN_SIZE).toNat ≠ 0 → 
    ∃ t, exec (.bulkReceived p pk) s = .next t ∧ Only [.regs, .dram, .hoop, .port, .pci, .ddr, .out] s t ∧
      t.readDram (leAt pk.payload 0 4 * 64) 64 = pk.payload.drop 8 ∧
      SameDramBut (leAt pk.payload 0 4 * 64) 64 s t ∧
      t.bulkNext pk.src (leAt pk.payload 7 1 % 4) = 1 ∧
      RegsBut [] s t) ∧
  (∀ (s : State) (p : Nat) (pk : Packet), s.consumes p pk = true → p < 8 → pk.cls = 0x30 → bitAt (leAt pk.payload 7 1) 3 = true → (s.bk (leAt pk.payload 7 1 % 4)).active = true → s.fld (R.HOOP_BK_LEN (leAt pk.payload 7 1 % 4)) F.HOOP_BK_LEN_DEVID = pk.src → 
    ∃ t, exec (.bulkAckReceived p pk) s = .next t ∧ Only [.regs, .hoop, .port, .bulk, .pci, .out] s t ∧
      (t.bk (leAt pk.payload 7 1 % 4)).active = false ∧
      t.flag (R.HOOP_BK_CTL (leAt pk.payload 7 1 % 4)) F.HOOP_BK_CTL_BUSY = false ∧
      t.fld (R.HOOP_BK_CTL (leAt pk.payload 7 1 % 4)) F.HOOP_BK_CTL_CODE = leAt pk.payload 7 1 / 16 % 4 ∧
      t.flag R.HOOP_ISR F.HOOP_ISR_BULK = true) ∧
  (∀ (s : State) (c : Nat), c < 4 → (s.bk c).active = true → s.bulkQueued c = false → (s.bk c).lastAt + ticksU 1250000 ≤ s.time.mt → 
    ∃ t, exec (.bulkTimeout c) s = .next t ∧ Only [.regs, .bulk, .pci, .out] s t ∧
      (t.bk c).active = false ∧
      t.flag (R.HOOP_BK_CTL c) F.HOOP_BK_CTL_BUSY = false ∧
      t.fld (R.HOOP_BK_CTL c) F.HOOP_BK_CTL_CODE = 3 ∧
      RegsBut [R.HOOP_BK_CTL c, R.HOOP_ISR] s t) ∧
  (∀ (s : State) (c : Nat), c < 4 → s.flag (R.HOOP_BK_CTL c) F.HOOP_BK_CTL_BUSY = false → s.fld (R.HOOP_BK_LEN c) F.HOOP_BK_LEN_LINES ≠ 0 → 
    ∃ t, exec (.bulkGo c) s = .next t ∧ Only [.regs, .hoop, .port, .bulk, .pci, .out] s t ∧
      (t = ((s.setFlag (R.HOOP_BK_CTL c) F.HOOP_BK_CTL_BUSY true).modBk c fun _ => ⟨true, s.time.mt⟩).bulkSend c (s.reg (R.HOOP_BK_LOC c)).toNat (s.reg (R.HOOP_BK_REM c)).toNat (s.fld (R.HOOP_BK_LEN c) F.HOOP_BK_LEN_DEVID) 0 (s.fld (R.HOOP_BK_LEN c) F.HOOP_BK_LEN_LINES) (ceilDiv (s.fld (R.HOOP_BK_LEN c) F.HOOP_BK_LEN_LINES) 4))) ∧
  (∀ (s : State) (port : Nat) (pk : Packet), s.consumes port pk = true → pk.cls = 0x30 → bitAt (leAt pk.payload 7 1) 3 = false → 
    ∃ t, exec (.bulkReceived port pk) s = .next t ∧ Only [.regs, .dram, .hoop, .port, .pci, .ddr, .out] s t ∧
      t = (s.taken port pk).bulkTake pk) ∧
  (∀ (s : State) (port : Nat) (pk : Packet), s.consumes port pk = true → pk.cls = 0x30 → bitAt (leAt pk.payload 7 1) 3 = true → (s.bk (leAt pk.payload 7 1 % 4)).active = true → s.fld (R.HOOP_BK_LEN (leAt pk.payload 7 1 % 4)) F.HOOP_BK_LEN_DEVID = pk.src → 
    ∃ t, exec (.bulkAckReceived port pk) s = .next t ∧ Only [.regs, .hoop, .port, .bulk, .pci, .out] s t ∧
      t = (s.taken port pk).bulkEnd (leAt pk.payload 7 1 % 4) (leAt pk.payload 7 1 / 16 % 4)) ∧
  (∀ (s : State) (c : Nat), c < 4 → (s.bk c).active = true → s.bulkQueued c = false → (s.bk c).lastAt + ticksU 1250000 ≤ s.time.mt → 
    ∃ t, exec (.bulkTimeout c) s = .next t ∧ Only [.regs, .bulk, .pci, .out] s t ∧
      t = s.bulkEnd c 3)

/-- (R214, R215, R216, R219) TIME_EXCHANGE_START on an Active port, the first in its interval, queues a TIME request with the XID
given. TIME_REQUEST_RECEIVED answers with the XID of the request, t2, room for t3 and the validity and offsets of both
domains. TIME_RESPONSE_RECEIVED in time, with the XID in progress, ends the exchange and stores the mean delay and the offset.
TIME_EXCHANGE_TIMEOUT gives up after 2,500 ticks. HOLDOVER_ENTRY after the wait of the source moves the domain to HOLDOVER. A
domain that follows a port also notes that it has sent its notice when that port has left Active. -/
def Obligations.TimeExchangeAndHoldover : Prop :=
  (∀ (s : State) (p xid : Nat), p < s.hoopLanes → s.active p = true → (((s.pt p).lastStart.all fun x => decide (x / exchangeU < s.time.mt / exchangeU)) = true) → 
    ∃ t, exec (.timeExchangeStart p xid) s = .next t ∧ Only [.hoop, .port] s t ∧
      t.pt p = { s.pt p with xid := xid % 65536, t1 := none, lastStart := some s.time.mt, link := (s.pt p).link ++ [⟨0x01, false, s.fld R.HOOP_CTL F.HOOP_CTL_HOPS, s.fld (R.HOOP_PT_STAT p) F.HOOP_PT_STAT_PEER, s.devid, (s.nextSeq 0x01).1, 0, [1, 0] ++ leBytes (xid % 65536) 2⟩] } ∧
      UnitsBut State.pt p s t) ∧
  (∀ (s : State) (p : Nat) (pk : Packet) (ago phase : Nat), p < s.hoopLanes → s.active p = true → pk.cls = 0x01 → leAt pk.payload 0 1 = 1 → 
    ∃ t, exec (.timeRequestReceived p pk ago phase) s = .next t ∧ Only [.hoop, .port] s t ∧
      t.pt p = { s.pt p with link := (s.pt p).link ++ [⟨0x01, false, s.fld R.HOOP_CTL F.HOOP_CTL_HOPS, s.fld (R.HOOP_PT_STAT p) F.HOOP_PT_STAT_PEER, s.devid, (s.nextSeq 0x01).1, 0, [2] ++ leBytes ((s.domainValid 0).toNat + 2 * (s.domainValid 1).toNat) 1 ++ leBytes (leAt pk.payload 2 2) 2 ++ zeros 4 ++ stampBytes (fineStamp (s.hoopStamp p ago phase false)) ++ zeros 16 ++ leBytes (unsigned 32 (s.deltaPs 0)) 4 ++ leBytes (unsigned 32 (s.deltaPs 1)) 4⟩] } ∧
      UnitsBut State.pt p s t) ∧
  (∀ (s : State) (p : Nat) (pk : Packet) (x : Crossing) (t1 : Int) (st : Nat), p < s.hoopLanes → s.active p = true → (s.pt p).t1 = some t1 → (s.pt p).lastStart = some st → pk.cls = 0x01 → leAt pk.payload 0 1 = 2 → leAt pk.payload 2 2 = (s.pt p).xid → s.time.mt ≤ st + ticksU 2500 → leAt pk.payload 1 1 = 0 → 
    ∃ t, exec (.timeResponseReceived p pk x) s = .next t ∧ Only [.regs, .port] s t ∧
      (t.pt p).t1 = none ∧
      (t.pt p).endedAt = some s.time.mt ∧
      (t.pt p).o = (exchange t1 (stampFine (stampAt pk.payload 8)) (stampFine (stampAt pk.payload 24)) (s.hoopStamp p x.ago x.phase false) (s.sfld (R.HOOP_PT_ASYM p) F.HOOP_PT_ASYM_ASYM)).2 ∧
      t.fld (R.HOOP_PT_DELAY p) F.HOOP_PT_DELAY_D = (satU 24 (exchange t1 (stampFine (stampAt pk.payload 8)) (stampFine (stampAt pk.payload 24)) (s.hoopStamp p x.ago x.phase false) (s.sfld (R.HOOP_PT_ASYM p) F.HOOP_PT_ASYM_ASYM)).1).toNat ∧
      RegsBut [R.HOOP_PT_DELAY p] s t ∧
      UnitsBut State.pt p s t) ∧
  (∀ (s : State) (p st : Nat), p < s.hoopLanes → p < 8 → (s.pt p).lastStart = some st → st + ticksU 2500 < s.time.mt → 
    ∃ t, exec (.timeExchangeTimeout p) s = .next t ∧ Only [.port] s t ∧
      t.pt p = { s.pt p with t1 := none } ∧
      UnitsBut State.pt p s t) ∧
  (∀ (s : State) (d : Nat), d < 2 → s.fld (R.TIM_D_CFG d) F.TIM_D_CFG_SRC = 3 → (s.fld (R.TIM_D_STAT d) F.TIM_D_STAT_STATE = 1 ∨ s.fld (R.TIM_D_STAT d) F.TIM_D_STAT_STATE = 2) → (s.dm d).lastSample + nsU 3000000000 ≤ s.time.mt → 
    ∃ t, exec (.holdoverEntry d) s = .next t ∧ Only [.regs, .hoop, .port, .dom, .pci, .out] s t ∧
      t.fld (R.TIM_D_STAT d) F.TIM_D_STAT_STATE = 3 ∧
      t.dm d = { s.dm d with good := 0 } ∧
      t.flag R.TIM_ISR F.TIM_ISR_HOLDOVER = true ∧
      UnitsBut State.dm d s t ∧
      RegsBut [R.TIM_D_STAT d, R.TIM_ISR] s t) ∧
  (∀ (s : State) (d : Nat), d < 2 → s.fld (R.TIM_D_CFG d) F.TIM_D_CFG_SRC = 1 → (s.fld (R.TIM_D_STAT d) F.TIM_D_STAT_STATE = 1 ∨ s.fld (R.TIM_D_STAT d) F.TIM_D_STAT_STATE = 2) → (s.dm d).lastSample + nsU 3072000 ≤ s.time.mt → 
    ∃ t, exec (.holdoverEntry d) s = .next t ∧ Only [.regs, .hoop, .port, .dom, .pci, .out] s t ∧
      t.fld (R.TIM_D_STAT d) F.TIM_D_STAT_STATE = 3 ∧
      (t.dm d).good = 0 ∧
      (t.dm d).noticeSent = (decide ((s.dm d).noticeSent = true) || !s.active (s.fld (R.TIM_D_CFG d) F.TIM_D_CFG_PORT)) ∧
      t.flag R.TIM_ISR F.TIM_ISR_HOLDOVER = true ∧
      UnitsBut State.dm d s t)

/-- (R23, R217, R219, R220, R222, R223, R224) TIM_D_CFG_WRITE stores the source and leaves the domain in NONE, LOCKED or LOCKING
as R219 says. TIM_SEL_WRITE stores REQ, AUTO and SLEW, and PENDING when REQ is not the active domain. DOMAIN_SWITCH on a
pending request for a LOCKED domain outside Running makes it active. CALENDAR_ADJ moves calendar time by ADJ, CALENDAR_SET
sets it and marks it VALID. PPS_OUT_EDGE raises and lowers the output, PPS_IN_EDGE captures the delay-corrected nanoseconds of
machine time. A switch for the loss of the active domain takes place without a request; a captured edge is also a sample of
each domain that follows the pulse. -/
def Obligations.DomainsCalendarAndPps : Prop :=
  (∀ (s : State) (d : Nat) (v : Word), d < 2 → (field F.TIM_D_CFG_SRC v = 0 ∨ field F.TIM_D_CFG_SRC v = 2) → 
    ∃ t, exec (.timDCfgWrite d v) s = .next t ∧ Only [.regs, .dram, .grp, .dom, .pci, .ddr, .pwr, .out] s t ∧
      t.reg (R.TIM_D_CFG d) = v &&& 0x3F ∧
      t.fld (R.TIM_D_STAT d) F.TIM_D_STAT_STATE = field F.TIM_D_CFG_SRC v) ∧
  (∀ (s : State) (d : Nat) (v : Word), d < 2 → (field F.TIM_D_CFG_SRC v = 1 ∨ field F.TIM_D_CFG_SRC v = 3) → s.fld (R.TIM_D_CFG d) F.TIM_D_CFG_SRC ≠ field F.TIM_D_CFG_SRC v → 
    ∃ t, exec (.timDCfgWrite d v) s = .next t ∧ Only [.regs, .dram, .grp, .dom, .pci, .ddr, .pwr, .out] s t ∧
      t.reg (R.TIM_D_CFG d) = v &&& 0x3F ∧
      t.fld (R.TIM_D_STAT d) F.TIM_D_STAT_STATE = 1 ∧
      t.dm d = { s.dm d with good := 0, lastSample := s.time.mt, noticeSent := false } ∧
      UnitsBut State.dm d s t) ∧
  (∀ (s : State) (v : Word), 
    ∃ t, exec (.timSelWrite v) s = .next t ∧ Only [.regs] s t ∧
      t.fld R.TIM_SEL F.TIM_SEL_REQ = field F.TIM_SEL_REQ v ∧
      t.fld R.TIM_SEL F.TIM_SEL_AUTO = field F.TIM_SEL_AUTO v ∧
      t.fld R.TIM_SEL F.TIM_SEL_SLEW = field F.TIM_SEL_SLEW v ∧
      t.flag R.TIM_SEL F.TIM_SEL_PENDING = decide (field F.TIM_SEL_REQ v ≠ s.activeDom) ∧
      t.activeDom = s.activeDom ∧
      RegsBut [R.TIM_SEL] s t) ∧
  (∀ (s : State), s.switchLoss = false → s.switchRequest = true → s.activeDom < 2 → 
    ∃ t, exec (.domainSwitch) s = .next t ∧ Only [.regs, .dram, .grp, .dom, .time, .pci, .ddr, .out] s t ∧
      t.activeDom = 1 - s.activeDom ∧
      (t.dm (1 - s.activeDom)).delta = (s.dm (1 - s.activeDom)).delta - 40000000 * switchStep (s.dm (1 - s.activeDom)).delta ∧
      (t.dm s.activeDom).delta = -(40000000 * switchStep (s.dm (1 - s.activeDom)).delta) ∧
      t.flag R.TIM_ISR F.TIM_ISR_SWITCH = true) ∧
  (∀ (s : State), 
    ∃ t, exec (.calendarAdj) s = .next t ∧ Only [.regs, .time] s t ∧
      t.time.cal = ((s.time.cal : Int) + s.sfld R.TIM_CAL_ADJ F.TIM_CAL_ADJ_ADJ * 16777216).toNat ∧
      t.time.mt = s.time.mt ∧
      t.flag R.TIM_CAL_CMD F.TIM_CAL_CMD_COARSE = false ∧
      RegsBut [R.TIM_CAL_CMD] s t) ∧
  (∀ (s : State), 
    ∃ t, exec (.calendarSet) s = .next t ∧ Only [.regs, .time] s t ∧
      t.time.cal = ((s.reg R.TIM_CAL_SET_SEC).toNat * 1000000000 + s.fld R.TIM_CAL_SET_NS F.TIM_CAL_SET_NS_NS) * 2 ^ 32 ∧
      t.time.mt = s.time.mt ∧
      t.flag R.TIM_CAL_CMD F.TIM_CAL_CMD_VALID = true ∧
      t.flag R.TIM_CAL_CMD F.TIM_CAL_CMD_COARSE = false ∧
      RegsBut [R.TIM_CAL_CMD] s t) ∧
  (∀ (s : State), s.time.ppsOut = false → s.flag R.TIM_PPS_CFG F.TIM_PPS_CFG_OUTEN = true → s.atSecond = true → 
    ∃ t, exec (.ppsOutEdge) s = .next t ∧ Only [.time, .out] s t ∧
      t.time = { s.time with ppsOut := true, ppsFall := s.time.mt + nsU (1000 * s.fld R.TIM_PPS_CFG F.TIM_PPS_CFG_WIDTH) } ∧
      RegsBut [] s t) ∧
  (∀ (s : State), s.time.ppsOut = true → s.time.ppsFall ≤ s.time.mt → 
    ∃ t, exec (.ppsOutEdge) s = .next t ∧ Only [.time, .out] s t ∧
      t.time = { s.time with ppsOut := false } ∧
      RegsBut [] s t) ∧
  (∀ (s : State), s.flag R.TIM_PPS_CFG F.TIM_PPS_CFG_INEN = true → s.up dHOOP = true → s.fld (R.TIM_D_CFG 0) F.TIM_D_CFG_SRC ≠ 3 → s.fld (R.TIM_D_CFG 1) F.TIM_D_CFG_SRC ≠ 3 → 
    ∃ t, exec (.ppsInEdge) s = .next t ∧ Only [.regs, .dom, .time, .pci, .out] s t ∧
      t.fld R.TIM_PPSIN_MT F.TIM_PPSIN_MT_NS = (s.time.mt - ticksU (s.fld R.TIM_PPS_CFG F.TIM_PPS_CFG_INDLY)) / 8000 % 1000000000 ∧
      t.flag R.TIM_ISR F.TIM_ISR_PPSIN = true ∧
      t.time = s.time ∧
      RegsBut [R.TIM_PPSIN_MT, R.TIM_PPSIN_CAL, R.TIM_ISR] s t) ∧
  (∀ (s : State) (d : Nat) (v : Word), d < 2 → 
    ∃ t, exec (.timDCfgWrite d v) s = .next t ∧ Only [.regs, .dram, .grp, .dom, .pci, .ddr, .pwr, .out] s t ∧
      t.reg (R.TIM_D_CFG d) = v &&& 0x3F ∧
      UnitsBut State.dm d s t) ∧
  (∀ (s : State), s.switchLoss = true → 
    ∃ t, exec (.domainSwitch) s = .next t ∧ Only [.regs, .dram, .grp, .dom, .time, .pci, .ddr, .out] s t ∧
      t = s.switch (1 - s.activeDom) true) ∧
  (∀ (s : State), s.switchLoss = false → s.switchRequest = true → 
    ∃ t, exec (.domainSwitch) s = .next t ∧ Only [.regs, .dram, .grp, .dom, .time, .pci, .ddr, .out] s t ∧
      t = s.switch (1 - s.activeDom) false) ∧
  (∀ (s : State), s.flag R.TIM_PPS_CFG F.TIM_PPS_CFG_INEN = true → s.up dHOOP = true → 
    ∃ t, exec (.ppsInEdge) s = .next t ∧ Only [.regs, .dom, .time, .pci, .out] s t ∧
      t.fld R.TIM_PPSIN_MT F.TIM_PPSIN_MT_NS = (s.time.mt - ticksU (s.fld R.TIM_PPS_CFG F.TIM_PPS_CFG_INDLY)) / 8000 % 1000000000 ∧
      t.fld R.TIM_PPSIN_CAL F.TIM_PPSIN_CAL_NS = (s.time.cal - s.fld R.TIM_PPS_CFG F.TIM_PPS_CFG_INDLY * (s.reg R.TIM_CAL_INC).toNat) / 2 ^ 32 % 1000000000 ∧
      t.flag R.TIM_ISR F.TIM_ISR_PPSIN = true ∧
      (s.fld (R.TIM_D_CFG 0) F.TIM_D_CFG_SRC ≠ 3 ∨ (t.dm 0).lastSample = s.time.mt) ∧
      (s.fld (R.TIM_D_CFG 1) F.TIM_D_CFG_SRC ≠ 3 ∨ (t.dm 1).noticeSent = false))

/-- (R252, R254, R256, R257, R267, R268, R269, R280) MOT_GO on an IDLE or MOVING axis with a valid set keeps set and target for
the next generator instant, and else raises REJ. GENERATOR_INSTANT applies a waiting target to an IDLE axis at rest: with no
limit active and the target farther than one step, the axis is MOVING with the start velocity of the set toward the target,
and its position moves by that velocity. MOT_HOME starts homing on an IDLE axis. AXIS_ENABLE leaves a DISABLED axis IDLE with
its target at its position, AXIS_DISABLE an axis at rest DISABLED. MOT_AX_POS_WRITE in IDLE or DISABLED sets position and
target. Every instant first applies the due moves of each channel, then takes one step of each axis and one speed estimate.
AXIS_DISABLE of a moving axis lets it brake in state 4, or with IMMEDIATE cuts it off. -/
def Obligations.AxisMoves : Prop :=
  (∀ (s : State) (a : Nat) (v : Word), a < s.axes → field F.MOT_AX_CMD_GO v = 1 → (s.axisState a = 1 ∨ s.axisState a = 2) → s.setValid a (field F.MOT_AX_CMD_PSLOT v) = true → 
    ∃ t, exec (.motGo a v) s = .next t ∧ Only [.mot] s t ∧
      t.mo a = { s.mo a with go := some (field F.MOT_AX_CMD_PSLOT v, s.sfld (R.MOT_AX_TARGET a) F.MOT_AX_TARGET_TARGET) } ∧
      UnitsBut State.mo a s t) ∧
  (∀ (s : State) (a : Nat) (v : Word), a < s.axes → field F.MOT_AX_CMD_GO v = 1 → ((s.axisState a ≠ 1 ∧ s.axisState a ≠ 2) ∨ s.setValid a (field F.MOT_AX_CMD_PSLOT v) = false) → 
    ∃ t, exec (.motGo a v) s = .next t ∧ Only irqParts s t ∧
      t.flag R.MOT_ISR F.MOT_ISR_REJ = true ∧
      RegsBut [R.MOT_ISR] s t) ∧
  (∀ (s : State) (a k : Nat) (target : Int), a < s.axes → s.time.mt % nsU 10000 = 0 → s.up dMOT = true → s.grpState < 2 → (s.mo a).go = some (k, target) → k < 4 → s.axisState a = 1 → s.setValid a k = true → s.vel a = 0 → s.fld (R.MOT_AX_CFG a) F.MOT_AX_CFG_LASRC ≠ 1 → s.flag (R.FBK_STAT (s.axisFbk a)) F.FBK_STAT_LIMP = false → s.flag (R.FBK_STAT (s.axisFbk a)) F.FBK_STAT_LIMN = false → vT (s.profile a k 0) < |(target * 65536 - (s.mo a).pos)| → s.intg.planted = [] → 
    ∃ t, exec (.generatorInstant) s = .next t ∧ Only [.regs, .dram, .grp, .chan, .srvAx, .srvCh, .lsr, .hoop, .port, .mot, .fbk, .pci, .ddr, .intg, .xbar, .out] s t ∧
      (t.mo a).target = target ∧
      (t.mo a).go = none ∧
      t.axisState a = 2 ∧
      t.vel a = sgn (target * 65536 - (s.mo a).pos) * (s.profile a k 0 : Nat) ∧
      (t.mo a).pos = (s.mo a).pos + vT (sgn (target * 65536 - (s.mo a).pos) * (s.profile a k 0 : Nat))) ∧
  (∀ (s : State) (a : Nat) (v : Word), a < s.axes → field F.MOT_AX_CMD_HOME v = 1 → s.axisState a = 1 → s.setValid a (s.fld (R.MOT_AX_HOME a) F.MOT_AX_HOME_HSLOT) = true → s.flag (R.FBK_STAT (s.axisFbk a)) F.FBK_STAT_HOME = false → 
    ∃ t, exec (.motHome a v) s = .next t ∧ Only [.mot, .regs] s t ∧
      t.axisState a = 3 ∧
      t.flag (R.MOT_AX_STAT a) F.MOT_AX_STAT_HOMED = false ∧
      t.fld (R.MOT_AX_STAT a) F.MOT_AX_STAT_PSLOT = s.fld (R.MOT_AX_HOME a) F.MOT_AX_HOME_HSLOT ∧
      t.mo a = { s.mo a with homeEdge := false, homeDist := 0, homeFail := 0, go := none } ∧
      UnitsBut State.mo a s t ∧
      RegsBut [R.MOT_AX_STAT a] s t) ∧
  (∀ (s : State) (a : Nat) (v : Word), a < s.axes → s.flag (R.MOT_AX_CFG a) F.MOT_AX_CFG_EN = false → s.axisState a = 0 → 
    ∃ t, exec (.axisEnable a v) s = .next t ∧ Only [.regs, .mot, .pci, .out] s t ∧
      t.axisState a = 1 ∧
      t.reg (R.MOT_AX_CFG a) = (v ||| 1) &&& 0x00FF077F ∧
      (t.mo a).target = (s.mo a).counts ∧
      (t.mo a).pos = (s.mo a).counts * 65536 ∧
      UnitsBut State.mo a s t ∧
      RegsBut [R.MOT_AX_CFG a, R.MOT_AX_STAT a] s t) ∧
  (∀ (s : State) (a : Nat) (v : Word), a < s.axes → s.axisState a = 1 → s.vel a = 0 → 
    ∃ t, exec (.axisDisable a v) s = .next t ∧ Only [.regs, .dram, .grp, .mot, .pci, .ddr, .out] s t ∧
      t.axisState a = 0 ∧
      t.flag (R.MOT_AX_CFG a) F.MOT_AX_CFG_EN = false ∧
      (t.mo a).go = none ∧
      (t.mo a).pos = (s.mo a).pos ∧
      UnitsBut State.mo a s t) ∧
  (∀ (s : State) (a : Nat) (v : Word), a < s.axes → s.axisState a ≤ 1 → 
    ∃ t, exec (.motAxPosWrite a v) s = .next t ∧ Only [.mot] s t ∧
      t.mo a = { s.mo a with pos := v.toInt * 65536, target := v.toInt } ∧
      UnitsBut State.mo a s t) ∧
  (∀ (s : State) (a : Nat) (v : Word), a < s.axes → 1 < s.axisState a → 
    ∃ t, exec (.motAxPosWrite a v) s = .next t ∧ Only irqParts s t ∧
      t.flag R.MOT_ISR F.MOT_ISR_REJ = true ∧
      RegsBut [R.MOT_ISR] s t) ∧
  (∀ (s : State), s.time.mt % nsU 10000 = 0 → s.up dMOT = true → 
    ∃ t, exec (.generatorInstant) s = .next t ∧ Only [.regs, .dram, .grp, .chan, .srvAx, .srvCh, .lsr, .hoop, .port, .mot, .fbk, .pci, .ddr, .intg, .xbar, .out] s t ∧
      (t = ((s.each s.chs fun ch u => u.channelMoves ch).each (List.range s.axes) fun a u => u.axisInstant a).each (List.range s.axes) fun i u => u.speed i)) ∧
  (∀ (s : State), s.time.mt % nsU 10000 = 0 → s.up dMOT = false → 
    ∃ t, exec (.generatorInstant) s = .next t ∧ Only [.regs, .dram, .grp, .chan, .srvAx, .srvCh, .lsr, .hoop, .port, .mot, .fbk, .pci, .ddr, .intg, .xbar, .out] s t ∧
      (t = (s.each s.chs fun ch u => u.channelMoves ch))) ∧
  (∀ (s : State) (a : Nat) (v : Word), a < s.axes → s.axisState a ≠ 0 → s.axisState a ≠ 3 → s.vel a ≠ 0 → field F.MOT_AX_CFG_IMMEDIATE v = 0 → 
    ∃ t, exec (.axisDisable a v) s = .next t ∧ Only [.regs, .dram, .grp, .mot, .pci, .ddr, .out] s t ∧
      t.axisState a = 4 ∧
      t.flag (R.MOT_AX_CFG a) F.MOT_AX_CFG_EN = false ∧
      (t.mo a).go = none ∧
      t.vel a = s.vel a ∧
      UnitsBut State.mo a s t) ∧
  (∀ (s : State) (a : Nat) (v : Word), a < s.axes → s.axisState a ≠ 0 → field F.MOT_AX_CFG_IMMEDIATE v = 1 → 
    ∃ t, exec (.axisDisable a v) s = .next t ∧ Only [.regs, .dram, .grp, .mot, .pci, .ddr, .out] s t ∧
      t.axisState a = 0 ∧
      t.vel a = 0 ∧
      t.flag (R.MOT_AX_CFG a) F.MOT_AX_CFG_EN = false ∧
      (t.mo a).dutyA = 0 ∧ (t.mo a).dutyB = 0 ∧ (t.mo a).steps = 0 ∧
      UnitsBut State.mo a s t) ∧
  (∀ (s : State) (a : Nat) (v : Word), a < s.axes → s.axisState a ≠ 0 → field F.MOT_AX_CFG_MODE v = s.fld (R.MOT_AX_CFG a) F.MOT_AX_CFG_MODE → 
    ∃ t, exec (.axisEnable a v) s = .next t ∧ Only [.regs] s t ∧
      t = s.setReg (R.MOT_AX_CFG a) ((v ||| 1) &&& 0x00FF077F)) ∧
  (∀ (s : State) (a : Nat) (v : Word), a < s.axes → field F.MOT_AX_CMD_HOME v = 1 → s.axisState a = 1 → s.setValid a (s.fld (R.MOT_AX_HOME a) F.MOT_AX_HOME_HSLOT) = true → s.flag (R.FBK_STAT (s.axisFbk a)) F.FBK_STAT_HOME = true → 
    ∃ t, exec (.motHome a v) s = .next t ∧ Only [.regs, .dram, .grp, .mot, .pci, .ddr, .out] s t ∧
      t = s.homingEnd a 3)

/-- (R262, R263, R265, R259, R266, R267, R268, R275) STALL after STALLN instants, BRIDGE_FAULT, and in chopper mode OVERCURRENT
and SDLOSS put an enabled axis into FAULT with its cause, velocity 0 and HOMED cleared. STANDSTILL after SSDLY ms at rest is
noted. PWM_PERIOD in chopper mode gives each phase the integral and the duty that R259 states from its bits, the duties within
1, and moves no position. LIMIT_QUALIFIED and HOME_EDGE_QUALIFIED take samples: one that differs from the qualified level
counts, DEB of them in a row qualify it, one that reverts before counts in CHAT; a qualified active limit fails a homing axis,
a qualified active home edge latches the count and the output position of the sample that began the run. -/
def Obligations.AxisFaultsAndInputs : Prop :=
  (∀ (s : State) (a : Nat), a < s.axes → s.axisState a ≠ 0 → s.axisState a ≠ 5 → s.fld (R.MOT_AX_LA a) F.MOT_AX_LA_STALLN ≠ 0 → s.fld (R.MOT_AX_LA a) F.MOT_AX_LA_STALLN ≤ (s.mo a).stallRun → 
    ∃ t, exec (.stall a) s = .next t ∧ Only [.regs, .dram, .grp, .mot, .pci, .ddr, .out] s t ∧
      t.fld (R.MOT_AX_STAT a) F.MOT_AX_STAT_FCAUSE = 1 ∧
      t.axisState a = 5 ∧
      t.vel a = 0 ∧
      t.flag (R.MOT_AX_STAT a) F.MOT_AX_STAT_HOMED = false ∧
      t.flag R.MOT_ISR F.MOT_ISR_FAULT = true ∧
      UnitsBut State.mo a s t) ∧
  (∀ (s : State) (a low : Nat), a < s.axes → s.axisState a ≠ 0 → s.axisState a ≠ 5 → 2500 ≤ low → s.up dMOT = true → 
    ∃ t, exec (.bridgeFault ⟨a, low⟩) s = .next t ∧ Only [.regs, .dram, .grp, .mot, .pci, .ddr, .out] s t ∧
      t.fld (R.MOT_AX_STAT a) F.MOT_AX_STAT_FCAUSE = 2 ∧
      t.axisState a = 5 ∧
      t.vel a = 0 ∧
      t.flag (R.MOT_AX_STAT a) F.MOT_AX_STAT_HOMED = false ∧
      t.flag R.MOT_ISR F.MOT_ISR_FAULT = true ∧
      UnitsBut State.mo a s t) ∧
  (∀ (s : State) (a : Nat), a < s.axes → s.axisState a ≠ 0 → s.axisState a ≠ 5 → s.stepDir a = false → (2 ≤ (s.mo a).overA ∨ 2 ≤ (s.mo a).overB) → 
    ∃ t, exec (.overcurrent a) s = .next t ∧ Only [.regs, .dram, .grp, .mot, .pci, .ddr, .out] s t ∧
      t.fld (R.MOT_AX_STAT a) F.MOT_AX_STAT_FCAUSE = 3 ∧
      t.axisState a = 5 ∧
      t.vel a = 0 ∧
      t.flag (R.MOT_AX_STAT a) F.MOT_AX_STAT_HOMED = false ∧
      t.flag R.MOT_ISR F.MOT_ISR_FAULT = true ∧
      UnitsBut State.mo a s t) ∧
  (∀ (s : State) (a : Nat) (bits : List Bool), a < s.axes → s.axisState a ≠ 0 → s.axisState a ≠ 5 → s.stepDir a = false → stuckBits bits = true → s.up dMOT = true → 
    ∃ t, exec (.sdloss ⟨a, bits⟩) s = .next t ∧ Only [.regs, .dram, .grp, .mot, .pci, .ddr, .out] s t ∧
      t.fld (R.MOT_AX_STAT a) F.MOT_AX_STAT_FCAUSE = 4 ∧
      t.axisState a = 5 ∧
      t.vel a = 0 ∧
      t.flag (R.MOT_AX_STAT a) F.MOT_AX_STAT_HOMED = false ∧
      t.flag R.MOT_ISR F.MOT_ISR_FAULT = true ∧
      UnitsBut State.mo a s t) ∧
  (∀ (s : State) (a : Nat), a < s.axes → s.axisState a = 1 → (s.mo a).restAt + nsU (1000000 * s.fld (R.MOT_AX_CFG a) F.MOT_AX_CFG_SSDLY) ≤ s.time.mt → 
    ∃ t, exec (.standstill a) s = .next t ∧ Only [.regs] s t ∧
      t.flag (R.MOT_AX_STAT a) F.MOT_AX_STAT_STANDSTILL = true ∧
      t.axisState a = 1 ∧
      RegsBut [R.MOT_AX_STAT a] s t) ∧
  (∀ (s : State) (a : Nat) (bitsA bitsB : List Bool), a < s.axes → s.chopping a = true → (((s.mo a).pwmAt.all fun x => decide (x + ticksU (s.fld (R.MOT_AX_DRV a) F.MOT_AX_DRV_PWMPER) ≤ s.time.mt)) = true) → 
    ∃ t, exec (.pwmPeriod a bitsA bitsB) s = .next t ∧ Only [.mot] s t ∧
      (t.mo a).pos = (s.mo a).pos ∧
      (t.mo a).target = (s.mo a).target ∧
      ((t.mo a).intA, (t.mo a).dutyA) = piStep (s.fld (R.MOT_AX_CPI a) F.MOT_AX_CPI_KP) (s.fld (R.MOT_AX_CPI a) F.MOT_AX_CPI_KI) ((phaseCurrents (s.fld (R.MOT_AX_MEAS a) F.MOT_AX_MEAS_I) (s.thetaE a)).1 * sincGain - density bitsA * (s.fld (R.MOT_AX_SENSE a) F.MOT_AX_SENSE_ISCALE : Nat)) (s.mo a).intA ∧
      ((t.mo a).intB, (t.mo a).dutyB) = piStep (s.fld (R.MOT_AX_CPI a) F.MOT_AX_CPI_KP) (s.fld (R.MOT_AX_CPI a) F.MOT_AX_CPI_KI) ((phaseCurrents (s.fld (R.MOT_AX_MEAS a) F.MOT_AX_MEAS_I) (s.thetaE a)).2 * sincGain - density bitsB * (s.fld (R.MOT_AX_SENSE a) F.MOT_AX_SENSE_ISCALE : Nat)) (s.mo a).intB ∧
      -dutyOne ≤ (t.mo a).dutyA ∧ (t.mo a).dutyA ≤ dutyOne ∧
      -dutyOne ≤ (t.mo a).dutyB ∧ (t.mo a).dutyB ≤ dutyOne ∧
      (t.mo a).pwmAt = some s.time.mt ∧
      UnitsBut State.mo a s t) ∧
  (∀ (s : State) (i : Nat) (positive level : Bool), i < s.axes → s.up dMOT = true → (s.sampleDue (if positive then (s.fb i).limp else (s.fb i).limn).at_ 1250 = true) → level ≠ s.flag (R.FBK_CFG i) F.FBK_CFG_LPOL → (s.flag (R.FBK_STAT i) (if positive then F.FBK_STAT_LIMP else F.FBK_STAT_LIMN) = false) → (s.fld (R.FBK_CFG i) F.FBK_CFG_DEB ≤ (if positive then (s.fb i).limp else (s.fb i).limn).run + 1) → 
    ∃ t, exec (.limitQualified i positive level) s = .next t ∧ Only [.regs, .mot, .fbk] s t ∧
      (t.flag (R.FBK_STAT i) (if positive then F.FBK_STAT_LIMP else F.FBK_STAT_LIMN) = true) ∧
      ((List.range s.axes).all (fun a => decide (s.axisFbk a ≠ i ∨ s.axisState a ≠ 3 ∨ (t.mo a).homeFail = 1)) = true) ∧
      RegsBut [R.FBK_STAT i] s t) ∧
  (∀ (s : State) (i : Nat) (positive level : Bool), i < s.axes → s.up dMOT = true → (s.sampleDue (if positive then (s.fb i).limp else (s.fb i).limn).at_ 1250 = true) → ((level != s.flag (R.FBK_CFG i) F.FBK_CFG_LPOL) ≠ s.flag (R.FBK_STAT i) (if positive then F.FBK_STAT_LIMP else F.FBK_STAT_LIMN)) → ((if positive then (s.fb i).limp else (s.fb i).limn).run + 1 < s.fld (R.FBK_CFG i) F.FBK_CFG_DEB) → 
    ∃ t, exec (.limitQualified i positive level) s = .next t ∧ Only [.fbk] s t ∧
      ((if positive then (t.fb i).limp else (t.fb i).limn).run = (if positive then (s.fb i).limp else (s.fb i).limn).run + 1) ∧
      RegsBut [] s t ∧
      (∀ a ∈ List.range s.axes, t.mo a = s.mo a)) ∧
  (∀ (s : State) (i : Nat) (home limp limn : Bool), i < s.axes → s.up dMOT = true → s.sampleDue (s.fb i).home.at_ 1250 = true → home ≠ s.flag (R.FBK_CFG i) F.FBK_CFG_HPOL → s.flag (R.FBK_STAT i) F.FBK_STAT_HOME = false → 0 < (s.fb i).home.run → s.fld (R.FBK_CFG i) F.FBK_CFG_DEB ≤ (s.fb i).home.run + 1 → 
    ∃ t, exec (.homeEdgeQualified i home limp limn) s = .next t ∧ Only [.regs, .mot, .fbk] s t ∧
      t.flag (R.FBK_STAT i) F.FBK_STAT_HOME = true ∧
      t.sfld (R.FBK_HLATCH i) F.FBK_HLATCH_COUNT = signed 32 (unsigned 32 (s.fb i).home.count) ∧
      ((List.range s.axes).all (fun a => decide (s.axisFbk a ≠ i ∨ s.axisState a ≠ 3 ∨ (s.mo a).homeEdge = true ∨ (s.mo a).homeFail ≠ 0 ∨ ((t.mo a).homeEdge = true ∧ t.sfld (R.MOT_AX_HLATCH a) F.MOT_AX_HLATCH_POS = signed 32 (unsigned 32 (nth (s.fb i).home.outs a 0))))) = true)) ∧
  (∀ (s : State) (i : Nat) (home limp limn : Bool), i < s.axes → s.up dMOT = true → s.sampleDue (s.fb i).home.at_ 1250 = true → (home != s.flag (R.FBK_CFG i) F.FBK_CFG_HPOL) ≠ s.flag (R.FBK_STAT i) F.FBK_STAT_HOME → (s.fb i).home.run + 1 < s.fld (R.FBK_CFG i) F.FBK_CFG_DEB → 
    ∃ t, exec (.homeEdgeQualified i home limp limn) s = .next t ∧ Only [.regs, .mot, .fbk] s t ∧
      (t.fb i).home.run = (s.fb i).home.run + 1 ∧
      ((t.fb i).home.count = (if (s.fb i).home.run = 0 then s.count i else (s.fb i).home.count)) ∧
      RegsBut [R.FBK_STAT i, R.FBK_ERR i] s t) ∧
  (∀ (s : State) (i : Nat) (home limp limn : Bool), i < s.axes → s.up dMOT = true → s.sampleDue (s.fb i).home.at_ 1250 = true → (home != s.flag (R.FBK_CFG i) F.FBK_CFG_HPOL) = s.flag (R.FBK_STAT i) F.FBK_STAT_HOME → (s.fb i).limp.run = 0 → (s.fb i).limn.run = 0 → 
    ∃ t, exec (.homeEdgeQualified i home limp limn) s = .next t ∧ Only [.regs, .mot, .fbk] s t ∧
      (t.fb i).home.run = 0 ∧
      (t.fld (R.FBK_ERR i) F.FBK_ERR_CHAT = (if (s.fb i).home.run = 0 then s.fld (R.FBK_ERR i) F.FBK_ERR_CHAT else min (s.fld (R.FBK_ERR i) F.FBK_ERR_CHAT + 1) (2 ^ F.FBK_ERR_CHAT.width - 1))) ∧
      RegsBut [R.FBK_STAT i, R.FBK_ERR i] s t) ∧
  (∀ (s : State) (i : Nat) (home limp limn : Bool), i < s.axes → 
    ∃ t, exec (.homeEdgeQualified i home limp limn) s = .next t ∧ Only [.regs, .mot, .fbk] s t ∧
      t = ((s.homeSample i home).limitSample i true limp).limitSample i false limn)

/-- (R270, R271, R272, R274, R277) FEEDBACK_EDGE takes a sample of both inputs, and the levels that FILT passes; in step/direction
mode it counts up or down at a rising A by the level of B, and in quadrature mode a double edge counts QERR instead.
INDEX_EDGE takes a sample of FB_Z and latches the count at the edge that ZPOL selects. FBK_COUNT_WRITE stores the count while
the interface is disabled, else it is rejected. FBK_CMPPOS_WRITE arms the compare. FEEDBACK_INTERFACE_ENABLE stores the
configuration. A compare position that the count has already passed is reported as behind. -/
def Obligations.FeedbackCounting : Prop :=
  (∀ (s : State) (i : Nat) (levelA levelB : Bool), i < s.axes → s.sampleDue (s.fb i).abAt 5 = true → s.flag (R.FBK_CFG i) F.FBK_CFG_EN = true → s.up dMOT = true → s.fld (R.FBK_CFG i) F.FBK_CFG_MODE = 1 → s.flag (R.FBK_CFG i) F.FBK_CFG_INV = false → (s.fb i).a = false → levelA = true → s.fld (R.FBK_CFG i) F.FBK_CFG_FILT + 1 ≤ runAfter (s.fb i).rawA levelA (s.fb i).runA → s.fld (R.FBK_CFG i) F.FBK_CFG_FILT + 1 ≤ runAfter (s.fb i).rawB levelB (s.fb i).runB → s.flag (R.FBK_STAT i) F.FBK_STAT_ARMED = false → 
    ∃ t, exec (.feedbackEdge i levelA levelB) s = .next t ∧ Only [.regs, .fbk] s t ∧
      (t.reg (R.FBK_COUNT i) = s.reg (R.FBK_COUNT i) + (if levelB then 1 else -1)) ∧
      (t.fb i).a = true ∧
      (t.fb i).b = levelB ∧
      RegsBut [R.FBK_COUNT i] s t ∧
      UnitsBut State.fb i s t) ∧
  (∀ (s : State) (i : Nat) (levelA levelB : Bool), i < s.axes → s.sampleDue (s.fb i).abAt 5 = true → s.flag (R.FBK_CFG i) F.FBK_CFG_EN = true → s.up dMOT = true → s.fld (R.FBK_CFG i) F.FBK_CFG_MODE = 0 → (s.fb i).a ≠ levelA → (s.fb i).b ≠ levelB → s.fld (R.FBK_CFG i) F.FBK_CFG_FILT + 1 ≤ runAfter (s.fb i).rawA levelA (s.fb i).runA → s.fld (R.FBK_CFG i) F.FBK_CFG_FILT + 1 ≤ runAfter (s.fb i).rawB levelB (s.fb i).runB → 
    ∃ t, exec (.feedbackEdge i levelA levelB) s = .next t ∧ Only [.regs, .fbk, .pci, .out] s t ∧
      t.reg (R.FBK_COUNT i) = s.reg (R.FBK_COUNT i) ∧
      t.flag (R.FBK_STAT i) F.FBK_STAT_QERR = true ∧
      t.flag R.FBK_ISR F.FBK_ISR_QERR = true ∧
      (t.fb i).a = levelA ∧
      (t.fb i).b = levelB ∧
      UnitsBut State.fb i s t) ∧
  (∀ (s : State) (i : Nat) (levelA levelB : Bool), i < s.axes → s.sampleDue (s.fb i).abAt 5 = true → 
    ∃ t, exec (.feedbackEdge i levelA levelB) s = .next t ∧ Only [.regs, .fbk, .pci, .out] s t ∧
      (t.fb i).rawA = levelA ∧
      (t.fb i).rawB = levelB ∧
      (t.fb i).runA = runAfter (s.fb i).rawA levelA (s.fb i).runA ∧
      (t.fb i).a = s.filtered i levelA (s.fb i).a (runAfter (s.fb i).rawA levelA (s.fb i).runA) ∧
      (t.fb i).b = s.filtered i levelB (s.fb i).b (runAfter (s.fb i).rawB levelB (s.fb i).runB) ∧
      (t.fb i).abAt = some s.time.mt ∧
      UnitsBut State.fb i s t) ∧
  (∀ (s : State) (i : Nat) (level : Bool), i < s.axes → s.sampleDue (s.fb i).zAt 5 = true → s.flag (R.FBK_CFG i) F.FBK_CFG_EN = true → s.up dMOT = true → (s.fb i).z ≠ level → level ≠ s.flag (R.FBK_CFG i) F.FBK_CFG_ZPOL → s.fld (R.FBK_CFG i) F.FBK_CFG_FILT + 1 ≤ runAfter (s.fb i).rawZ level (s.fb i).runZ → s.fld (R.FBK_LINES i) F.FBK_LINES_LINES = 0 → 
    ∃ t, exec (.indexEdge ⟨i, level⟩) s = .next t ∧ Only [.regs, .fbk] s t ∧
      t.reg (R.FBK_ZLATCH i) = s.reg (R.FBK_COUNT i) ∧
      t.flag (R.FBK_STAT i) F.FBK_STAT_ZSEEN = true ∧
      (t.fb i).idxDir = some (s.fb i).dirUp ∧
      RegsBut [R.FBK_ZLATCH i, R.FBK_STAT i] s t ∧
      UnitsBut State.fb i s t) ∧
  (∀ (s : State) (i : Nat) (level : Bool), i < s.axes → s.sampleDue (s.fb i).zAt 5 = true → 
    ∃ t, exec (.indexEdge ⟨i, level⟩) s = .next t ∧ Only [.regs, .dram, .grp, .mot, .fbk, .pci, .ddr, .out] s t ∧
      (t.fb i).rawZ = level ∧
      (t.fb i).z = s.filtered i level (s.fb i).z (runAfter (s.fb i).rawZ level (s.fb i).runZ) ∧
      (t.fb i).zAt = some s.time.mt ∧
      UnitsBut State.fb i s t) ∧
  (∀ (s : State) (i : Nat) (v : Word), i < s.axes → s.flag (R.FBK_CFG i) F.FBK_CFG_EN = false → 
    ∃ t, exec (.fbkCountWrite i v) s = .next t ∧ Only [.regs, .fbk] s t ∧
      t.reg (R.FBK_COUNT i) = v ∧
      RegsBut [R.FBK_COUNT i] s t ∧
      UnitsBut State.fb i s t) ∧
  (∀ (s : State) (i : Nat) (v : Word), i < s.axes → s.flag (R.FBK_CFG i) F.FBK_CFG_EN = true → 
    ∃ t, exec (.fbkCountWrite i v) s = .next t ∧ Only irqParts s t ∧
      t.flag R.FBK_ISR F.FBK_ISR_REJ = true ∧
      RegsBut [R.FBK_ISR] s t) ∧
  (∀ (s : State) (i : Nat) (v : Word), i < s.axes → (s.fb i).moved = 0 → 
    ∃ t, exec (.fbkCmpposWrite i v) s = .next t ∧ Only [.regs] s t ∧
      t.reg (R.FBK_CMPPOS i) = v ∧
      t.flag (R.FBK_STAT i) F.FBK_STAT_ARMED = true ∧
      RegsBut [R.FBK_CMPPOS i, R.FBK_STAT i] s t) ∧
  (∀ (s : State) (i : Nat) (v : Word), i < s.axes → s.flag (R.FBK_CFG i) F.FBK_CFG_EN = false → field F.FBK_CFG_MODE v ≠ 3 → field F.FBK_CFG_DEB v ≠ 0 → 
    ∃ t, exec (.feedbackInterfaceEnable i v) s = .next t ∧ Only [.regs, .dram, .grp, .dom, .fbk, .pci, .ddr, .pwr, .out] s t ∧
      t.reg (R.FBK_CFG i) = v &&& 0x00FF07FF) ∧
  (∀ (s : State) (i : Nat) (v : Word), i < s.axes → (((s.fb i).moved ≤ 0 ∨ 0 < countDiff v.toInt (s.count i)) ∧ (0 ≤ (s.fb i).moved ∨ countDiff v.toInt (s.count i) < 0)) → 
    ∃ t, exec (.fbkCmpposWrite i v) s = .next t ∧ Only [.regs] s t ∧
      t.reg (R.FBK_CMPPOS i) = v ∧
      t.flag (R.FBK_STAT i) F.FBK_STAT_ARMED = true ∧
      RegsBut [R.FBK_CMPPOS i, R.FBK_STAT i] s t) ∧
  (∀ (s : State) (i : Nat) (v : Word), i < s.axes → ((0 < (s.fb i).moved ∧ countDiff v.toInt (s.count i) ≤ 0) ∨ ((s.fb i).moved < 0 ∧ 0 ≤ countDiff v.toInt (s.count i))) → s.flag (R.FBK_CMPCFG i) F.FBK_CMPCFG_FIRE_NOW = false → 
    ∃ t, exec (.fbkCmpposWrite i v) s = .next t ∧ Only [.regs, .fbk, .pci, .out] s t ∧
      t.flag (R.FBK_STAT i) F.FBK_STAT_CMP_BEHIND = true ∧
      t.flag R.FBK_ISR F.FBK_ISR_BEHIND = true ∧
      t.flag (R.FBK_STAT i) F.FBK_STAT_ARMED = true) ∧
  (∀ (s : State) (i : Nat) (v : Word), i < s.axes → 
    ∃ t, exec (.feedbackInterfaceEnable i v) s = .next t ∧ Only [.regs, .dram, .grp, .dom, .fbk, .pci, .ddr, .pwr, .out] s t ∧
      t.flag (R.FBK_CFG i) F.FBK_CFG_EN = decide (field F.FBK_CFG_EN v = 1) ∧
      t.fld (R.FBK_CFG i) F.FBK_CFG_FILT = field F.FBK_CFG_FILT v ∧
      (t.fld (R.FBK_CFG i) F.FBK_CFG_DEB = (if field F.FBK_CFG_DEB v = 0 then s.fld (R.FBK_CFG i) F.FBK_CFG_DEB else field F.FBK_CFG_DEB v)))

/-- (R283, R284, R285, R286, R294, R295, R299, R302, R304, R308) CAMERA_PORT_ENABLE of a disabled port whose configuration R285
admits stores it and waits for a frame. FRAME_START at an edge where VS becomes active, with room in the ring, opens a frame
with the next number and the index of its record. CAMERA_LINE whose edges give the set width with room in the FIFO adds a
line; another width drops the frame with GEOM. FRAME_END_AT_PORT where VS becomes inactive after HEIGHT lines completes the
frame. PIPELINE_PORT_SELECT takes up the only port with a frame; STRIPE_END in FRAME mode turns the arrived lines into vision
rows, or drops the frame with INTEGRITY where a FIFO line fails its CRC; with no port served it changes nothing;
PIPELINE_FRAME_END writes the record of a finished frame, moves RWR on and forgets the frame. CAMERA_PORT_DISABLE of an idle
port leaves it off. -/
def Obligations.CameraFrames : Prop :=
  (∀ (s : State) (p : Nat) (v : Word), p < s.camPorts → s.flag (R.CAM_PT_CFG p) F.CAM_PT_CFG_EN = false → (s.setReg (R.CAM_PT_CFG p) ((v &&& 0x1FFFFFF) ||| 1)).camOk p = true → 
    ∃ t, exec (.cameraPortEnable p v) s = .next t ∧ Only [.regs, .cam] s t ∧
      t.reg (R.CAM_PT_CFG p) = (v &&& 0x1FFFFFF) ||| 1 ∧
      t.fld (R.CAM_PT_STAT p) F.CAM_PT_STAT_STATE = 1 ∧
      (t.cm p).seqs = [] ∧
      RegsBut [R.CAM_PT_CFG p, R.CAM_PT_STAT p, R.CAM_PT_EXPSTAT p] s t ∧
      UnitsBut State.cm p s t) ∧
  (∀ (s : State) (p : Nat) (v : Word), p < s.camPorts → s.flag (R.CAM_PT_CFG p) F.CAM_PT_CFG_EN = false → (s.setReg (R.CAM_PT_CFG p) ((v &&& 0x1FFFFFF) ||| 1)).camOk p = false → 
    ∃ t, exec (.cameraPortEnable p v) s = .next t ∧ Only irqParts s t ∧
      t.flag R.CAM_ISR F.CAM_ISR_REJ = true ∧
      RegsBut [R.CAM_ISR] s t) ∧
  (∀ (s : State) (p : Nat) (v : Word), p < s.camPorts → s.flag (R.CAM_PT_CFG p) F.CAM_PT_CFG_EN = true → (s.cm p).frames = [] → v &&& 0x1FFFFFE = s.reg (R.CAM_PT_CFG p) &&& 0x1FFFFFE → 
    ∃ t, exec (.cameraPortDisable p v) s = .next t ∧ Only [.regs, .dram, .cam, .pipe, .pci, .ddr, .free, .out] s t ∧
      t.flag (R.CAM_PT_CFG p) F.CAM_PT_CFG_EN = false ∧
      t.fld (R.CAM_PT_STAT p) F.CAM_PT_STAT_STATE = 0 ∧
      (t.cm p).pendSet = none ∧
      (t.cm p).sendSet = none ∧
      UnitsBut State.cm p s t) ∧
  (∀ (s : State) (p : Nat) (vs : Bool), p < s.camPorts → s.vsActive p vs = true → s.vsActive p (s.cm p).vs = false → s.flag (R.CAM_PT_CFG p) F.CAM_PT_CFG_EN = true → s.up dCAM = true → (s.cm p).frames = [] → (s.cm p).sendSet = none → (s.cm p).pendSet = none → (s.cm p).seqs = [] → (s.fld (R.CAM_PT_RWR p) F.CAM_PT_RWR_INDEX % s.camRing p + 1) % s.camRing p ≠ s.fld (R.CAM_PT_RRD p) F.CAM_PT_RRD_INDEX % s.camRing p → 
    ∃ t, exec (.frameStart ⟨p, vs⟩) s = .next t ∧ Only [.regs, .cam, .pci, .out] s t ∧
      t.fld (R.CAM_PT_FRAMES p) F.CAM_PT_FRAMES_NUM = (s.fld (R.CAM_PT_FRAMES p) F.CAM_PT_FRAMES_NUM + 1) % 65536 ∧
      t.fld (R.CAM_PT_STAT p) F.CAM_PT_STAT_STATE = 2 ∧
      ((t.cm p).frames = [⟨(s.fld (R.CAM_PT_FRAMES p) F.CAM_PT_FRAMES_NUM + 1) % 65536, s.fld (R.CAM_PT_EXPSTAT p) F.CAM_PT_EXPSTAT_CURSEQ, s.fld (R.CAM_PT_RWR p) F.CAM_PT_RWR_INDEX % s.camRing p, mtStamp (s.time.mt - ticksU 4), if s.grp.run then s.grp.s - 4 else s.grp.s, s.grp.layer, 0, [], [], none, false, false, false, none⟩]) ∧
      (t.cm p).vs = vs ∧
      UnitsBut State.cm p s t) ∧
  (∀ (s : State) (p : Nat) (f : Frame) (edges : List CamEdge), p < s.camPorts → (s.cm p).frames = [f] → f.complete = false → f.drop = none → (s.cm p).discard = false → (s.linePixels p edges).length = s.camWidth p → f.received ≠ s.camHeight p → s.camFill p + (s.linePixels p edges).length * s.camPixel p ≤ 262144 → 
    ∃ t, exec (.cameraLine p edges) s = .next t ∧ Only [.cam, .regs] s t ∧
      ((t.cm p).frames = [{ f with received := f.received + 1, lines := f.lines ++ [(s.linePixels p edges).map fun a => a % 2 ^ s.camBits p] }]) ∧
      RegsBut [R.CAM_PT_STAT p] s t ∧
      UnitsBut State.cm p s t) ∧
  (∀ (s : State) (p : Nat) (f : Frame) (edges : List CamEdge), p < s.camPorts → (s.cm p).frames = [f] → f.complete = false → f.drop = none → (s.cm p).discard = false → (s.linePixels p edges).length ≠ s.camWidth p → f.received ≠ s.camHeight p → s.camFill p + min (s.linePixels p edges).length (s.camWidth p) * s.camPixel p ≤ 262144 → 
    ∃ t, exec (.cameraLine p edges) s = .next t ∧ Only [.regs, .dram, .cam, .pipe, .pci, .ddr, .free, .out] s t ∧
      t = s.dropFrame p f.index 2) ∧
  (∀ (s : State) (p : Nat) (f : Frame) (vs : Bool), p < s.camPorts → s.vsActive p vs = false → s.vsActive p (s.cm p).vs = true → (s.cm p).frames = [f] → f.complete = false → f.drop = none → (s.cm p).discard = false → s.fld (R.CAM_PT_STAT p) F.CAM_PT_STAT_STATE = 2 → f.received = s.camHeight p → 
    ∃ t, exec (.frameEndAtPort ⟨p, vs⟩) s = .next t ∧ Only [.cam, .regs] s t ∧
      (t.cm p).frames = [{ f with complete := true }] ∧
      t.fld (R.CAM_PT_STAT p) F.CAM_PT_STAT_STATE = 3 ∧
      (t.cm p).vs = vs ∧
      RegsBut [R.CAM_PT_STAT p] s t ∧
      UnitsBut State.cm p s t) ∧
  (∀ (s : State) (p : Nat) (f : Frame), p < s.camPorts → s.pipe.serving = none → s.up dCAM = true → s.striped = false → (s.choosePort (fun q => (s.nextFrame q).isSome) = some p) → s.nextFrame p = some f → 
    ∃ t, exec (.pipelinePortSelect) s = .next t ∧ Only [.pipe, .cam] s t ∧
      t.pipe = { s.pipe with serving := some p, stripe := 0 } ∧
      (t.nextFrame p).map Frame.num = some f.num ∧
      ((t.nextFrame p).bind Frame.latched).isSome = true ∧
      UnitsBut State.cm p s t) ∧
  (∀ (s : State) (p : Nat) (f : Frame) (flip : List Byte), p < s.camPorts → s.pipe.serving = some p → s.striped = false → (s.cm p).frames = [f] → f.drop = none → f.vis.length < s.camHeight p → f.lines ≠ [] → s.intg.planted = [] → s.intg.hidden = [] → flip.all (· == 0) = true → 
    ∃ t, exec (.stripeEnd flip) s = .next t ∧ Only [.cam, .regs] s t ∧
      ((t.cm p).frames = [{ f with lines := [], vis := f.vis ++ f.lines.zipIdx.map fun e => s.visionRow p (f.latched.getD []) (f.vis.length + e.2) e.1 }]) ∧
      t.pipe = s.pipe ∧
      RegsBut [R.CAM_PT_STAT p] s t ∧
      UnitsBut State.cm p s t) ∧
  (∀ (s : State) (p : Nat) (f : Frame) (flip : List Byte), p < s.camPorts → s.pipe.serving = some p → s.striped = false → (s.cm p).frames = [f] → f.drop = none → f.vis.length < s.camHeight p → f.lines ≠ [] → s.intg.planted = [] → s.intg.hidden = [] → flip.all (· == 0) = false → fifoSound (s.fifoBytes p f.lines).length (s.fifoBytes p f.lines) (flipBytes (s.fifoBytes p f.lines) flip) = false → 
    ∃ t, exec (.stripeEnd flip) s = .next t ∧ Only [.regs, .dram, .grp, .cam, .pipe, .pci, .ddr, .intg, .free, .out] s t ∧
      (t = ((s.detectCrc 7 0xFF).modFrame p f.index fun g => { g with lines := [] }).dropFrame p f.index 4)) ∧
  (∀ (s : State) (flip : List Byte), s.pipe.serving = none → 
    ∃ t, exec (.stripeEnd flip) s = .next t ∧ Only [.regs, .dram, .grp, .cam, .pipe, .pci, .ddr, .intg, .free, .out] s t ∧
      t = s) ∧
  (∀ (s : State) (p : Nat) (f : Frame), p < s.camPorts → s.pipe.last = p → s.finished p = some f → (s.cm p).frames = [f] → s.fld (R.CAM_PT_CFG p) F.CAM_PT_CFG_OUTEN = 0 → s.dramOk (64 * (s.fld (R.CAM_PT_RBASE p) F.CAM_PT_RBASE_LINE + f.index)) 64 = true → 
    ∃ t, exec (.pipelineFrameEnd) s = .next t ∧ Only [.regs, .dram, .cam, .pipe, .pci, .ddr, .free, .out] s t ∧
      (t.cm p).frames = [] ∧
      t.readDram (64 * (s.fld (R.CAM_PT_RBASE p) F.CAM_PT_RBASE_LINE + f.index)) 64 = s.camRecord p f 0 (some s.stamp) ∧
      SameDramBut (64 * (s.fld (R.CAM_PT_RBASE p) F.CAM_PT_RBASE_LINE + f.index)) 64 s t ∧
      t.fld (R.CAM_PT_RWR p) F.CAM_PT_RWR_INDEX = (f.index + 1) % s.camRing p ∧
      t.flag R.CAM_ISR F.CAM_ISR_FRAME = true ∧
      t.flag (R.SRV_MB_SEQ p) F.SRV_MB_SEQ_NEW = true ∧
      t.fld (R.SRV_MB_SEQ p) F.SRV_MB_SEQ_SEQ = f.seq % 65536 ∧
      UnitsBut State.cm p s t)

/-- (R97, R287, R289, R290, R292, R310) HOST_TRIGGER with TRIG = 1, and TRIG_PULSE for the due TRIG of a camera, make the trigger
of the port active to now plus 80 ticks for each unit of WIDTH; an overlap of trigger or strobe pulses merges them and is
counted. I2C_GO on a free port starts a transaction and is rejected on a busy one; I2C_DONE ends it with its code.
EXPOSURE_COMMIT of 1 to 16 entries makes the set pending. CAMERA_TABLE_WRITE stores the masked word, but not into grid or tone
table of an enabled port. -/
def Obligations.CameraControl : Prop :=
  (∀ (s : State) (p : Nat) (v : Word), p < s.camPorts → field F.CAM_PT_TRIG_TRIG v = 1 → (s.cm p).trigUntil ≤ s.time.mt → 
    ∃ t, exec (.hostTrigger p v) s = .next t ∧ Only [.regs, .cam] s t ∧
      t.cm p = { s.cm p with trigUntil := s.time.mt + ticksU (80 * max 1 (field F.CAM_PT_TRIG_WIDTH v)) } ∧
      t.fld (R.CAM_PT_TRIG p) F.CAM_PT_TRIG_WIDTH = field F.CAM_PT_TRIG_WIDTH v ∧
      RegsBut [R.CAM_PT_TRIG p] s t ∧
      UnitsBut State.cm p s t) ∧
  (∀ (s : State) (p : Nat) (v : Word), p < s.camPorts → field F.CAM_PT_TRIG_TRIG v = 1 → s.time.mt < (s.cm p).trigUntil → 
    ∃ t, exec (.hostTrigger p v) s = .next t ∧ Only [.regs, .cam, .pci, .out] s t ∧
      (t.cm p).trigUntil = max (s.cm p).trigUntil (s.time.mt + ticksU (80 * max 1 (field F.CAM_PT_TRIG_WIDTH v))) ∧
      t.fld (R.CAM_PT_TRIG p) F.CAM_PT_TRIG_CNF = min (s.fld (R.CAM_PT_TRIG p) F.CAM_PT_TRIG_CNF + 1) (2 ^ F.CAM_PT_TRIG_CNF.width - 1) ∧
      t.flag R.CAM_ISR F.CAM_ISR_TRIGCNF = true ∧
      UnitsBut State.cm p s t) ∧
  (∀ (s : State) (ch k tt width : Nat) (as : List Action), ch < s.channels → s.acting ch = true → (s.ch ch).acts = ⟨tt, .trig width 1 k⟩ :: as → tt ≤ s.grp.s → s.flag (R.LGT_STB_STAT k) F.LGT_STB_STAT_READY = true → s.up dLGT = true → s.time.mt < (s.sb k).until_ → 
    ∃ t, exec (.trigPulse ch) s = .next t ∧ Only [.regs, .chan, .cam, .strobe, .pci, .out] s t ∧
      t.sb k = { s.sb k with until_ := max (s.sb k).until_ (s.time.mt + ticksU (80 * width)), conflicts := (s.sb k).conflicts + 1 } ∧
      UnitsBut State.sb k s t) ∧
  (∀ (s : State) (ch p tt width : Nat) (as : List Action), ch < s.channels → s.acting ch = true → (s.ch ch).acts = ⟨tt, .trig width 0 p⟩ :: as → tt ≤ s.grp.s → (s.cm p).trigUntil ≤ s.time.mt → 
    ∃ t, exec (.trigPulse ch) s = .next t ∧ Only [.chan, .cam] s t ∧
      (t.ch ch).acts = as ∧
      t.cm p = { s.cm p with trigUntil := s.time.mt + ticksU (80 * width) } ∧
      UnitsBut State.cm p s t ∧
      RegsBut [] s t) ∧
  (∀ (s : State) (p : Nat) (v : Word), p < s.camPorts → field F.CAM_PT_I2CCMD_GO v = 1 → (s.cm p).i2c = none → (s.cm p).sendSet = none → 
    ∃ t, exec (.i2cGo p v) s = .next t ∧ Only [.regs, .cam, .pci, .out] s t ∧
      (t.cm p).i2c = some ⟨.host, decide (field F.CAM_PT_I2CCMD_WRITE v = 1), field F.CAM_PT_I2CCMD_REG v, field F.CAM_PT_I2CCMD_N v + 1⟩ ∧
      t.flag (R.CAM_PT_I2CCMD p) F.CAM_PT_I2CCMD_BUSY = true ∧
      t.out.length = s.out.length + 1 ∧
      UnitsBut State.cm p s t) ∧
  (∀ (s : State) (p : Nat) (v : Word), p < s.camPorts → field F.CAM_PT_I2CCMD_GO v = 1 → ((s.cm p).i2c ≠ none ∨ (s.cm p).sendSet ≠ none) → 
    ∃ t, exec (.i2cGo p v) s = .next t ∧ Only [.regs, .cam, .pci, .out] s t ∧
      t.cm p = s.cm p ∧
      t.flag R.CAM_ISR F.CAM_ISR_REJ = true ∧
      UnitsBut State.cm p s t) ∧
  (∀ (s : State) (p code : Nat) (data : Word) (q : I2c), p < s.camPorts → (s.cm p).i2c = some q → q.owner = .host → q.write = false → code = 0 → (s.cm p).sendSet = none → 
    ∃ t, exec (.i2cDone p code data) s = .next t ∧ Only [.regs, .cam, .pci, .out] s t ∧
      (t.cm p).i2c = none ∧
      t.reg (R.CAM_PT_I2CDATA p) = data ∧
      t.fld (R.CAM_PT_I2CCMD p) F.CAM_PT_I2CCMD_CODE = 0 ∧
      t.flag (R.CAM_PT_I2CCMD p) F.CAM_PT_I2CCMD_BUSY = false ∧
      UnitsBut State.cm p s t) ∧
  (∀ (s : State) (p : Nat) (v : Word), p < s.camPorts → field F.CAM_PT_EXPCMD_COMMIT v = 1 → 0 < field F.CAM_PT_EXPCMD_COUNT v → field F.CAM_PT_EXPCMD_COUNT v ≤ 16 → 
    ∃ t, exec (.exposureCommit p v) s = .next t ∧ Only [.regs, .cam, .pci, .out] s t ∧
      (t.cm p).pendSet = some (field F.CAM_PT_EXPCMD_BANK v, field F.CAM_PT_EXPCMD_COUNT v, field F.CAM_PT_EXPCMD_SEQ v) ∧
      (t.cm p).sendSet = (s.cm p).sendSet ∧
      UnitsBut State.cm p s t) ∧
  (∀ (s : State) (addr : Nat) (v : Word), 0x1A00000 ≤ addr → addr < 0x1A40000 → addr % 4 = 0 → ((addr - 0x1A00000) / 0x10000) < s.camPorts → camMask ((addr - 0x1A00000) % 0x10000) ≠ 0 → (((addr - 0x1A00000) % 0x10000) < 0x6000 → s.flag (R.CAM_PT_CFG ((addr - 0x1A00000) / 0x10000)) F.CAM_PT_CFG_EN = false) → (s.cm ((addr - 0x1A00000) / 0x10000)).pendSet = none → (s.cm ((addr - 0x1A00000) / 0x10000)).sendSet = none → s.splitWrite = false → 
    ∃ t, exec (.cameraTableWrite addr v) s = .next t ∧ Only [.regs, .intg] s t ∧
      t.reg addr = v &&& BitVec.ofNat 32 (camMask ((addr - 0x1A00000) % 0x10000)) ∧
      RegsBut [addr] s t) ∧
  (∀ (s : State) (addr : Nat) (v : Word), 0x1A00000 ≤ addr → addr < 0x1A40000 → addr % 4 = 0 → ((addr - 0x1A00000) / 0x10000) < s.camPorts → camMask ((addr - 0x1A00000) % 0x10000) ≠ 0 → ((addr - 0x1A00000) % 0x10000) < 0x6000 → s.flag (R.CAM_PT_CFG ((addr - 0x1A00000) / 0x10000)) F.CAM_PT_CFG_EN = true → 
    ∃ t, exec (.cameraTableWrite addr v) s = .next t ∧ Only irqParts s t ∧
      t.flag R.CAM_ISR F.CAM_ISR_REJ = true ∧
      RegsBut [R.CAM_ISR] s t)

/-- (R313, R314, R315, R316, R319, R324) LGT_ENABLE from EN = 0 starts a full short test with EN set; SHORT_TEST_DONE ends it;
LGT_TEST_RUN starts one when none runs; SHORT_CLEAR clears the pairs written with 1. LGT_DISABLE leaves EN clear, no test and
no frame. SINK_WRITE of the scale while EN = 0 is in force at once; while the demand that it raises is not granted, WAITGRANT
is set and the scale in force does not rise. SINK_WRITE of enables and codes stores and takes the demand to the arbiter; of a
bank it stores a free bank and is rejected on another. -/
def Obligations.SinksAndShortTest : Prop :=
  (∀ (s : State) (v : Word), s.hasLight = true → s.flag R.LGT_CTL F.LGT_CTL_EN = false → 
    ∃ t, exec (.lgtEnable v) s = .next t ∧ Only [.regs, .lgt, .pci, .pwr, .out] s t ∧
      t.flag R.LGT_CTL F.LGT_CTL_EN = true ∧
      t.flag R.LGT_CTL F.LGT_CTL_MATRIX = decide (field F.LGT_CTL_MATRIX v = 1) ∧
      t.lgt.test = 1 ∧
      t.flag R.LGT_TEST F.LGT_TEST_BUSY = true ∧
      t.lgt.frame = false ∧
      t.lgt.line = 0 ∧
      t.lgt.lit = none) ∧
  (∀ (s : State) (v : Word), s.hasLight = true → 
    ∃ t, exec (.lgtDisable v) s = .next t ∧ Only [.regs, .lgt, .strobe, .pci, .pwr, .out] s t ∧
      t.flag R.LGT_CTL F.LGT_CTL_EN = false ∧
      t.lgt.test = 0 ∧
      t.lgt.frame = false ∧
      t.lgt.codes = [] ∧
      t.flag R.LGT_STAT F.LGT_STAT_WAITGRANT = false) ∧
  (∀ (s : State) (v : Word), s.hasLight = true → s.flag R.LGT_CTL F.LGT_CTL_EN = false → 
    ∃ t, exec (.sinkWrite R.LGT_SCALE v) s = .next t ∧ Only [.regs, .lgt, .pci, .intg, .pwr, .out] s t ∧
      t.reg R.LGT_SCALE = v &&& 0x3F ∧
      t.lgt.scale = field F.LGT_SCALE_G v ∧
      t.flag R.LGT_STAT F.LGT_STAT_WAITGRANT = false) ∧
  (∀ (s : State) (v : Word), s.hasLight = true → s.granted 3 sinkReq < (s.setReg R.LGT_SCALE (v &&& 0x3F)).sinkDemand → 
    ∃ t, exec (.sinkWrite R.LGT_SCALE v) s = .next t ∧ Only [.regs, .lgt, .pci, .intg, .pwr, .out] s t ∧
      t.reg R.LGT_SCALE = v &&& 0x3F ∧
      t.lgt.scale ≤ s.lgt.scale ∧
      t.flag R.LGT_STAT F.LGT_STAT_WAITGRANT = true) ∧
  (∀ (s : State) (addr : Nat) (v : Word), s.hasLight = true → (addr = R.LGT_SINKEN_LO ∨ addr = R.LGT_SINKEN_HI) → 
    ∃ t, exec (.sinkWrite addr v) s = .next t ∧ Only [.regs, .lgt, .pci, .intg, .pwr, .out] s t ∧
      (t = (s.setReg addr (if addr = R.LGT_SINKEN_LO then v else v &&& 0xFFFF)).lightSync)) ∧
  (∀ (s : State) (addr : Nat) (v : Word), s.hasLight = true → 0x1B00000 ≤ addr → addr < 0x1B00030 → addr % 4 = 0 → 
    ∃ t, exec (.sinkWrite addr v) s = .next t ∧ Only [.regs, .lgt, .pci, .intg, .pwr, .out] s t ∧
      t = (s.tableStore addr 0xFFFFFFFF v).lightSync) ∧
  (∀ (s : State) (addr : Nat) (v : Word), s.hasLight = true → addr % 4 = 0 → ((bankOf addr).all (fun b => s.bankFree b) = true) → (bankOf addr).isSome = true → 
    ∃ t, exec (.sinkWrite addr v) s = .next t ∧ Only [.regs, .lgt, .pci, .intg, .pwr, .out] s t ∧
      t = s.tableStore addr 0xFFFFFFFF v) ∧
  (∀ (s : State) (addr : Nat) (v : Word), s.hasLight = true → addr % 4 = 0 → ((bankOf addr).any (fun b => !s.bankFree b) = true) → 
    ∃ t, exec (.sinkWrite addr v) s = .next t ∧ Only [.regs, .lgt, .pci, .intg, .pwr, .out] s t ∧
      t = s.raise R.LGT_ISR F.LGT_ISR_REJ) ∧
  (∀ (s : State), s.lgt.test ≠ 0 → 
    ∃ t, exec (.shortTestDone []) s = .next t ∧ Only [.regs, .dram, .grp, .lgt, .pci, .ddr, .out] s t ∧
      t.lgt = { s.lgt with test := 0 } ∧
      t.flag R.LGT_TEST F.LGT_TEST_BUSY = false ∧
      RegsBut [R.LGT_TEST] s t) ∧
  (∀ (s : State) (shorted : List Nat), s.lgt.test ≠ 0 → 
    ∃ t, exec (.shortTestDone shorted) s = .next t ∧ Only [.regs, .dram, .grp, .lgt, .pci, .ddr, .out] s t ∧
      (t = { s.each shorted (fun k t => t.shortFound (if s.lgt.test = 1 then 0 else 1) k) with lgt := { s.lgt with test := 0 } }.setFlag R.LGT_TEST F.LGT_TEST_BUSY false)) ∧
  (∀ (s : State) (k : Nat), s.lgt.test ≠ 0 → k < 32 → bitAt s.sinkEn k = true → bitAt s.sinkEn (k + 1) = true → 
    ∃ t, exec (.shortTestDone [k]) s = .next t ∧ Only [.regs, .dram, .grp, .lgt, .pci, .ddr, .out] s t ∧
      bitAt t.shorts k = true ∧
      t.flag R.LGT_ISR F.LGT_ISR_SHORT = true ∧
      t.lgt = { s.lgt with test := 0 } ∧
      t.sinkMayBeOn k = false) ∧
  (∀ (s : State), s.hasLight = true → s.lgt.test = 0 → 
    ∃ t, exec (.lgtTestRun) s = .next t ∧ Only [.lgt, .regs] s t ∧
      t.lgt = { s.lgt with test := 2 } ∧
      t.flag R.LGT_TEST F.LGT_TEST_BUSY = true ∧
      RegsBut [R.LGT_TEST] s t) ∧
  (∀ (s : State) (v : Word), s.hasLight = true → 
    ∃ t, exec (.shortClear false v) s = .next t ∧ Only [.regs] s t ∧
      t.reg R.LGT_SHORT_LO = s.reg R.LGT_SHORT_LO &&& ~~~v ∧
      RegsBut [R.LGT_SHORT_LO] s t) ∧
  (∀ (s : State) (v : Word), s.hasLight = true → 
    ∃ t, exec (.shortClear true v) s = .next t ∧ Only [.regs] s t ∧
      t.reg R.LGT_SHORT_HI = s.reg R.LGT_SHORT_HI &&& ~~~v ∧
      RegsBut [R.LGT_SHORT_HI] s t) ∧
  (∀ (s : State) (high : Bool) (v : Word), s.hasLight = true → 
    ∃ t, exec (.shortClear high v) s = .next t ∧ Only [.regs] s t ∧
      (t = (if high then s.setReg R.LGT_SHORT_HI (s.reg R.LGT_SHORT_HI &&& ~~~v) else s.setReg R.LGT_SHORT_LO (s.reg R.LGT_SHORT_LO &&& ~~~v))))

/-- (R316, R317, R318, R320, R321, R322) MATRIX_LINE, free-running or in a frame of LSYNC, lights its line for LINE_T, then the
blanking follows, and wraps after the last; SWAP marks a swap pending; LSYNC_EDGE inverts the level of the pin and, where the
new level is the one SYNCPOL chooses, places a frame start DLY later, LSYNC_FRAME_START begins the frame at line 0 and carries
out a granted swap. STROBE_ENABLE with ISET = 0 is ready at once. STROBE_PULSE on a ready strobe turns it on for 80 ticks for
each unit, on another it counts MISS. STROBE_CUT ends a pulse at MAXON and counts; an overlap extends the pulse and counts.
STROBE_OVERCURRENT above 1.5 and STROBE_NORISE below 0.5 of the set shunt voltage clear EN with their cause; STB_ISN_CROSSING
turns the gate of a strobe that is on on below (1 - H), off above (1 + H), and holds it between. -/
def Obligations.MatrixAndStrobes : Prop :=
  (∀ (s : State) (shorted : List Nat), s.matrixOn = true → s.lgt.lineEnd ≤ s.time.mt → s.flag R.LGT_CTL F.LGT_CTL_SYNC = false → s.flag R.LGT_MTX_CTL F.LGT_MTX_CTL_PENDING = false → s.lgt.endEarly = false → 
    ∃ t, exec (.matrixLine shorted) s = .next t ∧ Only [.regs, .dram, .grp, .lgt, .pci, .ddr, .intg, .pwr, .out] s t ∧
      (t.lgt.line = (if s.mtxLines ≤ s.lgt.line + 1 then 0 else s.lgt.line + 1)) ∧
      t.lgt.lineEnd = s.time.mt + ticksU (s.fld R.LGT_MTX_CFG F.LGT_MTX_CFG_LINE_T + s.fld R.LGT_MTX_BLANK F.LGT_MTX_BLANK_BLANK) ∧
      t.flag R.LGT_TEST F.LGT_TEST_NOBLANK = decide (s.fld R.LGT_MTX_BLANK F.LGT_MTX_BLANK_BLANK < 1250) ∧
      t.lgt.lit = some (s.lgt.line, s.time.mt + ticksU (s.fld R.LGT_MTX_CFG F.LGT_MTX_CFG_LINE_T)) ∧
      (t.lgt.pair = (if s.fld R.LGT_MTX_BLANK F.LGT_MTX_BLANK_BLANK < 1250 then s.lgt.pair else (s.lgt.pair + 4) % 47))) ∧
  (∀ (s : State) (shorted : List Nat), s.matrixOn = true → s.lgt.lineEnd ≤ s.time.mt → s.flag R.LGT_CTL F.LGT_CTL_SYNC = true → s.lgt.frame = true → s.lgt.endEarly = false → 
    ∃ t, exec (.matrixLine shorted) s = .next t ∧ Only [.regs, .dram, .grp, .lgt, .pci, .ddr, .intg, .pwr, .out] s t ∧
      (t.lgt.line = (if s.mtxLines ≤ s.lgt.line + 1 then 0 else s.lgt.line + 1)) ∧
      t.lgt.frame = decide (s.lgt.line + 1 < s.mtxLines) ∧
      t.lgt.lit = some (s.lgt.line, s.time.mt + ticksU (s.fld R.LGT_MTX_CFG F.LGT_MTX_CFG_LINE_T)) ∧
      t.fld R.LGT_MTX_CTL F.LGT_MTX_CTL_ACTIVE = s.fld R.LGT_MTX_CTL F.LGT_MTX_CTL_ACTIVE) ∧
  (∀ (s : State) (t0 : Nat), s.lgt.startAt = some t0 → t0 ≤ s.time.mt → s.matrixOn = true → s.flag R.LGT_CTL F.LGT_CTL_SYNC = true → s.flag R.LGT_MTX_CTL F.LGT_MTX_CTL_PENDING = true → s.swapGranted = true → 
    ∃ t, exec (.lsyncFrameStart) s = .next t ∧ Only [.regs, .lgt, .pci, .pwr, .out] s t ∧
      t.fld R.LGT_MTX_CTL F.LGT_MTX_CTL_ACTIVE = 1 - s.fld R.LGT_MTX_CTL F.LGT_MTX_CTL_ACTIVE ∧
      t.flag R.LGT_MTX_CTL F.LGT_MTX_CTL_PENDING = false ∧
      t.lgt.frame = true ∧
      t.lgt.line = 0) ∧
  (∀ (s : State), s.hasLight = true → 
    ∃ t, exec (.swap) s = .next t ∧ Only [.regs, .lgt, .pci, .pwr, .out] s t ∧
      t.flag R.LGT_MTX_CTL F.LGT_MTX_CTL_PENDING = true ∧
      t.fld R.LGT_MTX_CTL F.LGT_MTX_CTL_ACTIVE = s.fld R.LGT_MTX_CTL F.LGT_MTX_CTL_ACTIVE) ∧
  (∀ (s : State), (!s.pins.lsync) ≠ s.flag R.LGT_CTL F.LGT_CTL_SYNCPOL → s.matrixOn = true → s.flag R.LGT_CTL F.LGT_CTL_SYNC = true → 
    ∃ t, exec (.lsyncEdge) s = .next t ∧ Only [.regs, .lgt, .pins] s t ∧
      t.lgt.startAt = some (s.time.mt + ticksU (s.fld R.LGT_LSYNC_DLY F.LGT_LSYNC_DLY_DLY)) ∧
      t.lgt.line = 0 ∧
      t.pins = { s.pins with lsync := !s.pins.lsync } ∧
      RegsBut [R.LGT_STAT] s t) ∧
  (∀ (s : State), (!s.pins.lsync) = s.flag R.LGT_CTL F.LGT_CTL_SYNCPOL → 
    ∃ t, exec (.lsyncEdge) s = .next t ∧ Only [.regs, .lgt, .pins] s t ∧
      t = { s with pins := { s.pins with lsync := !s.pins.lsync } }) ∧
  (∀ (s : State) (t0 : Nat), s.lgt.startAt = some t0 → t0 ≤ s.time.mt → s.matrixOn = true → s.flag R.LGT_CTL F.LGT_CTL_SYNC = true → s.flag R.LGT_MTX_CTL F.LGT_MTX_CTL_PENDING = false → 
    ∃ t, exec (.lsyncFrameStart) s = .next t ∧ Only [.regs, .lgt, .pci, .pwr, .out] s t ∧
      t.lgt = { s.lgt with startAt := none, frame := true, line := 0, endEarly := false } ∧
      RegsBut [] s t) ∧
  (∀ (s : State) (k : Nat) (v : Word), k < 4 → s.hasLight = true → s.flag (R.LGT_STB_CFG k) F.LGT_STB_CFG_EN = false → field F.LGT_STB_CFG_EN v = 1 → field F.LGT_STB_CFG_ISET v = 0 → s.waits 3 (strobeReq k) = false → 
    ∃ t, exec (.strobeEnable k v) s = .next t ∧ Only [.regs, .strobe, .pci, .pwr, .out] s t ∧
      t.reg (R.LGT_STB_CFG k) = v ∧
      t.flag (R.LGT_STB_STAT k) F.LGT_STB_STAT_READY = true ∧
      RegsBut [R.LGT_STB_CFG k, R.LGT_STB_STAT k] s t) ∧
  (∀ (s : State) (k : Nat) (v : Word), k < 4 → s.hasLight = true → field F.LGT_STB_CMD_PULSE v = 1 → s.flag (R.LGT_STB_STAT k) F.LGT_STB_STAT_READY = true → s.up dLGT = true → (s.sb k).until_ ≤ s.time.mt → 
    ∃ t, exec (.strobePulse k v) s = .next t ∧ Only [.regs, .strobe] s t ∧
      t.sb k = ⟨s.time.mt + ticksU (80 * max 1 (field F.LGT_STB_CMD_HWIDTH v)), s.time.mt, true, false, (s.sb k).conflicts⟩ ∧
      RegsBut [R.LGT_STB_CMD k] s t ∧
      UnitsBut State.sb k s t) ∧
  (∀ (s : State) (k : Nat) (v : Word), k < 4 → s.hasLight = true → field F.LGT_STB_CMD_PULSE v = 1 → s.flag (R.LGT_STB_STAT k) F.LGT_STB_STAT_READY = true → s.up dLGT = true → s.time.mt < (s.sb k).until_ → 
    ∃ t, exec (.strobePulse k v) s = .next t ∧ Only [.regs, .strobe] s t ∧
      t.sb k = { s.sb k with until_ := max (s.sb k).until_ (s.time.mt + ticksU (80 * max 1 (field F.LGT_STB_CMD_HWIDTH v))), conflicts := (s.sb k).conflicts + 1 } ∧
      RegsBut [R.LGT_STB_CMD k] s t ∧
      UnitsBut State.sb k s t) ∧
  (∀ (s : State) (k : Nat) (v : Word), k < 4 → s.hasLight = true → field F.LGT_STB_CMD_PULSE v = 1 → s.flag (R.LGT_STB_STAT k) F.LGT_STB_STAT_READY = false → 
    ∃ t, exec (.strobePulse k v) s = .next t ∧ Only [.regs] s t ∧
      t.sb k = s.sb k ∧
      t.fld (R.LGT_STB_STAT k) F.LGT_STB_STAT_MISS = min (s.fld (R.LGT_STB_STAT k) F.LGT_STB_STAT_MISS + 1) (2 ^ F.LGT_STB_STAT_MISS.width - 1)) ∧
  (∀ (s : State) (k : Nat), k < 4 → s.hasLight = true → s.strobeOn k = true → (s.sb k).since + ticksU (1250 * s.fld (R.LGT_STB_CFG k) F.LGT_STB_CFG_MAXON) ≤ s.time.mt → 
    ∃ t, exec (.strobeCut k) s = .next t ∧ Only [.regs, .strobe] s t ∧
      t.sb k = ⟨0, 0, false, false, (s.sb k).conflicts⟩ ∧
      t.fld (R.LGT_STB_STAT k) F.LGT_STB_STAT_CUT = min (s.fld (R.LGT_STB_STAT k) F.LGT_STB_STAT_CUT + 1) (2 ^ F.LGT_STB_STAT_CUT.width - 1) ∧
      UnitsBut State.sb k s t ∧
      RegsBut [R.LGT_STB_STAT k] s t) ∧
  (∀ (s : State) (k v : Nat), k < 4 → s.hasLight = true → s.flag (R.LGT_STB_CFG k) F.LGT_STB_CFG_EN = true → s.shuntLevel k 150 < v → 
    ∃ t, exec (.strobeOvercurrent ⟨k, v⟩) s = .next t ∧ Only [.regs, .dram, .grp, .strobe, .pci, .ddr, .pwr, .out] s t ∧
      t.flag (R.LGT_STB_CFG k) F.LGT_STB_CFG_EN = false ∧
      t.sb k = ⟨0, 0, false, false, (s.sb k).conflicts⟩ ∧
      t.fld (R.LGT_STB_STAT k) F.LGT_STB_STAT_CAUSE = 1 ∧
      t.flag (R.LGT_STB_STAT k) F.LGT_STB_STAT_READY = false ∧
      t.flag R.LGT_ISR F.LGT_ISR_STROBE = true ∧
      UnitsBut State.sb k s t) ∧
  (∀ (s : State) (k v : Nat), k < 4 → s.hasLight = true → v ≤ s.shuntLevel k 150 → 
    ∃ t, exec (.strobeOvercurrent ⟨k, v⟩) s = .next t ∧ Only [.regs, .dram, .grp, .strobe, .pci, .ddr, .pwr, .out] s t ∧
      t = s) ∧
  (∀ (s : State) (k v : Nat), k < 4 → s.hasLight = true → v < s.shuntLevel k 50 → (s.sb k).judged = false → s.flag (R.LGT_STB_CFG k) F.LGT_STB_CFG_EN = true → s.strobeOn k = true → (s.sb k).since + ticksU 2500 ≤ s.time.mt → 
    ∃ t, exec (.strobeNorise ⟨k, v⟩) s = .next t ∧ Only [.regs, .dram, .grp, .strobe, .pci, .ddr, .pwr, .out] s t ∧
      t.flag (R.LGT_STB_CFG k) F.LGT_STB_CFG_EN = false ∧
      t.sb k = ⟨0, 0, false, false, (s.sb k).conflicts⟩ ∧
      t.fld (R.LGT_STB_STAT k) F.LGT_STB_STAT_CAUSE = 2 ∧
      t.flag R.LGT_ISR F.LGT_ISR_STROBE = true ∧
      UnitsBut State.sb k s t) ∧
  (∀ (s : State) (k v : Nat), k < 4 → s.hasLight = true → s.shuntLevel k 50 ≤ v → (s.sb k).judged = false → s.strobeOn k = true → (s.sb k).since + ticksU 2500 ≤ s.time.mt → 
    ∃ t, exec (.strobeNorise ⟨k, v⟩) s = .next t ∧ Only [.strobe] s t ∧
      t.sb k = { s.sb k with judged := true } ∧
      RegsBut [] s t ∧
      UnitsBut State.sb k s t) ∧
  (∀ (s : State) (k v : Nat), k < 4 → s.hasLight = true → s.strobeOn k = true → v < s.shuntLevel k (100 - s.hysteresis k) → 
    ∃ t, exec (.stbIsnCrossing k v) s = .next t ∧ Only [.strobe] s t ∧
      t.sb k = { s.sb k with gate := true } ∧
      RegsBut [] s t ∧
      UnitsBut State.sb k s t) ∧
  (∀ (s : State) (k v : Nat), k < 4 → s.hasLight = true → s.strobeOn k = true → s.shuntLevel k (100 + s.hysteresis k) < v → s.shuntLevel k (100 - s.hysteresis k) ≤ v → 
    ∃ t, exec (.stbIsnCrossing k v) s = .next t ∧ Only [.strobe] s t ∧
      t.sb k = { s.sb k with gate := false } ∧
      RegsBut [] s t ∧
      UnitsBut State.sb k s t) ∧
  (∀ (s : State) (k v : Nat), k < 4 → s.hasLight = true → s.shuntLevel k (100 - s.hysteresis k) ≤ v → v ≤ s.shuntLevel k (100 + s.hysteresis k) → 
    ∃ t, exec (.stbIsnCrossing k v) s = .next t ∧ Only [.strobe] s t ∧
      t = s)

/-- (R199, R329, R330, R331, R332, R335, R349, R350) HEAD_LANE_ENABLE of a lane that is DOWN leads to DETECT, a termination found
to TRAIN, TRAIN_TIMER after TT with block lock to CAPEX, TRAINFAIL at 10 TT without lock back to DETECT with a count; the
third identical CAP that passes the checks starts ACK, one that fails them sets CAPERR in CAPEX, a CAP with ACK while ACK is
sent leads to ACTIVE; CAPEX_TIMEOUT leads back to DETECT. BLOCK_LOCK and LOCK_LOSS take the sync headers in order: an invalid
one is counted, 64 valid ones in a row set LOCK, 16 invalid ones among the last 64 clear and count it; that and a TRAIN block
take an enabled ACTIVE lane to TRAIN. A control block of an unknown type is counted. An ALIGN block of the expected index
aligns a lane of its port. HEAD_LANE_DISABLE leads to DOWN, but is refused for a channel in PRIMING to FAULT. -/
def Obligations.LaneBringUp : Prop :=
  (∀ (s : State) (n : Nat) (v : Word), n < s.channels → s.up dHEAD = true → s.laneState n = 0 → 
    ∃ t, exec (.headLaneEnable n v) s = .next t ∧ Only [.regs, .lane] s t ∧
      t.reg (R.HL_CH_CFG n) = (v &&& 3) ||| 1 ∧
      t.laneState n = 1 ∧
      t.flag (R.LANE_STAT n) F.LANE_STAT_CAPERR = false ∧
      (t.ln n).since = s.time.mt ∧
      RegsBut [R.HL_CH_CFG n, R.LANE_STAT n] s t ∧
      UnitsBut State.ln n s t) ∧
  (∀ (s : State) (n : Nat) (v : Word), n < s.channels → s.chState n ≤ 1 → s.laneState n ≠ 8 → 
    ∃ t, exec (.headLaneDisable n v) s = .next t ∧ Only [.regs, .lane, .head, .pci, .out] s t ∧
      t.reg (R.HL_CH_CFG n) = v &&& 2 ∧
      t.laneState n = 0 ∧
      t.flag (R.LANE_STAT n) F.LANE_STAT_LOCK = false ∧
      (s.laneState n = 5 → t.flag R.HL_ISR F.HL_ISR_LINK = true ∧ t.flag (R.HL_CH_STAT n) F.HL_CH_STAT_DRV = false) ∧
      UnitsBut State.ln n s t ∧
      UnitsBut State.hd n s t) ∧
  (∀ (s : State) (n : Nat) (v : Word), n < s.channels → 2 ≤ s.chState n → s.chState n ≤ 7 → s.flag (R.HL_CH_CFG n) F.HL_CH_CFG_EN = true → 
    ∃ t, exec (.headLaneDisable n v) s = .next t ∧ Only irqParts s t ∧
      t.flag (R.HL_CH_CFG n) F.HL_CH_CFG_EN = true ∧
      t.laneState n = s.laneState n ∧
      t.flag R.HL_ISR F.HL_ISR_REJ = true ∧
      RegsBut [R.HL_CH_CFG n, R.HL_ISR] s t) ∧
  (∀ (s : State) (l : Nat) (found : Bool), l < 40 → s.lanePresent l = true → s.up (laneDomain l) = true → s.laneState l = 1 → s.probeDue l = true → 
    ∃ t, exec (.terminationProbe l found) s = .next t ∧ Only [.regs, .lane] s t ∧
      (t.laneState l = (if found then 2 else 1)) ∧
      (found = true → (t.ln l).since = s.time.mt) ∧
      (found = false → (t.ln l).probed = some s.time.mt) ∧
      RegsBut [R.LANE_STAT l] s t ∧
      UnitsBut State.ln l s t) ∧
  (∀ (s : State) (l : Nat) (headers : List (BitVec 2)), l < 40 → s.lanePresent l = true → s.up (laneDomain l) = true → 
    ∃ t, exec (.blockLock ⟨l, headers⟩) s = .next t ∧ Only [.regs, .port, .lane, .head, .pci, .out] s t ∧
      t = s.takeSyncs l headers) ∧
  (∀ (s : State) (l : Nat) (h : BitVec 2), l < 40 → s.lanePresent l = true → s.up (laneDomain l) = true → s.hears l = true → s.flag (R.LANE_STAT l) F.LANE_STAT_LOCK = false → leadTrue ((validHeader h :: (s.ln l).headers).take 64) = 64 → 
    ∃ t, exec (.blockLock ⟨l, [h]⟩) s = .next t ∧ Only [.regs, .port, .lane, .head, .pci, .out] s t ∧
      t.flag (R.LANE_STAT l) F.LANE_STAT_LOCK = true ∧
      t.laneState l = s.laneState l ∧
      (t.ln l).headers = ((validHeader h :: (s.ln l).headers).take 64) ∧
      RegsBut [R.LANE_STAT l] s t ∧
      UnitsBut State.ln l s t) ∧
  (∀ (s : State) (l : Nat) (h : BitVec 2), l < 40 → s.lanePresent l = true → s.up (laneDomain l) = true → s.hears l = true → validHeader h = false → s.flag (R.LANE_STAT l) F.LANE_STAT_LOCK = false → 
    ∃ t, exec (.blockLock ⟨l, [h]⟩) s = .next t ∧ Only [.regs, .port, .lane, .head, .pci, .out] s t ∧
      t.fld (R.LANE_ERR l) F.LANE_ERR_SYNC = min (s.fld (R.LANE_ERR l) F.LANE_ERR_SYNC + 1) (2 ^ F.LANE_ERR_SYNC.width - 1) ∧
      (t.ln l).headers = ((validHeader h :: (s.ln l).headers).take 64) ∧
      RegsBut [R.LANE_ERR l] s t ∧
      UnitsBut State.ln l s t) ∧
  (∀ (s : State) (l : Nat) (headers : List (BitVec 2)), l < 40 → s.lanePresent l = true → s.up (laneDomain l) = true → 
    ∃ t, exec (.lockLoss ⟨l, headers⟩) s = .next t ∧ Only [.regs, .port, .lane, .head, .pci, .out] s t ∧
      t = s.takeSyncs l headers) ∧
  (∀ (s : State) (l : Nat) (h : BitVec 2), l < 40 → s.lanePresent l = true → s.up (laneDomain l) = true → s.laneState l = 2 → validHeader h = true → s.flag (R.LANE_STAT l) F.LANE_STAT_LOCK = true → (16 ≤ (((validHeader h :: (s.ln l).headers).take 64).filter fun b => !b).length) → 
    ∃ t, exec (.lockLoss ⟨l, [h]⟩) s = .next t ∧ Only (.lane :: irqParts) s t ∧
      t.flag (R.LANE_STAT l) F.LANE_STAT_LOCK = false ∧
      t.laneState l = 2 ∧
      (t.ln l).headers = [] ∧
      t.fld (R.LANE_ERR l) F.LANE_ERR_LOCKLOSS = min (s.fld (R.LANE_ERR l) F.LANE_ERR_LOCKLOSS + 1) (2 ^ F.LANE_ERR_LOCKLOSS.width - 1) ∧
      t.flag R.LANE_ISR F.LANE_ISR_LOCKLOSS = true ∧
      RegsBut [R.LANE_STAT l, R.LANE_ERR l, R.LANE_ISR] s t) ∧
  (∀ (s : State) (l : Nat) (h : BitVec 2), l < 40 → s.lanePresent l = true → s.up (laneDomain l) = true → s.laneState l = 5 → s.flag (R.LANE_STAT l) F.LANE_STAT_LOCK = true → (16 ≤ (((validHeader h :: (s.ln l).headers).take 64).filter fun b => !b).length) → s.laneEnabled l = true → (((s.laneUser l).all fun p => decide (s.fld (R.HOOP_PT_STAT p) F.HOOP_PT_STAT_STATE ≠ 3)) = true) → 
    ∃ t, exec (.lockLoss ⟨l, [h]⟩) s = .next t ∧ Only [.regs, .port, .lane, .head, .pci, .out] s t ∧
      t.flag (R.LANE_STAT l) F.LANE_STAT_LOCK = false ∧
      t.laneState l = 2 ∧
      (t.ln l).since = s.time.mt) ∧
  (∀ (s : State) (l : Nat), l < 40 → s.lanePresent l = true → s.up (laneDomain l) = true → s.laneState l = 2 → s.flag (R.LANE_STAT l) F.LANE_STAT_LOCK = true → nsU (1000 * s.laneTT l) ≤ s.laneFor l → 
    ∃ t, exec (.trainTimer l) s = .next t ∧ Only [.regs, .lane, .free] s t ∧
      t.laneState l = 4 ∧
      (t.ln l).caps = 0 ∧
      (t.ln l).ack = false ∧
      RegsBut [R.LANE_STAT l, R.LANE_RXEQ l] s t ∧
      UnitsBut State.ln l s t) ∧
  (∀ (s : State) (l : Nat), l < 40 → s.lanePresent l = true → s.up (laneDomain l) = true → s.laneState l = 2 → s.flag (R.LANE_STAT l) F.LANE_STAT_LOCK = false → nsU (10000 * s.laneTT l) ≤ s.laneFor l → 
    ∃ t, exec (.trainfail l) s = .next t ∧ Only [.regs, .lane, .pci, .out] s t ∧
      t.laneState l = 1 ∧
      t.fld (R.LANE_ERR l) F.LANE_ERR_TRAINFAIL = min (s.fld (R.LANE_ERR l) F.LANE_ERR_TRAINFAIL + 1) (2 ^ F.LANE_ERR_TRAINFAIL.width - 1) ∧
      t.flag R.LANE_ISR F.LANE_ISR_TRAINFAIL = true ∧
      RegsBut [R.LANE_STAT l, R.LANE_ERR l, R.LANE_ISR] s t ∧
      UnitsBut State.ln l s t) ∧
  (∀ (s : State) (l : Nat) (b : Block), l < 40 → s.lanePresent l = true → s.up (laneDomain l) = true → l < 32 → s.laneState l = 4 → s.flag (R.LANE_STAT l) F.LANE_STAT_CAPERR = false → (s.ln l).ack = false → (s.ln l).caps = 2 → (s.ln l).cap = b.payload.toNat → isCtl b 0x3C = true → bits b.payload.toNat 8 8 = 2 → bits b.payload.toNat 16 8 = 1 → 
    ∃ t, exec (.capReceived l b) s = .next t ∧ Only [.regs, .lane] s t ∧
      (t.ln l).ack = true ∧
      t.laneState l = 4 ∧
      t.fld (R.HL_CH_CAP l) F.HL_CH_CAP_VER = 1 ∧
      t.fld (R.HL_CH_CAP l) F.HL_CH_CAP_HID = bits b.payload.toNat 32 16 ∧
      t.fld (R.HL_CH_CAP l) F.HL_CH_CAP_AXES = bits b.payload.toNat 48 3 ∧
      RegsBut [R.HL_CH_CAP l] s t ∧
      UnitsBut State.ln l s t) ∧
  (∀ (s : State) (l : Nat) (b : Block), l < 40 → s.lanePresent l = true → s.up (laneDomain l) = true → l < 32 → s.laneState l = 4 → s.flag (R.LANE_STAT l) F.LANE_STAT_CAPERR = false → (s.ln l).ack = false → (s.ln l).caps = 2 → (s.ln l).cap = b.payload.toNat → isCtl b 0x3C = true → (bits b.payload.toNat 8 8 ≠ 2 ∨ bits b.payload.toNat 16 8 ≠ 1) → s.laneUser l = none → 
    ∃ t, exec (.capReceived l b) s = .next t ∧ Only (.lane :: irqParts) s t ∧
      t.flag (R.LANE_STAT l) F.LANE_STAT_CAPERR = true ∧
      t.flag R.LANE_ISR F.LANE_ISR_CAPERR = true ∧
      t.laneState l = 4 ∧
      RegsBut [R.LANE_STAT l, R.LANE_ISR] s t) ∧
  (∀ (s : State) (l : Nat) (b : Block), l < 40 → s.lanePresent l = true → s.up (laneDomain l) = true → s.laneState l = 4 → s.flag (R.LANE_STAT l) F.LANE_STAT_CAPERR = false → (s.ln l).ack = false → (s.ln l).caps = 0 → isCtl b 0x3C = true → 
    ∃ t, exec (.capReceived l b) s = .next t ∧ Only [.lane] s t ∧
      (t.ln l).cap = b.payload.toNat ∧
      (t.ln l).caps = 1 ∧
      t.laneState l = 4 ∧
      RegsBut [] s t ∧
      UnitsBut State.ln l s t) ∧
  (∀ (s : State) (l : Nat) (b : Block), l < 40 → s.lanePresent l = true → s.up (laneDomain l) = true → s.laneState l = 4 → s.flag (R.LANE_STAT l) F.LANE_STAT_CAPERR = false → (s.ln l).ack = true → isCtl b 0x3C = true → bitAt b.payload.toNat 24 = true → 
    ∃ t, exec (.capReceived l b) s = .next t ∧ Only [.regs, .port, .lane, .head, .pci, .out] s t ∧
      t.laneState l = 5 ∧
      (t.ln l).since = s.time.mt ∧
      (t.ln l).ack = false) ∧
  (∀ (s : State) (l : Nat), l < 40 → s.lanePresent l = true → s.up (laneDomain l) = true → s.laneState l = 4 → s.flag (R.LANE_STAT l) F.LANE_STAT_CAPERR = false → ticksU 1250000 ≤ s.laneFor l → 
    ∃ t, exec (.capexTimeout l) s = .next t ∧ Only [.regs, .lane] s t ∧
      t.laneState l = 1 ∧
      RegsBut [R.LANE_STAT l] s t ∧
      UnitsBut State.ln l s t) ∧
  (∀ (s : State) (l : Nat) (b : Block), l < 40 → s.lanePresent l = true → s.up (laneDomain l) = true → s.laneState l = 5 → isCtl b 0x2D = true → s.laneEnabled l = true → (((s.laneUser l).all fun p => decide (s.fld (R.HOOP_PT_STAT p) F.HOOP_PT_STAT_STATE ≠ 3)) = true) → 
    ∃ t, exec (.trainBlockReceived ⟨l, b⟩) s = .next t ∧ Only [.regs, .port, .lane, .head, .pci, .out] s t ∧
      t.laneState l = 2 ∧
      (t.ln l).since = s.time.mt ∧
      (l < 32 → t.flag R.HL_ISR F.HL_ISR_LINK = true ∧ (t.hd l).cfgDone = false ∧ (t.hd l).aux = none)) ∧
  (∀ (s : State) (l : Nat) (b : Block), l < 40 → s.lanePresent l = true → s.up (laneDomain l) = true → strayBlock b = true → 
    ∃ t, exec (.trainBlockReceived ⟨l, b⟩) s = .next t ∧ Only [.regs, .port, .lane, .head, .pci, .out] s t ∧
      t = s.countStray l [b]) ∧
  (∀ (s : State) (l p : Nat) (b : Block), l < 40 → s.lanePresent l = true → s.up (laneDomain l) = true → 32 ≤ l → s.laneUser l = some p → s.laneState l = 5 → isCtl b 0xA5 = true → bits b.payload.toNat 8 2 = l - 32 - p → 
    ∃ t, exec (.alignReceived l b) s = .next t ∧ Only [.regs, .port] s t ∧
      ((t.pt p).aligned = (l, s.time.mt) :: (s.pt p).aligned.filter fun e => decide (e.1 ≠ l)) ∧
      t.laneState l = 5 ∧
      UnitsBut State.pt p s t ∧
      RegsBut [R.HOOP_PT_STAT p] s t)

/-- (R333, R334, R336, R337, R338, R339) LANE_TXEQ_WRITE within the limits of R333 is stored and one beyond them rejected.
EYE_MEASURE in ACTIVE sets EYEW. LANE_PM_REQUEST for L1 or L2 on an ACTIVE lane that may take it sends four PM blocks; the
fourth PM block of a request is answered with four and the lane enters L1 or L2, or is rejected, as it enters it on the fourth
answer to its own; PM_TIMEOUT after 1,250 ticks ends the request with REJ. A request of L0, or LANE_WAKE, starts the exit, and
LANE_WAKE_DONE leads to ACTIVE. A mode of the pattern test is entered on a disabled lane; the checker starts with its counters
clear, takes the bits received, or those it sends with LOOP, sets SYNC after 64 error-free bits, then counts bits and errors;
INJ1 inverts the next bit. -/
def Obligations.LanePowerAndTest : Prop :=
  (∀ (s : State) (l : Nat) (v : Word), l < 40 → s.lanePresent l = true → field F.LANE_TXEQ_PRE v + field F.LANE_TXEQ_MAIN v + field F.LANE_TXEQ_POST v ≤ 63 → field F.LANE_TXEQ_PRE v + field F.LANE_TXEQ_POST v + 8 ≤ field F.LANE_TXEQ_MAIN v → 
    ∃ t, exec (.laneTxeqWrite l v) s = .next t ∧ Only [.regs] s t ∧
      t.reg (R.LANE_TXEQ l) = v &&& 0x3F3F3F ∧
      RegsBut [R.LANE_TXEQ l] s t) ∧
  (∀ (s : State) (l : Nat) (v : Word), l < 40 → s.lanePresent l = true → (63 < field F.LANE_TXEQ_PRE v + field F.LANE_TXEQ_MAIN v + field F.LANE_TXEQ_POST v ∨ field F.LANE_TXEQ_MAIN v < field F.LANE_TXEQ_PRE v + field F.LANE_TXEQ_POST v + 8) → 
    ∃ t, exec (.laneTxeqWrite l v) s = .next t ∧ Only irqParts s t ∧
      t.flag R.LANE_ISR F.LANE_ISR_REJ = true ∧
      RegsBut [R.LANE_ISR] s t) ∧
  (∀ (s : State) (l w : Nat), l < 40 → s.lanePresent l = true → s.up (laneDomain l) = true → s.laneState l = 5 → s.probeDue l = true → 
    ∃ t, exec (.eyeMeasure l w) s = .next t ∧ Only [.regs, .lane] s t ∧
      (t.ln l).probed = some s.time.mt ∧
      t.fld (R.LANE_STAT l) F.LANE_STAT_EYEW = w % 2 ^ F.LANE_STAT_EYEW.width ∧
      t.laneState l = 5 ∧
      RegsBut [R.LANE_STAT l] s t) ∧
  (∀ (s : State) (l : Nat) (v : Word), l < 40 → s.lanePresent l = true → (field F.LANE_PM_REQ v = 1 ∨ field F.LANE_PM_REQ v = 2) → s.laneState l = 5 → s.pmAllowed l = true → 
    ∃ t, exec (.lanePmRequest l v) s = .next t ∧ Only [.regs, .lane, .out] s t ∧
      t.fld (R.LANE_PM l) F.LANE_PM_REQ = field F.LANE_PM_REQ v ∧
      t.ln l = { s.ln l with pm := some (field F.LANE_PM_REQ v, s.time.mt), pmGot := (0, 0) } ∧
      t.out = .blocks l (s.blockTime l) (List.replicate 4 (pmBlock (field F.LANE_PM_REQ v) false)) :: s.out ∧
      RegsBut [R.LANE_PM l] s t ∧
      UnitsBut State.ln l s t) ∧
  (∀ (s : State) (l : Nat) (v : Word), l < 40 → s.lanePresent l = true → field F.LANE_PM_REQ v = 0 → (s.laneState l = 6 ∨ s.laneState l = 7) → (s.ln l).waking = false → 
    ∃ t, exec (.lanePmRequest l v) s = .next t ∧ Only [.regs, .lane, .out] s t ∧
      t.reg (R.LANE_PM l) = 0 ∧
      t.ln l = { s.ln l with waking := true, since := s.time.mt } ∧
      (s.laneState l = 6 → t.out = .blocks l s.time.mt (List.replicate 8 idleBlock) :: s.out) ∧
      RegsBut [R.LANE_PM l] s t ∧
      UnitsBut State.ln l s t) ∧
  (∀ (s : State) (l : Nat) (v : Word), l < 40 → s.lanePresent l = true → (field F.LANE_PM_REQ v = 1 ∨ field F.LANE_PM_REQ v = 2) → (s.laneState l ≠ 5 ∨ s.pmAllowed l = false) → 
    ∃ t, exec (.lanePmRequest l v) s = .next t ∧ Only irqParts s t ∧
      t.flag R.LANE_ISR F.LANE_ISR_REJ = true ∧
      RegsBut [R.LANE_ISR] s t) ∧
  (∀ (s : State) (l level : Nat) (b : Block), l < 40 → s.lanePresent l = true → s.up (laneDomain l) = true → s.laneState l = 5 → (level = 1 ∨ level = 2) → b = pmBlock level false → (s.ln l).pmGot = (b.payload.toNat, 3) → s.pmAllowed l = true → 
    ∃ t, exec (.pmRequestReceived l b) s = .next t ∧ Only [.regs, .port, .lane, .head, .pci, .out] s t ∧
      t.laneState l = 5 + level ∧
      Out.blocks l (s.blockTime l) (List.replicate 4 (pmBlock level true)) ∈ t.out ∧
      (t.ln l).since = s.time.mt) ∧
  (∀ (s : State) (l level : Nat) (b : Block), l < 40 → s.lanePresent l = true → s.up (laneDomain l) = true → s.laneState l = 5 → (level = 1 ∨ level = 2) → b = pmBlock level false → (s.ln l).pmGot = (b.payload.toNat, 3) → s.pmAllowed l = false → 
    ∃ t, exec (.pmRequestReceived l b) s = .next t ∧ Only (.lane :: irqParts) s t ∧
      t.laneState l = 5 ∧
      t.flag R.LANE_ISR F.LANE_ISR_REJ = true ∧
      RegsBut [R.LANE_ISR] s t) ∧
  (∀ (s : State) (l level : Nat) (b : Block), l < 40 → s.lanePresent l = true → s.up (laneDomain l) = true → s.laneState l = 5 → (level = 1 ∨ level = 2) → b = pmBlock level false → (s.ln l).pmGot.1 ≠ b.payload.toNat → 
    ∃ t, exec (.pmRequestReceived l b) s = .next t ∧ Only [.lane] s t ∧
      t.ln l = { s.ln l with pmGot := (b.payload.toNat, 1) } ∧
      RegsBut [] s t ∧
      UnitsBut State.ln l s t) ∧
  (∀ (s : State) (l level since : Nat) (b : Block), l < 40 → s.lanePresent l = true → s.up (laneDomain l) = true → s.laneState l = 5 → (level = 1 ∨ level = 2) → (s.ln l).pm = some (level, since) → s.time.mt ≤ since + ticksU 1250 → b = pmBlock level true → (s.ln l).pmGot = (b.payload.toNat, 3) → 
    ∃ t, exec (.pmAnswerReceived l b) s = .next t ∧ Only [.regs, .port, .lane, .head, .pci, .out] s t ∧
      t.laneState l = 5 + level ∧
      (t.ln l).pm = none ∧
      (t.ln l).since = s.time.mt ∧
      (level = 2 → t.flag (R.LANE_STAT l) F.LANE_STAT_LOCK = false)) ∧
  (∀ (s : State) (l level since : Nat), l < 40 → s.lanePresent l = true → s.up (laneDomain l) = true → (s.ln l).pm = some (level, since) → since + ticksU 1250 < s.time.mt → 
    ∃ t, exec (.pmTimeout l) s = .next t ∧ Only [.regs, .lane, .pci, .out] s t ∧
      t.ln l = { s.ln l with pm := none, pmGot := (0, 0) } ∧
      t.flag R.LANE_ISR F.LANE_ISR_REJ = true ∧
      RegsBut [R.LANE_ISR] s t ∧
      UnitsBut State.ln l s t) ∧
  (∀ (s : State) (l : Nat), l < 40 → s.lanePresent l = true → s.up (laneDomain l) = true → (s.laneState l = 6 ∨ s.laneState l = 7) → 
    ∃ t, exec (.laneWake l) s = .next t ∧ Only [.lane] s t ∧
      t.ln l = { s.ln l with waking := true, since := s.time.mt } ∧
      UnitsBut State.ln l s t ∧
      RegsBut [] s t) ∧
  (∀ (s : State) (l : Nat), l < 40 → s.lanePresent l = true → s.up (laneDomain l) = true → (s.ln l).waking = true → (s.laneState l = 6 ∨ (s.laneState l = 7 ∧ nsU (1000 * s.laneTTS l) ≤ s.laneFor l)) → 
    ∃ t, exec (.laneWakeDone l) s = .next t ∧ Only [.regs, .port, .lane, .head] s t ∧
      t.laneState l = 5 ∧
      (t.ln l).waking = false ∧
      UnitsBut State.ln l s t) ∧
  (∀ (s : State) (l : Nat) (v : Word), l < 40 → s.lanePresent l = true → 0 < field F.LANE_TEST_MODE v → field F.LANE_TEST_MODE v ≤ 4 → s.laneEnabled l = false → s.laneState l = 0 → 
    ∃ t, exec (.laneTestModeWrite l v) s = .next t ∧ Only [.regs, .lane, .pci, .free, .out] s t ∧
      t.laneState l = 8 ∧
      t.fld (R.LANE_TEST l) F.LANE_TEST_MODE = field F.LANE_TEST_MODE v ∧
      RegsBut [R.LANE_TEST l, R.LANE_STAT l, R.LANE_TEST_ERRS l, R.LANE_TEST_BITS_LO l, R.LANE_TEST_BITS_HI l] s t ∧
      UnitsBut State.ln l s t) ∧
  (∀ (s : State) (l : Nat) (v : Word), l < 40 → s.lanePresent l = true → 0 < field F.LANE_TEST_MODE v → field F.LANE_TEST_MODE v ≤ 4 → s.laneEnabled l = true → 
    ∃ t, exec (.laneTestModeWrite l v) s = .next t ∧ Only irqParts s t ∧
      t.flag R.LANE_ISR F.LANE_ISR_REJ = true ∧
      RegsBut [R.LANE_ISR] s t) ∧
  (∀ (s : State) (l : Nat) (v : Word), l < 40 → s.lanePresent l = true → 0 < field F.LANE_TEST_MODE v → field F.LANE_TEST_MODE v ≤ 4 → s.laneEnabled l = false → s.laneState l = 8 → 
    ∃ t, exec (.checkerStart l v) s = .next t ∧ Only [.regs, .lane, .pci, .free, .out] s t ∧
      t.flag (R.LANE_TEST l) F.LANE_TEST_CHK = true ∧
      t.flag (R.LANE_TEST l) F.LANE_TEST_SYNC = false ∧
      t.reg (R.LANE_TEST_ERRS l) = 0 ∧
      t.reg (R.LANE_TEST_BITS_LO l) = 0 ∧
      t.reg (R.LANE_TEST_BITS_HI l) = 0 ∧
      t.laneState l = 8 ∧
      RegsBut [R.LANE_TEST l, R.LANE_TEST_ERRS l, R.LANE_TEST_BITS_LO l, R.LANE_TEST_BITS_HI l] s t) ∧
  (∀ (s : State) (l : Nat) (received : List Bool) (n : Nat), l < 40 → s.lanePresent l = true → s.up (laneDomain l) = true → s.laneState l = 8 → s.flag (R.LANE_TEST l) F.LANE_TEST_CHK = true → s.flag (R.LANE_TEST l) F.LANE_TEST_LOOP = false → 
    ∃ t, exec (.checkerSync l received n) s = .next t ∧ Only [.regs, .lane] s t ∧
      (t = received.foldl (fun u b => u.checkBit l b) (s.modLn l fun q => { q with sent := q.sent + n, inj := q.inj && decide (n = 0) }))) ∧
  (∀ (s : State) (l : Nat) (received : List Bool) (n : Nat), l < 40 → s.lanePresent l = true → s.up (laneDomain l) = true → s.laneState l = 8 → s.flag (R.LANE_TEST l) F.LANE_TEST_CHK = true → s.flag (R.LANE_TEST l) F.LANE_TEST_LOOP = true → 
    ∃ t, exec (.checkerSync l received n) s = .next t ∧ Only [.regs, .lane] s t ∧
      (t = ((List.range n).map fun i => s.testBit l ((s.ln l).sent + i)).foldl (fun u b => u.checkBit l b) (s.modLn l fun q => { q with sent := q.sent + n, inj := q.inj && decide (n = 0) }))) ∧
  (∀ (s : State) (l : Nat) (b : Bool), l < 40 → s.lanePresent l = true → s.up (laneDomain l) = true → s.laneState l = 8 → s.flag (R.LANE_TEST l) F.LANE_TEST_CHK = true → s.flag (R.LANE_TEST l) F.LANE_TEST_LOOP = false → seedBits (s.fld (R.LANE_TEST l) F.LANE_TEST_MODE) ≤ (s.ln l).seen → s.flag (R.LANE_TEST l) F.LANE_TEST_SYNC = false → b = expectedBit (s.fld (R.LANE_TEST l) F.LANE_TEST_MODE) (s.ln l).chk → 63 ≤ (s.ln l).clean → 
    ∃ t, exec (.checkerSync l [b] 1) s = .next t ∧ Only [.regs, .lane] s t ∧
      t.flag (R.LANE_TEST l) F.LANE_TEST_SYNC = true ∧
      (t.ln l).clean = (s.ln l).clean + 1 ∧
      RegsBut [R.LANE_TEST l] s t) ∧
  (∀ (s : State) (l : Nat) (b : Bool), l < 40 → s.lanePresent l = true → s.up (laneDomain l) = true → s.laneState l = 8 → s.flag (R.LANE_TEST l) F.LANE_TEST_CHK = true → s.flag (R.LANE_TEST l) F.LANE_TEST_LOOP = false → seedBits (s.fld (R.LANE_TEST l) F.LANE_TEST_MODE) ≤ (s.ln l).seen → s.flag (R.LANE_TEST l) F.LANE_TEST_SYNC = true → (s.ln l).errors = [] → 
    ∃ t, exec (.checkerSync l [b] 1) s = .next t ∧ Only [.regs, .lane] s t ∧
      (t.fld (R.LANE_TEST_ERRS l) F.LANE_TEST_ERRS_COUNT = (if b = expectedBit (s.fld (R.LANE_TEST l) F.LANE_TEST_MODE) (s.ln l).chk then s.fld (R.LANE_TEST_ERRS l) F.LANE_TEST_ERRS_COUNT else min (s.fld (R.LANE_TEST_ERRS l) F.LANE_TEST_ERRS_COUNT + 1) (2 ^ F.LANE_TEST_ERRS_COUNT.width - 1))) ∧
      t.reg (R.LANE_TEST_BITS_LO l) = s.reg (R.LANE_TEST_BITS_LO l) + 1 ∧
      t.flag (R.LANE_TEST l) F.LANE_TEST_SYNC = true ∧
      RegsBut [R.LANE_TEST_ERRS l, R.LANE_TEST_BITS_LO l, R.LANE_TEST_BITS_HI l] s t) ∧
  (∀ (s : State) (l : Nat), l < 40 → s.lanePresent l = true → 
    ∃ t, exec (.inj1 l) s = .next t ∧ Only [.lane] s t ∧
      t.ln l = { s.ln l with inj := true } ∧
      UnitsBut State.ln l s t)

/-- (R132, R340, R341, R342, R343, R344, R346, R347, R348) DOWNLINK_FRAME at a frame phase on an ACTIVE lane sends the two blocks
with the sequence number, the three drive words (zero while driving is off), DRV, SYNC at phase 600 and an unsent auxiliary
request once. UPLINK_FRAME whose type and CRC are right reports head status, temperature, echo, sequence number and currents;
any other is counted as a CRC error. AUX_GO makes a request, or is rejected while one is outstanding; AUX_TIMEOUT after 5,000
ticks ends a host request with code 2 and the configuration write with CFGERR and a retry 1,250,000 ticks later, which
HEAD_CONFIG_RETRY makes due again. -/
def Obligations.HeadLinkFrames : Prop :=
  (∀ (s : State) (n : Nat), n < s.channels → s.laneState n = 5 → s.up dHEAD = true → s.servoPhase ∈ [600, 1225, 1850, 2475, 3100] → (s.hd n).aux = none → 
    ∃ t, exec (.downlinkFrame n) s = .next t ∧ Only [.regs, .head, .out] s t ∧
      (t.out = .blocks n (s.blockTime n) (downBlocks (s.hd n).seq (if s.driveOn n then s.fld (R.SRV_AX_CMD (3 * n + 0)) F.SRV_AX_CMD_U else 0) (if s.driveOn n then s.fld (R.SRV_AX_CMD (3 * n + 1)) F.SRV_AX_CMD_U else 0) (if s.driveOn n then s.fld (R.SRV_AX_CMD (3 * n + 2)) F.SRV_AX_CMD_U else 0) (s.driveOn n) (decide (s.servoPhase = 600)) 0 0 0) :: s.out) ∧
      t.hd n = { s.hd n with seq := ((s.hd n).seq + 1) % 256 } ∧
      t.flag (R.HL_CH_STAT n) F.HL_CH_STAT_DRV = s.driveOn n ∧
      RegsBut [R.HL_CH_STAT n] s t ∧
      UnitsBut State.hd n s t) ∧
  (∀ (s : State) (n a d since : Nat) (own wr : Bool), n < s.channels → s.laneState n = 5 → s.up dHEAD = true → s.servoPhase ∈ [600, 1225, 1850, 2475, 3100] → (s.hd n).aux = some (own, wr, a, d, false, since) → 
    ∃ t, exec (.downlinkFrame n) s = .next t ∧ Only [.regs, .head, .out] s t ∧
      (t.out = .blocks n (s.blockTime n) (downBlocks (s.hd n).seq (if s.driveOn n then s.fld (R.SRV_AX_CMD (3 * n + 0)) F.SRV_AX_CMD_U else 0) (if s.driveOn n then s.fld (R.SRV_AX_CMD (3 * n + 1)) F.SRV_AX_CMD_U else 0) (if s.driveOn n then s.fld (R.SRV_AX_CMD (3 * n + 2)) F.SRV_AX_CMD_U else 0) (s.driveOn n) (decide (s.servoPhase = 600)) (if wr then 1 else 2) a (if wr then d else 0)) :: s.out) ∧
      t.hd n = { s.hd n with seq := ((s.hd n).seq + 1) % 256, aux := some (own, wr, a, d, true, since) } ∧
      UnitsBut State.hd n s t) ∧
  (∀ (s : State) (n : Nat) (blocks : List Block) (b0 b1 b2 b3 : Nat), n < s.channels → s.laneState n = 5 → s.up dHEAD = true → (blocks.map (fun b => b.payload.toNat) = [b0, b1, b2, b3]) → frameShape blocks = true → uplinkOk b0 b1 b2 b3 = true → (s.hd n).aux = none → 
    ∃ t, exec (.uplinkFrame n blocks) s = .next t ∧ Only [.regs, .dram, .grp, .chan, .srvAx, .srvCh, .lsr, .head, .pci, .ddr, .out] s t ∧
      t.fld (R.HL_CH_STAT n) F.HL_CH_STAT_HSTAT = bits b2 32 16 ∧
      t.fld (R.HL_CH_TEMP n) F.HL_CH_TEMP_TEMP = bits b2 16 16 ∧
      t.fld (R.HL_CH_TEMP n) F.HL_CH_TEMP_ECHO = bits b1 56 8 ∧
      t.fld (R.HL_CH_TEMP n) F.HL_CH_TEMP_SEQ = bits b0 8 8 ∧
      t.fld (R.HL_CH_CUR0 n) F.HL_CH_CUR0_CX = bits b1 24 16 ∧
      t.fld (R.HL_CH_CUR0 n) F.HL_CH_CUR0_CY = bits b1 40 16 ∧
      t.fld (R.HL_CH_CUR1 n) F.HL_CH_CUR1_CZ = bits b2 0 16 ∧
      (t.hd n).rxSeq = some (bits b0 8 8) ∧
      (t.hd n).seq = (s.hd n).seq ∧
      UnitsBut State.hd n s t) ∧
  (∀ (s : State) (n : Nat) (blocks : List Block) (b0 b1 b2 b3 : Nat), n < s.channels → s.laneState n = 5 → s.up dHEAD = true → (blocks.map (fun b => b.payload.toNat) = [b0, b1, b2, b3]) → (blocks.filter strayBlock).length = 0 → (frameShape blocks = false ∨ uplinkOk b0 b1 b2 b3 = false) → 
    ∃ t, exec (.uplinkFrame n blocks) s = .next t ∧ Only [.regs] s t ∧
      t.fld (R.HL_CH_ERR n) F.HL_CH_ERR_CRC = min (s.fld (R.HL_CH_ERR n) F.HL_CH_ERR_CRC + 1) (2 ^ F.HL_CH_ERR_CRC.width - 1) ∧
      RegsBut [R.HL_CH_ERR n] s t) ∧
  (∀ (s : State) (n : Nat) (v : Word), n < s.channels → field F.HL_CH_AUX_GO v = 1 → s.flag (R.HL_CH_AUX n) F.HL_CH_AUX_BUSY = false → 
    ∃ t, exec (.auxGo n v) s = .next t ∧ Only [.regs, .head] s t ∧
      t.hd n = { s.hd n with aux := some (false, decide (field F.HL_CH_AUX_WRITE v = 1), field F.HL_CH_AUX_ADDR v, s.fld (R.HL_CH_AUXDATA n) F.HL_CH_AUXDATA_DATA, false, s.time.mt) } ∧
      t.flag (R.HL_CH_AUX n) F.HL_CH_AUX_BUSY = true ∧
      RegsBut [R.HL_CH_AUX n] s t ∧
      UnitsBut State.hd n s t) ∧
  (∀ (s : State) (n : Nat) (v : Word), n < s.channels → field F.HL_CH_AUX_GO v = 1 → s.flag (R.HL_CH_AUX n) F.HL_CH_AUX_BUSY = true → 
    ∃ t, exec (.auxGo n v) s = .next t ∧ Only irqParts s t ∧
      t.flag R.HL_ISR F.HL_ISR_REJ = true ∧
      RegsBut [R.HL_ISR] s t) ∧
  (∀ (s : State) (n a d since : Nat) (wr sent : Bool), n < s.channels → (s.hd n).aux = some (false, wr, a, d, sent, since) → since + ticksU 5000 ≤ s.time.mt → (s.hd n).cfgDue = false → 
    ∃ t, exec (.auxTimeout n) s = .next t ∧ Only [.regs, .head, .pci, .out] s t ∧
      t.hd n = { s.hd n with aux := none } ∧
      t.flag (R.HL_CH_AUX n) F.HL_CH_AUX_BUSY = false ∧
      t.fld (R.HL_CH_AUX n) F.HL_CH_AUX_CODE = 2 ∧
      t.flag R.HL_ISR F.HL_ISR_AUX = true ∧
      RegsBut [R.HL_CH_AUX n, R.HL_CH_STAT n, R.HL_ISR] s t ∧
      UnitsBut State.hd n s t) ∧
  (∀ (s : State) (n a d since : Nat) (wr sent : Bool), n < s.channels → (s.hd n).aux = some (true, wr, a, d, sent, since) → since + ticksU 5000 ≤ s.time.mt → (s.hd n).cfgDue = false → 
    ∃ t, exec (.auxTimeout n) s = .next t ∧ Only [.regs, .head, .pci, .out] s t ∧
      t.hd n = { s.hd n with aux := none, retryAt := some (s.time.mt + ticksU 1250000) } ∧
      t.flag (R.HL_CH_STAT n) F.HL_CH_STAT_CFGERR = true ∧
      t.flag R.HL_ISR F.HL_ISR_CFGERR = true ∧
      UnitsBut State.hd n s t) ∧
  (∀ (s : State) (n t0 : Nat), n < s.channels → (s.hd n).retryAt = some t0 → t0 ≤ s.time.mt → s.laneState n = 5 → (s.hd n).aux = none → 
    ∃ t, exec (.headConfigRetry n) s = .next t ∧ Only [.regs, .head] s t ∧
      t.hd n = { s.hd n with cfgDue := false, retryAt := none, aux := some (true, true, 2, (s.reg (0x1C00100 + 4 * n)).toNat % 1024, false, s.time.mt) } ∧
      t.flag (R.HL_CH_AUX n) F.HL_CH_AUX_BUSY = true ∧
      t.flag (R.HL_CH_STAT n) F.HL_CH_STAT_AUXDEV = true ∧
      RegsBut [R.HL_CH_AUX n, R.HL_CH_STAT n] s t ∧
      UnitsBut State.hd n s t)

/-- (R353, R354, R357, R358) BAR2_READ inside the populated DRAM answers its bytes, outside it all ones with BAR2ERR and the line
captured. BAR2_WRITE stores its bytes and changes no other byte; a poisoned one writes nothing. MSIX_UNMASK clears the mask
bit of one vector and no other register, and sends the message of that vector when it is pending and its condition holds.
FWIRQ_SET sets and FWIRQ_CLEAR clears the bits written with 1. -/
def Obligations.Bar2AndMsix : Prop :=
  (∀ (s : State) (off len : Nat), off + len ≤ 2 ^ 36 → s.dramOk (s.bar2Dram off) len = true → s.rangePoisoned (s.bar2Dram off) len = false → 
    ∃ t, exec (.bar2Read off len) s = .next t ∧ Only [.out] s t ∧
      t.out = .bar2 (s.readDram (s.bar2Dram off) len) false :: s.out) ∧
  (∀ (s : State) (off len : Nat), off + len ≤ 2 ^ 36 → s.dramOk (s.bar2Dram off) len = false → 
    ∃ t, exec (.bar2Read off len) s = .next t ∧ Only [.regs, .pci, .out] s t ∧
      (t.out.head? = some (.bar2 (List.replicate len 0xFF) false)) ∧
      t.flag R.PCI_ISR F.PCI_ISR_BAR2ERR = true ∧
      t.fld R.PCI_BAR2ERR_ADDR F.PCI_BAR2ERR_ADDR_LINE = (s.bar2Dram off) / 64 % 2 ^ F.PCI_BAR2ERR_ADDR_LINE.width ∧
      RegsBut [R.PCI_ISR, R.PCI_BAR2ERR_ADDR] s t) ∧
  (∀ (s : State) (off len : Nat), off + len ≤ 2 ^ 36 → s.dramOk (s.bar2Dram off) len = true → s.rangePoisoned (s.bar2Dram off) len = true → 
    ∃ t, exec (.bar2Read off len) s = .next t ∧ Only [.regs, .pci, .out] s t ∧
      (t.out.head? = some (.bar2 (s.readDram (s.bar2Dram off) len) true)) ∧
      t.flag R.PCI_ISR F.PCI_ISR_POISON = true ∧
      RegsBut [R.PCI_ISR] s t) ∧
  (∀ (s : State) (off : Nat) (bytes : List Byte) (poisoned : Bool), off + bytes.length ≤ 2 ^ 36 → poisoned = false → s.dramOk (s.bar2Dram off) bytes.length = true → s.rangePoisoned (s.bar2Dram off) bytes.length = false → 
    ∃ t, exec (.bar2Write off bytes poisoned) s = .next t ∧ Only [.dram, .ddr] s t ∧
      t.readDram (s.bar2Dram off) bytes.length = bytes ∧
      SameDramBut (s.bar2Dram off) bytes.length s t) ∧
  (∀ (s : State) (off : Nat) (bytes : List Byte) (poisoned : Bool), off + bytes.length ≤ 2 ^ 36 → poisoned = true → s.dramOk (s.bar2Dram off) bytes.length = true → 
    ∃ t, exec (.bar2Write off bytes poisoned) s = .next t ∧ Only irqParts s t ∧
      t.flag R.PCI_ISR F.PCI_ISR_POISON = true ∧
      SameDram s t ∧
      RegsBut [R.PCI_ISR] s t) ∧
  (∀ (s : State) (off : Nat) (bytes : List Byte) (poisoned : Bool), off + bytes.length ≤ 2 ^ 36 → s.dramOk (s.bar2Dram off) bytes.length = false → 
    ∃ t, exec (.bar2Write off bytes poisoned) s = .next t ∧ Only [.regs, .dram, .pci, .ddr, .out] s t ∧
      t = s.bar2Miss (s.bar2Dram off)) ∧
  (∀ (s : State) (vector : Option Nat), vector = none → 
    ∃ t, exec (.msixUnmask vector) s = .next t ∧ Only [.regs, .pci, .out] s t ∧
      t = irqRows.foldl State.unmaskRow { s with pci := { s.pci with funcMask := false } } ∧
      t.pci.funcMask = false) ∧
  (∀ (s : State) (vector : Option Nat), ((vector.all fun v => decide (v < 64)) = true) → vector.isSome = true → 
    ∃ t, exec (.msixUnmask vector) s = .next t ∧ Only [.regs, .pci, .out] s t ∧
      (t = (irqRows.filter fun r => decide (some r.vec = vector)).foldl State.unmaskRow (s.setBit (msixCtl (vector.getD 0)) 0 false))) ∧
  (∀ (s : State) (v : Nat), v < 64 → 
    ∃ t, exec (.msixUnmask (some v)) s = .next t ∧ Only [.regs, .pci, .out] s t ∧
      (s.pci.funcMask = false → t.vecMasked v = false) ∧
      RegsBut [msixCtl v] s t ∧
      t.reg (msixCtl v) = s.reg (msixCtl v) &&& 0xFFFFFFFE) ∧
  (∀ (s : State) (b : Nat), b < 26 → s.pci.funcMask = false → bitAt s.pci.pba (38 + b) = true → s.bit R.PCI_FWIRQ b = true → 
    ∃ t, exec (.msixUnmask (some (38 + b))) s = .next t ∧ Only [.regs, .pci, .out] s t ∧
      t.out = .msix (38 + b) :: s.out ∧
      bitAt t.pci.pba (38 + b) = false ∧
      RegsBut [msixCtl (38 + b)] s t) ∧
  (∀ (s : State) (v : Word), 
    ∃ t, exec (.fwirqSet v) s = .next t ∧ Only [.regs, .pci, .out] s t ∧
      t.reg R.PCI_FWIRQ = s.reg R.PCI_FWIRQ ||| (v &&& 0x3FFFFFF) ∧
      RegsBut [R.PCI_FWIRQ] s t) ∧
  (∀ (s : State) (v : Word), 
    ∃ t, exec (.fwirqClear v) s = .next t ∧ Only [.regs, .pci, .out] s t ∧
      t.reg R.PCI_FWIRQ = s.reg R.PCI_FWIRQ &&& ~~~v ∧
      RegsBut [R.PCI_FWIRQ] s t)

/-- (R352, R368, R372, R373, R425, R462) LINK_DOWN takes the link and Bus Master Enable away and sets LINKDOWN; BUS_MASTER_DISABLE
clears Bus Master Enable alone; both leave a channel without a descriptor in progress as it is. FUNCTION_LEVEL_RESET resets
the DMA channels and sets FLR. PERST_N_ASSERT with PERST_CORE = 0 takes the link down and resets PCI and DMA; PERST_N_RELEASE
ends it. PCIE_LINK_ACTIVITY with HOST up trains a link that is down and the host enables its accesses. PME_TURN_OFF leaves the
link in L2 ready. -/
def Obligations.PcieLinkAndResets : Prop :=
  (∀ (s : State), (∀ k ∈ List.range 16, (s.dc k).cur = none) → 
    ∃ t, exec (.linkDown) s = .next t ∧ Only [.regs, .dram, .dma, .dmaEng, .pci, .ddr, .free, .out] s t ∧
      t.pci.linkUp = false ∧
      t.pci.bme = false ∧
      t.flag R.PCI_ISR F.PCI_ISR_LINKDOWN = true ∧
      t.fld R.PCI_STAT F.PCI_STAT_WIDTH = 0 ∧
      RegsBut [R.PCI_STAT, R.PCI_ISR] s t ∧
      (∀ k ∈ List.range 16, t.dc k = s.dc k)) ∧
  (∀ (s : State), (∀ k ∈ List.range 16, (s.dc k).cur = none) → 
    ∃ t, exec (.busMasterDisable) s = .next t ∧ Only [.regs, .dram, .dma, .dmaEng, .pci, .ddr, .out] s t ∧
      t.pci = { s.pci with bme := false } ∧
      t.flag R.PCI_STAT F.PCI_STAT_BME = false ∧
      RegsBut [R.PCI_STAT] s t ∧
      (∀ k ∈ List.range 16, t.dc k = s.dc k)) ∧
  (∀ (s : State) (n : Nat) (d : DmaDesc), n < 16 → (s.dc n).cur = some d → s.dmaHost n d = true → s.ringDev n = false → (∀ m ∈ List.range 16, m ≠ n → (s.dc m).cur = none) → 
    ∃ t, exec (.busMasterDisable) s = .next t ∧ Only [.regs, .dram, .dma, .dmaEng, .pci, .ddr, .out] s t ∧
      t.dc n = ⟨some { d with status := 6 }, [], [], []⟩ ∧
      t.pci.bme = false ∧
      UnitsBut State.dc n s t) ∧
  (∀ (s : State), 
    ∃ t, exec (.functionLevelReset) s = .next t ∧ Only [.regs, .dram, .dma, .dmaEng, .pci, .ddr, .out] s t ∧
      t.flag R.PCI_ISR F.PCI_ISR_FLR = true ∧
      t.dma = [] ∧
      t.pci.bme = false ∧
      t.pci.funcMask = false ∧
      t.reg R.PCI_FWIRQ = resetWord R.PCI_FWIRQ ∧
      (∀ k ∈ List.range 16, t.dmaState k = 0) ∧
      t.pci.linkUp = s.pci.linkUp) ∧
  (∀ (s : State), s.pci.perstN = true → s.flag R.BOOT_CTL F.BOOT_CTL_PERST_CORE = false → s.flag R.BOOT_CTL F.BOOT_CTL_PERST_CORE = false → 
    ∃ t, exec (.perstNAssert) s = .next t ∧ Only [.regs, .dram, .l2, .shadow, .staged, .grp, .armUndo, .chan, .srvAx, .srvCh, .srv, .lsr, .hoop, .port, .bulk, .dom, .time, .mot, .fbk, .cam, .pipe, .lgt, .strobe, .lane, .head, .dma, .dmaEng, .pci, .eth, .ddr, .intg, .cal, .pwr, .cave, .boot, .xbar, .free, .out] s t ∧
      t.pci.perstN = false ∧
      t.pci.linkUp = false ∧
      t.pci.bme = false ∧
      t.dma = []) ∧
  (∀ (s : State), s.pci.perstN = false → 
    ∃ t, exec (.perstNRelease) s = .next t ∧ Only [.regs, .dram, .grp, .dom, .pci, .ddr, .pwr, .out] s t ∧
      t.pci.perstN = true ∧
      t.pci.l2 = false) ∧
  (∀ (s : State), s.pci.perstN = true → s.up dHOST = true → s.pci.linkUp = false → s.fld R.PWR_STATE F.PWR_STATE_CUR = 0 → (∀ k ∈ List.range 16, (s.dc k).cur = none) → 
    ∃ t, exec (.pcieLinkActivity) s = .next t ∧ Only [.regs, .dram, .grp, .dom, .dma, .pci, .ddr, .pwr, .free, .out] s t ∧
      t.pci.linkUp = true ∧
      t.pci.bme = true ∧
      t.flag R.PCI_STAT F.PCI_STAT_BME = true ∧
      3 ≤ t.fld R.PCI_STAT F.PCI_STAT_SPEED ∧
      t.pci.owed = []) ∧
  (∀ (s : State), 
    ∃ t, exec (.pmeTurnOff) s = .next t ∧ Only [.regs, .dram, .grp, .dom, .pci, .ddr, .pwr, .out] s t ∧
      t.pci.l2 = true ∧
      t.pci.linkUp = s.pci.linkUp ∧
      t.votesOf 7 = 0)

/-- (R364, R365, R366, R367, R368, R369, R374) DMA_DOORBELL stores TAIL below the size of the ring and takes OWNWAIT back to RUN.
DMA_DESCRIPTOR_FETCH with nothing in progress starts a sound descriptor that the device owns and moves HEAD on, or enters
OWNWAIT where OWN = 0. DMA_READ_COMPLETION appends the data of the oldest read as a segment, releases the descriptor after a
read back, or marks the failure; COMPLETION_TIMEOUT of a host read marks RDERR and, with nothing held, ends the channel in
ERROR with code 5. DMA_SEGMENT_WRITE at the channel whose turn it is writes the oldest segment to its destination and changes
no other byte of DRAM; after the last one the descriptor is released. DMA_ENABLE runs a stopped channel, DMA_DISABLE stops an
idle one or lets the descriptor in progress end, DMA_RESTART leaves ERROR. After each of them the read engine serves the
channels that ask. -/
def Obligations.DmaChannels : Prop :=
  (∀ (s : State) (n : Nat) (v : Word), n < 16 → 
    ∃ t, exec (.dmaDoorbell n v) s = .next t ∧ Only [.regs, .dma, .dmaEng, .out] s t ∧
      (t = (let u := s.setFld (R.DMA_CH_TAIL n) F.DMA_CH_TAIL_INDEX (v.toNat % s.dmaSize n); if s.dmaState n = 2 then u.setDmaState n 1 else u).readEngine 128) ∧
      t.fld (R.DMA_CH_TAIL n) F.DMA_CH_TAIL_INDEX = v.toNat % s.dmaSize n % 2 ^ F.DMA_CH_TAIL_INDEX.width ∧
      (t.dmaState n = (if s.dmaState n = 2 then 1 else s.dmaState n)) ∧
      RegsBut [R.DMA_CH_TAIL n, R.DMA_CH_STAT n] s t) ∧
  (∀ (s : State) (n : Nat) (host : ReadResult) (b : List Byte), n < 16 → s.dmaState n = 1 → (s.dc n).cur = none → (s.dc n).ahead = [] → s.dmaHead n % s.dmaSize n ≠ s.fld (R.DMA_CH_TAIL n) F.DMA_CH_TAIL_INDEX % s.dmaSize n → s.dmaRead n (s.dmaHead n % s.dmaSize n) host = some b → leAt b 0x14 2 % 2 = 1 → 
    ∃ t, exec (.dmaDescriptorFetch n host) s = .next t ∧ Only [.regs, .dram, .dma, .dmaEng, .pci, .ddr, .out] s t ∧
      t = (s.dmaTake n (s.dmaParse (s.dmaHead n % s.dmaSize n) b)).readEngine 128) ∧
  (∀ (s : State) (n : Nat) (host : ReadResult) (b : List Byte), n < 16 → s.dmaState n = 1 → (s.dc n).cur = none → (s.dc n).ahead = [] → s.dmaHead n % s.dmaSize n ≠ s.fld (R.DMA_CH_TAIL n) F.DMA_CH_TAIL_INDEX % s.dmaSize n → s.dmaRead n (s.dmaHead n % s.dmaSize n) host = some b → leAt b 0x14 2 % 2 = 1 → (s.dmaParse (s.dmaHead n % s.dmaSize n) b).status = 0 → 
    ∃ t, exec (.dmaDescriptorFetch n host) s = .next t ∧ Only [.regs, .dram, .dma, .dmaEng, .pci, .ddr, .out] s t ∧
      (((t.dc n).cur.map fun d => { d with read := 0 }) = some (s.dmaParse (s.dmaHead n % s.dmaSize n) b)) ∧
      t.dmaHead n = (s.dmaHead n % s.dmaSize n + 1) % s.dmaSize n ∧
      RegsBut [R.DMA_CH_HEAD n] s t) ∧
  (∀ (s : State) (n : Nat) (host : ReadResult) (b : List Byte), n < 16 → s.dmaState n = 1 → (s.dc n).cur = none → (s.dc n).ahead = [] → s.dmaHead n % s.dmaSize n ≠ s.fld (R.DMA_CH_TAIL n) F.DMA_CH_TAIL_INDEX % s.dmaSize n → s.dmaRead n (s.dmaHead n % s.dmaSize n) host = some b → leAt b 0x14 2 % 2 = 0 → 
    ∃ t, exec (.dmaDescriptorFetch n host) s = .next t ∧ Only [.regs, .dram, .dma, .dmaEng, .pci, .ddr, .out] s t ∧
      t.dmaState n = 2 ∧
      RegsBut [R.DMA_CH_STAT n] s t ∧
      t = (s.setDmaState n 2).readEngine 128) ∧
  (∀ (s : State) (n : Nat) (host : ReadResult), n < 16 → s.dmaState n = 1 → (s.dc n).cur = none → (s.dc n).ahead = [] → s.dmaHead n % s.dmaSize n ≠ s.fld (R.DMA_CH_TAIL n) F.DMA_CH_TAIL_INDEX % s.dmaSize n → s.dmaRead n (s.dmaHead n % s.dmaSize n) host = none → 
    ∃ t, exec (.dmaDescriptorFetch n host) s = .next t ∧ Only [.regs, .dram, .dma, .dmaEng, .pci, .ddr, .out] s t ∧
      t = (s.dmaError n 7).readEngine 128 ∧
      t.dmaState n = 4 ∧
      t.fld (R.DMA_CH_STAT n) F.DMA_CH_STAT_CODE = 7) ∧
  (∀ (s : State) (n : Nat) (host : ReadResult) (d : DmaDesc) (a k : Nat) (rest : List (Nat × Nat)) (b : List Byte), n < 16 → (s.dc n).cur = some d → (s.dc n).asked = (a, k) :: rest → s.readsBack n d = false → s.readGot (d.srcDev && !s.readsBack n d) a k host = some b → 
    ∃ t, exec (.dmaReadCompletion n host) s = .next t ∧ Only [.regs, .dram, .dma, .dmaEng, .pci, .ddr, .out] s t ∧
      (t = (s.modDc n fun c => { c with asked := rest, segs := c.segs ++ [b] }).readEngine 128) ∧
      (t.dc n).segs = (s.dc n).segs ++ [b] ∧
      SameDram s t) ∧
  (∀ (s : State) (n : Nat) (host : ReadResult) (d : DmaDesc) (a k : Nat) (rest : List (Nat × Nat)) (b : List Byte), n < 16 → (s.dc n).cur = some d → (s.dc n).asked = (a, k) :: rest → s.readsBack n d = true → s.readGot (d.srcDev && !s.readsBack n d) a k host = some b → 
    ∃ t, exec (.dmaReadCompletion n host) s = .next t ∧ Only [.regs, .dram, .dma, .dmaEng, .pci, .ddr, .out] s t ∧
      t = (s.dmaFinish n d).readEngine 128) ∧
  (∀ (s : State) (n : Nat) (host : ReadResult) (d : DmaDesc) (a k : Nat) (rest : List (Nat × Nat)), n < 16 → (s.dc n).cur = some d → (s.dc n).asked = (a, k) :: rest → s.readGot (d.srcDev && !s.readsBack n d) a k host = none → 
    ∃ t, exec (.dmaReadCompletion n host) s = .next t ∧ Only [.regs, .dram, .dma, .dmaEng, .pci, .ddr, .out] s t ∧
      t = (s.readFailed n d).readEngine 128) ∧
  (∀ (s : State) (n : Nat) (d : DmaDesc) (a k : Nat) (rest : List (Nat × Nat)), n < 16 → (s.dc n).cur = some d → (s.dc n).asked = (a, k) :: rest → d.srcDev = false → (s.dc n).segs = [] → d.read ≠ d.written → d.dstDev = true → 
    ∃ t, exec (.completionTimeout n) s = .next t ∧ Only [.regs, .dram, .dma, .dmaEng, .pci, .ddr, .out] s t ∧
      t = (s.readFailed n d).readEngine 128 ∧
      t.dmaState n = 4 ∧
      t.fld (R.DMA_CH_STAT n) F.DMA_CH_STAT_CODE = 5 ∧
      t.dc n = DmaCh.reset ∧
      t.bit R.DMA_ISR (16 + n) = true ∧
      (s.ringDev n = true → s.dramOk (s.dmaSlot n d.index + 0x14) 8 = true → s.rangePoisoned (s.dmaSlot n d.index + 0x14) 8 = false → t.readDram (s.dmaSlot n d.index + 0x14) 8 = ({ d with status := 5 } : DmaDesc).release) ∧
      SameDramBut (s.dmaSlot n d.index + 0x14) 8 s t) ∧
  (∀ (s : State) (n : Nat) (d : DmaDesc) (b : List Byte) (rest : List (List Byte)), n < 16 → (s.dc n).cur = some d → roundRobin s.dmaEng.write s.dmaFilled = some n → s.intg.hidden = [] → d.down = false → (s.dc n).segs = b :: rest → d.status = 0 → d.dstDev = true → (rest ≠ [] ∨ (s.dc n).asked ≠ [] ∨ d.read < d.len) → s.dramOk (d.dst + d.written) b.length = true → s.rangePoisoned (d.dst + d.written) b.length = false → 
    ∃ t, exec (.dmaSegmentWrite n) s = .next t ∧ Only [.regs, .dram, .grp, .dma, .dmaEng, .pci, .ddr, .intg, .out] s t ∧
      (t = (let u := s.writeDram (d.dst + d.written) b; { u.modDc n (fun c => { c with cur := some { d with written := d.written + b.length }, segs := rest }) with dmaEng := { u.dmaEng with write := n } }).readEngine 128) ∧
      t.readDram (d.dst + d.written) b.length = b ∧
      SameDramBut (d.dst + d.written) b.length s t ∧
      (t.dc n).segs = rest) ∧
  (∀ (s : State) (n : Nat) (d : DmaDesc) (b : List Byte), n < 16 → (s.dc n).cur = some d → roundRobin s.dmaEng.write s.dmaFilled = some n → s.intg.hidden = [] → d.down = false → (s.dc n).segs = [b] → (s.dc n).asked = [] → (s.dc n).ahead = [] → d.status = 0 → d.dstDev = false → s.ringDev n = false → d.len ≤ d.read → 
    ∃ t, exec (.dmaSegmentWrite n) s = .next t ∧ Only [.regs, .dram, .grp, .dma, .dmaEng, .pci, .ddr, .intg, .out] s t ∧
      Out.hostWrite (d.dst + d.written) b ∈ t.out ∧
      Out.hostWrite (s.dmaSlot n d.index + 0x14) ({ d with written := d.written + b.length } : DmaDesc).release ∈ t.out ∧
      t.dc n = DmaCh.reset ∧
      (d.irq = true → t.bit R.DMA_ISR n = true) ∧
      SameDram s t ∧
      (t.dmaState n = (if s.dmaState n = 3 then 0 else s.dmaState n))) ∧
  (∀ (s : State) (n : Nat) (v : Word), n < 16 → (s.dmaState n = 0 ∨ s.dmaState n = 3) → 
    ∃ t, exec (.dmaEnable n v) s = .next t ∧ Only [.regs, .dma, .dmaEng, .out] s t ∧
      t = ((s.storeDmaCfg n (v ||| 1)).setDmaState n 1).readEngine 128 ∧
      t.dmaState n = 1 ∧
      t.flag (R.DMA_CH_CFG n) F.DMA_CH_CFG_EN = true ∧
      t.dmaHead n = s.dmaHead n ∧
      RegsBut [R.DMA_CH_CFG n, R.DMA_CH_STAT n] s t) ∧
  (∀ (s : State) (n : Nat) (v : Word), n < 16 → s.dmaState n ≠ 4 → 
    ∃ t, exec (.dmaDisable n v) s = .next t ∧ Only [.regs, .dma, .dmaEng, .out] s t ∧
      t.flag (R.DMA_CH_CFG n) F.DMA_CH_CFG_EN = false ∧
      (t.dmaState n = (if (s.dc n).cur.isSome then 3 else 0)) ∧
      (t.dc n).ahead = [] ∧
      (t.dc n).segs = (s.dc n).segs ∧
      RegsBut [R.DMA_CH_CFG n, R.DMA_CH_STAT n] s t) ∧
  (∀ (s : State) (n : Nat), n < 16 → s.dmaState n = 4 → 
    ∃ t, exec (.dmaRestart n) s = .next t ∧ Only [.regs, .dma, .dmaEng, .out] s t ∧
      (t = (s.setDmaState n (if s.flag (R.DMA_CH_CFG n) F.DMA_CH_CFG_EN then 1 else 0)).readEngine 128) ∧
      (t.dmaState n = (if s.flag (R.DMA_CH_CFG n) F.DMA_CH_CFG_EN then 1 else 0)) ∧
      t.dmaHead n = s.dmaHead n ∧
      RegsBut [R.DMA_CH_STAT n] s t)

/-- (R359, R360, R361, R362, R363, R375) ETH_PORT_ENABLE stores the configuration; with EN = 0 the link is down. The doorbells
store TAIL below the size of the ring. ETH_FRAME_SENT transmits the frame of an owned descriptor, padded with its FCS.
ETH_FRAME_RECEIVED stores an accepted frame in the buffer of the owned descriptor; a wrong FCS and a missing descriptor are
counted and nothing is stored. PAUSE_RECEIVED stops transmission for the quanta given; ETH_LINK_CHANGE sets LINK and its flag;
a sideband transaction starts with ETH_I2C_GO and ends with ETH_I2C_DONE. -/
def Obligations.EthernetPorts : Prop :=
  (∀ (s : State) (e : Nat) (v : Word), e < s.ethPorts → field F.ETH_PT_CFG_EN v = 1 → field F.ETH_PT_CFG_MODE v = s.fld (R.ETH_PT_CFG e) F.ETH_PT_CFG_MODE → 
    ∃ t, exec (.ethPortEnable e v) s = .next t ∧ Only [.regs] s t ∧
      t.reg (R.ETH_PT_CFG e) = v &&& 0xFF ∧
      t.flag (R.ETH_PT_CFG e) F.ETH_PT_CFG_EN = true ∧
      RegsBut [R.ETH_PT_CFG e] s t) ∧
  (∀ (s : State) (e : Nat) (v : Word), e < s.ethPorts → field F.ETH_PT_CFG_EN v = 0 → 
    ∃ t, exec (.ethPortEnable e v) s = .next t ∧ Only [.regs, .pci, .eth, .out] s t ∧
      t.flag (R.ETH_PT_CFG e) F.ETH_PT_CFG_EN = false ∧
      t.ethLink e = false ∧
      (s.ethLink e = true → t.bit R.ETH_ISR (8 * e + 2) = true) ∧
      RegsBut [R.ETH_PT_CFG e, R.ETH_PT_STAT e, R.ETH_ISR] s t ∧
      UnitsBut State.et e s t) ∧
  (∀ (s : State) (e : Nat) (v : Word), e < s.ethPorts → s.ethOn e = false → 
    ∃ t, exec (.ethTxDoorbell e v) s = .next t ∧ Only [.regs] s t ∧
      t.fld (R.ETH_PT_TXTAIL e) F.ETH_PT_TXTAIL_INDEX = v.toNat % s.txSize e % 2 ^ F.ETH_PT_TXTAIL_INDEX.width ∧
      RegsBut [R.ETH_PT_TXTAIL e] s t ∧
      SameDram s t) ∧
  (∀ (s : State) (e : Nat) (v : Word), e < s.ethPorts → 
    ∃ t, exec (.ethRxDoorbell e v) s = .next t ∧ Only [.regs] s t ∧
      t.fld (R.ETH_PT_RXTAIL e) F.ETH_PT_RXTAIL_INDEX = v.toNat % s.rxSize e % 2 ^ F.ETH_PT_RXTAIL_INDEX.width ∧
      RegsBut [R.ETH_PT_RXTAIL e] s t) ∧
  (∀ (s : State) (e : Nat) (d : List Byte), e < s.ethPorts → s.ethOn e = true → (s.et e).pauseUntil ≤ s.time.mt → s.txOwned e = some d → s.txBad e d = 0 → 
    ∃ t, exec (.ethFrameSent e) s = .next t ∧ Only [.regs, .dram, .pci, .ddr, .out] s t ∧
      Out.ethFrame e (ethWire (s.readDram (64 * leAt d 0 4) (leAt d 4 2))) ∈ t.out ∧
      (bitAt (leAt d 6 2) 1 = true → t.bit R.ETH_ISR (8 * e) = true) ∧
      t.et e = s.et e) ∧
  (∀ (s : State) (e : Nat) (bytes : List Byte) (check : Word) (d : List Byte), e < s.ethPorts → s.ethOn e = true → 60 ≤ bytes.length → s.ethAccepts e bytes = true → check.toNat = fcs bytes → s.intg.hidden = [] → bytes.length ≤ 9212 → s.rxOwned e = some d → bytes.length ≤ leAt d 4 2 → s.dramOk (64 * leAt d 0 4) bytes.length = true → s.rangePoisoned (64 * leAt d 0 4) bytes.length = false → (64 * leAt d 0 4 + bytes.length ≤ s.rxDesc e (s.rxHead e) ∨ s.rxDesc e (s.rxHead e) + 32 ≤ 64 * leAt d 0 4) → 
    ∃ t, exec (.ethFrameReceived e bytes check) s = .next t ∧ Only [.regs, .dram, .grp, .pci, .ddr, .intg, .out] s t ∧
      t.readDram (64 * leAt d 0 4) bytes.length = bytes ∧
      t.rxHead e = (s.rxHead e + 1) % s.rxSize e % 2 ^ F.ETH_PT_RXHEAD_INDEX.width ∧
      leAt (t.readDram (s.rxDesc e (s.rxHead e)) 32) 6 2 = leAt d 6 2 / 2 * 2 ∧
      leAt (t.readDram (s.rxDesc e (s.rxHead e)) 32) 10 2 = bytes.length ∧
      (bitAt (leAt d 6 2) 1 = true → t.bit R.ETH_ISR (8 * e + 1) = true) ∧
      RegsBut [R.ETH_PT_RXHEAD e, R.ETH_ISR] s t) ∧
  (∀ (s : State) (e : Nat) (bytes : List Byte) (check : Word), e < s.ethPorts → s.ethOn e = true → 60 ≤ bytes.length → s.ethAccepts e bytes = true → check.toNat ≠ fcs bytes → 
    ∃ t, exec (.ethFrameReceived e bytes check) s = .next t ∧ Only irqParts s t ∧
      t.fld (R.ETH_PT_DROP e) F.ETH_PT_DROP_FCS = min (s.fld (R.ETH_PT_DROP e) F.ETH_PT_DROP_FCS + 1) (2 ^ F.ETH_PT_DROP_FCS.width - 1) ∧
      t.bit R.ETH_ISR (8 * e + 3) = true ∧
      SameDram s t ∧
      RegsBut [R.ETH_PT_DROP e, R.ETH_ISR] s t) ∧
  (∀ (s : State) (e : Nat) (bytes : List Byte) (check : Word), e < s.ethPorts → s.ethOn e = true → 60 ≤ bytes.length → s.ethAccepts e bytes = true → check.toNat = fcs bytes → s.intg.hidden = [] → s.rxOwned e = none → 
    ∃ t, exec (.ethFrameReceived e bytes check) s = .next t ∧ Only irqParts s t ∧
      t.fld (R.ETH_PT_DROP e) F.ETH_PT_DROP_NOBUF = min (s.fld (R.ETH_PT_DROP e) F.ETH_PT_DROP_NOBUF + 1) (2 ^ F.ETH_PT_DROP_NOBUF.width - 1) ∧
      t.bit R.ETH_ISR (8 * e + 3) = true ∧
      SameDram s t ∧
      RegsBut [R.ETH_PT_DROP e, R.ETH_ISR] s t) ∧
  (∀ (s : State) (e : Nat) (bytes : List Byte) (check : Word), e < s.ethPorts → s.ethOn e = true → s.ethAccepts e bytes = false → 
    ∃ t, exec (.ethFrameReceived e bytes check) s = .next t ∧ Only [.regs, .dram, .grp, .pci, .ddr, .intg, .out] s t ∧
      t = s) ∧
  (∀ (s : State) (e quanta : Nat), e < s.ethPorts → s.ethOn e = true → s.flag (R.ETH_PT_CFG e) F.ETH_PT_CFG_RXPAUSE = true → 
    ∃ t, exec (.pauseReceived e quanta) s = .next t ∧ Only [.eth] s t ∧
      t.et e = { s.et e with pauseUntil := s.time.mt + s.quantumU e * (quanta % 65536) } ∧
      UnitsBut State.et e s t) ∧
  (∀ (s : State) (e : Nat) (locked negotiated : Bool), e < s.ethPorts → s.ethOn e = true → 
    ∃ t, exec (.ethLinkChange e ⟨locked, negotiated⟩) s = .next t ∧ Only [.regs, .dram, .pci, .ddr, .out] s t ∧
      t = (s.setLink e (locked && (negotiated || !(s.flag (R.ETH_PT_CFG e) F.ETH_PT_CFG_AN && decide (s.fld (R.ETH_PT_CFG e) F.ETH_PT_CFG_MODE = 0))))).txClean e) ∧
  (∀ (s : State) (e : Nat) (locked negotiated : Bool), e < s.ethPorts → s.ethOn e = true → s.ethLink e = true → locked = false → 
    ∃ t, exec (.ethLinkChange e ⟨locked, negotiated⟩) s = .next t ∧ Only [.regs, .dram, .pci, .ddr, .out] s t ∧
      t.ethLink e = false ∧
      t.bit R.ETH_ISR (8 * e + 2) = true ∧
      t.et e = s.et e) ∧
  (∀ (s : State) (e : Nat) (v : Word), e < s.ethPorts → field F.ETH_PT_I2CCMD_GO v = 1 → (s.et e).i2c = none → 
    ∃ t, exec (.ethI2cGo e v) s = .next t ∧ Only [.regs, .eth, .out] s t ∧
      t.et e = { s.et e with i2c := some ⟨.host, decide (field F.ETH_PT_I2CCMD_WRITE v = 1), field F.ETH_PT_I2CCMD_REG v % 256, field F.ETH_PT_I2CCMD_N v + 1⟩ } ∧
      t.flag (R.ETH_PT_I2CCMD e) F.ETH_PT_I2CCMD_BUSY = true ∧
      RegsBut [R.ETH_PT_I2CCMD e] s t ∧
      UnitsBut State.et e s t) ∧
  (∀ (s : State) (e : Nat) (v : Word), e < s.ethPorts → field F.ETH_PT_I2CCMD_GO v = 1 → (s.et e).i2c ≠ none → 
    ∃ t, exec (.ethI2cGo e v) s = .next t ∧ Only irqParts s t ∧
      t.bit R.ETH_ISR (8 * e + 4) = true ∧
      RegsBut [R.ETH_PT_I2CCMD e, R.ETH_ISR] s t) ∧
  (∀ (s : State) (e code : Nat) (data : Word) (q : I2c), e < s.ethPorts → (s.et e).i2c = some q → q.write = false → code = 0 → 
    ∃ t, exec (.ethI2cDone e code data) s = .next t ∧ Only [.regs, .eth] s t ∧
      t.et e = { s.et e with i2c := none } ∧
      t.reg (R.ETH_PT_I2CDATA e) = data ∧
      t.flag (R.ETH_PT_I2CCMD e) F.ETH_PT_I2CCMD_BUSY = false ∧
      t.fld (R.ETH_PT_I2CCMD e) F.ETH_PT_I2CCMD_CODE = 0 ∧
      RegsBut [R.ETH_PT_I2CCMD e, R.ETH_PT_I2CDATA e] s t ∧
      UnitsBut State.et e s t)

/-- (R378, R380, R381, R382, R383, R385, R386, R387, R388) DDR_CFG_WRITE is stored while neither READY nor BUSY, else rejected.
DDR_INIT sets BUSY and clears READY; DDR_INIT_DONE with training agreed sets READY with every byte of DRAM zero, without
agreement READY stays clear. DRAM_REQUEST issues the read or makes the log write that a subchannel serves next.
DRAM_READ_RETURN of a sound line changes no byte of DRAM and counts the corrected beats; an uncorrectable or marked one marks
the line and counts it; a read of no issued request has the same effect. REFRESH that is due is issued, or postponed while a
port is in panic. PERIODIC_TRAINING at its instant pauses the channel, or waits while a port is in panic. -/
def Obligations.DramController : Prop :=
  (∀ (s : State) (v : Word), s.flag R.DDR_STAT F.DDR_STAT_READY = false → s.flag R.DDR_STAT F.DDR_STAT_BUSY = false → 
    ∃ t, exec (.ddrCfgWrite v) s = .next t ∧ Only [.regs] s t ∧
      t.reg R.DDR_CFG = v &&& 0x1F ∧
      RegsBut [R.DDR_CFG] s t) ∧
  (∀ (s : State) (v : Word), (s.flag R.DDR_STAT F.DDR_STAT_READY = true ∨ s.flag R.DDR_STAT F.DDR_STAT_BUSY = true) → 
    ∃ t, exec (.ddrCfgWrite v) s = .next t ∧ Only [.regs] s t ∧
      t.flag R.DDR_STAT F.DDR_STAT_REJ = true ∧
      t.reg R.DDR_CFG = s.reg R.DDR_CFG ∧
      RegsBut [R.DDR_STAT] s t) ∧
  (∀ (s : State), 
    ∃ t, exec (.ddrInit) s = .next t ∧ Only [.regs] s t ∧
      t.flag R.DDR_STAT F.DDR_STAT_BUSY = true ∧
      t.flag R.DDR_STAT F.DDR_STAT_READY = false ∧
      RegsBut [R.DDR_STAT] s t) ∧
  (∀ (s : State) (steps : List (List (List Nat))), s.flag R.DDR_STAT F.DDR_STAT_BUSY = true → steps.all (stepTrained (s.fld (R.CAL_G_TOL 7) F.CAL_G_TOL_ABS)) = true → 
    ∃ t, exec (.ddrInitDone steps) s = .next t ∧ Only [.regs, .dram, .grp, .pci, .ddr, .free, .out] s t ∧
      t.flag R.DDR_STAT F.DDR_STAT_BUSY = false ∧
      t.flag R.DDR_STAT F.DDR_STAT_READY = true ∧
      (s.flag R.SEQ_EVT_CTL F.SEQ_EVT_CTL_EN = false → t.dram = []) ∧
      t.ddr.poisoned = [] ∧
      t.ddr.retrain = false ∧
      t.fld R.DDR_STAT F.DDR_STAT_SIZE = s.dramGiB ∧
      t.fld (R.CAL_G_STAT 7) F.CAL_G_STAT_RESULT = 1) ∧
  (∀ (s : State) (steps : List (List (List Nat))), s.flag R.DDR_STAT F.DDR_STAT_BUSY = true → steps.all (stepTrained (s.fld (R.CAL_G_TOL 7) F.CAL_G_TOL_ABS)) = false → 
    ∃ t, exec (.ddrInitDone steps) s = .next t ∧ Only [.regs, .dram, .grp, .pci, .ddr, .free, .out] s t ∧
      t.flag R.DDR_STAT F.DDR_STAT_BUSY = false ∧
      t.flag R.DDR_STAT F.DDR_STAT_READY = s.flag R.DDR_STAT F.DDR_STAT_READY ∧
      t.fld (R.CAL_G_STAT 7) F.CAL_G_STAT_RESULT = 2 ∧
      t.flag R.CAL_ISR F.CAL_ISR_DISAGREE = true) ∧
  (∀ (s : State) (sub : Nat) (r : DramReq), sub < s.subs → s.training (sub / 2) = false → s.flag R.DDR_STAT F.DDR_STAT_SR = false → s.nextReq sub = some r → r.write = false → 
    ∃ t, exec (.dramRequest sub) s = .next t ∧ Only [.ddr, .out] s t ∧
      t.ddr = { s.ddr with queue := dropReq r s.ddr.queue, rr := r.group, issued := s.ddr.issued ++ [r] } ∧
      t.out = s.dramAccess r.line false :: s.out) ∧
  (∀ (s : State) (sub : Nat) (r : DramReq) (l : LogLine) (rest : List LogLine), sub < s.subs → s.training (sub / 2) = false → s.flag R.DDR_STAT F.DDR_STAT_SR = false → s.nextReq sub = some r → r.write = true → r.port = 2 → (s.ls r.unit).logLines = l :: rest → l.line = r.line → s.dramOk (64 * r.line) 64 = true → (s.ls r.unit).fenceRecs = [] → 
    ∃ t, exec (.dramRequest sub) s = .next t ∧ Only [.regs, .dram, .grp, .lsr, .pci, .ddr, .out] s t ∧
      (t.readDram (64 * r.line) 64 = padTo 64 (l.entries.flatMap fun e => e.bytes)) ∧
      SameDramBut (64 * r.line) 64 s t ∧
      (t.ls r.unit).logLines = rest ∧
      t.ddr.queue = dropReq r s.ddr.queue ∧
      t.out = s.dramAccess r.line true :: s.out) ∧
  (∀ (s : State) (line : Nat) (ue : Bool) (corrected : Nat) (r : DramReq), ((s.ddr.issued.find? fun q => decide (q.line = line)) = some r) → ue = false → s.poisoned line = false → s.flag R.DDR_ECC_CFG F.DDR_ECC_CFG_WBACK = false → 
    ∃ t, exec (.dramReadReturn ⟨line, ue⟩ corrected) s = .next t ∧ Only [.regs, .ddr] s t ∧
      t.ddr = { s.ddr with issued := dropReq r s.ddr.issued } ∧
      t.fld (R.DDR_ECC_CE) F.DDR_ECC_CE_COUNT = min (s.fld (R.DDR_ECC_CE) F.DDR_ECC_CE_COUNT + corrected) (2 ^ F.DDR_ECC_CE_COUNT.width - 1) ∧
      RegsBut [R.DDR_ECC_CE] s t ∧
      SameDram s t) ∧
  (∀ (s : State) (line : Nat) (ue : Bool) (corrected : Nat) (r : DramReq), ((s.ddr.issued.find? fun q => decide (q.line = line)) = some r) → (ue = true ∨ s.poisoned line = true) → 
    ∃ t, exec (.dramReadReturn ⟨line, ue⟩ corrected) s = .next t ∧ Only [.regs, .dram, .grp, .pci, .ddr, .intg, .out] s t ∧
      t.poisoned line = true ∧
      t.ddr.issued = dropReq r s.ddr.issued ∧
      t.fld (R.DDR_ECC_UE) F.DDR_ECC_UE_COUNT = min (s.fld (R.DDR_ECC_UE) F.DDR_ECC_UE_COUNT + 1) (2 ^ F.DDR_ECC_UE_COUNT.width - 1) ∧
      t.reg R.DDR_ECC_ADDR = BitVec.ofNat 32 line ∧
      t.flag R.INTG_ISR F.INTG_ISR_UE = true) ∧
  (∀ (s : State) (line : Nat) (ue : Bool) (corrected : Nat), ((s.ddr.issued.find? fun q => decide (q.line = line)) = none) → s.dramOk (64 * line) 64 = true → 
    ∃ t, exec (.dramReadReturn ⟨line, ue⟩ corrected) s = .next t ∧ Only [.regs, .dram, .grp, .pci, .ddr, .intg, .out] s t ∧
      t = s.lineRead line ue corrected) ∧
  (∀ (s : State) (sub : Nat), sub < s.subs → s.dramUp = true → (tabGet (fun _ => 0) s.ddr.refreshDue sub ≤ s.time.mt) → (0 < tabGet (fun _ => 0) s.ddr.refreshDue sub) → 
    ∃ t, exec (.refresh sub) s = .next t ∧ Only [.ddr, .out] s t ∧
      (tabGet (fun _ => 0) t.ddr.refreshDue sub = tabGet (fun _ => 0) s.ddr.refreshDue sub + refreshU) ∧
      (s.panics = 0 → tabGet (fun _ => 0) t.ddr.postponed sub = 0) ∧
      (s.panics ≠ 0 → tabGet (fun _ => 0) s.ddr.postponed sub < 4 → tabGet (fun _ => 0) t.ddr.postponed sub = tabGet (fun _ => 0) s.ddr.postponed sub + 1) ∧
      t.ddr.queue = s.ddr.queue) ∧
  (∀ (s : State) (k : Nat), k < s.ddrChannels → s.dramUp = true → s.training k = false → (tabGet (fun _ => 0) s.ddr.trainWait k = 0) → s.trainInstant k = true → s.panics = 0 → 
    ∃ t, exec (.periodicTraining k) s = .next t ∧ Only [.regs, .ddr, .free] s t ∧
      t.training k = true ∧
      t.fld R.DDR_TRAIN F.DDR_TRAIN_LAST ≤ 1250 ∧
      RegsBut [R.DDR_STAT, R.DDR_TRAIN, R.DDR_QUAL k] s t) ∧
  (∀ (s : State) (k : Nat), k < s.ddrChannels → s.dramUp = true → s.training k = false → (tabGet (fun _ => 0) s.ddr.trainWait k = 0) → s.trainInstant k = true → s.panics ≠ 0 → 
    ∃ t, exec (.periodicTraining k) s = .next t ∧ Only [.regs, .ddr, .free] s t ∧
      (tabGet (fun _ => 0) t.ddr.trainWait k = s.time.mt + 1) ∧
      t.fld (R.DDR_TRAIN) F.DDR_TRAIN_DEFER = min (s.fld (R.DDR_TRAIN) F.DDR_TRAIN_DEFER + 1) (2 ^ F.DDR_TRAIN_DEFER.width - 1) ∧
      RegsBut [R.DDR_TRAIN] s t)

/-- (R10, R395, R396, R397, R398, R399, R400, R401) SCRUB_PASS that is due counts a pass. SCRUB_READ of a clean word changes
nothing; a corrected one counts and is tracked as a first correction; an uncorrectable one is counted and reported. REMAP_FREE
with 0 empties the entry, with any other value it is rejected. BIST sets BISTBUSY on T32F and T32S, in a layer it is rejected;
BIST_DONE clears BISTBUSY and sets the bits of the checkers that failed. SPLIT_WRITE_ARM and SPLIT_RESIDUE act on T16 and T08
outside a layer. -/
def Obligations.IntegrityScrubAndTest : Prop :=
  (∀ (s : State), s.flag R.INTG_CTL F.INTG_CTL_SCRUB = true → (s.intg.scrubAt = 0 ∨ s.intg.scrubAt - 1 + scrubU ≤ s.time.mt) → 
    ∃ t, exec (.scrubPass) s = .next t ∧ Only [.regs, .intg] s t ∧
      t.reg R.INTG_PASS = s.reg R.INTG_PASS + 1 ∧
      t.intg = { s.intg with scrubAt := s.time.mt + 1 } ∧
      RegsBut [R.INTG_PASS] s t) ∧
  (∀ (s : State) (cls index : Nat) (finding : ScrubFinding), cls < 11 → s.flag R.INTG_CTL F.INTG_CTL_SCRUB = true → s.up (classDomain cls index) = true → s.scrubFinds cls index finding = 0 → 
    ∃ t, exec (.scrubRead cls index finding) s = .next t ∧ Only [] s t ∧
      t = s) ∧
  (∀ (s : State) (cls index : Nat) (finding : ScrubFinding), cls < 11 → s.flag R.INTG_CTL F.INTG_CTL_SCRUB = true → s.up (classDomain cls index) = true → s.scrubFinds cls index finding = 1 → s.isRemapped cls index = false → s.trackers cls = [] → 
    ∃ t, exec (.scrubRead cls index finding) s = .next t ∧ Only [.regs, .dram, .grp, .pci, .ddr, .intg, .out] s t ∧
      t.fld (R.INTG_CE) F.INTG_CE_COUNT = min (s.fld (R.INTG_CE) F.INTG_CE_COUNT + 1) (2 ^ F.INTG_CE_COUNT.width - 1) ∧
      t.trackers cls = [⟨index, none, s.fld R.INTG_PASS F.INTG_PASS_COUNT⟩] ∧
      t.flag R.INTG_ISR F.INTG_ISR_CE = true ∧
      t.scrubFinds cls index .clean = 0 ∧
      RegsBut [R.INTG_CE, R.INTG_ISR] s t) ∧
  (∀ (s : State) (cls index : Nat) (finding : ScrubFinding), cls < 11 → s.flag R.INTG_CTL F.INTG_CTL_SCRUB = true → s.up (classDomain cls index) = true → s.scrubFinds cls index finding = 2 → 
    ∃ t, exec (.scrubRead cls index finding) s = .next t ∧ Only [.regs, .dram, .grp, .pci, .ddr, .intg, .out] s t ∧
      t.fld (R.INTG_UE) F.INTG_UE_COUNT = min (s.fld (R.INTG_UE) F.INTG_UE_COUNT + 1) (2 ^ F.INTG_UE_COUNT.width - 1) ∧
      t.flag R.INTG_ISR F.INTG_ISR_UE = true ∧
      t.trackers cls = s.trackers cls ∧
      t.scrubFinds cls index .clean = 2) ∧
  (∀ (s : State) (cls e : Nat), cls < 11 → e < 16 → 
    ∃ t, exec (.remapFree cls e 0) s = .next t ∧ Only [.regs, .pci, .intg, .out] s t ∧
      t.reg (R.INTG_REMAP cls e) = 0 ∧
      t.remapped cls e = false ∧
      RegsBut [R.INTG_REMAP cls e] s t ∧
      (s.remapped cls e = true → t.scrubFinds cls (s.fld (R.INTG_REMAP cls e) F.INTG_REMAP_INDEX) .clean = 0)) ∧
  (∀ (s : State) (cls e : Nat) (v : Word), cls < 11 → e < 16 → v ≠ 0 → 
    ∃ t, exec (.remapFree cls e v) s = .next t ∧ Only irqParts s t ∧
      t.flag R.INTG_ISR F.INTG_ISR_REJ = true ∧
      RegsBut [R.INTG_ISR] s t) ∧
  (∀ (s : State), s.splitWrite = false → s.layerArmed = false → 
    ∃ t, exec (.bist) s = .next t ∧ Only [.regs] s t ∧
      t.flag R.INTG_STAT F.INTG_STAT_BISTBUSY = true ∧
      RegsBut [R.INTG_STAT] s t) ∧
  (∀ (s : State), s.splitWrite = false → s.layerArmed = true → 
    ∃ t, exec (.bist) s = .next t ∧ Only irqParts s t ∧
      t.flag R.INTG_ISR F.INTG_ISR_REJ = true ∧
      RegsBut [R.INTG_ISR] s t) ∧
  (∀ (s : State) (failed : Nat), s.flag R.INTG_STAT F.INTG_STAT_BISTBUSY = true → 
    ∃ t, exec (.bistDone failed) s = .next t ∧ Only [.regs, .dram, .grp, .pci, .ddr, .intg, .cave, .out] s t ∧
      t = (s.setFlag R.INTG_STAT F.INTG_STAT_BISTBUSY false).bistResult (failing (((List.range 11).filter (s.setFlag R.INTG_STAT F.INTG_STAT_BISTBUSY false).up).flatMap domainCheckers) failed) ∧
      t.flag R.INTG_STAT F.INTG_STAT_BISTBUSY = false) ∧
  (∀ (s : State) (failed b : Nat), s.flag R.INTG_STAT F.INTG_STAT_BISTBUSY = true → b < 16 → b ∈ (((List.range 11).filter s.up).flatMap domainCheckers) → bitAt failed b = true → 
    ∃ t, exec (.bistDone failed) s = .next t ∧ Only [.regs, .dram, .grp, .pci, .ddr, .intg, .cave, .out] s t ∧
      t.flag R.INTG_STAT F.INTG_STAT_BISTBUSY = false ∧
      t.bit R.INTG_BIST b = true ∧
      t.flag R.INTG_ISR F.INTG_ISR_BISTFAIL = true) ∧
  (∀ (s : State) (failed : Nat), s.flag R.INTG_STAT F.INTG_STAT_BISTBUSY = true → (failing (((List.range 11).filter s.up).flatMap domainCheckers) failed) = [] → 
    ∃ t, exec (.bistDone failed) s = .next t ∧ Only [.regs] s t ∧
      t.flag R.INTG_STAT F.INTG_STAT_BISTBUSY = false ∧
      RegsBut [R.INTG_STAT] s t) ∧
  (∀ (s : State) (v : Word), s.splitWrite = true → s.layerArmed = false → 
    ∃ t, exec (.splitWriteArm v) s = .next t ∧ Only [.regs] s t ∧
      t.reg R.INTG_SPLIT_CTL = v &&& 0x7F01 ∧
      RegsBut [R.INTG_SPLIT_CTL] s t) ∧
  (∀ (s : State) (v : Word), s.splitWrite = true → s.layerArmed = false → field F.INTG_SPLIT_RES_GO v = 1 → field F.INTG_SPLIT_RES_UNIT v = 1 → field F.INTG_SPLIT_RES_AXIS v < 3 → 
    ∃ t, exec (.splitResidue v) s = .next t ∧ Only [.regs, .intg] s t ∧
      t.reg R.INTG_SPLIT_RES = v &&& 0x37F ∧
      (1, field F.INTG_SPLIT_RES_CH v, field F.INTG_SPLIT_RES_AXIS v) ∈ t.intg.forced ∧
      RegsBut [R.INTG_SPLIT_RES] s t) ∧
  (∀ (s : State) (v : Word), s.splitWrite = false → 
    ∃ t, exec (.splitResidue v) s = .next t ∧ Only [] s t ∧
      RegsBut [] s t)

/-- (R405, R406, R407, R408, R409, R411, R412, R413) CAL_OPEN in IDLE starts run 1 with its counters clear; CAL_REPEAT in RUN1
starts run 2; CAL_ABORT outside IDLE ends with result ABORTED. CAL_APPLY in RUN2 waits for its boundary when the runs agree,
else it ends with DISAGREE. CAL_RESTORE in IDLE outside a layer waits for its boundary. CAL_APPLY_EFFECT at a servo boundary
after GO makes every active word equal to the pending one and ends with APPLIED or RESTORED. A command in another state, or on
group 7, is rejected. PENDING_SET_WRITE in RUN1 stores and counts, in RUN2 it counts a compared word and stores nothing.
SKEW_QUALITY_WRITE at its time stores the figure with its valid bit. -/
def Obligations.CalibrationGroups : Prop :=
  (∀ (s : State) (g : Nat), g < 7 → s.calState g = 0 → 
    ∃ t, exec (.calOpen g) s = .next t ∧ Only [.regs] s t ∧
      t.calState g = 1 ∧
      t.reg (R.CAL_G_WORDS g) = 0 ∧
      t.reg (R.CAL_G_CMPW g) = 0 ∧
      t.reg (R.CAL_G_NDIS g) = 0 ∧
      t.reg (R.CAL_G_DIFF g) = 0 ∧
      RegsBut [R.CAL_G_STAT g, R.CAL_G_WORDS g, R.CAL_G_CMPW g, R.CAL_G_NDIS g, R.CAL_G_DIFF g] s t) ∧
  (∀ (s : State) (g : Nat), g < 8 → (g = 7 ∨ s.calState g ≠ 0) → 
    ∃ t, exec (.calOpen g) s = .next t ∧ Only irqParts s t ∧
      t.flag R.CAL_ISR F.CAL_ISR_REJ = true ∧
      RegsBut [R.CAL_ISR] s t) ∧
  (∀ (s : State) (g : Nat), g < 7 → s.calState g = 1 → 
    ∃ t, exec (.calRepeat g) s = .next t ∧ Only [.regs] s t ∧
      t.calState g = 2 ∧
      RegsBut [R.CAL_G_STAT g] s t) ∧
  (∀ (s : State) (g : Nat), g < 7 → s.calState g ≠ 0 → 
    ∃ t, exec (.calAbort g) s = .next t ∧ Only [.regs, .pci, .out] s t ∧
      t.calState g = 0 ∧
      t.fld (R.CAL_G_STAT g) F.CAL_G_STAT_RESULT = 4 ∧
      t.flag R.CAL_ISR F.CAL_ISR_DONE = true ∧
      RegsBut [R.CAL_G_STAT g, R.CAL_ISR] s t) ∧
  (∀ (s : State) (g : Nat), g < 7 → s.calState g = 0 → s.layerArmed = false → 
    ∃ t, exec (.calRestore g) s = .next t ∧ Only [.regs, .cal] s t ∧
      t.calState g = 3 ∧
      t.cg g = { s.cg g with restore := true, effectAt := s.time.mt } ∧
      RegsBut [R.CAL_G_STAT g] s t ∧
      UnitsBut State.cg g s t) ∧
  (∀ (s : State) (g : Nat), g < 7 → s.calState g = 2 → s.reg (R.CAL_G_CMPW g) = s.reg (R.CAL_G_WORDS g) → s.reg (R.CAL_G_NDIS g) = 0 → s.reg (R.CAL_G_WORDS g) ≠ 0 → 
    ∃ t, exec (.calApply g) s = .next t ∧ Only [.regs, .cal] s t ∧
      t.calState g = 3 ∧
      t.cg g = { s.cg g with restore := false, effectAt := s.time.mt } ∧
      RegsBut [R.CAL_G_STAT g] s t ∧
      UnitsBut State.cg g s t) ∧
  (∀ (s : State) (g : Nat), g < 7 → s.calState g = 2 → s.reg (R.CAL_G_NDIS g) ≠ 0 → 
    ∃ t, exec (.calApply g) s = .next t ∧ Only [.regs, .dram, .grp, .pci, .ddr, .cal, .out] s t ∧
      t.calState g = 0 ∧
      t.fld (R.CAL_G_STAT g) F.CAL_G_STAT_RESULT = 2 ∧
      t.flag R.CAL_ISR F.CAL_ISR_DISAGREE = true) ∧
  (∀ (s : State) (g : Nat), s.canon = true → g < 7 → s.calState g = 3 → (s.cg g).effectAt < s.time.mt → s.time.mt % servoU = 0 → s.layerArmed = false → s.intg.planted = [] → g ≠ 5 → 
    ∃ t, exec (.calApplyEffect g) s = .next t ∧ Only [.regs, .dram, .grp, .head, .pci, .ddr, .intg, .out] s t ∧
      t.calState g = 0 ∧
      (t.fld (R.CAL_G_STAT g) F.CAL_G_STAT_RESULT = (if (s.cg g).restore then 3 else 1)) ∧
      (∀ o ∈ List.range ((calLayout g).2.2 * calUnits g), t.reg ((calLayout g).2.1 + o) = s.reg ((calLayout g).1 + o)) ∧
      (∀ o ∈ List.range 0x400, t.reg (qualActive g + o) = s.reg (qualPending g + o)) ∧
      t.flag R.CAL_ISR F.CAL_ISR_DONE = true) ∧
  (∀ (s : State) (addr g u off : Nat) (v : Word), addr < 0x4000000 → addr % 4 = 0 → calPlace addr = some (g, u, off) → u < s.calPresent g → u < calUnits g → calFields g off ≠ [] → s.calState g = 1 → s.splitWrite = false → 
    ∃ t, exec (.pendingSetWrite addr v) s = .next t ∧ Only [.regs, .intg] s t ∧
      t.reg addr = BitVec.ofNat 32 (v.toNat &&& calMask (calFields g off)) ∧
      t.fld (R.CAL_G_WORDS g) F.CAL_G_WORDS_COUNT = min (s.fld (R.CAL_G_WORDS g) F.CAL_G_WORDS_COUNT + 1) (2 ^ F.CAL_G_WORDS_COUNT.width - 1) ∧
      RegsBut [addr, R.CAL_G_WORDS g] s t) ∧
  (∀ (s : State) (addr g u off : Nat) (v : Word), addr < 0x4000000 → addr % 4 = 0 → calPlace addr = some (g, u, off) → u < s.calPresent g → u < calUnits g → calFields g off ≠ [] → s.calState g = 2 → 
    ∃ t, exec (.pendingSetWrite addr v) s = .next t ∧ Only [.regs] s t ∧
      t.reg addr = s.reg addr ∧
      t.fld (R.CAL_G_CMPW g) F.CAL_G_CMPW_COUNT = min (s.fld (R.CAL_G_CMPW g) F.CAL_G_CMPW_COUNT + 1) (2 ^ F.CAL_G_CMPW_COUNT.width - 1) ∧
      ((calFields g off).all (fun f => s.calAgrees g f (s.reg addr) v) = true → t.reg (R.CAL_G_NDIS g) = s.reg (R.CAL_G_NDIS g)) ∧
      RegsBut [R.CAL_G_CMPW g, R.CAL_G_NDIS g, R.CAL_G_DIFF g] s t) ∧
  (∀ (s : State) (addr g u off : Nat) (v : Word), addr < 0x4000000 → addr % 4 = 0 → calPlace addr = some (g, u, off) → u < s.calPresent g → u < calUnits g → calFields g off ≠ [] → s.calState g = 3 → 
    ∃ t, exec (.pendingSetWrite addr v) s = .next t ∧ Only irqParts s t ∧
      t.flag R.CAL_ISR F.CAL_ISR_REJ = true ∧
      RegsBut [R.CAL_ISR] s t) ∧
  (∀ (s : State) (ch t0 : Nat), ch < s.channels → (s.hd ch).skewDue = some t0 → t0 ≤ s.time.mt → 
    ∃ t, exec (.skewQualityWrite ch ch) s = .next t ∧ Only [.regs, .head] s t ∧
      (t.reg (qualActive 5 + 4 * ch) = BitVec.ofNat 32 (spread (((s.hd ch).arrivals.filter fun x => decide (s.time.mt < x.1 + 4096 * servoU)).map (·.2)) % 65536 + 2 ^ 31)) ∧
      (t.hd ch).skewDue = none ∧
      RegsBut [qualActive 5 + 4 * ch] s t) ∧
  (∀ (s : State) (ch last : Nat), ch < s.channels → 
    ∃ t, exec (.skewQualityWrite ch last) s = .next t ∧ Only [.regs, .head] s t ∧
      (t = s.each ((List.range s.channels).filter fun n => decide (ch ≤ n) && decide (n ≤ last)) fun n t => t.skewFigure n))

/-- (R416, R417, R420, R422, R423, R424, R425, R427, R431) STATE_REQUEST of a state below 5 stores REQ and either starts the
transition or has reached it; 5 to 7 is rejected. Firmware alone writes its vote, the host alone its vote and the forced
drops, each masked to eleven domains; another source is rejected and changes no vote. CLIENT_VOTE makes the vote of a client
follow its condition. HOLD_TIMEOUT reports the domains still voted for. WAKE_BALL outside Run notes source 1 and asks for Run;
PWR_ALARM_EXPIRY ends the alarm and wakes with source 3. THERMAL_REQUEST presents the request of R431, and PWR_PAUSE_WRITE
with DUTY 0 clears it with the debt. -/
def Obligations.VotesAndDeviceStates : Prop :=
  (∀ (s : State) (src : Source) (v : Word), (field F.PWR_STATE_REQ v) < 5 → 
    ∃ t, exec (.stateRequest src v) s = .next t ∧ Only [.regs, .dram, .grp, .pci, .ddr, .pwr, .out] s t ∧
      t.fld R.PWR_STATE F.PWR_STATE_REQ = (field F.PWR_STATE_REQ v) ∧
      ((t.pwr.target = some (field F.PWR_STATE_REQ v) ∧ t.flag R.PWR_STATE F.PWR_STATE_BUSY = true ∧ t.fld R.PWR_STATE F.PWR_STATE_PEND = (field F.PWR_STATE_REQ v)) ∨ (t.pwr.target = none ∧ t.fld R.PWR_STATE F.PWR_STATE_CUR = (field F.PWR_STATE_REQ v) ∧ t.flag R.PWR_STATE F.PWR_STATE_BUSY = false ∧ t.flag R.PWR_ISR F.PWR_ISR_DONE = true))) ∧
  (∀ (s : State) (src : Source) (v : Word), 5 ≤ (field F.PWR_STATE_REQ v) → 
    ∃ t, exec (.stateRequest src v) s = .next t ∧ Only irqParts s t ∧
      t.flag R.PWR_ISR F.PWR_ISR_REJ = true ∧
      RegsBut [R.PWR_ISR] s t) ∧
  (∀ (s : State) (src : Source) (v : Word), 
    ∃ t, exec (.fwvoteWrite src v) s = .next t ∧ Only [.regs, .dram, .grp, .dom, .pci, .ddr, .pwr, .out] s t ∧
      (t = (if (match src with | .core _ => true | _ => false) then s.voteWrite R.PWR_FWVOTE v else s.pwrRej))) ∧
  (∀ (s : State) (k : Fin 4) (v : Word), 
    ∃ t, exec (.fwvoteWrite (.core k) v) s = .next t ∧ Only [.regs, .dram, .grp, .dom, .pci, .ddr, .pwr, .out] s t ∧
      t.reg R.PWR_FWVOTE = v &&& 0x7FF ∧
      t.reg R.PWR_HOSTVOTE = s.reg R.PWR_HOSTVOTE ∧
      t.reg R.PWR_FORCE = s.reg R.PWR_FORCE) ∧
  (∀ (s : State) (v : Word), 
    ∃ t, exec (.fwvoteWrite .host v) s = .next t ∧ Only irqParts s t ∧
      t.flag R.PWR_ISR F.PWR_ISR_REJ = true ∧
      RegsBut [R.PWR_ISR] s t) ∧
  (∀ (s : State) (v : Word), 
    ∃ t, exec (.hostvoteWrite .host v) s = .next t ∧ Only [.regs, .dram, .grp, .dom, .pci, .ddr, .pwr, .out] s t ∧
      t.reg R.PWR_HOSTVOTE = v &&& 0x7FF ∧
      t.reg R.PWR_FWVOTE = s.reg R.PWR_FWVOTE ∧
      t.reg R.PWR_FORCE = s.reg R.PWR_FORCE) ∧
  (∀ (s : State) (src : Source) (v : Word), src ≠ .host → 
    ∃ t, exec (.hostvoteWrite src v) s = .next t ∧ Only irqParts s t ∧
      t.flag R.PWR_ISR F.PWR_ISR_REJ = true ∧
      RegsBut [R.PWR_ISR] s t) ∧
  (∀ (s : State) (v : Word), 
    ∃ t, exec (.pwrForceWrite .host v) s = .next t ∧ Only [.regs, .dram, .grp, .pci, .ddr, .pwr, .out] s t ∧
      t.reg R.PWR_FORCE = v &&& 0x7FF ∧
      t.reg R.PWR_FWVOTE = s.reg R.PWR_FWVOTE ∧
      t.reg R.PWR_HOSTVOTE = s.reg R.PWR_HOSTVOTE) ∧
  (∀ (s : State) (src : Source) (v : Word), src ≠ .host → 
    ∃ t, exec (.pwrForceWrite src v) s = .next t ∧ Only irqParts s t ∧
      t.flag R.PWR_ISR F.PWR_ISR_REJ = true ∧
      RegsBut [R.PWR_ISR] s t) ∧
  (∀ (s : State) (client d : Nat), 2 ≤ client → client < 14 → d = clientDomain client → d < 11 → 
    ∃ t, exec (.clientVote client d) s = .next t ∧ Only [.regs, .dram, .grp, .dom, .pci, .ddr, .pwr, .out] s t ∧
      (t.votesOf client = (if s.clientWants client then 2 ^ clientDomain client else 0)) ∧
      UnitsBut State.votesOf client s t ∧
      t.fld R.PWR_DOM F.PWR_DOM_UP = s.fld R.PWR_DOM F.PWR_DOM_UP) ∧
  (∀ (s : State) (client d : Nat), client < 14 → d < 11 → (d ≠ clientDomain client ∨ client < 2) → 
    ∃ t, exec (.clientVote client d) s = .next t ∧ Only [.regs, .dram, .grp, .dom, .pci, .ddr, .pwr, .out] s t ∧
      t = s) ∧
  (∀ (s : State) (q : Nat), s.pwr.target = some q → 2 ≤ q → s.pwr.timedOut = false → s.pwr.began + s.holdTo ≤ s.time.mt → 
    ∃ t, exec (.holdTimeout) s = .next t ∧ Only [.regs, .dram, .grp, .pci, .ddr, .pwr, .out] s t ∧
      t.fld R.PWR_HOLDER F.PWR_HOLDER_DOM = domainMask s.voted ∧
      t.flag R.PWR_ISR F.PWR_ISR_HOLD = true ∧
      (t.pwr.timedOut = true ∨ t.pwr.target = none)) ∧
  (∀ (s : State), s.pwr.target = none → 1 ≤ s.fld R.PWR_STATE F.PWR_STATE_CUR → s.fld R.PWR_STATE F.PWR_STATE_CUR ≤ 3 → 
    ∃ t, exec (.wakeBall) s = .next t ∧ Only [.regs, .dram, .l2, .shadow, .staged, .readData, .grp, .armUndo, .chan, .srvAx, .srvCh, .srv, .lsr, .hoop, .port, .bulk, .dom, .time, .mot, .fbk, .cam, .pipe, .lgt, .strobe, .lane, .head, .dma, .dmaEng, .pci, .eth, .ddr, .intg, .cal, .pwr, .hk, .cave, .boot, .xbar, .out] s t ∧
      t.pwr.wake = true ∧
      t.fld R.PWR_WAKESRC F.PWR_WAKESRC_SRC = 1 ∧
      ((t.pwr.target = some 0 ∧ t.flag R.PWR_STATE F.PWR_STATE_BUSY = true ∧ t.fld R.PWR_STATE F.PWR_STATE_PEND = 0) ∨ (t.pwr.target = none ∧ t.fld R.PWR_STATE F.PWR_STATE_CUR = 0 ∧ t.flag R.PWR_STATE F.PWR_STATE_BUSY = false ∧ t.flag R.PWR_ISR F.PWR_ISR_DONE = true))) ∧
  (∀ (s : State), s.pwr.target = none → s.fld R.PWR_STATE F.PWR_STATE_CUR = 4 → 
    ∃ t, exec (.wakeBall) s = .next t ∧ Only [.regs, .dram, .l2, .shadow, .staged, .readData, .grp, .armUndo, .chan, .srvAx, .srvCh, .srv, .lsr, .hoop, .port, .bulk, .dom, .time, .mot, .fbk, .cam, .pipe, .lgt, .strobe, .lane, .head, .dma, .dmaEng, .pci, .eth, .ddr, .intg, .cal, .pwr, .hk, .cave, .boot, .xbar, .out] s t ∧
      t.fld R.PWR_WAKESRC F.PWR_WAKESRC_SRC = 1 ∧
      t.fld R.PWR_STATE F.PWR_STATE_CUR = 0 ∧
      t.cave.die = s.cave.die ∧
      t.boot.pk = s.boot.pk ∧
      t.variant = s.variant ∧
      t.time.mt = 0) ∧
  (∀ (s : State) (t0 : Nat), s.pwr.alarmAt = some t0 → t0 ≤ s.time.mt → 
    ∃ t, exec (.pwrAlarmExpiry) s = .next t ∧ Only [.regs, .dram, .grp, .dom, .pci, .ddr, .pwr, .out] s t ∧
      t.pwr.alarmAt = none ∧
      t.reg R.PWR_ALARM = 0 ∧
      (s.wakes [1, 2, 3] = true → t.fld R.PWR_WAKESRC F.PWR_WAKESRC_SRC = 3)) ∧
  (∀ (s : State), 
    ∃ t, exec (.thermalRequest) s = .next t ∧ Only [.grp, .hoop, .port, .pwr] s t ∧
      t.pwr = { s.pwr with thermal := s.thermalDue }) ∧
  (∀ (s : State) (v : Word), field F.PWR_PAUSE_DUTY v = 0 → 
    ∃ t, exec (.pwrPauseWrite v) s = .next t ∧ Only [.regs, .grp, .hoop, .port, .pwr] s t ∧
      t.reg R.PWR_PAUSE = v &&& 0xFFFFFF ∧
      t.grp = { s.grp with debt := 0 } ∧
      t.pwr = { s.pwr with thermal := false } ∧
      RegsBut [R.PWR_PAUSE] s t) ∧
  (∀ (s : State) (v : Word), field F.PWR_PAUSE_DUTY v ≠ 0 → 
    ∃ t, exec (.pwrPauseWrite v) s = .next t ∧ Only [.regs] s t ∧
      t.reg R.PWR_PAUSE = v &&& 0xFFFFFF ∧
      RegsBut [R.PWR_PAUSE] s t)

/-- (R416, R418, R419, R420, R428, R429, R435, R486) DOMAIN_DROP of a domain that is no longer wanted, when no earlier drop is
due, leaves it down with PWREN low. DOMAIN_RAISE of a wanted domain asks for its credits, and with both granted starts its PLL
and takes PWREN high; DOMAIN_UP ends the raise with the domain up. PGOOD_TIMEOUT of a raise and PGOOD_LOSS of at least 2 us of
a domain that is up latch it off with PGERR. BUDGET_GRANT gives the oldest request that is not set aside its credits when it
fits. SHUTDOWN_DOMAIN_DROP 25,000 ticks into thermal shutdown takes every domain and every PWREN down. -/
def Obligations.DomainsAndBudgets : Prop :=
  (∀ (s : State) (d : Nat), d < 11 → s.dropDue d = true → (before d dropOrder).any s.dropDue = false → 
    ∃ t, exec (.domainDrop d) s = .next t ∧ Only [.regs, .dram, .l2, .grp, .armUndo, .chan, .srvAx, .srvCh, .srv, .lsr, .hoop, .port, .dom, .mot, .fbk, .cam, .pipe, .lgt, .strobe, .lane, .head, .dma, .dmaEng, .pci, .eth, .ddr, .intg, .pwr, .cave, .boot, .xbar, .free, .out] s t ∧
      t.up d = false ∧
      bitAt t.pwr.pwren d = false ∧
      bitAt t.pwr.pgood d = false ∧
      t.raising d = (0, 0) ∧
      (∀ k ∈ List.range 11, k ≠ d → t.up k = s.up k)) ∧
  (∀ (s : State) (d : Nat), d < 11 → s.wanted d = true → s.up d = false → s.raising d = (0, 0) → (List.range 11).any s.dropDue = false → (before d raiseOrder).any s.raiseDue = false → s.fld (R.PWR_DOM_BUD d) F.PWR_DOM_BUD_CORE ≠ 0 → s.fld (R.PWR_DOM_BUD d) F.PWR_DOM_BUD_PKG ≠ 0 → 
    ∃ t, exec (.domainRaise d) s = .next t ∧ Only [.regs, .pci, .pwr, .out] s t ∧
      t.raising d = (1, 0) ∧
      t.waits 0 (raiseReq d) = true ∧
      t.waits 1 (raiseReq d) = true ∧
      t.up d = false ∧
      t.pwr.pwren = s.pwr.pwren) ∧
  (∀ (s : State) (d since : Nat), d < 11 → s.wanted d = true → s.up d = false → s.raising d = (1, since) → s.waits 0 (raiseReq d) = false → s.waits 1 (raiseReq d) = false → 
    ∃ t, exec (.domainRaise d) s = .next t ∧ Only [.regs, .pci, .pwr, .out] s t ∧
      t.raising d = (2, s.time.mt) ∧
      bitAt t.pwr.pwren d = true ∧
      t.pwr.plls = s.pwr.plls ||| 1 ||| domainPll d ∧
      RegsBut [] s t) ∧
  (∀ (s : State) (d failed : Nat), d < 11 → (s.raising d).1 = 2 → 
    ∃ t, exec (.domainUp ⟨d, failed⟩) s = .next t ∧ Only [.regs, .dram, .grp, .lane, .pci, .ddr, .intg, .pwr, .cave, .boot, .free, .out] s t ∧
      t.up d = true ∧
      bitAt t.pwr.pgood d = true ∧
      t.raising d = (0, 0) ∧
      (∀ k ∈ List.range 11, k ≠ d → t.up k = s.up k)) ∧
  (∀ (s : State) (failed : Nat), bitAt s.pwr.pwren 11 = true → 
    ∃ t, exec (.domainUp ⟨11, failed⟩) s = .next t ∧ Only [.regs, .dram, .grp, .lane, .pci, .ddr, .intg, .pwr, .cave, .boot, .free, .out] s t ∧
      bitAt t.pwr.pgood 11 = true ∧
      RegsBut [] s t) ∧
  (∀ (s : State) (d : Nat), d < 11 → (s.raising d).1 = 2 → (s.raising d).2 + s.pgoodTo ≤ s.time.mt → 
    ∃ t, exec (.pgoodTimeout d) s = .next t ∧ Only [.regs, .dram, .l2, .grp, .armUndo, .chan, .srvAx, .srvCh, .srv, .lsr, .hoop, .port, .dom, .mot, .fbk, .cam, .pipe, .lgt, .strobe, .lane, .head, .dma, .dmaEng, .pci, .eth, .ddr, .intg, .pwr, .cave, .boot, .xbar, .free, .out] s t ∧
      t.up d = false ∧
      bitAt t.pwr.pwren d = false ∧
      bitAt t.pwr.pgood d = false ∧
      t.raising d = (0, 0) ∧
      bitAt (t.fld R.PWR_PGERR F.PWR_PGERR_FAIL) d = true ∧
      t.flag R.PWR_ISR F.PWR_ISR_PGERR = true) ∧
  (∀ (s : State) (d low : Nat), d < 11 → s.up d = true → 2000 ≤ low → 
    ∃ t, exec (.pgoodLoss ⟨d, low⟩) s = .next t ∧ Only [.regs, .dram, .l2, .grp, .armUndo, .chan, .srvAx, .srvCh, .srv, .lsr, .hoop, .port, .dom, .mot, .fbk, .cam, .pipe, .lgt, .strobe, .lane, .head, .dma, .dmaEng, .pci, .eth, .ddr, .intg, .pwr, .cave, .boot, .xbar, .free, .out] s t ∧
      t.up d = false ∧
      bitAt t.pwr.pwren d = false ∧
      bitAt t.pwr.pgood d = false ∧
      t.raising d = (0, 0) ∧
      bitAt (t.fld R.PWR_PGERR F.PWR_PGERR_FAIL) d = true ∧
      t.flag R.PWR_ISR F.PWR_ISR_PGERR = true) ∧
  (∀ (s : State) (d low : Nat), d < 12 → low < 2000 → 
    ∃ t, exec (.pgoodLoss ⟨d, low⟩) s = .next t ∧ Only [.regs, .dram, .l2, .grp, .armUndo, .chan, .srvAx, .srvCh, .srv, .lsr, .hoop, .port, .dom, .mot, .fbk, .cam, .pipe, .lgt, .strobe, .lane, .head, .dma, .dmaEng, .pci, .eth, .ddr, .intg, .pwr, .cave, .boot, .xbar, .free, .out] s t ∧
      t = s) ∧
  (∀ (s : State) (low : Nat), bitAt s.pwr.pgood 11 = true → 2000 ≤ low → 
    ∃ t, exec (.pgoodLoss ⟨11, low⟩) s = .next t ∧ Only [.regs, .dram, .l2, .grp, .armUndo, .chan, .srvAx, .srvCh, .srv, .lsr, .hoop, .port, .dom, .mot, .fbk, .cam, .pipe, .lgt, .strobe, .lane, .head, .dma, .dmaEng, .pci, .eth, .ddr, .intg, .pwr, .cave, .boot, .xbar, .free, .out] s t ∧
      bitAt t.pwr.pwren 11 = false ∧
      bitAt t.pwr.pgood 11 = false ∧
      t.up dDDR = false ∧
      bitAt (t.fld R.PWR_PGERR F.PWR_PGERR_FAIL) 11 = true ∧
      t.flag R.PWR_ISR F.PWR_ISR_PGERR = true) ∧
  (∀ (s : State) (b : Nat) (r : BudReq) (rest : List BudReq), (b = 0 ∨ b = 1) → 32 ≤ r.who → nextBudReq (s.waiting b) = some (r, rest) → r.amount ≤ s.budLimit b → s.grantedSum b + r.amount ≤ s.budLimit b → 
    ∃ t, exec (.budgetGrant b) s = .next t ∧ Only [.regs, .lgt, .pci, .pwr, .out] s t ∧
      t.granted b r.who = s.granted b r.who + r.amount ∧
      t.waiting b = rest ∧
      RegsBut [R.PWR_BUD_USE b, R.PWR_BUD_STAT b] s t) ∧
  (∀ (s : State) (k : Nat) (r : BudReq) (rest : List BudReq), k < 4 → r.who = 16 + k → nextBudReq (s.waiting 3) = some (r, rest) → r.amount ≤ s.budLimit 3 → s.grantedSum 3 + r.amount ≤ s.budLimit 3 → 
    ∃ t, exec (.budgetGrant 3) s = .next t ∧ Only [.regs, .lgt, .pci, .pwr, .out] s t ∧
      t.granted 3 r.who = s.granted 3 r.who + r.amount ∧
      t.waiting 3 = rest ∧
      t.flag (R.LGT_STB_STAT k) F.LGT_STB_STAT_READY = true) ∧
  (∀ (s : State) (t0 : Nat), s.hk.shutAt = some t0 → t0 + ticksU 25000 ≤ s.time.mt → s.pwr.pwren ≠ 0 → 
    ∃ t, exec (.shutdownDomainDrop) s = .next t ∧ Only [.regs, .dram, .l2, .grp, .armUndo, .chan, .srvAx, .srvCh, .srv, .lsr, .hoop, .port, .dom, .mot, .fbk, .cam, .pipe, .lgt, .strobe, .lane, .head, .dma, .dmaEng, .pci, .eth, .ddr, .intg, .pwr, .cave, .boot, .xbar, .free, .out] s t ∧
      t.fld R.PWR_DOM F.PWR_DOM_UP = 0 ∧
      t.pwr.pwren = 0 ∧
      t.pwr.pgood = 0 ∧
      t.pwr.target = none ∧
      t.dram = [])

/-- (R433, R434, R435, R436) HOUSEKEEPING_ROUND that is due outside Off counts the round and sets ROUND. A sound reading of a
sensor that has not failed is shown with VALID; a sensor without a reading is failed, with VALID clear and SENSOR set. A
package sensor at 125 degrees C in a second round in a row begins thermal shutdown: SHUTDOWN, SAFE_N low. A sink-bank sensor
that does so alone sets the bit of its bank and SINKSHUT, and no shutdown begins. -/
def Obligations.HousekeepingRounds : Prop :=
  (∀ (s : State) (r : HkReadings) (i : Nat) (x : Int), s.fld R.PWR_STATE F.PWR_STATE_CUR ≠ 4 → (s.hk.roundAt = 0 ∨ s.hk.roundAt - 1 + nsU 1024000 ≤ s.time.mt) → i < 40 → nth r.temps i none = some x → -640 ≤ x → x ≤ 2400 → s.sensorFailed i = false → 
    ∃ t, exec (.housekeepingRound r) s = .next t ∧ Only [.regs, .dram, .grp, .chan, .srvAx, .srvCh, .lsr, .hoop, .port, .pci, .ddr, .pwr, .hk, .cave, .boot, .xbar, .out] s t ∧
      t.sfld (R.HK_TEMP i) F.HK_TEMP_T = x ∧
      t.flag (R.HK_TEMP i) F.HK_TEMP_VALID = true ∧
      t.reg R.HK_ROUND = s.reg R.HK_ROUND + 1 ∧
      t.flag R.HK_ISR F.HK_ISR_ROUND = true ∧
      t.hk.roundAt = s.time.mt + 1) ∧
  (∀ (s : State) (r : HkReadings) (i : Nat), s.fld R.PWR_STATE F.PWR_STATE_CUR ≠ 4 → (s.hk.roundAt = 0 ∨ s.hk.roundAt - 1 + nsU 1024000 ≤ s.time.mt) → i < 40 → nth r.temps i none = none → s.sensorFailed i = false → 
    ∃ t, exec (.housekeepingRound r) s = .next t ∧ Only [.regs, .dram, .grp, .chan, .srvAx, .srvCh, .lsr, .hoop, .port, .pci, .ddr, .pwr, .hk, .cave, .boot, .xbar, .out] s t ∧
      t.sensorFailed i = true ∧
      t.flag (R.HK_TEMP i) F.HK_TEMP_VALID = false ∧
      t.flag R.HK_ISR F.HK_ISR_SENSOR = true ∧
      t.reg R.HK_ROUND = s.reg R.HK_ROUND + 1) ∧
  (∀ (s : State) (r : HkReadings) (i : Nat) (x : Int), s.fld R.PWR_STATE F.PWR_STATE_CUR ≠ 4 → (s.hk.roundAt = 0 ∨ s.hk.roundAt - 1 + nsU 1024000 ≤ s.time.mt) → i < 36 → nth r.temps i none = some x → 2000 ≤ x → x ≤ 2400 → s.sensorFailed i = false → bitAt s.hk.above i = true → s.hk.shutAt = none → 
    ∃ t, exec (.housekeepingRound r) s = .next t ∧ Only [.regs, .dram, .grp, .chan, .srvAx, .srvCh, .lsr, .hoop, .port, .pci, .ddr, .pwr, .hk, .cave, .boot, .xbar, .out] s t ∧
      t.hk.shutAt = some s.time.mt ∧
      t.ssc = 3 ∧
      t.boot.safeN = false ∧
      t.boot.faultN = false ∧
      t.gates = 0) ∧
  (∀ (s : State) (x : Int) (i : Nat), s.fld R.PWR_STATE F.PWR_STATE_CUR ≠ 4 → (s.hk.roundAt = 0 ∨ s.hk.roundAt - 1 + nsU 1024000 ≤ s.time.mt) → 36 ≤ i → i < 40 → 2000 ≤ x → x ≤ 2400 → s.sensorFailed i = false → bitAt s.hk.above i = true → s.hk.shutAt = none → 
    ∃ t, exec (.housekeepingRound ⟨List.replicate i none ++ [some x], [], []⟩) s = .next t ∧ Only [.regs, .dram, .grp, .chan, .srvAx, .srvCh, .lsr, .hoop, .port, .pci, .ddr, .pwr, .hk, .cave, .boot, .xbar, .out] s t ∧
      t.hk.shutAt = none ∧
      t.flag R.PWR_THERM F.PWR_THERM_SINKSHUT = true ∧
      bitAt (t.fld R.PWR_THERM F.PWR_THERM_BANKS) (i - 36) = true ∧
      t.ssc = s.ssc)

/-- (R440, R441, R445, R446, R447, R448, R449, R450) CAVE_RECORD_WRITE writes the oldest record of the critical stage, and with
that stage empty and nothing held back the oldest of the queue, into the slot of the next SEQ, and no other slot.
CAVE_SCAN_DONE sets READY, and the newest record is the power-up record. CAVE_POST of a code from 0x8000 queues the record of
its source. CAVE_FREEZE notes the next SEQ and holds the queue; CAVE_READ_FETCH and CAVE_FETCH_DONE show the record of an age;
CAVE_UNFREEZE lifts the freeze. -/
def Obligations.CaveRecorder : Prop :=
  (∀ (s : State) (r : CaveRec) (rest : List CaveRec), s.flag R.CAVE_STAT F.CAVE_STAT_READY = true → s.cave.clearRec = none → s.cave.crit = r :: rest → 
    ∃ t, exec (.caveRecordWrite) s = .next t ∧ Only [.regs, .pci, .cave, .out] s t ∧
      t.slotBytes (s.slotOf s.cave.nextSeq) = r.bytes s.epoch s.cave.nextSeq ∧
      UnitsBut State.slotBytes (s.slotOf s.cave.nextSeq) s t ∧
      t.cave.crit = rest ∧
      t.cave.queue = s.cave.queue ∧
      t.cave.nextSeq = s.cave.nextSeq + 1 ∧
      t.reg R.CAVE_HEAD_LO = BitVec.ofNat 32 s.cave.nextSeq) ∧
  (∀ (s : State) (r : CaveRec) (rest : List CaveRec), s.flag R.CAVE_STAT F.CAVE_STAT_READY = true → s.cave.clearRec = none → s.cave.crit = [] → s.caveHeld = false → s.cave.queue = r :: rest → r.crit = false → s.fld R.CAVE_LOST F.CAVE_LOST_COUNT = 0 → 
    ∃ t, exec (.caveRecordWrite) s = .next t ∧ Only [.cave, .regs] s t ∧
      t.slotBytes (s.slotOf s.cave.nextSeq) = r.bytes s.epoch s.cave.nextSeq ∧
      UnitsBut State.slotBytes (s.slotOf s.cave.nextSeq) s t ∧
      t.cave = { s.cave with queue := rest, die := t.cave.die, nextSeq := s.cave.nextSeq + 1 } ∧
      RegsBut [R.CAVE_HEAD_LO, R.CAVE_HEAD_HI] s t) ∧
  (∀ (s : State), s.flag R.CAVE_STAT F.CAVE_STAT_READY = false → 
    ∃ t, exec (.caveScanDone) s = .next t ∧ Only [.regs, .pci, .cave, .out] s t ∧
      t.flag R.CAVE_STAT F.CAVE_STAT_READY = true ∧
      t.flag R.CAVE_ISR F.CAVE_ISR_READY = true ∧
      1 ≤ t.cave.nextSeq ∧
      recCode (t.slotBytes (t.slotOf (t.cave.nextSeq - 1))) = 1 ∧
      t.cave.queue = s.cave.queue ∧
      t.cave.crit = s.cave.crit) ∧
  (∀ (s : State) (src : Source) (v : Word), 0x8000 ≤ field F.CAVE_WR_CODE_CODE v → field F.CAVE_WR_CODE_POST v = 1 → s.cave.queue.length < 64 → 
    ∃ t, exec (.cavePost src v) s = .next t ∧ Only [.regs, .cave] s t ∧
      t.cave = { s.cave with queue := s.cave.queue ++ [s.caveRec (field F.CAVE_WR_CODE_CODE v) false 0 (srcCode src) 0xFF (s.regBytes (R.CAVE_WR_PAY 0) 7)] } ∧
      RegsBut [R.CAVE_WR_CODE] s t) ∧
  (∀ (s : State) (src : Source) (v : Word), 0x8000 ≤ field F.CAVE_WR_CODE_CODE v → field F.CAVE_WR_CODE_POST v = 1 → 64 ≤ s.cave.queue.length → 
    ∃ t, exec (.cavePost src v) s = .next t ∧ Only irqParts s t ∧
      t.cave = s.cave ∧
      t.fld (R.CAVE_LOST) F.CAVE_LOST_COUNT = min (s.fld (R.CAVE_LOST) F.CAVE_LOST_COUNT + 1) (2 ^ F.CAVE_LOST_COUNT.width - 1) ∧
      t.flag R.CAVE_ISR F.CAVE_ISR_LOST = true ∧
      RegsBut [R.CAVE_WR_CODE, R.CAVE_LOST, R.CAVE_ISR] s t) ∧
  (∀ (s : State) (src : Source) (v : Word), field F.CAVE_WR_CODE_CODE v < 0x8000 → 
    ∃ t, exec (.cavePost src v) s = .next t ∧ Only irqParts s t ∧
      t.flag R.CAVE_ISR F.CAVE_ISR_REJ = true ∧
      RegsBut [R.CAVE_ISR] s t) ∧
  (∀ (s : State), s.flag R.CAVE_STAT F.CAVE_STAT_FROZEN = false → 
    ∃ t, exec (.caveFreeze) s = .next t ∧ Only [.regs, .cave] s t ∧
      t.flag R.CAVE_STAT F.CAVE_STAT_FROZEN = true ∧
      t.caveHeld = true ∧
      (t.cave = { s.cave with frzSeq := s.cave.nextSeq, queue := s.cave.queue.map fun r => { r with queued := true } }) ∧
      t.reg R.CAVE_FRZ = BitVec.ofNat 32 s.validCount ∧
      RegsBut [R.CAVE_FRZ, R.CAVE_STAT, R.CAVE_CTL] s t) ∧
  (∀ (s : State), 
    ∃ t, exec (.caveUnfreeze) s = .next t ∧ Only [.regs, .cave] s t ∧
      t.flag R.CAVE_STAT F.CAVE_STAT_FROZEN = false ∧
      t.cave = { s.cave with fetch := none } ∧
      t.flag R.CAVE_RD_STAT F.CAVE_RD_STAT_BUSY = false ∧
      RegsBut [R.CAVE_STAT, R.CAVE_CTL, R.CAVE_RD_STAT] s t) ∧
  (∀ (s : State) (v : Word), s.flag R.CAVE_STAT F.CAVE_STAT_FROZEN = true → 
    ∃ t, exec (.caveReadFetch v) s = .next t ∧ Only [.regs, .pci, .cave, .out] s t ∧
      t.cave = { s.cave with fetch := some (field F.CAVE_RD_AGE_AGE v) } ∧
      t.flag R.CAVE_RD_STAT F.CAVE_RD_STAT_BUSY = true ∧
      RegsBut [R.CAVE_RD_AGE, R.CAVE_RD_STAT] s t) ∧
  (∀ (s : State) (v : Word), s.flag R.CAVE_STAT F.CAVE_STAT_FROZEN = false → 
    ∃ t, exec (.caveReadFetch v) s = .next t ∧ Only irqParts s t ∧
      t.flag R.CAVE_ISR F.CAVE_ISR_REJ = true ∧
      RegsBut [R.CAVE_ISR] s t) ∧
  (∀ (s : State) (age : Nat), s.cave.fetch = some age → 
    ∃ t, exec (.caveFetchDone) s = .next t ∧ Only [.regs, .cave] s t ∧
      t.regBytes (R.CAVE_RD_DATA 0) 16 = s.slotBytes ((s.cave.base + s.cave.frzSeq + 2 * slots - 1 - age) % slots) ∧
      t.cave = { s.cave with fetch := none } ∧
      t.flag R.CAVE_RD_STAT F.CAVE_RD_STAT_BUSY = false ∧
      t.flag R.CAVE_RD_STAT F.CAVE_RD_STAT_VALID = s.slotValid ((s.cave.base + s.cave.frzSeq + 2 * slots - 1 - age) % slots) ∧
      RegsIn (R.CAVE_RD_STAT) (R.CAVE_RD_DATA 16) s t)

/-- (R451, R452, R453) CAVE_PROVISION stores a key that is not zero once, and hides its registers; with KEYSET it is rejected.
CHALLENGE starts a challenge now, CHALLENGE_EXPIRY ends it. CLEAR consumes the challenge; one that R452 accepts sets CLEARING
with its record waiting, one that it refuses is counted with its code and posts a record. The write of the waiting record
commits the clear: the next epoch begins with it at SEQ 0. CAVE_CLEAR_DONE leaves records of the present epoch and zeros every
other slot. -/
def Obligations.CaveClearAndKey : Prop :=
  (∀ (s : State), s.flag R.CAVE_STAT F.CAVE_STAT_KEYSET = false → s.regBytes (R.CAVE_KEY 0) 8 ≠ zeros 32 → 
    ∃ t, exec (.caveProvision) s = .next t ∧ Only [.regs, .pci, .cave, .out] s t ∧
      t.cave = { s.cave with key := s.regBytes (R.CAVE_KEY 0) 8 } ∧
      t.regBytes (R.CAVE_KEY 0) 8 = zeros 32 ∧
      t.flag R.CAVE_STAT F.CAVE_STAT_KEYSET = true) ∧
  (∀ (s : State), s.flag R.CAVE_STAT F.CAVE_STAT_KEYSET = true → 
    ∃ t, exec (.caveProvision) s = .next t ∧ Only irqParts s t ∧
      t.flag R.CAVE_ISR F.CAVE_ISR_REJ = true ∧
      RegsBut [R.CAVE_ISR] s t) ∧
  (∀ (s : State), 
    ∃ t, exec (.challenge) s = .next t ∧ Only [.regs, .cave, .free] s t ∧
      t.cave = { s.cave with chalAt := some s.time.mt } ∧
      RegsIn (R.CAVE_CHAL 0) (R.CAVE_CHAL 8) s t) ∧
  (∀ (s : State) (t0 : Nat), s.cave.chalAt = some t0 → t0 + challengeU ≤ s.time.mt → 
    ∃ t, exec (.challengeExpiry) s = .next t ∧ Only [.cave] s t ∧
      t.cave = { s.cave with chalAt := none } ∧
      RegsBut [] s t) ∧
  (∀ (s : State) (src : Source), s.clearCode = 0 → 
    ∃ t, exec (.clear src) s = .next t ∧ Only [.regs, .pci, .cave, .out] s t ∧
      t.cave.chalAt = none ∧
      t.flag R.CAVE_STAT F.CAVE_STAT_CLEARING = true ∧
      t.fld R.CAVE_CLR_STAT F.CAVE_CLR_STAT_CODE = 1 ∧
      ((t.cave.clearRec.map fun r => (r.code, r.crit)) = some (0x000D, true)) ∧
      t.cave.die = s.cave.die ∧
      RegsBut [R.CAVE_CLR_STAT, R.CAVE_STAT] s t) ∧
  (∀ (s : State) (src : Source), s.clearCode ≠ 0 → s.cave.queue.length < 64 → 
    ∃ t, exec (.clear src) s = .next t ∧ Only [.regs, .pci, .cave, .out] s t ∧
      t.cave.chalAt = none ∧
      t.cave.refusedAt = some s.time.mt ∧
      t.fld R.CAVE_CLR_STAT F.CAVE_CLR_STAT_CODE = s.clearCode ∧
      t.fld (R.CAVE_CLR_STAT) F.CAVE_CLR_STAT_FAILS = min (s.fld (R.CAVE_CLR_STAT) F.CAVE_CLR_STAT_FAILS + 1) (2 ^ F.CAVE_CLR_STAT_FAILS.width - 1) ∧
      t.flag R.CAVE_ISR F.CAVE_ISR_CLEARFAIL = true ∧
      t.cave.queue.map (·.code) = s.cave.queue.map (·.code) ++ [0x000E] ∧
      t.cave.die = s.cave.die ∧
      RegsBut [R.CAVE_CLR_STAT, R.CAVE_ISR] s t) ∧
  (∀ (s : State) (r : CaveRec), s.flag R.CAVE_STAT F.CAVE_STAT_READY = true → s.cave.clearRec = some r → s.epoch < 0xFFFF → 
    ∃ t, exec (.caveRecordWrite) s = .next t ∧ Only [.regs, .pci, .cave, .out] s t ∧
      t.cave.clearRec = none ∧
      t.epoch = s.epoch + 1 ∧
      t.cave.nextSeq = 1 ∧
      t.cave.base = s.slotOf s.cave.nextSeq ∧
      t.slotBytes (s.slotOf s.cave.nextSeq) = r.bytes (s.epoch + 1) 0 ∧
      UnitsBut State.slotBytes (s.slotOf s.cave.nextSeq) s t) ∧
  (∀ (s : State) (k : Nat), s.flag R.CAVE_STAT F.CAVE_STAT_CLEARING = true → s.cave.clearRec = none → k < slots → 
    ∃ t, exec (.caveClearDone) s = .next t ∧ Only [.regs, .pci, .cave, .out] s t ∧
      (t.slotBytes k = (if s.slotValid k then s.slotBytes k else zeros 64)) ∧
      t.flag R.CAVE_STAT F.CAVE_STAT_CLEARING = false ∧
      t.flag R.CAVE_ISR F.CAVE_ISR_CLEARED = true ∧
      RegsBut [R.CAVE_STAT, R.CAVE_ISR] s t)

/-- (R443, R447, R456, R462, R463, R480) PORN brings the part to its reset state, but for the Cave's die, the keys in OTP and
inputs held outside. SYSRST_N and SOFTWARE_WARM_RESET with 0xA5 set their reset cause, take every gate low, forget the
channels and the contents of DRAM, open the supervision window anew and leave the Cave's die, the keys and machine time as
they were; another code is rejected. VDD_AON_LOSS leaves the slot of a write in progress without a matching CRC and every
other slot as it was. EXTEST sets the latch with every gate low; XTAL32_SWITCH selects the crystal. -/
def Obligations.DeviceResets : Prop :=
  (∀ (s : State), 
    ∃ t, exec (.porn) s = .next t ∧ Only [.regs, .dram, .l2, .shadow, .staged, .readData, .grp, .armUndo, .chan, .srvAx, .srvCh, .srv, .lsr, .hoop, .port, .bulk, .dom, .time, .mot, .fbk, .cam, .pipe, .lgt, .strobe, .lane, .head, .dma, .dmaEng, .pci, .eth, .ddr, .intg, .cal, .pwr, .hk, .cave, .boot, .xbar] s t ∧
      t.cave.die = s.cave.die ∧
      t.cave.key = s.cave.key ∧
      t.boot.pk = s.boot.pk ∧
      t.variant = s.variant ∧
      RegsBut [R.BOOT_STAT, R.CAVE_STAT] State.reset t ∧
      t.time = State.reset.time ∧
      t.pending = s.pending ∧
      t.grp = State.reset.grp ∧
      t.dram = [] ∧
      t.hk = State.reset.hk ∧
      t.intg = State.reset.intg) ∧
  (∀ (s : State), 
    ∃ t, exec (.sysrstN) s = .next t ∧ Only [.regs, .dram, .l2, .shadow, .staged, .grp, .armUndo, .chan, .srvAx, .srvCh, .srv, .lsr, .hoop, .port, .bulk, .dom, .time, .mot, .fbk, .cam, .pipe, .lgt, .strobe, .lane, .head, .dma, .dmaEng, .pci, .eth, .ddr, .intg, .cal, .pwr, .cave, .boot, .xbar, .free, .out] s t ∧
      t.cave.die = s.cave.die ∧
      t.cave.key = s.cave.key ∧
      t.boot.pk = s.boot.pk ∧
      t.variant = s.variant ∧
      t.gates = 0 ∧
      t.chan = [] ∧
      t.dram = [] ∧
      (t.ssc = (if s.ssc = 3 then 3 else 0)) ∧
      t.boot.safeN = false ∧
      t.time = { s.time with ppsOut := false } ∧
      (t.fld R.BOOT_RSTCAUSE F.BOOT_RSTCAUSE_KIND = (if s.boot.warmUntil.isSome then 2 else 1)) ∧
      t.boot.sysrst = true ∧
      t.boot.warmUntil = none) ∧
  (∀ (s : State) (v : Word), field F.BOOT_RST_CMD v = 0xA5 → 
    ∃ t, exec (.softwareWarmReset v) s = .next t ∧ Only [.regs, .dram, .l2, .shadow, .staged, .grp, .armUndo, .chan, .srvAx, .srvCh, .srv, .lsr, .hoop, .port, .bulk, .dom, .time, .mot, .fbk, .cam, .pipe, .lgt, .strobe, .lane, .head, .dma, .dmaEng, .pci, .eth, .ddr, .intg, .cal, .pwr, .cave, .boot, .xbar, .free, .out] s t ∧
      t.cave.die = s.cave.die ∧
      t.cave.key = s.cave.key ∧
      t.boot.pk = s.boot.pk ∧
      t.variant = s.variant ∧
      t.gates = 0 ∧
      t.chan = [] ∧
      t.dram = [] ∧
      (t.ssc = (if s.ssc = 3 then 3 else 0)) ∧
      t.boot.safeN = false ∧
      t.time = { s.time with ppsOut := false } ∧
      t.fld R.BOOT_RSTCAUSE F.BOOT_RSTCAUSE_KIND = 2 ∧
      t.boot.warmUntil = some (s.time.mt + ticksU 1250)) ∧
  (∀ (s : State) (v : Word), field F.BOOT_RST_CMD v ≠ 0xA5 → 
    ∃ t, exec (.softwareWarmReset v) s = .next t ∧ Only irqParts s t ∧
      t.flag R.BOOT_ISR F.BOOT_ISR_REJ = true ∧
      RegsBut [R.BOOT_ISR] s t) ∧
  (∀ (s : State), 
    ∃ t, exec (.xtal32Switch) s = .next t ∧ Only [.boot] s t ∧
      t.boot = { s.boot with xtal := true } ∧
      RegsBut [] s t) ∧
  (∀ (s : State), 
    ∃ t, exec (.extest) s = .next t ∧ Only [.regs, .dram, .grp, .lsr, .pci, .ddr, .cave, .boot, .out] s t ∧
      t.boot = { s.boot with extest := true } ∧
      t.latched = true ∧
      t.gates = 0 ∧
      bitAt (t.fld R.LSR_EMS F.LSR_EMS_CAUSE) 1 = true) ∧
  (∀ (s : State), s.caveWriting = true → 
    ∃ t, exec (.vddAonLoss) s = .next t ∧ Only [.regs, .dram, .l2, .shadow, .staged, .readData, .grp, .armUndo, .chan, .srvAx, .srvCh, .srv, .lsr, .hoop, .port, .bulk, .dom, .time, .mot, .fbk, .cam, .pipe, .lgt, .strobe, .lane, .head, .dma, .dmaEng, .pci, .eth, .ddr, .intg, .cal, .pwr, .hk, .cave, .boot, .xbar, .free] s t ∧
      recCrcOk (t.slotBytes (s.slotOf s.cave.nextSeq)) = false ∧
      UnitsBut State.slotBytes (s.slotOf s.cave.nextSeq) s t ∧
      t.cave.key = s.cave.key ∧
      t.boot.porn = true) ∧
  (∀ (s : State), s.caveWriting = false → 
    ∃ t, exec (.vddAonLoss) s = .next t ∧ Only [.regs, .dram, .l2, .shadow, .staged, .readData, .grp, .armUndo, .chan, .srvAx, .srvCh, .srv, .lsr, .hoop, .port, .bulk, .dom, .time, .mot, .fbk, .cam, .pipe, .lgt, .strobe, .lane, .head, .dma, .dmaEng, .pci, .eth, .ddr, .intg, .cal, .pwr, .hk, .cave, .boot, .xbar, .free] s t ∧
      t.cave.die = s.cave.die ∧
      t.cave.key = s.cave.key ∧
      t.boot.pk = s.boot.pk ∧
      t.variant = s.variant ∧
      t.boot.porn = true ∧
      t.time = State.reset.time)

/-- (R457, R458, R459, R460, R461, R464, R465, R466, R467, R468) BOOT runs a sound slot A, else a sound slot B, and with neither
waits in HOSTLOAD with both codes. STAGING_WRITE stores in HOSTLOAD alone; BOOT_GO runs a sound staged image or reports its
code. BOOT_PROVISION stores a key once. A good KICK opens a new window and ends START; a bad one counts, the eighth in a row
in SUPERVISE enters SAFE, as do a window that ends, SAFE_ENTER with the cause of its source and XTAL_LOSS: SAFE_N and FAULT_N
low, the latch set, every gate low. SAFE_N_TOGGLE moves SAFE_N 16 cycles after its last edge. -/
def Obligations.BootAndSafeState : Prop :=
  (∀ (s : State) (slotA slotB : Option (List Byte)), s.fld R.BOOT_STAT F.BOOT_STAT_STAGE = 0 → s.up dMGMT = true → s.slotCode slotA = 0 → 
    ∃ t, exec (.boot slotA slotB) s = .next t ∧ Only [.regs, .dram, .l2, .grp, .dom, .pci, .ddr, .pwr, .out] s t ∧
      (t = s.runImage 0 fun off n => padTo n ((slotA.getD []).drop off)) ∧
      t.fld R.BOOT_STAT F.BOOT_STAT_STAGE = 2 ∧
      t.fld R.BOOT_STAT F.BOOT_STAT_SLOT = 0 ∧
      t.flag R.BOOT_ISR F.BOOT_ISR_BOOTED = true ∧
      t.flag R.BOOT_STAT F.BOOT_STAT_UNSIGNED = !s.flag R.BOOT_STAT F.BOOT_STAT_KEYSET) ∧
  (∀ (s : State) (slotA slotB : Option (List Byte)) (b : List Byte), s.fld R.BOOT_STAT F.BOOT_STAT_STAGE = 0 → s.up dMGMT = true → slotA = some b → s.slotCode slotA = 0 → 
    ∃ t, exec (.boot slotA slotB) s = .next t ∧ Only [.regs, .dram, .l2, .grp, .dom, .pci, .ddr, .pwr, .out] s t ∧
      t.l2 = padTo (leAt b 8 4) (b.drop 128)) ∧
  (∀ (s : State) (slotA slotB : Option (List Byte)), s.fld R.BOOT_STAT F.BOOT_STAT_STAGE = 0 → s.up dMGMT = true → s.slotCode slotA ≠ 0 → s.slotCode slotB = 0 → 
    ∃ t, exec (.boot slotA slotB) s = .next t ∧ Only [.regs, .dram, .l2, .grp, .dom, .pci, .ddr, .pwr, .out] s t ∧
      t.fld R.BOOT_STAT F.BOOT_STAT_STAGE = 2 ∧
      t.fld R.BOOT_STAT F.BOOT_STAT_SLOT = 1 ∧
      t.fld R.BOOT_STAT F.BOOT_STAT_FAILA = s.slotCode slotA ∧
      t.flag R.BOOT_ISR F.BOOT_ISR_BOOTED = true) ∧
  (∀ (s : State) (slotA slotB : Option (List Byte)), s.fld R.BOOT_STAT F.BOOT_STAT_STAGE = 0 → s.up dMGMT = true → s.slotCode slotA ≠ 0 → s.slotCode slotB ≠ 0 → 
    ∃ t, exec (.boot slotA slotB) s = .next t ∧ Only [.regs, .dram, .l2, .grp, .dom, .pci, .ddr, .pwr, .out] s t ∧
      t.fld R.BOOT_STAT F.BOOT_STAT_STAGE = 3 ∧
      t.fld R.BOOT_STAT F.BOOT_STAT_FAILA = s.slotCode slotA ∧
      t.fld R.BOOT_STAT F.BOOT_STAT_FAILB = s.slotCode slotB ∧
      t.flag R.BOOT_ISR F.BOOT_ISR_BOOTFAIL = true ∧
      bitAt (t.fld R.PWR_FWVOTE F.PWR_FWVOTE_DOM) dHOST = true) ∧
  (∀ (s : State) (addr : Nat) (v : Word), stagingBase ≤ addr → addr < stagingBase + stagingSize → addr % 4 = 0 → s.fld R.BOOT_STAT F.BOOT_STAT_STAGE = 3 → 
    ∃ t, exec (.stagingWrite addr v) s = .next t ∧ Only [.regs] s t ∧
      t.reg addr = v ∧
      RegsBut [addr] s t) ∧
  (∀ (s : State) (addr : Nat) (v : Word), stagingBase ≤ addr → addr < stagingBase + stagingSize → addr % 4 = 0 → s.fld R.BOOT_STAT F.BOOT_STAT_STAGE ≠ 3 → 
    ∃ t, exec (.stagingWrite addr v) s = .next t ∧ Only irqParts s t ∧
      t.flag R.BOOT_ISR F.BOOT_ISR_REJ = true ∧
      RegsBut [R.BOOT_ISR] s t) ∧
  (∀ (s : State), s.fld R.BOOT_STAT F.BOOT_STAT_STAGE = 3 → s.imageCode s.stagedBytes = 0 → 
    ∃ t, exec (.bootGo) s = .next t ∧ Only [.regs, .dram, .l2, .grp, .dom, .pci, .ddr, .pwr, .out] s t ∧
      t.fld R.BOOT_STAT F.BOOT_STAT_STAGE = 2 ∧
      t.fld R.BOOT_STAT F.BOOT_STAT_SLOT = 2 ∧
      t.flag R.BOOT_ISR F.BOOT_ISR_BOOTED = true ∧
      t.l2 = s.stagedBytes 0x80 (leNat (s.stagedBytes 8 4))) ∧
  (∀ (s : State), s.fld R.BOOT_STAT F.BOOT_STAT_STAGE = 3 → s.imageCode s.stagedBytes ≠ 0 → 
    ∃ t, exec (.bootGo) s = .next t ∧ Only [.regs] s t ∧
      t.fld R.BOOT_STAT F.BOOT_STAT_FAILH = s.imageCode s.stagedBytes ∧
      t.fld R.BOOT_STAT F.BOOT_STAT_STAGE = 3 ∧
      RegsBut [R.BOOT_STAT] s t) ∧
  (∀ (s : State), s.flag R.BOOT_STAT F.BOOT_STAT_KEYSET = false → s.regBytes (R.BOOT_PK 0) 8 ≠ zeros 32 → 
    ∃ t, exec (.bootProvision) s = .next t ∧ Only [.regs, .boot] s t ∧
      t.boot = { s.boot with pk := s.regBytes (R.BOOT_PK 0) 8 } ∧
      t.flag R.BOOT_STAT F.BOOT_STAT_KEYSET = true ∧
      RegsBut [R.BOOT_STAT] s t) ∧
  (∀ (s : State), s.flag R.BOOT_STAT F.BOOT_STAT_KEYSET = true → 
    ∃ t, exec (.bootProvision) s = .next t ∧ Only irqParts s t ∧
      t.flag R.BOOT_ISR F.BOOT_ISR_REJ = true ∧
      RegsBut [R.BOOT_ISR] s t) ∧
  (∀ (s : State) (src : Source) (v : Word), 
    ∃ t, exec (.kick src v) s = .next t ∧ Only [.regs, .dram, .grp, .chan, .srvAx, .srvCh, .lsr, .hoop, .port, .pci, .ddr, .cave, .boot, .xbar, .out] s t ∧
      (t = (if (match src with | .core _ => true | _ => false) then (if field F.BOOT_HB_VAL v = (s.fld R.BOOT_HB F.BOOT_HB_VAL + 1) % 256 then (s.setFld R.BOOT_HB F.BOOT_HB_VAL (field F.BOOT_HB_VAL v)).goodKick else (s.setFld R.BOOT_HB F.BOOT_HB_VAL (field F.BOOT_HB_VAL v)).badKick) else s.bootRej))) ∧
  (∀ (s : State) (k : Fin 4) (v : Word), field F.BOOT_HB_VAL v = (s.fld R.BOOT_HB F.BOOT_HB_VAL + 1) % 256 → 
    ∃ t, exec (.kick (.core k) v) s = .next t ∧ Only [.regs, .dram, .grp, .chan, .srvAx, .srvCh, .lsr, .hoop, .port, .pci, .ddr, .cave, .boot, .xbar, .out] s t ∧
      t.fld R.BOOT_HB F.BOOT_HB_VAL = field F.BOOT_HB_VAL v ∧
      t.boot.badRun = 0 ∧
      t.boot.windowAt = some (s.time.mt + windowU) ∧
      t.boot.suspended = false ∧
      (t.ssc = (if s.ssc = 0 then 1 else s.ssc)) ∧
      (s.ssc = 0 → t.boot.faultN = true) ∧
      RegsBut [R.BOOT_HB, R.BOOT_STAT] s t) ∧
  (∀ (s : State) (k : Fin 4) (v : Word), field F.BOOT_HB_VAL v ≠ (s.fld R.BOOT_HB F.BOOT_HB_VAL + 1) % 256 → s.boot.badRun + 1 ≠ 8 → 
    ∃ t, exec (.kick (.core k) v) s = .next t ∧ Only [.regs, .dram, .grp, .chan, .srvAx, .srvCh, .lsr, .hoop, .port, .pci, .ddr, .cave, .boot, .xbar, .out] s t ∧
      t.fld (R.BOOT_HB) F.BOOT_HB_BAD = min (s.fld (R.BOOT_HB) F.BOOT_HB_BAD + 1) (2 ^ F.BOOT_HB_BAD.width - 1) ∧
      t.boot = { s.boot with badRun := s.boot.badRun + 1 } ∧
      t.flag R.BOOT_ISR F.BOOT_ISR_BADKICK = true ∧
      RegsBut [R.BOOT_HB, R.BOOT_ISR] s t) ∧
  (∀ (s : State) (k : Fin 4) (v : Word), field F.BOOT_HB_VAL v ≠ (s.fld R.BOOT_HB F.BOOT_HB_VAL + 1) % 256 → s.boot.badRun = 7 → s.ssc = 1 → 
    ∃ t, exec (.kick (.core k) v) s = .next t ∧ Only [.regs, .dram, .grp, .chan, .srvAx, .srvCh, .lsr, .hoop, .port, .pci, .ddr, .cave, .boot, .xbar, .out] s t ∧
      t.ssc = 2 ∧
      t.boot.safeN = false ∧
      t.boot.faultN = false ∧
      t.latched = true ∧
      t.gates = 0 ∧
      t.flag R.BOOT_ISR F.BOOT_ISR_SAFE = true ∧
      t.fld R.BOOT_STAT F.BOOT_STAT_CAUSE = 6) ∧
  (∀ (s : State) (v : Word), 
    ∃ t, exec (.kick .host v) s = .next t ∧ Only irqParts s t ∧
      t.flag R.BOOT_ISR F.BOOT_ISR_REJ = true ∧
      RegsBut [R.BOOT_ISR] s t) ∧
  (∀ (s : State) (t0 : Nat), s.boot.windowAt = some t0 → t0 ≤ s.time.mt → s.ssc = 1 → 
    ∃ t, exec (.heartbeatWindowEnd) s = .next t ∧ Only [.regs, .dram, .grp, .chan, .srvAx, .srvCh, .lsr, .hoop, .port, .pci, .ddr, .cave, .boot, .xbar, .out] s t ∧
      t.ssc = 2 ∧
      t.boot.safeN = false ∧
      t.boot.faultN = false ∧
      t.latched = true ∧
      t.gates = 0 ∧
      t.flag R.BOOT_ISR F.BOOT_ISR_SAFE = true ∧
      t.boot.windowAt = none ∧
      t.fld R.BOOT_STAT F.BOOT_STAT_CAUSE = 1) ∧
  (∀ (s : State) (src : Source), s.ssc = 1 → 
    ∃ t, exec (.safeEnter src) s = .next t ∧ Only [.regs, .dram, .grp, .chan, .srvAx, .srvCh, .lsr, .hoop, .port, .pci, .ddr, .cave, .boot, .xbar, .out] s t ∧
      t.ssc = 2 ∧
      t.boot.safeN = false ∧
      t.boot.faultN = false ∧
      t.latched = true ∧
      t.gates = 0 ∧
      t.flag R.BOOT_ISR F.BOOT_ISR_SAFE = true ∧
      (t.fld R.BOOT_STAT F.BOOT_STAT_CAUSE = (match src with | .host => 2 | .core _ => 3 | .hoop => 4))) ∧
  (∀ (s : State) (src : Source), 2 ≤ s.ssc → 
    ∃ t, exec (.safeEnter src) s = .next t ∧ Only [] s t ∧
      t.ssc = s.ssc ∧
      RegsBut [] s t) ∧
  (∀ (s : State), s.ssc < 2 → 
    ∃ t, exec (.xtalLoss) s = .next t ∧ Only [.regs, .dram, .grp, .chan, .srvAx, .srvCh, .lsr, .hoop, .port, .pci, .ddr, .cave, .boot, .xbar, .out] s t ∧
      t.ssc = 2 ∧
      t.boot.safeN = false ∧
      t.boot.faultN = false ∧
      t.latched = true ∧
      t.gates = 0 ∧
      t.flag R.BOOT_ISR F.BOOT_ISR_SAFE = true ∧
      t.boot.xtal = false ∧
      t.fld R.BOOT_STAT F.BOOT_STAT_CAUSE = 5) ∧
  (∀ (s : State), s.ssc = 1 → s.resetOn = false → s.boot.safeEdgeAt + 16 * xtalU ≤ s.time.mt → 
    ∃ t, exec (.safeNToggle) s = .next t ∧ Only [.boot] s t ∧
      t.boot = { s.boot with safeN := !s.boot.safeN, safeEdgeAt := s.boot.safeEdgeAt + 16 * xtalU } ∧
      RegsBut [] s t)

/-- (R4, R5) An access to a window of an absent unit, as ABSENT_UNIT_ACCESS or as a register or wide access by any source,
completes: a read returns zero, a write changes no register or table word, and either sets ABSENT_ACCESS; the address is
captured when the flag was clear and stays when it was set. -/
def Obligations.AbsentUnitsAccesses : Prop :=
  (∀ (s : State) (src : Source) (addr : Nat) (write : Bool), addr < 0x4000000 → addr % 4 = 0 → s.absentAt addr = true → write = false → 
    ∃ t, exec (.absentUnitAccess src addr write) s = .next t ∧ Only [.regs, .readData] s t ∧
      t.readData = 0 ∧
      t.flag R.GLB_STAT F.GLB_STAT_ABSENT_ACCESS = true ∧
      (s.flag R.GLB_STAT F.GLB_STAT_ABSENT_ACCESS = true → t.reg R.GLB_ABSENT_ADDR = s.reg R.GLB_ABSENT_ADDR) ∧
      (s.flag R.GLB_STAT F.GLB_STAT_ABSENT_ACCESS = false → t.fld R.GLB_ABSENT_ADDR F.GLB_ABSENT_ADDR_OFFSET = addr ∧ t.fld R.GLB_ABSENT_ADDR F.GLB_ABSENT_ADDR_WRITE = 0) ∧
      RegsBut [R.GLB_STAT, R.GLB_ABSENT_ADDR] s t) ∧
  (∀ (s : State) (src : Source) (addr : Nat) (write : Bool), addr < 0x4000000 → addr % 4 = 0 → s.absentAt addr = true → write = true → 
    ∃ t, exec (.absentUnitAccess src addr write) s = .next t ∧ Only [.regs] s t ∧
      t.flag R.GLB_STAT F.GLB_STAT_ABSENT_ACCESS = true ∧
      (s.flag R.GLB_STAT F.GLB_STAT_ABSENT_ACCESS = true → t.reg R.GLB_ABSENT_ADDR = s.reg R.GLB_ABSENT_ADDR) ∧
      (s.flag R.GLB_STAT F.GLB_STAT_ABSENT_ACCESS = false → t.fld R.GLB_ABSENT_ADDR F.GLB_ABSENT_ADDR_OFFSET = addr ∧ t.fld R.GLB_ABSENT_ADDR F.GLB_ABSENT_ADDR_WRITE = 1) ∧
      RegsBut [R.GLB_STAT, R.GLB_ABSENT_ADDR] s t) ∧
  (∀ (s : State) (src : Source) (addr : Nat), addr < 0x4000000 → addr % 4 = 0 → s.absentAt addr = true → 
    ∃ t, exec (.wideReadLow src addr) s = .next t ∧ Only [.regs, .readData] s t ∧
      t.readData = 0 ∧
      t.flag R.GLB_STAT F.GLB_STAT_ABSENT_ACCESS = true ∧
      (s.flag R.GLB_STAT F.GLB_STAT_ABSENT_ACCESS = true → t.reg R.GLB_ABSENT_ADDR = s.reg R.GLB_ABSENT_ADDR) ∧
      (s.flag R.GLB_STAT F.GLB_STAT_ABSENT_ACCESS = false → t.fld R.GLB_ABSENT_ADDR F.GLB_ABSENT_ADDR_OFFSET = addr ∧ t.fld R.GLB_ABSENT_ADDR F.GLB_ABSENT_ADDR_WRITE = 0) ∧
      RegsBut [R.GLB_STAT, R.GLB_ABSENT_ADDR] s t) ∧
  (∀ (s : State) (src : Source) (addr : Nat), addr < 0x4000000 → addr % 4 = 0 → s.absentAt addr = true → 
    ∃ t, exec (.wideReadUpper src addr) s = .next t ∧ Only [.regs, .readData] s t ∧
      t.readData = 0 ∧
      t.flag R.GLB_STAT F.GLB_STAT_ABSENT_ACCESS = true ∧
      (s.flag R.GLB_STAT F.GLB_STAT_ABSENT_ACCESS = true → t.reg R.GLB_ABSENT_ADDR = s.reg R.GLB_ABSENT_ADDR) ∧
      (s.flag R.GLB_STAT F.GLB_STAT_ABSENT_ACCESS = false → t.fld R.GLB_ABSENT_ADDR F.GLB_ABSENT_ADDR_OFFSET = addr ∧ t.fld R.GLB_ABSENT_ADDR F.GLB_ABSENT_ADDR_WRITE = 0) ∧
      RegsBut [R.GLB_STAT, R.GLB_ABSENT_ADDR] s t) ∧
  (∀ (s : State) (src : Source) (addr : Nat) (v : Word), addr < 0x4000000 → addr % 4 = 0 → s.absentAt addr = true → 
    ∃ t, exec (.wideWriteUpper src addr v) s = .next t ∧ Only [.regs] s t ∧
      t.flag R.GLB_STAT F.GLB_STAT_ABSENT_ACCESS = true ∧
      (s.flag R.GLB_STAT F.GLB_STAT_ABSENT_ACCESS = true → t.reg R.GLB_ABSENT_ADDR = s.reg R.GLB_ABSENT_ADDR) ∧
      (s.flag R.GLB_STAT F.GLB_STAT_ABSENT_ACCESS = false → t.fld R.GLB_ABSENT_ADDR F.GLB_ABSENT_ADDR_OFFSET = addr ∧ t.fld R.GLB_ABSENT_ADDR F.GLB_ABSENT_ADDR_WRITE = 1) ∧
      RegsBut [R.GLB_STAT, R.GLB_ABSENT_ADDR] s t) ∧
  (∀ (s : State) (src : Source) (addr : Nat) (v : Word), addr < 0x4000000 → addr % 4 = 0 → s.absentAt addr = true → 
    ∃ t, exec (.wideWriteLow src addr v) s = .next t ∧ Only [.regs] s t ∧
      t.flag R.GLB_STAT F.GLB_STAT_ABSENT_ACCESS = true ∧
      (s.flag R.GLB_STAT F.GLB_STAT_ABSENT_ACCESS = true → t.reg R.GLB_ABSENT_ADDR = s.reg R.GLB_ABSENT_ADDR) ∧
      (s.flag R.GLB_STAT F.GLB_STAT_ABSENT_ACCESS = false → t.fld R.GLB_ABSENT_ADDR F.GLB_ABSENT_ADDR_OFFSET = addr ∧ t.fld R.GLB_ABSENT_ADDR F.GLB_ABSENT_ADDR_WRITE = 1) ∧
      RegsBut [R.GLB_STAT, R.GLB_ABSENT_ADDR] s t) ∧
  (∀ (s : State) (src : Source) (addr : Nat) (v : Word), addr < 0x4000000 → addr % 4 = 0 → s.absentAt addr = true → 
    ∃ t, exec (.registerWrite src addr v) s = .next t ∧ Only [.regs] s t ∧
      t.flag R.GLB_STAT F.GLB_STAT_ABSENT_ACCESS = true ∧
      (s.flag R.GLB_STAT F.GLB_STAT_ABSENT_ACCESS = true → t.reg R.GLB_ABSENT_ADDR = s.reg R.GLB_ABSENT_ADDR) ∧
      (s.flag R.GLB_STAT F.GLB_STAT_ABSENT_ACCESS = false → t.fld R.GLB_ABSENT_ADDR F.GLB_ABSENT_ADDR_OFFSET = addr ∧ t.fld R.GLB_ABSENT_ADDR F.GLB_ABSENT_ADDR_WRITE = 1) ∧
      RegsBut [R.GLB_STAT, R.GLB_ABSENT_ADDR] s t)

/-- (R4, R11, R12, R13, R14, R20, R128, R151) Every register or wide access at an aligned offset of BAR0 completes with what the
fabric answers; at an offset of no absent unit ABSENT_UNIT_ACCESS changes nothing. A register write stores an RW or RWS field,
clears the W1C bits written with 1, and leaves RO fields, reserved bits and reserved offsets. ABSENT_ACCESS_CLEAR clears the
flag alone. Reading the lowest word of a wide value, such as schedule time, answers it and latches the upper words for the
reading source alone; an upper read answers that source's shadow. An upper write is staged for its source, and the lowest
write, such as that of M_start, commits it with the staged words. FIELD_TABLE_WRITE stores in IDLE or DISABLED and is rejected
in every other state. -/
def Obligations.RegisterFabric : Prop :=
  (∀ (s : State) (src : Source) (v : Word), 
    ∃ t, exec (.registerWrite src R.SEQ_GRP_PMASK v) s = .next t ∧ Only [.regs, .dram, .l2, .shadow, .staged, .grp, .armUndo, .chan, .srvAx, .srvCh, .srv, .lsr, .hoop, .port, .bulk, .dom, .time, .mot, .fbk, .cam, .pipe, .lgt, .strobe, .lane, .head, .dma, .dmaEng, .pci, .eth, .ddr, .intg, .cal, .pwr, .cave, .boot, .xbar, .free, .out] s t ∧
      t.reg R.SEQ_GRP_PMASK = v ∧
      RegsBut [R.SEQ_GRP_PMASK] s t) ∧
  (∀ (s : State) (src : Source) (v : Word), 
    ∃ t, exec (.registerWrite src R.SEQ_GRP_LAYER v) s = .next t ∧ Only [.regs, .dram, .l2, .shadow, .staged, .grp, .armUndo, .chan, .srvAx, .srvCh, .srv, .lsr, .hoop, .port, .bulk, .dom, .time, .mot, .fbk, .cam, .pipe, .lgt, .strobe, .lane, .head, .dma, .dmaEng, .pci, .eth, .ddr, .intg, .cal, .pwr, .cave, .boot, .xbar, .free, .out] s t ∧
      t.reg R.SEQ_GRP_LAYER = v ∧
      RegsBut [R.SEQ_GRP_LAYER] s t) ∧
  (∀ (s : State) (src : Source) (v : Word), 
    ∃ t, exec (.registerWrite src R.SEQ_GRP_RESUME v) s = .next t ∧ Only [.regs, .dram, .l2, .shadow, .staged, .grp, .armUndo, .chan, .srvAx, .srvCh, .srv, .lsr, .hoop, .port, .bulk, .dom, .time, .mot, .fbk, .cam, .pipe, .lgt, .strobe, .lane, .head, .dma, .dmaEng, .pci, .eth, .ddr, .intg, .cal, .pwr, .cave, .boot, .xbar, .free, .out] s t ∧
      t.fld R.SEQ_GRP_RESUME F.SEQ_GRP_RESUME_INDEX = v.toNat % 65536 ∧
      t.reg R.SEQ_GRP_RESUME >>> 16 = s.reg R.SEQ_GRP_RESUME >>> 16 ∧
      RegsBut [R.SEQ_GRP_RESUME] s t) ∧
  (∀ (s : State) (src : Source) (v : Word), 
    ∃ t, exec (.registerWrite src R.TIM_ISR v) s = .next t ∧ Only [.regs, .dram, .l2, .shadow, .staged, .grp, .armUndo, .chan, .srvAx, .srvCh, .srv, .lsr, .hoop, .port, .bulk, .dom, .time, .mot, .fbk, .cam, .pipe, .lgt, .strobe, .lane, .head, .dma, .dmaEng, .pci, .eth, .ddr, .intg, .cal, .pwr, .cave, .boot, .xbar, .free, .out] s t ∧
      t.reg R.TIM_ISR = s.reg R.TIM_ISR &&& ~~~(v &&& 0x7F) ∧
      RegsBut [R.TIM_ISR] s t) ∧
  (∀ (s : State) (src : Source) (v : Word), 
    ∃ t, exec (.registerWrite src R.SEQ_GRP_HOLDS v) s = .next t ∧ Only [.regs, .dram, .l2, .shadow, .staged, .grp, .armUndo, .chan, .srvAx, .srvCh, .srv, .lsr, .hoop, .port, .bulk, .dom, .time, .mot, .fbk, .cam, .pipe, .lgt, .strobe, .lane, .head, .dma, .dmaEng, .pci, .eth, .ddr, .intg, .cal, .pwr, .cave, .boot, .xbar, .free, .out] s t ∧
      RegsBut [] s t) ∧
  (∀ (s : State) (src : Source) (addr : Nat) (v : Word), addr < 0x280000 → addr % 4 = 0 → s.absentAt addr = false → wideAt addr = none → regAt addr = none → 
    ∃ t, exec (.registerWrite src addr v) s = .next t ∧ Only [] s t ∧
      RegsBut [] s t) ∧
  (∀ (s : State) (v : Word), field F.GLB_STAT_ABSENT_ACCESS v = 1 → 
    ∃ t, exec (.absentAccessClear v) s = .next t ∧ Only [.regs] s t ∧
      t.flag R.GLB_STAT F.GLB_STAT_ABSENT_ACCESS = false ∧
      RegsBut [R.GLB_STAT] s t) ∧
  (∀ (s : State) (v : Word), field F.GLB_STAT_ABSENT_ACCESS v = 0 → 
    ∃ t, exec (.absentAccessClear v) s = .next t ∧ Only [.regs] s t ∧
      t = s) ∧
  (∀ (s : State) (src : Source) (addr : Nat) (write : Bool), addr < 0x4000000 → addr % 4 = 0 → s.absentAt addr = false → 
    ∃ t, exec (.absentUnitAccess src addr write) s = .next t ∧ Only [.regs, .readData] s t ∧
      t = s) ∧
  (∀ (s : State) (src : Source) (addr : Nat) (v : Word), addr < 0x4000000 → addr % 4 = 0 → 
    ∃ t, exec (.registerWrite src addr v) s = .next t ∧ Only [.regs, .dram, .l2, .shadow, .staged, .grp, .armUndo, .chan, .srvAx, .srvCh, .srv, .lsr, .hoop, .port, .bulk, .dom, .time, .mot, .fbk, .cam, .pipe, .lgt, .strobe, .lane, .head, .dma, .dmaEng, .pci, .eth, .ddr, .intg, .cal, .pwr, .cave, .boot, .xbar, .free, .out] s t ∧
      t = s.busWrite src addr v) ∧
  (∀ (s : State) (src : Source) (addr : Nat), addr < 0x4000000 → addr % 4 = 0 → 
    ∃ t, exec (.wideReadLow src addr) s = .next t ∧ Only [.regs, .dram, .shadow, .readData, .grp, .pci, .ddr, .intg, .free, .out] s t ∧
      t = { (s.busRead src addr).2 with readData := (s.busRead src addr).1 }) ∧
  (∀ (s : State) (src : Source) (addr : Nat), addr < 0x4000000 → addr % 4 = 0 → 
    ∃ t, exec (.wideReadUpper src addr) s = .next t ∧ Only [.regs, .dram, .shadow, .readData, .grp, .pci, .ddr, .intg, .free, .out] s t ∧
      t = { (s.busRead src addr).2 with readData := (s.busRead src addr).1 }) ∧
  (∀ (s : State) (src : Source) (addr : Nat) (v : Word), addr < 0x4000000 → addr % 4 = 0 → 
    ∃ t, exec (.wideWriteUpper src addr v) s = .next t ∧ Only [.regs, .dram, .l2, .shadow, .staged, .grp, .armUndo, .chan, .srvAx, .srvCh, .srv, .lsr, .hoop, .port, .bulk, .dom, .time, .mot, .fbk, .cam, .pipe, .lgt, .strobe, .lane, .head, .dma, .dmaEng, .pci, .eth, .ddr, .intg, .cal, .pwr, .cave, .boot, .xbar, .free, .out] s t ∧
      t = s.busWrite src addr v) ∧
  (∀ (s : State) (src : Source) (addr : Nat) (v : Word), addr < 0x4000000 → addr % 4 = 0 → 
    ∃ t, exec (.wideWriteLow src addr v) s = .next t ∧ Only [.regs, .dram, .l2, .shadow, .staged, .grp, .armUndo, .chan, .srvAx, .srvCh, .srv, .lsr, .hoop, .port, .bulk, .dom, .time, .mot, .fbk, .cam, .pipe, .lgt, .strobe, .lane, .head, .dma, .dmaEng, .pci, .eth, .ddr, .intg, .cal, .pwr, .cave, .boot, .xbar, .free, .out] s t ∧
      t = s.busWrite src addr v) ∧
  (∀ (s : State) (src : Source) (addr : Nat) (n : Nat), addr < 0x4000000 → addr % 4 = 0 → s.absentAt addr = false → wideAt addr = some (n, 0) → 
    ∃ t, exec (.wideReadLow src addr) s = .next t ∧ Only [.regs, .dram, .shadow, .readData, .grp, .pci, .ddr, .intg, .free, .out] s t ∧
      t = { ((s.latchUpper src addr n).readWord addr).2 with readData := ((s.latchUpper src addr n).readWord addr).1 }) ∧
  (∀ (s : State) (src : Source), s.up dSEQ = true → 
    ∃ t, exec (.wideReadLow src R.SEQ_GRP_S_LO) s = .next t ∧ Only [.readData, .shadow, .free] s t ∧
      t.readData = BitVec.ofNat 32 (s.grp.s % 2 ^ 32) ∧
      (tabGet (fun _ => 0) t.shadow (srcKey src 1) = BitVec.ofNat 32 (s.grp.s / 2 ^ 32 % 65536)) ∧
      (∀ k ∈ List.range 24, k / 4 ≠ srcKey src 0 / 4 → tabGet (fun _ => 0) t.shadow k = tabGet (fun _ => 0) s.shadow k) ∧
      RegsBut [] s t) ∧
  (∀ (s : State) (src : Source) (addr : Nat) (n p : Nat), addr < 0x4000000 → addr % 4 = 0 → s.absentAt addr = false → wideAt addr = some (n, p + 1) → 
    ∃ t, exec (.wideReadUpper src addr) s = .next t ∧ Only [.readData] s t ∧
      (t.readData = tabGet (fun _ => 0) s.shadow (srcKey src (p + 1))) ∧
      RegsBut [] s t) ∧
  (∀ (s : State) (src : Source) (addr : Nat) (v : Word) (n p : Nat), addr < 0x4000000 → addr % 4 = 0 → s.absentAt addr = false → wideAt addr = some (n, p + 1) → 
    ∃ t, exec (.wideWriteUpper src addr v) s = .next t ∧ Only [.staged] s t ∧
      t.stagedWord src (p + 1) = v ∧
      (∀ k ∈ List.range 24, k ≠ srcKey src (p + 1) → tabGet (fun _ => 0) t.staged k = tabGet (fun _ => 0) s.staged k) ∧
      RegsBut [] s t) ∧
  (∀ (s : State) (src : Source) (addr : Nat) (v : Word) (n : Nat), addr < 0x4000000 → addr % 4 = 0 → s.absentAt addr = false → wideAt addr = some (n, 0) → 
    ∃ t, exec (.wideWriteLow src addr v) s = .next t ∧ Only [.regs, .dram, .l2, .shadow, .staged, .grp, .armUndo, .chan, .srvAx, .srvCh, .srv, .lsr, .hoop, .port, .bulk, .dom, .time, .mot, .fbk, .cam, .pipe, .lgt, .strobe, .lane, .head, .dma, .dmaEng, .pci, .eth, .ddr, .intg, .cal, .pwr, .cave, .boot, .xbar, .free, .out] s t ∧
      (t = (s.writeWord src addr v).each ((List.range n).drop 1) fun p u => u.writeWord src (addr + 4 * p) (u.stagedWord src p))) ∧
  (∀ (s : State) (src : Source) (v : Word), 
    ∃ t, exec (.wideWriteLow src R.SEQ_GRP_MSTART_FRAC v) s = .next t ∧ Only [.regs, .dram, .l2, .shadow, .staged, .grp, .armUndo, .chan, .srvAx, .srvCh, .srv, .lsr, .hoop, .port, .bulk, .dom, .time, .mot, .fbk, .cam, .pipe, .lgt, .strobe, .lane, .head, .dma, .dmaEng, .pci, .eth, .ddr, .intg, .cal, .pwr, .cave, .boot, .xbar, .free, .out] s t ∧
      t.fld R.SEQ_GRP_MSTART_FRAC F.SEQ_GRP_MSTART_FRAC_FRAC = v.toNat % 65536 ∧
      t.fld R.SEQ_GRP_MSTART_NS F.SEQ_GRP_MSTART_NS_NS = (s.stagedWord src 1).toNat % 2 ^ 30 ∧
      t.reg R.SEQ_GRP_MSTART_SEC_LO = s.stagedWord src 2 ∧
      t.reg R.SEQ_GRP_MSTART_SEC_HI = s.stagedWord src 3 ∧
      RegsBut [R.SEQ_GRP_MSTART_FRAC, R.SEQ_GRP_MSTART_NS, R.SEQ_GRP_MSTART_SEC_LO, R.SEQ_GRP_MSTART_SEC_HI] s t) ∧
  (∀ (s : State) (addr : Nat) (v : Word), 0x2800000 ≤ addr → addr < 0x3000000 → addr % 4 = 0 → (addr - 0x2800000) / 0x40000 < s.channels → s.chState ((addr - 0x2800000) / 0x40000) ≤ 1 → (addr - 0x2800000) % 0x40000 < 199692 → s.splitWrite = false → 
    ∃ t, exec (.fieldTableWrite addr v) s = .next t ∧ Only [.regs, .pci, .intg, .out] s t ∧
      t.reg addr = v &&& BitVec.ofNat 32 (fieldMaskAt ((addr - 0x2800000) % 0x40000)) ∧
      RegsBut [addr] s t) ∧
  (∀ (s : State) (addr : Nat) (v : Word), 0x2800000 ≤ addr → addr < 0x3000000 → addr % 4 = 0 → (addr - 0x2800000) / 0x40000 < s.channels → 1 < s.chState ((addr - 0x2800000) / 0x40000) → 
    ∃ t, exec (.fieldTableWrite addr v) s = .next t ∧ Only irqParts s t ∧
      t.flag R.STI_ISR F.STI_ISR_REJ = true ∧
      RegsBut [R.STI_ISR] s t)

/-- (R200, R211) RREQ_RECEIVED of a request for this device answers the requester with an RRSP under the request's tag: code 1 and
no access where the direction is not enabled; code 0 after a write that is enabled, which acts as a write from Hoop; code 0
with the register's value after a read that is enabled. -/
def Obligations.RemoteRequests : Prop :=
  (∀ (s : State) (p q off : Nat) (k : Packet) (v : Nat), p < s.hoopLanes → s.carries p = true → k.cls = 0x20 → k.bcast = false → k.dst = s.devid → leAt k.payload 0 4 = off + 2 ^ 31 * 1 → leAt k.payload 4 4 = v → off < 2 ^ 26 → s.route k.src = some q → s.flag R.HOOP_CTL F.HOOP_CTL_RRA_WR = false → 
    ∃ t, exec (.rreqReceived p k) s = .next t ∧ Only [.regs, .dram, .l2, .shadow, .staged, .grp, .armUndo, .chan, .srvAx, .srvCh, .srv, .lsr, .hoop, .port, .bulk, .dom, .time, .mot, .fbk, .cam, .pipe, .lgt, .strobe, .lane, .head, .dma, .dmaEng, .pci, .eth, .ddr, .intg, .cal, .pwr, .cave, .boot, .xbar, .free, .out] s t ∧
      (((t.pt q).loc.any fun x => decide (x.cls = 0x21 ∧ x.dst = k.src ∧ x.tag = k.tag ∧ x.payload = leBytes 1 4 ++ leBytes 0 4)) = true) ∧
      t.reg R.SEQ_GRP_PMASK = s.reg R.SEQ_GRP_PMASK ∧
      t.grp = s.grp ∧
      t.chan = s.chan) ∧
  (∀ (s : State) (p q off : Nat) (k : Packet) (v : Nat), p < s.hoopLanes → s.carries p = true → k.cls = 0x20 → k.bcast = false → k.dst = s.devid → leAt k.payload 0 4 = off + 2 ^ 31 * 1 → leAt k.payload 4 4 = v → off < 2 ^ 26 → s.route k.src = some q → s.flag R.HOOP_CTL F.HOOP_CTL_RRA_WR = true → off = R.SEQ_GRP_PMASK → 
    ∃ t, exec (.rreqReceived p k) s = .next t ∧ Only [.regs, .dram, .l2, .shadow, .staged, .grp, .armUndo, .chan, .srvAx, .srvCh, .srv, .lsr, .hoop, .port, .bulk, .dom, .time, .mot, .fbk, .cam, .pipe, .lgt, .strobe, .lane, .head, .dma, .dmaEng, .pci, .eth, .ddr, .intg, .cal, .pwr, .cave, .boot, .xbar, .free, .out] s t ∧
      (((t.pt q).loc.any fun x => decide (x.cls = 0x21 ∧ x.dst = k.src ∧ x.tag = k.tag ∧ x.payload = leBytes 0 4 ++ leBytes 0 4)) = true) ∧
      t.reg R.SEQ_GRP_PMASK = BitVec.ofNat 32 v ∧
      t.grp = s.grp ∧
      t.chan = s.chan) ∧
  (∀ (s : State) (p q off : Nat) (k : Packet) (v : Nat), p < s.hoopLanes → s.carries p = true → k.cls = 0x20 → k.bcast = false → k.dst = s.devid → leAt k.payload 0 4 = off + 2 ^ 31 * 0 → leAt k.payload 4 4 = v → off < 2 ^ 26 → s.route k.src = some q → s.flag R.HOOP_CTL F.HOOP_CTL_RRA_RD = false → 
    ∃ t, exec (.rreqReceived p k) s = .next t ∧ Only [.regs, .dram, .l2, .shadow, .staged, .grp, .armUndo, .chan, .srvAx, .srvCh, .srv, .lsr, .hoop, .port, .bulk, .dom, .time, .mot, .fbk, .cam, .pipe, .lgt, .strobe, .lane, .head, .dma, .dmaEng, .pci, .eth, .ddr, .intg, .cal, .pwr, .cave, .boot, .xbar, .free, .out] s t ∧
      (((t.pt q).loc.any fun x => decide (x.cls = 0x21 ∧ x.dst = k.src ∧ x.tag = k.tag ∧ x.payload = leBytes 1 4 ++ leBytes 0 4)) = true) ∧
      t.reg R.SEQ_GRP_PMASK = s.reg R.SEQ_GRP_PMASK) ∧
  (∀ (s : State) (p q off : Nat) (k : Packet) (v : Nat), p < s.hoopLanes → s.carries p = true → k.cls = 0x20 → k.bcast = false → k.dst = s.devid → leAt k.payload 0 4 = off + 2 ^ 31 * 0 → leAt k.payload 4 4 = v → off < 2 ^ 26 → s.route k.src = some q → s.flag R.HOOP_CTL F.HOOP_CTL_RRA_RD = true → off = R.SEQ_GRP_PMASK → 
    ∃ t, exec (.rreqReceived p k) s = .next t ∧ Only [.regs, .dram, .l2, .shadow, .staged, .grp, .armUndo, .chan, .srvAx, .srvCh, .srv, .lsr, .hoop, .port, .bulk, .dom, .time, .mot, .fbk, .cam, .pipe, .lgt, .strobe, .lane, .head, .dma, .dmaEng, .pci, .eth, .ddr, .intg, .cal, .pwr, .cave, .boot, .xbar, .free, .out] s t ∧
      (((t.pt q).loc.any fun x => decide (x.cls = 0x21 ∧ x.dst = k.src ∧ x.tag = k.tag ∧ x.payload = leBytes 0 4 ++ leBytes (s.reg R.SEQ_GRP_PMASK).toNat 4)) = true) ∧
      t.reg R.SEQ_GRP_PMASK = s.reg R.SEQ_GRP_PMASK)

/-- (R12, R225, R250, R279, R309, R324, R349, R372, R388, R403, R437, R454) MOT, FBK, CAM, DMA, ETH, DDR, CAL, HK and STI resets
give every register of their block its reset value but for RWS fields, touch no register of another block, and forget the
block's work; FBK and CAM keep the levels of their inputs; DDR loses the contents of DRAM. LGT leaves everything off with its
codes kept; HOOP leaves its ports down with machine time kept; LANE and HL set the latch and leave lanes DOWN or starting, HL
keeping its lane enables; INTG keeps its trackers and failed checkers, PWR the domains, CAVE the die and its stages. STI in a
layer, and PWR from another source than the host, are rejected. -/
def Obligations.BlockResets : Prop :=
  (∀ (s : State) (a : Nat), s.canon = true → 0x3C0000 ≤ a → a < 0x3D0000 → 
    ∃ t, exec (.motBlockReset) s = .next t ∧ Only [.regs, .mot] s t ∧
      t.reg a = resetKeep a (s.reg a) keepRws ∧
      RegsIn 0x3C0000 0x3D0000 s t ∧
      t.mot = []) ∧
  (∀ (s : State) (a : Nat), s.canon = true → 0x3D0000 ≤ a → a < 0x3E0000 → 
    ∃ t, exec (.fbkBlockReset) s = .next t ∧ Only [.regs, .fbk] s t ∧
      t.reg a = resetKeep a (s.reg a) keepRws ∧
      RegsIn 0x3D0000 0x3E0000 s t ∧
      (∀ i ∈ List.range 8, t.fb i = heldLevels (s.fb i))) ∧
  (∀ (s : State) (a : Nat), s.canon = true → 0x340000 ≤ a → a < 0x380000 → s.camPorts ≠ 0 → 
    ∃ t, exec (.camBlockReset) s = .next t ∧ Only [.regs, .cam, .pipe] s t ∧
      t.reg a = resetKeep a (s.reg a) keepRws ∧
      RegsIn 0x340000 0x380000 s t ∧
      (∀ p ∈ List.range 4, t.cm p = { CamPort.reset with vs := (s.cm p).vs }) ∧
      t.pipe = ⟨none, 0, 0⟩) ∧
  (∀ (s : State) (a : Nat), s.canon = true → 0x2C0000 ≤ a → a < 0x300000 → (∀ k ∈ List.range 16, (s.dc k).cur = none) → 
    ∃ t, exec (.dmaBlockReset) s = .next t ∧ Only [.regs, .dram, .dma, .dmaEng, .pci, .ddr, .out] s t ∧
      t.reg a = resetKeep a (s.reg a) keepRws ∧
      RegsIn 0x2C0000 0x300000 s t ∧
      t.dma = []) ∧
  (∀ (s : State) (a : Nat), s.canon = true → 0x290000 ≤ a → a < 0x2C0000 → 
    ∃ t, exec (.ethBlockReset) s = .next t ∧ Only [.regs, .eth] s t ∧
      t.reg a = resetKeep a (s.reg a) keepRws ∧
      RegsIn 0x290000 0x2C0000 s t ∧
      t.eth = []) ∧
  (∀ (s : State) (a : Nat), s.canon = true → 0x300000 ≤ a → a < 0x340000 → 
    ∃ t, exec (.ddrBlockReset) s = .next t ∧ Only [.regs, .dram, .ddr] s t ∧
      t.reg a = resetKeep a (s.reg a) keepRws ∧
      RegsIn 0x300000 0x340000 s t ∧
      t.dram = [] ∧
      t.ddr.issued = [] ∧
      t.ddr.poisoned = []) ∧
  (∀ (s : State) (a : Nat), s.canon = true → 0x40000 ≤ a → a < 0x50000 → 
    ∃ t, exec (.calBlockReset) s = .next t ∧ Only [.regs, .cal] s t ∧
      t.reg a = resetKeep a (s.reg a) keepRws ∧
      RegsIn 0x40000 0x50000 s t ∧
      t.cal = []) ∧
  (∀ (s : State) (a : Nat), s.canon = true → 0x20000 ≤ a → a < 0x30000 → 
    ∃ t, exec (.hkBlockReset) s = .next t ∧ Only [.regs] s t ∧
      t.reg a = resetKeep a (s.reg a) keepRws ∧
      RegsIn 0x20000 0x30000 s t ∧
      t.hk = s.hk) ∧
  (∀ (s : State) (a : Nat), s.canon = true → 0x1C0000 ≤ a → a < 0x200000 → s.layerArmed = false → 
    ∃ t, exec (.stiBlockReset) s = .next t ∧ Only [.regs, .chan, .pci, .xbar, .out] s t ∧
      t.reg a = resetKeep a (s.reg a) keepRws ∧
      RegsIn 0x1C0000 0x200000 s t ∧
      t.xbar = [] ∧
      (∀ n ∈ s.chs, (t.ch n).tokens = [] ∧ (t.ch n).hands = [])) ∧
  (∀ (s : State), s.layerArmed = true → 
    ∃ t, exec (.stiBlockReset) s = .next t ∧ Only irqParts s t ∧
      t.flag R.STI_ISR F.STI_ISR_REJ = true ∧
      RegsBut [R.STI_ISR] s t) ∧
  (∀ (s : State) (k : Nat), s.hasLight = true → k < 4096 → 
    ∃ t, exec (.lgtBlockReset) s = .next t ∧ Only [.regs, .lgt, .strobe, .pwr] s t ∧
      t.lgt = Light.reset ∧
      t.strobe = [] ∧
      t.flag R.LGT_CTL F.LGT_CTL_EN = false ∧
      t.reg (0x1B00000 + 4 * k) = s.reg (0x1B00000 + 4 * k)) ∧
  (∀ (s : State) (p : Nat), p < s.hoopLanes → 
    ∃ t, exec (.hoopBlockReset) s = .next t ∧ Only [.regs, .hoop, .port, .bulk, .dom, .time, .lane, .head, .pci, .out] s t ∧
      t.port = [] ∧
      t.bulk = [] ∧
      t.fld (R.HOOP_PT_STAT p) F.HOOP_PT_STAT_STATE = 0 ∧
      t.laneState (32 + p) = 0 ∧
      t.time.mt = s.time.mt ∧
      t.hoop.seq = s.hoop.seq ∧
      t.hoop.rra = none) ∧
  (∀ (s : State) (l : Nat), l < 40 → s.lanePresent l = true → 
    ∃ t, exec (.laneBlockReset) s = .next t ∧ Only [.regs, .dram, .grp, .chan, .srvAx, .srvCh, .srv, .lsr, .hoop, .port, .lane, .head, .pci, .ddr, .cave, .xbar, .out] s t ∧
      t.laneState l ≤ 1 ∧
      t.latched = true ∧
      t.gates = 0) ∧
  (∀ (s : State) (n : Nat), s.canon = true → n < s.channels → 
    ∃ t, exec (.hlBlockReset) s = .next t ∧ Only [.regs, .dram, .grp, .chan, .srvAx, .srvCh, .srv, .lsr, .hoop, .port, .lane, .head, .pci, .ddr, .cave, .xbar, .out] s t ∧
      t.laneState n ≤ 1 ∧
      t.latched = true ∧
      t.gates = 0 ∧
      t.reg (R.HL_CH_CFG n) = s.reg (R.HL_CH_CFG n)) ∧
  (∀ (s : State) (a : Nat), s.canon = true → 0x50000 ≤ a → a < 0x60000 → a ≠ R.INTG_BIST → 
    ∃ t, exec (.intgBlockReset) s = .next t ∧ Only [.regs, .intg] s t ∧
      t.reg a = resetKeep a (s.reg a) keepRws ∧
      RegsIn 0x50000 0x60000 s t ∧
      t.intg = { s.intg with forced := [] }) ∧
  (∀ (s : State), 
    ∃ t, exec (.intgBlockReset) s = .next t ∧ Only [.regs, .intg] s t ∧
      t.reg R.INTG_BIST = s.reg R.INTG_BIST) ∧
  (∀ (s : State) (src : Source), s.canon = true → src = .host → 
    ∃ t, exec (.pwrBlockReset src) s = .next t ∧ Only [.regs, .grp, .pci, .pwr, .out] s t ∧
      t.reg R.PWR_DOM = s.reg R.PWR_DOM ∧
      t.pwr.target = none ∧
      t.pwr.alarmAt = none ∧
      t.pwr.pwren = s.pwr.pwren ∧
      t.reg R.PWR_FWVOTE = resetKeep R.PWR_FWVOTE (s.reg R.PWR_FWVOTE) keepRws ∧
      t.reg R.PWR_FORCE = resetKeep R.PWR_FORCE (s.reg R.PWR_FORCE) keepRws ∧
      RegsIn 0x10000 0x20000 s t) ∧
  (∀ (s : State) (src : Source), src ≠ .host → 
    ∃ t, exec (.pwrBlockReset src) s = .next t ∧ Only irqParts s t ∧
      t.flag R.PWR_ISR F.PWR_ISR_REJ = true ∧
      RegsBut [R.PWR_ISR] s t) ∧
  (∀ (s : State), 
    ∃ t, exec (.caveBlockReset) s = .next t ∧ Only [.regs, .cave] s t ∧
      t.cave = { s.cave with fetch := none, clearRec := none, chalAt := none } ∧
      t.flag R.CAVE_STAT F.CAVE_STAT_FROZEN = false ∧
      t.flag R.CAVE_STAT F.CAVE_STAT_READY = s.flag R.CAVE_STAT F.CAVE_STAT_READY ∧
      t.epoch = s.epoch ∧
      RegsIn 0x30000 0x40000 s t)
end

