-- ==== Sys2Proof/Laws/Tab.lean ====
section
/-!
SUPPORT. Reading after writing a sparse table, and its canonical form.
-/

namespace Sys2Proof.Machine

theorem tabGet_tabDrop {α : Type} (d : Nat → α) (t : Tab α) (k i : Nat) :
    tabGet d (tabDrop k t) i = if i = k then d i else tabGet d t i := by
  induction t with
  | nil => simp [tabDrop, tabGet]
  | cons e t ih =>
    obtain ⟨j, v⟩ := e
    simp only [tabDrop, tabGet]
    by_cases hj : j = k <;> by_cases hi : i = k <;> by_cases hji : j = i <;> simp_all [tabGet]

theorem tabGet_tabPut {α : Type} (d : Nat → α) (t : Tab α) (k i : Nat) (v : α) (h : ∀ e ∈ t, e.1 ≠ k) :
    tabGet d (tabPut k v t) i = if i = k then v else tabGet d t i := by
  induction t with
  | nil => simp only [tabPut, tabGet, eq_comm]
  | cons e t ih =>
    obtain ⟨j, w⟩ := e
    have hj : j ≠ k := h (j, w) (by simp)
    have ih := ih fun e he => h e (by simp [he])
    simp only [tabPut]
    by_cases hk : k < j
    · simp only [hk, if_true, tabGet]
      by_cases hi : i = k
      · simp [hi]
      · simp [hi, Ne.symm hi]
    · simp only [hk, if_false, tabGet, ih]
      by_cases hi : i = k
      · have : ¬j = i := by omega
        simp [hi, hj]
      · simp [hi]

theorem tabDrop_ne {α : Type} (k : Nat) (t : Tab α) : ∀ e ∈ tabDrop k t, e.1 ≠ k := by
  induction t with
  | nil => simp [tabDrop]
  | cons e t ih =>
    simp only [tabDrop]
    split
    · exact ih
    · intro x hx
      rcases List.mem_cons.mp hx with rfl | hx
      · assumption
      · exact ih x hx

/-- A table reads what was written, and elsewhere what it read before. -/
theorem tabGet_tabSet {α : Type} [DecidableEq α] (d : Nat → α) (t : Tab α) (k i : Nat) (v : α) :
    tabGet d (tabSet d t k v) i = if i = k then v else tabGet d t i := by
  unfold tabSet
  split
  · rename_i hv
    rw [tabGet_tabDrop]
    by_cases hi : i = k
    · simp [hi, hv]
    · simp [hi]
  · rw [tabGet_tabPut d _ k i v (tabDrop_ne k t), tabGet_tabDrop]
    by_cases hi : i = k <;> simp [hi]

@[simp] theorem tabGet_tabSet_same {α : Type} [DecidableEq α] (d : Nat → α) (t : Tab α) (k : Nat) (v : α) :
    tabGet d (tabSet d t k v) k = v := by simp [tabGet_tabSet]

theorem tabGet_tabSet_ne {α : Type} [DecidableEq α] (d : Nat → α) (t : Tab α) (k i : Nat) (v : α) (h : i ≠ k) :
    tabGet d (tabSet d t k v) i = tabGet d t i := by simp [tabGet_tabSet, h]

theorem tabAbove_mono {α : Type} {b c : Nat} {t : Tab α} (h : b ≤ c) (hc : tabAbove c t = true) : tabAbove b t = true := by
  simp only [tabAbove, List.all_eq_true, decide_eq_true_eq] at *
  intro e he
  exact Nat.lt_of_le_of_lt h (hc e he)

theorem tabAbove_tabDrop {α : Type} {b k : Nat} {t : Tab α} (h : tabAbove b t = true) : tabAbove b (tabDrop k t) = true := by
  induction t with
  | nil => simp [tabDrop, tabAbove]
  | cons e t ih =>
    simp only [tabAbove, List.all_cons, Bool.and_eq_true] at h
    have := ih h.2
    simp only [tabDrop]
    split
    · exact this
    · simp only [tabAbove, List.all_cons, Bool.and_eq_true]
      exact ⟨h.1, this⟩

theorem tabWf_tabDrop {α : Type} [DecidableEq α] (d : Nat → α) (k : Nat) (t : Tab α) (h : tabWf d t = true) :
    tabWf d (tabDrop k t) = true := by
  induction t with
  | nil => rfl
  | cons e t ih =>
    obtain ⟨j, w⟩ := e
    simp only [tabWf, Bool.and_eq_true] at h
    simp only [tabDrop]
    split
    · exact ih h.2
    · simp only [tabWf, Bool.and_eq_true]
      exact ⟨⟨h.1.1, tabAbove_tabDrop h.1.2⟩, ih h.2⟩

theorem tabAbove_tabPut {α : Type} {b k : Nat} {v : α} {t : Tab α} (hb : b < k) (h : tabAbove b t = true) :
    tabAbove b (tabPut k v t) = true := by
  induction t with
  | nil => simp [tabPut, tabAbove, hb]
  | cons e t ih =>
    have h' : b < e.1 ∧ tabAbove b t = true := by simpa [tabAbove] using h
    have hc (x : Nat × α) (u : Tab α) (hx : b < x.1) (hu : tabAbove b u = true) : tabAbove b (x :: u) = true := by
      simp only [tabAbove, List.all_cons, Bool.and_eq_true]
      exact ⟨by simpa using hx, hu⟩
    simp only [tabPut]
    split
    · exact hc _ _ hb (hc _ _ h'.1 h'.2)
    · exact hc _ _ h'.1 (ih h'.2)

theorem tabWf_tabPut {α : Type} [DecidableEq α] (d : Nat → α) (k : Nat) (v : α) (t : Tab α) (hv : v ≠ d k)
    (hn : ∀ e ∈ t, e.1 ≠ k) (h : tabWf d t = true) : tabWf d (tabPut k v t) = true := by
  induction t with
  | nil => simp [tabPut, tabWf, tabAbove, hv]
  | cons e t ih =>
    obtain ⟨j, w⟩ := e
    have hj : j ≠ k := hn (j, w) (by simp)
    have hs := h
    simp only [tabWf, Bool.and_eq_true] at h
    simp only [tabPut]
    by_cases hk : k < j
    · simp only [hk, if_true]
      simp only [tabWf, Bool.and_eq_true]
      refine ⟨⟨by simpa using hv, ?_⟩, by simpa [tabWf] using hs⟩
      simp only [tabAbove, List.all_cons, Bool.and_eq_true]
      exact ⟨by simpa using hk, tabAbove_mono (Nat.le_of_lt hk) h.1.2⟩
    · simp only [hk, if_false]
      simp only [tabWf, Bool.and_eq_true]
      exact ⟨⟨h.1.1, tabAbove_tabPut (by omega) h.1.2⟩, ih (fun e he => hn e (by simp [he])) h.2⟩

/-- A write keeps the canonical form. -/
theorem tabWf_tabSet {α : Type} [DecidableEq α] (d : Nat → α) (t : Tab α) (k : Nat) (v : α) (h : tabWf d t = true) :
    tabWf d (tabSet d t k v) = true := by
  unfold tabSet
  split
  · exact tabWf_tabDrop d k t h
  · rename_i hv
    exact tabWf_tabPut d k v _ hv (tabDrop_ne k t) (tabWf_tabDrop d k t h)

theorem tabAbove_filter {α : Type} {b : Nat} {t : Tab α} (p : Nat × α → Bool) (h : tabAbove b t = true) :
    tabAbove b (t.filter p) = true := by
  simp only [tabAbove, List.all_eq_true] at *
  intro e he
  exact h e (List.mem_filter.mp he).1

/-- Leaving entries out keeps the canonical form. -/
theorem tabWf_filter {α : Type} [DecidableEq α] (d : Nat → α) (p : Nat × α → Bool) (t : Tab α) (h : tabWf d t = true) :
    tabWf d (t.filter p) = true := by
  induction t with
  | nil => rfl
  | cons e t ih =>
    obtain ⟨j, w⟩ := e
    simp only [tabWf, Bool.and_eq_true] at h
    simp only [List.filter_cons]
    split
    · simp only [tabWf, Bool.and_eq_true]
      exact ⟨⟨h.1.1, tabAbove_filter p h.1.2⟩, ih h.2⟩
    · exact ih h.2

end Sys2Proof.Machine
end

