-- ==== Sys2Proof/Laws/State.lean ====
section
/-!
SUPPORT. What each update of one field of State leaves: one lemma for each field and update, and reading what was written.
-/

namespace Sys2Proof.Machine

@[simp] theorem State.setReg_pending (s : State) (a : Nat) (v : Word) : (s.setReg a v).pending = s.pending := rfl
@[simp] theorem State.setReg_variant (s : State) (a : Nat) (v : Word) : (s.setReg a v).variant = s.variant := rfl
@[simp] theorem State.setReg_dram (s : State) (a : Nat) (v : Word) : (s.setReg a v).dram = s.dram := rfl
@[simp] theorem State.setReg_l2 (s : State) (a : Nat) (v : Word) : (s.setReg a v).l2 = s.l2 := rfl
@[simp] theorem State.setReg_shadow (s : State) (a : Nat) (v : Word) : (s.setReg a v).shadow = s.shadow := rfl
@[simp] theorem State.setReg_staged (s : State) (a : Nat) (v : Word) : (s.setReg a v).staged = s.staged := rfl
@[simp] theorem State.setReg_readData (s : State) (a : Nat) (v : Word) : (s.setReg a v).readData = s.readData := rfl
@[simp] theorem State.setReg_grp (s : State) (a : Nat) (v : Word) : (s.setReg a v).grp = s.grp := rfl
@[simp] theorem State.setReg_armUndo (s : State) (a : Nat) (v : Word) : (s.setReg a v).armUndo = s.armUndo := rfl
@[simp] theorem State.setReg_chan (s : State) (a : Nat) (v : Word) : (s.setReg a v).chan = s.chan := rfl
@[simp] theorem State.setReg_srvAx (s : State) (a : Nat) (v : Word) : (s.setReg a v).srvAx = s.srvAx := rfl
@[simp] theorem State.setReg_srvCh (s : State) (a : Nat) (v : Word) : (s.setReg a v).srvCh = s.srvCh := rfl
@[simp] theorem State.setReg_srv (s : State) (a : Nat) (v : Word) : (s.setReg a v).srv = s.srv := rfl
@[simp] theorem State.setReg_lsr (s : State) (a : Nat) (v : Word) : (s.setReg a v).lsr = s.lsr := rfl
@[simp] theorem State.setReg_hoop (s : State) (a : Nat) (v : Word) : (s.setReg a v).hoop = s.hoop := rfl
@[simp] theorem State.setReg_port (s : State) (a : Nat) (v : Word) : (s.setReg a v).port = s.port := rfl
@[simp] theorem State.setReg_bulk (s : State) (a : Nat) (v : Word) : (s.setReg a v).bulk = s.bulk := rfl
@[simp] theorem State.setReg_dom (s : State) (a : Nat) (v : Word) : (s.setReg a v).dom = s.dom := rfl
@[simp] theorem State.setReg_time (s : State) (a : Nat) (v : Word) : (s.setReg a v).time = s.time := rfl
@[simp] theorem State.setReg_mot (s : State) (a : Nat) (v : Word) : (s.setReg a v).mot = s.mot := rfl
@[simp] theorem State.setReg_fbk (s : State) (a : Nat) (v : Word) : (s.setReg a v).fbk = s.fbk := rfl
@[simp] theorem State.setReg_cam (s : State) (a : Nat) (v : Word) : (s.setReg a v).cam = s.cam := rfl
@[simp] theorem State.setReg_pipe (s : State) (a : Nat) (v : Word) : (s.setReg a v).pipe = s.pipe := rfl
@[simp] theorem State.setReg_lgt (s : State) (a : Nat) (v : Word) : (s.setReg a v).lgt = s.lgt := rfl
@[simp] theorem State.setReg_strobe (s : State) (a : Nat) (v : Word) : (s.setReg a v).strobe = s.strobe := rfl
@[simp] theorem State.setReg_lane (s : State) (a : Nat) (v : Word) : (s.setReg a v).lane = s.lane := rfl
@[simp] theorem State.setReg_head (s : State) (a : Nat) (v : Word) : (s.setReg a v).head = s.head := rfl
@[simp] theorem State.setReg_dma (s : State) (a : Nat) (v : Word) : (s.setReg a v).dma = s.dma := rfl
@[simp] theorem State.setReg_dmaEng (s : State) (a : Nat) (v : Word) : (s.setReg a v).dmaEng = s.dmaEng := rfl
@[simp] theorem State.setReg_pci (s : State) (a : Nat) (v : Word) : (s.setReg a v).pci = s.pci := rfl
@[simp] theorem State.setReg_eth (s : State) (a : Nat) (v : Word) : (s.setReg a v).eth = s.eth := rfl
@[simp] theorem State.setReg_ddr (s : State) (a : Nat) (v : Word) : (s.setReg a v).ddr = s.ddr := rfl
@[simp] theorem State.setReg_intg (s : State) (a : Nat) (v : Word) : (s.setReg a v).intg = s.intg := rfl
@[simp] theorem State.setReg_cal (s : State) (a : Nat) (v : Word) : (s.setReg a v).cal = s.cal := rfl
@[simp] theorem State.setReg_pwr (s : State) (a : Nat) (v : Word) : (s.setReg a v).pwr = s.pwr := rfl
@[simp] theorem State.setReg_hk (s : State) (a : Nat) (v : Word) : (s.setReg a v).hk = s.hk := rfl
@[simp] theorem State.setReg_cave (s : State) (a : Nat) (v : Word) : (s.setReg a v).cave = s.cave := rfl
@[simp] theorem State.setReg_boot (s : State) (a : Nat) (v : Word) : (s.setReg a v).boot = s.boot := rfl
@[simp] theorem State.setReg_pins (s : State) (a : Nat) (v : Word) : (s.setReg a v).pins = s.pins := rfl
@[simp] theorem State.setReg_xbar (s : State) (a : Nat) (v : Word) : (s.setReg a v).xbar = s.xbar := rfl
@[simp] theorem State.setReg_free (s : State) (a : Nat) (v : Word) : (s.setReg a v).free = s.free := rfl
@[simp] theorem State.setReg_out (s : State) (a : Nat) (v : Word) : (s.setReg a v).out = s.out := rfl

@[simp] theorem State.modCh_pending (s : State) (n : Nat) (f : Chan → Chan) : (s.modCh n f).pending = s.pending := rfl
@[simp] theorem State.modCh_variant (s : State) (n : Nat) (f : Chan → Chan) : (s.modCh n f).variant = s.variant := rfl
@[simp] theorem State.modCh_regs (s : State) (n : Nat) (f : Chan → Chan) : (s.modCh n f).regs = s.regs := rfl
@[simp] theorem State.modCh_dram (s : State) (n : Nat) (f : Chan → Chan) : (s.modCh n f).dram = s.dram := rfl
@[simp] theorem State.modCh_l2 (s : State) (n : Nat) (f : Chan → Chan) : (s.modCh n f).l2 = s.l2 := rfl
@[simp] theorem State.modCh_shadow (s : State) (n : Nat) (f : Chan → Chan) : (s.modCh n f).shadow = s.shadow := rfl
@[simp] theorem State.modCh_staged (s : State) (n : Nat) (f : Chan → Chan) : (s.modCh n f).staged = s.staged := rfl
@[simp] theorem State.modCh_readData (s : State) (n : Nat) (f : Chan → Chan) : (s.modCh n f).readData = s.readData := rfl
@[simp] theorem State.modCh_grp (s : State) (n : Nat) (f : Chan → Chan) : (s.modCh n f).grp = s.grp := rfl
@[simp] theorem State.modCh_armUndo (s : State) (n : Nat) (f : Chan → Chan) : (s.modCh n f).armUndo = s.armUndo := rfl
@[simp] theorem State.modCh_srvAx (s : State) (n : Nat) (f : Chan → Chan) : (s.modCh n f).srvAx = s.srvAx := rfl
@[simp] theorem State.modCh_srvCh (s : State) (n : Nat) (f : Chan → Chan) : (s.modCh n f).srvCh = s.srvCh := rfl
@[simp] theorem State.modCh_srv (s : State) (n : Nat) (f : Chan → Chan) : (s.modCh n f).srv = s.srv := rfl
@[simp] theorem State.modCh_lsr (s : State) (n : Nat) (f : Chan → Chan) : (s.modCh n f).lsr = s.lsr := rfl
@[simp] theorem State.modCh_hoop (s : State) (n : Nat) (f : Chan → Chan) : (s.modCh n f).hoop = s.hoop := rfl
@[simp] theorem State.modCh_port (s : State) (n : Nat) (f : Chan → Chan) : (s.modCh n f).port = s.port := rfl
@[simp] theorem State.modCh_bulk (s : State) (n : Nat) (f : Chan → Chan) : (s.modCh n f).bulk = s.bulk := rfl
@[simp] theorem State.modCh_dom (s : State) (n : Nat) (f : Chan → Chan) : (s.modCh n f).dom = s.dom := rfl
@[simp] theorem State.modCh_time (s : State) (n : Nat) (f : Chan → Chan) : (s.modCh n f).time = s.time := rfl
@[simp] theorem State.modCh_mot (s : State) (n : Nat) (f : Chan → Chan) : (s.modCh n f).mot = s.mot := rfl
@[simp] theorem State.modCh_fbk (s : State) (n : Nat) (f : Chan → Chan) : (s.modCh n f).fbk = s.fbk := rfl
@[simp] theorem State.modCh_cam (s : State) (n : Nat) (f : Chan → Chan) : (s.modCh n f).cam = s.cam := rfl
@[simp] theorem State.modCh_pipe (s : State) (n : Nat) (f : Chan → Chan) : (s.modCh n f).pipe = s.pipe := rfl
@[simp] theorem State.modCh_lgt (s : State) (n : Nat) (f : Chan → Chan) : (s.modCh n f).lgt = s.lgt := rfl
@[simp] theorem State.modCh_strobe (s : State) (n : Nat) (f : Chan → Chan) : (s.modCh n f).strobe = s.strobe := rfl
@[simp] theorem State.modCh_lane (s : State) (n : Nat) (f : Chan → Chan) : (s.modCh n f).lane = s.lane := rfl
@[simp] theorem State.modCh_head (s : State) (n : Nat) (f : Chan → Chan) : (s.modCh n f).head = s.head := rfl
@[simp] theorem State.modCh_dma (s : State) (n : Nat) (f : Chan → Chan) : (s.modCh n f).dma = s.dma := rfl
@[simp] theorem State.modCh_dmaEng (s : State) (n : Nat) (f : Chan → Chan) : (s.modCh n f).dmaEng = s.dmaEng := rfl
@[simp] theorem State.modCh_pci (s : State) (n : Nat) (f : Chan → Chan) : (s.modCh n f).pci = s.pci := rfl
@[simp] theorem State.modCh_eth (s : State) (n : Nat) (f : Chan → Chan) : (s.modCh n f).eth = s.eth := rfl
@[simp] theorem State.modCh_ddr (s : State) (n : Nat) (f : Chan → Chan) : (s.modCh n f).ddr = s.ddr := rfl
@[simp] theorem State.modCh_intg (s : State) (n : Nat) (f : Chan → Chan) : (s.modCh n f).intg = s.intg := rfl
@[simp] theorem State.modCh_cal (s : State) (n : Nat) (f : Chan → Chan) : (s.modCh n f).cal = s.cal := rfl
@[simp] theorem State.modCh_pwr (s : State) (n : Nat) (f : Chan → Chan) : (s.modCh n f).pwr = s.pwr := rfl
@[simp] theorem State.modCh_hk (s : State) (n : Nat) (f : Chan → Chan) : (s.modCh n f).hk = s.hk := rfl
@[simp] theorem State.modCh_cave (s : State) (n : Nat) (f : Chan → Chan) : (s.modCh n f).cave = s.cave := rfl
@[simp] theorem State.modCh_boot (s : State) (n : Nat) (f : Chan → Chan) : (s.modCh n f).boot = s.boot := rfl
@[simp] theorem State.modCh_pins (s : State) (n : Nat) (f : Chan → Chan) : (s.modCh n f).pins = s.pins := rfl
@[simp] theorem State.modCh_xbar (s : State) (n : Nat) (f : Chan → Chan) : (s.modCh n f).xbar = s.xbar := rfl
@[simp] theorem State.modCh_free (s : State) (n : Nat) (f : Chan → Chan) : (s.modCh n f).free = s.free := rfl
@[simp] theorem State.modCh_out (s : State) (n : Nat) (f : Chan → Chan) : (s.modCh n f).out = s.out := rfl

@[simp] theorem State.modAx_pending (s : State) (n : Nat) (f : Axis → Axis) : (s.modAx n f).pending = s.pending := rfl
@[simp] theorem State.modAx_variant (s : State) (n : Nat) (f : Axis → Axis) : (s.modAx n f).variant = s.variant := rfl
@[simp] theorem State.modAx_regs (s : State) (n : Nat) (f : Axis → Axis) : (s.modAx n f).regs = s.regs := rfl
@[simp] theorem State.modAx_dram (s : State) (n : Nat) (f : Axis → Axis) : (s.modAx n f).dram = s.dram := rfl
@[simp] theorem State.modAx_l2 (s : State) (n : Nat) (f : Axis → Axis) : (s.modAx n f).l2 = s.l2 := rfl
@[simp] theorem State.modAx_shadow (s : State) (n : Nat) (f : Axis → Axis) : (s.modAx n f).shadow = s.shadow := rfl
@[simp] theorem State.modAx_staged (s : State) (n : Nat) (f : Axis → Axis) : (s.modAx n f).staged = s.staged := rfl
@[simp] theorem State.modAx_readData (s : State) (n : Nat) (f : Axis → Axis) : (s.modAx n f).readData = s.readData := rfl
@[simp] theorem State.modAx_grp (s : State) (n : Nat) (f : Axis → Axis) : (s.modAx n f).grp = s.grp := rfl
@[simp] theorem State.modAx_armUndo (s : State) (n : Nat) (f : Axis → Axis) : (s.modAx n f).armUndo = s.armUndo := rfl
@[simp] theorem State.modAx_chan (s : State) (n : Nat) (f : Axis → Axis) : (s.modAx n f).chan = s.chan := rfl
@[simp] theorem State.modAx_srvCh (s : State) (n : Nat) (f : Axis → Axis) : (s.modAx n f).srvCh = s.srvCh := rfl
@[simp] theorem State.modAx_srv (s : State) (n : Nat) (f : Axis → Axis) : (s.modAx n f).srv = s.srv := rfl
@[simp] theorem State.modAx_lsr (s : State) (n : Nat) (f : Axis → Axis) : (s.modAx n f).lsr = s.lsr := rfl
@[simp] theorem State.modAx_hoop (s : State) (n : Nat) (f : Axis → Axis) : (s.modAx n f).hoop = s.hoop := rfl
@[simp] theorem State.modAx_port (s : State) (n : Nat) (f : Axis → Axis) : (s.modAx n f).port = s.port := rfl
@[simp] theorem State.modAx_bulk (s : State) (n : Nat) (f : Axis → Axis) : (s.modAx n f).bulk = s.bulk := rfl
@[simp] theorem State.modAx_dom (s : State) (n : Nat) (f : Axis → Axis) : (s.modAx n f).dom = s.dom := rfl
@[simp] theorem State.modAx_time (s : State) (n : Nat) (f : Axis → Axis) : (s.modAx n f).time = s.time := rfl
@[simp] theorem State.modAx_mot (s : State) (n : Nat) (f : Axis → Axis) : (s.modAx n f).mot = s.mot := rfl
@[simp] theorem State.modAx_fbk (s : State) (n : Nat) (f : Axis → Axis) : (s.modAx n f).fbk = s.fbk := rfl
@[simp] theorem State.modAx_cam (s : State) (n : Nat) (f : Axis → Axis) : (s.modAx n f).cam = s.cam := rfl
@[simp] theorem State.modAx_pipe (s : State) (n : Nat) (f : Axis → Axis) : (s.modAx n f).pipe = s.pipe := rfl
@[simp] theorem State.modAx_lgt (s : State) (n : Nat) (f : Axis → Axis) : (s.modAx n f).lgt = s.lgt := rfl
@[simp] theorem State.modAx_strobe (s : State) (n : Nat) (f : Axis → Axis) : (s.modAx n f).strobe = s.strobe := rfl
@[simp] theorem State.modAx_lane (s : State) (n : Nat) (f : Axis → Axis) : (s.modAx n f).lane = s.lane := rfl
@[simp] theorem State.modAx_head (s : State) (n : Nat) (f : Axis → Axis) : (s.modAx n f).head = s.head := rfl
@[simp] theorem State.modAx_dma (s : State) (n : Nat) (f : Axis → Axis) : (s.modAx n f).dma = s.dma := rfl
@[simp] theorem State.modAx_dmaEng (s : State) (n : Nat) (f : Axis → Axis) : (s.modAx n f).dmaEng = s.dmaEng := rfl
@[simp] theorem State.modAx_pci (s : State) (n : Nat) (f : Axis → Axis) : (s.modAx n f).pci = s.pci := rfl
@[simp] theorem State.modAx_eth (s : State) (n : Nat) (f : Axis → Axis) : (s.modAx n f).eth = s.eth := rfl
@[simp] theorem State.modAx_ddr (s : State) (n : Nat) (f : Axis → Axis) : (s.modAx n f).ddr = s.ddr := rfl
@[simp] theorem State.modAx_intg (s : State) (n : Nat) (f : Axis → Axis) : (s.modAx n f).intg = s.intg := rfl
@[simp] theorem State.modAx_cal (s : State) (n : Nat) (f : Axis → Axis) : (s.modAx n f).cal = s.cal := rfl
@[simp] theorem State.modAx_pwr (s : State) (n : Nat) (f : Axis → Axis) : (s.modAx n f).pwr = s.pwr := rfl
@[simp] theorem State.modAx_hk (s : State) (n : Nat) (f : Axis → Axis) : (s.modAx n f).hk = s.hk := rfl
@[simp] theorem State.modAx_cave (s : State) (n : Nat) (f : Axis → Axis) : (s.modAx n f).cave = s.cave := rfl
@[simp] theorem State.modAx_boot (s : State) (n : Nat) (f : Axis → Axis) : (s.modAx n f).boot = s.boot := rfl
@[simp] theorem State.modAx_pins (s : State) (n : Nat) (f : Axis → Axis) : (s.modAx n f).pins = s.pins := rfl
@[simp] theorem State.modAx_xbar (s : State) (n : Nat) (f : Axis → Axis) : (s.modAx n f).xbar = s.xbar := rfl
@[simp] theorem State.modAx_free (s : State) (n : Nat) (f : Axis → Axis) : (s.modAx n f).free = s.free := rfl
@[simp] theorem State.modAx_out (s : State) (n : Nat) (f : Axis → Axis) : (s.modAx n f).out = s.out := rfl

@[simp] theorem State.modSc_pending (s : State) (n : Nat) (f : ServoCh → ServoCh) : (s.modSc n f).pending = s.pending := rfl
@[simp] theorem State.modSc_variant (s : State) (n : Nat) (f : ServoCh → ServoCh) : (s.modSc n f).variant = s.variant := rfl
@[simp] theorem State.modSc_regs (s : State) (n : Nat) (f : ServoCh → ServoCh) : (s.modSc n f).regs = s.regs := rfl
@[simp] theorem State.modSc_dram (s : State) (n : Nat) (f : ServoCh → ServoCh) : (s.modSc n f).dram = s.dram := rfl
@[simp] theorem State.modSc_l2 (s : State) (n : Nat) (f : ServoCh → ServoCh) : (s.modSc n f).l2 = s.l2 := rfl
@[simp] theorem State.modSc_shadow (s : State) (n : Nat) (f : ServoCh → ServoCh) : (s.modSc n f).shadow = s.shadow := rfl
@[simp] theorem State.modSc_staged (s : State) (n : Nat) (f : ServoCh → ServoCh) : (s.modSc n f).staged = s.staged := rfl
@[simp] theorem State.modSc_readData (s : State) (n : Nat) (f : ServoCh → ServoCh) : (s.modSc n f).readData = s.readData := rfl
@[simp] theorem State.modSc_grp (s : State) (n : Nat) (f : ServoCh → ServoCh) : (s.modSc n f).grp = s.grp := rfl
@[simp] theorem State.modSc_armUndo (s : State) (n : Nat) (f : ServoCh → ServoCh) : (s.modSc n f).armUndo = s.armUndo := rfl
@[simp] theorem State.modSc_chan (s : State) (n : Nat) (f : ServoCh → ServoCh) : (s.modSc n f).chan = s.chan := rfl
@[simp] theorem State.modSc_srvAx (s : State) (n : Nat) (f : ServoCh → ServoCh) : (s.modSc n f).srvAx = s.srvAx := rfl
@[simp] theorem State.modSc_srv (s : State) (n : Nat) (f : ServoCh → ServoCh) : (s.modSc n f).srv = s.srv := rfl
@[simp] theorem State.modSc_lsr (s : State) (n : Nat) (f : ServoCh → ServoCh) : (s.modSc n f).lsr = s.lsr := rfl
@[simp] theorem State.modSc_hoop (s : State) (n : Nat) (f : ServoCh → ServoCh) : (s.modSc n f).hoop = s.hoop := rfl
@[simp] theorem State.modSc_port (s : State) (n : Nat) (f : ServoCh → ServoCh) : (s.modSc n f).port = s.port := rfl
@[simp] theorem State.modSc_bulk (s : State) (n : Nat) (f : ServoCh → ServoCh) : (s.modSc n f).bulk = s.bulk := rfl
@[simp] theorem State.modSc_dom (s : State) (n : Nat) (f : ServoCh → ServoCh) : (s.modSc n f).dom = s.dom := rfl
@[simp] theorem State.modSc_time (s : State) (n : Nat) (f : ServoCh → ServoCh) : (s.modSc n f).time = s.time := rfl
@[simp] theorem State.modSc_mot (s : State) (n : Nat) (f : ServoCh → ServoCh) : (s.modSc n f).mot = s.mot := rfl
@[simp] theorem State.modSc_fbk (s : State) (n : Nat) (f : ServoCh → ServoCh) : (s.modSc n f).fbk = s.fbk := rfl
@[simp] theorem State.modSc_cam (s : State) (n : Nat) (f : ServoCh → ServoCh) : (s.modSc n f).cam = s.cam := rfl
@[simp] theorem State.modSc_pipe (s : State) (n : Nat) (f : ServoCh → ServoCh) : (s.modSc n f).pipe = s.pipe := rfl
@[simp] theorem State.modSc_lgt (s : State) (n : Nat) (f : ServoCh → ServoCh) : (s.modSc n f).lgt = s.lgt := rfl
@[simp] theorem State.modSc_strobe (s : State) (n : Nat) (f : ServoCh → ServoCh) : (s.modSc n f).strobe = s.strobe := rfl
@[simp] theorem State.modSc_lane (s : State) (n : Nat) (f : ServoCh → ServoCh) : (s.modSc n f).lane = s.lane := rfl
@[simp] theorem State.modSc_head (s : State) (n : Nat) (f : ServoCh → ServoCh) : (s.modSc n f).head = s.head := rfl
@[simp] theorem State.modSc_dma (s : State) (n : Nat) (f : ServoCh → ServoCh) : (s.modSc n f).dma = s.dma := rfl
@[simp] theorem State.modSc_dmaEng (s : State) (n : Nat) (f : ServoCh → ServoCh) : (s.modSc n f).dmaEng = s.dmaEng := rfl
@[simp] theorem State.modSc_pci (s : State) (n : Nat) (f : ServoCh → ServoCh) : (s.modSc n f).pci = s.pci := rfl
@[simp] theorem State.modSc_eth (s : State) (n : Nat) (f : ServoCh → ServoCh) : (s.modSc n f).eth = s.eth := rfl
@[simp] theorem State.modSc_ddr (s : State) (n : Nat) (f : ServoCh → ServoCh) : (s.modSc n f).ddr = s.ddr := rfl
@[simp] theorem State.modSc_intg (s : State) (n : Nat) (f : ServoCh → ServoCh) : (s.modSc n f).intg = s.intg := rfl
@[simp] theorem State.modSc_cal (s : State) (n : Nat) (f : ServoCh → ServoCh) : (s.modSc n f).cal = s.cal := rfl
@[simp] theorem State.modSc_pwr (s : State) (n : Nat) (f : ServoCh → ServoCh) : (s.modSc n f).pwr = s.pwr := rfl
@[simp] theorem State.modSc_hk (s : State) (n : Nat) (f : ServoCh → ServoCh) : (s.modSc n f).hk = s.hk := rfl
@[simp] theorem State.modSc_cave (s : State) (n : Nat) (f : ServoCh → ServoCh) : (s.modSc n f).cave = s.cave := rfl
@[simp] theorem State.modSc_boot (s : State) (n : Nat) (f : ServoCh → ServoCh) : (s.modSc n f).boot = s.boot := rfl
@[simp] theorem State.modSc_pins (s : State) (n : Nat) (f : ServoCh → ServoCh) : (s.modSc n f).pins = s.pins := rfl
@[simp] theorem State.modSc_xbar (s : State) (n : Nat) (f : ServoCh → ServoCh) : (s.modSc n f).xbar = s.xbar := rfl
@[simp] theorem State.modSc_free (s : State) (n : Nat) (f : ServoCh → ServoCh) : (s.modSc n f).free = s.free := rfl
@[simp] theorem State.modSc_out (s : State) (n : Nat) (f : ServoCh → ServoCh) : (s.modSc n f).out = s.out := rfl

@[simp] theorem State.modLs_pending (s : State) (n : Nat) (f : Laser → Laser) : (s.modLs n f).pending = s.pending := rfl
@[simp] theorem State.modLs_variant (s : State) (n : Nat) (f : Laser → Laser) : (s.modLs n f).variant = s.variant := rfl
@[simp] theorem State.modLs_regs (s : State) (n : Nat) (f : Laser → Laser) : (s.modLs n f).regs = s.regs := rfl
@[simp] theorem State.modLs_dram (s : State) (n : Nat) (f : Laser → Laser) : (s.modLs n f).dram = s.dram := rfl
@[simp] theorem State.modLs_l2 (s : State) (n : Nat) (f : Laser → Laser) : (s.modLs n f).l2 = s.l2 := rfl
@[simp] theorem State.modLs_shadow (s : State) (n : Nat) (f : Laser → Laser) : (s.modLs n f).shadow = s.shadow := rfl
@[simp] theorem State.modLs_staged (s : State) (n : Nat) (f : Laser → Laser) : (s.modLs n f).staged = s.staged := rfl
@[simp] theorem State.modLs_readData (s : State) (n : Nat) (f : Laser → Laser) : (s.modLs n f).readData = s.readData := rfl
@[simp] theorem State.modLs_grp (s : State) (n : Nat) (f : Laser → Laser) : (s.modLs n f).grp = s.grp := rfl
@[simp] theorem State.modLs_armUndo (s : State) (n : Nat) (f : Laser → Laser) : (s.modLs n f).armUndo = s.armUndo := rfl
@[simp] theorem State.modLs_chan (s : State) (n : Nat) (f : Laser → Laser) : (s.modLs n f).chan = s.chan := rfl
@[simp] theorem State.modLs_srvAx (s : State) (n : Nat) (f : Laser → Laser) : (s.modLs n f).srvAx = s.srvAx := rfl
@[simp] theorem State.modLs_srvCh (s : State) (n : Nat) (f : Laser → Laser) : (s.modLs n f).srvCh = s.srvCh := rfl
@[simp] theorem State.modLs_srv (s : State) (n : Nat) (f : Laser → Laser) : (s.modLs n f).srv = s.srv := rfl
@[simp] theorem State.modLs_hoop (s : State) (n : Nat) (f : Laser → Laser) : (s.modLs n f).hoop = s.hoop := rfl
@[simp] theorem State.modLs_port (s : State) (n : Nat) (f : Laser → Laser) : (s.modLs n f).port = s.port := rfl
@[simp] theorem State.modLs_bulk (s : State) (n : Nat) (f : Laser → Laser) : (s.modLs n f).bulk = s.bulk := rfl
@[simp] theorem State.modLs_dom (s : State) (n : Nat) (f : Laser → Laser) : (s.modLs n f).dom = s.dom := rfl
@[simp] theorem State.modLs_time (s : State) (n : Nat) (f : Laser → Laser) : (s.modLs n f).time = s.time := rfl
@[simp] theorem State.modLs_mot (s : State) (n : Nat) (f : Laser → Laser) : (s.modLs n f).mot = s.mot := rfl
@[simp] theorem State.modLs_fbk (s : State) (n : Nat) (f : Laser → Laser) : (s.modLs n f).fbk = s.fbk := rfl
@[simp] theorem State.modLs_cam (s : State) (n : Nat) (f : Laser → Laser) : (s.modLs n f).cam = s.cam := rfl
@[simp] theorem State.modLs_pipe (s : State) (n : Nat) (f : Laser → Laser) : (s.modLs n f).pipe = s.pipe := rfl
@[simp] theorem State.modLs_lgt (s : State) (n : Nat) (f : Laser → Laser) : (s.modLs n f).lgt = s.lgt := rfl
@[simp] theorem State.modLs_strobe (s : State) (n : Nat) (f : Laser → Laser) : (s.modLs n f).strobe = s.strobe := rfl
@[simp] theorem State.modLs_lane (s : State) (n : Nat) (f : Laser → Laser) : (s.modLs n f).lane = s.lane := rfl
@[simp] theorem State.modLs_head (s : State) (n : Nat) (f : Laser → Laser) : (s.modLs n f).head = s.head := rfl
@[simp] theorem State.modLs_dma (s : State) (n : Nat) (f : Laser → Laser) : (s.modLs n f).dma = s.dma := rfl
@[simp] theorem State.modLs_dmaEng (s : State) (n : Nat) (f : Laser → Laser) : (s.modLs n f).dmaEng = s.dmaEng := rfl
@[simp] theorem State.modLs_pci (s : State) (n : Nat) (f : Laser → Laser) : (s.modLs n f).pci = s.pci := rfl
@[simp] theorem State.modLs_eth (s : State) (n : Nat) (f : Laser → Laser) : (s.modLs n f).eth = s.eth := rfl
@[simp] theorem State.modLs_ddr (s : State) (n : Nat) (f : Laser → Laser) : (s.modLs n f).ddr = s.ddr := rfl
@[simp] theorem State.modLs_intg (s : State) (n : Nat) (f : Laser → Laser) : (s.modLs n f).intg = s.intg := rfl
@[simp] theorem State.modLs_cal (s : State) (n : Nat) (f : Laser → Laser) : (s.modLs n f).cal = s.cal := rfl
@[simp] theorem State.modLs_pwr (s : State) (n : Nat) (f : Laser → Laser) : (s.modLs n f).pwr = s.pwr := rfl
@[simp] theorem State.modLs_hk (s : State) (n : Nat) (f : Laser → Laser) : (s.modLs n f).hk = s.hk := rfl
@[simp] theorem State.modLs_cave (s : State) (n : Nat) (f : Laser → Laser) : (s.modLs n f).cave = s.cave := rfl
@[simp] theorem State.modLs_boot (s : State) (n : Nat) (f : Laser → Laser) : (s.modLs n f).boot = s.boot := rfl
@[simp] theorem State.modLs_pins (s : State) (n : Nat) (f : Laser → Laser) : (s.modLs n f).pins = s.pins := rfl
@[simp] theorem State.modLs_xbar (s : State) (n : Nat) (f : Laser → Laser) : (s.modLs n f).xbar = s.xbar := rfl
@[simp] theorem State.modLs_free (s : State) (n : Nat) (f : Laser → Laser) : (s.modLs n f).free = s.free := rfl
@[simp] theorem State.modLs_out (s : State) (n : Nat) (f : Laser → Laser) : (s.modLs n f).out = s.out := rfl

@[simp] theorem State.modPt_pending (s : State) (n : Nat) (f : HoopPort → HoopPort) : (s.modPt n f).pending = s.pending := rfl
@[simp] theorem State.modPt_variant (s : State) (n : Nat) (f : HoopPort → HoopPort) : (s.modPt n f).variant = s.variant := rfl
@[simp] theorem State.modPt_regs (s : State) (n : Nat) (f : HoopPort → HoopPort) : (s.modPt n f).regs = s.regs := rfl
@[simp] theorem State.modPt_dram (s : State) (n : Nat) (f : HoopPort → HoopPort) : (s.modPt n f).dram = s.dram := rfl
@[simp] theorem State.modPt_l2 (s : State) (n : Nat) (f : HoopPort → HoopPort) : (s.modPt n f).l2 = s.l2 := rfl
@[simp] theorem State.modPt_shadow (s : State) (n : Nat) (f : HoopPort → HoopPort) : (s.modPt n f).shadow = s.shadow := rfl
@[simp] theorem State.modPt_staged (s : State) (n : Nat) (f : HoopPort → HoopPort) : (s.modPt n f).staged = s.staged := rfl
@[simp] theorem State.modPt_readData (s : State) (n : Nat) (f : HoopPort → HoopPort) : (s.modPt n f).readData = s.readData := rfl
@[simp] theorem State.modPt_grp (s : State) (n : Nat) (f : HoopPort → HoopPort) : (s.modPt n f).grp = s.grp := rfl
@[simp] theorem State.modPt_armUndo (s : State) (n : Nat) (f : HoopPort → HoopPort) : (s.modPt n f).armUndo = s.armUndo := rfl
@[simp] theorem State.modPt_chan (s : State) (n : Nat) (f : HoopPort → HoopPort) : (s.modPt n f).chan = s.chan := rfl
@[simp] theorem State.modPt_srvAx (s : State) (n : Nat) (f : HoopPort → HoopPort) : (s.modPt n f).srvAx = s.srvAx := rfl
@[simp] theorem State.modPt_srvCh (s : State) (n : Nat) (f : HoopPort → HoopPort) : (s.modPt n f).srvCh = s.srvCh := rfl
@[simp] theorem State.modPt_srv (s : State) (n : Nat) (f : HoopPort → HoopPort) : (s.modPt n f).srv = s.srv := rfl
@[simp] theorem State.modPt_lsr (s : State) (n : Nat) (f : HoopPort → HoopPort) : (s.modPt n f).lsr = s.lsr := rfl
@[simp] theorem State.modPt_hoop (s : State) (n : Nat) (f : HoopPort → HoopPort) : (s.modPt n f).hoop = s.hoop := rfl
@[simp] theorem State.modPt_bulk (s : State) (n : Nat) (f : HoopPort → HoopPort) : (s.modPt n f).bulk = s.bulk := rfl
@[simp] theorem State.modPt_dom (s : State) (n : Nat) (f : HoopPort → HoopPort) : (s.modPt n f).dom = s.dom := rfl
@[simp] theorem State.modPt_time (s : State) (n : Nat) (f : HoopPort → HoopPort) : (s.modPt n f).time = s.time := rfl
@[simp] theorem State.modPt_mot (s : State) (n : Nat) (f : HoopPort → HoopPort) : (s.modPt n f).mot = s.mot := rfl
@[simp] theorem State.modPt_fbk (s : State) (n : Nat) (f : HoopPort → HoopPort) : (s.modPt n f).fbk = s.fbk := rfl
@[simp] theorem State.modPt_cam (s : State) (n : Nat) (f : HoopPort → HoopPort) : (s.modPt n f).cam = s.cam := rfl
@[simp] theorem State.modPt_pipe (s : State) (n : Nat) (f : HoopPort → HoopPort) : (s.modPt n f).pipe = s.pipe := rfl
@[simp] theorem State.modPt_lgt (s : State) (n : Nat) (f : HoopPort → HoopPort) : (s.modPt n f).lgt = s.lgt := rfl
@[simp] theorem State.modPt_strobe (s : State) (n : Nat) (f : HoopPort → HoopPort) : (s.modPt n f).strobe = s.strobe := rfl
@[simp] theorem State.modPt_lane (s : State) (n : Nat) (f : HoopPort → HoopPort) : (s.modPt n f).lane = s.lane := rfl
@[simp] theorem State.modPt_head (s : State) (n : Nat) (f : HoopPort → HoopPort) : (s.modPt n f).head = s.head := rfl
@[simp] theorem State.modPt_dma (s : State) (n : Nat) (f : HoopPort → HoopPort) : (s.modPt n f).dma = s.dma := rfl
@[simp] theorem State.modPt_dmaEng (s : State) (n : Nat) (f : HoopPort → HoopPort) : (s.modPt n f).dmaEng = s.dmaEng := rfl
@[simp] theorem State.modPt_pci (s : State) (n : Nat) (f : HoopPort → HoopPort) : (s.modPt n f).pci = s.pci := rfl
@[simp] theorem State.modPt_eth (s : State) (n : Nat) (f : HoopPort → HoopPort) : (s.modPt n f).eth = s.eth := rfl
@[simp] theorem State.modPt_ddr (s : State) (n : Nat) (f : HoopPort → HoopPort) : (s.modPt n f).ddr = s.ddr := rfl
@[simp] theorem State.modPt_intg (s : State) (n : Nat) (f : HoopPort → HoopPort) : (s.modPt n f).intg = s.intg := rfl
@[simp] theorem State.modPt_cal (s : State) (n : Nat) (f : HoopPort → HoopPort) : (s.modPt n f).cal = s.cal := rfl
@[simp] theorem State.modPt_pwr (s : State) (n : Nat) (f : HoopPort → HoopPort) : (s.modPt n f).pwr = s.pwr := rfl
@[simp] theorem State.modPt_hk (s : State) (n : Nat) (f : HoopPort → HoopPort) : (s.modPt n f).hk = s.hk := rfl
@[simp] theorem State.modPt_cave (s : State) (n : Nat) (f : HoopPort → HoopPort) : (s.modPt n f).cave = s.cave := rfl
@[simp] theorem State.modPt_boot (s : State) (n : Nat) (f : HoopPort → HoopPort) : (s.modPt n f).boot = s.boot := rfl
@[simp] theorem State.modPt_pins (s : State) (n : Nat) (f : HoopPort → HoopPort) : (s.modPt n f).pins = s.pins := rfl
@[simp] theorem State.modPt_xbar (s : State) (n : Nat) (f : HoopPort → HoopPort) : (s.modPt n f).xbar = s.xbar := rfl
@[simp] theorem State.modPt_free (s : State) (n : Nat) (f : HoopPort → HoopPort) : (s.modPt n f).free = s.free := rfl
@[simp] theorem State.modPt_out (s : State) (n : Nat) (f : HoopPort → HoopPort) : (s.modPt n f).out = s.out := rfl

@[simp] theorem State.modBk_pending (s : State) (n : Nat) (f : BulkTx → BulkTx) : (s.modBk n f).pending = s.pending := rfl
@[simp] theorem State.modBk_variant (s : State) (n : Nat) (f : BulkTx → BulkTx) : (s.modBk n f).variant = s.variant := rfl
@[simp] theorem State.modBk_regs (s : State) (n : Nat) (f : BulkTx → BulkTx) : (s.modBk n f).regs = s.regs := rfl
@[simp] theorem State.modBk_dram (s : State) (n : Nat) (f : BulkTx → BulkTx) : (s.modBk n f).dram = s.dram := rfl
@[simp] theorem State.modBk_l2 (s : State) (n : Nat) (f : BulkTx → BulkTx) : (s.modBk n f).l2 = s.l2 := rfl
@[simp] theorem State.modBk_shadow (s : State) (n : Nat) (f : BulkTx → BulkTx) : (s.modBk n f).shadow = s.shadow := rfl
@[simp] theorem State.modBk_staged (s : State) (n : Nat) (f : BulkTx → BulkTx) : (s.modBk n f).staged = s.staged := rfl
@[simp] theorem State.modBk_readData (s : State) (n : Nat) (f : BulkTx → BulkTx) : (s.modBk n f).readData = s.readData := rfl
@[simp] theorem State.modBk_grp (s : State) (n : Nat) (f : BulkTx → BulkTx) : (s.modBk n f).grp = s.grp := rfl
@[simp] theorem State.modBk_armUndo (s : State) (n : Nat) (f : BulkTx → BulkTx) : (s.modBk n f).armUndo = s.armUndo := rfl
@[simp] theorem State.modBk_chan (s : State) (n : Nat) (f : BulkTx → BulkTx) : (s.modBk n f).chan = s.chan := rfl
@[simp] theorem State.modBk_srvAx (s : State) (n : Nat) (f : BulkTx → BulkTx) : (s.modBk n f).srvAx = s.srvAx := rfl
@[simp] theorem State.modBk_srvCh (s : State) (n : Nat) (f : BulkTx → BulkTx) : (s.modBk n f).srvCh = s.srvCh := rfl
@[simp] theorem State.modBk_srv (s : State) (n : Nat) (f : BulkTx → BulkTx) : (s.modBk n f).srv = s.srv := rfl
@[simp] theorem State.modBk_lsr (s : State) (n : Nat) (f : BulkTx → BulkTx) : (s.modBk n f).lsr = s.lsr := rfl
@[simp] theorem State.modBk_hoop (s : State) (n : Nat) (f : BulkTx → BulkTx) : (s.modBk n f).hoop = s.hoop := rfl
@[simp] theorem State.modBk_port (s : State) (n : Nat) (f : BulkTx → BulkTx) : (s.modBk n f).port = s.port := rfl
@[simp] theorem State.modBk_dom (s : State) (n : Nat) (f : BulkTx → BulkTx) : (s.modBk n f).dom = s.dom := rfl
@[simp] theorem State.modBk_time (s : State) (n : Nat) (f : BulkTx → BulkTx) : (s.modBk n f).time = s.time := rfl
@[simp] theorem State.modBk_mot (s : State) (n : Nat) (f : BulkTx → BulkTx) : (s.modBk n f).mot = s.mot := rfl
@[simp] theorem State.modBk_fbk (s : State) (n : Nat) (f : BulkTx → BulkTx) : (s.modBk n f).fbk = s.fbk := rfl
@[simp] theorem State.modBk_cam (s : State) (n : Nat) (f : BulkTx → BulkTx) : (s.modBk n f).cam = s.cam := rfl
@[simp] theorem State.modBk_pipe (s : State) (n : Nat) (f : BulkTx → BulkTx) : (s.modBk n f).pipe = s.pipe := rfl
@[simp] theorem State.modBk_lgt (s : State) (n : Nat) (f : BulkTx → BulkTx) : (s.modBk n f).lgt = s.lgt := rfl
@[simp] theorem State.modBk_strobe (s : State) (n : Nat) (f : BulkTx → BulkTx) : (s.modBk n f).strobe = s.strobe := rfl
@[simp] theorem State.modBk_lane (s : State) (n : Nat) (f : BulkTx → BulkTx) : (s.modBk n f).lane = s.lane := rfl
@[simp] theorem State.modBk_head (s : State) (n : Nat) (f : BulkTx → BulkTx) : (s.modBk n f).head = s.head := rfl
@[simp] theorem State.modBk_dma (s : State) (n : Nat) (f : BulkTx → BulkTx) : (s.modBk n f).dma = s.dma := rfl
@[simp] theorem State.modBk_dmaEng (s : State) (n : Nat) (f : BulkTx → BulkTx) : (s.modBk n f).dmaEng = s.dmaEng := rfl
@[simp] theorem State.modBk_pci (s : State) (n : Nat) (f : BulkTx → BulkTx) : (s.modBk n f).pci = s.pci := rfl
@[simp] theorem State.modBk_eth (s : State) (n : Nat) (f : BulkTx → BulkTx) : (s.modBk n f).eth = s.eth := rfl
@[simp] theorem State.modBk_ddr (s : State) (n : Nat) (f : BulkTx → BulkTx) : (s.modBk n f).ddr = s.ddr := rfl
@[simp] theorem State.modBk_intg (s : State) (n : Nat) (f : BulkTx → BulkTx) : (s.modBk n f).intg = s.intg := rfl
@[simp] theorem State.modBk_cal (s : State) (n : Nat) (f : BulkTx → BulkTx) : (s.modBk n f).cal = s.cal := rfl
@[simp] theorem State.modBk_pwr (s : State) (n : Nat) (f : BulkTx → BulkTx) : (s.modBk n f).pwr = s.pwr := rfl
@[simp] theorem State.modBk_hk (s : State) (n : Nat) (f : BulkTx → BulkTx) : (s.modBk n f).hk = s.hk := rfl
@[simp] theorem State.modBk_cave (s : State) (n : Nat) (f : BulkTx → BulkTx) : (s.modBk n f).cave = s.cave := rfl
@[simp] theorem State.modBk_boot (s : State) (n : Nat) (f : BulkTx → BulkTx) : (s.modBk n f).boot = s.boot := rfl
@[simp] theorem State.modBk_pins (s : State) (n : Nat) (f : BulkTx → BulkTx) : (s.modBk n f).pins = s.pins := rfl
@[simp] theorem State.modBk_xbar (s : State) (n : Nat) (f : BulkTx → BulkTx) : (s.modBk n f).xbar = s.xbar := rfl
@[simp] theorem State.modBk_free (s : State) (n : Nat) (f : BulkTx → BulkTx) : (s.modBk n f).free = s.free := rfl
@[simp] theorem State.modBk_out (s : State) (n : Nat) (f : BulkTx → BulkTx) : (s.modBk n f).out = s.out := rfl

@[simp] theorem State.modDm_pending (s : State) (n : Nat) (f : Domain → Domain) : (s.modDm n f).pending = s.pending := rfl
@[simp] theorem State.modDm_variant (s : State) (n : Nat) (f : Domain → Domain) : (s.modDm n f).variant = s.variant := rfl
@[simp] theorem State.modDm_regs (s : State) (n : Nat) (f : Domain → Domain) : (s.modDm n f).regs = s.regs := rfl
@[simp] theorem State.modDm_dram (s : State) (n : Nat) (f : Domain → Domain) : (s.modDm n f).dram = s.dram := rfl
@[simp] theorem State.modDm_l2 (s : State) (n : Nat) (f : Domain → Domain) : (s.modDm n f).l2 = s.l2 := rfl
@[simp] theorem State.modDm_shadow (s : State) (n : Nat) (f : Domain → Domain) : (s.modDm n f).shadow = s.shadow := rfl
@[simp] theorem State.modDm_staged (s : State) (n : Nat) (f : Domain → Domain) : (s.modDm n f).staged = s.staged := rfl
@[simp] theorem State.modDm_readData (s : State) (n : Nat) (f : Domain → Domain) : (s.modDm n f).readData = s.readData := rfl
@[simp] theorem State.modDm_grp (s : State) (n : Nat) (f : Domain → Domain) : (s.modDm n f).grp = s.grp := rfl
@[simp] theorem State.modDm_armUndo (s : State) (n : Nat) (f : Domain → Domain) : (s.modDm n f).armUndo = s.armUndo := rfl
@[simp] theorem State.modDm_chan (s : State) (n : Nat) (f : Domain → Domain) : (s.modDm n f).chan = s.chan := rfl
@[simp] theorem State.modDm_srvAx (s : State) (n : Nat) (f : Domain → Domain) : (s.modDm n f).srvAx = s.srvAx := rfl
@[simp] theorem State.modDm_srvCh (s : State) (n : Nat) (f : Domain → Domain) : (s.modDm n f).srvCh = s.srvCh := rfl
@[simp] theorem State.modDm_srv (s : State) (n : Nat) (f : Domain → Domain) : (s.modDm n f).srv = s.srv := rfl
@[simp] theorem State.modDm_lsr (s : State) (n : Nat) (f : Domain → Domain) : (s.modDm n f).lsr = s.lsr := rfl
@[simp] theorem State.modDm_hoop (s : State) (n : Nat) (f : Domain → Domain) : (s.modDm n f).hoop = s.hoop := rfl
@[simp] theorem State.modDm_port (s : State) (n : Nat) (f : Domain → Domain) : (s.modDm n f).port = s.port := rfl
@[simp] theorem State.modDm_bulk (s : State) (n : Nat) (f : Domain → Domain) : (s.modDm n f).bulk = s.bulk := rfl
@[simp] theorem State.modDm_time (s : State) (n : Nat) (f : Domain → Domain) : (s.modDm n f).time = s.time := rfl
@[simp] theorem State.modDm_mot (s : State) (n : Nat) (f : Domain → Domain) : (s.modDm n f).mot = s.mot := rfl
@[simp] theorem State.modDm_fbk (s : State) (n : Nat) (f : Domain → Domain) : (s.modDm n f).fbk = s.fbk := rfl
@[simp] theorem State.modDm_cam (s : State) (n : Nat) (f : Domain → Domain) : (s.modDm n f).cam = s.cam := rfl
@[simp] theorem State.modDm_pipe (s : State) (n : Nat) (f : Domain → Domain) : (s.modDm n f).pipe = s.pipe := rfl
@[simp] theorem State.modDm_lgt (s : State) (n : Nat) (f : Domain → Domain) : (s.modDm n f).lgt = s.lgt := rfl
@[simp] theorem State.modDm_strobe (s : State) (n : Nat) (f : Domain → Domain) : (s.modDm n f).strobe = s.strobe := rfl
@[simp] theorem State.modDm_lane (s : State) (n : Nat) (f : Domain → Domain) : (s.modDm n f).lane = s.lane := rfl
@[simp] theorem State.modDm_head (s : State) (n : Nat) (f : Domain → Domain) : (s.modDm n f).head = s.head := rfl
@[simp] theorem State.modDm_dma (s : State) (n : Nat) (f : Domain → Domain) : (s.modDm n f).dma = s.dma := rfl
@[simp] theorem State.modDm_dmaEng (s : State) (n : Nat) (f : Domain → Domain) : (s.modDm n f).dmaEng = s.dmaEng := rfl
@[simp] theorem State.modDm_pci (s : State) (n : Nat) (f : Domain → Domain) : (s.modDm n f).pci = s.pci := rfl
@[simp] theorem State.modDm_eth (s : State) (n : Nat) (f : Domain → Domain) : (s.modDm n f).eth = s.eth := rfl
@[simp] theorem State.modDm_ddr (s : State) (n : Nat) (f : Domain → Domain) : (s.modDm n f).ddr = s.ddr := rfl
@[simp] theorem State.modDm_intg (s : State) (n : Nat) (f : Domain → Domain) : (s.modDm n f).intg = s.intg := rfl
@[simp] theorem State.modDm_cal (s : State) (n : Nat) (f : Domain → Domain) : (s.modDm n f).cal = s.cal := rfl
@[simp] theorem State.modDm_pwr (s : State) (n : Nat) (f : Domain → Domain) : (s.modDm n f).pwr = s.pwr := rfl
@[simp] theorem State.modDm_hk (s : State) (n : Nat) (f : Domain → Domain) : (s.modDm n f).hk = s.hk := rfl
@[simp] theorem State.modDm_cave (s : State) (n : Nat) (f : Domain → Domain) : (s.modDm n f).cave = s.cave := rfl
@[simp] theorem State.modDm_boot (s : State) (n : Nat) (f : Domain → Domain) : (s.modDm n f).boot = s.boot := rfl
@[simp] theorem State.modDm_pins (s : State) (n : Nat) (f : Domain → Domain) : (s.modDm n f).pins = s.pins := rfl
@[simp] theorem State.modDm_xbar (s : State) (n : Nat) (f : Domain → Domain) : (s.modDm n f).xbar = s.xbar := rfl
@[simp] theorem State.modDm_free (s : State) (n : Nat) (f : Domain → Domain) : (s.modDm n f).free = s.free := rfl
@[simp] theorem State.modDm_out (s : State) (n : Nat) (f : Domain → Domain) : (s.modDm n f).out = s.out := rfl

@[simp] theorem State.modMo_pending (s : State) (n : Nat) (f : Motor → Motor) : (s.modMo n f).pending = s.pending := rfl
@[simp] theorem State.modMo_variant (s : State) (n : Nat) (f : Motor → Motor) : (s.modMo n f).variant = s.variant := rfl
@[simp] theorem State.modMo_regs (s : State) (n : Nat) (f : Motor → Motor) : (s.modMo n f).regs = s.regs := rfl
@[simp] theorem State.modMo_dram (s : State) (n : Nat) (f : Motor → Motor) : (s.modMo n f).dram = s.dram := rfl
@[simp] theorem State.modMo_l2 (s : State) (n : Nat) (f : Motor → Motor) : (s.modMo n f).l2 = s.l2 := rfl
@[simp] theorem State.modMo_shadow (s : State) (n : Nat) (f : Motor → Motor) : (s.modMo n f).shadow = s.shadow := rfl
@[simp] theorem State.modMo_staged (s : State) (n : Nat) (f : Motor → Motor) : (s.modMo n f).staged = s.staged := rfl
@[simp] theorem State.modMo_readData (s : State) (n : Nat) (f : Motor → Motor) : (s.modMo n f).readData = s.readData := rfl
@[simp] theorem State.modMo_grp (s : State) (n : Nat) (f : Motor → Motor) : (s.modMo n f).grp = s.grp := rfl
@[simp] theorem State.modMo_armUndo (s : State) (n : Nat) (f : Motor → Motor) : (s.modMo n f).armUndo = s.armUndo := rfl
@[simp] theorem State.modMo_chan (s : State) (n : Nat) (f : Motor → Motor) : (s.modMo n f).chan = s.chan := rfl
@[simp] theorem State.modMo_srvAx (s : State) (n : Nat) (f : Motor → Motor) : (s.modMo n f).srvAx = s.srvAx := rfl
@[simp] theorem State.modMo_srvCh (s : State) (n : Nat) (f : Motor → Motor) : (s.modMo n f).srvCh = s.srvCh := rfl
@[simp] theorem State.modMo_srv (s : State) (n : Nat) (f : Motor → Motor) : (s.modMo n f).srv = s.srv := rfl
@[simp] theorem State.modMo_lsr (s : State) (n : Nat) (f : Motor → Motor) : (s.modMo n f).lsr = s.lsr := rfl
@[simp] theorem State.modMo_hoop (s : State) (n : Nat) (f : Motor → Motor) : (s.modMo n f).hoop = s.hoop := rfl
@[simp] theorem State.modMo_port (s : State) (n : Nat) (f : Motor → Motor) : (s.modMo n f).port = s.port := rfl
@[simp] theorem State.modMo_bulk (s : State) (n : Nat) (f : Motor → Motor) : (s.modMo n f).bulk = s.bulk := rfl
@[simp] theorem State.modMo_dom (s : State) (n : Nat) (f : Motor → Motor) : (s.modMo n f).dom = s.dom := rfl
@[simp] theorem State.modMo_time (s : State) (n : Nat) (f : Motor → Motor) : (s.modMo n f).time = s.time := rfl
@[simp] theorem State.modMo_fbk (s : State) (n : Nat) (f : Motor → Motor) : (s.modMo n f).fbk = s.fbk := rfl
@[simp] theorem State.modMo_cam (s : State) (n : Nat) (f : Motor → Motor) : (s.modMo n f).cam = s.cam := rfl
@[simp] theorem State.modMo_pipe (s : State) (n : Nat) (f : Motor → Motor) : (s.modMo n f).pipe = s.pipe := rfl
@[simp] theorem State.modMo_lgt (s : State) (n : Nat) (f : Motor → Motor) : (s.modMo n f).lgt = s.lgt := rfl
@[simp] theorem State.modMo_strobe (s : State) (n : Nat) (f : Motor → Motor) : (s.modMo n f).strobe = s.strobe := rfl
@[simp] theorem State.modMo_lane (s : State) (n : Nat) (f : Motor → Motor) : (s.modMo n f).lane = s.lane := rfl
@[simp] theorem State.modMo_head (s : State) (n : Nat) (f : Motor → Motor) : (s.modMo n f).head = s.head := rfl
@[simp] theorem State.modMo_dma (s : State) (n : Nat) (f : Motor → Motor) : (s.modMo n f).dma = s.dma := rfl
@[simp] theorem State.modMo_dmaEng (s : State) (n : Nat) (f : Motor → Motor) : (s.modMo n f).dmaEng = s.dmaEng := rfl
@[simp] theorem State.modMo_pci (s : State) (n : Nat) (f : Motor → Motor) : (s.modMo n f).pci = s.pci := rfl
@[simp] theorem State.modMo_eth (s : State) (n : Nat) (f : Motor → Motor) : (s.modMo n f).eth = s.eth := rfl
@[simp] theorem State.modMo_ddr (s : State) (n : Nat) (f : Motor → Motor) : (s.modMo n f).ddr = s.ddr := rfl
@[simp] theorem State.modMo_intg (s : State) (n : Nat) (f : Motor → Motor) : (s.modMo n f).intg = s.intg := rfl
@[simp] theorem State.modMo_cal (s : State) (n : Nat) (f : Motor → Motor) : (s.modMo n f).cal = s.cal := rfl
@[simp] theorem State.modMo_pwr (s : State) (n : Nat) (f : Motor → Motor) : (s.modMo n f).pwr = s.pwr := rfl
@[simp] theorem State.modMo_hk (s : State) (n : Nat) (f : Motor → Motor) : (s.modMo n f).hk = s.hk := rfl
@[simp] theorem State.modMo_cave (s : State) (n : Nat) (f : Motor → Motor) : (s.modMo n f).cave = s.cave := rfl
@[simp] theorem State.modMo_boot (s : State) (n : Nat) (f : Motor → Motor) : (s.modMo n f).boot = s.boot := rfl
@[simp] theorem State.modMo_pins (s : State) (n : Nat) (f : Motor → Motor) : (s.modMo n f).pins = s.pins := rfl
@[simp] theorem State.modMo_xbar (s : State) (n : Nat) (f : Motor → Motor) : (s.modMo n f).xbar = s.xbar := rfl
@[simp] theorem State.modMo_free (s : State) (n : Nat) (f : Motor → Motor) : (s.modMo n f).free = s.free := rfl
@[simp] theorem State.modMo_out (s : State) (n : Nat) (f : Motor → Motor) : (s.modMo n f).out = s.out := rfl

@[simp] theorem State.modFb_pending (s : State) (n : Nat) (f : Feedback → Feedback) : (s.modFb n f).pending = s.pending := rfl
@[simp] theorem State.modFb_variant (s : State) (n : Nat) (f : Feedback → Feedback) : (s.modFb n f).variant = s.variant := rfl
@[simp] theorem State.modFb_regs (s : State) (n : Nat) (f : Feedback → Feedback) : (s.modFb n f).regs = s.regs := rfl
@[simp] theorem State.modFb_dram (s : State) (n : Nat) (f : Feedback → Feedback) : (s.modFb n f).dram = s.dram := rfl
@[simp] theorem State.modFb_l2 (s : State) (n : Nat) (f : Feedback → Feedback) : (s.modFb n f).l2 = s.l2 := rfl
@[simp] theorem State.modFb_shadow (s : State) (n : Nat) (f : Feedback → Feedback) : (s.modFb n f).shadow = s.shadow := rfl
@[simp] theorem State.modFb_staged (s : State) (n : Nat) (f : Feedback → Feedback) : (s.modFb n f).staged = s.staged := rfl
@[simp] theorem State.modFb_readData (s : State) (n : Nat) (f : Feedback → Feedback) : (s.modFb n f).readData = s.readData := rfl
@[simp] theorem State.modFb_grp (s : State) (n : Nat) (f : Feedback → Feedback) : (s.modFb n f).grp = s.grp := rfl
@[simp] theorem State.modFb_armUndo (s : State) (n : Nat) (f : Feedback → Feedback) : (s.modFb n f).armUndo = s.armUndo := rfl
@[simp] theorem State.modFb_chan (s : State) (n : Nat) (f : Feedback → Feedback) : (s.modFb n f).chan = s.chan := rfl
@[simp] theorem State.modFb_srvAx (s : State) (n : Nat) (f : Feedback → Feedback) : (s.modFb n f).srvAx = s.srvAx := rfl
@[simp] theorem State.modFb_srvCh (s : State) (n : Nat) (f : Feedback → Feedback) : (s.modFb n f).srvCh = s.srvCh := rfl
@[simp] theorem State.modFb_srv (s : State) (n : Nat) (f : Feedback → Feedback) : (s.modFb n f).srv = s.srv := rfl
@[simp] theorem State.modFb_lsr (s : State) (n : Nat) (f : Feedback → Feedback) : (s.modFb n f).lsr = s.lsr := rfl
@[simp] theorem State.modFb_hoop (s : State) (n : Nat) (f : Feedback → Feedback) : (s.modFb n f).hoop = s.hoop := rfl
@[simp] theorem State.modFb_port (s : State) (n : Nat) (f : Feedback → Feedback) : (s.modFb n f).port = s.port := rfl
@[simp] theorem State.modFb_bulk (s : State) (n : Nat) (f : Feedback → Feedback) : (s.modFb n f).bulk = s.bulk := rfl
@[simp] theorem State.modFb_dom (s : State) (n : Nat) (f : Feedback → Feedback) : (s.modFb n f).dom = s.dom := rfl
@[simp] theorem State.modFb_time (s : State) (n : Nat) (f : Feedback → Feedback) : (s.modFb n f).time = s.time := rfl
@[simp] theorem State.modFb_mot (s : State) (n : Nat) (f : Feedback → Feedback) : (s.modFb n f).mot = s.mot := rfl
@[simp] theorem State.modFb_cam (s : State) (n : Nat) (f : Feedback → Feedback) : (s.modFb n f).cam = s.cam := rfl
@[simp] theorem State.modFb_pipe (s : State) (n : Nat) (f : Feedback → Feedback) : (s.modFb n f).pipe = s.pipe := rfl
@[simp] theorem State.modFb_lgt (s : State) (n : Nat) (f : Feedback → Feedback) : (s.modFb n f).lgt = s.lgt := rfl
@[simp] theorem State.modFb_strobe (s : State) (n : Nat) (f : Feedback → Feedback) : (s.modFb n f).strobe = s.strobe := rfl
@[simp] theorem State.modFb_lane (s : State) (n : Nat) (f : Feedback → Feedback) : (s.modFb n f).lane = s.lane := rfl
@[simp] theorem State.modFb_head (s : State) (n : Nat) (f : Feedback → Feedback) : (s.modFb n f).head = s.head := rfl
@[simp] theorem State.modFb_dma (s : State) (n : Nat) (f : Feedback → Feedback) : (s.modFb n f).dma = s.dma := rfl
@[simp] theorem State.modFb_dmaEng (s : State) (n : Nat) (f : Feedback → Feedback) : (s.modFb n f).dmaEng = s.dmaEng := rfl
@[simp] theorem State.modFb_pci (s : State) (n : Nat) (f : Feedback → Feedback) : (s.modFb n f).pci = s.pci := rfl
@[simp] theorem State.modFb_eth (s : State) (n : Nat) (f : Feedback → Feedback) : (s.modFb n f).eth = s.eth := rfl
@[simp] theorem State.modFb_ddr (s : State) (n : Nat) (f : Feedback → Feedback) : (s.modFb n f).ddr = s.ddr := rfl
@[simp] theorem State.modFb_intg (s : State) (n : Nat) (f : Feedback → Feedback) : (s.modFb n f).intg = s.intg := rfl
@[simp] theorem State.modFb_cal (s : State) (n : Nat) (f : Feedback → Feedback) : (s.modFb n f).cal = s.cal := rfl
@[simp] theorem State.modFb_pwr (s : State) (n : Nat) (f : Feedback → Feedback) : (s.modFb n f).pwr = s.pwr := rfl
@[simp] theorem State.modFb_hk (s : State) (n : Nat) (f : Feedback → Feedback) : (s.modFb n f).hk = s.hk := rfl
@[simp] theorem State.modFb_cave (s : State) (n : Nat) (f : Feedback → Feedback) : (s.modFb n f).cave = s.cave := rfl
@[simp] theorem State.modFb_boot (s : State) (n : Nat) (f : Feedback → Feedback) : (s.modFb n f).boot = s.boot := rfl
@[simp] theorem State.modFb_pins (s : State) (n : Nat) (f : Feedback → Feedback) : (s.modFb n f).pins = s.pins := rfl
@[simp] theorem State.modFb_xbar (s : State) (n : Nat) (f : Feedback → Feedback) : (s.modFb n f).xbar = s.xbar := rfl
@[simp] theorem State.modFb_free (s : State) (n : Nat) (f : Feedback → Feedback) : (s.modFb n f).free = s.free := rfl
@[simp] theorem State.modFb_out (s : State) (n : Nat) (f : Feedback → Feedback) : (s.modFb n f).out = s.out := rfl

@[simp] theorem State.modCm_pending (s : State) (n : Nat) (f : CamPort → CamPort) : (s.modCm n f).pending = s.pending := rfl
@[simp] theorem State.modCm_variant (s : State) (n : Nat) (f : CamPort → CamPort) : (s.modCm n f).variant = s.variant := rfl
@[simp] theorem State.modCm_regs (s : State) (n : Nat) (f : CamPort → CamPort) : (s.modCm n f).regs = s.regs := rfl
@[simp] theorem State.modCm_dram (s : State) (n : Nat) (f : CamPort → CamPort) : (s.modCm n f).dram = s.dram := rfl
@[simp] theorem State.modCm_l2 (s : State) (n : Nat) (f : CamPort → CamPort) : (s.modCm n f).l2 = s.l2 := rfl
@[simp] theorem State.modCm_shadow (s : State) (n : Nat) (f : CamPort → CamPort) : (s.modCm n f).shadow = s.shadow := rfl
@[simp] theorem State.modCm_staged (s : State) (n : Nat) (f : CamPort → CamPort) : (s.modCm n f).staged = s.staged := rfl
@[simp] theorem State.modCm_readData (s : State) (n : Nat) (f : CamPort → CamPort) : (s.modCm n f).readData = s.readData := rfl
@[simp] theorem State.modCm_grp (s : State) (n : Nat) (f : CamPort → CamPort) : (s.modCm n f).grp = s.grp := rfl
@[simp] theorem State.modCm_armUndo (s : State) (n : Nat) (f : CamPort → CamPort) : (s.modCm n f).armUndo = s.armUndo := rfl
@[simp] theorem State.modCm_chan (s : State) (n : Nat) (f : CamPort → CamPort) : (s.modCm n f).chan = s.chan := rfl
@[simp] theorem State.modCm_srvAx (s : State) (n : Nat) (f : CamPort → CamPort) : (s.modCm n f).srvAx = s.srvAx := rfl
@[simp] theorem State.modCm_srvCh (s : State) (n : Nat) (f : CamPort → CamPort) : (s.modCm n f).srvCh = s.srvCh := rfl
@[simp] theorem State.modCm_srv (s : State) (n : Nat) (f : CamPort → CamPort) : (s.modCm n f).srv = s.srv := rfl
@[simp] theorem State.modCm_lsr (s : State) (n : Nat) (f : CamPort → CamPort) : (s.modCm n f).lsr = s.lsr := rfl
@[simp] theorem State.modCm_hoop (s : State) (n : Nat) (f : CamPort → CamPort) : (s.modCm n f).hoop = s.hoop := rfl
@[simp] theorem State.modCm_port (s : State) (n : Nat) (f : CamPort → CamPort) : (s.modCm n f).port = s.port := rfl
@[simp] theorem State.modCm_bulk (s : State) (n : Nat) (f : CamPort → CamPort) : (s.modCm n f).bulk = s.bulk := rfl
@[simp] theorem State.modCm_dom (s : State) (n : Nat) (f : CamPort → CamPort) : (s.modCm n f).dom = s.dom := rfl
@[simp] theorem State.modCm_time (s : State) (n : Nat) (f : CamPort → CamPort) : (s.modCm n f).time = s.time := rfl
@[simp] theorem State.modCm_mot (s : State) (n : Nat) (f : CamPort → CamPort) : (s.modCm n f).mot = s.mot := rfl
@[simp] theorem State.modCm_fbk (s : State) (n : Nat) (f : CamPort → CamPort) : (s.modCm n f).fbk = s.fbk := rfl
@[simp] theorem State.modCm_pipe (s : State) (n : Nat) (f : CamPort → CamPort) : (s.modCm n f).pipe = s.pipe := rfl
@[simp] theorem State.modCm_lgt (s : State) (n : Nat) (f : CamPort → CamPort) : (s.modCm n f).lgt = s.lgt := rfl
@[simp] theorem State.modCm_strobe (s : State) (n : Nat) (f : CamPort → CamPort) : (s.modCm n f).strobe = s.strobe := rfl
@[simp] theorem State.modCm_lane (s : State) (n : Nat) (f : CamPort → CamPort) : (s.modCm n f).lane = s.lane := rfl
@[simp] theorem State.modCm_head (s : State) (n : Nat) (f : CamPort → CamPort) : (s.modCm n f).head = s.head := rfl
@[simp] theorem State.modCm_dma (s : State) (n : Nat) (f : CamPort → CamPort) : (s.modCm n f).dma = s.dma := rfl
@[simp] theorem State.modCm_dmaEng (s : State) (n : Nat) (f : CamPort → CamPort) : (s.modCm n f).dmaEng = s.dmaEng := rfl
@[simp] theorem State.modCm_pci (s : State) (n : Nat) (f : CamPort → CamPort) : (s.modCm n f).pci = s.pci := rfl
@[simp] theorem State.modCm_eth (s : State) (n : Nat) (f : CamPort → CamPort) : (s.modCm n f).eth = s.eth := rfl
@[simp] theorem State.modCm_ddr (s : State) (n : Nat) (f : CamPort → CamPort) : (s.modCm n f).ddr = s.ddr := rfl
@[simp] theorem State.modCm_intg (s : State) (n : Nat) (f : CamPort → CamPort) : (s.modCm n f).intg = s.intg := rfl
@[simp] theorem State.modCm_cal (s : State) (n : Nat) (f : CamPort → CamPort) : (s.modCm n f).cal = s.cal := rfl
@[simp] theorem State.modCm_pwr (s : State) (n : Nat) (f : CamPort → CamPort) : (s.modCm n f).pwr = s.pwr := rfl
@[simp] theorem State.modCm_hk (s : State) (n : Nat) (f : CamPort → CamPort) : (s.modCm n f).hk = s.hk := rfl
@[simp] theorem State.modCm_cave (s : State) (n : Nat) (f : CamPort → CamPort) : (s.modCm n f).cave = s.cave := rfl
@[simp] theorem State.modCm_boot (s : State) (n : Nat) (f : CamPort → CamPort) : (s.modCm n f).boot = s.boot := rfl
@[simp] theorem State.modCm_pins (s : State) (n : Nat) (f : CamPort → CamPort) : (s.modCm n f).pins = s.pins := rfl
@[simp] theorem State.modCm_xbar (s : State) (n : Nat) (f : CamPort → CamPort) : (s.modCm n f).xbar = s.xbar := rfl
@[simp] theorem State.modCm_free (s : State) (n : Nat) (f : CamPort → CamPort) : (s.modCm n f).free = s.free := rfl
@[simp] theorem State.modCm_out (s : State) (n : Nat) (f : CamPort → CamPort) : (s.modCm n f).out = s.out := rfl

@[simp] theorem State.modSb_pending (s : State) (n : Nat) (f : Strobe → Strobe) : (s.modSb n f).pending = s.pending := rfl
@[simp] theorem State.modSb_variant (s : State) (n : Nat) (f : Strobe → Strobe) : (s.modSb n f).variant = s.variant := rfl
@[simp] theorem State.modSb_regs (s : State) (n : Nat) (f : Strobe → Strobe) : (s.modSb n f).regs = s.regs := rfl
@[simp] theorem State.modSb_dram (s : State) (n : Nat) (f : Strobe → Strobe) : (s.modSb n f).dram = s.dram := rfl
@[simp] theorem State.modSb_l2 (s : State) (n : Nat) (f : Strobe → Strobe) : (s.modSb n f).l2 = s.l2 := rfl
@[simp] theorem State.modSb_shadow (s : State) (n : Nat) (f : Strobe → Strobe) : (s.modSb n f).shadow = s.shadow := rfl
@[simp] theorem State.modSb_staged (s : State) (n : Nat) (f : Strobe → Strobe) : (s.modSb n f).staged = s.staged := rfl
@[simp] theorem State.modSb_readData (s : State) (n : Nat) (f : Strobe → Strobe) : (s.modSb n f).readData = s.readData := rfl
@[simp] theorem State.modSb_grp (s : State) (n : Nat) (f : Strobe → Strobe) : (s.modSb n f).grp = s.grp := rfl
@[simp] theorem State.modSb_armUndo (s : State) (n : Nat) (f : Strobe → Strobe) : (s.modSb n f).armUndo = s.armUndo := rfl
@[simp] theorem State.modSb_chan (s : State) (n : Nat) (f : Strobe → Strobe) : (s.modSb n f).chan = s.chan := rfl
@[simp] theorem State.modSb_srvAx (s : State) (n : Nat) (f : Strobe → Strobe) : (s.modSb n f).srvAx = s.srvAx := rfl
@[simp] theorem State.modSb_srvCh (s : State) (n : Nat) (f : Strobe → Strobe) : (s.modSb n f).srvCh = s.srvCh := rfl
@[simp] theorem State.modSb_srv (s : State) (n : Nat) (f : Strobe → Strobe) : (s.modSb n f).srv = s.srv := rfl
@[simp] theorem State.modSb_lsr (s : State) (n : Nat) (f : Strobe → Strobe) : (s.modSb n f).lsr = s.lsr := rfl
@[simp] theorem State.modSb_hoop (s : State) (n : Nat) (f : Strobe → Strobe) : (s.modSb n f).hoop = s.hoop := rfl
@[simp] theorem State.modSb_port (s : State) (n : Nat) (f : Strobe → Strobe) : (s.modSb n f).port = s.port := rfl
@[simp] theorem State.modSb_bulk (s : State) (n : Nat) (f : Strobe → Strobe) : (s.modSb n f).bulk = s.bulk := rfl
@[simp] theorem State.modSb_dom (s : State) (n : Nat) (f : Strobe → Strobe) : (s.modSb n f).dom = s.dom := rfl
@[simp] theorem State.modSb_time (s : State) (n : Nat) (f : Strobe → Strobe) : (s.modSb n f).time = s.time := rfl
@[simp] theorem State.modSb_mot (s : State) (n : Nat) (f : Strobe → Strobe) : (s.modSb n f).mot = s.mot := rfl
@[simp] theorem State.modSb_fbk (s : State) (n : Nat) (f : Strobe → Strobe) : (s.modSb n f).fbk = s.fbk := rfl
@[simp] theorem State.modSb_cam (s : State) (n : Nat) (f : Strobe → Strobe) : (s.modSb n f).cam = s.cam := rfl
@[simp] theorem State.modSb_pipe (s : State) (n : Nat) (f : Strobe → Strobe) : (s.modSb n f).pipe = s.pipe := rfl
@[simp] theorem State.modSb_lgt (s : State) (n : Nat) (f : Strobe → Strobe) : (s.modSb n f).lgt = s.lgt := rfl
@[simp] theorem State.modSb_lane (s : State) (n : Nat) (f : Strobe → Strobe) : (s.modSb n f).lane = s.lane := rfl
@[simp] theorem State.modSb_head (s : State) (n : Nat) (f : Strobe → Strobe) : (s.modSb n f).head = s.head := rfl
@[simp] theorem State.modSb_dma (s : State) (n : Nat) (f : Strobe → Strobe) : (s.modSb n f).dma = s.dma := rfl
@[simp] theorem State.modSb_dmaEng (s : State) (n : Nat) (f : Strobe → Strobe) : (s.modSb n f).dmaEng = s.dmaEng := rfl
@[simp] theorem State.modSb_pci (s : State) (n : Nat) (f : Strobe → Strobe) : (s.modSb n f).pci = s.pci := rfl
@[simp] theorem State.modSb_eth (s : State) (n : Nat) (f : Strobe → Strobe) : (s.modSb n f).eth = s.eth := rfl
@[simp] theorem State.modSb_ddr (s : State) (n : Nat) (f : Strobe → Strobe) : (s.modSb n f).ddr = s.ddr := rfl
@[simp] theorem State.modSb_intg (s : State) (n : Nat) (f : Strobe → Strobe) : (s.modSb n f).intg = s.intg := rfl
@[simp] theorem State.modSb_cal (s : State) (n : Nat) (f : Strobe → Strobe) : (s.modSb n f).cal = s.cal := rfl
@[simp] theorem State.modSb_pwr (s : State) (n : Nat) (f : Strobe → Strobe) : (s.modSb n f).pwr = s.pwr := rfl
@[simp] theorem State.modSb_hk (s : State) (n : Nat) (f : Strobe → Strobe) : (s.modSb n f).hk = s.hk := rfl
@[simp] theorem State.modSb_cave (s : State) (n : Nat) (f : Strobe → Strobe) : (s.modSb n f).cave = s.cave := rfl
@[simp] theorem State.modSb_boot (s : State) (n : Nat) (f : Strobe → Strobe) : (s.modSb n f).boot = s.boot := rfl
@[simp] theorem State.modSb_pins (s : State) (n : Nat) (f : Strobe → Strobe) : (s.modSb n f).pins = s.pins := rfl
@[simp] theorem State.modSb_xbar (s : State) (n : Nat) (f : Strobe → Strobe) : (s.modSb n f).xbar = s.xbar := rfl
@[simp] theorem State.modSb_free (s : State) (n : Nat) (f : Strobe → Strobe) : (s.modSb n f).free = s.free := rfl
@[simp] theorem State.modSb_out (s : State) (n : Nat) (f : Strobe → Strobe) : (s.modSb n f).out = s.out := rfl

@[simp] theorem State.modLn_pending (s : State) (n : Nat) (f : Lane → Lane) : (s.modLn n f).pending = s.pending := rfl
@[simp] theorem State.modLn_variant (s : State) (n : Nat) (f : Lane → Lane) : (s.modLn n f).variant = s.variant := rfl
@[simp] theorem State.modLn_regs (s : State) (n : Nat) (f : Lane → Lane) : (s.modLn n f).regs = s.regs := rfl
@[simp] theorem State.modLn_dram (s : State) (n : Nat) (f : Lane → Lane) : (s.modLn n f).dram = s.dram := rfl
@[simp] theorem State.modLn_l2 (s : State) (n : Nat) (f : Lane → Lane) : (s.modLn n f).l2 = s.l2 := rfl
@[simp] theorem State.modLn_shadow (s : State) (n : Nat) (f : Lane → Lane) : (s.modLn n f).shadow = s.shadow := rfl
@[simp] theorem State.modLn_staged (s : State) (n : Nat) (f : Lane → Lane) : (s.modLn n f).staged = s.staged := rfl
@[simp] theorem State.modLn_readData (s : State) (n : Nat) (f : Lane → Lane) : (s.modLn n f).readData = s.readData := rfl
@[simp] theorem State.modLn_grp (s : State) (n : Nat) (f : Lane → Lane) : (s.modLn n f).grp = s.grp := rfl
@[simp] theorem State.modLn_armUndo (s : State) (n : Nat) (f : Lane → Lane) : (s.modLn n f).armUndo = s.armUndo := rfl
@[simp] theorem State.modLn_chan (s : State) (n : Nat) (f : Lane → Lane) : (s.modLn n f).chan = s.chan := rfl
@[simp] theorem State.modLn_srvAx (s : State) (n : Nat) (f : Lane → Lane) : (s.modLn n f).srvAx = s.srvAx := rfl
@[simp] theorem State.modLn_srvCh (s : State) (n : Nat) (f : Lane → Lane) : (s.modLn n f).srvCh = s.srvCh := rfl
@[simp] theorem State.modLn_srv (s : State) (n : Nat) (f : Lane → Lane) : (s.modLn n f).srv = s.srv := rfl
@[simp] theorem State.modLn_lsr (s : State) (n : Nat) (f : Lane → Lane) : (s.modLn n f).lsr = s.lsr := rfl
@[simp] theorem State.modLn_hoop (s : State) (n : Nat) (f : Lane → Lane) : (s.modLn n f).hoop = s.hoop := rfl
@[simp] theorem State.modLn_port (s : State) (n : Nat) (f : Lane → Lane) : (s.modLn n f).port = s.port := rfl
@[simp] theorem State.modLn_bulk (s : State) (n : Nat) (f : Lane → Lane) : (s.modLn n f).bulk = s.bulk := rfl
@[simp] theorem State.modLn_dom (s : State) (n : Nat) (f : Lane → Lane) : (s.modLn n f).dom = s.dom := rfl
@[simp] theorem State.modLn_time (s : State) (n : Nat) (f : Lane → Lane) : (s.modLn n f).time = s.time := rfl
@[simp] theorem State.modLn_mot (s : State) (n : Nat) (f : Lane → Lane) : (s.modLn n f).mot = s.mot := rfl
@[simp] theorem State.modLn_fbk (s : State) (n : Nat) (f : Lane → Lane) : (s.modLn n f).fbk = s.fbk := rfl
@[simp] theorem State.modLn_cam (s : State) (n : Nat) (f : Lane → Lane) : (s.modLn n f).cam = s.cam := rfl
@[simp] theorem State.modLn_pipe (s : State) (n : Nat) (f : Lane → Lane) : (s.modLn n f).pipe = s.pipe := rfl
@[simp] theorem State.modLn_lgt (s : State) (n : Nat) (f : Lane → Lane) : (s.modLn n f).lgt = s.lgt := rfl
@[simp] theorem State.modLn_strobe (s : State) (n : Nat) (f : Lane → Lane) : (s.modLn n f).strobe = s.strobe := rfl
@[simp] theorem State.modLn_head (s : State) (n : Nat) (f : Lane → Lane) : (s.modLn n f).head = s.head := rfl
@[simp] theorem State.modLn_dma (s : State) (n : Nat) (f : Lane → Lane) : (s.modLn n f).dma = s.dma := rfl
@[simp] theorem State.modLn_dmaEng (s : State) (n : Nat) (f : Lane → Lane) : (s.modLn n f).dmaEng = s.dmaEng := rfl
@[simp] theorem State.modLn_pci (s : State) (n : Nat) (f : Lane → Lane) : (s.modLn n f).pci = s.pci := rfl
@[simp] theorem State.modLn_eth (s : State) (n : Nat) (f : Lane → Lane) : (s.modLn n f).eth = s.eth := rfl
@[simp] theorem State.modLn_ddr (s : State) (n : Nat) (f : Lane → Lane) : (s.modLn n f).ddr = s.ddr := rfl
@[simp] theorem State.modLn_intg (s : State) (n : Nat) (f : Lane → Lane) : (s.modLn n f).intg = s.intg := rfl
@[simp] theorem State.modLn_cal (s : State) (n : Nat) (f : Lane → Lane) : (s.modLn n f).cal = s.cal := rfl
@[simp] theorem State.modLn_pwr (s : State) (n : Nat) (f : Lane → Lane) : (s.modLn n f).pwr = s.pwr := rfl
@[simp] theorem State.modLn_hk (s : State) (n : Nat) (f : Lane → Lane) : (s.modLn n f).hk = s.hk := rfl
@[simp] theorem State.modLn_cave (s : State) (n : Nat) (f : Lane → Lane) : (s.modLn n f).cave = s.cave := rfl
@[simp] theorem State.modLn_boot (s : State) (n : Nat) (f : Lane → Lane) : (s.modLn n f).boot = s.boot := rfl
@[simp] theorem State.modLn_pins (s : State) (n : Nat) (f : Lane → Lane) : (s.modLn n f).pins = s.pins := rfl
@[simp] theorem State.modLn_xbar (s : State) (n : Nat) (f : Lane → Lane) : (s.modLn n f).xbar = s.xbar := rfl
@[simp] theorem State.modLn_free (s : State) (n : Nat) (f : Lane → Lane) : (s.modLn n f).free = s.free := rfl
@[simp] theorem State.modLn_out (s : State) (n : Nat) (f : Lane → Lane) : (s.modLn n f).out = s.out := rfl

@[simp] theorem State.modHd_pending (s : State) (n : Nat) (f : Head → Head) : (s.modHd n f).pending = s.pending := rfl
@[simp] theorem State.modHd_variant (s : State) (n : Nat) (f : Head → Head) : (s.modHd n f).variant = s.variant := rfl
@[simp] theorem State.modHd_regs (s : State) (n : Nat) (f : Head → Head) : (s.modHd n f).regs = s.regs := rfl
@[simp] theorem State.modHd_dram (s : State) (n : Nat) (f : Head → Head) : (s.modHd n f).dram = s.dram := rfl
@[simp] theorem State.modHd_l2 (s : State) (n : Nat) (f : Head → Head) : (s.modHd n f).l2 = s.l2 := rfl
@[simp] theorem State.modHd_shadow (s : State) (n : Nat) (f : Head → Head) : (s.modHd n f).shadow = s.shadow := rfl
@[simp] theorem State.modHd_staged (s : State) (n : Nat) (f : Head → Head) : (s.modHd n f).staged = s.staged := rfl
@[simp] theorem State.modHd_readData (s : State) (n : Nat) (f : Head → Head) : (s.modHd n f).readData = s.readData := rfl
@[simp] theorem State.modHd_grp (s : State) (n : Nat) (f : Head → Head) : (s.modHd n f).grp = s.grp := rfl
@[simp] theorem State.modHd_armUndo (s : State) (n : Nat) (f : Head → Head) : (s.modHd n f).armUndo = s.armUndo := rfl
@[simp] theorem State.modHd_chan (s : State) (n : Nat) (f : Head → Head) : (s.modHd n f).chan = s.chan := rfl
@[simp] theorem State.modHd_srvAx (s : State) (n : Nat) (f : Head → Head) : (s.modHd n f).srvAx = s.srvAx := rfl
@[simp] theorem State.modHd_srvCh (s : State) (n : Nat) (f : Head → Head) : (s.modHd n f).srvCh = s.srvCh := rfl
@[simp] theorem State.modHd_srv (s : State) (n : Nat) (f : Head → Head) : (s.modHd n f).srv = s.srv := rfl
@[simp] theorem State.modHd_lsr (s : State) (n : Nat) (f : Head → Head) : (s.modHd n f).lsr = s.lsr := rfl
@[simp] theorem State.modHd_hoop (s : State) (n : Nat) (f : Head → Head) : (s.modHd n f).hoop = s.hoop := rfl
@[simp] theorem State.modHd_port (s : State) (n : Nat) (f : Head → Head) : (s.modHd n f).port = s.port := rfl
@[simp] theorem State.modHd_bulk (s : State) (n : Nat) (f : Head → Head) : (s.modHd n f).bulk = s.bulk := rfl
@[simp] theorem State.modHd_dom (s : State) (n : Nat) (f : Head → Head) : (s.modHd n f).dom = s.dom := rfl
@[simp] theorem State.modHd_time (s : State) (n : Nat) (f : Head → Head) : (s.modHd n f).time = s.time := rfl
@[simp] theorem State.modHd_mot (s : State) (n : Nat) (f : Head → Head) : (s.modHd n f).mot = s.mot := rfl
@[simp] theorem State.modHd_fbk (s : State) (n : Nat) (f : Head → Head) : (s.modHd n f).fbk = s.fbk := rfl
@[simp] theorem State.modHd_cam (s : State) (n : Nat) (f : Head → Head) : (s.modHd n f).cam = s.cam := rfl
@[simp] theorem State.modHd_pipe (s : State) (n : Nat) (f : Head → Head) : (s.modHd n f).pipe = s.pipe := rfl
@[simp] theorem State.modHd_lgt (s : State) (n : Nat) (f : Head → Head) : (s.modHd n f).lgt = s.lgt := rfl
@[simp] theorem State.modHd_strobe (s : State) (n : Nat) (f : Head → Head) : (s.modHd n f).strobe = s.strobe := rfl
@[simp] theorem State.modHd_lane (s : State) (n : Nat) (f : Head → Head) : (s.modHd n f).lane = s.lane := rfl
@[simp] theorem State.modHd_dma (s : State) (n : Nat) (f : Head → Head) : (s.modHd n f).dma = s.dma := rfl
@[simp] theorem State.modHd_dmaEng (s : State) (n : Nat) (f : Head → Head) : (s.modHd n f).dmaEng = s.dmaEng := rfl
@[simp] theorem State.modHd_pci (s : State) (n : Nat) (f : Head → Head) : (s.modHd n f).pci = s.pci := rfl
@[simp] theorem State.modHd_eth (s : State) (n : Nat) (f : Head → Head) : (s.modHd n f).eth = s.eth := rfl
@[simp] theorem State.modHd_ddr (s : State) (n : Nat) (f : Head → Head) : (s.modHd n f).ddr = s.ddr := rfl
@[simp] theorem State.modHd_intg (s : State) (n : Nat) (f : Head → Head) : (s.modHd n f).intg = s.intg := rfl
@[simp] theorem State.modHd_cal (s : State) (n : Nat) (f : Head → Head) : (s.modHd n f).cal = s.cal := rfl
@[simp] theorem State.modHd_pwr (s : State) (n : Nat) (f : Head → Head) : (s.modHd n f).pwr = s.pwr := rfl
@[simp] theorem State.modHd_hk (s : State) (n : Nat) (f : Head → Head) : (s.modHd n f).hk = s.hk := rfl
@[simp] theorem State.modHd_cave (s : State) (n : Nat) (f : Head → Head) : (s.modHd n f).cave = s.cave := rfl
@[simp] theorem State.modHd_boot (s : State) (n : Nat) (f : Head → Head) : (s.modHd n f).boot = s.boot := rfl
@[simp] theorem State.modHd_pins (s : State) (n : Nat) (f : Head → Head) : (s.modHd n f).pins = s.pins := rfl
@[simp] theorem State.modHd_xbar (s : State) (n : Nat) (f : Head → Head) : (s.modHd n f).xbar = s.xbar := rfl
@[simp] theorem State.modHd_free (s : State) (n : Nat) (f : Head → Head) : (s.modHd n f).free = s.free := rfl
@[simp] theorem State.modHd_out (s : State) (n : Nat) (f : Head → Head) : (s.modHd n f).out = s.out := rfl

@[simp] theorem State.modDc_pending (s : State) (n : Nat) (f : DmaCh → DmaCh) : (s.modDc n f).pending = s.pending := rfl
@[simp] theorem State.modDc_variant (s : State) (n : Nat) (f : DmaCh → DmaCh) : (s.modDc n f).variant = s.variant := rfl
@[simp] theorem State.modDc_regs (s : State) (n : Nat) (f : DmaCh → DmaCh) : (s.modDc n f).regs = s.regs := rfl
@[simp] theorem State.modDc_dram (s : State) (n : Nat) (f : DmaCh → DmaCh) : (s.modDc n f).dram = s.dram := rfl
@[simp] theorem State.modDc_l2 (s : State) (n : Nat) (f : DmaCh → DmaCh) : (s.modDc n f).l2 = s.l2 := rfl
@[simp] theorem State.modDc_shadow (s : State) (n : Nat) (f : DmaCh → DmaCh) : (s.modDc n f).shadow = s.shadow := rfl
@[simp] theorem State.modDc_staged (s : State) (n : Nat) (f : DmaCh → DmaCh) : (s.modDc n f).staged = s.staged := rfl
@[simp] theorem State.modDc_readData (s : State) (n : Nat) (f : DmaCh → DmaCh) : (s.modDc n f).readData = s.readData := rfl
@[simp] theorem State.modDc_grp (s : State) (n : Nat) (f : DmaCh → DmaCh) : (s.modDc n f).grp = s.grp := rfl
@[simp] theorem State.modDc_armUndo (s : State) (n : Nat) (f : DmaCh → DmaCh) : (s.modDc n f).armUndo = s.armUndo := rfl
@[simp] theorem State.modDc_chan (s : State) (n : Nat) (f : DmaCh → DmaCh) : (s.modDc n f).chan = s.chan := rfl
@[simp] theorem State.modDc_srvAx (s : State) (n : Nat) (f : DmaCh → DmaCh) : (s.modDc n f).srvAx = s.srvAx := rfl
@[simp] theorem State.modDc_srvCh (s : State) (n : Nat) (f : DmaCh → DmaCh) : (s.modDc n f).srvCh = s.srvCh := rfl
@[simp] theorem State.modDc_srv (s : State) (n : Nat) (f : DmaCh → DmaCh) : (s.modDc n f).srv = s.srv := rfl
@[simp] theorem State.modDc_lsr (s : State) (n : Nat) (f : DmaCh → DmaCh) : (s.modDc n f).lsr = s.lsr := rfl
@[simp] theorem State.modDc_hoop (s : State) (n : Nat) (f : DmaCh → DmaCh) : (s.modDc n f).hoop = s.hoop := rfl
@[simp] theorem State.modDc_port (s : State) (n : Nat) (f : DmaCh → DmaCh) : (s.modDc n f).port = s.port := rfl
@[simp] theorem State.modDc_bulk (s : State) (n : Nat) (f : DmaCh → DmaCh) : (s.modDc n f).bulk = s.bulk := rfl
@[simp] theorem State.modDc_dom (s : State) (n : Nat) (f : DmaCh → DmaCh) : (s.modDc n f).dom = s.dom := rfl
@[simp] theorem State.modDc_time (s : State) (n : Nat) (f : DmaCh → DmaCh) : (s.modDc n f).time = s.time := rfl
@[simp] theorem State.modDc_mot (s : State) (n : Nat) (f : DmaCh → DmaCh) : (s.modDc n f).mot = s.mot := rfl
@[simp] theorem State.modDc_fbk (s : State) (n : Nat) (f : DmaCh → DmaCh) : (s.modDc n f).fbk = s.fbk := rfl
@[simp] theorem State.modDc_cam (s : State) (n : Nat) (f : DmaCh → DmaCh) : (s.modDc n f).cam = s.cam := rfl
@[simp] theorem State.modDc_pipe (s : State) (n : Nat) (f : DmaCh → DmaCh) : (s.modDc n f).pipe = s.pipe := rfl
@[simp] theorem State.modDc_lgt (s : State) (n : Nat) (f : DmaCh → DmaCh) : (s.modDc n f).lgt = s.lgt := rfl
@[simp] theorem State.modDc_strobe (s : State) (n : Nat) (f : DmaCh → DmaCh) : (s.modDc n f).strobe = s.strobe := rfl
@[simp] theorem State.modDc_lane (s : State) (n : Nat) (f : DmaCh → DmaCh) : (s.modDc n f).lane = s.lane := rfl
@[simp] theorem State.modDc_head (s : State) (n : Nat) (f : DmaCh → DmaCh) : (s.modDc n f).head = s.head := rfl
@[simp] theorem State.modDc_dmaEng (s : State) (n : Nat) (f : DmaCh → DmaCh) : (s.modDc n f).dmaEng = s.dmaEng := rfl
@[simp] theorem State.modDc_pci (s : State) (n : Nat) (f : DmaCh → DmaCh) : (s.modDc n f).pci = s.pci := rfl
@[simp] theorem State.modDc_eth (s : State) (n : Nat) (f : DmaCh → DmaCh) : (s.modDc n f).eth = s.eth := rfl
@[simp] theorem State.modDc_ddr (s : State) (n : Nat) (f : DmaCh → DmaCh) : (s.modDc n f).ddr = s.ddr := rfl
@[simp] theorem State.modDc_intg (s : State) (n : Nat) (f : DmaCh → DmaCh) : (s.modDc n f).intg = s.intg := rfl
@[simp] theorem State.modDc_cal (s : State) (n : Nat) (f : DmaCh → DmaCh) : (s.modDc n f).cal = s.cal := rfl
@[simp] theorem State.modDc_pwr (s : State) (n : Nat) (f : DmaCh → DmaCh) : (s.modDc n f).pwr = s.pwr := rfl
@[simp] theorem State.modDc_hk (s : State) (n : Nat) (f : DmaCh → DmaCh) : (s.modDc n f).hk = s.hk := rfl
@[simp] theorem State.modDc_cave (s : State) (n : Nat) (f : DmaCh → DmaCh) : (s.modDc n f).cave = s.cave := rfl
@[simp] theorem State.modDc_boot (s : State) (n : Nat) (f : DmaCh → DmaCh) : (s.modDc n f).boot = s.boot := rfl
@[simp] theorem State.modDc_pins (s : State) (n : Nat) (f : DmaCh → DmaCh) : (s.modDc n f).pins = s.pins := rfl
@[simp] theorem State.modDc_xbar (s : State) (n : Nat) (f : DmaCh → DmaCh) : (s.modDc n f).xbar = s.xbar := rfl
@[simp] theorem State.modDc_free (s : State) (n : Nat) (f : DmaCh → DmaCh) : (s.modDc n f).free = s.free := rfl
@[simp] theorem State.modDc_out (s : State) (n : Nat) (f : DmaCh → DmaCh) : (s.modDc n f).out = s.out := rfl

@[simp] theorem State.modEt_pending (s : State) (n : Nat) (f : EthPort → EthPort) : (s.modEt n f).pending = s.pending := rfl
@[simp] theorem State.modEt_variant (s : State) (n : Nat) (f : EthPort → EthPort) : (s.modEt n f).variant = s.variant := rfl
@[simp] theorem State.modEt_regs (s : State) (n : Nat) (f : EthPort → EthPort) : (s.modEt n f).regs = s.regs := rfl
@[simp] theorem State.modEt_dram (s : State) (n : Nat) (f : EthPort → EthPort) : (s.modEt n f).dram = s.dram := rfl
@[simp] theorem State.modEt_l2 (s : State) (n : Nat) (f : EthPort → EthPort) : (s.modEt n f).l2 = s.l2 := rfl
@[simp] theorem State.modEt_shadow (s : State) (n : Nat) (f : EthPort → EthPort) : (s.modEt n f).shadow = s.shadow := rfl
@[simp] theorem State.modEt_staged (s : State) (n : Nat) (f : EthPort → EthPort) : (s.modEt n f).staged = s.staged := rfl
@[simp] theorem State.modEt_readData (s : State) (n : Nat) (f : EthPort → EthPort) : (s.modEt n f).readData = s.readData := rfl
@[simp] theorem State.modEt_grp (s : State) (n : Nat) (f : EthPort → EthPort) : (s.modEt n f).grp = s.grp := rfl
@[simp] theorem State.modEt_armUndo (s : State) (n : Nat) (f : EthPort → EthPort) : (s.modEt n f).armUndo = s.armUndo := rfl
@[simp] theorem State.modEt_chan (s : State) (n : Nat) (f : EthPort → EthPort) : (s.modEt n f).chan = s.chan := rfl
@[simp] theorem State.modEt_srvAx (s : State) (n : Nat) (f : EthPort → EthPort) : (s.modEt n f).srvAx = s.srvAx := rfl
@[simp] theorem State.modEt_srvCh (s : State) (n : Nat) (f : EthPort → EthPort) : (s.modEt n f).srvCh = s.srvCh := rfl
@[simp] theorem State.modEt_srv (s : State) (n : Nat) (f : EthPort → EthPort) : (s.modEt n f).srv = s.srv := rfl
@[simp] theorem State.modEt_lsr (s : State) (n : Nat) (f : EthPort → EthPort) : (s.modEt n f).lsr = s.lsr := rfl
@[simp] theorem State.modEt_hoop (s : State) (n : Nat) (f : EthPort → EthPort) : (s.modEt n f).hoop = s.hoop := rfl
@[simp] theorem State.modEt_port (s : State) (n : Nat) (f : EthPort → EthPort) : (s.modEt n f).port = s.port := rfl
@[simp] theorem State.modEt_bulk (s : State) (n : Nat) (f : EthPort → EthPort) : (s.modEt n f).bulk = s.bulk := rfl
@[simp] theorem State.modEt_dom (s : State) (n : Nat) (f : EthPort → EthPort) : (s.modEt n f).dom = s.dom := rfl
@[simp] theorem State.modEt_time (s : State) (n : Nat) (f : EthPort → EthPort) : (s.modEt n f).time = s.time := rfl
@[simp] theorem State.modEt_mot (s : State) (n : Nat) (f : EthPort → EthPort) : (s.modEt n f).mot = s.mot := rfl
@[simp] theorem State.modEt_fbk (s : State) (n : Nat) (f : EthPort → EthPort) : (s.modEt n f).fbk = s.fbk := rfl
@[simp] theorem State.modEt_cam (s : State) (n : Nat) (f : EthPort → EthPort) : (s.modEt n f).cam = s.cam := rfl
@[simp] theorem State.modEt_pipe (s : State) (n : Nat) (f : EthPort → EthPort) : (s.modEt n f).pipe = s.pipe := rfl
@[simp] theorem State.modEt_lgt (s : State) (n : Nat) (f : EthPort → EthPort) : (s.modEt n f).lgt = s.lgt := rfl
@[simp] theorem State.modEt_strobe (s : State) (n : Nat) (f : EthPort → EthPort) : (s.modEt n f).strobe = s.strobe := rfl
@[simp] theorem State.modEt_lane (s : State) (n : Nat) (f : EthPort → EthPort) : (s.modEt n f).lane = s.lane := rfl
@[simp] theorem State.modEt_head (s : State) (n : Nat) (f : EthPort → EthPort) : (s.modEt n f).head = s.head := rfl
@[simp] theorem State.modEt_dma (s : State) (n : Nat) (f : EthPort → EthPort) : (s.modEt n f).dma = s.dma := rfl
@[simp] theorem State.modEt_dmaEng (s : State) (n : Nat) (f : EthPort → EthPort) : (s.modEt n f).dmaEng = s.dmaEng := rfl
@[simp] theorem State.modEt_pci (s : State) (n : Nat) (f : EthPort → EthPort) : (s.modEt n f).pci = s.pci := rfl
@[simp] theorem State.modEt_ddr (s : State) (n : Nat) (f : EthPort → EthPort) : (s.modEt n f).ddr = s.ddr := rfl
@[simp] theorem State.modEt_intg (s : State) (n : Nat) (f : EthPort → EthPort) : (s.modEt n f).intg = s.intg := rfl
@[simp] theorem State.modEt_cal (s : State) (n : Nat) (f : EthPort → EthPort) : (s.modEt n f).cal = s.cal := rfl
@[simp] theorem State.modEt_pwr (s : State) (n : Nat) (f : EthPort → EthPort) : (s.modEt n f).pwr = s.pwr := rfl
@[simp] theorem State.modEt_hk (s : State) (n : Nat) (f : EthPort → EthPort) : (s.modEt n f).hk = s.hk := rfl
@[simp] theorem State.modEt_cave (s : State) (n : Nat) (f : EthPort → EthPort) : (s.modEt n f).cave = s.cave := rfl
@[simp] theorem State.modEt_boot (s : State) (n : Nat) (f : EthPort → EthPort) : (s.modEt n f).boot = s.boot := rfl
@[simp] theorem State.modEt_pins (s : State) (n : Nat) (f : EthPort → EthPort) : (s.modEt n f).pins = s.pins := rfl
@[simp] theorem State.modEt_xbar (s : State) (n : Nat) (f : EthPort → EthPort) : (s.modEt n f).xbar = s.xbar := rfl
@[simp] theorem State.modEt_free (s : State) (n : Nat) (f : EthPort → EthPort) : (s.modEt n f).free = s.free := rfl
@[simp] theorem State.modEt_out (s : State) (n : Nat) (f : EthPort → EthPort) : (s.modEt n f).out = s.out := rfl

@[simp] theorem State.modCg_pending (s : State) (n : Nat) (f : CalGroup → CalGroup) : (s.modCg n f).pending = s.pending := rfl
@[simp] theorem State.modCg_variant (s : State) (n : Nat) (f : CalGroup → CalGroup) : (s.modCg n f).variant = s.variant := rfl
@[simp] theorem State.modCg_regs (s : State) (n : Nat) (f : CalGroup → CalGroup) : (s.modCg n f).regs = s.regs := rfl
@[simp] theorem State.modCg_dram (s : State) (n : Nat) (f : CalGroup → CalGroup) : (s.modCg n f).dram = s.dram := rfl
@[simp] theorem State.modCg_l2 (s : State) (n : Nat) (f : CalGroup → CalGroup) : (s.modCg n f).l2 = s.l2 := rfl
@[simp] theorem State.modCg_shadow (s : State) (n : Nat) (f : CalGroup → CalGroup) : (s.modCg n f).shadow = s.shadow := rfl
@[simp] theorem State.modCg_staged (s : State) (n : Nat) (f : CalGroup → CalGroup) : (s.modCg n f).staged = s.staged := rfl
@[simp] theorem State.modCg_readData (s : State) (n : Nat) (f : CalGroup → CalGroup) : (s.modCg n f).readData = s.readData := rfl
@[simp] theorem State.modCg_grp (s : State) (n : Nat) (f : CalGroup → CalGroup) : (s.modCg n f).grp = s.grp := rfl
@[simp] theorem State.modCg_armUndo (s : State) (n : Nat) (f : CalGroup → CalGroup) : (s.modCg n f).armUndo = s.armUndo := rfl
@[simp] theorem State.modCg_chan (s : State) (n : Nat) (f : CalGroup → CalGroup) : (s.modCg n f).chan = s.chan := rfl
@[simp] theorem State.modCg_srvAx (s : State) (n : Nat) (f : CalGroup → CalGroup) : (s.modCg n f).srvAx = s.srvAx := rfl
@[simp] theorem State.modCg_srvCh (s : State) (n : Nat) (f : CalGroup → CalGroup) : (s.modCg n f).srvCh = s.srvCh := rfl
@[simp] theorem State.modCg_srv (s : State) (n : Nat) (f : CalGroup → CalGroup) : (s.modCg n f).srv = s.srv := rfl
@[simp] theorem State.modCg_lsr (s : State) (n : Nat) (f : CalGroup → CalGroup) : (s.modCg n f).lsr = s.lsr := rfl
@[simp] theorem State.modCg_hoop (s : State) (n : Nat) (f : CalGroup → CalGroup) : (s.modCg n f).hoop = s.hoop := rfl
@[simp] theorem State.modCg_port (s : State) (n : Nat) (f : CalGroup → CalGroup) : (s.modCg n f).port = s.port := rfl
@[simp] theorem State.modCg_bulk (s : State) (n : Nat) (f : CalGroup → CalGroup) : (s.modCg n f).bulk = s.bulk := rfl
@[simp] theorem State.modCg_dom (s : State) (n : Nat) (f : CalGroup → CalGroup) : (s.modCg n f).dom = s.dom := rfl
@[simp] theorem State.modCg_time (s : State) (n : Nat) (f : CalGroup → CalGroup) : (s.modCg n f).time = s.time := rfl
@[simp] theorem State.modCg_mot (s : State) (n : Nat) (f : CalGroup → CalGroup) : (s.modCg n f).mot = s.mot := rfl
@[simp] theorem State.modCg_fbk (s : State) (n : Nat) (f : CalGroup → CalGroup) : (s.modCg n f).fbk = s.fbk := rfl
@[simp] theorem State.modCg_cam (s : State) (n : Nat) (f : CalGroup → CalGroup) : (s.modCg n f).cam = s.cam := rfl
@[simp] theorem State.modCg_pipe (s : State) (n : Nat) (f : CalGroup → CalGroup) : (s.modCg n f).pipe = s.pipe := rfl
@[simp] theorem State.modCg_lgt (s : State) (n : Nat) (f : CalGroup → CalGroup) : (s.modCg n f).lgt = s.lgt := rfl
@[simp] theorem State.modCg_strobe (s : State) (n : Nat) (f : CalGroup → CalGroup) : (s.modCg n f).strobe = s.strobe := rfl
@[simp] theorem State.modCg_lane (s : State) (n : Nat) (f : CalGroup → CalGroup) : (s.modCg n f).lane = s.lane := rfl
@[simp] theorem State.modCg_head (s : State) (n : Nat) (f : CalGroup → CalGroup) : (s.modCg n f).head = s.head := rfl
@[simp] theorem State.modCg_dma (s : State) (n : Nat) (f : CalGroup → CalGroup) : (s.modCg n f).dma = s.dma := rfl
@[simp] theorem State.modCg_dmaEng (s : State) (n : Nat) (f : CalGroup → CalGroup) : (s.modCg n f).dmaEng = s.dmaEng := rfl
@[simp] theorem State.modCg_pci (s : State) (n : Nat) (f : CalGroup → CalGroup) : (s.modCg n f).pci = s.pci := rfl
@[simp] theorem State.modCg_eth (s : State) (n : Nat) (f : CalGroup → CalGroup) : (s.modCg n f).eth = s.eth := rfl
@[simp] theorem State.modCg_ddr (s : State) (n : Nat) (f : CalGroup → CalGroup) : (s.modCg n f).ddr = s.ddr := rfl
@[simp] theorem State.modCg_intg (s : State) (n : Nat) (f : CalGroup → CalGroup) : (s.modCg n f).intg = s.intg := rfl
@[simp] theorem State.modCg_pwr (s : State) (n : Nat) (f : CalGroup → CalGroup) : (s.modCg n f).pwr = s.pwr := rfl
@[simp] theorem State.modCg_hk (s : State) (n : Nat) (f : CalGroup → CalGroup) : (s.modCg n f).hk = s.hk := rfl
@[simp] theorem State.modCg_cave (s : State) (n : Nat) (f : CalGroup → CalGroup) : (s.modCg n f).cave = s.cave := rfl
@[simp] theorem State.modCg_boot (s : State) (n : Nat) (f : CalGroup → CalGroup) : (s.modCg n f).boot = s.boot := rfl
@[simp] theorem State.modCg_pins (s : State) (n : Nat) (f : CalGroup → CalGroup) : (s.modCg n f).pins = s.pins := rfl
@[simp] theorem State.modCg_xbar (s : State) (n : Nat) (f : CalGroup → CalGroup) : (s.modCg n f).xbar = s.xbar := rfl
@[simp] theorem State.modCg_free (s : State) (n : Nat) (f : CalGroup → CalGroup) : (s.modCg n f).free = s.free := rfl
@[simp] theorem State.modCg_out (s : State) (n : Nat) (f : CalGroup → CalGroup) : (s.modCg n f).out = s.out := rfl

@[simp] theorem State.modGrp_pending (s : State) (f : Group → Group) : (s.modGrp f).pending = s.pending := rfl
@[simp] theorem State.modGrp_variant (s : State) (f : Group → Group) : (s.modGrp f).variant = s.variant := rfl
@[simp] theorem State.modGrp_regs (s : State) (f : Group → Group) : (s.modGrp f).regs = s.regs := rfl
@[simp] theorem State.modGrp_dram (s : State) (f : Group → Group) : (s.modGrp f).dram = s.dram := rfl
@[simp] theorem State.modGrp_l2 (s : State) (f : Group → Group) : (s.modGrp f).l2 = s.l2 := rfl
@[simp] theorem State.modGrp_shadow (s : State) (f : Group → Group) : (s.modGrp f).shadow = s.shadow := rfl
@[simp] theorem State.modGrp_staged (s : State) (f : Group → Group) : (s.modGrp f).staged = s.staged := rfl
@[simp] theorem State.modGrp_readData (s : State) (f : Group → Group) : (s.modGrp f).readData = s.readData := rfl
@[simp] theorem State.modGrp_armUndo (s : State) (f : Group → Group) : (s.modGrp f).armUndo = s.armUndo := rfl
@[simp] theorem State.modGrp_chan (s : State) (f : Group → Group) : (s.modGrp f).chan = s.chan := rfl
@[simp] theorem State.modGrp_srvAx (s : State) (f : Group → Group) : (s.modGrp f).srvAx = s.srvAx := rfl
@[simp] theorem State.modGrp_srvCh (s : State) (f : Group → Group) : (s.modGrp f).srvCh = s.srvCh := rfl
@[simp] theorem State.modGrp_srv (s : State) (f : Group → Group) : (s.modGrp f).srv = s.srv := rfl
@[simp] theorem State.modGrp_lsr (s : State) (f : Group → Group) : (s.modGrp f).lsr = s.lsr := rfl
@[simp] theorem State.modGrp_hoop (s : State) (f : Group → Group) : (s.modGrp f).hoop = s.hoop := rfl
@[simp] theorem State.modGrp_port (s : State) (f : Group → Group) : (s.modGrp f).port = s.port := rfl
@[simp] theorem State.modGrp_bulk (s : State) (f : Group → Group) : (s.modGrp f).bulk = s.bulk := rfl
@[simp] theorem State.modGrp_dom (s : State) (f : Group → Group) : (s.modGrp f).dom = s.dom := rfl
@[simp] theorem State.modGrp_time (s : State) (f : Group → Group) : (s.modGrp f).time = s.time := rfl
@[simp] theorem State.modGrp_mot (s : State) (f : Group → Group) : (s.modGrp f).mot = s.mot := rfl
@[simp] theorem State.modGrp_fbk (s : State) (f : Group → Group) : (s.modGrp f).fbk = s.fbk := rfl
@[simp] theorem State.modGrp_cam (s : State) (f : Group → Group) : (s.modGrp f).cam = s.cam := rfl
@[simp] theorem State.modGrp_pipe (s : State) (f : Group → Group) : (s.modGrp f).pipe = s.pipe := rfl
@[simp] theorem State.modGrp_lgt (s : State) (f : Group → Group) : (s.modGrp f).lgt = s.lgt := rfl
@[simp] theorem State.modGrp_strobe (s : State) (f : Group → Group) : (s.modGrp f).strobe = s.strobe := rfl
@[simp] theorem State.modGrp_lane (s : State) (f : Group → Group) : (s.modGrp f).lane = s.lane := rfl
@[simp] theorem State.modGrp_head (s : State) (f : Group → Group) : (s.modGrp f).head = s.head := rfl
@[simp] theorem State.modGrp_dma (s : State) (f : Group → Group) : (s.modGrp f).dma = s.dma := rfl
@[simp] theorem State.modGrp_dmaEng (s : State) (f : Group → Group) : (s.modGrp f).dmaEng = s.dmaEng := rfl
@[simp] theorem State.modGrp_pci (s : State) (f : Group → Group) : (s.modGrp f).pci = s.pci := rfl
@[simp] theorem State.modGrp_eth (s : State) (f : Group → Group) : (s.modGrp f).eth = s.eth := rfl
@[simp] theorem State.modGrp_ddr (s : State) (f : Group → Group) : (s.modGrp f).ddr = s.ddr := rfl
@[simp] theorem State.modGrp_intg (s : State) (f : Group → Group) : (s.modGrp f).intg = s.intg := rfl
@[simp] theorem State.modGrp_cal (s : State) (f : Group → Group) : (s.modGrp f).cal = s.cal := rfl
@[simp] theorem State.modGrp_pwr (s : State) (f : Group → Group) : (s.modGrp f).pwr = s.pwr := rfl
@[simp] theorem State.modGrp_hk (s : State) (f : Group → Group) : (s.modGrp f).hk = s.hk := rfl
@[simp] theorem State.modGrp_cave (s : State) (f : Group → Group) : (s.modGrp f).cave = s.cave := rfl
@[simp] theorem State.modGrp_boot (s : State) (f : Group → Group) : (s.modGrp f).boot = s.boot := rfl
@[simp] theorem State.modGrp_pins (s : State) (f : Group → Group) : (s.modGrp f).pins = s.pins := rfl
@[simp] theorem State.modGrp_xbar (s : State) (f : Group → Group) : (s.modGrp f).xbar = s.xbar := rfl
@[simp] theorem State.modGrp_free (s : State) (f : Group → Group) : (s.modGrp f).free = s.free := rfl
@[simp] theorem State.modGrp_out (s : State) (f : Group → Group) : (s.modGrp f).out = s.out := rfl

@[simp] theorem State.emit_pending (s : State) (o : Out) : (s.emit o).pending = s.pending := rfl
@[simp] theorem State.emit_variant (s : State) (o : Out) : (s.emit o).variant = s.variant := rfl
@[simp] theorem State.emit_regs (s : State) (o : Out) : (s.emit o).regs = s.regs := rfl
@[simp] theorem State.emit_dram (s : State) (o : Out) : (s.emit o).dram = s.dram := rfl
@[simp] theorem State.emit_l2 (s : State) (o : Out) : (s.emit o).l2 = s.l2 := rfl
@[simp] theorem State.emit_shadow (s : State) (o : Out) : (s.emit o).shadow = s.shadow := rfl
@[simp] theorem State.emit_staged (s : State) (o : Out) : (s.emit o).staged = s.staged := rfl
@[simp] theorem State.emit_readData (s : State) (o : Out) : (s.emit o).readData = s.readData := rfl
@[simp] theorem State.emit_grp (s : State) (o : Out) : (s.emit o).grp = s.grp := rfl
@[simp] theorem State.emit_armUndo (s : State) (o : Out) : (s.emit o).armUndo = s.armUndo := rfl
@[simp] theorem State.emit_chan (s : State) (o : Out) : (s.emit o).chan = s.chan := rfl
@[simp] theorem State.emit_srvAx (s : State) (o : Out) : (s.emit o).srvAx = s.srvAx := rfl
@[simp] theorem State.emit_srvCh (s : State) (o : Out) : (s.emit o).srvCh = s.srvCh := rfl
@[simp] theorem State.emit_srv (s : State) (o : Out) : (s.emit o).srv = s.srv := rfl
@[simp] theorem State.emit_lsr (s : State) (o : Out) : (s.emit o).lsr = s.lsr := rfl
@[simp] theorem State.emit_hoop (s : State) (o : Out) : (s.emit o).hoop = s.hoop := rfl
@[simp] theorem State.emit_port (s : State) (o : Out) : (s.emit o).port = s.port := rfl
@[simp] theorem State.emit_bulk (s : State) (o : Out) : (s.emit o).bulk = s.bulk := rfl
@[simp] theorem State.emit_dom (s : State) (o : Out) : (s.emit o).dom = s.dom := rfl
@[simp] theorem State.emit_time (s : State) (o : Out) : (s.emit o).time = s.time := rfl
@[simp] theorem State.emit_mot (s : State) (o : Out) : (s.emit o).mot = s.mot := rfl
@[simp] theorem State.emit_fbk (s : State) (o : Out) : (s.emit o).fbk = s.fbk := rfl
@[simp] theorem State.emit_cam (s : State) (o : Out) : (s.emit o).cam = s.cam := rfl
@[simp] theorem State.emit_pipe (s : State) (o : Out) : (s.emit o).pipe = s.pipe := rfl
@[simp] theorem State.emit_lgt (s : State) (o : Out) : (s.emit o).lgt = s.lgt := rfl
@[simp] theorem State.emit_strobe (s : State) (o : Out) : (s.emit o).strobe = s.strobe := rfl
@[simp] theorem State.emit_lane (s : State) (o : Out) : (s.emit o).lane = s.lane := rfl
@[simp] theorem State.emit_head (s : State) (o : Out) : (s.emit o).head = s.head := rfl
@[simp] theorem State.emit_dma (s : State) (o : Out) : (s.emit o).dma = s.dma := rfl
@[simp] theorem State.emit_dmaEng (s : State) (o : Out) : (s.emit o).dmaEng = s.dmaEng := rfl
@[simp] theorem State.emit_pci (s : State) (o : Out) : (s.emit o).pci = s.pci := rfl
@[simp] theorem State.emit_eth (s : State) (o : Out) : (s.emit o).eth = s.eth := rfl
@[simp] theorem State.emit_ddr (s : State) (o : Out) : (s.emit o).ddr = s.ddr := rfl
@[simp] theorem State.emit_intg (s : State) (o : Out) : (s.emit o).intg = s.intg := rfl
@[simp] theorem State.emit_cal (s : State) (o : Out) : (s.emit o).cal = s.cal := rfl
@[simp] theorem State.emit_pwr (s : State) (o : Out) : (s.emit o).pwr = s.pwr := rfl
@[simp] theorem State.emit_hk (s : State) (o : Out) : (s.emit o).hk = s.hk := rfl
@[simp] theorem State.emit_cave (s : State) (o : Out) : (s.emit o).cave = s.cave := rfl
@[simp] theorem State.emit_boot (s : State) (o : Out) : (s.emit o).boot = s.boot := rfl
@[simp] theorem State.emit_pins (s : State) (o : Out) : (s.emit o).pins = s.pins := rfl
@[simp] theorem State.emit_xbar (s : State) (o : Out) : (s.emit o).xbar = s.xbar := rfl
@[simp] theorem State.emit_free (s : State) (o : Out) : (s.emit o).free = s.free := rfl

/-! Reading what was written -/

theorem State.reg_setReg (s : State) (a b : Nat) (v : Word) : (s.setReg a v).reg b = if b = a then v else s.reg b :=
  tabGet_tabSet _ _ _ _ _

@[simp] theorem State.reg_setReg_same (s : State) (a : Nat) (v : Word) : (s.setReg a v).reg a = v := by simp [State.reg_setReg]

theorem State.reg_setReg_ne (s : State) (a b : Nat) (v : Word) (h : b ≠ a) : (s.setReg a v).reg b = s.reg b := by
  simp [State.reg_setReg, h]

theorem State.ch_modCh (s : State) (n m : Nat) (f : Chan → Chan) :
    (s.modCh n f).ch m = if m = n then f (s.ch n) else s.ch m := tabGet_tabSet _ _ _ _ _

@[simp] theorem State.ch_modCh_same (s : State) (n : Nat) (f : Chan → Chan) : (s.modCh n f).ch n = f (s.ch n) := by
  simp [State.ch_modCh]

theorem State.ax_modAx (s : State) (n m : Nat) (f : Axis → Axis) :
    (s.modAx n f).ax m = if m = n then f (s.ax n) else s.ax m := tabGet_tabSet _ _ _ _ _

@[simp] theorem State.ax_modAx_same (s : State) (n : Nat) (f : Axis → Axis) : (s.modAx n f).ax n = f (s.ax n) := by
  simp [State.ax_modAx]

theorem State.sc_modSc (s : State) (n m : Nat) (f : ServoCh → ServoCh) :
    (s.modSc n f).sc m = if m = n then f (s.sc n) else s.sc m := tabGet_tabSet _ _ _ _ _

@[simp] theorem State.sc_modSc_same (s : State) (n : Nat) (f : ServoCh → ServoCh) : (s.modSc n f).sc n = f (s.sc n) := by
  simp [State.sc_modSc]

theorem State.ls_modLs (s : State) (n m : Nat) (f : Laser → Laser) :
    (s.modLs n f).ls m = if m = n then f (s.ls n) else s.ls m := tabGet_tabSet _ _ _ _ _

@[simp] theorem State.ls_modLs_same (s : State) (n : Nat) (f : Laser → Laser) : (s.modLs n f).ls n = f (s.ls n) := by
  simp [State.ls_modLs]

theorem State.pt_modPt (s : State) (n m : Nat) (f : HoopPort → HoopPort) :
    (s.modPt n f).pt m = if m = n then f (s.pt n) else s.pt m := tabGet_tabSet _ _ _ _ _

@[simp] theorem State.pt_modPt_same (s : State) (n : Nat) (f : HoopPort → HoopPort) : (s.modPt n f).pt n = f (s.pt n) := by
  simp [State.pt_modPt]

theorem State.bk_modBk (s : State) (n m : Nat) (f : BulkTx → BulkTx) :
    (s.modBk n f).bk m = if m = n then f (s.bk n) else s.bk m := tabGet_tabSet _ _ _ _ _

@[simp] theorem State.bk_modBk_same (s : State) (n : Nat) (f : BulkTx → BulkTx) : (s.modBk n f).bk n = f (s.bk n) := by
  simp [State.bk_modBk]

theorem State.dm_modDm (s : State) (n m : Nat) (f : Domain → Domain) :
    (s.modDm n f).dm m = if m = n then f (s.dm n) else s.dm m := tabGet_tabSet _ _ _ _ _

@[simp] theorem State.dm_modDm_same (s : State) (n : Nat) (f : Domain → Domain) : (s.modDm n f).dm n = f (s.dm n) := by
  simp [State.dm_modDm]

theorem State.mo_modMo (s : State) (n m : Nat) (f : Motor → Motor) :
    (s.modMo n f).mo m = if m = n then f (s.mo n) else s.mo m := tabGet_tabSet _ _ _ _ _

@[simp] theorem State.mo_modMo_same (s : State) (n : Nat) (f : Motor → Motor) : (s.modMo n f).mo n = f (s.mo n) := by
  simp [State.mo_modMo]

theorem State.fb_modFb (s : State) (n m : Nat) (f : Feedback → Feedback) :
    (s.modFb n f).fb m = if m = n then f (s.fb n) else s.fb m := tabGet_tabSet _ _ _ _ _

@[simp] theorem State.fb_modFb_same (s : State) (n : Nat) (f : Feedback → Feedback) : (s.modFb n f).fb n = f (s.fb n) := by
  simp [State.fb_modFb]

theorem State.cm_modCm (s : State) (n m : Nat) (f : CamPort → CamPort) :
    (s.modCm n f).cm m = if m = n then f (s.cm n) else s.cm m := tabGet_tabSet _ _ _ _ _

@[simp] theorem State.cm_modCm_same (s : State) (n : Nat) (f : CamPort → CamPort) : (s.modCm n f).cm n = f (s.cm n) := by
  simp [State.cm_modCm]

theorem State.sb_modSb (s : State) (n m : Nat) (f : Strobe → Strobe) :
    (s.modSb n f).sb m = if m = n then f (s.sb n) else s.sb m := tabGet_tabSet _ _ _ _ _

@[simp] theorem State.sb_modSb_same (s : State) (n : Nat) (f : Strobe → Strobe) : (s.modSb n f).sb n = f (s.sb n) := by
  simp [State.sb_modSb]

theorem State.ln_modLn (s : State) (n m : Nat) (f : Lane → Lane) :
    (s.modLn n f).ln m = if m = n then f (s.ln n) else s.ln m := tabGet_tabSet _ _ _ _ _

@[simp] theorem State.ln_modLn_same (s : State) (n : Nat) (f : Lane → Lane) : (s.modLn n f).ln n = f (s.ln n) := by
  simp [State.ln_modLn]

theorem State.hd_modHd (s : State) (n m : Nat) (f : Head → Head) :
    (s.modHd n f).hd m = if m = n then f (s.hd n) else s.hd m := tabGet_tabSet _ _ _ _ _

@[simp] theorem State.hd_modHd_same (s : State) (n : Nat) (f : Head → Head) : (s.modHd n f).hd n = f (s.hd n) := by
  simp [State.hd_modHd]

theorem State.dc_modDc (s : State) (n m : Nat) (f : DmaCh → DmaCh) :
    (s.modDc n f).dc m = if m = n then f (s.dc n) else s.dc m := tabGet_tabSet _ _ _ _ _

@[simp] theorem State.dc_modDc_same (s : State) (n : Nat) (f : DmaCh → DmaCh) : (s.modDc n f).dc n = f (s.dc n) := by
  simp [State.dc_modDc]

theorem State.et_modEt (s : State) (n m : Nat) (f : EthPort → EthPort) :
    (s.modEt n f).et m = if m = n then f (s.et n) else s.et m := tabGet_tabSet _ _ _ _ _

@[simp] theorem State.et_modEt_same (s : State) (n : Nat) (f : EthPort → EthPort) : (s.modEt n f).et n = f (s.et n) := by
  simp [State.et_modEt]

theorem State.cg_modCg (s : State) (n m : Nat) (f : CalGroup → CalGroup) :
    (s.modCg n f).cg m = if m = n then f (s.cg n) else s.cg m := tabGet_tabSet _ _ _ _ _

@[simp] theorem State.cg_modCg_same (s : State) (n : Nat) (f : CalGroup → CalGroup) : (s.modCg n f).cg n = f (s.cg n) := by
  simp [State.cg_modCg]

@[simp] theorem State.modCh_reg (s : State) (n : Nat) (f : Chan → Chan) (a : Nat) : (s.modCh n f).reg a = s.reg a := rfl
@[simp] theorem State.modAx_reg (s : State) (n : Nat) (f : Axis → Axis) (a : Nat) : (s.modAx n f).reg a = s.reg a := rfl
@[simp] theorem State.modSc_reg (s : State) (n : Nat) (f : ServoCh → ServoCh) (a : Nat) : (s.modSc n f).reg a = s.reg a := rfl
@[simp] theorem State.modLs_reg (s : State) (n : Nat) (f : Laser → Laser) (a : Nat) : (s.modLs n f).reg a = s.reg a := rfl
@[simp] theorem State.modPt_reg (s : State) (n : Nat) (f : HoopPort → HoopPort) (a : Nat) : (s.modPt n f).reg a = s.reg a := rfl
@[simp] theorem State.modBk_reg (s : State) (n : Nat) (f : BulkTx → BulkTx) (a : Nat) : (s.modBk n f).reg a = s.reg a := rfl
@[simp] theorem State.modDm_reg (s : State) (n : Nat) (f : Domain → Domain) (a : Nat) : (s.modDm n f).reg a = s.reg a := rfl
@[simp] theorem State.modMo_reg (s : State) (n : Nat) (f : Motor → Motor) (a : Nat) : (s.modMo n f).reg a = s.reg a := rfl
@[simp] theorem State.modFb_reg (s : State) (n : Nat) (f : Feedback → Feedback) (a : Nat) : (s.modFb n f).reg a = s.reg a := rfl
@[simp] theorem State.modCm_reg (s : State) (n : Nat) (f : CamPort → CamPort) (a : Nat) : (s.modCm n f).reg a = s.reg a := rfl
@[simp] theorem State.modSb_reg (s : State) (n : Nat) (f : Strobe → Strobe) (a : Nat) : (s.modSb n f).reg a = s.reg a := rfl
@[simp] theorem State.modLn_reg (s : State) (n : Nat) (f : Lane → Lane) (a : Nat) : (s.modLn n f).reg a = s.reg a := rfl
@[simp] theorem State.modHd_reg (s : State) (n : Nat) (f : Head → Head) (a : Nat) : (s.modHd n f).reg a = s.reg a := rfl
@[simp] theorem State.modDc_reg (s : State) (n : Nat) (f : DmaCh → DmaCh) (a : Nat) : (s.modDc n f).reg a = s.reg a := rfl
@[simp] theorem State.modEt_reg (s : State) (n : Nat) (f : EthPort → EthPort) (a : Nat) : (s.modEt n f).reg a = s.reg a := rfl
@[simp] theorem State.modCg_reg (s : State) (n : Nat) (f : CalGroup → CalGroup) (a : Nat) : (s.modCg n f).reg a = s.reg a := rfl
@[simp] theorem State.modGrp_reg (s : State) (f : Group → Group) (a : Nat) : (s.modGrp f).reg a = s.reg a := rfl
@[simp] theorem State.emit_reg (s : State) (o : Out) (a : Nat) : (s.emit o).reg a = s.reg a := rfl
@[simp] theorem State.modGrp_grp (s : State) (f : Group → Group) : (s.modGrp f).grp = f s.grp := rfl
@[simp] theorem State.emit_out (s : State) (o : Out) : (s.emit o).out = o :: s.out := rfl

end Sys2Proof.Machine
end

