-- ==== Sys2Proof/Laws/Keeps.lean ====
section
/-!
SUPPORT. What each operation and each meaning can touch: the parts of the state that it may change, and that every table stays in
canonical form.
-/

set_option linter.unusedTactic false
set_option linter.unreachableTactic false
set_option linter.unusedVariables false

namespace Sys2Proof.Machine

/-- From s to t nothing but the listed parts has changed, and canonical tables have stayed so. -/
structure Keeps (A : List Part) (s t : State) : Prop where
  only : Only A s t
  canon : s.canon = true → t.canon = true

/-- The same for an outcome: a next state, if there is one. -/
structure KeepsR (A : List Part) (s : State) (r : Res) : Prop where
  next : ∀ t, r = .next t → Keeps A s t

theorem Same.rfl' (p : Part) (s : State) : Same p s s := by cases p <;> rfl
theorem Same.trans {p : Part} {s t u : State} (h : Same p s t) (k : Same p t u) : Same p s u := by
  cases p <;> exact Eq.trans k h

theorem Keeps.refl (A : List Part) (s : State) : Keeps A s s := ⟨fun p _ => Same.rfl' p s, id⟩
theorem Keeps.trans {A : List Part} {s t u : State} (h : Keeps A s t) (k : Keeps A t u) : Keeps A s u :=
  ⟨fun p hp => (h.only p hp).trans (k.only p hp), fun c => k.canon (h.canon c)⟩

theorem subParts {B A C : List Part} (h : B ⊆ A) (d : C.all (fun p => decide (p ∈ B)) = true) : C ⊆ A := fun p hp =>
  h (of_decide_eq_true (List.all_eq_true.mp d p hp))

theorem Keeps.ite {A : List Part} {s0 a b : State} {c : Prop} [Decidable c] (ha : Keeps A s0 a) (hb : Keeps A s0 b) :
    Keeps A s0 (if c then a else b) := by split <;> assumption
theorem KeepsR.ite {A : List Part} {s0 : State} {a b : Res} {c : Prop} [Decidable c] (ha : KeepsR A s0 a) (hb : KeepsR A s0 b) :
    KeepsR A s0 (if c then a else b) := by split <;> assumption
theorem KeepsR.of_next {A : List Part} {s0 t : State} (h : Keeps A s0 t) : KeepsR A s0 (.next t) := by
  constructor; intro u e; cases e; exact h
theorem KeepsR.fault {A : List Part} {s0 : State} (f : Fault) : KeepsR A s0 (.fault f) := by constructor; intro u e; cases e
theorem Keeps.foldl {A : List Part} {s0 : State} {α : Type} {l : List α} {f : State → α → State} {s : State}
    (hf : ∀ t a, Keeps A s0 t → Keeps A s0 (f t a)) (h : Keeps A s0 s) : Keeps A s0 (l.foldl f s) := by
  induction l generalizing s with
  | nil => exact h
  | cons a l ih => exact ih (hf s a h)
theorem Keeps.each {A : List Part} {s0 : State} {l : List Nat} {f : Nat → State → State} {s : State}
    (hf : ∀ n t, Keeps A s0 t → Keeps A s0 (f n t)) (h : Keeps A s0 s) : Keeps A s0 (s.each l f) :=
  Keeps.foldl (fun t a => hf a t) h
theorem Keeps.pair {A : List Part} {s0 : State} {α : Type} {x : α × State} {a : α} {b : State} (e : x = (a, b))
    (h : Keeps A s0 x.2) : Keeps A s0 b := by rw [e] at h; exact h
theorem keeps_id {A : List Part} {s0 s : State} (h : Keeps A s0 s) : Keeps A s0 (id s) := h
theorem Keeps.pairL {A : List Part} {s0 : State} {α : Type} {x : State × α} {a : α} {b : State} (e : x = (b, a))
    (h : Keeps A s0 x.1) : Keeps A s0 b := by rw [e] at h; exact h
theorem Keeps.pair3 {A : List Part} {s0 : State} {α β : Type} {x : α × β × State} {a : α} {c : β} {b : State} (e : x = (a, c, b))
    (h : Keeps A s0 x.2.2) : Keeps A s0 b := by rw [e] at h; exact h

theorem Keeps.upd_regs {A : List Part} {s0 t : State} (hA : [.regs] ⊆ A) {v0 : Tab Word} (h : Keeps A s0 t) (c0 : t.canon = true → tabWf resetWord v0 = true) :
    Keeps A s0 { t with regs := v0 } := by
  refine ⟨fun p hp => ?_, fun c => ?_⟩
  · have := h.only p hp
    cases p <;> first | exact this | exact absurd (hA (by decide)) hp
  · have k := h.canon c
    have e0 := c0 k
    simp only [State.canon, State.memCanon, Memory.wf, Bool.and_eq_true] at k ⊢
    simp only [e0, k, and_self]

theorem Keeps.upd_dram {A : List Part} {s0 t : State} (hA : [.dram] ⊆ A) {v0 : List (Nat × BitVec 8)} (h : Keeps A s0 t) (c0 : t.canon = true → tabWf (fun _ => (0 : Byte)) v0 = true) :
    Keeps A s0 { t with dram := v0 } := by
  refine ⟨fun p hp => ?_, fun c => ?_⟩
  · have := h.only p hp
    cases p <;> first | exact this | exact absurd (hA (by decide)) hp
  · have k := h.canon c
    have e0 := c0 k
    simp only [State.canon, State.memCanon, Memory.wf, Bool.and_eq_true] at k ⊢
    simp only [e0, k, and_self]

theorem Keeps.upd_l2 {A : List Part} {s0 t : State} (hA : [.l2] ⊆ A) {v0 : List Byte} (h : Keeps A s0 t) :
    Keeps A s0 { t with l2 := v0 } := by
  refine ⟨fun p hp => ?_, fun c => ?_⟩
  · have := h.only p hp
    cases p <;> first | exact this | exact absurd (hA (by decide)) hp
  · exact h.canon c

theorem Keeps.upd_shadow {A : List Part} {s0 t : State} (hA : [.shadow] ⊆ A) {v0 : Tab Word} (h : Keeps A s0 t) (c0 : t.canon = true → tabWf (fun _ => (0 : Word)) v0 = true) :
    Keeps A s0 { t with shadow := v0 } := by
  refine ⟨fun p hp => ?_, fun c => ?_⟩
  · have := h.only p hp
    cases p <;> first | exact this | exact absurd (hA (by decide)) hp
  · have k := h.canon c
    have e0 := c0 k
    simp only [State.canon, State.memCanon, Memory.wf, Bool.and_eq_true] at k ⊢
    simp only [e0, k, and_self]

theorem Keeps.upd_staged {A : List Part} {s0 t : State} (hA : [.staged] ⊆ A) {v0 : Tab Word} (h : Keeps A s0 t) (c0 : t.canon = true → tabWf (fun _ => (0 : Word)) v0 = true) :
    Keeps A s0 { t with staged := v0 } := by
  refine ⟨fun p hp => ?_, fun c => ?_⟩
  · have := h.only p hp
    cases p <;> first | exact this | exact absurd (hA (by decide)) hp
  · have k := h.canon c
    have e0 := c0 k
    simp only [State.canon, State.memCanon, Memory.wf, Bool.and_eq_true] at k ⊢
    simp only [e0, k, and_self]

theorem Keeps.upd_readData {A : List Part} {s0 t : State} (hA : [.readData] ⊆ A) {v0 : Word} (h : Keeps A s0 t) :
    Keeps A s0 { t with readData := v0 } := by
  refine ⟨fun p hp => ?_, fun c => ?_⟩
  · have := h.only p hp
    cases p <;> first | exact this | exact absurd (hA (by decide)) hp
  · exact h.canon c

theorem Keeps.upd_grp {A : List Part} {s0 t : State} (hA : [.grp] ⊆ A) {v0 : Group} (h : Keeps A s0 t) :
    Keeps A s0 { t with grp := v0 } := by
  refine ⟨fun p hp => ?_, fun c => ?_⟩
  · have := h.only p hp
    cases p <;> first | exact this | exact absurd (hA (by decide)) hp
  · exact h.canon c

theorem Keeps.upd_armUndo {A : List Part} {s0 t : State} (hA : [.armUndo] ⊆ A) {v0 : Option ArmUndo} (h : Keeps A s0 t) :
    Keeps A s0 { t with armUndo := v0 } := by
  refine ⟨fun p hp => ?_, fun c => ?_⟩
  · have := h.only p hp
    cases p <;> first | exact this | exact absurd (hA (by decide)) hp
  · exact h.canon c

theorem Keeps.upd_chan {A : List Part} {s0 t : State} (hA : [.chan] ⊆ A) {v0 : Tab Chan} (h : Keeps A s0 t) (c0 : t.canon = true → tabWf (fun _ => Chan.reset) v0 = true) :
    Keeps A s0 { t with chan := v0 } := by
  refine ⟨fun p hp => ?_, fun c => ?_⟩
  · have := h.only p hp
    cases p <;> first | exact this | exact absurd (hA (by decide)) hp
  · have k := h.canon c
    have e0 := c0 k
    simp only [State.canon, State.memCanon, Memory.wf, Bool.and_eq_true] at k ⊢
    simp only [e0, k, and_self]

theorem Keeps.upd_srvAx {A : List Part} {s0 t : State} (hA : [.srvAx] ⊆ A) {v0 : Tab Axis} (h : Keeps A s0 t) (c0 : t.canon = true → tabWf (fun _ => Axis.reset) v0 = true) :
    Keeps A s0 { t with srvAx := v0 } := by
  refine ⟨fun p hp => ?_, fun c => ?_⟩
  · have := h.only p hp
    cases p <;> first | exact this | exact absurd (hA (by decide)) hp
  · have k := h.canon c
    have e0 := c0 k
    simp only [State.canon, State.memCanon, Memory.wf, Bool.and_eq_true] at k ⊢
    simp only [e0, k, and_self]

theorem Keeps.upd_srvCh {A : List Part} {s0 t : State} (hA : [.srvCh] ⊆ A) {v0 : Tab ServoCh} (h : Keeps A s0 t) (c0 : t.canon = true → tabWf (fun _ => ServoCh.reset) v0 = true) :
    Keeps A s0 { t with srvCh := v0 } := by
  refine ⟨fun p hp => ?_, fun c => ?_⟩
  · have := h.only p hp
    cases p <;> first | exact this | exact absurd (hA (by decide)) hp
  · have k := h.canon c
    have e0 := c0 k
    simp only [State.canon, State.memCanon, Memory.wf, Bool.and_eq_true] at k ⊢
    simp only [e0, k, and_self]

theorem Keeps.upd_srv {A : List Part} {s0 t : State} (hA : [.srv] ⊆ A) {v0 : Servo} (h : Keeps A s0 t) :
    Keeps A s0 { t with srv := v0 } := by
  refine ⟨fun p hp => ?_, fun c => ?_⟩
  · have := h.only p hp
    cases p <;> first | exact this | exact absurd (hA (by decide)) hp
  · exact h.canon c

theorem Keeps.upd_lsr {A : List Part} {s0 t : State} (hA : [.lsr] ⊆ A) {v0 : Tab Laser} (h : Keeps A s0 t) (c0 : t.canon = true → tabWf (fun _ => Laser.reset) v0 = true) :
    Keeps A s0 { t with lsr := v0 } := by
  refine ⟨fun p hp => ?_, fun c => ?_⟩
  · have := h.only p hp
    cases p <;> first | exact this | exact absurd (hA (by decide)) hp
  · have k := h.canon c
    have e0 := c0 k
    simp only [State.canon, State.memCanon, Memory.wf, Bool.and_eq_true] at k ⊢
    simp only [e0, k, and_self]

theorem Keeps.upd_hoop {A : List Part} {s0 t : State} (hA : [.hoop] ⊆ A) {v0 : Hoop} (h : Keeps A s0 t) :
    Keeps A s0 { t with hoop := v0 } := by
  refine ⟨fun p hp => ?_, fun c => ?_⟩
  · have := h.only p hp
    cases p <;> first | exact this | exact absurd (hA (by decide)) hp
  · exact h.canon c

theorem Keeps.upd_port {A : List Part} {s0 t : State} (hA : [.port] ⊆ A) {v0 : Tab HoopPort} (h : Keeps A s0 t) (c0 : t.canon = true → tabWf (fun _ => HoopPort.reset) v0 = true) :
    Keeps A s0 { t with port := v0 } := by
  refine ⟨fun p hp => ?_, fun c => ?_⟩
  · have := h.only p hp
    cases p <;> first | exact this | exact absurd (hA (by decide)) hp
  · have k := h.canon c
    have e0 := c0 k
    simp only [State.canon, State.memCanon, Memory.wf, Bool.and_eq_true] at k ⊢
    simp only [e0, k, and_self]

theorem Keeps.upd_bulk {A : List Part} {s0 t : State} (hA : [.bulk] ⊆ A) {v0 : Tab BulkTx} (h : Keeps A s0 t) (c0 : t.canon = true → tabWf (fun _ => (⟨false, 0⟩ : BulkTx)) v0 = true) :
    Keeps A s0 { t with bulk := v0 } := by
  refine ⟨fun p hp => ?_, fun c => ?_⟩
  · have := h.only p hp
    cases p <;> first | exact this | exact absurd (hA (by decide)) hp
  · have k := h.canon c
    have e0 := c0 k
    simp only [State.canon, State.memCanon, Memory.wf, Bool.and_eq_true] at k ⊢
    simp only [e0, k, and_self]

theorem Keeps.upd_dom {A : List Part} {s0 t : State} (hA : [.dom] ⊆ A) {v0 : Tab Domain} (h : Keeps A s0 t) (c0 : t.canon = true → tabWf (fun _ => Domain.reset) v0 = true) :
    Keeps A s0 { t with dom := v0 } := by
  refine ⟨fun p hp => ?_, fun c => ?_⟩
  · have := h.only p hp
    cases p <;> first | exact this | exact absurd (hA (by decide)) hp
  · have k := h.canon c
    have e0 := c0 k
    simp only [State.canon, State.memCanon, Memory.wf, Bool.and_eq_true] at k ⊢
    simp only [e0, k, and_self]

theorem Keeps.upd_time {A : List Part} {s0 t : State} (hA : [.time] ⊆ A) {v0 : TimeUnit} (h : Keeps A s0 t) :
    Keeps A s0 { t with time := v0 } := by
  refine ⟨fun p hp => ?_, fun c => ?_⟩
  · have := h.only p hp
    cases p <;> first | exact this | exact absurd (hA (by decide)) hp
  · exact h.canon c

theorem Keeps.upd_mot {A : List Part} {s0 t : State} (hA : [.mot] ⊆ A) {v0 : Tab Motor} (h : Keeps A s0 t) (c0 : t.canon = true → tabWf (fun _ => Motor.reset) v0 = true) :
    Keeps A s0 { t with mot := v0 } := by
  refine ⟨fun p hp => ?_, fun c => ?_⟩
  · have := h.only p hp
    cases p <;> first | exact this | exact absurd (hA (by decide)) hp
  · have k := h.canon c
    have e0 := c0 k
    simp only [State.canon, State.memCanon, Memory.wf, Bool.and_eq_true] at k ⊢
    simp only [e0, k, and_self]

theorem Keeps.upd_fbk {A : List Part} {s0 t : State} (hA : [.fbk] ⊆ A) {v0 : Tab Feedback} (h : Keeps A s0 t) (c0 : t.canon = true → tabWf (fun _ => Feedback.reset) v0 = true) :
    Keeps A s0 { t with fbk := v0 } := by
  refine ⟨fun p hp => ?_, fun c => ?_⟩
  · have := h.only p hp
    cases p <;> first | exact this | exact absurd (hA (by decide)) hp
  · have k := h.canon c
    have e0 := c0 k
    simp only [State.canon, State.memCanon, Memory.wf, Bool.and_eq_true] at k ⊢
    simp only [e0, k, and_self]

theorem Keeps.upd_cam {A : List Part} {s0 t : State} (hA : [.cam] ⊆ A) {v0 : Tab CamPort} (h : Keeps A s0 t) (c0 : t.canon = true → tabWf (fun _ => CamPort.reset) v0 = true) :
    Keeps A s0 { t with cam := v0 } := by
  refine ⟨fun p hp => ?_, fun c => ?_⟩
  · have := h.only p hp
    cases p <;> first | exact this | exact absurd (hA (by decide)) hp
  · have k := h.canon c
    have e0 := c0 k
    simp only [State.canon, State.memCanon, Memory.wf, Bool.and_eq_true] at k ⊢
    simp only [e0, k, and_self]

theorem Keeps.upd_pipe {A : List Part} {s0 t : State} (hA : [.pipe] ⊆ A) {v0 : Pipeline} (h : Keeps A s0 t) :
    Keeps A s0 { t with pipe := v0 } := by
  refine ⟨fun p hp => ?_, fun c => ?_⟩
  · have := h.only p hp
    cases p <;> first | exact this | exact absurd (hA (by decide)) hp
  · exact h.canon c

theorem Keeps.upd_lgt {A : List Part} {s0 t : State} (hA : [.lgt] ⊆ A) {v0 : Light} (h : Keeps A s0 t) :
    Keeps A s0 { t with lgt := v0 } := by
  refine ⟨fun p hp => ?_, fun c => ?_⟩
  · have := h.only p hp
    cases p <;> first | exact this | exact absurd (hA (by decide)) hp
  · exact h.canon c

theorem Keeps.upd_strobe {A : List Part} {s0 t : State} (hA : [.strobe] ⊆ A) {v0 : Tab Strobe} (h : Keeps A s0 t) (c0 : t.canon = true → tabWf (fun _ => Strobe.reset) v0 = true) :
    Keeps A s0 { t with strobe := v0 } := by
  refine ⟨fun p hp => ?_, fun c => ?_⟩
  · have := h.only p hp
    cases p <;> first | exact this | exact absurd (hA (by decide)) hp
  · have k := h.canon c
    have e0 := c0 k
    simp only [State.canon, State.memCanon, Memory.wf, Bool.and_eq_true] at k ⊢
    simp only [e0, k, and_self]

theorem Keeps.upd_lane {A : List Part} {s0 t : State} (hA : [.lane] ⊆ A) {v0 : Tab Lane} (h : Keeps A s0 t) (c0 : t.canon = true → tabWf (fun _ => Lane.reset) v0 = true) :
    Keeps A s0 { t with lane := v0 } := by
  refine ⟨fun p hp => ?_, fun c => ?_⟩
  · have := h.only p hp
    cases p <;> first | exact this | exact absurd (hA (by decide)) hp
  · have k := h.canon c
    have e0 := c0 k
    simp only [State.canon, State.memCanon, Memory.wf, Bool.and_eq_true] at k ⊢
    simp only [e0, k, and_self]

theorem Keeps.upd_head {A : List Part} {s0 t : State} (hA : [.head] ⊆ A) {v0 : Tab Head} (h : Keeps A s0 t) (c0 : t.canon = true → tabWf (fun _ => Head.reset) v0 = true) :
    Keeps A s0 { t with head := v0 } := by
  refine ⟨fun p hp => ?_, fun c => ?_⟩
  · have := h.only p hp
    cases p <;> first | exact this | exact absurd (hA (by decide)) hp
  · have k := h.canon c
    have e0 := c0 k
    simp only [State.canon, State.memCanon, Memory.wf, Bool.and_eq_true] at k ⊢
    simp only [e0, k, and_self]

theorem Keeps.upd_dma {A : List Part} {s0 t : State} (hA : [.dma] ⊆ A) {v0 : Tab DmaCh} (h : Keeps A s0 t) (c0 : t.canon = true → tabWf (fun _ => DmaCh.reset) v0 = true) :
    Keeps A s0 { t with dma := v0 } := by
  refine ⟨fun p hp => ?_, fun c => ?_⟩
  · have := h.only p hp
    cases p <;> first | exact this | exact absurd (hA (by decide)) hp
  · have k := h.canon c
    have e0 := c0 k
    simp only [State.canon, State.memCanon, Memory.wf, Bool.and_eq_true] at k ⊢
    simp only [e0, k, and_self]

theorem Keeps.upd_dmaEng {A : List Part} {s0 t : State} (hA : [.dmaEng] ⊆ A) {v0 : DmaEngine} (h : Keeps A s0 t) :
    Keeps A s0 { t with dmaEng := v0 } := by
  refine ⟨fun p hp => ?_, fun c => ?_⟩
  · have := h.only p hp
    cases p <;> first | exact this | exact absurd (hA (by decide)) hp
  · exact h.canon c

theorem Keeps.upd_pci {A : List Part} {s0 t : State} (hA : [.pci] ⊆ A) {v0 : Pci} (h : Keeps A s0 t) :
    Keeps A s0 { t with pci := v0 } := by
  refine ⟨fun p hp => ?_, fun c => ?_⟩
  · have := h.only p hp
    cases p <;> first | exact this | exact absurd (hA (by decide)) hp
  · exact h.canon c

theorem Keeps.upd_eth {A : List Part} {s0 t : State} (hA : [.eth] ⊆ A) {v0 : Tab EthPort} (h : Keeps A s0 t) (c0 : t.canon = true → tabWf (fun _ => (⟨0, none⟩ : EthPort)) v0 = true) :
    Keeps A s0 { t with eth := v0 } := by
  refine ⟨fun p hp => ?_, fun c => ?_⟩
  · have := h.only p hp
    cases p <;> first | exact this | exact absurd (hA (by decide)) hp
  · have k := h.canon c
    have e0 := c0 k
    simp only [State.canon, State.memCanon, Memory.wf, Bool.and_eq_true] at k ⊢
    simp only [e0, k, and_self]

theorem Keeps.upd_ddr {A : List Part} {s0 t : State} (hA : [.ddr] ⊆ A) {v0 : Dram} (h : Keeps A s0 t) :
    Keeps A s0 { t with ddr := v0 } := by
  refine ⟨fun p hp => ?_, fun c => ?_⟩
  · have := h.only p hp
    cases p <;> first | exact this | exact absurd (hA (by decide)) hp
  · exact h.canon c

theorem Keeps.upd_intg {A : List Part} {s0 t : State} (hA : [.intg] ⊆ A) {v0 : Integ} (h : Keeps A s0 t) :
    Keeps A s0 { t with intg := v0 } := by
  refine ⟨fun p hp => ?_, fun c => ?_⟩
  · have := h.only p hp
    cases p <;> first | exact this | exact absurd (hA (by decide)) hp
  · exact h.canon c

theorem Keeps.upd_cal {A : List Part} {s0 t : State} (hA : [.cal] ⊆ A) {v0 : Tab CalGroup} (h : Keeps A s0 t) (c0 : t.canon = true → tabWf (fun _ => (⟨false, 0⟩ : CalGroup)) v0 = true) :
    Keeps A s0 { t with cal := v0 } := by
  refine ⟨fun p hp => ?_, fun c => ?_⟩
  · have := h.only p hp
    cases p <;> first | exact this | exact absurd (hA (by decide)) hp
  · have k := h.canon c
    have e0 := c0 k
    simp only [State.canon, State.memCanon, Memory.wf, Bool.and_eq_true] at k ⊢
    simp only [e0, k, and_self]

theorem Keeps.upd_pwr {A : List Part} {s0 t : State} (hA : [.pwr] ⊆ A) {v0 : Power} (h : Keeps A s0 t) :
    Keeps A s0 { t with pwr := v0 } := by
  refine ⟨fun p hp => ?_, fun c => ?_⟩
  · have := h.only p hp
    cases p <;> first | exact this | exact absurd (hA (by decide)) hp
  · exact h.canon c

theorem Keeps.upd_hk {A : List Part} {s0 t : State} (hA : [.hk] ⊆ A) {v0 : House} (h : Keeps A s0 t) :
    Keeps A s0 { t with hk := v0 } := by
  refine ⟨fun p hp => ?_, fun c => ?_⟩
  · have := h.only p hp
    cases p <;> first | exact this | exact absurd (hA (by decide)) hp
  · exact h.canon c

theorem Keeps.upd_cave {A : List Part} {s0 t : State} (hA : [.cave] ⊆ A) {v0 : Cave} (h : Keeps A s0 t) (c0 : v0.die = t.cave.die) :
    Keeps A s0 { t with cave := v0 } := by
  refine ⟨fun p hp => ?_, fun c => ?_⟩
  · have := h.only p hp
    cases p <;> first | exact this | exact absurd (hA (by decide)) hp
  · have k := h.canon c
    have e0 := c0
    simp only [State.canon, State.memCanon, Memory.wf, Bool.and_eq_true] at k ⊢
    simp only [e0, k, and_self]

theorem Keeps.upd_boot {A : List Part} {s0 t : State} (hA : [.boot] ⊆ A) {v0 : Boot} (h : Keeps A s0 t) :
    Keeps A s0 { t with boot := v0 } := by
  refine ⟨fun p hp => ?_, fun c => ?_⟩
  · have := h.only p hp
    cases p <;> first | exact this | exact absurd (hA (by decide)) hp
  · exact h.canon c

theorem Keeps.upd_pins {A : List Part} {s0 t : State} (hA : [.pins] ⊆ A) {v0 : Pins} (h : Keeps A s0 t) :
    Keeps A s0 { t with pins := v0 } := by
  refine ⟨fun p hp => ?_, fun c => ?_⟩
  · have := h.only p hp
    cases p <;> first | exact this | exact absurd (hA (by decide)) hp
  · exact h.canon c

theorem Keeps.upd_xbar {A : List Part} {s0 t : State} (hA : [.xbar] ⊆ A) {v0 : List Token} (h : Keeps A s0 t) :
    Keeps A s0 { t with xbar := v0 } := by
  refine ⟨fun p hp => ?_, fun c => ?_⟩
  · have := h.only p hp
    cases p <;> first | exact this | exact absurd (hA (by decide)) hp
  · exact h.canon c

theorem Keeps.upd_free {A : List Part} {s0 t : State} (hA : [.free] ⊆ A) {v0 : Nat} (h : Keeps A s0 t) :
    Keeps A s0 { t with free := v0 } := by
  refine ⟨fun p hp => ?_, fun c => ?_⟩
  · have := h.only p hp
    cases p <;> first | exact this | exact absurd (hA (by decide)) hp
  · exact h.canon c

theorem Keeps.upd_out {A : List Part} {s0 t : State} (hA : [.out] ⊆ A) {v0 : List Out} (h : Keeps A s0 t) :
    Keeps A s0 { t with out := v0 } := by
  refine ⟨fun p hp => ?_, fun c => ?_⟩
  · have := h.only p hp
    cases p <;> first | exact this | exact absurd (hA (by decide)) hp
  · exact h.canon c

theorem tabWf_storeBytes {m : Tab Byte} (off : Nat) (bs : List Byte) (h : tabWf (fun _ => (0 : Byte)) m = true) :
    tabWf (fun _ => (0 : Byte)) (storeBytes m off bs) = true := by
  induction bs generalizing m off with
  | nil => exact h
  | cons b bs ih => exact ih _ (tabWf_tabSet _ _ _ _ h)
theorem tabWf_storeSound (bad : Tab Bool) {m : Tab Byte} (off : Nat) (bs : List Byte) (h : tabWf (fun _ => (0 : Byte)) m = true) :
    tabWf (fun _ => (0 : Byte)) (storeSound bad m off bs) = true := by
  induction bs generalizing m off with
  | nil => exact h
  | cons b bs ih =>
    apply ih
    split
    · exact h
    · exact tabWf_tabSet _ _ _ _ h
theorem tabWf_foldSet (g : Nat × Word → Nat) (l : Tab Word) (m : Tab Word) (h : tabWf resetWord m = true) :
    tabWf resetWord (l.foldl (fun t e => tabSet resetWord t (g e) e.2) m) = true := by
  induction l generalizing m with
  | nil => exact h
  | cons b bs ih => exact ih _ (tabWf_tabSet _ _ _ _ h)
theorem tabWf_zeroedHeads {m : Tab Head} (h : tabWf (fun _ => Head.reset) m = true) :
    tabWf (fun _ => Head.reset) ((m.filter fun e => e.2.zeroed).map fun e => (e.1, { Head.reset with zeroed := true })) = true := by
  have h := tabWf_filter _ (fun e : Nat × Head => e.2.zeroed) m h
  generalize m.filter (fun e => e.2.zeroed) = l at h
  have ab (k : Nat) (l : Tab Head) (a : tabAbove k l = true) :
      tabAbove k (l.map fun e => (e.1, { Head.reset with zeroed := true })) = true := by
    simp only [tabAbove, List.all_map, List.all_eq_true, Function.comp_apply] at *; exact a
  induction l with
  | nil => rfl
  | cons e l ih =>
    simp only [tabWf, Bool.and_eq_true, decide_eq_true_eq, List.map_cons] at h ⊢
    exact ⟨⟨by decide, ab _ _ h.1.2⟩, ih h.2⟩
theorem tabAbove_mapKeys {α : Type} (f : Nat × α → Nat × α) (hk : ∀ e, (f e).1 = e.1) {k : Nat} {l : Tab α} (a : tabAbove k l = true) :
    tabAbove k (l.map f) = true := by
  simp only [tabAbove, List.all_map, List.all_eq_true, Function.comp_apply, hk] at *; exact a
theorem tabWf_mapKeys {α : Type} [DecidableEq α] (d : α) (f : Nat × α → Nat × α) (hk : ∀ e, (f e).1 = e.1) {m : Tab α}
    (h : tabWf (fun _ => d) m = true) : tabWf (fun _ => d) ((m.map f).filter fun e => decide (e.2 ≠ d)) = true := by
  induction m with
  | nil => rfl
  | cons e l ih =>
    simp only [tabWf, Bool.and_eq_true, decide_eq_true_eq] at h
    have a := tabAbove_filter (fun e => decide (e.2 ≠ d)) (tabAbove_mapKeys f hk h.1.2)
    rw [List.map_cons, List.filter_cons]
    split
    · rename_i c
      obtain ⟨j, v⟩ := e
      have k := hk (j, v)
      rcases hf : f (j, v) with ⟨j', v'⟩
      rw [hf] at k c
      simp only at k
      subst k
      simp only [tabWf, Bool.and_eq_true, decide_eq_true_eq]
      exact ⟨⟨by simpa using c, a⟩, ih h.2⟩
    · exact ih h.2
theorem tabWf_regsFold {m : Tab Word} (p : Nat × Word → Prop) [DecidablePred p] (g : Nat × Word → Word) (l : Tab Word) (h : tabWf resetWord m = true) :
    tabWf resetWord (l.foldl (fun t e => if p e then tabSet resetWord t e.1 (g e) else t) m) = true := by
  induction l generalizing m with
  | nil => exact h
  | cons b bs ih =>
    apply ih
    dsimp only
    split
    · exact tabWf_tabSet _ _ _ _ h
    · exact h

theorem canon_regs {s : State} (h : s.canon = true) : tabWf resetWord s.regs = true := by
  simp only [State.canon, State.memCanon, Memory.wf, Bool.and_eq_true] at h; simp only [h]
theorem canon_dram {s : State} (h : s.canon = true) : tabWf (fun _ => (0 : Byte)) s.dram = true := by
  simp only [State.canon, State.memCanon, Memory.wf, Bool.and_eq_true] at h; simp only [h]
theorem canon_shadow {s : State} (h : s.canon = true) : tabWf (fun _ => (0 : Word)) s.shadow = true := by
  simp only [State.canon, State.memCanon, Memory.wf, Bool.and_eq_true] at h; simp only [h]
theorem canon_staged {s : State} (h : s.canon = true) : tabWf (fun _ => (0 : Word)) s.staged = true := by
  simp only [State.canon, State.memCanon, Memory.wf, Bool.and_eq_true] at h; simp only [h]
theorem canon_chan {s : State} (h : s.canon = true) : tabWf (fun _ => Chan.reset) s.chan = true := by
  simp only [State.canon, State.memCanon, Memory.wf, Bool.and_eq_true] at h; simp only [h]
theorem canon_srvAx {s : State} (h : s.canon = true) : tabWf (fun _ => Axis.reset) s.srvAx = true := by
  simp only [State.canon, State.memCanon, Memory.wf, Bool.and_eq_true] at h; simp only [h]
theorem canon_srvCh {s : State} (h : s.canon = true) : tabWf (fun _ => ServoCh.reset) s.srvCh = true := by
  simp only [State.canon, State.memCanon, Memory.wf, Bool.and_eq_true] at h; simp only [h]
theorem canon_lsr {s : State} (h : s.canon = true) : tabWf (fun _ => Laser.reset) s.lsr = true := by
  simp only [State.canon, State.memCanon, Memory.wf, Bool.and_eq_true] at h; simp only [h]
theorem canon_port {s : State} (h : s.canon = true) : tabWf (fun _ => HoopPort.reset) s.port = true := by
  simp only [State.canon, State.memCanon, Memory.wf, Bool.and_eq_true] at h; simp only [h]
theorem canon_bulk {s : State} (h : s.canon = true) : tabWf (fun _ => (⟨false, 0⟩ : BulkTx)) s.bulk = true := by
  simp only [State.canon, State.memCanon, Memory.wf, Bool.and_eq_true] at h; simp only [h]
theorem canon_dom {s : State} (h : s.canon = true) : tabWf (fun _ => Domain.reset) s.dom = true := by
  simp only [State.canon, State.memCanon, Memory.wf, Bool.and_eq_true] at h; simp only [h]
theorem canon_mot {s : State} (h : s.canon = true) : tabWf (fun _ => Motor.reset) s.mot = true := by
  simp only [State.canon, State.memCanon, Memory.wf, Bool.and_eq_true] at h; simp only [h]
theorem canon_fbk {s : State} (h : s.canon = true) : tabWf (fun _ => Feedback.reset) s.fbk = true := by
  simp only [State.canon, State.memCanon, Memory.wf, Bool.and_eq_true] at h; simp only [h]
theorem canon_cam {s : State} (h : s.canon = true) : tabWf (fun _ => CamPort.reset) s.cam = true := by
  simp only [State.canon, State.memCanon, Memory.wf, Bool.and_eq_true] at h; simp only [h]
theorem canon_strobe {s : State} (h : s.canon = true) : tabWf (fun _ => Strobe.reset) s.strobe = true := by
  simp only [State.canon, State.memCanon, Memory.wf, Bool.and_eq_true] at h; simp only [h]
theorem canon_lane {s : State} (h : s.canon = true) : tabWf (fun _ => Lane.reset) s.lane = true := by
  simp only [State.canon, State.memCanon, Memory.wf, Bool.and_eq_true] at h; simp only [h]
theorem canon_head {s : State} (h : s.canon = true) : tabWf (fun _ => Head.reset) s.head = true := by
  simp only [State.canon, State.memCanon, Memory.wf, Bool.and_eq_true] at h; simp only [h]
theorem canon_dma {s : State} (h : s.canon = true) : tabWf (fun _ => DmaCh.reset) s.dma = true := by
  simp only [State.canon, State.memCanon, Memory.wf, Bool.and_eq_true] at h; simp only [h]
theorem canon_eth {s : State} (h : s.canon = true) : tabWf (fun _ => (⟨0, none⟩ : EthPort)) s.eth = true := by
  simp only [State.canon, State.memCanon, Memory.wf, Bool.and_eq_true] at h; simp only [h]
theorem canon_cal {s : State} (h : s.canon = true) : tabWf (fun _ => (⟨false, 0⟩ : CalGroup)) s.cal = true := by
  simp only [State.canon, State.memCanon, Memory.wf, Bool.and_eq_true] at h; simp only [h]
theorem canon_die {s : State} (h : s.canon = true) : tabWf (fun _ => (0 : Byte)) s.cave.die = true := by
  simp only [State.canon, State.memCanon, Memory.wf, Bool.and_eq_true] at h; simp only [h]

theorem Keeps.upd_die {A : List Part} {s0 t : State} (hA : [.cave] ⊆ A) {v : Cave} (h : Keeps A s0 t)
    (hw : t.canon = true → tabWf (fun _ => (0 : Byte)) v.die = true) : Keeps A s0 { t with cave := v } := by
  refine ⟨fun p hp => ?_, fun c => ?_⟩
  · have := h.only p hp
    cases p <;> first | exact this | exact absurd (hA (by decide)) hp
  · have k := h.canon c
    have e := hw k
    simp only [State.canon, State.memCanon, Memory.wf, Bool.and_eq_true] at k ⊢
    simp only [e, k, and_self]

theorem Keeps.upd_boot_pins {A : List Part} {s0 t : State} (hA : [.boot, .pins] ⊆ A) {v0 : Boot} {v1 : Pins} (h : Keeps A s0 t) :
    Keeps A s0 { t with boot := v0, pins := v1 } := by
  refine ⟨fun p hp => ?_, fun c => ?_⟩
  · have := h.only p hp
    cases p <;> first | exact this | exact absurd (hA (by decide)) hp
  · exact h.canon c

theorem Keeps.upd_cam_pipe {A : List Part} {s0 t : State} (hA : [.cam, .pipe] ⊆ A) {v0 : Tab CamPort} {v1 : Pipeline} (h : Keeps A s0 t) (c0 : t.canon = true → tabWf (fun _ => CamPort.reset) v0 = true) :
    Keeps A s0 { t with cam := v0, pipe := v1 } := by
  refine ⟨fun p hp => ?_, fun c => ?_⟩
  · have := h.only p hp
    cases p <;> first | exact this | exact absurd (hA (by decide)) hp
  · have k := h.canon c
    have e0 := c0 k
    simp only [State.canon, State.memCanon, Memory.wf, Bool.and_eq_true] at k ⊢
    simp only [e0, k, and_self]

theorem Keeps.upd_chan_xbar {A : List Part} {s0 t : State} (hA : [.chan, .xbar] ⊆ A) {v0 : Tab Chan} {v1 : List Token} (h : Keeps A s0 t) (c0 : t.canon = true → tabWf (fun _ => Chan.reset) v0 = true) :
    Keeps A s0 { t with chan := v0, xbar := v1 } := by
  refine ⟨fun p hp => ?_, fun c => ?_⟩
  · have := h.only p hp
    cases p <;> first | exact this | exact absurd (hA (by decide)) hp
  · have k := h.canon c
    have e0 := c0 k
    simp only [State.canon, State.memCanon, Memory.wf, Bool.and_eq_true] at k ⊢
    simp only [e0, k, and_self]

theorem Keeps.upd_dma_dmaEng {A : List Part} {s0 t : State} (hA : [.dma, .dmaEng] ⊆ A) {v0 : Tab DmaCh} {v1 : DmaEngine} (h : Keeps A s0 t) (c0 : t.canon = true → tabWf (fun _ => DmaCh.reset) v0 = true) :
    Keeps A s0 { t with dma := v0, dmaEng := v1 } := by
  refine ⟨fun p hp => ?_, fun c => ?_⟩
  · have := h.only p hp
    cases p <;> first | exact this | exact absurd (hA (by decide)) hp
  · have k := h.canon c
    have e0 := c0 k
    simp only [State.canon, State.memCanon, Memory.wf, Bool.and_eq_true] at k ⊢
    simp only [e0, k, and_self]

theorem Keeps.upd_dram_ddr {A : List Part} {s0 t : State} (hA : [.dram, .ddr] ⊆ A) {v0 : List (Nat × BitVec 8)} {v1 : Dram} (h : Keeps A s0 t) (c0 : t.canon = true → tabWf (fun _ => (0 : Byte)) v0 = true) :
    Keeps A s0 { t with dram := v0, ddr := v1 } := by
  refine ⟨fun p hp => ?_, fun c => ?_⟩
  · have := h.only p hp
    cases p <;> first | exact this | exact absurd (hA (by decide)) hp
  · have k := h.canon c
    have e0 := c0 k
    simp only [State.canon, State.memCanon, Memory.wf, Bool.and_eq_true] at k ⊢
    simp only [e0, k, and_self]

theorem Keeps.upd_grp_armUndo {A : List Part} {s0 t : State} (hA : [.grp, .armUndo] ⊆ A) {v0 : Group} {v1 : Option ArmUndo} (h : Keeps A s0 t) :
    Keeps A s0 { t with grp := v0, armUndo := v1 } := by
  refine ⟨fun p hp => ?_, fun c => ?_⟩
  · have := h.only p hp
    cases p <;> first | exact this | exact absurd (hA (by decide)) hp
  · exact h.canon c

theorem Keeps.upd_grp_armUndo_chan {A : List Part} {s0 t : State} (hA : [.grp, .armUndo, .chan] ⊆ A) {v0 : Group} {v1 : Option ArmUndo} {v2 : Tab Chan} (h : Keeps A s0 t) (c2 : t.canon = true → tabWf (fun _ => Chan.reset) v2 = true) :
    Keeps A s0 { t with grp := v0, armUndo := v1, chan := v2 } := by
  refine ⟨fun p hp => ?_, fun c => ?_⟩
  · have := h.only p hp
    cases p <;> first | exact this | exact absurd (hA (by decide)) hp
  · have k := h.canon c
    have e2 := c2 k
    simp only [State.canon, State.memCanon, Memory.wf, Bool.and_eq_true] at k ⊢
    simp only [e2, k, and_self]

theorem Keeps.upd_hk_boot {A : List Part} {s0 t : State} (hA : [.hk, .boot] ⊆ A) {v0 : House} {v1 : Boot} (h : Keeps A s0 t) :
    Keeps A s0 { t with hk := v0, boot := v1 } := by
  refine ⟨fun p hp => ?_, fun c => ?_⟩
  · have := h.only p hp
    cases p <;> first | exact this | exact absurd (hA (by decide)) hp
  · exact h.canon c

theorem Keeps.upd_hoop_port_bulk_time {A : List Part} {s0 t : State} (hA : [.hoop, .port, .bulk, .time] ⊆ A) {v0 : Hoop} {v1 : Tab HoopPort} {v2 : Tab BulkTx} {v3 : TimeUnit} (h : Keeps A s0 t) (c1 : t.canon = true → tabWf (fun _ => HoopPort.reset) v1 = true) (c2 : t.canon = true → tabWf (fun _ => (⟨false, 0⟩ : BulkTx)) v2 = true) :
    Keeps A s0 { t with hoop := v0, port := v1, bulk := v2, time := v3 } := by
  refine ⟨fun p hp => ?_, fun c => ?_⟩
  · have := h.only p hp
    cases p <;> first | exact this | exact absurd (hA (by decide)) hp
  · have k := h.canon c
    have e1 := c1 k
    have e2 := c2 k
    simp only [State.canon, State.memCanon, Memory.wf, Bool.and_eq_true] at k ⊢
    simp only [e1, e2, k, and_self]

theorem Keeps.upd_l2_boot {A : List Part} {s0 t : State} (hA : [.l2, .boot] ⊆ A) {v0 : List Byte} {v1 : Boot} (h : Keeps A s0 t) :
    Keeps A s0 { t with l2 := v0, boot := v1 } := by
  refine ⟨fun p hp => ?_, fun c => ?_⟩
  · have := h.only p hp
    cases p <;> first | exact this | exact absurd (hA (by decide)) hp
  · exact h.canon c

theorem Keeps.upd_l2_pci {A : List Part} {s0 t : State} (hA : [.l2, .pci] ⊆ A) {v0 : List Byte} {v1 : Pci} (h : Keeps A s0 t) :
    Keeps A s0 { t with l2 := v0, pci := v1 } := by
  refine ⟨fun p hp => ?_, fun c => ?_⟩
  · have := h.only p hp
    cases p <;> first | exact this | exact absurd (hA (by decide)) hp
  · exact h.canon c

theorem Keeps.upd_lgt_pins {A : List Part} {s0 t : State} (hA : [.lgt, .pins] ⊆ A) {v0 : Light} {v1 : Pins} (h : Keeps A s0 t) :
    Keeps A s0 { t with lgt := v0, pins := v1 } := by
  refine ⟨fun p hp => ?_, fun c => ?_⟩
  · have := h.only p hp
    cases p <;> first | exact this | exact absurd (hA (by decide)) hp
  · exact h.canon c

theorem Keeps.upd_lgt_strobe {A : List Part} {s0 t : State} (hA : [.lgt, .strobe] ⊆ A) {v0 : Light} {v1 : Tab Strobe} (h : Keeps A s0 t) (c1 : t.canon = true → tabWf (fun _ => Strobe.reset) v1 = true) :
    Keeps A s0 { t with lgt := v0, strobe := v1 } := by
  refine ⟨fun p hp => ?_, fun c => ?_⟩
  · have := h.only p hp
    cases p <;> first | exact this | exact absurd (hA (by decide)) hp
  · have k := h.canon c
    have e1 := c1 k
    simp only [State.canon, State.memCanon, Memory.wf, Bool.and_eq_true] at k ⊢
    simp only [e1, k, and_self]

theorem Keeps.upd_regs_intg {A : List Part} {s0 t : State} (hA : [.regs, .intg] ⊆ A) {v0 : Tab Word} {v1 : Integ} (h : Keeps A s0 t) (c0 : t.canon = true → tabWf resetWord v0 = true) :
    Keeps A s0 { t with regs := v0, intg := v1 } := by
  refine ⟨fun p hp => ?_, fun c => ?_⟩
  · have := h.only p hp
    cases p <;> first | exact this | exact absurd (hA (by decide)) hp
  · have k := h.canon c
    have e0 := c0 k
    simp only [State.canon, State.memCanon, Memory.wf, Bool.and_eq_true] at k ⊢
    simp only [e0, k, and_self]

theorem Keeps.upd_shadow_staged {A : List Part} {s0 t : State} (hA : [.shadow, .staged] ⊆ A) {v0 : Tab Word} {v1 : Tab Word} (h : Keeps A s0 t) (c0 : t.canon = true → tabWf (fun _ => (0 : Word)) v0 = true) (c1 : t.canon = true → tabWf (fun _ => (0 : Word)) v1 = true) :
    Keeps A s0 { t with shadow := v0, staged := v1 } := by
  refine ⟨fun p hp => ?_, fun c => ?_⟩
  · have := h.only p hp
    cases p <;> first | exact this | exact absurd (hA (by decide)) hp
  · have k := h.canon c
    have e0 := c0 k
    have e1 := c1 k
    simp only [State.canon, State.memCanon, Memory.wf, Bool.and_eq_true] at k ⊢
    simp only [e0, e1, k, and_self]

theorem Keeps.upd_srvAx_srvCh_srv {A : List Part} {s0 t : State} (hA : [.srvAx, .srvCh, .srv] ⊆ A) {v0 : Tab Axis} {v1 : Tab ServoCh} {v2 : Servo} (h : Keeps A s0 t) (c0 : t.canon = true → tabWf (fun _ => Axis.reset) v0 = true) (c1 : t.canon = true → tabWf (fun _ => ServoCh.reset) v1 = true) :
    Keeps A s0 { t with srvAx := v0, srvCh := v1, srv := v2 } := by
  refine ⟨fun p hp => ?_, fun c => ?_⟩
  · have := h.only p hp
    cases p <;> first | exact this | exact absurd (hA (by decide)) hp
  · have k := h.canon c
    have e0 := c0 k
    have e1 := c1 k
    simp only [State.canon, State.memCanon, Memory.wf, Bool.and_eq_true] at k ⊢
    simp only [e0, e1, k, and_self]

theorem keeps_State_writeDram {A : List Part} {s0 s : State} (hA : [.dram, .ddr] ⊆ A) (x1 : ℕ) (x2 : List Byte) (h : Keeps A s0 s) : Keeps A s0 (State.writeDram s x1 x2) := by
  unfold State.writeDram
  try dsimp only
  repeat' first | intro _ | with_reducible assumption | with_reducible apply Keeps.ite | with_reducible apply Keeps.upd_dram_ddr (subParts hA rfl) | with_reducible apply Keeps.upd_dram (subParts hA rfl) | with_reducible apply Keeps.upd_ddr (subParts hA rfl) | exact tabWf_storeSound _ _ _ (canon_dram (by assumption)) | exact tabWf_tabSet _ _ _ _ (canon_dram (by assumption)) | with_reducible rfl | rfl

theorem keeps_State_setReg {A : List Part} {s0 s : State} (hA : [.regs] ⊆ A) (x1 : ℕ) (x2 : Word) (h : Keeps A s0 s) : Keeps A s0 (State.setReg s x1 x2) := by
  unfold State.setReg
  try dsimp only
  repeat' first | intro _ | with_reducible assumption | with_reducible apply Keeps.upd_regs (subParts hA rfl) | exact tabWf_tabSet _ _ _ _ (canon_regs (by assumption)) | with_reducible rfl | rfl

theorem keeps_State_setFld {A : List Part} {s0 s : State} (hA : [.regs] ⊆ A) (x1 : ℕ) (x2 : Field) (x3 : ℕ) (h : Keeps A s0 s) : Keeps A s0 (State.setFld s x1 x2 x3) := by
  unfold State.setFld
  try dsimp only
  repeat' first | intro _ | with_reducible assumption | with_reducible apply keeps_State_setReg (subParts hA rfl)

theorem keeps_State_clearVec {A : List Part} {s0 s : State} (hA : [.pci] ⊆ A) (x1 : ℕ) (h : Keeps A s0 s) : Keeps A s0 (State.clearVec s x1) := by
  unfold State.clearVec
  try dsimp only
  repeat' first | intro _ | with_reducible assumption | with_reducible apply Keeps.upd_pci (subParts hA rfl)

theorem keeps_State_emit {A : List Part} {s0 s : State} (hA : [.out] ⊆ A) (x1 : Out) (h : Keeps A s0 s) : Keeps A s0 (State.emit s x1) := by
  unfold State.emit
  try dsimp only
  repeat' first | intro _ | with_reducible assumption | with_reducible apply Keeps.upd_out (subParts hA rfl)

theorem keeps_State_sendVec {A : List Part} {s0 s : State} (hA : [.pci, .out] ⊆ A) (x1 : ℕ) (h : Keeps A s0 s) : Keeps A s0 (State.sendVec s x1) := by
  unfold State.sendVec
  try dsimp only
  repeat' first | intro _ | with_reducible assumption | with_reducible apply Keeps.ite | with_reducible apply keeps_State_emit (subParts hA rfl) | with_reducible apply Keeps.upd_pci (subParts hA rfl)

theorem keeps_irqChanged {A : List Part} {s0 s : State} (hA : [.pci, .out] ⊆ A) (x0 : State) (x1 : List IrqRow) (h : Keeps A s0 s) : Keeps A s0 (irqChanged x0 x1 s) := by
  induction x1 generalizing s  with
  | nil =>
    unfold irqChanged
    try dsimp only
    repeat' first | intro _ | with_reducible assumption | with_reducible apply Keeps.ite | (with_reducible apply keeps_State_clearVec (subParts hA (by decide))) | (with_reducible apply keeps_State_sendVec (subParts hA (by decide))) | split | (refine Keeps.pair (by assumption) ?_)
  | cons r l ih =>
    unfold irqChanged
    try dsimp only
    repeat' first | intro _ | with_reducible assumption | with_reducible apply ih | with_reducible apply Keeps.ite | (with_reducible apply keeps_State_clearVec (subParts hA (by decide))) | (with_reducible apply keeps_State_sendVec (subParts hA (by decide))) | split | (refine Keeps.pair (by assumption) ?_)

theorem keeps_State_raise {A : List Part} {s0 s : State} (hA : [.regs, .pci, .out] ⊆ A) (x1 : ℕ) (x2 : Field) (h : Keeps A s0 s) : Keeps A s0 (State.raise s x1 x2) := by
  unfold State.raise
  try dsimp only
  repeat' first | intro _ | with_reducible assumption | with_reducible apply keeps_State_setReg (subParts hA rfl) | with_reducible apply keeps_irqChanged (subParts hA rfl)

theorem keeps_State_raiseBit {A : List Part} {s0 s : State} (hA : [.regs, .pci, .out] ⊆ A) (x1 : ℕ) (x2 : ℕ) (h : Keeps A s0 s) : Keeps A s0 (State.raiseBit s x1 x2) := by
  unfold State.raiseBit
  try dsimp only
  repeat' first | intro _ | with_reducible assumption | with_reducible apply keeps_State_raise (subParts hA rfl)

theorem keeps_State_ethFlag {A : List Part} {s0 s : State} (hA : [.regs, .pci, .out] ⊆ A) (x1 : ℕ) (x2 : ℕ) (h : Keeps A s0 s) : Keeps A s0 (State.ethFlag s x1 x2) := by
  unfold State.ethFlag
  try dsimp only
  repeat' first | intro _ | with_reducible assumption | with_reducible apply keeps_State_raiseBit (subParts hA rfl)

theorem keeps_State_txRelease {A : List Part} {s0 s : State} (hA : [.regs, .dram, .pci, .ddr, .out] ⊆ A) (x1 : ℕ) (x2 : List Byte) (x3 : ℕ) (x4 : Stamp) (h : Keeps A s0 s) : Keeps A s0 (State.txRelease s x1 x2 x3 x4) := by
  unfold State.txRelease
  try dsimp only
  repeat' first | intro _ | with_reducible assumption | with_reducible apply Keeps.ite | with_reducible apply keeps_State_writeDram (subParts hA rfl) | with_reducible apply keeps_State_setFld (subParts hA rfl) | with_reducible apply keeps_State_ethFlag (subParts hA rfl)

theorem keeps_State_modPt {A : List Part} {s0 s : State} (hA : [.port] ⊆ A) (x1 : ℕ) (x2 : HoopPort → HoopPort) (h : Keeps A s0 s) : Keeps A s0 (State.modPt s x1 x2) := by
  unfold State.modPt
  try dsimp only
  repeat' first | intro _ | with_reducible assumption | with_reducible apply Keeps.upd_port (subParts hA rfl) | exact tabWf_tabSet _ _ _ _ (canon_port (by assumption)) | with_reducible rfl | rfl

theorem keeps_State_enqueue {A : List Part} {s0 s : State} (hA : [.port] ⊆ A) (x1 : ℕ) (x2 : Bool) (x3 : Packet) (h : Keeps A s0 s) : Keeps A s0 (State.enqueue s x1 x2 x3) := by
  unfold State.enqueue
  try dsimp only
  repeat' first | intro _ | with_reducible assumption | with_reducible apply Keeps.ite | with_reducible apply keeps_State_modPt (subParts hA rfl)

theorem keeps_State_each {A : List Part} {s0 s : State} (hA : ([] : List Part) ⊆ A) (x1 : List ℕ) (x2 : ℕ → State → State) (hf : ∀ (a0 : ℕ) (a1 : State), Keeps A s0 a1 → Keeps A s0 (x2 a0 a1)) (h : Keeps A s0 s) : Keeps A s0 (State.each s x1 x2) := by
  exact Keeps.each hf h

theorem keeps_State_flood {A : List Part} {s0 s : State} (hA : [.port] ⊆ A) (x1 : Option ℕ) (x2 : Packet) (h : Keeps A s0 s) : Keeps A s0 (State.flood s x1 x2) := by
  unfold State.flood
  try dsimp only
  repeat' first | intro _ | with_reducible assumption | with_reducible apply Keeps.ite | with_reducible apply Keeps.each | with_reducible apply keeps_State_enqueue (subParts hA rfl)

theorem keeps_State_nextSeq {A : List Part} {s0 s : State} (hA : [.hoop] ⊆ A) (x1 : ℕ) (h : Keeps A s0 s) : Keeps A s0 (State.nextSeq s x1).2 := by
  unfold State.nextSeq
  try dsimp only
  repeat' first | intro _ | with_reducible assumption | split | with_reducible apply Keeps.upd_hoop (subParts hA rfl)

theorem keeps_State_broadcast {A : List Part} {s0 s : State} (hA : [.hoop, .port] ⊆ A) (x1 : ℕ) (x2 : List Byte) (h : Keeps A s0 s) : Keeps A s0 (State.broadcast s x1 x2) := by
  unfold State.broadcast
  try dsimp only
  repeat' first | intro _ | with_reducible assumption | with_reducible apply keeps_State_flood (subParts hA rfl) | with_reducible apply keeps_State_nextSeq (subParts hA rfl) | split | with_reducible apply Keeps.upd_hoop (subParts hA rfl) | (refine Keeps.pair (by assumption) ?_)

theorem keeps_State_sendGroup {A : List Part} {s0 s : State} (hA : [.hoop, .port] ⊆ A) (x1 : ℕ) (x2 : ℕ) (x3 : ℕ) (x4 : ℕ) (x5 : ℕ) (h : Keeps A s0 s) : Keeps A s0 (State.sendGroup s x1 x2 x3 x4 x5) := by
  unfold State.sendGroup
  try dsimp only
  repeat' first | intro _ | with_reducible assumption | with_reducible apply Keeps.ite | with_reducible apply keeps_State_broadcast (subParts hA rfl)

theorem keeps_State_sendAbort {A : List Part} {s0 s : State} (hA : [.hoop, .port] ⊆ A) (x1 : ℕ) (h : Keeps A s0 s) : Keeps A s0 (State.sendAbort s x1) := by
  unfold State.sendAbort
  try dsimp only
  repeat' first | intro _ | with_reducible assumption | with_reducible apply Keeps.ite | with_reducible apply keeps_State_sendGroup (subParts hA rfl)

theorem keeps_State_modGrp {A : List Part} {s0 s : State} (hA : [.grp] ⊆ A) (x1 : Group → Group) (h : Keeps A s0 s) : Keeps A s0 (State.modGrp s x1) := by
  unfold State.modGrp
  try dsimp only
  repeat' first | intro _ | with_reducible assumption | with_reducible apply Keeps.upd_grp (subParts hA rfl)

theorem keeps_State_satAdd {A : List Part} {s0 s : State} (hA : [.regs] ⊆ A) (x1 : ℕ) (x2 : Field) (x3 : ℕ) (h : Keeps A s0 s) : Keeps A s0 (State.satAdd s x1 x2 x3) := by
  unfold State.satAdd
  try dsimp only
  repeat' first | intro _ | with_reducible assumption | with_reducible apply keeps_State_setFld (subParts hA rfl)

theorem keeps_State_evtLose {A : List Part} {s0 s : State} (hA : [.regs, .grp] ⊆ A)  (h : Keeps A s0 s) : Keeps A s0 (State.evtLose s) := by
  unfold State.evtLose
  try dsimp only
  repeat' first | intro _ | with_reducible assumption | with_reducible apply keeps_State_modGrp (subParts hA rfl) | with_reducible apply keeps_State_satAdd (subParts hA rfl)

theorem keeps_State_evtWrite {A : List Part} {s0 s : State} (hA : [.regs, .dram, .pci, .ddr, .out] ⊆ A) (x1 : ℕ) (x2 : ℕ) (x3 : ℕ) (x4 : Stamp) (x5 : ℕ) (x6 : ℕ) (h : Keeps A s0 s) : Keeps A s0 (State.evtWrite s x1 x2 x3 x4 x5 x6) := by
  unfold State.evtWrite
  try dsimp only
  repeat' first | intro _ | with_reducible assumption | with_reducible apply Keeps.ite | with_reducible apply keeps_State_writeDram (subParts hA rfl) | with_reducible apply keeps_State_setFld (subParts hA rfl) | with_reducible apply keeps_State_raise (subParts hA rfl)

theorem keeps_State_postFull {A : List Part} {s0 s : State} (hA : [.regs, .dram, .grp, .pci, .ddr, .out] ⊆ A) (x1 : ℕ) (x2 : ℕ) (x3 : ℕ) (x4 : Stamp) (x5 : ℕ) (x6 : ℕ) (h : Keeps A s0 s) : Keeps A s0 (State.postFull s x1 x2 x3 x4 x5 x6) := by
  unfold State.postFull
  try dsimp only
  repeat' first | intro _ | with_reducible assumption | with_reducible apply Keeps.ite | with_reducible apply keeps_State_modGrp (subParts hA rfl) | with_reducible apply keeps_State_evtLose (subParts hA rfl) | with_reducible apply keeps_State_evtWrite (subParts hA rfl)

theorem keeps_State_postAt {A : List Part} {s0 s : State} (hA : [.regs, .dram, .grp, .pci, .ddr, .out] ⊆ A) (x1 : ℕ) (x2 : ℕ) (x3 : ℕ) (x4 : ℕ) (x5 : ℕ) (h : Keeps A s0 s) : Keeps A s0 (State.postAt s x1 x2 x3 x4 x5) := by
  unfold State.postAt
  try dsimp only
  repeat' first | intro _ | with_reducible assumption | with_reducible apply keeps_State_postFull (subParts hA rfl)

theorem keeps_State_post {A : List Part} {s0 s : State} (hA : [.regs, .dram, .grp, .pci, .ddr, .out] ⊆ A) (x1 : ℕ) (x2 : ℕ) (x3 : ℕ) (x4 : ℕ) (h : Keeps A s0 s) : Keeps A s0 (State.post s x1 x2 x3 x4) := by
  unfold State.post
  try dsimp only
  repeat' first | intro _ | with_reducible assumption | with_reducible apply keeps_State_postAt (subParts hA rfl)

theorem keeps_State_modSc {A : List Part} {s0 s : State} (hA : [.srvCh] ⊆ A) (x1 : ℕ) (x2 : ServoCh → ServoCh) (h : Keeps A s0 s) : Keeps A s0 (State.modSc s x1 x2) := by
  unfold State.modSc
  try dsimp only
  repeat' first | intro _ | with_reducible assumption | with_reducible apply Keeps.upd_srvCh (subParts hA rfl) | exact tabWf_tabSet _ _ _ _ (canon_srvCh (by assumption)) | with_reducible rfl | rfl

theorem keeps_State_setFlag {A : List Part} {s0 s : State} (hA : [.regs] ⊆ A) (x1 : ℕ) (x2 : Field) (x3 : Bool) (h : Keeps A s0 s) : Keeps A s0 (State.setFlag s x1 x2 x3) := by
  unfold State.setFlag
  try dsimp only
  repeat' first | intro _ | with_reducible assumption | with_reducible apply keeps_State_setFld (subParts hA rfl)

theorem keeps_State_modCh {A : List Part} {s0 s : State} (hA : [.chan] ⊆ A) (x1 : ℕ) (x2 : Chan → Chan) (h : Keeps A s0 s) : Keeps A s0 (State.modCh s x1 x2) := by
  unfold State.modCh
  try dsimp only
  repeat' first | intro _ | with_reducible assumption | with_reducible apply Keeps.upd_chan (subParts hA rfl) | exact tabWf_tabSet _ _ _ _ (canon_chan (by assumption)) | with_reducible rfl | rfl

theorem keeps_State_modLs {A : List Part} {s0 s : State} (hA : [.lsr] ⊆ A) (x1 : ℕ) (x2 : Laser → Laser) (h : Keeps A s0 s) : Keeps A s0 (State.modLs s x1 x2) := by
  unfold State.modLs
  try dsimp only
  repeat' first | intro _ | with_reducible assumption | with_reducible apply Keeps.upd_lsr (subParts hA rfl) | exact tabWf_tabSet _ _ _ _ (canon_lsr (by assumption)) | with_reducible rfl | rfl

theorem keeps_State_noteGate {A : List Part} {s0 s : State} (hA : [.lsr] ⊆ A) (x1 : ℕ) (x2 : ℕ) (h : Keeps A s0 s) : Keeps A s0 (State.noteGate s x1 x2) := by
  unfold State.noteGate
  try dsimp only
  repeat' first | intro _ | with_reducible assumption | with_reducible apply Keeps.ite | with_reducible apply keeps_State_modLs (subParts hA rfl) | split

theorem keeps_State_lapse {A : List Part} {s0 s : State} (hA : [.lsr] ⊆ A) (x1 : ℕ) (h : Keeps A s0 s) : Keeps A s0 (State.lapse s x1) := by
  unfold State.lapse
  try dsimp only
  repeat' first | intro _ | with_reducible assumption | with_reducible apply Keeps.ite | with_reducible apply keeps_State_modLs (subParts hA rfl) | with_reducible apply keeps_State_noteGate (subParts hA rfl)

theorem keeps_State_setBit {A : List Part} {s0 s : State} (hA : [.regs] ⊆ A) (x1 : ℕ) (x2 : ℕ) (x3 : Bool) (h : Keeps A s0 s) : Keeps A s0 (State.setBit s x1 x2 x3) := by
  unfold State.setBit
  try dsimp only
  repeat' first | intro _ | with_reducible assumption | with_reducible apply keeps_State_setReg (subParts hA rfl)

theorem keeps_State_releaseDesc {A : List Part} {s0 s : State} (hA : [.regs, .dram, .pci, .ddr, .out] ⊆ A) (x1 : ℕ) (x2 : Curd) (x3 : ℕ) (h : Keeps A s0 s) : Keeps A s0 (State.releaseDesc s x1 x2 x3) := by
  unfold State.releaseDesc
  try dsimp only
  repeat' first | intro _ | with_reducible assumption | with_reducible apply Keeps.ite | with_reducible apply keeps_State_writeDram (subParts hA rfl) | with_reducible apply keeps_State_raise (subParts hA rfl) | with_reducible apply keeps_State_setBit (subParts hA rfl)

theorem keeps_State_releaseAll {A : List Part} {s0 s : State} (hA : [.regs, .dram, .pci, .ddr, .out] ⊆ A) (x1 : ℕ) (x2 : List Curd) (h : Keeps A s0 s) : Keeps A s0 (State.releaseAll s x1 x2) := by
  induction x2 generalizing s  with
  | nil =>
    unfold State.releaseAll
    try dsimp only
    repeat' first | intro _ | with_reducible assumption | with_reducible apply Keeps.ite | (with_reducible apply keeps_State_releaseDesc (subParts hA (by decide))) | split | (refine Keeps.pair (by assumption) ?_)
  | cons r l ih =>
    unfold State.releaseAll
    try dsimp only
    repeat' first | intro _ | with_reducible assumption | with_reducible apply ih | with_reducible apply Keeps.ite | (with_reducible apply keeps_State_releaseDesc (subParts hA (by decide))) | split | (refine Keeps.pair (by assumption) ?_)

theorem keeps_State_modAx {A : List Part} {s0 s : State} (hA : [.srvAx] ⊆ A) (x1 : ℕ) (x2 : Axis → Axis) (h : Keeps A s0 s) : Keeps A s0 (State.modAx s x1 x2) := by
  unfold State.modAx
  try dsimp only
  repeat' first | intro _ | with_reducible assumption | with_reducible apply Keeps.upd_srvAx (subParts hA rfl) | exact tabWf_tabSet _ _ _ _ (canon_srvAx (by assumption)) | with_reducible rfl | rfl

theorem keeps_State_freezeLearning {A : List Part} {s0 s : State} (hA : [.srvAx] ⊆ A) (x1 : ℕ) (h : Keeps A s0 s) : Keeps A s0 (State.freezeLearning s x1) := by
  unfold State.freezeLearning
  try dsimp only
  repeat' first | intro _ | with_reducible assumption | with_reducible apply Keeps.each | with_reducible apply keeps_State_modAx (subParts hA rfl)

theorem keeps_State_sendToken {A : List Part} {s0 s : State} (hA : [.hoop, .port, .xbar] ⊆ A) (x1 : ℕ) (x2 : Token) (h : Keeps A s0 s) : Keeps A s0 (State.sendToken s x1 x2) := by
  unfold State.sendToken
  try dsimp only
  repeat' first | intro _ | with_reducible assumption | with_reducible apply Keeps.ite | with_reducible apply keeps_State_enqueue (subParts hA rfl) | with_reducible apply keeps_State_nextSeq (subParts hA rfl) | split | with_reducible apply Keeps.upd_xbar (subParts hA rfl) | (refine Keeps.pair (by assumption) ?_)

theorem keeps_State_stopHands {A : List Part} {s0 s : State} (hA : [.hoop, .port, .xbar] ⊆ A) (x1 : ℕ) (x2 : List Hand) (h : Keeps A s0 s) : Keeps A s0 (State.stopHands s x1 x2) := by
  induction x2 generalizing s  with
  | nil =>
    unfold State.stopHands
    try dsimp only
    repeat' first | intro _ | with_reducible assumption | with_reducible apply Keeps.ite | (with_reducible apply keeps_State_sendToken (subParts hA (by decide))) | split | (refine Keeps.pair (by assumption) ?_)
  | cons r l ih =>
    unfold State.stopHands
    try dsimp only
    repeat' first | intro _ | with_reducible assumption | with_reducible apply ih | with_reducible apply Keeps.ite | (with_reducible apply keeps_State_sendToken (subParts hA (by decide))) | split | (refine Keeps.pair (by assumption) ?_)

theorem keeps_State_fenceRelease {A : List Part} {s0 s : State} (hA : [.regs, .dram, .grp, .lsr, .pci, .ddr, .out] ⊆ A) (x1 : ℕ) (h : Keeps A s0 s) : Keeps A s0 (State.fenceRelease s x1) := by
  unfold State.fenceRelease
  try dsimp only
  repeat' first | intro _ | with_reducible assumption | with_reducible apply Keeps.foldl | with_reducible apply keeps_State_postFull (subParts hA rfl) | with_reducible apply keeps_State_modLs (subParts hA rfl)

theorem keeps_State_logLose {A : List Part} {s0 s : State} (hA : [.regs, .dram, .grp, .lsr, .pci, .ddr, .out] ⊆ A) (x1 : ℕ) (h : Keeps A s0 s) : Keeps A s0 (State.logLose s x1) := by
  unfold State.logLose
  try dsimp only
  repeat' first | intro _ | with_reducible assumption | with_reducible apply keeps_State_raise (subParts hA rfl) | with_reducible apply keeps_State_satAdd (subParts hA rfl) | with_reducible apply keeps_State_modLs (subParts hA rfl) | with_reducible apply keeps_State_fenceRelease (subParts hA rfl)

theorem keeps_State_logStage {A : List Part} {s0 s : State} (hA : [.regs, .dram, .grp, .lsr, .pci, .ddr, .out] ⊆ A) (x1 : ℕ) (x2 : List LogEntry) (h : Keeps A s0 s) : Keeps A s0 (State.logStage s x1 x2) := by
  unfold State.logStage
  try dsimp only
  repeat' first | intro _ | with_reducible assumption | with_reducible apply Keeps.ite | with_reducible apply keeps_State_modLs (subParts hA rfl) | with_reducible apply keeps_State_logLose (subParts hA rfl) | split | with_reducible apply Keeps.upd_ddr (subParts hA rfl)

theorem keeps_State_logClose {A : List Part} {s0 s : State} (hA : [.regs, .dram, .grp, .lsr, .pci, .ddr, .out] ⊆ A) (x1 : ℕ) (h : Keeps A s0 s) : Keeps A s0 (State.logClose s x1) := by
  unfold State.logClose
  try dsimp only
  repeat' first | intro _ | with_reducible assumption | with_reducible apply Keeps.ite | with_reducible apply keeps_State_modLs (subParts hA rfl) | with_reducible apply keeps_State_logStage (subParts hA rfl)

theorem keeps_State_stopChan {A : List Part} {s0 s : State} (hA : [.regs, .dram, .grp, .chan, .srvAx, .srvCh, .lsr, .hoop, .port, .pci, .ddr, .xbar, .out] ⊆ A) (x1 : ℕ) (h : Keeps A s0 s) : Keeps A s0 (State.stopChan s x1) := by
  unfold State.stopChan
  try dsimp only
  repeat' first | intro _ | with_reducible assumption | with_reducible apply keeps_State_setReg (subParts hA rfl) | with_reducible apply keeps_State_modSc (subParts hA rfl) | with_reducible apply keeps_State_setFlag (subParts hA rfl) | with_reducible apply keeps_State_modCh (subParts hA rfl) | with_reducible apply keeps_State_modLs (subParts hA rfl) | with_reducible apply keeps_State_lapse (subParts hA rfl) | with_reducible apply keeps_State_releaseAll (subParts hA rfl) | with_reducible apply keeps_State_freezeLearning (subParts hA rfl) | with_reducible apply keeps_State_stopHands (subParts hA rfl) | with_reducible apply keeps_State_logClose (subParts hA rfl)

theorem keeps_State_freezeAxis {A : List Part} {s0 s : State} (hA : [.regs, .srvAx] ⊆ A) (x1 : ℕ) (h : Keeps A s0 s) : Keeps A s0 (State.freezeAxis s x1) := by
  unfold State.freezeAxis
  try dsimp only
  repeat' first | intro _ | with_reducible assumption | with_reducible apply Keeps.ite | with_reducible apply keeps_State_setFld (subParts hA rfl) | with_reducible apply keeps_State_modAx (subParts hA rfl)

theorem keeps_State_freezeChan {A : List Part} {s0 s : State} (hA : [.regs, .srvAx] ⊆ A) (x1 : ℕ) (h : Keeps A s0 s) : Keeps A s0 (State.freezeChan s x1) := by
  unfold State.freezeChan
  try dsimp only
  repeat' first | intro _ | with_reducible assumption | with_reducible apply Keeps.each | with_reducible apply keeps_State_freezeAxis (subParts hA rfl)

theorem keeps_State_enter {A : List Part} {s0 s : State} (hA : [.regs, .dram, .grp, .srvAx, .lsr, .pci, .ddr, .out] ⊆ A) (x1 : ℕ) (x2 : ℕ) (h : Keeps A s0 s) : Keeps A s0 (State.enter s x1 x2) := by
  unfold State.enter
  try dsimp only
  repeat' first | intro _ | with_reducible assumption | with_reducible apply Keeps.ite | with_reducible apply keeps_State_setFld (subParts hA rfl) | with_reducible apply keeps_State_lapse (subParts hA rfl) | with_reducible apply keeps_State_logClose (subParts hA rfl) | with_reducible apply keeps_State_freezeChan (subParts hA rfl)

theorem keeps_State_abortChan {A : List Part} {s0 s : State} (hA : [.regs, .dram, .grp, .chan, .srvAx, .srvCh, .lsr, .hoop, .port, .pci, .ddr, .xbar, .out] ⊆ A) (x1 : ℕ) (h : Keeps A s0 s) : Keeps A s0 (State.abortChan s x1) := by
  unfold State.abortChan
  try dsimp only
  repeat' first | intro _ | with_reducible assumption | with_reducible apply Keeps.ite | with_reducible apply keeps_State_stopChan (subParts hA rfl) | with_reducible apply keeps_State_enter (subParts hA rfl)

theorem keeps_State_cavePost {A : List Part} {s0 s : State} (hA : [.regs, .pci, .cave, .out] ⊆ A) (x1 : ℕ) (x2 : Bool) (x3 : ℕ) (x4 : ℕ) (x5 : ℕ) (x6 : List Byte) (h : Keeps A s0 s) : Keeps A s0 (State.cavePost s x1 x2 x3 x4 x5 x6) := by
  unfold State.cavePost
  try dsimp only
  repeat' first | intro _ | with_reducible assumption | with_reducible apply Keeps.ite | with_reducible apply keeps_State_raise (subParts hA rfl) | with_reducible apply keeps_State_satAdd (subParts hA rfl) | with_reducible apply Keeps.upd_cave (subParts hA rfl) | with_reducible rfl | rfl

theorem keeps_State_syncShadow {A : List Part} {s0 s : State} (hA : [.cave] ⊆ A)  (h : Keeps A s0 s) : Keeps A s0 (State.syncShadow s) := by
  unfold State.syncShadow
  try dsimp only
  repeat' first | intro _ | with_reducible assumption | with_reducible apply Keeps.upd_cave (subParts hA rfl) | with_reducible rfl | rfl

theorem keeps_State_caveAbort {A : List Part} {s0 s : State} (hA : [.regs, .pci, .cave, .out] ⊆ A) (x1 : ℕ) (x2 : ℕ) (h : Keeps A s0 s) : Keeps A s0 (State.caveAbort s x1 x2) := by
  unfold State.caveAbort
  try dsimp only
  repeat' first | intro _ | with_reducible assumption | with_reducible apply keeps_State_cavePost (subParts hA rfl) | with_reducible apply keeps_State_syncShadow (subParts hA rfl)

theorem keeps_State_setGrpState {A : List Part} {s0 s : State} (hA : [.regs] ⊆ A) (x1 : ℕ) (h : Keeps A s0 s) : Keeps A s0 (State.setGrpState s x1) := by
  unfold State.setGrpState
  try dsimp only
  repeat' first | intro _ | with_reducible assumption | with_reducible apply keeps_State_setFld (subParts hA rfl)

theorem keeps_State_abortLayer {A : List Part} {s0 s : State} (hA : [.regs, .dram, .grp, .chan, .srvAx, .srvCh, .lsr, .hoop, .port, .pci, .ddr, .cave, .xbar, .out] ⊆ A) (x1 : ℕ) (x2 : ℕ) (x3 : ℕ) (x4 : ℕ) (h : Keeps A s0 s) : Keeps A s0 (State.abortLayer s x1 x2 x3 x4) := by
  unfold State.abortLayer
  try dsimp only
  repeat' first | intro _ | with_reducible assumption | with_reducible apply Keeps.each | with_reducible apply keeps_State_raise (subParts hA rfl) | with_reducible apply keeps_State_modGrp (subParts hA rfl) | with_reducible apply keeps_State_post (subParts hA rfl) | with_reducible apply keeps_State_abortChan (subParts hA rfl) | with_reducible apply keeps_State_caveAbort (subParts hA rfl) | with_reducible apply keeps_State_setGrpState (subParts hA rfl)

theorem keeps_State_abortNow {A : List Part} {s0 s : State} (hA : [.regs, .dram, .grp, .chan, .srvAx, .srvCh, .lsr, .hoop, .port, .pci, .ddr, .cave, .xbar, .out] ⊆ A) (x1 : ℕ) (x2 : ℕ) (h : Keeps A s0 s) : Keeps A s0 (State.abortNow s x1 x2) := by
  unfold State.abortNow
  try dsimp only
  repeat' first | intro _ | with_reducible assumption | with_reducible apply keeps_State_sendAbort (subParts hA rfl) | with_reducible apply keeps_State_abortLayer (subParts hA rfl)

theorem keeps_State_modHd {A : List Part} {s0 s : State} (hA : [.head] ⊆ A) (x1 : ℕ) (x2 : Head → Head) (h : Keeps A s0 s) : Keeps A s0 (State.modHd s x1 x2) := by
  unfold State.modHd
  try dsimp only
  repeat' first | intro _ | with_reducible assumption | with_reducible apply Keeps.upd_head (subParts hA rfl) | exact tabWf_tabSet _ _ _ _ (canon_head (by assumption)) | with_reducible rfl | rfl

theorem keeps_State_zeroHeads {A : List Part} {s0 s : State} (hA : [.srv, .head] ⊆ A)  (h : Keeps A s0 s) : Keeps A s0 (State.zeroHeads s) := by
  unfold State.zeroHeads
  try dsimp only
  repeat' first | intro _ | with_reducible assumption | with_reducible apply Keeps.each | with_reducible apply keeps_State_modHd (subParts hA rfl) | with_reducible apply Keeps.upd_srv (subParts hA rfl)

theorem keeps_State_lapseAll {A : List Part} {s0 s : State} (hA : [.lsr] ⊆ A)  (h : Keeps A s0 s) : Keeps A s0 (State.lapseAll s) := by
  unfold State.lapseAll
  try dsimp only
  repeat' first | intro _ | with_reducible assumption | with_reducible apply Keeps.each | with_reducible apply keeps_State_lapse (subParts hA rfl)

theorem keeps_State_emissionStop {A : List Part} {s0 s : State} (hA : [.regs, .dram, .grp, .lsr, .pci, .ddr, .cave, .out] ⊆ A) (x1 : ℕ) (h : Keeps A s0 s) : Keeps A s0 (State.emissionStop s x1) := by
  unfold State.emissionStop
  try dsimp only
  repeat' first | intro _ | with_reducible assumption | with_reducible apply Keeps.ite | with_reducible apply keeps_State_setFld (subParts hA rfl) | with_reducible apply keeps_State_raise (subParts hA rfl) | with_reducible apply keeps_State_post (subParts hA rfl) | with_reducible apply keeps_State_setFlag (subParts hA rfl) | with_reducible apply keeps_State_cavePost (subParts hA rfl) | with_reducible apply keeps_State_lapseAll (subParts hA rfl)

theorem keeps_State_namedReset {A : List Part} {s0 s : State} (hA : [.regs, .dram, .grp, .chan, .srvAx, .srvCh, .srv, .lsr, .hoop, .port, .head, .pci, .ddr, .cave, .xbar, .out] ⊆ A) (x1 : ℕ) (x2 : Bool) (h : Keeps A s0 s) : Keeps A s0 (State.namedReset s x1 x2) := by
  unfold State.namedReset
  try dsimp only
  repeat' first | intro _ | with_reducible assumption | with_reducible apply Keeps.ite | with_reducible apply Keeps.each | with_reducible apply keeps_State_setFlag (subParts hA rfl) | with_reducible apply keeps_State_modCh (subParts hA rfl) | with_reducible apply keeps_State_abortLayer (subParts hA rfl) | with_reducible apply keeps_State_abortNow (subParts hA rfl) | with_reducible apply keeps_State_zeroHeads (subParts hA rfl) | with_reducible apply keeps_State_emissionStop (subParts hA rfl)

theorem keeps_State_modLn {A : List Part} {s0 s : State} (hA : [.lane] ⊆ A) (x1 : ℕ) (x2 : Lane → Lane) (h : Keeps A s0 s) : Keeps A s0 (State.modLn s x1 x2) := by
  unfold State.modLn
  try dsimp only
  repeat' first | intro _ | with_reducible assumption | with_reducible apply Keeps.upd_lane (subParts hA rfl) | exact tabWf_tabSet _ _ _ _ (canon_lane (by assumption)) | with_reducible rfl | rfl

theorem keeps_State_setLane {A : List Part} {s0 s : State} (hA : [.regs, .lane] ⊆ A) (x1 : ℕ) (x2 : ℕ) (h : Keeps A s0 s) : Keeps A s0 (State.setLane s x1 x2) := by
  unfold State.setLane
  try dsimp only
  repeat' first | intro _ | with_reducible assumption | with_reducible apply keeps_State_setFld (subParts hA rfl) | with_reducible apply keeps_State_modLn (subParts hA rfl)

theorem keeps_State_startLane {A : List Part} {s0 s : State} (hA : [.regs, .lane] ⊆ A) (x1 : ℕ) (h : Keeps A s0 s) : Keeps A s0 (State.startLane s x1) := by
  unfold State.startLane
  try dsimp only
  repeat' first | intro _ | with_reducible assumption | with_reducible apply Keeps.ite | with_reducible apply keeps_State_setFlag (subParts hA rfl) | with_reducible apply keeps_State_setLane (subParts hA rfl)

theorem keeps_State_lanesStart {A : List Part} {s0 s : State} (hA : [.regs, .lane] ⊆ A) (x1 : ℕ) (h : Keeps A s0 s) : Keeps A s0 (State.lanesStart s x1) := by
  unfold State.lanesStart
  try dsimp only
  repeat' first | intro _ | with_reducible assumption | with_reducible apply Keeps.each | with_reducible apply keeps_State_startLane (subParts hA rfl)

theorem keeps_State_headLost {A : List Part} {s0 s : State} (hA : [.regs, .head, .pci, .out] ⊆ A) (x1 : ℕ) (h : Keeps A s0 s) : Keeps A s0 (State.headLost s x1) := by
  unfold State.headLost
  try dsimp only
  repeat' first | intro _ | with_reducible assumption | with_reducible apply keeps_State_raise (subParts hA rfl) | with_reducible apply keeps_State_setFlag (subParts hA rfl) | with_reducible apply keeps_State_modHd (subParts hA rfl)

theorem keeps_State_laneLeft {A : List Part} {s0 s : State} (hA : [.regs, .head, .pci, .out] ⊆ A) (x1 : ℕ) (h : Keeps A s0 s) : Keeps A s0 (State.laneLeft s x1) := by
  unfold State.laneLeft
  try dsimp only
  repeat' first | intro _ | with_reducible assumption | with_reducible apply Keeps.ite | with_reducible apply keeps_State_headLost (subParts hA rfl)

theorem keeps_State_laneDown {A : List Part} {s0 s : State} (hA : [.regs, .lane, .head, .pci, .out] ⊆ A) (x1 : ℕ) (h : Keeps A s0 s) : Keeps A s0 (State.laneDown s x1) := by
  unfold State.laneDown
  try dsimp only
  repeat' first | intro _ | with_reducible assumption | with_reducible apply keeps_State_setFlag (subParts hA rfl) | with_reducible apply keeps_State_modLn (subParts hA rfl) | with_reducible apply keeps_State_setLane (subParts hA rfl) | with_reducible apply keeps_State_laneLeft (subParts hA rfl)

theorem keeps_State_headLanesDown {A : List Part} {s0 s : State} (hA : [.regs, .lane, .head, .pci, .out] ⊆ A)  (h : Keeps A s0 s) : Keeps A s0 (State.headLanesDown s) := by
  unfold State.headLanesDown
  try dsimp only
  repeat' first | intro _ | with_reducible assumption | with_reducible apply Keeps.each | with_reducible apply keeps_State_laneDown (subParts hA rfl)

theorem keeps_State_resetRegs {A : List Part} {s0 s : State} (hA : [.regs] ⊆ A) (x1 : ℕ) (x2 : ℕ) (x3 : Access → Bool) (h : Keeps A s0 s) : Keeps A s0 (State.resetRegs s x1 x2 x3) := by
  unfold State.resetRegs
  try dsimp only
  repeat' first | intro _ | with_reducible assumption | with_reducible apply Keeps.ite | with_reducible apply Keeps.foldl | with_reducible apply Keeps.upd_regs (subParts hA rfl) | exact tabWf_regsFold _ _ _ (canon_regs (by assumption)) | exact tabWf_tabSet _ _ _ _ (canon_regs (by assumption)) | with_reducible rfl | rfl

theorem keeps_State_resetHl {A : List Part} {s0 s : State} (hA : [.regs, .lane, .head, .pci, .out] ⊆ A) (x1 : Access → Bool) (h : Keeps A s0 s) : Keeps A s0 (State.resetHl s x1) := by
  have k1 := keeps_State_headLanesDown (s0 := s0) (subParts hA (by decide)) h
  have k := keeps_State_resetRegs (subParts hA (by decide)) 0x250000 0x260000 x1 k1
  unfold State.resetHl
  generalize s.headLanesDown = u at k
  exact Keeps.upd_head (t := u.resetRegs 0x250000 0x260000 x1) (subParts hA (by decide)) k
    (fun c => tabWf_zeroedHeads (m := u.head) (canon_head (s := u.resetRegs 0x250000 0x260000 x1) c))

theorem keeps_execHlBlockReset {A : List Part} {s0 s : State} (hA : [.regs, .dram, .grp, .chan, .srvAx, .srvCh, .srv, .lsr, .hoop, .port, .lane, .head, .pci, .ddr, .cave, .xbar, .out] ⊆ A)  (h : Keeps A s0 s) : KeepsR A s0 (execHlBlockReset s) := by
  unfold execHlBlockReset
  try dsimp only
  repeat' first | intro _ | with_reducible assumption | with_reducible apply KeepsR.of_next | with_reducible apply keeps_State_namedReset (subParts hA rfl) | with_reducible apply keeps_State_lanesStart (subParts hA rfl) | with_reducible apply keeps_State_resetHl (subParts hA rfl)

theorem keeps_State_noteWake {A : List Part} {s0 s : State} (hA : [.regs] ⊆ A) (x1 : ℕ) (h : Keeps A s0 s) : Keeps A s0 (State.noteWake s x1) := by
  unfold State.noteWake
  try dsimp only
  repeat' first | intro _ | with_reducible assumption | with_reducible apply keeps_State_setFld (subParts hA rfl) | with_reducible apply keeps_State_satAdd (subParts hA rfl)

theorem keeps_State_modDm {A : List Part} {s0 s : State} (hA : [.dom] ⊆ A) (x1 : ℕ) (x2 : Domain → Domain) (h : Keeps A s0 s) : Keeps A s0 (State.modDm s x1 x2) := by
  unfold State.modDm
  try dsimp only
  repeat' first | intro _ | with_reducible assumption | with_reducible apply Keeps.upd_dom (subParts hA rfl) | exact tabWf_tabSet _ _ _ _ (canon_dom (by assumption)) | with_reducible rfl | rfl

theorem keeps_State_holdDomains {A : List Part} {s0 s : State} (hA : [.regs, .dom, .pci, .out] ⊆ A)  (h : Keeps A s0 s) : Keeps A s0 (State.holdDomains s) := by
  unfold State.holdDomains
  try dsimp only
  repeat' first | intro _ | with_reducible assumption | with_reducible apply Keeps.ite | with_reducible apply Keeps.each | with_reducible apply keeps_State_setFld (subParts hA rfl) | with_reducible apply keeps_State_raise (subParts hA rfl) | with_reducible apply keeps_State_modDm (subParts hA rfl)

theorem keeps_State_afterDeepSleep {A : List Part} {s0 s : State} (hA : [.regs, .dom, .pci, .out] ⊆ A)  (h : Keeps A s0 s) : Keeps A s0 (State.afterDeepSleep s) := by
  unfold State.afterDeepSleep
  try dsimp only
  repeat' first | intro _ | with_reducible assumption | with_reducible apply Keeps.ite | with_reducible apply keeps_State_setFlag (subParts hA rfl) | with_reducible apply keeps_State_holdDomains (subParts hA rfl)

theorem keeps_State_supplyOn {A : List Part} {s0 s : State} (hA : [.pwr] ⊆ A)  (h : Keeps A s0 s) : Keeps A s0 (State.supplyOn s) := by
  unfold State.supplyOn
  try dsimp only
  repeat' first | intro _ | with_reducible assumption | with_reducible apply Keeps.ite | with_reducible apply Keeps.upd_pwr (subParts hA rfl)

theorem keeps_State_dramSupplyOff {A : List Part} {s0 s : State} (hA : [.regs, .dram, .ddr] ⊆ A)  (h : Keeps A s0 s) : Keeps A s0 (State.dramSupplyOff s) := by
  unfold State.dramSupplyOff
  try dsimp only
  repeat' first | intro _ | with_reducible assumption | with_reducible apply keeps_State_setFlag (subParts hA rfl) | with_reducible apply Keeps.upd_dram_ddr (subParts hA rfl) | with_reducible apply Keeps.upd_dram (subParts hA rfl) | with_reducible apply Keeps.upd_ddr (subParts hA rfl) | exact tabWf_tabSet _ _ _ _ (canon_dram (by assumption)) | with_reducible rfl | rfl

theorem keeps_State_libsGone {A : List Part} {s0 s : State} (hA : [.regs] ⊆ A)  (h : Keeps A s0 s) : Keeps A s0 (State.libsGone s) := by
  unfold State.libsGone
  try dsimp only
  repeat' first | intro _ | with_reducible assumption | with_reducible apply Keeps.each | with_reducible apply keeps_State_setFlag (subParts hA rfl)

theorem keeps_State_powerRecord {A : List Part} {s0 s : State} (hA : [.regs, .dram, .grp, .pci, .ddr, .out] ⊆ A) (x1 : ℕ) (x2 : ℕ) (x3 : ℕ) (x4 : ℕ) (h : Keeps A s0 s) : Keeps A s0 (State.powerRecord s x1 x2 x3 x4) := by
  unfold State.powerRecord
  try dsimp only
  repeat' first | intro _ | with_reducible assumption | with_reducible apply keeps_State_post (subParts hA rfl)

theorem keeps_State_reach {A : List Part} {s0 s : State} (hA : [.regs, .dram, .grp, .pci, .ddr, .pwr, .out] ⊆ A) (x1 : ℕ) (h : Keeps A s0 s) : Keeps A s0 (State.reach s x1) := by
  unfold State.reach
  try dsimp only
  repeat' first | intro _ | with_reducible assumption | with_reducible apply Keeps.ite | with_reducible apply keeps_State_setFld (subParts hA rfl) | with_reducible apply keeps_State_raise (subParts hA rfl) | with_reducible apply keeps_State_setFlag (subParts hA rfl) | with_reducible apply keeps_State_dramSupplyOff (subParts hA rfl) | with_reducible apply keeps_State_libsGone (subParts hA rfl) | with_reducible apply keeps_State_powerRecord (subParts hA rfl) | with_reducible apply Keeps.upd_pwr (subParts hA rfl)

theorem keeps_State_settlePower {A : List Part} {s0 s : State} (hA : [.regs, .dram, .grp, .pci, .ddr, .pwr, .out] ⊆ A)  (h : Keeps A s0 s) : Keeps A s0 (State.settlePower s) := by
  unfold State.settlePower
  try dsimp only
  repeat' first | intro _ | with_reducible assumption | with_reducible apply Keeps.ite | with_reducible apply keeps_State_reach (subParts hA rfl) | split

theorem keeps_State_request {A : List Part} {s0 s : State} (hA : [.regs, .dram, .grp, .pci, .ddr, .pwr, .out] ⊆ A) (x1 : ℕ) (h : Keeps A s0 s) : Keeps A s0 (State.request s x1) := by
  unfold State.request
  try dsimp only
  repeat' first | intro _ | with_reducible assumption | with_reducible apply Keeps.ite | with_reducible apply keeps_State_setFld (subParts hA rfl) | with_reducible apply keeps_State_setFlag (subParts hA rfl) | with_reducible apply keeps_State_supplyOn (subParts hA rfl) | with_reducible apply keeps_State_settlePower (subParts hA rfl) | with_reducible apply Keeps.upd_pwr (subParts hA rfl)

theorem keeps_State_wakeRun {A : List Part} {s0 s : State} (hA : [.regs, .dram, .grp, .dom, .pci, .ddr, .pwr, .out] ⊆ A) (x1 : ℕ) (x2 : List ℕ) (h : Keeps A s0 s) : Keeps A s0 (State.wakeRun s x1 x2) := by
  unfold State.wakeRun
  try dsimp only
  repeat' first | intro _ | with_reducible assumption | with_reducible apply Keeps.ite | with_reducible apply keeps_State_noteWake (subParts hA rfl) | with_reducible apply keeps_State_afterDeepSleep (subParts hA rfl) | with_reducible apply keeps_State_request (subParts hA rfl)

theorem keeps_State_revote {A : List Part} {s0 s : State} (hA : [.regs, .dram, .grp, .dom, .pci, .ddr, .pwr, .out] ⊆ A) (x1 : ℕ) (h : Keeps A s0 s) : Keeps A s0 (State.revote s x1) := by
  unfold State.revote
  try dsimp only
  repeat' first | intro _ | with_reducible assumption | with_reducible apply Keeps.ite | with_reducible apply keeps_State_settlePower (subParts hA rfl) | with_reducible apply keeps_State_wakeRun (subParts hA rfl) | with_reducible apply Keeps.upd_pwr (subParts hA rfl)

theorem keeps_occurs {A : List Part} {s0 s : State} (hA : ([] : List Part) ⊆ A) (x0 : Bool) (x2 : State → State) (hf : ∀ (a0 : State), Keeps A s0 a0 → Keeps A s0 (x2 a0)) (h : Keeps A s0 s) : KeepsR A s0 (occurs x0 s x2) := by
  unfold occurs
  try dsimp only
  repeat' first | intro _ | with_reducible assumption | with_reducible apply hf | with_reducible apply KeepsR.ite | with_reducible apply Keeps.ite | with_reducible apply KeepsR.of_next

theorem keeps_execWakeAlarm {A : List Part} {s0 s : State} (hA : [.regs, .dram, .grp, .dom, .pci, .ddr, .pwr, .out] ⊆ A)  (h : Keeps A s0 s) : KeepsR A s0 (execWakeAlarm s) := by
  unfold execWakeAlarm
  try dsimp only
  repeat' first | intro _ | with_reducible assumption | with_reducible apply KeepsR.of_next | with_reducible apply keeps_State_modGrp (subParts hA rfl) | with_reducible apply keeps_State_wakeRun (subParts hA rfl) | with_reducible apply keeps_State_revote (subParts hA rfl) | with_reducible apply keeps_occurs (subParts hA rfl) | split

theorem keeps_State_manualEnd {A : List Part} {s0 s : State} (hA : [.regs, .lsr] ⊆ A) (x1 : ℕ) (h : Keeps A s0 s) : Keeps A s0 (State.manualEnd s x1) := by
  unfold State.manualEnd
  try dsimp only
  repeat' first | intro _ | with_reducible assumption | with_reducible apply keeps_State_setFlag (subParts hA rfl) | with_reducible apply keeps_State_lapse (subParts hA rfl)

theorem keeps_State_sendHoldEvent {A : List Part} {s0 s : State} (hA : [.grp, .hoop, .port] ⊆ A) (x1 : Bool) (h : Keeps A s0 s) : Keeps A s0 (State.sendHoldEvent s x1) := by
  unfold State.sendHoldEvent
  try dsimp only
  repeat' first | intro _ | with_reducible assumption | with_reducible apply Keeps.ite | with_reducible apply keeps_State_sendGroup (subParts hA rfl) | with_reducible apply keeps_State_modGrp (subParts hA rfl)

theorem keeps_State_holdRise {A : List Part} {s0 s : State} (hA : [.grp, .hoop, .port] ⊆ A)  (h : Keeps A s0 s) : Keeps A s0 (State.holdRise s) := by
  unfold State.holdRise
  try dsimp only
  repeat' first | intro _ | with_reducible assumption | with_reducible apply Keeps.ite | with_reducible apply keeps_State_modGrp (subParts hA rfl) | with_reducible apply keeps_State_sendHoldEvent (subParts hA rfl) | split

theorem keeps_State_budgetCause {A : List Part} {s0 s : State} (hA : [.regs, .grp, .hoop, .port, .pci, .out] ⊆ A)  (h : Keeps A s0 s) : Keeps A s0 (State.budgetCause s) := by
  unfold State.budgetCause
  try dsimp only
  repeat' first | intro _ | with_reducible assumption | with_reducible apply Keeps.ite | with_reducible apply Keeps.foldl | with_reducible apply keeps_State_setFld (subParts hA rfl) | with_reducible apply keeps_State_raise (subParts hA rfl) | with_reducible apply keeps_State_setFlag (subParts hA rfl) | with_reducible apply keeps_State_holdRise (subParts hA rfl)

theorem keeps_State_addSum {A : List Part} {s0 s : State} (hA : [.regs, .grp, .srv, .hoop, .port, .pci, .out] ⊆ A) (x1 : ℕ) (h : Keeps A s0 s) : Keeps A s0 (State.addSum s x1) := by
  unfold State.addSum
  try dsimp only
  repeat' first | intro _ | with_reducible assumption | with_reducible apply keeps_State_budgetCause (subParts hA rfl) | with_reducible apply Keeps.upd_srv (subParts hA rfl)

theorem keeps_State_driveSum {A : List Part} {s0 s : State} (hA : [.regs, .grp, .srv, .hoop, .port, .pci, .out] ⊆ A)  (h : Keeps A s0 s) : Keeps A s0 (State.driveSum s) := by
  unfold State.driveSum
  try dsimp only
  repeat' first | intro _ | with_reducible assumption | with_reducible apply Keeps.foldl | with_reducible apply keeps_State_setFld (subParts hA rfl) | with_reducible apply keeps_State_addSum (subParts hA rfl)

theorem keeps_onLane {A : List Part} {s0 s : State} (hA : ([] : List Part) ⊆ A) (x0 : ℕ) (x2 : State → State) (hf : ∀ (a0 : State), Keeps A s0 a0 → Keeps A s0 (x2 a0)) (h : Keeps A s0 s) : KeepsR A s0 (onLane x0 s x2) := by
  unfold onLane
  try dsimp only
  repeat' first | intro _ | with_reducible assumption | with_reducible apply hf | with_reducible apply KeepsR.ite | with_reducible apply Keeps.ite | with_reducible apply KeepsR.of_next | with_reducible exact KeepsR.fault _

theorem keeps_execTrainfail {A : List Part} {s0 s : State} (hA : [.regs, .lane, .pci, .out] ⊆ A) (x0 : ℕ) (h : Keeps A s0 s) : KeepsR A s0 (execTrainfail x0 s) := by
  unfold execTrainfail
  try dsimp only
  repeat' first | intro _ | with_reducible assumption | with_reducible apply KeepsR.ite | with_reducible apply Keeps.ite | with_reducible apply KeepsR.of_next | with_reducible apply keeps_State_raise (subParts hA rfl) | with_reducible apply keeps_State_satAdd (subParts hA rfl) | with_reducible apply keeps_State_setLane (subParts hA rfl) | with_reducible apply keeps_onLane (subParts hA rfl)

theorem keeps_State_absent {A : List Part} {s0 s : State} (hA : [.regs] ⊆ A) (x1 : Source) (x2 : ℕ) (x3 : Bool) (h : Keeps A s0 s) : Keeps A s0 (State.absent s x1 x2 x3) := by
  unfold State.absent
  try dsimp only
  repeat' first | intro _ | with_reducible assumption | with_reducible apply Keeps.ite | with_reducible apply keeps_State_setReg (subParts hA rfl) | with_reducible apply keeps_State_setFlag (subParts hA rfl) | split

theorem keeps_onLight {A : List Part} {s0 s : State} (hA : [.regs] ⊆ A) (x0 : ℕ) (x2 : State → State) (hf : ∀ (a0 : State), Keeps A s0 a0 → Keeps A s0 (x2 a0)) (h : Keeps A s0 s) : KeepsR A s0 (onLight x0 s x2) := by
  unfold onLight
  try dsimp only
  repeat' first | intro _ | with_reducible assumption | with_reducible apply hf | with_reducible apply KeepsR.ite | with_reducible apply Keeps.ite | with_reducible apply KeepsR.of_next | with_reducible apply keeps_State_absent (subParts hA rfl)

theorem keeps_State_modSb {A : List Part} {s0 s : State} (hA : [.strobe] ⊆ A) (x1 : ℕ) (x2 : Strobe → Strobe) (h : Keeps A s0 s) : Keeps A s0 (State.modSb s x1 x2) := by
  unfold State.modSb
  try dsimp only
  repeat' first | intro _ | with_reducible assumption | with_reducible apply Keeps.upd_strobe (subParts hA rfl) | exact tabWf_tabSet _ _ _ _ (canon_strobe (by assumption)) | with_reducible rfl | rfl

theorem keeps_State_budSync {A : List Part} {s0 s : State} (hA : [.regs] ⊆ A) (x1 : ℕ) (h : Keeps A s0 s) : Keeps A s0 (State.budSync s x1) := by
  unfold State.budSync
  try dsimp only
  repeat' first | intro _ | with_reducible assumption | with_reducible apply Keeps.ite | with_reducible apply Keeps.foldl | with_reducible apply keeps_State_setFld (subParts hA rfl) | with_reducible apply keeps_State_setFlag (subParts hA rfl)

theorem keeps_State_setWaiting {A : List Part} {s0 s : State} (hA : [.pwr] ⊆ A) (x1 : ℕ) (x2 : List BudReq) (h : Keeps A s0 s) : Keeps A s0 (State.setWaiting s x1 x2) := by
  unfold State.setWaiting
  try dsimp only
  repeat' first | intro _ | with_reducible assumption | with_reducible apply Keeps.upd_pwr (subParts hA rfl)

theorem keeps_State_budWithdraw {A : List Part} {s0 s : State} (hA : [.regs, .pwr] ⊆ A) (x1 : ℕ) (x2 : ℕ) (h : Keeps A s0 s) : Keeps A s0 (State.budWithdraw s x1 x2) := by
  unfold State.budWithdraw
  try dsimp only
  repeat' first | intro _ | with_reducible assumption | with_reducible apply Keeps.ite | with_reducible apply keeps_State_budSync (subParts hA rfl) | with_reducible apply keeps_State_setWaiting (subParts hA rfl)

theorem keeps_State_setGranted {A : List Part} {s0 s : State} (hA : [.pwr] ⊆ A) (x1 : ℕ) (x2 : ℕ) (x3 : ℕ) (h : Keeps A s0 s) : Keeps A s0 (State.setGranted s x1 x2 x3) := by
  unfold State.setGranted
  try dsimp only
  repeat' first | intro _ | with_reducible assumption | with_reducible apply Keeps.upd_pwr (subParts hA rfl)

theorem keeps_State_budHold {A : List Part} {s0 s : State} (hA : [.regs, .pwr] ⊆ A) (x1 : ℕ) (x2 : ℕ) (x3 : ℕ) (h : Keeps A s0 s) : Keeps A s0 (State.budHold s x1 x2 x3) := by
  unfold State.budHold
  try dsimp only
  repeat' first | intro _ | with_reducible assumption | with_reducible apply Keeps.ite | with_reducible apply keeps_State_budSync (subParts hA rfl) | with_reducible apply keeps_State_setGranted (subParts hA rfl)

theorem keeps_State_budFree {A : List Part} {s0 s : State} (hA : [.regs, .pwr] ⊆ A) (x1 : ℕ) (x2 : ℕ) (h : Keeps A s0 s) : Keeps A s0 (State.budFree s x1 x2) := by
  unfold State.budFree
  try dsimp only
  repeat' first | intro _ | with_reducible assumption | with_reducible apply keeps_State_budWithdraw (subParts hA rfl) | with_reducible apply keeps_State_budHold (subParts hA rfl)

theorem keeps_State_strobeOff {A : List Part} {s0 s : State} (hA : [.regs, .strobe, .pwr] ⊆ A) (x1 : ℕ) (h : Keeps A s0 s) : Keeps A s0 (State.strobeOff s x1) := by
  unfold State.strobeOff
  try dsimp only
  repeat' first | intro _ | with_reducible assumption | with_reducible apply keeps_State_setFlag (subParts hA rfl) | with_reducible apply keeps_State_modSb (subParts hA rfl) | with_reducible apply keeps_State_budFree (subParts hA rfl)

theorem keeps_State_lightOff {A : List Part} {s0 s : State} (hA : [.regs, .lgt, .strobe, .pwr] ⊆ A)  (h : Keeps A s0 s) : Keeps A s0 (State.lightOff s) := by
  unfold State.lightOff
  try dsimp only
  repeat' first | intro _ | with_reducible assumption | with_reducible apply Keeps.each | with_reducible apply keeps_State_setFlag (subParts hA rfl) | with_reducible apply keeps_State_budFree (subParts hA rfl) | with_reducible apply keeps_State_strobeOff (subParts hA rfl) | with_reducible apply Keeps.upd_lgt (subParts hA rfl)

theorem keeps_State_resetLgt {A : List Part} {s0 s : State} (hA : [.regs, .lgt, .strobe, .pwr] ⊆ A) (x1 : Access → Bool) (h : Keeps A s0 s) : Keeps A s0 (State.resetLgt s x1) := by
  unfold State.resetLgt
  try dsimp only
  repeat' first | intro _ | with_reducible assumption | with_reducible apply keeps_State_resetRegs (subParts hA rfl) | with_reducible apply keeps_State_lightOff (subParts hA rfl) | with_reducible apply Keeps.upd_lgt_strobe (subParts hA rfl) | with_reducible apply Keeps.upd_lgt (subParts hA rfl) | with_reducible apply Keeps.upd_strobe (subParts hA rfl) | exact tabWf_tabSet _ _ _ _ (canon_strobe (by assumption)) | with_reducible rfl | rfl

theorem keeps_execLgtBlockReset {A : List Part} {s0 s : State} (hA : [.regs, .lgt, .strobe, .pwr] ⊆ A)  (h : Keeps A s0 s) : KeepsR A s0 (execLgtBlockReset s) := by
  unfold execLgtBlockReset
  try dsimp only
  repeat' first | intro _ | with_reducible assumption | with_reducible apply KeepsR.of_next | with_reducible apply keeps_onLight (subParts hA rfl) | with_reducible apply keeps_State_resetLgt (subParts hA rfl)

theorem keeps_State_dropQueue {A : List Part} {s0 s : State} (hA : [.regs, .port] ⊆ A) (x1 : ℕ) (h : Keeps A s0 s) : Keeps A s0 (State.dropQueue s x1) := by
  unfold State.dropQueue
  try dsimp only
  repeat' first | intro _ | with_reducible assumption | with_reducible apply keeps_State_modPt (subParts hA rfl) | with_reducible apply keeps_State_satAdd (subParts hA rfl)

theorem keeps_State_portLost {A : List Part} {s0 s : State} (hA : [.regs, .port, .lane, .head, .pci, .out] ⊆ A) (x1 : ℕ) (h : Keeps A s0 s) : Keeps A s0 (State.portLost s x1) := by
  unfold State.portLost
  try dsimp only
  repeat' first | intro _ | with_reducible assumption | with_reducible apply Keeps.ite | with_reducible apply Keeps.each | with_reducible apply keeps_State_setFld (subParts hA rfl) | with_reducible apply keeps_State_raise (subParts hA rfl) | with_reducible apply keeps_State_modPt (subParts hA rfl) | with_reducible apply keeps_State_laneDown (subParts hA rfl) | with_reducible apply keeps_State_dropQueue (subParts hA rfl)

theorem keeps_State_leaveActive {A : List Part} {s0 s : State} (hA : [.regs, .port, .lane, .head, .pci, .out] ⊆ A) (x1 : ℕ) (h : Keeps A s0 s) : Keeps A s0 (State.leaveActive s x1) := by
  unfold State.leaveActive
  try dsimp only
  repeat' first | intro _ | with_reducible assumption | with_reducible apply Keeps.ite | with_reducible apply keeps_State_laneLeft (subParts hA rfl) | with_reducible apply keeps_State_portLost (subParts hA rfl) | split

theorem keeps_State_retrain {A : List Part} {s0 s : State} (hA : [.regs, .port, .lane, .head, .pci, .out] ⊆ A) (x1 : ℕ) (h : Keeps A s0 s) : Keeps A s0 (State.retrain s x1) := by
  unfold State.retrain
  try dsimp only
  repeat' first | intro _ | with_reducible assumption | with_reducible apply Keeps.ite | with_reducible apply keeps_State_setLane (subParts hA rfl) | with_reducible apply keeps_State_leaveActive (subParts hA rfl)

theorem keeps_State_lostLock {A : List Part} {s0 s : State} (hA : [.regs, .port, .lane, .head, .pci, .out] ⊆ A) (x1 : ℕ) (h : Keeps A s0 s) : Keeps A s0 (State.lostLock s x1) := by
  unfold State.lostLock
  try dsimp only
  repeat' first | intro _ | with_reducible assumption | with_reducible apply Keeps.ite | with_reducible apply keeps_State_raise (subParts hA rfl) | with_reducible apply keeps_State_satAdd (subParts hA rfl) | with_reducible apply keeps_State_setFlag (subParts hA rfl) | with_reducible apply keeps_State_modLn (subParts hA rfl) | with_reducible apply keeps_State_retrain (subParts hA rfl)

theorem keeps_State_takeSync {A : List Part} {s0 s : State} (hA : [.regs, .port, .lane, .head, .pci, .out] ⊆ A) (x1 : ℕ) (x2 : BitVec 2) (h : Keeps A s0 s) : Keeps A s0 (State.takeSync s x1 x2) := by
  unfold State.takeSync
  try dsimp only
  repeat' first | intro _ | with_reducible assumption | with_reducible apply Keeps.ite | with_reducible apply keeps_State_satAdd (subParts hA rfl) | with_reducible apply keeps_State_setFlag (subParts hA rfl) | with_reducible apply keeps_State_modLn (subParts hA rfl) | with_reducible apply keeps_State_lostLock (subParts hA rfl)

theorem keeps_State_takeSyncs {A : List Part} {s0 s : State} (hA : [.regs, .port, .lane, .head, .pci, .out] ⊆ A) (x1 : ℕ) (x2 : List (BitVec 2)) (h : Keeps A s0 s) : Keeps A s0 (State.takeSyncs s x1 x2) := by
  unfold State.takeSyncs
  try dsimp only
  repeat' first | intro _ | with_reducible assumption | with_reducible apply Keeps.foldl | with_reducible apply keeps_State_takeSync (subParts hA rfl)

theorem keeps_execLockLoss {A : List Part} {s0 s : State} (hA : [.regs, .port, .lane, .head, .pci, .out] ⊆ A) (x0 : Seen (List (BitVec 2))) (h : Keeps A s0 s) : KeepsR A s0 (execLockLoss x0 s) := by
  unfold execLockLoss
  try dsimp only
  repeat' first | intro _ | with_reducible assumption | with_reducible apply KeepsR.of_next | with_reducible apply keeps_onLane (subParts hA rfl) | with_reducible apply keeps_State_takeSyncs (subParts hA rfl)

theorem keeps_State_storeDmaCfg {A : List Part} {s0 s : State} (hA : [.regs] ⊆ A) (x1 : ℕ) (x2 : Word) (h : Keeps A s0 s) : Keeps A s0 (State.storeDmaCfg s x1 x2) := by
  unfold State.storeDmaCfg
  try dsimp only
  repeat' first | intro _ | with_reducible assumption | with_reducible apply Keeps.ite | with_reducible apply keeps_State_setFld (subParts hA rfl)

theorem keeps_State_tableStore {A : List Part} {s0 s : State} (hA : [.regs, .intg] ⊆ A) (x1 : ℕ) (x2 : ℕ) (x3 : Word) (h : Keeps A s0 s) : Keeps A s0 (State.tableStore s x1 x2 x3) := by
  unfold State.tableStore
  try dsimp only
  repeat' first | intro _ | with_reducible assumption | with_reducible apply Keeps.ite | with_reducible apply keeps_State_setReg (subParts hA rfl) | with_reducible apply keeps_State_setFlag (subParts hA rfl) | with_reducible apply Keeps.upd_intg (subParts hA rfl)

theorem keeps_onAddr {A : List Part} {s0 s : State} (hA : ([] : List Part) ⊆ A) (x0 : ℕ) (x2 : State → State) (hf : ∀ (a0 : State), Keeps A s0 a0 → Keeps A s0 (x2 a0)) (h : Keeps A s0 s) : KeepsR A s0 (onAddr x0 s x2) := by
  unfold onAddr
  try dsimp only
  repeat' first | intro _ | with_reducible assumption | with_reducible apply hf | with_reducible apply KeepsR.ite | with_reducible apply Keeps.ite | with_reducible apply KeepsR.of_next | with_reducible exact KeepsR.fault _

theorem keeps_onTable {A : List Part} {s0 s : State} (hA : [.regs] ⊆ A) (x0 : ℕ) (x1 : ℕ) (x2 : ℕ) (x3 : ℕ) (x5 : State → State) (hf : ∀ (a0 : State), Keeps A s0 a0 → Keeps A s0 (x5 a0)) (h : Keeps A s0 s) : KeepsR A s0 (onTable x0 x1 x2 x3 s x5) := by
  unfold onTable
  try dsimp only
  repeat' first | intro _ | with_reducible assumption | with_reducible apply hf | with_reducible apply KeepsR.ite | with_reducible apply Keeps.ite | with_reducible apply KeepsR.of_next | with_reducible apply keeps_State_absent (subParts hA rfl) | with_reducible apply keeps_onAddr (subParts hA rfl)

theorem keeps_execLsrActiveSetWrite {A : List Part} {s0 s : State} (hA : [.regs, .pci, .intg, .out] ⊆ A) (x0 : ℕ) (x1 : Word) (h : Keeps A s0 s) : KeepsR A s0 (execLsrActiveSetWrite x0 x1 s) := by
  unfold execLsrActiveSetWrite
  try dsimp only
  repeat' first | intro _ | with_reducible assumption | with_reducible apply KeepsR.ite | with_reducible apply Keeps.ite | with_reducible apply KeepsR.of_next | with_reducible apply keeps_id | with_reducible apply keeps_State_raise (subParts hA rfl) | with_reducible apply keeps_State_tableStore (subParts hA rfl) | with_reducible apply keeps_onAddr (subParts hA rfl) | with_reducible apply keeps_onTable (subParts hA rfl) | split

theorem keeps_State_firstFault {A : List Part} {s0 s : State} (hA : [.regs, .dram, .grp, .pci, .ddr, .out] ⊆ A) (x1 : ℕ) (x2 : ℕ) (x3 : ℕ) (x4 : ℕ) (x5 : Bool) (x6 : ℕ) (h : Keeps A s0 s) : Keeps A s0 (State.firstFault s x1 x2 x3 x4 x5 x6) := by
  unfold State.firstFault
  try dsimp only
  repeat' first | intro _ | with_reducible assumption | with_reducible apply Keeps.ite | with_reducible apply keeps_State_setReg (subParts hA rfl) | with_reducible apply keeps_State_setFld (subParts hA rfl) | with_reducible apply keeps_State_raise (subParts hA rfl) | with_reducible apply keeps_State_postAt (subParts hA rfl)

theorem keeps_State_fault {A : List Part} {s0 s : State} (hA : [.regs, .dram, .grp, .chan, .srvAx, .srvCh, .lsr, .hoop, .port, .pci, .ddr, .xbar, .out] ⊆ A) (x1 : ℕ) (x2 : ℕ) (x3 : ℕ) (x4 : ℕ) (x5 : Bool) (x6 : ℕ) (h : Keeps A s0 s) : Keeps A s0 (State.fault s x1 x2 x3 x4 x5 x6) := by
  unfold State.fault
  try dsimp only
  repeat' first | intro _ | with_reducible assumption | with_reducible apply Keeps.ite | with_reducible apply keeps_State_modGrp (subParts hA rfl) | with_reducible apply keeps_State_stopChan (subParts hA rfl) | with_reducible apply keeps_State_enter (subParts hA rfl) | with_reducible apply keeps_State_firstFault (subParts hA rfl)

theorem keeps_State_faultNow {A : List Part} {s0 s : State} (hA : [.regs, .dram, .grp, .chan, .srvAx, .srvCh, .lsr, .hoop, .port, .pci, .ddr, .xbar, .out] ⊆ A) (x1 : ℕ) (x2 : ℕ) (x3 : Loc) (h : Keeps A s0 s) : Keeps A s0 (State.faultNow s x1 x2 x3) := by
  unfold State.faultNow
  try dsimp only
  repeat' first | intro _ | with_reducible assumption | with_reducible apply Keeps.ite | with_reducible apply keeps_State_modCh (subParts hA rfl) | with_reducible apply keeps_State_fault (subParts hA rfl)

theorem keeps_State_tokenMismatch {A : List Part} {s0 s : State} (hA : [.regs, .dram, .grp, .chan, .srvAx, .srvCh, .lsr, .hoop, .port, .pci, .ddr, .xbar, .out] ⊆ A) (x1 : ℕ) (x2 : ℕ) (h : Keeps A s0 s) : Keeps A s0 (State.tokenMismatch s x1 x2) := by
  unfold State.tokenMismatch
  try dsimp only
  repeat' first | intro _ | with_reducible assumption | with_reducible apply keeps_State_raise (subParts hA rfl) | with_reducible apply keeps_State_satAdd (subParts hA rfl) | with_reducible apply keeps_State_faultNow (subParts hA rfl)

theorem keeps_execAbsentUnitAccess {A : List Part} {s0 s : State} (hA : [.regs, .readData] ⊆ A) (x0 : Source) (x1 : ℕ) (x2 : Bool) (h : Keeps A s0 s) : KeepsR A s0 (execAbsentUnitAccess x0 x1 x2 s) := by
  unfold execAbsentUnitAccess
  try dsimp only
  repeat' first | intro _ | with_reducible assumption | with_reducible apply KeepsR.ite | with_reducible apply Keeps.ite | with_reducible apply KeepsR.of_next | with_reducible apply keeps_State_absent (subParts hA rfl) | with_reducible apply keeps_onAddr (subParts hA rfl) | with_reducible apply Keeps.upd_readData (subParts hA rfl)

theorem keeps_State_draw {A : List Part} {s0 s : State} (hA : [.free] ⊆ A)  (h : Keeps A s0 s) : Keeps A s0 (State.draw s).2 := by
  unfold State.draw
  try dsimp only
  repeat' first | intro _ | with_reducible assumption | split | with_reducible apply Keeps.upd_free (subParts hA rfl)

theorem keeps_State_linkLost {A : List Part} {s0 s : State} (hA : [.regs, .pci, .free] ⊆ A)  (h : Keeps A s0 s) : Keeps A s0 (State.linkLost s) := by
  unfold State.linkLost
  try dsimp only
  repeat' first | intro _ | with_reducible assumption | with_reducible apply keeps_State_setReg (subParts hA rfl) | with_reducible apply keeps_State_setFld (subParts hA rfl) | with_reducible apply keeps_State_draw (subParts hA rfl) | split | with_reducible apply Keeps.upd_pci (subParts hA rfl) | (refine Keeps.pair (by assumption) ?_)

theorem keeps_State_modDc {A : List Part} {s0 s : State} (hA : [.dma] ⊆ A) (x1 : ℕ) (x2 : DmaCh → DmaCh) (h : Keeps A s0 s) : Keeps A s0 (State.modDc s x1 x2) := by
  unfold State.modDc
  try dsimp only
  repeat' first | intro _ | with_reducible assumption | with_reducible apply Keeps.upd_dma (subParts hA rfl) | exact tabWf_tabSet _ _ _ _ (canon_dma (by assumption)) | with_reducible rfl | rfl

theorem keeps_State_setDmaState {A : List Part} {s0 s : State} (hA : [.regs] ⊆ A) (x1 : ℕ) (x2 : ℕ) (h : Keeps A s0 s) : Keeps A s0 (State.setDmaState s x1 x2) := by
  unfold State.setDmaState
  try dsimp only
  repeat' first | intro _ | with_reducible assumption | with_reducible apply keeps_State_setFld (subParts hA rfl)

theorem keeps_State_dmaError {A : List Part} {s0 s : State} (hA : [.regs, .dma, .pci, .out] ⊆ A) (x1 : ℕ) (x2 : ℕ) (h : Keeps A s0 s) : Keeps A s0 (State.dmaError s x1 x2) := by
  unfold State.dmaError
  try dsimp only
  repeat' first | intro _ | with_reducible assumption | with_reducible apply keeps_State_setFld (subParts hA rfl) | with_reducible apply keeps_State_raiseBit (subParts hA rfl) | with_reducible apply keeps_State_modDc (subParts hA rfl) | with_reducible apply keeps_State_setDmaState (subParts hA rfl)

theorem keeps_State_dmaRelease {A : List Part} {s0 s : State} (hA : [.regs, .dram, .pci, .ddr, .out] ⊆ A) (x1 : ℕ) (x2 : DmaDesc) (h : Keeps A s0 s) : Keeps A s0 (State.dmaRelease s x1 x2) := by
  unfold State.dmaRelease
  try dsimp only
  repeat' first | intro _ | with_reducible assumption | with_reducible apply Keeps.ite | with_reducible apply keeps_State_writeDram (subParts hA rfl) | with_reducible apply keeps_State_emit (subParts hA rfl) | with_reducible apply keeps_State_raiseBit (subParts hA rfl)

theorem keeps_State_dmaNext {A : List Part} {s0 s : State} (hA : [.regs, .dram, .dma, .pci, .ddr, .out] ⊆ A) (x0 : ℕ) (x1 : List DmaDesc) (h : Keeps A s0 s) : Keeps A s0 (State.dmaNext x0 x1 s) := by
  induction x1 generalizing s  with
  | nil =>
    unfold State.dmaNext
    try dsimp only
    repeat' first | intro _ | with_reducible assumption | with_reducible apply Keeps.ite | (with_reducible apply keeps_State_setFld (subParts hA (by decide))) | (with_reducible apply keeps_State_modDc (subParts hA (by decide))) | (with_reducible apply keeps_State_dmaError (subParts hA (by decide))) | (with_reducible apply keeps_State_dmaRelease (subParts hA (by decide))) | split | (refine Keeps.pair (by assumption) ?_)
  | cons r l ih =>
    unfold State.dmaNext
    try dsimp only
    repeat' first | intro _ | with_reducible assumption | with_reducible apply ih | with_reducible apply Keeps.ite | (with_reducible apply keeps_State_setFld (subParts hA (by decide))) | (with_reducible apply keeps_State_modDc (subParts hA (by decide))) | (with_reducible apply keeps_State_dmaError (subParts hA (by decide))) | (with_reducible apply keeps_State_dmaRelease (subParts hA (by decide))) | split | (refine Keeps.pair (by assumption) ?_)

theorem keeps_State_dmaFinish {A : List Part} {s0 s : State} (hA : [.regs, .dram, .dma, .pci, .ddr, .out] ⊆ A) (x1 : ℕ) (x2 : DmaDesc) (h : Keeps A s0 s) : Keeps A s0 (State.dmaFinish s x1 x2) := by
  unfold State.dmaFinish
  try dsimp only
  repeat' first | intro _ | with_reducible assumption | with_reducible apply Keeps.ite | with_reducible apply keeps_State_modDc (subParts hA rfl) | with_reducible apply keeps_State_setDmaState (subParts hA rfl) | with_reducible apply keeps_State_dmaError (subParts hA rfl) | with_reducible apply keeps_State_dmaRelease (subParts hA rfl) | with_reducible apply keeps_State_dmaNext (subParts hA rfl)

theorem keeps_State_dmaAbort {A : List Part} {s0 s : State} (hA : [.regs, .dram, .dma, .pci, .ddr, .out] ⊆ A) (x1 : ℕ) (h : Keeps A s0 s) : Keeps A s0 (State.dmaAbort s x1) := by
  unfold State.dmaAbort
  try dsimp only
  repeat' first | intro _ | with_reducible assumption | with_reducible apply Keeps.ite | with_reducible apply keeps_State_modDc (subParts hA rfl) | with_reducible apply keeps_State_dmaFinish (subParts hA rfl) | split

theorem keeps_State_dmaAbortAll {A : List Part} {s0 s : State} (hA : [.regs, .dram, .dma, .pci, .ddr, .out] ⊆ A)  (h : Keeps A s0 s) : Keeps A s0 (State.dmaAbortAll s) := by
  unfold State.dmaAbortAll
  try dsimp only
  repeat' first | intro _ | with_reducible assumption | with_reducible apply Keeps.each | with_reducible apply keeps_State_dmaAbort (subParts hA rfl)

theorem keeps_State_dmaOwe {A : List Part} {s0 s : State} (hA : [.pci] ⊆ A)  (h : Keeps A s0 s) : Keeps A s0 (State.dmaOwe s) := by
  unfold State.dmaOwe
  try dsimp only
  repeat' first | intro _ | with_reducible assumption | with_reducible apply Keeps.ite | with_reducible apply Keeps.each | split | with_reducible apply Keeps.upd_pci (subParts hA rfl)

theorem keeps_State_resetDma {A : List Part} {s0 s : State} (hA : [.regs, .dram, .dma, .dmaEng, .pci, .ddr, .out] ⊆ A) (x1 : Access → Bool) (h : Keeps A s0 s) : Keeps A s0 (State.resetDma s x1) := by
  unfold State.resetDma
  try dsimp only
  repeat' first | intro _ | with_reducible assumption | with_reducible apply keeps_State_resetRegs (subParts hA rfl) | with_reducible apply keeps_State_dmaAbortAll (subParts hA rfl) | with_reducible apply keeps_State_dmaOwe (subParts hA rfl) | with_reducible apply Keeps.upd_dma_dmaEng (subParts hA rfl) | with_reducible apply Keeps.upd_dma (subParts hA rfl) | with_reducible apply Keeps.upd_dmaEng (subParts hA rfl) | exact tabWf_tabSet _ _ _ _ (canon_dma (by assumption)) | with_reducible rfl | rfl

theorem keeps_State_clearWords {A : List Part} {s0 s : State} (hA : [.regs] ⊆ A) (x1 : ℕ) (x2 : ℕ) (h : Keeps A s0 s) : Keeps A s0 (State.clearWords s x1 x2) := by
  unfold State.clearWords
  try dsimp only
  repeat' first | intro _ | with_reducible assumption | with_reducible apply Keeps.upd_regs (subParts hA rfl) | exact tabWf_filter _ _ _ (canon_regs (by assumption)) | exact tabWf_tabSet _ _ _ _ (canon_regs (by assumption)) | with_reducible rfl | rfl

theorem keeps_State_resetPci {A : List Part} {s0 s : State} (hA : [.regs, .pci] ⊆ A) (x1 : Access → Bool) (h : Keeps A s0 s) : Keeps A s0 (State.resetPci s x1) := by
  unfold State.resetPci
  try dsimp only
  repeat' first | intro _ | with_reducible assumption | with_reducible apply keeps_State_setReg (subParts hA rfl) | with_reducible apply keeps_State_resetRegs (subParts hA rfl) | with_reducible apply keeps_State_clearWords (subParts hA rfl) | with_reducible apply Keeps.upd_pci (subParts hA rfl)

theorem keeps_State_pciFundamental {A : List Part} {s0 s : State} (hA : [.regs, .dram, .dma, .dmaEng, .pci, .ddr, .free, .out] ⊆ A)  (h : Keeps A s0 s) : Keeps A s0 (State.pciFundamental s) := by
  unfold State.pciFundamental
  try dsimp only
  repeat' first | intro _ | with_reducible assumption | with_reducible apply keeps_State_linkLost (subParts hA rfl) | with_reducible apply keeps_State_resetDma (subParts hA rfl) | with_reducible apply keeps_State_resetPci (subParts hA rfl)

theorem keeps_State_readServe {A : List Part} {s0 s : State} (hA : [.dma, .dmaEng, .out] ⊆ A) (x1 : ℕ) (h : Keeps A s0 s) : Keeps A s0 (State.readServe s x1) := by
  unfold State.readServe
  try dsimp only
  repeat' first | intro _ | with_reducible assumption | with_reducible apply Keeps.ite | with_reducible apply Keeps.foldl | with_reducible apply keeps_State_emit (subParts hA rfl) | with_reducible apply keeps_State_modDc (subParts hA rfl) | split | with_reducible apply Keeps.upd_dmaEng (subParts hA rfl)

theorem keeps_State_readEngine {A : List Part} {s0 s : State} (hA : [.dma, .dmaEng, .out] ⊆ A) (x0 : ℕ) (h : Keeps A s0 s) : Keeps A s0 (State.readEngine x0 s) := by
  induction x0 generalizing s  with
  | zero =>
    unfold State.readEngine
    try dsimp only
    repeat' first | intro _ | with_reducible assumption | with_reducible apply Keeps.ite | (with_reducible apply keeps_State_readServe (subParts hA (by decide))) | split | (refine Keeps.pair (by assumption) ?_)
  | succ k ih =>
    unfold State.readEngine
    try dsimp only
    repeat' first | intro _ | with_reducible assumption | with_reducible apply ih | with_reducible apply Keeps.ite | (with_reducible apply keeps_State_readServe (subParts hA (by decide))) | split | (refine Keeps.pair (by assumption) ?_)

theorem keeps_onUnitWrite {A : List Part} {s0 s : State} (hA : [.regs] ⊆ A) (x0 : ℕ) (x1 : ℕ) (x2 : ℕ) (x3 : ℕ) (x5 : State → State) (hf : ∀ (a0 : State), Keeps A s0 a0 → Keeps A s0 (x5 a0)) (h : Keeps A s0 s) : KeepsR A s0 (onUnitWrite x0 x1 x2 x3 s x5) := by
  unfold onUnitWrite
  try dsimp only
  repeat' first | intro _ | with_reducible assumption | with_reducible apply hf | with_reducible apply KeepsR.ite | with_reducible apply Keeps.ite | with_reducible apply KeepsR.of_next | with_reducible exact KeepsR.fault _ | with_reducible apply keeps_State_absent (subParts hA rfl)

theorem keeps_onDmaWrite {A : List Part} {s0 s : State} (hA : [.regs, .dma, .dmaEng, .out] ⊆ A) (x0 : ℕ) (x1 : ℕ) (x3 : State → State) (hf : ∀ (a0 : State), Keeps A s0 a0 → Keeps A s0 (x3 a0)) (h : Keeps A s0 s) : KeepsR A s0 (onDmaWrite x0 x1 s x3) := by
  unfold onDmaWrite
  try dsimp only
  repeat' first | intro _ | with_reducible assumption | with_reducible apply hf | with_reducible apply KeepsR.of_next | with_reducible apply keeps_State_readEngine (subParts hA rfl) | with_reducible apply keeps_onUnitWrite (subParts hA rfl)

theorem keeps_execDmaDoorbell {A : List Part} {s0 s : State} (hA : [.regs, .dma, .dmaEng, .out] ⊆ A) (x0 : ℕ) (x1 : Word) (h : Keeps A s0 s) : KeepsR A s0 (execDmaDoorbell x0 x1 s) := by
  unfold execDmaDoorbell
  try dsimp only
  repeat' first | intro _ | with_reducible assumption | with_reducible apply KeepsR.ite | with_reducible apply Keeps.ite | with_reducible apply KeepsR.of_next | with_reducible apply keeps_State_setFld (subParts hA rfl) | with_reducible apply keeps_State_setDmaState (subParts hA rfl) | with_reducible apply keeps_onDmaWrite (subParts hA rfl)

theorem keeps_State_setSfld {A : List Part} {s0 s : State} (hA : [.regs] ⊆ A) (x1 : ℕ) (x2 : Field) (x3 : ℤ) (h : Keeps A s0 s) : Keeps A s0 (State.setSfld s x1 x2 x3) := by
  unfold State.setSfld
  try dsimp only
  repeat' first | intro _ | with_reducible assumption | with_reducible apply keeps_State_setFld (subParts hA rfl)

theorem keeps_State_resetCal {A : List Part} {s0 s : State} (hA : [.regs, .cal] ⊆ A) (x1 : Access → Bool) (h : Keeps A s0 s) : Keeps A s0 (State.resetCal s x1) := by
  unfold State.resetCal
  try dsimp only
  repeat' first | intro _ | with_reducible assumption | with_reducible apply keeps_State_resetRegs (subParts hA rfl) | with_reducible apply Keeps.upd_cal (subParts hA rfl) | exact tabWf_tabSet _ _ _ _ (canon_cal (by assumption)) | with_reducible rfl | rfl

theorem keeps_execCalBlockReset {A : List Part} {s0 s : State} (hA : [.regs, .cal] ⊆ A)  (h : Keeps A s0 s) : KeepsR A s0 (execCalBlockReset s) := by
  unfold execCalBlockReset
  try dsimp only
  repeat' first | intro _ | with_reducible assumption | with_reducible apply KeepsR.of_next | with_reducible apply keeps_State_resetCal (subParts hA rfl)

theorem keeps_State_owe {A : List Part} {s0 s : State} (hA : [.port] ⊆ A) (x1 : ℕ) (x2 : Packet) (h : Keeps A s0 s) : Keeps A s0 (State.owe s x1 x2) := by
  unfold State.owe
  try dsimp only
  repeat' first | intro _ | with_reducible assumption | with_reducible apply Keeps.ite | with_reducible apply keeps_State_modPt (subParts hA rfl)

theorem keeps_State_rxBroadcast {A : List Part} {s0 s : State} (hA : [.hoop, .port] ⊆ A) (x1 : ℕ) (x2 : Packet) (h : Keeps A s0 s) : Keeps A s0 (State.rxBroadcast s x1 x2).2 := by
  unfold State.rxBroadcast
  try dsimp only
  repeat' first | intro _ | with_reducible assumption | with_reducible apply Keeps.ite | with_reducible apply keeps_State_flood (subParts hA rfl) | with_reducible apply keeps_State_owe (subParts hA rfl) | split | with_reducible apply Keeps.upd_hoop (subParts hA rfl)

theorem keeps_State_noRoute {A : List Part} {s0 s : State} (hA : [.regs, .pci, .out] ⊆ A)  (h : Keeps A s0 s) : Keeps A s0 (State.noRoute s) := by
  unfold State.noRoute
  try dsimp only
  repeat' first | intro _ | with_reducible assumption | with_reducible apply keeps_State_raise (subParts hA rfl) | with_reducible apply keeps_State_satAdd (subParts hA rfl)

theorem keeps_State_hopsOut {A : List Part} {s0 s : State} (hA : [.regs] ⊆ A)  (h : Keeps A s0 s) : Keeps A s0 (State.hopsOut s) := by
  unfold State.hopsOut
  try dsimp only
  repeat' first | intro _ | with_reducible assumption | with_reducible apply keeps_State_satAdd (subParts hA rfl)

theorem keeps_State_forward {A : List Part} {s0 s : State} (hA : [.regs, .port, .pci, .out] ⊆ A) (x1 : Packet) (h : Keeps A s0 s) : Keeps A s0 (State.forward s x1) := by
  unfold State.forward
  try dsimp only
  repeat' first | intro _ | with_reducible assumption | with_reducible apply Keeps.ite | with_reducible apply keeps_State_raise (subParts hA rfl) | with_reducible apply keeps_State_enqueue (subParts hA rfl) | with_reducible apply keeps_State_noRoute (subParts hA rfl) | with_reducible apply keeps_State_hopsOut (subParts hA rfl) | split

theorem keeps_State_receive {A : List Part} {s0 s : State} (hA : [.regs, .hoop, .port, .pci, .out] ⊆ A) (x1 : ℕ) (x2 : Packet) (x3 : State → State) (hf : ∀ (a0 : State), Keeps A s0 a0 → Keeps A s0 (x3 a0)) (h : Keeps A s0 s) : Keeps A s0 (State.receive s x1 x2 x3) := by
  unfold State.receive
  try dsimp only
  repeat' first | intro _ | with_reducible assumption | with_reducible apply hf | with_reducible apply Keeps.ite | with_reducible apply keeps_State_owe (subParts hA rfl) | with_reducible apply keeps_State_rxBroadcast (subParts hA rfl) | with_reducible apply keeps_State_forward (subParts hA rfl) | split | (refine Keeps.pair (by assumption) ?_)

theorem keeps_State_unicast {A : List Part} {s0 s : State} (hA : [.regs, .hoop, .port, .pci, .out] ⊆ A) (x1 : ℕ) (x2 : ℕ) (x3 : ℕ) (x4 : List Byte) (h : Keeps A s0 s) : Keeps A s0 (State.unicast s x1 x2 x3 x4).2 := by
  unfold State.unicast
  try dsimp only
  repeat' first | intro _ | with_reducible assumption | with_reducible apply keeps_State_enqueue (subParts hA rfl) | with_reducible apply keeps_State_nextSeq (subParts hA rfl) | with_reducible apply keeps_State_noRoute (subParts hA rfl) | split | (refine Keeps.pair (by assumption) ?_)

theorem keeps_State_bulkAck {A : List Part} {s0 s : State} (hA : [.regs, .hoop, .port, .pci, .out] ⊆ A) (x1 : ℕ) (x2 : ℕ) (x3 : ℕ) (x4 : ℕ) (x5 : ℕ) (h : Keeps A s0 s) : Keeps A s0 (State.bulkAck s x1 x2 x3 x4 x5) := by
  unfold State.bulkAck
  try dsimp only
  repeat' first | intro _ | with_reducible assumption | with_reducible apply keeps_State_unicast (subParts hA rfl) | split | (refine Keeps.pair (by assumption) ?_)

theorem keeps_State_bulkExpect {A : List Part} {s0 s : State} (hA : [.hoop] ⊆ A) (x1 : ℕ) (x2 : ℕ) (x3 : ℕ) (h : Keeps A s0 s) : Keeps A s0 (State.bulkExpect s x1 x2 x3) := by
  unfold State.bulkExpect
  try dsimp only
  repeat' first | intro _ | with_reducible assumption | with_reducible apply Keeps.upd_hoop (subParts hA rfl)

theorem keeps_State_bulkTake {A : List Part} {s0 s : State} (hA : [.regs, .dram, .hoop, .port, .pci, .ddr, .out] ⊆ A) (x1 : Packet) (h : Keeps A s0 s) : Keeps A s0 (State.bulkTake s x1) := by
  unfold State.bulkTake
  try dsimp only
  repeat' first | intro _ | with_reducible assumption | with_reducible apply Keeps.ite | with_reducible apply keeps_State_writeDram (subParts hA rfl) | with_reducible apply keeps_State_bulkAck (subParts hA rfl) | with_reducible apply keeps_State_bulkExpect (subParts hA rfl)

theorem keeps_onUnit {A : List Part} {s0 s : State} (hA : ([] : List Part) ⊆ A) (x0 : ℕ) (x1 : ℕ) (x2 : ℕ) (x4 : State → State) (hf : ∀ (a0 : State), Keeps A s0 a0 → Keeps A s0 (x4 a0)) (h : Keeps A s0 s) : KeepsR A s0 (onUnit x0 x1 x2 s x4) := by
  unfold onUnit
  try dsimp only
  repeat' first | intro _ | with_reducible assumption | with_reducible apply hf | with_reducible apply KeepsR.ite | with_reducible apply Keeps.ite | with_reducible apply KeepsR.of_next | with_reducible exact KeepsR.fault _

theorem keeps_execBulkReceived {A : List Part} {s0 s : State} (hA : [.regs, .dram, .hoop, .port, .pci, .ddr, .out] ⊆ A) (x0 : ℕ) (x1 : Packet) (h : Keeps A s0 s) : KeepsR A s0 (execBulkReceived x0 x1 s) := by
  unfold execBulkReceived
  try dsimp only
  repeat' first | intro _ | with_reducible assumption | with_reducible apply KeepsR.ite | with_reducible apply Keeps.ite | with_reducible apply KeepsR.of_next | with_reducible apply keeps_State_receive (subParts hA rfl) | with_reducible apply keeps_State_bulkTake (subParts hA rfl) | with_reducible apply keeps_onUnit (subParts hA rfl)

theorem keeps_State_tokenDrop {A : List Part} {s0 s : State} (hA : [.regs, .pci, .out] ⊆ A) (x1 : Bool) (h : Keeps A s0 s) : Keeps A s0 (State.tokenDrop s x1) := by
  unfold State.tokenDrop
  try dsimp only
  repeat' first | intro _ | with_reducible assumption | with_reducible apply Keeps.ite | with_reducible apply keeps_State_raise (subParts hA rfl) | with_reducible apply keeps_State_satAdd (subParts hA rfl)

theorem keeps_irqWritten {A : List Part} {s0 s : State} (hA : [.pci, .out] ⊆ A) (x0 : List IrqRow) (h : Keeps A s0 s) : Keeps A s0 (irqWritten x0 s) := by
  induction x0 generalizing s  with
  | nil =>
    unfold irqWritten
    try dsimp only
    repeat' first | intro _ | with_reducible assumption | with_reducible apply Keeps.ite | (with_reducible apply keeps_State_clearVec (subParts hA (by decide))) | (with_reducible apply keeps_State_sendVec (subParts hA (by decide))) | split | (refine Keeps.pair (by assumption) ?_)
  | cons r l ih =>
    unfold irqWritten
    try dsimp only
    repeat' first | intro _ | with_reducible assumption | with_reducible apply ih | with_reducible apply Keeps.ite | (with_reducible apply keeps_State_clearVec (subParts hA (by decide))) | (with_reducible apply keeps_State_sendVec (subParts hA (by decide))) | split | (refine Keeps.pair (by assumption) ?_)

theorem keeps_execBist {A : List Part} {s0 s : State} (hA : [.regs, .pci, .out] ⊆ A)  (h : Keeps A s0 s) : KeepsR A s0 (execBist s) := by
  unfold execBist
  try dsimp only
  repeat' first | intro _ | with_reducible assumption | with_reducible apply KeepsR.ite | with_reducible apply Keeps.ite | with_reducible apply KeepsR.of_next | with_reducible apply keeps_State_raise (subParts hA rfl) | with_reducible apply keeps_State_setFlag (subParts hA rfl)

theorem keeps_State_initStart {A : List Part} {s0 s : State} (hA : [.regs] ⊆ A)  (h : Keeps A s0 s) : Keeps A s0 (State.initStart s) := by
  unfold State.initStart
  try dsimp only
  repeat' first | intro _ | with_reducible assumption | with_reducible apply keeps_State_setFlag (subParts hA rfl)

theorem keeps_execDdrInit {A : List Part} {s0 s : State} (hA : [.regs] ⊆ A)  (h : Keeps A s0 s) : KeepsR A s0 (execDdrInit s) := by
  unfold execDdrInit
  try dsimp only
  repeat' first | intro _ | with_reducible assumption | with_reducible apply KeepsR.of_next | with_reducible apply keeps_State_initStart (subParts hA rfl)

theorem keeps_State_trip {A : List Part} {s0 s : State} (hA : [.regs, .dram, .grp, .srvAx, .srvCh, .lsr, .pci, .ddr, .out] ⊆ A) (x1 : ℕ) (x2 : V3) (x3 : ℕ) (x4 : Bool) (h : Keeps A s0 s) : Keeps A s0 (State.trip s x1 x2 x3 x4) := by
  unfold State.trip
  try dsimp only
  repeat' first | intro _ | with_reducible assumption | with_reducible apply Keeps.ite | with_reducible apply Keeps.each | with_reducible apply keeps_State_raise (subParts hA rfl) | with_reducible apply keeps_State_satAdd (subParts hA rfl) | with_reducible apply keeps_State_post (subParts hA rfl) | with_reducible apply keeps_State_modSc (subParts hA rfl) | with_reducible apply keeps_State_setFlag (subParts hA rfl) | with_reducible apply keeps_State_lapse (subParts hA rfl) | with_reducible apply keeps_State_freezeChan (subParts hA rfl) | split

theorem keeps_State_resetSrv {A : List Part} {s0 s : State} (hA : [.regs, .srvAx, .srvCh, .srv] ⊆ A) (x1 : Access → Bool) (h : Keeps A s0 s) : Keeps A s0 (State.resetSrv s x1) := by
  unfold State.resetSrv
  try dsimp only
  repeat' first | intro _ | with_reducible assumption | with_reducible apply keeps_State_resetRegs (subParts hA rfl) | with_reducible apply Keeps.upd_srvAx_srvCh_srv (subParts hA rfl) | with_reducible apply Keeps.upd_srvAx (subParts hA rfl) | with_reducible apply Keeps.upd_srvCh (subParts hA rfl) | with_reducible apply Keeps.upd_srv (subParts hA rfl) | exact tabWf_tabSet _ _ _ _ (canon_srvAx (by assumption)) | exact tabWf_tabSet _ _ _ _ (canon_srvCh (by assumption)) | with_reducible rfl | rfl

theorem keeps_execSrvBlockReset {A : List Part} {s0 s : State} (hA : [.regs, .dram, .grp, .chan, .srvAx, .srvCh, .srv, .lsr, .hoop, .port, .head, .pci, .ddr, .cave, .xbar, .out] ⊆ A)  (h : Keeps A s0 s) : KeepsR A s0 (execSrvBlockReset s) := by
  unfold execSrvBlockReset
  try dsimp only
  repeat' first | intro _ | with_reducible assumption | with_reducible apply KeepsR.of_next | with_reducible apply keeps_State_namedReset (subParts hA rfl) | with_reducible apply keeps_State_resetSrv (subParts hA rfl)

theorem keeps_State_modEt {A : List Part} {s0 s : State} (hA : [.eth] ⊆ A) (x1 : ℕ) (x2 : EthPort → EthPort) (h : Keeps A s0 s) : Keeps A s0 (State.modEt s x1 x2) := by
  unfold State.modEt
  try dsimp only
  repeat' first | intro _ | with_reducible assumption | with_reducible apply Keeps.upd_eth (subParts hA rfl) | exact tabWf_tabSet _ _ _ _ (canon_eth (by assumption)) | with_reducible rfl | rfl

theorem keeps_execEthI2cDone {A : List Part} {s0 s : State} (hA : [.regs, .eth] ⊆ A) (x0 : ℕ) (x1 : ℕ) (x2 : Word) (h : Keeps A s0 s) : KeepsR A s0 (execEthI2cDone x0 x1 x2 s) := by
  unfold execEthI2cDone
  try dsimp only
  repeat' first | intro _ | with_reducible assumption | with_reducible apply KeepsR.ite | with_reducible apply Keeps.ite | with_reducible apply KeepsR.of_next | with_reducible apply keeps_State_setReg (subParts hA rfl) | with_reducible apply keeps_State_setFld (subParts hA rfl) | with_reducible apply keeps_State_setFlag (subParts hA rfl) | with_reducible apply keeps_onUnit (subParts hA rfl) | with_reducible apply keeps_State_modEt (subParts hA rfl) | split

theorem keeps_State_armManual {A : List Part} {s0 s : State} (hA : [.lsr] ⊆ A) (x1 : ℕ) (h : Keeps A s0 s) : Keeps A s0 (State.armManual s x1) := by
  unfold State.armManual
  try dsimp only
  repeat' first | intro _ | with_reducible assumption | with_reducible apply Keeps.ite | with_reducible apply keeps_State_modLs (subParts hA rfl)

theorem keeps_State_logRequestsGone {A : List Part} {s0 s : State} (hA : [.ddr] ⊆ A)  (h : Keeps A s0 s) : Keeps A s0 (State.logRequestsGone s) := by
  unfold State.logRequestsGone
  try dsimp only
  repeat' first | intro _ | with_reducible assumption | with_reducible apply Keeps.upd_ddr (subParts hA rfl)

theorem keeps_State_loopsLost {A : List Part} {s0 s : State} (hA : [.lsr, .ddr] ⊆ A)  (h : Keeps A s0 s) : Keeps A s0 (State.loopsLost s) := by
  unfold State.loopsLost
  try dsimp only
  repeat' first | intro _ | with_reducible assumption | with_reducible apply keeps_State_logRequestsGone (subParts hA rfl) | with_reducible apply Keeps.upd_lsr (subParts hA rfl) | exact tabWf_tabSet _ _ _ _ (canon_lsr (by assumption)) | with_reducible rfl | rfl

theorem keeps_execBroadcastRepeat {A : List Part} {s0 s : State} (hA : [.hoop, .port] ⊆ A)  (h : Keeps A s0 s) : KeepsR A s0 (execBroadcastRepeat s) := by
  unfold execBroadcastRepeat
  try dsimp only
  repeat' first | intro _ | with_reducible assumption | with_reducible apply KeepsR.of_next | with_reducible apply Keeps.foldl | with_reducible apply keeps_State_flood (subParts hA rfl) | with_reducible apply Keeps.upd_hoop (subParts hA rfl)

theorem keeps_execLinkDown {A : List Part} {s0 s : State} (hA : [.regs, .dram, .dma, .dmaEng, .pci, .ddr, .free, .out] ⊆ A)  (h : Keeps A s0 s) : KeepsR A s0 (execLinkDown s) := by
  unfold execLinkDown
  try dsimp only
  repeat' first | intro _ | with_reducible assumption | with_reducible apply KeepsR.of_next | with_reducible apply keeps_State_raise (subParts hA rfl) | with_reducible apply keeps_State_linkLost (subParts hA rfl) | with_reducible apply keeps_State_dmaAbortAll (subParts hA rfl) | with_reducible apply keeps_State_readEngine (subParts hA rfl)

theorem keeps_State_setDomain {A : List Part} {s0 s : State} (hA : [.regs, .pci, .out] ⊆ A) (x1 : ℕ) (x2 : ℕ) (h : Keeps A s0 s) : Keeps A s0 (State.setDomain s x1 x2) := by
  unfold State.setDomain
  try dsimp only
  repeat' first | intro _ | with_reducible assumption | with_reducible apply Keeps.ite | with_reducible apply keeps_State_setFld (subParts hA rfl) | with_reducible apply keeps_State_raise (subParts hA rfl)

theorem keeps_State_lockSample {A : List Part} {s0 s : State} (hA : [.regs, .dom, .pci, .out] ⊆ A) (x1 : ℕ) (x2 : ℤ) (h : Keeps A s0 s) : Keeps A s0 (State.lockSample s x1 x2) := by
  unfold State.lockSample
  try dsimp only
  repeat' first | intro _ | with_reducible assumption | with_reducible apply Keeps.ite | with_reducible apply keeps_State_modDm (subParts hA rfl) | with_reducible apply keeps_State_setDomain (subParts hA rfl)

theorem keeps_State_stepTime {A : List Part} {s0 s : State} (hA : [.time] ⊆ A) (x1 : ℤ) (h : Keeps A s0 s) : Keeps A s0 (State.stepTime s x1) := by
  unfold State.stepTime
  try dsimp only
  repeat' first | intro _ | with_reducible assumption | with_reducible apply Keeps.upd_time (subParts hA rfl)

theorem keeps_State_sample {A : List Part} {s0 s : State} (hA : [.regs, .dom, .time, .pci, .out] ⊆ A) (x1 : ℕ) (x2 : ℤ) (h : Keeps A s0 s) : Keeps A s0 (State.sample s x1 x2) := by
  unfold State.sample
  try dsimp only
  repeat' first | intro _ | with_reducible assumption | with_reducible apply Keeps.ite | with_reducible apply keeps_State_raise (subParts hA rfl) | with_reducible apply keeps_State_modDm (subParts hA rfl) | with_reducible apply keeps_State_setSfld (subParts hA rfl) | with_reducible apply keeps_State_setDomain (subParts hA rfl) | with_reducible apply keeps_State_lockSample (subParts hA rfl) | with_reducible apply keeps_State_stepTime (subParts hA rfl)

theorem keeps_onLaneWrite {A : List Part} {s0 s : State} (hA : [.regs] ⊆ A) (x0 : ℕ) (x1 : ℕ) (x3 : State → State) (hf : ∀ (a0 : State), Keeps A s0 a0 → Keeps A s0 (x3 a0)) (h : Keeps A s0 s) : KeepsR A s0 (onLaneWrite x0 x1 s x3) := by
  unfold onLaneWrite
  try dsimp only
  repeat' first | intro _ | with_reducible assumption | with_reducible apply hf | with_reducible apply KeepsR.ite | with_reducible apply Keeps.ite | with_reducible apply KeepsR.of_next | with_reducible exact KeepsR.fault _ | with_reducible apply keeps_State_absent (subParts hA rfl)

theorem keeps_execInj1 {A : List Part} {s0 s : State} (hA : [.regs, .lane] ⊆ A) (x0 : ℕ) (h : Keeps A s0 s) : KeepsR A s0 (execInj1 x0 s) := by
  unfold execInj1
  try dsimp only
  repeat' first | intro _ | with_reducible assumption | with_reducible apply KeepsR.of_next | with_reducible apply keeps_State_modLn (subParts hA rfl) | with_reducible apply keeps_onLaneWrite (subParts hA rfl)

theorem keeps_State_storeLgtCtl {A : List Part} {s0 s : State} (hA : [.regs, .pci, .out] ⊆ A) (x1 : Word) (h : Keeps A s0 s) : Keeps A s0 (State.storeLgtCtl s x1) := by
  unfold State.storeLgtCtl
  try dsimp only
  repeat' first | intro _ | with_reducible assumption | with_reducible apply Keeps.ite | with_reducible apply keeps_State_setReg (subParts hA rfl) | with_reducible apply keeps_State_raise (subParts hA rfl)

theorem keeps_execLgtDisable {A : List Part} {s0 s : State} (hA : [.regs, .lgt, .strobe, .pci, .pwr, .out] ⊆ A) (x0 : Word) (h : Keeps A s0 s) : KeepsR A s0 (execLgtDisable x0 s) := by
  unfold execLgtDisable
  try dsimp only
  repeat' first | intro _ | with_reducible assumption | with_reducible apply KeepsR.of_next | with_reducible apply keeps_onLight (subParts hA rfl) | with_reducible apply keeps_State_lightOff (subParts hA rfl) | with_reducible apply keeps_State_storeLgtCtl (subParts hA rfl)

theorem keeps_State_intgRecord {A : List Part} {s0 s : State} (hA : [.regs, .dram, .grp, .pci, .ddr, .intg, .out] ⊆ A) (x1 : ℕ) (x2 : ℕ) (x3 : ℕ) (x4 : ℕ) (h : Keeps A s0 s) : Keeps A s0 (State.intgRecord s x1 x2 x3 x4) := by
  unfold State.intgRecord
  try dsimp only
  repeat' first | intro _ | with_reducible assumption | with_reducible apply Keeps.ite | with_reducible apply keeps_State_satAdd (subParts hA rfl) | with_reducible apply keeps_State_post (subParts hA rfl) | with_reducible apply Keeps.upd_intg (subParts hA rfl)

theorem keeps_State_intgLast {A : List Part} {s0 s : State} (hA : [.regs] ⊆ A) (x1 : ℕ) (x2 : ℕ) (x3 : ℕ) (h : Keeps A s0 s) : Keeps A s0 (State.intgLast s x1 x2 x3) := by
  unfold State.intgLast
  try dsimp only
  repeat' first | intro _ | with_reducible assumption | with_reducible apply keeps_State_setReg (subParts hA rfl)

theorem keeps_State_detectUe {A : List Part} {s0 s : State} (hA : [.regs, .dram, .grp, .pci, .ddr, .intg, .out] ⊆ A) (x1 : ℕ) (x2 : ℕ) (x3 : ℕ) (x4 : ℕ) (h : Keeps A s0 s) : Keeps A s0 (State.detectUe s x1 x2 x3 x4) := by
  unfold State.detectUe
  try dsimp only
  repeat' first | intro _ | with_reducible assumption | with_reducible apply keeps_State_raise (subParts hA rfl) | with_reducible apply keeps_State_satAdd (subParts hA rfl) | with_reducible apply keeps_State_intgRecord (subParts hA rfl) | with_reducible apply keeps_State_intgLast (subParts hA rfl)

theorem keeps_State_hiddenUe {A : List Part} {s0 s : State} (hA : [.regs, .dram, .grp, .pci, .ddr, .intg, .out] ⊆ A) (x1 : ℕ) (x2 : ℕ) (x3 : ℕ) (h : Keeps A s0 s) : Keeps A s0 (State.hiddenUe s x1 x2 x3).2 := by
  unfold State.hiddenUe
  try dsimp only
  repeat' first | intro _ | with_reducible assumption | with_reducible apply keeps_State_detectUe (subParts hA rfl) | split | with_reducible apply Keeps.upd_intg (subParts hA rfl)

theorem keeps_State_modBk {A : List Part} {s0 s : State} (hA : [.bulk] ⊆ A) (x1 : ℕ) (x2 : BulkTx → BulkTx) (h : Keeps A s0 s) : Keeps A s0 (State.modBk s x1 x2) := by
  unfold State.modBk
  try dsimp only
  repeat' first | intro _ | with_reducible assumption | with_reducible apply Keeps.upd_bulk (subParts hA rfl) | exact tabWf_tabSet _ _ _ _ (canon_bulk (by assumption)) | with_reducible rfl | rfl

theorem keeps_State_bulkEnd {A : List Part} {s0 s : State} (hA : [.regs, .bulk, .pci, .out] ⊆ A) (x1 : ℕ) (x2 : ℕ) (h : Keeps A s0 s) : Keeps A s0 (State.bulkEnd s x1 x2) := by
  unfold State.bulkEnd
  try dsimp only
  repeat' first | intro _ | with_reducible assumption | with_reducible apply keeps_State_setFld (subParts hA rfl) | with_reducible apply keeps_State_raise (subParts hA rfl) | with_reducible apply keeps_State_setFlag (subParts hA rfl) | with_reducible apply keeps_State_modBk (subParts hA rfl)

theorem keeps_State_bulkSend {A : List Part} {s0 s : State} (hA : [.regs, .hoop, .port, .bulk, .pci, .out] ⊆ A) (x1 : ℕ) (x2 : ℕ) (x3 : ℕ) (x4 : ℕ) (x5 : ℕ) (x6 : ℕ) (x7 : ℕ) (h : Keeps A s0 s) : Keeps A s0 (State.bulkSend s x1 x2 x3 x4 x5 x6 x7) := by
  induction x7 generalizing s x5 x6 with
  | zero =>
    unfold State.bulkSend
    try dsimp only
    repeat' first | intro _ | with_reducible assumption | with_reducible apply Keeps.ite | (with_reducible apply keeps_State_unicast (subParts hA (by decide))) | (with_reducible apply keeps_State_bulkEnd (subParts hA (by decide))) | split | (refine Keeps.pair (by assumption) ?_)
  | succ k ih =>
    unfold State.bulkSend
    try dsimp only
    repeat' first | intro _ | with_reducible assumption | with_reducible apply ih | with_reducible apply Keeps.ite | (with_reducible apply keeps_State_unicast (subParts hA (by decide))) | (with_reducible apply keeps_State_bulkEnd (subParts hA (by decide))) | split | (refine Keeps.pair (by assumption) ?_)

theorem keeps_execHoopPortEnable {A : List Part} {s0 s : State} (hA : [.regs, .port, .lane, .head, .pci, .out] ⊆ A) (x0 : ℕ) (x1 : Word) (h : Keeps A s0 s) : KeepsR A s0 (execHoopPortEnable x0 x1 s) := by
  unfold execHoopPortEnable
  try dsimp only
  repeat' first | intro _ | with_reducible assumption | with_reducible apply KeepsR.ite | with_reducible apply Keeps.ite | with_reducible apply KeepsR.of_next | with_reducible apply Keeps.each | with_reducible apply keeps_State_setReg (subParts hA rfl) | with_reducible apply keeps_State_raise (subParts hA rfl) | with_reducible apply keeps_State_modPt (subParts hA rfl) | with_reducible apply keeps_State_startLane (subParts hA rfl) | with_reducible apply keeps_State_portLost (subParts hA rfl) | with_reducible apply keeps_onUnitWrite (subParts hA rfl)

theorem keeps_State_modCm {A : List Part} {s0 s : State} (hA : [.cam] ⊆ A) (x1 : ℕ) (x2 : CamPort → CamPort) (h : Keeps A s0 s) : Keeps A s0 (State.modCm s x1 x2) := by
  unfold State.modCm
  try dsimp only
  repeat' first | intro _ | with_reducible assumption | with_reducible apply Keeps.upd_cam (subParts hA rfl) | exact tabWf_tabSet _ _ _ _ (canon_cam (by assumption)) | with_reducible rfl | rfl

theorem keeps_State_holderEvent {A : List Part} {s0 s : State} (hA : [.grp] ⊆ A) (x1 : GroupMsg) (x2 : Bool) (h : Keeps A s0 s) : Keeps A s0 (State.holderEvent s x1 x2) := by
  unfold State.holderEvent
  try dsimp only
  repeat' first | intro _ | with_reducible assumption | with_reducible apply Keeps.ite | with_reducible apply keeps_State_modGrp (subParts hA rfl)

theorem keeps_State_unmaskRow {A : List Part} {s0 s : State} (hA : [.pci, .out] ⊆ A) (x1 : IrqRow) (h : Keeps A s0 s) : Keeps A s0 (State.unmaskRow s x1) := by
  unfold State.unmaskRow
  try dsimp only
  repeat' first | intro _ | with_reducible assumption | with_reducible apply Keeps.ite | with_reducible apply keeps_State_clearVec (subParts hA rfl) | with_reducible apply keeps_State_emit (subParts hA rfl)

theorem keeps_execMsixUnmask {A : List Part} {s0 s : State} (hA : [.regs, .pci, .out] ⊆ A) (x0 : Option ℕ) (h : Keeps A s0 s) : KeepsR A s0 (execMsixUnmask x0 s) := by
  unfold execMsixUnmask
  try dsimp only
  repeat' first | intro _ | with_reducible assumption | with_reducible apply KeepsR.ite | with_reducible apply Keeps.ite | with_reducible apply KeepsR.of_next | with_reducible exact KeepsR.fault _ | with_reducible apply Keeps.foldl | with_reducible apply keeps_State_setBit (subParts hA rfl) | with_reducible apply keeps_State_unmaskRow (subParts hA rfl) | split | with_reducible apply Keeps.upd_pci (subParts hA rfl)

theorem keeps_State_after {A : List Part} {s0 s : State} (hA : ([] : List Part) ⊆ A) (x1 : Res) (hr : KeepsR A s0 x1) (h : Keeps A s0 s) : Keeps A s0 (State.after s x1) := by
  cases x1 with
  | next t => exact hr.next t rfl
  | fault f => exact h
  | refused r => exact h

theorem keeps_State_writeMsix {A : List Part} {s0 s : State} (hA : [.regs, .pci, .out] ⊆ A) (x1 : ℕ) (x2 : Word) (h : Keeps A s0 s) : Keeps A s0 (State.writeMsix s x1 x2) := by
  unfold State.writeMsix
  try dsimp only
  repeat' first | intro _ | with_reducible assumption | with_reducible apply Keeps.ite | with_reducible apply KeepsR.ite | with_reducible apply keeps_State_setReg (subParts hA rfl) | with_reducible apply keeps_State_setBit (subParts hA rfl) | with_reducible apply keeps_execMsixUnmask (subParts hA rfl) | with_reducible apply keeps_State_after (subParts hA rfl)

theorem keeps_execActiveGainSetWrite {A : List Part} {s0 s : State} (hA : [.regs, .pci, .intg, .out] ⊆ A) (x0 : ℕ) (x1 : Word) (h : Keeps A s0 s) : KeepsR A s0 (execActiveGainSetWrite x0 x1 s) := by
  unfold execActiveGainSetWrite
  try dsimp only
  repeat' first | intro _ | with_reducible assumption | with_reducible apply KeepsR.ite | with_reducible apply Keeps.ite | with_reducible apply KeepsR.of_next | with_reducible apply keeps_id | with_reducible apply keeps_State_raise (subParts hA rfl) | with_reducible apply keeps_State_tableStore (subParts hA rfl) | with_reducible apply keeps_onAddr (subParts hA rfl) | with_reducible apply keeps_onTable (subParts hA rfl)

theorem keeps_execRepetitiveTableWrite {A : List Part} {s0 s : State} (hA : [.regs, .pci, .intg, .out] ⊆ A) (x0 : ℕ) (x1 : Word) (h : Keeps A s0 s) : KeepsR A s0 (execRepetitiveTableWrite x0 x1 s) := by
  unfold execRepetitiveTableWrite
  try dsimp only
  repeat' first | intro _ | with_reducible assumption | with_reducible apply KeepsR.ite | with_reducible apply Keeps.ite | with_reducible apply KeepsR.of_next | with_reducible apply keeps_id | with_reducible apply keeps_State_raise (subParts hA rfl) | with_reducible apply keeps_State_tableStore (subParts hA rfl) | with_reducible apply keeps_onAddr (subParts hA rfl) | with_reducible apply keeps_onTable (subParts hA rfl) | split

theorem keeps_execCameraTableWrite {A : List Part} {s0 s : State} (hA : [.regs, .pci, .intg, .out] ⊆ A) (x0 : ℕ) (x1 : Word) (h : Keeps A s0 s) : KeepsR A s0 (execCameraTableWrite x0 x1 s) := by
  unfold execCameraTableWrite
  try dsimp only
  repeat' first | intro _ | with_reducible assumption | with_reducible apply KeepsR.ite | with_reducible apply Keeps.ite | with_reducible apply KeepsR.of_next | with_reducible apply keeps_id | with_reducible apply keeps_State_raise (subParts hA rfl) | with_reducible apply keeps_State_tableStore (subParts hA rfl) | with_reducible apply keeps_onAddr (subParts hA rfl) | with_reducible apply keeps_onTable (subParts hA rfl) | split

theorem keeps_execFieldTableWrite {A : List Part} {s0 s : State} (hA : [.regs, .pci, .intg, .out] ⊆ A) (x0 : ℕ) (x1 : Word) (h : Keeps A s0 s) : KeepsR A s0 (execFieldTableWrite x0 x1 s) := by
  unfold execFieldTableWrite
  try dsimp only
  repeat' first | intro _ | with_reducible assumption | with_reducible apply KeepsR.ite | with_reducible apply Keeps.ite | with_reducible apply KeepsR.of_next | with_reducible apply keeps_id | with_reducible apply keeps_State_raise (subParts hA rfl) | with_reducible apply keeps_State_tableStore (subParts hA rfl) | with_reducible apply keeps_onAddr (subParts hA rfl) | with_reducible apply keeps_onTable (subParts hA rfl)

theorem keeps_execMeltPoolGainSetWrite {A : List Part} {s0 s : State} (hA : [.regs, .pci, .intg, .out] ⊆ A) (x0 : ℕ) (x1 : Word) (h : Keeps A s0 s) : KeepsR A s0 (execMeltPoolGainSetWrite x0 x1 s) := by
  unfold execMeltPoolGainSetWrite
  try dsimp only
  repeat' first | intro _ | with_reducible assumption | with_reducible apply KeepsR.ite | with_reducible apply Keeps.ite | with_reducible apply KeepsR.of_next | with_reducible apply keeps_id | with_reducible apply keeps_State_raise (subParts hA rfl) | with_reducible apply keeps_State_tableStore (subParts hA rfl) | with_reducible apply keeps_onAddr (subParts hA rfl) | with_reducible apply keeps_onTable (subParts hA rfl)

theorem keeps_State_bootRej {A : List Part} {s0 s : State} (hA : [.regs, .pci, .out] ⊆ A)  (h : Keeps A s0 s) : Keeps A s0 (State.bootRej s) := by
  unfold State.bootRej
  try dsimp only
  repeat' first | intro _ | with_reducible assumption | with_reducible apply keeps_State_raise (subParts hA rfl)

theorem keeps_execStagingWrite {A : List Part} {s0 s : State} (hA : [.regs, .pci, .out] ⊆ A) (x0 : ℕ) (x1 : Word) (h : Keeps A s0 s) : KeepsR A s0 (execStagingWrite x0 x1 s) := by
  unfold execStagingWrite
  try dsimp only
  repeat' first | intro _ | with_reducible assumption | with_reducible apply KeepsR.ite | with_reducible apply Keeps.ite | with_reducible apply KeepsR.of_next | with_reducible exact KeepsR.fault _ | with_reducible apply keeps_State_setReg (subParts hA rfl) | with_reducible apply keeps_State_bootRej (subParts hA rfl)

theorem keeps_State_lightApply {A : List Part} {s0 s : State} (hA : [.lgt] ⊆ A)  (h : Keeps A s0 s) : Keeps A s0 (State.lightApply s) := by
  unfold State.lightApply
  try dsimp only
  repeat' first | intro _ | with_reducible assumption | with_reducible apply Keeps.foldl | with_reducible apply Keeps.upd_lgt (subParts hA rfl)

theorem keeps_State_lightLower {A : List Part} {s0 s : State} (hA : [.lgt] ⊆ A)  (h : Keeps A s0 s) : Keeps A s0 (State.lightLower s) := by
  unfold State.lightLower
  try dsimp only
  repeat' first | intro _ | with_reducible assumption | with_reducible apply Keeps.foldl | with_reducible apply Keeps.upd_lgt (subParts hA rfl)

theorem keeps_State_budRequest {A : List Part} {s0 s : State} (hA : [.regs, .pci, .pwr, .out] ⊆ A) (x1 : ℕ) (x2 : ℕ) (x3 : ℕ) (h : Keeps A s0 s) : Keeps A s0 (State.budRequest s x1 x2 x3) := by
  unfold State.budRequest
  try dsimp only
  repeat' first | intro _ | with_reducible assumption | with_reducible apply Keeps.ite | with_reducible apply keeps_State_raise (subParts hA rfl) | with_reducible apply keeps_State_budSync (subParts hA rfl) | with_reducible apply keeps_State_setWaiting (subParts hA rfl)

theorem keeps_State_lightSync {A : List Part} {s0 s : State} (hA : [.regs, .lgt, .pci, .pwr, .out] ⊆ A)  (h : Keeps A s0 s) : Keeps A s0 (State.lightSync s) := by
  unfold State.lightSync
  try dsimp only
  repeat' first | intro _ | with_reducible assumption | with_reducible apply Keeps.ite | with_reducible apply keeps_State_budWithdraw (subParts hA rfl) | with_reducible apply keeps_State_budHold (subParts hA rfl) | with_reducible apply keeps_State_lightApply (subParts hA rfl) | with_reducible apply keeps_State_lightLower (subParts hA rfl) | with_reducible apply keeps_State_budRequest (subParts hA rfl)

theorem keeps_execSinkWrite {A : List Part} {s0 s : State} (hA : [.regs, .lgt, .pci, .intg, .pwr, .out] ⊆ A) (x0 : ℕ) (x1 : Word) (h : Keeps A s0 s) : KeepsR A s0 (execSinkWrite x0 x1 s) := by
  unfold execSinkWrite
  try dsimp only
  repeat' first | intro _ | with_reducible assumption | with_reducible apply KeepsR.ite | with_reducible apply Keeps.ite | with_reducible apply KeepsR.of_next | with_reducible apply keeps_State_setReg (subParts hA rfl) | with_reducible apply keeps_State_raise (subParts hA rfl) | with_reducible apply keeps_State_absent (subParts hA rfl) | with_reducible apply keeps_State_tableStore (subParts hA rfl) | with_reducible apply keeps_onAddr (subParts hA rfl) | with_reducible apply keeps_State_lightSync (subParts hA rfl) | split

theorem keeps_State_calRej {A : List Part} {s0 s : State} (hA : [.regs, .pci, .out] ⊆ A)  (h : Keeps A s0 s) : Keeps A s0 (State.calRej s) := by
  unfold State.calRej
  try dsimp only
  repeat' first | intro _ | with_reducible assumption | with_reducible apply keeps_State_raise (subParts hA rfl)

theorem keeps_State_calCompare {A : List Part} {s0 s : State} (hA : [.regs] ⊆ A) (x1 : ℕ) (x2 : List (ℕ × ℕ × Bool)) (x3 : Word) (x4 : Word) (h : Keeps A s0 s) : Keeps A s0 (State.calCompare s x1 x2 x3 x4) := by
  unfold State.calCompare
  try dsimp only
  repeat' first | intro _ | with_reducible assumption | with_reducible apply Keeps.ite | with_reducible apply Keeps.foldl | with_reducible apply keeps_State_setFld (subParts hA rfl) | with_reducible apply keeps_State_satAdd (subParts hA rfl)

theorem keeps_execPendingSetWrite {A : List Part} {s0 s : State} (hA : [.regs, .pci, .intg, .out] ⊆ A) (x0 : ℕ) (x1 : Word) (h : Keeps A s0 s) : KeepsR A s0 (execPendingSetWrite x0 x1 s) := by
  unfold execPendingSetWrite
  try dsimp only
  repeat' first | intro _ | with_reducible assumption | with_reducible apply KeepsR.ite | with_reducible apply Keeps.ite | with_reducible apply KeepsR.of_next | with_reducible apply keeps_id | with_reducible apply keeps_State_satAdd (subParts hA rfl) | with_reducible apply keeps_State_tableStore (subParts hA rfl) | with_reducible apply keeps_onAddr (subParts hA rfl) | with_reducible apply keeps_onTable (subParts hA rfl) | with_reducible apply keeps_State_calRej (subParts hA rfl) | with_reducible apply keeps_State_calCompare (subParts hA rfl) | split

theorem keeps_State_writeTable {A : List Part} {s0 s : State} (hA : [.regs, .lgt, .pci, .intg, .pwr, .out] ⊆ A) (x1 : ℕ) (x2 : Word) (h : Keeps A s0 s) : Keeps A s0 (State.writeTable s x1 x2) := by
  unfold State.writeTable
  try dsimp only
  repeat' first | intro _ | with_reducible assumption | with_reducible apply Keeps.ite | with_reducible apply KeepsR.ite | with_reducible apply keeps_State_tableStore (subParts hA rfl) | with_reducible apply keeps_execLsrActiveSetWrite (subParts hA rfl) | with_reducible apply keeps_State_after (subParts hA rfl) | with_reducible apply keeps_execActiveGainSetWrite (subParts hA rfl) | with_reducible apply keeps_execRepetitiveTableWrite (subParts hA rfl) | with_reducible apply keeps_execCameraTableWrite (subParts hA rfl) | with_reducible apply keeps_execFieldTableWrite (subParts hA rfl) | with_reducible apply keeps_execMeltPoolGainSetWrite (subParts hA rfl) | with_reducible apply keeps_execStagingWrite (subParts hA rfl) | with_reducible apply keeps_execSinkWrite (subParts hA rfl) | with_reducible apply keeps_execPendingSetWrite (subParts hA rfl)

theorem keeps_State_resetSti {A : List Part} {s0 s : State} (hA : [.regs, .chan, .xbar] ⊆ A) (x1 : Access → Bool) (h : Keeps A s0 s) : Keeps A s0 (State.resetSti s x1) := by
  unfold State.resetSti
  try dsimp only
  repeat' first | intro _ | with_reducible assumption | with_reducible apply Keeps.each | with_reducible apply keeps_State_modCh (subParts hA rfl) | with_reducible apply keeps_State_resetRegs (subParts hA rfl) | with_reducible apply Keeps.upd_xbar (subParts hA rfl)

theorem keeps_execStiBlockReset {A : List Part} {s0 s : State} (hA : [.regs, .chan, .pci, .xbar, .out] ⊆ A)  (h : Keeps A s0 s) : KeepsR A s0 (execStiBlockReset s) := by
  unfold execStiBlockReset
  try dsimp only
  repeat' first | intro _ | with_reducible assumption | with_reducible apply KeepsR.ite | with_reducible apply Keeps.ite | with_reducible apply KeepsR.of_next | with_reducible apply keeps_State_raise (subParts hA rfl) | with_reducible apply keeps_State_resetSti (subParts hA rfl)

theorem keeps_State_modFb {A : List Part} {s0 s : State} (hA : [.fbk] ⊆ A) (x1 : ℕ) (x2 : Feedback → Feedback) (h : Keeps A s0 s) : Keeps A s0 (State.modFb s x1 x2) := by
  unfold State.modFb
  try dsimp only
  repeat' first | intro _ | with_reducible assumption | with_reducible apply Keeps.upd_fbk (subParts hA rfl) | exact tabWf_tabSet _ _ _ _ (canon_fbk (by assumption)) | with_reducible rfl | rfl

theorem keeps_execFbkCountWrite {A : List Part} {s0 s : State} (hA : [.regs, .fbk, .pci, .out] ⊆ A) (x0 : ℕ) (x1 : Word) (h : Keeps A s0 s) : KeepsR A s0 (execFbkCountWrite x0 x1 s) := by
  unfold execFbkCountWrite
  try dsimp only
  repeat' first | intro _ | with_reducible assumption | with_reducible apply KeepsR.ite | with_reducible apply Keeps.ite | with_reducible apply KeepsR.of_next | with_reducible apply keeps_State_setReg (subParts hA rfl) | with_reducible apply keeps_State_raise (subParts hA rfl) | with_reducible apply keeps_onUnitWrite (subParts hA rfl) | with_reducible apply keeps_State_modFb (subParts hA rfl)

theorem keeps_State_modMo {A : List Part} {s0 s : State} (hA : [.mot] ⊆ A) (x1 : ℕ) (x2 : Motor → Motor) (h : Keeps A s0 s) : Keeps A s0 (State.modMo s x1 x2) := by
  unfold State.modMo
  try dsimp only
  repeat' first | intro _ | with_reducible assumption | with_reducible apply Keeps.upd_mot (subParts hA rfl) | exact tabWf_tabSet _ _ _ _ (canon_mot (by assumption)) | with_reducible rfl | rfl

theorem keeps_State_setAxisState {A : List Part} {s0 s : State} (hA : [.regs] ⊆ A) (x1 : ℕ) (x2 : ℕ) (h : Keeps A s0 s) : Keeps A s0 (State.setAxisState s x1 x2) := by
  unfold State.setAxisState
  try dsimp only
  repeat' first | intro _ | with_reducible assumption | with_reducible apply keeps_State_setFld (subParts hA rfl)

theorem keeps_State_axisRecord {A : List Part} {s0 s : State} (hA : [.regs, .dram, .grp, .pci, .ddr, .out] ⊆ A) (x1 : ℕ) (x2 : ℕ) (x3 : ℕ) (h : Keeps A s0 s) : Keeps A s0 (State.axisRecord s x1 x2 x3) := by
  unfold State.axisRecord
  try dsimp only
  repeat' first | intro _ | with_reducible assumption | with_reducible apply keeps_State_post (subParts hA rfl)

theorem keeps_State_homingEnd {A : List Part} {s0 s : State} (hA : [.regs, .dram, .grp, .pci, .ddr, .out] ⊆ A) (x1 : ℕ) (x2 : ℕ) (h : Keeps A s0 s) : Keeps A s0 (State.homingEnd s x1 x2) := by
  unfold State.homingEnd
  try dsimp only
  repeat' first | intro _ | with_reducible assumption | with_reducible apply Keeps.ite | with_reducible apply keeps_State_setFld (subParts hA rfl) | with_reducible apply keeps_State_raise (subParts hA rfl) | with_reducible apply keeps_State_setFlag (subParts hA rfl) | with_reducible apply keeps_State_axisRecord (subParts hA rfl)

theorem keeps_execMotHome {A : List Part} {s0 s : State} (hA : [.regs, .dram, .grp, .mot, .pci, .ddr, .out] ⊆ A) (x0 : ℕ) (x1 : Word) (h : Keeps A s0 s) : KeepsR A s0 (execMotHome x0 x1 s) := by
  unfold execMotHome
  try dsimp only
  repeat' first | intro _ | with_reducible assumption | with_reducible apply KeepsR.ite | with_reducible apply Keeps.ite | with_reducible apply KeepsR.of_next | with_reducible apply keeps_State_setFld (subParts hA rfl) | with_reducible apply keeps_State_raise (subParts hA rfl) | with_reducible apply keeps_State_setFlag (subParts hA rfl) | with_reducible apply keeps_onUnitWrite (subParts hA rfl) | with_reducible apply keeps_State_modMo (subParts hA rfl) | with_reducible apply keeps_State_setAxisState (subParts hA rfl) | with_reducible apply keeps_State_homingEnd (subParts hA rfl)

theorem keeps_State_resetMot {A : List Part} {s0 s : State} (hA : [.regs, .mot] ⊆ A) (x1 : Access → Bool) (h : Keeps A s0 s) : Keeps A s0 (State.resetMot s x1) := by
  unfold State.resetMot
  try dsimp only
  repeat' first | intro _ | with_reducible assumption | with_reducible apply keeps_State_resetRegs (subParts hA rfl) | with_reducible apply Keeps.upd_mot (subParts hA rfl) | exact tabWf_tabSet _ _ _ _ (canon_mot (by assumption)) | with_reducible rfl | rfl

theorem keeps_execMotBlockReset {A : List Part} {s0 s : State} (hA : [.regs, .mot] ⊆ A)  (h : Keeps A s0 s) : KeepsR A s0 (execMotBlockReset s) := by
  unfold execMotBlockReset
  try dsimp only
  repeat' first | intro _ | with_reducible assumption | with_reducible apply KeepsR.of_next | with_reducible apply keeps_State_resetMot (subParts hA rfl)

theorem keeps_State_resetFbk {A : List Part} {s0 s : State} (hA : [.regs, .fbk] ⊆ A) (x1 : Access → Bool) (h : Keeps A s0 s) : Keeps A s0 (State.resetFbk s x1) := by
  unfold State.resetFbk
  have k := keeps_State_resetRegs (s0 := s0) (subParts hA (by decide)) 0x3D0000 0x3E0000 x1 h
  refine Keeps.upd_fbk (t := s.resetRegs 0x3D0000 0x3E0000 x1) (subParts hA (by decide)) k (fun c => ?_)
  have c' : tabWf (fun _ => Feedback.reset) s.fbk = true := canon_fbk (s := s.resetRegs 0x3D0000 0x3E0000 x1) c
  exact tabWf_mapKeys Feedback.reset (fun e => (e.1, heldLevels e.2)) (fun _ => rfl) c'

theorem keeps_execFbkBlockReset {A : List Part} {s0 s : State} (hA : [.regs, .fbk] ⊆ A)  (h : Keeps A s0 s) : KeepsR A s0 (execFbkBlockReset s) := by
  unfold execFbkBlockReset
  try dsimp only
  repeat' first | intro _ | with_reducible assumption | with_reducible apply KeepsR.of_next | with_reducible apply keeps_State_resetFbk (subParts hA rfl)

theorem keeps_execFeedbackInterfaceEnable {A : List Part} {s0 s : State} (hA : [.regs, .dram, .grp, .dom, .fbk, .pci, .ddr, .pwr, .out] ⊆ A) (x0 : ℕ) (x1 : Word) (h : Keeps A s0 s) : KeepsR A s0 (execFeedbackInterfaceEnable x0 x1 s) := by
  unfold execFeedbackInterfaceEnable
  try dsimp only
  repeat' first | intro _ | with_reducible assumption | with_reducible apply KeepsR.ite | with_reducible apply Keeps.ite | with_reducible apply KeepsR.of_next | with_reducible apply keeps_State_setReg (subParts hA rfl) | with_reducible apply keeps_State_raise (subParts hA rfl) | with_reducible apply keeps_State_setFlag (subParts hA rfl) | with_reducible apply keeps_State_revote (subParts hA rfl) | with_reducible apply keeps_onUnitWrite (subParts hA rfl) | with_reducible apply keeps_State_modFb (subParts hA rfl)

theorem keeps_State_fireCompare {A : List Part} {s0 s : State} (hA : [.regs, .fbk, .pci, .out] ⊆ A) (x1 : ℕ) (h : Keeps A s0 s) : Keeps A s0 (State.fireCompare s x1) := by
  unfold State.fireCompare
  try dsimp only
  repeat' first | intro _ | with_reducible assumption | with_reducible apply keeps_State_raise (subParts hA rfl) | with_reducible apply keeps_State_setFlag (subParts hA rfl) | with_reducible apply keeps_State_modFb (subParts hA rfl)

theorem keeps_execFbkCmpposWrite {A : List Part} {s0 s : State} (hA : [.regs, .fbk, .pci, .out] ⊆ A) (x0 : ℕ) (x1 : Word) (h : Keeps A s0 s) : KeepsR A s0 (execFbkCmpposWrite x0 x1 s) := by
  unfold execFbkCmpposWrite
  try dsimp only
  repeat' first | intro _ | with_reducible assumption | with_reducible apply KeepsR.ite | with_reducible apply Keeps.ite | with_reducible apply KeepsR.of_next | with_reducible apply keeps_State_setReg (subParts hA rfl) | with_reducible apply keeps_State_raise (subParts hA rfl) | with_reducible apply keeps_State_setFlag (subParts hA rfl) | with_reducible apply keeps_onUnitWrite (subParts hA rfl) | with_reducible apply keeps_State_fireCompare (subParts hA rfl)

theorem keeps_State_plainWrite {A : List Part} {s0 s : State} (hA : [.regs, .pci, .out] ⊆ A) (x1 : ℕ) (x2 : Word) (h : Keeps A s0 s) : Keeps A s0 (State.plainWrite s x1 x2) := by
  unfold State.plainWrite
  try dsimp only
  repeat' first | intro _ | with_reducible assumption | with_reducible apply Keeps.foldl | with_reducible apply keeps_State_setReg (subParts hA rfl) | with_reducible apply keeps_irqWritten (subParts hA rfl) | split

theorem keeps_State_ctlWrite {A : List Part} {s0 s : State} (hA : [.regs, .pci, .out] ⊆ A) (x1 : ℕ) (x2 : Word) (x3 : State → Res) (hf : ∀ (a0 : State), Keeps A s0 a0 → KeepsR A s0 (x3 a0)) (h : Keeps A s0 s) : Keeps A s0 (State.ctlWrite s x1 x2 x3) := by
  unfold State.ctlWrite
  try dsimp only
  repeat' first | intro _ | with_reducible assumption | with_reducible apply hf | with_reducible apply Keeps.ite | with_reducible apply KeepsR.ite | with_reducible apply keeps_State_after (subParts hA rfl) | with_reducible apply keeps_State_plainWrite (subParts hA rfl)

theorem keeps_execMotGo {A : List Part} {s0 s : State} (hA : [.regs, .mot, .pci, .out] ⊆ A) (x0 : ℕ) (x1 : Word) (h : Keeps A s0 s) : KeepsR A s0 (execMotGo x0 x1 s) := by
  unfold execMotGo
  try dsimp only
  repeat' first | intro _ | with_reducible assumption | with_reducible apply KeepsR.ite | with_reducible apply Keeps.ite | with_reducible apply KeepsR.of_next | with_reducible apply keeps_State_raise (subParts hA rfl) | with_reducible apply keeps_onUnitWrite (subParts hA rfl) | with_reducible apply keeps_State_modMo (subParts hA rfl)

theorem keeps_State_storeAxisCfg {A : List Part} {s0 s : State} (hA : [.regs, .pci, .out] ⊆ A) (x1 : ℕ) (x2 : Word) (h : Keeps A s0 s) : Keeps A s0 (State.storeAxisCfg s x1 x2) := by
  unfold State.storeAxisCfg
  try dsimp only
  repeat' first | intro _ | with_reducible assumption | with_reducible apply Keeps.ite | with_reducible apply keeps_State_setReg (subParts hA rfl) | with_reducible apply keeps_State_raise (subParts hA rfl)

theorem keeps_execAxisEnable {A : List Part} {s0 s : State} (hA : [.regs, .mot, .pci, .out] ⊆ A) (x0 : ℕ) (x1 : Word) (h : Keeps A s0 s) : KeepsR A s0 (execAxisEnable x0 x1 s) := by
  unfold execAxisEnable
  try dsimp only
  repeat' first | intro _ | with_reducible assumption | with_reducible apply KeepsR.ite | with_reducible apply Keeps.ite | with_reducible apply KeepsR.of_next | with_reducible apply keeps_onUnitWrite (subParts hA rfl) | with_reducible apply keeps_State_modMo (subParts hA rfl) | with_reducible apply keeps_State_setAxisState (subParts hA rfl) | with_reducible apply keeps_State_storeAxisCfg (subParts hA rfl)

theorem keeps_State_driveOff {A : List Part} {s0 s : State} (hA : [.mot] ⊆ A) (x1 : ℕ) (h : Keeps A s0 s) : Keeps A s0 (State.driveOff s x1) := by
  unfold State.driveOff
  try dsimp only
  repeat' first | intro _ | with_reducible assumption | with_reducible apply keeps_State_modMo (subParts hA rfl)

theorem keeps_State_setVel {A : List Part} {s0 s : State} (hA : [.regs] ⊆ A) (x1 : ℕ) (x2 : ℤ) (h : Keeps A s0 s) : Keeps A s0 (State.setVel s x1 x2) := by
  unfold State.setVel
  try dsimp only
  repeat' first | intro _ | with_reducible assumption | with_reducible apply keeps_State_setSfld (subParts hA rfl)

theorem keeps_State_axisOffNow {A : List Part} {s0 s : State} (hA : [.regs, .mot] ⊆ A) (x1 : ℕ) (h : Keeps A s0 s) : Keeps A s0 (State.axisOffNow s x1) := by
  unfold State.axisOffNow
  try dsimp only
  repeat' first | intro _ | with_reducible assumption | with_reducible apply keeps_State_setFlag (subParts hA rfl) | with_reducible apply keeps_State_setAxisState (subParts hA rfl) | with_reducible apply keeps_State_driveOff (subParts hA rfl) | with_reducible apply keeps_State_setVel (subParts hA rfl)

theorem keeps_execAxisDisable {A : List Part} {s0 s : State} (hA : [.regs, .dram, .grp, .mot, .pci, .ddr, .out] ⊆ A) (x0 : ℕ) (x1 : Word) (h : Keeps A s0 s) : KeepsR A s0 (execAxisDisable x0 x1 s) := by
  unfold execAxisDisable
  try dsimp only
  repeat' first | intro _ | with_reducible assumption | with_reducible apply KeepsR.ite | with_reducible apply Keeps.ite | with_reducible apply KeepsR.of_next | with_reducible apply keeps_State_setFlag (subParts hA rfl) | with_reducible apply keeps_onUnitWrite (subParts hA rfl) | with_reducible apply keeps_State_modMo (subParts hA rfl) | with_reducible apply keeps_State_setAxisState (subParts hA rfl) | with_reducible apply keeps_State_homingEnd (subParts hA rfl) | with_reducible apply keeps_State_storeAxisCfg (subParts hA rfl) | with_reducible apply keeps_State_axisOffNow (subParts hA rfl)

theorem keeps_execMotAxPosWrite {A : List Part} {s0 s : State} (hA : [.regs, .mot, .pci, .out] ⊆ A) (x0 : ℕ) (x1 : Word) (h : Keeps A s0 s) : KeepsR A s0 (execMotAxPosWrite x0 x1 s) := by
  unfold execMotAxPosWrite
  try dsimp only
  repeat' first | intro _ | with_reducible assumption | with_reducible apply KeepsR.ite | with_reducible apply Keeps.ite | with_reducible apply KeepsR.of_next | with_reducible apply keeps_State_raise (subParts hA rfl) | with_reducible apply keeps_onUnitWrite (subParts hA rfl) | with_reducible apply keeps_State_modMo (subParts hA rfl)

theorem keeps_State_busMot {A : List Part} {s0 s : State} (hA : [.regs, .dram, .grp, .dom, .mot, .fbk, .pci, .ddr, .pwr, .out] ⊆ A) (x1 : ℕ) (x2 : ℕ) (x3 : ℕ) (x4 : Word) (h : Keeps A s0 s) : Keeps A s0 (State.busMot s x1 x2 x3 x4) := by
  unfold State.busMot
  try dsimp only
  repeat' first | intro _ | with_reducible assumption | with_reducible apply Keeps.ite | with_reducible apply KeepsR.ite | with_reducible apply keeps_State_after (subParts hA rfl) | with_reducible apply keeps_execFbkCountWrite (subParts hA rfl) | with_reducible apply keeps_execMotHome (subParts hA rfl) | with_reducible apply keeps_execMotBlockReset (subParts hA rfl) | with_reducible apply keeps_execFbkBlockReset (subParts hA rfl) | with_reducible apply keeps_execFeedbackInterfaceEnable (subParts hA rfl) | with_reducible apply keeps_execFbkCmpposWrite (subParts hA rfl) | with_reducible apply keeps_State_plainWrite (subParts hA rfl) | with_reducible apply keeps_State_ctlWrite (subParts hA rfl) | with_reducible apply keeps_execMotGo (subParts hA rfl) | with_reducible apply keeps_execAxisEnable (subParts hA rfl) | with_reducible apply keeps_execAxisDisable (subParts hA rfl) | with_reducible apply keeps_execMotAxPosWrite (subParts hA rfl)

theorem keeps_onGroup {A : List Part} {s0 s : State} (hA : [.regs, .pci, .out] ⊆ A) (x0 : ℕ) (x2 : State → State) (hf : ∀ (a0 : State), Keeps A s0 a0 → Keeps A s0 (x2 a0)) (h : Keeps A s0 s) : KeepsR A s0 (onGroup x0 s x2) := by
  unfold onGroup
  try dsimp only
  repeat' first | intro _ | with_reducible assumption | with_reducible apply hf | with_reducible apply KeepsR.ite | with_reducible apply Keeps.ite | with_reducible apply KeepsR.of_next | with_reducible exact KeepsR.fault _ | with_reducible apply keeps_State_calRej (subParts hA rfl)

theorem keeps_State_modCg {A : List Part} {s0 s : State} (hA : [.cal] ⊆ A) (x1 : ℕ) (x2 : CalGroup → CalGroup) (h : Keeps A s0 s) : Keeps A s0 (State.modCg s x1 x2) := by
  unfold State.modCg
  try dsimp only
  repeat' first | intro _ | with_reducible assumption | with_reducible apply Keeps.upd_cal (subParts hA rfl) | exact tabWf_tabSet _ _ _ _ (canon_cal (by assumption)) | with_reducible rfl | rfl

theorem keeps_State_setCalState {A : List Part} {s0 s : State} (hA : [.regs] ⊆ A) (x1 : ℕ) (x2 : ℕ) (h : Keeps A s0 s) : Keeps A s0 (State.setCalState s x1 x2) := by
  unfold State.setCalState
  try dsimp only
  repeat' first | intro _ | with_reducible assumption | with_reducible apply keeps_State_setFld (subParts hA rfl)

theorem keeps_State_calWait {A : List Part} {s0 s : State} (hA : [.regs, .cal] ⊆ A) (x1 : ℕ) (x2 : Bool) (h : Keeps A s0 s) : Keeps A s0 (State.calWait s x1 x2) := by
  unfold State.calWait
  try dsimp only
  repeat' first | intro _ | with_reducible assumption | with_reducible apply keeps_State_modCg (subParts hA rfl) | with_reducible apply keeps_State_setCalState (subParts hA rfl)

theorem keeps_execCalRestore {A : List Part} {s0 s : State} (hA : [.regs, .pci, .cal, .out] ⊆ A) (x0 : ℕ) (h : Keeps A s0 s) : KeepsR A s0 (execCalRestore x0 s) := by
  unfold execCalRestore
  try dsimp only
  repeat' first | intro _ | with_reducible assumption | with_reducible apply KeepsR.ite | with_reducible apply Keeps.ite | with_reducible apply KeepsR.of_next | with_reducible apply keeps_State_calRej (subParts hA rfl) | with_reducible apply keeps_onGroup (subParts hA rfl) | with_reducible apply keeps_State_calWait (subParts hA rfl)

theorem keeps_State_calEnd {A : List Part} {s0 s : State} (hA : [.regs, .pci, .out] ⊆ A) (x1 : ℕ) (x2 : ℕ) (h : Keeps A s0 s) : Keeps A s0 (State.calEnd s x1 x2) := by
  unfold State.calEnd
  try dsimp only
  repeat' first | intro _ | with_reducible assumption | with_reducible apply Keeps.ite | with_reducible apply keeps_State_setFld (subParts hA rfl) | with_reducible apply keeps_State_raise (subParts hA rfl) | with_reducible apply keeps_State_setCalState (subParts hA rfl)

theorem keeps_execCalAbort {A : List Part} {s0 s : State} (hA : [.regs, .pci, .out] ⊆ A) (x0 : ℕ) (h : Keeps A s0 s) : KeepsR A s0 (execCalAbort x0 s) := by
  unfold execCalAbort
  try dsimp only
  repeat' first | intro _ | with_reducible assumption | with_reducible apply KeepsR.ite | with_reducible apply Keeps.ite | with_reducible apply KeepsR.of_next | with_reducible apply keeps_State_calRej (subParts hA rfl) | with_reducible apply keeps_onGroup (subParts hA rfl) | with_reducible apply keeps_State_calEnd (subParts hA rfl)

theorem keeps_execCalRepeat {A : List Part} {s0 s : State} (hA : [.regs, .pci, .out] ⊆ A) (x0 : ℕ) (h : Keeps A s0 s) : KeepsR A s0 (execCalRepeat x0 s) := by
  unfold execCalRepeat
  try dsimp only
  repeat' first | intro _ | with_reducible assumption | with_reducible apply KeepsR.ite | with_reducible apply Keeps.ite | with_reducible apply KeepsR.of_next | with_reducible apply keeps_State_calRej (subParts hA rfl) | with_reducible apply keeps_onGroup (subParts hA rfl) | with_reducible apply keeps_State_setCalState (subParts hA rfl)

theorem keeps_execCalOpen {A : List Part} {s0 s : State} (hA : [.regs, .pci, .out] ⊆ A) (x0 : ℕ) (h : Keeps A s0 s) : KeepsR A s0 (execCalOpen x0 s) := by
  unfold execCalOpen
  try dsimp only
  repeat' first | intro _ | with_reducible assumption | with_reducible apply KeepsR.ite | with_reducible apply Keeps.ite | with_reducible apply KeepsR.of_next | with_reducible apply keeps_State_setReg (subParts hA rfl) | with_reducible apply keeps_State_calRej (subParts hA rfl) | with_reducible apply keeps_onGroup (subParts hA rfl) | with_reducible apply keeps_State_setCalState (subParts hA rfl)

theorem keeps_State_calRecord {A : List Part} {s0 s : State} (hA : [.regs, .dram, .grp, .pci, .ddr, .out] ⊆ A) (x1 : ℕ) (x2 : ℕ) (h : Keeps A s0 s) : Keeps A s0 (State.calRecord s x1 x2) := by
  unfold State.calRecord
  try dsimp only
  repeat' first | intro _ | with_reducible assumption | with_reducible apply keeps_State_post (subParts hA rfl)

theorem keeps_State_calResult {A : List Part} {s0 s : State} (hA : [.regs, .dram, .grp, .pci, .ddr, .out] ⊆ A) (x1 : ℕ) (x2 : ℕ) (h : Keeps A s0 s) : Keeps A s0 (State.calResult s x1 x2) := by
  unfold State.calResult
  try dsimp only
  repeat' first | intro _ | with_reducible assumption | with_reducible apply keeps_State_calEnd (subParts hA rfl) | with_reducible apply keeps_State_calRecord (subParts hA rfl)

theorem keeps_execCalApply {A : List Part} {s0 s : State} (hA : [.regs, .dram, .grp, .pci, .ddr, .cal, .out] ⊆ A) (x0 : ℕ) (h : Keeps A s0 s) : KeepsR A s0 (execCalApply x0 s) := by
  unfold execCalApply
  try dsimp only
  repeat' first | intro _ | with_reducible assumption | with_reducible apply KeepsR.ite | with_reducible apply Keeps.ite | with_reducible apply KeepsR.of_next | with_reducible apply keeps_State_calRej (subParts hA rfl) | with_reducible apply keeps_onGroup (subParts hA rfl) | with_reducible apply keeps_State_calWait (subParts hA rfl) | with_reducible apply keeps_State_calResult (subParts hA rfl)

theorem keeps_State_cmdBit {A : List Part} {s0 s : State} (hA : ([] : List Part) ⊆ A) (x1 : Word) (x2 : ℕ) (x3 : State → Res) (hf : ∀ (a0 : State), Keeps A s0 a0 → KeepsR A s0 (x3 a0)) (h : Keeps A s0 s) : Keeps A s0 (State.cmdBit s x1 x2 x3) := by
  unfold State.cmdBit
  try dsimp only
  repeat' first | intro _ | with_reducible assumption | with_reducible apply hf | with_reducible apply Keeps.ite | with_reducible apply KeepsR.ite | with_reducible apply keeps_State_after (subParts hA rfl)

theorem keeps_State_busCal {A : List Part} {s0 s : State} (hA : [.regs, .dram, .grp, .pci, .ddr, .cal, .out] ⊆ A) (x1 : ℕ) (x2 : ℕ) (x3 : Word) (h : Keeps A s0 s) : Keeps A s0 (State.busCal s x1 x2 x3) := by
  unfold State.busCal
  try dsimp only
  repeat' first | intro _ | with_reducible assumption | with_reducible apply Keeps.ite | with_reducible apply keeps_execCalBlockReset (subParts hA rfl) | with_reducible apply keeps_State_plainWrite (subParts hA rfl) | with_reducible apply keeps_State_ctlWrite (subParts hA rfl) | with_reducible apply keeps_execCalRestore (subParts hA rfl) | with_reducible apply keeps_execCalAbort (subParts hA rfl) | with_reducible apply keeps_execCalRepeat (subParts hA rfl) | with_reducible apply keeps_execCalOpen (subParts hA rfl) | with_reducible apply keeps_execCalApply (subParts hA rfl) | with_reducible apply keeps_State_cmdBit (subParts hA rfl)

theorem keeps_execSplitResidue {A : List Part} {s0 s : State} (hA : [.regs, .pci, .intg, .out] ⊆ A) (x0 : Word) (h : Keeps A s0 s) : KeepsR A s0 (execSplitResidue x0 s) := by
  unfold execSplitResidue
  try dsimp only
  repeat' first | intro _ | with_reducible assumption | with_reducible apply KeepsR.ite | with_reducible apply Keeps.ite | with_reducible apply KeepsR.of_next | with_reducible apply keeps_State_setReg (subParts hA rfl) | with_reducible apply keeps_State_raise (subParts hA rfl) | with_reducible apply Keeps.upd_intg (subParts hA rfl)

theorem keeps_State_setWord {A : List Part} {s0 s : State} (hA : [.intg] ⊆ A) (x1 : ℕ) (x2 : ℕ) (x3 : ℕ) (h : Keeps A s0 s) : Keeps A s0 (State.setWord s x1 x2 x3) := by
  unfold State.setWord
  try dsimp only
  repeat' first | intro _ | with_reducible assumption | with_reducible apply Keeps.ite | split | with_reducible apply Keeps.upd_intg (subParts hA rfl)

theorem keeps_execRemapFree {A : List Part} {s0 s : State} (hA : [.regs, .pci, .intg, .out] ⊆ A) (x0 : ℕ) (x1 : ℕ) (x2 : Word) (h : Keeps A s0 s) : KeepsR A s0 (execRemapFree x0 x1 x2 s) := by
  unfold execRemapFree
  try dsimp only
  repeat' first | intro _ | with_reducible assumption | with_reducible apply KeepsR.ite | with_reducible apply Keeps.ite | with_reducible apply KeepsR.of_next | with_reducible exact KeepsR.fault _ | with_reducible apply keeps_State_setReg (subParts hA rfl) | with_reducible apply keeps_State_raise (subParts hA rfl) | with_reducible apply keeps_State_setWord (subParts hA rfl)

theorem keeps_execSplitWriteArm {A : List Part} {s0 s : State} (hA : [.regs, .pci, .out] ⊆ A) (x0 : Word) (h : Keeps A s0 s) : KeepsR A s0 (execSplitWriteArm x0 s) := by
  unfold execSplitWriteArm
  try dsimp only
  repeat' first | intro _ | with_reducible assumption | with_reducible apply KeepsR.ite | with_reducible apply Keeps.ite | with_reducible apply KeepsR.of_next | with_reducible apply keeps_State_setReg (subParts hA rfl) | with_reducible apply keeps_State_raise (subParts hA rfl)

theorem keeps_State_resetIntg {A : List Part} {s0 s : State} (hA : [.regs, .intg] ⊆ A) (x1 : Access → Bool) (h : Keeps A s0 s) : Keeps A s0 (State.resetIntg s x1) := by
  unfold State.resetIntg
  try dsimp only
  repeat' first | intro _ | with_reducible assumption | with_reducible apply keeps_State_setReg (subParts hA rfl) | with_reducible apply keeps_State_resetRegs (subParts hA rfl) | with_reducible apply Keeps.upd_intg (subParts hA rfl)

theorem keeps_execIntgBlockReset {A : List Part} {s0 s : State} (hA : [.regs, .intg] ⊆ A)  (h : Keeps A s0 s) : KeepsR A s0 (execIntgBlockReset s) := by
  unfold execIntgBlockReset
  try dsimp only
  repeat' first | intro _ | with_reducible assumption | with_reducible apply KeepsR.of_next | with_reducible apply keeps_State_resetIntg (subParts hA rfl)

theorem keeps_State_busIntg {A : List Part} {s0 s : State} (hA : [.regs, .pci, .intg, .out] ⊆ A) (x1 : ℕ) (x2 : ℕ) (x3 : ℕ) (x4 : ℕ) (x5 : Word) (h : Keeps A s0 s) : Keeps A s0 (State.busIntg s x1 x2 x3 x4 x5) := by
  unfold State.busIntg
  try dsimp only
  repeat' first | intro _ | with_reducible assumption | with_reducible apply Keeps.ite | with_reducible apply KeepsR.ite | with_reducible apply keeps_State_setReg (subParts hA rfl) | with_reducible apply keeps_execBist (subParts hA rfl) | with_reducible apply keeps_State_after (subParts hA rfl) | with_reducible apply keeps_State_plainWrite (subParts hA rfl) | with_reducible apply keeps_State_cmdBit (subParts hA rfl) | with_reducible apply keeps_execSplitResidue (subParts hA rfl) | with_reducible apply keeps_execRemapFree (subParts hA rfl) | with_reducible apply keeps_execSplitWriteArm (subParts hA rfl) | with_reducible apply keeps_execIntgBlockReset (subParts hA rfl)

theorem keeps_State_camSync {A : List Part} {s0 s : State} (hA : [.regs] ⊆ A) (x1 : ℕ) (h : Keeps A s0 s) : Keeps A s0 (State.camSync s x1) := by
  unfold State.camSync
  try dsimp only
  repeat' first | intro _ | with_reducible assumption | with_reducible apply keeps_State_setFld (subParts hA rfl) | with_reducible apply keeps_State_setFlag (subParts hA rfl) | split

theorem keeps_State_i2cStart {A : List Part} {s0 s : State} (hA : [.regs, .cam, .out] ⊆ A) (x1 : ℕ) (x2 : I2c) (x3 : Word) (h : Keeps A s0 s) : Keeps A s0 (State.i2cStart s x1 x2 x3) := by
  unfold State.i2cStart
  try dsimp only
  repeat' first | intro _ | with_reducible assumption | with_reducible apply keeps_State_emit (subParts hA rfl) | with_reducible apply keeps_State_modCm (subParts hA rfl) | with_reducible apply keeps_State_camSync (subParts hA rfl)

theorem keeps_execI2cGo {A : List Part} {s0 s : State} (hA : [.regs, .cam, .pci, .out] ⊆ A) (x0 : ℕ) (x1 : Word) (h : Keeps A s0 s) : KeepsR A s0 (execI2cGo x0 x1 s) := by
  unfold execI2cGo
  try dsimp only
  repeat' first | intro _ | with_reducible assumption | with_reducible apply KeepsR.ite | with_reducible apply Keeps.ite | with_reducible apply KeepsR.of_next | with_reducible apply keeps_State_setReg (subParts hA rfl) | with_reducible apply keeps_State_raise (subParts hA rfl) | with_reducible apply keeps_onUnitWrite (subParts hA rfl) | with_reducible apply keeps_State_i2cStart (subParts hA rfl)

theorem keeps_State_trigger {A : List Part} {s0 s : State} (hA : [.regs, .cam, .pci, .out] ⊆ A) (x1 : ℕ) (x2 : ℕ) (h : Keeps A s0 s) : Keeps A s0 (State.trigger s x1 x2) := by
  unfold State.trigger
  try dsimp only
  repeat' first | intro _ | with_reducible assumption | with_reducible apply Keeps.ite | with_reducible apply keeps_State_raise (subParts hA rfl) | with_reducible apply keeps_State_satAdd (subParts hA rfl) | with_reducible apply keeps_State_modCm (subParts hA rfl)

theorem keeps_execHostTrigger {A : List Part} {s0 s : State} (hA : [.regs, .cam, .pci, .out] ⊆ A) (x0 : ℕ) (x1 : Word) (h : Keeps A s0 s) : KeepsR A s0 (execHostTrigger x0 x1 s) := by
  unfold execHostTrigger
  try dsimp only
  repeat' first | intro _ | with_reducible assumption | with_reducible apply KeepsR.ite | with_reducible apply Keeps.ite | with_reducible apply KeepsR.of_next | with_reducible apply keeps_State_setFld (subParts hA rfl) | with_reducible apply keeps_onUnitWrite (subParts hA rfl) | with_reducible apply keeps_State_trigger (subParts hA rfl)

theorem keeps_execCameraPortEnable {A : List Part} {s0 s : State} (hA : [.regs, .cam, .pci, .out] ⊆ A) (x0 : ℕ) (x1 : Word) (h : Keeps A s0 s) : KeepsR A s0 (execCameraPortEnable x0 x1 s) := by
  unfold execCameraPortEnable
  try dsimp only
  repeat' first | intro _ | with_reducible assumption | with_reducible apply KeepsR.ite | with_reducible apply Keeps.ite | with_reducible apply KeepsR.of_next | with_reducible apply keeps_State_setReg (subParts hA rfl) | with_reducible apply keeps_State_setFld (subParts hA rfl) | with_reducible apply keeps_State_raise (subParts hA rfl) | with_reducible apply keeps_onUnitWrite (subParts hA rfl) | with_reducible apply keeps_State_modCm (subParts hA rfl)

theorem keeps_State_camCleared {A : List Part} {s0 s : State} (hA : [.cam, .pipe] ⊆ A)  (h : Keeps A s0 s) : Keeps A s0 (State.camCleared s) := by
  unfold State.camCleared
  try dsimp only
  repeat' first | intro _ | with_reducible assumption | with_reducible apply Keeps.upd_cam_pipe (subParts hA rfl) | with_reducible apply Keeps.upd_cam (subParts hA rfl) | with_reducible apply Keeps.upd_pipe (subParts hA rfl) | exact tabWf_mapKeys CamPort.reset (fun e => (e.1, { CamPort.reset with vs := e.2.vs })) (fun _ => rfl) (canon_cam (by assumption)) | exact tabWf_tabSet _ _ _ _ (canon_cam (by assumption)) | with_reducible rfl | rfl

theorem keeps_State_resetCam {A : List Part} {s0 s : State} (hA : [.regs, .cam, .pipe] ⊆ A) (x1 : Access → Bool) (h : Keeps A s0 s) : Keeps A s0 (State.resetCam s x1) := by
  unfold State.resetCam
  try dsimp only
  repeat' first | intro _ | with_reducible assumption | with_reducible apply keeps_State_resetRegs (subParts hA rfl) | with_reducible apply keeps_State_camCleared (subParts hA rfl)

theorem keeps_execCamBlockReset {A : List Part} {s0 s : State} (hA : [.regs, .cam, .pipe] ⊆ A)  (h : Keeps A s0 s) : KeepsR A s0 (execCamBlockReset s) := by
  unfold execCamBlockReset
  try dsimp only
  repeat' first | intro _ | with_reducible assumption | with_reducible apply KeepsR.ite | with_reducible apply Keeps.ite | with_reducible apply KeepsR.of_next | with_reducible apply keeps_State_absent (subParts hA rfl) | with_reducible apply keeps_State_resetCam (subParts hA rfl)

theorem keeps_execExposureCommit {A : List Part} {s0 s : State} (hA : [.regs, .cam, .pci, .out] ⊆ A) (x0 : ℕ) (x1 : Word) (h : Keeps A s0 s) : KeepsR A s0 (execExposureCommit x0 x1 s) := by
  unfold execExposureCommit
  try dsimp only
  repeat' first | intro _ | with_reducible assumption | with_reducible apply KeepsR.ite | with_reducible apply Keeps.ite | with_reducible apply KeepsR.of_next | with_reducible apply keeps_State_setReg (subParts hA rfl) | with_reducible apply keeps_State_raise (subParts hA rfl) | with_reducible apply keeps_State_satAdd (subParts hA rfl) | with_reducible apply keeps_onUnitWrite (subParts hA rfl) | with_reducible apply keeps_State_modCm (subParts hA rfl) | with_reducible apply keeps_State_camSync (subParts hA rfl)

theorem keeps_State_camOff {A : List Part} {s0 s : State} (hA : [.regs, .cam] ⊆ A) (x1 : ℕ) (h : Keeps A s0 s) : Keeps A s0 (State.camOff s x1) := by
  unfold State.camOff
  try dsimp only
  repeat' first | intro _ | with_reducible assumption | with_reducible apply Keeps.ite | with_reducible apply keeps_State_setFld (subParts hA rfl) | with_reducible apply keeps_State_setFlag (subParts hA rfl) | with_reducible apply keeps_State_modCm (subParts hA rfl) | with_reducible apply keeps_State_camSync (subParts hA rfl)

theorem keeps_State_camLevel {A : List Part} {s0 s : State} (hA : [.regs] ⊆ A) (x1 : ℕ) (h : Keeps A s0 s) : Keeps A s0 (State.camLevel s x1) := by
  unfold State.camLevel
  try dsimp only
  repeat' first | intro _ | with_reducible assumption | with_reducible apply keeps_State_setFld (subParts hA rfl)

theorem keeps_State_countDrop {A : List Part} {s0 s : State} (hA : [.regs, .pci, .out] ⊆ A) (x1 : ℕ) (x2 : ℕ) (h : Keeps A s0 s) : Keeps A s0 (State.countDrop s x1 x2) := by
  unfold State.countDrop
  try dsimp only
  repeat' first | intro _ | with_reducible assumption | with_reducible apply Keeps.ite | with_reducible apply keeps_State_raise (subParts hA rfl) | with_reducible apply keeps_State_satAdd (subParts hA rfl)

theorem keeps_State_putRecord {A : List Part} {s0 s : State} (hA : [.regs, .dram, .pci, .ddr, .out] ⊆ A) (x1 : ℕ) (x2 : Frame) (x3 : ℕ) (x4 : Option Stamp) (h : Keeps A s0 s) : Keeps A s0 (State.putRecord s x1 x2 x3 x4) := by
  unfold State.putRecord
  try dsimp only
  repeat' first | intro _ | with_reducible assumption | with_reducible apply keeps_State_writeDram (subParts hA rfl) | with_reducible apply keeps_State_setFld (subParts hA rfl) | with_reducible apply keeps_State_raise (subParts hA rfl)

theorem keeps_State_flushDrops {A : List Part} {s0 s : State} (hA : [.regs, .dram, .cam, .pci, .ddr, .out] ⊆ A) (x1 : ℕ) (x2 : List Frame) (h : Keeps A s0 s) : Keeps A s0 (State.flushDrops s x1 x2) := by
  induction x2 generalizing s  with
  | nil =>
    unfold State.flushDrops
    try dsimp only
    repeat' first | intro _ | with_reducible assumption | with_reducible apply Keeps.ite | (with_reducible apply keeps_State_modCm (subParts hA (by decide))) | (with_reducible apply keeps_State_putRecord (subParts hA (by decide))) | split | (refine Keeps.pair (by assumption) ?_)
  | cons r l ih =>
    unfold State.flushDrops
    try dsimp only
    repeat' first | intro _ | with_reducible assumption | with_reducible apply ih | with_reducible apply Keeps.ite | (with_reducible apply keeps_State_modCm (subParts hA (by decide))) | (with_reducible apply keeps_State_putRecord (subParts hA (by decide))) | split | (refine Keeps.pair (by assumption) ?_)

theorem keeps_State_spoilSlots {A : List Part} {s0 s : State} (hA : [.dram, .ddr, .free] ⊆ A) (x1 : ℕ) (x2 : Frame) (h : Keeps A s0 s) : Keeps A s0 (State.spoilSlots s x1 x2) := by
  unfold State.spoilSlots
  try dsimp only
  repeat' first | intro _ | with_reducible assumption | with_reducible apply Keeps.each | with_reducible apply keeps_State_writeDram (subParts hA rfl) | with_reducible apply keeps_State_draw (subParts hA rfl) | split | (refine Keeps.pair (by assumption) ?_)

theorem keeps_State_dropFrame {A : List Part} {s0 s : State} (hA : [.regs, .dram, .cam, .pipe, .pci, .ddr, .free, .out] ⊆ A) (x1 : ℕ) (x2 : ℕ) (x3 : ℕ) (h : Keeps A s0 s) : Keeps A s0 (State.dropFrame s x1 x2 x3) := by
  unfold State.dropFrame
  try dsimp only
  repeat' first | intro _ | with_reducible assumption | with_reducible apply Keeps.ite | with_reducible apply keeps_State_modCm (subParts hA rfl) | with_reducible apply keeps_State_camLevel (subParts hA rfl) | with_reducible apply keeps_State_countDrop (subParts hA rfl) | with_reducible apply keeps_State_flushDrops (subParts hA rfl) | with_reducible apply keeps_State_spoilSlots (subParts hA rfl) | split | with_reducible apply Keeps.upd_pipe (subParts hA rfl)

theorem keeps_State_dropAll {A : List Part} {s0 s : State} (hA : [.regs, .dram, .cam, .pipe, .pci, .ddr, .free, .out] ⊆ A) (x1 : ℕ) (x2 : ℕ) (h : Keeps A s0 s) : Keeps A s0 (State.dropAll s x1 x2) := by
  unfold State.dropAll
  try dsimp only
  repeat' first | intro _ | with_reducible assumption | with_reducible apply Keeps.foldl | with_reducible apply keeps_State_dropFrame (subParts hA rfl)

theorem keeps_execCameraPortDisable {A : List Part} {s0 s : State} (hA : [.regs, .dram, .cam, .pipe, .pci, .ddr, .free, .out] ⊆ A) (x0 : ℕ) (x1 : Word) (h : Keeps A s0 s) : KeepsR A s0 (execCameraPortDisable x0 x1 s) := by
  unfold execCameraPortDisable
  try dsimp only
  repeat' first | intro _ | with_reducible assumption | with_reducible apply KeepsR.ite | with_reducible apply Keeps.ite | with_reducible apply KeepsR.of_next | with_reducible apply keeps_State_setReg (subParts hA rfl) | with_reducible apply keeps_State_raise (subParts hA rfl) | with_reducible apply keeps_onUnitWrite (subParts hA rfl) | with_reducible apply keeps_State_camOff (subParts hA rfl) | with_reducible apply keeps_State_dropAll (subParts hA rfl)

theorem keeps_State_busCam {A : List Part} {s0 s : State} (hA : [.regs, .dram, .cam, .pipe, .pci, .ddr, .free, .out] ⊆ A) (x1 : ℕ) (x2 : ℕ) (x3 : ℕ) (x4 : Word) (h : Keeps A s0 s) : Keeps A s0 (State.busCam s x1 x2 x3 x4) := by
  unfold State.busCam
  try dsimp only
  repeat' first | intro _ | with_reducible assumption | with_reducible apply Keeps.ite | with_reducible apply KeepsR.ite | with_reducible apply keeps_State_raise (subParts hA rfl) | with_reducible apply keeps_State_after (subParts hA rfl) | with_reducible apply keeps_State_plainWrite (subParts hA rfl) | with_reducible apply keeps_State_ctlWrite (subParts hA rfl) | with_reducible apply keeps_execI2cGo (subParts hA rfl) | with_reducible apply keeps_execHostTrigger (subParts hA rfl) | with_reducible apply keeps_execCameraPortEnable (subParts hA rfl) | with_reducible apply keeps_execCamBlockReset (subParts hA rfl) | with_reducible apply keeps_execExposureCommit (subParts hA rfl) | with_reducible apply keeps_execCameraPortDisable (subParts hA rfl)

theorem keeps_State_stopLayer {A : List Part} {s0 s : State} (hA : [.regs, .dram, .grp, .chan, .srvAx, .srvCh, .lsr, .hoop, .port, .pci, .ddr, .cave, .xbar, .out] ⊆ A) (x1 : ℕ) (h : Keeps A s0 s) : Keeps A s0 (State.stopLayer s x1) := by
  unfold State.stopLayer
  try dsimp only
  repeat' first | intro _ | with_reducible assumption | with_reducible apply Keeps.ite | with_reducible apply keeps_State_abortNow (subParts hA rfl)

theorem keeps_State_enterSafe {A : List Part} {s0 s : State} (hA : [.regs, .dram, .grp, .chan, .srvAx, .srvCh, .lsr, .hoop, .port, .pci, .ddr, .cave, .boot, .xbar, .out] ⊆ A) (x1 : ℕ) (h : Keeps A s0 s) : Keeps A s0 (State.enterSafe s x1) := by
  unfold State.enterSafe
  try dsimp only
  repeat' first | intro _ | with_reducible assumption | with_reducible apply keeps_State_setFld (subParts hA rfl) | with_reducible apply keeps_State_cavePost (subParts hA rfl) | with_reducible apply keeps_State_emissionStop (subParts hA rfl) | with_reducible apply keeps_State_stopLayer (subParts hA rfl) | with_reducible apply Keeps.upd_boot (subParts hA rfl)

theorem keeps_State_safeCause {A : List Part} {s0 s : State} (hA : [.regs, .dram, .grp, .chan, .srvAx, .srvCh, .lsr, .hoop, .port, .pci, .ddr, .cave, .boot, .xbar, .out] ⊆ A) (x1 : ℕ) (h : Keeps A s0 s) : Keeps A s0 (State.safeCause s x1) := by
  unfold State.safeCause
  try dsimp only
  repeat' first | intro _ | with_reducible assumption | with_reducible apply Keeps.ite | with_reducible apply keeps_State_setFld (subParts hA rfl) | with_reducible apply keeps_State_raise (subParts hA rfl) | with_reducible apply keeps_State_enterSafe (subParts hA rfl)

theorem keeps_execSafeEnter {A : List Part} {s0 s : State} (hA : [.regs, .dram, .grp, .chan, .srvAx, .srvCh, .lsr, .hoop, .port, .pci, .ddr, .cave, .boot, .xbar, .out] ⊆ A) (x0 : Source) (h : Keeps A s0 s) : KeepsR A s0 (execSafeEnter x0 s) := by
  unfold execSafeEnter
  try dsimp only
  repeat' first | intro _ | with_reducible assumption | with_reducible apply KeepsR.of_next | with_reducible apply keeps_State_safeCause (subParts hA rfl) | split

theorem keeps_State_goodKick {A : List Part} {s0 s : State} (hA : [.regs, .boot] ⊆ A)  (h : Keeps A s0 s) : Keeps A s0 (State.goodKick s) := by
  unfold State.goodKick
  try dsimp only
  repeat' first | intro _ | with_reducible assumption | with_reducible apply Keeps.ite | with_reducible apply keeps_State_setFld (subParts hA rfl) | with_reducible apply Keeps.upd_boot (subParts hA rfl)

theorem keeps_State_badKick {A : List Part} {s0 s : State} (hA : [.regs, .dram, .grp, .chan, .srvAx, .srvCh, .lsr, .hoop, .port, .pci, .ddr, .cave, .boot, .xbar, .out] ⊆ A)  (h : Keeps A s0 s) : Keeps A s0 (State.badKick s) := by
  unfold State.badKick
  try dsimp only
  repeat' first | intro _ | with_reducible assumption | with_reducible apply Keeps.ite | with_reducible apply keeps_State_raise (subParts hA rfl) | with_reducible apply keeps_State_satAdd (subParts hA rfl) | with_reducible apply keeps_State_safeCause (subParts hA rfl) | with_reducible apply Keeps.upd_boot (subParts hA rfl)

theorem keeps_execKick {A : List Part} {s0 s : State} (hA : [.regs, .dram, .grp, .chan, .srvAx, .srvCh, .lsr, .hoop, .port, .pci, .ddr, .cave, .boot, .xbar, .out] ⊆ A) (x0 : Source) (x1 : Word) (h : Keeps A s0 s) : KeepsR A s0 (execKick x0 x1 s) := by
  unfold execKick
  try dsimp only
  repeat' first | intro _ | with_reducible assumption | with_reducible apply KeepsR.ite | with_reducible apply Keeps.ite | with_reducible apply KeepsR.of_next | with_reducible apply keeps_State_setFld (subParts hA rfl) | with_reducible apply keeps_State_bootRej (subParts hA rfl) | with_reducible apply keeps_State_goodKick (subParts hA rfl) | with_reducible apply keeps_State_badKick (subParts hA rfl) | split

theorem keeps_execBootProvision {A : List Part} {s0 s : State} (hA : [.regs, .pci, .boot, .out] ⊆ A)  (h : Keeps A s0 s) : KeepsR A s0 (execBootProvision s) := by
  unfold execBootProvision
  try dsimp only
  repeat' first | intro _ | with_reducible assumption | with_reducible apply KeepsR.ite | with_reducible apply Keeps.ite | with_reducible apply KeepsR.of_next | with_reducible apply keeps_State_setFlag (subParts hA rfl) | with_reducible apply keeps_State_bootRej (subParts hA rfl) | with_reducible apply Keeps.upd_boot (subParts hA rfl)

theorem keeps_State_voteWrite {A : List Part} {s0 s : State} (hA : [.regs, .dram, .grp, .dom, .pci, .ddr, .pwr, .out] ⊆ A) (x1 : ℕ) (x2 : Word) (h : Keeps A s0 s) : Keeps A s0 (State.voteWrite s x1 x2) := by
  unfold State.voteWrite
  try dsimp only
  repeat' first | intro _ | with_reducible assumption | with_reducible apply Keeps.ite | with_reducible apply keeps_State_setReg (subParts hA rfl) | with_reducible apply keeps_State_settlePower (subParts hA rfl) | with_reducible apply keeps_State_wakeRun (subParts hA rfl)

theorem keeps_State_voteHost {A : List Part} {s0 s : State} (hA : [.regs, .dram, .grp, .dom, .pci, .ddr, .pwr, .out] ⊆ A)  (h : Keeps A s0 s) : Keeps A s0 (State.voteHost s) := by
  unfold State.voteHost
  try dsimp only
  repeat' first | intro _ | with_reducible assumption | with_reducible apply keeps_State_voteWrite (subParts hA rfl)

theorem keeps_State_runImage {A : List Part} {s0 s : State} (hA : [.regs, .dram, .l2, .grp, .dom, .pci, .ddr, .pwr, .out] ⊆ A) (x1 : ℕ) (x2 : ℕ → ℕ → List Byte) (h : Keeps A s0 s) : Keeps A s0 (State.runImage s x1 x2) := by
  unfold State.runImage
  try dsimp only
  repeat' first | intro _ | with_reducible assumption | with_reducible apply Keeps.ite | with_reducible apply keeps_State_setFld (subParts hA rfl) | with_reducible apply keeps_State_raise (subParts hA rfl) | with_reducible apply keeps_State_setFlag (subParts hA rfl) | with_reducible apply keeps_State_voteHost (subParts hA rfl) | with_reducible apply Keeps.upd_l2_pci (subParts hA rfl) | with_reducible apply Keeps.upd_l2 (subParts hA rfl) | with_reducible apply Keeps.upd_pci (subParts hA rfl)

theorem keeps_execBootGo {A : List Part} {s0 s : State} (hA : [.regs, .dram, .l2, .grp, .dom, .pci, .ddr, .pwr, .out] ⊆ A)  (h : Keeps A s0 s) : KeepsR A s0 (execBootGo s) := by
  unfold execBootGo
  try dsimp only
  repeat' first | intro _ | with_reducible assumption | with_reducible apply KeepsR.ite | with_reducible apply Keeps.ite | with_reducible apply KeepsR.of_next | with_reducible apply keeps_State_setFld (subParts hA rfl) | with_reducible apply keeps_State_bootRej (subParts hA rfl) | with_reducible apply keeps_State_runImage (subParts hA rfl)

theorem keeps_State_stopDma {A : List Part} {s0 s : State} (hA : [.regs, .dma, .dmaEng] ⊆ A) (x1 : Access → Bool) (h : Keeps A s0 s) : Keeps A s0 (State.stopDma s x1) := by
  unfold State.stopDma
  try dsimp only
  repeat' first | intro _ | with_reducible assumption | with_reducible apply keeps_State_resetRegs (subParts hA rfl) | with_reducible apply Keeps.upd_dma_dmaEng (subParts hA rfl) | with_reducible apply Keeps.upd_dma (subParts hA rfl) | with_reducible apply Keeps.upd_dmaEng (subParts hA rfl) | exact tabWf_tabSet _ _ _ _ (canon_dma (by assumption)) | with_reducible rfl | rfl

theorem keeps_State_resetEth {A : List Part} {s0 s : State} (hA : [.regs, .eth] ⊆ A) (x1 : Access → Bool) (h : Keeps A s0 s) : Keeps A s0 (State.resetEth s x1) := by
  unfold State.resetEth
  try dsimp only
  repeat' first | intro _ | with_reducible assumption | with_reducible apply keeps_State_resetRegs (subParts hA rfl) | with_reducible apply Keeps.upd_eth (subParts hA rfl) | exact tabWf_tabSet _ _ _ _ (canon_eth (by assumption)) | with_reducible rfl | rfl

theorem keeps_State_restore {A : List Part} {s0 s : State} (hA : [.regs] ⊆ A) (x1 : State) (x2 : List ℕ) (h : Keeps A s0 s) : Keeps A s0 (State.restore s x1 x2) := by
  unfold State.restore
  try dsimp only
  repeat' first | intro _ | with_reducible assumption | with_reducible apply Keeps.foldl | with_reducible apply keeps_State_setReg (subParts hA rfl)

theorem keeps_State_portsDown {A : List Part} {s0 s : State} (hA : [.regs, .port, .lane, .head, .pci, .out] ⊆ A)  (h : Keeps A s0 s) : Keeps A s0 (State.portsDown s) := by
  unfold State.portsDown
  try dsimp only
  repeat' first | intro _ | with_reducible assumption | with_reducible apply Keeps.each | with_reducible apply keeps_State_setReg (subParts hA rfl) | with_reducible apply keeps_State_modPt (subParts hA rfl) | with_reducible apply keeps_State_laneDown (subParts hA rfl)

theorem keeps_State_resetHoop {A : List Part} {s0 s : State} (hA : [.regs, .hoop, .port, .bulk, .dom, .time, .lane, .head, .pci, .out] ⊆ A) (x1 : Access → Bool) (h : Keeps A s0 s) : Keeps A s0 (State.resetHoop s x1) := by
  unfold State.resetHoop
  try dsimp only
  repeat' first | intro _ | with_reducible assumption | with_reducible apply keeps_State_resetRegs (subParts hA rfl) | with_reducible apply keeps_State_holdDomains (subParts hA rfl) | with_reducible apply keeps_State_restore (subParts hA rfl) | with_reducible apply keeps_State_portsDown (subParts hA rfl) | with_reducible apply Keeps.upd_hoop_port_bulk_time (subParts hA rfl) | with_reducible apply Keeps.upd_hoop (subParts hA rfl) | with_reducible apply Keeps.upd_port (subParts hA rfl) | with_reducible apply Keeps.upd_bulk (subParts hA rfl) | with_reducible apply Keeps.upd_time (subParts hA rfl) | exact tabWf_tabSet _ _ _ _ (canon_port (by assumption)) | exact tabWf_tabSet _ _ _ _ (canon_bulk (by assumption)) | with_reducible rfl | rfl

theorem keeps_State_resetLane {A : List Part} {s0 s : State} (hA : [.regs, .port, .lane, .head, .pci, .out] ⊆ A) (x1 : Access → Bool) (h : Keeps A s0 s) : Keeps A s0 (State.resetLane s x1) := by
  unfold State.resetLane
  try dsimp only
  repeat' first | intro _ | with_reducible assumption | with_reducible apply Keeps.each | with_reducible apply keeps_State_headLanesDown (subParts hA rfl) | with_reducible apply keeps_State_resetRegs (subParts hA rfl) | with_reducible apply keeps_State_portLost (subParts hA rfl) | with_reducible apply Keeps.upd_lane (subParts hA rfl) | exact tabWf_tabSet _ _ _ _ (canon_lane (by assumption)) | with_reducible rfl | rfl

theorem keeps_State_resetDdr {A : List Part} {s0 s : State} (hA : [.regs, .dram, .ddr] ⊆ A) (x1 : Access → Bool) (h : Keeps A s0 s) : Keeps A s0 (State.resetDdr s x1) := by
  unfold State.resetDdr
  try dsimp only
  repeat' first | intro _ | with_reducible assumption | with_reducible apply keeps_State_resetRegs (subParts hA rfl) | with_reducible apply Keeps.upd_dram_ddr (subParts hA rfl) | with_reducible apply Keeps.upd_dram (subParts hA rfl) | with_reducible apply Keeps.upd_ddr (subParts hA rfl) | exact tabWf_tabSet _ _ _ _ (canon_dram (by assumption)) | with_reducible rfl | rfl

theorem keeps_State_resetLsr {A : List Part} {s0 s : State} (hA : [.regs, .lsr, .ddr] ⊆ A) (x1 : Access → Bool) (h : Keeps A s0 s) : Keeps A s0 (State.resetLsr s x1) := by
  unfold State.resetLsr
  try dsimp only
  repeat' first | intro _ | with_reducible assumption | with_reducible apply keeps_State_setReg (subParts hA rfl) | with_reducible apply keeps_State_resetRegs (subParts hA rfl) | with_reducible apply keeps_State_loopsLost (subParts hA rfl)

theorem keeps_State_resetSeq {A : List Part} {s0 s : State} (hA : [.regs, .grp, .armUndo, .chan, .lsr] ⊆ A) (x1 : Access → Bool) (h : Keeps A s0 s) : Keeps A s0 (State.resetSeq s x1) := by
  unfold State.resetSeq
  try dsimp only
  repeat' first | intro _ | with_reducible assumption | with_reducible apply Keeps.each | with_reducible apply keeps_State_lapse (subParts hA rfl) | with_reducible apply keeps_State_resetRegs (subParts hA rfl) | with_reducible apply Keeps.upd_grp_armUndo_chan (subParts hA rfl) | with_reducible apply Keeps.upd_grp (subParts hA rfl) | with_reducible apply Keeps.upd_armUndo (subParts hA rfl) | with_reducible apply Keeps.upd_chan (subParts hA rfl) | exact tabWf_tabSet _ _ _ _ (canon_chan (by assumption)) | with_reducible rfl | rfl

theorem keeps_State_resetBlocks {A : List Part} {s0 s : State} (hA : [.regs, .dram, .grp, .armUndo, .chan, .srvAx, .srvCh, .srv, .lsr, .hoop, .port, .bulk, .dom, .time, .mot, .fbk, .cam, .pipe, .lgt, .strobe, .lane, .head, .dma, .dmaEng, .pci, .eth, .ddr, .pwr, .xbar, .free, .out] ⊆ A)  (h : Keeps A s0 s) : Keeps A s0 (State.resetBlocks s) := by
  unfold State.resetBlocks
  try dsimp only
  repeat' first | intro _ | with_reducible assumption | with_reducible apply keeps_State_resetHl (subParts hA rfl) | with_reducible apply keeps_State_resetLgt (subParts hA rfl) | with_reducible apply keeps_State_linkLost (subParts hA rfl) | with_reducible apply keeps_State_resetPci (subParts hA rfl) | with_reducible apply keeps_State_resetSrv (subParts hA rfl) | with_reducible apply keeps_State_resetSti (subParts hA rfl) | with_reducible apply keeps_State_resetMot (subParts hA rfl) | with_reducible apply keeps_State_resetFbk (subParts hA rfl) | with_reducible apply keeps_State_resetCam (subParts hA rfl) | with_reducible apply keeps_State_stopDma (subParts hA rfl) | with_reducible apply keeps_State_resetEth (subParts hA rfl) | with_reducible apply keeps_State_resetHoop (subParts hA rfl) | with_reducible apply keeps_State_resetLane (subParts hA rfl) | with_reducible apply keeps_State_resetDdr (subParts hA rfl) | with_reducible apply keeps_State_resetLsr (subParts hA rfl) | with_reducible apply keeps_State_resetSeq (subParts hA rfl) | with_reducible apply Keeps.upd_pci (subParts hA rfl)

theorem keeps_State_resetBoot {A : List Part} {s0 s : State} (hA : [.regs, .l2, .boot] ⊆ A)  (h : Keeps A s0 s) : Keeps A s0 (State.resetBoot s) := by
  unfold State.resetBoot
  try dsimp only
  repeat' first | intro _ | with_reducible assumption | with_reducible apply Keeps.ite | with_reducible apply keeps_State_setFld (subParts hA rfl) | with_reducible apply keeps_State_setFlag (subParts hA rfl) | with_reducible apply keeps_State_resetRegs (subParts hA rfl) | with_reducible apply Keeps.upd_l2_boot (subParts hA rfl) | with_reducible apply Keeps.upd_l2 (subParts hA rfl) | with_reducible apply Keeps.upd_boot (subParts hA rfl)

theorem keeps_State_resetHk {A : List Part} {s0 s : State} (hA : [.regs] ⊆ A) (x1 : Access → Bool) (h : Keeps A s0 s) : Keeps A s0 (State.resetHk s x1) := by
  unfold State.resetHk
  try dsimp only
  repeat' first | intro _ | with_reducible assumption | with_reducible apply keeps_State_resetRegs (subParts hA rfl)

theorem keeps_State_resetPwr {A : List Part} {s0 s : State} (hA : [.regs, .grp, .pwr] ⊆ A) (x1 : Access → Bool) (h : Keeps A s0 s) : Keeps A s0 (State.resetPwr s x1) := by
  unfold State.resetPwr
  try dsimp only
  repeat' first | intro _ | with_reducible assumption | with_reducible apply Keeps.each | with_reducible apply keeps_State_setReg (subParts hA rfl) | with_reducible apply keeps_State_modGrp (subParts hA rfl) | with_reducible apply keeps_State_resetRegs (subParts hA rfl) | with_reducible apply keeps_State_budSync (subParts hA rfl) | with_reducible apply Keeps.upd_pwr (subParts hA rfl)

theorem keeps_State_unfreeze {A : List Part} {s0 s : State} (hA : [.regs, .cave] ⊆ A)  (h : Keeps A s0 s) : Keeps A s0 (State.unfreeze s) := by
  unfold State.unfreeze
  try dsimp only
  repeat' first | intro _ | with_reducible assumption | with_reducible apply keeps_State_setFlag (subParts hA rfl) | with_reducible apply Keeps.upd_cave (subParts hA rfl) | with_reducible rfl | rfl

theorem keeps_State_clearLost {A : List Part} {s0 s : State} (hA : [.regs, .cave] ⊆ A)  (h : Keeps A s0 s) : Keeps A s0 (State.clearLost s) := by
  unfold State.clearLost
  try dsimp only
  repeat' first | intro _ | with_reducible assumption | with_reducible apply Keeps.ite | with_reducible apply keeps_State_setFlag (subParts hA rfl) | with_reducible apply Keeps.upd_cave (subParts hA rfl) | with_reducible rfl | rfl

theorem keeps_State_resetCave {A : List Part} {s0 s : State} (hA : [.regs, .cave] ⊆ A) (x1 : Access → Bool) (h : Keeps A s0 s) : Keeps A s0 (State.resetCave s x1) := by
  unfold State.resetCave
  try dsimp only
  repeat' first | intro _ | with_reducible assumption | with_reducible apply keeps_State_setReg (subParts hA rfl) | with_reducible apply keeps_State_resetRegs (subParts hA rfl) | with_reducible apply keeps_State_unfreeze (subParts hA rfl) | with_reducible apply keeps_State_clearLost (subParts hA rfl) | with_reducible apply Keeps.upd_cave (subParts hA rfl) | with_reducible rfl | rfl

theorem keeps_State_resetAon {A : List Part} {s0 s : State} (hA : [.regs, .grp, .intg, .cal, .pwr, .cave] ⊆ A)  (h : Keeps A s0 s) : Keeps A s0 (State.resetAon s) := by
  unfold State.resetAon
  try dsimp only
  repeat' first | intro _ | with_reducible assumption | with_reducible apply keeps_State_resetRegs (subParts hA rfl) | with_reducible apply keeps_State_resetCal (subParts hA rfl) | with_reducible apply keeps_State_resetIntg (subParts hA rfl) | with_reducible apply keeps_State_resetHk (subParts hA rfl) | with_reducible apply keeps_State_resetPwr (subParts hA rfl) | with_reducible apply keeps_State_resetCave (subParts hA rfl)

theorem keeps_State_coreReset {A : List Part} {s0 s : State} (hA : [.regs, .dram, .l2, .shadow, .staged, .grp, .armUndo, .chan, .srvAx, .srvCh, .srv, .lsr, .hoop, .port, .bulk, .dom, .time, .mot, .fbk, .cam, .pipe, .lgt, .strobe, .lane, .head, .dma, .dmaEng, .pci, .eth, .ddr, .intg, .cal, .pwr, .cave, .boot, .xbar, .free, .out] ⊆ A) (x1 : ℕ) (x2 : ℕ) (h : Keeps A s0 s) : Keeps A s0 (State.coreReset s x1 x2) := by
  unfold State.coreReset
  try dsimp only
  repeat' first | intro _ | with_reducible assumption | with_reducible apply Keeps.ite | with_reducible apply Keeps.each | with_reducible apply keeps_State_setFld (subParts hA rfl) | with_reducible apply keeps_State_cavePost (subParts hA rfl) | with_reducible apply keeps_State_namedReset (subParts hA rfl) | with_reducible apply keeps_State_lanesStart (subParts hA rfl) | with_reducible apply keeps_State_revote (subParts hA rfl) | with_reducible apply keeps_State_resetBlocks (subParts hA rfl) | with_reducible apply keeps_State_resetBoot (subParts hA rfl) | with_reducible apply keeps_State_resetAon (subParts hA rfl) | with_reducible apply Keeps.upd_shadow_staged (subParts hA rfl) | with_reducible apply Keeps.upd_shadow (subParts hA rfl) | with_reducible apply Keeps.upd_staged (subParts hA rfl) | exact tabWf_tabSet _ _ _ _ (canon_shadow (by assumption)) | exact tabWf_tabSet _ _ _ _ (canon_staged (by assumption)) | with_reducible rfl | rfl

theorem keeps_execSoftwareWarmReset {A : List Part} {s0 s : State} (hA : [.regs, .dram, .l2, .shadow, .staged, .grp, .armUndo, .chan, .srvAx, .srvCh, .srv, .lsr, .hoop, .port, .bulk, .dom, .time, .mot, .fbk, .cam, .pipe, .lgt, .strobe, .lane, .head, .dma, .dmaEng, .pci, .eth, .ddr, .intg, .cal, .pwr, .cave, .boot, .xbar, .free, .out] ⊆ A) (x0 : Word) (h : Keeps A s0 s) : KeepsR A s0 (execSoftwareWarmReset x0 s) := by
  unfold execSoftwareWarmReset
  try dsimp only
  repeat' first | intro _ | with_reducible assumption | with_reducible apply KeepsR.ite | with_reducible apply Keeps.ite | with_reducible apply KeepsR.of_next | with_reducible apply keeps_State_bootRej (subParts hA rfl) | with_reducible apply keeps_State_coreReset (subParts hA rfl) | with_reducible apply Keeps.upd_boot (subParts hA rfl)

theorem keeps_State_busBoot {A : List Part} {s0 s : State} (hA : [.regs, .dram, .l2, .shadow, .staged, .grp, .armUndo, .chan, .srvAx, .srvCh, .srv, .lsr, .hoop, .port, .bulk, .dom, .time, .mot, .fbk, .cam, .pipe, .lgt, .strobe, .lane, .head, .dma, .dmaEng, .pci, .eth, .ddr, .intg, .cal, .pwr, .cave, .boot, .xbar, .free, .out] ⊆ A) (x1 : Source) (x2 : ℕ) (x3 : ℕ) (x4 : Word) (h : Keeps A s0 s) : Keeps A s0 (State.busBoot s x1 x2 x3 x4) := by
  unfold State.busBoot
  try dsimp only
  repeat' first | intro _ | with_reducible assumption | with_reducible apply Keeps.ite | with_reducible apply KeepsR.ite | with_reducible apply keeps_State_after (subParts hA rfl) | with_reducible apply keeps_State_bootRej (subParts hA rfl) | with_reducible apply keeps_State_plainWrite (subParts hA rfl) | with_reducible apply keeps_State_cmdBit (subParts hA rfl) | with_reducible apply keeps_execSafeEnter (subParts hA rfl) | with_reducible apply keeps_execKick (subParts hA rfl) | with_reducible apply keeps_execBootProvision (subParts hA rfl) | with_reducible apply keeps_execBootGo (subParts hA rfl) | with_reducible apply keeps_execSoftwareWarmReset (subParts hA rfl)

theorem keeps_execEthI2cGo {A : List Part} {s0 s : State} (hA : [.regs, .pci, .eth, .out] ⊆ A) (x0 : ℕ) (x1 : Word) (h : Keeps A s0 s) : KeepsR A s0 (execEthI2cGo x0 x1 s) := by
  unfold execEthI2cGo
  try dsimp only
  repeat' first | intro _ | with_reducible assumption | with_reducible apply KeepsR.ite | with_reducible apply Keeps.ite | with_reducible apply KeepsR.of_next | with_reducible apply keeps_State_setReg (subParts hA rfl) | with_reducible apply keeps_State_emit (subParts hA rfl) | with_reducible apply keeps_State_ethFlag (subParts hA rfl) | with_reducible apply keeps_State_setFlag (subParts hA rfl) | with_reducible apply keeps_onUnitWrite (subParts hA rfl) | with_reducible apply keeps_State_modEt (subParts hA rfl)

theorem keeps_execEthBlockReset {A : List Part} {s0 s : State} (hA : [.regs, .eth] ⊆ A)  (h : Keeps A s0 s) : KeepsR A s0 (execEthBlockReset s) := by
  unfold execEthBlockReset
  try dsimp only
  repeat' first | intro _ | with_reducible assumption | with_reducible apply KeepsR.of_next | with_reducible apply keeps_State_resetEth (subParts hA rfl)

theorem keeps_State_storeEthCfg {A : List Part} {s0 s : State} (hA : [.regs, .pci, .out] ⊆ A) (x1 : ℕ) (x2 : Word) (h : Keeps A s0 s) : Keeps A s0 (State.storeEthCfg s x1 x2) := by
  unfold State.storeEthCfg
  try dsimp only
  repeat' first | intro _ | with_reducible assumption | with_reducible apply Keeps.ite | with_reducible apply keeps_State_setReg (subParts hA rfl) | with_reducible apply keeps_State_ethFlag (subParts hA rfl)

theorem keeps_State_setLink {A : List Part} {s0 s : State} (hA : [.regs, .pci, .out] ⊆ A) (x1 : ℕ) (x2 : Bool) (h : Keeps A s0 s) : Keeps A s0 (State.setLink s x1 x2) := by
  unfold State.setLink
  try dsimp only
  repeat' first | intro _ | with_reducible assumption | with_reducible apply Keeps.ite | with_reducible apply keeps_State_ethFlag (subParts hA rfl) | with_reducible apply keeps_State_setFlag (subParts hA rfl)

theorem keeps_execEthPortEnable {A : List Part} {s0 s : State} (hA : [.regs, .pci, .eth, .out] ⊆ A) (x0 : ℕ) (x1 : Word) (h : Keeps A s0 s) : KeepsR A s0 (execEthPortEnable x0 x1 s) := by
  unfold execEthPortEnable
  try dsimp only
  repeat' first | intro _ | with_reducible assumption | with_reducible apply KeepsR.ite | with_reducible apply Keeps.ite | with_reducible apply KeepsR.of_next | with_reducible apply keeps_onUnitWrite (subParts hA rfl) | with_reducible apply keeps_State_modEt (subParts hA rfl) | with_reducible apply keeps_State_storeEthCfg (subParts hA rfl) | with_reducible apply keeps_State_setLink (subParts hA rfl)

theorem keeps_State_txSkip {A : List Part} {s0 s : State} (hA : [.regs, .dram, .pci, .ddr, .out] ⊆ A) (x0 : ℕ) (x1 : ℕ) (h : Keeps A s0 s) : Keeps A s0 (State.txSkip x0 x1 s) := by
  induction x1 generalizing s  with
  | zero =>
    unfold State.txSkip
    try dsimp only
    repeat' first | intro _ | with_reducible assumption | with_reducible apply Keeps.ite | (with_reducible apply keeps_State_txRelease (subParts hA (by decide))) | split | (refine Keeps.pair (by assumption) ?_)
  | succ k ih =>
    unfold State.txSkip
    try dsimp only
    repeat' first | intro _ | with_reducible assumption | with_reducible apply ih | with_reducible apply Keeps.ite | (with_reducible apply keeps_State_txRelease (subParts hA (by decide))) | split | (refine Keeps.pair (by assumption) ?_)

theorem keeps_State_txClean {A : List Part} {s0 s : State} (hA : [.regs, .dram, .pci, .ddr, .out] ⊆ A) (x1 : ℕ) (h : Keeps A s0 s) : Keeps A s0 (State.txClean s x1) := by
  unfold State.txClean
  try dsimp only
  repeat' first | intro _ | with_reducible assumption | with_reducible apply keeps_State_txSkip (subParts hA rfl)

theorem keeps_execEthTxDoorbell {A : List Part} {s0 s : State} (hA : [.regs, .dram, .pci, .ddr, .out] ⊆ A) (x0 : ℕ) (x1 : Word) (h : Keeps A s0 s) : KeepsR A s0 (execEthTxDoorbell x0 x1 s) := by
  unfold execEthTxDoorbell
  try dsimp only
  repeat' first | intro _ | with_reducible assumption | with_reducible apply KeepsR.of_next | with_reducible apply keeps_State_setFld (subParts hA rfl) | with_reducible apply keeps_onUnitWrite (subParts hA rfl) | with_reducible apply keeps_State_txClean (subParts hA rfl)

theorem keeps_execEthRxDoorbell {A : List Part} {s0 s : State} (hA : [.regs] ⊆ A) (x0 : ℕ) (x1 : Word) (h : Keeps A s0 s) : KeepsR A s0 (execEthRxDoorbell x0 x1 s) := by
  unfold execEthRxDoorbell
  try dsimp only
  repeat' first | intro _ | with_reducible assumption | with_reducible apply KeepsR.of_next | with_reducible apply keeps_State_setFld (subParts hA rfl) | with_reducible apply keeps_onUnitWrite (subParts hA rfl)

theorem keeps_State_busEth {A : List Part} {s0 s : State} (hA : [.regs, .dram, .pci, .eth, .ddr, .out] ⊆ A) (x1 : ℕ) (x2 : ℕ) (x3 : ℕ) (x4 : Word) (h : Keeps A s0 s) : Keeps A s0 (State.busEth s x1 x2 x3 x4) := by
  unfold State.busEth
  try dsimp only
  repeat' first | intro _ | with_reducible assumption | with_reducible apply Keeps.ite | with_reducible apply KeepsR.ite | with_reducible apply keeps_State_ethFlag (subParts hA rfl) | with_reducible apply keeps_State_after (subParts hA rfl) | with_reducible apply keeps_State_plainWrite (subParts hA rfl) | with_reducible apply keeps_State_ctlWrite (subParts hA rfl) | with_reducible apply keeps_execEthI2cGo (subParts hA rfl) | with_reducible apply keeps_execEthBlockReset (subParts hA rfl) | with_reducible apply keeps_execEthPortEnable (subParts hA rfl) | with_reducible apply keeps_execEthTxDoorbell (subParts hA rfl) | with_reducible apply keeps_execEthRxDoorbell (subParts hA rfl)

theorem keeps_execDmaEnable {A : List Part} {s0 s : State} (hA : [.regs, .dma, .dmaEng, .out] ⊆ A) (x0 : ℕ) (x1 : Word) (h : Keeps A s0 s) : KeepsR A s0 (execDmaEnable x0 x1 s) := by
  unfold execDmaEnable
  try dsimp only
  repeat' first | intro _ | with_reducible assumption | with_reducible apply KeepsR.ite | with_reducible apply Keeps.ite | with_reducible apply KeepsR.of_next | with_reducible apply keeps_State_storeDmaCfg (subParts hA rfl) | with_reducible apply keeps_State_setDmaState (subParts hA rfl) | with_reducible apply keeps_onDmaWrite (subParts hA rfl)

theorem keeps_execDmaDisable {A : List Part} {s0 s : State} (hA : [.regs, .dma, .dmaEng, .out] ⊆ A) (x0 : ℕ) (x1 : Word) (h : Keeps A s0 s) : KeepsR A s0 (execDmaDisable x0 x1 s) := by
  unfold execDmaDisable
  try dsimp only
  repeat' first | intro _ | with_reducible assumption | with_reducible apply KeepsR.ite | with_reducible apply Keeps.ite | with_reducible apply KeepsR.of_next | with_reducible apply keeps_State_storeDmaCfg (subParts hA rfl) | with_reducible apply keeps_State_modDc (subParts hA rfl) | with_reducible apply keeps_State_setDmaState (subParts hA rfl) | with_reducible apply keeps_onDmaWrite (subParts hA rfl)

theorem keeps_execDmaBlockReset {A : List Part} {s0 s : State} (hA : [.regs, .dram, .dma, .dmaEng, .pci, .ddr, .out] ⊆ A)  (h : Keeps A s0 s) : KeepsR A s0 (execDmaBlockReset s) := by
  unfold execDmaBlockReset
  try dsimp only
  repeat' first | intro _ | with_reducible assumption | with_reducible apply KeepsR.of_next | with_reducible apply keeps_State_resetDma (subParts hA rfl)

theorem keeps_execFwirqSet {A : List Part} {s0 s : State} (hA : [.regs, .pci, .out] ⊆ A) (x0 : Word) (h : Keeps A s0 s) : KeepsR A s0 (execFwirqSet x0 s) := by
  unfold execFwirqSet
  try dsimp only
  repeat' first | intro _ | with_reducible assumption | with_reducible apply KeepsR.of_next | with_reducible apply keeps_State_setReg (subParts hA rfl) | with_reducible apply keeps_irqWritten (subParts hA rfl)

theorem keeps_execDdrCfgWrite {A : List Part} {s0 s : State} (hA : [.regs] ⊆ A) (x0 : Word) (h : Keeps A s0 s) : KeepsR A s0 (execDdrCfgWrite x0 s) := by
  unfold execDdrCfgWrite
  try dsimp only
  repeat' first | intro _ | with_reducible assumption | with_reducible apply KeepsR.ite | with_reducible apply Keeps.ite | with_reducible apply KeepsR.of_next | with_reducible apply keeps_State_setReg (subParts hA rfl) | with_reducible apply keeps_State_setFlag (subParts hA rfl)

theorem keeps_execDdrBlockReset {A : List Part} {s0 s : State} (hA : [.regs, .dram, .ddr] ⊆ A)  (h : Keeps A s0 s) : KeepsR A s0 (execDdrBlockReset s) := by
  unfold execDdrBlockReset
  try dsimp only
  repeat' first | intro _ | with_reducible assumption | with_reducible apply KeepsR.of_next | with_reducible apply keeps_State_resetDdr (subParts hA rfl)

theorem keeps_execFwirqClear {A : List Part} {s0 s : State} (hA : [.regs, .pci, .out] ⊆ A) (x0 : Word) (h : Keeps A s0 s) : KeepsR A s0 (execFwirqClear x0 s) := by
  unfold execFwirqClear
  try dsimp only
  repeat' first | intro _ | with_reducible assumption | with_reducible apply KeepsR.of_next | with_reducible apply keeps_State_setReg (subParts hA rfl) | with_reducible apply keeps_irqWritten (subParts hA rfl)

theorem keeps_execDmaRestart {A : List Part} {s0 s : State} (hA : [.regs, .dma, .dmaEng, .out] ⊆ A) (x0 : ℕ) (h : Keeps A s0 s) : KeepsR A s0 (execDmaRestart x0 s) := by
  unfold execDmaRestart
  try dsimp only
  repeat' first | intro _ | with_reducible assumption | with_reducible apply KeepsR.ite | with_reducible apply Keeps.ite | with_reducible apply KeepsR.of_next | with_reducible apply keeps_State_setDmaState (subParts hA rfl) | with_reducible apply keeps_onDmaWrite (subParts hA rfl)

theorem keeps_State_busHost {A : List Part} {s0 s : State} (hA : [.regs, .dram, .dma, .dmaEng, .pci, .ddr, .out] ⊆ A) (x1 : Source) (x2 : ℕ) (x3 : ℕ) (x4 : ℕ) (x5 : Word) (h : Keeps A s0 s) : Keeps A s0 (State.busHost s x1 x2 x3 x4 x5) := by
  unfold State.busHost
  try dsimp only
  repeat' first | intro _ | with_reducible assumption | with_reducible apply Keeps.ite | with_reducible apply KeepsR.ite | with_reducible apply keeps_execDmaDoorbell (subParts hA rfl) | with_reducible apply keeps_execDdrInit (subParts hA rfl) | with_reducible apply keeps_State_after (subParts hA rfl) | with_reducible apply keeps_State_plainWrite (subParts hA rfl) | with_reducible apply keeps_State_ctlWrite (subParts hA rfl) | with_reducible apply keeps_State_cmdBit (subParts hA rfl) | with_reducible apply keeps_execDmaEnable (subParts hA rfl) | with_reducible apply keeps_execDmaDisable (subParts hA rfl) | with_reducible apply keeps_execDmaBlockReset (subParts hA rfl) | with_reducible apply keeps_execFwirqSet (subParts hA rfl) | with_reducible apply keeps_execDdrCfgWrite (subParts hA rfl) | with_reducible apply keeps_execDdrBlockReset (subParts hA rfl) | with_reducible apply keeps_execFwirqClear (subParts hA rfl) | with_reducible apply keeps_execDmaRestart (subParts hA rfl) | split

theorem keeps_execHkBlockReset {A : List Part} {s0 s : State} (hA : [.regs] ⊆ A)  (h : Keeps A s0 s) : KeepsR A s0 (execHkBlockReset s) := by
  unfold execHkBlockReset
  try dsimp only
  repeat' first | intro _ | with_reducible assumption | with_reducible apply KeepsR.of_next | with_reducible apply keeps_State_resetHk (subParts hA rfl)

theorem keeps_State_busHk {A : List Part} {s0 s : State} (hA : [.regs, .pci, .out] ⊆ A) (x1 : ℕ) (x2 : ℕ) (x3 : Word) (h : Keeps A s0 s) : Keeps A s0 (State.busHk s x1 x2 x3) := by
  unfold State.busHk
  try dsimp only
  repeat' first | intro _ | with_reducible assumption | with_reducible apply Keeps.ite | with_reducible apply keeps_State_plainWrite (subParts hA rfl) | with_reducible apply keeps_State_ctlWrite (subParts hA rfl) | with_reducible apply keeps_execHkBlockReset (subParts hA rfl)

theorem keeps_State_adapt {A : List Part} {s0 s : State} (hA : [.regs, .free] ⊆ A) (x1 : ℕ) (h : Keeps A s0 s) : Keeps A s0 (State.adapt s x1) := by
  unfold State.adapt
  try dsimp only
  repeat' first | intro _ | with_reducible assumption | with_reducible apply Keeps.ite | with_reducible apply keeps_State_setFld (subParts hA rfl) | with_reducible apply keeps_State_draw (subParts hA rfl) | split | (refine Keeps.pair (by assumption) ?_)

theorem keeps_execAuxGo {A : List Part} {s0 s : State} (hA : [.regs, .head, .pci, .out] ⊆ A) (x0 : ℕ) (x1 : Word) (h : Keeps A s0 s) : KeepsR A s0 (execAuxGo x0 x1 s) := by
  unfold execAuxGo
  try dsimp only
  repeat' first | intro _ | with_reducible assumption | with_reducible apply KeepsR.ite | with_reducible apply Keeps.ite | with_reducible apply KeepsR.of_next | with_reducible apply keeps_State_setFld (subParts hA rfl) | with_reducible apply keeps_State_raise (subParts hA rfl) | with_reducible apply keeps_State_setFlag (subParts hA rfl) | with_reducible apply keeps_State_modHd (subParts hA rfl) | with_reducible apply keeps_onUnitWrite (subParts hA rfl)

theorem keeps_State_checkerStart {A : List Part} {s0 s : State} (hA : [.regs, .lane] ⊆ A) (x1 : ℕ) (h : Keeps A s0 s) : Keeps A s0 (State.checkerStart s x1) := by
  unfold State.checkerStart
  try dsimp only
  repeat' first | intro _ | with_reducible assumption | with_reducible apply keeps_State_setReg (subParts hA rfl) | with_reducible apply keeps_State_setFlag (subParts hA rfl) | with_reducible apply keeps_State_modLn (subParts hA rfl)

theorem keeps_State_testStart {A : List Part} {s0 s : State} (hA : [.regs, .lane, .free] ⊆ A) (x1 : ℕ) (h : Keeps A s0 s) : Keeps A s0 (State.testStart s x1) := by
  unfold State.testStart
  try dsimp only
  repeat' first | intro _ | with_reducible assumption | with_reducible apply Keeps.ite | with_reducible apply keeps_State_modLn (subParts hA rfl) | with_reducible apply keeps_State_setLane (subParts hA rfl) | with_reducible apply keeps_State_draw (subParts hA rfl) | split | (refine Keeps.pair (by assumption) ?_)

theorem keeps_State_writeLaneTest {A : List Part} {s0 s : State} (hA : [.regs, .lane, .pci, .free, .out] ⊆ A) (x1 : ℕ) (x2 : Word) (h : Keeps A s0 s) : Keeps A s0 (State.writeLaneTest s x1 x2) := by
  unfold State.writeLaneTest
  try dsimp only
  repeat' first | intro _ | with_reducible assumption | with_reducible apply Keeps.ite | with_reducible apply keeps_State_setReg (subParts hA rfl) | with_reducible apply keeps_State_raise (subParts hA rfl) | with_reducible apply keeps_State_setFlag (subParts hA rfl) | with_reducible apply keeps_State_modLn (subParts hA rfl) | with_reducible apply keeps_State_setLane (subParts hA rfl) | with_reducible apply keeps_State_startLane (subParts hA rfl) | with_reducible apply keeps_State_checkerStart (subParts hA rfl) | with_reducible apply keeps_State_testStart (subParts hA rfl)

theorem keeps_execLaneTestModeWrite {A : List Part} {s0 s : State} (hA : [.regs, .lane, .pci, .free, .out] ⊆ A) (x0 : ℕ) (x1 : Word) (h : Keeps A s0 s) : KeepsR A s0 (execLaneTestModeWrite x0 x1 s) := by
  unfold execLaneTestModeWrite
  try dsimp only
  repeat' first | intro _ | with_reducible assumption | with_reducible apply KeepsR.of_next | with_reducible apply keeps_onLaneWrite (subParts hA rfl) | with_reducible apply keeps_State_writeLaneTest (subParts hA rfl)

theorem keeps_execHeadLaneEnable {A : List Part} {s0 s : State} (hA : [.regs, .lane] ⊆ A) (x0 : ℕ) (x1 : Word) (h : Keeps A s0 s) : KeepsR A s0 (execHeadLaneEnable x0 x1 s) := by
  unfold execHeadLaneEnable
  try dsimp only
  repeat' first | intro _ | with_reducible assumption | with_reducible apply KeepsR.of_next | with_reducible apply keeps_State_setReg (subParts hA rfl) | with_reducible apply keeps_State_startLane (subParts hA rfl) | with_reducible apply keeps_onUnitWrite (subParts hA rfl)

theorem keeps_execHeadLaneDisable {A : List Part} {s0 s : State} (hA : [.regs, .lane, .head, .pci, .out] ⊆ A) (x0 : ℕ) (x1 : Word) (h : Keeps A s0 s) : KeepsR A s0 (execHeadLaneDisable x0 x1 s) := by
  unfold execHeadLaneDisable
  try dsimp only
  repeat' first | intro _ | with_reducible assumption | with_reducible apply KeepsR.ite | with_reducible apply Keeps.ite | with_reducible apply KeepsR.of_next | with_reducible apply keeps_State_setReg (subParts hA rfl) | with_reducible apply keeps_State_raise (subParts hA rfl) | with_reducible apply keeps_State_setFlag (subParts hA rfl) | with_reducible apply keeps_State_laneDown (subParts hA rfl) | with_reducible apply keeps_onUnitWrite (subParts hA rfl)

theorem keeps_State_wakeLane {A : List Part} {s0 s : State} (hA : [.lane] ⊆ A) (x1 : ℕ) (h : Keeps A s0 s) : Keeps A s0 (State.wakeLane s x1) := by
  unfold State.wakeLane
  try dsimp only
  repeat' first | intro _ | with_reducible assumption | with_reducible apply Keeps.ite | with_reducible apply keeps_State_modLn (subParts hA rfl)

theorem keeps_State_wakeSend {A : List Part} {s0 s : State} (hA : [.lane, .out] ⊆ A) (x1 : ℕ) (h : Keeps A s0 s) : Keeps A s0 (State.wakeSend s x1) := by
  unfold State.wakeSend
  try dsimp only
  repeat' first | intro _ | with_reducible assumption | with_reducible apply Keeps.ite | with_reducible apply keeps_State_emit (subParts hA rfl) | with_reducible apply keeps_State_wakeLane (subParts hA rfl)

theorem keeps_State_sendBlocks {A : List Part} {s0 s : State} (hA : [.out] ⊆ A) (x1 : ℕ) (x2 : List Block) (h : Keeps A s0 s) : Keeps A s0 (State.sendBlocks s x1 x2) := by
  unfold State.sendBlocks
  try dsimp only
  repeat' first | intro _ | with_reducible assumption | with_reducible apply keeps_State_emit (subParts hA rfl)

theorem keeps_execLanePmRequest {A : List Part} {s0 s : State} (hA : [.regs, .lane, .pci, .out] ⊆ A) (x0 : ℕ) (x1 : Word) (h : Keeps A s0 s) : KeepsR A s0 (execLanePmRequest x0 x1 s) := by
  unfold execLanePmRequest
  try dsimp only
  repeat' first | intro _ | with_reducible assumption | with_reducible apply KeepsR.ite | with_reducible apply Keeps.ite | with_reducible apply KeepsR.of_next | with_reducible apply keeps_State_setReg (subParts hA rfl) | with_reducible apply keeps_State_setFld (subParts hA rfl) | with_reducible apply keeps_State_raise (subParts hA rfl) | with_reducible apply keeps_State_modLn (subParts hA rfl) | with_reducible apply keeps_onLaneWrite (subParts hA rfl) | with_reducible apply keeps_State_wakeSend (subParts hA rfl) | with_reducible apply keeps_State_sendBlocks (subParts hA rfl)

theorem keeps_execLaneBlockReset {A : List Part} {s0 s : State} (hA : [.regs, .dram, .grp, .chan, .srvAx, .srvCh, .srv, .lsr, .hoop, .port, .lane, .head, .pci, .ddr, .cave, .xbar, .out] ⊆ A)  (h : Keeps A s0 s) : KeepsR A s0 (execLaneBlockReset s) := by
  unfold execLaneBlockReset
  try dsimp only
  repeat' first | intro _ | with_reducible assumption | with_reducible apply KeepsR.of_next | with_reducible apply keeps_State_namedReset (subParts hA rfl) | with_reducible apply keeps_State_lanesStart (subParts hA rfl) | with_reducible apply keeps_State_resetLane (subParts hA rfl)

theorem keeps_execLaneTxeqWrite {A : List Part} {s0 s : State} (hA : [.regs, .pci, .out] ⊆ A) (x0 : ℕ) (x1 : Word) (h : Keeps A s0 s) : KeepsR A s0 (execLaneTxeqWrite x0 x1 s) := by
  unfold execLaneTxeqWrite
  try dsimp only
  repeat' first | intro _ | with_reducible assumption | with_reducible apply KeepsR.ite | with_reducible apply Keeps.ite | with_reducible apply KeepsR.of_next | with_reducible apply keeps_State_setReg (subParts hA rfl) | with_reducible apply keeps_State_raise (subParts hA rfl) | with_reducible apply keeps_onLaneWrite (subParts hA rfl)

theorem keeps_State_busLane {A : List Part} {s0 s : State} (hA : [.regs, .dram, .grp, .chan, .srvAx, .srvCh, .srv, .lsr, .hoop, .port, .lane, .head, .pci, .ddr, .cave, .xbar, .free, .out] ⊆ A) (x1 : ℕ) (x2 : ℕ) (x3 : ℕ) (x4 : Word) (h : Keeps A s0 s) : Keeps A s0 (State.busLane s x1 x2 x3 x4) := by
  unfold State.busLane
  try dsimp only
  repeat' first | intro _ | with_reducible assumption | with_reducible apply Keeps.ite | with_reducible apply KeepsR.ite | with_reducible apply keeps_execHlBlockReset (subParts hA rfl) | with_reducible apply keeps_State_after (subParts hA rfl) | with_reducible apply keeps_State_plainWrite (subParts hA rfl) | with_reducible apply keeps_State_ctlWrite (subParts hA rfl) | with_reducible apply keeps_State_adapt (subParts hA rfl) | with_reducible apply keeps_execAuxGo (subParts hA rfl) | with_reducible apply keeps_execLaneTestModeWrite (subParts hA rfl) | with_reducible apply keeps_execHeadLaneEnable (subParts hA rfl) | with_reducible apply keeps_execHeadLaneDisable (subParts hA rfl) | with_reducible apply keeps_execLanePmRequest (subParts hA rfl) | with_reducible apply keeps_execLaneBlockReset (subParts hA rfl) | with_reducible apply keeps_execLaneTxeqWrite (subParts hA rfl)

theorem keeps_State_libReject {A : List Part} {s0 s : State} (hA : [.regs] ⊆ A) (x1 : ℕ) (h : Keeps A s0 s) : Keeps A s0 (State.libReject s x1) := by
  unfold State.libReject
  try dsimp only
  repeat' first | intro _ | with_reducible assumption | with_reducible apply keeps_State_setFlag (subParts hA rfl)

theorem keeps_execLibraryUnload {A : List Part} {s0 s : State} (hA : [.regs, .chan] ⊆ A) (x0 : ℕ) (h : Keeps A s0 s) : KeepsR A s0 (execLibraryUnload x0 s) := by
  unfold execLibraryUnload
  try dsimp only
  repeat' first | intro _ | with_reducible assumption | with_reducible apply KeepsR.ite | with_reducible apply Keeps.ite | with_reducible apply KeepsR.of_next | with_reducible apply keeps_State_setFlag (subParts hA rfl) | with_reducible apply keeps_State_modCh (subParts hA rfl) | with_reducible apply keeps_onUnitWrite (subParts hA rfl) | with_reducible apply keeps_State_libReject (subParts hA rfl)

theorem keeps_execChannelEnable {A : List Part} {s0 s : State} (hA : [.regs, .dram, .grp, .srvAx, .lsr, .pci, .ddr, .out] ⊆ A) (x0 : ℕ) (h : Keeps A s0 s) : KeepsR A s0 (execChannelEnable x0 s) := by
  unfold execChannelEnable
  try dsimp only
  repeat' first | intro _ | with_reducible assumption | with_reducible apply KeepsR.ite | with_reducible apply Keeps.ite | with_reducible apply KeepsR.of_next | with_reducible apply keeps_State_setFlag (subParts hA rfl) | with_reducible apply keeps_State_enter (subParts hA rfl) | with_reducible apply keeps_onUnitWrite (subParts hA rfl)

theorem keeps_execLibraryLoad {A : List Part} {s0 s : State} (hA : [.regs, .chan] ⊆ A) (x0 : ℕ) (h : Keeps A s0 s) : KeepsR A s0 (execLibraryLoad x0 s) := by
  unfold execLibraryLoad
  try dsimp only
  repeat' first | intro _ | with_reducible assumption | with_reducible apply KeepsR.ite | with_reducible apply Keeps.ite | with_reducible apply KeepsR.of_next | with_reducible apply keeps_State_setFlag (subParts hA rfl) | with_reducible apply keeps_State_modCh (subParts hA rfl) | with_reducible apply keeps_onUnitWrite (subParts hA rfl) | with_reducible apply keeps_State_libReject (subParts hA rfl)

theorem keeps_execChannelDisable {A : List Part} {s0 s : State} (hA : [.regs, .dram, .grp, .chan, .srvAx, .srvCh, .lsr, .hoop, .port, .pci, .ddr, .xbar, .out] ⊆ A) (x0 : ℕ) (h : Keeps A s0 s) : KeepsR A s0 (execChannelDisable x0 s) := by
  unfold execChannelDisable
  try dsimp only
  repeat' first | intro _ | with_reducible assumption | with_reducible apply KeepsR.ite | with_reducible apply Keeps.ite | with_reducible apply KeepsR.of_next | with_reducible apply keeps_State_setFlag (subParts hA rfl) | with_reducible apply keeps_State_stopChan (subParts hA rfl) | with_reducible apply keeps_State_enter (subParts hA rfl) | with_reducible apply keeps_onUnitWrite (subParts hA rfl)

theorem keeps_State_readDesc {A : List Part} {s0 s : State} (hA : [.regs, .chan] ⊆ A) (x1 : ℕ) (h : Keeps A s0 s) : Keeps A s0 (State.readDesc s x1) := by
  unfold State.readDesc
  try dsimp only
  repeat' first | intro _ | with_reducible assumption | with_reducible apply Keeps.ite | with_reducible apply keeps_State_setFld (subParts hA rfl) | with_reducible apply keeps_State_satAdd (subParts hA rfl) | with_reducible apply keeps_State_setFlag (subParts hA rfl) | with_reducible apply keeps_State_modCh (subParts hA rfl)

theorem keeps_execSeqRingTail {A : List Part} {s0 s : State} (hA : [.regs, .chan] ⊆ A) (x0 : ℕ) (x1 : Word) (h : Keeps A s0 s) : KeepsR A s0 (execSeqRingTail x0 x1 s) := by
  unfold execSeqRingTail
  try dsimp only
  repeat' first | intro _ | with_reducible assumption | with_reducible apply KeepsR.ite | with_reducible apply Keeps.ite | with_reducible apply KeepsR.of_next | with_reducible apply keeps_State_setFld (subParts hA rfl) | with_reducible apply keeps_onUnitWrite (subParts hA rfl) | with_reducible apply keeps_State_readDesc (subParts hA rfl)

theorem keeps_State_busSeq {A : List Part} {s0 s : State} (hA : [.regs, .dram, .grp, .chan, .srvAx, .srvCh, .lsr, .hoop, .port, .pci, .ddr, .xbar, .out] ⊆ A) (x1 : ℕ) (x2 : ℕ) (x3 : ℕ) (x4 : Word) (h : Keeps A s0 s) : Keeps A s0 (State.busSeq s x1 x2 x3 x4) := by
  unfold State.busSeq
  try dsimp only
  repeat' first | intro _ | with_reducible assumption | with_reducible apply Keeps.ite | with_reducible apply KeepsR.ite | with_reducible apply keeps_State_after (subParts hA rfl) | with_reducible apply keeps_State_plainWrite (subParts hA rfl) | with_reducible apply keeps_State_cmdBit (subParts hA rfl) | with_reducible apply keeps_State_libReject (subParts hA rfl) | with_reducible apply keeps_execLibraryUnload (subParts hA rfl) | with_reducible apply keeps_execChannelEnable (subParts hA rfl) | with_reducible apply keeps_execLibraryLoad (subParts hA rfl) | with_reducible apply keeps_execChannelDisable (subParts hA rfl) | with_reducible apply keeps_execSeqRingTail (subParts hA rfl)

theorem keeps_execEmissionStopClear {A : List Part} {s0 s : State} (hA : [.regs, .lsr, .pci, .out] ⊆ A) (x0 : Source) (h : Keeps A s0 s) : KeepsR A s0 (execEmissionStopClear x0 s) := by
  unfold execEmissionStopClear
  try dsimp only
  repeat' first | intro _ | with_reducible assumption | with_reducible apply KeepsR.ite | with_reducible apply Keeps.ite | with_reducible apply KeepsR.of_next | with_reducible apply Keeps.each | with_reducible apply keeps_State_setFld (subParts hA rfl) | with_reducible apply keeps_State_raise (subParts hA rfl) | with_reducible apply keeps_State_setFlag (subParts hA rfl) | with_reducible apply keeps_State_armManual (subParts hA rfl)

theorem keeps_execManualDriveWrite {A : List Part} {s0 s : State} (hA : [.regs, .lsr, .pci, .out] ⊆ A) (x0 : ℕ) (x1 : Word) (h : Keeps A s0 s) : KeepsR A s0 (execManualDriveWrite x0 x1 s) := by
  unfold execManualDriveWrite
  try dsimp only
  repeat' first | intro _ | with_reducible assumption | with_reducible apply KeepsR.ite | with_reducible apply Keeps.ite | with_reducible apply KeepsR.of_next | with_reducible apply keeps_State_setReg (subParts hA rfl) | with_reducible apply keeps_State_raise (subParts hA rfl) | with_reducible apply keeps_State_lapse (subParts hA rfl) | with_reducible apply keeps_onUnitWrite (subParts hA rfl) | with_reducible apply keeps_State_armManual (subParts hA rfl)

theorem keeps_execLsrLogCtlWrite {A : List Part} {s0 s : State} (hA : [.regs, .dram, .grp, .lsr, .pci, .ddr, .out] ⊆ A) (x0 : ℕ) (x1 : Word) (h : Keeps A s0 s) : KeepsR A s0 (execLsrLogCtlWrite x0 x1 s) := by
  unfold execLsrLogCtlWrite
  try dsimp only
  repeat' first | intro _ | with_reducible assumption | with_reducible apply KeepsR.ite | with_reducible apply Keeps.ite | with_reducible apply KeepsR.of_next | with_reducible apply keeps_State_setFld (subParts hA rfl) | with_reducible apply keeps_State_logClose (subParts hA rfl) | with_reducible apply keeps_onUnitWrite (subParts hA rfl)

theorem keeps_State_runFault {A : List Part} {s0 s : State} (hA : [.regs, .dram, .grp, .chan, .srvAx, .srvCh, .lsr, .hoop, .port, .pci, .ddr, .xbar, .out] ⊆ A) (x1 : ℕ) (x2 : ℕ) (h : Keeps A s0 s) : Keeps A s0 (State.runFault s x1 x2) := by
  unfold State.runFault
  try dsimp only
  repeat' first | intro _ | with_reducible assumption | with_reducible apply keeps_State_fault (subParts hA rfl) | split

theorem keeps_State_laserCond {A : List Part} {s0 s : State} (hA : [.regs, .dram, .grp, .pci, .ddr, .out] ⊆ A) (x1 : ℕ) (x2 : ℕ) (x3 : Bool) (h : Keeps A s0 s) : Keeps A s0 (State.laserCond s x1 x2 x3) := by
  unfold State.laserCond
  try dsimp only
  repeat' first | intro _ | with_reducible assumption | with_reducible apply Keeps.ite | with_reducible apply keeps_State_raise (subParts hA rfl) | with_reducible apply keeps_State_satAdd (subParts hA rfl) | with_reducible apply keeps_State_post (subParts hA rfl) | with_reducible apply keeps_State_setFlag (subParts hA rfl)

theorem keeps_State_rdyLow {A : List Part} {s0 s : State} (hA : [.regs, .dram, .grp, .chan, .srvAx, .srvCh, .lsr, .hoop, .port, .pci, .ddr, .xbar, .out] ⊆ A) (x1 : ℕ) (x2 : Bool) (h : Keeps A s0 s) : Keeps A s0 (State.rdyLow s x1 x2) := by
  unfold State.rdyLow
  try dsimp only
  repeat' first | intro _ | with_reducible assumption | with_reducible apply Keeps.ite | with_reducible apply keeps_State_manualEnd (subParts hA rfl) | with_reducible apply keeps_State_runFault (subParts hA rfl) | with_reducible apply keeps_State_laserCond (subParts hA rfl)

theorem keeps_State_storeLsrCfg {A : List Part} {s0 s : State} (hA : [.regs, .dram, .grp, .chan, .srvAx, .srvCh, .lsr, .hoop, .port, .pci, .ddr, .xbar, .out] ⊆ A) (x1 : ℕ) (x2 : Word) (h : Keeps A s0 s) : Keeps A s0 (State.storeLsrCfg s x1 x2) := by
  unfold State.storeLsrCfg
  try dsimp only
  repeat' first | intro _ | with_reducible assumption | with_reducible apply Keeps.ite | with_reducible apply keeps_State_setReg (subParts hA rfl) | with_reducible apply keeps_State_lapse (subParts hA rfl) | with_reducible apply keeps_State_rdyLow (subParts hA rfl)

theorem keeps_execLsrBlockReset {A : List Part} {s0 s : State} (hA : [.regs, .dram, .grp, .chan, .srvAx, .srvCh, .srv, .lsr, .hoop, .port, .head, .pci, .ddr, .cave, .xbar, .out] ⊆ A)  (h : Keeps A s0 s) : KeepsR A s0 (execLsrBlockReset s) := by
  unfold execLsrBlockReset
  try dsimp only
  repeat' first | intro _ | with_reducible assumption | with_reducible apply KeepsR.of_next | with_reducible apply keeps_State_namedReset (subParts hA rfl) | with_reducible apply keeps_State_resetLsr (subParts hA rfl)

theorem keeps_State_busLsr {A : List Part} {s0 s : State} (hA : [.regs, .dram, .grp, .chan, .srvAx, .srvCh, .srv, .lsr, .hoop, .port, .head, .pci, .ddr, .cave, .xbar, .out] ⊆ A) (x1 : Source) (x2 : ℕ) (x3 : ℕ) (x4 : ℕ) (x5 : Word) (h : Keeps A s0 s) : Keeps A s0 (State.busLsr s x1 x2 x3 x4 x5) := by
  unfold State.busLsr
  try dsimp only
  repeat' first | intro _ | with_reducible assumption | with_reducible apply Keeps.ite | with_reducible apply KeepsR.ite | with_reducible apply keeps_State_after (subParts hA rfl) | with_reducible apply keeps_State_plainWrite (subParts hA rfl) | with_reducible apply keeps_State_ctlWrite (subParts hA rfl) | with_reducible apply keeps_State_cmdBit (subParts hA rfl) | with_reducible apply keeps_execEmissionStopClear (subParts hA rfl) | with_reducible apply keeps_execManualDriveWrite (subParts hA rfl) | with_reducible apply keeps_execLsrLogCtlWrite (subParts hA rfl) | with_reducible apply keeps_State_storeLsrCfg (subParts hA rfl) | with_reducible apply keeps_execLsrBlockReset (subParts hA rfl)

theorem keeps_execCalendarSet {A : List Part} {s0 s : State} (hA : [.regs, .time] ⊆ A)  (h : Keeps A s0 s) : KeepsR A s0 (execCalendarSet s) := by
  unfold execCalendarSet
  try dsimp only
  repeat' first | intro _ | with_reducible assumption | with_reducible apply KeepsR.of_next | with_reducible apply keeps_State_setFlag (subParts hA rfl) | with_reducible apply Keeps.upd_time (subParts hA rfl)

theorem keeps_execHoopIdWrite {A : List Part} {s0 s : State} (hA : [.regs, .pci, .out] ⊆ A) (x0 : Word) (h : Keeps A s0 s) : KeepsR A s0 (execHoopIdWrite x0 s) := by
  unfold execHoopIdWrite
  try dsimp only
  repeat' first | intro _ | with_reducible assumption | with_reducible apply KeepsR.ite | with_reducible apply Keeps.ite | with_reducible apply KeepsR.of_next | with_reducible apply keeps_State_setFld (subParts hA rfl) | with_reducible apply keeps_State_raise (subParts hA rfl)

theorem keeps_execBulkGo {A : List Part} {s0 s : State} (hA : [.regs, .hoop, .port, .bulk, .pci, .out] ⊆ A) (x0 : ℕ) (h : Keeps A s0 s) : KeepsR A s0 (execBulkGo x0 s) := by
  unfold execBulkGo
  try dsimp only
  repeat' first | intro _ | with_reducible assumption | with_reducible apply KeepsR.ite | with_reducible apply Keeps.ite | with_reducible apply KeepsR.of_next | with_reducible apply keeps_State_raise (subParts hA rfl) | with_reducible apply keeps_State_setFlag (subParts hA rfl) | with_reducible apply keeps_onUnit (subParts hA rfl) | with_reducible apply keeps_State_modBk (subParts hA rfl) | with_reducible apply keeps_State_bulkEnd (subParts hA rfl) | with_reducible apply keeps_State_bulkSend (subParts hA rfl)

theorem keeps_execHoopBlockReset {A : List Part} {s0 s : State} (hA : [.regs, .hoop, .port, .bulk, .dom, .time, .lane, .head, .pci, .out] ⊆ A)  (h : Keeps A s0 s) : KeepsR A s0 (execHoopBlockReset s) := by
  unfold execHoopBlockReset
  try dsimp only
  repeat' first | intro _ | with_reducible assumption | with_reducible apply KeepsR.of_next | with_reducible apply keeps_State_resetHoop (subParts hA rfl)

theorem keeps_State_rraEnd {A : List Part} {s0 s : State} (hA : [.regs, .hoop, .pci, .out] ⊆ A) (x1 : ℕ) (h : Keeps A s0 s) : Keeps A s0 (State.rraEnd s x1) := by
  unfold State.rraEnd
  try dsimp only
  repeat' first | intro _ | with_reducible assumption | with_reducible apply keeps_State_setFld (subParts hA rfl) | with_reducible apply keeps_State_raise (subParts hA rfl) | with_reducible apply keeps_State_setFlag (subParts hA rfl) | with_reducible apply Keeps.upd_hoop (subParts hA rfl)

theorem keeps_execRemoteAccessGo {A : List Part} {s0 s : State} (hA : [.regs, .hoop, .port, .pci, .out] ⊆ A) (x0 : Word) (h : Keeps A s0 s) : KeepsR A s0 (execRemoteAccessGo x0 s) := by
  unfold execRemoteAccessGo
  try dsimp only
  repeat' first | intro _ | with_reducible assumption | with_reducible apply KeepsR.ite | with_reducible apply Keeps.ite | with_reducible apply KeepsR.of_next | with_reducible apply keeps_State_setFld (subParts hA rfl) | with_reducible apply keeps_State_raise (subParts hA rfl) | with_reducible apply keeps_State_setFlag (subParts hA rfl) | with_reducible apply keeps_State_unicast (subParts hA rfl) | with_reducible apply keeps_State_rraEnd (subParts hA rfl) | split | with_reducible apply Keeps.upd_hoop (subParts hA rfl) | (refine Keeps.pair (by assumption) ?_)

theorem keeps_State_portDown {A : List Part} {s0 s : State} (hA : [.regs, .port, .lane, .head, .pci, .out] ⊆ A) (x1 : ℕ) (h : Keeps A s0 s) : Keeps A s0 (State.portDown s x1) := by
  unfold State.portDown
  try dsimp only
  repeat' first | intro _ | with_reducible assumption | with_reducible apply Keeps.each | with_reducible apply keeps_State_setFld (subParts hA rfl) | with_reducible apply keeps_State_laneDown (subParts hA rfl) | with_reducible apply keeps_State_portLost (subParts hA rfl)

theorem keeps_execHoopPortDisable {A : List Part} {s0 s : State} (hA : [.regs, .port, .lane, .head, .pci, .out] ⊆ A) (x0 : ℕ) (x1 : Word) (h : Keeps A s0 s) : KeepsR A s0 (execHoopPortDisable x0 x1 s) := by
  unfold execHoopPortDisable
  try dsimp only
  repeat' first | intro _ | with_reducible assumption | with_reducible apply KeepsR.ite | with_reducible apply Keeps.ite | with_reducible apply KeepsR.of_next | with_reducible apply keeps_State_setReg (subParts hA rfl) | with_reducible apply keeps_State_setFld (subParts hA rfl) | with_reducible apply keeps_State_modPt (subParts hA rfl) | with_reducible apply keeps_onUnitWrite (subParts hA rfl) | with_reducible apply keeps_State_portDown (subParts hA rfl)

theorem keeps_execCalendarAdj {A : List Part} {s0 s : State} (hA : [.regs, .time] ⊆ A)  (h : Keeps A s0 s) : KeepsR A s0 (execCalendarAdj s) := by
  unfold execCalendarAdj
  try dsimp only
  repeat' first | intro _ | with_reducible assumption | with_reducible apply KeepsR.of_next | with_reducible apply keeps_State_setFlag (subParts hA rfl) | with_reducible apply Keeps.upd_time (subParts hA rfl)

theorem keeps_execTimDCfgWrite {A : List Part} {s0 s : State} (hA : [.regs, .dram, .grp, .dom, .pci, .ddr, .pwr, .out] ⊆ A) (x0 : ℕ) (x1 : Word) (h : Keeps A s0 s) : KeepsR A s0 (execTimDCfgWrite x0 x1 s) := by
  unfold execTimDCfgWrite
  try dsimp only
  repeat' first | intro _ | with_reducible assumption | with_reducible apply KeepsR.ite | with_reducible apply Keeps.ite | with_reducible apply KeepsR.of_next | with_reducible apply keeps_State_setReg (subParts hA rfl) | with_reducible apply keeps_State_modDm (subParts hA rfl) | with_reducible apply keeps_State_revote (subParts hA rfl) | with_reducible apply keeps_onUnitWrite (subParts hA rfl) | with_reducible apply keeps_State_setDomain (subParts hA rfl)

theorem keeps_execTimSelWrite {A : List Part} {s0 s : State} (hA : [.regs] ⊆ A) (x0 : Word) (h : Keeps A s0 s) : KeepsR A s0 (execTimSelWrite x0 s) := by
  unfold execTimSelWrite
  try dsimp only
  repeat' first | intro _ | with_reducible assumption | with_reducible apply KeepsR.of_next | with_reducible apply keeps_State_setFld (subParts hA rfl) | with_reducible apply keeps_State_setFlag (subParts hA rfl)

theorem keeps_State_busHoop {A : List Part} {s0 s : State} (hA : [.regs, .dram, .grp, .hoop, .port, .bulk, .dom, .time, .lane, .head, .pci, .ddr, .pwr, .out] ⊆ A) (x1 : ℕ) (x2 : ℕ) (x3 : ℕ) (x4 : Word) (h : Keeps A s0 s) : Keeps A s0 (State.busHoop s x1 x2 x3 x4) := by
  unfold State.busHoop
  try dsimp only
  repeat' first | intro _ | with_reducible assumption | with_reducible apply Keeps.ite | with_reducible apply KeepsR.ite | with_reducible apply keeps_execHoopPortEnable (subParts hA rfl) | with_reducible apply keeps_State_after (subParts hA rfl) | with_reducible apply keeps_State_plainWrite (subParts hA rfl) | with_reducible apply keeps_State_ctlWrite (subParts hA rfl) | with_reducible apply keeps_State_cmdBit (subParts hA rfl) | with_reducible apply keeps_execCalendarSet (subParts hA rfl) | with_reducible apply keeps_execHoopIdWrite (subParts hA rfl) | with_reducible apply keeps_execBulkGo (subParts hA rfl) | with_reducible apply keeps_execHoopBlockReset (subParts hA rfl) | with_reducible apply keeps_execRemoteAccessGo (subParts hA rfl) | with_reducible apply keeps_execHoopPortDisable (subParts hA rfl) | with_reducible apply keeps_execCalendarAdj (subParts hA rfl) | with_reducible apply keeps_execTimDCfgWrite (subParts hA rfl) | with_reducible apply keeps_execTimSelWrite (subParts hA rfl)

theorem keeps_State_thermalSync {A : List Part} {s0 s : State} (hA : [.pwr] ⊆ A)  (h : Keeps A s0 s) : Keeps A s0 (State.thermalSync s) := by
  unfold State.thermalSync
  try dsimp only
  repeat' first | intro _ | with_reducible assumption | with_reducible apply Keeps.upd_pwr (subParts hA rfl)

theorem keeps_execPwrPauseWrite {A : List Part} {s0 s : State} (hA : [.regs, .grp, .hoop, .port, .pwr] ⊆ A) (x0 : Word) (h : Keeps A s0 s) : KeepsR A s0 (execPwrPauseWrite x0 s) := by
  unfold execPwrPauseWrite
  try dsimp only
  repeat' first | intro _ | with_reducible assumption | with_reducible apply KeepsR.ite | with_reducible apply Keeps.ite | with_reducible apply KeepsR.of_next | with_reducible apply keeps_State_setReg (subParts hA rfl) | with_reducible apply keeps_State_modGrp (subParts hA rfl) | with_reducible apply keeps_State_holdRise (subParts hA rfl) | with_reducible apply keeps_State_thermalSync (subParts hA rfl)

theorem keeps_State_pwrRej {A : List Part} {s0 s : State} (hA : [.regs, .pci, .out] ⊆ A)  (h : Keeps A s0 s) : Keeps A s0 (State.pwrRej s) := by
  unfold State.pwrRej
  try dsimp only
  repeat' first | intro _ | with_reducible assumption | with_reducible apply keeps_State_raise (subParts hA rfl)

theorem keeps_execFwvoteWrite {A : List Part} {s0 s : State} (hA : [.regs, .dram, .grp, .dom, .pci, .ddr, .pwr, .out] ⊆ A) (x0 : Source) (x1 : Word) (h : Keeps A s0 s) : KeepsR A s0 (execFwvoteWrite x0 x1 s) := by
  unfold execFwvoteWrite
  try dsimp only
  repeat' first | intro _ | with_reducible assumption | with_reducible apply KeepsR.of_next | with_reducible apply keeps_State_voteWrite (subParts hA rfl) | with_reducible apply keeps_State_pwrRej (subParts hA rfl) | split

theorem keeps_execHostvoteWrite {A : List Part} {s0 s : State} (hA : [.regs, .dram, .grp, .dom, .pci, .ddr, .pwr, .out] ⊆ A) (x0 : Source) (x1 : Word) (h : Keeps A s0 s) : KeepsR A s0 (execHostvoteWrite x0 x1 s) := by
  unfold execHostvoteWrite
  try dsimp only
  repeat' first | intro _ | with_reducible assumption | with_reducible apply KeepsR.ite | with_reducible apply Keeps.ite | with_reducible apply KeepsR.of_next | with_reducible apply keeps_State_voteWrite (subParts hA rfl) | with_reducible apply keeps_State_pwrRej (subParts hA rfl)

theorem keeps_execPwrForceWrite {A : List Part} {s0 s : State} (hA : [.regs, .dram, .grp, .pci, .ddr, .pwr, .out] ⊆ A) (x0 : Source) (x1 : Word) (h : Keeps A s0 s) : KeepsR A s0 (execPwrForceWrite x0 x1 s) := by
  unfold execPwrForceWrite
  try dsimp only
  repeat' first | intro _ | with_reducible assumption | with_reducible apply KeepsR.ite | with_reducible apply Keeps.ite | with_reducible apply KeepsR.of_next | with_reducible apply keeps_State_setReg (subParts hA rfl) | with_reducible apply keeps_State_settlePower (subParts hA rfl) | with_reducible apply keeps_State_pwrRej (subParts hA rfl)

theorem keeps_execPwrBlockReset {A : List Part} {s0 s : State} (hA : [.regs, .grp, .pci, .pwr, .out] ⊆ A) (x0 : Source) (h : Keeps A s0 s) : KeepsR A s0 (execPwrBlockReset x0 s) := by
  unfold execPwrBlockReset
  try dsimp only
  repeat' first | intro _ | with_reducible assumption | with_reducible apply KeepsR.ite | with_reducible apply Keeps.ite | with_reducible apply KeepsR.of_next | with_reducible apply keeps_State_resetPwr (subParts hA rfl) | with_reducible apply keeps_State_pwrRej (subParts hA rfl)

theorem keeps_execStateRequest {A : List Part} {s0 s : State} (hA : [.regs, .dram, .grp, .pci, .ddr, .pwr, .out] ⊆ A) (x0 : Source) (x1 : Word) (h : Keeps A s0 s) : KeepsR A s0 (execStateRequest x0 x1 s) := by
  unfold execStateRequest
  try dsimp only
  repeat' first | intro _ | with_reducible assumption | with_reducible apply KeepsR.ite | with_reducible apply Keeps.ite | with_reducible apply KeepsR.of_next | with_reducible apply keeps_State_setFld (subParts hA rfl) | with_reducible apply keeps_State_noteWake (subParts hA rfl) | with_reducible apply keeps_State_request (subParts hA rfl) | with_reducible apply keeps_State_pwrRej (subParts hA rfl)

theorem keeps_State_busPwr {A : List Part} {s0 s : State} (hA : [.regs, .dram, .grp, .hoop, .port, .dom, .pci, .ddr, .pwr, .out] ⊆ A) (x1 : Source) (x2 : ℕ) (x3 : ℕ) (x4 : ℕ) (x5 : Word) (h : Keeps A s0 s) : Keeps A s0 (State.busPwr s x1 x2 x3 x4 x5) := by
  unfold State.busPwr
  try dsimp only
  repeat' first | intro _ | with_reducible assumption | with_reducible apply Keeps.ite | with_reducible apply KeepsR.ite | with_reducible apply keeps_State_setReg (subParts hA rfl) | with_reducible apply keeps_State_supplyOn (subParts hA rfl) | with_reducible apply keeps_State_settlePower (subParts hA rfl) | with_reducible apply keeps_State_after (subParts hA rfl) | with_reducible apply keeps_State_plainWrite (subParts hA rfl) | with_reducible apply keeps_State_ctlWrite (subParts hA rfl) | with_reducible apply keeps_execPwrPauseWrite (subParts hA rfl) | with_reducible apply keeps_State_pwrRej (subParts hA rfl) | with_reducible apply keeps_execFwvoteWrite (subParts hA rfl) | with_reducible apply keeps_execHostvoteWrite (subParts hA rfl) | with_reducible apply keeps_execPwrForceWrite (subParts hA rfl) | with_reducible apply keeps_execPwrBlockReset (subParts hA rfl) | with_reducible apply keeps_execStateRequest (subParts hA rfl) | with_reducible apply Keeps.upd_pwr (subParts hA rfl)

theorem keeps_State_evtReject {A : List Part} {s0 s : State} (hA : [.regs] ⊆ A)  (h : Keeps A s0 s) : Keeps A s0 (State.evtReject s) := by
  unfold State.evtReject
  try dsimp only
  repeat' first | intro _ | with_reducible assumption | with_reducible apply keeps_State_setFlag (subParts hA rfl)

theorem keeps_execSeqEvtCtlWrite {A : List Part} {s0 s : State} (hA : [.regs] ⊆ A) (x0 : Word) (h : Keeps A s0 s) : KeepsR A s0 (execSeqEvtCtlWrite x0 s) := by
  unfold execSeqEvtCtlWrite
  try dsimp only
  repeat' first | intro _ | with_reducible assumption | with_reducible apply KeepsR.ite | with_reducible apply Keeps.ite | with_reducible apply KeepsR.of_next | with_reducible apply keeps_State_setReg (subParts hA rfl) | with_reducible apply keeps_State_setFld (subParts hA rfl) | with_reducible apply keeps_State_setFlag (subParts hA rfl) | with_reducible apply keeps_State_evtReject (subParts hA rfl)

theorem keeps_execSeqEvtBaseWrite {A : List Part} {s0 s : State} (hA : [.regs] ⊆ A) (x0 : Word) (h : Keeps A s0 s) : KeepsR A s0 (execSeqEvtBaseWrite x0 s) := by
  unfold execSeqEvtBaseWrite
  try dsimp only
  repeat' first | intro _ | with_reducible assumption | with_reducible apply KeepsR.ite | with_reducible apply Keeps.ite | with_reducible apply KeepsR.of_next | with_reducible apply keeps_State_setReg (subParts hA rfl) | with_reducible apply keeps_State_evtReject (subParts hA rfl)

theorem keeps_execSeqBlockReset {A : List Part} {s0 s : State} (hA : [.regs, .dram, .grp, .armUndo, .chan, .srvAx, .srvCh, .srv, .lsr, .hoop, .port, .head, .pci, .ddr, .cave, .xbar, .out] ⊆ A)  (h : Keeps A s0 s) : KeepsR A s0 (execSeqBlockReset s) := by
  unfold execSeqBlockReset
  try dsimp only
  repeat' first | intro _ | with_reducible assumption | with_reducible apply KeepsR.of_next | with_reducible apply keeps_State_namedReset (subParts hA rfl) | with_reducible apply keeps_State_resetSeq (subParts hA rfl)

theorem keeps_State_unarmChan {A : List Part} {s0 s : State} (hA : [.regs, .dram, .grp, .chan, .srvAx, .lsr, .pci, .ddr, .out] ⊆ A) (x1 : ℕ) (h : Keeps A s0 s) : Keeps A s0 (State.unarmChan s x1) := by
  unfold State.unarmChan
  try dsimp only
  repeat' first | intro _ | with_reducible assumption | with_reducible apply Keeps.ite | with_reducible apply keeps_State_setFld (subParts hA rfl) | with_reducible apply keeps_State_setFlag (subParts hA rfl) | with_reducible apply keeps_State_modCh (subParts hA rfl) | with_reducible apply keeps_State_enter (subParts hA rfl)

theorem keeps_State_cancelArmed {A : List Part} {s0 s : State} (hA : [.regs, .dram, .grp, .armUndo, .chan, .srvAx, .lsr, .pci, .ddr, .out] ⊆ A) (x1 : ℕ) (x2 : ℕ) (h : Keeps A s0 s) : Keeps A s0 (State.cancelArmed s x1 x2) := by
  unfold State.cancelArmed
  try dsimp only
  repeat' first | intro _ | with_reducible assumption | with_reducible apply Keeps.each | with_reducible apply keeps_State_setFld (subParts hA rfl) | with_reducible apply keeps_State_raise (subParts hA rfl) | with_reducible apply keeps_State_modGrp (subParts hA rfl) | with_reducible apply keeps_State_post (subParts hA rfl) | with_reducible apply keeps_State_setFlag (subParts hA rfl) | with_reducible apply keeps_State_setGrpState (subParts hA rfl) | with_reducible apply keeps_State_unarmChan (subParts hA rfl) | with_reducible apply Keeps.upd_armUndo (subParts hA rfl)

theorem keeps_execAbort {A : List Part} {s0 s : State} (hA : [.regs, .dram, .grp, .armUndo, .chan, .srvAx, .srvCh, .lsr, .hoop, .port, .pci, .ddr, .cave, .xbar, .out] ⊆ A)  (h : Keeps A s0 s) : KeepsR A s0 (execAbort s) := by
  unfold execAbort
  try dsimp only
  repeat' first | intro _ | with_reducible assumption | with_reducible apply KeepsR.ite | with_reducible apply Keeps.ite | with_reducible apply KeepsR.of_next | with_reducible apply keeps_State_sendAbort (subParts hA rfl) | with_reducible apply keeps_State_abortLayer (subParts hA rfl) | with_reducible apply keeps_State_cancelArmed (subParts hA rfl)

theorem keeps_State_rejectArm {A : List Part} {s0 s : State} (hA : [.regs, .pci, .out] ⊆ A) (x1 : ℕ) (h : Keeps A s0 s) : Keeps A s0 (State.rejectArm s x1) := by
  unfold State.rejectArm
  try dsimp only
  repeat' first | intro _ | with_reducible assumption | with_reducible apply keeps_State_setFld (subParts hA rfl) | with_reducible apply keeps_State_raise (subParts hA rfl)

theorem keeps_State_armChan {A : List Part} {s0 s : State} (hA : [.regs, .dram, .grp, .chan, .srvAx, .lsr, .pci, .ddr, .out] ⊆ A) (x1 : ℕ) (h : Keeps A s0 s) : Keeps A s0 (State.armChan s x1) := by
  unfold State.armChan
  try dsimp only
  repeat' first | intro _ | with_reducible assumption | with_reducible apply Keeps.ite | with_reducible apply keeps_State_setReg (subParts hA rfl) | with_reducible apply keeps_State_setFld (subParts hA rfl) | with_reducible apply keeps_State_setFlag (subParts hA rfl) | with_reducible apply keeps_State_modCh (subParts hA rfl) | with_reducible apply keeps_State_enter (subParts hA rfl)

theorem keeps_State_armUnits {A : List Part} {s0 s : State} (hA : [.regs, .srvAx, .srvCh, .lsr] ⊆ A) (x1 : ℕ) (h : Keeps A s0 s) : Keeps A s0 (State.armUnits s x1) := by
  unfold State.armUnits
  try dsimp only
  repeat' first | intro _ | with_reducible assumption | with_reducible apply Keeps.each | with_reducible apply keeps_State_setReg (subParts hA rfl) | with_reducible apply keeps_State_modSc (subParts hA rfl) | with_reducible apply keeps_State_setFlag (subParts hA rfl) | with_reducible apply keeps_State_lapse (subParts hA rfl) | with_reducible apply keeps_State_modAx (subParts hA rfl)

theorem keeps_State_takeArm {A : List Part} {s0 s : State} (hA : [.regs, .dram, .grp, .armUndo, .chan, .srvAx, .srvCh, .lsr, .pci, .ddr, .pwr, .cave, .out] ⊆ A)  (h : Keeps A s0 s) : Keeps A s0 (State.takeArm s) := by
  unfold State.takeArm
  try dsimp only
  repeat' first | intro _ | with_reducible assumption | with_reducible apply Keeps.ite | with_reducible apply Keeps.each | with_reducible apply keeps_State_setReg (subParts hA rfl) | with_reducible apply keeps_State_setFld (subParts hA rfl) | with_reducible apply keeps_State_setFlag (subParts hA rfl) | with_reducible apply keeps_State_syncShadow (subParts hA rfl) | with_reducible apply keeps_State_setGrpState (subParts hA rfl) | with_reducible apply keeps_State_thermalSync (subParts hA rfl) | with_reducible apply keeps_State_armChan (subParts hA rfl) | with_reducible apply keeps_State_armUnits (subParts hA rfl) | with_reducible apply Keeps.upd_grp_armUndo (subParts hA rfl) | with_reducible apply Keeps.upd_grp (subParts hA rfl) | with_reducible apply Keeps.upd_armUndo (subParts hA rfl)

theorem keeps_execArm {A : List Part} {s0 s : State} (hA : [.regs, .dram, .grp, .armUndo, .chan, .srvAx, .srvCh, .lsr, .pci, .ddr, .pwr, .cave, .out] ⊆ A)  (h : Keeps A s0 s) : KeepsR A s0 (execArm s) := by
  unfold execArm
  try dsimp only
  repeat' first | intro _ | with_reducible assumption | with_reducible apply KeepsR.ite | with_reducible apply Keeps.ite | with_reducible apply KeepsR.of_next | with_reducible apply keeps_State_rejectArm (subParts hA rfl) | with_reducible apply keeps_State_takeArm (subParts hA rfl)

theorem keeps_execSeqEvtRdWrite {A : List Part} {s0 s : State} (hA : [.regs] ⊆ A) (x0 : Word) (h : Keeps A s0 s) : KeepsR A s0 (execSeqEvtRdWrite x0 s) := by
  unfold execSeqEvtRdWrite
  try dsimp only
  repeat' first | intro _ | with_reducible assumption | with_reducible apply KeepsR.ite | with_reducible apply Keeps.ite | with_reducible apply KeepsR.of_next | with_reducible apply keeps_State_setFld (subParts hA rfl) | with_reducible apply keeps_State_evtReject (subParts hA rfl)

theorem keeps_State_busGrp {A : List Part} {s0 s : State} (hA : [.regs, .dram, .grp, .armUndo, .chan, .srvAx, .srvCh, .srv, .lsr, .hoop, .port, .head, .pci, .ddr, .pwr, .cave, .xbar, .out] ⊆ A) (x1 : ℕ) (x2 : ℕ) (x3 : Word) (h : Keeps A s0 s) : Keeps A s0 (State.busGrp s x1 x2 x3) := by
  unfold State.busGrp
  try dsimp only
  repeat' first | intro _ | with_reducible assumption | with_reducible apply Keeps.ite | with_reducible apply KeepsR.ite | with_reducible apply keeps_State_holdRise (subParts hA rfl) | with_reducible apply keeps_State_after (subParts hA rfl) | with_reducible apply keeps_State_plainWrite (subParts hA rfl) | with_reducible apply keeps_State_cmdBit (subParts hA rfl) | with_reducible apply keeps_execSeqEvtCtlWrite (subParts hA rfl) | with_reducible apply keeps_execSeqEvtBaseWrite (subParts hA rfl) | with_reducible apply keeps_execSeqBlockReset (subParts hA rfl) | with_reducible apply keeps_execAbort (subParts hA rfl) | with_reducible apply keeps_execArm (subParts hA rfl) | with_reducible apply keeps_execSeqEvtRdWrite (subParts hA rfl)

theorem keeps_execShortClear {A : List Part} {s0 s : State} (hA : [.regs] ⊆ A) (x0 : Bool) (x1 : Word) (h : Keeps A s0 s) : KeepsR A s0 (execShortClear x0 x1 s) := by
  unfold execShortClear
  try dsimp only
  repeat' first | intro _ | with_reducible assumption | with_reducible apply KeepsR.ite | with_reducible apply Keeps.ite | with_reducible apply KeepsR.of_next | with_reducible apply keeps_State_setReg (subParts hA rfl) | with_reducible apply keeps_onLight (subParts hA rfl)

theorem keeps_onStrobe {A : List Part} {s0 s : State} (hA : [.regs] ⊆ A) (x0 : ℕ) (x1 : ℕ) (x3 : State → State) (hf : ∀ (a0 : State), Keeps A s0 a0 → Keeps A s0 (x3 a0)) (h : Keeps A s0 s) : KeepsR A s0 (onStrobe x0 x1 s x3) := by
  unfold onStrobe
  try dsimp only
  repeat' first | intro _ | with_reducible assumption | with_reducible apply hf | with_reducible apply KeepsR.ite | with_reducible apply Keeps.ite | with_reducible apply KeepsR.of_next | with_reducible apply keeps_onUnitWrite (subParts hA rfl)

theorem keeps_execStrobeEnable {A : List Part} {s0 s : State} (hA : [.regs, .strobe, .pci, .pwr, .out] ⊆ A) (x0 : ℕ) (x1 : Word) (h : Keeps A s0 s) : KeepsR A s0 (execStrobeEnable x0 x1 s) := by
  unfold execStrobeEnable
  try dsimp only
  repeat' first | intro _ | with_reducible assumption | with_reducible apply KeepsR.ite | with_reducible apply Keeps.ite | with_reducible apply KeepsR.of_next | with_reducible apply keeps_State_setReg (subParts hA rfl) | with_reducible apply keeps_State_raise (subParts hA rfl) | with_reducible apply keeps_State_setFlag (subParts hA rfl) | with_reducible apply keeps_State_strobeOff (subParts hA rfl) | with_reducible apply keeps_State_budRequest (subParts hA rfl) | with_reducible apply keeps_onStrobe (subParts hA rfl)

theorem keeps_State_shortTestStart {A : List Part} {s0 s : State} (hA : [.regs, .lgt] ⊆ A) (x1 : ℕ) (h : Keeps A s0 s) : Keeps A s0 (State.shortTestStart s x1) := by
  unfold State.shortTestStart
  try dsimp only
  repeat' first | intro _ | with_reducible assumption | with_reducible apply keeps_State_setFlag (subParts hA rfl) | with_reducible apply Keeps.upd_lgt (subParts hA rfl)

theorem keeps_execLgtEnable {A : List Part} {s0 s : State} (hA : [.regs, .lgt, .pci, .pwr, .out] ⊆ A) (x0 : Word) (h : Keeps A s0 s) : KeepsR A s0 (execLgtEnable x0 s) := by
  unfold execLgtEnable
  try dsimp only
  repeat' first | intro _ | with_reducible assumption | with_reducible apply KeepsR.ite | with_reducible apply Keeps.ite | with_reducible apply KeepsR.of_next | with_reducible apply keeps_onLight (subParts hA rfl) | with_reducible apply keeps_State_storeLgtCtl (subParts hA rfl) | with_reducible apply keeps_State_lightSync (subParts hA rfl) | with_reducible apply keeps_State_shortTestStart (subParts hA rfl) | with_reducible apply Keeps.upd_lgt (subParts hA rfl)

theorem keeps_execSwap {A : List Part} {s0 s : State} (hA : [.regs, .lgt, .pci, .pwr, .out] ⊆ A)  (h : Keeps A s0 s) : KeepsR A s0 (execSwap s) := by
  unfold execSwap
  try dsimp only
  repeat' first | intro _ | with_reducible assumption | with_reducible apply KeepsR.of_next | with_reducible apply keeps_State_setFlag (subParts hA rfl) | with_reducible apply keeps_onLight (subParts hA rfl) | with_reducible apply keeps_State_lightSync (subParts hA rfl)

theorem keeps_State_strobePulse {A : List Part} {s0 s : State} (hA : [.regs, .strobe] ⊆ A) (x1 : ℕ) (x2 : ℕ) (h : Keeps A s0 s) : Keeps A s0 (State.strobePulse s x1 x2) := by
  unfold State.strobePulse
  try dsimp only
  repeat' first | intro _ | with_reducible assumption | with_reducible apply Keeps.ite | with_reducible apply keeps_State_satAdd (subParts hA rfl) | with_reducible apply keeps_State_modSb (subParts hA rfl)

theorem keeps_execStrobePulse {A : List Part} {s0 s : State} (hA : [.regs, .strobe] ⊆ A) (x0 : ℕ) (x1 : Word) (h : Keeps A s0 s) : KeepsR A s0 (execStrobePulse x0 x1 s) := by
  unfold execStrobePulse
  try dsimp only
  repeat' first | intro _ | with_reducible assumption | with_reducible apply KeepsR.ite | with_reducible apply Keeps.ite | with_reducible apply KeepsR.of_next | with_reducible apply keeps_State_setReg (subParts hA rfl) | with_reducible apply keeps_onStrobe (subParts hA rfl) | with_reducible apply keeps_State_strobePulse (subParts hA rfl)

theorem keeps_execLgtTestRun {A : List Part} {s0 s : State} (hA : [.regs, .lgt] ⊆ A)  (h : Keeps A s0 s) : KeepsR A s0 (execLgtTestRun s) := by
  unfold execLgtTestRun
  try dsimp only
  repeat' first | intro _ | with_reducible assumption | with_reducible apply KeepsR.ite | with_reducible apply Keeps.ite | with_reducible apply KeepsR.of_next | with_reducible apply keeps_onLight (subParts hA rfl) | with_reducible apply keeps_State_shortTestStart (subParts hA rfl)

theorem keeps_State_busLgt {A : List Part} {s0 s : State} (hA : [.regs, .lgt, .strobe, .pci, .intg, .pwr, .out] ⊆ A) (x1 : ℕ) (x2 : ℕ) (x3 : ℕ) (x4 : Word) (h : Keeps A s0 s) : Keeps A s0 (State.busLgt s x1 x2 x3 x4) := by
  unfold State.busLgt
  try dsimp only
  repeat' first | intro _ | with_reducible assumption | with_reducible apply Keeps.ite | with_reducible apply KeepsR.ite | with_reducible apply keeps_State_raise (subParts hA rfl) | with_reducible apply keeps_execLgtBlockReset (subParts hA rfl) | with_reducible apply keeps_execLgtDisable (subParts hA rfl) | with_reducible apply keeps_State_after (subParts hA rfl) | with_reducible apply keeps_execSinkWrite (subParts hA rfl) | with_reducible apply keeps_State_plainWrite (subParts hA rfl) | with_reducible apply keeps_State_cmdBit (subParts hA rfl) | with_reducible apply keeps_execShortClear (subParts hA rfl) | with_reducible apply keeps_execStrobeEnable (subParts hA rfl) | with_reducible apply keeps_execLgtEnable (subParts hA rfl) | with_reducible apply keeps_execSwap (subParts hA rfl) | with_reducible apply keeps_execStrobePulse (subParts hA rfl) | with_reducible apply keeps_execLgtTestRun (subParts hA rfl)

theorem keeps_execSrvAxModeWrite {A : List Part} {s0 s : State} (hA : [.regs, .srvAx, .head, .pci, .out] ⊆ A) (x0 : ℕ) (x1 : Word) (h : Keeps A s0 s) : KeepsR A s0 (execSrvAxModeWrite x0 x1 s) := by
  unfold execSrvAxModeWrite
  try dsimp only
  repeat' first | intro _ | with_reducible assumption | with_reducible apply KeepsR.ite | with_reducible apply Keeps.ite | with_reducible apply KeepsR.of_next | with_reducible apply keeps_State_setFld (subParts hA rfl) | with_reducible apply keeps_State_raise (subParts hA rfl) | with_reducible apply keeps_State_setFlag (subParts hA rfl) | with_reducible apply keeps_State_modAx (subParts hA rfl) | with_reducible apply keeps_State_modHd (subParts hA rfl) | with_reducible apply keeps_onUnitWrite (subParts hA rfl)

theorem keeps_execIdentificationArm {A : List Part} {s0 s : State} (hA : [.regs, .srv] ⊆ A) (x0 : Word) (h : Keeps A s0 s) : KeepsR A s0 (execIdentificationArm x0 s) := by
  unfold execIdentificationArm
  try dsimp only
  repeat' first | intro _ | with_reducible assumption | with_reducible apply KeepsR.ite | with_reducible apply Keeps.ite | with_reducible apply KeepsR.of_next | with_reducible apply keeps_State_setReg (subParts hA rfl) | with_reducible apply keeps_State_setFlag (subParts hA rfl) | with_reducible apply Keeps.upd_srv (subParts hA rfl)

theorem keeps_State_busSrv {A : List Part} {s0 s : State} (hA : [.regs, .dram, .grp, .chan, .srvAx, .srvCh, .srv, .lsr, .hoop, .port, .head, .pci, .ddr, .cave, .xbar, .out] ⊆ A) (x1 : ℕ) (x2 : ℕ) (x3 : ℕ) (x4 : Word) (h : Keeps A s0 s) : Keeps A s0 (State.busSrv s x1 x2 x3 x4) := by
  unfold State.busSrv
  try dsimp only
  repeat' first | intro _ | with_reducible assumption | with_reducible apply Keeps.ite | with_reducible apply KeepsR.ite | with_reducible apply keeps_State_setFld (subParts hA rfl) | with_reducible apply keeps_execSrvBlockReset (subParts hA rfl) | with_reducible apply keeps_State_after (subParts hA rfl) | with_reducible apply keeps_State_plainWrite (subParts hA rfl) | with_reducible apply keeps_State_ctlWrite (subParts hA rfl) | with_reducible apply keeps_execSrvAxModeWrite (subParts hA rfl) | with_reducible apply keeps_execIdentificationArm (subParts hA rfl)

theorem keeps_State_caveLost {A : List Part} {s0 s : State} (hA : [.regs, .pci, .cave, .out] ⊆ A)  (h : Keeps A s0 s) : Keeps A s0 (State.caveLost s) := by
  unfold State.caveLost
  try dsimp only
  repeat' first | intro _ | with_reducible assumption | with_reducible apply Keeps.ite | with_reducible apply keeps_State_setReg (subParts hA rfl) | with_reducible apply keeps_State_cavePost (subParts hA rfl)

theorem keeps_State_caveRej {A : List Part} {s0 s : State} (hA : [.regs, .pci, .out] ⊆ A)  (h : Keeps A s0 s) : Keeps A s0 (State.caveRej s) := by
  unfold State.caveRej
  try dsimp only
  repeat' first | intro _ | with_reducible assumption | with_reducible apply keeps_State_raise (subParts hA rfl)

theorem keeps_execCavePost {A : List Part} {s0 s : State} (hA : [.regs, .pci, .cave, .out] ⊆ A) (x0 : Source) (x1 : Word) (h : Keeps A s0 s) : KeepsR A s0 (execCavePost x0 x1 s) := by
  unfold execCavePost
  try dsimp only
  repeat' first | intro _ | with_reducible assumption | with_reducible apply KeepsR.ite | with_reducible apply Keeps.ite | with_reducible apply KeepsR.of_next | with_reducible apply keeps_State_setReg (subParts hA rfl) | with_reducible apply keeps_State_cavePost (subParts hA rfl) | with_reducible apply keeps_State_caveRej (subParts hA rfl)

theorem keeps_State_setWords {A : List Part} {s0 s : State} (hA : [.regs] ⊆ A) (x1 : ℕ) (x2 : List Byte) (h : Keeps A s0 s) : Keeps A s0 (State.setWords s x1 x2) := by
  unfold State.setWords
  try dsimp only
  repeat' first | intro _ | with_reducible assumption | with_reducible apply Keeps.each | with_reducible apply keeps_State_setReg (subParts hA rfl)

theorem keeps_execCaveProvision {A : List Part} {s0 s : State} (hA : [.regs, .pci, .cave, .out] ⊆ A)  (h : Keeps A s0 s) : KeepsR A s0 (execCaveProvision s) := by
  unfold execCaveProvision
  try dsimp only
  repeat' first | intro _ | with_reducible assumption | with_reducible apply KeepsR.ite | with_reducible apply Keeps.ite | with_reducible apply KeepsR.of_next | with_reducible apply keeps_State_setFlag (subParts hA rfl) | with_reducible apply keeps_State_caveRej (subParts hA rfl) | with_reducible apply keeps_State_setWords (subParts hA rfl) | with_reducible apply Keeps.upd_cave (subParts hA rfl) | with_reducible rfl | rfl

theorem keeps_execCaveUnfreeze {A : List Part} {s0 s : State} (hA : [.regs, .cave] ⊆ A)  (h : Keeps A s0 s) : KeepsR A s0 (execCaveUnfreeze s) := by
  unfold execCaveUnfreeze
  try dsimp only
  repeat' first | intro _ | with_reducible assumption | with_reducible apply KeepsR.of_next | with_reducible apply keeps_State_unfreeze (subParts hA rfl)

theorem keeps_execCaveBlockReset {A : List Part} {s0 s : State} (hA : [.regs, .cave] ⊆ A)  (h : Keeps A s0 s) : KeepsR A s0 (execCaveBlockReset s) := by
  unfold execCaveBlockReset
  try dsimp only
  repeat' first | intro _ | with_reducible assumption | with_reducible apply KeepsR.of_next | with_reducible apply keeps_State_resetCave (subParts hA rfl)

theorem keeps_State_holdQueue {A : List Part} {s0 s : State} (hA : [.cave] ⊆ A)  (h : Keeps A s0 s) : Keeps A s0 (State.holdQueue s) := by
  unfold State.holdQueue
  try dsimp only
  repeat' first | intro _ | with_reducible assumption | with_reducible apply Keeps.upd_cave (subParts hA rfl) | with_reducible rfl | rfl

theorem keeps_State_clearAccept {A : List Part} {s0 s : State} (hA : [.regs, .cave] ⊆ A) (x1 : ℕ) (h : Keeps A s0 s) : Keeps A s0 (State.clearAccept s x1) := by
  unfold State.clearAccept
  try dsimp only
  repeat' first | intro _ | with_reducible assumption | with_reducible apply keeps_State_setFld (subParts hA rfl) | with_reducible apply keeps_State_setFlag (subParts hA rfl) | with_reducible apply keeps_State_holdQueue (subParts hA rfl) | with_reducible apply Keeps.upd_cave (subParts hA rfl) | with_reducible rfl | rfl

theorem keeps_State_clearRefuse {A : List Part} {s0 s : State} (hA : [.regs, .pci, .cave, .out] ⊆ A) (x1 : ℕ) (x2 : ℕ) (h : Keeps A s0 s) : Keeps A s0 (State.clearRefuse s x1 x2) := by
  unfold State.clearRefuse
  try dsimp only
  repeat' first | intro _ | with_reducible assumption | with_reducible apply keeps_State_setFld (subParts hA rfl) | with_reducible apply keeps_State_raise (subParts hA rfl) | with_reducible apply keeps_State_satAdd (subParts hA rfl) | with_reducible apply keeps_State_cavePost (subParts hA rfl) | with_reducible apply Keeps.upd_cave (subParts hA rfl) | with_reducible rfl | rfl

theorem keeps_execClear {A : List Part} {s0 s : State} (hA : [.regs, .pci, .cave, .out] ⊆ A) (x0 : Source) (h : Keeps A s0 s) : KeepsR A s0 (execClear x0 s) := by
  unfold execClear
  try dsimp only
  repeat' first | intro _ | with_reducible assumption | with_reducible apply KeepsR.ite | with_reducible apply Keeps.ite | with_reducible apply KeepsR.of_next | with_reducible apply keeps_State_clearAccept (subParts hA rfl) | with_reducible apply keeps_State_clearRefuse (subParts hA rfl) | with_reducible apply Keeps.upd_cave (subParts hA rfl) | with_reducible rfl | rfl

theorem keeps_execChallenge {A : List Part} {s0 s : State} (hA : [.regs, .cave, .free] ⊆ A)  (h : Keeps A s0 s) : KeepsR A s0 (execChallenge s) := by
  unfold execChallenge
  try dsimp only
  repeat' first | intro _ | with_reducible assumption | with_reducible apply KeepsR.of_next | with_reducible apply keeps_State_draw (subParts hA rfl) | with_reducible apply keeps_State_setWords (subParts hA rfl) | split | with_reducible apply Keeps.upd_cave (subParts hA rfl) | with_reducible rfl | rfl | (refine Keeps.pair (by assumption) ?_)

theorem keeps_execCaveReadFetch {A : List Part} {s0 s : State} (hA : [.regs, .pci, .cave, .out] ⊆ A) (x0 : Word) (h : Keeps A s0 s) : KeepsR A s0 (execCaveReadFetch x0 s) := by
  unfold execCaveReadFetch
  try dsimp only
  repeat' first | intro _ | with_reducible assumption | with_reducible apply KeepsR.ite | with_reducible apply Keeps.ite | with_reducible apply KeepsR.of_next | with_reducible apply keeps_State_setFld (subParts hA rfl) | with_reducible apply keeps_State_setFlag (subParts hA rfl) | with_reducible apply keeps_State_caveRej (subParts hA rfl) | with_reducible apply Keeps.upd_cave (subParts hA rfl) | with_reducible rfl | rfl

theorem keeps_execCaveFreeze {A : List Part} {s0 s : State} (hA : [.regs, .cave] ⊆ A)  (h : Keeps A s0 s) : KeepsR A s0 (execCaveFreeze s) := by
  unfold execCaveFreeze
  try dsimp only
  repeat' first | intro _ | with_reducible assumption | with_reducible apply KeepsR.ite | with_reducible apply Keeps.ite | with_reducible apply KeepsR.of_next | with_reducible apply keeps_State_setReg (subParts hA rfl) | with_reducible apply keeps_State_setFlag (subParts hA rfl) | with_reducible apply keeps_State_holdQueue (subParts hA rfl) | with_reducible apply Keeps.upd_cave (subParts hA rfl) | with_reducible rfl | rfl

theorem keeps_State_busCave {A : List Part} {s0 s : State} (hA : [.regs, .pci, .cave, .free, .out] ⊆ A) (x1 : Source) (x2 : ℕ) (x3 : ℕ) (x4 : Word) (h : Keeps A s0 s) : Keeps A s0 (State.busCave s x1 x2 x3 x4) := by
  unfold State.busCave
  try dsimp only
  repeat' first | intro _ | with_reducible assumption | with_reducible apply Keeps.ite | with_reducible apply KeepsR.ite | with_reducible apply keeps_State_setReg (subParts hA rfl) | with_reducible apply keeps_State_after (subParts hA rfl) | with_reducible apply keeps_State_plainWrite (subParts hA rfl) | with_reducible apply keeps_State_cmdBit (subParts hA rfl) | with_reducible apply keeps_State_caveLost (subParts hA rfl) | with_reducible apply keeps_execCavePost (subParts hA rfl) | with_reducible apply keeps_execCaveProvision (subParts hA rfl) | with_reducible apply keeps_execCaveUnfreeze (subParts hA rfl) | with_reducible apply keeps_execCaveBlockReset (subParts hA rfl) | with_reducible apply keeps_execClear (subParts hA rfl) | with_reducible apply keeps_execChallenge (subParts hA rfl) | with_reducible apply keeps_execCaveReadFetch (subParts hA rfl) | with_reducible apply keeps_execCaveFreeze (subParts hA rfl)

theorem keeps_State_writeReg {A : List Part} {s0 s : State} (hA : [.regs, .dram, .l2, .shadow, .staged, .grp, .armUndo, .chan, .srvAx, .srvCh, .srv, .lsr, .hoop, .port, .bulk, .dom, .time, .mot, .fbk, .cam, .pipe, .lgt, .strobe, .lane, .head, .dma, .dmaEng, .pci, .eth, .ddr, .intg, .cal, .pwr, .cave, .boot, .xbar, .free, .out] ⊆ A) (x1 : Source) (x2 : ℕ) (x3 : RegHit) (x4 : Word) (h : Keeps A s0 s) : Keeps A s0 (State.writeReg s x1 x2 x3 x4) := by
  unfold State.writeReg
  try dsimp only
  repeat' first | intro _ | with_reducible assumption | with_reducible apply Keeps.ite | with_reducible apply keeps_execStiBlockReset (subParts hA rfl) | with_reducible apply keeps_State_plainWrite (subParts hA rfl) | with_reducible apply keeps_State_ctlWrite (subParts hA rfl) | with_reducible apply keeps_State_busMot (subParts hA rfl) | with_reducible apply keeps_State_busCal (subParts hA rfl) | with_reducible apply keeps_State_busIntg (subParts hA rfl) | with_reducible apply keeps_State_busCam (subParts hA rfl) | with_reducible apply keeps_State_busBoot (subParts hA rfl) | with_reducible apply keeps_State_busEth (subParts hA rfl) | with_reducible apply keeps_State_busHost (subParts hA rfl) | with_reducible apply keeps_State_busHk (subParts hA rfl) | with_reducible apply keeps_State_busLane (subParts hA rfl) | with_reducible apply keeps_State_busSeq (subParts hA rfl) | with_reducible apply keeps_State_busLsr (subParts hA rfl) | with_reducible apply keeps_State_busHoop (subParts hA rfl) | with_reducible apply keeps_State_busPwr (subParts hA rfl) | with_reducible apply keeps_State_busGrp (subParts hA rfl) | with_reducible apply keeps_State_busLgt (subParts hA rfl) | with_reducible apply keeps_State_busSrv (subParts hA rfl) | with_reducible apply keeps_State_busCave (subParts hA rfl)

theorem keeps_State_writeWord {A : List Part} {s0 s : State} (hA : [.regs, .dram, .l2, .shadow, .staged, .grp, .armUndo, .chan, .srvAx, .srvCh, .srv, .lsr, .hoop, .port, .bulk, .dom, .time, .mot, .fbk, .cam, .pipe, .lgt, .strobe, .lane, .head, .dma, .dmaEng, .pci, .eth, .ddr, .intg, .cal, .pwr, .cave, .boot, .xbar, .free, .out] ⊆ A) (x1 : Source) (x2 : ℕ) (x3 : Word) (h : Keeps A s0 s) : Keeps A s0 (State.writeWord s x1 x2 x3) := by
  unfold State.writeWord
  try dsimp only
  repeat' first | intro _ | with_reducible assumption | with_reducible apply Keeps.ite | with_reducible apply keeps_State_writeMsix (subParts hA rfl) | with_reducible apply keeps_State_writeTable (subParts hA rfl) | with_reducible apply keeps_State_writeReg (subParts hA rfl) | split

theorem keeps_State_busWrite {A : List Part} {s0 s : State} (hA : [.regs, .dram, .l2, .shadow, .staged, .grp, .armUndo, .chan, .srvAx, .srvCh, .srv, .lsr, .hoop, .port, .bulk, .dom, .time, .mot, .fbk, .cam, .pipe, .lgt, .strobe, .lane, .head, .dma, .dmaEng, .pci, .eth, .ddr, .intg, .cal, .pwr, .cave, .boot, .xbar, .free, .out] ⊆ A) (x1 : Source) (x2 : ℕ) (x3 : Word) (h : Keeps A s0 s) : Keeps A s0 (State.busWrite s x1 x2 x3) := by
  unfold State.busWrite
  try dsimp only
  repeat' first | intro _ | with_reducible assumption | with_reducible apply Keeps.ite | with_reducible apply Keeps.each | with_reducible apply keeps_State_absent (subParts hA rfl) | with_reducible apply keeps_State_writeWord (subParts hA rfl) | split | with_reducible apply Keeps.upd_staged (subParts hA rfl) | exact tabWf_tabSet _ _ _ _ (canon_staged (by assumption)) | with_reducible rfl | rfl

theorem keeps_execWideWriteLow {A : List Part} {s0 s : State} (hA : [.regs, .dram, .l2, .shadow, .staged, .grp, .armUndo, .chan, .srvAx, .srvCh, .srv, .lsr, .hoop, .port, .bulk, .dom, .time, .mot, .fbk, .cam, .pipe, .lgt, .strobe, .lane, .head, .dma, .dmaEng, .pci, .eth, .ddr, .intg, .cal, .pwr, .cave, .boot, .xbar, .free, .out] ⊆ A) (x0 : Source) (x1 : ℕ) (x2 : Word) (h : Keeps A s0 s) : KeepsR A s0 (execWideWriteLow x0 x1 x2 s) := by
  unfold execWideWriteLow
  try dsimp only
  repeat' first | intro _ | with_reducible assumption | with_reducible apply KeepsR.of_next | with_reducible apply keeps_onAddr (subParts hA rfl) | with_reducible apply keeps_State_busWrite (subParts hA rfl)

theorem keeps_execRemoteAccessTimeout {A : List Part} {s0 s : State} (hA : [.regs, .hoop, .pci, .out] ⊆ A)  (h : Keeps A s0 s) : KeepsR A s0 (execRemoteAccessTimeout s) := by
  unfold execRemoteAccessTimeout
  try dsimp only
  repeat' first | intro _ | with_reducible assumption | with_reducible apply KeepsR.ite | with_reducible apply Keeps.ite | with_reducible apply KeepsR.of_next | with_reducible apply keeps_State_rraEnd (subParts hA rfl) | split

theorem keeps_State_fetchDue {A : List Part} {s0 s : State} (hA : [.regs, .dram, .grp, .chan, .srvAx, .srvCh, .lsr, .hoop, .port, .pci, .ddr, .xbar, .out] ⊆ A) (x1 : ℕ) (h : Keeps A s0 s) : Keeps A s0 (State.fetchDue s x1) := by
  unfold State.fetchDue
  try dsimp only
  repeat' first | intro _ | with_reducible assumption | with_reducible apply Keeps.ite | with_reducible apply keeps_State_fault (subParts hA rfl) | split

theorem keeps_State_curdFault {A : List Part} {s0 s : State} (hA : [.regs, .dram, .grp, .chan, .srvAx, .srvCh, .lsr, .hoop, .port, .pci, .ddr, .xbar, .out] ⊆ A) (x1 : ℕ) (x2 : ℕ) (x3 : ℕ) (x4 : Loc) (h : Keeps A s0 s) : Keeps A s0 (State.curdFault s x1 x2 x3 x4) := by
  unfold State.curdFault
  try dsimp only
  repeat' first | intro _ | with_reducible assumption | with_reducible apply Keeps.ite | with_reducible apply keeps_State_modCh (subParts hA rfl) | with_reducible apply keeps_State_fetchDue (subParts hA rfl)

theorem keeps_State_takeHeader {A : List Part} {s0 s : State} (hA : [.regs, .dram, .grp, .chan, .srvAx, .srvCh, .lsr, .hoop, .port, .pci, .ddr, .xbar, .out] ⊆ A) (x1 : ℕ) (x2 : ℕ) (x3 : List Byte) (h : Keeps A s0 s) : Keeps A s0 (State.takeHeader s x1 x2 x3) := by
  unfold State.takeHeader
  try dsimp only
  repeat' first | intro _ | with_reducible assumption | with_reducible apply Keeps.ite | with_reducible apply keeps_State_modCh (subParts hA rfl) | with_reducible apply keeps_State_curdFault (subParts hA rfl)

theorem keeps_State_feedRequest {A : List Part} {s0 s : State} (hA : [.ddr] ⊆ A) (x1 : ℕ) (x2 : ℕ) (h : Keeps A s0 s) : Keeps A s0 (State.feedRequest s x1 x2) := by
  unfold State.feedRequest
  try dsimp only
  repeat' first | intro _ | with_reducible assumption | with_reducible apply Keeps.upd_ddr (subParts hA rfl)

theorem keeps_State_feedAsk {A : List Part} {s0 s : State} (hA : [.chan, .ddr] ⊆ A) (x1 : ℕ) (x2 : ℕ) (x3 : FeedEntry) (h : Keeps A s0 s) : Keeps A s0 (State.feedAsk s x1 x2 x3) := by
  unfold State.feedAsk
  try dsimp only
  repeat' first | intro _ | with_reducible assumption | with_reducible apply Keeps.ite | with_reducible apply keeps_State_modCh (subParts hA rfl) | with_reducible apply keeps_State_feedRequest (subParts hA rfl)

theorem keeps_State_detectCrc {A : List Part} {s0 s : State} (hA : [.regs, .dram, .grp, .pci, .ddr, .intg, .out] ⊆ A) (x1 : ℕ) (x2 : ℕ) (h : Keeps A s0 s) : Keeps A s0 (State.detectCrc s x1 x2) := by
  unfold State.detectCrc
  try dsimp only
  repeat' first | intro _ | with_reducible assumption | with_reducible apply keeps_State_raise (subParts hA rfl) | with_reducible apply keeps_State_satAdd (subParts hA rfl) | with_reducible apply keeps_State_intgRecord (subParts hA rfl) | with_reducible apply keeps_State_intgLast (subParts hA rfl)

theorem keeps_State_refetch {A : List Part} {s0 s : State} (hA : [.regs, .dram, .grp, .chan, .srvAx, .srvCh, .lsr, .hoop, .port, .pci, .ddr, .intg, .xbar, .out] ⊆ A) (x1 : ℕ) (x2 : ℕ) (x3 : FeedEntry) (h : Keeps A s0 s) : Keeps A s0 (State.refetch s x1 x2 x3) := by
  unfold State.refetch
  try dsimp only
  repeat' first | intro _ | with_reducible assumption | with_reducible apply Keeps.ite | with_reducible apply keeps_State_satAdd (subParts hA rfl) | with_reducible apply keeps_State_modCh (subParts hA rfl) | with_reducible apply keeps_State_curdFault (subParts hA rfl) | with_reducible apply keeps_State_feedAsk (subParts hA rfl) | with_reducible apply keeps_State_detectCrc (subParts hA rfl)

theorem keeps_State_ownNotReady {A : List Part} {s0 s : State} (hA : [.grp] ⊆ A)  (h : Keeps A s0 s) : Keeps A s0 (State.ownNotReady s) := by
  unfold State.ownNotReady
  try dsimp only
  repeat' first | intro _ | with_reducible assumption | with_reducible apply Keeps.ite | with_reducible apply keeps_State_modGrp (subParts hA rfl)

theorem keeps_State_bcrcFail {A : List Part} {s0 s : State} (hA : [.regs, .dram, .grp, .chan, .srvAx, .srvCh, .lsr, .hoop, .port, .pci, .ddr, .xbar, .out] ⊆ A) (x1 : ℕ) (x2 : Curd) (h : Keeps A s0 s) : Keeps A s0 (State.bcrcFail s x1 x2) := by
  unfold State.bcrcFail
  try dsimp only
  repeat' first | intro _ | with_reducible assumption | with_reducible apply Keeps.ite | with_reducible apply keeps_State_modCh (subParts hA rfl) | with_reducible apply keeps_State_enter (subParts hA rfl) | with_reducible apply keeps_State_firstFault (subParts hA rfl) | with_reducible apply keeps_State_fault (subParts hA rfl) | with_reducible apply keeps_State_ownNotReady (subParts hA rfl)

theorem keeps_State_bodyCheck {A : List Part} {s0 s : State} (hA : [.regs, .dram, .grp, .chan, .srvAx, .srvCh, .lsr, .hoop, .port, .pci, .ddr, .xbar, .out] ⊆ A) (x1 : ℕ) (x2 : ℕ) (x3 : ℕ) (h : Keeps A s0 s) : Keeps A s0 (State.bodyCheck s x1 x2 x3) := by
  unfold State.bodyCheck
  try dsimp only
  repeat' first | intro _ | with_reducible assumption | with_reducible apply Keeps.ite | with_reducible apply keeps_State_bcrcFail (subParts hA rfl) | split

theorem keeps_State_feedFill {A : List Part} {s0 s : State} (hA : [.regs, .dram, .grp, .chan, .srvAx, .srvCh, .lsr, .hoop, .port, .pci, .ddr, .intg, .xbar, .out] ⊆ A) (x1 : ℕ) (x2 : ℕ) (x3 : FeedEntry) (x4 : List Byte) (h : Keeps A s0 s) : Keeps A s0 (State.feedFill s x1 x2 x3 x4) := by
  unfold State.feedFill
  try dsimp only
  repeat' first | intro _ | with_reducible assumption | with_reducible apply Keeps.ite | with_reducible apply keeps_State_modCh (subParts hA rfl) | with_reducible apply keeps_State_takeHeader (subParts hA rfl) | with_reducible apply keeps_State_refetch (subParts hA rfl) | with_reducible apply keeps_State_bodyCheck (subParts hA rfl)

theorem keeps_State_logAdd {A : List Part} {s0 s : State} (hA : [.regs, .dram, .grp, .lsr, .pci, .ddr, .out] ⊆ A) (x1 : ℕ) (x2 : LogEntry) (h : Keeps A s0 s) : Keeps A s0 (State.logAdd s x1 x2) := by
  unfold State.logAdd
  try dsimp only
  repeat' first | intro _ | with_reducible assumption | with_reducible apply Keeps.ite | with_reducible apply keeps_State_modLs (subParts hA rfl) | with_reducible apply keeps_State_logStage (subParts hA rfl)

theorem keeps_State_logInstant {A : List Part} {s0 s : State} (hA : [.regs, .dram, .grp, .lsr, .pci, .ddr, .out] ⊆ A) (x1 : ℕ) (x2 : ℕ) (x3 : ℕ × Bool) (x4 : ℕ × Bool) (x5 : ℕ) (x6 : ℤ) (x7 : Bool) (x8 : Bool) (x9 : Bool) (h : Keeps A s0 s) : Keeps A s0 (State.logInstant s x1 x2 x3 x4 x5 x6 x7 x8 x9) := by
  unfold State.logInstant
  try dsimp only
  repeat' first | intro _ | with_reducible assumption | with_reducible apply Keeps.ite | with_reducible apply keeps_State_modLs (subParts hA rfl) | with_reducible apply keeps_State_logAdd (subParts hA rfl)

theorem keeps_execEthFrameSent {A : List Part} {s0 s : State} (hA : [.regs, .dram, .pci, .ddr, .out] ⊆ A) (x0 : ℕ) (h : Keeps A s0 s) : KeepsR A s0 (execEthFrameSent x0 s) := by
  unfold execEthFrameSent
  try dsimp only
  repeat' first | intro _ | with_reducible assumption | with_reducible apply KeepsR.ite | with_reducible apply Keeps.ite | with_reducible apply KeepsR.of_next | with_reducible apply keeps_State_emit (subParts hA rfl) | with_reducible apply keeps_State_txRelease (subParts hA rfl) | with_reducible apply keeps_onUnit (subParts hA rfl) | with_reducible apply keeps_State_txClean (subParts hA rfl) | split

theorem keeps_execExtest {A : List Part} {s0 s : State} (hA : [.regs, .dram, .grp, .lsr, .pci, .ddr, .cave, .boot, .out] ⊆ A)  (h : Keeps A s0 s) : KeepsR A s0 (execExtest s) := by
  unfold execExtest
  try dsimp only
  repeat' first | intro _ | with_reducible assumption | with_reducible apply KeepsR.of_next | with_reducible apply keeps_State_emissionStop (subParts hA rfl) | with_reducible apply Keeps.upd_boot (subParts hA rfl)

theorem keeps_State_bulkSent {A : List Part} {s0 s : State} (hA : [.bulk] ⊆ A) (x1 : Packet) (h : Keeps A s0 s) : Keeps A s0 (State.bulkSent s x1) := by
  unfold State.bulkSent
  try dsimp only
  repeat' first | intro _ | with_reducible assumption | with_reducible apply Keeps.ite | with_reducible apply keeps_State_modBk (subParts hA rfl)

theorem keeps_State_shortFound {A : List Part} {s0 s : State} (hA : [.regs, .dram, .grp, .pci, .ddr, .out] ⊆ A) (x1 : ℕ) (x2 : ℕ) (h : Keeps A s0 s) : Keeps A s0 (State.shortFound s x1 x2) := by
  unfold State.shortFound
  try dsimp only
  repeat' first | intro _ | with_reducible assumption | with_reducible apply Keeps.ite | with_reducible apply keeps_State_raise (subParts hA rfl) | with_reducible apply keeps_State_post (subParts hA rfl) | with_reducible apply keeps_State_setBit (subParts hA rfl)

theorem keeps_execShortTestDone {A : List Part} {s0 s : State} (hA : [.regs, .dram, .grp, .lgt, .pci, .ddr, .out] ⊆ A) (x0 : List ℕ) (h : Keeps A s0 s) : KeepsR A s0 (execShortTestDone x0 s) := by
  unfold execShortTestDone
  try dsimp only
  repeat' first | intro _ | with_reducible assumption | with_reducible apply KeepsR.ite | with_reducible apply Keeps.ite | with_reducible apply KeepsR.of_next | with_reducible apply Keeps.each | with_reducible apply keeps_State_setFlag (subParts hA rfl) | with_reducible apply keeps_occurs (subParts hA rfl) | with_reducible apply keeps_State_shortFound (subParts hA rfl) | with_reducible apply Keeps.upd_lgt (subParts hA rfl)

theorem keeps_State_readWords {A : List Part} {s0 s : State} (hA : [.regs, .dram, .grp, .pci, .ddr, .intg, .out] ⊆ A) (x1 : ℕ) (x2 : List (ℕ × ℕ)) (h : Keeps A s0 s) : Keeps A s0 (State.readWords s x1 x2).2 := by
  unfold State.readWords
  try dsimp only
  repeat' first | intro _ | with_reducible assumption | with_reducible apply Keeps.ite | with_reducible apply keeps_State_raise (subParts hA rfl) | with_reducible apply keeps_State_satAdd (subParts hA rfl) | with_reducible apply keeps_State_detectUe (subParts hA rfl) | split

theorem keeps_State_readTable {A : List Part} {s0 s : State} (hA : [.regs, .dram, .grp, .pci, .ddr, .intg, .free, .out] ⊆ A) (x1 : ℕ) (h : Keeps A s0 s) : Keeps A s0 (State.readTable s x1).2 := by
  unfold State.readTable
  try dsimp only
  repeat' first | intro _ | with_reducible assumption | with_reducible apply Keeps.ite | with_reducible apply keeps_State_draw (subParts hA rfl) | with_reducible apply keeps_State_readWords (subParts hA rfl) | split | (refine Keeps.pair (by assumption) ?_)

theorem keeps_State_sensed {A : List Part} {s0 s : State} (hA : [.regs, .free] ⊆ A) (x1 : ℕ) (x2 : ℕ) (h : Keeps A s0 s) : Keeps A s0 (State.sensed s x1 x2) := by
  unfold State.sensed
  try dsimp only
  repeat' first | intro _ | with_reducible assumption | with_reducible apply Keeps.ite | with_reducible apply keeps_State_setFlag (subParts hA rfl) | with_reducible apply keeps_State_draw (subParts hA rfl) | with_reducible apply keeps_State_adapt (subParts hA rfl) | split | (refine Keeps.pair (by assumption) ?_)

theorem keeps_State_readReg {A : List Part} {s0 s : State} (hA : [.regs, .free] ⊆ A) (x1 : ℕ) (x2 : RegHit) (h : Keeps A s0 s) : Keeps A s0 (State.readReg s x1 x2).2 := by
  unfold State.readReg
  try dsimp only
  repeat' first | intro _ | with_reducible assumption | with_reducible apply Keeps.foldl | with_reducible apply keeps_State_sensed (subParts hA rfl) | split

theorem keeps_State_readWord {A : List Part} {s0 s : State} (hA : [.regs, .dram, .grp, .pci, .ddr, .intg, .free, .out] ⊆ A) (x1 : ℕ) (h : Keeps A s0 s) : Keeps A s0 (State.readWord s x1).2 := by
  unfold State.readWord
  try dsimp only
  repeat' first | intro _ | with_reducible assumption | with_reducible apply Keeps.ite | with_reducible apply keeps_State_readTable (subParts hA rfl) | with_reducible apply keeps_State_readReg (subParts hA rfl) | split | (refine Keeps.pair (by assumption) ?_)

theorem keeps_State_latchUpper {A : List Part} {s0 s : State} (hA : [.regs, .dram, .shadow, .grp, .pci, .ddr, .intg, .free, .out] ⊆ A) (x1 : Source) (x2 : ℕ) (x3 : ℕ) (h : Keeps A s0 s) : Keeps A s0 (State.latchUpper s x1 x2 x3) := by
  unfold State.latchUpper
  try dsimp only
  repeat' first | intro _ | with_reducible assumption | with_reducible apply Keeps.ite | with_reducible apply Keeps.each | with_reducible apply keeps_State_draw (subParts hA rfl) | with_reducible apply keeps_State_readWord (subParts hA rfl) | split | with_reducible apply Keeps.upd_shadow (subParts hA rfl) | exact tabWf_tabSet _ _ _ _ (canon_shadow (by assumption)) | with_reducible rfl | rfl | (refine Keeps.pair (by assumption) ?_)

theorem keeps_State_busRead {A : List Part} {s0 s : State} (hA : [.regs, .dram, .shadow, .grp, .pci, .ddr, .intg, .free, .out] ⊆ A) (x1 : Source) (x2 : ℕ) (h : Keeps A s0 s) : Keeps A s0 (State.busRead s x1 x2).2 := by
  unfold State.busRead
  try dsimp only
  repeat' first | intro _ | with_reducible assumption | with_reducible apply Keeps.ite | with_reducible apply keeps_State_absent (subParts hA rfl) | with_reducible apply keeps_State_readWord (subParts hA rfl) | with_reducible apply keeps_State_latchUpper (subParts hA rfl) | split | (refine Keeps.pair (by assumption) ?_)

theorem keeps_execWideReadLow {A : List Part} {s0 s : State} (hA : [.regs, .dram, .shadow, .readData, .grp, .pci, .ddr, .intg, .free, .out] ⊆ A) (x0 : Source) (x1 : ℕ) (h : Keeps A s0 s) : KeepsR A s0 (execWideReadLow x0 x1 s) := by
  unfold execWideReadLow
  try dsimp only
  repeat' first | intro _ | with_reducible assumption | with_reducible apply KeepsR.of_next | with_reducible apply keeps_onAddr (subParts hA rfl) | with_reducible apply keeps_State_busRead (subParts hA rfl) | split | with_reducible apply Keeps.upd_readData (subParts hA rfl) | (refine Keeps.pair (by assumption) ?_)

theorem keeps_State_flushOwed {A : List Part} {s0 s : State} (hA : [.pci, .out] ⊆ A)  (h : Keeps A s0 s) : Keeps A s0 (State.flushOwed s) := by
  unfold State.flushOwed
  try dsimp only
  repeat' first | intro _ | with_reducible assumption | with_reducible apply Keeps.foldl | with_reducible apply keeps_State_emit (subParts hA rfl) | with_reducible apply Keeps.upd_pci (subParts hA rfl)

theorem keeps_State_modLastFrame {A : List Part} {s0 s : State} (hA : [.cam] ⊆ A) (x1 : ℕ) (x2 : Frame → Frame) (h : Keeps A s0 s) : Keeps A s0 (State.modLastFrame s x1 x2) := by
  unfold State.modLastFrame
  try dsimp only
  repeat' first | intro _ | with_reducible assumption | with_reducible apply keeps_State_modCm (subParts hA rfl) | split

theorem keeps_execCameraLine {A : List Part} {s0 s : State} (hA : [.regs, .dram, .cam, .pipe, .pci, .ddr, .free, .out] ⊆ A) (x0 : ℕ) (x1 : List CamEdge) (h : Keeps A s0 s) : KeepsR A s0 (execCameraLine x0 x1 s) := by
  unfold execCameraLine
  try dsimp only
  repeat' first | intro _ | with_reducible assumption | with_reducible apply KeepsR.ite | with_reducible apply Keeps.ite | with_reducible apply KeepsR.of_next | with_reducible apply keeps_onUnit (subParts hA rfl) | with_reducible apply keeps_State_camLevel (subParts hA rfl) | with_reducible apply keeps_State_dropFrame (subParts hA rfl) | with_reducible apply keeps_State_modLastFrame (subParts hA rfl) | split

theorem keeps_State_ethDrop {A : List Part} {s0 s : State} (hA : [.regs, .pci, .out] ⊆ A) (x1 : ℕ) (x2 : Field) (h : Keeps A s0 s) : Keeps A s0 (State.ethDrop s x1 x2) := by
  unfold State.ethDrop
  try dsimp only
  repeat' first | intro _ | with_reducible assumption | with_reducible apply keeps_State_ethFlag (subParts hA rfl) | with_reducible apply keeps_State_satAdd (subParts hA rfl)

theorem keeps_execEthFrameReceived {A : List Part} {s0 s : State} (hA : [.regs, .dram, .grp, .pci, .ddr, .intg, .out] ⊆ A) (x0 : ℕ) (x1 : List Byte) (x2 : Word) (h : Keeps A s0 s) : KeepsR A s0 (execEthFrameReceived x0 x1 x2 s) := by
  unfold execEthFrameReceived
  try dsimp only
  repeat' first | intro _ | with_reducible assumption | with_reducible apply KeepsR.ite | with_reducible apply Keeps.ite | with_reducible apply KeepsR.of_next | with_reducible apply keeps_State_writeDram (subParts hA rfl) | with_reducible apply keeps_State_setFld (subParts hA rfl) | with_reducible apply keeps_State_ethFlag (subParts hA rfl) | with_reducible apply keeps_onUnit (subParts hA rfl) | with_reducible apply keeps_State_hiddenUe (subParts hA rfl) | with_reducible apply keeps_State_ethDrop (subParts hA rfl) | split | (refine Keeps.pair (by assumption) ?_)

theorem keeps_State_strobeFault {A : List Part} {s0 s : State} (hA : [.regs, .dram, .grp, .strobe, .pci, .ddr, .pwr, .out] ⊆ A) (x1 : ℕ) (x2 : ℕ) (h : Keeps A s0 s) : Keeps A s0 (State.strobeFault s x1 x2) := by
  unfold State.strobeFault
  try dsimp only
  repeat' first | intro _ | with_reducible assumption | with_reducible apply Keeps.ite | with_reducible apply keeps_State_setFld (subParts hA rfl) | with_reducible apply keeps_State_raise (subParts hA rfl) | with_reducible apply keeps_State_post (subParts hA rfl) | with_reducible apply keeps_State_setFlag (subParts hA rfl) | with_reducible apply keeps_State_strobeOff (subParts hA rfl)

theorem keeps_onStrobeEvent {A : List Part} {s0 s : State} (hA : ([] : List Part) ⊆ A) (x0 : ℕ) (x2 : State → State) (hf : ∀ (a0 : State), Keeps A s0 a0 → Keeps A s0 (x2 a0)) (h : Keeps A s0 s) : KeepsR A s0 (onStrobeEvent x0 s x2) := by
  unfold onStrobeEvent
  try dsimp only
  repeat' first | intro _ | with_reducible assumption | with_reducible apply hf | with_reducible apply KeepsR.ite | with_reducible apply Keeps.ite | with_reducible apply KeepsR.of_next | with_reducible apply keeps_onUnit (subParts hA rfl)

theorem keeps_execStrobeOvercurrent {A : List Part} {s0 s : State} (hA : [.regs, .dram, .grp, .strobe, .pci, .ddr, .pwr, .out] ⊆ A) (x0 : Seen ℕ) (h : Keeps A s0 s) : KeepsR A s0 (execStrobeOvercurrent x0 s) := by
  unfold execStrobeOvercurrent
  try dsimp only
  repeat' first | intro _ | with_reducible assumption | with_reducible apply KeepsR.ite | with_reducible apply Keeps.ite | with_reducible apply KeepsR.of_next | with_reducible apply keeps_State_strobeFault (subParts hA rfl) | with_reducible apply keeps_onStrobeEvent (subParts hA rfl)

theorem keeps_State_moveTo {A : List Part} {s0 s : State} (hA : [.regs, .mot] ⊆ A) (x1 : ℕ) (x2 : ℤ) (x3 : ℤ) (h : Keeps A s0 s) : Keeps A s0 (State.moveTo s x1 x2 x3) := by
  unfold State.moveTo
  try dsimp only
  repeat' first | intro _ | with_reducible assumption | with_reducible apply Keeps.ite | with_reducible apply keeps_State_modMo (subParts hA rfl) | with_reducible apply keeps_State_setVel (subParts hA rfl)

theorem keeps_State_noteLimit {A : List Part} {s0 s : State} (hA : [.regs, .dram, .grp, .pci, .ddr, .out] ⊆ A) (x1 : ℕ) (x2 : Bool) (h : Keeps A s0 s) : Keeps A s0 (State.noteLimit s x1 x2) := by
  unfold State.noteLimit
  try dsimp only
  repeat' first | intro _ | with_reducible assumption | with_reducible apply Keeps.ite | with_reducible apply keeps_State_raise (subParts hA rfl) | with_reducible apply keeps_State_setFlag (subParts hA rfl) | with_reducible apply keeps_State_axisRecord (subParts hA rfl)

theorem keeps_State_homeAxis {A : List Part} {s0 s : State} (hA : [.regs, .dram, .grp, .mot, .pci, .ddr, .out] ⊆ A) (x1 : ℕ) (h : Keeps A s0 s) : Keeps A s0 (State.homeAxis s x1) := by
  unfold State.homeAxis
  try dsimp only
  repeat' first | intro _ | with_reducible assumption | with_reducible apply Keeps.ite | with_reducible apply keeps_State_setFlag (subParts hA rfl) | with_reducible apply keeps_State_modMo (subParts hA rfl) | with_reducible apply keeps_State_setAxisState (subParts hA rfl) | with_reducible apply keeps_State_homingEnd (subParts hA rfl) | with_reducible apply keeps_State_moveTo (subParts hA rfl) | with_reducible apply keeps_State_noteLimit (subParts hA rfl) | split

theorem keeps_execLfltNQualified {A : List Part} {s0 s : State} (hA : [.regs, .dram, .grp, .chan, .srvAx, .srvCh, .lsr, .hoop, .port, .pci, .ddr, .xbar, .out] ⊆ A) (x0 : ℕ) (x1 : Bool) (h : Keeps A s0 s) : KeepsR A s0 (execLfltNQualified x0 x1 s) := by
  unfold execLfltNQualified
  try dsimp only
  repeat' first | intro _ | with_reducible assumption | with_reducible apply KeepsR.ite | with_reducible apply Keeps.ite | with_reducible apply KeepsR.of_next | with_reducible apply keeps_State_setFlag (subParts hA rfl) | with_reducible apply keeps_State_lapse (subParts hA rfl) | with_reducible apply keeps_State_manualEnd (subParts hA rfl) | with_reducible apply keeps_onUnit (subParts hA rfl) | with_reducible apply keeps_State_runFault (subParts hA rfl) | with_reducible apply keeps_State_laserCond (subParts hA rfl)

theorem keeps_State_axisFault {A : List Part} {s0 s : State} (hA : [.regs, .dram, .grp, .mot, .pci, .ddr, .out] ⊆ A) (x1 : ℕ) (x2 : ℕ) (h : Keeps A s0 s) : Keeps A s0 (State.axisFault s x1 x2) := by
  unfold State.axisFault
  try dsimp only
  repeat' first | intro _ | with_reducible assumption | with_reducible apply Keeps.ite | with_reducible apply keeps_State_setFld (subParts hA rfl) | with_reducible apply keeps_State_raise (subParts hA rfl) | with_reducible apply keeps_State_setFlag (subParts hA rfl) | with_reducible apply keeps_State_setAxisState (subParts hA rfl) | with_reducible apply keeps_State_axisRecord (subParts hA rfl) | with_reducible apply keeps_State_homingEnd (subParts hA rfl) | with_reducible apply keeps_State_driveOff (subParts hA rfl) | with_reducible apply keeps_State_setVel (subParts hA rfl)

theorem keeps_execSdloss {A : List Part} {s0 s : State} (hA : [.regs, .dram, .grp, .mot, .pci, .ddr, .out] ⊆ A) (x0 : Seen (List Bool)) (h : Keeps A s0 s) : KeepsR A s0 (execSdloss x0 s) := by
  unfold execSdloss
  try dsimp only
  repeat' first | intro _ | with_reducible assumption | with_reducible apply KeepsR.ite | with_reducible apply Keeps.ite | with_reducible apply KeepsR.of_next | with_reducible apply keeps_onUnit (subParts hA rfl) | with_reducible apply keeps_State_axisFault (subParts hA rfl)

theorem keeps_State_portUp {A : List Part} {s0 s : State} (hA : [.regs, .port] ⊆ A) (x1 : ℕ) (h : Keeps A s0 s) : Keeps A s0 (State.portUp s x1) := by
  unfold State.portUp
  try dsimp only
  repeat' first | intro _ | with_reducible assumption | with_reducible apply Keeps.ite | with_reducible apply keeps_State_setFld (subParts hA rfl) | with_reducible apply keeps_State_modPt (subParts hA rfl)

theorem keeps_State_launchCfg {A : List Part} {s0 s : State} (hA : [.regs, .head] ⊆ A) (x1 : ℕ) (h : Keeps A s0 s) : Keeps A s0 (State.launchCfg s x1) := by
  unfold State.launchCfg
  try dsimp only
  repeat' first | intro _ | with_reducible assumption | with_reducible apply Keeps.ite | with_reducible apply keeps_State_setFlag (subParts hA rfl) | with_reducible apply keeps_State_modHd (subParts hA rfl)

theorem keeps_State_enterActive {A : List Part} {s0 s : State} (hA : [.regs, .port, .lane, .head] ⊆ A) (x1 : ℕ) (h : Keeps A s0 s) : Keeps A s0 (State.enterActive s x1) := by
  unfold State.enterActive
  try dsimp only
  repeat' first | intro _ | with_reducible assumption | with_reducible apply Keeps.ite | with_reducible apply keeps_State_modHd (subParts hA rfl) | with_reducible apply keeps_State_setLane (subParts hA rfl) | with_reducible apply keeps_State_portUp (subParts hA rfl) | with_reducible apply keeps_State_launchCfg (subParts hA rfl) | split

theorem keeps_State_countStray {A : List Part} {s0 s : State} (hA : [.regs] ⊆ A) (x1 : ℕ) (x2 : List Block) (h : Keeps A s0 s) : Keeps A s0 (State.countStray s x1 x2) := by
  unfold State.countStray
  try dsimp only
  repeat' first | intro _ | with_reducible assumption | with_reducible apply Keeps.ite | with_reducible apply keeps_State_satAdd (subParts hA rfl)

theorem keeps_State_onBlock {A : List Part} {s0 s : State} (hA : [.regs] ⊆ A) (x1 : ℕ) (x2 : Block) (x3 : State → State) (hf : ∀ (a0 : State), Keeps A s0 a0 → Keeps A s0 (x3 a0)) (h : Keeps A s0 s) : Keeps A s0 (State.onBlock s x1 x2 x3) := by
  unfold State.onBlock
  try dsimp only
  repeat' first | intro _ | with_reducible assumption | with_reducible apply hf | with_reducible apply Keeps.ite | with_reducible apply keeps_State_countStray (subParts hA rfl)

theorem keeps_State_capTake {A : List Part} {s0 s : State} (hA : [.regs, .lane] ⊆ A) (x1 : ℕ) (x2 : ℕ) (h : Keeps A s0 s) : Keeps A s0 (State.capTake s x1 x2) := by
  unfold State.capTake
  try dsimp only
  repeat' first | intro _ | with_reducible assumption | with_reducible apply Keeps.ite | with_reducible apply keeps_State_setReg (subParts hA rfl) | with_reducible apply keeps_State_setFld (subParts hA rfl) | with_reducible apply keeps_State_modLn (subParts hA rfl) | split

theorem keeps_State_capFail {A : List Part} {s0 s : State} (hA : [.regs, .pci, .out] ⊆ A) (x1 : ℕ) (x2 : Bool) (h : Keeps A s0 s) : Keeps A s0 (State.capFail s x1 x2) := by
  unfold State.capFail
  try dsimp only
  repeat' first | intro _ | with_reducible assumption | with_reducible apply Keeps.ite | with_reducible apply keeps_State_raise (subParts hA rfl) | with_reducible apply keeps_State_setFlag (subParts hA rfl) | split

theorem keeps_execCapReceived {A : List Part} {s0 s : State} (hA : [.regs, .port, .lane, .head, .pci, .out] ⊆ A) (x0 : ℕ) (x1 : Block) (h : Keeps A s0 s) : KeepsR A s0 (execCapReceived x0 x1 s) := by
  unfold execCapReceived
  try dsimp only
  repeat' first | intro _ | with_reducible assumption | with_reducible apply KeepsR.ite | with_reducible apply Keeps.ite | with_reducible apply KeepsR.of_next | with_reducible apply keeps_State_modLn (subParts hA rfl) | with_reducible apply keeps_onLane (subParts hA rfl) | with_reducible apply keeps_State_enterActive (subParts hA rfl) | with_reducible apply keeps_State_onBlock (subParts hA rfl) | with_reducible apply keeps_State_capTake (subParts hA rfl) | with_reducible apply keeps_State_capFail (subParts hA rfl) | split

theorem keeps_execPpsOutEdge {A : List Part} {s0 s : State} (hA : [.time, .out] ⊆ A)  (h : Keeps A s0 s) : KeepsR A s0 (execPpsOutEdge s) := by
  unfold execPpsOutEdge
  try dsimp only
  repeat' first | intro _ | with_reducible assumption | with_reducible apply KeepsR.ite | with_reducible apply Keeps.ite | with_reducible apply KeepsR.of_next | with_reducible apply keeps_State_emit (subParts hA rfl) | with_reducible apply Keeps.upd_time (subParts hA rfl)

theorem keeps_State_sendReady {A : List Part} {s0 s : State} (hA : [.hoop, .port, .xbar] ⊆ A) (x1 : ℕ) (x2 : Hand) (h : Keeps A s0 s) : Keeps A s0 (State.sendReady s x1 x2) := by
  unfold State.sendReady
  try dsimp only
  repeat' first | intro _ | with_reducible assumption | with_reducible apply keeps_State_sendToken (subParts hA rfl)

theorem keeps_State_sendReadies {A : List Part} {s0 s : State} (hA : [.chan, .hoop, .port, .xbar] ⊆ A) (x1 : ℕ) (h : Keeps A s0 s) : Keeps A s0 (State.sendReadies s x1) := by
  unfold State.sendReadies
  try dsimp only
  repeat' first | intro _ | with_reducible assumption | with_reducible apply Keeps.ite | with_reducible apply Keeps.foldl | with_reducible apply keeps_State_modCh (subParts hA rfl) | with_reducible apply keeps_State_sendReady (subParts hA rfl)

theorem keeps_execLayerStart {A : List Part} {s0 s : State} (hA : [.regs, .dram, .grp, .chan, .srvAx, .lsr, .hoop, .port, .pci, .ddr, .cave, .xbar, .out] ⊆ A)  (h : Keeps A s0 s) : KeepsR A s0 (execLayerStart s) := by
  unfold execLayerStart
  try dsimp only
  repeat' first | intro _ | with_reducible assumption | with_reducible apply KeepsR.ite | with_reducible apply Keeps.ite | with_reducible apply KeepsR.of_next | with_reducible apply Keeps.each | with_reducible apply keeps_State_setFld (subParts hA rfl) | with_reducible apply keeps_State_raise (subParts hA rfl) | with_reducible apply keeps_State_modGrp (subParts hA rfl) | with_reducible apply keeps_State_enter (subParts hA rfl) | with_reducible apply keeps_State_syncShadow (subParts hA rfl) | with_reducible apply keeps_State_setGrpState (subParts hA rfl) | with_reducible apply keeps_occurs (subParts hA rfl) | with_reducible apply keeps_State_unarmChan (subParts hA rfl) | with_reducible apply keeps_State_sendReadies (subParts hA rfl)

theorem keeps_execStrobeCut {A : List Part} {s0 s : State} (hA : [.regs, .strobe] ⊆ A) (x0 : ℕ) (h : Keeps A s0 s) : KeepsR A s0 (execStrobeCut x0 s) := by
  unfold execStrobeCut
  try dsimp only
  repeat' first | intro _ | with_reducible assumption | with_reducible apply KeepsR.ite | with_reducible apply Keeps.ite | with_reducible apply KeepsR.of_next | with_reducible apply keeps_State_satAdd (subParts hA rfl) | with_reducible apply keeps_State_modSb (subParts hA rfl) | with_reducible apply keeps_onStrobeEvent (subParts hA rfl)

theorem keeps_State_wordStore {A : List Part} {s0 s : State} (hA : [.regs, .intg] ⊆ A) (x1 : ℕ) (x2 : Word) (h : Keeps A s0 s) : Keeps A s0 (State.wordStore s x1 x2) := by
  unfold State.wordStore
  try dsimp only
  repeat' first | intro _ | with_reducible assumption | with_reducible apply keeps_State_setReg (subParts hA rfl) | with_reducible apply Keeps.upd_intg (subParts hA rfl)

theorem keeps_execPwmPeriod {A : List Part} {s0 s : State} (hA : [.mot] ⊆ A) (x0 : ℕ) (x1 : List Bool) (x2 : List Bool) (h : Keeps A s0 s) : KeepsR A s0 (execPwmPeriod x0 x1 x2 s) := by
  unfold execPwmPeriod
  try dsimp only
  repeat' first | intro _ | with_reducible assumption | with_reducible apply KeepsR.ite | with_reducible apply Keeps.ite | with_reducible apply KeepsR.of_next | with_reducible apply keeps_onUnit (subParts hA rfl) | with_reducible apply keeps_State_modMo (subParts hA rfl) | split

theorem keeps_State_camLost {A : List Part} {s0 s : State} (hA : [.regs, .dram, .cam, .pipe, .pci, .ddr, .free, .out] ⊆ A)  (h : Keeps A s0 s) : Keeps A s0 (State.camLost s) := by
  unfold State.camLost
  try dsimp only
  repeat' first | intro _ | with_reducible assumption | with_reducible apply Keeps.ite | with_reducible apply Keeps.each | with_reducible apply keeps_State_modCm (subParts hA rfl) | with_reducible apply keeps_State_camSync (subParts hA rfl) | with_reducible apply keeps_State_camCleared (subParts hA rfl) | with_reducible apply keeps_State_camOff (subParts hA rfl) | with_reducible apply keeps_State_dropAll (subParts hA rfl)

theorem keeps_State_idCapture {A : List Part} {s0 s : State} (hA : [.regs, .srv] ⊆ A)  (h : Keeps A s0 s) : Keeps A s0 (State.idCapture s) := by
  unfold State.idCapture
  try dsimp only
  repeat' first | intro _ | with_reducible assumption | with_reducible apply Keeps.ite | with_reducible apply keeps_State_setReg (subParts hA rfl) | with_reducible apply keeps_State_setFld (subParts hA rfl) | with_reducible apply Keeps.upd_srv (subParts hA rfl)

theorem keeps_execBadPacketReceived {A : List Part} {s0 s : State} (hA : [.regs, .dram, .grp, .port, .pci, .ddr, .intg, .out] ⊆ A) (x0 : ℕ) (x1 : Block) (x2 : List Block) (h : Keeps A s0 s) : KeepsR A s0 (execBadPacketReceived x0 x1 x2 s) := by
  unfold execBadPacketReceived
  try dsimp only
  repeat' first | intro _ | with_reducible assumption | with_reducible apply KeepsR.ite | with_reducible apply Keeps.ite | with_reducible apply KeepsR.of_next | with_reducible apply Keeps.each | with_reducible apply keeps_State_satAdd (subParts hA rfl) | with_reducible apply keeps_State_owe (subParts hA rfl) | with_reducible apply keeps_onUnit (subParts hA rfl) | with_reducible apply keeps_State_hiddenUe (subParts hA rfl) | with_reducible apply keeps_State_countStray (subParts hA rfl) | split | (refine Keeps.pair (by assumption) ?_)

theorem keeps_State_safeForgotten {A : List Part} {s0 s : State} (hA : [.cave] ⊆ A)  (h : Keeps A s0 s) : Keeps A s0 (State.safeForgotten s) := by
  unfold State.safeForgotten
  try dsimp only
  repeat' first | intro _ | with_reducible assumption | with_reducible apply Keeps.upd_cave (subParts hA rfl) | with_reducible rfl | rfl

theorem keeps_State_thermalShutdown {A : List Part} {s0 s : State} (hA : [.regs, .dram, .grp, .chan, .srvAx, .srvCh, .lsr, .hoop, .port, .pci, .ddr, .hk, .cave, .boot, .xbar, .out] ⊆ A) (x1 : ℕ × ℤ) (h : Keeps A s0 s) : Keeps A s0 (State.thermalShutdown s x1) := by
  unfold State.thermalShutdown
  try dsimp only
  repeat' first | intro _ | with_reducible assumption | with_reducible apply keeps_State_setFld (subParts hA rfl) | with_reducible apply keeps_State_cavePost (subParts hA rfl) | with_reducible apply keeps_State_emissionStop (subParts hA rfl) | with_reducible apply keeps_State_stopLayer (subParts hA rfl) | with_reducible apply keeps_State_safeForgotten (subParts hA rfl) | with_reducible apply Keeps.upd_hk_boot (subParts hA rfl) | with_reducible apply Keeps.upd_hk (subParts hA rfl) | with_reducible apply Keeps.upd_boot (subParts hA rfl)

theorem keeps_State_feedCheck {A : List Part} {s0 s : State} (hA : [.regs, .dram, .grp, .chan, .srvAx, .srvCh, .lsr, .hoop, .port, .pci, .ddr, .intg, .xbar, .out] ⊆ A) (x1 : ℕ) (x2 : List ℕ) (h : Keeps A s0 s) : Keeps A s0 (State.feedCheck s x1 x2).2 := by
  induction x2 generalizing s  with
  | nil =>
    unfold State.feedCheck
    try dsimp only
    repeat' first | intro _ | with_reducible assumption | with_reducible apply Keeps.ite | (with_reducible apply keeps_State_modCh (subParts hA (by decide))) | (with_reducible apply keeps_State_hiddenUe (subParts hA (by decide))) | (with_reducible apply keeps_State_refetch (subParts hA (by decide))) | split | (refine Keeps.pair (by assumption) ?_)
  | cons r l ih =>
    unfold State.feedCheck
    try dsimp only
    repeat' first | intro _ | with_reducible assumption | with_reducible apply ih | with_reducible apply Keeps.ite | (with_reducible apply keeps_State_modCh (subParts hA (by decide))) | (with_reducible apply keeps_State_hiddenUe (subParts hA (by decide))) | (with_reducible apply keeps_State_refetch (subParts hA (by decide))) | split | (refine Keeps.pair (by assumption) ?_)

theorem keeps_State_decodeFaultAt {A : List Part} {s0 s : State} (hA : [.regs, .dram, .grp, .chan, .srvAx, .srvCh, .lsr, .hoop, .port, .pci, .ddr, .xbar, .out] ⊆ A) (x1 : ℕ) (x2 : ℕ) (x3 : Loc) (h : Keeps A s0 s) : Keeps A s0 (State.decodeFaultAt s x1 x2 x3) := by
  unfold State.decodeFaultAt
  try dsimp only
  repeat' first | intro _ | with_reducible assumption | with_reducible apply Keeps.ite | with_reducible apply keeps_State_modCh (subParts hA rfl) | with_reducible apply keeps_State_fault (subParts hA rfl)

theorem keeps_State_decodeFault {A : List Part} {s0 s : State} (hA : [.regs, .dram, .grp, .chan, .srvAx, .srvCh, .lsr, .hoop, .port, .pci, .ddr, .xbar, .out] ⊆ A) (x1 : ℕ) (x2 : ℕ) (h : Keeps A s0 s) : Keeps A s0 (State.decodeFault s x1 x2) := by
  unfold State.decodeFault
  try dsimp only
  repeat' first | intro _ | with_reducible assumption | with_reducible apply keeps_State_decodeFaultAt (subParts hA rfl)

theorem keeps_State_openCurd {A : List Part} {s0 s : State} (hA : [.regs, .dram, .grp, .chan, .srvAx, .srvCh, .lsr, .hoop, .port, .pci, .ddr, .xbar, .out] ⊆ A) (x1 : ℕ) (h : Keeps A s0 s) : Keeps A s0 (State.openCurd s x1) := by
  unfold State.openCurd
  try dsimp only
  repeat' first | intro _ | with_reducible assumption | with_reducible apply Keeps.ite | with_reducible apply keeps_State_modCh (subParts hA rfl) | with_reducible apply keeps_State_decodeFault (subParts hA rfl) | split

theorem keeps_State_decodeWords {A : List Part} {s0 s : State} (hA : [.regs, .dram, .grp, .chan, .srvAx, .srvCh, .lsr, .hoop, .port, .pci, .ddr, .xbar, .out] ⊆ A) (x1 : ℕ) (x2 : OpRow) (x3 : ℕ) (x4 : List ℕ) (x5 : List ℕ → State → State) (hf : ∀ (a0 : List ℕ) (a1 : State), Keeps A s0 a1 → Keeps A s0 (x5 a0 a1)) (h : Keeps A s0 s) : Keeps A s0 (State.decodeWords s x1 x2 x3 x4 x5) := by
  unfold State.decodeWords
  try dsimp only
  repeat' first | intro _ | with_reducible assumption | with_reducible apply hf | with_reducible apply Keeps.ite | with_reducible apply keeps_State_faultNow (subParts hA rfl) | with_reducible apply keeps_State_decodeFault (subParts hA rfl) | with_reducible apply keeps_State_openCurd (subParts hA rfl)

theorem keeps_State_decodeWith {A : List Part} {s0 s : State} (hA : [.regs, .dram, .grp, .chan, .srvAx, .srvCh, .lsr, .hoop, .port, .pci, .ddr, .intg, .xbar, .out] ⊆ A) (x1 : ℕ) (x2 : OpRow) (x3 : List ℕ → State → State) (hf : ∀ (a0 : List ℕ) (a1 : State), Keeps A s0 a1 → Keeps A s0 (x3 a0 a1)) (h : Keeps A s0 s) : Keeps A s0 (State.decodeWith s x1 x2 x3) := by
  unfold State.decodeWith
  try dsimp only
  repeat' first | intro _ | with_reducible assumption | with_reducible apply hf | with_reducible apply Keeps.ite | with_reducible apply keeps_State_feedCheck (subParts hA rfl) | with_reducible apply keeps_State_decodeWords (subParts hA rfl) | split | (refine Keeps.pair (by assumption) ?_)

theorem keeps_decodeOn {A : List Part} {s0 s : State} (hA : [.regs, .dram, .grp, .chan, .srvAx, .srvCh, .lsr, .hoop, .port, .pci, .ddr, .intg, .xbar, .out] ⊆ A) (x0 : ℕ) (x1 : ℕ) (x3 : List ℕ → State → State) (hf : ∀ (a0 : List ℕ) (a1 : State), Keeps A s0 a1 → Keeps A s0 (x3 a0 a1)) (h : Keeps A s0 s) : KeepsR A s0 (decodeOn x0 x1 s x3) := by
  unfold decodeOn
  try dsimp only
  repeat' first | intro _ | with_reducible assumption | with_reducible apply hf | with_reducible apply KeepsR.of_next | with_reducible apply keeps_onUnit (subParts hA rfl) | with_reducible apply keeps_State_decodeWith (subParts hA rfl) | split

theorem keeps_State_endCurd {A : List Part} {s0 s : State} (hA : [.regs, .dram, .grp, .chan, .srvAx, .srvCh, .lsr, .hoop, .port, .pci, .ddr, .xbar, .out] ⊆ A) (x1 : ℕ) (h : Keeps A s0 s) : Keeps A s0 (State.endCurd s x1) := by
  unfold State.endCurd
  try dsimp only
  repeat' first | intro _ | with_reducible assumption | with_reducible apply Keeps.ite | with_reducible apply keeps_State_modCh (subParts hA rfl) | with_reducible apply keeps_State_releaseDesc (subParts hA rfl) | with_reducible apply keeps_State_fetchDue (subParts hA rfl) | with_reducible apply keeps_State_decodeFault (subParts hA rfl) | split

theorem keeps_State_settle {A : List Part} {s0 s : State} (hA : [.regs, .dram, .grp, .chan, .srvAx, .srvCh, .lsr, .hoop, .port, .pci, .ddr, .xbar, .out] ⊆ A) (x1 : ℕ) (x2 : Loc) (x3 : Bool) (x4 : ℕ) (h : Keeps A s0 s) : Keeps A s0 (State.settle s x1 x2 x3 x4) := by
  induction x4 generalizing s x3 with
  | zero =>
    unfold State.settle
    try dsimp only
    repeat' first | intro _ | with_reducible assumption | with_reducible apply Keeps.ite | (with_reducible apply keeps_State_modCh (subParts hA (by decide))) | (with_reducible apply keeps_State_decodeFaultAt (subParts hA (by decide))) | (with_reducible apply keeps_State_decodeFault (subParts hA (by decide))) | (with_reducible apply keeps_State_endCurd (subParts hA (by decide))) | split | (refine Keeps.pair (by assumption) ?_)
  | succ k ih =>
    unfold State.settle
    try dsimp only
    repeat' first | intro _ | with_reducible assumption | with_reducible apply ih | with_reducible apply Keeps.ite | (with_reducible apply keeps_State_modCh (subParts hA (by decide))) | (with_reducible apply keeps_State_decodeFaultAt (subParts hA (by decide))) | (with_reducible apply keeps_State_decodeFault (subParts hA (by decide))) | (with_reducible apply keeps_State_endCurd (subParts hA (by decide))) | split | (refine Keeps.pair (by assumption) ?_)

theorem keeps_State_next {A : List Part} {s0 s : State} (hA : [.regs, .dram, .grp, .chan, .srvAx, .srvCh, .lsr, .hoop, .port, .pci, .ddr, .xbar, .out] ⊆ A) (x1 : ℕ) (x2 : ℕ) (h : Keeps A s0 s) : Keeps A s0 (State.next s x1 x2) := by
  unfold State.next
  try dsimp only
  repeat' first | intro _ | with_reducible assumption | with_reducible apply keeps_State_modCh (subParts hA rfl) | with_reducible apply keeps_State_settle (subParts hA rfl)

theorem keeps_State_point {A : List Part} {s0 s : State} (hA : [.regs, .dram, .grp, .chan, .srvAx, .srvCh, .lsr, .hoop, .port, .pci, .ddr, .xbar, .out] ⊆ A) (x1 : ℕ) (x2 : ℕ) (x3 : List ℕ) (x4 : Act) (h : Keeps A s0 s) : Keeps A s0 (State.point s x1 x2 x3 x4) := by
  unfold State.point
  try dsimp only
  repeat' first | intro _ | with_reducible assumption | with_reducible apply Keeps.ite | with_reducible apply keeps_State_modCh (subParts hA rfl) | with_reducible apply keeps_State_decodeFault (subParts hA rfl) | with_reducible apply keeps_State_next (subParts hA rfl)

theorem keeps_execSig {A : List Part} {s0 s : State} (hA : [.regs, .dram, .grp, .chan, .srvAx, .srvCh, .lsr, .hoop, .port, .pci, .ddr, .intg, .xbar, .out] ⊆ A) (x0 : ℕ) (h : Keeps A s0 s) : KeepsR A s0 (execSig x0 s) := by
  unfold execSig
  try dsimp only
  repeat' first | intro _ | with_reducible assumption | with_reducible apply KeepsR.of_next | with_reducible apply keeps_decodeOn (subParts hA rfl) | with_reducible apply keeps_State_point (subParts hA rfl)

theorem keeps_execTimeResponseReceived {A : List Part} {s0 s : State} (hA : [.regs, .port, .dom, .time, .pci, .out] ⊆ A) (x0 : ℕ) (x1 : Packet) (x2 : Crossing) (h : Keeps A s0 s) : KeepsR A s0 (execTimeResponseReceived x0 x1 x2 s) := by
  unfold execTimeResponseReceived
  try dsimp only
  repeat' first | intro _ | with_reducible assumption | with_reducible apply KeepsR.ite | with_reducible apply Keeps.ite | with_reducible apply KeepsR.of_next | with_reducible apply Keeps.each | with_reducible apply keeps_State_setFld (subParts hA rfl) | with_reducible apply keeps_State_modPt (subParts hA rfl) | with_reducible apply keeps_onUnit (subParts hA rfl) | with_reducible apply keeps_State_sample (subParts hA rfl) | split

theorem keeps_State_axisOff {A : List Part} {s0 s : State} (hA : [.regs, .srvAx] ⊆ A) (x1 : ℕ) (h : Keeps A s0 s) : Keeps A s0 (State.axisOff s x1) := by
  unfold State.axisOff
  try dsimp only
  repeat' first | intro _ | with_reducible assumption | with_reducible apply keeps_State_setReg (subParts hA rfl) | with_reducible apply keeps_State_setFld (subParts hA rfl) | with_reducible apply keeps_State_setFlag (subParts hA rfl) | with_reducible apply keeps_State_modAx (subParts hA rfl)

theorem keeps_State_srvLost {A : List Part} {s0 s : State} (hA : [.regs, .srvAx, .srvCh, .srv] ⊆ A)  (h : Keeps A s0 s) : Keeps A s0 (State.srvLost s) := by
  unfold State.srvLost
  try dsimp only
  repeat' first | intro _ | with_reducible assumption | with_reducible apply Keeps.each | with_reducible apply keeps_State_setFlag (subParts hA rfl) | with_reducible apply keeps_State_axisOff (subParts hA rfl) | with_reducible apply Keeps.upd_srvAx_srvCh_srv (subParts hA rfl) | with_reducible apply Keeps.upd_srvAx (subParts hA rfl) | with_reducible apply Keeps.upd_srvCh (subParts hA rfl) | with_reducible apply Keeps.upd_srv (subParts hA rfl) | exact tabWf_tabSet _ _ _ _ (canon_srvAx (by assumption)) | exact tabWf_tabSet _ _ _ _ (canon_srvCh (by assumption)) | with_reducible rfl | rfl

theorem keeps_State_stampOut {A : List Part} {s0 s : State} (hA : [.port, .free] ⊆ A) (x1 : ℕ) (x2 : Packet) (h : Keeps A s0 s) : Keeps A s0 (State.stampOut s x1 x2).2 := by
  unfold State.stampOut
  try dsimp only
  repeat' first | intro _ | with_reducible assumption | with_reducible apply Keeps.ite | with_reducible apply keeps_State_modPt (subParts hA rfl) | with_reducible apply keeps_State_draw (subParts hA rfl) | split | (refine Keeps.pair (by assumption) ?_)

theorem keeps_State_bistFail {A : List Part} {s0 s : State} (hA : [.regs, .dram, .grp, .pci, .ddr, .intg, .out] ⊆ A) (x1 : ℕ) (h : Keeps A s0 s) : Keeps A s0 (State.bistFail s x1) := by
  unfold State.bistFail
  try dsimp only
  repeat' first | intro _ | with_reducible assumption | with_reducible apply keeps_State_intgRecord (subParts hA rfl)

theorem keeps_State_caveIntegrity {A : List Part} {s0 s : State} (hA : [.regs, .pci, .cave, .out] ⊆ A) (x1 : ℕ) (x2 : ℕ) (h : Keeps A s0 s) : Keeps A s0 (State.caveIntegrity s x1 x2) := by
  unfold State.caveIntegrity
  try dsimp only
  repeat' first | intro _ | with_reducible assumption | with_reducible apply Keeps.ite | with_reducible apply keeps_State_satAdd (subParts hA rfl) | with_reducible apply keeps_State_cavePost (subParts hA rfl) | split | with_reducible apply Keeps.upd_cave (subParts hA rfl) | with_reducible rfl | rfl

theorem keeps_State_bistResult {A : List Part} {s0 s : State} (hA : [.regs, .dram, .grp, .pci, .ddr, .intg, .cave, .out] ⊆ A) (x1 : List ℕ) (h : Keeps A s0 s) : Keeps A s0 (State.bistResult s x1) := by
  unfold State.bistResult
  try dsimp only
  repeat' first | intro _ | with_reducible assumption | with_reducible apply Keeps.each | with_reducible apply Keeps.foldl | with_reducible apply keeps_State_setReg (subParts hA rfl) | with_reducible apply keeps_State_raise (subParts hA rfl) | with_reducible apply keeps_State_bistFail (subParts hA rfl) | with_reducible apply keeps_State_caveIntegrity (subParts hA rfl) | split

theorem keeps_State_mailbox {A : List Part} {s0 s : State} (hA : [.regs, .pci, .out] ⊆ A) (x1 : ℕ) (x2 : Frame) (x3 : Blob) (h : Keeps A s0 s) : Keeps A s0 (State.mailbox s x1 x2 x3) := by
  unfold State.mailbox
  try dsimp only
  repeat' first | intro _ | with_reducible assumption | with_reducible apply Keeps.ite | with_reducible apply keeps_State_setFld (subParts hA rfl) | with_reducible apply keeps_State_raise (subParts hA rfl) | with_reducible apply keeps_State_satAdd (subParts hA rfl) | with_reducible apply keeps_State_setFlag (subParts hA rfl)

theorem keeps_State_compare {A : List Part} {s0 s : State} (hA : [.regs, .fbk, .pci, .out] ⊆ A) (x1 : ℕ) (x2 : ℤ) (x3 : ℤ) (h : Keeps A s0 s) : Keeps A s0 (State.compare s x1 x2 x3) := by
  unfold State.compare
  try dsimp only
  repeat' first | intro _ | with_reducible assumption | with_reducible apply Keeps.ite | with_reducible apply keeps_State_fireCompare (subParts hA rfl)

theorem keeps_execMove {A : List Part} {s0 s : State} (hA : [.regs, .dram, .grp, .chan, .srvAx, .srvCh, .lsr, .hoop, .port, .pci, .ddr, .intg, .xbar, .out] ⊆ A) (x0 : ℕ) (h : Keeps A s0 s) : KeepsR A s0 (execMove x0 s) := by
  unfold execMove
  try dsimp only
  repeat' first | intro _ | with_reducible assumption | with_reducible apply KeepsR.ite | with_reducible apply Keeps.ite | with_reducible apply KeepsR.of_next | with_reducible apply keeps_State_decodeFault (subParts hA rfl) | with_reducible apply keeps_decodeOn (subParts hA rfl) | with_reducible apply keeps_State_point (subParts hA rfl)

theorem keeps_execDownlinkFrame {A : List Part} {s0 s : State} (hA : [.regs, .head, .out] ⊆ A) (x0 : ℕ) (h : Keeps A s0 s) : KeepsR A s0 (execDownlinkFrame x0 s) := by
  unfold execDownlinkFrame
  try dsimp only
  repeat' first | intro _ | with_reducible assumption | with_reducible apply KeepsR.ite | with_reducible apply Keeps.ite | with_reducible apply KeepsR.of_next | with_reducible apply keeps_State_setFlag (subParts hA rfl) | with_reducible apply keeps_State_modHd (subParts hA rfl) | with_reducible apply keeps_onUnit (subParts hA rfl) | with_reducible apply keeps_State_sendBlocks (subParts hA rfl) | split

theorem keeps_State_gateOff {A : List Part} {s0 s : State} (hA : [.lsr] ⊆ A) (x1 : ℕ) (h : Keeps A s0 s) : Keeps A s0 (State.gateOff s x1) := by
  unfold State.gateOff
  try dsimp only
  repeat' first | intro _ | with_reducible assumption | with_reducible apply keeps_State_modLs (subParts hA rfl) | with_reducible apply keeps_State_lapse (subParts hA rfl)

theorem keeps_State_integrityFault {A : List Part} {s0 s : State} (hA : [.regs, .dram, .grp, .chan, .srvAx, .srvCh, .lsr, .hoop, .port, .pci, .ddr, .cave, .xbar, .out] ⊆ A) (x1 : ℕ) (x2 : ℕ) (h : Keeps A s0 s) : Keeps A s0 (State.integrityFault s x1 x2) := by
  unfold State.integrityFault
  try dsimp only
  repeat' first | intro _ | with_reducible assumption | with_reducible apply Keeps.ite | with_reducible apply keeps_State_runFault (subParts hA rfl) | with_reducible apply keeps_State_caveIntegrity (subParts hA rfl) | with_reducible apply keeps_State_gateOff (subParts hA rfl)

theorem keeps_State_deliver {A : List Part} {s0 s : State} (hA : [.srvCh] ⊆ A) (x1 : ℕ) (x2 : Setpoint) (h : Keeps A s0 s) : Keeps A s0 (State.deliver s x1 x2) := by
  unfold State.deliver
  try dsimp only
  repeat' first | intro _ | with_reducible assumption | with_reducible apply keeps_State_modSc (subParts hA rfl)

theorem keeps_State_correct {A : List Part} {s0 s : State} (hA : [.regs, .srvCh, .pci, .out] ⊆ A) (x1 : ℕ) (x2 : ℕ) (x3 : EvalOut) (h : Keeps A s0 s) : Keeps A s0 (State.correct s x1 x2 x3) := by
  unfold State.correct
  try dsimp only
  repeat' first | intro _ | with_reducible assumption | with_reducible apply Keeps.ite | with_reducible apply keeps_State_raise (subParts hA rfl) | with_reducible apply keeps_State_satAdd (subParts hA rfl) | with_reducible apply keeps_State_setFlag (subParts hA rfl) | with_reducible apply keeps_State_deliver (subParts hA rfl)

theorem keeps_State_repeatSetpoint {A : List Part} {s0 s : State} (hA : [.srvCh] ⊆ A) (x1 : ℕ) (x2 : ℕ) (h : Keeps A s0 s) : Keeps A s0 (State.repeatSetpoint s x1 x2) := by
  unfold State.repeatSetpoint
  try dsimp only
  repeat' first | intro _ | with_reducible assumption | with_reducible apply keeps_State_deliver (subParts hA rfl) | split

theorem keeps_State_takeForced {A : List Part} {s0 s : State} (hA : [.intg] ⊆ A) (x1 : ℕ) (x2 : ℕ) (x3 : ℕ) (h : Keeps A s0 s) : Keeps A s0 (State.takeForced s x1 x2 x3).2 := by
  unfold State.takeForced
  try dsimp only
  repeat' first | intro _ | with_reducible assumption | with_reducible apply Keeps.ite | split | with_reducible apply Keeps.upd_intg (subParts hA rfl)

theorem keeps_State_detectResidue {A : List Part} {s0 s : State} (hA : [.regs, .dram, .grp, .pci, .ddr, .intg, .out] ⊆ A) (x1 : ℕ) (x2 : ℕ) (x3 : ℕ) (h : Keeps A s0 s) : Keeps A s0 (State.detectResidue s x1 x2 x3) := by
  unfold State.detectResidue
  try dsimp only
  repeat' first | intro _ | with_reducible assumption | with_reducible apply keeps_State_raise (subParts hA rfl) | with_reducible apply keeps_State_satAdd (subParts hA rfl) | with_reducible apply keeps_State_intgRecord (subParts hA rfl) | with_reducible apply keeps_State_intgLast (subParts hA rfl)

theorem keeps_State_setpointAt {A : List Part} {s0 s : State} (hA : [.regs, .dram, .grp, .chan, .srvAx, .srvCh, .lsr, .hoop, .port, .pci, .ddr, .intg, .cave, .xbar, .out] ⊆ A) (x1 : ℕ) (x2 : ℕ) (h : Keeps A s0 s) : Keeps A s0 (State.setpointAt s x1 x2) := by
  unfold State.setpointAt
  try dsimp only
  repeat' first | intro _ | with_reducible assumption | with_reducible apply Keeps.ite | with_reducible apply keeps_State_modCh (subParts hA rfl) | with_reducible apply keeps_State_hiddenUe (subParts hA rfl) | with_reducible apply keeps_State_readWords (subParts hA rfl) | with_reducible apply keeps_State_integrityFault (subParts hA rfl) | with_reducible apply keeps_State_correct (subParts hA rfl) | with_reducible apply keeps_State_repeatSetpoint (subParts hA rfl) | with_reducible apply keeps_State_takeForced (subParts hA rfl) | with_reducible apply keeps_State_detectResidue (subParts hA rfl) | split | (refine Keeps.pair (by assumption) ?_)

theorem keeps_State_calDropped {A : List Part} {s0 s : State} (hA : [.regs, .pci, .out] ⊆ A) (x1 : ℕ) (h : Keeps A s0 s) : Keeps A s0 (State.calDropped s x1) := by
  unfold State.calDropped
  try dsimp only
  repeat' first | intro _ | with_reducible assumption | with_reducible apply Keeps.ite | with_reducible apply Keeps.each | with_reducible apply keeps_State_calEnd (subParts hA rfl)

theorem keeps_State_seqLost {A : List Part} {s0 s : State} (hA : [.regs, .dram, .grp, .armUndo, .chan, .srvAx, .srvCh, .srv, .lsr, .hoop, .port, .head, .pci, .ddr, .cave, .xbar, .out] ⊆ A) (x1 : Bool) (h : Keeps A s0 s) : Keeps A s0 (State.seqLost s x1) := by
  unfold State.seqLost
  try dsimp only
  repeat' first | intro _ | with_reducible assumption | with_reducible apply Keeps.ite | with_reducible apply keeps_State_modGrp (subParts hA rfl) | with_reducible apply keeps_State_namedReset (subParts hA rfl) | with_reducible apply keeps_State_libsGone (subParts hA rfl) | with_reducible apply keeps_State_loopsLost (subParts hA rfl) | with_reducible apply keeps_State_resetSeq (subParts hA rfl) | with_reducible apply Keeps.upd_chan_xbar (subParts hA rfl) | with_reducible apply Keeps.upd_chan (subParts hA rfl) | with_reducible apply Keeps.upd_xbar (subParts hA rfl) | exact tabWf_mapKeys Chan.reset (fun e => (e.1, e.2.libOnly)) (fun _ => rfl) (canon_chan (by assumption)) | exact tabWf_tabSet _ _ _ _ (canon_chan (by assumption)) | with_reducible rfl | rfl

theorem keeps_State_lgtLost {A : List Part} {s0 s : State} (hA : [.regs, .lgt, .strobe, .pwr] ⊆ A)  (h : Keeps A s0 s) : Keeps A s0 (State.lgtLost s) := by
  unfold State.lgtLost
  try dsimp only
  repeat' first | intro _ | with_reducible assumption | with_reducible apply Keeps.each | with_reducible apply keeps_State_setFlag (subParts hA rfl) | with_reducible apply keeps_State_lightOff (subParts hA rfl)

theorem keeps_State_headDropped {A : List Part} {s0 s : State} (hA : [.regs, .lane, .head, .pci, .out] ⊆ A)  (h : Keeps A s0 s) : Keeps A s0 (State.headDropped s) := by
  unfold State.headDropped
  try dsimp only
  repeat' first | intro _ | with_reducible assumption | with_reducible apply Keeps.each | with_reducible apply keeps_State_setFld (subParts hA rfl) | with_reducible apply keeps_State_headLanesDown (subParts hA rfl)

theorem keeps_State_afeLost {A : List Part} {s0 s : State} (hA : [.regs, .dram, .grp, .chan, .srvAx, .srvCh, .lsr, .hoop, .port, .pci, .ddr, .xbar, .out] ⊆ A)  (h : Keeps A s0 s) : Keeps A s0 (State.afeLost s) := by
  unfold State.afeLost
  try dsimp only
  repeat' first | intro _ | with_reducible assumption | with_reducible apply Keeps.ite | with_reducible apply Keeps.each | with_reducible apply keeps_State_loopsLost (subParts hA rfl) | with_reducible apply keeps_State_runFault (subParts hA rfl) | with_reducible apply keeps_State_laserCond (subParts hA rfl)

theorem keeps_State_ethOff {A : List Part} {s0 s : State} (hA : [.regs, .pci, .eth, .out] ⊆ A) (x1 : ℕ) (h : Keeps A s0 s) : Keeps A s0 (State.ethOff s x1) := by
  unfold State.ethOff
  try dsimp only
  repeat' first | intro _ | with_reducible assumption | with_reducible apply keeps_State_setFlag (subParts hA rfl) | with_reducible apply keeps_State_modEt (subParts hA rfl) | with_reducible apply keeps_State_setLink (subParts hA rfl)

theorem keeps_State_ethDropped {A : List Part} {s0 s : State} (hA : [.regs, .pci, .eth, .out] ⊆ A)  (h : Keeps A s0 s) : Keeps A s0 (State.ethDropped s) := by
  unfold State.ethDropped
  try dsimp only
  repeat' first | intro _ | with_reducible assumption | with_reducible apply Keeps.each | with_reducible apply keeps_State_ethOff (subParts hA rfl)

theorem keeps_State_logWrite {A : List Part} {s0 s : State} (hA : [.regs, .dram, .grp, .lsr, .pci, .ddr, .out] ⊆ A) (x1 : ℕ) (x2 : ℕ) (h : Keeps A s0 s) : Keeps A s0 (State.logWrite s x1 x2) := by
  unfold State.logWrite
  try dsimp only
  repeat' first | intro _ | with_reducible assumption | with_reducible apply Keeps.ite | with_reducible apply keeps_State_writeDram (subParts hA rfl) | with_reducible apply keeps_State_setFld (subParts hA rfl) | with_reducible apply keeps_State_modLs (subParts hA rfl) | with_reducible apply keeps_State_fenceRelease (subParts hA rfl) | split

theorem keeps_State_ddrDown {A : List Part} {s0 s : State} (hA : [.regs, .dram, .grp, .lsr, .pci, .ddr, .out] ⊆ A)  (h : Keeps A s0 s) : Keeps A s0 (State.ddrDown s) := by
  unfold State.ddrDown
  try dsimp only
  repeat' first | intro _ | with_reducible assumption | with_reducible apply Keeps.ite | with_reducible apply Keeps.foldl | with_reducible apply keeps_State_setFld (subParts hA rfl) | with_reducible apply keeps_State_setFlag (subParts hA rfl) | with_reducible apply keeps_State_logWrite (subParts hA rfl) | with_reducible apply Keeps.upd_ddr (subParts hA rfl)

theorem keeps_State_motLost {A : List Part} {s0 s : State} (hA : [.regs, .mot, .fbk] ⊆ A)  (h : Keeps A s0 s) : Keeps A s0 (State.motLost s) := by
  unfold State.motLost
  try dsimp only
  repeat' first | intro _ | with_reducible assumption | with_reducible apply Keeps.each | with_reducible apply keeps_State_setReg (subParts hA rfl) | with_reducible apply keeps_State_setFlag (subParts hA rfl) | with_reducible apply keeps_State_resetFbk (subParts hA rfl) | with_reducible apply keeps_State_axisOffNow (subParts hA rfl) | with_reducible apply Keeps.upd_mot (subParts hA rfl) | exact tabWf_tabSet _ _ _ _ (canon_mot (by assumption)) | with_reducible rfl | rfl

theorem keeps_State_contentsLost {A : List Part} {s0 s : State} (hA : [.regs, .dram, .l2, .grp, .armUndo, .chan, .srvAx, .srvCh, .srv, .lsr, .hoop, .port, .dom, .mot, .fbk, .cam, .pipe, .lgt, .strobe, .lane, .head, .dma, .dmaEng, .pci, .eth, .ddr, .pwr, .cave, .boot, .xbar, .free, .out] ⊆ A) (x1 : ℕ) (x2 : Bool) (h : Keeps A s0 s) : Keeps A s0 (State.contentsLost s x1 x2) := by
  unfold State.contentsLost
  try dsimp only
  repeat' first | intro _ | with_reducible assumption | with_reducible apply keeps_State_setFld (subParts hA rfl) | with_reducible apply keeps_State_holdDomains (subParts hA rfl) | with_reducible apply keeps_State_pciFundamental (subParts hA rfl) | with_reducible apply keeps_State_portsDown (subParts hA rfl) | with_reducible apply keeps_State_camLost (subParts hA rfl) | with_reducible apply keeps_State_srvLost (subParts hA rfl) | with_reducible apply keeps_State_seqLost (subParts hA rfl) | with_reducible apply keeps_State_lgtLost (subParts hA rfl) | with_reducible apply keeps_State_headDropped (subParts hA rfl) | with_reducible apply keeps_State_afeLost (subParts hA rfl) | with_reducible apply keeps_State_ethDropped (subParts hA rfl) | with_reducible apply keeps_State_ddrDown (subParts hA rfl) | with_reducible apply keeps_State_motLost (subParts hA rfl) | split | with_reducible apply Keeps.upd_l2_boot (subParts hA rfl) | with_reducible apply Keeps.upd_l2 (subParts hA rfl) | with_reducible apply Keeps.upd_boot (subParts hA rfl)

theorem keeps_State_setTrackers {A : List Part} {s0 s : State} (hA : [.intg] ⊆ A) (x1 : ℕ) (x2 : List Track) (h : Keeps A s0 s) : Keeps A s0 (State.setTrackers s x1 x2) := by
  unfold State.setTrackers
  try dsimp only
  repeat' first | intro _ | with_reducible assumption | with_reducible apply Keeps.upd_intg (subParts hA rfl)

theorem keeps_State_intgLost {A : List Part} {s0 s : State} (hA : [.regs, .intg] ⊆ A) (x1 : List ℕ) (h : Keeps A s0 s) : Keeps A s0 (State.intgLost s x1) := by
  unfold State.intgLost
  try dsimp only
  repeat' first | intro _ | with_reducible assumption | with_reducible apply Keeps.each | with_reducible apply keeps_State_setReg (subParts hA rfl) | with_reducible apply keeps_State_setTrackers (subParts hA rfl) | with_reducible apply Keeps.upd_intg (subParts hA rfl)

theorem keeps_execShutdownDomainDrop {A : List Part} {s0 s : State} (hA : [.regs, .dram, .l2, .grp, .armUndo, .chan, .srvAx, .srvCh, .srv, .lsr, .hoop, .port, .dom, .mot, .fbk, .cam, .pipe, .lgt, .strobe, .lane, .head, .dma, .dmaEng, .pci, .eth, .ddr, .intg, .pwr, .cave, .boot, .xbar, .free, .out] ⊆ A)  (h : Keeps A s0 s) : KeepsR A s0 (execShutdownDomainDrop s) := by
  unfold execShutdownDomainDrop
  try dsimp only
  repeat' first | intro _ | with_reducible assumption | with_reducible apply KeepsR.of_next | with_reducible apply Keeps.each | with_reducible apply keeps_State_setFld (subParts hA rfl) | with_reducible apply keeps_State_setFlag (subParts hA rfl) | with_reducible apply keeps_State_lapseAll (subParts hA rfl) | with_reducible apply keeps_State_dramSupplyOff (subParts hA rfl) | with_reducible apply keeps_occurs (subParts hA rfl) | with_reducible apply keeps_State_calDropped (subParts hA rfl) | with_reducible apply keeps_State_contentsLost (subParts hA rfl) | with_reducible apply keeps_State_intgLost (subParts hA rfl) | split | with_reducible apply Keeps.upd_pwr (subParts hA rfl)

theorem keeps_execBulkAckReceived {A : List Part} {s0 s : State} (hA : [.regs, .hoop, .port, .bulk, .pci, .out] ⊆ A) (x0 : ℕ) (x1 : Packet) (h : Keeps A s0 s) : KeepsR A s0 (execBulkAckReceived x0 x1 s) := by
  unfold execBulkAckReceived
  try dsimp only
  repeat' first | intro _ | with_reducible assumption | with_reducible apply KeepsR.ite | with_reducible apply Keeps.ite | with_reducible apply KeepsR.of_next | with_reducible apply keeps_State_receive (subParts hA rfl) | with_reducible apply keeps_onUnit (subParts hA rfl) | with_reducible apply keeps_State_bulkEnd (subParts hA rfl)

theorem keeps_State_driveAxis {A : List Part} {s0 s : State} (hA : [.regs, .mot] ⊆ A) (x1 : ℕ) (h : Keeps A s0 s) : Keeps A s0 (State.driveAxis s x1) := by
  unfold State.driveAxis
  try dsimp only
  repeat' first | intro _ | with_reducible assumption | with_reducible apply Keeps.ite | with_reducible apply keeps_State_setReg (subParts hA rfl) | with_reducible apply keeps_State_modMo (subParts hA rfl)

theorem keeps_execIdentificationDone {A : List Part} {s0 s : State} (hA : [.regs, .srv, .pci, .out] ⊆ A)  (h : Keeps A s0 s) : KeepsR A s0 (execIdentificationDone s) := by
  unfold execIdentificationDone
  try dsimp only
  repeat' first | intro _ | with_reducible assumption | with_reducible apply KeepsR.of_next | with_reducible apply keeps_State_raise (subParts hA rfl) | with_reducible apply keeps_State_setFlag (subParts hA rfl) | with_reducible apply keeps_occurs (subParts hA rfl) | with_reducible apply Keeps.upd_srv (subParts hA rfl)

theorem keeps_State_speed {A : List Part} {s0 s : State} (hA : [.regs, .fbk] ⊆ A) (x1 : ℕ) (h : Keeps A s0 s) : Keeps A s0 (State.speed s x1) := by
  unfold State.speed
  try dsimp only
  repeat' first | intro _ | with_reducible assumption | with_reducible apply Keeps.ite | with_reducible apply keeps_State_setSfld (subParts hA rfl) | with_reducible apply keeps_State_modFb (subParts hA rfl)

theorem keeps_State_retire {A : List Part} {s0 s : State} (hA : [.chan] ⊆ A) (x1 : ℕ) (h : Keeps A s0 s) : Keeps A s0 (State.retire s x1) := by
  unfold State.retire
  try dsimp only
  repeat' first | intro _ | with_reducible assumption | with_reducible apply keeps_State_modCh (subParts hA rfl) | split

theorem keeps_State_tempEnd {A : List Part} {s0 s : State} (hA : [.regs, .pci, .out] ⊆ A) (x1 : List (ℕ × ℤ)) (h : Keeps A s0 s) : Keeps A s0 (State.tempEnd s x1) := by
  unfold State.tempEnd
  try dsimp only
  repeat' first | intro _ | with_reducible assumption | with_reducible apply Keeps.ite | with_reducible apply keeps_State_setFld (subParts hA rfl) | with_reducible apply keeps_State_raise (subParts hA rfl) | with_reducible apply keeps_State_setSfld (subParts hA rfl) | split

theorem keeps_State_failSensor {A : List Part} {s0 s : State} (hA : [.regs, .pci, .out] ⊆ A) (x1 : ℕ) (h : Keeps A s0 s) : Keeps A s0 (State.failSensor s x1) := by
  unfold State.failSensor
  try dsimp only
  repeat' first | intro _ | with_reducible assumption | with_reducible apply Keeps.ite | with_reducible apply keeps_State_raise (subParts hA rfl) | with_reducible apply keeps_State_setBit (subParts hA rfl)

theorem keeps_State_readSensor {A : List Part} {s0 s : State} (hA : [.regs, .pci, .out] ⊆ A) (x1 : ℕ) (x2 : Option ℤ) (h : Keeps A s0 s) : Keeps A s0 (State.readSensor s x1 x2) := by
  unfold State.readSensor
  try dsimp only
  repeat' first | intro _ | with_reducible assumption | with_reducible apply Keeps.ite | with_reducible apply keeps_State_setFlag (subParts hA rfl) | with_reducible apply keeps_State_setSfld (subParts hA rfl) | with_reducible apply keeps_State_failSensor (subParts hA rfl) | split

theorem keeps_State_sinkShutdown {A : List Part} {s0 s : State} (hA : [.regs, .dram, .grp, .pci, .ddr, .pwr, .cave, .out] ⊆ A) (x1 : ℕ) (h : Keeps A s0 s) : Keeps A s0 (State.sinkShutdown s x1) := by
  unfold State.sinkShutdown
  try dsimp only
  repeat' first | intro _ | with_reducible assumption | with_reducible apply Keeps.ite | with_reducible apply keeps_State_setFld (subParts hA rfl) | with_reducible apply keeps_State_setFlag (subParts hA rfl) | with_reducible apply keeps_State_cavePost (subParts hA rfl) | with_reducible apply keeps_State_powerRecord (subParts hA rfl) | with_reducible apply keeps_State_settlePower (subParts hA rfl)

theorem keeps_State_exceedEnd {A : List Part} {s0 s : State} (hA : [.regs, .dram, .grp, .chan, .srvAx, .srvCh, .lsr, .hoop, .port, .pci, .ddr, .pwr, .hk, .cave, .boot, .xbar, .out] ⊆ A) (x1 : List (ℕ × ℤ)) (h : Keeps A s0 s) : Keeps A s0 (State.exceedEnd s x1) := by
  unfold State.exceedEnd
  try dsimp only
  repeat' first | intro _ | with_reducible assumption | with_reducible apply Keeps.ite | with_reducible apply Keeps.foldl | with_reducible apply keeps_State_thermalShutdown (subParts hA rfl) | with_reducible apply keeps_State_sinkShutdown (subParts hA rfl) | split | with_reducible apply Keeps.upd_hk (subParts hA rfl)

theorem keeps_State_readSupply {A : List Part} {s0 s : State} (hA : [.regs, .pci, .out] ⊆ A) (x1 : ℕ) (x2 : ℕ) (h : Keeps A s0 s) : Keeps A s0 (State.readSupply s x1 x2) := by
  unfold State.readSupply
  try dsimp only
  repeat' first | intro _ | with_reducible assumption | with_reducible apply Keeps.ite | with_reducible apply keeps_State_setFld (subParts hA rfl) | with_reducible apply keeps_State_raise (subParts hA rfl) | with_reducible apply keeps_State_setBit (subParts hA rfl)

theorem keeps_execHousekeepingRound {A : List Part} {s0 s : State} (hA : [.regs, .dram, .grp, .chan, .srvAx, .srvCh, .lsr, .hoop, .port, .pci, .ddr, .pwr, .hk, .cave, .boot, .xbar, .out] ⊆ A) (x0 : HkReadings) (h : Keeps A s0 s) : KeepsR A s0 (execHousekeepingRound x0 s) := by
  unfold execHousekeepingRound
  try dsimp only
  repeat' first | intro _ | with_reducible assumption | with_reducible apply KeepsR.of_next | with_reducible apply Keeps.each | with_reducible apply keeps_State_setReg (subParts hA rfl) | with_reducible apply keeps_State_setFld (subParts hA rfl) | with_reducible apply keeps_State_raise (subParts hA rfl) | with_reducible apply keeps_occurs (subParts hA rfl) | with_reducible apply keeps_State_tempEnd (subParts hA rfl) | with_reducible apply keeps_State_readSensor (subParts hA rfl) | with_reducible apply keeps_State_exceedEnd (subParts hA rfl) | with_reducible apply keeps_State_readSupply (subParts hA rfl) | with_reducible apply Keeps.upd_hk (subParts hA rfl)

theorem keeps_State_releaseTrip {A : List Part} {s0 s : State} (hA : [.regs, .srvCh] ⊆ A) (x1 : ℕ) (x2 : ℕ) (h : Keeps A s0 s) : Keeps A s0 (State.releaseTrip s x1 x2) := by
  unfold State.releaseTrip
  try dsimp only
  repeat' first | intro _ | with_reducible assumption | with_reducible apply Keeps.ite | with_reducible apply keeps_State_modSc (subParts hA rfl) | with_reducible apply keeps_State_setFlag (subParts hA rfl) | split

theorem keeps_State_gateOnEdge {A : List Part} {s0 s : State} (hA : [.regs, .dram, .grp, .chan, .srvAx, .srvCh, .lsr, .hoop, .port, .pci, .ddr, .xbar, .out] ⊆ A) (x1 : ℕ) (x2 : ℕ) (x3 : ℕ) (x4 : ℕ) (h : Keeps A s0 s) : Keeps A s0 (State.gateOnEdge s x1 x2 x3 x4) := by
  unfold State.gateOnEdge
  try dsimp only
  repeat' first | intro _ | with_reducible assumption | with_reducible apply Keeps.ite | with_reducible apply keeps_State_modSc (subParts hA rfl) | with_reducible apply keeps_State_modLs (subParts hA rfl) | with_reducible apply keeps_State_noteGate (subParts hA rfl) | with_reducible apply keeps_State_runFault (subParts hA rfl) | with_reducible apply keeps_State_laserCond (subParts hA rfl) | with_reducible apply keeps_State_releaseTrip (subParts hA rfl)

theorem keeps_State_gateOffEdge {A : List Part} {s0 s : State} (hA : [.lsr] ⊆ A) (x1 : ℕ) (x2 : ℕ) (x3 : ℕ) (h : Keeps A s0 s) : Keeps A s0 (State.gateOffEdge s x1 x2 x3) := by
  unfold State.gateOffEdge
  try dsimp only
  repeat' first | intro _ | with_reducible assumption | with_reducible apply Keeps.ite | with_reducible apply keeps_State_modLs (subParts hA rfl) | with_reducible apply keeps_State_noteGate (subParts hA rfl)

theorem keeps_State_trainEdge {A : List Part} {s0 s : State} (hA : [.regs, .dram, .grp, .chan, .srvAx, .srvCh, .lsr, .hoop, .port, .pci, .ddr, .xbar, .out] ⊆ A) (x1 : ℕ) (x2 : Train) (h : Keeps A s0 s) : Keeps A s0 (State.trainEdge s x1 x2) := by
  unfold State.trainEdge
  try dsimp only
  repeat' first | intro _ | with_reducible assumption | with_reducible apply Keeps.ite | with_reducible apply keeps_State_modCh (subParts hA rfl) | with_reducible apply keeps_State_gateOnEdge (subParts hA rfl) | with_reducible apply keeps_State_gateOffEdge (subParts hA rfl)

theorem keeps_State_queueEdge {A : List Part} {s0 s : State} (hA : [.regs, .dram, .grp, .chan, .srvAx, .srvCh, .lsr, .hoop, .port, .pci, .ddr, .xbar, .out] ⊆ A) (x1 : ℕ) (h : Keeps A s0 s) : Keeps A s0 (State.queueEdge s x1) := by
  unfold State.queueEdge
  try dsimp only
  repeat' first | intro _ | with_reducible assumption | with_reducible apply Keeps.ite | with_reducible apply keeps_State_modCh (subParts hA rfl) | with_reducible apply keeps_State_gateOnEdge (subParts hA rfl) | with_reducible apply keeps_State_gateOffEdge (subParts hA rfl) | with_reducible apply keeps_State_trainEdge (subParts hA rfl) | split

theorem keeps_execGateEdge {A : List Part} {s0 s : State} (hA : [.regs, .dram, .grp, .chan, .srvAx, .srvCh, .lsr, .hoop, .port, .pci, .ddr, .xbar, .out] ⊆ A) (x0 : ℕ) (h : Keeps A s0 s) : KeepsR A s0 (execGateEdge x0 s) := by
  unfold execGateEdge
  try dsimp only
  repeat' first | intro _ | with_reducible assumption | with_reducible apply KeepsR.ite | with_reducible apply Keeps.ite | with_reducible apply KeepsR.of_next | with_reducible apply keeps_onUnit (subParts hA rfl) | with_reducible apply keeps_State_trainEdge (subParts hA rfl) | with_reducible apply keeps_State_queueEdge (subParts hA rfl) | split

theorem keeps_execCreditReceived {A : List Part} {s0 s : State} (hA : [.port] ⊆ A) (x0 : ℕ) (x1 : Packet) (h : Keeps A s0 s) : KeepsR A s0 (execCreditReceived x0 x1 s) := by
  unfold execCreditReceived
  try dsimp only
  repeat' first | intro _ | with_reducible assumption | with_reducible apply KeepsR.ite | with_reducible apply Keeps.ite | with_reducible apply KeepsR.of_next | with_reducible apply keeps_State_modPt (subParts hA rfl) | with_reducible apply keeps_onUnit (subParts hA rfl)

theorem keeps_State_xtalTime {A : List Part} {s0 s : State} (hA : [.time] ⊆ A)  (h : Keeps A s0 s) : Keeps A s0 (State.xtalTime s) := by
  unfold State.xtalTime
  try dsimp only
  repeat' first | intro _ | with_reducible assumption | with_reducible apply Keeps.upd_time (subParts hA rfl)

theorem keeps_State_trainTick {A : List Part} {s0 s : State} (hA : [.regs, .ddr] ⊆ A)  (h : Keeps A s0 s) : Keeps A s0 (State.trainTick s) := by
  unfold State.trainTick
  try dsimp only
  repeat' first | intro _ | with_reducible assumption | with_reducible apply Keeps.ite | with_reducible apply Keeps.each | with_reducible apply keeps_State_setFld (subParts hA rfl) | with_reducible apply Keeps.upd_ddr (subParts hA rfl)

theorem keeps_State_tickUnits {A : List Part} {s0 s : State} (hA : [.regs, .lane, .ddr] ⊆ A)  (h : Keeps A s0 s) : Keeps A s0 (State.tickUnits s) := by
  unfold State.tickUnits
  try dsimp only
  repeat' first | intro _ | with_reducible assumption | with_reducible apply Keeps.ite | with_reducible apply Keeps.each | with_reducible apply keeps_State_modLn (subParts hA rfl) | with_reducible apply keeps_State_trainTick (subParts hA rfl) | with_reducible apply Keeps.upd_ddr (subParts hA rfl)

theorem keeps_State_driftDomains {A : List Part} {s0 s : State} (hA : [.dom] ⊆ A) (x1 : ℕ) (h : Keeps A s0 s) : Keeps A s0 (State.driftDomains s x1) := by
  unfold State.driftDomains
  try dsimp only
  repeat' first | intro _ | with_reducible assumption | with_reducible apply keeps_State_modDm (subParts hA rfl)

theorem keeps_State_fclkTime {A : List Part} {s0 s : State} (hA : [.time] ⊆ A)  (h : Keeps A s0 s) : Keeps A s0 (State.fclkTime s) := by
  unfold State.fclkTime
  try dsimp only
  repeat' first | intro _ | with_reducible assumption | with_reducible apply Keeps.upd_time (subParts hA rfl)

theorem keeps_State_setRepEntry {A : List Part} {s0 s : State} (hA : [.regs, .intg] ⊆ A) (x1 : ℕ) (x2 : ℕ) (x3 : ℕ) (x4 : ℤ) (h : Keeps A s0 s) : Keeps A s0 (State.setRepEntry s x1 x2 x3 x4) := by
  unfold State.setRepEntry
  try dsimp only
  repeat' first | intro _ | with_reducible assumption | with_reducible apply keeps_State_wordStore (subParts hA rfl)

theorem keeps_State_learnAxis {A : List Part} {s0 s : State} (hA : [.regs, .dram, .grp, .chan, .srvAx, .srvCh, .lsr, .hoop, .port, .pci, .ddr, .intg, .cave, .xbar, .out] ⊆ A) (x1 : ℕ) (x2 : ℕ) (h : Keeps A s0 s) : Keeps A s0 (State.learnAxis s x1 x2) := by
  unfold State.learnAxis
  try dsimp only
  repeat' first | intro _ | with_reducible assumption | with_reducible apply Keeps.ite | with_reducible apply keeps_State_modAx (subParts hA rfl) | with_reducible apply keeps_State_freezeAxis (subParts hA rfl) | with_reducible apply keeps_State_readWords (subParts hA rfl) | with_reducible apply keeps_State_wordStore (subParts hA rfl) | with_reducible apply keeps_State_integrityFault (subParts hA rfl) | with_reducible apply keeps_State_setRepEntry (subParts hA rfl) | split | (refine Keeps.pair (by assumption) ?_)

theorem keeps_State_learnNow {A : List Part} {s0 s : State} (hA : [.regs, .dram, .grp, .chan, .srvAx, .srvCh, .srv, .lsr, .hoop, .port, .pci, .ddr, .intg, .cave, .xbar, .out] ⊆ A)  (h : Keeps A s0 s) : Keeps A s0 (State.learnNow s) := by
  unfold State.learnNow
  try dsimp only
  repeat' first | intro _ | with_reducible assumption | with_reducible apply Keeps.ite | with_reducible apply Keeps.each | with_reducible apply keeps_State_learnAxis (subParts hA rfl) | with_reducible apply Keeps.upd_srv (subParts hA rfl)

theorem keeps_State_learnTick {A : List Part} {s0 s : State} (hA : [.regs, .dram, .grp, .chan, .srvAx, .srvCh, .srv, .lsr, .hoop, .port, .pci, .ddr, .intg, .cave, .xbar, .out] ⊆ A)  (h : Keeps A s0 s) : Keeps A s0 (State.learnTick s) := by
  unfold State.learnTick
  try dsimp only
  repeat' first | intro _ | with_reducible assumption | with_reducible apply Keeps.ite | with_reducible apply keeps_State_learnNow (subParts hA rfl) | split

theorem keeps_State_tickLayer {A : List Part} {s0 s : State} (hA : [.grp, .pwr] ⊆ A)  (h : Keeps A s0 s) : Keeps A s0 (State.tickLayer s) := by
  unfold State.tickLayer
  try dsimp only
  repeat' first | intro _ | with_reducible assumption | with_reducible apply Keeps.ite | with_reducible apply keeps_State_modGrp (subParts hA rfl) | with_reducible apply keeps_State_thermalSync (subParts hA rfl)

theorem keeps_State_tickPins {A : List Part} {s0 s : State} (hA : [.boot, .pins] ⊆ A)  (h : Keeps A s0 s) : Keeps A s0 (State.tickPins s) := by
  unfold State.tickPins
  try dsimp only
  repeat' first | intro _ | with_reducible assumption | with_reducible apply Keeps.ite | split | with_reducible apply Keeps.upd_boot_pins (subParts hA rfl) | with_reducible apply Keeps.upd_boot (subParts hA rfl) | with_reducible apply Keeps.upd_pins (subParts hA rfl)

theorem keeps_State_refTime {A : List Part} {s0 s : State} (hA : [.time] ⊆ A)  (h : Keeps A s0 s) : Keeps A s0 (State.refTime s) := by
  unfold State.refTime
  try dsimp only
  repeat' first | intro _ | with_reducible assumption | with_reducible apply Keeps.upd_time (subParts hA rfl)

theorem keeps_State_tick {A : List Part} {s0 s : State} (hA : [.regs, .dram, .grp, .chan, .srvAx, .srvCh, .srv, .lsr, .hoop, .port, .dom, .time, .lane, .pci, .ddr, .intg, .pwr, .cave, .boot, .pins, .xbar, .out] ⊆ A)  (h : Keeps A s0 s) : Keeps A s0 (State.tick s) := by
  unfold State.tick
  try dsimp only
  repeat' first | intro _ | with_reducible assumption | with_reducible apply Keeps.ite | with_reducible apply keeps_State_xtalTime (subParts hA rfl) | with_reducible apply keeps_State_tickUnits (subParts hA rfl) | with_reducible apply keeps_State_driftDomains (subParts hA rfl) | with_reducible apply keeps_State_fclkTime (subParts hA rfl) | with_reducible apply keeps_State_learnTick (subParts hA rfl) | with_reducible apply keeps_State_tickLayer (subParts hA rfl) | with_reducible apply keeps_State_tickPins (subParts hA rfl) | with_reducible apply keeps_State_refTime (subParts hA rfl)

theorem keeps_State_allocate {A : List Part} {s0 s : State} (hA : [.chan, .ddr] ⊆ A) (x1 : ℕ) (x2 : FeedEntry) (h : Keeps A s0 s) : Keeps A s0 (State.allocate s x1 x2) := by
  unfold State.allocate
  try dsimp only
  repeat' first | intro _ | with_reducible assumption | with_reducible apply keeps_State_modCh (subParts hA rfl) | with_reducible apply keeps_State_feedRequest (subParts hA rfl)

theorem keeps_execWalkerFetch {A : List Part} {s0 s : State} (hA : [.chan, .ddr] ⊆ A) (x0 : ℕ) (h : Keeps A s0 s) : KeepsR A s0 (execWalkerFetch x0 s) := by
  unfold execWalkerFetch
  try dsimp only
  repeat' first | intro _ | with_reducible assumption | with_reducible apply KeepsR.ite | with_reducible apply Keeps.ite | with_reducible apply KeepsR.of_next | with_reducible apply keeps_State_modCh (subParts hA rfl) | with_reducible apply keeps_onUnit (subParts hA rfl) | with_reducible apply keeps_State_feedAsk (subParts hA rfl) | with_reducible apply keeps_State_allocate (subParts hA rfl) | split

theorem keeps_State_putHand {A : List Part} {s0 s : State} (hA : [.chan] ⊆ A) (x1 : ℕ) (x2 : Hand) (x3 : Hand) (h : Keeps A s0 s) : Keeps A s0 (State.putHand s x1 x2 x3) := by
  unfold State.putHand
  try dsimp only
  repeat' first | intro _ | with_reducible assumption | with_reducible apply Keeps.ite | with_reducible apply keeps_State_modCh (subParts hA rfl)

theorem keeps_State_handRecord {A : List Part} {s0 s : State} (hA : [.regs, .dram, .grp, .pci, .ddr, .out] ⊆ A) (x1 : ℕ) (x2 : Hand) (x3 : ℕ) (x4 : ℕ) (x5 : ℕ) (h : Keeps A s0 s) : Keeps A s0 (State.handRecord s x1 x2 x3 x4 x5) := by
  unfold State.handRecord
  try dsimp only
  repeat' first | intro _ | with_reducible assumption | with_reducible apply Keeps.ite | with_reducible apply keeps_State_setReg (subParts hA rfl) | with_reducible apply keeps_State_raise (subParts hA rfl) | with_reducible apply keeps_State_satAdd (subParts hA rfl) | with_reducible apply keeps_State_postAt (subParts hA rfl)

theorem keeps_State_handToken_ {A : List Part} {s0 s : State} (hA : [.regs, .dram, .grp, .chan, .srvAx, .srvCh, .lsr, .hoop, .port, .pci, .ddr, .xbar, .out] ⊆ A) (x1 : ℕ) (x2 : Hand) (x3 : Token) (h : Keeps A s0 s) : Keeps A s0 (State.handToken_ s x1 x2 x3) := by
  unfold State.handToken_
  try dsimp only
  repeat' first | intro _ | with_reducible assumption | with_reducible apply Keeps.ite | with_reducible apply keeps_State_tokenMismatch (subParts hA rfl) | with_reducible apply keeps_State_putHand (subParts hA rfl) | with_reducible apply keeps_State_handRecord (subParts hA rfl) | split

theorem keeps_State_takeToken {A : List Part} {s0 s : State} (hA : [.regs, .dram, .grp, .chan, .srvAx, .srvCh, .lsr, .hoop, .port, .pci, .ddr, .xbar, .out] ⊆ A) (x1 : Token) (h : Keeps A s0 s) : Keeps A s0 (State.takeToken s x1) := by
  unfold State.takeToken
  try dsimp only
  repeat' first | intro _ | with_reducible assumption | with_reducible apply Keeps.ite | with_reducible apply keeps_State_raise (subParts hA rfl) | with_reducible apply keeps_State_satAdd (subParts hA rfl) | with_reducible apply keeps_State_modCh (subParts hA rfl) | with_reducible apply keeps_State_tokenDrop (subParts hA rfl) | with_reducible apply keeps_State_handToken_ (subParts hA rfl) | split

theorem keeps_execHandTokenReceived {A : List Part} {s0 s : State} (hA : [.regs, .dram, .grp, .chan, .srvAx, .srvCh, .lsr, .hoop, .port, .pci, .ddr, .xbar, .out] ⊆ A) (x0 : Option ℕ) (x1 : Packet) (h : Keeps A s0 s) : KeepsR A s0 (execHandTokenReceived x0 x1 s) := by
  unfold execHandTokenReceived
  try dsimp only
  repeat' first | intro _ | with_reducible assumption | with_reducible apply KeepsR.ite | with_reducible apply Keeps.ite | with_reducible apply KeepsR.of_next | with_reducible apply keeps_State_receive (subParts hA rfl) | with_reducible apply keeps_onUnit (subParts hA rfl) | with_reducible apply keeps_State_tokenDrop (subParts hA rfl) | with_reducible apply keeps_State_takeToken (subParts hA rfl) | split | with_reducible apply Keeps.upd_xbar (subParts hA rfl)

theorem keeps_State_skewApplied {A : List Part} {s0 s : State} (hA : [.regs, .head] ⊆ A)  (h : Keeps A s0 s) : Keeps A s0 (State.skewApplied s) := by
  unfold State.skewApplied
  try dsimp only
  repeat' first | intro _ | with_reducible assumption | with_reducible apply Keeps.ite | with_reducible apply Keeps.each | with_reducible apply keeps_State_modHd (subParts hA rfl) | with_reducible apply keeps_State_launchCfg (subParts hA rfl)

theorem keeps_State_copyWords {A : List Part} {s0 s : State} (hA : [.regs, .intg] ⊆ A) (x1 : ℕ) (x2 : ℕ) (x3 : ℕ) (h : Keeps A s0 s) : Keeps A s0 (State.copyWords s x1 x2 x3) := by
  unfold State.copyWords
  try dsimp only
  repeat' first | intro _ | with_reducible assumption | with_reducible apply Keeps.foldl | with_reducible apply Keeps.upd_regs_intg (subParts hA rfl) | with_reducible apply Keeps.upd_regs (subParts hA rfl) | with_reducible apply Keeps.upd_intg (subParts hA rfl) | exact tabWf_foldSet _ _ _ (tabWf_filter _ _ _ (canon_regs (by assumption))) | exact tabWf_tabSet _ _ _ _ (canon_regs (by assumption)) | with_reducible rfl | rfl

theorem keeps_State_calCopy {A : List Part} {s0 s : State} (hA : [.regs, .dram, .grp, .pci, .ddr, .intg, .out] ⊆ A) (x1 : ℕ) (h : Keeps A s0 s) : Keeps A s0 (State.calCopy s x1) := by
  unfold State.calCopy
  try dsimp only
  repeat' first | intro _ | with_reducible assumption | with_reducible apply keeps_State_readWords (subParts hA rfl) | with_reducible apply keeps_State_copyWords (subParts hA rfl) | split | (refine Keeps.pair (by assumption) ?_)

theorem keeps_execCalApplyEffect {A : List Part} {s0 s : State} (hA : [.regs, .dram, .grp, .head, .pci, .ddr, .intg, .out] ⊆ A) (x0 : ℕ) (h : Keeps A s0 s) : KeepsR A s0 (execCalApplyEffect x0 s) := by
  unfold execCalApplyEffect
  try dsimp only
  repeat' first | intro _ | with_reducible assumption | with_reducible apply KeepsR.ite | with_reducible apply Keeps.ite | with_reducible apply KeepsR.of_next | with_reducible apply keeps_onGroup (subParts hA rfl) | with_reducible apply keeps_State_calResult (subParts hA rfl) | with_reducible apply keeps_State_skewApplied (subParts hA rfl) | with_reducible apply keeps_State_calCopy (subParts hA rfl)

theorem keeps_State_switch {A : List Part} {s0 s : State} (hA : [.regs, .dram, .grp, .dom, .time, .pci, .ddr, .out] ⊆ A) (x1 : ℕ) (x2 : Bool) (h : Keeps A s0 s) : Keeps A s0 (State.switch s x1 x2) := by
  unfold State.switch
  try dsimp only
  repeat' first | intro _ | with_reducible assumption | with_reducible apply keeps_State_setFld (subParts hA rfl) | with_reducible apply keeps_State_raise (subParts hA rfl) | with_reducible apply keeps_State_post (subParts hA rfl) | with_reducible apply keeps_State_setFlag (subParts hA rfl) | with_reducible apply keeps_State_modDm (subParts hA rfl) | with_reducible apply keeps_State_stepTime (subParts hA rfl)

theorem keeps_execDomainSwitch {A : List Part} {s0 s : State} (hA : [.regs, .dram, .grp, .dom, .time, .pci, .ddr, .out] ⊆ A)  (h : Keeps A s0 s) : KeepsR A s0 (execDomainSwitch s) := by
  unfold execDomainSwitch
  try dsimp only
  repeat' first | intro _ | with_reducible assumption | with_reducible apply KeepsR.ite | with_reducible apply Keeps.ite | with_reducible apply KeepsR.of_next | with_reducible apply keeps_State_switch (subParts hA rfl)

theorem keeps_execStall {A : List Part} {s0 s : State} (hA : [.regs, .dram, .grp, .mot, .pci, .ddr, .out] ⊆ A) (x0 : ℕ) (h : Keeps A s0 s) : KeepsR A s0 (execStall x0 s) := by
  unfold execStall
  try dsimp only
  repeat' first | intro _ | with_reducible assumption | with_reducible apply KeepsR.ite | with_reducible apply Keeps.ite | with_reducible apply KeepsR.of_next | with_reducible apply keeps_onUnit (subParts hA rfl) | with_reducible apply keeps_State_axisFault (subParts hA rfl)

theorem keeps_State_hostload {A : List Part} {s0 s : State} (hA : [.regs, .dram, .grp, .dom, .pci, .ddr, .pwr, .out] ⊆ A)  (h : Keeps A s0 s) : Keeps A s0 (State.hostload s) := by
  unfold State.hostload
  try dsimp only
  repeat' first | intro _ | with_reducible assumption | with_reducible apply keeps_State_setFld (subParts hA rfl) | with_reducible apply keeps_State_raise (subParts hA rfl) | with_reducible apply keeps_State_voteHost (subParts hA rfl) | with_reducible apply Keeps.upd_pci (subParts hA rfl)

theorem keeps_execBoot {A : List Part} {s0 s : State} (hA : [.regs, .dram, .l2, .grp, .dom, .pci, .ddr, .pwr, .out] ⊆ A) (x0 : Option (List Byte)) (x1 : Option (List Byte)) (h : Keeps A s0 s) : KeepsR A s0 (execBoot x0 x1 s) := by
  unfold execBoot
  try dsimp only
  repeat' first | intro _ | with_reducible assumption | with_reducible apply KeepsR.ite | with_reducible apply Keeps.ite | with_reducible apply KeepsR.of_next | with_reducible apply keeps_State_setFld (subParts hA rfl) | with_reducible apply keeps_occurs (subParts hA rfl) | with_reducible apply keeps_State_runImage (subParts hA rfl) | with_reducible apply keeps_State_hostload (subParts hA rfl)

theorem keeps_State_putRows {A : List Part} {s0 s : State} (hA : [.dram, .ddr] ⊆ A) (x1 : ℕ) (x2 : ℕ) (x3 : List (List Byte)) (h : Keeps A s0 s) : Keeps A s0 (State.putRows s x1 x2 x3) := by
  unfold State.putRows
  try dsimp only
  repeat' first | intro _ | with_reducible assumption | with_reducible apply Keeps.foldl | with_reducible apply keeps_State_writeDram (subParts hA rfl)

theorem keeps_State_overshoot {A : List Part} {s0 s : State} (hA : [.regs, .dram, .grp, .pci, .ddr, .out] ⊆ A) (x1 : ℕ) (h : Keeps A s0 s) : Keeps A s0 (State.overshoot s x1) := by
  unfold State.overshoot
  try dsimp only
  repeat' first | intro _ | with_reducible assumption | with_reducible apply keeps_State_raise (subParts hA rfl) | with_reducible apply keeps_State_setFlag (subParts hA rfl) | with_reducible apply keeps_State_axisRecord (subParts hA rfl)

theorem keeps_execRep {A : List Part} {s0 s : State} (hA : [.regs, .dram, .grp, .chan, .srvAx, .srvCh, .lsr, .hoop, .port, .pci, .ddr, .intg, .xbar, .out] ⊆ A) (x0 : ℕ) (h : Keeps A s0 s) : KeepsR A s0 (execRep x0 s) := by
  unfold execRep
  try dsimp only
  repeat' first | intro _ | with_reducible assumption | with_reducible apply KeepsR.ite | with_reducible apply Keeps.ite | with_reducible apply KeepsR.of_next | with_reducible apply keeps_State_modCh (subParts hA rfl) | with_reducible apply keeps_State_decodeFault (subParts hA rfl) | with_reducible apply keeps_decodeOn (subParts hA rfl) | with_reducible apply keeps_State_next (subParts hA rfl)

theorem keeps_execScrubPass {A : List Part} {s0 s : State} (hA : [.regs, .intg] ⊆ A)  (h : Keeps A s0 s) : KeepsR A s0 (execScrubPass s) := by
  unfold execScrubPass
  try dsimp only
  repeat' first | intro _ | with_reducible assumption | with_reducible apply KeepsR.of_next | with_reducible apply keeps_State_setReg (subParts hA rfl) | with_reducible apply keeps_occurs (subParts hA rfl) | with_reducible apply Keeps.upd_intg (subParts hA rfl)

theorem keeps_execSysrstN {A : List Part} {s0 s : State} (hA : [.regs, .dram, .l2, .shadow, .staged, .grp, .armUndo, .chan, .srvAx, .srvCh, .srv, .lsr, .hoop, .port, .bulk, .dom, .time, .mot, .fbk, .cam, .pipe, .lgt, .strobe, .lane, .head, .dma, .dmaEng, .pci, .eth, .ddr, .intg, .cal, .pwr, .cave, .boot, .xbar, .free, .out] ⊆ A)  (h : Keeps A s0 s) : KeepsR A s0 (execSysrstN s) := by
  unfold execSysrstN
  try dsimp only
  repeat' first | intro _ | with_reducible assumption | with_reducible apply KeepsR.ite | with_reducible apply Keeps.ite | with_reducible apply KeepsR.of_next | with_reducible apply keeps_State_coreReset (subParts hA rfl) | with_reducible apply Keeps.upd_boot (subParts hA rfl)

theorem keeps_execFence {A : List Part} {s0 s : State} (hA : [.regs, .dram, .grp, .chan, .srvAx, .srvCh, .lsr, .hoop, .port, .pci, .ddr, .intg, .xbar, .out] ⊆ A) (x0 : ℕ) (h : Keeps A s0 s) : KeepsR A s0 (execFence x0 s) := by
  unfold execFence
  try dsimp only
  repeat' first | intro _ | with_reducible assumption | with_reducible apply KeepsR.of_next | with_reducible apply keeps_decodeOn (subParts hA rfl) | with_reducible apply keeps_State_point (subParts hA rfl)

theorem keeps_State_meltInstant {A : List Part} {s0 s : State} (hA : [.regs, .lsr] ⊆ A) (x1 : ℕ) (x2 : ℕ) (x3 : ℕ × Bool) (x4 : ℕ × Bool) (x5 : Bool) (h : Keeps A s0 s) : Keeps A s0 (State.meltInstant s x1 x2 x3 x4 x5).1 := by
  unfold State.meltInstant
  try dsimp only
  repeat' first | intro _ | with_reducible assumption | with_reducible apply Keeps.ite | with_reducible apply keeps_State_setFld (subParts hA rfl) | with_reducible apply keeps_State_setFlag (subParts hA rfl) | with_reducible apply keeps_State_modLs (subParts hA rfl) | with_reducible apply keeps_State_setSfld (subParts hA rfl) | split

theorem keeps_State_grantee {A : List Part} {s0 s : State} (hA : [.regs, .lgt, .pci, .pwr, .out] ⊆ A) (x1 : ℕ) (h : Keeps A s0 s) : Keeps A s0 (State.grantee s x1) := by
  unfold State.grantee
  try dsimp only
  repeat' first | intro _ | with_reducible assumption | with_reducible apply Keeps.ite | with_reducible apply keeps_State_setFlag (subParts hA rfl) | with_reducible apply keeps_State_lightSync (subParts hA rfl)

theorem keeps_State_cursorTo {A : List Part} {s0 s : State} (hA : [.regs, .dram, .grp, .chan, .srvAx, .srvCh, .lsr, .hoop, .port, .pci, .ddr, .xbar, .out] ⊆ A) (x1 : ℕ) (x2 : ℕ) (x3 : ℕ) (h : Keeps A s0 s) : Keeps A s0 (State.cursorTo s x1 x2 x3) := by
  unfold State.cursorTo
  try dsimp only
  repeat' first | intro _ | with_reducible assumption | with_reducible apply keeps_State_modCh (subParts hA rfl) | with_reducible apply keeps_State_next (subParts hA rfl)

theorem keeps_execWaitr {A : List Part} {s0 s : State} (hA : [.regs, .dram, .grp, .chan, .srvAx, .srvCh, .lsr, .hoop, .port, .pci, .ddr, .intg, .xbar, .out] ⊆ A) (x0 : ℕ) (h : Keeps A s0 s) : KeepsR A s0 (execWaitr x0 s) := by
  unfold execWaitr
  try dsimp only
  repeat' first | intro _ | with_reducible assumption | with_reducible apply KeepsR.of_next | with_reducible apply keeps_decodeOn (subParts hA rfl) | with_reducible apply keeps_State_cursorTo (subParts hA rfl)

theorem keeps_State_countPm {A : List Part} {s0 s : State} (hA : [.lane] ⊆ A) (x1 : ℕ) (x2 : ℕ) (h : Keeps A s0 s) : Keeps A s0 (State.countPm s x1 x2).2 := by
  unfold State.countPm
  try dsimp only
  repeat' first | intro _ | with_reducible assumption | with_reducible apply Keeps.ite | with_reducible apply keeps_State_modLn (subParts hA rfl) | split

theorem keeps_State_remoteAccess {A : List Part} {s0 s : State} (hA : [.regs, .dram, .l2, .shadow, .staged, .grp, .armUndo, .chan, .srvAx, .srvCh, .srv, .lsr, .hoop, .port, .bulk, .dom, .time, .mot, .fbk, .cam, .pipe, .lgt, .strobe, .lane, .head, .dma, .dmaEng, .pci, .eth, .ddr, .intg, .cal, .pwr, .cave, .boot, .xbar, .free, .out] ⊆ A) (x1 : ℕ) (x2 : Bool) (x3 : Word) (h : Keeps A s0 s) : Keeps A s0 (State.remoteAccess s x1 x2 x3).2.2 := by
  unfold State.remoteAccess
  try dsimp only
  repeat' first | intro _ | with_reducible assumption | with_reducible apply Keeps.ite | with_reducible apply keeps_State_busWrite (subParts hA rfl) | with_reducible apply keeps_State_busRead (subParts hA rfl) | split | (refine Keeps.pair (by assumption) ?_)

theorem keeps_execRefresh {A : List Part} {s0 s : State} (hA : [.ddr, .out] ⊆ A) (x0 : ℕ) (h : Keeps A s0 s) : KeepsR A s0 (execRefresh x0 s) := by
  unfold execRefresh
  try dsimp only
  repeat' first | intro _ | with_reducible assumption | with_reducible apply KeepsR.ite | with_reducible apply Keeps.ite | with_reducible apply KeepsR.of_next | with_reducible apply keeps_State_emit (subParts hA rfl) | with_reducible apply keeps_onUnit (subParts hA rfl) | with_reducible apply Keeps.upd_ddr (subParts hA rfl)

theorem keeps_State_powerUp {A : List Part} {s0 s : State} (hA : [.regs, .dram, .l2, .shadow, .staged, .readData, .grp, .armUndo, .chan, .srvAx, .srvCh, .srv, .lsr, .hoop, .port, .bulk, .dom, .time, .mot, .fbk, .cam, .pipe, .lgt, .strobe, .lane, .head, .dma, .dmaEng, .pci, .eth, .ddr, .intg, .cal, .pwr, .hk, .cave, .boot, .xbar] ⊆ A)  (h : Keeps A s0 s) : Keeps A s0 (State.powerUp s) := by
  unfold State.powerUp
  have k : Keeps A s0 { State.reset with
      variant := s.variant
      pending := s.pending
      free := s.free
      out := s.out
      fbk := heldInputs s.fbk
      cam := heldVs s.cam
      cave := { State.reset.cave with die := s.cave.die, key := s.cave.key }
      boot := { State.reset.boot with pk := s.boot.pk }
      pci := { State.reset.pci with perstN := s.pci.perstN }
      pwr := { State.reset.pwr with wake := s.pwr.wake }
      pins := s.pins } := by
    refine ⟨fun p hp => ?_, fun c => ?_⟩
    · have := h.only p hp
      cases p <;> first | exact this | exact absurd (hA (by decide)) hp
    · have c := h.canon c
      have a : tabWf (fun _ => Feedback.reset) (heldInputs s.fbk) = true :=
        tabWf_mapKeys Feedback.reset (fun e => (e.1, heldLevels e.2)) (fun _ => rfl) (canon_fbk c)
      have b := canon_die c
      have d : tabWf (fun _ => CamPort.reset) (heldVs s.cam) = true :=
        tabWf_mapKeys CamPort.reset (fun e => (e.1, { CamPort.reset with vs := e.2.vs })) (fun _ => rfl) (canon_cam c)
      simp only [State.canon, State.memCanon, Memory.wf, Bool.and_eq_true, a, b, d]
      decide
  exact keeps_State_setFlag (subParts hA (by decide)) _ _ _ (keeps_State_setFlag (subParts hA (by decide)) _ _ _ k)

theorem keeps_State_loopFault {A : List Part} {s0 s : State} (hA : [.regs, .dram, .grp, .chan, .srvAx, .srvCh, .lsr, .hoop, .port, .pci, .ddr, .cave, .xbar, .out] ⊆ A) (x1 : ℕ) (x2 : ℕ) (h : Keeps A s0 s) : Keeps A s0 (State.loopFault s x1 x2) := by
  unfold State.loopFault
  try dsimp only
  repeat' first | intro _ | with_reducible assumption | with_reducible apply keeps_State_setFld (subParts hA rfl) | with_reducible apply keeps_State_modLs (subParts hA rfl) | with_reducible apply keeps_State_integrityFault (subParts hA rfl)

theorem keeps_State_learnPeriod {A : List Part} {s0 s : State} (hA : [.regs, .srvCh] ⊆ A) (x1 : ℕ) (h : Keeps A s0 s) : Keeps A s0 (State.learnPeriod s x1) := by
  unfold State.learnPeriod
  try dsimp only
  repeat' first | intro _ | with_reducible assumption | with_reducible apply Keeps.ite | with_reducible apply keeps_State_modSc (subParts hA rfl) | with_reducible apply keeps_State_setFlag (subParts hA rfl)

theorem keeps_State_segment {A : List Part} {s0 s : State} (hA : [.regs, .dram, .grp, .chan, .srvAx, .srvCh, .lsr, .hoop, .port, .pci, .ddr, .xbar, .out] ⊆ A) (x1 : ℕ) (x2 : ℕ) (x3 : SegKind) (x4 : ℕ) (x5 : ℕ) (x6 : V3) (x7 : V3) (x8 : V3) (x9 : ℕ) (h : Keeps A s0 s) : Keeps A s0 (State.segment s x1 x2 x3 x4 x5 x6 x7 x8 x9) := by
  unfold State.segment
  try dsimp only
  repeat' first | intro _ | with_reducible assumption | with_reducible apply keeps_State_modCh (subParts hA rfl) | with_reducible apply keeps_State_next (subParts hA rfl)

theorem keeps_execJump {A : List Part} {s0 s : State} (hA : [.regs, .dram, .grp, .chan, .srvAx, .srvCh, .lsr, .hoop, .port, .pci, .ddr, .intg, .xbar, .out] ⊆ A) (x0 : ℕ) (h : Keeps A s0 s) : KeepsR A s0 (execJump x0 s) := by
  unfold execJump
  try dsimp only
  repeat' first | intro _ | with_reducible assumption | with_reducible apply KeepsR.ite | with_reducible apply Keeps.ite | with_reducible apply KeepsR.of_next | with_reducible apply keeps_State_decodeFault (subParts hA rfl) | with_reducible apply keeps_decodeOn (subParts hA rfl) | with_reducible apply keeps_State_segment (subParts hA rfl)

theorem keeps_State_setEvent {A : List Part} {s0 s : State} (hA : [.grp] ⊆ A) (x1 : ℕ) (h : Keeps A s0 s) : Keeps A s0 (State.setEvent s x1) := by
  unfold State.setEvent
  try dsimp only
  repeat' first | intro _ | with_reducible assumption | with_reducible apply keeps_State_modGrp (subParts hA rfl)

theorem keeps_State_takeEvent {A : List Part} {s0 s : State} (hA : [.regs, .dram, .grp, .pci, .ddr, .out] ⊆ A) (x1 : ℕ) (x2 : ℕ) (h : Keeps A s0 s) : Keeps A s0 (State.takeEvent s x1 x2) := by
  unfold State.takeEvent
  try dsimp only
  repeat' first | intro _ | with_reducible assumption | with_reducible apply Keeps.ite | with_reducible apply keeps_State_raise (subParts hA rfl) | with_reducible apply keeps_State_post (subParts hA rfl) | with_reducible apply keeps_State_setEvent (subParts hA rfl)

theorem keeps_execEventReceived {A : List Part} {s0 s : State} (hA : [.regs, .dram, .grp, .hoop, .port, .pci, .ddr, .out] ⊆ A) (x0 : ℕ) (x1 : Packet) (h : Keeps A s0 s) : KeepsR A s0 (execEventReceived x0 x1 s) := by
  unfold execEventReceived
  try dsimp only
  repeat' first | intro _ | with_reducible assumption | with_reducible apply KeepsR.ite | with_reducible apply Keeps.ite | with_reducible apply KeepsR.of_next | with_reducible apply keeps_State_receive (subParts hA rfl) | with_reducible apply keeps_onUnit (subParts hA rfl) | with_reducible apply keeps_State_takeEvent (subParts hA rfl)

theorem keeps_execDescriptorRead {A : List Part} {s0 s : State} (hA : [.regs, .chan] ⊆ A) (x0 : ℕ) (h : Keeps A s0 s) : KeepsR A s0 (execDescriptorRead x0 s) := by
  unfold execDescriptorRead
  try dsimp only
  repeat' first | intro _ | with_reducible assumption | with_reducible apply KeepsR.ite | with_reducible apply Keeps.ite | with_reducible apply KeepsR.of_next | with_reducible apply keeps_onUnit (subParts hA rfl) | with_reducible apply keeps_State_readDesc (subParts hA rfl)

theorem keeps_State_convert {A : List Part} {s0 s : State} (hA : [.regs] ⊆ A) (x1 : ℕ) (x2 : ℕ) (h : Keeps A s0 s) : Keeps A s0 (State.convert s x1 x2) := by
  unfold State.convert
  try dsimp only
  repeat' first | intro _ | with_reducible assumption | with_reducible apply keeps_State_setFld (subParts hA rfl)

theorem keeps_State_bistAtPowerUp {A : List Part} {s0 s : State} (hA : [.regs, .dram, .grp, .pci, .ddr, .intg, .cave, .out] ⊆ A) (x1 : ℕ) (x2 : ℕ) (h : Keeps A s0 s) : Keeps A s0 (State.bistAtPowerUp s x1 x2) := by
  unfold State.bistAtPowerUp
  try dsimp only
  repeat' first | intro _ | with_reducible assumption | with_reducible apply Keeps.ite | with_reducible apply keeps_State_bistResult (subParts hA rfl)

theorem keeps_State_auxEnd {A : List Part} {s0 s : State} (hA : [.regs, .pci, .out] ⊆ A) (x1 : ℕ) (x2 : ℕ) (h : Keeps A s0 s) : Keeps A s0 (State.auxEnd s x1 x2) := by
  unfold State.auxEnd
  try dsimp only
  repeat' first | intro _ | with_reducible assumption | with_reducible apply keeps_State_setFld (subParts hA rfl) | with_reducible apply keeps_State_raise (subParts hA rfl)

theorem keeps_State_cfgFail {A : List Part} {s0 s : State} (hA : [.regs, .head, .pci, .out] ⊆ A) (x1 : ℕ) (h : Keeps A s0 s) : Keeps A s0 (State.cfgFail s x1) := by
  unfold State.cfgFail
  try dsimp only
  repeat' first | intro _ | with_reducible assumption | with_reducible apply keeps_State_raise (subParts hA rfl) | with_reducible apply keeps_State_setFlag (subParts hA rfl) | with_reducible apply keeps_State_modHd (subParts hA rfl)

theorem keeps_State_auxOver {A : List Part} {s0 s : State} (hA : [.regs, .head] ⊆ A) (x1 : ℕ) (h : Keeps A s0 s) : Keeps A s0 (State.auxOver s x1) := by
  unfold State.auxOver
  try dsimp only
  repeat' first | intro _ | with_reducible assumption | with_reducible apply keeps_State_setFlag (subParts hA rfl) | with_reducible apply keeps_State_modHd (subParts hA rfl) | with_reducible apply keeps_State_launchCfg (subParts hA rfl)

theorem keeps_State_auxAnswer {A : List Part} {s0 s : State} (hA : [.regs, .head, .pci, .out] ⊆ A) (x1 : ℕ) (x2 : ℕ) (x3 : ℕ) (x4 : ℕ) (h : Keeps A s0 s) : Keeps A s0 (State.auxAnswer s x1 x2 x3 x4) := by
  unfold State.auxAnswer
  try dsimp only
  repeat' first | intro _ | with_reducible assumption | with_reducible apply Keeps.ite | with_reducible apply keeps_State_setFld (subParts hA rfl) | with_reducible apply keeps_State_setFlag (subParts hA rfl) | with_reducible apply keeps_State_modHd (subParts hA rfl) | with_reducible apply keeps_State_auxEnd (subParts hA rfl) | with_reducible apply keeps_State_cfgFail (subParts hA rfl) | with_reducible apply keeps_State_auxOver (subParts hA rfl) | split

theorem keeps_State_setRaising {A : List Part} {s0 s : State} (hA : [.pwr] ⊆ A) (x1 : ℕ) (x2 : ℕ × ℕ) (h : Keeps A s0 s) : Keeps A s0 (State.setRaising s x1 x2) := by
  unfold State.setRaising
  try dsimp only
  repeat' first | intro _ | with_reducible assumption | with_reducible apply Keeps.upd_pwr (subParts hA rfl)

theorem keeps_State_setPwren {A : List Part} {s0 s : State} (hA : [.pwr] ⊆ A) (x1 : ℕ) (x2 : Bool) (h : Keeps A s0 s) : Keeps A s0 (State.setPwren s x1 x2) := by
  unfold State.setPwren
  try dsimp only
  repeat' first | intro _ | with_reducible assumption | with_reducible apply Keeps.upd_pwr (subParts hA rfl)

theorem keeps_State_setPgood {A : List Part} {s0 s : State} (hA : [.pwr] ⊆ A) (x1 : ℕ) (x2 : Bool) (h : Keeps A s0 s) : Keeps A s0 (State.setPgood s x1 x2) := by
  unfold State.setPgood
  try dsimp only
  repeat' first | intro _ | with_reducible assumption | with_reducible apply Keeps.upd_pwr (subParts hA rfl)

theorem keeps_State_supplyOff {A : List Part} {s0 s : State} (hA : [.regs, .pwr] ⊆ A) (x1 : ℕ) (h : Keeps A s0 s) : Keeps A s0 (State.supplyOff s x1) := by
  unfold State.supplyOff
  try dsimp only
  repeat' first | intro _ | with_reducible assumption | with_reducible apply keeps_State_budFree (subParts hA rfl) | with_reducible apply keeps_State_setRaising (subParts hA rfl) | with_reducible apply keeps_State_setPwren (subParts hA rfl) | with_reducible apply keeps_State_setPgood (subParts hA rfl)

theorem keeps_State_clockStop {A : List Part} {s0 s : State} (hA : [.pwr] ⊆ A)  (h : Keeps A s0 s) : Keeps A s0 (State.clockStop s) := by
  unfold State.clockStop
  try dsimp only
  repeat' first | intro _ | with_reducible assumption | with_reducible apply Keeps.upd_pwr (subParts hA rfl)

theorem keeps_State_dropNow {A : List Part} {s0 s : State} (hA : [.regs, .dram, .l2, .grp, .armUndo, .chan, .srvAx, .srvCh, .srv, .lsr, .hoop, .port, .dom, .mot, .fbk, .cam, .pipe, .lgt, .strobe, .lane, .head, .dma, .dmaEng, .pci, .eth, .ddr, .intg, .pwr, .cave, .boot, .xbar, .free, .out] ⊆ A) (x1 : ℕ) (x2 : Bool) (h : Keeps A s0 s) : Keeps A s0 (State.dropNow s x1 x2) := by
  unfold State.dropNow
  try dsimp only
  repeat' first | intro _ | with_reducible assumption | with_reducible apply keeps_State_setFld (subParts hA rfl) | with_reducible apply keeps_State_lapseAll (subParts hA rfl) | with_reducible apply keeps_State_settlePower (subParts hA rfl) | with_reducible apply keeps_State_calDropped (subParts hA rfl) | with_reducible apply keeps_State_contentsLost (subParts hA rfl) | with_reducible apply keeps_State_intgLost (subParts hA rfl) | with_reducible apply keeps_State_supplyOff (subParts hA rfl) | with_reducible apply keeps_State_clockStop (subParts hA rfl)

theorem keeps_State_pgFail {A : List Part} {s0 s : State} (hA : [.regs, .dram, .l2, .grp, .armUndo, .chan, .srvAx, .srvCh, .srv, .lsr, .hoop, .port, .dom, .mot, .fbk, .cam, .pipe, .lgt, .strobe, .lane, .head, .dma, .dmaEng, .pci, .eth, .ddr, .intg, .pwr, .cave, .boot, .xbar, .free, .out] ⊆ A) (x1 : ℕ) (h : Keeps A s0 s) : Keeps A s0 (State.pgFail s x1) := by
  unfold State.pgFail
  try dsimp only
  repeat' first | intro _ | with_reducible assumption | with_reducible apply Keeps.ite | with_reducible apply keeps_State_setFld (subParts hA rfl) | with_reducible apply keeps_State_raise (subParts hA rfl) | with_reducible apply keeps_State_powerRecord (subParts hA rfl) | with_reducible apply keeps_State_settlePower (subParts hA rfl) | with_reducible apply keeps_State_setPwren (subParts hA rfl) | with_reducible apply keeps_State_setPgood (subParts hA rfl) | with_reducible apply keeps_State_supplyOff (subParts hA rfl) | with_reducible apply keeps_State_clockStop (subParts hA rfl) | with_reducible apply keeps_State_dropNow (subParts hA rfl)

theorem keeps_execPwrAlarmExpiry {A : List Part} {s0 s : State} (hA : [.regs, .dram, .grp, .dom, .pci, .ddr, .pwr, .out] ⊆ A)  (h : Keeps A s0 s) : KeepsR A s0 (execPwrAlarmExpiry s) := by
  unfold execPwrAlarmExpiry
  try dsimp only
  repeat' first | intro _ | with_reducible assumption | with_reducible apply KeepsR.of_next | with_reducible apply keeps_State_setReg (subParts hA rfl) | with_reducible apply keeps_State_wakeRun (subParts hA rfl) | with_reducible apply keeps_occurs (subParts hA rfl) | split | with_reducible apply Keeps.upd_pwr (subParts hA rfl)

theorem keeps_State_failAxis {A : List Part} {s0 s : State} (hA : [.regs, .dram, .grp, .chan, .srvAx, .srvCh, .lsr, .hoop, .port, .pci, .ddr, .cave, .xbar, .out] ⊆ A) (x1 : ℕ) (x2 : ℕ) (x3 : ℕ) (h : Keeps A s0 s) : Keeps A s0 (State.failAxis s x1 x2 x3) := by
  unfold State.failAxis
  try dsimp only
  repeat' first | intro _ | with_reducible assumption | with_reducible apply keeps_State_modAx (subParts hA rfl) | with_reducible apply keeps_State_freezeAxis (subParts hA rfl) | with_reducible apply keeps_State_integrityFault (subParts hA rfl)

theorem keeps_State_pdTake {A : List Part} {s0 s : State} (hA : [.regs] ⊆ A) (x1 : ℕ) (x2 : ℕ × Bool) (x3 : ℕ × Bool) (h : Keeps A s0 s) : Keeps A s0 (State.pdTake s x1 x2 x3) := by
  unfold State.pdTake
  try dsimp only
  repeat' first | intro _ | with_reducible assumption | with_reducible apply keeps_State_setReg (subParts hA rfl) | with_reducible apply keeps_State_satAdd (subParts hA rfl)

theorem keeps_State_meltBound {A : List Part} {s0 s : State} (hA : [.regs, .srvAx, .srvCh] ⊆ A) (x1 : ℕ) (h : Keeps A s0 s) : Keeps A s0 (State.meltBound s x1) := by
  unfold State.meltBound
  try dsimp only
  repeat' first | intro _ | with_reducible assumption | with_reducible apply Keeps.ite | with_reducible apply keeps_State_modSc (subParts hA rfl) | with_reducible apply keeps_State_setFlag (subParts hA rfl) | with_reducible apply keeps_State_freezeChan (subParts hA rfl) | split

theorem keeps_State_powerLoop {A : List Part} {s0 s : State} (hA : [.regs, .dram, .grp, .chan, .srvAx, .srvCh, .lsr, .hoop, .port, .pci, .ddr, .intg, .cave, .xbar, .out] ⊆ A) (x1 : ℕ) (x2 : ℕ) (x3 : ℕ) (h : Keeps A s0 s) : Keeps A s0 (State.powerLoop s x1 x2 x3) := by
  unfold State.powerLoop
  try dsimp only
  repeat' first | intro _ | with_reducible assumption | with_reducible apply Keeps.ite | with_reducible apply keeps_State_satAdd (subParts hA rfl) | with_reducible apply keeps_State_modLs (subParts hA rfl) | with_reducible apply keeps_State_logInstant (subParts hA rfl) | with_reducible apply keeps_State_readWords (subParts hA rfl) | with_reducible apply keeps_State_meltInstant (subParts hA rfl) | with_reducible apply keeps_State_loopFault (subParts hA rfl) | with_reducible apply keeps_State_convert (subParts hA rfl) | with_reducible apply keeps_State_pdTake (subParts hA rfl) | with_reducible apply keeps_State_meltBound (subParts hA rfl) | split | (refine Keeps.pairL (by assumption) ?_) | (refine Keeps.pair (by assumption) ?_)

theorem keeps_State_quality {A : List Part} {s0 s : State} (hA : [.regs, .free] ⊆ A) (x1 : ℕ) (h : Keeps A s0 s) : Keeps A s0 (State.quality s x1) := by
  unfold State.quality
  try dsimp only
  repeat' first | intro _ | with_reducible assumption | with_reducible apply keeps_State_setFld (subParts hA rfl) | with_reducible apply keeps_State_draw (subParts hA rfl) | split | (refine Keeps.pair (by assumption) ?_)

theorem keeps_State_trainPause {A : List Part} {s0 s : State} (hA : [.regs, .ddr, .free] ⊆ A) (x1 : ℕ) (h : Keeps A s0 s) : Keeps A s0 (State.trainPause s x1) := by
  unfold State.trainPause
  try dsimp only
  repeat' first | intro _ | with_reducible assumption | with_reducible apply keeps_State_setFld (subParts hA rfl) | with_reducible apply keeps_State_draw (subParts hA rfl) | with_reducible apply keeps_State_quality (subParts hA rfl) | split | with_reducible apply Keeps.upd_ddr (subParts hA rfl) | (refine Keeps.pair (by assumption) ?_)

theorem keeps_State_ddrBack {A : List Part} {s0 s : State} (hA : [.regs, .ddr, .free] ⊆ A)  (h : Keeps A s0 s) : Keeps A s0 (State.ddrBack s) := by
  unfold State.ddrBack
  try dsimp only
  repeat' first | intro _ | with_reducible assumption | with_reducible apply Keeps.ite | with_reducible apply Keeps.each | with_reducible apply keeps_State_setFlag (subParts hA rfl) | with_reducible apply keeps_State_initStart (subParts hA rfl) | with_reducible apply keeps_State_trainPause (subParts hA rfl)

theorem keeps_State_contentsBack {A : List Part} {s0 s : State} (hA : [.regs, .lane, .ddr, .boot, .free] ⊆ A) (x1 : ℕ) (h : Keeps A s0 s) : Keeps A s0 (State.contentsBack s x1) := by
  unfold State.contentsBack
  try dsimp only
  repeat' first | intro _ | with_reducible assumption | with_reducible apply keeps_State_lanesStart (subParts hA rfl) | with_reducible apply keeps_State_ddrBack (subParts hA rfl) | split | with_reducible apply Keeps.upd_boot (subParts hA rfl)

theorem keeps_execDomainUp {A : List Part} {s0 s : State} (hA : [.regs, .dram, .grp, .lane, .pci, .ddr, .intg, .pwr, .cave, .boot, .free, .out] ⊆ A) (x0 : Seen ℕ) (h : Keeps A s0 s) : KeepsR A s0 (execDomainUp x0 s) := by
  unfold execDomainUp
  try dsimp only
  repeat' first | intro _ | with_reducible assumption | with_reducible apply KeepsR.ite | with_reducible apply Keeps.ite | with_reducible apply KeepsR.of_next | with_reducible apply keeps_State_setFld (subParts hA rfl) | with_reducible apply keeps_State_settlePower (subParts hA rfl) | with_reducible apply keeps_onUnit (subParts hA rfl) | with_reducible apply keeps_State_bistAtPowerUp (subParts hA rfl) | with_reducible apply keeps_State_setRaising (subParts hA rfl) | with_reducible apply keeps_State_setPgood (subParts hA rfl) | with_reducible apply keeps_State_contentsBack (subParts hA rfl)

theorem keeps_State_takeAct {A : List Part} {s0 s : State} (hA : [.chan] ⊆ A) (x1 : ℕ) (x2 : Act → Bool) (x3 : Action → State → State) (hf : ∀ (a0 : Action) (a1 : State), Keeps A s0 a1 → Keeps A s0 (x3 a0 a1)) (h : Keeps A s0 s) : Keeps A s0 (State.takeAct s x1 x2 x3) := by
  unfold State.takeAct
  try dsimp only
  repeat' first | intro _ | with_reducible assumption | with_reducible apply hf | with_reducible apply Keeps.ite | with_reducible apply keeps_State_modCh (subParts hA rfl) | split

theorem keeps_execSigEmit {A : List Part} {s0 s : State} (hA : [.grp, .chan, .hoop, .port] ⊆ A) (x0 : ℕ) (h : Keeps A s0 s) : KeepsR A s0 (execSigEmit x0 s) := by
  unfold execSigEmit
  try dsimp only
  repeat' first | intro _ | with_reducible assumption | with_reducible apply KeepsR.of_next | with_reducible apply keeps_State_broadcast (subParts hA rfl) | with_reducible apply keeps_onUnit (subParts hA rfl) | with_reducible apply keeps_State_setEvent (subParts hA rfl) | with_reducible apply keeps_State_takeAct (subParts hA rfl) | split

theorem keeps_State_handLog {A : List Part} {s0 s : State} (hA : [.regs, .dram, .grp, .pci, .ddr, .out] ⊆ A) (x1 : ℕ) (x2 : Hand) (h : Keeps A s0 s) : Keeps A s0 (State.handLog s x1 x2) := by
  unfold State.handLog
  try dsimp only
  repeat' first | intro _ | with_reducible assumption | with_reducible apply keeps_State_post (subParts hA rfl)

theorem keeps_execHandRecordTimeout {A : List Part} {s0 s : State} (hA : [.regs, .dram, .grp, .chan, .pci, .ddr, .out] ⊆ A) (x0 : ℕ) (h : Keeps A s0 s) : KeepsR A s0 (execHandRecordTimeout x0 s) := by
  unfold execHandRecordTimeout
  try dsimp only
  repeat' first | intro _ | with_reducible assumption | with_reducible apply KeepsR.of_next | with_reducible apply keeps_State_modCh (subParts hA rfl) | with_reducible apply keeps_onUnit (subParts hA rfl) | with_reducible apply keeps_State_handLog (subParts hA rfl) | split

theorem keeps_execThermalRequest {A : List Part} {s0 s : State} (hA : [.grp, .hoop, .port, .pwr] ⊆ A)  (h : Keeps A s0 s) : KeepsR A s0 (execThermalRequest s) := by
  unfold execThermalRequest
  try dsimp only
  repeat' first | intro _ | with_reducible assumption | with_reducible apply KeepsR.of_next | with_reducible apply keeps_State_holdRise (subParts hA rfl) | with_reducible apply keeps_State_thermalSync (subParts hA rfl)

theorem keeps_execStartVote {A : List Part} {s0 s : State} (hA : [.grp, .hoop, .port] ⊆ A)  (h : Keeps A s0 s) : KeepsR A s0 (execStartVote s) := by
  unfold execStartVote
  try dsimp only
  repeat' first | intro _ | with_reducible assumption | with_reducible apply KeepsR.of_next | with_reducible apply keeps_State_sendGroup (subParts hA rfl) | with_reducible apply keeps_State_modGrp (subParts hA rfl) | with_reducible apply keeps_occurs (subParts hA rfl)

theorem keeps_execEvt {A : List Part} {s0 s : State} (hA : [.regs, .dram, .grp, .chan, .srvAx, .srvCh, .lsr, .hoop, .port, .pci, .ddr, .intg, .xbar, .out] ⊆ A) (x0 : ℕ) (h : Keeps A s0 s) : KeepsR A s0 (execEvt x0 s) := by
  unfold execEvt
  try dsimp only
  repeat' first | intro _ | with_reducible assumption | with_reducible apply KeepsR.of_next | with_reducible apply keeps_decodeOn (subParts hA rfl) | with_reducible apply keeps_State_point (subParts hA rfl)

theorem keeps_State_beginDecode {A : List Part} {s0 s : State} (hA : [.regs, .chan, .srvAx, .lsr] ⊆ A) (x1 : ℕ) (h : Keeps A s0 s) : Keeps A s0 (State.beginDecode s x1) := by
  unfold State.beginDecode
  try dsimp only
  repeat' first | intro _ | with_reducible assumption | with_reducible apply Keeps.ite | with_reducible apply Keeps.each | with_reducible apply keeps_State_setReg (subParts hA rfl) | with_reducible apply keeps_State_setFld (subParts hA rfl) | with_reducible apply keeps_State_modCh (subParts hA rfl) | with_reducible apply keeps_State_modLs (subParts hA rfl) | with_reducible apply keeps_State_modAx (subParts hA rfl) | split

theorem keeps_State_logGaps {A : List Part} {s0 s : State} (hA : [.lsr] ⊆ A)  (h : Keeps A s0 s) : Keeps A s0 (State.logGaps s) := by
  unfold State.logGaps
  try dsimp only
  repeat' first | intro _ | with_reducible assumption | with_reducible apply Keeps.each | with_reducible apply keeps_State_modLs (subParts hA rfl)

theorem keeps_execStartDecision {A : List Part} {s0 s : State} (hA : [.regs, .grp, .chan, .srvAx, .lsr, .pci, .cave, .out] ⊆ A)  (h : Keeps A s0 s) : KeepsR A s0 (execStartDecision s) := by
  unfold execStartDecision
  try dsimp only
  repeat' first | intro _ | with_reducible assumption | with_reducible apply KeepsR.ite | with_reducible apply Keeps.ite | with_reducible apply KeepsR.of_next | with_reducible apply Keeps.each | with_reducible apply keeps_State_setFld (subParts hA rfl) | with_reducible apply keeps_State_modGrp (subParts hA rfl) | with_reducible apply keeps_State_cavePost (subParts hA rfl) | with_reducible apply keeps_occurs (subParts hA rfl) | with_reducible apply keeps_State_beginDecode (subParts hA rfl) | with_reducible apply keeps_State_logGaps (subParts hA rfl)

theorem keeps_execPgoodLoss {A : List Part} {s0 s : State} (hA : [.regs, .dram, .l2, .grp, .armUndo, .chan, .srvAx, .srvCh, .srv, .lsr, .hoop, .port, .dom, .mot, .fbk, .cam, .pipe, .lgt, .strobe, .lane, .head, .dma, .dmaEng, .pci, .eth, .ddr, .intg, .pwr, .cave, .boot, .xbar, .free, .out] ⊆ A) (x0 : Seen ℕ) (h : Keeps A s0 s) : KeepsR A s0 (execPgoodLoss x0 s) := by
  unfold execPgoodLoss
  try dsimp only
  repeat' first | intro _ | with_reducible assumption | with_reducible apply KeepsR.ite | with_reducible apply Keeps.ite | with_reducible apply KeepsR.of_next | with_reducible apply keeps_onUnit (subParts hA rfl) | with_reducible apply keeps_State_pgFail (subParts hA rfl)

theorem keeps_execGyield {A : List Part} {s0 s : State} (hA : [.regs, .dram, .grp, .chan, .srvAx, .srvCh, .lsr, .hoop, .port, .pci, .ddr, .intg, .cave, .xbar, .out] ⊆ A) (x0 : ℕ) (h : Keeps A s0 s) : KeepsR A s0 (execGyield x0 s) := by
  unfold execGyield
  try dsimp only
  repeat' first | intro _ | with_reducible assumption | with_reducible apply KeepsR.ite | with_reducible apply Keeps.ite | with_reducible apply KeepsR.of_next | with_reducible apply keeps_State_modCh (subParts hA rfl) | with_reducible apply keeps_State_faultNow (subParts hA rfl) | with_reducible apply keeps_State_decodeFault (subParts hA rfl) | with_reducible apply keeps_decodeOn (subParts hA rfl) | with_reducible apply keeps_State_caveIntegrity (subParts hA rfl) | with_reducible apply keeps_State_cursorTo (subParts hA rfl) | split

theorem keeps_execHeadConfigRetry {A : List Part} {s0 s : State} (hA : [.regs, .head] ⊆ A) (x0 : ℕ) (h : Keeps A s0 s) : KeepsR A s0 (execHeadConfigRetry x0 s) := by
  unfold execHeadConfigRetry
  try dsimp only
  repeat' first | intro _ | with_reducible assumption | with_reducible apply KeepsR.ite | with_reducible apply Keeps.ite | with_reducible apply KeepsR.of_next | with_reducible apply keeps_State_modHd (subParts hA rfl) | with_reducible apply keeps_onUnit (subParts hA rfl) | with_reducible apply keeps_State_launchCfg (subParts hA rfl) | split

theorem keeps_execFocus {A : List Part} {s0 s : State} (hA : [.regs, .dram, .grp, .chan, .srvAx, .srvCh, .lsr, .hoop, .port, .pci, .ddr, .intg, .xbar, .out] ⊆ A) (x0 : ℕ) (h : Keeps A s0 s) : KeepsR A s0 (execFocus x0 s) := by
  unfold execFocus
  try dsimp only
  repeat' first | intro _ | with_reducible assumption | with_reducible apply KeepsR.ite | with_reducible apply Keeps.ite | with_reducible apply KeepsR.of_next | with_reducible apply keeps_decodeOn (subParts hA rfl) | with_reducible apply keeps_State_segment (subParts hA rfl)

theorem keeps_execDdrInitDone {A : List Part} {s0 s : State} (hA : [.regs, .dram, .grp, .pci, .ddr, .free, .out] ⊆ A) (x0 : List (List (List ℕ))) (h : Keeps A s0 s) : KeepsR A s0 (execDdrInitDone x0 s) := by
  unfold execDdrInitDone
  try dsimp only
  repeat' first | intro _ | with_reducible assumption | with_reducible apply KeepsR.ite | with_reducible apply Keeps.ite | with_reducible apply KeepsR.of_next | with_reducible apply Keeps.each | with_reducible apply keeps_State_setFld (subParts hA rfl) | with_reducible apply keeps_State_setFlag (subParts hA rfl) | with_reducible apply keeps_occurs (subParts hA rfl) | with_reducible apply keeps_State_calResult (subParts hA rfl) | with_reducible apply keeps_State_quality (subParts hA rfl) | with_reducible apply Keeps.upd_dram_ddr (subParts hA rfl) | with_reducible apply Keeps.upd_dram (subParts hA rfl) | with_reducible apply Keeps.upd_ddr (subParts hA rfl) | exact tabWf_tabSet _ _ _ _ (canon_dram (by assumption)) | with_reducible rfl | rfl

theorem keeps_State_jumpTo {A : List Part} {s0 s : State} (hA : [.regs, .dram, .grp, .chan, .srvAx, .srvCh, .lsr, .hoop, .port, .pci, .ddr, .xbar, .out] ⊆ A) (x1 : ℕ) (x2 : Loc) (h : Keeps A s0 s) : Keeps A s0 (State.jumpTo s x1 x2) := by
  unfold State.jumpTo
  try dsimp only
  repeat' first | intro _ | with_reducible assumption | with_reducible apply keeps_State_modCh (subParts hA rfl) | with_reducible apply keeps_State_settle (subParts hA rfl)

theorem keeps_execEndr {A : List Part} {s0 s : State} (hA : [.regs, .dram, .grp, .chan, .srvAx, .srvCh, .lsr, .hoop, .port, .pci, .ddr, .intg, .xbar, .out] ⊆ A) (x0 : ℕ) (h : Keeps A s0 s) : KeepsR A s0 (execEndr x0 s) := by
  unfold execEndr
  try dsimp only
  repeat' first | intro _ | with_reducible assumption | with_reducible apply KeepsR.ite | with_reducible apply Keeps.ite | with_reducible apply KeepsR.of_next | with_reducible apply keeps_State_modCh (subParts hA rfl) | with_reducible apply keeps_State_decodeFault (subParts hA rfl) | with_reducible apply keeps_decodeOn (subParts hA rfl) | with_reducible apply keeps_State_next (subParts hA rfl) | with_reducible apply keeps_State_jumpTo (subParts hA rfl) | split

theorem keeps_execStandstill {A : List Part} {s0 s : State} (hA : [.regs] ⊆ A) (x0 : ℕ) (h : Keeps A s0 s) : KeepsR A s0 (execStandstill x0 s) := by
  unfold execStandstill
  try dsimp only
  repeat' first | intro _ | with_reducible assumption | with_reducible apply KeepsR.ite | with_reducible apply Keeps.ite | with_reducible apply KeepsR.of_next | with_reducible apply keeps_State_setFlag (subParts hA rfl) | with_reducible apply keeps_onUnit (subParts hA rfl)

theorem keeps_State_releaseLatched {A : List Part} {s0 s : State} (hA : [.regs, .srvCh] ⊆ A) (x1 : ℕ) (h : Keeps A s0 s) : Keeps A s0 (State.releaseLatched s x1) := by
  unfold State.releaseLatched
  try dsimp only
  repeat' first | intro _ | with_reducible assumption | with_reducible apply Keeps.ite | with_reducible apply keeps_State_modSc (subParts hA rfl) | with_reducible apply keeps_State_setFlag (subParts hA rfl)

theorem keeps_State_complete {A : List Part} {s0 s : State} (hA : [.regs, .dram, .grp, .srvAx, .srvCh, .lsr, .pci, .ddr, .cave, .out] ⊆ A)  (h : Keeps A s0 s) : Keeps A s0 (State.complete s) := by
  unfold State.complete
  try dsimp only
  repeat' first | intro _ | with_reducible assumption | with_reducible apply Keeps.ite | with_reducible apply Keeps.each | with_reducible apply keeps_State_raise (subParts hA rfl) | with_reducible apply keeps_State_modGrp (subParts hA rfl) | with_reducible apply keeps_State_post (subParts hA rfl) | with_reducible apply keeps_State_enter (subParts hA rfl) | with_reducible apply keeps_State_cavePost (subParts hA rfl) | with_reducible apply keeps_State_syncShadow (subParts hA rfl) | with_reducible apply keeps_State_setGrpState (subParts hA rfl) | with_reducible apply keeps_State_releaseLatched (subParts hA rfl)

theorem keeps_State_leaveYield {A : List Part} {s0 s : State} (hA : [.regs, .dram, .grp, .chan, .srvAx, .srvCh, .lsr, .hoop, .port, .pci, .ddr, .xbar, .out] ⊆ A) (x1 : ℕ) (h : Keeps A s0 s) : Keeps A s0 (State.leaveYield s x1) := by
  unfold State.leaveYield
  try dsimp only
  repeat' first | intro _ | with_reducible assumption | with_reducible apply Keeps.ite | with_reducible apply keeps_State_modCh (subParts hA rfl) | with_reducible apply keeps_State_enter (subParts hA rfl) | with_reducible apply keeps_State_sendReadies (subParts hA rfl) | with_reducible apply keeps_State_releaseLatched (subParts hA rfl)

theorem keeps_State_passYield {A : List Part} {s0 s : State} (hA : [.regs, .dram, .grp, .chan, .srvAx, .srvCh, .lsr, .hoop, .port, .pci, .ddr, .cave, .xbar, .out] ⊆ A) (x1 : ℕ) (h : Keeps A s0 s) : Keeps A s0 (State.passYield s x1) := by
  unfold State.passYield
  try dsimp only
  repeat' first | intro _ | with_reducible assumption | with_reducible apply Keeps.ite | with_reducible apply Keeps.each | with_reducible apply keeps_State_modGrp (subParts hA rfl) | with_reducible apply keeps_State_abortLayer (subParts hA rfl) | with_reducible apply keeps_State_complete (subParts hA rfl) | with_reducible apply keeps_State_leaveYield (subParts hA rfl)

theorem keeps_execHoldRestart {A : List Part} {s0 s : State} (hA : [.regs, .dram, .grp, .chan, .srvAx, .srvCh, .lsr, .hoop, .port, .pci, .ddr, .cave, .xbar, .out] ⊆ A)  (h : Keeps A s0 s) : KeepsR A s0 (execHoldRestart s) := by
  unfold execHoldRestart
  try dsimp only
  repeat' first | intro _ | with_reducible assumption | with_reducible apply KeepsR.of_next | with_reducible apply keeps_State_setReg (subParts hA rfl) | with_reducible apply keeps_State_setFld (subParts hA rfl) | with_reducible apply keeps_State_raise (subParts hA rfl) | with_reducible apply keeps_State_modGrp (subParts hA rfl) | with_reducible apply keeps_State_post (subParts hA rfl) | with_reducible apply keeps_State_setGrpState (subParts hA rfl) | with_reducible apply keeps_occurs (subParts hA rfl) | with_reducible apply keeps_State_passYield (subParts hA rfl) | split

theorem keeps_execPset {A : List Part} {s0 s : State} (hA : [.regs, .dram, .grp, .chan, .srvAx, .srvCh, .lsr, .hoop, .port, .pci, .ddr, .intg, .xbar, .out] ⊆ A) (x0 : ℕ) (h : Keeps A s0 s) : KeepsR A s0 (execPset x0 s) := by
  unfold execPset
  try dsimp only
  repeat' first | intro _ | with_reducible assumption | with_reducible apply KeepsR.of_next | with_reducible apply keeps_decodeOn (subParts hA rfl) | with_reducible apply keeps_State_point (subParts hA rfl)

theorem keeps_execOvercurrent {A : List Part} {s0 s : State} (hA : [.regs, .dram, .grp, .mot, .pci, .ddr, .out] ⊆ A) (x0 : ℕ) (h : Keeps A s0 s) : KeepsR A s0 (execOvercurrent x0 s) := by
  unfold execOvercurrent
  try dsimp only
  repeat' first | intro _ | with_reducible assumption | with_reducible apply KeepsR.ite | with_reducible apply Keeps.ite | with_reducible apply KeepsR.of_next | with_reducible apply keeps_onUnit (subParts hA rfl) | with_reducible apply keeps_State_axisFault (subParts hA rfl)

theorem keeps_State_promote {A : List Part} {s0 s : State} (hA : [.regs, .dram, .grp, .pci, .ddr, .intg, .out] ⊆ A) (x1 : ℕ) (x2 : ℕ) (h : Keeps A s0 s) : Keeps A s0 (State.promote s x1 x2) := by
  unfold State.promote
  try dsimp only
  repeat' first | intro _ | with_reducible assumption | with_reducible apply keeps_State_setReg (subParts hA rfl) | with_reducible apply keeps_State_raise (subParts hA rfl) | with_reducible apply keeps_State_intgRecord (subParts hA rfl) | with_reducible apply keeps_State_setTrackers (subParts hA rfl) | split

theorem keeps_execBlockLock {A : List Part} {s0 s : State} (hA : [.regs, .port, .lane, .head, .pci, .out] ⊆ A) (x0 : Seen (List (BitVec 2))) (h : Keeps A s0 s) : KeepsR A s0 (execBlockLock x0 s) := by
  unfold execBlockLock
  try dsimp only
  repeat' first | intro _ | with_reducible assumption | with_reducible apply KeepsR.of_next | with_reducible apply keeps_onLane (subParts hA rfl) | with_reducible apply keeps_State_takeSyncs (subParts hA rfl)

theorem keeps_execWideWriteUpper {A : List Part} {s0 s : State} (hA : [.regs, .dram, .l2, .shadow, .staged, .grp, .armUndo, .chan, .srvAx, .srvCh, .srv, .lsr, .hoop, .port, .bulk, .dom, .time, .mot, .fbk, .cam, .pipe, .lgt, .strobe, .lane, .head, .dma, .dmaEng, .pci, .eth, .ddr, .intg, .cal, .pwr, .cave, .boot, .xbar, .free, .out] ⊆ A) (x0 : Source) (x1 : ℕ) (x2 : Word) (h : Keeps A s0 s) : KeepsR A s0 (execWideWriteUpper x0 x1 x2 s) := by
  unfold execWideWriteUpper
  try dsimp only
  repeat' first | intro _ | with_reducible assumption | with_reducible apply KeepsR.of_next | with_reducible apply keeps_onAddr (subParts hA rfl) | with_reducible apply keeps_State_busWrite (subParts hA rfl)

theorem keeps_State_probe {A : List Part} {s0 s : State} (hA : [.lane] ⊆ A) (x1 : ℕ) (h : Keeps A s0 s) : Keeps A s0 (State.probe s x1) := by
  unfold State.probe
  try dsimp only
  repeat' first | intro _ | with_reducible assumption | with_reducible apply keeps_State_modLn (subParts hA rfl)

theorem keeps_execEyeMeasure {A : List Part} {s0 s : State} (hA : [.regs, .lane] ⊆ A) (x0 : ℕ) (x1 : ℕ) (h : Keeps A s0 s) : KeepsR A s0 (execEyeMeasure x0 x1 s) := by
  unfold execEyeMeasure
  try dsimp only
  repeat' first | intro _ | with_reducible assumption | with_reducible apply KeepsR.ite | with_reducible apply Keeps.ite | with_reducible apply KeepsR.of_next | with_reducible apply keeps_State_setFld (subParts hA rfl) | with_reducible apply keeps_onLane (subParts hA rfl) | with_reducible apply keeps_State_probe (subParts hA rfl)

theorem keeps_State_bmeSet {A : List Part} {s0 s : State} (hA : [.regs, .pci] ⊆ A)  (h : Keeps A s0 s) : Keeps A s0 (State.bmeSet s) := by
  unfold State.bmeSet
  try dsimp only
  repeat' first | intro _ | with_reducible assumption | with_reducible apply keeps_State_setFlag (subParts hA rfl) | with_reducible apply Keeps.upd_pci (subParts hA rfl)

theorem keeps_execSyncDeadline {A : List Part} {s0 s : State} (hA : [.regs, .dram, .grp, .chan, .srvAx, .srvCh, .lsr, .hoop, .port, .pci, .ddr, .xbar, .out] ⊆ A) (x0 : ℕ) (h : Keeps A s0 s) : KeepsR A s0 (execSyncDeadline x0 s) := by
  unfold execSyncDeadline
  try dsimp only
  repeat' first | intro _ | with_reducible assumption | with_reducible apply KeepsR.ite | with_reducible apply Keeps.ite | with_reducible apply KeepsR.of_next | with_reducible apply keeps_State_modCh (subParts hA rfl) | with_reducible apply keeps_State_fault (subParts hA rfl) | with_reducible apply keeps_onUnit (subParts hA rfl) | split

theorem keeps_execEnv {A : List Part} {s0 s : State} (hA : [.regs, .dram, .grp, .chan, .srvAx, .srvCh, .lsr, .hoop, .port, .pci, .ddr, .intg, .xbar, .out] ⊆ A) (x0 : ℕ) (h : Keeps A s0 s) : KeepsR A s0 (execEnv x0 s) := by
  unfold execEnv
  try dsimp only
  repeat' first | intro _ | with_reducible assumption | with_reducible apply KeepsR.of_next | with_reducible apply keeps_decodeOn (subParts hA rfl) | with_reducible apply keeps_State_point (subParts hA rfl)

theorem keeps_execAxisArithOff {A : List Part} {s0 s : State} (hA : [.regs, .srvAx, .pci, .out] ⊆ A) (x0 : ℕ) (h : Keeps A s0 s) : KeepsR A s0 (execAxisArithOff x0 s) := by
  unfold execAxisArithOff
  try dsimp only
  repeat' first | intro _ | with_reducible assumption | with_reducible apply KeepsR.ite | with_reducible apply Keeps.ite | with_reducible apply KeepsR.of_next | with_reducible apply keeps_State_raise (subParts hA rfl) | with_reducible apply keeps_State_setFlag (subParts hA rfl) | with_reducible apply keeps_onUnit (subParts hA rfl) | with_reducible apply keeps_State_axisOff (subParts hA rfl)

theorem keeps_execNop {A : List Part} {s0 s : State} (hA : [.regs, .dram, .grp, .chan, .srvAx, .srvCh, .lsr, .hoop, .port, .pci, .ddr, .intg, .xbar, .out] ⊆ A) (x0 : ℕ) (h : Keeps A s0 s) : KeepsR A s0 (execNop x0 s) := by
  unfold execNop
  try dsimp only
  repeat' first | intro _ | with_reducible assumption | with_reducible apply KeepsR.of_next | with_reducible apply keeps_decodeOn (subParts hA rfl) | with_reducible apply keeps_State_next (subParts hA rfl)

theorem keeps_execStaleTrip {A : List Part} {s0 s : State} (hA : [.regs, .dram, .grp, .srvAx, .srvCh, .lsr, .pci, .ddr, .out] ⊆ A) (x0 : ℕ) (h : Keeps A s0 s) : KeepsR A s0 (execStaleTrip x0 s) := by
  unfold execStaleTrip
  try dsimp only
  repeat' first | intro _ | with_reducible assumption | with_reducible apply KeepsR.ite | with_reducible apply Keeps.ite | with_reducible apply KeepsR.of_next | with_reducible apply keeps_onUnit (subParts hA rfl) | with_reducible apply keeps_State_trip (subParts hA rfl)

theorem keeps_execLrdyQualified {A : List Part} {s0 s : State} (hA : [.regs, .dram, .grp, .chan, .srvAx, .srvCh, .lsr, .hoop, .port, .pci, .ddr, .xbar, .out] ⊆ A) (x0 : ℕ) (x1 : Bool) (h : Keeps A s0 s) : KeepsR A s0 (execLrdyQualified x0 x1 s) := by
  unfold execLrdyQualified
  try dsimp only
  repeat' first | intro _ | with_reducible assumption | with_reducible apply KeepsR.ite | with_reducible apply Keeps.ite | with_reducible apply KeepsR.of_next | with_reducible apply keeps_State_setFlag (subParts hA rfl) | with_reducible apply keeps_onUnit (subParts hA rfl) | with_reducible apply keeps_State_rdyLow (subParts hA rfl)

theorem keeps_State_setSlot {A : List Part} {s0 s : State} (hA : [.cave] ⊆ A) (x1 : ℕ) (x2 : List Byte) (h : Keeps A s0 s) : Keeps A s0 (State.setSlot s x1 x2) := by
  unfold State.setSlot
  exact Keeps.upd_die (subParts hA (by decide)) h (fun k => tabWf_storeBytes _ _ (canon_die k))

theorem keeps_execLibraryLoadDone {A : List Part} {s0 s : State} (hA : [.regs, .chan] ⊆ A) (x0 : ℕ) (h : Keeps A s0 s) : KeepsR A s0 (execLibraryLoadDone x0 s) := by
  unfold execLibraryLoadDone
  try dsimp only
  repeat' first | intro _ | with_reducible assumption | with_reducible apply KeepsR.ite | with_reducible apply Keeps.ite | with_reducible apply KeepsR.of_next | with_reducible apply keeps_State_setFld (subParts hA rfl) | with_reducible apply keeps_State_setFlag (subParts hA rfl) | with_reducible apply keeps_State_modCh (subParts hA rfl) | with_reducible apply keeps_onUnit (subParts hA rfl)

theorem keeps_onDma {A : List Part} {s0 s : State} (hA : [.dma, .dmaEng, .out] ⊆ A) (x0 : ℕ) (x2 : State → State) (hf : ∀ (a0 : State), Keeps A s0 a0 → Keeps A s0 (x2 a0)) (h : Keeps A s0 s) : KeepsR A s0 (onDma x0 s x2) := by
  unfold onDma
  try dsimp only
  repeat' first | intro _ | with_reducible assumption | with_reducible apply hf | with_reducible apply KeepsR.of_next | with_reducible apply keeps_State_readEngine (subParts hA rfl) | with_reducible apply keeps_onUnit (subParts hA rfl)

theorem keeps_execGsel {A : List Part} {s0 s : State} (hA : [.regs, .dram, .grp, .chan, .srvAx, .srvCh, .lsr, .hoop, .port, .pci, .ddr, .intg, .xbar, .out] ⊆ A) (x0 : ℕ) (h : Keeps A s0 s) : KeepsR A s0 (execGsel x0 s) := by
  unfold execGsel
  try dsimp only
  repeat' first | intro _ | with_reducible assumption | with_reducible apply KeepsR.of_next | with_reducible apply keeps_decodeOn (subParts hA rfl) | with_reducible apply keeps_State_point (subParts hA rfl)

theorem keeps_State_enterPm {A : List Part} {s0 s : State} (hA : [.regs, .port, .lane, .head, .pci, .out] ⊆ A) (x1 : ℕ) (x2 : ℕ) (h : Keeps A s0 s) : Keeps A s0 (State.enterPm s x1 x2) := by
  unfold State.enterPm
  try dsimp only
  repeat' first | intro _ | with_reducible assumption | with_reducible apply Keeps.ite | with_reducible apply keeps_State_setFlag (subParts hA rfl) | with_reducible apply keeps_State_setLane (subParts hA rfl) | with_reducible apply keeps_State_leaveActive (subParts hA rfl)

theorem keeps_execPmRequestReceived {A : List Part} {s0 s : State} (hA : [.regs, .port, .lane, .head, .pci, .out] ⊆ A) (x0 : ℕ) (x1 : Block) (h : Keeps A s0 s) : KeepsR A s0 (execPmRequestReceived x0 x1 s) := by
  unfold execPmRequestReceived
  try dsimp only
  repeat' first | intro _ | with_reducible assumption | with_reducible apply KeepsR.ite | with_reducible apply Keeps.ite | with_reducible apply KeepsR.of_next | with_reducible apply keeps_State_raise (subParts hA rfl) | with_reducible apply keeps_onLane (subParts hA rfl) | with_reducible apply keeps_State_sendBlocks (subParts hA rfl) | with_reducible apply keeps_State_onBlock (subParts hA rfl) | with_reducible apply keeps_State_countPm (subParts hA rfl) | with_reducible apply keeps_State_enterPm (subParts hA rfl) | split | (refine Keeps.pair (by assumption) ?_)

theorem keeps_State_modMask {A : List Part} {s0 s : State} (hA : [.srvAx] ⊆ A) (x1 : ℕ) (x2 : ℕ) (x3 : Axis → Axis) (h : Keeps A s0 s) : Keeps A s0 (State.modMask s x1 x2 x3) := by
  unfold State.modMask
  try dsimp only
  repeat' first | intro _ | with_reducible assumption | with_reducible apply Keeps.each | with_reducible apply keeps_State_modAx (subParts hA rfl)

theorem keeps_State_applyLearn {A : List Part} {s0 s : State} (hA : [.srvAx] ⊆ A) (x1 : ℕ) (x2 : Action) (h : Keeps A s0 s) : Keeps A s0 (State.applyLearn s x1 x2) := by
  unfold State.applyLearn
  try dsimp only
  repeat' first | intro _ | with_reducible assumption | with_reducible apply keeps_State_modMask (subParts hA rfl) | split

theorem keeps_State_grantNext {A : List Part} {s0 s : State} (hA : [.regs, .pci, .pwr, .out] ⊆ A) (x1 : ℕ) (h : Keeps A s0 s) : Keeps A s0 (State.grantNext s x1).2 := by
  unfold State.grantNext
  try dsimp only
  repeat' first | intro _ | with_reducible assumption | with_reducible apply Keeps.ite | with_reducible apply keeps_State_setFld (subParts hA rfl) | with_reducible apply keeps_State_raise (subParts hA rfl) | with_reducible apply keeps_State_budSync (subParts hA rfl) | with_reducible apply keeps_State_setWaiting (subParts hA rfl) | with_reducible apply keeps_State_setGranted (subParts hA rfl) | split

theorem keeps_State_track {A : List Part} {s0 s : State} (hA : [.regs, .dram, .grp, .pci, .ddr, .intg, .out] ⊆ A) (x1 : ℕ) (x2 : ℕ) (h : Keeps A s0 s) : Keeps A s0 (State.track s x1 x2) := by
  unfold State.track
  try dsimp only
  repeat' first | intro _ | with_reducible assumption | with_reducible apply Keeps.ite | with_reducible apply keeps_State_satAdd (subParts hA rfl) | with_reducible apply keeps_State_setTrackers (subParts hA rfl) | with_reducible apply keeps_State_promote (subParts hA rfl) | split

theorem keeps_execScrubRead {A : List Part} {s0 s : State} (hA : [.regs, .dram, .grp, .pci, .ddr, .intg, .out] ⊆ A) (x0 : ℕ) (x1 : ℕ) (x2 : ScrubFinding) (h : Keeps A s0 s) : KeepsR A s0 (execScrubRead x0 x1 x2 s) := by
  unfold execScrubRead
  try dsimp only
  repeat' first | intro _ | with_reducible assumption | with_reducible apply KeepsR.ite | with_reducible apply Keeps.ite | with_reducible apply KeepsR.of_next | with_reducible exact KeepsR.fault _ | with_reducible apply keeps_State_raise (subParts hA rfl) | with_reducible apply keeps_State_satAdd (subParts hA rfl) | with_reducible apply keeps_occurs (subParts hA rfl) | with_reducible apply keeps_State_detectUe (subParts hA rfl) | with_reducible apply keeps_State_setWord (subParts hA rfl) | with_reducible apply keeps_State_track (subParts hA rfl)

theorem keeps_State_powerAct {A : List Part} {s0 s : State} (hA : [.regs, .chan, .lsr] ⊆ A) (x1 : ℕ) (x2 : ℕ) (x3 : Action) (h : Keeps A s0 s) : Keeps A s0 (State.powerAct s x1 x2 x3) := by
  unfold State.powerAct
  try dsimp only
  repeat' first | intro _ | with_reducible assumption | with_reducible apply keeps_State_setReg (subParts hA rfl) | with_reducible apply keeps_State_setFld (subParts hA rfl) | with_reducible apply keeps_State_modCh (subParts hA rfl) | with_reducible apply keeps_State_modLs (subParts hA rfl) | split

theorem keeps_execFreeCadenceSample {A : List Part} {s0 s : State} (hA : [.regs, .dram, .grp, .chan, .srvAx, .srvCh, .lsr, .hoop, .port, .pci, .ddr, .intg, .cave, .xbar, .out] ⊆ A) (x0 : ℕ) (x1 : ℕ) (x2 : ℕ) (h : Keeps A s0 s) : KeepsR A s0 (execFreeCadenceSample x0 x1 x2 s) := by
  unfold execFreeCadenceSample
  try dsimp only
  repeat' first | intro _ | with_reducible assumption | with_reducible apply KeepsR.ite | with_reducible apply Keeps.ite | with_reducible apply KeepsR.of_next | with_reducible apply keeps_State_modLs (subParts hA rfl) | with_reducible apply keeps_onUnit (subParts hA rfl) | with_reducible apply keeps_State_readWords (subParts hA rfl) | with_reducible apply keeps_State_loopFault (subParts hA rfl) | with_reducible apply keeps_State_convert (subParts hA rfl) | with_reducible apply keeps_State_pdTake (subParts hA rfl) | split | (refine Keeps.pair (by assumption) ?_)

theorem keeps_State_debounce {A : List Part} {s0 s : State} (hA : [.regs] ⊆ A) (x1 : ℕ) (x2 : Debounce) (x3 : Bool) (x4 : Bool) (h : Keeps A s0 s) : Keeps A s0 (State.debounce s x1 x2 x3 x4).2.2 := by
  unfold State.debounce
  try dsimp only
  repeat' first | intro _ | with_reducible assumption | with_reducible apply Keeps.ite | with_reducible apply keeps_State_satAdd (subParts hA rfl) | split

theorem keeps_State_limitSample {A : List Part} {s0 s : State} (hA : [.regs, .mot, .fbk] ⊆ A) (x1 : ℕ) (x2 : Bool) (x3 : Bool) (h : Keeps A s0 s) : Keeps A s0 (State.limitSample s x1 x2 x3) := by
  unfold State.limitSample
  try dsimp only
  repeat' first | intro _ | with_reducible assumption | with_reducible apply Keeps.ite | with_reducible apply Keeps.each | with_reducible apply keeps_State_setFlag (subParts hA rfl) | with_reducible apply keeps_State_modFb (subParts hA rfl) | with_reducible apply keeps_State_modMo (subParts hA rfl) | with_reducible apply keeps_State_debounce (subParts hA rfl) | split | (refine Keeps.pair3 (by assumption) ?_)

theorem keeps_execLimitQualified {A : List Part} {s0 s : State} (hA : [.regs, .mot, .fbk] ⊆ A) (x0 : ℕ) (x1 : Bool) (x2 : Bool) (h : Keeps A s0 s) : KeepsR A s0 (execLimitQualified x0 x1 x2 s) := by
  unfold execLimitQualified
  try dsimp only
  repeat' first | intro _ | with_reducible assumption | with_reducible apply KeepsR.of_next | with_reducible apply keeps_onUnit (subParts hA rfl) | with_reducible apply keeps_State_limitSample (subParts hA rfl)

theorem keeps_State_retarget {A : List Part} {s0 s : State} (hA : [.regs, .mot] ⊆ A) (x1 : ℕ) (x2 : ℕ) (x3 : ℤ) (h : Keeps A s0 s) : Keeps A s0 (State.retarget s x1 x2 x3) := by
  unfold State.retarget
  try dsimp only
  repeat' first | intro _ | with_reducible assumption | with_reducible apply keeps_State_setFld (subParts hA rfl) | with_reducible apply keeps_State_setFlag (subParts hA rfl) | with_reducible apply keeps_State_modMo (subParts hA rfl) | with_reducible apply keeps_State_setAxisState (subParts hA rfl)

theorem keeps_State_moveAct {A : List Part} {s0 s : State} (hA : [.regs, .dram, .grp, .chan, .srvAx, .srvCh, .lsr, .hoop, .port, .mot, .pci, .ddr, .xbar, .out] ⊆ A) (x1 : ℕ) (x2 : Act) (h : Keeps A s0 s) : Keeps A s0 (State.moveAct s x1 x2) := by
  unfold State.moveAct
  try dsimp only
  repeat' first | intro _ | with_reducible assumption | with_reducible apply Keeps.ite | with_reducible apply keeps_State_runFault (subParts hA rfl) | with_reducible apply keeps_State_retarget (subParts hA rfl) | split

theorem keeps_State_channelMoves {A : List Part} {s0 s : State} (hA : [.regs, .dram, .grp, .chan, .srvAx, .srvCh, .lsr, .hoop, .port, .mot, .pci, .ddr, .xbar, .out] ⊆ A) (x1 : ℕ) (h : Keeps A s0 s) : Keeps A s0 (State.channelMoves s x1) := by
  unfold State.channelMoves
  try dsimp only
  repeat' first | intro _ | with_reducible assumption | with_reducible apply Keeps.ite | with_reducible apply Keeps.foldl | with_reducible apply keeps_State_modCh (subParts hA rfl) | with_reducible apply keeps_State_moveAct (subParts hA rfl) | split

theorem keeps_State_gatePoint {A : List Part} {s0 s : State} (hA : [.regs, .dram, .grp, .chan, .srvAx, .srvCh, .lsr, .hoop, .port, .pci, .ddr, .xbar, .out] ⊆ A) (x1 : ℕ) (x2 : ℕ) (x3 : List ℕ) (x4 : Act) (x5 : ℕ) (x6 : ℕ × ℕ) (x7 : Option ℕ) (h : Keeps A s0 s) : Keeps A s0 (State.gatePoint s x1 x2 x3 x4 x5 x6 x7) := by
  unfold State.gatePoint
  try dsimp only
  repeat' first | intro _ | with_reducible assumption | with_reducible apply Keeps.ite | with_reducible apply keeps_State_modCh (subParts hA rfl) | with_reducible apply keeps_State_decodeFault (subParts hA rfl) | with_reducible apply keeps_State_point (subParts hA rfl)

theorem keeps_execLoff {A : List Part} {s0 s : State} (hA : [.regs, .dram, .grp, .chan, .srvAx, .srvCh, .lsr, .hoop, .port, .pci, .ddr, .intg, .xbar, .out] ⊆ A) (x0 : ℕ) (h : Keeps A s0 s) : KeepsR A s0 (execLoff x0 s) := by
  unfold execLoff
  try dsimp only
  repeat' first | intro _ | with_reducible assumption | with_reducible apply KeepsR.of_next | with_reducible apply keeps_decodeOn (subParts hA rfl) | with_reducible apply keeps_State_gatePoint (subParts hA rfl)

theorem keeps_State_powerActs {A : List Part} {s0 s : State} (hA : [.regs, .chan, .lsr] ⊆ A) (x1 : ℕ) (h : Keeps A s0 s) : Keeps A s0 (State.powerActs s x1) := by
  unfold State.powerActs
  try dsimp only
  repeat' first | intro _ | with_reducible assumption | with_reducible apply Keeps.ite | with_reducible apply Keeps.foldl | with_reducible apply keeps_State_modCh (subParts hA rfl) | with_reducible apply keeps_State_modLs (subParts hA rfl) | with_reducible apply keeps_State_powerAct (subParts hA rfl) | split

theorem keeps_execDramRequest {A : List Part} {s0 s : State} (hA : [.regs, .dram, .grp, .lsr, .pci, .ddr, .out] ⊆ A) (x0 : ℕ) (h : Keeps A s0 s) : KeepsR A s0 (execDramRequest x0 s) := by
  unfold execDramRequest
  try dsimp only
  repeat' first | intro _ | with_reducible assumption | with_reducible apply KeepsR.ite | with_reducible apply Keeps.ite | with_reducible apply KeepsR.of_next | with_reducible apply keeps_State_emit (subParts hA rfl) | with_reducible apply keeps_onUnit (subParts hA rfl) | with_reducible apply keeps_State_logWrite (subParts hA rfl) | split | with_reducible apply Keeps.upd_ddr (subParts hA rfl)

theorem keeps_execWait {A : List Part} {s0 s : State} (hA : [.regs, .dram, .grp, .chan, .srvAx, .srvCh, .lsr, .hoop, .port, .pci, .ddr, .intg, .xbar, .out] ⊆ A) (x0 : ℕ) (h : Keeps A s0 s) : KeepsR A s0 (execWait x0 s) := by
  unfold execWait
  try dsimp only
  repeat' first | intro _ | with_reducible assumption | with_reducible apply KeepsR.ite | with_reducible apply Keeps.ite | with_reducible apply KeepsR.of_next | with_reducible apply keeps_State_decodeFault (subParts hA rfl) | with_reducible apply keeps_decodeOn (subParts hA rfl) | with_reducible apply keeps_State_cursorTo (subParts hA rfl)

theorem keeps_State_lineUe {A : List Part} {s0 s : State} (hA : [.regs, .dram, .grp, .pci, .ddr, .intg, .out] ⊆ A) (x1 : ℕ) (h : Keeps A s0 s) : Keeps A s0 (State.lineUe s x1) := by
  unfold State.lineUe
  try dsimp only
  repeat' first | intro _ | with_reducible assumption | with_reducible apply keeps_State_setReg (subParts hA rfl) | with_reducible apply keeps_State_satAdd (subParts hA rfl) | with_reducible apply keeps_State_detectUe (subParts hA rfl) | with_reducible apply Keeps.upd_ddr (subParts hA rfl)

theorem keeps_execAlignReceived {A : List Part} {s0 s : State} (hA : [.regs, .port] ⊆ A) (x0 : ℕ) (x1 : Block) (h : Keeps A s0 s) : KeepsR A s0 (execAlignReceived x0 x1 s) := by
  unfold execAlignReceived
  try dsimp only
  repeat' first | intro _ | with_reducible assumption | with_reducible apply KeepsR.ite | with_reducible apply Keeps.ite | with_reducible apply KeepsR.of_next | with_reducible apply keeps_State_modPt (subParts hA rfl) | with_reducible apply keeps_onLane (subParts hA rfl) | with_reducible apply keeps_State_portUp (subParts hA rfl) | with_reducible apply keeps_State_onBlock (subParts hA rfl) | split

theorem keeps_State_skewFigure {A : List Part} {s0 s : State} (hA : [.regs, .head] ⊆ A) (x1 : ℕ) (h : Keeps A s0 s) : Keeps A s0 (State.skewFigure s x1) := by
  unfold State.skewFigure
  try dsimp only
  repeat' first | intro _ | with_reducible assumption | with_reducible apply Keeps.ite | with_reducible apply keeps_State_setReg (subParts hA rfl) | with_reducible apply keeps_State_modHd (subParts hA rfl) | split

theorem keeps_execChannelReady {A : List Part} {s0 s : State} (hA : [.regs, .dram, .grp, .srvAx, .lsr, .pci, .ddr, .out] ⊆ A) (x0 : ℕ) (h : Keeps A s0 s) : KeepsR A s0 (execChannelReady x0 s) := by
  unfold execChannelReady
  try dsimp only
  repeat' first | intro _ | with_reducible assumption | with_reducible apply KeepsR.ite | with_reducible apply Keeps.ite | with_reducible apply KeepsR.of_next | with_reducible apply keeps_State_enter (subParts hA rfl) | with_reducible apply keeps_onUnit (subParts hA rfl)

theorem keeps_execPmeTurnOff {A : List Part} {s0 s : State} (hA : [.regs, .dram, .grp, .dom, .pci, .ddr, .pwr, .out] ⊆ A)  (h : Keeps A s0 s) : KeepsR A s0 (execPmeTurnOff s) := by
  unfold execPmeTurnOff
  try dsimp only
  repeat' first | intro _ | with_reducible assumption | with_reducible apply KeepsR.of_next | with_reducible apply keeps_State_revote (subParts hA rfl) | with_reducible apply Keeps.upd_pci (subParts hA rfl)

theorem keeps_State_fieldFault {A : List Part} {s0 s : State} (hA : [.regs, .dram, .grp, .chan, .srvAx, .srvCh, .lsr, .hoop, .port, .pci, .ddr, .xbar, .out] ⊆ A) (x1 : ℕ) (x2 : ℕ) (x3 : Segment) (h : Keeps A s0 s) : Keeps A s0 (State.fieldFault s x1 x2 x3) := by
  unfold State.fieldFault
  try dsimp only
  repeat' first | intro _ | with_reducible assumption | with_reducible apply keeps_State_modCh (subParts hA rfl) | with_reducible apply keeps_State_runFault (subParts hA rfl) | with_reducible apply keeps_State_correct (subParts hA rfl)

theorem keeps_execTrainBlockReceived {A : List Part} {s0 s : State} (hA : [.regs, .port, .lane, .head, .pci, .out] ⊆ A) (x0 : Seen Block) (h : Keeps A s0 s) : KeepsR A s0 (execTrainBlockReceived x0 s) := by
  unfold execTrainBlockReceived
  try dsimp only
  repeat' first | intro _ | with_reducible assumption | with_reducible apply KeepsR.ite | with_reducible apply Keeps.ite | with_reducible apply KeepsR.of_next | with_reducible apply keeps_onLane (subParts hA rfl) | with_reducible apply keeps_State_retrain (subParts hA rfl) | with_reducible apply keeps_State_onBlock (subParts hA rfl)

theorem keeps_execPramp {A : List Part} {s0 s : State} (hA : [.regs, .dram, .grp, .chan, .srvAx, .srvCh, .lsr, .hoop, .port, .pci, .ddr, .intg, .xbar, .out] ⊆ A) (x0 : ℕ) (h : Keeps A s0 s) : KeepsR A s0 (execPramp x0 s) := by
  unfold execPramp
  try dsimp only
  repeat' first | intro _ | with_reducible assumption | with_reducible apply KeepsR.of_next | with_reducible apply keeps_decodeOn (subParts hA rfl) | with_reducible apply keeps_State_point (subParts hA rfl)

theorem keeps_execSkewQualityWrite {A : List Part} {s0 s : State} (hA : [.regs, .head] ⊆ A) (x0 : ℕ) (x1 : ℕ) (h : Keeps A s0 s) : KeepsR A s0 (execSkewQualityWrite x0 x1 s) := by
  unfold execSkewQualityWrite
  try dsimp only
  repeat' first | intro _ | with_reducible assumption | with_reducible apply KeepsR.of_next | with_reducible apply Keeps.each | with_reducible apply keeps_onUnit (subParts hA rfl) | with_reducible apply keeps_State_skewFigure (subParts hA rfl)

theorem keeps_State_takeVs {A : List Part} {s0 s : State} (hA : [.cam] ⊆ A) (x1 : ℕ) (x2 : Bool) (x3 : Bool) (h : Keeps A s0 s) : Keeps A s0 (State.takeVs s x1 x2 x3).2 := by
  unfold State.takeVs
  try dsimp only
  repeat' first | intro _ | with_reducible assumption | with_reducible apply keeps_State_modCm (subParts hA rfl) | split

theorem keeps_execFrameEndAtPort {A : List Part} {s0 s : State} (hA : [.regs, .dram, .cam, .pipe, .pci, .ddr, .free, .out] ⊆ A) (x0 : Seen Bool) (h : Keeps A s0 s) : KeepsR A s0 (execFrameEndAtPort x0 s) := by
  unfold execFrameEndAtPort
  try dsimp only
  repeat' first | intro _ | with_reducible assumption | with_reducible apply KeepsR.ite | with_reducible apply Keeps.ite | with_reducible apply KeepsR.of_next | with_reducible apply keeps_State_setFld (subParts hA rfl) | with_reducible apply keeps_onUnit (subParts hA rfl) | with_reducible apply keeps_State_dropFrame (subParts hA rfl) | with_reducible apply keeps_State_modLastFrame (subParts hA rfl) | with_reducible apply keeps_State_takeVs (subParts hA rfl) | split | (refine Keeps.pair (by assumption) ?_)

theorem keeps_State_repTerm {A : List Part} {s0 s : State} (hA : [.regs, .dram, .grp, .chan, .srvAx, .srvCh, .lsr, .hoop, .port, .pci, .ddr, .intg, .cave, .xbar, .out] ⊆ A) (x1 : ℕ) (x2 : ℕ) (x3 : Bool) (h : Keeps A s0 s) : Keeps A s0 (State.repTerm s x1 x2 x3).2 := by
  unfold State.repTerm
  try dsimp only
  repeat' first | intro _ | with_reducible assumption | with_reducible apply Keeps.ite | with_reducible apply keeps_State_readWords (subParts hA rfl) | with_reducible apply keeps_State_wordStore (subParts hA rfl) | with_reducible apply keeps_State_integrityFault (subParts hA rfl) | split | (refine Keeps.pair (by assumption) ?_)

theorem keeps_State_runAxis {A : List Part} {s0 s : State} (hA : [.regs, .dram, .grp, .chan, .srvAx, .srvCh, .lsr, .hoop, .port, .pci, .ddr, .intg, .cave, .xbar, .out] ⊆ A) (x1 : ℕ) (x2 : ℕ) (x3 : Bool) (h : Keeps A s0 s) : Keeps A s0 (State.runAxis s x1 x2 x3) := by
  unfold State.runAxis
  try dsimp only
  repeat' first | intro _ | with_reducible assumption | with_reducible apply Keeps.ite | with_reducible apply keeps_State_setFld (subParts hA rfl) | with_reducible apply keeps_State_setFlag (subParts hA rfl) | with_reducible apply keeps_State_modAx (subParts hA rfl) | with_reducible apply keeps_State_setSfld (subParts hA rfl) | with_reducible apply keeps_State_hiddenUe (subParts hA rfl) | with_reducible apply keeps_State_readWords (subParts hA rfl) | with_reducible apply keeps_State_takeForced (subParts hA rfl) | with_reducible apply keeps_State_detectResidue (subParts hA rfl) | with_reducible apply keeps_State_failAxis (subParts hA rfl) | with_reducible apply keeps_State_repTerm (subParts hA rfl) | split | (refine Keeps.pair (by assumption) ?_)

theorem keeps_State_latchSample {A : List Part} {s0 s : State} (hA : [.regs, .srvCh, .pci, .out] ⊆ A) (x1 : ℕ) (h : Keeps A s0 s) : Keeps A s0 (State.latchSample s x1) := by
  unfold State.latchSample
  try dsimp only
  repeat' first | intro _ | with_reducible assumption | with_reducible apply Keeps.ite | with_reducible apply Keeps.each | with_reducible apply keeps_State_raise (subParts hA rfl) | with_reducible apply keeps_State_satAdd (subParts hA rfl) | with_reducible apply keeps_State_modSc (subParts hA rfl) | with_reducible apply keeps_State_setFlag (subParts hA rfl) | with_reducible apply keeps_State_setSfld (subParts hA rfl) | split

theorem keeps_State_advancePeriod {A : List Part} {s0 s : State} (hA : [.srvAx] ⊆ A) (x1 : ℕ) (h : Keeps A s0 s) : Keeps A s0 (State.advancePeriod s x1) := by
  unfold State.advancePeriod
  try dsimp only
  repeat' first | intro _ | with_reducible assumption | with_reducible apply keeps_State_modAx (subParts hA rfl) | split

theorem keeps_State_applyMode {A : List Part} {s0 s : State} (hA : [.regs, .srvAx] ⊆ A) (x1 : ℕ) (h : Keeps A s0 s) : Keeps A s0 (State.applyMode s x1) := by
  unfold State.applyMode
  try dsimp only
  repeat' first | intro _ | with_reducible assumption | with_reducible apply Keeps.ite | with_reducible apply keeps_State_setFld (subParts hA rfl) | with_reducible apply keeps_State_modAx (subParts hA rfl) | split

theorem keeps_State_applyGsel {A : List Part} {s0 s : State} (hA : [.srvAx] ⊆ A) (x1 : ℕ) (x2 : Action) (h : Keeps A s0 s) : Keeps A s0 (State.applyGsel s x1 x2) := by
  unfold State.applyGsel
  try dsimp only
  repeat' first | intro _ | with_reducible assumption | with_reducible apply Keeps.ite | with_reducible apply keeps_State_modMask (subParts hA rfl) | split

theorem keeps_State_applyPeriod {A : List Part} {s0 s : State} (hA : [.srvAx] ⊆ A) (x1 : ℕ) (x2 : Action) (h : Keeps A s0 s) : Keeps A s0 (State.applyPeriod s x1 x2) := by
  unfold State.applyPeriod
  try dsimp only
  repeat' first | intro _ | with_reducible assumption | with_reducible apply Keeps.ite | with_reducible apply keeps_State_modMask (subParts hA rfl) | split

theorem keeps_State_applyPending {A : List Part} {s0 s : State} (hA : [.regs, .chan, .srvAx] ⊆ A) (x1 : ℕ) (h : Keeps A s0 s) : Keeps A s0 (State.applyPending s x1) := by
  unfold State.applyPending
  try dsimp only
  repeat' first | intro _ | with_reducible assumption | with_reducible apply Keeps.ite | with_reducible apply Keeps.each | with_reducible apply Keeps.foldl | with_reducible apply keeps_State_modCh (subParts hA rfl) | with_reducible apply keeps_State_applyLearn (subParts hA rfl) | with_reducible apply keeps_State_applyMode (subParts hA rfl) | with_reducible apply keeps_State_applyGsel (subParts hA rfl) | with_reducible apply keeps_State_applyPeriod (subParts hA rfl) | split

theorem keeps_State_runChannel {A : List Part} {s0 s : State} (hA : [.regs, .dram, .grp, .chan, .srvAx, .srvCh, .lsr, .hoop, .port, .pci, .ddr, .intg, .cave, .xbar, .out] ⊆ A) (x1 : ℕ) (h : Keeps A s0 s) : Keeps A s0 (State.runChannel s x1) := by
  unfold State.runChannel
  try dsimp only
  repeat' first | intro _ | with_reducible assumption | with_reducible apply Keeps.each | with_reducible apply keeps_State_runAxis (subParts hA rfl) | with_reducible apply keeps_State_latchSample (subParts hA rfl) | with_reducible apply keeps_State_advancePeriod (subParts hA rfl) | with_reducible apply keeps_State_applyPending (subParts hA rfl)

theorem keeps_State_raiseStep {A : List Part} {s0 s : State} (hA : [.pwr] ⊆ A) (x1 : ℕ) (h : Keeps A s0 s) : Keeps A s0 (State.raiseStep s x1) := by
  unfold State.raiseStep
  try dsimp only
  repeat' first | intro _ | with_reducible assumption | with_reducible apply keeps_State_setRaising (subParts hA rfl) | with_reducible apply keeps_State_setPwren (subParts hA rfl) | with_reducible apply Keeps.upd_pwr (subParts hA rfl)

theorem keeps_execStrobeNorise {A : List Part} {s0 s : State} (hA : [.regs, .dram, .grp, .strobe, .pci, .ddr, .pwr, .out] ⊆ A) (x0 : Seen ℕ) (h : Keeps A s0 s) : KeepsR A s0 (execStrobeNorise x0 s) := by
  unfold execStrobeNorise
  try dsimp only
  repeat' first | intro _ | with_reducible assumption | with_reducible apply KeepsR.ite | with_reducible apply Keeps.ite | with_reducible apply KeepsR.of_next | with_reducible apply keeps_State_modSb (subParts hA rfl) | with_reducible apply keeps_State_strobeFault (subParts hA rfl) | with_reducible apply keeps_onStrobeEvent (subParts hA rfl)

theorem keeps_execBudgetGrant {A : List Part} {s0 s : State} (hA : [.regs, .lgt, .pci, .pwr, .out] ⊆ A) (x0 : ℕ) (h : Keeps A s0 s) : KeepsR A s0 (execBudgetGrant x0 s) := by
  unfold execBudgetGrant
  try dsimp only
  repeat' first | intro _ | with_reducible assumption | with_reducible apply KeepsR.ite | with_reducible apply Keeps.ite | with_reducible apply KeepsR.of_next | with_reducible apply keeps_onUnit (subParts hA rfl) | with_reducible apply keeps_State_grantee (subParts hA rfl) | with_reducible apply keeps_State_grantNext (subParts hA rfl) | split | (refine Keeps.pair (by assumption) ?_)

theorem keeps_State_withHand {A : List Part} {s0 s : State} (hA : ([] : List Part) ⊆ A) (x1 : ℕ) (x2 : Hand → Bool) (x3 : Hand → State → State) (hf : ∀ (a0 : Hand) (a1 : State), Keeps A s0 a1 → Keeps A s0 (x3 a0 a1)) (h : Keeps A s0 s) : Keeps A s0 (State.withHand s x1 x2 x3) := by
  unfold State.withHand
  try dsimp only
  repeat' first | intro _ | with_reducible assumption | with_reducible apply hf | split

theorem keeps_State_chooseBlock {A : List Part} {s0 s : State} (hA : [.regs, .dram, .grp, .chan, .srvAx, .srvCh, .lsr, .hoop, .port, .pci, .ddr, .xbar, .out] ⊆ A) (x1 : ℕ) (x2 : Hand) (x3 : Bool) (h : Keeps A s0 s) : Keeps A s0 (State.chooseBlock s x1 x2 x3) := by
  unfold State.chooseBlock
  try dsimp only
  repeat' first | intro _ | with_reducible assumption | with_reducible apply Keeps.ite | with_reducible apply keeps_State_modCh (subParts hA rfl) | with_reducible apply keeps_State_settle (subParts hA rfl) | split

theorem keeps_State_fallBack {A : List Part} {s0 s : State} (hA : [.regs, .dram, .grp, .hoop, .port, .pci, .ddr, .xbar, .out] ⊆ A) (x1 : ℕ) (x2 : Hand) (x3 : ℕ) (x4 : ℕ) (h : Keeps A s0 s) : Keeps A s0 (State.fallBack s x1 x2 x3 x4) := by
  unfold State.fallBack
  try dsimp only
  repeat' first | intro _ | with_reducible assumption | with_reducible apply Keeps.ite | with_reducible apply keeps_State_sendToken (subParts hA rfl) | with_reducible apply keeps_State_handRecord (subParts hA rfl)

theorem keeps_execHandDecision {A : List Part} {s0 s : State} (hA : [.regs, .dram, .grp, .chan, .srvAx, .srvCh, .lsr, .hoop, .port, .pci, .ddr, .xbar, .out] ⊆ A) (x0 : ℕ) (h : Keeps A s0 s) : KeepsR A s0 (execHandDecision x0 s) := by
  unfold execHandDecision
  try dsimp only
  repeat' first | intro _ | with_reducible assumption | with_reducible apply KeepsR.ite | with_reducible apply Keeps.ite | with_reducible apply KeepsR.of_next | with_reducible apply keeps_State_modLs (subParts hA rfl) | with_reducible apply keeps_onUnit (subParts hA rfl) | with_reducible apply keeps_State_putHand (subParts hA rfl) | with_reducible apply keeps_State_withHand (subParts hA rfl) | with_reducible apply keeps_State_chooseBlock (subParts hA rfl) | with_reducible apply keeps_State_fallBack (subParts hA rfl) | split

theorem keeps_execPauseReceived {A : List Part} {s0 s : State} (hA : [.eth] ⊆ A) (x0 : ℕ) (x1 : ℕ) (h : Keeps A s0 s) : KeepsR A s0 (execPauseReceived x0 x1 s) := by
  unfold execPauseReceived
  try dsimp only
  repeat' first | intro _ | with_reducible assumption | with_reducible apply KeepsR.ite | with_reducible apply Keeps.ite | with_reducible apply KeepsR.of_next | with_reducible apply keeps_onUnit (subParts hA rfl) | with_reducible apply keeps_State_modEt (subParts hA rfl)

theorem keeps_State_dmaWritten {A : List Part} {s0 s : State} (hA : [.regs, .dram, .dma, .pci, .ddr, .out] ⊆ A) (x1 : ℕ) (x2 : DmaDesc) (h : Keeps A s0 s) : Keeps A s0 (State.dmaWritten s x1 x2) := by
  unfold State.dmaWritten
  try dsimp only
  repeat' first | intro _ | with_reducible assumption | with_reducible apply Keeps.ite | with_reducible apply keeps_State_emit (subParts hA rfl) | with_reducible apply keeps_State_modDc (subParts hA rfl) | with_reducible apply keeps_State_dmaFinish (subParts hA rfl)

theorem keeps_State_dmaRdErr {A : List Part} {s0 s : State} (hA : [.regs, .dram, .dma, .pci, .ddr, .out] ⊆ A) (x1 : ℕ) (x2 : DmaDesc) (h : Keeps A s0 s) : Keeps A s0 (State.dmaRdErr s x1 x2) := by
  unfold State.dmaRdErr
  try dsimp only
  repeat' first | intro _ | with_reducible assumption | with_reducible apply Keeps.ite | with_reducible apply keeps_State_modDc (subParts hA rfl) | with_reducible apply keeps_State_dmaWritten (subParts hA rfl)

theorem keeps_State_readFailed {A : List Part} {s0 s : State} (hA : [.regs, .dram, .dma, .pci, .ddr, .out] ⊆ A) (x1 : ℕ) (x2 : DmaDesc) (h : Keeps A s0 s) : Keeps A s0 (State.readFailed s x1 x2) := by
  unfold State.readFailed
  try dsimp only
  repeat' first | intro _ | with_reducible assumption | with_reducible apply Keeps.ite | with_reducible apply keeps_State_dmaFinish (subParts hA rfl) | with_reducible apply keeps_State_dmaRdErr (subParts hA rfl)

theorem keeps_execDmaReadCompletion {A : List Part} {s0 s : State} (hA : [.regs, .dram, .dma, .dmaEng, .pci, .ddr, .out] ⊆ A) (x0 : ℕ) (x1 : ReadResult) (h : Keeps A s0 s) : KeepsR A s0 (execDmaReadCompletion x0 x1 s) := by
  unfold execDmaReadCompletion
  try dsimp only
  repeat' first | intro _ | with_reducible assumption | with_reducible apply KeepsR.ite | with_reducible apply Keeps.ite | with_reducible apply KeepsR.of_next | with_reducible apply keeps_State_modDc (subParts hA rfl) | with_reducible apply keeps_State_dmaFinish (subParts hA rfl) | with_reducible apply keeps_onDma (subParts hA rfl) | with_reducible apply keeps_State_readFailed (subParts hA rfl) | split

theorem keeps_State_sendNext {A : List Part} {s0 s : State} (hA : [.regs, .cam, .out] ⊆ A) (x1 : ℕ) (h : Keeps A s0 s) : Keeps A s0 (State.sendNext s x1) := by
  unfold State.sendNext
  try dsimp only
  repeat' first | intro _ | with_reducible assumption | with_reducible apply keeps_State_modCm (subParts hA rfl) | with_reducible apply keeps_State_i2cStart (subParts hA rfl) | split

theorem keeps_execI2cDone {A : List Part} {s0 s : State} (hA : [.regs, .cam, .pci, .out] ⊆ A) (x0 : ℕ) (x1 : ℕ) (x2 : Word) (h : Keeps A s0 s) : KeepsR A s0 (execI2cDone x0 x1 x2 s) := by
  unfold execI2cDone
  try dsimp only
  repeat' first | intro _ | with_reducible assumption | with_reducible apply KeepsR.ite | with_reducible apply Keeps.ite | with_reducible apply KeepsR.of_next | with_reducible apply keeps_State_setReg (subParts hA rfl) | with_reducible apply keeps_State_setFld (subParts hA rfl) | with_reducible apply keeps_State_raise (subParts hA rfl) | with_reducible apply keeps_State_setFlag (subParts hA rfl) | with_reducible apply keeps_onUnit (subParts hA rfl) | with_reducible apply keeps_State_modCm (subParts hA rfl) | with_reducible apply keeps_State_camSync (subParts hA rfl) | with_reducible apply keeps_State_sendNext (subParts hA rfl) | split

theorem keeps_execWideReadUpper {A : List Part} {s0 s : State} (hA : [.regs, .dram, .shadow, .readData, .grp, .pci, .ddr, .intg, .free, .out] ⊆ A) (x0 : Source) (x1 : ℕ) (h : Keeps A s0 s) : KeepsR A s0 (execWideReadUpper x0 x1 s) := by
  unfold execWideReadUpper
  try dsimp only
  repeat' first | intro _ | with_reducible assumption | with_reducible apply KeepsR.of_next | with_reducible apply keeps_onAddr (subParts hA rfl) | with_reducible apply keeps_State_busRead (subParts hA rfl) | split | with_reducible apply Keeps.upd_readData (subParts hA rfl) | (refine Keeps.pair (by assumption) ?_)

theorem keeps_execTrigPulse {A : List Part} {s0 s : State} (hA : [.regs, .chan, .cam, .strobe, .pci, .out] ⊆ A) (x0 : ℕ) (h : Keeps A s0 s) : KeepsR A s0 (execTrigPulse x0 s) := by
  unfold execTrigPulse
  try dsimp only
  repeat' first | intro _ | with_reducible assumption | with_reducible apply KeepsR.ite | with_reducible apply Keeps.ite | with_reducible apply KeepsR.of_next | with_reducible apply keeps_onUnit (subParts hA rfl) | with_reducible apply keeps_State_trigger (subParts hA rfl) | with_reducible apply keeps_State_strobePulse (subParts hA rfl) | with_reducible apply keeps_State_takeAct (subParts hA rfl) | split

theorem keeps_execWakeBall {A : List Part} {s0 s : State} (hA : [.regs, .dram, .l2, .shadow, .staged, .readData, .grp, .armUndo, .chan, .srvAx, .srvCh, .srv, .lsr, .hoop, .port, .bulk, .dom, .time, .mot, .fbk, .cam, .pipe, .lgt, .strobe, .lane, .head, .dma, .dmaEng, .pci, .eth, .ddr, .intg, .cal, .pwr, .hk, .cave, .boot, .xbar, .out] ⊆ A)  (h : Keeps A s0 s) : KeepsR A s0 (execWakeBall s) := by
  unfold execWakeBall
  try dsimp only
  repeat' first | intro _ | with_reducible assumption | with_reducible apply KeepsR.ite | with_reducible apply Keeps.ite | with_reducible apply KeepsR.of_next | with_reducible apply keeps_State_setFld (subParts hA rfl) | with_reducible apply keeps_State_wakeRun (subParts hA rfl) | with_reducible apply keeps_State_powerUp (subParts hA rfl) | with_reducible apply Keeps.upd_pwr (subParts hA rfl)

theorem keeps_execHoldTimeout {A : List Part} {s0 s : State} (hA : [.regs, .dram, .grp, .pci, .ddr, .pwr, .out] ⊆ A)  (h : Keeps A s0 s) : KeepsR A s0 (execHoldTimeout s) := by
  unfold execHoldTimeout
  try dsimp only
  repeat' first | intro _ | with_reducible assumption | with_reducible apply KeepsR.ite | with_reducible apply Keeps.ite | with_reducible apply KeepsR.of_next | with_reducible apply Keeps.foldl | with_reducible apply keeps_State_setFld (subParts hA rfl) | with_reducible apply keeps_State_raise (subParts hA rfl) | with_reducible apply keeps_State_powerRecord (subParts hA rfl) | with_reducible apply keeps_State_settlePower (subParts hA rfl) | with_reducible apply keeps_occurs (subParts hA rfl) | split | with_reducible apply Keeps.upd_pwr (subParts hA rfl)

theorem keeps_execHoopPortTeardown {A : List Part} {s0 s : State} (hA : [.regs, .port, .lane, .head, .pci, .out] ⊆ A) (x0 : ℕ) (h : Keeps A s0 s) : KeepsR A s0 (execHoopPortTeardown x0 s) := by
  unfold execHoopPortTeardown
  try dsimp only
  repeat' first | intro _ | with_reducible assumption | with_reducible apply KeepsR.ite | with_reducible apply Keeps.ite | with_reducible apply KeepsR.of_next | with_reducible apply keeps_onUnit (subParts hA rfl) | with_reducible apply keeps_State_portDown (subParts hA rfl)

theorem keeps_execDomainRaise {A : List Part} {s0 s : State} (hA : [.regs, .pci, .pwr, .out] ⊆ A) (x0 : ℕ) (h : Keeps A s0 s) : KeepsR A s0 (execDomainRaise x0 s) := by
  unfold execDomainRaise
  try dsimp only
  repeat' first | intro _ | with_reducible assumption | with_reducible apply KeepsR.ite | with_reducible apply Keeps.ite | with_reducible apply KeepsR.of_next | with_reducible apply keeps_onUnit (subParts hA rfl) | with_reducible apply keeps_State_budRequest (subParts hA rfl) | with_reducible apply keeps_State_setRaising (subParts hA rfl) | with_reducible apply keeps_State_raiseStep (subParts hA rfl)

theorem keeps_State_caveWrite {A : List Part} {s0 s : State} (hA : [.regs, .pci, .cave, .out] ⊆ A) (x1 : CaveRec) (h : Keeps A s0 s) : Keeps A s0 (State.caveWrite s x1) := by
  unfold State.caveWrite
  try dsimp only
  repeat' first | intro _ | with_reducible assumption | with_reducible apply Keeps.ite | with_reducible apply keeps_State_setReg (subParts hA rfl) | with_reducible apply keeps_State_setFld (subParts hA rfl) | with_reducible apply keeps_State_raise (subParts hA rfl) | with_reducible apply keeps_State_satAdd (subParts hA rfl) | with_reducible apply keeps_State_setSlot (subParts hA rfl) | with_reducible apply Keeps.upd_cave (subParts hA rfl) | with_reducible rfl | rfl

theorem keeps_execTrainTimer {A : List Part} {s0 s : State} (hA : [.regs, .lane, .free] ⊆ A) (x0 : ℕ) (h : Keeps A s0 s) : KeepsR A s0 (execTrainTimer x0 s) := by
  unfold execTrainTimer
  try dsimp only
  repeat' first | intro _ | with_reducible assumption | with_reducible apply KeepsR.ite | with_reducible apply Keeps.ite | with_reducible apply KeepsR.of_next | with_reducible apply keeps_State_setLane (subParts hA rfl) | with_reducible apply keeps_onLane (subParts hA rfl) | with_reducible apply keeps_State_adapt (subParts hA rfl)

theorem keeps_State_reachYield {A : List Part} {s0 s : State} (hA : [.regs, .dram, .grp, .chan, .srvAx, .srvCh, .lsr, .hoop, .port, .pci, .ddr, .xbar, .out] ⊆ A) (x1 : ℕ) (x2 : ℕ) (h : Keeps A s0 s) : Keeps A s0 (State.reachYield s x1 x2) := by
  unfold State.reachYield
  try dsimp only
  repeat' first | intro _ | with_reducible assumption | with_reducible apply Keeps.ite | with_reducible apply Keeps.each | with_reducible apply keeps_State_setFld (subParts hA rfl) | with_reducible apply keeps_State_modGrp (subParts hA rfl) | with_reducible apply keeps_State_modAx (subParts hA rfl) | with_reducible apply keeps_State_enter (subParts hA rfl) | with_reducible apply keeps_State_firstFault (subParts hA rfl) | with_reducible apply keeps_State_runFault (subParts hA rfl)

theorem keeps_State_bar2Miss {A : List Part} {s0 s : State} (hA : [.regs, .pci, .out] ⊆ A) (x1 : ℕ) (h : Keeps A s0 s) : Keeps A s0 (State.bar2Miss s x1) := by
  unfold State.bar2Miss
  try dsimp only
  repeat' first | intro _ | with_reducible assumption | with_reducible apply keeps_State_setFld (subParts hA rfl) | with_reducible apply keeps_State_raise (subParts hA rfl)

theorem keeps_execPowerInstant {A : List Part} {s0 s : State} (hA : [.regs, .dram, .grp, .chan, .srvAx, .srvCh, .lsr, .hoop, .port, .pci, .ddr, .intg, .cave, .xbar, .out] ⊆ A) (x0 : ℕ) (x1 : ℕ) (x2 : ℕ) (h : Keeps A s0 s) : KeepsR A s0 (execPowerInstant x0 x1 x2 s) := by
  unfold execPowerInstant
  try dsimp only
  repeat' first | intro _ | with_reducible assumption | with_reducible apply KeepsR.ite | with_reducible apply Keeps.ite | with_reducible apply KeepsR.of_next | with_reducible apply keeps_onUnit (subParts hA rfl) | with_reducible apply keeps_State_hiddenUe (subParts hA rfl) | with_reducible apply keeps_State_readWords (subParts hA rfl) | with_reducible apply keeps_State_takeForced (subParts hA rfl) | with_reducible apply keeps_State_detectResidue (subParts hA rfl) | with_reducible apply keeps_State_loopFault (subParts hA rfl) | with_reducible apply keeps_State_powerLoop (subParts hA rfl) | with_reducible apply keeps_State_powerActs (subParts hA rfl) | split | (refine Keeps.pair (by assumption) ?_)

theorem keeps_State_caveCommit {A : List Part} {s0 s : State} (hA : [.regs, .pci, .cave, .out] ⊆ A) (x1 : CaveRec) (h : Keeps A s0 s) : Keeps A s0 (State.caveCommit s x1) := by
  unfold State.caveCommit
  try dsimp only
  repeat' first | intro _ | with_reducible assumption | with_reducible apply keeps_State_setFld (subParts hA rfl) | with_reducible apply keeps_State_caveWrite (subParts hA rfl) | with_reducible apply Keeps.upd_cave (subParts hA rfl) | with_reducible rfl | rfl

theorem keeps_onBar2 {A : List Part} {s0 s : State} (hA : ([] : List Part) ⊆ A) (x0 : ℕ) (x1 : ℕ) (x3 : State → State) (hf : ∀ (a0 : State), Keeps A s0 a0 → Keeps A s0 (x3 a0)) (h : Keeps A s0 s) : KeepsR A s0 (onBar2 x0 x1 s x3) := by
  unfold onBar2
  try dsimp only
  repeat' first | intro _ | with_reducible assumption | with_reducible apply hf | with_reducible apply KeepsR.ite | with_reducible apply Keeps.ite | with_reducible apply KeepsR.of_next | with_reducible exact KeepsR.fault _

theorem keeps_State_computeRestart {A : List Part} {s0 s : State} (hA : [.grp, .lsr] ⊆ A)  (h : Keeps A s0 s) : Keeps A s0 (State.computeRestart s) := by
  unfold State.computeRestart
  try dsimp only
  repeat' first | intro _ | with_reducible assumption | with_reducible apply Keeps.ite | with_reducible apply keeps_State_modGrp (subParts hA rfl) | with_reducible apply keeps_State_logGaps (subParts hA rfl)

theorem keeps_State_idStart {A : List Part} {s0 s : State} (hA : [.regs, .srv, .free] ⊆ A)  (h : Keeps A s0 s) : Keeps A s0 (State.idStart s) := by
  unfold State.idStart
  try dsimp only
  repeat' first | intro _ | with_reducible assumption | with_reducible apply Keeps.ite | with_reducible apply keeps_State_setFld (subParts hA rfl) | with_reducible apply keeps_State_setFlag (subParts hA rfl) | with_reducible apply keeps_State_draw (subParts hA rfl) | split | with_reducible apply Keeps.upd_srv (subParts hA rfl) | (refine Keeps.pair (by assumption) ?_)

theorem keeps_State_servoPeriod {A : List Part} {s0 s : State} (hA : [.regs, .dram, .grp, .chan, .srvAx, .srvCh, .srv, .lsr, .hoop, .port, .pci, .ddr, .intg, .cave, .xbar, .free, .out] ⊆ A)  (h : Keeps A s0 s) : Keeps A s0 (State.servoPeriod s) := by
  unfold State.servoPeriod
  try dsimp only
  repeat' first | intro _ | with_reducible assumption | with_reducible apply Keeps.ite | with_reducible apply Keeps.each | with_reducible apply keeps_State_driveSum (subParts hA rfl) | with_reducible apply keeps_State_idCapture (subParts hA rfl) | with_reducible apply keeps_State_axisOff (subParts hA rfl) | with_reducible apply keeps_State_learnNow (subParts hA rfl) | with_reducible apply keeps_State_learnPeriod (subParts hA rfl) | with_reducible apply keeps_State_runChannel (subParts hA rfl) | with_reducible apply keeps_State_idStart (subParts hA rfl) | with_reducible apply Keeps.upd_srv (subParts hA rfl)

theorem keeps_execClientVote {A : List Part} {s0 s : State} (hA : [.regs, .dram, .grp, .dom, .pci, .ddr, .pwr, .out] ⊆ A) (x0 : ℕ) (x1 : ℕ) (h : Keeps A s0 s) : KeepsR A s0 (execClientVote x0 x1 s) := by
  unfold execClientVote
  try dsimp only
  repeat' first | intro _ | with_reducible assumption | with_reducible apply KeepsR.ite | with_reducible apply Keeps.ite | with_reducible apply KeepsR.of_next | with_reducible exact KeepsR.fault _ | with_reducible apply keeps_State_revote (subParts hA rfl)

theorem keeps_execPpsInEdge {A : List Part} {s0 s : State} (hA : [.regs, .dom, .time, .pci, .out] ⊆ A)  (h : Keeps A s0 s) : KeepsR A s0 (execPpsInEdge s) := by
  unfold execPpsInEdge
  try dsimp only
  repeat' first | intro _ | with_reducible assumption | with_reducible apply KeepsR.ite | with_reducible apply Keeps.ite | with_reducible apply KeepsR.of_next | with_reducible apply Keeps.each | with_reducible apply keeps_State_setFld (subParts hA rfl) | with_reducible apply keeps_State_raise (subParts hA rfl) | with_reducible apply keeps_occurs (subParts hA rfl) | with_reducible apply keeps_State_sample (subParts hA rfl)

theorem keeps_execMpl {A : List Part} {s0 s : State} (hA : [.regs, .dram, .grp, .chan, .srvAx, .srvCh, .lsr, .hoop, .port, .pci, .ddr, .intg, .xbar, .out] ⊆ A) (x0 : ℕ) (h : Keeps A s0 s) : KeepsR A s0 (execMpl x0 s) := by
  unfold execMpl
  try dsimp only
  repeat' first | intro _ | with_reducible assumption | with_reducible apply KeepsR.of_next | with_reducible apply keeps_decodeOn (subParts hA rfl) | with_reducible apply keeps_State_point (subParts hA rfl)

theorem keeps_execBulkTimeout {A : List Part} {s0 s : State} (hA : [.regs, .bulk, .pci, .out] ⊆ A) (x0 : ℕ) (h : Keeps A s0 s) : KeepsR A s0 (execBulkTimeout x0 s) := by
  unfold execBulkTimeout
  try dsimp only
  repeat' first | intro _ | with_reducible assumption | with_reducible apply KeepsR.ite | with_reducible apply Keeps.ite | with_reducible apply KeepsR.of_next | with_reducible apply keeps_onUnit (subParts hA rfl) | with_reducible apply keeps_State_bulkEnd (subParts hA rfl)

theorem keeps_execHalt {A : List Part} {s0 s : State} (hA : [.regs, .dram, .grp, .chan, .srvAx, .srvCh, .lsr, .hoop, .port, .pci, .ddr, .intg, .xbar, .out] ⊆ A) (x0 : ℕ) (h : Keeps A s0 s) : KeepsR A s0 (execHalt x0 s) := by
  unfold execHalt
  try dsimp only
  repeat' first | intro _ | with_reducible assumption | with_reducible apply KeepsR.ite | with_reducible apply Keeps.ite | with_reducible apply KeepsR.of_next | with_reducible apply keeps_State_modCh (subParts hA rfl) | with_reducible apply keeps_State_enter (subParts hA rfl) | with_reducible apply keeps_State_decodeFault (subParts hA rfl) | with_reducible apply keeps_decodeOn (subParts hA rfl) | with_reducible apply keeps_State_next (subParts hA rfl) | split

theorem keeps_execCall {A : List Part} {s0 s : State} (hA : [.regs, .dram, .grp, .chan, .srvAx, .srvCh, .lsr, .hoop, .port, .pci, .ddr, .intg, .xbar, .out] ⊆ A) (x0 : ℕ) (h : Keeps A s0 s) : KeepsR A s0 (execCall x0 s) := by
  unfold execCall
  try dsimp only
  repeat' first | intro _ | with_reducible assumption | with_reducible apply KeepsR.ite | with_reducible apply Keeps.ite | with_reducible apply KeepsR.of_next | with_reducible apply keeps_State_modCh (subParts hA rfl) | with_reducible apply keeps_State_decodeFault (subParts hA rfl) | with_reducible apply keeps_decodeOn (subParts hA rfl) | with_reducible apply keeps_State_jumpTo (subParts hA rfl)

theorem keeps_State_noteArrival {A : List Part} {s0 s : State} (hA : [.head] ⊆ A) (x1 : ℕ) (h : Keeps A s0 s) : Keeps A s0 (State.noteArrival s x1) := by
  unfold State.noteArrival
  try dsimp only
  repeat' first | intro _ | with_reducible assumption | with_reducible apply keeps_State_modHd (subParts hA rfl)

theorem keeps_execServoPeriodBoundary {A : List Part} {s0 s : State} (hA : [.regs, .dram, .grp, .chan, .srvAx, .srvCh, .srv, .lsr, .hoop, .port, .pci, .ddr, .intg, .cave, .xbar, .free, .out] ⊆ A)  (h : Keeps A s0 s) : KeepsR A s0 (execServoPeriodBoundary s) := by
  unfold execServoPeriodBoundary
  try dsimp only
  repeat' first | intro _ | with_reducible assumption | with_reducible apply KeepsR.ite | with_reducible apply Keeps.ite | with_reducible apply KeepsR.of_next | with_reducible apply keeps_occurs (subParts hA rfl) | with_reducible apply keeps_State_addSum (subParts hA rfl) | with_reducible apply keeps_State_servoPeriod (subParts hA rfl)

theorem keeps_State_putOutput {A : List Part} {s0 s : State} (hA : [.dram, .ddr] ⊆ A) (x1 : ℕ) (x2 : ℕ) (x3 : Frame) (x4 : Blob) (x5 : ℕ) (h : Keeps A s0 s) : Keeps A s0 (State.putOutput s x1 x2 x3 x4 x5) := by
  unfold State.putOutput
  try dsimp only
  repeat' first | intro _ | with_reducible assumption | with_reducible apply keeps_State_writeDram (subParts hA rfl) | with_reducible apply keeps_State_putRows (subParts hA rfl) | split

theorem keeps_State_jumpGate {A : List Part} {s0 s : State} (hA : [.lsr] ⊆ A) (x1 : ℕ) (h : Keeps A s0 s) : Keeps A s0 (State.jumpGate s x1) := by
  unfold State.jumpGate
  try dsimp only
  repeat' first | intro _ | with_reducible assumption | with_reducible apply Keeps.ite | with_reducible apply keeps_State_modLs (subParts hA rfl)

theorem keeps_execEvaluationInstant {A : List Part} {s0 s : State} (hA : [.regs, .dram, .grp, .chan, .srvAx, .srvCh, .lsr, .hoop, .port, .pci, .ddr, .intg, .cave, .xbar, .out] ⊆ A) (x0 : ℕ) (h : Keeps A s0 s) : KeepsR A s0 (execEvaluationInstant x0 s) := by
  unfold execEvaluationInstant
  try dsimp only
  repeat' first | intro _ | with_reducible assumption | with_reducible apply KeepsR.ite | with_reducible apply Keeps.ite | with_reducible apply KeepsR.of_next | with_reducible apply keeps_State_modCh (subParts hA rfl) | with_reducible apply keeps_onUnit (subParts hA rfl) | with_reducible apply keeps_State_correct (subParts hA rfl) | with_reducible apply keeps_State_setpointAt (subParts hA rfl) | with_reducible apply keeps_State_retire (subParts hA rfl) | with_reducible apply keeps_State_fieldFault (subParts hA rfl) | with_reducible apply keeps_State_jumpGate (subParts hA rfl) | split

theorem keeps_execAbsentAccessClear {A : List Part} {s0 s : State} (hA : [.regs] ⊆ A) (x0 : Word) (h : Keeps A s0 s) : KeepsR A s0 (execAbsentAccessClear x0 s) := by
  unfold execAbsentAccessClear
  try dsimp only
  repeat' first | intro _ | with_reducible assumption | with_reducible apply KeepsR.ite | with_reducible apply Keeps.ite | with_reducible apply KeepsR.of_next | with_reducible apply keeps_State_setFlag (subParts hA rfl)

theorem keeps_execDmaSegmentWrite {A : List Part} {s0 s : State} (hA : [.regs, .dram, .grp, .dma, .dmaEng, .pci, .ddr, .intg, .out] ⊆ A) (x0 : ℕ) (h : Keeps A s0 s) : KeepsR A s0 (execDmaSegmentWrite x0 s) := by
  unfold execDmaSegmentWrite
  try dsimp only
  repeat' first | intro _ | with_reducible assumption | with_reducible apply KeepsR.ite | with_reducible apply Keeps.ite | with_reducible apply KeepsR.of_next | with_reducible apply keeps_State_writeDram (subParts hA rfl) | with_reducible apply keeps_State_emit (subParts hA rfl) | with_reducible apply keeps_State_modDc (subParts hA rfl) | with_reducible apply keeps_State_hiddenUe (subParts hA rfl) | with_reducible apply keeps_onDma (subParts hA rfl) | with_reducible apply keeps_State_dmaWritten (subParts hA rfl) | with_reducible apply keeps_State_dmaRdErr (subParts hA rfl) | split | with_reducible apply Keeps.upd_dmaEng (subParts hA rfl) | (refine Keeps.pair (by assumption) ?_)

theorem keeps_execLine {A : List Part} {s0 s : State} (hA : [.regs, .dram, .grp, .chan, .srvAx, .srvCh, .lsr, .hoop, .port, .pci, .ddr, .intg, .xbar, .out] ⊆ A) (x0 : ℕ) (h : Keeps A s0 s) : KeepsR A s0 (execLine x0 s) := by
  unfold execLine
  try dsimp only
  repeat' first | intro _ | with_reducible assumption | with_reducible apply KeepsR.of_next | with_reducible apply keeps_decodeOn (subParts hA rfl) | with_reducible apply keeps_State_segment (subParts hA rfl)

theorem keeps_execPeriodicTraining {A : List Part} {s0 s : State} (hA : [.regs, .ddr, .free] ⊆ A) (x0 : ℕ) (h : Keeps A s0 s) : KeepsR A s0 (execPeriodicTraining x0 s) := by
  unfold execPeriodicTraining
  try dsimp only
  repeat' first | intro _ | with_reducible assumption | with_reducible apply KeepsR.ite | with_reducible apply Keeps.ite | with_reducible apply KeepsR.of_next | with_reducible apply keeps_State_satAdd (subParts hA rfl) | with_reducible apply keeps_onUnit (subParts hA rfl) | with_reducible apply keeps_State_trainPause (subParts hA rfl) | with_reducible apply Keeps.upd_ddr (subParts hA rfl)

theorem keeps_State_tegFrame {A : List Part} {s0 s : State} (hA : [.regs, .dram, .grp, .srvAx, .srvCh, .lsr, .pci, .ddr, .out] ⊆ A) (x1 : ℕ) (x2 : V3) (h : Keeps A s0 s) : Keeps A s0 (State.tegFrame s x1 x2) := by
  unfold State.tegFrame
  try dsimp only
  repeat' first | intro _ | with_reducible assumption | with_reducible apply Keeps.ite | with_reducible apply Keeps.foldl | with_reducible apply keeps_State_trip (subParts hA rfl) | split

theorem keeps_State_frameSeq {A : List Part} {s0 s : State} (hA : [.regs, .cam, .out] ⊆ A) (x1 : ℕ) (h : Keeps A s0 s) : Keeps A s0 (State.frameSeq s x1).2 := by
  unfold State.frameSeq
  try dsimp only
  repeat' first | intro _ | with_reducible assumption | with_reducible apply Keeps.ite | with_reducible apply keeps_State_setFld (subParts hA rfl) | with_reducible apply keeps_State_modCm (subParts hA rfl) | with_reducible apply keeps_State_camSync (subParts hA rfl) | with_reducible apply keeps_State_sendNext (subParts hA rfl) | split

theorem keeps_execFrameStart {A : List Part} {s0 s : State} (hA : [.regs, .cam, .pci, .out] ⊆ A) (x0 : Seen Bool) (h : Keeps A s0 s) : KeepsR A s0 (execFrameStart x0 s) := by
  unfold execFrameStart
  try dsimp only
  repeat' first | intro _ | with_reducible assumption | with_reducible apply KeepsR.ite | with_reducible apply Keeps.ite | with_reducible apply KeepsR.of_next | with_reducible apply keeps_State_setFld (subParts hA rfl) | with_reducible apply keeps_onUnit (subParts hA rfl) | with_reducible apply keeps_State_modCm (subParts hA rfl) | with_reducible apply keeps_State_countDrop (subParts hA rfl) | with_reducible apply keeps_State_takeVs (subParts hA rfl) | with_reducible apply keeps_State_frameSeq (subParts hA rfl) | split | (refine Keeps.pair (by assumption) ?_)

theorem keeps_State_modFrame {A : List Part} {s0 s : State} (hA : [.cam] ⊆ A) (x1 : ℕ) (x2 : ℕ) (x3 : Frame → Frame) (h : Keeps A s0 s) : Keeps A s0 (State.modFrame s x1 x2 x3) := by
  unfold State.modFrame
  try dsimp only
  repeat' first | intro _ | with_reducible assumption | with_reducible apply Keeps.ite | with_reducible apply keeps_State_modCm (subParts hA rfl)

theorem keeps_execPipelinePortSelect {A : List Part} {s0 s : State} (hA : [.cam, .pipe] ⊆ A)  (h : Keeps A s0 s) : KeepsR A s0 (execPipelinePortSelect s) := by
  unfold execPipelinePortSelect
  try dsimp only
  repeat' first | intro _ | with_reducible assumption | with_reducible apply KeepsR.ite | with_reducible apply Keeps.ite | with_reducible apply KeepsR.of_next | with_reducible apply keeps_State_modFrame (subParts hA rfl) | split | with_reducible apply Keeps.upd_pipe (subParts hA rfl)

theorem keeps_execFaultTime {A : List Part} {s0 s : State} (hA : [.regs, .dram, .grp, .chan, .srvAx, .srvCh, .lsr, .hoop, .port, .pci, .ddr, .xbar, .out] ⊆ A) (x0 : ℕ) (h : Keeps A s0 s) : KeepsR A s0 (execFaultTime x0 s) := by
  unfold execFaultTime
  try dsimp only
  repeat' first | intro _ | with_reducible assumption | with_reducible apply KeepsR.ite | with_reducible apply Keeps.ite | with_reducible apply KeepsR.of_next | with_reducible apply keeps_State_modCh (subParts hA rfl) | with_reducible apply keeps_State_fault (subParts hA rfl) | with_reducible apply keeps_onUnit (subParts hA rfl) | with_reducible apply keeps_State_fetchDue (subParts hA rfl) | split

theorem keeps_execPerstNRelease {A : List Part} {s0 s : State} (hA : [.regs, .dram, .grp, .dom, .pci, .ddr, .pwr, .out] ⊆ A)  (h : Keeps A s0 s) : KeepsR A s0 (execPerstNRelease s) := by
  unfold execPerstNRelease
  try dsimp only
  repeat' first | intro _ | with_reducible assumption | with_reducible apply KeepsR.ite | with_reducible apply Keeps.ite | with_reducible apply KeepsR.of_next | with_reducible apply keeps_State_wakeRun (subParts hA rfl) | with_reducible apply keeps_State_revote (subParts hA rfl) | with_reducible apply Keeps.upd_pci (subParts hA rfl)

theorem keeps_State_countBit {A : List Part} {s0 s : State} (hA : [.regs] ⊆ A) (x1 : ℕ) (x2 : Bool) (h : Keeps A s0 s) : Keeps A s0 (State.countBit s x1 x2) := by
  unfold State.countBit
  try dsimp only
  repeat' first | intro _ | with_reducible assumption | with_reducible apply Keeps.ite | with_reducible apply keeps_State_setReg (subParts hA rfl) | with_reducible apply keeps_State_setFld (subParts hA rfl) | with_reducible apply keeps_State_satAdd (subParts hA rfl)

theorem keeps_execSync {A : List Part} {s0 s : State} (hA : [.regs, .dram, .grp, .chan, .srvAx, .srvCh, .lsr, .hoop, .port, .pci, .ddr, .intg, .xbar, .out] ⊆ A) (x0 : ℕ) (h : Keeps A s0 s) : KeepsR A s0 (execSync x0 s) := by
  unfold execSync
  try dsimp only
  repeat' first | intro _ | with_reducible assumption | with_reducible apply KeepsR.ite | with_reducible apply Keeps.ite | with_reducible apply KeepsR.of_next | with_reducible apply keeps_State_modCh (subParts hA rfl) | with_reducible apply keeps_State_decodeFault (subParts hA rfl) | with_reducible apply keeps_decodeOn (subParts hA rfl) | with_reducible apply keeps_State_cursorTo (subParts hA rfl)

theorem keeps_State_lineRead {A : List Part} {s0 s : State} (hA : [.regs, .dram, .grp, .pci, .ddr, .intg, .out] ⊆ A) (x1 : ℕ) (x2 : Bool) (x3 : ℕ) (h : Keeps A s0 s) : Keeps A s0 (State.lineRead s x1 x2 x3) := by
  unfold State.lineRead
  try dsimp only
  repeat' first | intro _ | with_reducible assumption | with_reducible apply Keeps.ite | with_reducible apply keeps_State_satAdd (subParts hA rfl) | with_reducible apply keeps_State_lineUe (subParts hA rfl) | with_reducible apply Keeps.upd_ddr (subParts hA rfl)

theorem keeps_execStripeEnd {A : List Part} {s0 s : State} (hA : [.regs, .dram, .grp, .cam, .pipe, .pci, .ddr, .intg, .free, .out] ⊆ A) (x0 : List Byte) (h : Keeps A s0 s) : KeepsR A s0 (execStripeEnd x0 s) := by
  unfold execStripeEnd
  try dsimp only
  repeat' first | intro _ | with_reducible assumption | with_reducible apply KeepsR.ite | with_reducible apply Keeps.ite | with_reducible apply KeepsR.of_next | with_reducible apply keeps_State_hiddenUe (subParts hA rfl) | with_reducible apply keeps_State_camLevel (subParts hA rfl) | with_reducible apply keeps_State_dropFrame (subParts hA rfl) | with_reducible apply keeps_State_detectCrc (subParts hA rfl) | with_reducible apply keeps_State_readWords (subParts hA rfl) | with_reducible apply keeps_State_modFrame (subParts hA rfl) | split | with_reducible apply Keeps.upd_pipe (subParts hA rfl) | (refine Keeps.pair (by assumption) ?_)

theorem keeps_execOwnRetry {A : List Part} {s0 s : State} (hA : [.regs, .chan] ⊆ A) (x0 : ℕ) (h : Keeps A s0 s) : KeepsR A s0 (execOwnRetry x0 s) := by
  unfold execOwnRetry
  try dsimp only
  repeat' first | intro _ | with_reducible assumption | with_reducible apply KeepsR.ite | with_reducible apply Keeps.ite | with_reducible apply KeepsR.of_next | with_reducible apply keeps_onUnit (subParts hA rfl) | with_reducible apply keeps_State_readDesc (subParts hA rfl)

theorem keeps_State_feedbackFault {A : List Part} {s0 s : State} (hA : [.regs, .dram, .grp, .mot, .pci, .ddr, .out] ⊆ A) (x1 : ℕ) (h : Keeps A s0 s) : Keeps A s0 (State.feedbackFault s x1) := by
  unfold State.feedbackFault
  try dsimp only
  repeat' first | intro _ | with_reducible assumption | with_reducible apply Keeps.ite | with_reducible apply keeps_State_axisFault (subParts hA rfl)

theorem keeps_execIndexEdge {A : List Part} {s0 s : State} (hA : [.regs, .dram, .grp, .mot, .fbk, .pci, .ddr, .out] ⊆ A) (x0 : Seen Bool) (h : Keeps A s0 s) : KeepsR A s0 (execIndexEdge x0 s) := by
  unfold execIndexEdge
  try dsimp only
  repeat' first | intro _ | with_reducible assumption | with_reducible apply KeepsR.ite | with_reducible apply Keeps.ite | with_reducible apply KeepsR.of_next | with_reducible apply Keeps.each | with_reducible apply keeps_State_raise (subParts hA rfl) | with_reducible apply keeps_State_post (subParts hA rfl) | with_reducible apply keeps_State_setFlag (subParts hA rfl) | with_reducible apply keeps_State_setSfld (subParts hA rfl) | with_reducible apply keeps_onUnit (subParts hA rfl) | with_reducible apply keeps_State_modFb (subParts hA rfl) | with_reducible apply keeps_State_feedbackFault (subParts hA rfl)

theorem keeps_execLsyncEdge {A : List Part} {s0 s : State} (hA : [.regs, .lgt, .pins] ⊆ A)  (h : Keeps A s0 s) : KeepsR A s0 (execLsyncEdge s) := by
  unfold execLsyncEdge
  try dsimp only
  repeat' first | intro _ | with_reducible assumption | with_reducible apply KeepsR.ite | with_reducible apply Keeps.ite | with_reducible apply KeepsR.of_next | with_reducible apply keeps_State_satAdd (subParts hA rfl) | with_reducible apply keeps_occurs (subParts hA rfl) | with_reducible apply Keeps.upd_lgt_pins (subParts hA rfl) | with_reducible apply Keeps.upd_lgt (subParts hA rfl) | with_reducible apply Keeps.upd_pins (subParts hA rfl)

theorem keeps_State_bmeClear {A : List Part} {s0 s : State} (hA : [.regs, .pci] ⊆ A)  (h : Keeps A s0 s) : Keeps A s0 (State.bmeClear s) := by
  unfold State.bmeClear
  try dsimp only
  repeat' first | intro _ | with_reducible assumption | with_reducible apply keeps_State_setFlag (subParts hA rfl) | with_reducible apply Keeps.upd_pci (subParts hA rfl)

theorem keeps_execCaveRecordWrite {A : List Part} {s0 s : State} (hA : [.regs, .pci, .cave, .out] ⊆ A)  (h : Keeps A s0 s) : KeepsR A s0 (execCaveRecordWrite s) := by
  unfold execCaveRecordWrite
  try dsimp only
  repeat' first | intro _ | with_reducible assumption | with_reducible apply KeepsR.ite | with_reducible apply Keeps.ite | with_reducible apply KeepsR.of_next | with_reducible apply keeps_occurs (subParts hA rfl) | with_reducible apply keeps_State_caveLost (subParts hA rfl) | with_reducible apply keeps_State_caveWrite (subParts hA rfl) | with_reducible apply keeps_State_caveCommit (subParts hA rfl) | split | with_reducible apply Keeps.upd_cave (subParts hA rfl) | with_reducible rfl | rfl

theorem keeps_execXtal32Switch {A : List Part} {s0 s : State} (hA : [.boot] ⊆ A)  (h : Keeps A s0 s) : KeepsR A s0 (execXtal32Switch s) := by
  unfold execXtal32Switch
  try dsimp only
  repeat' first | intro _ | with_reducible assumption | with_reducible apply KeepsR.of_next | with_reducible apply Keeps.upd_boot (subParts hA rfl)

theorem keeps_execStartVoteReceived {A : List Part} {s0 s : State} (hA : [.regs, .grp, .hoop, .port, .pci, .out] ⊆ A) (x0 : ℕ) (x1 : Packet) (h : Keeps A s0 s) : KeepsR A s0 (execStartVoteReceived x0 x1 s) := by
  unfold execStartVoteReceived
  try dsimp only
  repeat' first | intro _ | with_reducible assumption | with_reducible apply KeepsR.ite | with_reducible apply Keeps.ite | with_reducible apply KeepsR.of_next | with_reducible apply keeps_State_modGrp (subParts hA rfl) | with_reducible apply keeps_State_receive (subParts hA rfl) | with_reducible apply keeps_onUnit (subParts hA rfl)

theorem keeps_execBusMasterDisable {A : List Part} {s0 s : State} (hA : [.regs, .dram, .dma, .dmaEng, .pci, .ddr, .out] ⊆ A)  (h : Keeps A s0 s) : KeepsR A s0 (execBusMasterDisable s) := by
  unfold execBusMasterDisable
  try dsimp only
  repeat' first | intro _ | with_reducible assumption | with_reducible apply KeepsR.of_next | with_reducible apply keeps_State_dmaAbortAll (subParts hA rfl) | with_reducible apply keeps_State_readEngine (subParts hA rfl) | with_reducible apply keeps_State_bmeClear (subParts hA rfl)

theorem keeps_execLaneWakeDone {A : List Part} {s0 s : State} (hA : [.regs, .port, .lane, .head] ⊆ A) (x0 : ℕ) (h : Keeps A s0 s) : KeepsR A s0 (execLaneWakeDone x0 s) := by
  unfold execLaneWakeDone
  try dsimp only
  repeat' first | intro _ | with_reducible assumption | with_reducible apply KeepsR.ite | with_reducible apply Keeps.ite | with_reducible apply KeepsR.of_next | with_reducible apply keeps_State_setFlag (subParts hA rfl) | with_reducible apply keeps_State_setLane (subParts hA rfl) | with_reducible apply keeps_onLane (subParts hA rfl) | with_reducible apply keeps_State_enterActive (subParts hA rfl)

theorem keeps_State_linkTrained {A : List Part} {s0 s : State} (hA : [.regs, .pci, .free] ⊆ A)  (h : Keeps A s0 s) : Keeps A s0 (State.linkTrained s) := by
  unfold State.linkTrained
  try dsimp only
  repeat' first | intro _ | with_reducible assumption | with_reducible apply keeps_State_setFld (subParts hA rfl) | with_reducible apply keeps_State_draw (subParts hA rfl) | with_reducible apply keeps_State_bmeSet (subParts hA rfl) | split | with_reducible apply Keeps.upd_pci (subParts hA rfl) | (refine Keeps.pair (by assumption) ?_)

theorem keeps_execHandEnd {A : List Part} {s0 s : State} (hA : [.regs, .dram, .grp, .chan, .pci, .ddr, .out] ⊆ A) (x0 : ℕ) (h : Keeps A s0 s) : KeepsR A s0 (execHandEnd x0 s) := by
  unfold execHandEnd
  try dsimp only
  repeat' first | intro _ | with_reducible assumption | with_reducible apply KeepsR.ite | with_reducible apply Keeps.ite | with_reducible apply KeepsR.of_next | with_reducible apply keeps_State_satAdd (subParts hA rfl) | with_reducible apply keeps_State_modCh (subParts hA rfl) | with_reducible apply keeps_onUnit (subParts hA rfl) | with_reducible apply keeps_State_handLog (subParts hA rfl) | with_reducible apply keeps_State_withHand (subParts hA rfl)

theorem keeps_State_stopAxis {A : List Part} {s0 s : State} (hA : [.regs, .dram, .grp, .mot, .pci, .ddr, .out] ⊆ A) (x1 : ℕ) (h : Keeps A s0 s) : Keeps A s0 (State.stopAxis s x1) := by
  unfold State.stopAxis
  try dsimp only
  repeat' first | intro _ | with_reducible assumption | with_reducible apply Keeps.ite | with_reducible apply keeps_State_setAxisState (subParts hA rfl) | with_reducible apply keeps_State_moveTo (subParts hA rfl) | with_reducible apply keeps_State_noteLimit (subParts hA rfl) | with_reducible apply keeps_State_overshoot (subParts hA rfl) | split

theorem keeps_State_applyGo {A : List Part} {s0 s : State} (hA : [.regs, .mot, .pci, .out] ⊆ A) (x1 : ℕ) (h : Keeps A s0 s) : Keeps A s0 (State.applyGo s x1) := by
  unfold State.applyGo
  try dsimp only
  repeat' first | intro _ | with_reducible assumption | with_reducible apply Keeps.ite | with_reducible apply keeps_State_raise (subParts hA rfl) | with_reducible apply keeps_State_modMo (subParts hA rfl) | with_reducible apply keeps_State_retarget (subParts hA rfl) | split

theorem keeps_State_runMotor {A : List Part} {s0 s : State} (hA : [.regs, .dram, .grp, .mot, .pci, .ddr, .out] ⊆ A) (x1 : ℕ) (h : Keeps A s0 s) : Keeps A s0 (State.runMotor s x1) := by
  unfold State.runMotor
  try dsimp only
  repeat' first | intro _ | with_reducible assumption | with_reducible apply Keeps.ite | with_reducible apply keeps_State_modMo (subParts hA rfl) | with_reducible apply keeps_State_setAxisState (subParts hA rfl) | with_reducible apply keeps_State_moveTo (subParts hA rfl) | with_reducible apply keeps_State_noteLimit (subParts hA rfl) | with_reducible apply keeps_State_overshoot (subParts hA rfl) | split

theorem keeps_State_axisInstant {A : List Part} {s0 s : State} (hA : [.regs, .dram, .grp, .mot, .pci, .ddr, .intg, .out] ⊆ A) (x1 : ℕ) (h : Keeps A s0 s) : Keeps A s0 (State.axisInstant s x1) := by
  unfold State.axisInstant
  try dsimp only
  repeat' first | intro _ | with_reducible assumption | with_reducible apply Keeps.ite | with_reducible apply keeps_State_readWords (subParts hA rfl) | with_reducible apply keeps_State_homeAxis (subParts hA rfl) | with_reducible apply keeps_State_driveAxis (subParts hA rfl) | with_reducible apply keeps_State_feedbackFault (subParts hA rfl) | with_reducible apply keeps_State_stopAxis (subParts hA rfl) | with_reducible apply keeps_State_applyGo (subParts hA rfl) | with_reducible apply keeps_State_runMotor (subParts hA rfl) | split | (refine Keeps.pair (by assumption) ?_)

theorem keeps_execStbIsnCrossing {A : List Part} {s0 s : State} (hA : [.strobe] ⊆ A) (x0 : ℕ) (x1 : ℕ) (h : Keeps A s0 s) : KeepsR A s0 (execStbIsnCrossing x0 x1 s) := by
  unfold execStbIsnCrossing
  try dsimp only
  repeat' first | intro _ | with_reducible assumption | with_reducible apply KeepsR.ite | with_reducible apply Keeps.ite | with_reducible apply KeepsR.of_next | with_reducible apply keeps_State_modSb (subParts hA rfl) | with_reducible apply keeps_onStrobeEvent (subParts hA rfl)

theorem keeps_execRrspReceived {A : List Part} {s0 s : State} (hA : [.regs, .hoop, .port, .pci, .out] ⊆ A) (x0 : ℕ) (x1 : Packet) (h : Keeps A s0 s) : KeepsR A s0 (execRrspReceived x0 x1 s) := by
  unfold execRrspReceived
  try dsimp only
  repeat' first | intro _ | with_reducible assumption | with_reducible apply KeepsR.ite | with_reducible apply Keeps.ite | with_reducible apply KeepsR.of_next | with_reducible apply keeps_State_setReg (subParts hA rfl) | with_reducible apply keeps_State_receive (subParts hA rfl) | with_reducible apply keeps_onUnit (subParts hA rfl) | with_reducible apply keeps_State_rraEnd (subParts hA rfl) | split

theorem keeps_State_headReport {A : List Part} {s0 s : State} (hA : [.regs, .pci, .out] ⊆ A) (x1 : ℕ) (x2 : ℕ) (x3 : ℕ) (x4 : ℕ) (h : Keeps A s0 s) : Keeps A s0 (State.headReport s x1 x2 x3 x4) := by
  unfold State.headReport
  try dsimp only
  repeat' first | intro _ | with_reducible assumption | with_reducible apply Keeps.ite | with_reducible apply keeps_State_setFld (subParts hA rfl) | with_reducible apply keeps_State_raise (subParts hA rfl)

theorem keeps_execCaveScanDone {A : List Part} {s0 s : State} (hA : [.regs, .pci, .cave, .out] ⊆ A)  (h : Keeps A s0 s) : KeepsR A s0 (execCaveScanDone s) := by
  unfold execCaveScanDone
  try dsimp only
  repeat' first | intro _ | with_reducible assumption | with_reducible apply KeepsR.of_next | with_reducible apply Keeps.foldl | with_reducible apply keeps_State_setReg (subParts hA rfl) | with_reducible apply keeps_State_setFld (subParts hA rfl) | with_reducible apply keeps_State_raise (subParts hA rfl) | with_reducible apply keeps_State_setFlag (subParts hA rfl) | with_reducible apply keeps_occurs (subParts hA rfl) | with_reducible apply keeps_State_setSlot (subParts hA rfl) | with_reducible apply keeps_State_caveWrite (subParts hA rfl) | split | with_reducible apply Keeps.upd_cave (subParts hA rfl) | with_reducible rfl | rfl

theorem keeps_execCompletionTimeout {A : List Part} {s0 s : State} (hA : [.regs, .dram, .dma, .dmaEng, .pci, .ddr, .out] ⊆ A) (x0 : ℕ) (h : Keeps A s0 s) : KeepsR A s0 (execCompletionTimeout x0 s) := by
  unfold execCompletionTimeout
  try dsimp only
  repeat' first | intro _ | with_reducible assumption | with_reducible apply KeepsR.ite | with_reducible apply Keeps.ite | with_reducible apply KeepsR.of_next | with_reducible apply keeps_onDma (subParts hA rfl) | with_reducible apply keeps_State_readFailed (subParts hA rfl) | split

theorem keeps_execFeedLineArrival {A : List Part} {s0 s : State} (hA : [.regs, .dram, .grp, .chan, .srvAx, .srvCh, .lsr, .hoop, .port, .pci, .ddr, .intg, .xbar, .out] ⊆ A) (x0 : ℕ) (x1 : ℕ) (x2 : List Byte) (h : Keeps A s0 s) : KeepsR A s0 (execFeedLineArrival x0 x1 x2 s) := by
  unfold execFeedLineArrival
  try dsimp only
  repeat' first | intro _ | with_reducible assumption | with_reducible apply KeepsR.ite | with_reducible apply Keeps.ite | with_reducible apply KeepsR.of_next | with_reducible apply keeps_State_modCh (subParts hA rfl) | with_reducible apply keeps_onUnit (subParts hA rfl) | with_reducible apply keeps_State_feedFill (subParts hA rfl) | split

theorem keeps_execVddAonLoss {A : List Part} {s0 s : State} (hA : [.regs, .dram, .l2, .shadow, .staged, .readData, .grp, .armUndo, .chan, .srvAx, .srvCh, .srv, .lsr, .hoop, .port, .bulk, .dom, .time, .mot, .fbk, .cam, .pipe, .lgt, .strobe, .lane, .head, .dma, .dmaEng, .pci, .eth, .ddr, .intg, .cal, .pwr, .hk, .cave, .boot, .xbar, .free] ⊆ A)  (h : Keeps A s0 s) : KeepsR A s0 (execVddAonLoss s) := by
  unfold execVddAonLoss
  try dsimp only
  repeat' first | intro _ | with_reducible assumption | with_reducible apply KeepsR.ite | with_reducible apply Keeps.ite | with_reducible apply KeepsR.of_next | with_reducible apply keeps_State_draw (subParts hA rfl) | with_reducible apply keeps_State_powerUp (subParts hA rfl) | with_reducible apply keeps_State_setSlot (subParts hA rfl) | split | with_reducible apply Keeps.upd_boot (subParts hA rfl) | (refine Keeps.pair (by assumption) ?_)

theorem keeps_execYieldDecision {A : List Part} {s0 s : State} (hA : [.regs, .grp] ⊆ A)  (h : Keeps A s0 s) : KeepsR A s0 (execYieldDecision s) := by
  unfold execYieldDecision
  try dsimp only
  repeat' first | intro _ | with_reducible assumption | with_reducible apply KeepsR.ite | with_reducible apply Keeps.ite | with_reducible apply KeepsR.of_next | with_reducible apply keeps_State_setFld (subParts hA rfl) | with_reducible apply keeps_State_modGrp (subParts hA rfl) | with_reducible apply keeps_occurs (subParts hA rfl)

theorem keeps_execPerstNAssert {A : List Part} {s0 s : State} (hA : [.regs, .dram, .l2, .shadow, .staged, .grp, .armUndo, .chan, .srvAx, .srvCh, .srv, .lsr, .hoop, .port, .bulk, .dom, .time, .mot, .fbk, .cam, .pipe, .lgt, .strobe, .lane, .head, .dma, .dmaEng, .pci, .eth, .ddr, .intg, .cal, .pwr, .cave, .boot, .xbar, .free, .out] ⊆ A)  (h : Keeps A s0 s) : KeepsR A s0 (execPerstNAssert s) := by
  unfold execPerstNAssert
  try dsimp only
  repeat' first | intro _ | with_reducible assumption | with_reducible apply KeepsR.ite | with_reducible apply Keeps.ite | with_reducible apply KeepsR.of_next | with_reducible apply keeps_State_revote (subParts hA rfl) | with_reducible apply keeps_State_pciFundamental (subParts hA rfl) | with_reducible apply keeps_State_coreReset (subParts hA rfl) | with_reducible apply Keeps.upd_pci (subParts hA rfl)

theorem keeps_State_restoreChan {A : List Part} {s0 s : State} (hA : [.regs, .chan] ⊆ A) (x1 : ArmUndo) (x2 : ℕ) (h : Keeps A s0 s) : Keeps A s0 (State.restoreChan s x1 x2) := by
  unfold State.restoreChan
  try dsimp only
  repeat' first | intro _ | with_reducible assumption | with_reducible apply keeps_State_setReg (subParts hA rfl) | with_reducible apply keeps_State_modCh (subParts hA rfl) | split

theorem keeps_State_undoArm {A : List Part} {s0 s : State} (hA : [.regs, .dram, .grp, .armUndo, .chan, .srvAx, .srvCh, .lsr, .pci, .ddr, .pwr, .out] ⊆ A)  (h : Keeps A s0 s) : Keeps A s0 (State.undoArm s) := by
  unfold State.undoArm
  try dsimp only
  repeat' first | intro _ | with_reducible assumption | with_reducible apply Keeps.ite | with_reducible apply Keeps.each | with_reducible apply Keeps.foldl | with_reducible apply keeps_State_setReg (subParts hA rfl) | with_reducible apply keeps_State_modSc (subParts hA rfl) | with_reducible apply keeps_State_setFlag (subParts hA rfl) | with_reducible apply keeps_State_modAx (subParts hA rfl) | with_reducible apply keeps_State_thermalSync (subParts hA rfl) | with_reducible apply keeps_State_unarmChan (subParts hA rfl) | with_reducible apply keeps_State_restoreChan (subParts hA rfl) | split | with_reducible apply Keeps.upd_grp_armUndo (subParts hA rfl) | with_reducible apply Keeps.upd_grp (subParts hA rfl) | with_reducible apply Keeps.upd_armUndo (subParts hA rfl)

theorem keeps_execArmingCheckDone {A : List Part} {s0 s : State} (hA : [.regs, .dram, .grp, .armUndo, .chan, .srvAx, .srvCh, .lsr, .pci, .ddr, .pwr, .cave, .out] ⊆ A)  (h : Keeps A s0 s) : KeepsR A s0 (execArmingCheckDone s) := by
  unfold execArmingCheckDone
  try dsimp only
  repeat' first | intro _ | with_reducible assumption | with_reducible apply KeepsR.ite | with_reducible apply Keeps.ite | with_reducible apply KeepsR.of_next | with_reducible apply keeps_State_setFld (subParts hA rfl) | with_reducible apply keeps_State_raise (subParts hA rfl) | with_reducible apply keeps_State_setFlag (subParts hA rfl) | with_reducible apply keeps_State_syncShadow (subParts hA rfl) | with_reducible apply keeps_occurs (subParts hA rfl) | with_reducible apply keeps_State_rejectArm (subParts hA rfl) | with_reducible apply keeps_State_undoArm (subParts hA rfl) | with_reducible apply Keeps.upd_armUndo (subParts hA rfl)

theorem keeps_execHoldEventReceived {A : List Part} {s0 s : State} (hA : [.regs, .grp, .hoop, .port, .pci, .out] ⊆ A) (x0 : ℕ) (x1 : Packet) (h : Keeps A s0 s) : KeepsR A s0 (execHoldEventReceived x0 x1 s) := by
  unfold execHoldEventReceived
  try dsimp only
  repeat' first | intro _ | with_reducible assumption | with_reducible apply KeepsR.ite | with_reducible apply Keeps.ite | with_reducible apply KeepsR.of_next | with_reducible apply keeps_State_modGrp (subParts hA rfl) | with_reducible apply keeps_State_holdRise (subParts hA rfl) | with_reducible apply keeps_State_receive (subParts hA rfl) | with_reducible apply keeps_onUnit (subParts hA rfl) | with_reducible apply keeps_State_holderEvent (subParts hA rfl) | split

theorem keeps_State_split {A : List Part} {s0 s : State} (hA : [.regs, .dram, .grp, .chan, .srvAx, .srvCh, .lsr, .hoop, .port, .pci, .ddr, .cave, .xbar, .out] ⊆ A) (x1 : ℕ) (h : Keeps A s0 s) : Keeps A s0 (State.split s x1) := by
  unfold State.split
  try dsimp only
  repeat' first | intro _ | with_reducible assumption | with_reducible apply keeps_State_sendAbort (subParts hA rfl) | with_reducible apply keeps_State_abortLayer (subParts hA rfl)

theorem keeps_execGroupAbortReceived {A : List Part} {s0 s : State} (hA : [.regs, .dram, .grp, .armUndo, .chan, .srvAx, .srvCh, .lsr, .hoop, .port, .pci, .ddr, .cave, .xbar, .out] ⊆ A) (x0 : ℕ) (x1 : Packet) (h : Keeps A s0 s) : KeepsR A s0 (execGroupAbortReceived x0 x1 s) := by
  unfold execGroupAbortReceived
  try dsimp only
  repeat' first | intro _ | with_reducible assumption | with_reducible apply KeepsR.ite | with_reducible apply Keeps.ite | with_reducible apply KeepsR.of_next | with_reducible apply keeps_State_modGrp (subParts hA rfl) | with_reducible apply keeps_State_abortLayer (subParts hA rfl) | with_reducible apply keeps_State_receive (subParts hA rfl) | with_reducible apply keeps_onUnit (subParts hA rfl) | with_reducible apply keeps_State_cancelArmed (subParts hA rfl)

theorem keeps_State_dmaTake {A : List Part} {s0 s : State} (hA : [.regs, .dram, .dma, .pci, .ddr, .out] ⊆ A) (x1 : ℕ) (x2 : DmaDesc) (h : Keeps A s0 s) : Keeps A s0 (State.dmaTake s x1 x2) := by
  unfold State.dmaTake
  try dsimp only
  repeat' first | intro _ | with_reducible assumption | with_reducible apply Keeps.ite | with_reducible apply keeps_State_modDc (subParts hA rfl) | with_reducible apply keeps_State_dmaNext (subParts hA rfl)

theorem keeps_execBistDone {A : List Part} {s0 s : State} (hA : [.regs, .dram, .grp, .pci, .ddr, .intg, .cave, .out] ⊆ A) (x0 : ℕ) (h : Keeps A s0 s) : KeepsR A s0 (execBistDone x0 s) := by
  unfold execBistDone
  try dsimp only
  repeat' first | intro _ | with_reducible assumption | with_reducible apply KeepsR.of_next | with_reducible apply keeps_State_setFlag (subParts hA rfl) | with_reducible apply keeps_occurs (subParts hA rfl) | with_reducible apply keeps_State_bistResult (subParts hA rfl)

theorem keeps_execYieldVoteReceived {A : List Part} {s0 s : State} (hA : [.regs, .dram, .grp, .chan, .srvAx, .srvCh, .lsr, .hoop, .port, .pci, .ddr, .cave, .xbar, .out] ⊆ A) (x0 : ℕ) (x1 : Packet) (h : Keeps A s0 s) : KeepsR A s0 (execYieldVoteReceived x0 x1 s) := by
  unfold execYieldVoteReceived
  try dsimp only
  repeat' first | intro _ | with_reducible assumption | with_reducible apply KeepsR.ite | with_reducible apply Keeps.ite | with_reducible apply KeepsR.of_next | with_reducible apply keeps_State_modGrp (subParts hA rfl) | with_reducible apply keeps_State_receive (subParts hA rfl) | with_reducible apply keeps_onUnit (subParts hA rfl) | with_reducible apply keeps_State_split (subParts hA rfl)

theorem keeps_State_writeK {A : List Part} {s0 s : State} (hA : [.regs, .dram, .grp, .chan, .srvAx, .srvCh, .lsr, .hoop, .port, .pci, .ddr, .xbar, .out] ⊆ A) (x1 : ℕ) (x2 : ℕ) (x3 : ℕ) (h : Keeps A s0 s) : Keeps A s0 (State.writeK s x1 x2 x3) := by
  unfold State.writeK
  try dsimp only
  repeat' first | intro _ | with_reducible assumption | with_reducible apply keeps_State_modCh (subParts hA rfl) | with_reducible apply keeps_State_next (subParts hA rfl)

theorem keeps_execLdk {A : List Part} {s0 s : State} (hA : [.regs, .dram, .grp, .chan, .srvAx, .srvCh, .lsr, .hoop, .port, .pci, .ddr, .intg, .xbar, .out] ⊆ A) (x0 : ℕ) (h : Keeps A s0 s) : KeepsR A s0 (execLdk x0 s) := by
  unfold execLdk
  try dsimp only
  repeat' first | intro _ | with_reducible assumption | with_reducible apply KeepsR.of_next | with_reducible apply keeps_decodeOn (subParts hA rfl) | with_reducible apply keeps_State_writeK (subParts hA rfl)

theorem keeps_execReleaseEventReceived {A : List Part} {s0 s : State} (hA : [.regs, .grp, .lsr, .hoop, .port, .pci, .out] ⊆ A) (x0 : ℕ) (x1 : Packet) (h : Keeps A s0 s) : KeepsR A s0 (execReleaseEventReceived x0 x1 s) := by
  unfold execReleaseEventReceived
  try dsimp only
  repeat' first | intro _ | with_reducible assumption | with_reducible apply KeepsR.ite | with_reducible apply Keeps.ite | with_reducible apply KeepsR.of_next | with_reducible apply keeps_State_holdRise (subParts hA rfl) | with_reducible apply keeps_State_receive (subParts hA rfl) | with_reducible apply keeps_onUnit (subParts hA rfl) | with_reducible apply keeps_State_holderEvent (subParts hA rfl) | with_reducible apply keeps_State_computeRestart (subParts hA rfl)

theorem keeps_execTokenExpiry {A : List Part} {s0 s : State} (hA : [.regs, .chan] ⊆ A) (x0 : ℕ) (h : Keeps A s0 s) : KeepsR A s0 (execTokenExpiry x0 s) := by
  unfold execTokenExpiry
  try dsimp only
  repeat' first | intro _ | with_reducible assumption | with_reducible apply KeepsR.ite | with_reducible apply Keeps.ite | with_reducible apply KeepsR.of_next | with_reducible apply keeps_State_satAdd (subParts hA rfl) | with_reducible apply keeps_State_modCh (subParts hA rfl) | with_reducible apply keeps_onUnit (subParts hA rfl)

theorem keeps_execAuxTimeout {A : List Part} {s0 s : State} (hA : [.regs, .head, .pci, .out] ⊆ A) (x0 : ℕ) (h : Keeps A s0 s) : KeepsR A s0 (execAuxTimeout x0 s) := by
  unfold execAuxTimeout
  try dsimp only
  repeat' first | intro _ | with_reducible assumption | with_reducible apply KeepsR.ite | with_reducible apply Keeps.ite | with_reducible apply KeepsR.of_next | with_reducible apply keeps_onUnit (subParts hA rfl) | with_reducible apply keeps_State_auxEnd (subParts hA rfl) | with_reducible apply keeps_State_cfgFail (subParts hA rfl) | with_reducible apply keeps_State_auxOver (subParts hA rfl) | split

theorem keeps_execPgoodTimeout {A : List Part} {s0 s : State} (hA : [.regs, .dram, .l2, .grp, .armUndo, .chan, .srvAx, .srvCh, .srv, .lsr, .hoop, .port, .dom, .mot, .fbk, .cam, .pipe, .lgt, .strobe, .lane, .head, .dma, .dmaEng, .pci, .eth, .ddr, .intg, .pwr, .cave, .boot, .xbar, .free, .out] ⊆ A) (x0 : ℕ) (h : Keeps A s0 s) : KeepsR A s0 (execPgoodTimeout x0 s) := by
  unfold execPgoodTimeout
  try dsimp only
  repeat' first | intro _ | with_reducible assumption | with_reducible apply KeepsR.ite | with_reducible apply Keeps.ite | with_reducible apply KeepsR.of_next | with_reducible apply keeps_onUnit (subParts hA rfl) | with_reducible apply keeps_State_pgFail (subParts hA rfl)

theorem keeps_execCubic {A : List Part} {s0 s : State} (hA : [.regs, .dram, .grp, .chan, .srvAx, .srvCh, .lsr, .hoop, .port, .pci, .ddr, .intg, .xbar, .out] ⊆ A) (x0 : ℕ) (h : Keeps A s0 s) : KeepsR A s0 (execCubic x0 s) := by
  unfold execCubic
  try dsimp only
  repeat' first | intro _ | with_reducible assumption | with_reducible apply KeepsR.of_next | with_reducible apply keeps_decodeOn (subParts hA rfl) | with_reducible apply keeps_State_segment (subParts hA rfl)

theorem keeps_State_beginHold {A : List Part} {s0 s : State} (hA : [.regs, .grp, .hoop, .port, .pci, .out] ⊆ A)  (h : Keeps A s0 s) : Keeps A s0 (State.beginHold s) := by
  unfold State.beginHold
  try dsimp only
  repeat' first | intro _ | with_reducible assumption | with_reducible apply Keeps.ite | with_reducible apply Keeps.foldl | with_reducible apply keeps_State_raise (subParts hA rfl) | with_reducible apply keeps_State_modGrp (subParts hA rfl) | with_reducible apply keeps_State_satAdd (subParts hA rfl) | with_reducible apply keeps_State_setGrpState (subParts hA rfl) | with_reducible apply keeps_State_sendHoldEvent (subParts hA rfl)

theorem keeps_execCaveFetchDone {A : List Part} {s0 s : State} (hA : [.regs, .cave] ⊆ A)  (h : Keeps A s0 s) : KeepsR A s0 (execCaveFetchDone s) := by
  unfold execCaveFetchDone
  try dsimp only
  repeat' first | intro _ | with_reducible assumption | with_reducible apply KeepsR.of_next | with_reducible apply keeps_State_setFlag (subParts hA rfl) | with_reducible apply keeps_State_setWords (subParts hA rfl) | split | with_reducible apply Keeps.upd_cave (subParts hA rfl) | with_reducible rfl | rfl

theorem keeps_State_handFrame {A : List Part} {s0 s : State} (hA : [.regs, .dram, .grp, .chan, .pci, .ddr, .out] ⊆ A) (x1 : ℕ) (x2 : V3) (h : Keeps A s0 s) : Keeps A s0 (State.handFrame s x1 x2) := by
  unfold State.handFrame
  try dsimp only
  repeat' first | intro _ | with_reducible assumption | with_reducible apply Keeps.ite | with_reducible apply Keeps.foldl | with_reducible apply keeps_State_modCh (subParts hA rfl) | with_reducible apply keeps_State_handLog (subParts hA rfl) | split

theorem keeps_State_deliverFrame {A : List Part} {s0 s : State} (hA : [.regs, .dram, .cam, .pipe, .pci, .ddr, .free, .out] ⊆ A) (x1 : ℕ) (x2 : Frame) (h : Keeps A s0 s) : Keeps A s0 (State.deliverFrame s x1 x2) := by
  unfold State.deliverFrame
  try dsimp only
  repeat' first | intro _ | with_reducible assumption | with_reducible apply Keeps.ite | with_reducible apply Keeps.each | with_reducible apply keeps_State_setFld (subParts hA rfl) | with_reducible apply keeps_State_draw (subParts hA rfl) | with_reducible apply keeps_State_putRecord (subParts hA rfl) | with_reducible apply keeps_State_flushDrops (subParts hA rfl) | with_reducible apply keeps_State_mailbox (subParts hA rfl) | with_reducible apply keeps_State_putOutput (subParts hA rfl) | split | with_reducible apply Keeps.upd_pipe (subParts hA rfl) | (refine Keeps.pair (by assumption) ?_)

theorem keeps_execCreditSend {A : List Part} {s0 s : State} (hA : [.hoop, .port] ⊆ A) (x0 : ℕ) (h : Keeps A s0 s) : KeepsR A s0 (execCreditSend x0 s) := by
  unfold execCreditSend
  try dsimp only
  repeat' first | intro _ | with_reducible assumption | with_reducible apply KeepsR.ite | with_reducible apply Keeps.ite | with_reducible apply KeepsR.of_next | with_reducible apply keeps_State_modPt (subParts hA rfl) | with_reducible apply keeps_State_enqueue (subParts hA rfl) | with_reducible apply keeps_State_nextSeq (subParts hA rfl) | with_reducible apply keeps_onUnit (subParts hA rfl) | split | (refine Keeps.pair (by assumption) ?_)

theorem keeps_State_countBy {A : List Part} {s0 s : State} (hA : [.regs, .fbk, .pci, .out] ⊆ A) (x1 : ℕ) (x2 : ℤ) (h : Keeps A s0 s) : Keeps A s0 (State.countBy s x1 x2) := by
  unfold State.countBy
  try dsimp only
  repeat' first | intro _ | with_reducible assumption | with_reducible apply Keeps.ite | with_reducible apply keeps_State_setSfld (subParts hA rfl) | with_reducible apply keeps_State_modFb (subParts hA rfl) | with_reducible apply keeps_State_compare (subParts hA rfl)

theorem keeps_execFeedbackEdge {A : List Part} {s0 s : State} (hA : [.regs, .fbk, .pci, .out] ⊆ A) (x0 : ℕ) (x1 : Bool) (x2 : Bool) (h : Keeps A s0 s) : KeepsR A s0 (execFeedbackEdge x0 x1 x2 s) := by
  unfold execFeedbackEdge
  try dsimp only
  repeat' first | intro _ | with_reducible assumption | with_reducible apply KeepsR.ite | with_reducible apply Keeps.ite | with_reducible apply KeepsR.of_next | with_reducible apply keeps_State_raise (subParts hA rfl) | with_reducible apply keeps_State_satAdd (subParts hA rfl) | with_reducible apply keeps_State_setFlag (subParts hA rfl) | with_reducible apply keeps_onUnit (subParts hA rfl) | with_reducible apply keeps_State_modFb (subParts hA rfl) | with_reducible apply keeps_State_countBy (subParts hA rfl) | split

theorem keeps_execPmTimeout {A : List Part} {s0 s : State} (hA : [.regs, .lane, .pci, .out] ⊆ A) (x0 : ℕ) (h : Keeps A s0 s) : KeepsR A s0 (execPmTimeout x0 s) := by
  unfold execPmTimeout
  try dsimp only
  repeat' first | intro _ | with_reducible assumption | with_reducible apply KeepsR.ite | with_reducible apply Keeps.ite | with_reducible apply KeepsR.of_next | with_reducible apply keeps_State_raise (subParts hA rfl) | with_reducible apply keeps_State_modLn (subParts hA rfl) | with_reducible apply keeps_onLane (subParts hA rfl) | split

theorem keeps_State_fence {A : List Part} {s0 s : State} (hA : [.regs, .dram, .grp, .lsr, .pci, .ddr, .out] ⊆ A) (x1 : ℕ) (x2 : ℕ) (h : Keeps A s0 s) : Keeps A s0 (State.fence s x1 x2) := by
  unfold State.fence
  try dsimp only
  repeat' first | intro _ | with_reducible assumption | with_reducible apply keeps_State_modLs (subParts hA rfl) | with_reducible apply keeps_State_logClose (subParts hA rfl)

theorem keeps_execEvtAction {A : List Part} {s0 s : State} (hA : [.regs, .dram, .grp, .chan, .lsr, .pci, .ddr, .out] ⊆ A) (x0 : ℕ) (h : Keeps A s0 s) : KeepsR A s0 (execEvtAction x0 s) := by
  unfold execEvtAction
  try dsimp only
  repeat' first | intro _ | with_reducible assumption | with_reducible apply KeepsR.ite | with_reducible apply Keeps.ite | with_reducible apply KeepsR.of_next | with_reducible apply keeps_State_postAt (subParts hA rfl) | with_reducible apply keeps_State_modLs (subParts hA rfl) | with_reducible apply keeps_onUnit (subParts hA rfl) | with_reducible apply keeps_State_takeAct (subParts hA rfl) | with_reducible apply keeps_State_fence (subParts hA rfl) | split

theorem keeps_execTerminationProbe {A : List Part} {s0 s : State} (hA : [.regs, .lane] ⊆ A) (x0 : ℕ) (x1 : Bool) (h : Keeps A s0 s) : KeepsR A s0 (execTerminationProbe x0 x1 s) := by
  unfold execTerminationProbe
  try dsimp only
  repeat' first | intro _ | with_reducible assumption | with_reducible apply KeepsR.ite | with_reducible apply Keeps.ite | with_reducible apply KeepsR.of_next | with_reducible apply keeps_State_setLane (subParts hA rfl) | with_reducible apply keeps_onLane (subParts hA rfl) | with_reducible apply keeps_State_probe (subParts hA rfl)

theorem keeps_execLate {A : List Part} {s0 s : State} (hA : [.regs, .dram, .grp, .chan, .srvAx, .srvCh, .lsr, .hoop, .port, .pci, .ddr, .xbar, .out] ⊆ A) (x0 : ℕ) (h : Keeps A s0 s) : KeepsR A s0 (execLate x0 s) := by
  unfold execLate
  try dsimp only
  repeat' first | intro _ | with_reducible assumption | with_reducible apply KeepsR.ite | with_reducible apply Keeps.ite | with_reducible apply KeepsR.of_next | with_reducible apply keeps_onUnit (subParts hA rfl) | with_reducible apply keeps_State_runFault (subParts hA rfl) | split

theorem keeps_execDramReadReturn {A : List Part} {s0 s : State} (hA : [.regs, .dram, .grp, .pci, .ddr, .intg, .out] ⊆ A) (x0 : Seen Bool) (x1 : ℕ) (h : Keeps A s0 s) : KeepsR A s0 (execDramReadReturn x0 x1 s) := by
  unfold execDramReadReturn
  try dsimp only
  repeat' first | intro _ | with_reducible assumption | with_reducible apply KeepsR.ite | with_reducible apply Keeps.ite | with_reducible apply KeepsR.of_next | with_reducible apply keeps_State_lineRead (subParts hA rfl) | split | with_reducible apply Keeps.upd_ddr (subParts hA rfl)

theorem keeps_State_homeSample {A : List Part} {s0 s : State} (hA : [.regs, .mot, .fbk] ⊆ A) (x1 : ℕ) (x2 : Bool) (h : Keeps A s0 s) : Keeps A s0 (State.homeSample s x1 x2) := by
  unfold State.homeSample
  try dsimp only
  repeat' first | intro _ | with_reducible assumption | with_reducible apply Keeps.ite | with_reducible apply Keeps.each | with_reducible apply keeps_State_setFlag (subParts hA rfl) | with_reducible apply keeps_State_setSfld (subParts hA rfl) | with_reducible apply keeps_State_modFb (subParts hA rfl) | with_reducible apply keeps_State_modMo (subParts hA rfl) | with_reducible apply keeps_State_debounce (subParts hA rfl) | split | (refine Keeps.pair3 (by assumption) ?_)

theorem keeps_execHomeEdgeQualified {A : List Part} {s0 s : State} (hA : [.regs, .mot, .fbk] ⊆ A) (x0 : ℕ) (x1 : Bool) (x2 : Bool) (x3 : Bool) (h : Keeps A s0 s) : KeepsR A s0 (execHomeEdgeQualified x0 x1 x2 x3 s) := by
  unfold execHomeEdgeQualified
  try dsimp only
  repeat' first | intro _ | with_reducible assumption | with_reducible apply KeepsR.of_next | with_reducible apply keeps_onUnit (subParts hA rfl) | with_reducible apply keeps_State_limitSample (subParts hA rfl) | with_reducible apply keeps_State_homeSample (subParts hA rfl)

theorem keeps_execYieldVoteDeadline {A : List Part} {s0 s : State} (hA : [.grp] ⊆ A)  (h : Keeps A s0 s) : KeepsR A s0 (execYieldVoteDeadline s) := by
  unfold execYieldVoteDeadline
  try dsimp only
  repeat' first | intro _ | with_reducible assumption | with_reducible apply KeepsR.of_next | with_reducible apply keeps_State_modGrp (subParts hA rfl) | with_reducible apply keeps_occurs (subParts hA rfl)

theorem keeps_execEthLinkChange {A : List Part} {s0 s : State} (hA : [.regs, .dram, .pci, .ddr, .out] ⊆ A) (x0 : ℕ) (x1 : PcsState) (h : Keeps A s0 s) : KeepsR A s0 (execEthLinkChange x0 x1 s) := by
  unfold execEthLinkChange
  try dsimp only
  repeat' first | intro _ | with_reducible assumption | with_reducible apply KeepsR.ite | with_reducible apply Keeps.ite | with_reducible apply KeepsR.of_next | with_reducible apply keeps_onUnit (subParts hA rfl) | with_reducible apply keeps_State_setLink (subParts hA rfl) | with_reducible apply keeps_State_txClean (subParts hA rfl)

theorem keeps_execChallengeExpiry {A : List Part} {s0 s : State} (hA : [.cave] ⊆ A)  (h : Keeps A s0 s) : KeepsR A s0 (execChallengeExpiry s) := by
  unfold execChallengeExpiry
  try dsimp only
  repeat' first | intro _ | with_reducible assumption | with_reducible apply KeepsR.of_next | with_reducible apply keeps_occurs (subParts hA rfl) | split | with_reducible apply Keeps.upd_cave (subParts hA rfl) | with_reducible rfl | rfl

theorem keeps_execHand {A : List Part} {s0 s : State} (hA : [.regs, .dram, .grp, .chan, .srvAx, .srvCh, .lsr, .hoop, .port, .pci, .ddr, .intg, .xbar, .out] ⊆ A) (x0 : ℕ) (h : Keeps A s0 s) : KeepsR A s0 (execHand x0 s) := by
  unfold execHand
  try dsimp only
  repeat' first | intro _ | with_reducible assumption | with_reducible apply KeepsR.ite | with_reducible apply Keeps.ite | with_reducible apply KeepsR.of_next | with_reducible apply Keeps.foldl | with_reducible apply keeps_State_modCh (subParts hA rfl) | with_reducible apply keeps_State_faultNow (subParts hA rfl) | with_reducible apply keeps_State_tokenMismatch (subParts hA rfl) | with_reducible apply keeps_State_sendReady (subParts hA rfl) | with_reducible apply keeps_State_decodeFault (subParts hA rfl) | with_reducible apply keeps_decodeOn (subParts hA rfl) | with_reducible apply keeps_State_next (subParts hA rfl)

theorem keeps_execHoldEventRepeat {A : List Part} {s0 s : State} (hA : [.grp, .hoop, .port] ⊆ A)  (h : Keeps A s0 s) : KeepsR A s0 (execHoldEventRepeat s) := by
  unfold execHoldEventRepeat
  try dsimp only
  repeat' first | intro _ | with_reducible assumption | with_reducible apply KeepsR.ite | with_reducible apply Keeps.ite | with_reducible apply KeepsR.of_next | with_reducible apply keeps_State_broadcast (subParts hA rfl) | with_reducible apply keeps_State_modGrp (subParts hA rfl) | with_reducible apply keeps_occurs (subParts hA rfl) | with_reducible apply keeps_State_holdRise (subParts hA rfl) | split

theorem keeps_execXtalLoss {A : List Part} {s0 s : State} (hA : [.regs, .dram, .grp, .chan, .srvAx, .srvCh, .lsr, .hoop, .port, .pci, .ddr, .cave, .boot, .xbar, .out] ⊆ A)  (h : Keeps A s0 s) : KeepsR A s0 (execXtalLoss s) := by
  unfold execXtalLoss
  try dsimp only
  repeat' first | intro _ | with_reducible assumption | with_reducible apply KeepsR.of_next | with_reducible apply keeps_State_safeCause (subParts hA rfl) | with_reducible apply Keeps.upd_boot (subParts hA rfl)

theorem keeps_execPeriod {A : List Part} {s0 s : State} (hA : [.regs, .dram, .grp, .chan, .srvAx, .srvCh, .lsr, .hoop, .port, .pci, .ddr, .intg, .xbar, .out] ⊆ A) (x0 : ℕ) (h : Keeps A s0 s) : KeepsR A s0 (execPeriod x0 s) := by
  unfold execPeriod
  try dsimp only
  repeat' first | intro _ | with_reducible assumption | with_reducible apply KeepsR.of_next | with_reducible apply keeps_decodeOn (subParts hA rfl) | with_reducible apply keeps_State_point (subParts hA rfl)

theorem keeps_execGeneratorInstant {A : List Part} {s0 s : State} (hA : [.regs, .dram, .grp, .chan, .srvAx, .srvCh, .lsr, .hoop, .port, .mot, .fbk, .pci, .ddr, .intg, .xbar, .out] ⊆ A)  (h : Keeps A s0 s) : KeepsR A s0 (execGeneratorInstant s) := by
  unfold execGeneratorInstant
  try dsimp only
  repeat' first | intro _ | with_reducible assumption | with_reducible apply KeepsR.ite | with_reducible apply Keeps.ite | with_reducible apply KeepsR.of_next | with_reducible apply Keeps.each | with_reducible apply keeps_occurs (subParts hA rfl) | with_reducible apply keeps_State_speed (subParts hA rfl) | with_reducible apply keeps_State_channelMoves (subParts hA rfl) | with_reducible apply keeps_State_axisInstant (subParts hA rfl)

theorem keeps_execDuplicateEntryExpiry {A : List Part} {s0 s : State} (hA : [.hoop] ⊆ A)  (h : Keeps A s0 s) : KeepsR A s0 (execDuplicateEntryExpiry s) := by
  unfold execDuplicateEntryExpiry
  try dsimp only
  repeat' first | intro _ | with_reducible assumption | with_reducible apply KeepsR.of_next | with_reducible apply Keeps.upd_hoop (subParts hA rfl)

theorem keeps_State_swapBanks {A : List Part} {s0 s : State} (hA : [.regs, .lgt, .pci, .pwr, .out] ⊆ A)  (h : Keeps A s0 s) : Keeps A s0 (State.swapBanks s) := by
  unfold State.swapBanks
  try dsimp only
  repeat' first | intro _ | with_reducible assumption | with_reducible apply Keeps.ite | with_reducible apply keeps_State_setFld (subParts hA rfl) | with_reducible apply keeps_State_setFlag (subParts hA rfl) | with_reducible apply keeps_State_lightSync (subParts hA rfl)

theorem keeps_execMatrixLine {A : List Part} {s0 s : State} (hA : [.regs, .dram, .grp, .lgt, .pci, .ddr, .intg, .pwr, .out] ⊆ A) (x0 : List ℕ) (h : Keeps A s0 s) : KeepsR A s0 (execMatrixLine x0 s) := by
  unfold execMatrixLine
  try dsimp only
  repeat' first | intro _ | with_reducible assumption | with_reducible apply KeepsR.ite | with_reducible apply Keeps.ite | with_reducible apply KeepsR.of_next | with_reducible apply Keeps.each | with_reducible apply keeps_State_setFlag (subParts hA rfl) | with_reducible apply keeps_occurs (subParts hA rfl) | with_reducible apply keeps_State_shortFound (subParts hA rfl) | with_reducible apply keeps_State_readWords (subParts hA rfl) | with_reducible apply keeps_State_swapBanks (subParts hA rfl) | split | with_reducible apply Keeps.upd_lgt (subParts hA rfl) | (refine Keeps.pair (by assumption) ?_)

theorem keeps_execDomainDrop {A : List Part} {s0 s : State} (hA : [.regs, .dram, .l2, .grp, .armUndo, .chan, .srvAx, .srvCh, .srv, .lsr, .hoop, .port, .dom, .mot, .fbk, .cam, .pipe, .lgt, .strobe, .lane, .head, .dma, .dmaEng, .pci, .eth, .ddr, .intg, .pwr, .cave, .boot, .xbar, .free, .out] ⊆ A) (x0 : ℕ) (h : Keeps A s0 s) : KeepsR A s0 (execDomainDrop x0 s) := by
  unfold execDomainDrop
  try dsimp only
  repeat' first | intro _ | with_reducible assumption | with_reducible apply KeepsR.ite | with_reducible apply Keeps.ite | with_reducible apply KeepsR.of_next | with_reducible apply keeps_State_powerRecord (subParts hA rfl) | with_reducible apply keeps_State_budFree (subParts hA rfl) | with_reducible apply keeps_onUnit (subParts hA rfl) | with_reducible apply keeps_State_setRaising (subParts hA rfl) | with_reducible apply keeps_State_dropNow (subParts hA rfl)

theorem keeps_execHeartbeatWindowEnd {A : List Part} {s0 s : State} (hA : [.regs, .dram, .grp, .chan, .srvAx, .srvCh, .lsr, .hoop, .port, .pci, .ddr, .cave, .boot, .xbar, .out] ⊆ A)  (h : Keeps A s0 s) : KeepsR A s0 (execHeartbeatWindowEnd s) := by
  unfold execHeartbeatWindowEnd
  try dsimp only
  repeat' first | intro _ | with_reducible assumption | with_reducible apply KeepsR.of_next | with_reducible apply keeps_occurs (subParts hA rfl) | with_reducible apply keeps_State_safeCause (subParts hA rfl) | split | with_reducible apply Keeps.upd_boot (subParts hA rfl)

theorem keeps_execRegisterWrite {A : List Part} {s0 s : State} (hA : [.regs, .dram, .l2, .shadow, .staged, .grp, .armUndo, .chan, .srvAx, .srvCh, .srv, .lsr, .hoop, .port, .bulk, .dom, .time, .mot, .fbk, .cam, .pipe, .lgt, .strobe, .lane, .head, .dma, .dmaEng, .pci, .eth, .ddr, .intg, .cal, .pwr, .cave, .boot, .xbar, .free, .out] ⊆ A) (x0 : Source) (x1 : ℕ) (x2 : Word) (h : Keeps A s0 s) : KeepsR A s0 (execRegisterWrite x0 x1 x2 s) := by
  unfold execRegisterWrite
  try dsimp only
  repeat' first | intro _ | with_reducible assumption | with_reducible apply KeepsR.of_next | with_reducible apply keeps_onAddr (subParts hA rfl) | with_reducible apply keeps_State_busWrite (subParts hA rfl)

theorem keeps_execPmAnswerReceived {A : List Part} {s0 s : State} (hA : [.regs, .port, .lane, .head, .pci, .out] ⊆ A) (x0 : ℕ) (x1 : Block) (h : Keeps A s0 s) : KeepsR A s0 (execPmAnswerReceived x0 x1 s) := by
  unfold execPmAnswerReceived
  try dsimp only
  repeat' first | intro _ | with_reducible assumption | with_reducible apply KeepsR.ite | with_reducible apply Keeps.ite | with_reducible apply KeepsR.of_next | with_reducible apply keeps_onLane (subParts hA rfl) | with_reducible apply keeps_State_onBlock (subParts hA rfl) | with_reducible apply keeps_State_countPm (subParts hA rfl) | with_reducible apply keeps_State_enterPm (subParts hA rfl) | split | (refine Keeps.pair (by assumption) ?_)

theorem keeps_execCheckerStart {A : List Part} {s0 s : State} (hA : [.regs, .lane, .pci, .free, .out] ⊆ A) (x0 : ℕ) (x1 : Word) (h : Keeps A s0 s) : KeepsR A s0 (execCheckerStart x0 x1 s) := by
  unfold execCheckerStart
  try dsimp only
  repeat' first | intro _ | with_reducible assumption | with_reducible apply KeepsR.of_next | with_reducible apply keeps_onLaneWrite (subParts hA rfl) | with_reducible apply keeps_State_writeLaneTest (subParts hA rfl)

theorem keeps_execHoldCauseClear {A : List Part} {s0 s : State} (hA : [.grp, .lsr, .hoop, .port] ⊆ A)  (h : Keeps A s0 s) : KeepsR A s0 (execHoldCauseClear s) := by
  unfold execHoldCauseClear
  try dsimp only
  repeat' first | intro _ | with_reducible assumption | with_reducible apply KeepsR.of_next | with_reducible apply keeps_occurs (subParts hA rfl) | with_reducible apply keeps_State_sendHoldEvent (subParts hA rfl) | with_reducible apply keeps_State_computeRestart (subParts hA rfl)

theorem keeps_execLsyncFrameStart {A : List Part} {s0 s : State} (hA : [.regs, .lgt, .pci, .pwr, .out] ⊆ A)  (h : Keeps A s0 s) : KeepsR A s0 (execLsyncFrameStart s) := by
  unfold execLsyncFrameStart
  try dsimp only
  repeat' first | intro _ | with_reducible assumption | with_reducible apply KeepsR.of_next | with_reducible apply keeps_occurs (subParts hA rfl) | with_reducible apply keeps_State_swapBanks (subParts hA rfl) | split | with_reducible apply Keeps.upd_lgt (subParts hA rfl)

theorem keeps_State_linkPacket {A : List Part} {s0 s : State} (hA : [.hoop, .port] ⊆ A) (x1 : ℕ) (x2 : ℕ) (x3 : List Byte) (h : Keeps A s0 s) : Keeps A s0 (State.linkPacket s x1 x2 x3) := by
  unfold State.linkPacket
  try dsimp only
  repeat' first | intro _ | with_reducible assumption | with_reducible apply keeps_State_enqueue (subParts hA rfl) | with_reducible apply keeps_State_nextSeq (subParts hA rfl) | split | (refine Keeps.pair (by assumption) ?_)

theorem keeps_execBar2Write {A : List Part} {s0 s : State} (hA : [.regs, .dram, .pci, .ddr, .out] ⊆ A) (x0 : ℕ) (x1 : List Byte) (x2 : Bool) (h : Keeps A s0 s) : KeepsR A s0 (execBar2Write x0 x1 x2 s) := by
  unfold execBar2Write
  try dsimp only
  repeat' first | intro _ | with_reducible assumption | with_reducible apply KeepsR.ite | with_reducible apply Keeps.ite | with_reducible apply KeepsR.of_next | with_reducible apply keeps_State_writeDram (subParts hA rfl) | with_reducible apply keeps_State_raise (subParts hA rfl) | with_reducible apply keeps_State_bar2Miss (subParts hA rfl) | with_reducible apply keeps_onBar2 (subParts hA rfl)

theorem keeps_execTrig {A : List Part} {s0 s : State} (hA : [.regs, .dram, .grp, .chan, .srvAx, .srvCh, .lsr, .hoop, .port, .pci, .ddr, .intg, .xbar, .out] ⊆ A) (x0 : ℕ) (h : Keeps A s0 s) : KeepsR A s0 (execTrig x0 s) := by
  unfold execTrig
  try dsimp only
  repeat' first | intro _ | with_reducible assumption | with_reducible apply KeepsR.ite | with_reducible apply Keeps.ite | with_reducible apply KeepsR.of_next | with_reducible apply keeps_State_decodeFault (subParts hA rfl) | with_reducible apply keeps_decodeOn (subParts hA rfl) | with_reducible apply keeps_State_point (subParts hA rfl)

theorem keeps_execFunctionLevelReset {A : List Part} {s0 s : State} (hA : [.regs, .dram, .dma, .dmaEng, .pci, .ddr, .out] ⊆ A)  (h : Keeps A s0 s) : KeepsR A s0 (execFunctionLevelReset s) := by
  unfold execFunctionLevelReset
  try dsimp only
  repeat' first | intro _ | with_reducible assumption | with_reducible apply KeepsR.of_next | with_reducible apply keeps_State_raise (subParts hA rfl) | with_reducible apply keeps_State_resetDma (subParts hA rfl) | with_reducible apply keeps_State_resetPci (subParts hA rfl) | with_reducible apply keeps_State_bmeClear (subParts hA rfl)

theorem keeps_execCommit {A : List Part} {s0 s : State} (hA : [.chan, .hoop, .port, .xbar] ⊆ A) (x0 : ℕ) (h : Keeps A s0 s) : KeepsR A s0 (execCommit x0 s) := by
  unfold execCommit
  try dsimp only
  repeat' first | intro _ | with_reducible assumption | with_reducible apply KeepsR.of_next | with_reducible apply keeps_State_sendToken (subParts hA rfl) | with_reducible apply keeps_onUnit (subParts hA rfl) | with_reducible apply keeps_State_putHand (subParts hA rfl) | with_reducible apply keeps_State_withHand (subParts hA rfl)

theorem keeps_State_sampleFrame {A : List Part} {s0 s : State} (hA : [.regs, .srvCh] ⊆ A) (x1 : ℕ) (x2 : V3) (h : Keeps A s0 s) : Keeps A s0 (State.sampleFrame s x1 x2) := by
  unfold State.sampleFrame
  try dsimp only
  repeat' first | intro _ | with_reducible assumption | with_reducible apply Keeps.ite | with_reducible apply Keeps.each | with_reducible apply keeps_State_setFld (subParts hA rfl) | with_reducible apply keeps_State_modSc (subParts hA rfl)

theorem keeps_execUplinkFrame {A : List Part} {s0 s : State} (hA : [.regs, .dram, .grp, .chan, .srvAx, .srvCh, .lsr, .head, .pci, .ddr, .out] ⊆ A) (x0 : ℕ) (x1 : List Block) (h : Keeps A s0 s) : KeepsR A s0 (execUplinkFrame x0 x1 s) := by
  unfold execUplinkFrame
  try dsimp only
  repeat' first | intro _ | with_reducible assumption | with_reducible apply KeepsR.ite | with_reducible apply Keeps.ite | with_reducible apply KeepsR.of_next | with_reducible apply keeps_State_satAdd (subParts hA rfl) | with_reducible apply keeps_State_modHd (subParts hA rfl) | with_reducible apply keeps_onUnit (subParts hA rfl) | with_reducible apply keeps_State_countStray (subParts hA rfl) | with_reducible apply keeps_State_auxAnswer (subParts hA rfl) | with_reducible apply keeps_State_noteArrival (subParts hA rfl) | with_reducible apply keeps_State_tegFrame (subParts hA rfl) | with_reducible apply keeps_State_headReport (subParts hA rfl) | with_reducible apply keeps_State_handFrame (subParts hA rfl) | with_reducible apply keeps_State_sampleFrame (subParts hA rfl) | split

theorem keeps_execPorn {A : List Part} {s0 s : State} (hA : [.regs, .dram, .l2, .shadow, .staged, .readData, .grp, .armUndo, .chan, .srvAx, .srvCh, .srv, .lsr, .hoop, .port, .bulk, .dom, .time, .mot, .fbk, .cam, .pipe, .lgt, .strobe, .lane, .head, .dma, .dmaEng, .pci, .eth, .ddr, .intg, .cal, .pwr, .hk, .cave, .boot, .xbar] ⊆ A)  (h : Keeps A s0 s) : KeepsR A s0 (execPorn s) := by
  unfold execPorn
  try dsimp only
  repeat' first | intro _ | with_reducible assumption | with_reducible apply KeepsR.of_next | with_reducible apply keeps_State_powerUp (subParts hA rfl)

theorem keeps_execRreqReceived {A : List Part} {s0 s : State} (hA : [.regs, .dram, .l2, .shadow, .staged, .grp, .armUndo, .chan, .srvAx, .srvCh, .srv, .lsr, .hoop, .port, .bulk, .dom, .time, .mot, .fbk, .cam, .pipe, .lgt, .strobe, .lane, .head, .dma, .dmaEng, .pci, .eth, .ddr, .intg, .cal, .pwr, .cave, .boot, .xbar, .free, .out] ⊆ A) (x0 : ℕ) (x1 : Packet) (h : Keeps A s0 s) : KeepsR A s0 (execRreqReceived x0 x1 s) := by
  unfold execRreqReceived
  try dsimp only
  repeat' first | intro _ | with_reducible assumption | with_reducible apply KeepsR.ite | with_reducible apply Keeps.ite | with_reducible apply KeepsR.of_next | with_reducible apply keeps_State_receive (subParts hA rfl) | with_reducible apply keeps_State_unicast (subParts hA rfl) | with_reducible apply keeps_onUnit (subParts hA rfl) | with_reducible apply keeps_State_remoteAccess (subParts hA rfl) | split | (refine Keeps.pair3 (by assumption) ?_) | (refine Keeps.pair (by assumption) ?_)

theorem keeps_execYieldSeal {A : List Part} {s0 s : State} (hA : [.regs, .dram, .grp, .chan, .srvAx, .srvCh, .lsr, .hoop, .port, .pci, .ddr, .cave, .xbar, .out] ⊆ A)  (h : Keeps A s0 s) : KeepsR A s0 (execYieldSeal s) := by
  unfold execYieldSeal
  try dsimp only
  repeat' first | intro _ | with_reducible assumption | with_reducible apply KeepsR.ite | with_reducible apply Keeps.ite | with_reducible apply KeepsR.of_next | with_reducible apply keeps_State_sendGroup (subParts hA rfl) | with_reducible apply keeps_State_modGrp (subParts hA rfl) | with_reducible apply keeps_occurs (subParts hA rfl) | with_reducible apply keeps_State_split (subParts hA rfl)

theorem keeps_execTimeExchangeTimeout {A : List Part} {s0 s : State} (hA : [.port] ⊆ A) (x0 : ℕ) (h : Keeps A s0 s) : KeepsR A s0 (execTimeExchangeTimeout x0 s) := by
  unfold execTimeExchangeTimeout
  try dsimp only
  repeat' first | intro _ | with_reducible assumption | with_reducible apply KeepsR.ite | with_reducible apply Keeps.ite | with_reducible apply KeepsR.of_next | with_reducible apply keeps_State_modPt (subParts hA rfl) | with_reducible apply keeps_onUnit (subParts hA rfl) | split

theorem keeps_execBar2Read {A : List Part} {s0 s : State} (hA : [.regs, .pci, .out] ⊆ A) (x0 : ℕ) (x1 : ℕ) (h : Keeps A s0 s) : KeepsR A s0 (execBar2Read x0 x1 s) := by
  unfold execBar2Read
  try dsimp only
  repeat' first | intro _ | with_reducible assumption | with_reducible apply KeepsR.ite | with_reducible apply Keeps.ite | with_reducible apply KeepsR.of_next | with_reducible apply keeps_State_emit (subParts hA rfl) | with_reducible apply keeps_State_raise (subParts hA rfl) | with_reducible apply keeps_State_bar2Miss (subParts hA rfl) | with_reducible apply keeps_onBar2 (subParts hA rfl)

theorem keeps_execBridgeFault {A : List Part} {s0 s : State} (hA : [.regs, .dram, .grp, .mot, .pci, .ddr, .out] ⊆ A) (x0 : Seen ℕ) (h : Keeps A s0 s) : KeepsR A s0 (execBridgeFault x0 s) := by
  unfold execBridgeFault
  try dsimp only
  repeat' first | intro _ | with_reducible assumption | with_reducible apply KeepsR.ite | with_reducible apply Keeps.ite | with_reducible apply KeepsR.of_next | with_reducible apply keeps_onUnit (subParts hA rfl) | with_reducible apply keeps_State_axisFault (subParts hA rfl)

theorem keeps_execRet {A : List Part} {s0 s : State} (hA : [.regs, .dram, .grp, .chan, .srvAx, .srvCh, .lsr, .hoop, .port, .pci, .ddr, .intg, .xbar, .out] ⊆ A) (x0 : ℕ) (h : Keeps A s0 s) : KeepsR A s0 (execRet x0 s) := by
  unfold execRet
  try dsimp only
  repeat' first | intro _ | with_reducible assumption | with_reducible apply KeepsR.ite | with_reducible apply Keeps.ite | with_reducible apply KeepsR.of_next | with_reducible apply keeps_State_modCh (subParts hA rfl) | with_reducible apply keeps_State_decodeFault (subParts hA rfl) | with_reducible apply keeps_decodeOn (subParts hA rfl) | with_reducible apply keeps_State_jumpTo (subParts hA rfl) | split

theorem keeps_execSafeNToggle {A : List Part} {s0 s : State} (hA : [.boot] ⊆ A)  (h : Keeps A s0 s) : KeepsR A s0 (execSafeNToggle s) := by
  unfold execSafeNToggle
  try dsimp only
  repeat' first | intro _ | with_reducible assumption | with_reducible apply KeepsR.of_next | with_reducible apply keeps_occurs (subParts hA rfl) | with_reducible apply Keeps.upd_boot (subParts hA rfl)

theorem keeps_execHoldoverEntry {A : List Part} {s0 s : State} (hA : [.regs, .hoop, .port, .dom, .pci, .out] ⊆ A) (x0 : ℕ) (h : Keeps A s0 s) : KeepsR A s0 (execHoldoverEntry x0 s) := by
  unfold execHoldoverEntry
  try dsimp only
  repeat' first | intro _ | with_reducible assumption | with_reducible apply KeepsR.ite | with_reducible apply Keeps.ite | with_reducible apply KeepsR.of_next | with_reducible apply keeps_State_raise (subParts hA rfl) | with_reducible apply keeps_State_broadcast (subParts hA rfl) | with_reducible apply keeps_State_modDm (subParts hA rfl) | with_reducible apply keeps_onUnit (subParts hA rfl) | with_reducible apply keeps_State_setDomain (subParts hA rfl)

theorem keeps_execLearn {A : List Part} {s0 s : State} (hA : [.regs, .dram, .grp, .chan, .srvAx, .srvCh, .lsr, .hoop, .port, .pci, .ddr, .intg, .xbar, .out] ⊆ A) (x0 : ℕ) (h : Keeps A s0 s) : KeepsR A s0 (execLearn x0 s) := by
  unfold execLearn
  try dsimp only
  repeat' first | intro _ | with_reducible assumption | with_reducible apply KeepsR.of_next | with_reducible apply keeps_decodeOn (subParts hA rfl) | with_reducible apply keeps_State_point (subParts hA rfl)

theorem keeps_execUndefinedOpcode {A : List Part} {s0 s : State} (hA : [.regs, .dram, .grp, .chan, .srvAx, .srvCh, .lsr, .hoop, .port, .pci, .ddr, .intg, .xbar, .out] ⊆ A) (x0 : ℕ) (h : Keeps A s0 s) : KeepsR A s0 (execUndefinedOpcode x0 s) := by
  unfold execUndefinedOpcode
  try dsimp only
  repeat' first | intro _ | with_reducible assumption | with_reducible apply KeepsR.ite | with_reducible apply Keeps.ite | with_reducible apply KeepsR.of_next | with_reducible apply keeps_onUnit (subParts hA rfl) | with_reducible apply keeps_State_feedCheck (subParts hA rfl) | with_reducible apply keeps_State_decodeFault (subParts hA rfl) | with_reducible apply keeps_State_openCurd (subParts hA rfl) | split | (refine Keeps.pair (by assumption) ?_)

theorem keeps_State_checkBit {A : List Part} {s0 s : State} (hA : [.regs, .lane] ⊆ A) (x1 : ℕ) (x2 : Bool) (h : Keeps A s0 s) : Keeps A s0 (State.checkBit s x1 x2) := by
  unfold State.checkBit
  try dsimp only
  repeat' first | intro _ | with_reducible assumption | with_reducible apply Keeps.ite | with_reducible apply keeps_State_setFlag (subParts hA rfl) | with_reducible apply keeps_State_modLn (subParts hA rfl) | with_reducible apply keeps_State_countBit (subParts hA rfl)

theorem keeps_execCheckerSync {A : List Part} {s0 s : State} (hA : [.regs, .lane] ⊆ A) (x0 : ℕ) (x1 : List Bool) (x2 : ℕ) (h : Keeps A s0 s) : KeepsR A s0 (execCheckerSync x0 x1 x2 s) := by
  unfold execCheckerSync
  try dsimp only
  repeat' first | intro _ | with_reducible assumption | with_reducible apply KeepsR.ite | with_reducible apply Keeps.ite | with_reducible apply KeepsR.of_next | with_reducible apply Keeps.foldl | with_reducible apply keeps_State_modLn (subParts hA rfl) | with_reducible apply keeps_onLane (subParts hA rfl) | with_reducible apply keeps_State_checkBit (subParts hA rfl)

theorem keeps_execPulse {A : List Part} {s0 s : State} (hA : [.regs, .dram, .grp, .chan, .srvAx, .srvCh, .lsr, .hoop, .port, .pci, .ddr, .intg, .xbar, .out] ⊆ A) (x0 : ℕ) (h : Keeps A s0 s) : KeepsR A s0 (execPulse x0 s) := by
  unfold execPulse
  try dsimp only
  repeat' first | intro _ | with_reducible assumption | with_reducible apply KeepsR.of_next | with_reducible apply keeps_decodeOn (subParts hA rfl) | with_reducible apply keeps_State_gatePoint (subParts hA rfl)

theorem keeps_execDmaDescriptorFetch {A : List Part} {s0 s : State} (hA : [.regs, .dram, .dma, .dmaEng, .pci, .ddr, .out] ⊆ A) (x0 : ℕ) (x1 : ReadResult) (h : Keeps A s0 s) : KeepsR A s0 (execDmaDescriptorFetch x0 x1 s) := by
  unfold execDmaDescriptorFetch
  try dsimp only
  repeat' first | intro _ | with_reducible assumption | with_reducible apply KeepsR.ite | with_reducible apply Keeps.ite | with_reducible apply KeepsR.of_next | with_reducible apply keeps_State_setDmaState (subParts hA rfl) | with_reducible apply keeps_onDma (subParts hA rfl) | with_reducible apply keeps_State_dmaTake (subParts hA rfl) | split

theorem keeps_execCapexTimeout {A : List Part} {s0 s : State} (hA : [.regs, .lane] ⊆ A) (x0 : ℕ) (h : Keeps A s0 s) : KeepsR A s0 (execCapexTimeout x0 s) := by
  unfold execCapexTimeout
  try dsimp only
  repeat' first | intro _ | with_reducible assumption | with_reducible apply KeepsR.ite | with_reducible apply Keeps.ite | with_reducible apply KeepsR.of_next | with_reducible apply keeps_State_setLane (subParts hA rfl) | with_reducible apply keeps_onLane (subParts hA rfl)

theorem keeps_execEmstopNFall {A : List Part} {s0 s : State} (hA : [.regs, .dram, .grp, .chan, .srvAx, .srvCh, .lsr, .hoop, .port, .pci, .ddr, .cave, .pins, .xbar, .out] ⊆ A)  (h : Keeps A s0 s) : KeepsR A s0 (execEmstopNFall s) := by
  unfold execEmstopNFall
  try dsimp only
  repeat' first | intro _ | with_reducible assumption | with_reducible apply KeepsR.of_next | with_reducible apply keeps_State_satAdd (subParts hA rfl) | with_reducible apply keeps_State_emissionStop (subParts hA rfl) | with_reducible apply keeps_State_stopLayer (subParts hA rfl) | with_reducible apply Keeps.upd_pins (subParts hA rfl)

theorem keeps_execPacketTransmit {A : List Part} {s0 s : State} (hA : [.port, .bulk, .lane, .free, .out] ⊆ A) (x0 : ℕ) (h : Keeps A s0 s) : KeepsR A s0 (execPacketTransmit x0 s) := by
  unfold execPacketTransmit
  try dsimp only
  repeat' first | intro _ | with_reducible assumption | with_reducible apply KeepsR.ite | with_reducible apply Keeps.ite | with_reducible apply KeepsR.of_next | with_reducible apply Keeps.each | with_reducible apply keeps_State_emit (subParts hA rfl) | with_reducible apply keeps_State_modPt (subParts hA rfl) | with_reducible apply keeps_onUnit (subParts hA rfl) | with_reducible apply keeps_State_wakeSend (subParts hA rfl) | with_reducible apply keeps_State_bulkSent (subParts hA rfl) | with_reducible apply keeps_State_stampOut (subParts hA rfl) | split | (refine Keeps.pair (by assumption) ?_)

theorem keeps_execDwell {A : List Part} {s0 s : State} (hA : [.regs, .dram, .grp, .chan, .srvAx, .srvCh, .lsr, .hoop, .port, .pci, .ddr, .intg, .xbar, .out] ⊆ A) (x0 : ℕ) (h : Keeps A s0 s) : KeepsR A s0 (execDwell x0 s) := by
  unfold execDwell
  try dsimp only
  repeat' first | intro _ | with_reducible assumption | with_reducible apply KeepsR.of_next | with_reducible apply keeps_decodeOn (subParts hA rfl) | with_reducible apply keeps_State_segment (subParts hA rfl)

theorem keeps_execPcieLinkActivity {A : List Part} {s0 s : State} (hA : [.regs, .dram, .grp, .dom, .dma, .pci, .ddr, .pwr, .free, .out] ⊆ A)  (h : Keeps A s0 s) : KeepsR A s0 (execPcieLinkActivity s) := by
  unfold execPcieLinkActivity
  try dsimp only
  repeat' first | intro _ | with_reducible assumption | with_reducible apply KeepsR.ite | with_reducible apply Keeps.ite | with_reducible apply KeepsR.of_next | with_reducible apply Keeps.each | with_reducible apply keeps_State_wakeRun (subParts hA rfl) | with_reducible apply keeps_State_revote (subParts hA rfl) | with_reducible apply keeps_State_dmaFinish (subParts hA rfl) | with_reducible apply keeps_State_flushOwed (subParts hA rfl) | with_reducible apply keeps_State_bmeSet (subParts hA rfl) | with_reducible apply keeps_State_linkTrained (subParts hA rfl) | split | with_reducible apply Keeps.upd_pci (subParts hA rfl)

theorem keeps_execTimeRequestReceived {A : List Part} {s0 s : State} (hA : [.hoop, .port] ⊆ A) (x0 : ℕ) (x1 : Packet) (x2 : ℕ) (x3 : ℕ) (h : Keeps A s0 s) : KeepsR A s0 (execTimeRequestReceived x0 x1 x2 x3 s) := by
  unfold execTimeRequestReceived
  try dsimp only
  repeat' first | intro _ | with_reducible assumption | with_reducible apply KeepsR.ite | with_reducible apply Keeps.ite | with_reducible apply KeepsR.of_next | with_reducible apply keeps_onUnit (subParts hA rfl) | with_reducible apply keeps_State_linkPacket (subParts hA rfl)

theorem keeps_execLaneWake {A : List Part} {s0 s : State} (hA : [.lane] ⊆ A) (x0 : ℕ) (h : Keeps A s0 s) : KeepsR A s0 (execLaneWake x0 s) := by
  unfold execLaneWake
  try dsimp only
  repeat' first | intro _ | with_reducible assumption | with_reducible apply KeepsR.of_next | with_reducible apply keeps_onLane (subParts hA rfl) | with_reducible apply keeps_State_wakeLane (subParts hA rfl)

theorem keeps_execTimeExchangeStart {A : List Part} {s0 s : State} (hA : [.hoop, .port] ⊆ A) (x0 : ℕ) (x1 : ℕ) (h : Keeps A s0 s) : KeepsR A s0 (execTimeExchangeStart x0 x1 s) := by
  unfold execTimeExchangeStart
  try dsimp only
  repeat' first | intro _ | with_reducible assumption | with_reducible apply KeepsR.ite | with_reducible apply Keeps.ite | with_reducible apply KeepsR.of_next | with_reducible apply keeps_State_modPt (subParts hA rfl) | with_reducible apply keeps_onUnit (subParts hA rfl) | with_reducible apply keeps_State_linkPacket (subParts hA rfl) | split

theorem keeps_execCommitmentClose {A : List Part} {s0 s : State} (hA : [.regs, .dram, .grp, .chan, .hoop, .port, .pci, .ddr, .xbar, .out] ⊆ A) (x0 : ℕ) (h : Keeps A s0 s) : KeepsR A s0 (execCommitmentClose x0 s) := by
  unfold execCommitmentClose
  try dsimp only
  repeat' first | intro _ | with_reducible assumption | with_reducible apply KeepsR.ite | with_reducible apply Keeps.ite | with_reducible apply KeepsR.of_next | with_reducible apply keeps_onUnit (subParts hA rfl) | with_reducible apply keeps_State_putHand (subParts hA rfl) | with_reducible apply keeps_State_withHand (subParts hA rfl) | with_reducible apply keeps_State_fallBack (subParts hA rfl)

theorem keeps_execCaveClearDone {A : List Part} {s0 s : State} (hA : [.regs, .pci, .cave, .out] ⊆ A)  (h : Keeps A s0 s) : KeepsR A s0 (execCaveClearDone s) := by
  unfold execCaveClearDone
  try dsimp only
  repeat' first | intro _ | with_reducible assumption | with_reducible apply KeepsR.of_next | with_reducible apply Keeps.foldl | with_reducible apply keeps_State_raise (subParts hA rfl) | with_reducible apply keeps_State_setFlag (subParts hA rfl) | with_reducible apply keeps_occurs (subParts hA rfl) | with_reducible apply keeps_State_setSlot (subParts hA rfl)

theorem keeps_execPipelineFrameEnd {A : List Part} {s0 s : State} (hA : [.regs, .dram, .cam, .pipe, .pci, .ddr, .free, .out] ⊆ A)  (h : Keeps A s0 s) : KeepsR A s0 (execPipelineFrameEnd s) := by
  unfold execPipelineFrameEnd
  try dsimp only
  repeat' first | intro _ | with_reducible assumption | with_reducible apply KeepsR.of_next | with_reducible apply keeps_State_deliverFrame (subParts hA rfl) | split

theorem keeps_execAddk {A : List Part} {s0 s : State} (hA : [.regs, .dram, .grp, .chan, .srvAx, .srvCh, .lsr, .hoop, .port, .pci, .ddr, .intg, .xbar, .out] ⊆ A) (x0 : ℕ) (h : Keeps A s0 s) : KeepsR A s0 (execAddk x0 s) := by
  unfold execAddk
  try dsimp only
  repeat' first | intro _ | with_reducible assumption | with_reducible apply KeepsR.of_next | with_reducible apply keeps_decodeOn (subParts hA rfl) | with_reducible apply keeps_State_writeK (subParts hA rfl)

theorem keeps_execYieldPoint {A : List Part} {s0 s : State} (hA : [.regs, .dram, .grp, .chan, .srvAx, .srvCh, .lsr, .hoop, .port, .pci, .ddr, .cave, .xbar, .out] ⊆ A)  (h : Keeps A s0 s) : KeepsR A s0 (execYieldPoint s) := by
  unfold execYieldPoint
  try dsimp only
  repeat' first | intro _ | with_reducible assumption | with_reducible apply KeepsR.ite | with_reducible apply Keeps.ite | with_reducible apply KeepsR.of_next | with_reducible apply Keeps.each | with_reducible apply keeps_State_abortLayer (subParts hA rfl) | with_reducible apply keeps_occurs (subParts hA rfl) | with_reducible apply keeps_State_passYield (subParts hA rfl) | with_reducible apply keeps_State_reachYield (subParts hA rfl) | with_reducible apply keeps_State_beginHold (subParts hA rfl)

theorem keeps_execLon {A : List Part} {s0 s : State} (hA : [.regs, .dram, .grp, .chan, .srvAx, .srvCh, .lsr, .hoop, .port, .pci, .ddr, .intg, .xbar, .out] ⊆ A) (x0 : ℕ) (h : Keeps A s0 s) : KeepsR A s0 (execLon x0 s) := by
  unfold execLon
  try dsimp only
  repeat' first | intro _ | with_reducible assumption | with_reducible apply KeepsR.of_next | with_reducible apply keeps_decodeOn (subParts hA rfl) | with_reducible apply keeps_State_gatePoint (subParts hA rfl)

/-- The parts that a command can change: all but the queue and the variant. -/
def movable : List Part :=
  [.regs, .dram, .l2, .shadow, .staged, .readData, .grp, .armUndo, .chan, .srvAx, .srvCh, .srv, .lsr, .hoop, .port, .bulk, .dom, .time, .mot, .fbk,
   .cam, .pipe, .lgt, .strobe, .lane, .head, .dma, .dmaEng, .pci, .eth, .ddr, .intg, .cal, .pwr, .hk, .cave, .boot, .pins, .xbar, .free, .out]

/-- Every command leaves the queue and the variant, and keeps the tables in canonical form. -/
theorem keeps_exec (c : Instr) (s : State) : KeepsR movable s (exec c s) := by
  cases c with
  | absentUnitAccess src addr write => exact keeps_execAbsentUnitAccess (subParts (List.Subset.refl _) rfl) src addr write (Keeps.refl _ s)
  | absentAccessClear v => exact keeps_execAbsentAccessClear (subParts (List.Subset.refl _) rfl) v (Keeps.refl _ s)
  | wideReadLow src addr => exact keeps_execWideReadLow (subParts (List.Subset.refl _) rfl) src addr (Keeps.refl _ s)
  | wideReadUpper src addr => exact keeps_execWideReadUpper (subParts (List.Subset.refl _) rfl) src addr (Keeps.refl _ s)
  | wideWriteUpper src addr v => exact keeps_execWideWriteUpper (subParts (List.Subset.refl _) rfl) src addr v (Keeps.refl _ s)
  | wideWriteLow src addr v => exact keeps_execWideWriteLow (subParts (List.Subset.refl _) rfl) src addr v (Keeps.refl _ s)
  | registerWrite src addr v => exact keeps_execRegisterWrite (subParts (List.Subset.refl _) rfl) src addr v (Keeps.refl _ s)
  | arm => exact keeps_execArm (subParts (List.Subset.refl _) rfl) (Keeps.refl _ s)
  | armingCheckDone => exact keeps_execArmingCheckDone (subParts (List.Subset.refl _) rfl) (Keeps.refl _ s)
  | wakeAlarm => exact keeps_execWakeAlarm (subParts (List.Subset.refl _) rfl) (Keeps.refl _ s)
  | channelReady ch => exact keeps_execChannelReady (subParts (List.Subset.refl _) rfl) ch (Keeps.refl _ s)
  | startVote => exact keeps_execStartVote (subParts (List.Subset.refl _) rfl) (Keeps.refl _ s)
  | startVoteReceived port pk => exact keeps_execStartVoteReceived (subParts (List.Subset.refl _) rfl) port pk (Keeps.refl _ s)
  | startDecision => exact keeps_execStartDecision (subParts (List.Subset.refl _) rfl) (Keeps.refl _ s)
  | layerStart => exact keeps_execLayerStart (subParts (List.Subset.refl _) rfl) (Keeps.refl _ s)
  | yieldSeal => exact keeps_execYieldSeal (subParts (List.Subset.refl _) rfl) (Keeps.refl _ s)
  | yieldVoteReceived port pk => exact keeps_execYieldVoteReceived (subParts (List.Subset.refl _) rfl) port pk (Keeps.refl _ s)
  | yieldVoteDeadline => exact keeps_execYieldVoteDeadline (subParts (List.Subset.refl _) rfl) (Keeps.refl _ s)
  | yieldDecision => exact keeps_execYieldDecision (subParts (List.Subset.refl _) rfl) (Keeps.refl _ s)
  | yieldPoint => exact keeps_execYieldPoint (subParts (List.Subset.refl _) rfl) (Keeps.refl _ s)
  | holdCauseClear => exact keeps_execHoldCauseClear (subParts (List.Subset.refl _) rfl) (Keeps.refl _ s)
  | holdEventRepeat => exact keeps_execHoldEventRepeat (subParts (List.Subset.refl _) rfl) (Keeps.refl _ s)
  | holdEventReceived port pk => exact keeps_execHoldEventReceived (subParts (List.Subset.refl _) rfl) port pk (Keeps.refl _ s)
  | releaseEventReceived port pk => exact keeps_execReleaseEventReceived (subParts (List.Subset.refl _) rfl) port pk (Keeps.refl _ s)
  | holdRestart => exact keeps_execHoldRestart (subParts (List.Subset.refl _) rfl) (Keeps.refl _ s)
  | abort => exact keeps_execAbort (subParts (List.Subset.refl _) rfl) (Keeps.refl _ s)
  | groupAbortReceived port pk => exact keeps_execGroupAbortReceived (subParts (List.Subset.refl _) rfl) port pk (Keeps.refl _ s)
  | nop ch => exact keeps_execNop (subParts (List.Subset.refl _) rfl) ch (Keeps.refl _ s)
  | undefinedOpcode ch => exact keeps_execUndefinedOpcode (subParts (List.Subset.refl _) rfl) ch (Keeps.refl _ s)
  | halt ch => exact keeps_execHalt (subParts (List.Subset.refl _) rfl) ch (Keeps.refl _ s)
  | wait ch => exact keeps_execWait (subParts (List.Subset.refl _) rfl) ch (Keeps.refl _ s)
  | waitr ch => exact keeps_execWaitr (subParts (List.Subset.refl _) rfl) ch (Keeps.refl _ s)
  | gyield ch => exact keeps_execGyield (subParts (List.Subset.refl _) rfl) ch (Keeps.refl _ s)
  | sync ch => exact keeps_execSync (subParts (List.Subset.refl _) rfl) ch (Keeps.refl _ s)
  | syncDeadline ch => exact keeps_execSyncDeadline (subParts (List.Subset.refl _) rfl) ch (Keeps.refl _ s)
  | sig ch => exact keeps_execSig (subParts (List.Subset.refl _) rfl) ch (Keeps.refl _ s)
  | sigEmit ch => exact keeps_execSigEmit (subParts (List.Subset.refl _) rfl) ch (Keeps.refl _ s)
  | evt ch => exact keeps_execEvt (subParts (List.Subset.refl _) rfl) ch (Keeps.refl _ s)
  | evtAction ch => exact keeps_execEvtAction (subParts (List.Subset.refl _) rfl) ch (Keeps.refl _ s)
  | call ch => exact keeps_execCall (subParts (List.Subset.refl _) rfl) ch (Keeps.refl _ s)
  | ret ch => exact keeps_execRet (subParts (List.Subset.refl _) rfl) ch (Keeps.refl _ s)
  | rep ch => exact keeps_execRep (subParts (List.Subset.refl _) rfl) ch (Keeps.refl _ s)
  | endr ch => exact keeps_execEndr (subParts (List.Subset.refl _) rfl) ch (Keeps.refl _ s)
  | ldk ch => exact keeps_execLdk (subParts (List.Subset.refl _) rfl) ch (Keeps.refl _ s)
  | addk ch => exact keeps_execAddk (subParts (List.Subset.refl _) rfl) ch (Keeps.refl _ s)
  | fence ch => exact keeps_execFence (subParts (List.Subset.refl _) rfl) ch (Keeps.refl _ s)
  | jump ch => exact keeps_execJump (subParts (List.Subset.refl _) rfl) ch (Keeps.refl _ s)
  | line ch => exact keeps_execLine (subParts (List.Subset.refl _) rfl) ch (Keeps.refl _ s)
  | cubic ch => exact keeps_execCubic (subParts (List.Subset.refl _) rfl) ch (Keeps.refl _ s)
  | dwell ch => exact keeps_execDwell (subParts (List.Subset.refl _) rfl) ch (Keeps.refl _ s)
  | focus ch => exact keeps_execFocus (subParts (List.Subset.refl _) rfl) ch (Keeps.refl _ s)
  | period ch => exact keeps_execPeriod (subParts (List.Subset.refl _) rfl) ch (Keeps.refl _ s)
  | learn ch => exact keeps_execLearn (subParts (List.Subset.refl _) rfl) ch (Keeps.refl _ s)
  | gsel ch => exact keeps_execGsel (subParts (List.Subset.refl _) rfl) ch (Keeps.refl _ s)
  | pset ch => exact keeps_execPset (subParts (List.Subset.refl _) rfl) ch (Keeps.refl _ s)
  | pramp ch => exact keeps_execPramp (subParts (List.Subset.refl _) rfl) ch (Keeps.refl _ s)
  | pulse ch => exact keeps_execPulse (subParts (List.Subset.refl _) rfl) ch (Keeps.refl _ s)
  | env ch => exact keeps_execEnv (subParts (List.Subset.refl _) rfl) ch (Keeps.refl _ s)
  | mpl ch => exact keeps_execMpl (subParts (List.Subset.refl _) rfl) ch (Keeps.refl _ s)
  | lon ch => exact keeps_execLon (subParts (List.Subset.refl _) rfl) ch (Keeps.refl _ s)
  | loff ch => exact keeps_execLoff (subParts (List.Subset.refl _) rfl) ch (Keeps.refl _ s)
  | hand ch => exact keeps_execHand (subParts (List.Subset.refl _) rfl) ch (Keeps.refl _ s)
  | trig ch => exact keeps_execTrig (subParts (List.Subset.refl _) rfl) ch (Keeps.refl _ s)
  | move ch => exact keeps_execMove (subParts (List.Subset.refl _) rfl) ch (Keeps.refl _ s)
  | faultTime ch => exact keeps_execFaultTime (subParts (List.Subset.refl _) rfl) ch (Keeps.refl _ s)
  | late ch => exact keeps_execLate (subParts (List.Subset.refl _) rfl) ch (Keeps.refl _ s)
  | gateEdge ch => exact keeps_execGateEdge (subParts (List.Subset.refl _) rfl) ch (Keeps.refl _ s)
  | evaluationInstant ch => exact keeps_execEvaluationInstant (subParts (List.Subset.refl _) rfl) ch (Keeps.refl _ s)
  | powerInstant ch rawA rawB => exact keeps_execPowerInstant (subParts (List.Subset.refl _) rfl) ch rawA rawB (Keeps.refl _ s)
  | seqRingTail ch v => exact keeps_execSeqRingTail (subParts (List.Subset.refl _) rfl) ch v (Keeps.refl _ s)
  | descriptorRead ch => exact keeps_execDescriptorRead (subParts (List.Subset.refl _) rfl) ch (Keeps.refl _ s)
  | ownRetry ch => exact keeps_execOwnRetry (subParts (List.Subset.refl _) rfl) ch (Keeps.refl _ s)
  | walkerFetch ch => exact keeps_execWalkerFetch (subParts (List.Subset.refl _) rfl) ch (Keeps.refl _ s)
  | feedLineArrival ch slot flip => exact keeps_execFeedLineArrival (subParts (List.Subset.refl _) rfl) ch slot flip (Keeps.refl _ s)
  | libraryLoad ch => exact keeps_execLibraryLoad (subParts (List.Subset.refl _) rfl) ch (Keeps.refl _ s)
  | libraryLoadDone ch => exact keeps_execLibraryLoadDone (subParts (List.Subset.refl _) rfl) ch (Keeps.refl _ s)
  | libraryUnload ch => exact keeps_execLibraryUnload (subParts (List.Subset.refl _) rfl) ch (Keeps.refl _ s)
  | channelDisable ch => exact keeps_execChannelDisable (subParts (List.Subset.refl _) rfl) ch (Keeps.refl _ s)
  | channelEnable ch => exact keeps_execChannelEnable (subParts (List.Subset.refl _) rfl) ch (Keeps.refl _ s)
  | seqBlockReset => exact keeps_execSeqBlockReset (subParts (List.Subset.refl _) rfl) (Keeps.refl _ s)
  | seqEvtCtlWrite v => exact keeps_execSeqEvtCtlWrite (subParts (List.Subset.refl _) rfl) v (Keeps.refl _ s)
  | seqEvtBaseWrite v => exact keeps_execSeqEvtBaseWrite (subParts (List.Subset.refl _) rfl) v (Keeps.refl _ s)
  | seqEvtRdWrite v => exact keeps_execSeqEvtRdWrite (subParts (List.Subset.refl _) rfl) v (Keeps.refl _ s)
  | servoPeriodBoundary => exact keeps_execServoPeriodBoundary (subParts (List.Subset.refl _) rfl) (Keeps.refl _ s)
  | axisArithOff a => exact keeps_execAxisArithOff (subParts (List.Subset.refl _) rfl) a (Keeps.refl _ s)
  | staleTrip ch => exact keeps_execStaleTrip (subParts (List.Subset.refl _) rfl) ch (Keeps.refl _ s)
  | srvAxModeWrite a v => exact keeps_execSrvAxModeWrite (subParts (List.Subset.refl _) rfl) a v (Keeps.refl _ s)
  | identificationArm v => exact keeps_execIdentificationArm (subParts (List.Subset.refl _) rfl) v (Keeps.refl _ s)
  | identificationDone => exact keeps_execIdentificationDone (subParts (List.Subset.refl _) rfl) (Keeps.refl _ s)
  | repetitiveTableWrite addr v => exact keeps_execRepetitiveTableWrite (subParts (List.Subset.refl _) rfl) addr v (Keeps.refl _ s)
  | activeGainSetWrite addr v => exact keeps_execActiveGainSetWrite (subParts (List.Subset.refl _) rfl) addr v (Keeps.refl _ s)
  | srvBlockReset => exact keeps_execSrvBlockReset (subParts (List.Subset.refl _) rfl) (Keeps.refl _ s)
  | emstopNFall => exact keeps_execEmstopNFall (subParts (List.Subset.refl _) rfl) (Keeps.refl _ s)
  | emissionStopClear src => exact keeps_execEmissionStopClear (subParts (List.Subset.refl _) rfl) src (Keeps.refl _ s)
  | manualDriveWrite ch v => exact keeps_execManualDriveWrite (subParts (List.Subset.refl _) rfl) ch v (Keeps.refl _ s)
  | lfltNQualified ch high => exact keeps_execLfltNQualified (subParts (List.Subset.refl _) rfl) ch high (Keeps.refl _ s)
  | lrdyQualified ch high => exact keeps_execLrdyQualified (subParts (List.Subset.refl _) rfl) ch high (Keeps.refl _ s)
  | freeCadenceSample ch rawA rawB => exact keeps_execFreeCadenceSample (subParts (List.Subset.refl _) rfl) ch rawA rawB (Keeps.refl _ s)
  | lsrLogCtlWrite ch v => exact keeps_execLsrLogCtlWrite (subParts (List.Subset.refl _) rfl) ch v (Keeps.refl _ s)
  | meltPoolGainSetWrite addr v => exact keeps_execMeltPoolGainSetWrite (subParts (List.Subset.refl _) rfl) addr v (Keeps.refl _ s)
  | lsrActiveSetWrite addr v => exact keeps_execLsrActiveSetWrite (subParts (List.Subset.refl _) rfl) addr v (Keeps.refl _ s)
  | lsrBlockReset => exact keeps_execLsrBlockReset (subParts (List.Subset.refl _) rfl) (Keeps.refl _ s)
  | hoopIdWrite v => exact keeps_execHoopIdWrite (subParts (List.Subset.refl _) rfl) v (Keeps.refl _ s)
  | hoopPortEnable p v => exact keeps_execHoopPortEnable (subParts (List.Subset.refl _) rfl) p v (Keeps.refl _ s)
  | hoopPortDisable p v => exact keeps_execHoopPortDisable (subParts (List.Subset.refl _) rfl) p v (Keeps.refl _ s)
  | hoopPortTeardown p => exact keeps_execHoopPortTeardown (subParts (List.Subset.refl _) rfl) p (Keeps.refl _ s)
  | packetTransmit p => exact keeps_execPacketTransmit (subParts (List.Subset.refl _) rfl) p (Keeps.refl _ s)
  | badPacketReceived p first rest => exact keeps_execBadPacketReceived (subParts (List.Subset.refl _) rfl) p first rest (Keeps.refl _ s)
  | broadcastRepeat => exact keeps_execBroadcastRepeat (subParts (List.Subset.refl _) rfl) (Keeps.refl _ s)
  | duplicateEntryExpiry => exact keeps_execDuplicateEntryExpiry (subParts (List.Subset.refl _) rfl) (Keeps.refl _ s)
  | creditReceived p pk => exact keeps_execCreditReceived (subParts (List.Subset.refl _) rfl) p pk (Keeps.refl _ s)
  | creditSend p => exact keeps_execCreditSend (subParts (List.Subset.refl _) rfl) p (Keeps.refl _ s)
  | eventReceived p pk => exact keeps_execEventReceived (subParts (List.Subset.refl _) rfl) p pk (Keeps.refl _ s)
  | remoteAccessGo v => exact keeps_execRemoteAccessGo (subParts (List.Subset.refl _) rfl) v (Keeps.refl _ s)
  | rreqReceived p pk => exact keeps_execRreqReceived (subParts (List.Subset.refl _) rfl) p pk (Keeps.refl _ s)
  | rrspReceived p pk => exact keeps_execRrspReceived (subParts (List.Subset.refl _) rfl) p pk (Keeps.refl _ s)
  | remoteAccessTimeout => exact keeps_execRemoteAccessTimeout (subParts (List.Subset.refl _) rfl) (Keeps.refl _ s)
  | bulkGo c => exact keeps_execBulkGo (subParts (List.Subset.refl _) rfl) c (Keeps.refl _ s)
  | bulkReceived p pk => exact keeps_execBulkReceived (subParts (List.Subset.refl _) rfl) p pk (Keeps.refl _ s)
  | bulkAckReceived p pk => exact keeps_execBulkAckReceived (subParts (List.Subset.refl _) rfl) p pk (Keeps.refl _ s)
  | bulkTimeout c => exact keeps_execBulkTimeout (subParts (List.Subset.refl _) rfl) c (Keeps.refl _ s)
  | timeExchangeStart p xid => exact keeps_execTimeExchangeStart (subParts (List.Subset.refl _) rfl) p xid (Keeps.refl _ s)
  | timeRequestReceived p pk ago phase => exact keeps_execTimeRequestReceived (subParts (List.Subset.refl _) rfl) p pk ago phase (Keeps.refl _ s)
  | timeResponseReceived p pk x => exact keeps_execTimeResponseReceived (subParts (List.Subset.refl _) rfl) p pk x (Keeps.refl _ s)
  | timeExchangeTimeout p => exact keeps_execTimeExchangeTimeout (subParts (List.Subset.refl _) rfl) p (Keeps.refl _ s)
  | holdoverEntry d => exact keeps_execHoldoverEntry (subParts (List.Subset.refl _) rfl) d (Keeps.refl _ s)
  | timSelWrite v => exact keeps_execTimSelWrite (subParts (List.Subset.refl _) rfl) v (Keeps.refl _ s)
  | domainSwitch => exact keeps_execDomainSwitch (subParts (List.Subset.refl _) rfl) (Keeps.refl _ s)
  | calendarAdj => exact keeps_execCalendarAdj (subParts (List.Subset.refl _) rfl) (Keeps.refl _ s)
  | calendarSet => exact keeps_execCalendarSet (subParts (List.Subset.refl _) rfl) (Keeps.refl _ s)
  | ppsOutEdge => exact keeps_execPpsOutEdge (subParts (List.Subset.refl _) rfl) (Keeps.refl _ s)
  | ppsInEdge => exact keeps_execPpsInEdge (subParts (List.Subset.refl _) rfl) (Keeps.refl _ s)
  | hoopBlockReset => exact keeps_execHoopBlockReset (subParts (List.Subset.refl _) rfl) (Keeps.refl _ s)
  | handTokenReceived origin pk => exact keeps_execHandTokenReceived (subParts (List.Subset.refl _) rfl) origin pk (Keeps.refl _ s)
  | tokenExpiry ch => exact keeps_execTokenExpiry (subParts (List.Subset.refl _) rfl) ch (Keeps.refl _ s)
  | commit ch => exact keeps_execCommit (subParts (List.Subset.refl _) rfl) ch (Keeps.refl _ s)
  | commitmentClose ch => exact keeps_execCommitmentClose (subParts (List.Subset.refl _) rfl) ch (Keeps.refl _ s)
  | handDecision ch => exact keeps_execHandDecision (subParts (List.Subset.refl _) rfl) ch (Keeps.refl _ s)
  | handEnd ch => exact keeps_execHandEnd (subParts (List.Subset.refl _) rfl) ch (Keeps.refl _ s)
  | handRecordTimeout ch => exact keeps_execHandRecordTimeout (subParts (List.Subset.refl _) rfl) ch (Keeps.refl _ s)
  | fieldTableWrite addr v => exact keeps_execFieldTableWrite (subParts (List.Subset.refl _) rfl) addr v (Keeps.refl _ s)
  | stiBlockReset => exact keeps_execStiBlockReset (subParts (List.Subset.refl _) rfl) (Keeps.refl _ s)
  | generatorInstant => exact keeps_execGeneratorInstant (subParts (List.Subset.refl _) rfl) (Keeps.refl _ s)
  | motGo a v => exact keeps_execMotGo (subParts (List.Subset.refl _) rfl) a v (Keeps.refl _ s)
  | motHome a v => exact keeps_execMotHome (subParts (List.Subset.refl _) rfl) a v (Keeps.refl _ s)
  | axisDisable a v => exact keeps_execAxisDisable (subParts (List.Subset.refl _) rfl) a v (Keeps.refl _ s)
  | axisEnable a v => exact keeps_execAxisEnable (subParts (List.Subset.refl _) rfl) a v (Keeps.refl _ s)
  | motAxPosWrite a v => exact keeps_execMotAxPosWrite (subParts (List.Subset.refl _) rfl) a v (Keeps.refl _ s)
  | pwmPeriod a bitsA bitsB => exact keeps_execPwmPeriod (subParts (List.Subset.refl _) rfl) a bitsA bitsB (Keeps.refl _ s)
  | stall a => exact keeps_execStall (subParts (List.Subset.refl _) rfl) a (Keeps.refl _ s)
  | bridgeFault a => exact keeps_execBridgeFault (subParts (List.Subset.refl _) rfl) a (Keeps.refl _ s)
  | overcurrent a => exact keeps_execOvercurrent (subParts (List.Subset.refl _) rfl) a (Keeps.refl _ s)
  | sdloss a => exact keeps_execSdloss (subParts (List.Subset.refl _) rfl) a (Keeps.refl _ s)
  | standstill a => exact keeps_execStandstill (subParts (List.Subset.refl _) rfl) a (Keeps.refl _ s)
  | limitQualified f positive level => exact keeps_execLimitQualified (subParts (List.Subset.refl _) rfl) f positive level (Keeps.refl _ s)
  | homeEdgeQualified f home limp limn => exact keeps_execHomeEdgeQualified (subParts (List.Subset.refl _) rfl) f home limp limn (Keeps.refl _ s)
  | feedbackEdge f levelA levelB => exact keeps_execFeedbackEdge (subParts (List.Subset.refl _) rfl) f levelA levelB (Keeps.refl _ s)
  | indexEdge f => exact keeps_execIndexEdge (subParts (List.Subset.refl _) rfl) f (Keeps.refl _ s)
  | fbkCountWrite f v => exact keeps_execFbkCountWrite (subParts (List.Subset.refl _) rfl) f v (Keeps.refl _ s)
  | fbkCmpposWrite f v => exact keeps_execFbkCmpposWrite (subParts (List.Subset.refl _) rfl) f v (Keeps.refl _ s)
  | motBlockReset => exact keeps_execMotBlockReset (subParts (List.Subset.refl _) rfl) (Keeps.refl _ s)
  | fbkBlockReset => exact keeps_execFbkBlockReset (subParts (List.Subset.refl _) rfl) (Keeps.refl _ s)
  | cameraPortEnable p v => exact keeps_execCameraPortEnable (subParts (List.Subset.refl _) rfl) p v (Keeps.refl _ s)
  | cameraPortDisable p v => exact keeps_execCameraPortDisable (subParts (List.Subset.refl _) rfl) p v (Keeps.refl _ s)
  | frameStart p => exact keeps_execFrameStart (subParts (List.Subset.refl _) rfl) p (Keeps.refl _ s)
  | cameraLine p edges => exact keeps_execCameraLine (subParts (List.Subset.refl _) rfl) p edges (Keeps.refl _ s)
  | frameEndAtPort p => exact keeps_execFrameEndAtPort (subParts (List.Subset.refl _) rfl) p (Keeps.refl _ s)
  | pipelinePortSelect => exact keeps_execPipelinePortSelect (subParts (List.Subset.refl _) rfl) (Keeps.refl _ s)
  | stripeEnd flip => exact keeps_execStripeEnd (subParts (List.Subset.refl _) rfl) flip (Keeps.refl _ s)
  | pipelineFrameEnd => exact keeps_execPipelineFrameEnd (subParts (List.Subset.refl _) rfl) (Keeps.refl _ s)
  | hostTrigger p v => exact keeps_execHostTrigger (subParts (List.Subset.refl _) rfl) p v (Keeps.refl _ s)
  | trigPulse ch => exact keeps_execTrigPulse (subParts (List.Subset.refl _) rfl) ch (Keeps.refl _ s)
  | i2cGo p v => exact keeps_execI2cGo (subParts (List.Subset.refl _) rfl) p v (Keeps.refl _ s)
  | i2cDone p code data => exact keeps_execI2cDone (subParts (List.Subset.refl _) rfl) p code data (Keeps.refl _ s)
  | exposureCommit p v => exact keeps_execExposureCommit (subParts (List.Subset.refl _) rfl) p v (Keeps.refl _ s)
  | cameraTableWrite addr v => exact keeps_execCameraTableWrite (subParts (List.Subset.refl _) rfl) addr v (Keeps.refl _ s)
  | camBlockReset => exact keeps_execCamBlockReset (subParts (List.Subset.refl _) rfl) (Keeps.refl _ s)
  | lgtEnable v => exact keeps_execLgtEnable (subParts (List.Subset.refl _) rfl) v (Keeps.refl _ s)
  | shortTestDone shorted => exact keeps_execShortTestDone (subParts (List.Subset.refl _) rfl) shorted (Keeps.refl _ s)
  | lgtDisable v => exact keeps_execLgtDisable (subParts (List.Subset.refl _) rfl) v (Keeps.refl _ s)
  | sinkWrite addr v => exact keeps_execSinkWrite (subParts (List.Subset.refl _) rfl) addr v (Keeps.refl _ s)
  | matrixLine shorted => exact keeps_execMatrixLine (subParts (List.Subset.refl _) rfl) shorted (Keeps.refl _ s)
  | swap => exact keeps_execSwap (subParts (List.Subset.refl _) rfl) (Keeps.refl _ s)
  | lsyncEdge => exact keeps_execLsyncEdge (subParts (List.Subset.refl _) rfl) (Keeps.refl _ s)
  | lsyncFrameStart => exact keeps_execLsyncFrameStart (subParts (List.Subset.refl _) rfl) (Keeps.refl _ s)
  | lgtTestRun => exact keeps_execLgtTestRun (subParts (List.Subset.refl _) rfl) (Keeps.refl _ s)
  | shortClear high v => exact keeps_execShortClear (subParts (List.Subset.refl _) rfl) high v (Keeps.refl _ s)
  | strobeEnable k v => exact keeps_execStrobeEnable (subParts (List.Subset.refl _) rfl) k v (Keeps.refl _ s)
  | strobePulse k v => exact keeps_execStrobePulse (subParts (List.Subset.refl _) rfl) k v (Keeps.refl _ s)
  | strobeCut k => exact keeps_execStrobeCut (subParts (List.Subset.refl _) rfl) k (Keeps.refl _ s)
  | strobeOvercurrent k => exact keeps_execStrobeOvercurrent (subParts (List.Subset.refl _) rfl) k (Keeps.refl _ s)
  | strobeNorise k => exact keeps_execStrobeNorise (subParts (List.Subset.refl _) rfl) k (Keeps.refl _ s)
  | lgtBlockReset => exact keeps_execLgtBlockReset (subParts (List.Subset.refl _) rfl) (Keeps.refl _ s)
  | headLaneEnable n v => exact keeps_execHeadLaneEnable (subParts (List.Subset.refl _) rfl) n v (Keeps.refl _ s)
  | headLaneDisable n v => exact keeps_execHeadLaneDisable (subParts (List.Subset.refl _) rfl) n v (Keeps.refl _ s)
  | terminationProbe l found => exact keeps_execTerminationProbe (subParts (List.Subset.refl _) rfl) l found (Keeps.refl _ s)
  | blockLock l => exact keeps_execBlockLock (subParts (List.Subset.refl _) rfl) l (Keeps.refl _ s)
  | lockLoss l => exact keeps_execLockLoss (subParts (List.Subset.refl _) rfl) l (Keeps.refl _ s)
  | trainTimer l => exact keeps_execTrainTimer (subParts (List.Subset.refl _) rfl) l (Keeps.refl _ s)
  | trainfail l => exact keeps_execTrainfail (subParts (List.Subset.refl _) rfl) l (Keeps.refl _ s)
  | capReceived l block => exact keeps_execCapReceived (subParts (List.Subset.refl _) rfl) l block (Keeps.refl _ s)
  | capexTimeout l => exact keeps_execCapexTimeout (subParts (List.Subset.refl _) rfl) l (Keeps.refl _ s)
  | trainBlockReceived l => exact keeps_execTrainBlockReceived (subParts (List.Subset.refl _) rfl) l (Keeps.refl _ s)
  | alignReceived l block => exact keeps_execAlignReceived (subParts (List.Subset.refl _) rfl) l block (Keeps.refl _ s)
  | laneTxeqWrite l v => exact keeps_execLaneTxeqWrite (subParts (List.Subset.refl _) rfl) l v (Keeps.refl _ s)
  | eyeMeasure l width => exact keeps_execEyeMeasure (subParts (List.Subset.refl _) rfl) l width (Keeps.refl _ s)
  | lanePmRequest l v => exact keeps_execLanePmRequest (subParts (List.Subset.refl _) rfl) l v (Keeps.refl _ s)
  | pmRequestReceived l block => exact keeps_execPmRequestReceived (subParts (List.Subset.refl _) rfl) l block (Keeps.refl _ s)
  | pmAnswerReceived l block => exact keeps_execPmAnswerReceived (subParts (List.Subset.refl _) rfl) l block (Keeps.refl _ s)
  | pmTimeout l => exact keeps_execPmTimeout (subParts (List.Subset.refl _) rfl) l (Keeps.refl _ s)
  | laneWake l => exact keeps_execLaneWake (subParts (List.Subset.refl _) rfl) l (Keeps.refl _ s)
  | laneWakeDone l => exact keeps_execLaneWakeDone (subParts (List.Subset.refl _) rfl) l (Keeps.refl _ s)
  | laneTestModeWrite l v => exact keeps_execLaneTestModeWrite (subParts (List.Subset.refl _) rfl) l v (Keeps.refl _ s)
  | checkerStart l v => exact keeps_execCheckerStart (subParts (List.Subset.refl _) rfl) l v (Keeps.refl _ s)
  | checkerSync l received n => exact keeps_execCheckerSync (subParts (List.Subset.refl _) rfl) l received n (Keeps.refl _ s)
  | inj1 l => exact keeps_execInj1 (subParts (List.Subset.refl _) rfl) l (Keeps.refl _ s)
  | downlinkFrame n => exact keeps_execDownlinkFrame (subParts (List.Subset.refl _) rfl) n (Keeps.refl _ s)
  | uplinkFrame n blocks => exact keeps_execUplinkFrame (subParts (List.Subset.refl _) rfl) n blocks (Keeps.refl _ s)
  | auxGo n v => exact keeps_execAuxGo (subParts (List.Subset.refl _) rfl) n v (Keeps.refl _ s)
  | auxTimeout n => exact keeps_execAuxTimeout (subParts (List.Subset.refl _) rfl) n (Keeps.refl _ s)
  | headConfigRetry n => exact keeps_execHeadConfigRetry (subParts (List.Subset.refl _) rfl) n (Keeps.refl _ s)
  | laneBlockReset => exact keeps_execLaneBlockReset (subParts (List.Subset.refl _) rfl) (Keeps.refl _ s)
  | hlBlockReset => exact keeps_execHlBlockReset (subParts (List.Subset.refl _) rfl) (Keeps.refl _ s)
  | bar2Read off len => exact keeps_execBar2Read (subParts (List.Subset.refl _) rfl) off len (Keeps.refl _ s)
  | bar2Write off bytes poisoned => exact keeps_execBar2Write (subParts (List.Subset.refl _) rfl) off bytes poisoned (Keeps.refl _ s)
  | msixUnmask vector => exact keeps_execMsixUnmask (subParts (List.Subset.refl _) rfl) vector (Keeps.refl _ s)
  | fwirqSet v => exact keeps_execFwirqSet (subParts (List.Subset.refl _) rfl) v (Keeps.refl _ s)
  | fwirqClear v => exact keeps_execFwirqClear (subParts (List.Subset.refl _) rfl) v (Keeps.refl _ s)
  | functionLevelReset => exact keeps_execFunctionLevelReset (subParts (List.Subset.refl _) rfl) (Keeps.refl _ s)
  | linkDown => exact keeps_execLinkDown (subParts (List.Subset.refl _) rfl) (Keeps.refl _ s)
  | busMasterDisable => exact keeps_execBusMasterDisable (subParts (List.Subset.refl _) rfl) (Keeps.refl _ s)
  | perstNAssert => exact keeps_execPerstNAssert (subParts (List.Subset.refl _) rfl) (Keeps.refl _ s)
  | ethPortEnable e v => exact keeps_execEthPortEnable (subParts (List.Subset.refl _) rfl) e v (Keeps.refl _ s)
  | ethTxDoorbell e v => exact keeps_execEthTxDoorbell (subParts (List.Subset.refl _) rfl) e v (Keeps.refl _ s)
  | ethRxDoorbell e v => exact keeps_execEthRxDoorbell (subParts (List.Subset.refl _) rfl) e v (Keeps.refl _ s)
  | ethFrameSent e => exact keeps_execEthFrameSent (subParts (List.Subset.refl _) rfl) e (Keeps.refl _ s)
  | ethFrameReceived e bytes check => exact keeps_execEthFrameReceived (subParts (List.Subset.refl _) rfl) e bytes check (Keeps.refl _ s)
  | pauseReceived e quanta => exact keeps_execPauseReceived (subParts (List.Subset.refl _) rfl) e quanta (Keeps.refl _ s)
  | ethLinkChange e pcs => exact keeps_execEthLinkChange (subParts (List.Subset.refl _) rfl) e pcs (Keeps.refl _ s)
  | ethI2cGo e v => exact keeps_execEthI2cGo (subParts (List.Subset.refl _) rfl) e v (Keeps.refl _ s)
  | ethI2cDone e code data => exact keeps_execEthI2cDone (subParts (List.Subset.refl _) rfl) e code data (Keeps.refl _ s)
  | dmaDoorbell n v => exact keeps_execDmaDoorbell (subParts (List.Subset.refl _) rfl) n v (Keeps.refl _ s)
  | dmaDescriptorFetch n host => exact keeps_execDmaDescriptorFetch (subParts (List.Subset.refl _) rfl) n host (Keeps.refl _ s)
  | dmaReadCompletion n host => exact keeps_execDmaReadCompletion (subParts (List.Subset.refl _) rfl) n host (Keeps.refl _ s)
  | completionTimeout n => exact keeps_execCompletionTimeout (subParts (List.Subset.refl _) rfl) n (Keeps.refl _ s)
  | dmaSegmentWrite n => exact keeps_execDmaSegmentWrite (subParts (List.Subset.refl _) rfl) n (Keeps.refl _ s)
  | dmaEnable n v => exact keeps_execDmaEnable (subParts (List.Subset.refl _) rfl) n v (Keeps.refl _ s)
  | dmaDisable n v => exact keeps_execDmaDisable (subParts (List.Subset.refl _) rfl) n v (Keeps.refl _ s)
  | dmaRestart n => exact keeps_execDmaRestart (subParts (List.Subset.refl _) rfl) n (Keeps.refl _ s)
  | dmaBlockReset => exact keeps_execDmaBlockReset (subParts (List.Subset.refl _) rfl) (Keeps.refl _ s)
  | ethBlockReset => exact keeps_execEthBlockReset (subParts (List.Subset.refl _) rfl) (Keeps.refl _ s)
  | ddrCfgWrite v => exact keeps_execDdrCfgWrite (subParts (List.Subset.refl _) rfl) v (Keeps.refl _ s)
  | ddrInit => exact keeps_execDdrInit (subParts (List.Subset.refl _) rfl) (Keeps.refl _ s)
  | ddrInitDone steps => exact keeps_execDdrInitDone (subParts (List.Subset.refl _) rfl) steps (Keeps.refl _ s)
  | dramRequest sub => exact keeps_execDramRequest (subParts (List.Subset.refl _) rfl) sub (Keeps.refl _ s)
  | dramReadReturn line corrected => exact keeps_execDramReadReturn (subParts (List.Subset.refl _) rfl) line corrected (Keeps.refl _ s)
  | refresh sub => exact keeps_execRefresh (subParts (List.Subset.refl _) rfl) sub (Keeps.refl _ s)
  | periodicTraining k => exact keeps_execPeriodicTraining (subParts (List.Subset.refl _) rfl) k (Keeps.refl _ s)
  | ddrBlockReset => exact keeps_execDdrBlockReset (subParts (List.Subset.refl _) rfl) (Keeps.refl _ s)
  | scrubPass => exact keeps_execScrubPass (subParts (List.Subset.refl _) rfl) (Keeps.refl _ s)
  | scrubRead cls index finding => exact keeps_execScrubRead (subParts (List.Subset.refl _) rfl) cls index finding (Keeps.refl _ s)
  | remapFree cls e v => exact keeps_execRemapFree (subParts (List.Subset.refl _) rfl) cls e v (Keeps.refl _ s)
  | bist => exact keeps_execBist (subParts (List.Subset.refl _) rfl) (Keeps.refl _ s)
  | bistDone failed => exact keeps_execBistDone (subParts (List.Subset.refl _) rfl) failed (Keeps.refl _ s)
  | splitWriteArm v => exact keeps_execSplitWriteArm (subParts (List.Subset.refl _) rfl) v (Keeps.refl _ s)
  | splitResidue v => exact keeps_execSplitResidue (subParts (List.Subset.refl _) rfl) v (Keeps.refl _ s)
  | intgBlockReset => exact keeps_execIntgBlockReset (subParts (List.Subset.refl _) rfl) (Keeps.refl _ s)
  | calOpen g => exact keeps_execCalOpen (subParts (List.Subset.refl _) rfl) g (Keeps.refl _ s)
  | calRepeat g => exact keeps_execCalRepeat (subParts (List.Subset.refl _) rfl) g (Keeps.refl _ s)
  | calAbort g => exact keeps_execCalAbort (subParts (List.Subset.refl _) rfl) g (Keeps.refl _ s)
  | calRestore g => exact keeps_execCalRestore (subParts (List.Subset.refl _) rfl) g (Keeps.refl _ s)
  | calApply g => exact keeps_execCalApply (subParts (List.Subset.refl _) rfl) g (Keeps.refl _ s)
  | calApplyEffect g => exact keeps_execCalApplyEffect (subParts (List.Subset.refl _) rfl) g (Keeps.refl _ s)
  | pendingSetWrite addr v => exact keeps_execPendingSetWrite (subParts (List.Subset.refl _) rfl) addr v (Keeps.refl _ s)
  | skewQualityWrite ch last => exact keeps_execSkewQualityWrite (subParts (List.Subset.refl _) rfl) ch last (Keeps.refl _ s)
  | calBlockReset => exact keeps_execCalBlockReset (subParts (List.Subset.refl _) rfl) (Keeps.refl _ s)
  | stateRequest src v => exact keeps_execStateRequest (subParts (List.Subset.refl _) rfl) src v (Keeps.refl _ s)
  | fwvoteWrite src v => exact keeps_execFwvoteWrite (subParts (List.Subset.refl _) rfl) src v (Keeps.refl _ s)
  | hostvoteWrite src v => exact keeps_execHostvoteWrite (subParts (List.Subset.refl _) rfl) src v (Keeps.refl _ s)
  | clientVote client d => exact keeps_execClientVote (subParts (List.Subset.refl _) rfl) client d (Keeps.refl _ s)
  | pwrForceWrite src v => exact keeps_execPwrForceWrite (subParts (List.Subset.refl _) rfl) src v (Keeps.refl _ s)
  | domainRaise d => exact keeps_execDomainRaise (subParts (List.Subset.refl _) rfl) d (Keeps.refl _ s)
  | domainUp d => exact keeps_execDomainUp (subParts (List.Subset.refl _) rfl) d (Keeps.refl _ s)
  | pgoodTimeout d => exact keeps_execPgoodTimeout (subParts (List.Subset.refl _) rfl) d (Keeps.refl _ s)
  | pgoodLoss d => exact keeps_execPgoodLoss (subParts (List.Subset.refl _) rfl) d (Keeps.refl _ s)
  | domainDrop d => exact keeps_execDomainDrop (subParts (List.Subset.refl _) rfl) d (Keeps.refl _ s)
  | holdTimeout => exact keeps_execHoldTimeout (subParts (List.Subset.refl _) rfl) (Keeps.refl _ s)
  | wakeBall => exact keeps_execWakeBall (subParts (List.Subset.refl _) rfl) (Keeps.refl _ s)
  | pwrAlarmExpiry => exact keeps_execPwrAlarmExpiry (subParts (List.Subset.refl _) rfl) (Keeps.refl _ s)
  | budgetGrant b => exact keeps_execBudgetGrant (subParts (List.Subset.refl _) rfl) b (Keeps.refl _ s)
  | thermalRequest => exact keeps_execThermalRequest (subParts (List.Subset.refl _) rfl) (Keeps.refl _ s)
  | pwrPauseWrite v => exact keeps_execPwrPauseWrite (subParts (List.Subset.refl _) rfl) v (Keeps.refl _ s)
  | housekeepingRound r => exact keeps_execHousekeepingRound (subParts (List.Subset.refl _) rfl) r (Keeps.refl _ s)
  | shutdownDomainDrop => exact keeps_execShutdownDomainDrop (subParts (List.Subset.refl _) rfl) (Keeps.refl _ s)
  | pwrBlockReset src => exact keeps_execPwrBlockReset (subParts (List.Subset.refl _) rfl) src (Keeps.refl _ s)
  | hkBlockReset => exact keeps_execHkBlockReset (subParts (List.Subset.refl _) rfl) (Keeps.refl _ s)
  | caveRecordWrite => exact keeps_execCaveRecordWrite (subParts (List.Subset.refl _) rfl) (Keeps.refl _ s)
  | caveScanDone => exact keeps_execCaveScanDone (subParts (List.Subset.refl _) rfl) (Keeps.refl _ s)
  | cavePost src v => exact keeps_execCavePost (subParts (List.Subset.refl _) rfl) src v (Keeps.refl _ s)
  | caveFreeze => exact keeps_execCaveFreeze (subParts (List.Subset.refl _) rfl) (Keeps.refl _ s)
  | caveUnfreeze => exact keeps_execCaveUnfreeze (subParts (List.Subset.refl _) rfl) (Keeps.refl _ s)
  | caveReadFetch v => exact keeps_execCaveReadFetch (subParts (List.Subset.refl _) rfl) v (Keeps.refl _ s)
  | caveFetchDone => exact keeps_execCaveFetchDone (subParts (List.Subset.refl _) rfl) (Keeps.refl _ s)
  | caveProvision => exact keeps_execCaveProvision (subParts (List.Subset.refl _) rfl) (Keeps.refl _ s)
  | challenge => exact keeps_execChallenge (subParts (List.Subset.refl _) rfl) (Keeps.refl _ s)
  | challengeExpiry => exact keeps_execChallengeExpiry (subParts (List.Subset.refl _) rfl) (Keeps.refl _ s)
  | clear src => exact keeps_execClear (subParts (List.Subset.refl _) rfl) src (Keeps.refl _ s)
  | caveClearDone => exact keeps_execCaveClearDone (subParts (List.Subset.refl _) rfl) (Keeps.refl _ s)
  | caveBlockReset => exact keeps_execCaveBlockReset (subParts (List.Subset.refl _) rfl) (Keeps.refl _ s)
  | porn => exact keeps_execPorn (subParts (List.Subset.refl _) rfl) (Keeps.refl _ s)
  | sysrstN => exact keeps_execSysrstN (subParts (List.Subset.refl _) rfl) (Keeps.refl _ s)
  | softwareWarmReset v => exact keeps_execSoftwareWarmReset (subParts (List.Subset.refl _) rfl) v (Keeps.refl _ s)
  | xtal32Switch => exact keeps_execXtal32Switch (subParts (List.Subset.refl _) rfl) (Keeps.refl _ s)
  | boot slotA slotB => exact keeps_execBoot (subParts (List.Subset.refl _) rfl) slotA slotB (Keeps.refl _ s)
  | stagingWrite addr v => exact keeps_execStagingWrite (subParts (List.Subset.refl _) rfl) addr v (Keeps.refl _ s)
  | bootGo => exact keeps_execBootGo (subParts (List.Subset.refl _) rfl) (Keeps.refl _ s)
  | bootProvision => exact keeps_execBootProvision (subParts (List.Subset.refl _) rfl) (Keeps.refl _ s)
  | kick src v => exact keeps_execKick (subParts (List.Subset.refl _) rfl) src v (Keeps.refl _ s)
  | heartbeatWindowEnd => exact keeps_execHeartbeatWindowEnd (subParts (List.Subset.refl _) rfl) (Keeps.refl _ s)
  | safeEnter src => exact keeps_execSafeEnter (subParts (List.Subset.refl _) rfl) src (Keeps.refl _ s)
  | xtalLoss => exact keeps_execXtalLoss (subParts (List.Subset.refl _) rfl) (Keeps.refl _ s)
  | safeNToggle => exact keeps_execSafeNToggle (subParts (List.Subset.refl _) rfl) (Keeps.refl _ s)
  | extest => exact keeps_execExtest (subParts (List.Subset.refl _) rfl) (Keeps.refl _ s)
  | vddAonLoss => exact keeps_execVddAonLoss (subParts (List.Subset.refl _) rfl) (Keeps.refl _ s)
  | perstNRelease => exact keeps_execPerstNRelease (subParts (List.Subset.refl _) rfl) (Keeps.refl _ s)
  | pcieLinkActivity => exact keeps_execPcieLinkActivity (subParts (List.Subset.refl _) rfl) (Keeps.refl _ s)
  | pmeTurnOff => exact keeps_execPmeTurnOff (subParts (List.Subset.refl _) rfl) (Keeps.refl _ s)
  | timDCfgWrite d v => exact keeps_execTimDCfgWrite (subParts (List.Subset.refl _) rfl) d v (Keeps.refl _ s)
  | feedbackInterfaceEnable f v => exact keeps_execFeedbackInterfaceEnable (subParts (List.Subset.refl _) rfl) f v (Keeps.refl _ s)
  | stbIsnCrossing k v => exact keeps_execStbIsnCrossing (subParts (List.Subset.refl _) rfl) k v (Keeps.refl _ s)

/-- The state after reset has every table in canonical form. -/
theorem reset_canon : State.reset.canon = true := by decide

/-- A write to DRAM keeps the memory's canonical form. -/
theorem Memory.wf_storeBytes {m : List Host.Cell} (off : Nat) (bs : List Byte) (h : Memory.wf m = true) :
    Memory.wf (storeBytes m off bs) = true := tabWf_storeBytes off bs h

theorem Memory.wf_writeDram (s : State) (off : Nat) (bs : List Byte) (h : Memory.wf s.dram = true) :
    Memory.wf (s.writeDram off bs).dram = true := by
  unfold State.writeDram
  repeat' split
  all_goals first | exact tabWf_storeSound _ off bs h | exact h

theorem Memory.wf_setSlot (s : State) (k : Nat) (bs : List Byte) (h : Memory.wf s.cave.die = true) :
    Memory.wf (s.setSlot k bs).cave.die = true := Memory.wf_storeBytes _ bs h

end Sys2Proof.Machine
end

