-- ==== Sys2Proof/Laws/Ops.lean ====
section
/-!
SUPPORT. Fields of words, and what the shared operations over registers, interrupts and captures can do.
-/

namespace Sys2Proof.Machine

/-! ### Fields of words -/

theorem toNat_withField (f : Field) (w : Word) (v : Nat) (h : f.lo + f.width ≤ 32) :
    (withField f w v).toNat =
      w.toNat / 2 ^ (f.lo + f.width) * 2 ^ (f.lo + f.width) + (v % 2 ^ f.width) * 2 ^ f.lo + w.toNat % 2 ^ f.lo := by
  obtain ⟨lo, wd⟩ := f
  simp only at h
  have hw : w.toNat < 2 ^ 32 := w.isLt
  simp only [withField, field, BitVec.toNat_ofNat, Nat.shiftRight_eq_div_pow, Nat.shiftLeft_eq]
  set n := w.toNat
  have hp : 2 ^ (lo + wd) = 2 ^ lo * 2 ^ wd := pow_add 2 lo wd
  have h1 : n = n / 2 ^ lo * 2 ^ lo + n % 2 ^ lo := by
    have := Nat.div_add_mod n (2 ^ lo); rw [Nat.mul_comm] at this; omega
  have h2 : n / 2 ^ lo = n / 2 ^ (lo + wd) * 2 ^ wd + n / 2 ^ lo % 2 ^ wd := by
    have := Nat.div_add_mod (n / 2 ^ lo) (2 ^ wd)
    rw [Nat.div_div_eq_div_mul, ← hp, Nat.mul_comm] at this
    omega
  have h3 : n / 2 ^ lo * 2 ^ lo = n / 2 ^ (lo + wd) * 2 ^ (lo + wd) + n / 2 ^ lo % 2 ^ wd * 2 ^ lo := by
    conv_lhs => rw [h2]
    rw [hp]; ring
  have e : n - n / 2 ^ lo % 2 ^ wd * 2 ^ lo = n / 2 ^ (lo + wd) * 2 ^ (lo + wd) + n % 2 ^ lo := by omega
  rw [e]
  have hlow : n % 2 ^ lo < 2 ^ lo := Nat.mod_lt _ (by positivity)
  have hv : v % 2 ^ wd < 2 ^ wd := Nat.mod_lt _ (by positivity)
  have hhi : n / 2 ^ (lo + wd) < 2 ^ (32 - (lo + wd)) := by
    apply Nat.div_lt_of_lt_mul
    rw [← pow_add]
    have : lo + wd + (32 - (lo + wd)) = 32 := by omega
    rw [this]; exact hw
  have hb : n / 2 ^ (lo + wd) * 2 ^ (lo + wd) + n % 2 ^ lo + v % 2 ^ wd * 2 ^ lo < 2 ^ 32 := by
    have a1 : (v % 2 ^ wd + 1) * 2 ^ lo ≤ 2 ^ wd * 2 ^ lo := Nat.mul_le_mul_right _ hv
    have a2 : (n / 2 ^ (lo + wd) + 1) * 2 ^ (lo + wd) ≤ 2 ^ (32 - (lo + wd)) * 2 ^ (lo + wd) := Nat.mul_le_mul_right _ hhi
    have a3 : 2 ^ (32 - (lo + wd)) * 2 ^ (lo + wd) = 2 ^ 32 := by rw [← pow_add]; congr 1; omega
    rw [a3] at a2
    have a4 : 2 ^ wd * 2 ^ lo = 2 ^ (lo + wd) := by rw [hp]; ring
    rw [a4] at a1
    have a5 : (v % 2 ^ wd + 1) * 2 ^ lo = v % 2 ^ wd * 2 ^ lo + 2 ^ lo := by ring
    have a6 : (n / 2 ^ (lo + wd) + 1) * 2 ^ (lo + wd) = n / 2 ^ (lo + wd) * 2 ^ (lo + wd) + 2 ^ (lo + wd) := by ring
    omega
  rw [Nat.mod_eq_of_lt hb]
  omega

/-- A field reads what was put into it. -/
theorem field_withField_same (f : Field) (w : Word) (v : Nat) (h : f.lo + f.width ≤ 32) :
    field f (withField f w v) = v % 2 ^ f.width := by
  simp only [field, Nat.shiftRight_eq_div_pow, toNat_withField f w v h]
  have hlow : w.toNat % 2 ^ f.lo < 2 ^ f.lo := Nat.mod_lt _ (by positivity)
  have e : w.toNat / 2 ^ (f.lo + f.width) * 2 ^ (f.lo + f.width) + v % 2 ^ f.width * 2 ^ f.lo + w.toNat % 2 ^ f.lo =
      w.toNat % 2 ^ f.lo + (w.toNat / 2 ^ (f.lo + f.width) * 2 ^ f.width + v % 2 ^ f.width) * 2 ^ f.lo := by
    rw [pow_add]; ring
  rw [e, Nat.add_mul_div_right _ _ (by positivity), Nat.div_eq_of_lt hlow, Nat.zero_add, Nat.mul_add_mod_self_right, Nat.mod_mod]

/-- A field keeps its value when a field beside it is replaced. -/
theorem field_withField_ne (f g : Field) (w : Word) (v : Nat) (hf : f.lo + f.width ≤ 32)
    (h : f.lo + f.width ≤ g.lo ∨ g.lo + g.width ≤ f.lo) : field g (withField f w v) = field g w := by
  simp only [field, Nat.shiftRight_eq_div_pow, toNat_withField f w v hf]
  have hlow : w.toNat % 2 ^ f.lo < 2 ^ f.lo := Nat.mod_lt _ (by positivity)
  have hv : v % 2 ^ f.width < 2 ^ f.width := Nat.mod_lt _ (by positivity)
  rcases h with h | h
  · obtain ⟨k, hk⟩ := Nat.exists_eq_add_of_le h
    rw [hk, pow_add 2 (f.lo + f.width) k, ← Nat.div_div_eq_div_mul, ← Nat.div_div_eq_div_mul]
    congr 2
    have a1 : (v % 2 ^ f.width + 1) * 2 ^ f.lo ≤ 2 ^ f.width * 2 ^ f.lo := Nat.mul_le_mul_right _ hv
    have a4 : 2 ^ f.width * 2 ^ f.lo = 2 ^ (f.lo + f.width) := by rw [pow_add]; ring
    have a5 : (v % 2 ^ f.width + 1) * 2 ^ f.lo = v % 2 ^ f.width * 2 ^ f.lo + 2 ^ f.lo := by ring
    rw [Nat.add_assoc, Nat.add_comm, Nat.add_mul_div_right _ _ (by positivity), Nat.div_eq_of_lt (by omega), Nat.zero_add]
  · have key (a b : Nat) (hab : a % 2 ^ f.lo = b % 2 ^ f.lo) : a / 2 ^ g.lo % 2 ^ g.width = b / 2 ^ g.lo % 2 ^ g.width := by
      obtain ⟨k, hk⟩ := Nat.exists_eq_add_of_le h
      have red (x : Nat) : x / 2 ^ g.lo % 2 ^ g.width = x % 2 ^ f.lo / 2 ^ g.lo % 2 ^ g.width := by
        rw [hk, pow_add 2 (g.lo + g.width) k, pow_add, Nat.mul_assoc, Nat.mod_mul_right_div_self, Nat.mod_mul_right_mod]
      rw [red a, red b, hab]
    apply key
    have e : w.toNat / 2 ^ (f.lo + f.width) * 2 ^ (f.lo + f.width) + v % 2 ^ f.width * 2 ^ f.lo + w.toNat % 2 ^ f.lo =
        w.toNat % 2 ^ f.lo + 2 ^ f.lo * (w.toNat / 2 ^ (f.lo + f.width) * 2 ^ f.width + v % 2 ^ f.width) := by
      rw [pow_add]; ring
    rw [e, Nat.add_mul_mod_self_left, Nat.mod_mod]

/-! ### Registers -/

theorem State.fld_setFld_same (s : State) (a : Nat) (f : Field) (v : Nat) (h : f.lo + f.width ≤ 32) :
    (s.setFld a f v).fld a f = v % 2 ^ f.width := by
  simp [State.fld, State.setFld, field_withField_same f _ v h]

theorem State.fld_setFld_field (s : State) (a : Nat) (f g : Field) (v : Nat) (hf : f.lo + f.width ≤ 32)
    (h : f.lo + f.width ≤ g.lo ∨ g.lo + g.width ≤ f.lo) : (s.setFld a f v).fld a g = s.fld a g := by
  simp [State.fld, State.setFld, field_withField_ne f g _ v hf h]

theorem State.fld_setFld_reg (s : State) (a b : Nat) (f g : Field) (v : Nat) (h : b ≠ a) :
    (s.setFld a f v).fld b g = s.fld b g := by
  simp [State.fld, State.setFld, State.reg_setReg_ne _ _ _ _ h]

theorem State.reg_setFld_ne (s : State) (a b : Nat) (f : Field) (v : Nat) (h : b ≠ a) : (s.setFld a f v).reg b = s.reg b := by
  simp [State.setFld, State.reg_setReg_ne _ _ _ _ h]

theorem State.reg_setFlag_ne (s : State) (a b : Nat) (f : Field) (v : Bool) (h : b ≠ a) : (s.setFlag a f v).reg b = s.reg b :=
  State.reg_setFld_ne s a b f _ h

theorem State.flag_setFlag_same (s : State) (a : Nat) (f : Field) (b : Bool) (h : f.lo + f.width ≤ 32) (h1 : 1 ≤ f.width) :
    (s.setFlag a f b).flag a f = b := by
  have : b.toNat % 2 ^ f.width = b.toNat := Nat.mod_eq_of_lt (by
    have : 2 ^ 1 ≤ 2 ^ f.width := Nat.pow_le_pow_right (by omega) h1
    cases b
    · simp
    · simp only [Bool.toNat_true]; omega)
  cases b <;> simp_all [State.flag, State.setFlag, State.fld_setFld_same]

/-- Field writes are writes of one register. -/
theorem State.setFld_eq (s : State) (a : Nat) (f : Field) (v : Nat) : s.setFld a f v = s.setReg a (withField f (s.reg a) v) := rfl
theorem State.setFlag_eq (s : State) (a : Nat) (f : Field) (b : Bool) :
    s.setFlag a f b = s.setReg a (withField f (s.reg a) b.toNat) := rfl

/-- A register write is the record update of the register table alone. -/
theorem State.setReg_frame (s : State) (a : Nat) (v : Word) : s.setReg a v = { s with regs := (s.setReg a v).regs } := rfl

/-! ### MSI-X and status flags (R357) -/

/-- Sending a vector touches the pending bits and what has left the device. -/
theorem State.sendVec_frame (s : State) (v : Nat) :
    s.sendVec v = { s with pci := { s.pci with pba := (s.sendVec v).pci.pba }, out := (s.sendVec v).out } := by
  unfold State.sendVec State.emit; split <;> rfl

theorem State.clearVec_frame (s : State) (v : Nat) :
    s.clearVec v = { s with pci := { s.pci with pba := (s.clearVec v).pci.pba } } := rfl

theorem irqChanged_frame (old : State) (l : List IrqRow) (s : State) :
    irqChanged old l s = { s with pci := { s.pci with pba := (irqChanged old l s).pci.pba }, out := (irqChanged old l s).out } := by
  induction l generalizing s with
  | nil => rfl
  | cons r rs ih =>
    simp only [irqChanged]
    rw [ih]
    split
    · split
      · rfl
      · rw [State.sendVec_frame]
    · rw [State.clearVec_frame]

theorem irqWritten_frame (l : List IrqRow) (s : State) :
    irqWritten l s = { s with pci := { s.pci with pba := (irqWritten l s).pci.pba }, out := (irqWritten l s).out } := by
  induction l generalizing s with
  | nil => rfl
  | cons r rs ih =>
    simp only [irqWritten]
    rw [ih]
    split
    · rw [State.sendVec_frame]
    · rw [State.clearVec_frame]

/-- Raising a flag writes one register, the pending bits and what has left the device. -/
theorem State.raise_frame (s : State) (a : Nat) (f : Field) :
    s.raise a f =
      { s with regs := (s.raise a f).regs, pci := { s.pci with pba := (s.raise a f).pci.pba }, out := (s.raise a f).out } := by
  unfold State.raise
  rw [irqChanged_frame]
  rfl

theorem State.raise_regs (s : State) (a : Nat) (f : Field) :
    (s.raise a f).regs = (s.setReg a (s.reg a ||| BitVec.ofNat 32 (fieldMask f))).regs := by
  unfold State.raise
  rw [irqChanged_frame]

theorem State.reg_raise (s : State) (a b : Nat) (f : Field) :
    (s.raise a f).reg b = if b = a then s.reg a ||| BitVec.ofNat 32 (fieldMask f) else s.reg b := by
  have h : (s.raise a f).reg b = (s.setReg a (s.reg a ||| BitVec.ofNat 32 (fieldMask f))).reg b := by
    simp only [State.reg, State.raise_regs]
  rw [h, State.reg_setReg]

theorem State.reg_raise_ne (s : State) (a b : Nat) (f : Field) (h : b ≠ a) : (s.raise a f).reg b = s.reg b := by
  simp [State.reg_raise, h]

@[simp] theorem State.raise_pending (s : State) (a : Nat) (g : Field) : (s.raise a g).pending = s.pending := by rw [State.raise_frame]
@[simp] theorem State.raise_variant (s : State) (a : Nat) (g : Field) : (s.raise a g).variant = s.variant := by rw [State.raise_frame]
@[simp] theorem State.raise_dram (s : State) (a : Nat) (g : Field) : (s.raise a g).dram = s.dram := by rw [State.raise_frame]
@[simp] theorem State.raise_l2 (s : State) (a : Nat) (g : Field) : (s.raise a g).l2 = s.l2 := by rw [State.raise_frame]
@[simp] theorem State.raise_shadow (s : State) (a : Nat) (g : Field) : (s.raise a g).shadow = s.shadow := by rw [State.raise_frame]
@[simp] theorem State.raise_staged (s : State) (a : Nat) (g : Field) : (s.raise a g).staged = s.staged := by rw [State.raise_frame]
@[simp] theorem State.raise_readData (s : State) (a : Nat) (g : Field) : (s.raise a g).readData = s.readData := by rw [State.raise_frame]
@[simp] theorem State.raise_grp (s : State) (a : Nat) (g : Field) : (s.raise a g).grp = s.grp := by rw [State.raise_frame]
@[simp] theorem State.raise_chan (s : State) (a : Nat) (g : Field) : (s.raise a g).chan = s.chan := by rw [State.raise_frame]
@[simp] theorem State.raise_srvAx (s : State) (a : Nat) (g : Field) : (s.raise a g).srvAx = s.srvAx := by rw [State.raise_frame]
@[simp] theorem State.raise_srvCh (s : State) (a : Nat) (g : Field) : (s.raise a g).srvCh = s.srvCh := by rw [State.raise_frame]
@[simp] theorem State.raise_srv (s : State) (a : Nat) (g : Field) : (s.raise a g).srv = s.srv := by rw [State.raise_frame]
@[simp] theorem State.raise_lsr (s : State) (a : Nat) (g : Field) : (s.raise a g).lsr = s.lsr := by rw [State.raise_frame]
@[simp] theorem State.raise_hoop (s : State) (a : Nat) (g : Field) : (s.raise a g).hoop = s.hoop := by rw [State.raise_frame]
@[simp] theorem State.raise_port (s : State) (a : Nat) (g : Field) : (s.raise a g).port = s.port := by rw [State.raise_frame]
@[simp] theorem State.raise_bulk (s : State) (a : Nat) (g : Field) : (s.raise a g).bulk = s.bulk := by rw [State.raise_frame]
@[simp] theorem State.raise_dom (s : State) (a : Nat) (g : Field) : (s.raise a g).dom = s.dom := by rw [State.raise_frame]
@[simp] theorem State.raise_time (s : State) (a : Nat) (g : Field) : (s.raise a g).time = s.time := by rw [State.raise_frame]
@[simp] theorem State.raise_mot (s : State) (a : Nat) (g : Field) : (s.raise a g).mot = s.mot := by rw [State.raise_frame]
@[simp] theorem State.raise_fbk (s : State) (a : Nat) (g : Field) : (s.raise a g).fbk = s.fbk := by rw [State.raise_frame]
@[simp] theorem State.raise_cam (s : State) (a : Nat) (g : Field) : (s.raise a g).cam = s.cam := by rw [State.raise_frame]
@[simp] theorem State.raise_pipe (s : State) (a : Nat) (g : Field) : (s.raise a g).pipe = s.pipe := by rw [State.raise_frame]
@[simp] theorem State.raise_lgt (s : State) (a : Nat) (g : Field) : (s.raise a g).lgt = s.lgt := by rw [State.raise_frame]
@[simp] theorem State.raise_strobe (s : State) (a : Nat) (g : Field) : (s.raise a g).strobe = s.strobe := by rw [State.raise_frame]
@[simp] theorem State.raise_lane (s : State) (a : Nat) (g : Field) : (s.raise a g).lane = s.lane := by rw [State.raise_frame]
@[simp] theorem State.raise_head (s : State) (a : Nat) (g : Field) : (s.raise a g).head = s.head := by rw [State.raise_frame]
@[simp] theorem State.raise_dma (s : State) (a : Nat) (g : Field) : (s.raise a g).dma = s.dma := by rw [State.raise_frame]
@[simp] theorem State.raise_eth (s : State) (a : Nat) (g : Field) : (s.raise a g).eth = s.eth := by rw [State.raise_frame]
@[simp] theorem State.raise_ddr (s : State) (a : Nat) (g : Field) : (s.raise a g).ddr = s.ddr := by rw [State.raise_frame]
@[simp] theorem State.raise_intg (s : State) (a : Nat) (g : Field) : (s.raise a g).intg = s.intg := by rw [State.raise_frame]
@[simp] theorem State.raise_cal (s : State) (a : Nat) (g : Field) : (s.raise a g).cal = s.cal := by rw [State.raise_frame]
@[simp] theorem State.raise_pwr (s : State) (a : Nat) (g : Field) : (s.raise a g).pwr = s.pwr := by rw [State.raise_frame]
@[simp] theorem State.raise_hk (s : State) (a : Nat) (g : Field) : (s.raise a g).hk = s.hk := by rw [State.raise_frame]
@[simp] theorem State.raise_cave (s : State) (a : Nat) (g : Field) : (s.raise a g).cave = s.cave := by rw [State.raise_frame]
@[simp] theorem State.raise_boot (s : State) (a : Nat) (g : Field) : (s.raise a g).boot = s.boot := by rw [State.raise_frame]
@[simp] theorem State.raise_pins (s : State) (a : Nat) (g : Field) : (s.raise a g).pins = s.pins := by rw [State.raise_frame]
@[simp] theorem State.raise_xbar (s : State) (a : Nat) (g : Field) : (s.raise a g).xbar = s.xbar := by rw [State.raise_frame]
@[simp] theorem State.raise_free (s : State) (a : Nat) (g : Field) : (s.raise a g).free = s.free := by rw [State.raise_frame]

@[simp] theorem State.setFld_pending (s : State) (a : Nat) (g : Field) (v : Nat) : (s.setFld a g v).pending = s.pending := rfl
@[simp] theorem State.setFld_variant (s : State) (a : Nat) (g : Field) (v : Nat) : (s.setFld a g v).variant = s.variant := rfl
@[simp] theorem State.setFld_dram (s : State) (a : Nat) (g : Field) (v : Nat) : (s.setFld a g v).dram = s.dram := rfl
@[simp] theorem State.setFld_l2 (s : State) (a : Nat) (g : Field) (v : Nat) : (s.setFld a g v).l2 = s.l2 := rfl
@[simp] theorem State.setFld_shadow (s : State) (a : Nat) (g : Field) (v : Nat) : (s.setFld a g v).shadow = s.shadow := rfl
@[simp] theorem State.setFld_staged (s : State) (a : Nat) (g : Field) (v : Nat) : (s.setFld a g v).staged = s.staged := rfl
@[simp] theorem State.setFld_readData (s : State) (a : Nat) (g : Field) (v : Nat) : (s.setFld a g v).readData = s.readData := rfl
@[simp] theorem State.setFld_grp (s : State) (a : Nat) (g : Field) (v : Nat) : (s.setFld a g v).grp = s.grp := rfl
@[simp] theorem State.setFld_chan (s : State) (a : Nat) (g : Field) (v : Nat) : (s.setFld a g v).chan = s.chan := rfl
@[simp] theorem State.setFld_srvAx (s : State) (a : Nat) (g : Field) (v : Nat) : (s.setFld a g v).srvAx = s.srvAx := rfl
@[simp] theorem State.setFld_srvCh (s : State) (a : Nat) (g : Field) (v : Nat) : (s.setFld a g v).srvCh = s.srvCh := rfl
@[simp] theorem State.setFld_srv (s : State) (a : Nat) (g : Field) (v : Nat) : (s.setFld a g v).srv = s.srv := rfl
@[simp] theorem State.setFld_lsr (s : State) (a : Nat) (g : Field) (v : Nat) : (s.setFld a g v).lsr = s.lsr := rfl
@[simp] theorem State.setFld_hoop (s : State) (a : Nat) (g : Field) (v : Nat) : (s.setFld a g v).hoop = s.hoop := rfl
@[simp] theorem State.setFld_port (s : State) (a : Nat) (g : Field) (v : Nat) : (s.setFld a g v).port = s.port := rfl
@[simp] theorem State.setFld_bulk (s : State) (a : Nat) (g : Field) (v : Nat) : (s.setFld a g v).bulk = s.bulk := rfl
@[simp] theorem State.setFld_dom (s : State) (a : Nat) (g : Field) (v : Nat) : (s.setFld a g v).dom = s.dom := rfl
@[simp] theorem State.setFld_time (s : State) (a : Nat) (g : Field) (v : Nat) : (s.setFld a g v).time = s.time := rfl
@[simp] theorem State.setFld_mot (s : State) (a : Nat) (g : Field) (v : Nat) : (s.setFld a g v).mot = s.mot := rfl
@[simp] theorem State.setFld_fbk (s : State) (a : Nat) (g : Field) (v : Nat) : (s.setFld a g v).fbk = s.fbk := rfl
@[simp] theorem State.setFld_cam (s : State) (a : Nat) (g : Field) (v : Nat) : (s.setFld a g v).cam = s.cam := rfl
@[simp] theorem State.setFld_pipe (s : State) (a : Nat) (g : Field) (v : Nat) : (s.setFld a g v).pipe = s.pipe := rfl
@[simp] theorem State.setFld_lgt (s : State) (a : Nat) (g : Field) (v : Nat) : (s.setFld a g v).lgt = s.lgt := rfl
@[simp] theorem State.setFld_strobe (s : State) (a : Nat) (g : Field) (v : Nat) : (s.setFld a g v).strobe = s.strobe := rfl
@[simp] theorem State.setFld_lane (s : State) (a : Nat) (g : Field) (v : Nat) : (s.setFld a g v).lane = s.lane := rfl
@[simp] theorem State.setFld_head (s : State) (a : Nat) (g : Field) (v : Nat) : (s.setFld a g v).head = s.head := rfl
@[simp] theorem State.setFld_dma (s : State) (a : Nat) (g : Field) (v : Nat) : (s.setFld a g v).dma = s.dma := rfl
@[simp] theorem State.setFld_pci (s : State) (a : Nat) (g : Field) (v : Nat) : (s.setFld a g v).pci = s.pci := rfl
@[simp] theorem State.setFld_eth (s : State) (a : Nat) (g : Field) (v : Nat) : (s.setFld a g v).eth = s.eth := rfl
@[simp] theorem State.setFld_ddr (s : State) (a : Nat) (g : Field) (v : Nat) : (s.setFld a g v).ddr = s.ddr := rfl
@[simp] theorem State.setFld_intg (s : State) (a : Nat) (g : Field) (v : Nat) : (s.setFld a g v).intg = s.intg := rfl
@[simp] theorem State.setFld_cal (s : State) (a : Nat) (g : Field) (v : Nat) : (s.setFld a g v).cal = s.cal := rfl
@[simp] theorem State.setFld_pwr (s : State) (a : Nat) (g : Field) (v : Nat) : (s.setFld a g v).pwr = s.pwr := rfl
@[simp] theorem State.setFld_hk (s : State) (a : Nat) (g : Field) (v : Nat) : (s.setFld a g v).hk = s.hk := rfl
@[simp] theorem State.setFld_cave (s : State) (a : Nat) (g : Field) (v : Nat) : (s.setFld a g v).cave = s.cave := rfl
@[simp] theorem State.setFld_boot (s : State) (a : Nat) (g : Field) (v : Nat) : (s.setFld a g v).boot = s.boot := rfl
@[simp] theorem State.setFld_pins (s : State) (a : Nat) (g : Field) (v : Nat) : (s.setFld a g v).pins = s.pins := rfl
@[simp] theorem State.setFld_xbar (s : State) (a : Nat) (g : Field) (v : Nat) : (s.setFld a g v).xbar = s.xbar := rfl
@[simp] theorem State.setFld_free (s : State) (a : Nat) (g : Field) (v : Nat) : (s.setFld a g v).free = s.free := rfl
@[simp] theorem State.setFld_out (s : State) (a : Nat) (g : Field) (v : Nat) : (s.setFld a g v).out = s.out := rfl

@[simp] theorem State.setFlag_pending (s : State) (a : Nat) (g : Field) (v : Bool) : (s.setFlag a g v).pending = s.pending := rfl
@[simp] theorem State.setFlag_variant (s : State) (a : Nat) (g : Field) (v : Bool) : (s.setFlag a g v).variant = s.variant := rfl
@[simp] theorem State.setFlag_dram (s : State) (a : Nat) (g : Field) (v : Bool) : (s.setFlag a g v).dram = s.dram := rfl
@[simp] theorem State.setFlag_l2 (s : State) (a : Nat) (g : Field) (v : Bool) : (s.setFlag a g v).l2 = s.l2 := rfl
@[simp] theorem State.setFlag_shadow (s : State) (a : Nat) (g : Field) (v : Bool) : (s.setFlag a g v).shadow = s.shadow := rfl
@[simp] theorem State.setFlag_staged (s : State) (a : Nat) (g : Field) (v : Bool) : (s.setFlag a g v).staged = s.staged := rfl
@[simp] theorem State.setFlag_readData (s : State) (a : Nat) (g : Field) (v : Bool) : (s.setFlag a g v).readData = s.readData := rfl
@[simp] theorem State.setFlag_grp (s : State) (a : Nat) (g : Field) (v : Bool) : (s.setFlag a g v).grp = s.grp := rfl
@[simp] theorem State.setFlag_chan (s : State) (a : Nat) (g : Field) (v : Bool) : (s.setFlag a g v).chan = s.chan := rfl
@[simp] theorem State.setFlag_srvAx (s : State) (a : Nat) (g : Field) (v : Bool) : (s.setFlag a g v).srvAx = s.srvAx := rfl
@[simp] theorem State.setFlag_srvCh (s : State) (a : Nat) (g : Field) (v : Bool) : (s.setFlag a g v).srvCh = s.srvCh := rfl
@[simp] theorem State.setFlag_srv (s : State) (a : Nat) (g : Field) (v : Bool) : (s.setFlag a g v).srv = s.srv := rfl
@[simp] theorem State.setFlag_lsr (s : State) (a : Nat) (g : Field) (v : Bool) : (s.setFlag a g v).lsr = s.lsr := rfl
@[simp] theorem State.setFlag_hoop (s : State) (a : Nat) (g : Field) (v : Bool) : (s.setFlag a g v).hoop = s.hoop := rfl
@[simp] theorem State.setFlag_port (s : State) (a : Nat) (g : Field) (v : Bool) : (s.setFlag a g v).port = s.port := rfl
@[simp] theorem State.setFlag_bulk (s : State) (a : Nat) (g : Field) (v : Bool) : (s.setFlag a g v).bulk = s.bulk := rfl
@[simp] theorem State.setFlag_dom (s : State) (a : Nat) (g : Field) (v : Bool) : (s.setFlag a g v).dom = s.dom := rfl
@[simp] theorem State.setFlag_time (s : State) (a : Nat) (g : Field) (v : Bool) : (s.setFlag a g v).time = s.time := rfl
@[simp] theorem State.setFlag_mot (s : State) (a : Nat) (g : Field) (v : Bool) : (s.setFlag a g v).mot = s.mot := rfl
@[simp] theorem State.setFlag_fbk (s : State) (a : Nat) (g : Field) (v : Bool) : (s.setFlag a g v).fbk = s.fbk := rfl
@[simp] theorem State.setFlag_cam (s : State) (a : Nat) (g : Field) (v : Bool) : (s.setFlag a g v).cam = s.cam := rfl
@[simp] theorem State.setFlag_pipe (s : State) (a : Nat) (g : Field) (v : Bool) : (s.setFlag a g v).pipe = s.pipe := rfl
@[simp] theorem State.setFlag_lgt (s : State) (a : Nat) (g : Field) (v : Bool) : (s.setFlag a g v).lgt = s.lgt := rfl
@[simp] theorem State.setFlag_strobe (s : State) (a : Nat) (g : Field) (v : Bool) : (s.setFlag a g v).strobe = s.strobe := rfl
@[simp] theorem State.setFlag_lane (s : State) (a : Nat) (g : Field) (v : Bool) : (s.setFlag a g v).lane = s.lane := rfl
@[simp] theorem State.setFlag_head (s : State) (a : Nat) (g : Field) (v : Bool) : (s.setFlag a g v).head = s.head := rfl
@[simp] theorem State.setFlag_dma (s : State) (a : Nat) (g : Field) (v : Bool) : (s.setFlag a g v).dma = s.dma := rfl
@[simp] theorem State.setFlag_pci (s : State) (a : Nat) (g : Field) (v : Bool) : (s.setFlag a g v).pci = s.pci := rfl
@[simp] theorem State.setFlag_eth (s : State) (a : Nat) (g : Field) (v : Bool) : (s.setFlag a g v).eth = s.eth := rfl
@[simp] theorem State.setFlag_ddr (s : State) (a : Nat) (g : Field) (v : Bool) : (s.setFlag a g v).ddr = s.ddr := rfl
@[simp] theorem State.setFlag_intg (s : State) (a : Nat) (g : Field) (v : Bool) : (s.setFlag a g v).intg = s.intg := rfl
@[simp] theorem State.setFlag_cal (s : State) (a : Nat) (g : Field) (v : Bool) : (s.setFlag a g v).cal = s.cal := rfl
@[simp] theorem State.setFlag_pwr (s : State) (a : Nat) (g : Field) (v : Bool) : (s.setFlag a g v).pwr = s.pwr := rfl
@[simp] theorem State.setFlag_hk (s : State) (a : Nat) (g : Field) (v : Bool) : (s.setFlag a g v).hk = s.hk := rfl
@[simp] theorem State.setFlag_cave (s : State) (a : Nat) (g : Field) (v : Bool) : (s.setFlag a g v).cave = s.cave := rfl
@[simp] theorem State.setFlag_boot (s : State) (a : Nat) (g : Field) (v : Bool) : (s.setFlag a g v).boot = s.boot := rfl
@[simp] theorem State.setFlag_pins (s : State) (a : Nat) (g : Field) (v : Bool) : (s.setFlag a g v).pins = s.pins := rfl
@[simp] theorem State.setFlag_xbar (s : State) (a : Nat) (g : Field) (v : Bool) : (s.setFlag a g v).xbar = s.xbar := rfl
@[simp] theorem State.setFlag_free (s : State) (a : Nat) (g : Field) (v : Bool) : (s.setFlag a g v).free = s.free := rfl
@[simp] theorem State.setFlag_out (s : State) (a : Nat) (g : Field) (v : Bool) : (s.setFlag a g v).out = s.out := rfl

@[simp] theorem State.satAdd_pending (s : State) (a : Nat) (g : Field) (v : Nat) : (s.satAdd a g v).pending = s.pending := rfl
@[simp] theorem State.satAdd_variant (s : State) (a : Nat) (g : Field) (v : Nat) : (s.satAdd a g v).variant = s.variant := rfl
@[simp] theorem State.satAdd_dram (s : State) (a : Nat) (g : Field) (v : Nat) : (s.satAdd a g v).dram = s.dram := rfl
@[simp] theorem State.satAdd_l2 (s : State) (a : Nat) (g : Field) (v : Nat) : (s.satAdd a g v).l2 = s.l2 := rfl
@[simp] theorem State.satAdd_shadow (s : State) (a : Nat) (g : Field) (v : Nat) : (s.satAdd a g v).shadow = s.shadow := rfl
@[simp] theorem State.satAdd_staged (s : State) (a : Nat) (g : Field) (v : Nat) : (s.satAdd a g v).staged = s.staged := rfl
@[simp] theorem State.satAdd_readData (s : State) (a : Nat) (g : Field) (v : Nat) : (s.satAdd a g v).readData = s.readData := rfl
@[simp] theorem State.satAdd_grp (s : State) (a : Nat) (g : Field) (v : Nat) : (s.satAdd a g v).grp = s.grp := rfl
@[simp] theorem State.satAdd_chan (s : State) (a : Nat) (g : Field) (v : Nat) : (s.satAdd a g v).chan = s.chan := rfl
@[simp] theorem State.satAdd_srvAx (s : State) (a : Nat) (g : Field) (v : Nat) : (s.satAdd a g v).srvAx = s.srvAx := rfl
@[simp] theorem State.satAdd_srvCh (s : State) (a : Nat) (g : Field) (v : Nat) : (s.satAdd a g v).srvCh = s.srvCh := rfl
@[simp] theorem State.satAdd_srv (s : State) (a : Nat) (g : Field) (v : Nat) : (s.satAdd a g v).srv = s.srv := rfl
@[simp] theorem State.satAdd_lsr (s : State) (a : Nat) (g : Field) (v : Nat) : (s.satAdd a g v).lsr = s.lsr := rfl
@[simp] theorem State.satAdd_hoop (s : State) (a : Nat) (g : Field) (v : Nat) : (s.satAdd a g v).hoop = s.hoop := rfl
@[simp] theorem State.satAdd_port (s : State) (a : Nat) (g : Field) (v : Nat) : (s.satAdd a g v).port = s.port := rfl
@[simp] theorem State.satAdd_bulk (s : State) (a : Nat) (g : Field) (v : Nat) : (s.satAdd a g v).bulk = s.bulk := rfl
@[simp] theorem State.satAdd_dom (s : State) (a : Nat) (g : Field) (v : Nat) : (s.satAdd a g v).dom = s.dom := rfl
@[simp] theorem State.satAdd_time (s : State) (a : Nat) (g : Field) (v : Nat) : (s.satAdd a g v).time = s.time := rfl
@[simp] theorem State.satAdd_mot (s : State) (a : Nat) (g : Field) (v : Nat) : (s.satAdd a g v).mot = s.mot := rfl
@[simp] theorem State.satAdd_fbk (s : State) (a : Nat) (g : Field) (v : Nat) : (s.satAdd a g v).fbk = s.fbk := rfl
@[simp] theorem State.satAdd_cam (s : State) (a : Nat) (g : Field) (v : Nat) : (s.satAdd a g v).cam = s.cam := rfl
@[simp] theorem State.satAdd_pipe (s : State) (a : Nat) (g : Field) (v : Nat) : (s.satAdd a g v).pipe = s.pipe := rfl
@[simp] theorem State.satAdd_lgt (s : State) (a : Nat) (g : Field) (v : Nat) : (s.satAdd a g v).lgt = s.lgt := rfl
@[simp] theorem State.satAdd_strobe (s : State) (a : Nat) (g : Field) (v : Nat) : (s.satAdd a g v).strobe = s.strobe := rfl
@[simp] theorem State.satAdd_lane (s : State) (a : Nat) (g : Field) (v : Nat) : (s.satAdd a g v).lane = s.lane := rfl
@[simp] theorem State.satAdd_head (s : State) (a : Nat) (g : Field) (v : Nat) : (s.satAdd a g v).head = s.head := rfl
@[simp] theorem State.satAdd_dma (s : State) (a : Nat) (g : Field) (v : Nat) : (s.satAdd a g v).dma = s.dma := rfl
@[simp] theorem State.satAdd_pci (s : State) (a : Nat) (g : Field) (v : Nat) : (s.satAdd a g v).pci = s.pci := rfl
@[simp] theorem State.satAdd_eth (s : State) (a : Nat) (g : Field) (v : Nat) : (s.satAdd a g v).eth = s.eth := rfl
@[simp] theorem State.satAdd_ddr (s : State) (a : Nat) (g : Field) (v : Nat) : (s.satAdd a g v).ddr = s.ddr := rfl
@[simp] theorem State.satAdd_intg (s : State) (a : Nat) (g : Field) (v : Nat) : (s.satAdd a g v).intg = s.intg := rfl
@[simp] theorem State.satAdd_cal (s : State) (a : Nat) (g : Field) (v : Nat) : (s.satAdd a g v).cal = s.cal := rfl
@[simp] theorem State.satAdd_pwr (s : State) (a : Nat) (g : Field) (v : Nat) : (s.satAdd a g v).pwr = s.pwr := rfl
@[simp] theorem State.satAdd_hk (s : State) (a : Nat) (g : Field) (v : Nat) : (s.satAdd a g v).hk = s.hk := rfl
@[simp] theorem State.satAdd_cave (s : State) (a : Nat) (g : Field) (v : Nat) : (s.satAdd a g v).cave = s.cave := rfl
@[simp] theorem State.satAdd_boot (s : State) (a : Nat) (g : Field) (v : Nat) : (s.satAdd a g v).boot = s.boot := rfl
@[simp] theorem State.satAdd_pins (s : State) (a : Nat) (g : Field) (v : Nat) : (s.satAdd a g v).pins = s.pins := rfl
@[simp] theorem State.satAdd_xbar (s : State) (a : Nat) (g : Field) (v : Nat) : (s.satAdd a g v).xbar = s.xbar := rfl
@[simp] theorem State.satAdd_free (s : State) (a : Nat) (g : Field) (v : Nat) : (s.satAdd a g v).free = s.free := rfl
@[simp] theorem State.satAdd_out (s : State) (a : Nat) (g : Field) (v : Nat) : (s.satAdd a g v).out = s.out := rfl

@[simp] theorem State.setSfld_pending (s : State) (a : Nat) (g : Field) (v : Int) : (s.setSfld a g v).pending = s.pending := rfl
@[simp] theorem State.setSfld_variant (s : State) (a : Nat) (g : Field) (v : Int) : (s.setSfld a g v).variant = s.variant := rfl
@[simp] theorem State.setSfld_dram (s : State) (a : Nat) (g : Field) (v : Int) : (s.setSfld a g v).dram = s.dram := rfl
@[simp] theorem State.setSfld_l2 (s : State) (a : Nat) (g : Field) (v : Int) : (s.setSfld a g v).l2 = s.l2 := rfl
@[simp] theorem State.setSfld_shadow (s : State) (a : Nat) (g : Field) (v : Int) : (s.setSfld a g v).shadow = s.shadow := rfl
@[simp] theorem State.setSfld_staged (s : State) (a : Nat) (g : Field) (v : Int) : (s.setSfld a g v).staged = s.staged := rfl
@[simp] theorem State.setSfld_readData (s : State) (a : Nat) (g : Field) (v : Int) : (s.setSfld a g v).readData = s.readData := rfl
@[simp] theorem State.setSfld_grp (s : State) (a : Nat) (g : Field) (v : Int) : (s.setSfld a g v).grp = s.grp := rfl
@[simp] theorem State.setSfld_chan (s : State) (a : Nat) (g : Field) (v : Int) : (s.setSfld a g v).chan = s.chan := rfl
@[simp] theorem State.setSfld_srvAx (s : State) (a : Nat) (g : Field) (v : Int) : (s.setSfld a g v).srvAx = s.srvAx := rfl
@[simp] theorem State.setSfld_srvCh (s : State) (a : Nat) (g : Field) (v : Int) : (s.setSfld a g v).srvCh = s.srvCh := rfl
@[simp] theorem State.setSfld_srv (s : State) (a : Nat) (g : Field) (v : Int) : (s.setSfld a g v).srv = s.srv := rfl
@[simp] theorem State.setSfld_lsr (s : State) (a : Nat) (g : Field) (v : Int) : (s.setSfld a g v).lsr = s.lsr := rfl
@[simp] theorem State.setSfld_hoop (s : State) (a : Nat) (g : Field) (v : Int) : (s.setSfld a g v).hoop = s.hoop := rfl
@[simp] theorem State.setSfld_port (s : State) (a : Nat) (g : Field) (v : Int) : (s.setSfld a g v).port = s.port := rfl
@[simp] theorem State.setSfld_bulk (s : State) (a : Nat) (g : Field) (v : Int) : (s.setSfld a g v).bulk = s.bulk := rfl
@[simp] theorem State.setSfld_dom (s : State) (a : Nat) (g : Field) (v : Int) : (s.setSfld a g v).dom = s.dom := rfl
@[simp] theorem State.setSfld_time (s : State) (a : Nat) (g : Field) (v : Int) : (s.setSfld a g v).time = s.time := rfl
@[simp] theorem State.setSfld_mot (s : State) (a : Nat) (g : Field) (v : Int) : (s.setSfld a g v).mot = s.mot := rfl
@[simp] theorem State.setSfld_fbk (s : State) (a : Nat) (g : Field) (v : Int) : (s.setSfld a g v).fbk = s.fbk := rfl
@[simp] theorem State.setSfld_cam (s : State) (a : Nat) (g : Field) (v : Int) : (s.setSfld a g v).cam = s.cam := rfl
@[simp] theorem State.setSfld_pipe (s : State) (a : Nat) (g : Field) (v : Int) : (s.setSfld a g v).pipe = s.pipe := rfl
@[simp] theorem State.setSfld_lgt (s : State) (a : Nat) (g : Field) (v : Int) : (s.setSfld a g v).lgt = s.lgt := rfl
@[simp] theorem State.setSfld_strobe (s : State) (a : Nat) (g : Field) (v : Int) : (s.setSfld a g v).strobe = s.strobe := rfl
@[simp] theorem State.setSfld_lane (s : State) (a : Nat) (g : Field) (v : Int) : (s.setSfld a g v).lane = s.lane := rfl
@[simp] theorem State.setSfld_head (s : State) (a : Nat) (g : Field) (v : Int) : (s.setSfld a g v).head = s.head := rfl
@[simp] theorem State.setSfld_dma (s : State) (a : Nat) (g : Field) (v : Int) : (s.setSfld a g v).dma = s.dma := rfl
@[simp] theorem State.setSfld_pci (s : State) (a : Nat) (g : Field) (v : Int) : (s.setSfld a g v).pci = s.pci := rfl
@[simp] theorem State.setSfld_eth (s : State) (a : Nat) (g : Field) (v : Int) : (s.setSfld a g v).eth = s.eth := rfl
@[simp] theorem State.setSfld_ddr (s : State) (a : Nat) (g : Field) (v : Int) : (s.setSfld a g v).ddr = s.ddr := rfl
@[simp] theorem State.setSfld_intg (s : State) (a : Nat) (g : Field) (v : Int) : (s.setSfld a g v).intg = s.intg := rfl
@[simp] theorem State.setSfld_cal (s : State) (a : Nat) (g : Field) (v : Int) : (s.setSfld a g v).cal = s.cal := rfl
@[simp] theorem State.setSfld_pwr (s : State) (a : Nat) (g : Field) (v : Int) : (s.setSfld a g v).pwr = s.pwr := rfl
@[simp] theorem State.setSfld_hk (s : State) (a : Nat) (g : Field) (v : Int) : (s.setSfld a g v).hk = s.hk := rfl
@[simp] theorem State.setSfld_cave (s : State) (a : Nat) (g : Field) (v : Int) : (s.setSfld a g v).cave = s.cave := rfl
@[simp] theorem State.setSfld_boot (s : State) (a : Nat) (g : Field) (v : Int) : (s.setSfld a g v).boot = s.boot := rfl
@[simp] theorem State.setSfld_pins (s : State) (a : Nat) (g : Field) (v : Int) : (s.setSfld a g v).pins = s.pins := rfl
@[simp] theorem State.setSfld_xbar (s : State) (a : Nat) (g : Field) (v : Int) : (s.setSfld a g v).xbar = s.xbar := rfl
@[simp] theorem State.setSfld_free (s : State) (a : Nat) (g : Field) (v : Int) : (s.setSfld a g v).free = s.free := rfl
@[simp] theorem State.setSfld_out (s : State) (a : Nat) (g : Field) (v : Int) : (s.setSfld a g v).out = s.out := rfl

@[simp] theorem State.setBit_pending (s : State) (a b : Nat) (v : Bool) : (s.setBit a b v).pending = s.pending := rfl
@[simp] theorem State.setBit_variant (s : State) (a b : Nat) (v : Bool) : (s.setBit a b v).variant = s.variant := rfl
@[simp] theorem State.setBit_dram (s : State) (a b : Nat) (v : Bool) : (s.setBit a b v).dram = s.dram := rfl
@[simp] theorem State.setBit_l2 (s : State) (a b : Nat) (v : Bool) : (s.setBit a b v).l2 = s.l2 := rfl
@[simp] theorem State.setBit_shadow (s : State) (a b : Nat) (v : Bool) : (s.setBit a b v).shadow = s.shadow := rfl
@[simp] theorem State.setBit_staged (s : State) (a b : Nat) (v : Bool) : (s.setBit a b v).staged = s.staged := rfl
@[simp] theorem State.setBit_readData (s : State) (a b : Nat) (v : Bool) : (s.setBit a b v).readData = s.readData := rfl
@[simp] theorem State.setBit_grp (s : State) (a b : Nat) (v : Bool) : (s.setBit a b v).grp = s.grp := rfl
@[simp] theorem State.setBit_chan (s : State) (a b : Nat) (v : Bool) : (s.setBit a b v).chan = s.chan := rfl
@[simp] theorem State.setBit_srvAx (s : State) (a b : Nat) (v : Bool) : (s.setBit a b v).srvAx = s.srvAx := rfl
@[simp] theorem State.setBit_srvCh (s : State) (a b : Nat) (v : Bool) : (s.setBit a b v).srvCh = s.srvCh := rfl
@[simp] theorem State.setBit_srv (s : State) (a b : Nat) (v : Bool) : (s.setBit a b v).srv = s.srv := rfl
@[simp] theorem State.setBit_lsr (s : State) (a b : Nat) (v : Bool) : (s.setBit a b v).lsr = s.lsr := rfl
@[simp] theorem State.setBit_hoop (s : State) (a b : Nat) (v : Bool) : (s.setBit a b v).hoop = s.hoop := rfl
@[simp] theorem State.setBit_port (s : State) (a b : Nat) (v : Bool) : (s.setBit a b v).port = s.port := rfl
@[simp] theorem State.setBit_bulk (s : State) (a b : Nat) (v : Bool) : (s.setBit a b v).bulk = s.bulk := rfl
@[simp] theorem State.setBit_dom (s : State) (a b : Nat) (v : Bool) : (s.setBit a b v).dom = s.dom := rfl
@[simp] theorem State.setBit_time (s : State) (a b : Nat) (v : Bool) : (s.setBit a b v).time = s.time := rfl
@[simp] theorem State.setBit_mot (s : State) (a b : Nat) (v : Bool) : (s.setBit a b v).mot = s.mot := rfl
@[simp] theorem State.setBit_fbk (s : State) (a b : Nat) (v : Bool) : (s.setBit a b v).fbk = s.fbk := rfl
@[simp] theorem State.setBit_cam (s : State) (a b : Nat) (v : Bool) : (s.setBit a b v).cam = s.cam := rfl
@[simp] theorem State.setBit_pipe (s : State) (a b : Nat) (v : Bool) : (s.setBit a b v).pipe = s.pipe := rfl
@[simp] theorem State.setBit_lgt (s : State) (a b : Nat) (v : Bool) : (s.setBit a b v).lgt = s.lgt := rfl
@[simp] theorem State.setBit_strobe (s : State) (a b : Nat) (v : Bool) : (s.setBit a b v).strobe = s.strobe := rfl
@[simp] theorem State.setBit_lane (s : State) (a b : Nat) (v : Bool) : (s.setBit a b v).lane = s.lane := rfl
@[simp] theorem State.setBit_head (s : State) (a b : Nat) (v : Bool) : (s.setBit a b v).head = s.head := rfl
@[simp] theorem State.setBit_dma (s : State) (a b : Nat) (v : Bool) : (s.setBit a b v).dma = s.dma := rfl
@[simp] theorem State.setBit_pci (s : State) (a b : Nat) (v : Bool) : (s.setBit a b v).pci = s.pci := rfl
@[simp] theorem State.setBit_eth (s : State) (a b : Nat) (v : Bool) : (s.setBit a b v).eth = s.eth := rfl
@[simp] theorem State.setBit_ddr (s : State) (a b : Nat) (v : Bool) : (s.setBit a b v).ddr = s.ddr := rfl
@[simp] theorem State.setBit_intg (s : State) (a b : Nat) (v : Bool) : (s.setBit a b v).intg = s.intg := rfl
@[simp] theorem State.setBit_cal (s : State) (a b : Nat) (v : Bool) : (s.setBit a b v).cal = s.cal := rfl
@[simp] theorem State.setBit_pwr (s : State) (a b : Nat) (v : Bool) : (s.setBit a b v).pwr = s.pwr := rfl
@[simp] theorem State.setBit_hk (s : State) (a b : Nat) (v : Bool) : (s.setBit a b v).hk = s.hk := rfl
@[simp] theorem State.setBit_cave (s : State) (a b : Nat) (v : Bool) : (s.setBit a b v).cave = s.cave := rfl
@[simp] theorem State.setBit_boot (s : State) (a b : Nat) (v : Bool) : (s.setBit a b v).boot = s.boot := rfl
@[simp] theorem State.setBit_pins (s : State) (a b : Nat) (v : Bool) : (s.setBit a b v).pins = s.pins := rfl
@[simp] theorem State.setBit_xbar (s : State) (a b : Nat) (v : Bool) : (s.setBit a b v).xbar = s.xbar := rfl
@[simp] theorem State.setBit_free (s : State) (a b : Nat) (v : Bool) : (s.setBit a b v).free = s.free := rfl
@[simp] theorem State.setBit_out (s : State) (a b : Nat) (v : Bool) : (s.setBit a b v).out = s.out := rfl

/-! ### Captures of absent accesses (R5) -/

/-- A capture touches the register table alone. -/
theorem State.absent_frame (s : State) (src : Source) (a : Nat) (w : Bool) :
    s.absent src a w = { s with regs := (s.absent src a w).regs } := by
  unfold State.absent
  generalize s.flag R.GLB_STAT F.GLB_STAT_ABSENT_ACCESS = c
  cases c
  · exact State.setReg_frame _ _ _
  · rfl

end Sys2Proof.Machine
end

