-- ==== Sys2Proof/Laws/Shapes.lean ====
section
/-!
SUPPORT. When the shapes of a command's outcome take place: units that are present, conditions that hold, packets for this device.
-/

namespace Sys2Proof.Machine

theorem channels_le (s : State) : s.channels ≤ 32 := by unfold State.channels; split <;> decide
theorem axes_le (s : State) : s.axes ≤ 8 := by unfold State.axes; split <;> decide
theorem hoopLanes_le (s : State) : s.hoopLanes ≤ 8 := by unfold State.hoopLanes; split <;> decide
theorem camPorts_le (s : State) : s.camPorts ≤ 4 := by unfold State.camPorts; split <;> decide
theorem ethPorts_le (s : State) : s.ethPorts ≤ 2 := by unfold State.ethPorts; split <;> decide
theorem ddrChannels_le (s : State) : s.ddrChannels ≤ 4 := by unfold State.ddrChannels; split <;> decide

/-- A command on a present unit takes its effect (R3). -/
theorem onUnit_next {n present limit : Nat} {s : State} {f : State → State} (h : n < present) (hl : present ≤ limit) :
    onUnit n present limit s f = .next (f s) := by
  simp [onUnit, h, Nat.lt_of_lt_of_le h hl]

/-- A host write on a present unit takes its effect (R3). -/
theorem onUnitWrite_next {n present limit addr : Nat} {s : State} {f : State → State} (h : n < present) (hl : present ≤ limit) :
    onUnitWrite n present limit addr s f = .next (f s) := by
  simp [onUnitWrite, h, Nat.lt_of_lt_of_le h hl]

/-- An event whose condition holds takes place. -/
theorem occurs_next {c : Bool} {s : State} {f : State → State} (h : c = true) : occurs c s f = .next (f s) := by
  simp [occurs, h]

theorem onAddr_next {a : Nat} {s : State} {f : State → State} (h : a < 0x4000000) (h4 : a % 4 = 0) :
    onAddr a s f = .next (f s) := by
  simp [onAddr, h, h4]

/-- A unicast packet for this device on a port with its link has its effect once its credits are owed (R202, R205). -/
theorem receive_own {s : State} {p : Nat} {k : Packet} {f : State → State} (hp : p < s.hoopLanes) (ha : s.carries p = true)
    (hb : k.bcast = false) (hd : k.dst = s.devid) : s.receive p k f = f (s.owe p k) := by
  simp [State.receive, hp, ha, hb, hd]

/-- Parts that a change has not touched. -/
theorem Keeps.part {A : List Part} {s t : State} (h : Keeps A s t) (p : Part) (hp : A.all (fun q => decide (q ≠ p)) = true) :
    Same p s t :=
  h.only p (fun m => by simpa using of_decide_eq_true (List.all_eq_true.mp hp p m))

/-- Registers are as before where the register words are. -/
theorem reg_of_same {s t : State} (h : Same .regs s t) (a : Nat) : t.reg a = s.reg a := by
  have e : t.regs = s.regs := h
  simp [State.reg, e]

/-- A packet that this device consumes has its effect once its credits are owed, its identity stored and its copies queued:
in a state that differs in the ports and the Hoop unit alone (R202, R203, R205). -/
theorem receive_consumes {s : State} {p : Nat} {k : Packet} {f : State → State} (h : s.consumes p k = true) :
    ∃ u, s.receive p k f = f u ∧ Only [.hoop, .port] s u := by
  simp only [State.consumes, Bool.and_eq_true, decide_eq_true_eq] at h
  obtain ⟨⟨hp, ha⟩, h⟩ := h
  have ho := keeps_State_owe (A := [.hoop, .port]) (s0 := s) (by decide) p k (Keeps.refl _ s)
  cases hb : k.bcast with
  | false =>
    simp only [hb, Bool.false_eq_true, if_false, decide_eq_true_eq] at h
    exact ⟨s.owe p k, receive_own hp ha hb h, ho.only⟩
  | true =>
    simp only [hb, if_true, Bool.and_eq_true, decide_eq_true_eq, Bool.not_eq_true'] at h
    have hk := keeps_State_rxBroadcast (A := [.hoop, .port]) (s0 := s) (List.Subset.refl _) p k (Keeps.refl _ s)
    have e1 : (s.owe p k).hoop = s.hoop := (keeps_State_owe (A := [.port]) (s0 := s) (by decide) p k (Keeps.refl _ s)).part .hoop rfl
    have e2 : (s.owe p k).devid = s.devid := by
      have := (keeps_State_owe (A := [.port]) (s0 := s) (by decide) p k (Keeps.refl _ s)).part .regs rfl
      simp [State.devid, State.fld, reg_of_same this]
    have hm : (s.rxBroadcast p k).1 = true := by
      simp only [State.rxBroadcast, e1, e2, h.2, h.1, decide_false, Bool.false_eq_true, if_false]
    refine ⟨(s.rxBroadcast p k).2, ?_, hk.only⟩
    simp only [State.receive, hp, ha, hb, decide_true, Bool.and_self, Bool.not_true, Bool.false_eq_true, if_false, if_true, hm]

theorem State.lapse_regs (s : State) (n : Nat) : (s.lapse n).regs = s.regs :=
  (keeps_State_lapse (List.Subset.refl _) n (Keeps.refl _ s)).part .regs rfl
@[simp] theorem State.reg_lapse (s : State) (n a : Nat) : (s.lapse n).reg a = s.reg a := by
  simp [State.reg, State.lapse_regs]
@[simp] theorem State.fld_lapse (s : State) (n a : Nat) (f : Field) : (s.lapse n).fld a f = s.fld a f := by
  simp [State.fld]
@[simp] theorem State.flag_lapse (s : State) (n a : Nat) (f : Field) : (s.lapse n).flag a f = s.flag a f := by
  simp [State.flag]

/-- Entering a state in which no log line closes changes the state field, what the gate allows and, outside RUN, the learning of the
channel's axes (R115, R149, R168). -/
theorem State.enter_eq (s : State) (n st : Nat) (h : st ≠ 5 ∧ st ≠ 6 ∧ st ≠ 7) :
    s.enter n st = ((if st = 4 then s else s.freezeChan n).setFld (R.SEQ_STAT n) F.SEQ_STAT_STATE st).lapse n := by
  simp [State.enter, h]

end Sys2Proof.Machine
end

