-- ==== Sys2Proof/Tests/Slice0.lean ====
section
/-!
SUPPORT. The model's own tests: ill-formed commands refused, single operations against the spec's worked examples and the published
check values, and a witness for each clause of each statement that has hypotheses.
-/

set_option linter.unusedVariables false

namespace Sys2Proof.Tests

open Sys2Proof.Machine

/-! ### Ill-formed commands (one for each check) -/

/-- An event packet with a payload of zeros. -/
def pk0 : Packet := ⟨0x20, false, 0, 0, 0, 0, 0, List.replicate 8 0⟩

/-- A packet of no class. -/
def pkBad : Packet := ⟨0, false, 0, 0, 0, 0, 0, []⟩

/-- An address outside BAR0 is refused. -/
theorem test_illFormed_addr_range : (([.absentUnitAccess .host 67108864 false,
    .wideReadLow .host 67108864,
    .wideReadUpper .host 67108864,
    .wideWriteUpper .host 67108864 0,
    .wideWriteLow .host 67108864 0,
    .registerWrite .host 67108864 0,
    .repetitiveTableWrite 67108864 0,
    .activeGainSetWrite 67108864 0,
    .meltPoolGainSetWrite 67108864 0,
    .lsrActiveSetWrite 67108864 0,
    .fieldTableWrite 67108864 0,
    .cameraTableWrite 67108864 0,
    .sinkWrite 67108864 0,
    .pendingSetWrite 67108864 0,
    .stagingWrite 67108864 0] : List Instr).all fun c => !wellFormed c) = true := by decide

/-- An address off a word is refused. -/
theorem test_illFormed_addr_align : (([.absentUnitAccess .host 2 false,
    .wideReadLow .host 2,
    .wideReadUpper .host 2,
    .wideWriteUpper .host 2 0,
    .wideWriteLow .host 2 0,
    .registerWrite .host 2 0,
    .repetitiveTableWrite 2 0,
    .activeGainSetWrite 2 0,
    .meltPoolGainSetWrite 2 0,
    .lsrActiveSetWrite 2 0,
    .fieldTableWrite 2 0,
    .cameraTableWrite 2 0,
    .sinkWrite 2 0,
    .pendingSetWrite 2 0,
    .stagingWrite 2 0] : List Instr).all fun c => !wellFormed c) = true := by decide

/-- ch outside its range of 32 is refused. -/
theorem test_illFormed_Ch32_ch32_0 : (([.channelReady 32,
    .nop 32,
    .undefinedOpcode 32,
    .halt 32,
    .wait 32,
    .waitr 32,
    .gyield 32,
    .sync 32,
    .syncDeadline 32,
    .sig 32,
    .sigEmit 32,
    .evt 32,
    .evtAction 32,
    .call 32,
    .ret 32,
    .rep 32,
    .endr 32,
    .ldk 32,
    .addk 32,
    .fence 32,
    .jump 32,
    .line 32,
    .cubic 32,
    .dwell 32,
    .focus 32,
    .period 32,
    .learn 32,
    .gsel 32,
    .pset 32,
    .pramp 32,
    .pulse 32,
    .env 32,
    .mpl 32,
    .lon 32,
    .loff 32,
    .hand 32,
    .trig 32,
    .move 32,
    .faultTime 32,
    .late 32] : List Instr).all fun c => !wellFormed c) = true := by decide

/-- ch outside its range of 32 is refused. -/
theorem test_illFormed_Ch32_ch32_1 : (([.gateEdge 32,
    .evaluationInstant 32,
    .powerInstant 32 0 0,
    .seqRingTail 32 0,
    .descriptorRead 32,
    .ownRetry 32,
    .walkerFetch 32,
    .libraryLoad 32,
    .libraryLoadDone 32,
    .libraryUnload 32,
    .channelDisable 32,
    .channelEnable 32,
    .staleTrip 32,
    .manualDriveWrite 32 0,
    .lfltNQualified 32 false,
    .lrdyQualified 32 false,
    .freeCadenceSample 32 0 0,
    .lsrLogCtlWrite 32 0,
    .tokenExpiry 32,
    .commit 32,
    .commitmentClose 32,
    .handDecision 32,
    .handEnd 32,
    .handRecordTimeout 32,
    .trigPulse 32] : List Instr).all fun c => !wellFormed c) = true := by decide

/-- A packet of no class is refused. -/
theorem test_illFormed_packet_port : (([.startVoteReceived 0 pkBad,
    .yieldVoteReceived 0 pkBad,
    .holdEventReceived 0 pkBad,
    .releaseEventReceived 0 pkBad,
    .groupAbortReceived 0 pkBad] : List Instr).all fun c => !wellFormed c) = true := by decide

/-- port outside its range of 8 is refused. -/
theorem test_illFormed_Port8PacketKPk_port8 : (([.startVoteReceived 8 pk0,
    .yieldVoteReceived 8 pk0,
    .holdEventReceived 8 pk0,
    .releaseEventReceived 8 pk0,
    .groupAbortReceived 8 pk0] : List Instr).all fun c => !wellFormed c) = true := by decide

/-- ch outside its range of 32 is refused. -/
theorem test_illFormed_Ch32Slot256_ch32 : (([.feedLineArrival 32 0 []] : List Instr).all fun c => !wellFormed c) = true := by decide

/-- slot outside its range of 256 is refused. -/
theorem test_illFormed_Ch32Slot256_slot256 : (([.feedLineArrival 0 256 []] : List Instr).all fun c => !wellFormed c) = true := by decide

/-- a outside its range of 96 is refused. -/
theorem test_illFormed_A96_a96 : (([.axisArithOff 96,
    .srvAxModeWrite 96 0] : List Instr).all fun c => !wellFormed c) = true := by decide

/-- p outside its range of 8 is refused. -/
theorem test_illFormed_P8_p8 : (([.hoopPortEnable 8 0,
    .hoopPortDisable 8 0,
    .hoopPortTeardown 8,
    .packetTransmit 8,
    .badPacketReceived 8 ⟨0, 0⟩ [],
    .creditSend 8,
    .timeExchangeStart 8 0,
    .timeExchangeTimeout 8] : List Instr).all fun c => !wellFormed c) = true := by decide

/-- A packet of no class is refused. -/
theorem test_illFormed_packet : (([.creditReceived 0 pkBad,
    .eventReceived 0 pkBad,
    .rreqReceived 0 pkBad,
    .rrspReceived 0 pkBad,
    .bulkReceived 0 pkBad,
    .bulkAckReceived 0 pkBad] : List Instr).all fun c => !wellFormed c) = true := by decide

/-- p outside its range of 8 is refused. -/
theorem test_illFormed_P8PacketKPk_p8 : (([.creditReceived 8 pk0,
    .eventReceived 8 pk0,
    .rreqReceived 8 pk0,
    .rrspReceived 8 pk0,
    .bulkReceived 8 pk0,
    .bulkAckReceived 8 pk0] : List Instr).all fun c => !wellFormed c) = true := by decide

/-- c outside its range of 4 is refused. -/
theorem test_illFormed_C4_c4 : (([.bulkGo 4,
    .bulkTimeout 4] : List Instr).all fun c => !wellFormed c) = true := by decide

/-- A packet of no class is refused. -/
theorem test_illFormed_packet_phase : (([.timeRequestReceived 0 pkBad 0 0] : List Instr).all fun c => !wellFormed c) = true := by decide

/-- p outside its range of 8 is refused. -/
theorem test_illFormed_P8PacketKPkPhase6400_p8 : (([.timeRequestReceived 8 pk0 0 0] : List Instr).all fun c => !wellFormed c) = true := by decide

/-- phase outside its range of 6400 is refused. -/
theorem test_illFormed_P8PacketKPkPhase6400_phase6400 : (([.timeRequestReceived 0 pk0 0 6400] : List Instr).all fun c => !wellFormed c) = true := by decide

/-- A packet of no class is refused. -/
theorem test_illFormed_packet_crossing : (([.timeResponseReceived 0 pkBad ⟨0, 0⟩] : List Instr).all fun c => !wellFormed c) = true := by decide

/-- p outside its range of 8 is refused. -/
theorem test_illFormed_P8PacketKPkXPhase6400_p8 : (([.timeResponseReceived 8 pk0 ⟨0, 0⟩] : List Instr).all fun c => !wellFormed c) = true := by decide

/-- x outside its range of 6400 is refused. -/
theorem test_illFormed_P8PacketKPkXPhase6400_x6400 : (([.timeResponseReceived 0 pk0 ⟨0, 6400⟩] : List Instr).all fun c => !wellFormed c) = true := by decide

/-- d outside its range of 2 is refused. -/
theorem test_illFormed_D2_d2 : (([.holdoverEntry 2,
    .timDCfgWrite 2 0] : List Instr).all fun c => !wellFormed c) = true := by decide

/-- A packet of no class is refused. -/
theorem test_illFormed_packet_token : (([.handTokenReceived none pkBad] : List Instr).all fun c => !wellFormed c) = true := by decide

/-- a outside its range of 8 is refused. -/
theorem test_illFormed_A8_a8 : (([.motGo 8 0,
    .motHome 8 0,
    .axisDisable 8 0,
    .axisEnable 8 0,
    .motAxPosWrite 8 0,
    .pwmPeriod 8 [] [],
    .stall 8,
    .overcurrent 8,
    .standstill 8] : List Instr).all fun c => !wellFormed c) = true := by decide

/-- a outside its range of 8 is refused. -/
theorem test_illFormed_AUnit8_a8 : (([.bridgeFault ⟨8, 0⟩,
    .sdloss ⟨8, []⟩] : List Instr).all fun c => !wellFormed c) = true := by decide

/-- i outside its range of 8 is refused. -/
theorem test_illFormed_I8_i8 : (([.limitQualified 8 false false,
    .homeEdgeQualified 8 false false false,
    .feedbackEdge 8 false false,
    .fbkCountWrite 8 0,
    .fbkCmpposWrite 8 0,
    .feedbackInterfaceEnable 8 0] : List Instr).all fun c => !wellFormed c) = true := by decide

/-- i outside its range of 8 is refused. -/
theorem test_illFormed_IUnit8_i8 : (([.indexEdge ⟨8, false⟩] : List Instr).all fun c => !wellFormed c) = true := by decide

/-- p outside its range of 4 is refused. -/
theorem test_illFormed_P4_p4 : (([.cameraPortEnable 4 0,
    .cameraPortDisable 4 0,
    .cameraLine 4 [],
    .hostTrigger 4 0,
    .i2cGo 4 0,
    .i2cDone 4 0 0,
    .exposureCommit 4 0] : List Instr).all fun c => !wellFormed c) = true := by decide

/-- p outside its range of 4 is refused. -/
theorem test_illFormed_PUnit4_p4 : (([.frameStart ⟨4, false⟩,
    .frameEndAtPort ⟨4, false⟩] : List Instr).all fun c => !wellFormed c) = true := by decide

/-- s outside its range of 4 is refused. -/
theorem test_illFormed_S4_s4 : (([.strobeEnable 4 0,
    .strobePulse 4 0,
    .strobeCut 4,
    .stbIsnCrossing 4 0] : List Instr).all fun c => !wellFormed c) = true := by decide

/-- s outside its range of 4 is refused. -/
theorem test_illFormed_SUnit4_s4 : (([.strobeOvercurrent ⟨4, 0⟩,
    .strobeNorise ⟨4, 0⟩] : List Instr).all fun c => !wellFormed c) = true := by decide

/-- n outside its range of 32 is refused. -/
theorem test_illFormed_N32_n32 : (([.headLaneEnable 32 0,
    .headLaneDisable 32 0,
    .downlinkFrame 32,
    .uplinkFrame 32 [],
    .auxGo 32 0,
    .auxTimeout 32,
    .headConfigRetry 32] : List Instr).all fun c => !wellFormed c) = true := by decide

/-- l outside its range of 40 is refused. -/
theorem test_illFormed_L40_l40 : (([.terminationProbe 40 false,
    .trainTimer 40,
    .trainfail 40,
    .capReceived 40 ⟨0, 0⟩,
    .capexTimeout 40,
    .alignReceived 40 ⟨0, 0⟩,
    .laneTxeqWrite 40 0,
    .eyeMeasure 40 0,
    .lanePmRequest 40 0,
    .pmRequestReceived 40 ⟨0, 0⟩,
    .pmAnswerReceived 40 ⟨0, 0⟩,
    .pmTimeout 40,
    .laneWake 40,
    .laneWakeDone 40,
    .laneTestModeWrite 40 0,
    .checkerStart 40 0,
    .checkerSync 40 [] 0,
    .inj1 40] : List Instr).all fun c => !wellFormed c) = true := by decide

/-- l outside its range of 40 is refused. -/
theorem test_illFormed_LUnit40_l40 : (([.blockLock ⟨40, []⟩,
    .lockLoss ⟨40, []⟩,
    .trainBlockReceived ⟨40, ⟨0, 0⟩⟩] : List Instr).all fun c => !wellFormed c) = true := by decide

/-- e outside its range of 2 is refused. -/
theorem test_illFormed_E2_e2 : (([.ethPortEnable 2 0,
    .ethTxDoorbell 2 0,
    .ethRxDoorbell 2 0,
    .ethFrameSent 2,
    .ethFrameReceived 2 [] 0,
    .pauseReceived 2 0,
    .ethLinkChange 2 ⟨false, false⟩,
    .ethI2cGo 2 0,
    .ethI2cDone 2 0 0] : List Instr).all fun c => !wellFormed c) = true := by decide

/-- n outside its range of 16 is refused. -/
theorem test_illFormed_N16_n16 : (([.dmaDoorbell 16 0,
    .dmaDescriptorFetch 16 .error,
    .dmaReadCompletion 16 .error,
    .completionTimeout 16,
    .dmaSegmentWrite 16,
    .dmaEnable 16 0,
    .dmaDisable 16 0,
    .dmaRestart 16] : List Instr).all fun c => !wellFormed c) = true := by decide

/-- sub outside its range of 8 is refused. -/
theorem test_illFormed_Sub8_sub8 : (([.dramRequest 8,
    .refresh 8] : List Instr).all fun c => !wellFormed c) = true := by decide

/-- k outside its range of 4 is refused. -/
theorem test_illFormed_K4_k4 : (([.periodicTraining 4] : List Instr).all fun c => !wellFormed c) = true := by decide

/-- e outside its range of 256 is refused. -/
theorem test_illFormed_E256_e256 : (([.remapFree 0 256 0] : List Instr).all fun c => !wellFormed c) = true := by decide

/-- g outside its range of 8 is refused. -/
theorem test_illFormed_G8_g8 : (([.calOpen 8,
    .calRepeat 8,
    .calAbort 8,
    .calRestore 8,
    .calApply 8,
    .calApplyEffect 8] : List Instr).all fun c => !wellFormed c) = true := by decide

/-- ch outside its range of 32 is refused. -/
theorem test_illFormed_Ch32Last32_ch32 : (([.skewQualityWrite 32 0] : List Instr).all fun c => !wellFormed c) = true := by decide

/-- last outside its range of 32 is refused. -/
theorem test_illFormed_Ch32Last32_last32 : (([.skewQualityWrite 0 32] : List Instr).all fun c => !wellFormed c) = true := by decide

/-- client outside its range of 14 is refused. -/
theorem test_illFormed_Client14D11_client14 : (([.clientVote 14 0] : List Instr).all fun c => !wellFormed c) = true := by decide

/-- d outside its range of 11 is refused. -/
theorem test_illFormed_Client14D11_d11 : (([.clientVote 0 11] : List Instr).all fun c => !wellFormed c) = true := by decide

/-- d outside its range of 11 is refused. -/
theorem test_illFormed_D11_d11 : (([.domainRaise 11,
    .pgoodTimeout 11,
    .domainDrop 11] : List Instr).all fun c => !wellFormed c) = true := by decide

/-- d outside its range of 11 is refused. -/
theorem test_illFormed_DUnit11_d11 : (([.domainUp ⟨11, 0⟩,
    .pgoodLoss ⟨11, 0⟩] : List Instr).all fun c => !wellFormed c) = true := by decide

/-- b outside its range of 4 is refused. -/
theorem test_illFormed_B4_b4 : (([.budgetGrant 4] : List Instr).all fun c => !wellFormed c) = true := by decide

/-! ### Helpers: small states -/

/-- A device with Hoop port 0 Active, member 1 of its group at device 7, and the group in a state. -/
def grpRx (st : Nat) : State :=
  let s := State.reset.setFld R.SEQ_GRP_STAT F.SEQ_GRP_STAT_STATE st
  let s := s.setFld (R.HOOP_PT_STAT 0) F.HOOP_PT_STAT_STATE 2
  (s.setFld R.SEQ_GRP_CFG F.SEQ_GRP_CFG_MEMBERS 2).setFld (R.SEQ_GRP_MID 1) F.SEQ_GRP_MID_DEVID 7

/-- A GROUP packet of a kind from member 1, with flag byte 1. -/
def grpPk (kind : Nat) : Packet := ⟨0x12, true, 3, 0, 7, 0, 0, [BitVec.ofNat 8 kind, 1, 1] ++ zeros 37⟩


/-- Channel 0 in RUN, inside a curd of 64 words begun at DRAM line 0, with an instruction's words at the decoder's place. -/
def decAt (ws : List Nat) (f : Chan → Chan := id) : State :=
  let c := { Chan.reset with
    curds := [⟨0, 0, false, true, 0, 64, false, 0, none, 0⟩], begun := true
    feed := [⟨1, true, true, (ws ++ List.replicate (8 - ws.length) 0).map (BitVec.ofNat 64), 0, true, 0, [], false, 0⟩] }
  (State.reset.modCh 0 fun _ => f c).setFld (R.SEQ_STAT 0) F.SEQ_STAT_STATE 4


/-- Channel 0 in RUN in a running layer at schedule time 625. -/
def runAt (f : Chan → Chan := id) : State :=
  let s := { (State.reset.modCh 0 fun _ => f Chan.reset) with grp := { Group.reset with run := true, s := 625, n := 9, pmask := 1 } }
  (s.setFld (R.SEQ_STAT 0) F.SEQ_STAT_STATE 4).setFld R.SEQ_GRP_STAT F.SEQ_GRP_STAT_STATE 2

/-- A state with DRAM up. -/
def dramUp (s : State) : State := s.setFlag R.DDR_STAT F.DDR_STAT_READY true

/-- Every power domain up. -/
def allUp (s : State) : State := s.setFld R.PWR_DOM F.PWR_DOM_UP 0x7FF


/-- Port 0 Active with peer device 7. -/
def portOn (s : State) : State := (s.setFld (R.HOOP_PT_STAT 0) F.HOOP_PT_STAT_STATE 2).setFld (R.HOOP_PT_STAT 0) F.HOOP_PT_STAT_PEER 7

/-- Every unicast packet leaves by port 0. -/
def routed (s : State) : State := ((portOn s).setFld R.HOOP_ROUTE_DEF F.HOOP_ROUTE_DEF_PORT 0).setFlag R.HOOP_ROUTE_DEF F.HOOP_ROUTE_DEF_VALID true

/-- A handoff part of channel 0 with a partner. -/
def handWit (take fb : Bool) (pdev pch anchor : Nat) : Hand :=
  ⟨take, fb, pdev, pch, 10, 5, anchor, 0, 0, 0, ⟨false, 0⟩, false, none, none, none, false, .undecided, false, none, 0⟩

/-- A packet from device 7 to this one. -/
def pkTo (cls tag : Nat) (payload : List Byte) : Packet := ⟨cls, false, 3, 0, 7, 0, tag, payload⟩


/-- Motion axis 0 in a state, with a valid profile set 0. -/
def axisAt (st : Nat) : State :=
  let s := (List.range 8).foldl (fun s w => s.setReg (profileAddr 0 0 w) (BitVec.ofNat 32 (if w < 2 then 100 else 200))) (allUp State.reset)
  s.setFld (R.MOT_AX_STAT 0) F.MOT_AX_STAT_STATE st


/-- Camera port 0 enabled with images of 2 by 1 pixels, waiting for a frame, with some frames held. -/
def camAt (st : Nat) (fs : List Frame) : State :=
  let s := allUp State.reset
  let s := (s.setFld (R.CAM_PT_GEOM 0) F.CAM_PT_GEOM_WIDTH 2).setFld (R.CAM_PT_GEOM 0) F.CAM_PT_GEOM_HEIGHT 1
  let s := (s.setFlag (R.CAM_PT_CFG 0) F.CAM_PT_CFG_EN true).setFld (R.CAM_PT_STAT 0) F.CAM_PT_STAT_STATE st
  (s.setFld (R.CAM_PT_RCTL 0) F.CAM_PT_RCTL_LOG2 4).modCm 0 fun c => { c with frames := fs }

/-- A frame of port 0 with record index 0. -/
def camFrame (received : Nat) (lines vis : List (List Nat)) (complete : Bool) : Frame :=
  ⟨1, 0, 0, ⟨0, 0, 0⟩, 0, 0, received, lines, vis, some (List.replicate 21 0), false, false, complete, none⟩

/-- A lane in a state, every domain up. -/
def laneAt (l st : Nat) : State := (allUp State.reset).setFld (R.LANE_STAT l) F.LANE_STAT_STATE st

/-- A lane with its own record. -/
def laneWith (l st : Nat) (q : Lane) : State := (laneAt l st).modLn l fun _ => q

/-- A lane of Hoop port 0, which is enabled. -/
def hoopLane (st : Nat) : State :=
  ((laneAt 32 st).setFlag (R.HOOP_PT_CFG 0) F.HOOP_PT_CFG_EN true).setFld (R.HOOP_PT_STAT 0) F.HOOP_PT_STAT_STATE 1

/-- Head link 0 with its record, lane ACTIVE, at servo phase 600. -/
def headAt (h : Head) : State :=
  let s := (laneAt 0 5).modHd 0 fun _ => h
  { s with time := { s.time with mt := ticksU 600 } }

/-- DMA channel 0 in a state, its ring of 16 at DRAM byte 0, TAIL at 4. -/
def dmaAt (st : Nat) (c : DmaCh) : State :=
  let s := ((dramUp State.reset).setFlag (R.DMA_CH_CFG 0) F.DMA_CH_CFG_SPACE true).setFld (R.DMA_CH_CFG 0) F.DMA_CH_CFG_LOG2 4
  let s := (s.setFlag (R.DMA_CH_CFG 0) F.DMA_CH_CFG_EN true).setFld (R.DMA_CH_TAIL 0) F.DMA_CH_TAIL_INDEX 4
  ((s.setFld (R.DMA_CH_CFG 0) F.DMA_CH_CFG_QUOTA 8).setFld (R.DMA_CH_STAT 0) F.DMA_CH_STAT_STATE st).modDc 0 fun _ => c

/-- A descriptor in progress: 4 bytes from DRAM byte 0x1000 to 0x2000. -/
def dmaD (status read written : Nat) : DmaDesc := ⟨0x1000, 0x2000, 4, 0x1B, 0, status, read, written⟩

/-- Ethernet port 0 enabled with link, rings of 16 descriptors at DRAM lines 0 and 64, TAIL at 4. -/
def ethAt (q : EthPort := ⟨0, none⟩) : State :=
  let s := ((dramUp State.reset).setFlag (R.ETH_PT_CFG 0) F.ETH_PT_CFG_EN true).setFlag (R.ETH_PT_STAT 0) F.ETH_PT_STAT_LINK true
  let s := ((s.setFld (R.ETH_PT_RSIZE 0) F.ETH_PT_RSIZE_TXLOG2 4).setFld (R.ETH_PT_RSIZE 0) F.ETH_PT_RSIZE_RXLOG2 4).setFld (R.ETH_PT_RXBASE 0) F.ETH_PT_RXBASE_LINE 64
  let s := (s.setFld (R.ETH_PT_TXTAIL 0) F.ETH_PT_TXTAIL_INDEX 1).setFld (R.ETH_PT_RXTAIL 0) F.ETH_PT_RXTAIL_INDEX 1
  s.modEt 0 fun _ => q

/-- A descriptor of an Ethernet ring: buffer line 0x40, length, OWN with INT. -/
def ethDescBytes (len : Nat) : List Byte := leBytes 0x80 4 ++ leBytes len 2 ++ leBytes 3 2 ++ zeros 24

/-- DRAM up with some requests waiting. -/
def ddrAt (f : Dram → Dram) : State := let s := dramUp State.reset; { s with ddr := f s.ddr }

/-- Calibration group 3 in a state. -/
def calAt (st : Nat) (g : Nat := 3) : State := State.reset.setFld (R.CAL_G_STAT g) F.CAL_G_STAT_STATE st

/-- A round of readings in which sensor 0 reads a value. -/
def hkOne (x : Option Int) : HkReadings := ⟨[x], [], []⟩

/-- State of the power block with its own part changed. -/
def pwrAt (f : Power → Power) (s : State := State.reset) : State := { s with pwr := f s.pwr }

/-- A Cave record of a code. -/
def caveR (code : Nat) (crit : Bool) : CaveRec := ⟨code, crit, false, false, 0, 3, 0xFF, 0, ⟨0, 0, 0⟩, zeros 28⟩

/-- The recorder ready, its own part changed. -/
def caveAt (f : Cave → Cave := id) : State :=
  let s := State.reset.setFlag R.CAVE_STAT F.CAVE_STAT_READY true
  { s with cave := f s.cave }

/-- An image of one line, for any host: header and body. -/
def imageBytes : List Byte :=
  leBytes 0x544F4F42 4 ++ leBytes 1 2 ++ leBytes 0 2 ++ leBytes 64 4 ++ zeros 116 ++ List.replicate 64 7

/-- The safe-state controller in a state. -/
def sscAt (st : Nat) (f : Boot → Boot := id) : State :=
  let s := State.reset.setFld R.BOOT_STAT F.BOOT_STAT_SSC st
  { s with boot := f s.boot }

/-- HOSTLOAD with an image in the staging window. -/
def stagedImage : State := (State.reset.setFld R.BOOT_STAT F.BOOT_STAT_STAGE 3).setWords stagingBase imageBytes

/-- A clear that R452 accepts: key, challenge and head zero; the response is the start of the code over the message. -/
def clearWit : State :=
  let s := caveAt fun c => { c with key := List.replicate 32 9, chalAt := some 0 }
  let s := s.setFlag R.CAVE_STAT F.CAVE_STAT_KEYSET true
  s.setWords (R.CAVE_RESP 0) ((hmacSha256 s.cave.key s.clearMessage).take 16)

/-- The smallest part: channels 8 to 31 are absent. -/
def smallPart : State := { State.reset with variant := .t08 }

/-- A remote request of device 7. -/
def rreqPk (off : Nat) (write : Bool) (v : Nat) : Packet := pkTo 0x20 5 (leBytes (off + 2 ^ 31 * write.toNat) 4 ++ leBytes v 4)

/-- The next state of an outcome. -/
def nxt (r : Res) : State := match r with | .next s => s | _ => State.reset

/-- The nine characters 123456789. -/
def nine : List Byte := [0x31, 0x32, 0x33, 0x34, 0x35, 0x36, 0x37, 0x38, 0x39]

/-- The worked stream of 02_curd_instructions at cursor 3,000,000, from the start (1,000,000, -250,000, 0) FU. -/
def streamAt (ws : List Nat) (cursor : Nat) : State :=
  decAt ws fun c => { c with cursor := cursor, endPos := ⟨256000000, -64000000, 0⟩, endVelDen := 1 }

/-! ### Check values and worked examples of the spec -/

/-- R53: the check value of CRC-32C. -/
theorem test_crc32c_check : crc32c nine = 0xE3069283 := by decide +kernel
/-- R343: the check value of CRC-16/CCITT with initial value 0xFFFF. -/
theorem test_crc16_check : crc16 nine = 0x29B1 := by decide +kernel
/-- R376: the check value of the Ethernet FCS. -/
theorem test_fcs_check : fcs nine = 0xCBF43926 := by decide +kernel
/-- FIPS 180-4: the digest of the three characters abc. -/
theorem test_sha256_abc : (sha256 [0x61, 0x62, 0x63]).take 4 = [0xBA, 0x78, 0x16, 0xBF] := by decide +kernel
/-- RFC 4231 test case 2: key Jefe, what do ya want for nothing?. -/
theorem test_hmac_sha256 : (hmacSha256 [0x4A, 0x65, 0x66, 0x65] [0x77, 0x68, 0x61, 0x74, 0x20, 0x64, 0x6F, 0x20, 0x79, 0x61, 0x20, 0x77,
    0x61, 0x6E, 0x74, 0x20, 0x66, 0x6F, 0x72, 0x20, 0x6E, 0x6F, 0x74, 0x68, 0x69, 0x6E, 0x67, 0x3F]).take 4 = [0x5B, 0xDC, 0xC1, 0x46] := by
  decide +kernel

/-- 02, worked example, word 1: PSET 0xB851 acts at 3,000,000. -/
theorem test_pset_word : ((nxt (execPset 0 (streamAt [0x300000000000B851] 3000000))).ch 0).acts = [⟨3000000, .pset 47185⟩] := by decide
/-- 02, worked example, word 2: LON with WIN 400 FU and FINE 0. -/
theorem test_lon_word : ((nxt (execLon 0 (streamAt [0x3500000000019000] 3000000))).ch 0).acts = [⟨3000000, .gateOn 0 400⟩] := by decide
/-- 02, worked example, words 3 and 4: the LINE ends at X 1,100,663 FU and moves the cursor to 4,500,000. -/
theorem test_line_words : (let c := (nxt (execLine 0 (streamAt [0x114010CB77FC2F70, 0x16E36000] 3000000))).ch 0
    (c.cursor, c.segs.map fun g => (g.start, g.dur, g.pe))) = (4500000, [(3000000, 1500000, ⟨281769728, -64000000, 0⟩)]) := by decide
/-- 02, worked example, words 6 and 7: the quintic JUMP ends at (1,000,000, -243,960) FU, 187,500 ticks on. -/
theorem test_jump_words : (let c := (nxt (execJump 0 (streamAt [0x10410F4240FC4708, 0x2DC6C00] 4500000))).ch 0
    (c.cursor, c.segs.map fun g => (g.prof, g.dur, g.pe))) = (4687500, [(1, 187500, ⟨256000000, -62453760, 0⟩)]) := by decide
/-- 05, worked example: ENV with HI 2,621, LO -2,621, PMAX 48,000 and PMIN 0. -/
theorem test_env_words : ((nxt (execEnv 0 (streamAt [0x3340000000000000, 0x0A3DF5C3BB800000] 3000000))).ch 0).acts =
    [⟨3000000, .env 2621 (-2621) 48000 0⟩] := by decide
/-- 05, worked example: MPL in RUN with gain set 3, RATIO 0x6000 and SUM 6,000. -/
theorem test_mpl_words : ((nxt (execMpl 0 (streamAt [0x3440000000000032, 0x6000177000000000] 3000000))).ch 0).acts =
    [⟨3000000, .mpl 3 2 0x6000 6000⟩] := by decide
/-- 07, worked example: the take part's words name device 0x0102, channel 3, crossfade 25,000, HID 0x0234 and anchor 8,500,000. -/
theorem test_hand_words : (let h := handOf [0x40A00102180061A8, 0x023400000081B320, 0] ⟨false, 3⟩
    (h.take, h.fb, h.pdev, h.pch, h.xf, h.hid, h.anchor)) = (true, false, 0x0102, 3, 25000, 0x0234, 8500000) := by decide
/-- R74: EVENT 0xF000 and above is a decode fault. -/
theorem test_sig_range : ((nxt (execSig 0 (streamAt [0x060000000000F000] 3000000))).ch 0).decStopped = true := by decide

/-- The power map of 05's worked example: M[184], M[185], M[187] and M[188] of channel 9. -/
def mapState : State := (State.reset.setReg 0x1822570 (BitVec.ofNat 32 (49310 + 49580 * 65536))).setWords 0x1822574
  (leBytes (50120 * 65536) 4 ++ leBytes 50390 4)
/-- 05, worked example: the DAC codes of 47,185 and 48,000. -/
theorem test_dac_codes : (mapState.powerMap 9 47185, mapState.powerMap 9 48000) = (49396, 50256) := by decide
/-- 07, worked example: the weighted powers 125 ticks after the anchor and at half the crossfade. -/
theorem test_crossfade : (fadePower [⟨8500000, 25000, false⟩] 8500125 47185, fadePower [⟨8500000, 25000, true⟩] 8500125 47185,
    fadePower [⟨8500000, 25000, false⟩] 8512500 47185, fadePower [⟨8500000, 25000, true⟩] 8512500 47185) = (46950, 235, 23593, 23593) := by
  decide
/-- 06, worked example: the delay of 10,425 ps and the offset that rounds to -227 ps. -/
theorem test_exchange : (let x := exchange 0 669123 39990723 40688026 12
    (x.1, roundDiv x.2 16384)) = (10425, -227) := by decide
/-- 06, worked example: the registers of member 1's servo after the sample of -227 ps. -/
def servoState : State :=
  let s := (State.reset.setFld (R.TIM_D_GAIN 0) F.TIM_D_GAIN_KP 0x0800).setFld (R.TIM_D_GAIN 0) F.TIM_D_GAIN_KI 0x00CD
  ((s.setReg (R.TIM_D_ILIM 0) 0x00F00000).modDm 0 fun q => { q with i := 1024 }).sample 0 (-227)
theorem test_servo_rate : (servoState.reg (R.TIM_D_RATE 0), servoState.reg (R.TIM_D_THETA 0)) = (0xFFFF8724, 0xFFFFFF1D) := by decide
/-- 08, worked example: at 1,024,000 counts/s braking begins about 179,190 counts before the target. -/
theorem test_stop_distance : (mustBrake 1024000 10240 512000 2560000 5120000 (179189 * 65536),
    mustBrake 1024000 10240 512000 2560000 5120000 (179201 * 65536)) = (true, false) := by decide
/-- 08, worked example: with the reduced rates the axis cannot stop within 89,590 counts at 768,000 counts/s. -/
theorem test_stop_distance_reduced : mustBrake 768000 10240 512000 1280000 1280000 (230359 * 65536) = true := by decide
/-- 15, worked example: the second run's words against the first give NDIS 1 and DIFF 8. -/
def calExample : State :=
  let s := (State.reset.setFld (R.CAL_G_TOL 3) F.CAL_G_TOL_ABS 2).setFld (R.CAL_G_TOL 3) F.CAL_G_TOL_REL 66
  let fs := calFields 3 0
  (s.calCompare 3 fs 0x42B0FFDB 0x42B8FFDC).calCompare 3 fs 0x4000FFD7 0x4006FFD3
theorem test_cal_compare : (calExample.reg (R.CAL_G_CMPW 3), calExample.reg (R.CAL_G_NDIS 3), calExample.reg (R.CAL_G_DIFF 3)) = (2, 1, 8) := by
  decide
/-- The package numbers of R1: a T32's word spells no command, since the table gives none any bits. -/
theorem test_no_word_spells_a_command : decodeTableWord 32 0 = none := rfl
/-- A front command runs and leaves the queue. -/
theorem test_step_front : (nxt (step { State.reset with pending := [.absentAccessClear 0, .arm] })).pending = [.arm] := by decide

/-! ### Lanes, patterns and the sine (R200, R328, R335, R338, R260) -/

/-- R200, R335: a packet of 8 payload bytes has 28 bytes on 4 blocks, spells itself, and a changed byte fails its CRC. -/
theorem test_packet_blocks : (packetWire pk0).length = 28 ∧ (packetBlocks pk0).length = 4 ∧
    packetOfBlocks (packetBlocks pk0) = some pk0 ∧ packetOf ((packetWire pk0).set 6 1) = none := by decide +kernel
/-- R335: the blocks of a packet on two lanes, in order. -/
theorem test_stripe : stripe 2 [dataBlock 10, dataBlock 11, dataBlock 12] 1 = [dataBlock 11] := by decide
/-- R328: the descrambler gives the payload back, whatever its register held 58 bits before. -/
theorem test_scrambler : (let sent := (throughBits scrambleBit 5 (bitsOf 0x0123456789ABCDEF 64)).1
    natOf ((throughBits descrambleBit 0 sent).1.drop 58) = natOf ((bitsOf 0x0123456789ABCDEF 64).drop 58)) := by decide +kernel
/-- PRBS7 has a period of 127 bits. -/
theorem test_prbs7_period : prbsAfter 7 6 127 1 = 1 ∧ prbs 7 6 1 ≠ 1 := by decide +kernel
/-- The sine at the four quarters of a cycle. -/
theorem test_sine_quarters : (sine48 0, sine48 256, sine48 512, sine48 768) = (0, 2 ^ 48, 0, -2 ^ 48) := by decide +kernel
/-- sin and cos of an eighth of a cycle are equal, and their squares add to the square of the scale within rounding. -/
theorem test_sine_eighth : sine48 128 = cosine48 128 ∧ (2 * sine48 128 * sine48 128 - 2 ^ 96).natAbs < 2 ^ 50 := by decide +kernel

/-! ### States that meet the hypotheses of the statements about steps -/

/-- A state with one command waiting. -/
theorem meets_StepRunsFrontCommand : ({ State.reset with pending := [.arm] } : State).pending = .arm :: [] := rfl
/-- Right after reset FCLK runs and no command waits. -/
theorem meets_IdleStepIsOneClockPeriod_fclk : State.reset.pending = [] ∧ State.reset.clockless = false ∧ State.reset.fclk = true := by decide
/-- No learning update of a period stands right after reset. -/
theorem meets_IdleStepIsOneClockPeriod_learned : State.reset.srv.learned = true := by decide
/-- A device held by PORN has no clock. -/
theorem meets_IdleStepIsOneClockPeriod_none : (let s := { State.reset with boot := { State.reset.boot with porn := true } }
    s.pending = [] ∧ s.clockless = true) := by decide
/-- A step from reset answers a next state. -/
theorem meets_StepTakesOneCommandOnly : step State.reset = .next State.reset.tick := rfl
/-- Reset is canonical, and its step answers a next state. -/
theorem meets_StepKeepsCanonicalForm : State.reset.canon = true ∧ step State.reset = .next State.reset.tick := ⟨by decide, rfl⟩

/-! ### Witnesses: each clause of a statement is met by a state and operands -/

theorem meets_ArmTakesLayerOrRejects_arm_0 : (fun (s : State) => (s.layerArmed = false) ∧ (s.time.mt + ticksU (if s.up dSEQ then 250000 else 2750000) ≤ s.mstartReg) ∧ (s.mstartOnGrid = true)) (State.reset.setReg R.SEQ_GRP_MSTART_SEC_LO 1) := by decide
theorem meets_ArmTakesLayerOrRejects_arm_1 : (fun (s : State) (status : Nat) => ((status = 4 ∧ s.layerArmed = true) ∨ (status = 3 ∧ s.layerArmed = false ∧ s.mstartReg < s.time.mt + ticksU (if s.up dSEQ then 250000 else 2750000)) ∨
    (status = 6 ∧ s.layerArmed = false ∧ s.time.mt + ticksU (if s.up dSEQ then 250000 else 2750000) ≤ s.mstartReg ∧ s.mstartOnGrid = false))) (State.reset) 3 := by decide

theorem meets_ArmingChecksEnd_armingCheckDone_0 : (fun (s : State) => (s.flag R.SEQ_GRP_STAT F.SEQ_GRP_STAT_CHECKING = true) ∧ (s.grpState = 1) ∧ (s.tableOk = true)) ((((({ State.reset with grp := { Group.reset with n := 1 }, dram := [(0, 0x50), (1, 0xC3)] } : State).setFld R.SEQ_GRP_STAT F.SEQ_GRP_STAT_STATE 1).setFlag R.SEQ_GRP_STAT F.SEQ_GRP_STAT_CHECKING true).setFlag R.DDR_STAT F.DDR_STAT_READY true)) := by decide
theorem meets_ArmingChecksEnd_armingCheckDone_1 : (fun (s : State) (r : State) => (s.flag R.SEQ_GRP_STAT F.SEQ_GRP_STAT_CHECKING = true) ∧ (s.grpState = 1) ∧ (s.tableOk = false) ∧ (s.armUndo = some r.armSaved)) ({ ((({ State.reset with grp := { Group.reset with n := 0 } } : State).setFld R.SEQ_GRP_STAT F.SEQ_GRP_STAT_STATE 1).setFlag R.SEQ_GRP_STAT F.SEQ_GRP_STAT_CHECKING true) with armUndo := some (State.reset.setFld (R.SEQ_STAT 2) F.SEQ_STAT_NOTOWN 5).armSaved }) (State.reset.setFld (R.SEQ_STAT 2) F.SEQ_STAT_NOTOWN 5) := by decide +kernel
theorem meets_ArmingChecksEnd_wakeAlarm : (fun (s : State) (k : Nat) => (s.grp.wakeAlarm = some k) ∧ (k ≤ s.time.mt)) (({ State.reset with grp := { Group.reset with wakeAlarm := some 5 }, time := { State.reset.time with mt := 9 } } : State)) 5 := by decide
theorem meets_ArmingChecksEnd_channelReady : (fun (s : State) (ch : Nat) => (ch < s.channels) ∧ (s.chState ch = 2) ∧ (s.isReady ch = true)) (((State.reset.modCh 3 fun c => { c with curds := [⟨0, 0, false, true, 0, 0, false, 0, none, 0⟩], feed := [⟨0, true, true, [], 0, true, 0, [], true, 0⟩] }).setFld (R.SEQ_STAT 3) F.SEQ_STAT_STATE 2)) 3 := by decide

theorem meets_LayerStartTimeline_startVote : (fun (s : State) => (s.grpState = 1) ∧ (s.grp.voted = false) ∧ (s.beforeStart 125000 = true)) ((({ State.reset with grp := { Group.reset with mstart := 800000000 } } : State).setFld R.SEQ_GRP_STAT F.SEQ_GRP_STAT_STATE 1)) := by decide
theorem meets_LayerStartTimeline_startVoteReceived : (fun (s : State) (port : Nat) (pk : Packet) => (s.consumes port pk = true) ∧ (s.groupOk pk 1 = true)) (grpRx 1) 0 (grpPk 1) := by decide
theorem meets_LayerStartTimeline_startDecision_2 : (fun (s : State) => (s.grpState = 1) ∧ (s.grp.started = false) ∧ (s.grp.refused = false) ∧ (s.beforeStart 62500 = true) ∧ (s.notReadyMask = 0)) ((({ State.reset with grp := { Group.reset with mstart := 400000000, startVotes := [(0, true)] } } : State).setFld R.SEQ_GRP_STAT F.SEQ_GRP_STAT_STATE 1).setReg R.SEQ_GRP_CTL 0) := by decide
theorem meets_LayerStartTimeline_startDecision_3 : (fun (s : State) => (s.grpState = 1) ∧ (s.grp.started = false) ∧ (s.grp.refused = false) ∧ (s.beforeStart 62500 = true) ∧ (s.notReadyMask ≠ 0) ∧ (s.notReadyMask < 65536)) ((({ State.reset with grp := { Group.reset with mstart := 400000000 } } : State).setFld R.SEQ_GRP_STAT F.SEQ_GRP_STAT_STATE 1)) := by decide
theorem meets_LayerStartTimeline_layerStart_4 : (fun (s : State) => (s.grpState = 1) ∧ (s.beforeStart 0 = true) ∧ (s.grp.started = true)) ((({ State.reset with grp := { Group.reset with mstart := 0, started := true } } : State).setFld R.SEQ_GRP_STAT F.SEQ_GRP_STAT_STATE 1)) := by decide
theorem meets_LayerStartTimeline_layerStart_5 : (fun (s : State) => (s.grpState = 1) ∧ (s.beforeStart 0 = true) ∧ (s.grp.started = false)) ((({ State.reset with grp := { Group.reset with mstart := 0 } } : State).setFld R.SEQ_GRP_STAT F.SEQ_GRP_STAT_STATE 1)) := by decide

theorem meets_YieldVoteAndDecision_yieldSeal_0 : (fun (s : State) => (s.beforeYield 25000 = true) ∧ (s.grp.sealed = none) ∧ (s.grp.votes = [])) (((({ State.reset with grp := { Group.reset with n := 1, run := true, s := 25000 }, dram := [(0, 0x50), (1, 0xC3)] } : State).setFld R.SEQ_GRP_STAT F.SEQ_GRP_STAT_STATE 2).setFlag R.DDR_STAT F.DDR_STAT_READY true)) := by decide
theorem meets_YieldVoteAndDecision_yieldVoteReceived_1 : (fun (s : State) (port : Nat) (pk : Packet) => (s.consumes port pk = true) ∧ (s.groupOk pk 2 = true) ∧ (s.grp.run = true) ∧ ((groupMsg pk.payload).g = s.grp.nextYield) ∧ (s.grp.closed = false) ∧ (s.grp.votes = [])) ((grpRx 2).modGrp fun g => { g with run := true }) 0 (grpPk 2) := by decide
theorem meets_YieldVoteAndDecision_yieldSeal_2 : (fun (s : State) => (s.beforeYield 25000 = true) ∧ (s.grp.sealed = none) ∧ (splitP ((s.self, s.yieldTime s.grp.nextYield, (decide (s.holdCausesNow ≠ 0) || s.grp.lateHold), s.holdCausesNow, s.grp.abortFlag, s.grp.p) :: s.grp.votes) s.self = 0)) (((({ State.reset with grp := { Group.reset with n := 1, run := true, s := 25000, votes := [(2, 50000, true, 1, false, 0)] }, dram := [(0, 0x50), (1, 0xC3)] } : State).setFld R.SEQ_GRP_STAT F.SEQ_GRP_STAT_STATE 2).setFlag R.DDR_STAT F.DDR_STAT_READY true)) := by decide
theorem meets_YieldVoteAndDecision_yieldSeal_3 : (fun (s : State) => (s.beforeYield 25000 = true) ∧ (s.grp.sealed = none) ∧ (splitP ((s.self, s.yieldTime s.grp.nextYield, (decide (s.holdCausesNow ≠ 0) || s.grp.lateHold), s.holdCausesNow, s.grp.abortFlag, s.grp.p) :: s.grp.votes) s.self ≠ 0)) (((({ State.reset with grp := { Group.reset with n := 1, run := true, s := 25000, votes := [(2, 50000, true, 1, false, 9)] }, dram := [(0, 0x50), (1, 0xC3)] } : State).setFld R.SEQ_GRP_STAT F.SEQ_GRP_STAT_STATE 2).setFlag R.DDR_STAT F.DDR_STAT_READY true)) := by decide
theorem meets_YieldVoteAndDecision_yieldVoteReceived_4 : (fun (s : State) (port : Nat) (pk : Packet) => (s.consumes port pk = true) ∧ (s.groupOk pk 2 = true) ∧ (s.grpState = 2 ∨ s.grpState = 3) ∧ ((groupMsg pk.payload).g = s.grp.nextYield) ∧ (s.grp.closed = false) ∧ (splitP (((groupMsg pk.payload).member, (groupMsg pk.payload).sg, bitAt (groupMsg pk.payload).flags 0, bits (groupMsg pk.payload).flags 1 3, bitAt (groupMsg pk.payload).flags 4, (groupMsg pk.payload).p) :: s.grp.votes.filter fun w => decide (w.1 ≠ (groupMsg pk.payload).member)) s.self = 0)) ((grpRx 3).modGrp fun g => { g with votes := [(0, 0, false, 0, false, 0)] }) 0 (grpPk 2) := by decide
theorem meets_YieldVoteAndDecision_yieldVoteReceived_5 : (fun (s : State) (port : Nat) (pk : Packet) => (s.consumes port pk = true) ∧ (s.groupOk pk 2 = true) ∧ (s.grpState = 2 ∨ s.grpState = 3) ∧ ((groupMsg pk.payload).g ≠ s.grp.nextYield)) ((grpRx 2).modGrp fun g => { g with nextYield := 4 }) 0 (grpPk 2) := by decide
theorem meets_YieldVoteAndDecision_yieldVoteReceived_6 : (fun (s : State) (port : Nat) (pk : Packet) => (s.consumes port pk = true) ∧ (s.groupOk pk 2 = true) ∧ (s.grpState = 2 ∨ s.grpState = 3) ∧ ((groupMsg pk.payload).g = s.grp.nextYield) ∧ (splitP (((groupMsg pk.payload).member, (groupMsg pk.payload).sg, bitAt (groupMsg pk.payload).flags 0, bits (groupMsg pk.payload).flags 1 3, bitAt (groupMsg pk.payload).flags 4, (groupMsg pk.payload).p) :: s.grp.votes.filter fun w => decide (w.1 ≠ (groupMsg pk.payload).member)) s.self ≠ 0)) ((grpRx 2).modGrp fun g => { g with closed := true, votes := [(0, 0, false, 0, false, 3)] }) 0 (grpPk 2) := by decide
theorem meets_YieldVoteAndDecision_yieldVoteDeadline : (fun (s : State) => (s.beforeYield 12500 = true)) (((({ State.reset with grp := { Group.reset with n := 1, run := true, s := 37500 }, dram := [(0, 0x50), (1, 0xC3)] } : State).setFld R.SEQ_GRP_STAT F.SEQ_GRP_STAT_STATE 2).setFlag R.DDR_STAT F.DDR_STAT_READY true)) := by decide
theorem meets_YieldVoteAndDecision_yieldDecision : (fun (s : State) => (s.beforeYield 6250 = true)) (((({ State.reset with grp := { Group.reset with n := 1, run := true, s := 43750 }, dram := [(0, 0x50), (1, 0xC3)] } : State).setFld R.SEQ_GRP_STAT F.SEQ_GRP_STAT_STATE 2).setFlag R.DDR_STAT F.DDR_STAT_READY true)) := by decide

theorem meets_YieldPointPassHoldAbort_yieldPoint_0 : (fun (s : State) => (s.grpState = 2) ∧ (s.grp.decision = 1) ∧ (s.grp.s = s.yieldTime (s.grp.nextYield - 1)) ∧ (s.grp.nextYield - 1 + 1 < s.grp.n)) ((({ State.reset with grp := { Group.reset with n := 2, run := true, nextYield := 1, decision := 1 } } : State).setFld R.SEQ_GRP_STAT F.SEQ_GRP_STAT_STATE 2)) := by decide
theorem meets_YieldPointPassHoldAbort_yieldPoint_1 : (fun (s : State) => (s.grpState = 2) ∧ (s.grp.decision = 1) ∧ (s.grp.s = s.yieldTime (s.grp.nextYield - 1)) ∧ (s.grp.nextYield - 1 + 1 = s.grp.n) ∧ (s.grp.abortFlag = false) ∧ (∀ n ∈ s.participants, s.waitsAt n (s.grp.nextYield - 1) = true)) ((({ State.reset with grp := { Group.reset with n := 1, run := true, nextYield := 1, decision := 1 } } : State).setFld R.SEQ_GRP_STAT F.SEQ_GRP_STAT_STATE 2)) := by decide
theorem meets_YieldPointPassHoldAbort_yieldPoint_2 : (fun (s : State) => (s.grpState = 2) ∧ (s.grp.decision = 2) ∧ (s.grp.s = s.yieldTime (s.grp.nextYield - 1)) ∧ (s.grp.ownHold = false)) ((({ State.reset with grp := { Group.reset with n := 1, run := true, nextYield := 1, decision := 2, held := [(3, 4)] } } : State).setFld R.SEQ_GRP_STAT F.SEQ_GRP_STAT_STATE 2)) := by decide
theorem meets_YieldPointPassHoldAbort_yieldPoint_3 : (fun (s : State) => (s.grpState = 2) ∧ (s.grp.decision = 3) ∧ (s.grp.s = s.yieldTime (s.grp.nextYield - 1))) ((({ State.reset with grp := { Group.reset with n := 1, run := true, nextYield := 1, decision := 3 } } : State).setFld R.SEQ_GRP_STAT F.SEQ_GRP_STAT_STATE 2)) := by decide
theorem meets_YieldPointPassHoldAbort_yieldPoint_4 : (fun (s : State) => (s.grpState = 2) ∧ (s.grp.decision = 1) ∧ (s.grp.s = s.yieldTime (s.grp.nextYield - 1))) ((({ State.reset with grp := { Group.reset with n := 2, run := true, nextYield := 1, decision := 1, pmask := 1 } } : State).setFld R.SEQ_GRP_STAT F.SEQ_GRP_STAT_STATE 2)) := by decide
theorem meets_YieldPointPassHoldAbort_yieldPoint_5 : (fun (s : State) => (s.grpState = 2) ∧ (s.grp.decision = 2) ∧ (s.grp.s = s.yieldTime (s.grp.nextYield - 1))) ((({ State.reset with grp := { Group.reset with n := 2, run := true, nextYield := 1, decision := 2, pmask := 1, held := [(0, 1)], ownHold := true } } : State).setFld R.SEQ_GRP_STAT F.SEQ_GRP_STAT_STATE 2)) := by decide
theorem meets_YieldPointPassHoldAbort_yieldPoint_6 : (fun (s : State) => (s.grpState = 2) ∧ (s.grp.decision = 3) ∧ (s.grp.s = s.yieldTime (s.grp.nextYield - 1))) ((({ State.reset with grp := { Group.reset with n := 2, run := true, nextYield := 1, decision := 3, pmask := 1, abortCause := 2 } } : State).setFld R.SEQ_GRP_STAT F.SEQ_GRP_STAT_STATE 2)) := by decide

theorem meets_HoldEventsAndRestart_holdCauseClear_0 : (fun (s : State) (stamp : Nat) => (s.grpState = 3) ∧ (s.grp.holders = [(s.self, stamp, true)]) ∧ (s.holdCausesNow = 0)) ((({ State.reset with grp := { Group.reset with holders := [(0, 7, true)], nextYield := 1 } } : State).setFld R.SEQ_GRP_STAT F.SEQ_GRP_STAT_STATE 3)) 7 := by decide
theorem meets_HoldEventsAndRestart_holdEventRepeat_1 : (fun (s : State) (hold : Bool) (stamp last c : Nat) => (s.grpState = 3) ∧ (s.grp.ownEvent = some (hold, stamp, last, c)) ∧ (last + ticksU 12500 ≤ s.time.mt) ∧ (s.holdCausesNow = 0)) ((({ State.reset with grp := { Group.reset with ownEvent := some (true, 5, 0, 1), nextYield := 1 }, time := { State.reset.time with mt := 80000000 } } : State).setFld R.SEQ_GRP_STAT F.SEQ_GRP_STAT_STATE 3)) true 5 0 1 := by decide
theorem meets_HoldEventsAndRestart_holdEventReceived_2 : (fun (s : State) (port : Nat) (pk : Packet) => (s.consumes port pk = true) ∧ (s.groupOk pk 3 = true) ∧ (s.grpState = 3) ∧ (s.grp.restart = none) ∧ (s.grp.holders = []) ∧ (s.holdCausesNow = 0)) (grpRx 3) 0 (grpPk 3) := by decide
theorem meets_HoldEventsAndRestart_releaseEventReceived_3 : (fun (s : State) (port : Nat) (pk : Packet) => (s.consumes port pk = true) ∧ (s.groupOk pk 4 = true) ∧ (s.grpState = 3) ∧ (s.grp.restart = none) ∧ (s.grp.holders = []) ∧ (s.holdCausesNow = 0)) (grpRx 3) 0 (grpPk 4) := by decide
theorem meets_HoldEventsAndRestart_holdCauseClear_4 : (fun (s : State) => (s.grpState = 3) ∧ ((s.grp.holders.any fun h => decide (h.1 = s.self) && h.2.2) = true) ∧ (s.holdCausesNow = 0)) ((({ State.reset with grp := { Group.reset with holders := [(3, 9, true), (0, 7, true)], nextYield := 1 } } : State).setFld R.SEQ_GRP_STAT F.SEQ_GRP_STAT_STATE 3)) := by decide
theorem meets_HoldEventsAndRestart_holdEventRepeat_5 : (fun (s : State) (hold : Bool) (stamp last c : Nat) => (s.grpState = 3) ∧ (s.grp.ownEvent = some (hold, stamp, last, c)) ∧ (last + ticksU 12500 ≤ s.time.mt)) ((({ State.reset with grp := { Group.reset with ownEvent := some (false, 5, 0, 0), holders := [(0, 9, false)], nextYield := 1 }, time := { State.reset.time with mt := 80000000 } } : State).setFld R.SEQ_GRP_STAT F.SEQ_GRP_STAT_STATE 3).setFlag R.SEQ_GRP_CTL F.SEQ_GRP_CTL_HOLD_REQ true) false 5 0 0 := by decide
theorem meets_HoldEventsAndRestart_holdEventReceived_6 : (fun (s : State) (port : Nat) (pk : Packet) => (s.consumes port pk = true) ∧ (s.groupOk pk 3 = true) ∧ (s.grpState = 3) ∧ (s.grp.restart = none)) ((grpRx 3).modGrp fun g => { g with holders := [(0, 5, true), (1, 2, false)] }) 0 (grpPk 3) := by decide
theorem meets_HoldEventsAndRestart_holdEventReceived_7 : (fun (s : State) (port : Nat) (pk : Packet) (at_ : Nat) => (s.consumes port pk = true) ∧ (s.groupOk pk 3 = true) ∧ (s.grpState = 3) ∧ (s.grp.restart = some at_) ∧ (fineOfStamp (groupMsg pk.payload).stamp + 12500 * tickFine ≤ fineOfMt at_)) ((grpRx 3).modGrp fun g => { g with restart := some 90000000, holders := [(0, 5, false), (1, 0, false)] }) 0 (grpPk 3) 90000000 := by decide
theorem meets_HoldEventsAndRestart_releaseEventReceived_8 : (fun (s : State) (port : Nat) (pk : Packet) => (s.consumes port pk = true) ∧ (s.groupOk pk 4 = true) ∧ (s.grpState = 3)) ((grpRx 3).modGrp fun g => { g with holders := [(0, 5, false), (1, 0, true)] }) 0 (grpPk 4) := by decide
theorem meets_HoldEventsAndRestart_holdRestart_9 : (fun (s : State) (at_ : Nat) => (s.grpState = 3) ∧ (s.grp.restart = some at_) ∧ (at_ ≤ s.time.mt) ∧ (s.grp.nextYield - 1 + 1 < s.grp.n)) ((({ State.reset with grp := { Group.reset with n := 2, nextYield := 1, restart := some 0, holdCauses := 4 }, time := { State.reset.time with mt := 64000 } } : State).setFld R.SEQ_GRP_STAT F.SEQ_GRP_STAT_STATE 3)) 0 := by decide
theorem meets_HoldEventsAndRestart_holdRestart_10 : (fun (s : State) (at_ : Nat) => (s.grpState = 3) ∧ (s.grp.restart = some at_) ∧ (at_ ≤ s.time.mt) ∧ (s.grp.nextYield - 1 + 1 = s.grp.n) ∧ (s.grp.abortFlag = false)) ((({ State.reset with grp := { Group.reset with n := 1, nextYield := 1, restart := some 0, holdCauses := 4 }, time := { State.reset.time with mt := 64000 } } : State).setFld R.SEQ_GRP_STAT F.SEQ_GRP_STAT_STATE 3)) 0 := by decide

theorem meets_AbortsOfLayers_abort_0 : (fun (s : State) => (s.layerLive = true)) ((({ State.reset with grp := { Group.reset with run := true } } : State).setFld R.SEQ_GRP_STAT F.SEQ_GRP_STAT_STATE 2)) := by decide
theorem meets_AbortsOfLayers_abort_1 : (fun (s : State) => (s.layerLive = false) ∧ (s.grpState = 1)) ((({ State.reset with grp := { Group.reset with n := 1 } } : State).setFld R.SEQ_GRP_STAT F.SEQ_GRP_STAT_STATE 1)) := by decide
theorem meets_AbortsOfLayers_abort_2 : (fun (s : State) => (s.layerLive = true)) ((({ State.reset with grp := { Group.reset with run := true, n := 9 } } : State).setFld R.SEQ_GRP_STAT F.SEQ_GRP_STAT_STATE 2)) := by decide
theorem meets_AbortsOfLayers_abort_3 : (fun (s : State) => (s.layerLive = false) ∧ (s.grpState = 1)) ((({ State.reset with grp := { Group.reset with n := 1 } } : State).setFld R.SEQ_GRP_STAT F.SEQ_GRP_STAT_STATE 1)) := by decide
theorem meets_AbortsOfLayers_groupAbortReceived_4 : (fun (s : State) (port : Nat) (pk : Packet) => (s.consumes port pk = true) ∧ (s.groupOk pk 5 = true) ∧ (s.grpState = 3)) (grpRx 3) 0 (grpPk 5) := by decide
theorem meets_AbortsOfLayers_groupAbortReceived_5 : (fun (s : State) (port : Nat) (pk : Packet) => (s.consumes port pk = true) ∧ (s.groupOk pk 5 = true) ∧ (s.layerLive = true) ∧ (s.grpState ≠ 3)) (grpRx 2) 0 (grpPk 5) := by decide
theorem meets_AbortsOfLayers_groupAbortReceived_6 : (fun (s : State) (port : Nat) (pk : Packet) => (s.consumes port pk = true) ∧ (s.groupOk pk 5 = true) ∧ (s.layerLive = false)) (grpRx 1) 0 (grpPk 5) := by decide
theorem meets_AbortsOfLayers_groupAbortReceived_7 : (fun (s : State) (port : Nat) (pk : Packet) => (s.consumes port pk = true) ∧ (s.groupOk pk 5 = true) ∧ (s.grpState = 3)) (grpRx 3) 0 (grpPk 5) := by decide
theorem meets_AbortsOfLayers_groupAbortReceived_8 : (fun (s : State) (port : Nat) (pk : Packet) => (s.consumes port pk = true) ∧ (s.groupOk pk 5 = true) ∧ (s.grpState = 2)) (grpRx 2) 0 (grpPk 5) := by decide
theorem meets_AbortsOfLayers_groupAbortReceived_9 : (fun (s : State) (port : Nat) (pk : Packet) => (s.consumes port pk = true) ∧ (s.groupOk pk 5 = true) ∧ (s.grpState = 1) ∧ (s.grp.started = false)) (grpRx 1) 0 (grpPk 5) := by decide

theorem meets_CursorInstructions_nop_0 : (fun (s : State) (ch : Nat) (ws : List Nat) => (s.canDecode ch 0x00 ws = true) ∧ (s.hasNext ch ws = true)) (decAt [0x0]) 0 [0x0] := by decide
theorem meets_CursorInstructions_nop_1 : (fun (s : State) (ch : Nat) (ws : List Nat) => (s.mayDecode ch 0x00 ws = true)) (decAt [0x0]) 0 [0x0] := by decide
theorem meets_CursorInstructions_wait_2 : (fun (s : State) (ch : Nat) (ws : List Nat) => (s.mayDecode ch 0x02 ws = true) ∧ ((((s.opened ch ws.length).ch ch).cursor : Int) ≤ (bits (wd ws 0) 0 48 : Int) + kTime ((s.opened ch ws.length).ch ch).dec.k (wd ws 0)) ∧ ((bits (wd ws 0) 0 48 : Int) + kTime ((s.opened ch ws.length).ch ch).dec.k (wd ws 0) < (2 ^ 48 : Nat))) (decAt [0x200000000000005]) 0 [0x200000000000005] := by decide
theorem meets_CursorInstructions_waitr_3 : (fun (s : State) (ch : Nat) (ws : List Nat) => (s.mayDecode ch 0x03 ws = true)) (decAt [0x300000000000005]) 0 [0x300000000000005] := by decide
theorem meets_CursorInstructions_gyield_4 : (fun (s : State) (ch : Nat) (ws : List Nat) => (s.mayDecode ch 0x04 ws = true) ∧ (bits (wd ws 0) 0 16 < (s.opened ch ws.length).grp.n) ∧ (((s.opened ch ws.length).ch ch).dec.loc.lib = false) ∧ ((s.opened ch ws.length).rangePoisoned ((s.opened ch ws.length).yieldAddr (bits (wd ws 0) 0 16)) 8 = false) ∧ ((s.opened ch ws.length).dramOk ((s.opened ch ws.length).yieldAddr (bits (wd ws 0) 0 16)) 8 = true) ∧ (((s.opened ch ws.length).ch ch).cursor ≤ (s.opened ch ws.length).yieldTime (bits (wd ws 0) 0 16)) ∧ (((s.opened ch ws.length).ch ch).lastAct ≤ (s.opened ch ws.length).yieldTime (bits (wd ws 0) 0 16)) ∧ (∀ x ∈ ((s.opened ch ws.length).ch ch).lastOn, x < (s.opened ch ws.length).yieldTime (bits (wd ws 0) 0 16)) ∧ (∀ h ∈ ((s.opened ch ws.length).ch ch).hands, h.anchor + h.xf ≤ (s.opened ch ws.length).yieldTime (bits (wd ws 0) 0 16)) ∧ ((s.opened ch ws.length).grp.run = true → (s.opened ch ws.length).grp.s ≤ (s.opened ch ws.length).yieldTime (bits (wd ws 0) 0 16))) (((decAt [0x400000000000001]).modGrp fun g => { g with n := 3 }).setFlag R.DDR_STAT F.DDR_STAT_READY true) 0 [0x400000000000001] := by decide
theorem meets_CursorInstructions_sync_5 : (fun (s : State) (ch : Nat) (ws : List Nat) => (s.mayDecode ch 0x05 ws = true) ∧ (((s.opened ch ws.length).inLib ch) = false) ∧ (((s.opened ch ws.length).ch ch).cursor ≤ bits (wd ws 1) 0 48)) (decAt [0x540000000000007, 0x9]) 0 [0x540000000000007, 0x9] := by decide
theorem meets_CursorInstructions_wait_6 : (fun (s : State) (ch : Nat) (ws : List Nat) => (s.canDecode ch 0x02 ws = true) ∧ (s.hasNext ch ws = true) ∧ (((s.ch ch).cursor : Int) ≤ (bits (wd ws 0) 0 48 : Int) + kTime (s.ch ch).dec.k (wd ws 0)) ∧ ((bits (wd ws 0) 0 48 : Int) + kTime (s.ch ch).dec.k (wd ws 0) < (2 ^ 48 : Nat))) (decAt [0x200000000000005]) 0 [0x200000000000005] := by decide
theorem meets_CursorInstructions_waitr_7 : (fun (s : State) (ch : Nat) (ws : List Nat) => (s.canDecode ch 0x03 ws = true) ∧ (s.hasNext ch ws = true)) (decAt [0x300000000000005]) 0 [0x300000000000005] := by decide
theorem meets_CursorInstructions_gyield_8 : (fun (s : State) (ch : Nat) (ws : List Nat) => (s.canDecode ch 0x04 ws = true) ∧ (s.hasNext ch ws = true) ∧ (bits (wd ws 0) 0 16 < s.grp.n) ∧ (s.inLib ch = false) ∧ (s.rangePoisoned (s.yieldAddr (bits (wd ws 0) 0 16)) 8 = false) ∧ (s.dramOk (s.yieldAddr (bits (wd ws 0) 0 16)) 8 = true) ∧ (s.grp.run = false) ∧ ((s.ch ch).cursor ≤ s.yieldTime (bits (wd ws 0) 0 16)) ∧ ((s.ch ch).lastAct ≤ s.yieldTime (bits (wd ws 0) 0 16)) ∧ ((s.ch ch).lastOn = none) ∧ ((s.ch ch).hands = [])) (((decAt [0x400000000000001]).modGrp fun g => { g with n := 3 }).setFlag R.DDR_STAT F.DDR_STAT_READY true) 0 [0x400000000000001] := by decide
theorem meets_CursorInstructions_sync_9 : (fun (s : State) (ch : Nat) (ws : List Nat) => (s.canDecode ch 0x05 ws = true) ∧ (s.hasNext ch ws = true) ∧ (s.inLib ch = false) ∧ ((s.ch ch).cursor ≤ bits (wd ws 1) 0 48)) (decAt [0x540000000000007, 0x9]) 0 [0x540000000000007, 0x9] := by decide
theorem meets_CursorInstructions_halt_10 : (fun (s : State) (ch : Nat) (ws : List Nat) (d : Curd) => (s.canRead ch 0x01 ws = true) ∧ (ws = [0x01 * 2 ^ 56]) ∧ (s.afterLastYield ch = true) ∧ ((s.ch ch).handBlock = []) ∧ ((s.ch ch).curds = [d]) ∧ (d.last = true) ∧ ((s.ch ch).dec.loc = ⟨false, d.words - 1⟩) ∧ (0 < d.words) ∧ ((s.ch ch).dec.loops = []) ∧ (s.chState ch = 5) ∧ ((s.ch ch).yields.head? = some (s.grp.n - 1))) (((decAt [0x100000000000000] (fun c => { c with curds := [⟨0, 0, false, true, 0, 8, true, 0, none, 0⟩], dec := { c.dec with loc := ⟨false, 7⟩ }, feed := [⟨1, true, true, List.replicate 7 0 ++ [BitVec.ofNat 64 0x100000000000000], 0, true, 0, [], false, 0⟩], lastYield := some (2, 0), yields := [2] })).setFld (R.SEQ_STAT 0) F.SEQ_STAT_STATE 5).modGrp fun g => { g with n := 3 }) 0 [0x100000000000000] ⟨0, 0, false, true, 0, 8, true, 0, none, 0⟩ := by decide
theorem meets_CursorInstructions_undefinedOpcode_11 : (fun (s : State) (ch w0 : Nat) => (s.canRead ch (opOf w0) [w0] = true) ∧ (opRow (opOf w0) = none) ∧ (s.afterLastYield ch = false) ∧ (s.grp.run = false)) (decAt [0xFF00000000000000]) 0 0xFF00000000000000 := by decide
theorem meets_CursorInstructions_halt_12 : (fun (s : State) (ch : Nat) (ws : List Nat) (d : Curd) => (s.mayRead ch 0x01 ws = true) ∧ (ws = [0x01 * 2 ^ 56]) ∧ (s.afterLastYield ch = true) ∧ (((s.opened ch ws.length).ch ch).handBlock = []) ∧ (((s.opened ch ws.length).ch ch).curds = [d]) ∧ (d.last = true) ∧ (((s.opened ch ws.length).ch ch).dec.loc = ⟨false, d.words - 1⟩) ∧ (0 < d.words) ∧ (((s.opened ch ws.length).ch ch).dec.loops = []) ∧ (s.chState ch = 5 ∧ (s.ch ch).yields.head? = some (s.grp.n - 1))) (((decAt [0x100000000000000] (fun c => { c with curds := [⟨0, 0, false, true, 0, 8, true, 0, none, 0⟩], dec := { c.dec with loc := ⟨false, 7⟩ }, feed := [⟨1, true, true, List.replicate 7 0 ++ [BitVec.ofNat 64 0x100000000000000], 0, true, 0, [], false, 0⟩], lastYield := some (2, 0), yields := [2] })).setFld (R.SEQ_STAT 0) F.SEQ_STAT_STATE 5).modGrp fun g => { g with n := 3 }) 0 [0x100000000000000] ⟨0, 0, false, true, 0, 8, true, 0, none, 0⟩ := by decide
theorem meets_CursorInstructions_halt_13 : (fun (s : State) (ch : Nat) (ws : List Nat) (d : Curd) => (s.mayRead ch 0x01 ws = true) ∧ (ws = [0x01 * 2 ^ 56]) ∧ (s.afterLastYield ch = true) ∧ (((s.opened ch ws.length).ch ch).handBlock = []) ∧ (((s.opened ch ws.length).ch ch).curds = [d]) ∧ (d.last = true) ∧ (((s.opened ch ws.length).ch ch).dec.loc = ⟨false, d.words - 1⟩) ∧ (0 < d.words) ∧ (((s.opened ch ws.length).ch ch).dec.loops = []) ∧ (¬(s.chState ch = 5 ∧ (s.ch ch).yields.head? = some (s.grp.n - 1)))) (((decAt [0x100000000000000] (fun c => { c with curds := [⟨0, 0, false, true, 0, 8, true, 0, none, 0⟩], dec := { c.dec with loc := ⟨false, 7⟩ }, feed := [⟨1, true, true, List.replicate 7 0 ++ [BitVec.ofNat 64 0x100000000000000], 0, true, 0, [], false, 0⟩], lastYield := some (2, 0), yields := [2] })).setFld (R.SEQ_STAT 0) F.SEQ_STAT_STATE 4).modGrp fun g => { g with n := 3 }) 0 [0x100000000000000] ⟨0, 0, false, true, 0, 8, true, 0, none, 0⟩ := by decide
theorem meets_CursorInstructions_undefinedOpcode_14 : (fun (s : State) (ch w0 : Nat) => (s.mayRead ch (opOf w0) [w0] = true) ∧ (opRow (opOf w0) = none) ∧ ((s.opened ch 1).afterLastYield ch = false)) (decAt [0xFF00000000000000]) 0 0xFF00000000000000 := by decide

theorem meets_CallsLoopsAndRegisters_call_0 : (fun (s : State) (ch : Nat) (ws : List Nat) => (s.canDecode ch 0x08 ws = true) ∧ ((s.ch ch).handBlock = []) ∧ (s.flag (R.SEQ_LIB_STAT ch) F.SEQ_LIB_STAT_VALID = true) ∧ (bits (wd ws 0) 0 24 < (s.ch ch).libWords) ∧ ((s.ch ch).dec.calls.length < 8)) ((decAt [0x800000000000002] (fun c => { c with libWords := 9 })).setFlag (R.SEQ_LIB_STAT 0) F.SEQ_LIB_STAT_VALID true) 0 [0x800000000000002] := by decide
theorem meets_CallsLoopsAndRegisters_ret_1 : (fun (s : State) (ch : Nat) (ws : List Nat) (l : Loc) (ls : List Loc) => (s.canDecode ch 0x09 ws = true) ∧ ((s.ch ch).handBlock = []) ∧ ((s.ch ch).dec.calls = l :: ls) ∧ ((s.ch ch).dec.loops = []) ∧ (l.word < (s.ch ch).endOf l.lib)) (decAt [0x900000000000000] (fun c => { c with dec := { c.dec with calls := [⟨false, 3⟩] } })) 0 [0x900000000000000] ⟨false, 3⟩ [] := by decide
theorem meets_CallsLoopsAndRegisters_rep_2 : (fun (s : State) (ch : Nat) (ws : List Nat) => (s.canDecode ch 0x0A ws = true) ∧ (s.hasNext ch ws = true) ∧ ((s.ch ch).dec.loops.length < 4)) (decAt [0xA00000000000005]) 0 [0xA00000000000005] := by decide
theorem meets_CallsLoopsAndRegisters_endr_3 : (fun (s : State) (ch : Nat) (ws : List Nat) (p : Loop) (ps : List Loop) => (s.canDecode ch 0x0B ws = true) ∧ ((s.ch ch).handBlock = []) ∧ ((s.ch ch).dec.loops = p :: ps) ∧ (p.start.lib = (s.ch ch).dec.loc.lib) ∧ (p.depth = (s.ch ch).dec.calls.length) ∧ ((s.ch ch).dec.loc.word ≤ p.start.word + 1024) ∧ (1 < p.left) ∧ (p.start.word < (s.ch ch).endOf p.start.lib)) (decAt [0xB00000000000000] (fun c => { c with dec := { c.dec with loops := [⟨⟨false, 3⟩, 2, 0⟩] } })) 0 [0xB00000000000000] ⟨⟨false, 3⟩, 2, 0⟩ [] := by decide
theorem meets_CallsLoopsAndRegisters_endr_4 : (fun (s : State) (ch : Nat) (ws : List Nat) (p : Loop) (ps : List Loop) => (s.canDecode ch 0x0B ws = true) ∧ (s.hasNext ch ws = true) ∧ ((s.ch ch).dec.loops = p :: ps) ∧ (p.start.lib = (s.ch ch).dec.loc.lib) ∧ (p.depth = (s.ch ch).dec.calls.length) ∧ ((s.ch ch).dec.loc.word ≤ p.start.word + 1024) ∧ (p.left ≤ 1)) (decAt [0xB00000000000000] (fun c => { c with dec := { c.dec with loops := [⟨⟨false, 3⟩, 1, 0⟩] } })) 0 [0xB00000000000000] ⟨⟨false, 3⟩, 1, 0⟩ [] := by decide
theorem meets_CallsLoopsAndRegisters_ldk_5 : (fun (s : State) (ch : Nat) (ws : List Nat) => (s.canDecode ch 0x0C ws = true) ∧ (s.hasNext ch ws = true)) (decAt [0xC0600000000004D]) 0 [0xC0600000000004D] := by decide
theorem meets_CallsLoopsAndRegisters_addk_6 : (fun (s : State) (ch : Nat) (ws : List Nat) => (s.canDecode ch 0x0D ws = true) ∧ (s.hasNext ch ws = true)) (decAt [0xD0600000000004D]) 0 [0xD0600000000004D] := by decide
theorem meets_CallsLoopsAndRegisters_call_7 : (fun (s : State) (ch : Nat) (ws : List Nat) => (s.mayDecode ch 0x08 ws = true) ∧ ((s.opened ch ws.length).flag (R.SEQ_LIB_STAT ch) F.SEQ_LIB_STAT_VALID = true) ∧ (bits (wd ws 0) 0 24 < ((s.opened ch ws.length).ch ch).libWords) ∧ (((s.opened ch ws.length).ch ch).dec.calls.length < 8)) ((decAt [0x800000000000002] (fun c => { c with libWords := 9 })).setFlag (R.SEQ_LIB_STAT 0) F.SEQ_LIB_STAT_VALID true) 0 [0x800000000000002] := by decide
theorem meets_CallsLoopsAndRegisters_ret_8 : (fun (s : State) (ch : Nat) (ws : List Nat) (l : Loc) (ls : List Loc) => (s.mayDecode ch 0x09 ws = true) ∧ (((s.opened ch ws.length).ch ch).dec.calls = l :: ls) ∧ (∀ p ∈ ((s.opened ch ws.length).ch ch).dec.loops, p.depth ≠ ((s.opened ch ws.length).ch ch).dec.calls.length)) (decAt [0x900000000000000] (fun c => { c with dec := { c.dec with calls := [⟨false, 3⟩] } })) 0 [0x900000000000000] ⟨false, 3⟩ [] := by decide
theorem meets_CallsLoopsAndRegisters_rep_9 : (fun (s : State) (ch : Nat) (ws : List Nat) => (s.mayDecode ch 0x0A ws = true) ∧ (((s.opened ch ws.length).ch ch).dec.loops.length < 4)) (decAt [0xA00000000000005]) 0 [0xA00000000000005] := by decide
theorem meets_CallsLoopsAndRegisters_endr_10 : (fun (s : State) (ch : Nat) (ws : List Nat) (p : Loop) (ps : List Loop) => (s.mayDecode ch 0x0B ws = true) ∧ (((s.opened ch ws.length).ch ch).dec.loops = p :: ps) ∧ (p.start.lib = ((s.opened ch ws.length).ch ch).dec.loc.lib) ∧ (p.depth = ((s.opened ch ws.length).ch ch).dec.calls.length) ∧ (((s.opened ch ws.length).ch ch).dec.loc.word ≤ p.start.word + 1024) ∧ (1 < p.left)) (decAt [0xB00000000000000] (fun c => { c with dec := { c.dec with loops := [⟨⟨false, 3⟩, 2, 0⟩] } })) 0 [0xB00000000000000] ⟨⟨false, 3⟩, 2, 0⟩ [] := by decide
theorem meets_CallsLoopsAndRegisters_endr_11 : (fun (s : State) (ch : Nat) (ws : List Nat) (p : Loop) (ps : List Loop) => (s.mayDecode ch 0x0B ws = true) ∧ (((s.opened ch ws.length).ch ch).dec.loops = p :: ps) ∧ (p.start.lib = ((s.opened ch ws.length).ch ch).dec.loc.lib) ∧ (p.depth = ((s.opened ch ws.length).ch ch).dec.calls.length) ∧ (((s.opened ch ws.length).ch ch).dec.loc.word ≤ p.start.word + 1024) ∧ (p.left ≤ 1)) (decAt [0xB00000000000000] (fun c => { c with dec := { c.dec with loops := [⟨⟨false, 3⟩, 1, 0⟩] } })) 0 [0xB00000000000000] ⟨⟨false, 3⟩, 1, 0⟩ [] := by decide
theorem meets_CallsLoopsAndRegisters_ldk_12 : (fun (s : State) (ch : Nat) (ws : List Nat) => (s.mayDecode ch 0x0C ws = true)) (decAt [0xC0600000000004D]) 0 [0xC0600000000004D] := by decide
theorem meets_CallsLoopsAndRegisters_addk_13 : (fun (s : State) (ch : Nat) (ws : List Nat) => (s.mayDecode ch 0x0D ws = true)) (decAt [0xD0600000000004D]) 0 [0xD0600000000004D] := by decide

theorem meets_MotionSegments_line_0 : (fun (s : State) (ch : Nat) (ws : List Nat) => (s.canDecode ch 0x11 ws = true) ∧ (s.hasNext ch ws = true)) (decAt [0x1140000000000005, 0x2BC00]) 0 [0x1140000000000005, 0x2BC00] := by decide
theorem meets_MotionSegments_jump_1 : (fun (s : State) (ch : Nat) (ws : List Nat) => (s.canDecode ch 0x10 ws = true) ∧ (s.hasNext ch ws = true) ∧ ((s.ch ch).edgeIn (s.ch ch).cursor ((s.ch ch).cursor + bits (wd ws 1) 8 32) = false)) (decAt [0x1040000000000005, 0x2BC00]) 0 [0x1040000000000005, 0x2BC00] := by decide
theorem meets_MotionSegments_cubic_2 : (fun (s : State) (ch : Nat) (ws : List Nat) => (s.canDecode ch 0x12 ws = true) ∧ (s.hasNext ch ws = true)) (decAt [0x12C0000000000005, 0x2BC00, 0x30000000000, 0x40000000000]) 0 [0x12C0000000000005, 0x2BC00, 0x30000000000, 0x40000000000] := by decide
theorem meets_MotionSegments_dwell_3 : (fun (s : State) (ch : Nat) (ws : List Nat) => (s.canDecode ch 0x13 ws = true) ∧ (s.hasNext ch ws = true)) (decAt [0x13000000000002BC]) 0 [0x13000000000002BC] := by decide
theorem meets_MotionSegments_focus_4 : (fun (s : State) (ch : Nat) (ws : List Nat) => (s.canDecode ch 0x14 ws = true) ∧ (s.hasNext ch ws = true)) (decAt [0x14000000050002BC]) 0 [0x14000000050002BC] := by decide
theorem meets_MotionSegments_line_5 : (fun (s : State) (ch : Nat) (ws : List Nat) => (s.mayDecode ch 0x11 ws = true)) (decAt [0x1140000000000005, 0x2BC00]) 0 [0x1140000000000005, 0x2BC00] := by decide
theorem meets_MotionSegments_jump_6 : (fun (s : State) (ch : Nat) (ws : List Nat) => (s.mayDecode ch 0x10 ws = true) ∧ (((s.opened ch ws.length).ch ch).edgeIn ((s.opened ch ws.length).ch ch).cursor (((s.opened ch ws.length).ch ch).cursor + bits (wd ws 1) 8 32) = false)) (decAt [0x1040000000000005, 0x2BC00]) 0 [0x1040000000000005, 0x2BC00] := by decide
theorem meets_MotionSegments_cubic_7 : (fun (s : State) (ch : Nat) (ws : List Nat) => (s.mayDecode ch 0x12 ws = true)) (decAt [0x12C0000000000005, 0x2BC00, 0x30000000000, 0x40000000000]) 0 [0x12C0000000000005, 0x2BC00, 0x30000000000, 0x40000000000] := by decide
theorem meets_MotionSegments_dwell_8 : (fun (s : State) (ch : Nat) (ws : List Nat) => (s.mayDecode ch 0x13 ws = true)) (decAt [0x13000000000002BC]) 0 [0x13000000000002BC] := by decide
theorem meets_MotionSegments_focus_9 : (fun (s : State) (ch : Nat) (ws : List Nat) => (s.mayDecode ch 0x14 ws = true)) (decAt [0x14000000050002BC]) 0 [0x14000000050002BC] := by decide

theorem meets_PointInstructions_sig_0 : (fun (s : State) (ch : Nat) (ws : List Nat) => (s.canDecode ch 0x06 ws = true) ∧ (s.hasNext ch ws = true) ∧ ((s.ch ch).lastAct ≤ (s.ch ch).actTime ws)) (decAt [0x600000000000009]) 0 [0x600000000000009] := by decide
theorem meets_PointInstructions_evt_1 : (fun (s : State) (ch : Nat) (ws : List Nat) => (s.canDecode ch 0x07 ws = true) ∧ (s.hasNext ch ws = true) ∧ ((s.ch ch).lastAct ≤ (s.ch ch).actTime ws)) (decAt [0x740000000000009, 0x5]) 0 [0x740000000000009, 0x5] := by decide
theorem meets_PointInstructions_fence_2 : (fun (s : State) (ch : Nat) (ws : List Nat) => (s.canDecode ch 0x0E ws = true) ∧ (s.hasNext ch ws = true) ∧ ((s.ch ch).lastAct ≤ (s.ch ch).actTime ws)) (decAt [0xE00000000000000]) 0 [0xE00000000000000] := by decide
theorem meets_PointInstructions_period_3 : (fun (s : State) (ch : Nat) (ws : List Nat) => (s.canDecode ch 0x18 ws = true) ∧ (s.hasNext ch ws = true) ∧ ((s.ch ch).lastAct ≤ (s.ch ch).actTime ws)) (decAt [0x1800000000020008]) 0 [0x1800000000020008] := by decide
theorem meets_PointInstructions_learn_4 : (fun (s : State) (ch : Nat) (ws : List Nat) => (s.canDecode ch 0x19 ws = true) ∧ (s.hasNext ch ws = true) ∧ ((s.ch ch).lastAct ≤ (s.ch ch).actTime ws)) (decAt [0x1900000000000010]) 0 [0x1900000000000010] := by decide
theorem meets_PointInstructions_gsel_5 : (fun (s : State) (ch : Nat) (ws : List Nat) => (s.canDecode ch 0x1A ws = true) ∧ (s.hasNext ch ws = true) ∧ ((s.ch ch).lastAct ≤ (s.ch ch).actTime ws)) (decAt [0x1A00000000000010]) 0 [0x1A00000000000010] := by decide
theorem meets_PointInstructions_trig_6 : (fun (s : State) (ch : Nat) (ws : List Nat) => (s.canDecode ch 0x41 ws = true) ∧ (s.hasNext ch ws = true) ∧ ((s.ch ch).lastAct ≤ (s.ch ch).actTime ws) ∧ ((bits (wd ws 0) 4 2 = 0 ∧ bits (wd ws 0) 0 2 < s.camPorts) ∨ (bits (wd ws 0) 4 2 = 1 ∧ s.hasLight = true))) (decAt [0x4100000000024000]) 0 [0x4100000000024000] := by decide
theorem meets_PointInstructions_move_7 : (fun (s : State) (ch : Nat) (ws : List Nat) => (s.canDecode ch 0x42 ws = true) ∧ (s.hasNext ch ws = true) ∧ ((s.ch ch).lastAct ≤ (s.ch ch).actTime ws) ∧ (bits (wd ws 0) 0 3 < s.axes)) (decAt [0x4240000000000001, 0x5]) 0 [0x4240000000000001, 0x5] := by decide
theorem meets_PointInstructions_sig_8 : (fun (s : State) (ch : Nat) (ws : List Nat) => (s.mayDecode ch 0x06 ws = true) ∧ (((s.opened ch ws.length).ch ch).lastAct ≤ ((s.opened ch ws.length).ch ch).actTime ws)) (decAt [0x600000000000009]) 0 [0x600000000000009] := by decide
theorem meets_PointInstructions_evt_9 : (fun (s : State) (ch : Nat) (ws : List Nat) => (s.mayDecode ch 0x07 ws = true) ∧ (((s.opened ch ws.length).ch ch).lastAct ≤ ((s.opened ch ws.length).ch ch).actTime ws)) (decAt [0x740000000000009, 0x5]) 0 [0x740000000000009, 0x5] := by decide
theorem meets_PointInstructions_fence_10 : (fun (s : State) (ch : Nat) (ws : List Nat) => (s.mayDecode ch 0x0E ws = true) ∧ (((s.opened ch ws.length).ch ch).lastAct ≤ ((s.opened ch ws.length).ch ch).actTime ws)) (decAt [0xE00000000000000]) 0 [0xE00000000000000] := by decide
theorem meets_PointInstructions_period_11 : (fun (s : State) (ch : Nat) (ws : List Nat) => (s.mayDecode ch 0x18 ws = true) ∧ (((s.opened ch ws.length).ch ch).lastAct ≤ ((s.opened ch ws.length).ch ch).actTime ws)) (decAt [0x1800000000020008]) 0 [0x1800000000020008] := by decide
theorem meets_PointInstructions_learn_12 : (fun (s : State) (ch : Nat) (ws : List Nat) => (s.mayDecode ch 0x19 ws = true) ∧ (((s.opened ch ws.length).ch ch).lastAct ≤ ((s.opened ch ws.length).ch ch).actTime ws)) (decAt [0x1900000000000010]) 0 [0x1900000000000010] := by decide
theorem meets_PointInstructions_gsel_13 : (fun (s : State) (ch : Nat) (ws : List Nat) => (s.mayDecode ch 0x1A ws = true) ∧ (((s.opened ch ws.length).ch ch).lastAct ≤ ((s.opened ch ws.length).ch ch).actTime ws)) (decAt [0x1A00000000000010]) 0 [0x1A00000000000010] := by decide
theorem meets_PointInstructions_trig_14 : (fun (s : State) (ch : Nat) (ws : List Nat) => (s.mayDecode ch 0x41 ws = true) ∧ (((s.opened ch ws.length).ch ch).lastAct ≤ ((s.opened ch ws.length).ch ch).actTime ws) ∧ ((bits (wd ws 0) 4 2 = 0 ∧ bits (wd ws 0) 0 2 < (s.opened ch ws.length).camPorts) ∨ (bits (wd ws 0) 4 2 = 1 ∧ (s.opened ch ws.length).hasLight = true))) (decAt [0x4100000000024000]) 0 [0x4100000000024000] := by decide
theorem meets_PointInstructions_move_15 : (fun (s : State) (ch : Nat) (ws : List Nat) => (s.mayDecode ch 0x42 ws = true) ∧ (((s.opened ch ws.length).ch ch).lastAct ≤ ((s.opened ch ws.length).ch ch).actTime ws) ∧ (bits (wd ws 0) 0 3 < (s.opened ch ws.length).axes)) (decAt [0x4240000000000001, 0x5]) 0 [0x4240000000000001, 0x5] := by decide

theorem meets_PowerAndGateInstructions_pset_0 : (fun (s : State) (ch : Nat) (ws : List Nat) => (s.canDecode ch 0x30 ws = true) ∧ (s.hasNext ch ws = true) ∧ ((s.ch ch).lastAct ≤ (s.ch ch).actTime ws)) (decAt [0x3000000000000009]) 0 [0x3000000000000009] := by decide
theorem meets_PowerAndGateInstructions_pramp_1 : (fun (s : State) (ch : Nat) (ws : List Nat) => (s.canDecode ch 0x31 ws = true) ∧ (s.hasNext ch ws = true) ∧ ((s.ch ch).lastAct ≤ (s.ch ch).actTime ws)) (decAt [0x3140000000000009, 0x1F4]) 0 [0x3140000000000009, 0x1F4] := by decide
theorem meets_PowerAndGateInstructions_pulse_2 : (fun (s : State) (ch : Nat) (ws : List Nat) => (s.canDecode ch 0x32 ws = true) ∧ (s.hasNext ch ws = true) ∧ ((s.ch ch).lastAct ≤ (s.ch ch).actTime ws) ∧ (edgeAfter (s.ch ch).lastEdge ((s.ch ch).actTime ws) 0 = true)) (decAt [0x3280000000000009, 0x6400000A0003, 0x5]) 0 [0x3280000000000009, 0x6400000A0003, 0x5] := by decide
theorem meets_PowerAndGateInstructions_env_3 : (fun (s : State) (ch : Nat) (ws : List Nat) => (s.canDecode ch 0x33 ws = true) ∧ (s.hasNext ch ws = true) ∧ ((s.ch ch).lastAct ≤ (s.ch ch).actTime ws)) (decAt [0x3340000000000000, 0x5000000090002]) 0 [0x3340000000000000, 0x5000000090002] := by decide
theorem meets_PowerAndGateInstructions_mpl_4 : (fun (s : State) (ch : Nat) (ws : List Nat) => (s.canDecode ch 0x34 ws = true) ∧ (s.hasNext ch ws = true) ∧ ((s.ch ch).lastAct ≤ (s.ch ch).actTime ws)) (decAt [0x3440000000000001, 0x5000000000000]) 0 [0x3440000000000001, 0x5000000000000] := by decide
theorem meets_PowerAndGateInstructions_lon_5 : (fun (s : State) (ch : Nat) (ws : List Nat) => (s.canDecode ch 0x35 ws = true) ∧ (s.hasNext ch ws = true) ∧ ((s.ch ch).lastAct ≤ (s.ch ch).actTime ws) ∧ (edgeAfter (s.ch ch).lastEdge ((s.ch ch).actTime ws) (bits (wd ws 0) 0 5) = true)) (decAt [0x3500000000000503]) 0 [0x3500000000000503] := by decide
theorem meets_PowerAndGateInstructions_loff_6 : (fun (s : State) (ch : Nat) (ws : List Nat) => (s.canDecode ch 0x36 ws = true) ∧ (s.hasNext ch ws = true) ∧ ((s.ch ch).lastAct ≤ (s.ch ch).actTime ws) ∧ (edgeAfter (s.ch ch).lastEdge ((s.ch ch).actTime ws) (bits (wd ws 0) 0 5) = true)) (decAt [0x3600000000000003]) 0 [0x3600000000000003] := by decide
theorem meets_PowerAndGateInstructions_pset_7 : (fun (s : State) (ch : Nat) (ws : List Nat) => (s.mayDecode ch 0x30 ws = true) ∧ (((s.opened ch ws.length).ch ch).lastAct ≤ ((s.opened ch ws.length).ch ch).actTime ws)) (decAt [0x3000000000000009]) 0 [0x3000000000000009] := by decide
theorem meets_PowerAndGateInstructions_pramp_8 : (fun (s : State) (ch : Nat) (ws : List Nat) => (s.mayDecode ch 0x31 ws = true) ∧ (((s.opened ch ws.length).ch ch).lastAct ≤ ((s.opened ch ws.length).ch ch).actTime ws)) (decAt [0x3140000000000009, 0x1F4]) 0 [0x3140000000000009, 0x1F4] := by decide
theorem meets_PowerAndGateInstructions_pulse_9 : (fun (s : State) (ch : Nat) (ws : List Nat) => (s.mayDecode ch 0x32 ws = true) ∧ (((s.opened ch ws.length).ch ch).lastAct ≤ ((s.opened ch ws.length).ch ch).actTime ws) ∧ (edgeAfter ((s.opened ch ws.length).ch ch).lastEdge (((s.opened ch ws.length).ch ch).actTime ws) 0 = true)) (decAt [0x3280000000000009, 0x6400000A0003, 0x5]) 0 [0x3280000000000009, 0x6400000A0003, 0x5] := by decide
theorem meets_PowerAndGateInstructions_env_10 : (fun (s : State) (ch : Nat) (ws : List Nat) => (s.mayDecode ch 0x33 ws = true) ∧ (((s.opened ch ws.length).ch ch).lastAct ≤ ((s.opened ch ws.length).ch ch).actTime ws)) (decAt [0x3340000000000000, 0x5000000090002]) 0 [0x3340000000000000, 0x5000000090002] := by decide
theorem meets_PowerAndGateInstructions_mpl_11 : (fun (s : State) (ch : Nat) (ws : List Nat) => (s.mayDecode ch 0x34 ws = true) ∧ (((s.opened ch ws.length).ch ch).lastAct ≤ ((s.opened ch ws.length).ch ch).actTime ws)) (decAt [0x3440000000000001, 0x5000000000000]) 0 [0x3440000000000001, 0x5000000000000] := by decide
theorem meets_PowerAndGateInstructions_lon_12 : (fun (s : State) (ch : Nat) (ws : List Nat) => (s.mayDecode ch 0x35 ws = true) ∧ (((s.opened ch ws.length).ch ch).lastAct ≤ ((s.opened ch ws.length).ch ch).actTime ws) ∧ (edgeAfter ((s.opened ch ws.length).ch ch).lastEdge (((s.opened ch ws.length).ch ch).actTime ws) (bits (wd ws 0) 0 5) = true)) (decAt [0x3500000000000503]) 0 [0x3500000000000503] := by decide
theorem meets_PowerAndGateInstructions_loff_13 : (fun (s : State) (ch : Nat) (ws : List Nat) => (s.mayDecode ch 0x36 ws = true) ∧ (((s.opened ch ws.length).ch ch).lastAct ≤ ((s.opened ch ws.length).ch ch).actTime ws) ∧ (edgeAfter ((s.opened ch ws.length).ch ch).lastEdge (((s.opened ch ws.length).ch ch).actTime ws) (bits (wd ws 0) 0 5) = true)) (decAt [0x3600000000000003]) 0 [0x3600000000000003] := by decide

theorem meets_HandAndCurdBoundaries_hand_0 : (fun (s : State) (ch : Nat) (ws : List Nat) => (s.canDecode ch 0x40 ws = true) ∧ (s.hasNext ch ws = true) ∧ (bitAt (wd ws 0) 52 = false) ∧ (bitAt (wd ws 0) 53 = false) ∧ (s.inLib ch = false) ∧ (s.partnerOk (bits (wd ws 0) 32 16) = true) ∧ (bits (wd ws 0) 32 16 ≠ s.devid) ∧ ((s.ch ch).cursor ≤ bits (wd ws 1) 0 48) ∧ (s.anchorFloor ch ≤ bits (wd ws 1) 0 48) ∧ ((s.ch ch).lastAct ≤ bits (wd ws 1) 0 48) ∧ ((s.ch ch).tokens = [])) ((((decAt [0x4080000100000000, 0x2328, 0x0]).setFld R.SEQ_GRP_CFG F.SEQ_GRP_CFG_MEMBERS 2).setFld (R.SEQ_GRP_MID 1) F.SEQ_GRP_MID_DEVID 1)) 0 [0x4080000100000000, 0x2328, 0x0] := by decide
theorem meets_HandAndCurdBoundaries_nop_1 : (fun (s : State) (ch : Nat) (d : Curd) (ds : List Curd) => (ch < s.channels) ∧ (s.decoding ch = true) ∧ ((s.ch ch).begun = false) ∧ ((s.ch ch).curds = d :: ds) ∧ ((s.ch ch).dec.loc = ⟨false, 0⟩) ∧ ((s.ch ch).handBlock = []) ∧ (1 < d.words) ∧ ((s.ch ch).cursor ≤ d.stime) ∧ ((s.ch ch).wordsAt 1 = some [0]) ∧ (s.feedSound ch 1 = true) ∧ (s.afterLastYield ch = false)) (decAt [] (fun c => { c with begun := false, feed := ⟨0, true, true, [], 0, true, 0, [], true, 0⟩ :: c.feed })) 0 ⟨0, 0, false, true, 0, 64, false, 0, none, 0⟩ [] := by decide
theorem meets_HandAndCurdBoundaries_nop_2 : (fun (s : State) (ch : Nat) (d e : Curd) (ds : List Curd) => (s.canDecode ch 0x00 [0] = true) ∧ ((s.ch ch).handBlock = []) ∧ ((s.ch ch).curds = d :: e :: ds) ∧ ((s.ch ch).dec.loc = ⟨false, d.words - 1⟩) ∧ (0 < d.words) ∧ ((s.ch ch).dec.loops = []) ∧ (d.last = false) ∧ (e.fault = none)) (decAt [] (fun c => { c with dec := { c.dec with loc := ⟨false, 7⟩ }, curds := [⟨0, 0, false, true, 0, 8, false, 0, none, 0⟩, ⟨1, 9, false, true, 1, 8, false, 0, none, 0⟩] })) 0 ⟨0, 0, false, true, 0, 8, false, 0, none, 0⟩ ⟨1, 9, false, true, 1, 8, false, 0, none, 0⟩ [] := by decide
theorem meets_HandAndCurdBoundaries_hand_3 : (fun (s : State) (ch : Nat) (ws : List Nat) => (s.mayDecode ch 0x40 ws = true) ∧ (bitAt (wd ws 0) 52 = false) ∧ ((s.opened ch ws.length).handSelf ch (handOf ws { ((s.opened ch ws.length).ch ch).dec.loc with word := ((s.opened ch ws.length).ch ch).dec.loc.word + 3 }) = false) ∧ ((s.opened ch ws.length).handAbsent (handOf ws { ((s.opened ch ws.length).ch ch).dec.loc with word := ((s.opened ch ws.length).ch ch).dec.loc.word + 3 }) = false) ∧ (((s.opened ch ws.length).ch ch).dec.loc.lib = false) ∧ (bitAt (wd ws 0) 52 = true → (handOf ws { ((s.opened ch ws.length).ch ch).dec.loc with word := ((s.opened ch ws.length).ch ch).dec.loc.word + 3 }).block.word + (handOf ws { ((s.opened ch ws.length).ch ch).dec.loc with word := ((s.opened ch ws.length).ch ch).dec.loc.word + 3 }).nlen + (handOf ws { ((s.opened ch ws.length).ch ch).dec.loc with word := ((s.opened ch ws.length).ch ch).dec.loc.word + 3 }).alen ≤ ((s.opened ch ws.length).ch ch).endOf false ∧ (handOf ws { ((s.opened ch ws.length).ch ch).dec.loc with word := ((s.opened ch ws.length).ch ch).dec.loc.word + 3 }).anchor = ((s.opened ch ws.length).ch ch).cursor) ∧ (((s.opened ch ws.length).ch ch).cursor ≤ (handOf ws { ((s.opened ch ws.length).ch ch).dec.loc with word := ((s.opened ch ws.length).ch ch).dec.loc.word + 3 }).anchor) ∧ ((s.opened ch ws.length).anchorFloor ch ≤ (handOf ws { ((s.opened ch ws.length).ch ch).dec.loc with word := ((s.opened ch ws.length).ch ch).dec.loc.word + 3 }).anchor) ∧ (((s.opened ch ws.length).ch ch).lastAct ≤ (handOf ws { ((s.opened ch ws.length).ch ch).dec.loc with word := ((s.opened ch ws.length).ch ch).dec.loc.word + 3 }).anchor) ∧ ((handOf ws { ((s.opened ch ws.length).ch ch).dec.loc with word := ((s.opened ch ws.length).ch ch).dec.loc.word + 3 }).pdev ≠ s.devid → (s.opened ch ws.length).partnerOk (handOf ws { ((s.opened ch ws.length).ch ch).dec.loc with word := ((s.opened ch ws.length).ch ch).dec.loc.word + 3 }).pdev = true) ∧ (∀ x ∈ ((s.opened ch ws.length).ch ch).tokens, tokenFor (handOf ws { ((s.opened ch ws.length).ch ch).dec.loc with word := ((s.opened ch ws.length).ch ch).dec.loc.word + 3 }) x = true → tokenFits (handOf ws { ((s.opened ch ws.length).ch ch).dec.loc with word := ((s.opened ch ws.length).ch ch).dec.loc.word + 3 }) x = true)) ((((decAt [0x4080000100000000, 0x2328, 0x0]).setFld R.SEQ_GRP_CFG F.SEQ_GRP_CFG_MEMBERS 2).setFld (R.SEQ_GRP_MID 1) F.SEQ_GRP_MID_DEVID 1)) 0 [0x4080000100000000, 0x2328, 0x0] := by decide
theorem meets_HandAndCurdBoundaries_hand_4 : (fun (s : State) (ch : Nat) (ws : List Nat) => (s.mayDecode ch 0x40 ws = true) ∧ (bitAt (wd ws 0) 52 = true) ∧ ((s.opened ch ws.length).handSelf ch (handOf ws { ((s.opened ch ws.length).ch ch).dec.loc with word := ((s.opened ch ws.length).ch ch).dec.loc.word + 3 }) = false) ∧ ((s.opened ch ws.length).handAbsent (handOf ws { ((s.opened ch ws.length).ch ch).dec.loc with word := ((s.opened ch ws.length).ch ch).dec.loc.word + 3 }) = false) ∧ (((s.opened ch ws.length).ch ch).dec.loc.lib = false) ∧ (bitAt (wd ws 0) 52 = true → (handOf ws { ((s.opened ch ws.length).ch ch).dec.loc with word := ((s.opened ch ws.length).ch ch).dec.loc.word + 3 }).block.word + (handOf ws { ((s.opened ch ws.length).ch ch).dec.loc with word := ((s.opened ch ws.length).ch ch).dec.loc.word + 3 }).nlen + (handOf ws { ((s.opened ch ws.length).ch ch).dec.loc with word := ((s.opened ch ws.length).ch ch).dec.loc.word + 3 }).alen ≤ ((s.opened ch ws.length).ch ch).endOf false ∧ (handOf ws { ((s.opened ch ws.length).ch ch).dec.loc with word := ((s.opened ch ws.length).ch ch).dec.loc.word + 3 }).anchor = ((s.opened ch ws.length).ch ch).cursor) ∧ (((s.opened ch ws.length).ch ch).cursor ≤ (handOf ws { ((s.opened ch ws.length).ch ch).dec.loc with word := ((s.opened ch ws.length).ch ch).dec.loc.word + 3 }).anchor) ∧ ((s.opened ch ws.length).anchorFloor ch ≤ (handOf ws { ((s.opened ch ws.length).ch ch).dec.loc with word := ((s.opened ch ws.length).ch ch).dec.loc.word + 3 }).anchor) ∧ (((s.opened ch ws.length).ch ch).lastAct ≤ (handOf ws { ((s.opened ch ws.length).ch ch).dec.loc with word := ((s.opened ch ws.length).ch ch).dec.loc.word + 3 }).anchor) ∧ ((handOf ws { ((s.opened ch ws.length).ch ch).dec.loc with word := ((s.opened ch ws.length).ch ch).dec.loc.word + 3 }).pdev ≠ s.devid → (s.opened ch ws.length).partnerOk (handOf ws { ((s.opened ch ws.length).ch ch).dec.loc with word := ((s.opened ch ws.length).ch ch).dec.loc.word + 3 }).pdev = true) ∧ (∀ x ∈ ((s.opened ch ws.length).ch ch).tokens, tokenFor (handOf ws { ((s.opened ch ws.length).ch ch).dec.loc with word := ((s.opened ch ws.length).ch ch).dec.loc.word + 3 }) x = true → tokenFits (handOf ws { ((s.opened ch ws.length).ch ch).dec.loc with word := ((s.opened ch ws.length).ch ch).dec.loc.word + 3 }) x = true)) ((((decAt [0x4090000100002710, 0x2328, 0x1000100000000] (fun c => { c with cursor := 9000 })).setFld R.SEQ_GRP_CFG F.SEQ_GRP_CFG_MEMBERS 2).setFld (R.SEQ_GRP_MID 1) F.SEQ_GRP_MID_DEVID 1)) 0 [0x4090000100002710, 0x2328, 0x1000100000000] := by decide

theorem meets_TimedEffectsOfTheLayer_sigEmit_0 : (fun (s : State) (ch : Nat) (tt e : Nat) (as : List Action) => (ch < s.channels) ∧ (s.acting ch = true) ∧ ((s.ch ch).acts = ⟨tt, .sig e⟩ :: as) ∧ (tt ≤ s.grp.s)) (runAt fun c => { c with acts := [⟨600, .sig 7⟩] }) 0 600 7 [] := by decide
theorem meets_TimedEffectsOfTheLayer_evtAction_1 : (fun (s : State) (ch : Nat) (tt code data : Nat) (as : List Action) => (ch < s.channels) ∧ (s.acting ch = true) ∧ ((s.ch ch).acts = ⟨tt, .evt code data⟩ :: as) ∧ (tt ≤ s.grp.s) ∧ ((s.ls ch).fenceRecs = []) ∧ ((s.ls ch).waitsBelow (s.ls ch).fence = false) ∧ (s.flag R.SEQ_EVT_CTL F.SEQ_EVT_CTL_EN = true) ∧ (s.fld R.SEQ_EVT_CTL F.SEQ_EVT_CTL_LOG2 ≤ 16) ∧ (s.dramOk s.evtAddr 64 = true) ∧ (s.evtFull = false) ∧ (s.grp.lostSince = 0)) ((dramUp (runAt fun c => { c with acts := [⟨600, .evt 7 5⟩] })).setReg R.SEQ_EVT_CTL 0x7F) 0 600 7 5 [] := by decide
theorem meets_TimedEffectsOfTheLayer_syncDeadline_2 : (fun (s : State) (ch : Nat) (w : SyncWait) (ws : List SyncWait) => (ch < s.channels) ∧ (s.acting ch = true) ∧ ((s.ch ch).syncs = w :: ws) ∧ (w.time ≤ s.grp.s) ∧ (tabGet (fun _ => false) s.grp.events w.event = true)) ((runAt fun c => { c with syncs := [⟨7, 600, 1, 0⟩] }).setEvent 7) 0 ⟨7, 600, 1, 0⟩ [] := by decide
theorem meets_TimedEffectsOfTheLayer_syncDeadline_3 : (fun (s : State) (ch : Nat) (w : SyncWait) (ws : List SyncWait) => (ch < s.channels) ∧ (s.acting ch = true) ∧ ((s.ch ch).syncs = w :: ws) ∧ (w.time ≤ s.grp.s) ∧ (tabGet (fun _ => false) s.grp.events w.event = false) ∧ (s.fld (R.SEQ_FAULT ch) F.SEQ_FAULT_CODE = 0)) (runAt fun c => { c with syncs := [⟨7, 600, 1, 0⟩] }) 0 ⟨7, 600, 1, 0⟩ [] := by decide
theorem meets_TimedEffectsOfTheLayer_faultTime_4 : (fun (s : State) (ch : Nat) (f : PendingFault) => (ch < s.channels) ∧ (s.acting ch = true) ∧ ((s.ch ch).pending = some f) ∧ (f.time ≤ s.grp.s) ∧ (s.fld (R.SEQ_FAULT ch) F.SEQ_FAULT_CODE = 0) ∧ (f.code < 256) ∧ (f.seqno < 2 ^ 32)) (runAt fun c => { c with pending := some ⟨3, 600, 1, false, 0⟩ }) 0 ⟨3, 600, 1, false, 0⟩ := by decide
theorem meets_TimedEffectsOfTheLayer_late_5 : (fun (s : State) (ch : Nat) => (ch < s.channels) ∧ (s.acting ch = true) ∧ (s.chState ch ≠ 6) ∧ ((s.ch ch).decStopped = false) ∧ ((s.ch ch).hands = []) ∧ ((s.ch ch).feed = []) ∧ ((s.ch ch).haltDecoded = false) ∧ ((s.ch ch).lastYield = none) ∧ (s.grp.run = true) ∧ ((s.ch ch).nextCursor < s.grp.s + 250) ∧ (s.fld (R.SEQ_FAULT ch) F.SEQ_FAULT_CODE = 0)) (runAt) 0 := by decide
theorem meets_TimedEffectsOfTheLayer_evaluationInstant_6 : (fun (s : State) (ch : Nat) (g : Segment) (gs : List Segment) => (ch < s.channels) ∧ (s.acting ch = true) ∧ (s.grpState = 2) ∧ (s.grp.run = true) ∧ (s.grp.s % 625 = 0) ∧ ((s.ch ch).fieldHold = none) ∧ (s.intg.hidden = []) ∧ ((s.ch ch).segs = g :: gs) ∧ (g.start ≤ s.grp.s) ∧ (s.grp.s < g.start + g.dur) ∧ (g.kind ≠ .cubic ∨ g.offField s.grp.s = false) ∧ (s.intg.forced = []) ∧ (s.unsound (fieldRanges ch (g.out s.grp.s).p) = [])) (runAt fun c => { c with segs := [⟨.dwell, 0, 1000, V3.zero, V3.zero, V3.zero, 1, V3.zero, 0⟩] }) 0 ⟨.dwell, 0, 1000, V3.zero, V3.zero, V3.zero, 1, V3.zero, 0⟩ [] := by decide
theorem meets_TimedEffectsOfTheLayer_sigEmit_7 : (fun (s : State) (ch : Nat) (tt e : Nat) (as : List Action) => (ch < s.channels) ∧ (s.acting ch = true) ∧ (dueAct (fun a => match a with | .sig _ => true | _ => false) s.grp.s (s.ch ch).acts = some (⟨tt, .sig e⟩, as))) (runAt fun c => { c with acts := [⟨600, .gsel 0 true 1⟩, ⟨600, .sig 7⟩] }) 0 600 7 [⟨600, .gsel 0 true 1⟩] := by decide
theorem meets_TimedEffectsOfTheLayer_evtAction_8 : (fun (s : State) (ch : Nat) (tt code data : Nat) (as : List Action) => (ch < s.channels) ∧ (s.acting ch = true) ∧ (dueAct (fun a => match a with | .evt _ _ => true | .fence => true | _ => false) s.grp.s (s.ch ch).acts = some (⟨tt, .evt code data⟩, as)) ∧ ((s.ls ch).waitsBelow (s.ls ch).fence = false) ∧ ((s.ls ch).fenceRecs = [])) (runAt fun c => { c with acts := [⟨600, .evt 7 5⟩] }) 0 600 7 5 [] := by decide
theorem meets_TimedEffectsOfTheLayer_evtAction_9 : (fun (s : State) (ch : Nat) (tt code data : Nat) (as : List Action) => (ch < s.channels) ∧ (s.acting ch = true) ∧ (dueAct (fun a => match a with | .evt _ _ => true | .fence => true | _ => false) s.grp.s (s.ch ch).acts = some (⟨tt, .evt code data⟩, as)) ∧ ((s.ls ch).waitsBelow (s.ls ch).fence = true ∨ (s.ls ch).fenceRecs ≠ [])) ((runAt fun c => { c with acts := [⟨600, .evt 7 5⟩] }).modLs 0 fun l => { l with fenceRecs := [⟨3, 1, 2, ⟨0, 0, 0⟩, 4⟩] }) 0 600 7 5 [] := by decide
theorem meets_TimedEffectsOfTheLayer_evtAction_10 : (fun (s : State) (ch : Nat) (tt : Nat) (as : List Action) => (ch < s.channels) ∧ (s.acting ch = true) ∧ (dueAct (fun a => match a with | .evt _ _ => true | .fence => true | _ => false) s.grp.s (s.ch ch).acts = some (⟨tt, .fence⟩, as))) (runAt fun c => { c with acts := [⟨600, .fence⟩] }) 0 600 [] := by decide
theorem meets_TimedEffectsOfTheLayer_syncDeadline_11 : (fun (s : State) (ch : Nat) (w : SyncWait) (ws : List SyncWait) => (ch < s.channels) ∧ (s.acting ch = true) ∧ ((s.ch ch).syncs = w :: ws) ∧ (w.time ≤ s.grp.s) ∧ (tabGet (fun _ => false) s.grp.events w.event = false)) (runAt fun c => { c with syncs := [⟨7, 600, 1, 0⟩] }) 0 ⟨7, 600, 1, 0⟩ [] := by decide
theorem meets_TimedEffectsOfTheLayer_faultTime_12 : (fun (s : State) (ch : Nat) (f : PendingFault) => (ch < s.channels) ∧ (s.acting ch = true) ∧ ((s.ch ch).pending = some f) ∧ (f.time ≤ s.grp.s)) (runAt fun c => { c with pending := some ⟨3, 600, 1, false, 0⟩ }) 0 ⟨3, 600, 1, false, 0⟩ := by decide
theorem meets_TimedEffectsOfTheLayer_faultTime_13 : (fun (s : State) (ch : Nat) => (ch < s.channels) ∧ (s.acting ch = true) ∧ ((s.ch ch).pending = none)) (runAt) 0 := by decide
theorem meets_TimedEffectsOfTheLayer_evaluationInstant_14 : (fun (s : State) (ch : Nat) => (ch < s.channels) ∧ (s.grpState = 2) ∧ (s.grp.run = true) ∧ (s.grp.s % 625 = 0) ∧ (s.acting ch = true) ∧ ((s.ch ch).fieldHold = none) ∧ (∀ g ∈ (((s.retire ch).jumpGate ch).ch ch).segs.head?, g.start ≤ s.grp.s ∧ g.kind = .cubic → g.offField s.grp.s = false)) (runAt fun c => { c with segs := [⟨.dwell, 0, 1000, V3.zero, V3.zero, V3.zero, 1, V3.zero, 0⟩] }) 0 := by decide
theorem meets_TimedEffectsOfTheLayer_evaluationInstant_15 : (fun (s : State) (ch : Nat) (g : Segment) (gs : List Segment) => (ch < s.channels) ∧ (s.grpState = 2) ∧ (s.grp.run = true) ∧ (s.grp.s % 625 = 0) ∧ (s.acting ch = true) ∧ ((s.ch ch).fieldHold = none) ∧ ((((s.retire ch).jumpGate ch).ch ch).segs = g :: gs) ∧ (g.start ≤ s.grp.s) ∧ (g.kind = .cubic) ∧ (g.offField s.grp.s = true)) (runAt fun c => { c with segs := [⟨.cubic, 0, 1000, ⟨2200000000, 0, 0⟩, ⟨2200000000, 0, 0⟩, V3.zero, 1, V3.zero, 0⟩] }) 0 ⟨.cubic, 0, 1000, ⟨2200000000, 0, 0⟩, ⟨2200000000, 0, 0⟩, V3.zero, 1, V3.zero, 0⟩ [] := by decide
theorem meets_TimedEffectsOfTheLayer_evaluationInstant_16 : (fun (s : State) (ch : Nat) (stop : Nat) (p : V3) => (ch < s.channels) ∧ (s.grpState = 2) ∧ (s.grp.run = true) ∧ (s.grp.s % 625 = 0) ∧ ((s.ch ch).fieldHold = some (stop, p)) ∧ (s.grp.s < stop)) (runAt fun c => { c with fieldHold := some (700, V3.zero) }) 0 700 V3.zero := by decide
theorem meets_TimedEffectsOfTheLayer_late_17 : (fun (s : State) (ch : Nat) => (ch < s.channels) ∧ (s.acting ch = true) ∧ (s.chState ch ≠ 6) ∧ ((s.ch ch).decStopped = false) ∧ ((s.ch ch).hands.any (fun h => h.fb && !h.decided) = false) ∧ ((s.ch ch).fetchFault = false) ∧ (({ s.ch ch with cursor := (s.ch ch).nextCursor } : Chan).wordsHeld = []) ∧ (s.isLate ch (some ((({ s.ch ch with cursor := (s.ch ch).nextCursor } : Chan).cursor : Int) - 250)) = true)) (runAt) 0 := by decide
theorem meets_TimedEffectsOfTheLayer_late_18 : (fun (s : State) (ch : Nat) (w0 : Nat) (ws : List Nat) => (ch < s.channels) ∧ (s.acting ch = true) ∧ (s.chState ch ≠ 6) ∧ ((s.ch ch).decStopped = false) ∧ ((s.ch ch).hands.any (fun h => h.fb && !h.decided) = false) ∧ ((s.ch ch).fetchFault = false) ∧ (({ s.ch ch with cursor := (s.ch ch).nextCursor } : Chan).wordsHeld = w0 :: ws) ∧ (s.isLate ch (({ s.ch ch with cursor := (s.ch ch).nextCursor } : Chan).deadline (w0 :: ws)) = true)) (let d := decAt [0x3000000000000009]; (runAt fun _ => d.ch 0)) 0 0x3000000000000009 [] := by decide

theorem meets_FeedOfAChannel_seqRingTail : (fun (s : State) (ch : Nat) (v : Word) => (ch < s.channels) ∧ (s.flag (R.SEQ_STAT ch) F.SEQ_STAT_OWNWAIT = false)) (State.reset) 0 3 := by decide
theorem meets_FeedOfAChannel_descriptorRead_1 : (fun (s : State) (ch : Nat) => (ch < s.channels) ∧ (s.wantsDesc ch = true) ∧ (s.flag (R.SEQ_STAT ch) F.SEQ_STAT_OWNWAIT = false) ∧ (bitAt (leAt (s.readDram (s.descAddr ch (s.fld (R.SEQ_RING_HEAD ch) F.SEQ_RING_HEAD_INDEX)) 32) 8 2) 0 = true) ∧ (s.fld (R.SEQ_RING_SIZE ch) F.SEQ_RING_SIZE_LOG2 ≤ 16)) ({ (((allUp State.reset).setReg (R.SEQ_STAT 0) 2).setReg (R.SEQ_RING_TAIL 0) 1).setReg (R.SEQ_RING_SIZE 0) 4 with dram := [(0, 9), (8, 3)] }) 0 := by decide
theorem meets_FeedOfAChannel_descriptorRead_2 : (fun (s : State) (ch : Nat) => (ch < s.channels) ∧ (s.wantsDesc ch = true) ∧ (s.flag (R.SEQ_STAT ch) F.SEQ_STAT_OWNWAIT = false) ∧ (bitAt (leAt (s.readDram (s.descAddr ch (s.fld (R.SEQ_RING_HEAD ch) F.SEQ_RING_HEAD_INDEX)) 32) 8 2) 0 = false)) ((((allUp State.reset).setReg (R.SEQ_STAT 0) 2).setReg (R.SEQ_RING_TAIL 0) 1).setReg (R.SEQ_RING_SIZE 0) 4) 0 := by decide
theorem meets_FeedOfAChannel_ownRetry : (fun (s : State) (ch : Nat) => (ch < s.channels) ∧ (s.wantsDesc ch = true) ∧ (s.flag (R.SEQ_STAT ch) F.SEQ_STAT_OWNWAIT = true) ∧ ((s.ch ch).ownReadAt + ticksU 1250 ≤ s.time.mt) ∧ (bitAt (leAt (s.readDram (s.descAddr ch (s.fld (R.SEQ_RING_HEAD ch) F.SEQ_RING_HEAD_INDEX)) 32) 8 2) 0 = true)) ({ ((((allUp State.reset).setReg (R.SEQ_STAT 0) 2).setReg (R.SEQ_RING_TAIL 0) 1).setReg (R.SEQ_RING_SIZE 0) 4).setFlag (R.SEQ_STAT 0) F.SEQ_STAT_OWNWAIT true with dram := [(0, 9), (8, 3)], time := { State.reset.time with mt := 8000000 } }) 0 := by decide
theorem meets_FeedOfAChannel_walkerFetch_4 : (fun (s : State) (ch : Nat) (d : Curd) => (ch < s.channels) ∧ (s.fetching ch = true) ∧ ((s.ch ch).feed.length < 256) ∧ ((s.ch ch).walkStopped = false) ∧ ((s.ch ch).outstanding < 64) ∧ (∀ e ∈ (s.ch ch).feed, e.asked = true ∨ e.arrived = true) ∧ ((s.ch ch).walkCurd = some d) ∧ (d.fault = none) ∧ (d.hdr = false) ∧ ((s.ch ch).feed.any (fun e => e.head && decide (e.curd = d.index)) = false)) (((allUp State.reset).setReg (R.SEQ_STAT 0) 2).modCh 0 fun c => { c with curds := [⟨0, 5, false, false, 0, 0, false, 0, none, 0⟩] }) 0 ⟨0, 5, false, false, 0, 0, false, 0, none, 0⟩ := by decide
theorem meets_FeedOfAChannel_walkerFetch_5 : (fun (s : State) (ch : Nat) (slot : Nat) (e : FeedEntry) => (ch < s.channels) ∧ (s.fetching ch = true) ∧ ((s.ch ch).outstanding < 64) ∧ ((s.ch ch).feed[slot]? = some e) ∧ ((s.ch ch).feed.findIdx (fun x => !x.asked && !x.arrived && !(s.ch ch).curds.any fun d => decide (d.index = x.curd) && d.fault.isSome) = slot)) (((allUp State.reset).setReg (R.SEQ_STAT 0) 2).modCh 0 fun c => { c with feed := [⟨6, true, false, [], 0, false, 0, [], false, 0⟩, ⟨9, false, false, [], 0, false, 1, [], false, 0⟩] }) 0 1 ⟨9, false, false, [], 0, false, 1, [], false, 0⟩ := by decide
theorem meets_FeedOfAChannel_walkerFetch_6 : (fun (s : State) (ch : Nat) (d : Curd) => (ch < s.channels) ∧ (s.fetching ch = true) ∧ ((s.ch ch).outstanding < 64) ∧ (∀ e ∈ (s.ch ch).feed, e.asked = true ∨ e.arrived = true) ∧ ((s.ch ch).walkStopped = false) ∧ ((s.ch ch).feed.length < 256) ∧ ((s.ch ch).walkCurd = some d) ∧ (d.fault = none) ∧ (d.hdr = true) ∧ (((s.ch ch).walkSettle ((s.ch ch).fork.length + 1)).walkStopped = false) ∧ (((s.ch ch).walkSettle ((s.ch ch).fork.length + 1)).walk.curd = (s.ch ch).walk.curd)) (((allUp State.reset).setReg (R.SEQ_STAT 0) 2).modCh 0 fun c => { c with curds := [⟨0, 5, false, true, 0, 9, false, 0, none, 0⟩] }) 0 ⟨0, 5, false, true, 0, 9, false, 0, none, 0⟩ := by decide
theorem meets_FeedOfAChannel_feedLineArrival_7 : (fun (s : State) (ch : Nat) (slot : Nat) (flip : List Byte) (e : FeedEntry) => (ch < s.channels) ∧ (s.fetching ch = true) ∧ ((s.ch ch).feed[slot]? = some e) ∧ ((s.ch ch).curds.any (fun d => decide (d.index = e.curd) && d.fault.isSome) = false) ∧ (e.arrived = false) ∧ (e.asked = true) ∧ (s.feedReturned ch e.line = true)) ((dramUp ((allUp State.reset).setReg (R.SEQ_STAT 0) 2)).modCh 0 fun c => { c with curds := [⟨0, 5, false, true, 0, 99, false, 0, none, 0⟩], feed := [⟨6, true, false, [], 0, false, 0, [], false, 0⟩] }) 0 0 [3] ⟨6, true, false, [], 0, false, 0, [], false, 0⟩ := by decide
theorem meets_FeedOfAChannel_feedLineArrival_8 : (fun (s : State) (ch : Nat) (slot : Nat) (flip : List Byte) (e : FeedEntry) => (ch < s.channels) ∧ (s.fetching ch = true) ∧ ((s.ch ch).feed[slot]? = some e) ∧ ((s.ch ch).curds.any (fun d => decide (d.index = e.curd) && d.fault.isSome) = false) ∧ (e.arrived = false) ∧ (e.asked = true) ∧ (s.feedReturned ch e.line = true) ∧ (s.dramOk (64 * e.line) 64 = true) ∧ (s.poisoned e.line = false) ∧ (({ e with arrived := true, words := words64 (flipBytes (s.readDram (64 * e.line) 64) flip), crc := crc32c (s.readDram (64 * e.line) 64), checked := false } : FeedEntry).sound = true) ∧ (e.head = false) ∧ (∀ d ∈ (s.ch ch).curds, d.index = e.curd → d.hdr = true → e.line ≠ d.line + 1 + (d.words - 1) / 8)) ((dramUp ((allUp State.reset).setReg (R.SEQ_STAT 0) 2)).modCh 0 fun c => { c with curds := [⟨0, 5, false, true, 0, 99, false, 0, none, 0⟩], feed := [⟨6, true, false, [], 0, false, 0, [], false, 0⟩] }) 0 0 [] ⟨6, true, false, [], 0, false, 0, [], false, 0⟩ := by decide +kernel
theorem meets_FeedOfAChannel_feedLineArrival_9 : (fun (s : State) (ch : Nat) (slot : Nat) (flip : List Byte) (e : FeedEntry) => (ch < s.channels) ∧ (s.fetching ch = true) ∧ ((s.ch ch).feed[slot]? = some e) ∧ ((s.ch ch).curds.any (fun d => decide (d.index = e.curd) && d.fault.isSome) = false) ∧ (e.arrived = false) ∧ (e.asked = true) ∧ (s.feedReturned ch e.line = true) ∧ (s.dramOk (64 * e.line) 64 = false ∨ s.poisoned e.line = true ∨ ({ e with arrived := true, words := words64 (flipBytes (s.readDram (64 * e.line) 64) flip), crc := crc32c (s.readDram (64 * e.line) 64), checked := false } : FeedEntry).sound = false) ∧ (e.refetch < 3)) ((dramUp ((allUp State.reset).setReg (R.SEQ_STAT 0) 2)).modCh 0 fun c => { c with curds := [⟨0, 5, false, true, 0, 99, false, 0, none, 0⟩], feed := [⟨6, true, false, [], 0, false, 0, [], false, 0⟩] }) 0 0 [5] ⟨6, true, false, [], 0, false, 0, [], false, 0⟩ := by decide +kernel
theorem meets_FeedOfAChannel_feedLineArrival_10 : (fun (s : State) (ch : Nat) (slot : Nat) (flip : List Byte) (e : FeedEntry) => (ch < s.channels) ∧ (s.fetching ch = true) ∧ ((s.ch ch).feed[slot]? = some e) ∧ ((s.ch ch).curds.any (fun d => decide (d.index = e.curd) && d.fault.isSome) = false) ∧ (e.arrived = true)) (((allUp State.reset).setReg (R.SEQ_STAT 0) 2).modCh 0 fun c => { c with feed := [⟨6, true, true, [7, 9], 0, true, 0, [], false, 0⟩] }) 0 0 [1] ⟨6, true, true, [7, 9], 0, true, 0, [], false, 0⟩ := by decide

theorem meets_LibraryEnablesAndRing_libraryLoad_0 : (fun (s : State) (ch : Nat) => (ch < s.channels) ∧ (s.libFree ch = true)) (State.reset) 0 := by decide
theorem meets_LibraryEnablesAndRing_libraryLoad_1 : (fun (s : State) (ch : Nat) => (ch < s.channels) ∧ (s.libFree ch = false)) (State.reset.setReg (R.SEQ_STAT 0) 4) 0 := by decide
theorem meets_LibraryEnablesAndRing_libraryLoadDone : (fun (s : State) (ch : Nat) => (ch < s.channels) ∧ (s.flag (R.SEQ_LIB_STAT ch) F.SEQ_LIB_STAT_BUSY = true)) (State.reset.setFlag (R.SEQ_LIB_STAT 0) F.SEQ_LIB_STAT_BUSY true) 0 := by decide
theorem meets_LibraryEnablesAndRing_libraryUnload : (fun (s : State) (ch : Nat) => (ch < s.channels) ∧ (s.libFree ch = true)) (State.reset) 0 := by decide
theorem meets_LibraryEnablesAndRing_channelDisable : (fun (s : State) (ch : Nat) => (ch < s.channels) ∧ (s.chState ch ≠ 0)) (runAt fun c => { c with acts := [⟨1, .fence⟩] }) 0 := by decide
theorem meets_LibraryEnablesAndRing_channelEnable : (fun (s : State) (ch : Nat) => (ch < s.channels) ∧ (s.chState ch = 0)) (State.reset) 0 := by decide
theorem meets_LibraryEnablesAndRing_seqEvtCtlWrite : (fun (s : State) (v : Word) => (s.flag R.SEQ_EVT_CTL F.SEQ_EVT_CTL_EN = false) ∧ (field F.SEQ_EVT_CTL_EN v = 1) ∧ (6 ≤ field F.SEQ_EVT_CTL_LOG2 v) ∧ (field F.SEQ_EVT_CTL_LOG2 v ≤ 16)) (State.reset) 0x7F := by decide
theorem meets_LibraryEnablesAndRing_seqEvtBaseWrite_8 : (fun (s : State) (v : Word) => (s.flag R.SEQ_EVT_CTL F.SEQ_EVT_CTL_EN = false)) (State.reset) 5 := by decide
theorem meets_LibraryEnablesAndRing_seqEvtBaseWrite_9 : (fun (s : State) (v : Word) => (s.flag R.SEQ_EVT_CTL F.SEQ_EVT_CTL_EN = true)) (State.reset.setFlag R.SEQ_EVT_CTL F.SEQ_EVT_CTL_EN true) 5 := by decide
theorem meets_LibraryEnablesAndRing_seqEvtRdWrite : (fun (s : State) (v : Word) => (s.flag R.SEQ_EVT_CTL F.SEQ_EVT_CTL_EN = true) ∧ (field F.SEQ_EVT_RD_INDEX v < s.evtSize) ∧ ((field F.SEQ_EVT_RD_INDEX v + s.evtSize - s.fld R.SEQ_EVT_RD F.SEQ_EVT_RD_INDEX) % s.evtSize ≤ s.evtFill)) ((State.reset.setReg R.SEQ_EVT_CTL 0x7F).setReg R.SEQ_EVT_WR 9) 5 := by decide

theorem meets_ServoPeriodAndAxes_servoPeriodBoundary_0 : (fun (s : State) (a : Nat) => (s.time.mt % servoU = 0) ∧ (s.up dSRV = true) ∧ (a < 3 * s.channels) ∧ (s.fld (R.SRV_AX_STAT a) F.SRV_AX_STAT_MODE = 1) ∧ ((s.ax a).blend = none) ∧ ((s.ax a).request = none) ∧ (s.srv.zeroDue = false) ∧ (s.srv.idRun = false) ∧ (s.flag R.SRV_ID_CTL F.SRV_ID_CTL_ARM = false) ∧ (s.intg.forced = []) ∧ (s.intg.planted = [])) ((((allUp State.reset).setFld (R.SRV_AX_STAT 4) F.SRV_AX_STAT_MODE 1).setReg (R.SRV_AX_ICMD 4) 5000).setReg (gainAddr 4 0 + 24) 3000) 4 := by decide
theorem meets_ServoPeriodAndAxes_srvAxModeWrite_1 : (fun (s : State) (a : Nat) (v : Word) => (a < 3 * s.channels) ∧ (s.chState (a / 3) < 2 ∨ 6 < s.chState (a / 3))) (State.reset) 4 3 := by decide
theorem meets_ServoPeriodAndAxes_srvAxModeWrite_2 : (fun (s : State) (a : Nat) (v : Word) => (a < 3 * s.channels) ∧ (2 ≤ s.chState (a / 3)) ∧ (s.chState (a / 3) ≤ 6)) (runAt) 1 3 := by decide
theorem meets_ServoPeriodAndAxes_axisArithOff : (fun (s : State) (a : Nat) => (a < 3 * s.channels) ∧ (3 ≤ (s.ax a).fails)) (State.reset.modAx 4 fun x => { x with fails := 3 }) 4 := by decide
theorem meets_ServoPeriodAndAxes_staleTrip_4 : (fun (s : State) (ch : Nat) => (ch < s.channels) ∧ (s.checked ch = true) ∧ (s.fld (R.SRV_CH_CFG ch) F.SRV_CH_CFG_STALEMAX < (s.sc ch).staleRun)) (((runAt.setFlag (R.LSR_CH_STAT 0) F.LSR_CH_STAT_RDY true).modLs 0 fun l => { l with streamGate := true, follows := true }).modSc 0 fun c => { c with staleRun := 900 }) 0 := by decide
theorem meets_ServoPeriodAndAxes_servoPeriodBoundary_5 : (fun (s : State) => (s.time.mt % servoU = 0) ∧ (s.up dSRV = true)) ((((allUp State.reset).setFld (R.SRV_AX_STAT 4) F.SRV_AX_STAT_MODE 1).setReg (R.SRV_AX_ICMD 4) 5000)) := by decide
theorem meets_ServoPeriodAndAxes_servoPeriodBoundary_6 : (fun (s : State) => (s.time.mt % servoU = 0) ∧ (s.up dSRV = false)) (State.reset) := by decide
theorem meets_ServoPeriodAndAxes_staleTrip_7 : (fun (s : State) (ch : Nat) => (ch < s.channels) ∧ (s.checked ch = true) ∧ (s.fld (R.SRV_CH_CFG ch) F.SRV_CH_CFG_STALEMAX < (s.sc ch).staleRun)) (((runAt.setFlag (R.LSR_CH_STAT 0) F.LSR_CH_STAT_RDY true).modLs 0 fun l => { l with streamGate := true, follows := true }).modSc 0 fun c => { c with staleRun := 900 }) 0 := by decide

theorem meets_ServoTablesAndIdentification_repetitiveTableWrite_0 : (fun (s : State) (addr : Nat) (v : Word) => (0x1100000 ≤ addr) ∧ (addr < 0x1400000) ∧ (addr % 4 = 0) ∧ ((addr - 0x1100000) / 0x8000 < 3 * s.channels) ∧ ((s.ax ((addr - 0x1100000) / 0x8000)).period = none) ∧ (s.splitWrite = false)) (State.reset) 0x1100010 7 := by decide
theorem meets_ServoTablesAndIdentification_repetitiveTableWrite_1 : (fun (s : State) (addr : Nat) (v : Word) (p : Period) => (0x1100000 ≤ addr) ∧ (addr < 0x1400000) ∧ (addr % 4 = 0) ∧ ((addr - 0x1100000) / 0x8000 < 3 * s.channels) ∧ ((s.ax ((addr - 0x1100000) / 0x8000)).period = some p) ∧ (p.tab = (addr - 0x1100000) % 0x8000 / 0x2000)) (State.reset.modAx 0 fun x => { x with period := some ⟨0, 9, 0⟩ }) 0x1100010 7 ⟨0, 9, 0⟩ := by decide
theorem meets_ServoTablesAndIdentification_activeGainSetWrite_2 : (fun (s : State) (addr : Nat) (v : Word) => (0x10C0000 ≤ addr) ∧ (addr < 0x1100000) ∧ (addr % 4 = 0) ∧ ((addr - 0x10C0000) / 0x800 < 3 * s.channels) ∧ (s.fld (R.SRV_AX_STAT ((addr - 0x10C0000) / 0x800)) F.SRV_AX_STAT_MODE = 0) ∧ ((s.ax ((addr - 0x10C0000) / 0x800)).blend = none) ∧ (s.splitWrite = false)) (State.reset) 0x10C0010 0xFFFFFFFF := by decide
theorem meets_ServoTablesAndIdentification_activeGainSetWrite_3 : (fun (s : State) (addr : Nat) (v : Word) => (0x10C0000 ≤ addr) ∧ (addr < 0x1100000) ∧ (addr % 4 = 0) ∧ ((addr - 0x10C0000) / 0x800 < 3 * s.channels) ∧ (s.fld (R.SRV_AX_STAT ((addr - 0x10C0000) / 0x800)) F.SRV_AX_STAT_MODE ≠ 0)) (State.reset.setFld (R.SRV_AX_STAT 0) F.SRV_AX_STAT_MODE 1) 0x10C0010 0xFFFFFFFF := by decide
theorem meets_ServoTablesAndIdentification_identificationArm_4 : (fun (s : State) (v : Word) => (field F.SRV_ID_CTL_ARM v = 1)) (State.reset) (BitVec.ofNat 32 (fieldMask F.SRV_ID_CTL_ARM)) := by decide
theorem meets_ServoTablesAndIdentification_identificationArm_5 : (fun (s : State) (v : Word) => (field F.SRV_ID_CTL_ARM v = 0)) (State.reset) 0 := by decide
theorem meets_ServoTablesAndIdentification_identificationDone : (fun (s : State) => (s.srv.idRun = true) ∧ (4096 ≤ s.srv.idCount)) ({ State.reset with srv := { State.reset.srv with idRun := true, idCount := 4096 } }) := by decide
theorem meets_ServoTablesAndIdentification_repetitiveTableWrite_8 : (fun (s : State) (addr : Nat) (v : Word) => (0x1100000 ≤ addr) ∧ (addr < 0x1400000) ∧ (addr % 4 = 0) ∧ ((addr - 0x1100000) / 0x8000 < 3 * s.channels) ∧ (((s.ax ((addr - 0x1100000) / 0x8000)).period.all fun p => decide (p.tab ≠ (addr - 0x1100000) % 0x8000 / 0x2000)) = true)) (State.reset.modAx 0 fun x => { x with period := some ⟨1, 9, 0⟩ }) 0x1100010 7 := by decide
theorem meets_ServoTablesAndIdentification_activeGainSetWrite_9 : (fun (s : State) (addr : Nat) (v : Word) => (0x10C0000 ≤ addr) ∧ (addr < 0x1100000) ∧ (addr % 4 = 0) ∧ ((addr - 0x10C0000) / 0x800 < 3 * s.channels) ∧ (s.fld (R.SRV_AX_STAT ((addr - 0x10C0000) / 0x800)) F.SRV_AX_STAT_MODE = 0) ∧ ((s.ax ((addr - 0x10C0000) / 0x800)).blend = none) ∧ (gainMask ((addr - 0x10C0000) % 0x800) ≠ 0)) (State.reset) 0x10C0010 0xFFFFFFFF := by decide

theorem meets_GateEdgesAndPowerInstants_gateEdge_0 : (fun (s : State) (ch : Nat) (tt fine win : Nat) (as : List Action) => (ch < s.channels) ∧ (s.acting ch = true) ∧ (s.chState ch = 4) ∧ ((s.ch ch).train = none) ∧ ((s.ch ch).acts = ⟨tt, .gateOn fine win⟩ :: as) ∧ (tt ≤ s.grp.s) ∧ (s.ready ch = true) ∧ (s.latched = false) ∧ ((s.ls ch).streamGate = false) ∧ ((s.ls ch).holds = [])) (((runAt fun c => { c with acts := [⟨600, .gateOn 3 9⟩] }).setFlag (R.LSR_CH_STAT 0) F.LSR_CH_STAT_RDY true).setReg R.LSR_EMS 0) 0 600 3 9 [] := by decide
theorem meets_GateEdgesAndPowerInstants_gateEdge_1 : (fun (s : State) (ch : Nat) (tt fine win : Nat) (as : List Action) => (ch < s.channels) ∧ (s.acting ch = true) ∧ (s.chState ch = 4) ∧ ((s.ch ch).train = none) ∧ ((s.ch ch).acts = ⟨tt, .gateOn fine win⟩ :: as) ∧ (tt ≤ s.grp.s) ∧ (s.ready ch = true) ∧ (s.latched = true) ∧ ((s.ls ch).streamGate = false) ∧ ((s.ls ch).holds = []) ∧ (s.fld (R.SEQ_FAULT ch) F.SEQ_FAULT_CODE = 0)) (((runAt fun c => { c with acts := [⟨600, .gateOn 3 9⟩] }).setFlag (R.LSR_CH_STAT 0) F.LSR_CH_STAT_RDY true).setFlag R.LSR_EMS F.LSR_EMS_LATCHED true) 0 600 3 9 [] := by decide
theorem meets_GateEdgesAndPowerInstants_gateEdge_2 : (fun (s : State) (ch : Nat) (tt fine : Nat) (as : List Action) => (ch < s.channels) ∧ (s.acting ch = true) ∧ (s.chState ch = 4) ∧ ((s.ch ch).train = none) ∧ ((s.ch ch).acts = ⟨tt, .gateOff fine⟩ :: as) ∧ (tt ≤ s.grp.s) ∧ ((s.ls ch).streamGate = true)) ((runAt fun c => { c with acts := [⟨600, .gateOff 3⟩] }).modLs 0 fun l => { l with streamGate := true }) 0 600 3 [] := by decide
theorem meets_GateEdgesAndPowerInstants_powerInstant_3 : (fun (s : State) (ch : Nat) (rawA rawB tt pw : Nat) => (ch < s.channels) ∧ (s.acting ch = true) ∧ (s.chState ch = 4) ∧ (s.grpState = 2) ∧ (s.grp.run = true) ∧ (s.grp.s % 125 = 0) ∧ (s.gateDomains = true) ∧ ((s.ch ch).acts = [⟨tt, .pset pw⟩]) ∧ (tt ≤ s.grp.s) ∧ (pw < 65536) ∧ ((s.ls ch).mp.mode = 0) ∧ ((s.ls ch).blend = none) ∧ ((s.ls ch).fades = []) ∧ (s.intg.forced = []) ∧ (s.intg.planted = []) ∧ (s.sfld (R.LSR_CH_ENV ch) F.LSR_CH_ENV_LO ≤ 0) ∧ (0 ≤ s.sfld (R.LSR_CH_ENV ch) F.LSR_CH_ENV_HI) ∧ (s.fld (R.LSR_CH_PLIM ch) F.LSR_CH_PLIM_PMIN ≤ s.fld (R.LSR_CH_PLIM ch) F.LSR_CH_PLIM_PMAX)) ((((allUp (runAt fun c => { c with acts := [⟨600, .pset 700⟩] })).setReg (R.LSR_CH_PLIM 0) 0x80000010).setReg 0x1820000 0x00100000).setReg 0x1820004 0x00300020) 0 5 6 600 700 := by decide
theorem meets_GateEdgesAndPowerInstants_freeCadenceSample_4 : (fun (s : State) (ch : Nat) (rawA rawB : Nat) => (ch < s.channels) ∧ (s.grp.run = false) ∧ (s.up dAFE = true) ∧ (s.intg.planted = []) ∧ (rawA < 16384) ∧ (rawB < 16384)) (allUp State.reset) 0 500 600 := by decide
theorem meets_GateEdgesAndPowerInstants_gateEdge_5 : (fun (s : State) (ch : Nat) (r : Train) => (ch < s.channels) ∧ (s.acting ch = true) ∧ ((s.ch ch).train = some r) ∧ (r.edge ≤ s.grp.s)) (runAt fun c => { c with train := some ⟨500, 100, 40, 3, 2, 9⟩ }) 0 ⟨500, 100, 40, 3, 2, 9⟩ := by decide
theorem meets_GateEdgesAndPowerInstants_gateEdge_6 : (fun (s : State) (ch : Nat) => (ch < s.channels) ∧ (s.acting ch = true) ∧ ((s.ch ch).train = none)) (runAt fun c => { c with acts := [⟨600, .pulse 9 100 40 3 7⟩] }) 0 := by decide
theorem meets_GateEdgesAndPowerInstants_powerInstant_7 : (fun (s : State) (ch : Nat) (rawA rawB : Nat) => (ch < s.channels) ∧ (s.grp.run = true) ∧ (s.grpState = 2) ∧ (s.grp.s % 125 = 0) ∧ (s.gateDomains = true) ∧ (1 < s.chState ch ∨ s.flag (R.LSR_CH_MAN ch) F.LSR_CH_MAN_EN = false) ∧ (s.intg.forced = []) ∧ (s.intg.hidden = []) ∧ ((s.powerActs ch).unsound ((s.powerActs ch).loopRanges ch) = [])) ((((allUp (runAt fun c => { c with acts := [⟨600, .pramp 700 125⟩, ⟨600, .mpl 3 2 0x6000 6000⟩] })).setReg (R.LSR_CH_PLIM 0) 0x80000010).setReg 0x1820000 0x00100000).setReg 0x1820004 0x00300020) 0 5 6 := by decide
theorem meets_GateEdgesAndPowerInstants_powerInstant_8 : (fun (s : State) (ch : Nat) (rawA rawB : Nat) => (ch < s.channels) ∧ (s.grp.run = true) ∧ (s.grpState = 2) ∧ (s.grp.s % 125 = 0) ∧ (s.gateDomains = true) ∧ (1 < s.chState ch ∨ s.flag (R.LSR_CH_MAN ch) F.LSR_CH_MAN_EN = false) ∧ (s.intg.forced = []) ∧ (s.intg.hidden = []) ∧ (s.intg.planted = [])) ((((allUp (runAt fun c => { c with acts := [⟨600, .pramp 700 125⟩, ⟨600, .mpl 3 2 0x6000 6000⟩, ⟨900, .pset 7⟩] })).setReg (R.LSR_CH_PLIM 0) 0x80000010).setReg 0x1820000 0x00100000).setReg 0x1820004 0x00300020) 0 5 6 := by decide
theorem meets_GateEdgesAndPowerInstants_freeCadenceSample_9 : (fun (s : State) (ch : Nat) (rawA rawB : Nat) => (ch < s.channels) ∧ (s.grp.run = false ∨ (s.chState ch ≤ 1 ∧ s.flag (R.LSR_CH_MAN ch) F.LSR_CH_MAN_EN = true)) ∧ (s.up dAFE = true) ∧ (s.freeSample ch = true) ∧ (s.unsound [(0x1831000 + 0x10 * ch, 8)] = [])) (allUp State.reset) 0 70000 600 := by decide

theorem meets_EmissionStopAndManualDrive_emissionStopClear_1 : (fun (s : State) => (s.pins.emstopN = true) ∧ (s.resetOn = false) ∧ (s.boot.extest = false) ∧ (s.fld R.BOOT_STAT F.BOOT_STAT_SSC ≠ 2)) ((({ State.reset with pci := { State.reset.pci with perstN := true } }).setFlag R.LSR_EMS F.LSR_EMS_LATCHED true)) := by decide
theorem meets_EmissionStopAndManualDrive_emissionStopClear_2 : (fun (s : State) (src : Source) => (src ≠ .host ∨ s.pins.emstopN = false ∨ s.resetOn = true ∨ s.boot.extest = true ∨ s.fld R.BOOT_STAT F.BOOT_STAT_SSC = 2)) (State.reset) (.core 0) := by decide
theorem meets_EmissionStopAndManualDrive_manualDriveWrite_3 : (fun (s : State) (ch : Nat) (v : Word) => (ch < s.channels) ∧ (s.chState ch ≤ 1) ∧ (s.latched = false)) (State.reset.setReg R.LSR_EMS 0) 0 0x12340003 := by decide
theorem meets_EmissionStopAndManualDrive_manualDriveWrite_4 : (fun (s : State) (ch : Nat) (v : Word) => (ch < s.channels) ∧ (1 < s.chState ch ∨ s.latched = true)) (runAt) 0 0x12340003 := by decide
theorem meets_EmissionStopAndManualDrive_lfltNQualified_5 : (fun (s : State) (ch : Nat) => (ch < s.channels) ∧ (s.laserFault ch = false) ∧ (s.inLayer ch = true) ∧ (s.fld (R.SEQ_FAULT ch) F.SEQ_FAULT_CODE = 0)) (runAt.setFlag (R.LSR_CH_STAT 0) F.LSR_CH_STAT_FLT false) 0 := by decide
theorem meets_EmissionStopAndManualDrive_lfltNQualified_6 : (fun (s : State) (ch : Nat) => (ch < s.channels) ∧ (s.laserFault ch = true)) (runAt.setFlag (R.LSR_CH_STAT 0) F.LSR_CH_STAT_FLT true) 0 := by decide
theorem meets_EmissionStopAndManualDrive_lrdyQualified_7 : (fun (s : State) (ch : Nat) => (ch < s.channels) ∧ (s.flag (R.LSR_CH_STAT ch) F.LSR_CH_STAT_RDY = false)) (State.reset.setFlag (R.LSR_CH_STAT 0) F.LSR_CH_STAT_RDY false) 0 := by decide
theorem meets_EmissionStopAndManualDrive_lrdyQualified_8 : (fun (s : State) (ch : Nat) => (ch < s.channels) ∧ (s.flag (R.LSR_CH_STAT ch) F.LSR_CH_STAT_RDY = true) ∧ (s.flag (R.LSR_CH_CFG ch) F.LSR_CH_CFG_RDYIGN = false) ∧ (s.inLayer ch = true) ∧ ((s.ls ch).streamGate = true) ∧ (s.fld (R.SEQ_FAULT ch) F.SEQ_FAULT_CODE = 0)) (((runAt.setFlag (R.LSR_CH_STAT 0) F.LSR_CH_STAT_RDY true).modLs 0 fun l => { l with streamGate := true })) 0 := by decide
theorem meets_EmissionStopAndManualDrive_manualDriveWrite_10 : (fun (s : State) (ch : Nat) (v : Word) => (ch < s.channels) ∧ (s.chState ch ≤ 1) ∧ (s.latched = false)) (State.reset.setReg R.LSR_EMS 0) 0 0x12340003 := by decide
theorem meets_EmissionStopAndManualDrive_lfltNQualified_11 : (fun (s : State) (ch : Nat) (high : Bool) => (ch < s.channels) ∧ (s.laserFault ch = high)) (State.reset.setFlag (R.LSR_CH_STAT 0) F.LSR_CH_STAT_FLT true) 0 true := by decide
theorem meets_EmissionStopAndManualDrive_lfltNQualified_12 : (fun (s : State) (ch : Nat) (high : Bool) => (ch < s.channels) ∧ (s.laserFault ch = high) ∧ (high = false) ∧ (s.inLayer ch = false)) (State.reset.setFlag (R.LSR_CH_STAT 0) F.LSR_CH_STAT_FLT false) 0 false := by decide
theorem meets_EmissionStopAndManualDrive_lrdyQualified_13 : (fun (s : State) (ch : Nat) (high : Bool) => (ch < s.channels) ∧ (s.flag (R.LSR_CH_STAT ch) F.LSR_CH_STAT_RDY = !high)) (State.reset.setFlag (R.LSR_CH_STAT 0) F.LSR_CH_STAT_RDY false) 0 true := by decide
theorem meets_EmissionStopAndManualDrive_lrdyQualified_14 : (fun (s : State) (ch : Nat) (high : Bool) => (ch < s.channels) ∧ (s.flag (R.LSR_CH_STAT ch) F.LSR_CH_STAT_RDY = true) ∧ (high = false) ∧ (s.flag (R.LSR_CH_CFG ch) F.LSR_CH_CFG_RDYIGN = false)) (runAt.setFlag (R.LSR_CH_STAT 0) F.LSR_CH_STAT_RDY true) 0 false := by decide

theorem meets_LaserWritesAndReset_lsrLogCtlWrite_0 : (fun (s : State) (ch : Nat) (v : Word) => (ch < s.channels) ∧ (s.fld (R.LSR_LOG_CTL ch) F.LSR_LOG_CTL_MODE = 0) ∧ (4 ≤ field F.LSR_LOG_CTL_LOG2 v) ∧ (field F.LSR_LOG_CTL_LOG2 v ≤ 20) ∧ (field F.LSR_LOG_CTL_PANIC v ≠ 0) ∧ (field F.LSR_LOG_CTL_MODE v = 1 ∨ field F.LSR_LOG_CTL_MODE v = 2)) (State.reset) 0 (withField F.LSR_LOG_CTL_PANIC (withField F.LSR_LOG_CTL_LOG2 (withField F.LSR_LOG_CTL_MODE 0 1) 9) 5) := by decide
theorem meets_LaserWritesAndReset_meltPoolGainSetWrite_1 : (fun (s : State) (addr : Nat) (v : Word) => (0x1800000 ≤ addr) ∧ (addr < 0x1804000) ∧ (addr % 4 = 0) ∧ (((addr - 0x1800000) / 0x200) < s.channels) ∧ (s.chState ((addr - 0x1800000) / 0x200) ≤ 1) ∧ (meltMask (addr % 0x20) ≠ 0) ∧ (s.splitWrite = false)) (State.reset) 0x1800004 0x12345678 := by decide
theorem meets_LaserWritesAndReset_meltPoolGainSetWrite_2 : (fun (s : State) (addr : Nat) (v : Word) => (0x1800000 ≤ addr) ∧ (addr < 0x1804000) ∧ (addr % 4 = 0) ∧ (((addr - 0x1800000) / 0x200) < s.channels) ∧ (1 < s.chState ((addr - 0x1800000) / 0x200))) (runAt) 0x1800004 0x12345678 := by decide
theorem meets_LaserWritesAndReset_lsrActiveSetWrite_3 : (fun (s : State) (addr n m : Nat) (v : Word) => (addr % 4 = 0) ∧ (lsrActive addr = some (n, m)) ∧ (n < s.channels) ∧ (s.chState n ≤ 1) ∧ (s.flag (R.LSR_CH_MAN n) F.LSR_CH_MAN_EN = false) ∧ (m ≠ 0) ∧ (s.splitWrite = false)) (State.reset) 0x1820004 0 0xFFFFFFFF 9 := by decide
theorem meets_LaserWritesAndReset_lsrActiveSetWrite_4 : (fun (s : State) (addr n m : Nat) (v : Word) => (addr % 4 = 0) ∧ (lsrActive addr = some (n, m)) ∧ (n < s.channels) ∧ (1 < s.chState n ∨ s.flag (R.LSR_CH_MAN n) F.LSR_CH_MAN_EN = true)) (runAt) 0x1820004 0 0xFFFFFFFF 9 := by decide
theorem meets_LaserWritesAndReset_lsrLogCtlWrite_6 : (fun (s : State) (ch : Nat) (v : Word) => (ch < s.channels) ∧ (field F.LSR_LOG_CTL_MODE v ≠ 3)) (State.reset) 0 0 := by decide
theorem meets_LaserWritesAndReset_meltPoolGainSetWrite_7 : (fun (s : State) (addr : Nat) (v : Word) => (0x1800000 ≤ addr) ∧ (addr < 0x1804000) ∧ (addr % 4 = 0) ∧ (((addr - 0x1800000) / 0x200) < s.channels) ∧ (s.chState ((addr - 0x1800000) / 0x200) ≤ 1) ∧ (meltMask (addr % 0x20) ≠ 0)) (State.reset) 0x1800004 0x12345678 := by decide
theorem meets_LaserWritesAndReset_lsrActiveSetWrite_8 : (fun (s : State) (addr n m : Nat) (v : Word) => (addr % 4 = 0) ∧ (lsrActive addr = some (n, m)) ∧ (n < s.channels) ∧ (s.chState n ≤ 1) ∧ (s.flag (R.LSR_CH_MAN n) F.LSR_CH_MAN_EN = false) ∧ (m ≠ 0)) (State.reset) 0x1820004 0 0xFFFFFFFF 9 := by decide

theorem meets_HandoffProtocol_handTokenReceived_0 : (fun (s : State) (pk : Packet) (tk : Token) (ts : List Token) => (s.xbar = tk :: ts) ∧ (tk.toCh < s.channels) ∧ (bitAt s.grp.pmask tk.toCh = true) ∧ (s.inLayer tk.toCh = true) ∧ (tk.layer = s.grp.layer) ∧ ((s.ch tk.toCh).hands = []) ∧ (s.grp.s ≤ tk.anchor) ∧ ((s.ch tk.toCh).tokens.length < 8)) ({ runAt with xbar := [⟨1, 7, 3, true, 0, 0, 5, 10, 9000, 0, 0⟩] }) (pkTo 0x11 0 []) ⟨1, 7, 3, true, 0, 0, 5, 10, 9000, 0, 0⟩ [] := by decide
theorem meets_HandoffProtocol_handTokenReceived_1 : (fun (s : State) (port : Nat) (pk : Packet) (tk : Token) => (s.consumes port pk = true) ∧ (port < 8) ∧ (pk.cls = 0x11) ∧ (s.fld (R.HOOP_PT_STAT port) F.HOOP_PT_STAT_PEER = pk.src) ∧ (tk = tokenAt pk.src pk.payload) ∧ (tk.toCh < s.channels) ∧ (bitAt s.grp.pmask tk.toCh = true) ∧ (s.inLayer tk.toCh = true) ∧ (tk.layer = s.grp.layer) ∧ ((s.ch tk.toCh).hands = []) ∧ (s.grp.s ≤ tk.anchor) ∧ ((s.ch tk.toCh).tokens.length < 8)) (portOn runAt) 0 (pkTo 0x11 0 (tokenPayload ⟨1, 7, 3, true, 0, 0, 5, 10, 9000, 0, 0⟩)) (tokenAt 7 (tokenPayload ⟨1, 7, 3, true, 0, 0, 5, 10, 9000, 0, 0⟩)) := by decide
theorem meets_HandoffProtocol_tokenExpiry : (fun (s : State) (ch : Nat) => (ch < s.channels)) (runAt fun c => { c with tokens := [⟨1, 7, 3, true, 0, 0, 5, 10, 9000, 0, 0⟩] }) 0 := by decide
theorem meets_HandoffProtocol_commit_3 : (fun (s : State) (ch : Nat) (h : Hand) => (ch < s.channels) ∧ ((s.ch ch).hands = [h]) ∧ (s.mayCommit ch h = true) ∧ (h.pdev = s.devid)) (runAt fun c => { c with hands := [{ handWit false false 0 1 9000 with token := some 9000 }] }) 0 { handWit false false 0 1 9000 with token := some 9000 } := by decide
theorem meets_HandoffProtocol_commitmentClose_4 : (fun (s : State) (ch : Nat) (h : Hand) => (ch < s.channels) ∧ (s.acting ch = true) ∧ ((s.ch ch).hands = [h]) ∧ (h.take = false) ∧ (h.committed = false) ∧ (h.outcome = .undecided) ∧ (h.anchor ≤ s.grp.s + 3750)) (runAt fun c => { c with hands := [handWit false false 0 1 4000] }) 0 (handWit false false 0 1 4000) := by decide
theorem meets_HandoffProtocol_handDecision_5 : (fun (s : State) (ch : Nat) (h : Hand) => (ch < s.channels) ∧ (s.acting ch = true) ∧ ((s.ch ch).hands = [h]) ∧ (h.decided = false) ∧ (h.fb = false) ∧ (h.anchor ≤ s.grp.s + 2500)) (runAt fun c => { c with hands := [handWit true false 0 1 3000] }) 0 (handWit true false 0 1 3000) := by decide
theorem meets_HandoffProtocol_handEnd_6 : (fun (s : State) (ch : Nat) (h : Hand) => (ch < s.channels) ∧ (s.acting ch = true) ∧ ((s.ch ch).hands = [h]) ∧ (h.decided = true) ∧ (h.anchor + h.xf ≤ s.grp.s) ∧ (h.outcome = .normal) ∧ (s.flag R.STI_CTL F.STI_CTL_HLOG = false)) ((runAt fun c => { c with hands := [{ handWit true false 0 1 600 with decided := true, outcome := .normal }] }).setReg R.STI_CTL 0) 0 { handWit true false 0 1 600 with decided := true, outcome := .normal } := by decide
theorem meets_HandoffProtocol_handRecordTimeout_7 : (fun (s : State) (ch : Nat) (h : Hand) => (ch < s.channels) ∧ ((s.ch ch).handLogs = [h]) ∧ (h.anchor + h.xf + 6250 ≤ s.grp.s) ∧ (s.flag R.SEQ_EVT_CTL F.SEQ_EVT_CTL_EN = true) ∧ (s.fld R.SEQ_EVT_CTL F.SEQ_EVT_CTL_LOG2 ≤ 16) ∧ (s.dramOk s.evtAddr 64 = true) ∧ (s.evtFull = false) ∧ (s.grp.lostSince = 0)) (((dramUp (runAt fun c => { c with handLogs := [handWit true false 0 1 600] })).setReg R.SEQ_EVT_CTL 0x7F).modGrp fun g => { g with s := 20000 }) 0 (handWit true false 0 1 600) := by decide
theorem meets_HandoffProtocol_handTokenReceived_8 : (fun (s : State) (origin : Option Nat) (pk : Packet) (tk : Token) (ts : List Token) => (origin = none) ∧ (s.xbar = tk :: ts)) ({ runAt with xbar := [⟨1, 7, 3, true, 0, 0, 5, 10, 9000, 0, 0⟩] }) none (pkTo 0x11 0 []) ⟨1, 7, 3, true, 0, 0, 5, 10, 9000, 0, 0⟩ [] := by decide
theorem meets_HandoffProtocol_handTokenReceived_9 : (fun (s : State) (origin : Option Nat) (pk : Packet) (port : Nat) => (origin = some port) ∧ (s.consumes port pk = true) ∧ (pk.cls = 0x11) ∧ (s.fld (R.HOOP_PT_STAT port) F.HOOP_PT_STAT_PEER = pk.src)) (portOn runAt) (some 0) (pkTo 0x11 0 (tokenPayload ⟨1, 7, 3, true, 0, 0, 5, 10, 9000, 0, 0⟩)) 0 := by decide
theorem meets_HandoffProtocol_commit_10 : (fun (s : State) (ch : Nat) (h : Hand) => (ch < s.channels) ∧ ((s.ch ch).hands.find? (s.mayCommit ch) = some h)) (runAt fun c => { c with hands := [{ handWit false false 0 1 9000 with token := some 9000 }] }) 0 { handWit false false 0 1 9000 with token := some 9000 } := by decide
theorem meets_HandoffProtocol_commitmentClose_11 : (fun (s : State) (ch : Nat) (h : Hand) => (ch < s.channels) ∧ (s.acting ch = true) ∧ ((s.ch ch).hands.find? (fun h => !h.take && !h.committed && decide (h.outcome = .undecided) && decide (h.anchor ≤ s.grp.s + 3750)) = some h)) (runAt fun c => { c with hands := [handWit true false 0 1 600, handWit false false 0 1 4000] }) 0 (handWit false false 0 1 4000) := by decide
theorem meets_HandoffProtocol_handDecision_12 : (fun (s : State) (ch : Nat) (h : Hand) => (ch < s.channels) ∧ (s.acting ch = true) ∧ ((s.ch ch).hands.find? (fun h => !h.decided && decide (h.anchor ≤ s.grp.s + 2500)) = some h)) (runAt fun c => { c with hands := [handWit true true 0 1 3000] }) 0 (handWit true true 0 1 3000) := by decide
theorem meets_HandoffProtocol_handEnd_13 : (fun (s : State) (ch : Nat) (h : Hand) => (ch < s.channels) ∧ (s.acting ch = true) ∧ ((s.ch ch).hands.find? (fun h => h.decided && decide (h.anchor + h.xf ≤ s.grp.s)) = some h)) ((runAt fun c => { c with hands := [handWit true false 0 1 9000, { handWit true false 0 1 600 with decided := true, outcome := .normal }] }).setFlag R.STI_CTL F.STI_CTL_HLOG true) 0 { handWit true false 0 1 600 with decided := true, outcome := .normal } := by decide
theorem meets_HandoffProtocol_handRecordTimeout_14 : (fun (s : State) (ch : Nat) (h : Hand) => (ch < s.channels) ∧ ((s.ch ch).handLogs.find? (fun h => s.pastS (h.anchor + h.xf + 6250)) = some h)) ((runAt fun c => { c with handLogs := [handWit true false 0 1 600] }).modGrp fun g => { g with s := 20000 }) 0 (handWit true false 0 1 600) := by decide

theorem meets_HoopPortsAndCredits_hoopIdWrite_0 : (fun (s : State) (v : Word) => ((List.range s.hoopLanes).any (fun p => s.flag (R.HOOP_PT_CFG p) F.HOOP_PT_CFG_EN || decide (s.fld (R.HOOP_PT_STAT p) F.HOOP_PT_STAT_STATE ≠ 0)) = false)) (State.reset) 9 := by decide
theorem meets_HoopPortsAndCredits_hoopIdWrite_1 : (fun (s : State) (v : Word) => ((List.range s.hoopLanes).any (fun p => s.flag (R.HOOP_PT_CFG p) F.HOOP_PT_CFG_EN || decide (s.fld (R.HOOP_PT_STAT p) F.HOOP_PT_STAT_STATE ≠ 0)) = true)) (portOn State.reset) 9 := by decide
theorem meets_HoopPortsAndCredits_hoopPortEnable_2 : (fun (s : State) (p : Nat) (v : Word) => (p < s.hoopLanes) ∧ (s.flag (R.HOOP_PT_CFG p) F.HOOP_PT_CFG_EN = false) ∧ (s.portOk p (v ||| 1) = true)) (State.reset) 0 1 := by decide
theorem meets_HoopPortsAndCredits_hoopPortEnable_3 : (fun (s : State) (p : Nat) (v : Word) => (p < s.hoopLanes) ∧ (s.flag (R.HOOP_PT_CFG p) F.HOOP_PT_CFG_EN = false) ∧ (s.portOk p (v ||| 1) = false)) (State.reset) 0 (withField F.HOOP_PT_CFG_WIDTH 1 3) := by decide
theorem meets_HoopPortsAndCredits_hoopPortDisable_4 : (fun (s : State) (p : Nat) (v : Word) => (p < s.hoopLanes) ∧ (s.flag (R.HOOP_PT_CFG p) F.HOOP_PT_CFG_EN = true) ∧ (s.fld (R.HOOP_PT_STAT p) F.HOOP_PT_STAT_STATE = 2)) ((portOn State.reset).setReg (R.HOOP_PT_CFG 0) 1) 0 0 := by decide
theorem meets_HoopPortsAndCredits_hoopPortTeardown_5 : (fun (s : State) (p : Nat) => (p < s.hoopLanes) ∧ (s.fld (R.HOOP_PT_STAT p) F.HOOP_PT_STAT_STATE = 3) ∧ ((s.pt p).queued = 0 ∨ (s.pt p).drainAt + ticksU 12500 ≤ s.time.mt)) (State.reset.setFld (R.HOOP_PT_STAT 0) F.HOOP_PT_STAT_STATE 3) 0 := by decide
theorem meets_HoopPortsAndCredits_packetTransmit_6 : (fun (s : State) (p : Nat) (k : Packet) (q : HoopPort) => (p < s.hoopLanes) ∧ (s.active p = true) ∧ ((s.portLanes p).any (fun l => decide (s.laneState l = 6)) = false) ∧ ((s.pt p).pick = some (k, q)) ∧ (k.cls ≠ 0x01) ∧ (k.cls ≠ 0x30 ∨ k.src ≠ s.devid)) ((portOn State.reset).modPt 0 fun q => { q with link := [pkTo 2 0 []] }) 0 (pkTo 2 0 []) HoopPort.reset := by decide
theorem meets_HoopPortsAndCredits_badPacketReceived_7 : (fun (s : State) (p : Nat) (first : Block) (rest : List Block) => (p < s.hoopLanes) ∧ (s.carries p = true) ∧ (((packetOfBlocks (first :: rest)).all fun k => !knownClass k.cls) = true)) (portOn State.reset) 0 ⟨2, 9⟩ [] := by decide
theorem meets_HoopPortsAndCredits_creditReceived : (fun (s : State) (p : Nat) (pk : Packet) => (p < s.hoopLanes) ∧ (p < 8) ∧ (pk.cls = 0x02) ∧ (s.carries p = true)) (portOn State.reset) 0 (pkTo 2 0 [3, 0, 1, 0]) := by decide
theorem meets_HoopPortsAndCredits_creditSend : (fun (s : State) (p : Nat) => (p < s.hoopLanes) ∧ (s.carries p = true) ∧ (0 < (s.pt p).owedShared + (s.pt p).owedReserved)) ((portOn State.reset).modPt 0 fun q => { q with owedShared := 3 }) 0 := by decide
theorem meets_HoopPortsAndCredits_hoopPortEnable_10 : (fun (s : State) (p : Nat) (v : Word) => (p < s.hoopLanes) ∧ (s.flag (R.HOOP_PT_CFG p) F.HOOP_PT_CFG_EN = true) ∧ (s.portOk p (v ||| 1) = true)) ((portOn State.reset).setReg (R.HOOP_PT_CFG 0) 1) 0 0x21 := by decide
theorem meets_HoopPortsAndCredits_hoopPortDisable_11 : (fun (s : State) (p : Nat) (v : Word) => (p < s.hoopLanes) ∧ (s.flag (R.HOOP_PT_CFG p) F.HOOP_PT_CFG_EN = true) ∧ (s.fld (R.HOOP_PT_STAT p) F.HOOP_PT_STAT_STATE ≠ 2)) (State.reset.setReg (R.HOOP_PT_CFG 0) 1) 0 0x20 := by decide
theorem meets_HoopPortsAndCredits_hoopPortTeardown_12 : (fun (s : State) (p : Nat) => (p < s.hoopLanes) ∧ (s.fld (R.HOOP_PT_STAT p) F.HOOP_PT_STAT_STATE = 3) ∧ ((s.pt p).queued = 0 ∨ (s.pt p).drainAt + ticksU 12500 ≤ s.time.mt)) (State.reset.setFld (R.HOOP_PT_STAT 0) F.HOOP_PT_STAT_STATE 3) 0 := by decide
theorem meets_HoopPortsAndCredits_packetTransmit_13 : (fun (s : State) (p : Nat) (k : Packet) (q : HoopPort) => (p < s.hoopLanes) ∧ (s.fld (R.HOOP_PT_STAT p) F.HOOP_PT_STAT_STATE = 2 ∨ s.fld (R.HOOP_PT_STAT p) F.HOOP_PT_STAT_STATE = 3) ∧ ((s.portLanes p).any (fun l => decide (s.laneState l = 6)) = false) ∧ ((s.pt p).pick = some (k, q))) ((portOn State.reset).modPt 0 fun q => { q with link := [pkTo 1 0 [1, 0, 3, 0]] }) 0 (pkTo 1 0 [1, 0, 3, 0]) HoopPort.reset := by decide
theorem meets_HoopPortsAndCredits_packetTransmit_14 : (fun (s : State) (p : Nat) => (p < s.hoopLanes) ∧ (s.fld (R.HOOP_PT_STAT p) F.HOOP_PT_STAT_STATE = 2 ∨ s.fld (R.HOOP_PT_STAT p) F.HOOP_PT_STAT_STATE = 3) ∧ ((s.portLanes p).any (fun l => decide (s.laneState l = 6)) = true) ∧ ((s.pt p).queued ≠ 0)) (((portOn State.reset).setFld (R.LANE_STAT 32) F.LANE_STAT_STATE 6).modPt 0 fun q => { q with lanes := 1, loc := [pkTo 0x30 0 []] }) 0 := by decide
theorem meets_HoopPortsAndCredits_badPacketReceived_15 : (fun (s : State) (p : Nat) (first : Block) (rest : List Block) => (p < s.hoopLanes) ∧ (s.carries p = true) ∧ (((packetOfBlocks (first :: rest)).all fun k => !knownClass k.cls) = true) ∧ (s.intg.hidden = [])) ((portOn State.reset).modPt 0 fun q => { q with lanes := 2 }) 0 ⟨1, 7⟩ [⟨2, 9⟩] := by decide

theorem meets_HoopEventsAndRemoteAccess_eventReceived_2 : (fun (s : State) (p : Nat) (pk : Packet) => (s.consumes p pk = true) ∧ (p < 8) ∧ (pk.cls = 0x10) ∧ (leAt pk.payload 0 2 < 0xF000)) (portOn State.reset) 0 (pkTo 0x10 0 [5, 0]) := by decide
theorem meets_HoopEventsAndRemoteAccess_remoteAccessGo_3 : (fun (s : State) (v : Word) (port : Nat) => (field F.HOOP_RRA_CMD_GO v = 1) ∧ (field F.HOOP_RRA_CMD_WRITE v = 0) ∧ (s.flag R.HOOP_RRA_CMD F.HOOP_RRA_CMD_BUSY = false) ∧ (s.route (field F.HOOP_RRA_CMD_DEVID v) = some port) ∧ (port < s.hoopLanes)) (routed State.reset) (withField F.HOOP_RRA_CMD_GO (withField F.HOOP_RRA_CMD_DEVID 0 7) 1) 0 := by decide
theorem meets_HoopEventsAndRemoteAccess_remoteAccessGo_4 : (fun (s : State) (v : Word) => (field F.HOOP_RRA_CMD_GO v = 1) ∧ (s.flag R.HOOP_RRA_CMD F.HOOP_RRA_CMD_BUSY = false) ∧ (s.route (field F.HOOP_RRA_CMD_DEVID v) = none)) (State.reset) (withField F.HOOP_RRA_CMD_GO (withField F.HOOP_RRA_CMD_DEVID 0 7) 1) := by decide
theorem meets_HoopEventsAndRemoteAccess_rrspReceived_5 : (fun (s : State) (p : Nat) (pk : Packet) (at_ : Nat) => (s.consumes p pk = true) ∧ (p < 8) ∧ (pk.cls = 0x21) ∧ (s.hoop.rra = some (pk.tag, pk.src, false, at_)) ∧ (leAt pk.payload 0 4 % 8 = 0)) ({ portOn State.reset with hoop := { State.reset.hoop with rra := some (4, 7, false, 0) } }) 0 (pkTo 0x21 4 [0, 0, 0, 0, 1, 2, 3, 4]) 0 := by decide
theorem meets_HoopEventsAndRemoteAccess_remoteAccessTimeout_6 : (fun (s : State) (tag dst at_ : Nat) (wr : Bool) => (s.hoop.rra = some (tag, dst, wr, at_)) ∧ (at_ + ticksU 125000 ≤ s.time.mt)) ({ State.reset with hoop := { State.reset.hoop with rra := some (4, 7, false, 0) }, time := { State.reset.time with mt := 8000000000 } }) 4 7 0 false := by decide
theorem meets_HoopEventsAndRemoteAccess_eventReceived_8 : (fun (s : State) (port : Nat) (pk : Packet) => (s.consumes port pk = true) ∧ (pk.cls = 0x10)) (portOn State.reset) 0 (pkTo 0x10 0 [0xA0, 0xF0]) := by decide
theorem meets_HoopEventsAndRemoteAccess_remoteAccessGo_9 : (fun (s : State) (v : Word) (port : Nat) => (field F.HOOP_RRA_CMD_GO v = 1) ∧ (s.flag R.HOOP_RRA_CMD F.HOOP_RRA_CMD_BUSY = false) ∧ (s.route (field F.HOOP_RRA_CMD_DEVID v) = some port) ∧ (port < s.hoopLanes)) (routed State.reset) (withField F.HOOP_RRA_CMD_GO (withField F.HOOP_RRA_CMD_WRITE (withField F.HOOP_RRA_CMD_DEVID 0 7) 1) 1) 0 := by decide
theorem meets_HoopEventsAndRemoteAccess_rrspReceived_10 : (fun (s : State) (port : Nat) (pk : Packet) (wr : Bool) (at_ : Nat) => (s.consumes port pk = true) ∧ (pk.cls = 0x21) ∧ (s.hoop.rra = some (pk.tag, pk.src, wr, at_))) ({ portOn State.reset with hoop := { State.reset.hoop with rra := some (4, 7, true, 0) } }) 0 (pkTo 0x21 4 [2, 0, 0, 0, 1, 2, 3, 4]) true 0 := by decide
theorem meets_HoopEventsAndRemoteAccess_remoteAccessTimeout_11 : (fun (s : State) (tag dst at_ : Nat) (wr : Bool) => (s.hoop.rra = some (tag, dst, wr, at_)) ∧ (at_ + ticksU 125000 ≤ s.time.mt)) ({ State.reset with hoop := { State.reset.hoop with rra := some (4, 7, false, 0) }, time := { State.reset.time with mt := 8000000000 } }) 4 7 0 false := by decide

theorem meets_HoopBulkData_bulkGo_0 : (fun (s : State) (c port n : Nat) => (c < 4) ∧ (s.flag (R.HOOP_BK_CTL c) F.HOOP_BK_CTL_BUSY = false) ∧ (s.fld (R.HOOP_BK_LEN c) F.HOOP_BK_LEN_LINES = n) ∧ (0 < n) ∧ (n ≤ 4) ∧ (s.dramOk ((s.reg (R.HOOP_BK_LOC c)).toNat * 64) (64 * n) = true) ∧ (s.rangePoisoned ((s.reg (R.HOOP_BK_LOC c)).toNat * 64) (64 * n) = false) ∧ (s.route (s.fld (R.HOOP_BK_LEN c) F.HOOP_BK_LEN_DEVID) = some port)) ((dramUp (routed State.reset)).setFld (R.HOOP_BK_LEN 1) F.HOOP_BK_LEN_LINES 1) 1 0 1 := by decide
theorem meets_HoopBulkData_bulkGo_1 : (fun (s : State) (c : Nat) => (c < 4) ∧ (s.flag (R.HOOP_BK_CTL c) F.HOOP_BK_CTL_BUSY = false) ∧ (s.fld (R.HOOP_BK_LEN c) F.HOOP_BK_LEN_LINES = 0)) (State.reset) 1 := by decide
theorem meets_HoopBulkData_bulkReceived_2 : (fun (s : State) (p : Nat) (pk : Packet) => (s.consumes p pk = true) ∧ (p < 8) ∧ (pk.cls = 0x30) ∧ (bitAt (leAt pk.payload 7 1) 3 = false) ∧ (bitAt (leAt pk.payload 7 1) 2 = false) ∧ (leAt pk.payload 4 3 = 0) ∧ (pk.payload.length = 72) ∧ (s.dramOk (leAt pk.payload 0 4 * 64) 64 = true) ∧ ((s.reg R.HOOP_BULK_WIN_BASE).toNat ≤ leAt pk.payload 0 4) ∧ (leAt pk.payload 0 4 + (pk.payload.length - 8) / 64 ≤ (s.reg R.HOOP_BULK_WIN_BASE).toNat + (s.reg R.HOOP_BULK_WIN_SIZE).toNat) ∧ ((s.reg R.HOOP_BULK_WIN_SIZE).toNat ≠ 0)) ((dramUp (portOn State.reset)).setReg R.HOOP_BULK_WIN_SIZE 9) 0 (pkTo 0x30 0 ([2, 0, 0, 0, 0, 0, 0, 1] ++ List.replicate 64 0xAB)) := by decide
theorem meets_HoopBulkData_bulkAckReceived_3 : (fun (s : State) (p : Nat) (pk : Packet) => (s.consumes p pk = true) ∧ (p < 8) ∧ (pk.cls = 0x30) ∧ (bitAt (leAt pk.payload 7 1) 3 = true) ∧ ((s.bk (leAt pk.payload 7 1 % 4)).active = true) ∧ (s.fld (R.HOOP_BK_LEN (leAt pk.payload 7 1 % 4)) F.HOOP_BK_LEN_DEVID = pk.src)) (((portOn State.reset).modBk 1 fun _ => ⟨true, 0⟩).setFld (R.HOOP_BK_LEN 1) F.HOOP_BK_LEN_DEVID 7) 0 (pkTo 0x30 0 [2, 0, 0, 0, 0, 0, 0, 9]) := by decide
theorem meets_HoopBulkData_bulkTimeout_4 : (fun (s : State) (c : Nat) => (c < 4) ∧ ((s.bk c).active = true) ∧ (s.bulkQueued c = false) ∧ ((s.bk c).lastAt + ticksU 1250000 ≤ s.time.mt)) ({ State.reset.modBk 1 fun _ => ⟨true, 0⟩ with time := { State.reset.time with mt := 80000000000 } }) 1 := by decide
theorem meets_HoopBulkData_bulkGo_5 : (fun (s : State) (c : Nat) => (c < 4) ∧ (s.flag (R.HOOP_BK_CTL c) F.HOOP_BK_CTL_BUSY = false) ∧ (s.fld (R.HOOP_BK_LEN c) F.HOOP_BK_LEN_LINES ≠ 0)) ((dramUp (routed State.reset)).setFld (R.HOOP_BK_LEN 1) F.HOOP_BK_LEN_LINES 9) 1 := by decide
theorem meets_HoopBulkData_bulkReceived_6 : (fun (s : State) (port : Nat) (pk : Packet) => (s.consumes port pk = true) ∧ (pk.cls = 0x30) ∧ (bitAt (leAt pk.payload 7 1) 3 = false)) ((dramUp (portOn State.reset)).setReg R.HOOP_BULK_WIN_SIZE 9) 0 (pkTo 0x30 0 ([2, 0, 0, 0, 0, 0, 0, 5] ++ List.replicate 128 0xAB)) := by decide
theorem meets_HoopBulkData_bulkAckReceived_7 : (fun (s : State) (port : Nat) (pk : Packet) => (s.consumes port pk = true) ∧ (pk.cls = 0x30) ∧ (bitAt (leAt pk.payload 7 1) 3 = true) ∧ ((s.bk (leAt pk.payload 7 1 % 4)).active = true) ∧ (s.fld (R.HOOP_BK_LEN (leAt pk.payload 7 1 % 4)) F.HOOP_BK_LEN_DEVID = pk.src)) (((portOn State.reset).modBk 1 fun _ => ⟨true, 0⟩).setFld (R.HOOP_BK_LEN 1) F.HOOP_BK_LEN_DEVID 7) 0 (pkTo 0x30 0 [2, 0, 0, 0, 0, 0, 0, 9]) := by decide
theorem meets_HoopBulkData_bulkTimeout_8 : (fun (s : State) (c : Nat) => (c < 4) ∧ ((s.bk c).active = true) ∧ (s.bulkQueued c = false) ∧ ((s.bk c).lastAt + ticksU 1250000 ≤ s.time.mt)) ({ State.reset.modBk 1 fun _ => ⟨true, 0⟩ with time := { State.reset.time with mt := 80000000000 } }) 1 := by decide

theorem meets_TimeExchangeAndHoldover_timeExchangeStart : (fun (s : State) (p xid : Nat) => (p < s.hoopLanes) ∧ (s.active p = true) ∧ (((s.pt p).lastStart.all fun x => decide (x / exchangeU < s.time.mt / exchangeU)) = true)) (portOn State.reset) 0 3 := by decide
theorem meets_TimeExchangeAndHoldover_timeRequestReceived : (fun (s : State) (p : Nat) (pk : Packet) (ago phase : Nat) => (p < s.hoopLanes) ∧ (s.active p = true) ∧ (pk.cls = 0x01) ∧ (leAt pk.payload 0 1 = 1)) (portOn State.reset) 0 (pkTo 1 0 [1, 0, 5, 0]) 0 5 := by decide
theorem meets_TimeExchangeAndHoldover_timeResponseReceived : (fun (s : State) (p : Nat) (pk : Packet) (x : Crossing) (t1 : Int) (st : Nat) => (p < s.hoopLanes) ∧ (s.active p = true) ∧ ((s.pt p).t1 = some t1) ∧ ((s.pt p).lastStart = some st) ∧ (pk.cls = 0x01) ∧ (leAt pk.payload 0 1 = 2) ∧ (leAt pk.payload 2 2 = (s.pt p).xid) ∧ (s.time.mt ≤ st + ticksU 2500) ∧ (leAt pk.payload 1 1 = 0)) ((portOn State.reset).modPt 0 fun q => { q with t1 := some 5, lastStart := some 0 }) 0 (pkTo 1 0 ([2, 0, 0, 0] ++ zeros 44)) ⟨2, 900⟩ 5 0 := by decide
theorem meets_TimeExchangeAndHoldover_timeExchangeTimeout : (fun (s : State) (p st : Nat) => (p < s.hoopLanes) ∧ (p < 8) ∧ ((s.pt p).lastStart = some st) ∧ (st + ticksU 2500 < s.time.mt)) ({ State.reset.modPt 0 fun q => { q with t1 := some 5, lastStart := some 0 } with time := { State.reset.time with mt := 80000000 } }) 0 0 := by decide
theorem meets_TimeExchangeAndHoldover_holdoverEntry_4 : (fun (s : State) (d : Nat) => (d < 2) ∧ (s.fld (R.TIM_D_CFG d) F.TIM_D_CFG_SRC = 3) ∧ (s.fld (R.TIM_D_STAT d) F.TIM_D_STAT_STATE = 1 ∨ s.fld (R.TIM_D_STAT d) F.TIM_D_STAT_STATE = 2) ∧ ((s.dm d).lastSample + nsU 3000000000 ≤ s.time.mt)) ({ (State.reset.setFld (R.TIM_D_CFG 0) F.TIM_D_CFG_SRC 3).setFld (R.TIM_D_STAT 0) F.TIM_D_STAT_STATE 2 with time := { State.reset.time with mt := 80000000000000 } }) 0 := by decide
theorem meets_TimeExchangeAndHoldover_holdoverEntry_5 : (fun (s : State) (d : Nat) => (d < 2) ∧ (s.fld (R.TIM_D_CFG d) F.TIM_D_CFG_SRC = 1) ∧ (s.fld (R.TIM_D_STAT d) F.TIM_D_STAT_STATE = 1 ∨ s.fld (R.TIM_D_STAT d) F.TIM_D_STAT_STATE = 2) ∧ ((s.dm d).lastSample + nsU 3072000 ≤ s.time.mt)) ({ (State.reset.setFld (R.TIM_D_CFG 0) F.TIM_D_CFG_SRC 1).setFld (R.TIM_D_STAT 0) F.TIM_D_STAT_STATE 2 with time := { State.reset.time with mt := 80000000000000 } }) 0 := by decide

theorem meets_DomainsCalendarAndPps_timDCfgWrite_0 : (fun (s : State) (d : Nat) (v : Word) => (d < 2) ∧ (field F.TIM_D_CFG_SRC v = 0 ∨ field F.TIM_D_CFG_SRC v = 2)) (State.reset) 0 (withField F.TIM_D_CFG_SRC 0 2) := by decide
theorem meets_DomainsCalendarAndPps_timDCfgWrite_1 : (fun (s : State) (d : Nat) (v : Word) => (d < 2) ∧ (field F.TIM_D_CFG_SRC v = 1 ∨ field F.TIM_D_CFG_SRC v = 3) ∧ (s.fld (R.TIM_D_CFG d) F.TIM_D_CFG_SRC ≠ field F.TIM_D_CFG_SRC v)) (State.reset) 0 (withField F.TIM_D_CFG_SRC 0 1) := by decide
theorem meets_DomainsCalendarAndPps_domainSwitch_3 : (fun (s : State) => (s.switchLoss = false) ∧ (s.switchRequest = true) ∧ (s.activeDom < 2)) (((State.reset.setFlag R.TIM_SEL F.TIM_SEL_PENDING true).setFld (R.TIM_D_STAT 0) F.TIM_D_STAT_STATE 2).setFld (R.TIM_D_STAT 1) F.TIM_D_STAT_STATE 2) := by decide
theorem meets_DomainsCalendarAndPps_ppsOutEdge_6 : (fun (s : State) => (s.time.ppsOut = false) ∧ (s.flag R.TIM_PPS_CFG F.TIM_PPS_CFG_OUTEN = true) ∧ (s.atSecond = true)) ({ (State.reset.setFlag R.TIM_PPS_CFG F.TIM_PPS_CFG_OUTEN true) with time := { State.reset.time with mt := 8000000000000 } }) := by decide
theorem meets_DomainsCalendarAndPps_ppsOutEdge_7 : (fun (s : State) => (s.time.ppsOut = true) ∧ (s.time.ppsFall ≤ s.time.mt)) ({ State.reset with time := { State.reset.time with ppsOut := true } }) := by decide
theorem meets_DomainsCalendarAndPps_ppsInEdge_8 : (fun (s : State) => (s.flag R.TIM_PPS_CFG F.TIM_PPS_CFG_INEN = true) ∧ (s.up dHOOP = true) ∧ (s.fld (R.TIM_D_CFG 0) F.TIM_D_CFG_SRC ≠ 3) ∧ (s.fld (R.TIM_D_CFG 1) F.TIM_D_CFG_SRC ≠ 3)) ((allUp State.reset).setFlag R.TIM_PPS_CFG F.TIM_PPS_CFG_INEN true) := by decide
theorem meets_DomainsCalendarAndPps_timDCfgWrite_9 : (fun (s : State) (d : Nat) (v : Word) => (d < 2)) (State.reset) 1 (withField F.TIM_D_CFG_SRC 0 3) := by decide
theorem meets_DomainsCalendarAndPps_domainSwitch_10 : (fun (s : State) => (s.switchLoss = true)) (((State.reset.setFlag R.TIM_SEL F.TIM_SEL_AUTO true).setFld (R.TIM_D_STAT 0) F.TIM_D_STAT_STATE 3).setFld (R.TIM_D_STAT 1) F.TIM_D_STAT_STATE 2) := by decide
theorem meets_DomainsCalendarAndPps_domainSwitch_11 : (fun (s : State) => (s.switchLoss = false) ∧ (s.switchRequest = true)) (((State.reset.setFlag R.TIM_SEL F.TIM_SEL_PENDING true).setFld (R.TIM_D_STAT 0) F.TIM_D_STAT_STATE 2).setFld (R.TIM_D_STAT 1) F.TIM_D_STAT_STATE 2) := by decide
theorem meets_DomainsCalendarAndPps_ppsInEdge_12 : (fun (s : State) => (s.flag R.TIM_PPS_CFG F.TIM_PPS_CFG_INEN = true) ∧ (s.up dHOOP = true)) ((((allUp State.reset).setFlag R.TIM_PPS_CFG F.TIM_PPS_CFG_INEN true).setFld (R.TIM_D_CFG 0) F.TIM_D_CFG_SRC 3)) := by decide

theorem meets_AxisMoves_motGo_0 : (fun (s : State) (a : Nat) (v : Word) => (a < s.axes) ∧ (field F.MOT_AX_CMD_GO v = 1) ∧ (s.axisState a = 1 ∨ s.axisState a = 2) ∧ (s.setValid a (field F.MOT_AX_CMD_PSLOT v) = true)) (axisAt 1) 0 (withField F.MOT_AX_CMD_GO 0 1) := by decide
theorem meets_AxisMoves_motGo_1 : (fun (s : State) (a : Nat) (v : Word) => (a < s.axes) ∧ (field F.MOT_AX_CMD_GO v = 1) ∧ ((s.axisState a ≠ 1 ∧ s.axisState a ≠ 2) ∨ s.setValid a (field F.MOT_AX_CMD_PSLOT v) = false)) (axisAt 0) 0 (withField F.MOT_AX_CMD_GO 0 1) := by decide
theorem meets_AxisMoves_generatorInstant_2 : (fun (s : State) (a k : Nat) (target : Int) => (a < s.axes) ∧ (s.time.mt % nsU 10000 = 0) ∧ (s.up dMOT = true) ∧ (s.grpState < 2) ∧ ((s.mo a).go = some (k, target)) ∧ (k < 4) ∧ (s.axisState a = 1) ∧ (s.setValid a k = true) ∧ (s.vel a = 0) ∧ (s.fld (R.MOT_AX_CFG a) F.MOT_AX_CFG_LASRC ≠ 1) ∧ (s.flag (R.FBK_STAT (s.axisFbk a)) F.FBK_STAT_LIMP = false) ∧ (s.flag (R.FBK_STAT (s.axisFbk a)) F.FBK_STAT_LIMN = false) ∧ (vT (s.profile a k 0) < |(target * 65536 - (s.mo a).pos)|) ∧ (s.intg.planted = [])) ((axisAt 1).modMo 0 fun m => { m with go := some (0, 500) }) 0 0 500 := by decide
theorem meets_AxisMoves_motHome_3 : (fun (s : State) (a : Nat) (v : Word) => (a < s.axes) ∧ (field F.MOT_AX_CMD_HOME v = 1) ∧ (s.axisState a = 1) ∧ (s.setValid a (s.fld (R.MOT_AX_HOME a) F.MOT_AX_HOME_HSLOT) = true) ∧ (s.flag (R.FBK_STAT (s.axisFbk a)) F.FBK_STAT_HOME = false)) (axisAt 1) 0 (withField F.MOT_AX_CMD_HOME 0 1) := by decide
theorem meets_AxisMoves_axisEnable_4 : (fun (s : State) (a : Nat) (v : Word) => (a < s.axes) ∧ (s.flag (R.MOT_AX_CFG a) F.MOT_AX_CFG_EN = false) ∧ (s.axisState a = 0)) (axisAt 0) 0 0 := by decide
theorem meets_AxisMoves_axisDisable_5 : (fun (s : State) (a : Nat) (v : Word) => (a < s.axes) ∧ (s.axisState a = 1) ∧ (s.vel a = 0)) (axisAt 1) 0 0 := by decide
theorem meets_AxisMoves_motAxPosWrite_6 : (fun (s : State) (a : Nat) (v : Word) => (a < s.axes) ∧ (s.axisState a ≤ 1)) (axisAt 1) 0 77 := by decide
theorem meets_AxisMoves_motAxPosWrite_7 : (fun (s : State) (a : Nat) (v : Word) => (a < s.axes) ∧ (1 < s.axisState a)) (axisAt 2) 0 77 := by decide
theorem meets_AxisMoves_generatorInstant_8 : (fun (s : State) => (s.time.mt % nsU 10000 = 0) ∧ (s.up dMOT = true)) ((axisAt 1).modMo 0 fun m => { m with go := some (0, 500) }) := by decide
theorem meets_AxisMoves_generatorInstant_9 : (fun (s : State) => (s.time.mt % nsU 10000 = 0) ∧ (s.up dMOT = false)) (State.reset) := by decide
theorem meets_AxisMoves_axisDisable_10 : (fun (s : State) (a : Nat) (v : Word) => (a < s.axes) ∧ (s.axisState a ≠ 0) ∧ (s.axisState a ≠ 3) ∧ (s.vel a ≠ 0) ∧ (field F.MOT_AX_CFG_IMMEDIATE v = 0)) ((axisAt 2).setVel 0 50) 0 0 := by decide
theorem meets_AxisMoves_axisDisable_11 : (fun (s : State) (a : Nat) (v : Word) => (a < s.axes) ∧ (s.axisState a ≠ 0) ∧ (field F.MOT_AX_CFG_IMMEDIATE v = 1)) ((axisAt 2).setVel 0 50) 0 (withField F.MOT_AX_CFG_IMMEDIATE 0 1) := by decide
theorem meets_AxisMoves_axisEnable_12 : (fun (s : State) (a : Nat) (v : Word) => (a < s.axes) ∧ (s.axisState a ≠ 0) ∧ (field F.MOT_AX_CFG_MODE v = s.fld (R.MOT_AX_CFG a) F.MOT_AX_CFG_MODE)) (axisAt 2) 0 0 := by decide
theorem meets_AxisMoves_motHome_13 : (fun (s : State) (a : Nat) (v : Word) => (a < s.axes) ∧ (field F.MOT_AX_CMD_HOME v = 1) ∧ (s.axisState a = 1) ∧ (s.setValid a (s.fld (R.MOT_AX_HOME a) F.MOT_AX_HOME_HSLOT) = true) ∧ (s.flag (R.FBK_STAT (s.axisFbk a)) F.FBK_STAT_HOME = true)) ((axisAt 1).setFlag (R.FBK_STAT 0) F.FBK_STAT_HOME true) 0 (withField F.MOT_AX_CMD_HOME 0 1) := by decide

theorem meets_AxisFaultsAndInputs_stall : (fun (s : State) (a : Nat) => (a < s.axes) ∧ (s.axisState a ≠ 0) ∧ (s.axisState a ≠ 5) ∧ (s.fld (R.MOT_AX_LA a) F.MOT_AX_LA_STALLN ≠ 0) ∧ (s.fld (R.MOT_AX_LA a) F.MOT_AX_LA_STALLN ≤ (s.mo a).stallRun)) (((axisAt 2).modMo 0 fun m => { m with stallRun := 200 }).setFld (R.MOT_AX_LA 0) F.MOT_AX_LA_STALLN 3) 0 := by decide
theorem meets_AxisFaultsAndInputs_bridgeFault : (fun (s : State) (a low : Nat) => (a < s.axes) ∧ (s.axisState a ≠ 0) ∧ (s.axisState a ≠ 5) ∧ (2500 ≤ low) ∧ (s.up dMOT = true)) (axisAt 2) 0 2500 := by decide
theorem meets_AxisFaultsAndInputs_overcurrent : (fun (s : State) (a : Nat) => (a < s.axes) ∧ (s.axisState a ≠ 0) ∧ (s.axisState a ≠ 5) ∧ (s.stepDir a = false) ∧ (2 ≤ (s.mo a).overA ∨ 2 ≤ (s.mo a).overB)) ((axisAt 2).modMo 0 fun m => { m with overA := 2 }) 0 := by decide
theorem meets_AxisFaultsAndInputs_sdloss : (fun (s : State) (a : Nat) (bits : List Bool) => (a < s.axes) ∧ (s.axisState a ≠ 0) ∧ (s.axisState a ≠ 5) ∧ (s.stepDir a = false) ∧ (stuckBits bits = true) ∧ (s.up dMOT = true)) (axisAt 2) 0 (List.replicate 256 false) := by decide +kernel
theorem meets_AxisFaultsAndInputs_standstill : (fun (s : State) (a : Nat) => (a < s.axes) ∧ (s.axisState a = 1) ∧ ((s.mo a).restAt + nsU (1000000 * s.fld (R.MOT_AX_CFG a) F.MOT_AX_CFG_SSDLY) ≤ s.time.mt)) ({ axisAt 1 with time := { State.reset.time with mt := 80000000000000 } }) 0 := by decide
theorem meets_AxisFaultsAndInputs_pwmPeriod : (fun (s : State) (a : Nat) (bitsA bitsB : List Bool) => (a < s.axes) ∧ (s.chopping a = true) ∧ (((s.mo a).pwmAt.all fun x => decide (x + ticksU (s.fld (R.MOT_AX_DRV a) F.MOT_AX_DRV_PWMPER) ≤ s.time.mt)) = true)) (axisAt 2) 0 [true] [] := by decide
theorem meets_AxisFaultsAndInputs_limitQualified_6 : (fun (s : State) (i : Nat) (positive level : Bool) => (i < s.axes) ∧ (s.up dMOT = true) ∧ (s.sampleDue (if positive then (s.fb i).limp else (s.fb i).limn).at_ 1250 = true) ∧ (level ≠ s.flag (R.FBK_CFG i) F.FBK_CFG_LPOL) ∧ (s.flag (R.FBK_STAT i) (if positive then F.FBK_STAT_LIMP else F.FBK_STAT_LIMN) = false) ∧ (s.fld (R.FBK_CFG i) F.FBK_CFG_DEB ≤ (if positive then (s.fb i).limp else (s.fb i).limn).run + 1)) (((axisAt 3).setFld (R.FBK_CFG 0) F.FBK_CFG_DEB 3).modFb 0 fun f => { f with limp := { f.limp with run := 2 } }) 0 true true := by decide
theorem meets_AxisFaultsAndInputs_limitQualified_7 : (fun (s : State) (i : Nat) (positive level : Bool) => (i < s.axes) ∧ (s.up dMOT = true) ∧ (s.sampleDue (if positive then (s.fb i).limp else (s.fb i).limn).at_ 1250 = true) ∧ ((level != s.flag (R.FBK_CFG i) F.FBK_CFG_LPOL) ≠ s.flag (R.FBK_STAT i) (if positive then F.FBK_STAT_LIMP else F.FBK_STAT_LIMN)) ∧ ((if positive then (s.fb i).limp else (s.fb i).limn).run + 1 < s.fld (R.FBK_CFG i) F.FBK_CFG_DEB)) ((axisAt 3).setFld (R.FBK_CFG 0) F.FBK_CFG_DEB 3) 0 false true := by decide
theorem meets_AxisFaultsAndInputs_homeEdgeQualified_8 : (fun (s : State) (i : Nat) (home limp limn : Bool) => (i < s.axes) ∧ (s.up dMOT = true) ∧ (s.sampleDue (s.fb i).home.at_ 1250 = true) ∧ (home ≠ s.flag (R.FBK_CFG i) F.FBK_CFG_HPOL) ∧ (s.flag (R.FBK_STAT i) F.FBK_STAT_HOME = false) ∧ (0 < (s.fb i).home.run) ∧ (s.fld (R.FBK_CFG i) F.FBK_CFG_DEB ≤ (s.fb i).home.run + 1)) (((axisAt 3).setFld (R.FBK_CFG 0) F.FBK_CFG_DEB 3).modFb 0 fun f => { f with home := { f.home with run := 2, count := 9, outs := [7] } }) 0 true false false := by decide
theorem meets_AxisFaultsAndInputs_homeEdgeQualified_9 : (fun (s : State) (i : Nat) (home limp limn : Bool) => (i < s.axes) ∧ (s.up dMOT = true) ∧ (s.sampleDue (s.fb i).home.at_ 1250 = true) ∧ ((home != s.flag (R.FBK_CFG i) F.FBK_CFG_HPOL) ≠ s.flag (R.FBK_STAT i) F.FBK_STAT_HOME) ∧ ((s.fb i).home.run + 1 < s.fld (R.FBK_CFG i) F.FBK_CFG_DEB)) ((axisAt 3).setFld (R.FBK_CFG 0) F.FBK_CFG_DEB 3) 0 true false false := by decide
theorem meets_AxisFaultsAndInputs_homeEdgeQualified_10 : (fun (s : State) (i : Nat) (home limp limn : Bool) => (i < s.axes) ∧ (s.up dMOT = true) ∧ (s.sampleDue (s.fb i).home.at_ 1250 = true) ∧ ((home != s.flag (R.FBK_CFG i) F.FBK_CFG_HPOL) = s.flag (R.FBK_STAT i) F.FBK_STAT_HOME) ∧ ((s.fb i).limp.run = 0) ∧ ((s.fb i).limn.run = 0)) ((axisAt 3).modFb 0 fun f => { f with home := { f.home with run := 2 } }) 0 false false false := by decide
theorem meets_AxisFaultsAndInputs_homeEdgeQualified_11 : (fun (s : State) (i : Nat) (home limp limn : Bool) => (i < s.axes)) (State.reset) 0 true true false := by decide

theorem meets_FeedbackCounting_feedbackEdge_0 : (fun (s : State) (i : Nat) (levelA levelB : Bool) => (i < s.axes) ∧ (s.sampleDue (s.fb i).abAt 5 = true) ∧ (s.flag (R.FBK_CFG i) F.FBK_CFG_EN = true) ∧ (s.up dMOT = true) ∧ (s.fld (R.FBK_CFG i) F.FBK_CFG_MODE = 1) ∧ (s.flag (R.FBK_CFG i) F.FBK_CFG_INV = false) ∧ ((s.fb i).a = false) ∧ (levelA = true) ∧ (s.fld (R.FBK_CFG i) F.FBK_CFG_FILT + 1 ≤ runAfter (s.fb i).rawA levelA (s.fb i).runA) ∧ (s.fld (R.FBK_CFG i) F.FBK_CFG_FILT + 1 ≤ runAfter (s.fb i).rawB levelB (s.fb i).runB) ∧ (s.flag (R.FBK_STAT i) F.FBK_STAT_ARMED = false)) ((allUp State.reset).setReg (R.FBK_CFG 0) (withField F.FBK_CFG_MODE (withField F.FBK_CFG_EN 0 1) 1)) 0 true false := by decide
theorem meets_FeedbackCounting_feedbackEdge_1 : (fun (s : State) (i : Nat) (levelA levelB : Bool) => (i < s.axes) ∧ (s.sampleDue (s.fb i).abAt 5 = true) ∧ (s.flag (R.FBK_CFG i) F.FBK_CFG_EN = true) ∧ (s.up dMOT = true) ∧ (s.fld (R.FBK_CFG i) F.FBK_CFG_MODE = 0) ∧ ((s.fb i).a ≠ levelA) ∧ ((s.fb i).b ≠ levelB) ∧ (s.fld (R.FBK_CFG i) F.FBK_CFG_FILT + 1 ≤ runAfter (s.fb i).rawA levelA (s.fb i).runA) ∧ (s.fld (R.FBK_CFG i) F.FBK_CFG_FILT + 1 ≤ runAfter (s.fb i).rawB levelB (s.fb i).runB)) ((allUp State.reset).setReg (R.FBK_CFG 0) (withField F.FBK_CFG_MODE (withField F.FBK_CFG_EN 0 1) 0)) 0 true true := by decide
theorem meets_FeedbackCounting_feedbackEdge_2 : (fun (s : State) (i : Nat) (levelA levelB : Bool) => (i < s.axes) ∧ (s.sampleDue (s.fb i).abAt 5 = true)) ((allUp State.reset).setReg (R.FBK_CFG 0) (withField F.FBK_CFG_MODE (withField F.FBK_CFG_EN 0 1) 2)) 0 true true := by decide
theorem meets_FeedbackCounting_indexEdge_3 : (fun (s : State) (i : Nat) (level : Bool) => (i < s.axes) ∧ (s.sampleDue (s.fb i).zAt 5 = true) ∧ (s.flag (R.FBK_CFG i) F.FBK_CFG_EN = true) ∧ (s.up dMOT = true) ∧ ((s.fb i).z ≠ level) ∧ (level ≠ s.flag (R.FBK_CFG i) F.FBK_CFG_ZPOL) ∧ (s.fld (R.FBK_CFG i) F.FBK_CFG_FILT + 1 ≤ runAfter (s.fb i).rawZ level (s.fb i).runZ) ∧ (s.fld (R.FBK_LINES i) F.FBK_LINES_LINES = 0)) ((allUp State.reset).setReg (R.FBK_CFG 0) (withField F.FBK_CFG_MODE (withField F.FBK_CFG_EN 0 1) 0)) 0 true := by decide
theorem meets_FeedbackCounting_indexEdge_4 : (fun (s : State) (i : Nat) (level : Bool) => (i < s.axes) ∧ (s.sampleDue (s.fb i).zAt 5 = true)) ((allUp State.reset).setReg (R.FBK_CFG 0) (withField F.FBK_CFG_MODE (withField F.FBK_CFG_EN 0 1) 1)) 0 true := by decide
theorem meets_FeedbackCounting_fbkCountWrite_5 : (fun (s : State) (i : Nat) (v : Word) => (i < s.axes) ∧ (s.flag (R.FBK_CFG i) F.FBK_CFG_EN = false)) (State.reset) 0 9 := by decide
theorem meets_FeedbackCounting_fbkCountWrite_6 : (fun (s : State) (i : Nat) (v : Word) => (i < s.axes) ∧ (s.flag (R.FBK_CFG i) F.FBK_CFG_EN = true)) (State.reset.setReg (R.FBK_CFG 0) (withField F.FBK_CFG_EN 0 1)) 0 9 := by decide
theorem meets_FeedbackCounting_fbkCmpposWrite_7 : (fun (s : State) (i : Nat) (v : Word) => (i < s.axes) ∧ ((s.fb i).moved = 0)) (State.reset) 0 9 := by decide
theorem meets_FeedbackCounting_feedbackInterfaceEnable_8 : (fun (s : State) (i : Nat) (v : Word) => (i < s.axes) ∧ (s.flag (R.FBK_CFG i) F.FBK_CFG_EN = false) ∧ (field F.FBK_CFG_MODE v ≠ 3) ∧ (field F.FBK_CFG_DEB v ≠ 0)) (State.reset) 0 (withField F.FBK_CFG_DEB (withField F.FBK_CFG_EN 0 1) 1) := by decide
theorem meets_FeedbackCounting_fbkCmpposWrite_9 : (fun (s : State) (i : Nat) (v : Word) => (i < s.axes) ∧ (((s.fb i).moved ≤ 0 ∨ 0 < countDiff v.toInt (s.count i)) ∧ (0 ≤ (s.fb i).moved ∨ countDiff v.toInt (s.count i) < 0))) (State.reset.modFb 0 fun f => { f with moved := 3 }) 0 9 := by decide
theorem meets_FeedbackCounting_fbkCmpposWrite_10 : (fun (s : State) (i : Nat) (v : Word) => (i < s.axes) ∧ ((0 < (s.fb i).moved ∧ countDiff v.toInt (s.count i) ≤ 0) ∨ ((s.fb i).moved < 0 ∧ 0 ≤ countDiff v.toInt (s.count i))) ∧ (s.flag (R.FBK_CMPCFG i) F.FBK_CMPCFG_FIRE_NOW = false)) (State.reset.modFb 0 fun f => { f with moved := -3 }) 0 9 := by decide
theorem meets_FeedbackCounting_feedbackInterfaceEnable_11 : (fun (s : State) (i : Nat) (v : Word) => (i < s.axes)) ((allUp State.reset).setReg (R.FBK_CFG 0) (withField F.FBK_CFG_MODE (withField F.FBK_CFG_EN 0 1) 1)) 0 0 := by decide

theorem meets_CameraFrames_cameraPortEnable_0 : (fun (s : State) (p : Nat) (v : Word) => (p < s.camPorts) ∧ (s.flag (R.CAM_PT_CFG p) F.CAM_PT_CFG_EN = false) ∧ ((s.setReg (R.CAM_PT_CFG p) ((v &&& 0x1FFFFFF) ||| 1)).camOk p = true)) ((camAt 0 []).setReg (R.CAM_PT_CFG 0) 0) 0 1 := by decide
theorem meets_CameraFrames_cameraPortEnable_1 : (fun (s : State) (p : Nat) (v : Word) => (p < s.camPorts) ∧ (s.flag (R.CAM_PT_CFG p) F.CAM_PT_CFG_EN = false) ∧ ((s.setReg (R.CAM_PT_CFG p) ((v &&& 0x1FFFFFF) ||| 1)).camOk p = false)) (State.reset.setReg (R.CAM_PT_GEOM 0) 0) 0 1 := by decide
theorem meets_CameraFrames_cameraPortDisable : (fun (s : State) (p : Nat) (v : Word) => (p < s.camPorts) ∧ (s.flag (R.CAM_PT_CFG p) F.CAM_PT_CFG_EN = true) ∧ ((s.cm p).frames = []) ∧ (v &&& 0x1FFFFFE = s.reg (R.CAM_PT_CFG p) &&& 0x1FFFFFE)) ((camAt 1 [])) 0 ((camAt 1 []).reg (R.CAM_PT_CFG 0)) := by decide
theorem meets_CameraFrames_frameStart : (fun (s : State) (p : Nat) (vs : Bool) => (p < s.camPorts) ∧ (s.vsActive p vs = true) ∧ (s.vsActive p (s.cm p).vs = false) ∧ (s.flag (R.CAM_PT_CFG p) F.CAM_PT_CFG_EN = true) ∧ (s.up dCAM = true) ∧ ((s.cm p).frames = []) ∧ ((s.cm p).sendSet = none) ∧ ((s.cm p).pendSet = none) ∧ ((s.cm p).seqs = []) ∧ ((s.fld (R.CAM_PT_RWR p) F.CAM_PT_RWR_INDEX % s.camRing p + 1) % s.camRing p ≠ s.fld (R.CAM_PT_RRD p) F.CAM_PT_RRD_INDEX % s.camRing p)) (camAt 1 []) 0 true := by decide
theorem meets_CameraFrames_cameraLine_4 : (fun (s : State) (p : Nat) (f : Frame) (edges : List CamEdge) => (p < s.camPorts) ∧ ((s.cm p).frames = [f]) ∧ (f.complete = false) ∧ (f.drop = none) ∧ ((s.cm p).discard = false) ∧ ((s.linePixels p edges).length = s.camWidth p) ∧ (f.received ≠ s.camHeight p) ∧ (s.camFill p + (s.linePixels p edges).length * s.camPixel p ≤ 262144)) (camAt 2 [camFrame 0 [] [] false]) 0 (camFrame 0 [] [] false) [⟨false, 7, false, true, false⟩, ⟨false, 3, true, true, true⟩, ⟨false, 4, true, true, true⟩, ⟨false, 7, false, true, false⟩] := by decide
theorem meets_CameraFrames_cameraLine_5 : (fun (s : State) (p : Nat) (f : Frame) (edges : List CamEdge) => (p < s.camPorts) ∧ ((s.cm p).frames = [f]) ∧ (f.complete = false) ∧ (f.drop = none) ∧ ((s.cm p).discard = false) ∧ ((s.linePixels p edges).length ≠ s.camWidth p) ∧ (f.received ≠ s.camHeight p) ∧ (s.camFill p + min (s.linePixels p edges).length (s.camWidth p) * s.camPixel p ≤ 262144)) (camAt 2 [camFrame 0 [] [] false]) 0 (camFrame 0 [] [] false) [⟨false, 3, true, true, true⟩] := by decide
theorem meets_CameraFrames_frameEndAtPort : (fun (s : State) (p : Nat) (f : Frame) (vs : Bool) => (p < s.camPorts) ∧ (s.vsActive p vs = false) ∧ (s.vsActive p (s.cm p).vs = true) ∧ ((s.cm p).frames = [f]) ∧ (f.complete = false) ∧ (f.drop = none) ∧ ((s.cm p).discard = false) ∧ (s.fld (R.CAM_PT_STAT p) F.CAM_PT_STAT_STATE = 2) ∧ (f.received = s.camHeight p)) ((camAt 2 [camFrame 1 [[3, 4]] [] false]).modCm 0 fun c => { c with vs := true }) 0 (camFrame 1 [[3, 4]] [] false) false := by decide
theorem meets_CameraFrames_pipelinePortSelect : (fun (s : State) (p : Nat) (f : Frame) => (p < s.camPorts) ∧ (s.pipe.serving = none) ∧ (s.up dCAM = true) ∧ (s.striped = false) ∧ (s.choosePort (fun q => (s.nextFrame q).isSome) = some p) ∧ (s.nextFrame p = some f)) ((camAt 2 [camFrame 1 [[3, 4]] [] false]).setFlag R.CAM_CTL F.CAM_CTL_SHARE false) 0 (camFrame 1 [[3, 4]] [] false) := by decide
theorem meets_CameraFrames_stripeEnd_8 : (fun (s : State) (p : Nat) (f : Frame) (flip : List Byte) => (p < s.camPorts) ∧ (s.pipe.serving = some p) ∧ (s.striped = false) ∧ ((s.cm p).frames = [f]) ∧ (f.drop = none) ∧ (f.vis.length < s.camHeight p) ∧ (f.lines ≠ []) ∧ (s.intg.planted = []) ∧ (s.intg.hidden = []) ∧ (flip.all (· == 0) = true)) ({ (camAt 2 [camFrame 1 [[3, 4]] [] false]).setFlag R.CAM_CTL F.CAM_CTL_SHARE false with pipe := ⟨some 0, 0, 0⟩ }) 0 (camFrame 1 [[3, 4]] [] false) [0, 0] := by decide
theorem meets_CameraFrames_stripeEnd_9 : (fun (s : State) (p : Nat) (f : Frame) (flip : List Byte) => (p < s.camPorts) ∧ (s.pipe.serving = some p) ∧ (s.striped = false) ∧ ((s.cm p).frames = [f]) ∧ (f.drop = none) ∧ (f.vis.length < s.camHeight p) ∧ (f.lines ≠ []) ∧ (s.intg.planted = []) ∧ (s.intg.hidden = []) ∧ (flip.all (· == 0) = false) ∧ (fifoSound (s.fifoBytes p f.lines).length (s.fifoBytes p f.lines) (flipBytes (s.fifoBytes p f.lines) flip) = false)) ({ (camAt 2 [camFrame 1 [[3, 4]] [] false]).setFlag R.CAM_CTL F.CAM_CTL_SHARE false with pipe := ⟨some 0, 0, 0⟩ }) 0 (camFrame 1 [[3, 4]] [] false) [1] := by decide
theorem meets_CameraFrames_stripeEnd_10 : (fun (s : State) (flip : List Byte) => (s.pipe.serving = none)) (State.reset) [1] := by decide
theorem meets_CameraFrames_pipelineFrameEnd : (fun (s : State) (p : Nat) (f : Frame) => (p < s.camPorts) ∧ (s.pipe.last = p) ∧ (s.finished p = some f) ∧ ((s.cm p).frames = [f]) ∧ (s.fld (R.CAM_PT_CFG p) F.CAM_PT_CFG_OUTEN = 0) ∧ (s.dramOk (64 * (s.fld (R.CAM_PT_RBASE p) F.CAM_PT_RBASE_LINE + f.index)) 64 = true)) (dramUp (camAt 3 [camFrame 1 [] [[3, 4]] true])) 0 (camFrame 1 [] [[3, 4]] true) := by decide

theorem meets_CameraControl_hostTrigger_0 : (fun (s : State) (p : Nat) (v : Word) => (p < s.camPorts) ∧ (field F.CAM_PT_TRIG_TRIG v = 1) ∧ ((s.cm p).trigUntil ≤ s.time.mt)) (State.reset) 0 (withField F.CAM_PT_TRIG_TRIG 0 1) := by decide
theorem meets_CameraControl_hostTrigger_1 : (fun (s : State) (p : Nat) (v : Word) => (p < s.camPorts) ∧ (field F.CAM_PT_TRIG_TRIG v = 1) ∧ (s.time.mt < (s.cm p).trigUntil)) (State.reset.modCm 0 fun c => { c with trigUntil := 1 }) 0 (withField F.CAM_PT_TRIG_TRIG 0 1) := by decide
theorem meets_CameraControl_trigPulse_2 : (fun (s : State) (ch k tt width : Nat) (as : List Action) => (ch < s.channels) ∧ (s.acting ch = true) ∧ ((s.ch ch).acts = ⟨tt, .trig width 1 k⟩ :: as) ∧ (tt ≤ s.grp.s) ∧ (s.flag (R.LGT_STB_STAT k) F.LGT_STB_STAT_READY = true) ∧ (s.up dLGT = true) ∧ (s.time.mt < (s.sb k).until_)) (((allUp (runAt fun c => { c with acts := [⟨600, .trig 9 1 1⟩] })).setFlag (R.LGT_STB_STAT 1) F.LGT_STB_STAT_READY true).modSb 1 fun b => { b with until_ := 1 }) 0 1 600 9 [] := by decide
theorem meets_CameraControl_trigPulse_3 : (fun (s : State) (ch p tt width : Nat) (as : List Action) => (ch < s.channels) ∧ (s.acting ch = true) ∧ ((s.ch ch).acts = ⟨tt, .trig width 0 p⟩ :: as) ∧ (tt ≤ s.grp.s) ∧ ((s.cm p).trigUntil ≤ s.time.mt)) (runAt fun c => { c with acts := [⟨600, .trig 9 0 1⟩] }) 0 1 600 9 [] := by decide
theorem meets_CameraControl_i2cGo_4 : (fun (s : State) (p : Nat) (v : Word) => (p < s.camPorts) ∧ (field F.CAM_PT_I2CCMD_GO v = 1) ∧ ((s.cm p).i2c = none) ∧ ((s.cm p).sendSet = none)) (State.reset) 0 (withField F.CAM_PT_I2CCMD_GO 0 1) := by decide
theorem meets_CameraControl_i2cGo_5 : (fun (s : State) (p : Nat) (v : Word) => (p < s.camPorts) ∧ (field F.CAM_PT_I2CCMD_GO v = 1) ∧ ((s.cm p).i2c ≠ none ∨ (s.cm p).sendSet ≠ none)) (State.reset.modCm 0 fun c => { c with i2c := some ⟨.host, true, 0, 1⟩ }) 0 (withField F.CAM_PT_I2CCMD_GO 0 1) := by decide
theorem meets_CameraControl_i2cDone : (fun (s : State) (p code : Nat) (data : Word) (q : I2c) => (p < s.camPorts) ∧ ((s.cm p).i2c = some q) ∧ (q.owner = .host) ∧ (q.write = false) ∧ (code = 0) ∧ ((s.cm p).sendSet = none)) (State.reset.modCm 0 fun c => { c with i2c := some ⟨.host, false, 0, 1⟩ }) 0 0 9 ⟨.host, false, 0, 1⟩ := by decide
theorem meets_CameraControl_exposureCommit : (fun (s : State) (p : Nat) (v : Word) => (p < s.camPorts) ∧ (field F.CAM_PT_EXPCMD_COMMIT v = 1) ∧ (0 < field F.CAM_PT_EXPCMD_COUNT v) ∧ (field F.CAM_PT_EXPCMD_COUNT v ≤ 16)) (State.reset) 0 (withField F.CAM_PT_EXPCMD_COUNT (withField F.CAM_PT_EXPCMD_COMMIT 0 1) 3) := by decide
theorem meets_CameraControl_cameraTableWrite_8 : (fun (s : State) (addr : Nat) (v : Word) => (0x1A00000 ≤ addr) ∧ (addr < 0x1A40000) ∧ (addr % 4 = 0) ∧ (((addr - 0x1A00000) / 0x10000) < s.camPorts) ∧ (camMask ((addr - 0x1A00000) % 0x10000) ≠ 0) ∧ (((addr - 0x1A00000) % 0x10000) < 0x6000 → s.flag (R.CAM_PT_CFG ((addr - 0x1A00000) / 0x10000)) F.CAM_PT_CFG_EN = false) ∧ ((s.cm ((addr - 0x1A00000) / 0x10000)).pendSet = none) ∧ ((s.cm ((addr - 0x1A00000) / 0x10000)).sendSet = none) ∧ (s.splitWrite = false)) (State.reset) 0x1A00000 9 := by decide
theorem meets_CameraControl_cameraTableWrite_9 : (fun (s : State) (addr : Nat) (v : Word) => (0x1A00000 ≤ addr) ∧ (addr < 0x1A40000) ∧ (addr % 4 = 0) ∧ (((addr - 0x1A00000) / 0x10000) < s.camPorts) ∧ (camMask ((addr - 0x1A00000) % 0x10000) ≠ 0) ∧ (((addr - 0x1A00000) % 0x10000) < 0x6000) ∧ (s.flag (R.CAM_PT_CFG ((addr - 0x1A00000) / 0x10000)) F.CAM_PT_CFG_EN = true)) (camAt 1 []) 0x1A00000 9 := by decide

theorem meets_SinksAndShortTest_lgtEnable : (fun (s : State) (v : Word) => (s.hasLight = true) ∧ (s.flag R.LGT_CTL F.LGT_CTL_EN = false)) (State.reset) 1 := by decide
theorem meets_SinksAndShortTest_lgtDisable : (fun (s : State) (v : Word) => (s.hasLight = true)) (State.reset) 0 := by decide
theorem meets_SinksAndShortTest_sinkWrite_2 : (fun (s : State) (v : Word) => (s.hasLight = true) ∧ (s.flag R.LGT_CTL F.LGT_CTL_EN = false)) (State.reset) 5 := by decide
theorem meets_SinksAndShortTest_sinkWrite_3 : (fun (s : State) (v : Word) => (s.hasLight = true) ∧ (s.granted 3 sinkReq < (s.setReg R.LGT_SCALE (v &&& 0x3F)).sinkDemand)) ((((State.reset.setReg R.LGT_CTL 1).setReg R.LGT_SINKEN_LO 1).setReg 0x1B00000 0xFF)) 5 := by decide
theorem meets_SinksAndShortTest_sinkWrite_4 : (fun (s : State) (addr : Nat) (v : Word) => (s.hasLight = true) ∧ (addr = R.LGT_SINKEN_LO ∨ addr = R.LGT_SINKEN_HI)) (State.reset) R.LGT_SINKEN_HI 0x12345 := by decide
theorem meets_SinksAndShortTest_sinkWrite_5 : (fun (s : State) (addr : Nat) (v : Word) => (s.hasLight = true) ∧ (0x1B00000 ≤ addr) ∧ (addr < 0x1B00030) ∧ (addr % 4 = 0)) (State.reset) 0x1B00004 7 := by decide
theorem meets_SinksAndShortTest_sinkWrite_6 : (fun (s : State) (addr : Nat) (v : Word) => (s.hasLight = true) ∧ (addr % 4 = 0) ∧ ((bankOf addr).all (fun b => s.bankFree b) = true) ∧ ((bankOf addr).isSome = true)) (State.reset) 0x1B00300 7 := by decide
theorem meets_SinksAndShortTest_sinkWrite_7 : (fun (s : State) (addr : Nat) (v : Word) => (s.hasLight = true) ∧ (addr % 4 = 0) ∧ ((bankOf addr).any (fun b => !s.bankFree b) = true)) (State.reset) 0x1B00100 7 := by decide
theorem meets_SinksAndShortTest_shortTestDone_8 : (fun (s : State) => (s.lgt.test ≠ 0)) ({ State.reset with lgt := { Light.reset with test := 1 } }) := by decide
theorem meets_SinksAndShortTest_shortTestDone_9 : (fun (s : State) (shorted : List Nat) => (s.lgt.test ≠ 0)) (({ State.reset with lgt := { Light.reset with test := 1 } }).setReg R.LGT_SINKEN_LO 0xFF) [3, 9] := by decide
theorem meets_SinksAndShortTest_shortTestDone_10 : (fun (s : State) (k : Nat) => (s.lgt.test ≠ 0) ∧ (k < 32) ∧ (bitAt s.sinkEn k = true) ∧ (bitAt s.sinkEn (k + 1) = true)) (({ State.reset with lgt := { Light.reset with test := 1 } }).setReg R.LGT_SINKEN_LO 0xFF) 3 := by decide
theorem meets_SinksAndShortTest_lgtTestRun : (fun (s : State) => (s.hasLight = true) ∧ (s.lgt.test = 0)) (State.reset) := by decide
theorem meets_SinksAndShortTest_shortClear_12 : (fun (s : State) (v : Word) => (s.hasLight = true)) (State.reset) 3 := by decide
theorem meets_SinksAndShortTest_shortClear_13 : (fun (s : State) (v : Word) => (s.hasLight = true)) (State.reset) 3 := by decide
theorem meets_SinksAndShortTest_shortClear_14 : (fun (s : State) (high : Bool) (v : Word) => (s.hasLight = true)) (State.reset) true 5 := by decide

theorem meets_MatrixAndStrobes_matrixLine_0 : (fun (s : State) (shorted : List Nat) => (s.matrixOn = true) ∧ (s.lgt.lineEnd ≤ s.time.mt) ∧ (s.flag R.LGT_CTL F.LGT_CTL_SYNC = false) ∧ (s.flag R.LGT_MTX_CTL F.LGT_MTX_CTL_PENDING = false) ∧ (s.lgt.endEarly = false)) ((((allUp State.reset).setFlag R.LGT_CTL F.LGT_CTL_EN true).setFlag R.LGT_CTL F.LGT_CTL_MATRIX true)) [1] := by decide
theorem meets_MatrixAndStrobes_matrixLine_1 : (fun (s : State) (shorted : List Nat) => (s.matrixOn = true) ∧ (s.lgt.lineEnd ≤ s.time.mt) ∧ (s.flag R.LGT_CTL F.LGT_CTL_SYNC = true) ∧ (s.lgt.frame = true) ∧ (s.lgt.endEarly = false)) (({ (((allUp State.reset).setFlag R.LGT_CTL F.LGT_CTL_EN true).setFlag R.LGT_CTL F.LGT_CTL_MATRIX true) with lgt := { Light.reset with frame := true } }).setFlag R.LGT_CTL F.LGT_CTL_SYNC true) [1] := by decide
theorem meets_MatrixAndStrobes_lsyncFrameStart_2 : (fun (s : State) (t0 : Nat) => (s.lgt.startAt = some t0) ∧ (t0 ≤ s.time.mt) ∧ (s.matrixOn = true) ∧ (s.flag R.LGT_CTL F.LGT_CTL_SYNC = true) ∧ (s.flag R.LGT_MTX_CTL F.LGT_MTX_CTL_PENDING = true) ∧ (s.swapGranted = true)) ((({ (((allUp State.reset).setFlag R.LGT_CTL F.LGT_CTL_EN true).setFlag R.LGT_CTL F.LGT_CTL_MATRIX true) with lgt := { Light.reset with startAt := some 0 } }).setFlag R.LGT_CTL F.LGT_CTL_SYNC true).setFlag R.LGT_MTX_CTL F.LGT_MTX_CTL_PENDING true) 0 := by decide
theorem meets_MatrixAndStrobes_swap : (fun (s : State) => (s.hasLight = true)) (State.reset) := by decide
theorem meets_MatrixAndStrobes_lsyncEdge_4 : (fun (s : State) => ((!s.pins.lsync) ≠ s.flag R.LGT_CTL F.LGT_CTL_SYNCPOL) ∧ (s.matrixOn = true) ∧ (s.flag R.LGT_CTL F.LGT_CTL_SYNC = true)) ((((allUp State.reset).setFlag R.LGT_CTL F.LGT_CTL_EN true).setFlag R.LGT_CTL F.LGT_CTL_MATRIX true).setFlag R.LGT_CTL F.LGT_CTL_SYNC true) := by decide
theorem meets_MatrixAndStrobes_lsyncEdge_5 : (fun (s : State) => ((!s.pins.lsync) = s.flag R.LGT_CTL F.LGT_CTL_SYNCPOL)) (State.reset.setFlag R.LGT_CTL F.LGT_CTL_SYNCPOL true) := by decide
theorem meets_MatrixAndStrobes_lsyncFrameStart_6 : (fun (s : State) (t0 : Nat) => (s.lgt.startAt = some t0) ∧ (t0 ≤ s.time.mt) ∧ (s.matrixOn = true) ∧ (s.flag R.LGT_CTL F.LGT_CTL_SYNC = true) ∧ (s.flag R.LGT_MTX_CTL F.LGT_MTX_CTL_PENDING = false)) (({ (((allUp State.reset).setFlag R.LGT_CTL F.LGT_CTL_EN true).setFlag R.LGT_CTL F.LGT_CTL_MATRIX true) with lgt := { Light.reset with startAt := some 0 } }).setFlag R.LGT_CTL F.LGT_CTL_SYNC true) 0 := by decide
theorem meets_MatrixAndStrobes_strobeEnable : (fun (s : State) (k : Nat) (v : Word) => (k < 4) ∧ (s.hasLight = true) ∧ (s.flag (R.LGT_STB_CFG k) F.LGT_STB_CFG_EN = false) ∧ (field F.LGT_STB_CFG_EN v = 1) ∧ (field F.LGT_STB_CFG_ISET v = 0) ∧ (s.waits 3 (strobeReq k) = false)) (State.reset) 1 (withField F.LGT_STB_CFG_EN 0 1) := by decide
theorem meets_MatrixAndStrobes_strobePulse_8 : (fun (s : State) (k : Nat) (v : Word) => (k < 4) ∧ (s.hasLight = true) ∧ (field F.LGT_STB_CMD_PULSE v = 1) ∧ (s.flag (R.LGT_STB_STAT k) F.LGT_STB_STAT_READY = true) ∧ (s.up dLGT = true) ∧ ((s.sb k).until_ ≤ s.time.mt)) ((allUp State.reset).setFlag (R.LGT_STB_STAT 1) F.LGT_STB_STAT_READY true) 1 (withField F.LGT_STB_CMD_PULSE 0 1) := by decide
theorem meets_MatrixAndStrobes_strobePulse_9 : (fun (s : State) (k : Nat) (v : Word) => (k < 4) ∧ (s.hasLight = true) ∧ (field F.LGT_STB_CMD_PULSE v = 1) ∧ (s.flag (R.LGT_STB_STAT k) F.LGT_STB_STAT_READY = true) ∧ (s.up dLGT = true) ∧ (s.time.mt < (s.sb k).until_)) (((allUp State.reset).setFlag (R.LGT_STB_STAT 1) F.LGT_STB_STAT_READY true).modSb 1 fun _ => ⟨90000000000, 0, true, false, 0⟩) 1 (withField F.LGT_STB_CMD_PULSE 0 1) := by decide
theorem meets_MatrixAndStrobes_strobePulse_10 : (fun (s : State) (k : Nat) (v : Word) => (k < 4) ∧ (s.hasLight = true) ∧ (field F.LGT_STB_CMD_PULSE v = 1) ∧ (s.flag (R.LGT_STB_STAT k) F.LGT_STB_STAT_READY = false)) (State.reset) 1 (withField F.LGT_STB_CMD_PULSE 0 1) := by decide
theorem meets_MatrixAndStrobes_strobeCut : (fun (s : State) (k : Nat) => (k < 4) ∧ (s.hasLight = true) ∧ (s.strobeOn k = true) ∧ ((s.sb k).since + ticksU (1250 * s.fld (R.LGT_STB_CFG k) F.LGT_STB_CFG_MAXON) ≤ s.time.mt)) ({ State.reset.modSb 1 fun _ => ⟨90000000000, 0, true, false, 0⟩ with time := { State.reset.time with mt := 80000000000 } }) 1 := by decide
theorem meets_MatrixAndStrobes_strobeOvercurrent_12 : (fun (s : State) (k v : Nat) => (k < 4) ∧ (s.hasLight = true) ∧ (s.flag (R.LGT_STB_CFG k) F.LGT_STB_CFG_EN = true) ∧ (s.shuntLevel k 150 < v)) (State.reset.setFlag (R.LGT_STB_CFG 1) F.LGT_STB_CFG_EN true) 1 9 := by decide
theorem meets_MatrixAndStrobes_strobeOvercurrent_13 : (fun (s : State) (k v : Nat) => (k < 4) ∧ (s.hasLight = true) ∧ (v ≤ s.shuntLevel k 150)) (State.reset) 1 0 := by decide
theorem meets_MatrixAndStrobes_strobeNorise_14 : (fun (s : State) (k v : Nat) => (k < 4) ∧ (s.hasLight = true) ∧ (v < s.shuntLevel k 50) ∧ ((s.sb k).judged = false) ∧ (s.flag (R.LGT_STB_CFG k) F.LGT_STB_CFG_EN = true) ∧ (s.strobeOn k = true) ∧ ((s.sb k).since + ticksU 2500 ≤ s.time.mt)) ({ (State.reset.modSb 1 fun _ => ⟨90000000000, 0, true, false, 0⟩).setReg (R.LGT_STB_CFG 1) 0x00FFFFFF with time := { State.reset.time with mt := 80000000 } }) 1 0 := by decide
theorem meets_MatrixAndStrobes_strobeNorise_15 : (fun (s : State) (k v : Nat) => (k < 4) ∧ (s.hasLight = true) ∧ (s.shuntLevel k 50 ≤ v) ∧ ((s.sb k).judged = false) ∧ (s.strobeOn k = true) ∧ ((s.sb k).since + ticksU 2500 ≤ s.time.mt)) ({ (State.reset.modSb 1 fun _ => ⟨90000000000, 0, true, false, 0⟩) with time := { State.reset.time with mt := 80000000 } }) 1 7 := by decide
theorem meets_MatrixAndStrobes_stbIsnCrossing_16 : (fun (s : State) (k v : Nat) => (k < 4) ∧ (s.hasLight = true) ∧ (s.strobeOn k = true) ∧ (v < s.shuntLevel k (100 - s.hysteresis k))) ((State.reset.modSb 1 fun _ => ⟨90000000000, 0, true, false, 0⟩).setReg (R.LGT_STB_CFG 1) 0x00FFFFFF) 1 0 := by decide
theorem meets_MatrixAndStrobes_stbIsnCrossing_17 : (fun (s : State) (k v : Nat) => (k < 4) ∧ (s.hasLight = true) ∧ (s.strobeOn k = true) ∧ (s.shuntLevel k (100 + s.hysteresis k) < v) ∧ (s.shuntLevel k (100 - s.hysteresis k) ≤ v)) (State.reset.modSb 1 fun _ => ⟨90000000000, 0, true, false, 0⟩) 1 1 := by decide
theorem meets_MatrixAndStrobes_stbIsnCrossing_18 : (fun (s : State) (k v : Nat) => (k < 4) ∧ (s.hasLight = true) ∧ (s.shuntLevel k (100 - s.hysteresis k) ≤ v) ∧ (v ≤ s.shuntLevel k (100 + s.hysteresis k))) (State.reset) 1 0 := by decide

theorem meets_LaneBringUp_headLaneEnable : (fun (s : State) (n : Nat) (v : Word) => (n < s.channels) ∧ (s.up dHEAD = true) ∧ (s.laneState n = 0)) (allUp State.reset) 3 2 := by decide
theorem meets_LaneBringUp_headLaneDisable_1 : (fun (s : State) (n : Nat) (v : Word) => (n < s.channels) ∧ (s.chState n ≤ 1) ∧ (s.laneState n ≠ 8)) (laneAt 3 5) 3 2 := by decide
theorem meets_LaneBringUp_headLaneDisable_2 : (fun (s : State) (n : Nat) (v : Word) => (n < s.channels) ∧ (2 ≤ s.chState n) ∧ (s.chState n ≤ 7) ∧ (s.flag (R.HL_CH_CFG n) F.HL_CH_CFG_EN = true)) (((laneAt 3 5).setFlag (R.HL_CH_CFG 3) F.HL_CH_CFG_EN true).setFld (R.SEQ_STAT 3) F.SEQ_STAT_STATE 4) 3 2 := by decide
theorem meets_LaneBringUp_terminationProbe : (fun (s : State) (l : Nat) (found : Bool) => (l < 40) ∧ (s.lanePresent l = true) ∧ (s.up (laneDomain l) = true) ∧ (s.laneState l = 1) ∧ (s.probeDue l = true)) (laneAt 3 1) 3 true := by decide
theorem meets_LaneBringUp_blockLock_4 : (fun (s : State) (l : Nat) (headers : List (BitVec 2)) => (l < 40) ∧ (s.lanePresent l = true) ∧ (s.up (laneDomain l) = true)) (laneAt 3 2) 3 [1, 0, 2] := by decide
theorem meets_LaneBringUp_blockLock_5 : (fun (s : State) (l : Nat) (h : BitVec 2) => (l < 40) ∧ (s.lanePresent l = true) ∧ (s.up (laneDomain l) = true) ∧ (s.hears l = true) ∧ (s.flag (R.LANE_STAT l) F.LANE_STAT_LOCK = false) ∧ (leadTrue ((validHeader h :: (s.ln l).headers).take 64) = 64)) (laneWith 3 2 { Lane.reset with headers := List.replicate 63 true }) 3 1 := by decide
theorem meets_LaneBringUp_blockLock_6 : (fun (s : State) (l : Nat) (h : BitVec 2) => (l < 40) ∧ (s.lanePresent l = true) ∧ (s.up (laneDomain l) = true) ∧ (s.hears l = true) ∧ (validHeader h = false) ∧ (s.flag (R.LANE_STAT l) F.LANE_STAT_LOCK = false)) (laneAt 3 2) 3 0 := by decide
theorem meets_LaneBringUp_lockLoss_7 : (fun (s : State) (l : Nat) (headers : List (BitVec 2)) => (l < 40) ∧ (s.lanePresent l = true) ∧ (s.up (laneDomain l) = true)) (laneAt 3 5) 3 [1, 0, 2] := by decide
theorem meets_LaneBringUp_lockLoss_8 : (fun (s : State) (l : Nat) (h : BitVec 2) => (l < 40) ∧ (s.lanePresent l = true) ∧ (s.up (laneDomain l) = true) ∧ (s.laneState l = 2) ∧ (validHeader h = true) ∧ (s.flag (R.LANE_STAT l) F.LANE_STAT_LOCK = true) ∧ (16 ≤ (((validHeader h :: (s.ln l).headers).take 64).filter fun b => !b).length)) ((laneWith 3 2 { Lane.reset with headers := List.replicate 16 false }).setFlag (R.LANE_STAT 3) F.LANE_STAT_LOCK true) 3 1 := by decide
theorem meets_LaneBringUp_lockLoss_9 : (fun (s : State) (l : Nat) (h : BitVec 2) => (l < 40) ∧ (s.lanePresent l = true) ∧ (s.up (laneDomain l) = true) ∧ (s.laneState l = 5) ∧ (s.flag (R.LANE_STAT l) F.LANE_STAT_LOCK = true) ∧ (16 ≤ (((validHeader h :: (s.ln l).headers).take 64).filter fun b => !b).length) ∧ (s.laneEnabled l = true) ∧ (((s.laneUser l).all fun p => decide (s.fld (R.HOOP_PT_STAT p) F.HOOP_PT_STAT_STATE ≠ 3)) = true)) (((laneWith 3 5 { Lane.reset with headers := List.replicate 15 false }).setFlag (R.LANE_STAT 3) F.LANE_STAT_LOCK true).setFlag (R.HL_CH_CFG 3) F.HL_CH_CFG_EN true) 3 0 := by decide
theorem meets_LaneBringUp_trainTimer : (fun (s : State) (l : Nat) => (l < 40) ∧ (s.lanePresent l = true) ∧ (s.up (laneDomain l) = true) ∧ (s.laneState l = 2) ∧ (s.flag (R.LANE_STAT l) F.LANE_STAT_LOCK = true) ∧ (nsU (1000 * s.laneTT l) ≤ s.laneFor l)) (let s := (laneAt 3 2).setFlag (R.LANE_STAT 3) F.LANE_STAT_LOCK true; { s with time := { s.time with mt := 10 ^ 18 } }) 3 := by decide
theorem meets_LaneBringUp_trainfail : (fun (s : State) (l : Nat) => (l < 40) ∧ (s.lanePresent l = true) ∧ (s.up (laneDomain l) = true) ∧ (s.laneState l = 2) ∧ (s.flag (R.LANE_STAT l) F.LANE_STAT_LOCK = false) ∧ (nsU (10000 * s.laneTT l) ≤ s.laneFor l)) ({ laneAt 3 2 with time := { State.reset.time with mt := 10 ^ 18 } }) 3 := by decide
theorem meets_LaneBringUp_capReceived_12 : (fun (s : State) (l : Nat) (b : Block) => (l < 40) ∧ (s.lanePresent l = true) ∧ (s.up (laneDomain l) = true) ∧ (l < 32) ∧ (s.laneState l = 4) ∧ (s.flag (R.LANE_STAT l) F.LANE_STAT_CAPERR = false) ∧ ((s.ln l).ack = false) ∧ ((s.ln l).caps = 2) ∧ ((s.ln l).cap = b.payload.toNat) ∧ (isCtl b 0x3C = true) ∧ (bits b.payload.toNat 8 8 = 2) ∧ (bits b.payload.toNat 16 8 = 1)) (laneWith 3 4 { Lane.reset with caps := 2, cap := 0x300000701023C }) 3 (ctlBlock 0x300000701023C) := by decide
theorem meets_LaneBringUp_capReceived_13 : (fun (s : State) (l : Nat) (b : Block) => (l < 40) ∧ (s.lanePresent l = true) ∧ (s.up (laneDomain l) = true) ∧ (l < 32) ∧ (s.laneState l = 4) ∧ (s.flag (R.LANE_STAT l) F.LANE_STAT_CAPERR = false) ∧ ((s.ln l).ack = false) ∧ ((s.ln l).caps = 2) ∧ ((s.ln l).cap = b.payload.toNat) ∧ (isCtl b 0x3C = true) ∧ (bits b.payload.toNat 8 8 ≠ 2 ∨ bits b.payload.toNat 16 8 ≠ 1) ∧ (s.laneUser l = none)) (laneWith 3 4 { Lane.reset with caps := 2, cap := 0x3C }) 3 (ctlBlock 0x3C) := by decide
theorem meets_LaneBringUp_capReceived_14 : (fun (s : State) (l : Nat) (b : Block) => (l < 40) ∧ (s.lanePresent l = true) ∧ (s.up (laneDomain l) = true) ∧ (s.laneState l = 4) ∧ (s.flag (R.LANE_STAT l) F.LANE_STAT_CAPERR = false) ∧ ((s.ln l).ack = false) ∧ ((s.ln l).caps = 0) ∧ (isCtl b 0x3C = true)) (laneAt 3 4) 3 (ctlBlock 0x3C) := by decide
theorem meets_LaneBringUp_capReceived_15 : (fun (s : State) (l : Nat) (b : Block) => (l < 40) ∧ (s.lanePresent l = true) ∧ (s.up (laneDomain l) = true) ∧ (s.laneState l = 4) ∧ (s.flag (R.LANE_STAT l) F.LANE_STAT_CAPERR = false) ∧ ((s.ln l).ack = true) ∧ (isCtl b 0x3C = true) ∧ (bitAt b.payload.toNat 24 = true)) (laneWith 3 4 { Lane.reset with ack := true }) 3 (ctlBlock 0x100003C) := by decide
theorem meets_LaneBringUp_capexTimeout : (fun (s : State) (l : Nat) => (l < 40) ∧ (s.lanePresent l = true) ∧ (s.up (laneDomain l) = true) ∧ (s.laneState l = 4) ∧ (s.flag (R.LANE_STAT l) F.LANE_STAT_CAPERR = false) ∧ (ticksU 1250000 ≤ s.laneFor l)) ({ laneAt 3 4 with time := { State.reset.time with mt := 10 ^ 18 } }) 3 := by decide
theorem meets_LaneBringUp_trainBlockReceived_17 : (fun (s : State) (l : Nat) (b : Block) => (l < 40) ∧ (s.lanePresent l = true) ∧ (s.up (laneDomain l) = true) ∧ (s.laneState l = 5) ∧ (isCtl b 0x2D = true) ∧ (s.laneEnabled l = true) ∧ (((s.laneUser l).all fun p => decide (s.fld (R.HOOP_PT_STAT p) F.HOOP_PT_STAT_STATE ≠ 3)) = true)) ((laneAt 3 5).setFlag (R.HL_CH_CFG 3) F.HL_CH_CFG_EN true) 3 (trainBlock 9) := by decide
theorem meets_LaneBringUp_trainBlockReceived_18 : (fun (s : State) (l : Nat) (b : Block) => (l < 40) ∧ (s.lanePresent l = true) ∧ (s.up (laneDomain l) = true) ∧ (strayBlock b = true)) (laneAt 3 5) 3 (ctlBlock 0) := by decide
theorem meets_LaneBringUp_alignReceived : (fun (s : State) (l p : Nat) (b : Block) => (l < 40) ∧ (s.lanePresent l = true) ∧ (s.up (laneDomain l) = true) ∧ (32 ≤ l) ∧ (s.laneUser l = some p) ∧ (s.laneState l = 5) ∧ (isCtl b 0xA5 = true) ∧ (bits b.payload.toNat 8 2 = l - 32 - p)) (hoopLane 5) 32 0 (alignBlock 0) := by decide

theorem meets_LanePowerAndTest_laneTxeqWrite_0 : (fun (s : State) (l : Nat) (v : Word) => (l < 40) ∧ (s.lanePresent l = true) ∧ (field F.LANE_TXEQ_PRE v + field F.LANE_TXEQ_MAIN v + field F.LANE_TXEQ_POST v ≤ 63) ∧ (field F.LANE_TXEQ_PRE v + field F.LANE_TXEQ_POST v + 8 ≤ field F.LANE_TXEQ_MAIN v)) (State.reset) 3 0x002000 := by decide
theorem meets_LanePowerAndTest_laneTxeqWrite_1 : (fun (s : State) (l : Nat) (v : Word) => (l < 40) ∧ (s.lanePresent l = true) ∧ (63 < field F.LANE_TXEQ_PRE v + field F.LANE_TXEQ_MAIN v + field F.LANE_TXEQ_POST v ∨ field F.LANE_TXEQ_MAIN v < field F.LANE_TXEQ_PRE v + field F.LANE_TXEQ_POST v + 8)) (State.reset) 3 0 := by decide
theorem meets_LanePowerAndTest_eyeMeasure : (fun (s : State) (l w : Nat) => (l < 40) ∧ (s.lanePresent l = true) ∧ (s.up (laneDomain l) = true) ∧ (s.laneState l = 5) ∧ (s.probeDue l = true)) (laneAt 3 5) 3 9 := by decide
theorem meets_LanePowerAndTest_lanePmRequest_3 : (fun (s : State) (l : Nat) (v : Word) => (l < 40) ∧ (s.lanePresent l = true) ∧ (field F.LANE_PM_REQ v = 1 ∨ field F.LANE_PM_REQ v = 2) ∧ (s.laneState l = 5) ∧ (s.pmAllowed l = true)) (laneAt 3 5) 3 1 := by decide
theorem meets_LanePowerAndTest_lanePmRequest_4 : (fun (s : State) (l : Nat) (v : Word) => (l < 40) ∧ (s.lanePresent l = true) ∧ (field F.LANE_PM_REQ v = 0) ∧ (s.laneState l = 6 ∨ s.laneState l = 7) ∧ ((s.ln l).waking = false)) (laneAt 3 6) 3 0 := by decide
theorem meets_LanePowerAndTest_lanePmRequest_5 : (fun (s : State) (l : Nat) (v : Word) => (l < 40) ∧ (s.lanePresent l = true) ∧ (field F.LANE_PM_REQ v = 1 ∨ field F.LANE_PM_REQ v = 2) ∧ (s.laneState l ≠ 5 ∨ s.pmAllowed l = false)) (laneAt 3 2) 3 1 := by decide
theorem meets_LanePowerAndTest_pmRequestReceived_6 : (fun (s : State) (l level : Nat) (b : Block) => (l < 40) ∧ (s.lanePresent l = true) ∧ (s.up (laneDomain l) = true) ∧ (s.laneState l = 5) ∧ (level = 1 ∨ level = 2) ∧ (b = pmBlock level false) ∧ ((s.ln l).pmGot = (b.payload.toNat, 3)) ∧ (s.pmAllowed l = true)) (laneWith 3 5 { Lane.reset with pmGot := (0x25A, 3) }) 3 2 (pmBlock 2 false) := by decide
theorem meets_LanePowerAndTest_pmRequestReceived_7 : (fun (s : State) (l level : Nat) (b : Block) => (l < 40) ∧ (s.lanePresent l = true) ∧ (s.up (laneDomain l) = true) ∧ (s.laneState l = 5) ∧ (level = 1 ∨ level = 2) ∧ (b = pmBlock level false) ∧ ((s.ln l).pmGot = (b.payload.toNat, 3)) ∧ (s.pmAllowed l = false)) ((laneWith 3 5 { Lane.reset with pmGot := (0x25A, 3) }).setFld (R.SEQ_STAT 3) F.SEQ_STAT_STATE 4) 3 2 (pmBlock 2 false) := by decide
theorem meets_LanePowerAndTest_pmRequestReceived_8 : (fun (s : State) (l level : Nat) (b : Block) => (l < 40) ∧ (s.lanePresent l = true) ∧ (s.up (laneDomain l) = true) ∧ (s.laneState l = 5) ∧ (level = 1 ∨ level = 2) ∧ (b = pmBlock level false) ∧ ((s.ln l).pmGot.1 ≠ b.payload.toNat)) (laneAt 3 5) 3 2 (pmBlock 2 false) := by decide
theorem meets_LanePowerAndTest_pmAnswerReceived : (fun (s : State) (l level since : Nat) (b : Block) => (l < 40) ∧ (s.lanePresent l = true) ∧ (s.up (laneDomain l) = true) ∧ (s.laneState l = 5) ∧ (level = 1 ∨ level = 2) ∧ ((s.ln l).pm = some (level, since)) ∧ (s.time.mt ≤ since + ticksU 1250) ∧ (b = pmBlock level true) ∧ ((s.ln l).pmGot = (b.payload.toNat, 3))) (laneWith 3 5 { Lane.reset with pm := some (2, 0), pmGot := (0x1025A, 3) }) 3 2 0 (pmBlock 2 true) := by decide
theorem meets_LanePowerAndTest_pmTimeout : (fun (s : State) (l level since : Nat) => (l < 40) ∧ (s.lanePresent l = true) ∧ (s.up (laneDomain l) = true) ∧ ((s.ln l).pm = some (level, since)) ∧ (since + ticksU 1250 < s.time.mt)) ({ laneWith 3 5 { Lane.reset with pm := some (2, 0) } with time := { State.reset.time with mt := 10 ^ 18 } }) 3 2 0 := by decide
theorem meets_LanePowerAndTest_laneWake : (fun (s : State) (l : Nat) => (l < 40) ∧ (s.lanePresent l = true) ∧ (s.up (laneDomain l) = true) ∧ (s.laneState l = 6 ∨ s.laneState l = 7)) (laneAt 3 6) 3 := by decide
theorem meets_LanePowerAndTest_laneWakeDone : (fun (s : State) (l : Nat) => (l < 40) ∧ (s.lanePresent l = true) ∧ (s.up (laneDomain l) = true) ∧ ((s.ln l).waking = true) ∧ (s.laneState l = 6 ∨ (s.laneState l = 7 ∧ nsU (1000 * s.laneTTS l) ≤ s.laneFor l))) (laneWith 3 6 { Lane.reset with waking := true }) 3 := by decide
theorem meets_LanePowerAndTest_laneTestModeWrite_13 : (fun (s : State) (l : Nat) (v : Word) => (l < 40) ∧ (s.lanePresent l = true) ∧ (0 < field F.LANE_TEST_MODE v) ∧ (field F.LANE_TEST_MODE v ≤ 4) ∧ (s.laneEnabled l = false) ∧ (s.laneState l = 0)) ((allUp State.reset).setReg (R.HL_CH_CFG 3) 0) 3 (withField F.LANE_TEST_MODE 0 2) := by decide
theorem meets_LanePowerAndTest_laneTestModeWrite_14 : (fun (s : State) (l : Nat) (v : Word) => (l < 40) ∧ (s.lanePresent l = true) ∧ (0 < field F.LANE_TEST_MODE v) ∧ (field F.LANE_TEST_MODE v ≤ 4) ∧ (s.laneEnabled l = true)) ((laneAt 3 5).setFlag (R.HL_CH_CFG 3) F.HL_CH_CFG_EN true) 3 (withField F.LANE_TEST_MODE 0 2) := by decide
theorem meets_LanePowerAndTest_checkerStart : (fun (s : State) (l : Nat) (v : Word) => (l < 40) ∧ (s.lanePresent l = true) ∧ (0 < field F.LANE_TEST_MODE v) ∧ (field F.LANE_TEST_MODE v ≤ 4) ∧ (s.laneEnabled l = false) ∧ (s.laneState l = 8)) ((laneAt 3 8).setReg (R.HL_CH_CFG 3) 0) 3 (withField F.LANE_TEST_MODE 0 2) := by decide
theorem meets_LanePowerAndTest_checkerSync_16 : (fun (s : State) (l : Nat) (received : List Bool) (n : Nat) => (l < 40) ∧ (s.lanePresent l = true) ∧ (s.up (laneDomain l) = true) ∧ (s.laneState l = 8) ∧ (s.flag (R.LANE_TEST l) F.LANE_TEST_CHK = true) ∧ (s.flag (R.LANE_TEST l) F.LANE_TEST_LOOP = false)) ((laneAt 3 8).setFlag (R.LANE_TEST 3) F.LANE_TEST_CHK true) 3 [true, false] 2 := by decide
theorem meets_LanePowerAndTest_checkerSync_17 : (fun (s : State) (l : Nat) (received : List Bool) (n : Nat) => (l < 40) ∧ (s.lanePresent l = true) ∧ (s.up (laneDomain l) = true) ∧ (s.laneState l = 8) ∧ (s.flag (R.LANE_TEST l) F.LANE_TEST_CHK = true) ∧ (s.flag (R.LANE_TEST l) F.LANE_TEST_LOOP = true)) (((laneAt 3 8).setFlag (R.LANE_TEST 3) F.LANE_TEST_CHK true).setFlag (R.LANE_TEST 3) F.LANE_TEST_LOOP true) 3 [true, false] 2 := by decide
theorem meets_LanePowerAndTest_checkerSync_18 : (fun (s : State) (l : Nat) (b : Bool) => (l < 40) ∧ (s.lanePresent l = true) ∧ (s.up (laneDomain l) = true) ∧ (s.laneState l = 8) ∧ (s.flag (R.LANE_TEST l) F.LANE_TEST_CHK = true) ∧ (s.flag (R.LANE_TEST l) F.LANE_TEST_LOOP = false) ∧ (seedBits (s.fld (R.LANE_TEST l) F.LANE_TEST_MODE) ≤ (s.ln l).seen) ∧ (s.flag (R.LANE_TEST l) F.LANE_TEST_SYNC = false) ∧ (b = expectedBit (s.fld (R.LANE_TEST l) F.LANE_TEST_MODE) (s.ln l).chk) ∧ (63 ≤ (s.ln l).clean)) ((laneWith 3 8 { Lane.reset with clean := 63, seen := 99 }).setReg (R.LANE_TEST 3) (withField F.LANE_TEST_MODE (withField F.LANE_TEST_CHK 0 1) 1)) 3 false := by decide
theorem meets_LanePowerAndTest_checkerSync_19 : (fun (s : State) (l : Nat) (b : Bool) => (l < 40) ∧ (s.lanePresent l = true) ∧ (s.up (laneDomain l) = true) ∧ (s.laneState l = 8) ∧ (s.flag (R.LANE_TEST l) F.LANE_TEST_CHK = true) ∧ (s.flag (R.LANE_TEST l) F.LANE_TEST_LOOP = false) ∧ (seedBits (s.fld (R.LANE_TEST l) F.LANE_TEST_MODE) ≤ (s.ln l).seen) ∧ (s.flag (R.LANE_TEST l) F.LANE_TEST_SYNC = true) ∧ ((s.ln l).errors = [])) ((laneWith 3 8 { Lane.reset with seen := 99 }).setReg (R.LANE_TEST 3) (withField F.LANE_TEST_MODE (withField F.LANE_TEST_SYNC (withField F.LANE_TEST_CHK 0 1) 1) 1)) 3 true := by decide
theorem meets_LanePowerAndTest_inj1 : (fun (s : State) (l : Nat) => (l < 40) ∧ (s.lanePresent l = true)) (State.reset) 3 := by decide

theorem meets_HeadLinkFrames_downlinkFrame_0 : (fun (s : State) (n : Nat) => (n < s.channels) ∧ (s.laneState n = 5) ∧ (s.up dHEAD = true) ∧ (s.servoPhase ∈ [600, 1225, 1850, 2475, 3100]) ∧ ((s.hd n).aux = none)) (headAt ⟨7, some 2, none, false, true, none, false, [], none⟩) 0 := by decide
theorem meets_HeadLinkFrames_downlinkFrame_1 : (fun (s : State) (n a d since : Nat) (own wr : Bool) => (n < s.channels) ∧ (s.laneState n = 5) ∧ (s.up dHEAD = true) ∧ (s.servoPhase ∈ [600, 1225, 1850, 2475, 3100]) ∧ ((s.hd n).aux = some (own, wr, a, d, false, since))) (headAt ⟨7, none, some (false, true, 2, 9, false, 0), false, true, none, false, [], none⟩) 0 2 9 0 false true := by decide
theorem meets_HeadLinkFrames_uplinkFrame_2 : (fun (s : State) (n : Nat) (blocks : List Block) (b0 b1 b2 b3 : Nat) => (n < s.channels) ∧ (s.laneState n = 5) ∧ (s.up dHEAD = true) ∧ (blocks.map (fun b => b.payload.toNat) = [b0, b1, b2, b3]) ∧ (frameShape blocks = true) ∧ (uplinkOk b0 b1 b2 b3 = true) ∧ ((s.hd n).aux = none)) (headAt ⟨7, some 2, none, false, true, none, false, [], none⟩) 0 [ctlBlock 0x3E2, dataBlock 0, dataBlock 0, dataBlock (crc16 (leBytes 0x3E2 8 ++ leBytes 0 8 ++ leBytes 0 8 ++ leBytes 0 6) * 2 ^ 48)] 0x3E2 0 0 (crc16 (leBytes 0x3E2 8 ++ leBytes 0 8 ++ leBytes 0 8 ++ leBytes 0 6) * 2 ^ 48) := by decide +kernel
theorem meets_HeadLinkFrames_uplinkFrame_3 : (fun (s : State) (n : Nat) (blocks : List Block) (b0 b1 b2 b3 : Nat) => (n < s.channels) ∧ (s.laneState n = 5) ∧ (s.up dHEAD = true) ∧ (blocks.map (fun b => b.payload.toNat) = [b0, b1, b2, b3]) ∧ ((blocks.filter strayBlock).length = 0) ∧ (frameShape blocks = false ∨ uplinkOk b0 b1 b2 b3 = false)) (headAt ⟨7, some 2, none, false, true, none, false, [], none⟩) 0 [ctlBlock 0xE2, dataBlock 0, dataBlock 0, dataBlock 9] 0xE2 0 0 9 := by decide +kernel
theorem meets_HeadLinkFrames_auxGo_4 : (fun (s : State) (n : Nat) (v : Word) => (n < s.channels) ∧ (field F.HL_CH_AUX_GO v = 1) ∧ (s.flag (R.HL_CH_AUX n) F.HL_CH_AUX_BUSY = false)) (State.reset) 0 (withField F.HL_CH_AUX_GO 0 1) := by decide
theorem meets_HeadLinkFrames_auxGo_5 : (fun (s : State) (n : Nat) (v : Word) => (n < s.channels) ∧ (field F.HL_CH_AUX_GO v = 1) ∧ (s.flag (R.HL_CH_AUX n) F.HL_CH_AUX_BUSY = true)) (State.reset.setFlag (R.HL_CH_AUX 0) F.HL_CH_AUX_BUSY true) 0 (withField F.HL_CH_AUX_GO 0 1) := by decide
theorem meets_HeadLinkFrames_auxTimeout_6 : (fun (s : State) (n a d since : Nat) (wr sent : Bool) => (n < s.channels) ∧ ((s.hd n).aux = some (false, wr, a, d, sent, since)) ∧ (since + ticksU 5000 ≤ s.time.mt) ∧ ((s.hd n).cfgDue = false)) ({ headAt ⟨7, none, some (false, true, 2, 9, false, 0), false, true, none, false, [], none⟩ with time := { State.reset.time with mt := 10 ^ 18 } }) 0 2 9 0 true false := by decide
theorem meets_HeadLinkFrames_auxTimeout_7 : (fun (s : State) (n a d since : Nat) (wr sent : Bool) => (n < s.channels) ∧ ((s.hd n).aux = some (true, wr, a, d, sent, since)) ∧ (since + ticksU 5000 ≤ s.time.mt) ∧ ((s.hd n).cfgDue = false)) ({ headAt ⟨7, none, some (true, true, 2, 9, false, 0), false, true, none, false, [], none⟩ with time := { State.reset.time with mt := 10 ^ 18 } }) 0 2 9 0 true false := by decide
theorem meets_HeadLinkFrames_headConfigRetry : (fun (s : State) (n t0 : Nat) => (n < s.channels) ∧ ((s.hd n).retryAt = some t0) ∧ (t0 ≤ s.time.mt) ∧ (s.laneState n = 5) ∧ ((s.hd n).aux = none)) (headAt ⟨7, none, none, false, true, some 0, false, [], none⟩) 0 0 := by decide

theorem meets_Bar2AndMsix_bar2Read_0 : (fun (s : State) (off len : Nat) => (off + len ≤ 2 ^ 36) ∧ (s.dramOk (s.bar2Dram off) len = true) ∧ (s.rangePoisoned (s.bar2Dram off) len = false)) (dramUp State.reset) 64 4 := by decide
theorem meets_Bar2AndMsix_bar2Read_1 : (fun (s : State) (off len : Nat) => (off + len ≤ 2 ^ 36) ∧ (s.dramOk (s.bar2Dram off) len = false)) (State.reset) 64 4 := by decide
theorem meets_Bar2AndMsix_bar2Read_2 : (fun (s : State) (off len : Nat) => (off + len ≤ 2 ^ 36) ∧ (s.dramOk (s.bar2Dram off) len = true) ∧ (s.rangePoisoned (s.bar2Dram off) len = true)) (let s := dramUp State.reset; { s with ddr := { s.ddr with poisoned := [(1, true)] } }) 64 4 := by decide
theorem meets_Bar2AndMsix_bar2Write_3 : (fun (s : State) (off : Nat) (bytes : List Byte) (poisoned : Bool) => (off + bytes.length ≤ 2 ^ 36) ∧ (poisoned = false) ∧ (s.dramOk (s.bar2Dram off) bytes.length = true) ∧ (s.rangePoisoned (s.bar2Dram off) bytes.length = false)) (dramUp State.reset) 64 [1, 2, 3] false := by decide
theorem meets_Bar2AndMsix_bar2Write_4 : (fun (s : State) (off : Nat) (bytes : List Byte) (poisoned : Bool) => (off + bytes.length ≤ 2 ^ 36) ∧ (poisoned = true) ∧ (s.dramOk (s.bar2Dram off) bytes.length = true)) (dramUp State.reset) 64 [1, 2, 3] true := by decide
theorem meets_Bar2AndMsix_bar2Write_5 : (fun (s : State) (off : Nat) (bytes : List Byte) (poisoned : Bool) => (off + bytes.length ≤ 2 ^ 36) ∧ (s.dramOk (s.bar2Dram off) bytes.length = false)) (State.reset) 64 [1] true := by decide
theorem meets_Bar2AndMsix_msixUnmask_6 : (fun (s : State) (vector : Option Nat) => (vector = none)) (State.reset) none := by decide
theorem meets_Bar2AndMsix_msixUnmask_7 : (fun (s : State) (vector : Option Nat) => ((vector.all fun v => decide (v < 64)) = true) ∧ (vector.isSome = true)) (State.reset) (some 9) := by decide
theorem meets_Bar2AndMsix_msixUnmask_8 : (fun (s : State) (v : Nat) => (v < 64)) (State.reset) 3 := by decide
theorem meets_Bar2AndMsix_msixUnmask_9 : (fun (s : State) (b : Nat) => (b < 26) ∧ (s.pci.funcMask = false) ∧ (bitAt s.pci.pba (38 + b) = true) ∧ (s.bit R.PCI_FWIRQ b = true)) ({ State.reset.setReg R.PCI_FWIRQ 8 with pci := { State.reset.pci with pba := 2 ^ 64 - 1 } }) 3 := by decide

theorem meets_PcieLinkAndResets_linkDown : (fun (s : State) => (∀ k ∈ List.range 16, (s.dc k).cur = none)) (State.reset) := by decide
theorem meets_PcieLinkAndResets_busMasterDisable_1 : (fun (s : State) => (∀ k ∈ List.range 16, (s.dc k).cur = none)) (State.reset) := by decide
theorem meets_PcieLinkAndResets_busMasterDisable_2 : (fun (s : State) (n : Nat) (d : DmaDesc) => (n < 16) ∧ ((s.dc n).cur = some d) ∧ (s.dmaHost n d = true) ∧ (s.ringDev n = false) ∧ (∀ m ∈ List.range 16, m ≠ n → (s.dc m).cur = none)) ((State.reset.modDc 0 fun _ => ⟨some (dmaD 0 0 0), [], [], []⟩)) 0 (dmaD 0 0 0) := by decide
theorem meets_PcieLinkAndResets_perstNAssert : (fun (s : State) => (s.pci.perstN = true) ∧ (s.flag R.BOOT_CTL F.BOOT_CTL_PERST_CORE = false) ∧ (s.flag R.BOOT_CTL F.BOOT_CTL_PERST_CORE = false)) ({ State.reset with pci := { State.reset.pci with perstN := true } }.setFlag R.BOOT_CTL F.BOOT_CTL_PERST_CORE false) := by decide
theorem meets_PcieLinkAndResets_perstNRelease : (fun (s : State) => (s.pci.perstN = false)) ({ State.reset with pci := { State.reset.pci with perstN := false } }) := by decide
theorem meets_PcieLinkAndResets_pcieLinkActivity : (fun (s : State) => (s.pci.perstN = true) ∧ (s.up dHOST = true) ∧ (s.pci.linkUp = false) ∧ (s.fld R.PWR_STATE F.PWR_STATE_CUR = 0) ∧ (∀ k ∈ List.range 16, (s.dc k).cur = none)) ({ allUp State.reset with pci := { State.reset.pci with perstN := true, linkUp := false } }) := by decide

theorem meets_DmaChannels_dmaDoorbell : (fun (s : State) (n : Nat) (v : Word) => (n < 16)) (dmaAt 2 ⟨none, [], [], []⟩) 0 37 := by decide
theorem meets_DmaChannels_dmaDescriptorFetch_1 : (fun (s : State) (n : Nat) (host : ReadResult) (b : List Byte) => (n < 16) ∧ (s.dmaState n = 1) ∧ ((s.dc n).cur = none) ∧ ((s.dc n).ahead = []) ∧ (s.dmaHead n % s.dmaSize n ≠ s.fld (R.DMA_CH_TAIL n) F.DMA_CH_TAIL_INDEX % s.dmaSize n) ∧ (s.dmaRead n (s.dmaHead n % s.dmaSize n) host = some b) ∧ (leAt b 0x14 2 % 2 = 1)) ((dmaAt 1 ⟨none, [], [], []⟩).writeDram 0 (leBytes 0x1000 8 ++ leBytes 0x2000 8 ++ leBytes 4 4 ++ leBytes 0x19 2 ++ zeros 10)) 0 .error (leBytes 0x1000 8 ++ leBytes 0x2000 8 ++ leBytes 4 4 ++ leBytes 0x19 2 ++ zeros 10) := by decide
theorem meets_DmaChannels_dmaDescriptorFetch_2 : (fun (s : State) (n : Nat) (host : ReadResult) (b : List Byte) => (n < 16) ∧ (s.dmaState n = 1) ∧ ((s.dc n).cur = none) ∧ ((s.dc n).ahead = []) ∧ (s.dmaHead n % s.dmaSize n ≠ s.fld (R.DMA_CH_TAIL n) F.DMA_CH_TAIL_INDEX % s.dmaSize n) ∧ (s.dmaRead n (s.dmaHead n % s.dmaSize n) host = some b) ∧ (leAt b 0x14 2 % 2 = 1) ∧ ((s.dmaParse (s.dmaHead n % s.dmaSize n) b).status = 0)) ((dmaAt 1 ⟨none, [], [], []⟩).writeDram 0 (leBytes 0x1000 8 ++ leBytes 0x2000 8 ++ leBytes 4 4 ++ leBytes 0x19 2 ++ zeros 10)) 0 .error (leBytes 0x1000 8 ++ leBytes 0x2000 8 ++ leBytes 4 4 ++ leBytes 0x19 2 ++ zeros 10) := by decide
theorem meets_DmaChannels_dmaDescriptorFetch_3 : (fun (s : State) (n : Nat) (host : ReadResult) (b : List Byte) => (n < 16) ∧ (s.dmaState n = 1) ∧ ((s.dc n).cur = none) ∧ ((s.dc n).ahead = []) ∧ (s.dmaHead n % s.dmaSize n ≠ s.fld (R.DMA_CH_TAIL n) F.DMA_CH_TAIL_INDEX % s.dmaSize n) ∧ (s.dmaRead n (s.dmaHead n % s.dmaSize n) host = some b) ∧ (leAt b 0x14 2 % 2 = 0)) ((dmaAt 1 ⟨none, [], [], []⟩).setFlag (R.DMA_CH_CFG 0) F.DMA_CH_CFG_SPACE false) 0 (.data (zeros 32)) (zeros 32) := by decide
theorem meets_DmaChannels_dmaDescriptorFetch_4 : (fun (s : State) (n : Nat) (host : ReadResult) => (n < 16) ∧ (s.dmaState n = 1) ∧ ((s.dc n).cur = none) ∧ ((s.dc n).ahead = []) ∧ (s.dmaHead n % s.dmaSize n ≠ s.fld (R.DMA_CH_TAIL n) F.DMA_CH_TAIL_INDEX % s.dmaSize n) ∧ (s.dmaRead n (s.dmaHead n % s.dmaSize n) host = none)) ((dmaAt 1 ⟨none, [], [], []⟩).setFlag (R.DMA_CH_CFG 0) F.DMA_CH_CFG_SPACE false) 0 .error := by decide
theorem meets_DmaChannels_dmaReadCompletion_5 : (fun (s : State) (n : Nat) (host : ReadResult) (d : DmaDesc) (a k : Nat) (rest : List (Nat × Nat)) (b : List Byte) => (n < 16) ∧ ((s.dc n).cur = some d) ∧ ((s.dc n).asked = (a, k) :: rest) ∧ (s.readsBack n d = false) ∧ (s.readGot (d.srcDev && !s.readsBack n d) a k host = some b)) (dmaAt 1 ⟨some { dmaD 0 4 0 with ctrl := 0x13 }, [], [(0x1000, 4)], []⟩) 0 (.data [1, 2, 3, 4]) { dmaD 0 4 0 with ctrl := 0x13 } 0x1000 4 [] [1, 2, 3, 4] := by decide
theorem meets_DmaChannels_dmaReadCompletion_6 : (fun (s : State) (n : Nat) (host : ReadResult) (d : DmaDesc) (a k : Nat) (rest : List (Nat × Nat)) (b : List Byte) => (n < 16) ∧ ((s.dc n).cur = some d) ∧ ((s.dc n).asked = (a, k) :: rest) ∧ (s.readsBack n d = true) ∧ (s.readGot (d.srcDev && !s.readsBack n d) a k host = some b)) (dmaAt 1 ⟨some { dmaD 0 4 4 with ctrl := 0xB }, [], [(0x2003, 1)], []⟩) 0 (.data [1]) { dmaD 0 4 4 with ctrl := 0xB } 0x2003 1 [] [1] := by decide
theorem meets_DmaChannels_dmaReadCompletion_7 : (fun (s : State) (n : Nat) (host : ReadResult) (d : DmaDesc) (a k : Nat) (rest : List (Nat × Nat)) => (n < 16) ∧ ((s.dc n).cur = some d) ∧ ((s.dc n).asked = (a, k) :: rest) ∧ (s.readGot (d.srcDev && !s.readsBack n d) a k host = none)) (dmaAt 1 ⟨some { dmaD 0 4 0 with ctrl := 0x13 }, [], [(0x1000, 4)], []⟩) 0 .error { dmaD 0 4 0 with ctrl := 0x13 } 0x1000 4 [] := by decide
theorem meets_DmaChannels_completionTimeout : (fun (s : State) (n : Nat) (d : DmaDesc) (a k : Nat) (rest : List (Nat × Nat)) => (n < 16) ∧ ((s.dc n).cur = some d) ∧ ((s.dc n).asked = (a, k) :: rest) ∧ (d.srcDev = false) ∧ ((s.dc n).segs = []) ∧ (d.read ≠ d.written) ∧ (d.dstDev = true)) (dmaAt 1 ⟨some { dmaD 0 4 0 with ctrl := 0x13 }, [], [(0x1000, 4)], []⟩) 0 { dmaD 0 4 0 with ctrl := 0x13 } 0x1000 4 [] := by decide
theorem meets_DmaChannels_dmaSegmentWrite_9 : (fun (s : State) (n : Nat) (d : DmaDesc) (b : List Byte) (rest : List (List Byte)) => (n < 16) ∧ ((s.dc n).cur = some d) ∧ (roundRobin s.dmaEng.write s.dmaFilled = some n) ∧ (s.intg.hidden = []) ∧ (d.down = false) ∧ ((s.dc n).segs = b :: rest) ∧ (d.status = 0) ∧ (d.dstDev = true) ∧ (rest ≠ [] ∨ (s.dc n).asked ≠ [] ∨ d.read < d.len) ∧ (s.dramOk (d.dst + d.written) b.length = true) ∧ (s.rangePoisoned (d.dst + d.written) b.length = false)) (dmaAt 1 ⟨some (dmaD 0 2 0), [], [], [[5, 6]]⟩) 0 (dmaD 0 2 0) [5, 6] [] := by decide
theorem meets_DmaChannels_dmaSegmentWrite_10 : (fun (s : State) (n : Nat) (d : DmaDesc) (b : List Byte) => (n < 16) ∧ ((s.dc n).cur = some d) ∧ (roundRobin s.dmaEng.write s.dmaFilled = some n) ∧ (s.intg.hidden = []) ∧ (d.down = false) ∧ ((s.dc n).segs = [b]) ∧ ((s.dc n).asked = []) ∧ ((s.dc n).ahead = []) ∧ (d.status = 0) ∧ (d.dstDev = false) ∧ (s.ringDev n = false) ∧ (d.len ≤ d.read)) ((dmaAt 1 ⟨some { dmaD 0 4 2 with ctrl := 0xB }, [], [], [[5, 6]]⟩).setFlag (R.DMA_CH_CFG 0) F.DMA_CH_CFG_SPACE false) 0 { dmaD 0 4 2 with ctrl := 0xB } [5, 6] := by decide
theorem meets_DmaChannels_dmaEnable : (fun (s : State) (n : Nat) (v : Word) => (n < 16) ∧ (s.dmaState n = 0 ∨ s.dmaState n = 3)) (dmaAt 0 ⟨none, [], [], []⟩) 0 1 := by decide
theorem meets_DmaChannels_dmaDisable : (fun (s : State) (n : Nat) (v : Word) => (n < 16) ∧ (s.dmaState n ≠ 4)) (dmaAt 1 ⟨none, [], [], []⟩) 0 1 := by decide
theorem meets_DmaChannels_dmaRestart : (fun (s : State) (n : Nat) => (n < 16) ∧ (s.dmaState n = 4)) (dmaAt 4 ⟨none, [], [], []⟩) 0 := by decide

theorem meets_EthernetPorts_ethPortEnable_0 : (fun (s : State) (e : Nat) (v : Word) => (e < s.ethPorts) ∧ (field F.ETH_PT_CFG_EN v = 1) ∧ (field F.ETH_PT_CFG_MODE v = s.fld (R.ETH_PT_CFG e) F.ETH_PT_CFG_MODE)) (State.reset) 0 1 := by decide
theorem meets_EthernetPorts_ethPortEnable_1 : (fun (s : State) (e : Nat) (v : Word) => (e < s.ethPorts) ∧ (field F.ETH_PT_CFG_EN v = 0)) (ethAt) 0 0 := by decide
theorem meets_EthernetPorts_ethTxDoorbell : (fun (s : State) (e : Nat) (v : Word) => (e < s.ethPorts) ∧ (s.ethOn e = false)) (State.reset) 0 3 := by decide
theorem meets_EthernetPorts_ethRxDoorbell : (fun (s : State) (e : Nat) (v : Word) => (e < s.ethPorts)) (State.reset) 0 3 := by decide
theorem meets_EthernetPorts_ethFrameSent : (fun (s : State) (e : Nat) (d : List Byte) => (e < s.ethPorts) ∧ (s.ethOn e = true) ∧ ((s.et e).pauseUntil ≤ s.time.mt) ∧ (s.txOwned e = some d) ∧ (s.txBad e d = 0)) (ethAt.writeDram 0 (ethDescBytes 14)) 0 (ethDescBytes 14) := by decide
theorem meets_EthernetPorts_ethFrameReceived_5 : (fun (s : State) (e : Nat) (bytes : List Byte) (check : Word) (d : List Byte) => (e < s.ethPorts) ∧ (s.ethOn e = true) ∧ (60 ≤ bytes.length) ∧ (s.ethAccepts e bytes = true) ∧ (check.toNat = fcs bytes) ∧ (s.intg.hidden = []) ∧ (bytes.length ≤ 9212) ∧ (s.rxOwned e = some d) ∧ (bytes.length ≤ leAt d 4 2) ∧ (s.dramOk (64 * leAt d 0 4) bytes.length = true) ∧ (s.rangePoisoned (64 * leAt d 0 4) bytes.length = false) ∧ (64 * leAt d 0 4 + bytes.length ≤ s.rxDesc e (s.rxHead e) ∨ s.rxDesc e (s.rxHead e) + 32 ≤ 64 * leAt d 0 4)) (ethAt.writeDram 4096 (ethDescBytes 100)) 0 (List.replicate 60 0xFF) (BitVec.ofNat 32 (fcs (List.replicate 60 0xFF))) (ethDescBytes 100) := by decide +kernel
theorem meets_EthernetPorts_ethFrameReceived_6 : (fun (s : State) (e : Nat) (bytes : List Byte) (check : Word) => (e < s.ethPorts) ∧ (s.ethOn e = true) ∧ (60 ≤ bytes.length) ∧ (s.ethAccepts e bytes = true) ∧ (check.toNat ≠ fcs bytes)) (ethAt) 0 (List.replicate 60 0xFF) (~~~ BitVec.ofNat 32 (fcs (List.replicate 60 0xFF))) := by decide +kernel
theorem meets_EthernetPorts_ethFrameReceived_7 : (fun (s : State) (e : Nat) (bytes : List Byte) (check : Word) => (e < s.ethPorts) ∧ (s.ethOn e = true) ∧ (60 ≤ bytes.length) ∧ (s.ethAccepts e bytes = true) ∧ (check.toNat = fcs bytes) ∧ (s.intg.hidden = []) ∧ (s.rxOwned e = none)) (ethAt) 0 (List.replicate 60 0xFF) (BitVec.ofNat 32 (fcs (List.replicate 60 0xFF))) := by decide +kernel
theorem meets_EthernetPorts_ethFrameReceived_8 : (fun (s : State) (e : Nat) (bytes : List Byte) (check : Word) => (e < s.ethPorts) ∧ (s.ethOn e = true) ∧ (s.ethAccepts e bytes = false)) (ethAt) 0 (List.replicate 60 4) 0 := by decide
theorem meets_EthernetPorts_pauseReceived : (fun (s : State) (e quanta : Nat) => (e < s.ethPorts) ∧ (s.ethOn e = true) ∧ (s.flag (R.ETH_PT_CFG e) F.ETH_PT_CFG_RXPAUSE = true)) (ethAt.setFlag (R.ETH_PT_CFG 0) F.ETH_PT_CFG_RXPAUSE true) 0 7 := by decide
theorem meets_EthernetPorts_ethLinkChange_10 : (fun (s : State) (e : Nat) (locked negotiated : Bool) => (e < s.ethPorts) ∧ (s.ethOn e = true)) (ethAt) 0 true false := by decide
theorem meets_EthernetPorts_ethLinkChange_11 : (fun (s : State) (e : Nat) (locked negotiated : Bool) => (e < s.ethPorts) ∧ (s.ethOn e = true) ∧ (s.ethLink e = true) ∧ (locked = false)) (ethAt) 0 false true := by decide
theorem meets_EthernetPorts_ethI2cGo_12 : (fun (s : State) (e : Nat) (v : Word) => (e < s.ethPorts) ∧ (field F.ETH_PT_I2CCMD_GO v = 1) ∧ ((s.et e).i2c = none)) (State.reset) 0 (withField F.ETH_PT_I2CCMD_GO 0 1) := by decide
theorem meets_EthernetPorts_ethI2cGo_13 : (fun (s : State) (e : Nat) (v : Word) => (e < s.ethPorts) ∧ (field F.ETH_PT_I2CCMD_GO v = 1) ∧ ((s.et e).i2c ≠ none)) (ethAt ⟨0, some ⟨.host, true, 0, 1⟩⟩) 0 (withField F.ETH_PT_I2CCMD_GO 0 1) := by decide
theorem meets_EthernetPorts_ethI2cDone : (fun (s : State) (e code : Nat) (data : Word) (q : I2c) => (e < s.ethPorts) ∧ ((s.et e).i2c = some q) ∧ (q.write = false) ∧ (code = 0)) (ethAt ⟨0, some ⟨.host, false, 0, 1⟩⟩) 0 0 9 ⟨.host, false, 0, 1⟩ := by decide

theorem meets_DramController_ddrCfgWrite_0 : (fun (s : State) (v : Word) => (s.flag R.DDR_STAT F.DDR_STAT_READY = false) ∧ (s.flag R.DDR_STAT F.DDR_STAT_BUSY = false)) (State.reset) 3 := by decide
theorem meets_DramController_ddrCfgWrite_1 : (fun (s : State) (v : Word) => (s.flag R.DDR_STAT F.DDR_STAT_READY = true ∨ s.flag R.DDR_STAT F.DDR_STAT_BUSY = true)) (dramUp State.reset) 3 := by decide
theorem meets_DramController_ddrInitDone_3 : (fun (s : State) (steps : List (List (List Nat))) => (s.flag R.DDR_STAT F.DDR_STAT_BUSY = true) ∧ (steps.all (stepTrained (s.fld (R.CAL_G_TOL 7) F.CAL_G_TOL_ABS)) = true)) (State.reset.setFlag R.DDR_STAT F.DDR_STAT_BUSY true) [[[9, 4], [9, 4]]] := by decide
theorem meets_DramController_ddrInitDone_4 : (fun (s : State) (steps : List (List (List Nat))) => (s.flag R.DDR_STAT F.DDR_STAT_BUSY = true) ∧ (steps.all (stepTrained (s.fld (R.CAL_G_TOL 7) F.CAL_G_TOL_ABS)) = false)) (State.reset.setFlag R.DDR_STAT F.DDR_STAT_BUSY true) [[[9, 4], [9, 900]]] := by decide
theorem meets_DramController_dramRequest_5 : (fun (s : State) (sub : Nat) (r : DramReq) => (sub < s.subs) ∧ (s.training (sub / 2) = false) ∧ (s.flag R.DDR_STAT F.DDR_STAT_SR = false) ∧ (s.nextReq sub = some r) ∧ (r.write = false)) (ddrAt fun d => { d with queue := [⟨0, 0, 8, false⟩] }) 0 ⟨0, 0, 8, false⟩ := by decide
theorem meets_DramController_dramRequest_6 : (fun (s : State) (sub : Nat) (r : DramReq) (l : LogLine) (rest : List LogLine) => (sub < s.subs) ∧ (s.training (sub / 2) = false) ∧ (s.flag R.DDR_STAT F.DDR_STAT_SR = false) ∧ (s.nextReq sub = some r) ∧ (r.write = true) ∧ (r.port = 2) ∧ ((s.ls r.unit).logLines = l :: rest) ∧ (l.line = r.line) ∧ (s.dramOk (64 * r.line) 64 = true) ∧ ((s.ls r.unit).fenceRecs = [])) ((ddrAt fun d => { d with queue := [⟨2, 0, 8, true⟩] }).modLs 0 fun x => { x with logLines := [⟨0, 8, []⟩] }) 0 ⟨2, 0, 8, true⟩ ⟨0, 8, []⟩ [] := by decide
theorem meets_DramController_dramReadReturn_7 : (fun (s : State) (line : Nat) (ue : Bool) (corrected : Nat) (r : DramReq) => ((s.ddr.issued.find? fun q => decide (q.line = line)) = some r) ∧ (ue = false) ∧ (s.poisoned line = false) ∧ (s.flag R.DDR_ECC_CFG F.DDR_ECC_CFG_WBACK = false)) ((ddrAt fun d => { d with issued := [⟨0, 0, 8, false⟩] }).setFlag R.DDR_ECC_CFG F.DDR_ECC_CFG_WBACK false) 8 false 3 ⟨0, 0, 8, false⟩ := by decide
theorem meets_DramController_dramReadReturn_8 : (fun (s : State) (line : Nat) (ue : Bool) (corrected : Nat) (r : DramReq) => ((s.ddr.issued.find? fun q => decide (q.line = line)) = some r) ∧ (ue = true ∨ s.poisoned line = true)) (ddrAt fun d => { d with issued := [⟨0, 0, 8, false⟩] }) 8 true 0 ⟨0, 0, 8, false⟩ := by decide
theorem meets_DramController_dramReadReturn_9 : (fun (s : State) (line : Nat) (ue : Bool) (corrected : Nat) => ((s.ddr.issued.find? fun q => decide (q.line = line)) = none) ∧ (s.dramOk (64 * line) 64 = true)) (dramUp State.reset) 8 true 2 := by decide
theorem meets_DramController_refresh : (fun (s : State) (sub : Nat) => (sub < s.subs) ∧ (s.dramUp = true) ∧ (tabGet (fun _ => 0) s.ddr.refreshDue sub ≤ s.time.mt) ∧ (0 < tabGet (fun _ => 0) s.ddr.refreshDue sub)) ({ (ddrAt fun d => { d with refreshDue := [(0, 6400)] }) with time := { State.reset.time with mt := 12800 } }) 0 := by decide
theorem meets_DramController_periodicTraining_11 : (fun (s : State) (k : Nat) => (k < s.ddrChannels) ∧ (s.dramUp = true) ∧ (s.training k = false) ∧ (tabGet (fun _ => 0) s.ddr.trainWait k = 0) ∧ (s.trainInstant k = true) ∧ (s.panics = 0)) (dramUp State.reset) 0 := by decide
theorem meets_DramController_periodicTraining_12 : (fun (s : State) (k : Nat) => (k < s.ddrChannels) ∧ (s.dramUp = true) ∧ (s.training k = false) ∧ (tabGet (fun _ => 0) s.ddr.trainWait k = 0) ∧ (s.trainInstant k = true) ∧ (s.panics ≠ 0)) (((dramUp State.reset).modLs 0 fun x => { x with logLines := [⟨0, 8, []⟩] }).setFld (R.LSR_LOG_CTL 0) F.LSR_LOG_CTL_PANIC 1) 0 := by decide

theorem meets_IntegrityScrubAndTest_scrubPass : (fun (s : State) => (s.flag R.INTG_CTL F.INTG_CTL_SCRUB = true) ∧ (s.intg.scrubAt = 0 ∨ s.intg.scrubAt - 1 + scrubU ≤ s.time.mt)) (State.reset.setFlag R.INTG_CTL F.INTG_CTL_SCRUB true) := by decide
theorem meets_IntegrityScrubAndTest_scrubRead_1 : (fun (s : State) (cls index : Nat) (finding : ScrubFinding) => (cls < 11) ∧ (s.flag R.INTG_CTL F.INTG_CTL_SCRUB = true) ∧ (s.up (classDomain cls index) = true) ∧ (s.scrubFinds cls index finding = 0)) ((allUp State.reset).setFlag R.INTG_CTL F.INTG_CTL_SCRUB true) 3 7 .clean := by decide
theorem meets_IntegrityScrubAndTest_scrubRead_2 : (fun (s : State) (cls index : Nat) (finding : ScrubFinding) => (cls < 11) ∧ (s.flag R.INTG_CTL F.INTG_CTL_SCRUB = true) ∧ (s.up (classDomain cls index) = true) ∧ (s.scrubFinds cls index finding = 1) ∧ (s.isRemapped cls index = false) ∧ (s.trackers cls = [])) ((allUp State.reset).setFlag R.INTG_CTL F.INTG_CTL_SCRUB true) 3 7 .corrected := by decide
theorem meets_IntegrityScrubAndTest_scrubRead_3 : (fun (s : State) (cls index : Nat) (finding : ScrubFinding) => (cls < 11) ∧ (s.flag R.INTG_CTL F.INTG_CTL_SCRUB = true) ∧ (s.up (classDomain cls index) = true) ∧ (s.scrubFinds cls index finding = 2)) ((allUp State.reset).setFlag R.INTG_CTL F.INTG_CTL_SCRUB true) 3 7 .uncorrectable := by decide
theorem meets_IntegrityScrubAndTest_remapFree_4 : (fun (s : State) (cls e : Nat) => (cls < 11) ∧ (e < 16)) (State.reset) 3 7 := by decide
theorem meets_IntegrityScrubAndTest_remapFree_5 : (fun (s : State) (cls e : Nat) (v : Word) => (cls < 11) ∧ (e < 16) ∧ (v ≠ 0)) (State.reset) 3 7 1 := by decide
theorem meets_IntegrityScrubAndTest_bist_6 : (fun (s : State) => (s.splitWrite = false) ∧ (s.layerArmed = false)) (State.reset) := by decide
theorem meets_IntegrityScrubAndTest_bist_7 : (fun (s : State) => (s.splitWrite = false) ∧ (s.layerArmed = true)) (runAt) := by decide
theorem meets_IntegrityScrubAndTest_bistDone_8 : (fun (s : State) (failed : Nat) => (s.flag R.INTG_STAT F.INTG_STAT_BISTBUSY = true)) (State.reset.setFlag R.INTG_STAT F.INTG_STAT_BISTBUSY true) 0x405 := by decide
theorem meets_IntegrityScrubAndTest_bistDone_9 : (fun (s : State) (failed b : Nat) => (s.flag R.INTG_STAT F.INTG_STAT_BISTBUSY = true) ∧ (b < 16) ∧ (b ∈ (((List.range 11).filter s.up).flatMap domainCheckers)) ∧ (bitAt failed b = true)) ((allUp State.reset).setFlag R.INTG_STAT F.INTG_STAT_BISTBUSY true) 8 3 := by decide
theorem meets_IntegrityScrubAndTest_bistDone_10 : (fun (s : State) (failed : Nat) => (s.flag R.INTG_STAT F.INTG_STAT_BISTBUSY = true) ∧ ((failing (((List.range 11).filter s.up).flatMap domainCheckers) failed) = [])) (State.reset.setFlag R.INTG_STAT F.INTG_STAT_BISTBUSY true) 0 := by decide
theorem meets_IntegrityScrubAndTest_splitWriteArm : (fun (s : State) (v : Word) => (s.splitWrite = true) ∧ (s.layerArmed = false)) ({ State.reset with variant := .t16 }) 1 := by decide
theorem meets_IntegrityScrubAndTest_splitResidue_12 : (fun (s : State) (v : Word) => (s.splitWrite = true) ∧ (s.layerArmed = false) ∧ (field F.INTG_SPLIT_RES_GO v = 1) ∧ (field F.INTG_SPLIT_RES_UNIT v = 1) ∧ (field F.INTG_SPLIT_RES_AXIS v < 3)) ({ State.reset with variant := .t16 }) (withField F.INTG_SPLIT_RES_UNIT (withField F.INTG_SPLIT_RES_GO 0 1) 1) := by decide
theorem meets_IntegrityScrubAndTest_splitResidue_13 : (fun (s : State) (v : Word) => (s.splitWrite = false)) (State.reset) 1 := by decide

theorem meets_CalibrationGroups_calOpen_0 : (fun (s : State) (g : Nat) => (g < 7) ∧ (s.calState g = 0)) (calAt 0) 3 := by decide
theorem meets_CalibrationGroups_calOpen_1 : (fun (s : State) (g : Nat) => (g < 8) ∧ (g = 7 ∨ s.calState g ≠ 0)) (calAt 1) 3 := by decide
theorem meets_CalibrationGroups_calRepeat : (fun (s : State) (g : Nat) => (g < 7) ∧ (s.calState g = 1)) (calAt 1) 3 := by decide
theorem meets_CalibrationGroups_calAbort : (fun (s : State) (g : Nat) => (g < 7) ∧ (s.calState g ≠ 0)) (calAt 2) 3 := by decide
theorem meets_CalibrationGroups_calRestore : (fun (s : State) (g : Nat) => (g < 7) ∧ (s.calState g = 0) ∧ (s.layerArmed = false)) (calAt 0) 3 := by decide
theorem meets_CalibrationGroups_calApply_5 : (fun (s : State) (g : Nat) => (g < 7) ∧ (s.calState g = 2) ∧ (s.reg (R.CAL_G_CMPW g) = s.reg (R.CAL_G_WORDS g)) ∧ (s.reg (R.CAL_G_NDIS g) = 0) ∧ (s.reg (R.CAL_G_WORDS g) ≠ 0)) (((calAt 2).setReg (R.CAL_G_WORDS 3) 5).setReg (R.CAL_G_CMPW 3) 5) 3 := by decide
theorem meets_CalibrationGroups_calApply_6 : (fun (s : State) (g : Nat) => (g < 7) ∧ (s.calState g = 2) ∧ (s.reg (R.CAL_G_NDIS g) ≠ 0)) ((calAt 2).setReg (R.CAL_G_NDIS 3) 5) 3 := by decide
theorem meets_CalibrationGroups_calApplyEffect : (fun (s : State) (g : Nat) => (s.canon = true) ∧ (g < 7) ∧ (s.calState g = 3) ∧ ((s.cg g).effectAt < s.time.mt) ∧ (s.time.mt % servoU = 0) ∧ (s.layerArmed = false) ∧ (s.intg.planted = []) ∧ (g ≠ 5)) ({ (calAt 3).setReg 0x1830000 77 with time := { State.reset.time with mt := servoU } }) 3 := by decide
theorem meets_CalibrationGroups_pendingSetWrite_8 : (fun (s : State) (addr g u off : Nat) (v : Word) => (addr < 0x4000000) ∧ (addr % 4 = 0) ∧ (calPlace addr = some (g, u, off)) ∧ (u < s.calPresent g) ∧ (u < calUnits g) ∧ (calFields g off ≠ []) ∧ (s.calState g = 1) ∧ (s.splitWrite = false)) (calAt 1) 0x1830004 3 0 4 7 := by decide
theorem meets_CalibrationGroups_pendingSetWrite_9 : (fun (s : State) (addr g u off : Nat) (v : Word) => (addr < 0x4000000) ∧ (addr % 4 = 0) ∧ (calPlace addr = some (g, u, off)) ∧ (u < s.calPresent g) ∧ (u < calUnits g) ∧ (calFields g off ≠ []) ∧ (s.calState g = 2)) (calAt 2) 0x1830004 3 0 4 7 := by decide
theorem meets_CalibrationGroups_pendingSetWrite_10 : (fun (s : State) (addr g u off : Nat) (v : Word) => (addr < 0x4000000) ∧ (addr % 4 = 0) ∧ (calPlace addr = some (g, u, off)) ∧ (u < s.calPresent g) ∧ (u < calUnits g) ∧ (calFields g off ≠ []) ∧ (s.calState g = 3)) (calAt 3) 0x1830004 3 0 4 7 := by decide
theorem meets_CalibrationGroups_skewQualityWrite_11 : (fun (s : State) (ch t0 : Nat) => (ch < s.channels) ∧ ((s.hd ch).skewDue = some t0) ∧ (t0 ≤ s.time.mt)) (State.reset.modHd 2 fun h => { h with skewDue := some 0, arrivals := [(0, 9), (0, 4)] }) 2 0 := by decide
theorem meets_CalibrationGroups_skewQualityWrite_12 : (fun (s : State) (ch last : Nat) => (ch < s.channels)) (State.reset) 1 3 := by decide

theorem meets_VotesAndDeviceStates_stateRequest_0 : (fun (s : State) (src : Source) (v : Word) => ((field F.PWR_STATE_REQ v) < 5)) (State.reset) .host 2 := by decide
theorem meets_VotesAndDeviceStates_stateRequest_1 : (fun (s : State) (src : Source) (v : Word) => (5 ≤ (field F.PWR_STATE_REQ v))) (State.reset) .host 7 := by decide
theorem meets_VotesAndDeviceStates_hostvoteWrite_6 : (fun (s : State) (src : Source) (v : Word) => (src ≠ .host)) (State.reset) .hoop 5 := by decide
theorem meets_VotesAndDeviceStates_pwrForceWrite_8 : (fun (s : State) (src : Source) (v : Word) => (src ≠ .host)) (State.reset) .hoop 5 := by decide
theorem meets_VotesAndDeviceStates_clientVote_9 : (fun (s : State) (client d : Nat) => (2 ≤ client) ∧ (client < 14) ∧ (d = clientDomain client) ∧ (d < 11)) (State.reset) 4 8 := by decide
theorem meets_VotesAndDeviceStates_clientVote_10 : (fun (s : State) (client d : Nat) => (client < 14) ∧ (d < 11) ∧ (d ≠ clientDomain client ∨ client < 2)) (State.reset) 4 7 := by decide
theorem meets_VotesAndDeviceStates_holdTimeout : (fun (s : State) (q : Nat) => (s.pwr.target = some q) ∧ (2 ≤ q) ∧ (s.pwr.timedOut = false) ∧ (s.pwr.began + s.holdTo ≤ s.time.mt)) ({ pwrAt (fun p => { p with target := some 2 }) with time := { State.reset.time with mt := 10 ^ 18 } }) 2 := by decide
theorem meets_VotesAndDeviceStates_wakeBall_12 : (fun (s : State) => (s.pwr.target = none) ∧ (1 ≤ s.fld R.PWR_STATE F.PWR_STATE_CUR) ∧ (s.fld R.PWR_STATE F.PWR_STATE_CUR ≤ 3)) (State.reset.setFld R.PWR_STATE F.PWR_STATE_CUR 2) := by decide
theorem meets_VotesAndDeviceStates_wakeBall_13 : (fun (s : State) => (s.pwr.target = none) ∧ (s.fld R.PWR_STATE F.PWR_STATE_CUR = 4)) (State.reset.setFld R.PWR_STATE F.PWR_STATE_CUR 4) := by decide
theorem meets_VotesAndDeviceStates_pwrAlarmExpiry : (fun (s : State) (t0 : Nat) => (s.pwr.alarmAt = some t0) ∧ (t0 ≤ s.time.mt)) ((pwrAt fun p => { p with alarmAt := some 0 })) 0 := by decide
theorem meets_VotesAndDeviceStates_pwrPauseWrite_16 : (fun (s : State) (v : Word) => (field F.PWR_PAUSE_DUTY v = 0)) (State.reset) 0 := by decide
theorem meets_VotesAndDeviceStates_pwrPauseWrite_17 : (fun (s : State) (v : Word) => (field F.PWR_PAUSE_DUTY v ≠ 0)) (State.reset) (withField F.PWR_PAUSE_DUTY 0 3) := by decide

theorem meets_DomainsAndBudgets_domainDrop : (fun (s : State) (d : Nat) => (d < 11) ∧ (s.dropDue d = true) ∧ ((before d dropOrder).any s.dropDue = false)) ((State.reset.setFld R.PWR_DOM F.PWR_DOM_UP 4).setFld R.PWR_HOSTVOTE F.PWR_HOSTVOTE_DOM 0) 2 := by decide
theorem meets_DomainsAndBudgets_domainRaise_1 : (fun (s : State) (d : Nat) => (d < 11) ∧ (s.wanted d = true) ∧ (s.up d = false) ∧ (s.raising d = (0, 0)) ∧ ((List.range 11).any s.dropDue = false) ∧ ((before d raiseOrder).any s.raiseDue = false) ∧ (s.fld (R.PWR_DOM_BUD d) F.PWR_DOM_BUD_CORE ≠ 0) ∧ (s.fld (R.PWR_DOM_BUD d) F.PWR_DOM_BUD_PKG ≠ 0)) (((State.reset.setFld R.PWR_HOSTVOTE F.PWR_HOSTVOTE_DOM 64).setFld R.PWR_FWVOTE F.PWR_FWVOTE_DOM 0).setReg (R.PWR_DOM_BUD 6) 0x10001) 6 := by decide
theorem meets_DomainsAndBudgets_domainRaise_2 : (fun (s : State) (d since : Nat) => (d < 11) ∧ (s.wanted d = true) ∧ (s.up d = false) ∧ (s.raising d = (1, since)) ∧ (s.waits 0 (raiseReq d) = false) ∧ (s.waits 1 (raiseReq d) = false)) (pwrAt (fun p => { p with raising := [(6, (1, 0))], waits := [] }) (State.reset.setFld R.PWR_HOSTVOTE F.PWR_HOSTVOTE_DOM 64)) 6 0 := by decide
theorem meets_DomainsAndBudgets_domainUp_3 : (fun (s : State) (d failed : Nat) => (d < 11) ∧ ((s.raising d).1 = 2)) (pwrAt (fun p => { p with raising := [(6, (2, 0))] })) 6 0 := by decide
theorem meets_DomainsAndBudgets_domainUp_4 : (fun (s : State) (failed : Nat) => (bitAt s.pwr.pwren 11 = true)) (pwrAt (fun p => { p with pwren := 2 ^ 11 })) 0 := by decide
theorem meets_DomainsAndBudgets_pgoodTimeout : (fun (s : State) (d : Nat) => (d < 11) ∧ ((s.raising d).1 = 2) ∧ ((s.raising d).2 + s.pgoodTo ≤ s.time.mt)) ({ pwrAt (fun p => { p with raising := [(6, (2, 0))] }) with time := { State.reset.time with mt := 10 ^ 18 } }) 6 := by decide
theorem meets_DomainsAndBudgets_pgoodLoss_6 : (fun (s : State) (d low : Nat) => (d < 11) ∧ (s.up d = true) ∧ (2000 ≤ low)) (allUp State.reset) 6 2000 := by decide
theorem meets_DomainsAndBudgets_pgoodLoss_7 : (fun (s : State) (d low : Nat) => (d < 12) ∧ (low < 2000)) (allUp State.reset) 6 1999 := by decide
theorem meets_DomainsAndBudgets_pgoodLoss_8 : (fun (s : State) (low : Nat) => (bitAt s.pwr.pgood 11 = true) ∧ (2000 ≤ low)) (pwrAt (fun p => { p with pgood := 2 ^ 11 })) 2000 := by decide
theorem meets_DomainsAndBudgets_budgetGrant_9 : (fun (s : State) (b : Nat) (r : BudReq) (rest : List BudReq) => (b = 0 ∨ b = 1) ∧ (32 ≤ r.who) ∧ (nextBudReq (s.waiting b) = some (r, rest)) ∧ (r.amount ≤ s.budLimit b) ∧ (s.grantedSum b + r.amount ≤ s.budLimit b)) (pwrAt (fun p => { p with waits := [(1, [⟨38, 5, 0, false⟩])] }) (State.reset.setFld (R.PWR_BUD_LIM 1) F.PWR_BUD_LIM_LIM 0xFFFF)) 1 ⟨38, 5, 0, false⟩ [] := by decide
theorem meets_DomainsAndBudgets_budgetGrant_10 : (fun (s : State) (k : Nat) (r : BudReq) (rest : List BudReq) => (k < 4) ∧ (r.who = 16 + k) ∧ (nextBudReq (s.waiting 3) = some (r, rest)) ∧ (r.amount ≤ s.budLimit 3) ∧ (s.grantedSum 3 + r.amount ≤ s.budLimit 3)) (pwrAt (fun p => { p with waits := [(3, [⟨17, 5, 0, false⟩])] }) (State.reset.setFld (R.PWR_BUD_LIM 3) F.PWR_BUD_LIM_LIM 0xFFFF)) 1 ⟨17, 5, 0, false⟩ [] := by decide
theorem meets_DomainsAndBudgets_shutdownDomainDrop : (fun (s : State) (t0 : Nat) => (s.hk.shutAt = some t0) ∧ (t0 + ticksU 25000 ≤ s.time.mt) ∧ (s.pwr.pwren ≠ 0)) ({ allUp (pwrAt fun p => { p with pwren := 2 ^ 11 - 1 }) with hk := { State.reset.hk with shutAt := some 0 }, time := { State.reset.time with mt := 10 ^ 18 } }) 0 := by decide

theorem meets_HousekeepingRounds_housekeepingRound_0 : (fun (s : State) (r : HkReadings) (i : Nat) (x : Int) => (s.fld R.PWR_STATE F.PWR_STATE_CUR ≠ 4) ∧ (s.hk.roundAt = 0 ∨ s.hk.roundAt - 1 + nsU 1024000 ≤ s.time.mt) ∧ (i < 40) ∧ (nth r.temps i none = some x) ∧ (-640 ≤ x) ∧ (x ≤ 2400) ∧ (s.sensorFailed i = false)) (State.reset) (hkOne (some 400)) 0 400 := by decide
theorem meets_HousekeepingRounds_housekeepingRound_1 : (fun (s : State) (r : HkReadings) (i : Nat) => (s.fld R.PWR_STATE F.PWR_STATE_CUR ≠ 4) ∧ (s.hk.roundAt = 0 ∨ s.hk.roundAt - 1 + nsU 1024000 ≤ s.time.mt) ∧ (i < 40) ∧ (nth r.temps i none = none) ∧ (s.sensorFailed i = false)) (State.reset) (hkOne none) 0 := by decide
theorem meets_HousekeepingRounds_housekeepingRound_2 : (fun (s : State) (r : HkReadings) (i : Nat) (x : Int) => (s.fld R.PWR_STATE F.PWR_STATE_CUR ≠ 4) ∧ (s.hk.roundAt = 0 ∨ s.hk.roundAt - 1 + nsU 1024000 ≤ s.time.mt) ∧ (i < 36) ∧ (nth r.temps i none = some x) ∧ (2000 ≤ x) ∧ (x ≤ 2400) ∧ (s.sensorFailed i = false) ∧ (bitAt s.hk.above i = true) ∧ (s.hk.shutAt = none)) ({ State.reset with hk := { State.reset.hk with above := 1 } }) (hkOne (some 2000)) 0 2000 := by decide
theorem meets_HousekeepingRounds_housekeepingRound_3 : (fun (s : State) (x : Int) (i : Nat) => (s.fld R.PWR_STATE F.PWR_STATE_CUR ≠ 4) ∧ (s.hk.roundAt = 0 ∨ s.hk.roundAt - 1 + nsU 1024000 ≤ s.time.mt) ∧ (36 ≤ i) ∧ (i < 40) ∧ (2000 ≤ x) ∧ (x ≤ 2400) ∧ (s.sensorFailed i = false) ∧ (bitAt s.hk.above i = true) ∧ (s.hk.shutAt = none)) ({ State.reset with hk := { State.reset.hk with above := 2 ^ 37 } }) 2000 37 := by decide

theorem meets_CaveRecorder_caveRecordWrite_0 : (fun (s : State) (r : CaveRec) (rest : List CaveRec) => (s.flag R.CAVE_STAT F.CAVE_STAT_READY = true) ∧ (s.cave.clearRec = none) ∧ (s.cave.crit = r :: rest)) (caveAt fun c => { c with crit := [caveR 5 true] }) (caveR 5 true) [] := by decide
theorem meets_CaveRecorder_caveRecordWrite_1 : (fun (s : State) (r : CaveRec) (rest : List CaveRec) => (s.flag R.CAVE_STAT F.CAVE_STAT_READY = true) ∧ (s.cave.clearRec = none) ∧ (s.cave.crit = []) ∧ (s.caveHeld = false) ∧ (s.cave.queue = r :: rest) ∧ (r.crit = false) ∧ (s.fld R.CAVE_LOST F.CAVE_LOST_COUNT = 0)) (caveAt fun c => { c with queue := [caveR 0x8005 false] }) (caveR 0x8005 false) [] := by decide
theorem meets_CaveRecorder_caveScanDone : (fun (s : State) => (s.flag R.CAVE_STAT F.CAVE_STAT_READY = false)) (State.reset) := by decide
theorem meets_CaveRecorder_cavePost_3 : (fun (s : State) (src : Source) (v : Word) => (0x8000 ≤ field F.CAVE_WR_CODE_CODE v) ∧ (field F.CAVE_WR_CODE_POST v = 1) ∧ (s.cave.queue.length < 64)) (caveAt) .hoop (withField F.CAVE_WR_CODE_POST (withField F.CAVE_WR_CODE_CODE 0 0x8001) 1) := by decide
theorem meets_CaveRecorder_cavePost_4 : (fun (s : State) (src : Source) (v : Word) => (0x8000 ≤ field F.CAVE_WR_CODE_CODE v) ∧ (field F.CAVE_WR_CODE_POST v = 1) ∧ (64 ≤ s.cave.queue.length)) (caveAt fun c => { c with queue := List.replicate 64 (caveR 0x8005 false) }) .hoop (withField F.CAVE_WR_CODE_POST (withField F.CAVE_WR_CODE_CODE 0 0x8001) 1) := by decide
theorem meets_CaveRecorder_cavePost_5 : (fun (s : State) (src : Source) (v : Word) => (field F.CAVE_WR_CODE_CODE v < 0x8000)) (State.reset) .host 0x10 := by decide
theorem meets_CaveRecorder_caveFreeze : (fun (s : State) => (s.flag R.CAVE_STAT F.CAVE_STAT_FROZEN = false)) (caveAt) := by decide
theorem meets_CaveRecorder_caveReadFetch_8 : (fun (s : State) (v : Word) => (s.flag R.CAVE_STAT F.CAVE_STAT_FROZEN = true)) (caveAt.setFlag R.CAVE_STAT F.CAVE_STAT_FROZEN true) 3 := by decide
theorem meets_CaveRecorder_caveReadFetch_9 : (fun (s : State) (v : Word) => (s.flag R.CAVE_STAT F.CAVE_STAT_FROZEN = false)) (caveAt) 3 := by decide
theorem meets_CaveRecorder_caveFetchDone : (fun (s : State) (age : Nat) => (s.cave.fetch = some age)) (caveAt fun c => { c with fetch := some 2 }) 2 := by decide

theorem meets_CaveClearAndKey_caveProvision_0 : (fun (s : State) => (s.flag R.CAVE_STAT F.CAVE_STAT_KEYSET = false) ∧ (s.regBytes (R.CAVE_KEY 0) 8 ≠ zeros 32)) (State.reset.setReg (R.CAVE_KEY 0) 9) := by decide
theorem meets_CaveClearAndKey_caveProvision_1 : (fun (s : State) => (s.flag R.CAVE_STAT F.CAVE_STAT_KEYSET = true)) (State.reset.setFlag R.CAVE_STAT F.CAVE_STAT_KEYSET true) := by decide
theorem meets_CaveClearAndKey_challengeExpiry : (fun (s : State) (t0 : Nat) => (s.cave.chalAt = some t0) ∧ (t0 + challengeU ≤ s.time.mt)) ({ caveAt (fun c => { c with chalAt := some 0 }) with time := { State.reset.time with mt := 10 ^ 18 } }) 0 := by decide
theorem meets_CaveClearAndKey_clear_4 : (fun (s : State) (src : Source) => (s.clearCode = 0)) (clearWit) .host := by decide +kernel
theorem meets_CaveClearAndKey_clear_5 : (fun (s : State) (src : Source) => (s.clearCode ≠ 0) ∧ (s.cave.queue.length < 64)) (State.reset) .host := by decide
theorem meets_CaveClearAndKey_caveRecordWrite : (fun (s : State) (r : CaveRec) => (s.flag R.CAVE_STAT F.CAVE_STAT_READY = true) ∧ (s.cave.clearRec = some r) ∧ (s.epoch < 0xFFFF)) (caveAt fun c => { c with clearRec := some (caveR 0xD true) }) (caveR 0xD true) := by decide
theorem meets_CaveClearAndKey_caveClearDone : (fun (s : State) (k : Nat) => (s.flag R.CAVE_STAT F.CAVE_STAT_CLEARING = true) ∧ (s.cave.clearRec = none) ∧ (k < slots)) ((caveAt fun c => { c with die := [(64 * 5 + 3, 7)] }).setFlag R.CAVE_STAT F.CAVE_STAT_CLEARING true) 5 := by decide

theorem meets_DeviceResets_softwareWarmReset_2 : (fun (s : State) (v : Word) => (field F.BOOT_RST_CMD v = 0xA5)) (runAt) 0xA5 := by decide
theorem meets_DeviceResets_softwareWarmReset_3 : (fun (s : State) (v : Word) => (field F.BOOT_RST_CMD v ≠ 0xA5)) (State.reset) 1 := by decide
theorem meets_DeviceResets_vddAonLoss_6 : (fun (s : State) => (s.caveWriting = true)) (caveAt fun c => { c with crit := [caveR 5 true] }) := by decide
theorem meets_DeviceResets_vddAonLoss_7 : (fun (s : State) => (s.caveWriting = false)) (State.reset) := by decide

theorem meets_BootAndSafeState_boot_0 : (fun (s : State) (slotA slotB : Option (List Byte)) => (s.fld R.BOOT_STAT F.BOOT_STAT_STAGE = 0) ∧ (s.up dMGMT = true) ∧ (s.slotCode slotA = 0)) (allUp State.reset) (some imageBytes) none := by decide
theorem meets_BootAndSafeState_boot_1 : (fun (s : State) (slotA slotB : Option (List Byte)) (b : List Byte) => (s.fld R.BOOT_STAT F.BOOT_STAT_STAGE = 0) ∧ (s.up dMGMT = true) ∧ (slotA = some b) ∧ (s.slotCode slotA = 0)) (allUp State.reset) (some imageBytes) none imageBytes := by decide +kernel
theorem meets_BootAndSafeState_boot_2 : (fun (s : State) (slotA slotB : Option (List Byte)) => (s.fld R.BOOT_STAT F.BOOT_STAT_STAGE = 0) ∧ (s.up dMGMT = true) ∧ (s.slotCode slotA ≠ 0) ∧ (s.slotCode slotB = 0)) (allUp State.reset) none (some imageBytes) := by decide
theorem meets_BootAndSafeState_boot_3 : (fun (s : State) (slotA slotB : Option (List Byte)) => (s.fld R.BOOT_STAT F.BOOT_STAT_STAGE = 0) ∧ (s.up dMGMT = true) ∧ (s.slotCode slotA ≠ 0) ∧ (s.slotCode slotB ≠ 0)) (allUp State.reset) none none := by decide
theorem meets_BootAndSafeState_stagingWrite_4 : (fun (s : State) (addr : Nat) (v : Word) => (stagingBase ≤ addr) ∧ (addr < stagingBase + stagingSize) ∧ (addr % 4 = 0) ∧ (s.fld R.BOOT_STAT F.BOOT_STAT_STAGE = 3)) (stagedImage) 0x1E00010 9 := by decide +kernel
theorem meets_BootAndSafeState_stagingWrite_5 : (fun (s : State) (addr : Nat) (v : Word) => (stagingBase ≤ addr) ∧ (addr < stagingBase + stagingSize) ∧ (addr % 4 = 0) ∧ (s.fld R.BOOT_STAT F.BOOT_STAT_STAGE ≠ 3)) (State.reset) 0x1E00010 9 := by decide
theorem meets_BootAndSafeState_bootGo_6 : (fun (s : State) => (s.fld R.BOOT_STAT F.BOOT_STAT_STAGE = 3) ∧ (s.imageCode s.stagedBytes = 0)) (stagedImage) := by decide +kernel
theorem meets_BootAndSafeState_bootGo_7 : (fun (s : State) => (s.fld R.BOOT_STAT F.BOOT_STAT_STAGE = 3) ∧ (s.imageCode s.stagedBytes ≠ 0)) (State.reset.setFld R.BOOT_STAT F.BOOT_STAT_STAGE 3) := by decide
theorem meets_BootAndSafeState_bootProvision_8 : (fun (s : State) => (s.flag R.BOOT_STAT F.BOOT_STAT_KEYSET = false) ∧ (s.regBytes (R.BOOT_PK 0) 8 ≠ zeros 32)) (State.reset.setReg (R.BOOT_PK 0) 9) := by decide
theorem meets_BootAndSafeState_bootProvision_9 : (fun (s : State) => (s.flag R.BOOT_STAT F.BOOT_STAT_KEYSET = true)) (State.reset.setFlag R.BOOT_STAT F.BOOT_STAT_KEYSET true) := by decide
theorem meets_BootAndSafeState_kick_11 : (fun (s : State) (k : Fin 4) (v : Word) => (field F.BOOT_HB_VAL v = (s.fld R.BOOT_HB F.BOOT_HB_VAL + 1) % 256)) (State.reset) 1 1 := by decide
theorem meets_BootAndSafeState_kick_12 : (fun (s : State) (k : Fin 4) (v : Word) => (field F.BOOT_HB_VAL v ≠ (s.fld R.BOOT_HB F.BOOT_HB_VAL + 1) % 256) ∧ (s.boot.badRun + 1 ≠ 8)) (State.reset) 1 9 := by decide
theorem meets_BootAndSafeState_kick_13 : (fun (s : State) (k : Fin 4) (v : Word) => (field F.BOOT_HB_VAL v ≠ (s.fld R.BOOT_HB F.BOOT_HB_VAL + 1) % 256) ∧ (s.boot.badRun = 7) ∧ (s.ssc = 1)) (sscAt 1 fun b => { b with badRun := 7 }) 1 9 := by decide
theorem meets_BootAndSafeState_heartbeatWindowEnd : (fun (s : State) (t0 : Nat) => (s.boot.windowAt = some t0) ∧ (t0 ≤ s.time.mt) ∧ (s.ssc = 1)) (sscAt 1 fun b => { b with windowAt := some 0 }) 0 := by decide
theorem meets_BootAndSafeState_safeEnter_16 : (fun (s : State) (src : Source) => (s.ssc = 1)) (sscAt 1) .hoop := by decide
theorem meets_BootAndSafeState_safeEnter_17 : (fun (s : State) (src : Source) => (2 ≤ s.ssc)) (sscAt 2) .hoop := by decide
theorem meets_BootAndSafeState_xtalLoss : (fun (s : State) => (s.ssc < 2)) (State.reset) := by decide
theorem meets_BootAndSafeState_safeNToggle : (fun (s : State) => (s.ssc = 1) ∧ (s.resetOn = false) ∧ (s.boot.safeEdgeAt + 16 * xtalU ≤ s.time.mt)) ({ sscAt 1 with time := { State.reset.time with mt := 10 ^ 18 } }) := by decide

theorem meets_AbsentUnitsAccesses_absentUnitAccess_0 : (fun (s : State) (src : Source) (addr : Nat) (write : Bool) => (addr < 0x4000000) ∧ (addr % 4 = 0) ∧ (s.absentAt addr = true) ∧ (write = false)) (smallPart) .hoop 0x109000 false := by decide
theorem meets_AbsentUnitsAccesses_absentUnitAccess_1 : (fun (s : State) (src : Source) (addr : Nat) (write : Bool) => (addr < 0x4000000) ∧ (addr % 4 = 0) ∧ (s.absentAt addr = true) ∧ (write = true)) (smallPart) .hoop 0x109000 true := by decide
theorem meets_AbsentUnitsAccesses_wideReadLow : (fun (s : State) (src : Source) (addr : Nat) => (addr < 0x4000000) ∧ (addr % 4 = 0) ∧ (s.absentAt addr = true)) (smallPart) .hoop 0x109000 := by decide
theorem meets_AbsentUnitsAccesses_wideReadUpper : (fun (s : State) (src : Source) (addr : Nat) => (addr < 0x4000000) ∧ (addr % 4 = 0) ∧ (s.absentAt addr = true)) (smallPart) .hoop 0x109000 := by decide
theorem meets_AbsentUnitsAccesses_wideWriteUpper : (fun (s : State) (src : Source) (addr : Nat) (v : Word) => (addr < 0x4000000) ∧ (addr % 4 = 0) ∧ (s.absentAt addr = true)) (smallPart) .hoop 0x109000 3 := by decide
theorem meets_AbsentUnitsAccesses_wideWriteLow : (fun (s : State) (src : Source) (addr : Nat) (v : Word) => (addr < 0x4000000) ∧ (addr % 4 = 0) ∧ (s.absentAt addr = true)) (smallPart) .hoop 0x109000 3 := by decide
theorem meets_AbsentUnitsAccesses_registerWrite : (fun (s : State) (src : Source) (addr : Nat) (v : Word) => (addr < 0x4000000) ∧ (addr % 4 = 0) ∧ (s.absentAt addr = true)) (smallPart) .hoop 0x109000 3 := by decide

theorem meets_RegisterFabric_registerWrite_5 : (fun (s : State) (src : Source) (addr : Nat) (v : Word) => (addr < 0x280000) ∧ (addr % 4 = 0) ∧ (s.absentAt addr = false) ∧ (wideAt addr = none) ∧ (regAt addr = none)) (State.reset) .host 0x12FFF0 9 := by decide
theorem meets_RegisterFabric_absentAccessClear_6 : (fun (s : State) (v : Word) => (field F.GLB_STAT_ABSENT_ACCESS v = 1)) (State.reset.setReg R.GLB_STAT 1) 1 := by decide
theorem meets_RegisterFabric_absentAccessClear_7 : (fun (s : State) (v : Word) => (field F.GLB_STAT_ABSENT_ACCESS v = 0)) (State.reset) 2 := by decide
theorem meets_RegisterFabric_absentUnitAccess : (fun (s : State) (src : Source) (addr : Nat) (write : Bool) => (addr < 0x4000000) ∧ (addr % 4 = 0) ∧ (s.absentAt addr = false)) (State.reset) .hoop 0x101000 true := by decide
theorem meets_RegisterFabric_registerWrite_9 : (fun (s : State) (src : Source) (addr : Nat) (v : Word) => (addr < 0x4000000) ∧ (addr % 4 = 0)) (State.reset) .host 0x120000 9 := by decide
theorem meets_RegisterFabric_wideReadLow_10 : (fun (s : State) (src : Source) (addr : Nat) => (addr < 0x4000000) ∧ (addr % 4 = 0)) (State.reset) .host 0x120000 := by decide
theorem meets_RegisterFabric_wideReadUpper_11 : (fun (s : State) (src : Source) (addr : Nat) => (addr < 0x4000000) ∧ (addr % 4 = 0)) (State.reset) .host 0x120000 := by decide
theorem meets_RegisterFabric_wideWriteUpper_12 : (fun (s : State) (src : Source) (addr : Nat) (v : Word) => (addr < 0x4000000) ∧ (addr % 4 = 0)) (State.reset) .host 0x120000 9 := by decide
theorem meets_RegisterFabric_wideWriteLow_13 : (fun (s : State) (src : Source) (addr : Nat) (v : Word) => (addr < 0x4000000) ∧ (addr % 4 = 0)) (State.reset) .host 0x120000 9 := by decide
theorem meets_RegisterFabric_wideReadLow_14 : (fun (s : State) (src : Source) (addr : Nat) (n : Nat) => (addr < 0x4000000) ∧ (addr % 4 = 0) ∧ (s.absentAt addr = false) ∧ (wideAt addr = some (n, 0))) (allUp runAt) (.core 2) R.SEQ_GRP_S_LO 2 := by decide
theorem meets_RegisterFabric_wideReadLow_15 : (fun (s : State) (src : Source) => (s.up dSEQ = true)) (allUp runAt) (.core 2) := by decide
theorem meets_RegisterFabric_wideReadUpper_16 : (fun (s : State) (src : Source) (addr : Nat) (n p : Nat) => (addr < 0x4000000) ∧ (addr % 4 = 0) ∧ (s.absentAt addr = false) ∧ (wideAt addr = some (n, p + 1))) (State.reset) (.core 2) R.SEQ_GRP_S_HI 2 0 := by decide
theorem meets_RegisterFabric_wideWriteUpper_17 : (fun (s : State) (src : Source) (addr : Nat) (v : Word) (n p : Nat) => (addr < 0x4000000) ∧ (addr % 4 = 0) ∧ (s.absentAt addr = false) ∧ (wideAt addr = some (n, p + 1))) (State.reset) (.core 2) R.SEQ_GRP_MSTART_SEC_LO 9 4 1 := by decide
theorem meets_RegisterFabric_wideWriteLow_18 : (fun (s : State) (src : Source) (addr : Nat) (v : Word) (n : Nat) => (addr < 0x4000000) ∧ (addr % 4 = 0) ∧ (s.absentAt addr = false) ∧ (wideAt addr = some (n, 0))) (State.reset) (.core 2) R.SEQ_GRP_MSTART_FRAC 9 4 := by decide
theorem meets_RegisterFabric_fieldTableWrite_20 : (fun (s : State) (addr : Nat) (v : Word) => (0x2800000 ≤ addr) ∧ (addr < 0x3000000) ∧ (addr % 4 = 0) ∧ ((addr - 0x2800000) / 0x40000 < s.channels) ∧ (s.chState ((addr - 0x2800000) / 0x40000) ≤ 1) ∧ ((addr - 0x2800000) % 0x40000 < 199692) ∧ (s.splitWrite = false)) (State.reset) 0x2880008 9 := by decide
theorem meets_RegisterFabric_fieldTableWrite_21 : (fun (s : State) (addr : Nat) (v : Word) => (0x2800000 ≤ addr) ∧ (addr < 0x3000000) ∧ (addr % 4 = 0) ∧ ((addr - 0x2800000) / 0x40000 < s.channels) ∧ (1 < s.chState ((addr - 0x2800000) / 0x40000))) (runAt) 0x2800008 9 := by decide

theorem meets_RemoteRequests_rreqReceived_0 : (fun (s : State) (p q off : Nat) (k : Packet) (v : Nat) => (p < s.hoopLanes) ∧ (s.carries p = true) ∧ (k.cls = 0x20) ∧ (k.bcast = false) ∧ (k.dst = s.devid) ∧ (leAt k.payload 0 4 = off + 2 ^ 31 * 1) ∧ (leAt k.payload 4 4 = v) ∧ (off < 2 ^ 26) ∧ (s.route k.src = some q) ∧ (s.flag R.HOOP_CTL F.HOOP_CTL_RRA_WR = false)) ((routed State.reset).setFlag R.HOOP_CTL F.HOOP_CTL_RRA_WR false) 0 0 R.SEQ_GRP_PMASK (rreqPk R.SEQ_GRP_PMASK true 9) 9 := by decide
theorem meets_RemoteRequests_rreqReceived_1 : (fun (s : State) (p q off : Nat) (k : Packet) (v : Nat) => (p < s.hoopLanes) ∧ (s.carries p = true) ∧ (k.cls = 0x20) ∧ (k.bcast = false) ∧ (k.dst = s.devid) ∧ (leAt k.payload 0 4 = off + 2 ^ 31 * 1) ∧ (leAt k.payload 4 4 = v) ∧ (off < 2 ^ 26) ∧ (s.route k.src = some q) ∧ (s.flag R.HOOP_CTL F.HOOP_CTL_RRA_WR = true) ∧ (off = R.SEQ_GRP_PMASK)) ((routed State.reset).setFlag R.HOOP_CTL F.HOOP_CTL_RRA_WR true) 0 0 R.SEQ_GRP_PMASK (rreqPk R.SEQ_GRP_PMASK true 9) 9 := by decide
theorem meets_RemoteRequests_rreqReceived_2 : (fun (s : State) (p q off : Nat) (k : Packet) (v : Nat) => (p < s.hoopLanes) ∧ (s.carries p = true) ∧ (k.cls = 0x20) ∧ (k.bcast = false) ∧ (k.dst = s.devid) ∧ (leAt k.payload 0 4 = off + 2 ^ 31 * 0) ∧ (leAt k.payload 4 4 = v) ∧ (off < 2 ^ 26) ∧ (s.route k.src = some q) ∧ (s.flag R.HOOP_CTL F.HOOP_CTL_RRA_RD = false)) ((routed State.reset).setFlag R.HOOP_CTL F.HOOP_CTL_RRA_RD false) 0 0 R.SEQ_GRP_PMASK (rreqPk R.SEQ_GRP_PMASK false 0) 0 := by decide
theorem meets_RemoteRequests_rreqReceived_3 : (fun (s : State) (p q off : Nat) (k : Packet) (v : Nat) => (p < s.hoopLanes) ∧ (s.carries p = true) ∧ (k.cls = 0x20) ∧ (k.bcast = false) ∧ (k.dst = s.devid) ∧ (leAt k.payload 0 4 = off + 2 ^ 31 * 0) ∧ (leAt k.payload 4 4 = v) ∧ (off < 2 ^ 26) ∧ (s.route k.src = some q) ∧ (s.flag R.HOOP_CTL F.HOOP_CTL_RRA_RD = true) ∧ (off = R.SEQ_GRP_PMASK)) ((routed State.reset).setFlag R.HOOP_CTL F.HOOP_CTL_RRA_RD true) 0 0 R.SEQ_GRP_PMASK (rreqPk R.SEQ_GRP_PMASK false 0) 0 := by decide

theorem meets_BlockResets_motBlockReset : (fun (s : State) (a : Nat) => (s.canon = true) ∧ (0x3C0000 ≤ a) ∧ (a < 0x3D0000)) (axisAt 2) 0x3C1024 := by decide
theorem meets_BlockResets_fbkBlockReset : (fun (s : State) (a : Nat) => (s.canon = true) ∧ (0x3D0000 ≤ a) ∧ (a < 0x3E0000)) (State.reset.modFb 0 fun q => { q with a := true }) 0x3D1004 := by decide
theorem meets_BlockResets_camBlockReset : (fun (s : State) (a : Nat) => (s.canon = true) ∧ (0x340000 ≤ a) ∧ (a < 0x380000) ∧ (s.camPorts ≠ 0)) (camAt 1 []) 0x341000 := by decide
theorem meets_BlockResets_dmaBlockReset : (fun (s : State) (a : Nat) => (s.canon = true) ∧ (0x2C0000 ≤ a) ∧ (a < 0x300000) ∧ (∀ k ∈ List.range 16, (s.dc k).cur = none)) (dmaAt 1 ⟨none, [], [], []⟩) 0x2C1000 := by decide
theorem meets_BlockResets_ethBlockReset : (fun (s : State) (a : Nat) => (s.canon = true) ∧ (0x290000 ≤ a) ∧ (a < 0x2C0000)) (ethAt) 0x291000 := by decide
theorem meets_BlockResets_ddrBlockReset : (fun (s : State) (a : Nat) => (s.canon = true) ∧ (0x300000 ≤ a) ∧ (a < 0x340000)) (dramUp State.reset) 0x300004 := by decide
theorem meets_BlockResets_calBlockReset : (fun (s : State) (a : Nat) => (s.canon = true) ∧ (0x40000 ≤ a) ∧ (a < 0x50000)) (calAt 2) 0x40100 := by decide
theorem meets_BlockResets_hkBlockReset : (fun (s : State) (a : Nat) => (s.canon = true) ∧ (0x20000 ≤ a) ∧ (a < 0x30000)) (State.reset.setReg 0x20010 7) 0x20010 := by decide
theorem meets_BlockResets_stiBlockReset_8 : (fun (s : State) (a : Nat) => (s.canon = true) ∧ (0x1C0000 ≤ a) ∧ (a < 0x200000) ∧ (s.layerArmed = false)) (State.reset) 0x1C1000 := by decide
theorem meets_BlockResets_stiBlockReset_9 : (fun (s : State) => (s.layerArmed = true)) (runAt) := by decide
theorem meets_BlockResets_lgtBlockReset : (fun (s : State) (k : Nat) => (s.hasLight = true) ∧ (k < 4096)) ( (allUp State.reset).setReg R.LGT_CTL 1) 3 := by decide
theorem meets_BlockResets_hoopBlockReset : (fun (s : State) (p : Nat) => (p < s.hoopLanes)) (portOn State.reset) 0 := by decide
theorem meets_BlockResets_laneBlockReset : (fun (s : State) (l : Nat) => (l < 40) ∧ (s.lanePresent l = true)) (laneAt 3 5) 3 := by decide
theorem meets_BlockResets_hlBlockReset : (fun (s : State) (n : Nat) => (s.canon = true) ∧ (n < s.channels)) (laneAt 3 5) 3 := by decide
theorem meets_BlockResets_intgBlockReset_14 : (fun (s : State) (a : Nat) => (s.canon = true) ∧ (0x50000 ≤ a) ∧ (a < 0x60000) ∧ (a ≠ R.INTG_BIST)) (State.reset) 0x50000 := by decide
theorem meets_BlockResets_pwrBlockReset_16 : (fun (s : State) (src : Source) => (s.canon = true) ∧ (src = .host)) (State.reset) .host := by decide
theorem meets_BlockResets_pwrBlockReset_17 : (fun (s : State) (src : Source) => (src ≠ .host)) (State.reset) .hoop := by decide

end Sys2Proof.Tests
end

/-!
# Scope: what a step is, and what every step keeps
-/

namespace Sys2Proof.Machine

/- With this option Lean elaborates the proofs below one after another. In parallel they wait for each other, every
waiting thread holds 256 MB of stack, and beside the threads that the model's files start the check's memory limit
leaves room for about one more. -/
set_option deprecated.oldSectionVars true

/-! ### A step -/

theorem step_of_pending_cons {s : State} {c : Instr} {rest : List Instr} (h : s.pending = c :: rest) :
    step s = exec c { s with pending := rest } := by
  simp only [step, h]

theorem step_of_pending_nil {s : State} (h : s.pending = []) : step s = .next s.tick := by
  simp only [step, h]

/-- A clock period can change no more than a command can, and keeps the canonical forms. -/
theorem keeps_tick_movable (s : State) : Keeps movable s s.tick :=
  keeps_State_tick (subParts (List.Subset.refl _) rfl) (Keeps.refl _ s)

/-- A step is a step of its command, or a clock period, from the state without the front command. -/
theorem keeps_step {s t : State} (h : step s = .next t) : Keeps movable { s with pending := s.pending.tail } t := by
  cases hp : s.pending with
  | nil =>
    have e : s.tick = t := by simpa [step_of_pending_nil hp] using h
    have es : { s with pending := [] } = s := by rw [← hp]
    rw [List.tail_nil, es, ← e]
    exact keeps_tick_movable s
  | cons c rest =>
    rw [step_of_pending_cons hp] at h
    exact (keeps_exec c _).next t h

/-- Settles O1: the queue's front command is what `step` runs. -/
theorem stepRunsFrontCommand : Obligations.StepRunsFrontCommand :=
  fun _ _ _ h => step_of_pending_cons h

/-- Settles O3: no command can touch the queue or the variant, and the step itself takes one command off the queue. -/
theorem stepTakesOneCommandOnly : Obligations.StepTakesOneCommandOnly := by
  intro s t h
  have k := (keeps_step h).only
  exact ⟨k .pending (by decide), k .variant (by decide)⟩

/-- Settles O4: the canonical form does not look at the queue, and every meaning and the clock period keep it. -/
theorem stepKeepsCanonicalForm : Obligations.StepKeepsCanonicalForm :=
  fun _ _ hc h => (keeps_step h).canon hc

/-! ### Accesses to absent units (R4, R5) -/

/-- An access at a, a write or a read, has been captured from s to t: the flag is up, an address captured before stays, a new one is
taken, and no other register is touched. -/
def Captured (s t : State) (a : Nat) (w : Bool) : Prop :=
  t.flag R.GLB_STAT F.GLB_STAT_ABSENT_ACCESS = true ∧
  (s.flag R.GLB_STAT F.GLB_STAT_ABSENT_ACCESS = true → t.reg R.GLB_ABSENT_ADDR = s.reg R.GLB_ABSENT_ADDR) ∧
  (s.flag R.GLB_STAT F.GLB_STAT_ABSENT_ACCESS = false →
    t.fld R.GLB_ABSENT_ADDR F.GLB_ABSENT_ADDR_OFFSET = a ∧ t.fld R.GLB_ABSENT_ADDR F.GLB_ABSENT_ADDR_WRITE = w.toNat) ∧
  RegsBut [R.GLB_STAT, R.GLB_ABSENT_ADDR] s t

theorem captured_absent (s : State) (src : Source) {a : Nat} (w : Bool) (ha : a < 0x4000000) : Captured s (s.absent src a w) a w := by
  cases hf : s.flag R.GLB_STAT F.GLB_STAT_ABSENT_ACCESS with
  | true =>
    have e : s.absent src a w = s := by simp [State.absent, hf]
    rw [e]
    exact ⟨hf, fun _ => rfl, fun h => by simp [hf] at h, fun _ _ => rfl⟩
  | false =>
    simp only [State.absent, hf, Bool.false_eq_true, if_false]
    refine ⟨?_, fun h => by simp [hf] at h, fun _ => ⟨?_, ?_⟩, fun b hb => ?_⟩
    · have := State.flag_setFlag_same s R.GLB_STAT F.GLB_STAT_ABSENT_ACCESS true (by decide) (by decide)
      simp only [State.flag, State.fld, State.reg_setReg_ne _ R.GLB_ABSENT_ADDR R.GLB_STAT _ (by decide)] at this ⊢
      exact this
    · simp only [State.fld, State.reg_setReg_same]
      rw [field_withField_ne _ _ _ _ (by decide) (by decide), field_withField_ne _ _ _ _ (by decide) (by decide),
        field_withField_same _ _ _ (by decide)]
      exact Nat.mod_eq_of_lt ha
    · simp only [State.fld, State.reg_setReg_same]
      rw [field_withField_ne _ _ _ _ (by decide) (by decide), field_withField_same _ _ _ (by decide)]
      cases w <;> rfl
    · obtain ⟨h1, h2⟩ : b ≠ R.GLB_STAT ∧ b ≠ R.GLB_ABSENT_ADDR := by simpa using hb
      rw [State.reg_setReg_ne _ _ _ _ h2, State.reg_setFlag_ne _ _ _ _ _ h1]

/-- The data that a read answers is no register. -/
theorem Captured.with_readData {s t : State} {a : Nat} {w : Bool} (v : Word) (h : Captured s t a w) :
    Captured s { t with readData := v } a w := h

theorem State.only_absent (s : State) (src : Source) (a : Nat) (w : Bool) : Only [.regs] s (s.absent src a w) :=
  (keeps_State_absent (List.Subset.refl _) src a w (Keeps.refl _ s)).only

theorem State.only_absent_read (s : State) (src : Source) (a : Nat) :
    Only [.regs, .readData] s { s.absent src a false with readData := 0 } :=
  (Keeps.upd_readData (by decide) (keeps_State_absent (by decide) src a false (Keeps.refl _ s))).only

theorem busRead_absent {s : State} {src : Source} {a : Nat} (h : s.absentAt a = true) :
    s.busRead src a = (0, s.absent src a false) := by
  simp [State.busRead, h]

theorem busWrite_absent {s : State} {src : Source} {a : Nat} {v : Word} (h : s.absentAt a = true) :
    s.busWrite src a v = s.absent src a true := by
  simp [State.busWrite, h]

/-! ### What the accesses of the fabric answer (R12, R14) -/

/-- The answer to a read: the fabric's state, with the data read. -/
def State.readBy (s : State) (src : Source) (a : Nat) : State :=
  { (s.busRead src a).2 with readData := (s.busRead src a).1 }

theorem exec_absentUnitAccess {s : State} {src : Source} {a : Nat} {w : Bool} (h : a < 0x4000000) (h4 : a % 4 = 0) :
    exec (.absentUnitAccess src a w) s =
      .next (if s.absentAt a then (if w then s.absent src a w else { s.absent src a w with readData := 0 }) else s) :=
  onAddr_next h h4

theorem exec_wideReadLow {s : State} {src : Source} {a : Nat} (h : a < 0x4000000) (h4 : a % 4 = 0) :
    exec (.wideReadLow src a) s = .next (s.readBy src a) :=
  (onAddr_next (f := fun s => match s.busRead src a with | (v, t) => { t with readData := v }) h h4).trans rfl

theorem exec_wideReadUpper {s : State} {src : Source} {a : Nat} (h : a < 0x4000000) (h4 : a % 4 = 0) :
    exec (.wideReadUpper src a) s = .next (s.readBy src a) :=
  (onAddr_next (f := fun s => match s.busRead src a with | (v, t) => { t with readData := v }) h h4).trans rfl

theorem exec_wideWriteUpper {s : State} {src : Source} {a : Nat} {v : Word} (h : a < 0x4000000) (h4 : a % 4 = 0) :
    exec (.wideWriteUpper src a v) s = .next (s.busWrite src a v) := onAddr_next h h4

theorem exec_wideWriteLow {s : State} {src : Source} {a : Nat} {v : Word} (h : a < 0x4000000) (h4 : a % 4 = 0) :
    exec (.wideWriteLow src a v) s = .next (s.busWrite src a v) := onAddr_next h h4

theorem exec_registerWrite {s : State} {src : Source} {a : Nat} {v : Word} (h : a < 0x4000000) (h4 : a % 4 = 0) :
    exec (.registerWrite src a v) s = .next (s.busWrite src a v) := onAddr_next h h4

theorem readBy_absent {s : State} {src : Source} {a : Nat} (h : s.absentAt a = true) :
    s.readBy src a = { s.absent src a false with readData := 0 } := by
  rw [State.readBy, busRead_absent h]

/-- Settles O57: every access to an absent unit ends in the one capture `State.absent`. -/
theorem absentUnitsAccesses : Obligations.AbsentUnitsAccesses := by
  refine ⟨?_, ?_, ?_, ?_, ?_, ?_, ?_⟩
  · rintro s src a _ h h4 ha rfl
    exact ⟨_, by rw [exec_absentUnitAccess h h4, if_pos ha, if_neg Bool.false_ne_true], s.only_absent_read src a, rfl, (captured_absent s src false h).with_readData 0⟩
  · rintro s src a _ h h4 ha rfl
    exact ⟨_, by rw [exec_absentUnitAccess h h4, if_pos ha, if_pos rfl], s.only_absent src a true, captured_absent s src true h⟩
  · intro s src a h h4 ha
    exact ⟨_, by rw [exec_wideReadLow h h4, readBy_absent ha], s.only_absent_read src a, rfl, (captured_absent s src false h).with_readData 0⟩
  · intro s src a h h4 ha
    exact ⟨_, by rw [exec_wideReadUpper h h4, readBy_absent ha], s.only_absent_read src a, rfl, (captured_absent s src false h).with_readData 0⟩
  · intro s src a v h h4 ha
    exact ⟨_, by rw [exec_wideWriteUpper h h4, busWrite_absent ha], s.only_absent src a true, captured_absent s src true h⟩
  · intro s src a v h h4 ha
    exact ⟨_, by rw [exec_wideWriteLow h h4, busWrite_absent ha], s.only_absent src a true, captured_absent s src true h⟩
  · intro s src a v h h4 ha
    exact ⟨_, by rw [exec_registerWrite h h4, busWrite_absent ha], s.only_absent src a true, captured_absent s src true h⟩

/-! ### Words and fields -/

/-- A field of all 32 bits holds what is written. -/
theorem withField_full (w v : Word) : withField ⟨0, 32⟩ w (field ⟨0, 32⟩ v) = v := by
  apply BitVec.eq_of_toNat_eq
  rw [toNat_withField _ _ _ (by decide)]
  have hv := v.isLt
  have hw := w.isLt
  simp only [field, Nat.shiftRight_zero]
  omega

/-- A one-bit mask meets the field that begins at its bit. -/
theorem field_or_fieldMask_ne_zero (f : Field) (w : Word) (h : f.lo + f.width ≤ 32) (h1 : 1 ≤ f.width) :
    field f (w ||| BitVec.ofNat 32 (fieldMask f)) ≠ 0 := by
  have hm : (fieldMask f).testBit f.lo = true := by simp [fieldMask, Nat.testBit_shiftLeft]; omega
  have hb : (field f (w ||| BitVec.ofNat 32 (fieldMask f))).testBit 0 = true := by
    have hlt : f.lo < 32 := by omega
    simp only [field, BitVec.toNat_or, BitVec.toNat_ofNat, Nat.testBit_mod_two_pow, Nat.testBit_shiftRight, Nat.testBit_or, Nat.add_zero, hm]
    simp [hlt]
    omega
  intro h0
  simp [h0] at hb

/-- Raising a flag sets it. -/
theorem State.flag_raise_same (s : State) (a : Nat) (f : Field) (h : f.lo + f.width ≤ 32) (h1 : 1 ≤ f.width) :
    (s.raise a f).flag a f = true := by
  simp [State.flag, State.fld, State.reg_raise, field_or_fieldMask_ne_zero f _ h h1]

theorem State.regsBut_raise (s : State) (a : Nat) (f : Field) : RegsBut [a] s (s.raise a f) := by
  intro b hb
  exact State.reg_raise_ne s a b f (by simpa using hb)

theorem State.only_raise (s : State) (a : Nat) (f : Field) : Only irqParts s (s.raise a f) :=
  (keeps_State_raise (by decide) a f (Keeps.refl _ s)).only

/-- W1C fields clear, of their bits, those that are set and written with 1 (R12). -/
theorem foldl_takeField_w1c (old v w : Word) (fs : List FieldDef) (h : ∀ f ∈ fs, f.access = .w1c) :
    fs.foldl (takeField old v) w = w &&& ~~~(old &&& v &&& fs.foldr (fun f m => word (fieldMask f.place) ||| m) 0) := by
  induction fs generalizing w with
  | nil =>
    rw [List.foldl_nil, List.foldr_nil, BitVec.ofNat_eq_ofNat, BitVec.and_zero, BitVec.not_zero, BitVec.and_allOnes]
  | cons f fs ih =>
    have hf : takeField old v w f = w &&& ~~~(old &&& v &&& word (fieldMask f.place)) := by
      simp [takeField, h f (by simp)]
    rw [List.foldl_cons, ih _ fun g hg => h g (by simp [hg]), hf, List.foldr_cons]
    ext i hi
    simp only [BitVec.getElem_and, BitVec.getElem_not, BitVec.getElem_or]
    cases w[i] <;> cases old[i] <;> cases v[i] <;> simp

/-! ### A plain register write (R12, R13, R357) -/

/-- The fields of the register at an offset, where the offset is the register's base. -/
def fieldsAt (a : Nat) : Option (List FieldDef) := (regAt a).bind fun h => if h.reg.base = a then some h.reg.fields else none

theorem regAt_of_fieldsAt {a : Nat} {fs : List FieldDef} (h : fieldsAt a = some fs) :
    ∃ hit, regAt a = some hit ∧ hit.reg.base = a ∧ hit.reg.fields = fs := by
  obtain ⟨hit, hr, hb⟩ := Option.bind_eq_some_iff.mp h
  by_cases hc : hit.reg.base = a
  · exact ⟨hit, hr, hc, by simpa [hc] using hb⟩
  · simp [hc] at hb

theorem irqWritten_reg (l : List IrqRow) (s : State) (a : Nat) : (irqWritten l s).reg a = s.reg a := by
  rw [irqWritten_frame]; rfl

/-- A plain write gives the register at a what its fields take, and no other register anything. -/
theorem State.reg_plainWrite (s : State) {a : Nat} (b : Nat) (v : Word) {fs : List FieldDef} (h : fieldsAt a = some fs) :
    (s.plainWrite a v).reg b = if b = a then fs.foldl (takeField (s.reg a) v) (s.reg a) else s.reg b := by
  obtain ⟨hit, hr, -, rfl⟩ := regAt_of_fieldsAt h
  simp only [State.plainWrite, hr, irqWritten_reg, State.reg_setReg]

theorem State.regsBut_plainWrite (s : State) {a : Nat} (v : Word) {fs : List FieldDef} (h : fieldsAt a = some fs) :
    RegsBut [a] s (s.plainWrite a v) := by
  intro b hb
  rw [s.reg_plainWrite b v h, if_neg (by simpa using hb)]

theorem State.staged_plainWrite (s : State) (a : Nat) (v : Word) : (s.plainWrite a v).staged = s.staged :=
  (keeps_State_plainWrite (List.Subset.refl _) a v (Keeps.refl _ s)).part .staged rfl

/-! ### Registers of the group unit that take plain writes -/

/-- A state of each variant: which units are absent depends on nothing else (R2, R4). -/
def ofVariant (v : Variant) : State := { State.reset with variant := v }

theorem absentAt_ofVariant (s : State) (a : Nat) : s.absentAt a = (ofVariant s.variant).absentAt a := rfl

/-- An offset lies in no absent unit's window, on any variant. -/
abbrev everPresent (a : Nat) : Prop := ∀ v ∈ [Variant.t32f, .t32s, .t16, .t08], (ofVariant v).absentAt a = false

theorem absentAt_of_everPresent {a : Nat} (h : everPresent a) (s : State) : s.absentAt a = false := by
  rw [absentAt_ofVariant]
  exact h _ (by cases s.variant <;> decide)

/-- An offset of the group unit whose register takes writes by its access types alone. -/
abbrev plainGrp (a : Nat) : Prop :=
  0x120000 ≤ a ∧ a < 0x140000 ∧ a % 4 = 0 ∧
    a ∉ [R.SEQ_GRP_CMD, R.SEQ_GRP_CTL, R.SEQ_GRP_STAT, R.SEQ_EVT_CTL, R.SEQ_EVT_BASE, R.SEQ_EVT_RD]

theorem writeWord_plainGrp (s : State) (src : Source) {a : Nat} (v : Word) {fs : List FieldDef} (h : fieldsAt a = some fs)
    (hp : plainGrp a) : s.writeWord src a v = s.plainWrite a v := by
  obtain ⟨hit, hr, hb, -⟩ := regAt_of_fieldsAt h
  obtain ⟨hlo, hhi, h4, hn⟩ := hp
  simp only [List.mem_cons, List.not_mem_nil, or_false, not_or] at hn
  obtain ⟨n1, n2, n3, n4, n5, n6⟩ := hn
  have hw : s.writeWord src a v = s.writeReg src a hit v := by simp [State.writeWord, h4, hr]
  have hg : s.writeReg src a hit v = s.busGrp a a v := by
    have below (c : Nat) (hc : c ≤ 0x120000) : ¬ a < c := by omega
    simp [State.writeReg, hb, below, hhi]
  rw [hw, hg]
  simp only [State.busGrp, n1, n2, n3, n4, n5, n6, if_false]

/-- A write of a word that is no part of a wide value, in the window of a present unit. -/
theorem busWrite_narrow {s : State} {src : Source} {a : Nat} {v : Word} (h : s.absentAt a = false) (hw : wideAt a = none) :
    s.busWrite src a v = s.writeWord src a v := by
  simp [State.busWrite, h, hw]

theorem busWrite_plainGrp (s : State) (src : Source) {a : Nat} (v : Word) {fs : List FieldDef} (h : fieldsAt a = some fs)
    (hp : plainGrp a) (he : everPresent a) (hw : wideAt a = none) : s.busWrite src a v = s.plainWrite a v := by
  rw [busWrite_narrow (absentAt_of_everPresent he s) hw, writeWord_plainGrp s src v h hp]


/-! ### The fabric's accesses and what they can change -/

/-- The parts that a write through the fabric can change. -/
def writeParts : List Part :=
  [.regs, .dram, .l2, .shadow, .staged, .grp, .armUndo, .chan, .srvAx, .srvCh, .srv, .lsr, .hoop, .port, .bulk, .dom, .time, .mot, .fbk, .cam,
    .pipe, .lgt, .strobe, .lane, .head, .dma, .dmaEng, .pci, .eth, .ddr, .intg, .cal, .pwr, .cave, .boot, .xbar, .free, .out]

/-- The parts that a read through the fabric can change. -/
def readParts : List Part := [.regs, .dram, .shadow, .readData, .grp, .pci, .ddr, .intg, .free, .out]

theorem only_busWrite (s : State) (src : Source) (a : Nat) (v : Word) : Only writeParts s (s.busWrite src a v) :=
  (keeps_State_busWrite (List.Subset.refl _) src a v (Keeps.refl _ s)).only

theorem only_readBy (s : State) (src : Source) (a : Nat) : Only readParts s (s.readBy src a) :=
  (Keeps.upd_readData (by decide) (keeps_State_busRead (by decide) src a (Keeps.refl _ s))).only

/-- A write of a register of the group unit: its fields take the value, and no other register changes. -/
theorem registerWrite_plainGrp (s : State) (src : Source) {a : Nat} (v : Word) {fs : List FieldDef} (h : fieldsAt a = some fs)
    (hp : plainGrp a) (he : everPresent a) (hw : wideAt a = none) :
    ∃ t, exec (.registerWrite src a v) s = .next t ∧ Only writeParts s t ∧
      t.reg a = fs.foldl (takeField (s.reg a) v) (s.reg a) ∧ RegsBut [a] s t := by
  have ha : a < 0x4000000 := by have := hp.2.1; omega
  refine ⟨_, exec_registerWrite ha hp.2.2.1, only_busWrite s src a v, ?_, ?_⟩
  · rw [busWrite_plainGrp s src v h hp he hw, s.reg_plainWrite a v h, if_pos rfl]
  · rw [busWrite_plainGrp s src v h hp he hw]
    exact s.regsBut_plainWrite v h

/-- Where the one field of a register ends, its upper bits stay. -/
theorem withField_low_ushiftRight (w : Word) (n v : Nat) (h : n ≤ 32) : withField ⟨0, n⟩ w v >>> n = w >>> n := by
  apply BitVec.eq_of_toNat_eq
  rw [BitVec.toNat_ushiftRight, BitVec.toNat_ushiftRight, toNat_withField _ _ _ (by simpa using h), Nat.shiftRight_eq_div_pow,
    Nat.shiftRight_eq_div_pow]
  have hlt : v % 2 ^ n < 2 ^ n := Nat.mod_lt _ (by positivity)
  simp only [Nat.zero_add, Nat.pow_zero, Nat.mul_one, Nat.mod_one, Nat.add_zero]
  rw [Nat.mul_comm, Nat.mul_add_div (by positivity), Nat.div_eq_of_lt hlt, Nat.add_zero]

/-- R12: the write of an interrupt status clears its bits that are written with 1. -/
theorem registerWrite_TIM_ISR (s : State) (src : Source) (v : Word) :
    ∃ t, exec (.registerWrite src R.TIM_ISR v) s = .next t ∧ Only writeParts s t ∧
      t.reg R.TIM_ISR = s.reg R.TIM_ISR &&& ~~~(v &&& 0x7F) ∧ RegsBut [R.TIM_ISR] s t := by
  have hp : everPresent R.TIM_ISR := by decide
  have hf : fieldsAt R.TIM_ISR = some ((List.range 7).map fun i => ⟨⟨i, 1⟩, .w1c, 0⟩) := by decide
  have hw : s.busWrite src R.TIM_ISR v = s.plainWrite R.TIM_ISR v := by
    rw [busWrite_narrow (absentAt_of_everPresent hp s) (by decide)]
    rfl
  refine ⟨_, exec_registerWrite (by decide) (by decide), only_busWrite s src _ v, ?_, ?_⟩
  · rw [hw, s.reg_plainWrite _ v hf, if_pos rfl, foldl_takeField_w1c _ _ _ _ (by decide)]
    have hm : (((List.range 7).map fun i => (⟨⟨i, 1⟩, .w1c, 0⟩ : FieldDef)).foldr (fun f m => word (fieldMask f.place) ||| m) 0) = 0x7F := by
      decide
    rw [hm]
    ext i hi
    simp only [BitVec.getElem_and, BitVec.getElem_not]
    cases (s.reg R.TIM_ISR)[i] <;> simp
  · rw [hw]
    exact s.regsBut_plainWrite v hf

theorem registerWrite_SEQ_GRP_PMASK (s : State) (src : Source) (v : Word) :
    ∃ t, exec (.registerWrite src R.SEQ_GRP_PMASK v) s = .next t ∧ Only writeParts s t ∧
      t.reg R.SEQ_GRP_PMASK = v ∧ RegsBut [R.SEQ_GRP_PMASK] s t := by
  obtain ⟨t, e, ho, hr, hb⟩ :=
    registerWrite_plainGrp s src v (a := R.SEQ_GRP_PMASK) (fs := [⟨⟨0, 32⟩, .rw, 0⟩]) (by decide) (by decide) (by decide) (by decide)
  exact ⟨t, e, ho, hr.trans (withField_full _ v), hb⟩

theorem registerWrite_SEQ_GRP_LAYER (s : State) (src : Source) (v : Word) :
    ∃ t, exec (.registerWrite src R.SEQ_GRP_LAYER v) s = .next t ∧ Only writeParts s t ∧
      t.reg R.SEQ_GRP_LAYER = v ∧ RegsBut [R.SEQ_GRP_LAYER] s t := by
  obtain ⟨t, e, ho, hr, hb⟩ :=
    registerWrite_plainGrp s src v (a := R.SEQ_GRP_LAYER) (fs := [⟨⟨0, 32⟩, .rws, 0⟩]) (by decide) (by decide) (by decide) (by decide)
  exact ⟨t, e, ho, hr.trans (withField_full _ v), hb⟩

theorem registerWrite_SEQ_GRP_RESUME (s : State) (src : Source) (v : Word) :
    ∃ t, exec (.registerWrite src R.SEQ_GRP_RESUME v) s = .next t ∧ Only writeParts s t ∧
      t.fld R.SEQ_GRP_RESUME F.SEQ_GRP_RESUME_INDEX = v.toNat % 65536 ∧
      t.reg R.SEQ_GRP_RESUME >>> 16 = s.reg R.SEQ_GRP_RESUME >>> 16 ∧ RegsBut [R.SEQ_GRP_RESUME] s t := by
  obtain ⟨t, e, ho, hr, hb⟩ :=
    registerWrite_plainGrp s src v (a := R.SEQ_GRP_RESUME) (fs := [⟨⟨0, 16⟩, .rw, 0⟩]) (by decide) (by decide) (by decide) (by decide)
  have hr : t.reg R.SEQ_GRP_RESUME = withField ⟨0, 16⟩ (s.reg R.SEQ_GRP_RESUME) (field ⟨0, 16⟩ v) := hr
  refine ⟨t, e, ho, ?_, ?_, hb⟩
  · rw [State.fld, hr]
    exact (field_withField_same _ _ _ (by decide)).trans (Nat.mod_mod _ _)
  · rw [hr, withField_low_ushiftRight _ _ _ (by decide)]

theorem registerWrite_SEQ_GRP_HOLDS (s : State) (src : Source) (v : Word) :
    ∃ t, exec (.registerWrite src R.SEQ_GRP_HOLDS v) s = .next t ∧ Only writeParts s t ∧ RegsBut [] s t := by
  obtain ⟨t, e, ho, hr, hb⟩ :=
    registerWrite_plainGrp s src v (a := R.SEQ_GRP_HOLDS) (fs := [⟨⟨0, 32⟩, .ro, 0⟩]) (by decide) (by decide) (by decide) (by decide)
  refine ⟨t, e, ho, fun b _ => ?_⟩
  by_cases h : b = R.SEQ_GRP_HOLDS
  · rw [h]; exact hr
  · exact hb b (by simpa using h)

/-- R13: a reserved offset below the tables ignores a write. -/
theorem writeWord_reserved {s : State} {src : Source} {a : Nat} {v : Word} (h : a < 0x280000) (hr : regAt a = none) :
    s.writeWord src a v = s := by
  have h1 : ¬(0x288000 ≤ a ∧ a < 0x288400) := by omega
  have h2 : ¬0x1000000 ≤ a := by omega
  simp [State.writeWord, hr, h1, h2]

theorem Only.refl (l : List Part) (s : State) : Only l s s := fun p _ => Same.rfl' p s

theorem only_setFlag (s : State) (a : Nat) (f : Field) (b : Bool) : Only [.regs] s (s.setFlag a f b) :=
  (keeps_State_setFlag (List.Subset.refl _) a f b (Keeps.refl _ s)).only

theorem regsBut_setFlag (s : State) (a : Nat) (f : Field) (b : Bool) : RegsBut [a] s (s.setFlag a f b) := fun c hc =>
  State.reg_setFlag_ne s a c f b (by simpa using hc)

/-- ABSENT_ACCESS_CLEAR writes the flag alone (R11). -/
theorem exec_absentAccessClear (s : State) (v : Word) :
    exec (.absentAccessClear v) s =
      .next (if field F.GLB_STAT_ABSENT_ACCESS v = 1 then s.setFlag R.GLB_STAT F.GLB_STAT_ABSENT_ACCESS false else s) := rfl

/-! ### Wide values (R14) -/

theorem srcKey_eq (src : Source) (p : Nat) : srcKey src p = srcKey src 0 + p := rfl

theorem srcKey_zero_mod (src : Source) : srcKey src 0 % 4 = 0 := by
  simp only [srcKey, Nat.add_zero]; exact Nat.mul_mod_right 4 _

/-- The four places of a source's shadow or staged words stand apart from each other and from every other source's. -/
theorem srcKey_div {p : Nat} (src : Source) (h : p < 4) : srcKey src p / 4 = srcKey src 0 / 4 := by
  have := srcKey_zero_mod src
  rw [srcKey_eq]; omega

theorem busRead_lowest {s : State} {src : Source} {a n : Nat} (h : s.absentAt a = false) (hw : wideAt a = some (n, 0)) :
    s.busRead src a = (s.latchUpper src a n).readWord a := by
  simp [State.busRead, h, hw]

theorem busRead_upper {s : State} {src : Source} {a n p : Nat} (h : s.absentAt a = false) (hw : wideAt a = some (n, p + 1)) :
    s.busRead src a = (tabGet (fun _ => 0) s.shadow (srcKey src (p + 1)), s) := by
  simp [State.busRead, h, hw]

theorem busWrite_upper {s : State} {src : Source} {a n p : Nat} {v : Word} (h : s.absentAt a = false)
    (hw : wideAt a = some (n, p + 1)) :
    s.busWrite src a v = { s with staged := tabSet (fun _ => 0) s.staged (srcKey src (p + 1)) v } := by
  simp [State.busWrite, h, hw]

theorem busWrite_lowest {s : State} {src : Source} {a n : Nat} {v : Word} (h : s.absentAt a = false)
    (hw : wideAt a = some (n, 0)) :
    s.busWrite src a v =
      (s.writeWord src a v).each ((List.range n).drop 1) fun p u => u.writeWord src (a + 4 * p) (u.stagedWord src p) := by
  simp [State.busWrite, h, hw]

/-- A change of the staged words alone. -/
theorem only_staged (s : State) (m : Tab Word) : Only [.staged] s { s with staged := m } := by
  intro p hp
  cases p <;> first | rfl | exact absurd (List.mem_singleton.mpr rfl) hp

theorem only_readData (s : State) (v : Word) : Only [.readData] s { s with readData := v } :=
  (Keeps.upd_readData (List.Subset.refl _) (Keeps.refl _ s)).only

/-! ### Schedule time, read as a wide value (R14, R20) -/

/-- While SEQ is up its read-only fields read as they are (R121). -/
theorem shown_ro_of_up {u : State} (h : u.up dSEQ = true) (a : Nat) (p : Field) (n : Nat) (v : Word) : u.shown a ⟨p, .ro, n⟩ v = v := by
  simp [State.shown, h]

/-- A register of one field that its unit keeps live reads as the live word. -/
theorem readWord_of_live {u : State} {a : Nat} {hit : RegHit} {f : FieldDef} {v : Word} (hr : regAt a = some hit)
    (hf : hit.reg.fields = [f]) (hs : u.sensed hit.reg.base hit.win = u)
    (hl : u.liveAon hit.reg.base hit.idx (u.liveUnit hit.reg.base hit.win (u.liveGroup hit.reg.base hit.win hit.idx (u.reg a))) = v)
    (hv : u.shown a f v = v) : u.readWord a = (v, u) := by
  simp only [State.readWord, hr, State.readReg, hs, hl, hf, List.foldl_cons, List.foldl_nil, hv]

/-- While SEQ is up the words of schedule time read as S. -/
theorem readWord_SEQ_GRP_S_LO {u : State} (h : u.up dSEQ = true) :
    u.readWord R.SEQ_GRP_S_LO = (word (u.grp.s % 2 ^ 32), u) := by
  have hr : regAt R.SEQ_GRP_S_LO = some ⟨⟨"SEQ_GRP_S_LO", R.SEQ_GRP_S_LO, 0, 1, 0, 1, [⟨⟨0, 32⟩, .ro, 0⟩]⟩, 0, 0⟩ := by decide
  exact readWord_of_live hr rfl rfl rfl (shown_ro_of_up h _ _ _ _)

theorem readWord_SEQ_GRP_S_HI {u : State} (h : u.up dSEQ = true) :
    u.readWord R.SEQ_GRP_S_HI = (word (u.grp.s / 2 ^ 32 % 65536), u) := by
  have hr : regAt R.SEQ_GRP_S_HI = some ⟨⟨"SEQ_GRP_S_HI", R.SEQ_GRP_S_HI, 0, 1, 0, 1, [⟨⟨0, 16⟩, .ro, 0⟩]⟩, 0, 0⟩ := by decide
  exact readWord_of_live hr rfl rfl rfl (shown_ro_of_up h _ _ _ _)

/-- The shadow words of a source after a read of schedule time: the upper word, and two that the value does not have. -/
def State.latchedS (s : State) (src : Source) : Tab Word :=
  tabSet (fun _ => 0) (tabSet (fun _ => 0) (tabSet (fun _ => 0) s.shadow (srcKey src 1) (word (s.grp.s / 2 ^ 32 % 65536)))
    (srcKey src 2) (Config.openWord s.free 2)) (srcKey src 3) (Config.openWord s.free 3)

theorem latchUpper_SEQ_GRP_S (s : State) (src : Source) (h : s.up dSEQ = true) :
    s.latchUpper src R.SEQ_GRP_S_LO 2 = { s with free := s.free + 1, shadow := s.latchedS src } := by
  have hi : ({ s with free := s.free + 1 } : State).readWord (R.SEQ_GRP_S_LO + 4 * 1) =
      (word (s.grp.s / 2 ^ 32 % 65536), { s with free := s.free + 1 }) :=
    readWord_SEQ_GRP_S_HI (u := { s with free := s.free + 1 }) h
  simp only [State.latchUpper, State.draw, State.each, List.foldl_cons, List.foldl_nil, hi]
  rfl

theorem readBy_SEQ_GRP_S_LO (s : State) (src : Source) (h : s.up dSEQ = true) :
    s.readBy src R.SEQ_GRP_S_LO =
      { s with free := s.free + 1, shadow := s.latchedS src, readData := word (s.grp.s % 2 ^ 32) } := by
  have hp : everPresent R.SEQ_GRP_S_LO := by decide
  have hr : ({ s with free := s.free + 1, shadow := s.latchedS src } : State).readWord R.SEQ_GRP_S_LO =
      (word (s.grp.s % 2 ^ 32), { s with free := s.free + 1, shadow := s.latchedS src }) :=
    readWord_SEQ_GRP_S_LO (u := { s with free := s.free + 1, shadow := s.latchedS src }) h
  rw [State.readBy, busRead_lowest (absentAt_of_everPresent hp s) (by decide : wideAt R.SEQ_GRP_S_LO = some (2, 0)),
    latchUpper_SEQ_GRP_S s src h, hr]

/-- A source's latch leaves the shadows of the others. -/
theorem latchedS_other (s : State) (src : Source) {k : Nat} (h : k / 4 ≠ srcKey src 0 / 4) :
    tabGet (fun _ => 0) (s.latchedS src) k = tabGet (fun _ => 0) s.shadow k := by
  have hk {p : Nat} (hp : p < 4) : k ≠ srcKey src p := fun e => h (by rw [e, srcKey_div src hp])
  rw [State.latchedS, tabGet_tabSet_ne _ _ _ _ _ (hk (by decide)), tabGet_tabSet_ne _ _ _ _ _ (hk (by decide)),
    tabGet_tabSet_ne _ _ _ _ _ (hk (by decide))]

theorem latchedS_upper (s : State) (src : Source) :
    tabGet (fun _ => 0) (s.latchedS src) (srcKey src 1) = word (s.grp.s / 2 ^ 32 % 65536) := by
  have h2 : srcKey src 1 ≠ srcKey src 2 := by rw [srcKey_eq src 1, srcKey_eq src 2]; omega
  have h3 : srcKey src 1 ≠ srcKey src 3 := by rw [srcKey_eq src 1, srcKey_eq src 3]; omega
  rw [State.latchedS, tabGet_tabSet_ne _ _ _ _ _ h3, tabGet_tabSet_ne _ _ _ _ _ h2, tabGet_tabSet_same]

theorem only_latchedS (s : State) (src : Source) (v : Word) :
    Only [.readData, .shadow, .free] s { s with free := s.free + 1, shadow := s.latchedS src, readData := v } := by
  intro p hp
  cases p <;> first | rfl | exact absurd (by decide) hp

/-! ### M_start, written as a wide value (R14, R128) -/

@[simp] theorem stagedWord_plainWrite (s : State) (src : Source) (a p : Nat) (v : Word) :
    (s.plainWrite a v).stagedWord src p = s.stagedWord src p := by
  rw [State.stagedWord, State.staged_plainWrite]; rfl

/-- The registers after M_start is written: its lowest word and the three staged words, each in its place. -/
def State.withMStart (s : State) (src : Source) (v : Word) : State :=
  (((s.plainWrite R.SEQ_GRP_MSTART_FRAC v).plainWrite R.SEQ_GRP_MSTART_NS (s.stagedWord src 1)).plainWrite
    R.SEQ_GRP_MSTART_SEC_LO (s.stagedWord src 2)).plainWrite R.SEQ_GRP_MSTART_SEC_HI (s.stagedWord src 3)

theorem fieldsAt_MSTART_FRAC : fieldsAt R.SEQ_GRP_MSTART_FRAC = some [⟨⟨0, 16⟩, .rw, 0⟩] := by decide
theorem fieldsAt_MSTART_NS : fieldsAt R.SEQ_GRP_MSTART_NS = some [⟨⟨0, 30⟩, .rw, 0⟩] := by decide
theorem fieldsAt_MSTART_SEC_LO : fieldsAt R.SEQ_GRP_MSTART_SEC_LO = some [⟨⟨0, 32⟩, .rw, 0⟩] := by decide
theorem fieldsAt_MSTART_SEC_HI : fieldsAt R.SEQ_GRP_MSTART_SEC_HI = some [⟨⟨0, 32⟩, .rw, 0⟩] := by decide

theorem busWrite_MSTART (s : State) (src : Source) (v : Word) : s.busWrite src R.SEQ_GRP_MSTART_FRAC v = s.withMStart src v := by
  have hp : everPresent R.SEQ_GRP_MSTART_FRAC := by decide
  have hl : (List.range 4).drop 1 = [1, 2, 3] := by decide
  rw [busWrite_lowest (absentAt_of_everPresent hp s) (by decide : wideAt R.SEQ_GRP_MSTART_FRAC = some (4, 0)), hl]
  simp only [State.each, List.foldl_cons, List.foldl_nil]
  rw [writeWord_plainGrp s src v fieldsAt_MSTART_FRAC (by decide),
    writeWord_plainGrp (a := R.SEQ_GRP_MSTART_FRAC + 4 * 1) _ src _ fieldsAt_MSTART_NS (by decide),
    writeWord_plainGrp (a := R.SEQ_GRP_MSTART_FRAC + 4 * 2) _ src _ fieldsAt_MSTART_SEC_LO (by decide),
    writeWord_plainGrp (a := R.SEQ_GRP_MSTART_FRAC + 4 * 3) _ src _ fieldsAt_MSTART_SEC_HI (by decide)]
  simp only [stagedWord_plainWrite]
  rfl

/-- M_start holds the word written and the words staged, and no other register changes. -/
theorem withMStart_regs (s : State) (src : Source) (v : Word) :
    (s.withMStart src v).fld R.SEQ_GRP_MSTART_FRAC F.SEQ_GRP_MSTART_FRAC_FRAC = v.toNat % 65536 ∧
    (s.withMStart src v).fld R.SEQ_GRP_MSTART_NS F.SEQ_GRP_MSTART_NS_NS = (s.stagedWord src 1).toNat % 2 ^ 30 ∧
    (s.withMStart src v).reg R.SEQ_GRP_MSTART_SEC_LO = s.stagedWord src 2 ∧
    (s.withMStart src v).reg R.SEQ_GRP_MSTART_SEC_HI = s.stagedWord src 3 ∧
    RegsBut [R.SEQ_GRP_MSTART_FRAC, R.SEQ_GRP_MSTART_NS, R.SEQ_GRP_MSTART_SEC_LO, R.SEQ_GRP_MSTART_SEC_HI] s (s.withMStart src v) := by
  have hi (u : State) (w : Word) (b : Nat) := u.reg_plainWrite b w fieldsAt_MSTART_SEC_HI
  have lo (u : State) (w : Word) (b : Nat) := u.reg_plainWrite b w fieldsAt_MSTART_SEC_LO
  have ns (u : State) (w : Word) (b : Nat) := u.reg_plainWrite b w fieldsAt_MSTART_NS
  have fr (u : State) (w : Word) (b : Nat) := u.reg_plainWrite b w fieldsAt_MSTART_FRAC
  rw [State.withMStart]
  refine ⟨?_, ?_, ?_, ?_, fun b hb => ?_⟩
  · rw [State.fld, hi, if_neg (by decide), lo, if_neg (by decide), ns, if_neg (by decide), fr, if_pos rfl]
    exact (field_withField_same _ _ _ (by decide)).trans (Nat.mod_mod _ _)
  · rw [State.fld, hi, if_neg (by decide), lo, if_neg (by decide), ns, if_pos rfl]
    exact (field_withField_same _ _ _ (by decide)).trans (Nat.mod_mod _ _)
  · rw [hi, if_neg (by decide), lo, if_pos rfl]
    exact withField_full _ _
  · rw [hi, if_pos rfl]
    exact withField_full _ _
  · simp only [List.mem_cons, List.not_mem_nil, or_false, not_or] at hb
    obtain ⟨h1, h2, h3, h4⟩ := hb
    rw [hi, if_neg h4, lo, if_neg h3, ns, if_neg h2, fr, if_neg h1]

/-! ### Field tables (R233) -/

/-- Outside split-write mode a table word takes the written value under its mask. -/
theorem tableStore_sound (s : State) (a m : Nat) (v : Word) (h : s.splitWrite = false) :
    (s.tableStore a m v).reg a = v &&& BitVec.ofNat 32 m ∧ RegsBut [a] s (s.tableStore a m v) := by
  have e : (s.tableStore a m v).regs = (s.setReg a (BitVec.ofNat 32 (v.toNat &&& m))).regs := by
    simp [State.tableStore, h]
  have hr (b : Nat) : (s.tableStore a m v).reg b = if b = a then v &&& BitVec.ofNat 32 m else s.reg b := by
    have hw : BitVec.ofNat 32 (v.toNat &&& m) = v &&& BitVec.ofNat 32 m := by
      apply BitVec.eq_of_toNat_eq
      rw [BitVec.toNat_and, BitVec.toNat_ofNat, BitVec.toNat_ofNat, Nat.and_mod_two_pow, Nat.mod_eq_of_lt v.isLt]
    rw [← hw, ← State.reg_setReg]
    simp only [State.reg, e]
  refine ⟨by rw [hr, if_pos rfl], fun b hb => ?_⟩
  rw [hr, if_neg (by simpa using hb)]

/-- FIELD_TABLE_WRITE to the table of a present channel. -/
theorem exec_fieldTableWrite {s : State} {addr : Nat} {v : Word} (hlo : 0x2800000 ≤ addr) (hhi : addr < 0x3000000) (h4 : addr % 4 = 0)
    (hn : (addr - 0x2800000) / 0x40000 < s.channels) :
    exec (.fieldTableWrite addr v) s = .next
      (if 1 < s.chState ((addr - 0x2800000) / 0x40000) then s.raise R.STI_ISR F.STI_ISR_REJ
       else if fieldMaskAt ((addr - 0x2800000) % 0x40000) = 0 then s
       else s.tableStore addr (fieldMaskAt ((addr - 0x2800000) % 0x40000)) v) := by
  have hout : ¬(addr < 0x2800000 ∨ 0x3000000 ≤ addr) := by omega
  have h32 : (addr - 0x2800000) / 0x40000 < 32 := Nat.lt_of_lt_of_le hn (channels_le s)
  have hx : exec (.fieldTableWrite addr v) s = execFieldTableWrite addr v s := rfl
  rw [hx, execFieldTableWrite, if_neg hout]
  simp only [onTable, onAddr_next (show addr < 0x4000000 by omega) h4, if_pos h32, if_pos hn]

theorem only_fieldTableWrite {s t : State} {addr : Nat} {v : Word} (h : exec (.fieldTableWrite addr v) s = .next t) :
    Only [.regs, .pci, .intg, .out] s t :=
  ((keeps_execFieldTableWrite (List.Subset.refl _) addr v (Keeps.refl _ s)).next t h).only

/-- Settles O58: the fabric's accesses are `busRead` and `busWrite`; a plain write is field by field, a wide value goes by its
source's shadow and staged words, a field table by its channel's state. -/
theorem registerFabric : Obligations.RegisterFabric := by
  refine ⟨registerWrite_SEQ_GRP_PMASK, registerWrite_SEQ_GRP_LAYER, registerWrite_SEQ_GRP_RESUME, registerWrite_TIM_ISR,
    registerWrite_SEQ_GRP_HOLDS, ?_, ?_, ?_, ?_, ?_, ?_, ?_, ?_, ?_, ?_, ?_, ?_, ?_, ?_, ?_, ?_, ?_⟩
  · intro s src a v h h4 ha hw hr
    have e : s.busWrite src a v = s := by rw [busWrite_narrow ha hw, writeWord_reserved h hr]
    exact ⟨s, by rw [exec_registerWrite (by omega) h4, e], Only.refl _ s, fun _ _ => rfl⟩
  · intro s v hv
    exact ⟨_, by rw [exec_absentAccessClear, if_pos hv], only_setFlag s _ _ _,
      State.flag_setFlag_same s _ _ false (by decide) (by decide), regsBut_setFlag s _ _ _⟩
  · intro s v hv
    exact ⟨s, by rw [exec_absentAccessClear, if_neg (by omega)], Only.refl _ s, rfl⟩
  · intro s src a w h h4 ha
    exact ⟨s, by rw [exec_absentUnitAccess h h4, if_neg (by simp [ha])], Only.refl _ s, rfl⟩
  · intro s src a v h h4
    exact ⟨_, exec_registerWrite h h4, only_busWrite s src a v, rfl⟩
  · intro s src a h h4
    exact ⟨_, exec_wideReadLow h h4, only_readBy s src a, rfl⟩
  · intro s src a h h4
    exact ⟨_, exec_wideReadUpper h h4, only_readBy s src a, rfl⟩
  · intro s src a v h h4
    exact ⟨_, exec_wideWriteUpper h h4, only_busWrite s src a v, rfl⟩
  · intro s src a v h h4
    exact ⟨_, exec_wideWriteLow h h4, only_busWrite s src a v, rfl⟩
  · intro s src a n h h4 ha hw
    exact ⟨_, exec_wideReadLow h h4, only_readBy s src a, by rw [State.readBy, busRead_lowest ha hw]⟩
  · intro s src h
    have e : exec (.wideReadLow src R.SEQ_GRP_S_LO) s = _ := exec_wideReadLow (by decide) (by decide)
    rw [readBy_SEQ_GRP_S_LO s src h] at e
    exact ⟨_, e, only_latchedS s src _, rfl,
      latchedS_upper s src, fun k _ hk => latchedS_other s src hk, fun _ _ => rfl⟩
  · intro s src a n p h h4 ha hw
    exact ⟨_, by rw [exec_wideReadUpper h h4, State.readBy, busRead_upper ha hw], only_readData s _, rfl, fun _ _ => rfl⟩
  · intro s src a v n p h h4 ha hw
    have e : exec (.wideWriteUpper src a v) s = _ := exec_wideWriteUpper h h4
    rw [busWrite_upper ha hw] at e
    exact ⟨_, e, only_staged s _, tabGet_tabSet_same _ _ _ _,
      fun k _ hk => tabGet_tabSet_ne _ _ _ _ _ hk, fun _ _ => rfl⟩
  · intro s src a v n h h4 ha hw
    exact ⟨_, exec_wideWriteLow h h4, only_busWrite s src a v, busWrite_lowest ha hw⟩
  · intro s src v
    exact ⟨_, exec_wideWriteLow (by decide) (by decide), only_busWrite s src _ v, by
      rw [busWrite_MSTART]; exact withMStart_regs s src v⟩
  · intro s a v hlo hhi h4 hn hst hoff hsp
    have hm : fieldMaskAt ((a - 0x2800000) % 0x40000) = 0xFFFFFFFF := if_pos hoff
    have e := exec_fieldTableWrite (v := v) hlo hhi h4 hn
    rw [if_neg (by omega), if_neg (by rw [hm]; decide)] at e
    exact ⟨_, e, only_fieldTableWrite e, tableStore_sound s a _ v hsp⟩
  · intro s a v hlo hhi h4 hn hst
    exact ⟨_, by rw [exec_fieldTableWrite hlo hhi h4 hn, if_pos hst], State.only_raise s _ _,
      State.flag_raise_same s _ _ (by decide) (by decide), State.regsBut_raise s _ _⟩

/-! ### Which registers an operation writes -/

section
variable {l : List Nat} {s t u : State}

theorem RegsBut.refl (l : List Nat) (s : State) : RegsBut l s s := fun _ _ => rfl

theorem RegsBut.trans (h : RegsBut l s t) (k : RegsBut l t u) : RegsBut l s u := fun a ha => (k a ha).trans (h a ha)

/-- A change outside the register table. -/
theorem RegsBut.of_regs (h : RegsBut l s t) (hr : u.regs = t.regs) : RegsBut l s u := fun a ha => by
  rw [← h a ha]
  simp only [State.reg, hr]

theorem RegsBut.ite {c : Prop} [Decidable c] (h : RegsBut l s t) (k : RegsBut l s u) : RegsBut l s (if c then t else u) := by
  split <;> assumption

theorem RegsBut.setReg {a : Nat} {v : Word} (h : RegsBut l s t) (ha : a ∈ l) : RegsBut l s (t.setReg a v) := fun b hb => by
  rw [State.reg_setReg_ne _ _ _ _ (ne_of_mem_of_not_mem ha hb).symm, h b hb]

theorem regsBut_setReg (s : State) (a : Nat) (v : Word) : RegsBut [a] s (s.setReg a v) := (RegsBut.refl _ s).setReg (by simp)

theorem RegsBut.setFld {a : Nat} {f : Field} {n : Nat} (h : RegsBut l s t) (ha : a ∈ l) : RegsBut l s (t.setFld a f n) := h.setReg ha

theorem RegsBut.setFlag {a : Nat} {f : Field} {b : Bool} (h : RegsBut l s t) (ha : a ∈ l) : RegsBut l s (t.setFlag a f b) := h.setReg ha

theorem RegsBut.satAdd {a : Nat} {f : Field} {n : Nat} (h : RegsBut l s t) (ha : a ∈ l) : RegsBut l s (t.satAdd a f n) := h.setReg ha

theorem RegsBut.raise {a : Nat} {f : Field} (h : RegsBut l s t) (ha : a ∈ l) : RegsBut l s (t.raise a f) := fun b hb => by
  rw [State.reg_raise_ne _ _ _ _ (ne_of_mem_of_not_mem ha hb).symm, h b hb]

theorem RegsBut.each {ns : List Nat} {f : Nat → State → State} (h : RegsBut l s t) (hf : ∀ n u, RegsBut l s u → RegsBut l s (f n u)) :
    RegsBut l s (t.each ns f) := by
  induction ns generalizing t with
  | nil => exact h
  | cons n ns ih => exact ih (hf n t h)

theorem RegsBut.fld {a : Nat} (h : RegsBut l s t) (ha : a ∉ l) (f : Field) : t.fld a f = s.fld a f := by
  rw [State.fld, h a ha, State.fld]

theorem RegsBut.flag {a : Nat} (h : RegsBut l s t) (ha : a ∉ l) (f : Field) : t.flag a f = s.flag a f := by
  rw [State.flag, h.fld ha f, State.flag]

theorem RegsBut.modGrp {f : Group → Group} (h : RegsBut l s t) : RegsBut l s (t.modGrp f) := h.of_regs rfl

theorem RegsBut.writeDram {off : Nat} {bs : List Byte} (h : RegsBut l s t) : RegsBut l s (t.writeDram off bs) :=
  h.of_regs ((keeps_State_writeDram (List.Subset.refl _) off bs (Keeps.refl _ t)).part .regs rfl)

/-! The registers that records write: of the event ring (R123, R126), of integrity (R402), of the Cave (R444, R446). -/

abbrev evtRegs : List Nat := [R.SEQ_EVT_WR, R.SEQ_GRP_ISR, R.SEQ_EVT_DROP]
abbrev caveIntegrityRegs : List Nat := [R.CAVE_SUPP, R.CAVE_LOST, R.CAVE_ISR]

theorem RegsBut.evtWrite {code chn stime d1 d2 : Nat} {cal : Stamp} (h : RegsBut l s t) (hl : evtRegs ⊆ l) :
    RegsBut l s (t.evtWrite code chn stime cal d1 d2) := by
  unfold State.evtWrite
  dsimp only
  have hw := (h.writeDram (off := t.evtAddr) (bs := recordBytes code chn t.grp.layer stime cal d1 d2))
  exact ((hw.setFld (hl (by decide))).raise (hl (by decide))).ite (hw.setFld (hl (by decide)))

theorem RegsBut.evtLose (h : RegsBut l s t) (hl : evtRegs ⊆ l) : RegsBut l s t.evtLose :=
  (h.satAdd (hl (by decide))).of_regs rfl

theorem RegsBut.postFull {code chn stime d1 d2 : Nat} {cal : Stamp} (h : RegsBut l s t) (hl : evtRegs ⊆ l) :
    RegsBut l s (t.postFull code chn stime cal d1 d2) := by
  unfold State.postFull
  dsimp only
  refine (h.evtLose hl).ite ((h.evtWrite hl).ite (RegsBut.ite (RegsBut.evtLose ?_ hl) (RegsBut.evtWrite ?_ hl)))
  all_goals exact (h.evtWrite hl).modGrp

theorem RegsBut.post {code chn d1 d2 : Nat} (h : RegsBut l s t) (hl : evtRegs ⊆ l) : RegsBut l s (t.post code chn d1 d2) :=
  h.postFull hl

theorem RegsBut.intgRecord {kind chn d1 cls : Nat} (h : RegsBut l s t) (hl : evtRegs ⊆ l) (hr : R.INTG_RECDROP ∈ l) :
    RegsBut l s (t.intgRecord kind chn d1 cls) := by
  unfold State.intgRecord
  dsimp only
  refine (h.satAdd hr).ite (RegsBut.post ?_ hl)
  exact h.of_regs rfl

theorem RegsBut.cavePost {code part src chn : Nat} {crit : Bool} {payload : List Byte} (h : RegsBut l s t)
    (hl : caveIntegrityRegs ⊆ l) : RegsBut l s (t.cavePost code crit part src chn payload) := by
  unfold State.cavePost
  dsimp only
  have hc : R.CAVE_LOST ∈ l ∧ R.CAVE_ISR ∈ l := ⟨hl (by decide), hl (by decide)⟩
  refine RegsBut.ite ?_ (RegsBut.ite ?_ ((h.satAdd hc.1).raise hc.2))
  all_goals exact h.of_regs rfl

theorem RegsBut.caveIntegrity {chn d1 : Nat} (h : RegsBut l s t) (hl : caveIntegrityRegs ⊆ l) :
    RegsBut l s (t.caveIntegrity chn d1) := by
  unfold State.caveIntegrity
  dsimp only
  exact (h.satAdd (hl (by decide))).ite ((h.cavePost hl).of_regs rfl)

end

/-! ### Counters and bits -/

/-- A saturating counter counts one more, and stops at its largest value. -/
theorem fld_satAdd_same (s : State) (a : Nat) (f : Field) (n : Nat) (h : f.lo + f.width ≤ 32) :
    (s.satAdd a f n).fld a f = min (s.fld a f + n) (2 ^ f.width - 1) := by
  rw [State.satAdd, State.fld_setFld_same _ _ _ _ h]
  have : 0 < 2 ^ f.width := by positivity
  exact Nat.mod_eq_of_lt (by omega)

theorem bitAt_eq_testBit (x b : Nat) : bitAt x b = x.testBit b := by
  rw [bitAt, Nat.testBit_eq_decide_div_mod_eq, Nat.shiftRight_eq_div_pow]

/-- Bits once set stay while further bits of a list are set. -/
theorem testBit_setBits_of_word (bs : List Nat) (w : Word) {b : Nat} (h : w.toNat.testBit b = true) :
    (bs.foldl (fun w k => w ||| BitVec.ofNat 32 (2 ^ k)) w).toNat.testBit b = true := by
  induction bs generalizing w with
  | nil => exact h
  | cons k bs ih => exact ih _ (by simp [h])

/-- Every bit of a list is set. -/
theorem testBit_setBits_of_mem (bs : List Nat) (w : Word) {b : Nat} (hb : b ∈ bs) (h32 : b < 32) :
    (bs.foldl (fun w k => w ||| BitVec.ofNat 32 (2 ^ k)) w).toNat.testBit b = true := by
  induction bs generalizing w with
  | nil => simp at hb
  | cons k bs ih =>
    rcases List.mem_cons.mp hb with rfl | hb
    · have e : 2 ^ b % 4294967296 = 2 ^ b := Nat.mod_eq_of_lt (Nat.pow_lt_pow_right (by decide) h32)
      exact testBit_setBits_of_word bs _ (by simp [e])
    · exact ih _ hb

/-! ### The check state of a word (R393, R396) -/

@[simp] theorem setWord_regs (s : State) (c i k : Nat) : (s.setWord c i k).regs = s.regs := by
  unfold State.setWord
  cases classAddr c i <;> rfl

theorem setWord_reg (s : State) (c i k a : Nat) : (s.setWord c i k).reg a = s.reg a := by
  simp only [State.reg, setWord_regs]

theorem setWord_trackers (s : State) (c i k : Nat) : (s.setWord c i k).intg.trackers = s.intg.trackers := by
  unfold State.setWord
  cases classAddr c i <;> rfl

/-- What a scrub read finds follows from the integrity unit's marks alone. -/
theorem scrubFinds_congr {s t : State} (hp : t.intg.planted = s.intg.planted) (hh : t.intg.hidden = s.intg.hidden) (c i : Nat)
    (f : ScrubFinding) : t.scrubFinds c i f = s.scrubFinds c i f := by
  simp only [State.scrubFinds, State.wordState, hp, hh]

/-- A word set sound or uncorrectable is found so. -/
theorem scrubFinds_setWord (s : State) (c i : Nat) {k : Nat} (hk : k = 0 ∨ k = 2) : (s.setWord c i k).scrubFinds c i .clean = k := by
  unfold State.scrubFinds State.setWord State.wordState
  cases classAddr c i with
  | some a => rcases hk with rfl | rfl <;> simp
  | none => rcases hk with rfl | rfl <;> simp

/-! ### Integrity records leave the marks and the trackers (R402) -/

/-- An integrity record touches of the integrity unit the times of its last records alone. -/
theorem intg_intgRecord (s : State) (kind chn d1 cls : Nat) :
    ∃ l, (s.intgRecord kind chn d1 cls).intg = { s.intg with lastRec := l } := by
  have hpost (u : State) (code chn d1 d2 : Nat) : (u.post code chn d1 d2).intg = u.intg :=
    (keeps_State_post (List.Subset.refl _) code chn d1 d2 (Keeps.refl _ u)).part .intg rfl
  unfold State.intgRecord
  dsimp only
  refine iteInduction (motive := fun u : State => ∃ l, u.intg = { s.intg with lastRec := l }) (fun _ => ⟨_, rfl⟩) fun _ => ?_
  exact ⟨_, hpost _ _ _ _ _⟩

theorem intg_detectUe (s : State) (kind cls chn index : Nat) :
    ∃ l, (s.detectUe kind cls chn index).intg = { s.intg with lastRec := l } := by
  obtain ⟨l, h⟩ := intg_intgRecord
    (((s.satAdd R.INTG_UE F.INTG_UE_COUNT 1).intgLast kind cls index).raise R.INTG_ISR F.INTG_ISR_UE) kind chn (intgData kind cls 0 index) cls
  exact ⟨l, h.trans (by rw [State.raise_intg]; rfl)⟩

/-- An uncorrectable word is counted and its flag raised. -/
theorem detectUe_reports (s : State) (kind cls chn index : Nat) :
    (s.detectUe kind cls chn index).fld R.INTG_UE F.INTG_UE_COUNT =
      min (s.fld R.INTG_UE F.INTG_UE_COUNT + 1) (2 ^ F.INTG_UE_COUNT.width - 1) ∧
    (s.detectUe kind cls chn index).flag R.INTG_ISR F.INTG_ISR_UE = true := by
  have hrec (u : State) : RegsBut (R.INTG_RECDROP :: evtRegs) u (u.intgRecord kind chn (intgData kind cls 0 index) cls) :=
    (RegsBut.refl _ u).intgRecord (by decide) (by decide)
  have hcnt (u : State) : RegsBut (R.INTG_LAST :: R.INTG_ISR :: R.INTG_RECDROP :: evtRegs) u
      (((u.intgLast kind cls index).raise R.INTG_ISR F.INTG_ISR_UE).intgRecord kind chn (intgData kind cls 0 index) cls) :=
    (((RegsBut.refl _ u).setReg (by decide)).raise (by decide)).intgRecord (by decide) (by decide)
  constructor
  · exact ((hcnt _).fld (by decide) _).trans (fld_satAdd_same s _ _ _ (by decide))
  · exact ((hrec _).flag (by decide) _).trans (State.flag_raise_same _ _ _ (by decide) (by decide))

/-! ### Trackers (R397) -/

theorem track_of_empty {s : State} {c : Nat} (i : Nat) (h : s.trackers c = []) :
    s.track c i = s.setTrackers c [⟨i, none, s.fld R.INTG_PASS F.INTG_PASS_COUNT⟩] := by
  simp [State.track, h]

theorem trackers_setTrackers (s : State) (c : Nat) (l : List Track) : (s.setTrackers c l).trackers c = l :=
  tabGet_tabSet_same _ _ _ _

theorem trackers_congr {s t : State} (h : t.intg.trackers = s.intg.trackers) (c : Nat) : t.trackers c = s.trackers c := by
  simp only [State.trackers, h]

/-- No register below the remap table tells whether a word is remapped. -/
theorem isRemapped_congr {l : List Nat} {s t : State} (h : RegsBut l s t) (hl : ∀ a ∈ l, a < 0x50100) (c i : Nat) :
    t.isRemapped c i = s.isRemapped c i := by
  have hn (e : Nat) : R.INTG_REMAP c e ∉ l := fun hm => by
    have := hl _ hm
    simp only [R.INTG_REMAP] at this
    omega
  have hs (e : Nat) : t.serves c i e = s.serves c i e := by
    simp only [State.serves, State.remapped, h.flag (hn e), h.fld (hn e)]
  simp only [State.isRemapped, funext hs]

/-! ### Scrub reads (R396, R397) -/

/-- The word of a corrected scrub read: sound, counted and flagged. -/
def State.corrected (s : State) (cls index : Nat) : State :=
  ((s.setWord cls index 0).satAdd R.INTG_CE F.INTG_CE_COUNT 1).raise R.INTG_ISR F.INTG_ISR_CE

theorem exec_scrubRead {s : State} {cls : Nat} (index : Nat) (finding : ScrubFinding) (hc : cls < 11)
    (hs : s.flag R.INTG_CTL F.INTG_CTL_SCRUB = true) (hu : s.up (classDomain cls index) = true) :
    exec (.scrubRead cls index finding) s = .next
      (if s.scrubFinds cls index finding = 0 then s
       else if s.scrubFinds cls index finding = 1 then
         if (s.corrected cls index).isRemapped cls index then s.corrected cls index else (s.corrected cls index).track cls index
       else (s.setWord cls index 2).detectUe 3 cls (wordChannel cls index) index) := by
  have hx : exec (.scrubRead cls index finding) s = execScrubRead cls index finding s := rfl
  rw [hx, execScrubRead, if_neg (by omega), occurs_next (by rw [hs, hu]; rfl)]
  rfl

theorem regsBut_corrected (s : State) (cls index : Nat) : RegsBut [R.INTG_CE, R.INTG_ISR] s (s.corrected cls index) :=
  (((RegsBut.refl _ s).of_regs (setWord_regs s cls index 0)).satAdd (by decide)).raise (by decide)

theorem corrected_counts (s : State) (cls index : Nat) :
    (s.corrected cls index).fld R.INTG_CE F.INTG_CE_COUNT =
      min (s.fld R.INTG_CE F.INTG_CE_COUNT + 1) (2 ^ F.INTG_CE_COUNT.width - 1) := by
  have h := (State.regsBut_raise ((s.setWord cls index 0).satAdd R.INTG_CE F.INTG_CE_COUNT 1) R.INTG_ISR F.INTG_ISR_CE).fld
    (a := R.INTG_CE) (by decide) F.INTG_CE_COUNT
  rw [State.corrected, h, fld_satAdd_same _ _ _ _ (by decide), State.fld, setWord_reg, State.fld]

theorem intg_corrected (s : State) (cls index : Nat) : (s.corrected cls index).intg = (s.setWord cls index 0).intg := by
  rw [State.corrected, State.raise_intg, State.satAdd_intg]

/-- A corrected word of no remap entry, in a class without trackers, becomes the class's first tracker. -/
theorem exec_scrubRead_corrected {s : State} {cls index : Nat} {finding : ScrubFinding} (hc : cls < 11)
    (hs : s.flag R.INTG_CTL F.INTG_CTL_SCRUB = true) (hu : s.up (classDomain cls index) = true)
    (hf : s.scrubFinds cls index finding = 1) (hr : s.isRemapped cls index = false) (ht : s.trackers cls = []) :
    exec (.scrubRead cls index finding) s = .next
      ((s.corrected cls index).setTrackers cls [⟨index, none, s.fld R.INTG_PASS F.INTG_PASS_COUNT⟩]) := by
  have hb := regsBut_corrected s cls index
  have hr' : (s.corrected cls index).isRemapped cls index = false := (isRemapped_congr hb (by decide) cls index).trans hr
  have ht' : (s.corrected cls index).trackers cls = [] :=
    (trackers_congr (by rw [intg_corrected, setWord_trackers]) cls).trans ht
  rw [exec_scrubRead index finding hc hs hu, if_neg (by omega), if_pos hf,
    if_neg (by simp [hr']), track_of_empty index ht', hb.fld (by decide)]

theorem only_scrubRead {s t : State} {cls index : Nat} {finding : ScrubFinding}
    (h : exec (.scrubRead cls index finding) s = .next t) : Only [.regs, .dram, .grp, .pci, .ddr, .intg, .out] s t :=
  ((keeps_execScrubRead (List.Subset.refl _) cls index finding (Keeps.refl _ s)).next t h).only

/-! ### Remap entries (R399) -/

theorem exec_remapFree {s : State} {cls e : Nat} (v : Word) (hc : cls < 11) (he : e < 16) :
    exec (.remapFree cls e v) s = .next
      (if v ≠ 0 then s.raise R.INTG_ISR F.INTG_ISR_REJ
       else (if s.remapped cls e then s.setWord cls (s.fld (R.INTG_REMAP cls e) F.INTG_REMAP_INDEX) 0 else s).setReg (R.INTG_REMAP cls e) 0) := by
  have hx : exec (.remapFree cls e v) s = execRemapFree cls e v s := rfl
  rw [hx, execRemapFree, if_pos ⟨hc, he⟩]

theorem only_remapFree {s t : State} {cls e : Nat} {v : Word} (h : exec (.remapFree cls e v) s = .next t) :
    Only [.regs, .pci, .intg, .out] s t :=
  ((keeps_execRemapFree (List.Subset.refl _) cls e v (Keeps.refl _ s)).next t h).only

/-! ### The self-test (R400) -/

/-- The registers that a self-test's records can write beside the verdicts. -/
abbrev bistRecordRegs : List Nat := R.INTG_RECDROP :: (evtRegs ++ caveIntegrityRegs)

/-- Failing checkers have their bits and the flag set, and the busy flag stays as it was. -/
theorem bistResult_reports (s : State) (bad : List Nat) :
    (s.bistResult bad).flag R.INTG_STAT F.INTG_STAT_BISTBUSY = s.flag R.INTG_STAT F.INTG_STAT_BISTBUSY ∧
    ∀ b ∈ bad, b < 32 →
      (s.bistResult bad).bit R.INTG_BIST b = true ∧ (s.bistResult bad).flag R.INTG_ISR F.INTG_ISR_BISTFAIL = true := by
  cases bad with
  | nil => exact ⟨rfl, fun b hb => by simp at hb⟩
  | cons b0 bs =>
    have hrec (l : List Nat) (hl : bistRecordRegs ⊆ l) (u v : State) (h : RegsBut l u v) :
        RegsBut l u ((v.each (b0 :: bs) fun b t => t.bistFail b).caveIntegrity 0xFF (intgData 7 b0 0 0)) :=
      (h.each fun n w hw => hw.intgRecord (fun a ha => hl (by simp [bistRecordRegs, evtRegs] at ha ⊢; tauto)) (hl (by decide))).caveIntegrity
        (fun a ha => hl (by simp [bistRecordRegs, caveIntegrityRegs] at ha ⊢; tauto))
    have hraise (u : State) := hrec bistRecordRegs (List.Subset.refl _) _ _ (RegsBut.refl _ u)
    unfold State.bistResult
    dsimp only
    refine ⟨?_, fun b hb h32 => ⟨?_, ?_⟩⟩
    · exact (hrec (R.INTG_BIST :: R.INTG_ISR :: bistRecordRegs) (by decide) s _
        (((RegsBut.refl _ s).setReg (by decide)).raise (by decide))).flag (by decide) _
    · rw [State.bit, hraise _ _ (by decide), State.reg_raise_ne _ _ _ _ (by decide), State.reg_setReg_same, bitAt_eq_testBit]
      exact testBit_setBits_of_mem _ _ hb h32
    · exact ((hraise _).flag (by decide) _).trans (State.flag_raise_same _ _ _ (by decide) (by decide))

theorem exec_bistDone {s : State} (failed : Nat) (h : s.flag R.INTG_STAT F.INTG_STAT_BISTBUSY = true) :
    exec (.bistDone failed) s = .next
      ((s.setFlag R.INTG_STAT F.INTG_STAT_BISTBUSY false).bistResult
        (failing (((List.range 11).filter (s.setFlag R.INTG_STAT F.INTG_STAT_BISTBUSY false).up).flatMap domainCheckers) failed)) :=
  (occurs_next h : execBistDone failed s = _)

theorem up_setFlag_BISTBUSY (s : State) (b : Bool) : (s.setFlag R.INTG_STAT F.INTG_STAT_BISTBUSY b).up = s.up := by
  funext d
  simp only [State.up, (regsBut_setFlag s R.INTG_STAT F.INTG_STAT_BISTBUSY b).fld (a := R.PWR_DOM) (by decide)]

theorem mem_failing {checkers : List Nat} {failed b : Nat} (h16 : b < 16) (hb : b ∈ checkers) (hf : bitAt failed b = true) :
    b ∈ failing checkers failed := by
  simp [failing, h16, hb, hf]

theorem only_bistDone {s t : State} {failed : Nat} (h : exec (.bistDone failed) s = .next t) :
    Only [.regs, .dram, .grp, .pci, .ddr, .intg, .cave, .out] s t :=
  ((keeps_execBistDone (List.Subset.refl _) failed (Keeps.refl _ s)).next t h).only

/-! ### Scrubbing, remapping, self-test and split writes: the clauses (R395 to R401) -/

theorem scrubPass_effect (s : State) (hs : s.flag R.INTG_CTL F.INTG_CTL_SCRUB = true)
    (hd : s.intg.scrubAt = 0 ∨ s.intg.scrubAt - 1 + scrubU ≤ s.time.mt) :
    ∃ t, exec .scrubPass s = .next t ∧ Only [.regs, .intg] s t ∧ t.reg R.INTG_PASS = s.reg R.INTG_PASS + 1 ∧
      t.intg = { s.intg with scrubAt := s.time.mt + 1 } ∧ RegsBut [R.INTG_PASS] s t := by
  have e : exec .scrubPass s = .next
      (({ s with intg := { s.intg with scrubAt := s.time.mt + 1 } } : State).setReg R.INTG_PASS (s.reg R.INTG_PASS + 1)) := by
    have hx : exec .scrubPass s = execScrubPass s := rfl
    rw [hx, execScrubPass]
    exact occurs_next (by simpa [hs] using hd)
  exact ⟨_, e, ((keeps_execScrubPass (List.Subset.refl _) (Keeps.refl _ s)).next _ e).only, State.reg_setReg_same _ _ _, rfl,
    ((RegsBut.refl _ s).of_regs rfl).setReg (by decide)⟩

theorem scrubRead_corrected (s : State) (cls index : Nat) (finding : ScrubFinding) (hc : cls < 11)
    (hs : s.flag R.INTG_CTL F.INTG_CTL_SCRUB = true) (hu : s.up (classDomain cls index) = true)
    (hf : s.scrubFinds cls index finding = 1) (hr : s.isRemapped cls index = false) (ht : s.trackers cls = []) :
    ∃ t, exec (.scrubRead cls index finding) s = .next t ∧ Only [.regs, .dram, .grp, .pci, .ddr, .intg, .out] s t ∧
      t.fld R.INTG_CE F.INTG_CE_COUNT = min (s.fld R.INTG_CE F.INTG_CE_COUNT + 1) (2 ^ F.INTG_CE_COUNT.width - 1) ∧
      t.trackers cls = [⟨index, none, s.fld R.INTG_PASS F.INTG_PASS_COUNT⟩] ∧ t.flag R.INTG_ISR F.INTG_ISR_CE = true ∧
      t.scrubFinds cls index .clean = 0 ∧ RegsBut [R.INTG_CE, R.INTG_ISR] s t := by
  have e := exec_scrubRead_corrected hc hs hu hf hr ht
  have hw : (s.corrected cls index).scrubFinds cls index .clean = 0 :=
    (scrubFinds_congr (congrArg Integ.planted (intg_corrected s cls index)) (congrArg Integ.hidden (intg_corrected s cls index))
      cls index .clean).trans (scrubFinds_setWord s cls index (.inl rfl))
  exact ⟨_, e, only_scrubRead e, corrected_counts s cls index, trackers_setTrackers _ _ _,
    State.flag_raise_same _ _ _ (by decide) (by decide), hw, regsBut_corrected s cls index⟩

theorem scrubRead_uncorrectable (s : State) (cls index : Nat) (finding : ScrubFinding) (hc : cls < 11)
    (hs : s.flag R.INTG_CTL F.INTG_CTL_SCRUB = true) (hu : s.up (classDomain cls index) = true)
    (hf : s.scrubFinds cls index finding = 2) :
    ∃ t, exec (.scrubRead cls index finding) s = .next t ∧ Only [.regs, .dram, .grp, .pci, .ddr, .intg, .out] s t ∧
      t.fld R.INTG_UE F.INTG_UE_COUNT = min (s.fld R.INTG_UE F.INTG_UE_COUNT + 1) (2 ^ F.INTG_UE_COUNT.width - 1) ∧
      t.flag R.INTG_ISR F.INTG_ISR_UE = true ∧ t.trackers cls = s.trackers cls ∧ t.scrubFinds cls index .clean = 2 := by
  have e := exec_scrubRead index finding hc hs hu
  rw [if_neg (by omega), if_neg (by omega)] at e
  obtain ⟨hcount, hflag⟩ := detectUe_reports (s.setWord cls index 2) 3 cls (wordChannel cls index) index
  obtain ⟨l, hi⟩ := intg_detectUe (s.setWord cls index 2) 3 cls (wordChannel cls index) index
  refine ⟨_, e, only_scrubRead e, hcount.trans ?_, hflag, ?_, ?_⟩
  · simp only [State.fld, setWord_reg]
  · exact trackers_congr ((congrArg Integ.trackers hi).trans (setWord_trackers s cls index 2)) cls
  · exact (scrubFinds_congr (by rw [hi]) (by rw [hi]) cls index .clean).trans
      (scrubFinds_setWord s cls index (.inr rfl))

theorem remapFree_zero (s : State) (cls e : Nat) (hc : cls < 11) (he : e < 16) :
    ∃ t, exec (.remapFree cls e 0) s = .next t ∧ Only [.regs, .pci, .intg, .out] s t ∧ t.reg (R.INTG_REMAP cls e) = 0 ∧
      t.remapped cls e = false ∧ RegsBut [R.INTG_REMAP cls e] s t ∧
      (s.remapped cls e = true → t.scrubFinds cls (s.fld (R.INTG_REMAP cls e) F.INTG_REMAP_INDEX) .clean = 0) := by
  have h := exec_remapFree (s := s) 0 hc he
  rw [if_neg (by simp)] at h
  have h0 : field F.INTG_REMAP_VALID 0#32 = 0 := by decide
  refine ⟨_, h, only_remapFree h, State.reg_setReg_same _ _ _, ?_, ?_, fun hm => ?_⟩
  · simp [State.remapped, State.flag, State.fld, h0]
  · exact ((RegsBut.refl _ s).of_regs (setWord_regs s _ _ _)).ite (RegsBut.refl _ s) |>.setReg (by simp)
  · rw [if_pos hm]
    exact (scrubFinds_congr rfl rfl cls _ .clean).trans (scrubFinds_setWord s cls _ (.inl rfl))

theorem exec_bist (s : State) : exec .bist s = .next (if s.splitWrite then s
    else if s.layerArmed then s.raise R.INTG_ISR F.INTG_ISR_REJ else s.setFlag R.INTG_STAT F.INTG_STAT_BISTBUSY true) := rfl

theorem bist_starts (s : State) (hsw : s.splitWrite = false) (hl : s.layerArmed = false) :
    exec .bist s = .next (s.setFlag R.INTG_STAT F.INTG_STAT_BISTBUSY true) := by
  rw [exec_bist, if_neg (by simp [hsw]), if_neg (by simp [hl])]

theorem bist_rejected (s : State) (hsw : s.splitWrite = false) (hl : s.layerArmed = true) :
    exec .bist s = .next (s.raise R.INTG_ISR F.INTG_ISR_REJ) := by
  rw [exec_bist, if_neg (by simp [hsw]), if_pos hl]

theorem splitWriteArm_stores (s : State) (v : Word) (hsw : s.splitWrite = true) (hl : s.layerArmed = false) :
    exec (.splitWriteArm v) s = .next (s.setReg R.INTG_SPLIT_CTL (v &&& 0x7F01)) := by
  have hx : exec (.splitWriteArm v) s = execSplitWriteArm v s := rfl
  rw [hx, execSplitWriteArm, if_neg (by simp [hsw]), if_neg (by simp [hl])]

/-- SPLIT_RESIDUE with GO for the servo unit arms the residue of the channel and axis written (R401). -/
theorem splitResidue_arms (s : State) (v : Word) (hsw : s.splitWrite = true) (hl : s.layerArmed = false)
    (hg : field F.INTG_SPLIT_RES_GO v = 1) (hu : field F.INTG_SPLIT_RES_UNIT v = 1) (hx : field F.INTG_SPLIT_RES_AXIS v < 3) :
    ∃ t, exec (.splitResidue v) s = .next t ∧ Only [.regs, .intg] s t ∧ t.reg R.INTG_SPLIT_RES = v &&& 0x37F ∧
      (1, field F.INTG_SPLIT_RES_CH v, field F.INTG_SPLIT_RES_AXIS v) ∈ t.intg.forced ∧ RegsBut [R.INTG_SPLIT_RES] s t := by
  have hd : exec (.splitResidue v) s = execSplitResidue v s := rfl
  have hax : ¬((1 : Nat) = 0 ∨ 1 = 3 ∨ field F.INTG_SPLIT_RES_AXIS v = 3) := by omega
  rw [execSplitResidue, if_neg (by simp [hsw]), if_neg (by simp [hl])] at hd
  simp only [hg, hu, if_neg hax, if_neg (by decide : ¬(1 : Nat) = 0)] at hd
  refine ⟨_, hd, ?_, State.reg_setReg_same _ _ _, List.mem_cons_self, (regsBut_setReg s _ _).of_regs rfl⟩
  exact (Keeps.upd_intg (by decide) (keeps_State_setReg (by decide) _ _ (Keeps.refl _ s))).only

theorem splitResidue_ignored (s : State) (v : Word) (hsw : s.splitWrite = false) : exec (.splitResidue v) s = .next s := by
  show Host.Outcome.next (if !s.splitWrite then s else _) = _
  rw [if_pos (by simp [hsw])]

theorem only_setReg (s : State) (a : Nat) (v : Word) : Only [.regs] s (s.setReg a v) :=
  (keeps_State_setReg (List.Subset.refl _) a v (Keeps.refl _ s)).only

/-- Settles O48: each command is the operation of R395 to R401 that its conditions select; the records that a detection or a verdict
posts write other registers than the counters, flags and bits of the statement. -/
theorem integrityScrubAndTest : Obligations.IntegrityScrubAndTest := by
  refine ⟨scrubPass_effect, ?_, scrubRead_corrected, scrubRead_uncorrectable, remapFree_zero, ?_, ?_, ?_, ?_, ?_, ?_, ?_,
    splitResidue_arms, ?_⟩
  · intro s cls index finding hc hs hu hf
    exact ⟨s, by rw [exec_scrubRead index finding hc hs hu, if_pos hf], Only.refl _ s, rfl⟩
  · intro s cls e v hc he hv
    exact ⟨_, by rw [exec_remapFree v hc he, if_pos hv], State.only_raise s _ _,
      State.flag_raise_same s _ _ (by decide) (by decide), State.regsBut_raise s _ _⟩
  · intro s hsw hl
    exact ⟨_, bist_starts s hsw hl, only_setFlag s _ _ _, State.flag_setFlag_same s _ _ true (by decide) (by decide),
      regsBut_setFlag s _ _ _⟩
  · intro s hsw hl
    exact ⟨_, bist_rejected s hsw hl, State.only_raise s _ _, State.flag_raise_same s _ _ (by decide) (by decide),
      State.regsBut_raise s _ _⟩
  · intro s failed hb
    have e := exec_bistDone failed hb
    exact ⟨_, e, only_bistDone e, rfl,
      (bistResult_reports _ _).1.trans (State.flag_setFlag_same s _ _ false (by decide) (by decide))⟩
  · intro s failed b hb h16 hm hf
    have e := exec_bistDone failed hb
    rw [up_setFlag_BISTBUSY] at e
    obtain ⟨hbusy, hbits⟩ := bistResult_reports (s.setFlag R.INTG_STAT F.INTG_STAT_BISTBUSY false)
      (failing (((List.range 11).filter s.up).flatMap domainCheckers) failed)
    exact ⟨_, e, only_bistDone e, hbusy.trans (State.flag_setFlag_same s _ _ false (by decide) (by decide)),
      hbits b (mem_failing h16 hm hf) (by omega)⟩
  · intro s failed hb hnone
    have e := exec_bistDone failed hb
    rw [up_setFlag_BISTBUSY, hnone] at e
    exact ⟨_, e, only_setFlag s _ _ _, State.flag_setFlag_same s _ _ false (by decide) (by decide), regsBut_setFlag s _ _ _⟩
  · intro s v hsw hl
    exact ⟨_, splitWriteArm_stores s v hsw hl, only_setReg s _ _, State.reg_setReg_same _ _ _, regsBut_setReg s _ _⟩
  · intro s v hsw
    exact ⟨s, splitResidue_ignored s v hsw, Only.refl _ s, RegsBut.refl _ s⟩

/-! ### A PWR block reset reaches past its block -/

/-- The reset state with the illumination block's WAITGRANT set, while no requester waits for credits. -/
def waitGrantLeft : State := State.reset.setFlag R.LGT_STAT F.LGT_STAT_WAITGRANT true

theorem waitGrantLeft_canon : waitGrantLeft.canon = true := by decide

/-- The arbiter's registers follow its requests after the reset (`State.budSync`), and with them WAITGRANT of LGT_STAT. -/
theorem resetPwr_clears_WAITGRANT :
    (waitGrantLeft.resetPwr keepRws).flag R.LGT_STAT F.LGT_STAT_WAITGRANT = false ∧
      waitGrantLeft.flag R.LGT_STAT F.LGT_STAT_WAITGRANT = true := by decide

/-- Refutes O60: the PWR clause claims that a host's PWR block reset touches no register outside 0x10000 to 0x1FFFF, but the reset
brings the three budgets' registers up to their requests, and budget 3 writes LGT_STAT.WAITGRANT at 0x380020. In `waitGrantLeft`
that flag is set with no request outstanding, and the reset clears it. -/
theorem not_blockResets : ¬ Obligations.BlockResets := by
  rintro ⟨-, -, -, -, -, -, -, -, -, -, -, -, -, -, -, -, hpwr, -⟩
  obtain ⟨t, ht, -, -, -, -, -, -, -, hregs⟩ := hpwr waitGrantLeft .host waitGrantLeft_canon rfl
  have e : waitGrantLeft.resetPwr keepRws = t := by
    have hx : exec (.pwrBlockReset .host) waitGrantLeft = .next (waitGrantLeft.resetPwr keepRws) := rfl
    rw [hx] at ht
    exact Host.Outcome.next.inj ht
  have hsame : t.reg R.LGT_STAT = waitGrantLeft.reg R.LGT_STAT := hregs _ (Or.inr (by decide))
  have hflag : t.flag R.LGT_STAT F.LGT_STAT_WAITGRANT = waitGrantLeft.flag R.LGT_STAT F.LGT_STAT_WAITGRANT :=
    congrArg (fun w => decide (field F.LGT_STAT_WAITGRANT w ≠ 0)) hsame
  rw [← e, resetPwr_clears_WAITGRANT.1, resetPwr_clears_WAITGRANT.2] at hflag
  exact Bool.false_ne_true hflag

end Sys2Proof.Machine

/-!
# Layers and schedule time: arming, start, yields, abort (O6 to O10, O12, O32)

A layer's operations run over lists of channels. `Group.unlost` and `RegsBut (chanRegs n)` say once what a change of one channel
leaves of the group unit and of SEQ_GRP_STAT; the statements are read off the state that each operation ends in.
-/

namespace Sys2Proof.Machine

/- The proofs below are elaborated one after another, as above: this keeps the check within its memory limit. -/
set_option deprecated.oldSectionVars true

/-! ### Changes over lists of channels -/

/-- What no round of a loop changes, the loop leaves. -/
theorem foldl_unchanged {α β : Type} (q : State → α) {l : List β} {f : State → β → State} (hf : ∀ x ∈ l, ∀ u, q (f u x) = q u) (s : State) :
    q (l.foldl f s) = q s := by
  induction l generalizing s with
  | nil => rfl
  | cons x l ih => exact (ih (fun y hy => hf y (by simp [hy])) _).trans (hf x (by simp) s)

theorem each_unchanged {α : Type} (q : State → α) {l : List Nat} {f : Nat → State → State} (hf : ∀ n ∈ l, ∀ u, q (f n u) = q u) (s : State) :
    q (s.each l f) = q s := foldl_unchanged q hf s

theorem lt_of_mem_chs {s : State} {n : Nat} (h : n ∈ s.chs) : n < 32 :=
  Nat.lt_of_lt_of_le (List.mem_range.mp h) (channels_le s)

theorem lt_of_mem_participants {s : State} {n : Nat} (h : n ∈ s.participants) : n < 32 := lt_of_mem_chs (List.mem_filter.mp h).1

/-! ### The group unit under records: only the count of lost ones changes (R126) -/

/-- The group unit without its count of lost records. -/
def Group.unlost (g : Group) : Group := { g with lostSince := 0 }

@[simp] theorem unlost_evtLose (s : State) : s.evtLose.grp.unlost = s.grp.unlost := rfl

@[simp] theorem grp_evtWrite (s : State) (code chn stime : Nat) (cal : Stamp) (d1 d2 : Nat) :
    (s.evtWrite code chn stime cal d1 d2).grp = s.grp :=
  (keeps_State_evtWrite (List.Subset.refl _) _ _ _ _ _ _ (Keeps.refl _ s)).part .grp rfl

@[simp] theorem unlost_postFull (s : State) (code chn stime : Nat) (cal : Stamp) (d1 d2 : Nat) :
    (s.postFull code chn stime cal d1 d2).grp.unlost = s.grp.unlost := by
  unfold State.postFull
  dsimp only
  split
  · exact unlost_evtLose s
  · split
    · rw [grp_evtWrite]
    · split
      · rw [unlost_evtLose, State.modGrp_grp, grp_evtWrite]; rfl
      · rw [grp_evtWrite, State.modGrp_grp, grp_evtWrite]; rfl

@[simp] theorem unlost_post (s : State) (code chn d1 d2 : Nat) : (s.post code chn d1 d2).grp.unlost = s.grp.unlost :=
  unlost_postFull _ _ _ _ _ _ _

@[simp] theorem unlost_fenceRelease (s : State) (n : Nat) : (s.fenceRelease n).grp.unlost = s.grp.unlost := by
  unfold State.fenceRelease
  exact foldl_unchanged (fun u => u.grp.unlost) (fun _ _ _ => unlost_postFull _ _ _ _ _ _ _) _

@[simp] theorem unlost_logStage (s : State) (n : Nat) (line : List LogEntry) : (s.logStage n line).grp.unlost = s.grp.unlost := by
  unfold State.logStage State.logLose
  dsimp only
  split <;> simp

@[simp] theorem unlost_logClose (s : State) (n : Nat) : (s.logClose n).grp.unlost = s.grp.unlost := by
  unfold State.logClose
  dsimp only
  split <;> simp

/-! ### The group unit under changes of a channel -/

@[simp] theorem grp_freezeChan (s : State) (n : Nat) : (s.freezeChan n).grp = s.grp :=
  (keeps_State_freezeChan (List.Subset.refl _) n (Keeps.refl _ s)).part .grp rfl

@[simp] theorem grp_lapse (s : State) (n : Nat) : (s.lapse n).grp = s.grp :=
  (keeps_State_lapse (List.Subset.refl _) n (Keeps.refl _ s)).part .grp rfl

@[simp] theorem grp_sendReadies (s : State) (n : Nat) : (s.sendReadies n).grp = s.grp :=
  (keeps_State_sendReadies (List.Subset.refl _) n (Keeps.refl _ s)).part .grp rfl

@[simp] theorem unlost_enter (s : State) (n st : Nat) : (s.enter n st).grp.unlost = s.grp.unlost := by
  unfold State.enter
  dsimp only
  split <;> split <;> simp

/-- Entering a state in which no log line closes leaves the group unit. -/
theorem grp_enter (s : State) (n : Nat) {st : Nat} (h : st ≠ 5 ∧ st ≠ 6 ∧ st ≠ 7) : (s.enter n st).grp = s.grp := by
  rw [State.enter_eq s n st h, grp_lapse, State.setFld_grp]
  split <;> simp

@[simp] theorem unlost_stopChan (s : State) (n : Nat) : (s.stopChan n).grp.unlost = s.grp.unlost := by
  have hall (u : State) (cs : List Curd) : (u.releaseAll n cs).grp = u.grp :=
    (keeps_State_releaseAll (List.Subset.refl _) n cs (Keeps.refl _ u)).part .grp rfl
  have hhands (u : State) (hs : List Hand) : (u.stopHands n hs).grp = u.grp :=
    (keeps_State_stopHands (List.Subset.refl _) n hs (Keeps.refl _ u)).part .grp rfl
  have hlearn (u : State) : (u.freezeLearning n).grp = u.grp :=
    (keeps_State_freezeLearning (List.Subset.refl _) n (Keeps.refl _ u)).part .grp rfl
  unfold State.stopChan
  simp [hall, hhands, hlearn, State.setFlag_eq]

@[simp] theorem unlost_firstFault (s : State) (n code time word : Nat) (lib : Bool) (seqno : Nat) :
    (s.firstFault n code time word lib seqno).grp.unlost = s.grp.unlost := by
  unfold State.firstFault
  dsimp only
  split
  · rfl
  · simp only [State.raise_grp, State.postAt, unlost_postFull, State.setFld_grp, State.setReg_grp]

@[simp] theorem unlost_abortChan (s : State) (n : Nat) : (s.abortChan n).grp.unlost = s.grp.unlost := by
  unfold State.abortChan
  dsimp only
  split <;> simp

@[simp] theorem grp_releaseLatched (s : State) (n : Nat) : (s.releaseLatched n).grp = s.grp :=
  (keeps_State_releaseLatched (List.Subset.refl _) n (Keeps.refl _ s)).part .grp rfl

@[simp] theorem grp_leaveYield (s : State) (n : Nat) : (s.leaveYield n).grp = s.grp := by
  unfold State.leaveYield
  dsimp only
  split
  · rw [grp_sendReadies, grp_enter _ _ (by decide), grp_releaseLatched]; rfl
  · rfl

@[simp] theorem grp_unarmChan (s : State) (n : Nat) : (s.unarmChan n).grp = s.grp := by
  unfold State.unarmChan
  dsimp only
  split
  · rw [grp_enter _ _ (by decide)]; rfl
  · rfl

/-- PRIMING and NOTPART, the states that the arm command gives a channel, close no log line. -/
theorem armed_closes_no_line (part : Bool) :
    (if part = true then 2 else 9) ≠ 5 ∧ (if part = true then 2 else 9) ≠ 6 ∧ (if part = true then 2 else 9) ≠ 7 := by
  cases part <;> decide

@[simp] theorem grp_armChan (s : State) (n : Nat) : (s.armChan n).grp = s.grp := by
  unfold State.armChan
  dsimp only
  split
  · rw [grp_enter _ _ (armed_closes_no_line _)]
    simp only [State.modCh_grp, State.setFlag_grp, State.setFld_grp, State.setReg_grp]
  · simp only [State.modCh_grp, State.setFlag_grp, State.setFld_grp, State.setReg_grp]

@[simp] theorem grp_armUnits (s : State) (n : Nat) : (s.armUnits n).grp = s.grp :=
  (keeps_State_armUnits (List.Subset.refl _) n (Keeps.refl _ s)).part .grp rfl

/-- The group unit without its count of lost records and its abort flag: what a fault of a channel leaves. -/
def Group.unflagged (g : Group) : Group := { g.unlost with abortFlag := false }

theorem unflagged_of_unlost {g h : Group} (e : g.unlost = h.unlost) : g.unflagged = h.unflagged :=
  congrArg (fun x : Group => { x with abortFlag := false }) e

theorem unflagged_flag (g : Group) (b : Bool) : ({ g with abortFlag := b } : Group).unflagged = g.unflagged := rfl

@[simp] theorem unflagged_fault (s : State) (n code time word : Nat) (lib : Bool) (seqno : Nat) :
    (s.fault n code time word lib seqno).grp.unflagged = s.grp.unflagged := by
  unfold State.fault
  dsimp only
  split
  · rw [State.modGrp_grp, unflagged_flag]
    exact unflagged_of_unlost (by simp)
  · rfl

/-- A channel that waits reaches the yield without a fault. -/
theorem unlost_reachYield {s : State} {g n : Nat} (h : s.waitsAt n g = true) : (s.reachYield g n).grp.unlost = s.grp.unlost := by
  rw [State.reachYield, if_pos h]
  dsimp only
  rw [unlost_enter]
  rfl

@[simp] theorem unflagged_reachYield (s : State) (g n : Nat) : (s.reachYield g n).grp.unflagged = s.grp.unflagged := by
  by_cases h : s.waitsAt n g = true
  · exact unflagged_of_unlost (unlost_reachYield h)
  · rw [State.reachYield, if_neg h]
    split
    · rw [State.modGrp_grp, unflagged_flag]
      exact unflagged_of_unlost (unlost_firstFault _ _ _ _ _ _ _)
    · exact unflagged_fault _ _ _ _ _ _ _

/-! ### The registers that a channel's changes write -/

/-- The registers that the changes of a channel in a layer write: its own, the ones that its records and raised flags write. -/
def chanRegs (n : Nat) : List Nat :=
  armRegs n ++ [R.SEQ_STAT n, R.SEQ_RING_HEAD n, R.SEQ_DISCARD n, R.SRV_CH_STAT n, R.SRV_AX_STAT (3 * n), R.SRV_AX_STAT (3 * n + 1),
    R.SRV_AX_STAT (3 * n + 2), R.LSR_LOG_DROP n, R.LSR_ISR, R.SEQ_GRP_DESC] ++ evtRegs

theorem evtRegs_subset_chanRegs (n : Nat) : evtRegs ⊆ chanRegs n := List.subset_append_right _ _

theorem armRegs_subset_chanRegs (n : Nat) : armRegs n ⊆ chanRegs n := fun _ h => by simp [chanRegs, h]

/-- The group's status and the other channels' states are not among them. -/
theorem notMem_chanRegs {a n : Nat} (hn : n < 32) (ha : a = R.SEQ_GRP_STAT ∨ ∃ m, m < 32 ∧ m ≠ n ∧ a = R.SEQ_STAT m) : a ∉ chanRegs n := by
  simp only [chanRegs, armRegs, evtRegs, List.mem_append, List.mem_cons, List.not_mem_nil, or_false, R.SEQ_GRP_STAT, R.SEQ_STAT,
    R.SEQ_FAULT, R.SEQ_FAULT_SEQNO, R.SEQ_FAULT_S_LO, R.SEQ_FAULT_S_HI, R.SEQ_YDONE, R.SEQ_FEED_REFETCH, R.LSR_CH_MAN,
    R.LSR_CH_BOUNDS, R.LSR_CH_EVENTS, R.LSR_CH_EVENTS2, R.STI_CH_HANDS, R.STI_CH_FB, R.STI_CH_CLAMP, R.STI_CH_TOKERR,
    R.SEQ_RING_HEAD, R.SEQ_DISCARD, R.SRV_CH_STAT, R.SRV_AX_STAT, R.LSR_LOG_DROP, R.LSR_ISR, R.SEQ_GRP_DESC, R.SEQ_EVT_WR,
    R.SEQ_GRP_ISR, R.SEQ_EVT_DROP] at ha ⊢
  obtain rfl | ⟨m, hm, hne, rfl⟩ := ha <;> omega

theorem SEQ_GRP_STAT_notMem_chanRegs {n : Nat} (h : n < 32) : R.SEQ_GRP_STAT ∉ chanRegs n := notMem_chanRegs h (.inl rfl)

theorem SEQ_STAT_notMem_chanRegs {m n : Nat} (hm : m < 32) (hn : n < 32) (h : m ≠ n) : R.SEQ_STAT m ∉ chanRegs n :=
  notMem_chanRegs hn (.inr ⟨m, hm, h, rfl⟩)

section
variable {l : List Nat} {s t : State} {n : Nat}

theorem RegsBut.foldl {β : Type} {xs : List β} {f : State → β → State} (h : RegsBut l s t) (hf : ∀ x u, RegsBut l s u → RegsBut l s (f u x)) :
    RegsBut l s (xs.foldl f t) := by
  induction xs generalizing t with
  | nil => exact h
  | cons x xs ih => exact ih (hf x t h)

theorem RegsBut.modCh {m : Nat} {f : Chan → Chan} (h : RegsBut l s t) : RegsBut l s (t.modCh m f) := h.of_regs rfl
theorem RegsBut.modAx {m : Nat} {f : Axis → Axis} (h : RegsBut l s t) : RegsBut l s (t.modAx m f) := h.of_regs rfl
theorem RegsBut.modSc {m : Nat} {f : ServoCh → ServoCh} (h : RegsBut l s t) : RegsBut l s (t.modSc m f) := h.of_regs rfl
theorem RegsBut.modLs {m : Nat} {f : Laser → Laser} (h : RegsBut l s t) : RegsBut l s (t.modLs m f) := h.of_regs rfl

theorem RegsBut.lapse (h : RegsBut l s t) : RegsBut l s (t.lapse n) := h.of_regs (State.lapse_regs t n)

theorem RegsBut.freezeAxis {a : Nat} (h : RegsBut l s t) (ha : R.SRV_AX_STAT a ∈ l) : RegsBut l s (t.freezeAxis a) := by
  unfold State.freezeAxis
  dsimp only
  exact (h.modAx.setFld ha).ite h.modAx

theorem RegsBut.freezeChan (h : RegsBut l s t) (hl : chanRegs n ⊆ l) : RegsBut l s (t.freezeChan n) :=
  ((h.freezeAxis (hl (by simp [chanRegs]))).freezeAxis (hl (by simp [chanRegs]))).freezeAxis (hl (by simp [chanRegs]))

theorem RegsBut.fenceRelease (h : RegsBut l s t) (hl : evtRegs ⊆ l) : RegsBut l s (t.fenceRelease n) := by
  unfold State.fenceRelease
  dsimp only
  exact RegsBut.foldl h.modLs fun _ _ hu => hu.postFull hl

theorem RegsBut.logClose (h : RegsBut l s t) (hl : chanRegs n ⊆ l) : RegsBut l s (t.logClose n) := by
  unfold State.logClose State.logStage State.logLose
  dsimp only
  refine h.ite (RegsBut.ite (RegsBut.fenceRelease ?_ (List.Subset.trans (evtRegs_subset_chanRegs n) hl)) (h.of_regs rfl))
  exact ((h.modLs.modLs.satAdd (hl (by simp [chanRegs]))).modLs).raise (hl (by simp [chanRegs]))

theorem RegsBut.enter {st : Nat} (h : RegsBut l s t) (hl : chanRegs n ⊆ l) : RegsBut l s (t.enter n st) := by
  unfold State.enter
  dsimp only
  have hs : RegsBut l s (((if st = 4 then t else t.freezeChan n).setFld (R.SEQ_STAT n) F.SEQ_STAT_STATE st).lapse n) :=
    ((h.ite (h.freezeChan hl)).setFld (hl (by simp [chanRegs]))).lapse
  exact (hs.logClose hl).ite hs

theorem RegsBut.releaseAll {cs : List Curd} (h : RegsBut l s t) (hl : chanRegs n ⊆ l) : RegsBut l s (t.releaseAll n cs) := by
  induction cs generalizing t with
  | nil => exact h
  | cons c cs ih =>
    refine ih ?_
    unfold State.releaseDesc
    dsimp only
    exact RegsBut.ite (RegsBut.raise (RegsBut.setReg h.writeDram (hl (by simp [chanRegs]))) (hl (by simp [chanRegs, evtRegs]))) h.writeDram

theorem RegsBut.stopChan (h : RegsBut l s t) (hl : chanRegs n ⊆ l) : RegsBut l s (t.stopChan n) := by
  have hhands (u : State) (hs : List Hand) : (u.stopHands n hs).regs = u.regs :=
    (keeps_State_stopHands (List.Subset.refl _) n hs (Keeps.refl _ u)).part .regs rfl
  have hlearn (u : State) : (u.freezeLearning n).regs = u.regs :=
    (keeps_State_freezeLearning (List.Subset.refl _) n (Keeps.refl _ u)).part .regs rfl
  unfold State.stopChan
  dsimp only
  refine (RegsBut.logClose ?_ hl).lapse
  refine RegsBut.of_regs (RegsBut.modSc (RegsBut.modLs (RegsBut.modCh (RegsBut.of_regs ?_ (hhands _ _))))) (hlearn _)
  exact ((h.setReg (hl (by simp [chanRegs]))).setFlag (hl (by simp [chanRegs]))).releaseAll hl

theorem RegsBut.firstFault {code time word seqno : Nat} {lib : Bool} (h : RegsBut l s t) (hl : chanRegs n ⊆ l) :
    RegsBut l s (t.firstFault n code time word lib seqno) := by
  have ha : armRegs n ⊆ l := List.Subset.trans (armRegs_subset_chanRegs n) hl
  have he : evtRegs ⊆ l := List.Subset.trans (evtRegs_subset_chanRegs n) hl
  unfold State.firstFault
  dsimp only
  refine h.ite (RegsBut.raise (RegsBut.postFull ?_ he) (he (by simp)))
  exact (((h.setReg (ha (by simp [armRegs]))).setFld (ha (by simp [armRegs]))).setFld (ha (by simp [armRegs]))).setFld (ha (by simp [armRegs]))

theorem RegsBut.fault {code time word seqno : Nat} {lib : Bool} (h : RegsBut l s t) (hl : chanRegs n ⊆ l) :
    RegsBut l s (t.fault n code time word lib seqno) := by
  unfold State.fault
  dsimp only
  exact (((h.firstFault hl).enter hl).stopChan hl).modGrp.ite h

theorem RegsBut.reachYield {g : Nat} (h : RegsBut l s t) (hl : chanRegs n ⊆ l) : RegsBut l s (t.reachYield g n) := by
  unfold State.reachYield
  dsimp only
  have hdone := h.setFld (f := F.SEQ_YDONE_YIELD) (n := g) (hl (a := R.SEQ_YDONE n) (by simp [chanRegs, armRegs]))
  exact ((hdone.each fun _ _ hu => hu.modAx).enter hl).ite ((h.firstFault hl).modGrp.ite (h.fault hl))

theorem RegsBut.releaseLatched (h : RegsBut l s t) (hl : chanRegs n ⊆ l) : RegsBut l s (t.releaseLatched n) := by
  unfold State.releaseLatched
  exact (h.modSc.setFlag (hl (by simp [chanRegs]))).ite h

theorem RegsBut.sendReadies (h : RegsBut l s t) : RegsBut l s (t.sendReadies n) :=
  h.of_regs ((keeps_State_sendReadies (List.Subset.refl _) n (Keeps.refl _ t)).part .regs rfl)

theorem RegsBut.leaveYield (h : RegsBut l s t) (hl : chanRegs n ⊆ l) : RegsBut l s (t.leaveYield n) := by
  unfold State.leaveYield
  dsimp only
  exact (((h.modCh.releaseLatched hl).enter hl).sendReadies).ite h

theorem RegsBut.abortChan (h : RegsBut l s t) (hl : chanRegs n ⊆ l) : RegsBut l s (t.abortChan n) := by
  unfold State.abortChan
  dsimp only
  exact ((h.enter hl).stopChan hl).ite h

theorem RegsBut.unarmChan (h : RegsBut l s t) (hl : chanRegs n ⊆ l) : RegsBut l s (t.unarmChan n) := by
  unfold State.unarmChan
  dsimp only
  exact (((h.setFld (hl (by simp [chanRegs]))).setFlag (hl (by simp [chanRegs]))).modCh.enter hl).ite h

theorem RegsBut.armChan (h : RegsBut l s t) (hl : chanRegs n ⊆ l) : RegsBut l s (t.armChan n) := by
  have ha {a : Nat} (hm : a ∈ armRegs n) : a ∈ l := hl (armRegs_subset_chanRegs n hm)
  have hs : R.SEQ_STAT n ∈ l := hl (by simp [chanRegs])
  have hfault := (((h.setReg (v := 0) (ha (a := R.SEQ_FAULT n) (by simp [armRegs]))).setReg (v := 0)
    (ha (a := R.SEQ_FAULT_SEQNO n) (by simp [armRegs]))).setReg (v := 0) (ha (a := R.SEQ_FAULT_S_LO n) (by simp [armRegs]))).setReg (v := 0)
    (ha (a := R.SEQ_FAULT_S_HI n) (by simp [armRegs]))
  have hfeed := (hfault.setFld (f := F.SEQ_YDONE_YIELD) (n := 0xFFFF) (ha (a := R.SEQ_YDONE n) (by simp [armRegs]))).setReg (v := 0)
    (ha (a := R.SEQ_FEED_REFETCH n) (by simp [armRegs]))
  have hstat := ((hfeed.setFld (f := F.SEQ_STAT_NOTOWN) (n := 0) hs).setFlag (f := F.SEQ_STAT_INLAYER_OFF) (b := false) hs).setFlag
    (f := F.SEQ_STAT_OWNWAIT) (b := false) hs
  unfold State.armChan
  dsimp only
  exact (hstat.modCh.enter hl).ite hstat.modCh

theorem RegsBut.armUnits (h : RegsBut l s t) (hl : chanRegs n ⊆ l) : RegsBut l s (t.armUnits n) := by
  have ha {a : Nat} (hm : a ∈ armRegs n) : a ∈ l := hl (armRegs_subset_chanRegs n hm)
  have hlsr := (((h.setFlag (f := F.LSR_CH_MAN_EN) (b := false) (ha (a := R.LSR_CH_MAN n) (by simp [armRegs]))).setReg (v := 0)
    (ha (a := R.LSR_CH_BOUNDS n) (by simp [armRegs]))).setReg (v := 0) (ha (a := R.LSR_CH_EVENTS n) (by simp [armRegs]))).setReg (v := 0)
    (ha (a := R.LSR_CH_EVENTS2 n) (by simp [armRegs]))
  have hsti := (((hlsr.setReg (v := 0) (ha (a := R.STI_CH_HANDS n) (by simp [armRegs]))).setReg (v := 0)
    (ha (a := R.STI_CH_FB n) (by simp [armRegs]))).setReg (v := 0) (ha (a := R.STI_CH_CLAMP n) (by simp [armRegs]))).setReg (v := 0)
    (ha (a := R.STI_CH_TOKERR n) (by simp [armRegs]))
  unfold State.armUnits
  dsimp only
  refine RegsBut.lapse ((((((hsti.modSc.modAx.setFlag ?_).modAx.setFlag ?_).modAx.setFlag ?_))))
  all_goals exact hl (by simp [chanRegs])

end

/-! ### The status word of the group unit (R128) -/

theorem grpState_congr {s t : State} (h : t.reg R.SEQ_GRP_STAT = s.reg R.SEQ_GRP_STAT) : t.grpState = s.grpState := by
  simp only [State.grpState, State.fld, h]

theorem grpState_modGrp (s : State) (f : Group → Group) : (s.modGrp f).grpState = s.grpState := rfl

theorem grpState_setGrpState (s : State) {v : Nat} (h : v < 8) : (s.setGrpState v).grpState = v :=
  (State.fld_setFld_same s _ _ v (by decide)).trans (Nat.mod_eq_of_lt h)

/-- Changes of channels leave the group unit's status word. -/
theorem stat_each_chans {l : List Nat} {f : Nat → State → State} (hl : ∀ n ∈ l, n < 32) (hf : ∀ n u, RegsBut (chanRegs n) u (f n u)) (s : State) :
    (s.each l f).reg R.SEQ_GRP_STAT = s.reg R.SEQ_GRP_STAT :=
  each_unchanged (fun u => u.reg R.SEQ_GRP_STAT) (fun n hn u => hf n u _ (SEQ_GRP_STAT_notMem_chanRegs (hl n hn))) s

theorem stat_raise_ISR (s : State) (f : Field) : (s.raise R.SEQ_GRP_ISR f).reg R.SEQ_GRP_STAT = s.reg R.SEQ_GRP_STAT :=
  State.reg_raise_ne _ _ _ _ (by decide)

theorem stat_post (s : State) (code chn d1 d2 : Nat) : (s.post code chn d1 d2).reg R.SEQ_GRP_STAT = s.reg R.SEQ_GRP_STAT :=
  (RegsBut.refl _ s).post (List.Subset.refl _) _ (by decide)

/-! ### The arm command (R29, R30, R128) -/

theorem exec_arm (s : State) : exec .arm s = .next
    (if s.layerArmed then s.rejectArm 4
     else if s.mstartReg < s.time.mt + ticksU (if s.up dSEQ then 250000 else 2750000) then s.rejectArm 3
     else if !s.mstartOnGrid then s.rejectArm 6
     else s.takeArm) := rfl

theorem only_arm {s t : State} (h : exec .arm s = .next t) :
    Only [.regs, .dram, .grp, .armUndo, .chan, .srvAx, .srvCh, .lsr, .pci, .ddr, .pwr, .cave, .out] s t :=
  ((keeps_execArm (List.Subset.refl _) (Keeps.refl _ s)).next t h).only

/-- The arm command takes the layer registers into a group unit that starts afresh. -/
theorem grp_takeArm (s : State) : s.takeArm.grp =
    { Group.reset with
      layer := s.fld R.SEQ_GRP_LAYER F.SEQ_GRP_LAYER_LAYER, pmask := s.fld R.SEQ_GRP_PMASK F.SEQ_GRP_PMASK_MASK % 2 ^ s.channels
      yline := s.fld R.SEQ_GRP_YBASE F.SEQ_GRP_YBASE_LINE, n := s.fld R.SEQ_GRP_YCOUNT F.SEQ_GRP_YCOUNT_N
      resume := s.fld R.SEQ_GRP_RESUME F.SEQ_GRP_RESUME_INDEX, mstart := s.mstartReg, armedAt := s.time.mt
      wakeAlarm := if s.up dSEQ then none else some (s.mstartReg - ticksU 2500000), s := s.grp.s, lostSince := s.grp.lostSince } :=
  (each_unchanged (fun u => u.grp) (fun n _ u => (grp_armUnits _ n).trans (grp_armChan u n)) _).trans rfl

/-- The status word while the arming is checked: Armed, CHECKING, ARMSTAT 0. -/
theorem stat_takeArm (s : State) : s.takeArm.reg R.SEQ_GRP_STAT =
    withField F.SEQ_GRP_STAT_ARMSTAT (withField F.SEQ_GRP_STAT_CHECKING (withField F.SEQ_GRP_STAT_STATE (s.reg R.SEQ_GRP_STAT) 1) 1) 0 := by
  have hsync (u : State) : u.thermalSync.syncShadow.reg R.SEQ_GRP_STAT = u.reg R.SEQ_GRP_STAT := rfl
  unfold State.takeArm
  dsimp only
  rw [hsync, stat_each_chans (fun _ hn => lt_of_mem_chs hn)
    (fun n u => ((RegsBut.refl _ u).armChan (List.Subset.refl _)).armUnits (List.Subset.refl _)),
    State.reg_setReg_ne _ _ _ _ (by decide), State.reg_setReg_ne _ _ _ _ (by decide)]
  simp only [State.setGrpState, State.setFlag, State.setFld, State.reg_setReg_same]
  rfl

theorem fields_takeArm (s : State) : s.takeArm.grpState = 1 ∧ s.takeArm.flag R.SEQ_GRP_STAT F.SEQ_GRP_STAT_CHECKING = true ∧
    s.takeArm.fld R.SEQ_GRP_STAT F.SEQ_GRP_STAT_ARMSTAT = 0 := by
  refine ⟨?_, ?_, ?_⟩
  · rw [State.grpState, State.fld, stat_takeArm, field_withField_ne _ _ _ _ (by decide) (by decide),
      field_withField_ne _ _ _ _ (by decide) (by decide), field_withField_same _ _ _ (by decide)]
    rfl
  · rw [State.flag, State.fld, stat_takeArm, field_withField_ne _ _ _ _ (by decide) (by decide), field_withField_same _ _ _ (by decide)]
    rfl
  · rw [State.fld, stat_takeArm, field_withField_same _ _ _ (by decide)]
    rfl

/-- A rejected arm command writes its status and REJECT (R30). -/
theorem rejectArm_effect (s : State) {status : Nat} (h : status < 8) : Only irqParts s (s.rejectArm status) ∧
    (s.rejectArm status).fld R.SEQ_GRP_STAT F.SEQ_GRP_STAT_ARMSTAT = status ∧
    (s.rejectArm status).flag R.SEQ_GRP_ISR F.SEQ_GRP_ISR_REJECT = true ∧ (s.rejectArm status).grpState = s.grpState ∧
    RegsBut [R.SEQ_GRP_STAT, R.SEQ_GRP_ISR] s (s.rejectArm status) := by
  refine ⟨(keeps_State_rejectArm (by decide) status (Keeps.refl _ s)).only, ?_,
    State.flag_raise_same _ _ _ (by decide) (by decide), ?_, ((RegsBut.refl _ s).setFld (by decide)).raise (by decide)⟩
  · rw [State.rejectArm, State.fld, stat_raise_ISR]
    exact (State.fld_setFld_same s _ _ status (by decide)).trans (Nat.mod_eq_of_lt h)
  · rw [State.rejectArm, grpState_congr (stat_raise_ISR _ _)]
    exact State.fld_setFld_field s _ _ _ status (by decide) (by decide)

/-- Settles O6: an arming that passes the three checks is `State.takeArm`, one that fails them is `State.rejectArm` with its status. -/
theorem armTakesLayerOrRejects : Obligations.ArmTakesLayerOrRejects := by
  refine ⟨fun s hl hlead hgrid => ?_, fun s status hcase => ?_⟩
  · have e := exec_arm s
    rw [if_neg (by simp [hl]), if_neg (by omega), if_neg (by simp [hgrid])] at e
    obtain ⟨hstate, hchecking, harmstat⟩ := fields_takeArm s
    have hg := grp_takeArm s
    exact ⟨_, e, only_arm e, hstate, congrArg Group.layer hg, congrArg Group.pmask hg, congrArg Group.yline hg, congrArg Group.n hg,
      congrArg Group.resume hg, congrArg Group.mstart hg, congrArg Group.armedAt hg, congrArg Group.started hg, hchecking, harmstat⟩
  · have e : exec .arm s = .next (s.rejectArm status) := by
      rw [exec_arm]
      rcases hcase with ⟨rfl, hl⟩ | ⟨rfl, hl, hlead⟩ | ⟨rfl, hl, hlead, hgrid⟩
      · rw [if_pos hl]
      · rw [if_neg (by simp [hl]), if_pos hlead]
      · rw [if_neg (by simp [hl]), if_neg (by omega), if_pos (by simp [hgrid])]
    exact ⟨_, e, rejectArm_effect s (by omega)⟩

/-! ### Packets that this device consumes (R202, R203) -/

/-- A packet that this device consumes has its effect in the state that has taken it. -/
theorem receive_taken {s : State} {p : Nat} {k : Packet} {f : State → State} (h : s.consumes p k = true) :
    s.receive p k f = f (s.taken p k) := by
  simp only [State.consumes, Bool.and_eq_true, decide_eq_true_eq] at h
  obtain ⟨⟨hp, ha⟩, h⟩ := h
  cases hb : k.bcast with
  | false =>
    simp only [hb, Bool.false_eq_true, if_false, decide_eq_true_eq] at h
    rw [receive_own hp ha hb h, State.taken, hb, if_neg Bool.false_ne_true]
  | true =>
    simp only [hb, if_true, Bool.and_eq_true, decide_eq_true_eq, Bool.not_eq_true'] at h
    have howe := keeps_State_owe (A := [.port]) (s0 := s) (by decide) p k (Keeps.refl _ s)
    have hhoop : (s.owe p k).hoop = s.hoop := howe.part .hoop rfl
    have hid : (s.owe p k).devid = s.devid := by simp only [State.devid, State.fld, reg_of_same (howe.part .regs rfl)]
    have hmine : (s.rxBroadcast p k).1 = true := by
      simp only [State.rxBroadcast, hhoop, hid, h.1, h.2, decide_false, Bool.false_eq_true, if_false]
    simp only [State.receive, State.taken, hp, ha, hb, hmine, decide_true, Bool.and_self, Bool.not_true, Bool.false_eq_true, if_false, if_true]

theorem keeps_taken {A : List Part} {s0 s : State} (hA : [.hoop, .port] ⊆ A) (p : Nat) (k : Packet) (h : Keeps A s0 s) : Keeps A s0 (s.taken p k) :=
  Keeps.ite (keeps_State_rxBroadcast hA p k h) (keeps_State_owe (subParts hA rfl) p k h)

theorem only_taken (s : State) (p : Nat) (k : Packet) : Only [.hoop, .port] s (s.taken p k) :=
  (keeps_taken (List.Subset.refl _) p k (Keeps.refl _ s)).only

@[simp] theorem regs_taken (s : State) (p : Nat) (k : Packet) : (s.taken p k).regs = s.regs := only_taken s p k .regs (by decide)
@[simp] theorem grp_taken (s : State) (p : Nat) (k : Packet) : (s.taken p k).grp = s.grp := only_taken s p k .grp (by decide)
@[simp] theorem reg_taken (s : State) (p : Nat) (k : Packet) (a : Nat) : (s.taken p k).reg a = s.reg a :=
  reg_of_same (regs_taken s p k) a
@[simp] theorem fld_taken (s : State) (p : Nat) (k : Packet) (a : Nat) (f : Field) : (s.taken p k).fld a f = s.fld a f := by
  rw [State.fld, State.fld, reg_taken]
@[simp] theorem members_taken (s : State) (p : Nat) (k : Packet) : (s.taken p k).members = s.members := fld_taken s p k _ _
@[simp] theorem grpState_taken (s : State) (p : Nat) (k : Packet) : (s.taken p k).grpState = s.grpState := grpState_congr (reg_taken s p k _)
@[simp] theorem layerLive_taken (s : State) (p : Nat) (k : Packet) : (s.taken p k).layerLive = s.layerLive := by simp [State.layerLive]
@[simp] theorem abortIndex_taken (s : State) (p : Nat) (k : Packet) : (s.taken p k).abortIndex = s.abortIndex := by simp [State.abortIndex]
@[simp] theorem layerArmed_taken (s : State) (p : Nat) (k : Packet) : (s.taken p k).layerArmed = s.layerArmed := by
  rw [State.layerArmed, State.layerArmed, State.fld, State.fld, reg_taken]
@[simp] theorem groupOk_taken (s : State) (p : Nat) (k k' : Packet) (kind : Nat) : (s.taken p k).groupOk k' kind = s.groupOk k' kind := by
  unfold State.groupOk
  dsimp only
  rw [members_taken, fld_taken, grp_taken, layerArmed_taken]

/-- A GROUP packet that the device consumes and acts on has its effect in the state that has taken it. -/
theorem onPort_next {s : State} {p : Nat} {k : Packet} {kind : Nat} {f : State → State} (hc : s.consumes p k = true)
    (hk : s.groupOk k kind = true) :
    onUnit p s.hoopLanes 8 s (fun s => s.receive p k fun s => if s.groupOk k kind then f s else s) = .next (f (s.taken p k)) := by
  have hp : p < s.hoopLanes := by
    simp only [State.consumes, Bool.and_eq_true, decide_eq_true_eq] at hc
    exact hc.1.1
  rw [onUnit_next hp (hoopLanes_le s), receive_taken hc, groupOk_taken, if_pos hk]

/-! ### An aborted layer (R43, R44, R46) -/

/-- What an abort leaves of the group unit. -/
def Group.aborted (g : Group) : Group := { g with run := false, started := false, restart := none, decision := 0, sealed := none }

theorem unlost_abortLayer (s : State) (cause kind y mask : Nat) : (s.abortLayer cause kind y mask).grp.unlost = s.grp.aborted.unlost := by
  have hcave (u : State) : (u.caveAbort cause kind).grp = u.grp :=
    (keeps_State_caveAbort (List.Subset.refl _) cause kind (Keeps.refl _ u)).part .grp rfl
  have hstop (u : State) : (u.modGrp fun g => { g with run := false, started := false, restart := none, decision := 0, sealed := none }).grp.unlost =
      u.grp.unlost.aborted := rfl
  unfold State.abortLayer
  dsimp only
  rw [State.raise_grp, each_unchanged (fun u => u.grp.unlost) (fun n _ u => unlost_abortChan u n), hstop, State.setGrpState, State.setFld_grp,
    unlost_post, hcave]
  rfl

theorem grpState_abortLayer (s : State) (cause kind y mask : Nat) : (s.abortLayer cause kind y mask).grpState = 5 := by
  unfold State.abortLayer
  dsimp only
  rw [grpState_congr (stat_raise_ISR _ _), grpState_congr (stat_each_chans (fun _ hn => lt_of_mem_chs hn)
    (fun n u => (RegsBut.refl _ u).abortChan (List.Subset.refl _)) _), grpState_modGrp]
  exact grpState_setGrpState _ (by decide)

theorem abortLayer_effect (s : State) (cause kind y mask : Nat) :
    (s.abortLayer cause kind y mask).grpState = 5 ∧ (s.abortLayer cause kind y mask).grp.run = false ∧
    (s.abortLayer cause kind y mask).grp.started = false ∧ (s.abortLayer cause kind y mask).grp.decision = 0 ∧
    (s.abortLayer cause kind y mask).flag R.SEQ_GRP_ISR F.SEQ_GRP_ISR_ABORT = true := by
  have h := unlost_abortLayer s cause kind y mask
  exact ⟨grpState_abortLayer s cause kind y mask, congrArg Group.run h, congrArg Group.started h, congrArg Group.decision h,
    State.flag_raise_same _ _ _ (by decide) (by decide)⟩

/-! ### A cancelled layer (R45) -/

theorem cancelArmed_effect (s : State) (cause member : Nat) :
    (s.cancelArmed cause member).grpState = 5 ∧ (s.cancelArmed cause member).fld R.SEQ_GRP_STAT F.SEQ_GRP_STAT_ARMSTAT = 7 ∧
    (s.cancelArmed cause member).grp.started = false ∧
    (s.cancelArmed cause member).flag R.SEQ_GRP_ISR F.SEQ_GRP_ISR_ABORT = true := by
  have hstat : (s.cancelArmed cause member).reg R.SEQ_GRP_STAT =
      (((s.each s.chs fun n t => t.unarmChan n).setGrpState 5).setFld R.SEQ_GRP_STAT F.SEQ_GRP_STAT_ARMSTAT 7 |>.setFlag
        R.SEQ_GRP_STAT F.SEQ_GRP_STAT_CHECKING false).reg R.SEQ_GRP_STAT := (stat_raise_ISR _ _).trans (stat_post _ _ _ _ _)
  refine ⟨?_, ?_, ?_, State.flag_raise_same _ _ _ (by decide) (by decide)⟩
  · rw [grpState_congr hstat]
    exact ((State.fld_setFld_field _ _ _ _ _ (by decide) (by decide)).trans (State.fld_setFld_field _ _ _ _ _ (by decide) (by decide))).trans
      (grpState_setGrpState _ (by decide))
  · rw [State.fld, hstat]
    exact (State.fld_setFld_field _ _ _ _ _ (by decide) (by decide)).trans (State.fld_setFld_same _ _ _ _ (by decide))
  · rw [State.cancelArmed, State.raise_grp]
    exact congrArg Group.started (unlost_post _ _ _ _ _)

/-! ### ABORT and GROUP_ABORT (R36, R43, R45) -/

theorem exec_abort (s : State) : exec .abort s = .next
    (if s.layerLive then (s.sendAbort s.abortIndex).abortLayer 3 0 s.abortIndex (2 ^ s.self)
     else if s.grpState = 1 then (s.sendAbort 0xFFFF).cancelArmed 3 s.self
     else s) := rfl

theorem exec_groupAbortReceived {s : State} {port : Nat} {pk : Packet} (hc : s.consumes port pk = true) (hk : s.groupOk pk 5 = true) :
    exec (.groupAbortReceived port pk) s = .next
      (if s.grpState = 3 then (s.taken port pk).abortLayer 4 0 s.abortIndex (2 ^ (groupMsg pk.payload).member)
       else if s.layerLive then
         (s.taken port pk).modGrp fun g => { g with groupAbort := true, abortMask := g.abortMask ||| 2 ^ (groupMsg pk.payload).member }
       else (s.taken port pk).cancelArmed 4 (groupMsg pk.payload).member) := by
  have hx : exec (.groupAbortReceived port pk) s = execGroupAbortReceived port pk s := rfl
  rw [hx, execGroupAbortReceived, onPort_next hc hk, grpState_taken, layerLive_taken, abortIndex_taken]

theorem only_abort {s t : State} (h : exec .abort s = .next t) :
    Only [.regs, .dram, .grp, .armUndo, .chan, .srvAx, .srvCh, .lsr, .hoop, .port, .pci, .ddr, .cave, .xbar, .out] s t :=
  ((keeps_execAbort (List.Subset.refl _) (Keeps.refl _ s)).next t h).only

theorem only_groupAbortReceived {s t : State} {port : Nat} {pk : Packet} (h : exec (.groupAbortReceived port pk) s = .next t) :
    Only [.regs, .dram, .grp, .armUndo, .chan, .srvAx, .srvCh, .lsr, .hoop, .port, .pci, .ddr, .cave, .xbar, .out] s t :=
  ((keeps_execGroupAbortReceived (List.Subset.refl _) port pk (Keeps.refl _ s)).next t h).only

/-- A layer that runs is live, and one that is armed is live once START is decided. -/
theorem layerLive_iff (s : State) : s.layerLive = true ↔ s.grpState = 2 ∨ s.grpState = 3 ∨ (s.grpState = 1 ∧ s.grp.started = true) := by
  simp [State.layerLive, or_assoc]

/-- Settles O12: ABORT and GROUP_ABORT end in `State.abortLayer` or `State.cancelArmed`, or mark the running layer. -/
theorem abortsOfLayers : Obligations.AbortsOfLayers := by
  have habort {s : State} (hl : s.layerLive = true) :
      exec .abort s = .next ((s.sendAbort s.abortIndex).abortLayer 3 0 s.abortIndex (2 ^ s.self)) := by rw [exec_abort, if_pos hl]
  have hcancel {s : State} (hl : s.layerLive = false) (hs : s.grpState = 1) : exec .abort s = .next ((s.sendAbort 0xFFFF).cancelArmed 3 s.self) := by
    rw [exec_abort, if_neg (by simp [hl]), if_pos hs]
  refine ⟨?_, ?_, ?_, ?_, ?_, ?_, ?_, ?_, ?_, ?_⟩
  · intro s hl
    obtain ⟨hstate, hrun, hstarted, -, hflag⟩ := abortLayer_effect (s.sendAbort s.abortIndex) 3 0 s.abortIndex (2 ^ s.self)
    exact ⟨_, habort hl, only_abort (habort hl), hstate, hrun, hstarted, hflag⟩
  · intro s hl hs
    exact ⟨_, hcancel hl hs, only_abort (hcancel hl hs), cancelArmed_effect _ _ _⟩
  · intro s hl
    exact ⟨_, habort hl, only_abort (habort hl), rfl⟩
  · intro s hl hs
    exact ⟨_, hcancel hl hs, only_abort (hcancel hl hs), rfl⟩
  · intro s port pk hc hk hs
    have e := exec_groupAbortReceived hc hk
    rw [if_pos hs] at e
    exact ⟨_, e, only_groupAbortReceived e, rfl⟩
  · intro s port pk hc hk hl hs
    have e := exec_groupAbortReceived hc hk
    rw [if_neg hs, if_pos hl] at e
    exact ⟨_, e, only_groupAbortReceived e, rfl⟩
  · intro s port pk hc hk hl
    have hs : s.grpState ≠ 3 := fun h3 => by simp [(layerLive_iff s).mpr (Or.inr (Or.inl h3))] at hl
    have e := exec_groupAbortReceived hc hk
    rw [if_neg hs, if_neg (by simp [hl])] at e
    exact ⟨_, e, only_groupAbortReceived e, rfl⟩
  · intro s port pk hc hk hs
    have e := exec_groupAbortReceived hc hk
    rw [if_pos hs] at e
    obtain ⟨hstate, hrun, -, -, hflag⟩ := abortLayer_effect (s.taken port pk) 4 0 s.abortIndex (2 ^ (groupMsg pk.payload).member)
    exact ⟨_, e, only_groupAbortReceived e, hstate, hrun, hflag⟩
  · intro s port pk hc hk hs
    have e := exec_groupAbortReceived hc hk
    rw [if_neg (by omega), if_pos ((layerLive_iff s).mpr (Or.inl hs))] at e
    refine ⟨_, e, ?_, by rw [State.modGrp_grp, grp_taken], (grpState_taken s port pk).trans hs, fun a _ => reg_taken s port pk a⟩
    exact (Keeps.upd_grp (by decide) (keeps_taken (by decide) port pk (Keeps.refl _ s))).only
  · intro s port pk hc hk hs hstarted
    have e := exec_groupAbortReceived hc hk
    rw [if_neg (by omega), if_neg (by simp [layerLive_iff, hs, hstarted])] at e
    obtain ⟨hstate, harm, -, -⟩ := cancelArmed_effect (s.taken port pk) 4 (groupMsg pk.payload).member
    exact ⟨_, e, only_groupAbortReceived e, hstate, harm⟩

/-! ### Start votes and the start decision (R33) -/

@[simp] theorem grp_sendGroup (s : State) (kind flags g sg p : Nat) : (s.sendGroup kind flags g sg p).grp = s.grp :=
  (keeps_State_sendGroup (List.Subset.refl _) kind flags g sg p (Keeps.refl _ s)).part .grp rfl

theorem exec_startVote {s : State} (hs : s.grpState = 1) (hv : s.grp.voted = false) (hb : s.beforeStart 125000 = true) :
    exec .startVote s = .next ((s.modGrp fun g =>
      { g with voted := true, startVotes := (s.self, s.allReady) :: g.startVotes }).sendGroup 1 s.allReady.toNat 0 0 0) :=
  (occurs_next (by simp [hs, hv, hb]) : execStartVote s = _)

theorem exec_startVoteReceived {s : State} {port : Nat} {pk : Packet} (hc : s.consumes port pk = true) (hk : s.groupOk pk 1 = true) :
    exec (.startVoteReceived port pk) s = .next ((s.taken port pk).modGrp fun g =>
      { g with startVotes := ((groupMsg pk.payload).member, bitAt (groupMsg pk.payload).flags 0) ::
          g.startVotes.filter (fun v => decide (v.1 ≠ (groupMsg pk.payload).member)) }) :=
  (onPort_next hc hk : execStartVoteReceived port pk s = _)

/-- The layer starts: schedule time takes its start value, the Cave takes the record, the channels begin to decode (R33, R48). -/
def State.decideStart (s : State) : State :=
  let u := (s.modGrp fun g => { g with wakeVote := false }).modGrp fun g =>
    { g with started := true, s := if s.grp.resume = 0 then 0 else s.yieldTime s.grp.resume, p := 0 }
  let t := mtStamp s.grp.mstart
  let v := u.cavePost 0x000A false 0 3 0xFF (leBytes s.grp.resume 4 ++ leBytes s.grp.pmask 4 ++ leBytes t.sec 8 ++ leBytes t.ns 4)
  v.logGaps.each v.participants fun n w => w.beginDecode n

/-- The layer does not start: the members without a READY vote are MISSING (R33). -/
def State.decideRefuse (s : State) : State :=
  ((s.modGrp fun g => { g with wakeVote := false }).setFld R.SEQ_GRP_STAT F.SEQ_GRP_STAT_MISSING s.notReadyMask).modGrp fun g => { g with refused := true }

theorem exec_startDecision {s : State} (hs : s.grpState = 1) (hst : s.grp.started = false) (hr : s.grp.refused = false)
    (hb : s.beforeStart 62500 = true) :
    exec .startDecision s = .next (if s.notReadyMask = 0 then s.decideStart else s.decideRefuse) :=
  (occurs_next (by simp [hs, hst, hr, hb]) : execStartDecision s = _)

theorem grp_decideStart (s : State) : s.decideStart.grp =
    { s.grp with wakeVote := false, started := true, s := if s.grp.resume = 0 then 0 else s.yieldTime s.grp.resume, p := 0 } := by
  have hcave (u : State) (pay : List Byte) : (u.cavePost 0x000A false 0 3 0xFF pay).grp = u.grp :=
    (keeps_State_cavePost (List.Subset.refl _) _ _ _ _ _ _ (Keeps.refl _ u)).part .grp rfl
  have hgaps (u : State) : u.logGaps.grp = u.grp := (keeps_State_logGaps (List.Subset.refl _) (Keeps.refl _ u)).part .grp rfl
  have hdec (n : Nat) (u : State) : (u.beginDecode n).grp = u.grp :=
    (keeps_State_beginDecode (List.Subset.refl _) n (Keeps.refl _ u)).part .grp rfl
  unfold State.decideStart
  dsimp only
  rw [each_unchanged (fun u => u.grp) (fun n _ u => hdec n u), hgaps, hcave]
  rfl

theorem fld_modGrp (s : State) (f : Group → Group) (a : Nat) (p : Field) : (s.modGrp f).fld a p = s.fld a p := rfl

theorem decideRefuse_effect (s : State) (h : s.notReadyMask < 65536) :
    Only [.regs, .grp] s s.decideRefuse ∧ s.decideRefuse.grp = { s.grp with wakeVote := false, refused := true } ∧
    s.decideRefuse.fld R.SEQ_GRP_STAT F.SEQ_GRP_STAT_MISSING = s.notReadyMask ∧ s.decideRefuse.grpState = s.grpState ∧
    RegsBut [R.SEQ_GRP_STAT] s s.decideRefuse := by
  refine ⟨?_, rfl, ?_, ?_, ((RegsBut.refl _ s).modGrp.setFld (by decide)).modGrp⟩
  · exact (Keeps.upd_grp (by decide) (keeps_State_setFld (by decide) _ _ _ (Keeps.upd_grp (by decide) (Keeps.refl _ s)))).only
  · rw [State.decideRefuse, fld_modGrp, State.fld_setFld_same _ _ _ _ (by decide)]
    exact Nat.mod_eq_of_lt h
  · rw [State.decideRefuse, grpState_modGrp, State.grpState, State.fld_setFld_field _ _ _ _ _ (by decide) (by decide)]
    rfl

/-! ### M_start (R20, R33, R48) -/

/-- The layer runs: S counts from its start value on, READY channels enter RUN. -/
def State.runLayer (s : State) : State :=
  let r := s.grp.resume
  let s := s.modGrp fun g =>
    { g with run := true, origin := (g.mstart : Int) - (ticksU g.s : Nat), nextYield := if r = 0 then 0 else r + 1
             decision := if r = 0 then 0 else 1, votes := [], sealed := none, closed := false }
  let s := s.setGrpState 2
  let s := s.each s.participants fun n t => if t.chState n = 3 then (t.enter n 4).sendReadies n else t
  s.syncShadow.raise R.SEQ_GRP_ISR F.SEQ_GRP_ISR_START

/-- The layer was refused: the channels are rewound, the group is Idle with NOT_READY. -/
def State.dropLayer (s : State) : State :=
  let s := s.each s.chs fun n t => t.unarmChan n
  let s := (s.setGrpState 0).setFld R.SEQ_GRP_STAT F.SEQ_GRP_STAT_ARMSTAT 5
  s.raise R.SEQ_GRP_ISR F.SEQ_GRP_ISR_REFUSE

theorem exec_layerStart {s : State} (hs : s.grpState = 1) (hb : s.beforeStart 0 = true) :
    exec .layerStart s = .next (if s.grp.started then s.runLayer else s.dropLayer) :=
  (occurs_next (by simp [hs, hb]) : execLayerStart s = _)

theorem grp_runLayer (s : State) : s.runLayer.grp =
    { s.grp with run := true, origin := (s.grp.mstart : Int) - (ticksU s.grp.s : Nat), nextYield := if s.grp.resume = 0 then 0 else s.grp.resume + 1
                 decision := if s.grp.resume = 0 then 0 else 1, votes := [], sealed := none, closed := false } := by
  have hsync (u : State) : u.syncShadow.grp = u.grp := rfl
  unfold State.runLayer
  dsimp only
  rw [State.raise_grp, hsync, each_unchanged (fun u => u.grp) fun n _ u => ?_]
  · rfl
  · split
    · rw [grp_sendReadies, grp_enter _ _ (by decide)]
    · rfl

theorem grpState_runLayer (s : State) : s.runLayer.grpState = 2 := by
  have hsync (u : State) : u.syncShadow.grpState = u.grpState := rfl
  unfold State.runLayer
  dsimp only
  rw [grpState_congr (stat_raise_ISR _ _), hsync, grpState_congr (stat_each_chans (fun _ hn => lt_of_mem_participants hn) (fun n u =>
    (((RegsBut.refl _ u).enter (List.Subset.refl _)).sendReadies).ite (RegsBut.refl _ u)) _)]
  exact grpState_setGrpState _ (by decide)

theorem grp_dropLayer (s : State) : s.dropLayer.grp = s.grp := by
  rw [State.dropLayer, State.raise_grp]
  exact each_unchanged (fun u => u.grp) (fun n _ u => grp_unarmChan u n) s

theorem dropLayer_effect (s : State) : s.dropLayer.grpState = 0 ∧ s.dropLayer.fld R.SEQ_GRP_STAT F.SEQ_GRP_STAT_ARMSTAT = 5 ∧
    s.dropLayer.flag R.SEQ_GRP_ISR F.SEQ_GRP_ISR_REFUSE = true := by
  refine ⟨?_, ?_, State.flag_raise_same _ _ _ (by decide) (by decide)⟩
  · rw [State.dropLayer, grpState_congr (stat_raise_ISR _ _)]
    exact (State.fld_setFld_field _ _ _ _ _ (by decide) (by decide)).trans (grpState_setGrpState _ (by decide))
  · rw [State.dropLayer, State.fld, stat_raise_ISR]
    exact State.fld_setFld_same _ _ _ _ (by decide)

/-- Settles O8: the votes go into the group unit, the decision and M_start take the branch that the READY votes and START select. -/
theorem layerStartTimeline : Obligations.LayerStartTimeline := by
  refine ⟨?_, ?_, ?_, ?_, ?_, ?_⟩
  · intro s hs hv hb
    have e := exec_startVote hs hv hb
    exact ⟨_, e, ((keeps_execStartVote (List.Subset.refl _) (Keeps.refl _ s)).next _ e).only, grp_sendGroup _ _ _ _ _ _⟩
  · intro s port pk hc hk
    have e := exec_startVoteReceived hc hk
    exact ⟨_, e, ((keeps_execStartVoteReceived (List.Subset.refl _) port pk (Keeps.refl _ s)).next _ e).only,
      by rw [State.modGrp_grp, grp_taken]⟩
  · intro s hs hst hr hb hm
    have e := exec_startDecision hs hst hr hb
    rw [if_pos hm] at e
    have hg := grp_decideStart s
    exact ⟨_, e, ((keeps_execStartDecision (List.Subset.refl _) (Keeps.refl _ s)).next _ e).only, congrArg Group.started hg, congrArg Group.s hg,
      congrArg Group.p hg, congrArg Group.wakeVote hg⟩
  · intro s hs hst hr hb hm hlt
    have e := exec_startDecision hs hst hr hb
    rw [if_neg hm] at e
    obtain ⟨honly, hgrp, hmissing, hstate, hregs⟩ := decideRefuse_effect s hlt
    exact ⟨_, e, honly, hgrp, hmissing, hstate.trans hs, hregs⟩
  · intro s hs hb hst
    have e := exec_layerStart hs hb
    rw [if_pos hst] at e
    have hg := grp_runLayer s
    exact ⟨_, e, ((keeps_execLayerStart (List.Subset.refl _) (Keeps.refl _ s)).next _ e).only, congrArg Group.run hg, (congrArg Group.s hg :),
      congrArg Group.origin hg, congrArg Group.nextYield hg, grpState_runLayer s⟩
  · intro s hs hb hst
    have e := exec_layerStart hs hb
    rw [if_neg (by simp [hst])] at e
    obtain ⟨hstate, harm, hflag⟩ := dropLayer_effect s
    exact ⟨_, e, ((keeps_execLayerStart (List.Subset.refl _) (Keeps.refl _ s)).next _ e).only, hstate, harm, congrArg Group.run (grp_dropLayer s), hflag⟩

/-! ### The participants at a yield (R27, R28, R46) -/

/-- The state at S_g of the decided yield after its participants are checked. -/
def State.atYield (s : State) : State := s.each s.participants fun n t => t.reachYield (s.grp.nextYield - 1) n

theorem unflagged_atYield (s : State) : s.atYield.grp.unflagged = s.grp.unflagged :=
  each_unchanged (fun u => u.grp.unflagged) (fun n _ u => unflagged_reachYield u _ n) s

theorem grpState_atYield (s : State) : s.atYield.grpState = s.grpState :=
  grpState_congr (stat_each_chans (fun _ hn => lt_of_mem_participants hn) (fun _ u => (RegsBut.refl _ u).reachYield (List.Subset.refl _)) s)

theorem time_atYield (s : State) : s.atYield.time = s.time :=
  each_unchanged (fun u => u.time) (fun n _ u => (keeps_State_reachYield (List.Subset.refl _) _ n (Keeps.refl _ u)).part .time rfl) s

theorem waitsAt_congr {s t : State} {n g : Nat} (hr : t.reg (R.SEQ_STAT n) = s.reg (R.SEQ_STAT n)) (hc : t.chan = s.chan) :
    t.waitsAt n g = s.waitsAt n g := by
  rw [State.waitsAt, State.waitsAt, State.chState, State.chState, State.fld, State.fld, State.ch, State.ch, hr, hc]

/-- A waiting channel that reaches the yield leaves every channel's decoded yields. -/
theorem chan_reachYield {s : State} {g n : Nat} (h : s.waitsAt n g = true) : (s.reachYield g n).chan = s.chan := by
  have henter (u : State) (st : Nat) : (u.enter n st).chan = u.chan :=
    (keeps_State_enter (List.Subset.refl _) n st (Keeps.refl _ u)).part .chan rfl
  rw [State.reachYield, if_pos h]
  dsimp only
  rw [henter]
  rfl

/-- Where every channel of a list waits, none of them faults at the yield. -/
theorem unlost_each_reachYield {g : Nat} {l : List Nat} (hl : ∀ n ∈ l, n < 32) (hd : l.Nodup) (s : State)
    (hw : ∀ n ∈ l, s.waitsAt n g = true) : (s.each l fun n t => t.reachYield g n).grp.unlost = s.grp.unlost := by
  induction l generalizing s with
  | nil => rfl
  | cons n l ih =>
    obtain ⟨hn, hd⟩ := List.nodup_cons.mp hd
    have hwn : s.waitsAt n g = true := hw n (by simp)
    refine (ih (fun m hm => hl m (by simp [hm])) hd (s.reachYield g n) fun m hm => ?_).trans (unlost_reachYield hwn)
    have hne : m ≠ n := ne_of_mem_of_not_mem hm hn
    have hreg := (RegsBut.refl (chanRegs n) s).reachYield (g := g) (List.Subset.refl _) (R.SEQ_STAT m)
      (SEQ_STAT_notMem_chanRegs (hl m (by simp [hm])) (hl n (by simp)) hne)
    rw [waitsAt_congr hreg (chan_reachYield hwn)]
    exact hw m (by simp [hm])

theorem abortFlag_atYield {s : State} (hw : ∀ n ∈ s.participants, s.waitsAt n (s.grp.nextYield - 1) = true) :
    s.atYield.grp.abortFlag = s.grp.abortFlag :=
  (congrArg Group.abortFlag (unlost_each_reachYield (fun _ hn => lt_of_mem_participants hn) (List.nodup_range.filter _) s hw) :)

/-! ### YIELD_POINT (R36, R37, R42) -/

theorem exec_yieldPoint {s : State} (hs : s.grpState = 2) (hd : s.grp.decision ≠ 0) (ht : s.grp.s = s.yieldTime (s.grp.nextYield - 1)) :
    exec .yieldPoint s = .next
      (if s.grp.decision = 1 then s.atYield.passYield (s.grp.nextYield - 1)
       else if s.grp.decision = 2 then s.atYield.beginHold
       else s.atYield.abortLayer s.grp.abortCause 0 (s.grp.nextYield - 1) s.grp.abortMask) := by
  have e : exec .yieldPoint s = .next
      (if s.atYield.grp.decision = 1 then s.atYield.passYield (s.grp.nextYield - 1)
       else if s.atYield.grp.decision = 2 then s.atYield.beginHold
       else s.atYield.abortLayer s.atYield.grp.abortCause 0 (s.grp.nextYield - 1) s.atYield.grp.abortMask) := by
    have hx : exec .yieldPoint s = execYieldPoint s := rfl
    rw [hx, execYieldPoint, occurs_next (by simp [hs, hd, ht])]
    rfl
  have h := unflagged_atYield s
  have hdec : s.atYield.grp.decision = s.grp.decision := (congrArg Group.decision h :)
  have hcause : s.atYield.grp.abortCause = s.grp.abortCause := (congrArg Group.abortCause h :)
  have hmask : s.atYield.grp.abortMask = s.grp.abortMask := (congrArg Group.abortMask h :)
  rw [e, hdec, hcause, hmask]

theorem only_yieldPoint {s t : State} (h : exec .yieldPoint s = .next t) :
    Only [.regs, .dram, .grp, .chan, .srvAx, .srvCh, .lsr, .hoop, .port, .pci, .ddr, .cave, .xbar, .out] s t :=
  ((keeps_execYieldPoint (List.Subset.refl _) (Keeps.refl _ s)).next t h).only

theorem passYield_eq (s : State) (g : Nat) : s.passYield g =
    if g + 1 = s.grp.n then
      (if s.grp.abortFlag then (s.modGrp fun u => { u with decision := 0 }).abortLayer 1 0 g (2 ^ s.self)
       else (s.modGrp fun u => { u with decision := 0 }).complete)
    else (s.modGrp fun u => { u with decision := 0 }).each s.participants fun n t => t.leaveYield n := rfl

/-- Before the last yield the waiting channels leave, and S runs on. -/
theorem passYield_before_end {s : State} {g : Nat} (h : g + 1 ≠ s.grp.n) :
    (s.passYield g).grp = { s.grp with decision := 0 } ∧ (s.passYield g).grpState = s.grpState := by
  have hgrp (u : State) (l : List Nat) : (u.each l fun n t => t.leaveYield n).grp = u.grp :=
    each_unchanged (fun u => u.grp) (fun n _ u => grp_leaveYield u n) u
  rw [passYield_eq, if_neg h, hgrp]
  exact ⟨rfl, grpState_congr (stat_each_chans (fun _ hn => lt_of_mem_participants hn) (fun _ u => (RegsBut.refl _ u).leaveYield (List.Subset.refl _)) _)⟩

theorem passYield_at_end {s : State} {g : Nat} (h : g + 1 = s.grp.n) (ha : s.grp.abortFlag = false) :
    s.passYield g = (s.modGrp fun u => { u with decision := 0 }).complete := by
  rw [passYield_eq, if_pos h, if_neg (by simp [ha])]

/-- What the end of a layer leaves of the group unit. -/
def Group.ended (g : Group) : Group := { g with run := false, started := false, decision := 0 }

/-- A channel leaves the end yield, or a state without a layer, for IDLE (R42, R115). -/
def State.leaveEnd (s : State) (n : Nat) : State :=
  if s.chState n = 5 || s.chState n = 6 then (s.releaseLatched n).enter n 1
  else if s.chState n = 8 || s.chState n = 9 then s.enter n 1 else s

theorem grp_leaveEnd (s : State) (n : Nat) : (s.leaveEnd n).grp = s.grp := by
  unfold State.leaveEnd
  split
  · rw [grp_enter _ _ (by decide), grp_releaseLatched]
  · split
    · exact grp_enter s n (by decide)
    · rfl

theorem regsBut_leaveEnd (s : State) (n : Nat) : RegsBut (chanRegs n) s (s.leaveEnd n) :=
  (((RegsBut.refl _ s).releaseLatched (List.Subset.refl _)).enter (List.Subset.refl _)).ite
    (((RegsBut.refl _ s).enter (List.Subset.refl _)).ite (RegsBut.refl _ s))

/-- The state of a complete layer before its channels leave the end yield: S stops, the records are posted (R42, R442). -/
def State.layerEnd (s : State) : State :=
  let u := (s.modGrp Group.ended).setGrpState 4
  let holds := u.fld R.SEQ_GRP_HOLDS F.SEQ_GRP_HOLDS_COUNT
  let v := u.syncShadow.post 0xFF00 0xFF u.grp.p holds
  v.cavePost 0x000B false 0 3 0xFF (leBytes v.grp.p 6 ++ [0, 0] ++ leBytes holds 4)

theorem complete_eq (s : State) :
    s.complete = (s.layerEnd.each s.layerEnd.chs fun n t => t.leaveEnd n).raise R.SEQ_GRP_ISR F.SEQ_GRP_ISR_COMPLETE := rfl

theorem unlost_layerEnd (s : State) : s.layerEnd.grp.unlost = s.grp.ended.unlost := by
  have hcave (u : State) (pay : List Byte) : (u.cavePost 0x000B false 0 3 0xFF pay).grp = u.grp :=
    (keeps_State_cavePost (List.Subset.refl _) _ _ _ _ _ _ (Keeps.refl _ u)).part .grp rfl
  rw [State.layerEnd, hcave, unlost_post]
  rfl

theorem grpState_layerEnd (s : State) : s.layerEnd.grpState = 4 := by
  have hcave (u : State) (pay : List Byte) : (u.cavePost 0x000B false 0 3 0xFF pay).grpState = u.grpState :=
    grpState_congr ((RegsBut.refl _ u).cavePost (List.Subset.refl _) _ (by decide))
  rw [State.layerEnd, hcave, grpState_congr (stat_post _ _ _ _ _)]
  exact grpState_setGrpState (s.modGrp Group.ended) (by decide)

theorem run_eq_of_unlost {g h : Group} (e : g.unlost = h.unlost) : g.run = h.run := (congrArg Group.run e :)

theorem complete_effect (s : State) : s.complete.grp.run = false ∧ s.complete.grpState = 4 ∧
    s.complete.flag R.SEQ_GRP_ISR F.SEQ_GRP_ISR_COMPLETE = true := by
  rw [complete_eq]
  refine ⟨?_, ?_, State.flag_raise_same _ _ _ (by decide) (by decide)⟩
  · rw [State.raise_grp, each_unchanged (fun u => u.grp) (fun n _ u => grp_leaveEnd u n)]
    exact run_eq_of_unlost (unlost_layerEnd s)
  · rw [grpState_congr (stat_raise_ISR _ _), grpState_congr (stat_each_chans (fun _ hn => lt_of_mem_chs hn) (fun n u => regsBut_leaveEnd u n) _),
      grpState_layerEnd]

/-- S stops; a member without a cause of its own sends no event, and the holders are those that voted HOLD (R36, R37). -/
theorem beginHold_effect {s : State} (h : s.grp.ownHold = false) : s.beginHold.grp.run = false ∧ s.beginHold.grpState = 3 ∧
    s.beginHold.grp.holdAt = s.time.mt ∧ s.beginHold.grp.holders = s.grp.held.map (fun v => (v.1, 0, true)) ∧
    s.beginHold.flag R.SEQ_GRP_ISR F.SEQ_GRP_ISR_HOLD = true := by
  have hcount (u : State) : (u.satAdd R.SEQ_GRP_HOLDS F.SEQ_GRP_HOLDS_COUNT 1).grpState = u.grpState :=
    grpState_congr (State.reg_setFld_ne _ _ _ _ _ (by decide))
  rw [State.beginHold, if_neg (by simp [h])]
  refine ⟨by rw [State.raise_grp]; rfl, ?_, by rw [State.raise_grp]; rfl, by rw [State.raise_grp]; rfl, State.flag_raise_same _ _ _ (by decide) (by decide)⟩
  rw [grpState_congr (stat_raise_ISR _ _), hcount]
  exact grpState_setGrpState _ (by decide)

/-- Settles O10: the participants' check touches of the group unit its abort flag and its count of lost records alone, so the decision
taken before it is carried out on the state it leaves. -/
theorem yieldPointPassHoldAbort : Obligations.YieldPointPassHoldAbort := by
  have hpass {s : State} (hs : s.grpState = 2) (hd : s.grp.decision = 1) (ht : s.grp.s = s.yieldTime (s.grp.nextYield - 1)) :
      exec .yieldPoint s = .next (s.atYield.passYield (s.grp.nextYield - 1)) := by
    rw [exec_yieldPoint hs (by omega) ht, if_pos hd]
  have hhold {s : State} (hs : s.grpState = 2) (hd : s.grp.decision = 2) (ht : s.grp.s = s.yieldTime (s.grp.nextYield - 1)) :
      exec .yieldPoint s = .next s.atYield.beginHold := by
    rw [exec_yieldPoint hs (by omega) ht, if_neg (by omega), if_pos hd]
  have habort {s : State} (hs : s.grpState = 2) (hd : s.grp.decision = 3) (ht : s.grp.s = s.yieldTime (s.grp.nextYield - 1)) :
      exec .yieldPoint s = .next (s.atYield.abortLayer s.grp.abortCause 0 (s.grp.nextYield - 1) s.grp.abortMask) := by
    rw [exec_yieldPoint hs (by omega) ht, if_neg (by omega), if_neg (by omega)]
  refine ⟨?_, ?_, ?_, ?_, ?_, ?_, ?_⟩
  · intro s hs hd ht hn
    have e := hpass hs hd ht
    have h := unflagged_atYield s
    have hN : s.atYield.grp.n = s.grp.n := (congrArg Group.n h :)
    obtain ⟨hgrp, hstate⟩ := passYield_before_end (s := s.atYield) (g := s.grp.nextYield - 1) (by omega)
    exact ⟨_, e, only_yieldPoint e, congrArg Group.decision hgrp, (congrArg Group.votes hgrp :).trans (congrArg Group.votes h :),
      (congrArg Group.run hgrp :).trans (congrArg Group.run h :), hstate.trans ((grpState_atYield s).trans hs)⟩
  · intro s hs hd ht hn ha hw
    have e := hpass hs hd ht
    have hN : s.atYield.grp.n = s.grp.n := (congrArg Group.n (unflagged_atYield s) :)
    rw [passYield_at_end (by omega) ((abortFlag_atYield hw).trans ha)] at e
    exact ⟨_, e, only_yieldPoint e, complete_effect _⟩
  · intro s hs hd ht ho
    have e := hhold hs hd ht
    have h := unflagged_atYield s
    have hheld : s.atYield.grp.held = s.grp.held := (congrArg Group.held h :)
    obtain ⟨hrun, hstate, hat, hholders, hflag⟩ := beginHold_effect (s := s.atYield) ((congrArg Group.ownHold h :).trans ho)
    rw [time_atYield] at hat
    rw [hheld] at hholders
    exact ⟨_, e, only_yieldPoint e, hrun, hstate, hat, hholders, hflag⟩
  · intro s hs hd ht
    have e := habort hs hd ht
    obtain ⟨hstate, hrun, -, hdec, hflag⟩ := abortLayer_effect s.atYield s.grp.abortCause 0 (s.grp.nextYield - 1) s.grp.abortMask
    exact ⟨_, e, only_yieldPoint e, hrun, hstate, hdec, hflag⟩
  · intro s hs hd ht
    exact ⟨_, hpass hs hd ht, only_yieldPoint (hpass hs hd ht), rfl⟩
  · intro s hs hd ht
    exact ⟨_, hhold hs hd ht, only_yieldPoint (hhold hs hd ht), rfl⟩
  · intro s hs hd ht
    exact ⟨_, habort hs hd ht, only_yieldPoint (habort hs hd ht), rfl, grpState_abortLayer _ _ _ _ _⟩

/-! ### An accepted arming forgets what a rejection would give back (R30) -/

theorem exec_armingCheckDone {s : State} (hc : s.flag R.SEQ_GRP_STAT F.SEQ_GRP_STAT_CHECKING = true) (hs : s.grpState = 1) (ht : s.tableOk = true) :
    exec .armingCheckDone s = .next
      (((({ s with armUndo := none } : State).setFlag R.SEQ_GRP_STAT F.SEQ_GRP_STAT_CHECKING false).setFld
        R.SEQ_GRP_STAT F.SEQ_GRP_STAT_ARMSTAT 1).raise R.SEQ_GRP_ISR F.SEQ_GRP_ISR_ACCEPT) := by
  have hx : exec .armingCheckDone s = execArmingCheckDone s := rfl
  rw [hx, execArmingCheckDone, occurs_next (by rw [hc, hs]; rfl), if_pos ht]

/-- A group Armed and checking a table of one yield, S_0 = 50,000, with the state before the arm command saved. -/
def checkingArm : State :=
  let s : State := { State.reset with grp := { Group.reset with n := 1 }, armUndo := some State.reset.armSaved, dram := [(0, 0x50), (1, 0xC3)] }
  ((s.setFld R.SEQ_GRP_STAT F.SEQ_GRP_STAT_STATE 1).setFlag R.SEQ_GRP_STAT F.SEQ_GRP_STAT_CHECKING true).setFlag
    R.DDR_STAT F.DDR_STAT_READY true

theorem checkingArm_passes : checkingArm.flag R.SEQ_GRP_STAT F.SEQ_GRP_STAT_CHECKING = true ∧ checkingArm.grpState = 1 ∧
    checkingArm.tableOk = true := by decide

/-- Refutes O7: its first clause lets only registers, pending interrupts and messages change, but accepting an arming also drops the
state that the arm command has saved for a rejection. -/
theorem not_armingChecksEnd : ¬ Obligations.ArmingChecksEnd := by
  rintro ⟨haccept, -⟩
  obtain ⟨hc, hs, ht⟩ := checkingArm_passes
  obtain ⟨t, e, honly, -⟩ := haccept checkingArm hc hs ht
  rw [exec_armingCheckDone hc hs ht] at e
  obtain rfl := Host.Outcome.next.inj e
  have hdropped : (none : Option ArmUndo) = some State.reset.armSaved :=
    ((keeps_State_raise (A := irqParts) (by decide) _ _ (Keeps.refl _ _)).part .armUndo rfl).symm.trans (honly .armUndo (by decide))
  simp at hdropped

/-! ### A yield vote reaches a group that is only armed (R36) -/

/-- Outside Running and Holding a yield vote leaves the group unit. -/
theorem exec_yieldVoteReceived_armed {s : State} {port : Nat} {pk : Packet} (hc : s.consumes port pk = true) (hs : s.grpState = 1) :
    exec (.yieldVoteReceived port pk) s = .next (s.taken port pk) := by
  have hp : port < s.hoopLanes := by
    simp only [State.consumes, Bool.and_eq_true, decide_eq_true_eq] at hc
    exact hc.1.1
  have hx : exec (.yieldVoteReceived port pk) s = execYieldVoteReceived port pk s := rfl
  rw [hx, execYieldVoteReceived, onUnit_next hp (hoopLanes_le s), receive_taken hc, if_neg (by simp [hs])]

/-- Hoop port 0 is Active, member 1 is device 7, the group is Armed, and the group unit's S counts. -/
def armedAndCounting : State :=
  let s := (State.reset.setFld R.SEQ_GRP_STAT F.SEQ_GRP_STAT_STATE 1).setFld (R.HOOP_PT_STAT 0) F.HOOP_PT_STAT_STATE 2
  ((s.setFld R.SEQ_GRP_CFG F.SEQ_GRP_CFG_MEMBERS 2).setFld (R.SEQ_GRP_MID 1) F.SEQ_GRP_MID_DEVID 7).modGrp fun g => { g with run := true }

/-- The broadcast yield vote of member 1 for yield 0, with a hold request. -/
def holdVote : Packet := ⟨0x12, true, 3, 0, 7, 0, 0, [2, 1, 1] ++ zeros 37⟩

theorem holdVote_counts : armedAndCounting.consumes 0 holdVote = true ∧ armedAndCounting.groupOk holdVote 2 = true ∧
    armedAndCounting.grpState = 1 ∧ (groupMsg holdVote.payload).g = armedAndCounting.grp.nextYield := by decide

/-- Refutes O9: the clause on a vote received while `grp.run` holds does not ask for Running or Holding, and YIELD_VOTE_RECEIVED goes by
the group's state: in `armedAndCounting` it records no vote. -/
theorem not_yieldVoteAndDecision : ¬ Obligations.YieldVoteAndDecision := by
  rintro ⟨-, hvote, -⟩
  obtain ⟨hc, hk, hs, hg⟩ := holdVote_counts
  obtain ⟨t, e, -, hgrp⟩ := hvote armedAndCounting 0 holdVote hc hk rfl hg rfl rfl
  rw [exec_yieldVoteReceived_armed hc hs] at e
  obtain rfl := Host.Outcome.next.inj e
  rw [grp_taken] at hgrp
  have hvotes : armedAndCounting.grp.votes.length = 1 := congrArg (fun g : Group => g.votes.length) hgrp
  exact absurd hvotes (by decide)

/-! ### A source written in Deep Sleep wakes the device, and its domains go to HOLDOVER (R225, R425) -/

/-- The reset state in Deep Sleep. -/
def deepSleep : State := State.reset.setFld R.PWR_STATE F.PWR_STATE_CUR 3

/-- The write of the source of a free grandmaster. -/
def freeSource : Word := withField F.TIM_D_CFG_SRC 0 2

theorem timDCfgWrite_deepSleep : ∃ t, exec (.timDCfgWrite 0 freeSource) deepSleep = .next t ∧
    t.fld (R.TIM_D_STAT 0) F.TIM_D_STAT_STATE = 3 := ⟨_, rfl, by decide⟩

/-- Refutes O32: its first clause has TIM_D_CFG_WRITE leave a domain with SRC 2 LOCKED in every state. In Deep Sleep the new source is
a rising vote for HOOP, which wakes the device, and the wake puts each domain with a source into HOLDOVER. -/
theorem not_domainsCalendarAndPps : ¬ Obligations.DomainsCalendarAndPps := by
  rintro ⟨hsource, -⟩
  obtain ⟨t, e, -, -, hlocked⟩ := hsource deepSleep 0 freeSource (by decide) (by decide)
  obtain ⟨u, eu, hholdover⟩ := timDCfgWrite_deepSleep
  obtain rfl := Host.Outcome.next.inj (e.symm.trans eu)
  rw [hholdover] at hlocked
  exact absurd hlocked (by decide)

end Sys2Proof.Machine

/-! # Curd instructions, the layer's timed effects and the camera -/

namespace Sys2Proof.Machine

-- As above: the proofs of this part are elaborated one after another, which keeps the check within its memory.
set_option deprecated.oldSectionVars true

/-! ### A step that changes one channel -/

/-- From s to t nothing but channel n has changed, and that channel is now c. -/
structure ChanStep (s : State) (n : Nat) (c : Chan) (t : State) : Prop where
  only : Only [.chan] s t
  here : t.ch n = c
  others : UnitsBut State.ch n s t

theorem ChanStep.refl (s : State) (n : Nat) : ChanStep s n (s.ch n) s := ⟨Only.refl _ s, rfl, fun _ _ => rfl⟩

theorem ChanStep.trans {s t u : State} {n : Nat} {c d : Chan} (h : ChanStep s n c t) (k : ChanStep t n d u) : ChanStep s n d u :=
  ⟨fun p hp => (h.only p hp).trans (k.only p hp), k.here, fun m hm => (k.others m hm).trans (h.others m hm)⟩

theorem only_modCh (s : State) (n : Nat) (f : Chan → Chan) : Only [.chan] s (s.modCh n f) :=
  (keeps_State_modCh (List.Subset.refl _) n f (Keeps.refl _ s)).only

theorem ChanStep.modCh {s t : State} {n : Nat} {c : Chan} (h : ChanStep s n c t) (f : Chan → Chan) : ChanStep s n (f c) (t.modCh n f) :=
  h.trans ⟨only_modCh t n f, by rw [State.ch_modCh_same, h.here], fun m hm => by rw [State.ch_modCh, if_neg hm]⟩

theorem ChanStep.part {s t : State} {n : Nat} {c : Chan} (h : ChanStep s n c t) (p : Part) (hp : p ≠ .chan) : Same p s t :=
  h.only p (by simpa using hp)

/-! ### Checking feed entries (R108) -/

/-- The channel without its notes of which entries have been checked. -/
def Chan.unchecked (c : Chan) : Chan := { c with feed := c.feed.map fun e => { e with checked := false } }

theorem Chan.wordAt_unchecked (c : Chan) (k : Nat) : c.unchecked.wordAt k = c.wordAt k := by
  have hfeed : c.unchecked.feed = c.feed.map fun e => { e with checked := false } := rfl
  have hdec : c.unchecked.dec = c.dec := rfl
  have hskip : c.unchecked.skip = c.skip := rfl
  have hline (l : Loc) : c.unchecked.lineOf l = c.lineOf l := rfl
  simp only [Chan.wordAt, hfeed, hdec, hskip, hline, List.getElem?_map]
  cases c.feed[c.skip + ((c.dec.loc.word + k) / 8 - c.dec.loc.word / 8)]? <;> rfl

theorem Chan.wordAt_congr {c d : Chan} (h : c.unchecked = d.unchecked) (k : Nat) : c.wordAt k = d.wordAt k := by
  rw [← c.wordAt_unchecked, h, d.wordAt_unchecked]

theorem Chan.endOf_congr {c d : Chan} (h : c.unchecked = d.unchecked) (b : Bool) : c.endOf b = d.endOf b := by
  have e : c.unchecked.endOf b = d.unchecked.endOf b := by rw [h]
  exact e

theorem Chan.dec_congr {c d : Chan} (h : c.unchecked = d.unchecked) : c.dec = d.dec := (congrArg Chan.dec h :)

/-- No scrubbed word outside the table SRAM is met by the decoder of a channel (R393). -/
def State.feedClean (s : State) (n : Nat) : Bool := s.intg.hidden.all fun e => !(decide (e.1 = 0) && decide (Config.wordHome 0 e.2 = n))

theorem hiddenUe_of_feedClean {s : State} {n : Nat} (h : s.feedClean n = true) : s.hiddenUe 0 n n = (false, s) := by
  have hnone : s.intg.hidden.find? (fun e => decide (e.1 = 0) && decide (Config.wordHome 0 e.2 = n)) = none := by
    simpa only [List.find?_eq_none, State.feedClean, List.all_eq_true, Bool.not_eq_true', Bool.not_eq_true] using h
  unfold State.hiddenUe
  rw [hnone]

theorem hiddenUe_of_fst {s : State} {cls unit chn : Nat} (h : (s.hiddenUe cls unit chn).1 = false) : s.hiddenUe cls unit chn = (false, s) := by
  unfold State.hiddenUe at h ⊢
  split
  · next e he => simp [he] at h
  · rfl

/-- Note an entry as checked. -/
def markAt (l : List FeedEntry) (i : Nat) : List FeedEntry :=
  match l[i]? with
  | some e => setNth l i { e with checked := true }
  | none => l

theorem marked_eq (c : Chan) (m : Nat) : c.marked m = { c with feed := (c.slotsOf m).foldl markAt c.feed } := rfl

theorem getElem?_markAt (l : List FeedEntry) (i j : Nat) :
    (markAt l i)[j]? = if j = i then l[j]?.map (fun e => { e with checked := true }) else l[j]? := by
  unfold markAt
  by_cases hj : j = i
  · subst hj
    cases h : l[j]? with
    | none => simp [h]
    | some e =>
      have hl : j < l.length := (List.getElem?_eq_some_iff.mp h).1
      simp [setNth, hl]
  · cases h : l[i]? with
    | none => simp [hj]
    | some e => simp [setNth, hj, Ne.symm hj]

theorem getElem?_foldl_markAt (is : List Nat) (l : List FeedEntry) (j : Nat) :
    (is.foldl markAt l)[j]? = if j ∈ is then l[j]?.map (fun e => { e with checked := true }) else l[j]? := by
  induction is generalizing l with
  | nil => simp
  | cons i is ih =>
    rw [List.foldl_cons, ih, getElem?_markAt]
    by_cases hj : j = i
    · subst hj
      by_cases hm : j ∈ is <;> simp [hm, Option.map_map, Function.comp_def]
    · simp [hj]

theorem markAt_of_checked {l : List FeedEntry} {i : Nat} {e : FeedEntry} (he : l[i]? = some e) (hc : e.checked = true) : markAt l i = l := by
  refine List.ext_getElem? fun j => ?_
  rw [getElem?_markAt]
  by_cases hj : j = i
  · subst hj
    simp [he, ← hc]
  · simp [hj]


theorem markAt_of_some {l : List FeedEntry} {i : Nat} {e : FeedEntry} (he : l[i]? = some e) :
    markAt l i = setNth l i { e with checked := true } := by
  unfold markAt
  rw [he]

theorem unchecked_markAt (c : Chan) (i : Nat) : ({ c with feed := markAt c.feed i } : Chan).unchecked = c.unchecked := by
  have h : (markAt c.feed i).map (fun e => { e with checked := false }) = c.feed.map (fun e => { e with checked := false }) := by
    refine List.ext_getElem? fun j => ?_
    rw [List.getElem?_map, getElem?_markAt, List.getElem?_map]
    split <;> simp [Option.map_map, Function.comp_def]
  simp only [Chan.unchecked, h]

theorem feedCheck_missing {s : State} {n i : Nat} {is : List Nat} (he : (s.ch n).feed[i]? = none) :
    s.feedCheck n (i :: is) = s.feedCheck n is := by
  rw [State.feedCheck, he]

theorem feedCheck_skips {s : State} {n i : Nat} {is : List Nat} {e : FeedEntry} (he : (s.ch n).feed[i]? = some e)
    (hc : (!e.arrived || e.checked) = true) : s.feedCheck n (i :: is) = s.feedCheck n is := by
  rw [State.feedCheck, he]
  exact if_pos hc

theorem feedCheck_marks {s : State} {n i : Nat} {is : List Nat} {e : FeedEntry} (he : (s.ch n).feed[i]? = some e)
    (hc : ¬(!e.arrived || e.checked) = true) (hu : s.hiddenUe 0 n n = (false, s)) (hs : e.sound = true) :
    s.feedCheck n (i :: is) = (s.modCh n fun c => { c with feed := markAt c.feed i }).feedCheck n is := by
  rw [State.feedCheck, he]
  simp only [if_neg hc, hu, hs, Bool.not_false, Bool.and_self, if_true]
  simp only [State.modCh, markAt_of_some he]

theorem feedCheck_fails {s : State} {n i : Nat} {is : List Nat} {e : FeedEntry} (he : (s.ch n).feed[i]? = some e)
    (hc : ¬(!e.arrived || e.checked) = true) (hu : ((s.hiddenUe 0 n n).1 = true) ∨ e.sound = false) : (s.feedCheck n (i :: is)).1 = false := by
  rw [State.feedCheck, he]
  simp only [if_neg hc]
  rcases hu with hu | hs
  · simp [hu]
  · simp [hs]

/-- The checks of a list of entries that are all in the feed and sound note each of them as checked, and do nothing else. -/
theorem feedCheck_of_sound {n : Nat} (is : List Nat) {s : State} (hh : s.feedClean n = true)
    (hp : ∀ i ∈ is, ∃ e, (s.ch n).feed[i]? = some e ∧ (e.arrived && (e.checked || e.sound)) = true) :
    (s.feedCheck n is).1 = true ∧ ChanStep s n { s.ch n with feed := is.foldl markAt (s.ch n).feed } (s.feedCheck n is).2 := by
  induction is generalizing s with
  | nil => exact ⟨rfl, ChanStep.refl s n⟩
  | cons i is ih =>
    obtain ⟨e, he, hpass⟩ := hp i (by simp)
    rw [List.foldl_cons]
    by_cases hc : (!e.arrived || e.checked) = true
    · have hchecked : e.checked = true := by
        simp only [Bool.and_eq_true] at hpass
        simpa [hpass.1] using hc
      rw [feedCheck_skips he hc, markAt_of_checked he hchecked]
      exact ih hh fun j hj => hp j (by simp [hj])
    · have hs : e.sound = true := by
        cases ha : e.arrived <;> cases hk : e.checked <;> simp_all
      rw [feedCheck_marks he hc (hiddenUe_of_feedClean hh) hs]
      have hrest : ∀ j ∈ is, ∃ x, ((s.modCh n fun c => { c with feed := markAt c.feed i }).ch n).feed[j]? = some x ∧
          (x.arrived && (x.checked || x.sound)) = true := fun j hj => by
        obtain ⟨x, hx, hxp⟩ := hp j (by simp [hj])
        rw [State.ch_modCh_same, getElem?_markAt, hx]
        split
        · exact ⟨_, rfl, by simpa using (Bool.and_eq_true .. ▸ hxp).1⟩
        · exact ⟨x, rfl, hxp⟩
      obtain ⟨h1, h2⟩ := ih (s := s.modCh n fun c => { c with feed := markAt c.feed i }) hh hrest
      have hstep := ((ChanStep.refl s n).modCh fun c => { c with feed := markAt c.feed i }).trans h2
      rw [State.ch_modCh_same] at hstep
      exact ⟨h1, hstep⟩

/-- Checks that pass change nothing but the channel's notes of what has been checked. -/
theorem feedCheck_passes {n : Nat} (is : List Nat) {s : State} (h : (s.feedCheck n is).1 = true) :
    Only [.chan] s (s.feedCheck n is).2 ∧ ((s.feedCheck n is).2.ch n).unchecked = (s.ch n).unchecked := by
  induction is generalizing s with
  | nil => exact ⟨Only.refl _ s, rfl⟩
  | cons i is ih =>
    cases he : (s.ch n).feed[i]? with
    | none =>
      rw [feedCheck_missing he] at h ⊢
      exact ih h
    | some e =>
      by_cases hc : (!e.arrived || e.checked) = true
      · rw [feedCheck_skips he hc] at h ⊢
        exact ih h
      · by_cases hu : (s.hiddenUe 0 n n).1 = true ∨ e.sound = false
        · rw [feedCheck_fails he hc hu] at h
          exact absurd h (by decide)
        · simp only [not_or, Bool.not_eq_true, Bool.not_eq_false] at hu
          rw [feedCheck_marks he hc (hiddenUe_of_fst hu.1) hu.2] at h ⊢
          obtain ⟨honly, hsame⟩ := ih h
          exact ⟨fun p hp => (only_modCh s n _ p hp).trans (honly p hp), by rw [hsame, State.ch_modCh_same, unchecked_markAt]⟩

/-! ### A legal instruction at the decoder (R58) -/

theorem Chan.mem_slotsOf {c : Chan} {m i : Nat} (_ : 0 < m) (h : i ∈ c.slotsOf 1) : i ∈ c.slotsOf m := by
  simp only [Chan.slotsOf, Nat.add_sub_cancel, Nat.sub_self, Nat.zero_add, List.mem_map, List.mem_range] at h ⊢
  obtain ⟨j, hj, rfl⟩ := h
  exact ⟨j, by omega, rfl⟩

theorem Chan.wordAt_of_wordsAt {c : Chan} {ws : List Nat} (hm : 0 < ws.length) (h : c.wordsAt ws.length = some ws) :
    c.wordAt 0 = some (wd ws 0) := by
  obtain ⟨k, hk⟩ : ∃ k, ws.length = k + 1 := ⟨ws.length - 1, by omega⟩
  rw [Chan.wordsAt, hk, List.range_succ_eq_map, List.mapM_cons] at h
  cases h0 : c.wordAt 0 with
  | none => simp [h0] at h
  | some w =>
    simp only [h0, Option.bind_eq_bind, Option.bind_some, Option.pure_def, Option.bind_eq_some_iff, Option.some.injEq] at h
    obtain ⟨ts, -, rfl⟩ := h
    rfl

theorem Chan.wordsAt_congr {c d : Chan} (h : c.unchecked = d.unchecked) (m : Nat) : c.wordsAt m = d.wordsAt m := by
  rw [Chan.wordsAt, Chan.wordsAt, funext (Chan.wordAt_congr h)]

/-- A legal instruction that stands complete and sound at the decoder takes its effect, in the state in which its curd is open. -/
theorem decodeOn_of_mayDecode {s : State} {n op : Nat} {ws : List Nat} (f : List Nat → State → State) (h : s.mayDecode n op ws = true) :
    decodeOn n op s f = .next (f ws (s.opened n ws.length)) := by
  simp only [State.mayDecode, State.mayRead, Bool.and_eq_true, Bool.not_eq_true', decide_eq_true_eq] at h
  obtain ⟨⟨⟨⟨⟨⟨⟨⟨⟨⟨hn, hdec⟩, hread⟩, hpos⟩, hws⟩, hend⟩, hop⟩, hrun⟩, hlast⟩, hlate⟩, hrow⟩ := h
  cases hr : opRow op with
  | none => simp [hr] at hrow
  | some row =>
    simp only [hr, Bool.and_eq_true, decide_eq_true_eq] at hrow
    obtain ⟨⟨⟨hext, hmasks⟩, hres⟩, hrange⟩ := hrow
    have hrop : row.op = op := by simpa using List.find?_some hr
    rw [decodeOn, onUnit_next hn (channels_le s)]
    simp only [hr]
    simp only [State.readied, Bool.and_eq_true] at hread hws hend
    obtain ⟨hfirst, hall⟩ := hread
    generalize hF : s.feedCheck n ((s.ch n).slotsOf 1) = first at *
    generalize hA : first.2.feedCheck n ((first.2.ch n).slotsOf ws.length) = all at *
    have hsame : (all.2.ch n).unchecked = (first.2.ch n).unchecked := by
      rw [← hA]
      exact (feedCheck_passes _ (by rw [hA]; exact hall)).2
    have hu : s.opened n ws.length = all.2.openCurd n := by simp only [State.opened, State.readied, hF, hA]
    have hw : (first.2.ch n).wordAt 0 = some (wd ws 0) := by
      rw [← Chan.wordAt_congr hsame]; exact Chan.wordAt_of_wordsAt hpos hws
    have hmin : min ws.length ((all.2.ch n).endOf (all.2.ch n).dec.loc.lib - (all.2.ch n).dec.loc.word) = ws.length := by omega
    have hused : (first.2.ch n).usedWords (wd ws 0) row = ws.length := by
      rw [Chan.usedWords, hmasks, if_pos hext, ← Chan.endOf_congr hsame, ← Chan.dec_congr hsame, hmin]
    have hdw : all.2.decodeWords n row (wd ws 0) ws f = f ws (s.opened n ws.length) := by
      rw [hu] at hrun hlast hlate hrange ⊢
      rw [State.decodeWords]
      simp only [hrun, hlast, hlate, hrange, hres, hext, hmasks, hmin, hrop, Bool.false_and, Bool.not_true, Bool.false_eq_true, if_false,
        ne_eq, not_true_eq_false, lt_self_iff_false]
    rw [State.decodeWith]
    simp only [hdec, hF, hA, hfirst, hall, hw, hused, hws, hop, hrop, hdw, Bool.not_true, Bool.false_eq_true, if_false, ne_eq,
      not_true_eq_false]

theorem exec_of_mayDecode {s u t : State} {i : Instr} {n op : Nat} {ws : List Nat} {f : List Nat → State → State}
    (hx : exec i s = decodeOn n op s f) (h : s.mayDecode n op ws = true) (hu : s.opened n ws.length = u) (hf : f ws u = t) :
    exec i s = .next t := by
  rw [hx, decodeOn_of_mayDecode f h, hu, hf]

/-- Lines that are sound pass their checks, and are noted as checked. -/
theorem readied_of_feedSound {s : State} {n m : Nat} (hm : 0 < m) (h : s.feedSound n m = true) :
    (s.readied n m).1 = true ∧ ChanStep s n ((s.ch n).marked m) (s.readied n m).2 := by
  simp only [State.feedSound, Bool.and_eq_true] at h
  obtain ⟨hall, hclean⟩ := h
  have hsound : ∀ i ∈ (s.ch n).slotsOf m, ∃ e, (s.ch n).feed[i]? = some e ∧ (e.arrived && (e.checked || e.sound)) = true := fun i hi => by
    have hi := List.all_eq_true.mp hall i hi
    cases he : (s.ch n).feed[i]? with
    | none => simp [he] at hi
    | some e => exact ⟨e, rfl, by simpa [he] using hi⟩
  obtain ⟨h1, k1⟩ := feedCheck_of_sound ((s.ch n).slotsOf 1) hclean fun i hi => hsound i (Chan.mem_slotsOf hm hi)
  have hslots : ((s.feedCheck n ((s.ch n).slotsOf 1)).2.ch n).slotsOf m = (s.ch n).slotsOf m := by rw [k1.here]; rfl
  have hclean' : (s.feedCheck n ((s.ch n).slotsOf 1)).2.feedClean n = true := by
    have hi : (s.feedCheck n ((s.ch n).slotsOf 1)).2.intg = s.intg := k1.part .intg (by decide)
    rw [State.feedClean, hi]
    exact hclean
  obtain ⟨h2, k2⟩ := feedCheck_of_sound ((s.ch n).slotsOf m) hclean' fun i hi => by
    obtain ⟨e, he, hp⟩ := hsound i hi
    rw [k1.here]
    simp only [getElem?_foldl_markAt, he]
    split
    · exact ⟨_, rfl, by simpa using (Bool.and_eq_true .. ▸ hp).1⟩
    · exact ⟨e, rfl, hp⟩
  have hfeed : ((s.ch n).slotsOf m).foldl markAt (((s.ch n).slotsOf 1).foldl markAt (s.ch n).feed) =
      ((s.ch n).slotsOf m).foldl markAt (s.ch n).feed := by
    refine List.ext_getElem? fun j => ?_
    simp only [getElem?_foldl_markAt]
    by_cases h1 : j ∈ (s.ch n).slotsOf 1
    · simp [h1, Chan.mem_slotsOf hm h1, Option.map_map, Function.comp_def]
    · simp [h1]
  refine ⟨by simp only [State.readied, hslots, h1, h2, Bool.and_self], ?_⟩
  have k := k1.trans k2
  simp only [k1.here, hfeed] at k
  simp only [State.readied, hslots, marked_eq]
  exact k

theorem openCurd_of_begun {s : State} {n : Nat} (h : (s.ch n).begun = true) : s.openCurd n = s := by
  unfold State.openCurd
  rw [if_pos h]

/-- Inside a curd that has begun the decoder reads sound lines and changes nothing else. -/
theorem opened_of_begun {s : State} {n m : Nat} (hm : 0 < m) (h : s.feedSound n m = true) (hb : (s.ch n).begun = true) :
    ChanStep s n ((s.ch n).marked m) (s.opened n m) := by
  have k := (readied_of_feedSound hm h).2
  rw [State.opened, openCurd_of_begun (by rw [k.here]; exact hb)]
  exact k

theorem unchecked_marked (c : Chan) (m : Nat) : (c.marked m).unchecked = c.unchecked := by
  have h : ((c.slotsOf m).foldl markAt c.feed).map (fun e => { e with checked := false }) = c.feed.map (fun e => { e with checked := false }) := by
    refine List.ext_getElem? fun j => ?_
    rw [List.getElem?_map, getElem?_foldl_markAt, List.getElem?_map]
    split <;> simp [Option.map_map, Function.comp_def]
  rw [marked_eq]
  simp only [Chan.unchecked, h]

section
variable {s t : State} {n : Nat} {c : Chan}

theorem ChanStep.grp (h : ChanStep s n c t) : t.grp = s.grp := h.part .grp (by decide)
theorem ChanStep.regs (h : ChanStep s n c t) : t.regs = s.regs := h.part .regs (by decide)
theorem ChanStep.reg (h : ChanStep s n c t) (a : Nat) : t.reg a = s.reg a := reg_of_same (h.part .regs (by decide)) a
theorem ChanStep.fld (h : ChanStep s n c t) (a : Nat) (f : Field) : t.fld a f = s.fld a f := by rw [State.fld, h.reg]; rfl
theorem ChanStep.flag (h : ChanStep s n c t) (a : Nat) (f : Field) : t.flag a f = s.flag a f := by rw [State.flag, h.fld]; rfl
theorem ChanStep.variant (h : ChanStep s n c t) : t.variant = s.variant := h.part .variant (by decide)
theorem ChanStep.camPorts (h : ChanStep s n c t) : t.camPorts = s.camPorts := by rw [State.camPorts, h.variant]; rfl
theorem ChanStep.hasLight (h : ChanStep s n c t) : t.hasLight = s.hasLight := by rw [State.hasLight, h.variant]; rfl
theorem ChanStep.axes (h : ChanStep s n c t) : t.axes = s.axes := by rw [State.axes, h.variant]; rfl

/-- Whether a layer's last GYIELD stands before the decoder goes by the channel's last GYIELD alone. -/
theorem ChanStep.afterLastYield (h : ChanStep s n c t) (hy : c.lastYield = (s.ch n).lastYield) : t.afterLastYield n = s.afterLastYield n := by
  simp only [State.afterLastYield, h.here, hy, h.grp]

theorem ChanStep.isLate (h : ChanStep s n c t) (hy : c.lastYield = (s.ch n).lastYield) (hd : c.haltDecoded = (s.ch n).haltDecoded)
    (dl : Option Int) : t.isLate n dl = s.isLate n dl := by
  simp only [State.isLate, State.lateOff, h.here, hy, hd, h.grp]

end

theorem decStopped_of_decoding {s : State} {n : Nat} (h : s.decoding n = true) : (s.ch n).decStopped = false := by
  simp only [State.decoding, Bool.and_eq_true, Bool.not_eq_true'] at h
  obtain ⟨⟨⟨⟨⟨⟨⟨⟨-, hstop⟩, -⟩, -⟩, -⟩, -⟩, -⟩, -⟩, -⟩ := h
  exact hstop

/-- What canDecode says, taken apart: the lines are sound, and the instruction is legal once they are read. -/
theorem mayDecode_of_canDecode {s : State} {n op : Nat} {ws : List Nat} (h : s.canDecode n op ws = true) :
    s.mayDecode n op ws = true ∧ ChanStep s n ((s.ch n).marked ws.length) (s.opened n ws.length) := by
  simp only [State.canDecode, State.canRead, Bool.and_eq_true, Bool.not_eq_true', decide_eq_true_eq] at h
  obtain ⟨⟨⟨⟨⟨⟨⟨⟨⟨⟨hn, hdec⟩, hbegun⟩, hpos⟩, hend⟩, hws⟩, hsound⟩, hop⟩, hlast⟩, hlate⟩, hrow⟩ := h
  obtain ⟨hread, kr⟩ := readied_of_feedSound hpos hsound
  have ko := opened_of_begun hpos hsound hbegun
  have hrun := decStopped_of_decoding hdec
  refine ⟨?_, ko⟩
  simp only [State.mayDecode, State.mayRead, Bool.and_eq_true, Bool.not_eq_true', decide_eq_true_eq]
  rw [kr.here, ko.here, ko.afterLastYield rfl, ko.isLate rfl rfl, Chan.wordsAt_congr (unchecked_marked _ _)]
  exact ⟨⟨⟨⟨⟨⟨⟨⟨⟨⟨hn, hdec⟩, hread⟩, hpos⟩, hws⟩, hend⟩, hop⟩, hrun⟩, hlast⟩, hlate⟩, hrow⟩

/-! ### Going on after an instruction (R107) -/

/-- Two channels whose decoders stand at one place of one program. -/
structure SamePlace (c d : Chan) : Prop where
  loc : d.dec.loc = c.dec.loc
  block : d.handBlock = c.handBlock
  curds : d.curds = c.curds
  lib : d.libWords = c.libWords

theorem SamePlace.endOf {c d : Chan} (h : SamePlace c d) (b : Bool) : d.endOf b = c.endOf b := by
  rw [Chan.endOf, h.lib, h.curds]; rfl

/-- Before the end of its curd or of the library, and outside HAND blocks, the flow only goes on. -/
theorem settle_within {s : State} {n : Nat} (last : Loc) (keep : Bool) (fuel : Nat) (hb : (s.ch n).handBlock = [])
    (hw : (s.ch n).dec.loc.word < (s.ch n).endOf (s.ch n).dec.loc.lib) : s.settle n last keep fuel = s := by
  cases fuel with
  | zero => rfl
  | succ fuel =>
    unfold State.settle
    simp only [hb]
    cases hl : (s.ch n).dec.loc.lib with
    | false => simp [Nat.not_le.mpr (hl ▸ hw)]
    | true =>
      have hend : ¬(s.ch n).libWords ≤ (s.ch n).dec.loc.word := Nat.not_le.mpr (by simpa [hl, Chan.endOf] using hw)
      simp [hend]

theorem next_within {s : State} {n k : Nat} (hb : (s.ch n).handBlock = [])
    (hw : (s.ch n).dec.loc.word + k < (s.ch n).endOf (s.ch n).dec.loc.lib) : s.next n k = s.modCh n fun c => c.past k :=
  settle_within _ _ _ (by rw [State.ch_modCh_same]; exact hb) (by rw [State.ch_modCh_same]; exact hw)

theorem jumpTo_within {s : State} {n : Nat} {l : Loc} (hb : (s.ch n).handBlock = []) (hw : l.word < (s.ch n).endOf l.lib) :
    s.jumpTo n l = s.modCh n fun c => (c.dropFront 1).at_ l :=
  settle_within _ _ _ (by rw [State.ch_modCh_same]; exact hb) (by rw [State.ch_modCh_same]; exact hw)

section
variable {s : State} {i : Instr} {n op k : Nat} {ws : List Nat}

theorem length_of_canDecode (h : s.canDecode n op ws = true) (hk : (opRow op).map (·.masks.length) = some k) : ws.length = k := by
  obtain ⟨row, hr, hm⟩ := Option.map_eq_some_iff.mp hk
  simp only [State.canDecode, hr, Bool.and_eq_true, decide_eq_true_eq] at h
  obtain ⟨-, ⟨⟨-, hlen⟩, -⟩, -⟩ := h
  exact hlen.symm.trans hm

/-- An instruction of k words before the end of its curd or of the library: its effect on the channel, and the decoder past its words. -/
theorem next_of_within {c : Chan} {v : State} (hb : (s.ch n).handBlock = [])
    (hw : (s.ch n).dec.loc.word + k < (s.ch n).endOf (s.ch n).dec.loc.lib) (hx : exec i s = .next (v.next n k)) (kv : ChanStep s n c v)
    (hp : SamePlace (s.ch n) c) : ∃ t, exec i s = .next t ∧ Only [.chan] s t ∧ t.ch n = c.past k ∧ UnitsBut State.ch n s t := by
  have hgo : v.next n k = v.modCh n fun c => c.past k :=
    next_within (by rw [kv.here, hp.block, hb]) (by rw [kv.here, hp.loc, hp.endOf]; exact hw)
  have kt := kv.modCh fun c => c.past k
  exact ⟨_, by rw [hx, hgo], kt.only, kt.here, kt.others⟩

/-- A legal instruction that another word follows. -/
theorem next_of_canDecode {c : Chan} {v : State} (h : s.canDecode n op ws = true) (hn : s.hasNext n ws = true)
    (hk : (opRow op).map (·.masks.length) = some k) (hx : exec i s = .next (v.next n k)) (kv : ChanStep s n c v) (hp : SamePlace (s.ch n) c) :
    ∃ t, exec i s = .next t ∧ Only [.chan] s t ∧ t.ch n = c.past k ∧ UnitsBut State.ch n s t := by
  simp only [State.hasNext, Bool.and_eq_true, decide_eq_true_eq, length_of_canDecode h hk] at hn
  exact next_of_within hn.1 hn.2 hx kv hp

/-- An instruction after which the flow goes on at another place (R76, R77). -/
theorem jump_of_within {c : Chan} {v : State} {l : Loc} (hb : (s.ch n).handBlock = []) (hw : l.word < (s.ch n).endOf l.lib)
    (hx : exec i s = .next (v.jumpTo n l)) (kv : ChanStep s n c v) (hp : SamePlace (s.ch n) c) :
    ∃ t, exec i s = .next t ∧ Only [.chan] s t ∧ t.ch n = (c.dropFront 1).at_ l ∧ UnitsBut State.ch n s t := by
  have hgo : v.jumpTo n l = v.modCh n fun c => (c.dropFront 1).at_ l :=
    jumpTo_within (by rw [kv.here, hp.block, hb]) (by rw [kv.here, hp.endOf]; exact hw)
  have kt := kv.modCh fun c => (c.dropFront 1).at_ l
  exact ⟨_, by rw [hx, hgo], kt.only, kt.here, kt.others⟩

/-- What a command keeps and where it goes, as one. -/
theorem next_of_keeps {A : List Part} {t : State} (hk : KeepsR A s (exec i s)) (hx : exec i s = .next t) :
    ∃ u, exec i s = .next u ∧ Only A s u ∧ u = t := ⟨t, hx, (hk.next t hx).only, rfl⟩

end

/-! ### CALL, RET, REP, ENDR, LDK and ADDK (R76 to R78) -/

section
variable {s u : State} {ch : Nat} {ws : List Nat} {c : Chan}

theorem exec_call (h : s.mayDecode ch 0x08 ws = true) (hu : s.opened ch ws.length = u) (hc : u.ch ch = c)
    (hv : u.flag (R.SEQ_LIB_STAT ch) F.SEQ_LIB_STAT_VALID = true) (ht : bits (wd ws 0) 0 24 < c.libWords)
    (hd : c.dec.calls.length < 8) :
    exec (.call ch) s = .next ((u.modCh ch fun c => { c with dec := { c.dec with
      calls := { c.dec.loc with word := c.dec.loc.word + 1 } :: c.dec.calls } }).jumpTo ch ⟨true, bits (wd ws 0) 0 24⟩) := by
  subst hc
  refine exec_of_mayDecode rfl h hu ?_
  simp only [hv, Nat.not_le.mpr ht, Nat.not_le.mpr hd, Bool.not_true, decide_false, Bool.or_self, Bool.false_eq_true, if_false]
  rfl

theorem exec_ret {l : Loc} {ls : List Loc} (h : s.mayDecode ch 0x09 ws = true) (hu : s.opened ch ws.length = u) (hc : u.ch ch = c)
    (hl : c.dec.calls = l :: ls) (hp : ∀ p ∈ c.dec.loops, p.depth ≠ c.dec.calls.length) :
    exec (.ret ch) s = .next ((u.modCh ch fun c => { c with dec := { c.dec with calls := ls } }).jumpTo ch l) := by
  subst hc
  refine exec_of_mayDecode rfl h hu ?_
  have hany : (u.ch ch).dec.loops.any (fun p => decide (p.depth = (l :: ls).length)) = false := by
    rw [← hl]
    simpa using hp
  simp only [hl, hany, Bool.false_eq_true, if_false]

theorem exec_rep (h : s.mayDecode ch 0x0A ws = true) (hu : s.opened ch ws.length = u) (hc : u.ch ch = c) (hd : c.dec.loops.length < 4) :
    exec (.rep ch) s = .next ((u.modCh ch fun c => { c with dec := { c.dec with
      loops := ⟨{ c.dec.loc with word := c.dec.loc.word + 1 }, repCount c.dec.k (wd ws 0), c.dec.calls.length⟩ :: c.dec.loops } }).next ch 1) := by
  subst hc
  refine exec_of_mayDecode rfl h hu ?_
  simp only [Nat.not_le.mpr hd, if_false]
  rfl

theorem exec_endr_back {p : Loop} {ps : List Loop} (h : s.mayDecode ch 0x0B ws = true) (hu : s.opened ch ws.length = u) (hc : u.ch ch = c)
    (hl : c.dec.loops = p :: ps) (hlib : p.start.lib = c.dec.loc.lib) (hd : p.depth = c.dec.calls.length)
    (hw : c.dec.loc.word ≤ p.start.word + 1024) (hleft : 1 < p.left) :
    exec (.endr ch) s = .next ((u.modCh ch fun c => { c with dec := { c.dec with
      loops := { p with left := p.left - 1 } :: ps } }).jumpTo ch p.start) := by
  subst hc
  refine exec_of_mayDecode rfl h hu ?_
  simp only [hl, hlib, hd, Nat.not_lt.mpr hw, hleft, ne_eq, not_true_eq_false, or_self, if_false, if_true]

theorem exec_endr_last {p : Loop} {ps : List Loop} (h : s.mayDecode ch 0x0B ws = true) (hu : s.opened ch ws.length = u) (hc : u.ch ch = c)
    (hl : c.dec.loops = p :: ps) (hlib : p.start.lib = c.dec.loc.lib) (hd : p.depth = c.dec.calls.length)
    (hw : c.dec.loc.word ≤ p.start.word + 1024) (hleft : p.left ≤ 1) :
    exec (.endr ch) s = .next ((u.modCh ch fun c => { c with dec := { c.dec with loops := ps } }).next ch 1) := by
  subst hc
  refine exec_of_mayDecode rfl h hu ?_
  simp only [hl, hlib, hd, Nat.not_lt.mpr hw, Nat.not_lt.mpr hleft, ne_eq, not_true_eq_false, or_self, if_false]

theorem exec_ldk (h : s.mayDecode ch 0x0C ws = true) (hu : s.opened ch ws.length = u) :
    exec (.ldk ch) s = .next ((u.modCh ch fun c => { c with dec := { c.dec with
      k := setNth c.dec.k (bits (wd ws 0) 49 4) (bits (wd ws 0) 0 32) } }).next ch 1) :=
  exec_of_mayDecode rfl h hu rfl

theorem exec_addk (h : s.mayDecode ch 0x0D ws = true) (hu : s.opened ch ws.length = u) :
    exec (.addk ch) s = .next ((u.modCh ch fun c => { c with dec := { c.dec with
      k := setNth c.dec.k (bits (wd ws 0) 49 4) (addkValue c.dec.k (wd ws 0)) } }).next ch 1) :=
  exec_of_mayDecode rfl h hu rfl

end

/-- Settles O14: each instruction's effect once, for an open curd; with another word behind it in sound lines, going on is only `past`. -/
theorem callsLoopsAndRegisters : Obligations.CallsLoopsAndRegisters := by
  refine ⟨?_, ?_, ?_, ?_, ?_, ?_, ?_, ?_, ?_, ?_, ?_, ?_, ?_, ?_⟩
  · intro s ch ws h hb hv ht hd
    obtain ⟨hm, k⟩ := mayDecode_of_canDecode h
    exact jump_of_within hb ht (exec_call hm rfl k.here (by rw [k.flag, hv]) ht hd) (k.modCh _) ⟨rfl, rfl, rfl, rfl⟩
  · intro s ch ws l ls h hb hc hl hw
    obtain ⟨hm, k⟩ := mayDecode_of_canDecode h
    exact jump_of_within hb hw (exec_ret (ls := ls) hm rfl k.here hc (fun p hp => absurd (hl ▸ hp : p ∈ []) List.not_mem_nil))
      (k.modCh _) ⟨rfl, rfl, rfl, rfl⟩
  · intro s ch ws h hn hd
    obtain ⟨hm, k⟩ := mayDecode_of_canDecode h
    exact next_of_canDecode h hn rfl (exec_rep hm rfl k.here hd) (k.modCh _) ⟨rfl, rfl, rfl, rfl⟩
  · intro s ch ws p ps h hb hc hlib hd hw hleft hend
    obtain ⟨hm, k⟩ := mayDecode_of_canDecode h
    exact jump_of_within hb hend (exec_endr_back hm rfl k.here hc hlib hd hw hleft) (k.modCh _) ⟨rfl, rfl, rfl, rfl⟩
  · intro s ch ws p ps h hn hc hlib hd hw hleft
    obtain ⟨hm, k⟩ := mayDecode_of_canDecode h
    exact next_of_canDecode h hn rfl (exec_endr_last (ps := ps) hm rfl k.here hc hlib hd hw hleft) (k.modCh _) ⟨rfl, rfl, rfl, rfl⟩
  · intro s ch ws h hn
    obtain ⟨hm, k⟩ := mayDecode_of_canDecode h
    exact next_of_canDecode h hn rfl (exec_ldk hm rfl) (k.modCh _) ⟨rfl, rfl, rfl, rfl⟩
  · intro s ch ws h hn
    obtain ⟨hm, k⟩ := mayDecode_of_canDecode h
    exact next_of_canDecode h hn rfl (exec_addk hm rfl) (k.modCh _) ⟨rfl, rfl, rfl, rfl⟩
  · intro s ch ws h hv ht hd
    exact next_of_keeps (keeps_execCall (List.Subset.refl _) ch (Keeps.refl _ s)) (exec_call h rfl rfl hv ht hd)
  · intro s ch ws l ls h hc hp
    exact next_of_keeps (keeps_execRet (List.Subset.refl _) ch (Keeps.refl _ s)) (exec_ret h rfl rfl hc hp)
  · intro s ch ws h hd
    exact next_of_keeps (keeps_execRep (List.Subset.refl _) ch (Keeps.refl _ s)) (exec_rep h rfl rfl hd)
  · intro s ch ws p ps h hc hlib hd hw hleft
    exact next_of_keeps (keeps_execEndr (List.Subset.refl _) ch (Keeps.refl _ s)) (exec_endr_back h rfl rfl hc hlib hd hw hleft)
  · intro s ch ws p ps h hc hlib hd hw hleft
    exact next_of_keeps (keeps_execEndr (List.Subset.refl _) ch (Keeps.refl _ s)) (exec_endr_last h rfl rfl hc hlib hd hw hleft)
  · intro s ch ws h
    exact next_of_keeps (keeps_execLdk (List.Subset.refl _) ch (Keeps.refl _ s)) (exec_ldk h rfl)
  · intro s ch ws h
    exact next_of_keeps (keeps_execAddk (List.Subset.refl _) ch (Keeps.refl _ s)) (exec_addk h rfl)

/-! ### Motion segments (R80 to R85) -/

/-- The end position that the words of an instruction give, in 1/256 FU. -/
def endFine (ws : List Nat) : V3 := fine ⟨endX ws, endY ws, endZ ws⟩

/-- The velocities that CUBIC carries (R83). -/
def carriedVel (ws : List Nat) : V3 :=
  ⟨signed 24 (bits (wd ws 2) 40 24), signed 24 (bits (wd ws 2) 16 24), signed 24 (bits (wd ws 3) 40 24)⟩

/-- The end position of FOCUS: Z alone moves (R85). -/
def Chan.focusEnd (c : Chan) (ws : List Nat) : V3 := { c.endPos with z := 256 * signed 24 (bits (wd ws 0) 24 24) }

/-- The channel with one more segment of d ticks from its cursor, and its cursor past it. -/
def Chan.moved (c : Chan) (kind : SegKind) (d prof : Nat) (pe ve vn : V3) (vden : Nat) : Chan :=
  { c with
    segs := c.segs ++ [⟨kind, c.cursor, d, c.endPos, pe, c.endVel, c.endVelDen, ve, prof⟩]
    cursor := c.cursor + d
    endPos := pe
    endVel := vn
    endVelDen := vden }

theorem modCh_congr {s : State} {n : Nat} {f g : Chan → Chan} (h : f (s.ch n) = g (s.ch n)) : s.modCh n f = s.modCh n g := by
  simp only [State.modCh, h]

theorem segment_eq (s : State) (n k : Nat) (kind : SegKind) (d prof : Nat) (pe ve vn : V3) (vden : Nat) :
    s.segment n k kind d prof pe ve vn vden = (s.modCh n fun c => c.moved kind d prof pe ve vn vden).next n k :=
  congrArg (State.next · n k) (modCh_congr rfl)

section
variable {s u : State} {ch : Nat} {ws : List Nat} {c : Chan}

theorem exec_line (h : s.mayDecode ch 0x11 ws = true) (hu : s.opened ch ws.length = u) (hc : u.ch ch = c) :
    exec (.line ch) s = .next ((u.modCh ch fun x => x.moved .line (bits (wd ws 1) 8 32) 0 (endFine ws) V3.zero
      (lineVel c.endPos (endFine ws)) (bits (wd ws 1) 8 32)).next ch 2) :=
  exec_of_mayDecode rfl h hu (hc ▸ segment_eq ..)

theorem exec_jump (h : s.mayDecode ch 0x10 ws = true) (hu : s.opened ch ws.length = u) (hc : u.ch ch = c)
    (he : c.edgeIn c.cursor (c.cursor + bits (wd ws 1) 8 32) = false) :
    exec (.jump ch) s = .next ((u.modCh ch fun x => x.moved .jump (bits (wd ws 1) 8 32) (bits (wd ws 0) 48 1) (endFine ws) V3.zero
      V3.zero 1).next ch 2) := by
  subst hc
  refine exec_of_mayDecode rfl h hu ?_
  simp only [he, Bool.false_eq_true, if_false]
  exact segment_eq ..

theorem exec_cubic (h : s.mayDecode ch 0x12 ws = true) (hu : s.opened ch ws.length = u) :
    exec (.cubic ch) s = .next ((u.modCh ch fun x => x.moved .cubic (bits (wd ws 1) 8 32) 0 (endFine ws) (carriedVel ws)
      (carriedVel ws) 1).next ch 4) :=
  exec_of_mayDecode rfl h hu (segment_eq ..)

theorem exec_dwell (h : s.mayDecode ch 0x13 ws = true) (hu : s.opened ch ws.length = u) (hc : u.ch ch = c) :
    exec (.dwell ch) s = .next ((u.modCh ch fun x => x.moved .dwell (dwellDur c.dec.k (wd ws 0)).toNat 0 c.endPos V3.zero
      V3.zero 1).next ch 1) :=
  exec_of_mayDecode rfl h hu (hc ▸ segment_eq ..)

theorem exec_focus (h : s.mayDecode ch 0x14 ws = true) (hu : s.opened ch ws.length = u) (hc : u.ch ch = c) :
    exec (.focus ch) s = .next ((u.modCh ch fun x => x.moved .focus (bits (wd ws 0) 0 24) (bits (wd ws 0) 48 1) (c.focusEnd ws) V3.zero
      (if bits (wd ws 0) 48 1 = 0 then lineVel c.endPos (c.focusEnd ws) else V3.zero)
      (if bits (wd ws 0) 48 1 = 0 then bits (wd ws 0) 0 24 else 1)).next ch 1) :=
  exec_of_mayDecode rfl h hu (hc ▸ segment_eq ..)

end

/-- Settles O15: each instruction queues its segment on the open curd, and goes on past its words. -/
theorem motionSegments : Obligations.MotionSegments := by
  refine ⟨?_, ?_, ?_, ?_, ?_, ?_, ?_, ?_, ?_, ?_⟩
  · intro s ch ws h hn
    obtain ⟨hm, k⟩ := mayDecode_of_canDecode h
    exact next_of_canDecode h hn rfl (exec_line hm rfl k.here) (k.modCh _) ⟨rfl, rfl, rfl, rfl⟩
  · intro s ch ws h hn he
    obtain ⟨hm, k⟩ := mayDecode_of_canDecode h
    exact next_of_canDecode h hn rfl (exec_jump hm rfl k.here he) (k.modCh _) ⟨rfl, rfl, rfl, rfl⟩
  · intro s ch ws h hn
    obtain ⟨hm, k⟩ := mayDecode_of_canDecode h
    exact next_of_canDecode h hn rfl (exec_cubic hm rfl) (k.modCh _) ⟨rfl, rfl, rfl, rfl⟩
  · intro s ch ws h hn
    obtain ⟨hm, k⟩ := mayDecode_of_canDecode h
    exact next_of_canDecode h hn rfl (exec_dwell hm rfl k.here) (k.modCh _) ⟨rfl, rfl, rfl, rfl⟩
  · intro s ch ws h hn
    obtain ⟨hm, k⟩ := mayDecode_of_canDecode h
    exact next_of_canDecode h hn rfl (exec_focus hm rfl k.here) (k.modCh _) ⟨rfl, rfl, rfl, rfl⟩
  · intro s ch ws h
    exact next_of_keeps (keeps_execLine (List.Subset.refl _) ch (Keeps.refl _ s)) (exec_line h rfl rfl)
  · intro s ch ws h he
    exact next_of_keeps (keeps_execJump (List.Subset.refl _) ch (Keeps.refl _ s)) (exec_jump h rfl rfl he)
  · intro s ch ws h
    exact next_of_keeps (keeps_execCubic (List.Subset.refl _) ch (Keeps.refl _ s)) (exec_cubic h rfl)
  · intro s ch ws h
    exact next_of_keeps (keeps_execDwell (List.Subset.refl _) ch (Keeps.refl _ s)) (exec_dwell h rfl rfl)
  · intro s ch ws h
    exact next_of_keeps (keeps_execFocus (List.Subset.refl _) ch (Keeps.refl _ s)) (exec_focus h rfl rfl)

/-! ### Timed actions (R61, R63) -/

/-- The channel with one more action, at the action time of its instruction. -/
def Chan.acted (ws : List Nat) (a : Act) (c : Chan) : Chan :=
  { c with acts := c.acts ++ [⟨c.actTime ws, a⟩], lastAct := c.actTime ws }

/-- The channel with a later last gate edge, and perhaps a later gate-on edge. -/
def Chan.edged (last : Nat × Nat) (on : Option Nat) (c : Chan) : Chan :=
  { c with lastEdge := some last, lastOn := if on.isSome then on else c.lastOn }

theorem point_eq {s : State} {n : Nat} {ws : List Nat} (h : (s.ch n).lastAct ≤ (s.ch n).actTime ws) (k : Nat) (a : Act) :
    s.point n k ws a = (s.modCh n (Chan.acted ws a)).next n k := by
  unfold State.point
  rw [if_neg (Nat.not_lt.mpr h)]
  exact congrArg (State.next · n k) (modCh_congr rfl)

theorem gatePoint_eq {s : State} {n fine : Nat} {ws : List Nat} (he : edgeAfter (s.ch n).lastEdge ((s.ch n).actTime ws) fine = true)
    (h : (s.ch n).lastAct ≤ (s.ch n).actTime ws) (k : Nat) (a : Act) (last : Nat × Nat) (on : Option Nat) :
    s.gatePoint n k ws a fine last on = ((s.modCh n (Chan.edged last on)).modCh n (Chan.acted ws a)).next n k := by
  unfold State.gatePoint
  simp only [he, Nat.not_lt.mpr h, Bool.not_true, decide_false, Bool.or_self, Bool.false_eq_true, if_false]
  exact point_eq (by rw [State.ch_modCh_same]; exact h) k a

section
variable {s : State} {i : Instr} {ch op k fine : Nat} {ws : List Nat} {f : List Nat → State → State} {a : Act} {A : List Part}
  {last : Nat × Nat} {on : Option Nat}

/-- A legal instruction that another word follows and that queues an action not before the last one. -/
theorem point_of_canDecode (hx : exec i s = decodeOn ch op s f) (h : s.canDecode ch op ws = true) (hn : s.hasNext ch ws = true)
    (hk : (opRow op).map (·.masks.length) = some k) (ht : (s.ch ch).lastAct ≤ (s.ch ch).actTime ws)
    (hf : ∀ u, ChanStep s ch ((s.ch ch).marked ws.length) u → f ws u = u.point ch k ws a) :
    ∃ t, exec i s = .next t ∧ Only [.chan] s t ∧
      t.ch ch = { ((s.ch ch).marked ws.length).past k with
        acts := ((s.ch ch).marked ws.length).acts ++ [⟨((s.ch ch).marked ws.length).actTime ws, a⟩]
        lastAct := ((s.ch ch).marked ws.length).actTime ws } ∧ UnitsBut State.ch ch s t := by
  obtain ⟨hm, ku⟩ := mayDecode_of_canDecode h
  have hp := point_eq (s := s.opened ch ws.length) (n := ch) (by rw [ku.here]; exact ht) k a
  exact next_of_canDecode h hn hk (exec_of_mayDecode hx hm rfl ((hf _ ku).trans hp)) (ku.modCh (Chan.acted ws a)) ⟨rfl, rfl, rfl, rfl⟩

/-- An instruction that queues an action not before the last one, wherever it stands. -/
theorem point_of_mayDecode (hx : exec i s = decodeOn ch op s f) (hk : KeepsR A s (exec i s)) (h : s.mayDecode ch op ws = true)
    (ht : ((s.opened ch ws.length).ch ch).lastAct ≤ ((s.opened ch ws.length).ch ch).actTime ws)
    (hf : f ws (s.opened ch ws.length) = (s.opened ch ws.length).point ch k ws a) :
    ∃ t, exec i s = .next t ∧ Only A s t ∧
      t = ((s.opened ch ws.length).modCh ch (Chan.acted ws a)).next ch k :=
  next_of_keeps hk (exec_of_mayDecode hx h rfl (hf.trans (point_eq ht k a)))

/-- The same with gate edges: the first edge strictly after the last one (R63, R91). -/
theorem gatePoint_of_canDecode (hx : exec i s = decodeOn ch op s f) (h : s.canDecode ch op ws = true) (hn : s.hasNext ch ws = true)
    (hk : (opRow op).map (·.masks.length) = some k) (ht : (s.ch ch).lastAct ≤ (s.ch ch).actTime ws)
    (he : edgeAfter (s.ch ch).lastEdge ((s.ch ch).actTime ws) fine = true)
    (hf : ∀ u, ChanStep s ch ((s.ch ch).marked ws.length) u → f ws u = u.gatePoint ch k ws a fine last on) :
    ∃ t, exec i s = .next t ∧ Only [.chan] s t ∧
      t.ch ch = { ((s.ch ch).marked ws.length).past k with
        acts := ((s.ch ch).marked ws.length).acts ++ [⟨((s.ch ch).marked ws.length).actTime ws, a⟩]
        lastAct := ((s.ch ch).marked ws.length).actTime ws
        lastEdge := some last
        lastOn := if on.isSome then on else (s.ch ch).lastOn } ∧ UnitsBut State.ch ch s t := by
  obtain ⟨hm, ku⟩ := mayDecode_of_canDecode h
  have hp := gatePoint_eq (s := s.opened ch ws.length) (n := ch) (by rw [ku.here]; exact he) (by rw [ku.here]; exact ht) k a last on
  exact next_of_canDecode h hn hk (exec_of_mayDecode hx hm rfl ((hf _ ku).trans hp)) ((ku.modCh (Chan.edged last on)).modCh (Chan.acted ws a))
    ⟨rfl, rfl, rfl, rfl⟩

theorem gatePoint_of_mayDecode (hx : exec i s = decodeOn ch op s f) (hk : KeepsR A s (exec i s)) (h : s.mayDecode ch op ws = true)
    (ht : ((s.opened ch ws.length).ch ch).lastAct ≤ ((s.opened ch ws.length).ch ch).actTime ws)
    (he : edgeAfter ((s.opened ch ws.length).ch ch).lastEdge (((s.opened ch ws.length).ch ch).actTime ws) fine = true)
    (hf : f ws (s.opened ch ws.length) = (s.opened ch ws.length).gatePoint ch k ws a fine last on) :
    ∃ t, exec i s = .next t ∧ Only A s t ∧
      t = (((s.opened ch ws.length).modCh ch (Chan.edged last on)).modCh ch (Chan.acted ws a)).next ch k :=
  next_of_keeps hk (exec_of_mayDecode hx h rfl (hf.trans (gatePoint_eq he ht k a last on)))

end

theorem trigAbsent_eq_false {s : State} {w : Nat}
    (h : (bits w 4 2 = 0 ∧ bits w 0 2 < s.camPorts) ∨ (bits w 4 2 = 1 ∧ s.hasLight = true)) : s.trigAbsent w = false := by
  unfold State.trigAbsent
  rcases h with ⟨hkind, hport⟩ | ⟨hkind, hlight⟩
  · simp [hkind, Nat.not_le.mpr hport]
  · simp [hkind, hlight]

theorem moveAbsent_eq_false {s : State} {w : Nat} (h : bits w 0 3 < s.axes) : s.moveAbsent w = false := by
  simp [State.moveAbsent, h]

/-- Settles O17: PSET, PRAMP, ENV and MPL are one `point` each, PULSE, LON and LOFF one `gatePoint`. -/
theorem powerAndGateInstructions : Obligations.PowerAndGateInstructions := by
  refine ⟨?_, ?_, ?_, ?_, ?_, ?_, ?_, ?_, ?_, ?_, ?_, ?_, ?_, ?_⟩
  · intro s ch ws h hn ht
    exact point_of_canDecode rfl h hn rfl ht fun _ _ => rfl
  · intro s ch ws h hn ht
    exact point_of_canDecode rfl h hn rfl ht fun _ _ => rfl
  · intro s ch ws h hn ht he
    exact gatePoint_of_canDecode (on := some _) rfl h hn rfl ht he fun u k => by rw [← k.here]
  · intro s ch ws h hn ht
    exact point_of_canDecode rfl h hn rfl ht fun _ _ => rfl
  · intro s ch ws h hn ht
    exact point_of_canDecode rfl h hn rfl ht fun _ _ => rfl
  · intro s ch ws h hn ht he
    exact gatePoint_of_canDecode (on := some _) rfl h hn rfl ht he fun u k => by rw [← k.here]
  · intro s ch ws h hn ht he
    exact gatePoint_of_canDecode (on := none) rfl h hn rfl ht he fun u k => by rw [← k.here]
  · intro s ch ws h ht
    exact point_of_mayDecode rfl (keeps_execPset (List.Subset.refl _) ch (Keeps.refl _ s)) h ht rfl
  · intro s ch ws h ht
    exact point_of_mayDecode rfl (keeps_execPramp (List.Subset.refl _) ch (Keeps.refl _ s)) h ht rfl
  · intro s ch ws h ht he
    exact gatePoint_of_mayDecode (on := some _) rfl (keeps_execPulse (List.Subset.refl _) ch (Keeps.refl _ s)) h ht he rfl
  · intro s ch ws h ht
    exact point_of_mayDecode rfl (keeps_execEnv (List.Subset.refl _) ch (Keeps.refl _ s)) h ht rfl
  · intro s ch ws h ht
    exact point_of_mayDecode rfl (keeps_execMpl (List.Subset.refl _) ch (Keeps.refl _ s)) h ht rfl
  · intro s ch ws h ht he
    exact gatePoint_of_mayDecode (on := some _) rfl (keeps_execLon (List.Subset.refl _) ch (Keeps.refl _ s)) h ht he rfl
  · intro s ch ws h ht he
    exact gatePoint_of_mayDecode (on := none) rfl (keeps_execLoff (List.Subset.refl _) ch (Keeps.refl _ s)) h ht he rfl

/-- Settles O16: each of these instructions is one `point`. -/
theorem pointInstructions : Obligations.PointInstructions := by
  refine ⟨?_, ?_, ?_, ?_, ?_, ?_, ?_, ?_, ?_, ?_, ?_, ?_, ?_, ?_, ?_, ?_⟩
  · intro s ch ws h hn ht
    exact point_of_canDecode rfl h hn rfl ht fun _ _ => rfl
  · intro s ch ws h hn ht
    exact point_of_canDecode rfl h hn rfl ht fun _ _ => rfl
  · intro s ch ws h hn ht
    exact point_of_canDecode rfl h hn rfl ht fun _ _ => rfl
  · intro s ch ws h hn ht
    exact point_of_canDecode rfl h hn rfl ht fun u k => by rw [← k.here]
  · intro s ch ws h hn ht
    exact point_of_canDecode rfl h hn rfl ht fun _ _ => rfl
  · intro s ch ws h hn ht
    exact point_of_canDecode rfl h hn rfl ht fun _ _ => rfl
  · intro s ch ws h hn ht hunit
    exact point_of_canDecode rfl h hn rfl ht fun u k =>
      if_neg (by rw [trigAbsent_eq_false (by rw [k.camPorts, k.hasLight]; exact hunit)]; exact Bool.false_ne_true)
  · intro s ch ws h hn ht hunit
    exact point_of_canDecode rfl h hn rfl ht fun u k =>
      if_neg (by rw [moveAbsent_eq_false (by rw [k.axes]; exact hunit)]; exact Bool.false_ne_true)
  · intro s ch ws h ht
    exact point_of_mayDecode rfl (keeps_execSig (List.Subset.refl _) ch (Keeps.refl _ s)) h ht rfl
  · intro s ch ws h ht
    exact point_of_mayDecode rfl (keeps_execEvt (List.Subset.refl _) ch (Keeps.refl _ s)) h ht rfl
  · intro s ch ws h ht
    exact point_of_mayDecode rfl (keeps_execFence (List.Subset.refl _) ch (Keeps.refl _ s)) h ht rfl
  · intro s ch ws h ht
    exact point_of_mayDecode rfl (keeps_execPeriod (List.Subset.refl _) ch (Keeps.refl _ s)) h ht rfl
  · intro s ch ws h ht
    exact point_of_mayDecode rfl (keeps_execLearn (List.Subset.refl _) ch (Keeps.refl _ s)) h ht rfl
  · intro s ch ws h ht
    exact point_of_mayDecode rfl (keeps_execGsel (List.Subset.refl _) ch (Keeps.refl _ s)) h ht rfl
  · intro s ch ws h ht hunit
    exact point_of_mayDecode rfl (keeps_execTrig (List.Subset.refl _) ch (Keeps.refl _ s)) h ht
      (if_neg (by rw [trigAbsent_eq_false hunit]; exact Bool.false_ne_true))
  · intro s ch ws h ht hunit
    exact point_of_mayDecode rfl (keeps_execMove (List.Subset.refl _) ch (Keeps.refl _ s)) h ht
      (if_neg (by rw [moveAbsent_eq_false hunit]; exact Bool.false_ne_true))

/-! ### Curd boundaries (R55, R103) -/

theorem openCurd_of_due {s : State} {n : Nat} {d : Curd} {ds : List Curd} (hb : (s.ch n).begun = false) (hc : (s.ch n).curds = d :: ds)
    (ht : (s.ch n).cursor ≤ d.stime) :
    s.openCurd n = (s.modCh n fun c => { c.dropFront 1 with begun := true }).modCh n fun c => { c with cursor := d.stime } := by
  unfold State.openCurd
  simp only [hb, hc, Nat.not_lt.mpr ht, Bool.false_eq_true, if_false]

/-- The channel with its front curd decoded to its end. -/
def Chan.curdEnded (ds : List Curd) (c : Chan) : Chan :=
  { c with
    curds := ds
    dec := { c.dec with loc := ⟨false, 0⟩ }
    begun := false
    prevEnd := c.cursor
    walk := { c.walk with curd := c.walk.curd - 1 } }

/-- With no loop open and another curd accepted, the end of a curd releases its descriptor and turns to the next. -/
theorem endCurd_eq {s : State} {n : Nat} {d e : Curd} {ds : List Curd} (hc : (s.ch n).curds = d :: e :: ds) (hl : (s.ch n).dec.loops = [])
    (hd : d.last = false) (he : e.fault = none) : s.endCurd n = (s.releaseDesc n d 0).modCh n (Chan.curdEnded (e :: ds)) := by
  unfold State.endCurd
  simp only [hc, hl, hd, ne_eq, not_true_eq_false, Bool.false_and, Bool.false_eq_true, if_false]
  unfold State.fetchDue
  simp only [State.ch_modCh_same, he]
  rfl

/-- After the last word of a curd, outside HAND blocks, the flow meets the curd's end. -/
theorem next_end {s : State} {n k : Nat} (hb : (s.ch n).handBlock = []) (hl : (s.ch n).dec.loc.lib = false)
    (hw : (s.ch n).endOf false ≤ (s.ch n).dec.loc.word + k) : s.next n k = (s.modCh n fun c => c.past k).endCurd n := by
  have hpast : ((s.modCh n fun c => c.past k).ch n) = (s.ch n).past k := State.ch_modCh_same ..
  have hb' : ((s.ch n).past k).handBlock = [] := hb
  have hl' : ((s.ch n).past k).dec.loc.lib = false := hl
  have hw' : ((s.ch n).past k).endOf false ≤ ((s.ch n).past k).dec.loc.word := hw
  unfold State.next State.settle
  simp only [hpast, hb', hl', hw', Bool.false_and, Bool.not_false, Bool.true_and, decide_true, Bool.false_eq_true, if_false, if_true]

theorem releaseDesc_chan (s : State) (n : Nat) (d : Curd) (st : Nat) : (s.releaseDesc n d st).chan = s.chan :=
  (keeps_State_releaseDesc (List.Subset.refl _) n d st (Keeps.refl _ s)).only .chan (by decide)

theorem ch_of_chan {s t : State} (h : t.chan = s.chan) (n : Nat) : t.ch n = s.ch n := by unfold State.ch; rw [h]

theorem exec_nop {s u : State} {ch : Nat} {ws : List Nat} (h : s.mayDecode ch 0x00 ws = true) (hu : s.opened ch ws.length = u) :
    exec (.nop ch) s = .next (u.next ch 1) := exec_of_mayDecode rfl h hu rfl

/-- A sound NOP that is the first word of a curd due to begin: it may be decoded, its curd begun with C at the STIME. -/
theorem nop_at_curdStart {s : State} {ch : Nat} {d : Curd} {ds : List Curd} (hn : ch < s.channels) (hdec : s.decoding ch = true)
    (hb : (s.ch ch).begun = false) (hc : (s.ch ch).curds = d :: ds) (hl : (s.ch ch).dec.loc = ⟨false, 0⟩) (hw : 1 < d.words)
    (ht : (s.ch ch).cursor ≤ d.stime) (hws : (s.ch ch).wordsAt 1 = some [0]) (hs : s.feedSound ch 1 = true) (hy : s.afterLastYield ch = false) :
    s.mayDecode ch 0x00 [0] = true ∧
      ChanStep s ch { ((s.ch ch).marked 1).dropFront 1 with begun := true, cursor := d.stime } (s.opened ch 1) := by
  obtain ⟨hread, kr⟩ := readied_of_feedSound Nat.one_pos hs
  have hopen : (s.readied ch 1).2.openCurd ch = s.opened ch 1 := rfl
  rw [openCurd_of_due (by rw [kr.here]; exact hb) (by rw [kr.here]; exact hc) (by rw [kr.here]; exact ht)] at hopen
  have ko := (kr.modCh fun c => { c.dropFront 1 with begun := true }).modCh fun c => { c with cursor := d.stime }
  rw [hopen] at ko
  have hend : ((s.ch ch).marked 1).dec.loc.word + 1 ≤ ((s.ch ch).marked 1).endOf ((s.ch ch).marked 1).dec.loc.lib := by
    show (s.ch ch).dec.loc.word + 1 ≤ (s.ch ch).endOf (s.ch ch).dec.loc.lib
    rw [hl, Chan.endOf, hc]
    exact hw.le
  refine ⟨?_, ko⟩
  simp only [State.mayDecode, State.mayRead, Bool.and_eq_true, Bool.not_eq_true', decide_eq_true_eq, List.length_singleton]
  rw [kr.here, ko.here, ko.afterLastYield rfl, Chan.wordsAt_congr (unchecked_marked _ _)]
  exact ⟨⟨⟨⟨⟨⟨⟨⟨⟨⟨hn, hdec⟩, hread⟩, Nat.one_pos⟩, hws⟩, hend⟩, rfl⟩, decStopped_of_decoding hdec⟩, hy⟩, rfl⟩, rfl⟩

/-- NOP as the last word of a curd that another one follows: the curd's descriptor is released, and the next curd comes first. -/
theorem nop_at_curdEnd {s u : State} {ch : Nat} {ws : List Nat} {d e : Curd} {ds : List Curd} {c : Chan} (h : s.mayDecode ch 0x00 ws = true)
    (hu : s.opened ch ws.length = u) (hch : u.ch ch = c) (hb : c.handBlock = []) (hc : c.curds = d :: e :: ds)
    (hl : c.dec.loc = ⟨false, d.words - 1⟩) (hw : 0 < d.words) (hp : c.dec.loops = []) (hd : d.last = false) (he : e.fault = none) :
    exec (.nop ch) s = .next (((u.modCh ch fun c => c.past 1).releaseDesc ch d 0).modCh ch (Chan.curdEnded (e :: ds))) := by
  subst hch
  have hend : (u.ch ch).endOf false ≤ (u.ch ch).dec.loc.word + 1 := by
    rw [hl, Chan.endOf, hc]
    show d.words ≤ d.words - 1 + 1
    omega
  rw [exec_nop h hu, next_end hb (by rw [hl]) hend, endCurd_eq (by rw [State.ch_modCh_same]; exact hc) (by rw [State.ch_modCh_same]; exact hp) hd he]

/-! ### HAND (R95, R239, R240) -/

/-- A HAND once it has taken the stored tokens that match it. -/
def State.handMet (u : State) (ch : Nat) (h : Hand) : Hand :=
  let m := (((u.ch ch).tokens.filter (tokenFor h)).filter fun x => tokenFits h x).foldl Hand.takes h
  { m with readySent := m.take && u.handFree ch m }

/-- The state with a HAND queued, its READY sent where it is due. -/
def State.handQueued (u : State) (ch : Nat) (m : Hand) : State :=
  let v := u.modCh ch fun c => { c with hands := c.hands ++ [m], lastAct := m.anchor, tokens := c.tokens.filter fun x => !tokenFor m x }
  if m.readySent then v.sendReady ch m else v

theorem fb_foldl_takes (ts : List Token) (h : Hand) : (ts.foldl Hand.takes h).fb = h.fb := by
  induction ts generalizing h with
  | nil => rfl
  | cons t ts ih =>
    rw [List.foldl_cons, ih]
    unfold Hand.takes
    split_ifs <;> rfl

theorem fb_handMet (u : State) (ch : Nat) (h : Hand) : (u.handMet ch h).fb = h.fb := fb_foldl_takes _ h

/-- The effect of a HAND for a partner in the bed group, whose anchor R95 admits and which every matching token fits. -/
theorem exec_hand {s u : State} {ch : Nat} {ws : List Nat} {c : Chan} {h : Hand} (hm : s.mayDecode ch 0x40 ws = true)
    (hu : s.opened ch ws.length = u) (hc : u.ch ch = c) (hh : handOf ws { c.dec.loc with word := c.dec.loc.word + 3 } = h)
    (hself : u.handSelf ch h = false) (habsent : u.handAbsent h = false) (hlib : c.dec.loc.lib = false)
    (hfb : h.fb = true → h.block.word + h.nlen + h.alen ≤ c.endOf false ∧ h.anchor = c.cursor) (hcur : c.cursor ≤ h.anchor)
    (hfloor : u.anchorFloor ch ≤ h.anchor) (hact : c.lastAct ≤ h.anchor) (hpart : h.pdev ≠ u.devid → u.partnerOk h.pdev = true)
    (htok : ∀ x ∈ c.tokens, tokenFor h x = true → tokenFits h x = true) :
    exec (.hand ch) s = .next (if h.fb then (u.handQueued ch (u.handMet ch h)).modCh ch fun c => c.past 3
      else (u.handQueued ch (u.handMet ch h)).next ch 3) := by
  subst hc
  have hblock : (h.fb && decide ((u.ch ch).endOf false < h.block.word + h.nlen + h.alen)) = false := by
    cases hf : h.fb with
    | false => rfl
    | true => simpa using (hfb hf).1
  have horder : (decide (h.anchor < (u.ch ch).cursor) || (h.fb && decide (h.anchor ≠ (u.ch ch).cursor)) ||
      decide (h.anchor < u.anchorFloor ch) || decide (h.anchor < (u.ch ch).lastAct)) = false := by
    have hanchor : (h.fb && decide (h.anchor ≠ (u.ch ch).cursor)) = false := by
      cases hf : h.fb with
      | false => rfl
      | true => simpa using (hfb hf).2
    rw [hanchor]
    simp [hcur, hfloor, hact]
  have hknown : (decide (h.pdev ≠ u.devid) && !u.partnerOk h.pdev) = false := by
    by_cases hp : h.pdev = u.devid
    · simp [hp]
    · simp [hpart hp]
  have hbad : (((u.ch ch).tokens.filter (tokenFor h)).filter fun t => !tokenFits h t).length = 0 := by
    rw [List.length_eq_zero_iff, List.filter_eq_nil_iff]
    intro x hx
    obtain ⟨hx, hfor⟩ := List.mem_filter.mp hx
    simp [htok x hx hfor]
  refine exec_of_mayDecode rfl hm hu ?_
  simp only [hh]
  simp only [hself, habsent, hlib, hblock, horder, hknown, hbad, Bool.false_eq_true, if_false, if_true]
  show (if (u.handMet ch h).fb = true then (u.handQueued ch (u.handMet ch h)).modCh ch (fun c => c.past 3)
    else (u.handQueued ch (u.handMet ch h)).next ch 3) = _
  rw [fb_handMet]

/-- The device's own ID is no register of a channel. -/
theorem HOOP_ID_notMem_chanRegs {n : Nat} (hn : n < 32) : R.HOOP_ID ∉ chanRegs n := by
  simp only [chanRegs, armRegs, evtRegs, List.mem_append, List.mem_cons, List.not_mem_nil, or_false, R.HOOP_ID, R.SEQ_STAT,
    R.SEQ_FAULT, R.SEQ_FAULT_SEQNO, R.SEQ_FAULT_S_LO, R.SEQ_FAULT_S_HI, R.SEQ_YDONE, R.SEQ_FEED_REFETCH, R.LSR_CH_MAN,
    R.LSR_CH_BOUNDS, R.LSR_CH_EVENTS, R.LSR_CH_EVENTS2, R.STI_CH_HANDS, R.STI_CH_FB, R.STI_CH_CLAMP, R.STI_CH_TOKERR,
    R.SEQ_RING_HEAD, R.SEQ_DISCARD, R.SRV_CH_STAT, R.SRV_AX_STAT, R.LSR_LOG_DROP, R.LSR_ISR, R.SEQ_GRP_DESC, R.SEQ_EVT_WR,
    R.SEQ_GRP_ISR, R.SEQ_EVT_DROP]
  omega

theorem RegsBut.openCurd {l : List Nat} {s t : State} {n : Nat} (h : RegsBut l s t) (hl : chanRegs n ⊆ l) : RegsBut l s (t.openCurd n) := by
  unfold State.openCurd State.decodeFault State.decodeFaultAt
  dsimp only
  refine h.ite ?_
  split
  · exact (((h.modCh.modCh).modCh.fault hl).ite h.modCh.modCh).ite h.modCh.modCh
  · exact h

/-- Reading an instruction and opening its curd leave the device's ID as it was. -/
theorem devid_opened {s : State} {n m : Nat} (hn : n < 32) (hr : (s.readied n m).1 = true) : (s.opened n m).devid = s.devid := by
  simp only [State.readied, Bool.and_eq_true] at hr
  have hread : (s.readied n m).2.regs = s.regs :=
    Eq.trans ((feedCheck_passes _ hr.2).1 .regs (by decide)) ((feedCheck_passes _ hr.1).1 .regs (by decide))
  have hregs : RegsBut (chanRegs n) s (s.opened n m) := ((RegsBut.refl _ s).of_regs hread).openCurd (List.Subset.refl _)
  unfold State.devid State.fld
  rw [hregs _ (HOOP_ID_notMem_chanRegs hn)]

theorem devid_opened_of_mayDecode {s : State} {n op : Nat} {ws : List Nat} (h : s.mayDecode n op ws = true) :
    (s.opened n ws.length).devid = s.devid := by
  simp only [State.mayDecode, State.mayRead, Bool.and_eq_true, decide_eq_true_eq] at h
  obtain ⟨⟨⟨⟨⟨⟨⟨⟨⟨⟨hn, -⟩, hread⟩, -⟩, -⟩, -⟩, -⟩, -⟩, -⟩, -⟩, -⟩ := h
  exact devid_opened (Nat.lt_of_lt_of_le hn (channels_le s)) hread

section
variable {s t : State} {n : Nat} {c : Chan}

theorem ChanStep.devid (h : ChanStep s n c t) : t.devid = s.devid := h.fld ..

theorem ChanStep.yieldTime (h : ChanStep s n c t) (g : Nat) : t.yieldTime g = s.yieldTime g := by
  have hdram : t.dram = s.dram := h.part .dram (by decide)
  unfold State.yieldTime State.yieldAddr State.readDram State.dramByte
  rw [h.grp, hdram]

theorem ChanStep.anchorFloor (h : ChanStep s n c t) (hy : c.lastYield = (s.ch n).lastYield) : t.anchorFloor n = s.anchorFloor n := by
  unfold State.anchorFloor State.floorAfter
  simp only [h.here, hy, h.grp, h.yieldTime]

theorem ChanStep.partnerOk (h : ChanStep s n c t) (dev : Nat) : t.partnerOk dev = s.partnerOk dev := by
  unfold State.partnerOk State.others State.members State.self
  simp only [h.fld]

end

/-- With no token stored, a GIVE HAND is queued as its words spell it, and nothing is sent. -/
theorem handQueued_of_give {u : State} {ch : Nat} {h : Hand} (ht : (u.ch ch).tokens = []) (hk : h.take = false) (hr : h.readySent = false) :
    u.handQueued ch (u.handMet ch h) = u.modCh ch fun c => { c with hands := c.hands ++ [h], lastAct := h.anchor } := by
  have hsame (b : Bool) (hb : b = h.readySent) : { h with readySent := b } = h := by rw [hb]
  have hmet : u.handMet ch h = h := by
    unfold State.handMet
    rw [ht]
    exact hsame _ (by rw [List.filter_nil, List.filter_nil, List.foldl_nil, hk, Bool.false_and, hr])
  rw [hmet, State.handQueued]
  simp only [hr, Bool.false_eq_true, if_false]
  exact modCh_congr (by simp [ht])

theorem ch_curdEnded_same (v : State) (n : Nat) (d : Curd) (ds : List Curd) :
    ((v.releaseDesc n d 0).modCh n (Chan.curdEnded ds)).ch n = (v.ch n).curdEnded ds := by
  rw [State.ch_modCh_same, ch_of_chan (releaseDesc_chan ..)]

theorem ch_curdEnded_ne {m n : Nat} (h : m ≠ n) (v : State) (d : Curd) (ds : List Curd) :
    ((v.releaseDesc n d 0).modCh n (Chan.curdEnded ds)).ch m = v.ch m := by
  rw [State.ch_modCh, if_neg h, ch_of_chan (releaseDesc_chan ..)]

/-- Settles O18: a HAND by its one effect, the first and the last word of a curd by what opening and ending a curd do. -/
theorem handAndCurdBoundaries : Obligations.HandAndCurdBoundaries := by
  refine ⟨?_, ?_, ?_, ?_, ?_⟩
  · intro s ch ws h hn hfb htake hlib hpart hdev hcur hfloor hact htok
    obtain ⟨hm, k⟩ := mayDecode_of_canDecode h
    have hx := exec_hand hm rfl k.here rfl
      (by rw [State.handSelf, k.devid]; exact Bool.and_eq_false_imp.mpr fun he => absurd (of_decide_eq_true he) hdev)
      (by rw [State.handAbsent, k.devid]; exact Bool.and_eq_false_imp.mpr fun he => absurd (of_decide_eq_true he) hdev)
      hlib (fun hf => absurd (hfb.symm.trans hf) Bool.false_ne_true) hcur (by rw [k.anchorFloor rfl]; exact hfloor) hact
      (fun _ => by rw [k.partnerOk]; exact hpart) (fun x hx => absurd (htok ▸ hx : x ∈ []) List.not_mem_nil)
    rw [handQueued_of_give (by rw [k.here]; exact htok) htake rfl,
      if_neg (show ¬(handOf ws _).fb = true from fun hf => absurd (hfb.symm.trans hf) Bool.false_ne_true)] at hx
    exact next_of_canDecode h hn rfl hx (k.modCh _) ⟨rfl, rfl, rfl, rfl⟩
  · intro s ch d ds hn hdec hb hc hl hblock hw ht hws hs hy
    obtain ⟨hm, k⟩ := nop_at_curdStart hn hdec hb hc hl hw ht hws hs hy
    exact next_of_within hblock (by rw [hl, Chan.endOf, hc]; exact hw) (exec_nop hm rfl) k ⟨rfl, rfl, rfl, rfl⟩
  · intro s ch d e ds h hb hc hl hw hp hd he
    obtain ⟨hm, k⟩ := mayDecode_of_canDecode h
    have hx := nop_at_curdEnd hm rfl k.here hb hc hl hw hp hd he
    have kv := k.modCh fun c => c.past 1
    refine ⟨_, hx, ((keeps_execNop (List.Subset.refl _) ch (Keeps.refl _ s)).next _ hx).only, ?_, ?_, ?_, ?_, fun m hm => ?_⟩
    · rw [ch_curdEnded_same]; rfl
    · rw [ch_curdEnded_same]; rfl
    · rw [ch_curdEnded_same]; rfl
    · rw [ch_curdEnded_same, kv.here]; rfl
    · rw [ch_curdEnded_ne hm]
      exact kv.others m hm
  · intro s ch ws h hfb hself habsent hlib hblock hcur hfloor hact hpart htok
    have hx := exec_hand h rfl rfl rfl hself habsent hlib hblock hcur hfloor hact
      (by rw [devid_opened_of_mayDecode h]; exact hpart) htok
    rw [if_neg (show ¬(handOf ws _).fb = true from fun hf => absurd (hfb.symm.trans hf) Bool.false_ne_true)] at hx
    exact next_of_keeps (keeps_execHand (List.Subset.refl _) ch (Keeps.refl _ s)) hx
  · intro s ch ws h hfb hself habsent hlib hblock hcur hfloor hact hpart htok
    have hx := exec_hand h rfl rfl rfl hself habsent hlib hblock hcur hfloor hact
      (by rw [devid_opened_of_mayDecode h]; exact hpart) htok
    rw [if_pos (show (handOf ws _).fb = true from hfb)] at hx
    exact next_of_keeps (keeps_execHand (List.Subset.refl _) ch (Keeps.refl _ s)) hx

/-! ### A decode fault that a hold finds takes effect at once (R67) -/

/-- An instruction word whose opcode R59 does not list. -/
def unlistedWord : Nat := 0xFF * 2 ^ 56

/-- Channel 0 in RUN, with C = 0, before an unlisted opcode, in a layer held at S = 1. -/
def heldBeforeUnlisted : State :=
  let c := { Chan.reset with
    begun := true
    curds := [⟨0, 0, false, true, 0, 64, false, 0, none, 0⟩]
    feed := [⟨1, true, true, BitVec.ofNat 64 unlistedWord :: List.replicate 7 0, 0, true, 0, [], false, 0⟩] }
  let s : State := { State.reset.modCh 0 (fun _ => c) with grp := { Group.reset with s := 1 } }
  (s.setFld (R.SEQ_STAT 0) F.SEQ_STAT_STATE 4).setFld R.SEQ_GRP_STAT F.SEQ_GRP_STAT_STATE 3

theorem undefinedOpcode_held : ∃ t, exec (.undefinedOpcode 0) heldBeforeUnlisted = .next t ∧ (t.ch 0).pending = none :=
  ⟨_, rfl, by decide⟩

/-- Refutes O13: its clause on UNDEFINED_OPCODE asks only that S stands, and has the fault pending. In a hold S stands too, and a decode
fault whose time C has passed takes effect at once, which leaves none pending. -/
theorem not_cursorInstructions : ¬ Obligations.CursorInstructions := by
  rintro ⟨-, -, -, -, -, -, -, -, -, -, -, hundefined, -⟩
  obtain ⟨t, e, -, hch, -⟩ := hundefined heldBeforeUnlisted 0 unlistedWord (by decide) (by decide) (by decide) rfl
  obtain ⟨u, eu, hnone⟩ := undefinedOpcode_held
  obtain rfl := Host.Outcome.next.inj (e.symm.trans eu)
  rw [hch] at hnone
  exact absurd hnone (Option.some_ne_none _)

/-! ### LATE waits for a fetch fault (R64, R67) -/

/-- Channel 0 in RUN at S = 625 with no word in its feed: its curd has a fetch fault that waits for its fault time. -/
def fetchFaulted : State :=
  let c := { Chan.reset with curds := [⟨0, 0, false, true, 0, 64, false, 0, some (0x17, ⟨false, 0⟩), 0⟩] }
  let s : State := { State.reset.modCh 0 (fun _ => c) with grp := { Group.reset with run := true, s := 625, n := 1, pmask := 1 } }
  (s.setFld (R.SEQ_STAT 0) F.SEQ_STAT_STATE 4).setFld R.SEQ_GRP_STAT F.SEQ_GRP_STAT_STATE 2

theorem late_fetchFaulted : ∃ t, exec (.late 0) fetchFaulted = .next t ∧ t.chState 0 = 4 := ⟨_, rfl, by decide⟩

/-- Refutes O19: its clause on LATE with an empty feed does not exclude a fetch fault of the decoder's curd, and with one LATE leaves the
channel to that fault. -/
theorem not_timedEffectsOfTheLayer : ¬ Obligations.TimedEffectsOfTheLayer := by
  rintro ⟨-, -, -, -, -, hlate, -⟩
  obtain ⟨t, e, -, hfault, -, -⟩ := hlate fetchFaulted 0 (by decide) (by decide) (by decide) (by decide) (by decide) (by decide) (by decide)
    (by decide) (by decide) (by decide) (by decide)
  obtain ⟨u, eu, hrun⟩ := late_fetchFaulted
  obtain rfl := Host.Outcome.next.inj (e.symm.trans eu)
  rw [hfault] at hrun
  exact absurd hrun (by decide)

/-! ### A channel samples its photodiodes every 125 ticks (R177) -/

/-- Every domain up, no layer, and channel 0 has sampled in this very period. -/
def justSampled : State :=
  let s : State := { State.reset with time := { State.reset.time with mt := 100 } }
  (s.setFld R.PWR_DOM F.PWR_DOM_UP 0x7FF).modLs 0 fun l => { l with sampleAt := 100 }

theorem freeCadenceSample_justSampled : ∃ t, exec (.freeCadenceSample 0 0 0) justSampled = .next t ∧ t.reg (R.LSR_CH_PD 0) = 0 :=
  ⟨_, rfl, by decide⟩

/-- Refutes O24: its clause on FREE_CADENCE_SAMPLE does not ask that a sample be due. In `justSampled` none is, and the register keeps
its zero where the clause has the saturated code of input A. -/
theorem not_gateEdgesAndPowerInstants : ¬ Obligations.GateEdgesAndPowerInstants := by
  rintro ⟨-, -, -, -, hsample, -⟩
  obtain ⟨t, e, -, hreg, -, -⟩ := hsample justSampled 0 0 0 (by decide) (by decide) (by decide) (by decide) (by decide) (by decide)
  obtain ⟨u, eu, hzero⟩ := freeCadenceSample_justSampled
  obtain rfl := Host.Outcome.next.inj (e.symm.trans eu)
  rw [hzero] at hreg
  exact absurd hreg (by decide)

/-! ### Fields of masked words -/

theorem field_lt (f : Field) (w : Word) : field f w < 2 ^ f.width := Nat.mod_lt _ (by positivity)

/-- A field depends on its own bits alone. -/
theorem field_congr {f : Field} {v w : Word} {k : Nat} (h : f.lo + f.width ≤ k) (hb : ∀ i < k, v.getLsbD i = w.getLsbD i) :
    field f v = field f w := by
  refine Nat.eq_of_testBit_eq fun i => ?_
  simp only [field, Nat.testBit_mod_two_pow, Nat.testBit_shiftRight, BitVec.testBit_toNat]
  by_cases hi : i < f.width
  · simp only [hb (f.lo + i) (by omega)]
  · simp only [hi, decide_false, Bool.false_and]

theorem field_and {f : Field} {v m : Word} {k : Nat} (h : f.lo + f.width ≤ k) (hm : ∀ i < k, m.getLsbD i = true) :
    field f (v &&& m) = field f v :=
  field_congr h fun i hi => by rw [BitVec.getLsbD_and, hm i hi, Bool.and_true]

theorem field_or_and {f : Field} {r v m n : Word} {k : Nat} (h : f.lo + f.width ≤ k) (hm : ∀ i < k, m.getLsbD i = false)
    (hn : ∀ i < k, n.getLsbD i = true) : field f ((r &&& m) ||| (v &&& n)) = field f v :=
  field_congr h fun i hi => by
    rw [BitVec.getLsbD_or, BitVec.getLsbD_and, BitVec.getLsbD_and, hm i hi, hn i hi, Bool.and_false, Bool.and_true, Bool.false_or]

/-! ### The camera ports (R287) -/

theorem modCm_congr {s : State} {p : Nat} {f g : CamPort → CamPort} (h : f (s.cm p) = g (s.cm p)) : s.modCm p f = s.modCm p g := by
  simp only [State.modCm, h]

theorem cm_of_cam {s t : State} (h : t.cam = s.cam) (p : Nat) : t.cm p = s.cm p := by unfold State.cm; rw [h]

@[simp] theorem State.cm_setReg (s : State) (a : Nat) (v : Word) (p : Nat) : (s.setReg a v).cm p = s.cm p := rfl
@[simp] theorem State.cm_setFld (s : State) (a : Nat) (f : Field) (v p : Nat) : (s.setFld a f v).cm p = s.cm p := rfl
@[simp] theorem State.cm_satAdd (s : State) (a : Nat) (f : Field) (v p : Nat) : (s.satAdd a f v).cm p = s.cm p := rfl
@[simp] theorem State.cm_raise (s : State) (a : Nat) (f : Field) (p : Nat) : (s.raise a f).cm p = s.cm p := cm_of_cam (by simp) p
@[simp] theorem State.cm_camSync (s : State) (p m : Nat) : (s.camSync p).cm m = s.cm m :=
  cm_of_cam ((keeps_State_camSync (List.Subset.refl _) p (Keeps.refl _ s)).part .cam rfl) m

/-- The trigger's end after a pulse that begins now. -/
def State.pulseEnd (s : State) (width : Nat) : Nat := s.time.mt + ticksU (80 * width)

theorem trigger_of_idle {s : State} {p : Nat} (h : (s.cm p).trigUntil ≤ s.time.mt) (width : Nat) :
    s.trigger p width = s.modCm p fun c => { c with trigUntil := s.pulseEnd width } := by
  unfold State.trigger
  simp only [Nat.not_lt.mpr h, decide_false, Bool.false_eq_true, if_false]
  exact modCm_congr (by rw [max_eq_right (h.trans (Nat.le_add_right ..))]; rfl)

theorem trigger_of_clash {s : State} {p : Nat} (h : s.time.mt < (s.cm p).trigUntil) (width : Nat) :
    s.trigger p width = ((s.satAdd (R.CAM_PT_TRIG p) F.CAM_PT_TRIG_CNF 1).raise R.CAM_ISR F.CAM_ISR_TRIGCNF).modCm p fun c =>
      { c with trigUntil := max c.trigUntil (s.pulseEnd width) } := by
  unfold State.trigger
  simp only [h, decide_true, if_true]
  rfl

theorem exec_hostTrigger {s : State} {p : Nat} {v : Word} (hp : p < s.camPorts) (ht : field F.CAM_PT_TRIG_TRIG v = 1) :
    exec (.hostTrigger p v) s = .next ((s.setFld (R.CAM_PT_TRIG p) F.CAM_PT_TRIG_WIDTH (field F.CAM_PT_TRIG_WIDTH v)).trigger p
      (max 1 (field F.CAM_PT_TRIG_WIDTH v))) := by
  have hx : exec (.hostTrigger p v) s = execHostTrigger p v s := rfl
  have hwidth : (s.setFld (R.CAM_PT_TRIG p) F.CAM_PT_TRIG_WIDTH (field F.CAM_PT_TRIG_WIDTH v)).fld (R.CAM_PT_TRIG p) F.CAM_PT_TRIG_WIDTH =
      field F.CAM_PT_TRIG_WIDTH v := by
    rw [State.fld_setFld_same _ _ _ _ (by decide), Nat.mod_eq_of_lt (field_lt _ _)]
  rw [hx, execHostTrigger, onUnitWrite_next hp (camPorts_le s)]
  simp only [hwidth, ht, if_true]

theorem exec_trigPulse {s : State} {ch tt width kind k : Nat} {as : List Action} (hn : ch < s.channels) (ha : s.acting ch = true)
    (hq : (s.ch ch).acts = ⟨tt, .trig width kind k⟩ :: as) (ht : tt ≤ s.grp.s) :
    exec (.trigPulse ch) s = .next (if kind = 0 then (s.modCh ch fun c => { c with acts := as }).trigger k width
      else (s.modCh ch fun c => { c with acts := as }).strobePulse k width) := by
  have hx : exec (.trigPulse ch) s = execTrigPulse ch s := rfl
  rw [hx, execTrigPulse, onUnit_next hn (channels_le s), State.takeAct, if_pos ha, hq]
  simp only [dueAct, ht, if_true]

theorem strobePulse_of_clash {s : State} {k : Nat} (hr : s.flag (R.LGT_STB_STAT k) F.LGT_STB_STAT_READY = true) (hu : s.up dLGT = true)
    (h : s.time.mt < (s.sb k).until_) (width : Nat) :
    s.strobePulse k width = s.modSb k fun b => { b with until_ := max b.until_ (s.pulseEnd width), conflicts := b.conflicts + 1 } := by
  unfold State.strobePulse
  simp only [hr, hu, Bool.not_true, Bool.or_self, Bool.false_eq_true, if_false]
  simp only [State.modSb, h, if_true]
  rfl

/-! ### Sensor I2C and exposure sets (R289 to R292) -/

theorem sendNext_of_none {s : State} {p : Nat} (h : (s.cm p).sendSet = none) : s.sendNext p = s := by
  unfold State.sendNext
  rw [h]

/-- I2CCMD.BUSY is set while a transaction runs. -/
theorem busy_camSync (s : State) (p : Nat) :
    (s.camSync p).flag (R.CAM_PT_I2CCMD p) F.CAM_PT_I2CCMD_BUSY = (s.cm p).i2c.isSome :=
  State.flag_setFlag_same _ _ _ _ (by decide) (by decide)

/-- Of a register that is not EXPSTAT, the sets and the transaction set BUSY alone. -/
theorem fld_camSync_of_ne {s : State} {p a : Nat} {f : Field} (he : a ≠ R.CAM_PT_EXPSTAT p)
    (hf : F.CAM_PT_I2CCMD_BUSY.lo + F.CAM_PT_I2CCMD_BUSY.width ≤ f.lo ∨ f.lo + f.width ≤ F.CAM_PT_I2CCMD_BUSY.lo) :
    (s.camSync p).fld a f = s.fld a f := by
  unfold State.camSync
  dsimp only
  rw [State.setFlag]
  by_cases h : a = R.CAM_PT_I2CCMD p
  · subst h
    rw [State.fld_setFld_field _ _ _ _ _ (by decide) hf, State.fld_setFld_reg _ _ _ _ _ _ he]
  · rw [State.fld_setFld_reg _ _ _ _ _ _ h, State.fld_setFld_reg _ _ _ _ _ _ he]

theorem reg_camSync_of_ne {s : State} {p a : Nat} (he : a ≠ R.CAM_PT_EXPSTAT p) (hi : a ≠ R.CAM_PT_I2CCMD p) :
    (s.camSync p).reg a = s.reg a :=
  (State.reg_setFlag_ne _ _ _ _ _ hi).trans (State.reg_setFld_ne _ _ _ _ _ he)

theorem cm_i2cStart (s : State) (p : Nat) (q : I2c) (data : Word) (m : Nat) :
    (s.i2cStart p q data).cm m = if m = p then { s.cm p with i2c := some q } else s.cm m := by
  rw [State.i2cStart, State.cm_camSync, State.cm_modCm]
  rfl

theorem out_i2cStart (s : State) (p : Nat) (q : I2c) (data : Word) : (s.i2cStart p q data).out.length = s.out.length + 1 := by
  have hsync (t : State) : (t.camSync p).out = t.out := (keeps_State_camSync (List.Subset.refl _) p (Keeps.refl _ t)).part .out rfl
  rw [State.i2cStart, hsync]
  rfl

/-- The write of CAM_PT_I2CCMD keeps the command's fields as written. -/
def State.i2cCmd (s : State) (p : Nat) (v : Word) : State :=
  s.setReg (R.CAM_PT_I2CCMD p) ((s.reg (R.CAM_PT_I2CCMD p) &&& 0xFFF80000) ||| (v &&& 0x7FFFF))

theorem fld_i2cCmd (s : State) (p : Nat) (v : Word) {f : Field} (h : f.lo + f.width ≤ 19) :
    (s.i2cCmd p v).fld (R.CAM_PT_I2CCMD p) f = field f v := by
  rw [State.fld, State.i2cCmd, State.reg_setReg_same]
  exact field_or_and h (by decide) (by decide)

theorem flag_i2cCmd_write (s : State) (p : Nat) (v : Word) :
    (s.i2cCmd p v).flag (R.CAM_PT_I2CCMD p) F.CAM_PT_I2CCMD_WRITE = decide (field F.CAM_PT_I2CCMD_WRITE v = 1) := by
  have hlt : field F.CAM_PT_I2CCMD_WRITE v < 2 := field_lt _ _
  rw [State.flag, fld_i2cCmd s p v (by decide)]
  exact decide_eq_decide.mpr (by omega)

theorem exec_i2cGo_start {s : State} {p : Nat} {v : Word} (hp : p < s.camPorts) (hg : field F.CAM_PT_I2CCMD_GO v = 1)
    (hi : (s.cm p).i2c = none) (hs : (s.cm p).sendSet = none) :
    exec (.i2cGo p v) s = .next ((s.i2cCmd p v).i2cStart p ⟨.host, decide (field F.CAM_PT_I2CCMD_WRITE v = 1), field F.CAM_PT_I2CCMD_REG v,
      field F.CAM_PT_I2CCMD_N v + 1⟩ ((s.i2cCmd p v).reg (R.CAM_PT_I2CDATA p))) := by
  have hx : exec (.i2cGo p v) s = execI2cGo p v s := rfl
  rw [hx, execI2cGo, onUnitWrite_next hp (camPorts_le s), ← flag_i2cCmd_write s p v, ← fld_i2cCmd s p v (f := F.CAM_PT_I2CCMD_REG) (by decide),
    ← fld_i2cCmd s p v (f := F.CAM_PT_I2CCMD_N) (by decide)]
  simp only [hg, State.cm_setReg, hi, hs, Option.isSome_none, Bool.or_self, Bool.false_eq_true, if_false, one_ne_zero]
  rfl

theorem exec_i2cGo_busy {s : State} {p : Nat} {v : Word} (hp : p < s.camPorts) (hg : field F.CAM_PT_I2CCMD_GO v = 1)
    (hb : (s.cm p).i2c ≠ none ∨ (s.cm p).sendSet ≠ none) :
    exec (.i2cGo p v) s = .next ((s.i2cCmd p v).raise R.CAM_ISR F.CAM_ISR_REJ) := by
  have hx : exec (.i2cGo p v) s = execI2cGo p v s := rfl
  have hbusy : ((s.cm p).i2c.isSome || (s.cm p).sendSet.isSome) = true := by
    simpa only [Bool.or_eq_true, Option.isSome_iff_ne_none] using hb
  rw [hx, execI2cGo, onUnitWrite_next hp (camPorts_le s)]
  simp only [hg, State.cm_setReg, hbusy, if_true, if_false, one_ne_zero]
  rfl

/-- The end of a host's read with its data. -/
def State.i2cRead (s : State) (p : Nat) (data : Word) : State :=
  ((((s.modCm p fun c => { c with i2c := none }).setFld (R.CAM_PT_I2CCMD p) F.CAM_PT_I2CCMD_CODE 0).setReg (R.CAM_PT_I2CDATA p) data)).camSync p

theorem exec_i2cDone_read {s : State} {p : Nat} {data : Word} {q : I2c} (hp : p < s.camPorts) (hi : (s.cm p).i2c = some q)
    (ho : q.owner = .host) (hw : q.write = false) (hs : (s.cm p).sendSet = none) :
    exec (.i2cDone p 0 data) s = .next (s.i2cRead p data) := by
  have hx : exec (.i2cDone p 0 data) s = execI2cDone p 0 data s := rfl
  rw [hx, execI2cDone, onUnit_next hp (camPorts_le s), hi]
  simp only [ho, hw, Bool.not_false, decide_true, Bool.and_self, if_true]
  rw [sendNext_of_none (by simpa using hs)]
  rfl

/-- The write of CAM_PT_EXPCMD, and one more replaced set when one was pending. -/
def State.expCmd (s : State) (p : Nat) (v : Word) : State :=
  let t := s.setReg (R.CAM_PT_EXPCMD p) (v &&& 0x3FFFFF)
  if (s.cm p).pendSet.isSome then t.satAdd (R.CAM_PT_EXPSTAT p) F.CAM_PT_EXPSTAT_REPL 1 else t

theorem cm_expCmd (s : State) (p : Nat) (v : Word) (m : Nat) : (s.expCmd p v).cm m = s.cm m := by
  unfold State.expCmd
  split_ifs
  · rw [State.cm_satAdd, State.cm_setReg]
  · rw [State.cm_setReg]

/-- The fields of a word written to CAM_PT_EXPCMD, below COMMIT. -/
theorem fld_expCmd {f : Field} (h : f.lo + f.width ≤ 22) (s : State) (p : Nat) (v : Word) :
    (s.expCmd p v).fld (R.CAM_PT_EXPCMD p) f = field f v := by
  have hreg : (s.expCmd p v).reg (R.CAM_PT_EXPCMD p) = v &&& 0x3FFFFF := by
    have hne : R.CAM_PT_EXPCMD p ≠ R.CAM_PT_EXPSTAT p := by unfold R.CAM_PT_EXPCMD R.CAM_PT_EXPSTAT; omega
    unfold State.expCmd
    split_ifs
    · rw [State.satAdd, State.setFld, State.reg_setReg_ne _ _ _ _ hne, State.reg_setReg_same]
    · exact State.reg_setReg_same ..
  rw [State.fld, hreg]
  exact field_and h (by decide)

theorem exec_exposureCommit {s : State} {p : Nat} {v : Word} (hp : p < s.camPorts) (hc : field F.CAM_PT_EXPCMD_COMMIT v = 1)
    (h0 : 0 < field F.CAM_PT_EXPCMD_COUNT v) (h16 : field F.CAM_PT_EXPCMD_COUNT v ≤ 16) :
    exec (.exposureCommit p v) s = .next (((s.expCmd p v).modCm p fun c => { c with
      pendSet := some (field F.CAM_PT_EXPCMD_BANK v, field F.CAM_PT_EXPCMD_COUNT v, field F.CAM_PT_EXPCMD_SEQ v) }).camSync p) := by
  have hx : exec (.exposureCommit p v) s = execExposureCommit p v s := rfl
  have hcount : (s.setReg (R.CAM_PT_EXPCMD p) (v &&& 0x3FFFFF)).fld (R.CAM_PT_EXPCMD p) F.CAM_PT_EXPCMD_COUNT = field F.CAM_PT_EXPCMD_COUNT v := by
    rw [State.fld, State.reg_setReg_same]
    exact field_and (k := 22) (by decide) (by decide)
  have hok : ¬(field F.CAM_PT_EXPCMD_COUNT v = 0 ∨ 16 < field F.CAM_PT_EXPCMD_COUNT v) := by omega
  rw [hx, execExposureCommit, onUnitWrite_next hp (camPorts_le s), ← fld_expCmd (f := F.CAM_PT_EXPCMD_BANK) (by decide) s p v,
    ← fld_expCmd (f := F.CAM_PT_EXPCMD_SEQ) (by decide) s p v]
  simp only [hcount, hc, hok, one_ne_zero, if_false]
  rfl

/-! ### Camera tables (R310) -/

theorem onTable_next {n present limit addr : Nat} {s : State} {f : State → State} (ha : addr < 0x4000000) (h4 : addr % 4 = 0)
    (h : n < present) (hl : present ≤ limit) : onTable n present limit addr s f = .next (f s) := by
  rw [onTable, onAddr_next ha h4, if_pos (Nat.lt_of_lt_of_le h hl), if_pos h]

section
variable {s : State} {addr : Nat} {v : Word} (hlo : 0x1A00000 ≤ addr) (hhi : addr < 0x1A40000) (h4 : addr % 4 = 0)
  (hp : (addr - 0x1A00000) / 0x10000 < s.camPorts) (hm : camMask ((addr - 0x1A00000) % 0x10000) ≠ 0)
include hlo hhi h4 hp hm

theorem exec_cameraTableWrite_store
    (hen : (addr - 0x1A00000) % 0x10000 < 0x6000 → s.flag (R.CAM_PT_CFG ((addr - 0x1A00000) / 0x10000)) F.CAM_PT_CFG_EN = false)
    (hpend : (s.cm ((addr - 0x1A00000) / 0x10000)).pendSet = none) (hsend : (s.cm ((addr - 0x1A00000) / 0x10000)).sendSet = none) :
    exec (.cameraTableWrite addr v) s = .next (s.tableStore addr (camMask ((addr - 0x1A00000) % 0x10000)) v) := by
  have hx : exec (.cameraTableWrite addr v) s = execCameraTableWrite addr v s := rfl
  have hfree : ¬((addr - 0x1A00000) % 0x10000 < 0x6000 ∧ s.flag (R.CAM_PT_CFG ((addr - 0x1A00000) / 0x10000)) F.CAM_PT_CFG_EN = true) :=
    fun hb => absurd ((hen hb.1).symm.trans hb.2) Bool.false_ne_true
  rw [hx, execCameraTableWrite, if_neg (by omega), onTable_next (by omega) h4 hp (camPorts_le s)]
  simp only [hm, hfree, hpend, hsend, Bool.or_self, Bool.false_eq_true, and_false, or_self, if_false]

theorem exec_cameraTableWrite_rejected (hgrid : (addr - 0x1A00000) % 0x10000 < 0x6000)
    (hen : s.flag (R.CAM_PT_CFG ((addr - 0x1A00000) / 0x10000)) F.CAM_PT_CFG_EN = true) :
    exec (.cameraTableWrite addr v) s = .next (s.raise R.CAM_ISR F.CAM_ISR_REJ) := by
  have hx : exec (.cameraTableWrite addr v) s = execCameraTableWrite addr v s := rfl
  rw [hx, execCameraTableWrite, if_neg (by omega), onTable_next (by omega) h4 hp (camPorts_le s)]
  simp only [hm, hgrid, hen, and_self, true_or, if_false, if_true]

end

/-! ### The statement -/

theorem unitsBut_modCm {s t : State} {p : Nat} {f : CamPort → CamPort} (h : ∀ m, t.cm m = s.cm m) : UnitsBut State.cm p s (t.modCm p f) :=
  fun m hm => by rw [State.cm_modCm, if_neg hm, h m]

/-- Settles O37: each command's effect as one equation, read field by field. -/
theorem cameraControl : Obligations.CameraControl := by
  refine ⟨?_, ?_, ?_, ?_, ?_, ?_, ?_, ?_, ?_, ?_⟩
  · intro s p v hp ht hidle
    have hx := exec_hostTrigger hp ht
    rw [trigger_of_idle (by simpa using hidle)] at hx
    have hset : RegsBut [R.CAM_PT_TRIG p] s (s.setFld (R.CAM_PT_TRIG p) F.CAM_PT_TRIG_WIDTH (field F.CAM_PT_TRIG_WIDTH v)) :=
      (RegsBut.refl _ s).setFld (by simp)
    refine ⟨_, hx, (keeps_State_modCm (by decide) _ _ (keeps_State_setFld (by decide) _ _ _ (Keeps.refl _ s))).only, ?_, ?_,
      hset.of_regs rfl, unitsBut_modCm fun _ => rfl⟩
    · rw [State.cm_modCm_same]
      rfl
    · rw [State.fld, State.modCm_reg]
      exact (State.fld_setFld_same _ _ _ _ (by decide)).trans (Nat.mod_eq_of_lt (field_lt _ _))
  · intro s p v hp ht hbusy
    have hx := exec_hostTrigger hp ht
    have hk := (keeps_execHostTrigger (List.Subset.refl _) p v (Keeps.refl _ s)).next _ hx
    have hne : R.CAM_PT_TRIG p ≠ R.CAM_ISR := by unfold R.CAM_PT_TRIG R.CAM_ISR; omega
    rw [trigger_of_clash (by simpa using hbusy)] at hx hk
    refine ⟨_, hx, hk.only, ?_, ?_, ?_, unitsBut_modCm fun m => by simp⟩
    · rw [State.cm_modCm_same, State.cm_raise, State.cm_satAdd, State.cm_setFld]
      rfl
    · rw [State.fld, State.modCm_reg, State.reg_raise_ne _ _ _ _ hne]
      exact (fld_satAdd_same _ _ _ _ (by decide)).trans (by rw [State.fld_setFld_field _ _ _ _ _ (by decide) (by decide)])
    · rw [State.flag, State.fld, State.modCm_reg]
      exact State.flag_raise_same _ _ _ (by decide) (by decide)
  · intro s ch k tt width as hn ha hq ht hr hu hbusy
    have hx := exec_trigPulse hn ha hq ht
    have hk := (keeps_execTrigPulse (List.Subset.refl _) ch (Keeps.refl _ s)).next _ hx
    rw [if_neg one_ne_zero, strobePulse_of_clash (by exact hr) (by exact hu) (by exact hbusy)] at hx hk
    refine ⟨_, hx, hk.only, ?_, fun m hm => ?_⟩
    · rw [State.sb_modSb, if_pos rfl]
      rfl
    · rw [State.sb_modSb, if_neg hm]
      rfl
  · intro s ch p tt width as hn ha hq ht hidle
    have hx := exec_trigPulse hn ha hq ht
    rw [if_pos rfl, trigger_of_idle (by exact hidle)] at hx
    refine ⟨_, hx, (keeps_State_modCm (by decide) _ _ (keeps_State_modCh (by decide) _ _ (Keeps.refl _ s))).only, ?_, ?_,
      unitsBut_modCm fun _ => rfl, (RegsBut.refl _ s).of_regs rfl⟩
    · show ((s.modCh ch fun c => { c with acts := as }).ch ch).acts = as
      rw [State.ch_modCh_same]
    · rw [State.cm_modCm_same]
      rfl
  · intro s p v hp hg hi hs
    have hx := exec_i2cGo_start hp hg hi hs
    refine ⟨_, hx, ((keeps_execI2cGo (List.Subset.refl _) p v (Keeps.refl _ s)).next _ hx).only, ?_, ?_, ?_, fun m hm => ?_⟩
    · rw [cm_i2cStart, if_pos rfl]
    · rw [State.i2cStart, busy_camSync, State.cm_modCm_same]
      rfl
    · rw [out_i2cStart]
      rfl
    · rw [cm_i2cStart, if_neg hm, State.i2cCmd, State.cm_setReg]
  · intro s p v hp hg hb
    have hx := exec_i2cGo_busy hp hg hb
    refine ⟨_, hx, ((keeps_execI2cGo (List.Subset.refl _) p v (Keeps.refl _ s)).next _ hx).only, ?_,
      State.flag_raise_same _ _ _ (by decide) (by decide), fun m _ => ?_⟩
    · rw [State.cm_raise, State.i2cCmd, State.cm_setReg]
    · rw [State.cm_raise, State.i2cCmd, State.cm_setReg]
  · intro s p code data q hp hi ho hw hcode hs
    subst hcode
    have hx := exec_i2cDone_read (data := data) hp hi ho hw hs
    have hdone (m : Nat) : (s.i2cRead p data).cm m = if m = p then { s.cm p with i2c := none } else s.cm m := by
      rw [State.i2cRead, State.cm_camSync, State.cm_setReg, State.cm_setFld, State.cm_modCm]
    refine ⟨_, hx, ((keeps_execI2cDone (List.Subset.refl _) p 0 data (Keeps.refl _ s)).next _ hx).only, ?_, ?_, ?_, ?_, fun m hm => ?_⟩
    · rw [hdone, if_pos rfl]
    · rw [State.i2cRead, reg_camSync_of_ne (by unfold R.CAM_PT_I2CDATA R.CAM_PT_EXPSTAT; omega)
        (by unfold R.CAM_PT_I2CDATA R.CAM_PT_I2CCMD; omega), State.reg_setReg_same]
    · rw [State.i2cRead, fld_camSync_of_ne (by unfold R.CAM_PT_I2CCMD R.CAM_PT_EXPSTAT; omega) (.inl (by decide)), State.fld,
        State.reg_setReg_ne _ _ _ _ (by unfold R.CAM_PT_I2CCMD R.CAM_PT_I2CDATA; omega)]
      exact State.fld_setFld_same _ _ _ _ (by decide)
    · have hidle : ((s.i2cRead p data).cm p).i2c = none := by rw [hdone, if_pos rfl]
      rw [State.i2cRead, busy_camSync, ← State.cm_camSync _ p p]
      exact Option.isSome_eq_false_iff.mpr (Option.isNone_iff_eq_none.mpr hidle)
    · rw [hdone, if_neg hm]
  · intro s p v hp hc h0 h16
    have hx := exec_exposureCommit hp hc h0 h16
    refine ⟨_, hx, ((keeps_execExposureCommit (List.Subset.refl _) p v (Keeps.refl _ s)).next _ hx).only, ?_, ?_, fun m hm => ?_⟩
    · rw [State.cm_camSync, State.cm_modCm_same]
    · rw [State.cm_camSync, State.cm_modCm_same, cm_expCmd]
    · rw [State.cm_camSync, State.cm_modCm, if_neg hm, cm_expCmd]
  · intro s addr v hlo hhi h4 hp hm hen hpend hsend hsplit
    obtain ⟨hreg, hregs⟩ := tableStore_sound s addr (camMask ((addr - 0x1A00000) % 0x10000)) v hsplit
    exact ⟨_, exec_cameraTableWrite_store hlo hhi h4 hp hm hen hpend hsend,
      (keeps_State_tableStore (List.Subset.refl _) _ _ _ (Keeps.refl _ s)).only, hreg, hregs⟩
  · intro s addr v hlo hhi h4 hp hm hgrid hen
    exact ⟨_, exec_cameraTableWrite_rejected hlo hhi h4 hp hm hgrid hen, State.only_raise _ _ _,
      State.flag_raise_same _ _ _ (by decide) (by decide), State.regsBut_raise _ _ _⟩

end Sys2Proof.Machine

/-! # The feed of a channel (O20): HEAD in a ring larger than its index field -/

namespace Sys2Proof.Machine

-- As above: the proofs of this part are elaborated one after another, which keeps the check within its memory.
set_option deprecated.oldSectionVars true

/-! ### Reading the descriptor at HEAD (R102) -/

theorem exec_descriptorRead {s : State} {ch : Nat} (hc : ch < s.channels) (hw : s.wantsDesc ch = true)
    (ho : s.flag (R.SEQ_STAT ch) F.SEQ_STAT_OWNWAIT = false) : exec (.descriptorRead ch) s = .next (s.readDesc ch) := by
  have hx : exec (.descriptorRead ch) s = execDescriptorRead ch s := rfl
  rw [hx, execDescriptorRead, onUnit_next hc (channels_le s), hw, ho]
  rfl

/-- An accepted descriptor advances HEAD by one modulo the ring size, in the 12 bits that the index has. -/
theorem head_readDesc {s : State} {n : Nat}
    (hown : bitAt (leAt (s.readDram (s.descAddr n (s.fld (R.SEQ_RING_HEAD n) F.SEQ_RING_HEAD_INDEX)) 32) 8 2) 0 = true) :
    (s.readDesc n).fld (R.SEQ_RING_HEAD n) F.SEQ_RING_HEAD_INDEX =
      (s.fld (R.SEQ_RING_HEAD n) F.SEQ_RING_HEAD_INDEX + 1) % s.ringSize n % 2 ^ F.SEQ_RING_HEAD_INDEX.width := by
  have hne : R.SEQ_RING_HEAD n ≠ R.SEQ_STAT n := by unfold R.SEQ_RING_HEAD R.SEQ_STAT; omega
  rw [State.readDesc, if_pos hown, State.fld, State.modCh_reg, State.reg_setFlag_ne _ _ _ _ _ hne]
  exact State.fld_setFld_same _ _ _ _ (by decide)

/-- Channel 0 in PRIMING with SEQ up, a ring of 2^13 descriptors, HEAD at 4,095, and OWN = 1 in the descriptor there. -/
def headAtFieldEnd : State :=
  let s := ((State.reset.setFld R.PWR_DOM F.PWR_DOM_UP 0x7FF).setReg (R.SEQ_STAT 0) 2).setReg (R.SEQ_RING_SIZE 0) 13
  { s.setReg (R.SEQ_RING_HEAD 0) 4095 with dram := [(32 * 4095 + 8, 1)] }

theorem headAtFieldEnd_reads : 0 < headAtFieldEnd.channels ∧ headAtFieldEnd.wantsDesc 0 = true ∧
    headAtFieldEnd.flag (R.SEQ_STAT 0) F.SEQ_STAT_OWNWAIT = false ∧
    bitAt (leAt (headAtFieldEnd.readDram
      (headAtFieldEnd.descAddr 0 (headAtFieldEnd.fld (R.SEQ_RING_HEAD 0) F.SEQ_RING_HEAD_INDEX)) 32) 8 2) 0 = true := by decide

theorem headAtFieldEnd_ring : headAtFieldEnd.fld (R.SEQ_RING_HEAD 0) F.SEQ_RING_HEAD_INDEX = 4095 ∧
    headAtFieldEnd.fld (R.SEQ_RING_SIZE 0) F.SEQ_RING_SIZE_LOG2 = 13 := by decide

/-- Refutes O20: its second clause admits LOG2 up to 16, but HEAD has 12 bits, so its next index is right only in a ring of at most
2^12 descriptors. In `headAtFieldEnd` the descriptor at 4,095 of 2^13 is accepted and HEAD wraps to 0, not to 4,096. A write of
SEQ_RING_SIZE takes LOG2 from 4 to 12 only, so the fault is the clause's bound and not the read. -/
theorem not_feedOfAChannel : ¬ Obligations.FeedOfAChannel := by
  rintro ⟨-, haccept, -⟩
  obtain ⟨hc, hw, ho, hown⟩ := headAtFieldEnd_reads
  obtain ⟨hhead, hlog⟩ := headAtFieldEnd_ring
  obtain ⟨t, e, -, hnext, -⟩ := haccept headAtFieldEnd 0 hc hw ho hown (by rw [hlog]; decide)
  rw [exec_descriptorRead hc hw ho] at e
  obtain rfl := Host.Outcome.next.inj e
  rw [head_readDesc hown, hhead, State.ringSize, hlog] at hnext
  exact absurd hnext (by decide)

end Sys2Proof.Machine

/-! # The scanner servo's tables, identification and period (O22, O23) -/

namespace Sys2Proof.Machine

-- As above: the proofs of this part are elaborated one after another, which keeps the check within its memory.
set_option deprecated.oldSectionVars true

/-! ### Flags under writes elsewhere -/

theorem State.flag_raise_ne (s : State) {a b : Nat} (f g : Field) (h : b ≠ a) : (s.raise a f).flag b g = s.flag b g :=
  (State.regsBut_raise s a f).flag (by simpa using h) g

theorem State.flag_setFlag_ne (s : State) {a b : Nat} (f g : Field) (v : Bool) (h : b ≠ a) : (s.setFlag a f v).flag b g = s.flag b g :=
  (regsBut_setFlag s a f v).flag (by simpa using h) g

theorem State.flag_setFlag_field (s : State) (a : Nat) (f g : Field) (b : Bool) (hf : f.lo + f.width ≤ 32)
    (h : f.lo + f.width ≤ g.lo ∨ g.lo + g.width ≤ f.lo) : (s.setFlag a f b).flag a g = s.flag a g :=
  congrArg (fun k => decide (k ≠ 0)) (State.fld_setFld_field s a f g b.toNat hf h)

/-! ### The tables of an axis (R151, R164, R165) -/

section
variable {s : State} {addr : Nat} {v : Word}

section
variable (hlo : 0x1100000 ≤ addr) (hhi : addr < 0x1400000) (h4 : addr % 4 = 0) (ha : (addr - 0x1100000) / 0x8000 < 3 * s.channels)
include hlo hhi h4 ha

theorem exec_repetitiveTableWrite_store
    (hfree : (s.ax ((addr - 0x1100000) / 0x8000)).period.all (fun p => decide (p.tab ≠ (addr - 0x1100000) % 0x8000 / 0x2000)) = true) :
    exec (.repetitiveTableWrite addr v) s = .next (s.tableStore addr 0xFFFFFFFF v) := by
  have hx : exec (.repetitiveTableWrite addr v) s = execRepetitiveTableWrite addr v s := rfl
  rw [hx, execRepetitiveTableWrite, if_neg (by omega), onTable_next (by omega) h4 ha (Nat.mul_le_mul_left 3 (channels_le s))]
  cases hp : (s.ax ((addr - 0x1100000) / 0x8000)).period with
  | none => simp
  | some p =>
    have hne : p.tab ≠ (addr - 0x1100000) % 0x8000 / 0x2000 := by simpa [hp] using hfree
    simp [hne]

theorem exec_repetitiveTableWrite_rejected {p : Period} (hp : (s.ax ((addr - 0x1100000) / 0x8000)).period = some p)
    (ht : p.tab = (addr - 0x1100000) % 0x8000 / 0x2000) :
    exec (.repetitiveTableWrite addr v) s = .next (s.raise R.SRV_ISR F.SRV_ISR_REJ) := by
  have hx : exec (.repetitiveTableWrite addr v) s = execRepetitiveTableWrite addr v s := rfl
  rw [hx, execRepetitiveTableWrite, if_neg (by omega), onTable_next (by omega) h4 ha (Nat.mul_le_mul_left 3 (channels_le s))]
  simp only [hp, ht, decide_true, if_true]

end

section
variable (hlo : 0x10C0000 ≤ addr) (hhi : addr < 0x1100000) (h4 : addr % 4 = 0) (ha : (addr - 0x10C0000) / 0x800 < 3 * s.channels)
include hlo hhi h4 ha

theorem exec_activeGainSetWrite : exec (.activeGainSetWrite addr v) s = .next
    (if s.fld (R.SRV_AX_STAT ((addr - 0x10C0000) / 0x800)) F.SRV_AX_STAT_MODE ≠ 0 ∨ (s.ax ((addr - 0x10C0000) / 0x800)).blend.isSome then
       s.raise R.SRV_ISR F.SRV_ISR_REJ
     else if gainMask ((addr - 0x10C0000) % 0x800) = 0 then s
     else s.tableStore addr (gainMask ((addr - 0x10C0000) % 0x800)) v) := by
  have hx : exec (.activeGainSetWrite addr v) s = execActiveGainSetWrite addr v s := rfl
  rw [hx, execActiveGainSetWrite, if_neg (by omega), onTable_next (by omega) h4 ha (Nat.mul_le_mul_left 3 (channels_le s))]

theorem exec_activeGainSetWrite_off (hm : s.fld (R.SRV_AX_STAT ((addr - 0x10C0000) / 0x800)) F.SRV_AX_STAT_MODE = 0)
    (hb : (s.ax ((addr - 0x10C0000) / 0x800)).blend = none) : exec (.activeGainSetWrite addr v) s = .next
    (if gainMask ((addr - 0x10C0000) % 0x800) = 0 then s else s.tableStore addr (gainMask ((addr - 0x10C0000) % 0x800)) v) := by
  rw [exec_activeGainSetWrite hlo hhi h4 ha, if_neg (by simp [hm, hb])]

end

end

theorem only_tableStore (s : State) (addr m : Nat) (v : Word) :
    Only [.regs, .intg] s (s.tableStore addr m v) :=
  (keeps_State_tableStore (List.Subset.refl _) addr m v (Keeps.refl _ s)).only

/-! ### Identification (R159) -/

/-- The fields of SRV_ID_CTL that a write stores. -/
def idCtlMask : Nat :=
  fieldMask F.SRV_ID_CTL_ARM ||| fieldMask F.SRV_ID_CTL_ORDER ||| fieldMask F.SRV_ID_CTL_DIV ||| fieldMask F.SRV_ID_CTL_AXIS

/-- The engine without a capture. -/
def State.idEnded (s : State) : State := { s with srv := { s.srv with idRun := false, idCount := 0 } }

theorem exec_identificationArm (s : State) (v : Word) : exec (.identificationArm v) s = .next
    (if decide (field F.SRV_ID_CTL_ARM v = 1) then s.setReg R.SRV_ID_CTL (v &&& BitVec.ofNat 32 idCtlMask)
     else (s.setReg R.SRV_ID_CTL (v &&& BitVec.ofNat 32 idCtlMask)).idEnded.setFlag R.SRV_ID_STAT F.SRV_ID_STAT_BUSY false) := rfl

theorem exec_identificationDone {s : State} (hr : s.srv.idRun = true) (hc : 4096 ≤ s.srv.idCount) : exec .identificationDone s = .next
    ((((s.idEnded.setFlag R.SRV_ID_CTL F.SRV_ID_CTL_ARM false).setFlag R.SRV_ID_STAT F.SRV_ID_STAT_BUSY false).setFlag
      R.SRV_ID_STAT F.SRV_ID_STAT_DONE true).raise R.SRV_ISR F.SRV_ISR_IDDONE) :=
  (occurs_next (by simp [hr, hc]) : execIdentificationDone s = _)

/-- A field is kept by a mask that has its bits. -/
theorem field_and_of_bits {f : Field} {v m : Word} (hm : ∀ i < f.width, m.getLsbD (f.lo + i) = true) : field f (v &&& m) = field f v := by
  refine Nat.eq_of_testBit_eq fun i => ?_
  simp only [field, Nat.testBit_mod_two_pow, Nat.testBit_shiftRight, BitVec.testBit_toNat, BitVec.getLsbD_and]
  by_cases hi : i < f.width
  · simp only [hm i hi, Bool.and_true]
  · simp only [hi, decide_false, Bool.false_and]

/-! ### A named reset sets the emission stop latch for good (R163, R170, R171) -/

theorem State.reg_resetRegs_outside (s : State) {lo hi a : Nat} (keep : Access → Bool) (h : a < lo ∨ hi ≤ a) :
    (s.resetRegs lo hi keep).reg a = s.reg a := by
  have hfold (es t : Tab Word) : tabGet resetWord (es.foldl (fun t e =>
      if lo ≤ e.1 ∧ e.1 < hi then tabSet resetWord t e.1 (resetKeep e.1 e.2 keep) else t) t) a = tabGet resetWord t a := by
    induction es generalizing t with
    | nil => rfl
    | cons e es ih =>
      rw [List.foldl_cons, ih]
      split
      · exact tabGet_tabSet_ne _ _ _ _ _ (by omega)
      · rfl
  exact hfold s.regs s.regs

/-- A channel's changes write neither the emission stop latch nor a register of a lane, the head link or a unit above them. -/
theorem chanRegs_bounds {n a : Nat} (hn : n < 32) (ha : a ∈ chanRegs n) : a ≠ R.LSR_EMS ∧ a < 0x240000 := by
  simp only [chanRegs, armRegs, evtRegs, List.mem_append, List.mem_cons, List.not_mem_nil, or_false, R.SEQ_STAT,
    R.SEQ_FAULT, R.SEQ_FAULT_SEQNO, R.SEQ_FAULT_S_LO, R.SEQ_FAULT_S_HI, R.SEQ_YDONE, R.SEQ_FEED_REFETCH, R.LSR_CH_MAN,
    R.LSR_CH_BOUNDS, R.LSR_CH_EVENTS, R.LSR_CH_EVENTS2, R.STI_CH_HANDS, R.STI_CH_FB, R.STI_CH_CLAMP, R.STI_CH_TOKERR,
    R.SEQ_RING_HEAD, R.SEQ_DISCARD, R.SRV_CH_STAT, R.SRV_AX_STAT, R.LSR_LOG_DROP, R.LSR_ISR, R.SEQ_GRP_DESC, R.SEQ_EVT_WR,
    R.SEQ_GRP_ISR, R.SEQ_EVT_DROP] at ha
  unfold R.LSR_EMS
  omega

theorem latched_congr {s t : State} (h : t.reg R.LSR_EMS = s.reg R.LSR_EMS) : t.latched = s.latched :=
  congrArg (fun w => decide (field F.LSR_EMS_LATCHED w ≠ 0)) h

theorem latched_emissionStop (s : State) {cause : Nat} (h : cause ≠ 0 ∧ cause ≠ 2) : (s.emissionStop cause).latched = true := by
  have hlapse (u : State) : u.lapseAll.reg R.LSR_EMS = u.reg R.LSR_EMS :=
    each_unchanged (fun u => u.reg R.LSR_EMS) (fun n _ u => State.reg_lapse u n _) u
  unfold State.emissionStop
  simp only [h.1, h.2, decide_false, Bool.or_self, Bool.false_eq_true, if_false]
  rw [latched_congr ((State.reg_raise_ne _ _ _ _ (by decide)).trans (hlapse _)), State.latched, State.flag,
    State.fld_setFld_field _ _ _ _ _ (by decide) (by decide)]
  exact State.flag_setFlag_same _ _ _ true (by decide) (by decide)

theorem latched_abortLayer (s : State) (cause kind y mask : Nat) : (s.abortLayer cause kind y mask).latched = s.latched := by
  have hcave : RegsBut caveIntegrityRegs s (s.caveAbort cause kind) := by
    unfold State.caveAbort
    dsimp only
    have hsync : RegsBut caveIntegrityRegs s s.syncShadow := (RegsBut.refl _ s).of_regs rfl
    exact ((hsync.cavePost (List.Subset.refl _)).cavePost (List.Subset.refl _)).cavePost (List.Subset.refl _)
  have hpost (u : State) (y : Nat) : (u.post 0xFF06 0xFF cause y).reg R.LSR_EMS = u.reg R.LSR_EMS :=
    (RegsBut.refl evtRegs u).post (List.Subset.refl _) _ (by decide)
  have hchan (n : Nat) (hn : n < 32) (u : State) : (u.abortChan n).reg R.LSR_EMS = u.reg R.LSR_EMS :=
    (RegsBut.refl _ u).abortChan (List.Subset.refl _) _ (fun hm => (chanRegs_bounds hn hm).1 rfl)
  refine latched_congr ?_
  unfold State.abortLayer
  dsimp only
  rw [State.reg_raise_ne _ _ _ _ (by decide),
    each_unchanged (fun u => u.reg R.LSR_EMS) (fun n hn u => hchan n (lt_of_mem_chs hn) u), State.modGrp_reg, State.setGrpState,
    State.reg_setFld_ne _ _ _ _ _ (by decide), hpost]
  exact hcave _ (by decide)

theorem latched_abortNow (s : State) (cause kind : Nat) : (s.abortNow cause kind).latched = s.latched := by
  have hsend (y : Nat) : (s.sendAbort y).regs = s.regs := (keeps_State_sendAbort (List.Subset.refl _) y (Keeps.refl _ s)).part .regs rfl
  exact (latched_abortLayer _ _ _ _ _).trans (latched_congr (reg_of_same (hsend _) _))

theorem latched_namedReset (s : State) (kind : Nat) : (s.namedReset kind false).latched = true := by
  have hheads (u : State) : u.zeroHeads.latched = u.latched :=
    latched_congr (reg_of_same ((keeps_State_zeroHeads (List.Subset.refl _) (Keeps.refl _ u)).part .regs rfl) _)
  have hset : (if (s.emissionStop 1).layerArmed then (s.emissionStop 1).zeroHeads else s.emissionStop 1).latched = true := by
    split
    · rw [hheads, latched_emissionStop s (by decide)]
    · exact latched_emissionStop s (by decide)
  have hlive (u : State) : (if !u.layerLive then u else u.abortNow 5 kind).latched = u.latched := by
    split
    · rfl
    · exact latched_abortNow u 5 kind
  unfold State.namedReset
  simp only [Bool.false_and, Bool.false_eq_true, if_false]
  exact (hlive _).trans hset

theorem latched_resetSrv (s : State) (keep : Access → Bool) : (s.resetSrv keep).latched = s.latched :=
  latched_congr (State.reg_resetRegs_outside s keep (by decide))

/-! ### The statement -/

/-- Settles O23: table writes end in `State.tableStore` or in the rejection, the two identification commands in `State.idEnded`, and the
block reset is the named reset, which latches the emission stop, before the engine's own. -/
theorem servoTablesAndIdentification : Obligations.ServoTablesAndIdentification := by
  refine ⟨?_, ?_, ?_, ?_, ?_, ?_, ?_, ?_, ?_, ?_⟩
  · intro s addr v hlo hhi h4 ha hnone hsplit
    obtain ⟨hreg, hregs⟩ := tableStore_sound s addr 0xFFFFFFFF v hsplit
    exact ⟨_, exec_repetitiveTableWrite_store hlo hhi h4 ha (by rw [hnone]; rfl), only_tableStore s addr _ v,
      hreg.trans (BitVec.and_allOnes), hregs⟩
  · intro s addr v p hlo hhi h4 ha hp ht
    exact ⟨_, exec_repetitiveTableWrite_rejected hlo hhi h4 ha hp ht, State.only_raise s _ _,
      State.flag_raise_same s _ _ (by decide) (by decide), State.regsBut_raise s _ _⟩
  · intro s addr v hlo hhi h4 ha hm hb hsplit
    have e := exec_activeGainSetWrite_off (v := v) hlo hhi h4 ha hm hb
    split at e
    next hzero => exact ⟨s, e, Only.refl _ s, .inr hzero, RegsBut.refl _ s⟩
    next =>
      obtain ⟨hreg, hregs⟩ := tableStore_sound s addr (gainMask ((addr - 0x10C0000) % 0x800)) v hsplit
      exact ⟨_, e, only_tableStore s addr _ v, .inl hreg, hregs⟩
  · intro s addr v hlo hhi h4 ha hm
    exact ⟨_, by rw [exec_activeGainSetWrite hlo hhi h4 ha, if_pos (.inl hm)], State.only_raise s _ _,
      State.flag_raise_same s _ _ (by decide) (by decide), State.regsBut_raise s _ _⟩
  · intro s v harm
    have hfield {f : Field} (hf : ∀ i < f.width, (BitVec.ofNat 32 idCtlMask).getLsbD (f.lo + i) = true) :
        (s.setReg R.SRV_ID_CTL (v &&& BitVec.ofNat 32 idCtlMask)).fld R.SRV_ID_CTL f = field f v := by
      rw [State.fld, State.reg_setReg_same, field_and_of_bits hf]
    refine ⟨_, by rw [exec_identificationArm, if_pos (decide_eq_true harm)], only_setReg s _ _, hfield (by decide), ?_, regsBut_setReg s _ _⟩
    rw [State.flag, hfield (by decide), harm]
    rfl
  · intro s v harm
    have e := exec_identificationArm s v
    rw [if_neg (by simp [harm])] at e
    exact ⟨_, e, ((keeps_execIdentificationArm (List.Subset.refl _) v (Keeps.refl _ s)).next _ e).only, rfl, rfl,
      State.flag_setFlag_same _ _ _ false (by decide) (by decide),
      (((RegsBut.refl _ s).setReg (by decide)).of_regs rfl).setFlag (by decide)⟩
  · intro s hr hc
    have e := exec_identificationDone hr hc
    refine ⟨_, e, ((keeps_execIdentificationDone (List.Subset.refl _) (Keeps.refl _ s)).next _ e).only, ?_, ?_, ?_, ?_,
      State.flag_raise_same _ _ _ (by decide) (by decide), ?_⟩
    · rw [State.raise_srv]; rfl
    · rw [State.flag_raise_ne _ _ _ (by decide), State.flag_setFlag_ne _ _ _ _ (by decide), State.flag_setFlag_ne _ _ _ _ (by decide)]
      exact State.flag_setFlag_same _ _ _ false (by decide) (by decide)
    · rw [State.flag_raise_ne _ _ _ (by decide), State.flag_setFlag_field _ _ _ _ _ (by decide) (by decide)]
      exact State.flag_setFlag_same _ _ _ false (by decide) (by decide)
    · rw [State.flag_raise_ne _ _ _ (by decide)]
      exact State.flag_setFlag_same _ _ _ true (by decide) (by decide)
    · have hended (l : List Nat) : RegsBut l s s.idEnded := (RegsBut.refl l s).of_regs rfl
      exact ((((hended _).setFlag (by decide)).setFlag (by decide)).setFlag (by decide)).raise (by decide)
  · intro s
    have e : exec .srvBlockReset s = .next ((s.namedReset 0 false).resetSrv keepRws) := rfl
    exact ⟨_, e, ((keeps_execSrvBlockReset (List.Subset.refl _) (Keeps.refl _ s)).next _ e).only, rfl, rfl, rfl,
      (latched_resetSrv _ _).trans (latched_namedReset s 0)⟩
  · intro s addr v hlo hhi h4 ha hfree
    exact ⟨_, exec_repetitiveTableWrite_store hlo hhi h4 ha hfree,
      (keeps_State_tableStore (by decide) _ _ _ (Keeps.refl _ s)).only, rfl⟩
  · intro s addr v hlo hhi h4 ha hm hb hmask
    exact ⟨_, by rw [exec_activeGainSetWrite_off hlo hhi h4 ha hm hb, if_neg hmask],
      (keeps_State_tableStore (by decide) _ _ _ (Keeps.refl _ s)).only, rfl⟩

/-! ### A period's command under a forced region past the eight (R140, R143) -/

/-- A T08 with SRV up and axis 0 in current mode, commanded 5 current units, whose forced region is 8, past the eight gain regions. The word
in UMAX's place of an eighth region is the hysteresis word of the selection block, 3 here; UMAX of region 0 is 0. -/
def forcedPastRegions : State :=
  let s : State := { State.reset.modAx 0 (fun x => { x with forced := some 8 }) with variant := .t08 }
  (((s.setFld R.PWR_DOM F.PWR_DOM_UP 0x7FF).setFld (R.SRV_AX_STAT 0) F.SRV_AX_STAT_MODE 1).setReg (R.SRV_AX_ICMD 0) 5).setReg
    (selAddr 0 + 0x18) 3

theorem forcedPastRegions_period : ∃ t, exec .servoPeriodBoundary forcedPastRegions = .next t ∧
    t.fld (R.SRV_AX_STAT 0) F.SRV_AX_STAT_REGION = 0 ∧ t.sfld (R.SRV_AX_CMD 0) F.SRV_AX_CMD_U = 3 := ⟨_, rfl, by decide +kernel⟩

theorem gains_forcedPastRegions : (forcedPastRegions.gains 0 0).umax = 0 := by decide

/-- Refutes O22: its first clause reads UMAX in the region that SRV_AX_STAT shows, a 3-bit field, but bounds no axis's forced region. In
`forcedPastRegions` the axis is forced to region 8: the period limits the command by the word that stands there, 3, and the field shows
region 0, whose UMAX is 0. A GSEL instruction carries a region of 3 bits, so the fault is the clause's missing bound and not the period. -/
theorem not_servoPeriodAndAxes : ¬ Obligations.ServoPeriodAndAxes := by
  rintro ⟨hperiod, -⟩
  obtain ⟨t, e, -, hcmd, -, -⟩ := hperiod forcedPastRegions 0 (by decide) (by decide) (by decide) (by decide) (by decide) (by decide)
    (by decide) (by decide) (by decide) (by decide) (by decide)
  obtain ⟨u, eu, hregion, hthree⟩ := forcedPastRegions_period
  obtain rfl := Host.Outcome.next.inj (e.symm.trans eu)
  rw [hthree, hregion, gains_forcedPastRegions] at hcmd
  exact absurd hcmd (by decide)

end Sys2Proof.Machine

/-! # The head link: frames and the auxiliary channel (O42) -/

namespace Sys2Proof.Machine

-- As above: the proofs of this part are elaborated one after another, which keeps the check within its memory.
set_option deprecated.oldSectionVars true

/-! ### The heads (R346 to R348) -/

theorem hd_of_head {s t : State} (h : t.head = s.head) (n : Nat) : t.hd n = s.hd n := by unfold State.hd; rw [h]

@[simp] theorem State.hd_setFld (s : State) (a : Nat) (f : Field) (v n : Nat) : (s.setFld a f v).hd n = s.hd n := rfl
@[simp] theorem State.hd_setFlag (s : State) (a : Nat) (f : Field) (b : Bool) (n : Nat) : (s.setFlag a f b).hd n = s.hd n := rfl
@[simp] theorem State.hd_raise (s : State) (a : Nat) (f : Field) (n : Nat) : (s.raise a f).hd n = s.hd n := hd_of_head (by simp) n

theorem unitsBut_of_head {s t u : State} {n : Nat} (h : UnitsBut State.hd n s t) (hu : u.head = t.head) : UnitsBut State.hd n s u :=
  fun m hm => (hd_of_head hu m).trans (h m hm)

theorem unitsBut_modHd {s t : State} {n : Nat} (h : UnitsBut State.hd n s t) (f : Head → Head) : UnitsBut State.hd n s (t.modHd n f) :=
  fun m hm => by rw [State.hd_modHd, if_neg hm, h m hm]

theorem unitsBut_hd_setFlag {s t : State} {n a : Nat} {f : Field} {b : Bool} (h : UnitsBut State.hd n s t) :
    UnitsBut State.hd n s (t.setFlag a f b) := h

theorem unitsBut_hd_setFld {s t : State} {n a v : Nat} {f : Field} (h : UnitsBut State.hd n s t) :
    UnitsBut State.hd n s (t.setFld a f v) := h

theorem unitsBut_hd_refl (s : State) (n : Nat) : UnitsBut State.hd n s s := fun _ _ => rfl

theorem RegsBut.modHd {l : List Nat} {s t : State} {m : Nat} {f : Head → Head} (h : RegsBut l s t) : RegsBut l s (t.modHd m f) := h.of_regs rfl

theorem RegsBut.mono {l m : List Nat} {s t : State} (h : RegsBut l s t) (hl : l ⊆ m) : RegsBut m s t := fun a ha => h a fun hm => ha (hl hm)

/-! ### Downlink frames (R340, R341, R346, R347) -/

/-- What a downlink frame leaves of an auxiliary request: it has been sent. -/
def Head.sentOnce (h : Head) : Head :=
  { h with seq := (h.seq + 1) % 256
           aux := match h.aux with | some (o, wr, a, d, _, since) => some (o, wr, a, d, true, since) | none => none }

theorem sentOnce_of_none {h : Head} (ha : h.aux = none) : h.sentOnce = { h with seq := (h.seq + 1) % 256 } := by
  simp [Head.sentOnce, ha]

theorem sentOnce_of_some {h : Head} {own wr sent : Bool} {a d since : Nat} (ha : h.aux = some (own, wr, a, d, sent, since)) :
    h.sentOnce = { h with seq := (h.seq + 1) % 256, aux := some (own, wr, a, d, true, since) } := by
  simp [Head.sentOnce, ha]

/-- The state after a frame with the auxiliary fields given, at a frame phase. -/
def State.downlinked (s : State) (n auxt auxa auxd : Nat) : State :=
  let u (k : Nat) : Nat := if s.driveOn n then s.fld (R.SRV_AX_CMD (3 * n + k)) F.SRV_AX_CMD_U else 0
  ((s.modHd n Head.sentOnce).setFlag (R.HL_CH_STAT n) F.HL_CH_STAT_DRV (s.driveOn n)).emit (.blocks n (s.blockTime n)
    (downBlocks (s.hd n).seq (u 0) (u 1) (u 2) (s.driveOn n) (decide (s.servoPhase = 600)) auxt auxa auxd))

/-- The frame leaves at the block boundary after the command. -/
theorem sendBlocks_sentOnce (s : State) (n : Nat) (drv : Bool) (bs : List Block) :
    ((s.modHd n Head.sentOnce).setFlag (R.HL_CH_STAT n) F.HL_CH_STAT_DRV drv).sendBlocks n bs =
      ((s.modHd n Head.sentOnce).setFlag (R.HL_CH_STAT n) F.HL_CH_STAT_DRV drv).emit (.blocks n (s.blockTime n) bs) := by
  rw [State.sendBlocks, State.blockTime, State.setFlag_time, State.modHd_time, State.blockTime]

/-- On an ACTIVE lane at a frame phase a frame is sent. -/
theorem sendsDownlink {s : State} {n : Nat} (hl : s.laneState n = 5) (hu : s.up dHEAD = true)
    (hp : s.servoPhase ∈ [600, 1225, 1850, 2475, 3100]) :
    ¬(s.laneState n ≠ 5 ∨ (!s.up dHEAD) = true ∨ s.servoPhase ∉ [600, 1225, 1850, 2475, 3100]) := by
  rw [hl, hu]
  exact fun h => by simp [hp] at h

section
variable {s : State} {n : Nat} (hn : n < s.channels) (hl : s.laneState n = 5) (hu : s.up dHEAD = true)
  (hp : s.servoPhase ∈ [600, 1225, 1850, 2475, 3100])
include hn hl hu hp

theorem exec_downlinkFrame_idle (ha : (s.hd n).aux = none) :
    exec (.downlinkFrame n) s = .next (s.downlinked n 0 0 0) := by
  have hx : exec (.downlinkFrame n) s = execDownlinkFrame n s := rfl
  rw [hx, execDownlinkFrame, onUnit_next hn (channels_le s), if_neg (sendsDownlink hl hu hp)]
  simp only [ha]
  exact congrArg Host.Outcome.next (sendBlocks_sentOnce s n (s.driveOn n) _)

theorem exec_downlinkFrame_aux {own wr : Bool} {a d since : Nat}
    (ha : (s.hd n).aux = some (own, wr, a, d, false, since)) :
    exec (.downlinkFrame n) s = .next (s.downlinked n (if wr then 1 else 2) a (if wr then d else 0)) := by
  have hx : exec (.downlinkFrame n) s = execDownlinkFrame n s := rfl
  rw [hx, execDownlinkFrame, onUnit_next hn (channels_le s), if_neg (sendsDownlink hl hu hp)]
  simp only [ha]
  exact congrArg Host.Outcome.next (sendBlocks_sentOnce s n (s.driveOn n) _)

end

theorem only_downlinkFrame {s t : State} {n : Nat} (h : exec (.downlinkFrame n) s = .next t) : Only [.regs, .head, .out] s t :=
  ((keeps_execDownlinkFrame (List.Subset.refl _) n (Keeps.refl _ s)).next t h).only

theorem unitsBut_downlinked (s : State) (n auxt auxa auxd : Nat) : UnitsBut State.hd n s (s.downlinked n auxt auxa auxd) :=
  unitsBut_of_head (unitsBut_modHd (unitsBut_hd_refl s n) Head.sentOnce) rfl

theorem out_downlinked (s : State) (n auxt auxa auxd : Nat) : (s.downlinked n auxt auxa auxd).out =
    .blocks n (s.blockTime n) (downBlocks (s.hd n).seq
      (if s.driveOn n then s.fld (R.SRV_AX_CMD (3 * n + 0)) F.SRV_AX_CMD_U else 0)
      (if s.driveOn n then s.fld (R.SRV_AX_CMD (3 * n + 1)) F.SRV_AX_CMD_U else 0)
      (if s.driveOn n then s.fld (R.SRV_AX_CMD (3 * n + 2)) F.SRV_AX_CMD_U else 0)
      (s.driveOn n) (decide (s.servoPhase = 600)) auxt auxa auxd) :: s.out := by
  rw [State.downlinked, State.emit_out, State.setFlag_out, State.modHd_out]

theorem drv_downlinked (s : State) (n auxt auxa auxd : Nat) :
    (s.downlinked n auxt auxa auxd).flag (R.HL_CH_STAT n) F.HL_CH_STAT_DRV = s.driveOn n := by
  rw [State.downlinked, State.flag, State.fld, State.emit_reg]
  exact State.flag_setFlag_same _ _ _ (s.driveOn n) (by decide) (by decide)

theorem hd_downlinked (s : State) (n auxt auxa auxd : Nat) : (s.downlinked n auxt auxa auxd).hd n = (s.hd n).sentOnce := by
  rw [State.downlinked, hd_of_head (State.emit_head _ _), State.hd_setFlag, State.hd_modHd_same]

theorem regsBut_downlinked (s : State) (n auxt auxa auxd : Nat) : RegsBut [R.HL_CH_STAT n] s (s.downlinked n auxt auxa auxd) :=
  ((RegsBut.refl _ s).modHd.setFlag (by simp)).of_regs rfl

/-! ### The auxiliary channel (R347, R348) -/

theorem launchCfg_of_not_due {s : State} {n : Nat} (h : (s.hd n).cfgDue = false) : s.launchCfg n = s := by
  simp [State.launchCfg, h]

/-- The request over, with no configuration write due. -/
def State.auxFree (s : State) (n : Nat) : State :=
  ((s.modHd n fun h => { h with aux := none }).setFlag (R.HL_CH_AUX n) F.HL_CH_AUX_BUSY false).setFlag (R.HL_CH_STAT n)
    F.HL_CH_STAT_AUXDEV false

theorem hd_auxFree (s : State) (n : Nat) : (s.auxFree n).hd n = { s.hd n with aux := none } := by
  rw [State.auxFree, State.hd_setFlag, State.hd_setFlag, State.hd_modHd_same]

theorem unitsBut_auxFree {s t : State} {n : Nat} (h : UnitsBut State.hd n s t) : UnitsBut State.hd n s (t.auxFree n) :=
  unitsBut_hd_setFlag (unitsBut_hd_setFlag (unitsBut_modHd h _))

theorem HL_CH_AUX_ne_STAT (n : Nat) : R.HL_CH_AUX n ≠ R.HL_CH_STAT n := by unfold R.HL_CH_AUX R.HL_CH_STAT; omega

/-- BUSY falls, and the code stays. -/
theorem aux_auxFree (s : State) (n : Nat) : (s.auxFree n).flag (R.HL_CH_AUX n) F.HL_CH_AUX_BUSY = false ∧
    (s.auxFree n).fld (R.HL_CH_AUX n) F.HL_CH_AUX_CODE = s.fld (R.HL_CH_AUX n) F.HL_CH_AUX_CODE := by
  rw [State.auxFree, State.flag, State.fld, State.fld, State.reg_setFlag_ne _ _ _ _ _ (HL_CH_AUX_ne_STAT n)]
  exact ⟨State.flag_setFlag_same _ _ _ false (by decide) (by decide), State.fld_setFld_field _ _ _ _ _ (by decide) (by decide)⟩

/-- AUXDEV falls, and CFGERR stays. -/
theorem stat_auxFree (s : State) (n : Nat) : (s.auxFree n).flag (R.HL_CH_STAT n) F.HL_CH_STAT_CFGERR =
    s.flag (R.HL_CH_STAT n) F.HL_CH_STAT_CFGERR := by
  rw [State.auxFree, State.flag_setFlag_field _ _ _ _ _ (by decide) (by decide), State.flag_setFlag_ne _ _ _ _ (HL_CH_AUX_ne_STAT n).symm]
  rfl

theorem regsBut_auxFree (s : State) (n : Nat) : RegsBut [R.HL_CH_AUX n, R.HL_CH_STAT n] s (s.auxFree n) :=
  ((RegsBut.refl _ s).modHd.setFlag (by simp)).setFlag (by simp)

theorem auxOver_of_not_due {s : State} {n : Nat} (h : (s.hd n).cfgDue = false) : s.auxOver n = s.auxFree n :=
  launchCfg_of_not_due (s := s.auxFree n) ((congrArg Head.cfgDue (hd_auxFree s n)).trans h)

/-- The host's request made, from the written control word. -/
def State.auxMade (s : State) (n : Nat) (v : Word) : State :=
  (((s.setFld (R.HL_CH_AUX n) F.HL_CH_AUX_ADDR (field F.HL_CH_AUX_ADDR v)).setFld (R.HL_CH_AUX n) F.HL_CH_AUX_WRITE
    (field F.HL_CH_AUX_WRITE v)).modHd n fun h => { h with aux := some (false, decide (field F.HL_CH_AUX_WRITE v = 1),
      field F.HL_CH_AUX_ADDR v, s.fld (R.HL_CH_AUXDATA n) F.HL_CH_AUXDATA_DATA, false, s.time.mt) }).setFlag (R.HL_CH_AUX n)
    F.HL_CH_AUX_BUSY true

theorem exec_auxGo {s : State} {n : Nat} {v : Word} (hn : n < s.channels) (hg : field F.HL_CH_AUX_GO v = 1) :
    exec (.auxGo n v) s = .next (if s.flag (R.HL_CH_AUX n) F.HL_CH_AUX_BUSY then s.raise R.HL_ISR F.HL_ISR_REJ else s.auxMade n v) := by
  have hx : exec (.auxGo n v) s = execAuxGo n v s := rfl
  have hne : R.HL_CH_AUXDATA n ≠ R.HL_CH_AUX n := by unfold R.HL_CH_AUXDATA R.HL_CH_AUX; omega
  rw [hx, execAuxGo, onUnitWrite_next hn (channels_le s)]
  simp only [hg, decide_true, Bool.and_true, one_ne_zero, if_false, State.fld_setFld_reg _ _ _ _ _ _ hne]
  rfl

theorem exec_auxTimeout {s : State} {n a d since : Nat} {own wr sent : Bool} (hn : n < s.channels)
    (ha : (s.hd n).aux = some (own, wr, a, d, sent, since)) (ht : since + ticksU 5000 ≤ s.time.mt) :
    exec (.auxTimeout n) s = .next ((if own then s.cfgFail n else s.auxEnd n 2).auxOver n) := by
  have hx : exec (.auxTimeout n) s = execAuxTimeout n s := rfl
  rw [hx, execAuxTimeout, onUnit_next hn (channels_le s)]
  simp only [ha, ht, if_true]

theorem only_auxTimeout {s t : State} {n : Nat} (h : exec (.auxTimeout n) s = .next t) : Only [.regs, .head, .pci, .out] s t :=
  ((keeps_execAuxTimeout (List.Subset.refl _) n (Keeps.refl _ s)).next t h).only

theorem head_auxEnd (s : State) (n code : Nat) : (s.auxEnd n code).head = s.head := by
  simp [State.auxEnd]

theorem code_auxEnd (s : State) (n : Nat) {code : Nat} (h : code < 4) :
    (s.auxEnd n code).fld (R.HL_CH_AUX n) F.HL_CH_AUX_CODE = code := by
  have hne : R.HL_CH_AUX n ≠ R.HL_ISR := by unfold R.HL_CH_AUX R.HL_ISR; omega
  rw [State.auxEnd, State.fld, State.reg_raise_ne _ _ _ _ hne]
  exact (State.fld_setFld_same _ _ _ _ (by decide)).trans (Nat.mod_eq_of_lt h)

theorem HL_CH_STAT_ne_ISR (n : Nat) : R.HL_CH_STAT n ≠ R.HL_ISR := by unfold R.HL_CH_STAT R.HL_ISR; omega

theorem HL_ISR_notMem (n : Nat) : R.HL_ISR ∉ [R.HL_CH_AUX n, R.HL_CH_STAT n] := by
  simp only [List.mem_cons, List.not_mem_nil, or_false, R.HL_ISR, R.HL_CH_AUX, R.HL_CH_STAT]
  omega

theorem hd_cfgFail (s : State) (n : Nat) : (s.cfgFail n).hd n = { s.hd n with retryAt := some (s.time.mt + ticksU 1250000) } := by
  rw [State.cfgFail, State.hd_raise, State.hd_setFlag, State.hd_modHd_same]

theorem unitsBut_cfgFail (s : State) (n : Nat) : UnitsBut State.hd n s (s.cfgFail n) := fun m hm => by
  rw [State.cfgFail, State.hd_raise, State.hd_setFlag, State.hd_modHd, if_neg hm]

/-- The device's own write of UDELAY made. -/
def State.cfgMade (s : State) (n : Nat) : State :=
  (((s.modHd n fun h => { h with cfgDue := true, retryAt := none }).modHd n fun h =>
    { h with aux := some (true, true, 2, (s.reg (0x1C00100 + 4 * n)).toNat % 1024, false, s.time.mt), cfgDue := false }).setFlag
      (R.HL_CH_AUX n) F.HL_CH_AUX_BUSY true).setFlag (R.HL_CH_STAT n) F.HL_CH_STAT_AUXDEV true

/-- A due retry makes the configuration write due, and it is launched where the channel is free (R348). -/
theorem exec_headConfigRetry {s : State} {n t0 : Nat} (hn : n < s.channels) (hr : (s.hd n).retryAt = some t0) (ht : t0 ≤ s.time.mt)
    (hl : s.laneState n = 5) (ha : (s.hd n).aux = none) :
    exec (.headConfigRetry n) s = .next (s.cfgMade n) := by
  have hx : exec (.headConfigRetry n) s = execHeadConfigRetry n s := rfl
  have hdue : (s.modHd n fun h => { h with cfgDue := true, retryAt := none }).hd n = { s.hd n with cfgDue := true, retryAt := none } :=
    State.hd_modHd_same s n _
  have hlane : (s.modHd n fun h => { h with cfgDue := true, retryAt := none }).laneState n = 5 := hl
  rw [hx, execHeadConfigRetry, onUnit_next hn (channels_le s)]
  simp only [hr, ht, if_true, State.launchCfg, hdue, ha, hlane, Option.isNone_none, decide_true, Bool.and_self]
  rfl

/-! ### Uplink frames (R342 to R344) -/

section
variable {s : State} {n : Nat} {blocks : List Block} {b0 b1 b2 b3 : Nat}

/-- An accepted frame's sequence number q is checked for a gap and taken; stray blocks are counted first. -/
def State.seqTaken (s : State) (n : Nat) (blocks : List Block) (q : Nat) : State :=
  let s := s.countStray n blocks
  let gap := match (s.hd n).rxSeq with | some r => decide (q ≠ (r + 1) % 256) | none => false
  (if gap then s.satAdd (R.HL_CH_ERR n) F.HL_CH_ERR_GAP 1 else s).modHd n fun h => { h with rxSeq := some q }

/-- What the engine and the handoff unit make of a reported frame's position. -/
def State.framePosition (s : State) (n : Nat) (y : V3) : State := (((s.sampleFrame n y).noteArrival n).tegFrame n y).handFrame n y

/-- What an accepted frame does before its auxiliary answer is looked at. -/
def State.uplinked (s : State) (n : Nat) (blocks : List Block) (b0 b1 b2 : Nat) : State :=
  ((s.seqTaken n blocks (bits b0 8 8)).headReport n b0 b1 b2).framePosition n
    ⟨posCode (bits b0 16 24), posCode (bits b0 40 24), posCode (bits b1 0 24)⟩

variable (hn : n < s.channels) (hl : s.laneState n = 5) (hu : s.up dHEAD = true)
  (hb : blocks.map (fun b => b.payload.toNat) = [b0, b1, b2, b3])
include hn hl hu hb

theorem exec_uplinkFrame_accepted (hs : frameShape blocks = true) (hk : uplinkOk b0 b1 b2 b3 = true) :
    exec (.uplinkFrame n blocks) s =
      .next ((s.uplinked n blocks b0 b1 b2).auxAnswer n (bits b3 0 4) (bits b3 8 8) (bits b2 48 16)) := by
  have hx : exec (.uplinkFrame n blocks) s = execUplinkFrame n blocks s := rfl
  rw [hx, execUplinkFrame, onUnit_next hn (channels_le s), if_neg (by simp [hl, hu])]
  simp only [hb, hs, hk, Bool.and_self, if_true]
  rfl

theorem exec_uplinkFrame_rejected (hs : (blocks.filter strayBlock).length = 0)
    (hk : frameShape blocks = false ∨ uplinkOk b0 b1 b2 b3 = false) :
    exec (.uplinkFrame n blocks) s = .next (s.satAdd (R.HL_CH_ERR n) F.HL_CH_ERR_CRC 1) := by
  have hx : exec (.uplinkFrame n blocks) s = execUplinkFrame n blocks s := rfl
  have hbad : (frameShape blocks && uplinkOk b0 b1 b2 b3) = false := by rcases hk with h | h <;> simp [h]
  have hstray : s.countStray n blocks = s := by rw [State.countStray, if_pos hs]
  rw [hx, execUplinkFrame, onUnit_next hn (channels_le s), if_neg (by simp [hl, hu]), hstray]
  simp only [hb, hbad, Bool.false_eq_true, if_false]

end

/-- The registers that the engine and the handoff unit write for a valid frame: none of the head link. -/
def frameRegs (n : Nat) : List Nat :=
  [R.SRV_AX_LINK (3 * n), R.SRV_AX_LINK (3 * n + 1), R.SRV_AX_LINK (3 * n + 2), R.SRV_AX_TRIPS (3 * n), R.SRV_AX_TRIPS (3 * n + 1),
    R.SRV_AX_TRIPS (3 * n + 2), R.SRV_ISR] ++ chanRegs n

theorem frameRegs_lt {n a : Nat} (hn : n < 32) (ha : a ∈ frameRegs n) : a < 0x250000 := by
  rcases List.mem_append.mp ha with hown | hchan
  · simp only [List.mem_cons, List.not_mem_nil, or_false, R.SRV_AX_LINK, R.SRV_AX_TRIPS, R.SRV_ISR] at hown
    omega
  · exact Nat.lt_of_lt_of_le (chanRegs_bounds hn hchan).2 (by decide)

theorem chanRegs_subset_frameRegs (n : Nat) : chanRegs n ⊆ frameRegs n := List.subset_append_right _ _

theorem evtRegs_subset_frameRegs (n : Nat) : evtRegs ⊆ frameRegs n :=
  List.Subset.trans (evtRegs_subset_chanRegs n) (chanRegs_subset_frameRegs n)

theorem regsBut_sampleFrame (s : State) (n : Nat) (y : V3) : RegsBut (frameRegs n) s (s.sampleFrame n y) := by
  have hlink {u : State} (hu : RegsBut (frameRegs n) s u) (v : Nat) (a : Nat) (ha : R.SRV_AX_LINK a ∈ frameRegs n) :
      RegsBut (frameRegs n) s (u.setFld (R.SRV_AX_LINK a) F.SRV_AX_LINK_ARRPH v) := hu.setFld ha
  unfold State.sampleFrame
  dsimp only [State.each, List.foldl_cons, List.foldl_nil]
  have h3 := hlink (hlink (hlink (RegsBut.refl _ s) (s.time.mt % servoU / tickU) (3 * n) (by simp [frameRegs])) (s.time.mt % servoU / tickU)
    (3 * n + 1) (by simp [frameRegs])) (s.time.mt % servoU / tickU) (3 * n + 2) (by simp [frameRegs])
  exact (RegsBut.refl _ s).ite (h3.modSc.ite h3)

theorem regsBut_trip (s : State) (n : Nat) (e : V3) (viol : Nat) (stale : Bool) : RegsBut (frameRegs n) s (s.trip n e viol stale) := by
  have hc := chanRegs_subset_frameRegs n
  have hcount (k : Nat) (hk : k < 3) : R.SRV_AX_TRIPS (3 * n + k) ∈ frameRegs n := by
    rcases k with _ | _ | _ | k
    · simp [frameRegs]
    · simp [frameRegs]
    · simp [frameRegs]
    · omega
  have hloop (u : State) (ks : List Nat) (hks : ∀ k ∈ ks, k < 3) (hu : RegsBut (frameRegs n) s u) :
      RegsBut (frameRegs n) s (u.each ks fun k t => t.satAdd (R.SRV_AX_TRIPS (3 * n + k)) F.SRV_AX_TRIPS_COUNT 1) := by
    induction ks generalizing u with
    | nil => exact hu
    | cons k ks ih => exact ih _ (fun j hj => hks j (by simp [hj])) (hu.satAdd (hcount k (hks k (by simp))))
  unfold State.trip
  dsimp only
  refine ((hloop _ _ (fun k hk => List.mem_range.mp (List.mem_filter.mp hk).1) ?_).post (evtRegs_subset_frameRegs n)).raise (by simp [frameRegs])
  exact ((RegsBut.refl _ s).modSc.lapse.freezeChan hc).setFlag (hc (by simp [chanRegs]))

theorem regsBut_tegFrame (s : State) (n : Nat) (y : V3) : RegsBut (frameRegs n) s (s.tegFrame n y) := by
  unfold State.tegFrame
  split
  · split
    · exact (RegsBut.refl _ s).ite (regsBut_trip s n _ _ false)
    · exact RegsBut.refl _ s
  · exact RegsBut.refl _ s

theorem regsBut_handFrame (s : State) (n : Nat) (y : V3) : RegsBut (frameRegs n) s (s.handFrame n y) := by
  unfold State.handFrame
  split
  · exact RegsBut.refl _ s
  · exact RegsBut.foldl (RegsBut.refl _ s).modCh fun _ _ hu => hu.post (evtRegs_subset_frameRegs n)

theorem regsBut_framePosition (s : State) (n : Nat) (y : V3) : RegsBut (frameRegs n) s (s.framePosition n y) := by
  have hnote : RegsBut (frameRegs n) s ((s.sampleFrame n y).noteArrival n) := (regsBut_sampleFrame s n y).of_regs rfl
  exact (hnote.trans (regsBut_tegFrame _ n y)).trans (regsBut_handFrame _ n y)

/-! #### What a frame leaves of the head -/

theorem hd_seqTaken (s : State) (n : Nat) (blocks : List Block) (q : Nat) :
    (s.seqTaken n blocks q).hd n = { s.hd n with rxSeq := some q } ∧ UnitsBut State.hd n s (s.seqTaken n blocks q) := by
  have hstray : (s.countStray n blocks).head = s.head := (keeps_State_countStray (List.Subset.refl _) n blocks (Keeps.refl _ s)).part .head rfl
  have hgap (b : Bool) : (if b then (s.countStray n blocks).satAdd (R.HL_CH_ERR n) F.HL_CH_ERR_GAP 1 else s.countStray n blocks).head =
      s.head := by
    split
    · rw [State.satAdd_head, hstray]
    · exact hstray
  unfold State.seqTaken
  dsimp only
  refine ⟨?_, unitsBut_modHd (unitsBut_of_head (unitsBut_hd_refl s n) (hgap _)) _⟩
  rw [State.hd_modHd_same, hd_of_head (hgap _)]

theorem head_framePosition (s : State) (n : Nat) (y : V3) : (s.framePosition n y).head = ((s.sampleFrame n y).noteArrival n).head := by
  have hteg (u : State) : (u.tegFrame n y).head = u.head := (keeps_State_tegFrame (List.Subset.refl _) n y (Keeps.refl _ u)).part .head rfl
  have hhand (u : State) : (u.handFrame n y).head = u.head := (keeps_State_handFrame (List.Subset.refl _) n y (Keeps.refl _ u)).part .head rfl
  rw [State.framePosition, hhand, hteg]

theorem hd_noteArrival (s : State) (n : Nat) : ∃ l, (s.noteArrival n).hd n = { s.hd n with arrivals := l } :=
  ⟨_, State.hd_modHd_same s n _⟩

/-- A frame's position leaves the head but for the arrivals kept. -/
theorem hd_framePosition (s : State) (n : Nat) (y : V3) :
    (∃ l, (s.framePosition n y).hd n = { s.hd n with arrivals := l }) ∧ UnitsBut State.hd n s (s.framePosition n y) := by
  have hsample : (s.sampleFrame n y).head = s.head := (keeps_State_sampleFrame (List.Subset.refl _) n y (Keeps.refl _ s)).part .head rfl
  obtain ⟨l, hl⟩ := hd_noteArrival (s.sampleFrame n y) n
  refine ⟨⟨l, ?_⟩, unitsBut_of_head (unitsBut_modHd (unitsBut_of_head (unitsBut_hd_refl s n) hsample) _) (head_framePosition s n y)⟩
  rw [hd_of_head (head_framePosition s n y), hl, hd_of_head hsample]

theorem hd_uplinked (s : State) (n : Nat) (blocks : List Block) (b0 b1 b2 : Nat) :
    (∃ l, (s.uplinked n blocks b0 b1 b2).hd n = { s.hd n with rxSeq := some (bits b0 8 8), arrivals := l }) ∧
    UnitsBut State.hd n s (s.uplinked n blocks b0 b1 b2) := by
  have hreport (u : State) : (u.headReport n b0 b1 b2).head = u.head :=
    (keeps_State_headReport (List.Subset.refl _) n b0 b1 b2 (Keeps.refl _ u)).part .head rfl
  obtain ⟨hseq, hseqs⟩ := hd_seqTaken s n blocks (bits b0 8 8)
  obtain ⟨⟨l, hl⟩, hls⟩ := hd_framePosition ((s.seqTaken n blocks (bits b0 8 8)).headReport n b0 b1 b2) n
    ⟨posCode (bits b0 16 24), posCode (bits b0 40 24), posCode (bits b1 0 24)⟩
  refine ⟨⟨l, ?_⟩, fun m hm => (hls m hm).trans ((hd_of_head (hreport _) m).trans (hseqs m hm))⟩
  rw [State.uplinked, hl, hd_of_head (hreport _), hseq]

theorem auxAnswer_of_none {s : State} {n : Nat} (h : (s.hd n).aux = none) (t a d : Nat) : s.auxAnswer n t a d = s := by
  simp only [State.auxAnswer, h]

/-! #### What a frame reports -/

theorem fld_setFld_bits (s : State) (a : Nat) (f : Field) (x lo : Nat) (h : f.lo + f.width ≤ 32) :
    (s.setFld a f (bits x lo f.width)).fld a f = bits x lo f.width :=
  (State.fld_setFld_same s a f _ h).trans (Nat.mod_mod _ _)

theorem headReport_fields (s : State) (n b0 b1 b2 : Nat) :
    (s.headReport n b0 b1 b2).fld (R.HL_CH_STAT n) F.HL_CH_STAT_HSTAT = bits b2 32 16 ∧
    (s.headReport n b0 b1 b2).fld (R.HL_CH_TEMP n) F.HL_CH_TEMP_TEMP = bits b2 16 16 ∧
    (s.headReport n b0 b1 b2).fld (R.HL_CH_TEMP n) F.HL_CH_TEMP_ECHO = bits b1 56 8 ∧
    (s.headReport n b0 b1 b2).fld (R.HL_CH_TEMP n) F.HL_CH_TEMP_SEQ = bits b0 8 8 ∧
    (s.headReport n b0 b1 b2).fld (R.HL_CH_CUR0 n) F.HL_CH_CUR0_CX = bits b1 24 16 ∧
    (s.headReport n b0 b1 b2).fld (R.HL_CH_CUR0 n) F.HL_CH_CUR0_CY = bits b1 40 16 ∧
    (s.headReport n b0 b1 b2).fld (R.HL_CH_CUR1 n) F.HL_CH_CUR1_CZ = bits b2 0 16 := by
  have h01 : R.HL_CH_CUR0 n ≠ R.HL_CH_CUR1 n := by unfold R.HL_CH_CUR0 R.HL_CH_CUR1; omega
  have ht0 : R.HL_CH_TEMP n ≠ R.HL_CH_CUR0 n := by unfold R.HL_CH_TEMP R.HL_CH_CUR0; omega
  have ht1 : R.HL_CH_TEMP n ≠ R.HL_CH_CUR1 n := by unfold R.HL_CH_TEMP R.HL_CH_CUR1; omega
  have hs0 : R.HL_CH_STAT n ≠ R.HL_CH_CUR0 n := by unfold R.HL_CH_STAT R.HL_CH_CUR0; omega
  have hs1 : R.HL_CH_STAT n ≠ R.HL_CH_CUR1 n := by unfold R.HL_CH_STAT R.HL_CH_CUR1; omega
  have hst : R.HL_CH_STAT n ≠ R.HL_CH_TEMP n := by unfold R.HL_CH_STAT R.HL_CH_TEMP; omega
  have hraise (c : Prop) [Decidable c] (u : State) : (if c then u.raise R.HL_ISR F.HL_ISR_HEAD else u).fld (R.HL_CH_STAT n) F.HL_CH_STAT_HSTAT =
      u.fld (R.HL_CH_STAT n) F.HL_CH_STAT_HSTAT := by
    split
    · simp only [State.fld, State.reg_raise_ne _ _ _ _ (HL_CH_STAT_ne_ISR n)]
    · rfl
  unfold State.headReport
  dsimp only
  refine ⟨?_, ?_, ?_, ?_, ?_, ?_, fld_setFld_bits _ _ _ _ _ (by decide)⟩
  · rw [State.fld_setFld_reg _ _ _ _ _ _ hs1, State.fld_setFld_reg _ _ _ _ _ _ hs0, State.fld_setFld_reg _ _ _ _ _ _ hs0,
      State.fld_setFld_reg _ _ _ _ _ _ hst, State.fld_setFld_reg _ _ _ _ _ _ hst, State.fld_setFld_reg _ _ _ _ _ _ hst, hraise]
    exact fld_setFld_bits _ _ F.HL_CH_STAT_HSTAT _ _ (by decide)
  · rw [State.fld_setFld_reg _ _ _ _ _ _ ht1, State.fld_setFld_reg _ _ _ _ _ _ ht0, State.fld_setFld_reg _ _ _ _ _ _ ht0,
      State.fld_setFld_field _ _ _ _ _ (by decide) (by decide), State.fld_setFld_field _ _ _ _ _ (by decide) (by decide)]
    exact fld_setFld_bits _ _ F.HL_CH_TEMP_TEMP _ _ (by decide)
  · rw [State.fld_setFld_reg _ _ _ _ _ _ ht1, State.fld_setFld_reg _ _ _ _ _ _ ht0, State.fld_setFld_reg _ _ _ _ _ _ ht0,
      State.fld_setFld_field _ _ _ _ _ (by decide) (by decide)]
    exact fld_setFld_bits _ _ F.HL_CH_TEMP_ECHO _ _ (by decide)
  · rw [State.fld_setFld_reg _ _ _ _ _ _ ht1, State.fld_setFld_reg _ _ _ _ _ _ ht0, State.fld_setFld_reg _ _ _ _ _ _ ht0]
    exact fld_setFld_bits _ _ F.HL_CH_TEMP_SEQ _ _ (by decide)
  · rw [State.fld_setFld_reg _ _ _ _ _ _ h01, State.fld_setFld_field _ _ _ _ _ (by decide) (by decide)]
    exact fld_setFld_bits _ _ F.HL_CH_CUR0_CX _ _ (by decide)
  · rw [State.fld_setFld_reg _ _ _ _ _ _ h01]
    exact fld_setFld_bits _ _ F.HL_CH_CUR0_CY _ _ (by decide)

/-- The head link's registers after an accepted frame are as its report leaves them. -/
theorem fld_uplinked {n a : Nat} (s : State) (blocks : List Block) (b0 b1 b2 : Nat) (f : Field) (hn : n < s.channels) (ha : 0x250000 ≤ a) :
    (s.uplinked n blocks b0 b1 b2).fld a f = ((s.seqTaken n blocks (bits b0 8 8)).headReport n b0 b1 b2).fld a f :=
  (regsBut_framePosition _ n _).fld (fun hm => absurd (frameRegs_lt (Nat.lt_of_lt_of_le hn (channels_le s)) hm) (by omega)) f

/-! ### The statement -/

/-- Settles O42: a downlink frame ends in `State.downlinked`, an accepted uplink frame in `State.uplinked`, whose later part writes no
register of the head link; the auxiliary commands end in the request made or over. -/
theorem headLinkFrames : Obligations.HeadLinkFrames := by
  refine ⟨?_, ?_, ?_, ?_, ?_, ?_, ?_, ?_, ?_⟩
  · intro s n hn hl hu hp ha
    have e := exec_downlinkFrame_idle hn hl hu hp ha
    refine ⟨_, e, only_downlinkFrame e, out_downlinked .., ?_, drv_downlinked s n 0 0 0, regsBut_downlinked s n 0 0 0,
      unitsBut_downlinked s n 0 0 0⟩
    rw [hd_downlinked, sentOnce_of_none ha]
  · intro s n a d since own wr hn hl hu hp ha
    have e := exec_downlinkFrame_aux hn hl hu hp ha
    refine ⟨_, e, only_downlinkFrame e, out_downlinked .., ?_, unitsBut_downlinked s n _ _ _⟩
    rw [hd_downlinked, sentOnce_of_some ha]
  · intro s n blocks b0 b1 b2 b3 hn hl hu hb hs hk ha
    obtain ⟨⟨l, hhd⟩, hhds⟩ := hd_uplinked s n blocks b0 b1 b2
    have e := exec_uplinkFrame_accepted hn hl hu hb hs hk
    rw [auxAnswer_of_none ((congrArg Head.aux hhd).trans ha)] at e
    obtain ⟨hstat, htemp, hecho, hseq, hcx, hcy, hcz⟩ := headReport_fields (s.seqTaken n blocks (bits b0 8 8)) n b0 b1 b2
    have hfld {a : Nat} (f : Field) (ha : 0x250000 ≤ a) := fld_uplinked s blocks b0 b1 b2 f hn ha
    exact ⟨_, e, ((keeps_execUplinkFrame (List.Subset.refl _) n blocks (Keeps.refl _ s)).next _ e).only,
      (hfld _ (by unfold R.HL_CH_STAT; omega)).trans hstat, (hfld _ (by unfold R.HL_CH_TEMP; omega)).trans htemp,
      (hfld _ (by unfold R.HL_CH_TEMP; omega)).trans hecho, (hfld _ (by unfold R.HL_CH_TEMP; omega)).trans hseq,
      (hfld _ (by unfold R.HL_CH_CUR0; omega)).trans hcx, (hfld _ (by unfold R.HL_CH_CUR0; omega)).trans hcy,
      (hfld _ (by unfold R.HL_CH_CUR1; omega)).trans hcz, by rw [hhd], by rw [hhd], hhds⟩
  · intro s n blocks b0 b1 b2 b3 hn hl hu hb hs hk
    exact ⟨_, exec_uplinkFrame_rejected hn hl hu hb hs hk, (keeps_State_satAdd (List.Subset.refl _) _ _ _ (Keeps.refl _ s)).only,
      fld_satAdd_same s _ _ _ (by decide), (RegsBut.refl _ s).satAdd (by simp)⟩
  · intro s n v hn hg hbusy
    have e := exec_auxGo hn hg
    rw [if_neg (by simp [hbusy])] at e
    refine ⟨_, e, ?_, ?_, ?_, ?_, ?_⟩
    · exact (keeps_State_setFlag (by decide) _ _ _ (keeps_State_modHd (by decide) _ _ (keeps_State_setFld (by decide) _ _ _
        (keeps_State_setFld (by decide) _ _ _ (Keeps.refl _ s))))).only
    · rw [State.auxMade, State.hd_setFlag, State.hd_modHd_same, State.hd_setFld, State.hd_setFld]
    · exact State.flag_setFlag_same _ _ _ true (by decide) (by decide)
    · exact (((RegsBut.refl _ s).setFld (by simp)).setFld (by simp)).modHd.setFlag (by simp)
    · exact unitsBut_hd_setFlag (unitsBut_modHd (unitsBut_hd_setFld (unitsBut_hd_setFld (unitsBut_hd_refl s n))) _)
  · intro s n v hn hg hbusy
    exact ⟨_, by rw [exec_auxGo hn hg, if_pos hbusy], State.only_raise s _ _, State.flag_raise_same s _ _ (by decide) (by decide),
      State.regsBut_raise s _ _⟩
  · intro s n a d since wr sent hn ha ht hdue
    have e := exec_auxTimeout hn ha ht
    have hhead : (s.auxEnd n 2).head = s.head := head_auxEnd s n 2
    rw [if_neg Bool.false_ne_true, auxOver_of_not_due (by rw [hd_of_head hhead]; exact hdue)] at e
    obtain ⟨hbusy, hcode⟩ := aux_auxFree (s.auxEnd n 2) n
    have hend : RegsBut [R.HL_CH_AUX n, R.HL_ISR] s (s.auxEnd n 2) := ((RegsBut.refl _ s).setFld (by simp)).raise (by simp)
    refine ⟨_, e, only_auxTimeout e, by rw [hd_auxFree, hd_of_head hhead], hbusy, hcode.trans (code_auxEnd s n (by decide)), ?_, ?_,
      unitsBut_auxFree (unitsBut_of_head (unitsBut_hd_refl s n) hhead)⟩
    · rw [(regsBut_auxFree _ n).flag (HL_ISR_notMem n)]
      exact State.flag_raise_same _ _ _ (by decide) (by decide)
    · exact (hend.mono (by simp)).trans ((regsBut_auxFree _ n).mono (by simp))
  · intro s n a d since wr sent hn ha ht hdue
    have e := exec_auxTimeout hn ha ht
    have hhd := hd_cfgFail s n
    rw [if_pos rfl, auxOver_of_not_due (by rw [hhd]; exact hdue)] at e
    refine ⟨_, e, only_auxTimeout e, by rw [hd_auxFree, hhd], ?_, ?_, unitsBut_auxFree (unitsBut_cfgFail s n)⟩
    · rw [stat_auxFree, State.cfgFail, State.flag_raise_ne _ _ _ (HL_CH_STAT_ne_ISR n)]
      exact State.flag_setFlag_same _ _ _ true (by decide) (by decide)
    · rw [(regsBut_auxFree _ n).flag (HL_ISR_notMem n)]
      exact State.flag_raise_same _ _ _ (by decide) (by decide)
  · intro s n t0 hn hr ht hl ha
    have e := exec_headConfigRetry hn hr ht hl ha
    refine ⟨_, e, ((keeps_execHeadConfigRetry (List.Subset.refl _) n (Keeps.refl _ s)).next _ e).only, ?_, ?_, ?_, ?_, ?_⟩
    · rw [State.cfgMade, State.hd_setFlag, State.hd_setFlag, State.hd_modHd_same, State.hd_modHd_same]
    · rw [State.cfgMade, State.flag_setFlag_ne _ _ _ _ (HL_CH_AUX_ne_STAT n)]
      exact State.flag_setFlag_same _ _ _ true (by decide) (by decide)
    · exact State.flag_setFlag_same _ _ _ true (by decide) (by decide)
    · exact ((RegsBut.refl _ s).modHd.modHd.setFlag (by simp)).setFlag (by simp)
    · exact unitsBut_hd_setFlag (unitsBut_hd_setFlag (unitsBut_modHd (unitsBut_modHd (unitsBut_hd_refl s n) _) _))

end Sys2Proof.Machine

/-! # The laser block: status inputs, host writes and reset (O25, O26) -/

namespace Sys2Proof.Machine

-- As above: the proofs of this part are elaborated one after another, which keeps the check within its memory.
set_option deprecated.oldSectionVars true

/-! ### LFLT_N returning high drops what has lapsed (R168, R172, R244) -/

/-- Channel 0 is HALTED at S = 100 with LFLT_N low. The handoff unit's hold of its take part, which lasts until a gate-off edge after tick
50, still stands. -/
def holdPastAnchor : State :=
  let s : State := { State.reset with grp := { Group.reset with run := true, s := 100, n := 1, pmask := 1 } }
  let s := (s.setFld (R.SEQ_STAT 0) F.SEQ_STAT_STATE 6).setFlag (R.LSR_CH_STAT 0) F.LSR_CH_STAT_FLT true
  s.modLs 0 fun l => { l with holds := [.untilOff 50] }

theorem lfltNQualified_holdPastAnchor : ∃ t, exec (.lfltNQualified 0 true) holdPastAnchor = .next t ∧ (t.ls 0).holds = [] :=
  ⟨_, rfl, by decide⟩

/-- Refutes O25: its first clause on LFLT_N returning high lets the registers alone change, but the event re-evaluates the gate's paths, and
in `holdPastAnchor` that drops the expired hold. Another clause of the statement names the re-evaluation, `State.lapse`, and has the laser
state among the parts, so the fault is the first one's list of parts and not the event. -/
theorem not_emissionStopAndManualDrive : ¬ Obligations.EmissionStopAndManualDrive := by
  rintro ⟨-, -, -, -, -, -, hrise, -⟩
  obtain ⟨t, e, honly, -⟩ := hrise holdPastAnchor 0 (by decide) (by decide)
  obtain ⟨u, eu, hdropped⟩ := lfltNQualified_holdPastAnchor
  obtain rfl := Host.Outcome.next.inj (e.symm.trans eu)
  have hlsr : t.lsr = holdPastAnchor.lsr := honly .lsr (by decide)
  have hstands : (t.ls 0).holds = [.untilOff 50] := by rw [State.ls, hlsr]; decide
  exact absurd (hdropped.symm.trans hstands) (by decide)

/-! ### The photodiode log's control register (R191) -/

/-- LSR_LOG_CTL has taken the fields of a written word that are admitted, where MODE is. -/
def State.logCtlTaken (s : State) (n : Nat) (v : Word) : State :=
  let a := R.LSR_LOG_CTL n
  let lg := field F.LSR_LOG_CTL_LOG2 v
  let pn := field F.LSR_LOG_CTL_PANIC v
  let s := if s.fld a F.LSR_LOG_CTL_MODE = 0 ∧ 4 ≤ lg ∧ lg ≤ 20 then s.setFld a F.LSR_LOG_CTL_LOG2 lg else s
  let s := if pn = 0 then s else s.setFld a F.LSR_LOG_CTL_PANIC pn
  (s.setFld a F.LSR_LOG_CTL_DEC (field F.LSR_LOG_CTL_DEC v)).setFld a F.LSR_LOG_CTL_MODE (field F.LSR_LOG_CTL_MODE v)

theorem exec_lsrLogCtlWrite {s : State} {n : Nat} {v : Word} (hn : n < s.channels) (hm : field F.LSR_LOG_CTL_MODE v ≠ 3) :
    exec (.lsrLogCtlWrite n v) s = .next
      (if field F.LSR_LOG_CTL_MODE v = 0 then (s.logCtlTaken n v).logClose n else s.logCtlTaken n v) := by
  have hx : exec (.lsrLogCtlWrite n v) s = execLsrLogCtlWrite n v s := rfl
  rw [hx, execLsrLogCtlWrite, onUnitWrite_next hn (channels_le s)]
  simp only [hm, if_false, decide_eq_true_eq]
  rfl

theorem only_logCtlTaken (s : State) (n : Nat) (v : Word) : Only [.regs] s (s.logCtlTaken n v) := by
  have hset {u : State} {f : Field} {k : Nat} (h : Keeps [.regs] s u) : Keeps [.regs] s (u.setFld (R.LSR_LOG_CTL n) f k) :=
    keeps_State_setFld (List.Subset.refl _) _ _ _ h
  have hlog {c : Prop} [Decidable c] {f : Field} {k : Nat} : Keeps [.regs] s (if c then s.setFld (R.LSR_LOG_CTL n) f k else s) :=
    (hset (Keeps.refl _ s)).ite (Keeps.refl _ s)
  exact (hset (hset (hlog.ite (hset hlog)))).only

theorem regsBut_logCtlTaken (s : State) (n : Nat) (v : Word) : RegsBut [R.LSR_LOG_CTL n] s (s.logCtlTaken n v) := by
  have ha : R.LSR_LOG_CTL n ∈ [R.LSR_LOG_CTL n] := List.mem_singleton_self _
  have hlog {c : Prop} [Decidable c] {f : Field} {k : Nat} :
      RegsBut [R.LSR_LOG_CTL n] s (if c then s.setFld (R.LSR_LOG_CTL n) f k else s) :=
    ((RegsBut.refl _ s).setFld ha).ite (RegsBut.refl _ s)
  exact ((hlog.ite (hlog.setFld ha)).setFld ha).setFld ha

theorem fields_logCtlTaken (s : State) (n : Nat) (v : Word) :
    (s.logCtlTaken n v).fld (R.LSR_LOG_CTL n) F.LSR_LOG_CTL_MODE = field F.LSR_LOG_CTL_MODE v ∧
    (s.logCtlTaken n v).fld (R.LSR_LOG_CTL n) F.LSR_LOG_CTL_DEC = field F.LSR_LOG_CTL_DEC v ∧
    (s.logCtlTaken n v).fld (R.LSR_LOG_CTL n) F.LSR_LOG_CTL_LOG2 =
      (if s.fld (R.LSR_LOG_CTL n) F.LSR_LOG_CTL_MODE = 0 ∧ 4 ≤ field F.LSR_LOG_CTL_LOG2 v ∧ field F.LSR_LOG_CTL_LOG2 v ≤ 20 then
        field F.LSR_LOG_CTL_LOG2 v else s.fld (R.LSR_LOG_CTL n) F.LSR_LOG_CTL_LOG2) ∧
    (s.logCtlTaken n v).fld (R.LSR_LOG_CTL n) F.LSR_LOG_CTL_PANIC =
      (if field F.LSR_LOG_CTL_PANIC v = 0 then s.fld (R.LSR_LOG_CTL n) F.LSR_LOG_CTL_PANIC else field F.LSR_LOG_CTL_PANIC v) := by
  have hput (u : State) (f : Field) (h : f.lo + f.width ≤ 32) :
      (u.setFld (R.LSR_LOG_CTL n) f (field f v)).fld (R.LSR_LOG_CTL n) f = field f v :=
    (State.fld_setFld_same u _ f _ h).trans (Nat.mod_eq_of_lt (field_lt f v))
  have hbeside {u : State} {f g : Field} {k : Nat} (h : f.lo + f.width ≤ 32 ∧ (f.lo + f.width ≤ g.lo ∨ g.lo + g.width ≤ f.lo)) :
      (u.setFld (R.LSR_LOG_CTL n) f k).fld (R.LSR_LOG_CTL n) g = u.fld (R.LSR_LOG_CTL n) g :=
    State.fld_setFld_field u _ f g k h.1 h.2
  unfold State.logCtlTaken
  dsimp only
  refine ⟨hput _ _ (by decide), (hbeside (by decide)).trans (hput _ _ (by decide)), ?_, ?_⟩
  · rw [hbeside (by decide), hbeside (by decide), apply_ite (fun u : State => u.fld _ F.LSR_LOG_CTL_LOG2), hbeside (by decide), ite_self,
      apply_ite (fun u : State => u.fld _ F.LSR_LOG_CTL_LOG2), hput _ _ (by decide)]
  · rw [hbeside (by decide), hbeside (by decide), apply_ite (fun u : State => u.fld _ F.LSR_LOG_CTL_PANIC), hput _ _ (by decide),
      apply_ite (fun u : State => u.fld _ F.LSR_LOG_CTL_PANIC), hbeside (by decide), ite_self]

/-- Closing a line leaves the control register. -/
theorem fld_logClose_LSR_LOG_CTL (s : State) {n : Nat} (hn : n < 32) (f : Field) :
    (s.logClose n).fld (R.LSR_LOG_CTL n) f = s.fld (R.LSR_LOG_CTL n) f := by
  refine ((RegsBut.refl _ s).logClose (List.Subset.refl (chanRegs n))).fld (fun ha => ?_) f
  simp only [chanRegs, armRegs, evtRegs, List.mem_append, List.mem_cons, List.not_mem_nil, or_false, R.LSR_LOG_CTL, R.SEQ_STAT,
    R.SEQ_FAULT, R.SEQ_FAULT_SEQNO, R.SEQ_FAULT_S_LO, R.SEQ_FAULT_S_HI, R.SEQ_YDONE, R.SEQ_FEED_REFETCH, R.LSR_CH_MAN,
    R.LSR_CH_BOUNDS, R.LSR_CH_EVENTS, R.LSR_CH_EVENTS2, R.STI_CH_HANDS, R.STI_CH_FB, R.STI_CH_CLAMP, R.STI_CH_TOKERR,
    R.SEQ_RING_HEAD, R.SEQ_DISCARD, R.SRV_CH_STAT, R.SRV_AX_STAT, R.LSR_LOG_DROP, R.LSR_ISR, R.SEQ_GRP_DESC, R.SEQ_EVT_WR,
    R.SEQ_GRP_ISR, R.SEQ_EVT_DROP] at ha
  omega

/-! ### Gain sets and active sets (R195, R196) -/

theorem exec_meltPoolGainSetWrite {s : State} {addr : Nat} {v : Word} (hlo : 0x1800000 ≤ addr) (hhi : addr < 0x1804000) (h4 : addr % 4 = 0)
    (hn : (addr - 0x1800000) / 0x200 < s.channels) : exec (.meltPoolGainSetWrite addr v) s = .next
      (if 1 < s.chState ((addr - 0x1800000) / 0x200) then s.raise R.LSR_ISR F.LSR_ISR_REJ
       else if meltMask (addr % 0x20) = 0 then s else s.tableStore addr (meltMask (addr % 0x20)) v) := by
  have hx : exec (.meltPoolGainSetWrite addr v) s = execMeltPoolGainSetWrite addr v s := rfl
  rw [hx, execMeltPoolGainSetWrite, if_neg (by omega), onTable_next (by omega) h4 hn (channels_le s)]

theorem exec_meltPoolGainSetWrite_store {s : State} {addr : Nat} {v : Word} (hlo : 0x1800000 ≤ addr) (hhi : addr < 0x1804000)
    (h4 : addr % 4 = 0) (hn : (addr - 0x1800000) / 0x200 < s.channels) (hst : s.chState ((addr - 0x1800000) / 0x200) ≤ 1)
    (hm : meltMask (addr % 0x20) ≠ 0) :
    exec (.meltPoolGainSetWrite addr v) s = .next (s.tableStore addr (meltMask (addr % 0x20)) v) := by
  rw [exec_meltPoolGainSetWrite hlo hhi h4 hn, if_neg (by omega), if_neg hm]

/-- The active sets lie within BAR0. -/
theorem lt_of_lsrActive {addr n m : Nat} (h : lsrActive addr = some (n, m)) : addr < 0x4000000 := by
  unfold lsrActive at h
  split at h
  · omega
  split at h
  · omega
  split at h
  · omega
  · cases h

theorem exec_lsrActiveSetWrite {s : State} {addr n m : Nat} {v : Word} (h4 : addr % 4 = 0) (ha : lsrActive addr = some (n, m))
    (hn : n < s.channels) : exec (.lsrActiveSetWrite addr v) s = .next
      (if 1 < s.chState n ∨ s.flag (R.LSR_CH_MAN n) F.LSR_CH_MAN_EN then s.raise R.LSR_ISR F.LSR_ISR_REJ
       else if m = 0 then s else s.tableStore addr m v) := by
  have hx : exec (.lsrActiveSetWrite addr v) s = execLsrActiveSetWrite addr v s := rfl
  rw [hx, execLsrActiveSetWrite, ha]
  exact onTable_next (lt_of_lsrActive ha) h4 hn (channels_le s)

theorem exec_lsrActiveSetWrite_store {s : State} {addr n m : Nat} {v : Word} (h4 : addr % 4 = 0) (ha : lsrActive addr = some (n, m))
    (hn : n < s.channels) (hst : s.chState n ≤ 1) (hman : s.flag (R.LSR_CH_MAN n) F.LSR_CH_MAN_EN = false) (hm : m ≠ 0) :
    exec (.lsrActiveSetWrite addr v) s = .next (s.tableStore addr m v) := by
  rw [exec_lsrActiveSetWrite h4 ha hn, if_neg (not_or.mpr ⟨by omega, by simp [hman]⟩), if_neg hm]

/-- A host write that stores word v at addr under mask m. -/
theorem tableStore_effect {s : State} {i : Instr} {addr m : Nat} {v : Word} (e : exec i s = .next (s.tableStore addr m v))
    (h : s.splitWrite = false) : ∃ t, exec i s = .next t ∧ Only [.regs, .intg] s t ∧ t.reg addr = v &&& BitVec.ofNat 32 m ∧
      RegsBut [addr] s t :=
  ⟨_, e, only_tableStore s addr m v, tableStore_sound s addr m v h⟩

/-- A host write that the laser block ignores. -/
theorem lsrRej_effect {s : State} {i : Instr} (e : exec i s = .next (s.raise R.LSR_ISR F.LSR_ISR_REJ)) :
    ∃ t, exec i s = .next t ∧ Only irqParts s t ∧ t.flag R.LSR_ISR F.LSR_ISR_REJ = true ∧ RegsBut [R.LSR_ISR] s t :=
  ⟨_, e, State.only_raise s _ _, State.flag_raise_same s _ _ (by decide) (by decide), State.regsBut_raise s _ _⟩

/-! ### The latch holds every gate low (R168, R170) -/

theorem gate_of_latched {s : State} (h : s.latched = true) (n : Nat) : s.gate n = false := by
  simp only [State.gate, h, Bool.not_true, Bool.and_false, Bool.false_and]

theorem gates_of_latched {s : State} (h : s.latched = true) : s.gates = 0 := by
  simp only [State.gates, gate_of_latched h, Bool.false_eq_true, if_false, List.foldl_fixed]

/-- The block's reset keeps the latch register. -/
theorem latched_resetLsr (s : State) (keep : Access → Bool) : (s.resetLsr keep).latched = s.latched :=
  latched_congr (State.reg_setReg_same (s.resetRegs 0x180000 0x1C0000 keep) _ _)

/-! ### The statement -/

/-- Settles O26: the log's write ends in `State.logCtlTaken`, after which MODE 0 closes the line and leaves the register; a table write
ends in `State.tableStore` or in the rejection; the block reset keeps the latch that the named reset has set. -/
theorem laserWritesAndReset : Obligations.LaserWritesAndReset := by
  refine ⟨?_, ?_, ?_, ?_, ?_, ?_, ?_, ?_, ?_⟩
  · intro s ch v hn hidle hmin hmax hpanic hmode
    obtain ⟨hm, hd, hl, hp⟩ := fields_logCtlTaken s ch v
    rw [if_pos ⟨hidle, hmin, hmax⟩] at hl
    rw [if_neg hpanic] at hp
    exact ⟨_, by rw [exec_lsrLogCtlWrite hn (by omega), if_neg (by omega)], only_logCtlTaken s ch v, hm, hl, hd, hp,
      regsBut_logCtlTaken s ch v⟩
  · intro s addr v hlo hhi h4 hn hst hmask hsplit
    exact tableStore_effect (exec_meltPoolGainSetWrite_store hlo hhi h4 hn hst hmask) hsplit
  · intro s addr v hlo hhi h4 hn hst
    exact lsrRej_effect (by rw [exec_meltPoolGainSetWrite hlo hhi h4 hn, if_pos hst])
  · intro s addr n m v h4 ha hn hst hman hmask hsplit
    exact tableStore_effect (exec_lsrActiveSetWrite_store h4 ha hn hst hman hmask) hsplit
  · intro s addr n m v h4 ha hn hbusy
    exact lsrRej_effect (by rw [exec_lsrActiveSetWrite h4 ha hn, if_pos hbusy])
  · intro s
    have e : exec .lsrBlockReset s = .next ((s.namedReset 0 false).resetLsr keepRws) := rfl
    have hlatch : ((s.namedReset 0 false).resetLsr keepRws).latched = true := (latched_resetLsr _ _).trans (latched_namedReset s 0)
    exact ⟨_, e, ((keeps_execLsrBlockReset (List.Subset.refl _) (Keeps.refl _ s)).next _ e).only, rfl, hlatch, gates_of_latched hlatch⟩
  · intro s ch v hn hmode
    have e := exec_lsrLogCtlWrite hn hmode
    have hfld (f : Field) : (if field F.LSR_LOG_CTL_MODE v = 0 then (s.logCtlTaken ch v).logClose ch else s.logCtlTaken ch v).fld
        (R.LSR_LOG_CTL ch) f = (s.logCtlTaken ch v).fld (R.LSR_LOG_CTL ch) f := by
      split
      · exact fld_logClose_LSR_LOG_CTL _ (Nat.lt_of_lt_of_le hn (channels_le s)) f
      · rfl
    refine ⟨_, e, ((keeps_execLsrLogCtlWrite (List.Subset.refl _) ch v (Keeps.refl _ s)).next _ e).only, ?_⟩
    simp only [hfld]
    exact fields_logCtlTaken s ch v
  · intro s addr v hlo hhi h4 hn hst hmask
    exact ⟨_, exec_meltPoolGainSetWrite_store hlo hhi h4 hn hst hmask,
      (keeps_State_tableStore (by decide) _ _ _ (Keeps.refl _ s)).only, rfl⟩
  · intro s addr n m v h4 ha hn hst hman hmask
    exact ⟨_, exec_lsrActiveSetWrite_store h4 ha hn hst hman hmask,
      (keeps_State_tableStore (by decide) _ _ _ (Keeps.refl _ s)).only, rfl⟩

end Sys2Proof.Machine

/-! # The Hoop fabric: ports, lanes, packets and credits (O28) -/

namespace Sys2Proof.Machine

-- As above: the proofs of this part are elaborated one after another, which keeps the check within its memory.
set_option deprecated.oldSectionVars true

/-! ### Units under changes elsewhere -/

theorem pt_of_port {s t : State} (h : t.port = s.port) (n : Nat) : t.pt n = s.pt n := by unfold State.pt; rw [h]
theorem ln_of_lane {s t : State} (h : t.lane = s.lane) (n : Nat) : t.ln n = s.ln n := by unfold State.ln; rw [h]

@[simp] theorem State.pt_setReg (s : State) (a : Nat) (v : Word) (n : Nat) : (s.setReg a v).pt n = s.pt n := rfl
@[simp] theorem State.pt_setFld (s : State) (a : Nat) (f : Field) (v n : Nat) : (s.setFld a f v).pt n = s.pt n := rfl
@[simp] theorem State.pt_setFlag (s : State) (a : Nat) (f : Field) (b : Bool) (n : Nat) : (s.setFlag a f b).pt n = s.pt n := rfl
@[simp] theorem State.pt_satAdd (s : State) (a : Nat) (f : Field) (k n : Nat) : (s.satAdd a f k).pt n = s.pt n := rfl
@[simp] theorem State.pt_raise (s : State) (a : Nat) (f : Field) (n : Nat) : (s.raise a f).pt n = s.pt n := pt_of_port (by simp) n

section
variable {l : List Nat} {s t u : State} {n m : Nat}

theorem UnitsBut.refl {α : Type} (get : State → Nat → α) (n : Nat) (s : State) : UnitsBut get n s s := fun _ _ => rfl

theorem UnitsBut.trans {α : Type} {get : State → Nat → α} (h : UnitsBut get n s t) (k : UnitsBut get n t u) : UnitsBut get n s u :=
  fun m hm => (k m hm).trans (h m hm)

theorem UnitsBut.of_port (h : UnitsBut State.pt n s t) (hu : u.port = t.port) : UnitsBut State.pt n s u :=
  fun m hm => (pt_of_port hu m).trans (h m hm)

theorem UnitsBut.of_lane (h : UnitsBut State.ln n s t) (hu : u.lane = t.lane) : UnitsBut State.ln n s u :=
  fun m hm => (ln_of_lane hu m).trans (h m hm)

theorem UnitsBut.modPt {f : HoopPort → HoopPort} (h : UnitsBut State.pt n s t) : UnitsBut State.pt n s (t.modPt n f) :=
  fun m hm => by rw [State.pt_modPt, if_neg hm, h m hm]

theorem UnitsBut.modLn {f : Lane → Lane} (h : UnitsBut State.ln n s t) : UnitsBut State.ln n s (t.modLn n f) :=
  fun m hm => by rw [State.ln_modLn, if_neg hm, h m hm]

theorem RegsBut.modPt {f : HoopPort → HoopPort} (h : RegsBut l s t) : RegsBut l s (t.modPt m f) := h.of_regs rfl
theorem RegsBut.modLn {f : Lane → Lane} (h : RegsBut l s t) : RegsBut l s (t.modLn m f) := h.of_regs rfl

end

/-- A command that is rejected raises its flag and does nothing else. -/
theorem rejected_effect {s : State} {i : Instr} {a : Nat} {f : Field} (hf : f.lo + f.width ≤ 32) (hw : 1 ≤ f.width)
    (e : exec i s = .next (s.raise a f)) :
    ∃ t, exec i s = .next t ∧ Only irqParts s t ∧ t.flag a f = true ∧ RegsBut [a] s t :=
  ⟨_, e, State.only_raise s _ _, State.flag_raise_same s _ _ hf hw, State.regsBut_raise s _ _⟩

/-! ### Lanes (R330) -/

theorem regsBut_setLane (s : State) (l st : Nat) : RegsBut [R.LANE_STAT l] s (s.setLane l st) :=
  ((RegsBut.refl _ s).setFld (by simp)).modLn

theorem regsBut_startLane (s : State) (l : Nat) : RegsBut [R.LANE_STAT l] s (s.startLane l) := by
  unfold State.startLane
  exact (((RegsBut.refl _ s).setFlag (by simp)).trans (regsBut_setLane _ l 1)).ite (RegsBut.refl _ s)

theorem laneLeft_of_not_head {s : State} {l : Nat} (h : ¬(l < 32 ∧ s.laneState l = 5)) : s.laneLeft l = s := by
  rw [State.laneLeft, if_neg h]

/-- A lane without a head link that goes DOWN writes its status alone. -/
theorem regsBut_laneDown {s : State} {l : Nat} (h : ¬(l < 32 ∧ s.laneState l = 5)) : RegsBut [R.LANE_STAT l] s (s.laneDown l) := by
  unfold State.laneDown
  dsimp only
  rw [laneLeft_of_not_head h]
  exact (((RegsBut.refl _ s).setFlag (by simp)).trans (regsBut_setLane _ l 0)).modLn

/-! ### The lanes of a port (R199) -/

theorem le_of_mem_portLanes {s : State} {p l : Nat} (h : l ∈ s.portLanes p) : 32 ≤ l := by
  obtain ⟨i, -, rfl⟩ := List.mem_map.mp h
  omega

/-- A register that a change of a Hoop lane leaves is left by that change of each lane of a port. -/
theorem reg_each_portLanes {f : Nat → State → State} {a : Nat} (hf : ∀ l u, 32 ≤ l → (f l u).reg a = u.reg a) (s u : State) (p : Nat) :
    (s.each (u.portLanes p) f).reg a = s.reg a :=
  each_unchanged (fun w => w.reg a) (fun l hl w => hf l w (le_of_mem_portLanes hl)) s

theorem lt_LANE_STAT {a l : Nat} (h : a < 0x241000) : a ∉ [R.LANE_STAT l] := by
  simp only [List.mem_singleton, R.LANE_STAT]
  omega

/-- Every lane of a port goes DOWN. -/
def State.lanesDown (s : State) (p : Nat) : State := s.each (s.portLanes p) fun l t => t.laneDown l

theorem reg_lanesDown {a : Nat} (h : a < 0x241000) (s : State) (p : Nat) : (s.lanesDown p).reg a = s.reg a :=
  reg_each_portLanes (fun l u hl => regsBut_laneDown (by omega) a (lt_LANE_STAT h)) s s p

theorem port_lanesDown (s : State) (p : Nat) : (s.lanesDown p).port = s.port :=
  (Keeps.each (fun n _ ht => keeps_State_laneDown (List.Subset.refl _) n ht) (Keeps.refl _ s) :
    Keeps [.regs, .lane, .head, .pci, .out] s (s.lanesDown p)).part .port rfl

/-! ### A port that leaves Active (R208) -/

/-- A port without its packets, its debts, its exchange and its alignment. -/
def HoopPort.emptied (q : HoopPort) : HoopPort :=
  { q with link := [], urgent := [], fwd := [], loc := [], owedShared := 0, owedReserved := 0, t1 := none, aligned := [] }

/-- A port leaves Active, what it had queued dropped and counted, to a port state. -/
def State.portEnded (s : State) (p st : Nat) : State :=
  (((s.dropQueue p).modPt p fun q => { q with aligned := [] }).setFld (R.HOOP_PT_STAT p) F.HOOP_PT_STAT_STATE st).raise
    R.HOOP_ISR F.HOOP_ISR_LINK

theorem portLost_eq (s : State) (p : Nat) : s.portLost p =
    if s.fld (R.HOOP_PT_STAT p) F.HOOP_PT_STAT_STATE = 2 then s.portEnded p 1
    else if s.fld (R.HOOP_PT_STAT p) F.HOOP_PT_STAT_STATE = 3 then (s.portEnded p 0).lanesDown p
    else s := by
  unfold State.portLost
  dsimp only
  by_cases h2 : s.fld (R.HOOP_PT_STAT p) F.HOOP_PT_STAT_STATE = 2
  · rw [if_pos (Or.inl h2), if_pos h2, if_neg (by omega), if_neg (by omega)]
    rfl
  by_cases h3 : s.fld (R.HOOP_PT_STAT p) F.HOOP_PT_STAT_STATE = 3
  · rw [if_pos (Or.inr h3), if_neg h2, if_pos h3, if_pos h3, if_pos h3]
    rfl
  · rw [if_neg (by omega), if_neg h2, if_neg h3]

theorem portDown_eq (s : State) (p : Nat) :
    s.portDown p = ((s.portLost p).setFld (R.HOOP_PT_STAT p) F.HOOP_PT_STAT_STATE 0).lanesDown p := rfl

/-- The registers that a port's end writes beside its lanes'. -/
abbrev portEndRegs (p : Nat) : List Nat := [R.HOOP_PT_ERR p, R.HOOP_PT_STAT p, R.HOOP_ISR]

theorem regsBut_portEnded (s : State) (p st : Nat) : RegsBut (portEndRegs p) s (s.portEnded p st) :=
  (((RegsBut.refl _ s).satAdd (by simp)).modPt.modPt.setFld (by simp)).raise (by simp)

theorem pt_portEnded (s : State) (p st : Nat) : (s.portEnded p st).pt p = (s.pt p).emptied := by
  rw [State.portEnded, State.pt_raise, State.pt_setFld, State.pt_modPt_same, State.dropQueue, State.pt_modPt_same, State.pt_satAdd,
    HoopPort.emptied]

theorem unitsBut_portEnded (s : State) (p st : Nat) : UnitsBut State.pt p s (s.portEnded p st) := by
  have hdrop : UnitsBut State.pt p s (s.dropQueue p) := ((UnitsBut.refl State.pt p s).of_port (State.satAdd_port _ _ _ _)).modPt
  exact (hdrop.modPt.of_port (State.setFld_port _ _ _ _)).of_port (State.raise_port _ _ _)

theorem flag_LINK_portEnded (s : State) (p st : Nat) : (s.portEnded p st).flag R.HOOP_ISR F.HOOP_ISR_LINK = true :=
  State.flag_raise_same _ _ _ (by decide) (by decide)

theorem pt_portLost_of_linked {s : State} {p : Nat}
    (h : s.fld (R.HOOP_PT_STAT p) F.HOOP_PT_STAT_STATE = 2 ∨ s.fld (R.HOOP_PT_STAT p) F.HOOP_PT_STAT_STATE = 3) :
    (s.portLost p).pt p = (s.pt p).emptied := by
  rw [portLost_eq]
  split
  · exact pt_portEnded s p 1
  · rw [if_pos (by omega), pt_of_port (port_lanesDown _ p), pt_portEnded]

theorem unitsBut_portLost (s : State) (p : Nat) : UnitsBut State.pt p s (s.portLost p) := by
  rw [portLost_eq]
  split
  · exact unitsBut_portEnded s p 1
  split
  · exact (unitsBut_portEnded s p 0).of_port (port_lanesDown _ p)
  · exact UnitsBut.refl _ p s

/-- The end of a port leaves the exchange's number and the start of the last one. -/
theorem xid_portLost (s : State) (p : Nat) : ((s.portLost p).pt p).xid = (s.pt p).xid := by
  by_cases h : s.fld (R.HOOP_PT_STAT p) F.HOOP_PT_STAT_STATE = 2 ∨ s.fld (R.HOOP_PT_STAT p) F.HOOP_PT_STAT_STATE = 3
  · rw [pt_portLost_of_linked h]; rfl
  · rw [portLost_eq, if_neg (by omega), if_neg (by omega)]

/-! ### A port that is down (R208) -/

theorem HOOP_PT_STAT_lt {p : Nat} (h : p < 8) : R.HOOP_PT_STAT p < 0x241000 := by unfold R.HOOP_PT_STAT; omega

theorem pt_portDown (s : State) (p n : Nat) : (s.portDown p).pt n = (s.portLost p).pt n := by
  rw [portDown_eq, pt_of_port (port_lanesDown _ p), State.pt_setFld]

theorem unitsBut_portDown (s : State) (p : Nat) : UnitsBut State.pt p s (s.portDown p) :=
  fun m hm => (pt_portDown s p m).trans (unitsBut_portLost s p m hm)

theorem state_portDown (s : State) {p : Nat} (hp : p < 8) : (s.portDown p).fld (R.HOOP_PT_STAT p) F.HOOP_PT_STAT_STATE = 0 := by
  rw [State.fld, portDown_eq, reg_lanesDown (HOOP_PT_STAT_lt hp)]
  exact State.fld_setFld_same (s.portLost p) _ _ 0 (by decide)

/-- A draining port that goes down reports its link. -/
theorem flag_LINK_portDown {s : State} {p : Nat} (h : s.fld (R.HOOP_PT_STAT p) F.HOOP_PT_STAT_STATE = 3) :
    (s.portDown p).flag R.HOOP_ISR F.HOOP_ISR_LINK = true := by
  have hne : R.HOOP_ISR ≠ R.HOOP_PT_STAT p := by unfold R.HOOP_ISR R.HOOP_PT_STAT; omega
  rw [State.flag, State.fld, portDown_eq, reg_lanesDown (by decide), State.reg_setFld_ne _ _ _ _ _ hne, portLost_eq, if_neg (by omega),
    if_pos h, reg_lanesDown (by decide)]
  exact flag_LINK_portEnded s p 0

/-! ### Enabling and disabling a port (R199, R208) -/

/-- A port enabled with a configuration, its lanes starting. -/
def State.portEnabled (s : State) (p : Nat) (v : Word) : State :=
  let u := (((s.portLost p).setReg (R.HOOP_PT_CFG p) (ptCfg v)).setReg (R.HOOP_PT_STAT p) 1).modPt p fun q =>
    { HoopPort.reset with xid := q.xid, lastStart := q.lastStart, lanes := widthOf (field F.HOOP_PT_CFG_WIDTH v) }
  u.each (u.portLanes p) fun l t => t.startLane l

/-- An Active port drains, its other fields stored. -/
def State.portDraining (s : State) (p : Nat) (v : Word) : State :=
  ((s.setReg (R.HOOP_PT_CFG p) (ptCfg v)).modPt p fun q => { q with drainAt := s.time.mt }).setFld (R.HOOP_PT_STAT p)
    F.HOOP_PT_STAT_STATE 3

section
variable {s : State} {p : Nat} {v : Word}

theorem exec_hoopIdWrite (s : State) (v : Word) : exec (.hoopIdWrite v) s = .next
    (if (List.range s.hoopLanes).any s.portBusy then s.raise R.HOOP_ISR F.HOOP_ISR_REJ
     else s.setFld R.HOOP_ID F.HOOP_ID_DEVID (field F.HOOP_ID_DEVID v)) := rfl

theorem exec_hoopPortEnable (hp : p < s.hoopLanes) : exec (.hoopPortEnable p v) s = .next
    (if !s.portOk p (v ||| 1) then s.raise R.HOOP_ISR F.HOOP_ISR_REJ
     else if s.flag (R.HOOP_PT_CFG p) F.HOOP_PT_CFG_EN then s.setReg (R.HOOP_PT_CFG p) (ptCfg (v ||| 1))
     else s.portEnabled p (v ||| 1)) :=
  (onUnitWrite_next hp (hoopLanes_le s) : execHoopPortEnable p v s = _)

theorem exec_hoopPortDisable (hp : p < s.hoopLanes) (he : s.flag (R.HOOP_PT_CFG p) F.HOOP_PT_CFG_EN = true) :
    exec (.hoopPortDisable p v) s = .next
      (if s.fld (R.HOOP_PT_STAT p) F.HOOP_PT_STAT_STATE = 2 then s.portDraining p (v &&& 0xFFFFFFFE)
       else (s.portDown p).setReg (R.HOOP_PT_CFG p) (ptCfg (v &&& 0xFFFFFFFE))) := by
  have hx : exec (.hoopPortDisable p v) s = execHoopPortDisable p v s := rfl
  rw [hx, execHoopPortDisable, onUnitWrite_next hp (hoopLanes_le s)]
  simp only [he, Bool.not_true, Bool.false_eq_true, if_false]
  rfl

theorem exec_hoopPortTeardown (hp : p < s.hoopLanes) (hst : s.fld (R.HOOP_PT_STAT p) F.HOOP_PT_STAT_STATE = 3)
    (hq : (s.pt p).queued = 0 ∨ (s.pt p).drainAt + ticksU 12500 ≤ s.time.mt) : exec (.hoopPortTeardown p) s = .next (s.portDown p) := by
  have hx : exec (.hoopPortTeardown p) s = execHoopPortTeardown p s := rfl
  rw [hx, execHoopPortTeardown, onUnit_next hp (hoopLanes_le s)]
  exact congrArg _ (if_pos ⟨hst, hq⟩)

end

theorem HOOP_PT_STAT_ne_CFG (p : Nat) : R.HOOP_PT_STAT p ≠ R.HOOP_PT_CFG p := by unfold R.HOOP_PT_STAT R.HOOP_PT_CFG; omega

theorem reg_portEnabled {a : Nat} (ha : a < 0x241000) (s : State) (p : Nat) (v : Word) : (s.portEnabled p v).reg a =
    (((s.portLost p).setReg (R.HOOP_PT_CFG p) (ptCfg v)).setReg (R.HOOP_PT_STAT p) 1).reg a :=
  reg_each_portLanes (fun l u _ => regsBut_startLane u l a (lt_LANE_STAT ha)) _ _ p

theorem port_portEnabled (s : State) (p : Nat) (v : Word) : (s.portEnabled p v).port = ((s.portLost p).modPt p fun q =>
    { HoopPort.reset with xid := q.xid, lastStart := q.lastStart, lanes := widthOf (field F.HOOP_PT_CFG_WIDTH v) }).port :=
  each_unchanged State.port (fun l _ u => (keeps_State_startLane (List.Subset.refl _) l (Keeps.refl _ u)).part .port rfl) _

/-- An enabled port is in bring-up, empty, and keeps the number of its last exchange. -/
theorem portEnabled_effect (s : State) {p : Nat} (v : Word) (hp : p < 8) :
    (s.portEnabled p v).reg (R.HOOP_PT_CFG p) = ptCfg v ∧
    (s.portEnabled p v).fld (R.HOOP_PT_STAT p) F.HOOP_PT_STAT_STATE = 1 ∧ ((s.portEnabled p v).pt p).queued = 0 ∧
    ((s.portEnabled p v).pt p).xid = (s.pt p).xid ∧ UnitsBut State.pt p s (s.portEnabled p v) := by
  have hcfg : R.HOOP_PT_CFG p < 0x241000 := by unfold R.HOOP_PT_CFG; omega
  refine ⟨?_, ?_, ?_, ?_, ?_⟩
  · rw [reg_portEnabled hcfg, State.reg_setReg_ne _ _ _ _ (HOOP_PT_STAT_ne_CFG p).symm, State.reg_setReg_same]
  · rw [State.fld, reg_portEnabled (HOOP_PT_STAT_lt hp), State.reg_setReg_same]; decide
  · rw [pt_of_port (port_portEnabled s p v), State.pt_modPt_same]; rfl
  · rw [pt_of_port (port_portEnabled s p v), State.pt_modPt_same]; exact xid_portLost s p
  · exact (UnitsBut.modPt (unitsBut_portLost s p)).of_port (port_portEnabled s p v)

/-- A write with EN = 0 leaves EN clear. -/
theorem EN_of_disable (v : Word) : field F.HOOP_PT_CFG_EN (ptCfg (v &&& 0xFFFFFFFE)) = 0 := by
  have h : (ptCfg (v &&& 0xFFFFFFFE)).toNat.testBit 0 = false := by simp [ptCfg]
  simpa [field, F.HOOP_PT_CFG_EN, Nat.testBit_zero] using h

theorem portDraining_effect (s : State) (p : Nat) (v : Word) :
    (s.portDraining p (v &&& 0xFFFFFFFE)).fld (R.HOOP_PT_STAT p) F.HOOP_PT_STAT_STATE = 3 ∧
    (s.portDraining p (v &&& 0xFFFFFFFE)).flag (R.HOOP_PT_CFG p) F.HOOP_PT_CFG_EN = false ∧
    ((s.portDraining p (v &&& 0xFFFFFFFE)).pt p).drainAt = s.time.mt ∧
    RegsBut [R.HOOP_PT_CFG p, R.HOOP_PT_STAT p] s (s.portDraining p (v &&& 0xFFFFFFFE)) ∧
    UnitsBut State.pt p s (s.portDraining p (v &&& 0xFFFFFFFE)) := by
  refine ⟨State.fld_setFld_same _ _ _ 3 (by decide), ?_, ?_, ((RegsBut.refl _ s).setReg (by simp)).modPt.setFld (by simp),
    ((UnitsBut.refl State.pt p s).of_port (State.setReg_port _ _ _)).modPt.of_port (State.setFld_port _ _ _ _)⟩
  · rw [State.flag, State.portDraining, State.fld_setFld_reg _ _ _ _ _ _ (HOOP_PT_STAT_ne_CFG p).symm, State.fld, State.modPt_reg,
      State.reg_setReg_same, EN_of_disable]
    rfl
  · rw [State.portDraining, State.pt_setFld, State.pt_modPt_same]

/-! ### Packets in the queues of a port (R200, R201, R206) -/

section
variable (s : State) (p cls : Nat) (fwd : Bool) (k : Packet)

@[simp] theorem nextSeq_regs : (s.nextSeq cls).2.regs = s.regs := rfl
@[simp] theorem nextSeq_reg (a : Nat) : (s.nextSeq cls).2.reg a = s.reg a := rfl
@[simp] theorem nextSeq_port : (s.nextSeq cls).2.port = s.port := rfl
@[simp] theorem nextSeq_pt (n : Nat) : (s.nextSeq cls).2.pt n = s.pt n := rfl

theorem unitsBut_enqueue : UnitsBut State.pt p s (s.enqueue p fwd k) := UnitsBut.modPt (UnitsBut.refl State.pt p s)

theorem reg_enqueue (a : Nat) : (s.enqueue p fwd k).reg a = s.reg a := rfl

variable {k}

theorem pt_enqueue_link (h : k.cls < 0x10) : (s.enqueue p fwd k).pt p = { s.pt p with link := (s.pt p).link ++ [k] } := by
  rw [State.enqueue, State.pt_modPt_same, if_pos h]

theorem pt_enqueue_loc (h : 0x20 ≤ k.cls) : (s.enqueue p false k).pt p = { s.pt p with loc := (s.pt p).loc ++ [k] } := by
  rw [State.enqueue, State.pt_modPt_same, if_neg (by omega), if_neg (by omega), if_neg Bool.false_ne_true]

end

/-- Debts depend on the port alone. -/
theorem pt_owe_congr {s t : State} {p : Nat} (k : Packet) (h : t.pt p = s.pt p) : (t.owe p k).pt p = (s.owe p k).pt p := by
  unfold State.owe
  split
  · exact h
  · rw [State.pt_modPt_same, State.pt_modPt_same, h]

theorem unitsBut_owe (s : State) (p : Nat) (k : Packet) : UnitsBut State.pt p s (s.owe p k) := by
  unfold State.owe
  split
  · exact UnitsBut.refl _ p s
  · exact UnitsBut.modPt (UnitsBut.refl _ p s)

theorem reg_owe (s : State) (p : Nat) (k : Packet) (a : Nat) : (s.owe p k).reg a = s.reg a := by
  unfold State.owe
  split <;> rfl

/-! ### Sending (R205, R206) -/

theorem lanes_pays {q r : HoopPort} {k : Packet} (h : q.pays k = some r) : r.lanes = q.lanes := by
  unfold HoopPort.pays at h
  dsimp only at h
  split at h
  · cases h; rfl
  split at h
  · split at h
    · cases h; rfl
    · cases h
  split at h
  · cases h; rfl
  · cases h

theorem lanes_sendNormal {q r : HoopPort} {loc : Bool} {k : Packet} (h : q.sendNormal loc = some (k, r)) : r.lanes = q.lanes := by
  unfold HoopPort.sendNormal at h
  split at h
  · cases h
  split at h
  · rename_i hp
    cases h
    rw [← lanes_pays hp]
    split <;> rfl
  · cases h

/-- Choosing the next packet leaves the lanes of the port. -/
theorem lanes_pick {q r : HoopPort} {k : Packet} (h : q.pick = some (k, r)) : r.lanes = q.lanes := by
  have hnormal (hn : (match q.sendNormal q.localTurn with | some r => some r | none => q.sendNormal (!q.localTurn)) = some (k, r)) :
      r.lanes = q.lanes := by
    cases hs : q.sendNormal q.localTurn with
    | some x =>
      rw [hs] at hn
      cases hn
      exact lanes_sendNormal hs
    | none =>
      rw [hs] at hn
      exact lanes_sendNormal hn
  unfold HoopPort.pick at h
  cases hl : q.link with
  | cons x xs =>
    rw [hl] at h
    cases h
    rfl
  | nil =>
    rw [hl] at h
    cases hu : q.urgent with
    | nil =>
      rw [hu] at h
      exact hnormal h
    | cons x xs =>
      rw [hu] at h
      cases hp : q.pays x with
      | none =>
        simp only [hp] at h
        exact hnormal h
      | some y =>
        simp only [hp] at h
        cases h
        exact (lanes_pays hp : y.lanes = q.lanes)

/-- A packet other than a TIME packet leaves as it stands in its queue. -/
theorem stampOut_untimed {k : Packet} (h : k.cls ≠ 0x01) (s : State) (p : Nat) : s.stampOut p k = (k, s) := by
  rw [State.stampOut, if_neg h]

/-- A packet other than this device's own bulk data moves no transfer's time. -/
theorem bulkSent_other {s : State} {k : Packet} (h : k.cls ≠ 0x30 ∨ k.src ≠ s.devid) : s.bulkSent k = s := by
  rw [State.bulkSent]
  exact if_neg fun hc => by rcases h with h | h <;> simp [hc.1, hc.2.1] at h

theorem exec_packetTransmit {s : State} {p : Nat} {k : Packet} {q : HoopPort} (hp : p < s.hoopLanes)
    (hst : s.fld (R.HOOP_PT_STAT p) F.HOOP_PT_STAT_STATE = 2 ∨ s.fld (R.HOOP_PT_STAT p) F.HOOP_PT_STAT_STATE = 3)
    (hl : ((s.portLanes p).any fun l => decide (s.laneState l = 6)) = false) (hk : (s.pt p).pick = some (k, q)) :
    exec (.packetTransmit p) s = .next (let r := (s.modPt p fun _ => q).stampOut p k
      (r.2.bulkSent r.1).emit (.packet p r.1 (r.2.onLanes p r.1))) := by
  have hx : exec (.packetTransmit p) s = execPacketTransmit p s := rfl
  rw [hx, execPacketTransmit, onUnit_next hp (hoopLanes_le s)]
  simp only [hl, Bool.false_eq_true, if_false, hk]
  rw [if_neg (by omega)]

theorem exec_packetTransmit_asleep {s : State} {p : Nat} (hp : p < s.hoopLanes)
    (hst : s.fld (R.HOOP_PT_STAT p) F.HOOP_PT_STAT_STATE = 2 ∨ s.fld (R.HOOP_PT_STAT p) F.HOOP_PT_STAT_STATE = 3)
    (hl : ((s.portLanes p).any fun l => decide (s.laneState l = 6)) = true) (hq : (s.pt p).queued ≠ 0) :
    exec (.packetTransmit p) s = .next (s.each (s.portLanes p) fun l u => u.wakeSend l) := by
  have hx : exec (.packetTransmit p) s = execPacketTransmit p s := rfl
  rw [hx, execPacketTransmit, onUnit_next hp (hoopLanes_le s)]
  simp only [hl, if_true, hq, if_false]
  rw [if_neg (by omega)]

/-- A packet that is neither a TIME packet nor bulk data of this device leaves and changes nothing else. -/
theorem packetTransmit_plain {s : State} {p : Nat} {k : Packet} {q : HoopPort} (hp : p < s.hoopLanes) (ha : s.active p = true)
    (hl : ((s.portLanes p).any fun l => decide (s.laneState l = 6)) = false) (hk : (s.pt p).pick = some (k, q)) (h1 : k.cls ≠ 0x01)
    (h30 : k.cls ≠ 0x30 ∨ k.src ≠ s.devid) :
    exec (.packetTransmit p) s = .next ((s.modPt p fun _ => q).emit (.packet p k (s.onLanes p k))) := by
  have hlanes : (s.modPt p fun _ => q).portLanes p = s.portLanes p := by
    rw [State.portLanes, State.pt_modPt_same, lanes_pick hk, State.portLanes]
  rw [exec_packetTransmit hp (Or.inl (of_decide_eq_true ha)) hl hk]
  dsimp only
  rw [stampOut_untimed h1, bulkSent_other (s := s.modPt p fun _ => q) h30]
  simp only [State.onLanes, hlanes]

theorem only_modPt (s : State) (p : Nat) (f : HoopPort → HoopPort) : Only [.port] s (s.modPt p f) :=
  (keeps_State_modPt (List.Subset.refl _) p f (Keeps.refl _ s)).only

/-! ### Credits (R205) -/

theorem exec_creditReceived {s : State} {p : Nat} {pk : Packet} (hp : p < s.hoopLanes) (hk : pk.cls = 0x02) (hc : s.carries p = true) :
    exec (.creditReceived p pk) s = .next (s.modPt p fun q =>
      { q with shared := q.shared + leAt pk.payload 0 2, reserved := q.reserved + leAt pk.payload 2 1 }) := by
  have hx : exec (.creditReceived p pk) s = execCreditReceived p pk s := rfl
  rw [hx, execCreditReceived, onUnit_next hp (hoopLanes_le s), if_pos ⟨hk, hc⟩]

/-- The CREDIT packet for what a port owes. -/
def State.creditPacket (s : State) (p : Nat) : Packet :=
  ⟨0x02, false, s.fld R.HOOP_CTL F.HOOP_CTL_HOPS, s.fld (R.HOOP_PT_STAT p) F.HOOP_PT_STAT_PEER, s.devid, (s.nextSeq 0x02).1, 0,
    leBytes (s.pt p).owedShared 2 ++ leBytes (s.pt p).owedReserved 1 ++ [0]⟩

theorem exec_creditSend {s : State} {p : Nat} (hp : p < s.hoopLanes) (hc : s.carries p = true)
    (ho : 0 < (s.pt p).owedShared + (s.pt p).owedReserved) : exec (.creditSend p) s = .next
      (((s.nextSeq 0x02).2.modPt p fun q => { q with owedShared := 0, owedReserved := 0 }).enqueue p false (s.creditPacket p)) := by
  have hx : exec (.creditSend p) s = execCreditSend p s := rfl
  rw [hx, execCreditSend, onUnit_next hp (hoopLanes_le s)]
  exact congrArg _ (if_pos (by simp [hc, ho]))

/-! ### Bad packets (R201, R329, R335, R393) -/

/-- The registers that the report of an uncorrectable word writes. -/
abbrev ueRegs : List Nat := R.INTG_UE :: R.INTG_LAST :: R.INTG_ISR :: R.INTG_RECDROP :: evtRegs

theorem regsBut_detectUe (s : State) (kind cls chn index : Nat) : RegsBut ueRegs s (s.detectUe kind cls chn index) := by
  unfold State.detectUe State.intgLast
  dsimp only
  exact ((((RegsBut.refl _ s).satAdd (by decide)).setReg (by decide)).raise (by decide)).intgRecord (by decide) (by decide)

theorem regsBut_hiddenUe (s : State) (cls unit chn : Nat) : RegsBut ueRegs s (s.hiddenUe cls unit chn).2 := by
  unfold State.hiddenUe
  split
  · exact ((RegsBut.refl _ s).of_regs rfl).trans (regsBut_detectUe _ _ _ _ _)
  · exact RegsBut.refl _ s

theorem port_hiddenUe (s : State) (cls unit chn : Nat) : (s.hiddenUe cls unit chn).2.port = s.port :=
  (keeps_State_hiddenUe (List.Subset.refl _) cls unit chn (Keeps.refl _ s)).part .port rfl

/-- No word hides an error: the buffer is sound. -/
theorem hiddenUe_of_none {s : State} (h : s.intg.hidden = []) (cls unit chn : Nat) : s.hiddenUe cls unit chn = (false, s) := by
  simp [State.hiddenUe, h]

theorem regsBut_countStray (s : State) (l : Nat) (bs : List Block) : RegsBut [R.LANE_ERR l] s (s.countStray l bs) := by
  unfold State.countStray
  dsimp only
  exact (RegsBut.refl _ s).ite ((RegsBut.refl _ s).satAdd (by simp))

/-- The blocks of a bad packet dropped: stray ones counted on their lanes, the packet on its port, its credits returned. -/
def State.badDropped (s : State) (p : Nat) (bs : List Block) : State :=
  ((s.each (s.portLanes p) fun l u => u.countStray l (stripe (s.portLanes p).length bs (l - 32 - p))).satAdd (R.HOOP_PT_ERR p)
    F.HOOP_PT_ERR_CRC 1).owe p (badPacket bs)

theorem HOOP_PT_ERR_ne_LANE (p l : Nat) : R.HOOP_PT_ERR p ≠ R.LANE_ERR l := by unfold R.HOOP_PT_ERR R.LANE_ERR; omega

section
variable (s : State) (p : Nat) (bs : List Block)

theorem port_badLanes : (s.each (s.portLanes p) fun l u => u.countStray l (stripe (s.portLanes p).length bs (l - 32 - p))).port = s.port :=
  each_unchanged State.port (fun l _ u => (keeps_State_countStray (List.Subset.refl _) l _ (Keeps.refl _ u)).part .port rfl) s

theorem pt_badDropped : (s.badDropped p bs).pt p = (s.owe p (badPacket bs)).pt p :=
  pt_owe_congr _ (pt_of_port (port_badLanes s p bs) p)

theorem unitsBut_badDropped : UnitsBut State.pt p s (s.badDropped p bs) :=
  UnitsBut.trans (t := (s.each (s.portLanes p) fun l u => u.countStray l (stripe (s.portLanes p).length bs (l - 32 - p))).satAdd
    (R.HOOP_PT_ERR p) F.HOOP_PT_ERR_CRC 1) ((UnitsBut.refl _ p s).of_port (port_badLanes s p bs)) (unitsBut_owe _ p _)

theorem crc_badDropped : (s.badDropped p bs).fld (R.HOOP_PT_ERR p) F.HOOP_PT_ERR_CRC =
    min (s.fld (R.HOOP_PT_ERR p) F.HOOP_PT_ERR_CRC + 1) (2 ^ F.HOOP_PT_ERR_CRC.width - 1) := by
  have hl (l : Nat) (u : State) (_ : 32 ≤ l) : (u.countStray l (stripe (s.portLanes p).length bs (l - 32 - p))).reg (R.HOOP_PT_ERR p) =
      u.reg (R.HOOP_PT_ERR p) :=
    regsBut_countStray u l _ _ (by rw [List.mem_singleton]; exact HOOP_PT_ERR_ne_LANE p l)
  rw [State.badDropped, State.fld, reg_owe]
  refine (fld_satAdd_same _ (R.HOOP_PT_ERR p) F.HOOP_PT_ERR_CRC 1 (by decide)).trans ?_
  rw [State.fld, reg_each_portLanes hl s s p, State.fld]

end

theorem carries_of_reg {s t : State} {p : Nat} (h : t.reg (R.HOOP_PT_STAT p) = s.reg (R.HOOP_PT_STAT p)) : t.carries p = s.carries p := by
  rw [State.carries, State.fld, h, State.carries, State.fld]

/-- No report of an uncorrectable word reaches the Hoop registers. -/
theorem hoop_notMem_ueRegs {a : Nat} (h : 0x200000 ≤ a) : a ∉ ueRegs := fun hm => by
  have : ∀ b ∈ ueRegs, b < 0x200000 := by decide
  exact absurd (this a hm) (by omega)

theorem exec_badPacketReceived {s : State} {p : Nat} {first : Block} {rest : List Block} (hp : p < s.hoopLanes) (hc : s.carries p = true)
    (hb : ((packetOfBlocks (first :: rest)).all fun k => !knownClass k.cls) = true) :
    exec (.badPacketReceived p first rest) s = .next ((s.hiddenUe 9 (16 + p) 0xFF).2.badDropped p (first :: rest)) := by
  have hbad : (match packetOfBlocks (first :: rest) with | some k => !knownClass k.cls | none => true) = true := by
    cases hk : packetOfBlocks (first :: rest) with
    | none => rfl
    | some k => simpa [hk] using hb
  have hcu : (s.hiddenUe 9 (16 + p) 0xFF).2.carries p = true :=
    (carries_of_reg (regsBut_hiddenUe s _ _ _ _ (hoop_notMem_ueRegs (by unfold R.HOOP_PT_STAT; omega)))).trans hc
  have hx : exec (.badPacketReceived p first rest) s = execBadPacketReceived p first rest s := rfl
  rw [hx, execBadPacketReceived, onUnit_next hp (hoopLanes_le s)]
  dsimp only
  rw [if_pos hc, hcu, Bool.true_and]
  exact congrArg _ (if_pos (Bool.or_eq_true_iff.mpr (Or.inl hbad)))

/-! ### The statement -/

/-- Settles O28: each command is one operation on its port: an enable is `State.portEnabled`, an end `State.portDown`; a bad packet is
`State.badDropped` after the report of its buffer's word. -/
theorem hoopPortsAndCredits : Obligations.HoopPortsAndCredits := by
  refine ⟨?_, ?_, ?_, ?_, ?_, ?_, ?_, ?_, ?_, ?_, ?_, ?_, ?_, ?_, ?_, ?_⟩
  · intro s v hfree
    have hb : (List.range s.hoopLanes).any s.portBusy = false := hfree
    refine ⟨_, by rw [exec_hoopIdWrite, hb, if_neg Bool.false_ne_true], (keeps_State_setFld (List.Subset.refl _) _ _ _ (Keeps.refl _ s)).only,
      ?_, (RegsBut.refl _ s).setFld (by simp)⟩
    exact (State.fld_setFld_same s _ _ _ (by decide)).trans (Nat.mod_eq_of_lt (field_lt _ v))
  · intro s v hbusy
    have hb : (List.range s.hoopLanes).any s.portBusy = true := hbusy
    exact rejected_effect (by decide) (by decide) (by rw [exec_hoopIdWrite, hb, if_pos rfl])
  · intro s p v hp hoff hok
    have e : exec (.hoopPortEnable p v) s = .next (s.portEnabled p (v ||| 1)) := by
      rw [exec_hoopPortEnable hp, hok, if_neg (by decide), hoff, if_neg Bool.false_ne_true]
    exact ⟨_, e, ((keeps_execHoopPortEnable (List.Subset.refl _) p v (Keeps.refl _ s)).next _ e).only,
      portEnabled_effect s _ (Nat.lt_of_lt_of_le hp (hoopLanes_le s))⟩
  · intro s p v hp _ hok
    exact rejected_effect (by decide) (by decide) (by rw [exec_hoopPortEnable hp, hok, if_pos (by decide)])
  · intro s p v hp hon hst
    refine ⟨_, by rw [exec_hoopPortDisable hp hon, if_pos hst], ?_, portDraining_effect s p v⟩
    exact (keeps_State_setFld (by decide) _ _ _ (keeps_State_modPt (by decide) _ _ (keeps_State_setReg (by decide) _ _ (Keeps.refl _ s)))).only
  · intro s p hp hst hdone
    have e := exec_hoopPortTeardown hp hst hdone
    refine ⟨_, e, ((keeps_execHoopPortTeardown (List.Subset.refl _) p (Keeps.refl _ s)).next _ e).only,
      state_portDown s (Nat.lt_of_lt_of_le hp (hoopLanes_le s)), ?_, flag_LINK_portDown hst, unitsBut_portDown s p⟩
    rw [pt_portDown, pt_portLost_of_linked (Or.inr hst)]
    rfl
  · intro s p k q hp ha hl hk h1 h30
    refine ⟨_, packetTransmit_plain hp ha hl hk h1 h30, ?_, ?_, Or.inr rfl,
      (UnitsBut.refl State.pt p s).modPt.of_port (State.emit_port _ _)⟩
    · exact (keeps_State_emit (by decide) _ (keeps_State_modPt (by decide) p _ (Keeps.refl _ s))).only
    · rw [pt_of_port (State.emit_port _ _), State.pt_modPt_same]
  · intro s p first rest hp hc hb
    have e := exec_badPacketReceived hp hc hb
    have hport : (s.hiddenUe 9 (16 + p) 0xFF).2.port = s.port := port_hiddenUe s _ _ _
    refine ⟨_, e, ((keeps_execBadPacketReceived (List.Subset.refl _) p first rest (Keeps.refl _ s)).next _ e).only, ?_, ?_, ?_⟩
    · rw [crc_badDropped, (regsBut_hiddenUe s _ _ _).fld (hoop_notMem_ueRegs (by unfold R.HOOP_PT_ERR; omega))]
    · rw [pt_badDropped]
      exact pt_owe_congr _ (pt_of_port hport p)
    · exact ((UnitsBut.refl _ p s).of_port hport).trans (unitsBut_badDropped _ p _)
  · intro s p pk hp _ hk hc
    exact ⟨_, exec_creditReceived hp hk hc, only_modPt s p _, State.pt_modPt_same s p _, UnitsBut.modPt (UnitsBut.refl _ p s)⟩
  · intro s p hp hc ho
    have e := exec_creditSend hp hc ho
    refine ⟨_, e, ((keeps_execCreditSend (List.Subset.refl _) p (Keeps.refl _ s)).next _ e).only, ?_, ?_⟩
    · rw [pt_enqueue_link _ _ _ (show 0x02 < 0x10 by decide), State.pt_modPt_same, nextSeq_pt]
      rfl
    · exact (((UnitsBut.refl State.pt p s).of_port (nextSeq_port s 0x02)).modPt).trans (unitsBut_enqueue _ p _ _)
  · intro s p v hp hon hok
    exact next_of_keeps (keeps_execHoopPortEnable (List.Subset.refl _) p v (Keeps.refl _ s))
      (by rw [exec_hoopPortEnable hp, hok, if_neg (by decide), hon, if_pos rfl])
  · intro s p v hp hon hst
    exact next_of_keeps (keeps_execHoopPortDisable (List.Subset.refl _) p v (Keeps.refl _ s))
      (by rw [exec_hoopPortDisable hp hon, if_neg hst])
  · intro s p hp hst hdone
    exact next_of_keeps (keeps_execHoopPortTeardown (List.Subset.refl _) p (Keeps.refl _ s)) (exec_hoopPortTeardown hp hst hdone)
  · intro s p k q hp hst hl hk
    exact next_of_keeps (keeps_execPacketTransmit (List.Subset.refl _) p (Keeps.refl _ s)) (exec_packetTransmit hp hst hl hk)
  · intro s p hp hst hl hq
    exact next_of_keeps (keeps_execPacketTransmit (List.Subset.refl _) p (Keeps.refl _ s)) (exec_packetTransmit_asleep hp hst hl hq)
  · intro s p first rest hp hc hb hh
    have e := exec_badPacketReceived hp hc hb
    rw [hiddenUe_of_none hh] at e
    exact next_of_keeps (keeps_execBadPacketReceived (List.Subset.refl _) p first rest (Keeps.refl _ s)) e

end Sys2Proof.Machine

/-! # Hoop broadcasts, events and remote access by its issuer (O29) -/

namespace Sys2Proof.Machine

-- As above: the proofs of this part are elaborated one after another, which keeps the check within its memory.
set_option deprecated.oldSectionVars true

/-! ### Fields of a register that is unchanged -/

theorem fld_of_reg {s t : State} {a : Nat} (h : t.reg a = s.reg a) (f : Field) : t.fld a f = s.fld a f := by
  rw [State.fld, h, State.fld]

theorem flag_of_reg {s t : State} {a : Nat} (h : t.reg a = s.reg a) (f : Field) : t.flag a f = s.flag a f := by
  rw [State.flag, fld_of_reg h, State.flag]

/-! ### Packets that a port hands on (R202, R203) -/

theorem lt_of_consumes {s : State} {p : Nat} {k : Packet} (h : s.consumes p k = true) : p < s.hoopLanes := by
  simp only [State.consumes, Bool.and_eq_true, decide_eq_true_eq] at h
  exact h.1.1

/-- A packet of a class that this device consumes on a port has its effect in the state that has taken it. -/
theorem onPort_receive {s : State} {p : Nat} {k : Packet} {c : Prop} [Decidable c] {f : State → State} (h : s.consumes p k = true)
    (hk : c) : onUnit p s.hoopLanes 8 s (fun s => if c then s.receive p k f else s) = .next (f (s.taken p k)) := by
  rw [onUnit_next (lt_of_consumes h) (hoopLanes_le s), if_pos hk, receive_taken h]

theorem hoop_flood (s : State) (origin : Option Nat) (k : Packet) : (s.flood origin k).hoop = s.hoop :=
  (keeps_State_flood (List.Subset.refl _) origin k (Keeps.refl _ s)).part .hoop rfl

theorem hoop_owe (s : State) (p : Nat) (k : Packet) : (s.owe p k).hoop = s.hoop :=
  (keeps_State_owe (List.Subset.refl _) p k (Keeps.refl _ s)).part .hoop rfl

/-- Taking a packet stores at most its identity. -/
theorem hoop_taken (s : State) (p : Nat) (k : Packet) : ∃ ds, (s.taken p k).hoop = { s.hoop with dups := ds } := by
  have hsame : ∃ ds, s.hoop = { s.hoop with dups := ds } := ⟨s.hoop.dups, rfl⟩
  unfold State.taken State.rxBroadcast
  dsimp only
  cases k.bcast with
  | false => simpa only [Bool.false_eq_true, if_false, hoop_owe] using hsame
  | true =>
    rw [if_pos rfl]
    split
    · rw [hoop_owe]; exact hsame
    split
    · exact ⟨_, by rw [hoop_owe]⟩
    dsimp only
    split
    · exact ⟨_, by rw [hoop_owe]⟩
    · exact ⟨_, by rw [hoop_flood, hoop_owe]⟩

theorem rra_taken (s : State) (p : Nat) (k : Packet) : (s.taken p k).hoop.rra = s.hoop.rra := by
  obtain ⟨ds, h⟩ := hoop_taken s p k
  rw [h]

theorem RegsBut.withHoop {l : List Nat} {s t : State} {x : Hoop} (h : RegsBut l s t) : RegsBut l s { t with hoop := x } :=
  fun a ha => h a ha

/-! ### Second copies and duplicates (R203, R204) -/

theorem exec_broadcastRepeat (s : State) : exec .broadcastRepeat s = .next
    ((s.hoop.repeats.filter fun r => decide (r.2 ≤ s.time.mt)).foldl (fun u r => u.flood none r.1)
      { s with hoop := { s.hoop with repeats := s.hoop.repeats.filter fun r => decide (s.time.mt < r.2) } }) := rfl

theorem exec_duplicateEntryExpiry (s : State) : exec .duplicateEntryExpiry s = .next
    { s with hoop := { s.hoop with dups := s.hoop.dups.filter fun d => decide (s.time.mt < d.at_ + ticksU 12500000) } } := rfl

/-! ### Events (R209, R219) -/

theorem exec_eventReceived {s : State} {p : Nat} {pk : Packet} (hc : s.consumes p pk = true) (hk : pk.cls = 0x10) :
    exec (.eventReceived p pk) s = .next ((s.taken p pk).takeEvent (leAt pk.payload 0 2) pk.src) :=
  (onPort_receive hc hk : execEventReceived p pk s = _)

theorem takeEvent_fabric {e : Nat} (h : e < 0xF000) (s : State) (src : Nat) : s.takeEvent e src = s.setEvent e := if_pos h

theorem events_setEvent (s : State) (e : Nat) : tabGet (fun _ => false) (s.setEvent e).grp.events e = true := by
  rw [State.setEvent, State.modGrp_grp, tabGet_tabSet_same]

/-! ### Routes (R202) -/

/-- A device is routed alike in two states whose route entries and port states agree. -/
theorem route_congr {s t : State} (hr : ∀ a, 0x200100 ≤ a → a ≤ 0x200200 → t.reg a = s.reg a)
    (hp : ∀ p, t.reg (R.HOOP_PT_STAT p) = s.reg (R.HOOP_PT_STAT p)) (dst : Nat) : t.route dst = s.route dst := by
  have hactive : t.active = s.active := funext fun p => by rw [State.active, fld_of_reg (hp p), State.active]
  have hentry (e : Nat) (he : e ∈ List.range 64) : t.reg (R.HOOP_ROUTE e) = s.reg (R.HOOP_ROUTE e) := by
    have := List.mem_range.mp he
    exact hr _ (by unfold R.HOOP_ROUTE; omega) (by unfold R.HOOP_ROUTE; omega)
  have hhits (e : Nat) (he : e ∈ List.range 64) : t.routeHits e dst = s.routeHits e dst := by
    unfold State.routeHits
    dsimp only
    rw [flag_of_reg (hentry e he), fld_of_reg (hentry e he), fld_of_reg (hentry e he)]
  have hdef : t.reg R.HOOP_ROUTE_DEF = s.reg R.HOOP_ROUTE_DEF := hr _ (by decide) (by decide)
  unfold State.route
  rw [List.find?_congr hhits, hactive]
  split
  · rename_i e hf
    have he := hentry e (List.mem_of_find?_eq_some hf)
    dsimp only
    rw [flag_of_reg he, fld_of_reg he, fld_of_reg he]
  · dsimp only
    rw [flag_of_reg hdef, fld_of_reg hdef]

/-- The packet that this device originates for another. -/
def State.unicastPacket (s : State) (cls dst tag : Nat) (payload : List Byte) : Packet :=
  ⟨cls, false, s.fld R.HOOP_CTL F.HOOP_CTL_HOPS, dst, s.devid, (s.nextSeq cls).1, tag, payload⟩

theorem unicast_of_route {s : State} {dst port : Nat} (h : s.route dst = some port) (cls tag : Nat) (payload : List Byte) :
    s.unicast cls dst tag payload = (true, (s.nextSeq cls).2.enqueue port false (s.unicastPacket cls dst tag payload)) := by
  rw [State.unicast, h]
  rfl

theorem unicast_of_no_route {s : State} {dst : Nat} (h : s.route dst = none) (cls tag : Nat) (payload : List Byte) :
    s.unicast cls dst tag payload = (false, s.noRoute) := by
  rw [State.unicast, h]

/-- The packet does not depend on registers beside the hop count and the device's ID, nor on the Hoop unit beside its SEQ counters. -/
theorem unicastPacket_congr {s t : State} (hc : t.reg R.HOOP_CTL = s.reg R.HOOP_CTL) (hi : t.reg R.HOOP_ID = s.reg R.HOOP_ID)
    (hs : t.hoop.seq = s.hoop.seq) (cls dst tag : Nat) (payload : List Byte) :
    t.unicastPacket cls dst tag payload = s.unicastPacket cls dst tag payload := by
  simp only [State.unicastPacket, State.devid, State.fld, State.nextSeq, hc, hi, hs]

/-! ### Remote access (R211) -/

/-- The end of a remote access: its code, and the flag. -/
theorem rraEnd_effect (s : State) {code : Nat} (h : code < 8) :
    (s.rraEnd code).hoop.rra = none ∧ (s.rraEnd code).flag R.HOOP_RRA_CMD F.HOOP_RRA_CMD_BUSY = false ∧
    (s.rraEnd code).fld R.HOOP_RRA_CMD F.HOOP_RRA_CMD_CODE = code ∧ (s.rraEnd code).flag R.HOOP_ISR F.HOOP_ISR_RRA = true ∧
    RegsBut [R.HOOP_RRA_CMD, R.HOOP_ISR] s (s.rraEnd code) := by
  have hraise (u : State) (f : Field) : (u.raise R.HOOP_ISR F.HOOP_ISR_RRA).fld R.HOOP_RRA_CMD f = u.fld R.HOOP_RRA_CMD f :=
    (State.regsBut_raise u _ _).fld (by decide) f
  unfold State.rraEnd
  dsimp only
  refine ⟨by rw [State.raise_hoop]; rfl, ?_, ?_, State.flag_raise_same _ _ _ (by decide) (by decide), ?_⟩
  · rw [State.flag, hraise, State.fld_setFld_field _ _ _ _ _ (by decide) (by decide)]
    exact State.flag_setFlag_same _ R.HOOP_RRA_CMD F.HOOP_RRA_CMD_BUSY false (by decide) (by decide)
  · rw [hraise, State.fld_setFld_same _ _ _ _ (by decide)]
    exact Nat.mod_eq_of_lt h
  · have hrra : RegsBut [R.HOOP_RRA_CMD, R.HOOP_ISR] s { s with hoop := { s.hoop with rra := none } } := fun _ _ => rfl
    exact ((hrra.setFlag (by decide)).setFld (by decide)).raise (by decide)

/-- The command word of a remote access taken. -/
def State.rraCmd (s : State) (v : Word) : State :=
  (s.setFld R.HOOP_RRA_CMD F.HOOP_RRA_CMD_DEVID (field F.HOOP_RRA_CMD_DEVID v)).setFlag R.HOOP_RRA_CMD F.HOOP_RRA_CMD_WRITE
    (decide (field F.HOOP_RRA_CMD_WRITE v = 1))

/-- The command word of a remote access taken, and its tag drawn. -/
def State.rraAsk (s : State) (v : Word) : State :=
  { s.rraCmd v with hoop := { (s.rraCmd v).hoop with tag := ((s.rraCmd v).hoop.tag + 1) % 65536 } }

/-- The payload of an RREQ packet: offset and direction, data of a write. -/
def State.rraPayload (s : State) (wr : Bool) : List Byte :=
  leBytes (s.fld R.HOOP_RRA_ADDR F.HOOP_RRA_ADDR_OFFSET + if wr then 2 ^ 31 else 0) 4 ++
    leBytes (if wr then (s.reg R.HOOP_RRA_DATA).toNat else 0) 4

/-- The RREQ packet of a command word. -/
def State.rreqPacket (s : State) (v : Word) : Packet :=
  s.unicastPacket 0x20 (field F.HOOP_RRA_CMD_DEVID v) ((s.hoop.tag + 1) % 65536) (s.rraPayload (decide (field F.HOOP_RRA_CMD_WRITE v = 1)))

/-- The request queued at a port, and outstanding. -/
def State.rraSent (s : State) (v : Word) (port : Nat) : State :=
  let u := ((s.rraAsk v).nextSeq 0x20).2.enqueue port false (s.rreqPacket v)
  State.setFlag { u with hoop := { u.hoop with rra := some ((s.hoop.tag + 1) % 65536, field F.HOOP_RRA_CMD_DEVID v,
    decide (field F.HOOP_RRA_CMD_WRITE v = 1), u.time.mt) } } R.HOOP_RRA_CMD F.HOOP_RRA_CMD_BUSY true

section
variable (s : State) (v : Word)

theorem hoop_rraCmd : (s.rraCmd v).hoop = s.hoop := by
  rw [State.rraCmd, State.setFlag_hoop, State.setFld_hoop]

theorem regsBut_rraAsk : RegsBut [R.HOOP_RRA_CMD] s (s.rraAsk v) :=
  (((RegsBut.refl [R.HOOP_RRA_CMD] s).setFld (by decide)).setFlag (by decide)).withHoop

theorem port_rraAsk : (s.rraAsk v).port = s.port := by
  unfold State.rraAsk State.rraCmd
  rw [State.setFlag_port, State.setFld_port]

theorem nextSeq_time (cls : Nat) : (s.nextSeq cls).2.time = s.time := rfl

theorem tag_nextSeq (cls : Nat) : (s.nextSeq cls).2.hoop.tag = s.hoop.tag := rfl

theorem time_rraAsk : (s.rraAsk v).time = s.time := by
  unfold State.rraAsk State.rraCmd
  rw [State.setFlag_time, State.setFld_time]

theorem route_rraAsk (dst : Nat) : (s.rraAsk v).route dst = s.route dst :=
  route_congr (fun a hl _ => regsBut_rraAsk s v a (by simp only [List.mem_singleton, R.HOOP_RRA_CMD]; omega))
    (fun p => regsBut_rraAsk s v _ (by simp only [List.mem_singleton, R.HOOP_RRA_CMD, R.HOOP_PT_STAT]; omega)) dst

theorem unicastPacket_rraAsk (wr : Bool) (cls dst tag : Nat) :
    (s.rraAsk v).unicastPacket cls dst tag ((s.rraAsk v).rraPayload wr) = s.unicastPacket cls dst tag (s.rraPayload wr) := by
  have hreg (a : Nat) (ha : a ∉ [R.HOOP_RRA_CMD]) : (s.rraAsk v).reg a = s.reg a := regsBut_rraAsk s v a ha
  have hpay : (s.rraAsk v).rraPayload wr = s.rraPayload wr := by
    simp only [State.rraPayload, State.fld, hreg R.HOOP_RRA_ADDR (by decide), hreg R.HOOP_RRA_DATA (by decide)]
  rw [hpay]
  exact unicastPacket_congr (hreg _ (by decide)) (hreg _ (by decide)) rfl _ _ _ _

variable {s v}

/-- An access that starts asks for a packet, and is outstanding where one is sent. -/
theorem exec_remoteAccessGo {sent : Bool} {u : State} (hg : field F.HOOP_RRA_CMD_GO v = 1)
    (hb : s.flag R.HOOP_RRA_CMD F.HOOP_RRA_CMD_BUSY = false)
    (hu : (s.rraAsk v).unicast 0x20 (field F.HOOP_RRA_CMD_DEVID v) ((s.hoop.tag + 1) % 65536)
      ((s.rraAsk v).rraPayload (decide (field F.HOOP_RRA_CMD_WRITE v = 1))) = (sent, u)) :
    exec (.remoteAccessGo v) s = .next
      (if sent then State.setFlag { u with hoop := { u.hoop with rra := some ((s.hoop.tag + 1) % 65536, field F.HOOP_RRA_CMD_DEVID v,
         decide (field F.HOOP_RRA_CMD_WRITE v = 1), u.time.mt) } } R.HOOP_RRA_CMD F.HOOP_RRA_CMD_BUSY true
       else u.rraEnd 3) := by
  have hx : exec (.remoteAccessGo v) s = execRemoteAccessGo v s := rfl
  rw [← hoop_rraCmd s v] at hu ⊢
  unfold State.rraAsk State.rraPayload State.rraCmd at hu
  rw [hx, execRemoteAccessGo]
  simp only [hg, hb, decide_true, Bool.and_false, Bool.not_true, Bool.false_eq_true, if_false]
  dsimp only at hu
  rw [hu]
  rfl

theorem exec_remoteAccessGo_sent {port : Nat} (hg : field F.HOOP_RRA_CMD_GO v = 1)
    (hb : s.flag R.HOOP_RRA_CMD F.HOOP_RRA_CMD_BUSY = false) (hr : s.route (field F.HOOP_RRA_CMD_DEVID v) = some port) :
    exec (.remoteAccessGo v) s = .next (s.rraSent v port) := by
  have hu := unicast_of_route ((route_rraAsk s v _).trans hr) 0x20 ((s.hoop.tag + 1) % 65536)
    ((s.rraAsk v).rraPayload (decide (field F.HOOP_RRA_CMD_WRITE v = 1)))
  rw [unicastPacket_rraAsk] at hu
  rw [exec_remoteAccessGo hg hb hu, if_pos rfl, State.rraSent, State.rreqPacket]

theorem exec_remoteAccessGo_no_route (hg : field F.HOOP_RRA_CMD_GO v = 1)
    (hb : s.flag R.HOOP_RRA_CMD F.HOOP_RRA_CMD_BUSY = false) (hr : s.route (field F.HOOP_RRA_CMD_DEVID v) = none) :
    exec (.remoteAccessGo v) s = .next ((s.rraAsk v).noRoute.rraEnd 3) := by
  rw [exec_remoteAccessGo hg hb (unicast_of_no_route ((route_rraAsk s v _).trans hr) _ _ _), if_neg Bool.false_ne_true]

theorem only_remoteAccessGo {t : State} (h : exec (.remoteAccessGo v) s = .next t) : Only [.regs, .hoop, .port, .pci, .out] s t :=
  ((keeps_execRemoteAccessGo (List.Subset.refl _) v (Keeps.refl _ s)).next t h).only

end

/-- An RREQ packet waits in the local queue of its port, and the access is outstanding. -/
theorem rraSent_effect (s : State) (v : Word) (port : Nat) :
    (s.rraSent v port).flag R.HOOP_RRA_CMD F.HOOP_RRA_CMD_BUSY = true ∧
    (s.rraSent v port).hoop.rra = some ((s.hoop.tag + 1) % 65536, field F.HOOP_RRA_CMD_DEVID v,
      decide (field F.HOOP_RRA_CMD_WRITE v = 1), s.time.mt) ∧
    (s.rraSent v port).hoop.tag = (s.hoop.tag + 1) % 65536 ∧
    ((s.rraSent v port).pt port).loc = (s.pt port).loc ++ [s.rreqPacket v] ∧
    UnitsBut State.pt port s (s.rraSent v port) ∧ RegsBut [R.HOOP_RRA_CMD] s (s.rraSent v port) := by
  have hport : (s.rraSent v port).port = (((s.rraAsk v).nextSeq 0x20).2.enqueue port false (s.rreqPacket v)).port := by
    unfold State.rraSent
    rw [State.setFlag_port]
  have hask : ((s.rraAsk v).nextSeq 0x20).2.port = s.port := by rw [nextSeq_port, port_rraAsk]
  refine ⟨?_, ?_, ?_, ?_, ?_, ?_⟩
  · unfold State.rraSent
    exact State.flag_setFlag_same _ _ _ true (by decide) (by decide)
  · unfold State.rraSent
    dsimp only
    rw [State.setFlag_hoop, State.enqueue, State.modPt_time, nextSeq_time, time_rraAsk]
  · unfold State.rraSent
    dsimp only
    rw [State.setFlag_hoop, State.enqueue, State.modPt_hoop, tag_nextSeq, State.rraAsk, hoop_rraCmd]
  · rw [pt_of_port hport, pt_enqueue_loc _ _ (Nat.le_refl 0x20 : 0x20 ≤ (s.rreqPacket v).cls), pt_of_port hask]
  · exact (((UnitsBut.refl State.pt port s).of_port hask).trans (unitsBut_enqueue _ port false (s.rreqPacket v))).of_port hport
  · have hseq : RegsBut [R.HOOP_RRA_CMD] s ((s.rraAsk v).nextSeq 0x20).2 := (regsBut_rraAsk s v).of_regs (nextSeq_regs _ _)
    have hqueued : RegsBut [R.HOOP_RRA_CMD] s (((s.rraAsk v).nextSeq 0x20).2.enqueue port false (s.rreqPacket v)) :=
      fun a ha => (reg_enqueue _ port false _ a).trans (hseq a ha)
    exact hqueued.withHoop.setFlag (by decide)

theorem exec_rrspReceived {s : State} {p : Nat} {pk : Packet} {wr : Bool} {at_ : Nat} (hc : s.consumes p pk = true) (hk : pk.cls = 0x21)
    (hr : s.hoop.rra = some (pk.tag, pk.src, wr, at_)) : exec (.rrspReceived p pk) s = .next
      ((if wr = false ∧ leAt pk.payload 0 4 % 8 = 0 then
          (s.taken p pk).setReg R.HOOP_RRA_DATA (BitVec.ofNat 32 (leAt pk.payload 4 4))
        else s.taken p pk).rraEnd (leAt pk.payload 0 4 % 8)) := by
  have hx : exec (.rrspReceived p pk) s = execRrspReceived p pk s := rfl
  rw [hx, execRrspReceived, onPort_receive hc hk]
  simp only [rra_taken, hr, and_self, if_true]
  cases wr <;> simp

theorem only_rrspReceived {s t : State} {p : Nat} {pk : Packet} (h : exec (.rrspReceived p pk) s = .next t) :
    Only [.regs, .hoop, .port, .pci, .out] s t :=
  ((keeps_execRrspReceived (List.Subset.refl _) p pk (Keeps.refl _ s)).next t h).only

theorem exec_remoteAccessTimeout {s : State} {tag dst at_ : Nat} {wr : Bool} (hr : s.hoop.rra = some (tag, dst, wr, at_))
    (ht : at_ + ticksU 125000 ≤ s.time.mt) : exec .remoteAccessTimeout s = .next (s.rraEnd 2) := by
  have hx : exec .remoteAccessTimeout s = execRemoteAccessTimeout s := rfl
  rw [hx, execRemoteAccessTimeout, hr]
  exact congrArg _ (if_pos ht)

/-! ### The statement -/

/-- Settles O29: a second copy is flooded, which the Hoop unit does not see; a request is `State.rraSent` where its device is routed,
and every end of one is `State.rraEnd`. -/
theorem hoopEventsAndRemoteAccess : Obligations.HoopEventsAndRemoteAccess := by
  refine ⟨?_, ?_, ?_, ?_, ?_, ?_, ?_, ?_, ?_, ?_, ?_, ?_⟩
  · intro s
    exact ⟨_, exec_broadcastRepeat s,
      ((keeps_execBroadcastRepeat (List.Subset.refl _) (Keeps.refl _ s)).next _ (exec_broadcastRepeat s)).only,
      foldl_unchanged State.hoop (fun r _ u => hoop_flood u none r.1) _⟩
  · intro s
    exact ⟨_, exec_duplicateEntryExpiry s,
      ((keeps_execDuplicateEntryExpiry (List.Subset.refl _) (Keeps.refl _ s)).next _ (exec_duplicateEntryExpiry s)).only, rfl⟩
  · intro s p pk hc _ hk he
    have e := exec_eventReceived hc hk
    rw [takeEvent_fabric he] at e
    exact ⟨_, e, ((keeps_execEventReceived (List.Subset.refl _) p pk (Keeps.refl _ s)).next _ e).only, events_setEvent _ _,
      fun a _ => reg_taken s p pk a⟩
  · intro s v port hg hw hb hr _
    have e := exec_remoteAccessGo_sent hg hb hr
    obtain ⟨hbusy, hrra, -, hloc, hother, hregs⟩ := rraSent_effect s v port
    rw [hw] at hrra
    rw [State.rreqPacket, hw] at hloc
    exact ⟨_, e, only_remoteAccessGo e, hbusy, hrra, hloc, hother, hregs⟩
  · intro s v hg hb hr
    have e := exec_remoteAccessGo_no_route hg hb hr
    obtain ⟨hrra, hbusy, hcode, hflag, -⟩ := rraEnd_effect (s.rraAsk v).noRoute (code := 3) (by decide)
    exact ⟨_, e, only_remoteAccessGo e, hbusy, hcode, hflag, hrra⟩
  · intro s p pk at_ hc _ hk hr h0
    have e := exec_rrspReceived hc hk hr
    rw [if_pos ⟨rfl, h0⟩, h0] at e
    obtain ⟨hrra, hbusy, hcode, hflag, hregs⟩ := rraEnd_effect
      ((s.taken p pk).setReg R.HOOP_RRA_DATA (BitVec.ofNat 32 (leAt pk.payload 4 4))) (code := 0) (by decide)
    have htaken : RegsBut [R.HOOP_RRA_CMD, R.HOOP_RRA_DATA, R.HOOP_ISR] s (s.taken p pk) := fun a _ => reg_taken s p pk a
    refine ⟨_, e, only_rrspReceived e, hrra, ?_, hbusy, hcode, hflag, (htaken.setReg (by decide)).trans (hregs.mono (by decide))⟩
    rw [hregs _ (by decide), State.reg_setReg_same]
  · intro s tag dst at_ wr hr ht
    have e := exec_remoteAccessTimeout hr ht
    obtain ⟨hrra, hbusy, hcode, -, hregs⟩ := rraEnd_effect s (code := 2) (by decide)
    exact ⟨_, e, ((keeps_execRemoteAccessTimeout (List.Subset.refl _) (Keeps.refl _ s)).next _ e).only, hrra, hbusy, hcode, hregs⟩
  · intro s
    exact next_of_keeps (keeps_execBroadcastRepeat (List.Subset.refl _) (Keeps.refl _ s)) (exec_broadcastRepeat s)
  · intro s port pk hc hk
    exact next_of_keeps (keeps_execEventReceived (List.Subset.refl _) port pk (Keeps.refl _ s)) (exec_eventReceived hc hk)
  · intro s v port hg hb hr _
    have e := exec_remoteAccessGo_sent hg hb hr
    obtain ⟨hbusy, hrra, htag, hloc, hother, hregs⟩ := rraSent_effect s v port
    exact ⟨_, e, only_remoteAccessGo e, hbusy, hrra, htag, by rw [hloc, List.length_append]; rfl, hother, hregs⟩
  · intro s port pk wr at_ hc hk hr
    exact next_of_keeps (keeps_execRrspReceived (List.Subset.refl _) port pk (Keeps.refl _ s)) (exec_rrspReceived hc hk hr)
  · intro s tag dst at_ wr hr ht
    exact next_of_keeps (keeps_execRemoteAccessTimeout (List.Subset.refl _) (Keeps.refl _ s)) (exec_remoteAccessTimeout hr ht)

end Sys2Proof.Machine

/-! # Hoop bulk data (O30) -/

namespace Sys2Proof.Machine

-- As above: the proofs of this part are elaborated one after another, which keeps the check within its memory.
set_option deprecated.oldSectionVars true

/-! ### Device DRAM under a write (R380, R385) -/

/-- Exactly the named lines lose their marks. -/
theorem tabGet_soundLines (m : Tab Bool) (line n k : Nat) : tabGet (fun _ => false) (soundLines m line n) k =
    if line ≤ k ∧ k < line + n then false else tabGet (fun _ => false) m k := by
  unfold soundLines
  induction n with
  | zero => rw [if_neg (by omega)]; rfl
  | succ n ih =>
    rw [List.range_succ, List.foldl_append, List.foldl_cons, List.foldl_nil, tabGet_tabSet, ih]
    by_cases hk : k = line + n
    · rw [if_pos hk, if_pos (by omega)]
    · rw [if_neg hk]
      by_cases h : line ≤ k ∧ k < line + n
      · rw [if_pos h, if_pos (by omega)]
      · rw [if_neg h, if_neg (by omega)]

section
variable (bad : Tab Bool)

theorem tabGet_storeSound_ne {a : Nat} (bs : List Byte) {off : Nat} (m : Tab Byte) (h : a < off ∨ off + bs.length ≤ a) :
    tabGet (fun _ => 0) (storeSound bad m off bs) a = tabGet (fun _ => 0) m a := by
  induction bs generalizing off m with
  | nil => rfl
  | cons b bs ih =>
    rw [List.length_cons] at h
    rw [storeSound, ih _ (by omega)]
    split
    · rfl
    · rw [tabGet_tabSet, if_neg (by omega)]

/-- A byte of a sound line is stored. -/
theorem tabGet_storeSound (bs : List Byte) {off : Nat} (m : Tab Byte)
    (hs : ∀ i < bs.length, tabGet (fun _ => false) bad ((off + i) / 64) = false) {i : Nat} (hi : i < bs.length) :
    tabGet (fun _ => 0) (storeSound bad m off bs) (off + i) = bs[i] := by
  induction bs generalizing off m i with
  | nil => exact absurd hi (Nat.not_lt_zero i)
  | cons b bs ih =>
    rw [List.length_cons] at hs hi
    have hhead := hs 0 (by omega)
    rw [Nat.add_zero] at hhead
    rw [storeSound, hhead, if_neg Bool.false_ne_true]
    cases i with
    | zero => rw [tabGet_storeSound_ne bad bs _ (by omega), Nat.add_zero, tabGet_tabSet_same]; rfl
    | succ i =>
      have htail : ∀ j < bs.length, tabGet (fun _ => false) bad ((off + 1 + j) / 64) = false := fun j hj => by
        rw [Nat.add_assoc, Nat.add_comm 1 j]
        exact hs (j + 1) (by omega)
      rw [List.getElem_cons_succ, ← ih _ htail (Nat.lt_of_succ_lt_succ hi), Nat.add_assoc, Nat.add_comm 1 i]

end

section
variable {s t : State}

theorem dramByte_of_dram (h : t.dram = s.dram) (a : Nat) : t.dramByte a = s.dramByte a := by unfold State.dramByte; rw [h]

theorem readDram_of_dram (h : t.dram = s.dram) (off n : Nat) : t.readDram off n = s.readDram off n := by
  unfold State.readDram
  simp only [dramByte_of_dram h]

theorem rangePoisoned_of_ddr (h : t.ddr = s.ddr) (off n : Nat) : t.rangePoisoned off n = s.rangePoisoned off n := by
  unfold State.rangePoisoned
  rw [h]

/-- What DRAM takes is said by the variant and two registers. -/
theorem dramOk_congr (hv : t.variant = s.variant) (hcfg : t.reg R.DDR_CFG = s.reg R.DDR_CFG) (hstat : t.reg R.DDR_STAT = s.reg R.DDR_STAT)
    (off n : Nat) : t.dramOk off n = s.dramOk off n := by
  have hup : t.dramUp = s.dramUp := by rw [State.dramUp, State.dramUp, flag_of_reg hstat, flag_of_reg hstat]
  have hch : t.ddrChannels = s.ddrChannels := by rw [State.ddrChannels, State.ddrChannels, hv]
  have hgib : t.dramGiB = s.dramGiB := by
    unfold State.dramGiB
    rw [hch, flag_of_reg hcfg, fld_of_reg hcfg]
  rw [State.dramOk, State.dramOk, hup, hgib]

theorem sameDramBut_writeDram (s : State) (off : Nat) (bs : List Byte) : SameDramBut off bs.length s (s.writeDram off bs) := by
  intro a ha
  unfold State.writeDram
  split
  · exact tabGet_storeSound_ne _ bs s.dram ha
  · rfl

/-- Whole lines written in the populated DRAM read back. -/
theorem readDram_writeDram {line n : Nat} {bs : List Byte} (hn : bs.length = 64 * n) (hok : s.dramOk (line * 64) (64 * n) = true) :
    (s.writeDram (line * 64) bs).readDram (line * 64) (64 * n) = bs := by
  have hfirst : (line * 64 + 63) / 64 = line := by omega
  have hlines : (line * 64 + 64 * n) / 64 - line = n := by omega
  have hsound : ∀ i < bs.length, tabGet (fun _ => false) (soundLines s.ddr.poisoned line n) ((line * 64 + i) / 64) = false := fun i hi => by
    rw [tabGet_soundLines, if_pos (by omega)]
  rw [State.writeDram, hn, if_pos hok, hfirst]
  dsimp only
  rw [hlines]
  refine List.ext_getElem (by rw [State.readDram, List.length_map, List.length_range, hn]) fun i _ hi => ?_
  simp only [State.readDram, List.getElem_map, List.getElem_range]
  exact tabGet_storeSound _ bs s.dram hsound hi

end

/-! ### The state of a bulk transfer (R212) -/

section
variable {s : State} {c : Nat}

/-- The end of a transfer: its code, and the flag. -/
theorem bulkEnd_effect (s : State) (c : Nat) {code : Nat} (h : code < 8) :
    ((s.bulkEnd c code).bk c).active = false ∧ (s.bulkEnd c code).flag (R.HOOP_BK_CTL c) F.HOOP_BK_CTL_BUSY = false ∧
    (s.bulkEnd c code).fld (R.HOOP_BK_CTL c) F.HOOP_BK_CTL_CODE = code ∧
    (s.bulkEnd c code).flag R.HOOP_ISR F.HOOP_ISR_BULK = true ∧ RegsBut [R.HOOP_BK_CTL c, R.HOOP_ISR] s (s.bulkEnd c code) := by
  have hraise (u : State) (f : Field) : (u.raise R.HOOP_ISR F.HOOP_ISR_BULK).fld (R.HOOP_BK_CTL c) f = u.fld (R.HOOP_BK_CTL c) f :=
    (State.regsBut_raise u _ _).fld (by simp only [List.mem_singleton, R.HOOP_BK_CTL, R.HOOP_ISR]; omega) f
  have hmod : RegsBut [R.HOOP_BK_CTL c, R.HOOP_ISR] s (s.modBk c fun _ => ⟨false, 0⟩) := fun a _ => State.modBk_reg s c _ a
  have hbulk : (s.bulkEnd c code).bulk = (s.modBk c fun _ => ⟨false, 0⟩).bulk := by
    unfold State.bulkEnd
    dsimp only
    rw [State.raise_bulk, State.setFld_bulk, State.setFlag_bulk]
  refine ⟨?_, ?_, ?_, ?_, ?_⟩
  · rw [State.bk, hbulk, ← State.bk, State.bk_modBk_same]
  all_goals unfold State.bulkEnd; dsimp only
  · rw [State.flag, hraise, State.fld_setFld_field _ _ _ _ _ (by decide) (by decide)]
    exact State.flag_setFlag_same _ (R.HOOP_BK_CTL c) F.HOOP_BK_CTL_BUSY false (by decide) (by decide)
  · rw [hraise, State.fld_setFld_same _ _ _ _ (by decide)]
    exact Nat.mod_eq_of_lt h
  · exact State.flag_raise_same _ _ _ (by decide) (by decide)
  · exact ((hmod.setFlag (by simp)).setFld (by simp)).raise (by simp)

/-- A transfer that has started, its first packet not yet sent. -/
def State.bulkStarted (s : State) (c : Nat) : State :=
  (s.setFlag (R.HOOP_BK_CTL c) F.HOOP_BK_CTL_BUSY true).modBk c fun _ => ⟨true, s.time.mt⟩

theorem regsBut_bulkStarted (s : State) (c : Nat) : RegsBut [R.HOOP_BK_CTL c] s (s.bulkStarted c) :=
  fun a ha => (State.modBk_reg _ c _ a).trans (((RegsBut.refl [R.HOOP_BK_CTL c] s).setFlag (by simp)) a ha)

theorem reg_bulkStarted {a : Nat} (h : a ≠ R.HOOP_BK_CTL c) : (s.bulkStarted c).reg a = s.reg a :=
  regsBut_bulkStarted s c a (by simpa using h)

theorem only_bulkStarted (s : State) (c : Nat) : Only [.regs, .bulk] s (s.bulkStarted c) :=
  (keeps_State_modBk (by decide) c _ (keeps_State_setFlag (by decide) _ _ _ (Keeps.refl _ s))).only

theorem exec_bulkGo (hc : c < 4) (hb : s.flag (R.HOOP_BK_CTL c) F.HOOP_BK_CTL_BUSY = false)
    (hn : s.fld (R.HOOP_BK_LEN c) F.HOOP_BK_LEN_LINES ≠ 0) : exec (.bulkGo c) s = .next
      ((s.bulkStarted c).bulkSend c (s.reg (R.HOOP_BK_LOC c)).toNat (s.reg (R.HOOP_BK_REM c)).toNat
        (s.fld (R.HOOP_BK_LEN c) F.HOOP_BK_LEN_DEVID) 0 (s.fld (R.HOOP_BK_LEN c) F.HOOP_BK_LEN_LINES)
        (ceilDiv (s.fld (R.HOOP_BK_LEN c) F.HOOP_BK_LEN_LINES) 4)) := by
  have hx : exec (.bulkGo c) s = execBulkGo c s := rfl
  have hloc : (s.bulkStarted c).reg (R.HOOP_BK_LOC c) = s.reg (R.HOOP_BK_LOC c) :=
    reg_bulkStarted (by unfold R.HOOP_BK_LOC R.HOOP_BK_CTL; omega)
  have hrem : (s.bulkStarted c).reg (R.HOOP_BK_REM c) = s.reg (R.HOOP_BK_REM c) :=
    reg_bulkStarted (by unfold R.HOOP_BK_REM R.HOOP_BK_CTL; omega)
  have hlen : (s.bulkStarted c).reg (R.HOOP_BK_LEN c) = s.reg (R.HOOP_BK_LEN c) :=
    reg_bulkStarted (by unfold R.HOOP_BK_LEN R.HOOP_BK_CTL; omega)
  rw [hx, execBulkGo, onUnit_next hc (Nat.le_refl 4), hb, if_neg Bool.false_ne_true]
  dsimp only
  rw [if_neg hn, ← State.bulkStarted, hloc, hrem, State.fld, hlen, ← State.fld]

theorem exec_bulkGo_empty (hc : c < 4) (hb : s.flag (R.HOOP_BK_CTL c) F.HOOP_BK_CTL_BUSY = false)
    (hn : s.fld (R.HOOP_BK_LEN c) F.HOOP_BK_LEN_LINES = 0) : exec (.bulkGo c) s = .next (s.bulkEnd c 0) := by
  have hx : exec (.bulkGo c) s = execBulkGo c s := rfl
  rw [hx, execBulkGo, onUnit_next hc (Nat.le_refl 4), hb, if_neg Bool.false_ne_true]
  exact congrArg _ (if_pos hn)

theorem only_bulkGo {t : State} (h : exec (.bulkGo c) s = .next t) : Only [.regs, .hoop, .port, .bulk, .pci, .out] s t :=
  ((keeps_execBulkGo (List.Subset.refl _) c (Keeps.refl _ s)).next t h).only

/-- A transfer of at most four readable lines, to a device that is routed, is one packet. -/
theorem bulkSend_one {u t : State} {loc rem dst n : Nat} (hn : n ≤ 4) (hok : u.dramOk (loc * 64) (64 * n) = true)
    (hsound : u.rangePoisoned (loc * 64) (64 * n) = false)
    (hsend : u.unicast 0x30 dst 0 (bulkPrefix rem 0 (c + 4) ++ u.readDram (loc * 64) (64 * n)) = (true, t)) :
    u.bulkSend c loc rem dst 0 n 1 = t := by
  rw [State.bulkSend]
  simp only [Nat.min_eq_right hn, Nat.mul_zero, Nat.add_zero, if_pos hn, hok, hsound, hsend, Bool.not_true, Bool.or_self,
    Bool.false_eq_true, if_false, if_true]
  rw [State.bulkSend]

end

/-! ### Data at the target, and its answer (R212) -/

section
variable {s : State} {p : Nat} {pk : Packet}

theorem exec_bulkReceived (hc : s.consumes p pk = true) (hk : pk.cls = 0x30) (ha : bitAt (leAt pk.payload 7 1) 3 = false) :
    exec (.bulkReceived p pk) s = .next ((s.taken p pk).bulkTake pk) := by
  have hx : exec (.bulkReceived p pk) s = execBulkReceived p pk s := rfl
  rw [hx, execBulkReceived]
  exact onPort_receive hc ⟨hk, by rw [ha]; rfl⟩

theorem exec_bulkAckReceived (hc : s.consumes p pk = true) (hk : pk.cls = 0x30) (ha : bitAt (leAt pk.payload 7 1) 3 = true)
    (hact : (s.bk (leAt pk.payload 7 1 % 4)).active = true)
    (hsrc : s.fld (R.HOOP_BK_LEN (leAt pk.payload 7 1 % 4)) F.HOOP_BK_LEN_DEVID = pk.src) :
    exec (.bulkAckReceived p pk) s = .next ((s.taken p pk).bulkEnd (leAt pk.payload 7 1 % 4) (leAt pk.payload 7 1 / 16 % 4)) := by
  have hx : exec (.bulkAckReceived p pk) s = execBulkAckReceived p pk s := rfl
  have hbk (n : Nat) : (s.taken p pk).bk n = s.bk n := by rw [State.bk, only_taken s p pk .bulk (by decide), ← State.bk]
  rw [hx, execBulkAckReceived]
  refine (onPort_receive hc ⟨hk, ha⟩).trans (congrArg _ ?_)
  dsimp only
  rw [hbk, hact, fld_taken, hsrc]
  exact if_pos (by simp)

theorem only_bulkAckReceived {t : State} (h : exec (.bulkAckReceived p pk) s = .next t) :
    Only [.regs, .hoop, .port, .bulk, .pci, .out] s t :=
  ((keeps_execBulkAckReceived (List.Subset.refl _) p pk (Keeps.refl _ s)).next t h).only

theorem exec_bulkTimeout {c : Nat} (hc : c < 4) (ha : (s.bk c).active = true) (hq : s.bulkQueued c = false)
    (ht : (s.bk c).lastAt + ticksU 1250000 ≤ s.time.mt) : exec (.bulkTimeout c) s = .next (s.bulkEnd c 3) := by
  have hx : exec (.bulkTimeout c) s = execBulkTimeout c s := rfl
  rw [hx, execBulkTimeout, onUnit_next hc (Nat.le_refl 4), ha, hq]
  exact congrArg _ (if_pos (by simpa using ht))

theorem bulkNext_bulkExpect (s : State) (src c next : Nat) : (s.bulkExpect src c next).bulkNext src c = next := by
  rw [State.bulkNext, State.bulkExpect, List.find?_cons_of_pos (by simp)]

/-- The first packet of a transfer, not the last one, is written where its lines lie in the window. -/
theorem bulkTake_first (h0 : leAt pk.payload 4 3 = 0) (hlast : bitAt (leAt pk.payload 7 1) 2 = false)
    (hlo : (s.reg R.HOOP_BULK_WIN_BASE).toNat ≤ leAt pk.payload 0 4)
    (hhi : leAt pk.payload 0 4 + (pk.payload.length - 8) / 64 ≤
      (s.reg R.HOOP_BULK_WIN_BASE).toNat + (s.reg R.HOOP_BULK_WIN_SIZE).toNat)
    (hsize : (s.reg R.HOOP_BULK_WIN_SIZE).toNat ≠ 0) : s.bulkTake pk =
      (s.writeDram (leAt pk.payload 0 4 * 64) ((pk.payload.drop 8).take (64 * ((pk.payload.length - 8) / 64)))).bulkExpect pk.src
        (leAt pk.payload 7 1 % 4) 1 := by
  unfold State.bulkTake
  dsimp only
  rw [h0, hlast, if_pos rfl, if_neg (by decide), if_neg (not_not_intro rfl), if_neg (by omega)]
  rfl

end

/-! ### The statement -/

/-- Settles O30: a started transfer of at most four lines is one `unicast`, an end of a transfer is `State.bulkEnd`, and the first data
packet at the target writes whole lines, which read back. -/
theorem hoopBulkData : Obligations.HoopBulkData := by
  refine ⟨?_, ?_, ?_, ?_, ?_, ?_, ?_, ?_, ?_⟩
  · intro s c port n hc hb hn hpos h4 hok hsound hroute
    have e := exec_bulkGo hc hb (by omega)
    have hother : Only [.regs, .bulk] s (s.bulkStarted c) := only_bulkStarted s c
    have hreg (a : Nat) (ha : a ≠ R.HOOP_BK_CTL c) : (s.bulkStarted c).reg a = s.reg a := reg_bulkStarted ha
    have hroute' : (s.bulkStarted c).route (s.fld (R.HOOP_BK_LEN c) F.HOOP_BK_LEN_DEVID) = some port :=
      (route_congr (fun a _ hhi => hreg a (by unfold R.HOOP_BK_CTL; omega))
        (fun p => hreg _ (by unfold R.HOOP_PT_STAT R.HOOP_BK_CTL; omega)) _).trans hroute
    have hread := readDram_of_dram (hother .dram (by decide)) ((s.reg (R.HOOP_BK_LOC c)).toNat * 64) (64 * n)
    have hsend := unicast_of_route hroute' 0x30 0 (bulkPrefix (s.reg (R.HOOP_BK_REM c)).toNat 0 (c + 4) ++
      (s.bulkStarted c).readDram ((s.reg (R.HOOP_BK_LOC c)).toNat * 64) (64 * n))
    have hceil : ceilDiv n 4 = 1 := by unfold ceilDiv; rw [if_neg (by decide)]; omega
    rw [hn, hceil, bulkSend_one h4
      ((dramOk_congr (hother .variant (by decide)) (hreg _ (by unfold R.DDR_CFG R.HOOP_BK_CTL; omega))
        (hreg _ (by unfold R.DDR_STAT R.HOOP_BK_CTL; omega)) _ _).trans hok)
      ((rangePoisoned_of_ddr (hother .ddr (by decide)) _ _).trans hsound) hsend] at e
    have hpacket := unicastPacket_congr (hreg R.HOOP_CTL (by unfold R.HOOP_CTL R.HOOP_BK_CTL; omega))
      (hreg R.HOOP_ID (by unfold R.HOOP_ID R.HOOP_BK_CTL; omega)) (congrArg Hoop.seq (hother .hoop (by decide)))
      0x30 (s.fld (R.HOOP_BK_LEN c) F.HOOP_BK_LEN_DEVID) 0 (bulkPrefix (s.reg (R.HOOP_BK_REM c)).toNat 0 (c + 4) ++
        (s.bulkStarted c).readDram ((s.reg (R.HOOP_BK_LOC c)).toNat * 64) (64 * n))
    rw [hpacket, hread] at e
    refine ⟨_, e, only_bulkGo e, ?_, ?_, ?_, fun a ha => ?_⟩
    · exact State.flag_setFlag_same s (R.HOOP_BK_CTL c) F.HOOP_BK_CTL_BUSY true (by decide) (by decide)
    · have hbk : (s.bulkStarted c).bk c = ⟨true, s.time.mt⟩ := State.bk_modBk_same _ c _
      exact hbk
    · rw [pt_enqueue_loc _ _ (Nat.le_of_ble_eq_true rfl : 0x20 ≤ (State.unicastPacket _ 0x30 _ _ _).cls), nextSeq_pt,
        pt_of_port (hother .port (by decide))]
      rfl
    · rw [reg_enqueue, nextSeq_reg]
      exact regsBut_bulkStarted s c a ha
  · intro s c hc hb hn
    have e := exec_bulkGo_empty hc hb hn
    obtain ⟨-, hbusy, hcode, hflag, hregs⟩ := bulkEnd_effect s c (code := 0) (by decide)
    exact ⟨_, e, only_bulkGo e, hbusy, hcode, hflag, hregs⟩
  · intro s p pk hc _ hk ha hlast h0 hlen hok hlo hhi hsize
    have hm : (pk.payload.length - 8) / 64 = 1 := by omega
    have hdata : (pk.payload.drop 8).length = 64 * 1 := by rw [List.length_drop, hlen]
    have hother := only_taken s p pk
    have hok' : (s.taken p pk).dramOk (leAt pk.payload 0 4 * 64) (64 * 1) = true :=
      (dramOk_congr (hother .variant (by decide)) (reg_taken s p pk _) (reg_taken s p pk _) _ _).trans hok
    have e := exec_bulkReceived hc hk ha
    rw [bulkTake_first h0 hlast (by rwa [reg_taken]) (by rwa [reg_taken, reg_taken]) (by rwa [reg_taken]), hm,
      List.take_of_length_le (Nat.le_of_eq hdata)] at e
    refine ⟨_, e, ((keeps_execBulkReceived (List.Subset.refl _) p pk (Keeps.refl _ s)).next _ e).only, ?_, ?_, ?_, ?_⟩
    · exact readDram_writeDram hdata hok'
    · intro a hout
      have hbut := sameDramBut_writeDram (s.taken p pk) (leAt pk.payload 0 4 * 64) (pk.payload.drop 8)
      rw [hdata] at hbut
      exact (hbut a hout).trans (dramByte_of_dram (hother .dram (by decide)) a)
    · exact bulkNext_bulkExpect _ _ _ _
    · have htaken : RegsBut [] s (s.taken p pk) := fun a _ => reg_taken s p pk a
      exact (htaken.writeDram (off := leAt pk.payload 0 4 * 64) (bs := pk.payload.drop 8)).withHoop
  · intro s p pk hc _ hk ha hact hsrc
    have e := exec_bulkAckReceived hc hk ha hact hsrc
    obtain ⟨hidle, hbusy, hcode, hflag, -⟩ := bulkEnd_effect (s.taken p pk) (leAt pk.payload 7 1 % 4)
      (code := leAt pk.payload 7 1 / 16 % 4) (by omega)
    exact ⟨_, e, only_bulkAckReceived e, hidle, hbusy, hcode, hflag⟩
  · intro s c hc ha hq ht
    have e := exec_bulkTimeout hc ha hq ht
    obtain ⟨hidle, hbusy, hcode, -, hregs⟩ := bulkEnd_effect s c (code := 3) (by decide)
    exact ⟨_, e, ((keeps_execBulkTimeout (List.Subset.refl _) c (Keeps.refl _ s)).next _ e).only, hidle, hbusy, hcode, hregs⟩
  · intro s c hc hb hn
    exact next_of_keeps (keeps_execBulkGo (List.Subset.refl _) c (Keeps.refl _ s)) (exec_bulkGo hc hb hn)
  · intro s port pk hc hk ha
    exact next_of_keeps (keeps_execBulkReceived (List.Subset.refl _) port pk (Keeps.refl _ s)) (exec_bulkReceived hc hk ha)
  · intro s port pk hc hk ha hact hsrc
    exact next_of_keeps (keeps_execBulkAckReceived (List.Subset.refl _) port pk (Keeps.refl _ s))
      (exec_bulkAckReceived hc hk ha hact hsrc)
  · intro s c hc ha hq ht
    exact next_of_keeps (keeps_execBulkTimeout (List.Subset.refl _) c (Keeps.refl _ s)) (exec_bulkTimeout hc ha hq ht)

end Sys2Proof.Machine

/-! # The time exchange and holdover (O31) -/

namespace Sys2Proof.Machine

-- As above: the proofs of this part are elaborated one after another, which keeps the check within its memory.
set_option deprecated.oldSectionVars true

/-! ### Link packets (R200, R215) -/

section
variable {s : State} {p : Nat}

/-- The link packet that this device sends to the peer of a port. -/
def State.peerPacket (s : State) (p cls : Nat) (payload : List Byte) : Packet :=
  ⟨cls, false, s.fld R.HOOP_CTL F.HOOP_CTL_HOPS, s.fld (R.HOOP_PT_STAT p) F.HOOP_PT_STAT_PEER, s.devid, (s.nextSeq cls).1, 0, payload⟩

theorem linkPacket_eq (s : State) (p cls : Nat) (payload : List Byte) :
    s.linkPacket p cls payload = (s.nextSeq cls).2.enqueue p false (s.peerPacket p cls payload) := rfl

theorem pt_linkPacket (s : State) (p : Nat) (payload : List Byte) :
    (s.linkPacket p 1 payload).pt p = { s.pt p with link := (s.pt p).link ++ [s.peerPacket p 1 payload] } := by
  rw [linkPacket_eq, pt_enqueue_link _ _ _ (Nat.le_of_ble_eq_true rfl : (s.peerPacket p 1 payload).cls < 0x10), nextSeq_pt]

theorem unitsBut_linkPacket (s : State) (p cls : Nat) (payload : List Byte) : UnitsBut State.pt p s (s.linkPacket p cls payload) :=
  unitsBut_enqueue _ p false _

/-! ### The exchange (R215, R216) -/

/-- A port that has begun an exchange. -/
def State.exchanging (s : State) (p xid : Nat) : State :=
  s.modPt p fun q => { q with xid := xid % 65536, t1 := none, lastStart := some s.time.mt }

theorem exec_timeExchangeStart {xid : Nat} (hp : p < s.hoopLanes) (ha : s.active p = true)
    (hf : ((s.pt p).lastStart.all fun x => decide (x / exchangeU < s.time.mt / exchangeU)) = true) :
    exec (.timeExchangeStart p xid) s = .next ((s.exchanging p xid).linkPacket p 0x01 ([1, 0] ++ leBytes (xid % 65536) 2)) := by
  have hx : exec (.timeExchangeStart p xid) s = execTimeExchangeStart p xid s := rfl
  rw [hx, execTimeExchangeStart, onUnit_next hp (hoopLanes_le s)]
  refine congrArg _ (if_pos ?_)
  rw [ha, Bool.true_and]
  cases h : (s.pt p).lastStart with
  | none => rfl
  | some t => rwa [h] at hf

/-- The payload of a response, room for t3 in it. -/
def State.timeAnswer (s : State) (p : Nat) (pk : Packet) (ago phase : Nat) : List Byte :=
  [2] ++ leBytes ((s.domainValid 0).toNat + 2 * (s.domainValid 1).toNat) 1 ++ leBytes (leAt pk.payload 2 2) 2 ++ zeros 4 ++
    stampBytes (fineStamp (s.hoopStamp p ago phase false)) ++ zeros 16 ++ leBytes (unsigned 32 (s.deltaPs 0)) 4 ++
    leBytes (unsigned 32 (s.deltaPs 1)) 4

theorem exec_timeRequestReceived {pk : Packet} {ago phase : Nat} (hp : p < s.hoopLanes) (ha : s.active p = true) (hk : pk.cls = 0x01)
    (h1 : leAt pk.payload 0 1 = 1) : exec (.timeRequestReceived p pk ago phase) s =
      .next (s.linkPacket p 0x01 (s.timeAnswer p pk ago phase)) := by
  have hx : exec (.timeRequestReceived p pk ago phase) s = execTimeRequestReceived p pk ago phase s := rfl
  rw [hx, execTimeRequestReceived, onUnit_next hp (hoopLanes_le s)]
  exact congrArg _ (if_pos ⟨hk, h1, ha⟩)

/-- The mean delay and the offset that a response gives. -/
def State.exchanged (s : State) (p : Nat) (pk : Packet) (x : Crossing) (t1 : Int) : Int × Int :=
  exchange t1 (stampFine (stampAt pk.payload 8)) (stampFine (stampAt pk.payload 24)) (s.hoopStamp p x.ago x.phase false)
    (s.sfld (R.HOOP_PT_ASYM p) F.HOOP_PT_ASYM_ASYM)

/-- An exchange ended by a response. -/
def State.exchangeEnded (s : State) (p : Nat) (pk : Packet) (r : Int × Int) : State :=
  (s.setFld (R.HOOP_PT_DELAY p) F.HOOP_PT_DELAY_D (satU 24 r.1).toNat).modPt p fun q =>
    { q with t1 := none, o := r.2, endedAt := some s.time.mt,
             peerDelta := (signed 32 (leAt pk.payload 40 4), signed 32 (leAt pk.payload 44 4)) }

/-- A response that reports no domain valid ends the exchange and gives no sample. -/
theorem exec_timeResponseReceived {pk : Packet} {x : Crossing} {t1 : Int} {st : Nat} (hp : p < s.hoopLanes) (ha : s.active p = true)
    (h1 : (s.pt p).t1 = some t1) (hst : (s.pt p).lastStart = some st) (hk : pk.cls = 0x01) (h2 : leAt pk.payload 0 1 = 2)
    (hxid : leAt pk.payload 2 2 = (s.pt p).xid) (ht : s.time.mt ≤ st + ticksU 2500) (hv : leAt pk.payload 1 1 = 0) :
    exec (.timeResponseReceived p pk x) s = .next (s.exchangeEnded p pk (s.exchanged p pk x t1)) := by
  have hx : exec (.timeResponseReceived p pk x) s = execTimeResponseReceived p pk x s := rfl
  have hnone (d : Nat) : ¬bitAt 0 d = true := by rw [bitAt_eq_testBit, Nat.zero_testBit]; exact Bool.false_ne_true
  rw [hx, execTimeResponseReceived, onUnit_next hp (hoopLanes_le s), h1, hst]
  dsimp only
  rw [if_pos ⟨hk, h2, hxid, ha, ht⟩, hv]
  refine congrArg _ (each_unchanged id (fun d _ t => ?_) _)
  exact if_neg fun h => hnone d h.2.2

theorem satU_lt (n : Nat) (x : Int) : (satU n x).toNat < 2 ^ n := by
  have : 0 < 2 ^ n := Nat.two_pow_pos n
  unfold satU clampI
  omega

theorem exchangeEnded_effect (s : State) (p : Nat) (pk : Packet) (r : Int × Int) :
    ((s.exchangeEnded p pk r).pt p).t1 = none ∧ ((s.exchangeEnded p pk r).pt p).endedAt = some s.time.mt ∧
    ((s.exchangeEnded p pk r).pt p).o = r.2 ∧
    (s.exchangeEnded p pk r).fld (R.HOOP_PT_DELAY p) F.HOOP_PT_DELAY_D = (satU 24 r.1).toNat ∧
    RegsBut [R.HOOP_PT_DELAY p] s (s.exchangeEnded p pk r) ∧ UnitsBut State.pt p s (s.exchangeEnded p pk r) := by
  have hpt : (s.exchangeEnded p pk r).pt p = { s.pt p with
      t1 := none, o := r.2, endedAt := some s.time.mt,
      peerDelta := (signed 32 (leAt pk.payload 40 4), signed 32 (leAt pk.payload 44 4)) } := by
    rw [State.exchangeEnded, State.pt_modPt_same, State.pt_setFld]
  have hfld : (s.exchangeEnded p pk r).fld (R.HOOP_PT_DELAY p) F.HOOP_PT_DELAY_D = (satU 24 r.1).toNat % 2 ^ 24 :=
    State.fld_setFld_same s (R.HOOP_PT_DELAY p) F.HOOP_PT_DELAY_D (satU 24 r.1).toNat (by decide)
  rw [hpt]
  refine ⟨rfl, rfl, rfl, hfld.trans (Nat.mod_eq_of_lt (satU_lt 24 r.1)), ?_, ?_⟩
  · exact ((RegsBut.refl [R.HOOP_PT_DELAY p] s).setFld (by simp)).modPt
  · exact ((UnitsBut.refl State.pt p s).of_port (State.setFld_port _ _ _ _)).modPt

theorem only_exchangeEnded (s : State) (p : Nat) (pk : Packet) (r : Int × Int) : Only [.regs, .port] s (s.exchangeEnded p pk r) :=
  (keeps_State_modPt (by decide) p _ (keeps_State_setFld (by decide) _ _ _ (Keeps.refl _ s))).only

/-- An exchange whose time is up has no t1 afterwards, whether or not its request had left. -/
theorem timeExchangeTimeout_effect {st : Nat} (hp : p < s.hoopLanes) (hst : (s.pt p).lastStart = some st)
    (ht : st + ticksU 2500 < s.time.mt) : ∃ t, exec (.timeExchangeTimeout p) s = .next t ∧ Only [.port] s t ∧
      t.pt p = { s.pt p with t1 := none } ∧ UnitsBut State.pt p s t := by
  have hx : exec (.timeExchangeTimeout p) s = execTimeExchangeTimeout p s := rfl
  have hkeep {t : State} (h : exec (.timeExchangeTimeout p) s = .next t) : Only [.port] s t :=
    ((keeps_execTimeExchangeTimeout (List.Subset.refl _) p (Keeps.refl _ s)).next t h).only
  rw [execTimeExchangeTimeout, onUnit_next hp (hoopLanes_le s)] at hx
  dsimp only at hx
  rw [hst] at hx
  simp only [decide_eq_true ht, Bool.and_true] at hx
  cases h1 : (s.pt p).t1 with
  | none =>
    rw [h1, if_neg (by decide)] at hx
    refine ⟨s, hx, hkeep hx, ?_, UnitsBut.refl _ p s⟩
    rw [← h1]
  | some t1 =>
    rw [h1, if_pos (Option.isSome_some)] at hx
    exact ⟨_, hx, hkeep hx, State.pt_modPt_same _ _ _, (UnitsBut.refl State.pt p s).modPt⟩

end

/-! ### Domains (R219) -/

theorem dm_of_dom {s t : State} (h : t.dom = s.dom) (n : Nat) : t.dm n = s.dm n := by unfold State.dm; rw [h]

theorem unitsBut_modDm (s : State) (d : Nat) (f : Domain → Domain) : UnitsBut State.dm d s (s.modDm d f) :=
  fun m hm => by rw [State.dm_modDm, if_neg hm]

theorem UnitsBut.of_dom {s t u : State} {d : Nat} (h : UnitsBut State.dm d s t) (hu : u.dom = t.dom) : UnitsBut State.dm d s u :=
  fun m hm => (dm_of_dom hu m).trans (h m hm)

theorem TIM_D_STAT_ne_ISR (d : Nat) : R.TIM_D_STAT d ≠ R.TIM_ISR := by unfold R.TIM_D_STAT R.TIM_ISR; omega

section
variable (s : State) (d st : Nat)

theorem regsBut_setDomain : RegsBut [R.TIM_D_STAT d, R.TIM_ISR] s (s.setDomain d st) := by
  have hstat := (RegsBut.refl [R.TIM_D_STAT d, R.TIM_ISR] s).setFld (f := F.TIM_D_STAT_STATE) (n := st) (List.mem_cons_self ..)
  exact (hstat.raise (by simp)).ite hstat

theorem dom_setDomain : (s.setDomain d st).dom = s.dom := by
  unfold State.setDomain
  dsimp only
  split
  · rw [State.raise_dom, State.setFld_dom]
  · rw [State.setFld_dom]

theorem state_setDomain {st : Nat} (h : st < 4) : (s.setDomain d st).fld (R.TIM_D_STAT d) F.TIM_D_STAT_STATE = st := by
  have hstat : (s.setFld (R.TIM_D_STAT d) F.TIM_D_STAT_STATE st).fld (R.TIM_D_STAT d) F.TIM_D_STAT_STATE = st :=
    (State.fld_setFld_same s _ _ st (by decide)).trans (Nat.mod_eq_of_lt h)
  unfold State.setDomain
  dsimp only
  split
  · rw [(State.regsBut_raise _ _ _).fld (by simp only [List.mem_singleton]; exact TIM_D_STAT_ne_ISR d), hstat]
  · exact hstat

/-- A domain in HOLDOVER. -/
def State.heldOver : State :=
  ((s.setDomain d 3).modDm d fun q => { q with good := 0 }).raise R.TIM_ISR F.TIM_ISR_HOLDOVER

theorem heldOver_effect : (s.heldOver d).fld (R.TIM_D_STAT d) F.TIM_D_STAT_STATE = 3 ∧ (s.heldOver d).dm d = { s.dm d with good := 0 } ∧
    (s.heldOver d).flag R.TIM_ISR F.TIM_ISR_HOLDOVER = true ∧ UnitsBut State.dm d s (s.heldOver d) ∧
    RegsBut [R.TIM_D_STAT d, R.TIM_ISR] s (s.heldOver d) := by
  have hdom : (s.heldOver d).dom = ((s.setDomain d 3).modDm d fun q => { q with good := 0 }).dom := State.raise_dom _ _ _
  refine ⟨?_, ?_, State.flag_raise_same _ _ _ (by decide) (by decide), ?_, ?_⟩
  · rw [State.heldOver, (State.regsBut_raise _ _ _).fld (by simp only [List.mem_singleton]; exact TIM_D_STAT_ne_ISR d)]
    exact state_setDomain s d (st := 3) (by decide)
  · rw [dm_of_dom hdom, State.dm_modDm_same, dm_of_dom (dom_setDomain s d 3)]
  · have hset : UnitsBut State.dm d s (s.setDomain d 3) := (UnitsBut.refl State.dm d s).of_dom (dom_setDomain s d 3)
    exact (hset.trans (unitsBut_modDm _ d _)).of_dom hdom
  · exact ((regsBut_setDomain s d 3).trans fun a _ => State.modDm_reg _ d _ a).raise (by simp)

/-- A domain in HOLDOVER that has sent its notice. -/
def State.noticed : State :=
  ((s.heldOver d).broadcast 0x10 (eventPayload (0xF0A0 + d) (s.heldOver d).stamp)).modDm d fun q => { q with noticeSent := true }

theorem noticed_effect : (s.noticed d).fld (R.TIM_D_STAT d) F.TIM_D_STAT_STATE = 3 ∧
    (s.noticed d).dm d = { s.dm d with good := 0, noticeSent := true } ∧
    (s.noticed d).flag R.TIM_ISR F.TIM_ISR_HOLDOVER = true ∧ UnitsBut State.dm d s (s.noticed d) := by
  obtain ⟨hstate, hdm, hflag, hother, -⟩ := heldOver_effect s d
  have hsent := keeps_State_broadcast (List.Subset.refl _) 0x10 (eventPayload (0xF0A0 + d) (s.heldOver d).stamp) (Keeps.refl _ (s.heldOver d))
  have hdom := hsent.part .dom rfl
  have hreg (a : Nat) : (s.noticed d).reg a = (s.heldOver d).reg a := (State.modDm_reg _ d _ a).trans (reg_of_same (hsent.part .regs rfl) a)
  refine ⟨?_, ?_, ?_, (hother.of_dom hdom).trans (unitsBut_modDm _ d _)⟩
  · rw [fld_of_reg (hreg _), hstate]
  · rw [State.noticed, State.dm_modDm_same, dm_of_dom hdom, hdm]
  · rw [flag_of_reg (hreg _), hflag]

variable {s d}

theorem exec_holdoverEntry_pps (hd : d < 2) (hsrc : s.fld (R.TIM_D_CFG d) F.TIM_D_CFG_SRC = 3)
    (hst : s.fld (R.TIM_D_STAT d) F.TIM_D_STAT_STATE = 1 ∨ s.fld (R.TIM_D_STAT d) F.TIM_D_STAT_STATE = 2)
    (ht : (s.dm d).lastSample + nsU 3000000000 ≤ s.time.mt) : exec (.holdoverEntry d) s = .next (s.heldOver d) := by
  have hx : exec (.holdoverEntry d) s = execHoldoverEntry d s := rfl
  rw [hx, execHoldoverEntry, onUnit_next hd (Nat.le_refl 2), hsrc]
  dsimp only
  rw [if_neg (by decide : ¬(3 : Nat) = 1), if_pos ⟨Or.inr rfl, hst, ht⟩]
  exact congrArg _ (if_neg fun h => absurd h.1 (by decide))

theorem exec_holdoverEntry_port (hd : d < 2) (hsrc : s.fld (R.TIM_D_CFG d) F.TIM_D_CFG_SRC = 1)
    (hst : s.fld (R.TIM_D_STAT d) F.TIM_D_STAT_STATE = 1 ∨ s.fld (R.TIM_D_STAT d) F.TIM_D_STAT_STATE = 2)
    (ht : (s.dm d).lastSample + nsU 3072000 ≤ s.time.mt) : exec (.holdoverEntry d) s = .next
      (if s.active (s.fld (R.TIM_D_CFG d) F.TIM_D_CFG_PORT) = false ∧ (s.dm d).noticeSent = false then s.noticed d else s.heldOver d) := by
  have hx : exec (.holdoverEntry d) s = execHoldoverEntry d s := rfl
  obtain ⟨-, hdm, -, -, hregs⟩ := heldOver_effect s d
  have hcfg : (s.heldOver d).fld (R.TIM_D_CFG d) F.TIM_D_CFG_PORT = s.fld (R.TIM_D_CFG d) F.TIM_D_CFG_PORT :=
    hregs.fld (by simp only [List.mem_cons, List.not_mem_nil, or_false, R.TIM_D_CFG, R.TIM_D_STAT, R.TIM_ISR]; omega) _
  have hactive (p : Nat) : (s.heldOver d).active p = s.active p := by
    rw [State.active, State.active, hregs.fld (by simp only [List.mem_cons, List.not_mem_nil, or_false, R.HOOP_PT_STAT, R.TIM_D_STAT, R.TIM_ISR]; omega)]
  rw [hx, execHoldoverEntry, onUnit_next hd (Nat.le_refl 2), hsrc]
  dsimp only
  rw [if_pos rfl, if_pos ⟨Or.inl rfl, hst, ht⟩, ← State.heldOver, hcfg, hactive, hdm, ← State.noticed]
  simp

end

/-! ### The statement -/

/-- Settles O31: a request and an answer are link packets, an exchange ends with what `exchange` makes of its four stamps, and the two
ends of holdover differ in the notice. -/
theorem timeExchangeAndHoldover : Obligations.TimeExchangeAndHoldover := by
  refine ⟨?_, ?_, ?_, ?_, ?_, ?_⟩
  · intro s p xid hp ha hf
    have e := exec_timeExchangeStart (xid := xid) hp ha hf
    refine ⟨_, e, ((keeps_execTimeExchangeStart (List.Subset.refl _) p xid (Keeps.refl _ s)).next _ e).only, ?_, ?_⟩
    · rw [pt_linkPacket, State.exchanging, State.pt_modPt_same]
      rfl
    · exact (UnitsBut.modPt (UnitsBut.refl State.pt p s)).trans (unitsBut_linkPacket (s.exchanging p xid) p 0x01 _)
  · intro s p pk ago phase hp ha hk h1
    have e := exec_timeRequestReceived (ago := ago) (phase := phase) hp ha hk h1
    exact ⟨_, e, ((keeps_execTimeRequestReceived (List.Subset.refl _) p pk ago phase (Keeps.refl _ s)).next _ e).only,
      pt_linkPacket s p _, unitsBut_linkPacket s p 0x01 _⟩
  · intro s p pk x t1 st hp ha h1 hst hk h2 hxid ht hv
    obtain ⟨ht1, hended, ho, hdelay, hregs, hother⟩ := exchangeEnded_effect s p pk (s.exchanged p pk x t1)
    exact ⟨_, exec_timeResponseReceived hp ha h1 hst hk h2 hxid ht hv, only_exchangeEnded s p pk _, ht1, hended, ho, hdelay, hregs, hother⟩
  · intro s p st hp _ hst ht
    exact timeExchangeTimeout_effect hp hst ht
  · intro s d hd hsrc hst ht
    have e := exec_holdoverEntry_pps hd hsrc hst ht
    exact ⟨_, e, ((keeps_execHoldoverEntry (List.Subset.refl _) d (Keeps.refl _ s)).next _ e).only, heldOver_effect s d⟩
  · intro s d hd hsrc hst ht
    have e := exec_holdoverEntry_port hd hsrc hst ht
    have honly := ((keeps_execHoldoverEntry (List.Subset.refl _) d (Keeps.refl _ s)).next _ e).only
    by_cases hnotice : s.active (s.fld (R.TIM_D_CFG d) F.TIM_D_CFG_PORT) = false ∧ (s.dm d).noticeSent = false
    · rw [if_pos hnotice] at e honly
      obtain ⟨hstate, hdm, hflag, hother⟩ := noticed_effect s d
      exact ⟨_, e, honly, hstate, by rw [hdm], by rw [hdm, hnotice.1]; simp, hflag, hother⟩
    · rw [if_neg hnotice] at e honly
      obtain ⟨hstate, hdm, hflag, hother, -⟩ := heldOver_effect s d
      refine ⟨_, e, honly, hstate, by rw [hdm], ?_, hflag, hother⟩
      rw [hdm]
      cases hs : (s.dm d).noticeSent with
      | true => rfl
      | false =>
        have hlive : s.active (s.fld (R.TIM_D_CFG d) F.TIM_D_CFG_PORT) = true := by
          rw [← Bool.not_eq_false]
          exact fun h => hnotice ⟨h, hs⟩
        rw [hlive]
        rfl

end Sys2Proof.Machine

/-! # Bring-up of a serial lane (O40) -/

namespace Sys2Proof.Machine

-- As above: the proofs of this part are elaborated one after another, which keeps the check within its memory.
set_option deprecated.oldSectionVars true

/-! ### A lane's own state under writes elsewhere (R330) -/

@[simp] theorem State.ln_setReg (s : State) (a : Nat) (v : Word) (n : Nat) : (s.setReg a v).ln n = s.ln n := rfl
@[simp] theorem State.ln_setFld (s : State) (a : Nat) (f : Field) (v n : Nat) : (s.setFld a f v).ln n = s.ln n := rfl
@[simp] theorem State.ln_setFlag (s : State) (a : Nat) (f : Field) (b : Bool) (n : Nat) : (s.setFlag a f b).ln n = s.ln n := rfl
@[simp] theorem State.ln_satAdd (s : State) (a : Nat) (f : Field) (k n : Nat) : (s.satAdd a f k).ln n = s.ln n := rfl
@[simp] theorem State.ln_raise (s : State) (a : Nat) (f : Field) (n : Nat) : (s.raise a f).ln n = s.ln n := ln_of_lane (by simp) n

theorem unitsBut_satAdd_ln (s : State) (l a : Nat) (f : Field) (k : Nat) : UnitsBut State.ln l s (s.satAdd a f k) := fun _ _ => rfl

theorem laneState_of_reg {s t : State} {l : Nat} (h : t.reg (R.LANE_STAT l) = s.reg (R.LANE_STAT l)) : t.laneState l = s.laneState l := by
  rw [State.laneState, State.fld, h, State.laneState, State.fld]

/-- A lane that has just entered a state. -/
def Lane.entered (q : Lane) (mt : Nat) : Lane :=
  { q with since := mt, probed := none, cap := 0, caps := 0, ack := false, pm := none, pmGot := (0, 0), waking := false }

section
variable (s : State) (l : Nat) (st : Nat)

theorem ln_setLane : (s.setLane l st).ln l = (s.ln l).entered s.time.mt := by
  rw [State.setLane, State.ln_modLn_same, State.ln_setFld, Lane.entered]

theorem unitsBut_setLane : UnitsBut State.ln l s (s.setLane l st) :=
  ((UnitsBut.refl State.ln l s).of_lane (State.setFld_lane _ _ _ _)).modLn

theorem laneState_setLane {st : Nat} (h : st < 16) : (s.setLane l st).laneState l = st :=
  (State.fld_setFld_same s (R.LANE_STAT l) F.LANE_STAT_STATE st (by decide)).trans (Nat.mod_eq_of_lt h)

/-- Entering a state leaves the flags beside it. -/
theorem flag_setLane {f : Field} (h : 4 ≤ f.lo) : (s.setLane l st).flag (R.LANE_STAT l) f = s.flag (R.LANE_STAT l) f :=
  congrArg (fun k => decide (k ≠ 0)) (State.fld_setFld_field s (R.LANE_STAT l) F.LANE_STAT_STATE f st (by decide) (Or.inl h))

theorem startLane_of_down (hup : s.up (laneDomain l) = true) (h : s.laneState l = 0) :
    s.startLane l = (s.setFlag (R.LANE_STAT l) F.LANE_STAT_CAPERR false).setLane l 1 := by
  rw [State.startLane, hup, h]
  rfl

theorem up_of_reg {t : State} (h : t.reg R.PWR_DOM = s.reg R.PWR_DOM) (d : Nat) : t.up d = s.up d := by
  rw [State.up, fld_of_reg h, State.up]

/-! ### The end of a head link (R346, R347, R351) -/

theorem headLost_effect (n : Nat) : (s.headLost n).flag R.HL_ISR F.HL_ISR_LINK = true ∧
    (s.headLost n).flag (R.HL_CH_STAT n) F.HL_CH_STAT_DRV = false ∧
    (s.headLost n).hd n = { s.hd n with aux := none, cfgDue := false, cfgDone := false, retryAt := none, rxSeq := none } ∧
    UnitsBut State.hd n s (s.headLost n) ∧ RegsBut [R.HL_CH_AUX n, R.HL_CH_STAT n, R.HL_ISR] s (s.headLost n) := by
  unfold State.headLost
  dsimp only
  refine ⟨State.flag_raise_same _ _ _ (by decide) (by decide), ?_, ?_, ?_, ?_⟩
  · rw [State.flag_raise_ne _ _ _ (HL_CH_STAT_ne_ISR n), State.flag_setFlag_field _ _ _ _ _ (by decide) (by decide)]
    exact State.flag_setFlag_same _ _ _ false (by decide) (by decide)
  · rw [State.hd_raise, State.hd_setFlag, State.hd_setFlag, State.hd_setFlag, State.hd_modHd_same]
  · exact unitsBut_of_head (unitsBut_hd_setFlag (unitsBut_hd_setFlag (unitsBut_hd_setFlag (unitsBut_modHd (unitsBut_hd_refl s n) _))))
      (State.raise_head _ _ _)
  · have hmod : RegsBut [R.HL_CH_AUX n, R.HL_CH_STAT n, R.HL_ISR] s
        (s.modHd n fun h => { h with aux := none, cfgDue := false, cfgDone := false, retryAt := none, rxSeq := none }) :=
      (RegsBut.refl _ s).modHd
    exact (((hmod.setFlag (by simp)).setFlag (by simp)).setFlag (by simp)).raise (by simp)

theorem lane_laneLeft : (s.laneLeft l).lane = s.lane :=
  (keeps_State_laneLeft (List.Subset.refl _) l (Keeps.refl _ s)).part .lane rfl

theorem unitsBut_hd_laneLeft : UnitsBut State.hd l s (s.laneLeft l) := by
  unfold State.laneLeft
  split
  · exact (headLost_effect s l).2.2.2.1
  · exact unitsBut_hd_refl s l

/-- A lane that leaves ACTIVE keeps its own status word. -/
theorem reg_laneLeft {a : Nat} (h : a < 0x250000) : (s.laneLeft l).reg a = s.reg a := by
  unfold State.laneLeft
  split
  · obtain ⟨-, -, -, -, hregs⟩ := headLost_effect s l
    exact hregs a (by simp only [List.mem_cons, List.not_mem_nil, or_false, R.HL_CH_AUX, R.HL_CH_STAT, R.HL_ISR]; omega)
  · rfl

end

theorem reg_HL_CH_CFG_laneLeft (s : State) (l : Nat) : (s.laneLeft l).reg (R.HL_CH_CFG l) = s.reg (R.HL_CH_CFG l) := by
  unfold State.laneLeft
  split
  · obtain ⟨-, -, -, -, hregs⟩ := headLost_effect s l
    exact hregs _ (by simp only [List.mem_cons, List.not_mem_nil, or_false, R.HL_CH_CFG, R.HL_CH_AUX, R.HL_CH_STAT, R.HL_ISR]; omega)
  · rfl

/-! ### A lane that goes DOWN (R330) -/

section
variable (s : State) (l : Nat)

theorem regsBut_laneDown_left : RegsBut [R.LANE_STAT l] (s.laneLeft l) (s.laneDown l) :=
  ((((RegsBut.refl [R.LANE_STAT l] (s.laneLeft l)).setFlag (by simp)).trans (regsBut_setLane _ l 0))).modLn

theorem laneState_laneDown : (s.laneDown l).laneState l = 0 := by
  unfold State.laneDown
  dsimp only
  rw [laneState_of_reg (State.modLn_reg _ _ _ _), laneState_setLane _ l (by decide)]

theorem lock_laneDown : (s.laneDown l).flag (R.LANE_STAT l) F.LANE_STAT_LOCK = false := by
  unfold State.laneDown
  dsimp only
  rw [flag_of_reg (State.modLn_reg _ _ _ _), flag_setLane _ l 0 (by decide)]
  exact State.flag_setFlag_same _ _ _ false (by decide) (by decide)

theorem unitsBut_laneDown : UnitsBut State.ln l s (s.laneDown l) := by
  have hlock : UnitsBut State.ln l s ((s.laneLeft l).setFlag (R.LANE_STAT l) F.LANE_STAT_LOCK false) :=
    ((UnitsBut.refl State.ln l s).of_lane (lane_laneLeft s l)).of_lane (State.setFlag_lane _ _ _ _)
  exact (hlock.trans (unitsBut_setLane _ l 0)).modLn

theorem head_laneDown : (s.laneDown l).head = (s.laneLeft l).head := by
  unfold State.laneDown State.setLane
  dsimp only
  rw [State.modLn_head, State.modLn_head, State.setFld_head, State.setFlag_head]

theorem unitsBut_hd_laneDown : UnitsBut State.hd l s (s.laneDown l) := unitsBut_of_head (unitsBut_hd_laneLeft s l) (head_laneDown s l)

variable {s l}

theorem HL_regs_ne_LANE_STAT {a : Nat} (hl : l < 40) (h : 0x250000 ≤ a) : a ∉ [R.LANE_STAT l] := by
  simp only [List.mem_singleton, R.LANE_STAT]
  omega

/-- A head link that ends as its lane goes DOWN is reported. -/
theorem link_laneDown (hl : l < 32) (h5 : s.laneState l = 5) : (s.laneDown l).flag R.HL_ISR F.HL_ISR_LINK = true ∧
    (s.laneDown l).flag (R.HL_CH_STAT l) F.HL_CH_STAT_DRV = false := by
  obtain ⟨hlink, hdrv, -, -, -⟩ := headLost_effect s l
  have hregs := regsBut_laneDown_left s l
  rw [show s.laneLeft l = s.headLost l from if_pos ⟨hl, h5⟩] at hregs
  have hstat : 0x250000 ≤ R.HL_CH_STAT l := by unfold R.HL_CH_STAT; omega
  rw [hregs.flag (HL_regs_ne_LANE_STAT (by omega) (by decide)), hregs.flag (HL_regs_ne_LANE_STAT (by omega) hstat)]
  exact ⟨hlink, hdrv⟩

end

/-! ### Enabling and disabling a head lane (R330, R349) -/

section
variable {s : State} {n : Nat} {v : Word}

theorem exec_headLaneEnable (hn : n < s.channels) : exec (.headLaneEnable n v) s =
    .next ((s.setReg (R.HL_CH_CFG n) ((v &&& 3) ||| 1)).startLane n) :=
  (onUnitWrite_next hn (channels_le s) : execHeadLaneEnable n v s = _)

theorem exec_headLaneDisable (hn : n < s.channels) : exec (.headLaneDisable n v) s = .next
    (if 2 ≤ s.chState n ∧ s.chState n ≤ 7 ∧ s.flag (R.HL_CH_CFG n) F.HL_CH_CFG_EN then
       (s.setFlag (R.HL_CH_CFG n) F.HL_CH_CFG_ZERO (decide (field F.HL_CH_CFG_ZERO v = 1))).raise R.HL_ISR F.HL_ISR_REJ
     else if (s.setReg (R.HL_CH_CFG n) (v &&& 2)).laneState n = 8 then s.setReg (R.HL_CH_CFG n) (v &&& 2)
     else (s.setReg (R.HL_CH_CFG n) (v &&& 2)).laneDown n) :=
  (onUnitWrite_next hn (channels_le s) : execHeadLaneDisable n v s = _)

theorem HL_CH_CFG_ne_LANE_STAT {n : Nat} (_ : n < 32) : R.HL_CH_CFG n ≠ R.LANE_STAT n := by unfold R.HL_CH_CFG R.LANE_STAT; omega

theorem headLaneEnable_effect (hn : n < s.channels) (hup : s.up dHEAD = true) (h0 : s.laneState n = 0) :
    ∃ t, exec (.headLaneEnable n v) s = .next t ∧ Only [.regs, .lane] s t ∧ t.reg (R.HL_CH_CFG n) = (v &&& 3) ||| 1 ∧
      t.laneState n = 1 ∧ t.flag (R.LANE_STAT n) F.LANE_STAT_CAPERR = false ∧ (t.ln n).since = s.time.mt ∧
      RegsBut [R.HL_CH_CFG n, R.LANE_STAT n] s t ∧ UnitsBut State.ln n s t := by
  have hlt : n < 32 := Nat.lt_of_lt_of_le hn (channels_le s)
  have hne := HL_CH_CFG_ne_LANE_STAT hlt
  have hpwr : R.PWR_DOM ≠ R.HL_CH_CFG n := by unfold R.PWR_DOM R.HL_CH_CFG; omega
  have hdom : laneDomain n = dHEAD := if_pos hlt
  have e := exec_headLaneEnable (v := v) hn
  rw [startLane_of_down _ n (by rw [hdom, up_of_reg s (State.reg_setReg_ne _ _ _ _ hpwr)]; exact hup)
    ((laneState_of_reg (State.reg_setReg_ne _ _ _ _ hne.symm)).trans h0)] at e
  refine ⟨_, e, ((keeps_execHeadLaneEnable (List.Subset.refl _) n v (Keeps.refl _ s)).next _ e).only, ?_, laneState_setLane _ n (by decide),
    ?_, ?_, ?_, ?_⟩
  · rw [regsBut_setLane _ n 1 _ (by simpa using hne), State.reg_setFlag_ne _ _ _ _ _ hne, State.reg_setReg_same]
  · exact (flag_setLane _ n 1 (f := F.LANE_STAT_CAPERR) (by decide)).trans (State.flag_setFlag_same _ _ _ false (by decide) (by decide))
  · rw [ln_setLane, State.setFlag_time, State.setReg_time]
    rfl
  · exact (((RegsBut.refl [R.HL_CH_CFG n, R.LANE_STAT n] s).setReg (by simp)).setFlag (by simp)).trans
      ((regsBut_setLane _ n 1).mono (by simp))
  · exact (UnitsBut.refl State.ln n s).trans (unitsBut_setLane ((s.setReg (R.HL_CH_CFG n) ((v &&& 3) ||| 1)).setFlag (R.LANE_STAT n)
      F.LANE_STAT_CAPERR false) n 1)

theorem headLaneDisable_effect (hn : n < s.channels) (hch : s.chState n ≤ 1) (h8 : s.laneState n ≠ 8) :
    ∃ t, exec (.headLaneDisable n v) s = .next t ∧ Only [.regs, .lane, .head, .pci, .out] s t ∧ t.reg (R.HL_CH_CFG n) = v &&& 2 ∧
      t.laneState n = 0 ∧ t.flag (R.LANE_STAT n) F.LANE_STAT_LOCK = false ∧
      (s.laneState n = 5 → t.flag R.HL_ISR F.HL_ISR_LINK = true ∧ t.flag (R.HL_CH_STAT n) F.HL_CH_STAT_DRV = false) ∧
      UnitsBut State.ln n s t ∧ UnitsBut State.hd n s t := by
  have hlt : n < 32 := Nat.lt_of_lt_of_le hn (channels_le s)
  have hne := HL_CH_CFG_ne_LANE_STAT hlt
  have hstate : (s.setReg (R.HL_CH_CFG n) (v &&& 2)).laneState n = s.laneState n := laneState_of_reg (State.reg_setReg_ne _ _ _ _ hne.symm)
  have e := exec_headLaneDisable (v := v) hn
  rw [if_neg (by omega), if_neg (by rwa [hstate])] at e
  refine ⟨_, e, ((keeps_execHeadLaneDisable (List.Subset.refl _) n v (Keeps.refl _ s)).next _ e).only, ?_, laneState_laneDown _ n,
    lock_laneDown _ n, fun h5 => link_laneDown hlt (hstate.trans h5), unitsBut_laneDown _ n, unitsBut_hd_laneDown _ n⟩
  rw [regsBut_laneDown_left _ n _ (by simpa using hne), reg_HL_CH_CFG_laneLeft, State.reg_setReg_same]

theorem headLaneDisable_refused (hn : n < s.channels) (h2 : 2 ≤ s.chState n) (h7 : s.chState n ≤ 7)
    (hen : s.flag (R.HL_CH_CFG n) F.HL_CH_CFG_EN = true) : ∃ t, exec (.headLaneDisable n v) s = .next t ∧ Only irqParts s t ∧
      t.flag (R.HL_CH_CFG n) F.HL_CH_CFG_EN = true ∧ t.laneState n = s.laneState n ∧ t.flag R.HL_ISR F.HL_ISR_REJ = true ∧
      RegsBut [R.HL_CH_CFG n, R.HL_ISR] s t := by
  have hlt : n < 32 := Nat.lt_of_lt_of_le hn (channels_le s)
  have hisr : R.HL_CH_CFG n ≠ R.HL_ISR := by unfold R.HL_CH_CFG R.HL_ISR; omega
  have hregs := ((RegsBut.refl [R.HL_CH_CFG n, R.HL_ISR] s).setFlag (a := R.HL_CH_CFG n) (f := F.HL_CH_CFG_ZERO)
    (b := decide (field F.HL_CH_CFG_ZERO v = 1)) (by simp)).raise (f := F.HL_ISR_REJ) (a := R.HL_ISR) (by simp)
  have e := exec_headLaneDisable (v := v) hn
  rw [if_pos ⟨h2, h7, hen⟩] at e
  refine ⟨_, e, (keeps_State_raise (by decide) _ _ (keeps_State_setFlag (by decide) _ _ _ (Keeps.refl irqParts s))).only, ?_,
    laneState_of_reg (hregs _ ?_), State.flag_raise_same _ _ _ (by decide) (by decide), hregs⟩
  · rw [State.flag_raise_ne _ _ _ hisr, State.flag_setFlag_field _ _ _ _ _ (by decide) (by decide), hen]
  · simp only [List.mem_cons, List.not_mem_nil, or_false, R.LANE_STAT, R.HL_CH_CFG, R.HL_ISR]
    omega

end

end Sys2Proof.Machine

/-! # What a serial lane receives in bring-up (O40) -/

namespace Sys2Proof.Machine

-- As above: the proofs of this part are elaborated one after another, which keeps the check within its memory.
set_option deprecated.oldSectionVars true

/-! ### The user of a lane (R199, R330) -/

section
variable {s t : State} {l p : Nat}

theorem laneUser_some (h : s.laneUser l = some p) : p < s.hoopLanes ∧ s.portBusy p = true ∧ l ∈ s.portLanes p := by
  have hfound := List.find?_some h
  rw [Bool.and_eq_true, decide_eq_true_eq] at hfound
  exact ⟨List.mem_range.mp (List.mem_of_find?_eq_some h), hfound⟩

theorem laneUser_isSome (hp : p < s.hoopLanes) (hb : s.portBusy p = true) (hl : l ∈ s.portLanes p) : (s.laneUser l).isSome = true := by
  rw [State.laneUser, List.find?_isSome]
  exact ⟨p, List.mem_range.mpr hp, by rw [hb, decide_eq_true hl]; rfl⟩

theorem portLanes_of_lanes (h : (t.pt p).lanes = (s.pt p).lanes) : t.portLanes p = s.portLanes p := by
  rw [State.portLanes, State.portLanes, h]

/-- The registers of the Hoop ports. -/
def SamePortRegs (s t : State) : Prop := ∀ a, 0x201000 ≤ a → a < 0x201200 → t.reg a = s.reg a

theorem laneUser_congr (hv : t.variant = s.variant) (hp : t.port = s.port) (hr : SamePortRegs s t) : t.laneUser l = s.laneUser l := by
  have hlanes : t.hoopLanes = s.hoopLanes := by rw [State.hoopLanes, State.hoopLanes, hv]
  unfold State.laneUser
  rw [hlanes]
  refine List.find?_congr fun p hmem => ?_
  have hp8 : p < 8 := Nat.lt_of_lt_of_le (List.mem_range.mp hmem) (hoopLanes_le s)
  have hcfg : t.reg (R.HOOP_PT_CFG p) = s.reg (R.HOOP_PT_CFG p) := hr _ (by unfold R.HOOP_PT_CFG; omega) (by unfold R.HOOP_PT_CFG; omega)
  have hstat : t.reg (R.HOOP_PT_STAT p) = s.reg (R.HOOP_PT_STAT p) :=
    hr _ (by unfold R.HOOP_PT_STAT; omega) (by unfold R.HOOP_PT_STAT; omega)
  have hbusy : t.portBusy p = s.portBusy p := by rw [State.portBusy, flag_of_reg hcfg, fld_of_reg hstat, State.portBusy]
  rw [hbusy, portLanes_of_lanes (congrArg HoopPort.lanes (pt_of_port hp p))]

theorem laneEnabled_congr (hv : t.variant = s.variant) (hp : t.port = s.port) (hr : SamePortRegs s t)
    (hcfg : t.reg (R.HL_CH_CFG l) = s.reg (R.HL_CH_CFG l)) : t.laneEnabled l = s.laneEnabled l := by
  rw [State.laneEnabled, State.laneEnabled, flag_of_reg hcfg, laneUser_congr hv hp hr]

end

/-! ### Back to TRAIN (R331, R335) -/

/-- No port that uses the lane drains. -/
def State.userStays (s : State) (l : Nat) : Bool := (s.laneUser l).all fun p => decide (s.fld (R.HOOP_PT_STAT p) F.HOOP_PT_STAT_STATE ≠ 3)

section
variable {s : State} {l p : Nat}

/-- A port that does not drain keeps its lanes when it leaves Active. -/
theorem portLost_of_stays (h : s.fld (R.HOOP_PT_STAT p) F.HOOP_PT_STAT_STATE ≠ 3) :
    s.portLost p = if s.fld (R.HOOP_PT_STAT p) F.HOOP_PT_STAT_STATE = 2 then s.portEnded p 1 else s := by
  rw [portLost_eq, if_neg h]

theorem state_portEnded : (s.portEnded p 1).fld (R.HOOP_PT_STAT p) F.HOOP_PT_STAT_STATE = 1 := by
  have hne : R.HOOP_PT_STAT p ≠ R.HOOP_ISR := by unfold R.HOOP_PT_STAT R.HOOP_ISR; omega
  rw [State.portEnded, (State.regsBut_raise _ _ _).fld (by simpa using hne)]
  exact State.fld_setFld_same _ _ _ 1 (by decide)

theorem keeps_portLost (s : State) (p : Nat) : Keeps [.regs, .port, .lane, .head, .pci, .out] s (s.portLost p) :=
  keeps_State_portLost (List.Subset.refl _) p (Keeps.refl _ s)

theorem laneUser_portLost (h : s.laneUser l = some p) (hst : s.fld (R.HOOP_PT_STAT p) F.HOOP_PT_STAT_STATE ≠ 3) :
    ((s.portLost p).laneUser l).isSome = true := by
  obtain ⟨hp, -, hl⟩ := laneUser_some h
  rw [portLost_of_stays hst]
  split
  · have hlanes : (s.portEnded p 1).hoopLanes = s.hoopLanes := by
      have hv := (keeps_portLost s p).part .variant rfl
      rw [portLost_of_stays hst, if_pos ‹_›] at hv
      rw [State.hoopLanes, State.hoopLanes, hv]
    refine laneUser_isSome (hlanes ▸ hp) ?_ ?_
    · rw [State.portBusy, state_portEnded]
      exact Bool.or_true _
    · rwa [portLanes_of_lanes (congrArg HoopPort.lanes (pt_portEnded s p 1) : _ = (s.pt p).emptied.lanes)]
  · rw [h]; rfl

/-- A lane that leaves ACTIVE stays enabled, and its status word as it is. -/
theorem leaveActive_effect (hl : l < 40) (hen : s.laneEnabled l = true) (hst : s.userStays l = true) :
    (s.leaveActive l).laneEnabled l = true ∧ (s.leaveActive l).reg (R.LANE_STAT l) = s.reg (R.LANE_STAT l) ∧
    (s.leaveActive l).time = s.time := by
  have htime := (keeps_State_leaveActive (List.Subset.refl _) l (Keeps.refl _ s)).part .time rfl
  by_cases hhead : l < 32
  · have hleft : s.leaveActive l = s.laneLeft l := if_pos hhead
    have hcfg : (s.laneLeft l).reg (R.HL_CH_CFG l) = s.reg (R.HL_CH_CFG l) := reg_HL_CH_CFG_laneLeft s l
    rw [State.laneEnabled, if_pos hhead] at hen
    refine ⟨?_, ?_, htime⟩
    · rw [State.laneEnabled, if_pos hhead, hleft, flag_of_reg hcfg, hen]
    · rw [hleft, reg_laneLeft s l (by unfold R.LANE_STAT; omega)]
  · rw [State.laneEnabled, if_neg hhead, Option.isSome_iff_exists] at hen
    obtain ⟨p, hp⟩ := hen
    have hstay : s.fld (R.HOOP_PT_STAT p) F.HOOP_PT_STAT_STATE ≠ 3 := by
      rw [State.userStays, hp] at hst
      exact of_decide_eq_true hst
    have hp8 : p < 8 := Nat.lt_of_lt_of_le (laneUser_some hp).1 (hoopLanes_le s)
    have hleft : s.leaveActive l = s.portLost p := by rw [State.leaveActive, if_neg hhead, hp]
    refine ⟨?_, ?_, htime⟩
    · rw [State.laneEnabled, if_neg hhead, hleft, laneUser_portLost hp hstay]
    · rw [hleft, portLost_of_stays hstay]
      split
      · exact regsBut_portEnded s p 1 _ (by
          simp only [List.mem_cons, List.not_mem_nil, or_false, R.LANE_STAT, R.HOOP_PT_ERR, R.HOOP_PT_STAT, R.HOOP_ISR]; omega)
      · rfl

/-- An enabled lane that leaves ACTIVE trains again; the end of a head link is reported. -/
theorem retrain_effect (hl : l < 40) (h5 : s.laneState l = 5) (hen : s.laneEnabled l = true) (hst : s.userStays l = true) :
    (s.retrain l).laneState l = 2 ∧ ((s.retrain l).ln l).since = s.time.mt ∧
    (s.retrain l).flag (R.LANE_STAT l) F.LANE_STAT_LOCK = s.flag (R.LANE_STAT l) F.LANE_STAT_LOCK ∧
    (l < 32 → (s.retrain l).flag R.HL_ISR F.HL_ISR_LINK = true ∧ ((s.retrain l).hd l).cfgDone = false ∧ ((s.retrain l).hd l).aux = none) := by
  obtain ⟨henabled, hreg, htime⟩ := leaveActive_effect hl hen hst
  have e : s.retrain l = (s.leaveActive l).setLane l 2 := if_pos henabled
  rw [e]
  refine ⟨laneState_setLane _ l (by decide), ?_, ?_, fun hhead => ?_⟩
  · rw [ln_setLane, htime]
    rfl
  · rw [flag_setLane _ l 2 (by decide), flag_of_reg hreg]
  · obtain ⟨hlink, -, hhd, -, -⟩ := headLost_effect s l
    have hleft : s.leaveActive l = s.headLost l := (if_pos hhead).trans (if_pos ⟨hhead, h5⟩)
    have hsame : ((s.headLost l).setLane l 2).hd l = (s.headLost l).hd l :=
      hd_of_head ((keeps_State_setLane (List.Subset.refl _) l 2 (Keeps.refl _ (s.headLost l))).part .head rfl) l
    rw [hleft, (regsBut_setLane (s.headLost l) l 2).flag (HL_regs_ne_LANE_STAT hl (by decide)), hsame, hhd]
    exact ⟨hlink, rfl, rfl⟩

end

/-! ### Events of a lane -/

section
variable {s : State} {l : Nat} {f : State → State}

theorem onLane_next (hl : l < 40) (hp : s.lanePresent l = true) (hu : s.up (laneDomain l) = true) : onLane l s f = .next (f s) := by
  rw [onLane, if_pos hl, hp, hu]
  rfl

theorem onBlock_of_not_stray {b : Block} (h : strayBlock b = false) : s.onBlock l b f = f s := by
  rw [State.onBlock, h]
  rfl

theorem not_stray_of_isCtl {b : Block} {type : Nat} (h : isCtl b type = true) (ht : blockTypes.contains type = true) : strayBlock b = false := by
  rw [isCtl, Bool.and_eq_true, decide_eq_true_eq, decide_eq_true_eq] at h
  rw [strayBlock, h.2, ht]
  exact Bool.and_false _

end

/-! ### Sync headers (R331) -/

/-- The last 64 headers with one more. -/
def State.withHeader (s : State) (l : Nat) (h : BitVec 2) : List Bool := (validHeader h :: (s.ln l).headers).take 64

/-- A header taken in, an invalid one counted. -/
def State.heard (s : State) (l : Nat) (h : BitVec 2) : State :=
  (if validHeader h then s else s.satAdd (R.LANE_ERR l) F.LANE_ERR_SYNC 1).modLn l fun q => { q with headers := s.withHeader l h }

/-- Lock lost, and its loss counted. -/
def State.lockDropped (s : State) (l : Nat) : State :=
  (((s.setFlag (R.LANE_STAT l) F.LANE_STAT_LOCK false).satAdd (R.LANE_ERR l) F.LANE_ERR_LOCKLOSS 1).raise R.LANE_ISR
    F.LANE_ISR_LOCKLOSS).modLn l fun q => { q with headers := [] }

theorem LANE_STAT_ne_ERR (l : Nat) : R.LANE_STAT l ≠ R.LANE_ERR l := by unfold R.LANE_STAT R.LANE_ERR; omega
theorem LANE_STAT_ne_ISR (l : Nat) : R.LANE_STAT l ≠ R.LANE_ISR := by unfold R.LANE_STAT R.LANE_ISR; omega
theorem LANE_ERR_ne_ISR (l : Nat) : R.LANE_ERR l ≠ R.LANE_ISR := by unfold R.LANE_ERR R.LANE_ISR; omega

section
variable {s : State} {l : Nat} {h : BitVec 2}

theorem takeSync_eq (hh : s.hears l = true) : s.takeSync l h =
    if (s.heard l h).flag (R.LANE_STAT l) F.LANE_STAT_LOCK then
      (if 16 ≤ ((s.withHeader l h).filter fun b => !b).length then (s.heard l h).lostLock l else s.heard l h)
    else if leadTrue (s.withHeader l h) = 64 then (s.heard l h).setFlag (R.LANE_STAT l) F.LANE_STAT_LOCK true
    else s.heard l h := by
  unfold State.takeSync State.heard State.withHeader
  rw [hh]
  cases validHeader h <;> rfl

theorem regsBut_heard (s : State) (l : Nat) (h : BitVec 2) : RegsBut [R.LANE_ERR l] s (s.heard l h) :=
  (((RegsBut.refl _ s).ite ((RegsBut.refl _ s).satAdd (by simp)))).modLn

theorem regs_heard_of_valid (hv : validHeader h = true) : (s.heard l h).regs = s.regs := by
  rw [State.heard, hv]
  rfl

theorem ln_heard : (s.heard l h).ln l = { s.ln l with headers := s.withHeader l h } := by
  rw [State.heard, State.ln_modLn_same]
  split
  · rfl
  · rw [State.ln_satAdd]

theorem unitsBut_heard (s : State) (l : Nat) (h : BitVec 2) : UnitsBut State.ln l s (s.heard l h) := by
  have hcount : UnitsBut State.ln l s (if validHeader h then s else s.satAdd (R.LANE_ERR l) F.LANE_ERR_SYNC 1) := by
    split
    · exact UnitsBut.refl _ l s
    · exact unitsBut_satAdd_ln s l _ _ 1
  exact hcount.modLn

theorem lock_heard : (s.heard l h).flag (R.LANE_STAT l) F.LANE_STAT_LOCK = s.flag (R.LANE_STAT l) F.LANE_STAT_LOCK :=
  (regsBut_heard s l h).flag (by simpa using LANE_STAT_ne_ERR l) _

theorem laneState_heard : (s.heard l h).laneState l = s.laneState l :=
  (regsBut_heard s l h).fld (by simpa using LANE_STAT_ne_ERR l) _

/-- A row of 64 valid headers ends with a valid one. -/
theorem valid_of_leadTrue (hlead : leadTrue (s.withHeader l h) = 64) : validHeader h = true := by
  cases hv : validHeader h with
  | true => rfl
  | false =>
    rw [State.withHeader, hv, List.take_succ_cons, leadTrue] at hlead
    · exact absurd hlead (by decide)
    · exact fun bs hbs => absurd hbs (by simp)

theorem leadTrue_of_invalid (hv : validHeader h = false) : leadTrue (s.withHeader l h) ≠ 64 := fun hlead =>
  absurd (valid_of_leadTrue hlead) (by rw [hv]; exact Bool.false_ne_true)

theorem lockDropped_effect (s : State) (l : Nat) : (s.lockDropped l).flag (R.LANE_STAT l) F.LANE_STAT_LOCK = false ∧
    (s.lockDropped l).laneState l = s.laneState l ∧ (s.lockDropped l).ln l = { s.ln l with headers := [] } ∧
    (s.lockDropped l).fld (R.LANE_ERR l) F.LANE_ERR_LOCKLOSS =
      min (s.fld (R.LANE_ERR l) F.LANE_ERR_LOCKLOSS + 1) (2 ^ F.LANE_ERR_LOCKLOSS.width - 1) ∧
    (s.lockDropped l).flag R.LANE_ISR F.LANE_ISR_LOCKLOSS = true ∧
    RegsBut [R.LANE_STAT l, R.LANE_ERR l, R.LANE_ISR] s (s.lockDropped l) := by
  have hraise (u : State) {a : Nat} (ha : a ≠ R.LANE_ISR) (f : Field) :
      (u.raise R.LANE_ISR F.LANE_ISR_LOCKLOSS).fld a f = u.fld a f := (State.regsBut_raise u _ _).fld (by simpa using ha) f
  refine ⟨?_, ?_, ?_, ?_, State.flag_raise_same _ _ _ (by decide) (by decide), ?_⟩
  · refine (congrArg (fun k => decide (k ≠ 0)) ((hraise _ (LANE_STAT_ne_ISR l) F.LANE_STAT_LOCK).trans
      (State.fld_setFld_reg _ _ _ _ _ _ (LANE_STAT_ne_ERR l)))).trans ?_
    exact State.flag_setFlag_same s (R.LANE_STAT l) F.LANE_STAT_LOCK false (by decide) (by decide)
  · exact ((hraise _ (LANE_STAT_ne_ISR l) F.LANE_STAT_STATE).trans (State.fld_setFld_reg _ _ _ _ _ _ (LANE_STAT_ne_ERR l))).trans
      (State.fld_setFld_field s (R.LANE_STAT l) F.LANE_STAT_LOCK F.LANE_STAT_STATE 0 (by decide) (by decide))
  · rw [State.lockDropped, State.ln_modLn_same, State.ln_raise, State.ln_satAdd, State.ln_setFlag]
  · refine (hraise _ (LANE_ERR_ne_ISR l) F.LANE_ERR_LOCKLOSS).trans ?_
    rw [fld_satAdd_same _ _ _ _ (by decide), State.fld, State.reg_setFlag_ne _ _ _ _ _ (LANE_STAT_ne_ERR l).symm, ← State.fld]
  · exact ((((RegsBut.refl [R.LANE_STAT l, R.LANE_ERR l, R.LANE_ISR] s).setFlag (by simp)).satAdd (by simp)).raise (by simp)).modLn

theorem lostLock_eq (s : State) (l : Nat) :
    s.lostLock l = if s.laneState l = 5 then (s.lockDropped l).retrain l else s.lockDropped l := by
  obtain ⟨-, hstate, -⟩ := lockDropped_effect s l
  rw [← hstate]
  rfl

theorem keeps_lockDropped (s : State) (l : Nat) : Keeps (.lane :: irqParts) s (s.lockDropped l) :=
  keeps_State_modLn (by decide) l _ (keeps_State_raise (by decide) _ _ (keeps_State_satAdd (by decide) _ _ _
    (keeps_State_setFlag (by decide) _ _ _ (Keeps.refl (.lane :: irqParts) s))))

theorem keeps_heard (s : State) (l : Nat) (h : BitVec 2) : Keeps (.lane :: irqParts) s (s.heard l h) :=
  keeps_State_modLn (by decide) l _
    (Keeps.ite (Keeps.refl (.lane :: irqParts) s) (keeps_State_satAdd (by decide) _ _ _ (Keeps.refl _ s)))

variable (hl : l < 40) (hp : s.lanePresent l = true) (hu : s.up (laneDomain l) = true)
include hl hp hu

theorem exec_blockLock (headers : List (BitVec 2)) : exec (.blockLock ⟨l, headers⟩) s = .next (s.takeSyncs l headers) :=
  (onLane_next hl hp hu : execBlockLock ⟨l, headers⟩ s = _)

theorem exec_lockLoss (headers : List (BitVec 2)) : exec (.lockLoss ⟨l, headers⟩) s = .next (s.takeSyncs l headers) :=
  (onLane_next hl hp hu : execLockLoss ⟨l, headers⟩ s = _)

theorem only_blockLock {headers : List (BitVec 2)} {t : State} (e : exec (.blockLock ⟨l, headers⟩) s = .next t) :
    Only [.regs, .port, .lane, .head, .pci, .out] s t :=
  ((keeps_execBlockLock (List.Subset.refl _) ⟨l, headers⟩ (Keeps.refl _ s)).next t e).only

/-- The header that completes a row of 64 valid ones gives block lock. -/
theorem blockLock_locks (hh : s.hears l = true) (hlock : s.flag (R.LANE_STAT l) F.LANE_STAT_LOCK = false)
    (hlead : leadTrue (s.withHeader l h) = 64) : ∃ t, exec (.blockLock ⟨l, [h]⟩) s = .next t ∧
      Only [.regs, .port, .lane, .head, .pci, .out] s t ∧ t.flag (R.LANE_STAT l) F.LANE_STAT_LOCK = true ∧
      t.laneState l = s.laneState l ∧ (t.ln l).headers = s.withHeader l h ∧ RegsBut [R.LANE_STAT l] s t ∧ UnitsBut State.ln l s t := by
  have e : exec (.blockLock ⟨l, [h]⟩) s = .next (s.takeSync l h) := exec_blockLock hl hp hu [h]
  rw [takeSync_eq hh, lock_heard, hlock, if_neg Bool.false_ne_true, if_pos hlead] at e
  refine ⟨_, e, only_blockLock e, State.flag_setFlag_same _ _ _ true (by decide) (by decide), ?_, ?_, ?_, ?_⟩
  · exact (State.fld_setFld_field (s.heard l h) (R.LANE_STAT l) F.LANE_STAT_LOCK F.LANE_STAT_STATE 1 (by decide) (by decide)).trans
      laneState_heard
  · rw [State.ln_setFlag, ln_heard]
  · exact ((RegsBut.refl [R.LANE_STAT l] s).of_regs (regs_heard_of_valid (valid_of_leadTrue hlead))).setFlag (by simp)
  · exact (unitsBut_heard s l h).of_lane (State.setFlag_lane _ _ _ _)

/-- An invalid header without lock is counted. -/
theorem blockLock_counts (hh : s.hears l = true) (hv : validHeader h = false) (hlock : s.flag (R.LANE_STAT l) F.LANE_STAT_LOCK = false) :
    ∃ t, exec (.blockLock ⟨l, [h]⟩) s = .next t ∧ Only [.regs, .port, .lane, .head, .pci, .out] s t ∧
      t.fld (R.LANE_ERR l) F.LANE_ERR_SYNC = min (s.fld (R.LANE_ERR l) F.LANE_ERR_SYNC + 1) (2 ^ F.LANE_ERR_SYNC.width - 1) ∧
      (t.ln l).headers = s.withHeader l h ∧ RegsBut [R.LANE_ERR l] s t ∧ UnitsBut State.ln l s t := by
  have e : exec (.blockLock ⟨l, [h]⟩) s = .next (s.takeSync l h) := exec_blockLock hl hp hu [h]
  rw [takeSync_eq hh, lock_heard, hlock, if_neg Bool.false_ne_true, if_neg (leadTrue_of_invalid hv)] at e
  refine ⟨_, e, only_blockLock e, ?_, by rw [ln_heard], regsBut_heard s l h, unitsBut_heard s l h⟩
  rw [State.heard, hv, if_neg Bool.false_ne_true]
  exact fld_satAdd_same s (R.LANE_ERR l) F.LANE_ERR_SYNC 1 (by decide)

theorem exec_lockLoss_lost (hh : s.hears l = true) (hlock : s.flag (R.LANE_STAT l) F.LANE_STAT_LOCK = true)
    (h16 : 16 ≤ ((s.withHeader l h).filter fun b => !b).length) :
    exec (.lockLoss ⟨l, [h]⟩) s = .next ((s.heard l h).lostLock l) := by
  have e : exec (.lockLoss ⟨l, [h]⟩) s = .next (s.takeSync l h) := exec_lockLoss hl hp hu [h]
  rw [takeSync_eq hh, lock_heard, hlock, if_pos rfl, if_pos h16] at e
  exact e

/-- In TRAIN a loss of lock is counted and reported, and the lane stays. -/
theorem lockLoss_in_train (h2 : s.laneState l = 2) (hv : validHeader h = true) (hlock : s.flag (R.LANE_STAT l) F.LANE_STAT_LOCK = true)
    (h16 : 16 ≤ ((s.withHeader l h).filter fun b => !b).length) : ∃ t, exec (.lockLoss ⟨l, [h]⟩) s = .next t ∧
      Only (.lane :: irqParts) s t ∧ t.flag (R.LANE_STAT l) F.LANE_STAT_LOCK = false ∧ t.laneState l = 2 ∧ (t.ln l).headers = [] ∧
      t.fld (R.LANE_ERR l) F.LANE_ERR_LOCKLOSS =
        min (s.fld (R.LANE_ERR l) F.LANE_ERR_LOCKLOSS + 1) (2 ^ F.LANE_ERR_LOCKLOSS.width - 1) ∧
      t.flag R.LANE_ISR F.LANE_ISR_LOCKLOSS = true ∧ RegsBut [R.LANE_STAT l, R.LANE_ERR l, R.LANE_ISR] s t := by
  have e := exec_lockLoss_lost hl hp hu (by rw [State.hears, h2]; rfl) hlock h16
  rw [lostLock_eq, laneState_heard, h2, if_neg (by decide)] at e
  obtain ⟨hnone, hstate, hln, hcount, hisr, hregs⟩ := lockDropped_effect (s.heard l h) l
  have hsame : RegsBut [R.LANE_STAT l, R.LANE_ERR l, R.LANE_ISR] s (s.heard l h) := (RegsBut.refl _ s).of_regs (regs_heard_of_valid hv)
  refine ⟨_, e, ((keeps_heard s l h).trans (keeps_lockDropped _ l)).only, hnone, hstate.trans (laneState_heard.trans h2), by rw [hln], ?_, hisr, hsame.trans hregs⟩
  rw [hcount, State.fld, reg_of_same (regs_heard_of_valid hv), State.fld]

/-- In ACTIVE a loss of lock takes an enabled lane back to TRAIN. -/
theorem lockLoss_in_active (h5 : s.laneState l = 5) (hlock : s.flag (R.LANE_STAT l) F.LANE_STAT_LOCK = true)
    (h16 : 16 ≤ ((s.withHeader l h).filter fun b => !b).length) (hen : s.laneEnabled l = true) (hst : s.userStays l = true) :
    ∃ t, exec (.lockLoss ⟨l, [h]⟩) s = .next t ∧ Only [.regs, .port, .lane, .head, .pci, .out] s t ∧
      t.flag (R.LANE_STAT l) F.LANE_STAT_LOCK = false ∧ t.laneState l = 2 ∧ (t.ln l).since = s.time.mt := by
  have e := exec_lockLoss_lost hl hp hu (by rw [State.hears, h5]; rfl) hlock h16
  rw [lostLock_eq, laneState_heard, if_pos h5] at e
  obtain ⟨hnone, hstate, -, -, -, hregs⟩ := lockDropped_effect (s.heard l h) l
  have hchain : RegsBut [R.LANE_STAT l, R.LANE_ERR l, R.LANE_ISR] s ((s.heard l h).lockDropped l) :=
    ((regsBut_heard s l h).mono (by simp)).trans hregs
  have hreg (a : Nat) (ha : a < 0x240000 ∨ 0x250000 ≤ a) : ((s.heard l h).lockDropped l).reg a = s.reg a :=
    hchain a (by simp only [List.mem_cons, List.not_mem_nil, or_false, R.LANE_STAT, R.LANE_ERR, R.LANE_ISR]; omega)
  have hkeeps := (keeps_heard s l h).trans (keeps_lockDropped _ l)
  have hports : SamePortRegs s ((s.heard l h).lockDropped l) := fun a _ ha => hreg a (by omega)
  have hvar := hkeeps.part .variant rfl
  have hport := hkeeps.part .port rfl
  have htime := hkeeps.part .time rfl
  have huser : ((s.heard l h).lockDropped l).laneUser l = s.laneUser l := laneUser_congr hvar hport hports
  have hstays : ((s.heard l h).lockDropped l).userStays l = true := by
    rw [State.userStays, huser]
    cases hl' : s.laneUser l with
    | none => rfl
    | some p =>
      have hp8 : p < 8 := Nat.lt_of_lt_of_le (laneUser_some hl').1 (hoopLanes_le s)
      rw [State.userStays, hl'] at hst
      rw [Option.all_some, fld_of_reg (hreg _ (by unfold R.HOOP_PT_STAT; omega))]
      exact hst
  have henabled := (laneEnabled_congr (l := l) hvar hport hports (hreg _ (by unfold R.HL_CH_CFG; omega))).trans hen
  obtain ⟨hback, hsince, hkept, -⟩ := retrain_effect hl ((hstate.trans laneState_heard).trans h5) henabled hstays
  exact ⟨_, e, ((keeps_execLockLoss (List.Subset.refl _) ⟨l, [h]⟩ (Keeps.refl _ s)).next _ e).only, hkept.trans hnone, hback,
    by rw [hsince, htime]⟩

end

end Sys2Proof.Machine

/-! # Capability exchange, training blocks and alignment of a serial lane (O40) -/

namespace Sys2Proof.Machine

-- As above: the proofs of this part are elaborated one after another, which keeps the check within its memory.
set_option deprecated.oldSectionVars true

/-! ### Probes and training times (R330) -/

theorem unitsBut_modLn (s : State) (l : Nat) (f : Lane → Lane) : UnitsBut State.ln l s (s.modLn l f) := (UnitsBut.refl State.ln l s).modLn

theorem laneState_modLn (s : State) (l m : Nat) (f : Lane → Lane) : (s.modLn m f).laneState l = s.laneState l :=
  laneState_of_reg (State.modLn_reg s m f _)

section
variable {s : State} {l : Nat}

theorem regsBut_adapt (s : State) (l : Nat) : RegsBut [R.LANE_RXEQ l] s (s.adapt l) := by
  unfold State.adapt
  split
  · have hdrawn : RegsBut [R.LANE_RXEQ l] s s.draw.2 := (RegsBut.refl _ s).of_regs rfl
    exact (hdrawn.setFld (by simp)).setFld (by simp)
  · exact RegsBut.refl _ s

theorem lane_adapt (s : State) (l : Nat) : (s.adapt l).lane = s.lane :=
  (keeps_State_adapt (List.Subset.refl _) l (Keeps.refl _ s)).part .lane rfl

variable (hl : l < 40) (hp : s.lanePresent l = true) (hu : s.up (laneDomain l) = true)

theorem exec_terminationProbe {found : Bool} (h1 : s.laneState l = 1) (hd : s.probeDue l = true) :
    exec (.terminationProbe l found) s = .next (if found then s.setLane l 2 else s.probe l) := by
  have hx : exec (.terminationProbe l found) s = execTerminationProbe l found s := rfl
  rw [hx, execTerminationProbe, onLane_next hl hp hu]
  exact congrArg _ (if_pos ⟨h1, hd⟩)

theorem terminationProbe_effect {found : Bool} (h1 : s.laneState l = 1) (hd : s.probeDue l = true) :
    ∃ t, exec (.terminationProbe l found) s = .next t ∧ Only [.regs, .lane] s t ∧ (t.laneState l = (if found then 2 else 1)) ∧
      (found = true → (t.ln l).since = s.time.mt) ∧ (found = false → (t.ln l).probed = some s.time.mt) ∧
      RegsBut [R.LANE_STAT l] s t ∧ UnitsBut State.ln l s t := by
  have e := exec_terminationProbe hl hp hu (found := found) h1 hd
  have honly := ((keeps_execTerminationProbe (List.Subset.refl _) l found (Keeps.refl _ s)).next _ e).only
  cases found with
  | true =>
    exact ⟨_, e, honly, laneState_setLane s l (by decide), fun _ => by rw [if_pos rfl, ln_setLane]; rfl, fun h => absurd h (by decide),
      regsBut_setLane s l 2, unitsBut_setLane s l 2⟩
  | false =>
    rw [if_neg Bool.false_ne_true] at e honly
    refine ⟨_, e, honly, (laneState_modLn s l l _).trans h1, fun h => absurd h (by decide), fun _ => ?_, (RegsBut.refl _ s).modLn,
      unitsBut_modLn s l _⟩
    rw [State.probe, State.ln_modLn_same]

theorem exec_trainTimer (h2 : s.laneState l = 2) (hlock : s.flag (R.LANE_STAT l) F.LANE_STAT_LOCK = true)
    (ht : nsU (1000 * s.laneTT l) ≤ s.laneFor l) : exec (.trainTimer l) s = .next ((s.adapt l).setLane l 4) := by
  have hx : exec (.trainTimer l) s = execTrainTimer l s := rfl
  rw [hx, execTrainTimer, onLane_next hl hp hu]
  exact congrArg _ (if_pos ⟨h2, hlock, ht⟩)

theorem trainTimer_effect (h2 : s.laneState l = 2) (hlock : s.flag (R.LANE_STAT l) F.LANE_STAT_LOCK = true)
    (ht : nsU (1000 * s.laneTT l) ≤ s.laneFor l) : ∃ t, exec (.trainTimer l) s = .next t ∧ Only [.regs, .lane, .free] s t ∧
      t.laneState l = 4 ∧ (t.ln l).caps = 0 ∧ (t.ln l).ack = false ∧ RegsBut [R.LANE_STAT l, R.LANE_RXEQ l] s t ∧
      UnitsBut State.ln l s t := by
  have e := exec_trainTimer hl hp hu h2 hlock ht
  have hadapted : UnitsBut State.ln l s (s.adapt l) := (UnitsBut.refl State.ln l s).of_lane (lane_adapt s l)
  refine ⟨_, e, ((keeps_execTrainTimer (List.Subset.refl _) l (Keeps.refl _ s)).next _ e).only, laneState_setLane _ l (by decide), ?_, ?_,
    ((regsBut_adapt s l).mono (by simp)).trans ((regsBut_setLane _ l 4).mono (by simp)), hadapted.trans (unitsBut_setLane _ l 4)⟩
  all_goals rw [ln_setLane]; rfl

theorem exec_trainfail (h2 : s.laneState l = 2) (hlock : s.flag (R.LANE_STAT l) F.LANE_STAT_LOCK = false)
    (ht : nsU (10000 * s.laneTT l) ≤ s.laneFor l) : exec (.trainfail l) s =
      .next (((s.setLane l 1).satAdd (R.LANE_ERR l) F.LANE_ERR_TRAINFAIL 1).raise R.LANE_ISR F.LANE_ISR_TRAINFAIL) := by
  have hx : exec (.trainfail l) s = execTrainfail l s := rfl
  rw [hx, execTrainfail, onLane_next hl hp hu]
  exact congrArg _ (if_pos ⟨h2, by rw [hlock]; rfl, ht⟩)

theorem trainfail_effect (h2 : s.laneState l = 2) (hlock : s.flag (R.LANE_STAT l) F.LANE_STAT_LOCK = false)
    (ht : nsU (10000 * s.laneTT l) ≤ s.laneFor l) : ∃ t, exec (.trainfail l) s = .next t ∧ Only [.regs, .lane, .pci, .out] s t ∧
      t.laneState l = 1 ∧
      t.fld (R.LANE_ERR l) F.LANE_ERR_TRAINFAIL =
        min (s.fld (R.LANE_ERR l) F.LANE_ERR_TRAINFAIL + 1) (2 ^ F.LANE_ERR_TRAINFAIL.width - 1) ∧
      t.flag R.LANE_ISR F.LANE_ISR_TRAINFAIL = true ∧ RegsBut [R.LANE_STAT l, R.LANE_ERR l, R.LANE_ISR] s t ∧ UnitsBut State.ln l s t := by
  have e := exec_trainfail hl hp hu h2 hlock ht
  have hraise (u : State) := State.regsBut_raise u R.LANE_ISR F.LANE_ISR_TRAINFAIL
  refine ⟨_, e, ((keeps_execTrainfail (List.Subset.refl _) l (Keeps.refl _ s)).next _ e).only, ?_, ?_,
    State.flag_raise_same _ _ _ (by decide) (by decide), ?_, ?_⟩
  · rw [laneState_of_reg (hraise _ _ (by simpa using LANE_STAT_ne_ISR l)),
      State.satAdd, laneState_of_reg (State.reg_setFld_ne _ _ _ _ _ (LANE_STAT_ne_ERR l)), laneState_setLane s l (by decide)]
  · rw [(hraise _).fld (by simpa using LANE_ERR_ne_ISR l), fld_satAdd_same _ _ _ _ (by decide),
      (regsBut_setLane s l 1).fld (by simpa using (LANE_STAT_ne_ERR l).symm)]
  · exact (((regsBut_setLane s l 1).mono (by simp)).satAdd (by simp)).raise (by simp)
  · exact ((unitsBut_setLane s l 1).of_lane (State.satAdd_lane _ _ _ _)).of_lane (State.raise_lane _ _ _)

theorem exec_capexTimeout (h4 : s.laneState l = 4) (herr : s.flag (R.LANE_STAT l) F.LANE_STAT_CAPERR = false)
    (ht : ticksU 1250000 ≤ s.laneFor l) : exec (.capexTimeout l) s = .next (s.setLane l 1) := by
  have hx : exec (.capexTimeout l) s = execCapexTimeout l s := rfl
  rw [hx, execCapexTimeout, onLane_next hl hp hu]
  exact congrArg _ (if_pos ⟨h4, by rw [herr]; rfl, ht⟩)

end

/-! ### Capability exchange (R332) -/

/-- Identical CAP payloads in a row, with one more (R332). -/
def Lane.capCount (q : Lane) (w : Nat) : Nat := if q.caps ≠ 0 ∧ q.cap = w then min 3 (q.caps + 1) else 1

theorem capCount_third {q : Lane} {w : Nat} (h : q.caps = 2) (hw : q.cap = w) : q.capCount w = 3 := by
  rw [Lane.capCount, if_pos ⟨by rw [h]; decide, hw⟩, h]
  rfl

theorem capCount_first {q : Lane} (h : q.caps = 0) (w : Nat) : q.capCount w = 1 := if_neg fun hne => hne.1 h

/-- The last CAP payload, and how many identical ones came. -/
def State.capCounted (s : State) (l w n : Nat) : State := s.modLn l fun q => { q with cap := w, caps := n }

section
variable {s : State} {l : Nat} {b : Block}

/-- What a lane does with a CAP block in CAPEX. -/
theorem exec_capReceived (hl : l < 40) (hp : s.lanePresent l = true) (hu : s.up (laneDomain l) = true) (h4 : s.laneState l = 4)
    (herr : s.flag (R.LANE_STAT l) F.LANE_STAT_CAPERR = false) (hb : isCtl b 0x3C = true) :
    exec (.capReceived l b) s = .next
      (if (s.ln l).ack && bitAt b.payload.toNat 24 then s.enterActive l
       else
         let u := s.capCounted l b.payload.toNat ((s.ln l).capCount b.payload.toNat)
         if (s.ln l).capCount b.payload.toNat < 3 ∨ (s.ln l).ack then u
         else if (u.capOk l b.payload.toNat).1 then u.capTake l b.payload.toNat
         else u.capFail l (u.capOk l b.payload.toNat).2) := by
  have hx : exec (.capReceived l b) s = execCapReceived l b s := rfl
  rw [hx, execCapReceived, onLane_next hl hp hu, onBlock_of_not_stray (not_stray_of_isCtl hb (by decide))]
  dsimp only
  rw [if_neg (by rw [h4, hb, herr]; decide)]
  rfl

theorem capOk_head (hl : l < 32) (w : Nat) : s.capOk l w = (decide (bits w 8 8 = 2) && decide (bits w 16 8 = 1), false) := if_pos hl

/-- The third identical block is checked. -/
theorem exec_capReceived_third (hl : l < 40) (hp : s.lanePresent l = true) (hu : s.up (laneDomain l) = true) (hhead : l < 32)
    (h4 : s.laneState l = 4) (herr : s.flag (R.LANE_STAT l) F.LANE_STAT_CAPERR = false) (hack : (s.ln l).ack = false)
    (hcaps : (s.ln l).caps = 2) (hcap : (s.ln l).cap = b.payload.toNat) (hb : isCtl b 0x3C = true) :
    exec (.capReceived l b) s = .next
      (if bits b.payload.toNat 8 8 = 2 ∧ bits b.payload.toNat 16 8 = 1 then (s.capCounted l b.payload.toNat 3).capTake l b.payload.toNat
       else (s.capCounted l b.payload.toNat 3).capFail l false) := by
  rw [exec_capReceived hl hp hu h4 herr hb, hack, capCount_third hcaps hcap, Bool.false_and, if_neg Bool.false_ne_true]
  dsimp only
  rw [if_neg (by decide), capOk_head hhead]
  simp only [Bool.and_eq_true, decide_eq_true_eq]

/-- The word of HL_CH_CAP. -/
def capWord (w : Nat) : Word :=
  withField F.HL_CH_CAP_VER (withField F.HL_CH_CAP_AXES (withField F.HL_CH_CAP_HID 0 (bits w 32 16)) (bits w 48 3)) (bits w 16 8)

theorem capWord_fields (w : Nat) : field F.HL_CH_CAP_VER (capWord w) = bits w 16 8 ∧ field F.HL_CH_CAP_HID (capWord w) = bits w 32 16 ∧
    field F.HL_CH_CAP_AXES (capWord w) = bits w 48 3 := by
  refine ⟨?_, ?_, ?_⟩
  · exact (field_withField_same _ _ _ (by decide)).trans (Nat.mod_mod _ _)
  · rw [capWord, field_withField_ne _ _ _ _ (by decide) (by decide), field_withField_ne _ _ _ _ (by decide) (by decide)]
    exact (field_withField_same _ _ _ (by decide)).trans (Nat.mod_mod _ _)
  · rw [capWord, field_withField_ne _ _ _ _ (by decide) (by decide)]
    exact (field_withField_same _ _ _ (by decide)).trans (Nat.mod_mod _ _)

/-- A head's capabilities taken. -/
theorem capTake_head (hl : l < 32) (w : Nat) :
    s.capTake l w = (s.modLn l fun q => { q with ack := true }).setReg (R.HL_CH_CAP l) (capWord w) := if_pos hl

theorem HL_CH_CAP_ne_LANE_STAT {l : Nat} (_ : l < 32) : R.LANE_STAT l ≠ R.HL_CH_CAP l := by unfold R.LANE_STAT R.HL_CH_CAP; omega

/-- The end of a capability check of a lane that no port uses. -/
theorem capFail_no_user (h : s.laneUser l = none) (dup : Bool) :
    s.capFail l dup = (s.setFlag (R.LANE_STAT l) F.LANE_STAT_CAPERR true).raise R.LANE_ISR F.LANE_ISR_CAPERR := by
  have hkeeps : Keeps irqParts s ((s.setFlag (R.LANE_STAT l) F.LANE_STAT_CAPERR true).raise R.LANE_ISR F.LANE_ISR_CAPERR) :=
    keeps_State_raise (by decide) _ _ (keeps_State_setFlag (by decide) _ _ _ (Keeps.refl _ s))
  have hregs : RegsBut [R.LANE_STAT l, R.LANE_ISR] s
      ((s.setFlag (R.LANE_STAT l) F.LANE_STAT_CAPERR true).raise R.LANE_ISR F.LANE_ISR_CAPERR) :=
    ((RegsBut.refl _ s).setFlag (by simp)).raise (by simp)
  have huser := (laneUser_congr (l := l) (hkeeps.part .variant rfl) (hkeeps.part .port rfl) fun a _ ha =>
    hregs a (by simp only [List.mem_cons, List.not_mem_nil, or_false, R.LANE_STAT, R.LANE_ISR]; omega)).trans h
  rw [State.capFail, huser]

/-! ### A lane that becomes ACTIVE (R335, R348) -/

theorem regsBut_launchCfg (s : State) (n : Nat) : RegsBut [R.HL_CH_AUX n, R.HL_CH_STAT n] s (s.launchCfg n) := by
  unfold State.launchCfg
  dsimp only
  split
  · exact ((RegsBut.refl [R.HL_CH_AUX n, R.HL_CH_STAT n] s).modHd.setFlag (by simp)).setFlag (by simp)
  · exact RegsBut.refl _ s

theorem regsBut_portUp (s : State) (p : Nat) : RegsBut [R.HOOP_PT_STAT p] s (s.portUp p) := by
  unfold State.portUp
  dsimp only
  split
  · exact (RegsBut.refl [R.HOOP_PT_STAT p] s).modPt.setFld (by simp)
  · exact RegsBut.refl _ s

/-- Entering ACTIVE, the lane's own state and status word are those of `setLane`. -/
theorem enterActive_lane : (s.enterActive l).ln l = (s.setLane l 5).ln l ∧
    (s.enterActive l).reg (R.LANE_STAT l) = (s.setLane l 5).reg (R.LANE_STAT l) := by
  unfold State.enterActive
  dsimp only
  split
  · have hlaunch (u : State) := regsBut_launchCfg u l
    have hkeeps (u : State) := keeps_State_launchCfg (List.Subset.refl _) l (Keeps.refl _ u)
    refine ⟨ln_of_lane ((hkeeps _).part .lane rfl) l, hlaunch _ _ ?_⟩
    simp only [List.mem_cons, List.not_mem_nil, or_false, R.LANE_STAT, R.HL_CH_AUX, R.HL_CH_STAT]
    omega
  · split
    · rename_i p hp
      have hp8 : p < 8 := Nat.lt_of_lt_of_le (laneUser_some hp).1 (hoopLanes_le _)
      have hkeeps := keeps_State_portUp (List.Subset.refl _) p (Keeps.refl _ (s.setLane l 5))
      refine ⟨ln_of_lane (hkeeps.part .lane rfl) l, regsBut_portUp _ p _ ?_⟩
      simp only [List.mem_singleton, R.LANE_STAT, R.HOOP_PT_STAT]
      omega
    · exact ⟨rfl, rfl⟩

theorem enterActive_effect : (s.enterActive l).laneState l = 5 ∧ ((s.enterActive l).ln l).since = s.time.mt ∧
    ((s.enterActive l).ln l).ack = false := by
  obtain ⟨hln, hreg⟩ := enterActive_lane (s := s) (l := l)
  rw [laneState_of_reg hreg, hln, ln_setLane]
  exact ⟨laneState_setLane s l (by decide), rfl, rfl⟩

end

/-! ### Training blocks, stray blocks, alignment (R329, R330, R335) -/

section
variable {s : State} {l p : Nat} {b : Block}

theorem exec_trainBlockReceived (hl : l < 40) (hp : s.lanePresent l = true) (hu : s.up (laneDomain l) = true) (h5 : s.laneState l = 5)
    (hb : isCtl b 0x2D = true) : exec (.trainBlockReceived ⟨l, b⟩) s = .next (s.retrain l) := by
  have hx : exec (.trainBlockReceived ⟨l, b⟩) s = execTrainBlockReceived ⟨l, b⟩ s := rfl
  rw [hx, execTrainBlockReceived, onLane_next hl hp hu, onBlock_of_not_stray (not_stray_of_isCtl hb (by decide))]
  exact congrArg _ (if_pos ⟨h5, hb⟩)

theorem exec_trainBlockReceived_stray (hl : l < 40) (hp : s.lanePresent l = true) (hu : s.up (laneDomain l) = true)
    (hb : strayBlock b = true) : exec (.trainBlockReceived ⟨l, b⟩) s = .next (s.countStray l [b]) := by
  have hx : exec (.trainBlockReceived ⟨l, b⟩) s = execTrainBlockReceived ⟨l, b⟩ s := rfl
  rw [hx, execTrainBlockReceived, onLane_next hl hp hu, State.onBlock, hb]
  rfl

/-- The arrival of a lane's ALIGN block noted. -/
def State.alignNoted (s : State) (p l : Nat) : State :=
  s.modPt p fun q => { q with aligned := (l, s.time.mt) :: q.aligned.filter fun e => decide (e.1 ≠ l) }

theorem exec_alignReceived (hl : l < 40) (hp : s.lanePresent l = true) (hu : s.up (laneDomain l) = true) (h32 : 32 ≤ l)
    (huser : s.laneUser l = some p) (h5 : s.laneState l = 5) (hb : isCtl b 0xA5 = true) (hi : bits b.payload.toNat 8 2 = l - 32 - p) :
    exec (.alignReceived l b) s = .next ((s.alignNoted p l).portUp p) := by
  have hx : exec (.alignReceived l b) s = execAlignReceived l b s := rfl
  rw [hx, execAlignReceived, onLane_next hl hp hu, onBlock_of_not_stray (not_stray_of_isCtl hb (by decide)), huser]
  exact congrArg _ (if_pos ⟨h32, h5, hb, hi⟩)

theorem aligned_portUp (s : State) (p : Nat) : ((s.portUp p).pt p).aligned = (s.pt p).aligned := by
  unfold State.portUp
  dsimp only
  split
  · rw [State.pt_setFld, State.pt_modPt_same]
  · rfl

theorem unitsBut_portUp (s : State) (p : Nat) : UnitsBut State.pt p s (s.portUp p) := by
  unfold State.portUp
  dsimp only
  split
  · exact (UnitsBut.refl State.pt p s).modPt.of_port (State.setFld_port _ _ _ _)
  · exact UnitsBut.refl _ p s

end

/-! ### The statement -/

/-- Settles O40: every lane event takes place through `onLane_next`, a lane enters a state by `setLane`, and a lane that leaves ACTIVE
stays with its user, whose port does not drain. -/
theorem laneBringUp : Obligations.LaneBringUp := by
  refine ⟨?_, ?_, ?_, ?_, ?_, ?_, ?_, ?_, ?_, ?_, ?_, ?_, ?_, ?_, ?_, ?_, ?_, ?_, ?_, ?_⟩
  · intro s n v hn hup h0
    exact headLaneEnable_effect hn hup h0
  · intro s n v hn hch h8
    exact headLaneDisable_effect hn hch h8
  · intro s n v hn h2 h7 hen
    exact headLaneDisable_refused hn h2 h7 hen
  · intro s l found hl hp hu h1 hd
    exact terminationProbe_effect hl hp hu h1 hd
  · intro s l headers hl hp hu
    exact next_of_keeps (keeps_execBlockLock (List.Subset.refl _) ⟨l, headers⟩ (Keeps.refl _ s)) (exec_blockLock hl hp hu headers)
  · intro s l h hl hp hu hh hlock hlead
    exact blockLock_locks hl hp hu hh hlock hlead
  · intro s l h hl hp hu hh hv hlock
    exact blockLock_counts hl hp hu hh hv hlock
  · intro s l headers hl hp hu
    exact next_of_keeps (keeps_execLockLoss (List.Subset.refl _) ⟨l, headers⟩ (Keeps.refl _ s)) (exec_lockLoss hl hp hu headers)
  · intro s l h hl hp hu h2 hv hlock h16
    exact lockLoss_in_train hl hp hu h2 hv hlock h16
  · intro s l h hl hp hu h5 hlock h16 hen hst
    exact lockLoss_in_active hl hp hu h5 hlock h16 hen hst
  · intro s l hl hp hu h2 hlock ht
    exact trainTimer_effect hl hp hu h2 hlock ht
  · intro s l hl hp hu h2 hlock ht
    exact trainfail_effect hl hp hu h2 hlock ht
  · intro s l b hl hp hu hhead h4 herr hack hcaps hcap hb hkind hver
    have e := exec_capReceived_third hl hp hu hhead h4 herr hack hcaps hcap hb
    rw [if_pos ⟨hkind, hver⟩, capTake_head hhead] at e
    obtain ⟨hfver, hfhid, hfaxes⟩ := capWord_fields b.payload.toNat
    refine ⟨_, e, ?_, ?_, ?_, ?_, ?_, ?_, ?_, ?_⟩
    · exact (keeps_State_setReg (by decide) _ _ (keeps_State_modLn (by decide) l _ (keeps_State_modLn (by decide) l _
        (Keeps.refl [.regs, .lane] s)))).only
    · rw [State.ln_setReg, State.ln_modLn_same]
    · rw [laneState_of_reg (State.reg_setReg_ne _ _ _ _ (HL_CH_CAP_ne_LANE_STAT hhead)), laneState_modLn, State.capCounted, laneState_modLn, h4]
    · rw [State.fld, State.reg_setReg_same, hfver, hver]
    · rw [State.fld, State.reg_setReg_same, hfhid]
    · rw [State.fld, State.reg_setReg_same, hfaxes]
    · exact ((RegsBut.refl [R.HL_CH_CAP l] s).modLn.modLn).setReg (by simp)
    · exact ((UnitsBut.refl State.ln l s).modLn.modLn).of_lane (State.setReg_lane _ _ _)
  · intro s l b hl hp hu hhead h4 herr hack hcaps hcap hb hbad huser
    have e := exec_capReceived_third hl hp hu hhead h4 herr hack hcaps hcap hb
    have huser' : (s.capCounted l b.payload.toNat 3).laneUser l = none := (laneUser_congr rfl rfl fun a _ _ => State.modLn_reg _ _ _ a).trans huser
    rw [if_neg (by omega), capFail_no_user huser'] at e
    refine ⟨_, e, ?_, ?_, State.flag_raise_same _ _ _ (by decide) (by decide), ?_, ?_⟩
    · exact (keeps_State_raise (by decide) _ _ (keeps_State_setFlag (by decide) _ _ _ (keeps_State_modLn (by decide) l _
        (Keeps.refl (.lane :: irqParts) s)))).only
    · rw [State.flag_raise_ne _ _ _ (LANE_STAT_ne_ISR l)]
      exact State.flag_setFlag_same _ _ _ true (by decide) (by decide)
    · rw [laneState_of_reg (State.regsBut_raise _ _ _ _ (by simpa using LANE_STAT_ne_ISR l))]
      exact (State.fld_setFld_field (s.capCounted l b.payload.toNat 3) (R.LANE_STAT l) F.LANE_STAT_CAPERR F.LANE_STAT_STATE 1 (by decide)
        (by decide)).trans ((laneState_modLn s l l _).trans h4)
    · exact ((RegsBut.refl [R.LANE_STAT l, R.LANE_ISR] s).modLn.setFlag (by simp)).raise (by simp)
  · intro s l b hl hp hu h4 herr hack hcaps hb
    have e := exec_capReceived hl hp hu h4 herr hb
    rw [hack, capCount_first hcaps, Bool.false_and, if_neg Bool.false_ne_true] at e
    dsimp only at e
    rw [if_pos (Or.inl (by decide))] at e
    refine ⟨_, e, (keeps_State_modLn (by decide) l _ (Keeps.refl [.lane] s)).only, ?_, ?_, (laneState_modLn s l l _).trans h4,
      (RegsBut.refl [] s).modLn, unitsBut_modLn s l _⟩
    all_goals rw [State.capCounted, State.ln_modLn_same]
  · intro s l b hl hp hu h4 herr hack hb h24
    have e := exec_capReceived hl hp hu h4 herr hb
    rw [hack, h24, if_pos (Bool.and_self true)] at e
    exact ⟨_, e, ((keeps_execCapReceived (List.Subset.refl _) l b (Keeps.refl _ s)).next _ e).only, enterActive_effect⟩
  · intro s l hl hp hu h4 herr ht
    have e := exec_capexTimeout hl hp hu h4 herr ht
    exact ⟨_, e, ((keeps_execCapexTimeout (List.Subset.refl _) l (Keeps.refl _ s)).next _ e).only, laneState_setLane s l (by decide),
      regsBut_setLane s l 1, unitsBut_setLane s l 1⟩
  · intro s l b hl hp hu h5 hb hen hst
    have e := exec_trainBlockReceived hl hp hu h5 hb
    obtain ⟨hback, hsince, -, hhead⟩ := retrain_effect hl h5 hen hst
    exact ⟨_, e, ((keeps_execTrainBlockReceived (List.Subset.refl _) ⟨l, b⟩ (Keeps.refl _ s)).next _ e).only, hback, hsince, hhead⟩
  · intro s l b hl hp hu hb
    exact next_of_keeps (keeps_execTrainBlockReceived (List.Subset.refl _) ⟨l, b⟩ (Keeps.refl _ s)) (exec_trainBlockReceived_stray hl hp hu hb)
  · intro s l p b hl hp hu h32 huser h5 hb hi
    have e := exec_alignReceived hl hp hu h32 huser h5 hb hi
    have hregs := regsBut_portUp (s.alignNoted p l) p
    have hp8 : p < 8 := Nat.lt_of_lt_of_le (laneUser_some huser).1 (hoopLanes_le s)
    refine ⟨_, e, ((keeps_execAlignReceived (List.Subset.refl _) l b (Keeps.refl _ s)).next _ e).only, ?_, ?_, ?_, ?_⟩
    · rw [aligned_portUp, State.alignNoted, State.pt_modPt_same]
    · rw [laneState_of_reg (hregs _ (by simp only [List.mem_singleton, R.LANE_STAT, R.HOOP_PT_STAT]; omega)),
        State.alignNoted, laneState_of_reg (State.modPt_reg s p _ _), h5]
    · exact (UnitsBut.modPt (UnitsBut.refl State.pt p s)).trans (unitsBut_portUp (s.alignNoted p l) p)
    · exact (RegsBut.refl [R.HOOP_PT_STAT p] s).modPt.trans hregs

end Sys2Proof.Machine

/-! # Handoff tokens, commitment, decision and end (O27) -/

namespace Sys2Proof.Machine

-- As above: the proofs of this part are elaborated one after another, which keeps the check within its memory.
set_option deprecated.oldSectionVars true

/-! ### Channels and lasers under changes elsewhere -/

theorem ls_of_lsr {s t : State} (h : t.lsr = s.lsr) (n : Nat) : t.ls n = s.ls n := by unfold State.ls; rw [h]

theorem UnitsBut.of_chan {s t u : State} {n : Nat} (h : UnitsBut State.ch n s t) (hu : u.chan = t.chan) : UnitsBut State.ch n s u :=
  fun m hm => (ch_of_chan hu m).trans (h m hm)

theorem UnitsBut.modCh {s t : State} {n : Nat} {f : Chan → Chan} (h : UnitsBut State.ch n s t) : UnitsBut State.ch n s (t.modCh n f) :=
  fun m hm => by rw [State.ch_modCh, if_neg hm, h m hm]

theorem unitsBut_modCh (s : State) (n : Nat) (f : Chan → Chan) : UnitsBut State.ch n s (s.modCh n f) :=
  (UnitsBut.refl State.ch n s).modCh

/-! ### Records in the event ring (R123, R124, R126) -/

theorem length_leBytes (x n : Nat) : (leBytes x n).length = n := by
  induction n generalizing x with
  | zero => rfl
  | succ n ih => rw [leBytes, List.length_cons, ih]

/-- The bytes of a number spell it again, where they are enough. -/
theorem leNat_leBytes {x n : Nat} (h : x < 256 ^ n) : leNat (leBytes x n) = x := by
  induction n generalizing x with
  | zero => rw [leBytes, leNat]; omega
  | succ n ih =>
    rw [leBytes, leNat, ih (by rw [pow_succ] at h; omega), BitVec.toNat_ofNat]
    omega

section
variable {s : State} {code chn stime d1 d2 : Nat} {cal : Stamp}

theorem length_recordBytes (layer : Nat) : (recordBytes code chn layer stime cal d1 d2).length = 64 := by
  simp only [recordBytes, List.length_append, List.length_cons, List.length_nil, length_leBytes, zeros, List.length_replicate]

theorem code_recordBytes (layer : Nat) (h : code < 2 ^ 16) : leAt (recordBytes code chn layer stime cal d1 d2) 0 2 = code :=
  leNat_leBytes (n := 2) h

theorem chn_recordBytes (layer : Nat) (h : chn < 2 ^ 8) : leAt (recordBytes code chn layer stime cal d1 d2) 2 1 = chn :=
  leNat_leBytes (n := 1) h

/-- The ring takes a record: it is on, has space, DRAM takes the record, and no record was lost before (R123, R126). -/
structure State.RingTakes (s : State) : Prop where
  on : s.flag R.SEQ_EVT_CTL F.SEQ_EVT_CTL_EN = true
  reachable : s.dramOk s.evtAddr 64 = true
  space : s.evtFull = false
  noLoss : s.grp.lostSince = 0

theorem postFull_of_ringTakes (h : s.RingTakes) : s.postFull code chn stime cal d1 d2 = s.evtWrite code chn stime cal d1 d2 := by
  simp [State.postFull, h.on, h.reachable, h.space, h.noLoss]

/-- A record written is the only change of DRAM. -/
theorem dram_evtWrite : (s.evtWrite code chn stime cal d1 d2).dram =
    (s.writeDram s.evtAddr (recordBytes code chn s.grp.layer stime cal d1 d2)).dram := by
  unfold State.evtWrite
  dsimp only
  split
  · rw [State.raise_dram, State.setFld_dram]
  · rw [State.setFld_dram]

theorem evtAddr_eq_line (s : State) :
    s.evtAddr = (s.fld R.SEQ_EVT_BASE F.SEQ_EVT_BASE_LINE + s.fld R.SEQ_EVT_WR F.SEQ_EVT_WR_INDEX) * 64 := by
  unfold State.evtAddr
  omega

theorem readDram_evtWrite (h : s.dramOk s.evtAddr 64 = true) :
    (s.evtWrite code chn stime cal d1 d2).readDram s.evtAddr 64 = recordBytes code chn s.grp.layer stime cal d1 d2 := by
  rw [readDram_of_dram dram_evtWrite]
  rw [evtAddr_eq_line] at h ⊢
  exact readDram_writeDram (n := 1) (length_recordBytes _) h

theorem sameDramBut_evtWrite : SameDramBut s.evtAddr 64 s (s.evtWrite code chn stime cal d1 d2) := fun a ha => by
  rw [dramByte_of_dram dram_evtWrite]
  exact sameDramBut_writeDram s s.evtAddr _ a (by rwa [length_recordBytes])

/-- A record posted to a ring that takes it stands at SEQ_EVT_WR, under its code and its channel, and nothing else of DRAM changes. -/
theorem post_effect (h : s.RingTakes) (hcode : code < 2 ^ 16) (hchn : chn < 2 ^ 8) :
    leAt ((s.post code chn d1 d2).readDram s.evtAddr 64) 0 2 = code ∧
    leAt ((s.post code chn d1 d2).readDram s.evtAddr 64) 2 1 = chn ∧
    SameDramBut s.evtAddr 64 s (s.post code chn d1 d2) := by
  rw [State.post, State.postAt, postFull_of_ringTakes h, readDram_evtWrite h.reachable]
  exact ⟨code_recordBytes _ hcode, chn_recordBytes _ hchn, sameDramBut_evtWrite⟩

end

/-! ### Tokens (R238, R239) -/

/-- A token that its channel stores: the channel is in the token's layer and has no HAND, the anchor is still to come, and the
store has room (R238, R239). -/
structure State.Stores (s : State) (tk : Token) : Prop where
  present : tk.toCh < s.channels
  participant : bitAt s.grp.pmask tk.toCh = true
  inLayer : s.inLayer tk.toCh = true
  layer : tk.layer = s.grp.layer
  noHand : (s.ch tk.toCh).hands = []
  ahead : s.grp.s ≤ tk.anchor
  room : (s.ch tk.toCh).tokens.length < 8

section
variable {s : State} {tk : Token}

theorem takeToken_of_stores (h : s.Stores tk) :
    s.takeToken tk = s.modCh tk.toCh fun c => { c with tokens := c.tokens ++ [tk] } := by
  unfold State.takeToken
  dsimp only
  simp only [h.present, h.participant, h.inLayer, h.layer, h.noHand, Nat.not_lt.mpr h.ahead, Nat.not_le.mpr h.room, decide_true,
    Bool.and_self, Bool.not_true, Bool.false_eq_true, if_false, List.find?_nil]

/-- A token that is stored is the only change. -/
theorem takeToken_effect (h : s.Stores tk) :
    (s.takeToken tk).xbar = s.xbar ∧
    (s.takeToken tk).ch tk.toCh = { s.ch tk.toCh with tokens := (s.ch tk.toCh).tokens ++ [tk] } ∧
    UnitsBut State.ch tk.toCh s (s.takeToken tk) ∧ RegsBut [] s (s.takeToken tk) := by
  rw [takeToken_of_stores h]
  exact ⟨rfl, State.ch_modCh_same .., unitsBut_modCh _ _ _, (RegsBut.refl _ s).modCh⟩

theorem chan_taken (s : State) (p : Nat) (pk : Packet) : (s.taken p pk).chan = s.chan := only_taken s p pk .chan (by decide)

theorem ch_taken (s : State) (p : Nat) (pk : Packet) (n : Nat) : (s.taken p pk).ch n = s.ch n := ch_of_chan (chan_taken s p pk) n

/-- Taking the packet does not bear on what its token meets. -/
theorem State.Stores.taken (h : s.Stores tk) (p : Nat) (pk : Packet) : (s.taken p pk).Stores tk where
  present := by
    rw [State.channels, only_taken s p pk .variant (by decide), ← State.channels]
    exact h.present
  participant := by rw [grp_taken]; exact h.participant
  inLayer := by
    rw [State.inLayer, State.chState, fld_taken]
    exact h.inLayer
  layer := by rw [grp_taken]; exact h.layer
  noHand := by rw [ch_taken]; exact h.noHand
  ahead := by rw [grp_taken]; exact h.ahead
  room := by rw [ch_taken]; exact h.room

/-- The oldest token on the crossbar is received. -/
theorem exec_handTokenReceived_xbar {ts : List Token} (pk : Packet) (h : s.xbar = tk :: ts) :
    exec (.handTokenReceived none pk) s = .next (({ s with xbar := ts } : State).takeToken tk) := by
  change execHandTokenReceived none pk s = _
  unfold execHandTokenReceived
  simp only [h]

/-- A HAND packet from the port's peer brings its token. -/
theorem exec_handTokenReceived_port {port : Nat} {pk : Packet} (hc : s.consumes port pk = true) (hk : pk.cls = 0x11)
    (hp : s.fld (R.HOOP_PT_STAT port) F.HOOP_PT_STAT_PEER = pk.src) :
    exec (.handTokenReceived (some port) pk) s = .next ((s.taken port pk).takeToken (tokenAt pk.src pk.payload)) := by
  refine (onPort_receive hc hk : execHandTokenReceived (some port) pk s = _).trans ?_
  rw [fld_taken, if_neg (not_not_intro hp)]

theorem only_handTokenReceived {t : State} {origin : Option Nat} {pk : Packet} (h : exec (.handTokenReceived origin pk) s = .next t) :
    Only [.regs, .dram, .grp, .chan, .srvAx, .srvCh, .lsr, .hoop, .port, .pci, .ddr, .xbar, .out] s t :=
  ((keeps_execHandTokenReceived (List.Subset.refl _) origin pk (Keeps.refl _ s)).next t h).only

end

section
variable {s : State} {n : Nat}

theorem exec_tokenExpiry (hn : n < s.channels) : exec (.tokenExpiry n) s = .next
    (if (s.ch n).tokens.filter (fun k => decide (k.anchor < s.grp.s)) = [] then s
     else (s.modCh n fun c => { c with tokens := c.tokens.filter fun k => decide (s.grp.s ≤ k.anchor) }).satAdd (R.STI_CH_TOKERR n) F.STI_CH_TOKERR_STALE
       ((s.ch n).tokens.filter fun k => decide (k.anchor < s.grp.s)).length) :=
  by
  change execTokenExpiry n s = _
  unfold execTokenExpiry
  rw [onUnit_next hn (channels_le s)]

/-- Where no token is stale, dropping the stale ones changes nothing. -/
theorem filter_ahead_of_none {ks : List Token} {now : Nat} (h : ks.filter (fun k => decide (k.anchor < now)) = []) :
    ks.filter (fun k => decide (now ≤ k.anchor)) = ks :=
  List.filter_eq_self.mpr fun k hk => by simpa using List.filter_eq_nil_iff.mp h k hk

theorem tokenExpiry_effect (hn : n < s.channels) :
    ∃ t, exec (.tokenExpiry n) s = .next t ∧ Only [.regs, .chan] s t ∧
      ((t.ch n).tokens = (s.ch n).tokens.filter fun k => decide (s.grp.s ≤ k.anchor)) ∧ UnitsBut State.ch n s t ∧ RegsBut [R.STI_CH_TOKERR n] s t := by
  have e := exec_tokenExpiry hn
  refine ⟨_, e, ((keeps_execTokenExpiry (List.Subset.refl _) n (Keeps.refl _ s)).next _ e).only, ?_⟩
  split
  case isTrue hnone => exact ⟨(filter_ahead_of_none hnone).symm, UnitsBut.refl State.ch n s, RegsBut.refl _ s⟩
  case isFalse =>
    refine ⟨?_, (unitsBut_modCh s n _).of_chan (State.satAdd_chan ..), (RegsBut.refl _ s).modCh.satAdd (by simp)⟩
    rw [ch_of_chan (State.satAdd_chan ..), State.ch_modCh_same]

end

/-! ### The first HAND with a property -/

section
variable {s : State} {n : Nat} {h k : Hand}

theorem withHand_of_find {p : Hand → Bool} {f : Hand → State → State} (hf : (s.ch n).hands.find? p = some h) : s.withHand n p f = f h s := by
  simp only [State.withHand, hf]

theorem find_single {p : Hand → Bool} (hs : (s.ch n).hands = [h]) (hp : p h = true) : (s.ch n).hands.find? p = some h := by
  rw [hs, List.find?_cons_of_pos hp]

theorem ch_putHand_single (hs : (s.ch n).hands = [h]) : (s.putHand n h k).ch n = { s.ch n with hands := [k] } := by
  rw [State.putHand, State.ch_modCh_same, hs, List.map_singleton, if_pos rfl]

theorem unitsBut_putHand (s : State) (n : Nat) (h k : Hand) : UnitsBut State.ch n s (s.putHand n h k) := unitsBut_modCh _ _ _

/-! ### Commitment (R240) -/

theorem exec_commit (hn : n < s.channels) (hf : (s.ch n).hands.find? (s.mayCommit n) = some h) :
    exec (.commit n) s = .next ((s.putHand n h { h with committed := true }).sendToken h.pdev (s.handToken n h 2 0)) :=
  (onUnit_next hn (channels_le s) : execCommit n s = _).trans (congrArg _ (withHand_of_find hf))

/-- A token to this device goes to its own crossbar. -/
theorem xbar_sendToken_local {dev : Nat} (hd : dev = s.devid) (tk : Token) : (s.sendToken dev tk).xbar = s.xbar ++ [tk] := by
  rw [State.sendToken, if_pos hd]

theorem regs_sendToken (s : State) (dev : Nat) (tk : Token) : (s.sendToken dev tk).regs = s.regs :=
  (keeps_State_sendToken (List.Subset.refl _) dev tk (Keeps.refl _ s)).part .regs rfl

theorem chan_sendToken (s : State) (dev : Nat) (tk : Token) : (s.sendToken dev tk).chan = s.chan :=
  (keeps_State_sendToken (List.Subset.refl _) dev tk (Keeps.refl _ s)).part .chan rfl

/-! ### Fallback (R241, R245) -/

theorem chan_fallBack (s : State) (n : Nat) (h : Hand) (cause stime : Nat) : (s.fallBack n h cause stime).chan = s.chan :=
  (keeps_State_fallBack (List.Subset.refl _) n h cause stime (Keeps.refl _ s)).part .chan rfl

theorem lsr_fallBack (s : State) (n : Nat) (h : Hand) (cause stime : Nat) : (s.fallBack n h cause stime).lsr = s.lsr :=
  (keeps_State_fallBack (List.Subset.refl _) n h cause stime (Keeps.refl _ s)).part .lsr rfl

/-- The record of an own fallback counts it and raises FALLBACK. -/
theorem handRecord_own {cause : Nat} (hc : cause ≠ 6) (pcause stime : Nat) :
    (s.handRecord n h cause pcause stime).fld (R.STI_CH_FB n) F.STI_CH_FB_OWN =
      min (s.fld (R.STI_CH_FB n) F.STI_CH_FB_OWN + 1) (2 ^ F.STI_CH_FB_OWN.width - 1) ∧
    (s.handRecord n h cause pcause stime).flag R.STI_ISR F.STI_ISR_FALLBACK = true := by
  have hisr : R.STI_CH_FB n ≠ R.STI_ISR := by unfold R.STI_CH_FB R.STI_ISR; omega
  have hlast : R.STI_CH_FB n ≠ R.STI_CH_LASTFB n := by unfold R.STI_CH_FB R.STI_CH_LASTFB; omega
  have hevt : R.STI_CH_FB n ∉ evtRegs := by
    simp only [evtRegs, List.mem_cons, List.not_mem_nil, or_false, R.STI_CH_FB, R.SEQ_EVT_WR, R.SEQ_GRP_ISR, R.SEQ_EVT_DROP]
    omega
  unfold State.handRecord
  dsimp only
  refine ⟨?_, State.flag_raise_same _ _ _ (by decide) (by decide)⟩
  rw [if_neg hc, fld_of_reg (State.reg_raise_ne _ _ _ _ hisr), fld_of_reg (State.reg_setReg_ne _ _ _ _ hlast),
    fld_satAdd_same _ _ _ _ (by decide), State.postAt, ((RegsBut.refl evtRegs s).postFull (List.Subset.refl _)).fld hevt]

theorem fallBack_own {cause : Nat} (hc : cause ≠ 6) (stime : Nat) :
    (s.fallBack n h cause stime).fld (R.STI_CH_FB n) F.STI_CH_FB_OWN =
      min (s.fld (R.STI_CH_FB n) F.STI_CH_FB_OWN + 1) (2 ^ F.STI_CH_FB_OWN.width - 1) ∧
    (s.fallBack n h cause stime).flag R.STI_ISR F.STI_ISR_FALLBACK = true := by
  rw [← fld_of_reg (reg_of_same (regs_sendToken s h.pdev (s.handToken n h 3 cause)) (R.STI_CH_FB n))]
  exact handRecord_own hc _ stime

/-- The cause of an uncommitted giver's fallback is one of R240's, never that of a notice. -/
theorem closeCause_ne_notice (s : State) (h : Hand) : s.closeCause h ≠ 6 := by
  unfold State.closeCause
  split
  · decide
  split
  · decide
  split <;> decide

/-- The commitment of a HAND closes now: an uncommitted giver without an outcome, at A - 3,750 or later (R240). -/
def State.closeDue (s : State) (h : Hand) : Bool :=
  !h.take && !h.committed && decide (h.outcome = .undecided) && decide (h.anchor ≤ s.grp.s + 3750)

theorem exec_commitmentClose (hn : n < s.channels) (ha : s.acting n = true) (hf : (s.ch n).hands.find? s.closeDue = some h) :
    exec (.commitmentClose n) s = .next
      ((s.putHand n h { h with outcome := .fallback (s.closeCause h) }).fallBack n h (s.closeCause h) (h.anchor - 3750)) :=
  (onUnit_next hn (channels_le s) : execCommitmentClose n s = _).trans
    (congrArg _ ((if_pos ha).trans (withHand_of_find hf)))

theorem only_commitmentClose {t : State} (e : exec (.commitmentClose n) s = .next t) :
    Only [.regs, .dram, .grp, .chan, .hoop, .port, .pci, .ddr, .xbar, .out] s t :=
  ((keeps_execCommitmentClose (List.Subset.refl _) n (Keeps.refl _ s)).next t e).only

/-! ### The decision (R96, R240 to R242) -/

/-- An outcome that the decision turns to fallback is told and recorded; one fixed before stands (R241, R245). -/
def State.outcomeTold (s : State) (n : Nat) (h : Hand) (o : HandOutcome) : State :=
  match h.outcome, o with
  | .undecided, .fallback c => s.fallBack n h c (h.anchor - 2500)
  | _, _ => s

theorem chan_outcomeTold (s : State) (n : Nat) (h : Hand) (o : HandOutcome) : (s.outcomeTold n h o).chan = s.chan := by
  unfold State.outcomeTold
  split
  · exact chan_fallBack ..
  · rfl

theorem lsr_outcomeTold (s : State) (n : Nat) (h : Hand) (o : HandOutcome) : (s.outcomeTold n h o).lsr = s.lsr := by
  unfold State.outcomeTold
  split
  · exact lsr_fallBack ..
  · rfl

/-- A HAND with its decision, before the decoder chooses a block. -/
def State.handDecided (s : State) (n : Nat) (h : Hand) : State :=
  ((s.putHand n h { h with outcome := s.decideHand h, decided := true, theta := s.handTheta h }).outcomeTold n h (s.decideHand h)).modLs n
    fun l => l.applyHand h (s.decideHand h)

/-- The decision of a HAND is due: at A - 2,500 or later (R240). -/
def State.decisionDue (s : State) (h : Hand) : Bool := !h.decided && decide (h.anchor ≤ s.grp.s + 2500)

theorem exec_handDecision (hn : n < s.channels) (ha : s.acting n = true) (hf : (s.ch n).hands.find? s.decisionDue = some h) :
    exec (.handDecision n) s = .next
      (if h.fb then (s.handDecided n h).chooseBlock n h (decide (s.decideHand h ≠ .normal)) else s.handDecided n h) :=
  (onUnit_next hn (channels_le s) : execHandDecision n s = _).trans
    (congrArg _ ((if_pos ha).trans (withHand_of_find hf)))

theorem only_handDecision {t : State} (e : exec (.handDecision n) s = .next t) :
    Only [.regs, .dram, .grp, .chan, .srvAx, .srvCh, .lsr, .hoop, .port, .pci, .ddr, .xbar, .out] s t :=
  ((keeps_execHandDecision (List.Subset.refl _) n (Keeps.refl _ s)).next t e).only

/-- Only a normal part fades over (R242). -/
theorem fades_applyHand (l : Laser) (h : Hand) (o : HandOutcome) :
    (l.applyHand h o).fades = l.fades ++ (if o = .normal then [⟨h.anchor, h.xf, h.take⟩] else []) := by
  cases o with
  | normal => cases ht : h.take <;> simp [Laser.applyHand, ht]
  | fallback c => cases hb : h.fb <;> cases ht : h.take <;> simp [Laser.applyHand, hb, ht]
  | undecided => simp [Laser.applyHand]

theorem handDecided_effect (hs : (s.ch n).hands = [h]) :
    (s.handDecided n h).ch n =
      { s.ch n with hands := [{ h with outcome := s.decideHand h, decided := true, theta := s.handTheta h }] } ∧
    ((s.handDecided n h).ls n).fades =
      (s.ls n).fades ++ (if s.decideHand h = .normal then [⟨h.anchor, h.xf, h.take⟩] else []) ∧
    UnitsBut State.ch n s (s.handDecided n h) := by
  have hchan : (s.handDecided n h).chan =
      (s.putHand n h { h with outcome := s.decideHand h, decided := true, theta := s.handTheta h }).chan := chan_outcomeTold ..
  refine ⟨?_, ?_, (unitsBut_putHand _ _ _ _).of_chan hchan⟩
  · rw [ch_of_chan hchan, ch_putHand_single hs]
  · rw [State.handDecided, State.ls_modLs_same, fades_applyHand, ls_of_lsr (lsr_outcomeTold ..)]
    rfl

/-! ### The end of a HAND and its record (R246, R249) -/

theorem chan_handLog (s : State) (n : Nat) (h : Hand) : (s.handLog n h).chan = s.chan :=
  (keeps_State_handLog (List.Subset.refl _) n h (Keeps.refl _ s)).part .chan rfl

theorem regsBut_handLog (s : State) (n : Nat) (h : Hand) : RegsBut evtRegs s (s.handLog n h) :=
  (RegsBut.refl _ s).post (List.Subset.refl _)

/-- The record of a handoff in a ring that takes it: under its code and its channel, and nothing else of DRAM changes. -/
theorem handLog_effect (hr : s.RingTakes) (hn : n < 2 ^ 8) :
    leAt ((s.handLog n h).readDram s.evtAddr 64) 0 2 = 0xFF0B ∧ leAt ((s.handLog n h).readDram s.evtAddr 64) 2 1 = n ∧
    SameDramBut s.evtAddr 64 s (s.handLog n h) :=
  post_effect hr (by decide) hn

/-- The HAND is no longer outstanding. -/
def State.handGone (s : State) (n : Nat) (h : Hand) : State := s.modCh n fun c => { c with hands := c.hands.filter fun x => decide (x ≠ h) }

/-- A normal part has ended and counts (R246). -/
def State.handCounted (s : State) (n : Nat) (h : Hand) : State := (s.handGone n h).satAdd (R.STI_CH_HANDS n) F.STI_CH_HANDS_COUNT 1

/-- The record of a normal part is posted, or waits for a frame (R249). -/
def State.handLogged (s : State) (n : Nat) (h : Hand) : State :=
  if h.frameErr.isSome then s.handLog n h else s.modCh n fun c => { c with handLogs := c.handLogs ++ [h] }

/-- A HAND has its end: decided, at A + XF or later. -/
def State.endDue (s : State) (h : Hand) : Bool := h.decided && decide (h.anchor + h.xf ≤ s.grp.s)

theorem STI_CTL_ne_HANDS (n : Nat) : R.STI_CTL ≠ R.STI_CH_HANDS n := by unfold R.STI_CTL R.STI_CH_HANDS; omega

theorem flag_HLOG_handCounted (s : State) (n : Nat) (h : Hand) :
    (s.handCounted n h).flag R.STI_CTL F.STI_CTL_HLOG = s.flag R.STI_CTL F.STI_CTL_HLOG :=
  flag_of_reg (State.reg_setReg_ne _ _ _ _ (STI_CTL_ne_HANDS n)) _

theorem exec_handEnd (hn : n < s.channels) (ha : s.acting n = true) (hf : (s.ch n).hands.find? s.endDue = some h) :
    exec (.handEnd n) s = .next
      (if h.outcome = .normal then
        (if s.flag R.STI_CTL F.STI_CTL_HLOG then (s.handCounted n h).handLogged n h else s.handCounted n h)
       else s.handGone n h) := by
  rw [← flag_HLOG_handCounted s n h]
  exact (onUnit_next hn (channels_le s) : execHandEnd n s = _).trans (congrArg _ ((if_pos ha).trans (withHand_of_find hf)))

theorem ch_handGone (s : State) (n : Nat) (h : Hand) :
    (s.handGone n h).ch n = { s.ch n with hands := (s.ch n).hands.filter fun x => decide (x ≠ h) } := State.ch_modCh_same ..

theorem ch_handCounted (s : State) (n : Nat) (h : Hand) :
    (s.handCounted n h).ch n = { s.ch n with hands := (s.ch n).hands.filter fun x => decide (x ≠ h) } :=
  (ch_of_chan (State.satAdd_chan ..) n).trans (ch_handGone s n h)

theorem unitsBut_handCounted (s : State) (n : Nat) (h : Hand) : UnitsBut State.ch n s (s.handCounted n h) :=
  (unitsBut_modCh _ _ _).of_chan (State.satAdd_chan ..)

theorem regsBut_handCounted (s : State) (n : Nat) (h : Hand) : RegsBut [R.STI_CH_HANDS n] s (s.handCounted n h) :=
  (RegsBut.refl _ s).modCh.satAdd (by simp)

theorem count_handCounted (s : State) (n : Nat) (h : Hand) : (s.handCounted n h).fld (R.STI_CH_HANDS n) F.STI_CH_HANDS_COUNT =
    min (s.fld (R.STI_CH_HANDS n) F.STI_CH_HANDS_COUNT + 1) (2 ^ F.STI_CH_HANDS_COUNT.width - 1) :=
  fld_satAdd_same _ _ _ _ (by decide)

theorem STI_CH_HANDS_notMem_evtRegs (n : Nat) : R.STI_CH_HANDS n ∉ evtRegs := by
  simp only [evtRegs, List.mem_cons, List.not_mem_nil, or_false, R.STI_CH_HANDS, R.SEQ_EVT_WR, R.SEQ_GRP_ISR, R.SEQ_EVT_DROP]
  omega

/-- A record waits in its channel only where no frame has come, and moves none of the channel's other state. -/
theorem handLogged_effect (s : State) (n : Nat) (h : Hand) :
    ((s.handLogged n h).ch n).hands = (s.ch n).hands ∧
    ((s.handLogged n h).ch n).handLogs = (s.ch n).handLogs ++ (if h.frameErr = none then [h] else []) ∧
    UnitsBut State.ch n s (s.handLogged n h) ∧ RegsBut evtRegs s (s.handLogged n h) := by
  unfold State.handLogged
  cases he : h.frameErr with
  | none =>
    rw [if_neg (by simp), State.ch_modCh_same]
    exact ⟨rfl, rfl, unitsBut_modCh _ _ _, (RegsBut.refl _ s).modCh⟩
  | some e =>
    rw [if_pos (by simp), ch_of_chan (chan_handLog s n h)]
    exact ⟨rfl, by simp, (UnitsBut.refl State.ch n s).of_chan (chan_handLog s n h), regsBut_handLog s n h⟩

theorem handEnd_effect (hn : n < s.channels) (ha : s.acting n = true) (hf : (s.ch n).hands.find? s.endDue = some h) :
    ∃ t, exec (.handEnd n) s = .next t ∧ Only [.regs, .dram, .grp, .chan, .pci, .ddr, .out] s t ∧
      (t.ch n).hands = (s.ch n).hands.filter (fun x => decide (x ≠ h)) ∧
      (t.ch n).handLogs = (s.ch n).handLogs ++
        (if h.outcome = .normal ∧ s.flag R.STI_CTL F.STI_CTL_HLOG = true ∧ h.frameErr = none then [h] else []) ∧
      t.fld (R.STI_CH_HANDS n) F.STI_CH_HANDS_COUNT = (if h.outcome = .normal
        then min (s.fld (R.STI_CH_HANDS n) F.STI_CH_HANDS_COUNT + 1) (2 ^ F.STI_CH_HANDS_COUNT.width - 1)
        else s.fld (R.STI_CH_HANDS n) F.STI_CH_HANDS_COUNT) ∧
      UnitsBut State.ch n s t := by
  have e := exec_handEnd hn ha hf
  refine ⟨_, e, ((keeps_execHandEnd (List.Subset.refl _) n (Keeps.refl _ s)).next _ e).only, ?_⟩
  by_cases ho : h.outcome = .normal
  case neg =>
    simp only [ho, false_and, if_false, List.append_nil, ch_handGone, true_and]
    exact ⟨rfl, unitsBut_modCh _ _ _⟩
  case pos =>
    simp only [ho, if_true, true_and]
    cases hl : s.flag R.STI_CTL F.STI_CTL_HLOG with
    | false =>
      simp only [Bool.false_eq_true, false_and, if_false, List.append_nil, ch_handCounted, true_and]
      exact ⟨count_handCounted s n h, unitsBut_handCounted s n h⟩
    | true =>
      obtain ⟨hhands, hlogs, hunits, hregs⟩ := handLogged_effect (s.handCounted n h) n h
      simp only [if_true, true_and, hhands, hlogs, ch_handCounted]
      refine ⟨?_, (unitsBut_handCounted s n h).trans hunits⟩
      rw [hregs.fld (STI_CH_HANDS_notMem_evtRegs n), count_handCounted]

theorem exec_handRecordTimeout (hn : n < s.channels)
    (hf : (s.ch n).handLogs.find? (fun h => s.pastS (h.anchor + h.xf + 6250)) = some h) : exec (.handRecordTimeout n) s = .next
      ((s.modCh n fun c => { c with handLogs := c.handLogs.filter fun x => decide (x ≠ h) }).handLog n h) := by
  refine (onUnit_next hn (channels_le s) : execHandRecordTimeout n s = _).trans ?_
  simp only [hf]

theorem only_handRecordTimeout {t : State} (e : exec (.handRecordTimeout n) s = .next t) :
    Only [.regs, .dram, .grp, .chan, .pci, .ddr, .out] s t :=
  ((keeps_execHandRecordTimeout (List.Subset.refl _) n (Keeps.refl _ s)).next t e).only

/-- A schedule time at or before the present one has come. -/
theorem pastS_of_le {x : Nat} (h : x ≤ s.grp.s) : s.pastS x = true := by
  rw [State.pastS, decide_eq_true h, Bool.true_or]

end

/-! ### The statement -/

/-- Settles O27: each command acts on the first HAND that meets its condition, in the state that its `exec_` lemma names; with one HAND
on the channel, that HAND is the one. -/
theorem handoffProtocol : Obligations.HandoffProtocol := by
  refine ⟨?_, ?_, ?_, ?_, ?_, ?_, ?_, ?_, ?_, ?_, ?_, ?_, ?_, ?_, ?_⟩
  · intro s pk tk ts hx hn hp hin hl hh ha hr
    have e := exec_handTokenReceived_xbar pk hx
    have hst : ({ s with xbar := ts } : State).Stores tk := ⟨hn, hp, hin, hl, hh, ha, hr⟩
    exact ⟨_, e, only_handTokenReceived e, takeToken_effect hst⟩
  · rintro s port pk tk hc _ hk hpeer rfl hn hp hin hl hh ha hr
    have e := exec_handTokenReceived_port hc hk hpeer
    have hst : s.Stores (tokenAt pk.src pk.payload) := ⟨hn, hp, hin, hl, hh, ha, hr⟩
    obtain ⟨-, hch, hunits, hregs⟩ := takeToken_effect (hst.taken port pk)
    refine ⟨_, e, only_handTokenReceived e, ?_, ((UnitsBut.refl State.ch _ s).of_chan (chan_taken s port pk)).trans hunits,
      fun a ha => (hregs a ha).trans (reg_taken s port pk a)⟩
    rw [hch, ch_taken]
  · intro s ch hn
    exact tokenExpiry_effect hn
  · intro s ch h hn hs hm hd
    have e := exec_commit hn (find_single hs hm)
    refine ⟨_, e, ((keeps_execCommit (List.Subset.refl _) ch (Keeps.refl _ s)).next _ e).only, ?_, ?_,
      (unitsBut_putHand _ _ _ _).of_chan (chan_sendToken ..), (RegsBut.refl _ s).of_regs (regs_sendToken ..)⟩
    · rw [ch_of_chan (chan_sendToken ..), ch_putHand_single hs]
    · exact xbar_sendToken_local (s := s.putHand ch h { h with committed := true }) hd _
  · intro s ch h hn ha hs ht hc ho hd
    have e := exec_commitmentClose hn ha (find_single hs (by simp [State.closeDue, ht, hc, ho, hd]))
    obtain ⟨hown, hflag⟩ := fallBack_own (s := s.putHand ch h { h with outcome := .fallback (s.closeCause h) }) (n := ch) (h := h)
      (closeCause_ne_notice s h) (h.anchor - 3750)
    refine ⟨_, e, only_commitmentClose e, ?_, hown, hflag, (unitsBut_putHand _ _ _ _).of_chan (chan_fallBack ..)⟩
    rw [ch_of_chan (chan_fallBack ..), ch_putHand_single hs]
  · intro s ch h hn ha hs hdec hfb hd
    have e := exec_handDecision hn ha (find_single hs (by simp [State.decisionDue, hdec, hd]))
    rw [hfb, if_neg Bool.false_ne_true] at e
    exact ⟨_, e, only_handDecision e, handDecided_effect hs⟩
  · intro s ch h hn ha hs hdec hend ho hl
    have e := exec_handEnd hn ha (find_single hs (by simp [State.endDue, hdec, hend]))
    rw [if_pos ho, hl, if_neg Bool.false_ne_true] at e
    refine ⟨_, e, (keeps_State_satAdd (by decide) _ _ _ (keeps_State_modCh (by decide) ch _ (Keeps.refl _ s))).only, ?_,
      count_handCounted s ch h, unitsBut_handCounted s ch h, regsBut_handCounted s ch h⟩
    rw [ch_handCounted, hs, List.filter_singleton]
    simp
  · intro s ch h hn hs hend hon _ hok hfull hlost
    have e := exec_handRecordTimeout (s := s) (h := h) hn (by rw [hs]; exact List.find?_cons_of_pos (pastS_of_le hend))
    have hring : (s.modCh ch fun c => { c with handLogs := c.handLogs.filter fun x => decide (x ≠ h) }).RingTakes :=
      ⟨hon, hok, hfull, hlost⟩
    have hch : ch < 2 ^ 8 := Nat.lt_of_lt_of_le hn (Nat.le_trans (channels_le s) (by decide))
    obtain ⟨hcode, hchn, hsame⟩ := handLog_effect (h := h) hring hch
    refine ⟨_, e, only_handRecordTimeout e, ?_, hcode, hchn, hsame, (unitsBut_modCh _ _ _).of_chan (chan_handLog ..)⟩
    rw [ch_of_chan (chan_handLog ..), State.ch_modCh_same, hs, List.filter_singleton]
    simp
  · rintro s _ pk tk ts rfl hx
    have e := exec_handTokenReceived_xbar pk hx
    exact ⟨_, e, only_handTokenReceived e, rfl⟩
  · rintro s _ pk port rfl hc hk hpeer
    have e := exec_handTokenReceived_port hc hk hpeer
    exact ⟨_, e, only_handTokenReceived e, rfl⟩
  · intro s ch h hn hf
    exact next_of_keeps (keeps_execCommit (List.Subset.refl _) ch (Keeps.refl _ s)) (exec_commit hn hf)
  · intro s ch h hn ha hf
    have e := exec_commitmentClose hn ha hf
    exact ⟨_, e, only_commitmentClose e, rfl⟩
  · intro s ch h hn ha hf
    have e := exec_handDecision hn ha hf
    exact ⟨_, e, only_handDecision e, rfl⟩
  · intro s ch h hn ha hf
    exact handEnd_effect hn ha hf
  · intro s ch h hn hf
    have e := exec_handRecordTimeout hn hf
    exact ⟨_, e, only_handRecordTimeout e, rfl⟩

end Sys2Proof.Machine

/-! # The motion axes (O33) -/

namespace Sys2Proof.Machine

-- As above: the proofs of this part are elaborated one after another, which keeps the check within its memory.
set_option deprecated.oldSectionVars true

/-! ### Motors and interfaces under changes elsewhere -/

theorem mo_of_mot {s t : State} (h : t.mot = s.mot) (n : Nat) : t.mo n = s.mo n := by unfold State.mo; rw [h]
theorem fb_of_fbk {s t : State} (h : t.fbk = s.fbk) (n : Nat) : t.fb n = s.fb n := by unfold State.fb; rw [h]

@[simp] theorem State.mo_setReg (s : State) (a : Nat) (v : Word) (n : Nat) : (s.setReg a v).mo n = s.mo n := rfl
@[simp] theorem State.mo_setFld (s : State) (a : Nat) (f : Field) (v n : Nat) : (s.setFld a f v).mo n = s.mo n := rfl
@[simp] theorem State.mo_setFlag (s : State) (a : Nat) (f : Field) (b : Bool) (n : Nat) : (s.setFlag a f b).mo n = s.mo n := rfl
@[simp] theorem State.mo_setSfld (s : State) (a : Nat) (f : Field) (v : Int) (n : Nat) : (s.setSfld a f v).mo n = s.mo n := rfl
@[simp] theorem State.mo_satAdd (s : State) (a : Nat) (f : Field) (k n : Nat) : (s.satAdd a f k).mo n = s.mo n := rfl
@[simp] theorem State.mo_raise (s : State) (a : Nat) (f : Field) (n : Nat) : (s.raise a f).mo n = s.mo n := mo_of_mot (by simp) n
@[simp] theorem State.mo_modFb (s : State) (i : Nat) (f : Feedback → Feedback) (n : Nat) : (s.modFb i f).mo n = s.mo n := rfl

@[simp] theorem State.fb_setReg (s : State) (a : Nat) (v : Word) (n : Nat) : (s.setReg a v).fb n = s.fb n := rfl
@[simp] theorem State.fb_setFld (s : State) (a : Nat) (f : Field) (v n : Nat) : (s.setFld a f v).fb n = s.fb n := rfl
@[simp] theorem State.fb_setFlag (s : State) (a : Nat) (f : Field) (b : Bool) (n : Nat) : (s.setFlag a f b).fb n = s.fb n := rfl
@[simp] theorem State.fb_setSfld (s : State) (a : Nat) (f : Field) (v : Int) (n : Nat) : (s.setSfld a f v).fb n = s.fb n := rfl
@[simp] theorem State.fb_satAdd (s : State) (a : Nat) (f : Field) (k n : Nat) : (s.satAdd a f k).fb n = s.fb n := rfl
@[simp] theorem State.fb_raise (s : State) (a : Nat) (f : Field) (n : Nat) : (s.raise a f).fb n = s.fb n := fb_of_fbk (by simp) n
@[simp] theorem State.fb_modMo (s : State) (a : Nat) (f : Motor → Motor) (n : Nat) : (s.modMo a f).fb n = s.fb n := rfl

@[simp] theorem State.reg_modMo (s : State) (a : Nat) (f : Motor → Motor) (b : Nat) : (s.modMo a f).reg b = s.reg b := rfl
@[simp] theorem State.fld_modMo (s : State) (a : Nat) (f : Motor → Motor) (b : Nat) (g : Field) : (s.modMo a f).fld b g = s.fld b g := rfl
@[simp] theorem State.flag_modMo (s : State) (a : Nat) (f : Motor → Motor) (b : Nat) (g : Field) : (s.modMo a f).flag b g = s.flag b g := rfl
@[simp] theorem State.reg_modFb (s : State) (i : Nat) (f : Feedback → Feedback) (b : Nat) : (s.modFb i f).reg b = s.reg b := rfl
@[simp] theorem State.fld_modFb (s : State) (i : Nat) (f : Feedback → Feedback) (b : Nat) (g : Field) : (s.modFb i f).fld b g = s.fld b g := rfl
@[simp] theorem State.flag_modFb (s : State) (i : Nat) (f : Feedback → Feedback) (b : Nat) (g : Field) : (s.modFb i f).flag b g = s.flag b g := rfl

section
variable {l : List Nat} {s t u : State} {n m : Nat}

theorem UnitsBut.of_mot (h : UnitsBut State.mo n s t) (hu : u.mot = t.mot) : UnitsBut State.mo n s u :=
  fun m hm => (mo_of_mot hu m).trans (h m hm)

theorem UnitsBut.of_fbk (h : UnitsBut State.fb n s t) (hu : u.fbk = t.fbk) : UnitsBut State.fb n s u :=
  fun m hm => (fb_of_fbk hu m).trans (h m hm)

theorem UnitsBut.modMo {f : Motor → Motor} (h : UnitsBut State.mo n s t) : UnitsBut State.mo n s (t.modMo n f) :=
  fun m hm => by rw [State.mo_modMo, if_neg hm, h m hm]

theorem UnitsBut.modFb {f : Feedback → Feedback} (h : UnitsBut State.fb n s t) : UnitsBut State.fb n s (t.modFb n f) :=
  fun m hm => by rw [State.fb_modFb, if_neg hm, h m hm]

theorem unitsBut_modMo (s : State) (n : Nat) (f : Motor → Motor) : UnitsBut State.mo n s (s.modMo n f) := (UnitsBut.refl _ n s).modMo

theorem RegsBut.modMo {f : Motor → Motor} (h : RegsBut l s t) : RegsBut l s (t.modMo m f) := h.of_regs rfl
theorem RegsBut.modFb {f : Feedback → Feedback} (h : RegsBut l s t) : RegsBut l s (t.modFb m f) := h.of_regs rfl
theorem RegsBut.setSfld {a : Nat} {f : Field} {v : Int} (h : RegsBut l s t) (ha : a ∈ l) : RegsBut l s (t.setSfld a f v) := h.setReg ha

end

theorem only_modMo (s : State) (n : Nat) (f : Motor → Motor) : Only [.mot] s (s.modMo n f) :=
  (keeps_State_modMo (List.Subset.refl _) n f (Keeps.refl _ s)).only

/-! ### Signed values -/

/-- A signed number of n bits is read back as it was coded. -/
theorem signed_unsigned {n : Nat} {v : Int} (hn : 0 < n) (hlo : -((2 ^ (n - 1) : Nat) : Int) ≤ v) (hhi : v < ((2 ^ (n - 1) : Nat) : Int)) :
    signed n (unsigned n v) = v := by
  obtain ⟨m, rfl⟩ : ∃ m, n = m + 1 := ⟨n - 1, by omega⟩
  simp only [Nat.add_sub_cancel] at hlo hhi
  have hp : (2 ^ (m + 1) : Nat) = 2 * 2 ^ m := by ring
  have hpos : 0 < 2 ^ m := by positivity
  simp only [signed, unsigned, hp, Nat.add_sub_cancel]
  generalize 2 ^ m = p at *
  by_cases h0 : 0 ≤ v
  · have e : v % ((2 * p : Nat) : Int) = v := Int.emod_eq_of_lt h0 (by omega)
    rw [e, Nat.mod_eq_of_lt (by omega), if_pos (by omega)]
    omega
  · have e : v % ((2 * p : Nat) : Int) = v + (2 * p : Nat) := by
      rw [← Int.add_emod_right, Int.emod_eq_of_lt (by omega) (by omega)]
    rw [e, Nat.mod_eq_of_lt (by omega), if_neg (by omega)]
    omega

theorem signed_mod (n x : Nat) : signed n (x % 2 ^ n) = signed n x := by
  simp only [signed, Nat.mod_mod]

/-- A field reads, signed, the code that was put into it. -/
theorem State.sfld_setSfld_same (s : State) (a : Nat) (f : Field) (v : Int) (h : f.lo + f.width ≤ 32) :
    (s.setSfld a f v).sfld a f = signed f.width (unsigned f.width v) := by
  rw [State.sfld, State.setSfld, State.fld_setFld_same _ _ _ _ h, signed_mod]

/-! ### The velocity and the state of an axis (R257, R280) -/

theorem MOT_AX_VEL_ne_STAT (a b : Nat) : R.MOT_AX_VEL a ≠ R.MOT_AX_STAT b := by unfold R.MOT_AX_VEL R.MOT_AX_STAT; omega
theorem MOT_AX_STAT_ne_CFG (a b : Nat) : R.MOT_AX_STAT a ≠ R.MOT_AX_CFG b := by unfold R.MOT_AX_STAT R.MOT_AX_CFG; omega

theorem MOT_AX_STAT_notMem_reports (a : Nat) : R.MOT_AX_STAT a ∉ R.MOT_ISR :: evtRegs := by
  simp only [List.mem_cons, List.not_mem_nil, or_false, R.MOT_AX_STAT, R.MOT_ISR, R.SEQ_EVT_WR, R.SEQ_GRP_ISR, R.SEQ_EVT_DROP]
  omega

theorem MOT_AX_VEL_notMem_reports (a : Nat) : R.MOT_AX_VEL a ∉ R.MOT_ISR :: evtRegs := by
  simp only [List.mem_cons, List.not_mem_nil, or_false, R.MOT_AX_VEL, R.MOT_ISR, R.SEQ_EVT_WR, R.SEQ_GRP_ISR, R.SEQ_EVT_DROP]
  omega

theorem MOT_AX_CFG_notMem_reports (a : Nat) : R.MOT_AX_CFG a ∉ R.MOT_ISR :: evtRegs := by
  simp only [List.mem_cons, List.not_mem_nil, or_false, R.MOT_AX_CFG, R.MOT_ISR, R.SEQ_EVT_WR, R.SEQ_GRP_ISR, R.SEQ_EVT_DROP]
  omega

theorem vel_of_reg {s t : State} {a : Nat} (h : t.reg (R.MOT_AX_VEL a) = s.reg (R.MOT_AX_VEL a)) : t.vel a = s.vel a := by
  rw [State.vel, State.sfld, fld_of_reg h]; rfl

theorem vel_setVel {v : Int} (s : State) (a : Nat) (hlo : -2147483648 ≤ v) (hhi : v < 2147483648) : (s.setVel a v).vel a = v := by
  rw [State.vel, State.setVel, State.sfld_setSfld_same _ _ _ _ (by decide)]
  exact signed_unsigned (by decide) hlo hhi

@[simp] theorem axisState_setVel (s : State) (a b : Nat) (v : Int) : (s.setVel a v).axisState b = s.axisState b :=
  State.fld_setFld_reg _ _ _ _ _ _ (MOT_AX_VEL_ne_STAT a b).symm

@[simp] theorem vel_setStat (s : State) (a b : Nat) (f : Field) (v : Nat) : (s.setFld (R.MOT_AX_STAT b) f v).vel a = s.vel a :=
  vel_of_reg (State.reg_setFld_ne _ _ _ _ _ (MOT_AX_VEL_ne_STAT a b))

@[simp] theorem vel_setStatFlag (s : State) (a b : Nat) (f : Field) (v : Bool) : (s.setFlag (R.MOT_AX_STAT b) f v).vel a = s.vel a :=
  vel_setStat s a b f _

theorem axisState_setAxisState {st : Nat} (s : State) (a : Nat) (h : st < 8) : (s.setAxisState a st).axisState a = st :=
  (State.fld_setFld_same _ _ _ _ (by decide)).trans (Nat.mod_eq_of_lt h)

/-- The fields of an axis's status beside its state leave the state. -/
theorem axisState_setStat {f : Field} (s : State) (a v : Nat) (hf : f.lo + f.width ≤ 32) (h : 3 ≤ f.lo) :
    (s.setFld (R.MOT_AX_STAT a) f v).axisState a = s.axisState a :=
  State.fld_setFld_field _ _ _ _ _ hf (.inr h)

@[simp] theorem axisState_modMo (s : State) (n : Nat) (f : Motor → Motor) (a : Nat) : (s.modMo n f).axisState a = s.axisState a := rfl
@[simp] theorem vel_modMo (s : State) (n : Nat) (f : Motor → Motor) (a : Nat) : (s.modMo n f).vel a = s.vel a := rfl

/-! ### A step of one axis -/

/-- The registers that an axis's steps write: its own, and the ones that its reports write. -/
abbrev axisRegs (a : Nat) : List Nat := [R.MOT_AX_VEL a, R.MOT_AX_STAT a, R.MOT_AX_MEAS a] ++ R.MOT_ISR :: evtRegs

/-- From s to t axis a has moved: its motor and its registers; no word's check state has changed. -/
structure AxisStep (a : Nat) (s t : State) : Prop where
  regs : RegsBut (axisRegs a) s t
  motors : UnitsBut State.mo a s t
  intg : t.intg = s.intg

section
variable {a : Nat} {s t u : State}

theorem AxisStep.refl (a : Nat) (s : State) : AxisStep a s s := ⟨RegsBut.refl _ s, UnitsBut.refl _ a s, rfl⟩

theorem AxisStep.ite {c : Prop} [Decidable c] (h : AxisStep a s t) (k : AxisStep a s u) : AxisStep a s (if c then t else u) := by
  split <;> assumption

theorem AxisStep.setReg {r : Nat} {v : Word} (h : AxisStep a s t) (hr : r ∈ axisRegs a) : AxisStep a s (t.setReg r v) :=
  ⟨h.regs.setReg hr, h.motors.of_mot rfl, h.intg⟩

theorem AxisStep.setStat {f : Field} {v : Nat} (h : AxisStep a s t) : AxisStep a s (t.setFld (R.MOT_AX_STAT a) f v) := h.setReg (by simp)
theorem AxisStep.setStatFlag {f : Field} {b : Bool} (h : AxisStep a s t) : AxisStep a s (t.setFlag (R.MOT_AX_STAT a) f b) := h.setStat
theorem AxisStep.setVel {v : Int} (h : AxisStep a s t) : AxisStep a s (t.setVel a v) := h.setReg (by simp)

theorem AxisStep.modMo {f : Motor → Motor} (h : AxisStep a s t) : AxisStep a s (t.modMo a f) :=
  ⟨h.regs.modMo, h.motors.modMo, h.intg⟩

theorem AxisStep.raise {f : Field} (h : AxisStep a s t) : AxisStep a s (t.raise R.MOT_ISR f) :=
  ⟨h.regs.raise (by simp), h.motors.of_mot (by simp), by simpa using h.intg⟩

theorem AxisStep.axisRecord {kind cause : Nat} (h : AxisStep a s t) : AxisStep a s (t.axisRecord a kind cause) := by
  have k := keeps_State_post (List.Subset.refl _) 0xFF0C 0xFF (a + kind * 16 + cause * 256 + unsigned 32 (t.mo a).counts * 2 ^ 32)
    (unsigned 32 (t.mo a).target) (Keeps.refl _ t)
  exact ⟨h.regs.post (fun _ hr => by simp_all), h.motors.of_mot (k.part .mot rfl), Eq.trans (k.part .intg rfl) h.intg⟩

theorem AxisStep.homingEnd {cause : Nat} (h : AxisStep a s t) : AxisStep a s (t.homingEnd a cause) :=
  h.setStat.setStatFlag.raise.axisRecord

theorem AxisStep.driveOff (h : AxisStep a s t) : AxisStep a s (t.driveOff a) := h.modMo

theorem AxisStep.axisFault {cause : Nat} (h : AxisStep a s t) : AxisStep a s (t.axisFault a cause) := by
  unfold State.axisFault
  dsimp only
  exact h.ite (h.setVel.homingEnd.ite h.setVel).setStatFlag.setStat.setStat.setStatFlag.driveOff.raise.axisRecord

theorem AxisStep.feedbackFault (h : AxisStep a s t) : AxisStep a s (t.feedbackFault a) := h.axisFault.ite h

theorem AxisStep.moveTo {pos v : Int} (h : AxisStep a s t) : AxisStep a s (t.moveTo a pos v) := h.modMo.setVel

theorem AxisStep.noteLimit {lim : Bool} (h : AxisStep a s t) : AxisStep a s (t.noteLimit a lim) := h.setStatFlag.raise.axisRecord.ite h.setStatFlag

theorem AxisStep.overshoot (h : AxisStep a s t) : AxisStep a s (t.overshoot a) := h.setStatFlag.raise.axisRecord

theorem AxisStep.runMotor (h : AxisStep a s t) : AxisStep a s (t.runMotor a) := by
  unfold State.runMotor
  dsimp only
  have hm {pos v : Int} {lim : Bool} : AxisStep a s ((t.moveTo a pos v).noteLimit a lim) := h.moveTo.noteLimit
  exact ((hm.overshoot.ite hm).modMo.ite (hm.overshoot.ite hm)).setStat

theorem AxisStep.homeAxis (h : AxisStep a s t) : AxisStep a s (t.homeAxis a) := by
  unfold State.homeAxis
  dsimp only
  have hm {pos v : Int} {lim : Bool} {f : Motor → Motor} :
      AxisStep a s ((((t.moveTo a pos v).noteLimit a lim).setFlag (R.MOT_AX_STAT a) F.MOT_AX_STAT_STANDSTILL false).modMo a f) :=
    h.moveTo.noteLimit.setStatFlag.modMo
  exact (((hm.modMo.ite hm).modMo.modMo.setStat).homingEnd).ite (hm.modMo.ite hm)

theorem AxisStep.stopAxis (h : AxisStep a s t) : AxisStep a s (t.stopAxis a) := by
  unfold State.stopAxis
  dsimp only
  have hm {pos v : Int} {lim : Bool} : AxisStep a s ((t.moveTo a pos v).noteLimit a lim) := h.moveTo.noteLimit
  exact (hm.overshoot.ite hm).setStat.ite (hm.overshoot.ite hm)

theorem AxisStep.driveAxis (h : AxisStep a s t) : AxisStep a s (t.driveAxis a) := by
  unfold State.driveAxis
  dsimp only
  exact h.ite (h.setReg (by simp)).modMo

theorem AxisStep.retarget {k : Nat} {target : Int} (h : AxisStep a s t) : AxisStep a s (t.retarget a k target) :=
  h.modMo.setStat.setStat.setStatFlag

theorem AxisStep.applyGo (h : AxisStep a s t) : AxisStep a s (t.applyGo a) := by
  unfold State.applyGo
  split
  · exact h.modMo.retarget.ite h.modMo.raise
  · exact h

/-- Words that are all sound are read without a report (R393). -/
theorem readWords_sound (h : s.intg.planted = []) (chn : Nat) (ranges : List (Nat × Nat)) : s.readWords chn ranges = (false, s) := by
  simp [State.readWords, State.unsound, h]

theorem axisInstant_sound (h : s.intg.planted = []) (a : Nat) :
    s.axisInstant a =
      let u := (s.applyGo a).feedbackFault a
      let st := u.axisState a
      let u := if st = 1 ∨ st = 2 then u.runMotor a else if st = 3 then u.homeAxis a else if st = 4 then u.stopAxis a else u
      if u.axisState a = 0 ∨ u.axisState a = 5 then u else u.driveAxis a := by
  have hp : ((s.applyGo a).feedbackFault a).intg.planted = [] := by
    rw [((AxisStep.refl a s).applyGo.feedbackFault).intg, h]
  simp only [State.axisInstant, readWords_sound hp, ite_self]

/-- An instant of one axis, over sound words, is a step of that axis. -/
theorem axisStep_axisInstant (h : s.intg.planted = []) (a : Nat) : AxisStep a s (s.axisInstant a) := by
  rw [axisInstant_sound h]
  have hf := (AxisStep.refl a s).applyGo.feedbackFault
  have hm := hf.runMotor.ite (c := ((s.applyGo a).feedbackFault a).axisState a = 1 ∨ ((s.applyGo a).feedbackFault a).axisState a = 2)
    (hf.homeAxis.ite (c := ((s.applyGo a).feedbackFault a).axisState a = 3) (hf.stopAxis.ite (c := ((s.applyGo a).feedbackFault a).axisState a = 4) hf))
  exact hm.ite hm.driveAxis

end

/-! ### What the reports and the drive leave -/

theorem reg_axisRecord (s : State) (a kind cause : Nat) {r : Nat} (hr : r ∉ evtRegs) : (s.axisRecord a kind cause).reg r = s.reg r :=
  (RegsBut.refl evtRegs s).post (List.Subset.refl _) r hr

/-- A flag raised with a record leaves the registers of the axes. -/
theorem reg_reported (s : State) (a kind cause : Nat) (f : Field) {r : Nat} (hr : r ∉ R.MOT_ISR :: evtRegs) :
    ((s.raise R.MOT_ISR f).axisRecord a kind cause).reg r = s.reg r := by
  rw [reg_axisRecord _ _ _ _ (List.not_mem_of_not_mem_cons hr), State.reg_raise_ne _ _ _ _ (List.ne_of_not_mem_cons hr)]

@[simp] theorem mo_axisRecord (s : State) (a kind cause n : Nat) : (s.axisRecord a kind cause).mo n = s.mo n :=
  mo_of_mot ((keeps_State_post (List.Subset.refl _) _ _ _ _ (Keeps.refl _ s)).part .mot rfl) n

@[simp] theorem axisState_reported (s : State) (a kind cause : Nat) (f : Field) (b : Nat) :
    ((s.raise R.MOT_ISR f).axisRecord a kind cause).axisState b = s.axisState b :=
  fld_of_reg (reg_reported s a kind cause f (MOT_AX_STAT_notMem_reports b)) _

@[simp] theorem vel_reported (s : State) (a kind cause : Nat) (f : Field) (b : Nat) :
    ((s.raise R.MOT_ISR f).axisRecord a kind cause).vel b = s.vel b :=
  vel_of_reg (reg_reported s a kind cause f (MOT_AX_VEL_notMem_reports b))

section
variable (s : State) (a : Nat)

@[simp] theorem mo_homingEnd (cause n : Nat) : (s.homingEnd a cause).mo n = s.mo n := by simp [State.homingEnd]

@[simp] theorem vel_homingEnd (cause b : Nat) : (s.homingEnd a cause).vel b = s.vel b := by simp [State.homingEnd]

@[simp] theorem axisState_homingEnd (cause : Nat) : (s.homingEnd a cause).axisState a = s.axisState a := by
  rw [State.homingEnd, axisState_reported, State.setFlag, axisState_setStat _ _ _ (by decide) (by decide),
    axisState_setStat _ _ _ (by decide) (by decide)]

theorem flag_CFG_homingEnd (cause : Nat) (f : Field) : (s.homingEnd a cause).flag (R.MOT_AX_CFG a) f = s.flag (R.MOT_AX_CFG a) f := by
  refine flag_of_reg ?_ f
  rw [State.homingEnd, reg_reported _ _ _ _ _ (MOT_AX_CFG_notMem_reports a), State.reg_setFlag_ne _ _ _ _ _ (MOT_AX_STAT_ne_CFG a a).symm,
    State.reg_setFld_ne _ _ _ _ _ (MOT_AX_STAT_ne_CFG a a).symm]

@[simp] theorem mo_setVel (v : Int) (n : Nat) : (s.setVel a v).mo n = s.mo n := rfl
@[simp] theorem mo_setAxisState (st n : Nat) : (s.setAxisState a st).mo n = s.mo n := rfl
@[simp] theorem vel_setAxisState (st b : Nat) : (s.setAxisState a st).vel b = s.vel b := vel_setStat s b a _ _

@[simp] theorem mo_noteLimit (lim : Bool) (n : Nat) : (s.noteLimit a lim).mo n = s.mo n := by
  unfold State.noteLimit
  dsimp only
  split <;> simp

@[simp] theorem vel_noteLimit (lim : Bool) (b : Nat) : (s.noteLimit a lim).vel b = s.vel b := by
  unfold State.noteLimit
  dsimp only
  split <;> simp

@[simp] theorem mo_overshoot (n : Nat) : (s.overshoot a).mo n = s.mo n := by simp [State.overshoot]
@[simp] theorem vel_overshoot (b : Nat) : (s.overshoot a).vel b = s.vel b := by simp [State.overshoot]

/-- The load-angle law leaves the position, the target and a waiting target alone. -/
theorem mo_driveAxis : ((s.driveAxis a).mo a).pos = (s.mo a).pos ∧ ((s.driveAxis a).mo a).target = (s.mo a).target ∧
    ((s.driveAxis a).mo a).go = (s.mo a).go := by
  unfold State.driveAxis
  dsimp only
  split <;> simp

theorem regsBut_driveAxis : RegsBut [R.MOT_AX_MEAS a] s (s.driveAxis a) := by
  unfold State.driveAxis
  dsimp only
  exact (RegsBut.refl _ s).ite (((RegsBut.refl _ s).setReg (by simp)).modMo)

theorem MOT_AX_VEL_ne_MEAS : R.MOT_AX_VEL a ≠ R.MOT_AX_MEAS a := by unfold R.MOT_AX_VEL R.MOT_AX_MEAS; omega
theorem MOT_AX_STAT_ne_MEAS : R.MOT_AX_STAT a ≠ R.MOT_AX_MEAS a := by unfold R.MOT_AX_STAT R.MOT_AX_MEAS; omega

@[simp] theorem vel_driveAxis : (s.driveAxis a).vel a = s.vel a :=
  vel_of_reg (regsBut_driveAxis s a _ (by simpa using MOT_AX_VEL_ne_MEAS a))

@[simp] theorem axisState_driveAxis : (s.driveAxis a).axisState a = s.axisState a :=
  (regsBut_driveAxis s a).fld (by simpa using MOT_AX_STAT_ne_MEAS a) _

end

/-! ### The first step of a move (R257) -/

theorem vT_nonneg (n : Nat) : 0 ≤ vT n := by
  simp only [vT, roundDiv]
  omega

/-- Rounding ties up takes a negative velocity no further than the positive one. -/
theorem neg_vT_le (v : Int) : -vT v ≤ vT (-v) := by
  simp only [vT, roundDiv]
  omega

theorem sgn_of_pos {x : Int} (h : 0 < x) : sgn x = 1 := if_pos h
theorem sgn_of_neg {x : Int} (h : x < 0) : sgn x = -1 := by rw [sgn, if_neg (by omega), if_pos h]

/-- A first step short of the distance does not reach the target. -/
theorem vT_sgn_ne {d : Int} {n : Nat} (h : vT n < |d|) : vT (sgn d * n) ≠ d := by
  have h0 := vT_nonneg n
  have hn := neg_vT_le n
  rcases lt_trichotomy d 0 with hd | rfl | hd
  · rw [sgn_of_neg hd, neg_one_mul]
    rw [abs_of_neg hd] at h
    omega
  · simp at h; omega
  · rw [sgn_of_pos hd, one_mul]
    rw [abs_of_pos hd] at h
    omega

/-- The set's start velocity is within 5,000,000 counts/s (R255). -/
theorem profile_start_le {s : State} {a k : Nat} (h : s.setValid a k = true) : s.profile a k 0 ≤ 5000000 := by
  simp only [State.setValid, Bool.and_eq_true, decide_eq_true_eq] at h
  omega

theorem abs_sgn_mul {d : Int} (h : d ≠ 0) (n : Nat) : |sgn d * (n : Int)| = n := by
  rcases lt_or_gt_of_ne h with hd | hd
  · rw [sgn_of_neg hd]; simp
  · rw [sgn_of_pos hd]; simp

section
variable {s : State} {a k : Nat}

/-- What is left to the target, in s32.16 counts. -/
def Motor.toGo (m : Motor) : Int := m.target * 65536 - m.pos

theorem toGo_eq (m : Motor) : m.target * 65536 - m.pos = m.toGo := rfl

/-- An axis at rest away from its target starts with the set's start velocity toward it. -/
theorem plan_from_rest {d : Int} (hd : d ≠ 0) : s.plan a k 0 d = sgn d * (s.profile a k 0 : Nat) := by
  have hs : sgn d ≠ 0 := by
    rcases lt_or_gt_of_ne hd with h | h
    · rw [sgn_of_neg h]; decide
    · rw [sgn_of_pos h]; decide
  simp only [State.plan, hs, false_and, if_false, if_true]

theorem limited_open {v vn : Int} (hp : s.flag (R.FBK_STAT (s.axisFbk a)) F.FBK_STAT_LIMP = false)
    (hn : s.flag (R.FBK_STAT (s.axisFbk a)) F.FBK_STAT_LIMN = false) : s.limited a v vn = (vn, false) := by
  simp [State.limited, hp, hn]

theorem mo_moveTo (s : State) (a : Nat) (pos v : Int) :
    ((s.moveTo a pos v).mo a).pos = pos ∧ ((s.moveTo a pos v).mo a).target = (s.mo a).target ∧ ((s.moveTo a pos v).mo a).go = (s.mo a).go := by
  simp [State.moveTo]

/-- A first step short of the distance leaves the axis MOVING, with the start velocity, that much nearer. -/
theorem runMotor_from_rest (hk : s.fld (R.MOT_AX_STAT a) F.MOT_AX_STAT_PSLOT = k) (hv : s.vel a = 0) (hset : s.setValid a k = true)
    (hp : s.flag (R.FBK_STAT (s.axisFbk a)) F.FBK_STAT_LIMP = false) (hn : s.flag (R.FBK_STAT (s.axisFbk a)) F.FBK_STAT_LIMN = false)
    (hfar : vT (s.profile a k 0) < |(s.mo a).toGo|) :
    (s.runMotor a).axisState a = 2 ∧ (s.runMotor a).vel a = sgn (s.mo a).toGo * (s.profile a k 0 : Nat) ∧
    ((s.runMotor a).mo a).pos = (s.mo a).pos + vT (sgn (s.mo a).toGo * (s.profile a k 0 : Nat)) ∧
    ((s.runMotor a).mo a).target = (s.mo a).target ∧ ((s.runMotor a).mo a).go = (s.mo a).go := by
  have hd : (s.mo a).toGo ≠ 0 := fun h => by
    have := vT_nonneg (s.profile a k 0)
    rw [h, abs_zero] at hfar
    omega
  have hland : ¬ |(s.mo a).toGo| ≤ vT |sgn (s.mo a).toGo * (s.profile a k 0 : Nat)| := by
    rw [abs_sgn_mul hd]
    omega
  have hrest : (s.mo a).pos + vT (sgn (s.mo a).toGo * (s.profile a k 0 : Nat)) ≠ (s.mo a).target * 65536 := by
    have h := vT_sgn_ne hfar
    simp only [Motor.toGo] at h ⊢
    omega
  have hvel (pos : Int) : (s.moveTo a pos (sgn (s.mo a).toGo * (s.profile a k 0 : Nat))).vel a = sgn (s.mo a).toGo * (s.profile a k 0 : Nat) := by
    have habs := abs_sgn_mul hd (s.profile a k 0)
    have hle := profile_start_le hset
    refine vel_setVel _ _ ?_ ?_ <;> rw [abs_eq (by omega)] at habs <;> omega
  obtain ⟨hpos, htarget, hgo⟩ := mo_moveTo s a ((s.mo a).pos + vT (sgn (s.mo a).toGo * (s.profile a k 0 : Nat)))
    (sgn (s.mo a).toGo * (s.profile a k 0 : Nat))
  unfold State.runMotor
  simp only [hk, hv, toGo_eq, plan_from_rest hd, limited_open hp hn, hland, hrest, decide_false, Bool.and_false, Bool.false_and, Bool.not_false,
    Bool.true_and, Bool.false_eq_true, if_false]
  refine ⟨axisState_setAxisState _ _ (by decide : 2 < 8), ?_, ?_, ?_, ?_⟩
  all_goals split <;> simp [hvel, hpos, htarget, hgo]

end

/-! ### The axes at an instant, one after another (R254) -/

/-- The place of an element in a list without repetitions: the others stand before and behind it. -/
theorem split_of_mem {l : List Nat} {a : Nat} (hn : l.Nodup) (ha : a ∈ l) :
    ∃ l₁ l₂, l = l₁ ++ a :: l₂ ∧ (∀ b ∈ l₁, b ∈ l ∧ b ≠ a) ∧ ∀ b ∈ l₂, b ∈ l ∧ b ≠ a := by
  obtain ⟨l₁, l₂, rfl⟩ := List.append_of_mem ha
  have hna := (List.nodup_middle.mp hn).notMem
  refine ⟨l₁, l₂, rfl, fun b hb => ⟨by simp [hb], ?_⟩, fun b hb => ⟨by simp [hb], ?_⟩⟩
  all_goals
    rintro rfl
    exact hna (by simp [hb])

theorem each_split (s : State) (l₁ l₂ : List Nat) (a : Nat) (f : Nat → State → State) :
    s.each (l₁ ++ a :: l₂) f = (f a (s.each l₁ f)).each l₂ f := by
  simp [State.each]

theorem each_fixed {s : State} {l : List Nat} {f : Nat → State → State} (h : ∀ n ∈ l, f n s = s) : s.each l f = s := by
  unfold State.each
  induction l with
  | nil => rfl
  | cons n l ih => rw [List.foldl_cons, h n (by simp), ih fun m hm => h m (by simp [hm])]

/-- No step of another axis writes this register. -/
def spared (a r : Nat) : Prop := ∀ b < 8, b ≠ a → r ∉ axisRegs b

theorem spared_own {a r : Nat} (h : r = R.MOT_AX_STAT a ∨ r = R.MOT_AX_VEL a ∨ r = R.MOT_AX_CFG a ∨ r = R.MOT_AX_DRV a) : spared a r := by
  intro b hb hne
  simp only [List.mem_cons, List.mem_append, List.not_mem_nil, or_false, R.MOT_AX_STAT, R.MOT_AX_VEL, R.MOT_AX_CFG, R.MOT_AX_DRV,
    R.MOT_AX_MEAS, R.MOT_ISR, R.SEQ_EVT_WR, R.SEQ_GRP_ISR, R.SEQ_EVT_DROP] at h ⊢
  omega

theorem spared_far {a r : Nat} (h : 0x3D0000 ≤ r) : spared a r := by
  intro b hb _
  simp only [List.mem_cons, List.mem_append, List.not_mem_nil, or_false, R.MOT_AX_STAT, R.MOT_AX_VEL, R.MOT_AX_MEAS, R.MOT_ISR,
    R.SEQ_EVT_WR, R.SEQ_GRP_ISR, R.SEQ_EVT_DROP]
  omega

/-- From s to t other axes alone have moved. -/
structure AxisSame (a : Nat) (s t : State) : Prop where
  motor : t.mo a = s.mo a
  regs : ∀ r, spared a r → t.reg r = s.reg r
  intg : t.intg = s.intg

theorem AxisStep.others {a b : Nat} {s t : State} (h : AxisStep b s t) (hb : b < 8) (hne : b ≠ a) : AxisSame a s t :=
  ⟨h.motors a hne.symm, fun _ hr => h.regs _ (hr b hb hne), h.intg⟩

theorem AxisSame.trans {a : Nat} {s t u : State} (h : AxisSame a s t) (k : AxisSame a t u) : AxisSame a s u :=
  ⟨k.motor.trans h.motor, fun r hr => (k.regs r hr).trans (h.regs r hr), k.intg.trans h.intg⟩

/-- The instants of other axes, over sound words. -/
theorem axisSame_each {a : Nat} {s : State} {l : List Nat} (hl : ∀ b ∈ l, b < 8 ∧ b ≠ a) (hs : s.intg.planted = []) :
    AxisSame a s (s.each l fun b u => u.axisInstant b) := by
  unfold State.each
  induction l generalizing s with
  | nil => exact ⟨rfl, fun _ _ => rfl, rfl⟩
  | cons b l ih =>
    obtain ⟨hb, hne⟩ := hl b (by simp)
    have hstep := axisStep_axisInstant hs b
    exact (hstep.others hb hne).trans (ih (fun c hc => hl c (by simp [hc])) (by rw [hstep.intg, hs]))

/-! ### A waiting target at the instant (R254, R256, R257) -/

/-- An axis is at rest with a valid set, its load angle from no interface and both limits open. -/
structure State.Free (s : State) (a k : Nat) : Prop where
  valid : s.setValid a k = true
  rest : s.vel a = 0
  source : s.fld (R.MOT_AX_CFG a) F.MOT_AX_CFG_LASRC ≠ 1
  limp : s.flag (R.FBK_STAT (s.axisFbk a)) F.FBK_STAT_LIMP = false
  limn : s.flag (R.FBK_STAT (s.axisFbk a)) F.FBK_STAT_LIMN = false

/-- From s to t no register has changed but the axis's status and what steps of other axes write. -/
def Undisturbed (a : Nat) (s t : State) : Prop := ∀ r, r ≠ R.MOT_AX_STAT a → spared a r → t.reg r = s.reg r

section
variable {s t : State} {a k : Nat}

theorem profile_of_undisturbed (ha : a < 8) (h : Undisturbed a s t) (w : Nat) : t.profile a k w = s.profile a k w := by
  have hr : profileAddr a k w ≠ R.MOT_AX_STAT a := by unfold profileAddr R.MOT_AX_STAT; omega
  rw [State.profile, h _ hr (spared_far (by unfold profileAddr; omega)), State.profile]

theorem setValid_of_undisturbed (ha : a < 8) (h : Undisturbed a s t) : t.setValid a k = s.setValid a k := by
  have hdrv : R.MOT_AX_DRV a ≠ R.MOT_AX_STAT a := by unfold R.MOT_AX_DRV R.MOT_AX_STAT; omega
  simp only [State.setValid, profile_of_undisturbed ha h, flag_of_reg (h _ (MOT_AX_STAT_ne_CFG a a).symm (spared_own (by simp))),
    fld_of_reg (h _ hdrv (spared_own (by simp)))]

theorem State.Free.congr (hf : s.Free a k) (ha : a < 8) (h : Undisturbed a s t) : t.Free a k := by
  have hcfg : t.reg (R.MOT_AX_CFG a) = s.reg (R.MOT_AX_CFG a) := h _ (MOT_AX_STAT_ne_CFG a a).symm (spared_own (by simp))
  have hfbk : t.axisFbk a = s.axisFbk a := fld_of_reg hcfg _
  have hlim : t.reg (R.FBK_STAT (s.axisFbk a)) = s.reg (R.FBK_STAT (s.axisFbk a)) :=
    h _ (by unfold R.FBK_STAT R.MOT_AX_STAT; omega) (spared_far (by unfold R.FBK_STAT; omega))
  refine ⟨(setValid_of_undisturbed ha h).trans hf.valid, ?_, ?_, ?_, ?_⟩
  · rw [vel_of_reg (h _ (MOT_AX_VEL_ne_STAT a a) (spared_own (by simp))), hf.rest]
  · rw [fld_of_reg hcfg]; exact hf.source
  · rw [hfbk, flag_of_reg hlim, hf.limp]
  · rw [hfbk, flag_of_reg hlim, hf.limn]

theorem AxisSame.undisturbed (h : AxisSame a s t) : Undisturbed a s t := fun r _ hr => h.regs r hr

end

/-- The velocity with which an axis starts toward a target with a set (R257). -/
def State.startVel (s : State) (a k : Nat) (target : Int) : Int := sgn (target * 65536 - (s.mo a).pos) * (s.profile a k 0 : Nat)

/-- A host target waits for an IDLE axis that is free, further away than the first step, and all words are sound. -/
structure State.Starts (s : State) (a k : Nat) (target : Int) : Prop where
  free : s.Free a k
  go : (s.mo a).go = some (k, target)
  slot : k < 4
  idle : s.axisState a = 1
  far : vT (s.profile a k 0) < |target * 65536 - (s.mo a).pos|
  sound : s.intg.planted = []

/-- The axis is MOVING toward the target with a velocity, at a position. -/
structure State.Underway (t : State) (a : Nat) (target v pos : Int) : Prop where
  target : (t.mo a).target = target
  go : (t.mo a).go = none
  moving : t.axisState a = 2
  vel : t.vel a = v
  pos : (t.mo a).pos = pos

section
variable {s t : State} {a k : Nat} {target v pos : Int}

theorem State.Starts.congr (h : s.Starts a k target) (ha : a < 8) (hs : AxisSame a s t) : t.Starts a k target :=
  ⟨h.free.congr ha hs.undisturbed, by rw [hs.motor, h.go], h.slot,
    (fld_of_reg (hs.regs _ (spared_own (by simp))) _).trans h.idle,
    by rw [hs.motor, profile_of_undisturbed ha hs.undisturbed]; exact h.far, by rw [hs.intg, h.sound]⟩

theorem State.Underway.congr (h : s.Underway a target v pos) (hs : AxisSame a s t) : t.Underway a target v pos :=
  ⟨by rw [hs.motor, h.target], by rw [hs.motor, h.go], (fld_of_reg (hs.regs _ (spared_own (by simp))) _).trans h.moving,
    (vel_of_reg (hs.regs _ (spared_own (by simp)))).trans h.vel, by rw [hs.motor, h.pos]⟩

theorem retarget_state (s : State) (a k : Nat) (target : Int) : (s.retarget a k target).axisState a = 2 :=
  (axisState_setStat _ a _ (by decide) (by decide)).trans (axisState_setAxisState _ a (by decide))

theorem retarget_slot (s : State) (a : Nat) (target : Int) (hk : k < 4) :
    (s.retarget a k target).fld (R.MOT_AX_STAT a) F.MOT_AX_STAT_PSLOT = k := by
  refine (State.fld_setFld_field _ _ _ _ _ (by decide) (by decide)).trans ?_
  refine (State.fld_setFld_field _ _ _ _ _ (by decide) (by decide)).trans ?_
  exact (State.fld_setFld_same _ _ _ _ (by decide)).trans (Nat.mod_eq_of_lt hk)

theorem mo_retarget (s : State) (a k : Nat) (target : Int) : (s.retarget a k target).mo a = { s.mo a with target := target } :=
  State.mo_modMo_same s a fun m => { m with target := target }

theorem applyGo_of_idle (hgo : (s.mo a).go = some (k, target)) (hi : s.axisState a = 1) (hv : s.setValid a k = true) :
    s.applyGo a = (s.modMo a fun m => { m with go := none }).retarget a k target := by
  rw [State.applyGo, hgo]
  exact if_pos ⟨.inl hi, hv⟩

theorem feedbackFault_of_source (h : s.fld (R.MOT_AX_CFG a) F.MOT_AX_CFG_LASRC ≠ 1) : s.feedbackFault a = s := by
  simp [State.feedbackFault, h]

/-- The instant of an axis for which a target waits: the first step toward it. -/
theorem State.Starts.axisInstant (h : s.Starts a k target) (ha : a < 8) :
    (s.axisInstant a).Underway a target (s.startVel a k target) ((s.mo a).pos + vT (s.startVel a k target)) := by
  have hund : Undisturbed a s ((s.modMo a fun m => { m with go := none }).retarget a k target) := fun r hr _ =>
    ((((RegsBut.refl [R.MOT_AX_STAT a] s).modMo.modMo.setFld (by simp)).setFld (by simp)).setFlag (by simp)) r (by simpa using hr)
  have hfree := h.free.congr ha hund
  have hstate := retarget_state (s.modMo a fun m => { m with go := none }) a k target
  have hslot := retarget_slot (s.modMo a fun m => { m with go := none }) a target h.slot
  have hmo : ((s.modMo a fun m => { m with go := none }).retarget a k target).mo a = { s.mo a with go := none, target := target } := by
    rw [mo_retarget, State.mo_modMo_same]
  have hprofile := profile_of_undisturbed (k := k) ha hund 0
  rw [axisInstant_sound h.sound]
  simp only [applyGo_of_idle h.go h.idle h.free.valid, feedbackFault_of_source hfree.source]
  generalize (s.modMo a fun m => { m with go := none }).retarget a k target = u at *
  obtain ⟨hmoving, hvel, hpos, htarget, hgo⟩ := runMotor_from_rest hslot hfree.rest hfree.valid hfree.limp hfree.limn
    (by rw [hprofile, hmo]; exact h.far)
  obtain ⟨hpos', htarget', hgo'⟩ := mo_driveAxis (u.runMotor a) a
  simp only [hstate, or_true, if_true, hmoving, OfNat.ofNat_ne_zero, Nat.reduceEqDiff, or_self, if_false]
  rw [hmo, hprofile] at hvel hpos
  exact ⟨by rw [htarget', htarget, hmo], by rw [hgo', hgo, hmo], by rw [axisState_driveAxis, hmoving], by rw [vel_driveAxis, hvel]; rfl,
    by rw [hpos', hpos]; rfl⟩

/-- All axes take their steps. -/
theorem State.Starts.axes {l : List Nat} (h : s.Starts a k target) (hn : l.Nodup) (ha : a ∈ l) (hl : ∀ b ∈ l, b < 8) :
    (s.each l fun b u => u.axisInstant b).Underway a target (s.startVel a k target) ((s.mo a).pos + vT (s.startVel a k target)) := by
  obtain ⟨l₁, l₂, rfl, h₁, h₂⟩ := split_of_mem hn ha
  rw [each_split]
  have hbefore := axisSame_each (fun b hb => ⟨hl b (h₁ b hb).1, (h₁ b hb).2⟩) h.sound
  have ha8 := hl a ha
  have hvel : (s.each l₁ fun b u => u.axisInstant b).startVel a k target = s.startVel a k target := by
    rw [State.startVel, hbefore.motor, profile_of_undisturbed ha8 hbefore.undisturbed, State.startVel]
  have hstep := (h.congr ha8 hbefore).axisInstant ha8
  rw [hvel, hbefore.motor] at hstep
  refine hstep.congr (axisSame_each (fun b hb => ⟨hl b (h₂ b hb).1, (h₂ b hb).2⟩) ?_)
  rw [(axisStep_axisInstant (h.congr ha8 hbefore).sound a).intg, (h.congr ha8 hbefore).sound]

/-! ### The speed estimates at an instant (R273) -/

theorem regsBut_speed (s : State) (i : Nat) : RegsBut [R.FBK_SPEED i] s (s.speed i) := ((RegsBut.refl _ s).setSfld (by simp)).modFb

/-- The speed estimates leave the axes. -/
theorem State.Underway.speeds (h : s.Underway a target v pos) (ha : a < 8) (l : List Nat) :
    (s.each l fun i u => u.speed i).Underway a target v pos := by
  have hreg {r : Nat} (hr : r < 0x3D1000) : (s.each l fun i u => u.speed i).reg r = s.reg r :=
    each_unchanged (fun u => u.reg r) (fun i _ u => regsBut_speed u i r (by simp only [List.mem_singleton, R.FBK_SPEED]; omega)) s
  have hmot : (s.each l fun i u => u.speed i).mo a = s.mo a := each_unchanged (fun u => u.mo a) (fun i _ u => (rfl : (u.speed i).mo a = u.mo a)) s
  have hs : (s.each l fun i u => u.speed i).axisState a = s.axisState a := fld_of_reg (hreg (by unfold R.MOT_AX_STAT; omega)) _
  have hv := vel_of_reg (hreg (r := R.MOT_AX_VEL a) (by unfold R.MOT_AX_VEL; omega))
  exact ⟨by rw [hmot, h.target], by rw [hmot, h.go], hs.trans h.moving, hv.trans h.vel, by rw [hmot, h.pos]⟩

end

/-! ### The due moves of the channels (R98, R254) -/

/-- Before a layer starts no move is due. -/
theorem channelMoves_of_waiting {s : State} (h : s.grpState < 2) (ch : Nat) : s.channelMoves ch = s := by
  have hact : s.acting ch = false := by
    rw [State.acting, decide_eq_false (by omega : ¬s.grpState = 2), decide_eq_false (by omega : ¬s.grpState = 3)]
    rfl
  rw [State.channelMoves, hact, Bool.and_false, if_neg Bool.false_ne_true]

theorem PWR_DOM_notMem_chanRegs {n : Nat} (h : n < 32) : R.PWR_DOM ∉ chanRegs n := by
  simp only [chanRegs, armRegs, evtRegs, List.mem_append, List.mem_cons, List.not_mem_nil, or_false, R.PWR_DOM, R.SEQ_STAT,
    R.SEQ_FAULT, R.SEQ_FAULT_SEQNO, R.SEQ_FAULT_S_LO, R.SEQ_FAULT_S_HI, R.SEQ_YDONE, R.SEQ_FEED_REFETCH, R.LSR_CH_MAN,
    R.LSR_CH_BOUNDS, R.LSR_CH_EVENTS, R.LSR_CH_EVENTS2, R.STI_CH_HANDS, R.STI_CH_FB, R.STI_CH_CLAMP, R.STI_CH_TOKERR,
    R.SEQ_RING_HEAD, R.SEQ_DISCARD, R.SRV_CH_STAT, R.SRV_AX_STAT, R.LSR_LOG_DROP, R.LSR_ISR, R.SEQ_GRP_DESC, R.SEQ_EVT_WR,
    R.SEQ_GRP_ISR, R.SEQ_EVT_DROP]
  omega

theorem reg_PWR_DOM_retarget (s : State) (a k : Nat) (target : Int) : (s.retarget a k target).reg R.PWR_DOM = s.reg R.PWR_DOM :=
  ((((RegsBut.refl [R.MOT_AX_STAT a] s).modMo.setFld (by simp)).setFld (by simp)).setFlag (by simp)) _
    (by simp only [List.mem_singleton, R.PWR_DOM, R.MOT_AX_STAT]; omega)

theorem reg_PWR_DOM_moveAct (s : State) {ch : Nat} (h : ch < 32) (x : Act) : (s.moveAct ch x).reg R.PWR_DOM = s.reg R.PWR_DOM := by
  unfold State.moveAct
  split
  · split
    · exact reg_PWR_DOM_retarget ..
    · exact ((RegsBut.refl (chanRegs ch) s).fault (List.Subset.refl _)) _ (PWR_DOM_notMem_chanRegs h)
  · rfl

theorem reg_PWR_DOM_channelMoves (s : State) {ch : Nat} (h : ch < 32) : (s.channelMoves ch).reg R.PWR_DOM = s.reg R.PWR_DOM := by
  unfold State.channelMoves
  split
  · exact foldl_unchanged (fun u => u.reg R.PWR_DOM) (fun x _ u => reg_PWR_DOM_moveAct u h x) _
  · rfl

/-- Every channel's due moves are applied. -/
def State.moves (s : State) : State := s.each s.chs fun ch u => u.channelMoves ch

theorem up_moves (s : State) (d : Nat) : s.moves.up d = s.up d :=
  up_of_reg s (each_unchanged (fun u => u.reg R.PWR_DOM) (fun _ h u => reg_PWR_DOM_channelMoves u (lt_of_mem_chs h)) s) d

theorem axes_of_variant {s t : State} (h : t.variant = s.variant) : t.axes = s.axes := by rw [State.axes, h, State.axes]

theorem axes_moves (s : State) : s.moves.axes = s.axes :=
  axes_of_variant (each_unchanged State.variant
    (fun ch _ u => (keeps_State_channelMoves (List.Subset.refl _) ch (Keeps.refl _ u)).part .variant rfl) s)

theorem axes_axisInstants (s : State) (l : List Nat) : (s.each l fun a u => u.axisInstant a).axes = s.axes :=
  axes_of_variant (each_unchanged State.variant
    (fun a _ u => (keeps_State_axisInstant (List.Subset.refl _) a (Keeps.refl _ u)).part .variant rfl) s)

/-- An instant: the due moves, then, with MOT up, a step of each axis and a speed estimate of each interface. -/
theorem exec_generatorInstant {s : State} (h : s.time.mt % nsU 10000 = 0) : exec .generatorInstant s = .next
    (if s.up dMOT then (s.moves.each (List.range s.axes) fun a u => u.axisInstant a).each (List.range s.axes) fun i u => u.speed i
     else s.moves) := by
  have hx : exec .generatorInstant s = execGeneratorInstant s := rfl
  rw [hx, execGeneratorInstant, occurs_next (decide_eq_true h)]
  refine congrArg _ (?_ : (if s.moves.up dMOT then (s.moves.each (List.range s.moves.axes) fun a u => u.axisInstant a).each
    (List.range (s.moves.each (List.range s.moves.axes) fun a u => u.axisInstant a).axes) fun i u => u.speed i else s.moves) = _)
  rw [up_moves, axes_axisInstants, axes_moves]

/-! ### Fields under masks -/

section
variable {f : Field} {v m : Word}

/-- A field reads zero behind a mask that is clear at its bits. -/
theorem field_and_of_clear (hm : ∀ i < f.width, m.getLsbD (f.lo + i) = false) : field f (v &&& m) = 0 := by
  refine Nat.eq_of_testBit_eq fun i => ?_
  simp only [field, Nat.testBit_mod_two_pow, Nat.testBit_shiftRight, BitVec.testBit_toNat, BitVec.getLsbD_and, Nat.zero_testBit]
  by_cases hi : i < f.width
  · rw [hm i hi, Bool.and_false, Bool.and_false]
  · rw [decide_eq_false hi, Bool.false_and]

/-- Bits set beside a field leave it. -/
theorem field_or_of_clear (hm : ∀ i < f.width, m.getLsbD (f.lo + i) = false) : field f (v ||| m) = field f v := by
  refine Nat.eq_of_testBit_eq fun i => ?_
  simp only [field, Nat.testBit_mod_two_pow, Nat.testBit_shiftRight, BitVec.testBit_toNat, BitVec.getLsbD_or]
  by_cases hi : i < f.width
  · rw [hm i hi, Bool.or_false]
  · rw [decide_eq_false hi, Bool.false_and, Bool.false_and]

end

/-! ### The host's commands to an axis (R253, R254, R256, R267 to R269, R280) -/

section
variable {s : State} {a : Nat} {v : Word}

theorem exec_motGo (ha : a < s.axes) (hg : field F.MOT_AX_CMD_GO v = 1) : exec (.motGo a v) s = .next
    (if (s.axisState a = 1 ∨ s.axisState a = 2) ∧ s.setValid a (field F.MOT_AX_CMD_PSLOT v) then
       s.modMo a fun m => { m with go := some (field F.MOT_AX_CMD_PSLOT v, s.sfld (R.MOT_AX_TARGET a) F.MOT_AX_TARGET_TARGET) }
     else s.raise R.MOT_ISR F.MOT_ISR_REJ) := by
  have hx : exec (.motGo a v) s = execMotGo a v s := rfl
  rw [hx, execMotGo, onUnitWrite_next ha (axes_le s)]
  exact congrArg _ (if_neg (by omega))

/-- An axis begins to home with its homing set (R267). -/
def State.homingStart (s : State) (a : Nat) : State :=
  let k := s.fld (R.MOT_AX_HOME a) F.MOT_AX_HOME_HSLOT
  (((s.modMo a fun m => { m with homeEdge := false, homeDist := 0, homeFail := 0, go := none }).setFlag (R.MOT_AX_STAT a)
    F.MOT_AX_STAT_HOMED false).setFld (R.MOT_AX_STAT a) F.MOT_AX_STAT_PSLOT k).setAxisState a 3

theorem exec_motHome (ha : a < s.axes) (hh : field F.MOT_AX_CMD_HOME v = 1) (hi : s.axisState a = 1)
    (hv : s.setValid a (s.fld (R.MOT_AX_HOME a) F.MOT_AX_HOME_HSLOT) = true) : exec (.motHome a v) s = .next
    (if s.flag (R.FBK_STAT (s.axisFbk a)) F.FBK_STAT_HOME then s.homingEnd a 3 else s.homingStart a) := by
  have hx : exec (.motHome a v) s = execMotHome a v s := rfl
  rw [hx, execMotHome, onUnitWrite_next ha (axes_le s)]
  refine congrArg _ ?_
  dsimp only
  rw [if_neg (by omega), if_neg (by simp [hi, hv])]
  rfl

theorem exec_motAxPosWrite (ha : a < s.axes) : exec (.motAxPosWrite a v) s = .next
    (if s.axisState a ≤ 1 then s.modMo a fun m => { m with pos := v.toInt * 65536, target := v.toInt }
     else s.raise R.MOT_ISR F.MOT_ISR_REJ) := (onUnitWrite_next ha (axes_le s) : execMotAxPosWrite a v s = _)

/-- A DISABLED axis becomes IDLE, its target at its position (R269). -/
def State.axisOn (s : State) (a : Nat) : State :=
  let now := s.time.mt
  let c := (s.reg (R.FBK_COUNT (s.axisFbk a))).toInt
  (s.modMo a fun m => { m with pos := m.counts * 65536, target := m.counts, c0 := c, restAt := now, stallRun := 0 }).setAxisState a 1

theorem exec_axisEnable (ha : a < s.axes) : exec (.axisEnable a v) s = .next
    (if (s.storeAxisCfg a (v ||| 1)).axisState a ≠ 0 then s.storeAxisCfg a (v ||| 1) else (s.storeAxisCfg a (v ||| 1)).axisOn a) :=
  (onUnitWrite_next ha (axes_le s) : execAxisEnable a v s = _)

/-- An axis whose configuration a write with EN = 0 has stored, and whose homing it has ended (R268, R269). -/
def State.disabling (s : State) (a : Nat) (v : Word) : State :=
  if s.axisState a = 3 then (s.storeAxisCfg a (v &&& 0xFFFFFFFE)).homingEnd a 4 else s.storeAxisCfg a (v &&& 0xFFFFFFFE)

theorem exec_axisDisable (ha : a < s.axes) (h0 : s.axisState a ≠ 0) : exec (.axisDisable a v) s = .next
    (if (s.disabling a v).vel a = 0 then (s.disabling a v).axisOffNow a
     else if (s.disabling a v).flag (R.MOT_AX_CFG a) F.MOT_AX_CFG_IMMEDIATE then
       ((s.disabling a v).axisOffNow a).setFlag (R.MOT_AX_STAT a) F.MOT_AX_STAT_HOMED false
     else ((s.disabling a v).modMo a fun m => { m with go := none }).setAxisState a 4) := by
  have hx : exec (.axisDisable a v) s = execAxisDisable a v s := rfl
  rw [hx, execAxisDisable, onUnitWrite_next ha (axes_le s)]
  exact congrArg _ (if_neg h0)

/-! #### The configuration of an axis (R253) -/

/-- A configuration that does not change MODE is stored. -/
theorem storeAxisCfg_of_mode (h : s.flag (R.MOT_AX_CFG a) F.MOT_AX_CFG_EN = false ∨
    field F.MOT_AX_CFG_MODE v = s.fld (R.MOT_AX_CFG a) F.MOT_AX_CFG_MODE) :
    s.storeAxisCfg a v = s.setReg (R.MOT_AX_CFG a) (v &&& 0x00FF077F) := by
  unfold State.storeAxisCfg
  dsimp only
  refine if_neg ?_
  rcases h with h | h <;> simp [h]

theorem regsBut_storeAxisCfg (s : State) (a : Nat) (v : Word) : RegsBut [R.MOT_AX_CFG a, R.MOT_ISR] s (s.storeAxisCfg a v) := by
  unfold State.storeAxisCfg
  dsimp only
  exact (((RegsBut.refl _ s).setReg (by simp)).raise (by simp)).ite ((RegsBut.refl _ s).setReg (by simp))

@[simp] theorem mo_storeAxisCfg (s : State) (a : Nat) (v : Word) (n : Nat) : (s.storeAxisCfg a v).mo n = s.mo n :=
  mo_of_mot ((keeps_State_storeAxisCfg (List.Subset.refl _) a v (Keeps.refl _ s)).part .mot rfl) n

/-- A field of the configuration beside MODE takes its value in any case. -/
theorem fld_storeAxisCfg {f : Field} (s : State) (a : Nat) (v : Word) (h : f.lo + f.width ≤ 2 ∨ 3 ≤ f.lo) :
    (s.storeAxisCfg a v).fld (R.MOT_AX_CFG a) f = field f (v &&& 0x00FF077F) := by
  unfold State.storeAxisCfg
  dsimp only
  split
  · have hne : R.MOT_AX_CFG a ≠ R.MOT_ISR := by unfold R.MOT_AX_CFG R.MOT_ISR; omega
    rw [State.fld, State.reg_raise_ne _ _ _ _ hne, State.reg_setReg_same]
    exact field_withField_ne _ _ _ _ (by decide) h.symm
  · rw [State.fld, State.reg_setReg_same]

@[simp] theorem axisState_storeAxisCfg (s : State) (a : Nat) (v : Word) (b : Nat) : (s.storeAxisCfg a v).axisState b = s.axisState b := by
  refine (regsBut_storeAxisCfg s a v).fld ?_ _
  simp only [List.mem_cons, List.not_mem_nil, or_false, R.MOT_AX_STAT, R.MOT_AX_CFG, R.MOT_ISR]
  omega

@[simp] theorem vel_storeAxisCfg (s : State) (a : Nat) (v : Word) (b : Nat) : (s.storeAxisCfg a v).vel b = s.vel b := by
  refine vel_of_reg (regsBut_storeAxisCfg s a v _ ?_)
  simp only [List.mem_cons, List.not_mem_nil, or_false, R.MOT_AX_VEL, R.MOT_AX_CFG, R.MOT_ISR]
  omega

/-- A disabling write clears EN. -/
theorem EN_storeAxisCfg_disable (s : State) (a : Nat) (v : Word) :
    (s.storeAxisCfg a (v &&& 0xFFFFFFFE)).flag (R.MOT_AX_CFG a) F.MOT_AX_CFG_EN = false := by
  rw [State.flag, fld_storeAxisCfg _ _ _ (by decide), BitVec.and_assoc, field_and_of_clear (by decide)]
  rfl

theorem IMMEDIATE_storeAxisCfg_disable (s : State) (a : Nat) (v : Word) :
    (s.storeAxisCfg a (v &&& 0xFFFFFFFE)).flag (R.MOT_AX_CFG a) F.MOT_AX_CFG_IMMEDIATE = decide (field F.MOT_AX_CFG_IMMEDIATE v ≠ 0) := by
  rw [State.flag, fld_storeAxisCfg _ _ _ (by decide), BitVec.and_assoc, field_and_of_bits (by decide)]

/-! #### An axis that is cut off (R252, R265, R269) -/

theorem mo_axisOffNow (s : State) (a : Nat) : (s.axisOffNow a).mo a =
    { s.mo a with go := none, steps := 0, stepsEnd := false, stallRun := 0, intA := 0, intB := 0, dutyA := 0, dutyB := 0, pwmAt := none
                  overA := 0, overB := 0 } := by
  simp [State.axisOffNow, State.driveOff]

theorem axisState_axisOffNow (s : State) (a : Nat) : (s.axisOffNow a).axisState a = 0 := by
  rw [State.axisOffNow, State.driveOff, axisState_modMo, State.setFlag, axisState_setStat _ _ _ (by decide) (by decide), State.setFlag,
    axisState_setStat _ _ _ (by decide) (by decide), axisState_setAxisState _ _ (by decide)]

theorem vel_axisOffNow (s : State) (a : Nat) : (s.axisOffNow a).vel a = 0 := by
  rw [State.axisOffNow, State.driveOff, vel_modMo, vel_setStatFlag, vel_setStatFlag, vel_setAxisState,
    vel_setVel _ _ (by decide) (by decide)]

theorem regsBut_axisOffNow (s : State) (a : Nat) : RegsBut [R.MOT_AX_VEL a, R.MOT_AX_STAT a] s (s.axisOffNow a) :=
  RegsBut.modMo (((((RegsBut.refl _ s).setSfld (by simp)).setFld (by simp)).setFlag (by simp)).setFlag (by simp))

theorem unitsBut_axisOffNow (s : State) (a : Nat) : UnitsBut State.mo a s (s.axisOffNow a) := by
  intro m hm
  rw [State.axisOffNow, State.driveOff, State.mo_modMo, if_neg hm]
  simp

theorem flag_CFG_axisOffNow (s : State) (a : Nat) (f : Field) : (s.axisOffNow a).flag (R.MOT_AX_CFG a) f = s.flag (R.MOT_AX_CFG a) f :=
  (regsBut_axisOffNow s a).flag (by simp only [List.mem_cons, List.not_mem_nil, or_false, R.MOT_AX_CFG, R.MOT_AX_VEL, R.MOT_AX_STAT]; omega) f

theorem only_axisDisable {s t : State} {a : Nat} {v : Word} (h : exec (.axisDisable a v) s = .next t) :
    Only [.regs, .dram, .grp, .mot, .pci, .ddr, .out] s t :=
  ((keeps_execAxisDisable (List.Subset.refl _) a v (Keeps.refl _ s)).next t h).only

@[simp] theorem mo_disabling (s : State) (a : Nat) (v : Word) (n : Nat) : (s.disabling a v).mo n = s.mo n := by
  unfold State.disabling
  split <;> simp

@[simp] theorem vel_disabling (s : State) (a : Nat) (v : Word) (b : Nat) : (s.disabling a v).vel b = s.vel b := by
  unfold State.disabling
  split <;> simp

theorem flag_CFG_disabling (s : State) (a : Nat) (v : Word) (f : Field) :
    (s.disabling a v).flag (R.MOT_AX_CFG a) f = (s.storeAxisCfg a (v &&& 0xFFFFFFFE)).flag (R.MOT_AX_CFG a) f := by
  unfold State.disabling
  split
  · exact flag_CFG_homingEnd _ a 4 f
  · rfl

/-- What a cut-off leaves of an axis that is being disabled, its HOMED cleared or not. -/
theorem cutOff_effect {t : State} (ht : t = (s.disabling a v).axisOffNow a ∨
      t = ((s.disabling a v).axisOffNow a).setFlag (R.MOT_AX_STAT a) F.MOT_AX_STAT_HOMED false) :
    t.axisState a = 0 ∧ t.vel a = 0 ∧ t.flag (R.MOT_AX_CFG a) F.MOT_AX_CFG_EN = false ∧
    t.mo a = ((s.disabling a v).axisOffNow a).mo a ∧ UnitsBut State.mo a s t := by
  have hen : ((s.disabling a v).axisOffNow a).flag (R.MOT_AX_CFG a) F.MOT_AX_CFG_EN = false := by
    rw [flag_CFG_axisOffNow, flag_CFG_disabling, EN_storeAxisCfg_disable]
  have hunits : UnitsBut State.mo a s ((s.disabling a v).axisOffNow a) := fun m hm => by rw [unitsBut_axisOffNow _ a m hm, mo_disabling]
  rcases ht with rfl | rfl
  · exact ⟨axisState_axisOffNow _ a, vel_axisOffNow _ a, hen, rfl, hunits⟩
  · refine ⟨?_, ?_, ?_, State.mo_setFlag .., hunits.of_mot (State.setFlag_mot ..)⟩
    · rw [State.setFlag, axisState_setStat _ _ _ (by decide) (by decide), axisState_axisOffNow]
    · rw [vel_setStatFlag, vel_axisOffNow]
    · rw [State.flag_setFlag_ne _ _ _ _ (MOT_AX_STAT_ne_CFG a a).symm, hen]

/-- An axis at rest is DISABLED at once. -/
theorem exec_axisDisable_at_rest (ha : a < s.axes) (h0 : s.axisState a ≠ 0) (hv : s.vel a = 0) :
    exec (.axisDisable a v) s = .next ((s.disabling a v).axisOffNow a) := by
  rw [exec_axisDisable ha h0, if_pos (by rw [vel_disabling, hv])]

/-- A moving axis brakes before it is DISABLED. -/
theorem exec_axisDisable_moving (ha : a < s.axes) (h0 : s.axisState a ≠ 0) (hv : s.vel a ≠ 0) (hi : field F.MOT_AX_CFG_IMMEDIATE v = 0) :
    exec (.axisDisable a v) s = .next (((s.disabling a v).modMo a fun m => { m with go := none }).setAxisState a 4) := by
  rw [exec_axisDisable ha h0, if_neg (by rw [vel_disabling]; exact hv), flag_CFG_disabling, IMMEDIATE_storeAxisCfg_disable, hi,
    if_neg (by decide)]

/-- With IMMEDIATE an axis is cut off, moving or not. -/
theorem exec_axisDisable_immediate (ha : a < s.axes) (h0 : s.axisState a ≠ 0) (hi : field F.MOT_AX_CFG_IMMEDIATE v = 1) :
    ∃ t, exec (.axisDisable a v) s = .next t ∧ (t = (s.disabling a v).axisOffNow a ∨
      t = ((s.disabling a v).axisOffNow a).setFlag (R.MOT_AX_STAT a) F.MOT_AX_STAT_HOMED false) := by
  refine ⟨_, exec_axisDisable ha h0, ?_⟩
  rw [flag_CFG_disabling, IMMEDIATE_storeAxisCfg_disable, hi, if_pos (c := decide (1 ≠ 0) = true) (by decide)]
  split
  · exact .inl rfl
  · exact .inr rfl

/-- What a moving axis that is being disabled is left with: its velocity, and STOPPING. -/
theorem stopping_effect (s : State) (a : Nat) (v : Word) :
    let t := ((s.disabling a v).modMo a fun m => { m with go := none }).setAxisState a 4
    t.axisState a = 4 ∧ t.flag (R.MOT_AX_CFG a) F.MOT_AX_CFG_EN = false ∧ (t.mo a).go = none ∧ t.vel a = s.vel a ∧ UnitsBut State.mo a s t := by
  refine ⟨axisState_setAxisState _ a (by decide), ?_, ?_, ?_, ?_⟩
  · refine (flag_of_reg (State.reg_setFld_ne _ _ _ _ _ (MOT_AX_STAT_ne_CFG a a).symm) _).trans ?_
    rw [State.flag_modMo, flag_CFG_disabling, EN_storeAxisCfg_disable]
  · rw [mo_setAxisState, State.mo_modMo_same]
  · rw [vel_setAxisState, vel_modMo, vel_disabling]
  · intro m hm
    rw [mo_setAxisState, State.mo_modMo, if_neg hm, mo_disabling]

/-- What enabling leaves of a DISABLED axis. -/
theorem axisOn_effect (s : State) (a : Nat) (w : Word) :
    let t := (s.setReg (R.MOT_AX_CFG a) w).axisOn a
    t.axisState a = 1 ∧ t.reg (R.MOT_AX_CFG a) = w ∧ (t.mo a).target = (s.mo a).counts ∧ (t.mo a).pos = (s.mo a).counts * 65536 ∧
    UnitsBut State.mo a s t ∧ RegsBut [R.MOT_AX_CFG a, R.MOT_AX_STAT a] s t := by
  refine ⟨axisState_setAxisState _ a (by decide), ?_, ?_, ?_, ?_, ?_⟩
  · exact (State.reg_setFld_ne _ _ _ _ _ (MOT_AX_STAT_ne_CFG a a).symm).trans (State.reg_setReg_same ..)
  · simp [State.axisOn]
  · simp [State.axisOn]
  · intro m hm
    rw [State.axisOn, mo_setAxisState, State.mo_modMo, if_neg hm, State.mo_setReg]
  · exact RegsBut.setFld (RegsBut.modMo ((RegsBut.refl _ s).setReg (by simp))) (by simp)

/-- What the start of homing leaves of an axis. -/
theorem homingStart_effect (s : State) (a : Nat) :
    (s.homingStart a).axisState a = 3 ∧ (s.homingStart a).flag (R.MOT_AX_STAT a) F.MOT_AX_STAT_HOMED = false ∧
    (s.homingStart a).fld (R.MOT_AX_STAT a) F.MOT_AX_STAT_PSLOT = s.fld (R.MOT_AX_HOME a) F.MOT_AX_HOME_HSLOT ∧
    (s.homingStart a).mo a = { s.mo a with homeEdge := false, homeDist := 0, homeFail := 0, go := none } ∧
    UnitsBut State.mo a s (s.homingStart a) ∧ RegsBut [R.MOT_AX_STAT a] s (s.homingStart a) := by
  refine ⟨axisState_setAxisState _ a (by decide), ?_, ?_, ?_, ?_, ?_⟩
  · rw [State.flag, State.homingStart, State.setAxisState, State.fld_setFld_field _ _ _ _ _ (by decide) (by decide),
      State.fld_setFld_field _ _ _ _ _ (by decide) (by decide)]
    exact State.flag_setFlag_same _ _ _ _ (by decide) (by decide)
  · rw [State.homingStart, State.setAxisState, State.fld_setFld_field _ _ _ _ _ (by decide) (by decide),
      State.fld_setFld_same _ _ _ _ (by decide)]
    exact Nat.mod_eq_of_lt (field_lt _ _)
  · rw [State.homingStart, mo_setAxisState, State.mo_setFld, State.mo_setFlag, State.mo_modMo_same]
  · intro m hm
    rw [State.homingStart, mo_setAxisState, State.mo_setFld, State.mo_setFlag, State.mo_modMo, if_neg hm]
  · exact RegsBut.setFld (RegsBut.setFld (RegsBut.setFlag (RegsBut.modMo (RegsBut.refl _ s)) (by simp)) (by simp)) (by simp)

end

/-! ### The statement -/

theorem only_generatorInstant {s t : State} (h : exec .generatorInstant s = .next t) :
    Only [.regs, .dram, .grp, .chan, .srvAx, .srvCh, .lsr, .hoop, .port, .mot, .fbk, .pci, .ddr, .intg, .xbar, .out] s t :=
  ((keeps_execGeneratorInstant (List.Subset.refl _) (Keeps.refl _ s)).next t h).only

/-- An instant at which a host target waits for an axis, no layer running. -/
theorem generatorInstant_starts {s : State} {a k : Nat} {target : Int} (ha : a < s.axes) (ht : s.time.mt % nsU 10000 = 0)
    (hup : s.up dMOT = true) (hg : s.grpState < 2) (h : s.Starts a k target) :
    ∃ t, exec .generatorInstant s = .next t ∧ t.Underway a target (s.startVel a k target) ((s.mo a).pos + vT (s.startVel a k target)) := by
  have hmoves : s.moves = s := each_fixed fun ch _ => channelMoves_of_waiting hg ch
  have haxes {b : Nat} (hb : b ∈ List.range s.axes) : b < 8 := Nat.lt_of_lt_of_le (List.mem_range.mp hb) (axes_le s)
  refine ⟨_, exec_generatorInstant ht, ?_⟩
  rw [hup, if_pos rfl, hmoves]
  exact (h.axes List.nodup_range (List.mem_range.mpr ha) fun b hb => haxes hb).speeds (haxes (List.mem_range.mpr ha)) _

/-- Settles O33: a host's command ends in the state that its `exec_` lemma names. At an instant the steps of the axes before axis a
and behind it leave a alone (`AxisStep`, `AxisSame`), so that a's own step is the one of `State.Starts.axisInstant`. -/
theorem axisMoves : Obligations.AxisMoves := by
  refine ⟨?_, ?_, ?_, ?_, ?_, ?_, ?_, ?_, ?_, ?_, ?_, ?_, ?_, ?_⟩
  · intro s a v ha hg hst hset
    refine ⟨_, exec_motGo ha hg, ?_⟩
    rw [if_pos ⟨hst, hset⟩]
    exact ⟨only_modMo _ _ _, State.mo_modMo_same .., unitsBut_modMo _ _ _⟩
  · intro s a v ha hg hrej
    refine rejected_effect (by decide) (by decide) ((exec_motGo ha hg).trans (congrArg _ (if_neg ?_)))
    rintro ⟨hst, hset⟩
    rcases hrej with h | h
    · omega
    · simp [h] at hset
  · intro s a k target ha ht hup hg hgo hk hst hset hv hsrc hlimp hlimn hfar hplanted
    obtain ⟨t, e, h⟩ := generatorInstant_starts ha ht hup hg ⟨⟨hset, hv, hsrc, hlimp, hlimn⟩, hgo, hk, hst, hfar, hplanted⟩
    exact ⟨t, e, only_generatorInstant e, h.target, h.go, h.moving, h.vel, h.pos⟩
  · intro s a v ha hh hi hset hhome
    have e := exec_motHome ha hh hi hset
    rw [hhome, if_neg Bool.false_ne_true] at e
    exact ⟨_, e, (keeps_State_setFld (by decide) _ _ _ (keeps_State_setFld (by decide) _ _ _ (keeps_State_setFlag (by decide) _ _ _
      (keeps_State_modMo (by decide) a _ (Keeps.refl _ s))))).only, homingStart_effect s a⟩
  · intro s a v ha hen h0
    have e := exec_axisEnable (v := v) ha
    rw [axisState_storeAxisCfg, if_neg (not_not.mpr h0), storeAxisCfg_of_mode (.inl hen)] at e
    exact ⟨_, e, ((keeps_execAxisEnable (List.Subset.refl _) a v (Keeps.refl _ s)).next _ e).only, axisOn_effect s a _⟩
  · intro s a v ha hst hv
    have e := exec_axisDisable_at_rest (v := v) ha (by omega) hv
    obtain ⟨hoff, -, hen, hmo, hunits⟩ := cutOff_effect (s := s) (a := a) (v := v) (.inl rfl)
    refine ⟨_, e, only_axisDisable e, hoff, hen, ?_, ?_, hunits⟩
    · rw [mo_axisOffNow]
    · rw [mo_axisOffNow, mo_disabling]
  · intro s a v ha hst
    refine ⟨_, exec_motAxPosWrite ha, ?_⟩
    rw [if_pos hst]
    exact ⟨only_modMo _ _ _, State.mo_modMo_same .., unitsBut_modMo _ _ _⟩
  · intro s a v ha hst
    exact rejected_effect (by decide) (by decide) ((exec_motAxPosWrite ha).trans (congrArg _ (if_neg (by omega))))
  · intro s ht hup
    have e := exec_generatorInstant ht
    exact ⟨_, e, only_generatorInstant e, by rw [hup, if_pos rfl]; rfl⟩
  · intro s ht hup
    have e := exec_generatorInstant ht
    exact ⟨_, e, only_generatorInstant e, by rw [hup, if_neg Bool.false_ne_true]; rfl⟩
  · intro s a v ha h0 _ hv hi
    have e := exec_axisDisable_moving ha h0 hv hi
    exact ⟨_, e, only_axisDisable e, stopping_effect s a v⟩
  · intro s a v ha h0 hi
    obtain ⟨t, e, ht⟩ := exec_axisDisable_immediate ha h0 hi
    obtain ⟨hoff, hv, hen, hmo, hunits⟩ := cutOff_effect ht
    rw [mo_axisOffNow] at hmo
    exact ⟨t, e, only_axisDisable e, hoff, hv, hen, by rw [hmo], by rw [hmo], by rw [hmo], hunits⟩
  · intro s a v ha h0 hmode
    have e := exec_axisEnable (v := v) ha
    rw [axisState_storeAxisCfg, if_pos h0, storeAxisCfg_of_mode (.inr ((field_or_of_clear (by decide)).trans hmode))] at e
    exact ⟨_, e, only_setReg _ _ _, rfl⟩
  · intro s a v ha hh hi hset hhome
    have e := exec_motHome ha hh hi hset
    rw [hhome, if_pos rfl] at e
    exact ⟨_, e, ((keeps_execMotHome (List.Subset.refl _) a v (Keeps.refl _ s)).next _ e).only, rfl⟩

end Sys2Proof.Machine

/-! # Faults, standstill, chopper and inputs of an axis (O34) -/

namespace Sys2Proof.Machine

-- As above: the proofs of this part are elaborated one after another, which keeps the check within its memory.
set_option deprecated.oldSectionVars true

/-! ### A fault of an axis (R262, R265) -/

/-- The report of a fault, of an axis that has been stopped. -/
def State.faulted (s : State) (a cause : Nat) : State :=
  (((((s.setFlag (R.MOT_AX_STAT a) F.MOT_AX_STAT_HOMED false).setAxisState a 5).setFld (R.MOT_AX_STAT a) F.MOT_AX_STAT_FCAUSE cause).setFlag
    (R.MOT_AX_STAT a) F.MOT_AX_STAT_STANDSTILL false).driveOff a).raise R.MOT_ISR F.MOT_ISR_FAULT |>.axisRecord a 1 cause

section
variable {s : State} {a cause : Nat}

theorem axisFault_eq (h0 : s.axisState a ≠ 0) (h5 : s.axisState a ≠ 5) :
    s.axisFault a cause = (if s.axisState a = 3 then (s.setVel a 0).homingEnd a 4 else s.setVel a 0).faulted a cause :=
  if_neg (not_or.mpr ⟨h0, h5⟩)

theorem faulted_effect (s : State) (a : Nat) (hc : cause < 8) :
    (s.faulted a cause).fld (R.MOT_AX_STAT a) F.MOT_AX_STAT_FCAUSE = cause ∧ (s.faulted a cause).axisState a = 5 ∧
    (s.faulted a cause).vel a = s.vel a ∧ (s.faulted a cause).flag (R.MOT_AX_STAT a) F.MOT_AX_STAT_HOMED = false ∧
    (s.faulted a cause).flag R.MOT_ISR F.MOT_ISR_FAULT = true := by
  refine ⟨?_, ?_, ?_, ?_, ?_⟩
  · rw [State.faulted, fld_of_reg (reg_reported _ _ _ _ _ (MOT_AX_STAT_notMem_reports a)), State.driveOff, State.fld_modMo, State.setFlag,
      State.fld_setFld_field _ _ _ _ _ (by decide) (by decide), State.fld_setFld_same _ _ _ _ (by decide)]
    exact Nat.mod_eq_of_lt hc
  · rw [State.faulted, axisState_reported, State.driveOff, axisState_modMo, State.setFlag, axisState_setStat _ _ _ (by decide) (by decide),
      axisState_setStat _ _ _ (by decide) (by decide), axisState_setAxisState _ _ (by decide)]
  · rw [State.faulted, vel_reported, State.driveOff, vel_modMo, vel_setStatFlag, vel_setStat, vel_setAxisState, vel_setStatFlag]
  · rw [State.faulted, flag_of_reg (reg_reported _ _ _ _ _ (MOT_AX_STAT_notMem_reports a)), State.driveOff, State.flag_modMo,
      State.flag_setFlag_field _ _ _ _ _ (by decide) (by decide), State.flag, State.fld_setFld_field _ _ _ _ _ (by decide) (by decide),
      State.setAxisState, State.fld_setFld_field _ _ _ _ _ (by decide) (by decide)]
    exact State.flag_setFlag_same _ _ _ _ (by decide) (by decide)
  · rw [State.faulted, flag_of_reg (reg_axisRecord _ _ _ _ (by decide)), State.flag_raise_same _ _ _ (by decide) (by decide)]

/-- An enabled axis that takes a fault. -/
theorem axisFault_effect (h0 : s.axisState a ≠ 0) (h5 : s.axisState a ≠ 5) (hc : cause < 8) :
    (s.axisFault a cause).fld (R.MOT_AX_STAT a) F.MOT_AX_STAT_FCAUSE = cause ∧ (s.axisFault a cause).axisState a = 5 ∧
    (s.axisFault a cause).vel a = 0 ∧ (s.axisFault a cause).flag (R.MOT_AX_STAT a) F.MOT_AX_STAT_HOMED = false ∧
    (s.axisFault a cause).flag R.MOT_ISR F.MOT_ISR_FAULT = true ∧ UnitsBut State.mo a s (s.axisFault a cause) := by
  have hunits := ((AxisStep.refl a s).axisFault (cause := cause)).motors
  rw [axisFault_eq h0 h5] at hunits ⊢
  have hv : (if s.axisState a = 3 then (s.setVel a 0).homingEnd a 4 else s.setVel a 0).vel a = 0 := by
    have h := vel_setVel s a (v := 0) (by decide) (by decide)
    split
    · rw [vel_homingEnd, h]
    · exact h
  obtain ⟨hcause, hstate, hvel, hhomed, hisr⟩ :=
    faulted_effect (if s.axisState a = 3 then (s.setVel a 0).homingEnd a 4 else s.setVel a 0) a hc
  exact ⟨hcause, hstate, hvel.trans hv, hhomed, hisr, hunits⟩

/-- A command that puts an enabled axis into FAULT. -/
theorem faulting_effect {i : Instr} (e : exec i s = .next (s.axisFault a cause)) (h0 : s.axisState a ≠ 0) (h5 : s.axisState a ≠ 5)
    (hc : cause < 8) : ∃ t, exec i s = .next t ∧ Only [.regs, .dram, .grp, .mot, .pci, .ddr, .out] s t ∧
      t.fld (R.MOT_AX_STAT a) F.MOT_AX_STAT_FCAUSE = cause ∧ t.axisState a = 5 ∧ t.vel a = 0 ∧
      t.flag (R.MOT_AX_STAT a) F.MOT_AX_STAT_HOMED = false ∧ t.flag R.MOT_ISR F.MOT_ISR_FAULT = true ∧ UnitsBut State.mo a s t :=
  ⟨_, e, (keeps_State_axisFault (List.Subset.refl _) a cause (Keeps.refl _ s)).only, axisFault_effect h0 h5 hc⟩

theorem exec_stall (ha : a < s.axes) : exec (.stall a) s = .next
    (if s.fld (R.MOT_AX_LA a) F.MOT_AX_LA_STALLN ≠ 0 ∧ s.fld (R.MOT_AX_LA a) F.MOT_AX_LA_STALLN ≤ (s.mo a).stallRun then s.axisFault a 1 else s) :=
  (onUnit_next ha (axes_le s) : execStall a s = _)

theorem exec_bridgeFault {low : Nat} (ha : a < s.axes) :
    exec (.bridgeFault ⟨a, low⟩) s = .next (if 2500 ≤ low ∧ s.up dMOT then s.axisFault a 2 else s) :=
  (onUnit_next ha (axes_le s) : execBridgeFault ⟨a, low⟩ s = _)

theorem exec_overcurrent (ha : a < s.axes) : exec (.overcurrent a) s = .next
    (if !s.stepDir a ∧ (2 ≤ (s.mo a).overA ∨ 2 ≤ (s.mo a).overB) then s.axisFault a 3 else s) :=
  (onUnit_next ha (axes_le s) : execOvercurrent a s = _)

theorem exec_sdloss {bits : List Bool} (ha : a < s.axes) : exec (.sdloss ⟨a, bits⟩) s = .next
    (if !s.stepDir a ∧ stuckBits bits ∧ s.up dMOT then s.axisFault a 4 else s) :=
  (onUnit_next ha (axes_le s) : execSdloss ⟨a, bits⟩ s = _)

theorem exec_standstill (ha : a < s.axes) : exec (.standstill a) s = .next
    (if s.axisState a = 1 ∧ (s.mo a).restAt + nsU (1000000 * s.fld (R.MOT_AX_CFG a) F.MOT_AX_CFG_SSDLY) ≤ s.time.mt then
       s.setFlag (R.MOT_AX_STAT a) F.MOT_AX_STAT_STANDSTILL true
     else s) := (onUnit_next ha (axes_le s) : execStandstill a s = _)

end

/-! ### The chopper's period (R259, R260) -/

/-- A phase's PI for its commanded current in mA, its modulator bits and its integral. -/
def State.phaseStep (s : State) (a : Nat) (current : Int) (bits : List Bool) (int : Int) : Int × Int :=
  piStep (s.fld (R.MOT_AX_CPI a) F.MOT_AX_CPI_KP) (s.fld (R.MOT_AX_CPI a) F.MOT_AX_CPI_KI)
    (current * sincGain - density bits * (s.fld (R.MOT_AX_SENSE a) F.MOT_AX_SENSE_ISCALE : Nat)) int

/-- The currents commanded for an axis in this period. -/
def State.commanded (s : State) (a : Nat) : Int × Int := phaseCurrents (s.fld (R.MOT_AX_MEAS a) F.MOT_AX_MEAS_I) (s.thetaE a)

/-- The axis after a period with these modulator bits. -/
def State.chopped (s : State) (a : Nat) (bitsA bitsB : List Bool) : Motor :=
  let m := s.mo a
  let scale : Int := s.fld (R.MOT_AX_SENSE a) F.MOT_AX_SENSE_ISCALE
  { m with intA := (s.phaseStep a (s.commanded a).1 bitsA m.intA).1, dutyA := (s.phaseStep a (s.commanded a).1 bitsA m.intA).2
           intB := (s.phaseStep a (s.commanded a).2 bitsB m.intB).1, dutyB := (s.phaseStep a (s.commanded a).2 bitsB m.intB).2
           theta := s.thetaE a, cmdI := s.fld (R.MOT_AX_MEAS a) F.MOT_AX_MEAS_I, pwmAt := some s.time.mt
           overA := s.overRun a m.overA (density bitsA * scale), overB := s.overRun a m.overB (density bitsB * scale) }

theorem exec_pwmPeriod {s : State} {a : Nat} {bitsA bitsB : List Bool} (ha : a < s.axes) (hc : s.chopping a = true)
    (hd : ((s.mo a).pwmAt.all fun x => decide (x + ticksU (s.fld (R.MOT_AX_DRV a) F.MOT_AX_DRV_PWMPER) ≤ s.time.mt)) = true) :
    exec (.pwmPeriod a bitsA bitsB) s = .next (s.modMo a fun _ => s.chopped a bitsA bitsB) := by
  have hx : exec (.pwmPeriod a bitsA bitsB) s = execPwmPeriod a bitsA bitsB s := rfl
  rw [hx, execPwmPeriod, onUnit_next ha (axes_le s)]
  refine congrArg _ ((if_neg ?_).trans rfl)
  rw [hc, Bool.not_true, Bool.false_or]
  cases hp : (s.mo a).pwmAt with
  | none => exact Bool.false_ne_true
  | some x =>
    rw [hp, Option.all_some] at hd
    simp only [hd, Bool.not_true, Bool.false_eq_true, not_false_eq_true]

/-- The duty stays within 1 (R259). -/
theorem piStep_duty (kp ki : Nat) (err int : Int) : -dutyOne ≤ (piStep kp ki err int).2 ∧ (piStep kp ki err int).2 ≤ dutyOne := by
  have h : 0 ≤ dutyOne := by decide
  simp only [piStep, clampI]
  omega

/-! ### A sample of a home or limit input (R275) -/

section
variable {s : State} {i : Nat} {d : Debounce} {qualified active : Bool}

theorem debounce_same (h : active = qualified) : s.debounce i d qualified active =
    (false, { d with run := 0, at_ := some s.time.mt }, if d.run = 0 then s else s.satAdd (R.FBK_ERR i) F.FBK_ERR_CHAT 1) := if_pos h

/-- A debouncer at a sample that differs from the qualified level: the first of a run keeps the count and the output positions. -/
def State.noted (s : State) (i : Nat) (d : Debounce) : Debounce :=
  if d.run = 0 then { d with count := s.count i, outs := (List.range s.axes).map s.outputPos } else d

theorem run_noted (s : State) (i : Nat) (d : Debounce) : (s.noted i d).run = d.run := by
  unfold State.noted
  split <;> rfl

theorem noted_of_run (h : 0 < d.run) : s.noted i d = d := if_neg (by omega)

theorem debounce_short (h : active ≠ qualified) (hd : d.run + 1 < s.fld (R.FBK_CFG i) F.FBK_CFG_DEB) :
    s.debounce i d qualified active = (false, { s.noted i d with run := d.run + 1, at_ := some s.time.mt }, s) := by
  have hfull : ¬s.fld (R.FBK_CFG i) F.FBK_CFG_DEB ≤ (s.noted i d).run + 1 := by rw [run_noted]; omega
  refine (if_neg h).trans ?_
  show (decide (s.fld (R.FBK_CFG i) F.FBK_CFG_DEB ≤ (s.noted i d).run + 1), { s.noted i d with
    run := if decide (s.fld (R.FBK_CFG i) F.FBK_CFG_DEB ≤ (s.noted i d).run + 1) then 0 else (s.noted i d).run + 1
    at_ := some s.time.mt }, s) = _
  rw [decide_eq_false hfull, if_neg Bool.false_ne_true, run_noted]

theorem debounce_full (h : active ≠ qualified) (hd : s.fld (R.FBK_CFG i) F.FBK_CFG_DEB ≤ d.run + 1) :
    s.debounce i d qualified active = (true, { s.noted i d with run := 0, at_ := some s.time.mt }, s) := by
  have hfull : s.fld (R.FBK_CFG i) F.FBK_CFG_DEB ≤ (s.noted i d).run + 1 := by rw [run_noted]; omega
  refine (if_neg h).trans ?_
  show (decide (s.fld (R.FBK_CFG i) F.FBK_CFG_DEB ≤ (s.noted i d).run + 1), { s.noted i d with
    run := if decide (s.fld (R.FBK_CFG i) F.FBK_CFG_DEB ≤ (s.noted i d).run + 1) then 0 else (s.noted i d).run + 1
    at_ := some s.time.mt }, s) = _
  rw [decide_eq_true hfull, if_pos rfl]

/-- A sample changes no more than the count of levels that reverted, and that not at the first sample of a run. -/
theorem debounce_state (s : State) (i : Nat) (d : Debounce) (qualified active : Bool) :
    (s.debounce i d qualified active).2.2 = s ∨
      d.run ≠ 0 ∧ (s.debounce i d qualified active).2.2 = s.satAdd (R.FBK_ERR i) F.FBK_ERR_CHAT 1 := by
  by_cases h : active = qualified
  · rw [debounce_same h]
    by_cases hr : d.run = 0
    · exact .inl (if_pos hr)
    · exact .inr ⟨hr, if_neg hr⟩
  · rcases Nat.lt_or_ge (d.run + 1) (s.fld (R.FBK_CFG i) F.FBK_CFG_DEB) with hd | hd
    · rw [debounce_short h hd]; exact .inl rfl
    · rw [debounce_full h hd]; exact .inl rfl

end

/-! ### The homing axes on an interface (R267, R268) -/

/-- The axes that home on an interface. -/
def State.homers (s : State) (i : Nat) : List Nat :=
  (List.range s.axes).filter fun a => decide (s.axisFbk a = i) && decide (s.axisState a = 3)

theorem mem_homers {s : State} {i a : Nat} : a ∈ s.homers i ↔ a < s.axes ∧ s.axisFbk a = i ∧ s.axisState a = 3 := by
  simp [State.homers]

theorem nodup_homers (s : State) (i : Nat) : (s.homers i).Nodup := List.nodup_range.filter _

theorem lt_of_mem_homers {s : State} {i a : Nat} (h : a ∈ s.homers i) : a < 8 := Nat.lt_of_lt_of_le (mem_homers.mp h).1 (axes_le s)

/-- They do not depend on the interfaces' registers. -/
theorem homers_setFld (s : State) (i : Nat) {r : Nat} (f : Field) (v : Nat) (hr : 0x3D0000 ≤ r) : (s.setFld r f v).homers i = s.homers i := by
  refine List.filter_congr fun a ha => ?_
  have ha8 : a < 8 := Nat.lt_of_lt_of_le (List.mem_range.mp ha) (axes_le s)
  have hf : (s.setFld r f v).axisFbk a = s.axisFbk a := State.fld_setFld_reg _ _ _ _ _ _ (by unfold R.MOT_AX_CFG; omega)
  have hs : (s.setFld r f v).axisState a = s.axisState a := State.fld_setFld_reg _ _ _ _ _ _ (by unfold R.MOT_AX_STAT; omega)
  rw [hf, hs]

theorem homers_modFb (s : State) (i j : Nat) (f : Feedback → Feedback) : (s.modFb j f).homers i = s.homers i := rfl

/-- What the steps of the others leave, an element's own step finds as at the start and leaves to the end. -/
theorem each_own {α : Type} {l : List Nat} {a : Nat} {f : Nat → State → State} (q : State → α) (hn : l.Nodup) (ha : a ∈ l)
    (hq : ∀ b, b ≠ a → ∀ u, q (f b u) = q u) (s : State) : ∃ u, q u = q s ∧ q (s.each l f) = q (f a u) := by
  obtain ⟨l₁, l₂, rfl, h₁, h₂⟩ := split_of_mem hn ha
  refine ⟨s.each l₁ f, each_unchanged q (fun b hb u => hq b (h₁ b hb).2 u) s, ?_⟩
  rw [each_split]
  exact each_unchanged q (fun b hb u => hq b (h₂ b hb).2 u) _

/-- The homing axes on an interface fail with LIMIT. -/
def State.failHoming (s : State) (i : Nat) : State := s.each (s.homers i) fun a t => t.modMo a fun m => { m with homeFail := 1 }

theorem regs_failHoming (s : State) (i : Nat) : (s.failHoming i).regs = s.regs := each_unchanged State.regs (fun a _ u => State.modMo_regs u a _) s

theorem fbk_failHoming (s : State) (i : Nat) : (s.failHoming i).fbk = s.fbk := each_unchanged State.fbk (fun a _ u => State.modMo_fbk u a _) s

theorem homeFail_failHoming {s : State} {i a : Nat} (h : a ∈ s.homers i) : ((s.failHoming i).mo a).homeFail = 1 := by
  obtain ⟨u, -, hu⟩ := each_own (fun u => u.mo a) (nodup_homers s i) h (f := fun a t => t.modMo a fun m => { m with homeFail := 1 })
    (fun b hb u => by rw [State.mo_modMo, if_neg hb.symm]) s
  rw [State.failHoming, hu, State.mo_modMo_same]

theorem homeEdge_failHoming (s : State) (i a : Nat) : ((s.failHoming i).mo a).homeEdge = (s.mo a).homeEdge := by
  refine each_unchanged (fun u => (u.mo a).homeEdge) (fun b _ u => ?_) s
  rw [State.mo_modMo]
  split
  · next h => rw [h]
  · rfl

/-- The homing axes on an interface latch their output positions of a sample, the interface the count (R267). -/
def State.latchHome (s : State) (i : Nat) (d : Debounce) : State :=
  let t := s.setSfld (R.FBK_HLATCH i) F.FBK_HLATCH_COUNT d.count
  t.each (t.homers i) fun a t =>
    if (t.mo a).homeEdge || decide ((t.mo a).homeFail ≠ 0) then t
    else (t.setSfld (R.MOT_AX_HLATCH a) F.MOT_AX_HLATCH_POS (nth d.outs a 0)).modMo a fun m => { m with homeEdge := true }

/-- Among the interfaces' registers the latched count alone is written. -/
theorem reg_latchHome (s : State) (i : Nat) (d : Debounce) {r : Nat} (hr : 0x3D0000 ≤ r) :
    (s.latchHome i d).reg r = (s.setSfld (R.FBK_HLATCH i) F.FBK_HLATCH_COUNT d.count).reg r := by
  refine each_unchanged (fun u => u.reg r) (fun a ha u => ?_) _
  have hne : r ≠ R.MOT_AX_HLATCH a := by
    have := lt_of_mem_homers ha
    unfold R.MOT_AX_HLATCH
    omega
  split
  · rfl
  · rw [State.reg_modMo, State.setSfld, State.reg_setFld_ne _ _ _ _ _ hne]

theorem MOT_AX_HLATCH_inj {a b : Nat} (h : a ≠ b) : R.MOT_AX_HLATCH a ≠ R.MOT_AX_HLATCH b := by unfold R.MOT_AX_HLATCH; omega

/-- A homing axis without an edge or a failure takes the edge with its output position. -/
theorem latchHome_effect {s : State} {i a : Nat} {d : Debounce} (h : a ∈ s.homers i) (he : (s.mo a).homeEdge = false)
    (hf : (s.mo a).homeFail = 0) : ((s.latchHome i d).mo a).homeEdge = true ∧
      (s.latchHome i d).sfld (R.MOT_AX_HLATCH a) F.MOT_AX_HLATCH_POS = signed 32 (unsigned 32 (nth d.outs a 0)) := by
  have hmem : a ∈ (s.setSfld (R.FBK_HLATCH i) F.FBK_HLATCH_COUNT d.count).homers i := by
    rw [State.setSfld, homers_setFld _ _ _ _ (by unfold R.FBK_HLATCH; omega)]
    exact h
  obtain ⟨u, hu, ht⟩ := each_own (fun u => (u.mo a, u.reg (R.MOT_AX_HLATCH a))) (nodup_homers _ i) hmem
    (f := fun a t => if (t.mo a).homeEdge || decide ((t.mo a).homeFail ≠ 0) then t
      else (t.setSfld (R.MOT_AX_HLATCH a) F.MOT_AX_HLATCH_POS (nth d.outs a 0)).modMo a fun m => { m with homeEdge := true })
    (fun b hb u => by
      split
      · rfl
      · rw [State.reg_modMo, State.setSfld, State.reg_setFld_ne _ _ _ _ _ (MOT_AX_HLATCH_inj hb.symm), State.mo_modMo, if_neg hb.symm,
          State.mo_setFld])
    (s.setSfld (R.FBK_HLATCH i) F.FBK_HLATCH_COUNT d.count)
  have hmo : u.mo a = s.mo a := congrArg Prod.fst hu
  rw [hmo, he, hf, if_neg (by decide)] at ht
  obtain ⟨hm, hr⟩ := Prod.mk.inj ht
  refine ⟨?_, ?_⟩
  · rw [State.latchHome, hm, State.mo_modMo_same]
  · rw [State.sfld, State.latchHome, fld_of_reg hr]
    exact State.sfld_setSfld_same u _ _ _ (by decide)

/-! ### A sample of a limit input (R266, R268) -/

section
variable {s : State} {i : Nat} {positive level : Bool}

/-- The field of a limit input, and its debouncer. -/
abbrev limField (positive : Bool) : Field := if positive then F.FBK_STAT_LIMP else F.FBK_STAT_LIMN
abbrev Feedback.lim (f : Feedback) (positive : Bool) : Debounce := if positive then f.limp else f.limn

/-- A sample, with what the debouncer made of it, has its effect. -/
def State.limitTaken (s : State) (i : Nat) (positive active full : Bool) (d : Debounce) : State :=
  let t := s.modFb i fun q => if positive then { q with limp := d } else { q with limn := d }
  if !full then t
  else
    let t := t.setFlag (R.FBK_STAT i) (limField positive) active
    if active then t.failHoming i else t

theorem limitSample_due {full : Bool} {d : Debounce} {u : State} (hup : s.up dMOT = true) (hd : s.sampleDue ((s.fb i).lim positive).at_ 1250 = true)
    (h : s.debounce i ((s.fb i).lim positive) (s.flag (R.FBK_STAT i) (limField positive)) (level != s.flag (R.FBK_CFG i) F.FBK_CFG_LPOL) =
      (full, d, u)) : s.limitSample i positive level = u.limitTaken i positive (level != s.flag (R.FBK_CFG i) F.FBK_CFG_LPOL) full d := by
  have hdue : ¬(!s.up dMOT || !s.sampleDue ((s.fb i).lim positive).at_ 1250) = true := by rw [hup, hd]; decide
  unfold State.limitSample
  dsimp only
  rw [if_neg hdue, h]
  rfl

/-- A sample of a limit input is none, or its effect in a state that differs in the count of reverted levels at most. -/
theorem limitSample_cases (s : State) (i : Nat) (positive level : Bool) : s.limitSample i positive level = s ∨
    ∃ u active full d, (u = s ∨ ((s.fb i).lim positive).run ≠ 0 ∧ u = s.satAdd (R.FBK_ERR i) F.FBK_ERR_CHAT 1) ∧
      s.limitSample i positive level = u.limitTaken i positive active full d := by
  by_cases h : (!s.up dMOT || !s.sampleDue ((s.fb i).lim positive).at_ 1250) = true
  · exact .inl (if_pos h)
  · simp only [Bool.or_eq_true, Bool.not_eq_true', not_or, Bool.not_eq_false] at h
    exact .inr ⟨_, _, _, _, debounce_state s i _ _ _, limitSample_due h.1 h.2 rfl⟩

variable {t : State} {active full : Bool} {d : Debounce}

theorem reg_limitTaken {r : Nat} (hr : r ≠ R.FBK_STAT i) : (s.limitTaken i positive active full d).reg r = s.reg r := by
  unfold State.limitTaken
  dsimp only
  split
  · rfl
  · split
    · rw [State.reg, regs_failHoming]
      exact State.reg_setFlag_ne _ _ _ _ _ hr
    · exact State.reg_setFlag_ne _ _ _ _ _ hr

/-- The fields of the status beside the limit's own are left. -/
theorem flag_limitTaken {f : Field} (hf : (limField positive).lo + (limField positive).width ≤ f.lo ∨ f.lo + f.width ≤ (limField positive).lo) :
    (s.limitTaken i positive active full d).flag (R.FBK_STAT i) f = s.flag (R.FBK_STAT i) f := by
  have h32 : (limField positive).lo + (limField positive).width ≤ 32 := by cases positive <;> decide
  unfold State.limitTaken
  dsimp only
  split
  · rfl
  · split
    · rw [State.flag, State.fld, State.reg, regs_failHoming]
      exact State.flag_setFlag_field _ _ _ _ _ h32 hf
    · exact State.flag_setFlag_field _ _ _ _ _ h32 hf

theorem fb_limitTaken : (s.limitTaken i positive active full d).fb i =
    if positive then { s.fb i with limp := d } else { s.fb i with limn := d } := by
  unfold State.limitTaken
  dsimp only
  split
  · exact State.fb_modFb_same s i fun q => if positive then { q with limp := d } else { q with limn := d }
  · split
    · rw [fb_of_fbk (fbk_failHoming _ i), State.fb_setFlag, State.fb_modFb_same]
    · rw [State.fb_setFlag, State.fb_modFb_same]

theorem homeEdge_limitTaken (a : Nat) : ((s.limitTaken i positive active full d).mo a).homeEdge = (s.mo a).homeEdge := by
  unfold State.limitTaken
  dsimp only
  split
  · rfl
  · split
    · rw [homeEdge_failHoming, State.mo_setFlag, State.mo_modFb]
    · rfl

theorem regsBut_limitSample (s : State) (i : Nat) (positive level : Bool) :
    RegsBut [R.FBK_STAT i, R.FBK_ERR i] s (s.limitSample i positive level) := by
  intro r hr
  obtain ⟨hstat, herr⟩ : r ≠ R.FBK_STAT i ∧ r ≠ R.FBK_ERR i := by simpa using hr
  obtain h | ⟨u, active, full, d, hu, h⟩ := limitSample_cases s i positive level
  · rw [h]
  · rw [h, reg_limitTaken hstat]
    rcases hu with rfl | ⟨-, rfl⟩
    · rfl
    · exact State.reg_setFld_ne _ _ _ _ _ herr

theorem FBK_STAT_ne_ERR (i : Nat) : R.FBK_STAT i ≠ R.FBK_ERR i := by unfold R.FBK_STAT R.FBK_ERR; omega

theorem flag_HOME_limitSample (s : State) (i : Nat) (positive level : Bool) :
    (s.limitSample i positive level).flag (R.FBK_STAT i) F.FBK_STAT_HOME = s.flag (R.FBK_STAT i) F.FBK_STAT_HOME := by
  obtain h | ⟨u, active, full, d, hu, h⟩ := limitSample_cases s i positive level
  · rw [h]
  · rw [h, flag_limitTaken (by cases positive <;> decide)]
    rcases hu with rfl | ⟨-, rfl⟩
    · rfl
    · exact flag_of_reg (State.reg_setFld_ne _ _ _ _ _ (FBK_STAT_ne_ERR i)) _

/-- A sample of one limit input leaves the debouncers of the other two inputs. -/
theorem fb_limitSample (s : State) (i : Nat) (positive level : Bool) : ((s.limitSample i positive level).fb i).home = (s.fb i).home ∧
    ((s.limitSample i positive level).fb i).lim (!positive) = (s.fb i).lim (!positive) := by
  obtain h | ⟨u, active, full, d, hu, h⟩ := limitSample_cases s i positive level
  · rw [h]; exact ⟨rfl, rfl⟩
  · have hfb : u.fb i = s.fb i := by
      rcases hu with rfl | ⟨-, rfl⟩
      · rfl
      · exact State.fb_satAdd s _ _ _ i
    rw [h, fb_limitTaken, hfb]
    cases positive <;> exact ⟨rfl, rfl⟩

theorem homeEdge_limitSample (s : State) (i : Nat) (positive level : Bool) (a : Nat) :
    ((s.limitSample i positive level).mo a).homeEdge = (s.mo a).homeEdge := by
  obtain h | ⟨u, active, full, d, hu, h⟩ := limitSample_cases s i positive level
  · rw [h]
  · rw [h, homeEdge_limitTaken]
    rcases hu with rfl | ⟨-, rfl⟩
    · rfl
    · rw [State.mo_satAdd]

/-- A sample that begins no later than its run counts nothing. -/
theorem reg_ERR_limitSample (h0 : ((s.fb i).lim positive).run = 0) : (s.limitSample i positive level).reg (R.FBK_ERR i) = s.reg (R.FBK_ERR i) := by
  obtain h | ⟨u, active, full, d, hu, h⟩ := limitSample_cases s i positive level
  · rw [h]
  · rw [h, reg_limitTaken (FBK_STAT_ne_ERR i).symm]
    rcases hu with rfl | ⟨hne, -⟩
    · rfl
    · exact absurd h0 hne

end

/-- A level that does not qualify changes the debouncer alone. -/
theorem limitTaken_short (s : State) (i : Nat) (positive active : Bool) (d : Debounce) : s.limitTaken i positive active false d =
    s.modFb i fun q => if positive then { q with limp := d } else { q with limn := d } := rfl

/-- A qualified active limit fails the homing axes on its interface. -/
theorem limitTaken_active (s : State) (i : Nat) (positive : Bool) (d : Debounce) :
    (s.limitTaken i positive true true d).flag (R.FBK_STAT i) (limField positive) = true ∧
    (∀ a ∈ s.homers i, ((s.limitTaken i positive true true d).mo a).homeFail = 1) ∧
    RegsBut [R.FBK_STAT i] s (s.limitTaken i positive true true d) := by
  have e : s.limitTaken i positive true true d =
      ((s.modFb i fun q => if positive then { q with limp := d } else { q with limn := d }).setFlag (R.FBK_STAT i) (limField positive) true).failHoming i := rfl
  refine ⟨?_, fun a ha => ?_, fun r hr => reg_limitTaken (by simpa using hr)⟩
  · rw [e, State.flag, State.fld, State.reg, regs_failHoming]
    exact State.flag_setFlag_same _ _ _ _ (by cases positive <;> decide) (by cases positive <;> decide)
  · rw [e]
    refine homeFail_failHoming ?_
    rw [State.setFlag, homers_setFld _ _ _ _ (by unfold R.FBK_STAT; omega), homers_modFb]
    exact ha

/-! ### A sample of the home input, and those of the limit inputs with it (R267, R275) -/

/-- A sample of the home input, with what the debouncer made of it, has its effect. -/
def State.homeTaken (s : State) (i : Nat) (active full : Bool) (d : Debounce) : State :=
  let t := s.modFb i fun q => { q with home := d }
  if !full then t
  else
    let t := t.setFlag (R.FBK_STAT i) F.FBK_STAT_HOME active
    if active then t.latchHome i d else t

section
variable {s : State} {i : Nat} {level : Bool}

theorem homeSample_due {full : Bool} {d : Debounce} {u : State} (hup : s.up dMOT = true) (hd : s.sampleDue (s.fb i).home.at_ 1250 = true)
    (h : s.debounce i (s.fb i).home (s.flag (R.FBK_STAT i) F.FBK_STAT_HOME) (level != s.flag (R.FBK_CFG i) F.FBK_CFG_HPOL) = (full, d, u)) :
    s.homeSample i level = u.homeTaken i (level != s.flag (R.FBK_CFG i) F.FBK_CFG_HPOL) full d := by
  have hdue : ¬(!s.up dMOT || !s.sampleDue (s.fb i).home.at_ 1250) = true := by rw [hup, hd]; decide
  unfold State.homeSample
  dsimp only
  rw [if_neg hdue, h]
  rfl

/-- A level that does not qualify changes the debouncer alone. -/
theorem homeTaken_short (s : State) (i : Nat) (active : Bool) (d : Debounce) :
    s.homeTaken i active false d = s.modFb i fun q => { q with home := d } := rfl

/-- A qualified active edge latches the count and the output positions of the debouncer. -/
theorem homeTaken_active (s : State) (i : Nat) (d : Debounce) :
    (s.homeTaken i true true d).flag (R.FBK_STAT i) F.FBK_STAT_HOME = true ∧
    (s.homeTaken i true true d).sfld (R.FBK_HLATCH i) F.FBK_HLATCH_COUNT = signed 32 (unsigned 32 d.count) ∧
    ∀ a ∈ s.homers i, (s.mo a).homeEdge = false → (s.mo a).homeFail = 0 → ((s.homeTaken i true true d).mo a).homeEdge = true ∧
      (s.homeTaken i true true d).sfld (R.MOT_AX_HLATCH a) F.MOT_AX_HLATCH_POS = signed 32 (unsigned 32 (nth d.outs a 0)) := by
  have e : s.homeTaken i true true d =
      ((s.modFb i fun q => { q with home := d }).setFlag (R.FBK_STAT i) F.FBK_STAT_HOME true).latchHome i d := rfl
  have hne : R.FBK_STAT i ≠ R.FBK_HLATCH i := by unfold R.FBK_STAT R.FBK_HLATCH; omega
  rw [e]
  refine ⟨?_, ?_, fun a ha he hf => ?_⟩
  · rw [flag_of_reg (reg_latchHome _ i d (by unfold R.FBK_STAT; omega)), State.setSfld, State.flag, State.fld_setFld_reg _ _ _ _ _ _ hne]
    exact State.flag_setFlag_same _ _ _ _ (by decide) (by decide)
  · rw [State.sfld, fld_of_reg (reg_latchHome _ i d (by unfold R.FBK_HLATCH; omega))]
    exact State.sfld_setSfld_same _ _ _ _ (by decide)
  · refine latchHome_effect ?_ he hf
    rw [State.setFlag, homers_setFld _ _ _ _ (by unfold R.FBK_STAT; omega), homers_modFb]
    exact ha

/-- The samples of both limit inputs. -/
def State.limitSamples (s : State) (i : Nat) (limp limn : Bool) : State := (s.limitSample i true limp).limitSample i false limn

variable (s : State) (i : Nat) (limp limn : Bool)

theorem regsBut_limitSamples : RegsBut [R.FBK_STAT i, R.FBK_ERR i] s (s.limitSamples i limp limn) :=
  (regsBut_limitSample s i true limp).trans (regsBut_limitSample _ i false limn)

theorem flag_HOME_limitSamples : (s.limitSamples i limp limn).flag (R.FBK_STAT i) F.FBK_STAT_HOME = s.flag (R.FBK_STAT i) F.FBK_STAT_HOME :=
  (flag_HOME_limitSample _ i false limn).trans (flag_HOME_limitSample s i true limp)

theorem home_limitSamples : ((s.limitSamples i limp limn).fb i).home = (s.fb i).home :=
  (fb_limitSample _ i false limn).1.trans (fb_limitSample s i true limp).1

theorem homeEdge_limitSamples (a : Nat) : ((s.limitSamples i limp limn).mo a).homeEdge = (s.mo a).homeEdge :=
  (homeEdge_limitSample _ i false limn a).trans (homeEdge_limitSample s i true limp a)

theorem reg_ERR_limitSamples (hp : (s.fb i).limp.run = 0) (hn : (s.fb i).limn.run = 0) :
    (s.limitSamples i limp limn).reg (R.FBK_ERR i) = s.reg (R.FBK_ERR i) := by
  have hlimn : ((s.limitSample i true limp).fb i).limn = (s.fb i).limn := (fb_limitSample s i true limp).2
  have h : ((s.limitSample i true limp).fb i).limn.run = 0 := by rw [hlimn, hn]
  exact (reg_ERR_limitSample (positive := false) h).trans (reg_ERR_limitSample (positive := true) hp)

end

theorem exec_limitQualified {s : State} {i : Nat} (positive level : Bool) (hi : i < s.axes) :
    exec (.limitQualified i positive level) s = .next (s.limitSample i positive level) :=
  (onUnit_next hi (axes_le s) : execLimitQualified i positive level s = _)

theorem exec_homeEdgeQualified {s : State} {i : Nat} (home limp limn : Bool) (hi : i < s.axes) :
    exec (.homeEdgeQualified i home limp limn) s = .next ((s.homeSample i home).limitSamples i limp limn) :=
  (onUnit_next hi (axes_le s) : execHomeEdgeQualified i home limp limn s = _)

/-! ### The statement -/

theorem only_homeEdgeQualified {s t : State} {i : Nat} {home limp limn : Bool} (h : exec (.homeEdgeQualified i home limp limn) s = .next t) :
    Only [.regs, .mot, .fbk] s t := ((keeps_execHomeEdgeQualified (List.Subset.refl _) i home limp limn (Keeps.refl _ s)).next t h).only

theorem only_modFb (s : State) (i : Nat) (f : Feedback → Feedback) : Only [.fbk] s (s.modFb i f) :=
  (keeps_State_modFb (List.Subset.refl _) i f (Keeps.refl _ s)).only

/-- Settles O34: the four faults are `State.axisFault` with their causes, a due period is `State.chopped`; a sample of an input is what
`State.debounce` makes of it, and those of the limits leave what the home input's has latched. -/
theorem axisFaultsAndInputs : Obligations.AxisFaultsAndInputs := by
  refine ⟨?_, ?_, ?_, ?_, ?_, ?_, ?_, ?_, ?_, ?_, ?_, ?_⟩
  · intro s a ha h0 h5 hn hrun
    exact faulting_effect ((exec_stall ha).trans (congrArg _ (if_pos ⟨hn, hrun⟩))) h0 h5 (by decide)
  · intro s a low ha h0 h5 hlow hup
    exact faulting_effect ((exec_bridgeFault ha).trans (congrArg _ (if_pos ⟨hlow, hup⟩))) h0 h5 (by decide)
  · intro s a ha h0 h5 hmode hover
    exact faulting_effect ((exec_overcurrent ha).trans (congrArg _ (if_pos ⟨by rw [hmode]; rfl, hover⟩))) h0 h5 (by decide)
  · intro s a bits ha h0 h5 hmode hstuck hup
    exact faulting_effect ((exec_sdloss ha).trans (congrArg _ (if_pos ⟨by rw [hmode]; rfl, hstuck, hup⟩))) h0 h5 (by decide)
  · intro s a ha hst hrest
    refine ⟨_, (exec_standstill ha).trans (congrArg _ (if_pos ⟨hst, hrest⟩)), only_setFlag s _ _ _, ?_, ?_, regsBut_setFlag s _ _ _⟩
    · exact State.flag_setFlag_same _ _ _ _ (by decide) (by decide)
    · exact (axisState_setStat s a _ (by decide) (by decide)).trans hst
  · intro s a bitsA bitsB ha hc hd
    obtain ⟨hlowA, hhighA⟩ := piStep_duty (s.fld (R.MOT_AX_CPI a) F.MOT_AX_CPI_KP) (s.fld (R.MOT_AX_CPI a) F.MOT_AX_CPI_KI)
      ((s.commanded a).1 * sincGain - density bitsA * (s.fld (R.MOT_AX_SENSE a) F.MOT_AX_SENSE_ISCALE : Nat)) (s.mo a).intA
    obtain ⟨hlowB, hhighB⟩ := piStep_duty (s.fld (R.MOT_AX_CPI a) F.MOT_AX_CPI_KP) (s.fld (R.MOT_AX_CPI a) F.MOT_AX_CPI_KI)
      ((s.commanded a).2 * sincGain - density bitsB * (s.fld (R.MOT_AX_SENSE a) F.MOT_AX_SENSE_ISCALE : Nat)) (s.mo a).intB
    refine ⟨_, exec_pwmPeriod ha hc hd, only_modMo _ _ _, ?_⟩
    rw [State.mo_modMo_same]
    exact ⟨rfl, rfl, rfl, rfl, hlowA, hhighA, hlowB, hhighB, rfl, unitsBut_modMo _ _ _⟩
  · intro s i positive level hi hup hd hlevel hflag hdeb
    have hact : (level != s.flag (R.FBK_CFG i) F.FBK_CFG_LPOL) = true := bne_iff_ne.mpr hlevel
    have e := limitSample_due hup hd (debounce_full (by rw [hact, hflag]; decide) hdeb)
    rw [hact] at e
    obtain ⟨hset, hfail, hregs⟩ := limitTaken_active s i positive { s.noted i ((s.fb i).lim positive) with run := 0, at_ := some s.time.mt }
    rw [← e] at hset hfail hregs
    refine ⟨_, exec_limitQualified positive level hi, (keeps_State_limitSample (List.Subset.refl _) i positive level (Keeps.refl _ s)).only,
      hset, List.all_eq_true.mpr fun a ha => decide_eq_true ?_, hregs⟩
    by_cases h : s.axisFbk a = i ∧ s.axisState a = 3
    · exact .inr (.inr (hfail a (mem_homers.mpr ⟨List.mem_range.mp ha, h⟩)))
    · tauto
  · intro s i positive level hi hup hd hlevel hdeb
    have e := limitSample_due hup hd (debounce_short hlevel hdeb)
    refine ⟨_, exec_limitQualified positive level hi, ?_⟩
    rw [e, limitTaken_short]
    refine ⟨only_modFb s i _, ?_, fun _ _ => rfl, fun _ _ => rfl⟩
    rw [State.fb_modFb_same]
    cases positive <;> rfl
  · intro s i home limp limn hi hup hd hlevel hflag hrun hdeb
    have hact : (home != s.flag (R.FBK_CFG i) F.FBK_CFG_HPOL) = true := bne_iff_ne.mpr hlevel
    have e := homeSample_due hup hd (debounce_full (by rw [hact, hflag]; decide) hdeb)
    rw [hact, noted_of_run hrun] at e
    obtain ⟨hset, hcount, hlatch⟩ := homeTaken_active s i { (s.fb i).home with run := 0, at_ := some s.time.mt }
    rw [← e] at hset hcount hlatch
    have hregs := regsBut_limitSamples (s.homeSample i home) i limp limn
    have hrun := exec_homeEdgeQualified home limp limn hi
    refine ⟨_, hrun, only_homeEdgeQualified hrun, (flag_HOME_limitSamples _ i limp limn).trans hset, ?_,
      List.all_eq_true.mpr fun a ha => decide_eq_true ?_⟩
    · rw [State.sfld, hregs.fld (by simp only [List.mem_cons, List.not_mem_nil, or_false, R.FBK_HLATCH, R.FBK_STAT, R.FBK_ERR]; omega)]
      exact hcount
    · have ha8 : a < 8 := Nat.lt_of_lt_of_le (List.mem_range.mp ha) (axes_le s)
      by_cases h : (s.axisFbk a = i ∧ s.axisState a = 3) ∧ (s.mo a).homeEdge = false ∧ (s.mo a).homeFail = 0
      · obtain ⟨hhome, he, hf⟩ := h
        obtain ⟨hedge, hpos⟩ := hlatch a (mem_homers.mpr ⟨List.mem_range.mp ha, hhome⟩) he hf
        refine .inr (.inr (.inr (.inr ⟨(homeEdge_limitSamples _ i limp limn a).trans hedge, ?_⟩)))
        rw [State.sfld, hregs.fld (by simp only [List.mem_cons, List.not_mem_nil, or_false, R.MOT_AX_HLATCH, R.FBK_STAT, R.FBK_ERR]; omega)]
        exact hpos
      · have hedge : (s.mo a).homeEdge = true ∨ (s.mo a).homeEdge = false := by cases (s.mo a).homeEdge <;> simp
        tauto
  · intro s i home limp limn hi hup hd hlevel hdeb
    have e := homeSample_due hup hd (debounce_short hlevel hdeb)
    rw [homeTaken_short] at e
    have hrun := exec_homeEdgeQualified home limp limn hi
    rw [e] at hrun
    refine ⟨_, hrun, only_homeEdgeQualified hrun, ?_, ?_, ((RegsBut.refl _ s).modFb).trans (regsBut_limitSamples _ i limp limn)⟩
    · rw [home_limitSamples, State.fb_modFb_same]
    · rw [home_limitSamples, State.fb_modFb_same]
      show (s.noted i (s.fb i).home).count = _
      unfold State.noted
      split <;> rfl
  · intro s i home limp limn hi hup hd hlevel hp hn
    have e := homeSample_due hup hd (debounce_same hlevel)
    rw [homeTaken_short] at e
    have hrun := exec_homeEdgeQualified home limp limn hi
    rw [e] at hrun
    refine ⟨_, hrun, only_homeEdgeQualified hrun, ?_, ?_, RegsBut.trans ?_ (regsBut_limitSamples _ i limp limn)⟩
    · rw [home_limitSamples, State.fb_modFb_same]
    · rw [fld_of_reg (reg_ERR_limitSamples _ i limp limn ?_ ?_), State.fld_modFb]
      · split
        · rfl
        · exact fld_satAdd_same s _ _ 1 (by decide)
      · rw [State.fb_modFb_same]
        split
        · exact hp
        · rw [State.fb_satAdd]; exact hp
      · rw [State.fb_modFb_same]
        split
        · exact hn
        · rw [State.fb_satAdd]; exact hn
    · exact ((RegsBut.refl _ s).ite ((RegsBut.refl _ s).satAdd (by simp))).modFb
  · intro s i home limp limn hi
    have hrun := exec_homeEdgeQualified home limp limn hi
    exact ⟨_, hrun, only_homeEdgeQualified hrun, rfl⟩

end Sys2Proof.Machine

/-! # Counting, index and compare of a feedback interface (O35) -/

namespace Sys2Proof.Machine

-- As above: the proofs of this part are elaborated one after another, which keeps the check within its memory.
set_option deprecated.oldSectionVars true

/-! ### Registers that hold one signed number -/

theorem withField_word (w : Word) (v : Nat) : withField ⟨0, 32⟩ w v = BitVec.ofNat 32 v := by
  apply BitVec.eq_of_toNat_eq
  rw [toNat_withField _ _ _ (by decide), BitVec.toNat_ofNat]
  have hw := w.isLt
  simp only [Nat.zero_add, pow_zero, Nat.mul_one, Nat.mod_one]
  omega

theorem ofNat_unsigned (v : Int) : BitVec.ofNat 32 (unsigned 32 v) = BitVec.ofInt 32 v := by
  apply BitVec.eq_of_toNat_eq
  rw [BitVec.toNat_ofNat, BitVec.toNat_ofInt, unsigned]
  omega

/-- A register of one signed field takes the number's code. -/
theorem reg_setSfld_word (s : State) (a : Nat) (v : Int) : (s.setSfld a ⟨0, 32⟩ v).reg a = BitVec.ofInt 32 v := by
  rw [State.setSfld, State.setFld, State.reg_setReg_same, withField_word, ofNat_unsigned]

/-! ### What a vote can write (R416, R424, R425) -/

/-- The registers that a vote writes: of power and time, of the DRAM and the libraries that a sleep state loses, of its records. -/
abbrev voteRegs : List Nat :=
  [R.PWR_STATE, R.PWR_WAKESRC, R.PWR_ISR, R.TIM_CAL_CMD, R.TIM_ISR, R.TIM_D_STAT 0, R.TIM_D_STAT 1, R.DDR_STAT] ++ evtRegs ++
    (List.range 32).map R.SEQ_LIB_STAT

theorem evtRegs_subset_voteRegs : evtRegs ⊆ voteRegs := by decide

theorem libStat_mem_voteRegs {n : Nat} (h : n < 32) : R.SEQ_LIB_STAT n ∈ voteRegs :=
  List.mem_append_right _ (List.mem_map_of_mem (List.mem_range.mpr h))

section
variable {s t : State}

theorem RegsBut.withPwr {p : Power} (h : RegsBut voteRegs s t) : RegsBut voteRegs s { t with pwr := p } := h.of_regs rfl

theorem RegsBut.holdDomains (h : RegsBut voteRegs s t) : RegsBut voteRegs s t.holdDomains := by
  have hstep (u : State) (d : Nat) (hd : R.TIM_D_STAT d ∈ voteRegs) (hu : RegsBut voteRegs s u) : RegsBut voteRegs s
      (if u.fld (R.TIM_D_CFG d) F.TIM_D_CFG_SRC = 0 ∨ u.fld (R.TIM_D_STAT d) F.TIM_D_STAT_STATE = 3 then u
       else (((if u.fld (R.TIM_D_STAT d) F.TIM_D_STAT_STATE = 2 then u.raise R.TIM_ISR F.TIM_ISR_LOCK else u).setFld (R.TIM_D_STAT d)
         F.TIM_D_STAT_STATE 3).modDm d fun q => { q with good := 0 }).raise R.TIM_ISR F.TIM_ISR_HOLDOVER) :=
    hu.ite (RegsBut.raise (RegsBut.of_regs (((hu.raise (by decide)).ite hu).setFld hd) rfl) (by decide))
  exact hstep _ 1 (by decide) (hstep _ 0 (by decide) h)

theorem RegsBut.libsGone (h : RegsBut voteRegs s t) : RegsBut voteRegs s t.libsGone := by
  intro r hr
  rw [← h r hr]
  exact each_unchanged (fun u => u.reg r) (fun n hn u => State.reg_setFlag_ne _ _ _ _ _
    (ne_of_mem_of_not_mem (libStat_mem_voteRegs (lt_of_mem_chs hn)) hr).symm) t

theorem RegsBut.dramSupplyOff (h : RegsBut voteRegs s t) : RegsBut voteRegs s t.dramSupplyOff :=
  RegsBut.setFlag (RegsBut.setFlag (RegsBut.setFlag (h.of_regs rfl) (by decide)) (by decide)) (by decide)

theorem RegsBut.reach {x : Nat} (h : RegsBut voteRegs s t) : RegsBut voteRegs s (t.reach x) := by
  unfold State.reach
  dsimp only
  have hstate : R.PWR_STATE ∈ voteRegs := by decide
  refine RegsBut.raise (RegsBut.post (RegsBut.ite (RegsBut.withPwr (RegsBut.libsGone (RegsBut.dramSupplyOff ?_))) ?_)
    evtRegs_subset_voteRegs) (by decide)
  all_goals exact ((((h.withPwr.setFld hstate).setFlag hstate).setFld hstate).setFlag hstate).withPwr

theorem RegsBut.settlePower (h : RegsBut voteRegs s t) : RegsBut voteRegs s t.settlePower := by
  unfold State.settlePower
  split
  · exact h.reach.ite h
  · exact h

theorem RegsBut.supplyOn (h : RegsBut voteRegs s t) : RegsBut voteRegs s t.supplyOn := h.ite (h.of_regs rfl)

theorem RegsBut.request {x : Nat} (h : RegsBut voteRegs s t) : RegsBut voteRegs s (t.request x) := by
  have hstate : R.PWR_STATE ∈ voteRegs := by decide
  unfold State.request
  dsimp only
  refine RegsBut.settlePower (RegsBut.ite (RegsBut.supplyOn (RegsBut.ite (RegsBut.withPwr ?_) ?_)) (RegsBut.ite (RegsBut.withPwr ?_) ?_))
  all_goals exact (h.withPwr.setFlag hstate).setFld hstate

theorem RegsBut.wakeRun {src : Nat} {l : List Nat} (h : RegsBut voteRegs s t) : RegsBut voteRegs s (t.wakeRun src l) := by
  have hnote : RegsBut voteRegs s (t.noteWake src) := (h.setFld (by decide)).satAdd (by decide)
  have hsleep : RegsBut voteRegs s (t.noteWake src).afterDeepSleep := ((hnote.setFlag (by decide)).holdDomains).ite hnote
  exact hsleep.request.ite h

/-- A vote writes registers of power, time, DRAM, libraries and records alone. -/
theorem regsBut_revote (s : State) (client : Nat) : RegsBut voteRegs s (s.revote client) := by
  unfold State.revote
  dsimp only
  exact (RegsBut.refl _ s).ite ((RegsBut.refl _ s).withPwr.wakeRun.settlePower.ite (RegsBut.refl _ s).withPwr.settlePower)

theorem voteRegs_lt : ∀ r ∈ voteRegs, r < 0x3D0000 := by decide

/-- The interfaces' registers are not among them. -/
theorem reg_revote (s : State) (client : Nat) {r : Nat} (hr : 0x3D0000 ≤ r) : (s.revote client).reg r = s.reg r :=
  regsBut_revote s client r fun h => by have := voteRegs_lt r h; omega

end

/-! ### What the count leaves of an interface (R270, R277) -/

/-- Between two states interface i changes no more than what counting and the compare write, and the others nothing. -/
structure LevelsKept (i : Nat) (s t : State) : Prop where
  unit : t.fb i = { s.fb i with
    edgeAt := (t.fb i).edgeAt, dirUp := (t.fb i).dirUp, reversed := (t.fb i).reversed, cmpUntil := (t.fb i).cmpUntil }
  others : UnitsBut State.fb i s t

section
variable {s t u : State} {i : Nat}

theorem LevelsKept.of_fbk (h : t.fbk = s.fbk) : LevelsKept i s t where
  unit := by rw [fb_of_fbk h]
  others := (UnitsBut.refl _ i s).of_fbk h

theorem LevelsKept.trans (h : LevelsKept i s t) (k : LevelsKept i t u) : LevelsKept i s u where
  unit := by rw [k.unit, h.unit]
  others := h.others.trans k.others

theorem levelsKept_modFb {f : Feedback → Feedback} (h : f (s.fb i) = { s.fb i with
    edgeAt := (f (s.fb i)).edgeAt, dirUp := (f (s.fb i)).dirUp, reversed := (f (s.fb i)).reversed, cmpUntil := (f (s.fb i)).cmpUntil }) :
    LevelsKept i s (s.modFb i f) where
  unit := by rw [State.fb_modFb_same]; exact h
  others := (UnitsBut.refl _ i s).modFb

theorem levelsKept_fireCompare (s : State) (i : Nat) : LevelsKept i s (s.fireCompare i) := by
  refine LevelsKept.trans (t := s.modFb i fun f =>
    { f with cmpUntil := some (s.time.mt + ticksU (80 * s.fld (R.FBK_CMPCFG i) F.FBK_CMPCFG_WIDTH)) }) (levelsKept_modFb rfl) ?_
  exact .of_fbk (by rw [State.fireCompare, State.raise_fbk, State.setFlag_fbk])

theorem levelsKept_compare (s : State) (i : Nat) (old new : Int) : LevelsKept i s (s.compare i old new) := by
  unfold State.compare
  dsimp only
  split
  · exact levelsKept_fireCompare s i
  · exact .of_fbk rfl

/-- The count of an interface is moved by d, and its direction noted. -/
def State.counted (s : State) (i : Nat) (d : Int) : State :=
  (s.setSfld (R.FBK_COUNT i) F.FBK_COUNT_COUNT (s.count i + d)).modFb i fun f =>
    { f with edgeAt := s.time.mt, dirUp := decide (0 < d), reversed := f.reversed || f.dirUp != decide (0 < d) }

/-- A move of the count, inverted with INV, is compared. -/
theorem countBy_eq (s : State) (i : Nat) (d : Int) : s.countBy i d =
    if (if s.flag (R.FBK_CFG i) F.FBK_CFG_INV then -d else d) = 0 then s
    else (s.counted i (if s.flag (R.FBK_CFG i) F.FBK_CFG_INV then -d else d)).compare i (s.count i)
      ((s.counted i (if s.flag (R.FBK_CFG i) F.FBK_CFG_INV then -d else d)).count i) := rfl

theorem levelsKept_counted (s : State) (i : Nat) (d : Int) : LevelsKept i s (s.counted i d) := by
  unfold State.counted
  have h : LevelsKept i s (s.setSfld (R.FBK_COUNT i) F.FBK_COUNT_COUNT (s.count i + d)) := .of_fbk rfl
  refine h.trans ?_
  exact levelsKept_modFb rfl

theorem levelsKept_countBy (s : State) (i : Nat) (d : Int) : LevelsKept i s (s.countBy i d) := by
  rw [countBy_eq]
  generalize (if s.flag (R.FBK_CFG i) F.FBK_CFG_INV then -d else d) = e
  split
  · exact .of_fbk rfl
  · exact (levelsKept_counted s i _).trans (levelsKept_compare _ i _ _)

/-! ### A move of the count with the compare disarmed (R270, R272) -/

theorem FBK_STAT_ne_COUNT (i : Nat) : R.FBK_STAT i ≠ R.FBK_COUNT i := by unfold R.FBK_STAT R.FBK_COUNT; omega

theorem compare_disarmed (old new : Int) (h : s.flag (R.FBK_STAT i) F.FBK_STAT_ARMED = false) : s.compare i old new = s :=
  if_neg (by rw [h]; exact Bool.false_ne_true)

theorem regsBut_counted (s : State) (i : Nat) (d : Int) : RegsBut [R.FBK_COUNT i] s (s.counted i d) :=
  ((RegsBut.refl _ s).setSfld List.mem_cons_self).modFb

theorem countBy_disarmed {d : Int} (hinv : s.flag (R.FBK_CFG i) F.FBK_CFG_INV = false) (hd : d ≠ 0)
    (h : s.flag (R.FBK_STAT i) F.FBK_STAT_ARMED = false) : s.countBy i d = s.counted i d := by
  rw [countBy_eq, hinv, if_neg Bool.false_ne_true, if_neg hd]
  exact compare_disarmed _ _ (((regsBut_counted s i d).flag (by simpa using FBK_STAT_ne_COUNT i) _).trans h)

/-- The count wraps. -/
theorem reg_counted (s : State) (i : Nat) (d : Int) : (s.counted i d).reg (R.FBK_COUNT i) = s.reg (R.FBK_COUNT i) + BitVec.ofInt 32 d := by
  rw [State.counted, State.reg_modFb]
  refine (reg_setSfld_word s _ _).trans ?_
  rw [State.count, BitVec.ofInt_add, BitVec.ofInt_toInt]

end

/-! ### A sample of A and B (R270) -/

/-- An interface with one more sample of A and B, and the levels that FILT takes. -/
def State.abSampled (s : State) (i : Nat) (levelA levelB : Bool) : State :=
  s.modFb i fun f => { f with
    rawA := levelA
    rawB := levelB
    runA := runAfter (s.fb i).rawA levelA (s.fb i).runA
    runB := runAfter (s.fb i).rawB levelB (s.fb i).runB
    a := s.filtered i levelA (s.fb i).a (runAfter (s.fb i).rawA levelA (s.fb i).runA)
    b := s.filtered i levelB (s.fb i).b (runAfter (s.fb i).rawB levelB (s.fb i).runB)
    abAt := some s.time.mt }

/-- An edge of both inputs in one sample of QUAD mode is an error. -/
def State.doubleEdge (s : State) (i : Nat) : State :=
  ((s.satAdd (R.FBK_ERR i) F.FBK_ERR_QERR 1).setFlag (R.FBK_STAT i) F.FBK_STAT_QERR true).raise R.FBK_ISR F.FBK_ISR_QERR

/-- What a turn of A and B from levels a0 and b0 to a1 and b1 does in the interface's mode. -/
def State.turned (s : State) (i : Nat) (a0 b0 a1 b1 : Bool) : State :=
  if s.fld (R.FBK_CFG i) F.FBK_CFG_MODE = 0 then
    if a0 != a1 && b0 != b1 then s.doubleEdge i else s.countBy i (quadStep a0 a1 b1)
  else if s.fld (R.FBK_CFG i) F.FBK_CFG_MODE = 1 then
    if a0 != a1 && a1 then s.countBy i (if b1 then 1 else -1) else s
  else s.countBy i (if a0 != a1 && a1 && !(b0 != b1 && b1) then 1 else if b0 != b1 && b1 && !(a0 != a1 && a1) then -1 else 0)

/-- The levels that a sample takes turn the count, where the interface counts and one of them is new. -/
def State.edgeTaken (s : State) (i : Nat) (a0 b0 a1 b1 : Bool) : State :=
  if !s.flag (R.FBK_CFG i) F.FBK_CFG_EN || !s.up dMOT || (!(a0 != a1) && !(b0 != b1)) then s else s.turned i a0 b0 a1 b1

section
variable {s : State} {i : Nat} {levelA levelB : Bool}

theorem exec_feedbackEdge (hi : i < s.axes) (hd : s.sampleDue (s.fb i).abAt 5 = true) : exec (.feedbackEdge i levelA levelB) s =
    .next ((s.abSampled i levelA levelB).edgeTaken i (s.fb i).a (s.fb i).b
      (s.filtered i levelA (s.fb i).a (runAfter (s.fb i).rawA levelA (s.fb i).runA))
      (s.filtered i levelB (s.fb i).b (runAfter (s.fb i).rawB levelB (s.fb i).runB))) := by
  have hdue : ¬(!s.sampleDue (s.fb i).abAt 5) = true := by rw [hd]; decide
  refine (onUnit_next hi (axes_le s) : execFeedbackEdge i levelA levelB s = _).trans (congrArg _ ((if_neg hdue).trans ?_))
  refine ite_congr rfl (fun _ => rfl) fun _ => ?_
  unfold State.turned State.abSampled
  dsimp only
  split
  · next h => exact (if_pos h).symm
  · next h => exact ((if_neg (by rw [h]; decide)).trans (if_pos h)).symm
  · next h0 h1 => exact ((if_neg h0).trans (if_neg h1)).symm

theorem fb_abSampled : (s.abSampled i levelA levelB).fb i = { s.fb i with
    rawA := levelA
    rawB := levelB
    runA := runAfter (s.fb i).rawA levelA (s.fb i).runA
    runB := runAfter (s.fb i).rawB levelB (s.fb i).runB
    a := s.filtered i levelA (s.fb i).a (runAfter (s.fb i).rawA levelA (s.fb i).runA)
    b := s.filtered i levelB (s.fb i).b (runAfter (s.fb i).rawB levelB (s.fb i).runB)
    abAt := some s.time.mt } := State.fb_modFb_same _ _ _

theorem unitsBut_abSampled (s : State) (i : Nat) (levelA levelB : Bool) : UnitsBut State.fb i s (s.abSampled i levelA levelB) :=
  (UnitsBut.refl _ i s).modFb

/-- A level that has held long enough is taken. -/
theorem filtered_long {raw old : Bool} {run : Nat} (h : s.fld (R.FBK_CFG i) F.FBK_CFG_FILT + 1 ≤ run) : s.filtered i raw old run = raw := if_pos h

variable (s i)

theorem regsBut_doubleEdge : RegsBut [R.FBK_ERR i, R.FBK_STAT i, R.FBK_ISR] s (s.doubleEdge i) :=
  (((RegsBut.refl _ s).satAdd (by simp)).setFlag (by simp)).raise (by simp)

theorem fbk_doubleEdge : (s.doubleEdge i).fbk = s.fbk := by rw [State.doubleEdge, State.raise_fbk, State.setFlag_fbk, State.satAdd_fbk]

theorem flag_doubleEdge : (s.doubleEdge i).flag (R.FBK_STAT i) F.FBK_STAT_QERR = true := by
  rw [State.doubleEdge, State.flag_raise_ne _ _ _ (by unfold R.FBK_STAT R.FBK_ISR; omega)]
  exact State.flag_setFlag_same _ _ _ _ (by decide) (by decide)

theorem levelsKept_turned (a0 b0 a1 b1 : Bool) : LevelsKept i s (s.turned i a0 b0 a1 b1) := by
  unfold State.turned
  split
  · split
    · exact .of_fbk (fbk_doubleEdge s i)
    · exact levelsKept_countBy s i _
  · split
    · split
      · exact levelsKept_countBy s i _
      · exact .of_fbk rfl
    · exact levelsKept_countBy s i _

theorem levelsKept_edgeTaken (a0 b0 a1 b1 : Bool) : LevelsKept i s (s.edgeTaken i a0 b0 a1 b1) := by
  unfold State.edgeTaken
  split
  · exact .of_fbk rfl
  · exact levelsKept_turned s i a0 b0 a1 b1

variable {s i} {a0 b0 a1 b1 : Bool}

theorem edgeTaken_on (hen : s.flag (R.FBK_CFG i) F.FBK_CFG_EN = true) (hup : s.up dMOT = true) (ha : a0 ≠ a1) :
    s.edgeTaken i a0 b0 a1 b1 = s.turned i a0 b0 a1 b1 :=
  if_neg (by rw [hen, hup, bne_iff_ne.mpr ha]; simp)

theorem turned_quad_double (hm : s.fld (R.FBK_CFG i) F.FBK_CFG_MODE = 0) (ha : a0 ≠ a1) (hb : b0 ≠ b1) :
    s.turned i a0 b0 a1 b1 = s.doubleEdge i :=
  (if_pos hm).trans (if_pos (by rw [bne_iff_ne.mpr ha, bne_iff_ne.mpr hb]; rfl))

theorem turned_stepDir_rise (hm : s.fld (R.FBK_CFG i) F.FBK_CFG_MODE = 1) :
    s.turned i false b0 true b1 = s.countBy i (if b1 then 1 else -1) :=
  (if_neg (by rw [hm]; decide)).trans ((if_pos hm).trans (if_pos rfl))

end

/-! ### A sample of Z (R274) -/

/-- An interface with one more sample of Z, and the level that FILT takes. -/
def State.zSampled (s : State) (i : Nat) (level : Bool) : State :=
  s.modFb i fun f => { f with
    rawZ := level
    runZ := runAfter (s.fb i).rawZ level (s.fb i).runZ
    z := s.filtered i level (s.fb i).z (runAfter (s.fb i).rawZ level (s.fb i).runZ)
    zAt := some s.time.mt }

/-- An index edge latches the count and notes its direction. -/
def State.indexLatched (s : State) (i : Nat) : State :=
  ((s.setSfld (R.FBK_ZLATCH i) F.FBK_ZLATCH_COUNT (s.count i)).setFlag (R.FBK_STAT i) F.FBK_STAT_ZSEEN true).modFb i fun f =>
    { f with idxDir := some f.dirUp, reversed := false }

/-- An index pair that is off by diff is an error, and a fault of the axes that run by the interface. -/
def State.indexError (s : State) (i : Nat) (diff : Int) (lines : Nat) : State :=
  let t := ((s.setFlag (R.FBK_STAT i) F.FBK_STAT_IDXERR true).raise R.FBK_ISR F.FBK_ISR_IDX).post 0xFF0D 0xFF
    (i + unsigned 32 diff * 2 ^ 32) (4 * lines)
  t.each ((List.range t.axes).filter fun a => decide (t.axisFbk a = i)) fun a u => u.feedbackFault a

/-- The difference of the count to the last latched one. -/
def State.indexDiff (s : State) (i : Nat) : Int := countDiff (s.count i) (s.reg (R.FBK_ZLATCH i)).toInt

/-- The pair of the last index and this one is outside its tolerance, with LINES set and the motion in one direction. -/
def State.indexOff (s : State) (i : Nat) : Bool :=
  decide (s.fld (R.FBK_LINES i) F.FBK_LINES_LINES ≠ 0) && decide ((s.fb i).idxDir = some (s.fb i).dirUp) && !(s.fb i).reversed &&
    decide (((s.fld (R.FBK_LINES i) F.FBK_LINES_TOL : Nat) : Int) <
      |(|s.indexDiff i|) - 4 * ((s.fld (R.FBK_LINES i) F.FBK_LINES_LINES : Nat) : Int)|)

/-- An index edge is taken. -/
def State.indexTaken (s : State) (i : Nat) : State :=
  if s.indexOff i then (s.indexLatched i).indexError i (s.indexDiff i) (s.fld (R.FBK_LINES i) F.FBK_LINES_LINES) else s.indexLatched i

section
variable {s : State} {i : Nat} {level : Bool}

theorem fb_zSampled : (s.zSampled i level).fb i = { s.fb i with
    rawZ := level
    runZ := runAfter (s.fb i).rawZ level (s.fb i).runZ
    z := s.filtered i level (s.fb i).z (runAfter (s.fb i).rawZ level (s.fb i).runZ)
    zAt := some s.time.mt } := State.fb_modFb_same _ _ _

theorem exec_indexEdge (hi : i < s.axes) (hd : s.sampleDue (s.fb i).zAt 5 = true) : exec (.indexEdge ⟨i, level⟩) s =
    .next (if !(s.zSampled i level).flag (R.FBK_CFG i) F.FBK_CFG_EN || !(s.zSampled i level).up dMOT ||
        !(((s.fb i).z != s.filtered i level (s.fb i).z (runAfter (s.fb i).rawZ level (s.fb i).runZ)) &&
          (s.filtered i level (s.fb i).z (runAfter (s.fb i).rawZ level (s.fb i).runZ) != s.flag (R.FBK_CFG i) F.FBK_CFG_ZPOL))
      then s.zSampled i level else (s.zSampled i level).indexTaken i) := by
  show execIndexEdge ⟨i, level⟩ s = _
  unfold execIndexEdge
  refine (onUnit_next hi (axes_le s)).trans (congrArg _ ?_)
  simp only [hd, if_true, Bool.true_and]
  refine ite_congr rfl (fun _ => rfl) fun _ => ?_
  refine ite_congr ?_ (fun _ => rfl) fun _ => rfl
  rw [State.indexOff, fb_zSampled]
  rfl

end

/-! ### What a sample leaves -/

section
variable {s : State} {i : Nat}

theorem reg_abSampled (s : State) (i : Nat) (levelA levelB : Bool) (r : Nat) : (s.abSampled i levelA levelB).reg r = s.reg r := State.reg_modFb _ _ _ _

theorem reg_zSampled (s : State) (i : Nat) (level : Bool) (r : Nat) : (s.zSampled i level).reg r = s.reg r := State.reg_modFb _ _ _ _

variable {levelA levelB level : Bool}

theorem exec_feedbackEdge_held (hi : i < s.axes) (hd : s.sampleDue (s.fb i).abAt 5 = true)
    (hA : s.fld (R.FBK_CFG i) F.FBK_CFG_FILT + 1 ≤ runAfter (s.fb i).rawA levelA (s.fb i).runA)
    (hB : s.fld (R.FBK_CFG i) F.FBK_CFG_FILT + 1 ≤ runAfter (s.fb i).rawB levelB (s.fb i).runB) :
    exec (.feedbackEdge i levelA levelB) s =
      .next ((s.abSampled i levelA levelB).edgeTaken i (s.fb i).a (s.fb i).b levelA levelB) := by
  rw [exec_feedbackEdge hi hd, filtered_long hA, filtered_long hB]

theorem levels_abSampled (hA : s.fld (R.FBK_CFG i) F.FBK_CFG_FILT + 1 ≤ runAfter (s.fb i).rawA levelA (s.fb i).runA)
    (hB : s.fld (R.FBK_CFG i) F.FBK_CFG_FILT + 1 ≤ runAfter (s.fb i).rawB levelB (s.fb i).runB) :
    ((s.abSampled i levelA levelB).fb i).a = levelA ∧ ((s.abSampled i levelA levelB).fb i).b = levelB := by
  rw [fb_abSampled]
  exact ⟨filtered_long hA, filtered_long hB⟩

/-- A compare or a count that follows a sample of the levels leaves them. -/
theorem LevelsKept.levels {s t : State} (h : LevelsKept i s t) : (t.fb i).a = (s.fb i).a ∧ (t.fb i).b = (s.fb i).b := by
  rw [h.unit]
  exact ⟨rfl, rfl⟩

theorem only_feedbackEdge {t : State} (h : exec (.feedbackEdge i levelA levelB) s = .next t) : Only [.regs, .fbk, .pci, .out] s t :=
  ((keeps_execFeedbackEdge (List.Subset.refl _) i levelA levelB (Keeps.refl _ s)).next t h).only

/-! ### What an index edge leaves (R274) -/

theorem FBK_ZLATCH_ne_STAT (i : Nat) : R.FBK_ZLATCH i ≠ R.FBK_STAT i := by unfold R.FBK_ZLATCH R.FBK_STAT; omega

theorem only_indexEdge {t : State} (h : exec (.indexEdge ⟨i, level⟩) s = .next t) :
    Only [.regs, .dram, .grp, .mot, .fbk, .pci, .ddr, .out] s t :=
  ((keeps_execIndexEdge (List.Subset.refl _) ⟨i, level⟩ (Keeps.refl _ s)).next t h).only

theorem fbk_indexError (s : State) (i : Nat) (diff : Int) (lines : Nat) : (s.indexError i diff lines).fbk = s.fbk := by
  have hfault (a : Nat) (u : State) : (u.feedbackFault a).fbk = u.fbk :=
    (keeps_State_feedbackFault (List.Subset.refl _) a (Keeps.refl _ u)).part .fbk rfl
  have hpost (u : State) (x y z w : Nat) : (u.post x y z w).fbk = u.fbk :=
    (keeps_State_post (List.Subset.refl _) x y z w (Keeps.refl _ u)).part .fbk rfl
  unfold State.indexError
  dsimp only
  rw [each_unchanged State.fbk (fun a _ u => hfault a u), hpost, State.raise_fbk, State.setFlag_fbk]

theorem fb_indexLatched (s : State) (i : Nat) : (s.indexLatched i).fb i = { s.fb i with idxDir := some (s.fb i).dirUp, reversed := false } := by
  rw [State.indexLatched, State.fb_modFb_same, State.fb_setFlag, State.fb_setSfld]

theorem unitsBut_indexLatched (s : State) (i : Nat) : UnitsBut State.fb i s (s.indexLatched i) :=
  UnitsBut.modFb (UnitsBut.of_fbk (UnitsBut.refl _ i s) rfl)

theorem fbk_indexTaken (s : State) (i : Nat) : (s.indexTaken i).fbk = (s.indexLatched i).fbk := by
  unfold State.indexTaken
  split
  · exact fbk_indexError _ _ _ _
  · rfl

/-- With LINES 0 no pair is checked. -/
theorem indexTaken_unchecked (h : s.fld (R.FBK_LINES i) F.FBK_LINES_LINES = 0) : s.indexTaken i = s.indexLatched i := by
  refine if_neg ?_
  rw [State.indexOff, h]
  exact Bool.false_ne_true

theorem indexLatched_effect (s : State) (i : Nat) : (s.indexLatched i).reg (R.FBK_ZLATCH i) = s.reg (R.FBK_COUNT i) ∧
    (s.indexLatched i).flag (R.FBK_STAT i) F.FBK_STAT_ZSEEN = true ∧
    RegsBut [R.FBK_ZLATCH i, R.FBK_STAT i] s (s.indexLatched i) := by
  refine ⟨?_, ?_, ((((RegsBut.refl _ s).setSfld (by simp)).setFlag (by simp)).modFb)⟩
  · rw [State.indexLatched, State.reg_modFb, State.reg_setFlag_ne _ _ _ _ _ (FBK_ZLATCH_ne_STAT i)]
    refine (reg_setSfld_word s _ _).trans ?_
    rw [State.count, BitVec.ofInt_toInt]
  · rw [State.indexLatched, State.flag_modFb]
    exact State.flag_setFlag_same _ _ _ _ (by decide) (by decide)

theorem only_indexLatched {A : List Part} {s t : State} (hA : [.regs, .fbk] ⊆ A) (h : Keeps A s t) : Only A s (t.indexLatched i) :=
  (keeps_State_modFb (subParts hA rfl) i _ (keeps_State_setFlag (subParts hA rfl) _ _ _ (keeps_State_setSfld (subParts hA rfl) _ _ _ h))).only

/-! ### The writes of count and compare position (R272, R277) -/

theorem exec_fbkCountWrite (v : Word) (hi : i < s.axes) : exec (.fbkCountWrite i v) s =
    .next (if s.flag (R.FBK_CFG i) F.FBK_CFG_EN then s.raise R.FBK_ISR F.FBK_ISR_REJ
      else (s.setReg (R.FBK_COUNT i) v).modFb i fun f => { f with count1 := v.toInt }) :=
  (onUnitWrite_next hi (axes_le s) : execFbkCountWrite i v s = _)

/-- The compare is armed at a position. -/
def State.armedAt (s : State) (i : Nat) (v : Word) : State := (s.setReg (R.FBK_CMPPOS i) v).setFlag (R.FBK_STAT i) F.FBK_STAT_ARMED true

/-- A position lies at or beyond the count against the motion of the last interval. -/
def State.cmpBehind (s : State) (i : Nat) (v : Word) : Bool :=
  (decide (0 < (s.fb i).moved) && decide (countDiff v.toInt (s.count i) ≤ 0)) ||
    (decide ((s.fb i).moved < 0) && decide (0 ≤ countDiff v.toInt (s.count i)))

theorem cmpBehind_iff (s : State) (i : Nat) (v : Word) : s.cmpBehind i v = true ↔
    (0 < (s.fb i).moved ∧ countDiff v.toInt (s.count i) ≤ 0) ∨ ((s.fb i).moved < 0 ∧ 0 ≤ countDiff v.toInt (s.count i)) := by
  simp [State.cmpBehind]

/-- A behind position is reported. -/
def State.reportBehind (s : State) (i : Nat) : State :=
  (s.setFlag (R.FBK_STAT i) F.FBK_STAT_CMP_BEHIND true).raise R.FBK_ISR F.FBK_ISR_BEHIND

theorem regsBut_armedAt (s : State) (i : Nat) (v : Word) : RegsBut [R.FBK_CMPPOS i, R.FBK_STAT i] s (s.armedAt i v) :=
  ((RegsBut.refl _ s).setReg (by simp)).setFlag (by simp)

theorem flag_armedAt (s : State) (i : Nat) (v : Word) : (s.armedAt i v).flag (R.FBK_STAT i) F.FBK_STAT_ARMED = true :=
  State.flag_setFlag_same _ _ _ _ (by decide) (by decide)

theorem cmpBehind_armedAt (s : State) (i : Nat) (v w : Word) : (s.armedAt i v).cmpBehind i w = s.cmpBehind i w := by
  have hcount : (s.armedAt i v).count i = s.count i := by
    rw [State.count, regsBut_armedAt s i v _ (by simp only [List.mem_cons, List.not_mem_nil, or_false, R.FBK_COUNT, R.FBK_CMPPOS, R.FBK_STAT]; omega)]
    rfl
  rw [State.cmpBehind, hcount, State.armedAt, State.fb_setFlag, State.fb_setReg, State.cmpBehind]

theorem exec_fbkCmpposWrite (v : Word) (hi : i < s.axes) : exec (.fbkCmpposWrite i v) s =
    .next (if s.cmpBehind i v then
        if ((s.armedAt i v).reportBehind i).flag (R.FBK_CMPCFG i) F.FBK_CMPCFG_FIRE_NOW &&
            ((s.armedAt i v).reportBehind i).flag (R.FBK_CMPCFG i) F.FBK_CMPCFG_EN then ((s.armedAt i v).reportBehind i).fireCompare i
        else (s.armedAt i v).reportBehind i
      else s.armedAt i v) := by
  rw [← cmpBehind_armedAt s i v v]
  exact (onUnitWrite_next hi (axes_le s) : execFbkCmpposWrite i v s = _)

/-- A position that is not behind is armed, and no more. -/
theorem armed_effect {v : Word} (hi : i < s.axes) (h : ¬s.cmpBehind i v = true) :
    ∃ t, exec (.fbkCmpposWrite i v) s = .next t ∧ Only [.regs] s t ∧ t.reg (R.FBK_CMPPOS i) = v ∧
      t.flag (R.FBK_STAT i) F.FBK_STAT_ARMED = true ∧ RegsBut [R.FBK_CMPPOS i, R.FBK_STAT i] s t := by
  refine ⟨_, (exec_fbkCmpposWrite v hi).trans (congrArg _ (if_neg h)), ?_, ?_, flag_armedAt s i v, regsBut_armedAt s i v⟩
  · exact (keeps_State_setFlag (List.Subset.refl _) _ _ _ (keeps_State_setReg (List.Subset.refl _) _ _ (Keeps.refl _ s))).only
  · rw [State.armedAt, State.reg_setFlag_ne _ _ _ _ _ (by unfold R.FBK_CMPPOS R.FBK_STAT; omega), State.reg_setReg_same]

theorem regsBut_reportBehind (s : State) (i : Nat) : RegsBut [R.FBK_STAT i, R.FBK_ISR] s (s.reportBehind i) :=
  ((RegsBut.refl _ s).setFlag (by simp)).raise (by simp)

/-- A report leaves what else the status holds. -/
theorem reportBehind_flags (s : State) (i : Nat) : (s.reportBehind i).flag (R.FBK_STAT i) F.FBK_STAT_CMP_BEHIND = true ∧
    (s.reportBehind i).flag R.FBK_ISR F.FBK_ISR_BEHIND = true ∧
    (s.reportBehind i).flag (R.FBK_STAT i) F.FBK_STAT_ARMED = s.flag (R.FBK_STAT i) F.FBK_STAT_ARMED := by
  have hne : R.FBK_STAT i ≠ R.FBK_ISR := by unfold R.FBK_STAT R.FBK_ISR; omega
  refine ⟨?_, State.flag_raise_same _ _ _ (by decide) (by decide), ?_⟩
  · rw [State.reportBehind, State.flag_raise_ne _ _ _ hne]
    exact State.flag_setFlag_same _ _ _ _ (by decide) (by decide)
  · rw [State.reportBehind, State.flag_raise_ne _ _ _ hne]
    exact State.flag_setFlag_field _ _ _ _ _ (by decide) (by decide)

/-! ### The write of a configuration (R270, R274, R279) -/

/-- A write changes MODE of a running interface. -/
def State.modeChange (s : State) (i : Nat) (v : Word) : Bool :=
  s.flag (R.FBK_CFG i) F.FBK_CFG_EN && decide (field F.FBK_CFG_MODE v ≠ s.fld (R.FBK_CFG i) F.FBK_CFG_MODE)

/-- A written configuration with MODE kept where the write may not change it. -/
def State.withMode (s : State) (i : Nat) (v : Word) : Word :=
  if s.modeChange i v || decide (field F.FBK_CFG_MODE v = 3) then
    withField F.FBK_CFG_MODE (v &&& 0x00FF07FF) (s.fld (R.FBK_CFG i) F.FBK_CFG_MODE)
  else v &&& 0x00FF07FF

/-- The configuration that a write leaves. -/
def State.configured (s : State) (i : Nat) (v : Word) : Word :=
  if field F.FBK_CFG_DEB v = 0 then withField F.FBK_CFG_DEB (s.withMode i v) (s.fld (R.FBK_CFG i) F.FBK_CFG_DEB) else s.withMode i v

/-- A field beside MODE and DEB is the written one, and DEB too unless it is 0. -/
theorem field_withMode {f : Field} {v : Word} (hm : ∀ n < f.width, (0x00FF07FF : Word).getLsbD (f.lo + n) = true)
    (h : 3 ≤ f.lo ∨ f.lo + f.width ≤ 1) : field f (s.withMode i v) = field f v := by
  unfold State.withMode
  split
  · rw [field_withField_ne F.FBK_CFG_MODE f _ _ (by decide) h]
    exact field_and_of_bits hm
  · exact field_and_of_bits hm

theorem field_configured {f : Field} {v : Word} (hm : ∀ n < f.width, (0x00FF07FF : Word).getLsbD (f.lo + n) = true)
    (h : 3 ≤ f.lo ∨ f.lo + f.width ≤ 1) (hdeb : 24 ≤ f.lo ∨ f.lo + f.width ≤ 16) : field f (s.configured i v) = field f v := by
  unfold State.configured
  split
  · rw [field_withField_ne F.FBK_CFG_DEB f _ _ (by decide) hdeb]
    exact field_withMode hm h
  · exact field_withMode hm h

theorem field_DEB_configured (s : State) (i : Nat) (v : Word) : field F.FBK_CFG_DEB (s.configured i v) =
    if field F.FBK_CFG_DEB v = 0 then s.fld (R.FBK_CFG i) F.FBK_CFG_DEB else field F.FBK_CFG_DEB v := by
  unfold State.configured
  split
  · rw [field_withField_same _ _ _ (by decide)]
    exact Nat.mod_eq_of_lt (field_lt _ _)
  · exact field_withMode (by decide) (by decide)

theorem configured_off {v : Word} (hen : s.flag (R.FBK_CFG i) F.FBK_CFG_EN = false) (hmode : field F.FBK_CFG_MODE v ≠ 3)
    (hdeb : field F.FBK_CFG_DEB v ≠ 0) : s.configured i v = v &&& 0x00FF07FF := by
  rw [State.configured, if_neg hdeb, State.withMode, State.modeChange, hen, decide_eq_false hmode]
  rfl

/-- A configuration is stored, with what its write sets off, before the vote that follows. -/
def State.storeConfig (s : State) (i : Nat) (v : Word) : State :=
  let t := s.setReg (R.FBK_CFG i) (s.configured i v)
  let t := if s.modeChange i v then t.raise R.FBK_ISR F.FBK_ISR_REJ else t
  if !s.flag (R.FBK_CFG i) F.FBK_CFG_EN && t.flag (R.FBK_CFG i) F.FBK_CFG_EN then
    (t.setFlag (R.FBK_STAT i) F.FBK_STAT_ZSEEN false).modFb i fun f => { f with idxDir := none, reversed := false }
  else t

theorem exec_feedbackInterfaceEnable (v : Word) (hi : i < s.axes) :
    exec (.feedbackInterfaceEnable i v) s = .next ((s.storeConfig i v).revote 13) :=
  (onUnitWrite_next hi (axes_le s) : execFeedbackInterfaceEnable i v s = _)

theorem reg_storeConfig (s : State) (i : Nat) (v : Word) : (s.storeConfig i v).reg (R.FBK_CFG i) = s.configured i v := by
  have hbase := RegsBut.refl [R.FBK_STAT i, R.FBK_ISR] (s.setReg (R.FBK_CFG i) (s.configured i v))
  have hreject := (hbase.raise (a := R.FBK_ISR) (f := F.FBK_ISR_REJ) (by simp)).ite (c := s.modeChange i v = true) hbase
  have hstored : RegsBut [R.FBK_STAT i, R.FBK_ISR] (s.setReg (R.FBK_CFG i) (s.configured i v)) (s.storeConfig i v) :=
    RegsBut.ite ((hreject.setFlag (by simp)).modFb) hreject
  rw [hstored _ (by simp only [List.mem_cons, List.not_mem_nil, or_false, R.FBK_CFG, R.FBK_STAT, R.FBK_ISR]; omega), State.reg_setReg_same]

theorem feedbackInterfaceEnable_effect (v : Word) (hi : i < s.axes) : ∃ t, exec (.feedbackInterfaceEnable i v) s = .next t ∧
    Only [.regs, .dram, .grp, .dom, .fbk, .pci, .ddr, .pwr, .out] s t ∧ t.reg (R.FBK_CFG i) = s.configured i v := by
  have hrun := exec_feedbackInterfaceEnable v hi
  refine ⟨_, hrun, ((keeps_execFeedbackInterfaceEnable (List.Subset.refl _) i v (Keeps.refl _ s)).next _ hrun).only, ?_⟩
  rw [reg_revote _ _ (by unfold R.FBK_CFG; omega), reg_storeConfig]

end

/-! ### The statement -/

/-- Settles O35: a sample is `State.abSampled` or `State.zSampled`, which the count, the compare and the index check leave; a write of
the configuration leaves `State.configured`. -/
theorem feedbackCounting : Obligations.FeedbackCounting := by
  refine ⟨?_, ?_, ?_, ?_, ?_, ?_, ?_, ?_, ?_, ?_, ?_, ?_⟩
  · intro s i levelA levelB hi hd hen hup hmode hinv ha hlevel hA hB harm
    subst hlevel
    have hreg := reg_abSampled s i true levelB
    have hstep : (if levelB then (1 : Int) else -1) ≠ 0 := by cases levelB <;> decide
    have e : (s.abSampled i true levelB).edgeTaken i (s.fb i).a (s.fb i).b true levelB =
        (s.abSampled i true levelB).counted i (if levelB then 1 else -1) := by
      rw [ha, edgeTaken_on ((flag_of_reg (hreg _) _).trans hen) ((up_of_reg s (hreg _) _).trans hup) (by decide),
        turned_stepDir_rise ((fld_of_reg (hreg _) _).trans hmode),
        countBy_disarmed ((flag_of_reg (hreg _) _).trans hinv) hstep ((flag_of_reg (hreg _) _).trans harm)]
    have hkept := levelsKept_counted (s.abSampled i true levelB) i (if levelB then 1 else -1)
    obtain ⟨hka, hkb⟩ := hkept.levels
    obtain ⟨hsa, hsb⟩ := levels_abSampled hA hB
    refine ⟨_, (exec_feedbackEdge_held hi hd hA hB).trans (congrArg _ e), ?_, ?_, hka.trans hsa, hkb.trans hsb,
      fun r hr => (regsBut_counted _ i _ r hr).trans (hreg r), (unitsBut_abSampled s i _ _).trans hkept.others⟩
    · exact (keeps_State_modFb (by decide) i _ (keeps_State_setSfld (by decide) _ _ _
        (keeps_State_modFb (by decide) i _ (Keeps.refl _ s)))).only
    · rw [reg_counted, hreg]
      cases levelB <;> rfl
  · intro s i levelA levelB hi hd hen hup hmode ha hb hA hB
    have hreg := reg_abSampled s i levelA levelB
    have e : (s.abSampled i levelA levelB).edgeTaken i (s.fb i).a (s.fb i).b levelA levelB = (s.abSampled i levelA levelB).doubleEdge i := by
      rw [edgeTaken_on ((flag_of_reg (hreg _) _).trans hen) ((up_of_reg s (hreg _) _).trans hup) ha,
        turned_quad_double ((fld_of_reg (hreg _) _).trans hmode) ha hb]
    have hfb := fbk_doubleEdge (s.abSampled i levelA levelB) i
    have hrun := (exec_feedbackEdge_held hi hd hA hB).trans (congrArg _ e)
    refine ⟨_, hrun, only_feedbackEdge hrun, ?_, flag_doubleEdge _ i, State.flag_raise_same _ _ _ (by decide) (by decide), ?_, ?_,
      (unitsBut_abSampled s i _ _).of_fbk hfb⟩
    · rw [regsBut_doubleEdge _ i _ (by simp only [List.mem_cons, List.not_mem_nil, or_false, R.FBK_COUNT, R.FBK_ERR, R.FBK_STAT, R.FBK_ISR]; omega), hreg]
    · rw [fb_of_fbk hfb]; exact (levels_abSampled hA hB).1
    · rw [fb_of_fbk hfb]; exact (levels_abSampled hA hB).2
  · intro s i levelA levelB hi hd
    have hrun := exec_feedbackEdge (levelA := levelA) (levelB := levelB) hi hd
    refine ⟨_, hrun, only_feedbackEdge hrun, ?_⟩
    generalize ht : (s.abSampled i levelA levelB).edgeTaken i _ _ _ _ = t
    have hkept : LevelsKept i (s.abSampled i levelA levelB) t := ht ▸ levelsKept_edgeTaken _ i _ _ _ _
    rw [hkept.unit, fb_abSampled]
    exact ⟨rfl, rfl, rfl, rfl, rfl, rfl, (unitsBut_abSampled s i _ _).trans hkept.others⟩
  · intro s i level hi hd hen hup hz hpol hrun hlines
    have hreg := reg_zSampled s i level
    have hedge : ¬(!(s.zSampled i level).flag (R.FBK_CFG i) F.FBK_CFG_EN || !(s.zSampled i level).up dMOT ||
        !(((s.fb i).z != level) && (level != s.flag (R.FBK_CFG i) F.FBK_CFG_ZPOL))) = true := by
      rw [flag_of_reg (hreg _), hen, up_of_reg s (hreg _), hup, bne_iff_ne.mpr hz, bne_iff_ne.mpr hpol]
      decide
    have e := exec_indexEdge (level := level) hi hd
    rw [filtered_long hrun, if_neg hedge, indexTaken_unchecked ((fld_of_reg (hreg _) _).trans hlines)] at e
    obtain ⟨hlatch, hseen, hregs⟩ := indexLatched_effect (s.zSampled i level) i
    refine ⟨_, e, ?_, hlatch.trans (hreg _), hseen, ?_, fun r hr => (hregs r hr).trans (hreg r), ?_⟩
    · exact only_indexLatched (List.Subset.refl _) (keeps_State_modFb (by decide) i _ (Keeps.refl _ s))
    · rw [fb_indexLatched, fb_zSampled]
    · exact UnitsBut.trans (UnitsBut.modFb (UnitsBut.refl _ i s)) (unitsBut_indexLatched _ i)
  · intro s i level hi hd
    have e := exec_indexEdge (level := level) hi hd
    refine ⟨_, e, only_indexEdge e, ?_⟩
    have hs : UnitsBut State.fb i s (s.zSampled i level) := UnitsBut.modFb (UnitsBut.refl _ i s)
    split
    · rw [fb_zSampled]
      exact ⟨rfl, rfl, rfl, hs⟩
    · have hfb := fbk_indexTaken (s.zSampled i level) i
      rw [fb_of_fbk hfb, fb_indexLatched, fb_zSampled]
      exact ⟨rfl, rfl, rfl, (hs.trans (unitsBut_indexLatched _ i)).of_fbk hfb⟩
  · intro s i v hi hen
    refine ⟨_, (exec_fbkCountWrite v hi).trans (congrArg _ (if_neg (by rw [hen]; decide))), ?_, ?_, ?_, ?_⟩
    · exact (keeps_State_modFb (by decide) i _ (keeps_State_setReg (by decide) _ _ (Keeps.refl _ s))).only
    · rw [State.reg_modFb, State.reg_setReg_same]
    · exact ((RegsBut.refl _ s).setReg (by simp)).modFb
    · exact UnitsBut.modFb (UnitsBut.of_fbk (UnitsBut.refl _ i s) rfl)
  · intro s i v hi hen
    exact rejected_effect (by decide) (by decide) ((exec_fbkCountWrite v hi).trans (congrArg _ (if_pos hen)))
  · intro s i v hi hmoved
    refine armed_effect hi ?_
    rw [cmpBehind_iff, hmoved]
    omega
  · intro s i v hi hen hmode hdeb
    obtain ⟨t, e, honly, hreg⟩ := feedbackInterfaceEnable_effect v hi
    exact ⟨t, e, honly, hreg.trans (configured_off hen hmode hdeb)⟩
  · intro s i v hi hahead
    refine armed_effect hi ?_
    rw [cmpBehind_iff]
    omega
  · intro s i v hi hbehind hfire
    have hcfg : ((s.armedAt i v).reportBehind i).flag (R.FBK_CMPCFG i) F.FBK_CMPCFG_FIRE_NOW = false := by
      rw [(regsBut_reportBehind _ i).flag (by simp only [List.mem_cons, List.not_mem_nil, or_false, R.FBK_CMPCFG, R.FBK_STAT, R.FBK_ISR]; omega),
        (regsBut_armedAt s i v).flag (by simp only [List.mem_cons, List.not_mem_nil, or_false, R.FBK_CMPCFG, R.FBK_CMPPOS, R.FBK_STAT]; omega), hfire]
    have e := exec_fbkCmpposWrite v hi
    rw [if_pos ((cmpBehind_iff s i v).mpr hbehind), hcfg, Bool.false_and, if_neg Bool.false_ne_true] at e
    obtain ⟨hnoted, hisr, harmed⟩ := reportBehind_flags (s.armedAt i v) i
    exact ⟨_, e, ((keeps_execFbkCmpposWrite (List.Subset.refl _) i v (Keeps.refl _ s)).next _ e).only, hnoted, hisr,
      harmed.trans (flag_armedAt s i v)⟩
  · intro s i v hi
    obtain ⟨t, e, honly, hreg⟩ := feedbackInterfaceEnable_effect v hi
    have hfield (f : Field) : t.fld (R.FBK_CFG i) f = field f (s.configured i v) := by rw [State.fld, hreg]
    have hen : field F.FBK_CFG_EN (s.configured i v) = field F.FBK_CFG_EN v := field_configured (by decide) (by decide) (by decide)
    refine ⟨t, e, honly, ?_, ?_, ?_⟩
    · have hlt : field F.FBK_CFG_EN v < 2 := field_lt F.FBK_CFG_EN v
      rw [State.flag, hfield, hen]
      exact decide_eq_decide.mpr (by omega)
    · rw [hfield]
      exact field_configured (by decide) (by decide) (by decide)
    · rw [hfield]
      exact field_DEB_configured s i v

end Sys2Proof.Machine

/-! # Camera frames (O36): the record index in a ring larger than its field -/

namespace Sys2Proof.Machine

-- As above: the proofs of this part are elaborated one after another, which keeps the check within its memory.
set_option deprecated.oldSectionVars true

/-! ### The end of a frame in the pipeline (R302, R304) -/

theorem exec_pipelineFrameEnd {s : State} {p : Nat} {f : Frame} (hl : s.pipe.last = p) (hf : s.finished p = some f) :
    exec .pipelineFrameEnd s = .next (s.deliverFrame p f) := by
  have hx : exec .pipelineFrameEnd s = execPipelineFrameEnd s := rfl
  have hpick : (s.pipe.last :: List.range s.camPorts).find? (fun q => (s.finished q).isSome) = some p := by
    rw [hl, List.find?_cons_of_pos (by rw [hf]; rfl)]
  rw [hx, execPipelineFrameEnd, hpick]
  simp only [hf]

/-- The registers that a delivery to the mailbox of a port writes (R162, R302). -/
def mailboxRegs (p : Nat) : List Nat :=
  [R.SRV_MB_SEQ p, R.SRV_MB_AREA p, R.SRV_MB_CENT p, R.SRV_MB_PEAK p, R.SRV_MB_TEND_NS p, R.SRV_MB_TEND_S p, R.SRV_ISR]

theorem regsBut_mailbox (s : State) (p : Nat) (f : Frame) (b : Blob) : RegsBut (mailboxRegs p) s (s.mailbox p f b) := by
  have hseq : RegsBut (mailboxRegs p) s
      (if s.flag (R.SRV_MB_SEQ p) F.SRV_MB_SEQ_NEW then s.satAdd (R.SRV_MB_SEQ p) F.SRV_MB_SEQ_OVR 1 else s) :=
    ((RegsBut.refl _ s).satAdd (by simp [mailboxRegs])).ite (RegsBut.refl _ s)
  unfold State.mailbox
  dsimp only
  refine ((((((((hseq.setFld ?_).setFlag ?_).setFld ?_).setFld ?_).setFld ?_).setFld ?_).setFld ?_).setFld ?_).raise ?_
  all_goals simp [mailboxRegs]

theorem rwr_not_mem_mailboxRegs (p : Nat) : R.CAM_PT_RWR p ∉ mailboxRegs p := by
  simp only [mailboxRegs, List.mem_cons, List.not_mem_nil, or_false, not_or, R.CAM_PT_RWR, R.SRV_MB_SEQ, R.SRV_MB_AREA, R.SRV_MB_CENT,
    R.SRV_MB_PEAK, R.SRV_MB_TEND_NS, R.SRV_MB_TEND_S, R.SRV_ISR]
  omega

/-- A record moves RWR on to the index after its own modulo the ring size, in the 10 bits that the index has. -/
theorem rwr_putRecord (s : State) (p : Nat) (f : Frame) (outs : Nat) (fin : Option Stamp) :
    (s.putRecord p f outs fin).fld (R.CAM_PT_RWR p) F.CAM_PT_RWR_INDEX =
      (f.index + 1) % s.camRing p % 2 ^ F.CAM_PT_RWR_INDEX.width := by
  have hne : R.CAM_PT_RWR p ≠ R.CAM_ISR := by unfold R.CAM_PT_RWR R.CAM_ISR; omega
  have hring (a : Nat) (bs : List Byte) : (s.writeDram a bs).camRing p = s.camRing p := by
    have hw : RegsBut [] s (s.writeDram a bs) := (RegsBut.refl _ s).writeDram
    rw [State.camRing, hw.fld (by simp), State.camRing]
  unfold State.putRecord
  rw [State.fld, State.reg_raise_ne _ _ _ _ hne, ← State.fld, State.fld_setFld_same _ _ _ _ (by decide), hring]

/-- Outputs go to DRAM alone. -/
theorem keeps_putOutputs (s : State) (ks : List Nat) (p : Nat) (f : Frame) (b : Blob) (d : Nat) :
    Keeps [.dram, .ddr] s (s.each ks fun k t => t.putOutput p k f b d) :=
  keeps_State_each (by decide) _ _ (fun k _ h => keeps_State_putOutput (by decide) p k f b d h) (Keeps.refl _ s)

theorem cm_putRecord (s : State) (p : Nat) (f : Frame) (outs : Nat) (fin : Option Stamp) (m : Nat) :
    (s.putRecord p f outs fin).cm m = s.cm m :=
  cm_of_cam ((keeps_State_putRecord (List.Subset.refl _) p f outs fin (Keeps.refl _ s)).part .cam rfl) m

/-- The record of a port's only frame, and the count of deliveries, leave RWR past that record when the frame goes. -/
theorem rwr_flushDrops_putRecord {s : State} {p : Nat} {f : Frame} (hq : (s.cm p).frames = [f]) (outs : Nat) (fin : Option Stamp) (n : Nat) :
    (((s.putRecord p f outs fin).setFld (R.CAM_PT_FRAMES p) F.CAM_PT_FRAMES_DELIV n).flushDrops p ((s.cm p).frames.drop 1)).fld
      (R.CAM_PT_RWR p) F.CAM_PT_RWR_INDEX = (f.index + 1) % s.camRing p % 2 ^ F.CAM_PT_RWR_INDEX.width := by
  have hne : R.CAM_PT_RWR p ≠ R.CAM_PT_FRAMES p := by unfold R.CAM_PT_RWR R.CAM_PT_FRAMES; omega
  rw [hq, List.drop_one, List.tail_cons, State.flushDrops, State.fld, State.modCm_reg, ← State.fld, State.fld_setFld_reg _ _ _ _ _ _ hne,
    rwr_putRecord]

/-- The delivery of a port's only frame moves RWR on by that frame's record. -/
theorem rwr_deliverFrame {s : State} {p : Nat} {f : Frame} (hq : (s.cm p).frames = [f]) :
    (s.deliverFrame p f).fld (R.CAM_PT_RWR p) F.CAM_PT_RWR_INDEX = (f.index + 1) % s.camRing p % 2 ^ F.CAM_PT_RWR_INDEX.width := by
  have hout := keeps_putOutputs s.draw.2 ((List.range 4).filter fun k => s.draw.2.outOn p k) p f (blobOf f s.draw.1) s.draw.1
  unfold State.deliverFrame
  dsimp only
  rw [(regsBut_mailbox _ p f _).fld (rwr_not_mem_mailboxRegs p), State.cm_setFld, cm_putRecord]
  generalize s.draw.2.each _ _ = o at *
  have hone : (o.cm p).frames = [f] := (congrArg CamPort.frames (cm_of_cam (hout.part .cam rfl) p)).trans hq
  have hring : o.camRing p = s.camRing p := by
    have hregs : o.regs = s.regs := hout.part .regs rfl
    simp only [State.camRing, State.fld, State.reg, hregs]
  rw [← hring]
  split
  · exact rwr_flushDrops_putRecord hone _ _ _
  · exact rwr_flushDrops_putRecord hone _ _ _

/-! ### The statement -/

/-- A frame of one line, received and processed, whose record is the last that an index of 10 bits can name. -/
def lastIndexFrame : Frame := ⟨1, 0, 1023, ⟨0, 0, 0⟩, 0, 0, 1, [], [[0]], none, false, false, true, none⟩

/-- Port 0 with images of one pixel, a ring of 2^11 records and `lastIndexFrame`, device DRAM ready. -/
def ringPastIndex : State :=
  (((State.reset.setReg (R.CAM_PT_GEOM 0) 0x10001).setReg (R.CAM_PT_RCTL 0) 11).setFlag R.DDR_STAT F.DDR_STAT_READY true).modCm 0
    fun c => { c with frames := [lastIndexFrame] }

theorem ringPastIndex_finished : ringPastIndex.pipe.last = 0 ∧ ringPastIndex.finished 0 = some lastIndexFrame ∧
    (ringPastIndex.cm 0).frames = [lastIndexFrame] := by decide

theorem ringPastIndex_ring : ringPastIndex.camRing 0 = 2048 := by decide

/-- PIPELINE_FRAME_END wraps RWR to 0 there. -/
theorem rwr_ringPastIndex : (ringPastIndex.deliverFrame 0 lastIndexFrame).fld (R.CAM_PT_RWR 0) F.CAM_PT_RWR_INDEX = 0 := by
  obtain ⟨-, -, hone⟩ := ringPastIndex_finished
  rw [rwr_deliverFrame hone, ringPastIndex_ring]
  rfl

/-- Refutes O36: its last clause takes RWR modulo the ring size of any LOG2 that the 4-bit field can hold, but the index has 10 bits, so it
is right only in a ring of at most 2^10 records. In `ringPastIndex` the frame with record 1,023 of 2^11 is delivered and RWR wraps to 0, not
to 1,024. A write of CAM_PT_RCTL takes LOG2 from 2 to 10 only (R303), so the fault is the clause's missing bound and not the delivery. -/
theorem not_cameraFrames : ¬ Obligations.CameraFrames := by
  rintro ⟨-, -, -, -, -, -, -, -, -, -, -, hend⟩
  obtain ⟨hlast, hfin, hone⟩ := ringPastIndex_finished
  obtain ⟨t, e, -, -, -, -, hrwr, -⟩ := hend ringPastIndex 0 lastIndexFrame (by decide) hlast hfin hone (by decide) (by decide)
  rw [exec_pipelineFrameEnd hlast hfin] at e
  obtain rfl := Host.Outcome.next.inj e
  rw [rwr_ringPastIndex, ringPastIndex_ring] at hrwr
  exact absurd hrwr (by decide)

end Sys2Proof.Machine

/-! # Illumination: the sinks' grants, the matrix and the strobes (O38, O39) -/

namespace Sys2Proof.Machine

-- As above: the proofs of this part are elaborated one after another, which keeps the check within its memory.
set_option deprecated.oldSectionVars true

/-! ### The scale's write and WAITGRANT (R314, R315, R320) -/

theorem exec_sinkWrite_scale {s : State} (hl : s.hasLight = true) (v : Word) :
    exec (.sinkWrite R.LGT_SCALE v) s = .next (s.setReg R.LGT_SCALE (v &&& 0x3F)).lightSync := by
  have hx : exec (.sinkWrite R.LGT_SCALE v) s = execSinkWrite R.LGT_SCALE v s := rfl
  rw [hx, execSinkWrite, onAddr_next (by decide) (by decide)]
  simp only [decide_true, Bool.true_or, Bool.not_true, Bool.false_eq_true, if_false, if_true, hl]

/-- After reset, STROBE_ENABLE of strobe 0 with ISET = 1 mA: it waits for one credit of the LED supply. -/
def strobeWaiting : State := State.reset.after (exec (.strobeEnable 0 9) State.reset)

theorem strobeWaiting_reached : exec (.strobeEnable 0 9) State.reset = .next strobeWaiting := rfl

theorem strobeWaiting_waits : strobeWaiting.hasLight = true ∧ strobeWaiting.flag R.LGT_CTL F.LGT_CTL_EN = false ∧
    strobeWaiting.waits 3 (strobeReq 0) = true := by decide

/-- There a write of the scale leaves WAITGRANT set: the strobe's request is outstanding. -/
theorem waitgrant_scale_strobeWaiting :
    ((strobeWaiting.setReg R.LGT_SCALE 5).lightSync).flag R.LGT_STAT F.LGT_STAT_WAITGRANT = true := by decide

/-- Refutes O38: its third clause has a write of LGT_SCALE while EN = 0 leave WAITGRANT clear, but WAITGRANT tells of any outstanding
request of the block, of its sinks or of a strobe (R315, R320). In `strobeWaiting`, one command after reset, the sinks are off and
strobe 0 waits for its credit: the new scale is in force and WAITGRANT stays set. -/
theorem not_sinksAndShortTest : ¬ Obligations.SinksAndShortTest := by
  rintro ⟨-, -, hscale, -⟩
  obtain ⟨hl, hoff, -⟩ := strobeWaiting_waits
  obtain ⟨t, e, -, -, -, hwait⟩ := hscale strobeWaiting 5 hl hoff
  rw [exec_sinkWrite_scale hl] at e
  obtain rfl := Host.Outcome.next.inj e
  exact absurd (waitgrant_scale_strobeWaiting.symm.trans hwait) Bool.false_ne_true.symm

/-! ### The registers that grants, shorts and word reads write (R315, R319, R393) -/

/-- The registers that requests to the LED supply and their returns write. -/
abbrev ledRegs : List Nat := [R.PWR_BUD_USE 3, R.PWR_BUD_STAT 3, R.LGT_STAT, R.PWR_ISR]

/-- The registers that pairs found short write. -/
abbrev shortRegs : List Nat := [R.LGT_SHORT_LO, R.LGT_SHORT_HI, R.LGT_ISR] ++ evtRegs

/-- The registers that the reading of table words writes. -/
abbrev readRegs : List Nat := R.INTG_CE :: ueRegs

section
variable {l : List Nat} {s t : State}

theorem RegsBut.modSb {k : Nat} {f : Strobe → Strobe} (h : RegsBut l s t) : RegsBut l s (t.modSb k f) := h.of_regs rfl

theorem RegsBut.withLgt {x : Light} (h : RegsBut l s t) : RegsBut l s { t with lgt := x } := h.of_regs rfl

theorem RegsBut.budSync (h : RegsBut l s t) (hl : ledRegs ⊆ l) : RegsBut l s (t.budSync 3) :=
  (((h.setFld (hl (by simp))).setFld (hl (by simp))).setFlag (hl (by simp))).setFlag (hl (by simp))

theorem RegsBut.budWithdraw {who : Nat} (h : RegsBut l s t) (hl : ledRegs ⊆ l) : RegsBut l s (t.budWithdraw 3 who) :=
  (RegsBut.budSync (t := t.setWaiting 3 _) (h.of_regs rfl) hl).ite h

theorem RegsBut.budHold {who n : Nat} (h : RegsBut l s t) (hl : ledRegs ⊆ l) : RegsBut l s (t.budHold 3 who n) :=
  h.ite (RegsBut.budSync (t := t.setGranted 3 who n) (h.of_regs rfl) hl)

theorem RegsBut.budFree {who : Nat} (h : RegsBut l s t) (hl : ledRegs ⊆ l) : RegsBut l s (t.budFree 3 who) :=
  (h.budWithdraw hl).budHold hl

theorem RegsBut.budRequest {who n : Nat} (h : RegsBut l s t) (hl : ledRegs ⊆ l) : RegsBut l s (t.budRequest 3 who n) := by
  have hasked : RegsBut l s ((t.setWaiting 3 (insertReq ⟨who, n, t.time.mt, decide (t.budLimit 3 < n)⟩ (t.waiting 3))).budSync 3) :=
    RegsBut.budSync (h.of_regs rfl) hl
  exact h.ite ((hasked.raise (hl (by simp))).ite hasked)

theorem RegsBut.lightSync (h : RegsBut l s t) (hl : ledRegs ⊆ l) : RegsBut l s t.lightSync := by
  have hlower : RegsBut l s t.lightLower := h.of_regs ((keeps_State_lightLower (List.Subset.refl _) (Keeps.refl _ t)).part .regs rfl)
  unfold State.lightSync
  dsimp only
  refine RegsBut.ite ?_ (hlower.ite ((hlower.budWithdraw hl).budRequest hl))
  exact ((h.budWithdraw hl).budHold hl).of_regs rfl

theorem RegsBut.shortFound {occasion k : Nat} (h : RegsBut l s t) (hl : shortRegs ⊆ l) : RegsBut l s (t.shortFound occasion k) := by
  have hbit : RegsBut l s (if k < 32 then t.setBit R.LGT_SHORT_LO k true else t.setBit R.LGT_SHORT_HI (k - 32) true) :=
    (h.setReg (hl (by simp))).ite (h.setReg (hl (by simp)))
  exact ((hbit.raise (hl (by simp))).post fun _ hm => hl (List.mem_append_right _ hm)).ite h

theorem regsBut_readWords (s : State) (chn : Nat) (ranges : List (Nat × Nat)) : RegsBut readRegs s (s.readWords chn ranges).2 := by
  unfold State.readWords
  dsimp only
  generalize (List.filter (fun e => decide (e.2 = 1)) (s.unsound ranges)).length = ce
  have hce : RegsBut readRegs s (if ce = 0 then s else (s.satAdd R.INTG_CE F.INTG_CE_COUNT ce).raise R.INTG_ISR F.INTG_ISR_CE) :=
    (RegsBut.refl _ s).ite (((RegsBut.refl _ s).satAdd (by decide)).raise (by decide))
  split
  · split
    · exact hce.trans ((regsBut_detectUe _ _ _ _ _).mono (List.subset_cons_self _ _))
    · exact hce
  · exact hce

end

/-- LGT_STAT is the last of these registers. -/
theorem notMem_ledRegs {a : Nat} (h : 0x380024 ≤ a) : a ∉ ledRegs := fun hm => by
  have : ∀ b ∈ ledRegs, b < 0x380024 := by decide
  exact absurd (this a hm) (by omega)

/-! ### The block beside its registers under a change of the demand (R314) -/

theorem lgt_budWithdraw (s : State) (who : Nat) : (s.budWithdraw 3 who).lgt = s.lgt :=
  (keeps_State_budWithdraw (List.Subset.refl _) 3 who (Keeps.refl _ s)).part .lgt rfl

theorem lgt_budHold (s : State) (who n : Nat) : (s.budHold 3 who n).lgt = s.lgt :=
  (keeps_State_budHold (List.Subset.refl _) 3 who n (Keeps.refl _ s)).part .lgt rfl

theorem lgt_budRequest (s : State) (who n : Nat) : (s.budRequest 3 who n).lgt = s.lgt :=
  (keeps_State_budRequest (List.Subset.refl _) 3 who n (Keeps.refl _ s)).part .lgt rfl

/-- Of the block, the demand taken to the arbiter changes the codes, the scale and the enables in force alone. -/
theorem lgt_lightSync (s : State) : ∃ codes scale en, s.lightSync.lgt = { s.lgt with codes := codes, scale := scale, enabled := en } := by
  unfold State.lightSync
  dsimp only
  split
  · exact ⟨_, _, _, by rw [State.lightApply, lgt_budHold, lgt_budWithdraw]⟩
  · split
    · exact ⟨_, _, _, rfl⟩
    · exact ⟨_, _, _, by rw [lgt_budRequest, lgt_budWithdraw]; rfl⟩

theorem lgt_shortFound (s : State) (occasion k : Nat) : (s.shortFound occasion k).lgt = s.lgt :=
  (keeps_State_shortFound (List.Subset.refl _) occasion k (Keeps.refl _ s)).part .lgt rfl

/-! ### A line of the matrix (R316, R317, R319) -/

/-- The blanking after a line, in ticks. -/
def State.blanking (s : State) : Nat := s.fld R.LGT_MTX_BLANK F.LGT_MTX_BLANK_BLANK

/-- When a line that starts now turns dark. -/
def State.lineDark (s : State) : Nat := s.time.mt + ticksU (s.fld R.LGT_MTX_CFG F.LGT_MTX_CFG_LINE_T)

theorem lineEnd_eq (s : State) : s.lineDark + ticksU s.blanking =
    s.time.mt + ticksU (s.fld R.LGT_MTX_CFG F.LGT_MTX_CFG_LINE_T + s.fld R.LGT_MTX_BLANK F.LGT_MTX_BLANK_BLANK) := by
  rw [State.lineDark, State.blanking, ticksU, ticksU, ticksU, Nat.mul_add, Nat.add_assoc]

/-- The codes of the next line are read. -/
def State.lineCodes (s : State) : State :=
  (s.readWords 0xFF [(0x1B00100 + 0x200 * s.fld R.LGT_MTX_CTL F.LGT_MTX_CTL_ACTIVE + 0x40 * s.lgt.line, 48)]).2

/-- Whether the blanking is too short for a test is noted. -/
def State.blankNoted (s : State) : State := s.setFlag R.LGT_TEST F.LGT_TEST_NOBLANK (decide (s.blanking < 1250))

/-- The blanking tests the next pairs where it is long enough. -/
def State.blankTested (s : State) (shorted : List Nat) : State :=
  if s.blanking < 1250 then s.blankNoted
  else
    let t := s.blankNoted.each (s.blankNoted.nextPairs.filter fun k => decide (k ∈ shorted)) fun k t => t.shortFound 2 k
    { t with lgt := { t.lgt with pair := (t.lgt.pair + 4) % 47 } }

/-- The next line starts, in a frame of LSYNC or free-running. -/
def State.lineStarted (s : State) (sync : Bool) (shorted : List Nat) : State :=
  let u := s.lineCodes
  let t := u.blankTested shorted
  let last := decide (t.mtxLines ≤ t.lgt.line + 1) || t.lgt.endEarly
  { t with lgt := { t.lgt with line := if last then 0 else t.lgt.line + 1, lineEnd := u.lineDark + ticksU u.blanking,
                               frame := !last && sync, endEarly := false, lit := some (u.lgt.line, u.lineDark) } }

/-- A line that starts without a swap. -/
theorem exec_matrixLine {s : State} {shorted : List Nat} (hon : s.matrixOn = true) (hdue : s.lgt.lineEnd ≤ s.time.mt)
    (hrun : (s.lgt.frame || !s.flag R.LGT_CTL F.LGT_CTL_SYNC) = true)
    (hswap : (if !s.flag R.LGT_CTL F.LGT_CTL_SYNC && decide (s.lgt.line = 0) then s.swapBanks else s) = s) :
    exec (.matrixLine shorted) s = .next (s.lineStarted (s.flag R.LGT_CTL F.LGT_CTL_SYNC) shorted) := by
  have hx : exec (.matrixLine shorted) s = execMatrixLine shorted s := rfl
  have hc : (s.matrixOn && decide (s.lgt.lineEnd ≤ s.time.mt) && (s.lgt.frame || !s.flag R.LGT_CTL F.LGT_CTL_SYNC)) = true := by
    simp only [hon, hdue, hrun, decide_true, Bool.and_self]
  rw [hx, execMatrixLine, occurs_next hc]
  simp only [hswap, State.lineStarted, State.blankTested, State.blankNoted, State.lineCodes, State.lineDark, State.blanking]
  rfl

section
variable (s : State) (shorted : List Nat)

theorem keeps_lineCodes : Keeps [.regs, .dram, .grp, .pci, .ddr, .intg, .out] s s.lineCodes :=
  keeps_State_readWords (List.Subset.refl _) _ _ (Keeps.refl _ s)

theorem regsBut_lineCodes : RegsBut readRegs s s.lineCodes := regsBut_readWords s _ _

theorem regsBut_blankTested : RegsBut shortRegs s.blankNoted (s.blankTested shorted) :=
  (RegsBut.refl _ _).ite (((RegsBut.refl _ _).each fun _ _ h => h.shortFound (List.Subset.refl _)).withLgt)

/-- Of the block, a blanking's test takes the next pairs alone. -/
theorem lgt_blankTested : (s.blankTested shorted).lgt =
    { s.lgt with pair := if s.blanking < 1250 then s.lgt.pair else (s.lgt.pair + 4) % 47 } := by
  have heach : (s.blankNoted.each (s.blankNoted.nextPairs.filter fun k => decide (k ∈ shorted)) fun k t => t.shortFound 2 k).lgt = s.lgt :=
    each_unchanged State.lgt (fun k _ u => lgt_shortFound u 2 k) _
  unfold State.blankTested
  split
  · rfl
  · simp only [heach]

/-- The registers that a line writes. -/
abbrev lineRegs : List Nat := R.LGT_TEST :: (readRegs ++ shortRegs)

theorem regsBut_lineStarted (sync : Bool) : RegsBut lineRegs s (s.lineStarted sync shorted) := by
  have hnoted : RegsBut lineRegs s s.lineCodes.blankNoted := ((regsBut_lineCodes s).mono (by decide)).setFlag (by decide)
  exact (hnoted.trans ((regsBut_blankTested s.lineCodes shorted).mono (by decide))).withLgt

theorem noblank_lineStarted (sync : Bool) :
    (s.lineStarted sync shorted).flag R.LGT_TEST F.LGT_TEST_NOBLANK = decide (s.blanking < 1250) := by
  have hblank : s.lineCodes.blanking = s.blanking := (regsBut_lineCodes s).fld (by decide) _
  rw [← hblank]
  exact ((regsBut_blankTested s.lineCodes shorted).withLgt.flag (by decide) _).trans
    (State.flag_setFlag_same _ _ _ _ (by decide) (by decide))

/-- The block after a line that no LSYNC has cut short. -/
theorem lgt_lineStarted (sync : Bool) (hearly : s.lgt.endEarly = false) : (s.lineStarted sync shorted).lgt =
    { s.lgt with
      line := if s.mtxLines ≤ s.lgt.line + 1 then 0 else s.lgt.line + 1, lineEnd := s.lineDark + ticksU s.blanking
      pair := if s.blanking < 1250 then s.lgt.pair else (s.lgt.pair + 4) % 47
      frame := decide (s.lgt.line + 1 < s.mtxLines) && sync, endEarly := false, lit := some (s.lgt.line, s.lineDark) } := by
  have hblank : s.lineCodes.blanking = s.blanking := (regsBut_lineCodes s).fld (by decide) _
  have hlgt : s.lineCodes.lgt = s.lgt := (keeps_lineCodes s).part .lgt rfl
  have htime : s.lineCodes.time = s.time := (keeps_lineCodes s).part .time rfl
  have hdark : s.lineCodes.lineDark = s.lineDark := by
    rw [State.lineDark, htime, (regsBut_lineCodes s).fld (by decide), State.lineDark]
  have hlines : (s.lineCodes.blankTested shorted).mtxLines = s.mtxLines :=
    congrArg (· + 1) ((regsBut_lineStarted s shorted sync).fld (a := R.LGT_MTX_CFG) (by decide) F.LGT_MTX_CFG_LINES)
  have hlast : (!decide (s.mtxLines ≤ s.lgt.line + 1)) = decide (s.lgt.line + 1 < s.mtxLines) := by
    simp only [← Nat.not_le, decide_not]
  unfold State.lineStarted
  simp only [lgt_blankTested, hlines, hblank, hlgt, hdark, hearly, Bool.or_false, decide_eq_true_eq, hlast]

theorem only_matrixLine {t : State} (e : exec (.matrixLine shorted) s = .next t) :
    Only [.regs, .dram, .grp, .lgt, .pci, .ddr, .intg, .pwr, .out] s t :=
  ((keeps_execMatrixLine (List.Subset.refl _) shorted (Keeps.refl _ s)).next _ e).only

end

/-! ### LSYNC and the swap of the banks (R317, R318) -/

section
variable {s : State}

theorem swapBanks_of_none (h : s.flag R.LGT_MTX_CTL F.LGT_MTX_CTL_PENDING = false) : s.swapBanks = s :=
  if_neg (by rw [h, Bool.false_and]; exact Bool.false_ne_true)

theorem swapBanks_of_granted (h : s.flag R.LGT_MTX_CTL F.LGT_MTX_CTL_PENDING = true) (hg : s.swapGranted = true) :
    s.swapBanks = ((s.setFld R.LGT_MTX_CTL F.LGT_MTX_CTL_ACTIVE (1 - s.fld R.LGT_MTX_CTL F.LGT_MTX_CTL_ACTIVE)).setFlag R.LGT_MTX_CTL
      F.LGT_MTX_CTL_PENDING false).lightSync := if_pos (by rw [h, hg]; rfl)

/-- The bank in use and a pending swap, of a state whose demand goes to the arbiter. -/
theorem bank_lightSync (s : State) :
    s.lightSync.fld R.LGT_MTX_CTL F.LGT_MTX_CTL_ACTIVE = s.fld R.LGT_MTX_CTL F.LGT_MTX_CTL_ACTIVE ∧
    s.lightSync.flag R.LGT_MTX_CTL F.LGT_MTX_CTL_PENDING = s.flag R.LGT_MTX_CTL F.LGT_MTX_CTL_PENDING := by
  have h : RegsBut ledRegs s s.lightSync := (RegsBut.refl _ s).lightSync (List.Subset.refl _)
  exact ⟨h.fld (by decide) _, h.flag (by decide) _⟩

/-- A granted swap makes the other bank active, and leaves the frame and the line. -/
theorem swapBanks_effect (h : s.flag R.LGT_MTX_CTL F.LGT_MTX_CTL_PENDING = true) (hg : s.swapGranted = true) :
    s.swapBanks.fld R.LGT_MTX_CTL F.LGT_MTX_CTL_ACTIVE = 1 - s.fld R.LGT_MTX_CTL F.LGT_MTX_CTL_ACTIVE ∧
    s.swapBanks.flag R.LGT_MTX_CTL F.LGT_MTX_CTL_PENDING = false ∧
    s.swapBanks.lgt.frame = s.lgt.frame ∧ s.swapBanks.lgt.line = s.lgt.line := by
  rw [swapBanks_of_granted h hg]
  obtain ⟨hactive, hpending⟩ := bank_lightSync ((s.setFld R.LGT_MTX_CTL F.LGT_MTX_CTL_ACTIVE
    (1 - s.fld R.LGT_MTX_CTL F.LGT_MTX_CTL_ACTIVE)).setFlag R.LGT_MTX_CTL F.LGT_MTX_CTL_PENDING false)
  obtain ⟨codes, scale, en, hlgt⟩ := lgt_lightSync ((s.setFld R.LGT_MTX_CTL F.LGT_MTX_CTL_ACTIVE
    (1 - s.fld R.LGT_MTX_CTL F.LGT_MTX_CTL_ACTIVE)).setFlag R.LGT_MTX_CTL F.LGT_MTX_CTL_PENDING false)
  refine ⟨?_, ?_, ?_, ?_⟩
  · rw [hactive, State.setFlag, State.fld_setFld_field _ _ _ _ _ (by decide) (by decide), State.fld_setFld_same _ _ _ _ (by decide)]
    exact Nat.mod_eq_of_lt (Nat.lt_succ_of_le (Nat.sub_le _ _))
  · rw [hpending, State.flag_setFlag_same _ _ _ _ (by decide) (by decide)]
  · rw [hlgt]
    rfl
  · rw [hlgt]
    rfl

theorem exec_swap (hl : s.hasLight = true) : exec .swap s = .next (s.setFlag R.LGT_MTX_CTL F.LGT_MTX_CTL_PENDING true).lightSync := by
  have hx : exec .swap s = execSwap s := rfl
  rw [hx, execSwap, onLight, if_pos hl]

/-- The block at the start of a frame of LSYNC. -/
def Light.frameBegun (x : Light) : Light := { x with startAt := none, frame := true, line := 0, endEarly := false }

theorem exec_lsyncFrameStart {t0 : Nat} (hat : s.lgt.startAt = some t0) (hdue : t0 ≤ s.time.mt) (hon : s.matrixOn = true)
    (hsync : s.flag R.LGT_CTL F.LGT_CTL_SYNC = true) :
    exec .lsyncFrameStart s = .next ({ s with lgt := s.lgt.frameBegun } : State).swapBanks := by
  have hx : exec .lsyncFrameStart s = execLsyncFrameStart s := rfl
  rw [hx, execLsyncFrameStart, occurs_next (by simp only [hat, hdue, hon, hsync, decide_true, Bool.and_self])]
  rfl

/-- The pin after an edge. -/
def State.lsyncTurned (s : State) : State := { s with pins := { s.pins with lsync := !s.pins.lsync } }

/-- A frame start placed DLY after an edge; a frame whose first line has not begun is replaced at its end. -/
def Light.framePlaced (x : Light) (t : Nat) : Light :=
  { x with startAt := some t, endEarly := x.frame && decide (x.line = 0), frame := x.frame && decide (x.line = 0), line := 0 }

/-- The effect of an edge of the chosen polarity. -/
def State.framePlaced (s : State) : State :=
  let t : State := { s with lgt := s.lgt.framePlaced (s.time.mt + ticksU (s.fld R.LGT_LSYNC_DLY F.LGT_LSYNC_DLY_DLY)) }
  if s.lgt.frame || decide (s.time.mt < s.lgt.lineEnd) then t.satAdd R.LGT_STAT F.LGT_STAT_EARLY 1 else t

theorem lgt_framePlaced (s : State) :
    s.framePlaced.lgt = s.lgt.framePlaced (s.time.mt + ticksU (s.fld R.LGT_LSYNC_DLY F.LGT_LSYNC_DLY_DLY)) := by
  unfold State.framePlaced
  dsimp only
  split <;> rfl

theorem keeps_framePlaced (s : State) : Keeps [.regs, .lgt] s s.framePlaced :=
  have hplaced := Keeps.upd_lgt (by decide) (Keeps.refl [.regs, .lgt] s)
  Keeps.ite (keeps_State_satAdd (by decide) _ _ _ hplaced) hplaced

theorem regsBut_framePlaced (s : State) : RegsBut [R.LGT_STAT] s s.framePlaced :=
  ((RegsBut.refl _ s).withLgt.satAdd (List.mem_singleton_self _)).ite (RegsBut.refl _ s).withLgt

theorem exec_lsyncEdge_chosen (hpol : (!s.pins.lsync) ≠ s.flag R.LGT_CTL F.LGT_CTL_SYNCPOL) (hon : s.matrixOn = true)
    (hsync : s.flag R.LGT_CTL F.LGT_CTL_SYNC = true) : exec .lsyncEdge s = .next s.lsyncTurned.framePlaced := by
  have hx : exec .lsyncEdge s = execLsyncEdge s := rfl
  have hc : ((!s.pins.lsync) != s.lsyncTurned.flag R.LGT_CTL F.LGT_CTL_SYNCPOL && s.lsyncTurned.matrixOn &&
      s.lsyncTurned.flag R.LGT_CTL F.LGT_CTL_SYNC) = true := by
    rw [show s.lsyncTurned.matrixOn = true from hon, show s.lsyncTurned.flag R.LGT_CTL F.LGT_CTL_SYNC = true from hsync,
      Bool.and_true, Bool.and_true]
    exact bne_iff_ne.mpr hpol
  rw [hx, execLsyncEdge]
  exact occurs_next hc

theorem exec_lsyncEdge_other (hpol : (!s.pins.lsync) = s.flag R.LGT_CTL F.LGT_CTL_SYNCPOL) : exec .lsyncEdge s = .next s.lsyncTurned := by
  have hx : exec .lsyncEdge s = execLsyncEdge s := rfl
  have hc : ((!s.pins.lsync) != s.lsyncTurned.flag R.LGT_CTL F.LGT_CTL_SYNCPOL && s.lsyncTurned.matrixOn &&
      s.lsyncTurned.flag R.LGT_CTL F.LGT_CTL_SYNC) = false := by
    rw [show s.lsyncTurned.flag R.LGT_CTL F.LGT_CTL_SYNCPOL = (!s.pins.lsync) from hpol.symm, bne_self_eq_false, Bool.false_and, Bool.false_and]
  rw [hx, execLsyncEdge]
  exact congrArg Host.Outcome.next (if_neg (ne_true_of_eq_false hc))

end

/-! ### The strobes' registers and their other state (R320, R321) -/

section
variable {s t u : State} {k : Nat}

theorem UnitsBut.of_strobe (h : UnitsBut State.sb k s t) (hu : u.strobe = t.strobe) : UnitsBut State.sb k s u := fun m hm => by
  rw [← h m hm, State.sb, hu, State.sb]

theorem UnitsBut.modSb {f : Strobe → Strobe} (h : UnitsBut State.sb k s t) : UnitsBut State.sb k s (t.modSb k f) := fun m hm => by
  rw [State.sb_modSb, if_neg hm, h m hm]

theorem sb_of_strobe (h : t.strobe = s.strobe) (k : Nat) : t.sb k = s.sb k := by rw [State.sb, h, State.sb]

theorem only_modSb (s : State) (k : Nat) (f : Strobe → Strobe) : Only [.strobe] s (s.modSb k f) :=
  (keeps_State_modSb (List.Subset.refl _) k f (Keeps.refl _ s)).only

@[simp] theorem State.fld_modSb (s : State) (k : Nat) (f : Strobe → Strobe) (a : Nat) (g : Field) :
    (s.modSb k f).fld a g = s.fld a g := rfl

/-- A change of one strobe's other state alone. -/
theorem modSb_effect {i : Instr} {f : Strobe → Strobe} (e : exec i s = .next (s.modSb k f)) :
    ∃ t, exec i s = .next t ∧ Only [.strobe] s t ∧ t.sb k = f (s.sb k) ∧ RegsBut [] s t ∧ UnitsBut State.sb k s t :=
  ⟨_, e, only_modSb s k f, State.sb_modSb_same s k f, (RegsBut.refl _ s).modSb, (UnitsBut.refl _ k s).modSb⟩

/-- A strobe's window lies behind the block's common registers. -/
theorem STB_CFG_notMem_ledRegs (k : Nat) : R.LGT_STB_CFG k ∉ ledRegs := notMem_ledRegs (by unfold R.LGT_STB_CFG; omega)

theorem STB_CFG_ne_STAT (j k : Nat) : R.LGT_STB_CFG j ≠ R.LGT_STB_STAT k := by unfold R.LGT_STB_CFG R.LGT_STB_STAT; omega

theorem STB_STAT_ne_CMD (j k : Nat) : R.LGT_STB_STAT j ≠ R.LGT_STB_CMD k := by unfold R.LGT_STB_STAT R.LGT_STB_CMD; omega

/-- The registers that a strobe's fault writes beside the strobe's own. -/
abbrev strobeReportRegs : List Nat := R.LGT_ISR :: evtRegs

theorem strobe_notMem_reports {a : Nat} (h : 0x380100 ≤ a) : a ∉ strobeReportRegs := fun hm => by
  have : ∀ b ∈ strobeReportRegs, b < 0x380100 := by decide
  exact absurd (this a hm) (by omega)

end

/-! ### Enable and pulses (R320, R321) -/

section
variable {s : State} {k : Nat} {v : Word}

/-- The block with its four strobes. -/
theorem strobes_of_light (hl : s.hasLight = true) : (if s.hasLight then 4 else 0) = 4 := if_pos hl

theorem onStrobe_next {addr : Nat} {f : State → State} (hk : k < 4) (hl : s.hasLight = true) : onStrobe k addr s f = .next (f s) :=
  onUnitWrite_next (by rw [strobes_of_light hl]; exact hk) (by rw [strobes_of_light hl])

theorem onStrobeEvent_next {f : State → State} (hk : k < 4) (hl : s.hasLight = true) : onStrobeEvent k s f = .next (f s) :=
  onUnit_next (by rw [strobes_of_light hl]; exact hk) (by rw [strobes_of_light hl])

/-- A strobe without a reservation is enabled: it is ready at once. -/
theorem exec_strobeEnable_zero (hk : k < 4) (hl : s.hasLight = true) (hoff : s.flag (R.LGT_STB_CFG k) F.LGT_STB_CFG_EN = false)
    (hen : field F.LGT_STB_CFG_EN v = 1) (hset : field F.LGT_STB_CFG_ISET v = 0) (hw : s.waits 3 (strobeReq k) = false) :
    exec (.strobeEnable k v) s = .next (if s.flag (R.LGT_STB_STAT k) F.LGT_STB_STAT_READY then s.setReg (R.LGT_STB_CFG k) v
      else (s.setReg (R.LGT_STB_CFG k) v).setFlag (R.LGT_STB_STAT k) F.LGT_STB_STAT_READY true) := by
  have hx : exec (.strobeEnable k v) s = execStrobeEnable k v s := rfl
  have hon : (s.setReg (R.LGT_STB_CFG k) v).flag (R.LGT_STB_CFG k) F.LGT_STB_CFG_EN = true := by
    rw [State.flag, State.fld, State.reg_setReg_same, hen]
    rfl
  have hready : (s.setReg (R.LGT_STB_CFG k) v).flag (R.LGT_STB_STAT k) F.LGT_STB_STAT_READY =
      s.flag (R.LGT_STB_STAT k) F.LGT_STB_STAT_READY := (regsBut_setReg s _ v).flag (by simpa using (STB_CFG_ne_STAT k k).symm) _
  have hwaits : (s.setReg (R.LGT_STB_CFG k) v).waits 3 (strobeReq k) = false := hw
  have hnone : ceilDiv ((s.setReg (R.LGT_STB_CFG k) v).fld (R.LGT_STB_CFG k) F.LGT_STB_CFG_ISET) 50 = 0 := by
    rw [State.fld, State.reg_setReg_same, hset]
    rfl
  rw [hx, execStrobeEnable, onStrobe_next hk hl]
  simp only [hoff, Bool.false_and, Bool.false_eq_true, if_false, hon, Bool.not_true, hready, hwaits, Bool.or_false, hnone, if_true]

theorem strobeEnable_zero_effect (hk : k < 4) (hl : s.hasLight = true) (hoff : s.flag (R.LGT_STB_CFG k) F.LGT_STB_CFG_EN = false)
    (hen : field F.LGT_STB_CFG_EN v = 1) (hset : field F.LGT_STB_CFG_ISET v = 0) (hw : s.waits 3 (strobeReq k) = false) :
    ∃ t, exec (.strobeEnable k v) s = .next t ∧ Only [.regs, .strobe, .pci, .pwr, .out] s t ∧ t.reg (R.LGT_STB_CFG k) = v ∧
      t.flag (R.LGT_STB_STAT k) F.LGT_STB_STAT_READY = true ∧ RegsBut [R.LGT_STB_CFG k, R.LGT_STB_STAT k] s t := by
  have hx := exec_strobeEnable_zero hk hl hoff hen hset hw
  have hready := (regsBut_setReg s (R.LGT_STB_CFG k) v).flag (by simpa using (STB_CFG_ne_STAT k k).symm) F.LGT_STB_STAT_READY
  have hregs : RegsBut [R.LGT_STB_CFG k, R.LGT_STB_STAT k] s (s.setReg (R.LGT_STB_CFG k) v) := (RegsBut.refl _ s).setReg (by simp)
  refine ⟨_, hx, ((keeps_execStrobeEnable (List.Subset.refl _) k v (Keeps.refl _ s)).next _ hx).only, ?_, ?_,
    hregs.ite (hregs.setFlag (by simp))⟩
  · split
    · exact State.reg_setReg_same _ _ _
    · rw [State.reg_setFlag_ne _ _ _ _ _ (STB_CFG_ne_STAT k k), State.reg_setReg_same]
  · split
    case isTrue hr => exact hready.trans hr
    case isFalse => exact State.flag_setFlag_same _ _ _ _ (by decide) (by decide)

theorem exec_strobePulse (hk : k < 4) (hl : s.hasLight = true) (hp : field F.LGT_STB_CMD_PULSE v = 1) :
    exec (.strobePulse k v) s =
      .next ((s.setReg (R.LGT_STB_CMD k) (v &&& 0xFFFF)).strobePulse k (max 1 (field F.LGT_STB_CMD_HWIDTH v))) := by
  have hx : exec (.strobePulse k v) s = execStrobePulse k v s := rfl
  rw [hx, execStrobePulse, onStrobe_next hk hl]
  simp only [hp, if_true]

theorem strobePulse_of_idle (hr : s.flag (R.LGT_STB_STAT k) F.LGT_STB_STAT_READY = true) (hu : s.up dLGT = true)
    (h : (s.sb k).until_ ≤ s.time.mt) (width : Nat) :
    s.strobePulse k width = s.modSb k fun b => { b with until_ := s.pulseEnd width, since := s.time.mt, gate := true, judged := false } := by
  unfold State.strobePulse
  simp only [hr, hu, Bool.not_true, Bool.or_self, Bool.false_eq_true, if_false]
  simp only [State.modSb, Nat.not_lt.mpr h, if_false]
  rfl

theorem strobePulse_of_unready (hr : s.flag (R.LGT_STB_STAT k) F.LGT_STB_STAT_READY = false) (width : Nat) :
    s.strobePulse k width = s.satAdd (R.LGT_STB_STAT k) F.LGT_STB_STAT_MISS 1 := if_pos (by rw [hr]; rfl)

/-- A pulse changes the strobe's other state, and stores the command's width. -/
theorem strobePulse_effect {f : Strobe → Strobe} (e : exec (.strobePulse k v) s = .next ((s.setReg (R.LGT_STB_CMD k) (v &&& 0xFFFF)).modSb k f)) :
    ∃ t, exec (.strobePulse k v) s = .next t ∧ Only [.regs, .strobe] s t ∧ t.sb k = f (s.sb k) ∧ RegsBut [R.LGT_STB_CMD k] s t ∧
      UnitsBut State.sb k s t :=
  ⟨_, e, ((keeps_execStrobePulse (List.Subset.refl _) k v (Keeps.refl _ s)).next _ e).only, State.sb_modSb_same _ _ _,
    (regsBut_setReg s _ _).modSb, ((UnitsBut.refl State.sb k s).of_strobe (State.setReg_strobe _ _ _)).modSb⟩

/-- The command's register does not tell whether a strobe is ready or its domain up. -/
theorem ready_setReg_CMD (s : State) (k : Nat) (w : Word) :
    (s.setReg (R.LGT_STB_CMD k) w).flag (R.LGT_STB_STAT k) F.LGT_STB_STAT_READY = s.flag (R.LGT_STB_STAT k) F.LGT_STB_STAT_READY :=
  (regsBut_setReg s _ w).flag (by simpa using STB_STAT_ne_CMD k k) _

theorem up_setReg_CMD (s : State) (k d : Nat) (w : Word) : (s.setReg (R.LGT_STB_CMD k) w).up d = s.up d :=
  congrArg (fun x => bitAt x d) ((regsBut_setReg s (R.LGT_STB_CMD k) w).fld
    (by simp only [List.mem_singleton, R.PWR_DOM, R.LGT_STB_CMD]; omega) F.PWR_DOM_UP)

theorem exec_strobeCut (hk : k < 4) (hl : s.hasLight = true) (hon : s.strobeOn k = true)
    (hdue : (s.sb k).since + ticksU (1250 * s.fld (R.LGT_STB_CFG k) F.LGT_STB_CFG_MAXON) ≤ s.time.mt) :
    exec (.strobeCut k) s = .next ((s.modSb k Strobe.stop).satAdd (R.LGT_STB_STAT k) F.LGT_STB_STAT_CUT 1) := by
  have hx : exec (.strobeCut k) s = execStrobeCut k s := rfl
  rw [hx, execStrobeCut, onStrobeEvent_next hk hl]
  simp only [hon, hdue, decide_true, Bool.and_self, if_true]

end

/-! ### Faults of a strobe (R322) -/

section
variable {s : State} {k cause : Nat}

/-- A strobe that a fault has turned off, before the report. -/
def State.strobeFaulted (s : State) (k cause : Nat) : State :=
  ((s.setFlag (R.LGT_STB_CFG k) F.LGT_STB_CFG_EN false).strobeOff k).setFld (R.LGT_STB_STAT k) F.LGT_STB_STAT_CAUSE cause

theorem strobeFault_eq (hen : s.flag (R.LGT_STB_CFG k) F.LGT_STB_CFG_EN = true) : s.strobeFault k cause =
    ((s.strobeFaulted k cause).raise R.LGT_ISR F.LGT_ISR_STROBE).post 0xFF0F 0xFF (k + cause * 256) 0 :=
  if_neg (by rw [hen]; exact Bool.false_ne_true)

theorem regsBut_strobeOff (s : State) (k : Nat) : RegsBut (R.LGT_STB_STAT k :: ledRegs) s (s.strobeOff k) :=
  ((RegsBut.refl _ s).modSb.budFree (List.subset_cons_self _ _)).setFlag List.mem_cons_self

theorem strobe_strobeOff (s : State) (k : Nat) : (s.strobeOff k).strobe = (s.modSb k Strobe.stop).strobe :=
  (keeps_State_budFree (List.Subset.refl _) 3 (strobeReq k) (Keeps.refl _ (s.modSb k Strobe.stop))).part .strobe rfl

theorem strobe_strobeFault (hen : s.flag (R.LGT_STB_CFG k) F.LGT_STB_CFG_EN = true) :
    (s.strobeFault k cause).strobe = (s.modSb k Strobe.stop).strobe := by
  have hreport (u : State) : ((u.raise R.LGT_ISR F.LGT_ISR_STROBE).post 0xFF0F 0xFF (k + cause * 256) 0).strobe = u.strobe :=
    (keeps_State_post (by decide) _ _ _ _ (keeps_State_raise (by decide) _ _ (Keeps.refl [.regs, .dram, .grp, .pci, .ddr, .out] u))).part
      .strobe rfl
  rw [strobeFault_eq hen, hreport, State.strobeFaulted, State.setFld_strobe, strobe_strobeOff]
  rfl

theorem regsBut_strobeReport (u : State) (k cause : Nat) :
    RegsBut strobeReportRegs u ((u.raise R.LGT_ISR F.LGT_ISR_STROBE).post 0xFF0F 0xFF (k + cause * 256) 0) :=
  ((RegsBut.refl _ u).raise (by decide)).post (by decide)

/-- A fault of an enabled strobe turns it off, with its cause and the flag. -/
theorem strobeFault_effect (hen : s.flag (R.LGT_STB_CFG k) F.LGT_STB_CFG_EN = true) (hc : cause < 4) :
    (s.strobeFault k cause).flag (R.LGT_STB_CFG k) F.LGT_STB_CFG_EN = false ∧
    (s.strobeFault k cause).sb k = (s.sb k).stop ∧
    (s.strobeFault k cause).fld (R.LGT_STB_STAT k) F.LGT_STB_STAT_CAUSE = cause ∧
    (s.strobeFault k cause).flag (R.LGT_STB_STAT k) F.LGT_STB_STAT_READY = false ∧
    (s.strobeFault k cause).flag R.LGT_ISR F.LGT_ISR_STROBE = true ∧
    UnitsBut State.sb k s (s.strobeFault k cause) := by
  have hreport : RegsBut strobeReportRegs (s.strobeFaulted k cause) (s.strobeFault k cause) := by
    rw [strobeFault_eq hen]
    exact regsBut_strobeReport _ k cause
  have hcfg : R.LGT_STB_CFG k ∉ strobeReportRegs := strobe_notMem_reports (by unfold R.LGT_STB_CFG; omega)
  have hstat : R.LGT_STB_STAT k ∉ strobeReportRegs := strobe_notMem_reports (by unfold R.LGT_STB_STAT; omega)
  have hstrobe := strobe_strobeFault (cause := cause) hen
  refine ⟨?_, (sb_of_strobe hstrobe k).trans (State.sb_modSb_same s k _), ?_, ?_, ?_, (UnitsBut.refl _ k s).modSb.of_strobe hstrobe⟩
  · have hoff : RegsBut (R.LGT_STB_STAT k :: ledRegs) (s.setFlag (R.LGT_STB_CFG k) F.LGT_STB_CFG_EN false) (s.strobeFaulted k cause) :=
      (regsBut_strobeOff _ k).setFld List.mem_cons_self
    rw [hreport.flag hcfg, hoff.flag (List.not_mem_cons_of_ne_of_not_mem (STB_CFG_ne_STAT k k) (STB_CFG_notMem_ledRegs k))]
    exact State.flag_setFlag_same _ _ _ _ (by decide) (by decide)
  · rw [hreport.fld hstat, State.strobeFaulted, State.fld_setFld_same _ _ _ _ (by decide)]
    exact Nat.mod_eq_of_lt hc
  · rw [hreport.flag hstat, State.strobeFaulted, State.flag, State.fld_setFld_field _ _ _ _ _ (by decide) (by decide)]
    exact State.flag_setFlag_same _ _ _ _ (by decide) (by decide)
  · rw [strobeFault_eq hen]
    have hpost (u : State) : RegsBut evtRegs u (u.post 0xFF0F 0xFF (k + cause * 256) 0) := (RegsBut.refl _ u).post (List.Subset.refl _)
    rw [(hpost _).flag (by decide)]
    exact State.flag_raise_same _ _ _ (by decide) (by decide)

theorem exec_strobeOvercurrent {v : Nat} (hk : k < 4) (hl : s.hasLight = true) :
    exec (.strobeOvercurrent ⟨k, v⟩) s = .next (if s.shuntLevel k 150 < v then s.strobeFault k 1 else s) :=
  (onStrobeEvent_next hk hl : execStrobeOvercurrent ⟨k, v⟩ s = _)

/-- The rise of a pulse has been judged. -/
def State.riseJudged (s : State) (k : Nat) : State := s.modSb k fun b => { b with judged := true }

theorem exec_strobeNorise {v : Nat} (hk : k < 4) (hl : s.hasLight = true) (hj : (s.sb k).judged = false) (hon : s.strobeOn k = true)
    (hdue : (s.sb k).since + ticksU 2500 ≤ s.time.mt) :
    exec (.strobeNorise ⟨k, v⟩) s = .next (if v < s.shuntLevel k 50 then (s.riseJudged k).strobeFault k 2 else s.riseJudged k) := by
  have hx : exec (.strobeNorise ⟨k, v⟩) s = execStrobeNorise ⟨k, v⟩ s := rfl
  rw [hx, execStrobeNorise, onStrobeEvent_next hk hl]
  simp only [hj, hon, hdue, Bool.not_false, decide_true, Bool.and_self, if_true]
  rfl

theorem exec_stbIsnCrossing {v : Nat} (hk : k < 4) (hl : s.hasLight = true) :
    exec (.stbIsnCrossing k v) s = .next
      (if !s.strobeOn k then s
       else if v < s.shuntLevel k (100 - s.hysteresis k) then s.modSb k fun b => { b with gate := true }
       else if s.shuntLevel k (100 + s.hysteresis k) < v then s.modSb k fun b => { b with gate := false }
       else s) := (onStrobeEvent_next hk hl : execStbIsnCrossing k v s = _)

end

/-! ### The statement -/

/-- Settles O39: a line is `State.lineStarted`, a frame begins with its block changed and then `State.swapBanks`, an edge of the chosen
polarity is `State.framePlaced`; a pulse and its end are changes of one strobe, and both faults are `State.strobeFault`. -/
theorem matrixAndStrobes : Obligations.MatrixAndStrobes := by
  refine ⟨?_, ?_, ?_, ?_, ?_, ?_, ?_, ?_, ?_, ?_, ?_, ?_, ?_, ?_, ?_, ?_, ?_, ?_, ?_⟩
  · intro s shorted hon hdue hsync hpend hearly
    have hx := exec_matrixLine (shorted := shorted) hon hdue (by rw [hsync]; exact Bool.or_true _) (by rw [swapBanks_of_none hpend, ite_self])
    have hlgt := lgt_lineStarted s shorted (s.flag R.LGT_CTL F.LGT_CTL_SYNC) hearly
    refine ⟨_, hx, only_matrixLine s shorted hx, ?_, ?_, noblank_lineStarted s shorted _, ?_, ?_⟩
    · rw [hlgt]
    · rw [hlgt]
      exact lineEnd_eq s
    · rw [hlgt]
      rfl
    · rw [hlgt]
      rfl
  · intro s shorted hon hdue hsync hframe hearly
    have hx := exec_matrixLine (shorted := shorted) hon hdue (by rw [hframe]; rfl) (by rw [hsync]; rfl)
    have hlgt := lgt_lineStarted s shorted (s.flag R.LGT_CTL F.LGT_CTL_SYNC) hearly
    refine ⟨_, hx, only_matrixLine s shorted hx, ?_, ?_, ?_, (regsBut_lineStarted s shorted _).fld (by decide) _⟩
    · rw [hlgt]
    · rw [hlgt, hsync, Bool.and_true]
    · rw [hlgt]
      rfl
  · intro s t0 hat hdue hon hsync hpend hgrant
    have hx := exec_lsyncFrameStart hat hdue hon hsync
    exact ⟨_, hx, ((keeps_execLsyncFrameStart (List.Subset.refl _) (Keeps.refl _ s)).next _ hx).only,
      swapBanks_effect (s := { s with lgt := s.lgt.frameBegun }) hpend hgrant⟩
  · intro s hl
    have hx := exec_swap hl
    obtain ⟨hactive, hpending⟩ := bank_lightSync (s.setFlag R.LGT_MTX_CTL F.LGT_MTX_CTL_PENDING true)
    refine ⟨_, hx, ((keeps_execSwap (List.Subset.refl _) (Keeps.refl _ s)).next _ hx).only, ?_, ?_⟩
    · rw [hpending, State.flag_setFlag_same _ _ _ _ (by decide) (by decide)]
    · rw [hactive, State.setFlag, State.fld_setFld_field _ _ _ _ _ (by decide) (by decide)]
  · intro s hpol hon hsync
    have hx := exec_lsyncEdge_chosen hpol hon hsync
    refine ⟨_, hx, ((keeps_execLsyncEdge (List.Subset.refl _) (Keeps.refl _ s)).next _ hx).only, ?_, ?_,
      (keeps_framePlaced s.lsyncTurned).part .pins rfl, (regsBut_framePlaced s.lsyncTurned)⟩
    · rw [lgt_framePlaced]
      rfl
    · rw [lgt_framePlaced]
      rfl
  · intro s hpol
    have hx := exec_lsyncEdge_other hpol
    exact ⟨_, hx, ((keeps_execLsyncEdge (List.Subset.refl _) (Keeps.refl _ s)).next _ hx).only, rfl⟩
  · intro s t0 hat hdue hon hsync hpend
    have hx := exec_lsyncFrameStart hat hdue hon hsync
    have hk := (keeps_execLsyncFrameStart (List.Subset.refl _) (Keeps.refl _ s)).next _ hx
    rw [swapBanks_of_none (s := { s with lgt := s.lgt.frameBegun }) hpend] at hx hk
    exact ⟨_, hx, hk.only, rfl, (RegsBut.refl _ s).withLgt⟩
  · intro s k v hk hl hoff hen hset hw
    exact strobeEnable_zero_effect hk hl hoff hen hset hw
  · intro s k v hk hl hp hr hu hidle
    have hx := exec_strobePulse hk hl hp
    rw [strobePulse_of_idle ((ready_setReg_CMD s k _).trans hr) ((up_setReg_CMD s k _ _).trans hu) (by exact hidle)] at hx
    exact strobePulse_effect hx
  · intro s k v hk hl hp hr hu hbusy
    have hx := exec_strobePulse hk hl hp
    rw [strobePulse_of_clash ((ready_setReg_CMD s k _).trans hr) ((up_setReg_CMD s k _ _).trans hu) (by exact hbusy)] at hx
    exact strobePulse_effect hx
  · intro s k v hk hl hp hr
    have hx := exec_strobePulse hk hl hp
    rw [strobePulse_of_unready ((ready_setReg_CMD s k _).trans hr)] at hx
    have hmiss := (regsBut_setReg s (R.LGT_STB_CMD k) (v &&& 0xFFFF)).fld (by simpa using STB_STAT_ne_CMD k k) F.LGT_STB_STAT_MISS
    refine ⟨_, hx, (keeps_State_satAdd (List.Subset.refl _) _ _ _ (keeps_State_setReg (List.Subset.refl _) _ _ (Keeps.refl _ s))).only,
      sb_of_strobe ((State.satAdd_strobe _ _ _ _).trans (State.setReg_strobe _ _ _)) k, ?_⟩
    rw [fld_satAdd_same _ _ _ _ (by decide), hmiss]
  · intro s k hk hl hon hdue
    have hx := exec_strobeCut hk hl hon hdue
    have hsame := State.satAdd_strobe (s.modSb k Strobe.stop) (R.LGT_STB_STAT k) F.LGT_STB_STAT_CUT 1
    refine ⟨_, hx, ((keeps_execStrobeCut (List.Subset.refl _) k (Keeps.refl _ s)).next _ hx).only,
      (sb_of_strobe hsame k).trans (State.sb_modSb_same s k _), ?_, (UnitsBut.refl State.sb k s).modSb.of_strobe hsame,
      (RegsBut.refl _ s).modSb.satAdd (List.mem_singleton_self _)⟩
    rw [fld_satAdd_same _ _ _ _ (by decide), State.fld_modSb]
  · intro s k v hk hl hen hv
    have hx := exec_strobeOvercurrent (v := v) hk hl
    have honly := ((keeps_execStrobeOvercurrent (List.Subset.refl _) ⟨k, v⟩ (Keeps.refl _ s)).next _ hx).only
    rw [if_pos hv] at hx honly
    exact ⟨_, hx, honly, strobeFault_effect hen (by decide)⟩
  · intro s k v hk hl hv
    exact ⟨s, by rw [exec_strobeOvercurrent hk hl, if_neg (Nat.not_lt.mpr hv)], Only.refl _ s, rfl⟩
  · intro s k v hk hl hv hj hen hon hdue
    have hx := exec_strobeNorise (v := v) hk hl hj hon hdue
    have honly := ((keeps_execStrobeNorise (List.Subset.refl _) ⟨k, v⟩ (Keeps.refl _ s)).next _ hx).only
    rw [if_pos hv] at hx honly
    obtain ⟨hoff, hsb, hcause, -, hisr, hunits⟩ := strobeFault_effect (s := s.riseJudged k) (cause := 2) hen (by decide)
    refine ⟨_, hx, honly, hoff, ?_, hcause, hisr, (UnitsBut.refl State.sb k s).modSb.trans hunits⟩
    rw [hsb, State.riseJudged, State.sb_modSb_same]
    rfl
  · intro s k v hk hl hv hj hon hdue
    have hx := exec_strobeNorise (v := v) hk hl hj hon hdue
    rw [if_neg (Nat.not_lt.mpr hv)] at hx
    exact modSb_effect hx
  · intro s k v hk hl hon hv
    have hx := exec_stbIsnCrossing (v := v) hk hl
    rw [if_neg (by rw [hon]; exact Bool.false_ne_true), if_pos hv] at hx
    exact modSb_effect hx
  · intro s k v hk hl hon hhigh hlow
    have hx := exec_stbIsnCrossing (v := v) hk hl
    rw [if_neg (by rw [hon]; exact Bool.false_ne_true), if_neg (Nat.not_lt.mpr hlow), if_pos hhigh] at hx
    exact modSb_effect hx
  · intro s k v hk hl hlow hhigh
    have hx := exec_stbIsnCrossing (v := v) hk hl
    rw [if_neg (Nat.not_lt.mpr hlow), if_neg (Nat.not_lt.mpr hhigh), ite_self] at hx
    exact ⟨s, hx, Only.refl _ s, rfl⟩

end Sys2Proof.Machine

/-! # FUNCTION_LEVEL_RESET and the bits of PCI_FWIRQ that are no field (O44) -/

namespace Sys2Proof.Machine

-- As above: the proofs of this part are elaborated one after another, which keeps the check within its memory.
set_option deprecated.oldSectionVars true

theorem exec_functionLevelReset (s : State) : exec .functionLevelReset s =
    .next (((s.bmeClear.resetDma keepRws).resetPci keepRws).raise R.PCI_ISR F.PCI_ISR_FLR) := rfl

/-- The reset state with bit 31 of PCI_FWIRQ set; the register's one field has 26 bits. -/
def fwirqBeyondField : State := State.reset.setReg R.PCI_FWIRQ 0x80000000

/-- A reset gives fields their reset values (R372) and leaves the other bits of a register. -/
theorem fwirq_functionLevelReset : (((fwirqBeyondField.bmeClear.resetDma keepRws).resetPci keepRws).raise
    R.PCI_ISR F.PCI_ISR_FLR).reg R.PCI_FWIRQ = 0x80000000 := by decide

/-- Refutes O44: its fourth clause has FUNCTION_LEVEL_RESET leave PCI_FWIRQ at its reset word from every state, but the reset acts on the
register's field, 26 bits wide. In `fwirqBeyondField` bit 31, which is no field, is set and stays. No write of the model sets such a bit, so
the fault is that the clause is about every state and speaks of the whole word. -/
theorem not_pcieLinkAndResets : ¬ Obligations.PcieLinkAndResets := by
  rintro ⟨-, -, -, hflr, -⟩
  obtain ⟨t, e, -, -, -, -, -, hreg, -⟩ := hflr fwirqBeyondField
  rw [exec_functionLevelReset] at e
  obtain rfl := Host.Outcome.next.inj e
  rw [fwirq_functionLevelReset] at hreg
  exact absurd hreg (by decide)

end Sys2Proof.Machine

/-! # A DMA channel's HEAD in a ring larger than its index field (O45) -/

namespace Sys2Proof.Machine

-- As above: the proofs of this part are elaborated one after another, which keeps the check within its memory.
set_option deprecated.oldSectionVars true

theorem exec_dmaDescriptorFetch_owned {s : State} {n : Nat} {host : ReadResult} {b : List Byte} (hn : n < 16) (hrun : s.dmaState n = 1)
    (hidle : (s.dc n).cur = none) (hnone : (s.dc n).ahead = [])
    (htail : s.dmaHead n % s.dmaSize n ≠ s.fld (R.DMA_CH_TAIL n) F.DMA_CH_TAIL_INDEX % s.dmaSize n)
    (hread : s.dmaRead n (s.dmaHead n % s.dmaSize n) host = some b) (hown : leAt b 0x14 2 % 2 = 1) :
    exec (.dmaDescriptorFetch n host) s = .next ((s.dmaTake n (s.dmaParse (s.dmaHead n % s.dmaSize n) b)).readEngine 128) := by
  have hx : exec (.dmaDescriptorFetch n host) s = execDmaDescriptorFetch n host s := rfl
  rw [hx, execDmaDescriptorFetch, onDma, onUnit_next hn (Nat.le_refl 16)]
  simp [hrun, hidle, hnone, htail, hread, hown]

/-- Bytes of a descriptor that the device owns: 4 bytes from 0x1000 to 0x2000 of device DRAM. -/
def ownedCopy : List Byte := leBytes 0x1000 8 ++ leBytes 0x2000 8 ++ leBytes 4 4 ++ leBytes 0x19 2 ++ zeros 10

/-- Channel 0 runs with a ring of 2^13 descriptors in host memory, HEAD at 4,095 and TAIL at 0; device DRAM is ready. -/
def dmaHeadAtFieldEnd : State :=
  let s := (State.reset.setReg (R.DMA_CH_STAT 0) 1).setFlag R.DDR_STAT F.DDR_STAT_READY true
  (s.setReg (R.DMA_CH_CFG 0) (withField F.DMA_CH_CFG_LOG2 0 13)).setReg (R.DMA_CH_HEAD 0) 4095

theorem dmaHeadAtFieldEnd_ring : dmaHeadAtFieldEnd.dmaHead 0 = 4095 ∧ dmaHeadAtFieldEnd.dmaSize 0 = 8192 ∧
    dmaHeadAtFieldEnd.fld (R.DMA_CH_TAIL 0) F.DMA_CH_TAIL_INDEX = 0 := by decide

theorem dmaHeadAtFieldEnd_idle : dmaHeadAtFieldEnd.dmaState 0 = 1 ∧ (dmaHeadAtFieldEnd.dc 0).cur = none ∧
    (dmaHeadAtFieldEnd.dc 0).ahead = [] := by decide

theorem ownedCopy_sound : leAt ownedCopy 0x14 2 % 2 = 1 ∧ dmaHeadAtFieldEnd.dmaRead 0 4095 (.data ownedCopy) = some ownedCopy ∧
    (dmaHeadAtFieldEnd.dmaParse 4095 ownedCopy).status = 0 := by decide

/-- There DMA_DESCRIPTOR_FETCH starts the descriptor and HEAD wraps to 0. -/
theorem dmaHead_dmaHeadAtFieldEnd :
    ((dmaHeadAtFieldEnd.dmaTake 0 (dmaHeadAtFieldEnd.dmaParse 4095 ownedCopy)).readEngine 128).dmaHead 0 = 0 := by decide

/-- Refutes O45: its third clause takes HEAD modulo the ring size of any LOG2 that the 4-bit field can hold, but HEAD has 12 bits, so it
is right only in a ring of at most 2^12 descriptors. In `dmaHeadAtFieldEnd` the descriptor at 4,095 of 2^13 starts and HEAD wraps to 0,
not to 4,096. A write of DMA_CH_CFG takes LOG2 from 4 to 12 only (R364), so the fault is the clause's missing bound and not the fetch. -/
theorem not_dmaChannels : ¬ Obligations.DmaChannels := by
  rintro ⟨-, -, hfetch, -⟩
  obtain ⟨hhead, hsize, htail⟩ := dmaHeadAtFieldEnd_ring
  obtain ⟨hrun, hidle, hnone⟩ := dmaHeadAtFieldEnd_idle
  obtain ⟨hown, hread, hsound⟩ := ownedCopy_sound
  have hi : dmaHeadAtFieldEnd.dmaHead 0 % dmaHeadAtFieldEnd.dmaSize 0 = 4095 := by rw [hhead, hsize]
  have hne : dmaHeadAtFieldEnd.dmaHead 0 % dmaHeadAtFieldEnd.dmaSize 0 ≠
      dmaHeadAtFieldEnd.fld (R.DMA_CH_TAIL 0) F.DMA_CH_TAIL_INDEX % dmaHeadAtFieldEnd.dmaSize 0 := by
    rw [hi, htail, Nat.zero_mod]
    decide
  rw [← hi] at hread hsound
  obtain ⟨t, e, -, -, hnext, -⟩ :=
    hfetch dmaHeadAtFieldEnd 0 (.data ownedCopy) ownedCopy (by decide) hrun hidle hnone hne hread hown hsound
  rw [exec_dmaDescriptorFetch_owned (by decide) hrun hidle hnone hne hread hown, hi] at e
  obtain rfl := Host.Outcome.next.inj e
  rw [dmaHead_dmaHeadAtFieldEnd, hi, hsize] at hnext
  exact absurd hnext (by decide)

end Sys2Proof.Machine

/-! # PWR_PAUSE_WRITE and the thermal request (O50) -/

namespace Sys2Proof.Machine

-- As above: the proofs of this part are elaborated one after another, which keeps the check within its memory.
set_option deprecated.oldSectionVars true

theorem exec_pwrPauseWrite_duty {v : Word} (h : field F.PWR_PAUSE_DUTY v ≠ 0) (s : State) :
    exec (.pwrPauseWrite v) s = .next (s.setReg R.PWR_PAUSE (v &&& 0xFFFFFF)).thermalSync.holdRise := by
  have hx : exec (.pwrPauseWrite v) s = execPwrPauseWrite v s := rfl
  rw [hx, execPwrPauseWrite, if_neg h]

/-- DUTY = 3 with MINHOLD = 2. -/
def longerMinhold : Word := 0x203

/-- A debt of 1,250 ticks with MINHOLD = 1: the thermal request is presented (R431). -/
def debtAtMinhold : State :=
  ((State.reset.setReg R.PWR_PAUSE 0x103).modGrp fun g => { g with debt := 1250 * 256 }).thermalSync

theorem debtAtMinhold_thermal : debtAtMinhold.pwr.thermal = true := by decide

/-- The larger MINHOLD takes the request back. -/
theorem thermal_longerMinhold :
    (debtAtMinhold.setReg R.PWR_PAUSE (longerMinhold &&& 0xFFFFFF)).thermalSync.holdRise.pwr.thermal = false := by decide

/-- Refutes O50: its last clause has PWR_PAUSE_WRITE with DUTY other than 0 change registers alone, but the request of R431 follows
MINHOLD, which the same write sets. In `debtAtMinhold` the request is presented; the write of a larger MINHOLD withdraws it. -/
theorem not_votesAndDeviceStates : ¬ Obligations.VotesAndDeviceStates := by
  rintro ⟨-, -, -, -, -, -, -, -, -, -, -, -, -, -, -, -, -, hpause⟩
  have hduty : field F.PWR_PAUSE_DUTY longerMinhold ≠ 0 := by decide
  obtain ⟨t, e, honly, -⟩ := hpause debtAtMinhold longerMinhold hduty
  rw [exec_pwrPauseWrite_duty hduty] at e
  obtain rfl := Host.Outcome.next.inj e
  have hpwr : _ = debtAtMinhold.pwr := honly .pwr (by decide)
  have hsame := congrArg (·.thermal) hpwr
  rw [thermal_longerMinhold, debtAtMinhold_thermal] at hsame
  exact absurd hsame (by decide)

end Sys2Proof.Machine

/-! # BAR2, the MSI-X mask and FWIRQ (O43) -/

namespace Sys2Proof.Machine

-- As above: the proofs of this part are elaborated one after another, which keeps the check within its memory.
set_option deprecated.oldSectionVars true

/-! ### Device DRAM under a write of any length (R380, R385) -/

theorem mem_of_tabGet_true {m : Tab Bool} {k : Nat} (h : tabGet (fun _ => false) m k = true) : (k, true) ∈ m := by
  induction m with
  | nil => exact absurd h Bool.false_ne_true
  | cons e m ih =>
    obtain ⟨j, v⟩ := e
    rw [tabGet] at h
    split at h
    · next hj => rw [hj, h]; exact List.mem_cons_self
    · exact List.mem_cons_of_mem _ (ih h)

/-- No line that a range touches is marked uncorrectable. -/
def State.SoundAt (s : State) (off n : Nat) : Prop := ∀ i < n, tabGet (fun _ => false) s.ddr.poisoned ((off + i) / 64) = false

theorem soundAt_of_rangePoisoned {s : State} {off n : Nat} (h : s.rangePoisoned off n = false) : s.SoundAt off n := fun i hi =>
  Bool.eq_false_iff.mpr fun htrue => Bool.false_ne_true (h.symm.trans (List.any_eq_true.mpr ⟨_, mem_of_tabGet_true htrue,
    by simp only [Bool.true_and, Bool.and_eq_true, decide_eq_true_eq]; omega⟩))

theorem State.SoundAt.part {s : State} {off n : Nat} (h : s.SoundAt off n) {o m : Nat} (hm : o + m ≤ n) : s.SoundAt (off + o) m :=
  fun i hi => by rw [Nat.add_assoc]; exact h (o + i) (by omega)

/-- A write marks no line. -/
theorem State.SoundAt.writeDram {s : State} {off n : Nat} (h : s.SoundAt off n) (a : Nat) (bs : List Byte) :
    (s.writeDram a bs).SoundAt off n := fun i hi => by
  unfold State.writeDram
  split
  · exact (tabGet_soundLines _ _ _ _).trans (by rw [h i hi, ite_self])
  · exact h i hi

/-- Bytes written in the populated DRAM to sound lines read back. -/
theorem readDram_writeDram_of_sound {s : State} {off : Nat} {bs : List Byte} (hok : s.dramOk off bs.length = true)
    (hs : s.SoundAt off bs.length) : (s.writeDram off bs).readDram off bs.length = bs := by
  rw [State.writeDram, if_pos hok]
  refine List.ext_getElem (by rw [State.readDram, List.length_map, List.length_range]) fun i _ hi => ?_
  simp only [State.readDram, List.getElem_map, List.getElem_range]
  exact tabGet_storeSound _ bs s.dram (fun j hj => by rw [tabGet_soundLines, hs j hj, ite_self]) hi

/-! ### A bit of a number replaced -/

theorem putBit_succ (x k : Nat) (v : Bool) : putBit x (k + 1) v = 2 * putBit (x / 2) k v + x % 2 := by
  have hbit : bitAt x (k + 1) = bitAt (x / 2) k := by rw [bitAt_eq_testBit, bitAt_eq_testBit, Nat.testBit_succ]
  have hpow : 2 ^ (k + 1) = 2 * 2 ^ k := by rw [Nat.pow_succ, Nat.mul_comm]
  unfold putBit
  rw [hbit, hpow]
  by_cases hb : bitAt (x / 2) k = true
  · have hge : 2 ^ k ≤ x / 2 := Nat.ge_two_pow_of_testBit (by rwa [← bitAt_eq_testBit])
    cases v <;> simp only [hb, if_true, Bool.false_eq_true, if_false] <;> omega
  · cases v <;> simp only [hb, Bool.false_eq_true, if_true, if_false] <;> omega

theorem testBit_putBit (k : Nat) (v : Bool) (x j : Nat) : (putBit x k v).testBit j = if j = k then v else x.testBit j := by
  induction k generalizing x j with
  | zero =>
    have hx : putBit x 0 v = 2 * (x / 2) + v.toNat := by
      unfold putBit bitAt
      cases v <;> simp only [Nat.shiftRight_zero, Nat.pow_zero, Bool.false_eq_true, if_true, if_false, Bool.toNat, cond,
        decide_eq_true_eq] <;> split <;> omega
    cases j with
    | zero => rw [hx, Nat.testBit_zero]; cases v <;> simp
    | succ j =>
      have hhalf : (2 * (x / 2) + v.toNat) / 2 = x / 2 := by have := Bool.toNat_lt v; omega
      rw [hx, Nat.testBit_succ, hhalf, Nat.testBit_succ, if_neg (by omega)]
  | succ k ih =>
    have hhalf : (2 * putBit (x / 2) k v + x % 2) / 2 = putBit (x / 2) k v := by omega
    cases j with
    | zero => simp [putBit_succ, Nat.testBit_zero]
    | succ j => rw [putBit_succ, Nat.testBit_succ, hhalf, ih, Nat.testBit_succ]; simp only [Nat.add_right_cancel_iff]

theorem bitAt_putBit_same (x k : Nat) (v : Bool) : bitAt (putBit x k v) k = v := by
  rw [bitAt_eq_testBit, testBit_putBit, if_pos rfl]

theorem bitAt_putBit_ne {x k j : Nat} (v : Bool) (h : j ≠ k) : bitAt (putBit x k v) j = bitAt x j := by
  rw [bitAt_eq_testBit, testBit_putBit, if_neg h, bitAt_eq_testBit]

/-- A word with bit 0 cleared. -/
theorem ofNat_putBit_zero_false (w : Word) : BitVec.ofNat 32 (putBit w.toNat 0 false) = w &&& 0xFFFFFFFE := by
  have hmask : ∀ i < 32, (0xFFFFFFFE : Word).getLsbD i = !decide (i = 0) := by decide
  refine BitVec.eq_of_getLsbD_eq fun i hi => ?_
  rw [BitVec.getLsbD_ofNat, testBit_putBit, BitVec.getLsbD_and, hmask i hi, BitVec.testBit_toNat]
  by_cases h0 : i = 0 <;> simp [h0, hi]

/-! ### BAR2 (R353, R354) -/

section
variable {s : State} {off len : Nat} {bytes : List Byte} {p : Bool}

theorem exec_bar2Read_sound (hl : off + len ≤ 2 ^ 36) (hok : s.dramOk (s.bar2Dram off) len = true)
    (hs : s.rangePoisoned (s.bar2Dram off) len = false) :
    exec (.bar2Read off len) s = .next (s.emit (.bar2 (s.readDram (s.bar2Dram off) len) false)) := by
  have hx : exec (.bar2Read off len) s = execBar2Read off len s := rfl
  rw [hx, execBar2Read, onBar2, if_pos hl]
  simp [hok, hs]

theorem exec_bar2Read_marked (hl : off + len ≤ 2 ^ 36) (hok : s.dramOk (s.bar2Dram off) len = true)
    (hs : s.rangePoisoned (s.bar2Dram off) len = true) : exec (.bar2Read off len) s =
    .next ((s.raise R.PCI_ISR F.PCI_ISR_POISON).emit (.bar2 (s.readDram (s.bar2Dram off) len) true)) := by
  have hx : exec (.bar2Read off len) s = execBar2Read off len s := rfl
  rw [hx, execBar2Read, onBar2, if_pos hl]
  simp [hok, hs]

theorem exec_bar2Read_beyond (hl : off + len ≤ 2 ^ 36) (hok : s.dramOk (s.bar2Dram off) len = false) : exec (.bar2Read off len) s =
    .next ((s.bar2Miss (s.bar2Dram off)).emit (.bar2 (List.replicate len 0xFF) false)) := by
  have hx : exec (.bar2Read off len) s = execBar2Read off len s := rfl
  rw [hx, execBar2Read, onBar2, if_pos hl]
  simp [hok]

theorem exec_bar2Write (hl : off + bytes.length ≤ 2 ^ 36) : exec (.bar2Write off bytes p) s =
    .next (if !s.dramOk (s.bar2Dram off) bytes.length then s.bar2Miss (s.bar2Dram off)
      else if p then s.raise R.PCI_ISR F.PCI_ISR_POISON else s.writeDram (s.bar2Dram off) bytes) := by
  have hx : exec (.bar2Write off bytes p) s = execBar2Write off bytes p s := rfl
  rw [hx, execBar2Write, onBar2, if_pos hl]

end

theorem regsBut_bar2Miss (s : State) (a : Nat) : RegsBut [R.PCI_ISR, R.PCI_BAR2ERR_ADDR] s (s.bar2Miss a) :=
  ((RegsBut.refl _ s).setFld (by decide)).raise (by decide)

theorem line_bar2Miss (s : State) (a : Nat) : (s.bar2Miss a).fld R.PCI_BAR2ERR_ADDR F.PCI_BAR2ERR_ADDR_LINE =
    a / 64 % 2 ^ F.PCI_BAR2ERR_ADDR_LINE.width := by
  rw [State.bar2Miss, (State.regsBut_raise _ _ _).fld (by decide), State.fld_setFld_same _ _ _ _ (by decide)]

/-- Beyond the populated DRAM: BAR2ERR with the line, and the answer (R354). -/
theorem bar2Miss_effect (s : State) (a : Nat) (o : Out) :
    Only [.regs, .pci, .out] s ((s.bar2Miss a).emit o) ∧ ((s.bar2Miss a).emit o).out.head? = some o ∧
    ((s.bar2Miss a).emit o).flag R.PCI_ISR F.PCI_ISR_BAR2ERR = true ∧
    ((s.bar2Miss a).emit o).fld R.PCI_BAR2ERR_ADDR F.PCI_BAR2ERR_ADDR_LINE = a / 64 % 2 ^ F.PCI_BAR2ERR_ADDR_LINE.width ∧
    RegsBut [R.PCI_ISR, R.PCI_BAR2ERR_ADDR] s ((s.bar2Miss a).emit o) :=
  ⟨(keeps_State_emit (by decide) o (keeps_State_bar2Miss (by decide) a (Keeps.refl _ s))).only, rfl,
    State.flag_raise_same _ R.PCI_ISR _ (by decide) (by decide), line_bar2Miss s a, (regsBut_bar2Miss s a).of_regs rfl⟩

/-! ### Unmasking (R357) -/

section
variable {s : State} {v : Nat}

theorem exec_msixUnmask_function (s : State) : exec (.msixUnmask none) s =
    .next (irqRows.foldl State.unmaskRow { s with pci := { s.pci with funcMask := false } }) := rfl

theorem exec_msixUnmask_vector (hv : v < 64) : exec (.msixUnmask (some v)) s =
    .next ((irqRows.filter fun r => decide (r.vec = v)).foldl State.unmaskRow (s.setBit (msixCtl v) 0 false)) :=
  if_pos hv

/-- A row sends a message and clears a pending bit: it leaves the registers and the function mask. -/
theorem unmaskRow_frame (s : State) (r : IrqRow) : (s.unmaskRow r).regs = s.regs ∧ (s.unmaskRow r).pci.funcMask = s.pci.funcMask := by
  unfold State.unmaskRow
  split <;> exact ⟨rfl, rfl⟩

theorem regs_unmaskRows (l : List IrqRow) (s : State) : (l.foldl State.unmaskRow s).regs = s.regs :=
  foldl_unchanged State.regs (fun r _ u => (unmaskRow_frame u r).1) s

theorem funcMask_unmaskRows (l : List IrqRow) (s : State) : (l.foldl State.unmaskRow s).pci.funcMask = s.pci.funcMask :=
  foldl_unchanged (fun u => u.pci.funcMask) (fun r _ u => (unmaskRow_frame u r).2) s

theorem reg_unmaskRows (l : List IrqRow) (s : State) (a : Nat) : (l.foldl State.unmaskRow s).reg a = s.reg a := by
  simp only [State.reg, regs_unmaskRows]

/-- The control word of a vector with its mask bit cleared. -/
theorem reg_unmasked (s : State) (l : List IrqRow) (v : Nat) :
    (l.foldl State.unmaskRow (s.setBit (msixCtl v) 0 false)).reg (msixCtl v) = s.reg (msixCtl v) &&& 0xFFFFFFFE := by
  rw [reg_unmaskRows, State.setBit, State.reg_setReg_same, ofNat_putBit_zero_false]

theorem regsBut_unmasked (s : State) (l : List IrqRow) (v : Nat) :
    RegsBut [msixCtl v] s (l.foldl State.unmaskRow (s.setBit (msixCtl v) 0 false)) :=
  ((RegsBut.refl _ s).setReg (List.mem_singleton_self _)).of_regs (regs_unmaskRows l _)

theorem vecMasked_setBit (s : State) (v : Nat) : (s.setBit (msixCtl v) 0 false).vecMasked v = s.pci.funcMask := by
  rw [State.vecMasked, State.bit, State.setBit_pci, State.setBit, State.reg_setReg_same, bitAt_eq_testBit, BitVec.testBit_toNat,
    BitVec.getLsbD_ofNat, testBit_putBit, if_pos rfl, Bool.and_false, Bool.or_false]

theorem vecMasked_unmaskRows (l : List IrqRow) (s : State) (v : Nat) : (l.foldl State.unmaskRow s).vecMasked v = s.vecMasked v := by
  rw [State.vecMasked, State.vecMasked, State.bit, State.bit, reg_unmaskRows, funcMask_unmaskRows]

/-! ### FWIRQ (R358) -/

/-- The row of a FWIRQ bit. -/
def fwirqRow (b : Nat) : IrqRow := ⟨R.PCI_FWIRQ, none, 38 + b, 2 ^ b⟩

theorem rows_fwirq : ∀ b < 26, (irqRows.filter fun r => decide (r.vec = 38 + b)) = [fwirqRow b] := by decide

theorem irqCond_fwirqRow {b : Nat} (h : s.bit R.PCI_FWIRQ b = true) : s.irqCond (fwirqRow b) = true := by
  have hword : (s.reg R.PCI_FWIRQ).toNat &&& 0xFFFFFFFF = (s.reg R.PCI_FWIRQ).toNat := by
    rw [show 0xFFFFFFFF = 2 ^ 32 - 1 from rfl, Nat.and_two_pow_sub_one_eq_mod, Nat.mod_eq_of_lt (s.reg R.PCI_FWIRQ).isLt]
  rw [State.bit, bitAt_eq_testBit] at h
  unfold State.irqCond fwirqRow
  dsimp only
  rw [hword, Nat.and_two_pow, h]
  simp

theorem exec_fwirqSet (s : State) (w : Word) : exec (.fwirqSet w) s =
    .next (irqWritten (irqRowsOf R.PCI_FWIRQ) (s.setReg R.PCI_FWIRQ (s.reg R.PCI_FWIRQ ||| (w &&& 0x3FFFFFF)))) := rfl

theorem exec_fwirqClear (s : State) (w : Word) : exec (.fwirqClear w) s =
    .next (irqWritten (irqRowsOf R.PCI_FWIRQ) (s.setReg R.PCI_FWIRQ (s.reg R.PCI_FWIRQ &&& ~~~w))) := rfl

/-- A write of FWIRQ takes its value; the messages that follow leave the registers. -/
theorem fwirqWritten_effect (s : State) (w : Word) :
    (irqWritten (irqRowsOf R.PCI_FWIRQ) (s.setReg R.PCI_FWIRQ w)).reg R.PCI_FWIRQ = w ∧
    RegsBut [R.PCI_FWIRQ] s (irqWritten (irqRowsOf R.PCI_FWIRQ) (s.setReg R.PCI_FWIRQ w)) :=
  ⟨by rw [irqWritten_reg, State.reg_setReg_same],
    fun a ha => (irqWritten_reg _ _ a).trans (regsBut_setReg s R.PCI_FWIRQ w a ha)⟩

/-- A pending FWIRQ message is sent when its vector's mask goes. -/
theorem unmask_fwirq {b : Nat} (hb : b < 26) (hf : s.pci.funcMask = false) (hp : bitAt s.pci.pba (38 + b) = true)
    (hc : s.bit R.PCI_FWIRQ b = true) : (irqRows.filter fun r => decide (r.vec = 38 + b)).foldl State.unmaskRow
      (s.setBit (msixCtl (38 + b)) 0 false) = ((s.setBit (msixCtl (38 + b)) 0 false).clearVec (38 + b)).emit (.msix (38 + b)) := by
  have hne : R.PCI_FWIRQ ≠ msixCtl (38 + b) := by unfold R.PCI_FWIRQ msixCtl; omega
  have hbit : (s.setBit (msixCtl (38 + b)) 0 false).bit R.PCI_FWIRQ b = true := by
    rw [State.bit, State.setBit, State.reg_setReg_ne _ _ _ _ hne]
    exact hc
  have hunmasked : (s.setBit (msixCtl (38 + b)) 0 false).vecMasked (fwirqRow b).vec = false := (vecMasked_setBit s (38 + b)).trans hf
  have hpending : bitAt (s.setBit (msixCtl (38 + b)) 0 false).pci.pba (fwirqRow b).vec = true := hp
  rw [rows_fwirq b hb, List.foldl_cons, List.foldl_nil, State.unmaskRow,
    if_pos (by rw [hpending, hunmasked, irqCond_fwirqRow hbit]; rfl)]
  rfl

end

/-! ### The statement -/

/-- Settles O43: an access to BAR2 is its answer, `State.bar2Miss` or a write of device DRAM, by where it goes; an unmasked vector sends
what its rows hold pending, and no row writes a register. -/
theorem bar2AndMsix : Obligations.Bar2AndMsix := by
  refine ⟨?_, ?_, ?_, ?_, ?_, ?_, ?_, ?_, ?_, ?_, ?_, ?_⟩
  · intro s off len hl hok hs
    exact ⟨_, exec_bar2Read_sound hl hok hs, (keeps_State_emit (List.Subset.refl _) _ (Keeps.refl _ s)).only, rfl⟩
  · intro s off len hl hok
    exact ⟨_, exec_bar2Read_beyond hl hok, bar2Miss_effect s _ _⟩
  · intro s off len hl hok hs
    exact ⟨_, exec_bar2Read_marked hl hok hs,
      (keeps_State_emit (by decide) _ (keeps_State_raise (by decide) _ _ (Keeps.refl _ s))).only, rfl,
      State.flag_raise_same _ _ _ (by decide) (by decide), (State.regsBut_raise _ _ _).of_regs rfl⟩
  · intro s off bytes p hl hp hok hs
    refine ⟨s.writeDram (s.bar2Dram off) bytes, ?_, (keeps_State_writeDram (List.Subset.refl _) _ _ (Keeps.refl _ s)).only,
      readDram_writeDram_of_sound hok (soundAt_of_rangePoisoned hs), sameDramBut_writeDram s _ _⟩
    rw [exec_bar2Write hl, hok, hp]
    rfl
  · intro s off bytes p hl hp hok
    refine ⟨s.raise R.PCI_ISR F.PCI_ISR_POISON, ?_, State.only_raise _ _ _, State.flag_raise_same _ _ _ (by decide) (by decide),
      dramByte_of_dram (State.raise_dram _ _ _), State.regsBut_raise _ _ _⟩
    rw [exec_bar2Write hl, hok, hp]
    rfl
  · intro s off bytes p hl hok
    exact next_of_keeps (keeps_execBar2Write (List.Subset.refl _) off bytes p (Keeps.refl _ s))
      ((exec_bar2Write hl).trans (by rw [hok]; rfl))
  · intro s vector hv
    subst hv
    exact ⟨_, exec_msixUnmask_function s,
      ((keeps_execMsixUnmask (List.Subset.refl _) none (Keeps.refl _ s)).next _ (exec_msixUnmask_function s)).only, rfl,
      funcMask_unmaskRows _ _⟩
  · intro s vector hlt hsome
    obtain ⟨v, rfl⟩ := Option.isSome_iff_exists.mp hsome
    have hv : v < 64 := of_decide_eq_true hlt
    refine ⟨_, exec_msixUnmask_vector hv,
      ((keeps_execMsixUnmask (List.Subset.refl _) (some v) (Keeps.refl _ s)).next _ (exec_msixUnmask_vector hv)).only, ?_⟩
    simp only [Option.some.injEq, Option.getD_some]
  · intro s v hv
    refine ⟨_, exec_msixUnmask_vector hv,
      ((keeps_execMsixUnmask (List.Subset.refl _) (some v) (Keeps.refl _ s)).next _ (exec_msixUnmask_vector hv)).only, fun hf => ?_,
      regsBut_unmasked s _ v, reg_unmasked s _ v⟩
    rw [vecMasked_unmaskRows, vecMasked_setBit, hf]
  · intro s b hb hf hp hc
    have hx := exec_msixUnmask_vector (s := s) (v := 38 + b) (by omega)
    refine ⟨_, hx, ((keeps_execMsixUnmask (List.Subset.refl _) (some (38 + b)) (Keeps.refl _ s)).next _ hx).only, ?_, ?_,
      regsBut_unmasked s _ _⟩
    · rw [unmask_fwirq hb hf hp hc]; rfl
    · rw [unmask_fwirq hb hf hp hc]; exact bitAt_putBit_same s.pci.pba (38 + b) false
  · intro s w
    exact ⟨_, exec_fwirqSet s w, ((keeps_execFwirqSet (List.Subset.refl _) w (Keeps.refl _ s)).next _ (exec_fwirqSet s w)).only,
      fwirqWritten_effect s _⟩
  · intro s w
    exact ⟨_, exec_fwirqClear s w, ((keeps_execFwirqClear (List.Subset.refl _) w (Keeps.refl _ s)).next _ (exec_fwirqClear s w)).only,
      fwirqWritten_effect s _⟩

end Sys2Proof.Machine

/-! # Ethernet ports (O46) -/

namespace Sys2Proof.Machine

-- As above: the proofs of this part are elaborated one after another, which keeps the check within its memory.
set_option deprecated.oldSectionVars true

/-! ### Bits of a status register, and what has been sent -/

theorem bit_raiseBit_same (s : State) (a : Nat) {b : Nat} (hb : b < 32) : (s.raiseBit a b).bit a b = true := by
  have hm : (fieldMask ⟨b, 1⟩).testBit b = true := by simp [fieldMask, Nat.testBit_shiftLeft]
  rw [State.bit, State.raiseBit, State.reg_raise, if_pos rfl, bitAt_eq_testBit, BitVec.toNat_or, Nat.testBit_or, BitVec.toNat_ofNat,
    Nat.testBit_mod_two_pow, hm]
  simp [hb]

/-- A status bit that is set stays set when a flag is raised. -/
theorem bit_raise_mono {s : State} {a b : Nat} (h : s.bit a b = true) (c : Nat) (f : Field) : (s.raise c f).bit a b = true := by
  by_cases hc : a = c
  · subst hc
    rw [State.bit, bitAt_eq_testBit] at h
    rw [State.bit, State.reg_raise, if_pos rfl, bitAt_eq_testBit, BitVec.toNat_or, Nat.testBit_or, h, Bool.true_or]
  · rw [State.bit, State.reg_raise_ne _ _ _ _ hc]
    exact h

theorem mem_out_irqChanged {o : Out} (old : State) (l : List IrqRow) {s : State} (h : o ∈ s.out) : o ∈ (irqChanged old l s).out := by
  induction l generalizing s with
  | nil => exact h
  | cons r l ih =>
    have hsend : o ∈ (s.sendVec r.vec).out := by
      unfold State.sendVec
      split
      · exact h
      · exact List.mem_cons_of_mem _ h
    refine ih ?_
    split
    · split
      · exact h
      · exact hsend
    · exact h

theorem mem_out_raise {o : Out} {s : State} (h : o ∈ s.out) (a : Nat) (f : Field) : o ∈ (s.raise a f).out :=
  mem_out_irqChanged _ _ h

/-! ### Parts of bytes read from device DRAM -/

theorem length_readDram (s : State) (a n : Nat) : (s.readDram a n).length = n := by rw [State.readDram, List.length_map, List.length_range]

theorem getElem_readDram (s : State) (a n : Nat) {i : Nat} (h : i < (s.readDram a n).length) : (s.readDram a n)[i] = s.dramByte (a + i) := by
  simp only [State.readDram, List.getElem_map, List.getElem_range]

theorem readDram_congr {s t : State} {a n : Nat} (h : ∀ i < n, t.dramByte (a + i) = s.dramByte (a + i)) : t.readDram a n = s.readDram a n :=
  List.map_congr_left fun i hi => h i (List.mem_range.mp hi)

/-- A number in bytes read is the same number in a part of them. -/
theorem leAt_readDram (s : State) {a n o m i k : Nat} (hn : o + i + k ≤ n) (hm : i + k ≤ m) :
    leAt (s.readDram a n) (o + i) k = leAt (s.readDram (a + o) m) i k := by
  refine congrArg leNat (List.ext_getElem ?_ fun j _ _ => ?_)
  · simp only [List.length_take, List.length_drop, length_readDram]
    omega
  · simp only [List.getElem_take, List.getElem_drop, getElem_readDram]
    rw [Nat.add_assoc a o, Nat.add_assoc o i]

theorem writeDram_regs (s : State) (a : Nat) (bs : List Byte) : (s.writeDram a bs).regs = s.regs :=
  (keeps_State_writeDram (List.Subset.refl _) a bs (Keeps.refl _ s)).part .regs rfl

theorem writeDram_variant (s : State) (a : Nat) (bs : List Byte) : (s.writeDram a bs).variant = s.variant :=
  (keeps_State_writeDram (List.Subset.refl _) a bs (Keeps.refl _ s)).part .variant rfl

theorem reg_writeDram (s : State) (a : Nat) (bs : List Byte) (b : Nat) : (s.writeDram a bs).reg b = s.reg b := by
  simp only [State.reg, writeDram_regs]

theorem dramOk_writeDram (s : State) (a : Nat) (bs : List Byte) (off n : Nat) : (s.writeDram a bs).dramOk off n = s.dramOk off n :=
  dramOk_congr (writeDram_variant s a bs) (reg_writeDram s a bs _) (reg_writeDram s a bs _) off n

/-! ### A port's registers and rings (R361, R375) -/

section
variable {s t : State} {e : Nat}

theorem ethOn_of_reg (h : t.reg (R.ETH_PT_CFG e) = s.reg (R.ETH_PT_CFG e)) : t.ethOn e = s.ethOn e := flag_of_reg h _

theorem ethLink_of_reg (h : t.reg (R.ETH_PT_STAT e) = s.reg (R.ETH_PT_STAT e)) : t.ethLink e = s.ethLink e := flag_of_reg h _

theorem regsBut_ethFlag (s : State) (e b : Nat) : RegsBut [R.ETH_ISR] s (s.ethFlag e b) := State.regsBut_raise s _ _

theorem dram_ethFlag (s : State) (e b : Nat) : (s.ethFlag e b).dram = s.dram := State.raise_dram s _ _

theorem RegsBut.modEt {l : List Nat} {m : Nat} {f : EthPort → EthPort} (h : RegsBut l s t) : RegsBut l s (t.modEt m f) := h.of_regs rfl

theorem lt_two_of_ethPorts (h : e < s.ethPorts) : e < 2 := Nat.lt_of_lt_of_le h (ethPorts_le s)

/-- The registers of a port that release of its transmit descriptors writes. -/
def txRegs (e : Nat) : List Nat := [R.ETH_PT_TXHEAD e, R.ETH_ISR]

/-- What releasing transmit descriptors does beside its writes of DRAM: HEAD and flags alone move, no flag is lost, nothing sent is. -/
structure TxReleased (e : Nat) (s t : State) : Prop where
  regs : RegsBut (txRegs e) s t
  flags : ∀ b, s.bit R.ETH_ISR b = true → t.bit R.ETH_ISR b = true
  sent : ∀ o ∈ s.out, o ∈ t.out

theorem TxReleased.refl (e : Nat) (s : State) : TxReleased e s s := ⟨RegsBut.refl _ s, fun _ h => h, fun _ h => h⟩

theorem TxReleased.trans {u : State} (h : TxReleased e s t) (k : TxReleased e t u) : TxReleased e s u :=
  ⟨h.regs.trans k.regs, fun b hb => k.flags b (h.flags b hb), fun o ho => k.sent o (h.sent o ho)⟩

theorem bit_of_reg {a : Nat} (h : t.reg a = s.reg a) (b : Nat) : t.bit a b = s.bit a b := by rw [State.bit, h, State.bit]

/-- The transmit descriptor at HEAD written back, and HEAD moved on. -/
def State.txMoved (s : State) (e : Nat) (d : List Byte) (status : Nat) (t : Stamp) : State :=
  let s := s.writeDram (s.txDesc e (s.txHead e) + 6) (ethRelease (leAt d 6 2) status 0 t)
  s.setFld (R.ETH_PT_TXHEAD e) F.ETH_PT_TXHEAD_INDEX ((s.txHead e + 1) % s.txSize e)

theorem txRelease_eq (s : State) (e : Nat) (d : List Byte) (status : Nat) (t : Stamp) : s.txRelease e d status t =
    if bitAt (leAt d 6 2) 1 then (s.txMoved e d status t).ethFlag e 0 else s.txMoved e d status t := rfl

theorem txReleased_txMoved (s : State) (e : Nat) (d : List Byte) (status : Nat) (t : Stamp) : TxReleased e s (s.txMoved e d status t) := by
  have hregs : RegsBut (txRegs e) s (s.txMoved e d status t) := RegsBut.setFld (RegsBut.writeDram (RegsBut.refl _ s)) (by simp [txRegs])
  refine ⟨hregs, fun b hb => ?_, fun o ho => ?_⟩
  · have hne : R.ETH_ISR ≠ R.ETH_PT_TXHEAD e := by unfold R.ETH_ISR R.ETH_PT_TXHEAD; omega
    have hreg : (s.txMoved e d status t).reg R.ETH_ISR = s.reg R.ETH_ISR :=
      (State.reg_setReg_ne _ _ _ _ hne).trans (reg_writeDram s _ _ _)
    rwa [bit_of_reg hreg]
  · have hout : (s.txMoved e d status t).out = s.out :=
      (keeps_State_writeDram (List.Subset.refl _) _ _ (Keeps.refl _ s)).part .out rfl
    rwa [hout]

theorem txReleased_txRelease (s : State) (e : Nat) (d : List Byte) (status : Nat) (t : Stamp) :
    TxReleased e s (s.txRelease e d status t) := by
  have hmoved := txReleased_txMoved s e d status t
  rw [txRelease_eq]
  split
  · exact hmoved.trans ⟨(RegsBut.refl _ _).raise (by simp [txRegs]), fun b hb => bit_raise_mono hb _ _, fun o ho => mem_out_raise ho _ _⟩
  · exact hmoved

theorem bit_txRelease {d : List Byte} (hirq : bitAt (leAt d 6 2) 1 = true) (he : 8 * e < 32) (status : Nat) (t : Stamp) :
    (s.txRelease e d status t).bit R.ETH_ISR (8 * e) = true := by
  rw [txRelease_eq, if_pos hirq]
  exact bit_raiseBit_same _ _ he

theorem txReleased_txSkip (e fuel : Nat) (s : State) : TxReleased e s (State.txSkip e fuel s) := by
  induction fuel generalizing s with
  | zero => exact TxReleased.refl e s
  | succ fuel ih =>
    rw [State.txSkip]
    split
    · exact TxReleased.refl e s
    · split
      · split
        · exact TxReleased.refl e s
        · exact (txReleased_txRelease s e _ _ _).trans (ih _)
      · exact TxReleased.refl e s

theorem txReleased_txClean (e : Nat) (s : State) : TxReleased e s (s.txClean e) := txReleased_txSkip e _ s

/-- Nothing is released while a descriptor at HEAD can be sent. -/
theorem txClean_of_sendable {d : List Byte} (ho : s.txOwned e = some d) (hb : s.txBad e d = 0) : s.txClean e = s := by
  unfold State.txClean
  cases s.txOffered e with
  | zero => rfl
  | succ n => rw [State.txSkip, ho]; simp [hb]

theorem txClean_of_off (h : s.ethOn e = false) : s.txClean e = s := by
  unfold State.txClean
  cases s.txOffered e with
  | zero => rfl
  | succ n => rw [State.txSkip]; simp [h]

theorem keeps_txClean (s : State) (e : Nat) : Keeps [.regs, .dram, .pci, .ddr, .out] s (s.txClean e) :=
  keeps_State_txClean (List.Subset.refl _) e (Keeps.refl _ s)

/-! ### Configuration and doorbells -/

/-- A port's pause ends, and its link goes. -/
def State.ethUnlinked (s : State) (e : Nat) : State := (s.modEt e fun p => { p with pauseUntil := 0 }).setLink e false

theorem exec_ethPortEnable (he : e < s.ethPorts) (v : Word) : exec (.ethPortEnable e v) s = .next
    (if (s.storeEthCfg e v).ethOn e then s.storeEthCfg e v
     else (s.storeEthCfg e v).ethUnlinked e) :=
  (onUnitWrite_next he (ethPorts_le s) : execEthPortEnable e v s = _)

/-- EN of the word that a write of ETH_PT_CFG leaves. -/
theorem field_EN_storeEthCfg (s : State) (e : Nat) (v : Word) :
    (s.storeEthCfg e v).fld (R.ETH_PT_CFG e) F.ETH_PT_CFG_EN = field F.ETH_PT_CFG_EN v := by
  have hand : field F.ETH_PT_CFG_EN (v &&& 0xFF) = field F.ETH_PT_CFG_EN v := field_and (k := 1) (by decide) (by decide)
  have hne : R.ETH_PT_CFG e ≠ R.ETH_ISR := by unfold R.ETH_ISR R.ETH_PT_CFG; omega
  unfold State.storeEthCfg
  dsimp only
  split
  · rw [State.ethFlag, State.raiseBit, State.fld, State.reg_raise_ne _ _ _ _ hne, State.reg_setReg_same,
      field_withField_ne _ _ _ _ (by decide) (by decide), hand]
  · rw [State.fld, State.reg_setReg_same, hand]

theorem ethOn_storeEthCfg (s : State) (e : Nat) (v : Word) : (s.storeEthCfg e v).ethOn e = decide (field F.ETH_PT_CFG_EN v ≠ 0) := by
  rw [State.ethOn, State.flag, field_EN_storeEthCfg]

theorem regsBut_storeEthCfg (s : State) (e : Nat) (v : Word) : RegsBut [R.ETH_PT_CFG e, R.ETH_PT_STAT e, R.ETH_ISR] s (s.storeEthCfg e v) := by
  unfold State.storeEthCfg
  dsimp only
  exact (((RegsBut.refl _ s).setReg (by simp)).raise (by simp)).ite ((RegsBut.refl _ s).setReg (by simp))

theorem ethLink_setLink (s : State) (e : Nat) (up : Bool) : (s.setLink e up).ethLink e = up := by
  have hne : R.ETH_PT_STAT e ≠ R.ETH_ISR := by unfold R.ETH_ISR R.ETH_PT_STAT; omega
  unfold State.setLink
  split
  · assumption
  · exact (State.flag_raise_ne _ _ _ hne).trans (State.flag_setFlag_same _ _ _ _ (by decide) (by decide))

theorem bit_setLink {up : Bool} (h : s.ethLink e ≠ up) (he : e < 2) : (s.setLink e up).bit R.ETH_ISR (8 * e + 2) = true := by
  rw [State.setLink, if_neg h]
  exact bit_raiseBit_same _ _ (by omega)

theorem regsBut_setLink (s : State) (e : Nat) (up : Bool) : RegsBut [R.ETH_PT_CFG e, R.ETH_PT_STAT e, R.ETH_ISR] s (s.setLink e up) :=
  (RegsBut.refl _ s).ite (((RegsBut.refl _ s).setFlag (by simp)).raise (by simp))

theorem eth_setLink (s : State) (e : Nat) (up : Bool) : (s.setLink e up).eth = s.eth :=
  (keeps_State_setLink (List.Subset.refl _) e up (Keeps.refl _ s)).part .eth rfl

theorem et_of_eth (h : t.eth = s.eth) (n : Nat) : t.et n = s.et n := by rw [State.et, h, State.et]

theorem unitsBut_modEt (s : State) (e : Nat) (f : EthPort → EthPort) : UnitsBut State.et e s (s.modEt e f) := fun m hm => by
  rw [State.et_modEt, if_neg hm]

theorem eth_storeEthCfg (s : State) (e : Nat) (v : Word) : (s.storeEthCfg e v).eth = s.eth :=
  (keeps_State_storeEthCfg (List.Subset.refl _) e v (Keeps.refl _ s)).part .eth rfl

theorem reg_setLink {a : Nat} (hisr : a ≠ R.ETH_ISR) (hstat : a ≠ R.ETH_PT_STAT e) (s : State) (up : Bool) :
    (s.setLink e up).reg a = s.reg a := by
  unfold State.setLink
  split
  · rfl
  · exact (State.reg_raise_ne _ _ _ _ hisr).trans (State.reg_setFlag_ne _ _ _ _ _ hstat)

theorem reg_storeEthCfg {a : Nat} (hisr : a ≠ R.ETH_ISR) (hcfg : a ≠ R.ETH_PT_CFG e) (s : State) (v : Word) :
    (s.storeEthCfg e v).reg a = s.reg a := by
  unfold State.storeEthCfg
  dsimp only
  split
  · exact (State.reg_raise_ne _ _ _ _ hisr).trans (State.reg_setReg_ne _ _ _ _ hcfg)
  · exact State.reg_setReg_ne _ _ _ _ hcfg

theorem regsBut_ethUnlinked (s : State) (e : Nat) : RegsBut [R.ETH_PT_CFG e, R.ETH_PT_STAT e, R.ETH_ISR] s (s.ethUnlinked e) :=
  ((RegsBut.refl _ s).of_regs (State.modEt_regs s e _)).trans (regsBut_setLink _ e false)

theorem unitsBut_ethUnlinked (s : State) (e : Nat) : UnitsBut State.et e s (s.ethUnlinked e) := fun m hm =>
  (et_of_eth (eth_setLink _ e false) m).trans (unitsBut_modEt s e _ m hm)

/-- A port with EN = 0 has no link; the link's end is told (R360, R375). -/
theorem ethUnlinked_effect (s : State) (he : e < 2) (v : Word) (hv : field F.ETH_PT_CFG_EN v = 0) :
    ((s.storeEthCfg e v).ethUnlinked e).flag (R.ETH_PT_CFG e) F.ETH_PT_CFG_EN = false ∧
    ((s.storeEthCfg e v).ethUnlinked e).ethLink e = false ∧
    (s.ethLink e = true → ((s.storeEthCfg e v).ethUnlinked e).bit R.ETH_ISR (8 * e + 2) = true) := by
  have hcfg : ((s.storeEthCfg e v).ethUnlinked e).reg (R.ETH_PT_CFG e) = (s.storeEthCfg e v).reg (R.ETH_PT_CFG e) :=
    reg_setLink (by unfold R.ETH_ISR R.ETH_PT_CFG; omega) (by unfold R.ETH_PT_STAT R.ETH_PT_CFG; omega) _ false
  have hstat : (s.storeEthCfg e v).reg (R.ETH_PT_STAT e) = s.reg (R.ETH_PT_STAT e) :=
    reg_storeEthCfg (by unfold R.ETH_ISR R.ETH_PT_STAT; omega) (by unfold R.ETH_PT_STAT R.ETH_PT_CFG; omega) s v
  refine ⟨?_, ethLink_setLink _ e false, fun h => bit_setLink ?_ he⟩
  · rw [flag_of_reg hcfg]
    exact (ethOn_storeEthCfg s e v).trans (by rw [hv]; rfl)
  · rw [ethLink_of_reg ((State.modEt_reg _ e _ _).trans hstat), h]
    exact Bool.true_eq_false.mp

theorem exec_ethTxDoorbell (he : e < s.ethPorts) (v : Word) : exec (.ethTxDoorbell e v) s = .next
    ((s.setFld (R.ETH_PT_TXTAIL e) F.ETH_PT_TXTAIL_INDEX (v.toNat % s.txSize e)).txClean e) :=
  (onUnitWrite_next he (ethPorts_le s) : execEthTxDoorbell e v s = _)

theorem exec_ethRxDoorbell (he : e < s.ethPorts) (v : Word) : exec (.ethRxDoorbell e v) s = .next
    (s.setFld (R.ETH_PT_RXTAIL e) F.ETH_PT_RXTAIL_INDEX (v.toNat % s.rxSize e)) :=
  (onUnitWrite_next he (ethPorts_le s) : execEthRxDoorbell e v s = _)

/-! ### Frames (R359, R361, R362) -/

/-- The timestamp that a descriptor asks for. -/
def State.txStamped (s : State) (e : Nat) (d : List Byte) : Stamp := if bitAt (leAt d 6 2) 2 then s.txStamp e else noStamp

/-- The frame of a descriptor goes out and the descriptor is released. -/
def State.frameSent (s : State) (e : Nat) (d : List Byte) : State :=
  let u := s.emit (.ethFrame e (ethWire (s.readDram (64 * leAt d 0 4) (leAt d 4 2))))
  (u.txRelease e d 0 (u.txStamped e d)).txClean e

theorem exec_ethFrameSent {d : List Byte} (he : e < s.ethPorts) (hon : s.ethOn e = true) (hp : (s.et e).pauseUntil ≤ s.time.mt)
    (ho : s.txOwned e = some d) (hb : s.txBad e d = 0) : exec (.ethFrameSent e) s = .next (s.frameSent e d) := by
  have hx : exec (.ethFrameSent e) s = execEthFrameSent e s := rfl
  rw [hx, execEthFrameSent, onUnit_next he (ethPorts_le s)]
  dsimp only
  rw [txClean_of_sendable ho hb, ho, if_neg (by simp [hon, hp])]
  rfl

theorem frameSent_effect {d : List Byte} (he : e < 2) :
    Out.ethFrame e (ethWire (s.readDram (64 * leAt d 0 4) (leAt d 4 2))) ∈ (s.frameSent e d).out ∧
    (bitAt (leAt d 6 2) 1 = true → (s.frameSent e d).bit R.ETH_ISR (8 * e) = true) ∧ (s.frameSent e d).et e = s.et e := by
  have hclean := txReleased_txClean e ((s.emit (.ethFrame e (ethWire (s.readDram (64 * leAt d 0 4) (leAt d 4 2))))).txRelease e d 0
    ((s.emit (.ethFrame e (ethWire (s.readDram (64 * leAt d 0 4) (leAt d 4 2))))).txStamped e d))
  refine ⟨hclean.sent _ ((txReleased_txRelease _ e d 0 _).sent _ List.mem_cons_self),
    fun hirq => hclean.flags _ (bit_txRelease hirq (by omega) 0 _), et_of_eth ?_ e⟩
  exact (keeps_State_txClean (List.Subset.refl _) e (keeps_State_txRelease (by decide) e d 0 _
    (keeps_State_emit (by decide) _ (Keeps.refl _ s)))).part .eth rfl

/-- A frame stored in the buffer of the receive descriptor at HEAD, and the descriptor written back. -/
def State.rxStored (s : State) (e : Nat) (d bytes : List Byte) : State :=
  let u := s.writeDram (64 * leAt d 0 4) bytes
  u.writeDram (u.rxDesc e (u.rxHead e) + 6) (ethRelease (leAt d 6 2) 0 bytes.length (s.rxStamp e))

/-- HEAD moved on. -/
def State.rxMoved (s : State) (e : Nat) : State :=
  s.setFld (R.ETH_PT_RXHEAD e) F.ETH_PT_RXHEAD_INDEX ((s.rxHead e + 1) % s.rxSize e)

theorem exec_ethFrameReceived {bytes : List Byte} {check : Word} (he : e < s.ethPorts) (hon : s.ethOn e = true) (hl : 60 ≤ bytes.length)
    (ha : s.ethAccepts e bytes = true) : exec (.ethFrameReceived e bytes check) s = .next
      (if check.toNat ≠ fcs bytes then s.ethDrop e F.ETH_PT_DROP_FCS
      else if (s.hiddenUe 9 (32 + e) 0xFF).1 then (s.hiddenUe 9 (32 + e) 0xFF).2.ethDrop e F.ETH_PT_DROP_FCS
      else match (s.hiddenUe 9 (32 + e) 0xFF).2.rxOwned e with
        | none => (s.hiddenUe 9 (32 + e) 0xFF).2.ethDrop e F.ETH_PT_DROP_NOBUF
        | some d =>
          if leAt d 4 2 < bytes.length ∨ 9212 < bytes.length then (s.hiddenUe 9 (32 + e) 0xFF).2.ethDrop e F.ETH_PT_DROP_NOBUF
          else if bitAt (leAt d 6 2) 1 then (((s.hiddenUe 9 (32 + e) 0xFF).2.rxStored e d bytes).rxMoved e).ethFlag e 1
          else ((s.hiddenUe 9 (32 + e) 0xFF).2.rxStored e d bytes).rxMoved e) := by
  have hx : exec (.ethFrameReceived e bytes check) s = execEthFrameReceived e bytes check s := rfl
  rw [hx, execEthFrameReceived, onUnit_next he (ethPorts_le s), if_neg (by simp [hon, hl, ha])]
  rfl

theorem exec_ethFrameReceived_stored {bytes d : List Byte} {check : Word} (he : e < s.ethPorts) (hon : s.ethOn e = true)
    (hl : 60 ≤ bytes.length) (ha : s.ethAccepts e bytes = true) (hc : check.toNat = fcs bytes) (hh : s.intg.hidden = [])
    (hm : bytes.length ≤ 9212) (ho : s.rxOwned e = some d) (hs : bytes.length ≤ leAt d 4 2) :
    exec (.ethFrameReceived e bytes check) s = .next (if bitAt (leAt d 6 2) 1 then ((s.rxStored e d bytes).rxMoved e).ethFlag e 1
      else (s.rxStored e d bytes).rxMoved e) := by
  rw [exec_ethFrameReceived he hon hl ha, if_neg (by simpa using hc), hiddenUe_of_none hh]
  dsimp only
  rw [ho, if_neg Bool.false_ne_true]
  dsimp only
  rw [if_neg (by omega)]

theorem exec_ethFrameReceived_wrongFcs {bytes : List Byte} {check : Word} (he : e < s.ethPorts) (hon : s.ethOn e = true)
    (hl : 60 ≤ bytes.length) (ha : s.ethAccepts e bytes = true) (hc : check.toNat ≠ fcs bytes) :
    exec (.ethFrameReceived e bytes check) s = .next (s.ethDrop e F.ETH_PT_DROP_FCS) := by
  rw [exec_ethFrameReceived he hon hl ha, if_pos hc]

theorem exec_ethFrameReceived_noBuffer {bytes : List Byte} {check : Word} (he : e < s.ethPorts) (hon : s.ethOn e = true)
    (hl : 60 ≤ bytes.length) (ha : s.ethAccepts e bytes = true) (hc : check.toNat = fcs bytes) (hh : s.intg.hidden = [])
    (ho : s.rxOwned e = none) : exec (.ethFrameReceived e bytes check) s = .next (s.ethDrop e F.ETH_PT_DROP_NOBUF) := by
  rw [exec_ethFrameReceived he hon hl ha, if_neg (by simpa using hc), hiddenUe_of_none hh]
  dsimp only
  rw [ho]
  rfl

theorem exec_ethFrameReceived_filtered {bytes : List Byte} {check : Word} (he : e < s.ethPorts) (ha : s.ethAccepts e bytes = false) :
    exec (.ethFrameReceived e bytes check) s = .next s := by
  have hx : exec (.ethFrameReceived e bytes check) s = execEthFrameReceived e bytes check s := rfl
  rw [hx, execEthFrameReceived, onUnit_next he (ethPorts_le s), if_pos (by simp [ha])]

theorem only_ethDrop (s : State) (e : Nat) (f : Field) : Only irqParts s (s.ethDrop e f) :=
  (keeps_State_raise (by decide) _ _ (keeps_State_satAdd (by decide) _ _ _ (Keeps.refl _ s))).only

theorem fld_ethDrop (s : State) (e : Nat) {f : Field} (hf : f.lo + f.width ≤ 32) :
    (s.ethDrop e f).fld (R.ETH_PT_DROP e) f = min (s.fld (R.ETH_PT_DROP e) f + 1) (2 ^ f.width - 1) := by
  have hne : R.ETH_PT_DROP e ∉ [R.ETH_ISR] := by simp only [List.mem_singleton, R.ETH_ISR, R.ETH_PT_DROP]; omega
  exact ((State.regsBut_raise _ _ _).fld hne f).trans (fld_satAdd_same s _ f 1 hf)

/-- A dropped frame is counted under its cause and told, and leaves DRAM. -/
theorem ethDrop_effect (s : State) (he : e < 2) {f : Field} (hf : f.lo + f.width ≤ 32) :
    (s.ethDrop e f).fld (R.ETH_PT_DROP e) f = min (s.fld (R.ETH_PT_DROP e) f + 1) (2 ^ f.width - 1) ∧
    (s.ethDrop e f).bit R.ETH_ISR (8 * e + 3) = true ∧ SameDram s (s.ethDrop e f) ∧
    RegsBut [R.ETH_PT_DROP e, R.ETH_ISR] s (s.ethDrop e f) :=
  ⟨fld_ethDrop s e hf, bit_raiseBit_same _ _ (by omega), dramByte_of_dram (only_ethDrop s e f .dram (by decide)),
    ((RegsBut.refl _ s).satAdd (by simp)).raise (by simp)⟩

/-- Bytes 6 to 11 of a released descriptor. -/
theorem leAt_ethRelease {ctrl n : Nat} (status : Nat) (t : Stamp) (hc : ctrl < 2 ^ 16) (hn : n < 2 ^ 16) :
    leAt (ethRelease ctrl status n t) 0 2 = ctrl / 2 * 2 ∧ leAt (ethRelease ctrl status n t) 4 2 = n :=
  ⟨leNat_leBytes (n := 2) (by omega), leNat_leBytes (n := 2) hn⟩

theorem length_ethRelease (ctrl status n : Nat) (t : Stamp) : (ethRelease ctrl status n t).length = 26 := by
  simp only [ethRelease, List.length_append, List.length_cons, List.length_nil, length_leBytes, zeros, List.length_replicate]

/-- What an owned descriptor is: bytes that can be read, with OWN = 1. -/
theorem ownedDesc_eq {a : Nat} {d : List Byte} (h : s.ownedDesc a = some d) :
    s.dramOk a 32 = true ∧ s.rangePoisoned a 32 = false ∧ d = s.readDram a 32 := by
  unfold State.ownedDesc at h
  split at h
  · next hc =>
    simp only [Bool.and_eq_true, Bool.not_eq_true'] at hc
    exact ⟨hc.1.1, hc.1.2, (Option.some.inj h).symm⟩
  · exact absurd h (by simp)

theorem dramOk_part {off n o m : Nat} (h : s.dramOk off n = true) (hm : o + m ≤ n) : s.dramOk (off + o) m = true := by
  simp only [State.dramOk, Bool.and_eq_true, decide_eq_true_eq] at h ⊢
  exact ⟨h.1, by omega⟩

/-- Where the descriptor at HEAD is written back. -/
theorem rxDesc_writeDram (s : State) (e a : Nat) (bs : List Byte) :
    (s.writeDram a bs).rxDesc e ((s.writeDram a bs).rxHead e) = s.rxDesc e (s.rxHead e) := by
  rw [State.rxDesc, State.rxHead, fld_of_reg (reg_writeDram s a bs _), fld_of_reg (reg_writeDram s a bs _), State.rxDesc, State.rxHead]

section
variable {d bytes : List Byte} (ho : s.rxOwned e = some d) (hok : s.dramOk (64 * leAt d 0 4) bytes.length = true)
  (hs : s.rangePoisoned (64 * leAt d 0 4) bytes.length = false)
  (hapart : 64 * leAt d 0 4 + bytes.length ≤ s.rxDesc e (s.rxHead e) ∨ s.rxDesc e (s.rxHead e) + 32 ≤ 64 * leAt d 0 4)

theorem rxOwned_eq (ho : s.rxOwned e = some d) : s.dramOk (s.rxDesc e (s.rxHead e)) 32 = true ∧
    s.rangePoisoned (s.rxDesc e (s.rxHead e)) 32 = false ∧ d = s.readDram (s.rxDesc e (s.rxHead e)) 32 := by
  unfold State.rxOwned at ho
  split at ho
  · exact absurd ho (by simp)
  · exact ownedDesc_eq ho

include hok hs hapart in
theorem readDram_rxStored_buffer : (s.rxStored e d bytes).readDram (64 * leAt d 0 4) bytes.length = bytes := by
  refine Eq.trans (readDram_congr fun i hi => ?_) (readDram_writeDram_of_sound hok (soundAt_of_rangePoisoned hs))
  unfold State.rxStored
  dsimp only
  rw [rxDesc_writeDram]
  exact sameDramBut_writeDram _ _ _ _ (by rw [length_ethRelease]; omega)

include ho in
theorem readDram_rxStored_desc : (s.rxStored e d bytes).readDram (s.rxDesc e (s.rxHead e) + 6) 26 =
    ethRelease (leAt d 6 2) 0 bytes.length (s.rxStamp e) := by
  obtain ⟨hdok, hdsound, -⟩ := rxOwned_eq ho
  have hlen := length_ethRelease (leAt d 6 2) 0 bytes.length (s.rxStamp e)
  unfold State.rxStored
  dsimp only
  rw [rxDesc_writeDram]
  conv_lhs => rw [← hlen]
  refine readDram_writeDram_of_sound ?_ ?_
  · rw [dramOk_writeDram, hlen]
    exact dramOk_part hdok (by omega)
  · rw [hlen]
    exact ((soundAt_of_rangePoisoned hdsound).part (by omega)).writeDram _ _

theorem leNat_lt (bs : List Byte) : leNat bs < 256 ^ bs.length := by
  induction bs with
  | nil => rw [leNat, List.length_nil]; omega
  | cons b bs ih =>
    rw [leNat, List.length_cons, Nat.pow_succ]
    have := b.isLt
    omega

theorem leAt_lt (bs : List Byte) (off n : Nat) : leAt bs off n < 256 ^ n :=
  Nat.lt_of_lt_of_le (leNat_lt _) (Nat.pow_le_pow_right (by decide) (List.length_take_le _ _))

include ho in
/-- The descriptor comes back with OWN = 0 and the frame's length. -/
theorem leAt_rxStored (hlen : bytes.length < 2 ^ 16) :
    leAt ((s.rxStored e d bytes).readDram (s.rxDesc e (s.rxHead e)) 32) 6 2 = leAt d 6 2 / 2 * 2 ∧
    leAt ((s.rxStored e d bytes).readDram (s.rxDesc e (s.rxHead e)) 32) 10 2 = bytes.length := by
  have hpart (i : Nat) (hi : i + 2 ≤ 26) : leAt ((s.rxStored e d bytes).readDram (s.rxDesc e (s.rxHead e)) 32) (6 + i) 2 =
      leAt (ethRelease (leAt d 6 2) 0 bytes.length (s.rxStamp e)) i 2 := by
    rw [← readDram_rxStored_desc ho]
    exact leAt_readDram _ (by omega) hi
  obtain ⟨hctrl, hflen⟩ := leAt_ethRelease 0 (s.rxStamp e) (leAt_lt d 6 2) hlen
  exact ⟨(hpart 0 (by omega)).trans hctrl, (hpart 4 (by omega)).trans hflen⟩

end

theorem regs_rxStored (s : State) (e : Nat) (d bytes : List Byte) : (s.rxStored e d bytes).regs = s.regs :=
  (writeDram_regs _ _ _).trans (writeDram_regs s _ _)

theorem fld_rxStored (s : State) (e : Nat) (d bytes : List Byte) (a : Nat) (f : Field) : (s.rxStored e d bytes).fld a f = s.fld a f := by
  simp only [State.fld, State.reg, regs_rxStored]

theorem rxHead_rxMoved (s : State) (e : Nat) : (s.rxMoved e).rxHead e = (s.rxHead e + 1) % s.rxSize e % 2 ^ F.ETH_PT_RXHEAD_INDEX.width :=
  State.fld_setFld_same _ _ _ _ (by decide)

/-- HEAD after the frame that was stored, told or not. -/
theorem rxHead_stored (s : State) (e : Nat) (d bytes : List Byte) (b : Bool) :
    (if b then ((s.rxStored e d bytes).rxMoved e).ethFlag e 1 else (s.rxStored e d bytes).rxMoved e).rxHead e =
      (s.rxHead e + 1) % s.rxSize e % 2 ^ F.ETH_PT_RXHEAD_INDEX.width := by
  have hne : R.ETH_PT_RXHEAD e ∉ [R.ETH_ISR] := by simp only [List.mem_singleton, R.ETH_ISR, R.ETH_PT_RXHEAD]; omega
  have hmoved : ((s.rxStored e d bytes).rxMoved e).rxHead e = (s.rxHead e + 1) % s.rxSize e % 2 ^ F.ETH_PT_RXHEAD_INDEX.width := by
    rw [rxHead_rxMoved, State.rxHead, State.rxSize, fld_rxStored, fld_rxStored, State.rxHead, State.rxSize]
  split
  · exact ((regsBut_ethFlag _ e 1).fld hne _).trans hmoved
  · exact hmoved

theorem dram_stored (s : State) (e : Nat) (d bytes : List Byte) (b : Bool) :
    (if b then ((s.rxStored e d bytes).rxMoved e).ethFlag e 1 else (s.rxStored e d bytes).rxMoved e).dram = (s.rxStored e d bytes).dram := by
  split
  · exact dram_ethFlag _ e 1
  · rfl

theorem regsBut_stored (s : State) (e : Nat) (d bytes : List Byte) (b : Bool) : RegsBut [R.ETH_PT_RXHEAD e, R.ETH_ISR] s
    (if b then ((s.rxStored e d bytes).rxMoved e).ethFlag e 1 else (s.rxStored e d bytes).rxMoved e) := by
  have hmoved : RegsBut [R.ETH_PT_RXHEAD e, R.ETH_ISR] s ((s.rxStored e d bytes).rxMoved e) :=
    RegsBut.setFld ((RegsBut.refl _ s).of_regs (regs_rxStored s e d bytes)) (by simp)
  split
  · exact hmoved.trans ((regsBut_ethFlag _ e 1).mono (by simp))
  · exact hmoved

/-! ### Pause and link (R359, R360) -/

theorem exec_pauseReceived (he : e < s.ethPorts) (hon : s.ethOn e = true) (hr : s.flag (R.ETH_PT_CFG e) F.ETH_PT_CFG_RXPAUSE = true)
    (quanta : Nat) : exec (.pauseReceived e quanta) s =
      .next (s.modEt e fun p => { p with pauseUntil := s.time.mt + s.quantumU e * (quanta % 65536) }) := by
  have hx : exec (.pauseReceived e quanta) s = execPauseReceived e quanta s := rfl
  rw [hx, execPauseReceived, onUnit_next he (ethPorts_le s), if_pos (by rw [hon, hr]; rfl)]

theorem exec_ethLinkChange (he : e < s.ethPorts) (hon : s.ethOn e = true) (locked negotiated : Bool) :
    exec (.ethLinkChange e ⟨locked, negotiated⟩) s = .next ((s.setLink e (locked && (negotiated ||
      !(s.flag (R.ETH_PT_CFG e) F.ETH_PT_CFG_AN && decide (s.fld (R.ETH_PT_CFG e) F.ETH_PT_CFG_MODE = 0))))).txClean e) := by
  have hx : exec (.ethLinkChange e ⟨locked, negotiated⟩) s = execEthLinkChange e ⟨locked, negotiated⟩ s := rfl
  rw [hx, execEthLinkChange, onUnit_next he (ethPorts_le s)]
  dsimp only
  rw [if_pos hon]

/-- A link that is lost is told, and stays down while descriptors are released. -/
theorem linkLost_effect (he : e < 2) (hl : s.ethLink e = true) : ((s.setLink e false).txClean e).ethLink e = false ∧
    ((s.setLink e false).txClean e).bit R.ETH_ISR (8 * e + 2) = true ∧ ((s.setLink e false).txClean e).et e = s.et e := by
  have hclean := txReleased_txClean e (s.setLink e false)
  have hne : R.ETH_PT_STAT e ∉ txRegs e := by
    simp only [txRegs, List.mem_cons, List.not_mem_nil, or_false, R.ETH_PT_STAT, R.ETH_PT_TXHEAD, R.ETH_ISR]
    omega
  refine ⟨(ethLink_of_reg (hclean.regs _ hne)).trans (ethLink_setLink s e false),
    hclean.flags _ (bit_setLink (by rw [hl]; exact Bool.true_eq_false.mp) he), et_of_eth ?_ e⟩
  have hkept : ((s.setLink e false).txClean e).eth = (s.setLink e false).eth := (keeps_txClean _ e).part .eth rfl
  exact hkept.trans (eth_setLink s e false)

/-! ### The sideband (R360) -/

/-- The command word of a sideband transaction stored. -/
def State.ethI2cCmd (s : State) (e : Nat) (v : Word) : State :=
  s.setReg (R.ETH_PT_I2CCMD e) ((s.reg (R.ETH_PT_I2CCMD e) &&& 0xFFF80000) ||| (v &&& 0x7FFFF))

/-- The transaction that a command word asks for. -/
def ethI2cOf (v : Word) : I2c :=
  ⟨.host, decide (field F.ETH_PT_I2CCMD_WRITE v = 1), field F.ETH_PT_I2CCMD_REG v % 256, field F.ETH_PT_I2CCMD_N v + 1⟩

/-- A transaction runs, and BUSY tells it. -/
def State.ethI2cRuns (s : State) (e : Nat) (q : I2c) : State :=
  (s.modEt e fun p => { p with i2c := some q }).setFlag (R.ETH_PT_I2CCMD e) F.ETH_PT_I2CCMD_BUSY true

/-- Fields of the command word are those that are written. -/
theorem fld_ethI2cCmd {f : Field} (hf : f.lo + f.width ≤ 19) (s : State) (e : Nat) (v : Word) :
    (s.ethI2cCmd e v).fld (R.ETH_PT_I2CCMD e) f = field f v := by
  rw [State.ethI2cCmd, State.fld, State.reg_setReg_same, field_or_and hf (by decide) (by decide)]

theorem ethI2cOf_ethI2cCmd (s : State) (e : Nat) (v : Word) : (⟨.host, (s.ethI2cCmd e v).flag (R.ETH_PT_I2CCMD e) F.ETH_PT_I2CCMD_WRITE,
    (s.ethI2cCmd e v).fld (R.ETH_PT_I2CCMD e) F.ETH_PT_I2CCMD_REG % 256,
    (s.ethI2cCmd e v).fld (R.ETH_PT_I2CCMD e) F.ETH_PT_I2CCMD_N + 1⟩ : I2c) = ethI2cOf v := by
  have hbit : field F.ETH_PT_I2CCMD_WRITE v < 2 := field_lt _ v
  rw [State.flag, fld_ethI2cCmd (by decide), fld_ethI2cCmd (by decide), fld_ethI2cCmd (by decide), ethI2cOf]
  congr 1
  exact decide_eq_decide.mpr (by omega)

theorem exec_ethI2cGo_starts {v : Word} (he : e < s.ethPorts) (hgo : field F.ETH_PT_I2CCMD_GO v = 1) (hn : (s.et e).i2c = none) :
    ∃ o, exec (.ethI2cGo e v) s = .next (((s.ethI2cCmd e v).emit o).ethI2cRuns e (ethI2cOf v)) := by
  have hx : exec (.ethI2cGo e v) s = execEthI2cGo e v s := rfl
  have hidle : ((s.ethI2cCmd e v).et e).i2c.isSome = false := by
    rw [et_of_eth (t := s.ethI2cCmd e v) (s := s) rfl, hn]
    rfl
  rw [← ethI2cOf_ethI2cCmd s e v, hx, execEthI2cGo, onUnitWrite_next he (ethPorts_le s)]
  rw [State.ethI2cCmd] at hidle
  dsimp only
  rw [if_neg (by omega), hidle, if_neg Bool.false_ne_true]
  exact ⟨_, rfl⟩

theorem exec_ethI2cGo_busy {v : Word} (he : e < s.ethPorts) (hgo : field F.ETH_PT_I2CCMD_GO v = 1) (hn : (s.et e).i2c ≠ none) :
    exec (.ethI2cGo e v) s = .next ((s.ethI2cCmd e v).ethFlag e 4) := by
  have hx : exec (.ethI2cGo e v) s = execEthI2cGo e v s := rfl
  have hbusy : ((s.ethI2cCmd e v).et e).i2c.isSome = true := by
    rw [et_of_eth (t := s.ethI2cCmd e v) (s := s) rfl]
    exact Option.isSome_iff_ne_none.mpr hn
  rw [hx, execEthI2cGo, onUnitWrite_next he (ethPorts_le s)]
  rw [State.ethI2cCmd] at hbusy ⊢
  dsimp only
  rw [if_neg (by omega), hbusy, if_pos rfl]

theorem ethI2cRuns_effect (s : State) (e : Nat) (v : Word) (o : Out) :
    (((s.ethI2cCmd e v).emit o).ethI2cRuns e (ethI2cOf v)).et e = { s.et e with i2c := some (ethI2cOf v) } ∧
    (((s.ethI2cCmd e v).emit o).ethI2cRuns e (ethI2cOf v)).flag (R.ETH_PT_I2CCMD e) F.ETH_PT_I2CCMD_BUSY = true ∧
    RegsBut [R.ETH_PT_I2CCMD e] s (((s.ethI2cCmd e v).emit o).ethI2cRuns e (ethI2cOf v)) ∧
    UnitsBut State.et e s (((s.ethI2cCmd e v).emit o).ethI2cRuns e (ethI2cOf v)) := by
  have hemit : RegsBut [R.ETH_PT_I2CCMD e] s ((s.ethI2cCmd e v).emit o) := (regsBut_setReg s _ _).of_regs rfl
  have het (n : Nat) : ((s.ethI2cCmd e v).emit o).et n = s.et n := et_of_eth rfl n
  unfold State.ethI2cRuns
  refine ⟨?_, State.flag_setFlag_same _ _ _ true (by decide) (by decide), hemit.modEt.setFlag (by simp), fun m hm => ?_⟩
  · rw [et_of_eth (State.setFlag_eth _ _ _ _), State.et_modEt_same, het]
  · rw [et_of_eth (State.setFlag_eth _ _ _ _), State.et_modEt, if_neg hm, het]

theorem only_ethI2cRuns (s : State) (e : Nat) (v : Word) (o : Out) :
    Only [.regs, .eth, .out] s (((s.ethI2cCmd e v).emit o).ethI2cRuns e (ethI2cOf v)) :=
  (keeps_State_setFlag (by decide) _ _ _ (keeps_State_modEt (by decide) e _ (keeps_State_emit (by decide) o
    (keeps_State_setReg (by decide) _ _ (Keeps.refl _ s))))).only

/-- The end of a transaction: its code. -/
def State.ethI2cEnd (s : State) (e code : Nat) : State :=
  ((s.modEt e fun p => { p with i2c := none }).setFlag (R.ETH_PT_I2CCMD e) F.ETH_PT_I2CCMD_BUSY false).setFld (R.ETH_PT_I2CCMD e)
    F.ETH_PT_I2CCMD_CODE code

theorem exec_ethI2cDone_read {q : I2c} (he : e < s.ethPorts) (hq : (s.et e).i2c = some q) (hw : q.write = false) (data : Word) :
    exec (.ethI2cDone e 0 data) s = .next ((s.ethI2cEnd e 0).setReg (R.ETH_PT_I2CDATA e) data) := by
  have hx : exec (.ethI2cDone e 0 data) s = execEthI2cDone e 0 data s := rfl
  rw [hx, execEthI2cDone, onUnit_next he (ethPorts_le s), hq]
  dsimp only
  rw [hw]
  rfl

theorem ethI2cEnd_effect (s : State) (e : Nat) (data : Word) :
    ((s.ethI2cEnd e 0).setReg (R.ETH_PT_I2CDATA e) data).flag (R.ETH_PT_I2CCMD e) F.ETH_PT_I2CCMD_BUSY = false ∧
    ((s.ethI2cEnd e 0).setReg (R.ETH_PT_I2CDATA e) data).fld (R.ETH_PT_I2CCMD e) F.ETH_PT_I2CCMD_CODE = 0 ∧
    RegsBut [R.ETH_PT_I2CCMD e, R.ETH_PT_I2CDATA e] s ((s.ethI2cEnd e 0).setReg (R.ETH_PT_I2CDATA e) data) ∧
    (((s.ethI2cEnd e 0).setReg (R.ETH_PT_I2CDATA e) data).et e = { s.et e with i2c := none }) ∧
    UnitsBut State.et e s ((s.ethI2cEnd e 0).setReg (R.ETH_PT_I2CDATA e) data) := by
  have hne : R.ETH_PT_I2CCMD e ≠ R.ETH_PT_I2CDATA e := by unfold R.ETH_PT_I2CCMD R.ETH_PT_I2CDATA; omega
  have hcmd := State.reg_setReg_ne (s.ethI2cEnd e 0) _ _ data hne
  have heth : ((s.ethI2cEnd e 0).setReg (R.ETH_PT_I2CDATA e) data).eth = (s.modEt e fun p => { p with i2c := none }).eth := by
    rw [State.setReg_eth, State.ethI2cEnd, State.setFld_eth, State.setFlag_eth]
  refine ⟨?_, ?_, RegsBut.setReg ?_ (by simp), ?_, fun m hm => ?_⟩
  · rw [flag_of_reg hcmd, State.ethI2cEnd, State.flag, State.fld_setFld_field _ _ _ _ _ (by decide) (by decide)]
    exact State.flag_setFlag_same _ _ F.ETH_PT_I2CCMD_BUSY false (by decide) (by decide)
  · rw [fld_of_reg hcmd, State.ethI2cEnd, State.fld_setFld_same _ _ _ _ (by decide)]
    rfl
  · exact ((RegsBut.refl _ s).modEt.setFlag (by simp)).setFld (by simp)
  · rw [et_of_eth heth, State.et_modEt_same]
  · rw [et_of_eth heth, State.et_modEt, if_neg hm]

end

/-! ### The statement -/

/-- Settles O46: configuration, doorbells and the sideband write their own registers; frames go through DRAM, where the descriptor's
write-back lies apart from the buffer; and releasing descriptors moves HEAD and flags alone. -/
theorem ethernetPorts : Obligations.EthernetPorts := by
  refine ⟨?_, ?_, ?_, ?_, ?_, ?_, ?_, ?_, ?_, ?_, ?_, ?_, ?_, ?_, ?_⟩
  · intro s e v he hen hmode
    have hstore : s.storeEthCfg e v = s.setReg (R.ETH_PT_CFG e) (v &&& 0xFF) := by
      unfold State.storeEthCfg
      exact if_neg fun h => h.1 hmode
    have hon : (s.storeEthCfg e v).ethOn e = true := by rw [ethOn_storeEthCfg, hen]; rfl
    refine ⟨s.setReg (R.ETH_PT_CFG e) (v &&& 0xFF), ?_, (keeps_State_setReg (List.Subset.refl _) _ _ (Keeps.refl _ s)).only,
      State.reg_setReg_same _ _ _, ?_, regsBut_setReg _ _ _⟩
    · rw [exec_ethPortEnable he, if_pos hon, hstore]
    · rw [← hstore]; exact hon
  · intro s e v he hen
    have hoff : (s.storeEthCfg e v).ethOn e = false := by rw [ethOn_storeEthCfg, hen]; rfl
    have hx : exec (.ethPortEnable e v) s = .next ((s.storeEthCfg e v).ethUnlinked e) := by
      rw [exec_ethPortEnable he, hoff, if_neg Bool.false_ne_true]
    obtain ⟨hflag, hlink, hbit⟩ := ethUnlinked_effect s (lt_two_of_ethPorts he) v hen
    exact ⟨_, hx, ((keeps_execEthPortEnable (List.Subset.refl _) e v (Keeps.refl _ s)).next _ hx).only, hflag, hlink, hbit,
      (regsBut_storeEthCfg s e v).trans (regsBut_ethUnlinked _ e),
      fun m hm => (unitsBut_ethUnlinked _ e m hm).trans (et_of_eth (eth_storeEthCfg s e v) m)⟩
  · intro s e v he hoff
    have hne : R.ETH_PT_CFG e ≠ R.ETH_PT_TXTAIL e := by unfold R.ETH_PT_CFG R.ETH_PT_TXTAIL; omega
    refine ⟨s.setFld (R.ETH_PT_TXTAIL e) F.ETH_PT_TXTAIL_INDEX (v.toNat % s.txSize e), ?_,
      (keeps_State_setFld (List.Subset.refl _) _ _ _ (Keeps.refl _ s)).only, State.fld_setFld_same _ _ _ _ (by decide),
      (RegsBut.refl _ s).setFld (by simp), fun _ => rfl⟩
    have hon : (s.setFld (R.ETH_PT_TXTAIL e) F.ETH_PT_TXTAIL_INDEX (v.toNat % s.txSize e)).ethOn e = false :=
      (ethOn_of_reg (State.reg_setReg_ne _ _ _ _ hne)).trans hoff
    rw [exec_ethTxDoorbell he, txClean_of_off hon]
  · intro s e v he
    exact ⟨_, exec_ethRxDoorbell he v, (keeps_State_setFld (List.Subset.refl _) _ _ _ (Keeps.refl _ s)).only,
      State.fld_setFld_same _ _ _ _ (by decide), (RegsBut.refl _ s).setFld (by simp)⟩
  · intro s e d he hon hp ho hb
    have hx := exec_ethFrameSent he hon hp ho hb
    refine ⟨_, hx, (keeps_State_txClean (List.Subset.refl _) e (keeps_State_txRelease (by decide) e d 0 _
      (keeps_State_emit (by decide) _ (Keeps.refl _ s)))).only, frameSent_effect (lt_two_of_ethPorts he)⟩
  · intro s e bytes check d he hon hl ha hc hh hm ho hs hok hsound hapart
    have hx := exec_ethFrameReceived_stored he hon hl ha hc hh hm ho hs
    have hdram := dram_stored s e d bytes (bitAt (leAt d 6 2) 1)
    obtain ⟨hctrl, hflen⟩ := leAt_rxStored (bytes := bytes) ho (by omega)
    refine ⟨_, hx, ((keeps_execEthFrameReceived (List.Subset.refl _) e bytes check (Keeps.refl _ s)).next _ hx).only, ?_,
      rxHead_stored s e d bytes _, ?_, ?_, fun hirq => ?_, regsBut_stored s e d bytes _⟩
    · rw [readDram_of_dram hdram]; exact readDram_rxStored_buffer hok hsound hapart
    · rw [readDram_of_dram hdram]; exact hctrl
    · rw [readDram_of_dram hdram]; exact hflen
    · rw [if_pos hirq]; exact bit_raiseBit_same _ _ (by have := lt_two_of_ethPorts he; omega)
  · intro s e bytes check he hon hl ha hc
    exact ⟨_, exec_ethFrameReceived_wrongFcs he hon hl ha hc, only_ethDrop s e _,
      ethDrop_effect s (lt_two_of_ethPorts he) (by decide)⟩
  · intro s e bytes check he hon hl ha hc hh ho
    exact ⟨_, exec_ethFrameReceived_noBuffer he hon hl ha hc hh ho, only_ethDrop s e _,
      ethDrop_effect s (lt_two_of_ethPorts he) (by decide)⟩
  · intro s e bytes check he _ ha
    exact ⟨s, exec_ethFrameReceived_filtered he ha, Only.refl _ s, rfl⟩
  · intro s e quanta he hon hr
    exact ⟨_, exec_pauseReceived he hon hr quanta, (keeps_State_modEt (List.Subset.refl _) e _ (Keeps.refl _ s)).only,
      State.et_modEt_same _ _ _, unitsBut_modEt s e _⟩
  · intro s e locked negotiated he hon
    exact next_of_keeps (keeps_execEthLinkChange (List.Subset.refl _) e _ (Keeps.refl _ s)) (exec_ethLinkChange he hon locked negotiated)
  · intro s e locked negotiated he hon hl hlocked
    subst hlocked
    have hx := exec_ethLinkChange he hon false negotiated
    rw [Bool.false_and] at hx
    exact ⟨_, hx, ((keeps_execEthLinkChange (List.Subset.refl _) e _ (Keeps.refl _ s)).next _ hx).only,
      linkLost_effect (lt_two_of_ethPorts he) hl⟩
  · intro s e v he hgo hn
    obtain ⟨o, hx⟩ := exec_ethI2cGo_starts he hgo hn
    exact ⟨_, hx, only_ethI2cRuns s e v o, ethI2cRuns_effect s e v o⟩
  · intro s e v he hgo hn
    exact ⟨_, exec_ethI2cGo_busy he hgo hn,
      (keeps_State_raise (by decide) _ _ (keeps_State_setReg (by decide) _ _ (Keeps.refl _ s))).only,
      bit_raiseBit_same _ _ (by have := lt_two_of_ethPorts he; omega), ((RegsBut.refl _ s).setReg (by simp)).raise (by simp)⟩
  · intro s e code data q he hq hw hcode
    subst hcode
    have hx := exec_ethI2cDone_read he hq hw data
    obtain ⟨hbusy, hcode, hregs, het, hothers⟩ := ethI2cEnd_effect s e data
    exact ⟨_, hx, ((keeps_execEthI2cDone (List.Subset.refl _) e 0 data (Keeps.refl _ s)).next _ hx).only, het,
      State.reg_setReg_same _ _ _, hbusy, hcode, hregs, hothers⟩

end Sys2Proof.Machine

/-! # Lane equalisation, power states and the pattern test (O41) -/

namespace Sys2Proof.Machine

-- As above: the proofs of this part are elaborated one after another, which keeps the check within its memory.
set_option deprecated.oldSectionVars true

/-! ### Writes in a lane's window -/

section
variable {s : State} {l : Nat} {v : Word}

theorem onLaneWrite_next {addr : Nat} {f : State → State} (hl : l < 40) (hp : s.lanePresent l = true) :
    onLaneWrite l addr s f = .next (f s) := by
  rw [onLaneWrite, if_pos hl, hp, if_pos rfl]

/-! ### Equalisation (R333, R334) -/

theorem exec_laneTxeqWrite (hl : l < 40) (hp : s.lanePresent l = true) : exec (.laneTxeqWrite l v) s = .next
    (if field F.LANE_TXEQ_PRE v + field F.LANE_TXEQ_MAIN v + field F.LANE_TXEQ_POST v ≤ 63 ∧
        field F.LANE_TXEQ_PRE v + field F.LANE_TXEQ_POST v + 8 ≤ field F.LANE_TXEQ_MAIN v
      then s.setReg (R.LANE_TXEQ l) (v &&& 0x3F3F3F) else s.raise R.LANE_ISR F.LANE_ISR_REJ) :=
  (onLaneWrite_next hl hp : execLaneTxeqWrite l v s = _)

theorem exec_eyeMeasure (hl : l < 40) (hp : s.lanePresent l = true) (hu : s.up (laneDomain l) = true) (h5 : s.laneState l = 5)
    (hd : s.probeDue l = true) (w : Nat) :
    exec (.eyeMeasure l w) s = .next ((s.probe l).setFld (R.LANE_STAT l) F.LANE_STAT_EYEW w) := by
  have hx : exec (.eyeMeasure l w) s = execEyeMeasure l w s := rfl
  rw [hx, execEyeMeasure, onLane_next hl hp hu, if_pos ⟨h5, hd⟩]

/-! ### Requests of a power state (R336, R337) -/

/-- A request noted: its level, and when. -/
def State.pmAsked (s : State) (l r : Nat) : State :=
  (s.setFld (R.LANE_PM l) F.LANE_PM_REQ r).modLn l fun q => { q with pm := some (r, s.time.mt), pmGot := (0, 0) }

theorem exec_lanePmRequest (hl : l < 40) (hp : s.lanePresent l = true) (h3 : field F.LANE_PM_REQ v ≠ 3) :
    exec (.lanePmRequest l v) s = .next
      (if field F.LANE_PM_REQ v = 0 then (s.setReg (R.LANE_PM l) 0).wakeSend l
      else if s.laneState l ≠ 5 ∨ !s.pmAllowed l then s.raise R.LANE_ISR F.LANE_ISR_REJ
      else (s.pmAsked l (field F.LANE_PM_REQ v)).sendBlocks l (List.replicate 4 (pmBlock (field F.LANE_PM_REQ v) false))) := by
  have hx : exec (.lanePmRequest l v) s = execLanePmRequest l v s := rfl
  rw [hx, execLanePmRequest, onLaneWrite_next hl hp]
  dsimp only
  rw [if_neg h3]
  rfl

theorem LANE_PM_ne_LANE_STAT (l : Nat) : R.LANE_STAT l ≠ R.LANE_PM l := by unfold R.LANE_STAT R.LANE_PM; omega

theorem State.ln_sendBlocks (s : State) (m : Nat) (bs : List Block) (n : Nat) : (s.sendBlocks m bs).ln n = s.ln n := rfl

/-- An ACTIVE lane asks for L1 or L2 with four PM blocks. -/
theorem pmAsked_effect (s : State) (l : Nat) {r : Nat} (hr : r < 4) : let t := (s.pmAsked l r).sendBlocks l (List.replicate 4 (pmBlock r false))
    Only [.regs, .lane, .out] s t ∧ t.fld (R.LANE_PM l) F.LANE_PM_REQ = r ∧
    t.ln l = { s.ln l with pm := some (r, s.time.mt), pmGot := (0, 0) } ∧
    t.out = .blocks l (s.blockTime l) (List.replicate 4 (pmBlock r false)) :: s.out ∧
    RegsBut [R.LANE_PM l] s t ∧ UnitsBut State.ln l s t := by
  refine ⟨?_, ?_, ?_, rfl, ?_, fun m hm => ?_⟩
  · exact (keeps_State_sendBlocks (by decide) l _ (keeps_State_modLn (by decide) l _ (keeps_State_setFld (by decide) _ _ _
      (Keeps.refl _ s)))).only
  · exact (State.fld_setFld_same s (R.LANE_PM l) F.LANE_PM_REQ r (by decide)).trans (Nat.mod_eq_of_lt hr)
  · rw [State.ln_sendBlocks, State.pmAsked, State.ln_modLn_same, State.ln_setFld]
  · have hasked : RegsBut [R.LANE_PM l] s (s.pmAsked l r) := RegsBut.modLn ((RegsBut.refl [R.LANE_PM l] s).setFld (by simp))
    exact hasked.of_regs rfl
  · rw [State.ln_sendBlocks, State.pmAsked, State.ln_modLn, if_neg hm, State.ln_setFld]

/-- A lane in L1 or L2 that does not wake yet starts its exit; out of L1 it sends IDLE. -/
theorem wakeSend_of_asleep (h : s.laneState l = 6 ∨ s.laneState l = 7) (hw : (s.ln l).waking = false) : s.wakeSend l =
    (if s.laneState l = 6 then s.emit (.blocks l s.time.mt (List.replicate 8 idleBlock)) else s).modLn l fun q =>
      { q with waking := true, since := s.time.mt } := by
  have hemit (u : State) (hu : u.lane = s.lane ∧ u.regs = s.regs ∧ u.time = s.time) :
      (if (u.ln l).waking then u else u.wakeLane l) = u.modLn l fun q => { q with waking := true, since := s.time.mt } := by
    obtain ⟨hlane, hregs, htime⟩ := hu
    have hstate : u.laneState l = s.laneState l := laneState_of_reg (by simp only [State.reg, hregs])
    rw [ln_of_lane hlane, hw, if_neg Bool.false_ne_true, State.wakeLane, hstate, htime]
    exact if_pos h
  rw [State.wakeSend, hw]
  simp only [Bool.not_false, and_true]
  split
  · exact hemit _ ⟨rfl, rfl, rfl⟩
  · exact hemit s ⟨rfl, rfl, rfl⟩

theorem wakeAsked_effect (h : s.laneState l = 6 ∨ s.laneState l = 7) (hw : (s.ln l).waking = false) :
    let t := (s.setReg (R.LANE_PM l) 0).wakeSend l
    Only [.regs, .lane, .out] s t ∧ t.reg (R.LANE_PM l) = 0 ∧ t.ln l = { s.ln l with waking := true, since := s.time.mt } ∧
    (s.laneState l = 6 → t.out = .blocks l s.time.mt (List.replicate 8 idleBlock) :: s.out) ∧
    RegsBut [R.LANE_PM l] s t ∧ UnitsBut State.ln l s t := by
  have hstate : (s.setReg (R.LANE_PM l) 0).laneState l = s.laneState l :=
    laneState_of_reg (State.reg_setReg_ne _ _ _ _ (LANE_PM_ne_LANE_STAT l))
  have e := wakeSend_of_asleep (s := s.setReg (R.LANE_PM l) 0) (hstate ▸ h) hw
  rw [hstate] at e
  dsimp only
  rw [e]
  refine ⟨?_, ?_, ?_, fun h6 => ?_, ?_, ?_⟩
  · have hset : Keeps [.regs, .lane, .out] s (s.setReg (R.LANE_PM l) 0) := keeps_State_setReg (by decide) _ _ (Keeps.refl _ s)
    have hemit : Keeps [.regs, .lane, .out] s (if s.laneState l = 6 then
        (s.setReg (R.LANE_PM l) 0).emit (.blocks l s.time.mt (List.replicate 8 idleBlock)) else s.setReg (R.LANE_PM l) 0) :=
      Keeps.ite (keeps_State_emit (by decide) _ hset) hset
    exact (keeps_State_modLn (by decide) l _ hemit).only
  · rw [State.modLn_reg]
    split <;> exact State.reg_setReg_same _ _ _
  · rw [State.ln_modLn_same]
    split <;> rfl
  · rw [if_pos h6]
    rfl
  · have hset : RegsBut [R.LANE_PM l] s (s.setReg (R.LANE_PM l) 0) := regsBut_setReg s _ _
    have hemit : RegsBut [R.LANE_PM l] s (if s.laneState l = 6 then
        (s.setReg (R.LANE_PM l) 0).emit (.blocks l s.time.mt (List.replicate 8 idleBlock)) else s.setReg (R.LANE_PM l) 0) :=
      RegsBut.ite (hset.of_regs rfl) hset
    exact hemit.modLn
  · refine UnitsBut.modLn fun m _ => ?_
    split <;> rfl

/-! ### PM blocks received (R329, R336, R337) -/

/-- A PM block spells its level and whether it is an answer. -/
theorem pmBlock_spells (answer : Bool) : ∀ level ∈ [1, 2], isCtl (pmBlock level answer) 0x5A = true ∧
    bits (pmBlock level answer).payload.toNat 8 8 = level ∧ bitAt (pmBlock level answer).payload.toNat 16 = answer := by
  cases answer <;> decide

theorem mem_levels {level : Nat} (h : level = 1 ∨ level = 2) : level ∈ [1, 2] := by simpa using h

/-- The lane with what it has counted of PM blocks. -/
def State.pmCounted (s : State) (l : Nat) (got : Nat × Nat) : State := s.modLn l fun q => { q with pmGot := got }

theorem countPm_fourth {w : Nat} (h : (s.ln l).pmGot = (w, 3)) : s.countPm l w = (true, s.pmCounted l (0, 0)) := by
  simp [State.countPm, h, State.pmCounted]

theorem countPm_first {w : Nat} (h : (s.ln l).pmGot.1 ≠ w) : s.countPm l w = (false, s.pmCounted l (w, 1)) := by
  simp [State.countPm, h, State.pmCounted]

theorem pmAllowed_pmCounted (got : Nat × Nat) : (s.pmCounted l got).pmAllowed l = s.pmAllowed l := rfl

/-- A request at an ACTIVE lane: counted, and at the fourth answered or rejected. -/
theorem exec_pmRequestReceived {level : Nat} (hl : l < 40) (hp : s.lanePresent l = true) (hu : s.up (laneDomain l) = true)
    (h5 : s.laneState l = 5) (hlevel : level = 1 ∨ level = 2) : exec (.pmRequestReceived l (pmBlock level false)) s = .next
      (if !(s.countPm l (pmBlock level false).payload.toNat).1 then (s.countPm l (pmBlock level false).payload.toNat).2
      else if (s.countPm l (pmBlock level false).payload.toNat).2.pmAllowed l then
        ((s.countPm l (pmBlock level false).payload.toNat).2.sendBlocks l (List.replicate 4 (pmBlock level true))).enterPm l level
      else (s.countPm l (pmBlock level false).payload.toNat).2.raise R.LANE_ISR F.LANE_ISR_REJ) := by
  obtain ⟨hctl, hbits, hanswer⟩ := pmBlock_spells false level (mem_levels hlevel)
  have hx : exec (.pmRequestReceived l (pmBlock level false)) s = execPmRequestReceived l (pmBlock level false) s := rfl
  rw [hx, execPmRequestReceived, onLane_next hl hp hu, onBlock_of_not_stray (not_stray_of_isCtl hctl (by decide))]
  dsimp only
  rw [hbits, hanswer, if_pos ⟨h5, hctl, by simp, hlevel⟩]

/-- The fourth answer in time takes the lane to the state that was asked for. -/
theorem exec_pmAnswerReceived_fourth {level since : Nat} (hl : l < 40) (hp : s.lanePresent l = true) (hu : s.up (laneDomain l) = true)
    (h5 : s.laneState l = 5) (hlevel : level = 1 ∨ level = 2) (hpm : (s.ln l).pm = some (level, since))
    (ht : s.time.mt ≤ since + ticksU 1250) (hgot : (s.ln l).pmGot = ((pmBlock level true).payload.toNat, 3)) :
    exec (.pmAnswerReceived l (pmBlock level true)) s = .next ((s.pmCounted l (0, 0)).enterPm l level) := by
  obtain ⟨hctl, hbits, hanswer⟩ := pmBlock_spells true level (mem_levels hlevel)
  have hx : exec (.pmAnswerReceived l (pmBlock level true)) s = execPmAnswerReceived l (pmBlock level true) s := rfl
  rw [hx, execPmAnswerReceived, onLane_next hl hp hu, onBlock_of_not_stray (not_stray_of_isCtl hctl (by decide)), hpm]
  dsimp only
  rw [if_pos ⟨h5, hctl, hanswer, hbits, ht⟩, countPm_fourth hgot]
  rfl

/-- The state that a level names. -/
theorem state_of_level {level : Nat} (h : level = 1 ∨ level = 2) : (if level = 1 then 6 else 7) = 5 + level := by
  rcases h with rfl | rfl <;> rfl

/-- A lane that leaves the states of traffic for L1 or L2, before it enters. -/
def State.pmLeft (s : State) (l level : Nat) : State := if l < 32 ∨ level = 2 then s.leaveActive l else s

theorem keeps_pmLeft (s : State) (l level : Nat) : Keeps [.regs, .port, .lane, .head, .pci, .out] s (s.pmLeft l level) :=
  Keeps.ite (keeps_State_leaveActive (List.Subset.refl _) l (Keeps.refl _ s)) (Keeps.refl _ s)

theorem enterPm_eq (s : State) (l level : Nat) : s.enterPm l level =
    if level = 2 then ((s.pmLeft l level).setLane l (if level = 1 then 6 else 7)).setFlag (R.LANE_STAT l) F.LANE_STAT_LOCK false
    else (s.pmLeft l level).setLane l (if level = 1 then 6 else 7) := rfl

theorem lane_enterPm (s : State) (l level : Nat) :
    (s.enterPm l level).ln l = ((s.pmLeft l level).ln l).entered s.time.mt := by
  have htime : (s.pmLeft l level).time = s.time := (keeps_pmLeft s l level).part .time rfl
  rw [enterPm_eq, ← htime]
  split
  · rw [State.ln_setFlag, ln_setLane]
  · rw [ln_setLane]

theorem enterPm_effect {level : Nat} (h : level = 1 ∨ level = 2) (s : State) (l : Nat) : (s.enterPm l level).laneState l = 5 + level ∧
    ((s.enterPm l level).ln l).pm = none ∧ ((s.enterPm l level).ln l).since = s.time.mt ∧
    (level = 2 → (s.enterPm l level).flag (R.LANE_STAT l) F.LANE_STAT_LOCK = false) := by
  rw [lane_enterPm]
  refine ⟨?_, rfl, rfl, fun h2 => ?_⟩
  · rw [enterPm_eq, state_of_level h]
    split
    · exact (State.fld_setFld_field _ _ _ _ _ (by decide) (by decide)).trans (laneState_setLane _ l (by omega))
    · exact laneState_setLane _ l (by omega)
  · rw [enterPm_eq, if_pos h2]
    exact State.flag_setFlag_same _ _ _ false (by decide) (by decide)

/-! ### What a lane has sent stays sent -/

variable {o : Out}

theorem mem_out_laneLeft {u : State} (h : o ∈ u.out) (l : Nat) : o ∈ (u.laneLeft l).out := by
  unfold State.laneLeft
  split
  · unfold State.headLost
    exact mem_out_raise (by simpa using h) _ _
  · exact h

theorem out_laneDown (u : State) (l : Nat) : (u.laneDown l).out = (u.laneLeft l).out := by
  simp [State.laneDown, State.setLane]

theorem mem_out_lanesDown {u : State} (h : o ∈ u.out) (ls : List Nat) : o ∈ (u.each ls fun l t => t.laneDown l).out := by
  induction ls generalizing u with
  | nil => exact h
  | cons l ls ih => exact ih (by rw [out_laneDown]; exact mem_out_laneLeft h l)

theorem mem_out_portLost {u : State} (h : o ∈ u.out) (p : Nat) : o ∈ (u.portLost p).out := by
  have hended (st : Nat) : o ∈ (u.portEnded p st).out := by
    unfold State.portEnded State.dropQueue
    exact mem_out_raise (by simpa using h) _ _
  rw [portLost_eq]
  split
  · exact hended 1
  · split
    · exact mem_out_lanesDown (hended 0) _
    · exact h

theorem mem_out_enterPm {u : State} (h : o ∈ u.out) (l level : Nat) : o ∈ (u.enterPm l level).out := by
  have hleave : o ∈ (u.leaveActive l).out := by
    unfold State.leaveActive
    split
    · exact mem_out_laneLeft h l
    · split
      · exact mem_out_portLost h _
      · exact h
  have hleft : o ∈ (u.pmLeft l level).out := by
    unfold State.pmLeft
    split
    · exact hleave
    · exact h
  have hset (st : Nat) : ((u.pmLeft l level).setLane l st).out = (u.pmLeft l level).out := by simp [State.setLane]
  rw [enterPm_eq]
  split
  · rwa [State.setFlag_out, hset]
  · rwa [hset]

/-! ### Ends of a request, and waking (R336) -/

theorem exec_pmTimeout {level since : Nat} (hl : l < 40) (hp : s.lanePresent l = true) (hu : s.up (laneDomain l) = true)
    (hpm : (s.ln l).pm = some (level, since)) (ht : since + ticksU 1250 < s.time.mt) : exec (.pmTimeout l) s =
      .next ((s.modLn l fun q => { q with pm := none, pmGot := (0, 0) }).raise R.LANE_ISR F.LANE_ISR_REJ) := by
  have hx : exec (.pmTimeout l) s = execPmTimeout l s := rfl
  rw [hx, execPmTimeout, onLane_next hl hp hu, hpm]
  exact congrArg _ (if_pos ht)

theorem exec_laneWake (hl : l < 40) (hp : s.lanePresent l = true) (hu : s.up (laneDomain l) = true)
    (h : s.laneState l = 6 ∨ s.laneState l = 7) :
    exec (.laneWake l) s = .next (s.modLn l fun q => { q with waking := true, since := s.time.mt }) := by
  have hx : exec (.laneWake l) s = execLaneWake l s := rfl
  rw [hx, execLaneWake, onLane_next hl hp hu, State.wakeLane]
  exact congrArg _ (if_pos h)

theorem exec_laneWakeDone (hl : l < 40) (hp : s.lanePresent l = true) (hu : s.up (laneDomain l) = true) (hw : (s.ln l).waking = true)
    (h : s.laneState l = 6 ∨ (s.laneState l = 7 ∧ nsU (1000 * s.laneTTS l) ≤ s.laneFor l)) : exec (.laneWakeDone l) s = .next
      (if s.laneState l = 6 then (if l < 32 then s.enterActive l else s.setLane l 5)
       else (s.setFlag (R.LANE_STAT l) F.LANE_STAT_LOCK true).enterActive l) := by
  have hx : exec (.laneWakeDone l) s = execLaneWakeDone l s := rfl
  rw [hx, execLaneWakeDone, onLane_next hl hp hu]
  dsimp only
  rw [hw, if_neg (by simp)]
  rcases h with h6 | ⟨h7, ht⟩
  · rw [if_pos h6, if_pos h6]
  · have h6 : s.laneState l ≠ 6 := by omega
    rw [if_neg h6, if_neg h6, if_pos ⟨h7, ht⟩]

/-- Entering ACTIVE changes this lane alone. -/
theorem unitsBut_enterActive (s : State) (l : Nat) : UnitsBut State.ln l s (s.enterActive l) := by
  have hset := unitsBut_setLane s l 5
  unfold State.enterActive
  dsimp only
  split
  · exact hset.of_lane ((keeps_State_launchCfg (by decide) l (keeps_State_modHd (by decide) l _
      (Keeps.refl [.regs, .head] (s.setLane l 5)))).part .lane rfl)
  · split
    · exact hset.of_lane ((keeps_State_portUp (List.Subset.refl _) _ (Keeps.refl _ (s.setLane l 5))).part .lane rfl)
    · exact hset

theorem awake_enterActive (s : State) (l : Nat) : (s.enterActive l).laneState l = 5 ∧ ((s.enterActive l).ln l).waking = false ∧
    UnitsBut State.ln l s (s.enterActive l) := by
  refine ⟨enterActive_effect.1, ?_, unitsBut_enterActive s l⟩
  rw [enterActive_lane.1, ln_setLane]
  rfl

/-- A lane that has woken is ACTIVE. -/
theorem laneWoken_effect (s : State) (l : Nat) :
    let t := if s.laneState l = 6 then (if l < 32 then s.enterActive l else s.setLane l 5)
      else (s.setFlag (R.LANE_STAT l) F.LANE_STAT_LOCK true).enterActive l
    t.laneState l = 5 ∧ (t.ln l).waking = false ∧ UnitsBut State.ln l s t := by
  dsimp only
  split
  · split
    · exact awake_enterActive s l
    · exact ⟨laneState_setLane s l (by decide), by rw [ln_setLane]; rfl, unitsBut_setLane s l 5⟩
  · obtain ⟨hstate, hawake, hothers⟩ := awake_enterActive (s.setFlag (R.LANE_STAT l) F.LANE_STAT_LOCK true) l
    exact ⟨hstate, hawake, fun m hm => hothers m hm⟩

/-! ### The pattern test (R338, R339) -/

/-- The registers of a lane's test. -/
def testRegs (l : Nat) : List Nat :=
  [R.LANE_TEST l, R.LANE_TEST_ERRS l, R.LANE_TEST_BITS_LO l, R.LANE_TEST_BITS_HI l]

theorem LANE_STAT_not_mem_testRegs (l : Nat) : R.LANE_STAT l ∉ testRegs l := by
  simp only [testRegs, List.mem_cons, List.not_mem_nil, or_false, R.LANE_STAT, R.LANE_TEST, R.LANE_TEST_ERRS, R.LANE_TEST_BITS_LO,
    R.LANE_TEST_BITS_HI]
  omega

/-- The word of LANE_TEST that a write stores: SYNC is the checker's. -/
def State.testStored (s : State) (l : Nat) (v : Word) : State :=
  (s.setReg (R.LANE_TEST l) (withField F.LANE_TEST_MODE (v &&& 0xF7F) (field F.LANE_TEST_MODE v))).setFlag (R.LANE_TEST l)
    F.LANE_TEST_SYNC (s.flag (R.LANE_TEST l) F.LANE_TEST_SYNC)

/-- The checker starts, or is off. -/
def State.checkerSet (s : State) (l : Nat) (v : Word) : State :=
  if field F.LANE_TEST_CHK v = 1 then s.checkerStart l else s.setFlag (R.LANE_TEST l) F.LANE_TEST_SYNC false

/-- A write of INJ1. -/
def State.injSet (s : State) (l : Nat) (v : Word) : State :=
  if field F.LANE_TEST_INJ1 v = 1 then s.modLn l fun q => { q with inj := true } else s

/-- A mode that cannot be entered makes the write ignored. -/
theorem writeLaneTest_rejected (h0 : 0 < field F.LANE_TEST_MODE v) (h4 : field F.LANE_TEST_MODE v ≤ 4) (hen : s.laneEnabled l = true) :
    s.writeLaneTest l v = s.raise R.LANE_ISR F.LANE_ISR_REJ := by
  unfold State.writeLaneTest
  dsimp only
  rw [if_neg (by omega : ¬ 5 ≤ field F.LANE_TEST_MODE v)]
  exact if_pos ⟨by omega, Or.inl hen⟩

theorem regsBut_testStored (s : State) (l : Nat) (v : Word) : RegsBut (testRegs l) s (s.testStored l v) :=
  ((RegsBut.refl _ s).setReg (by simp [testRegs])).setFlag (by simp [testRegs])

theorem regsBut_checkerStart (s : State) (l : Nat) : RegsBut (testRegs l) s (s.checkerStart l) :=
  RegsBut.modLn (((((RegsBut.refl (testRegs l) s).setReg (by simp [testRegs])).setReg (by simp [testRegs])).setReg
    (by simp [testRegs])).setFlag (by simp [testRegs]))

theorem regsBut_checkerSet (s : State) (l : Nat) (v : Word) : RegsBut (testRegs l) s (s.checkerSet l v) :=
  (regsBut_checkerStart s l).ite ((RegsBut.refl _ s).setFlag (by simp [testRegs]))

theorem regs_injSet (s : State) (l : Nat) (v : Word) : (s.injSet l v).regs = s.regs := by
  unfold State.injSet
  split <;> rfl

theorem laneState_checkerSet (s : State) (l : Nat) (v : Word) : ((s.testStored l v).checkerSet l v).laneState l = s.laneState l :=
  laneState_of_reg (((regsBut_testStored s l v).trans (regsBut_checkerSet _ l v)) _ (LANE_STAT_not_mem_testRegs l))

/-- A mode that can be entered: the word is stored and the checker set, and the test starts unless it runs already. -/
theorem writeLaneTest_mode (h0 : 0 < field F.LANE_TEST_MODE v) (h4 : field F.LANE_TEST_MODE v ≤ 4) (hen : s.laneEnabled l = false)
    (hst : s.laneState l = 0 ∨ s.laneState l = 8) : s.writeLaneTest l v =
      (if s.laneState l = 8 ∧ field F.LANE_TEST_MODE v = s.fld (R.LANE_TEST l) F.LANE_TEST_MODE then (s.testStored l v).checkerSet l v
       else ((s.testStored l v).checkerSet l v).testStart l).injSet l v := by
  have hkept := laneState_checkerSet s l v
  unfold State.checkerSet State.testStored at hkept
  unfold State.writeLaneTest State.injSet State.checkerSet State.testStored
  dsimp only
  rw [if_neg (by omega : ¬ 5 ≤ field F.LANE_TEST_MODE v), hen, if_neg (by rintro ⟨-, h | h⟩ <;> simp_all),
    if_pos (by omega : field F.LANE_TEST_MODE v ≠ 0), hkept]

theorem fld_LANE_TEST_checkerSet {f : Field} (hsync : f.lo + f.width ≤ F.LANE_TEST_SYNC.lo) (s : State) (l : Nat) (v : Word) :
    (s.checkerSet l v).fld (R.LANE_TEST l) f = s.fld (R.LANE_TEST l) f := by
  have hflag (u : State) : (u.setFlag (R.LANE_TEST l) F.LANE_TEST_SYNC false).fld (R.LANE_TEST l) f = u.fld (R.LANE_TEST l) f :=
    State.fld_setFld_field _ _ _ _ _ (by decide) (Or.inr hsync)
  unfold State.checkerSet
  split
  · unfold State.checkerStart
    dsimp only
    rw [fld_of_reg (State.modLn_reg _ _ _ _), hflag]
    have hne : ∀ a ∈ [R.LANE_TEST_ERRS l, R.LANE_TEST_BITS_LO l, R.LANE_TEST_BITS_HI l], R.LANE_TEST l ≠ a := by
      simp only [List.mem_cons, List.not_mem_nil, or_false, R.LANE_TEST, R.LANE_TEST_ERRS, R.LANE_TEST_BITS_LO, R.LANE_TEST_BITS_HI]
      omega
    rw [fld_of_reg (State.reg_setReg_ne _ _ _ _ (hne _ (by simp))), fld_of_reg (State.reg_setReg_ne _ _ _ _ (hne _ (by simp))),
      fld_of_reg (State.reg_setReg_ne _ _ _ _ (hne _ (by simp)))]
  · exact hflag s

theorem fld_testStored {f : Field} (hsync : f.lo + f.width ≤ F.LANE_TEST_SYNC.lo) (s : State) (l : Nat) (v : Word) :
    (s.testStored l v).fld (R.LANE_TEST l) f =
      field f (withField F.LANE_TEST_MODE (v &&& 0xF7F) (field F.LANE_TEST_MODE v)) := by
  rw [State.testStored, State.setFlag, State.fld_setFld_field _ _ _ _ _ (by decide) (Or.inr hsync), State.fld, State.reg_setReg_same]

theorem mode_checkerSet (s : State) (l : Nat) (v : Word) :
    ((s.testStored l v).checkerSet l v).fld (R.LANE_TEST l) F.LANE_TEST_MODE = field F.LANE_TEST_MODE v := by
  rw [fld_LANE_TEST_checkerSet (by decide), fld_testStored (by decide), field_withField_same _ _ _ (by decide),
    Nat.mod_eq_of_lt (field_lt _ v)]

theorem chk_checkerSet (s : State) (l : Nat) (v : Word) :
    ((s.testStored l v).checkerSet l v).fld (R.LANE_TEST l) F.LANE_TEST_CHK = field F.LANE_TEST_CHK v := by
  rw [fld_LANE_TEST_checkerSet (by decide), fld_testStored (by decide), field_withField_ne _ _ _ _ (by decide) (by decide),
    field_and_of_bits (by decide)]

/-- Counters, SYNC and the checker's own state at its start. -/
theorem checkerStart_effect (s : State) (l : Nat) : (s.checkerStart l).flag (R.LANE_TEST l) F.LANE_TEST_SYNC = false ∧
    (s.checkerStart l).reg (R.LANE_TEST_ERRS l) = 0 ∧ (s.checkerStart l).reg (R.LANE_TEST_BITS_LO l) = 0 ∧
    (s.checkerStart l).reg (R.LANE_TEST_BITS_HI l) = 0 := by
  have hne : R.LANE_TEST_ERRS l ≠ R.LANE_TEST_BITS_LO l ∧ R.LANE_TEST_ERRS l ≠ R.LANE_TEST_BITS_HI l ∧
      R.LANE_TEST_BITS_LO l ≠ R.LANE_TEST_BITS_HI l ∧ R.LANE_TEST_ERRS l ≠ R.LANE_TEST l ∧ R.LANE_TEST_BITS_LO l ≠ R.LANE_TEST l ∧
      R.LANE_TEST_BITS_HI l ≠ R.LANE_TEST l := by
    unfold R.LANE_TEST_ERRS R.LANE_TEST_BITS_LO R.LANE_TEST_BITS_HI R.LANE_TEST
    omega
  obtain ⟨helo, hehi, hlohi, het, hlot, hhit⟩ := hne
  unfold State.checkerStart
  dsimp only
  simp only [State.modLn_reg, flag_of_reg (State.modLn_reg _ _ _ _), State.reg_setFlag_ne _ _ _ _ _ het, State.reg_setFlag_ne _ _ _ _ _ hlot,
    State.reg_setFlag_ne _ _ _ _ _ hhit, State.reg_setReg_same, State.reg_setReg_ne _ _ _ _ hehi, State.reg_setReg_ne _ _ _ _ helo,
    State.reg_setReg_ne _ _ _ _ hlohi, and_true]
  exact State.flag_setFlag_same _ _ _ false (by decide) (by decide)

theorem testStart_eq (s : State) (l : Nat) : s.testStart l = (if s.draw.2.laneState l = 8 then s.draw.2 else s.draw.2.setLane l 8).modLn l
    fun q => { q with seed := Config.prbsStart s.draw.1, sent := 0 } := rfl

theorem laneState_draw (s : State) (l : Nat) : s.draw.2.laneState l = s.laneState l := rfl

theorem regs_testStart_of_test (h : s.laneState l = 8) : (s.testStart l).regs = s.regs := by
  rw [testStart_eq, laneState_draw, if_pos h]
  rfl

theorem laneState_testStart (s : State) (l : Nat) : (s.testStart l).laneState l = 8 := by
  rw [testStart_eq, laneState_modLn, laneState_draw]
  split
  · assumption
  · exact laneState_setLane _ l (by decide)

theorem regsBut_testStart (s : State) (l : Nat) : RegsBut [R.LANE_STAT l] s (s.testStart l) := by
  have hdrawn : RegsBut [R.LANE_STAT l] s s.draw.2 := (RegsBut.refl _ s).of_regs rfl
  exact RegsBut.modLn (RegsBut.ite hdrawn (hdrawn.trans (regsBut_setLane _ l 8)))

theorem unitsBut_testStart (s : State) (l : Nat) : UnitsBut State.ln l s (s.testStart l) := by
  have hdrawn : UnitsBut State.ln l s s.draw.2 := (UnitsBut.refl _ l s).of_lane rfl
  rw [testStart_eq]
  refine UnitsBut.modLn ?_
  split
  · exact hdrawn
  · exact hdrawn.trans (unitsBut_setLane _ l 8)

theorem unitsBut_checkerSet (s : State) (l : Nat) (v : Word) : UnitsBut State.ln l s ((s.testStored l v).checkerSet l v) := by
  have hstored : UnitsBut State.ln l s (s.testStored l v) := (UnitsBut.refl _ l s).of_lane (by simp [State.testStored])
  unfold State.checkerSet
  split
  · exact UnitsBut.modLn (hstored.of_lane (by simp))
  · exact hstored.of_lane (by simp)

theorem unitsBut_injSet (s : State) (l : Nat) (v : Word) : UnitsBut State.ln l s (s.injSet l v) := by
  unfold State.injSet
  split
  · exact unitsBut_modLn s l _
  · exact UnitsBut.refl _ l s

theorem exec_laneTestModeWrite (hl : l < 40) (hp : s.lanePresent l = true) :
    exec (.laneTestModeWrite l v) s = .next (s.writeLaneTest l v) :=
  (onLaneWrite_next hl hp : execLaneTestModeWrite l v s = _)

theorem exec_checkerStart (hl : l < 40) (hp : s.lanePresent l = true) :
    exec (.checkerStart l v) s = .next (s.writeLaneTest l (v ||| 8)) :=
  (onLaneWrite_next hl hp : execCheckerStart l v s = _)

/-- A disabled lane enters TEST. -/
theorem testEntered_effect (h0 : 0 < field F.LANE_TEST_MODE v) (h4 : field F.LANE_TEST_MODE v ≤ 4) (hen : s.laneEnabled l = false)
    (hst : s.laneState l = 0) : (s.writeLaneTest l v).laneState l = 8 ∧
    (s.writeLaneTest l v).fld (R.LANE_TEST l) F.LANE_TEST_MODE = field F.LANE_TEST_MODE v ∧
    RegsBut [R.LANE_TEST l, R.LANE_STAT l, R.LANE_TEST_ERRS l, R.LANE_TEST_BITS_LO l, R.LANE_TEST_BITS_HI l] s (s.writeLaneTest l v) ∧
    UnitsBut State.ln l s (s.writeLaneTest l v) := by
  have hset := (regsBut_testStored s l v).trans (regsBut_checkerSet _ l v)
  have hstart := regsBut_testStart ((s.testStored l v).checkerSet l v) l
  have hne : R.LANE_TEST l ∉ [R.LANE_STAT l] := by simp only [List.mem_singleton, R.LANE_TEST, R.LANE_STAT]; omega
  have hinj (u : State) (a : Nat) : (u.injSet l v).reg a = u.reg a := by simp only [State.reg, regs_injSet]
  rw [writeLaneTest_mode h0 h4 hen (Or.inl hst), if_neg (by omega)]
  refine ⟨?_, ?_, ?_, ?_⟩
  · rw [laneState_of_reg (hinj _ _), laneState_testStart]
  · rw [fld_of_reg (hinj _ _), hstart.fld hne, mode_checkerSet]
  · exact ((hset.mono (by simp [testRegs])).trans (hstart.mono (by simp))).of_regs (regs_injSet _ l v)
  · exact ((unitsBut_checkerSet s l v).trans (unitsBut_testStart _ l)).trans (unitsBut_injSet _ l v)

theorem field_CHK_or (v : Word) : field F.LANE_TEST_CHK (v ||| 8) = 1 := by
  have hne : field F.LANE_TEST_CHK (v ||| 8) ≠ 0 := field_or_fieldMask_ne_zero F.LANE_TEST_CHK v (by decide) (by decide)
  have hlt : field F.LANE_TEST_CHK (v ||| 8) < 2 := field_lt _ _
  omega

theorem field_MODE_or (v : Word) : field F.LANE_TEST_MODE (v ||| 8) = field F.LANE_TEST_MODE v :=
  field_congr (k := 3) (by decide) fun i hi => by
    have h8 : (8 : Word).getLsbD i = false := by interval_cases i <;> rfl
    rw [BitVec.getLsbD_or, h8, Bool.or_false]

/-- The checker of a lane in TEST starts with its counters clear. -/
theorem checkerStarted_effect (h0 : 0 < field F.LANE_TEST_MODE v) (h4 : field F.LANE_TEST_MODE v ≤ 4) (hen : s.laneEnabled l = false)
    (hst : s.laneState l = 8) : let t := s.writeLaneTest l (v ||| 8)
    t.flag (R.LANE_TEST l) F.LANE_TEST_CHK = true ∧ t.flag (R.LANE_TEST l) F.LANE_TEST_SYNC = false ∧
    t.reg (R.LANE_TEST_ERRS l) = 0 ∧ t.reg (R.LANE_TEST_BITS_LO l) = 0 ∧ t.reg (R.LANE_TEST_BITS_HI l) = 0 ∧ t.laneState l = 8 ∧
    RegsBut (testRegs l) s t := by
  have hset := (regsBut_testStored s l (v ||| 8)).trans (regsBut_checkerSet _ l (v ||| 8))
  have h8 : ((s.testStored l (v ||| 8)).checkerSet l (v ||| 8)).laneState l = 8 := (laneState_checkerSet s l _).trans hst
  have hstart : (s.testStored l (v ||| 8)).checkerSet l (v ||| 8) = (s.testStored l (v ||| 8)).checkerStart l :=
    if_pos (field_CHK_or v)
  have hregs : (s.writeLaneTest l (v ||| 8)).regs = ((s.testStored l (v ||| 8)).checkerSet l (v ||| 8)).regs := by
    rw [writeLaneTest_mode (by rwa [field_MODE_or]) (by rwa [field_MODE_or]) hen (Or.inr hst), regs_injSet]
    split
    · rfl
    · exact regs_testStart_of_test h8
  have hreg (a : Nat) : (s.writeLaneTest l (v ||| 8)).reg a = ((s.testStored l (v ||| 8)).checkerSet l (v ||| 8)).reg a := by
    simp only [State.reg, hregs]
  obtain ⟨hsync, herrs, hlo, hhi⟩ := checkerStart_effect (s.testStored l (v ||| 8)) l
  dsimp only
  refine ⟨?_, ?_, ?_, ?_, ?_, ?_, hset.of_regs hregs⟩
  · rw [flag_of_reg (hreg _), State.flag, chk_checkerSet, field_CHK_or]
    rfl
  · rw [flag_of_reg (hreg _), hstart, hsync]
  · rw [hreg, hstart, herrs]
  · rw [hreg, hstart, hlo]
  · rw [hreg, hstart, hhi]
  · rw [laneState_of_reg (hreg _), h8]

/-! ### Bits at the checker (R339) -/

/-- A lane that has sent n more bits of its test. -/
def State.testSent (s : State) (l n : Nat) : State := s.modLn l fun q => { q with sent := q.sent + n, inj := q.inj && decide (n = 0) }

theorem ln_testSent (s : State) (l n : Nat) : (s.testSent l n).ln l =
    { s.ln l with sent := (s.ln l).sent + n, inj := (s.ln l).inj && decide (n = 0) } := State.ln_modLn_same _ _ _

theorem exec_checkerSync (hl : l < 40) (hp : s.lanePresent l = true) (hu : s.up (laneDomain l) = true) (h8 : s.laneState l = 8)
    (hchk : s.flag (R.LANE_TEST l) F.LANE_TEST_CHK = true) (received : List Bool) (n : Nat) :
    exec (.checkerSync l received n) s = .next ((if s.flag (R.LANE_TEST l) F.LANE_TEST_LOOP then
      (List.range n).map fun i => s.testBit l ((s.ln l).sent + i) else received).foldl (fun u b => u.checkBit l b) (s.testSent l n)) := by
  have hx : exec (.checkerSync l received n) s = execCheckerSync l received n s := rfl
  have hsent : (s.modLn l fun q => { q with sent := (s.ln l).sent + n, inj := q.inj && decide (n = 0) }) = s.testSent l n := rfl
  rw [hx, execCheckerSync, onLane_next hl hp hu]
  dsimp only
  have hflag : (s.testSent l n).flag (R.LANE_TEST l) F.LANE_TEST_CHK = true := (flag_of_reg (State.modLn_reg _ _ _ _) _).trans hchk
  rw [if_neg (by omega), hsent, if_pos hflag]

/-- One bit received by a lane that feeds on its balls. -/
theorem exec_checkerSync_one (hl : l < 40) (hp : s.lanePresent l = true) (hu : s.up (laneDomain l) = true) (h8 : s.laneState l = 8)
    (hchk : s.flag (R.LANE_TEST l) F.LANE_TEST_CHK = true) (hloop : s.flag (R.LANE_TEST l) F.LANE_TEST_LOOP = false) (b : Bool) :
    exec (.checkerSync l [b] 1) s = .next ((s.testSent l 1).checkBit l b) := by
  rw [exec_checkerSync hl hp hu h8 hchk, hloop]
  rfl

section
variable {b : Bool} (hseeded : seedBits (s.fld (R.LANE_TEST l) F.LANE_TEST_MODE) ≤ (s.ln l).seen)
include hseeded

/-- The 64th error-free bit in a row. -/
theorem checkBit_synchronises (hsync : s.flag (R.LANE_TEST l) F.LANE_TEST_SYNC = false)
    (hb : b = expectedBit (s.fld (R.LANE_TEST l) F.LANE_TEST_MODE) (s.ln l).chk) (hclean : 63 ≤ (s.ln l).clean) :
    (s.checkBit l b).flag (R.LANE_TEST l) F.LANE_TEST_SYNC = true ∧ ((s.checkBit l b).ln l).clean = (s.ln l).clean + 1 ∧
    RegsBut [R.LANE_TEST l] s (s.checkBit l b) := by
  unfold State.checkBit
  dsimp only
  rw [if_neg (by omega), hsync, if_pos (by rfl), if_pos hb, if_pos (by omega)]
  refine ⟨State.flag_setFlag_same _ _ _ true (by decide) (by decide), ?_, (RegsBut.modLn (RegsBut.refl _ s)).setFlag (by simp)⟩
  rw [State.ln_setFlag, State.ln_modLn_same]

/-- A bit counted under SYNC, an error with it. -/
theorem checkBit_counts (hsync : s.flag (R.LANE_TEST l) F.LANE_TEST_SYNC = true) (herr : (s.ln l).errors = []) :
    ∃ q : Lane → Lane, s.checkBit l b =
      (s.modLn l q).countBit l (b != expectedBit (s.fld (R.LANE_TEST l) F.LANE_TEST_MODE) (s.ln l).chk) := by
  unfold State.checkBit
  dsimp only
  rw [if_neg (by omega), hsync, if_neg (by simp), herr]
  refine ⟨_, if_neg ?_⟩
  split <;> decide

end

theorem countBit_effect (s : State) (l : Nat) (bad : Bool) :
    ((s.countBit l bad).fld (R.LANE_TEST_ERRS l) F.LANE_TEST_ERRS_COUNT =
      if bad then min (s.fld (R.LANE_TEST_ERRS l) F.LANE_TEST_ERRS_COUNT + 1) (2 ^ F.LANE_TEST_ERRS_COUNT.width - 1)
      else s.fld (R.LANE_TEST_ERRS l) F.LANE_TEST_ERRS_COUNT) ∧
    (s.countBit l bad).reg (R.LANE_TEST_BITS_LO l) = s.reg (R.LANE_TEST_BITS_LO l) + 1 ∧
    RegsBut [R.LANE_TEST_ERRS l, R.LANE_TEST_BITS_LO l, R.LANE_TEST_BITS_HI l] s (s.countBit l bad) := by
  have hne : R.LANE_TEST_ERRS l ≠ R.LANE_TEST_BITS_LO l ∧ R.LANE_TEST_ERRS l ≠ R.LANE_TEST_BITS_HI l ∧
      R.LANE_TEST_BITS_LO l ≠ R.LANE_TEST_BITS_HI l ∧ R.LANE_TEST_BITS_LO l ≠ R.LANE_TEST_ERRS l := by
    unfold R.LANE_TEST_ERRS R.LANE_TEST_BITS_LO R.LANE_TEST_BITS_HI
    omega
  obtain ⟨helo, hehi, hlohi, hloe⟩ := hne
  have hnext (x : Nat) : BitVec.ofNat 32 ((s.reg (R.LANE_TEST_BITS_LO l)).toNat + 2 ^ 32 * x + 1) = s.reg (R.LANE_TEST_BITS_LO l) + 1 := by
    refine BitVec.eq_of_toNat_eq ?_
    rw [BitVec.toNat_ofNat, BitVec.toNat_add]
    change _ = (_ + 1) % 2 ^ 32
    omega
  have hcounted (n x : Nat) : RegsBut [R.LANE_TEST_ERRS l, R.LANE_TEST_BITS_LO l, R.LANE_TEST_BITS_HI l] s
      ((s.setReg (R.LANE_TEST_BITS_LO l) (BitVec.ofNat 32 n)).setFld (R.LANE_TEST_BITS_HI l) F.LANE_TEST_BITS_HI_BITS x) :=
    ((RegsBut.refl _ s).setReg (by simp)).setFld (by simp)
  have herrs (n x : Nat) : ((s.setReg (R.LANE_TEST_BITS_LO l) (BitVec.ofNat 32 n)).setFld (R.LANE_TEST_BITS_HI l)
      F.LANE_TEST_BITS_HI_BITS x).reg (R.LANE_TEST_ERRS l) = s.reg (R.LANE_TEST_ERRS l) :=
    (State.reg_setReg_ne _ _ _ _ hehi).trans (State.reg_setReg_ne _ _ _ _ helo)
  unfold State.countBit
  dsimp only
  cases bad with
  | false =>
    exact ⟨fld_of_reg (herrs _ _) _, (State.reg_setReg_ne _ _ _ _ hlohi).trans ((State.reg_setReg_same _ _ _).trans (hnext _)), hcounted _ _⟩
  | true =>
    refine ⟨?_, ?_, (hcounted _ _).satAdd (by simp)⟩
    · rw [if_pos rfl, if_pos rfl, fld_satAdd_same _ _ _ _ (by decide), fld_of_reg (herrs _ _)]
    · exact (State.reg_setReg_ne _ _ _ _ hloe).trans ((State.reg_setReg_ne _ _ _ _ hlohi).trans
        ((State.reg_setReg_same _ _ _).trans (hnext _)))

theorem exec_inj1 (hl : l < 40) (hp : s.lanePresent l = true) : exec (.inj1 l) s = .next (s.modLn l fun q => { q with inj := true }) :=
  (onLaneWrite_next hl hp : execInj1 l s = _)

end

/-! ### The statement -/

/-- Settles O41: a lane's window and its events take place through `onLaneWrite_next` and `onLane_next`; a lane enters L1, L2, ACTIVE and
TEST by `setLane`, which sets its time; a bit at the checker seeds it, or counts. -/
theorem lanePowerAndTest : Obligations.LanePowerAndTest := by
  refine ⟨?_, ?_, ?_, ?_, ?_, ?_, ?_, ?_, ?_, ?_, ?_, ?_, ?_, ?_, ?_, ?_, ?_, ?_, ?_, ?_, ?_⟩
  · intro s l v hl hp hsum hmain
    refine ⟨s.setReg (R.LANE_TXEQ l) (v &&& 0x3F3F3F), ?_, (keeps_State_setReg (List.Subset.refl _) _ _ (Keeps.refl _ s)).only,
      State.reg_setReg_same _ _ _, regsBut_setReg _ _ _⟩
    rw [exec_laneTxeqWrite hl hp, if_pos ⟨hsum, hmain⟩]
  · intro s l v hl hp hbad
    exact rejected_effect (by decide) (by decide) ((exec_laneTxeqWrite hl hp).trans (by rw [if_neg (by omega)]))
  · intro s l w hl hp hu h5 hd
    refine ⟨_, exec_eyeMeasure hl hp hu h5 hd w,
      (keeps_State_setFld (by decide) _ _ _ (keeps_State_probe (by decide) l (Keeps.refl _ s))).only, ?_,
      State.fld_setFld_same _ _ _ _ (by decide), ?_, RegsBut.setFld (RegsBut.modLn (RegsBut.refl _ s)) (by simp)⟩
    · rw [State.ln_setFld, State.probe, State.ln_modLn_same]
    · exact (State.fld_setFld_field _ _ _ _ _ (by decide) (by decide)).trans h5
  · intro s l v hl hp hreq h5 hok
    have hx := exec_lanePmRequest (s := s) (v := v) hl hp (by omega)
    rw [if_neg (by omega), if_neg (by simp [h5, hok])] at hx
    exact ⟨_, hx, pmAsked_effect s l (by omega)⟩
  · intro s l v hl hp h0 hst hw
    have hx := exec_lanePmRequest (s := s) (v := v) hl hp (by omega)
    rw [if_pos h0] at hx
    exact ⟨_, hx, wakeAsked_effect hst hw⟩
  · intro s l v hl hp hreq hbad
    have hx := exec_lanePmRequest (s := s) (v := v) hl hp (by omega)
    rw [if_neg (by omega), if_pos (by simpa using hbad)] at hx
    exact rejected_effect (by decide) (by decide) hx
  · intro s l level b hl hp hu h5 hlevel hb hgot hok
    subst hb
    have hx := exec_pmRequestReceived hl hp hu h5 hlevel
    rw [countPm_fourth hgot] at hx
    dsimp only at hx
    rw [if_neg (by simp), pmAllowed_pmCounted, if_pos hok] at hx
    obtain ⟨hstate, -, hsince, -⟩ := enterPm_effect hlevel ((s.pmCounted l (0, 0)).sendBlocks l (List.replicate 4 (pmBlock level true))) l
    exact ⟨_, hx, ((keeps_execPmRequestReceived (List.Subset.refl _) l _ (Keeps.refl _ s)).next _ hx).only, hstate,
      mem_out_enterPm List.mem_cons_self l level, hsince⟩
  · intro s l level b hl hp hu h5 hlevel hb hgot hok
    subst hb
    have hx := exec_pmRequestReceived hl hp hu h5 hlevel
    rw [countPm_fourth hgot] at hx
    dsimp only at hx
    rw [if_neg (by simp), pmAllowed_pmCounted, hok, if_neg Bool.false_ne_true] at hx
    refine ⟨_, hx, (keeps_State_raise (by decide) _ _ (keeps_State_modLn (by decide) l _ (Keeps.refl _ s))).only, ?_,
      State.flag_raise_same _ _ _ (by decide) (by decide), (RegsBut.modLn (RegsBut.refl _ s)).raise (by simp)⟩
    rw [laneState_of_reg (State.reg_raise_ne _ _ _ _ (LANE_STAT_ne_ISR l)), State.pmCounted, laneState_modLn, h5]
  · intro s l level b hl hp hu h5 hlevel hb hgot
    subst hb
    have hx := exec_pmRequestReceived hl hp hu h5 hlevel
    rw [countPm_first hgot] at hx
    dsimp only at hx
    rw [if_pos (by simp)] at hx
    exact ⟨_, hx, (keeps_State_modLn (by decide) l _ (Keeps.refl _ s)).only, State.ln_modLn_same _ _ _,
      RegsBut.modLn (RegsBut.refl _ s), unitsBut_modLn s l _⟩
  · intro s l level since b hl hp hu h5 hlevel hpm ht hb hgot
    subst hb
    have hx := exec_pmAnswerReceived_fourth hl hp hu h5 hlevel hpm ht hgot
    exact ⟨_, hx, (keeps_State_enterPm (List.Subset.refl _) l level (keeps_State_modLn (by decide) l _ (Keeps.refl _ s))).only,
      enterPm_effect hlevel _ l⟩
  · intro s l level since hl hp hu hpm ht
    have hx := exec_pmTimeout hl hp hu hpm ht
    refine ⟨_, hx, ((keeps_execPmTimeout (List.Subset.refl _) l (Keeps.refl _ s)).next _ hx).only, ?_,
      State.flag_raise_same _ _ _ (by decide) (by decide), (RegsBut.modLn (RegsBut.refl _ s)).raise (by simp),
      (unitsBut_modLn s l _).of_lane (State.raise_lane _ _ _)⟩
    rw [State.ln_raise, State.ln_modLn_same]
  · intro s l hl hp hu hst
    exact ⟨_, exec_laneWake hl hp hu hst, (keeps_State_modLn (by decide) l _ (Keeps.refl _ s)).only, State.ln_modLn_same _ _ _,
      unitsBut_modLn s l _, RegsBut.modLn (RegsBut.refl _ s)⟩
  · intro s l hl hp hu hw hst
    have hx := exec_laneWakeDone hl hp hu hw hst
    exact ⟨_, hx, ((keeps_execLaneWakeDone (List.Subset.refl _) l (Keeps.refl _ s)).next _ hx).only, laneWoken_effect s l⟩
  · intro s l v hl hp h0 h4 hen hst
    have hx := exec_laneTestModeWrite (v := v) hl hp
    exact ⟨_, hx, ((keeps_execLaneTestModeWrite (List.Subset.refl _) l v (Keeps.refl _ s)).next _ hx).only,
      testEntered_effect h0 h4 hen hst⟩
  · intro s l v hl hp h0 h4 hen
    have hx := exec_laneTestModeWrite (v := v) hl hp
    rw [writeLaneTest_rejected h0 h4 hen] at hx
    exact rejected_effect (by decide) (by decide) hx
  · intro s l v hl hp h0 h4 hen h8
    have hx := exec_checkerStart (v := v) hl hp
    exact ⟨_, hx, ((keeps_execCheckerStart (List.Subset.refl _) l v (Keeps.refl _ s)).next _ hx).only,
      checkerStarted_effect h0 h4 hen h8⟩
  · intro s l received n hl hp hu h8 hchk hloop
    have hx := exec_checkerSync hl hp hu h8 hchk received n
    rw [hloop, if_neg Bool.false_ne_true] at hx
    exact next_of_keeps (keeps_execCheckerSync (List.Subset.refl _) l received n (Keeps.refl _ s)) hx
  · intro s l received n hl hp hu h8 hchk hloop
    have hx := exec_checkerSync hl hp hu h8 hchk received n
    rw [hloop, if_pos rfl] at hx
    exact next_of_keeps (keeps_execCheckerSync (List.Subset.refl _) l received n (Keeps.refl _ s)) hx
  · intro s l b hl hp hu h8 hchk hloop hseed hsync hb hclean
    have hx := exec_checkerSync_one hl hp hu h8 hchk hloop b
    have hln := ln_testSent s l 1
    obtain ⟨hflag, hcount, hregs⟩ := checkBit_synchronises (s := s.testSent l 1) (l := l) (b := b) (by rw [hln]; exact hseed) hsync
      (by rw [hln]; exact hb) (by rw [hln]; exact hclean)
    rw [hln] at hcount
    exact ⟨_, hx, ((keeps_execCheckerSync (List.Subset.refl _) l [b] 1 (Keeps.refl _ s)).next _ hx).only, hflag, hcount,
      (RegsBut.modLn (RegsBut.refl _ s)).trans hregs⟩
  · intro s l b hl hp hu h8 hchk hloop hseed hsync herr
    have hx := exec_checkerSync_one hl hp hu h8 hchk hloop b
    have honly := ((keeps_execCheckerSync (List.Subset.refl _) l [b] 1 (Keeps.refl _ s)).next _ hx).only
    have hln := ln_testSent s l 1
    obtain ⟨q, hq⟩ := checkBit_counts (s := s.testSent l 1) (l := l) (b := b) (by rw [hln]; exact hseed) hsync (by rw [hln]; exact herr)
    rw [hln] at hq
    obtain ⟨herrs, hbits, hregs⟩ := countBit_effect ((s.testSent l 1).modLn l q) l
      (b != expectedBit (s.fld (R.LANE_TEST l) F.LANE_TEST_MODE) (s.ln l).chk)
    have hall : RegsBut [R.LANE_TEST_ERRS l, R.LANE_TEST_BITS_LO l, R.LANE_TEST_BITS_HI l] s ((s.testSent l 1).checkBit l b) := by
      rw [hq]
      exact (RegsBut.modLn (RegsBut.modLn (RegsBut.refl _ s))).trans hregs
    have hne : R.LANE_TEST l ∉ [R.LANE_TEST_ERRS l, R.LANE_TEST_BITS_LO l, R.LANE_TEST_BITS_HI l] := by
      simp only [List.mem_cons, List.not_mem_nil, or_false, R.LANE_TEST, R.LANE_TEST_ERRS, R.LANE_TEST_BITS_LO, R.LANE_TEST_BITS_HI]
      omega
    refine ⟨_, hx, honly, ?_, ?_, (hall.flag hne _).trans hsync, hall⟩
    · rw [hq]
      refine herrs.trans ?_
      by_cases hb : b = expectedBit (s.fld (R.LANE_TEST l) F.LANE_TEST_MODE) (s.ln l).chk
      · rw [if_pos hb, hb, bne_self_eq_false, if_neg Bool.false_ne_true]
        rfl
      · rw [if_neg hb, if_pos (bne_iff_ne.mpr hb)]
        rfl
    · rw [hq]
      exact hbits
  · intro s l hl hp
    exact ⟨_, exec_inj1 hl hp, (keeps_State_modLn (by decide) l _ (Keeps.refl _ s)).only, State.ln_modLn_same _ _ _, unitsBut_modLn s l _⟩

end Sys2Proof.Machine

/-! # The Cave: writing, scanning, posting, freezing and reading records (O53) -/

namespace Sys2Proof.Machine

-- As above: the proofs of this part are elaborated one after another, which keeps the check within its memory.
set_option deprecated.oldSectionVars true

/-! ### Bytes of a number and of registers -/

/-- The number that bytes spell has these bytes. -/
theorem leBytes_leNat (bs : List Byte) : leBytes (leNat bs) bs.length = bs := by
  induction bs with
  | nil => rfl
  | cons b bs ih =>
    have hlow : BitVec.ofNat 8 (b.toNat + 256 * leNat bs) = b := BitVec.eq_of_toNat_eq (by rw [BitVec.toNat_ofNat]; omega)
    have hhigh : (b.toNat + 256 * leNat bs) / 256 = leNat bs := by omega
    rw [leNat, List.length_cons, leBytes, hlow, hhigh, ih]

theorem leBytes_leAt {bs : List Byte} {off n : Nat} (h : off + n ≤ bs.length) : leBytes (leAt bs off n) n = (bs.drop off).take n := by
  have hlen : ((bs.drop off).take n).length = n := by rw [List.length_take, List.length_drop]; omega
  have hb := leBytes_leNat ((bs.drop off).take n)
  rwa [hlen] at hb

theorem regBytes_congr {s t : State} {a n : Nat} (h : ∀ w < n, t.reg (a + 4 * w) = s.reg (a + 4 * w)) : t.regBytes a n = s.regBytes a n :=
  List.flatMap_congr fun w hw => by rw [h w (List.mem_range.mp hw)]

/-- Words of bytes written one after another, the first m of them. -/
theorem reg_eachWord (s : State) (a m b : Nat) (f : Nat → Word) : (s.each (List.range m) fun w t => t.setReg (a + 4 * w) (f w)).reg b =
    if ∃ w < m, b = a + 4 * w then f ((b - a) / 4) else s.reg b := by
  induction m with
  | zero => rw [if_neg (by simp)]; rfl
  | succ m ih =>
    have hlast : (s.each (List.range (m + 1)) fun w t => t.setReg (a + 4 * w) (f w)) =
        (s.each (List.range m) fun w t => t.setReg (a + 4 * w) (f w)).setReg (a + 4 * m) (f m) := by
      rw [State.each, List.range_succ, List.foldl_append]
      rfl
    rw [hlast]
    by_cases hb : b = a + 4 * m
    · rw [hb, State.reg_setReg_same, if_pos ⟨m, by omega, rfl⟩]
      congr 1
      omega
    · rw [State.reg_setReg_ne _ _ _ _ hb, ih]
      have hiff : (∃ w < m + 1, b = a + 4 * w) ↔ ∃ w < m, b = a + 4 * w :=
        ⟨fun ⟨w, hw, he⟩ => ⟨w, by rcases Nat.lt_succ_iff_lt_or_eq.mp hw with h | rfl; exacts [h, absurd he hb], he⟩,
          fun ⟨w, hw, he⟩ => ⟨w, by omega, he⟩⟩
      simp only [hiff]

theorem reg_setWords_same (s : State) (a : Nat) (bs : List Byte) {w : Nat} (hw : w < bs.length / 4) :
    (s.setWords a bs).reg (a + 4 * w) = BitVec.ofNat 32 (leAt bs (4 * w) 4) := by
  rw [State.setWords, reg_eachWord _ _ _ _ fun w => BitVec.ofNat 32 (leAt bs (4 * w) 4), if_pos ⟨w, hw, rfl⟩]
  have he : (a + 4 * w - a) / 4 = w := by omega
  rw [he]

theorem reg_setWords_outside (s : State) (a : Nat) (bs : List Byte) {b : Nat} (hb : b < a ∨ a + bs.length ≤ b) :
    (s.setWords a bs).reg b = s.reg b := by
  rw [State.setWords, reg_eachWord _ _ _ _ fun w => BitVec.ofNat 32 (leAt bs (4 * w) 4), if_neg]
  rintro ⟨w, hw, rfl⟩
  omega

/-- Words written give their bytes back. -/
theorem regBytes_setWords (s : State) (a : Nat) {n : Nat} {bs : List Byte} (h : bs.length = 4 * n) : (s.setWords a bs).regBytes a n = bs := by
  have hword : ∀ w < n, leBytes ((s.setWords a bs).reg (a + 4 * w)).toNat 4 = (bs.drop (4 * w)).take 4 := fun w hw => by
    have hlt : leAt bs (4 * w) 4 < 2 ^ 32 := leAt_lt bs _ 4
    rw [reg_setWords_same s a bs (by omega), BitVec.toNat_ofNat, Nat.mod_eq_of_lt hlt, leBytes_leAt (by omega)]
  have hpref : ∀ m ≤ n, ((List.range m).flatMap fun w => leBytes ((s.setWords a bs).reg (a + 4 * w)).toNat 4) = bs.take (4 * m) := by
    intro m hm
    induction m with
    | zero => rfl
    | succ m ih =>
      rw [List.range_succ, List.flatMap_append, ih (by omega), List.flatMap_cons, List.flatMap_nil, List.append_nil, hword m (by omega),
        Nat.mul_succ, List.take_add]
  have hall := hpref n (Nat.le_refl n)
  rwa [← h, List.take_length] at hall

theorem setWords_cave (s : State) (a : Nat) (bs : List Byte) : (s.setWords a bs).cave = s.cave :=
  each_unchanged State.cave (f := fun w t => t.setReg (a + 4 * w) (BitVec.ofNat 32 (leAt bs (4 * w) 4))) (fun _ _ _ => rfl) s

/-! ### Slots of the die (R440, R441, R447) -/

theorem storeBytes_eq_storeSound (bs : List Byte) (m : Tab Byte) (off : Nat) : storeBytes m off bs = storeSound [] m off bs := by
  induction bs generalizing m off with
  | nil => rfl
  | cons b bs ih => exact ih _ _

theorem slotBytes_of_die {s t : State} (h : t.cave.die = s.cave.die) (k : Nat) : t.slotBytes k = s.slotBytes k := by
  unfold State.slotBytes
  rw [h]

section
variable {s t : State} {k : Nat} {bs : List Byte}

theorem slotBytes_stored (h : t.cave.die = storeBytes s.cave.die (64 * k) bs) (hlen : bs.length = 64) : t.slotBytes k = bs := by
  refine List.ext_getElem (by rw [State.slotBytes, List.length_map, List.length_range, hlen]) fun i hi hi' => ?_
  simp only [State.slotBytes, List.getElem_map, List.getElem_range]
  rw [h, storeBytes_eq_storeSound]
  exact tabGet_storeSound [] bs _ (fun _ _ => rfl) hi'

theorem unitsBut_stored (h : t.cave.die = storeBytes s.cave.die (64 * k) bs) (hlen : bs.length = 64) :
    UnitsBut State.slotBytes k s t := by
  intro j hj
  refine List.map_congr_left fun i hi => ?_
  rw [List.mem_range] at hi
  rw [h, storeBytes_eq_storeSound]
  exact tabGet_storeSound_ne [] bs _ (by omega)

end

/-! ### A record written (R440, R446) -/

theorem length_padTo (n : Nat) (bs : List Byte) : (padTo n bs).length = n := by
  rw [padTo, List.length_take, List.length_append, zeros, List.length_replicate]
  omega

theorem length_caveRecBytes (r : CaveRec) (e q : Nat) : (r.bytes e q).length = 64 := by
  simp only [CaveRec.bytes, List.length_append, List.length_cons, List.length_nil, length_leBytes, length_padTo]

theorem recCode_bytes {r : CaveRec} (h : r.code < 2 ^ 16) (e q : Nat) : recCode (r.bytes e q) = r.code := leNat_leBytes (n := 2) h

/-- The die and the next SEQ with a record in its slot. -/
def State.slotTaken (s : State) (r : CaveRec) : Cave :=
  { s.cave with die := storeBytes s.cave.die (64 * s.slotOf s.cave.nextSeq) (r.bytes s.epoch s.cave.nextSeq), nextSeq := s.cave.nextSeq + 1 }

/-- A state with a record written, before the notes that a critical one makes. -/
def State.recorded (s : State) (r : CaveRec) : State :=
  ({ s with cave := s.slotTaken r }.setReg R.CAVE_HEAD_LO (BitVec.ofNat 32 s.cave.nextSeq)).setFld R.CAVE_HEAD_HI F.CAVE_HEAD_HI_SEQ
    (s.cave.nextSeq / 2 ^ 32)

section
variable {s : State} {r : CaveRec}

theorem caveWrite_of_normal (h : r.crit = false) : s.caveWrite r = s.recorded r := by
  rw [State.caveWrite]
  dsimp only
  rw [h, if_neg Bool.false_ne_true]
  rfl

theorem caveWrite_cave (s : State) (r : CaveRec) : (s.caveWrite r).cave = s.slotTaken r := by
  rw [State.caveWrite]
  dsimp only
  split
  · split
    · rw [State.satAdd_cave, State.raise_cave]; rfl
    · rw [State.raise_cave]; rfl
  · rfl

theorem regsBut_recorded (s : State) (r : CaveRec) : RegsBut [R.CAVE_HEAD_LO, R.CAVE_HEAD_HI] s (s.recorded r) :=
  (((RegsBut.refl _ s).of_regs (u := { s with cave := s.slotTaken r }) rfl).setReg (by simp)).setFld (by simp)

/-- The registers that a record written touches. -/
def caveWriteRegs : List Nat := [R.CAVE_HEAD_LO, R.CAVE_HEAD_HI, R.CAVE_ISR, R.CAVE_FRZ]

/-- What a critical record notes besides (R449). -/
theorem caveWrite_eq (s : State) (r : CaveRec) : s.caveWrite r =
    if r.crit then
      if ((s.recorded r).raise R.CAVE_ISR F.CAVE_ISR_CRIT).flag R.CAVE_STAT F.CAVE_STAT_FROZEN
        then ((s.recorded r).raise R.CAVE_ISR F.CAVE_ISR_CRIT).satAdd R.CAVE_FRZ F.CAVE_FRZ_CRIT 1
        else (s.recorded r).raise R.CAVE_ISR F.CAVE_ISR_CRIT
    else s.recorded r := rfl

theorem regsBut_caveWrite (s : State) (r : CaveRec) : RegsBut caveWriteRegs s (s.caveWrite r) := by
  have h : RegsBut caveWriteRegs s (s.recorded r) := (regsBut_recorded s r).mono (by decide)
  have hr : RegsBut caveWriteRegs s ((s.recorded r).raise R.CAVE_ISR F.CAVE_ISR_CRIT) := h.raise (by decide)
  rw [caveWrite_eq]
  exact RegsBut.ite (RegsBut.ite (hr.satAdd (by decide)) hr) h

theorem head_caveWrite (s : State) (r : CaveRec) : (s.caveWrite r).reg R.CAVE_HEAD_LO = BitVec.ofNat 32 s.cave.nextSeq := by
  have h : (s.recorded r).reg R.CAVE_HEAD_LO = BitVec.ofNat 32 s.cave.nextSeq :=
    (State.reg_setReg_ne _ _ _ _ (by decide)).trans (State.reg_setReg_same _ _ _)
  have hr : ((s.recorded r).raise R.CAVE_ISR F.CAVE_ISR_CRIT).reg R.CAVE_HEAD_LO = BitVec.ofNat 32 s.cave.nextSeq :=
    (State.reg_raise_ne _ _ _ _ (by decide)).trans h
  rw [caveWrite_eq]
  split
  · split
    · exact (State.reg_setReg_ne _ _ _ _ (by decide)).trans hr
    · exact hr
  · exact h

theorem die_caveWrite (s : State) (r : CaveRec) : (s.caveWrite r).cave.die =
    storeBytes s.cave.die (64 * s.slotOf s.cave.nextSeq) (r.bytes s.epoch s.cave.nextSeq) := congrArg Cave.die (caveWrite_cave s r)

/-- The slot of the record last written. -/
theorem slotOf_caveWrite (s : State) (r : CaveRec) :
    (s.caveWrite r).slotOf ((s.caveWrite r).cave.nextSeq - 1) = s.slotOf s.cave.nextSeq := by
  rw [State.slotOf, caveWrite_cave]
  rfl

theorem slotBytes_caveWrite (s : State) (r : CaveRec) :
    (s.caveWrite r).slotBytes (s.slotOf s.cave.nextSeq) = r.bytes s.epoch s.cave.nextSeq :=
  slotBytes_stored (die_caveWrite s r) (length_caveRecBytes _ _ _)

theorem unitsBut_caveWrite (s : State) (r : CaveRec) : UnitsBut State.slotBytes (s.slotOf s.cave.nextSeq) s (s.caveWrite r) :=
  unitsBut_stored (die_caveWrite s r) (length_caveRecBytes _ _ _)

end

/-! ### The recorder's turns (R446) -/

section
variable {s : State} {r : CaveRec} {rest : List CaveRec}

/-- A state whose critical stage has lost its oldest record. -/
def State.critTaken (s : State) (rest : List CaveRec) : State := { s with cave := { s.cave with crit := rest } }

/-- A state whose queue has lost its oldest record. -/
def State.queueTaken (s : State) (rest : List CaveRec) : State := { s with cave := { s.cave with queue := rest } }

theorem exec_caveRecordWrite_crit (hready : s.flag R.CAVE_STAT F.CAVE_STAT_READY = true) (hclear : s.cave.clearRec = none)
    (hcrit : s.cave.crit = r :: rest) : exec .caveRecordWrite s = .next ((s.critTaken rest).caveWrite r) := by
  have hx : exec .caveRecordWrite s = execCaveRecordWrite s := rfl
  rw [hx, execCaveRecordWrite, occurs_next hready, hclear, hcrit]
  rfl

theorem exec_caveRecordWrite_queue (hready : s.flag R.CAVE_STAT F.CAVE_STAT_READY = true) (hclear : s.cave.clearRec = none)
    (hcrit : s.cave.crit = []) (hheld : s.caveHeld = false) (hqueue : s.cave.queue = r :: rest) :
    exec .caveRecordWrite s = .next ((s.queueTaken rest).caveWrite r).caveLost := by
  have hx : exec .caveRecordWrite s = execCaveRecordWrite s := rfl
  rw [hx, execCaveRecordWrite, occurs_next hready, hclear, hcrit, hheld, hqueue]
  rfl

theorem caveLost_of_none (h : s.fld R.CAVE_LOST F.CAVE_LOST_COUNT = 0) : s.caveLost = s := by
  rw [State.caveLost, h]
  exact if_neg fun hn => hn.1 rfl

end

/-! ### The scan (R448, R454) -/

/-- A slot of an older epoch is erased. -/
def State.slotErased (s : State) (x : Nat × List Byte) : State := s.setSlot x.1 (zeros 64)

theorem stages_slotErased (s : State) (x : Nat × List Byte) :
    (s.slotErased x).cave.queue = s.cave.queue ∧ (s.slotErased x).cave.crit = s.cave.crit := by
  simp only [State.slotErased, State.setSlot, and_self]

/-- The sound records on the die. -/
def State.found (s : State) : List (Nat × List Byte) := (s.usedSlots.map fun k => (k, s.slotBytes k)).filter fun x => recCrcOk x.2

/-- The newest epoch among some records. -/
def foundEpoch (l : List (Nat × List Byte)) : Nat := l.foldl (fun m x => max m (recEpoch x.2)) 0

/-- The records of that epoch. -/
def foundLive (l : List (Nat × List Byte)) : List (Nat × List Byte) := l.filter fun x => decide (recEpoch x.2 = foundEpoch l)

/-- The die without older ones. -/
def State.oldErased (s : State) (l : List (Nat × List Byte)) : State :=
  (l.filter fun x => decide (recEpoch x.2 ≠ foundEpoch l)).foldl State.slotErased s

/-- The head and the base that the newest record gives. -/
def State.headFound (s : State) (l : List (Nat × List Byte)) : State :=
  match newest (fun _ => true) l with
  | some x =>
    (({ s with cave := { s.cave with base := (x.1 + slots - recSeq x.2 % slots) % slots, nextSeq := recSeq x.2 + 1 } } : State).setReg
      R.CAVE_HEAD_LO (BitVec.ofNat 32 (recSeq x.2))).setFld R.CAVE_HEAD_HI F.CAVE_HEAD_HI_SEQ (recSeq x.2 / 2 ^ 32)
  | none => { s with cave := { s.cave with base := 0, nextSeq := 0 } }

/-- Refused clears that the newest record of one counts. -/
def foundFails (l : List (Nat × List Byte)) : Nat :=
  match newest (fun b => decide (recCode b = 0x000E)) l with | some x => leAt x.2 0x24 4 | none => 0

/-- The state in which the scan writes the power-up record. -/
def State.scanned (s : State) : State :=
  (((((s.oldErased s.found).setFld R.CAVE_STAT F.CAVE_STAT_EPOCH (foundEpoch s.found)).headFound (foundLive s.found)).setFld
    R.CAVE_CLR_STAT F.CAVE_CLR_STAT_FAILS (min (foundFails (foundLive s.found)) 65535)).setFlag
    R.CAVE_STAT F.CAVE_STAT_READY true).raise R.CAVE_ISR F.CAVE_ISR_READY

theorem stages_oldErased (s : State) (l : List (Nat × List Byte)) :
    (s.oldErased l).cave.queue = s.cave.queue ∧ (s.oldErased l).cave.crit = s.cave.crit :=
  ⟨foldl_unchanged (fun u : State => u.cave.queue) (fun x _ u => (stages_slotErased u x).1) s,
    foldl_unchanged (fun u : State => u.cave.crit) (fun x _ u => (stages_slotErased u x).2) s⟩

theorem stages_headFound (s : State) (l : List (Nat × List Byte)) :
    (s.headFound l).cave.queue = s.cave.queue ∧ (s.headFound l).cave.crit = s.cave.crit := by
  unfold State.headFound
  split
  · exact ⟨rfl, rfl⟩
  · exact ⟨rfl, rfl⟩

theorem stages_scanned (s : State) : s.scanned.cave.queue = s.cave.queue ∧ s.scanned.cave.crit = s.cave.crit := by
  unfold State.scanned
  rw [State.raise_cave, State.setFlag_cave, State.setFld_cave, (stages_headFound _ _).1, (stages_headFound _ _).2, State.setFld_cave]
  exact stages_oldErased _ _

theorem ready_scanned (s : State) : s.scanned.flag R.CAVE_STAT F.CAVE_STAT_READY = true :=
  (flag_of_reg (State.reg_raise_ne _ _ _ _ (by decide)) _).trans (State.flag_setFlag_same _ _ _ _ (by decide) (by decide))

theorem isr_scanned (s : State) : s.scanned.flag R.CAVE_ISR F.CAVE_ISR_READY = true := State.flag_raise_same _ _ _ (by decide) (by decide)

/-- The scan ends with the power-up record. -/
theorem exec_caveScanDone {s : State} (h : s.flag R.CAVE_STAT F.CAVE_STAT_READY = false) :
    ∃ r : CaveRec, exec .caveScanDone s = .next (s.scanned.caveWrite r) ∧ r.code = 1 ∧ r.crit = false := by
  have hx : exec .caveScanDone s = execCaveScanDone s := rfl
  rw [hx, execCaveScanDone, occurs_next (by rw [h]; rfl)]
  exact ⟨_, rfl, rfl, rfl⟩

/-! ### Posting (R445, R446) -/

/-- What a record as posted takes from the state. -/
theorem caveRec_of_regs {s t : State} (hcal : t.reg R.TIM_CAL_CMD = s.reg R.TIM_CAL_CMD) (hstat : t.reg R.CAVE_STAT = s.reg R.CAVE_STAT)
    (hcave : t.cave = s.cave) (htime : t.time = s.time) : t.caveRec = s.caveRec := by
  funext code crit part src chn payload
  simp only [State.caveRec, State.coarse, State.caveHeld, State.calStamp, flag_of_reg hcal, flag_of_reg hstat, hcave, htime]

/-- A record at the end of the queue. -/
def State.caveQueued (s : State) (r : CaveRec) : State := { s with cave := { s.cave with queue := s.cave.queue ++ [r] } }

theorem keeps_caveQueued {A : List Part} {s t : State} (hA : [.cave] ⊆ A) (r : CaveRec) (h : Keeps A s t) : Keeps A s (t.caveQueued r) :=
  Keeps.upd_cave hA h rfl

theorem cavePost_normal {s : State} {code part src chn : Nat} {payload : List Byte} (h : s.cave.queue.length < 64) :
    s.cavePost code false part src chn payload = s.caveQueued (s.caveRec code false part src chn payload) := by
  rw [State.cavePost]
  dsimp only
  rw [if_neg Bool.false_ne_true, if_pos h]
  rfl

theorem cavePost_full {s : State} {code part src chn : Nat} {payload : List Byte} (h : 64 ≤ s.cave.queue.length) :
    s.cavePost code false part src chn payload = (s.satAdd R.CAVE_LOST F.CAVE_LOST_COUNT 1).raise R.CAVE_ISR F.CAVE_ISR_LOST := by
  rw [State.cavePost]
  dsimp only
  rw [if_neg Bool.false_ne_true, if_neg (by omega)]

/-- The state with the code of a post taken. -/
def State.codeTaken (s : State) (v : Word) : State := s.setReg R.CAVE_WR_CODE (BitVec.ofNat 32 (field F.CAVE_WR_CODE_CODE v))

section
variable {s : State} {src : Source} {v : Word}

theorem exec_cavePost (hcode : 0x8000 ≤ field F.CAVE_WR_CODE_CODE v) (hpost : field F.CAVE_WR_CODE_POST v = 1) :
    exec (.cavePost src v) s = .next ((s.codeTaken v).cavePost (field F.CAVE_WR_CODE_CODE v) false 0 (srcCode src) 0xFF
      ((s.codeTaken v).regBytes (R.CAVE_WR_PAY 0) 7)) := by
  have hx : exec (.cavePost src v) s = execCavePost src v s := rfl
  rw [hx, execCavePost, if_neg (by omega), if_pos hpost]
  rfl

theorem exec_cavePost_reserved (hcode : field F.CAVE_WR_CODE_CODE v < 0x8000) : exec (.cavePost src v) s = .next s.caveRej := by
  have hx : exec (.cavePost src v) s = execCavePost src v s := rfl
  rw [hx, execCavePost, if_pos hcode]

theorem payload_codeTaken : (s.codeTaken v).regBytes (R.CAVE_WR_PAY 0) 7 = s.regBytes (R.CAVE_WR_PAY 0) 7 :=
  regBytes_congr fun w _ => State.reg_setReg_ne _ _ _ _ (by unfold R.CAVE_WR_PAY R.CAVE_WR_CODE; omega)

theorem caveRec_codeTaken : (s.codeTaken v).caveRec = s.caveRec :=
  caveRec_of_regs (State.reg_setReg_ne _ _ _ _ (by decide)) (State.reg_setReg_ne _ _ _ _ (by decide)) rfl rfl

end

/-! ### Freeze and reading (R449, R450) -/

/-- The registers of the freeze. -/
def State.freezeFlags (s : State) : State :=
  ((s.setReg R.CAVE_FRZ (BitVec.ofNat 32 s.validCount)).setFlag R.CAVE_STAT F.CAVE_STAT_FROZEN true).setFlag R.CAVE_CTL F.CAVE_CTL_FREEZE true

/-- The Cave with the next SEQ noted and the queue held. -/
def Cave.frozen (c : Cave) : Cave := { c with frzSeq := c.nextSeq, queue := c.queue.map fun r => { r with queued := true } }

/-- A frozen state. -/
def State.frozen (s : State) : State := { s.freezeFlags with cave := s.cave.frozen }

theorem exec_caveFreeze {s : State} (h : s.flag R.CAVE_STAT F.CAVE_STAT_FROZEN = false) : exec .caveFreeze s = .next s.frozen := by
  have hx : exec .caveFreeze s = execCaveFreeze s := rfl
  rw [hx, execCaveFreeze, h, if_neg Bool.false_ne_true]
  rfl

theorem frozen_flag (s : State) : s.frozen.flag R.CAVE_STAT F.CAVE_STAT_FROZEN = true := by
  have h : s.freezeFlags.flag R.CAVE_STAT F.CAVE_STAT_FROZEN = true :=
    (State.flag_setFlag_ne _ _ _ _ (by decide)).trans (State.flag_setFlag_same _ _ _ _ (by decide) (by decide))
  exact h

theorem regsBut_frozen (s : State) : RegsBut [R.CAVE_FRZ, R.CAVE_STAT, R.CAVE_CTL] s s.frozen := by
  have h : RegsBut [R.CAVE_FRZ, R.CAVE_STAT, R.CAVE_CTL] s s.freezeFlags :=
    (((RegsBut.refl _ s).setReg (by simp)).setFlag (by simp)).setFlag (by simp)
  exact h.of_regs rfl

theorem count_frozen (s : State) : s.frozen.reg R.CAVE_FRZ = BitVec.ofNat 32 s.validCount := by
  have h : s.freezeFlags.reg R.CAVE_FRZ = BitVec.ofNat 32 s.validCount :=
    (State.reg_setFlag_ne _ _ _ _ _ (by decide)).trans ((State.reg_setFlag_ne _ _ _ _ _ (by decide)).trans (State.reg_setReg_same _ _ _))
  exact h

/-- What the lifting of a freeze leaves. -/
theorem unfreeze_effect (s : State) :
    s.unfreeze.flag R.CAVE_STAT F.CAVE_STAT_FROZEN = false ∧ s.unfreeze.cave = { s.cave with fetch := none } ∧
    s.unfreeze.flag R.CAVE_RD_STAT F.CAVE_RD_STAT_BUSY = false ∧ RegsBut [R.CAVE_STAT, R.CAVE_CTL, R.CAVE_RD_STAT] s s.unfreeze := by
  have hflags : RegsBut [R.CAVE_STAT, R.CAVE_CTL, R.CAVE_RD_STAT] s
      ((s.setFlag R.CAVE_STAT F.CAVE_STAT_FROZEN false).setFlag R.CAVE_CTL F.CAVE_CTL_FREEZE false) :=
    ((RegsBut.refl _ s).setFlag (by simp)).setFlag (by simp)
  have hfrozen : ((s.setFlag R.CAVE_STAT F.CAVE_STAT_FROZEN false).setFlag R.CAVE_CTL F.CAVE_CTL_FREEZE false).flag
      R.CAVE_STAT F.CAVE_STAT_FROZEN = false :=
    (State.flag_setFlag_ne _ _ _ _ (by decide)).trans (State.flag_setFlag_same _ _ _ _ (by decide) (by decide))
  refine ⟨(State.flag_setFlag_ne _ _ _ _ (by decide)).trans hfrozen, rfl,
    State.flag_setFlag_same _ _ _ _ (by decide) (by decide), RegsBut.setFlag (hflags.of_regs rfl) (by simp)⟩

section
variable {s : State} {v : Word}

/-- The registers of a fetch asked for. -/
def State.fetchFlags (s : State) (v : Word) : State :=
  (s.setFld R.CAVE_RD_AGE F.CAVE_RD_AGE_AGE (field F.CAVE_RD_AGE_AGE v)).setFlag R.CAVE_RD_STAT F.CAVE_RD_STAT_BUSY true

/-- A state with a fetch in progress. -/
def State.fetchAsked (s : State) (v : Word) : State :=
  { s.fetchFlags v with cave := { s.cave with fetch := some (field F.CAVE_RD_AGE_AGE v) } }

theorem exec_caveReadFetch (h : s.flag R.CAVE_STAT F.CAVE_STAT_FROZEN = true) :
    exec (.caveReadFetch v) s = .next (s.fetchAsked v) := by
  have hx : exec (.caveReadFetch v) s = execCaveReadFetch v s := rfl
  rw [hx, execCaveReadFetch, h, if_neg (by simp)]
  rfl

theorem exec_caveReadFetch_live (h : s.flag R.CAVE_STAT F.CAVE_STAT_FROZEN = false) : exec (.caveReadFetch v) s = .next s.caveRej := by
  have hx : exec (.caveReadFetch v) s = execCaveReadFetch v s := rfl
  rw [hx, execCaveReadFetch, h, if_pos (by simp)]

theorem regsBut_fetchAsked : RegsBut [R.CAVE_RD_AGE, R.CAVE_RD_STAT] s (s.fetchAsked v) := by
  have h : RegsBut [R.CAVE_RD_AGE, R.CAVE_RD_STAT] s (s.fetchFlags v) := ((RegsBut.refl _ s).setFld (by simp)).setFlag (by simp)
  exact h.of_regs rfl

theorem busy_fetchAsked : (s.fetchAsked v).flag R.CAVE_RD_STAT F.CAVE_RD_STAT_BUSY = true := by
  have h : (s.fetchFlags v).flag R.CAVE_RD_STAT F.CAVE_RD_STAT_BUSY = true := State.flag_setFlag_same _ _ _ _ (by decide) (by decide)
  exact h

end

/-- The slot of a fetched record. -/
def State.fetchSlot (s : State) (age : Nat) : Nat := (s.cave.base + s.cave.frzSeq + 2 * slots - 1 - age) % slots

/-- The bytes of a fetched record in their registers. -/
def State.fetchShown (s : State) (age : Nat) : State :=
  { s.setWords (R.CAVE_RD_DATA 0) (s.slotBytes (s.fetchSlot age)) with cave := { s.cave with fetch := none } }

/-- A fetch done. -/
def State.fetched (s : State) (age : Nat) : State :=
  (((s.fetchShown age).setFlag R.CAVE_RD_STAT F.CAVE_RD_STAT_BUSY false).setFlag R.CAVE_RD_STAT F.CAVE_RD_STAT_VALID
    (s.slotValid (s.fetchSlot age))).setFlag R.CAVE_RD_STAT F.CAVE_RD_STAT_OVERWR
    (decide (slots ≤ age + (s.cave.nextSeq - s.cave.frzSeq)))

section
variable {s : State} {age : Nat}

theorem exec_caveFetchDone (h : s.cave.fetch = some age) : exec .caveFetchDone s = .next (s.fetched age) := by
  have hx : exec .caveFetchDone s = execCaveFetchDone s := rfl
  rw [hx, execCaveFetchDone, h]
  dsimp only
  rw [setWords_cave]
  rfl

theorem length_slotBytes (s : State) (k : Nat) : (s.slotBytes k).length = 64 := by rw [State.slotBytes, List.length_map, List.length_range]

theorem regsBut_fetched (s : State) (age : Nat) : RegsBut [R.CAVE_RD_STAT] (s.fetchShown age) (s.fetched age) :=
  (((RegsBut.refl _ (s.fetchShown age)).setFlag (by simp)).setFlag (by simp)).setFlag (by simp)

theorem regBytes_fetched (s : State) (age : Nat) : (s.fetched age).regBytes (R.CAVE_RD_DATA 0) 16 = s.slotBytes (s.fetchSlot age) := by
  have hshown : (s.fetchShown age).regBytes (R.CAVE_RD_DATA 0) 16 = s.slotBytes (s.fetchSlot age) :=
    regBytes_setWords s (R.CAVE_RD_DATA 0) (length_slotBytes _ _)
  have hstat : ∀ w < 16, (s.fetched age).reg (R.CAVE_RD_DATA 0 + 4 * w) = (s.fetchShown age).reg (R.CAVE_RD_DATA 0 + 4 * w) := fun w _ =>
    regsBut_fetched s age _ (by rw [List.mem_singleton]; unfold R.CAVE_RD_DATA R.CAVE_RD_STAT; omega)
  exact (regBytes_congr hstat).trans hshown

theorem flags_fetched (s : State) (age : Nat) : (s.fetched age).flag R.CAVE_RD_STAT F.CAVE_RD_STAT_BUSY = false ∧
    (s.fetched age).flag R.CAVE_RD_STAT F.CAVE_RD_STAT_VALID = s.slotValid (s.fetchSlot age) := by
  refine ⟨?_, ?_⟩
  · exact (State.flag_setFlag_field _ _ _ _ _ (by decide) (by decide)).trans ((State.flag_setFlag_field _ _ _ _ _ (by decide) (by decide)).trans
      (State.flag_setFlag_same _ _ _ _ (by decide) (by decide)))
  · exact (State.flag_setFlag_field _ _ _ _ _ (by decide) (by decide)).trans (State.flag_setFlag_same _ _ _ _ (by decide) (by decide))

theorem regsIn_fetched (s : State) (age : Nat) : RegsIn R.CAVE_RD_STAT (R.CAVE_RD_DATA 16) s (s.fetched age) := by
  intro a ha
  have hout : a < R.CAVE_RD_DATA 0 ∨ R.CAVE_RD_DATA 0 + (s.slotBytes (s.fetchSlot age)).length ≤ a := by
    rw [length_slotBytes]
    unfold R.CAVE_RD_STAT R.CAVE_RD_DATA at *
    omega
  have hne : a ∉ [R.CAVE_RD_STAT] := by
    rw [List.mem_singleton]
    unfold R.CAVE_RD_STAT R.CAVE_RD_DATA at *
    omega
  exact (regsBut_fetched s age a hne).trans (reg_setWords_outside s _ _ hout)

end

/-! ### The obligation -/

/-- The effect of a rejected access to the Cave. -/
theorem caveRej_effect (s : State) : Only irqParts s s.caveRej ∧ s.caveRej.flag R.CAVE_ISR F.CAVE_ISR_REJ = true ∧
    RegsBut [R.CAVE_ISR] s s.caveRej :=
  ⟨State.only_raise _ _ _, State.flag_raise_same _ _ _ (by decide) (by decide), State.regsBut_raise s _ _⟩

/-- Settles O53: a record's slot reads back its bytes and no other slot moves, and what each command of the recorder leaves of the
Cave and its registers. -/
theorem caveRecorder : Obligations.CaveRecorder := by
  unfold Obligations.CaveRecorder
  refine ⟨?_, ?_, ?_, ?_, ?_, ?_, ?_, ?_, ?_, ?_, ?_⟩
  · intro s r rest hready hclear hcrit
    have htaken : Keeps [.regs, .pci, .cave, .out] s (s.critTaken rest) := Keeps.upd_cave (by decide) (Keeps.refl _ s) rfl
    refine ⟨_, exec_caveRecordWrite_crit hready hclear hcrit, ?_, slotBytes_caveWrite (s.critTaken rest) r,
      unitsBut_caveWrite (s.critTaken rest) r, ?_, ?_, ?_, head_caveWrite (s.critTaken rest) r⟩
    · exact (keeps_State_caveWrite (List.Subset.refl _) r htaken).only
    all_goals rw [caveWrite_cave]; rfl
  · intro s r rest hready hclear hcrit hheld hqueue hnormal hlost
    have hx := exec_caveRecordWrite_queue hready hclear hcrit hheld hqueue
    rw [caveWrite_of_normal hnormal] at hx
    have hregs : RegsBut [R.CAVE_HEAD_LO, R.CAVE_HEAD_HI] s ((s.queueTaken rest).recorded r) := regsBut_recorded (s.queueTaken rest) r
    rw [caveLost_of_none ((hregs.fld (by decide) _).trans hlost)] at hx
    have hw := caveWrite_of_normal (s := s.queueTaken rest) hnormal
    refine ⟨_, hx, ?_, ?_, ?_, rfl, hregs⟩
    · exact (keeps_State_setFld (by decide) _ _ _ (keeps_State_setReg (by decide) _ _
        (Keeps.upd_die (s0 := s) (by decide) (Keeps.refl _ s) fun k => tabWf_storeBytes _ _ (canon_die k)))).only
    · exact hw ▸ slotBytes_caveWrite (s.queueTaken rest) r
    · exact hw ▸ unitsBut_caveWrite (s.queueTaken rest) r
  · intro s h
    obtain ⟨r, hx, hcode, hnormal⟩ := exec_caveScanDone h
    have hregs : RegsBut [R.CAVE_HEAD_LO, R.CAVE_HEAD_HI] s.scanned (s.scanned.caveWrite r) := by
      rw [caveWrite_of_normal hnormal]
      exact regsBut_recorded _ r
    refine ⟨_, hx, ((keeps_execCaveScanDone (List.Subset.refl _) (Keeps.refl _ s)).next _ hx).only,
      (hregs.flag (by decide) _).trans (ready_scanned s), (hregs.flag (by decide) _).trans (isr_scanned s), ?_, ?_, ?_, ?_⟩
    · rw [caveWrite_cave]
      exact Nat.le_add_left _ _
    · rw [slotOf_caveWrite, slotBytes_caveWrite, recCode_bytes (by rw [hcode]; decide), hcode]
    · rw [caveWrite_cave]
      exact (stages_scanned s).1
    · rw [caveWrite_cave]
      exact (stages_scanned s).2
  · intro s src v hcode hpost hroom
    have hx := exec_cavePost (s := s) (src := src) hcode hpost
    rw [payload_codeTaken, cavePost_normal (s := s.codeTaken v) hroom, caveRec_codeTaken] at hx
    have htaken : Keeps [.regs, .cave] s (s.codeTaken v) := keeps_State_setReg (by decide) _ _ (Keeps.refl _ s)
    refine ⟨_, hx, (keeps_caveQueued (by decide) _ htaken).only, rfl, ?_⟩
    exact (regsBut_setReg s _ _).of_regs rfl
  · intro s src v hcode hpost hfull
    have hx := exec_cavePost (s := s) (src := src) hcode hpost
    rw [cavePost_full (s := s.codeTaken v) hfull] at hx
    have hlost : (s.codeTaken v).fld R.CAVE_LOST F.CAVE_LOST_COUNT = s.fld R.CAVE_LOST F.CAVE_LOST_COUNT :=
      fld_of_reg (State.reg_setReg_ne _ _ _ _ (by decide)) _
    refine ⟨_, hx, ?_, State.raise_cave _ _ _, ?_, State.flag_raise_same _ _ _ (by decide) (by decide), ?_⟩
    · exact (keeps_State_raise (by decide) _ _ (keeps_State_satAdd (by decide) _ _ _ (keeps_State_setReg (by decide) _ _
        (Keeps.refl _ s)))).only
    · rw [fld_of_reg (State.reg_raise_ne _ _ _ _ (by decide)), fld_satAdd_same _ _ _ _ (by decide), hlost]
    · exact RegsBut.raise (RegsBut.satAdd (RegsBut.setReg (RegsBut.refl _ s) (by simp)) (by simp)) (by simp)
  · intro s src v hcode
    exact ⟨_, exec_cavePost_reserved hcode, caveRej_effect s⟩
  · intro s h
    have hx := exec_caveFreeze h
    refine ⟨_, hx, ((keeps_execCaveFreeze (List.Subset.refl _) (Keeps.refl _ s)).next _ hx).only, frozen_flag s, ?_, rfl,
      count_frozen s, regsBut_frozen s⟩
    rw [State.caveHeld, frozen_flag]
    rfl
  · intro s
    have hx : exec .caveUnfreeze s = .next s.unfreeze := rfl
    exact ⟨_, hx, ((keeps_execCaveUnfreeze (List.Subset.refl _) (Keeps.refl _ s)).next _ hx).only, unfreeze_effect s⟩
  · intro s v h
    have hx := exec_caveReadFetch (v := v) h
    exact ⟨_, hx, ((keeps_execCaveReadFetch (List.Subset.refl _) v (Keeps.refl _ s)).next _ hx).only, rfl, busy_fetchAsked, regsBut_fetchAsked⟩
  · intro s v h
    exact ⟨_, exec_caveReadFetch_live h, caveRej_effect s⟩
  · intro s age h
    have hx := exec_caveFetchDone h
    obtain ⟨hbusy, hvalid⟩ := flags_fetched s age
    exact ⟨_, hx, ((keeps_execCaveFetchDone (List.Subset.refl _) (Keeps.refl _ s)).next _ hx).only, regBytes_fetched s age, rfl,
      hbusy, hvalid, regsIn_fetched s age⟩

end Sys2Proof.Machine

/-! # The Cave: the key, the challenge and the authorised clear (O54) -/

namespace Sys2Proof.Machine

-- As above: the proofs of this part are elaborated one after another, which keeps the check within its memory.
set_option deprecated.oldSectionVars true

/-! ### The key (R451) -/

/-- The state with the key of its registers in OTP. -/
def State.keyTaken (s : State) : State := { s with cave := { s.cave with key := s.regBytes (R.CAVE_KEY 0) 8 } }

/-- A provisioned state. -/
def State.provisioned (s : State) : State :=
  (s.keyTaken.setWords (R.CAVE_KEY 0) (zeros 32)).setFlag R.CAVE_STAT F.CAVE_STAT_KEYSET true

theorem exec_caveProvision {s : State} (hset : s.flag R.CAVE_STAT F.CAVE_STAT_KEYSET = false)
    (hkey : s.regBytes (R.CAVE_KEY 0) 8 ≠ zeros 32) : exec .caveProvision s = .next s.provisioned := by
  have hx : exec .caveProvision s = execCaveProvision s := rfl
  rw [hx, execCaveProvision, if_neg (by rw [hset, decide_eq_false hkey]; simp)]
  rfl

theorem exec_caveProvision_again {s : State} (hset : s.flag R.CAVE_STAT F.CAVE_STAT_KEYSET = true) :
    exec .caveProvision s = .next s.caveRej := by
  have hx : exec .caveProvision s = execCaveProvision s := rfl
  rw [hx, execCaveProvision, if_pos (by rw [hset, Bool.true_or])]

theorem provisioned_cave (s : State) : s.provisioned.cave = { s.cave with key := s.regBytes (R.CAVE_KEY 0) 8 } := by
  rw [State.provisioned, State.setFlag_cave, setWords_cave]
  rfl

theorem key_hidden_provisioned (s : State) : s.provisioned.regBytes (R.CAVE_KEY 0) 8 = zeros 32 :=
  (regBytes_congr fun w _ => State.reg_setFlag_ne _ _ _ _ _ (by unfold R.CAVE_KEY R.CAVE_STAT; omega)).trans
    (regBytes_setWords s.keyTaken _ (by decide))

/-! ### The challenge (R452) -/

/-- The bytes of a fresh challenge. -/
def State.challenge (s : State) : List Byte := (List.range 32).map (Config.challengeByte s.free)

/-- The challenge in its registers. -/
def State.challengeShown (s : State) : State := s.draw.2.setWords (R.CAVE_CHAL 0) s.challenge

/-- A state with a challenge running. -/
def State.challenged (s : State) : State :=
  { s.challengeShown with cave := { s.challengeShown.cave with chalAt := some s.time.mt } }

theorem challenged_cave (s : State) : s.challenged.cave = { s.cave with chalAt := some s.time.mt } := by
  have h : s.challengeShown.cave = s.cave := setWords_cave _ _ _
  rw [State.challenged, h]

theorem regsIn_challenged (s : State) : RegsIn (R.CAVE_CHAL 0) (R.CAVE_CHAL 8) s s.challenged := by
  intro a ha
  have hlen : s.challenge.length = 32 := by rw [State.challenge, List.length_map, List.length_range]
  have hout : a < R.CAVE_CHAL 0 ∨ R.CAVE_CHAL 0 + s.challenge.length ≤ a := by
    rw [hlen]
    unfold R.CAVE_CHAL at *
    omega
  exact reg_setWords_outside s.draw.2 _ _ hout

/-- A state without a challenge. -/
def State.challengeOver (s : State) : State := { s with cave := { s.cave with chalAt := none } }

theorem exec_challengeExpiry {s : State} {t : Nat} (ht : s.cave.chalAt = some t) (hdue : t + challengeU ≤ s.time.mt) :
    exec .challengeExpiry s = .next s.challengeOver := by
  have hx : exec .challengeExpiry s = execChallengeExpiry s := rfl
  rw [hx, execChallengeExpiry, ht]
  exact occurs_next (decide_eq_true hdue)

/-! ### CLEAR (R452, R453) -/

theorem exec_clear_accepted {s : State} {src : Source} (h : s.clearCode = 0) :
    exec (.clear src) s = .next (s.challengeOver.clearAccept (srcCode src)) := by
  have hx : exec (.clear src) s = execClear src s := rfl
  rw [hx, execClear]
  dsimp only
  rw [if_pos h]
  rfl

theorem exec_clear_refused {s : State} {src : Source} (h : s.clearCode ≠ 0) :
    exec (.clear src) s = .next (s.challengeOver.clearRefuse (srcCode src) s.clearCode) := by
  have hx : exec (.clear src) s = execClear src s := rfl
  rw [hx, execClear]
  dsimp only
  rw [if_neg h]
  rfl

/-- The registers of an accepted clear. -/
def State.clearFlags (s : State) : State :=
  (s.setFld R.CAVE_CLR_STAT F.CAVE_CLR_STAT_CODE 1).setFlag R.CAVE_STAT F.CAVE_STAT_CLEARING true

theorem clearFlags_effect (s : State) : s.clearFlags.flag R.CAVE_STAT F.CAVE_STAT_CLEARING = true ∧
    s.clearFlags.fld R.CAVE_CLR_STAT F.CAVE_CLR_STAT_CODE = 1 ∧ RegsBut [R.CAVE_CLR_STAT, R.CAVE_STAT] s s.clearFlags := by
  refine ⟨State.flag_setFlag_same _ _ _ _ (by decide) (by decide), ?_, ((RegsBut.refl _ s).setFld (by simp)).setFlag (by simp)⟩
  exact (fld_of_reg (State.reg_setFlag_ne _ _ _ _ _ (by decide)) _).trans (State.fld_setFld_same _ _ _ _ (by decide))

/-- An accepted clear sets its flags, and its record waits. -/
theorem clearAccept_effect (s : State) (src : Nat) : (s.clearAccept src).cave.chalAt = s.cave.chalAt ∧
    ((s.clearAccept src).cave.clearRec.map fun r => (r.code, r.crit)) = some (0x000D, true) ∧
    (s.clearAccept src).cave.die = s.cave.die ∧ (s.clearAccept src).regs = s.clearFlags.regs := ⟨rfl, rfl, rfl, rfl⟩

/-- The codes of R452 fit their field. -/
theorem clearCode_lt (s : State) : s.clearCode < 8 := by
  unfold State.clearCode
  dsimp only
  repeat' split
  all_goals decide

/-- The count and the code of a refused clear. -/
def State.refusalNoted (s : State) (code : Nat) : State :=
  (({ s with cave := { s.cave with refusedAt := some s.time.mt } } : State).setFld R.CAVE_CLR_STAT F.CAVE_CLR_STAT_CODE code).satAdd
    R.CAVE_CLR_STAT F.CAVE_CLR_STAT_FAILS 1

theorem reg_caveQueued (s : State) (r : CaveRec) (a : Nat) : (s.caveQueued r).reg a = s.reg a := rfl

theorem clearRefuse_of_room {s : State} (src code : Nat) (h : s.cave.queue.length < 64) : ∃ r : CaveRec, r.code = 0x000E ∧
    s.clearRefuse src code = ((s.refusalNoted code).caveQueued r).raise R.CAVE_ISR F.CAVE_ISR_CLEARFAIL := by
  rw [State.clearRefuse]
  dsimp only
  rw [cavePost_normal (by exact h)]
  exact ⟨_, rfl, rfl⟩

theorem refusalNoted_cave (s : State) (code : Nat) : (s.refusalNoted code).cave = { s.cave with refusedAt := some s.time.mt } := by
  rw [State.refusalNoted, State.satAdd_cave, State.setFld_cave]

theorem refusalNoted_effect (s : State) {code : Nat} (h : code < 8) :
    (s.refusalNoted code).fld R.CAVE_CLR_STAT F.CAVE_CLR_STAT_CODE = code ∧
    (s.refusalNoted code).fld R.CAVE_CLR_STAT F.CAVE_CLR_STAT_FAILS =
      min (s.fld R.CAVE_CLR_STAT F.CAVE_CLR_STAT_FAILS + 1) (2 ^ F.CAVE_CLR_STAT_FAILS.width - 1) ∧
    RegsBut [R.CAVE_CLR_STAT] s (s.refusalNoted code) := by
  have htaken : RegsBut [R.CAVE_CLR_STAT] s { s with cave := { s.cave with refusedAt := some s.time.mt } } := (RegsBut.refl _ s).of_regs rfl
  refine ⟨?_, ?_, (htaken.setFld (by simp)).satAdd (by simp)⟩
  · exact (State.fld_setFld_field _ _ _ _ _ (by decide) (by decide)).trans
      ((State.fld_setFld_same _ _ _ _ (by decide)).trans (Nat.mod_eq_of_lt h))
  · rw [State.refusalNoted, fld_satAdd_same _ _ _ _ (by decide), State.fld_setFld_field _ _ _ _ _ (by decide) (by decide)]
    rfl

/-- A refused clear with room in the queue: what it notes, and its record. -/
theorem clearRefuse_effect {s : State} (src : Nat) {code : Nat} (hcode : code < 8) (hroom : s.cave.queue.length < 64) :
    (s.clearRefuse src code).cave.chalAt = s.cave.chalAt ∧ (s.clearRefuse src code).cave.refusedAt = some s.time.mt ∧
    (s.clearRefuse src code).fld R.CAVE_CLR_STAT F.CAVE_CLR_STAT_CODE = code ∧
    (s.clearRefuse src code).fld R.CAVE_CLR_STAT F.CAVE_CLR_STAT_FAILS =
      min (s.fld R.CAVE_CLR_STAT F.CAVE_CLR_STAT_FAILS + 1) (2 ^ F.CAVE_CLR_STAT_FAILS.width - 1) ∧
    (s.clearRefuse src code).flag R.CAVE_ISR F.CAVE_ISR_CLEARFAIL = true ∧
    (s.clearRefuse src code).cave.queue.map (·.code) = s.cave.queue.map (·.code) ++ [0x000E] ∧
    (s.clearRefuse src code).cave.die = s.cave.die ∧ RegsBut [R.CAVE_CLR_STAT, R.CAVE_ISR] s (s.clearRefuse src code) := by
  obtain ⟨r, hr, he⟩ := clearRefuse_of_room src code hroom
  obtain ⟨hnoted, hfails, hregs⟩ := refusalNoted_effect s hcode
  have hclr : (((s.refusalNoted code).caveQueued r).raise R.CAVE_ISR F.CAVE_ISR_CLEARFAIL).reg R.CAVE_CLR_STAT =
      (s.refusalNoted code).reg R.CAVE_CLR_STAT := (State.reg_raise_ne _ _ _ _ (by decide)).trans (reg_caveQueued _ _ _)
  have hqueued : RegsBut [R.CAVE_CLR_STAT, R.CAVE_ISR] s ((s.refusalNoted code).caveQueued r) :=
    (hregs.mono (by decide)).trans fun a _ => reg_caveQueued _ _ _
  have hcave : (((s.refusalNoted code).caveQueued r).raise R.CAVE_ISR F.CAVE_ISR_CLEARFAIL).cave =
      { s.cave with refusedAt := some s.time.mt, queue := s.cave.queue ++ [r] } := by
    rw [State.raise_cave, State.caveQueued, refusalNoted_cave]
  rw [he]
  refine ⟨by rw [hcave], by rw [hcave], (fld_of_reg hclr _).trans hnoted, (fld_of_reg hclr _).trans hfails, State.flag_raise_same _ _ _ (by decide) (by decide),
    ?_, by rw [hcave], hqueued.raise (by simp)⟩
  rw [hcave, List.map_append, List.map_singleton, hr]

/-! ### The commit (R453) -/

/-- The next epoch, with the slot after the head as its first. -/
def State.epochBegun (s : State) : State :=
  ({ s with cave := { s.cave with base := s.slotOf s.cave.nextSeq, nextSeq := 0, clearRec := none } } : State).setFld
    R.CAVE_STAT F.CAVE_STAT_EPOCH (s.epoch + 1)

section
variable {s : State} {r : CaveRec}

theorem exec_caveRecordWrite_clear (hready : s.flag R.CAVE_STAT F.CAVE_STAT_READY = true) (hclear : s.cave.clearRec = some r) :
    exec .caveRecordWrite s = .next (s.epochBegun.caveWrite r) := by
  have hx : exec .caveRecordWrite s = execCaveRecordWrite s := rfl
  rw [hx, execCaveRecordWrite, occurs_next hready, hclear]
  rfl

theorem epoch_epochBegun (h : s.epoch < 0xFFFF) : s.epochBegun.epoch = s.epoch + 1 :=
  (State.fld_setFld_same _ _ _ _ (by decide)).trans (Nat.mod_eq_of_lt (show s.epoch + 1 < 2 ^ 16 by omega))

theorem epochBegun_cave (s : State) :
    s.epochBegun.cave = { s.cave with base := s.slotOf s.cave.nextSeq, nextSeq := 0, clearRec := none } := by
  rw [State.epochBegun, State.setFld_cave]

theorem slotOf_epochBegun (s : State) : s.epochBegun.slotOf 0 = s.slotOf s.cave.nextSeq := by
  rw [State.slotOf, epochBegun_cave, State.slotOf]
  exact Nat.mod_mod _ _

/-- The commit's record stands in the first slot of its epoch, and no other slot moves. -/
theorem slots_committed (r : CaveRec) (h : s.epoch < 0xFFFF) :
    (s.epochBegun.caveWrite r).slotBytes (s.slotOf s.cave.nextSeq) = r.bytes (s.epoch + 1) 0 ∧
    UnitsBut State.slotBytes (s.slotOf s.cave.nextSeq) s (s.epochBegun.caveWrite r) := by
  have hdie : s.epochBegun.cave.die = s.cave.die := by rw [epochBegun_cave]
  have hseq : s.epochBegun.cave.nextSeq = 0 := by rw [epochBegun_cave]
  have hslot := slotBytes_caveWrite s.epochBegun r
  have hunits := unitsBut_caveWrite s.epochBegun r
  rw [hseq, slotOf_epochBegun] at hslot hunits
  rw [epoch_epochBegun h] at hslot
  exact ⟨hslot, fun m hm => (hunits m hm).trans (slotBytes_of_die hdie m)⟩

end

/-! ### The erasure after the commit (R453) -/

/-- One entry of the die, for the list of slots in use. -/
def slotUsed (l : List Nat) (e : Nat × Byte) : List Nat :=
  match l with
  | k :: _ => if k = e.1 / 64 then l else e.1 / 64 :: l
  | [] => [e.1 / 64]

theorem mem_slotUsed (l : List Nat) (e : Nat × Byte) (k : Nat) : k ∈ slotUsed l e ↔ k ∈ l ∨ k = e.1 / 64 := by
  cases l with
  | nil => simp [slotUsed]
  | cons j l =>
    rw [slotUsed]
    split
    case isTrue h => rw [← h]; exact ⟨Or.inl, fun hk => hk.elim id fun hj => hj ▸ List.mem_cons_self⟩
    case isFalse => rw [List.mem_cons, or_comm]

theorem mem_usedSlots_iff (s : State) (k : Nat) : k ∈ s.usedSlots ↔ ∃ e ∈ s.cave.die, e.1 / 64 = k := by
  have hfold : ∀ (d : List (Nat × Byte)) (l : List Nat), k ∈ d.foldl slotUsed l ↔ k ∈ l ∨ ∃ e ∈ d, e.1 / 64 = k := by
    intro d
    induction d with
    | nil => simp
    | cons e d ih =>
      intro l
      rw [List.foldl_cons, ih, mem_slotUsed, or_assoc, eq_comm (a := k) (b := e.1 / 64)]
      simp only [List.mem_cons, exists_eq_or_imp]
  have h : s.usedSlots = s.cave.die.foldl slotUsed [] := rfl
  rw [h, hfold]
  simp

theorem tabGet_of_absent {α : Type} {d : Nat → α} {t : Tab α} {k : Nat} (h : ∀ e ∈ t, e.1 ≠ k) : tabGet d t k = d k := by
  induction t with
  | nil => rfl
  | cons e t ih =>
    rw [tabGet, if_neg (h e List.mem_cons_self)]
    exact ih fun x hx => h x (List.mem_cons_of_mem _ hx)

/-- A slot that is not in use holds zeros. -/
theorem slotBytes_of_unused {s : State} {k : Nat} (h : k ∉ s.usedSlots) : s.slotBytes k = zeros 64 := by
  refine List.eq_replicate_iff.mpr ⟨length_slotBytes s k, fun b hb => ?_⟩
  obtain ⟨i, hi, rfl⟩ := List.mem_map.mp hb
  rw [List.mem_range] at hi
  exact tabGet_of_absent fun e he hk => h ((mem_usedSlots_iff s k).mpr ⟨e, he, by omega⟩)

/-- A slot erased. -/
def State.slotZeroed (s : State) (k : Nat) : State := s.setSlot k (zeros 64)

theorem slotBytes_foldl_slotZeroed (l : List Nat) (s : State) (k : Nat) :
    (l.foldl State.slotZeroed s).slotBytes k = if k ∈ l then zeros 64 else s.slotBytes k := by
  induction l generalizing s with
  | nil => rfl
  | cons j l ih =>
    have hdie : (s.slotZeroed j).cave.die = storeBytes s.cave.die (64 * j) (zeros 64) := by rw [State.slotZeroed, State.setSlot]
    have hlen : (zeros 64).length = 64 := List.length_replicate
    rw [List.foldl_cons, ih]
    by_cases hk : k ∈ l
    · rw [if_pos hk, if_pos (List.mem_cons_of_mem _ hk)]
    · rw [if_neg hk]
      by_cases hj : k = j
      · rw [hj, if_pos List.mem_cons_self]
        exact slotBytes_stored hdie hlen
      · rw [if_neg fun h => (List.mem_cons.mp h).elim hj hk]
        exact unitsBut_stored hdie hlen k hj

/-- The die after the erasure. -/
def State.erasedOld (s : State) : State := (s.usedSlots.filter s.erasable).foldl State.slotZeroed s

/-- A state whose clear has ended. -/
def State.clearEnded (s : State) : State :=
  (s.erasedOld.setFlag R.CAVE_STAT F.CAVE_STAT_CLEARING false).raise R.CAVE_ISR F.CAVE_ISR_CLEARED

theorem exec_caveClearDone {s : State} (hclearing : s.flag R.CAVE_STAT F.CAVE_STAT_CLEARING = true) (hcommitted : s.cave.clearRec = none) :
    exec .caveClearDone s = .next s.clearEnded := by
  have hx : exec .caveClearDone s = execCaveClearDone s := rfl
  rw [hx, execCaveClearDone, occurs_next (by rw [hclearing, hcommitted]; rfl)]
  rfl

theorem slotBytes_erasedOld (s : State) (k : Nat) : s.erasedOld.slotBytes k = if s.slotValid k then s.slotBytes k else zeros 64 := by
  rw [State.erasedOld, slotBytes_foldl_slotZeroed]
  simp only [List.mem_filter, State.erasable, Bool.not_eq_true']
  cases hvalid : s.slotValid k with
  | true => simp
  | false =>
    by_cases hused : k ∈ s.usedSlots
    · simp [hused]
    · simp [hused, slotBytes_of_unused hused]

theorem regs_erasedOld (s : State) : s.erasedOld.regs = s.regs :=
  foldl_unchanged State.regs (fun k _ u => by rw [State.slotZeroed, State.setSlot]) s

theorem slotBytes_clearEnded (s : State) (k : Nat) : s.clearEnded.slotBytes k = if s.slotValid k then s.slotBytes k else zeros 64 := by
  have hdie : s.clearEnded.cave.die = s.erasedOld.cave.die := by rw [State.clearEnded, State.raise_cave, State.setFlag_cave]
  rw [slotBytes_of_die hdie, slotBytes_erasedOld]

theorem regsBut_clearEnded (s : State) : RegsBut [R.CAVE_STAT, R.CAVE_ISR] s s.clearEnded := by
  have h : RegsBut [R.CAVE_STAT, R.CAVE_ISR] s s.erasedOld := (RegsBut.refl _ s).of_regs (regs_erasedOld s)
  exact (h.setFlag (by simp)).raise (by simp)

/-! ### The obligation -/

/-- Settles O54: the key, the challenge, a clear accepted or refused, its commit, and the erasure of every slot that holds no valid
record of the new epoch. -/
theorem caveClearAndKey : Obligations.CaveClearAndKey := by
  unfold Obligations.CaveClearAndKey
  refine ⟨?_, ?_, ?_, ?_, ?_, ?_, ?_, ?_⟩
  · intro s hset hkey
    have hx := exec_caveProvision hset hkey
    exact ⟨_, hx, ((keeps_execCaveProvision (List.Subset.refl _) (Keeps.refl _ s)).next _ hx).only, provisioned_cave s,
      key_hidden_provisioned s, State.flag_setFlag_same _ _ _ _ (by decide) (by decide)⟩
  · intro s hset
    exact ⟨_, exec_caveProvision_again hset, caveRej_effect s⟩
  · intro s
    have hx : exec .challenge s = .next s.challenged := rfl
    exact ⟨_, hx, ((keeps_execChallenge (List.Subset.refl _) (Keeps.refl _ s)).next _ hx).only, challenged_cave s, regsIn_challenged s⟩
  · intro s t ht hdue
    have hx := exec_challengeExpiry ht hdue
    exact ⟨_, hx, ((keeps_execChallengeExpiry (List.Subset.refl _) (Keeps.refl _ s)).next _ hx).only, rfl, (RegsBut.refl _ s).of_regs rfl⟩
  · intro s src h
    have hx := exec_clear_accepted (src := src) h
    obtain ⟨hchal, hrec, hdie, hregs⟩ := clearAccept_effect s.challengeOver (srcCode src)
    obtain ⟨hclearing, hcode, hbut⟩ := clearFlags_effect s
    have hreg (a : Nat) : (s.challengeOver.clearAccept (srcCode src)).reg a = s.clearFlags.reg a := by
      unfold State.reg
      rw [hregs]
      rfl
    exact ⟨_, hx, ((keeps_execClear (List.Subset.refl _) src (Keeps.refl _ s)).next _ hx).only, hchal,
      (flag_of_reg (hreg _) _).trans hclearing, (fld_of_reg (hreg _) _).trans hcode, hrec, hdie, fun a ha => (hreg a).trans (hbut a ha)⟩
  · intro s src h hroom
    have hx := exec_clear_refused (src := src) h
    exact ⟨_, hx, ((keeps_execClear (List.Subset.refl _) src (Keeps.refl _ s)).next _ hx).only,
      clearRefuse_effect (s := s.challengeOver) (srcCode src) (clearCode_lt s) hroom⟩
  · intro s r hready hclear hepoch
    have hx := exec_caveRecordWrite_clear hready hclear
    refine ⟨_, hx, ((keeps_execCaveRecordWrite (List.Subset.refl _) (Keeps.refl _ s)).next _ hx).only, ?_, ?_, ?_, ?_, slots_committed r hepoch⟩
    · rw [caveWrite_cave, State.slotTaken, epochBegun_cave]
    · exact ((regsBut_caveWrite s.epochBegun r).fld (by decide) _).trans (epoch_epochBegun hepoch)
    · rw [caveWrite_cave, State.slotTaken, epochBegun_cave]
    · rw [caveWrite_cave, State.slotTaken, epochBegun_cave]
  · intro s k hclearing hcommitted _
    have hx := exec_caveClearDone hclearing hcommitted
    refine ⟨_, hx, ((keeps_execCaveClearDone (List.Subset.refl _) (Keeps.refl _ s)).next _ hx).only, slotBytes_clearEnded s k, ?_,
      State.flag_raise_same _ _ _ (by decide) (by decide), regsBut_clearEnded s⟩
    exact (flag_of_reg (State.reg_raise_ne _ _ _ _ (by decide)) _).trans (State.flag_setFlag_same _ _ _ _ (by decide) (by decide))

end Sys2Proof.Machine

/-! # The DRAM controller: an uncorrectable line under the event ring (O47) -/

namespace Sys2Proof.Machine

-- As above: the proofs of this part are elaborated one after another, which keeps the check within its memory.
set_option deprecated.oldSectionVars true

/-! ### A record makes its line sound (R123, R380) -/

section
variable {s t : State} {code chn stime d1 d2 : Nat} {cal : Stamp}

/-- The line that SEQ_EVT_WR names. -/
def State.evtLine (s : State) : Nat := s.fld R.SEQ_EVT_BASE F.SEQ_EVT_BASE_LINE + s.fld R.SEQ_EVT_WR F.SEQ_EVT_WR_INDEX

theorem ddr_evtWrite : (s.evtWrite code chn stime cal d1 d2).ddr =
    (s.writeDram s.evtAddr (recordBytes code chn s.grp.layer stime cal d1 d2)).ddr := by
  unfold State.evtWrite
  dsimp only
  split
  · rw [State.raise_ddr, State.setFld_ddr]
  · rw [State.setFld_ddr]

/-- A line written whole is sound. -/
theorem poisoned_writeDram_line {k : Nat} {bs : List Byte} (hlen : bs.length = 64) (h : s.dramOk (k * 64) 64 = true) :
    (s.writeDram (k * 64) bs).poisoned k = false := by
  have hddr : (s.writeDram (k * 64) bs).ddr.poisoned = soundLines s.ddr.poisoned k 1 := by
    have hfirst : (k * 64 + 63) / 64 = k := by omega
    have hcount : (k * 64 + 64) / 64 - k = 1 := by omega
    rw [State.writeDram, hlen, if_pos h]
    dsimp only
    rw [hfirst, hcount]
  rw [State.poisoned, hddr, tabGet_soundLines, if_pos (by omega)]

theorem poisoned_post_of_ringTakes (h : s.RingTakes) : (s.post code chn d1 d2).poisoned s.evtLine = false := by
  have hok := h.reachable
  rw [evtAddr_eq_line] at hok
  rw [State.post, State.postAt, postFull_of_ringTakes h, State.poisoned, ddr_evtWrite, evtAddr_eq_line]
  exact poisoned_writeDram_line (length_recordBytes _) hok

/-- The registers that decide whether and where the ring takes a record. -/
def ringRegs : List Nat := [R.SEQ_EVT_CTL, R.SEQ_EVT_WR, R.SEQ_EVT_RD, R.SEQ_EVT_BASE, R.DDR_STAT, R.DDR_CFG]

section
variable (hregs : ∀ a ∈ ringRegs, t.reg a = s.reg a)
include hregs

theorem evtLine_of_regs : t.evtLine = s.evtLine := by
  rw [State.evtLine, fld_of_reg (hregs _ (by decide)), fld_of_reg (hregs _ (by decide)), State.evtLine]

theorem State.RingTakes.of_regs (h : s.RingTakes) (hgrp : t.grp = s.grp) (hvariant : t.variant = s.variant) : t.RingTakes where
  on := (flag_of_reg (hregs _ (by decide)) _).trans h.on
  reachable := by
    rw [evtAddr_eq_line, ← State.evtLine, evtLine_of_regs hregs,
      dramOk_congr hvariant (hregs R.DDR_CFG (by decide)) (hregs R.DDR_STAT (by decide))]
    have hok := h.reachable
    rwa [evtAddr_eq_line] at hok
  space := by
    have hsize : t.evtSize = s.evtSize := by rw [State.evtSize, fld_of_reg (hregs R.SEQ_EVT_CTL (by decide)), State.evtSize]
    have hfill : t.evtFill = s.evtFill := by
      rw [State.evtFill, hsize, fld_of_reg (hregs R.SEQ_EVT_WR (by decide)), fld_of_reg (hregs R.SEQ_EVT_RD (by decide)), State.evtFill]
    rw [State.evtFull, hfill, hsize]
    exact h.space
  noLoss := by rw [hgrp]; exact h.noLoss

end

end

/-! ### The report of an uncorrectable line (R385, R402) -/

section
variable {s : State} {kind cls chn index : Nat}

/-- The counters, the flag and the note of an uncorrectable word, without its record. -/
def State.ueNoted (s : State) (kind cls index : Nat) : State :=
  ((s.satAdd R.INTG_UE F.INTG_UE_COUNT 1).intgLast kind cls index).raise R.INTG_ISR F.INTG_ISR_UE

/-- The time of a record of a kind noted. -/
def State.recTimed (s : State) (kind key : Nat) : State := { s with intg := { s.intg with lastRec := [(kind, key, s.time.mt)] } }

theorem detectUe_of_first (h : s.intg.lastRec = []) : ∃ key d2, s.detectUe kind cls chn index =
    ((s.ueNoted kind cls index).recTimed kind key).post 0xFF10 chn (intgData kind cls 0 index) d2 := by
  have hfirst : (s.ueNoted kind cls index).intg.lastRec = [] := by
    rw [State.ueNoted, State.raise_intg]
    exact h
  rw [State.detectUe, ← State.ueNoted, State.intgRecord, hfirst]
  exact ⟨_, _, rfl⟩

theorem regsBut_ueNoted (s : State) (kind cls index key : Nat) :
    RegsBut [R.INTG_UE, R.INTG_LAST, R.INTG_ISR] s ((s.ueNoted kind cls index).recTimed kind key) := by
  have h : RegsBut [R.INTG_UE, R.INTG_LAST, R.INTG_ISR] s (s.ueNoted kind cls index) :=
    (((RegsBut.refl _ s).satAdd (by simp)).setReg (by simp)).raise (by simp)
  exact h.of_regs rfl

end

/-- An uncorrectable line on which the ring stands is whole again once its own report is written there. -/
theorem poisoned_detectUe_of_ringTakes {s : State} {kind cls chn index : Nat} (h : s.RingTakes) (hfirst : s.intg.lastRec = []) :
    (s.detectUe kind cls chn index).poisoned s.evtLine = false := by
  obtain ⟨key, d2, he⟩ := detectUe_of_first (kind := kind) (cls := cls) (chn := chn) (index := index) hfirst
  have hbut := regsBut_ueNoted s kind cls index key
  have hregs : ∀ a ∈ ringRegs, ((s.ueNoted kind cls index).recTimed kind key).reg a = s.reg a := fun a ha =>
    hbut a (by revert a; decide)
  have hgrp : ((s.ueNoted kind cls index).recTimed kind key).grp = s.grp := State.raise_grp _ _ _
  have hvariant : ((s.ueNoted kind cls index).recTimed kind key).variant = s.variant := State.raise_variant _ _ _
  rw [he, ← evtLine_of_regs hregs]
  exact poisoned_post_of_ringTakes (h.of_regs hregs hgrp hvariant)

/-! ### The refutation -/

/-- A sound DRAM with an issued read of line 0, where the event ring of 64 records stands. -/
def readUnderRing : State :=
  let s : State := { State.reset with ddr := { State.reset.ddr with issued := [⟨0, 0, 0, false⟩] } }
  ((s.setFlag R.DDR_STAT F.DDR_STAT_READY true).setFlag R.SEQ_EVT_CTL F.SEQ_EVT_CTL_EN true).setFld
    R.SEQ_EVT_CTL F.SEQ_EVT_CTL_LOG2 6

/-- The state in which the uncorrectable line of that read is reported: counted, captured and marked. -/
def lineMarked : State :=
  let s := (({ readUnderRing with ddr := { readUnderRing.ddr with issued := [] } } : State).satAdd R.DDR_ECC_CE F.DDR_ECC_CE_COUNT 0).satAdd
    R.DDR_ECC_UE F.DDR_ECC_UE_COUNT 1
  let s := s.setReg R.DDR_ECC_ADDR 0
  { s with ddr := { s.ddr with poisoned := tabSet (fun _ => false) s.ddr.poisoned 0 true } }

theorem exec_readUnderRing : exec (.dramReadReturn ⟨0, true⟩ 0) readUnderRing =
    .next (lineMarked.detectUe 2 (Config.dramReport 0 0 % 16) 0xFF (Config.dramReport 0 1 % 2 ^ 24)) := rfl

theorem lineMarked_ringTakes : lineMarked.RingTakes where
  on := by decide
  reachable := by decide
  space := by decide
  noLoss := by decide

/-- Refutes O47: its ninth clause says of any uncorrectable read that its line is marked in the end. In `readUnderRing` the event ring
stands on the line read: the report of the error is a record of 64 bytes there, and a line written whole is sound again (R380, R385). -/
theorem not_dramController : ¬ Obligations.DramController := by
  rintro ⟨-, -, -, -, -, -, -, -, hread, -⟩
  obtain ⟨t, e, -, hmarked, -⟩ := hread readUnderRing 0 true 0 ⟨0, 0, 0, false⟩ (by decide) (Or.inl rfl)
  rw [exec_readUnderRing] at e
  obtain rfl := Host.Outcome.next.inj e
  have hline : lineMarked.evtLine = 0 := by decide
  have hsound := poisoned_detectUe_of_ringTakes (kind := 2) (cls := Config.dramReport 0 0 % 16) (chn := 0xFF)
    (index := Config.dramReport 0 1 % 2 ^ 24) lineMarked_ringTakes (by decide)
  rw [hline, hmarked] at hsound
  exact Bool.noConfusion hsound

end Sys2Proof.Machine

/-! # The boot ROM and the safe-state controller (O56) -/

namespace Sys2Proof.Machine

-- As above: the proofs of this part are elaborated one after another, which keeps the check within its memory.
set_option deprecated.oldSectionVars true

/-! ### An image's bytes (R458) -/

theorem leNat_append_zeros (bs : List Byte) (k : Nat) : leNat (bs ++ zeros k) = leNat bs := by
  induction bs with
  | nil =>
    rw [List.nil_append]
    induction k with
    | zero => rfl
    | succ k ih =>
      have hcons : leNat (zeros (k + 1)) = 0 + 256 * leNat (zeros k) := rfl
      rw [hcons, ih]
      rfl
  | cons b bs ih => rw [List.cons_append, leNat, ih, leNat]

/-- Zeros past the end of a list do not change the number read. -/
theorem leNat_padTo (n : Nat) (bs : List Byte) : leNat (padTo n bs) = leNat (bs.take n) := by
  by_cases h : bs.length ≤ n
  · rw [List.take_of_length_le h, padTo, List.take_of_length_le (by simp [zeros]; omega), leNat_append_zeros]
  · rw [padTo, List.take_append_of_le_length (by omega)]

/-- A flash slot as the boot ROM reads it. -/
def slotImage (b : List Byte) (off n : Nat) : List Byte := padTo n (b.drop off)

theorem imageField_slotImage (b : List Byte) (off n : Nat) : imageField (slotImage b) off n = leAt b off n := leNat_padTo _ _

theorem imageCode_lt (s : State) (img : Nat → Nat → List Byte) : s.imageCode img < 4 := by
  unfold State.imageCode
  repeat' split
  all_goals decide

theorem slotCode_lt (s : State) (slot : Option (List Byte)) : s.slotCode slot < 8 := by
  unfold State.slotCode
  split
  · decide
  · split
    · decide
    · exact Nat.lt_trans (imageCode_lt _ _) (by decide)

/-! ### HOST is raised through PWR_FWVOTE (R417, R459, R460) -/

section
variable (s : State)

/-- The vote register as the ROM writes it. -/
def State.hostVote (s : State) : Word := (s.reg R.PWR_FWVOTE ||| BitVec.ofNat 32 (2 ^ dHOST)) &&& 0x7FF

theorem regsBut_voteHost : RegsBut voteRegs (s.setReg R.PWR_FWVOTE s.hostVote) s.voteHost := by
  have h : RegsBut voteRegs (s.setReg R.PWR_FWVOTE s.hostVote) (s.setReg R.PWR_FWVOTE s.hostVote) := RegsBut.refl _ _
  exact (h.wakeRun.ite h).settlePower

theorem reg_voteHost {a : Nat} (ha : a ∉ voteRegs) (hne : a ≠ R.PWR_FWVOTE) : s.voteHost.reg a = s.reg a :=
  (regsBut_voteHost s a ha).trans (State.reg_setReg_ne _ _ _ _ hne)

theorem stat_voteHost : s.voteHost.reg R.BOOT_STAT = s.reg R.BOOT_STAT := reg_voteHost s (by decide) (by decide)

theorem l2_voteHost : s.voteHost.l2 = s.l2 := (keeps_State_voteHost (List.Subset.refl _) (Keeps.refl _ s)).part .l2 rfl

theorem host_voted : bitAt (s.voteHost.fld R.PWR_FWVOTE F.PWR_FWVOTE_DOM) dHOST = true := by
  have hreg : s.voteHost.reg R.PWR_FWVOTE = s.hostVote := (regsBut_voteHost s _ (by decide)).trans (State.reg_setReg_same _ _ _)
  have hbit : s.hostVote.toNat.testBit 5 = true := by
    rw [BitVec.testBit_toNat, State.hostVote, BitVec.getLsbD_and, BitVec.getLsbD_or, dHOST]
    simp
  rw [State.fld, hreg, bitAt_eq_testBit, field, dHOST, Nat.testBit_mod_two_pow]
  simpa [F.PWR_FWVOTE_DOM] using hbit

end

/-! ### An image runs (R459), or the ROM waits for one (R460) -/

section
variable (s : State) (slot : Nat) (img : Nat → Nat → List Byte)

/-- The endpoint's identification and the body of an image in their places. -/
def State.imageLoaded (s : State) (img : Nat → Nat → List Byte) : State :=
  let vendor := imageField img 0x16 2
  let sub := imageField img 0x12 2
  { s with l2 := img 0x80 (imageField img 8 4)
           pci := { s.pci with ids := [vendor, imageField img 0x10 2, if sub = 0 then vendor else sub, imageField img 0x14 2] } }

/-- The status of a part whose image runs. -/
def State.stageRun (s : State) (slot : Nat) (signed : Bool) : State :=
  ((s.setFld R.BOOT_STAT F.BOOT_STAT_STAGE 2).setFld R.BOOT_STAT F.BOOT_STAT_SLOT slot).setFlag R.BOOT_STAT F.BOOT_STAT_UNSIGNED !signed

theorem runImage_eq : s.runImage slot img =
    ((s.imageLoaded img).voteHost.stageRun slot (s.flag R.BOOT_STAT F.BOOT_STAT_KEYSET)).raise R.BOOT_ISR F.BOOT_ISR_BOOTED := rfl

theorem stat_runImage : (s.runImage slot img).reg R.BOOT_STAT =
    ((s.imageLoaded img).voteHost.stageRun slot (s.flag R.BOOT_STAT F.BOOT_STAT_KEYSET)).reg R.BOOT_STAT := by
  rw [runImage_eq]
  exact State.reg_raise_ne _ _ _ _ (by decide)

theorem stage_runImage : (s.runImage slot img).fld R.BOOT_STAT F.BOOT_STAT_STAGE = 2 := by
  rw [fld_of_reg (stat_runImage s slot img)]
  exact (State.fld_setFld_field _ _ _ _ _ (by decide) (by decide)).trans ((State.fld_setFld_field _ _ _ _ _ (by decide) (by decide)).trans
    (State.fld_setFld_same _ _ _ _ (by decide)))

theorem slot_runImage (h : slot < 4) : (s.runImage slot img).fld R.BOOT_STAT F.BOOT_STAT_SLOT = slot := by
  rw [fld_of_reg (stat_runImage s slot img)]
  exact (State.fld_setFld_field _ _ _ _ _ (by decide) (by decide)).trans
    ((State.fld_setFld_same _ _ _ _ (by decide)).trans (Nat.mod_eq_of_lt h))

theorem unsigned_runImage : (s.runImage slot img).flag R.BOOT_STAT F.BOOT_STAT_UNSIGNED = !s.flag R.BOOT_STAT F.BOOT_STAT_KEYSET := by
  rw [flag_of_reg (stat_runImage s slot img)]
  exact State.flag_setFlag_same _ _ _ _ (by decide) (by decide)

theorem fld_runImage {g : Field} (h : F.BOOT_STAT_UNSIGNED.lo + F.BOOT_STAT_UNSIGNED.width ≤ g.lo) :
    (s.runImage slot img).fld R.BOOT_STAT g = s.fld R.BOOT_STAT g := by
  rw [fld_of_reg (stat_runImage s slot img)]
  have h5 : 5 ≤ g.lo := h
  have hslot : F.BOOT_STAT_SLOT.lo + F.BOOT_STAT_SLOT.width ≤ g.lo := Nat.le_of_succ_le h5
  have hstage : F.BOOT_STAT_STAGE.lo + F.BOOT_STAT_STAGE.width ≤ g.lo := Nat.le_trans (by decide) hslot
  refine (State.fld_setFld_field _ _ _ _ _ (by decide) (Or.inl h)).trans ?_
  refine (State.fld_setFld_field _ _ _ _ _ (by decide) (Or.inl hslot)).trans ?_
  refine (State.fld_setFld_field _ _ _ _ _ (by decide) (Or.inl hstage)).trans ?_
  exact fld_of_reg (stat_voteHost _) _

theorem booted_runImage : (s.runImage slot img).flag R.BOOT_ISR F.BOOT_ISR_BOOTED = true := by
  rw [runImage_eq]
  exact State.flag_raise_same _ _ _ (by decide) (by decide)

theorem l2_runImage : (s.runImage slot img).l2 = img 0x80 (imageField img 8 4) := by
  rw [runImage_eq, State.raise_l2, State.stageRun, State.setFlag_l2, State.setFld_l2, State.setFld_l2, l2_voteHost]
  rfl

/-- The endpoint with the recovery identification. -/
def State.recoveryIds (s : State) : State :=
  let vendor := field F.BOOT_RECID_VENDOR Config.otpRecid
  { s with pci := { s.pci with ids := [vendor, field F.BOOT_RECID_DEVICE Config.otpRecid, vendor, 0xFFFF] } }

theorem hostload_eq : s.hostload = (s.recoveryIds.voteHost.setFld R.BOOT_STAT F.BOOT_STAT_STAGE 3).raise R.BOOT_ISR F.BOOT_ISR_BOOTFAIL := rfl

theorem stat_hostload : s.hostload.reg R.BOOT_STAT = (s.recoveryIds.voteHost.setFld R.BOOT_STAT F.BOOT_STAT_STAGE 3).reg R.BOOT_STAT := by
  rw [hostload_eq]
  exact State.reg_raise_ne _ _ _ _ (by decide)

theorem stage_hostload : s.hostload.fld R.BOOT_STAT F.BOOT_STAT_STAGE = 3 := by
  rw [fld_of_reg (stat_hostload s)]
  exact State.fld_setFld_same _ _ _ _ (by decide)

theorem fld_hostload {g : Field} (h : F.BOOT_STAT_STAGE.lo + F.BOOT_STAT_STAGE.width ≤ g.lo) :
    s.hostload.fld R.BOOT_STAT g = s.fld R.BOOT_STAT g := by
  rw [fld_of_reg (stat_hostload s), State.fld_setFld_field _ _ _ _ _ (by decide) (Or.inl h)]
  exact fld_of_reg (stat_voteHost _) _

theorem bootfail_hostload : s.hostload.flag R.BOOT_ISR F.BOOT_ISR_BOOTFAIL = true := by
  rw [hostload_eq]
  exact State.flag_raise_same _ _ _ (by decide) (by decide)

theorem host_hostload : bitAt (s.hostload.fld R.PWR_FWVOTE F.PWR_FWVOTE_DOM) dHOST = true := by
  have h : s.hostload.reg R.PWR_FWVOTE = s.recoveryIds.voteHost.reg R.PWR_FWVOTE := by
    rw [hostload_eq]
    exact (State.reg_raise_ne _ _ _ _ (by decide)).trans (State.reg_setFld_ne _ _ _ _ _ (by decide))
  rw [fld_of_reg h]
  exact host_voted _

end

section
variable {s : State} {slotA slotB : Option (List Byte)}

/-- The ROM with the failure code of slot A. -/
def State.failedA (s : State) (a : Nat) : State := s.setFld R.BOOT_STAT F.BOOT_STAT_FAILA a

/-- The ROM with the failure codes of both slots. -/
def State.failedBoth (s : State) (a b : Nat) : State := (s.failedA a).setFld R.BOOT_STAT F.BOOT_STAT_FAILB b

/-- The note of slot A's failure does not change the check of slot B. -/
theorem slotCode_failedA (s : State) (a : Nat) (slot : Option (List Byte)) : (s.failedA a).slotCode slot = s.slotCode slot := by
  have hset : (s.failedA a).flag R.BOOT_STAT F.BOOT_STAT_KEYSET = s.flag R.BOOT_STAT F.BOOT_STAT_KEYSET :=
    congrArg (fun k => decide (k ≠ 0)) (State.fld_setFld_field s _ _ _ a (by decide) (by decide))
  have hpk : (s.failedA a).boot.pk = s.boot.pk := rfl
  have hcode (img : Nat → Nat → List Byte) : (s.failedA a).imageCode img = s.imageCode img := by
    rw [State.imageCode, hset, hpk, State.imageCode]
  unfold State.slotCode
  split
  · rfl
  · rw [hcode]

section
variable (h0 : s.fld R.BOOT_STAT F.BOOT_STAT_STAGE = 0) (hup : s.up dMGMT = true)
include h0 hup

theorem exec_boot_slotA (hA : s.slotCode slotA = 0) : exec (.boot slotA slotB) s = .next (s.runImage 0 (slotImage (slotA.getD []))) := by
  have hx : exec (.boot slotA slotB) s = execBoot slotA slotB s := rfl
  rw [hx, execBoot, occurs_next (by rw [h0, hup]; rfl), if_pos hA]
  rfl

theorem exec_boot_slotB (hA : s.slotCode slotA ≠ 0) (hB : s.slotCode slotB = 0) :
    exec (.boot slotA slotB) s = .next ((s.failedA (s.slotCode slotA)).runImage 1 (slotImage (slotB.getD []))) := by
  have hx : exec (.boot slotA slotB) s = execBoot slotA slotB s := rfl
  rw [hx, execBoot, occurs_next (by rw [h0, hup]; rfl), if_neg hA]
  dsimp only
  rw [← State.failedA, if_pos ((slotCode_failedA _ _ _).trans hB)]
  rfl

theorem exec_boot_hostload (hA : s.slotCode slotA ≠ 0) (hB : s.slotCode slotB ≠ 0) :
    exec (.boot slotA slotB) s = .next (s.failedBoth (s.slotCode slotA) (s.slotCode slotB)).hostload := by
  have hx : exec (.boot slotA slotB) s = execBoot slotA slotB s := rfl
  rw [hx, execBoot, occurs_next (by rw [h0, hup]; rfl), if_neg hA]
  dsimp only
  rw [← State.failedA, slotCode_failedA, if_neg hB]
  rfl

end

theorem fail_failedA (s : State) {a : Nat} (ha : a < 8) : (s.failedA a).fld R.BOOT_STAT F.BOOT_STAT_FAILA = a :=
  (State.fld_setFld_same _ _ _ _ (by decide)).trans (Nat.mod_eq_of_lt ha)

theorem fail_failedBoth (s : State) {a b : Nat} (ha : a < 8) (hb : b < 8) :
    (s.failedBoth a b).fld R.BOOT_STAT F.BOOT_STAT_FAILA = a ∧ (s.failedBoth a b).fld R.BOOT_STAT F.BOOT_STAT_FAILB = b :=
  ⟨(State.fld_setFld_field _ _ _ _ _ (by decide) (by decide)).trans (fail_failedA s ha),
    (State.fld_setFld_same _ _ _ _ (by decide)).trans (Nat.mod_eq_of_lt hb)⟩

end

/-! ### Staging and BOOT_GO (R460, R461) -/

/-- The effect of a rejected access to the BOOT block. -/
theorem bootRej_effect (s : State) : Only irqParts s s.bootRej ∧ s.bootRej.flag R.BOOT_ISR F.BOOT_ISR_REJ = true ∧
    RegsBut [R.BOOT_ISR] s s.bootRej :=
  ⟨State.only_raise _ _ _, State.flag_raise_same _ _ _ (by decide) (by decide), State.regsBut_raise s _ _⟩

section
variable {s : State} {addr : Nat} {v : Word}

theorem exec_stagingWrite (hlo : stagingBase ≤ addr) (hhi : addr < stagingBase + stagingSize) (h4 : addr % 4 = 0) :
    exec (.stagingWrite addr v) s = .next (if s.fld R.BOOT_STAT F.BOOT_STAT_STAGE = 3 then s.setReg addr v else s.bootRej) := by
  have hx : exec (.stagingWrite addr v) s = execStagingWrite addr v s := rfl
  rw [hx, execStagingWrite, if_pos ⟨hlo, hhi, h4⟩]

theorem exec_bootGo (h3 : s.fld R.BOOT_STAT F.BOOT_STAT_STAGE = 3) : exec .bootGo s = .next
    (if s.imageCode s.stagedBytes = 0 then s.runImage 2 s.stagedBytes
      else s.setFld R.BOOT_STAT F.BOOT_STAT_FAILH (s.imageCode s.stagedBytes)) := by
  have hx : exec .bootGo s = execBootGo s := rfl
  rw [hx, execBootGo, if_neg (by rw [h3]; decide)]

theorem exec_bootProvision (hset : s.flag R.BOOT_STAT F.BOOT_STAT_KEYSET = false) (hkey : s.regBytes (R.BOOT_PK 0) 8 ≠ zeros 32) :
    exec .bootProvision s =
      .next (({ s with boot := { s.boot with pk := s.regBytes (R.BOOT_PK 0) 8 } } : State).setFlag R.BOOT_STAT F.BOOT_STAT_KEYSET true) := by
  have hx : exec .bootProvision s = execBootProvision s := rfl
  rw [hx, execBootProvision, if_neg (by rw [hset, decide_eq_false hkey]; simp)]

theorem exec_bootProvision_again (hset : s.flag R.BOOT_STAT F.BOOT_STAT_KEYSET = true) : exec .bootProvision s = .next s.bootRej := by
  have hx : exec .bootProvision s = execBootProvision s := rfl
  rw [hx, execBootProvision, if_pos (by rw [hset, Bool.true_or])]

end

/-! ### A stopped layer leaves the BOOT block (R43, R46) -/

/-- The blocks below the layer group's: an abort touches of them only what the Cave counts. -/
structure Below (a : Nat) : Prop where
  low : a < 0x80000
  notCave : a ∉ caveIntegrityRegs

section
variable {a : Nat} (h : Below a) (s : State)
include h

theorem Below.ne_of_le {b : Nat} (hb : 0x80000 ≤ b) : a ≠ b := fun he => absurd h.low (by omega)

theorem Below.notMem_evtRegs : a ∉ evtRegs := by
  have hlow := h.low
  simp only [List.mem_cons, List.not_mem_nil, or_false, R.SEQ_EVT_WR, R.SEQ_GRP_ISR, R.SEQ_EVT_DROP]
  omega

theorem Below.notMem_chanRegs {n : Nat} : a ∉ chanRegs n := by
  have hlow := h.low
  simp only [chanRegs, armRegs, evtRegs, List.mem_append, List.mem_cons, List.not_mem_nil, or_false, R.SEQ_STAT,
    R.SEQ_FAULT, R.SEQ_FAULT_SEQNO, R.SEQ_FAULT_S_LO, R.SEQ_FAULT_S_HI, R.SEQ_YDONE, R.SEQ_FEED_REFETCH, R.LSR_CH_MAN,
    R.LSR_CH_BOUNDS, R.LSR_CH_EVENTS, R.LSR_CH_EVENTS2, R.STI_CH_HANDS, R.STI_CH_FB, R.STI_CH_CLAMP, R.STI_CH_TOKERR,
    R.SEQ_RING_HEAD, R.SEQ_DISCARD, R.SRV_CH_STAT, R.SRV_AX_STAT, R.LSR_LOG_DROP, R.LSR_ISR, R.SEQ_GRP_DESC, R.SEQ_EVT_WR,
    R.SEQ_GRP_ISR, R.SEQ_EVT_DROP]
  omega

theorem reg_post_below (code chn d1 d2 : Nat) : (s.post code chn d1 d2).reg a = s.reg a :=
  (RegsBut.refl evtRegs s).post (List.Subset.refl _) _ h.notMem_evtRegs

theorem reg_cavePost_below (code : Nat) (crit : Bool) (part src chn : Nat) (payload : List Byte) :
    (s.cavePost code crit part src chn payload).reg a = s.reg a :=
  (RegsBut.refl caveIntegrityRegs s).cavePost (List.Subset.refl _) _ h.notCave

theorem reg_abortLayer_below (cause kind y mask : Nat) : (s.abortLayer cause kind y mask).reg a = s.reg a := by
  have hcave : (s.caveAbort cause kind).reg a = s.reg a := by
    unfold State.caveAbort
    dsimp only
    rw [reg_cavePost_below h, reg_cavePost_below h, reg_cavePost_below h]
    rfl
  have hchan (n : Nat) (u : State) : (u.abortChan n).reg a = u.reg a :=
    (RegsBut.refl _ u).abortChan (List.Subset.refl _) _ h.notMem_chanRegs
  unfold State.abortLayer
  dsimp only
  rw [State.reg_raise_ne _ _ _ _ (h.ne_of_le (by decide)), each_unchanged (fun u => u.reg a) (fun n _ u => hchan n u), State.modGrp_reg,
    State.setGrpState, State.reg_setFld_ne _ _ _ _ _ (h.ne_of_le (by decide)), reg_post_below h]
  exact hcave

theorem reg_stopLayer_below (kind : Nat) : (s.stopLayer kind).reg a = s.reg a := by
  have hsend (y : Nat) : (s.sendAbort y).reg a = s.reg a :=
    reg_of_same ((keeps_State_sendAbort (List.Subset.refl _) y (Keeps.refl _ s)).part .regs rfl) a
  unfold State.stopLayer
  split
  · exact (reg_abortLayer_below h _ _ _ _ _).trans (hsend _)
  · rfl

end

theorem latched_stopLayer (s : State) (kind : Nat) : (s.stopLayer kind).latched = s.latched := by
  unfold State.stopLayer
  split
  · exact latched_abortNow s 5 kind
  · rfl

/-! ### The emission stop (R170, R171) -/

/-- The emission stop without the records that two of its causes leave. -/
def State.stopLatched (s : State) (cause : Nat) : State :=
  let u := s.setFlag R.LSR_EMS F.LSR_EMS_LATCHED true
  (u.setFld R.LSR_EMS F.LSR_EMS_CAUSE (putBit (u.fld R.LSR_EMS F.LSR_EMS_CAUSE) cause true)).lapseAll.raise R.LSR_ISR F.LSR_ISR_EMS

theorem emissionStop_eq (s : State) (cause : Nat) : s.emissionStop cause =
    if cause = 0 || cause = 2 then
      ((s.stopLatched cause).post 0xFF09 0xFF (if cause = 0 then 1 else 2) s.gates).cavePost 0x0009 false 0 3 0xFF
        (leBytes (if cause = 0 then 1 else 2) 4 ++ leBytes s.gates 4)
    else s.stopLatched cause := rfl

theorem reg_lapseAll (s : State) (a : Nat) : s.lapseAll.reg a = s.reg a :=
  each_unchanged (fun u : State => u.reg a) (fun n _ u => State.reg_lapse u n a) s

theorem latched_stopLatched (s : State) (cause : Nat) : (s.stopLatched cause).latched = true := by
  unfold State.stopLatched
  dsimp only
  rw [latched_congr ((State.reg_raise_ne _ _ _ _ (by decide)).trans (reg_lapseAll _ _)), State.latched, State.flag,
    State.fld_setFld_field _ _ _ _ _ (by decide) (by decide)]
  exact State.flag_setFlag_same _ _ _ true (by decide) (by decide)

/-- Whatever its cause, the emission stop sets the latch. -/
theorem latched_emissionStop_any (s : State) (cause : Nat) : (s.emissionStop cause).latched = true := by
  have hset := latched_stopLatched s cause
  rw [emissionStop_eq]
  split
  · refine (latched_congr ?_).trans hset
    exact ((RegsBut.refl caveIntegrityRegs _).cavePost (List.Subset.refl _) _ (by decide)).trans
      ((RegsBut.refl evtRegs _).post (List.Subset.refl _) _ (by decide))
  · exact hset

theorem reg_emissionStop_below {a : Nat} (h : Below a) (s : State) (cause : Nat) : (s.emissionStop cause).reg a = s.reg a := by
  have hset : (s.stopLatched cause).reg a = s.reg a :=
    (State.reg_raise_ne _ _ _ _ (h.ne_of_le (by decide))).trans ((reg_lapseAll _ _).trans
      ((State.reg_setFld_ne _ _ _ _ _ (h.ne_of_le (by decide))).trans (State.reg_setFlag_ne _ _ _ _ _ (h.ne_of_le (by decide)))))
  rw [emissionStop_eq]
  split
  · rw [reg_cavePost_below h, reg_post_below h]
    exact hset
  · exact hset

/-! ### SAFE is entered (R466, R468) -/

theorem below_stat : Below R.BOOT_STAT := ⟨by decide, by decide⟩

theorem below_isr : Below R.BOOT_ISR := ⟨by decide, by decide⟩

section
variable (s : State) (cause : Nat)

/-- The emission stop of SAFE. -/
def State.safeStopped (s : State) : State := (s.setFld R.BOOT_STAT F.BOOT_STAT_SSC 2).emissionStop 2

/-- The balls of SAFE: SAFE_N and FAULT_N low. -/
def State.ballsLow (s : State) : State := { s with boot := { s.boot with safeN := false, faultN := false } }

theorem reg_ballsLow (a : Nat) : s.ballsLow.reg a = s.reg a := rfl

/-- The emission stop of SAFE, and its balls. -/
def State.safeBalls (s : State) : State := s.safeStopped.ballsLow

theorem enterSafe_eq : s.enterSafe cause =
    (s.safeBalls.cavePost 0x0005 true 0 3 0xFF (leBytes cause 4 ++ leBytes s.gates 4)).stopLayer 4 := rfl

theorem reg_safeBalls (a : Nat) : s.safeBalls.reg a = s.safeStopped.reg a := reg_ballsLow _ a

theorem reg_enterSafe_below {a : Nat} (h : Below a) : (s.enterSafe cause).reg a = (s.setFld R.BOOT_STAT F.BOOT_STAT_SSC 2).reg a := by
  rw [enterSafe_eq, reg_stopLayer_below h, reg_cavePost_below h, reg_safeBalls]
  exact reg_emissionStop_below h _ _

theorem ssc_enterSafe : (s.enterSafe cause).ssc = 2 :=
  (fld_of_reg (reg_enterSafe_below s cause below_stat) _).trans (State.fld_setFld_same _ _ _ _ (by decide))

theorem latched_enterSafe : (s.enterSafe cause).latched = true := by
  have h : (s.safeBalls.cavePost 0x0005 true 0 3 0xFF (leBytes cause 4 ++ leBytes s.gates 4)).reg R.LSR_EMS = s.safeStopped.reg R.LSR_EMS :=
    ((RegsBut.refl caveIntegrityRegs _).cavePost (List.Subset.refl _) _ (by decide)).trans (reg_safeBalls s _)
  rw [enterSafe_eq, latched_stopLayer, latched_congr h]
  exact latched_emissionStop_any _ _

theorem boot_enterSafe : (s.enterSafe cause).boot = { s.boot with safeN := false, faultN := false } := by
  have hstopped : s.safeStopped.boot = s.boot :=
    (keeps_State_emissionStop (List.Subset.refl _) 2 (Keeps.refl _ (s.setFld R.BOOT_STAT F.BOOT_STAT_SSC 2))).part .boot rfl
  have hballs : s.safeBalls.boot = { s.boot with safeN := false, faultN := false } := by
    rw [State.safeBalls, State.ballsLow, hstopped]
  have hpost (u : State) (p : List Byte) : (u.cavePost 0x0005 true 0 3 0xFF p).boot = u.boot :=
    (keeps_State_cavePost (List.Subset.refl _) _ _ _ _ _ _ (Keeps.refl _ u)).part .boot rfl
  have hstop (u : State) : (u.stopLayer 4).boot = u.boot := (keeps_State_stopLayer (List.Subset.refl _) 4 (Keeps.refl _ u)).part .boot rfl
  rw [enterSafe_eq, hstop, hpost, hballs]

/-- The cause of R466 noted. -/
def State.causeNoted (s : State) (cause : Nat) : State := (s.setFld R.BOOT_STAT F.BOOT_STAT_CAUSE cause).raise R.BOOT_ISR F.BOOT_ISR_SAFE

end

/-- What R468 says of SAFE, entered from a state with a cause. -/
structure SafeEntered (s : State) (cause : Nat) (t : State) : Prop where
  ssc : t.ssc = 2
  boot : t.boot = { s.boot with safeN := false, faultN := false }
  latched : t.latched = true
  isr : t.flag R.BOOT_ISR F.BOOT_ISR_SAFE = true
  cause : t.fld R.BOOT_STAT F.BOOT_STAT_CAUSE = cause

section
variable {s : State} {cause : Nat}

theorem ssc_causeNoted : (s.causeNoted cause).ssc = s.ssc := by
  have h : (s.causeNoted cause).reg R.BOOT_STAT = (s.setFld R.BOOT_STAT F.BOOT_STAT_CAUSE cause).reg R.BOOT_STAT :=
    State.reg_raise_ne _ _ _ _ (by decide)
  exact (fld_of_reg h _).trans (State.fld_setFld_field _ _ _ _ _ (by decide) (by decide))

theorem safeEntered_safeCause (hstate : s.ssc < 2) (hacts : s.ssc = 1 ∨ cause = 5) (hcause : cause < 8) :
    SafeEntered s cause (s.safeCause cause) := by
  have he : s.safeCause cause = (s.causeNoted cause).enterSafe cause := by
    rw [State.safeCause, if_neg (by omega)]
    dsimp only
    rw [← State.causeNoted, ssc_causeNoted, if_pos hacts]
  have hisr : ((s.causeNoted cause).enterSafe cause).reg R.BOOT_ISR = (s.causeNoted cause).reg R.BOOT_ISR :=
    (reg_enterSafe_below _ cause below_isr).trans (State.reg_setFld_ne _ _ _ _ _ (by decide))
  have hstat : (s.causeNoted cause).reg R.BOOT_STAT = (s.setFld R.BOOT_STAT F.BOOT_STAT_CAUSE cause).reg R.BOOT_STAT :=
    State.reg_raise_ne _ _ _ _ (by decide)
  rw [he]
  refine ⟨ssc_enterSafe _ _, ?_, latched_enterSafe _ _, ?_, ?_⟩
  · rw [boot_enterSafe, State.causeNoted, State.raise_boot, State.setFld_boot]
  · exact (flag_of_reg hisr _).trans (State.flag_raise_same _ _ _ (by decide) (by decide))
  · rw [fld_of_reg (reg_enterSafe_below _ cause below_stat), State.fld_setFld_field _ _ _ _ _ (by decide) (by decide), fld_of_reg hstat]
    exact (State.fld_setFld_same _ _ _ _ (by decide)).trans (Nat.mod_eq_of_lt hcause)

end

/-! ### Kicks (R464, R465) -/

section
variable {s : State} {k : Fin 4} {v : Word}

/-- BOOT_HB with the value of a kick. -/
def State.kicked (s : State) (v : Word) : State := s.setFld R.BOOT_HB F.BOOT_HB_VAL (field F.BOOT_HB_VAL v)

theorem exec_kick_core (s : State) (k : Fin 4) (v : Word) : exec (.kick (.core k) v) s = .next
    (if field F.BOOT_HB_VAL v = (s.fld R.BOOT_HB F.BOOT_HB_VAL + 1) % 256 then (s.kicked v).goodKick else (s.kicked v).badKick) := by
  have hx : exec (.kick (.core k) v) s = execKick (.core k) v s := rfl
  rw [hx, execKick]
  dsimp only
  rw [← State.kicked]
  by_cases h : field F.BOOT_HB_VAL v = (s.fld R.BOOT_HB F.BOOT_HB_VAL + 1) % 256
  · rw [if_pos h, decide_eq_true h, if_pos rfl]
  · rw [if_neg h, decide_eq_false h, if_neg Bool.false_ne_true]

theorem val_kicked (s : State) (v : Word) : (s.kicked v).fld R.BOOT_HB F.BOOT_HB_VAL = field F.BOOT_HB_VAL v :=
  (State.fld_setFld_same _ _ _ _ (by decide)).trans (Nat.mod_eq_of_lt (field_lt _ _))

theorem ssc_kicked (s : State) (v : Word) : (s.kicked v).ssc = s.ssc := fld_of_reg (State.reg_setFld_ne _ _ _ _ _ (by decide)) _

theorem regsBut_kicked (s : State) (v : Word) : RegsBut [R.BOOT_HB] s (s.kicked v) := (RegsBut.refl _ s).setFld (by simp)

/-- A state with a new supervision window. -/
def State.windowOpened (s : State) : State :=
  { s with boot := { s.boot with badRun := 0, windowAt := some (s.time.mt + windowU), suspended := false } }

/-- A state in which supervision has begun. -/
def State.supervising (s : State) : State :=
  { s.windowOpened.setFld R.BOOT_STAT F.BOOT_STAT_SSC 1 with
    boot := { s.windowOpened.boot with safeN := false, faultN := true, safeEdgeAt := s.time.mt } }

theorem goodKick_eq (s : State) : s.goodKick = if s.ssc = 0 then s.supervising else s.windowOpened := rfl

theorem regs_windowOpened (s : State) : s.windowOpened.regs = s.regs := rfl

theorem regs_supervising (s : State) : s.supervising.regs = (s.setFld R.BOOT_STAT F.BOOT_STAT_SSC 1).regs := rfl

theorem ssc_goodKick (s : State) : s.goodKick.ssc = if s.ssc = 0 then 1 else s.ssc := by
  rw [goodKick_eq]
  split
  · have h : s.supervising.reg R.BOOT_STAT = (s.setFld R.BOOT_STAT F.BOOT_STAT_SSC 1).reg R.BOOT_STAT := by
      rw [State.reg, regs_supervising, State.reg]
    exact (fld_of_reg h _).trans (State.fld_setFld_same _ _ _ _ (by decide))
  · exact fld_of_reg (by rw [State.reg, regs_windowOpened, State.reg]) _

theorem boot_goodKick (s : State) : s.goodKick.boot.badRun = 0 ∧ s.goodKick.boot.windowAt = some (s.time.mt + windowU) ∧
    s.goodKick.boot.suspended = false ∧ (s.ssc = 0 → s.goodKick.boot.faultN = true) := by
  rw [goodKick_eq]
  split
  · exact ⟨rfl, rfl, rfl, fun _ => rfl⟩
  next h => exact ⟨rfl, rfl, rfl, fun h0 => absurd h0 h⟩

theorem regsBut_goodKick (s : State) : RegsBut [R.BOOT_STAT] s s.goodKick := by
  have hset : RegsBut [R.BOOT_STAT] s (s.setFld R.BOOT_STAT F.BOOT_STAT_SSC 1) := (RegsBut.refl _ s).setFld (by simp)
  rw [goodKick_eq]
  exact RegsBut.ite (hset.of_regs (regs_supervising s)) ((RegsBut.refl _ s).of_regs (regs_windowOpened s))

/-- A bad kick counted. -/
def State.badCounted (s : State) : State := (s.satAdd R.BOOT_HB F.BOOT_HB_BAD 1).raise R.BOOT_ISR F.BOOT_ISR_BADKICK

/-- A state with a number of bad kicks in a row. -/
def State.inBadRun (s : State) (n : Nat) : State := { s with boot := { s.boot with badRun := n } }

theorem badKick_eq (s : State) : s.badKick =
    if s.badCounted.boot.badRun + 1 = 8 then (s.badCounted.inBadRun 0).safeCause 6
    else s.badCounted.inBadRun (s.badCounted.boot.badRun + 1) := rfl

theorem boot_badCounted (s : State) : s.badCounted.boot = s.boot := by rw [State.badCounted, State.raise_boot, State.satAdd_boot]

theorem regsBut_badCounted (s : State) : RegsBut [R.BOOT_HB, R.BOOT_ISR] s s.badCounted :=
  ((RegsBut.refl _ s).satAdd (by simp)).raise (by simp)

theorem reg_inBadRun (s : State) (n a : Nat) : (s.inBadRun n).reg a = s.reg a := rfl

theorem count_badCounted (s : State) : s.badCounted.fld R.BOOT_HB F.BOOT_HB_BAD =
    min (s.fld R.BOOT_HB F.BOOT_HB_BAD + 1) (2 ^ F.BOOT_HB_BAD.width - 1) :=
  (fld_of_reg (State.reg_raise_ne _ _ _ _ (by decide)) _).trans (fld_satAdd_same _ _ _ _ (by decide))

theorem ssc_badCounted (s : State) : s.badCounted.ssc = s.ssc := (regsBut_badCounted s).fld (by decide) _

theorem badKick_run (h : s.boot.badRun + 1 ≠ 8) : s.badKick = s.badCounted.inBadRun (s.boot.badRun + 1) := by
  rw [badKick_eq, boot_badCounted, if_neg h]

theorem badKick_eighth (h : s.boot.badRun = 7) : s.badKick = (s.badCounted.inBadRun 0).safeCause 6 := by
  rw [badKick_eq, boot_badCounted, h, if_pos rfl]

end

/-! ### The obligation -/

/-- Settles O56: which image BOOT and BOOT_GO run and what they report, the staging window and the key, good and bad kicks, and the one way
into SAFE that its causes share. -/
theorem bootAndSafeState : Obligations.BootAndSafeState := by
  unfold Obligations.BootAndSafeState
  refine ⟨?_, ?_, ?_, ?_, ?_, ?_, ?_, ?_, ?_, ?_, ?_, ?_, ?_, ?_, ?_, ?_, ?_, ?_, ?_, ?_⟩
  · intro s slotA slotB h0 hup hA
    have hx := exec_boot_slotA (slotB := slotB) h0 hup hA
    exact ⟨_, hx, ((keeps_execBoot (List.Subset.refl _) slotA slotB (Keeps.refl _ s)).next _ hx).only, rfl, stage_runImage s 0 _,
      slot_runImage s 0 _ (by decide), booted_runImage s 0 _, unsigned_runImage s 0 _⟩
  · intro s slotA slotB b h0 hup hslot hA
    have hx := exec_boot_slotA (slotB := slotB) h0 hup hA
    refine ⟨_, hx, ((keeps_execBoot (List.Subset.refl _) slotA slotB (Keeps.refl _ s)).next _ hx).only, ?_⟩
    rw [l2_runImage, imageField_slotImage, hslot]
    rfl
  · intro s slotA slotB h0 hup hA hB
    have hx := exec_boot_slotB h0 hup hA hB
    exact ⟨_, hx, ((keeps_execBoot (List.Subset.refl _) slotA slotB (Keeps.refl _ s)).next _ hx).only, stage_runImage _ 1 _,
      slot_runImage _ 1 _ (by decide), (fld_runImage _ 1 _ (by decide)).trans (fail_failedA s (slotCode_lt s slotA)), booted_runImage _ 1 _⟩
  · intro s slotA slotB h0 hup hA hB
    have hx := exec_boot_hostload h0 hup hA hB
    obtain ⟨hfailA, hfailB⟩ := fail_failedBoth s (slotCode_lt s slotA) (slotCode_lt s slotB)
    exact ⟨_, hx, ((keeps_execBoot (List.Subset.refl _) slotA slotB (Keeps.refl _ s)).next _ hx).only, stage_hostload _,
      (fld_hostload _ (by decide)).trans hfailA, (fld_hostload _ (by decide)).trans hfailB, bootfail_hostload _, host_hostload _⟩
  · intro s addr v hlo hhi h4 h3
    have hx := exec_stagingWrite (s := s) (v := v) hlo hhi h4
    rw [if_pos h3] at hx
    exact ⟨_, hx, (keeps_State_setReg (List.Subset.refl _) _ _ (Keeps.refl _ s)).only, State.reg_setReg_same _ _ _, regsBut_setReg s _ _⟩
  · intro s addr v hlo hhi h4 h3
    have hx := exec_stagingWrite (s := s) (v := v) hlo hhi h4
    rw [if_neg h3] at hx
    exact ⟨_, hx, bootRej_effect s⟩
  · intro s h3 hcode
    have hx := exec_bootGo h3
    rw [if_pos hcode] at hx
    exact ⟨_, hx, ((keeps_execBootGo (List.Subset.refl _) (Keeps.refl _ s)).next _ hx).only, stage_runImage s 2 _,
      slot_runImage s 2 _ (by decide), booted_runImage s 2 _, l2_runImage s 2 _⟩
  · intro s h3 hcode
    have hx := exec_bootGo h3
    rw [if_neg hcode] at hx
    refine ⟨_, hx, (keeps_State_setFld (List.Subset.refl _) _ _ _ (Keeps.refl _ s)).only, ?_, ?_, (RegsBut.refl _ s).setFld (by simp)⟩
    · exact (State.fld_setFld_same _ _ _ _ (by decide)).trans (Nat.mod_eq_of_lt (Nat.lt_trans (imageCode_lt s _) (by decide)))
    · exact (State.fld_setFld_field _ _ _ _ _ (by decide) (by decide)).trans h3
  · intro s hset hkey
    refine ⟨_, exec_bootProvision hset hkey, ?_, rfl, State.flag_setFlag_same _ _ _ _ (by decide) (by decide), ?_⟩
    · exact (keeps_State_setFlag (by decide) _ _ _ (Keeps.upd_boot (A := [.regs, .boot]) (by decide) (Keeps.refl _ s))).only
    · exact RegsBut.setFlag ((RegsBut.refl _ s).of_regs rfl) (by simp)
  · intro s hset
    exact ⟨_, exec_bootProvision_again hset, bootRej_effect s⟩
  · intro s src v
    have hkeeps := keeps_execKick (List.Subset.refl _) src v (Keeps.refl _ s)
    cases src with
    | host => exact ⟨_, rfl, (hkeeps.next _ rfl).only, rfl⟩
    | core k => exact ⟨_, exec_kick_core s k v, (hkeeps.next _ (exec_kick_core s k v)).only, rfl⟩
    | hoop => exact ⟨_, rfl, (hkeeps.next _ rfl).only, rfl⟩
  · intro s k v hval
    have hx := exec_kick_core s k v
    rw [if_pos hval] at hx
    obtain ⟨hrun, hwindow, hsusp, hfault⟩ := boot_goodKick (s.kicked v)
    refine ⟨_, hx, ((keeps_execKick (List.Subset.refl _) (.core k) v (Keeps.refl _ s)).next _ hx).only,
      ((regsBut_goodKick _).fld (by decide) _).trans (val_kicked s v), hrun, hwindow, hsusp, ?_, ?_, ?_⟩
    · rw [ssc_goodKick, ssc_kicked]
    · intro h0
      exact hfault ((ssc_kicked s v).trans h0)
    · exact ((regsBut_kicked s v).mono (by simp)).trans ((regsBut_goodKick _).mono (by simp))
  · intro s k v hval hrun
    have hx := exec_kick_core s k v
    rw [if_neg hval, badKick_run (s := s.kicked v) hrun] at hx
    have hregs : RegsBut [R.BOOT_HB, R.BOOT_ISR] s (s.kicked v).badCounted := ((regsBut_kicked s v).mono (by simp)).trans (regsBut_badCounted _)
    have hbad : (s.kicked v).fld R.BOOT_HB F.BOOT_HB_BAD = s.fld R.BOOT_HB F.BOOT_HB_BAD :=
      State.fld_setFld_field _ _ _ _ _ (by decide) (by decide)
    refine ⟨_, hx, ((keeps_execKick (List.Subset.refl _) (.core k) v (Keeps.refl _ s)).next _ hx).only, ?_, ?_, ?_, ?_⟩
    · rw [fld_of_reg (reg_inBadRun _ _ _), count_badCounted, hbad]
    · rw [State.inBadRun, boot_badCounted]
      rfl
    · exact (flag_of_reg (reg_inBadRun _ _ _) _).trans (State.flag_raise_same _ _ _ (by decide) (by decide))
    · exact fun a ha => (reg_inBadRun _ _ _).trans (hregs a ha)
  · intro s k v hval hrun hssc
    have hx := exec_kick_core s k v
    rw [if_neg hval, badKick_eighth (s := s.kicked v) hrun] at hx
    have h1 : ((s.kicked v).badCounted.inBadRun 0).ssc = 1 :=
      (fld_of_reg (reg_inBadRun _ _ _) _).trans ((ssc_badCounted _).trans ((ssc_kicked s v).trans hssc))
    obtain ⟨htwo, hboot, hlatched, hisr, hcause⟩ := safeEntered_safeCause (cause := 6) (by omega) (Or.inl h1) (by decide)
    exact ⟨_, hx, ((keeps_execKick (List.Subset.refl _) (.core k) v (Keeps.refl _ s)).next _ hx).only, htwo, congrArg Boot.safeN hboot,
      congrArg Boot.faultN hboot, hlatched, gates_of_latched hlatched, hisr, hcause⟩
  · intro s v
    exact ⟨_, rfl, bootRej_effect s⟩
  · intro s t0 hwindow hend hssc
    have hx : exec .heartbeatWindowEnd s =
        .next (({ s with boot := { s.boot with windowAt := none, suspended := false } } : State).safeCause 1) := by
      have he : exec .heartbeatWindowEnd s = execHeartbeatWindowEnd s := rfl
      rw [he, execHeartbeatWindowEnd, hwindow]
      exact occurs_next (decide_eq_true hend)
    have h1 : ({ s with boot := { s.boot with windowAt := none, suspended := false } } : State).ssc = 1 := hssc
    obtain ⟨htwo, hboot, hlatched, hisr, hcause⟩ := safeEntered_safeCause (cause := 1) (by omega) (Or.inl h1) (by decide)
    exact ⟨_, hx, ((keeps_execHeartbeatWindowEnd (List.Subset.refl _) (Keeps.refl _ s)).next _ hx).only, htwo, congrArg Boot.safeN hboot,
      congrArg Boot.faultN hboot, hlatched, gates_of_latched hlatched, hisr, congrArg Boot.windowAt hboot, hcause⟩
  · intro s src hssc
    have hcause : (match src with | .host => 2 | .core _ => 3 | .hoop => 4 : Nat) < 8 := by split <;> decide
    obtain ⟨htwo, hboot, hlatched, hisr, hnoted⟩ := safeEntered_safeCause (s := s) (by omega) (Or.inl hssc) hcause
    exact ⟨_, rfl, ((keeps_execSafeEnter (List.Subset.refl _) src (Keeps.refl _ s)).next _ rfl).only, htwo, congrArg Boot.safeN hboot,
      congrArg Boot.faultN hboot, hlatched, gates_of_latched hlatched, hisr, hnoted⟩
  · intro s src hssc
    obtain ⟨c, hx⟩ : ∃ c, exec (.safeEnter src) s = .next (s.safeCause c) := ⟨_, rfl⟩
    rw [State.safeCause, if_pos hssc] at hx
    exact ⟨s, hx, Only.refl _ s, rfl, RegsBut.refl _ s⟩
  · intro s hssc
    have hx : exec .xtalLoss s = .next (({ s with boot := { s.boot with xtal := false } } : State).safeCause 5) := rfl
    have h1 : ({ s with boot := { s.boot with xtal := false } } : State).ssc < 2 := hssc
    obtain ⟨htwo, hboot, hlatched, hisr, hcause⟩ := safeEntered_safeCause (cause := 5) h1 (Or.inr rfl) (by decide)
    exact ⟨_, hx, ((keeps_execXtalLoss (List.Subset.refl _) (Keeps.refl _ s)).next _ hx).only, htwo, congrArg Boot.safeN hboot,
      congrArg Boot.faultN hboot, hlatched, gates_of_latched hlatched, hisr, congrArg Boot.xtal hboot, hcause⟩
  · intro s hssc hreset hedge
    have hx : exec .safeNToggle s =
        .next { s with boot := { s.boot with safeN := !s.boot.safeN, safeEdgeAt := s.boot.safeEdgeAt + 16 * xtalU } } := by
      have he : exec .safeNToggle s = execSafeNToggle s := rfl
      rw [he, execSafeNToggle]
      exact occurs_next (by rw [hssc, hreset, decide_eq_true hedge]; rfl)
    exact ⟨_, hx, ((keeps_execSafeNToggle (List.Subset.refl _) (Keeps.refl _ s)).next _ hx).only, rfl, (RegsBut.refl _ s).of_regs rfl⟩

end Sys2Proof.Machine

/-! # Resets of the device (O55) -/

namespace Sys2Proof.Machine

-- As above: the proofs of this part are elaborated one after another, which keeps the check within its memory.
set_option deprecated.oldSectionVars true

/-! ### What a block reset does to a register (R12) -/

/-- A register of a block that is reset holds what the reset makes of some word, or its reset value. -/
theorem reg_resetRegs_inside (s : State) {lo hi a : Nat} (keep : Access → Bool) (h : lo ≤ a ∧ a < hi) :
    (∃ w, (s.resetRegs lo hi keep).reg a = resetKeep a w keep) ∨ (s.resetRegs lo hi keep).reg a = resetWord a := by
  have hfold (es t : Tab Word) : (∃ w, tabGet resetWord (es.foldl (fun t e =>
        if lo ≤ e.1 ∧ e.1 < hi then tabSet resetWord t e.1 (resetKeep e.1 e.2 keep) else t) t) a = resetKeep a w keep) ∨
      (tabGet resetWord (es.foldl (fun t e =>
        if lo ≤ e.1 ∧ e.1 < hi then tabSet resetWord t e.1 (resetKeep e.1 e.2 keep) else t) t) a = tabGet resetWord t a ∧
        ∀ e ∈ es, e.1 ≠ a) := by
    induction es generalizing t with
    | nil => exact Or.inr ⟨rfl, by simp⟩
    | cons e es ih =>
      rw [List.foldl_cons]
      rcases ih (if lo ≤ e.1 ∧ e.1 < hi then tabSet resetWord t e.1 (resetKeep e.1 e.2 keep) else t) with hset | ⟨hget, hnone⟩
      · exact Or.inl hset
      · by_cases he : e.1 = a
        · refine Or.inl ⟨e.2, hget.trans ?_⟩
          rw [he, if_pos h, tabGet_tabSet_same]
        · refine Or.inr ⟨hget.trans ?_, fun x hx => ?_⟩
          · split
            · exact tabGet_tabSet_ne _ _ _ _ _ (Ne.symm he)
            · rfl
          · rcases List.mem_cons.mp hx with rfl | hx
            · exact he
            · exact hnone x hx
  rcases hfold s.regs s.regs with hset | ⟨hget, hnone⟩
  · exact Or.inl hset
  · exact Or.inr (hget.trans (tabGet_of_absent hnone))

theorem regAt_PWR_STATE : regAt R.PWR_STATE = some ⟨⟨"PWR_STATE", 0x10000, 0x0, 1, 0, 1,
    [⟨⟨0, 3⟩, .rw, 0x0⟩, ⟨⟨4, 3⟩, .ro, 0x0⟩, ⟨⟨7, 1⟩, .ro, 0x0⟩, ⟨⟨8, 3⟩, .ro, 0x0⟩, ⟨⟨11, 1⟩, .ro, 0x0⟩]⟩, 0, 0⟩ := by decide

/-- A reset of the power block leaves Run as the device's state (R422). -/
theorem cur_resetKeep (w : Word) : field F.PWR_STATE_CUR (resetKeep R.PWR_STATE w keepRws) = 0 := by
  have hreset : field ⟨4, 3⟩ (resetWord R.PWR_STATE) = 0 := by decide
  rw [resetKeep, regAt_PWR_STATE]
  simp only [List.foldl_cons, List.foldl_nil, keepRws, reduceCtorEq, decide_false, Bool.false_eq_true, if_false]
  rw [field_withField_ne _ _ _ _ (by decide) (by decide), field_withField_ne _ _ _ _ (by decide) (by decide),
    field_withField_ne _ _ _ _ (by decide) (by decide), F.PWR_STATE_CUR, field_withField_same _ _ _ (by decide), hreset]
  rfl

theorem cur_resetRegs (s : State) : (s.resetRegs 0x10000 0x20000 keepRws).fld R.PWR_STATE F.PWR_STATE_CUR = 0 := by
  rcases reg_resetRegs_inside s keepRws (lo := 0x10000) (hi := 0x20000) (a := R.PWR_STATE) (by decide) with ⟨w, h⟩ | h
  · rw [State.fld, h, cur_resetKeep]
  · rw [State.fld, h]
    decide

/-! ### Votes after a reset (R416, R425) -/

/-- A state with other votes. -/
def State.withVotes (s : State) (v : Tab Nat) : State := { s with pwr := { s.pwr with votes := v } }

theorem reg_withVotes (s : State) (v : Tab Nat) (a : Nat) : (s.withVotes v).reg a = s.reg a := rfl

theorem settlePower_of_settled {s : State} (h : s.pwr.target = none) : s.settlePower = s := by rw [State.settlePower, h]

/-- In Run, with no transition in progress, a vote that follows its condition changes the votes alone. -/
theorem revote_of_run {s : State} (htarget : s.pwr.target = none) (hcur : s.fld R.PWR_STATE F.PWR_STATE_CUR = 0) (client : Nat) :
    ∃ v, s.revote client = s.withVotes v := by
  have hsettled (v : Tab Nat) : (s.withVotes v).settlePower = s.withVotes v := settlePower_of_settled htarget
  have hwakes (v : Tab Nat) : (s.withVotes v).wakes [1, 2, 3] = false := by
    have ht : (s.withVotes v).pwr.target = none := htarget
    have hc : (s.withVotes v).fld R.PWR_STATE F.PWR_STATE_CUR = 0 := hcur
    rw [State.wakes, ht]
    dsimp only
    rw [hc]
    decide
  have hquiet (v : Tab Nat) : (s.withVotes v).wakeRun 2 [1, 2, 3] = s.withVotes v := by
    rw [State.wakeRun, hwakes, if_neg Bool.false_ne_true]
  rw [State.revote]
  dsimp only
  generalize (if s.clientWants client then 2 ^ clientDomain client else 0) = now
  split
  · exact ⟨s.pwr.votes, rfl⟩
  · rw [← State.withVotes, hquiet, hsettled, ite_self]
    exact ⟨_, rfl⟩

/-- So do the votes of any clients, one after another. -/
theorem revotes_of_run (l : List Nat) {s : State} (htarget : s.pwr.target = none) (hcur : s.fld R.PWR_STATE F.PWR_STATE_CUR = 0) :
    ∃ v, (s.each l fun i t => t.revote (i + 2)) = s.withVotes v := by
  induction l generalizing s with
  | nil => exact ⟨s.pwr.votes, rfl⟩
  | cons i l ih =>
    obtain ⟨v, hv⟩ := revote_of_run htarget hcur (i + 2)
    obtain ⟨w, hw⟩ := ih (s := s.withVotes v) htarget hcur
    refine ⟨w, ?_⟩
    rw [State.each, List.foldl_cons, hv]
    exact hw

/-! ### The registers of a budget (R428) -/

/-- The registers that follow a budget's requests and grants. -/
abbrev budRegs (b : Nat) : List Nat := [R.PWR_BUD_USE b, R.PWR_BUD_STAT b, R.LGT_STAT]

theorem regsBut_budSync (s : State) (b : Nat) : RegsBut (budRegs b) s (s.budSync b) := by
  have h (m n : Nat) (x : Bool) : RegsBut (budRegs b) s (((s.setFld (R.PWR_BUD_USE b) F.PWR_BUD_USE_GRANT
      m).setFld (R.PWR_BUD_USE b) F.PWR_BUD_USE_WAIT n).setFlag (R.PWR_BUD_STAT b) F.PWR_BUD_STAT_OVER x) :=
    (((RegsBut.refl _ s).setFld (by simp)).setFld (by simp)).setFlag (by simp)
  unfold State.budSync
  dsimp only
  split
  · exact (h _ _ _).setFlag (by simp)
  · exact h _ _ _

theorem regsBut_budWithdraw (s : State) (b who : Nat) : RegsBut (budRegs b) s (s.budWithdraw b who) := by
  have hset (l : List BudReq) : RegsBut (budRegs b) s (s.setWaiting b l) := fun _ _ => rfl
  unfold State.budWithdraw
  exact ((hset _).trans (regsBut_budSync _ b)).ite (RegsBut.refl _ s)

theorem regsBut_budHold (s : State) (b who n : Nat) : RegsBut (budRegs b) s (s.budHold b who n) := by
  have hset : RegsBut (budRegs b) s (s.setGranted b who n) := fun _ _ => rfl
  unfold State.budHold
  exact (RegsBut.refl _ s).ite (hset.trans (regsBut_budSync _ b))

theorem regsBut_budFree (s : State) (b who : Nat) : RegsBut (budRegs b) s (s.budFree b who) :=
  (regsBut_budWithdraw s b who).trans (regsBut_budHold _ b who 0)

/-! ### The lanes, the ports, the time domains, the light and the endpoint lie from 0x200000 on -/

section
variable {a : Nat} (h : a < 0x200000) (s : State)
include h

theorem ne_of_low {b : Nat} (hb : 0x200000 ≤ b) : a ≠ b := by omega

theorem reg_laneDown_low (l : Nat) : (s.laneDown l).reg a = s.reg a := by
  have hne : a ≠ R.LANE_STAT l := ne_of_low h (by unfold R.LANE_STAT; omega)
  unfold State.laneDown State.setLane
  dsimp only
  rw [State.modLn_reg, State.modLn_reg, State.reg_setFld_ne _ _ _ _ _ hne, State.reg_setFlag_ne _ _ _ _ _ hne,
    reg_laneLeft _ _ (by omega)]

theorem reg_headLanesDown_low : s.headLanesDown.reg a = s.reg a :=
  each_unchanged (fun v : State => v.reg a) (fun l _ v => reg_laneDown_low h v l) s

theorem reg_portLost_low (p : Nat) : (s.portLost p).reg a = s.reg a := by
  have hended (st : Nat) : (s.portEnded p st).reg a = s.reg a := regsBut_portEnded s p st a (by
    simp only [List.mem_cons, List.not_mem_nil, or_false, R.HOOP_PT_ERR, R.HOOP_PT_STAT, R.HOOP_ISR]
    omega)
  have hdown (u : State) : (u.lanesDown p).reg a = u.reg a := each_unchanged (fun v : State => v.reg a) (fun l _ v => reg_laneDown_low h v l) u
  rw [portLost_eq]
  split
  · exact hended 1
  · split
    · rw [hdown, hended]
    · rfl

theorem reg_portsDown_low : s.portsDown.reg a = s.reg a := by
  unfold State.portsDown
  dsimp only
  rw [each_unchanged (fun v : State => v.reg a) (fun l _ v => reg_laneDown_low h v l),
    each_unchanged (fun v : State => v.reg a) (fun p _ v =>
      (State.reg_setReg_ne _ _ _ _ (ne_of_low h (by unfold R.HOOP_PT_STAT; omega))).trans (State.modPt_reg _ _ _ _))]

theorem reg_holdDomains_low : s.holdDomains.reg a = s.reg a := by
  unfold State.holdDomains
  refine each_unchanged (fun v : State => v.reg a) (fun d _ v => ?_) s
  have hne : a ≠ R.TIM_D_STAT d := ne_of_low h (by unfold R.TIM_D_STAT; omega)
  dsimp only
  split
  · rfl
  · rw [State.reg_raise_ne _ _ _ _ (ne_of_low h (by decide)), State.modDm_reg, State.reg_setFld_ne _ _ _ _ _ hne]
    split
    · exact State.reg_raise_ne _ _ _ _ (ne_of_low h (by decide))
    · rfl

theorem reg_lightOff_low (hbud : a ∉ budRegs 3) : s.lightOff.reg a = s.reg a := by
  have hfree (u : State) (who : Nat) : (u.budFree 3 who).reg a = u.reg a := regsBut_budFree u 3 who a hbud
  have hset (u : State) (x : Light) : ({ u with lgt := x } : State).reg a = u.reg a := rfl
  have hstrobe (u : State) (k : Nat) : (u.strobeOff k).reg a = u.reg a := by
    rw [State.strobeOff, State.reg_setFlag_ne _ _ _ _ _ (ne_of_low h (by unfold R.LGT_STB_STAT; omega)), hfree, State.modSb_reg]
  unfold State.lightOff
  dsimp only
  rw [each_unchanged (fun v : State => v.reg a) (fun k _ v => hstrobe v k), hfree, hset,
    State.reg_setFlag_ne _ _ _ _ _ (ne_of_low h (by decide)), State.reg_setFlag_ne _ _ _ _ _ (ne_of_low h (by decide))]

theorem reg_clearWords_low : (s.clearWords 0x288000 0x290000).reg a = s.reg a := by
  have hfold (t : Tab Word) : tabGet resetWord (t.filter fun e => !(decide (0x288000 ≤ e.1) && decide (e.1 < 0x290000))) a =
      tabGet resetWord t a := by
    induction t with
    | nil => rfl
    | cons e t ih =>
      rw [List.filter_cons]
      split
      · rw [tabGet, tabGet, ih]
      next hout =>
        have hin : 0x288000 ≤ e.1 := by simp at hout; omega
        rw [ih, tabGet, if_neg (ne_of_low h (by omega)).symm]
  exact hfold s.regs

theorem reg_linkLost_low : s.linkLost.reg a = s.reg a := by
  have hset (u : State) (x : Pci) : ({ u with pci := x } : State).reg a = u.reg a := rfl
  have hdraw (u : State) : u.draw.2.reg a = u.reg a := rfl
  unfold State.linkLost
  dsimp only
  rw [hdraw, State.reg_setFld_ne _ _ _ _ _ (ne_of_low h (by decide)), State.reg_setReg_ne _ _ _ _ (ne_of_low h (by decide)), hset]

theorem reg_resetPci_low : (s.resetPci keepRws).reg a = s.reg a := by
  have hset (u : State) (x : Pci) : ({ u with pci := x } : State).reg a = u.reg a := rfl
  unfold State.resetPci
  dsimp only
  rw [State.reg_setReg_ne _ _ _ _ (ne_of_low h (by decide)), hset, reg_clearWords_low h,
    State.reg_resetRegs_outside s keepRws (Or.inl (by omega))]

end

theorem reg_resetSeq_outside (s : State) {a : Nat} (h : a < 0x100000 ∨ 0x130000 ≤ a) : (s.resetSeq keepRws).reg a = s.reg a := by
  have hset (u : State) : ({ u with chan := [], grp := Group.reset, armUndo := none } : State).reg a = u.reg a := rfl
  unfold State.resetSeq
  dsimp only
  rw [each_unchanged (fun v : State => v.reg a) (fun n _ v => State.reg_lapse v n a), hset, State.reg_resetRegs_outside s keepRws h]

/-! ### The registers that a reset of the core carries over: the safe-state controller's, and the emission stop latch (R171, R462) -/

/-- BOOT_STAT, until the BOOT block's own reset, and LSR_EMS. -/
def carriedRegs : List Nat := [R.BOOT_STAT, R.LSR_EMS]

section
variable {a : Nat} (h : a ∈ carriedRegs) (s : State)
include h

theorem carried_low : a < 0x200000 := by revert a; decide

theorem carried_notMem {l : List Nat} (hl : ∀ b ∈ carriedRegs, b ∉ l) : a ∉ l := hl a h

theorem carried_ne_of {c : Nat} (hc : ∀ b ∈ carriedRegs, b ≠ c) : a ≠ c := hc a h

theorem carried_ne {b : Nat} (hb : 0x200000 ≤ b) : a ≠ b := ne_of_low (carried_low h) hb

theorem reg_restore_carried (old : State) : (s.restore old timeKept).reg a = s.reg a :=
  foldl_unchanged (fun v : State => v.reg a) (fun b hb v => State.reg_setReg_ne _ _ _ _ (by
    refine carried_ne h ?_
    revert b
    decide)) s

theorem reg_resetRegs_carried {lo hi : Nat} (hlo : ∀ b ∈ carriedRegs, b < lo ∨ hi ≤ b) : (s.resetRegs lo hi keepRws).reg a = s.reg a :=
  State.reg_resetRegs_outside s keepRws (hlo a h)

theorem reg_resetLsr_carried : (s.resetLsr keepRws).reg a = s.reg a := by
  have hset : (s.resetLsr keepRws).reg a = ((s.resetRegs 0x180000 0x1C0000 keepRws).setReg R.LSR_EMS (s.reg R.LSR_EMS)).reg a := rfl
  rw [hset]
  by_cases he : a = R.LSR_EMS
  · rw [he, State.reg_setReg_same]
  · have hboot : a = R.BOOT_STAT := by simpa [carriedRegs, he] using h
    rw [State.reg_setReg_ne _ _ _ _ he, hboot]
    exact State.reg_resetRegs_outside s keepRws (by decide)

theorem reg_resetHoop_carried : (s.resetHoop keepRws).reg a = s.reg a := by
  have hset (u : State) : ({ u with hoop := u.hoop.cleared, bulk := [], port := [], time := { u.time with ppsOut := false } } : State).reg a =
    u.reg a := rfl
  unfold State.resetHoop
  dsimp only
  rw [reg_holdDomains_low (carried_low h), hset, reg_restore_carried h, reg_resetRegs_carried h _ (by decide), reg_portsDown_low (carried_low h)]

theorem reg_resetLane_carried : (s.resetLane keepRws).reg a = s.reg a := by
  have hset (u : State) : ({ u with lane := [] } : State).reg a = u.reg a := rfl
  unfold State.resetLane
  dsimp only
  rw [hset, reg_resetRegs_carried h _ (by decide), reg_headLanesDown_low (carried_low h),
    each_unchanged (fun v : State => v.reg a) (fun p _ v => reg_portLost_low (carried_low h) v p)]

theorem reg_resetHl_carried : (s.resetHl keepRws).reg a = s.reg a := by
  have hset (u : State) (z : Tab Head) : ({ u with head := z } : State).reg a = u.reg a := rfl
  unfold State.resetHl
  dsimp only
  rw [hset, reg_resetRegs_carried h _ (by decide), reg_headLanesDown_low (carried_low h)]

/-- The blocks up to STI, from which the channels come out. -/
def State.seqBlocksReset (s : State) : State := (((s.resetSeq keepRws).resetSrv keepRws).resetLsr keepRws).resetSti keepRws

/-- The blocks of the lanes, the head link, the camera, the light and the motion. -/
def State.headBlocksReset (s : State) : State :=
  (((((s.resetLane keepRws).resetHl keepRws).resetCam keepRws).resetLgt keepRws).resetMot keepRws).resetFbk keepRws

/-- The endpoint without messages owed and out of L2. -/
def State.pciCleared (s : State) : State := { s with pci := { s.pci with owed := [], l2 := false } }

/-- The blocks of the host's side. -/
def State.hostBlocksReset (s : State) : State := (((s.stopDma keepRws).resetEth keepRws).linkLost.pciCleared).resetPci keepRws

omit h in
theorem resetBlocks_eq (s : State) :
    s.resetBlocks = ((s.seqBlocksReset.resetHoop keepRws).headBlocksReset.resetDdr keepRws).hostBlocksReset := by
  unfold State.resetBlocks State.hostBlocksReset State.headBlocksReset State.seqBlocksReset State.pciCleared
  rfl

theorem reg_seqBlocksReset_carried : s.seqBlocksReset.reg a = s.reg a := by
  have hseq : (s.resetSeq keepRws).reg a = s.reg a := reg_resetSeq_outside s (by revert a; decide)
  have hsrv (u : State) : (u.resetSrv keepRws).reg a = u.reg a := reg_resetRegs_carried h u (by decide)
  have hsti (u : State) : (u.resetSti keepRws).reg a = u.reg a := by
    have hset (v : State) : ({ v with xbar := [] } : State).reg a = v.reg a := rfl
    unfold State.resetSti
    dsimp only
    rw [hset, each_unchanged (fun v : State => v.reg a) (fun n _ v => State.modCh_reg _ _ _ _), reg_resetRegs_carried h _ (by decide)]
  rw [State.seqBlocksReset, hsti, reg_resetLsr_carried h, hsrv, hseq]

theorem reg_headBlocksReset_carried : s.headBlocksReset.reg a = s.reg a := by
  have hcam (u : State) : (u.resetCam keepRws).reg a = u.reg a := reg_resetRegs_carried h u (by decide)
  have hlgt (u : State) : (u.resetLgt keepRws).reg a = u.reg a := by
    have hset (v : State) : ({ v with lgt := Light.reset, strobe := [] } : State).reg a = v.reg a := rfl
    unfold State.resetLgt
    dsimp only
    rw [hset, reg_resetRegs_carried h _ (by decide), reg_lightOff_low (carried_low h) _ (carried_notMem h (by decide))]
  have hmot (u : State) : (u.resetMot keepRws).reg a = u.reg a := reg_resetRegs_carried h u (by decide)
  have hfbk (u : State) : (u.resetFbk keepRws).reg a = u.reg a := reg_resetRegs_carried h u (by decide)
  rw [State.headBlocksReset, hfbk, hmot, hlgt, hcam, reg_resetHl_carried h, reg_resetLane_carried h]

theorem reg_hostBlocksReset_carried : s.hostBlocksReset.reg a = s.reg a := by
  have hdma (u : State) : (u.stopDma keepRws).reg a = u.reg a := reg_resetRegs_carried h u (by decide)
  have heth (u : State) : (u.resetEth keepRws).reg a = u.reg a := reg_resetRegs_carried h u (by decide)
  have hpci (u : State) : u.pciCleared.reg a = u.reg a := rfl
  rw [State.hostBlocksReset, reg_resetPci_low (carried_low h), hpci, reg_linkLost_low (carried_low h), heth, hdma]

theorem reg_resetBlocks_carried : s.resetBlocks.reg a = s.reg a := by
  have hddr (u : State) : (u.resetDdr keepRws).reg a = u.reg a := reg_resetRegs_carried h u (by decide)
  rw [resetBlocks_eq, reg_hostBlocksReset_carried h, hddr, reg_headBlocksReset_carried h, reg_resetHoop_carried h, reg_seqBlocksReset_carried h]

theorem reg_budSync_carried (b : Nat) (hb : b ∈ [0, 1, 3]) : (s.budSync b).reg a = s.reg a :=
  regsBut_budSync s b a (by revert a b; decide)

theorem reg_resetAon_carried : s.resetAon.reg a = s.reg a := by
  have hpwr (u : State) : (u.resetPwr keepRws).reg a = u.reg a := by
    have hset (v : State) (x : Power) : ({ v with pwr := x } : State).reg a = v.reg a := rfl
    have hdom : a ≠ R.PWR_DOM := carried_ne_of h (by decide)
    have htherm : a ≠ R.PWR_THERM := carried_ne_of h (by decide)
    unfold State.resetPwr
    dsimp only
    rw [each_unchanged (fun v : State => v.reg a) (fun b hb v => reg_budSync_carried h v b hb), State.modGrp_reg, hset,
      State.reg_setReg_ne _ _ _ _ htherm, State.reg_setReg_ne _ _ _ _ hdom, reg_resetRegs_carried h _ (by decide)]
  have hhk (u : State) : (u.resetHk keepRws).reg a = u.reg a := reg_resetRegs_carried h u (by decide)
  have hcave (u : State) : (u.resetCave keepRws).reg a = u.reg a := by
    have hstat : a ≠ R.CAVE_STAT := carried_ne_of h (by decide)
    have hlo : a ≠ R.CAVE_HEAD_LO := carried_ne_of h (by decide)
    have hhi : a ≠ R.CAVE_HEAD_HI := carried_ne_of h (by decide)
    have hset (v : State) : ({ v with cave := { v.cave with chalAt := none } } : State).reg a = v.reg a := rfl
    have hlost : u.clearLost.reg a = u.reg a := by
      unfold State.clearLost
      split
      · exact State.reg_setFlag_ne _ _ _ _ _ hstat
      · rfl
    have hfree (v : State) : v.unfreeze.reg a = v.reg a :=
      (unfreeze_effect v).2.2.2 a (carried_notMem h (by decide))
    unfold State.resetCave
    dsimp only
    rw [State.reg_setReg_ne _ _ _ _ hhi, State.reg_setReg_ne _ _ _ _ hlo, State.reg_setReg_ne _ _ _ _ hstat,
      reg_resetRegs_carried h _ (by decide), hset, hfree, hlost]
  have hcal (u : State) : (u.resetCal keepRws).reg a = u.reg a := reg_resetRegs_carried h u (by decide)
  have hintg (u : State) : (u.resetIntg keepRws).reg a = u.reg a := by
    have hset (v : State) (x : Integ) : ({ v with intg := x } : State).reg a = v.reg a := rfl
    have hbist : a ≠ R.INTG_BIST := carried_ne_of h (by decide)
    unfold State.resetIntg
    dsimp only
    rw [hset, State.reg_setReg_ne _ _ _ _ hbist, reg_resetRegs_carried h _ (by decide)]
  unfold State.resetAon
  dsimp only
  rw [hintg, hcal, hcave, hhk, hpwr, reg_resetRegs_carried h _ (by decide)]

end

/-! ### A named reset of the group unit (R43, R120, R170, R171) -/

/-- The note of an abort by a reset, in a layer. -/
def State.abortNoted (s : State) : State := if s.layerArmed then s.setFlag R.SEQ_GRP_STAT F.SEQ_GRP_STAT_RESET_ABORT true else s

/-- The heads zeroed, in a layer. -/
def State.headsZeroed (s : State) : State := if s.layerArmed then s.zeroHeads else s

/-- The emission stop of a reset, with what it notes in a layer. -/
def State.resetNoted (s : State) : State := (s.emissionStop 1).abortNoted.headsZeroed

/-- Every channel without its HANDs. -/
def State.handsGone (s : State) : State := s.each s.chs fun n t => t.modCh n fun c => { c with hands := [] }

theorem namedReset_eq (s : State) (kind : Nat) : s.namedReset kind true =
    if !s.resetNoted.layerLive then s.resetNoted
    else s.resetNoted.handsGone.abortLayer 5 kind s.resetNoted.handsGone.abortIndex (2 ^ s.resetNoted.handsGone.self) := by
  unfold State.namedReset State.resetNoted State.headsZeroed State.abortNoted State.handsGone
  simp only [Bool.true_and, if_true]

theorem regs_zeroHeads (s : State) : s.zeroHeads.regs = s.regs := (keeps_State_zeroHeads (List.Subset.refl _) (Keeps.refl _ s)).part .regs rfl

theorem regs_handsGone (s : State) : s.handsGone.regs = s.regs := each_unchanged State.regs (fun n _ u => State.modCh_regs u n _) s

theorem regs_headsZeroed (s : State) : s.headsZeroed.regs = s.regs := by
  unfold State.headsZeroed
  split
  · exact regs_zeroHeads s
  · rfl

theorem reg_resetNoted {a : Nat} (h : a ≠ R.SEQ_GRP_STAT) (s : State) : s.resetNoted.reg a = (s.emissionStop 1).reg a := by
  have hset (u : State) : u.abortNoted.reg a = u.reg a := by
    unfold State.abortNoted
    split
    · exact State.reg_setFlag_ne _ _ _ _ _ h
    · rfl
  exact (reg_of_same (regs_headsZeroed _) a).trans (hset _)

theorem latched_namedReset_grp (s : State) (kind : Nat) : (s.namedReset kind true).latched = true := by
  have hnoted : s.resetNoted.latched = true := (latched_congr (reg_resetNoted (by decide) s)).trans (latched_emissionStop_any s 1)
  rw [namedReset_eq]
  split
  · exact hnoted
  · rw [latched_abortLayer, latched_congr (reg_of_same (regs_handsGone _) _), hnoted]

theorem reg_namedReset_below {a : Nat} (h : Below a) (s : State) (kind : Nat) : (s.namedReset kind true).reg a = s.reg a := by
  have hnoted : s.resetNoted.reg a = s.reg a :=
    (reg_resetNoted (h.ne_of_le (by decide)) s).trans (reg_emissionStop_below h s 1)
  rw [namedReset_eq]
  split
  · exact hnoted
  · rw [reg_abortLayer_below h, reg_of_same (regs_handsGone _), hnoted]

/-! ### What a reset of the core never touches of the Cave (R443, R454) -/

/-- The die and the key. -/
def Cave.lasting (c : Cave) : List (Nat × BitVec 8) × List Byte := (c.die, c.key)

section
variable (s : State)

theorem lasting_cavePost (code : Nat) (crit : Bool) (part src chn : Nat) (payload : List Byte) :
    (s.cavePost code crit part src chn payload).cave.lasting = s.cave.lasting := by
  unfold State.cavePost
  dsimp only
  split
  · rfl
  · split
    · rfl
    · rw [State.raise_cave, State.satAdd_cave]

theorem lasting_abortLayer (cause kind y mask : Nat) : (s.abortLayer cause kind y mask).cave.lasting = s.cave.lasting := by
  have hcave : (s.caveAbort cause kind).cave.lasting = s.cave.lasting := by
    unfold State.caveAbort
    dsimp only
    rw [lasting_cavePost, lasting_cavePost, lasting_cavePost]
    rfl
  have hpost (u : State) (d2 : Nat) : (u.post 0xFF06 0xFF cause d2).cave = u.cave :=
    (keeps_State_post (List.Subset.refl _) _ _ _ _ (Keeps.refl _ u)).part .cave rfl
  have hchan (u : State) (n : Nat) : (u.abortChan n).cave = u.cave := (keeps_State_abortChan (List.Subset.refl _) n (Keeps.refl _ u)).part .cave rfl
  unfold State.abortLayer
  dsimp only
  rw [State.raise_cave, each_unchanged State.cave (fun n _ u => hchan u n), State.modGrp_cave, State.setGrpState, State.setFld_cave, hpost, hcave]

theorem lasting_namedReset (kind : Nat) : (s.namedReset kind true).cave.lasting = s.cave.lasting := by
  have hstop : (s.emissionStop 1).cave = s.cave := by
    have hlapse (u : State) : u.lapseAll.cave = u.cave := (keeps_State_lapseAll (List.Subset.refl _) (Keeps.refl _ u)).part .cave rfl
    rw [emissionStop_eq, if_neg (by decide), State.stopLatched, State.raise_cave, hlapse, State.setFld_cave, State.setFlag_cave]
  have hzero (u : State) : u.headsZeroed.cave = u.cave := by
    unfold State.headsZeroed
    split
    · exact (keeps_State_zeroHeads (List.Subset.refl _) (Keeps.refl _ u)).part .cave rfl
    · rfl
  have hset (u : State) : u.abortNoted.cave = u.cave := by
    unfold State.abortNoted
    split
    · exact State.setFlag_cave _ _ _ _
    · rfl
  have hnoted : s.resetNoted.cave = s.cave := by rw [State.resetNoted, hzero, hset, hstop]
  have hhands (u : State) : u.handsGone.cave = u.cave := each_unchanged State.cave (fun n _ v => State.modCh_cave v n _) u
  rw [namedReset_eq]
  split
  · rw [hnoted]
  · rw [lasting_abortLayer, hhands, hnoted]

theorem lasting_resetCave : (s.resetCave keepRws).cave.lasting = s.cave.lasting := by
  have hlost : s.clearLost.cave.lasting = s.cave.lasting := by
    unfold State.clearLost
    split
    · rw [State.setFlag_cave]; rfl
    · rfl
  have hfree : s.clearLost.unfreeze.cave = { s.clearLost.cave with fetch := none } := (unfreeze_effect s.clearLost).2.1
  have hreset (u : State) : (u.resetRegs 0x30000 0x40000 keepRws).cave = u.cave := rfl
  unfold State.resetCave
  dsimp only
  rw [State.setReg_cave, State.setReg_cave, State.setReg_cave, hreset, ← hlost]
  dsimp only
  rw [hfree]
  rfl

theorem lasting_resetAon : s.resetAon.cave.lasting = s.cave.lasting := by
  have hbelow : ((s.resetRegs 0 0x10000 keepRws).resetPwr keepRws).cave = s.cave :=
    (keeps_State_resetPwr (A := [.regs, .grp, .pwr]) (by decide) _ (keeps_State_resetRegs (by decide) _ _ _ (Keeps.refl _ s))).part .cave rfl
  have hhk (u : State) : (u.resetHk keepRws).cave = u.cave := rfl
  have hcal (u : State) : (u.resetCal keepRws).cave = u.cave := rfl
  have hintg (u : State) : (u.resetIntg keepRws).cave = u.cave := rfl
  unfold State.resetAon
  dsimp only
  rw [hintg, hcal, lasting_resetCave, hhk, hbelow]

end

/-! ### What the blocks' resets leave: no channel, no DRAM, the time (R120, R225, R388) -/

section
variable (s : State)

theorem chan_seqBlocksReset : s.seqBlocksReset.chan = [] := by
  have hseq : (s.resetSeq keepRws).chan = [] :=
    each_unchanged State.chan (fun n _ u => (keeps_State_lapse (List.Subset.refl _) n (Keeps.refl _ u)).part .chan rfl) _
  have hsrv (u : State) : (u.resetSrv keepRws).chan = u.chan := (keeps_State_resetSrv (List.Subset.refl _) _ (Keeps.refl _ u)).part .chan rfl
  have hlsr (u : State) : (u.resetLsr keepRws).chan = u.chan := (keeps_State_resetLsr (List.Subset.refl _) _ (Keeps.refl _ u)).part .chan rfl
  have hmod (l : List Nat) (u : State) (hu : u.chan = []) :
      (u.each l fun n t => t.modCh n fun c => { c with hands := [], handLogs := [], tokens := [] }).chan = [] := by
    induction l generalizing u with
    | nil => exact hu
    | cons n l ih =>
      refine ih _ ?_
      have hch : u.ch n = Chan.reset := by rw [State.ch, hu]; rfl
      change tabSet (fun _ => Chan.reset) u.chan n _ = []
      rw [hu, hch]
      rfl
  have hsti (u : State) (hu : u.chan = []) : (u.resetSti keepRws).chan = [] := by
    unfold State.resetSti
    dsimp only
    exact hmod _ _ hu
  refine hsti _ ?_
  rw [hlsr, hsrv, hseq]

theorem keeps_headBlocksReset : Keeps [.regs, .port, .lane, .head, .pci, .out, .cam, .pipe, .lgt, .strobe, .pwr, .mot, .fbk] s s.headBlocksReset :=
  keeps_State_resetFbk (by decide) _ (keeps_State_resetMot (by decide) _ (keeps_State_resetLgt (by decide) _ (keeps_State_resetCam (by decide) _
    (keeps_State_resetHl (by decide) _ (keeps_State_resetLane (by decide) _ (Keeps.refl _ s))))))

theorem keeps_hostBlocksReset : Keeps [.regs, .dma, .dmaEng, .eth, .pci, .free] s s.hostBlocksReset := by
  have hlost : Keeps [.regs, .dma, .dmaEng, .eth, .pci, .free] s ((s.stopDma keepRws).resetEth keepRws).linkLost :=
    keeps_State_linkLost (by decide) (keeps_State_resetEth (by decide) _ (keeps_State_stopDma (by decide) _ (Keeps.refl _ s)))
  have hcleared : Keeps [.regs, .dma, .dmaEng, .eth, .pci, .free] s ((s.stopDma keepRws).resetEth keepRws).linkLost.pciCleared :=
    Keeps.upd_pci (by decide) hlost
  exact keeps_State_resetPci (by decide) _ hcleared

theorem chan_resetBlocks : s.resetBlocks.chan = [] := by
  have hhoop (u : State) : (u.resetHoop keepRws).chan = u.chan := (keeps_State_resetHoop (List.Subset.refl _) _ (Keeps.refl _ u)).part .chan rfl
  have hhead (u : State) : u.headBlocksReset.chan = u.chan := (keeps_headBlocksReset u).part .chan rfl
  have hddr (u : State) : (u.resetDdr keepRws).chan = u.chan := (keeps_State_resetDdr (List.Subset.refl _) _ (Keeps.refl _ u)).part .chan rfl
  have hhost (u : State) : u.hostBlocksReset.chan = u.chan := (keeps_hostBlocksReset u).part .chan rfl
  rw [resetBlocks_eq, hhost, hddr, hhead, hhoop, chan_seqBlocksReset]

theorem dram_resetBlocks : s.resetBlocks.dram = [] := by
  have hddr (u : State) : (u.resetDdr keepRws).dram = [] := rfl
  have hhost (u : State) : u.hostBlocksReset.dram = u.dram := (keeps_hostBlocksReset u).part .dram rfl
  rw [resetBlocks_eq, hhost, hddr]

theorem time_resetHoop : (s.resetHoop keepRws).time = { s.time with ppsOut := false } := by
  have hdown : s.portsDown.time = s.time := (keeps_State_portsDown (List.Subset.refl _) (Keeps.refl _ s)).part .time rfl
  have hhold (u : State) : u.holdDomains.time = u.time := (keeps_State_holdDomains (List.Subset.refl _) (Keeps.refl _ u)).part .time rfl
  have hrestore (u : State) : (u.restore s timeKept).time = u.time := (keeps_State_restore (List.Subset.refl _) _ _ (Keeps.refl _ u)).part .time rfl
  have hreset (u : State) : (u.resetRegs 0x200000 0x220000 keepRws).time = u.time := rfl
  unfold State.resetHoop
  dsimp only
  rw [hhold]
  dsimp only
  rw [hrestore, hreset, hdown]

theorem keeps_seqBlocksReset : Keeps [.regs, .grp, .armUndo, .chan, .lsr, .srvAx, .srvCh, .srv, .ddr, .xbar] s s.seqBlocksReset :=
  keeps_State_resetSti (by decide) _ (keeps_State_resetLsr (by decide) _ (keeps_State_resetSrv (by decide) _
    (keeps_State_resetSeq (by decide) _ (Keeps.refl _ s))))

theorem time_resetBlocks : s.resetBlocks.time = { s.time with ppsOut := false } := by
  have hseq : s.seqBlocksReset.time = s.time := (keeps_seqBlocksReset s).part .time rfl
  have hhead (u : State) : u.headBlocksReset.time = u.time := (keeps_headBlocksReset u).part .time rfl
  have hddr (u : State) : (u.resetDdr keepRws).time = u.time := (keeps_State_resetDdr (List.Subset.refl _) _ (Keeps.refl _ u)).part .time rfl
  have hhost (u : State) : u.hostBlocksReset.time = u.time := (keeps_hostBlocksReset u).part .time rfl
  rw [resetBlocks_eq, hhost, hddr, hhead, time_resetHoop, hseq]

/-! ### The power block stands in Run (R422) -/

theorem target_resetAon : s.resetAon.pwr.target = none := by
  have hpwr (u : State) : (u.resetPwr keepRws).pwr.target = none := by
    unfold State.resetPwr
    dsimp only
    rw [each_unchanged State.pwr (fun b _ v => (keeps_State_budSync (List.Subset.refl _) b (Keeps.refl _ v)).part .pwr rfl), State.modGrp_pwr]
  have hrest (u : State) : ((((u.resetHk keepRws).resetCave keepRws).resetCal keepRws).resetIntg keepRws).pwr = u.pwr :=
    (keeps_State_resetIntg (A := [.regs, .cave, .cal, .intg]) (by decide) _ (keeps_State_resetCal (by decide) _ (keeps_State_resetCave (by decide) _
      (keeps_State_resetHk (by decide) _ (Keeps.refl _ u))))).part .pwr rfl
  unfold State.resetAon
  dsimp only
  rw [hrest, hpwr]

theorem regsIn_resetCave : RegsIn 0x30000 0x40000 s (s.resetCave keepRws) := by
  intro a ha
  have hne {b : Nat} (hb : 0x30000 ≤ b ∧ b < 0x40000) : a ≠ b := by omega
  have hset (v : State) : ({ v with cave := { v.cave with chalAt := none } } : State).reg a = v.reg a := rfl
  have hlost : s.clearLost.reg a = s.reg a := by
    unfold State.clearLost
    split
    · exact State.reg_setFlag_ne _ _ _ _ _ (hne (by decide))
    · rfl
  have hfree (v : State) : v.unfreeze.reg a = v.reg a := (unfreeze_effect v).2.2.2 a (by
    simp only [List.mem_cons, List.not_mem_nil, or_false, not_or]
    exact ⟨hne (by decide), hne (by decide), hne (by decide)⟩)
  unfold State.resetCave
  dsimp only
  rw [State.reg_setReg_ne _ _ _ _ (hne (by decide)), State.reg_setReg_ne _ _ _ _ (hne (by decide)), State.reg_setReg_ne _ _ _ _ (hne (by decide)),
    State.reg_resetRegs_outside _ _ ha, hset, hfree, hlost]

theorem cur_resetPwr : (s.resetPwr keepRws).fld R.PWR_STATE F.PWR_STATE_CUR = 0 := by
  have hset (v : State) (x : Power) : ({ v with pwr := x } : State).reg R.PWR_STATE = v.reg R.PWR_STATE := rfl
  have hsync : ∀ b ∈ [0, 1, 3], ∀ u : State, (u.budSync b).reg R.PWR_STATE = u.reg R.PWR_STATE := fun b hb u =>
    regsBut_budSync u b _ (by revert b; decide)
  have hreg : (s.resetPwr keepRws).reg R.PWR_STATE = (s.resetRegs 0x10000 0x20000 keepRws).reg R.PWR_STATE := by
    unfold State.resetPwr
    dsimp only
    rw [each_unchanged (fun v : State => v.reg R.PWR_STATE) hsync, State.modGrp_reg, hset, State.reg_setReg_ne _ _ _ _ (by decide),
      State.reg_setReg_ne _ _ _ _ (by decide)]
  rw [fld_of_reg hreg, cur_resetRegs]

theorem cur_resetAon : s.resetAon.fld R.PWR_STATE F.PWR_STATE_CUR = 0 := by
  have hhk (u : State) : (u.resetHk keepRws).reg R.PWR_STATE = u.reg R.PWR_STATE := State.reg_resetRegs_outside u keepRws (by decide)
  have hcave (u : State) : (u.resetCave keepRws).reg R.PWR_STATE = u.reg R.PWR_STATE := regsIn_resetCave u _ (by decide)
  have hcal (u : State) : (u.resetCal keepRws).reg R.PWR_STATE = u.reg R.PWR_STATE := State.reg_resetRegs_outside u keepRws (by decide)
  have hintg (u : State) : (u.resetIntg keepRws).reg R.PWR_STATE = u.reg R.PWR_STATE := by
    have hset (v : State) (x : Integ) : ({ v with intg := x } : State).reg R.PWR_STATE = v.reg R.PWR_STATE := rfl
    unfold State.resetIntg
    dsimp only
    rw [hset, State.reg_setReg_ne _ _ _ _ (by decide), State.reg_resetRegs_outside _ _ (by decide)]
  have hreg : s.resetAon.reg R.PWR_STATE = ((s.resetRegs 0 0x10000 keepRws).resetPwr keepRws).reg R.PWR_STATE := by
    unfold State.resetAon
    dsimp only
    rw [hintg, hcal, hcave, hhk]
  rw [fld_of_reg hreg, cur_resetPwr]

end

/-! ### A reset of the core (R462, R463) -/

section
variable (s : State) (kind why : Nat)

/-- The reset as the group unit and the Cave take it. -/
def State.resetEntered (s : State) (kind : Nat) : State :=
  if s.layerLive then s.namedReset kind true else (s.namedReset kind true).cavePost 0x0002 false 0 3 0xFF (leBytes kind 1)

/-- The blocks after it, the safe-state controller among them. -/
def State.coreBlocks (s : State) (kind : Nat) : State := ((s.resetEntered kind).resetBlocks.resetAon).resetBoot

/-- The state before the votes follow their conditions. -/
def State.coreBefore (s : State) (kind why : Nat) : State :=
  { (s.coreBlocks kind).setFld R.BOOT_RSTCAUSE F.BOOT_RSTCAUSE_KIND why with shadow := [], staged := [] }

/-- Head lanes come up again where their domain is up. -/
def State.headsStarted (s : State) : State := if s.up dHEAD then s.lanesStart dHEAD else s

theorem coreReset_eq : s.coreReset kind why =
    ((s.coreBefore kind why).each (List.range 12) fun i t => t.revote (i + 2)).headsStarted := by
  unfold State.coreReset State.headsStarted State.coreBefore State.coreBlocks State.resetEntered
  rfl

theorem lasting_resetEntered : (s.resetEntered kind).cave.lasting = s.cave.lasting := by
  unfold State.resetEntered
  split
  · exact lasting_namedReset s kind
  · rw [lasting_cavePost, lasting_namedReset]

theorem latched_resetEntered : (s.resetEntered kind).latched = true := by
  have hpost (u : State) (p : List Byte) : (u.cavePost 0x0002 false 0 3 0xFF p).latched = u.latched :=
    latched_congr ((RegsBut.refl caveIntegrityRegs u).cavePost (List.Subset.refl _) _ (by decide))
  unfold State.resetEntered
  split
  · exact latched_namedReset_grp s kind
  · rw [hpost, latched_namedReset_grp]

theorem stat_resetEntered : (s.resetEntered kind).reg R.BOOT_STAT = s.reg R.BOOT_STAT := by
  unfold State.resetEntered
  split
  · exact reg_namedReset_below below_stat s kind
  · rw [reg_cavePost_below below_stat, reg_namedReset_below below_stat]

theorem keeps_resetEntered : Keeps [.regs, .dram, .grp, .chan, .srvAx, .srvCh, .srv, .lsr, .hoop, .port, .head, .pci, .ddr, .cave, .xbar, .out]
    s (s.resetEntered kind) := by
  have hnamed : Keeps [.regs, .dram, .grp, .chan, .srvAx, .srvCh, .srv, .lsr, .hoop, .port, .head, .pci, .ddr, .cave, .xbar, .out]
    s (s.namedReset kind true) := keeps_State_namedReset (List.Subset.refl _) kind true (Keeps.refl _ s)
  exact Keeps.ite hnamed (keeps_State_cavePost (by decide) _ _ _ _ _ _ hnamed)

/-- What a reset leaves of the safe-state controller (R462, R464). -/
theorem boot_resetBoot : s.resetBoot.boot.pk = s.boot.pk ∧ s.resetBoot.boot.sysrst = s.boot.sysrst ∧
    s.resetBoot.boot.warmUntil = s.boot.warmUntil ∧ s.resetBoot.boot.safeN = false := ⟨rfl, rfl, rfl, rfl⟩

/-- The registers of the BOOT block reset, with the state of the controller that a reset leaves. -/
def State.bootRegsReset (s : State) : State :=
  ((s.resetRegs 0x60000 0x70000 keepRws).setFlag R.BOOT_STAT F.BOOT_STAT_KEYSET (s.flag R.BOOT_STAT F.BOOT_STAT_KEYSET)).setFld
    R.BOOT_STAT F.BOOT_STAT_SSC (if s.ssc = 3 then 3 else 0)

theorem reg_resetBoot (a : Nat) : s.resetBoot.reg a = s.bootRegsReset.reg a := by
  have hshut : (if decide (s.fld R.BOOT_STAT F.BOOT_STAT_SSC = 3) = true then 3 else 0) = if s.ssc = 3 then 3 else 0 := by
    unfold State.ssc
    by_cases h : s.fld R.BOOT_STAT F.BOOT_STAT_SSC = 3
    · simp [h]
    · simp [h]
  have hset (v : State) (b : Boot) : ({ v with boot := b, l2 := [] } : State).reg a = v.reg a := rfl
  unfold State.resetBoot State.bootRegsReset
  dsimp only
  rw [hset, hshut]

theorem ssc_resetBoot : s.resetBoot.ssc = if s.ssc = 3 then 3 else 0 := by
  have h : (if s.ssc = 3 then 3 else 0 : Nat) % 2 ^ F.BOOT_STAT_SSC.width = if s.ssc = 3 then 3 else 0 := by split <;> rfl
  exact (fld_of_reg (reg_resetBoot s _) _).trans ((State.fld_setFld_same _ _ _ _ (by decide)).trans h)

theorem reg_resetBoot_outside {a : Nat} (h : a < 0x60000 ∨ 0x70000 ≤ a) : s.resetBoot.reg a = s.reg a := by
  have hne : a ≠ R.BOOT_STAT := by unfold R.BOOT_STAT; omega
  rw [reg_resetBoot, State.bootRegsReset, State.reg_setFld_ne _ _ _ _ _ hne, State.reg_setFlag_ne _ _ _ _ _ hne,
    State.reg_resetRegs_outside _ _ h]

/-- What R462 says of every reset of the core, for the value of BOOT_RSTCAUSE.KIND that it leaves. -/
structure CoreReset (s : State) (why : Nat) (t : State) : Prop where
  lasting : t.cave.lasting = s.cave.lasting
  pk : t.boot.pk = s.boot.pk
  sysrst : t.boot.sysrst = s.boot.sysrst
  warmUntil : t.boot.warmUntil = s.boot.warmUntil
  safeN : t.boot.safeN = false
  variant : t.variant = s.variant
  latched : t.latched = true
  chan : t.chan = []
  dram : t.dram = []
  ssc : t.ssc = if s.ssc = 3 then 3 else 0
  time : t.time = { s.time with ppsOut := false }
  cause : t.fld R.BOOT_RSTCAUSE F.BOOT_RSTCAUSE_KIND = why

theorem coreReset_coreBlocks : CoreReset s ((s.coreBlocks kind).fld R.BOOT_RSTCAUSE F.BOOT_RSTCAUSE_KIND) (s.coreBlocks kind) := by
  have hentered := keeps_resetEntered s kind
  have hblocks (u : State) := keeps_State_resetBlocks (List.Subset.refl _) (Keeps.refl _ u)
  have haon (u : State) := keeps_State_resetAon (List.Subset.refl _) (Keeps.refl _ u)
  have hboot (u : State) := keeps_State_resetBoot (List.Subset.refl _) (Keeps.refl _ u)
  have hpart : (s.resetEntered kind).resetBlocks.resetAon.boot = s.boot :=
    Eq.trans ((haon _).part .boot rfl) (Eq.trans ((hblocks _).part .boot rfl) (hentered.part .boot rfl))
  obtain ⟨hpk, hsysrst, hwarm, hsafe⟩ := boot_resetBoot (s.resetEntered kind).resetBlocks.resetAon
  rw [hpart] at hpk hsysrst hwarm
  have hstat : (s.resetEntered kind).resetBlocks.resetAon.ssc = s.ssc :=
    fld_of_reg ((reg_resetAon_carried (by decide) _).trans ((reg_resetBlocks_carried (by decide) _).trans (stat_resetEntered s kind))) _
  refine ⟨?_, hpk, hsysrst, hwarm, hsafe, ?_, ?_, ?_, ?_, ?_, ?_, rfl⟩
  · have hcave : (s.coreBlocks kind).cave = (s.resetEntered kind).resetBlocks.resetAon.cave := (hboot _).part .cave rfl
    have hkept : (s.resetEntered kind).resetBlocks.cave = (s.resetEntered kind).cave := (hblocks _).part .cave rfl
    rw [hcave, lasting_resetAon, hkept, lasting_resetEntered]
  · exact Eq.trans ((hboot _).part .variant rfl) (Eq.trans ((haon _).part .variant rfl)
      (Eq.trans ((hblocks _).part .variant rfl) (hentered.part .variant rfl)))
  · exact (latched_congr ((reg_resetBoot_outside _ (by decide)).trans ((reg_resetAon_carried (by decide) _).trans
      (reg_resetBlocks_carried (by decide) _)))).trans (latched_resetEntered s kind)
  · exact Eq.trans ((hboot _).part .chan rfl) (Eq.trans ((haon _).part .chan rfl) (chan_resetBlocks _))
  · exact Eq.trans ((hboot _).part .dram rfl) (Eq.trans ((haon _).part .dram rfl) (dram_resetBlocks _))
  · have h := ssc_resetBoot (s.resetEntered kind).resetBlocks.resetAon
    rwa [hstat] at h
  · have htime : (s.resetEntered kind).time = s.time := hentered.part .time rfl
    have hlater : (s.coreBlocks kind).time = (s.resetEntered kind).resetBlocks.time :=
      Eq.trans ((hboot _).part .time rfl) ((haon _).part .time rfl)
    rw [hlater, time_resetBlocks, htime]

theorem run_coreBefore : (s.coreBefore kind why).pwr.target = none ∧ (s.coreBefore kind why).fld R.PWR_STATE F.PWR_STATE_CUR = 0 := by
  have hpwr : (s.coreBlocks kind).pwr = (s.resetEntered kind).resetBlocks.resetAon.pwr :=
    (keeps_State_resetBoot (List.Subset.refl _) (Keeps.refl _ _)).part .pwr rfl
  have hset (v : State) : ({ v with shadow := [], staged := [] } : State).reg R.PWR_STATE = v.reg R.PWR_STATE := rfl
  refine ⟨?_, ?_⟩
  · rw [State.coreBefore, State.setFld_pwr, hpwr, target_resetAon]
  · have hreg : (s.coreBefore kind why).reg R.PWR_STATE = (s.resetEntered kind).resetBlocks.resetAon.reg R.PWR_STATE := by
      rw [State.coreBefore, hset, State.reg_setFld_ne _ _ _ _ _ (by decide), State.coreBlocks, reg_resetBoot_outside _ (by decide)]
    rw [fld_of_reg hreg, cur_resetAon]

theorem keeps_headsStarted : Keeps [.regs, .lane] s s.headsStarted :=
  Keeps.ite (keeps_State_lanesStart (List.Subset.refl _) dHEAD (Keeps.refl _ s)) (Keeps.refl _ s)

theorem reg_headsStarted {a : Nat} (h : a < 0x200000) : s.headsStarted.reg a = s.reg a := by
  unfold State.headsStarted
  split
  · refine each_unchanged (fun u : State => u.reg a) (fun l _ u => regsBut_startLane u l a ?_) s
    rw [List.mem_singleton]
    unfold R.LANE_STAT
    omega
  · rfl

variable {s why} in
/-- Steps that change none of it, but for the cause. -/
theorem CoreReset.after {u t : State} {why' : Nat} (h : CoreReset s why u) (hk : Keeps [.regs, .lane, .pwr, .shadow, .staged] u t)
    (hems : t.reg R.LSR_EMS = u.reg R.LSR_EMS) (hstat : t.reg R.BOOT_STAT = u.reg R.BOOT_STAT)
    (hcause : t.fld R.BOOT_RSTCAUSE F.BOOT_RSTCAUSE_KIND = why') : CoreReset s why' t where
  lasting := by rw [show t.cave = u.cave from hk.part .cave rfl, h.lasting]
  pk := by rw [show t.boot = u.boot from hk.part .boot rfl, h.pk]
  sysrst := by rw [show t.boot = u.boot from hk.part .boot rfl, h.sysrst]
  warmUntil := by rw [show t.boot = u.boot from hk.part .boot rfl, h.warmUntil]
  safeN := by rw [show t.boot = u.boot from hk.part .boot rfl, h.safeN]
  variant := Eq.trans (hk.part .variant rfl) h.variant
  latched := (latched_congr hems).trans h.latched
  chan := Eq.trans (hk.part .chan rfl) h.chan
  dram := Eq.trans (hk.part .dram rfl) h.dram
  ssc := (fld_of_reg hstat _).trans h.ssc
  time := Eq.trans (hk.part .time rfl) h.time
  cause := hcause

theorem coreReset_coreBefore (h : why < 4) : CoreReset s why (s.coreBefore kind why) := by
  have hset (v : State) (a : Nat) : ({ v with shadow := [], staged := [] } : State).reg a = v.reg a := rfl
  have hreg {a : Nat} (ha : a ≠ R.BOOT_RSTCAUSE) : (s.coreBefore kind why).reg a = (s.coreBlocks kind).reg a := by
    rw [State.coreBefore, hset, State.reg_setFld_ne _ _ _ _ _ ha]
  have hcause : (s.coreBefore kind why).reg R.BOOT_RSTCAUSE =
      ((s.coreBlocks kind).setFld R.BOOT_RSTCAUSE F.BOOT_RSTCAUSE_KIND why).reg R.BOOT_RSTCAUSE := by rw [State.coreBefore, hset]
  have hfld : Keeps [.regs, .lane, .pwr, .shadow, .staged] (s.coreBlocks kind)
      ((s.coreBlocks kind).setFld R.BOOT_RSTCAUSE F.BOOT_RSTCAUSE_KIND why) :=
    keeps_State_setFld (by decide) _ _ _ (Keeps.refl _ _)
  have hkeeps : Keeps [.regs, .lane, .pwr, .shadow, .staged] (s.coreBlocks kind) (s.coreBefore kind why) :=
    Keeps.upd_shadow_staged (by decide) hfld (fun _ => rfl) (fun _ => rfl)
  exact (coreReset_coreBlocks s kind).after hkeeps (hreg (by decide)) (hreg (by decide))
    ((fld_of_reg hcause _).trans ((State.fld_setFld_same _ _ _ _ (by decide)).trans (Nat.mod_eq_of_lt h)))

theorem coreReset_effect (h : why < 4) : CoreReset s why (s.coreReset kind why) := by
  obtain ⟨htarget, hcur⟩ := run_coreBefore s kind why
  obtain ⟨v, hv⟩ := revotes_of_run (List.range 12) htarget hcur
  have hvotes : Keeps [.regs, .lane, .pwr, .shadow, .staged] (s.coreBefore kind why) ((s.coreBefore kind why).withVotes v) :=
    Keeps.upd_pwr (by decide) (Keeps.refl _ _)
  have hlanes : Keeps [.regs, .lane, .pwr, .shadow, .staged] (s.coreBefore kind why) ((s.coreBefore kind why).withVotes v).headsStarted :=
    Keeps.ite (keeps_State_lanesStart (by decide) dHEAD hvotes) hvotes
  have hreg {a : Nat} (ha : a < 0x200000) : ((s.coreBefore kind why).withVotes v).headsStarted.reg a = (s.coreBefore kind why).reg a :=
    (reg_headsStarted _ ha).trans (reg_withVotes _ v a)
  have hb := coreReset_coreBefore s kind why h
  rw [coreReset_eq, hv]
  exact hb.after hlanes (hreg (by decide)) (hreg (by decide)) ((fld_of_reg (hreg (by decide)) _).trans hb.cause)

end

/-! ### Loss of the supply (R443, R447) -/

/-- Bytes spell a number modulo what they can hold. -/
theorem leNat_leBytes_mod (x n : Nat) : leNat (leBytes x n) = x % 256 ^ n := by
  induction n generalizing x with
  | zero => rw [leBytes, leNat, pow_zero, Nat.mod_one]
  | succ n ih =>
    have hstep : leNat (leBytes x (n + 1)) = x % 256 + 256 * leNat (leBytes (x / 256) n) := by
      rw [leBytes, leNat, BitVec.toNat_ofNat]
    rw [hstep, ih, pow_succ', Nat.mod_mul]

theorem length_tornSlot (k : Nat) : (tornSlot k).length = 64 := by
  rw [tornSlot, List.length_append, List.length_map, List.length_range, length_leBytes]

/-- The CRC of a torn slot is off by one to 256. -/
theorem recCrcOk_tornSlot (k : Nat) : recCrcOk (tornSlot k) = false := by
  have hx : (Config.tornByte k 60).toNat < 256 := (Config.tornByte k 60).isLt
  have hbody : (tornSlot k).take 0x3C = (List.range 60).map (Config.tornByte k) := by
    rw [tornSlot]
    exact List.take_left' (by rw [List.length_map, List.length_range])
  have hcrc : leAt (tornSlot k) 0x3C 4 = (crc32c ((List.range 60).map (Config.tornByte k)) + 1 + (Config.tornByte k 60).toNat) % 2 ^ 32 := by
    have hdrop : (tornSlot k).drop 0x3C = leBytes (crc32c ((List.range 60).map (Config.tornByte k)) + 1 + (Config.tornByte k 60).toNat) 4 := by
      rw [tornSlot]
      exact List.drop_left' (by rw [List.length_map, List.length_range])
    rw [leAt, hdrop, List.take_of_length_le (by rw [length_leBytes])]
    exact leNat_leBytes_mod _ _
  rw [recCrcOk, hbody, hcrc]
  exact decide_eq_false (by omega)

/-- The reset state of the part with what its supply's loss leaves. -/
def State.poweredDown (s : State) : State := { s.powerUp with boot := { s.powerUp.boot with porn := true } }

theorem powerUp_effect (s : State) : s.powerUp.cave.die = s.cave.die ∧ s.powerUp.cave.key = s.cave.key ∧ s.powerUp.boot.pk = s.boot.pk ∧
    s.powerUp.variant = s.variant ∧ s.powerUp.time = State.reset.time ∧ s.powerUp.pending = s.pending ∧ s.powerUp.grp = State.reset.grp ∧
    s.powerUp.dram = [] ∧ s.powerUp.hk = State.reset.hk ∧ s.powerUp.intg = State.reset.intg := ⟨rfl, rfl, rfl, rfl, rfl, rfl, rfl, rfl, rfl, rfl⟩

/-- The reset state with what PORN keeps of a state, before the two notes of the keys. -/
theorem regsBut_powerUp (s : State) : RegsBut [R.BOOT_STAT, R.CAVE_STAT] State.reset s.powerUp := by
  unfold State.powerUp
  dsimp only
  exact RegsBut.setFlag (RegsBut.setFlag ((RegsBut.refl _ State.reset).of_regs rfl) (by simp)) (by simp)

/-- The state with the slot of a write in progress torn. -/
def State.torn (s : State) : State := s.draw.2.setSlot (s.slotOf s.cave.nextSeq) (tornSlot s.free)

theorem exec_vddAonLoss_writing {s : State} (h : s.caveWriting = true) : exec .vddAonLoss s = .next s.torn.poweredDown := by
  have hx : exec .vddAonLoss s = execVddAonLoss s := rfl
  rw [hx, execVddAonLoss]
  dsimp only
  rw [h, if_pos rfl]
  rfl

theorem exec_vddAonLoss_idle {s : State} (h : s.caveWriting = false) : exec .vddAonLoss s = .next s.poweredDown := by
  have hx : exec .vddAonLoss s = execVddAonLoss s := rfl
  rw [hx, execVddAonLoss]
  dsimp only
  rw [h, if_neg Bool.false_ne_true]
  rfl

/-! ### The obligation -/

/-- The latch's cause of an emission stop without a record. -/
theorem cause_emissionStop_reset (s : State) : bitAt ((s.emissionStop 1).fld R.LSR_EMS F.LSR_EMS_CAUSE) 1 = true := by
  have hreg (u : State) : (u.lapseAll.raise R.LSR_ISR F.LSR_ISR_EMS).reg R.LSR_EMS = u.reg R.LSR_EMS :=
    (State.reg_raise_ne _ _ _ _ (by decide)).trans (reg_lapseAll _ _)
  rw [emissionStop_eq, if_neg (by decide), State.stopLatched, fld_of_reg (hreg _), State.fld_setFld_same _ _ _ _ (by decide), bitAt_eq_testBit]
  refine (Nat.testBit_mod_two_pow _ 4 1).trans ?_
  rw [← bitAt_eq_testBit, bitAt_putBit_same]
  rfl

/-- Settles O55: PORN and the supply's loss end in the reset state around what they keep, every reset of the core in `CoreReset`. -/
theorem deviceResets : Obligations.DeviceResets := by
  unfold Obligations.DeviceResets
  refine ⟨?_, ?_, ?_, ?_, ?_, ?_, ?_, ?_⟩
  · intro s
    have hx : exec .porn s = .next s.powerUp := rfl
    obtain ⟨hdie, hkey, hpk, hvariant, htime, hpending, hgrp, hdram, hhk, hintg⟩ := powerUp_effect s
    exact ⟨_, hx, ((keeps_execPorn (List.Subset.refl _) (Keeps.refl _ s)).next _ hx).only, hdie, hkey, hpk, hvariant, regsBut_powerUp s,
      htime, hpending, hgrp, hdram, hhk, hintg⟩
  · intro s
    have hx : exec .sysrstN s = .next (({ s with boot := { s.boot with sysrst := true, warmUntil := none } } : State).coreReset 1
      (if s.boot.warmUntil.isSome then 2 else 1)) := rfl
    have h := coreReset_effect ({ s with boot := { s.boot with sysrst := true, warmUntil := none } } : State) 1
      (if s.boot.warmUntil.isSome then 2 else 1) (by split <;> decide)
    exact ⟨_, hx, ((keeps_execSysrstN (List.Subset.refl _) (Keeps.refl _ s)).next _ hx).only, congrArg Prod.fst h.lasting,
      congrArg Prod.snd h.lasting, h.pk, h.variant, gates_of_latched h.latched, h.chan, h.dram, h.ssc, h.safeN, h.time, h.cause, h.sysrst,
      h.warmUntil⟩
  · intro s v hv
    have hx : exec (.softwareWarmReset v) s =
        .next (({ s with boot := { s.boot with warmUntil := some (s.time.mt + ticksU 1250) } } : State).coreReset 1 2) := by
      have he : exec (.softwareWarmReset v) s = execSoftwareWarmReset v s := rfl
      rw [he, execSoftwareWarmReset, if_neg (by rw [hv]; decide)]
    have h := coreReset_effect ({ s with boot := { s.boot with warmUntil := some (s.time.mt + ticksU 1250) } } : State) 1 2 (by decide)
    exact ⟨_, hx, ((keeps_execSoftwareWarmReset (List.Subset.refl _) v (Keeps.refl _ s)).next _ hx).only, congrArg Prod.fst h.lasting,
      congrArg Prod.snd h.lasting, h.pk, h.variant, gates_of_latched h.latched, h.chan, h.dram, h.ssc, h.safeN, h.time, h.cause, h.warmUntil⟩
  · intro s v hv
    have hx : exec (.softwareWarmReset v) s = .next s.bootRej := by
      have he : exec (.softwareWarmReset v) s = execSoftwareWarmReset v s := rfl
      rw [he, execSoftwareWarmReset, if_pos hv]
    exact ⟨_, hx, bootRej_effect s⟩
  · intro s
    have hx : exec .xtal32Switch s = .next { s with boot := { s.boot with xtal := true } } := rfl
    exact ⟨_, hx, ((keeps_execXtal32Switch (List.Subset.refl _) (Keeps.refl _ s)).next _ hx).only, rfl, (RegsBut.refl _ s).of_regs rfl⟩
  · intro s
    have hx : exec .extest s = .next (({ s with boot := { s.boot with extest := true } } : State).emissionStop 1) := rfl
    have hlatched := latched_emissionStop_any ({ s with boot := { s.boot with extest := true } } : State) 1
    have hboot : (({ s with boot := { s.boot with extest := true } } : State).emissionStop 1).boot = { s.boot with extest := true } :=
      (keeps_State_emissionStop (List.Subset.refl _) 1 (Keeps.refl _ _)).part .boot rfl
    exact ⟨_, hx, ((keeps_execExtest (List.Subset.refl _) (Keeps.refl _ s)).next _ hx).only, hboot, hlatched, gates_of_latched hlatched,
      cause_emissionStop_reset _⟩
  · intro s h
    have hx := exec_vddAonLoss_writing h
    have hdie : s.torn.poweredDown.cave.die = storeBytes s.cave.die (64 * s.slotOf s.cave.nextSeq) (tornSlot s.free) := rfl
    refine ⟨_, hx, ((keeps_execVddAonLoss (List.Subset.refl _) (Keeps.refl _ s)).next _ hx).only, ?_,
      unitsBut_stored hdie (length_tornSlot _), rfl, rfl⟩
    rw [slotBytes_stored hdie (length_tornSlot _), recCrcOk_tornSlot]
  · intro s h
    have hx := exec_vddAonLoss_idle h
    exact ⟨_, hx, ((keeps_execVddAonLoss (List.Subset.refl _) (Keeps.refl _ s)).next _ hx).only, rfl, rfl, rfl, rfl, rfl, rfl⟩

end Sys2Proof.Machine

/-! # Power domains and budgets (O51) -/

namespace Sys2Proof.Machine

-- As above: the proofs of this part are elaborated one after another, which keeps the check within its memory.
set_option deprecated.oldSectionVars true

/-! ### What the clients of a domain write when they lose it (R416) -/

section
variable (s : State)

theorem regsBut_raiseBit (a b : Nat) : RegsBut [a] s (s.raiseBit a b) := (RegsBut.refl _ s).raise (by simp)

/-- The registers of a DMA channel that the device writes. -/
abbrev dmaRegs (n : Nat) : List Nat := [R.DMA_CH_STAT n, R.DMA_CH_HEAD n, R.DMA_ISR]

theorem regsBut_dmaRelease (n : Nat) (d : DmaDesc) : RegsBut (dmaRegs n) s (s.dmaRelease n d) := by
  have hemit (u : State) (o : Out) : RegsBut (dmaRegs n) u (u.emit o) := fun _ _ => rfl
  unfold State.dmaRelease
  dsimp only
  split
  · exact (((RegsBut.refl _ s).writeDram).ite (hemit s _)).raise (by simp)
  · exact ((RegsBut.refl _ s).writeDram).ite (hemit s _)

theorem regsBut_dmaError (n code : Nat) : RegsBut (dmaRegs n) s (s.dmaError n code) := by
  have hset : RegsBut (dmaRegs n) s (s.modDc n fun _ => DmaCh.reset) := fun _ _ => rfl
  exact ((hset.setFld (by simp)).setFld (by simp)).raise (by simp)

theorem regsBut_dmaNext (n : Nat) (ds : List DmaDesc) : RegsBut (dmaRegs n) s (State.dmaNext n ds s) := by
  have hset (u : State) (f : DmaCh → DmaCh) : RegsBut (dmaRegs n) u (u.modDc n f) := fun _ _ => rfl
  induction ds generalizing s with
  | nil => exact hset s _
  | cons d ds ih =>
    have hhead (v : Nat) : RegsBut (dmaRegs n) s (s.setFld (R.DMA_CH_HEAD n) F.DMA_CH_HEAD_INDEX v) := (RegsBut.refl _ s).setFld (by simp)
    unfold State.dmaNext
    dsimp only
    exact (regsBut_dmaError s n 7).ite (((hhead _).trans (hset _ _)).ite (((hhead _).trans (regsBut_dmaRelease _ n d)).trans (ih _)))

theorem regsBut_dmaAbort (n : Nat) : RegsBut (dmaRegs n) s (s.dmaAbort n) := by
  have hset (u : State) (f : DmaCh → DmaCh) : RegsBut (dmaRegs n) u (u.modDc n f) := fun _ _ => rfl
  have hfinish (d : DmaDesc) : RegsBut (dmaRegs n) s (s.dmaFinish n d) := by
    have hrel := regsBut_dmaRelease s n d
    unfold State.dmaFinish
    dsimp only
    exact (hrel.trans (regsBut_dmaError _ n _)).ite (((hrel.trans (hset _ _)).setFld (by simp)).ite (hrel.trans (regsBut_dmaNext _ n _)))
  unfold State.dmaAbort
  split
  · exact RegsBut.refl _ s
  · exact (RegsBut.refl _ s).ite ((hfinish _).ite (hset s _))

/-- The registers of a camera port that a dropped frame writes. -/
abbrev dropRegs (p : Nat) : List Nat := [R.CAM_PT_DROPC p, R.CAM_PT_RWR p, R.CAM_PT_STAT p, R.CAM_ISR]

theorem regsBut_putRecord (p : Nat) (f : Frame) (outs : Nat) (fin : Option Stamp) : RegsBut (dropRegs p) s (s.putRecord p f outs fin) :=
  (((RegsBut.refl _ s).writeDram).setFld (by simp)).raise (by simp)

theorem regsBut_flushDrops (p : Nat) (l : List Frame) : RegsBut (dropRegs p) s (s.flushDrops p l) := by
  have hset (u : State) (g : CamPort → CamPort) : RegsBut (dropRegs p) u (u.modCm p g) := fun _ _ => rfl
  induction l generalizing s with
  | nil => exact hset s _
  | cons f l ih =>
    unfold State.flushDrops
    exact ((regsBut_putRecord s p f 0 none).trans (ih _)).ite (hset s _)

theorem regsBut_dropFrame (p j cause : Nat) : RegsBut (dropRegs p) s (s.dropFrame p j cause) := by
  have hset (u : State) (g : CamPort → CamPort) : RegsBut (dropRegs p) u (u.modCm p g) := fun _ _ => rfl
  have hpipe (u : State) (c : Bool) (x : Pipeline) : RegsBut (dropRegs p) u (if c then { u with pipe := x } else u) := by
    split <;> exact fun _ _ => rfl
  have hspoil (u : State) (f : Frame) : RegsBut (dropRegs p) u (u.spoilSlots p f) :=
    (RegsBut.refl _ u).of_regs ((keeps_State_spoilSlots (List.Subset.refl _) p f (Keeps.refl _ u)).part .regs rfl)
  have hcount : RegsBut (dropRegs p) s (s.countDrop p cause) := ((RegsBut.refl _ s).satAdd (by simp)).raise (by simp)
  have hlevel (u : State) : RegsBut (dropRegs p) u (u.camLevel p) := (RegsBut.refl _ u).setFld (by simp)
  unfold State.dropFrame
  split
  · exact RegsBut.refl _ s
  next f _ =>
    dsimp only
    exact ((((hcount.trans (hspoil _ f)).trans (hpipe _ _ _)).trans (hset _ _)).trans (regsBut_flushDrops _ p _)).trans (hlevel _)

theorem regsBut_laserCond (n cause : Nat) (rdy : Bool) : RegsBut ([R.LSR_CH_STAT n, R.LSR_CH_EVENTS n, R.LSR_CH_EVENTS2 n, R.LSR_ISR] ++ evtRegs)
    s (s.laserCond n cause rdy) := by
  have hflag : RegsBut ([R.LSR_CH_STAT n, R.LSR_CH_EVENTS n, R.LSR_CH_EVENTS2 n, R.LSR_ISR] ++ evtRegs) s
    (s.setFlag (R.LSR_CH_STAT n) F.LSR_CH_STAT_LASERFLT true) := (RegsBut.refl _ s).setFlag (by simp)
  unfold State.laserCond
  dsimp only
  exact (((hflag.satAdd (by simp)).ite ((hflag.satAdd (by simp)).ite ((hflag.satAdd (by simp)).ite (hflag.satAdd (by simp))))).post
    (List.subset_append_right _ _)).raise (by simp)

theorem regsBut_logWrite (n line : Nat) : RegsBut (R.LSR_LOG_WR n :: evtRegs) s (s.logWrite n line) := by
  unfold State.logWrite
  split
  · exact RegsBut.refl _ s
  · exact (RegsBut.refl _ s).ite ((((RegsBut.refl _ s).writeDram.modLs).setFld (by simp)).fenceRelease (List.subset_cons_self _ _))

theorem regsBut_calEnd (g r : Nat) : RegsBut [R.CAL_G_STAT g, R.CAL_ISR] s (s.calEnd g r) :=
  (((RegsBut.refl _ s).setFld (by simp)).setFld (by simp)).raise (by simp)

theorem regsBut_bistResult (bad : List Nat) :
    RegsBut ([R.INTG_BIST, R.INTG_ISR, R.INTG_RECDROP] ++ evtRegs ++ caveIntegrityRegs) s (s.bistResult bad) := by
  unfold State.bistResult
  split
  · exact RegsBut.refl _ s
  · exact ((((RegsBut.refl _ s).setReg (by simp)).raise (by simp)).each fun b u hu => hu.intgRecord (by decide) (by decide)).caveIntegrity
      (by decide)

theorem regsBut_trainPause (k : Nat) : RegsBut [R.DDR_TRAIN, R.DDR_STAT, R.DDR_QUAL k] s (s.trainPause k) := by
  have hquality (u : State) : RegsBut [R.DDR_TRAIN, R.DDR_STAT, R.DDR_QUAL k] u (u.quality k) := by
    have hdraw : RegsBut [R.DDR_TRAIN, R.DDR_STAT, R.DDR_QUAL k] u u.draw.2 := fun _ _ => rfl
    exact (hdraw.setFld (by simp)).setFld (by simp)
  have hdraw : RegsBut [R.DDR_TRAIN, R.DDR_STAT, R.DDR_QUAL k] s s.draw.2 := fun _ _ => rfl
  have hset (u : State) (x : Dram) : RegsBut [R.DDR_TRAIN, R.DDR_STAT, R.DDR_QUAL k] u { u with ddr := x } := fun _ _ => rfl
  unfold State.trainPause
  dsimp only
  exact (((hdraw.setFld (by simp)).setFld (by simp)).trans (hset _ _)).trans (hquality _)

end

/-! ### The registers of the domains outlive the loss of one (R416) -/

/-- The domains that are up, the supplies that failed, and the flags of the power block. -/
def supplyRegs : List Nat := [R.PWR_DOM, R.PWR_PGERR, R.PWR_ISR]

section
variable {a : Nat} (h : a ∈ supplyRegs) (s : State)
include h

theorem supply_below : Below a := ⟨by revert a; decide, by revert a; decide⟩

theorem supply_low : a < 0x200000 := by revert a; decide

theorem supply_ne {b : Nat} (hb : 0x20000 ≤ b) : a ≠ b := by
  have hlow : a < 0x20000 := by revert a; decide
  omega

/-- None of the words of a list that begins beyond the power block. -/
theorem supply_notMem {l : List Nat} (hl : ∀ b ∈ l, 0x20000 ≤ b) : a ∉ l := fun hm => supply_ne h (hl a hm) rfl

theorem reg_seqLost_supply (forced : Bool) : (s.seqLost forced).reg a = s.reg a := by
  have hlayer (u : State) : (if u.layerArmed then (u.namedReset 3 true).resetSeq keepRws else u).reg a = u.reg a := by
    split
    · rw [reg_resetSeq_outside _ (Or.inl (by have := (supply_below h).low; omega)), reg_namedReset_below (supply_below h)]
    · rfl
  have hforced (u : State) (f : Group → Group) : ({ (u.libsGone.modGrp f).loopsLost with chan := [], xbar := [] } : State).reg a = u.reg a := by
    have hset (v : State) : ({ v.loopsLost with chan := [], xbar := [] } : State).reg a = v.reg a := rfl
    rw [hset, State.modGrp_reg]
    exact each_unchanged (fun v : State => v.reg a) (fun n _ v => State.reg_setFlag_ne _ _ _ _ _ (supply_ne h (by unfold R.SEQ_LIB_STAT; omega))) u
  have hlib (u : State) (l : Tab Chan) : ({ u with chan := l } : State).reg a = u.reg a := rfl
  unfold State.seqLost
  dsimp only
  split
  · exact (hforced _ _).trans (hlayer s)
  · exact (hlib _ _).trans (hlayer s)

theorem reg_srvLost_supply : s.srvLost.reg a = s.reg a := by
  have hset (u : State) (x : Servo) : ({ u with srvAx := [], srvCh := [], srv := x } : State).reg a = u.reg a := rfl
  have hoff (u : State) (n : Nat) : (u.axisOff n).reg a = u.reg a := by
    have hstat : a ≠ R.SRV_AX_STAT n := supply_ne h (by unfold R.SRV_AX_STAT; omega)
    unfold State.axisOff
    dsimp only
    rw [State.reg_setReg_ne _ _ _ _ (supply_ne h (by unfold R.SRV_AX_CMD; omega)), State.reg_setFlag_ne _ _ _ _ _ hstat,
      State.reg_setFld_ne _ _ _ _ _ hstat, State.modAx_reg]
  unfold State.srvLost
  dsimp only
  rw [hset, State.reg_setFlag_ne _ _ _ _ _ (supply_ne h (by decide)), each_unchanged (fun v : State => v.reg a) (fun n _ v => hoff v n)]

theorem reg_headDropped_supply : s.headDropped.reg a = s.reg a := by
  unfold State.headDropped
  rw [each_unchanged (fun v : State => v.reg a) (fun l _ v => ?_), reg_headLanesDown_low (supply_low h)]
  have hne : a ≠ R.LANE_RXEQ l := supply_ne h (by unfold R.LANE_RXEQ; omega)
  rw [State.reg_setFld_ne _ _ _ _ _ hne, State.reg_setFld_ne _ _ _ _ _ hne]

theorem reg_pciFundamental_supply : s.pciFundamental.reg a = s.reg a := by
  have habort (u : State) : u.dmaAbortAll.reg a = u.reg a :=
    each_unchanged (fun v : State => v.reg a) (fun n _ v => regsBut_dmaAbort v n a
      (supply_notMem h (by simp [R.DMA_CH_STAT, R.DMA_CH_HEAD, R.DMA_ISR]; omega))) u
  have howe (u : State) : u.dmaOwe.reg a = u.reg a := by
    rw [State.reg, (keeps_State_dmaOwe (List.Subset.refl _) (Keeps.refl _ u)).part .regs rfl, State.reg]
  have hset (u : State) : ({ u with dma := [], dmaEng := ⟨15, 15, 15⟩ } : State).reg a = u.reg a := rfl
  have hdma (u : State) : (u.resetDma keepRws).reg a = u.reg a := by
    unfold State.resetDma
    dsimp only
    rw [hset, State.reg_resetRegs_outside _ _ (Or.inl (by have := supply_low h; omega)), howe, habort]
  rw [State.pciFundamental, reg_resetPci_low (supply_low h), hdma, reg_linkLost_low (supply_low h)]

theorem reg_ethDropped_supply : s.ethDropped.reg a = s.reg a := by
  refine each_unchanged (fun v : State => v.reg a) (fun e _ v => ?_) s
  unfold State.ethOff
  dsimp only
  rw [regsBut_setLink _ e false a (supply_notMem h (by simp [R.ETH_PT_CFG, R.ETH_PT_STAT, R.ETH_ISR]; omega)), State.modEt_reg,
    State.reg_setFlag_ne _ _ _ _ _ (supply_ne h (by unfold R.ETH_PT_I2CCMD; omega)),
    State.reg_setFlag_ne _ _ _ _ _ (supply_ne h (by unfold R.ETH_PT_CFG; omega))]

theorem reg_ddrDown_supply : s.ddrDown.reg a = s.reg a := by
  have hqueue (u : State) (l : List DramReq) : (l.foldl (fun t r => if r.port = 2 then t.logWrite r.unit r.line else t) u).reg a = u.reg a := by
    refine foldl_unchanged (fun v : State => v.reg a) (fun r _ v => ?_) u
    split
    · exact regsBut_logWrite v _ _ a (supply_notMem h (by simp [R.LSR_LOG_WR, R.SEQ_EVT_WR, R.SEQ_GRP_ISR, R.SEQ_EVT_DROP]; omega))
    · rfl
  have hset (u : State) (x : Dram) : ({ u with ddr := x } : State).reg a = u.reg a := rfl
  have hstat : a ≠ R.DDR_STAT := supply_ne h (by decide)
  have hclear (u : State) : ((u.setFld R.DDR_STAT F.DDR_STAT_TRAINING 0).setFlag R.DDR_STAT F.DDR_STAT_BUSY false).reg a = u.reg a := by
    rw [State.reg_setFlag_ne _ _ _ _ _ hstat, State.reg_setFld_ne _ _ _ _ _ hstat]
  unfold State.ddrDown
  dsimp only
  split
  · rw [State.reg_setFlag_ne _ _ _ _ _ hstat, hclear, hset, hqueue]
  · rw [hclear, hset, hqueue]

theorem reg_camLost_supply : s.camLost.reg a = s.reg a := by
  have hsync (u : State) (p : Nat) : (u.camSync p).reg a = u.reg a :=
    reg_camSync_of_ne (supply_ne h (by unfold R.CAM_PT_EXPSTAT; omega)) (supply_ne h (by unfold R.CAM_PT_I2CCMD; omega))
  have hdrop (u : State) (p : Nat) : (u.dropAll p 5).reg a = u.reg a :=
    foldl_unchanged (fun v : State => v.reg a) (fun f _ v => regsBut_dropFrame v p f.index 5 a
      (supply_notMem h (by simp [R.CAM_PT_DROPC, R.CAM_PT_RWR, R.CAM_PT_STAT, R.CAM_ISR]; omega))) u
  have hoff (u : State) (p : Nat) : (u.camOff p).reg a = u.reg a := by
    unfold State.camOff
    dsimp only
    rw [hsync, State.reg_setFld_ne _ _ _ _ _ (supply_ne h (by unfold R.CAM_PT_STAT; omega)),
      State.reg_setFlag_ne _ _ _ _ _ (supply_ne h (by unfold R.CAM_PT_CFG; omega)), State.modCm_reg]
  have hset (u : State) : u.camCleared.reg a = u.reg a := rfl
  unfold State.camLost
  dsimp only
  rw [hset]
  refine each_unchanged (fun v : State => v.reg a) (fun p _ v => ?_) s
  rw [hsync, hoff, State.modCm_reg]
  split
  · exact hdrop v p
  · rfl

theorem reg_afeLost_supply : s.afeLost.reg a = s.reg a := by
  have hset (u : State) : u.loopsLost.reg a = u.reg a := rfl
  unfold State.afeLost
  dsimp only
  rw [hset]
  refine each_unchanged (fun v : State => v.reg a) (fun n _ v => ?_) s
  split
  · have hfault (u : State) : (u.runFault n 0x29).reg a = u.reg a :=
      (RegsBut.refl (chanRegs n) u).fault (List.Subset.refl _) a (supply_below h).notMem_chanRegs
    rw [hfault]
    exact regsBut_laserCond v n 5 false a (supply_notMem h (by
      simp [R.LSR_CH_STAT, R.LSR_CH_EVENTS, R.LSR_CH_EVENTS2, R.LSR_ISR, R.SEQ_EVT_WR, R.SEQ_GRP_ISR, R.SEQ_EVT_DROP]
      omega))
  · rfl

theorem reg_lgtLost_supply : s.lgtLost.reg a = s.reg a := by
  unfold State.lgtLost
  rw [each_unchanged (fun v : State => v.reg a) (fun k _ v => State.reg_setFlag_ne _ _ _ _ _ (supply_ne h (by unfold R.LGT_STB_CFG; omega))),
    reg_lightOff_low (supply_low h) _ (by revert a; decide)]

theorem reg_motLost_supply : s.motLost.reg a = s.reg a := by
  have hfbk (u : State) (keep : Access → Bool) : (u.resetFbk keep).reg a = u.reg a :=
    State.reg_resetRegs_outside u keep (Or.inl (by have := supply_low h; omega))
  have hset (u : State) : ({ u with mot := [] } : State).reg a = u.reg a := rfl
  have haxis (u : State) (n : Nat) : ((((u.axisOffNow n).setFlag (R.MOT_AX_STAT n) F.MOT_AX_STAT_HOMED false).setReg (R.MOT_AX_HLATCH n)
      0).setReg (R.MOT_AX_POS n) 0).reg a = u.reg a := by
    rw [State.reg_setReg_ne _ _ _ _ (supply_ne h (by unfold R.MOT_AX_POS; omega)),
      State.reg_setReg_ne _ _ _ _ (supply_ne h (by unfold R.MOT_AX_HLATCH; omega)),
      State.reg_setFlag_ne _ _ _ _ _ (supply_ne h (by unfold R.MOT_AX_STAT; omega)),
      regsBut_axisOffNow u n a (supply_notMem h (by simp [R.MOT_AX_VEL, R.MOT_AX_STAT]; omega))]
  unfold State.motLost
  dsimp only
  rw [each_unchanged (fun v : State => v.reg a) (fun i _ v => State.reg_setReg_ne _ _ _ _ (supply_ne h (by unfold R.FBK_COUNT; omega))), hfbk, hset,
    each_unchanged (fun v : State => v.reg a) (fun n _ v => haxis v n)]

theorem reg_contentsLost_supply (d : Nat) (forced : Bool) : (s.contentsLost d forced).reg a = s.reg a := by
  have hmgmt (u : State) (b : Boot) : ({ u with l2 := [], boot := b } : State).reg a = u.reg a := rfl
  unfold State.contentsLost
  split
  · exact (State.reg_setFld_ne _ _ _ _ _ (supply_ne h (by decide))).trans (hmgmt s _)
  · exact reg_seqLost_supply h s forced
  · exact reg_srvLost_supply h s
  · exact reg_headDropped_supply h s
  · rw [reg_holdDomains_low (supply_low h), reg_portsDown_low (supply_low h)]
  · rw [reg_ethDropped_supply h, reg_pciFundamental_supply h]
  · exact reg_ddrDown_supply h s
  · exact reg_camLost_supply h s
  · exact reg_afeLost_supply h s
  · exact reg_lgtLost_supply h s
  · exact reg_motLost_supply h s

theorem reg_calDropped_supply (d : Nat) : (s.calDropped d).reg a = s.reg a := by
  refine each_unchanged (fun v : State => v.reg a) (fun g _ v => ?_) s
  split
  · exact regsBut_calEnd v g 4 a (supply_notMem h (by simp [R.CAL_G_STAT, R.CAL_ISR]; omega))
  · rfl

theorem reg_intgLost_supply (l : List Nat) : (s.intgLost l).reg a = s.reg a := by
  have hset (u : State) (x : Integ) : ({ u with intg := x } : State).reg a = u.reg a := rfl
  have htrack (u : State) (c : Nat) : (u.setTrackers c []).reg a = u.reg a := rfl
  unfold State.intgLost
  dsimp only
  rw [each_unchanged (fun v : State => v.reg a) (fun c _ v => ?_), hset]
  rw [each_unchanged (fun v : State => v.reg a) (fun e _ v => State.reg_setReg_ne _ _ _ _ (supply_ne h (by unfold R.INTG_REMAP; omega))), htrack]

theorem reg_bistAtPowerUp_supply (d failed : Nat) : (s.bistAtPowerUp d failed).reg a = s.reg a := by
  unfold State.bistAtPowerUp
  split
  · rfl
  · exact regsBut_bistResult s _ a (by revert a; decide)

theorem reg_lanesStart_supply (d : Nat) : (s.lanesStart d).reg a = s.reg a :=
  each_unchanged (fun v : State => v.reg a) (fun l _ v => regsBut_startLane v l a (supply_notMem h (by simp [R.LANE_STAT]; omega))) s

theorem reg_contentsBack_supply (d : Nat) : (s.contentsBack d).reg a = s.reg a := by
  have hboot (u : State) (b : Boot) : ({ u with boot := b } : State).reg a = u.reg a := rfl
  have hstat : a ≠ R.DDR_STAT := supply_ne h (by decide)
  have hddr : s.ddrBack.reg a = s.reg a := by
    unfold State.ddrBack
    split
    · rw [State.initStart, State.reg_setFlag_ne _ _ _ _ _ hstat, State.reg_setFlag_ne _ _ _ _ _ hstat]
    · split
      · rw [each_unchanged (fun v : State => v.reg a) (fun k _ v => regsBut_trainPause v k a
          (supply_notMem h (by simp [R.DDR_TRAIN, R.DDR_STAT, R.DDR_QUAL]; omega))), State.reg_setFlag_ne _ _ _ _ _ hstat]
      · rfl
  unfold State.contentsBack
  split
  · exact hboot s _
  · exact reg_lanesStart_supply h s _
  · exact reg_lanesStart_supply h s _
  · exact hddr
  · rfl

theorem reg_powerRecord_supply (kind state doms clients : Nat) : (s.powerRecord kind state doms clients).reg a = s.reg a :=
  reg_post_below (supply_below h) s _ _ _ _

end

/-! ### The end of a transition (R423, R424) -/

section
variable (s : State)

/-- The state is reached, before its effect on the DRAM supply. -/
def State.targetReached (s : State) (x : Nat) : State :=
  let held := domainMask s.up
  let s := { s with pwr := { s.pwr with target := none, timedOut := false } }
  let s := s.setFld R.PWR_STATE F.PWR_STATE_CUR x
  let s := (s.setFlag R.PWR_STATE F.PWR_STATE_BUSY false).setFld R.PWR_STATE F.PWR_STATE_PEND 0
  let s := s.setFlag R.PWR_STATE F.PWR_STATE_HELD (decide (2 ≤ x) && decide (held ≠ 0))
  { s with pwr := { s.pwr with plls := s.pllsUsed } }

/-- Deep Sleep and Off take the DRAM supply away. -/
def State.unsupplied (s : State) : State := { s.dramSupplyOff.libsGone with pwr := { s.pwr with pwren := s.pwr.pwren % 2 ^ 11 } }

/-- The DRAM supply in a state. -/
def State.suppliedFor (s : State) (x : Nat) : State := if 3 ≤ x then s.unsupplied else s

theorem reach_eq (x : Nat) : s.reach x = (((s.targetReached x).suppliedFor x).powerRecord 1 x 0 0).raise R.PWR_ISR F.PWR_ISR_DONE := rfl

theorem pwr_powerRecord (kind state doms clients : Nat) : (s.powerRecord kind state doms clients).pwr = s.pwr :=
  (keeps_State_powerRecord (List.Subset.refl _) _ _ _ _ (Keeps.refl _ s)).part .pwr rfl

/-- The levels of the supplies and the raises under way. -/
structure SameSupplies (s t : State) : Prop where
  pwren : t.pwr.pwren = s.pwr.pwren
  pgood : t.pwr.pgood = s.pwr.pgood
  raising : t.pwr.raising = s.pwr.raising

variable {s} {t u : State}

theorem SameSupplies.trans (h : SameSupplies s t) (k : SameSupplies t u) : SameSupplies s u :=
  ⟨k.pwren.trans h.pwren, k.pgood.trans h.pgood, k.raising.trans h.raising⟩

theorem SameSupplies.of_pwr (h : t.pwr = s.pwr) : SameSupplies s t := by constructor <;> rw [h]

/-- No supply comes up: an enable goes high nowhere, PGOOD and the raises stay. -/
structure NoSupplyUp (s t : State) : Prop where
  pwren : ∀ k, bitAt t.pwr.pwren k = true → bitAt s.pwr.pwren k = true
  pwrenLow : ∀ k < 11, bitAt t.pwr.pwren k = bitAt s.pwr.pwren k
  pgood : t.pwr.pgood = s.pwr.pgood
  raising : t.pwr.raising = s.pwr.raising

theorem SameSupplies.noSupplyUp (h : SameSupplies s t) : NoSupplyUp s t where
  pwren k hk := h.pwren ▸ hk
  pwrenLow k _ := by rw [h.pwren]
  pgood := h.pgood
  raising := h.raising

theorem noSupplyUp_unsupplied (s : State) : NoSupplyUp s s.unsupplied where
  pwren k hk := by
    rw [bitAt_eq_testBit] at hk ⊢
    exact (Bool.and_eq_true_iff.mp ((Nat.testBit_mod_two_pow _ 11 k).symm.trans hk)).2
  pwrenLow k hk := by
    have hpwren : s.unsupplied.pwr.pwren = s.pwr.pwren % 2 ^ 11 := rfl
    rw [hpwren, bitAt_eq_testBit, bitAt_eq_testBit, Nat.testBit_mod_two_pow, decide_eq_true hk, Bool.true_and]
  pgood := rfl
  raising := rfl

theorem NoSupplyUp.trans (h : NoSupplyUp s t) (k : NoSupplyUp t u) : NoSupplyUp s u where
  pwren i hi := h.pwren i (k.pwren i hi)
  pwrenLow i hi := (k.pwrenLow i hi).trans (h.pwrenLow i hi)
  pgood := k.pgood.trans h.pgood
  raising := k.raising.trans h.raising

theorem noSupplyUp_reach (s : State) (x : Nat) : NoSupplyUp s (s.reach x) := by
  have hreached : SameSupplies s (s.targetReached x) := ⟨rfl, rfl, rfl⟩
  have hsupply : NoSupplyUp (s.targetReached x) ((s.targetReached x).suppliedFor x) := by
    unfold State.suppliedFor
    split
    · exact noSupplyUp_unsupplied _
    · exact SameSupplies.noSupplyUp ⟨rfl, rfl, rfl⟩
  refine (hreached.noSupplyUp.trans hsupply).trans (SameSupplies.noSupplyUp (.of_pwr ?_))
  rw [reach_eq, State.raise_pwr, pwr_powerRecord]

theorem noSupplyUp_settlePower (s : State) : NoSupplyUp s s.settlePower := by
  have hsame : NoSupplyUp s s := SameSupplies.noSupplyUp ⟨rfl, rfl, rfl⟩
  unfold State.settlePower
  split
  · split
    · exact noSupplyUp_reach s _
    · exact hsame
  · exact hsame

/-- The registers that tell of the supplies are as they were, and a failure that is flagged stays flagged. -/
structure SuppliesTold (s t : State) : Prop where
  dom : t.reg R.PWR_DOM = s.reg R.PWR_DOM
  failed : t.reg R.PWR_PGERR = s.reg R.PWR_PGERR
  flagged : s.flag R.PWR_ISR F.PWR_ISR_PGERR = true → t.flag R.PWR_ISR F.PWR_ISR_PGERR = true

theorem SuppliesTold.trans (h : SuppliesTold s t) (k : SuppliesTold t u) : SuppliesTold s u :=
  ⟨k.dom.trans h.dom, k.failed.trans h.failed, fun hs => k.flagged (h.flagged hs)⟩

theorem SuppliesTold.of_reg (h : ∀ a ∈ supplyRegs, t.reg a = s.reg a) : SuppliesTold s t where
  dom := h _ (by decide)
  failed := h _ (by decide)
  flagged hs := (flag_of_reg (h _ (by decide)) _).trans hs

/-- A flag is one bit of its register. -/
theorem flag_eq_bit (s : State) (a b : Nat) : s.flag a ⟨b, 1⟩ = s.bit a b := by
  unfold State.flag State.fld field State.bit bitAt
  rw [decide_eq_decide]
  exact Nat.mod_two_ne_zero

theorem suppliesTold_raise_done (s : State) : SuppliesTold s (s.raise R.PWR_ISR F.PWR_ISR_DONE) where
  dom := State.reg_raise_ne _ _ _ _ (by decide)
  failed := State.reg_raise_ne _ _ _ _ (by decide)
  flagged hs := (flag_eq_bit _ _ _).trans (bit_raise_mono ((flag_eq_bit s R.PWR_ISR 2).symm.trans hs) R.PWR_ISR _)

theorem reg_dramSupplyOff (s : State) {a : Nat} (h : a ≠ R.DDR_STAT) : s.dramSupplyOff.reg a = s.reg a := by
  have hset (m : Tab Byte) (q : Dram) : ({ s with dram := m, ddr := q } : State).reg a = s.reg a := rfl
  unfold State.dramSupplyOff
  dsimp only
  rw [State.reg_setFlag_ne _ _ _ _ _ h, State.reg_setFlag_ne _ _ _ _ _ h, State.reg_setFlag_ne _ _ _ _ _ h, hset]

theorem suppliesTold_reach (s : State) (x : Nat) : SuppliesTold s (s.reach x) := by
  have hpwr (u : State) (p : Power) (a : Nat) : ({ u with pwr := p } : State).reg a = u.reg a := rfl
  have hreached : SuppliesTold s (s.targetReached x) := .of_reg fun a ha => by
    have hne : a ≠ R.PWR_STATE := by revert a; decide
    unfold State.targetReached
    dsimp only
    rw [hpwr, State.reg_setFlag_ne _ _ _ _ _ hne, State.reg_setFld_ne _ _ _ _ _ hne, State.reg_setFlag_ne _ _ _ _ _ hne,
      State.reg_setFld_ne _ _ _ _ _ hne, hpwr]
  have hsupply (u : State) : SuppliesTold u (u.suppliedFor x) := .of_reg fun a ha => by
    unfold State.suppliedFor State.unsupplied
    split
    · rw [hpwr]
      exact (each_unchanged (fun v : State => v.reg a) (fun n _ v => State.reg_setFlag_ne _ _ _ _ _ (supply_ne ha (by unfold R.SEQ_LIB_STAT; omega)))
        u.dramSupplyOff).trans (reg_dramSupplyOff u (supply_ne ha (by decide)))
    · rfl
  rw [reach_eq]
  exact ((hreached.trans (hsupply _)).trans (.of_reg fun a ha => reg_powerRecord_supply ha _ _ _ _ _)).trans (suppliesTold_raise_done _)

theorem suppliesTold_settlePower (s : State) : SuppliesTold s s.settlePower := by
  unfold State.settlePower
  split
  · split
    · exact suppliesTold_reach s _
    · exact .of_reg fun _ _ => rfl
  · exact .of_reg fun _ _ => rfl

end

/-! ### A supply goes down (R416, R418, R419) -/

section
variable (s : State)

/-- The supply of one domain is off and the others' are no higher than they were. -/
structure Unpowered (s : State) (d : Nat) (t : State) : Prop where
  pwren : ∀ k, bitAt t.pwr.pwren k = true → bitAt s.pwr.pwren k = true ∧ k ≠ d
  pgood : ∀ k, bitAt t.pwr.pgood k = true → bitAt s.pwr.pgood k = true ∧ k ≠ d
  raising : t.raising d = (0, 0)

theorem Unpowered.pwrenOff {s t : State} {d : Nat} (h : Unpowered s d t) : bitAt t.pwr.pwren d = false :=
  Bool.eq_false_iff.mpr fun hd => (h.pwren d hd).2 rfl

theorem Unpowered.pgoodOff {s t : State} {d : Nat} (h : Unpowered s d t) : bitAt t.pwr.pgood d = false :=
  Bool.eq_false_iff.mpr fun hd => (h.pgood d hd).2 rfl

theorem Unpowered.of_same {s t u : State} {d : Nat} (h : SameSupplies s t) (k : Unpowered t d u) : Unpowered s d u where
  pwren i hi := h.pwren ▸ k.pwren i hi
  pgood i hi := h.pgood ▸ k.pgood i hi
  raising := k.raising

theorem Unpowered.andThen {s t u : State} {d : Nat} (h : Unpowered s d t) (k : NoSupplyUp t u) : Unpowered s d u where
  pwren i hi := h.pwren i (k.pwren i hi)
  pgood i hi := h.pgood i (k.pgood ▸ hi)
  raising := by rw [State.raising, k.raising, ← State.raising, h.raising]

theorem sameSupplies_budFree (b who : Nat) : SameSupplies s (s.budFree b who) := by
  have hsync (u : State) : SameSupplies u (u.budSync b) := .of_pwr ((keeps_State_budSync (List.Subset.refl _) b (Keeps.refl _ u)).part .pwr rfl)
  have hwaiting (u : State) (l : List BudReq) : SameSupplies u (u.setWaiting b l) := ⟨rfl, rfl, rfl⟩
  have hgranted (u : State) : SameSupplies u (u.setGranted b who 0) := ⟨rfl, rfl, rfl⟩
  have hwithdraw : SameSupplies s (s.budWithdraw b who) := by
    unfold State.budWithdraw
    split
    · exact (hwaiting s _).trans (hsync _)
    · exact ⟨rfl, rfl, rfl⟩
  have hhold (u : State) : SameSupplies u (u.budHold b who 0) := by
    unfold State.budHold
    split
    · exact ⟨rfl, rfl, rfl⟩
    · exact (hgranted u).trans (hsync _)
  exact hwithdraw.trans (hhold _)

/-- The levels of a domain's supply with its enable low. -/
def State.levelsLow (s : State) (d : Nat) : State := ((s.setPwren d false).setPgood d false).setRaising d (0, 0)

theorem supplyOff_eq (d : Nat) : s.supplyOff d = ((s.levelsLow d).budFree 0 (raiseReq d)).budFree 1 (raiseReq d) := rfl

theorem bitAt_putBit_false {x k d : Nat} (h : bitAt (putBit x d false) k = true) : bitAt x k = true ∧ k ≠ d := by
  by_cases hk : k = d
  · rw [hk, bitAt_putBit_same] at h
    exact absurd h Bool.false_ne_true
  · exact ⟨bitAt_putBit_ne false hk ▸ h, hk⟩

theorem raising_setRaising_same (d : Nat) (v : Nat × Nat) : (s.setRaising d v).raising d = v := by
  rw [State.raising, State.setRaising, tabGet_tabSet_same]

theorem unpowered_levelsLow (d : Nat) : Unpowered s d (s.levelsLow d) where
  pwren _ hk := bitAt_putBit_false hk
  pgood _ hk := bitAt_putBit_false hk
  raising := raising_setRaising_same _ d _

theorem suppliesTold_budFree (b who : Nat) (hb : b < 4) : SuppliesTold s (s.budFree b who) :=
  .of_reg fun a ha => regsBut_budFree s b who a (by revert a b; decide)

theorem unpowered_supplyOff (d : Nat) : Unpowered s d (s.supplyOff d) := by
  rw [supplyOff_eq]
  exact (unpowered_levelsLow s d).andThen ((sameSupplies_budFree _ _ _).trans (sameSupplies_budFree _ _ _)).noSupplyUp

theorem suppliesTold_supplyOff (d : Nat) : SuppliesTold s (s.supplyOff d) := by
  have hlevels : SuppliesTold s (s.levelsLow d) := .of_reg fun _ _ => rfl
  rw [supplyOff_eq]
  exact hlevels.trans ((suppliesTold_budFree _ _ _ (by decide)).trans (suppliesTold_budFree _ _ _ (by decide)))

theorem sameSupplies_clockStop : SameSupplies s s.clockStop := ⟨rfl, rfl, rfl⟩

theorem suppliesTold_clockStop : SuppliesTold s s.clockStop := .of_reg fun _ _ => rfl

theorem sameSupplies_lapseAll : SameSupplies s s.lapseAll :=
  .of_pwr ((keeps_State_lapseAll (List.Subset.refl _) (Keeps.refl _ s)).part .pwr rfl)

theorem suppliesTold_lapseAll : SuppliesTold s s.lapseAll := .of_reg fun a _ => reg_lapseAll s a

/-! ### A domain drops (R416, R418, R420) -/

theorem sameSupplies_lightOff : SameSupplies s s.lightOff := by
  have hlgt (u : State) (x : Light) : SameSupplies u { u with lgt := x } := ⟨rfl, rfl, rfl⟩
  have hflag (u : State) (a : Nat) (f : Field) (v : Bool) : SameSupplies u (u.setFlag a f v) := .of_pwr (State.setFlag_pwr _ _ _ _)
  have hstrobe (u : State) (k : Nat) : SameSupplies u (u.strobeOff k) :=
    (SameSupplies.of_pwr (State.modSb_pwr u k Strobe.stop)).trans ((sameSupplies_budFree _ _ _).trans (hflag _ _ _ _))
  have hstrobes (u : State) (l : List Nat) : SameSupplies u (u.each l fun k t => t.strobeOff k) := by
    induction l generalizing u with
    | nil => exact ⟨rfl, rfl, rfl⟩
    | cons k l ih => exact (hstrobe u k).trans (ih _)
  unfold State.lightOff
  exact ((hflag s _ _ _).trans ((hflag _ _ _ _).trans ((hlgt _ _).trans (sameSupplies_budFree _ _ _)))).trans (hstrobes _ _)

/-- What a domain loses leaves the levels of the supplies alone. -/
theorem sameSupplies_contentsLost (d : Nat) (forced : Bool) : SameSupplies s (s.contentsLost d forced) := by
  unfold State.contentsLost
  split
  · exact .of_pwr (State.setFld_pwr _ _ _ _)
  · exact .of_pwr ((keeps_State_seqLost (List.Subset.refl _) forced (Keeps.refl _ s)).part .pwr rfl)
  · exact .of_pwr ((keeps_State_srvLost (List.Subset.refl _) (Keeps.refl _ s)).part .pwr rfl)
  · exact .of_pwr ((keeps_State_headDropped (List.Subset.refl _) (Keeps.refl _ s)).part .pwr rfl)
  · exact .of_pwr ((keeps_State_holdDomains (A := [.regs, .port, .lane, .head, .dom, .pci, .out]) (by decide)
      (keeps_State_portsDown (by decide) (Keeps.refl _ s))).part .pwr rfl)
  · exact .of_pwr ((keeps_State_ethDropped (A := [.regs, .dram, .dma, .dmaEng, .pci, .eth, .ddr, .free, .out]) (by decide)
      (keeps_State_pciFundamental (by decide) (Keeps.refl _ s))).part .pwr rfl)
  · exact .of_pwr ((keeps_State_ddrDown (List.Subset.refl _) (Keeps.refl _ s)).part .pwr rfl)
  · exact .of_pwr ((keeps_State_camLost (List.Subset.refl _) (Keeps.refl _ s)).part .pwr rfl)
  · exact .of_pwr ((keeps_State_afeLost (List.Subset.refl _) (Keeps.refl _ s)).part .pwr rfl)
  · refine (sameSupplies_lightOff s).trans (.of_pwr ?_)
    exact each_unchanged State.pwr (fun k _ u => State.setFlag_pwr _ _ _ _) _
  · exact .of_pwr ((keeps_State_motLost (List.Subset.refl _) (Keeps.refl _ s)).part .pwr rfl)

/-- A domain's contents, its calibration and the words it does not retain are gone. -/
def State.emptied (s : State) (d : Nat) (forced : Bool) : State := ((s.contentsLost d forced).calDropped d).intgLost (classesLost d)

theorem sameSupplies_emptied (d : Nat) (forced : Bool) : SameSupplies s (s.emptied d forced) :=
  (sameSupplies_contentsLost s d forced).trans (.of_pwr
    ((keeps_State_intgLost (A := [.regs, .pci, .intg, .out]) (by decide) _ (keeps_State_calDropped (by decide) d (Keeps.refl _ _))).part .pwr rfl))

theorem suppliesTold_emptied (d : Nat) (forced : Bool) : SuppliesTold s (s.emptied d forced) :=
  .of_reg fun a ha => by rw [State.emptied, reg_intgLost_supply ha, reg_calDropped_supply ha, reg_contentsLost_supply ha]

/-- A domain is noted up or down. -/
def State.markUp (s : State) (d : Nat) (b : Bool) : State := s.setFld R.PWR_DOM F.PWR_DOM_UP (putBit (s.fld R.PWR_DOM F.PWR_DOM_UP) d b)

theorem up_eq (d : Nat) : s.up d = (decide (d < 11) && (s.reg R.PWR_DOM).toNat.testBit d) := by
  unfold State.up State.fld field
  rw [bitAt_eq_testBit, F.PWR_DOM_UP, Nat.shiftRight_zero, Nat.testBit_mod_two_pow]

theorem up_markUp (d k : Nat) (b : Bool) (hd : d < 11) : (s.markUp d b).up k = if k = d then b else s.up k := by
  have hfld : (s.markUp d b).fld R.PWR_DOM F.PWR_DOM_UP = putBit (s.fld R.PWR_DOM F.PWR_DOM_UP) d b % 2 ^ 11 :=
    State.fld_setFld_same _ _ _ _ (by decide)
  have hup : s.up k = (s.fld R.PWR_DOM F.PWR_DOM_UP).testBit k := bitAt_eq_testBit _ _
  rw [State.up, hfld, bitAt_eq_testBit, Nat.testBit_mod_two_pow, testBit_putBit, ← hup]
  by_cases hk : k = d
  · rw [if_pos hk, decide_eq_true (hk ▸ hd), Bool.true_and]
  · rw [if_neg hk, up_eq, ← Bool.and_assoc, Bool.and_self]

theorem dropNow_eq (d : Nat) (forced : Bool) :
    s.dropNow d forced = ((((s.emptied d forced).markUp d false).supplyOff d).clockStop.lapseAll).settlePower := rfl

/-- One domain is down with its supply, the others stand as they stood, and a failure that was told is told. -/
structure Down (s : State) (d : Nat) (t : State) : Prop where
  off : t.up d = false
  others : ∀ k, k ≠ d → t.up k = s.up k
  supply : Unpowered s d t
  failed : t.reg R.PWR_PGERR = s.reg R.PWR_PGERR
  flagged : s.flag R.PWR_ISR F.PWR_ISR_PGERR = true → t.flag R.PWR_ISR F.PWR_ISR_PGERR = true

theorem down_dropNow {d : Nat} (hd : d < 11) (forced : Bool) : Down s d (s.dropNow d forced) := by
  have htold : SuppliesTold s (s.emptied d forced) := suppliesTold_emptied s d forced
  have hmark : SameSupplies (s.emptied d forced) ((s.emptied d forced).markUp d false) := .of_pwr (State.setFld_pwr _ _ _ _)
  have hrest (u : State) : SuppliesTold u ((u.supplyOff d).clockStop.lapseAll.settlePower) :=
    (suppliesTold_supplyOff u d).trans ((suppliesTold_clockStop _).trans ((suppliesTold_lapseAll _).trans (suppliesTold_settlePower _)))
  have hsupply (u : State) : Unpowered u d ((u.supplyOff d).clockStop.lapseAll.settlePower) :=
    (unpowered_supplyOff u d).andThen (((sameSupplies_clockStop _).trans (sameSupplies_lapseAll _)).noSupplyUp.trans (noSupplyUp_settlePower _))
  have hup (k : Nat) : (s.dropNow d forced).up k = if k = d then false else s.up k := by
    rw [dropNow_eq, up_of_reg _ (hrest _).dom, up_markUp _ _ _ _ hd, up_of_reg _ htold.dom]
  have hother {a : Nat} (ha : a ≠ R.PWR_DOM) (u : State) : (u.markUp d false).reg a = u.reg a := State.reg_setFld_ne _ _ _ _ _ ha
  refine ⟨by rw [hup, if_pos rfl], fun k hk => by rw [hup, if_neg hk], ?_, ?_, fun hs => ?_⟩
  · exact Unpowered.of_same ((sameSupplies_emptied s d forced).trans hmark) (hsupply _)
  · rw [dropNow_eq]
    exact (hrest _).failed.trans ((hother (by decide) _).trans htold.failed)
  · rw [dropNow_eq]
    exact (hrest _).flagged ((flag_of_reg (hother (by decide) _) _).trans (htold.flagged hs))

theorem down_switchedOff {d : Nat} (hup : s.up d = false) : Down s d ((s.supplyOff d).clockStop.settlePower) := by
  have hrest : SuppliesTold s ((s.supplyOff d).clockStop.settlePower) :=
    (suppliesTold_supplyOff s d).trans ((suppliesTold_clockStop _).trans (suppliesTold_settlePower _))
  exact ⟨(up_of_reg _ hrest.dom d).trans hup, fun k _ => up_of_reg _ hrest.dom k,
    (unpowered_supplyOff s d).andThen ((sameSupplies_clockStop _).noSupplyUp.trans (noSupplyUp_settlePower _)), hrest.failed, hrest.flagged⟩

/-- A record of the power block comes after. -/
theorem Down.powerRecord {s t : State} {d : Nat} (h : Down s d t) (kind state doms clients : Nat) :
    Down s d (t.powerRecord kind state doms clients) := by
  have hrec : SuppliesTold t (t.powerRecord kind state doms clients) := .of_reg fun a ha => reg_powerRecord_supply ha t _ _ _ _
  exact ⟨(up_of_reg _ hrec.dom d).trans h.off, fun k hk => (up_of_reg _ hrec.dom k).trans (h.others k hk),
    h.supply.andThen (SameSupplies.of_pwr (pwr_powerRecord t _ _ _ _)).noSupplyUp, hrec.failed.trans h.failed,
    fun hs => hrec.flagged (h.flagged hs)⟩

theorem exec_domainDrop {d : Nat} (hd : d < 11) (hdue : s.dropDue d = true) (hfirst : (before d dropOrder).any s.dropDue = false) :
    ∃ t, exec (.domainDrop d) s = .next t ∧ Down s d t := by
  have hx : exec (.domainDrop d) s = onUnit d 11 11 s fun s =>
      if s.dropDue d then
        if (before d dropOrder).any s.dropDue then s
        else
          let forced := bitAt (s.fld R.PWR_FORCE F.PWR_FORCE_DOM) d
          let s := s.dropNow d forced
          if forced then s.powerRecord 4 (s.fld R.PWR_STATE F.PWR_STATE_CUR) (2 ^ d) 0 else s
      else if !s.wanted d && decide ((s.raising d).1 = 1) then
        ((s.setRaising d (0, 0)).budFree 0 (raiseReq d)).budFree 1 (raiseReq d)
      else s := rfl
  rw [hx, onUnit_next hd (by decide), if_pos hdue, if_neg (by rw [hfirst]; decide)]
  refine ⟨_, rfl, ?_⟩
  dsimp only
  split
  · exact (down_dropNow s hd _).powerRecord _ _ _ _
  · exact down_dropNow s hd _

end

/-! ### A supply fails (R419, R427) -/

section
variable (s : State)

/-- The failure of a supply is noted in PWR_PGERR and recorded. -/
def State.failureNoted (s : State) (d : Nat) : State :=
  let s := s.setFld R.PWR_PGERR F.PWR_PGERR_FAIL (putBit (s.fld R.PWR_PGERR F.PWR_PGERR_FAIL) d true)
  s.powerRecord 3 (s.fld R.PWR_STATE F.PWR_STATE_CUR) (2 ^ d) 0

/-- The failure of a supply is told. -/
def State.failureTold (s : State) (d : Nat) : State := (s.failureNoted d).raise R.PWR_ISR F.PWR_ISR_PGERR

/-- The DRAM supply's enable is low. -/
def State.dramUnpowered (s : State) : State := (s.setPwren 11 false).setPgood 11 false

theorem pgFail_domain {d : Nat} (hd : d < 11) : s.pgFail d =
    if (s.failureTold d).up d then (s.failureTold d).dropNow d true else ((s.failureTold d).supplyOff d).clockStop.settlePower :=
  if_neg (Nat.ne_of_lt hd)

theorem pgFail_dram : s.pgFail 11 =
    if (s.failureTold 11).dramUnpowered.up dDDR then (s.failureTold 11).dramUnpowered.dropNow dDDR true
    else (s.failureTold 11).dramUnpowered := rfl

theorem sameSupplies_failureTold (d : Nat) : SameSupplies s (s.failureTold d) := by
  refine .of_pwr ?_
  rw [State.failureTold, State.raise_pwr]
  exact pwr_powerRecord _ _ _ _ _

theorem reg_failureNoted {a : Nat} (ha : a ∈ supplyRegs) (d : Nat) : (s.failureNoted d).reg a =
    (s.setFld R.PWR_PGERR F.PWR_PGERR_FAIL (putBit (s.fld R.PWR_PGERR F.PWR_PGERR_FAIL) d true)).reg a :=
  reg_powerRecord_supply ha _ _ _ _ _

theorem dom_failureTold (d : Nat) : (s.failureTold d).reg R.PWR_DOM = s.reg R.PWR_DOM := by
  rw [State.failureTold, State.reg_raise_ne _ _ _ _ (by decide), reg_failureNoted s (by decide), State.reg_setFld_ne _ _ _ _ _ (by decide)]

theorem fail_failureTold {d : Nat} (hd : d < 12) : bitAt ((s.failureTold d).fld R.PWR_PGERR F.PWR_PGERR_FAIL) d = true := by
  have hreg : (s.failureTold d).reg R.PWR_PGERR =
      (s.setFld R.PWR_PGERR F.PWR_PGERR_FAIL (putBit (s.fld R.PWR_PGERR F.PWR_PGERR_FAIL) d true)).reg R.PWR_PGERR := by
    rw [State.failureTold, State.reg_raise_ne _ _ _ _ (by decide), reg_failureNoted s (by decide)]
  have hfld : (s.failureTold d).fld R.PWR_PGERR F.PWR_PGERR_FAIL = putBit (s.fld R.PWR_PGERR F.PWR_PGERR_FAIL) d true % 2 ^ 12 :=
    (fld_of_reg hreg _).trans (State.fld_setFld_same _ _ _ _ (by decide))
  rw [hfld, bitAt_eq_testBit, Nat.testBit_mod_two_pow, decide_eq_true hd, testBit_putBit, if_pos rfl]
  rfl

theorem isr_failureTold (d : Nat) : (s.failureTold d).flag R.PWR_ISR F.PWR_ISR_PGERR = true :=
  State.flag_raise_same _ _ _ (by decide) (by decide)

/-- A domain's supply is latched off: down, with the failure told. -/
structure LatchedOff (d : Nat) (t : State) : Prop where
  off : t.up d = false
  pwren : bitAt t.pwr.pwren d = false
  pgood : bitAt t.pwr.pgood d = false
  raising : t.raising d = (0, 0)
  failed : bitAt (t.fld R.PWR_PGERR F.PWR_PGERR_FAIL) d = true
  flagged : t.flag R.PWR_ISR F.PWR_ISR_PGERR = true

theorem latchedOff_pgFail {d : Nat} (hd : d < 11) : LatchedOff d (s.pgFail d) := by
  have hdown : Down (s.failureTold d) d (s.pgFail d) := by
    rw [pgFail_domain s hd]
    split
    · exact down_dropNow _ hd true
    next hup => exact down_switchedOff _ (Bool.eq_false_iff.mpr hup)
  exact ⟨hdown.off, hdown.supply.pwrenOff, hdown.supply.pgoodOff, hdown.supply.raising,
    (congrArg (bitAt · d) (fld_of_reg hdown.failed _)).trans (fail_failureTold s (by omega)), hdown.flagged (isr_failureTold s d)⟩

/-- The DRAM supply has failed: its enable is low and the DDR domain down, with the failure told. -/
theorem pgFail_dram_effect : bitAt (s.pgFail 11).pwr.pwren 11 = false ∧ bitAt (s.pgFail 11).pwr.pgood 11 = false ∧ (s.pgFail 11).up dDDR = false ∧
    bitAt ((s.pgFail 11).fld R.PWR_PGERR F.PWR_PGERR_FAIL) 11 = true ∧ (s.pgFail 11).flag R.PWR_ISR F.PWR_ISR_PGERR = true := by
  have hpwren : bitAt (s.failureTold 11).dramUnpowered.pwr.pwren 11 = false := bitAt_putBit_same _ 11 false
  have hpgood : bitAt (s.failureTold 11).dramUnpowered.pwr.pgood 11 = false := bitAt_putBit_same _ 11 false
  have hreg (a : Nat) : (s.failureTold 11).dramUnpowered.reg a = (s.failureTold 11).reg a := rfl
  have hfail : bitAt ((s.failureTold 11).dramUnpowered.fld R.PWR_PGERR F.PWR_PGERR_FAIL) 11 = true :=
    (congrArg (bitAt · 11) (fld_of_reg (hreg _) _)).trans (fail_failureTold s (by decide))
  have hflag : (s.failureTold 11).dramUnpowered.flag R.PWR_ISR F.PWR_ISR_PGERR = true := (flag_of_reg (hreg _) _).trans (isr_failureTold s 11)
  rw [pgFail_dram]
  split
  · have hdown := down_dropNow (s.failureTold 11).dramUnpowered (d := dDDR) (by decide) true
    exact ⟨Bool.eq_false_iff.mpr fun ht => absurd (hdown.supply.pwren 11 ht).1 (by rw [hpwren]; decide),
      Bool.eq_false_iff.mpr fun ht => absurd (hdown.supply.pgood 11 ht).1 (by rw [hpgood]; decide), hdown.off,
      (congrArg (bitAt · 11) (fld_of_reg hdown.failed _)).trans hfail, hdown.flagged hflag⟩
  next hup => exact ⟨hpwren, hpgood, Bool.eq_false_iff.mpr hup, hfail, hflag⟩

theorem exec_pgoodTimeout {d : Nat} (hd : d < 11) (hwait : (s.raising d).1 = 2) (hdue : (s.raising d).2 + s.pgoodTo ≤ s.time.mt) :
    exec (.pgoodTimeout d) s = .next (s.pgFail d) := by
  have hx : exec (.pgoodTimeout d) s = onUnit d 12 12 s fun s =>
    let waitsGood := if d = 11 then bitAt s.pwr.pwren 11 && !bitAt s.pwr.pgood 11 else decide ((s.raising d).1 = 2)
    if waitsGood && decide ((s.raising d).2 + s.pgoodTo ≤ s.time.mt) then s.pgFail d else s := rfl
  rw [hx, onUnit_next (by omega) (by decide)]
  dsimp only
  rw [if_neg (Nat.ne_of_lt hd), decide_eq_true hwait, decide_eq_true hdue, Bool.and_self, if_pos rfl]

theorem exec_pgoodLoss (d low : Nat) (hd : d < 12) : exec (.pgoodLoss ⟨d, low⟩) s =
    .next (if decide (2000 ≤ low) && (if d = 11 then bitAt s.pwr.pgood 11 else s.up d) then s.pgFail d else s) :=
  onUnit_next hd (by decide)

/-! ### A domain comes up (R400, R418) -/

/-- The supply is good, its raise over, and the self-test done. -/
def State.tested (s : State) (d failed : Nat) : State := ((s.setPgood d true).setRaising d (0, 0)).bistAtPowerUp d failed

theorem exec_domainUp {d : Nat} (hd : d < 11) (failed : Nat) (h2 : (s.raising d).1 = 2) :
    exec (.domainUp ⟨d, failed⟩) s = .next ((((s.tested d failed).markUp d true).contentsBack d).settlePower) := by
  have hx : exec (.domainUp ⟨d, failed⟩) s = onUnit d 12 12 s fun s =>
    if d = 11 then (if bitAt s.pwr.pwren 11 then s.setPgood 11 true else s)
    else if (s.raising d).1 ≠ 2 then s
    else (((s.tested d failed).markUp d true).contentsBack d).settlePower := rfl
  rw [hx, onUnit_next (by omega) (by decide)]
  rw [if_neg (Nat.ne_of_lt hd), if_neg (not_not.mpr h2)]

theorem supplies_tested (d failed : Nat) : SameSupplies ((s.setPgood d true).setRaising d (0, 0)) (s.tested d failed) :=
  .of_pwr ((keeps_State_bistAtPowerUp (List.Subset.refl _) d failed (Keeps.refl _ _)).part .pwr rfl)

theorem sameSupplies_contentsBack (d : Nat) : SameSupplies s (s.contentsBack d) :=
  .of_pwr ((keeps_State_contentsBack (List.Subset.refl _) d (Keeps.refl _ s)).part .pwr rfl)

/-- A domain is up with its supply good, the others stand as they stood. -/
theorem domainUp_effect {d : Nat} (hd : d < 11) (failed : Nat) : ∃ t, t = (((s.tested d failed).markUp d true).contentsBack d).settlePower ∧
    bitAt t.pwr.pgood d = true ∧ t.raising d = (0, 0) ∧ ∀ k, t.up k = if k = d then true else s.up k := by
  refine ⟨_, rfl, ?_⟩
  have htested (a : Nat) (ha : a ∈ supplyRegs) : (s.tested d failed).reg a = s.reg a := reg_bistAtPowerUp_supply ha _ d failed
  have hback : NoSupplyUp (s.tested d failed) (((s.tested d failed).markUp d true).contentsBack d).settlePower :=
    ((SameSupplies.of_pwr (State.setFld_pwr _ _ _ _)).trans (sameSupplies_contentsBack _ d)).noSupplyUp.trans (noSupplyUp_settlePower _)
  have hraising : (s.tested d failed).raising d = (0, 0) := by
    rw [State.raising, (supplies_tested s d failed).raising, ← State.raising, raising_setRaising_same]
  refine ⟨?_, ?_, fun k => ?_⟩
  · rw [hback.pgood, (supplies_tested s d failed).pgood]
    exact bitAt_putBit_same _ d true
  · rw [State.raising, hback.raising, ← State.raising, hraising]
  · rw [up_of_reg _ (suppliesTold_settlePower _).dom, up_of_reg _ (reg_contentsBack_supply (by decide) _ d), up_markUp _ _ _ _ hd,
      up_of_reg _ (htested _ (by decide))]

/-! ### Credits (R428, R429) -/

theorem waits_iff (b who : Nat) : s.waits b who = true ↔ ∃ r ∈ s.waiting b, r.who = who := by
  simp only [State.waits, List.any_eq_true, decide_eq_true_eq]

theorem mem_insertReq (r : BudReq) (l : List BudReq) : r ∈ insertReq r l := by
  induction l with
  | nil => exact List.mem_singleton_self r
  | cons x l ih =>
    unfold insertReq
    split
    · exact List.mem_cons_self
    · exact List.mem_cons_of_mem _ ih

theorem pwr_budRequest (b who : Nat) {n : Nat} (hn : n ≠ 0) : (s.budRequest b who n).pwr =
    (s.setWaiting b (insertReq ⟨who, n, s.time.mt, decide (s.budLimit b < n)⟩ (s.waiting b))).pwr := by
  have hsync (u : State) : (u.budSync b).pwr = u.pwr := (keeps_State_budSync (List.Subset.refl _) b (Keeps.refl _ u)).part .pwr rfl
  unfold State.budRequest
  rw [if_neg hn]
  dsimp only
  split
  · rw [State.raise_pwr, hsync]
  · rw [hsync]

theorem waiting_setWaiting (b c : Nat) (l : List BudReq) : (s.setWaiting b l).waiting c = if c = b then l else s.waiting c := by
  rw [State.waiting, State.setWaiting, tabGet_tabSet, State.waiting]

theorem waiting_budRequest (b c who : Nat) {n : Nat} (hn : n ≠ 0) : (s.budRequest b who n).waiting c =
    if c = b then insertReq ⟨who, n, s.time.mt, decide (s.budLimit b < n)⟩ (s.waiting b) else s.waiting c := by
  rw [State.waiting, pwr_budRequest s b who hn, ← State.waiting, waiting_setWaiting]

theorem waits_budRequest_same (b who : Nat) {n : Nat} (hn : n ≠ 0) : (s.budRequest b who n).waits b who = true := by
  rw [waits_iff, waiting_budRequest s b b who hn, if_pos rfl]
  exact ⟨_, mem_insertReq _ _, rfl⟩

theorem waits_budRequest_ne {b c : Nat} (hc : c ≠ b) (who w : Nat) {n : Nat} (hn : n ≠ 0) : (s.budRequest b who n).waits c w = s.waits c w := by
  rw [State.waits, waiting_budRequest s b c who hn, if_neg hc, ← State.waits]

theorem sameSupplies_budRequest (b who : Nat) {n : Nat} (hn : n ≠ 0) : SameSupplies s (s.budRequest b who n) := by
  constructor <;> rw [pwr_budRequest s b who hn] <;> rfl

theorem dom_budRequest {b : Nat} (hb : b < 4) (who n : Nat) : (s.budRequest b who n).reg R.PWR_DOM = s.reg R.PWR_DOM := by
  have hsync (u : State) : (u.budSync b).reg R.PWR_DOM = u.reg R.PWR_DOM := regsBut_budSync u b _ (by revert b; decide)
  have hwaiting (l : List BudReq) : (s.setWaiting b l).reg R.PWR_DOM = s.reg R.PWR_DOM := rfl
  unfold State.budRequest
  dsimp only
  split
  · rfl
  · split
    · rw [State.reg_raise_ne _ _ _ _ (by decide), hsync, hwaiting]
    · rw [hsync, hwaiting]

/-- A raise asks for its credits of both budgets. -/
def State.creditsAsked (s : State) (d : Nat) : State :=
  let w := R.PWR_DOM_BUD d
  let s := s.setRaising d (1, 0)
  (s.budRequest 0 (raiseReq d) (s.fld w F.PWR_DOM_BUD_CORE)).budRequest 1 (raiseReq d) (s.fld w F.PWR_DOM_BUD_PKG)

theorem exec_domainRaise {d : Nat} (hd : d < 11) (hw : s.wanted d = true) (hup : s.up d = false) : exec (.domainRaise d) s =
    .next (if (s.raising d).1 = 2 then s
      else if (s.raising d).1 = 1 then (if s.waits 0 (raiseReq d) || s.waits 1 (raiseReq d) then s else s.raiseStep d)
      else if (List.range 11).any s.dropDue || (before d raiseOrder).any s.raiseDue then s
      else if (s.creditsAsked d).waits 0 (raiseReq d) || (s.creditsAsked d).waits 1 (raiseReq d) then s.creditsAsked d
        else (s.creditsAsked d).raiseStep d) := by
  have hx : exec (.domainRaise d) s = onUnit d 11 11 s fun s =>
    if !s.wanted d || s.up d then s
    else if (s.raising d).1 = 2 then s
      else if (s.raising d).1 = 1 then (if s.waits 0 (raiseReq d) || s.waits 1 (raiseReq d) then s else s.raiseStep d)
      else if (List.range 11).any s.dropDue || (before d raiseOrder).any s.raiseDue then s
      else if (s.creditsAsked d).waits 0 (raiseReq d) || (s.creditsAsked d).waits 1 (raiseReq d) then s.creditsAsked d
        else (s.creditsAsked d).raiseStep d := rfl
  rw [hx, onUnit_next hd (by decide), hw, hup]
  rfl

/-- Both requests of a raise wait, and its supply is as it was. -/
theorem creditsAsked_effect {d : Nat} (hcore : s.fld (R.PWR_DOM_BUD d) F.PWR_DOM_BUD_CORE ≠ 0) (hpkg : s.fld (R.PWR_DOM_BUD d) F.PWR_DOM_BUD_PKG ≠ 0) :
    (s.creditsAsked d).raising d = (1, 0) ∧ (s.creditsAsked d).waits 0 (raiseReq d) = true ∧ (s.creditsAsked d).waits 1 (raiseReq d) = true ∧
    (∀ k, (s.creditsAsked d).up k = s.up k) ∧ (s.creditsAsked d).pwr.pwren = s.pwr.pwren := by
  have hreg (a : Nat) : (s.setRaising d (1, 0)).reg a = s.reg a := rfl
  have hcore' : (s.setRaising d (1, 0)).fld (R.PWR_DOM_BUD d) F.PWR_DOM_BUD_CORE ≠ 0 := by rwa [fld_of_reg (hreg _)]
  have hpkg' : (s.setRaising d (1, 0)).fld (R.PWR_DOM_BUD d) F.PWR_DOM_BUD_PKG ≠ 0 := by rwa [fld_of_reg (hreg _)]
  have hsame : SameSupplies (s.setRaising d (1, 0)) (s.creditsAsked d) :=
    (sameSupplies_budRequest _ 0 _ hcore').trans (sameSupplies_budRequest _ 1 _ hpkg')
  refine ⟨?_, ?_, ?_, fun k => up_of_reg _ ?_ k, hsame.pwren⟩
  · rw [State.raising, hsame.raising, ← State.raising, raising_setRaising_same]
  · rw [State.creditsAsked, waits_budRequest_ne _ (by decide) _ _ hpkg', waits_budRequest_same _ _ _ hcore']
  · rw [State.creditsAsked, waits_budRequest_same _ _ _ hpkg']
  · rw [State.creditsAsked, dom_budRequest _ (by decide), dom_budRequest _ (by decide), hreg]

/-- A requester gets its credits. -/
def State.creditsGiven (s : State) (b : Nat) (r : BudReq) (rest : List BudReq) : State :=
  let us := (openQuot 5 (s.time.mt - r.at_ : Nat) 8000000).toNat
  let w := R.PWR_BUD_STAT b
  let s := s.setFld w F.PWR_BUD_STAT_MAXWAIT (min 65535 (max us (s.fld w F.PWR_BUD_STAT_MAXWAIT)))
  (s.setWaiting b rest).setGranted b r.who (s.granted b r.who + r.amount)

section
variable {b : Nat} {r : BudReq} {rest : List BudReq} (hnext : nextBudReq (s.waiting b) = some (r, rest)) (hlim : r.amount ≤ s.budLimit b)
  (hfits : s.grantedSum b + r.amount ≤ s.budLimit b)
include hnext hlim hfits

theorem grantNext_of_fits : s.grantNext b = (some r.who, (s.creditsGiven b r rest).budSync b) := by
  unfold State.grantNext
  rw [hnext]
  dsimp only
  rw [if_neg (Nat.not_lt.mpr hlim), if_pos hfits]
  rfl

theorem exec_budgetGrant (hb : b < 4) (h2 : b ≠ 2) : exec (.budgetGrant b) s = .next (((s.creditsGiven b r rest).budSync b).grantee r.who) := by
  have hx : exec (.budgetGrant b) s = onUnit b 4 4 s fun s =>
    if b = 2 then s
    else
      match s.grantNext b with
      | (some who, t) => t.grantee who
      | (none, t) => t := rfl
  rw [hx, onUnit_next hb (by decide), if_neg h2, grantNext_of_fits s hnext hlim hfits]

end

theorem pwr_creditsGiven_synced (b : Nat) (r : BudReq) (rest : List BudReq) :
    ((s.creditsGiven b r rest).budSync b).pwr = (s.creditsGiven b r rest).pwr :=
  (keeps_State_budSync (List.Subset.refl _) b (Keeps.refl _ _)).part .pwr rfl

/-- The requester holds its credits as well, and the others go on waiting. -/
theorem creditsGiven_effect (b : Nat) (r : BudReq) (rest : List BudReq) :
    ((s.creditsGiven b r rest).budSync b).granted b r.who = s.granted b r.who + r.amount ∧ ((s.creditsGiven b r rest).budSync b).waiting b = rest := by
  have hgranted : (s.creditsGiven b r rest).granted b r.who = s.granted b r.who + r.amount := tabGet_tabSet_same _ _ _ _
  have hwaiting : (s.creditsGiven b r rest).waiting b = rest := tabGet_tabSet_same _ _ _ _
  exact ⟨by rw [State.granted, pwr_creditsGiven_synced, ← State.granted, hgranted],
    by rw [State.waiting, pwr_creditsGiven_synced, ← State.waiting, hwaiting]⟩

theorem regsBut_creditsGiven (b : Nat) (r : BudReq) (rest : List BudReq) (hb : b ≠ 3) :
    RegsBut [R.PWR_BUD_USE b, R.PWR_BUD_STAT b] s ((s.creditsGiven b r rest).budSync b) := by
  have hgiven : RegsBut [R.PWR_BUD_USE b, R.PWR_BUD_STAT b] s (s.creditsGiven b r rest) :=
    ((RegsBut.refl _ s).setFld (by simp)).of_regs rfl
  unfold State.budSync
  dsimp only
  rw [if_neg hb]
  exact ((hgiven.setFld (by simp)).setFld (by simp)).setFlag (by simp)

theorem grantee_of_domain {who : Nat} (h : 32 ≤ who) : s.grantee who = s := by
  unfold State.grantee sinkReq
  rw [if_neg (by omega), if_neg (by omega)]

theorem grantee_strobe {k : Nat} (hk : k < 4) : s.grantee (16 + k) = s.setFlag (R.LGT_STB_STAT k) F.LGT_STB_STAT_READY true := by
  unfold State.grantee sinkReq
  rw [if_neg (by omega), if_pos (by omega), Nat.add_sub_cancel_left]

/-! ### Thermal shutdown takes every supply down (R435) -/

/-- Every domain that is up loses its contents. -/
def State.allEmptied (s : State) : State := s.each ((List.range 11).filter fun d => s.up d) fun d t => t.emptied d true

/-- No supply is on and no transition runs. -/
def State.supplyless (s : State) : State :=
  { s with pwr := { s.pwr with pwren := 0, pgood := 0, raising := [], target := none, timedOut := false } }

/-- The state after thermal shutdown's drop, but for the gates' lapse. -/
def State.shutDown (s : State) : State :=
  ((s.allEmptied.setFld R.PWR_DOM F.PWR_DOM_UP 0).supplyless.setFlag R.PWR_STATE F.PWR_STATE_BUSY false).dramSupplyOff

theorem exec_shutdownDomainDrop {t0 : Nat} (hshut : s.hk.shutAt = some t0) (hdue : t0 + ticksU 25000 ≤ s.time.mt) (hon : s.pwr.pwren ≠ 0) :
    exec .shutdownDomainDrop s = .next s.shutDown.lapseAll := by
  have hx : exec .shutdownDomainDrop s = occurs (match s.hk.shutAt with
    | some t => decide (t + ticksU 25000 ≤ s.time.mt) && decide (s.pwr.pwren ≠ 0)
    | none => false) s fun s => s.shutDown.lapseAll := rfl
  rw [hx, hshut]
  exact occurs_next (Bool.and_eq_true_iff.mpr ⟨decide_eq_true hdue, decide_eq_true hon⟩)

theorem shutDown_effect : s.shutDown.lapseAll.fld R.PWR_DOM F.PWR_DOM_UP = 0 ∧ s.shutDown.lapseAll.pwr.pwren = 0 ∧
    s.shutDown.lapseAll.pwr.pgood = 0 ∧ s.shutDown.lapseAll.pwr.target = none ∧ s.shutDown.lapseAll.dram = [] := by
  have hset (u : State) (a : Nat) : u.supplyless.reg a = u.reg a := rfl
  have hdom : s.shutDown.lapseAll.reg R.PWR_DOM = (s.allEmptied.setFld R.PWR_DOM F.PWR_DOM_UP 0).reg R.PWR_DOM := by
    rw [reg_lapseAll, State.shutDown, reg_dramSupplyOff _ (by decide), State.reg_setFlag_ne _ _ _ _ _ (by decide), hset]
  have hdrop (u : State) : u.dramSupplyOff.pwr = u.pwr := (keeps_State_dramSupplyOff (List.Subset.refl _) (Keeps.refl _ u)).part .pwr rfl
  have hempty (u : State) : u.dramSupplyOff.dram = [] := rfl
  have hlapse := keeps_State_lapseAll (List.Subset.refl _) (Keeps.refl _ s.shutDown)
  have hpwr : s.shutDown.lapseAll.pwr = (s.allEmptied.setFld R.PWR_DOM F.PWR_DOM_UP 0).supplyless.pwr := by
    have hsame : s.shutDown.lapseAll.pwr = s.shutDown.pwr := hlapse.part .pwr rfl
    rw [hsame, State.shutDown, hdrop, State.setFlag_pwr]
  have hdram : s.shutDown.lapseAll.dram = s.shutDown.dram := hlapse.part .dram rfl
  refine ⟨(fld_of_reg hdom _).trans (State.fld_setFld_same _ _ _ _ (by decide)), ?_, ?_, ?_, hdram.trans (hempty _)⟩
  all_goals rw [hpwr]; rfl

end

/-! ### The settled statement -/

/-- Settles O51: a drop, a failure and the shutdown write of the power block what they say, because what a domain's clients lose lies
outside it, and the end of a transition takes no supply up. -/
theorem domainsAndBudgets : Obligations.DomainsAndBudgets := by
  unfold Obligations.DomainsAndBudgets
  refine ⟨?drop, ?asks, ?steps, ?up, ?supplyUp, ?timeout, ?loss, ?short, ?dramLoss, ?credits, ?strobe, ?shutdown⟩
  case drop =>
    intro s d hd hdue hfirst
    obtain ⟨t, hx, hdown⟩ := exec_domainDrop s hd hdue hfirst
    exact ⟨t, hx, ((keeps_execDomainDrop (List.Subset.refl _) d (Keeps.refl _ s)).next _ hx).only, hdown.off, hdown.supply.pwrenOff,
      hdown.supply.pgoodOff, hdown.supply.raising, fun k _ hk => hdown.others k hk⟩
  case asks =>
    intro s d hd hw hup hraise hdrops hraises hcore hpkg
    obtain ⟨hstage, hcoreWaits, hpkgWaits, hups, hpwren⟩ := creditsAsked_effect s hcore hpkg
    have hx : exec (.domainRaise d) s = .next (s.creditsAsked d) := by
      rw [exec_domainRaise s hd hw hup, hraise, hdrops, hraises, hcoreWaits]
      rfl
    exact ⟨_, hx, ((keeps_execDomainRaise (List.Subset.refl _) d (Keeps.refl _ s)).next _ hx).only, hstage, hcoreWaits, hpkgWaits,
      (hups d).trans hup, hpwren⟩
  case steps =>
    intro s d since hd hw hup hraise hcore hpkg
    have hx : exec (.domainRaise d) s = .next (s.raiseStep d) := by
      rw [exec_domainRaise s hd hw hup, hraise, hcore, hpkg]
      rfl
    exact ⟨_, hx, ((keeps_execDomainRaise (List.Subset.refl _) d (Keeps.refl _ s)).next _ hx).only, raising_setRaising_same _ d _,
      bitAt_putBit_same _ d true, rfl, fun _ _ => rfl⟩
  case up =>
    intro s d failed hd h2
    obtain ⟨t, ht, hgood, hraising, hups⟩ := domainUp_effect s hd failed
    have hx : exec (.domainUp ⟨d, failed⟩) s = .next t := (exec_domainUp s hd failed h2).trans (congrArg _ ht.symm)
    exact ⟨t, hx, ((keeps_execDomainUp (List.Subset.refl _) _ (Keeps.refl _ s)).next _ hx).only, (hups d).trans (if_pos rfl), hgood, hraising,
      fun k _ hk => (hups k).trans (if_neg hk)⟩
  case supplyUp =>
    intro s failed hon
    have hx : exec (.domainUp ⟨11, failed⟩) s = .next (s.setPgood 11 true) := by
      have hunit : exec (.domainUp ⟨11, failed⟩) s = .next (if bitAt s.pwr.pwren 11 then s.setPgood 11 true else s) := rfl
      rw [hunit, if_pos hon]
    exact ⟨_, hx, ((keeps_execDomainUp (List.Subset.refl _) _ (Keeps.refl _ s)).next _ hx).only, bitAt_putBit_same _ 11 true, fun _ _ => rfl⟩
  case timeout =>
    intro s d hd hwait hdue
    have hx := exec_pgoodTimeout s hd hwait hdue
    obtain ⟨hoff, hpwren, hpgood, hraising, hfailed, hflagged⟩ := latchedOff_pgFail s hd
    exact ⟨_, hx, ((keeps_execPgoodTimeout (List.Subset.refl _) d (Keeps.refl _ s)).next _ hx).only, hoff, hpwren, hpgood, hraising, hfailed, hflagged⟩
  case loss =>
    intro s d low hd hup hlow
    have hx : exec (.pgoodLoss ⟨d, low⟩) s = .next (s.pgFail d) := by
      rw [exec_pgoodLoss s d low (by omega), decide_eq_true hlow, if_neg (Nat.ne_of_lt hd), hup, Bool.and_self, if_pos rfl]
    obtain ⟨hoff, hpwren, hpgood, hraising, hfailed, hflagged⟩ := latchedOff_pgFail s hd
    exact ⟨_, hx, ((keeps_execPgoodLoss (List.Subset.refl _) _ (Keeps.refl _ s)).next _ hx).only, hoff, hpwren, hpgood, hraising, hfailed, hflagged⟩
  case short =>
    intro s d low hd hlow
    have hx : exec (.pgoodLoss ⟨d, low⟩) s = .next s := by
      rw [exec_pgoodLoss s d low hd, decide_eq_false (Nat.not_le.mpr hlow), Bool.false_and]
      rfl
    exact ⟨s, hx, ((keeps_execPgoodLoss (List.Subset.refl _) _ (Keeps.refl _ s)).next _ hx).only, rfl⟩
  case dramLoss =>
    intro s low hgood hlow
    have hx : exec (.pgoodLoss ⟨11, low⟩) s = .next (s.pgFail 11) := by
      rw [exec_pgoodLoss s 11 low (by decide), decide_eq_true hlow, if_pos rfl, hgood, Bool.and_self, if_pos rfl]
    exact ⟨_, hx, ((keeps_execPgoodLoss (List.Subset.refl _) _ (Keeps.refl _ s)).next _ hx).only, pgFail_dram_effect s⟩
  case credits =>
    intro s b r rest hb hwho hnext hlim hfits
    have hx := exec_budgetGrant s hnext hlim hfits (by omega) (by omega)
    rw [grantee_of_domain _ hwho] at hx
    obtain ⟨hgranted, hwaiting⟩ := creditsGiven_effect s b r rest
    exact ⟨_, hx, ((keeps_execBudgetGrant (List.Subset.refl _) b (Keeps.refl _ s)).next _ hx).only, hgranted, hwaiting,
      regsBut_creditsGiven s b r rest (by omega)⟩
  case strobe =>
    intro s k r rest hk hwho hnext hlim hfits
    have hx := exec_budgetGrant s hnext hlim hfits (by decide) (by decide)
    obtain ⟨hgranted, hwaiting⟩ := creditsGiven_effect s 3 r rest
    have hpwr := State.setFlag_pwr ((s.creditsGiven 3 r rest).budSync 3) (R.LGT_STB_STAT k) F.LGT_STB_STAT_READY true
    rw [hwho, grantee_strobe _ hk] at hx
    refine ⟨_, hx, ((keeps_execBudgetGrant (List.Subset.refl _) 3 (Keeps.refl _ s)).next _ hx).only, ?_, ?_, State.flag_setFlag_same _ _ _ _ (by decide) (by decide)⟩
    · rw [State.granted, hpwr, ← State.granted, hgranted]
    · rw [State.waiting, hpwr, ← State.waiting, hwaiting]
  case shutdown =>
    intro s t0 hshut hdue hon
    have hx := exec_shutdownDomainDrop s hshut hdue hon
    exact ⟨_, hx, ((keeps_execShutdownDomainDrop (List.Subset.refl _) (Keeps.refl _ s)).next _ hx).only, shutDown_effect s⟩

end Sys2Proof.Machine
